-- ==== Sys2Proof/Word.lean ====
section
/-! DEFINITION. The machine's word types and their plainest arithmetic. -/

namespace Sys2Proof

/-- A byte. -/
abbrev Byte := BitVec 8
/-- A 16-bit field. -/
abbrev Half := BitVec 16
/-- A parameter word (R9). -/
abbrev Word := BitVec 32
/-- A 64-bit field. -/
abbrev Dword := BitVec 64
/-- A tick count (R32). -/
abbrev Tick := BitVec 48
/-- An Ethernet address. -/
abbrev Mac := BitVec 48
/-- Sparse data by key, in rising order of key: an unlisted key holds the table's default. -/
abbrev Table (α : Type) := List (Nat × α)

end Sys2Proof
end

