-- ==== Sys2Proof/OperandTypes.lean ====
section
/-! DEFINITION. The types of the operands that commands carry, and of the records the state keeps of them. -/

namespace Sys2Proof

/-- A unit of the device: its class code and its instance (R9, R574). -/
structure UnitId where
  cls : Nat
  inst : Nat
  deriving DecidableEq, Repr

/-- The three routes of a Toune message (R476). -/
inductive Route where
  | bootstrap
  | mailbox
  | queue
  deriving DecidableEq, Repr

/-- A Toune request as it reaches acceptance (R474): what its transport says of it, the header fields that
the checks of R478 judge, and the payload bytes.  The opcode is the command's own; the magic, the flags,
the length and the CRC have been judged by the transport that carried it. -/
structure Req where
  route : Route := .mailbox
  /-- Received on HP1 (R499). -/
  hp1 : Bool := false
  /-- Queue pair, 0xFFFF for a bootstrap frame (R499). -/
  qp : Half := 0xFFFF
  /-- Queue of a job, 0xFFFF otherwise (R499). -/
  queue : Half := 0xFFFF
  /-- Source MAC of a bootstrap frame, or the peer address (R499). -/
  source : List Byte := []
  /-- Core cycle of acceptance in the present tick, 0 to 1,349 (R31, R35). -/
  cycle : Nat := 0
  protocol : Byte := 1
  cmdVersion : Half := 1
  session : Word := 0
  sequence : Word := 0
  handle : Word := 0
  status : Half := 0
  reserved : Half := 0
  payload : List Byte := []
  /-- Mailbox slot in which it executes (R430, R434), if its route is not a job. -/
  slot : Option Nat := none
  /-- Position of its job, for the route of a queue. -/
  pos : Word := 0
  /-- Port of its frame, for the bootstrap route. -/
  port : Nat := 128
  /-- What the device's read of the host region that the argument names returns; none when the read fails. -/
  hostData : Option (List Byte) := none
  deriving DecidableEq, Repr

/-- How a unit's rebuild ended (R71, R72): verified or not, the row or address that failed, and for a unit whose
memory was read, what did not survive: the digests of records whose tag failed. -/
structure RebuildResult where
  ok : Bool := true
  failed : Nat := 0
  badRecords : List Nat := []
  deriving DecidableEq, Repr

/-- What Zalua's checks of a tick find (R47): the difference of the East mirror from the FRC, whether both counts of the
island oscillator lie in their windows, and the 24 sensors in 1/16 °C before their offsets. -/
structure TickChecks where
  mirror : Dword := 0
  frcGood : Bool := true
  readings : List Int := []
  deriving DecidableEq, Repr

/-- What an occupancy counter of R521 has seen in a tick: its unit, by instance of PMON and number, the core cycles in which
the occupancy exceeded each threshold, and the highest occupancy. -/
structure OccCount where
  host : Bool := false
  unit : Nat := 0
  above0 : Nat := 0
  above1 : Nat := 0
  peak : Nat := 0
  deriving DecidableEq, Repr

/-- Occurrences in a tick of a catalogue event that happens inside the tick (R523, R524): of the issue queues of a pipeline, of
the execution lanes and the acceptance of a slice, of the pattern checker of a lane (R101), or of a lane's adaptation (R90). -/
inductive CycleCount where
  /-- ISSUE_HOLD of a pipeline. -/
  | issueHold (p : Fin 4) (n : Nat)
  /-- LANE_IDLE of a slice. -/
  | laneIdle (n : Fin 16) (k : Nat)
  /-- ACCEPT_STOPPED of a slice. -/
  | acceptStopped (n : Fin 16) (k : Nat)
  /-- Bit errors that the pattern checker of a lane found (R102). -/
  | prbsErrors (k : Fin 160) (n : Nat)
  /-- What the receiver of a physical lane has adapted to: signal-to-noise ratio, gain, FFE and DFE taps, CDR. -/
  | adapted (k : Fin 160) (snr vga : Byte) (ffe : List Byte) (dfe : BitVec 30) (cdr : Half)
  deriving DecidableEq, Repr

/-- What upsets have done to a copy that is read: an uncorrectable error or an error response, and bytes altered since
the copy was written (R220, R296). -/
structure Machine.ReadUpset where
  ue : Bool := false
  bytes : List (Nat × Byte) := []
  deriving DecidableEq, Repr

/-- An upset of one copy in the tiers of a slice: tier 0 a Hearth way, 1 a Stack slot, 2 a turf slot, 3 the summary of a bucket,
with its index there (R296, R336). -/
structure TierUpset where
  slice : Nat
  tier : Nat
  idx : Nat
  u : Machine.ReadUpset := {}
  deriving DecidableEq, Repr

/-- What a tick strobe finds: the occupancies and the counts of the tick that ends, and the ports with a frame in reception
(R34, R85, R521, R523, R524). -/
structure TickFound where
  occ : List OccCount := []
  cycles : List CycleCount := []
  receiving : List Nat := []
  /-- Copies of the tiers that an upset has struck in the tick (R296). -/
  upsets : List TierUpset := []
  /-- Places of the tiers whose next write fails: slice, tier, index (R293). -/
  failing : List (Nat × Nat × Nat) := []
  deriving DecidableEq, Repr

/-- The instructions of the test access port (R602). -/
inductive TapInstr where
  | bypass | idcode | samplePreload | extest | extestPulse | extestTrain | highz | clamp
  deriving DecidableEq, Repr

/-- What Kindling's step 6b finds of one DDR5 channel (R67, R402, R403). -/
structure ChannelFound where
  chan : Nat
  dimms : Nat := 0
  /-- Capacity of the channel in GiB. -/
  gib : Nat := 0
  grade : Bool := false
  id0 : Dword := 0
  id1 : Dword := 0
  /-- Column bits c and select bits s of its organisation (R406). -/
  colBits : Nat := 0
  selBits : Nat := 0
  trained : Bool := true
  /-- Its DIMMs are alike and lie within R402. -/
  supported : Bool := true
  deriving DecidableEq, Repr

/-- What a Kindling step or branch found (R66, R67). -/
structure KindlingFound where
  /-- Self-test passed (step 1), PLL locked (step 3), a host link is up (step 6c). -/
  ok : Bool := true
  /-- Units that failed (steps 4, 6a). -/
  failed : List UnitId := []
  /-- Channels found (step 6b). -/
  channels : List ChannelFound := []
  /-- Dies whose regulator did not answer or reported another VOUT_MODE (step 3, R595). -/
  avsFail : List Nat := []
  /-- The hottest sensor of the die reads below 0 °C: West, East (step 3, R595). -/
  cold : Bool × Bool := (false, false)
  /-- TREF frequency code (step 3, R377). -/
  tref : Nat := 0
  /-- Flash read mode selected (step 2, R603). -/
  flashMode : Nat := 0
  /-- Duration in ms. -/
  ms : Nat := 0
  deriving DecidableEq, Repr

end Sys2Proof
end

