-- ==== Sys2Proof/Machine/TypesControl.lean ====
section
/-! DEFINITION. The state of modes, Kindling, units, the Toune protocol, calibration, the boot flash, the safety
island, the supplies and the twin pair, as plain data.  Chapters 02, 03, 19, 22, 23, 24 and 25. -/

namespace Sys2Proof.Machine

/-- The operating modes (R56). -/
inductive Mode where
  | reset | kindling | configure | service | degraded | standby | safe | test
  deriving DecidableEq, Repr

/-- The service states of a unit (R71). -/
inductive UnitState where
  | inService | out | rejoin | ready
  deriving DecidableEq, Repr

/-- A unit that is not IN_SERVICE: its state, the boundary at which it entered it, and why it left (R71). -/
structure UnitRec where
  st : UnitState := .inService
  since : Tick := 0
  cause : Nat := 0
  deriving DecidableEq, Repr

/-- A response to a Toune request (R474, R475, R480): the header fields it copies, its status and payload, and the
boundary's tick count for a command that is deferred. -/
structure Response where
  route : Route := .mailbox
  hp1 : Bool := false
  qp : Half := 0xFFFF
  queue : Half := 0xFFFF
  protocol : Byte := 1
  opcode : Nat := 0
  cmdVersion : Half := 1
  session : Word := 0
  sequence : Word := 0
  handle : Word := 0
  status : Half := 0
  payload : List Byte := []
  tick : Option Tick := none
  /-- Mailbox slot in which its request executes, the position of its job, and for a bootstrap request the port and the
  source of its frame. -/
  slot : Option Nat := none
  pos : Word := 0
  port : Nat := 128
  source : List Byte := []
  deriving DecidableEq, Repr

/-- A raised event: its code, its detail, and for a completion event the handle, the status and the session
that started the operation (R490, R493). -/
structure Event where
  code : Nat
  detail : List Byte := []
  tick : Tick := 0
  frc : Dword := 0
  completion : Bool := false
  handle : Word := 0
  status : Half := 0
  session : Word := 0
  deriving DecidableEq, Repr

/-- A pending mode transition (R62): its target, its boundary, and the response or handle it completes. -/
structure ModeReq where
  target : Mode
  due : Tick
  resp : Option Response := none
  handle : Word := 0
  deriving DecidableEq, Repr

/-- A change accepted and deferred to a boundary (R34, R35). -/
inductive Change where
  /-- A parameter write, step 9. -/
  | word (addr : Nat) (mask value : Word)
  /-- A unit leaves service, step 6. -/
  | unitOut (u : UnitId) (cause : Nat)
  /-- A rebuild starts, step 6. -/
  | unitRejoin (u : UnitId)
  /-- The hold of BOOT_MODE HOLD is released (R60). -/
  | holdRelease
  /-- A graph bank switch of the named pipelines, step 8 (R126). -/
  | graphSwitch (pipes : Nat)
  /-- A profile bank switch of the named pipelines, with the graph where asked, step 8 (R147). -/
  | profileSwitch (pipes : Nat) (withGraph : Bool)
  /-- A bank-mask commit, step 8 (R146). -/
  | bankMask (pipes : Nat) (items : List (Nat × Nat × Nat))
  /-- A program image, step 9 (R228). -/
  | progLoad (image : List Byte)
  /-- Templates, step 9 (R231). -/
  | templates (items : List (Nat × List Byte))
  /-- A domain selection, step 7 (R388). -/
  | domainSelect (b : Bool) (force : Bool)
  /-- The switch-out that starts a channel's power-down, step 6 (R421). -/
  | channelDown (u : UnitId) (handle : Word)
  /-- A queue pair's frames are accepted from the boundary (R439). -/
  | qpStart (q : Nat)
  /-- A replicated pool definition, or its removal, on a standby (R545). -/
  | pool (k : Nat) (defn : Option (List Byte))
  /-- Nothing but the completion of its response at the boundary (R480). -/
  | notify
  /-- A late SAFE_ENTER: cause HOST is recorded in the tick before its boundary (R35, R558). -/
  | hostSafe
  /-- A hand-over starts (R551). -/
  | handover (handle : Word) (toConfigure : Bool)
  /-- The TSI delays of the working copy take effect (R77). -/
  | tsiDelays
  /-- The place of the pending mode transition among the changes (R34, R62). -/
  | modeChange
  deriving DecidableEq, Repr

/-- A deferred change with its boundary and the response that the boundary completes. -/
structure Deferred where
  due : Tick
  change : Change
  resp : Option Response := none
  deriving DecidableEq, Repr

/-- The steps and branches of Kindling (R66). -/
inductive KStep where
  | s1 | s2 | s3 | s4 | s5 | s6a | s6b | s6c | s7
  deriving DecidableEq, Repr

/-- Where Kindling stands (R65 to R67). -/
structure Kindling where
  /-- The steps and branches now running. -/
  running : List KStep := []
  /-- The branches of step 6 that have ended. -/
  branches : List KStep := []
  /-- Branches 6a and 6b await the release of HOLD. -/
  hold : Bool := false
  /-- PLL lock failed and the step retries every 100 ms. -/
  retrying : Bool := false
  /-- Bootstrap configuration pairs skipped (R64). -/
  skipped : Nat := 0
  /-- A step ended so that Kindling ends in SAFE (R60, R67). -/
  toSafe : Bool := false
  /-- KINDLING_DONE has been raised. -/
  finished : Bool := false
  deriving DecidableEq, Repr

/-- A staged or stored firmware image: the declared length and CRC and the bytes in flash (R63, R497). -/
structure FwSlot where
  length : Word := 0
  crc : Word := 0
  data : Table Byte := []
  deriving DecidableEq, Repr

/-- One entry of a flash directory (R63): type 1 and 2 the firmware slots, 3 the bootstrap configuration, 4 and 5 the
calibration copies. -/
structure FlashEntry where
  kind : Nat
  flags : Byte := 0
  offset : Word := 0
  length : Word := 0
  crc : Word := 0
  deriving DecidableEq, Repr

/-- One copy of the flash directory as its bytes have it (R63); `count` is the length of its entry table. -/
structure FlashDir where
  magic : Word := 0x53584644
  version : Half := 1
  sequence : Word := 0
  crc : Word := 0
  entries : List FlashEntry := []
  deriving DecidableEq, Repr

/-- The boot flash (R63, R73).  It survives reset.  What lies at the offsets that the directory names is kept by what it is:
the contents of the two slots, the pairs of the bootstrap configuration and the bytes of the calibration copies. -/
structure Flash where
  dir0 : Option FlashDir := none
  dir1 : Option FlashDir := none
  slotA : Option FwSlot := none
  slotB : Option FwSlot := none
  bootCfg : List (Word × Word) := []
  /-- Calibration copies 0 and 1: 4,864 bytes each (R73). -/
  cal0 : Table Byte := []
  cal1 : Table Byte := []
  deriving DecidableEq, Repr

/-- A calibration store or measurement in progress (R76, R77). -/
structure CalOp where
  handle : Word
  opcode : Nat
  procedure : Nat
  dryRun : Bool
  /-- Sections changed, bit i for section i. -/
  sections : Nat
  /-- Lanes or inputs that a measurement names, bit i for instance i (R77). -/
  named : Nat := 0
  /-- The measurement has ended and the record is being stored. -/
  storing : Bool
  deriving DecidableEq, Repr

/-- The calibration working copy (R75, R586) and the store in progress. -/
structure Cal where
  work : Table Byte := []
  valid : Bool := false
  copy : Bool := false
  storing : Bool := false
  defaults : Bool := false
  sequence : Word := 0
  origin : Word := 0
  op : Option CalOp := none
  /-- TSI delays in effect while those of the working copy await their boundary (R77). -/
  tsi : Option (List Byte) := none
  deriving DecidableEq, Repr

/-- What the device keeps of an event that it raises at most once in each period of 1,024 ticks: the period in which it was
raised last, and its occurrences of the last 1,024 ticks, by tick. -/
structure Mark where
  raised : Option Nat := none
  seen : List (Tick × Nat) := []
  deriving DecidableEq, Repr

/-- Modes, Kindling, units and identity. -/
structure Sys where
  mode : Mode := .reset
  pendingMode : Option ModeReq := none
  /-- Changes accepted and not yet in force, in acceptance order (R34). -/
  deferred : List Deferred := []
  /-- Units that are not IN_SERVICE, by class code * 1024 + instance (R71). -/
  units : Table UnitRec := []
  /-- Units that Kindling found missing, by the same key (R577). -/
  absent : List Nat := []
  bootMode : BitVec 2 := 0
  twinRole : Bool := false
  slotB : Bool := false
  recovery : Bool := false
  kindling : Kindling := {}
  kindlingMs : Half := 0
  /-- Firmware staging: the slot is erased and a BEGIN is in force (R497). -/
  staging : Bool := false
  /-- A COMMIT in progress: its handle. -/
  fwCommit : Option Word := none
  /-- The TEST to CONFIGURE clearing in progress: its handle (R60). -/
  testClear : Option Word := none
  /-- The response of the MODE_SET that released HOLD; sent at KINDLING_DONE (R60). -/
  holdResp : Option Response := none
  /-- DDR5 speed grade (R402): true for DDR5-4400. -/
  grade : Bool := false
  fw : Word := 0
  /-- What is counted over 1,024 ticks, by key: the events raised at most once in each period, and their occurrences. -/
  marks : Table Mark := []
  /-- The instruction of the test access port (R602); a port that has been reset holds IDCODE. -/
  tapInstr : TapInstr := .idcode
  /-- Flash read mode selected (R603). -/
  flashMode : Nat := 0
  deriving DecidableEq, Repr

/-- The tick, the FRC and the overrun record (R30 to R33, R52, R54). -/
structure TickState where
  /-- The TU has started (R32). -/
  running : Bool := false
  count : Tick := 0
  /-- FRC at the strobe of the present tick (R33). -/
  startFrc : Dword := 0
  /-- The East mirror's difference from the FRC (R22); 0 while it follows. -/
  mirrorDiff : Dword := 0
  overrunCls : Nat := 0
  overrunInst : Nat := 0
  overrunTick : Word := 0
  deriving DecidableEq, Repr

/-- One session (R482 to R487). -/
structure Session where
  gen : BitVec 24 := 0
  isOpen : Bool := false
  version : Byte := 1
  recVersion : Byte := 1
  keepalive : Nat := 0
  sink : Nat := 0xFFFF
  subscribe : Half := 0
  client : List Byte := []
  /-- Opened by the bootstrap route. -/
  boot : Bool := false
  evCount : Word := 0
  lastReq : Tick := 0
  /-- Source MAC and port of its latest bootstrap request (R430). -/
  mac : Mac := 0
  hp : Nat := 128
  /-- Sequence and kept response of its latest bootstrap request (R429). -/
  lastSeq : Option Word := none
  lastResp : Option Response := none
  /-- The staging buffer of 65,536 bytes (R487). -/
  staging : Table Byte := []
  deriving DecidableEq, Repr

/-- The states of a handle (R489). -/
inductive HandleState where
  | free | running | done
  deriving DecidableEq, Repr

/-- One handle (R488 to R492). -/
structure Handle where
  gen : Byte := 0
  st : HandleState := .free
  opcode : Nat := 0
  session : Word := 0
  status : Half := 0
  result : List Byte := []
  startTick : Tick := 0
  endTick : Tick := 0
  cancelling : Bool := false
  /-- The operation has started. -/
  started : Bool := false
  /-- It has ended with a status and result, and its completion event OP_DONE is still to be raised (R490). -/
  ended : Option (Half × List Byte) := none
  deriving DecidableEq, Repr

/-- An audit record (R499). -/
structure AuditRec where
  index : Dword
  frc : Dword
  opcode : Nat
  status : Half
  session : Word
  sequence : Word
  handle : Word
  route : Route
  untrusted : Bool
  hp1 : Bool
  qp : Half
  queue : Half
  cmdVersion : Half
  source : List Byte
  digest : Dword
  deriving DecidableEq, Repr

/-- The protocol's state: sessions, handles, the audit journal, and what leaves for the hosts. -/
structure Toune where
  sessions : Table Session := []
  handles : Table Handle := []
  auditNext : Dword := 0
  /-- The last 65,536 records, oldest first (R500). -/
  audit : List AuditRec := []
  /-- Index of the next record that the audit mirror is still to take (R500). -/
  mirrorNext : Dword := 0
  /-- Responses sent, oldest first. -/
  responses : List Response := []
  /-- Events raised and not yet delivered, oldest first (R493). -/
  events : List Event := []
  /-- Event messages written to sinks: the session, the sink, and the event. -/
  delivered : List (Word × Nat × Event) := []
  /-- The last SESSION_OPEN of each source MAC over bootstrap: its sequence and session (R429). -/
  bootOpens : List (Mac × Word × Word) := []
  deriving DecidableEq, Repr

/-- The parameter space: writable words that differ from reset, counters, and the latches of wide reads. -/
structure Params where
  /-- Settings by address, where they differ from the reset value. -/
  regs : Table Word := []
  /-- Counters by the address of their (lower) word. -/
  counts : Table Nat := []
  /-- Latched upper words: session index * 2^32 + address (R579). -/
  latches : Table Word := []
  /-- Lower words held until their upper word is written (R580): session index * 2^32 + address. -/
  held : Table Word := []
  deriving DecidableEq, Repr

/-- One entry of the fault log (R571). -/
structure FaultEntry where
  tick : Tick
  cause : Nat
  enteredSafe : Bool
  latched : Bool
  selftest : Bool
  cls : Nat
  inst : Nat
  detail : Nat
  deriving DecidableEq, Repr

/-- The safety island (R558 to R573). -/
structure Zal where
  /-- Recorded causes: bit c (R572). -/
  status : BitVec 24 := 0
  /-- Bits that a failed self-test holds set (R568). -/
  selftest : BitVec 24 := 0
  /-- Causes whose condition persists. -/
  cond : BitVec 24 := 0
  /-- The tick since which the condition of a cause has been good, by cause (SUPPLY, CORE_PLL). -/
  goodSince : Table Tick := []
  /-- Causes of this tick that lead to SAFE at the next boundary (R558). -/
  toSafe : List Nat := []
  /-- Causes recorded in this tick, with their unit (R558). -/
  thisTick : List (Nat × Nat × Nat) := []
  scopeAll : Bool := false
  cause : Nat := 0
  lastCause : Nat := 0
  lastCls : Nat := 0
  lastInst : Nat := 0
  faultTick : Word := 0
  lockstepOk : Bool := true
  /-- SAFE_REQ_N as filtered: high at the release (R564). -/
  reqLevel : Bool := false
  safeN : Bool := false
  faultN : Bool := false
  log : List FaultEntry := []
  logNext : Word := 0
  /-- Units that the causes name, to be rebuilt at RESUME (R60, R71). -/
  units : List UnitId := []
  /-- Units that RESUME has sent to REJOIN and that have not reached READY (R60). -/
  rebuilding : List UnitId := []
  /-- Dies that enforce SAFE without the island (R562). -/
  silentDies : List Nat := []
  /-- The 24 sensor readings of the last tick in 1/16 °C (R47). -/
  readings : List Int := []
  /-- Rails outside their monitor windows, with the die (R589, R593). -/
  railsOut : List Nat := []
  pllOut : List Nat := []
  /-- A self-test in progress: its handle (R568). -/
  selftestOp : Option Word := none
  /-- A sensor is at or above THERMAL_LIMIT, and all have not yet fallen 5 °C below it (R559). -/
  hot : Bool := false
  deriving DecidableEq, Repr

/-- A PMBus transaction that failed (R594): 0 and 1 the voltage of the West and East plane with its target in mV, 2 the
reading of STATUS_WORD; the tick of its latest attempt, and how often it has been retried. -/
structure PmbusTry where
  what : Nat
  target : Nat := 0
  since : Tick
  tries : Nat := 0
  deriving DecidableEq, Repr

/-- Supplies and the PMBus (R590 to R595). -/
structure Power where
  /-- AVS target of each VDD_CORE plane in mV; none at the start voltage (R595). -/
  targetW : Option Nat := none
  targetE : Option Nat := none
  /-- A plane locked at its start voltage until reset (R595). -/
  lockedW : Bool := false
  lockedE : Bool := false
  /-- The old target whose window still counts, and the FRC until which it does (R591). -/
  unionW : Option (Nat × Dword) := none
  unionE : Option (Nat × Dword) := none
  /-- Failed PMBus transactions, oldest first (R594). -/
  retry : List PmbusTry := []
  /-- STATUS_WORD reads with CLEAR_FAULTS that PMB_ALERT_N has caused (R595). -/
  alertsServed : Nat := 0
  deriving DecidableEq, Repr

end Sys2Proof.Machine
end

