-- ==== Sys2Proof/Machine/TypesFlow.lean ====
section
/-! DEFINITION. The state of the flow slices, of programs, templates and translation pools, as plain data.  Chapters
09 to 12. -/

namespace Sys2Proof.Machine

/-- The packet side of a flow operation (R141, R221). -/
structure FlowReq where
  pkt : Nat
  pipe : Nat
  /-- Key bytes, 16 or 48 (R206). -/
  key : List Byte
  size : Nat
  flags : Nat
  ruleDrop : Bool
  /-- Effective miss disposition: 0 CREATE, 1 PUNT, 2 DENY, 3 PASS-STATELESS (R141, R150). -/
  disp : Nat
  template : Nat
  member : Word
  hash : Nat
  deriving DecidableEq, Repr

/-- What an operation of a slice is (R238, R240). -/
inductive OpKind where
  /-- An operation of a packet's own key: direction FWD. -/
  | packet (q : FlowReq)
  /-- A reverse-pointer forward of a packet: direction REV. -/
  | forward (q : FlowReq)
  /-- Item `item` of host command `cmd`. -/
  | host (cmd item : Nat)
  /-- A conditional deletion of the sweep. -/
  | sweep
  /-- A conditional change of member. -/
  | repin
  /-- An expiry operation with its deadline (R321). -/
  | expiry (deadline : Tick)
  /-- Installation of a reverse pointer for a primary: its slice and digest, and the pointer (R216). -/
  | install (slice : Nat) (primary : Dword) (ptr : List Byte)
  /-- Removal of the pointer of a primary. -/
  | unbind (primary : Dword)
  /-- Acknowledgement of an installation: 0 installed, 1 no room, 2 equal key, 3 digest clash; with the pointer's
  digest. -/
  | bindAck (code : Nat) (ptr : Dword)
  /-- Application of a delta or of a bulk record on a standby (R544, R547). -/
  | delta (item : List Byte) (die : Nat) (last : Option Word)
  /-- Application of a FOLLOW item (R546). -/
  | follow (item : List Byte)
  /-- Reading a listed record for a FOLLOW item. -/
  | followRead
  deriving DecidableEq, Repr

/-- An operation: the key it looks up, none for one that names a digest, and its digest. -/
structure FlowOp where
  kind : OpKind
  key : Option (List Byte)
  digest : Dword
  deriving DecidableEq, Repr

/-- Where the first operation of an in-flight entry stands (R245). -/
inductive Phase where
  /-- LOOKUP: the Stack probe is out. -/
  | probe
  /-- LOOKUP: the cold summary is being read. -/
  | summary
  /-- LOOKUP: turf slots still to be read. -/
  | turf (slots : List Nat)
  /-- HOLD: the entry as read from a turf slot waits for promotion, since a tick. -/
  | hold (slot : Nat) (entry : List Byte) (since : Tick)
  /-- CREATE_Q, since a tick. -/
  | createQ (since : Tick)
  /-- PUNTED. -/
  | punted
  /-- EXECUTE: the tier of the lookup (3 for a creation) with the slot index there, and whether the operation created the
  record. -/
  | execute (tier slot : Nat) (created : Bool)
  /-- A demotion holds the entry: from Stack slot to turf slot. -/
  | demoting (slot turf : Nat)
  /-- A forward that the primary's home has no room for is held in the pointer's entry: that slice and the primary's digest (R238). -/
  | forwarding (slice : Nat) (primary : Dword)
  deriving DecidableEq, Repr

/-- One entry of the in-flight table (R240): the operation in hand is the first of its list. -/
structure Flight where
  digest : Dword
  ops : List FlowOp
  phase : Phase
  deriving DecidableEq, Repr

/-- One Hearth way, or an aligned pair for a wide record (R272). -/
structure Way where
  digest : Dword
  entry : List Byte
  dirty : Bool := false
  /-- Stack slot of the entry. -/
  slot : Nat
  /-- Order number of its latest use. -/
  used : Nat := 0
  deriving DecidableEq, Repr

/-- An upset that a copy holds since its last write: its tier and index, the entry as written, and what a read finds (R296). -/
structure CopyUpset where
  tier : Nat
  idx : Nat
  was : List Byte
  u : ReadUpset
  deriving DecidableEq, Repr

/-- One punt (R251). -/
structure Punt where
  digest : Dword
  since : Tick
  deriving DecidableEq, Repr

/-- One wheel entry (R319). -/
structure WheelEntry where
  digest : Dword
  deadline : Tick
  fired : Bool := false
  deriving DecidableEq, Repr

/-- A slice's partition of a pool (R302): allocated positions, the cursor, the two prefetched words, and whether a fetch
runs. -/
structure Part where
  taken : List Nat := []
  cursor : Nat := 0
  cur : Option Nat := none
  nxt : Option Nat := none
  fetching : Bool := false
  deriving DecidableEq, Repr

/-- The rewrite that a flow result asks for (R226). -/
inductive FlowRewrite where
  | none
  /-- Replace the source address and port. -/
  | src (addr port : Nat)
  /-- Replace the destination address and port. -/
  | dst (addr port : Nat)
  /-- To IPv4: source, port, destination, and whether to copy the traffic class. -/
  | to4 (src port dst : Nat) (tos : Bool)
  /-- To IPv6: the key of the record, and whether to copy the TOS. -/
  | to6 (key : List Byte) (tos : Bool)
  deriving DecidableEq, Repr

/-- A flow result on its way to its pipeline (R226, R239). -/
structure FlowResult where
  pkt : Nat
  /-- 0 PASS, 1 DENY, 2 SILENT. -/
  verdict : Nat
  /-- The record's class; none where no record decided. -/
  cls : Option Nat := none
  mark : Option (Nat × Nat) := none
  member : Option Word := none
  rewrite : FlowRewrite := .none
  sample : Option Nat := none
  /-- Tier of the record, 3 for none; slot index (R336); reached through a pointer; created. -/
  tier : Nat := 3
  slot : Nat := 0
  viaPtr : Bool := false
  created : Bool := false
  digest : Dword := 0
  deriving DecidableEq, Repr

/-- A work item that a slice has still to do for a reverse pointer (R216). -/
structure PtrItem where
  /-- Digest under which it is done. -/
  digest : Dword
  op : FlowOp
  deriving DecidableEq, Repr

/-- One flow slice. -/
structure Slice where
  /-- The in-flight table. -/
  flights : List Flight := []
  /-- The input FIFO of forwards (R238). -/
  forwards : List FlowOp := []
  /-- The input FIFOs of the four pipelines (R238). -/
  inputs : Table (List FlowOp) := []
  /-- The packet source with which the next acceptance cycle starts: 0 to 3 the pipelines, 4 the forwards (R238). -/
  srcTurn : Nat := 0
  /-- Host items that wait for a cycle of the host reservation (R238, R256). -/
  hostQ : List FlowOp := []
  /-- Operation cycles used in this tick, and those of each background owner: 0 host access, 1 sweep, 2 replication,
  3 migration (R37, R39). -/
  cycles : Nat := 0
  ownUse : Table Nat := []
  /-- Record and service-region accesses of each of the slice's pseudo-channels in this tick (R40). -/
  recUse : Table Nat := []
  svcUse : Table Nat := []
  /-- The requester of background accesses that is served next: 0 creations, 1 promotions, 2 the demoter (R262). -/
  memTurn : Nat := 0
  /-- Upsets that copies hold, and places whose next write fails: tier and index (R293, R296). -/
  upsets : List CopyUpset := []
  failing : List (Nat × Nat) := []
  /-- Records made and not yet run, by digest, with the template they follow (R250). -/
  made : List (Dword × List Byte) := []
  /-- Creations that wait, by digest, in arrival order (R48). -/
  createQ : List Dword := []
  /-- Held operations, by digest, in arrival order (R48). -/
  holdQ : List Dword := []
  punts : List Punt := []
  /-- Hearth, by 16 * set + way (R272). -/
  hearth : Table Way := []
  clock : Nat := 0
  /-- Stack slots, by 4 * bucket + slot (R277). -/
  stack : Table (List Byte) := []
  /-- Turf slots, by 16 * bucket + slot (R282). -/
  turf : Table (List Byte) := []
  /-- Cold summaries, by bucket (R283). -/
  sums : Table (BitVec 128) := []
  /-- Buckets whose summary holds an uncorrectable error (R296). -/
  badSums : List Nat := []
  /-- Turf slots whose clear is pending, with the digest promoted (R284, R292). -/
  clears : List (Nat × Dword) := []
  /-- Entries waiting for the wheel (R319). -/
  wheel : List WheelEntry := []
  /-- Expiry operations queued: digest and deadline. -/
  expiry : List (Dword × Tick) := []
  /-- Pointer installations to be done here, and acknowledgements to be taken here (R216). -/
  installs : List FlowOp := []
  acks : List FlowOp := []
  /-- Pointer-demotion items: pointer digests (R290). -/
  ptrDemotes : List Dword := []
  /-- Budgets left in this tick (R37, R48). -/
  createLeft : Nat := 0
  promoteLeft : Nat := 0
  /-- Packet operations accepted and accesses charged in this tick and the previous one (R265). -/
  ops : Nat := 0
  accesses : Nat := 0
  opsPrev : Nat := 0
  accessesPrev : Nat := 0
  /-- An episode of R244: until both structures are below seven eighths. -/
  fullEpisode : Bool := false
  holdEpisode : Bool := false
  puntEpisode : Bool := false
  wheelEpisode : Bool := false
  /-- Tick of the latest pin refusal (R275). -/
  pinRefused : Option Tick := none
  /-- STACK_AT_LIMIT has been raised since the fill was last at the low watermark (R281). -/
  atLimit : Bool := false
  /-- The fill has risen above the high watermark and not yet fallen to the low one (R288). -/
  high : Bool := false
  /-- Demoter: next slot, slots examined since its walk began, age, and whether the age has been set (R288, R289). -/
  demotePos : Nat := 0
  /-- Tick in which the demoter last worked. -/
  demoteAt : Option Tick := none
  walked : Nat := 0
  age : Option Nat := none
  /-- The demoter is stopped for an evacuation (R423). -/
  demoteStop : Bool := false
  scrubPos : Nat := 0
  /-- Translation partitions, by pool (R302). -/
  parts : Table Part := []
  deriving DecidableEq, Repr

/-- A host command in progress (R256): its opcode and request, its items, how many have been accepted, and the results
of those that have run. -/
structure HostCmd where
  opcode : Nat
  req : Response
  items : List (List Byte)
  /-- Items of FLOW_READ are executed one after another, none beyond the first result that does not fit: the count issued, and
  whether that point has been reached (R258). -/
  issued : Nat := 0
  stopped : Bool := false
  /-- Result bytes of each item, once it has run. -/
  results : Table (List Byte) := []
  deriving DecidableEq, Repr

/-- A sweep, a repin or an evacuation in progress (R255, R314, R423). -/
structure Pass where
  handle : Word
  opcode : Nat
  arg : List Byte
  /-- Slices still to be walked, with the position of each. -/
  left : Table Nat
  examined : Nat := 0
  matched : Nat := 0
  changed : Nat := 0
  /-- Entries that an evacuation has moved, by slice (R423). -/
  moved : Table Nat := []
  /-- Operations issued and not yet executed. -/
  out : Nat := 0
  deriving DecidableEq, Repr

/-- The slices and what they share. -/
structure Flow where
  slice : Table Slice := []
  /-- The issue queues, by 16 * pipeline + slice: the first 64 operations are in the queue, the pipeline holds the others (R237). -/
  issue : Table (List FlowOp) := []
  /-- The crossing queues, by the die they leave: pipeline, slice and operation (R20). -/
  cross : Table (List (Nat × Nat × FlowOp)) := []
  /-- Pointer entries that hold a forward, in the order they met a full FIFO: slice and digest (R238). -/
  fwdWait : List (Nat × Dword) := []
  /-- Results that wait, by 16 * pipeline + slice (R239). -/
  results : Table (List FlowResult) := []
  /-- Program image in force (R227). -/
  prog : Option (List Byte) := none
  /-- Templates in force, by number (R229). -/
  templates : Table (List Byte) := []
  /-- Pool definitions, by number (R300). -/
  pools : Table (List Byte) := []
  /-- Host commands in progress, by number. -/
  cmds : Table HostCmd := []
  nextCmd : Nat := 0
  /-- The sweep or repin in progress (R255, R314). -/
  sweep : Option Pass := none
  /-- Evacuations in progress (R423). -/
  evacs : List Pass := []
  deriving DecidableEq, Repr

end Sys2Proof.Machine
end

