-- ==== Sys2Proof/Machine/TypesHost.lean ====
section
/-! DEFINITION. The state of the host transport, of work queues and of the DMA engine, as plain data.  Chapters 17 and
18. -/

namespace Sys2Proof.Machine

/-! ### Queue pairs -/

/-- What a request that the device issues serves. -/
inductive Purpose where
  /-- Read of submission entries of queue `q` (R449). -/
  | fetch (q : Nat)
  /-- Completion entry of the job of queue `q` at position `pos` (R455). -/
  | completion (q : Nat) (pos : Word)
  /-- Published head of queue `q` (R455). -/
  | head (q : Nat)
  /-- Data of the job of queue `q` at position `pos` (R455). -/
  | data (q : Nat) (pos : Word)
  /-- Event entries of queue `q` (R459). -/
  | event (q : Nat)
  /-- Response to the request of mailbox slot `slot` (R434). -/
  | response (slot : Nat)
  deriving DecidableEq, Repr

/-- A request that the device issues (R431, R432). -/
structure OutReq where
  psn : BitVec 24 := 0
  /-- Packets, by which the PSN advances. -/
  packets : Nat := 1
  /-- 0 RDMA WRITE, 1 RDMA WRITE with immediate, 2 RDMA READ. -/
  kind : Nat := 0
  region : Nat
  offset : Nat
  /-- Bytes written; for a read, nothing. -/
  bytes : List Byte := []
  /-- Bytes read. -/
  length : Nat := 0
  imm : Word := 0
  purpose : Purpose
  deriving DecidableEq, Repr

/-- One queue pair (R438, R439). -/
structure QueuePair where
  /-- 0 FREE, 1 RTS, 2 ERROR. -/
  st : Nat := 0
  arg : List Byte := []
  cause : Nat := 0
  sqPsn : BitVec 24 := 0
  rqPsn : BitVec 24 := 0
  /-- Frames are accepted and sent from this boundary. -/
  start : Tick := 0
  /-- A sequence-error NAK stands for the expected PSN (R432). -/
  nakOut : Bool := false
  /-- Requests issued and not acknowledged, oldest first. -/
  out : List OutReq := []
  /-- Tick of the latest progress or resend. -/
  since : Tick := 0
  /-- Resends without progress. -/
  resends : Nat := 0
  deriving DecidableEq, Repr

/-- A request frame, or all the frames of one request, as a queue pair of a host port receives it (R431, R434). -/
inductive RoceReq where
  /-- RDMA WRITE to a key and a virtual address, with or without immediate. -/
  | write (key : Word) (va : Nat) (bytes : List Byte) (imm : Option Word)
  /-- RDMA READ of `len` bytes. -/
  | read (key : Word) (va len : Nat)
  /-- SEND, with or without immediate. -/
  | send (bytes : List Byte)
  deriving DecidableEq, Repr

/-- A frame that the host-transport engine sends: RoCEv2 acknowledgements and requests, and the frames of the bootstrap
transport, ARP and neighbour discovery (R426 to R432). -/
inductive HostFrame where
  | ack (qp : Nat) (psn : BitVec 24)
  | seqNak (qp : Nat) (psn : BitVec 24)
  | accessNak (qp : Nat) (psn : BitVec 24)
  | rnrNak (qp : Nat) (psn : BitVec 24)
  | readData (qp : Nat) (psn : BitVec 24) (bytes : List Byte)
  | request (qp : Nat) (r : OutReq)
  /-- Bytes of a frame that leaves port `n`. -/
  | raw (n : Nat) (bytes : List Byte)
  deriving DecidableEq, Repr

/-- One mailbox slot (R433, R434): its two halves as written, and whether a request executes in it. -/
structure Slot where
  request : List Byte := []
  response : List Byte := []
  busy : Bool := false
  /-- Queue pair whose request executes. -/
  qp : Nat := 0
  deriving DecidableEq, Repr

/-! ### Queues -/

/-- A job of a submission queue, from its start until its completion is acknowledged (R450 to R455). -/
structure Job where
  pos : Word
  count : Nat
  tag : Word := 0
  entries : List (List Byte) := []
  status : Half := 0
  detail : List Byte := []
  /-- It executes: for a posted buffer, its first item or byte has been placed in it. -/
  begun : Bool := true
  /-- It has ended. -/
  done : Bool := false
  /-- Its completion entry has been written or is held. -/
  written : Bool := false
  /-- DMA: descriptors ended, BAD ones, the first BAD with its status, bytes moved. -/
  ended : Nat := 0
  bad : Nat := 0
  firstBad : Option (Nat × Nat) := none
  moved : Nat := 0
  /-- Export: items and bytes in the buffer, position of the first and of the item behind the last, and the tick of the
  first. -/
  items : Nat := 0
  fill : Nat := 0
  first : Dword := 0
  next : Dword := 0
  since : Tick := 0
  deriving DecidableEq, Repr

/-- One queue (R443 to R461). -/
structure Queue where
  /-- 0 FREE, 1 ENABLED, 2 DISABLING, 3 DISABLED. -/
  st : Nat := 0
  arg : List Byte := []
  cause : Nat := 0
  doorbell : Word := 0
  fetched : Word := 0
  head : Word := 0
  lost : Bool := false
  /-- An event has been lost since the last one written (R459). -/
  lostOwed : Bool := false
  /-- Entries fetched and not yet started, with their positions. -/
  entries : List (Word × List Byte) := []
  /-- Entries that a read under way will bring, and what it brought. -/
  fetching : Nat := 0
  arrived : Option (List Byte) := none
  /-- Jobs started, in ring order. -/
  jobs : List Job := []
  /-- Completions held for a full ring: submission queue and position of the job, and the entry (R458). -/
  held : List (Nat × Word × List Byte) := []
  fullEpisode : Bool := false
  /-- Handle of a QUEUE_DISABLE that waits. -/
  handle : Option Word := none
  /-- Tick of the last head write, and one that waits for the next tick (R455). -/
  headTick : Option Tick := none
  headOwed : Bool := false
  /-- Bytes of the host copy at the front that buffers hold already (R456). -/
  rxOff : Nat := 0
  deriving DecidableEq, Repr

/-- The host transport, the queues and the DMA engine. -/
structure HostIf where
  qp : Table QueuePair := []
  /-- Frames that the engines have sent, oldest first. -/
  sent : List HostFrame := []
  slot : Table Slot := []
  /-- Immediates and SENDs that have arrived, oldest first: queue pair, slot, and whether a SEND placed the request. -/
  imms : List (Nat × Nat × Bool) := []
  /-- Doorbell units that have arrived, oldest first: queue and value. -/
  doorbells : List (Nat × Dword) := []
  /-- Host regions, as the 32-byte argument of R437. -/
  region : Table (List Byte) := []
  queue : Table Queue := []
  /-- Queue that fetched last (R449). -/
  turn : Nat := 0
  /-- DX channels: position of the latest BAD descriptor, and bytes of the current one. -/
  lastBad : Table Word := []
  dxBytes : Table Word := []
  /-- The Stack window and the Peatbank window of R433, by address: an unlisted byte reads 0. -/
  stackWin : List Host.Cell := []
  peatWin : List Host.Cell := []
  deriving DecidableEq, Repr

end Sys2Proof.Machine
end

