-- ==== Sys2Proof/Machine/TypesMem.lean ====
section
/-! DEFINITION. The state of the memory controllers, as plain data.  Chapter 16. -/

namespace Sys2Proof.Machine

/-- What a memory read met (R415, R416). -/
inductive ReadErr where
  | clean
  /-- Corrected. -/
  | corrected
  /-- Uncorrectable, and clean when read once more. -/
  | second
  /-- Uncorrectable. -/
  | uncorrectable
  deriving DecidableEq, Repr

/-- One controller: keys 0 to 127 for PC0 to PC127, 128 + n for DCn. -/
structure MemUnit where
  poweredDown : Bool := false
  /-- A power-down that drains: its handle and the tick of its switch-out (R421). -/
  draining : Option (Word × Tick) := none
  temp : Byte := 0
  /-- The doubled refresh rate applies: as read last, and as it was before that reading (R411). -/
  hotRate : Bool := false
  hotRateWas : Bool := false
  /-- Tick of the last reading. -/
  tempTick : Option Tick := none
  /-- Consecutive readings at or above HOT_LIMIT. -/
  hot : Nat := 0
  /-- Refreshes made, and one that a retraining tick has put off (R42). -/
  refreshes : Nat := 0
  owed : Bool := false
  /-- Tick of the last retraining. -/
  retrained : Option Tick := none
  scrubPos : Nat := 0
  /-- Corrected errors of the last 1,024 ticks, by tick (R415). -/
  ces : List (Tick × Nat) := []
  /-- Alerts in the present period of 1,024 ticks: the period and the count (R418). -/
  alerts : Nat × Nat := (0, 0)
  /-- The error log, oldest first (R420). -/
  log : List (List Byte) := []
  /-- DDRC: DIMMs, module identities, GiB, column bits and select bits (R402, R406). -/
  dimms : Nat := 0
  id0 : Dword := 0
  id1 : Dword := 0
  gib : Nat := 0
  colBits : Nat := 7
  selBits : Nat := 6
  /-- The DQS receivers that are disabled: DQS0 to DQS9 of subchannel A, then those of B (R611). -/
  dqsOff : BitVec 20 := 0
  deriving DecidableEq, Repr

/-- The memory controllers. -/
structure Mem where
  unit : Table MemUnit := []
  deriving DecidableEq, Repr

end Sys2Proof.Machine
end

