-- ==== Sys2Proof/Machine/TypesPath.lean ====
section
/-! DEFINITION. The state of the pipelines, as plain data: parse-graph and profile banks, packets, rule banks,
the thermal governor and the forwarding tables.  Chapters 05 to 08. -/

namespace Sys2Proof.Machine

/-- A graph or profile bank: the image it holds (R122, R148), or none. -/
structure ImageBank where
  valid : Bool := false
  image : List Byte := []
  deriving DecidableEq, Repr

/-- An action set as merged so far (R136): each field set or not. -/
structure ActionSet where
  drop : Option Bool := none
  redirect : Option (Nat × Nat) := none
  toHost : Option Nat := none
  cls : Option Nat := none
  mark : Option (Nat × Nat) := none
  protection : Option Bool := none
  template : Option Nat := none
  noFlow : Option Bool := none
  spread : Option Nat := none
  /-- rule_ids of lookups 0 to 3 (R136). -/
  ruleIds : List Nat := [0, 0, 0, 0]
  deriving DecidableEq, Repr

/-- Where a packet is bound for (R138, R153, R198 to R200). -/
inductive Dest where
  /-- Not delivered anywhere. -/
  | discard
  /-- One egress port. -/
  | port (n : Nat)
  /-- The ports of a multicast or flood group, as a bitmap (R200, R355). -/
  | ports (mask : Nat)
  /-- A host receive queue only. -/
  | host (q : Nat)
  /-- The management complex. -/
  | mc
  /-- Time handling. -/
  | tu
  deriving DecidableEq, Repr

/-- The rewrite that the forwarding result asks for (R198). -/
structure NhRewrite where
  dmac : Option Mac := none
  smac : Option Mac := none
  vlan : Option Nat := none
  decTtl : Bool := false
  deriving DecidableEq, Repr

/-- A learn that waits for its share (R190 to R192). -/
structure Learn where
  mac : Mac
  vlan : Nat
  port : Nat
  deriving DecidableEq, Repr

/-- Where a packet inside the device stands. -/
inductive PktStage where
  /-- Waits for a slot of its next pass. -/
  | recirc
  /-- Waits in an issue queue, a crossing queue or a slice for its flow result. -/
  | flow
  /-- Waits for credit to be sent to the twin (R542). -/
  | cross
  /-- Waits for cells of the shared buffer. -/
  | cells
  /-- Held as copies in the shared buffer. -/
  | buffered
  deriving DecidableEq, Repr

/-- What a generated frame asks for beyond its bytes (R395, R453). -/
structure GenInfo where
  /-- One-step correction is requested (R395). -/
  oneStep : Bool := false
  /-- Receive FRC of the request that a Pdelay_Resp answers. -/
  reqStamp : Dword := 0
  /-- INJECT job whose completion returns the transmit stamp: queue and position. -/
  job : Option (Nat × Nat) := none
  deriving DecidableEq, Repr

/-- A generated frame that waits for a slot of its pipeline (R14, R152). -/
structure GenFrame where
  frame : List Byte := []
  /-- A frame of the test generators or of an INJECT job in mode LOOKUP (R152). -/
  test : Bool := false
  info : GenInfo := {}
  /-- A reply that leaves a front port past the classification: the port (R427). -/
  reply : Option Nat := none
  deriving DecidableEq, Repr

/-- What capture and sampling keep of a packet (R340, R525). -/
structure SampleInfo where
  /-- Selected by mode NTH or RANDOM. -/
  mode : Bool := false
  /-- Trigger conditions met: bits 0, 2, 3, 4 of R526. -/
  trig : Nat := 0
  /-- Tag of a SAMPLE micro-op. -/
  tag : Option Nat := none
  tier : Nat := 3
  slot : Nat := 0
  viaPtr : Bool := false
  created : Bool := false
  hasOp : Bool := false
  digest : Dword := 0
  /-- Nodes of the last pass, in visit order. -/
  path : List Nat := []
  parseFlag : Bool := false
  deriving DecidableEq, Repr

/-- What a lookup decided of a packet's destination beyond ports (R138, R198, R199). -/
structure Route where
  dest : Dest := .discard
  rewrite : NhRewrite := {}
  /-- The chain goes through a next hop of kind 2. -/
  spread : Bool := false
  /-- Counter of FWD that a discard by this route counts (R198, R199). -/
  count : Option Nat := none
  deriving DecidableEq, Repr

/-- A packet inside the device with the metadata of R137. -/
structure Packet where
  pipe : Nat
  /-- 0 front port, 1 host or twin port source, 2 generated frame (R121). -/
  source : Nat := 0
  /-- Ingress port as word 56 carries it. -/
  port : Nat := 0
  /-- Buffer owner: source 0 to 131 and pause priority (R349). -/
  owner : Nat := 0
  prio : Nat := 0
  /-- Frame without its check sequence, as received. -/
  frame : List Byte := []
  /-- Frame as rewritten. -/
  out : List Byte := []
  stamp : Dword := 0
  /-- A frame of the test generators or of an INJECT job in mode LOOKUP (R152). -/
  test : Bool := false
  gen : GenInfo := {}
  stage : PktStage := .recirc
  pass : Nat := 1
  /-- Start of the pass that waits. -/
  startNode : Nat := 0
  startOffset : Nat := 0
  /-- Key container, 64 words (R121), and the packet offset of each word that an extraction wrote (R309). -/
  container : List Half := []
  offs : Table Nat := []
  graphBank : Bool := false
  profBank : Bool := false
  portClass : Nat := 0
  profile : Nat := 0
  actions : ActionSet := {}
  route : Route := {}
  /-- Container words of the addresses, ports and protocol that its profile's flow selectors named (R309). -/
  flowSel : List Nat := []
  /-- Key type of its flow operation. -/
  keyType : Nat := 0
  /-- Load-spread member chosen by R139; none with spread disabled. -/
  member : Option Word := none
  learn : Option Learn := none
  /-- Host queue of the profile (R198). -/
  hostQueue : Nat := 0
  /-- Place in the order in which packets came to want cells (R242). -/
  order : Nat := 0
  /-- Slice that holds the flow operation, and the tick of its issue. -/
  slice : Nat := 0
  issued : Tick := 0
  protection : Bool := false
  cls : Nat := 0
  mark : Option (Nat × Nat) := none
  /-- Dies on which cells are granted (R348). -/
  granted : List Nat := []
  sample : SampleInfo := {}
  /-- The frame was found bad after reception began (R96). -/
  bad : Bool := false
  /-- Still in reception when its header window was parsed (R358). -/
  early : Bool := false
  deriving DecidableEq, Repr

/-- Where a slot's packet comes from (R14, R38). -/
inductive PassSource where
  /-- Front port `n` of the pipeline. -/
  | front (n : Fin 128)
  /-- The host port, or the cross frames of the pipeline's half-link. -/
  | service
  /-- The oldest packet that waits for another pass. -/
  | recirc
  /-- A generated frame: one that waits, or one that the firmware or a test generator makes. -/
  | generated (f : Option GenFrame)
  deriving DecidableEq, Repr

/-- What a pass meets: banks whose search logic misses, a metadata error, and the core cycles for which a full
crossing queue holds its request (R20). -/
structure PassFound where
  dead : List Nat := []
  metaErr : Bool := false
  held : Nat := 0
  deriving DecidableEq, Repr

/-- One pipeline's parse and classification state. -/
structure Pipe where
  graph0 : ImageBank := {}
  graph1 : ImageBank := {}
  /-- Active graph bank. -/
  graphActive : Bool := false
  graphPending : Bool := false
  /-- Last boundary of a switch; the inactive bank drains 8 ticks at most (R126). -/
  graphSwitchedAt : Option Tick := none
  prof0 : ImageBank := {}
  prof1 : ImageBank := {}
  profActive : Bool := false
  profPending : Bool := false
  commitPending : Bool := false
  profSwitchedAt : Option Tick := none
  /-- Bank-searches counted in this tick (R177). -/
  searches : Nat := 0
  /-- Cap in force (R178). -/
  cap : Nat := 32400
  /-- Slots used in this tick and in the previous one (R587). -/
  frontSlots : Nat := 0
  svcSlots : Nat := 0
  frontPrev : Nat := 0
  svcPrev : Nat := 0
  /-- Service slots of this tick by source: 0 port source, 1 recirculation, 2 generated frames; and the source that took the
  latest slot beyond its minimum (R38). -/
  svcBy : Table Nat := []
  svcTurn : Nat := 0
  /-- Flagged packets and refused fourth passes of the last 1,024 ticks, by tick (R128, R130). -/
  flagged : List (Tick × Nat) := []
  recircRefused : List (Tick × Nat) := []
  /-- Cells of ingress staging in use, by port group of the pipeline (R24). -/
  staging : Table Nat := []
  deriving DecidableEq, Repr

/-- One row of a rule bank or of its shadow (R159, R160); the action is that of the entry that starts there. -/
structure RuleRow where
  valid : Bool := false
  value : BitVec 80 := 0
  care : BitVec 80 := 0
  action : BitVec 128 := 0
  deriving DecidableEq, Repr

/-- One staged commit of a rule operation (R165, R167). -/
inductive RuleCommit where
  /-- Write an entry at its first row. -/
  | put (row : Nat) (units : List RuleRow)
  /-- Copy the entry at `src` to `dst`. -/
  | copy (src dst : Nat)
  /-- Clear the valid flag of an entry. -/
  | clear (row : Nat)
  deriving DecidableEq, Repr

/-- A queued rule operation (R163, R164). -/
inductive RuleOpKind where
  | write (items : List (Nat × List RuleRow))
  | insert (row : Nat) (units : List RuleRow)
  | delete (rows : List Nat)
  | clear
  deriving DecidableEq, Repr

/-- A rule operation with its handle. -/
structure RuleOp where
  handle : Word
  session : Word
  opcode : Nat
  kind : RuleOpKind
  deriving DecidableEq, Repr

/-- The rule operation that is running on a bank. -/
structure RuleRun where
  op : RuleOp
  todo : List RuleCommit
  status : Half := 0
  /-- The final row of a new entry and the rows that moved; 0xFFFF where there is none (DESIGN CHOICE, log 27). -/
  finalRow : Nat := 0xFFFF
  movedLo : Nat := 0xFFFF
  movedHi : Nat := 0xFFFF
  lastTick : Tick := 0
  deriving DecidableEq, Repr

/-- A paired mismatch whose rows the next tick compares (R175). -/
structure PairCheck where
  /-- The first row of the entry concerned. -/
  row : Nat
  profile : Nat
  lookup : Nat
  /-- Each result: bank (0xFF for a miss) and first row. -/
  bankA : Nat
  rowA : Nat
  bankB : Nat
  rowB : Nat
  /-- The tick of the mismatch: its rows are compared in the next one. -/
  at' : Tick := 0
  /-- A repair since the mismatch explains it. -/
  explained : Bool := false
  deriving DecidableEq, Repr

/-- One rule bank (R159 to R176). -/
structure Bank where
  rows : Table RuleRow := []
  shadow : Table RuleRow := []
  /-- First rows of entries whose shadow is lost (R172). -/
  lost : List Nat := []
  /-- First rows of entries whose shadow holds an uncorrectable error that no read has found yet (R172). -/
  bad : List Nat := []
  /-- Rows whose cells do not take a rewrite (R171). -/
  stuck : List Nat := []
  queue : List RuleOp := []
  run : Option RuleRun := none
  /-- Operations whose writes are done and that have not been reported, oldest first (R164). -/
  ended : List RuleRun := []
  /-- The tick in which the scrub read of cycle 0 was last made (R165). -/
  scrubAt : Option Tick := none
  /-- The row slots of the maintenance port spent in the tick `slotsAt` (R165). -/
  slots : Nat := 0
  slotsAt : Tick := 0
  scrubPos : Nat := 0
  lastRepairRow : Nat := 0
  lastRepairTick : Half := 0
  checks : List PairCheck := []
  deriving DecidableEq, Repr

/-- What upsets have done to a bank since its last tick: rows with other contents, entries whose shadow holds
an uncorrectable error, and rows whose cells no longer take a rewrite (R171, R172). -/
structure BankUpset where
  rows : List (Nat × RuleRow) := []
  shadow : List Nat := []
  stuck : List Nat := []
  deriving DecidableEq, Repr

/-- The thermal governor (R178). -/
structure Governor where
  /-- The last 16 readings of each of the 24 sensors, newest first, in 1/16 °C. -/
  history : List (List Int) := []
  tg : Nat := 0x690
  primed : Bool := false
  deriving DecidableEq, Repr

/-- An L2 entry (R186, R202). -/
structure L2Entry where
  mac : Mac
  vlan : Nat
  group : Bool := false
  static : Bool := false
  dest : Nat := 0
  deriving DecidableEq, Repr

/-- An L3 host entry (R186, R197). -/
structure L3Entry where
  table : Nat
  v6 : Bool
  addr : BitVec 128
  nh : Nat
  deriving DecidableEq, Repr

/-- A prefix of an LPM table (R196, R197). -/
structure Prefix where
  table : Nat
  len : Nat
  addr : BitVec 128
  nh : Nat
  deriving DecidableEq, Repr

/-- A table command that copies have still to apply (R194, R202). -/
structure TableOp where
  handle : Word
  session : Word
  opcode : Nat
  table : Nat
  /-- The items of the command, or its argument for L2_FLUSH. -/
  items : List (List Byte)
  /-- Pipelines that have still to apply it, with the next item of each. -/
  waiting : Table Nat
  /-- Status of each named copy. -/
  status : Table Half := []
  lastTick : Tick := 0
  deriving DecidableEq, Repr

/-- A REHASH run of one copy (R201). -/
structure Rehash where
  handle : Word
  session : Word
  table : Nat
  new0 : Word
  new1 : Word
  /-- Buckets walked. -/
  walked : Nat := 0
  /-- Its work item has been dispatched. -/
  running : Bool := false
  /-- Entries have moved since the walk last began: some may have gone behind it. -/
  moved : Bool := false
  /-- The worst status of the copies of this command that have ended (R194). -/
  worst : Half := 0
  deriving DecidableEq, Repr

/-- One pipeline's copy of the forwarding tables (R185). -/
structure FwdCopy where
  l2 : Table L2Entry := []
  l3 : Table L3Entry := []
  lpm4 : List Prefix := []
  lpm6 : List Prefix := []
  nh : Table (BitVec 128) := []
  groups : Table (BitVec 192) := []
  spread : Table Word := []
  /-- Seeds in force: L2 seed0, seed1, L3 seed0, seed1 (R203). -/
  seeds : List Word := [0x5A5A0001, 0x5A5A0002, 0x5A5A0003, 0x5A5A0004]
  /-- The seed pairs that a dual table also probes, by table, the newest last (R201). -/
  dual : Table (List (Word × Word)) := []
  /-- The seed pairs that a finished run has replaced, by table, probed until the next boundary (R201). -/
  closing : Table (List (Word × Word)) := []
  /-- The tick in which the maintenance port last ran (R190). -/
  portAt : Option Tick := none
  /-- REHASH runs accepted; the first is the running one. -/
  rehash : List Rehash := []
  learns : List Learn := []
  syncIn : List Learn := []
  scrubPos : Nat := 0
  deriving DecidableEq, Repr

/-- All pipelines, banks and tables. -/
structure Path where
  pipe : Table Pipe := []
  bank : Table Bank := []
  gov : Governor := {}
  fwd : Table FwdCopy := []
  /-- Injected and generated frames that wait for slots, by pipeline, oldest first. -/
  gens : Table (List GenFrame) := []
  /-- CROSS items in the port source of PIPE1 and PIPE3: ingress port of the peer and frame (R542). -/
  xsrc : Table (List (Nat × List Byte)) := []
  /-- Packets inside the device, by their number. -/
  pkts : Table Packet := []
  nextPkt : Nat := 0
  nextOrder : Nat := 0
  /-- Packets that comparators of kind TO_MC have given the management complex, oldest first: ingress port and frame (R153,
  R427). -/
  toMc : List (Nat × List Byte) := []
  tableOps : List TableOp := []
  /-- The slices' copy of the load-spread tables: 4,096 * table + index (R199, R404). -/
  sliceSpread : Table Word := []
  deriving DecidableEq, Repr

end Sys2Proof.Machine
end

