-- ==== Sys2Proof/Machine/TypesPorts.lean ====
section
/-! DEFINITION. The state of lanes, ports and port groups, of the shared buffers and of egress, as plain data.
Chapters 04 and 14. -/

namespace Sys2Proof.Machine

/-- The states of a port (R85). -/
inductive PortState where
  | disabled | an | train | align | up | fault
  deriving DecidableEq, Repr

/-- What the Clause 73 pages of a port advertise (R86): the codes of R79 whose abilities they carry, the pause bits C0 and C1,
and the FEC bits F0 to F3. -/
structure AnPage where
  abilities : List Nat := []
  pause : Nat := 0
  fec : Nat := 0
  deriving DecidableEq, Repr

/-- A coefficient request of a partner in training (R89): the lane of the port, the tap from pre-cursor 2 on, and whether it
asks for one unit more or one less. -/
structure TapRequest where
  lane : Nat
  tap : Nat
  up : Bool
  deriving DecidableEq, Repr

/-- What auto-negotiation resolves beside the mode (R85, R86): whether the port trains, and the FEC: none, base-R or RS. -/
structure AnResult where
  training : Bool
  fec : Fin 3
  deriving DecidableEq, Repr

/-- A port whose two ends report receiver ready (R85), with the coefficient requests of the partner before it (R89). -/
structure PortTrained where
  port : Fin 130
  asked : List TapRequest
  deriving DecidableEq, Repr

/-- One port (R85, R97 to R99). -/
structure Port where
  st : PortState := .disabled
  /-- Resolved code of R79. -/
  mode : Nat := 0
  /-- FEC in use, as PORT.STATUS reports it. -/
  fec : Nat := 0
  /-- What the port advertises while it auto-negotiates, and the FEC that auto-negotiation resolved (R86). -/
  page : Option AnPage := none
  anFec : Option Nat := none
  localFault : Bool := false
  remoteFault : Bool := false
  /-- Consecutive training failures. -/
  fails : Nat := 0
  /-- AN_NO_COMMON has been raised in this episode. -/
  anEpisode : Bool := false
  /-- Tick in which the present state was entered. -/
  since : Tick := 0
  /-- Tick since which the link of an enabled port is down. -/
  downSince : Option Tick := none
  /-- Counts as disabled for egress under R99. -/
  flushed : Bool := false
  /-- Slots and FIFO share are admitted from this boundary (R85). -/
  admitAt : Tick := 0
  /-- Received pauses: priority to the FRC instant at which each ends (R97). -/
  paused : Table Dword := []
  /-- XOFF sent and standing: priority to the FRC instant of the last sending (R98). -/
  xoff : Table Dword := []
  /-- Front slots used in this tick (R82). -/
  slots : Nat := 0
  /-- Priorities whose next frame finds the staging share full (R25). -/
  blocked : List Nat := []
  deriving DecidableEq, Repr

/-- One lane's receiver and transmitter (R88 to R92, R102). -/
structure Lane where
  signal : Bool := false
  cdrLock : Bool := false
  idle : Bool := true
  /-- CTLE setting as trained or as its start gave it; the override is not part of it. -/
  ctle : BitVec 5 := 0
  snr : Byte := 0
  /-- DFE taps 1 to 6, signed 5-bit each. -/
  dfe : BitVec 30 := 0
  /-- Gain of the VGA, the taps of the receive FFE, and what the CDR has acquired. -/
  vga : Byte := 0
  ffe : List Byte := []
  cdr : Half := 0
  /-- Transmit taps in force, in the order of TX_FFE. -/
  taps : Word := 0
  /-- The last answer to a coefficient request for each tap: 1 updated, 2 maximum, 3 minimum (R89). -/
  answered : Table Nat := []
  /-- A twin lane that leaves idle: the tick of the request, until it locks (R92). -/
  leaving : Option Tick := none
  deriving DecidableEq, Repr

/-- A frame as a MAC receives it: the bytes from the destination address up to the frame check sequence, the check
sequence, whether a codeword or code block of it was bad, the FRC stamp of its arrival (R95, R393), and whether it
is still in reception when its header window is parsed (R358). -/
structure RxFrame where
  bytes : List Byte := []
  fcs : Word := 0
  codeErr : Bool := false
  stamp : Dword := 0
  early : Bool := false
  deriving DecidableEq, Repr

/-- A frame that has left a port: its bytes and whether its check sequence was inverted (R96). -/
structure TxFrame where
  port : Nat
  bytes : List Byte := []
  stomped : Bool := false
  deriving DecidableEq, Repr

/-- A frame in a receive FIFO. -/
structure FifoFrame where
  bytes : List Byte := []
  stamp : Dword := 0
  early : Bool := false
  /-- Found bad at its end (R96). -/
  bad : Bool := false
  deriving DecidableEq, Repr

/-- Lanes, ports and port groups. -/
structure Ports where
  port : Table Port := []
  lane : Table Lane := []
  /-- Frames waiting in the receive FIFO share of each port, oldest first (R83). -/
  fifo : Table (List FifoFrame) := []
  /-- Frames that have left the ports, oldest first. -/
  sent : List TxFrame := []
  deriving DecidableEq, Repr

/-! ### Buffers and egress -/

/-- Where a copy goes (R355). -/
inductive CopyDest where
  | port (n : Nat)
  | host (q : Nat)
  deriving DecidableEq, Repr

/-- The states of a copy (R356); a copy that is DONE or ABANDONED is no longer listed. -/
inductive CopyState where
  | queued | sending
  deriving DecidableEq, Repr

/-- One copy of a packet (R355 to R358). -/
structure Copy where
  die : Nat
  dest : CopyDest
  cls : Nat
  st : CopyState := .queued
  /-- Sent cut-through. -/
  cut : Bool := false
  deriving DecidableEq, Repr

/-- The cells that a die holds for a packet, by the pool charged (R349 to R351). -/
structure Charge where
  die : Nat
  source : Nat
  prio : Nat
  reserved : Nat := 0
  shared : Nat := 0
  headroom : Nat := 0
  host : Nat := 0
  deriving DecidableEq, Repr

/-- A packet in the shared buffer; its metadata stays with the pipelines under the same number. -/
structure Stored where
  bytes : List Byte := []
  /-- Found bad after reception began (R96). -/
  bad : Bool := false
  /-- A copy of it has departed (R340). -/
  departed : Bool := false
  /-- Copies at its grant. -/
  total : Nat := 0
  copies : List Copy := []
  charges : List Charge := []
  deriving DecidableEq, Repr

/-- One egress port (R361 to R367). -/
structure EgrPort where
  /-- Packets queued by class, in grant order. -/
  queue : Table (List Nat) := []
  /-- The packet and class in transmission. -/
  sending : Option (Nat × Nat) := none
  /-- Tick of the latest start, or of the first queueing since, by class. -/
  since : Table Tick := []
  /-- Classes due under R362. -/
  due : List Nat := []
  /-- Stalled classes, with the tick since which each has waited (R367). -/
  stalled : Table Tick := []
  /-- DWRR deficits in bytes, by class. -/
  deficit : Table Nat := []
  /-- DWRR class served last. -/
  turn : Nat := 0
  /-- Classes whose head frame has been counted in CAL_DEFERRED (R363). -/
  late : List Nat := []
  calSuspended : Bool := false
  deriving DecidableEq, Repr

/-- One die's buffer manager (R349 to R353). -/
structure Bm where
  /-- Cells charged to each owner, by 8 * source + priority. -/
  reserved : Table Nat := []
  shared : Table Nat := []
  headroom : Table Nat := []
  hostUsed : Nat := 0
  /-- Owners whose request has failed at step 4 and whose condition stands (R352). -/
  pressed : List Nat := []
  sharedEpisode : Bool := false
  headEpisode : Bool := false
  hostEpisode : Bool := false
  deriving DecidableEq, Repr

/-- The shared buffers and egress. -/
structure Buf where
  bm : Table Bm := []
  egr : Table EgrPort := []
  /-- Packets held, by their number. -/
  stored : Table Stored := []
  /-- Host copies that wait for receive buffers, by host queue, oldest first. -/
  hostq : Table (List Nat) := []
  /-- Transmit stamps that INJECT jobs asked for: queue, position, stamp (R453). -/
  stamped : List (Nat × Nat × Dword) := []
  deriving DecidableEq, Repr

end Sys2Proof.Machine
end

