-- ==== Sys2Proof/Machine/TypesSvc.lean ====
section
/-! DEFINITION. The state of the service cores and dispatchers, as plain data.  Chapter 20. -/

namespace Sys2Proof.Machine

/-- What a work item does (R506). -/
inductive Work where
  /-- Deliver FLOW_PUNTED for one punt entry. -/
  | flowMiss (slice punt : Nat)
  /-- Attend to a long flow operation on one slice. -/
  | sweep (handle : Word) (slice : Nat)
  /-- Install one learn in the copies of the other pipelines. -/
  | learnSync (pipe : Nat) (l : Learn)
  /-- A command step that the MC delegates. -/
  | mgmt (handle : Word)
  /-- Build the messages of one stream event, raised in a tick and at an FRC value. -/
  | stream (code : Nat) (detail : List Byte) (tick : Tick) (frc : Dword)
  /-- Run one REHASH. -/
  | rehash (pipe table : Nat)
  /-- Attend to an export queue. -/
  | exportQ (queue : Nat)
  /-- Process a terminated PTP frame. -/
  | ptp (port : Nat) (stamp : Dword) (frame : List Byte)
  /-- The servo step, with the offset and rate that the firmware has measured. -/
  | servo
  deriving DecidableEq, Repr

/-- The class of a work item (R506). -/
def Work.cls : Work → Nat
  | .flowMiss _ _ => 0 | .sweep _ _ => 1 | .learnSync _ _ => 2 | .mgmt _ => 3 | .stream _ _ _ _ => 4
  | .rehash _ _ => 5 | .exportQ _ => 6 | .ptp _ _ _ => 7 | .servo => 7

/-- A posted work item. -/
structure Item where
  work : Work
  /-- Tick in which it became ready. -/
  ready : Tick
  /-- It holds a context slot (R512). -/
  ctx : Bool := false
  /-- Treated as priority 7 (R513). -/
  aged : Bool := false
  /-- It has started once. -/
  started : Bool := false
  deriving DecidableEq, Repr

/-- One core. -/
structure Core where
  running : Option Item := none
  /-- Order number of the latest start or idling. -/
  since : Nat := 0
  /-- Core cycles spent in the present period of 1,024 ticks. -/
  cycles : Nat := 0
  load : Nat := 0
  deriving DecidableEq, Repr

/-- One die's dispatcher and cores. -/
structure ScDie where
  /-- Ready items, in list order. -/
  ready : List Item := []
  /-- Delay lists: due tick and item, in order of due tick. -/
  delay : List (Tick × Item) := []
  core : Table Core := []
  /-- An episode of full delay lists. -/
  delayFull : Bool := false
  /-- Starts and idlings so far. -/
  serial : Nat := 0
  deriving DecidableEq, Repr

/-- The service cores of both dies. -/
structure Svc where
  die : Table ScDie := []
  deriving DecidableEq, Repr

end Sys2Proof.Machine
end

