-- ==== Sys2Proof/Machine/TypesTime.lean ====
section
/-! DEFINITION. The state of the time unit, of the journal and capture rings and of the measurement units, as plain
data.  Chapters 13, 15 and 21. -/

namespace Sys2Proof.Machine

/-! ### Time -/

/-- A parameter set of a domain (R380, R384). -/
structure TimeSet where
  seq : Word
  epoch : Half
  cause : Nat
  anchor : Dword
  validFrom : Dword
  baseS : Nat
  baseNs : Nat
  baseFrac : Nat
  rate : Int
  deriving DecidableEq, Repr

/-- A set that waits for its valid_from, with the response that it completes (R383). -/
structure PendingSet where
  set : TimeSet
  resp : Option Response := none
  deriving DecidableEq, Repr

/-- One domain (R380 to R385): its kept sets, oldest first, of which the last is in force. -/
structure Domain where
  sets : List TimeSet := []
  pending : Option PendingSet := none
  /-- Servo state: 0 FREE, 1 ACQUIRING, 2 LOCKED, 3 HOLDOVER. -/
  servo : Nat := 0
  /-- Tick of the servo's latest RATE (R385). -/
  lastRate : Option Tick := none
  deriving DecidableEq, Repr

/-- What the firmware servo decides at one step (R385): its state, and 0 nothing, 1 a rate, 2 a seed or 3 a reseed. -/
structure ServoStep where
  domB : Bool := false
  servo : Nat := 0
  act : Nat := 0
  anchor : Dword := 0
  baseS : Nat := 0
  baseNs : Nat := 0
  baseFrac : Nat := 0
  rate : Int := 0
  deriving DecidableEq, Repr

/-- One PPS output (R389, R390). -/
structure Pps where
  active : Bool := false
  lastSecond : Option Nat := none
  /-- Domain and epoch at the latest judgement of a second: a change of either is a step of the selected domain. -/
  seen : Option (Bool × Nat) := none
  deriving DecidableEq, Repr

/-- One time-stamp input (R391, R392). -/
structure Tsi where
  fifo : List (List Byte) := []
  /-- Edges discarded since the last entry written. -/
  lost : Nat := 0
  deriving DecidableEq, Repr

/-- The time unit. -/
structure Tu where
  domA : Domain := {}
  domB : Domain := {}
  /-- The selected domain: true for B (R388). -/
  selected : Bool := false
  switchPending : Bool := false
  /-- TREF loss and PLL unlock in force (R378). -/
  trefAlarm : Bool := false
  pllAlarm : Bool := false
  tref : Nat := 0
  locked : Bool := false
  /-- FRC check failure in force, and the consecutive good ticks since (R379). -/
  frcFail : Bool := false
  frcGood : Nat := 0
  frcCount : Nat := 0
  /-- Domain disagreement in force, and the consecutive ticks that agreed since (R386). -/
  disagree : Bool := false
  agreed : Nat := 0
  pps : Table Pps := []
  tsi : Table Tsi := []
  deriving DecidableEq, Repr

/-! ### Journal and capture -/

/-- One ring: instance 0 the journal, 1 + r capture ring r (R327 to R344). -/
structure Ring where
  /-- Free-running counts: entries of the journal, blocks of a capture ring. -/
  write : Dword := 0
  read : Dword := 0
  /-- Items held, oldest first: the position of each, its length in entries or blocks, and its bytes; no bytes where its
  block lies on a channel that was away (R330). -/
  items : List (Dword × Nat × List Byte) := []
  /-- Items lost since the previous entry, and the entries or blocks of the largest of them (R333). -/
  owed : Nat := 0
  owedSize : Nat := 0
  /-- While an export is bound: starts of the items overwritten that it has not yet passed (R339, R343). -/
  gone : List Dword := []
  /-- An episode of a full ring. -/
  fullEpisode : Bool := false
  /-- The fill lies at or above FILL_THRESHOLD. -/
  above : Bool := false
  /-- Bound export queue (R343). -/
  queue : Option Nat := none
  /-- Records offered since the ring was emptied (R341). -/
  offered : Dword := 0
  deriving DecidableEq, Repr

/-- The 64-byte accesses that a DDR5 channel has served in this tick: record, journal, capture and export (R41). -/
structure ChanUse where
  rec' : Nat := 0
  jnl : Nat := 0
  cap : Nat := 0
  exp : Nat := 0
  deriving DecidableEq, Repr

/-- The JNL unit. -/
structure Jnl where
  ring : Table Ring := []
  /-- Journal FIFOs: 0 to 15 the slices', 16 the time unit's (R338). -/
  fifo : Table (List (List Byte)) := []
  /-- FIFO served last. -/
  turn : Nat := 0
  /-- Capture records staged on each die, oldest first: ring and bytes (R342). -/
  staging : Table (List (Nat × List Byte)) := []
  /-- Channels present at the end of Kindling (R327). -/
  channels : List Nat := []
  /-- GiB of the smallest of them. -/
  gib : Nat := 0
  /-- The turf region exists (R328). -/
  turfs : Bool := false
  /-- What each DDR5 channel has served in this tick (R41). -/
  chan : Table ChanUse := []
  deriving DecidableEq, Repr

/-! ### Sampling -/

/-- One pipeline's sampler (R525 to R528). -/
structure Sampler where
  /-- Packets counted in mode NTH. -/
  count : Nat := 0
  seq : Dword := 0
  write : Dword := 0
  /-- The last 4,096 records, oldest first. -/
  ring : List (List Byte) := []
  deriving DecidableEq, Repr

/-- The measurement units: samplers.  Counters and peaks are kept with the other counters. -/
structure Pmon where
  smp : Table Sampler := []
  deriving DecidableEq, Repr

end Sys2Proof.Machine
end

