-- ==== Sys2Proof/Machine/TypesTwin.lean ====
section
/-! DEFINITION. The state of the twin pair, as plain data.  Chapter 22. -/

namespace Sys2Proof.Machine

/-- The states of a half-link (R534). -/
inductive LinkState where
  | down | hunt | align | up
  deriving DecidableEq, Repr

/-- The states of the pair (R541). -/
inductive PairState where
  | alone | forming | incompatible | split | rejoining | inSync | outOfSync
  deriving DecidableEq, Repr

/-- A delta that waits in a lag buffer: the record's slice and digest, and its item without the sequence (R543).  A
DELTA item is 48 bytes, or 96 for a wide record. -/
structure Delta where
  slice : Nat
  digest : Dword
  item : List Byte
  deriving DecidableEq, Repr

/-- A link frame sent and not yet acknowledged (R536). -/
structure LinkFrame where
  kind : Nat
  seq : Half
  payload : List Byte
  /-- Tick of its latest sending. -/
  since : Tick
  deriving DecidableEq, Repr

/-- One half-link (R532 to R537). -/
structure HalfLink where
  st : LinkState := .down
  /-- Physical lanes in block lock. -/
  locked : Byte := 0
  /-- Lane number received on each physical lane, 3 bits each. -/
  order : BitVec 24 := 0
  nextSeq : Half := 0
  expect : Half := 0
  unacked : List LinkFrame := []
  /-- Frames that wait for room in the replay buffer. -/
  waiting : List (Nat × List Byte) := []
  /-- Consecutive resends of the oldest frame without progress. -/
  resends : Nat := 0
  /-- A negative acknowledgement stands for the expected sequence. -/
  nakOut : Bool := false
  /-- Frames put on the link, oldest first, as bytes. -/
  sent : List (List Byte) := []
  /-- Accepted items that wait, oldest first: kind and bytes. -/
  rx : List (Nat × List Byte) := []
  /-- Accepted CROSS items that wait. -/
  rxCross : List (List Byte) := []
  /-- Cross-frame credits held, in cells, and those granted to the peer. -/
  credits : Nat := 0
  granted : Nat := 0
  deriving DecidableEq, Repr

/-- A hand-over in progress on the active (R551). -/
structure Handover where
  handle : Word
  toConfigure : Bool
  start : Tick
  /-- Its last operation has committed and its lag buffers are empty. -/
  drained : Bool := false
  final0 : Word := 0
  final1 : Word := 0
  deriving DecidableEq, Repr

/-- The bulk walk of one die (R547): slices that have still buckets to walk, with the next of each, and the turn. -/
structure Walk2 where
  next : Table Nat := []
  turn : Nat := 0
  deriving DecidableEq, Repr

/-- The twin pair as this device holds it. -/
structure Twin where
  /-- 0 none, 1 active, 2 standby. -/
  role : Nat := 0
  pair : PairState := .alone
  version : Nat := 0
  mismatch : Nat := 0
  yields : Bool := false
  peerPin : Bool := false
  peerSerial : Dword := 0
  /-- The last HELLO and heartbeat received. -/
  hello : List Byte := []
  beat : List Byte := []
  /-- A heartbeat has arrived in this tick. -/
  beatSeen : Bool := false
  missed : Nat := 0
  /-- A takeover falls due at step 4 of the next boundary, with its cause: 0 heartbeat, 1 peer SAFE, 2 hand-over. -/
  takeover : Option Nat := none
  offset : Tick := 0
  /-- Lag buffers, by die. -/
  lag : Table (List Delta) := []
  /-- Last sequence sent, or received on a standby, and last applied, by die. -/
  sent0 : Word := 0
  sent1 : Word := 0
  applied0 : Word := 0
  applied1 : Word := 0
  /-- Follow lists, by slice (R546). -/
  follow : Table (List Dword) := []
  /-- The bulk walk, by die, while REJOINING on the active. -/
  walk : Table Walk2 := []
  walking : Bool := false
  /-- Buckets walked or applied. -/
  buckets : Nat := 0
  /-- Bulk items sent in this rejoin. -/
  bulkSent : Nat := 0
  /-- Sequences of the last deltas sent when the walk ended (R548). -/
  endSeq : Option (Word × Word) := none
  /-- The standby has cleared its flow state (R547). -/
  ready : Bool := false
  clearing : Bool := false
  handover : Option Handover := none
  /-- Entered SAFE: told in the heartbeat (R549). -/
  safeFlag : Bool := false
  /-- On a standby: the tick since which the active has been handing over (R551). -/
  peerHanding : Option Tick := none
  /-- A CONTROL item that arrives in pieces: its type and the bytes so far (R545). -/
  ctlType : Nat := 0
  ctlBuf : List Byte := []
  half : Table HalfLink := []
  /-- In this tick: bytes put on the twin link, bytes of bulk items by die, and FOLLOW items sent (R44). -/
  linkUse : Nat := 0
  bulkUse : Table Nat := []
  followUse : Nat := 0
  deriving DecidableEq, Repr

end Sys2Proof.Machine
end

