-- ==== Sys2Proof/Syntax.lean ====
section
/-! DEFINITION. The commands of the device: one constructor for each row of the opcode table, in its order. -/

namespace Sys2Proof

open Sys2Proof.Machine

/-- The commands.  A constructor's docstring gives its mnemonic, the rule of its row and what the row says.
A request of the management protocol carries a `Req`; the bytes of its argument are the request's payload. -/
inductive Instr where
  /-- RESET_ASSERT (R60). RST_N or PWR_GOOD goes low and the device enters RESET at once, losing all state but the boot flash. -/
  | resetAssert (ns : Nat)
  /-- RESET_RELEASE (R60). RST_N and PWR_GOOD are both high; BOOT_MODE and TWIN_ROLE are sampled and Kindling step 1 starts. -/
  | resetRelease (bootMode : BitVec 2) (twinRole : Bool)
  /-- KINDLING_STEP_DONE (R66). A timed Kindling step or branch completes, and the next step or branch starts. -/
  | kindlingStepDone (step : KStep) (f : KindlingFound)
  /-- TREF_LOCK_RETRY (R67). The 100 ms retry of a PLL lock that failed at Kindling step 3 falls due. -/
  | trefLockRetry (f : KindlingFound)
  /-- TICK_BOUNDARY (R34). The tick strobe: the tick count is incremented and the twelve ordered boundary steps are applied. -/
  | tickBoundary (f : TickFound)
  /-- TICK_OVERRUN (R52). A unit has not signalled completion when the next tick begins, and it is taken out of service or the device enters SAFE. -/
  | tickOverrun (u : UnitId)
  /-- CREATE_EXPIRED (R50). A waiting creation reaches its wait limit and meets its template's overflow action together with its flow's waiters. -/
  | createExpired (n : Fin 16)
  /-- HOLD_EXPIRED (R50). A held operation reaches its wait limit and is resolved by its effective disposition. -/
  | holdExpired (n : Fin 16)
  /-- ZALUA_TICK_CHECKS (R47). Zalua performs its per-tick checks of mirror, domains, oscillator, thermal and supply summaries. -/
  | zaluaTickChecks (f : TickChecks)
  /-- FRC_CHECK_FAIL (R379). The island oscillator count over a tick or 1,024 ticks leaves its window and stamps are marked invalid. -/
  | frcCheckFail (long : Bool) (n : Nat)
  /-- TREF_ALARM (R378). The TREF or PLL lock monitor detects a loss or its end. -/
  | trefAlarm (tref pll : Bool)
  /-- CORE_PLL_UNLOCK (R559). A core PLL lock monitor detects a loss of lock and cause CORE_PLL is recorded. -/
  | corePllUnlock (die : Fin 2)
  /-- SUPPLY_FAULT (R593). A rail leaves its monitor window and cause SUPPLY is recorded. -/
  | supplyFault (rail : Fin 13) (uv : Nat)
  /-- LOCKSTEP_MISMATCH (R559). The lockstep comparison of the Zalua cores fails and a latched fault is recorded. -/
  | lockstepMismatch
  /-- ISLAND_SILENT (R562). A die misses two alive strobes and enters the effect of SAFE by hardware. -/
  | islandSilent (die : Fin 2)
  /-- DIE_LINK_FAIL (R23). A die-to-die transfer does not succeed within one tick, which is a latched dangerous fault. -/
  | dieLinkFail (channel : Fin 3)
  /-- SAFE_REQ_N_LOW (R564). A filtered low level on SAFE_REQ_N is accepted and cause SAFE_REQ is recorded. -/
  | safeReqNLow
  /-- SAFE_REQ_N_HIGH (R564). A filtered high level on SAFE_REQ_N is accepted and the condition of cause SAFE_REQ clears. -/
  | safeReqNHigh
  /-- MODE_QUERY (R59). Returns the mode, any pending transition and the out-of-service units. -/
  | modeQuery (r : Req)
  /-- MODE_SET (R60). Requests CONFIGURE, SERVICE or TEST, or releases a Kindling hold. -/
  | modeSet (r : Req)
  /-- RESUME (R567). Requests the way out of SAFE when every cause has cleared and been acknowledged. -/
  | resume (r : Req)
  /-- SAFE_ENTER (R60). Host request for SAFE, recorded as cause HOST. -/
  | safeEnter (r : Req)
  /-- UNIT_OUT (R71). Takes a named unit out of service at its boundary. -/
  | unitOut (r : Req)
  /-- UNIT_REJOIN (R71). Starts the REJOIN rebuild of a named out-of-service unit. -/
  | unitRejoin (r : Req)
  /-- TEST_CLEAR_DONE (R60). The long clearing of loopbacks, tiers and learned entries from TEST to CONFIGURE completes. -/
  | testClearDone
  /-- REJOIN_COMPLETE (R72). A unit's rebuild ends and is verified or fails. -/
  | rejoinComplete (u : UnitId) (b : RebuildResult)
  /-- CAL_READ (R497). Returns 4,000 bytes of the working calibration copy. -/
  | calRead (r : Req)
  /-- CAL_WRITE (R76). Stores host-supplied calibration sections as a complete record. -/
  | calWrite (r : Req)
  /-- CAL_RUN (R77). Starts a calibration measurement procedure. -/
  | calRun (r : Req)
  /-- CAL_RUN_DONE (R77). A calibration procedure finishes its measurement and stores or returns the values. -/
  | calRunDone (values : List Byte)
  /-- CAL_STORED (R76). A calibration store finishes its write, read-back and erase stages. -/
  | calStored (intact : Bool)
  /-- FW_STAGE (R497). Begins, writes data of, or commits a staged firmware image in the inactive slot. -/
  | fwStage (r : Req)
  /-- FW_QUERY (R497). Returns versions, lengths and CRCs of both firmware slots. -/
  | fwQuery (r : Req)
  /-- FW_STAGED (R497). A firmware COMMIT finishes its CRC check and directory rewrite. -/
  | fwStaged
  /-- PORT_ENABLE (R85). Setting ctrl.enable starts a port from DISABLED into AN, TRAIN or ALIGN. -/
  | portEnable (n : Fin 130)
  /-- PORT_DISABLE (R85). Clearing ctrl.enable, a group leaving service or a mode change disables a port. -/
  | portDisable (n : Fin 130) (cut : Bool)
  /-- PG_MODE_WRITE (R81). A port-group mode write disables every port of the group and starts the new ports at its boundary. -/
  | pgModeWrite (g : Fin 16) (v : Word) (rx : List Nat)
  /-- AN_RESOLVED (R85). Auto-negotiation resolves the highest common technology and the port moves to TRAIN or ALIGN. -/
  | anResolved (n : Fin 130) (code : Fin 11) (r : AnResult)
  /-- AN_NO_COMMON (R85). Partner pages arrive with no common technology. -/
  | anNoCommon (n : Fin 130) (abilities : Dword)
  /-- TRAIN_DONE (R85). Both ends report receiver ready and the port moves to ALIGN. -/
  | trainDone (d : PortTrained)
  /-- TRAIN_TIMEOUT (R85). The training wait timer expires and the failure is counted. -/
  | trainTimeout (n : Fin 130)
  /-- LINK_UP (R85). Lock and alignment are achieved on all lanes and the port goes UP. -/
  | linkUp (n : Fin 130) (rx : List Lane)
  /-- ALIGN_TIMEOUT (R85). Alignment is not achieved within 100 ms and the port returns to its entry state. -/
  | alignTimeout (n : Fin 130)
  /-- LINK_DOWN (R85). Loss of signal, lock, alignment or hi_ber takes an UP port to its entry state. -/
  | linkDown (n : Fin 130) (cause : Fin 4) (cut : Bool)
  /-- REMOTE_FAULT (R85). A remote fault is received and the port goes to FAULT. -/
  | remoteFault (n : Fin 130)
  /-- REMOTE_FAULT_CLEAR (R85). The remote fault clears and the port returns to UP. -/
  | remoteFaultClear (n : Fin 130)
  /-- FEC_DEGRADED (R104). FEC symbol errors in a 1,024-tick period exceed the threshold. -/
  | fecDegraded (n : Fin 130) (corrected uncorrected symbols : Nat)
  /-- LANE_IDLE_EXIT_FAIL (R92). A twin lane is not locked within one tick of leaving idle. -/
  | laneIdleExitFail (l : Fin 16)
  /-- PAUSE_FRAME_RX (R97). A pause or PFC frame is received and the priorities it stops are paused. -/
  | pauseFrameRx (n : Fin 130) (c : Fin 1350) (pfc : Bool) (vector : Byte) (quanta : List Half)
  /-- XOFF_REPEAT (R98). Half the XOFF quanta elapse while the pause condition holds, and XOFF is sent again. -/
  | xoffRepeat (n : Fin 130) (c : Fin 1350) (prio : Fin 8)
  /-- PORT_DOWN_FLUSH (R99). A link stays down for flush_ms and the port counts as disabled for egress. -/
  | portDownFlush (n : Fin 130)
  /-- FRAME_RX (R95). A frame is received at the MAC, checked, and admitted to or refused from its receive FIFO share. -/
  | frameRx (n : Fin 130) (f : RxFrame)
  /-- PIPELINE_PASS (R132). A packet given a slot is parsed, its profile chosen, its lookups run and its actions merged. -/
  | pipelinePass (p : Fin 4) (src : PassSource) (found : PassFound)
  /-- FLOW_OP_ACCEPT (R240). A slice accepts an operation, which takes an in-flight entry and starts lookup or joins a wait list. -/
  | flowOpAccept (n : Fin 16) (u u2 : ReadUpset)
  /-- STACK_PROBE_REPLY (R279). The Stack probe returns a matching slot or a miss reply, and the operation executes, forwards or goes on. -/
  | stackProbeReply (n : Fin 16) (d : Dword) (u : ReadUpset)
  /-- COLD_SUMMARY_READ (R285). The cold summary of B0 arrives and decides whether turf candidates exist. -/
  | coldSummaryRead (n : Fin 16) (d : Dword) (ue : Bool)
  /-- TURF_CANDIDATE_READ (R285). A turf candidate read completes and the entry enters HOLD or the lookup misses. -/
  | turfCandidateRead (n : Fin 16) (d : Dword) (u : ReadUpset)
  /-- PROMOTION_GRANT (R286). A held operation is granted a promotion and its entry is placed by slot, relocation, swap or in place. -/
  | promotionGrant (n : Fin 16)
  /-- CREATE_GRANT (R249). A waiting creation is granted its budget and the record is built from its template or overflows. -/
  | createGrant (n : Fin 16)
  /-- FLOW_OP_EXECUTE (R222). An operation runs its flow program in a lane and commits the record with a new tag. -/
  | flowOpExecute (n : Fin 16) (d : Dword)
  /-- PUNT_TIMEOUT (R252). A pending punt reaches its timeout and its parked operations receive timeout_verdict. -/
  | puntTimeout (n : Fin 16)
  /-- FLOW_RESULT_ARRIVE (R242). A flow result reaches its pipeline, which applies the rewrite and moves the packet on in result order. -/
  | flowResultArrive (p : Fin 4) (n : Fin 16) (cycles : Nat)
  /-- FLOW_RESULT_TIMEOUT (R247). A pipeline waits RESULT_WATCHDOG ticks for a result and discards the packet. -/
  | flowResultTimeout (k : Nat)
  /-- CELL_REQUEST (R351). A packet requests shared-buffer cells on an egress die and is granted or fails and retries. -/
  | cellRequest (k : Nat) (d : Fin 2) (rx clear metaErr : Bool)
  /-- FRAME_TX_START (R361). The egress scheduler starts a frame of the chosen class on a port. -/
  | frameTxStart (n : Fin 130) (ns : Fin 1000)
  /-- FRAME_TX_DONE (R356). A copy's last byte is transmitted, and the last copy frees the packet's cells. -/
  | frameTxDone (n : Fin 130) (stamp : Dword)
  /-- TX_UNDERRUN (R360). A cut-through copy needs a byte not yet in the buffer and is ended with an inverted FCS. -/
  | txUnderrun (n : Fin 130)
  /-- EGR_CLASS_DUE (R362). A class with a frame ready has started none for 16 ticks and becomes due. -/
  | egrClassDue (n : Fin 130) (c : Fin 8)
  /-- EGR_STALL (R367). A class has started no frame for STALL_TICKS ticks and is stalled. -/
  | egrStall (n : Fin 130) (c : Fin 8)
  /-- FWD_MAINT_TICK (R190). A pipeline's forwarding maintenance port performs its per-tick writes, learns, rehash moves and scrub. -/
  | fwdMaintTick (p : Fin 4)
  /-- REHASH_DONE (R201). A REHASH run ends, replacing the seeds or leaving dual probing. -/
  | rehashDone (p : Fin 4)
  /-- RB_MAINT_TICK (R165). A bank's maintenance port scrubs one row and uses its sixteen row slots. -/
  | rbMaintTick (b : Fin 64) (u : BankUpset)
  /-- RULE_OP_DONE (R164). A queued rule operation completes its row writes. -/
  | ruleOpDone (b : Fin 64)
  /-- RULE_WRITE (R163). Writes up to 64 entries at named rows. -/
  | ruleWrite (r : Req)
  /-- RULE_INSERT (R167). Inserts an entry above a named row by block shift. -/
  | ruleInsert (r : Req)
  /-- RULE_DELETE (R163). Invalidates up to 64 named entries. -/
  | ruleDelete (r : Req)
  /-- RULE_READ (R618). Returns entries from the committed shadow. -/
  | ruleRead (r : Req)
  /-- BANK_CLEAR (R163). Invalidates every entry of a bank. -/
  | bankClear (r : Req)
  /-- RB_WIDTH_WRITE (R161). A bank width change invalidates every entry at its boundary. -/
  | rbWidthWrite (b : Fin 64) (code : Fin 3)
  /-- RB_PAIR_WRITE (R173). A pairing copies the bank's shadow into its partner through REJOIN. -/
  | rbPairWrite (b : Fin 64) (v : Word)
  /-- GRAPH_LOAD (R616). Writes a parse-graph image into the inactive bank of named pipelines. -/
  | graphLoad (r : Req)
  /-- GRAPH_SWITCH (R126). Makes the loaded graph bank active at step 8. -/
  | graphSwitch (r : Req)
  /-- PROFILE_LOAD (R617). Writes a profile image into the inactive profile bank. -/
  | profileLoad (r : Req)
  /-- PROFILE_SWITCH (R147). Makes the loaded profile bank active, optionally with the graph. -/
  | profileSwitch (r : Req)
  /-- BANKMASK_COMMIT (R146). Replaces lookup bank masks atomically at step 8. -/
  | bankmaskCommit (r : Req)
  /-- PARSE_ERR_RATE (R128). Flagged packets in a 1,024-tick period exceed ERR_THRESHOLD. -/
  | parseErrRate (p : Fin 4)
  /-- TABLE_WRITE (R202). Writes forwarding-table entries in named pipeline copies. -/
  | tableWrite (r : Req)
  /-- TABLE_DELETE (R202). Removes forwarding-table entries by key or index. -/
  | tableDelete (r : Req)
  /-- TABLE_READ (R619). Returns entries from one forwarding-table copy. -/
  | tableRead (r : Req)
  /-- L2_FLUSH (R202). Removes L2 entries matching a port, a VLAN or both. -/
  | l2Flush (r : Req)
  /-- REHASH (R201). Starts moving an exact table to new seeds. -/
  | rehash (r : Req)
  /-- TABLE_OP_DONE (R202). A table command has been applied by every named copy. -/
  | tableOpDone
  /-- FLOW_READ (R256). Returns flow entries by key with their tier. -/
  | flowRead (r : Req)
  /-- FLOW_WRITE (R259). Writes whole flow records under a create, replace or either mode. -/
  | flowWrite (r : Req)
  /-- FLOW_MODIFY (R260). Writes selected fields of existing records. -/
  | flowModify (r : Req)
  /-- FLOW_DELETE (R254). Deletes records by key. -/
  | flowDelete (r : Req)
  /-- FLOW_SWEEP (R255). Starts a sweep that deletes idle records matching criteria. -/
  | flowSweep (r : Req)
  /-- FLOW_PUNT_RELEASE (R252). Resolves pending punts with a DENY or PASS-STATELESS verdict. -/
  | flowPuntRelease (r : Req)
  /-- FLOW_REPIN (R314). Starts changing pinned members held in records. -/
  | flowRepin (r : Req)
  /-- TURF_EVACUATE (R423). Starts moving turf entries into the Stack tier. -/
  | turfEvacuate (r : Req)
  /-- SWEEP_TICK (R255). Each slice examines up to 64 records for a sweep, repin or evacuation in its reservation. -/
  | sweepTick (n : Fin 16)
  /-- FLOW_SWEEP_DONE (R255). A sweep finishes its pass and reports its counts. -/
  | flowSweepDone
  /-- FLOW_REPIN_DONE (R314). A repin finishes its pass. -/
  | flowRepinDone
  /-- TURF_EVACUATE_DONE (R423). An evacuation finishes and reports entries moved and left. -/
  | turfEvacuateDone
  /-- FLOW_PROG_LOAD (R228). Loads a program image for all slices at a boundary. -/
  | flowProgLoad (r : Req)
  /-- FLOW_TEMPLATE_WRITE (R231). Writes up to 64 creation templates. -/
  | flowTemplateWrite (r : Req)
  /-- FLOW_TEMPLATE_READ (R621). Returns templates in force. -/
  | flowTemplateRead (r : Req)
  /-- FLOW_PROG_READ (R621). Returns part of the program image in force. -/
  | flowProgRead (r : Req)
  /-- POOL_DEFINE (R300). Defines or redefines a translation pool. -/
  | poolDefine (r : Req)
  /-- POOL_DELETE (R308). Removes a translation pool. -/
  | poolDelete (r : Req)
  /-- POOL_READ (R300). Returns a pool definition with its per-slice pair counts. -/
  | poolRead (r : Req)
  /-- POINTER_INSTALL (R216). The pointer's home slice installs a reverse pointer as an operation. -/
  | pointerInstall (n : Fin 16)
  /-- BIND_ACK (R216). The installation acknowledgement sets the primary's bound flag. -/
  | bindAck (n : Fin 16)
  /-- POINTER_DEMOTE (R290). A pointer-demotion item arrives and the pointer is demoted as migration work. -/
  | pointerDemote (n : Fin 16)
  /-- DEMOTER_TICK (R288). The demoter scans slots and demotes eligible records for the tick. -/
  | demoterTick (n : Fin 16)
  /-- DEMOTION_DONE (R291). A demotion's turf write, summary write and Stack invalidation complete or are undone. -/
  | demotionDone (n : Fin 16) (d : Dword) (fail : Option (Fin 3))
  /-- TURF_CLEAR_ACK (R292). A promotion's summary clear is acknowledged and the turf slot leaves the pending-clear list. -/
  | turfClearAck (n : Fin 16) (ok : Bool)
  /-- HEARTH_SCRUB (R276). The Hearth scrubber reads and corrects 8 sets. -/
  | hearthScrub (n : Fin 16)
  /-- SUMMARY_REBUILD (R296). A summary with an uncorrectable error is rebuilt from its 16 turf slots. -/
  | summaryRebuild (n : Fin 16)
  /-- TRANS_FETCH_DONE (R302). A translation bitmap word fetch completes and waiting creations proceed. -/
  | transFetchDone (n : Fin 16) (k : Fin 4096)
  /-- WHEEL_EXAMINE (R320). The timer wheel examines up to 256 due entries at a boundary. -/
  | wheelExamine (n : Fin 16)
  /-- EXPIRY_OP (R321). An expiry operation clears armed and may store the silence verdict. -/
  | expiryOp (n : Fin 16)
  /-- JNL_BLOCK_WRITE (R338). The JNL unit writes a block of journal entries and advances the write count. -/
  | jnlBlockWrite
  /-- CAPTURE_WRITE (R342). A staged capture record is written to its ring. -/
  | captureWrite (d : Fin 2)
  /-- JNL_CONSUMED_WRITE (R332). A host write of CONSUMED advances a ring's read count. -/
  | jnlConsumedWrite (i : Fin 9) (p : Dword)
  /-- JNL_REGION_WRITE (R327). A write of a ring base or size empties that ring. -/
  | jnlRegionWrite (i : Fin 10) (base size : Half)
  /-- EXPORT_FILL (R343). An export item fills posted buffers from a ring and writes their completions. -/
  | exportFill (q : Fin 1024) (ue : Bool)
  /-- EXPORT_LINGER_EXPIRY (R456). A partly filled export buffer has waited EXPORT_LINGER ticks and completes. -/
  | exportLingerExpiry (q : Fin 1024)
  /-- TIME_QUERY (R399). Returns FRC, domain times, identities and quality for one instant. -/
  | timeQuery (r : Req)
  /-- DOMAIN_SEED (R382). Seeds an unseeded domain. -/
  | domainSeed (r : Req)
  /-- DOMAIN_RATE (R382). Changes a domain's rate. -/
  | domainRate (r : Req)
  /-- DOMAIN_RESEED (R382). Reseeds a domain and raises its epoch. -/
  | domainReseed (r : Req)
  /-- DOMAIN_SELECT (R388). Requests the domain that drives PPS and one-step stamps. -/
  | domainSelect (r : Req)
  /-- DOMAIN_SETS_READ (R384). Returns the kept parameter sets of a domain. -/
  | domainSetsRead (r : Req)
  /-- STAMP_CONVERT (R384). Converts FRC stamps with identities to domain time. -/
  | stampConvert (r : Req)
  /-- TSI_READ (R392). Removes and returns entries of a TSI FIFO. -/
  | tsiRead (r : Req)
  /-- DOMAIN_SET (R383). A new parameter set comes into force at its valid_from. -/
  | domainSet (b : Bool)
  /-- DOMAIN_RENEWAL (R382). FRC minus anchor reaches 2^62 units and the TU makes a renewal set. -/
  | domainRenewal (b : Bool)
  /-- PPS_PULSE_START (R389). Selected domain time reaches a whole second and a PPS pulse starts. -/
  | ppsPulseStart (k : Fin 2) (f : Dword)
  /-- TSI_EDGE (R391). A filtered edge on a TSI input is stamped and stored in its FIFO. -/
  | tsiEdge (i : Fin 8) (rising : Bool) (f : Dword)
  /-- MEM_REFRESH (R42). A refresh window of a channel or pseudo-channel falls at its calendar position. -/
  | memRefresh (c : Bool) (k : Fin 128)
  /-- MEM_RETRAIN (R412). A retraining window re-centres timing or recalibrates ZQ. -/
  | memRetrain (c : Bool) (k : Fin 128) (drift : Option Byte)
  /-- MEM_TEMP_READ (R411). A unit reads its device temperature every 1,024 ticks. -/
  | memTempRead (c : Bool) (k : Fin 128) (temp : Byte)
  /-- MEM_PATROL_SCRUB (R410). Patrol scrub reads spare locations and writes back corrections. -/
  | memPatrolScrub (c : Bool) (k : Fin 128) (found : List ReadErr)
  /-- MEM_READ_COMPLETE (R416). A memory read returns and its ECC is checked, corrected or re-read. -/
  | memReadComplete (c : Bool) (k : Fin 128) (addr : Nat) (req : Fin 6) (e : ReadErr)
  /-- MEM_ALERT (R418). A parity or write CRC alert stops the controller, which replays or answers with errors. -/
  | memAlert (c : Bool) (k : Fin 128) (addr : Nat) (crc : Bool) (req : Fin 6)
  /-- CHANNEL_DOWN (R421). Starts powering down a pseudo-channel or DDR5 channel. -/
  | channelDown (r : Req)
  /-- CHANNEL_DRAIN_EXPIRY (R421). DRAIN_TICKS pass, remaining transfers are aborted and the unit powers down. -/
  | channelDrainExpiry (c : Bool) (k : Fin 128) (aborted : List (Nat × Nat))
  /-- MEM_ERRLOG_READ (R420). Returns and optionally clears a controller's error log. -/
  | memErrlogRead (r : Req)
  /-- BOOT_FRAME_RX (R429). A bootstrap MESSAGE frame is received and executed, repeated or refused by sequence. -/
  | bootFrameRx (n : Fin 130) (c : Fin 1350) (f : List Byte) (data : Option (List Byte))
  /-- BOOT_DISCOVER (R428). A DISCOVER frame is answered by an ANNOUNCE from each enabled host port. -/
  | bootDiscover (h : Fin 2) (f : List Byte)
  /-- ARP_REQUEST_RX (R426). An ARP request or neighbour solicitation for a host port is answered. -/
  | arpRequestRx (h : Fin 2) (f : List Byte)
  /-- ROCE_REQUEST_RX (R432). A RoCEv2 request is received, accepted at the expected PSN or NAKed. -/
  | roceRequestRx (q : Fin 256) (psn : BitVec 24) (icrc : Bool) (f : RoceReq)
  /-- ROCE_ACK_RX (R432). An acknowledgement or read response from the peer is received. -/
  | roceAckRx (q : Fin 256) (psn : BitVec 24) (data : List Byte)
  /-- ROCE_NAK_RX (R432). A sequence-error or error NAK from the peer is received. -/
  | roceNakRx (q : Fin 256) (psn : BitVec 24) (kind : Fin 3)
  /-- ROCE_RETRY_TIMEOUT (R432). The oldest unacknowledged request times out and is resent. -/
  | roceRetryTimeout (q : Fin 256)
  /-- MAILBOX_REQUEST (R434). A request placed in a mailbox slot is copied out and executed. -/
  | mailboxRequest (c : Fin 1350) (data : Option (List Byte))
  /-- DOORBELL_WRITE (R448). A doorbell write publishes a producer or consumer count. -/
  | doorbellWrite
  /-- QP_CREATE (R438). Sets up a queue pair. -/
  | qpCreate (r : Req)
  /-- QP_RESTART (R439). Takes a queue pair from ERROR to RTS. -/
  | qpRestart (r : Req)
  /-- QP_DESTROY (R439). Returns a queue pair to FREE. -/
  | qpDestroy (r : Req)
  /-- QP_QUERY (R438). Returns a queue pair's settings and state. -/
  | qpQuery (r : Req)
  /-- HREGION_ADD (R437). Adds a host region. -/
  | hregionAdd (r : Req)
  /-- HREGION_REMOVE (R437). Removes a host region. -/
  | hregionRemove (r : Req)
  /-- HREGION_READ (R438). Returns host region entries. -/
  | hregionRead (r : Req)
  /-- QUEUE_CREATE (R446). Creates a queue. -/
  | queueCreate (r : Req)
  /-- QUEUE_DESTROY (R446). Returns a DISABLED queue to FREE. -/
  | queueDestroy (r : Req)
  /-- QUEUE_DISABLE (R460). Starts disabling a queue. -/
  | queueDisable (r : Req)
  /-- QUEUE_ENABLE (R461). Enables a DISABLED queue and replays from the head. -/
  | queueEnable (r : Req)
  /-- QUEUE_QUERY (R445). Returns a queue's settings, state and counts. -/
  | queueQuery (r : Req)
  /-- QUEUE_FETCH_DONE (R449). An RDMA READ of submission entries returns. -/
  | queueFetchDone (q : Fin 1024)
  /-- JOB_START (R451). A job whose entries all lie before the doorbell starts executing. -/
  | jobStart (q : Fin 1024) (c : Fin 1350) (data : Option (List Byte))
  /-- JOB_COMPLETE (R455). A job ends and its completion entry is written in ring order or held. -/
  | jobComplete (q : Fin 1024)
  /-- COMPLETION_ACK (R455). A completion write is acknowledged and the head is published. -/
  | completionAck (q : Fin 1024)
  /-- RX_BUFFER_WRITE (R456). A to_host frame is written into posted receive buffers. -/
  | rxBufferWrite (q : Fin 1024)
  /-- EVENT_DELIVER (R459). An event is written whole to an event sink or lost. -/
  | eventDeliver
  /-- DX_DESCRIPTOR_END (R465). A DX descriptor transfer ends GOOD or BAD. -/
  | dxDescriptorEnd (c : Fin 32) (data : List Byte) (met : Fin 3)
  /-- DX_CTRL_DISABLE (R470). Clearing a channel enable stops it and disables its queue. -/
  | dxCtrlDisable (c : Fin 32)
  /-- SESSION_OPEN (R483). Opens a session with negotiated versions. -/
  | sessionOpen (r : Req)
  /-- SESSION_CLOSE (R485). Closes a session. -/
  | sessionClose (r : Req)
  /-- SESSION_PING (R504). Query that keeps a session alive. -/
  | sessionPing (r : Req)
  /-- SESSION_QUERY (R504). Returns session information. -/
  | sessionQuery (r : Req)
  /-- COMMAND_VERSIONS (R502). Returns command version ranges. -/
  | commandVersions (r : Req)
  /-- EVENT_SUBSCRIBE (R493). Replaces a session's event sink and mask. -/
  | eventSubscribe (r : Req)
  /-- HANDLE_QUERY (R491). Returns the state and result of a handle. -/
  | handleQuery (r : Req)
  /-- HANDLE_CANCEL (R492). Cancels a long operation if it can be stopped. -/
  | handleCancel (r : Req)
  /-- HANDLE_RELEASE (R489). Frees a DONE handle. -/
  | handleRelease (r : Req)
  /-- AUDIT_READ (R501). Returns audit records from a start index. -/
  | auditRead (r : Req)
  /-- STAGE_WRITE (R487). Writes a chunk into the session's staging buffer. -/
  | stageWrite (r : Req)
  /-- PARAM_READ (R495). Reads up to 256 parameter words. -/
  | paramRead (r : Req)
  /-- PARAM_WRITE (R495). Writes up to 256 parameter words under masks. -/
  | paramWrite (r : Req)
  /-- PARAM_READ_BLOCK (R496). Reads consecutive words of one instance. -/
  | paramReadBlock (r : Req)
  /-- PARAM_WORD_WRITE (R10). A write to a parameter word without behaviour of its own, applied by its access type. -/
  | paramWordWrite (a mask value : Word)
  /-- LATCHED_LO_READ (R579). A read of a LO word latches its HI word for the session and clears an RC pair. -/
  | latchedLoRead (i : Fin 32) (c : Fin 1350) (a : Word)
  /-- RC_WORD_READ (R10). A read of a single-word RC parameter returns and clears it. -/
  | rcWordRead (i : Fin 32) (c : Fin 1350) (a : Word)
  /-- ENTROPY_READ (R583). A read of ENTROPY_LO returns a fresh noise value and latches HI. -/
  | entropyRead (i : Fin 32) (c : Fin 1350)
  /-- FLOW_SEED_WRITE (R235). A flow seed write is accepted only with empty tiers and takes effect at its boundary. -/
  | flowSeedWrite (w : Fin 2) (v : Word)
  /-- PMON_SELECT_WRITE (R520). A threshold or event selection change zeroes its counter at the boundary. -/
  | pmonSelectWrite (i : Fin 34) (w : Fin 0x1000) (v : Word)
  /-- PMON_OBSERVER_WRITE (R530). Writing the observer bit enables or disables the statistics window at acceptance. -/
  | pmonObserverWrite (on : Bool)
  /-- SESSION_KEEPALIVE_EXPIRY (R485). No request names a session for three keepalives and it closes. -/
  | sessionKeepaliveExpiry (i : Fin 32)
  /-- HANDLE_RETENTION_EXPIRY (R489). A DONE handle is freed 67,108,864 ticks after completion. -/
  | handleRetentionExpiry (i : Fin 4096)
  /-- OP_DONE (R490). A long operation without its own event completes. -/
  | opDone (i : Fin 4096)
  /-- SC_DISPATCH (R511). The dispatcher gives a ready work item to an idle core, which runs it. -/
  | scDispatch (d : Fin 2) (fw : Option ServoStep)
  /-- SC_ITEM_END (R507). A work item runs to its end and frees its core. -/
  | scItemEnd (core : Fin 32) (cycles : Nat)
  /-- SC_ITEM_AGED (R513). A ready item waits AGE_TICKS and is treated as priority 7. -/
  | scItemAged (d : Fin 2)
  /-- TWIN_LANE_LOCK (R534). All lanes of a half-link gain block lock and it moves to ALIGN. -/
  | twinLaneLock (h : Fin 2)
  /-- TWIN_LINK_UP (R534). A half-link is aligned and goes UP. -/
  | twinLinkUp (h : Fin 2) (order : BitVec 24)
  /-- TWIN_LINK_DOWN (R534). A half-link loses lock, alignment or retry, or is disabled. -/
  | twinLinkDown (h : Fin 2) (cause : Fin 4)
  /-- TWIN_FRAME_RX (R536). A twin link frame is received and accepted or NAKed. -/
  | twinFrameRx (h : Fin 2) (b : List Byte)
  /-- TWIN_RESEND_TIMEOUT (R536). The oldest unacknowledged link frame waits 4 ticks and is resent. -/
  | twinResendTimeout (h : Fin 2)
  /-- TWIN_HELLO_RX (R539). A HELLO is received and the pair is resolved. -/
  | twinHelloRx (h : Fin 2)
  /-- TWIN_HEARTBEAT_RX (R549). A heartbeat arrives and resets the miss count. -/
  | twinHeartbeatRx (h : Fin 2)
  /-- TWIN_HB_MISS (R549). hb_miss consecutive ticks pass without a heartbeat and takeover is scheduled. -/
  | twinHbMiss
  /-- TWIN_DELTA_APPLY (R544). The standby applies a delta as an operation. -/
  | twinDeltaApply (h : Fin 2)
  /-- TWIN_FOLLOW_READ (R546). Each active slice reads listed records and sends FOLLOW items. -/
  | twinFollowRead (n : Fin 16)
  /-- TWIN_FOLLOW_APPLY (R546). The standby writes a FOLLOW item's counters. -/
  | twinFollowApply (h : Fin 2)
  /-- TWIN_STANDBY_CLEARED (R547). The standby finishes clearing its tiers and sets ready. -/
  | twinStandbyCleared
  /-- TWIN_BULK_WALK (R547). The active walks buckets and sends BULK items in its share. -/
  | twinBulkWalk (d : Fin 2) (reads : Nat)
  /-- TWIN_BULK_APPLY (R547). The standby checks and applies a BULK item. -/
  | twinBulkApply (h : Fin 2)
  /-- TWIN_CROSS_RX (R542). The active receives a CROSS item into its port source. -/
  | twinCrossRx (h : Fin 2)
  /-- TWIN_CONTROL_RX (R545). The standby receives images, templates or pools in a CONTROL item. -/
  | twinControlRx (h : Fin 2)
  /-- TWIN_HANDOVER_DRAINED (R551). The handing-over active has committed its last operation and emptied its lag buffer. -/
  | twinHandoverDrained
  /-- TWIN_HANDOVER_TIMEOUT (R551). The peer has not taken over within 1,000 ticks. -/
  | twinHandoverTimeout
  /-- TWIN_QUERY (R552). Returns twin status and the last HELLO and heartbeat. -/
  | twinQuery (r : Req)
  /-- TWIN_HANDOVER (R551). Starts handing flow ownership to the standby. -/
  | twinHandover (r : Req)
  /-- TWIN_RESYNC (R548). Starts a rejoin on the active's command. -/
  | twinResync (r : Req)
  /-- TWIN_SPLIT_RESOLVE (R540). Makes this device yield in a split pair. -/
  | twinSplitResolve (r : Req)
  /-- SAFETY_QUERY (R571). Returns the safety state for one instant. -/
  | safetyQuery (r : Req)
  /-- SAFETY_LOG_READ (R571). Returns fault log entries. -/
  | safetyLogRead (r : Req)
  /-- SAFETY_SELFTEST (R568). Starts injecting faults into the safety mechanisms. -/
  | safetySelftest (r : Req)
  /-- SAFETY_SELFTEST_DONE (R568). The self-test ends and reports each mechanism. -/
  | safetySelftestDone (missed : Fin 4096)
  /-- AVS_EVALUATE (R595). Every 1,024 ticks the core voltage target is re-evaluated and written. -/
  | avsEvaluate (coldW coldE okW okE : Bool)
  /-- PMB_ALERT (R595). PMB_ALERT_N low makes the SX9 read STATUS_WORD and clear faults. -/
  | pmbAlert (ok : Bool)
  /-- PMBUS_RETRY (R594). A failed PMBus transaction is retried after 1 ms. -/
  | pmbusRetry (ok : Bool)
  /-- JTAG_INSTRUCTION (R602). A test access port instruction is loaded and acts only in RESET. -/
  | jtagInstruction (i : TapInstr)
  /-- RX_PAUSE_EXPIRY (R97). The pause time of a received pause or PFC frame runs out and the priorities it stopped may start frames again. -/
  | rxPauseExpiry (n : Fin 130) (c : Fin 1350) (prio : Fin 8)
  /-- PPS_PULSE_END (R389). A PPS pulse has lasted its width and the output returns to its inactive level. -/
  | ppsPulseEnd (k : Fin 2)
  /-- SUPPLY_RESTORED (R559). A rail that left its monitor window returns inside it, and the 1,024-tick count toward clearing cause SUPPLY begins. -/
  | supplyRestored (rail : Fin 13) (uv : Nat)
  /-- CORE_PLL_RELOCK (R559). A core PLL that lost lock locks again, and the 1,024-tick count toward clearing cause CORE_PLL begins. -/
  | corePllRelock (die : Fin 2)
  deriving DecidableEq, Repr

end Sys2Proof
end

