-- ==== Sys2Proof/Decode.lean ====
section
/-! DEFINITION. The command that a word spells.  The opcode table gives no row any bits, so no word spells one:
the commands of this block arrive as operations of its pins, its links and its protocol. -/

namespace Sys2Proof

/-- The command that an `nbits`-bit word spells by the table's bits: none, since no row of the table has any. -/
def decodeTableWord (_nbits _w : Nat) : Option Instr := none

end Sys2Proof
end

