-- ==== Sys2Proof/Machine/State.lean ====
section
/-! DEFINITION. The state of the device, the reasons a command can stop, and the state after reset. -/

namespace Sys2Proof.Machine

/-- Why a command stops with a fault.  There is no constructor: every command of this device completes with a
next state, since the manual gives each of them an effect.  Safe. -/
inductive Fault where
  deriving DecidableEq, Repr

/-- Why a command is turned away without a meaning. -/
inductive Refusal where
  /-- The command has no meaning yet.  Raised by the arms of `exec` that name it.  Safe. -/
  | notModelled (mnemonic : String)
  deriving DecidableEq, Repr

/-- The state of the device: one part for each group of chapters, the queue of commands that wait, and the
counter of free values drawn. -/
structure State where
  /-- The commands that wait, first in, first out.  The model's own. -/
  pending : List Instr := []
  /-- How many free values have been drawn.  The model's own, not the manual's; no statement rests on it. -/
  free : Nat := 0
  /-- Modes, Kindling, units, deferred changes (chapters 02, 03). -/
  sys : Sys := {}
  /-- The tick and the FRC (chapters 02, 15). -/
  tick : TickState := {}
  /-- The management protocol (chapter 19). -/
  toune : Toune := {}
  /-- The parameter space (chapter 24). -/
  prm : Params := {}
  /-- The calibration working copy (chapter 03). -/
  cal : Cal := {}
  /-- The boot flash (chapters 03, 25). -/
  flash : Flash := {}
  /-- The safety island (chapter 23). -/
  zal : Zal := {}
  /-- Supplies and management pins (chapter 25). -/
  power : Power := {}
  /-- Lanes, ports and port groups (chapter 04). -/
  ports : Ports := {}
  /-- Pipelines, rule banks, forwarding tables, packets (chapters 05 to 08). -/
  path : Path := {}
  /-- Service cores and dispatchers (chapter 20). -/
  svc : Svc := {}
  /-- Shared buffers and egress (chapter 14). -/
  buf : Buf := {}
  /-- The time unit (chapter 15). -/
  tu : Tu := {}
  /-- Journal and capture rings (chapter 13). -/
  jnl : Jnl := {}
  /-- Samplers (chapter 21). -/
  pmon : Pmon := {}
  /-- The twin pair (chapter 22). -/
  twin : Twin := {}
  /-- Flow slices, programs, templates, pools (chapters 09 to 12). -/
  flow : Flow := {}
  /-- The host transport, queues and the DMA engine (chapters 17, 18). -/
  host : HostIf := {}
  /-- Memory controllers (chapter 16). -/
  mem : Mem := {}
  deriving DecidableEq, Repr

/-- The device right after reset (R60, R68): mode RESET, every structure empty, every register at the value its
table gives, and where the manual gives none, at the value that notes/assumptions names. -/
def State.reset : State := {}

end Sys2Proof.Machine
end

