-- ==== Sys2Proof/Machine/Access.lean ====
section
/-! DEFINITION. One update for each part of the state. -/

namespace Sys2Proof.Machine

/-- Replace the `pending` part of the state. -/
def State.setPending (s : State) (x : List Instr) : State := { s with pending := x }
/-- Replace the `free` part of the state. -/
def State.setFree (s : State) (x : Nat) : State := { s with free := x }
/-- Replace the `sys` part of the state. -/
def State.setSys (s : State) (x : Sys) : State := { s with sys := x }
/-- Replace the `tick` part of the state. -/
def State.setTick (s : State) (x : TickState) : State := { s with tick := x }
/-- Replace the `toune` part of the state. -/
def State.setToune (s : State) (x : Toune) : State := { s with toune := x }
/-- Replace the `prm` part of the state. -/
def State.setPrm (s : State) (x : Params) : State := { s with prm := x }
/-- Replace the `cal` part of the state. -/
def State.setCal (s : State) (x : Cal) : State := { s with cal := x }
/-- Replace the `flash` part of the state. -/
def State.setFlash (s : State) (x : Flash) : State := { s with flash := x }
/-- Replace the `zal` part of the state. -/
def State.setZal (s : State) (x : Zal) : State := { s with zal := x }
/-- Replace the `power` part of the state. -/
def State.setPower (s : State) (x : Power) : State := { s with power := x }
/-- Replace the `ports` part of the state. -/
def State.setPorts (s : State) (x : Ports) : State := { s with ports := x }
/-- Replace the `path` part of the state. -/
def State.setPath (s : State) (x : Path) : State := { s with path := x }
/-- Replace the `svc` part of the state. -/
def State.setSvc (s : State) (x : Svc) : State := { s with svc := x }
/-- Replace the `buf` part of the state. -/
def State.setBuf (s : State) (x : Buf) : State := { s with buf := x }
/-- Replace the `tu` part of the state. -/
def State.setTu (s : State) (x : Tu) : State := { s with tu := x }
/-- Replace the `jnl` part of the state. -/
def State.setJnl (s : State) (x : Jnl) : State := { s with jnl := x }
/-- Replace the `pmon` part of the state. -/
def State.setPmon (s : State) (x : Pmon) : State := { s with pmon := x }
/-- Replace the `twin` part of the state. -/
def State.setTwin (s : State) (x : Twin) : State := { s with twin := x }
/-- Replace the `flow` part of the state. -/
def State.setFlow (s : State) (x : Flow) : State := { s with flow := x }
/-- Replace the `host` part of the state. -/
def State.setHost (s : State) (x : HostIf) : State := { s with host := x }
/-- Replace the `mem` part of the state. -/
def State.setMem (s : State) (x : Mem) : State := { s with mem := x }

end Sys2Proof.Machine
end

