-- ==== Sys2Proof/Config.lean ====
section
/-! DEFINITION. What one device or board fixes, and the values that the manual leaves open.  None has a body:
nothing can evaluate one or prove a value of it. -/

namespace Sys2Proof.Config

/-- FREE VALUE. The `n`-th value that the manual leaves open, of `w` bits. -/
opaque freeValue : (w : Nat) → Nat → BitVec w

/-- The order code fused into the device: true for SX9-128-X (R1, R582). -/
opaque orderX : Bool

/-- The serial number fused into the device (R582). -/
opaque serial : BitVec 64

/-- The fused AVS voltage code of a die (0 West, 1 East), in steps of 5 mV from 0.72 V (R595). -/
opaque avsCode : Nat → BitVec 5

/-- The built-in defaults of the calibration record, by offset (R67, R75). -/
opaque builtinCal : Nat → BitVec 8

/-- Does the training clause of a port code define a transmit preset of this number (R88)? -/
opaque presetDefined : Nat → Nat → Bool

/-- The transmit taps of a standard preset in the training clause of a port code (R88). -/
opaque presetTaps : Nat → Nat → BitVec 32

/-- The version that a firmware image of this CRC reports (R497, R585). -/
opaque fwVersion : BitVec 32 → BitVec 32

end Sys2Proof.Config
end

