-- ==== Sys2Proof/Machine/Codes.lean ====
section
/-! DEFINITION. The numbers of status codes (R481), opcodes (R504 and the chapters' command tables) and events
(the chapters' event tables).  `St` holds the statuses, `Op` the opcodes, `Ev` the event codes. -/

namespace Sys2Proof.Machine

namespace St
/-- Executed (R481). -/
abbrev ok : BitVec 16 := 0x0000
/-- Long operation started; the handle field names it (R481). -/
abbrev accepted : BitVec 16 := 0x0001
/-- Protocol or command version not supported; the payload holds the supported range (R483, R502) (R481). -/
abbrev eVersion : BitVec 16 := 0x0100
/-- Legal command, not allowed in the present mode; no effect (R481). -/
abbrev eMode : BitVec 16 := 0x0101
/-- Malformed argument or header, or a refused value (R481). -/
abbrev eArg : BitVec 16 := 0x0102
/-- A value outside its permitted range (R481). -/
abbrev eRange : BitVec 16 := 0x0103
/-- No room: table, ring, session or handle (R481). -/
abbrev eNospace : BitVec 16 := 0x0104
/-- A conflicting operation is in progress (R481). -/
abbrev eBusy : BitVec 16 := 0x0105
/-- Unknown handle, or a handle of an old generation (R11) (R481). -/
abbrev eHandle : BitVec 16 := 0x0106
/-- Opcode not implemented in this protocol version or boot state (R481). -/
abbrev eNotsup : BitVec 16 := 0x0107
/-- Session not open, or a bootstrap sequence out of order (R481). -/
abbrev eSession : BitVec 16 := 0x0108
/-- CRC, tag or image integrity check failed (R481). -/
abbrev eIntegrity : BitVec 16 := 0x0109
/-- Long operation ended by cancellation or by entry into SAFE (R62) (R481). -/
abbrev eCancelled : BitVec 16 := 0x010A
/-- A hardware fault or an unavailable unit stopped the operation (R481). -/
abbrev eFault : BitVec 16 := 0x010B
/-- An outside party did not answer within its bound: the twin, the host adapter, the flash or a DIMM sideband (R481). -/
abbrev eTimeout : BitVec 16 := 0x010C
end St

namespace Op
/-- R504. -/
abbrev sessionOpen : Nat := 0x0000
/-- R504. -/
abbrev sessionClose : Nat := 0x0001
/-- R504. -/
abbrev sessionPing : Nat := 0x0002
/-- R504. -/
abbrev sessionQuery : Nat := 0x0003
/-- R504. -/
abbrev commandVersions : Nat := 0x0004
/-- R504. -/
abbrev eventSubscribe : Nat := 0x0008
/-- R504. -/
abbrev handleQuery : Nat := 0x0010
/-- R504. -/
abbrev handleCancel : Nat := 0x0011
/-- R504. -/
abbrev handleRelease : Nat := 0x0012
/-- R504. -/
abbrev auditRead : Nat := 0x0018
/-- R504. -/
abbrev stageWrite : Nat := 0x0020
/-- R495. -/
abbrev paramRead : Nat := 0x0100
/-- R495. -/
abbrev paramWrite : Nat := 0x0101
/-- R496. -/
abbrev paramReadBlock : Nat := 0x0102
/-- R445. -/
abbrev queueCreate : Nat := 0x0200
/-- R445. -/
abbrev queueDestroy : Nat := 0x0201
/-- R445. -/
abbrev queueDisable : Nat := 0x0202
/-- R445. -/
abbrev queueEnable : Nat := 0x0203
/-- R445. -/
abbrev queueQuery : Nat := 0x0204
/-- R438. -/
abbrev qpCreate : Nat := 0x0220
/-- R438. -/
abbrev qpRestart : Nat := 0x0221
/-- R438. -/
abbrev qpDestroy : Nat := 0x0222
/-- R438. -/
abbrev qpQuery : Nat := 0x0223
/-- R438. -/
abbrev hregionAdd : Nat := 0x0228
/-- R438. -/
abbrev hregionRemove : Nat := 0x0229
/-- R438. -/
abbrev hregionRead : Nat := 0x022A
/-- R126. -/
abbrev graphLoad : Nat := 0x0301
/-- R126. -/
abbrev graphSwitch : Nat := 0x0302
/-- R147. -/
abbrev profileLoad : Nat := 0x0303
/-- R147. -/
abbrev profileSwitch : Nat := 0x0304
/-- R146. -/
abbrev bankmaskCommit : Nat := 0x0305
/-- R163. -/
abbrev ruleWrite : Nat := 0x0310
/-- R163. -/
abbrev ruleInsert : Nat := 0x0311
/-- R163. -/
abbrev ruleDelete : Nat := 0x0312
/-- R163. -/
abbrev ruleRead : Nat := 0x0313
/-- R163. -/
abbrev bankClear : Nat := 0x0314
/-- R202. -/
abbrev tableWrite : Nat := 0x0320
/-- R202. -/
abbrev tableDelete : Nat := 0x0321
/-- R202. -/
abbrev tableRead : Nat := 0x0322
/-- R202. -/
abbrev l2Flush : Nat := 0x0323
/-- R202. -/
abbrev rehash : Nat := 0x0324
/-- R256. -/
abbrev flowRead : Nat := 0x0400
/-- R256. -/
abbrev flowWrite : Nat := 0x0401
/-- R256. -/
abbrev flowModify : Nat := 0x0402
/-- R256. -/
abbrev flowDelete : Nat := 0x0403
/-- R256. -/
abbrev flowSweep : Nat := 0x0404
/-- R256. -/
abbrev flowPuntRelease : Nat := 0x0405
/-- R314. -/
abbrev flowRepin : Nat := 0x0406
/-- R423. -/
abbrev turfEvacuate : Nat := 0x0407
/-- R300. -/
abbrev poolDefine : Nat := 0x0410
/-- R300. -/
abbrev poolDelete : Nat := 0x0411
/-- R300. -/
abbrev poolRead : Nat := 0x0412
/-- R231. -/
abbrev flowProgLoad : Nat := 0x0440
/-- R231. -/
abbrev flowTemplateWrite : Nat := 0x0441
/-- R231. -/
abbrev flowTemplateRead : Nat := 0x0442
/-- R231. -/
abbrev flowProgRead : Nat := 0x0443
/-- R399. -/
abbrev timeQuery : Nat := 0x0500
/-- R399. -/
abbrev domainSeed : Nat := 0x0501
/-- R399. -/
abbrev domainRate : Nat := 0x0502
/-- R399. -/
abbrev domainReseed : Nat := 0x0503
/-- R399. -/
abbrev domainSelect : Nat := 0x0504
/-- R399. -/
abbrev domainSetsRead : Nat := 0x0505
/-- R399. -/
abbrev stampConvert : Nat := 0x0506
/-- R399. -/
abbrev tsiRead : Nat := 0x0507
/-- R552. -/
abbrev twinQuery : Nat := 0x0600
/-- R552. -/
abbrev twinHandover : Nat := 0x0601
/-- R552. -/
abbrev twinResync : Nat := 0x0602
/-- R552. -/
abbrev twinSplitResolve : Nat := 0x0603
/-- R571. -/
abbrev safetyQuery : Nat := 0x0700
/-- R571. -/
abbrev safetyLogRead : Nat := 0x0701
/-- R571. -/
abbrev safetySelftest : Nat := 0x0702
/-- R497. -/
abbrev calRead : Nat := 0x0800
/-- R497. -/
abbrev calWrite : Nat := 0x0801
/-- R497. -/
abbrev calRun : Nat := 0x0802
/-- R497. -/
abbrev fwStage : Nat := 0x0810
/-- R497. -/
abbrev fwQuery : Nat := 0x0811
/-- R420. -/
abbrev memErrlogRead : Nat := 0x0910
/-- R59. -/
abbrev modeQuery : Nat := 0x0A00
/-- R59. -/
abbrev modeSet : Nat := 0x0A01
/-- R59. -/
abbrev resume : Nat := 0x0A02
/-- R59. -/
abbrev safeEnter : Nat := 0x0A03
/-- R59. -/
abbrev unitOut : Nat := 0x0A04
/-- R59. -/
abbrev unitRejoin : Nat := 0x0A05
/-- R421. -/
abbrev channelDown : Nat := 0x0A06
end Op

namespace Ev
/-- R106: Port, resolved mode, FEC and tick count of admission. -/
abbrev linkUp : Nat := 0x1001
/-- R106: Port and cause: disable, signal loss, lock loss, hi_ber or remote fault. -/
abbrev linkDown : Nat := 0x1002
/-- R106: Port and the partner's ability bits. -/
abbrev anNoCommon : Nat := 0x1003
/-- R106: Port and the number of consecutive failures. -/
abbrev linkTrainFail : Nat := 0x1004
/-- R106: Port and the symbol errors in the last 1,024 ticks. -/
abbrev fecDegraded : Nat := 0x1005
/-- R106: Lane instance. -/
abbrev laneIdleExitFail : Nat := 0x1006
/-- R106: Port and the tick count at which it counts as disabled. -/
abbrev portDownFlush : Nat := 0x1007
/-- R130: Pipeline, bank and image_id. -/
abbrev graphLoaded : Nat := 0x2001
/-- R130: Pipeline, new active bank and the tick count of the boundary. -/
abbrev graphSwitched : Nat := 0x2002
/-- R130: Pipeline and the flagged packets in the last 1,024 ticks. -/
abbrev parseErrRate : Nat := 0x2003
/-- R130: Pipeline and the refusals in the last 1,024 ticks. -/
abbrev recircRefused : Nat := 0x2004
/-- R158: Pipeline, bank and image_id. -/
abbrev profileLoaded : Nat := 0x2010
/-- R158: Pipeline, new active bank, whether the graph switched with it, and the tick count. -/
abbrev profileSwitched : Nat := 0x2011
/-- R158: Pipeline mask, number of triples and the tick count. -/
abbrev bankmaskCommitted : Nat := 0x2012
/-- R158: Pipeline, profile, lookup, and the cause: bank out of service, REJOIN or governor. -/
abbrev substituteActive : Nat := 0x2013
/-- R184: Bank, row, and repairs in the last 1,024 ticks. -/
abbrev rbScrubRepair : Nat := 0x2020
/-- R184: Bank and row; the bank is taken out of service. -/
abbrev rbRepairFail : Nat := 0x2021
/-- R184: Bank and first row of the lost entry. -/
abbrev rbShadowErr : Nat := 0x2022
/-- R184: Pipeline, profile, lookup; each of the two results as bank and first row, with bank 0xFF for a miss; the pair concerned (R175); and the outcome: repaired or unexplained. -/
abbrev rbPairMismatch : Nat := 0x2023
/-- R184: Handle, status, final row, moved range and tick count. -/
abbrev ruleOpDone : Nat := 0x2024
/-- R184: Pipeline caps leave or return to 86,400; Tg and the new cap. -/
abbrev govCapChanged : Nat := 0x2025
/-- R205: Pipeline, table, and failed insertions in the last 1,024 ticks. -/
abbrev rehashNeeded : Nat := 0x2030
/-- R205: Handle, pipeline, table, status and entries left under old seeds. -/
abbrev rehashDone : Nat := 0x2031
/-- R205: Pipeline, MAC, VLAN, old and new port. -/
abbrev l2StationMove : Nat := 0x2032
/-- R205: Pipeline, MAC, VLAN, static port and offending port. -/
abbrev staticMove : Nat := 0x2033
/-- R205: Handle, overall status, status of each copy and tick count of the last write. -/
abbrev tableOpDone : Nat := 0x2034
/-- R267: Slice, and which of the in-flight table and the wait pool filled. -/
abbrev inflightFull : Nat := 0x3001
/-- R267: Slice, template and creations refused in the last 1,024 ticks. -/
abbrev flowCreateNoroom : Nat := 0x3002
/-- R267: Slice, key, ingress port, arrival FRC and the first 256 bytes. -/
abbrev flowPunted : Nat := 0x3003
/-- R267: Slice and tick count. -/
abbrev puntFull : Nat := 0x3004
/-- R267: Slice and punts timed out in the last 1,024 ticks. -/
abbrev puntTimeout : Nat := 0x3005
/-- R267: Pipeline, home slice, digest and tick count. -/
abbrev flowResultTimeout : Nat := 0x3006
/-- R267: Handle, status, records examined, matched and deleted, and tick count. -/
abbrev flowSweepDone : Nat := 0x3007
/-- R267: Tick count at which the new seed took effect. -/
abbrev flowSeedSet : Nat := 0x3008
/-- R55: A slice's creation queue was full, or a creation reached the wait limit of R50; the template's overflow action was applied. Carries slice and template number. -/
abbrev createOverflow : Nat := 0x3030
/-- R55: A slice's hold queue became full; carries slice number and tick. -/
abbrev holdFull : Nat := 0x3032
/-- R55: Held operations reached the wait limit of R50; carries slice number and the operations resolved in the last 1,024 ticks. -/
abbrev holdExpired : Nat := 0x3033
/-- R233: Slice, tier, slot index of R336 and whether the entry was pinned. -/
abbrev flowTagErr : Nat := 0x3040
/-- R233: Primary slice, pointer slice and cause: no room, equal key or digest clash (R216). -/
abbrev flowBindFail : Nat := 0x3041
/-- R233: Slice, template and key type. -/
abbrev flowTemplateMismatch : Nat := 0x3042
/-- R233: Slice and digest. -/
abbrev flowDigestClash : Nat := 0x3043
/-- R233: Image_id and tick count. -/
abbrev flowProgLoaded : Nat := 0x3044
/-- R233: Number of templates and tick count. -/
abbrev flowTemplatesWritten : Nat := 0x3045
/-- R233: Journal only: digest, counters and cause program or host. -/
abbrev flowRetired : Nat := 0x3046
/-- R299: Slice, fill, and whether a cold tier is present. -/
abbrev stackHigh : Nat := 0x3050
/-- R299: Slice and tick count. -/
abbrev stackAtLimit : Nat := 0x3051
/-- R299: Slice, and whether the slice or a set limit was reached. -/
abbrev hearthPinFull : Nat := 0x3052
/-- R299: Slice, Stack fill and cold fill. -/
abbrev coldFull : Nat := 0x3053
/-- R299: Slice, the pseudo-channel or channel, and the operations resolved in the last 1,024 ticks. -/
abbrev tierUnavailable : Nat := 0x3054
/-- R299: Slice, kind of move, digest and failing address. -/
abbrev migrateAbort : Nat := 0x3055
/-- R326: Pool, slice, and creations refused in the last 1,024 ticks. -/
abbrev poolEmpty : Nat := 0x3060
/-- R326: Pool, defined or deleted, and tick count. -/
abbrev poolChanged : Nat := 0x3061
/-- R326: R320. -/
abbrev streamSilent : Nat := 0x3062
/-- R326: R322. -/
abbrev streamResumed : Nat := 0x3063
/-- R326: Slice and tick count. -/
abbrev wheelFull : Nat := 0x3064
/-- R326: Handle, status, records examined and changed, and tick count. -/
abbrev flowRepinDone : Nat := 0x3065
/-- R339: Write of the gap | None | Items lost since the previous entry, saturating; source tier 3. -/
abbrev jnlGap : Nat := 0x3070
/-- R345: R339. -/
abbrev jnlSetMark : Nat := 0x3071
/-- R345: Ring and fill, on rising through FILL_THRESHOLD. -/
abbrev jnlFill : Nat := 0x3072
/-- R345: Journal full under STOP; tick count. -/
abbrev jnlFull : Nat := 0x3073
/-- R345: Capture ring full under STOP; ring and tick count. -/
abbrev capFull : Nat := 0x3074
/-- R345: Ring and records skipped in the last 1,024 ticks. -/
abbrev capSkipped : Nat := 0x3075
/-- R373: Die and tick count. -/
abbrev sharedExhausted : Nat := 0x4001
/-- R373: Die and the source whose request failed. -/
abbrev headroomExhausted : Nat := 0x4002
/-- R373: Die and tick count. -/
abbrev hostPoolExhausted : Nat := 0x4003
/-- R373: Port and frames refused in the last 1,024 ticks. -/
abbrev macRefused : Nat := 0x4004
/-- R373: Port and copies abandoned in the last 1,024 ticks. -/
abbrev copyAbandoned : Nat := 0x4005
/-- R373: R367. -/
abbrev egrStall : Nat := 0x4006
/-- R373: Port, class and the length of the stall in ticks. -/
abbrev egrStallClear : Nat := 0x4007
/-- R373: Port, resolved rate, and whether the reservations were suspended or restored. -/
abbrev egrCalSuspended : Nat := 0x4008
/-- R401: The set record of R384. -/
abbrev domainSet : Nat := 0x5001
/-- R401: Old and new domain, forced, disagreement and tick count. -/
abbrev domainSwitched : Nat := 0x5002
/-- R401: Target, disagreement and cause. -/
abbrev domainSwitchRefused : Nat := 0x5003
/-- R401: Disagreement, tick count, and raised or cleared. -/
abbrev domainDisagree : Nat := 0x5004
/-- R401: TREF loss, PLL unlock, or return, with the tick count. -/
abbrev trefAlarm : Nat := 0x5005
/-- R401: Counts of the failing window and tick count. -/
abbrev frcCheckFail : Nat := 0x5006
/-- R401: The FIFO entry of R392. -/
abbrev tsiEdge : Nat := 0x5007
/-- R401: Input and edges lost in the last 1,024 ticks. -/
abbrev tsiOverflow : Nat := 0x5008
/-- R401: Output, cause, and seconds left out or skipped. -/
abbrev ppsDiscontinuity : Nat := 0x5009
/-- R401: Domain, old and new servo state. -/
abbrev servoState : Nat := 0x500A
/-- R425: Class, unit, and cause: training, unsupported DIMM or no DIMM. -/
abbrev memTrainFail : Nat := 0x6001
/-- R425: Class, unit and the delay or calibration that failed. -/
abbrev memRetrainDrift : Nat := 0x6002
/-- R425: Class, unit and replays in the last 1,024 ticks. -/
abbrev memParityReplay : Nat := 0x6003
/-- R425: Class and unit; unit taken out of service. -/
abbrev memReplayExhausted : Nat := 0x6004
/-- R425: Class, unit, kind and address. -/
abbrev memSafetyErr : Nat := 0x6005
/-- R425: Class, unit and uncorrectable errors in the last 1,024 ticks. -/
abbrev memUe : Nat := 0x6006
/-- R425: Class, unit and corrected errors in the last 1,024 ticks. -/
abbrev memCeRate : Nat := 0x6007
/-- R425: Class, unit and temperature. -/
abbrev memHot : Nat := 0x6008
/-- R425: Handle, class, unit and transfers aborted. -/
abbrev memChannelDown : Nat := 0x6009
/-- R425: Channel and entries lost. -/
abbrev memTurfLost : Nat := 0x600A
/-- R425: Handle, status, and entries moved and left per slice. -/
abbrev turfEvacuateDone : Nat := 0x600B
/-- R473: Completion queue, completions held and tick count. -/
abbrev cqFull : Nat := 0x7001
/-- R473: Queue, cause and published head. -/
abbrev queueDisabled : Nat := 0x7002
/-- R473: Queue and writes ignored in the last 1,024 ticks. -/
abbrev dbInvalid : Nat := 0x7003
/-- R473: Channel, descriptors BAD in the last 1,024 ticks, and the latest status. -/
abbrev dxBad : Nat := 0x7004
/-- R473: Channel, queue and the position of the aborted descriptor. -/
abbrev dxAborted : Nat := 0x7005
/-- R442: Queue pair, cause, PSN concerned and tick count. -/
abbrev qpError : Nat := 0x7040
/-- R442: Immediates discarded in the last 1,024 ticks. -/
abbrev mboxBusy : Nat := 0x7041
/-- R554: Half-link and tick count. -/
abbrev twinLinkUp : Nat := 0x8001
/-- R554: Half-link and cause: lock, alignment, retry or disable. -/
abbrev twinLinkDown : Nat := 0x8002
/-- R554: Role, interface version and peer serial. -/
abbrev twinPairFormed : Nat := 0x8003
/-- R554: The bits of TWIN[0].MISMATCH. -/
abbrev twinMismatch : Nat := 0x8004
/-- R554: Peer serial and tick count. -/
abbrev twinSplit : Nat := 0x8005
/-- R554: Tick count. -/
abbrev twinInSync : Nat := 0x8006
/-- R554: Cause: heartbeat, peer SAFE or hand-over; tick count; applied sequences; cross frames lost. -/
abbrev twinTakeover : Nat := 0x8007
/-- R554: Cause: heartbeat, peer SAFE or link down; tick count. -/
abbrev twinPeerLost : Nat := 0x8008
/-- R554: Handle, status and tick count. -/
abbrev twinHandoverDone : Nat := 0x8009
/-- R554: Slice and deltas refused in the last 1,024 ticks. -/
abbrev twinApplyNoroom : Nat := 0x800A
/-- R55: A die's lag buffer overflowed; the pair is out of sync. -/
abbrev twinOutOfSync : Nat := 0x8020
/-- R573: Cause, scope, class, instance and tick count. -/
abbrev safeEntered : Nat := 0x9001
/-- R573: Tick count, and the units sent to REJOIN. -/
abbrev safeLeft : Nat := 0x9002
/-- R573: A cause recorded without an entry into SAFE, with its log entry. Such a cause is one of the following: a cause without SAFE; a cause with SAFE detected while already in SAFE (R558); or a mechanism that SAFETY_SELFTEST found not detecting (R568). -/
abbrev safetyFault : Nat := 0x9003
/-- R573: Die and tick count; raised by the MC. -/
abbrev islandSilent : Nat := 0x9004
/-- R573: Handle, status and the result bytes of R568. -/
abbrev safetySelftestDone : Nat := 0x9005
/-- R55: A unit missed its completion; carries class, instance and tick. -/
abbrev tickOverrun : Nat := 0x9010
/-- R78: Old mode, new mode and the tick count of the boundary. -/
abbrev modeChanged : Nat := 0xA001
/-- R78: Duration in ms, the next mode, and the count of skipped bootstrap configuration pairs. -/
abbrev kindlingDone : Nat := 0xA002
/-- R78: Step number, and the class and instance of the failing unit. -/
abbrev kindlingStepFail : Nat := 0xA003
/-- R78: Class, instance and cause. -/
abbrev unitOut : Nat := 0xA004
/-- R78: Class and instance. -/
abbrev unitReady : Nat := 0xA005
/-- R78: Class, instance and tick count of the switch-in. -/
abbrev unitIn : Nat := 0xA006
/-- R78: Class, instance and the row or address that failed. -/
abbrev rejoinFailed : Nat := 0xA007
/-- R78: Cause: record, lane entry or DDR5 channel. -/
abbrev calInvalid : Nat := 0xA010
/-- R78: Sections changed and the new sequence. -/
abbrev calStored : Nat := 0xA011
/-- R505: Completion of a long operation that has no event of its own; handle, opcode, status and result. -/
abbrev opDone : Nat := 0xA020
/-- R505: Session identity and cause: command, keepalive or closed by another session. -/
abbrev sessionClosed : Nat := 0xA030
/-- R505: Slot, length, CRC and the new directory sequence. -/
abbrev fwStaged : Nat := 0xA040
/-- R518: Die, class, and items dropped in the last 1,024 ticks. -/
abbrev scClassFull : Nat := 0xB001
/-- R518: Die and tick count. -/
abbrev scDelayFull : Nat := 0xB002
/-- R518: Die, core, class and cause: core out of service or dispatcher overrun. -/
abbrev scItemRestarted : Nat := 0xB003
/-- R518: Die, class and items aged in the last 1,024 ticks; at most once per class in that period. -/
abbrev scAged : Nat := 0xB004
end Ev

end Sys2Proof.Machine
end

