-- ==== Sys2Proof/Machine/ParamTable.lean ====
section
/-! DEFINITION. The parameter space: which words exist, which of their bits are of which access type, and
what they hold after reset.  One row for one family of words, from the parameter tables of every chapter
(R54, R102 to R105, R128, R129, R155 to R157, R182, R183, R203, R204, R232, R265, R266, R297, R298, R324, R325,
R344, R370 to R372, R400, R424, R440, R441, R471, R472, R500, R517, R531, R553, R572, R582 to R587). -/

namespace Sys2Proof.Machine

/-- One row of a parameter table: the words `word + stride * j` for `j < count` of the instances
`inst0` to `inst1` of a class, with the bit masks of each access type (R10).  `rc` is the width of a
read-clear counter held at the word, or 0; `hi` marks the upper word of a 48-bit counter (R105). -/
structure ParamDef where
  inst0 : Nat
  inst1 : Nat
  word : Nat
  stride : Nat
  count : Nat
  rw : Nat
  rwl : Nat
  ro : Nat
  w1c : Nat
  rc : Nat
  hi : Bool
  reset : Nat
  deriving DecidableEq, Repr

/-- A row of words with settings and status bits. -/
def pw (i0 i1 w st n rw rwl ro w1c rst : Nat) : ParamDef :=
  ⟨i0, i1, w, st, n, rw, rwl, ro, w1c, 0, false, rst⟩

/-- A row of read-clear counters of `bits` bits. -/
def pc (i0 i1 w st n bits : Nat) : ParamDef := ⟨i0, i1, w, st, n, 0, 0, 0, 0, bits, false, 0⟩

/-- A row of upper words of 48-bit read-clear counters. -/
def ph (i0 i1 w st n : Nat) : ParamDef := ⟨i0, i1, w, st, n, 0, 0, 0, 0, 0, true, 0⟩

/-- The words of class DEV (code 0x00). -/
def paramsDev : List ParamDef :=
  [
    pw 0 0 0 1 1 0 0 0xffffffff 0 0xa1005339,  -- DEV.ID (R2, R582)
    pw 0 0 0x1 1 1 0 0 0xffffffff 0 0,  -- DEV.SERIAL_LO (R582)
    pw 0 0 0x2 1 1 0 0 0xffffffff 0 0,  -- DEV.SERIAL_HI (R582)
    pw 0 0 0x3 1 1 0 0 0xff 0 0x1,  -- DEV.MODE (R582)
    pw 0 0 0x4 1 1 0 0 0x7ff 0 0,  -- DEV.BOOT (R582)
    pw 0 0 0x5 1 1 0 0 0xffff 0 0,  -- DEV.KINDLING_MS (R582)
    pw 0 0 0x6 1 1 0 0 0xffffffff 0 0,  -- DEV.ENTROPY_LO (R582)
    pw 0 0 0x7 1 1 0 0 0xffffffff 0 0,  -- DEV.ENTROPY_HI (R582)
    pw 0 0 0x10 1 4 0xffffffff 0 0 0 0  -- DEV.SCRATCHi (R582)
  ]

/-- The words of class ZAL (code 0x01). -/
def paramsZal : List ParamDef :=
  [
    pw 0 0 0 1 1 0 0 0x1f1f 0 0x2,  -- ZAL[0].STATE (R572)
    pw 0 0 0x1 1 1 0 0 0 0xfffffe 0,  -- ZAL[0].FAULT_STATUS (R572)
    pw 0 0 0x2 1 1 0 0 0x3ffffff 0 0,  -- ZAL[0].FAULT_LAST (R572)
    pw 0 0 0x3 1 1 0 0 0xffffffff 0 0,  -- ZAL[0].FAULT_TICK (R572)
    pw 0 0 0x4 1 1 0 0xff 0 0 0,  -- ZAL[0].SAFE_CTRL (R572)
    pw 0 0 0x5 1 1 0 0xff 0 0 0xa,  -- ZAL[0].REQ_FILTER (R572)
    pw 0 0 0x6 1 1 0 0xff 0 0 0x6e,  -- ZAL[0].THERMAL_LIMIT (R572)
    pw 0 0 0x7 1 1 0 0 0xffffffff 0 0,  -- ZAL[0].SAFETY_DIGEST (R572)
    pc 0 0 0x8 1 1 32,  -- ZAL[0].SAFE_COUNT (R572)
    pc 0 0 0x9 1 1 32,  -- ZAL[0].SAFE_DISCARD (R572)
    pw 0 0 0xa 1 1 0 0 0xffffffff 0 0  -- ZAL[0].LOG_NEXT (R572)
  ]

/-- The words of class TU (code 0x02). -/
def paramsTu : List ParamDef :=
  [
    pw 0 0 0 1 1 0 0 0xf 0 0,  -- TU[0].STATUS (R400)
    pw 0 0 0x1 1 1 0 0 0xffffffff 0 0,  -- TU[0].FRC_LO (R400)
    pw 0 0 0x2 1 1 0 0 0xffffffff 0 0,  -- TU[0].FRC_HI (R400)
    pw 0 0 0x3 1 1 0 0 0xf 0 0,  -- TU[0].TREF (R400)
    pw 0 0 0x4 1 1 0 0 0x3 0 0,  -- TU[0].SELECT (R400)
    pw 0 0 0x5 1 1 0xfffff 0 0 0 0x64,  -- TU[0].SWITCH_BOUND (R400)
    pw 0 0 0x6 1 1 0x80ffffff 0 0 0 0x800003e8,  -- TU[0].XCHECK (R400)
    pw 0 0 0x7 1 1 0 0 0x3ffff 0 0,  -- TU[0].FRC_CHECK (R400)
    pw 0 0 0x8 2 2 0xfffff3 0 0 0 0x186a00,  -- TU[0].PPSOk_CTRL (R400)
    pw 0 0 0x9 2 2 0xffffffff 0 0 0 0,  -- TU[0].PPSOk_OFFSET (R400)
    pw 0 0 0x10 4 8 0xff07 0 0 0 0,  -- TU[0].TSIi_CTRL (R400)
    pw 0 0 0x11 4 8 0 0 0x7f 0 0,  -- TU[0].TSIi_LEVEL (R400)
    pc 0 0 0x12 4 8 32,  -- TU[0].TSIi_LOST (R400)
    pw 0 0 0x30 1 2 0xffffff1f 0 0 0 0x3e80000,  -- TU[0].SERVO_CTRLd (R400)
    pw 0 0 0x40 16 2 0 0 0xffff000f 0 0,  -- TU[0].DOMd_STATUS (R400)
    pw 0 0 0x41 16 2 0 0 0xffffffff 0 0,  -- TU[0].DOMd_SEQ (R400)
    pw 0 0 0x42 16 2 0 0 0xffffffff 0 0,  -- TU[0].DOMd_ANCHOR_LO (R400)
    pw 0 0 0x43 16 2 0 0 0xffffffff 0 0,  -- TU[0].DOMd_ANCHOR_HI (R400)
    pw 0 0 0x44 16 2 0 0 0xffffffff 0 0,  -- TU[0].DOMd_BASE_S_LO (R400)
    pw 0 0 0x45 16 2 0 0 0xffff 0 0,  -- TU[0].DOMd_BASE_S_HI (R400)
    pw 0 0 0x46 16 2 0 0 0x3fffffff 0 0,  -- TU[0].DOMd_BASE_NS (R400)
    pw 0 0 0x47 16 2 0 0 0xffff 0 0,  -- TU[0].DOMd_BASE_FRAC (R400)
    pw 0 0 0x48 16 2 0 0 0xffffffff 0 0,  -- TU[0].DOMd_RATE_LO (R400)
    pw 0 0 0x49 16 2 0 0 0xff 0 0,  -- TU[0].DOMd_RATE_HI (R400)
    pw 1 130 0 1 1 0x3f 0 0 0 0x38,  -- TU[1+n].PTP_CTRL (R400)
    pw 1 130 0x1 1 1 0xffffffff 0 0 0 0,  -- TU[1+n].INGRESS_DELAY (R400)
    pw 1 130 0x2 1 1 0xffffffff 0 0 0 0,  -- TU[1+n].EGRESS_DELAY (R400)
    pw 1 130 0x3 1 1 0xffffffff 0 0 0 0  -- TU[1+n].PEER_DELAY (R400)
  ]

/-- The words of class TICK (code 0x03). -/
def paramsTick : List ParamDef :=
  [
    pw 0 0 0 1 1 0 0 0xffffffff 0 0,  -- TICK.COUNT_LO (R54)
    pw 0 0 0x1 1 1 0 0 0xffff 0 0,  -- TICK.COUNT_HI (R54)
    pw 0 0 0x2 1 1 0 0 0xffffffff 0 0,  -- TICK.START_FRC_LO (R54)
    pw 0 0 0x3 1 1 0 0 0xffffffff 0 0,  -- TICK.START_FRC_HI (R54)
    pw 0 0 0x4 1 1 0x3f 0 0 0 0x20,  -- TICK.CREATE_BUDGET (R54)
    pw 0 0 0x5 1 1 0xfff 0 0 0 0x3e8,  -- TICK.PROMOTE_BUDGET (R54)
    pw 0 0 0xc 1 1 0 0 0 0x7ffffff 0,  -- TICK.OVERRUN_STATUS (R54)
    pw 0 0 0xd 1 1 0 0 0x3ffff 0 0,  -- TICK.OVERRUN_LAST (R54)
    pw 0 0 0xe 1 1 0 0 0xffffffff 0 0,  -- TICK.OVERRUN_TICK (R54)
    pc 0 0 0xf 1 1 16,  -- TICK.OVERRUN_COUNT (R54)
    pw 0 0 0x6 1 1 0 0xffffffff 0 0 0x40404040,  -- TICK.SLICE_RESERVE (R54)
    pw 0 0 0x8 1 4 0 0x3fffffff 0 0 0x501e190  -- TICK.SVC_SPLITp (R54)
  ]

/-- The words of class LANE (code 0x04). -/
def paramsLane : List ParamDef :=
  [
    pw 0 159 0 1 1 0x4 0x3 0 0 0,  -- LANE[k].CTRL (R102)
    pw 0 159 0x1 1 1 0x1ff 0 0 0 0,  -- LANE[k].TX_PRESET (R102)
    pw 0 159 0x2 1 1 0xffffffff 0 0 0 0,  -- LANE[k].TX_FFE (R102)
    pw 0 159 0x3 1 1 0x7f 0 0 0 0,  -- LANE[k].RX_CTRL (R102)
    pw 0 159 0x4 1 1 0 0 0x3fffffff 0 0,  -- LANE[k].RX_DFE (R102)
    pw 0 159 0x5 1 1 0 0 0xffff 0 0x4,  -- LANE[k].STATUS (R102)
    pw 0 159 0x6 1 1 0x3 0 0 0 0,  -- LANE[k].LOOPBACK (R102)
    pw 0 159 0x7 1 1 0xf 0 0 0 0,  -- LANE[k].PRBS (R102)
    pc 0 159 0x8 1 1 32  -- LANE[k].PRBS_ERR (R102)
  ]

/-- The words of class PORT (code 0x05). -/
def paramsPort : List ParamDef :=
  [
    pw 0 129 0 1 1 0x1f 0 0 0 0x10,  -- PORT[n].CTRL (R104)
    pw 0 129 0x1 1 1 0 0 0x7ff 0 0,  -- PORT[n].STATUS (R104)
    pw 0 129 0x2 1 1 0x3fff 0 0 0 0x2400,  -- PORT[n].MAX_FRAME (R104)
    pw 0 129 0x3 1 1 0x1fffff 0 0 0 0x1fffe0,  -- PORT[n].PAUSE (R104)
    pw 0 129 0x4 1 1 0xffff 0 0 0 0xffff,  -- PORT[n].PAUSE_QUANTA (R104)
    pw 0 129 0x5 1 1 0xffff 0 0 0 0,  -- PORT[n].DOWN_POLICY (R104)
    pw 0 129 0x6 1 1 0xff 0 0 0 0x8,  -- PORT[n].TRAIN_RETRY (R104)
    pw 0 129 0x7 1 1 0xffffffff 0 0 0 0x100000,  -- PORT[n].FEC_DEGRADE (R104)
    pw 128 129 0x8 1 1 0xffffffff 0 0 0 0,  -- PORT[n].MAC_ADDR_LO (R104)
    pw 128 129 0x9 1 1 0xffff 0 0 0 0,  -- PORT[n].MAC_ADDR_HI (R104)
    pw 128 129 0xa 1 1 0 0x1 0 0 0x1,  -- PORT[n].HOST_WIDTH (R104)
    pc 0 129 0x100 2 17 48,  -- PORT[n] counters LO (R105)
    ph 0 129 0x101 2 17  -- PORT[n] counters HI (R105)
  ]

/-- The words of class PG (code 0x06). -/
def paramsPg : List ParamDef :=
  [
    pw 0 15 0 1 1 0 0xffffffff 0 0 0,  -- PG[g].MODE (R103)
    pw 0 15 0x1 1 1 0 0xffffff 0 0 0xfac688,  -- PG[g].RX_LANE_MAP (R103)
    pw 0 15 0x2 1 1 0 0xffffff 0 0 0xfac688,  -- PG[g].TX_LANE_MAP (R103)
    pw 0 15 0x3 1 1 0 0 0x7ffff 0 0,  -- PG[g].FIFO_FILL (R103)
    pw 0 15 0x4 1 8 0 0 0x7ffff 0 0  -- PG[g].FIFO_FILLl (R103)
  ]

/-- The words of class PIPE (code 0x07). -/
def paramsPipe : List ParamDef :=
  [
    pw 0 3 0 1 1 0 0 0x3 0 0,  -- PIPE[p].STATUS (R587)
    pw 0 3 0x1 1 1 0 0 0x3ff1fff 0 0  -- PIPE[p].SLOTS (R587)
  ]

/-- The words of class PARSE (code 0x08). -/
def paramsParse : List ParamDef :=
  [
    pw 0 3 0 1 1 0 0 0x1f 0 0,  -- PARSE[p].STATUS (R128)
    pw 0 3 0x1 1 1 0 0 0xffffffff 0 0,  -- PARSE[p].IMAGE_ID0 (R128)
    pw 0 3 0x2 1 1 0 0 0xffffffff 0 0,  -- PARSE[p].IMAGE_ID1 (R128)
    pw 0 3 0x3 1 1 0xffffffff 0 0 0 0,  -- PARSE[p].ERR_THRESHOLD (R128)
    pc 0 3 0x100 2 10 48,  -- PARSE[p] counters LO (R129)
    ph 0 3 0x101 2 10  -- PARSE[p] counters HI (R129)
  ]

/-- The words of class CLS (code 0x09). -/
def paramsCls : List ParamDef :=
  [
    pw 0 3 0 1 1 0 0 0x3f 0 0,  -- CLS[p].STATUS (R155)
    pw 0 3 0x1 1 1 0 0 0xffffffff 0 0,  -- CLS[p].IMAGE_ID0 (R155)
    pw 0 3 0x2 1 1 0 0 0xffffffff 0 0,  -- CLS[p].IMAGE_ID1 (R155)
    pw 0 3 0x3 1 1 0 0xffffffff 0 0 0xffffffff,  -- CLS[p].HASH_SEED (R155)
    pw 0 3 0x4 1 10 0 0xffffffff 0 0 0,  -- CLS[p].TOEPLITZ_KEYi (R155)
    pw 0 3 0x10 1 4 0xffffffff 0 0 0 0,  -- CLS[p].PORT_CLASSw (R155)
    pw 0 3 0x14 1 1 0xff 0 0 0 0,  -- CLS[p].SVC_CLASS (R155)
    pw 0 3 0x200 2 64 0 0 0xffffffff 0 0,  -- CLS[p].BANKMASKx (R155)
    pw 0 3 0x201 2 64 0 0 0xffffffff 0 0,  -- CLS[p].BANKMASKx (continued) (R155)
    pc 0 3 0x100 2 6 48,  -- CLS[p] counters LO (R156)
    ph 0 3 0x101 2 6  -- CLS[p] counters HI (R156)
  ]

/-- The words of class RB (code 0x0A). -/
def paramsRb : List ParamDef :=
  [
    pw 0 63 0 1 1 0x3 0 0 0 0,  -- RB[b].CTRL (R182)
    pw 0 63 0x1 1 1 0 0xbf 0 0 0,  -- RB[b].PAIR (R182)
    pw 0 63 0x2 1 1 0 0 0xfff 0 0,  -- RB[b].STATUS (R182)
    pw 0 63 0x3 1 1 0 0 0xfff 0 0,  -- RB[b].FILL (R182)
    pw 0 63 0x4 1 1 0 0 0x7ff 0 0,  -- RB[b].SCRUB_POS (R182)
    pc 0 63 0x5 1 1 32,  -- RB[b].REPAIR_COUNT (R182)
    pw 0 63 0x6 1 1 0 0 0xffff07ff 0 0,  -- RB[b].LAST_REPAIR (R182)
    pc 0 63 0x7 1 1 32,  -- RB[b].PAIR_MISMATCH (R182)
    pw 0 63 0x8 1 1 0 0 0x7ff 0 0,  -- RB[b].LOST_ENTRY (R182)
    pw 64 64 0 1 1 0xffff01 0 0 0 0x665f01,  -- RB[64].GOV_CTRL (R183)
    pw 64 64 0x1 1 1 0x1ffff 0 0 0 0x7e90,  -- RB[64].GOV_FLOOR (R183)
    pw 64 64 0x2 1 1 0 0 0x1fff 0 0x690,  -- RB[64].GOV_STATUS (R183)
    pw 64 64 0x3 1 1 0 0 0x1ffff 0 0x7e90  -- RB[64].GOV_CAP (R183)
  ]

/-- The words of class RCMP (code 0x0B). -/
def paramsRcmp : List ParamDef :=
  [
    pw 0 3 0 4 64 0xff1fff 0 0 0 0,  -- RCMP[p].CTRLc (R157)
    pw 0 3 0x1 4 64 0xffffffff 0 0 0 0,  -- RCMP[p].BOUNDSc (R157)
    pc 0 3 0x2 4 64 32,  -- RCMP[p].HITSc (R157)
    pc 0 3 0x100 1 1 32  -- RCMP[p].NOMATCH (R157)
  ]

/-- The words of class FWD (code 0x0C). -/
def paramsFwd : List ParamDef :=
  [
    pw 0 3 0 1 1 0 0 0x7 0 0,  -- FWD[p].STATUS (R203)
    pw 0 3 0x1 1 1 0x7 0 0 0 0x3,  -- FWD[p].LEARN_CTRL (R203)
    pw 0 3 0x2 1 1 0xffffffff 0 0 0 0xffffffff,  -- FWD[p].LEARN_PORT (R203)
    pw 0 3 0x3 1 1 0 0 0xffffffff 0 0x5a5a0001,  -- FWD[p].SEEDS0 (R203)
    pw 0 3 0x4 1 1 0 0 0xffffffff 0 0x5a5a0002,  -- FWD[p].SEEDS1 (R203)
    pw 0 3 0x5 1 1 0 0 0xffffffff 0 0x5a5a0003,  -- FWD[p].SEEDS2 (R203)
    pw 0 3 0x6 1 1 0 0 0xffffffff 0 0x5a5a0004,  -- FWD[p].SEEDS3 (R203)
    pw 0 3 0x8 1 1 0 0 0xfffff 0 0,  -- FWD[p].FILL_L2 (R203)
    pw 0 3 0x9 1 1 0 0 0xfffff 0 0,  -- FWD[p].FILL_L3 (R203)
    pw 0 3 0xa 1 1 0 0 0xfffff 0 0,  -- FWD[p].FILL_LPM4 (R203)
    pw 0 3 0xb 1 1 0 0 0x3ffff 0 0,  -- FWD[p].FILL_LPM6 (R203)
    pw 0 3 0xc 1 1 0 0 0x3ffff 0 0,  -- FWD[p].REHASH_PROGRESS (R203)
    pw 0 3 0x10 2 16 0xffffffff 0 0 0 0,  -- FWD[p].ROUTER_MACi_LO (R203)
    pw 0 3 0x11 2 16 0xffff 0 0 0 0,  -- FWD[p].ROUTER_MACi_HI (R203)
    pw 0 3 0x40 1 64 0xf 0 0 0 0xc,  -- FWD[p].SPREAD_SIZEt (R203)
    pc 0 3 0x100 2 9 48,  -- FWD[p] counters LO (R204)
    ph 0 3 0x101 2 9  -- FWD[p] counters HI (R204)
  ]

/-- The words of class FS (code 0x0D). -/
def paramsFs : List ParamDef :=
  [
    pw 16 16 0 1 1 0 0 0x3 0 0,  -- FS[16].PROG_STATUS (R232)
    pw 16 16 0x1 1 1 0 0 0xffffffff 0 0,  -- FS[16].PROG_IMAGE_ID (R232)
    pw 16 16 0x2 1 1 0 0 0x7ff 0 0,  -- FS[16].TEMPLATES (R232)
    pc 0 15 0x40 1 1 32,  -- FS[n].TAG_ERR (R232)
    pc 0 15 0x41 1 1 32,  -- FS[n].BIND_FAIL (R232)
    pc 0 15 0x42 1 1 32,  -- FS[n].TEMPLATE_MISMATCH (R232)
    pc 0 15 0x43 1 1 32,  -- FS[n].DIGEST_CLASH (R232)
    pw 0 15 0 1 1 0 0 0x1f 0 0x1,  -- FS[n].STATUS (R265)
    pw 0 15 0x1 1 1 0 0 0xfff3fff 0 0,  -- FS[n].INFLIGHT (R265)
    pw 0 15 0x2 1 1 0 0 0x7ff 0 0,  -- FS[n].CREATE_QUEUE (R265)
    pw 0 15 0x3 1 1 0 0 0x3ff 0 0,  -- FS[n].PUNT_USE (R265)
    pw 0 15 0x4 1 1 0xfffff 0 0 0 0x3e8,  -- FS[n].PUNT_CTRL (R265)
    pw 0 15 0x5 1 1 0 0 0xfff0fff 0 0,  -- FS[n].LOAD (R265)
    pw 16 16 0x10 1 1 0 0xffffffff 0 0 0xa5a5a5a5,  -- FS[16].FLOW_SEED_LO (R265)
    pw 16 16 0x11 1 1 0 0xffffffff 0 0 0x5a5a5a5a,  -- FS[16].FLOW_SEED_HI (R265)
    pw 16 16 0x12 1 1 0xfff 0 0 0 0x3e8,  -- FS[16].RESULT_WATCHDOG (R265)
    pw 16 16 0x13 1 1 0 0 0xffffff01 0 0,  -- FS[16].SWEEP_STATUS (R265)
    pw 0 15 0x6 1 1 0x3ffff 0 0 0 0x20000,  -- FS[n].HEARTH_PIN_LIMIT (R297)
    pw 0 15 0x7 1 1 0 0 0x7ffff 0 0,  -- FS[n].HEARTH_USE (R297)
    pw 0 15 0x8 1 1 0 0 0x3ffff 0 0,  -- FS[n].HEARTH_PINNED (R297)
    pw 0 15 0x9 1 1 0 0 0x7ffffff 0 0,  -- FS[n].STACK_FILL (R297)
    pw 0 15 0xa 1 1 0 0 0x1fffffff 0 0,  -- FS[n].COLD_FILL (R297)
    pw 0 15 0xb 1 1 0xff7f7f 0 0 0 0xc05055,  -- FS[n].DEMOTE_CTRL (R297)
    pw 0 15 0xc 1 1 0x3f3fff 0 0 0 0x102080,  -- FS[n].DEMOTE_SCAN (R297)
    pw 0 15 0xd 1 1 0 0 0x3ffff 0 0x80,  -- FS[n].TIER_STATUS (R297)
    pw 0 15 0xe 1 1 0 0 0x1fff 0 0,  -- FS[n].HOLD_USE (R297)
    pw 16 16 0x14 1 1 0 0x1f 0 0 0x14,  -- FS[16].STACK_SIZE (R297)
    pw 0 15 0xf 1 1 0 0 0xffffffff 0 0,  -- FS[n].WHEEL_USE (R324)
    pw 16 16 0x18 1 1 0 0xf 0 0 0x8,  -- FS[16].TRANS_SIZE (R324)
    pw 16 16 0x20 1 8 0xffffffff 0 0 0 0  -- FS[16].SILENCE_ACTIONw (R324)
  ]
  ++ [
    pw 16 16 0x28 1 1 0x3 0 0 0 0x1,  -- FS[16].SILENCE_VERDICT (R324)
    pw 16 16 0x29 1 1 0 0 0xffffff01 0 0,  -- FS[16].REPIN_STATUS (R324)
    pc 0 15 0x44 1 12 32,  -- FS[n] counters 0x044 to 0x04F (R266)
    pc 0 15 0x50 1 10 32,  -- FS[n] counters 0x050 to 0x059 (R298)
    pc 0 15 0x5a 1 8 32,  -- FS[n] counters 0x05A to 0x061 (R325)
    pc 0 15 0x62 1 2 32  -- FS[n] counters 0x062 to 0x063 (R50)
  ]

/-- The words of class HBMC (code 0x0E). -/
def paramsHbmc : List ParamDef :=
  [
    pw 0 127 0 1 1 0xff00 0x1 0 0 0x800,  -- HBMC[k].CTRL (R424)
    pw 0 127 0x1 1 1 0 0 0x1fff 0 0,  -- HBMC[k].STATUS (R424)
    pw 0 127 0x2 1 1 0 0 0xffffffff 0 0,  -- HBMC[k].SCRUB_POS (R424)
    pc 0 127 0x3 1 1 32,  -- HBMC[k].CE_COUNT (R424)
    pc 0 127 0x4 1 1 32,  -- HBMC[k].UE_COUNT (R424)
    pc 0 127 0x5 1 1 32,  -- HBMC[k].REPLAYS (R424)
    pc 0 127 0x6 1 1 32,  -- HBMC[k].PARITY_ERR (R424)
    pc 0 127 0x7 1 1 32,  -- HBMC[k].ABORTED (R424)
    pw 0 127 0x8 1 1 0xffff 0 0 0 0x40,  -- HBMC[k].CE_LIMIT (R424)
    pw 128 128 0 1 1 0 0x3fffffff 0 0 0x410400,  -- HBMC[128].BANK_MASK0 (R424)
    pw 128 128 0x1 1 1 0 0x3fffffff 0 0 0x820800,  -- HBMC[128].BANK_MASK1 (R424)
    pw 128 128 0x2 1 1 0 0x3fffffff 0 0 0x1041000,  -- HBMC[128].BANK_MASK2 (R424)
    pw 128 128 0x3 1 1 0 0x3fffffff 0 0 0x2082000,  -- HBMC[128].BANK_MASK3 (R424)
    pw 128 128 0x4 1 1 0 0x3fffffff 0 0 0x4104000,  -- HBMC[128].BANK_MASK4 (R424)
    pw 128 128 0x5 1 1 0 0x3fffffff 0 0 0x8208000,  -- HBMC[128].BANK_MASK5 (R424)
    pw 128 128 0x8 1 7 0 0xffffffff 0 0 0,  -- HBMC[128].WIN_MASKi (R424)
    pw 128 128 0x10 1 1 0xf 0 0 0 0x8,  -- HBMC[128].SCRUB_RATE (R424)
    pw 128 128 0x11 1 1 0xff 0 0 0 0x5f,  -- HBMC[128].HOT_LIMIT (R424)
    pw 128 128 0x12 1 1 0x3fff 0 0 0 0x64  -- HBMC[128].DRAIN_TICKS (R424)
  ]

/-- The words of class DDRC (code 0x0F). -/
def paramsDdrc : List ParamDef :=
  [
    pw 0 15 0 1 1 0xff00 0x3 0 0 0x800,  -- DDRC[k].CTRL (R424)
    pw 0 15 0x1 1 1 0 0 0xffff 0 0,  -- DDRC[k].STATUS (R424)
    pw 0 15 0x2 1 1 0 0 0xffffffff 0 0,  -- DDRC[k].SCRUB_POS (R424)
    pc 0 15 0x3 1 1 32,  -- DDRC[k].CE_COUNT (R424)
    pc 0 15 0x4 1 1 32,  -- DDRC[k].UE_COUNT (R424)
    pc 0 15 0x5 1 1 32,  -- DDRC[k].REPLAYS (R424)
    pc 0 15 0x6 1 1 32,  -- DDRC[k].PARITY_ERR (R424)
    pc 0 15 0x7 1 1 32,  -- DDRC[k].ABORTED (R424)
    pw 0 15 0x8 1 1 0xffff 0 0 0 0x40,  -- DDRC[k].CE_LIMIT (R424)
    pw 0 15 0x9 1 4 0 0 0xffffffff 0 0,  -- DDRC[k].DIMM_ID (R424)
    pw 16 16 0 1 8 0 0xffffffff 0 0 0,  -- DDRC[16].BANK_MASKj (R424)
    pw 16 16 0x10 1 1 0xf 0 0 0 0x8,  -- DDRC[16].SCRUB_RATE (R424)
    pw 16 16 0x11 1 1 0xff 0 0 0 0x5f,  -- DDRC[16].HOT_LIMIT (R424)
    pw 16 16 0x12 1 1 0x3fff 0 0 0 0x64  -- DDRC[16].DRAIN_TICKS (R424)
  ]

/-- The words of class BM (code 0x10). -/
def paramsBm : List ParamDef :=
  [
    pw 0 1 0 1 1 0 0x7f 0 0 0x8,  -- BM[d].OWNER_MIN (R370)
    pw 0 1 0x1 1 1 0 0x3ffff 0 0 0x4000,  -- BM[d].HEADROOM_SIZE (R370)
    pw 0 1 0x2 1 1 0 0x3ffff 0 0 0x2000,  -- BM[d].HOST_SIZE (R370)
    pw 0 1 0x3 1 1 0 0 0x3ffff 0 0x27f00,  -- BM[d].SHARED_SIZE (R370)
    pw 0 1 0x4 1 1 0x7f 0 0 0 0x10,  -- BM[d].ALPHA (R370)
    pw 0 1 0x5 1 1 0xfff 0 0 0 0x40,  -- BM[d].XON_GAP (R370)
    pw 0 1 0x6 1 1 0x1 0 0 0 0,  -- BM[d].HOST_CTRL (R370)
    pw 0 1 0x7 1 1 0 0 0x3ffff 0 0x27f00,  -- BM[d].FREE (R370)
    pw 0 1 0x8 1 1 0 0 0x3ffff 0 0x4000,  -- BM[d].HEADROOM_FREE (R370)
    pw 0 1 0x9 1 1 0 0 0x3ffff 0 0x2000,  -- BM[d].HOST_FREE (R370)
    pc 0 1 0xa 1 1 32,  -- BM[d].HOST_COPY_OMITTED (R370)
    pw 0 1 0x100 1 132 0xffff 0 0 0 0x200,  -- BM[d].PORT_HEADROOMs (R370)
    pc 0 1 0x200 1 132 32,  -- BM[d].RX_REFUSEDs (R370)
    pw 0 1 0x400 1 1056 0 0 0xc003ffff 0 0  -- BM[d].OWNER_USEs_c (R370)
  ]

/-- The words of class EGR (code 0x11). -/
def paramsEgr : List ParamDef :=
  [
    pw 0 129 0 1 8 0xff03 0 0 0 0x100,  -- EGR[n].SCHEDc (R371)
    pw 0 129 0x8 1 1 0x3ffffff 0 0 0 0,  -- EGR[n].CAL6 (R371)
    pw 0 129 0x9 1 1 0x3ffffff 0 0 0 0,  -- EGR[n].CAL7 (R371)
    pw 0 129 0xa 1 1 0x3 0 0 0 0x3,  -- EGR[n].CAL_CTRL (R371)
    pw 0 129 0xb 1 1 0xff 0 0 0 0,  -- EGR[n].CT_CTRL (R371)
    pw 0 129 0xc 1 1 0xffffffff 0 0 0 0x186a0,  -- EGR[n].STALL_TICKS (R371)
    pw 0 129 0xd 1 1 0 0 0x3ffff 0 0x10000,  -- EGR[n].STATUS (R371)
    pw 0 129 0x10 1 8 0 0 0x3ffff 0 0,  -- EGR[n].QDEPTHc (R371)
    pc 0 129 0x100 2 7 48,  -- EGR[n] counters LO (R372)
    ph 0 129 0x101 2 7  -- EGR[n] counters HI (R372)
  ]

/-- The words of class HQ (code 0x12). -/
def paramsHq : List ParamDef :=
  [
    pw 0 1023 0 1 1 0 0 0x3ffffff 0x4000000 0,  -- HQ[q].STATE (R471)
    pw 0 1023 0x1 1 1 0 0 0xffffffff 0 0,  -- HQ[q].DOORBELL (R471)
    pw 0 1023 0x2 1 1 0 0 0xffffffff 0 0,  -- HQ[q].FETCHED (R471)
    pw 0 1023 0x3 1 1 0 0 0xffffffff 0 0,  -- HQ[q].HEAD (R471)
    pw 0 1023 0x4 1 1 0 0 0x7f 0 0,  -- HQ[q].HELD (R471)
    pw 0 1023 0x5 1 1 0 0 0x7f 0 0,  -- HQ[q].IN_EXEC (R471)
    pc 0 1023 0x6 1 1 32,  -- HQ[q].LOST (R471)
    pc 0 1023 0x7 1 1 32,  -- HQ[q].DB_INVALID (R471)
    pw 0 0 0x200 1 1 0xffff 0 0 0 0x3e8,  -- HQ[0].EXPORT_LINGER (R471)
    pc 0 0 0x201 1 2 32  -- HQ[0].RX_NO_QUEUEd (R471)
  ]

/-- The words of class QP (code 0x13). -/
def paramsQp : List ParamDef :=
  [
    pw 256 256 0 8 2 0 0xffffffff 0 0 0,  -- QP[256].HPh_IPV4 (R440)
    pw 256 256 0x1 1 4 0 0xffffffff 0 0 0,  -- QP[256].HP0_IPV6w (R440)
    pw 256 256 0x9 1 4 0 0xffffffff 0 0 0,  -- QP[256].HP1_IPV6w (R440)
    pw 256 256 0x5 8 2 0 0xffff 0 0 0xe000,  -- QP[256].HPh_VLAN (R440)
    pw 256 256 0x6 8 2 0x1 0xfe 0 0 0x3,  -- QP[256].HPh_CTRL (R440)
    pw 256 256 0x10 1 1 0xff 0 0 0 0xee,  -- QP[256].RETRY (R440)
    pw 256 256 0x11 1 1 0 0xffffffff 0 0 0xc0074,  -- QP[256].PEAT_WIN (R440)
    pw 256 256 0x12 1 1 0 0 0x3ff 0 0,  -- QP[256].STATUS (R440)
    pw 0 255 0 1 1 0 0 0xff07 0 0,  -- QP[q].STATE (R440)
    pw 0 255 0x1 1 1 0 0 0xffffff 0 0,  -- QP[q].SQ_PSN (R440)
    pw 0 255 0x2 1 1 0 0 0xffffff 0 0,  -- QP[q].RQ_PSN (R440)
    pw 0 255 0x3 1 1 0 0 0xffffff 0 0,  -- QP[q].UNACKED (R440)
    pc 256 256 0x100 2 8 48,  -- QP[256] counters LO (R441)
    ph 256 256 0x101 2 8,  -- QP[256] counters HI (R441)
    pc 0 255 0x100 2 4 48,  -- QP[q] counters LO (R441)
    ph 0 255 0x101 2 4  -- QP[q] counters HI (R441)
  ]

/-- The words of class DX (code 0x14). -/
def paramsDx : List ParamDef :=
  [
    pw 0 31 0 1 1 0x1 0 0 0 0x1,  -- DX[c].CTRL (R472)
    pw 0 31 0x1 1 1 0 0 0xfff 0 0,  -- DX[c].STATUS (R472)
    pw 0 31 0x2 1 1 0 0 0xffffffff 0 0,  -- DX[c].BYTES (R472)
    pc 0 31 0x3 1 1 32,  -- DX[c].DESC_DONE (R472)
    pc 0 31 0x4 1 1 32,  -- DX[c].DESC_BAD (R472)
    pw 0 31 0x5 1 1 0 0 0xffffffff 0 0  -- DX[c].LAST_BAD (R472)
  ]

/-- The words of class SC (code 0x15). -/
def paramsSc : List ParamDef :=
  [
    pw 0 1 0 1 1 0 0 0xffffffff 0 0xffff,  -- SC[d].STATUS (R517)
    pw 0 1 0x1 1 1 0xffff 0 0 0 0x3e8,  -- SC[d].AGE_TICKS (R517)
    pw 0 1 0x2 1 1 0 0 0x3fff 0 0,  -- SC[d].DELAY_USE (R517)
    pc 0 1 0x3 1 1 32,  -- SC[d].DELAY_CARRY (R517)
    pw 0 1 0x4 1 1 0 0 0x7f 0 0,  -- SC[d].CTX_USE (R517)
    pw 0 1 0x8 1 1 0xffff07 0 0 0 0xffff05,  -- SC[d].CLASS0 (R517)
    pw 0 1 0x9 1 1 0xffff07 0 0 0 0xffff01,  -- SC[d].CLASS1 (R517)
    pw 0 1 0xa 1 1 0xffff07 0 0 0 0xffff03,  -- SC[d].CLASS2 (R517)
    pw 0 1 0xb 1 1 0xffff07 0 0 0 0xffff04,  -- SC[d].CLASS3 (R517)
    pw 0 1 0xc 1 1 0xffff07 0 0 0 0xffff06,  -- SC[d].CLASS4 (R517)
    pw 0 1 0xd 1 1 0xffff07 0 0 0 0xffff00,  -- SC[d].CLASS5 (R517)
    pw 0 1 0xe 1 1 0xffff07 0 0 0 0xffff02,  -- SC[d].CLASS6 (R517)
    pw 0 1 0xf 1 1 0xffff07 0 0 0 0xffff07,  -- SC[d].CLASS7 (R517)
    pw 0 1 0x10 1 8 0 0 0x1ffff 0 0,  -- SC[d].CLASS_USEc (R517)
    pw 0 1 0x18 1 8 0 0 0x1ffff 0 0,  -- SC[d].READY_DEPTHp (R517)
    pw 0 1 0x20 1 16 0 0 0x7f07ff 0 0,  -- SC[d].CORE_LOADj (R517)
    pc 0 1 0x40 1 128 32,  -- SC[d].WAIT_HISTc_b (R517)
    pc 0 1 0xc0 1 1 32,  -- SC[d].PREEMPTS (R517)
    pc 0 1 0xc1 1 1 32,  -- SC[d].AGED (R517)
    pc 0 1 0xc2 1 1 32,  -- SC[d].RESTARTED (R517)
    pc 0 1 0xc3 1 1 32,  -- SC[d].DELAY_FULL (R517)
    pc 0 1 0xc4 1 1 32,  -- SC[d].AFFINITY_OVERRIDE (R517)
    pc 0 1 0xc8 1 8 32  -- SC[d].CLASS_DROPc (R517)
  ]

/-- The words of class PMON (code 0x16). -/
def paramsPmon : List ParamDef :=
  [
    pw 0 0 0 1 1 0x1 0 0 0 0,  -- PMON[0].CTRL (R531)
    pw 1 4 0 1 1 0x1f07 0 0 0 0x4,  -- PMON[1+p].SAMPLE_CTRL (R531)
    pw 1 4 0x1 1 1 0xffffff 0 0 0 0x400,  -- PMON[1+p].SAMPLE_N (R531)
    pw 1 4 0x2 1 1 0xffff 0 0 0 0x546,  -- PMON[1+p].SAMPLE_LAT (R531)
    pw 1 4 0x4 1 1 0 0 0xffffffff 0 0,  -- PMON[1+p].SAMPLE_WRITE_LO (R531)
    pw 1 4 0x5 1 1 0 0 0xffffffff 0 0,  -- PMON[1+p].SAMPLE_WRITE_HI (R531)
    pc 1 4 0x6 1 1 32,  -- PMON[1+p].SAMPLE_MISSED (R531)
    pw 1 4 0x10 1 16 0x1ffff 0 0 0 0,  -- PMON[1+p].EVSELk (R531)
    pw 16 31 0x10 1 8 0x1ffff 0 0 0 0,  -- PMON[16+n].EVSELk (R531)
    pw 1 4 0x100 2 16 0 0 0xffffffff 0 0,  -- PMON[1+p].COUNTk_LO (R531)
    pw 16 31 0x100 2 8 0 0 0xffffffff 0 0,  -- PMON[16+n].COUNTk_LO (R531)
    pw 1 4 0x101 2 16 0 0 0xffff 0 0,  -- PMON[1+p].COUNTk_HI (R531)
    pw 16 31 0x101 2 8 0 0 0xffff 0 0,  -- PMON[16+n].COUNTk_HI (R531)
    pw 32 32 0 8 1024 0x3ffff 0 0 0 0,  -- PMON[32].THRESH_A (u from 0) (R531)
    pw 33 33 0 8 6 0x3ffff 0 0 0 0,  -- PMON[33].THRESH_A (u from 0) (R531)
    pw 33 33 0x80 8 64 0x3ffff 0 0 0 0,  -- PMON[33].THRESH_A (u from 16) (R531)
    pw 33 33 0x400 8 144 0x3ffff 0 0 0 0,  -- PMON[33].THRESH_A (u from 128) (R531)
    pw 33 33 0x880 8 16 0x3ffff 0 0 0 0,  -- PMON[33].THRESH_A (u from 272) (R531)
    pw 32 32 0x1 8 1024 0x3ffff 0 0 0 0,  -- PMON[32].THRESH_B (u from 0) (R531)
    pw 33 33 0x1 8 6 0x3ffff 0 0 0 0,  -- PMON[33].THRESH_B (u from 0) (R531)
    pw 33 33 0x81 8 64 0x3ffff 0 0 0 0,  -- PMON[33].THRESH_B (u from 16) (R531)
    pw 33 33 0x401 8 144 0x3ffff 0 0 0 0,  -- PMON[33].THRESH_B (u from 128) (R531)
    pw 33 33 0x881 8 16 0x3ffff 0 0 0 0,  -- PMON[33].THRESH_B (u from 272) (R531)
    pw 32 32 0x2 8 1024 0 0 0xffffffff 0 0,  -- PMON[32].COUNT_A_LO (u from 0) (R531)
    pw 32 32 0x3 8 1024 0 0 0xffff 0 0,  -- PMON[32].COUNT_A_HI (u from 0) (R531)
    pw 33 33 0x2 8 6 0 0 0xffffffff 0 0,  -- PMON[33].COUNT_A_LO (u from 0) (R531)
    pw 33 33 0x3 8 6 0 0 0xffff 0 0,  -- PMON[33].COUNT_A_HI (u from 0) (R531)
    pw 33 33 0x82 8 64 0 0 0xffffffff 0 0,  -- PMON[33].COUNT_A_LO (u from 16) (R531)
    pw 33 33 0x83 8 64 0 0 0xffff 0 0,  -- PMON[33].COUNT_A_HI (u from 16) (R531)
    pw 33 33 0x402 8 144 0 0 0xffffffff 0 0  -- PMON[33].COUNT_A_LO (u from 128) (R531)
  ]
  ++ [
    pw 33 33 0x403 8 144 0 0 0xffff 0 0,  -- PMON[33].COUNT_A_HI (u from 128) (R531)
    pw 33 33 0x882 8 16 0 0 0xffffffff 0 0,  -- PMON[33].COUNT_A_LO (u from 272) (R531)
    pw 33 33 0x883 8 16 0 0 0xffff 0 0,  -- PMON[33].COUNT_A_HI (u from 272) (R531)
    pw 32 32 0x4 8 1024 0 0 0xffffffff 0 0,  -- PMON[32].COUNT_B_LO (u from 0) (R531)
    pw 32 32 0x5 8 1024 0 0 0xffff 0 0,  -- PMON[32].COUNT_B_HI (u from 0) (R531)
    pw 33 33 0x4 8 6 0 0 0xffffffff 0 0,  -- PMON[33].COUNT_B_LO (u from 0) (R531)
    pw 33 33 0x5 8 6 0 0 0xffff 0 0,  -- PMON[33].COUNT_B_HI (u from 0) (R531)
    pw 33 33 0x84 8 64 0 0 0xffffffff 0 0,  -- PMON[33].COUNT_B_LO (u from 16) (R531)
    pw 33 33 0x85 8 64 0 0 0xffff 0 0,  -- PMON[33].COUNT_B_HI (u from 16) (R531)
    pw 33 33 0x404 8 144 0 0 0xffffffff 0 0,  -- PMON[33].COUNT_B_LO (u from 128) (R531)
    pw 33 33 0x405 8 144 0 0 0xffff 0 0,  -- PMON[33].COUNT_B_HI (u from 128) (R531)
    pw 33 33 0x884 8 16 0 0 0xffffffff 0 0,  -- PMON[33].COUNT_B_LO (u from 272) (R531)
    pw 33 33 0x885 8 16 0 0 0xffff 0 0,  -- PMON[33].COUNT_B_HI (u from 272) (R531)
    pw 32 32 0x6 8 1024 0 0 0x3ffff 0 0,  -- PMON[32].OCC (u from 0) (R531)
    pw 33 33 0x6 8 6 0 0 0x3ffff 0 0,  -- PMON[33].OCC (u from 0) (R531)
    pw 33 33 0x86 8 64 0 0 0x3ffff 0 0,  -- PMON[33].OCC (u from 16) (R531)
    pw 33 33 0x406 8 144 0 0 0x3ffff 0 0,  -- PMON[33].OCC (u from 128) (R531)
    pw 33 33 0x886 8 16 0 0 0x3ffff 0 0,  -- PMON[33].OCC (u from 272) (R531)
    pc 32 32 0x7 8 1024 18,  -- PMON[32].PEAK (u from 0) (R531)
    pc 33 33 0x7 8 6 18,  -- PMON[33].PEAK (u from 0) (R531)
    pc 33 33 0x87 8 64 18,  -- PMON[33].PEAK (u from 16) (R531)
    pc 33 33 0x407 8 144 18,  -- PMON[33].PEAK (u from 128) (R531)
    pc 33 33 0x887 8 16 18  -- PMON[33].PEAK (u from 272) (R531)
  ]

/-- The words of class TWIN (code 0x17). -/
def paramsTwin : List ParamDef :=
  [
    pw 0 0 0 1 1 0xf0e 0x1 0 0 0x80f,  -- TWIN[0].CTRL (R553)
    pw 0 0 0x1 1 1 0 0 0xf7f 0 0,  -- TWIN[0].STATUS (R553)
    pw 0 0 0x2 1 1 0 0 0xf 0 0,  -- TWIN[0].HB_MISSED (R553)
    pw 0 0 0x3 1 1 0 0 0xffffffff 0 0,  -- TWIN[0].TICK_OFFSET_LO (R553)
    pw 0 0 0x4 1 1 0 0 0xffff 0 0,  -- TWIN[0].TICK_OFFSET_HI (R553)
    pw 0 0 0x5 1 1 0 0 0xffffffff 0 0,  -- TWIN[0].LAG (R553)
    pw 0 0 0x6 1 2 0 0 0xffffffff 0 0,  -- TWIN[0].SEQ_SENTd (R553)
    pw 0 0 0x8 1 2 0 0 0xffffffff 0 0,  -- TWIN[0].SEQ_APPLIEDd (R553)
    pw 0 0 0xa 1 1 0 0 0x1fffffff 0 0,  -- TWIN[0].WALK (R553)
    pw 0 0 0xb 1 1 0 0 0x3f 0 0,  -- TWIN[0].MISMATCH (R553)
    pw 0 0 0xc 1 1 0 0 0xffffffff 0 0,  -- TWIN[0].PEER_SERIAL_LO (R553)
    pw 0 0 0xd 1 1 0 0 0xffffffff 0 0,  -- TWIN[0].PEER_SERIAL_HI (R553)
    pc 0 0 0x10 1 8 32,  -- TWIN[0] counters (R553)
    pw 1 2 0 1 1 0 0 0xff03 0 0,  -- TWIN[1+h].STATE (R553)
    pw 1 2 0x1 1 1 0 0 0xffffff 0 0,  -- TWIN[1+h].LANE_ORDER (R553)
    pc 1 2 0x10 1 3 32  -- TWIN[1+h] counters (R553)
  ]

/-- The words of class JNL (code 0x18). -/
def paramsJnl : List ParamDef :=
  [
    pw 0 0 0 1 1 0xff0fff 0 0 0 0x1,  -- JNL[0].CTRL (R344)
    pw 1 8 0 1 1 0xff0fff 0 0 0 0x2,  -- JNL[1..8].CTRL (R344)
    pw 0 0 0x1 1 1 0 0xffff 0 0 0x20,  -- JNL[0].SIZE (R344)
    pw 1 8 0x1 1 1 0 0xffff 0 0 0x8,  -- JNL[1..8].SIZE (R344)
    pw 0 0 0x2 1 1 0 0xffff 0 0 0x14,  -- JNL[0].BASE (R344)
    pw 1 1 0x2 1 1 0 0xffff 0 0 0x34,  -- JNL[1].BASE (R344)
    pw 2 2 0x2 1 1 0 0xffff 0 0 0x3c,  -- JNL[2].BASE (R344)
    pw 3 3 0x2 1 1 0 0xffff 0 0 0x44,  -- JNL[3].BASE (R344)
    pw 4 4 0x2 1 1 0 0xffff 0 0 0x4c,  -- JNL[4].BASE (R344)
    pw 5 5 0x2 1 1 0 0xffff 0 0 0x54,  -- JNL[5].BASE (R344)
    pw 6 6 0x2 1 1 0 0xffff 0 0 0x5c,  -- JNL[6].BASE (R344)
    pw 7 7 0x2 1 1 0 0xffff 0 0 0x64,  -- JNL[7].BASE (R344)
    pw 8 8 0x2 1 1 0 0xffff 0 0 0x6c,  -- JNL[8].BASE (R344)
    pw 0 8 0x3 1 4 0xffffffff 0 0 0 0,  -- JNL[i].PORTS0..3 (R344)
    pw 0 8 0x7 1 1 0x3 0 0 0 0,  -- JNL[i].PORTS4 (R344)
    pw 0 8 0x8 1 1 0 0 0xffffffff 0 0,  -- JNL[i].WRITE_LO (R344)
    pw 0 8 0x9 1 1 0 0 0xffffffff 0 0,  -- JNL[i].WRITE_HI (R344)
    pw 0 8 0xa 1 1 0 0 0xffffffff 0 0,  -- JNL[i].READ_LO (R344)
    pw 0 8 0xb 1 1 0 0 0xffffffff 0 0,  -- JNL[i].READ_HI (R344)
    pw 0 8 0xc 1 1 0xffffffff 0 0 0 0,  -- JNL[i].CONSUMED_LO (R344)
    pw 0 8 0xd 1 1 0xffffffff 0 0 0 0,  -- JNL[i].CONSUMED_HI (R344)
    pw 0 8 0xe 1 1 0 0 0x1fff 0 0,  -- JNL[i].STATUS (R344)
    pw 0 8 0xf 1 1 0x7f 0 0 0 0x4b,  -- JNL[i].FILL_THRESHOLD (R344)
    pc 0 8 0x10 1 1 32,  -- JNL[i].LOST (R344)
    pc 0 8 0x11 1 1 32,  -- JNL[i].OVERWRITTEN (R344)
    pc 0 8 0x12 1 1 32,  -- JNL[i].SKIPPED (R344)
    pw 9 9 0 1 1 0x1 0 0 0 0x1,  -- JNL[9].CTRL (R500)
    pw 9 9 0x1 1 1 0 0xffff 0 0 0,  -- JNL[9].SIZE (R500)
    pw 9 9 0x2 1 1 0 0xffff 0 0 0x7f,  -- JNL[9].BASE (R500)
    pw 9 9 0x8 1 1 0 0 0xffffffff 0 0  -- JNL[9].WRITE_LO (R500)
  ]
  ++ [
    pw 9 9 0x9 1 1 0 0 0xffffffff 0 0,  -- JNL[9].WRITE_HI (R500)
    pw 9 9 0xa 1 1 0 0 0xffffffff 0 0,  -- JNL[9].READ_LO (R500)
    pw 9 9 0xb 1 1 0 0 0xffffffff 0 0,  -- JNL[9].READ_HI (R500)
    pw 9 9 0xe 1 1 0 0 0x1 0 0,  -- JNL[9].STATUS (R500)
    pc 9 9 0x10 1 1 32  -- JNL[9].LOST (R500)
  ]

/-- The words of class CAL (code 0x19). -/
def paramsCal : List ParamDef :=
  [
    pw 0 0 0 1 1 0 0 0xf 0 0,  -- CAL[0].STATUS (R586)
    pw 0 0 0x1 1 1 0 0 0xffffffff 0 0,  -- CAL[0].SEQUENCE (R586)
    pw 0 0 0x2 1 1 0 0 0xffffffff 0 0  -- CAL[0].ORIGIN (R586)
  ]

/-- The words of class MC (code 0x1A). -/
def paramsMc : List ParamDef :=
  [
    pw 0 0 0 1 1 0 0 0xffffffff 0 0,  -- MC[0].FIRMWARE (R585)
    pw 0 0 0x1 1 1 0 0 0x3f 0 0,  -- MC[0].SESSIONS (R585)
    pw 0 0 0x2 1 1 0 0 0x1fff 0 0,  -- MC[0].HANDLES (R585)
    pw 0 0 0x3 1 1 0 0 0x7f 0 0,  -- MC[0].MAILBOX (R585)
    pw 0 0 0x4 1 1 0 0 0xffffffff 0 0,  -- MC[0].AUDIT_NEXT_LO (R585)
    pw 0 0 0x5 1 1 0 0 0xffffffff 0 0,  -- MC[0].AUDIT_NEXT_HI (R585)
    pw 0 0 0x8 1 4 0 0 0x7ff 0 0  -- MC[0].LOADk (R585)
  ]

/-- The parameter rows of a class by its code (R574); no rows for a code that is not listed. -/
def paramRows : Nat → List ParamDef
  | 0 => paramsDev
  | 1 => paramsZal
  | 2 => paramsTu
  | 3 => paramsTick
  | 4 => paramsLane
  | 5 => paramsPort
  | 6 => paramsPg
  | 7 => paramsPipe
  | 8 => paramsParse
  | 9 => paramsCls
  | 10 => paramsRb
  | 11 => paramsRcmp
  | 12 => paramsFwd
  | 13 => paramsFs
  | 14 => paramsHbmc
  | 15 => paramsDdrc
  | 16 => paramsBm
  | 17 => paramsEgr
  | 18 => paramsHq
  | 19 => paramsQp
  | 20 => paramsDx
  | 21 => paramsSc
  | 22 => paramsPmon
  | 23 => paramsTwin
  | 24 => paramsJnl
  | 25 => paramsCal
  | 26 => paramsMc
  | _ => []

/-- Does a row hold word `w` of instance `i`? -/
def ParamDef.holds (d : ParamDef) (i w : Nat) : Bool :=
  d.inst0 ≤ i && i ≤ d.inst1 && d.word ≤ w && (w - d.word) % d.stride == 0 && (w - d.word) / d.stride < d.count

/-- The class code of a parameter address (R9). -/
def addrClass (a : Nat) : Nat := a / 0x1000000
/-- The instance of a parameter address (R9). -/
def addrInst (a : Nat) : Nat := a / 0x4000 % 0x400
/-- The word index of a parameter address (R9). -/
def addrWord (a : Nat) : Nat := a % 0x4000
/-- The address of word `w` of instance `i` of class `c` (R9). -/
def paddr (c i w : Nat) : Nat := 0x1000000 * c + 0x4000 * i + w

/-- The row that defines an address, if the address names a parameter (R574, R575, R588). -/
def paramDef (a : Nat) : Option ParamDef :=
  (paramRows (addrClass a)).find? (fun d => d.holds (addrInst a) (addrWord a))

/-- The reset value of a parameter word; 0 for an address that names none. -/
def paramReset (a : Nat) : BitVec 32 :=
  match paramDef a with
  | some d => BitVec.ofNat 32 d.reset
  | none => 0

end Sys2Proof.Machine
end

