-- ==== Sys2Proof/Machine/Table.lean ====
section
/-! DEFINITION. Operations on sparse tables, on byte strings and on bit fields, which every family uses. -/

namespace Sys2Proof.Machine

/-- The entry at key `k`, if one is listed. -/
def tfind {α : Type} : Table α → Nat → Option α
  | [], _ => none
  | (k', v) :: m, k => if k = k' then some v else tfind m k

/-- The value at key `k`: the listed one, or the default `d k`. -/
def tgetD {α : Type} (d : Nat → α) (m : Table α) (k : Nat) : α := (tfind m k).getD (d k)

/-- List value `v` at key `k`, keeping the order of keys. -/
def tput {α : Type} : Table α → Nat → α → Table α
  | [], k, v => [(k, v)]
  | (k', w) :: m, k, v =>
    if k = k' then (k, v) :: m
    else if k < k' then (k, v) :: (k', w) :: m
    else (k', w) :: tput m k v

/-- Take key `k` out of the table. -/
def terase {α : Type} : Table α → Nat → Table α
  | [], _ => []
  | (k', w) :: m, k => if k = k' then terase m k else (k', w) :: terase m k

/-- Change the entry at `k` if one is listed. -/
def tmodify {α : Type} (m : Table α) (k : Nat) (f : α → α) : Table α :=
  match tfind m k with
  | some v => tput m k (f v)
  | none => m

/-- Keys strictly rising from above `lo`. -/
def tsortedFrom {α : Type} : Option Nat → Table α → Bool
  | _, [] => true
  | none, (k, _) :: m => tsortedFrom (some k) m
  | some lo, (k, _) :: m => decide (lo < k) && tsortedFrom (some k) m

/-- The keys of a table rise strictly. -/
def tsorted {α : Type} (m : Table α) : Bool := tsortedFrom none m

/-- The lowest number from `lo`, of `fuel` candidates, that is not a key of the table. -/
def tlowestFree {α : Type} (m : Table α) : Nat → Nat → Option Nat
  | _, 0 => none
  | lo, fuel + 1 => match tfind m lo with
    | none => some lo
    | some _ => tlowestFree m (lo + 1) fuel

/-- The `n` low bytes of `x`, least significant first (R5). -/
def le : Nat → Nat → List Byte
  | 0, _ => []
  | n + 1, x => BitVec.ofNat 8 x :: le n (x / 256)

/-- The `n` low bytes of `x`, most significant first: network order (R5). -/
def be (n x : Nat) : List Byte := (le n x).reverse

/-- The number that bytes spell, least significant first. -/
def leNat : List Byte → Nat
  | [] => 0
  | b :: bs => b.toNat + 256 * leNat bs

/-- The number that bytes spell, most significant first. -/
def beNat (bs : List Byte) : Nat := leNat bs.reverse

/-- Byte `i` of a string; 0 beyond its end. -/
def byteAt (bs : List Byte) (i : Nat) : Byte := bs.getD i 0

/-- The `n` bytes from offset `off`, read least significant first; bytes beyond the end read 0. -/
def rd (bs : List Byte) (off n : Nat) : Nat := leNat ((bs.drop off).take n)

/-- The `n` bytes from offset `off`, read in network order; bytes beyond the end read 0. -/
def rdBe (bs : List Byte) (off n : Nat) : Nat :=
  beNat (((bs.drop off).take n) ++ List.replicate (n - ((bs.drop off).take n).length) 0)

/-- Replace the bytes of `bs` from offset `off` by `v`. -/
def splice (bs : List Byte) (off : Nat) (v : List Byte) : List Byte :=
  bs.take off ++ v ++ bs.drop (off + v.length)

/-- `bs` cut or filled with zeros to `n` bytes. -/
def padTo (n : Nat) (bs : List Byte) : List Byte := bs.take n ++ List.replicate (n - bs.length) 0

/-- Are all bytes from `off` to `off + n` zero? -/
def zeros (bs : List Byte) (off n : Nat) : Bool := rd bs off n == 0

/-- Bits `hi` to `lo` of a number. -/
def bitsOf (x hi lo : Nat) : Nat := x / 2 ^ lo % 2 ^ (hi + 1 - lo)

/-- Bit `i` of a number. -/
def bitOf (x i : Nat) : Bool := x / 2 ^ i % 2 == 1

/-- 1 for true, 0 for false. -/
def b2n (b : Bool) : Nat := if b then 1 else 0

/-- A number read as signed two's complement of `w` bits. -/
def signed (w x : Nat) : Int :=
  if x % 2 ^ w < 2 ^ (w - 1) then (x % 2 ^ w : Nat) else (x % 2 ^ w : Nat) - (2 ^ w : Nat)

/-- The number of bits set among the low `n` bits. -/
def popcount : Nat → Nat → Nat
  | 0, _ => 0
  | n + 1, x => x % 2 + popcount n (x / 2)

/-- The signed difference of two tick counts (R8). -/
def tickDiff (a b : Tick) : Int := (a - b).toInt

/-- `a` lies at or after `b` (R8). -/
def tickGe (a b : Tick) : Bool := decide (0 ≤ tickDiff a b)

/-- Whole ticks from `b` to `a`; 0 when `a` lies before `b`. -/
def ticksSince (a b : Tick) : Nat := (tickDiff a b).toNat

/-- One step of a reflected CRC: the register shifts toward bit 0. -/
def crcBit {w : Nat} (poly r : BitVec w) (b : Bool) : BitVec w :=
  let x := (r.getLsbD 0) ^^ b
  let r' := r >>> 1
  if x then r' ^^^ poly else r'

/-- A byte into a reflected CRC, from its bit 0 upward. -/
def crcByte {w : Nat} (poly r : BitVec w) (b : Byte) : BitVec w :=
  (List.range 8).foldl (fun r i => crcBit poly r (b.getLsbD i)) r

/-- CRC-32C of R615 from a given initial register, without the final inversion. -/
def crc32cRaw (init : Word) (bs : List Byte) : Word := bs.foldl (crcByte 0x82F63B78) init

/-- CRC-32C of R615. -/
def crc32c (bs : List Byte) : Word := crc32cRaw 0xFFFFFFFF bs ^^^ 0xFFFFFFFF

/-- The reflected CRC-32 of IEEE 802.3, as the frame check sequence and the twin link use it. -/
def crc32 (bs : List Byte) : Word := bs.foldl (crcByte 0xEDB88320) 0xFFFFFFFF ^^^ 0xFFFFFFFF

/-- The parity of a number's low `n` bits. -/
def parity (n x : Nat) : Nat := popcount n x % 2

end Sys2Proof.Machine
end

