-- ==== Sys2Proof/Machine/Counters.lean ====
section
/-! DEFINITION. Settings and counters of the parameter space, and the drawing of free values. -/

namespace Sys2Proof.Machine

/-- A value that the manual leaves open, drawn afresh. -/
def freeBits (w : Nat) (s : State) : BitVec w := Config.freeValue w s.free

/-- The state after one free value has been drawn. -/
def drawn (s : State) : State := s.setFree (s.free + 1)

/-! ### Settings and counters -/

/-- The value in force of a writable parameter word. -/
def reg (s : State) (cls inst w : Nat) : Word := tgetD paramReset s.prm.regs (paddr cls inst w)

/-- A field of a writable parameter word. -/
def regField (s : State) (cls inst w hi lo : Nat) : Nat := bitsOf (reg s cls inst w).toNat hi lo

/-- Put a value into a writable parameter word. -/
def setReg (cls inst w : Nat) (v : Word) (s : State) : State :=
  s.setPrm { s.prm with regs := tput s.prm.regs (paddr cls inst w) v }

/-- Put a value into the word at an address. -/
def setRegAt (a : Nat) (v : Word) (s : State) : State :=
  s.setPrm { s.prm with regs := tput s.prm.regs a v }

/-- The value of a counter. -/
def counter (s : State) (a : Nat) : Nat := tgetD (fun _ => 0) s.prm.counts a

/-- Add to a counter of `bits` bits, which saturates (R105). -/
def bump (bits cls inst w n : Nat) (s : State) : State :=
  let a := paddr cls inst w
  s.setPrm { s.prm with counts := tput s.prm.counts a (min (counter s a + n) (2 ^ bits - 1)) }

/-- Add to counter `i` of the 48-bit counters of an instance (R105). -/
def bump48 (cls inst i n : Nat) (s : State) : State := bump 48 cls inst (0x100 + 2 * i) n s

/-- Add to a 32-bit counter word. -/
def bump32 (cls inst w n : Nat) (s : State) : State := bump 32 cls inst w n s

end Sys2Proof.Machine
end

