-- ==== Sys2Proof/Machine/HostTables.lean ====
section
/-! DEFINITION. The tables of the host interface: queue pairs, host regions, queues and mailbox slots, what their
arguments say, and the requests that the device issues over a queue pair (R431 to R439, R443, R446). -/

namespace Sys2Proof.Machine

/-- A queue pair. -/
def qpAt (s : State) (q : Nat) : QueuePair := tgetD (fun _ => {}) s.host.qp q
/-- Put a queue pair. -/
def setQp (q : Nat) (x : QueuePair) (s : State) : State := s.setHost { s.host with qp := tput s.host.qp q x }
/-- A queue. -/
def hqAt (s : State) (q : Nat) : Queue := tgetD (fun _ => {}) s.host.queue q
/-- Put a queue. -/
def setHq (q : Nat) (x : Queue) (s : State) : State := s.setHost { s.host with queue := tput s.host.queue q x }
/-- Change a queue. -/
def modHq (q : Nat) (f : Queue → Queue) (s : State) : State := setHq q (f (hqAt s q)) s
/-- A mailbox slot. -/
def slotAt (s : State) (k : Nat) : Slot := tgetD (fun _ => {}) s.host.slot k
/-- Put a mailbox slot. -/
def setSlot (k : Nat) (x : Slot) (s : State) : State := s.setHost { s.host with slot := tput s.host.slot k x }
/-- The 32 bytes of a host region, if there is one (R437). -/
def regionAt (s : State) (r : Nat) : Option (List Byte) := tfind s.host.region r
/-- The queue pair of a region. -/
def regionQp (b : List Byte) : Nat := rd b 2 2
/-- The length of a region. -/
def regionLen (b : List Byte) : Nat := rd b 0x10 8
/-- The device may read the region. -/
def regionRead (b : List Byte) : Bool := bitOf (rd b 0x18 1) 0
/-- The device may write the region. -/
def regionWrite (b : List Byte) : Bool := bitOf (rd b 0x18 1) 1

/-- The host port of a queue pair: 0 HP0, 1 HP1. -/
def QueuePair.port (x : QueuePair) : Nat := rd x.arg 2 1 % 2
/-- Its response region (R434). -/
def QueuePair.respRegion (x : QueuePair) : Nat := rd x.arg 0x2E 2
/-- Its timeout exponent: 0 takes the default (R432, R438). -/
def qpTimeout (s : State) (x : QueuePair) : Nat :=
  let t := rd x.arg 0x2A 1 % 32
  if t = 0 then regField s 19 256 0x10 4 0 else t
/-- Its retry count (R438). -/
def qpRetry (s : State) (x : QueuePair) : Nat :=
  let r := rd x.arg 0x2B 1
  if bitOf r 7 then regField s 19 256 0x10 7 5 else r % 8

/-- The kind of a queue (R443). -/
def Queue.kind (x : Queue) : Nat := rd x.arg 2 1
/-- Entries of its ring. -/
def Queue.size (x : Queue) : Nat := 2 ^ rd x.arg 3 1
/-- Region of its ring. -/
def Queue.ring_ (x : Queue) : Nat := rd x.arg 4 2
/-- Region of its head slot. -/
def Queue.headRegion (x : Queue) : Nat := rd x.arg 6 2
/-- Offset of its ring. -/
def Queue.ringOffset (x : Queue) : Nat := rd x.arg 8 8
/-- Offset of its head slot. -/
def Queue.headOffset (x : Queue) : Nat := rd x.arg 0x10 8
/-- Its completion queue. -/
def Queue.cq (x : Queue) : Nat := rd x.arg 0x18 2
/-- What it is bound to. -/
def Queue.bound (x : Queue) : Nat := rd x.arg 0x1A 2
/-- Is it a submission queue? -/
def Queue.submits (x : Queue) : Bool := decide (x.kind < 8)
/-- Bytes of one entry (R443). -/
def Queue.entrySize (x : Queue) : Nat := if x.submits then 64 else 32
/-- Offset in its region of the ring slot of a position (R447). -/
def Queue.at_ (x : Queue) (p : Word) : Nat := x.ringOffset + x.entrySize * (p.toNat % x.size)

/-- The host port that serves a queue, by the queue pair of its ring's region: 0 West, 1 East. -/
def hqDie (s : State) (q : Nat) : Nat :=
  match regionAt s (hqAt s q).ring_ with
  | some b => (qpAt s (regionQp b)).port
  | none => 0

/-- May a packet copy be written to queue `q` (R456)? -/
def receives (s : State) (q : Nat) : Bool := (hqAt s q).st == 1 && (hqAt s q).kind == 2

/-! ### Frames of the host-transport engine -/

/-- Packets that carry `n` bytes at the path MTU of R431. -/
def packetsOf (n : Nat) : Nat := max 1 ((n + 4095) / 4096)

/-- The lengths of the frames that carry `n` bytes, FCS included, by the RoCEv2 annex (PRESUMED, log 34): Ethernet, tag, IP, UDP and
BTH headers, the extension headers of the first and of the last packet, the payload in whole words, ICRC and FCS. -/
def roceLengths (tagged v6 : Bool) (first last n : Nat) : List Nat :=
  let k := packetsOf n
  (List.range k).map (fun i =>
    let ext := (if i = 0 then first else 0) + (if i + 1 = k then last else 0)
    max 64 (14 + (if tagged then 4 else 0) + (if v6 then 40 else 20) + 8 + 12 + ext + (min 4096 (n - 4096 * i) + 3) / 4 * 4 + 8))

/-- The host port that a frame of the engine leaves, and the lengths of the Ethernet frames that carry it (R105, R427, R431). -/
def engineFrames (s : State) (f : HostFrame) : Nat × List Nat :=
  let roce := fun (q first last n : Nat) =>
    let x := qpAt s q
    (128 + x.port, roceLengths (bitOf (reg s 19 256 (5 + 8 * x.port)).toNat 12) (bitOf (rd x.arg 3 1) 0) first last n)
  match f with
  | .ack q _ | .seqNak q _ | .accessNak q _ | .rnrNak q _ => roce q 4 0 0
  | .readData q _ b => if b.length ≤ 4096 then roce q 4 0 b.length else roce q 4 4 b.length
  | .request q r =>
    if r.kind = 2 then roce q 16 0 0 else roce q 16 (if r.kind = 1 then 4 else 0) r.bytes.length
  | .raw n b => (n, [b.length + 4])

/-- A frame leaves the host-transport engine through the egress of its host port, where it is counted (R105, R427). -/
def hostSend (f : HostFrame) (s : State) : State :=
  let (n, ls) := engineFrames s f
  bump48 5 n 8 ls.length (bump48 5 n 9 ls.sum (s.setHost { s.host with sent := s.host.sent ++ [f] }))

/-! ### Requests over a queue pair -/

/-- Issue a request on a queue pair in RTS (R431, R432): it takes the next PSNs, and its frames leave, or wait for the
boundary from which the queue pair sends (R439). -/
def issueReq (q : Nat) (r : OutReq) (s : State) : State :=
  let x := qpAt s q
  let n := packetsOf (if r.kind = 2 then r.length else r.bytes.length)
  let r := { r with psn := x.sqPsn, packets := n }
  let s1 := setQp q { x with
    sqPsn := x.sqPsn + BitVec.ofNat 24 n, out := x.out ++ [r]
    since := if x.out = [] then s.tick.count else x.since } s
  if tickGe s.tick.count x.start then bump48 19 q 0 n (hostSend (.request q r) s1) else s1

/-- Can a transfer of `len` bytes at an offset of a host region start: the region present, allowing the access and long
enough, and its queue pair in RTS (R437, R439)? -/
def regionUsable (s : State) (reg off len : Nat) (wr : Bool) : Option Nat :=
  match regionAt s reg with
  | none => none
  | some b =>
    if (if wr then regionWrite b else regionRead b) ∧ off + len ≤ regionLen b ∧ (qpAt s (regionQp b)).st = 1 then
      some (regionQp b)
    else none

/-- Write bytes into a host region; false, and nothing is sent, where the transfer cannot start. -/
def hostWrite (reg off : Nat) (bytes : List Byte) (imm : Option Word) (p : Purpose) (s : State) : State × Bool :=
  match regionUsable s reg off bytes.length true with
  | none => (s, false)
  | some q =>
    (issueReq q { kind := if imm.isSome then 1 else 0, region := reg, offset := off, bytes := bytes, imm := imm.getD 0,
                  purpose := p } s, true)

/-- Read from a host region; false where the transfer cannot start. -/
def hostRead (reg off len : Nat) (p : Purpose) (s : State) : State × Bool :=
  match regionUsable s reg off len false with
  | none => (s, false)
  | some q => (issueReq q { kind := 2, region := reg, offset := off, length := len, purpose := p } s, true)

/-- Is a request of this purpose outstanding? -/
def outstanding (s : State) (p : Purpose) : Bool :=
  s.host.qp.any (fun e => e.2.out.any (fun r => decide (r.purpose = p)))

/-! ### Jobs -/

/-- Change the job of a queue at a position. -/
def modJob (q : Nat) (pos : Word) (f : Job → Job) (s : State) : State :=
  modHq q (fun x => { x with jobs := x.jobs.map (fun j => if j.pos = pos then f j else j) }) s

/-- The first entry of the job of a queue at a position. -/
def jobFirst (s : State) (q : Nat) (pos : Word) : Option (List Byte) :=
  match (hqAt s q).jobs.find? (fun j => j.pos == pos) with
  | some j => j.entries.head?
  | none => none

end Sys2Proof.Machine
end

