-- ==== Sys2Proof/Machine/Wire.lean ====
section
/-! DEFINITION. Messages and frames as bytes, and how a response travels back over its route (R428, R434, R452, R474,
R475). -/

namespace Sys2Proof.Machine

/-- A Toune message: the header of R474 with its CRC, and the payload (R475). -/
def message (protocol flags op ver : Nat) (session sequence handle : Word) (status : Half) (payload : List Byte) :
    List Byte :=
  let head := le 2 0x4E54 ++ le 1 protocol ++ le 1 flags ++ le 2 op ++ le 2 ver ++ le 4 session.toNat ++
    le 4 sequence.toNat ++ le 4 handle.toNat ++ le 2 status.toNat ++ le 2 0 ++ le 4 payload.length
  head ++ le 4 (crc32c (head ++ le 4 0 ++ payload)).toNat ++ payload

/-- A response as a message: flags bit [1]. -/
def Response.message (p : Response) : List Byte :=
  Sys2Proof.Machine.message p.protocol.toNat 2 p.opcode p.cmdVersion.toNat p.session p.sequence p.handle p.status p.payload

/-- The MAC address of host port `h` (R93). -/
def hostMac (s : State) (h : Nat) : Nat := (reg s 5 (128 + h) 8).toNat + 2 ^ 32 * regField s 5 (128 + h) 9 15 0

/-- A frame of the host-transport engine of host port `h`: tagged as HPh_VLAN says, and padded to the Ethernet minimum
(R427, R428, R440). -/
def engineFrame (s : State) (h : Nat) (dst : Nat) (etherType : Nat) (body : List Byte) : List Byte :=
  let v := (reg s 19 256 (5 + 8 * h)).toNat
  let tag := if bitOf v 12 then be 2 0x8100 ++ be 2 (bitsOf v 15 13 * 8192 + bitsOf v 11 0) else []
  let f := be 6 dst ++ be 6 (hostMac s h) ++ tag ++ be 2 etherType ++ body
  f ++ List.replicate (60 - f.length) 0

/-- The body of a bootstrap frame (R428). -/
def bootBody (kind : Nat) (m : List Byte) : List Byte := le 1 1 ++ le 1 kind ++ le 2 m.length ++ le 4 0 ++ m

/-- Send a bootstrap frame: from a host port, or as a generated frame of its pipeline that leaves the front port which received
the request and whose source address is open (R14, R427, R428). -/
def sendBoot (n : Nat) (dst : List Byte) (kind : Nat) (m : List Byte) (s : State) : State :=
  if n ≥ 128 then hostSend (.raw n (engineFrame s (n - 128) (beNat (dst.take 6)) 0x88B5 (bootBody kind m))) s
  else
    let f := be 6 (beNat (dst.take 6)) ++ be 6 (freeBits 48 s).toNat ++ be 2 0x88B5 ++ bootBody kind m
    let g : GenFrame := { frame := f ++ List.replicate (60 - f.length) 0, reply := some n }
    let p := n / 32
    drawn (s.setPath { s.path with gens := tput s.path.gens p (tgetD (fun _ => []) s.path.gens p ++ [g]) })

/-- A slot is free again; for a mailbox request the response stands in its response half, and goes to the response region
of its queue pair where it has one (R434). -/
def endSlot (k : Nat) (p : Response) (s : State) : State :=
  let x := slotAt s k
  if p.route ≠ .mailbox then setSlot k { x with busy := false } s
  else
    let m := p.message
    let s1 := setSlot k { x with busy := false, response := m ++ (padTo 4096 x.response).drop m.length } s
    let y := qpAt s x.qp
    if y.respRegion = 0xFFFF then s1
    else (hostWrite y.respRegion (4096 * k) m
      (some (BitVec.ofNat 32 (k + 65536 * (p.sequence.toNat % 65536)))) (.response k) s1).1

/-- The response of a job goes to its response buffer, and the job ends (R452, R457). -/
def endMessageJob (p : Response) (s : State) : State :=
  let q := p.queue.toNat
  match jobFirst s q p.pos with
  | none => s
  | some e =>
    let m := p.message
    let (s1, ok) := hostWrite (rd e 8 2) (rd e 0x10 8) m none (.data q p.pos) s
    modJob q p.pos (fun j => { j with
      status := p.status, done := true
      detail := le 4 p.handle.toNat ++ le 4 (if ok then m.length else 0) ++ le 8 0 }) s1

/-- A response travels back over the route of its request (R476). -/
def deliver (p : Response) (s : State) : State :=
  match p.route with
  | .queue => endMessageJob p s
  | .mailbox => match p.slot with
    | some k => endSlot k p s
    | none => s
  | .bootstrap => match p.slot with
    | some k => sendBoot p.port p.source 1 p.message (endSlot k p s)
    | none => sendBoot p.port p.source 1 p.message s

end Sys2Proof.Machine
end

