-- ==== Sys2Proof/Machine/Ops.lean ====
section
/-! DEFINITION. The operations that every family shares: units and where they lie, settings and counters, events,
faults, deferred changes, and the acceptance, answering and auditing of Toune requests. -/

namespace Sys2Proof.Machine

/-! ### Time -/

/-- The FRC at core cycle `c` of the present tick (R30, R31). -/
def frcAt (s : State) (c : Nat) : Dword :=
  s.tick.startFrc + BitVec.ofNat 64 (65536000 * c / 1350)

/-- The boundary at which a change accepted in cycle `c` takes effect (R35): the next one when at least 64
core cycles remain, the one after it otherwise. -/
def dueTick (s : State) (c : Nat) : Tick :=
  if c + 64 ≤ 1350 then s.tick.count + 1 else s.tick.count + 2

/-! ### Units -/

/-- The die of a front or host port (R12): 0 West, 1 East. -/
def dieOfPort (n : Nat) : Nat := if n < 64 then 0 else if n < 128 then 1 else n - 128

/-- The pipeline that a port's frames enter (R13, R14). -/
def pipeOfPort (n : Nat) : Nat := if n < 128 then n / 32 else if n = 128 then 0 else 2

/-- The port group of a front port (R13). -/
def pgOfPort (n : Nat) : Nat := n / 8

/-- The key of a unit in the table of units. -/
def unitKey (u : UnitId) : Nat := 1024 * u.cls + u.inst

/-- The service record of a unit (R71). -/
def unitRec (s : State) (u : UnitId) : UnitRec := tgetD (fun _ => {}) s.sys.units (unitKey u)

/-- The service state of a unit (R71). -/
def unitState (s : State) (u : UnitId) : UnitState := (unitRec s u).st

/-- Is the unit of this class and instance IN_SERVICE? -/
def inService (s : State) (cls inst : Nat) : Bool := unitState s ⟨cls, inst⟩ == .inService

/-- Is the unit absent (R577)? -/
def isAbsent (s : State) (cls inst : Nat) : Bool := s.sys.absent.contains (1024 * cls + inst)

/-- The units that are OUT, in REJOIN or READY. -/
def unitsOut (s : State) : List (Nat × UnitRec) := s.sys.units.filter (fun e => e.2.st != .inService)

/-- Set the service record of a unit; IN_SERVICE units are not listed. -/
def setUnit (u : UnitId) (r : UnitRec) (s : State) : State :=
  s.setSys { s.sys with
    units := if r.st = .inService then terase s.sys.units (unitKey u) else tput s.sys.units (unitKey u) r }

/-- The code of a unit state as STATUS words report it. -/
def UnitState.code : UnitState → Nat
  | .inService => 0 | .out => 1 | .rejoin => 2 | .ready => 3

/-- The encoding of the modes (R56). -/
def Mode.code : Mode → Nat
  | .reset => 0 | .kindling => 1 | .configure => 2 | .service => 3
  | .degraded => 4 | .standby => 5 | .safe => 6 | .test => 7

/-- The mode that a code of R56 names. -/
def Mode.ofCode : Nat → Option Mode
  | 0 => some .reset | 1 => some .kindling | 2 => some .configure | 3 => some .service
  | 4 => some .degraded | 5 => some .standby | 6 => some .safe | 7 => some .test | _ => none

/-- Does a fault of this class lead to SAFE rather than take the unit out (R52, R71)?  The classes that never leave
service individually; `safety` says whether an HBMC is of safety class. -/
def neverLeaves (cls : Nat) (safety : Bool) : Bool :=
  cls == 1 || cls == 2 || cls == 3 || cls == 13 || cls == 16 || cls == 17 || cls == 23 || (cls == 14 && safety)

/-! ### Events -/

/-- Raise an event (R493). -/
def raise (code : Nat) (detail : List Byte) (s : State) : State :=
  s.setToune { s.toune with
    events := s.toune.events ++
      [{ code := code, detail := detail, tick := s.tick.count, frc := s.tick.startFrc }] }

/-- The present period of 1,024 ticks. -/
def period (s : State) : Nat := s.tick.count.toNat / 1024

/-- What is kept under a key of the limited events. -/
def markAt (s : State) (key : Nat) : Mark := tgetD (fun _ => {}) s.sys.marks key

/-- The part of a history that falls in the last 1,024 ticks. -/
def recent (s : State) (l : List (Tick × Nat)) : List (Tick × Nat) :=
  l.filter (fun e => decide ((s.tick.count - e.1).toNat < 1024))

/-- What a history counts over the last 1,024 ticks. -/
def recentSum (s : State) (l : List (Tick × Nat)) : Nat := ((recent s l).map Prod.snd).sum

/-- A history with `n` more in the present tick, and nothing older than 1,024 ticks. -/
def addRecent (s : State) (n : Nat) (l : List (Tick × Nat)) : List (Tick × Nat) :=
  match (recent s l).getLast? with
  | some (t, k) => if t = s.tick.count then (recent s l).dropLast ++ [(t, k + n)] else recent s l ++ [(s.tick.count, n)]
  | none => [(s.tick.count, n)]

/-- Occurrences of a limited event in the last 1,024 ticks. -/
def occurrences (s : State) (key : Nat) : Nat := recentSum s (markAt s key).seen

/-- Has the event of a key been raised in the present period? -/
def raisedInPeriod (s : State) (key : Nat) : Bool := (markAt s key).raised == some (period s)

/-- Count an occurrence of a limited event. -/
def countMark (key : Nat) (s : State) : State :=
  let m := markAt s key
  s.setSys { s.sys with marks := tput s.sys.marks key { m with seen := addRecent s 1 m.seen } }

/-- Raise an event unless it has been raised for its key in the present period of 1,024 ticks; the detail may name the
occurrences of the last 1,024 ticks. -/
def raiseOnce (code key : Nat) (detail : Nat → List Byte) (s : State) : State :=
  let k := 65536 * code + key
  if raisedInPeriod s k then s
  else
    raise code (detail (occurrences s k))
      (s.setSys { s.sys with marks := tput s.sys.marks k { markAt s k with raised := some (period s) } })

/-- Count an occurrence of an event that is raised at most once for its key in each period of 1,024 ticks, and raise it where
the period still allows it. -/
def raiseLimited (code key : Nat) (detail : Nat → List Byte) (s : State) : State :=
  raiseOnce code key detail (countMark (65536 * code + key) s)

/-! ### Responses -/

/-- What a command answers: its status, the handle of a long operation, its payload; whether a query must be
audited; whether the response waits for a boundary; the handle an argument names; and for SESSION_OPEN the
new identity. -/
structure Reply where
  status : Half := 0
  handle : Word := 0
  payload : List Byte := []
  audited : Bool := false
  waits : Bool := false
  argHandle : Word := 0
  newSession : Option Word := none
  deriving DecidableEq, Repr

/-- A refusal with an empty payload. -/
def Reply.no (st : Half) : Reply := { status := st }

/-- OK with a payload. -/
def Reply.yes (p : List Byte) : Reply := { payload := p }

/-- The response to a request (R475). -/
def respOf (op : Nat) (r : Req) (st : Half) (payload : List Byte) : Response :=
  { route := r.route, hp1 := r.hp1, qp := r.qp, queue := r.queue, protocol := r.protocol, opcode := op,
    cmdVersion := r.cmdVersion, session := r.session, sequence := r.sequence, status := st, payload := payload,
    slot := r.slot, pos := r.pos, port := r.port, source := r.source }


/-- Enter a deferred change, behind those accepted before it (R34, R35). -/
def defer (d : Deferred) (s : State) : State :=
  s.setSys { s.sys with deferred := s.sys.deferred ++ [d] }

/-! ### Sessions and handles -/

/-- The session at an index. -/
def sessionAt (s : State) (i : Nat) : Session := tgetD (fun _ => {}) s.toune.sessions i

/-- Put a session. -/
def setSession (i : Nat) (x : Session) (s : State) : State :=
  s.setToune { s.toune with sessions := tput s.toune.sessions i x }

/-- The index of a session identity (R482). -/
def sessionIdx (id : Word) : Nat := id.toNat % 32

/-- Does an identity name an open session (R482)? -/
def sessionOpen? (s : State) (id : Word) : Bool :=
  let x := sessionAt s (sessionIdx id)
  id.toNat / 32 % 8 == 0 && x.isOpen && x.gen.toNat == id.toNat / 256

/-- The identity of the session at an index. -/
def sessionId (s : State) (i : Nat) : Word := BitVec.ofNat 32 ((sessionAt s i).gen.toNat * 256 + i)

/-- Send a response over its route; that of the latest bootstrap request of its session is kept (R429). -/
def send (p : Response) (s : State) : State :=
  let s1 := deliver p (s.setToune { s.toune with responses := s.toune.responses ++ [p] })
  let i := sessionIdx p.session
  if p.route = .bootstrap ∧ sessionOpen? s1 p.session ∧ (sessionAt s1 i).lastSeq = some p.sequence then
    setSession i { sessionAt s1 i with lastResp := some p } s1
  else s1

/-- Send a response that waited for a boundary, with the boundary's tick count (R480). -/
def sendAt (p : Option Response) (t : Tick) (s : State) : State :=
  match p with
  | some p => send { p with tick := some t, payload := p.payload ++ le 8 t.toNat } s
  | none => s

/-- The indices of the open sessions. -/
def openSessions (s : State) : List Nat := (List.range 32).filter (fun i => (sessionAt s i).isOpen)

/-- The handle record at an index. -/
def handleAt (s : State) (i : Nat) : Handle := tgetD (fun _ => {}) s.toune.handles i

/-- Put a handle record. -/
def setHandle (i : Nat) (h : Handle) (s : State) : State :=
  s.setToune { s.toune with handles := tput s.toune.handles i h }

/-- The index of a handle (R10, R488). -/
def handleIdx (h : Word) : Nat := h.toNat % 0x1000000

/-- The lowest free handle index (R488). -/
def freeHandle (s : State) : Option Nat :=
  (List.range 4096).find? (fun i => (handleAt s i).st == .free)

/-- The generation after a generation, skipping 0 (R488). -/
def nextGen (g : Byte) : Byte := if g + 1 = 0 then 1 else g + 1

/-- Does a handle name a held index in its present generation (R11)? -/
def handleValid (s : State) (h : Word) : Bool :=
  let x := handleAt s (handleIdx h)
  handleIdx h < 4096 && x.st != .free && x.gen.toNat == h.toNat / 0x1000000

/-- Allocate a handle for a long operation (R488, R489). -/
def allocHandle (op : Nat) (r : Req) (started : Bool) (s : State) : Option (Word × State) :=
  match freeHandle s with
  | none => none
  | some i =>
    let g := nextGen (handleAt s i).gen
    some (BitVec.ofNat 32 (0x1000000 * g.toNat + i),
      setHandle i { gen := g, st := .running, opcode := op, session := r.session, startTick := s.tick.count,
                    started := started } s)

/-- Accept a long operation: allocate its handle, run `k` with it, and answer ACCEPTED; E_NOSPACE without a free
handle (R488). -/
def accepted (op : Nat) (r : Req) (started : Bool) (k : Word → State → State) (s : State) : State × Reply :=
  match allocHandle op r started s with
  | none => (s, .no St.eNospace)
  | some (h, s') => (k h s', { status := St.accepted, handle := h })

/-- Mark a handle's operation as started (R492). -/
def startHandle (h : Word) (s : State) : State :=
  setHandle (handleIdx h) { handleAt s (handleIdx h) with started := true } s

/-- Complete a long operation: the handle becomes DONE and its completion event is raised (R489, R490). -/
def complete (ev : Nat) (h : Word) (st : Half) (fields : List Byte) (s : State) : State :=
  let x := handleAt s (handleIdx h)
  let s1 := setHandle (handleIdx h)
    { x with st := .done, status := st, result := fields.take 368, endTick := s.tick.count, cancelling := false } s
  s1.setToune { s1.toune with
    events := s1.toune.events ++
      [{ code := ev, detail := le 4 h.toNat ++ le 2 x.opcode ++ le 2 st.toNat ++ fields, tick := s.tick.count,
         frc := s.tick.startFrc, completion := true, handle := h, status := st, session := x.session }] }

/-- A long operation without an event of its own has ended: OP_DONE is still to be raised (R490). -/
def endOp (h : Word) (st : Half) (fields : List Byte) (s : State) : State :=
  let x := handleAt s (handleIdx h)
  setHandle (handleIdx h) { x with ended := some (st, fields) } s

/-- Has a cancel of the operation been accepted (R492)? -/
def cancelled (s : State) (h : Word) : Bool :=
  (handleAt s (handleIdx h)).cancelling && (handleAt s (handleIdx h)).st == .running

/-! ### Acceptance -/

/-- The opcodes that only query (R504). -/
def queryOps : List Nat :=
  [0x0002, 0x0003, 0x0004, 0x0010, 0x0018, 0x0100, 0x0102, 0x0204, 0x0223, 0x022A, 0x0313, 0x0322, 0x0400,
   0x0412, 0x0442, 0x0443, 0x0500, 0x0505, 0x0506, 0x0600, 0x0700, 0x0701, 0x0800, 0x0811, 0x0910, 0x0A00]

/-- The opcodes that change state (R504). -/
def stateOps : List Nat :=
  [0x0000, 0x0001, 0x0008, 0x0011, 0x0012, 0x0020, 0x0101, 0x0200, 0x0201, 0x0202, 0x0203, 0x0220, 0x0221,
   0x0222, 0x0228, 0x0229, 0x0301, 0x0302, 0x0303, 0x0304, 0x0305, 0x0310, 0x0311, 0x0312, 0x0314, 0x0320,
   0x0321, 0x0323, 0x0324, 0x0401, 0x0402, 0x0403, 0x0404, 0x0405, 0x0406, 0x0407, 0x0410, 0x0411, 0x0440,
   0x0441, 0x0501, 0x0502, 0x0503, 0x0504, 0x0507, 0x0601, 0x0602, 0x0603, 0x0702, 0x0801, 0x0802, 0x0810,
   0x0A01, 0x0A02, 0x0A03, 0x0A04, 0x0A05, 0x0A06]

/-- Is the opcode a pure query? -/
def isQuery (op : Nat) : Bool := queryOps.contains op

/-- The lowest protocol version that has an opcode (R484). -/
def opVersion (op : Nat) : Nat :=
  if op = 0x0008 ∨ op = 0x0012 ∨ op = 0x0018 then 2 else if op = 0x0102 then 3 else 1

/-- Does the opcode exist in a session of this protocol version, in this boot state (R484, R486)? -/
def opExists (s : State) (version : Nat) (op : Nat) : Bool :=
  (queryOps.contains op || stateOps.contains op) && opVersion op ≤ version &&
  (!s.sys.recovery || op / 256 == 0 || op == Op.fwStage || op == Op.fwQuery)

/-- Is a command legal in a mode by its group (R69, R70)? -/
def legalIn (op : Nat) (m : Mode) : Bool :=
  let g := op / 256
  let q := isQuery op
  match m with
  | .reset => false
  | .kindling =>
    if g = 2 ∨ g = 3 ∨ g = 4 ∨ g = 6 then q else true
  | .configure => true
  | .test => if g = 6 then q else true
  | .service | .degraded => if g = 8 then q || op == Op.fwStage else true
  | .standby => if g = 4 then q else if g = 8 then q || op == Op.fwStage else true
  | .safe => if g = 4 ∨ g = 6 then q else if g = 8 then q || op == Op.fwStage else true

/-- The version of a session, as the header must carry it; SESSION_OPEN is sent with 1 (R478 check 4). -/
def expectVersion (s : State) (op : Nat) (r : Req) : Byte :=
  if op = Op.sessionOpen ∧ r.session = 0 then 1 else (sessionAt s (sessionIdx r.session)).version

/-- Checks 3 to 8 of R478 apart from the bootstrap sequence: the status and payload of the first that fails, and
whether it is one of checks 1 to 5. -/
def refusal (op : Nat) (r : Req) (s : State) : Option (Half × List Byte × Bool) :=
  if !(sessionOpen? s r.session || (r.session == 0 && op == Op.sessionOpen)) then some (St.eSession, [], true)
  else if r.protocol ≠ expectVersion s op r then some (St.eVersion, [1, 3, 1, 1], true)
  else if !opExists s (if op = Op.sessionOpen then 1 else r.protocol.toNat) op then some (St.eNotsup, [], false)
  else if r.cmdVersion ≠ 1 then some (St.eVersion, [1, 1], false)
  else if !legalIn op s.sys.mode then some (St.eMode, [], false)
  else if r.handle ≠ 0 ∨ r.status ≠ 0 ∨ r.reserved ≠ 0 then some (St.eArg, [], false)
  else none

/-- One step of CRC-64 with the polynomial of R208, most significant bit first. -/
def crc64Bit (r : Dword) (b : Bool) : Dword :=
  let x := r.getMsbD 0 ^^ b
  let r' := r <<< 1
  if x then r' ^^^ 0x42F0E1EBA9EA3693 else r'

/-- CRC-64 of R208 over bytes, from an initial register. -/
def crc64 (init : Dword) (bs : List Byte) : Dword :=
  bs.foldl (fun r b => (List.range 8).foldl (fun r i => crc64Bit r (b.getMsbD i)) r) init

/-- Write an audit record (R498, R499); the ring keeps the last 65,536 (R500). -/
def audit (op : Nat) (r : Req) (rep : Reply) (untrusted : Bool) (s : State) : State :=
  let rec' : AuditRec :=
    { index := s.toune.auditNext, frc := frcAt s r.cycle, opcode := op, status := rep.status,
      session := if op = Op.sessionOpen then rep.newSession.getD 0 else r.session,
      sequence := r.sequence, handle := if rep.handle = 0 then rep.argHandle else rep.handle,
      route := r.route, untrusted := untrusted, hp1 := r.hp1, qp := r.qp, queue := r.queue,
      cmdVersion := r.cmdVersion, source := r.source, digest := crc64 0 r.payload }
  let ring := s.toune.audit ++ [rec']
  s.setToune { s.toune with auditNext := s.toune.auditNext + 1, audit := ring.drop (ring.length - 65536) }

/-- Answer a request: audit it where R498 says, send its response unless it waits, and keep the response of a
bootstrap request (R429). -/
def finish (op : Nat) (r : Req) (rep : Reply) (untrusted : Bool) (s : State) : State :=
  let p : Response := { respOf op r rep.status rep.payload with
    handle := rep.handle
    protocol := match rep.newSession with | some id => (sessionAt s (sessionIdx id)).version | none => r.protocol }
  let s1 := if untrusted || !isQuery op || rep.audited then audit op r rep untrusted s else s
  let s2 := if rep.waits then s1 else send p s1
  let id := rep.newSession.getD r.session
  if r.route = .bootstrap ∧ !untrusted ∧ sessionOpen? s2 id then
    let i := sessionIdx id
    setSession i { sessionAt s2 i with lastSeq := some r.sequence, lastResp := if rep.waits then none else some p,
                                       mac := BitVec.ofNat 48 (beNat (r.source.take 6)),
                                       hp := r.port } s2
  else s2

/-- Note that a request names a session, for its keepalive (R485). -/
def touch (r : Req) (s : State) : State :=
  if sessionOpen? s r.session then
    let i := sessionIdx r.session
    setSession i { sessionAt s i with lastReq := s.tick.count } s
  else s

/-- What the bootstrap sequence says of a request (R429). -/
inductive BootSeq where
  /-- To be executed. -/
  | run
  /-- Already executed: its response is sent again. -/
  | again (p : Response)
  /-- In execution: its response is still to come. -/
  | waits
  /-- Out of order. -/
  | bad
  deriving DecidableEq, Repr

/-- Judge the sequence of a bootstrap request (R429).  The other routes copy the sequence without a check. -/
def bootSeq (op : Nat) (r : Req) (s : State) : BootSeq :=
  if r.route ≠ .bootstrap then .run
  else if op = Op.sessionOpen then
    match s.toune.bootOpens.find? (fun e => e.1 == BitVec.ofNat 48 (beNat (r.source.take 6)) && e.2.1 == r.sequence) with
    | some (_, _, id) =>
      match (sessionAt s (sessionIdx id)).lastResp with
      | some p => if sessionOpen? s id && (sessionAt s (sessionIdx id)).lastSeq == some r.sequence then .again p else .run
      | none => .run
    | none => .run
  else
    match (sessionAt s (sessionIdx r.session)).lastSeq, (sessionAt s (sessionIdx r.session)).lastResp with
    | some q, some p => if r.sequence = q + 1 then .run else if r.sequence = q then .again p else .bad
    | some q, none => if r.sequence = q + 1 then .run else if r.sequence = q then .waits else .bad
    | none, _ => .run

/-- Run a Toune request whose transport checks have passed: the checks of R478 in their order, then the command's
own body, then its answer and its audit record.  In RESET nothing answers (R69), and while the management complex is
out of service it accepts nothing (R72).  Requests are accepted one at a time, in the order of the queue (R479). -/
def runToune (op : Nat) (body : Req → State → State × Reply) (r : Req) (s : State) : State :=
  if s.sys.mode = .reset ∨ !inService s 26 0 then s
  else
    let s := touch r s
    let early := !(sessionOpen? s r.session || (r.session == 0 && op == Op.sessionOpen)) ||
                 r.protocol != expectVersion s op r
    match (if early then BootSeq.run else bootSeq op r s) with
    | .again p => bump48 19 256 6 1 (send { p with slot := r.slot, port := r.port, source := r.source } s)
    | .waits => match r.slot with
      | some k => setSlot k { slotAt s k with busy := false } s
      | none => s
    | .bad => finish op r (.no St.eSession) true s
    | .run =>
      match refusal op r s with
      | some (st, pl, untrusted) => finish op r { status := st, payload := pl } untrusted s
      | none =>
        let (s', rep) := body r s
        finish op r rep false s'

/-! ### Faults -/

/-- Does a cause lead to SAFE, and with scope ALL (R559)? -/
def causeSafe (c : Nat) : Option Bool :=
  if 1 ≤ c ∧ c ≤ 9 then some true
  else if (10 ≤ c ∧ c ≤ 15) ∨ c = 0x17 then some false
  else none

/-- Is a cause latched until reset (R559)? -/
def causeLatched (c cls : Nat) : Bool :=
  c == 1 || c == 2 || c == 3 || c == 8 || c == 9 || (c == 7 && cls == 1)

/-- A log entry as bytes (R571). -/
def FaultEntry.bytes (e : FaultEntry) : List Byte :=
  le 6 e.tick.toNat ++ le 1 e.cause ++ le 1 (b2n e.enteredSafe + 2 * b2n e.latched + 4 * b2n e.selftest) ++ le 1 e.cls ++
  le 1 0 ++ le 2 e.inst ++ le 4 e.detail

/-- Does the recording of a cause request SAFE in this state?  A fault detected in SAFE changes the mode in no
way (R558). -/
def leadsToSafe (c : Nat) (s : State) : Bool := (causeSafe c).isSome && s.sys.mode != .safe

/-- Record a fault of the unit (class, instance) with its detail (R558, R559, R563, R571).  In RESET no cause is
recorded (R593). -/
def recordFault (c cls inst detail : Nat) (s : State) : State :=
  if s.sys.mode = .reset then s
  else
    let toSafe := leadsToSafe c s
    let now := s.zal.thisTick ++ [(c, cls, inst)]
    let least := now.foldl (fun m e => if e.1 < m.1 then e else m) (c, cls, inst)
    let e : FaultEntry :=
      { tick := s.tick.count, cause := c, enteredSafe := toSafe, latched := causeLatched c cls, selftest := false,
        cls := cls, inst := inst, detail := detail }
    let log := s.zal.log ++ [e]
    let z : Zal :=
      { s.zal with
        status := s.zal.status ||| (1#24 <<< c)
        cond := if causeLatched c cls then s.zal.cond ||| (1#24 <<< c) else s.zal.cond
        thisTick := now
        toSafe := if toSafe then s.zal.toSafe ++ [c] else s.zal.toSafe
        lastCause := least.1, lastCls := least.2.1, lastInst := least.2.2
        faultTick := BitVec.ofNat 32 s.tick.count.toNat
        faultN := false
        log := log.drop (log.length - 256)
        logNext := s.zal.logNext + 1 }
    let s1 := s.setZal z
    let s2 := if toSafe && s.sys.mode == .kindling then
        s1.setSys { s1.sys with kindling := { s1.sys.kindling with toSafe := true } } else s1
    if toSafe then s2
    else raise Ev.safetyFault e.bytes s2

/-- Name a unit that RESUME sends to REJOIN (R60, R71). -/
def nameUnit (u : UnitId) (s : State) : State :=
  if s.zal.units.contains u then s else s.setZal { s.zal with units := s.zal.units ++ [u] }

/-- A condition of a cause begins to persist. -/
def condOn (c : Nat) (s : State) : State := s.setZal { s.zal with cond := s.zal.cond ||| (1#24 <<< c) }

/-- Is the island powered: VDD_ZAL, rail 9, in its window (R563, R593)? -/
def islandUp (s : State) : Bool := !s.zal.railsOut.contains 9

/-- FAULT_N goes high once every bit of FAULT_STATUS is clear and no condition persists (R563). -/
def settleFaultN (s : State) : State :=
  if (s.zal.status ||| s.zal.selftest ||| s.zal.cond = 0) ∧ islandUp s then s.setZal { s.zal with faultN := true } else s

/-- A condition of a cause ends. -/
def condOff (c : Nat) (s : State) : State :=
  settleFaultN (s.setZal { s.zal with cond := s.zal.cond &&& ~~~(1#24 <<< c) })

/-- The host clears bits of FAULT_STATUS: one whose condition persists, or whose cause is latched, stays set (R572). -/
def clearFaults (m : Nat) (s : State) : State :=
  settleFaultN (s.setZal { s.zal with status := s.zal.status &&& ~~~(BitVec.ofNat 24 m &&& ~~~s.zal.cond) })

/-- Does the die of a front port stop protection class by itself, since it has missed the island's strobe (R562)? -/
def islandStops (s : State) (n : Nat) (protection : Bool) : Bool :=
  decide (n < 128) && protection && s.zal.silentDies.contains (dieOfPort n)

/-- Is a bit of the recorded causes set? -/
def causeSet (s : State) (c : Nat) : Bool := s.zal.status.getLsbD c

/-- A unit of a class that may leave service is taken out: it leaves at step 6 of the next boundary (R52, R71). -/
def leaveService (u : UnitId) (cause : Nat) (s : State) : State :=
  defer { due := s.tick.count + 1, change := .unitOut u cause } s

end Sys2Proof.Machine
end

