-- ==== Sys2Proof/Machine/Board.lean ====
section
/-! DEFINITION. The board's side: adaptive voltage scaling over the PMBus, the fixed GPIO outputs, and the test access port
(R590 to R602). -/

namespace Sys2Proof.Machine

/-! ### Adaptive voltage scaling -/

/-- The target of a die's VDD_CORE plane in mV (R595): the fused voltage, 10 mV more while the die is below 0 °C, at most
0.82 V. -/
def avsWanted (die : Nat) (cold : Bool) : Nat := min 820 (720 + 5 * (Config.avsCode die).toNat + (if cold then 10 else 0))

/-- The target in force of a plane: none at its start voltage. -/
def avsTarget (s : State) (die : Nat) : Option Nat := if die = 0 then s.power.targetW else s.power.targetE

/-- Is a plane left at its start voltage until reset? -/
def avsLocked (s : State) (die : Nat) : Bool := if die = 0 then s.power.lockedW else s.power.lockedE

/-- A regulator has taken a new target: for 200 µs the window of the old one counts as well (R591). -/
def setTarget (die mv : Nat) (s : State) : State :=
  let until' := s.tick.startFrc + BitVec.ofNat 64 (200 * 65536000)
  let u := (avsTarget s die).map (fun o => (o, until'))
  s.setPower (if die = 0 then { s.power with targetW := some mv, unionW := u }
    else { s.power with targetE := some mv, unionE := u })

/-- A regulator does not answer, or reports another VOUT_MODE, in Kindling step 3 (R595). -/
def lockPlane (die : Nat) (s : State) : State :=
  s.setPower (if die = 0 then { s.power with lockedW := true } else { s.power with lockedE := true })

/-- The target after one evaluation: at most 5 mV nearer to the one wanted (R595). -/
def avsNext (old wanted : Nat) : Nat := if old < wanted then min wanted (old + 5) else max wanted (old - 5)

/-- A PMBus transaction is made: it takes effect, or is retried after 1 ms (R594). -/
def pmbus (what mv : Nat) (ok : Bool) (s : State) : State :=
  if !ok then s.setPower { s.power with retry := s.power.retry ++ [{ what := what, target := mv, since := s.tick.count }] }
  else if what < 2 then setTarget what mv s
  else s.setPower { s.power with alertsServed := s.power.alertsServed + 1 }

/-- The evaluation of one plane; `cold` says that the hottest sensor of its die reads below 0 °C, `ok` that a write of the
target succeeds. -/
def avsPlane (die : Nat) (cold ok : Bool) (s : State) : State :=
  match avsTarget s die with
  | none => s
  | some old =>
    let new := avsNext old (avsWanted die cold)
    if avsLocked s die ∨ new = old ∨ s.power.retry.any (fun r => r.what == die) then s else pmbus die new ok s

/-- AVS_EVALUATE: the targets of both planes are evaluated again (R595). -/
def avsEvaluate (coldW coldE okW okE : Bool) (s : State) : State :=
  if s.sys.mode = .reset then s else avsPlane 1 coldE okE (avsPlane 0 coldW okW s)

/-- PMB_ALERT: PMB_ALERT_N is low: STATUS_WORD is read and CLEAR_FAULTS sent, and nothing further is done (R595). -/
def pmbAlert (ok : Bool) (s : State) : State := if s.sys.mode = .reset then s else pmbus 2 0 ok s

/-- PMBUS_RETRY: the oldest failed transaction is made again 1 ms after its latest attempt, at most 3 times (R594). -/
def pmbusRetry (ok : Bool) (s : State) : State :=
  match s.power.retry with
  | [] => s
  | r :: rest =>
    if ticksSince s.tick.count r.since < 1000 then s
    else if ok then pmbus r.what r.target true (s.setPower { s.power with retry := rest })
    else if r.tries + 1 ≥ 3 then s.setPower { s.power with retry := rest }
    else s.setPower { s.power with retry := { r with since := s.tick.count, tries := r.tries + 1 } :: rest }

/-! ### Pins -/

/-- The level of a GPIO (R600): GPIO0 in SERVICE and DEGRADED, GPIO1 while the twin role is active, GPIO2 from KINDLING_DONE;
the others are inputs. -/
def gpio (s : State) (k : Nat) : Bool :=
  match k with
  | 0 => s.sys.mode == .service || s.sys.mode == .degraded
  | 1 => s.twin.role == 1
  | 2 => s.sys.kindling.finished
  | _ => false

/-- Does the test access port control the pins: one of the five instructions that can, in RESET only (R602)? -/
def tapControls (s : State) : Bool :=
  s.sys.mode == .reset &&
  (match s.sys.tapInstr with
   | .extest | .extestPulse | .extestTrain | .highz | .clamp => true
   | .bypass | .idcode | .samplePreload => false)

/-- JTAG_INSTRUCTION: an instruction is loaded, in any mode; it changes no other state (R602). -/
def jtagInstruction (i : TapInstr) (s : State) : State := s.setSys { s.sys with tapInstr := i }

/-! ### The meanings -/

/-- AVS_EVALUATE. -/
def execAvsEvaluate (coldW coldE okW okE : Bool) (s : State) : Host.Outcome State Fault Refusal :=
  .next (avsEvaluate coldW coldE okW okE s)
/-- PMB_ALERT. -/
def execPmbAlert (ok : Bool) (s : State) : Host.Outcome State Fault Refusal := .next (pmbAlert ok s)
/-- PMBUS_RETRY. -/
def execPmbusRetry (ok : Bool) (s : State) : Host.Outcome State Fault Refusal := .next (pmbusRetry ok s)
/-- JTAG_INSTRUCTION. -/
def execJtagInstruction (i : TapInstr) (s : State) : Host.Outcome State Fault Refusal := .next (jtagInstruction i s)

end Sys2Proof.Machine
end

