-- ==== Sys2Proof/Machine/Cores.lean ====
section
/-! DEFINITION. The dispatchers: posting, delay lists, dispatch, pre-emption, ageing and cores out of service
(chapter 20).  What each work item does stands with its own family. -/

namespace Sys2Proof.Machine

/-- One die's dispatcher. -/
def scDie (s : State) (d : Nat) : ScDie := tgetD (fun _ => {}) s.svc.die d

/-- Put one die's dispatcher. -/
def setScDie (d : Nat) (x : ScDie) (s : State) : State := s.setSvc { s.svc with die := tput s.svc.die d x }

/-- One core of a die. -/
def coreAt (x : ScDie) (j : Nat) : Core := tgetD (fun _ => {}) x.core j

/-- Put one core of a die. -/
def ScDie.putCore (x : ScDie) (j : Nat) (c : Core) : ScDie := { x with core := tput x.core j c }

/-- The capacity of a class on a die (R506). -/
def classCapacity : Nat → Nat
  | 0 => 4096 | 1 => 64 | 2 => 16384 | 3 => 256 | 4 => 65536 | 5 => 4 | 6 => 1024 | _ => 1024

/-- The items that run on a die's cores. -/
def runningItems (x : ScDie) : List Item := x.core.filterMap (fun e => e.2.running)

/-- The items of a class, ready or running (R516). -/
def classUse (x : ScDie) (c : Nat) : Nat :=
  (x.ready.filter (fun i => i.work.cls == c)).length + ((runningItems x).filter (fun i => i.work.cls == c)).length

/-- SC_CLASS_FULL: an item posted at its class capacity is dropped (R506). -/
def classFull (d c : Nat) (s : State) : State :=
  raiseLimited Ev.scClassFull (8 * d + c) (fun n => le 1 d ++ le 1 c ++ le 4 n) s

/-- Post a work item to a die: behind the ready items, or dropped at its class capacity (R506, R509). -/
def postItem (d : Nat) (w : Work) (s : State) : State :=
  let x := scDie s d
  let c := w.cls
  if classUse x c < classCapacity c then
    setScDie d { x with ready := x.ready ++ [{ work := w, ready := s.tick.count }] } s
  else match w with
    | .learnSync p _ => classFull d c (bump48 12 p 5 1 s)
    | .stream _ _ _ _ => classFull d c (bump32 21 d (0xC8 + c) 1 s)
    | .ptp _ _ _ => classFull d c (bump32 21 d (0xC8 + c) 1 s)
    | _ => s

/-- A slice posts the event messages of one of its streams (R320, R322, R506). -/
def postStream (n code : Nat) (detail : List Byte) (s : State) : State :=
  postItem (n / 8) (.stream code detail s.tick.count s.tick.startFrc) s

/-- Enter an item into a list kept in order of due tick, behind those of equal due tick. -/
def insertDue (t : Tick) (i : Item) : List (Tick × Item) → List (Tick × Item)
  | [] => [(t, i)]
  | e :: es => if tickGe t e.1 then e :: insertDue t i es else (t, i) :: e :: es

/-- Post a work item with a due tick (R510); answers whether it was taken. -/
def postAt (d : Nat) (due : Tick) (w : Work) (s : State) : State × Bool :=
  let x := scDie s d
  if tickGe s.tick.count due then (postItem d w s, true)
  else if x.delay.length < 8192 then
    (setScDie d { x with delay := insertDue due { work := w, ready := due } x.delay } s, true)
  else
    let s1 := bump32 21 d 0xC3 1 s
    if x.delayFull then (s1, false)
    else (raise Ev.scDelayFull (le 1 d ++ le 8 s.tick.count.toNat) (setScDie d { x with delayFull := true } s1), false)

/-- DELAY_LIST_ADVANCE: up to 256 due items of a die move to its ready lists (R46). -/
def advanceDelays (d : Nat) (s : State) : State :=
  let x := scDie s d
  let due := x.delay.filter (fun e => tickGe s.tick.count e.1)
  let move := due.take 256
  let left := x.delay.drop move.length
  let s1 := setScDie d { x with
    ready := x.ready ++ move.map (fun e => { e.2 with ready := s.tick.count })
    delay := left, delayFull := x.delayFull && left.length ≥ 8192 } s
  if due.length > 256 then bump32 21 d 3 (due.length - 256) s1 else s1

/-- Is core `j` of die `d` in service? -/
def coreIn (s : State) (d j : Nat) : Bool := inService s 21 (16 * d + j)

/-- The priority that an item has (R508, R513). -/
def itemPrio (s : State) (d : Nat) (i : Item) : Nat :=
  if i.aged then 7 else regField s 21 d (8 + i.work.cls) 2 0

/-- The affinity of an item. -/
def itemAffinity (s : State) (d : Nat) (i : Item) : Nat := regField s 21 d (8 + i.work.cls) 23 8

/-- The cores of a die that may take an item: its affinity, or any core when none of it is in service (R511). -/
def itemCores (s : State) (d : Nat) (i : Item) : List Nat :=
  let aff := (List.range 16).filter (fun j => bitOf (itemAffinity s d i) j && coreIn s d j)
  if aff = [] then (List.range 16).filter (coreIn s d) else aff

/-- Does an item go to a core outside its affinity (R511)? -/
def overridden (s : State) (d : Nat) (i : Item) : Bool :=
  !(List.range 16).any (fun j => bitOf (itemAffinity s d i) j && coreIn s d j)

/-- The best of a list: the first among those with the greatest measure. -/
def best {α : Type} (m : α → Nat) (xs : List α) : Option α :=
  xs.foldl (fun b x => match b with
    | none => some x
    | some y => if m x > m y then some x else some y) none

/-- The idle core of a list that has been idle longest, the lowest-numbered of several (R511). -/
def longestIdle (x : ScDie) (js : List Nat) : Option Nat :=
  best (fun j => x.serial + 1 - (coreAt x j).since) (js.filter (fun j => (coreAt x j).running.isNone))

/-- The position of the item that R511 gives a core next, with the core. -/
def nextDispatch (s : State) (d : Nat) : Option (Nat × Nat) :=
  let x := scDie s d
  let cand := (List.range x.ready.length).filterMap (fun k => match x.ready[k]? with
    | some i => (longestIdle x (itemCores s d i)).map (fun j => (k, j, itemPrio s d i))
    | none => none)
  (best (fun e => e.2.2) cand).map (fun e => (e.1, e.2.1))

/-- Context slots in use on a die (R512). -/
def ctxUse (x : ScDie) : Nat := (x.ready.filter (fun i => i.ctx)).length

/-- The position of a ready item that may pre-empt, and the core whose item it displaces (R512). -/
def nextPreempt (s : State) (d : Nat) : Option (Nat × Nat) :=
  let x := scDie s d
  if ctxUse x ≥ 64 then none
  else
    let victim := fun (i : Item) =>
      let js := (itemCores s d i).filter (fun j => match (coreAt x j).running with
        | some r => itemPrio s d r < itemPrio s d i
        | none => false)
      best (fun j => match (coreAt x j).running with
        | some r => (7 - itemPrio s d r) * (x.serial + 2) * 16 + (coreAt x j).since * 16 + j
        | none => 0) js
    let cand := (List.range x.ready.length).filterMap (fun k => match x.ready[k]? with
      | some i => (victim i).map (fun j => (k, j, itemPrio s d i))
      | none => none)
    (best (fun e => e.2.2) cand).map (fun e => (e.1, e.2.1))

/-- The bucket of a wait (R516). -/
def waitBucket (w : Nat) : Nat := if w = 0 then 0 else min 15 (Nat.log2 w + 1)

/-- Give the ready item at position `k` to core `j`; the item is answered when it starts for the first time: one that
resumes, or runs again from its beginning, has no second effect (R507). -/
def startItem (d k j : Nat) (s : State) : State × Option Item :=
  let x := scDie s d
  match x.ready[k]? with
  | none => (s, none)
  | some i =>
    let c := coreAt x j
    let cyc := if i.ctx then 150 else 0
    let x1 := { x with ready := x.ready.eraseIdx k, serial := x.serial + 1 }
    let x2 := x1.putCore j { c with running := some { i with ctx := false, started := true },
                                    since := x.serial + 1, cycles := c.cycles + cyc }
    let s1 := setScDie d x2 s
    let s2 := if overridden s d i then bump32 21 d 0xC4 1 s1 else s1
    let s3 := if i.started then s2
      else bump32 21 d (0x40 + 16 * i.work.cls + waitBucket (ticksSince s.tick.count i.ready)) 1 s2
    (s3, if i.started then none else some i)

/-- SC_PREEMPT: save the context of the item on core `j`, which goes to the head of its ready list (R512). -/
def preempt (d j : Nat) (s : State) : State :=
  let x := scDie s d
  match (coreAt x j).running with
  | none => s
  | some i =>
    let c := coreAt x j
    bump32 21 d 0xC0 1 (setScDie d
      ({ x with ready := { i with ctx := true } :: x.ready }.putCore j
        { c with running := none, cycles := c.cycles + 150 }) s)

/-- SC_DISPATCH apart from the work itself: an idle core takes an item, or one is pre-empted (R511, R512).  Answers
the item whose work is now to be done. -/
def dispatch (d : Nat) (s : State) : State × Option Item :=
  match nextDispatch s d with
  | some (k, j) => startItem d k j s
  | none => match nextPreempt s d with
    | some (k, j) => startItem d (k + 1) j (preempt d j s)
    | none => (s, none)

/-- SC_ITEM_END: the item on a core ends after so many core cycles (R507). -/
def itemEnd (core cycles : Nat) (s : State) : State :=
  let d := core / 16
  let j := core % 16
  let x := scDie s d
  match (coreAt x j).running with
  | none => s
  | some _ =>
    let c := coreAt x j
    setScDie d ({ x with serial := x.serial + 1 }.putCore j
      { c with running := none, since := x.serial + 1, cycles := c.cycles + cycles }) s

/-- SC_ITEM_AGED: the first ready item that has waited AGE_TICKS is treated as priority 7 (R513). -/
def itemAged (d : Nat) (s : State) : State :=
  let x := scDie s d
  let t := regField s 21 d 1 15 0
  match x.ready.findIdx? (fun i => !i.aged && ticksSince s.tick.count i.ready ≥ t) with
  | some k =>
    if t = 0 then s
    else match x.ready[k]? with
      | none => s
      | some i =>
        let s1 := setScDie d { x with ready := x.ready.set k { i with aged := true } } s
        raiseLimited Ev.scAged (8 * d + i.work.cls) (fun n => le 1 d ++ le 1 i.work.cls ++ le 4 n)
          (bump32 21 d 0xC1 1 s1)
  | none => s

/-- SC_ITEM_RESTARTED: a core leaves service and its item returns to the head of its ready list, to run again from
its beginning (R514).  `cause` 0: core out of service; 1: dispatcher overrun. -/
def restartCore (core cause : Nat) (s : State) : State :=
  let d := core / 16
  let j := core % 16
  let x := scDie s d
  match (coreAt x j).running with
  | none => s
  | some i =>
    let c := coreAt x j
    raise Ev.scItemRestarted (le 1 d ++ le 1 core ++ le 1 i.work.cls ++ le 1 cause)
      (bump32 21 d 0xC2 1 (setScDie d
        ({ x with ready := { i with ctx := false } :: x.ready }.putCore j { c with running := none }) s))

/-- Close a period of 1,024 ticks: each core's load is set (R516). -/
def closeLoads (d : Nat) (s : State) : State :=
  let x := scDie s d
  setScDie d { x with core := x.core.map (fun e =>
    (e.1, { e.2 with load := min 1024 (e.2.cycles / 2000), cycles := 0 })) } s

/-- SC_ITEM_END. -/
def execScItemEnd (core : Fin 32) (cycles : Nat) (s : State) : Host.Outcome State Fault Refusal :=
  .next (itemEnd core cycles s)
/-- SC_ITEM_AGED. -/
def execScItemAged (d : Fin 2) (s : State) : Host.Outcome State Fault Refusal := .next (itemAged d s)

end Sys2Proof.Machine
end

