-- ==== Sys2Proof/Machine/Clock.lean ====
section
/-! DEFINITION. Domain time: conversion, identities of parameter sets and the quality of stamps (R380, R381, R386,
R387). -/

namespace Sys2Proof.Machine

/-- One domain: false for A. -/
def domAt (s : State) (b : Bool) : Domain := if b then s.tu.domB else s.tu.domA

/-- Put one domain. -/
def setDom (b : Bool) (x : Domain) (s : State) : State :=
  if b then s.setTu { s.tu with domB := x } else s.setTu { s.tu with domA := x }

/-- The set in force (R380). -/
def Domain.now (d : Domain) : Option TimeSet := d.sets.getLast?

/-- The set in force at an FRC value, among the kept sets. -/
def Domain.at (d : Domain) (f : Dword) : Option TimeSet :=
  (d.sets.filter (fun x => decide (0 ≤ (f - x.validFrom).toInt))).getLast?

/-- Domain time in units of 2^-16 ns of a stamp under a set (R380). -/
def TimeSet.convert (x : TimeSet) (f : Dword) : Int :=
  let dlt := (f - x.anchor).toInt
  ((x.baseS : Int) * 1000000000 + x.baseNs) * 65536 + x.baseFrac + dlt + (dlt * x.rate).fdiv (2 ^ 48)

/-- The units of one second. -/
def second : Int := 1000000000 * 65536

/-- Seconds, nanoseconds and fraction of a time (R380). -/
def splitTime (t : Int) : Nat × Nat × Nat :=
  let s := t.fdiv second
  let r := (t - s * second).toNat
  (s.toNat, r / 65536, r % 65536)

/-- The identity of a set (R381). -/
def TimeSet.ident (x : TimeSet) : Nat := 4096 * (x.epoch.toNat % 8) + x.seq.toNat % 4096

/-- The identity of a domain at an FRC value (R381). -/
def identAt (s : State) (b : Bool) (f : Dword) : Nat :=
  match (domAt s b).at f with
  | some x => x.ident
  | none => 0x8000

/-- Are the stamps of both domains marked invalid (R378, R379, R386, R387)? -/
def stampsInvalid (s : State) : Bool := s.tu.trefAlarm || s.tu.pllAlarm || s.tu.frcFail || s.tu.disagree

/-- The quality byte of a stamp (R387). -/
def quality (s : State) (calBad : Bool) : Nat :=
  b2n (s.tu.domA.sets == []) + 2 * b2n (s.tu.domB.sets == []) + 4 * b2n (stampsInvalid s) + 8 * b2n (stampsInvalid s) +
  16 * b2n calBad

/-- The difference of the domains at an FRC value, in units of 2^-16 ns; none unless both are seeded. -/
def domainGap (s : State) (f : Dword) : Option Nat :=
  match s.tu.domA.now, s.tu.domB.now with
  | some a, some b => some (a.convert f - b.convert f).natAbs
  | _, _ => none

/-- The calendar position of nothing: the present instant of the model, the strobe of the tick. -/
def nowFrc (s : State) : Dword := s.tick.startFrc

end Sys2Proof.Machine
end

