-- ==== Sys2Proof/Machine/Records.lean ====
section
/-! DEFINITION. Flow records and reverse pointers as bytes: where each field lies, the key digest, the integrity tag, the
reverse key, and the records of the slices (chapter 09 and R234, R278). -/

namespace Sys2Proof.Machine

/-- One step of the CRC-16 of R219, most significant bit first. -/
def crc16Bit (r : Half) (b : Bool) : Half :=
  let x := r.getMsbD 0 ^^ b
  let r' := r <<< 1
  if x then r' ^^^ 0x8BB7 else r'

/-- The CRC-16 of R219 from an initial value of 0. -/
def crc16 (bs : List Byte) : Half :=
  bs.foldl (fun r b => (List.range 8).foldl (fun r i => crc16Bit r (b.getMsbD i)) r) 0

/-! ### Keys -/

/-- The key type without bit 7 (R206, R207). -/
def keyType (k : List Byte) : Nat := rd k 0 1 % 128

/-- Does the type byte name a reverse pointer (R207)? -/
def isPtr (e : List Byte) : Bool := bitOf (rd e 0 1) 7

/-- Is an entry a wide record (R214)? -/
def isWide (e : List Byte) : Bool := rd e 0 1 == 0x11

/-- Slots or ways of an entry (R214, R215). -/
def entrySlots (e : List Byte) : Nat := if isWide e then 2 else 1

/-- Bytes of an entry. -/
def entryLen (e : List Byte) : Nat := 64 * entrySlots e

/-- The zone of a key. -/
def keyZone (k : List Byte) : Nat := rd k 1 2

/-- A key with bit 7 of its type cleared. -/
def plainKey (k : List Byte) : List Byte := BitVec.ofNat 8 (keyType k) :: k.drop 1

/-- The key of an entry, with bit 7 of its type cleared (R206, R215). -/
def keyOf (e : List Byte) : List Byte :=
  if keyType e = 0x11 then plainKey (if isPtr e then e.take 43 ++ le 5 0 else e.take 48)
  else plainKey (e.take 16)

/-- The flow seed in force (R235). -/
def flowSeed (s : State) : Dword := (reg s 13 16 0x11) ++ (reg s 13 16 0x10)

/-- The key digest (R208). -/
def digestOf (s : State) (key : List Byte) : Dword := crc64 (flowSeed s) (plainKey key)

/-- The home slice of a digest (R234). -/
def homeOf (d : Dword) : Nat := d.toNat % 16

/-! ### Fields -/

/-- Offset of the control word. -/
def ctlOff (e : List Byte) : Nat := if keyType e = 0x11 then 0x30 else 0x10
/-- Offset of the action area. -/
def actOff (e : List Byte) : Nat := if keyType e = 0x11 then 0x34 else 0x14
/-- Size of the action area. -/
def actLen (e : List Byte) : Nat := if keyType e = 0x11 then 28 else 12
/-- Offset of the packet counter. -/
def pktsOff (e : List Byte) : Nat := if keyType e = 0x11 then 0x50 else 0x20
/-- Offset of the byte counter. -/
def bytesOff (e : List Byte) : Nat := pktsOff e + 5
/-- Offset of the deny counter. -/
def deniesOff (e : List Byte) : Nat := pktsOff e + 11
/-- Offset of scratch word `w`. -/
def scrOff (e : List Byte) (w : Nat) : Nat := if keyType e = 0x11 then 0x60 + 2 * w else 0x2E
/-- Offset of first_tick. -/
def firstOff (e : List Byte) : Nat := if keyType e = 0x11 then 0x70 else 0x30
/-- Offset of last_tick. -/
def lastOff (e : List Byte) : Nat := firstOff e + 6
/-- Offset of the interval. -/
def ivOff (e : List Byte) : Nat := firstOff e + 12

/-- The control word of a record (R211). -/
def ctl (e : List Byte) : Nat := rd e (ctlOff e) 4
/-- Put a control word. -/
def putCtl (v : Nat) (e : List Byte) : List Byte := splice e (ctlOff e) (le 4 v)
/-- Replace bits `hi` to `lo` of a number. -/
def setBits (x hi lo v : Nat) : Nat :=
  x - bitsOf x hi lo * 2 ^ lo + (v % 2 ^ (hi + 1 - lo)) * 2 ^ lo
/-- Put a field of the control word. -/
def putCtlField (hi lo v : Nat) (e : List Byte) : List Byte := putCtl (setBits (ctl e) hi lo v) e

/-- The record is pinned. -/
def isPinned (e : List Byte) : Bool := !isPtr e && bitOf (ctl e) 1
/-- The record is replicated. -/
def isReplicated (e : List Byte) : Bool := !isPtr e && bitOf (ctl e) 2
/-- Its pointer is installed. -/
def isBound (e : List Byte) : Bool := bitOf (ctl e) 3
/-- Its action kind (R212). -/
def actKind (e : List Byte) : Nat := bitsOf (ctl e) 6 4
/-- A supervision deadline is armed. -/
def isArmed (e : List Byte) : Bool := bitOf (ctl e) 7
/-- Its program. -/
def progOf (e : List Byte) : Nat := bitsOf (ctl e) 15 8
/-- Its program state. -/
def stateOf (e : List Byte) : Nat := bitsOf (ctl e) 19 16
/-- Its verdict. -/
def verdictOf (e : List Byte) : Nat := bitsOf (ctl e) 21 20
/-- Its egress class. -/
def classOf (e : List Byte) : Nat := bitsOf (ctl e) 24 22
/-- Its packet counter. -/
def pktsOf (e : List Byte) : Nat := rd e (pktsOff e) 5
/-- Its byte counter. -/
def bytesOf (e : List Byte) : Nat := rd e (bytesOff e) 6
/-- Its deny counter. -/
def deniesOf (e : List Byte) : Nat := rd e (deniesOff e) 3
/-- Scratch word `w`. -/
def scrOf (e : List Byte) (w : Nat) : Nat := rd e (scrOff e w) 2
/-- Put scratch word `w`. -/
def putScr (w v : Nat) (e : List Byte) : List Byte := splice e (scrOff e w) (le 2 v)
/-- Tick of creation. -/
def firstTickOf (e : List Byte) : Tick := BitVec.ofNat 48 (rd e (firstOff e) 6)
/-- Tick of the latest operation. -/
def lastTickOf (e : List Byte) : Tick := BitVec.ofNat 48 (rd e (lastOff e) 6)
/-- Put last_tick. -/
def putLastTick (t : Tick) (e : List Byte) : List Byte := splice e (lastOff e) (le 6 t.toNat)
/-- The interval field (R218). -/
def intervalOf (e : List Byte) : Nat := rd e (ivOff e) 2
/-- The interval in ticks; 0 for an unsupervised record (R218). -/
def intervalTicks (iv : Nat) : Nat := iv % 16384 * 16 ^ (iv / 16384)
/-- Is an interval refused (R218)? -/
def intervalBad (iv : Nat) (pinned : Bool) : Bool :=
  (iv % 16384 == 0 && iv / 16384 != 0) || (iv % 16384 != 0 && !pinned)

/-- The action area. -/
def actOfRec (e : List Byte) : List Byte := (e.drop (actOff e)).take (actLen e)
/-- Put the action area. -/
def putAct (a : List Byte) (e : List Byte) : List Byte := splice e (actOff e) (padTo (actLen e) a)
/-- The member field, 0 for kind NONE, which holds none (R213). -/
def memberOf (e : List Byte) : Word := if actKind e = 0 then 0 else BitVec.ofNat 32 (rd e (actOff e + 8) 4)
/-- The pool of a translated record. -/
def poolOf (e : List Byte) : Nat := rd e (actOff e + 6) 2 % 4096
/-- Translated address and port, in network order. -/
def transAddr (e : List Byte) : Nat := rdBe e (actOff e) 4
/-- Translated port. -/
def transPort (e : List Byte) : Nat := rdBe e (actOff e + 4) 2

/-- May an action kind stand with a key type (R212)? -/
def kindFits (kind keyType : Nat) : Bool :=
  kind ≤ 1 || ((kind == 2 || kind == 3) && keyType == 0x01) || (kind == 4 && keyType == 0x11)

/-! ### The integrity tag -/

/-- Put a computed tag (R219). -/
def withTag (e : List Byte) : List Byte :=
  let n := entryLen e - 2
  splice e n (le 2 (crc16 (e.take n)).toNat)

/-- Does the tag match (R219)? -/
def tagOk (e : List Byte) : Bool :=
  let n := entryLen e - 2
  rd e n 2 == (crc16 (e.take n)).toNat

/-- What a read of an entry finds after upsets, or none when it cannot be used (R220, R296). -/
def readEntry (u : ReadUpset) (e : List Byte) : Option (List Byte) :=
  let e' := u.bytes.foldl (fun e x => splice e x.1 [x.2]) e
  if u.ue || e'.length != entryLen e || !tagOk e' then none else some e'

/-! ### Reverse pointers -/

/-- The reverse key of a record, with its zone; none for type 0x02 (R216, R306). -/
def reverseKey (s : State) (e : List Byte) : Option (List Byte) :=
  let k := actKind e
  let zone := if k ≥ 2 then
      match tfind s.flow.pools (poolOf e) with
      | some p => if bitOf (rd p 3 1) 1 then (p.drop 0x10).take 2 else (e.drop 1).take 2
      | none => (e.drop 1).take 2
    else (e.drop 1).take 2
  let at' := fun o n => (e.drop o).take n
  if keyType e = 0x01 then
    let src := if k = 2 then at' (actOff e) 4 else at' 3 4
    let sp := if k = 2 then at' (actOff e + 4) 2 else at' 0x0B 2
    let dst := if k = 3 then at' (actOff e) 4 else at' 7 4
    let dp := if k = 3 then at' (actOff e + 4) 2 else at' 0x0D 2
    some ([0x01] ++ zone ++ dst ++ src ++ dp ++ sp ++ at' 0x0F 1)
  else if keyType e = 0x11 then
    if k = 4 then
      some ([0x01] ++ zone ++ at' (actOff e + 12) 4 ++ at' (actOff e) 4 ++ at' 0x25 2 ++ at' (actOff e + 4) 2 ++ at' 0x27 1)
    else some ([0x11] ++ zone ++ at' 0x13 16 ++ at' 0x03 16 ++ at' 0x25 2 ++ at' 0x23 2 ++ at' 0x27 1 ++ le 8 0)
  else none

/-- The reverse pointer of a primary with a reverse key (R215). -/
def pointerOf (key : List Byte) (home : Nat) (digest : Dword) (replicated : Bool) : List Byte :=
  let flags := 1 + 4 * b2n replicated + 8
  if keyType key = 0x11 then
    withTag ([0x91] ++ (key.drop 1).take 42 ++ le 1 flags ++ le 1 home ++ le 1 0 ++ le 8 digest.toNat ++ le 10 0)
  else withTag ([0x81] ++ (key.drop 1).take 15 ++ le 4 flags ++ le 1 home ++ le 3 0 ++ le 8 digest.toNat ++ le 32 0)

/-- Home slice of the primary that a pointer names. -/
def ptrHome (e : List Byte) : Nat := rd e (if keyType e = 0x11 then 0x2C else 0x14) 1 % 16
/-- Digest of the primary that a pointer names. -/
def ptrDigest (e : List Byte) : Dword := BitVec.ofNat 64 (rd e (if keyType e = 0x11 then 0x2E else 0x18) 8)

/-! ### Slices -/

/-- One slice. -/
def slAt (s : State) (n : Nat) : Slice := tgetD (fun _ => {}) s.flow.slice n
/-- Put one slice. -/
def setSl (n : Nat) (x : Slice) (s : State) : State := s.setFlow { s.flow with slice := tput s.flow.slice n x }
/-- Change one slice. -/
def modSl (n : Nat) (f : Slice → Slice) (s : State) : State := setSl n (f (slAt s n)) s

/-- Count an event of a slice in the event-selected counters that select it (R522, R524). -/
def countEvent (inst counters code k : Nat) (s : State) : State :=
  (List.range counters).foldl (fun s i =>
    let v := (reg s 22 inst (0x10 + i)).toNat
    if v % 65536 = code ∧ bitOf v 16 then
      let a := paddr 22 inst (0x100 + 2 * i)
      s.setPrm { s.prm with counts := tput s.prm.counts a ((counter s a + k) % 2 ^ 48) }
    else s) s

/-- A slice event (R524). -/
def slEvent (n code k : Nat) (s : State) : State := countEvent (16 + n) 8 code k s
/-- A pipeline event (R523). -/
def pipeEvent (p code k : Nat) (s : State) : State := countEvent (1 + p) 16 code k s

/-- Count in a 32-bit counter of a slice. -/
def slCount (n w k : Nat) (s : State) : State := bump32 13 n w k s

end Sys2Proof.Machine
end

