-- ==== Sys2Proof/Machine/Shares.lean ====
section
/-! DEFINITION. The per-tick shares of the slices, of their pseudo-channels, of the DDR5 channels and of the twin link (R36 to R41, R44, R238, R262).
An action begins only while the share it draws on has room; the accesses of an action that passes the share count against the
next tick (DESIGN CHOICE, log 58). -/

namespace Sys2Proof.Machine

/-! ### Pseudo-channels (R40) -/

/-- Record accesses of pseudo-channel `k` of slice `n` in this tick. -/
def hbmRec (s : State) (n k : Nat) : Nat := tgetD (fun _ => 0) (slAt s n).recUse k
/-- Its service-region accesses in this tick. -/
def hbmSvc (s : State) (n k : Nat) : Nat := tgetD (fun _ => 0) (slAt s n).svcUse k

/-- Does a packet lookup of the slice wait for its probe or its summary (R285)? -/
def probing (f : Flight) : Bool := f.phase == .probe || f.phase == .summary

/-- Does a bitmap fetch of the slice wait (R302)? -/
def fetchWaits (x : Slice) : Bool := x.parts.any (fun p => p.2.fetching)

/-- May pseudo-channel `k` serve a record access: within its share, or the service share's where no fetch waits (R37, R40)? -/
def recRoom (s : State) (n k : Nat) : Bool :=
  decide (hbmRec s n k < 400) || (decide (hbmRec s n k + hbmSvc s n k < 464) && !fetchWaits (slAt s n))

/-- May pseudo-channel `k` serve a service-region access: within its share, or the record share's where no lookup waits? -/
def svcRoom (s : State) (n k : Nat) : Bool :=
  decide (hbmSvc s n k < 64) || (decide (hbmRec s n k + hbmSvc s n k < 464) && !(slAt s n).flights.any probing)

/-- Record accesses are made. -/
def useRec (n k c : Nat) (s : State) : State :=
  modSl n (fun x => { x with recUse := tput x.recUse k (tgetD (fun _ => 0) x.recUse k + c) }) s

/-- Service-region accesses are made. -/
def useSvc (n k c : Nat) (s : State) : State :=
  modSl n (fun x => { x with svcUse := tput x.svcUse k (tgetD (fun _ => 0) x.svcUse k + c) }) s

/-- Background accesses of slice `n` to pseudo-channel `k`, in the event that counts them (R262, R294). -/
def useBack (n k c : Nat) (s : State) : State := slEvent n 0x3209 c (useRec n k c s)

/-- Record accesses of all the slice's pseudo-channels in this tick. -/
def recTotal (x : Slice) : Nat := x.recUse.foldl (fun a e => a + e.2) 0

/-- Accesses that background work may take: what the packets that wait leave of the 3,200 (R262). -/
def backRoom (s : State) (n : Nat) : Nat :=
  3200 - recTotal (slAt s n) - (slAt s n).flights.countP probing

/-- The most accesses that one background action takes: a wide install, its victims, eight wide moves and a summary write. -/
def backAction : Nat := 23

/-! ### Operation cycles (R37, R39, R238) -/

/-- The cycles reserved for a background owner: 0 host access, 1 sweep, 2 replication, 3 migration (R39, R54). -/
def sliceReserve (s : State) (i : Nat) : Nat := regField s 3 0 6 (8 * i + 7) (8 * i)

/-- Cycles that an owner has used. -/
def ownUsed (s : State) (n i : Nat) : Nat := tgetD (fun _ => 0) (slAt s n).ownUse i

/-- Has an owner work that waits for a cycle? -/
def ownWaits (s : State) (n i : Nat) : Bool :=
  let x := slAt s n
  match i with
  | 0 => x.hostQ != []
  | 1 => x.expiry != [] || (match s.flow.sweep with | some p => (tfind p.left n).isSome | none => false)
  | 2 => tgetD (fun _ => []) s.twin.follow n != []
  | _ => x.installs != [] || x.acks != [] || x.ptrDemotes != []

/-- What the owners with waiting work still have of their reservations. -/
def ownOwed (s : State) (n : Nat) : Nat :=
  ((List.range 4).map (fun i => if ownWaits s n i then sliceReserve s i - ownUsed s n i else 0)).sum

/-- May the slice accept an operation of a packet: one of the cycles that no owner with work has reserved (R39)? -/
def packetRoom (s : State) (n : Nat) : Bool := decide ((slAt s n).cycles + ownOwed s n < 2700)

/-- The operations that an owner may still run in this tick: within its reservation, and on a device in STANDBY every cycle for the
application of replicated state that no other owner uses (R39, R238, R544). -/
def ownRoom (s : State) (n i : Nat) : Nat :=
  let left := 2700 - (slAt s n).cycles
  if i = 2 ∧ s.sys.mode = .standby then left - (ownOwed s n - (if ownWaits s n 2 then sliceReserve s 2 - ownUsed s n 2 else 0))
  else min left (sliceReserve s i - ownUsed s n i)

/-- An owner's operation uses a cycle. -/
def useCycle (n i : Nat) (s : State) : State :=
  modSl n (fun x => { x with cycles := x.cycles + 1, ownUse := tput x.ownUse i (tgetD (fun _ => 0) x.ownUse i + 1) }) s

/-- The shares of a slice at their full values (R36, R37, R40). -/
def reloadShares (x : Slice) : Slice :=
  { x with
    cycles := 0, ownUse := []
    recUse := (x.recUse.map (fun e =>
      (e.1, e.2 - (400 + (64 - tgetD (fun _ => 0) x.svcUse e.1))))).filter (fun e => e.2 != 0)
    svcUse := (x.svcUse.map (fun e =>
      (e.1, e.2 - (64 + (400 - tgetD (fun _ => 0) x.recUse e.1))))).filter (fun e => e.2 != 0) }

/-! ### DDR5 channels (R41) -/

/-- The shares of a channel by the speed grade of the device: record, journal, capture and export (R41, R403). -/
def chanShare (s : State) : ChanUse :=
  if s.sys.grade then { rec' := 220, jnl := 31, cap := 94, exp := 79 } else { rec' := 280, jnl := 40, cap := 120, exp := 100 }

/-- What channel `n` has served. -/
def chanUse (s : State) (n : Nat) : ChanUse := tgetD (fun _ => {}) s.jnl.chan n
/-- Put what a channel has served. -/
def setChan (n : Nat) (u : ChanUse) (s : State) : State := s.setJnl { s.jnl with chan := tput s.jnl.chan n u }

/-- Does no journal write wait? -/
def jnlIdle (s : State) : Bool := s.jnl.fifo.all (fun e => e.2 == [])
/-- Does no capture write wait? -/
def capIdle (s : State) : Bool := s.jnl.staging.all (fun e => e.2 == [])

/-- The accesses that an export may make on a channel: its share and what the journal and captures leave unused (R41). -/
def expLimit (s : State) (n : Nat) : Nat :=
  let u := chanUse s n
  let w := chanShare s
  w.exp + (if jnlIdle s then w.jnl - u.jnl else 0) + (if capIdle s then w.cap - u.cap else 0)

/-- May the channel serve a turf record access: within its share, or in the export's unused one (R41)? -/
def turfRoom (s : State) (n : Nat) : Bool :=
  let u := chanUse s n
  decide (u.rec' < (chanShare s).rec' + (expLimit s n - u.exp))
/-- May it serve a journal write? -/
def jnlRoom (s : State) (n : Nat) : Bool := decide ((chanUse s n).jnl < (chanShare s).jnl)
/-- May it serve a capture write? -/
def capRoom (s : State) (n : Nat) : Bool := decide ((chanUse s n).cap < (chanShare s).cap)
/-- May it serve an export read or a host-window access? -/
def expRoom (s : State) (n : Nat) : Bool :=
  let u := chanUse s n
  decide (u.exp + (u.rec' - (chanShare s).rec') < expLimit s n)

/-- Turf record accesses are made. -/
def useTurf (n c : Nat) (s : State) : State := setChan n { chanUse s n with rec' := (chanUse s n).rec' + c } s
/-- A journal write is made. -/
def useJnl (n : Nat) (s : State) : State := setChan n { chanUse s n with jnl := (chanUse s n).jnl + 1 } s
/-- A capture write is made. -/
def useCap (n : Nat) (s : State) : State := setChan n { chanUse s n with cap := (chanUse s n).cap + 1 } s
/-- An export read is made. -/
def useExp (n : Nat) (s : State) : State := setChan n { chanUse s n with exp := (chanUse s n).exp + 1 } s

/-- Accesses that the shares of a pseudo-channel, or of a channel, leave unused in the tick (R410). -/
def spareAccesses (s : State) (channel : Bool) (k : Nat) : Nat :=
  if channel then
    let u := chanUse s k
    let w := chanShare s
    w.rec' + w.jnl + w.cap + w.exp - (u.rec' + u.jnl + u.cap + u.exp)
  else 464 - (hbmRec s (k / 8) (k % 8) + hbmSvc s (k / 8) (k % 8))

/-- The shares of every channel at their full values: what passed them counts against the new tick. -/
def reloadChans (s : State) : State :=
  let w := chanShare s
  s.setJnl { s.jnl with chan := (s.jnl.chan.map (fun e =>
    let u := e.2
    (e.1, ({ rec' := u.rec' - (w.rec' + (w.exp - u.exp)), jnl := u.jnl - w.jnl, cap := u.cap - w.cap
             exp := u.exp - (w.exp + (w.jnl - u.jnl) + (w.cap - u.cap)) } : ChanUse)))).filter (fun e => e.2 != {}) }

/-! ### The twin link (R44) -/

/-- Bytes that the twin link still carries in this tick (R44). -/
def linkRoom (s : State) : Nat := 105000 - s.twin.linkUse

/-- Bytes are put on the twin link. -/
def useLink (c : Nat) (s : State) : State := s.setTwin { s.twin with linkUse := s.twin.linkUse + c }

/-- Bytes of bulk items that a die may still send in this tick: 37,500, or half of that while both share one half-link (R44, R537). -/
def bulkRoom (s : State) (d : Nat) : Nat :=
  min (linkRoom s) ((if (tgetD (fun _ => {}) s.twin.half 0).st == .up && (tgetD (fun _ => {}) s.twin.half 1).st == .up
    then 37500 else 18750) - tgetD (fun _ => 0) s.twin.bulkUse d)

/-- FOLLOW items that the device may still send in this tick (R44). -/
def followRoom (s : State) : Nat := min (1024 - s.twin.followUse) (linkRoom s / 32)

/-- Bytes kept for the bulk copy and the follows that wait, which go before cross frames (R44). -/
def linkOwed (s : State) : Nat :=
  if s.twin.role ≠ 1 then 0
  else if s.twin.walking then bulkRoom s 0 + bulkRoom s 1
  else 32 * min (followRoom s) ((s.twin.follow.map (fun e => e.2.length)).sum)

/-- May cross frames take `c` bytes of the twin link: what the other items leave of the tick (R44)? -/
def crossRoom (s : State) (c : Nat) : Bool := decide (c + linkOwed s ≤ linkRoom s)

/-- The shares of the twin link at their full values. -/
def reloadLink (s : State) : State := s.setTwin { s.twin with linkUse := 0, bulkUse := [], followUse := 0 }

end Sys2Proof.Machine
end

