-- ==== Sys2Proof/Machine/Journal.lean ====
section
/-! DEFINITION. Journal entries, the slices' journal FIFOs, the rings and their policies, captures and samples (chapter
13, R525 to R528). -/

namespace Sys2Proof.Machine

/-! ### Rings -/

/-- One ring: 0 the journal, 1 + r capture ring r. -/
def ringAt (s : State) (i : Nat) : Ring := tgetD (fun _ => {}) s.jnl.ring i
/-- Put one ring. -/
def setRing (i : Nat) (x : Ring) (s : State) : State := s.setJnl { s.jnl with ring := tput s.jnl.ring i x }

/-- Entries or blocks that fit a GiB of one channel. -/
def perGib (i : Nat) : Nat := if i = 0 then 2 ^ 25 else 2 ^ 24

/-- Does the ring lie in the Peatbank (R329)? -/
def inPeat (s : State) : Bool := s.jnl.channels != []

/-- Capacity of a ring in entries or blocks; ring 9 is the audit mirror, which has no room on die (R327, R329, R500). -/
def ringSize (s : State) (i : Nat) : Nat :=
  if inPeat s then s.jnl.channels.length * regField s 24 i 1 15 0 * perGib i
  else if i = 0 then 16384 else if i < 9 then 32768 else 0

/-- Items between the counts. -/
def ringUse (x : Ring) : Nat := (x.write - x.read).toNat

/-- The channel of the block at a position: none on die (R327). -/
def blockChan (s : State) (i : Nat) (pos : Dword) : Option Nat :=
  let k := if i = 0 then pos.toNat / 2 else pos.toNat
  s.jnl.channels[k % max 1 s.jnl.channels.length]?

/-- Is the block at a position left unwritten (R330)? -/
def blockAway (s : State) (i : Nat) (pos : Dword) : Bool :=
  match blockChan s i pos with
  | some c => !inService s 15 c
  | none => false

/-- Does an item of `n` entries or blocks at a position touch a block that is left unwritten (R330)? -/
def placeAway (s : State) (i n : Nat) (pos : Dword) : Bool :=
  (List.range n).any (fun k => blockAway s i (pos + BitVec.ofNat 64 k))

/-- Does a ring accept items (R344)? -/
def ringOn (s : State) (i : Nat) : Bool := bitOf (reg s 24 i 0).toNat 0 && ringSize s i != 0

/-- JNL_FILL: the fill rises through FILL_THRESHOLD (R345). -/
def fillCheck (i : Nat) (s : State) : State :=
  let x := ringAt s i
  let th := regField s 24 i 0xF 6 0
  let above := th != 0 && 100 * ringUse x ≥ th * ringSize s i
  let s1 := setRing i { x with above := above } s
  if above && !x.above then raise Ev.jnlFill (le 1 i ++ le 8 (ringUse x)) s1 else s1

/-- JNL_FULL or CAP_FULL, once per episode (R333). -/
def ringFull (i : Nat) (s : State) : State :=
  let x := ringAt s i
  if x.fullEpisode then s
  else
    let s1 := setRing i { x with fullEpisode := true } s
    if i = 0 then raise Ev.jnlFull (le 8 s.tick.count.toNat) s1
    else raise Ev.capFull (le 1 (i - 1) ++ le 8 s.tick.count.toNat) s1

/-- Make room for `n` entries or blocks by advancing the read count past the oldest whole items (R334): the ring and the
items overwritten. -/
def overwrite (cap n : Nat) : Nat → Ring → Ring × Nat
  | 0, x => (x, 0)
  | fuel + 1, x =>
    if ringUse x + n ≤ cap then (x, 0)
    else match x.items with
      | [] => ({ x with read := x.write }, 0)
      | (p, k, _) :: rest =>
        let (y, m) := overwrite cap n fuel { x with
          read := p + BitVec.ofNat 64 k, items := rest, gone := if x.queue.isSome then x.gone ++ [p] else [] }
        (y, m + 1)

/-- Put one item of `n` entries or blocks behind the others; lost where a channel of its blocks is away, its entries counted
in LOST, or its one record (R330). -/
def ringPut (i n : Nat) (b : List Byte) (s : State) : State :=
  let x := ringAt s i
  let away := placeAway s i n x.write
  let s1 := setRing i { x with write := x.write + BitVec.ofNat 64 n
                               items := x.items ++ [(x.write, n, if away then [] else b)] } s
  if away then bump32 24 i 0x10 (if i = 0 then n else 1) s1 else s1

/-- An item of `n` entries or blocks is lost: counted in LOST, and a gap is owed for it (R333, R338). -/
def oweGap (i n : Nat) (s : State) : State :=
  let x := ringAt s i
  bump32 24 i 0x10 1 (setRing i { x with owed := x.owed + 1, owedSize := max x.owedSize n } s)

/-- Lose one item of a ring under STOP (R333). -/
def ringLose (i n : Nat) (s : State) : State := ringFull i (oweGap i n s)

/-- Is the policy OVERWRITE (R344)? -/
def overwriting (s : State) (i : Nat) : Bool := bitOf (reg s 24 i 0).toNat 1

/-- Write an item of `n` entries or blocks under the ring's policy (R333, R334); answers whether it fits. -/
def ringRoom (i n : Nat) (s : State) : State × Bool :=
  let x := ringAt s i
  let cap := ringSize s i
  if n > cap then (s, false)
  else if ringUse x + n ≤ cap then (setRing i { x with fullEpisode := false } s, true)
  else if overwriting s i then
    let (y, m) := overwrite cap n (x.items.length + 1) x
    (bump32 24 i 0x11 m (setRing i y s), true)
  else (s, false)

/-! ### Journal entries -/

/-- A journal entry (R336). -/
def jentry (s : State) (code flags slice tier : Nat) (frc : Dword) (digest : Dword) (slot detail : Nat) : List Byte :=
  le 8 frc.toNat ++ le 2 code ++ le 1 flags ++ le 1 (slice % 16 + 16 * tier) ++ le 2 (identAt s false frc) ++
  le 2 (identAt s true frc) ++ le 8 digest.toNat ++ le 4 slot ++ le 4 (min detail 0xFFFFFFFF)

/-- A counters continuation (R337). -/
def countersCont (code : Nat) (e : List Byte) : List Byte :=
  le 5 (pktsOf e) ++ le 3 (deniesOf e) ++ le 2 code ++ le 1 (2 + 4) ++ le 1 0 ++ le 6 (bytesOf e) ++
  le 6 (firstTickOf e).toNat ++ le 6 (lastTickOf e).toNat ++ le 2 (scrOf e 0)

/-- A key continuation (R337). -/
def keyCont (code : Nat) (key : List Byte) (deadline last : Tick) : List Byte :=
  key.take 8 ++ le 2 code ++ le 1 (2 + 8) ++ le 1 0 ++ (key.drop 8).take 8 ++ le 6 deadline.toNat ++ le 6 last.toNat

/-- The entries in a journal FIFO. -/
def fifoUse (l : List (List Byte)) : Nat := l.foldl (fun a b => a + b.length / 32) 0

/-- Pass an item to the JNL unit through the FIFO of slice `n`, or of the time unit for 16 (R338). `kept` marks the codes
for which 64 entries are reserved. -/
def journal (n : Nat) (kept : Bool) (item : List Byte) (s : State) : State :=
  let l := tgetD (fun _ => []) s.jnl.fifo n
  if !ringOn s 0 then s
  else if fifoUse l + item.length / 32 ≤ (if kept then 512 else 448) then
    s.setJnl { s.jnl with fifo := tput s.jnl.fifo n (l ++ [item]) }
  else oweGap 0 (item.length / 32) s

/-- The next FIFO with an item, in rotating order behind the one served last (R338). -/
def nextFifo (s : State) : Option Nat :=
  ((List.range 17).map (fun i => (s.jnl.turn + 1 + i) % 17)).find? (fun n => tgetD (fun _ => []) s.jnl.fifo n != [])

/-- The entries that must fit before an item of `k` is accepted: behind a loss the gap entry and, under STOP, as many as the largest
item discarded (R333). -/
def gapRoom (s : State) (k : Nat) : Nat :=
  let x := ringAt s 0
  if x.owed = 0 then k else if overwriting s 0 then 1 + k else 1 + max x.owedSize k

/-- Write the item at the head of a journal FIFO, behind a JNL_GAP entry where items have been lost (R333). -/
def journalItem (n : Nat) (s : State) : State :=
  match tgetD (fun _ => []) s.jnl.fifo n with
  | [] => s
  | b :: rest =>
    let s0 := s.setJnl { s.jnl with fifo := if rest = [] then terase s.jnl.fifo n else tput s.jnl.fifo n rest, turn := n }
    let k := b.length / 32
    let owed := (ringAt s0 0).owed
    let (s1, ok) := ringRoom 0 (gapRoom s0 k) s0
    if !ok then ringLose 0 k s1
    else
      let s2 := if owed = 0 then s1
        else
          let s' := ringPut 0 1 (jentry s1 Ev.jnlGap 0 0 3 (nowFrc s1) 0 0 owed) s1
          setRing 0 { ringAt s' 0 with owed := 0, owedSize := 0 } s'
      fillCheck 0 (ringPut 0 k b s2)

/-- The JNL unit takes items in rotating order up to a block of two entries (R338). -/
def journalBlock (s : State) : State :=
  match nextFifo s with
  | none => s
  | some n =>
    let s1 := journalItem n s
    if (tgetD (fun _ => []) s.jnl.fifo n).headD [] |>.length |> (· ≥ 64) then s1
    else match nextFifo s1 with
      | none => s1
      | some m => if ((tgetD (fun _ => []) s1.jnl.fifo m).headD []).length ≥ 64 then s1 else journalItem m s1

/-- The first positions of the blocks written between two counts of a ring (R327). -/
def blocksBetween (i : Nat) (a b : Dword) : List Dword :=
  let w := if i = 0 then 2 else 1
  if a = b then []
  else
    let first := a.toNat / w
    (List.range ((b - 1#64).toNat / w + 1 - first)).map (fun j => BitVec.ofNat 64 (w * (first + j)))

/-- The writes of blocks draw on the shares of their channels, by `use` (R41). -/
def chargeBlocks (use : Nat → State → State) (i : Nat) (a b : Dword) (s : State) : State :=
  (blocksBetween i a b).foldl (fun s p => match blockChan s i p with
    | some c => if inService s 15 c then use c s else s
    | none => s) s

/-- JNL_BLOCK_WRITE: a block is written while the journal share of its channel lasts (R41, R338). -/
def jnlBlockWrite (s : State) : State :=
  let a := (ringAt s 0).write
  match blockChan s 0 a with
  | some c =>
    if !jnlRoom s c then s
    else
      let s1 := journalBlock s
      chargeBlocks useJnl 0 a (ringAt s1 0).write s1
  | none => journalBlock s

/-! ### Captures -/

/-- What is known of a packet when it is captured or sampled. -/
structure Seen where
  frame : List Byte
  /-- Ingress port; a generated frame has none. -/
  port : Option Nat
  /-- Port of the first copy, its transmit stamp and whether it was cut through; none for a discard. -/
  out : Option (Nat × Dword × Bool)
  inFrc : Dword
  /-- R341: 0 delivered, 1 merged drop, 2 DENY, 3 SILENT, 4 every copy abandoned, 5 other. -/
  outcome : Nat
  cls : Nat
  protection : Bool
  more : Bool
  parseFlag : Bool
  digest : Dword

/-- Does capture ring `r` take a packet: never one without an ingress port (R340)? -/
def captures (s : State) (r : Nat) (x : Seen) : Bool :=
  let c := (reg s 24 (1 + r) 0).toNat
  ringOn s (1 + r) && x.port.any (fun n => bitOf (reg s 24 (1 + r) (3 + n / 32)).toNat (n % 32)) && bitOf c (4 + x.cls) &&
  (!bitOf c 3 || x.protection) && (x.outcome == 0 || bitOf c 2)

/-- The capture record of a packet, before its sequence and gap flag are set (R341). -/
def captureRecord (s : State) (r : Nat) (x : Seen) : List Byte :=
  let snap := regField s 24 (1 + r) 0 23 16
  let cap := if snap = 0 then x.frame else x.frame.take (64 * snap)
  let body := padTo (64 * ((cap.length + 63) / 64)) cap
  let f := match x.out with | some (_, t, _) => t | none => x.inFrc
  let flags := x.cls + 8 * b2n x.protection + 16 * b2n (match x.out with | some (_, _, c) => c | none => false) +
    32 * b2n x.more + 128 * b2n x.parseFlag
  le 2 (1 + body.length / 64) ++ le 2 x.frame.length ++ le 2 cap.length ++ le 1 (x.port.getD 0) ++
  le 1 (match x.out with | some (n, _, _) => n | none => 0xFF) ++ le 8 x.inFrc.toNat ++
  le 8 (match x.out with | some (_, t, _) => t.toNat | none => 0) ++ le 2 (identAt s false f) ++ le 2 (identAt s true f) ++
  le 1 x.outcome ++ le 1 flags ++ le 2 0 ++ le 8 x.digest.toNat ++ le 8 0 ++ le 16 0 ++ body

/-- CAPTURE_TAKEN: stage a record on a die for every ring that takes the packet, or count it as skipped (R340, R342). -/
def capture (die : Nat) (x : Seen) (s : State) : State :=
  ((List.range 8).filter (fun r => captures s r x)).foldl (fun s r =>
    let ring := ringAt s (1 + r)
    let seq := ring.offered + 1
    let s1 := setRing (1 + r) { ring with offered := seq } s
    let rec' := splice (captureRecord s1 r x) 0x28 (le 8 seq.toNat)
    let st := tgetD (fun _ => []) s1.jnl.staging die
    if st.foldl (fun a e => a + e.2.length) 0 + rec'.length ≤ 4194304 then
      s1.setJnl { s1.jnl with staging := tput s1.jnl.staging die (st ++ [(r, rec')]) }
    else raiseLimited Ev.capSkipped r (fun n => le 1 r ++ le 4 n) (bump32 24 (1 + r) 0x12 1 s1)) s

/-- The oldest staged record of a die is written to its ring (R333, R334, R342). -/
def captureNext (die : Nat) (s : State) : State :=
  match tgetD (fun _ => []) s.jnl.staging die with
  | [] => s
  | (r, b) :: rest =>
    let s0 := s.setJnl { s.jnl with
      staging := if rest = [] then terase s.jnl.staging die else tput s.jnl.staging die rest }
    let i := 1 + r
    let k := b.length / 64
    if !ringOn s0 i then s0
    else
      let (s1, ok) := ringRoom i k s0
      if !ok then ringLose i k s1
      else
        let owed := (ringAt s1 i).owed
        let b' := if owed = 0 then b else splice b 0x1D (le 1 (rd b 0x1D 1 + 64))
        let s2 := ringPut i k b' s1
        fillCheck i (setRing i { ringAt s2 i with owed := 0, owedSize := 0 } s2)

/-- CAPTURE_WRITE: a staged record is written while every channel that it touches has room in its capture share (R41, R342). -/
def captureWrite (die : Nat) (s : State) : State :=
  match tgetD (fun _ => []) s.jnl.staging die with
  | [] => s
  | (r, b) :: _ =>
    let i := 1 + r
    let a := (ringAt s i).write
    if (List.range (min s.jnl.channels.length (b.length / 64))).any (fun j => match blockChan s i (a + BitVec.ofNat 64 j) with
        | some c => !capRoom s c
        | none => false) then s
    else
      let s1 := captureNext die s
      chargeBlocks useCap i a (ringAt s1 i).write s1

/-! ### Positions -/

/-- Is a position the start of an item, or the write count (R332)? -/
def onBoundary (x : Ring) (p : Dword) : Bool := p == x.write || x.items.any (fun e => e.1 == p)

/-- Advance the read count: items below it are no longer held. -/
def readTo (i : Nat) (p : Dword) (s : State) : State :=
  let x := ringAt s i
  setRing i { x with read := p, items := x.items.filter (fun e => decide (0 ≤ (e.1 - p).toInt)) } s

/-- A write of CONSUMED: the status that refuses it, or the new state (R332). -/
def consume (i : Nat) (p : Dword) (s : State) : Except Half State :=
  let x := ringAt s i
  if x.queue.isSome then .error St.eBusy
  else if (p - x.read).toNat > ringUse x then .error St.eRange
  else if i ≠ 0 ∧ !onBoundary x p then .error St.eArg
  else .ok (fillCheck i (readTo i p s))

/-- Empty a ring (R327): its counts return to 0. -/
def emptyRing (i : Nat) (s : State) : State :=
  let x := ringAt s i
  setRing i { queue := x.queue } s

/-- Do the regions that would result from a base and a size of ring `i`, or of the host window for `i` = 10, lie apart and
inside the channels (R327, R433, R500)? -/
def regionsFit (s : State) (i base size : Nat) : Bool :=
  let reg' := fun j => if j = i then (base, size) else (regField s 24 j 2 15 0, regField s 24 j 1 15 0)
  let mine := reg' i
  let turf := if s.jnl.turfs then [(0, regField s 13 16 0x14 4 0)] else []
  let win := if i = 10 then [] else [(regField s 19 256 0x11 15 0, regField s 19 256 0x11 31 16)]
  let others := turf ++ win ++ ((List.range 10).filter (· != i)).map reg'
  mine.2 = 0 || (others.all (fun o => o.2 = 0 || mine.1 + mine.2 ≤ o.1 || o.1 + o.2 ≤ mine.1) &&
    (!inPeat s || mine.1 + mine.2 ≤ s.jnl.gib))

/-! ### Samples -/

/-- One pipeline's sampler. -/
def smpAt (s : State) (p : Nat) : Sampler := tgetD (fun _ => {}) s.pmon.smp p
/-- Put one pipeline's sampler. -/
def setSmp (p : Nat) (x : Sampler) (s : State) : State := s.setPmon { s.pmon with smp := tput s.pmon.smp p x }

/-- Write a sample record behind its sequence; the ring keeps the last 4,096 (R527). -/
def writeSample (p : Nat) (body : List Byte) (s : State) : State :=
  let x := smpAt s p
  let rec' := le 8 (x.seq + 1).toNat ++ body
  let ring := x.ring ++ [rec']
  pipeEvent p 0x2150 1 (setSmp p { x with seq := x.seq + 1, write := x.write + 1, ring := ring.drop (ring.length - 4096) } s)

/-! ### The meanings -/

/-- JNL_BLOCK_WRITE. -/
def execJnlBlockWrite (s : State) : Host.Outcome State Fault Refusal := .next (jnlBlockWrite s)
/-- CAPTURE_WRITE. -/
def execCaptureWrite (d : Fin 2) (s : State) : Host.Outcome State Fault Refusal := .next (captureWrite d s)
/-- JNL_CONSUMED_WRITE: a host write of CONSUMED that reaches the ring; one that R332 refuses changes nothing. -/
def execJnlConsumedWrite (i : Fin 9) (p : Dword) (s : State) : Host.Outcome State Fault Refusal :=
  .next (match consume i p s with | .ok s' => s' | .error _ => s)
/-- JNL_REGION_WRITE: a base and a size of ring `i` come into force and empty it (R327); a region that R327 refuses
changes nothing. -/
def execJnlRegionWrite (i : Fin 10) (base size : Half) (s : State) : Host.Outcome State Fault Refusal :=
  .next (if regionsFit s i base.toNat size.toNat then
    emptyRing i (setReg 24 i 2 (BitVec.ofNat 32 base.toNat) (setReg 24 i 1 (BitVec.ofNat 32 size.toNat) s)) else s)

end Sys2Proof.Machine
end

