-- ==== Sys2Proof/Machine/Pair.lean ====
section
/-! DEFINITION. What the rest of the device does to the twin pair's state: deltas, follow lists, and the states of the pair
(R48, R541, R543, R546). -/

namespace Sys2Proof.Machine

/-! ### The half-links -/

/-- One half-link: 0 West, 1 East. -/
def halfAt (s : State) (h : Nat) : HalfLink := tgetD (fun _ => {}) s.twin.half h
/-- Put one half-link. -/
def setHalf (h : Nat) (x : HalfLink) (s : State) : State := s.setTwin { s.twin with half := tput s.twin.half h x }

/-- The bytes of a link frame (R535). -/
def linkBytes (kind : Nat) (seq ack : Half) (payload : List Byte) : List Byte :=
  let f := le 1 kind ++ le 1 0 ++ le 2 payload.length ++ le 2 seq.toNat ++ le 2 ack.toNat ++ payload
  f ++ le 4 (crc32 f).toNat

/-- Bytes of the replay buffer in use (R536). -/
def replayUse (x : HalfLink) : Nat := x.unacked.foldl (fun a f => a + f.payload.length + 12) 0

/-- Put a numbered frame on an UP half-link and keep it for resending (R536). -/
def linkFrame (kind : Nat) (payload : List Byte) (now : Tick) (x : HalfLink) : HalfLink :=
  { x with
    unacked := x.unacked ++ [{ kind := kind, seq := x.nextSeq, payload := payload, since := now }]
    sent := x.sent ++ [linkBytes kind x.nextSeq x.expect payload]
    nextSeq := x.nextSeq + 1 }

/-- Send the frames that wait, while the replay buffer has room (R536). -/
def linkPump (now : Tick) : Nat → HalfLink → HalfLink
  | 0, x => x
  | fuel + 1, x => match x.waiting with
    | [] => x
    | (k, p) :: rest =>
      if x.st = .up ∧ replayUse x + p.length + 12 ≤ 262144 then
        linkPump now fuel (linkFrame k p now { x with waiting := rest })
      else x

/-- Send an item on half-link `h`, behind those that wait. -/
def linkSend (h kind : Nat) (payload : List Byte) (s : State) : State :=
  let x := halfAt s h
  let y := { x with waiting := x.waiting ++ [(kind, payload)] }
  setHalf h (linkPump s.tick.count y.waiting.length y) s

/-- Send a CONTROL frame, which carries no sequence (R535). -/
def linkControl (h : Nat) (payload : List Byte) (s : State) : State :=
  let x := halfAt s h
  setHalf h { x with sent := x.sent ++ [linkBytes 7 0 x.expect payload] } s

/-- Is half-link `h` UP? -/
def halfUp (s : State) (h : Nat) : Bool := (halfAt s h).st == .up

/-- The half-link that carries the items of die `d`: its own when UP, else the other when UP (R537). -/
def linkOf (s : State) (d : Nat) : Option Nat :=
  if halfUp s d then some d else if halfUp s (1 - d) then some (1 - d) else none

/-- Send an item of die `d`; without an UP half-link it is lost with the pair. -/
def dieSend (d kind : Nat) (payload : List Byte) (s : State) : State :=
  match linkOf s d with | some h => linkSend h kind payload s | none => s

/-- Is the device paired as active (R545)? -/
def pairedActive (s : State) : Bool :=
  s.twin.role == 1 && (s.twin.pair == .rejoining || s.twin.pair == .inSync || s.twin.pair == .outOfSync)

/-- Send a CONTROL item of a type (4 program image, 5 templates, 6 pool) to the standby in pieces of 8,192 bytes, each
behind its type, its offset and the length of the whole (R545). -/
def twinControl (type : Nat) (b : List Byte) (s : State) : State :=
  match pairedActive s, linkOf s 0 with
  | true, some h => (List.range ((b.length + 8191) / 8192)).foldl (fun s i =>
      linkControl h (le 4 type ++ le 4 (8192 * i) ++ le 4 b.length ++ (b.drop (8192 * i)).take 8192) s) s
  | _, _ => s

/-! ### Deltas -/

/-- Does this device emit deltas (R543)? -/
def replicating (s : State) : Bool :=
  s.twin.role == 1 && (s.twin.pair == .rejoining || s.twin.pair == .inSync || s.twin.pair == .outOfSync)

/-- The lag buffer of a die. -/
def lagAt (s : State) (d : Nat) : List Delta := tgetD (fun _ => []) s.twin.lag d
/-- Put the lag buffer of a die. -/
def setLag (d : Nat) (x : List Delta) (s : State) : State := s.setTwin { s.twin with lag := tput s.twin.lag d x }

/-- The pair becomes REJOINING (R547): the walk waits for the standby to be ready. -/
def startRejoin (s : State) : State :=
  s.setTwin { s.twin with
    pair := .rejoining, walking := false, walk := [], buckets := 0, bulkSent := 0, endSeq := none
    ready := false }

/-- A lag buffer overflows (R48, R541). -/
def lagOverflow (d : Nat) (s : State) : State :=
  let s0 := bump32 23 0 0x12 1 s
  let s1 := if s.twin.pair = .outOfSync then s0 else raise Ev.twinOutOfSync (le 1 d) s0
  let s2 := s1.setTwin { s1.twin with pair := .outOfSync }
  if bitOf (reg s 23 0 0).toNat 1 then startRejoin s2 else s2

/-- Enter a delta into the lag buffer of its die: in place of one that waits for the same record (R48, R543). -/
def enterDelta (x : Delta) (s : State) : State :=
  let d := x.slice / 8
  let l := lagAt s d
  let same := fun (y : Delta) => y.slice == x.slice && y.digest == x.digest
  if l.any same then setLag d (l.map (fun y => if same y then x else y)) s
  else if l.length < 32768 then setLag d (l ++ [x]) s
  else lagOverflow d s

/-- The RECORD or WIDE items of a record, without a sequence (R543). -/
def recordItem (n : Nat) (e : List Byte) : List Byte :=
  let at' := fun o k => (e.drop o).take k
  if isWide e then
    le 1 3 ++ le 1 n ++ at' (ivOff e) 2 ++ le 4 0 ++ at' 0 40 ++
    le 1 4 ++ le 1 n ++ at' 40 2 ++ at' 42 4 ++ at' 46 2 ++ at' (ctlOff e) 4 ++ at' (actOff e) 28 ++ at' (firstOff e) 6
  else
    le 1 1 ++ le 1 n ++ at' (ivOff e) 2 ++ le 4 0 ++ at' 0 16 ++ at' (ctlOff e) 4 ++ at' (actOff e) 12 ++
    at' (firstOff e) 6 ++ at' (scrOff e 0) 2

/-- The DELETE item of a record (R543). -/
def deleteItem (n : Nat) (d : Dword) : List Byte := le 1 2 ++ le 1 n ++ le 2 0 ++ le 4 0 ++ le 8 d.toNat ++ le 32 0

/-- TWIN_DELTA_EMIT: what a commit of slice `n` sends, from the record before and after it (R543). -/
def emitDelta (n : Nat) (d : Dword) (old new : Option (List Byte)) (s : State) : State :=
  let was := match old with | some e => isReplicated e | none => false
  let is := match new with | some e => isReplicated e | none => false
  let changed := match old, new with
    | some a, some b => ctl a != ctl b || actOfRec a != actOfRec b || intervalOf a != intervalOf b
    | _, _ => true
  if !replicating s then s
  else if is then
    match new with
    | some e => if !was || changed then
        slEvent n 0x320E 1 (enterDelta { slice := n, digest := d, item := recordItem n e } s) else s
    | none => s
  else if was then slEvent n 0x320E 1 (enterDelta { slice := n, digest := d, item := deleteItem n d } s)
  else s

/-- List a changed replicated record for a FOLLOW item (R546). -/
def markFollow (n : Nat) (d : Dword) (old new : List Byte) (s : State) : State :=
  let l := tgetD (fun _ => []) s.twin.follow n
  let differs := pktsOf old != pktsOf new || bytesOf old != bytesOf new || deniesOf old != deniesOf new ||
    lastTickOf old != lastTickOf new || scrOf old 0 != scrOf new 0
  if s.twin.role != 1 || !(s.twin.pair == .inSync || s.twin.pair == .outOfSync) || !isReplicated new || !differs ||
      l.contains d then s
  else if l.length < 65536 then s.setTwin { s.twin with follow := tput s.twin.follow n (l ++ [d]) }
  else bump32 23 0 0x14 1 s

end Sys2Proof.Machine
end

