-- ==== Sys2Proof/Machine/Tiers.lean ====
section
/-! DEFINITION. The three tiers of a slice: the Hearth, the Stack tier and the turfs; where entries lie, how they are found, read,
written and removed (chapter 11). -/

namespace Sys2Proof.Machine

/-! ### Geometry -/

/-- Buckets of a slice (R277). -/
def stackBuckets (s : State) : Nat := 1048576 * regField s 13 16 0x14 4 0

/-- First candidate bucket of a digest (R278). -/
def bucket0 (nb : Nat) (d : Dword) : Nat := bitsOf d.toNat 63 32 * nb / 2 ^ 32

/-- Second candidate bucket of a digest (R278). -/
def bucket1 (nb : Nat) (d : Dword) : Nat :=
  let b0 := bucket0 nb d
  let b1 := 8 * (bitsOf d.toNat 47 16 * (nb / 8) / 2 ^ 32) + b0 % 8
  if b1 = b0 then Nat.xor b0 8 else b1

/-- The address of a Stack slot in its pseudo-channel (R277, R404). -/
def stackAddr (k : Nat) : Nat := k / 4 / 8 * 256 + 64 * (k % 4)

/-- The address of the summary of bucket `b` in its pseudo-channel (R277, R404). -/
def summaryAddr (s : State) (b : Nat) : Nat := regField s 13 16 0x14 4 0 * 2 ^ 25 + b / 8 * 16

/-- The address of a turf slot on its channel: the turf region starts at offset 0 (R282, R327). -/
def turfAddr (t : Nat) : Nat := t / 16 * 1024 + 64 * (t % 16)

/-- Is the pseudo-channel of bucket `b` of slice `n` in service (R277)? -/
def chanIn (s : State) (n b : Nat) : Bool := inService s 14 (8 * n + b % 8)

/-- Has slice `n` a turf region on a present channel (R282, R328)? -/
def hasTurfs (s : State) (n : Nat) : Bool := s.jnl.turfs && s.jnl.channels.contains n

/-- Has slice `n` a cold tier (R282)? -/
def coldTier (s : State) (n : Nat) : Bool := hasTurfs s n && inService s 15 n

/-- Fingerprint of a digest (R283). -/
def fingerprint (d : Dword) : Nat := bitsOf d.toNat 10 4

/-- Hearth set of a digest (R272). -/
def hearthSet (d : Dword) : Nat := bitsOf d.toNat 17 4

/-! ### In-flight entries -/

/-- The in-flight entry of a digest (R240). -/
def flightOf (x : Slice) (d : Dword) : Option Flight := x.flights.find? (fun f => f.digest == d)

/-- Does a digest hold an in-flight entry (R269)? -/
def busy (x : Slice) (d : Dword) : Bool := x.flights.any (fun f => f.digest == d)

/-! ### Stack slots -/

/-- Is slot `k` of the Stack taken? -/
def slotUsed (m : Table (List Byte)) (k : Nat) : Bool :=
  (tfind m k).isSome || (k % 2 == 1 && (match tfind m (k - 1) with | some e => isWide e | none => false))

/-- The first free place of `n` slots in bucket `b` (R280). -/
def freeSlot (m : Table (List Byte)) (b n : Nat) : Option Nat :=
  if n = 2 then ([0, 2].find? (fun i => !slotUsed m (4 * b + i) && !slotUsed m (4 * b + i + 1))).map (4 * b + ·)
  else ((List.range 4).find? (fun i => !slotUsed m (4 * b + i))).map (4 * b + ·)

/-- Slots occupied in a table of entries (R281). -/
def fillOf (m : Table (List Byte)) : Nat := m.foldl (fun a e => a + entrySlots e.2) 0

/-- The Stack fill limit (R281). -/
def fillLimit (s : State) : Nat := 9 * 4 * stackBuckets s / 10

/-- The slots of the two candidate buckets, in probe order (R279). -/
def candSlots (nb : Nat) (d : Dword) : List Nat :=
  (List.range 4).map (4 * bucket0 nb d + ·) ++ (List.range 4).map (4 * bucket1 nb d + ·)

/-- The Stack slot that a probe finds: by key, or by digest where the operation names one (R279, R544). -/
def stackFind (s : State) (x : Slice) (d : Dword) (key : Option (List Byte)) : Option Nat :=
  (candSlots (stackBuckets s) d).find? (fun k => match tfind x.stack k with
    | some e => (match key with
      | some q => keyOf e == plainKey q
      | none => digestOf s (keyOf e) == d)
    | none => false)

/-- The other bucket of an occupant of bucket `b`. -/
def otherOf (s : State) (e : List Byte) (b : Nat) : Nat :=
  let nb := stackBuckets s
  let d := digestOf s (keyOf e)
  if bucket0 nb d = b then bucket1 nb d else bucket0 nb d

/-- Move the entry of slot `k` to slot `j`; a Hearth way follows it (R273). -/
def moveSlot (k j : Nat) (x : Slice) : Slice :=
  match tfind x.stack k with
  | none => x
  | some e => { x with stack := terase (tput x.stack j e) k
                       hearth := x.hearth.map (fun w => (w.1, if w.2.slot = k then { w.2 with slot := j } else w.2)) }

/-- Would bucket `b` have room for `n` slots once slot `k` is vacated? -/
def roomWithout (m : Table (List Byte)) (b k n : Nat) : Bool := (freeSlot (terase m k) b n).isSome

/-- May the occupant of slot `k` of bucket `b` be moved so that `n` slots come free: it holds no in-flight entry and has
not been met before (R269)? -/
def movable (s : State) (x : Slice) (met : List Nat) (b n k : Nat) : Bool :=
  match tfind x.stack k with
  | some e => !met.contains k && !busy x (digestOf s (keyOf e)) && roomWithout x.stack b k n
  | none => false

/-- Follow the chain of R188 by reading alone: the slots vacated, each with the bucket its occupant goes to. -/
def stackChain (s : State) (x : Slice) : Nat → Nat → Nat → Nat → List (Nat × Nat) → Option (List (Nat × Nat))
  | 0, _, _, _, _ => none
  | fuel + 1, k, b, n, path =>
    match ((List.range 4).map (fun i => 4 * b + (k + i) % 4)).find? (movable s x (path.map (·.1)) b n) with
    | none => none
    | some q => match tfind x.stack q with
      | none => none
      | some e =>
        let o := otherOf s e b
        let path' := path ++ [(q, o)]
        if (freeSlot x.stack o (entrySlots e)).isSome then some path'
        else stackChain s x fuel (k + 1) o (entrySlots e) path'

/-- Commit a chain from its end (R188, R280). -/
def commitChain (x : Slice) (path : List (Nat × Nat)) : Option Slice :=
  path.reverse.foldl (fun x m => match x with
    | some x => match tfind x.stack m.1 with
      | some e => (freeSlot x.stack m.2 (entrySlots e)).map (fun j => moveSlot m.1 j x)
      | none => none
    | none => none) (some x)

/-- A place of `n` slots for a digest, after any relocation: the slice, the slot and the moves made (R280). -/
def placeFor (s : State) (x : Slice) (d : Dword) (n : Nat) : Option (Slice × Nat × Nat) :=
  let nb := stackBuckets s
  let b0 := bucket0 nb d
  let b1 := bucket1 nb d
  match freeSlot x.stack b0 n, freeSlot x.stack b1 n with
  | some k, _ => some (x, k, 0)
  | none, some k => some (x, k, 0)
  | none, none =>
    let one := [b0, b1].findSome? (fun b => ((List.range 4).map (4 * b + ·)).findSome? (fun k =>
      if !movable s x [] b n k then none
      else match tfind x.stack k with
        | none => none
        | some e => (freeSlot x.stack (otherOf s e b) (entrySlots e)).bind (fun j =>
            let y := moveSlot k j x
            (freeSlot y.stack b n).map (fun f => (y, f, 1)))))
    match one with
    | some r => some r
    | none => (stackChain s x 8 0 b0 n []).bind (fun path => (commitChain x path).bind (fun y =>
        (freeSlot y.stack b0 n).map (fun f => (y, f, path.length))))

/-! ### Fill -/

/-- Percent of the slots as a count. -/
def percentSlots (s : State) (p : Nat) : Nat := p * 4 * stackBuckets s / 100

/-- What a rise or fall of the Stack fill tells: STACK_AT_LIMIT and STACK_HIGH, and the start and stop of the demoter
(R281, R288, R289). -/
def fillEvents (n : Nat) (s : State) : State :=
  let x := slAt s n
  let f := fillOf x.stack
  let low := f ≤ percentSlots s (regField s 13 n 0xB 14 8)
  let limit := f ≥ fillLimit s
  let up := decide (f > percentSlots s (regField s 13 n 0xB 6 0)) && !x.high
  let startExp := regField s 13 n 0xC 13 8
  let age := match x.age with | none => startExp | some a => min startExp (a + 2)
  let y := { x with
    atLimit := limit || (x.atLimit && !low)
    high := up || (x.high && !low)
    age := if up && coldTier s n then some age else x.age
    walked := if up then 0 else x.walked }
  let s1 := setSl n y s
  let s2 := if limit && !x.atLimit then raise Ev.stackAtLimit (le 1 n ++ le 8 s.tick.count.toNat) s1 else s1
  if up then raise Ev.stackHigh (le 1 n ++ le 4 f ++ le 1 (b2n (coldTier s n))) s2 else s2

/-- The buckets of slice `n` that the bulk walk has passed: those below this one (R547). -/
def walkPos (s : State) (n : Nat) : Nat :=
  if s.twin.walking then
    match tfind (tgetD (fun _ => ({} : Walk2)) s.twin.walk (n / 8)).next n with
    | some b => b
    | none => stackBuckets s
  else 0

/-- A record of slice `n` moves from one bucket to another: a RECORD delta where the bulk walk would pass it by (R548). -/
def walkMove (n : Nat) (e : List Byte) (src dst : Nat) (s : State) : State :=
  if walkPos s n ≤ src ∧ dst < walkPos s n ∧ isReplicated e then
    enterDelta { slice := n, digest := digestOf s (keyOf e), item := recordItem n e } s
  else s

/-- The relocation moves between two contents of a Stack tier: the slot left, the slot taken, and the entry (R280). -/
def relocated (old new : Table (List Byte)) : List (Nat × Nat × List Byte) :=
  new.filterMap (fun e => if tfind old e.1 = some e.2 then none
    else (old.find? (fun o => o.2 == e.2)).map (fun o => (o.1, e.1, e.2)))

/-- The relocation moves of slice `n` as the bulk walk sees them (R280, R548). -/
def walkMoves (n : Nat) (moves : List (Nat × Nat × List Byte)) (s : State) : State :=
  if s.twin.walking then moves.foldl (fun s m => walkMove n m.2.2 (m.1 / 4) (m.2.1 / 4) s) s else s

/-- Would an insertion find room? -/
def stackRoom (s : State) (n : Nat) (d : Dword) (slots : Nat) : Bool :=
  fillOf (slAt s n).stack + slots ≤ fillLimit s && (placeFor s (slAt s n) d slots).isSome

/-! ### The Hearth -/

/-- The way of a digest: its index (R272). -/
def wayOf (x : Slice) (d : Dword) : Option Nat :=
  ((List.range 16).map (16 * hearthSet d + ·)).find? (fun k => match tfind x.hearth k with
    | some w => w.digest == d
    | none => false)

/-- The way that covers index `k`: of its own, or the wide record of the even way before it. -/
def wayAt (x : Slice) (k : Nat) : Option (Nat × Way) :=
  match tfind x.hearth k with
  | some w => some (k, w)
  | none => if k % 2 = 1 then (match tfind x.hearth (k - 1) with
      | some w => if isWide w.entry then some (k - 1, w) else none
      | none => none) else none

/-- Is a way evictable (R273)? -/
def evictable (s : State) (n : Nat) (x : Slice) (w : Way) : Bool :=
  !isPinned w.entry && !busy x w.digest && chanIn s n (w.slot / 4)

/-- May index `k` be taken: free, or its way evictable? -/
def takable (s : State) (n : Nat) (x : Slice) (k : Nat) : Bool :=
  match wayAt x k with | some (_, w) => evictable s n x w | none => true

/-- Order number of the latest use of index `k`; 0 for a free one. -/
def usedAt (x : Slice) (k : Nat) : Nat := match wayAt x k with | some (_, w) => w.used + 1 | none => 0

/-- The place that an entry of `size` ways takes in its set: free first, else the least recently used evictable way or
aligned pair (R272 to R274). -/
def wayFor (s : State) (n : Nat) (x : Slice) (d : Dword) (size : Nat) : Option Nat :=
  let base := 16 * hearthSet d
  let groups := if size = 2 then (List.range 8).map (fun i => base + 2 * i) else (List.range 16).map (base + ·)
  let age := fun k => if size = 2 then max (usedAt x k) (usedAt x (k + 1)) else usedAt x k
  let ok := groups.filter (fun k => takable s n x k && (size = 1 || takable s n x (k + 1)))
  ok.foldl (fun b k => match b with
    | none => some k
    | some j => if age k < age j then some k else some j) none

/-- Valid ways of a Hearth. -/
def waysUsed (x : Slice) : Nat := x.hearth.foldl (fun a w => a + entrySlots w.2.entry) 0
/-- Pinned ways of a Hearth. -/
def waysPinned (x : Slice) : Nat := x.hearth.foldl (fun a w => if isPinned w.2.entry then a + entrySlots w.2.entry else a) 0
/-- Pinned ways of a set. -/
def setPinned (x : Slice) (set : Nat) : Nat :=
  x.hearth.foldl (fun a w => if w.1 / 16 = set ∧ isPinned w.2.entry then a + entrySlots w.2.entry else a) 0

/-- Why a pin of `size` ways is refused, if it is: 0 the slice limit, 1 the set (R275).  `inHearth`: the entry has its
way already. -/
def pinRefusal (s : State) (n : Nat) (d : Dword) (size : Nat) (inHearth : Bool) : Option Nat :=
  let x := slAt s n
  if waysPinned x + size > regField s 13 n 6 17 0 then some 0
  else if setPinned x (hearthSet d) + size > 12 then some 1
  else if !inHearth && (wayFor s n x d size).isNone then some 1
  else none

/-! ### Cold summaries -/

/-- The summary of a bucket. -/
def sumAt (x : Slice) (b : Nat) : BitVec 128 := tgetD (fun _ => 0) x.sums b

/-- Is turf slot `i` of bucket `b` occupied by its summary? -/
def turfUsed (x : Slice) (b i : Nat) : Bool := (sumAt x b).getLsbD i

/-- Is the clear of a turf slot pending, the odd slot of a wide entry with its even one (R284)? -/
def clearing (x : Slice) (k : Nat) : Bool :=
  x.clears.any (fun c => c.1 == k ||
    (c.1 + 1 == k && (match tfind x.turf c.1 with | some e => isWide e | none => false)))

/-- Turf slots whose clear is pending (R284, R286). -/
def clearSlots (x : Slice) : Nat :=
  x.clears.foldl (fun a c => a + (match tfind x.turf c.1 with | some e => entrySlots e | none => 1)) 0

/-- Mark a turf slot, and the odd slot of a wide entry, in the summary (R283). -/
def sumSet (b i fp slots : Nat) (x : Slice) : Slice :=
  let v := (List.range slots).foldl (fun v j =>
    setBits (setBits v (i + j) (i + j) 1) (22 + 7 * (i + j)) (16 + 7 * (i + j)) fp) (sumAt x b).toNat
  { x with sums := tput x.sums b (BitVec.ofNat 128 v) }

/-- Clear a turf slot in the summary, and the odd slot of a wide entry. -/
def sumClear (b i slots : Nat) (x : Slice) : Slice :=
  let v := (List.range slots).foldl (fun v j => setBits v (i + j) (i + j) 0) (sumAt x b).toNat
  { x with sums := if v % 65536 = 0 then terase x.sums b else tput x.sums b (BitVec.ofNat 128 v) }

/-- The candidates of a digest in the turf of its bucket, in slot order (R284). -/
def turfCands (s : State) (x : Slice) (d : Dword) : List Nat :=
  let b := bucket0 (stackBuckets s) d
  let v := (sumAt x b).toNat
  ((List.range 16).filter (fun i =>
    bitOf v i && bitsOf v (22 + 7 * i) (16 + 7 * i) == fingerprint d && !clearing x (16 * b + i))).map (16 * b + ·)

/-- The turf slot among candidates that holds the key, or the digest. -/
def turfFind (s : State) (x : Slice) (d : Dword) (key : Option (List Byte)) : Option Nat :=
  (turfCands s x d).find? (fun k => match tfind x.turf k with
    | some e => (match key with | some q => keyOf e == plainKey q | none => digestOf s (keyOf e) == d)
    | none => false)

/-- A free turf slot for an entry of `slots` slots in bucket `b`, none pending clear (R284, R288). -/
def turfFree (x : Slice) (b slots : Nat) : Option Nat :=
  let free := fun i => !turfUsed x b i && !clearing x (16 * b + i)
  if slots = 2 then ((List.range 8).find? (fun i => free (2 * i) && free (2 * i + 1))).map (fun i => 16 * b + 2 * i)
  else ((List.range 16).find? free).map (16 * b + ·)

/-- Occupied turf slots of a slice. -/
def coldFill (x : Slice) : Nat := x.sums.foldl (fun a e => a + popcount 16 e.2.toNat) 0

/-! ### Reading and writing copies (R276, R293, R296) -/

/-- What upsets have done to a copy since it was written: none to one written anew. -/
def copyUpset (x : Slice) (tier idx : Nat) (e : List Byte) : ReadUpset :=
  match x.upsets.find? (fun u => u.tier == tier && u.idx == idx && u.was == e) with
  | some u => u.u
  | none => {}

/-- What a read meets: what the copy holds and what befalls the read itself. -/
def ReadUpset.with' (u v : ReadUpset) : ReadUpset := { ue := u.ue || v.ue, bytes := u.bytes ++ v.bytes }

/-- Does SECDED correct an upset of a way: at most one bit of each 64 (R276)? -/
def secdedOk (u : ReadUpset) (e : List Byte) : Bool :=
  let e' := u.bytes.foldl (fun e x => splice e x.1 [x.2]) e
  !u.ue && (List.range ((e.length + 7) / 8)).all (fun i =>
    decide (popcount 64 (Nat.xor (rd e (8 * i) 8) (rd e' (8 * i) 8)) ≤ 1))

/-- A copy as it is read, or none where it cannot be used: a Hearth way is corrected by SECDED, any copy must carry its tag
(R220, R276, R296). -/
def readCopy (x : Slice) (tier idx : Nat) (u : ReadUpset) (e : List Byte) : Option (List Byte) :=
  let v := (copyUpset x tier idx e).with' u
  if tier = 0 ∧ secdedOk v e then (if tagOk e then some e else none) else if tier = 0 then none else readEntry v e

/-- Does the next write of a place fail (R293)? -/
def writeFails (x : Slice) (tier idx : Nat) : Bool := x.failing.contains (tier, idx)

/-- The failing write of a place has been met. -/
def metFail (n tier idx : Nat) (s : State) : State :=
  modSl n (fun x => { x with failing := x.failing.filter (· != (tier, idx)) }) s

/-- MIGRATE_ABORT: a move of digest `d` is undone; kind 0 promotion, 1 demotion, 2 eviction, 3 relocation (R293, R299). -/
def migrateAbort (n kind : Nat) (d : Dword) (addr : Nat) (s : State) : State :=
  raiseLimited Ev.migrateAbort n (fun _ => le 1 n ++ le 1 kind ++ le 8 d.toNat ++ le 8 addr) (slCount n 0x59 1 s)

/-- Does the summary of a bucket hold an uncorrectable error (R296)? -/
def sumBad (x : Slice) (b : Nat) : Bool := x.badSums.contains b || (copyUpset x 3 b []).ue

/-! ### Finding an entry -/

/-- Where an entry stands: its tier (R271) and its index there (R336). -/
structure Place where
  tier : Nat
  idx : Nat
  deriving DecidableEq, Repr

/-- What a search of all tiers finds. -/
inductive Found where
  | hit (p : Place) (e : List Byte)
  /-- The copy found cannot be used (R220, R296). -/
  | bad (p : Place) (e : List Byte)
  | miss
  /-- The search needs memory that is away (R295): the class and instance of it. -/
  | away (cls inst : Nat)
  deriving DecidableEq, Repr

/-- The read of a copy as the end of a search. -/
def readFound (x : Slice) (p : Place) (e : List Byte) : Found :=
  match readCopy x p.tier p.idx {} e with
  | some e' => .hit p e'
  | none => .bad p e

/-- Does the Hearth hold the key or digest: the way (R207, R272)? -/
def hearthFind (x : Slice) (d : Dword) (key : Option (List Byte)) : Option (Nat × Way) :=
  match wayOf x d with
  | none => none
  | some k => match tfind x.hearth k with
    | none => none
    | some w => (match key with
      | some q => if keyOf w.entry == plainKey q then some (k, w) else none
      | none => some (k, w))

/-- The first candidate in slot order that ends a search of the turf: one that cannot be used, or the one that holds the key or
the digest (R284, R285, R296). -/
def turfEnd (s : State) (x : Slice) (d : Dword) (key : Option (List Byte)) : List Nat → Option (Nat × Found)
  | [] => none
  | k :: rest =>
    match (tfind x.turf k).map (readFound x ⟨2, k⟩) with
    | some (.hit p e) =>
      if (match key with | some q => keyOf e == plainKey q | none => digestOf s (keyOf e) == d) then some (k, .hit p e)
      else turfEnd s x d key rest
    | some f => some (k, f)
    | none => turfEnd s x d key rest

/-- Search the tiers in order (R268, R282, R285, R295). -/
def locate (s : State) (n : Nat) (d : Dword) (key : Option (List Byte)) : Found :=
  let x := slAt s n
  match hearthFind x d key with
  | some (k, w) => readFound x ⟨0, k⟩ w.entry
  | none =>
    let b := bucket0 (stackBuckets s) d
    if !chanIn s n b then .away 14 (8 * n + b % 8)
    else match stackFind s x d key with
      | some k => readFound x ⟨1, k⟩ ((tfind x.stack k).getD [])
      | none =>
        if !coldTier s n then .miss
        else if sumBad x b then .away 14 (8 * n + b % 8)
        else match turfEnd s x d key (turfCands s x d) with
          | some (_, f) => f
          | none => .miss

/-- The entry of the slice with a digest, whatever its key, among all tiers (R209). -/
def anyDigest (s : State) (n : Nat) (d : Dword) : Option (List Byte) :=
  match locate s n d none with
  | .hit _ e => some e
  | .bad _ e => some e
  | _ => none

/-! ### Committing and removing -/

/-- The way at an index is used: it becomes the most recent of its set (R272, R273). -/
def touchWay (n k : Nat) (s : State) : State :=
  let x := slAt s n
  match tfind x.hearth k with
  | some w => setSl n { x with hearth := tput x.hearth k { w with used := x.clock + 1 }, clock := x.clock + 1 } s
  | none => s

/-- Accesses of slice `n` to the pseudo-channel of bucket `b`: charged to packets, or background (R262, R294). -/
def useBucket (n b c : Nat) (packet : Bool) (s : State) : State :=
  if packet then slEvent n 0x3208 c (modSl n (fun x => { x with accesses := x.accesses + c }) (useRec n (b % 8) c s))
  else useBack n (b % 8) c s

/-- Write an entry to the place that holds it: the Hearth way becomes dirty and most recently used (R273, R274, R294). -/
def putAt (n : Nat) (p : Place) (packet : Bool) (e : List Byte) (s : State) : State :=
  let x := slAt s n
  match p.tier with
  | 0 => match tfind x.hearth p.idx with
    | some w => setSl n { x with hearth := tput x.hearth p.idx { w with entry := e, dirty := true, used := x.clock + 1 }
                                 clock := x.clock + 1 } s
    | none => s
  | 1 => useBucket n (p.idx / 4) (entrySlots e) packet (setSl n { x with stack := tput x.stack p.idx e } s)
  | _ => useTurf n (entrySlots e) (setSl n { x with turf := tput x.turf p.idx e } s)

/-- Free the wheel entry of a digest (R323). -/
def wheelDrop (n : Nat) (d : Dword) (s : State) : State :=
  let x := slAt s n
  let w := x.wheel.filter (fun e => e.digest != d)
  setSl n { x with wheel := w, wheelEpisode := x.wheelEpisode && w.length ≥ 57344 } s

/-- Invalidate every copy of an entry (R270): its way, its Stack slot and its turf slot, with the summary write of the last
(R294). -/
def dropEntry (n : Nat) (d : Dword) (e : List Byte) (s : State) : State :=
  let x := slAt s n
  let key := some (keyOf e)
  let x1 := match hearthFind x d key with
    | some (k, w) => { x with hearth := terase x.hearth k, stack := terase x.stack w.slot }
    | none => x
  let x2 := match stackFind s x1 d key with
    | some k => { x1 with stack := terase x1.stack k }
    | none => x1
  match turfFind s x2 d key with
  | some k =>
    fillEvents n (useBack n (k / 16 % 8) 1
      (setSl n (sumClear (k / 16) (k % 16) (entrySlots e) { x2 with turf := terase x2.turf k }) s))
  | none => fillEvents n (setSl n x2 s)

/-! ### Unavailable memory -/

/-- TIER_UNAVAILABLE (R295, R299). -/
def tierAway (n cls inst : Nat) (s : State) : State :=
  raiseLimited Ev.tierUnavailable n (fun k => le 1 n ++ le 1 cls ++ le 2 inst ++ le 4 k) (slCount n 0x58 1 s)

/-! ### The accesses of a background lookup (R294) -/

/-- What a search has cost: HBM accesses and turf reads, of which the second number were of another key (R279, R284, R285, R294).
Accesses to a summary count twice for a wide key alone. -/
def lookupCost (s : State) (n : Nat) (d : Dword) (key : Option (List Byte)) (r : Found) : Nat × Nat × Nat :=
  let x := slAt s n
  let sum := match key with | some k => (if keyType k = 0x11 then 2 else 1) | none => 1
  let reads := fun (k : Nat) => ((turfCands s x d).findIdx (· == k))
  match r with
  | .hit p e | .bad p e =>
    (match p.tier with
     | 0 => (0, 0, 0)
     | 1 => (entrySlots e, 0, 0)
     | _ => (1 + sum, reads p.idx + entrySlots e, reads p.idx))
  | .miss => if coldTier s n then (1 + sum, (turfCands s x d).length, (turfCands s x d).length) else (1, 0, 0)
  | .away _ _ => if chanIn s n (bucket0 (stackBuckets s) d) then (1 + sum, 0, 0) else (0, 0, 0)

/-- A background lookup makes its accesses, counts candidates of another key, uses the way it hits and counts memory that is away;
an unreadable summary awaits its rebuilding (R272, R285, R294 to R296). -/
def lookupWork (n : Nat) (d : Dword) (key : Option (List Byte)) (r : Found) (s : State) : State :=
  let b := bucket0 (stackBuckets s) d
  let (hbm, turf, wrong) := lookupCost s n d key r
  let s1 := if hbm = 0 then s else useBack n (b % 8) hbm s
  let s2 := if turf = 0 then s1 else useTurf n turf s1
  let s3 := if wrong = 0 then s2 else slCount n 0x54 wrong s2
  match r with
  | .hit ⟨0, k⟩ _ => touchWay n k s3
  | .away c i =>
    tierAway n c i (if hbm = 0 then s3 else modSl n (fun x => { x with
      badSums := if x.badSums.contains b then x.badSums else x.badSums ++ [b]
      upsets := x.upsets.filter (fun u => !(u.tier == 3 && u.idx == b)) }) s3)
  | _ => s3

/-! ### Background accesses in turn (R262) -/

/-- Is the demoter of a slice running (R282, R288, R423)? -/
def demoting (s : State) (n : Nat) : Bool :=
  let x := slAt s n
  x.high && coldTier s n && bitOf (reg s 13 n 0xB).toNat 23 && !x.demoteStop

/-- Has a requester of background accesses work: 0 creations, 1 promotions, 2 the demoter? -/
def backWork (s : State) (n i : Nat) : Bool :=
  let x := slAt s n
  match i with
  | 0 => x.createQ != [] && x.createLeft != 0
  | 1 => x.holdQ != [] && x.promoteLeft != 0
  | _ => demoting s n && x.demoteAt != some s.tick.count

/-- May requester `i` begin an action: what the packets leave has room, and where it is short of one action for every requester, those
with work are served in rotating order (R262; log 58). -/
def backAllows (s : State) (n i : Nat) : Bool :=
  let room := backRoom s n
  let ahead := [0, 1, 2].any (fun j =>
    j != i && backWork s n j && decide ((j + 3 - (slAt s n).memTurn) % 3 < (i + 3 - (slAt s n).memTurn) % 3))
  decide (room ≥ 3 * backAction) || (decide (room > 0) && !ahead)

/-- Requester `i` has been served. -/
def backServed (n i : Nat) (s : State) : State := modSl n (fun x => { x with memTurn := (i + 1) % 3 }) s

end Sys2Proof.Machine
end

