-- ==== Sys2Proof/Machine/Modes.lean ====
section
/-! DEFINITION. The mode commands, units leaving and rejoining, the calibration record and firmware staging:
chapter 03, R487 and R497. -/

namespace Sys2Proof.Machine

/-! ### Mode commands -/

/-- The highest instance of a class (R574). -/
def classLast : Nat → Nat
  | 2 => 130 | 4 => 159 | 5 => 129 | 6 => 15 | 7 => 3 | 8 => 3 | 9 => 3 | 10 => 64 | 11 => 3 | 12 => 3
  | 13 => 16 | 14 => 128 | 15 => 16 | 16 => 1 | 17 => 129 | 18 => 1023 | 19 => 256 | 20 => 31 | 21 => 1
  | 22 => 33 | 23 => 2 | 24 => 9 | _ => 0

/-- A unit that can be taken out by UNIT_OUT (R71): the classes, and the instance of each that stands for its
unit.  HQ, QP, DX, PMON, JNL and MC are one unit each, instance 0; SC has one unit for each of 32 cores. -/
def mayLeave (s : State) (u : UnitId) : Bool :=
  let safety := (reg s 14 u.inst 0).getLsbD 0
  (u.cls == 14 && u.inst < 128 && !safety) || (u.cls == 15 && u.inst < 16) || (u.cls == 10 && u.inst < 64) ||
  (u.cls == 21 && u.inst < 32) || (u.cls == 6 && u.inst < 16) || (u.cls == 7 && u.inst < 4) ||
  ((u.cls == 24 || u.cls == 18 || u.cls == 20 || u.cls == 22 || u.cls == 19 || u.cls == 26) && u.inst == 0)

/-- The dispatcher of a die, which only a tick overrun takes out of service (R52, R514): instances 32 and 33 of SC. -/
def isDispatcher (u : UnitId) : Bool := u.cls == 21 && (u.inst == 32 || u.inst == 33)

/-- One pipeline's record. -/
def pipeAt (s : State) (p : Nat) : Pipe := tgetD (fun _ => {}) s.path.pipe p

/-- Put one pipeline's record. -/
def setPipe (p : Nat) (x : Pipe) (s : State) : State :=
  s.setPath { s.path with pipe := tput s.path.pipe p x }

/-- The active graph bank of a pipeline. -/
def activeGraph (x : Pipe) : ImageBank := if x.graphActive then x.graph1 else x.graph0

/-- The active profile bank of a pipeline. -/
def activeProf (x : Pipe) : ImageBank := if x.profActive then x.prof1 else x.prof0

/-- Does a pipeline hold a valid graph and profile image (R61, R152)? -/
def pipeReady (x : Pipe) : Bool := (activeGraph x).valid && (activeProf x).valid

/-- Is a long operation of the 0x03xx group outstanding (R61)? -/
def rulesBusy (s : State) : Bool :=
  s.toune.handles.any (fun e => e.2.st == .running && e.2.opcode / 256 == 3)

/-- Units named by the causes of SAFE that are not yet READY or in service (R60). -/
def causingUnitsBusy (s : State) : Bool :=
  (s.zal.units ++ s.zal.rebuilding).any (fun u => unitState s u == .out || unitState s u == .rejoin)

/-- Why MODE_SET SERVICE is refused, if it is (R60, R61, R568): 1 a pipeline in service without images, 2 an
outstanding operation of the 0x03xx group, 3 a unit that caused SAFE has not reached READY, 4 a mechanism that
SAFETY_SELFTEST found not detecting. -/
def serviceBlock (s : State) : Option Nat :=
  if (List.range 4).any (fun p => inService s 7 p && !pipeReady (pipeAt s p)) then some 1
  else if rulesBusy s then some 2
  else if causingUnitsBusy s then some 3
  else if s.zal.selftest ≠ 0 then some 4
  else none

/-- Enter a mode transition for the boundary that R35 assigns, with the response that it completes, in its place among the
changes of that boundary (R34). -/
def requestMode (m : Mode) (op : Nat) (r : Req) (s : State) : State × Reply :=
  (defer { due := dueTick s r.cycle, change := .modeChange } (s.setSys { s.sys with
      pendingMode := some { target := m, due := dueTick s r.cycle, resp := some (respOf op r 0 []) } }),
   { waits := true })

/-- MODE_QUERY (R59): the mode, the pending transition with its boundary, and the units out of service. -/
def bodyModeQuery (r : Req) (s : State) : State × Reply :=
  if r.payload ≠ [] then (s, .no St.eArg) else
  let pend := match s.sys.pendingMode with
    | some q => le 1 1 ++ le 1 q.target.code ++ le 8 q.due.toNat
    | none => le 10 0
  let units := unitsOut s
  (s, .yes (le 1 s.sys.mode.code ++ pend ++ le 2 units.length ++
    ((units.take 500).map (fun e => le 1 (e.1 / 1024) ++ le 2 (e.1 % 1024) ++ le 1 e.2.st.code)).flatten))

/-- The part of MODE_SET that needs no twin (R60, R61, R62).  The argument is a mode code and three reserved
bytes. -/
def modeSetLocal (r : Req) (s : State) : State × Reply :=
  let m := rd r.payload 0 1
  if r.payload.length ≠ 4 ∨ !zeros r.payload 1 3 then (s, .no St.eArg)
  else if m ≠ 2 ∧ m ≠ 3 ∧ m ≠ 7 then (s, .no St.eArg)
  else if s.sys.pendingMode.isSome ∨ s.sys.testClear.isSome ∨ s.sys.holdResp.isSome then (s, .no St.eBusy)
  else match s.sys.mode, m with
    | .kindling, 2 =>
      if s.sys.kindling.hold then
        let s1 := defer { due := dueTick s r.cycle, change := .holdRelease } s
        (s1.setSys { s1.sys with holdResp := some (respOf Op.modeSet r 0 []) }, { waits := true })
      else (s, .no St.eMode)
    | .configure, 3 =>
      match serviceBlock s with
      | some why => (s, { status := St.eArg, payload := le 1 why })
      | none => requestMode .service Op.modeSet r s
    | .configure, 7 => requestMode .test Op.modeSet r s
    | .test, 2 =>
      accepted Op.modeSet r true (fun h s => s.setSys { s.sys with testClear := some h }) s
    | .service, 2 => requestMode .configure Op.modeSet r s
    | .degraded, 2 => requestMode .configure Op.modeSet r s
    | .standby, 2 => requestMode .configure Op.modeSet r s
    | _, _ => (s, .no St.eMode)

/-- The first cause that blocks RESUME, if any (R567): a recorded cause that is latched or whose condition persists, or
one that leads to SAFE and has not been cleared; or SAFE_REQ_N low. -/
def resumeBlock (s : State) : Option Nat :=
  match (List.range 24).find? (fun c =>
      (causeSet s c && s.zal.cond.getLsbD c) ||
      ((causeSet s c || s.zal.selftest.getLsbD c) && (causeSafe c).isSome)) with
  | some c => some c
  | none => if s.zal.reqLevel then none else some 0x0E

/-- RESUME (R60, R567). -/
def bodyResume (r : Req) (s : State) : State × Reply :=
  if r.payload ≠ [] then (s, .no St.eArg)
  else if s.sys.mode ≠ .safe then (s, .no St.eMode)
  else if s.sys.pendingMode.isSome then (s, .no St.eBusy)
  else match resumeBlock s with
    | some c => (s, { status := St.eFault, payload := le 1 c })
    | none => requestMode .configure Op.resume r s

/-- SAFE_ENTER (R59, R60): cause HOST is recorded, in the tick before the boundary that R35 assigns. -/
def bodySafeEnter (r : Req) (s : State) : State × Reply :=
  if r.payload ≠ [] then (s, .no St.eArg)
  else match s.sys.mode with
    | .configure | .service | .degraded | .standby | .test =>
      let due := dueTick s r.cycle
      let s1 := if due = s.tick.count + 1 then recordFault 0x0F 0xFF 0 0 s
                else defer { due := s.tick.count + 1, change := .hostSafe } s
      (defer { due := due, change := .notify, resp := some (respOf Op.safeEnter r 0 []) } s1, { waits := true })
    | _ => (s, .no St.eMode)

/-- The unit that an argument of class (1), reserved (1), instance (2) names. -/
def argUnit (p : List Byte) : UnitId := ⟨rd p 0 1, rd p 2 2⟩

/-- UNIT_OUT (R59, R71): the unit leaves at step 6 of the boundary that R35 assigns. -/
def bodyUnitOut (r : Req) (s : State) : State × Reply :=
  let u := argUnit r.payload
  if r.payload.length ≠ 4 ∨ !zeros r.payload 1 1 ∨ !mayLeave s u then (s, .no St.eArg)
  else if isAbsent s u.cls u.inst then (s, .no St.eFault)
  else if unitState s u ≠ .inService then (s, .no St.eBusy)
  else (defer { due := dueTick s r.cycle, change := .unitOut u 1, resp := some (respOf Op.unitOut r 0 []) } s,
        { waits := true })

/-- UNIT_REJOIN (R59, R71): the rebuild starts at the boundary that R35 assigns. -/
def bodyUnitRejoin (r : Req) (s : State) : State × Reply :=
  let u := argUnit r.payload
  if r.payload.length ≠ 4 ∨ !zeros r.payload 1 1 ∨ !(mayLeave s u || isDispatcher u) then (s, .no St.eArg)
  else if isAbsent s u.cls u.inst then (s, .no St.eFault)
  else if unitState s u ≠ .out then (s, .no St.eBusy)
  else (defer { due := dueTick s r.cycle, change := .unitRejoin u, resp := some (respOf Op.unitRejoin r 0 []) } s,
        { waits := true })

/-! ### Large arguments -/

/-- The bytes that an argument descriptor of R487 names, copied at acceptance; or the status that refuses it. -/
def descBytes (r : Req) (off : Nat) (s : State) : Except Half (List Byte) :=
  let d := (r.payload.drop off).take 16
  let src := rd d 0 1
  let len := rd d 4 4
  let at' := rd d 8 8
  if src > 1 ∨ rd d 1 1 ≠ 0 then .error St.eArg
  else if src = 1 then
    if (sessionAt s (sessionIdx r.session)).version ≠ 3 then .error St.eNotsup
    else match regionUsable s (rd d 2 2) at' len false, r.hostData with
      | some _, some b => if b.length = len then .ok b else .error St.eFault
      | _, _ => .error St.eFault
  else if at' + len > 65536 then .error St.eRange
  else
    let st := (sessionAt s (sessionIdx r.session)).staging
    .ok ((List.range len).map (fun i => tgetD (fun _ => 0) st (at' + i)))

/-! ### The calibration record -/

/-- Size of the calibration record (R73). -/
def calSize : Nat := 4864

/-- Does an offset of the record hold reserved bytes: past the origin, past the oscillator rate, past the seeds, or the last
two of a lane entry (R73, R74)? -/
def calReserved (i : Nat) : Bool :=
  decide ((0x1C ≤ i ∧ i < 0x40) ∨ (0xAB8 ≤ i ∧ i < 0xAC0) ∨ (0x12C0 ≤ i ∧ i < 0x12FC) ∨
    (0x40 ≤ i ∧ i < 0xA40 ∧ 14 ≤ i % 16))

/-- A byte of the built-in defaults: 4.0 and 4.2 ns for the delays of the time-stamp inputs, in units of 2^-16 ns, lane
entries that are valid with a CTLE setting in its range, and an oscillator rate of 40 bits (R67, R73, R74, R601). -/
def builtinByte (i : Nat) : Byte :=
  if 0xA70 ≤ i ∧ i < 0xAB0 then byteAt (le 4 262144 ++ le 4 275251) (i % 8)
  else if 0xAB5 ≤ i ∧ i < 0xAB8 then 0
  else if 0x40 ≤ i ∧ i < 0xA40 ∧ i % 16 = 13 then 1
  else if 0x40 ≤ i ∧ i < 0xA40 ∧ i % 16 = 5 then Config.builtinCal i &&& 31
  else Config.builtinCal i

/-- A byte of the working copy: zero where the record has reserved bytes, built-in where nothing has been written (R73 to
R75). -/
def calByte (s : State) (i : Nat) : Byte := if calReserved i then 0 else tgetD builtinByte s.cal.work i

/-- `n` bytes of the working copy from an offset. -/
def calBytes (s : State) (off n : Nat) : List Byte := (List.range n).map (fun i => calByte s (off + i))

/-- The bytes of a flash copy of the record. -/
def copyBytes (m : Table Byte) : List Byte := (List.range calSize).map (tgetD (fun _ => 0xFF) m)

/-- Is a record valid on this device: magic, length, serial and CRC (R75)? -/
def calValid (b : List Byte) : Bool :=
  rd b 0 4 == 0x5358434C && rd b 8 4 == calSize && rd b 0x10 8 == Config.serial.toNat &&
  rd b 0x12FC 4 == (crc32c (b.take 0x12FC)).toNat && b.length == calSize

/-- Write bytes into a table of bytes. -/
def putBytes : Table Byte → Nat → List Byte → Table Byte
  | m, _, [] => m
  | m, a, b :: bs => putBytes (tput m a b) (a + 1) bs

/-- Offset and size of the sections of the record, from lane defaults (R73). -/
def calSections : List (Nat × Nat) :=
  [(0x40, 2560), (0xA40, 48), (0xA70, 64), (0xAB0, 8), (0xAC0, 1024), (0xEC0, 1024)]

/-- Take the masked sections of a record into the working copy. -/
def takeSections (mask : Nat) (b : List Byte) (m : Table Byte) : Table Byte :=
  (List.range 6).foldl (fun m i =>
    if bitOf mask i then
      let e := calSections.getD i (0, 0)
      putBytes m e.1 ((b.drop e.1).take e.2)
    else m) m

/-- Set the two origin bits of the masked sections (R73). -/
def setOrigin (mask code : Nat) (o : Word) : Word :=
  (List.range 6).foldl (fun o i =>
    if bitOf mask i then (o &&& ~~~(3#32 <<< (2 * i))) ||| (BitVec.ofNat 32 code <<< (2 * i)) else o) o

/-- The complete record as a store writes it (R73, R76). -/
def calRecord (s : State) (seq origin : Word) : List Byte :=
  let body := le 4 0x5358434C ++ le 2 1 ++ le 2 0 ++ le 4 calSize ++ le 4 seq.toNat ++
    le 8 Config.serial.toNat ++ le 4 origin.toNat ++ le 36 0 ++ calBytes s 0x40 (0x12C0 - 0x40) ++ le 60 0
  body ++ le 4 (crc32c body).toNat

/-- CAL_READ (R497): 4,000 bytes of the working copy, which is a complete record with the sequence and the origin of its
latest store, from a 4-byte offset. -/
def bodyCalRead (r : Req) (s : State) : State × Reply :=
  let off := rd r.payload 0 4
  if r.payload.length ≠ 4 then (s, .no St.eArg)
  else if off + 4000 > calSize then (s, .no St.eRange)
  else (s, .yes (((calRecord s s.cal.sequence s.cal.origin).drop off).take 4000))

/-- The delays of TSI0 to TSI7 as the working copy has them (R73). -/
def tsiSection (s : State) : List Byte := calBytes s 0xA70 64

/-- New TSI delays of the working copy take effect at the next tick boundary; until then those of `was` apply (R77). -/
def tsiLater (was : List Byte) (s : State) : State :=
  defer { due := s.tick.count + 1, change := .tsiDelays } (s.setCal { s.cal with tsi := some (s.cal.tsi.getD was) })

/-- Is a calibration or staging operation in the way? -/
def calBusy (s : State) : Bool := s.cal.op.isSome

/-- CAL_WRITE (R76, R497): the masked sections enter the working copy, and a complete record is stored. -/
def bodyCalWrite (r : Req) (s : State) : State × Reply :=
  let mask := rd r.payload 0 4
  if s.sys.mode ≠ .kindling ∧ s.sys.mode ≠ .configure ∧ s.sys.mode ≠ .test then (s, .no St.eMode)
  else if r.payload.length ≠ 20 ∨ mask ≥ 64 ∨ mask = 0 then (s, .no St.eArg)
  else match descBytes r 4 s with
    | .error e => (s, .no e)
    | .ok b =>
      if b.length ≠ calSize ∨ rd b 0 4 ≠ 0x5358434C ∨ rd b 4 2 ≠ 1 ∨ rd b 8 4 ≠ calSize then (s, .no St.eArg)
      else if rd b 0x12FC 4 ≠ (crc32c (b.take 0x12FC)).toNat then (s, .no St.eIntegrity)
      else if calBusy s then (s, .no St.eBusy)
      else accepted Op.calWrite r true (fun h s =>
        let s1 := s.setCal { s.cal with
          work := takeSections mask b s.cal.work
          origin := setOrigin mask 1 s.cal.origin
          storing := true
          op := some { handle := h, opcode := Op.calWrite, procedure := 0, dryRun := false, sections := mask,
                       storing := true } }
        if bitOf mask 2 then tsiLater (tsiSection s) s1 else s1) s

/-- The section that a procedure of R77 regenerates, as a mask; MEM_SEEDS regenerates both seed sections. -/
def procSections : Nat → Nat
  | 1 => 1 | 2 => 2 | 3 => 4 | 4 => 8 | 5 => 48 | _ => 0

/-- CAL_RUN (R77, R497): procedure (1), flags with [0] dry-run (1), 2 reserved bytes, the 16-byte mask, and what
the procedure needs. -/
def bodyCalRun (r : Req) (s : State) : State × Reply :=
  let proc := rd r.payload 0 1
  if r.payload.length < 20 ∨ rd r.payload 1 1 > 1 ∨ !zeros r.payload 2 2 ∨ proc = 0 ∨ proc > 5 then (s, .no St.eArg)
  else if s.sys.mode ≠ .test ∧ !(proc = 4 ∧ s.sys.mode = .configure) then (s, .no St.eMode)
  else if calBusy s then (s, .no St.eBusy)
  else accepted Op.calRun r true (fun h s =>
    s.setCal { s.cal with
      op := some { handle := h, opcode := Op.calRun, procedure := proc, dryRun := rd r.payload 1 1 = 1,
                   sections := procSections proc, named := leNat ((r.payload.drop 4).take 16), storing := false } }) s

/-- Does a measurement regenerate the byte at an offset of the record: LANE_EQ the entries of the lanes its mask names, TSI_DELAY
the delays of the inputs it names, and every other procedure its sections whole (R77)? -/
def calRegenerates (o : CalOp) (i : Nat) : Bool :=
  match o.procedure with
  | 1 => decide (0x40 ≤ i ∧ i < 0xA40) && bitOf o.named ((i - 0x40) / 16)
  | 3 => decide (0xA70 ≤ i ∧ i < 0xAB0) && bitOf o.named ((i - 0xA70) / 8)
  | _ => (List.range 6).any (fun k => bitOf o.sections k &&
      (let e := calSections.getD k (0, 0); decide (e.1 ≤ i ∧ i < e.1 + e.2)))

/-- Write those bytes of a measurement that its procedure regenerates. -/
def putMeasured (o : CalOp) : Table Byte → Nat → List Byte → Table Byte
  | m, _, [] => m
  | m, a, b :: bs => putMeasured o (if calRegenerates o a then tput m a b else m) (a + 1) bs

/-- CAL_RUN_DONE: the measurement ends with the bytes of its sections, in the place the record gives them.  Those that it
regenerates enter the working copy and a store begins; a dry run returns them (R76, R77).  A cancel ends it with E_CANCELLED
(R492). -/
def calRunDone (values : List Byte) (s : State) : State :=
  match s.cal.op with
  | some o =>
    if o.storing ∨ o.opcode ≠ Op.calRun then s
    else if cancelled s o.handle then endOp o.handle St.eCancelled [] (s.setCal { s.cal with op := none })
    else if o.dryRun then
      endOp o.handle St.ok values (s.setCal { s.cal with op := none })
    else
      let first := (List.range 6).find? (bitOf o.sections)
      let at' := (calSections.getD (first.getD 0) (0, 0)).1
      let s1 := s.setCal { s.cal with
        work := putMeasured o s.cal.work at' values
        origin := setOrigin o.sections 2 s.cal.origin
        storing := true
        op := some { o with storing := true } }
      if o.procedure = 3 then tsiLater (tsiSection s) s1 else s1
  | none => s

/-- The copy that a store writes, the one that is not current: true for copy 1 (R76). -/
def storeCopy (s : State) : Bool := s.cal.valid && !s.cal.copy

/-- The sequence of the next store (R73). -/
def nextSequence (s : State) : Word := if s.cal.valid then s.cal.sequence + 1 else 1

/-- The flash with one calibration copy replaced. -/
def putCopy (f : Flash) (one : Bool) (m : Table Byte) : Flash := if one then { f with cal1 := m } else { f with cal0 := m }

/-- The flash as a store leaves it when the power goes before its stages have ended: the copy that is written is incomplete, or
it is complete and the other copy still stands, or that one has been erased; which of them is open (R76). -/
def tornStore (how : Nat) (s : State) : Flash :=
  let f := s.flash
  let c := storeCopy s
  let done := putCopy f c (putBytes [] 0 (calRecord s (nextSequence s) s.cal.origin))
  match how with
  | 0 => putCopy f c []
  | 1 => done
  | _ => putCopy done (!c) []

/-- CAL_STORED: the store ends (R76).  Without an intact read-back it erases nothing and completes with
E_INTEGRITY. -/
def calStored (intact : Bool) (s : State) : State :=
  match s.cal.op with
  | some o =>
    if !o.storing then s
    else if !intact then
      endOp o.handle St.eIntegrity []
        (s.setCal { s.cal with op := none, storing := false })
    else
      let seq := nextSequence s
      let copy1 := storeCopy s
      let s1 := s.setFlash (tornStore 2 s)
      let s2 := s1.setCal { s1.cal with op := none, storing := false, valid := true, copy := copy1, sequence := seq }
      endOp o.handle St.ok (le 4 seq.toNat) (raise Ev.calStored (le 4 o.sections ++ le 4 seq.toNat) s2)
  | none => s

/-! ### Firmware staging -/

/-- An entry of a directory as bytes (R63). -/
def FlashEntry.bytes (e : FlashEntry) : List Byte :=
  le 1 e.kind ++ [e.flags] ++ le 2 0 ++ le 4 e.offset.toNat ++ le 4 e.length.toNat ++ le 4 e.crc.toNat

/-- The bytes that the CRC of a directory covers: 0x00 to 0x1B and all entries (R63). -/
def FlashDir.body (d : FlashDir) : List Byte :=
  le 4 d.magic.toNat ++ le 2 d.version.toNat ++ le 2 d.entries.length ++ le 4 d.sequence.toNat ++ le 16 0 ++
    d.entries.flatMap FlashEntry.bytes

/-- The directory with the CRC of its bytes. -/
def FlashDir.seal (d : FlashDir) : FlashDir := { d with crc := crc32c d.body }

/-- Is a directory usable: its magic and version, 1 to 30 entries, and its CRC (R63, R503)? -/
def FlashDir.usable (d : FlashDir) : Bool :=
  d.magic == 0x53584644 && d.version == 1 && decide (1 ≤ d.entries.length ∧ d.entries.length ≤ 30) && d.crc == crc32c d.body

/-- The entry of a type. -/
def FlashDir.entry (d : FlashDir) (kind : Nat) : Option FlashEntry := d.entries.find? (fun e => e.kind == kind)

/-- Is slot B the active firmware slot: bit 0 of its flags (R63)? -/
def FlashDir.activeB (d : FlashDir) : Bool := match d.entry 2 with | some e => e.flags.getLsbD 0 | none => false

/-- The directory copy in use (R63): the usable one, and of two the one with the higher sequence. -/
def flashDir (f : Flash) : Option FlashDir :=
  match f.dir0.filter FlashDir.usable, f.dir1.filter FlashDir.usable with
  | some a, some b => if a.sequence.toNat < b.sequence.toNat then some b else some a
  | some a, none => some a
  | none, some b => some b
  | none, none => none

/-- The entry of a type in the directory in use. -/
def flashEntry (f : Flash) (kind : Nat) : Option FlashEntry := (flashDir f).bind (·.entry kind)

/-- A byte of a slot; erased flash reads 0xFF. -/
def slotBytes (x : FwSlot) : List Byte := (List.range x.length.toNat).map (tgetD (fun _ => 0xFF) x.data)

/-- Do a slot's contents match its CRC (R63)? -/
def slotValid (x : Option FwSlot) : Bool :=
  match x with
  | some x => x.length.toNat ≤ 48 * 1024 * 1024 && (crc32c (slotBytes x)).toNat == x.crc.toNat
  | none => false

/-- The active slot by the directory: true for B. -/
def activeSlot (s : State) : Bool := match flashDir s.flash with | some d => d.activeB | none => false

/-- The slot that staging writes: the inactive one (R69, R497). -/
def stagingSlot (s : State) : Option FwSlot := if activeSlot s then s.flash.slotA else s.flash.slotB

/-- Put the slot that staging writes. -/
def setStagingSlot (x : FwSlot) (s : State) : State :=
  s.setFlash (if activeSlot s then { s.flash with slotA := some x } else { s.flash with slotB := some x })

/-- FW_STAGE (R497): step (1) and 3 reserved bytes; BEGIN with length (4) and CRC (4); DATA with offset (4) and a
descriptor (16); COMMIT. -/
def bodyFwStage (r : Req) (s : State) : State × Reply :=
  let p := r.payload
  if !zeros p 1 3 ∨ p.length < 4 then (s, .no St.eArg)
  else match rd p 0 1 with
    | 0 =>
      if p.length ≠ 12 then (s, .no St.eArg)
      else if rd p 4 4 > 48 * 1024 * 1024 then (s, .no St.eRange)
      else if s.sys.fwCommit.isSome then (s, .no St.eBusy)
      else
        let s1 := setStagingSlot { length := BitVec.ofNat 32 (rd p 4 4), crc := BitVec.ofNat 32 (rd p 8 4), data := [] } s
        (s1.setSys { s1.sys with staging := true }, .yes [])
    | 1 =>
      if p.length ≠ 24 then (s, .no St.eArg)
      else if s.sys.fwCommit.isSome then (s, .no St.eBusy)
      else if !s.sys.staging then (s, .no St.eArg)
      else match descBytes r 8 s, stagingSlot s with
        | .error e, _ => (s, .no e)
        | .ok _, none => (s, .no St.eArg)
        | .ok b, some x =>
          if rd p 4 4 + b.length > x.length.toNat then (s, .no St.eArg)
          else (setStagingSlot { x with data := putBytes x.data (rd p 4 4) b } s, .yes [])
    | 2 =>
      if p.length ≠ 4 then (s, .no St.eArg)
      else if s.sys.fwCommit.isSome then (s, .no St.eBusy)
      else if !s.sys.staging then (s, .no St.eArg)
      else accepted Op.fwStage r true (fun h s => s.setSys { s.sys with fwCommit := some h }) s
    | _ => (s, .no St.eArg)

/-- The entries of a flash that has no usable directory: the model's own offsets, each 4 KiB aligned (DESIGN CHOICE, log 59). -/
def freshEntries : List FlashEntry :=
  [{ kind := 1, flags := 1, offset := 0x00020000 }, { kind := 2, offset := 0x03020000 }, { kind := 3, offset := 0x06020000 },
   { kind := 4, offset := 0x06030000, length := 4864 }, { kind := 5, offset := 0x06032000, length := 4864 }]

/-- An entry as a COMMIT rewrites it: the staged slot is active with its length and CRC, the other is not (R63, R497). -/
def stagedEntry (b : Bool) (x : FwSlot) (e : FlashEntry) : FlashEntry :=
  if e.kind = (if b then 2 else 1) then { e with flags := 1, length := x.length, crc := x.crc }
  else if e.kind = 1 ∨ e.kind = 2 then { e with flags := 0 }
  else e

/-- The directory that a COMMIT writes (R63, R497). -/
def stagedDir (f : Flash) (b : Bool) (x : FwSlot) (seq : Word) : FlashDir :=
  let old := match flashDir f with | some d => d.entries | none => freshEntries
  let k := if b then 2 else 1
  let all := if old.any (fun e => e.kind == k) then old else (freshEntries.filter (fun e => e.kind == k) ++ old).take 30
  FlashDir.seal { sequence := seq, entries := all.map (stagedEntry b x) }

/-- FW_STAGED: a COMMIT ends (R497): with a good CRC the directory is rewritten with the staged slot active,
otherwise it is left unchanged. -/
def fwStaged (s : State) : State :=
  match s.sys.fwCommit, stagingSlot s with
  | some h, some x =>
    let s0 := s.setSys { s.sys with fwCommit := none, staging := false }
    if slotValid (some x) then
      let seq := match flashDir s.flash with | some d => d.sequence + 1 | none => 1
      let b := !activeSlot s
      let d := stagedDir s.flash b x seq
      let s1 := s0.setFlash { s0.flash with dir0 := some d, dir1 := some d }
      endOp h St.ok (le 4 seq.toNat)
        (raise Ev.fwStaged (le 1 (b2n b) ++ le 4 x.length.toNat ++ le 4 x.crc.toNat ++ le 4 seq.toNat) s1)
    else endOp h St.eIntegrity [] s0
  | _, _ => s

/-- FW_QUERY (R497): for slots A and B the version, the length and the CRC, then the active slot. -/
def bodyFwQuery (r : Req) (s : State) : State × Reply :=
  if r.payload ≠ [] then (s, .no St.eArg) else
  let one : Option FwSlot → List Byte := fun x => match x with
    | some x => le 4 (Config.fwVersion x.crc).toNat ++ le 4 x.length.toNat ++ le 4 x.crc.toNat
    | none => le 12 0
  (s, .yes (one s.flash.slotA ++ one s.flash.slotB ++ le 1 (b2n (activeSlot s))))

/-! ### The meanings -/

/-- MODE_QUERY. -/
def execModeQuery (r : Req) (s : State) : Host.Outcome State Fault Refusal :=
  .next (runToune Op.modeQuery bodyModeQuery r s)
/-- RESUME. -/
def execResume (r : Req) (s : State) : Host.Outcome State Fault Refusal :=
  .next (runToune Op.resume bodyResume r s)
/-- SAFE_ENTER. -/
def execSafeEnter (r : Req) (s : State) : Host.Outcome State Fault Refusal :=
  .next (runToune Op.safeEnter bodySafeEnter r s)
/-- UNIT_OUT. -/
def execUnitOut (r : Req) (s : State) : Host.Outcome State Fault Refusal :=
  .next (runToune Op.unitOut bodyUnitOut r s)
/-- UNIT_REJOIN. -/
def execUnitRejoin (r : Req) (s : State) : Host.Outcome State Fault Refusal :=
  .next (runToune Op.unitRejoin bodyUnitRejoin r s)
/-- CAL_READ. -/
def execCalRead (r : Req) (s : State) : Host.Outcome State Fault Refusal :=
  .next (runToune Op.calRead bodyCalRead r s)
/-- CAL_WRITE. -/
def execCalWrite (r : Req) (s : State) : Host.Outcome State Fault Refusal :=
  .next (runToune Op.calWrite bodyCalWrite r s)
/-- CAL_RUN. -/
def execCalRun (r : Req) (s : State) : Host.Outcome State Fault Refusal :=
  .next (runToune Op.calRun bodyCalRun r s)
/-- CAL_RUN_DONE. -/
def execCalRunDone (values : List Byte) (s : State) : Host.Outcome State Fault Refusal :=
  .next (calRunDone values s)
/-- CAL_STORED. -/
def execCalStored (intact : Bool) (s : State) : Host.Outcome State Fault Refusal :=
  .next (calStored intact s)
/-- FW_STAGE. -/
def execFwStage (r : Req) (s : State) : Host.Outcome State Fault Refusal :=
  .next (runToune Op.fwStage bodyFwStage r s)
/-- FW_STAGED. -/
def execFwStaged (s : State) : Host.Outcome State Fault Refusal := .next (fwStaged s)
/-- FW_QUERY. -/
def execFwQuery (r : Req) (s : State) : Host.Outcome State Fault Refusal :=
  .next (runToune Op.fwQuery bodyFwQuery r s)

end Sys2Proof.Machine
end

