-- ==== Sys2Proof/Machine/Translate.lean ====
section
/-! DEFINITION. Translation pools: their definitions, the partitions of the slices, allocation and release of pairs (R300 to
R308). -/

namespace Sys2Proof.Machine

/-- A defined pool: its definition, where it is valid (R300). -/
def poolDef (s : State) (k : Nat) : Option (List Byte) :=
  match tfind s.flow.pools k with
  | some d => if bitOf (rd d 3 1) 0 then some d else none
  | none => none

/-- Kind of a pool: 0 ALLOCATE, 1 DNAT_FIXED, 2 DNAT_MEMBER (R300). -/
def poolKind (d : List Byte) : Nat := rd d 2 1
/-- First address. -/
def poolAddr (d : List Byte) : Nat := rdBe d 4 4
/-- First port. -/
def poolPort (d : List Byte) : Nat := rd d 0x0C 2
/-- Ports of an address (R301). -/
def poolPorts (d : List Byte) : Nat := rd d 0x0E 2 + 1 - rd d 0x0C 2
/-- Pairs of an ALLOCATE pool (R301). -/
def poolPairs (d : List Byte) : Nat := (rdBe d 8 4 + 1 - poolAddr d) * poolPorts d
/-- Positions of the partition of slice `n` (R301). -/
def partSize (d : List Byte) (n : Nat) : Nat := (poolPairs d + 15 - n) / 16
/-- Bytes of the bitmap of the largest partition, with its summary words (R302). -/
def poolBitmap (d : List Byte) : Nat :=
  if poolKind d = 0 then
    let w := (partSize d 0 + 511) / 512
    64 * (w + (w + 511) / 512)
  else 0

/-- The partition of pool `k` in slice `n`. -/
def partAt (s : State) (n k : Nat) : Part := tgetD (fun _ => {}) (slAt s n).parts k
/-- Put a partition. -/
def setPart (n k : Nat) (p : Part) (s : State) : State :=
  modSl n (fun x => { x with parts := tput x.parts k p }) s

/-- A partition as POOL_DEFINE leaves it: every pair free, the first words prefetched. -/
def freshPart (size : Nat) : Part :=
  { cur := if size = 0 then none else some 0, nxt := if size > 512 then some 1 else none }

/-! ### Allocation -/

/-- The lowest free position of word `w` at or after the cursor. -/
def freeIn (size : Nat) (p : Part) (w : Nat) : Option Nat :=
  let lo := max (512 * w) p.cursor
  ((List.range (min (512 * (w + 1)) size - lo)).map (lo + ·)).find? (fun j => !p.taken.contains j)

/-- Does word `w` hold a free position? -/
def wordFree (size : Nat) (p : Part) (w : Nat) : Bool := (freeIn size { p with cursor := 0 } w).isSome

/-- What an allocation answers. -/
inductive Alloc where
  | got (pos : Nat)
  /-- A fetch runs (R302, step 3). -/
  | wait
  | empty
  deriving DecidableEq, Repr

/-- Take position `j`; the cursor moves past it. -/
def takePos (j : Nat) (p : Part) : Part := { p with taken := j :: p.taken, cursor := j + 1 }

/-- One allocation from a partition (R302). -/
def allocStep (size : Nat) (p : Part) : Part × Alloc :=
  if p.taken.length ≥ size then (p, .empty)
  else match p.cur.bind (freeIn size p) with
    | some j => (takePos j p, .got j)
    | none => match p.nxt with
      | none => ({ p with fetching := true }, .wait)
      | some w =>
        let q := { p with cur := some w, cursor := 512 * w, nxt := none, fetching := true }
        match freeIn size q w with
        | some j => (takePos j q, .got j)
        | none => (q, .wait)

/-- The end of a fetch: the next word with a free position behind the current one, wrapping (R302). -/
def fetchDone (size : Nat) (p : Part) : Part :=
  let words := (size + 511) / 512
  let from' := match p.cur with | some w => w + 1 | none => 0
  { p with nxt := ((List.range words).map (fun i => (from' + i) % words)).find? (wordFree size p), fetching := false }

/-- Allocate a pair of pool `k` in slice `n`, counted in TRANS_ALLOC (R302). -/
def allocPair (n k : Nat) (d : List Byte) (s : State) : State × Alloc :=
  let (p, a) := allocStep (partSize d n) (partAt s n k)
  let s1 := setPart n k p s
  (match a with | .got _ => slCount n 0x5A 1 s1 | _ => s1, a)

/-- Allocate a pair for a host item: a fetch that runs completes within the item (R302, R307). -/
def allocPairNow (n k : Nat) (d : List Byte) (s : State) : State × Option Nat :=
  match allocPair n k d s with
  | (s1, .got j) => (s1, some j)
  | (s1, .empty) => (s1, none)
  | (s1, .wait) =>
    match allocPair n k d (setPart n k (fetchDone (partSize d n) (partAt s1 n k)) s1) with
    | (s2, .got j) => (s2, some j)
    | (s2, _) => (s2, none)

/-- Address and port of position `j` of slice `n` (R301). -/
def pairAt (d : List Byte) (n j : Nat) : Nat × Nat :=
  let i := 16 * j + n
  (poolAddr d + i / poolPorts d, poolPort d + i % poolPorts d)

/-- The slice and position of the pair that a record holds; none for a record that holds none (R301). -/
def pairOf (s : State) (e : List Byte) : Option (Nat × Nat) :=
  if isPtr e || !(actKind e == 2 || actKind e == 4) then none
  else match poolDef s (poolOf e) with
    | none => none
    | some d =>
      let a := transAddr e
      let q := transPort e
      if poolKind d = 0 ∧ poolAddr d ≤ a ∧ a ≤ rdBe d 8 4 ∧ poolPort d ≤ q ∧ q ≤ rd d 0x0E 2 then
        let i := (a - poolAddr d) * poolPorts d + (q - poolPort d)
        some (i % 16, i / 16)
      else none

/-- Does the bitmap word of position `j` lie on die: the current or the next word of its partition (R302)? -/
def wordOnDie (p : Part) (j : Nat) : Bool := p.cur == some (j / 512) || p.nxt == some (j / 512)

/-- The pseudo-channel of a slice that holds the bitmap of pool `k` (R404; DESIGN CHOICE, log 58). -/
def poolChan (k : Nat) : Nat := k % 8

/-- Release the pair that a record of slice `n` holds: off die, its word is read, changed and written (R302, R303). -/
def releasePair (n : Nat) (e : List Byte) (s : State) : State :=
  match pairOf s e with
  | none => s
  | some (m, j) =>
    let p := partAt s n (poolOf e)
    if m = n ∧ p.taken.contains j then
      let s1 := slCount n 0x5B 1 (setPart n (poolOf e) { p with taken := p.taken.filter (· != j) } s)
      if wordOnDie p j then s1 else useSvc n (poolChan (poolOf e)) 3 s1
    else s

/-- Mark the pair that a replicated record holds as allocated (R307, R544). -/
def markPair (n : Nat) (e : List Byte) (s : State) : State :=
  match pairOf s e with
  | none => s
  | some (m, j) =>
    let p := partAt s n (poolOf e)
    if m = n ∧ !p.taken.contains j then slCount n 0x5A 1 (setPart n (poolOf e) { p with taken := j :: p.taken } s) else s

/-- Count the pair of a record that is lost without its action area (R303). -/
def leakPair (n : Nat) (e : List Byte) (s : State) : State :=
  if (pairOf s e).isSome then slCount n 0x5D 1 s else s

/-! ### The translation of a creation -/

/-- The translation of a new record: none needed or an address and port; a wait; or none to be had. -/
inductive Trans where
  | ok (addr port : Nat)
  | wait
  | none
  deriving DecidableEq, Repr

/-- The destination port of a key of type 0x01. -/
def keyDport (key : List Byte) : Nat := rdBe key 0x0D 2

/-- The DNAT destination from a pool (R305). -/
def dnatOf (d key : List Byte) (member : Word) : Option (Nat × Nat) :=
  let port := if bitOf (rd d 3 1) 2 then keyDport key else poolPort d
  match poolKind d with
  | 1 => some (poolAddr d, port)
  | 2 =>
    let m := member.toNat % 131072
    let base := rd d 0x14 4
    if bitOf member.toNat 31 ∧ base ≤ m ∧ poolAddr d + (m - base) ≤ rdBe d 8 4 then some (poolAddr d + (m - base), port)
    else none
  | _ => none

/-- The translation of a record to be made by slice `n` with an action kind and a pool (R302, R304, R305). -/
def translate (n kind pool : Nat) (key : List Byte) (member : Word) (s : State) : State × Trans :=
  match poolDef s pool with
  | none => (s, .none)
  | some d =>
    if kind = 3 then
      match dnatOf d key member with
      | some (a, q) => (s, .ok a q)
      | none => (s, .none)
    else if poolKind d ≠ 0 then (s, .none)
    else match allocPair n pool d s with
      | (s1, .got j) => (s1, .ok (pairAt d n j).1 (pairAt d n j).2)
      | (s1, .wait) => (s1, .wait)
      | (s1, .empty) => (s1, .none)

/-- A creation without a translation: counted, and POOL_EMPTY (R304). -/
def noPair (n pool : Nat) (s : State) : State :=
  raiseLimited Ev.poolEmpty (16 * pool + n) (fun k => le 2 pool ++ le 1 n ++ le 4 k) (slCount n 0x5C 1 s)

/-- The action area of a record with a translation and a member (R213, R310). -/
def actBytes (kind addr port pool : Nat) (member : Word) (key : List Byte) (tos : Nat) : List Byte :=
  if kind = 0 then []
  else if kind = 1 then le 8 0 ++ le 4 member.toNat
  else be 4 addr ++ be 2 port ++ le 2 pool ++ le 4 member.toNat ++
    (if kind = 4 then (key.drop 0x1F).take 4 ++ le 1 tos else [])

/-! ### The commands -/

/-- The authoritative copies of a slice's entries: its ways, the Stack slots under none, and the turf slots not pending clear (R268). -/
def entriesOf (x : Slice) : List (List Byte) :=
  x.hearth.map (·.2.entry) ++
  (x.stack.filter (fun e => !x.hearth.any (fun w => w.2.slot == e.1))).map (·.2) ++
  (x.turf.filter (fun e => !x.clears.any (fun c => c.1 == e.1))).map (·.2)

/-- Does a record name pool `k` (R308)?  Every allocated pair but a leaked one is held by a record, which names its pool, and a leaked
pair is recovered by the pool's deletion (R303). -/
def poolNamed (s : State) (k : Nat) : Bool :=
  s.flow.slice.any (fun x => (entriesOf x.2).any (fun e => !isPtr e && actKind e ≥ 2 && poolOf e == k))

/-- Put or remove the definition of pool `k`: every partition starts anew (R300, R303). -/
def applyPool (k : Nat) (defn : Option (List Byte)) (s : State) : State :=
  let s1 := s.setFlow { s.flow with
    pools := match defn with | some d => tput s.flow.pools k d | none => terase s.flow.pools k }
  let s2 := (List.range 16).foldl (fun s n => modSl n (fun x => { x with
    parts := match defn with
      | some d => if poolKind d = 0 then tput x.parts k (freshPart (partSize d n)) else terase x.parts k
      | none => terase x.parts k }) s) s1
  raise Ev.poolChanged (le 2 k ++ le 1 (b2n defn.isSome) ++ le 8 s.tick.count.toNat) s2

/-- Is a field of a definition outside the table of R300? -/
def poolBad (d : List Byte) : Bool :=
  d.length != 32 || rd d 0 2 > 4095 || poolKind d > 2 || rd d 3 1 > 7 || rdBe d 8 4 < poolAddr d || poolPort d == 0 ||
  rd d 0x0E 2 < poolPort d || !zeros d 0x12 2 || rd d 0x14 4 > 131071 || !zeros d 0x18 8

/-- Bytes of translation region in use by the pools other than `k`. -/
def bitmapsBut (s : State) (k : Nat) : Nat :=
  s.flow.pools.foldl (fun a p => if p.1 = k then a else a + poolBitmap p.2) 0

/-- POOL_DEFINE (R300, R308). -/
def bodyPoolDefine (r : Req) (s : State) : State × Reply :=
  let d := r.payload
  let k := rd d 0 2
  if poolBad d then (s, .no St.eArg)
  else if poolKind d = 0 ∧ poolPairs d > 2 ^ 32 then (s, .no St.eRange)
  else if bitmapsBut s k + poolBitmap d > 16777216 * regField s 13 16 0x18 3 0 then (s, .no St.eNospace)
  else if poolNamed s k then (s, .no St.eBusy)
  else (twinControl 6 (le 2 k ++ d) (applyPool k (some d) s), .yes [])

/-- POOL_DELETE (R300, R308). -/
def bodyPoolDelete (r : Req) (s : State) : State × Reply :=
  let k := rd r.payload 0 2
  if r.payload.length ≠ 2 ∨ k > 4095 then (s, .no St.eArg)
  else if poolNamed s k then (s, .no St.eBusy)
  else if (tfind s.flow.pools k).isNone then (s, .yes [])
  else (twinControl 6 (le 2 k) (applyPool k none s), .yes [])

/-- POOL_READ (R300). -/
def bodyPoolRead (r : Req) (s : State) : State × Reply :=
  let k := rd r.payload 0 2
  if r.payload.length ≠ 2 ∨ k > 4095 then (s, .no St.eArg)
  else
    let d := (tfind s.flow.pools k).getD (List.replicate 32 0)
    (s, .yes (d ++ ((List.range 16).map (fun n =>
      let t := (partAt s n k).taken.length
      le 4 t ++ le 4 (if poolKind d = 0 ∧ (tfind s.flow.pools k).isSome then partSize d n - t else 0))).flatten))

/-! ### The meanings -/

/-- POOL_DEFINE. -/
def execPoolDefine (r : Req) (s : State) : Host.Outcome State Fault Refusal := .next (runToune Op.poolDefine bodyPoolDefine r s)
/-- POOL_DELETE. -/
def execPoolDelete (r : Req) (s : State) : Host.Outcome State Fault Refusal := .next (runToune Op.poolDelete bodyPoolDelete r s)
/-- POOL_READ. -/
def execPoolRead (r : Req) (s : State) : Host.Outcome State Fault Refusal := .next (runToune Op.poolRead bodyPoolRead r s)

/-- TRANS_FETCH_DONE: the fetch of the next bitmap word of pool `k` in slice `n` completes, within the service share (R40, R302). -/
def execTransFetchDone (n : Fin 16) (k : Fin 4096) (s : State) : Host.Outcome State Fault Refusal :=
  .next (match poolDef s k with
    | some d =>
      if (partAt s n k).fetching && svcRoom s n (poolChan k) then
        useSvc n (poolChan k) 4 (setPart n k (fetchDone (partSize d n) (partAt s n k)) s)
      else s
    | none => s)

end Sys2Proof.Machine
end

