-- ==== Sys2Proof/Machine/Commit.lean ====
section
/-! DEFINITION. What operations of a slice share: in-flight entries, results, the timer wheel, binding, and the removal of
records (R216, R220, R240, R253, R254, R319, R322). -/

namespace Sys2Proof.Machine

/-! ### Operations and in-flight entries -/

/-- The packet request of an operation, if it is one of a packet. -/
def FlowOp.req (op : FlowOp) : Option FlowReq :=
  match op.kind with
  | .packet q => some q
  | .forward q => some q
  | _ => none

/-- Is an operation one of a packet (R238)? -/
def FlowOp.isPacket (op : FlowOp) : Bool := op.req.isSome

/-- Was an operation forwarded by a reverse pointer: direction REV (R221)? -/
def FlowOp.rev (op : FlowOp) : Bool := match op.kind with | .forward _ => true | _ => false

/-- Put an in-flight entry. -/
def putFlight (n : Nat) (f : Flight) (s : State) : State :=
  modSl n (fun x => { x with
    flights := if busy x f.digest then x.flights.map (fun g => if g.digest == f.digest then f else g)
               else x.flights ++ [f] }) s

/-- Release an in-flight entry (R240). -/
def delFlight (n : Nat) (d : Dword) (s : State) : State :=
  modSl n (fun x => { x with flights := x.flights.filter (fun g => g.digest != d) }) s

/-- The in-flight entry of a digest. -/
def flightAt (s : State) (n : Nat) (d : Dword) : Option Flight := flightOf (slAt s n) d

/-- Put the phase of an in-flight entry. -/
def setPhase (n : Nat) (d : Dword) (ph : Phase) (s : State) : State :=
  match flightAt s n d with
  | some f => putFlight n { f with phase := ph } s
  | none => s

/-- The operation in hand leaves the slice (R240). -/
def dropHead (n : Nat) (d : Dword) (s : State) : State :=
  match flightAt s n d with
  | some f => putFlight n { f with ops := f.ops.drop 1 } s
  | none => s

/-- Wait-pool entries in use (R240). -/
def waiters (x : Slice) : Nat := x.flights.foldl (fun a f => a + (f.ops.length - 1)) 0

/-- Is a digest parked by a punt (R251)? -/
def parked (s : State) (n : Nat) (d : Dword) : Bool :=
  match flightAt s n d with | some f => f.phase == .punted | none => false

/-- The ends of episodes that the leaving of operations brings (R48, R244, R251). -/
def episodes (n : Nat) (s : State) : State :=
  modSl n (fun x => { x with
    fullEpisode := x.fullEpisode && (x.flights.length ≥ 7168 || waiters x ≥ 1792)
    holdEpisode := x.holdEpisode && x.holdQ.length ≥ 4096
    puntEpisode := x.puntEpisode && x.punts.length ≥ 448 }) s

/-- Return the result of a packet operation to its pipeline (R226, R239). -/
def opResult (n : Nat) (op : FlowOp) (r : FlowResult) (s : State) : State :=
  match op.req with
  | some q =>
    let k := 16 * q.pipe + n
    s.setFlow { s.flow with
      results := tput s.flow.results k (tgetD (fun _ => []) s.flow.results k ++
        [{ r with pkt := q.pkt, digest := op.digest, viaPtr := op.rev }]) }
  | none => s

/-- Return a bare verdict (R249, R252). -/
def answer (n : Nat) (op : FlowOp) (verdict : Nat) (s : State) : State := opResult n op { pkt := 0, verdict := verdict } s

/-- Every packet operation of a punted or expired entry gets one verdict and leaves; the entry is released (R50, R252). -/
def answerAll (n : Nat) (d : Dword) (verdict : Nat) (s : State) : State :=
  match flightAt s n d with
  | some f => episodes n (delFlight n d (f.ops.foldl (fun s op => answer n op verdict s) s))
  | none => s

/-- Take a punt out of the table (R252). -/
def dropPunt (n : Nat) (d : Dword) (s : State) : State :=
  episodes n (modSl n (fun x => { x with punts := x.punts.filter (fun p => p.digest != d) }) s)

/-- Resolve a punt by a verdict (R252). -/
def resolvePunt (n : Nat) (d : Dword) (verdict : Nat) (s : State) : State := answerAll n d verdict (dropPunt n d s)

/-- Resolve every punt of every slice with DENY: entry into CONFIGURE or SAFE (R252). -/
def denyPunts (s : State) : State :=
  (List.range 16).foldl (fun s n => (slAt s n).punts.foldl (fun s p => resolvePunt n p.digest 1 s) s) s

/-! ### The timer wheel -/

/-- The wheel entry of a digest (R319). -/
def wheelOf (x : Slice) (d : Dword) : Option WheelEntry := x.wheel.find? (fun w => w.digest == d)

/-- STREAM_RESUMED: a rearm finds its entry FIRED (R322). -/
def resumed (n : Nat) (d : Dword) (p : Place) (deadline : Tick) (s : State) : State :=
  let sil := ticksSince s.tick.count deadline
  postStream n Ev.streamResumed (le 1 n ++ le 8 d.toNat ++ le 8 sil)
    (journal n true (jentry s Ev.streamResumed 0 n p.tier (nowFrc s) d p.idx sil) s)

/-- A SUPERVISE that rearms: the state, and whether the record is armed (R319). -/
def rearm (n : Nat) (d : Dword) (p : Place) (interval : Nat) (s : State) : State × Bool :=
  let x := slAt s n
  let w' : WheelEntry := { digest := d, deadline := s.tick.count + BitVec.ofNat 48 interval }
  match wheelOf x d with
  | some w =>
    let s1 := if w.fired then resumed n d p w.deadline s else s
    (modSl n (fun x => { x with wheel := x.wheel.map (fun v => if v.digest == d then w' else v) }) s1, true)
  | none =>
    if x.wheel.length < 65536 then (setSl n { x with wheel := x.wheel ++ [w'] } s, true)
    else
      let s1 := slCount n 0x61 1 (setSl n { x with wheelEpisode := true } s)
      (if x.wheelEpisode then s1 else raise Ev.wheelFull (le 1 n ++ le 8 s.tick.count.toNat) s1, false)

/-- The effects of a run's SUPERVISE micro-ops at its commit, in order: the state and the record (R223, R319, R323). -/
def supervise (n : Nat) (d : Dword) (p : Place) : List Bool → List Byte → State → State × List Byte
  | [], e, s => (s, e)
  | true :: rest, e, s =>
    let (s1, ok) := rearm n d p (intervalTicks (intervalOf e)) s
    supervise n d p rest (putCtlField 7 7 (b2n ok) e) s1
  | false :: rest, e, s => supervise n d p rest (putCtlField 7 7 0 e) (wheelDrop n d s)

/-! ### Binding -/

/-- The pointer of a primary: its digest; none for a record that is never bound (R216). -/
def pointerDigest (s : State) (e : List Byte) : Option Dword := (reverseKey s e).map (digestOf s)

/-- Send the installation of the pointer of primary `d` of slice `n` (R216). -/
def sendInstall (n : Nat) (d : Dword) (e : List Byte) (s : State) : State :=
  match reverseKey s e with
  | none => s
  | some k =>
    let pd := digestOf s k
    modSl (homeOf pd) (fun x => { x with
      installs := x.installs ++ [{ kind := .install n d (pointerOf k n d (isReplicated e)), key := some k, digest := pd }] }) s

/-- An entry whose copy cannot be used is invalidated, told and journalled; a pinned one is a dangerous fault (R220, R270, R303). -/
def tagLost (n : Nat) (d : Dword) (p : Place) (e : List Byte) (s : State) : State :=
  let pin := b2n (isPinned e)
  let s1 := emitDelta n d (some e) none (leakPair n e (wheelDrop n d (dropEntry n d e s)))
  let s2 := raise Ev.flowTagErr (le 1 n ++ le 1 p.tier ++ le 4 p.idx ++ le 1 pin) (slCount n 0x40 1 s1)
  let s3 := journal n true (jentry s2 Ev.flowTagErr 0 n p.tier (nowFrc s2) d p.idx pin) s2
  if isPinned e then recordFault 0x0C 13 n p.idx s3 else s3

/-- Remove the pointer with digest `pd` if it names a primary (R216). -/
def removePtr (pd primary : Dword) (s : State) : State :=
  let m := homeOf pd
  let r := locate s m pd none
  let s1 := lookupWork m pd none r s
  match r with
  | .hit _ e => if isPtr e && ptrDigest e == primary then dropEntry m pd e s1 else s1
  | .bad p e => tagLost m pd p e s1
  | _ => s1

/-- Does an installation sent by slice `n` for a pointer still wait in the pointer's slice (R239)? -/
def installWaits (x : Slice) (pd primary : Dword) : Bool :=
  x.installs.any (fun op => op.digest == pd && (match op.kind with | .install _ q _ => q == primary | _ => false))

/-- Remove a pointer as an operation of its slice: behind an installation still on its way there (R239) and behind the operations in
flight on it, at once otherwise (R216, R241, R252). -/
def unbind (pd primary : Dword) (s : State) : State :=
  let m := homeOf pd
  let op : FlowOp := { kind := .unbind primary, key := none, digest := pd }
  if installWaits (slAt s m) pd primary then modSl m (fun x => { x with installs := x.installs ++ [op] }) s
  else match flightAt s m pd with
    | some f => if f.phase = .punted then removePtr pd primary s else putFlight m { f with ops := f.ops ++ [op] } s
    | none => removePtr pd primary s

/-- Remove the pointer of a bound primary (R216). -/
def unbindRecord (s0 : State) (d : Dword) (e : List Byte) (s : State) : State :=
  match isPtr e || !isBound e, pointerDigest s0 e with
  | false, some pd => unbind pd d s
  | _, _ => s

/-- Commit a record of the slice to its place: tag computed, delta emitted, listed for following (R219, R543, R546).  A write of a
record in its turf slot that fails leaves the record as it was (R286, R293).  `packet` tells whom the access is charged to. -/
def commitRecord (n : Nat) (d : Dword) (p : Place) (packet : Bool) (old : Option (List Byte)) (e : List Byte) (s : State) : State :=
  if p.tier = 2 ∧ writeFails (slAt s n) 2 p.idx then migrateAbort n 0 d (turfAddr p.idx) (metFail n 2 p.idx s)
  else
    let e' := withTag e
    let s1 := emitDelta n d old (some e') (putAt n p packet e' s)
    match old with
    | some o => markFollow n d o e' s1
    | none => s1

/-! ### Removal -/

/-- Take a record out of every tier for a cause of R253, with what a removal brings: its wheel entry leaves, its pair is
released, its pointer is removed next, and its delta is sent. -/
def removeRecord (n : Nat) (d : Dword) (e : List Byte) (s : State) : State :=
  emitDelta n d (some e) none (unbindRecord s d e (releasePair n e (wheelDrop n d (dropEntry n d e s))))

/-- Journal FLOW_RETIRED with its counters (R254, R339). -/
def journalRetired (n : Nat) (d : Dword) (p : Place) (cause : Nat) (e : List Byte) (s : State) : State :=
  journal n false (jentry s Ev.flowRetired 1 n p.tier (nowFrc s) d p.idx cause ++ countersCont Ev.flowRetired e) s

/-- A deletion by the host (cause 1) or a sweep (cause 2) (R254). -/
def deleteRecord (n : Nat) (d : Dword) (p : Place) (cause : Nat) (e : List Byte) (s : State) : State :=
  slCount n 0x4E 1 (journalRetired n d p cause e (removeRecord n d e s))

/-- A read finds a tag that does not match: the entry is lost, and the pointer of its record is removed next (R216, R220). -/
def tagError (n : Nat) (d : Dword) (p : Place) (e : List Byte) (s : State) : State := unbindRecord s d e (tagLost n d p e s)

end Sys2Proof.Machine
end

