-- ==== Sys2Proof/Machine/Crossing.lean ====
section
/-! DEFINITION. The way of an operation from its pipeline to its slice: issue queues, crossing queues and input FIFOs (R20, R237 to
R239). -/

namespace Sys2Proof.Machine

/-- The issue queue of pipeline `p` for slice `n`, with what the pipeline holds behind it. -/
def issueAt (s : State) (p n : Nat) : List FlowOp := tgetD (fun _ => []) s.flow.issue (16 * p + n)
/-- Put an issue queue. -/
def setIssue (p n : Nat) (l : List FlowOp) (s : State) : State :=
  s.setFlow { s.flow with
    issue := if l = [] then terase s.flow.issue (16 * p + n) else tput s.flow.issue (16 * p + n) l }

/-- The input FIFO of slice `n` for pipeline `p`. -/
def inputAt (s : State) (n p : Nat) : List FlowOp := tgetD (fun _ => []) (slAt s n).inputs p
/-- Put an input FIFO. -/
def setInput (n p : Nat) (l : List FlowOp) (s : State) : State :=
  modSl n (fun x => { x with inputs := if l = [] then terase x.inputs p else tput x.inputs p l }) s

/-- The crossing queue out of die `d`. -/
def crossAt (s : State) (d : Nat) : List (Nat × Nat × FlowOp) := tgetD (fun _ => []) s.flow.cross d
/-- Put a crossing queue. -/
def setCross (d : Nat) (l : List (Nat × Nat × FlowOp)) (s : State) : State :=
  s.setFlow { s.flow with cross := if l = [] then terase s.flow.cross d else tput s.flow.cross d l }

/-- Does a pipeline lie on the other die than a slice (R20)? -/
def farRoute (p n : Nat) : Bool := n / 8 != p / 2

/-- Operations move from the issue queue of a pipeline on the slice's die into its input FIFO of 64 (R237, R238). -/
def moveNear (p n : Nat) (s : State) : State :=
  let q := issueAt s p n
  let i := inputAt s n p
  let k := 64 - i.length
  if k = 0 ∨ q = [] then s else setIssue p n (q.drop k) (setInput n p (i ++ q.take k) s)

/-- Items of the crossing queue out of die `d` enter the input FIFOs that have room; the order of each route is kept (R20, R239). -/
def drainCross (d : Nat) (s : State) : State :=
  (crossAt s d).foldl (fun s e =>
    let i := inputAt s e.2.1 e.1
    if i.length < 64 then setInput e.2.1 e.1 (i ++ [e.2.2]) s else setCross d (crossAt s d ++ [e]) s) (setCross d [] s)

/-- Operations for the other die enter the crossing queue of 2,048, route by route, while it has room (R20; log 58). -/
def fillCross (d : Nat) (s : State) : State :=
  ([2 * d, 2 * d + 1].flatMap (fun p => (List.range 8).map (fun i => (p, 8 * (1 - d) + i)))).foldl (fun s r =>
    let q := issueAt s r.1 r.2
    let l := crossAt s d
    let k := 2048 - l.length
    if k = 0 ∨ q = [] then s
    else setIssue r.1 r.2 (q.drop k) (setCross d (l ++ (q.take k).map (fun op => (r.1, r.2, op))) s)) s

/-- The operations on the way to slice `n` go as far as there is room. -/
def feed (n : Nat) (s : State) : State :=
  let near := [2 * (n / 8), 2 * (n / 8) + 1].foldl (fun s p => moveNear p n s) s
  drainCross (1 - n / 8) (fillCross (1 - n / 8) (drainCross (1 - n / 8) near))

/-- Does pipeline `p` hold an operation for slice `n` that cannot cross (R20)? -/
def crossHeld (s : State) (p n : Nat) : Bool := farRoute p n && issueAt s p n != []

/-- Is anything on the way between the pipelines and the slices? -/
def onTheWay (s : State) : Bool :=
  s.flow.issue.any (fun e => e.2 != []) || s.flow.cross.any (fun e => e.2 != []) ||
  s.flow.slice.any (fun x => x.2.inputs.any (fun e => e.2 != []) || x.2.forwards != [])

end Sys2Proof.Machine
end

