-- ==== Sys2Proof/Machine/Parse.lean ====
section
/-! DEFINITION. The Strudel parse graph: the checks of a graph image, the walk of one pass, the tail program and the
key container (chapter 05). -/

namespace Sys2Proof.Machine

/-! ### Images -/

/-- Byte offset of a fault with whether it is one. -/
abbrev Check := Nat × Bool

/-- Each of the `n` bytes from `off` must be zero (R7). -/
def zeroChecks (b : List Byte) (off n : Nat) : List Check :=
  (List.range n).map (fun i => (off + i, byteAt b (off + i) != 0))

/-- The offset of the first fault. -/
def firstFault (cs : List Check) : Option Nat := (cs.find? (fun c => c.2)).map (fun c => c.1)

/-- Are bits outside `mask` set? -/
def outside (x mask : Nat) : Bool := x &&& (0xFF - mask) != 0

/-- Shift plus width of a field byte exceeds 16 (R110, R125). -/
def badField (x : Nat) : Bool := x % 16 + (x / 16 + 1) > 16

/-- The checks of an extraction record at offset `o` whose `src_off` must lie in `lo` to `hi`; `used` when its
record is in use (R123, R124, R125). -/
def extractionChecks (b : List Byte) (o lo hi : Nat) (used : Bool) : List Check :=
  let ctl := rd b (o + 2) 1
  let v := used && bitOf ctl 7
  let words := if bitOf ctl 3 then 1 else ctl % 8 + 1
  [(o, v && (rd b o 1 < lo || rd b o 1 > hi)),
   (o + 1, v && (rd b (o + 1) 1 + words - 1 > 55)),
   (o + 2, outside ctl 0x8F),
   (o + 3, rd b (o + 3) 1 != 0)]

/-- The checks of transition record at offset `o`. -/
def transitionChecks (b : List Byte) (o count : Nat) : List Check :=
  let v := rd b o 2
  let c := rd b (o + 2) 2
  let k := rd b (o + 5) 1
  let valid := bitOf k 7
  [(o, valid && (v &&& (0xFFFF - c)) != 0),
   (o + 4, valid && k % 4 == 0 && rd b (o + 4) 1 >= count),
   (o + 5, outside k 0x83 || (valid && k % 4 == 3))]

/-- The checks of the node record at offset `o` (R123, R125). -/
def nodeChecks (b : List Byte) (o count : Nat) : List Check :=
  let fl := rd b (o + 1) 1
  let len := bitOf fl 2
  let adv := bitOf fl 3
  ([(o, rd b o 1 > 63), (o + 1, outside fl 0x0E),
   (o + 5, adv && rd b (o + 5) 1 > 63), (o + 6, adv && badField (rd b (o + 6) 1)),
   (o + 7, outside (rd b (o + 7) 1) 0x03),
   (o + 8, len && rd b (o + 8) 1 > 63), (o + 9, len && badField (rd b (o + 9) 1)),
   (o + 10, outside (rd b (o + 10) 1) 0x03), (o + 11, rd b (o + 11) 1 != 0),
   (o + 14, rd b (o + 15) 1 == 0 && rd b (o + 14) 1 >= count), (o + 15, rd b (o + 15) 1 > 2)] : List Check) ++
  ((List.range 4).map (fun j => extractionChecks b (o + 0x10 + 4 * j) 0 63 true)).flatten ++
  ((List.range 16).map (fun i => transitionChecks b (o + 0x20 + 6 * i) count)).flatten

/-- The checks of the tail record at offset `o` (R124, R125). -/
def tailChecks (b : List Byte) (o : Nat) : List Check :=
  let fl := rd b o 1
  let en := bitOf fl 0
  let sz := en && bitOf fl 1
  let far := fun x : Nat => x < 2 || x > 64
  ([(o, outside fl 0x03), (o + 1, en && far (rd b (o + 1) 1)), (o + 6, sz && far (rd b (o + 6) 1)),
   (o + 7, sz && badField (rd b (o + 7) 1)), (o + 8, sz && rd b (o + 8) 1 > 3), (o + 9, rd b (o + 9) 1 != 0)] : List Check) ++
  zeroChecks b (o + 12) 4 ++
  ((List.range 4).map (fun j => extractionChecks b (o + 0x10 + 4 * j) 1 64 en)).flatten ++
  zeroChecks b (o + 0x20) 32

/-- Judge a graph image: the refusing status with the offset of the first fault (R122 to R125). -/
def graphFault (b : List Byte) : Option (Half × List Byte) :=
  let n := b.length
  if rd b (n - 4) 4 ≠ (crc32c (b.take (n - 4))).toNat then some (St.eIntegrity, [])
  else
    let count := rd b 6 2
    let header : List Check :=
      [(0, rd b 0 4 != 0x53585047), (4, rd b 4 2 != 1), (6, count = 0 ∨ count > 256),
       (8, rd b 8 4 ≠ 64 + 128 * count + 68 ∨ n ≠ rd b 8 4),
       (0x10, rd b 0x10 1 ≥ count), (0x11, rd b 0x11 1 ≥ count), (0x12, rd b 0x12 1 ≥ count)]
    match firstFault header with
    | some o => some (St.eArg, le 4 o)
    | none =>
      match firstFault (zeroChecks b 0x13 45 ++
          ((List.range count).map (fun i => nodeChecks b (64 + 128 * i) count)).flatten ++
          tailChecks b (64 + 128 * count)) with
      | some o => some (St.eArg, le 4 o)
      | none => none

/-! ### Reads -/

/-- What a read of a frame finds (R109): a value, a byte beyond the frame, a byte beyond the window, or one of each. -/
inductive Got where
  | val (x : Nat)
  | missing
  | outOfWindow
  | both
  deriving DecidableEq, Repr

/-- The 16-bit read at `o`, in network order, that needs the bytes `mask` covers; `w` is the end of the window
(R109, R110). -/
def read16 (f : List Byte) (w o mask : Nat) : Got :=
  let hiN := mask / 256 != 0
  let loN := mask % 256 != 0
  let absent := fun (o : Nat) => if o ≥ f.length then some Got.missing else if o ≥ w then some Got.outOfWindow else none
  match (if hiN then absent o else none), (if loN then absent (o + 1) else none) with
  | some .outOfWindow, some .missing => .both
  | some g, _ => g
  | none, some g => g
  | none, none => .val ((byteAt f o).toNat * 256 + (byteAt f (o + 1)).toNat)

/-- The mask of a bit field byte: shift [3:0], width − 1 [7:4] (R110). -/
def fieldMask (x : Nat) : Nat := (2 ^ (x / 16 + 1) - 1) * 2 ^ (x % 16)

/-- The value of a bit field in a 16-bit read. -/
def fieldOf (x r : Nat) : Nat := r / 2 ^ (x % 16) % 2 ^ (x / 16 + 1)

/-- ×1, ×2, ×4 or ×8. -/
def unitOf (x : Nat) : Nat := 2 ^ (x % 4)

/-! ### The walk -/

/-- The state of a walk (R111 to R118). -/
structure Walk where
  container : List Half
  limit : Nat
  visits : Nat := 0
  endNode : Nat := 0
  layers : List Nat := []
  /-- Nodes visited, in order (R528). -/
  path : List Nat := []
  /-- Packet offset of every container word that an extraction wrote (R309). -/
  offs : Table Nat := []
  lenConflict : Bool := false
  badHeader : Bool := false
  /-- An extraction or length field needed an out-of-window byte. -/
  softTrunc : Bool := false
  /-- Reason with which the pass ended, 0 for none. -/
  reason : Nat := 0
  resume : Option (Nat × Nat) := none
  deriving DecidableEq, Repr

/-- Raise the flag of R109 without ending the walk. -/
def Walk.soft (w : Walk) : Got → Walk
  | .missing => { w with lenConflict := true }
  | .outOfWindow => { w with softTrunc := true }
  | .both => { w with lenConflict := true, softTrunc := true }
  | .val _ => w

/-- End the walk at a node whose read met an absent byte (R111, R112). -/
def Walk.stopAt (w : Walk) (node s : Nat) : Got → Walk
  | .missing => { w with lenConflict := true }
  | .outOfWindow => { w with reason := 1, resume := some (node, s) }
  | .both => { w with lenConflict := true, reason := 1, resume := some (node, s) }
  | .val _ => w

/-- Write words into the container from word `d`. -/
def putWords : List Half → Nat → List Half → List Half
  | c, _, [] => c
  | c, d, x :: xs => putWords (c.set d x) (d + 1) xs

/-- The first absent byte among `n` bytes from `o` (R109). -/
def firstAbsent (f : List Byte) (w o n : Nat) : Option Got :=
  (List.range n).findSome? (fun i =>
    if o + i ≥ f.length then some .missing else if o + i ≥ w then some .outOfWindow else none)

/-- The words that an extraction takes from offset `o`: bytes in network order, or one byte (R113). -/
def extractWords (f : List Byte) (o ctl : Nat) : List Half :=
  if bitOf ctl 3 then [BitVec.ofNat 16 (byteAt f o).toNat]
  else (List.range (ctl % 8 + 1)).map (fun i => BitVec.ofNat 16 (rdBe f (o + 2 * i) 2))

/-- The bytes that an extraction needs. -/
def extractLen (ctl : Nat) : Nat := if bitOf ctl 3 then 1 else 2 * (ctl % 8 + 1)

/-- One extraction record `(src_off, dst_word, ctl)` of a node that starts at `s` (R113). -/
def extract (f : List Byte) (win s : Nat) (w : Walk) (e : Nat × Nat × Nat) : Walk :=
  if !bitOf e.2.2 7 then w
  else match firstAbsent f win (s + e.1) (extractLen e.2.2) with
    | some g => w.soft g
    | none =>
      let xs := extractWords f (s + e.1) e.2.2
      { w with container := putWords w.container e.2.1 xs
               offs := (List.range xs.length).foldl (fun m i => tput m (e.2.1 + i) (s + e.1 + 2 * i)) w.offs }

/-- The extraction records at offset `o` of an image. -/
def extractions (b : List Byte) (o : Nat) : List (Nat × Nat × Nat) :=
  (List.range 4).map (fun j => (rd b (o + 4 * j) 1, rd b (o + 4 * j + 1) 1, rd b (o + 4 * j + 2) 1))

/-- The transition that a selector takes: kind and next node (R111 step 5). -/
def transition (b : List Byte) (o sel : Nat) : Nat × Nat :=
  match (List.range 16).find? (fun i =>
      bitOf (rd b (o + 0x25 + 6 * i) 1) 7 &&
      (sel &&& rd b (o + 0x22 + 6 * i) 2) == rd b (o + 0x20 + 6 * i) 2) with
  | some i => (rd b (o + 0x25 + 6 * i) 1 % 4, rd b (o + 0x24 + 6 * i) 1)
  | none => (rd b (o + 0x0F) 1 % 4, rd b (o + 0x0E) 1)

/-- The advance of a node: none when it ended the walk, with that walk (R112). -/
def advance (b f : List Byte) (win o node s : Nat) (w : Walk) : Walk × Option Nat :=
  if !bitOf (rd b (o + 1) 1) 3 then (w, some (rd b (o + 4) 1))
  else
    let fb := rd b (o + 6) 1
    match read16 f win (s + rd b (o + 5) 1) (fieldMask fb) with
    | .val x =>
      let a := fieldOf fb x * unitOf (rd b (o + 7) 1) + rd b (o + 4) 1
      if a = 0 then ({ w with badHeader := true }, none) else (w, some a)
    | g => (w.stopAt node s g, none)

/-- The length check of a node: the walk with the new limit, and the claimed end (R115). -/
def lengthCheck (b f : List Byte) (win o s : Nat) (w : Walk) : Walk × Option Nat :=
  if !bitOf (rd b (o + 1) 1) 2 then (w, none)
  else
    let fb := rd b (o + 9) 1
    match read16 f win (s + rd b (o + 8) 1) (fieldMask fb) with
    | .val x =>
      let e := s + fieldOf fb x * unitOf (rd b (o + 10) 1) + rd b (o + 12) 2
      ({ w with lenConflict := w.lenConflict || decide (e > w.limit), limit := min w.limit e }, some e)
    | g => (w.soft g, none)

/-- Walk from node `node` at offset `s`; `fuel` visits may still take place (R111, R116, R117). -/
def walk (b f : List Byte) (win : Nat) : Nat → Nat → Nat → Walk → Walk
  | 0, node, s, w => { w with reason := 2, resume := some (node, s) }
  | fuel + 1, node, s, w =>
    let o := 64 + 128 * node
    let layer := bitOf (rd b (o + 1) 1) 1
    if layer && w.layers.length ≥ 3 then { w with reason := 3, resume := some (node, s) }
    else
      let w1 := { w with visits := w.visits + 1, endNode := node, path := w.path ++ [node],
                         layers := if layer then w.layers ++ [s] else w.layers }
      let w2 := (extractions b (o + 0x10)).foldl (extract f win s) w1
      let (w3, e) := lengthCheck b f win o s w2
      let mask := rd b (o + 2) 2
      match read16 f win (s + rd b o 1) mask with
      | .val x =>
        match transition b o (x &&& mask) with
        | (0, next) =>
          match advance b f win o node s w3 with
          | (w4, none) => w4
          | (w4, some a) =>
            let w5 := match e with
              | some e => { w4 with lenConflict := w4.lenConflict || decide (s + a > e) }
              | none => w4
            if fuel = 0 then { w5 with reason := 2, resume := some (next, s + a) }
            else if s + a ≥ win ∧ s + a < f.length then { w5 with reason := 1, resume := some (next, s + a) }
            else walk b f win fuel next (s + a) w5
        | (2, _) => { w3 with badHeader := true }
        | _ => w3
      | g => w3.stopAt node s g

/-! ### The tail program -/

/-- A read counted `back` bytes from the frame's end; none when it needs an absent byte (R120). -/
def tailRead (f : List Byte) (back mask : Nat) : Option Nat :=
  let lo := mask % 256 != 0
  let hi := mask / 256 != 0
  if (hi && back > f.length) || (lo && back > f.length + 1) || (hi && back < 1) || (lo && back < 2) then none
  else
    let at' := fun (k : Nat) => if back ≥ k ∧ f.length + k ≥ back then (byteAt f (f.length + k - back)).toNat else 0
    some (at' 0 * 256 + at' 1)

/-- Does the tail of a frame match (R120)? -/
def tailMatches (b f : List Byte) (o : Nat) (layers : List Nat) : Bool :=
  let idOk := match tailRead f (rd b (o + 1) 1) (rd b (o + 2) 2) with
    | some x => (x &&& rd b (o + 2) 2) == rd b (o + 4) 2
    | none => false
  let fb := rd b (o + 7) 1
  let base := match rd b (o + 8) 1 with
    | 0 => some 0
    | k + 1 => layers[k]?
  let sizeOk := !bitOf (rd b o 1) 1 ||
    (match tailRead f (rd b (o + 6) 1) (fieldMask fb), base with
     | some x, some base =>
       decide ((fieldOf fb x : Int) = (f.length : Int) - (base : Int) + signed 16 (rd b (o + 10) 2))
     | _, _ => false)
  let reach := (extractions b (o + 0x10)).all (fun e => !bitOf e.2.2 7 || e.1 ≤ f.length)
  idOk && sizeOk && reach

/-- Run the tail program: the walk, tail_valid and tail_skipped (R120). -/
def runTail (b f : List Byte) (w : Walk) : Walk × Bool × Bool :=
  let o := 64 + 128 * rd b 6 2
  if !bitOf (rd b o 1) 0 then (w, false, false)
  else if f.length > 512 then (w, false, true)
  else if tailMatches b f o w.layers then
    ((extractions b (o + 0x10)).foldl (fun w e => extract f f.length (f.length - e.1) w (0, e.2.1, e.2.2)) w, true, false)
  else (w, false, false)

/-! ### One pass -/

/-- What a pass leaves (R121). -/
structure Parsed where
  container : List Half
  visits : Nat
  endNode : Nat
  trunc : Bool
  lenConflict : Bool
  badHeader : Bool
  reason : Nat
  resume : Option (Nat × Nat)
  layer1 : Nat
  tailValid : Bool
  path : List Nat
  offs : Table Nat
  deriving DecidableEq, Repr

/-- A word of the container as a number. -/
def cword (c : List Half) (w : Nat) : Nat := (c.getD w 0).toNat

/-- The container at the start of pass 1: 64 words of 0 (R121). -/
def emptyContainer : List Half := List.replicate 64 0

/-- Parse one pass of frame `f` with graph image `b` from node `node` at offset `s` (R108 to R121).  `src` is the
metadata's source, `port` the ingress port, and `bank` the graph bank in use. -/
def parsePass (b f : List Byte) (pass node s port src : Nat) (bank : Bool) (c : List Half) (offs : Table Nat) :
    Parsed :=
  let win := if pass = 1 then min 512 f.length else min (s + 512) f.length
  let w0 : Walk := { container := c, offs := offs, limit := f.length, layers := [s] }
  let unknown := node ≥ rd b 6 2
  let w1 : Walk := if unknown then { w0 with badHeader := true, endNode := node } else walk b f win 24 node s w0
  let (w2, tv, ts) := if pass = 1 then runTail b f w1 else (w1, bitOf (cword c 57) 5, bitOf (cword c 57) 6)
  let reason := if w2.reason ≠ 0 then w2.reason else if w2.softTrunc then 1 else 0
  let old := if pass = 1 then 0 else cword c 57
  let w56 := port % 256 + 256 * (src % 4) + 2048 * w2.visits
  let trunc := reason ≠ 0
  let w57 := b2n (trunc || bitOf old 0) + 2 * b2n (w2.lenConflict || bitOf old 1) +
    4 * b2n (w2.badHeader || bitOf old 2) + 8 * reason + 32 * b2n tv + 64 * b2n ts + 128 * pass + 512 * b2n bank
  let w58 := w2.endNode + 256 * (match w2.resume with | some (n, _) => n | none => 0)
  let lay := fun i => match w2.layers[i]? with | some o => o % 16384 | none => 0x3FFF
  let roff := match w2.resume with | some (_, o) => o % 16384 | none => 0x3FFF
  { container := putWords w2.container 56
      ([w56, w57, w58, f.length % 16384, lay 0, lay 1, lay 2, roff].map (BitVec.ofNat 16))
    visits := w2.visits, endNode := w2.endNode, trunc := trunc, lenConflict := w2.lenConflict,
    badHeader := w2.badHeader, reason := reason, resume := w2.resume, layer1 := s, tailValid := tv, path := w2.path, offs := w2.offs }

/-- Count what a pass of pipeline `p` did (R128, R129). -/
def countPass (p pass : Nat) (r : Parsed) (s : State) : State :=
  let c := fun (b : Bool) i (s : State) => if b then bump48 8 p i 1 s else s
  let s1 := bump48 8 p 0 1 s
  let s2 := c (r.reason == 1) 1 (c (r.reason == 2) 2 (c (r.reason == 3) 3 s1))
  let s3 := c r.lenConflict 4 (c r.badHeader 5 s2)
  c (pass == 1 && r.tailValid) 9 (c (pass == 2) 6 (c (pass == 3) 7 s3))

end Sys2Proof.Machine
end

