-- ==== Sys2Proof/Machine/Classify.lean ====
section
/-! DEFINITION. Lookup profiles: the checks of a profile image, the choice of a profile, keys, the action set and its
merge, hashing, and the range comparators of the bootstrap filter (chapter 06). -/

namespace Sys2Proof.Machine

/-! ### The profile image -/

/-- Size of a profile image (R148). -/
def profileSize : Nat := 17476

/-- Offset of profile record `j` (R150). -/
def profOff (j : Nat) : Nat := 0x440 + 256 * j

/-- Offset of lookup `k` of profile `j` (R150). -/
def lookOff (j k : Nat) : Nat := profOff j + 0x20 + 32 * k

/-- The checks of a selector byte (R133). -/
def selCheck (b : List Byte) (o : Nat) : Check := (o, bitOf (rd b o 1) 6)

/-- The checks of selection entry `i` (R149, R151). -/
def selectionChecks (b : List Byte) (i : Nat) : List Check :=
  let o := 0x40 + 8 * i
  let pr := rd b (o + 5) 1
  let v := bitOf pr 7
  let fl := rd b (o + 3) 1
  let fc := rd b (o + 4) 1
  let cl := rd b (o + 2) 1
  [(o, v && (rd b o 1 &&& (0xFF - rd b (o + 1) 1)) != 0),
   (o + 2, v && (cl % 16 &&& (15 - cl / 16)) != 0),
   (o + 3, outside fl 0x3F || (v && (fl &&& (0xFF - fc)) % 64 != 0)),
   (o + 4, outside fc 0x3F),
   (o + 5, bitOf pr 6 || (v && !bitOf (rd b (profOff (pr % 64)) 1) 0))] ++ zeroChecks b (o + 6) 2

/-- The bank mask of lookup `k` of profile `j` as an image holds it; 0 for a lookup that is not valid. -/
def imageMask (b : List Byte) (j k : Nat) : Nat :=
  if bitOf (rd b (profOff j) 1) 0 && bitOf (rd b (lookOff j k + 3) 1) 0 then rd b (lookOff j k) 2 else 0

/-- The checks of lookup `k` of profile `j`, whose record is valid or not; `breach` says that its mask breaks R134 or R174 on a bank
of a pipeline that the image is for (R133, R134, R150, R151, R174). -/
def lookupChecks (b : List Byte) (j k : Nat) (valid breach : Bool) : List Check :=
  let o := lookOff j k
  let on := valid && bitOf (rd b (o + 3) 1) 0
  let w := rd b (o + 2) 1
  let before := (List.range k).map (imageMask b j)
  [(o, on && (breach || before.any (fun m => (m &&& rd b o 2) != 0))),
   (o + 2, on && w != 1 && w != 2 && w != 4),
   (o + 3, outside (rd b (o + 3) 1) 0x03)] ++
  (List.range 20).map (fun i =>
    (o + 4 + i, bitOf (rd b (o + 4 + i) 1) 6 || (on && i ≥ 5 * w && rd b (o + 4 + i) 1 != 0))) ++
  zeroChecks b (o + 0x18) 8

/-- The checks of profile record `j`, of which `breach` names the lookups that break R134 or R174 (R150, R151). -/
def profileChecks (breach : Nat → Bool) (b : List Byte) (j : Nat) : List Check :=
  let o := profOff j
  let v := bitOf (rd b o 1) 0
  let kt := rd b (o + 3) 1
  let hq := rd b (o + 0x18) 2
  ([(o, outside (rd b o 1) 0x3F), (o + 1, v && rd b (o + 1) 1 > 1), (o + 2, outside (rd b (o + 2) 1) 0x03),
   (o + 3, v && kt != 1 && kt != 2 && kt != 0x11), (o + 4, v && rd b (o + 4) 2 > 1023), selCheck b (o + 6),
   (o + 7, outside (rd b (o + 7) 1) 0x0F || (v && rd b (o + 7) 1 % 4 == 3)),
   (o + 9, bitOf (rd b (o + 9) 1) 6), (o + 12, v && rd b (o + 12) 1 > 1), selCheck b (o + 13), selCheck b (o + 14),
   (o + 15, rd b (o + 15) 1 != 0), (o + 0x18, v && (hq = 0 || hq > 1023))] : List Check) ++
  zeroChecks b (o + 0x1A) 6 ++
  ((List.range 4).map (fun k => lookupChecks b j k v (breach k))).flatten ++
  (List.range 14).map (fun i => selCheck b (o + 0xA0 + i)) ++ zeroChecks b (o + 0xAE) 2 ++
  (List.range 24).map (fun i => selCheck b (o + 0xB0 + i)) ++ zeroChecks b (o + 0xC8) 56

/-- Judge a profile image, of which `breach` names the lookups (profile and number) that break R134 or R174 on a pipeline: the first
faulty offset counts (R134, R148 to R151, R174). -/
def profileFaultOn (breach : Nat → Nat → Bool) (b : List Byte) : Option (Half × List Byte) :=
  let n := b.length
  if rd b (n - 4) 4 ≠ (crc32c (b.take (n - 4))).toNat then some (St.eIntegrity, [])
  else
    let header : List Check :=
      [(0, rd b 0 4 != 0x53584350), (4, rd b 4 2 != 1), (6, rd b 6 2 != 0),
       (8, rd b 8 4 ≠ profileSize ∨ n ≠ profileSize)]
    match firstFault header with
    | some o => some (St.eArg, le 4 o)
    | none =>
      let dp := rd b 0x14 1
      match firstFault ((0x14, dp > 63 || !bitOf (rd b (profOff (dp % 64)) 1) 0) :: zeroChecks b 0x15 43 ++
          ((List.range 128).map (selectionChecks b)).flatten ++
          ((List.range 64).map (fun j => profileChecks (breach j) b j)).flatten) with
      | some o => some (St.eArg, le 4 o)
      | none => none

/-- Judge a profile image by itself (R148 to R151). -/
def profileFault (b : List Byte) : Option (Half × List Byte) := profileFaultOn (fun _ _ => false) b

/-! ### Bank widths and pairs -/

/-- The width of a bank in units (R159). -/
def bankWidth (s : State) (b : Nat) : Nat := 2 ^ regField s 10 b 0 1 0

/-- The partner of a bank, if it is paired (R173). -/
def partnerOf (s : State) (b : Nat) : Option Nat :=
  let v := (reg s 10 b 1).toNat
  if bitOf v 7 then some (v % 64) else none

/-- The banks of pipeline `p` that a mask names. -/
def maskBanks (p m : Nat) : List Nat := ((List.range 16).filter (bitOf m)).map (fun b => 16 * p + b)

/-- Do the lookups (mask, width, paired) of one profile of pipeline `p` keep R134 and R174? -/
def masksOk (s : State) (p : Nat) (ls : List (Nat × Nat × Bool)) : Bool :=
  let banks := (ls.map (fun l => maskBanks p l.1)).flatten
  banks.length == banks.eraseDups.length &&
  ls.all (fun l => (maskBanks p l.1).all (fun b => bankWidth s b == l.2.1 && (!l.2.2 || (partnerOf s b).isSome))) &&
  ls.all (fun l => !l.2.2 || (maskBanks p l.1).all (fun b =>
    match partnerOf s b with | some q => !banks.contains q | none => true))

/-- The valid lookups of profile `j` of an image: mask, width, paired. -/
def imageLookups (b : List Byte) (j : Nat) : List (Nat × Nat × Bool) :=
  if !bitOf (rd b (profOff j) 1) 0 then []
  else (List.range 4).filterMap (fun k =>
    let o := lookOff j k
    if bitOf (rd b (o + 3) 1) 0 then some (rd b o 2, rd b (o + 2) 1, bitOf (rd b (o + 3) 1) 1) else none)

/-- Does lookup `k` of profile `j` of an image break R134 or R174 on pipeline `p`: a bank of another width, a paired lookup with a
bank that has no partner, or with one that a mask of the profile names? -/
def lookupBreach (s : State) (p : Nat) (b : List Byte) (j k : Nat) : Bool :=
  let o := lookOff j k
  let paired := bitOf (rd b (o + 3) 1) 1
  let named := (List.range 4).flatMap (fun i => maskBanks p (imageMask b j i))
  (maskBanks p (imageMask b j k)).any (fun x =>
    bankWidth s x != rd b (o + 2) 1 || (paired && (match partnerOf s x with
      | some q => named.contains q
      | none => true)))

/-- The first profile of an image that breaks R134 or R174 on pipeline `p`. -/
def badProfile (s : State) (p : Nat) (b : List Byte) : Option Nat :=
  (List.range 64).find? (fun j => !masksOk s p (imageLookups b j))

/-- Is a bank named in an active mask of its pipeline (R134, R177)? -/
def searched (s : State) (b : Nat) : Bool :=
  let a := activeProf (pipeAt s (b / 16))
  a.valid && (List.range 64).any (fun j => (List.range 4).any (fun k => bitOf (imageMask a.image j k) (b % 16)))

/-! ### The choice of a profile -/

/-- Does selection entry `i` match (R132, R149)? -/
def selects (b : List Byte) (i endNode cls flags pass tail : Nat) : Bool :=
  let o := 0x40 + 8 * i
  let c := rd b (o + 2) 1
  let f := flags + 8 * pass + 32 * tail
  bitOf (rd b (o + 5) 1) 7 &&
  (endNode &&& rd b (o + 1) 1) == rd b o 1 && (cls &&& (c / 16)) == c % 16 &&
  (f &&& (rd b (o + 4) 1 % 64)) == rd b (o + 3) 1 % 64

/-- The profile chosen, and whether it is the default (R132). -/
def chooseProfile (b : List Byte) (c : List Half) (cls : Nat) : Nat × Bool :=
  let w57 := cword c 57
  match (List.range 128).find? (fun i =>
      selects b i (cword c 58 % 256) cls (w57 % 8) (bitsOf w57 8 7) (bitsOf w57 5 5)) with
  | some i => (rd b (0x45 + 8 * i) 1 % 64, false)
  | none => (rd b 0x14 1 % 64, true)

/-- The container word that a selector names; 0 under its zero flag (R133). -/
def selWord (c : List Half) (sel : Nat) : Nat := if bitOf sel 7 then 0 else cword c (sel % 64)

/-- The number of `n` words in network order that selectors from offset `o` name. -/
def selWords (b : List Byte) (c : List Half) (o n : Nat) : Nat :=
  (List.range n).foldl (fun x i => x * 65536 + selWord c (rd b (o + i) 1)) 0

/-- The key units of a lookup: five words each, the first in bits [79:64] (R133). -/
def lookupKey (b : List Byte) (c : List Half) (j k w : Nat) : List (BitVec 80) :=
  (List.range w).map (fun u => BitVec.ofNat 80 (selWords b c (lookOff j k + 4 + 5 * u) 5))

/-! ### The action set -/

/-- The action set of a 128-bit action (R181). -/
def actionOf (a : BitVec 128) : ActionSet :=
  let x := a.toNat
  let f := fun (set : Nat) (v : Nat) => if bitOf x set then some v else none
  let fb := fun (set v : Nat) => if bitOf x set then some (bitOf x v) else none
  { drop := fb 0 1
    redirect := if bitsOf x 3 2 = 0 then none else some (bitsOf x 3 2, bitsOf x 20 4)
    toHost := f 21 (bitsOf x 31 22)
    cls := f 32 (bitsOf x 35 33)
    mark := if bitsOf x 37 36 = 0 then none else some (bitsOf x 37 36, bitsOf x 43 38)
    protection := fb 44 45
    template := f 46 (bitsOf x 56 47)
    noFlow := fb 57 58
    spread := f 59 (bitsOf x 65 60) }

/-- Is an action refused (R181)? -/
def actionBad (a : BitVec 128) : Bool :=
  let x := a.toNat
  (bitOf x 21 && bitsOf x 31 22 == 0) || (bitsOf x 3 2 == 1 && bitsOf x 20 4 > 129) ||
  (bitsOf x 3 2 == 3 && bitsOf x 20 4 > 65535) || bitsOf x 37 36 == 3 ||
  (bitsOf x 37 36 == 2 && bitsOf x 43 41 != 0) || bitsOf x 127 66 != 0

/-- The first that is set. -/
def first {α : Type} : Option α → Option α → Option α
  | some x, _ => some x
  | none, y => y

/-- Merge field by field: a field that `a` sets stands, any other keeps `b`'s (R136).  The rule_ids are `b`'s. -/
def ActionSet.over (a b : ActionSet) : ActionSet :=
  { drop := first a.drop b.drop, redirect := first a.redirect b.redirect, toHost := first a.toHost b.toHost
    cls := first a.cls b.cls, mark := first a.mark b.mark, protection := first a.protection b.protection
    template := first a.template b.template, noFlow := first a.noFlow b.noFlow, spread := first a.spread b.spread
    ruleIds := b.ruleIds }

/-! ### Hashing -/

/-- The bytes of the words that a mask includes, in rising order, in network order (R139). -/
def hashInput (c : List Half) (mask : Nat) : List Byte :=
  ((List.range 64).filter (bitOf mask)).map (fun w => be 2 (cword c w)) |>.flatten

/-- Bit `k` of the Toeplitz key of pipeline `p`; the key wraps at 320 bits (R139). -/
def toeplitzBit (s : State) (p k : Nat) : Bool :=
  let k := k % 320
  (reg s 9 p (4 + k / 32)).getMsbD (k % 32)

/-- The Toeplitz hash (R139). -/
def toeplitz (s : State) (p : Nat) (bs : List Byte) : Nat :=
  let window := fun i => (List.range 32).foldl (fun x j => 2 * x + b2n (toeplitzBit s p (i + j))) 0
  (List.range (8 * bs.length)).foldl (fun h i =>
    if (byteAt bs (i / 8)).getMsbD (i % 8) then Nat.xor h (window i) else h) 0

/-- The load-spread hash of a profile (R139). -/
def spreadHash (s : State) (p : Nat) (b : List Byte) (j : Nat) (c : List Half) : Nat :=
  let bs := hashInput c (rd b (profOff j + 0x10) 8)
  if bitOf (rd b (profOff j) 1) 4 then toeplitz s p bs else (crc32cRaw (reg s 9 p 3) bs).toNat

/-- The port class of a packet (R131). -/
def portClassOf (s : State) (p source port : Nat) : Nat :=
  if source = 0 then regField s 9 p (0x10 + port % 32 / 8) (4 * (port % 8) + 3) (4 * (port % 8))
  else if source = 1 then regField s 9 p 0x14 3 0
  else regField s 9 p 0x14 7 4

/-! ### The fixed extractor and the comparators -/

/-- What the fixed extractor reads of a frame (R152). -/
structure Extracted where
  etherType : Option Nat := none
  vlan : Option Nat := none
  pcp : Option Nat := none
  dscp : Option Nat := none
  proto : Option Nat := none
  sport : Option Nat := none
  dport : Option Nat := none
  /-- Offset of the network header. -/
  l3 : Nat := 0
  /-- Offset of the transport header, when reached. -/
  l4 : Option Nat := none
  deriving DecidableEq, Repr

/-- A 16-bit field of a frame, if it is there. -/
def field16 (f : List Byte) (o : Nat) : Option Nat := if o + 2 ≤ f.length then some (rdBe f o 2) else none

/-- Is this one of the VLAN tag types? -/
def isTag (t : Nat) : Bool := t == 0x8100 || t == 0x88A8 || t == 0x9100

/-- Skip up to `n` VLAN tags from the EtherType at `o`. -/
def skipTags (f : List Byte) : Nat → Nat → Nat
  | 0, o => o
  | n + 1, o => match field16 f o with
    | some t => if isTag t then skipTags f n (o + 4) else o
    | none => o

/-- The fixed extractor (R152).  A fragment other than the first carries no ports. -/
def extractFixed (f : List Byte) : Extracted :=
  let o := skipTags f 2 12
  let tci := match field16 f 12 with
    | some t => if isTag t then field16 f 14 else none
    | none => none
  let base : Extracted :=
    { etherType := field16 f o, vlan := tci.map (· % 4096), pcp := tci.map (· / 8192), l3 := o + 2 }
  let l3 := o + 2
  let ports := fun (e : Extracted) (proto off : Nat) =>
    if proto = 6 ∨ proto = 17 then { e with sport := field16 f off, dport := field16 f (off + 2), l4 := some off }
    else { e with l4 := some off }
  match base.etherType with
  | some 0x0800 =>
    if l3 + 20 > f.length ∨ rd f l3 1 / 16 ≠ 4 ∨ rd f l3 1 % 16 < 5 then base
    else
      let proto := rd f (l3 + 9) 1
      let e := { base with dscp := some (rd f (l3 + 1) 1 / 4), proto := some proto }
      if rdBe f (l3 + 6) 2 % 8192 ≠ 0 then e else ports e proto (l3 + 4 * (rd f l3 1 % 16))
  | some 0x86DD =>
    if l3 + 40 > f.length ∨ rd f l3 1 / 16 ≠ 6 then base
    else
      let proto := rd f (l3 + 6) 1
      ports { base with dscp := some (rdBe f l3 2 / 64 % 64), proto := some proto } proto (l3 + 40)
  | _ => base

/-- Does comparator `c` of pipeline `p` match (R153)?  `source` is 0 for a front port. -/
def rcmpMatches (s : State) (p source : Nat) (e : Extracted) (c : Nat) : Bool :=
  let ctl := (reg s 11 p (4 * c)).toNat
  let bnd := (reg s 11 p (4 * c + 1)).toNat
  let within := fun (x : Option Nat) => match x with
    | some v => decide (bnd % 65536 ≤ v ∧ v ≤ bnd / 65536)
    | none => false
  let admits := bitsOf ctl 12 11 == 0 || (bitsOf ctl 12 11 == 1 && source == 0) || (bitsOf ctl 12 11 == 2 && source != 0)
  admits && (match ctl % 16 with
    | 1 => within e.etherType
    | 2 => within e.vlan
    | 3 => within e.pcp
    | 4 => within e.dscp
    | 5 => within e.proto
    | 6 => within e.sport
    | 7 => within e.dport
    | 8 => within e.sport || within e.dport
    | _ => false)

/-- What the comparators decide (R153). -/
inductive RcmpVerdict where
  | noMatch
  | drop
  | toMc
  | toTu
  | forward (port cls : Nat) (protection : Bool)
  deriving DecidableEq, Repr

/-- The decision of the lowest-numbered matching comparator, with its number (R153). -/
def rcmpDecide (s : State) (p source : Nat) (f : List Byte) : Option Nat × RcmpVerdict :=
  let e := extractFixed f
  match (List.range 64).find? (rcmpMatches s p source e) with
  | none => (none, .noMatch)
  | some c =>
    let ctl := (reg s 11 p (4 * c)).toNat
    (some c, match bitsOf ctl 6 4 with
      | 0 => .drop
      | 1 => .toMc
      | 2 => .toTu
      | _ => .forward (bitsOf ctl 23 16) (bitsOf ctl 10 8) (bitOf ctl 7))

/-- Count the comparators' decision (R157). -/
def countRcmp (p : Nat) (c : Option Nat) (s : State) : State :=
  match c with
  | some c => bump32 11 p (4 * c + 2) 1 s
  | none => bump32 11 p 0x100 1 s

/-- The action that the comparators' decision stands for (R154). -/
def rcmpAction : RcmpVerdict → ActionSet
  | .drop => { drop := some true }
  | .forward port cls prot =>
    { redirect := some (1, port), cls := some cls, protection := if prot then some true else none }
  | _ => {}

end Sys2Proof.Machine
end

