-- ==== Sys2Proof/Machine/Images.lean ====
section
/-! DEFINITION. Loading and switching parse graphs and profiles, and the atomic change of bank masks: R126, R127, R146,
R147, R616, R617 and PARSE_ERR_RATE of R128. -/

namespace Sys2Proof.Machine

/-- The pipelines of a mask. -/
def pipesOf (m : Nat) : List Nat := (List.range 4).filter (bitOf m)

/-- The pipeline mask of an argument, if it is legal: not 0, bits [7:4] zero (R616). -/
def pipeMask (p : List Byte) : Option Nat :=
  if rd p 0 1 = 0 ∨ rd p 0 1 > 15 then none else some (rd p 0 1)

/-- Is a graph or profile bank of pipeline `p` that is not active still in use by a recirculating packet (R126)? -/
def bankDraining (s : State) (p : Nat) (graph : Bool) : Bool :=
  let x := pipeAt s p
  s.path.pkts.any (fun e => e.2.pipe == p && e.2.stage == .recirc &&
    (if graph then e.2.graphBank != x.graphActive else e.2.profBank != x.profActive))

/-- The inactive graph bank. -/
def idleGraph (x : Pipe) : ImageBank := if x.graphActive then x.graph0 else x.graph1
/-- The inactive profile bank. -/
def idleProf (x : Pipe) : ImageBank := if x.profActive then x.prof0 else x.prof1
/-- Put the inactive graph bank. -/
def Pipe.putIdleGraph (x : Pipe) (b : ImageBank) : Pipe :=
  if x.graphActive then { x with graph0 := b } else { x with graph1 := b }
/-- Put the inactive profile bank. -/
def Pipe.putIdleProf (x : Pipe) (b : ImageBank) : Pipe :=
  if x.profActive then { x with prof0 := b } else { x with prof1 := b }
/-- Put the active profile bank. -/
def Pipe.putActiveProf (x : Pipe) (b : ImageBank) : Pipe :=
  if x.profActive then { x with prof1 := b } else { x with prof0 := b }

/-- The image_id of a bank. -/
def imageId (b : ImageBank) : Nat := rd b.image 0x0C 4

/-- GRAPH_LOAD (R126, R616): into the inactive bank of every named pipeline, or of none. -/
def bodyGraphLoad (r : Req) (s : State) : State × Reply :=
  if r.payload.length ≠ 24 ∨ !zeros r.payload 1 7 then (s, .no St.eArg)
  else match pipeMask r.payload with
    | none => (s, .no St.eArg)
    | some m =>
      match descBytes r 8 s with
      | .error e => (s, .no e)
      | .ok b =>
        match graphFault b with
        | some (st, pl) => (s, { status := st, payload := pl })
        | none =>
          if (pipesOf m).any (fun p => bankDraining s p true || (pipeAt s p).graphPending) then (s, .no St.eBusy)
          else ((pipesOf m).foldl (fun s p =>
              let x := pipeAt s p
              raise Ev.graphLoaded (le 1 p ++ le 1 (b2n !x.graphActive) ++ le 4 (rd b 0x0C 4))
                (setPipe p (x.putIdleGraph { valid := true, image := b }) s)) s, .yes [])

/-- GRAPH_SWITCH (R126, R616). -/
def bodyGraphSwitch (r : Req) (s : State) : State × Reply :=
  if r.payload.length ≠ 8 ∨ !zeros r.payload 1 7 then (s, .no St.eArg)
  else match pipeMask r.payload with
    | none => (s, .no St.eArg)
    | some m =>
      if (pipesOf m).any (fun p => !(idleGraph (pipeAt s p)).valid) then (s, .no St.eArg)
      else if (pipesOf m).any (fun p => (pipeAt s p).graphPending) then (s, .no St.eBusy)
      else
        let s1 := (pipesOf m).foldl (fun s p => setPipe p { pipeAt s p with graphPending := true } s) s
        (defer { due := dueTick s r.cycle, change := .graphSwitch m, resp := some (respOf Op.graphSwitch r 0 []) } s1,
         { waits := true })

/-- PROFILE_LOAD (R147, R617). -/
def bodyProfileLoad (r : Req) (s : State) : State × Reply :=
  if r.payload.length ≠ 24 ∨ !zeros r.payload 1 7 then (s, .no St.eArg)
  else match pipeMask r.payload with
    | none => (s, .no St.eArg)
    | some m =>
      match descBytes r 8 s with
      | .error e => (s, .no e)
      | .ok b =>
        match profileFaultOn (fun j k => (pipesOf m).any (fun p => lookupBreach s p b j k)) b with
        | some (st, pl) => (s, { status := st, payload := pl })
        | none =>
          if (pipesOf m).any (fun p => bankDraining s p false || (pipeAt s p).profPending) then (s, .no St.eBusy)
          else ((pipesOf m).foldl (fun s p =>
              let x := pipeAt s p
              raise Ev.profileLoaded (le 1 p ++ le 1 (b2n !x.profActive) ++ le 4 (rd b 0x0C 4))
                (setPipe p (x.putIdleProf { valid := true, image := b }) s)) s, .yes [])

/-- Why PROFILE_SWITCH is refused on pipeline `p` with E_ARG (R147, R617). -/
def profileSwitchBad (s : State) (withGraph : Bool) (p : Nat) : Bool :=
  let x := pipeAt s p
  let b := idleProf x
  let g := if withGraph || x.graphPending then idleGraph x else activeGraph x
  !b.valid || (withGraph && !(idleGraph x).valid) ||
  (rd b.image 0x10 4 != 0 && (!g.valid || rd b.image 0x10 4 != imageId g)) || (badProfile s p b.image).isSome

/-- PROFILE_SWITCH (R147, R617). -/
def bodyProfileSwitch (r : Req) (s : State) : State × Reply :=
  if r.payload.length ≠ 8 ∨ rd r.payload 1 1 > 1 ∨ !zeros r.payload 2 6 then (s, .no St.eArg)
  else match pipeMask r.payload with
    | none => (s, .no St.eArg)
    | some m =>
      let wg := rd r.payload 1 1 = 1
      if (pipesOf m).any (profileSwitchBad s wg) then (s, .no St.eArg)
      else if (pipesOf m).any (fun p =>
          (pipeAt s p).profPending || (pipeAt s p).commitPending || (wg && (pipeAt s p).graphPending)) then
        (s, .no St.eBusy)
      else
        let s1 := (pipesOf m).foldl (fun s p =>
          let x := pipeAt s p
          setPipe p { x with profPending := true, graphPending := x.graphPending || wg } s) s
        (defer { due := dueTick s r.cycle, change := .profileSwitch m wg,
                 resp := some (respOf Op.profileSwitch r 0 []) } s1, { waits := true })

/-- An image with the masks of a commit in place (R146): items are profile, lookup, mask. -/
def withMasks (b : List Byte) (items : List (Nat × Nat × Nat)) : List Byte :=
  items.foldl (fun b i => splice b (lookOff i.1 i.2.1) (le 2 i.2.2)) b

/-- The active profile image of pipeline `p` as the commits that wait will leave it. -/
def imageAhead (s : State) (p : Nat) : List Byte :=
  s.sys.deferred.foldl (fun b d => match d.change with
    | .bankMask m items => if bitOf m p then withMasks b items else b
    | _ => b) (activeProf (pipeAt s p)).image

/-- The triples of a BANKMASK_COMMIT argument (R617). -/
def commitItems (p : List Byte) (n : Nat) : List (Nat × Nat × Nat) :=
  (List.range n).map (fun i => (rd p (8 + 4 * i) 1, rd p (9 + 4 * i) 1, rd p (10 + 4 * i) 2))

/-- BANKMASK_COMMIT (R146, R617).  A triple that names a profile or a lookup which is not valid is refused with E_ARG, and so is a
pipeline without a valid active image (DESIGN CHOICE, log 25). -/
def bodyBankmaskCommit (r : Req) (s : State) : State × Reply :=
  let n := rd r.payload 2 2
  if r.payload.length < 8 ∨ !zeros r.payload 1 1 ∨ !zeros r.payload 4 4 ∨ n = 0 ∨ n > 256 ∨
      r.payload.length ≠ 8 + 4 * n then (s, .no St.eArg)
  else match pipeMask r.payload with
    | none => (s, .no St.eArg)
    | some m =>
      let items := commitItems r.payload n
      let bad := fun p =>
        let b := imageAhead s p
        !(activeProf (pipeAt s p)).valid ||
        items.any (fun i => i.1 > 63 || i.2.1 > 3 || !bitOf (rd b (profOff i.1) 1) 0 ||
          !bitOf (rd b (lookOff i.1 i.2.1 + 3) 1) 0) ||
        (badProfile s p (withMasks b items)).isSome
      if (pipesOf m).any bad then (s, .no St.eArg)
      else if (pipesOf m).any (fun p => (pipeAt s p).profPending) then (s, .no St.eBusy)
      else
        let s1 := (pipesOf m).foldl (fun s p => setPipe p { pipeAt s p with commitPending := true } s) s
        (defer { due := dueTick s r.cycle, change := .bankMask m items,
                 resp := some (respOf Op.bankmaskCommit r 0 []) } s1, { waits := true })

/-! ### At the boundary -/

/-- Switch the graph bank of pipeline `p` (R126). -/
def switchGraph (s : State) (p : Nat) : State :=
  let x := pipeAt s p
  setPipe p { x with graphActive := !x.graphActive, graphPending := false, graphSwitchedAt := some s.tick.count } s

/-- GRAPH_SWITCHED: the switch takes effect at step 8. -/
def applyGraphSwitch (m : Nat) (s : State) : State :=
  (pipesOf m).foldl (fun s p =>
    let s1 := switchGraph s p
    raise Ev.graphSwitched (le 1 p ++ le 1 (b2n (pipeAt s1 p).graphActive) ++ le 8 s.tick.count.toNat) s1) s

/-- PROFILE_SWITCHED: the switch takes effect at step 8, with the graph's where asked (R147). -/
def applyProfileSwitch (m : Nat) (wg : Bool) (s : State) : State :=
  (pipesOf m).foldl (fun s p =>
    let x := pipeAt s p
    let s1 := setPipe p { x with profActive := !x.profActive, profPending := false,
                                 profSwitchedAt := some s.tick.count } s
    let s2 := if wg then
        let s2 := switchGraph s1 p
        raise Ev.graphSwitched (le 1 p ++ le 1 (b2n (pipeAt s2 p).graphActive) ++ le 8 s.tick.count.toNat) s2
      else s1
    raise Ev.profileSwitched
      (le 1 p ++ le 1 (b2n (pipeAt s2 p).profActive) ++ le 1 (b2n wg) ++ le 8 s.tick.count.toNat) s2) s

/-- BANKMASK_COMMITTED: all triples replace the masks at step 8 (R146). -/
def applyBankMask (m : Nat) (items : List (Nat × Nat × Nat)) (s : State) : State :=
  let s1 := (pipesOf m).foldl (fun s p =>
    let x := pipeAt s p
    let b := activeProf x
    let more := s.sys.deferred.any (fun d => match d.change with
      | .bankMask m' _ => bitOf m' p
      | _ => false)
    setPipe p { x.putActiveProf { b with image := withMasks b.image items } with commitPending := more } s) s
  raise Ev.bankmaskCommitted (le 1 m ++ le 2 items.length ++ le 8 s.tick.count.toNat) s1

/-- PARSE_ERR_RATE (R128): the flagged packets of the last 1,024 ticks exceed ERR_THRESHOLD, unless it is 0. -/
def parseErrRate (p : Nat) (s : State) : State :=
  let t := (reg s 8 p 3).toNat
  let n := recentSum s (pipeAt s p).flagged
  if t = 0 ∨ n ≤ t then s
  else raiseOnce Ev.parseErrRate p (fun _ => le 1 p ++ le 4 n) s

/-! ### The meanings -/

/-- GRAPH_LOAD. -/
def execGraphLoad (r : Req) (s : State) : Host.Outcome State Fault Refusal :=
  .next (runToune Op.graphLoad bodyGraphLoad r s)
/-- GRAPH_SWITCH. -/
def execGraphSwitch (r : Req) (s : State) : Host.Outcome State Fault Refusal :=
  .next (runToune Op.graphSwitch bodyGraphSwitch r s)
/-- PROFILE_LOAD. -/
def execProfileLoad (r : Req) (s : State) : Host.Outcome State Fault Refusal :=
  .next (runToune Op.profileLoad bodyProfileLoad r s)
/-- PROFILE_SWITCH. -/
def execProfileSwitch (r : Req) (s : State) : Host.Outcome State Fault Refusal :=
  .next (runToune Op.profileSwitch bodyProfileSwitch r s)
/-- BANKMASK_COMMIT. -/
def execBankmaskCommit (r : Req) (s : State) : Host.Outcome State Fault Refusal :=
  .next (runToune Op.bankmaskCommit bodyBankmaskCommit r s)
/-- PARSE_ERR_RATE. -/
def execParseErrRate (p : Fin 4) (s : State) : Host.Outcome State Fault Refusal := .next (parseErrRate p s)

end Sys2Proof.Machine
end

