-- ==== Sys2Proof/Machine/Fwd.lean ====
section
/-! DEFINITION. The forwarding tables: exact tables with relocation, prefixes, next hops, groups, load-spread members,
learning, the table commands, the maintenance port and REHASH (chapter 08). -/

namespace Sys2Proof.Machine

/-- One pipeline's copy. -/
def fwdAt (s : State) (p : Nat) : FwdCopy := tgetD (fun _ => {}) s.path.fwd p

/-- Put one pipeline's copy. -/
def setFwd (p : Nat) (x : FwdCopy) (s : State) : State := s.setPath { s.path with fwd := tput s.path.fwd p x }

/-! ### Exact tables -/

/-- Buckets of an exact table (R185). -/
def buckets : Nat := 131072

/-- The bucket of a key under one seed: CRC-32C from that initial value, with the final inversion that R615 lays down
where a rule does not say otherwise (R186). -/
def bucketOf (key : List Byte) (seed : Word) : Nat := (crc32cRaw seed key ^^^ 0xFFFFFFFF).toNat % buckets

/-- The two candidate buckets of a key under a pair of seeds (R186). -/
def candidates (key : List Byte) (seeds : Word × Word) : Nat × Nat :=
  let b0 := bucketOf key seeds.1
  let b1 := bucketOf key seeds.2
  (b0, if b1 = b0 then Nat.xor b0 1 else b1)

/-- What an exact table's entry type tells: its key bytes and the slots it takes. -/
structure ExactKind (α : Type) where
  key : α → List Byte
  slots : α → Nat

/-- The L2 key: MAC address and VLAN, in network order (R186). -/
def l2Key (mac : Mac) (vlan : Nat) : List Byte := be 6 mac.toNat ++ be 2 (vlan % 4096)

/-- L2 entries. -/
def l2Kind : ExactKind L2Entry := { key := fun e => l2Key e.mac e.vlan, slots := fun _ => 1 }

/-- The L3 host key: table identifier, family and address, in network order (R186). -/
def l3Key (table : Nat) (v6 : Bool) (addr : BitVec 128) : List Byte :=
  be 2 table ++ be 1 (b2n v6) ++ (if v6 then be 16 addr.toNat else be 4 addr.toNat)

/-- L3 host entries: an IPv6 entry takes two slots. -/
def l3Kind : ExactKind L3Entry :=
  { key := fun e => l3Key e.table e.v6 e.addr, slots := fun e => if e.v6 then 2 else 1 }

/-- Is slot `i` of bucket `b` taken? -/
def slotTaken {α : Type} (kd : ExactKind α) (m : Table α) (b i : Nat) : Bool :=
  (tfind m (4 * b + i)).isSome ||
  (i % 2 == 1 && (match tfind m (4 * b + i - 1) with | some e => kd.slots e == 2 | none => false))

/-- The first free place of `n` slots in bucket `b` (R186, R188). -/
def freePlace {α : Type} (kd : ExactKind α) (m : Table α) (b n : Nat) : Option Nat :=
  if n = 2 then
    ([0, 2].find? (fun i => !slotTaken kd m b i && !slotTaken kd m b (i + 1))).map (fun i => 4 * b + i)
  else ((List.range 4).find? (fun i => !slotTaken kd m b i)).map (fun i => 4 * b + i)

/-- The slot of a key among the buckets of all seed pairs probed (R187). -/
def slotOf {α : Type} (kd : ExactKind α) (m : Table α) (pairs : List (Word × Word)) (key : List Byte) : Option Nat :=
  pairs.findSome? (fun sd =>
    let c := candidates key sd
    ([c.1, c.2].flatMap (fun b => (List.range 4).map (fun i => 4 * b + i))).find? (fun k =>
      match tfind m k with | some e => kd.key e == key | none => false))

/-- The other bucket of an occupant of bucket `b`: under the newest seed pair that places it in `b`. -/
def otherBucket {α : Type} (kd : ExactKind α) (pairs : List (Word × Word)) (e : α) (b : Nat) : Nat :=
  (pairs.reverse.findSome? (fun sd =>
    let c := candidates (kd.key e) sd
    if c.1 = b then some c.2 else if c.2 = b then some c.1 else none)).getD b

/-- Move the occupant of slot `k` into bucket `dst`, if there is a free place for it. -/
def moveTo {α : Type} (kd : ExactKind α) (m : Table α) (k dst : Nat) : Option (Table α) :=
  match tfind m k with
  | none => none
  | some e => (freePlace kd m dst (kd.slots e)).map (fun f => terase (tput m f e) k)

/-- Follow the chain of R188 by reading alone: the occupants met, each with the bucket it goes to. -/
def chain {α : Type} (kd : ExactKind α) (pairs : List (Word × Word)) (m : Table α) :
    Nat → Nat → Nat → List (Nat × Nat) → Option (List (Nat × Nat))
  | 0, _, _, _ => none
  | fuel + 1, k, b, path =>
    let i := k % 4
    let slot := if slotTaken kd m b i && (tfind m (4 * b + i)).isNone then 4 * b + i - 1 else 4 * b + i
    match tfind m slot with
    | none => none
    | some e =>
      if path.any (fun x => x.1 == slot) then none
      else
        let o := otherBucket kd pairs e b
        let path' := path ++ [(slot, o)]
        if (freePlace kd m o (kd.slots e)).isSome then some path' else chain kd pairs m fuel (k + 1) o path'

/-- Commit moves, the last first; none when one of them finds no place. -/
def commitMoves {α : Type} (kd : ExactKind α) (m : Table α) (path : List (Nat × Nat)) : Option (Table α) :=
  path.reverse.foldl (fun m x => match m with
    | some m => moveTo kd m x.1 x.2
    | none => none) (some m)

/-- Insert an entry under the newest seeds: the table and the writes made, or none (R188, R189). -/
def insertExact {α : Type} (kd : ExactKind α) (pairs : List (Word × Word)) (e : α) (m : Table α) :
    Option (Table α × Nat) :=
  let c := candidates (kd.key e) (pairs.getLast?.getD (0, 0))
  let n := kd.slots e
  match freePlace kd m c.1 n, freePlace kd m c.2 n with
  | some f, _ => some (tput m f e, 1)
  | none, some f => some (tput m f e, 1)
  | none, none =>
    let one := [c.1, c.2].findSome? (fun b => (List.range 4).findSome? (fun i =>
      match tfind m (4 * b + i) with
      | none => none
      | some x => (moveTo kd m (4 * b + i) (otherBucket kd pairs x b)).bind (fun m' =>
          (freePlace kd m' b n).map (fun f => (tput m' f e, 2)))))
    match one with
    | some r => some r
    | none =>
      (chain kd pairs m 8 0 c.1 []).bind (fun path => (commitMoves kd m path).bind (fun m' =>
        (freePlace kd m' c.1 n).map (fun f => (tput m' f e, path.length + 1))))

/-- The seed pairs that a table probes, the oldest first (R201). -/
def seedPairs (x : FwdCopy) (table : Nat) : List (Word × Word) :=
  tgetD (fun _ => []) x.closing table ++ (x.seeds.getD (2 * table) 0, x.seeds.getD (2 * table + 1) 0) :: tgetD (fun _ => []) x.dual table

/-- The L2 entry of a station. -/
def l2Find (x : FwdCopy) (mac : Mac) (vlan : Nat) : Option L2Entry :=
  (slotOf l2Kind x.l2 (seedPairs x 0) (l2Key mac vlan)).bind (tfind x.l2)

/-- The L3 host entry of an address. -/
def l3Find (x : FwdCopy) (table : Nat) (v6 : Bool) (addr : BitVec 128) : Option L3Entry :=
  (slotOf l3Kind x.l3 (seedPairs x 1) (l3Key table v6 addr)).bind (tfind x.l3)

/-! ### Prefixes -/

/-- Does a prefix cover an address of `w` bits? -/
def Prefix.covers (w : Nat) (q : Prefix) (addr : BitVec 128) : Bool :=
  q.addr.toNat / 2 ^ (w - q.len) == addr.toNat / 2 ^ (w - q.len)

/-- The longest matching prefix of a routing table (R196). -/
def lpmFind (ps : List Prefix) (w table : Nat) (addr : BitVec 128) : Option Prefix :=
  (ps.filter (fun q => q.table == table && q.covers w addr)).foldl (fun b q => match b with
    | none => some q
    | some y => if q.len > y.len then some q else some y) none

/-- The next hop of a destination: host table first, then the longest prefix (R196). -/
def routeFind (x : FwdCopy) (table : Nat) (v6 : Bool) (addr : BitVec 128) : Option Nat :=
  match l3Find x table v6 addr with
  | some e => some e.nh
  | none => ((if v6 then lpmFind x.lpm6 128 table addr else lpmFind x.lpm4 32 table addr)).map (fun q => q.nh)

/-! ### Failed insertions -/

/-- REHASH_NEEDED: an insertion found no slot (R189). -/
def rehashNeeded (p table : Nat) (s : State) : State :=
  raiseLimited Ev.rehashNeeded (2 * p + table) (fun n => le 1 p ++ le 1 table ++ le 4 n) s

/-- Write or replace an L2 entry: the state and the writes made; false when there is no room (R188, R189). -/
def l2Put (p : Nat) (e : L2Entry) (s : State) : State × Nat × Bool :=
  let x := fwdAt s p
  match slotOf l2Kind x.l2 (seedPairs x 0) (l2Key e.mac e.vlan) with
  | some k => (setFwd p { x with l2 := tput x.l2 k e } s, 1, true)
  | none => match insertExact l2Kind (seedPairs x 0) e x.l2 with
    | some (m, n) => (setFwd p { x with l2 := m } s, n, true)
    | none => (rehashNeeded p 0 s, 0, false)

/-- Write or replace an L3 host entry. -/
def l3Put (p : Nat) (e : L3Entry) (s : State) : State × Nat × Bool :=
  let x := fwdAt s p
  match slotOf l3Kind x.l3 (seedPairs x 1) (l3Key e.table e.v6 e.addr) with
  | some k => (setFwd p { x with l3 := tput x.l3 k e } s, 1, true)
  | none => match insertExact l3Kind (seedPairs x 1) e x.l3 with
    | some (m, n) => (setFwd p { x with l3 := m } s, n, true)
    | none => (rehashNeeded p 1 s, 0, false)

/-! ### The table commands -/

/-- Size of an item of TABLE_WRITE (R619). -/
def writeItemSize : Nat → Nat
  | 0 => 16 | 1 => 24 | 2 => 24 | 3 => 24 | 4 => 20 | 5 => 28 | _ => 8

/-- Size of an item of TABLE_DELETE (R619). -/
def deleteItemSize : Nat → Nat
  | 0 => 8 | 1 => 24 | 2 => 24 | 3 => 24 | _ => 4

/-- A route entry as laid out in R197: table, IPv6, length, address, next hop. -/
def routeOf (b : List Byte) : Nat × Bool × Nat × BitVec 128 × Nat :=
  let v6 := rd b 2 1 = 1
  (rd b 0 2, v6, rd b 3 1, BitVec.ofNat 128 (if v6 then rdBe b 4 16 else rdBe b 4 4), rd b 0x14 4 % 131072)

/-- Is a route entry refused for a table (R197)? -/
def routeBad (table : Nat) (b : List Byte) (delete : Bool) : Bool :=
  let (t, v6, len, addr, _) := routeOf b
  let w := if v6 then 128 else 32
  t > 4095 || rd b 2 1 > 1 || (table == 2 && v6) || (table == 3 && !v6) ||
  (table == 1 && len != 0) || (table != 1 && (len > w || addr.toNat % 2 ^ (w - min len w) != 0)) ||
  (!v6 && !zeros b 8 12) || rd b 0x14 4 ≥ 131072 || (delete && rd b 0x14 4 != 0)

/-- A router address of a pipeline (R203). -/
def routerMac (s : State) (p i : Nat) : Nat :=
  (reg s 12 p (0x10 + 2 * i)).toNat + 2 ^ 32 * regField s 12 p (0x11 + 2 * i) 15 0

/-- Is a next-hop entry refused on a pipeline (R198)?  The router address is judged for an entry of every kind. -/
def nhBad (s : State) (p : Nat) (v : Nat) : Bool :=
  bitsOf v 9 2 > 129 || v / 2 ^ 76 != 0 || routerMac s p (bitsOf v 75 72) == 0

/-- Is an item of TABLE_WRITE refused on a pipeline (R197 to R200, R202, R619)? -/
def writeItemBad (s : State) (p table : Nat) (b : List Byte) : Bool :=
  match table with
  | 0 =>
    rd b 6 2 > 4095 || rd b 8 1 > 1 || rd b 9 1 != 1 || (rd b 8 1 == 0 && rd b 0x0A 2 > 129) || !zeros b 0x0C 4
  | 4 => rd b 0 4 ≥ 131072 || nhBad s p (rd b 4 16)
  | 5 => rd b 0 4 ≥ 65536 || rd b 4 24 / 2 ^ 131 != 0
  | 6 =>
    let m := rd b 4 4
    rd b 0 1 > 63 || rd b 1 1 != 0 || rd b 2 2 > 4095 || bitsOf m 30 17 != 0 ||
    (tgetD (fun _ => 0) (fwdAt s p).nh (m % 131072)).toNat % 4 == 2
  | t => routeBad t b false

/-- Is an item of TABLE_DELETE refused (R619)? -/
def deleteItemBad (table : Nat) (b : List Byte) : Bool :=
  match table with
  | 0 => rd b 6 2 > 4095
  | 4 => rd b 0 4 ≥ 131072
  | 5 => rd b 0 4 ≥ 65536
  | 6 => rd b 0 1 > 63 || rd b 1 1 != 0 || rd b 2 2 > 4095
  | t => routeBad t b true

/-- Cut a string into items of `n` bytes. -/
def itemsOf (n : Nat) : Nat → List Byte → List (List Byte)
  | 0, _ => []
  | k + 1, b => b.take n :: itemsOf n k (b.drop n)

/-- Accept a table command for the pipelines of a mask (R194, R202). -/
def acceptTable (op table m : Nat) (items : List (List Byte)) (r : Req) (s : State) : State × Reply :=
  accepted op r true (fun h s => s.setPath { s.path with
    tableOps := s.path.tableOps ++
      [{ handle := h, session := r.session, opcode := op, table := table, items := items,
         waiting := (pipesOf m).map (fun p => (p, 0)), lastTick := s.tick.count }] }) s

/-- TABLE_WRITE and TABLE_DELETE (R202, R619). -/
def tableCommand (op : Nat) (r : Req) (s : State) : State × Reply :=
  let p := r.payload
  let t := rd p 0 1
  let n := rd p 2 2
  let del := op = Op.tableDelete
  let sz := if del then deleteItemSize t else writeItemSize t
  let items := itemsOf sz n (p.drop 8)
  match pipeMask (p.drop 1) with
  | none => (s, .no St.eArg)
  | some m =>
    if t > 6 ∨ n = 0 ∨ n > 64 ∨ !zeros p 4 4 ∨ p.length ≠ 8 + sz * n then (s, .no St.eArg)
    else if items.any (fun b => if del then deleteItemBad t b else (pipesOf m).any (fun q => writeItemBad s q t b)) then
      (s, .no St.eArg)
    else acceptTable op t m items r s

/-- TABLE_WRITE. -/
def bodyTableWrite : Req → State → State × Reply := tableCommand Op.tableWrite
/-- TABLE_DELETE. -/
def bodyTableDelete : Req → State → State × Reply := tableCommand Op.tableDelete

/-- L2_FLUSH (R202, R619). -/
def bodyL2Flush (r : Req) (s : State) : State × Reply :=
  let p := r.payload
  let fl := rd p 1 1
  match pipeMask p with
  | none => (s, .no St.eArg)
  | some m =>
    if p.length ≠ 8 ∨ fl > 7 ∨ fl % 4 = 0 ∨ rd p 4 2 > 4095 ∨ !zeros p 6 2 then (s, .no St.eArg)
    else acceptTable Op.l2Flush 0 m [p] r s

/-- REHASH (R201, R619): both seeds at 0 let the device take the next pair of its own, which is open. -/
def bodyRehash (r : Req) (s : State) : State × Reply :=
  let p := r.payload
  let t := rd p 1 1
  match pipeMask p with
  | none => (s, .no St.eArg)
  | some m =>
    if p.length ≠ 16 ∨ t > 1 ∨ !zeros p 2 2 ∨ !zeros p 12 4 then (s, .no St.eArg)
    else if (pipesOf m).any (fun q => (fwdAt s q).rehash.any (fun h => h.table == t)) then (s, .no St.eBusy)
    else accepted Op.rehash r true (fun h s =>
      let own := rd p 4 8 = 0
      let n0 : Word := if own then freeBits 32 s else BitVec.ofNat 32 (rd p 4 4)
      let s1 := if own then drawn s else s
      let n1 : Word := if own then freeBits 32 s1 else BitVec.ofNat 32 (rd p 8 4)
      let s2 := if own then drawn s1 else s1
      (pipesOf m).foldl (fun s q =>
        let x := fwdAt s q
        postItem (q / 2) (.rehash q t) (setFwd q { x with
          rehash := x.rehash ++ [{ handle := h, session := r.session, table := t, new0 := n0, new1 := n1 }] } s)) s2) s

/-- A route entry in its layout (R197). -/
def routeBytes (table : Nat) (v6 : Bool) (len : Nat) (addr : BitVec 128) (nh : Nat) : List Byte :=
  le 2 table ++ le 1 (b2n v6) ++ le 1 len ++ (if v6 then be 16 addr.toNat else be 4 addr.toNat ++ le 12 0) ++ le 4 nh

/-- An L2 entry in its layout (R202). -/
def l2Bytes (e : L2Entry) : List Byte :=
  be 6 e.mac.toNat ++ le 2 e.vlan ++ le 1 (b2n e.group) ++ le 1 (b2n e.static) ++ le 2 e.dest ++ le 4 0

/-- The entries of tables 0 to 3 by storage position, in TABLE_WRITE form. -/
def stored (x : FwdCopy) : Nat → List (Nat × List Byte)
  | 0 => x.l2.map (fun e => (e.1, l2Bytes e.2))
  | 1 => x.l3.map (fun e => (e.1, routeBytes e.2.table e.2.v6 0 e.2.addr e.2.nh))
  | 2 => (List.range x.lpm4.length).zip (x.lpm4.map (fun q => routeBytes q.table false q.len q.addr q.nh))
  | _ => (List.range x.lpm6.length).zip (x.lpm6.map (fun q => routeBytes q.table true q.len q.addr q.nh))

/-- TABLE_READ (R619). -/
def bodyTableRead (r : Req) (s : State) : State × Reply :=
  let p := r.payload
  let t := rd p 0 1
  let n := rd p 2 2
  let start := rd p 4 4
  let x := fwdAt s (rd p 1 1)
  if p.length ≠ 16 ∨ t > 6 ∨ rd p 1 1 > 3 ∨ n = 0 ∨ n > 64 ∨ !zeros p 8 8 then (s, .no St.eArg)
  else if t ≤ 3 then
    let rest := (stored x t).filter (fun e => e.1 ≥ start)
    let got := rest.take n
    let next := match rest.drop n with | e :: _ => e.1 | [] => 0xFFFFFFFF
    (s, .yes (le 2 got.length ++ le 2 0 ++ le 4 next ++ (got.map (fun e => e.2)).flatten))
  else
    let size := if t = 4 then 131072 else if t = 5 then 65536 else 64 * 4096
    if start ≥ size then (s, .no St.eRange)
    else
      let k := min n (size - start)
      let item := fun i =>
        if t = 4 then le 4 i ++ le 16 (tgetD (fun _ => 0) x.nh i).toNat
        else if t = 5 then le 4 i ++ le 24 (tgetD (fun _ => 0) x.groups i).toNat
        else le 1 (i / 4096) ++ le 1 0 ++ le 2 (i % 4096) ++ le 4 (tgetD (fun _ => 0) x.spread i).toNat
      let next := if start + k < size then start + k else 0xFFFFFFFF
      (s, .yes (le 2 k ++ le 2 0 ++ le 4 next ++ ((List.range k).map (fun i => item (start + i))).flatten))

/-! ### Applying host commands -/

/-- Apply one item of TABLE_WRITE to a copy: the writes made, and whether it found room. -/
def applyWrite (p table : Nat) (b : List Byte) (s : State) : State × Nat × Bool :=
  let x := fwdAt s p
  match table with
  | 0 => l2Put p { mac := BitVec.ofNat 48 (rdBe b 0 6), vlan := rd b 6 2, group := rd b 8 1 = 1, static := true,
                   dest := rd b 0x0A 2 } s
  | 1 => let (t, v6, _, addr, nh) := routeOf b; l3Put p { table := t, v6 := v6, addr := addr, nh := nh } s
  | 4 => (setFwd p { x with nh := tput x.nh (rd b 0 4) (BitVec.ofNat 128 (rd b 4 16)) } s, 1, true)
  | 5 => (setFwd p { x with groups := tput x.groups (rd b 0 4) (BitVec.ofNat 192 (rd b 4 24)) } s, 1, true)
  | 6 =>
    let k := 4096 * rd b 0 1 + rd b 2 2
    let v := BitVec.ofNat 32 (rd b 4 4)
    let s1 := setFwd p { x with spread := tput x.spread k v } s
    (s1.setPath { s1.path with sliceSpread := tput s1.path.sliceSpread k v }, 1, true)
  | t =>
    let (tb, _, len, addr, nh) := routeOf b
    let ps := if t = 2 then x.lpm4 else x.lpm6
    let same := fun (q : Prefix) => q.table == tb && q.len == len && q.addr == addr
    let put := fun ps => if t = 2 then { x with lpm4 := ps } else { x with lpm6 := ps }
    if ps.any same then
      (setFwd p (put (ps.map (fun q => if same q then { q with nh := nh } else q))) s, 1, true)
    else if ps.length ≥ (if t = 2 then 524288 else 131072) then (s, 0, false)
    else (setFwd p (put (ps ++ [{ table := tb, len := len, addr := addr, nh := nh }])) s, 1, true)

/-- Apply one item of TABLE_DELETE to a copy. -/
def applyDelete (p table : Nat) (b : List Byte) (s : State) : State :=
  let x := fwdAt s p
  match table with
  | 0 => match slotOf l2Kind x.l2 (seedPairs x 0) (l2Key (BitVec.ofNat 48 (rdBe b 0 6)) (rd b 6 2)) with
    | some k => setFwd p { x with l2 := terase x.l2 k } s
    | none => s
  | 1 =>
    let (t, v6, _, addr, _) := routeOf b
    match slotOf l3Kind x.l3 (seedPairs x 1) (l3Key t v6 addr) with
    | some k => setFwd p { x with l3 := terase x.l3 k } s
    | none => s
  | 4 => setFwd p { x with nh := tput x.nh (rd b 0 4) 0 } s
  | 5 => setFwd p { x with groups := tput x.groups (rd b 0 4) 0 } s
  | 6 =>
    let k := 4096 * rd b 0 1 + rd b 2 2
    let s1 := setFwd p { x with spread := tput x.spread k 0 } s
    s1.setPath { s1.path with sliceSpread := tput s1.path.sliceSpread k 0 }
  | t =>
    let (tb, _, len, addr, _) := routeOf b
    let out := fun (q : Prefix) => !(q.table == tb && q.len == len && q.addr == addr)
    if t = 2 then setFwd p { x with lpm4 := x.lpm4.filter out } s else setFwd p { x with lpm6 := x.lpm6.filter out } s

/-- The slots that an L2_FLUSH argument matches (R202, R619). -/
def flushSlots (x : FwdCopy) (b : List Byte) : List Nat :=
  let fl := rd b 1 1
  (x.l2.filter (fun e =>
    (!bitOf fl 0 || (!e.2.group && e.2.dest == rd b 2 2)) && (!bitOf fl 1 || e.2.vlan == rd b 4 2) &&
    (bitOf fl 2 || !e.2.static))).map (fun e => e.1)

/-- Apply as much of one command to copy `p` as `budget` writes allow, an item whole or not at all: the command as it then
stands, and the writes left. -/
def applyOp (p : Nat) (o : TableOp) (budget : Nat) (s : State) : State × TableOp × Nat :=
  match tfind o.waiting p with
  | none => (s, o, budget)
  | some k =>
    if o.opcode = Op.l2Flush then
      let x := fwdAt s p
      let all := flushSlots x (o.items.headD [])
      let now := all.take budget
      let s1 := setFwd p { x with l2 := now.foldl terase x.l2 } s
      let o1 := if now.length = all.length then
          { o with waiting := terase o.waiting p, status := tput o.status p St.ok, lastTick := s.tick.count }
        else o
      (s1, o1, budget - now.length)
    else
      let (s1, j, left, st, _) := (o.items.drop k).foldl (fun (acc : State × Nat × Nat × Half × Bool) b =>
        let (s, j, left, st, go) := acc
        let (s', n, ok) := if o.opcode = Op.tableDelete then (applyDelete p o.table b s, 1, true)
          else applyWrite p o.table b s
        if go && decide (n ≤ left) then (s', j + 1, left - n, if ok then st else St.eNospace, true)
        else (s, j, left, st, false)) (s, k, budget, tgetD (fun _ => St.ok) o.status p, true)
      let done := j ≥ o.items.length
      (s1, { o with waiting := if done then terase o.waiting p else tput o.waiting p j
                    status := tput o.status p st, lastTick := s.tick.count }, left)

/-- Host writes and deletes of one tick, in the order of acceptance: the writes left of the share (R190, R202). -/
def hostWrites (p : Nat) (s : State) : State × Nat :=
  let (s1, ops, left, _) := s.path.tableOps.foldl (fun (acc : State × List TableOp × Nat × Bool) o =>
    let (s, ops, left, go) := acc
    if go then
      let (s', o', left') := applyOp p o left s
      (s', ops ++ [o'], left', (tfind o'.waiting p).isNone)
    else (s, ops ++ [o], left, go)) (s, [], 2048, true)
  (s1.setPath { s1.path with tableOps := ops }, left)

/-- TABLE_OP_DONE: the first command that every named copy has applied completes (R194, R202). -/
def tableOpDone (s : State) : State :=
  match s.path.tableOps.find? (fun o => o.waiting == []) with
  | none => s
  | some o =>
    let overall : Half := if o.status.any (fun e => e.2 != St.ok) then St.eNospace else St.ok
    complete Ev.tableOpDone o.handle overall
      (((List.range 4).map (fun p => le 2 (tgetD (fun _ => St.ok) o.status p).toNat)).flatten ++ le 8 o.lastTick.toNat)
      (s.setPath { s.path with tableOps := s.path.tableOps.filter (fun q => q.handle != o.handle) })

/-! ### Learning -/

/-- Execute one learn in copy `p` (R192): the writes made, and whether the table changed.  An installed learn of another
pipeline follows the rows of a learned entry, and neither counts in LEARNED nor says anything of a static entry (R195; DESIGN
CHOICE, log 30). -/
def learnOne (p : Nat) (l : Learn) (own : Bool) (s : State) : State × Nat × Bool :=
  let x := fwdAt s p
  match l2Find x l.mac l.vlan with
  | none =>
    let (s1, n, ok) := l2Put p { mac := l.mac, vlan := l.vlan, dest := l.port } s
    if ok then (if own then bump48 12 p 0 1 s1 else s1, n, true) else (bump48 12 p 4 1 s1, 0, false)
  | some e =>
    if e.static then
      if !e.group && e.dest == l.port then (s, 0, false)
      else
        (if own then raiseLimited Ev.staticMove p (fun _ => le 1 p ++ be 6 l.mac.toNat ++ le 2 l.vlan ++ le 2 e.dest ++
          le 2 l.port) (bump48 12 p 2 1 s) else s, 0, false)
    else if !e.group && e.dest == l.port then (s, 0, false)
    else
      let (s1, n, _) := l2Put p { e with group := false, dest := l.port } s
      (raiseLimited Ev.l2StationMove p (fun _ => le 1 p ++ be 6 l.mac.toNat ++ le 2 l.vlan ++ le 2 e.dest ++
        le 2 l.port) (bump48 12 p 1 1 s1), n, true)

/-- The learns of the pipeline's own packets within `share` writes; a learn beyond it is discarded and counted in
LEARN_DEFERRED (R190, R192, R195). -/
def ownLearns (p share : Nat) (s : State) : State × Nat :=
  let ls := (fwdAt s p).learns
  let s0 := setFwd p { fwdAt s p with learns := [] } s
  ls.foldl (fun (acc : State × Nat) l =>
    let (s, left) := acc
    let (s1, n, changed) := learnOne p l true s
    if n > left then (bump48 12 p 3 1 s, left)
    else (if changed && bitOf (reg s 12 p 1).toNat 1 then postItem (p / 2) (.learnSync p l) s1 else s1, left - n)) (s0, share)

/-- Synchronised learns within `share` writes; the rest wait (R190, R195). -/
def syncLearns (p share : Nat) (s : State) : State × Nat :=
  let ls := (fwdAt s p).syncIn
  let (s1, left, rest) := ls.foldl (fun (acc : State × Nat × List Learn) l =>
    let (s, left, rest) := acc
    let (s1, n, _) := learnOne p l false s
    if rest ≠ [] ∨ n > left then (s, left, rest ++ [l]) else (s1, left - n, rest)) (s, share, [])
  (setFwd p { fwdAt s1 p with syncIn := rest } s1, left)

/-- LEARN_SYNC: the work of a LEARN_SYNC item puts the learn before the other pipelines' copies; a copy in REJOIN
takes none (R195, R515). -/
def learnSync (p : Nat) (l : Learn) (s : State) : State :=
  ((List.range 4).filter (· != p)).foldl (fun s q =>
    if unitState s ⟨7, q⟩ = .rejoin then s
    else setFwd q { fwdAt s q with syncIn := (fwdAt s q).syncIn ++ [l] } s) s

/-! ### REHASH -/

/-- Does an entry stand in a bucket of the newest seeds? -/
def placedNew {α : Type} (kd : ExactKind α) (sd : Word × Word) (k : Nat) (e : α) : Bool :=
  let c := candidates (kd.key e) sd
  c.1 == k / 4 || c.2 == k / 4

/-- Every slot that holds a key, among the buckets of all seed pairs probed. -/
def slotsOf {α : Type} (kd : ExactKind α) (m : Table α) (pairs : List (Word × Word)) (key : List Byte) : List Nat :=
  (pairs.flatMap (fun sd =>
    let c := candidates key sd
    ([c.1, c.2].flatMap (fun b => (List.range 4).map (fun i => 4 * b + i))).filter (fun k =>
      match tfind m k with | some e => kd.key e == key | none => false))).eraseDups

/-- Move one entry to the new seeds: it is inserted while its old copy stands, and the old copy is vacated where the chain of
the insertion has left it (R188, R201). -/
def moveNew {α : Type} (kd : ExactKind α) (pairs : List (Word × Word)) (sd : Word × Word) (x : α) (m : Table α) :
    Option (Table α × Nat) :=
  (insertExact kd pairs x m).map (fun r =>
    let at' := slotsOf kd r.1 pairs (kd.key x)
    let keep := at'.find? (fun k => placedNew kd sd k x)
    ((at'.filter (fun k => some k != keep)).foldl terase r.1, r.2))

/-- What the walk of a REHASH has reached: the table, the bucket, the writes left, and whether anything has moved. -/
structure Walked (α : Type) where
  m : Table α
  reached : Nat
  left : Nat
  moved : Bool

/-- Move the entries of the buckets from `walked` into their new positions, within `share` writes (R201).  A walk that reaches
the end having moved entries, which may have gone behind it, begins again while old-seed entries remain, so that each is tried
where it stands at the end (DESIGN CHOICE, log 30). -/
def rehashWalk {α : Type} (kd : ExactKind α) (pairs : List (Word × Word)) (sd : Word × Word) (h : Rehash) (share : Nat)
    (m : Table α) : Walked α :=
  let r := (m.filter (fun e => e.1 / 4 ≥ h.walked)).foldl (fun (w : Walked α) e =>
    if w.reached < buckets then w
    else match tfind w.m e.1 with
      | none => w
      | some x =>
        if placedNew kd sd e.1 x then w
        else match moveNew kd pairs sd x w.m with
          | some (m', n) =>
            if n ≤ w.left then { w with m := m', left := w.left - n, moved := true } else { w with reached := e.1 / 4 }
          | none => w) { m := m, reached := buckets, left := share, moved := h.moved }
  if r.reached = buckets && r.moved && r.m.any (fun e => !placedNew kd sd e.1 e.2) then
    { r with reached := 0, moved := false }
  else r

/-- A table probes the new seeds of a run beside the others (R201). -/
def probeNew (h : Rehash) (x : FwdCopy) : FwdCopy :=
  let old := tgetD (fun _ => []) x.dual h.table
  if old.getLast? = some (h.new0, h.new1) then x
  else { x with dual := tput x.dual h.table (old ++ [(h.new0, h.new1)]) }

/-- The REHASH moves of one tick (R190, R201). -/
def rehashTick (p share : Nat) (s : State) : State :=
  let x := fwdAt s p
  match x.rehash with
  | [] => s
  | h :: hs =>
    if !h.running || cancelled s h.handle then s
    else
      let sd := (h.new0, h.new1)
      let x1 := probeNew h x
      let pairs := seedPairs x1 h.table
      if h.table = 0 then
        let w := rehashWalk l2Kind pairs sd h share x1.l2
        setFwd p { x1 with l2 := w.m, rehash := { h with walked := w.reached, moved := w.moved } :: hs } s
      else
        let w := rehashWalk l3Kind pairs sd h share x1.l3
        setFwd p { x1 with l3 := w.m, rehash := { h with walked := w.reached, moved := w.moved } :: hs } s

/-- The work of a REHASH item: the run starts, and from now every lookup probes both pairs of seeds and every insertion uses the
new one (R201). -/
def rehashStart (p table : Nat) (s : State) : State :=
  let x := fwdAt s p
  let x1 := (x.rehash.filter (fun h => h.table = table && !cancelled s h.handle)).foldl (fun x h => probeNew h x) x
  setFwd p { x1 with rehash := x1.rehash.map (fun h => if h.table = table then { h with running := true } else h) } s

/-- The worse of two statuses of copies: the first that is not OK, unless the other says that there was no room (R194). -/
def worse (a b : Half) : Half := if a = St.eNospace ∨ b = St.eNospace then St.eNospace else if a = St.ok then b else a

/-- REHASH_DONE: the run of a pipeline ends, with the seeds replaced or with dual probing (R201).  Each event reports its copy's
status, and that of the last of the named pipelines completes the handle with the overall one (R194, R490). -/
def rehashDone (p : Nat) (s : State) : State :=
  let x := fwdAt s p
  match x.rehash with
  | [] => s
  | h :: hs =>
    let stop := cancelled s h.handle
    if !stop && (!h.running || h.walked < buckets) then s
    else
      let sd := (h.new0, h.new1)
      let left := if h.table = 0 then (x.l2.filter (fun e => !placedNew l2Kind sd e.1 e.2)).length
        else (x.l3.filter (fun e => !placedNew l3Kind sd e.1 e.2)).length
      let st : Half := if stop then St.eCancelled else if left = 0 then St.ok else St.eNospace
      let x1 := if st = St.ok then
          { x with seeds := (x.seeds.set (2 * h.table) h.new0).set (2 * h.table + 1) h.new1
                   closing := tput x.closing h.table ((seedPairs x h.table).filter (· != sd))
                   dual := terase x.dual h.table, rehash := hs }
        else { x with rehash := hs }
      let s1 := setFwd p x1 s
      let mine := fun (g : Rehash) => g.handle == h.handle
      let others := (List.range 4).filter (fun q => (fwdAt s1 q).rehash.any mine)
      let fields := le 1 p ++ le 1 h.table ++ le 2 st.toNat ++ le 4 left
      if others ≠ [] then
        raise Ev.rehashDone (le 4 h.handle.toNat ++ le 2 Op.rehash ++ le 2 st.toNat ++ fields)
          (others.foldl (fun s q => setFwd q { fwdAt s q with rehash := (fwdAt s q).rehash.map (fun g =>
            if mine g then { g with worst := worse (worse h.worst st) g.worst } else g) } s) s1)
      else complete Ev.rehashDone h.handle (worse h.worst st) fields s1

/-- FWD_MAINT_TICK: one tick of a pipeline's maintenance port (R190).  It runs once a tick: what arrives later waits for the
next (DESIGN CHOICE, log 58). -/
def fwdMaintTick (p : Nat) (s : State) : State :=
  if unitState s ⟨7, p⟩ = .rejoin ∨ (fwdAt s p).portAt = some s.tick.count then s
  else
    let (s1, l1) := hostWrites p (setFwd p { fwdAt s p with portAt := some s.tick.count } s)
    let (s2, l2) := ownLearns p (512 + l1) s1
    let (s3, l3) := syncLearns p (512 + l2) s2
    let s4 := rehashTick p (1024 + l3) s3
    let x := fwdAt s4 p
    setFwd p { x with scrubPos := (x.scrubPos + 4) % 2162688 } s4

/-! ### The meanings -/

/-- TABLE_WRITE. -/
def execTableWrite (r : Req) (s : State) : Host.Outcome State Fault Refusal :=
  .next (runToune Op.tableWrite bodyTableWrite r s)
/-- TABLE_DELETE. -/
def execTableDelete (r : Req) (s : State) : Host.Outcome State Fault Refusal :=
  .next (runToune Op.tableDelete bodyTableDelete r s)
/-- TABLE_READ. -/
def execTableRead (r : Req) (s : State) : Host.Outcome State Fault Refusal :=
  .next (runToune Op.tableRead bodyTableRead r s)
/-- L2_FLUSH. -/
def execL2Flush (r : Req) (s : State) : Host.Outcome State Fault Refusal :=
  .next (runToune Op.l2Flush bodyL2Flush r s)
/-- REHASH. -/
def execRehash (r : Req) (s : State) : Host.Outcome State Fault Refusal :=
  .next (runToune Op.rehash bodyRehash r s)
/-- TABLE_OP_DONE. -/
def execTableOpDone (s : State) : Host.Outcome State Fault Refusal := .next (tableOpDone s)
/-- FWD_MAINT_TICK. -/
def execFwdMaintTick (p : Fin 4) (s : State) : Host.Outcome State Fault Refusal := .next (fwdMaintTick p s)
/-- REHASH_DONE. -/
def execRehashDone (p : Fin 4) (s : State) : Host.Outcome State Fault Refusal := .next (rehashDone p s)

end Sys2Proof.Machine
end

