-- ==== Sys2Proof/Machine/Packets.lean ====
section
/-! DEFINITION. Packets inside the device, and what capture and sampling take of a packet when it leaves (R137, R340,
R525 to R528). -/

namespace Sys2Proof.Machine

/-- A packet inside the device. -/
def pktAt (s : State) (k : Nat) : Option Packet := tfind s.path.pkts k

/-- Put a packet. -/
def putPkt (k : Nat) (x : Packet) (s : State) : State := s.setPath { s.path with pkts := tput s.path.pkts k x }

/-- A packet has left. -/
def delPkt (k : Nat) (s : State) : State := s.setPath { s.path with pkts := terase s.path.pkts k }

/-- Enter a new packet under the next number. -/
def newPkt (x : Packet) (s : State) : State :=
  s.setPath { s.path with pkts := tput s.path.pkts s.path.nextPkt x, nextPkt := s.path.nextPkt + 1 }

/-- The egress ports of a packet, rising (R355). -/
def destPorts (x : Packet) : List Nat :=
  match x.route.dest with
  | .port n => [n]
  | .ports m => (List.range 130).filter (bitOf m)
  | _ => []

/-- The host queues of a packet: its destination, and that of its to_host copy (R136, R355). -/
def destHost (x : Packet) : List Nat :=
  match x.route.dest, x.actions.toHost with
  | .host q, some r => if q = r then [q] else [q, r]
  | .host q, none => [q]
  | _, r => r.toList

/-- Copies that a packet asks for (R355). -/
def copiesOf (x : Packet) : Nat := (destPorts x).length + (destHost x).length

/-- The first copy of a packet that departed: its port, its transmit stamp, and whether it was cut through. -/
structure Departed where
  port : Nat
  stamp : Dword
  cut : Bool
  more : Bool

/-- What capture sees of a packet; only one that has departed, or whose copies were all abandoned, had copies (R341). -/
def seenOf (x : Packet) (out : Option Departed) (outcome : Nat) : Seen :=
  { frame := x.frame, port := if x.source = 2 then none else some x.port, out := out.map (fun o => (o.port, o.stamp, o.cut)), inFrc := x.stamp
    outcome := outcome, cls := x.cls, protection := x.protection
    more := (out.isSome || outcome == 4) && decide (copiesOf x > 1)
    parseFlag := x.sample.parseFlag, digest := x.sample.digest }

/-- A packet ends here, delivered to the management complex or for time handling: it is captured, with no egress port and no
transmit stamp (R153, R340; DESIGN CHOICE, log 62). -/
def takePkt (k : Nat) (x : Packet) (s : State) : State := capture (x.pipe / 2) (seenOf x none 0) (delPkt k s)

/-- Trigger conditions that a packet met (R526): bit 1 is a discard. -/
def triggers (x : Packet) (out : Option Departed) : Nat := x.sample.trig + (if out.isNone then 2 else 0)

/-- Why a packet is selected for sampling: mode, trigger, SAMPLE micro-op (R525, R526). -/
def sampleCause (s : State) (x : Packet) (out : Option Departed) : Nat :=
  let c := (reg s 22 (1 + x.pipe) 0).toNat
  let t := triggers x out
  b2n x.sample.mode + 2 * b2n (c % 4 == 3 && (t &&& bitsOf c 12 8) != 0) +
  4 * b2n (bitOf c 2 && x.sample.tag.isSome)

/-- A sample record behind its sequence (R528); the latencies of the stages passed are open. -/
def sampleRecord (s : State) (x : Packet) (out : Option Departed) (outcome cause stages : Nat) : List Byte :=
  let i := x.sample
  le 8 x.stamp.toNat ++ le 8 (match out with | some o => o.stamp.toNat | none => 0) ++ le 1 x.port ++
  le 1 (match out with | some o => o.port | none => 0xFF) ++
  le 1 (x.cls + (match out with | some o => 8 * b2n o.cut + 16 * b2n o.more | none => 0)) ++
  le 1 (cause + 8 * triggers x out) ++ le 1 (if bitOf cause 2 then i.tag.getD 0 else 0) ++
  le 1 (i.tier + 4 * b2n i.viaPtr + 8 * b2n i.created) ++ le 1 outcome ++
  le 1 (i.path.length + 32 * x.pass) ++ padTo 24 (i.path.map (BitVec.ofNat 8)) ++
  (x.actions.ruleIds.flatMap (le 4)) ++ le 8 i.digest.toNat ++ le 4 i.slot ++
  le 1 (if i.hasOp then x.slice else 0) ++ le 3 0 ++
  le (2 * stages) (freeBits (16 * stages) s).toNat ++ le (16 - 2 * stages) 0 ++ le 24 0

/-- SAMPLE_TAKEN and CAPTURE_TAKEN: a packet's first copy departs, or the packet is discarded after `stages` latency
stages (R340, R525). -/
def record (x : Packet) (out : Option Departed) (outcome stages : Nat) (s : State) : State :=
  let die := match out with | some o => dieOfPort o.port | none => x.pipe / 2
  let s1 := capture die (seenOf x out outcome) s
  let cause := sampleCause s1 x out
  if cause = 0 then s1 else drawn (writeSample x.pipe (sampleRecord s1 x out outcome cause stages) s1)

/-- The sampler's choice for a packet that takes a pass-1 slot: every Nth, or at random; the random choice is open
(R525). -/
def sampleMode (p : Nat) (s : State) : State × Bool :=
  let c := regField s 22 (1 + p) 0 1 0
  let n := max 1 (reg s 22 (1 + p) 1).toNat
  if c = 1 then
    let x := smpAt s p
    (setSmp p { x with count := x.count + 1 } s, (x.count + 1) % n == 0)
  else if c = 2 then (drawn s, n == 1 || freeBits 1 s == 1#1)
  else (s, false)

end Sys2Proof.Machine
end

