-- ==== Sys2Proof/Machine/Egress.lean ====
section
/-! DEFINITION. The shared buffers, pools, owners, pause generation, copies and the egress scheduler (chapter 14 and
R25, R97, R98). -/

namespace Sys2Proof.Machine

/-! ### Records -/

/-- One port's record. -/
def portAt (s : State) (n : Nat) : Port := tgetD (fun _ => {}) s.ports.port n
/-- Put one port's record. -/
def setPort (n : Nat) (x : Port) (s : State) : State := s.setPorts { s.ports with port := tput s.ports.port n x }
/-- One die's buffer manager. -/
def bmAt (s : State) (d : Nat) : Bm := tgetD (fun _ => {}) s.buf.bm d
/-- Put one die's buffer manager. -/
def setBm (d : Nat) (x : Bm) (s : State) : State := s.setBuf { s.buf with bm := tput s.buf.bm d x }
/-- One egress port. -/
def egrAt (s : State) (n : Nat) : EgrPort := tgetD (fun _ => {}) s.buf.egr n
/-- Put one egress port. -/
def setEgr (n : Nat) (x : EgrPort) (s : State) : State := s.setBuf { s.buf with egr := tput s.buf.egr n x }
/-- The queue of a class. -/
def EgrPort.q (x : EgrPort) (c : Nat) : List Nat := tgetD (fun _ => []) x.queue c

/-- Send a frame out of a port. -/
def transmit (f : TxFrame) (s : State) : State := s.setPorts { s.ports with sent := s.ports.sent ++ [f] }

/-! ### Modes of ports -/

/-- Lanes of a code of R79. -/
def codeLanes : Nat → Nat
  | 1 => 1 | 2 => 1 | 3 => 1 | 4 => 1 | 5 => 2 | 6 => 2 | 7 => 4 | 8 => 4 | 9 => 8 | 10 => 8 | _ => 0

/-- Rate of a code of R79 in Gbit/s. -/
def codeRate : Nat → Nat
  | 1 => 10 | 2 => 25 | 3 => 50 | 4 => 100 | 5 => 100 | 6 => 200 | 7 => 200 | 8 => 400 | 9 => 400 | 10 => 800 | _ => 0

/-- The code with which a port is set: of its lane in PG.MODE (R79), or by HOST_WIDTH (R93); 0 for no port. -/
def portCode (s : State) (n : Nat) : Nat :=
  if n < 128 then regField s 6 (n / 8) 0 (4 * (n % 8) + 3) (4 * (n % 8))
  else if bitOf (reg s 5 n 0xA).toNat 0 then 10 else 8

/-- The rate of a port: by its resolved mode, or by the mode it is set to. -/
def portRate (s : State) (n : Nat) : Nat :=
  let m := (portAt s n).mode
  codeRate (if m = 0 then portCode s n else m)

/-- Is a port enabled: ctrl.enable set and its port group, or the host transport, in service (R99)? -/
def portEnabled (s : State) (n : Nat) : Bool :=
  (reg s 5 n 0).getLsbD 0 && (if n < 128 then inService s 6 (n / 8) else inService s 19 0)

/-- Is a port disabled for egress (R99, R356)? -/
def egressOff (s : State) (n : Nat) : Bool := !portEnabled s n || (portAt s n).flushed

/-! ### Pause -/

/-- The pause mode of a port; priority flow control is always on at a host port (R94, R97). -/
def pauseMode (s : State) (n : Nat) : Nat := if n ≥ 128 then 2 else regField s 5 n 3 1 0

/-- The pause priority of a frame: the PCP of its outer tag, or untagged_prio (R98). -/
def pausePrio (s : State) (n : Nat) (f : List Byte) : Nat :=
  let t := rdBe f 12 2
  if t = 0x8100 ∨ t = 0x88A8 ∨ t = 0x9100 then rdBe f 14 2 / 8192 else regField s 5 n 3 4 2

/-- A pause frame: Annex 31B in mode 1, priority-based in mode 2 for the priorities of a vector.  The source address of
a front port is open. -/
def pauseFrame (s : State) (n vector quanta : Nat) : List Byte :=
  let src := if n ≥ 128 then (reg s 5 n 8).toNat + 2 ^ 32 * regField s 5 n 9 15 0 else (freeBits 48 s).toNat
  let body := if pauseMode s n = 1 then be 2 0x0001 ++ be 2 quanta
    else be 2 0x0101 ++ be 2 vector ++
      ((List.range 8).map (fun c => be 2 (if bitOf vector c then quanta else 0))).flatten
  padTo 60 (be 6 0x0180C2000001 ++ be 6 src ++ be 2 0x8808 ++ body)

/-- Send XOFF, or XON with quanta 0, for a priority (R98, R352). -/
def sendPause (n prio quanta : Nat) (s : State) : State :=
  drawn (bump48 5 n 10 1 (transmit { port := n, bytes := pauseFrame s n (2 ^ prio) quanta } s))

/-- The instant inside the present tick at which a pause begins, which the command leaves open. -/
def someInstant (s : State) : Dword := s.tick.startFrc + BitVec.ofNat 64 ((freeBits 26 s).toNat % 65536000)

/-- Does a condition require that the partner of port `n` be paused for a priority (R25, R352)? -/
def pauseWanted (s : State) (n prio : Nat) : Bool :=
  (portAt s n).blocked.contains prio || [0, 1].any (fun d => (bmAt s d).pressed.contains (8 * n + prio))

/-- Bring the pause that a port sends into line with its conditions: XOFF when one begins, quanta 0 when all have
cleared (R98).  A port in pause mode 0 sends nothing, nor one whose tx_prio leaves the priority out, nor one that is not UP
(R85). -/
def settlePause (n prio : Nat) (s : State) : State :=
  let x := portAt s n
  let on := (tfind x.xoff prio).isSome
  let may := pauseMode s n != 0 && (n ≥ 128 || pauseMode s n == 1 || bitOf (regField s 5 n 3 20 13) prio) && n < 130 &&
    x.st == .up
  if !may then (if on then setPort n { x with xoff := terase x.xoff prio } s else s)
  else if pauseWanted s n prio && !on then
    sendPause n prio (regField s 5 n 4 15 0) (drawn (setPort n { x with xoff := tput x.xoff prio (someInstant s) } s))
  else if !pauseWanted s n prio && on then
    let x' := { x with xoff := terase x.xoff prio }
    let s1 := setPort n x' s
    if pauseMode s n = 1 && x'.xoff != [] then s1 else sendPause n prio 0 s1
  else s

/-- Bring every pause that a port sends into line. -/
def settlePauses (n : Nat) (s : State) : State := (List.range 8).foldl (fun s k => settlePause n k s) s

/-- Is egress class `c` of port `n` paused by its partner (R97)? -/
def classPaused (s : State) (n c : Nat) : Bool := (tfind (portAt s n).paused c).isSome

/-! ### Pools -/

/-- Cells of a frame (R347). -/
def cellsOf (len : Nat) : Nat := (len + 255) / 256

/-- OWNER_MIN of a die. -/
def ownerMin (s : State) (d : Nat) : Nat := regField s 16 d 0 6 0
/-- HEADROOM_SIZE of a die. -/
def headroomSize (s : State) (d : Nat) : Nat := regField s 16 d 1 17 0
/-- HOST_SIZE of a die. -/
def hostSize (s : State) (d : Nat) : Nat := regField s 16 d 2 17 0
/-- SHARED_SIZE: what the other pools leave (R350). -/
def sharedSize (s : State) (d : Nat) : Nat := 196608 - 1056 * ownerMin s d - headroomSize s d - hostSize s d

/-- The sum of a table of cells. -/
def sumCells (m : Table Nat) : Nat := m.foldl (fun a e => a + e.2) 0

/-- Free shared cells of a die. -/
def sharedFree (s : State) (d : Nat) : Nat := sharedSize s d - sumCells (bmAt s d).shared
/-- Free headroom cells of a die. -/
def headroomFree (s : State) (d : Nat) : Nat := headroomSize s d - sumCells (bmAt s d).headroom
/-- Free host staging cells of a die. -/
def hostFree (s : State) (d : Nat) : Nat := hostSize s d - (bmAt s d).hostUsed

/-- The limit of an owner's shared use, with `f` shared cells free (R351 step 2). -/
def sharedLimit (s : State) (d f : Nat) : Nat := f * regField s 16 d 4 6 0 / 16

/-- Headroom cells that the owners of a source hold on a die. -/
def portHeadroom (s : State) (d src : Nat) : Nat :=
  ((bmAt s d).headroom.filter (fun e => e.1 / 8 == src)).foldl (fun a e => a + e.2) 0

/-- Is a port sending XOFF for a priority: in pause mode 1 an XOFF of any is one of all (R97, R352)? -/
def sendingXoff (s : State) (n prio : Nat) : Bool :=
  (tfind (portAt s n).xoff prio).isSome || (pauseMode s n == 1 && (portAt s n).xoff != [])

/-- Which pool serves a request (R351). -/
inductive Pool where
  | reserved | shared | headroom
  deriving DecidableEq, Repr

/-- The pool that serves a request of `n` cells of owner (src, prio) on die `d`, or none (R351). -/
def poolFor (s : State) (d src prio n : Nat) : Option Pool :=
  let b := bmAt s d
  let o := 8 * src + prio
  let f := sharedFree s d
  if tgetD (fun _ => 0) b.reserved o + n ≤ ownerMin s d then some .reserved
  else if n ≤ f ∧ tgetD (fun _ => 0) b.shared o + n ≤ sharedLimit s d f then some .shared
  else if sendingXoff s src prio ∧ n ≤ headroomFree s d ∧
      portHeadroom s d src + n ≤ regField s 16 d (0x100 + src) 15 0 then some .headroom
  else none

/-- Add to a table of cells. -/
def addCells (m : Table Nat) (o n : Nat) : Table Nat := tput m o (tgetD (fun _ => 0) m o + n)
/-- Take from a table of cells; an owner without cells is not listed. -/
def subCells (m : Table Nat) (o n : Nat) : Table Nat :=
  let v := tgetD (fun _ => 0) m o - n
  if v = 0 then terase m o else tput m o v

/-- Raise the episode events of a die's pools, and end their episodes (R373). -/
def poolEpisodes (d : Nat) (failed : Bool) (src : Nat) (s : State) : State :=
  let b := bmAt s d
  let sh := failed && !b.sharedEpisode && sharedFree s d < 1024
  let hd := failed && (tgetD (fun _ => {}) s.ports.port src).xoff != [] && !b.headEpisode && headroomFree s d < 1024
  let b' := { b with sharedEpisode := if sh then true else b.sharedEpisode && sharedFree s d < 1024
                     headEpisode := if hd then true else b.headEpisode && headroomFree s d < 1024
                     hostEpisode := b.hostEpisode && hostFree s d < 1024 }
  let s1 := setBm d b' s
  let s2 := if sh then raise Ev.sharedExhausted (le 1 d ++ le 8 s.tick.count.toNat) s1 else s1
  if hd then raise Ev.headroomExhausted (le 1 d ++ le 2 src) s2 else s2

/-- HOST_POOL_EXHAUSTED: once per episode (R373). -/
def hostExhausted (d : Nat) (s : State) : State :=
  let b := bmAt s d
  if b.hostEpisode then s
  else raise Ev.hostPoolExhausted (le 1 d ++ le 8 s.tick.count.toNat) (setBm d { b with hostEpisode := true } s)

/-- Charge cells to a pool. -/
def charge (d src prio n : Nat) (p : Pool) (s : State) : State × Charge :=
  let b := bmAt s d
  let o := 8 * src + prio
  match p with
  | .reserved => (setBm d { b with reserved := addCells b.reserved o n } s,
      { die := d, source := src, prio := prio, reserved := n })
  | .shared => (setBm d { b with shared := addCells b.shared o n } s,
      { die := d, source := src, prio := prio, shared := n })
  | .headroom => (setBm d { b with headroom := addCells b.headroom o n } s,
      { die := d, source := src, prio := prio, headroom := n })

/-- Has the condition of an owner cleared: its shared use XON_GAP below its limit and no headroom cell on either die
(R352)? -/
def ownerCleared (s : State) (d o : Nat) : Bool :=
  let use := tgetD (fun _ => 0) (bmAt s d).shared o
  use + regField s 16 d 5 11 0 ≤ sharedLimit s d (sharedFree s d) &&
  [0, 1].all (fun k => tgetD (fun _ => 0) (bmAt s k).headroom o == 0)

/-- Release the owners of a die whose condition has cleared. -/
def releaseOwners (d : Nat) (s : State) : State :=
  (bmAt s d).pressed.foldl (fun s o =>
    if ownerCleared s d o then
      let b := bmAt s d
      settlePause (o / 8) (o % 8) (setBm d { b with pressed := b.pressed.filter (· != o) } s)
    else s) s

/-- Return the cells of a charge to the pools charged (R357). -/
def discharge (c : Charge) (s : State) : State :=
  let b := bmAt s c.die
  let o := 8 * c.source + c.prio
  let s1 := setBm c.die { b with
    reserved := if c.reserved = 0 then b.reserved else subCells b.reserved o c.reserved
    shared := if c.shared = 0 then b.shared else subCells b.shared o c.shared
    headroom := if c.headroom = 0 then b.headroom else subCells b.headroom o c.headroom
    hostUsed := b.hostUsed - c.host } s
  releaseOwners 1 (releaseOwners 0 (poolEpisodes c.die false c.source s1))

/-! ### Copies -/

/-- A stored packet. -/
def storedAt (s : State) (k : Nat) : Option Stored := tfind s.buf.stored k

/-- The last copy of packet `k` has left or been abandoned: the packet is gone, and one of which every copy was
abandoned is seen by capture and sampling as discarded (R340, R357). -/
def bufferGone (k : Nat) (x : Stored) (s : State) : State :=
  match pktAt s k with
  | some y =>
    if y.stage = .cells then s.setBuf { s.buf with stored := tput s.buf.stored k x }
    else
      let s1 := delPkt k (s.setBuf { s.buf with stored := terase s.buf.stored k })
      if x.departed then s1 else record y none 4 6 s1
  | none => s.setBuf { s.buf with stored := terase s.buf.stored k }

/-- Put or take out a stored packet: one without copies is freed, die by die (R357). -/
def putStored (k : Nat) (x : Stored) (s : State) : State :=
  let live := fun d => x.copies.any (fun c => c.die == d)
  let gone := x.charges.filter (fun c => !live c.die)
  let x' := { x with charges := x.charges.filter (fun c => live c.die) }
  let s1 := if x'.copies = [] then bufferGone k x' s
    else s.setBuf { s.buf with stored := tput s.buf.stored k x' }
  gone.foldl (fun s c => discharge c s) s1

/-- Take one copy of a packet off its list (DONE or ABANDONED). -/
def dropCopy (k : Nat) (dest : CopyDest) (s : State) : State :=
  match storedAt s k with
  | some x => putStored k { x with copies := x.copies.filter (fun c => c.dest != dest) } s
  | none => s

/-- The first copy of a packet departs: it is captured and sampled once (R340, R525). -/
def firstCopy (k n : Nat) (x : Packet) (y : Stored) (stamp : Dword) (cut : Bool) (s : State) : State :=
  if y.departed then s
  else record x (some { port := n, stamp := stamp, cut := cut, more := decide (copiesOf x > 1) }) 0 8
    (s.setBuf { s.buf with stored := tput s.buf.stored k { y with departed := true } })

/-- The frame in transmission of a port ends with an inverted check sequence, and its copy is done (R96, R356); the manual gives it no
transmit stamp. -/
def stompSending (n : Nat) (s : State) : State :=
  let x := egrAt s n
  match x.sending with
  | none => s
  | some (k, _) =>
    let bytes := match storedAt s k with | some y => y.bytes | none => []
    let s1 := setEgr n { x with sending := none } (transmit { port := n, bytes := bytes, stomped := true } (bump48 5 n 11 1 s))
    let s2 := match storedAt s1 k, pktAt s1 k with
      | some y, some p => drawn (firstCopy k n p y (someInstant s)
          (y.copies.any (fun c => c.dest == .port n && c.cut)) s1)
      | _, _ => s1
    dropCopy k (.port n) s2

/-- COPY_ABANDONED: count an abandoned copy of a port and tell it at most once a period (R356). -/
def countAbandoned (n : Nat) (s : State) : State :=
  raiseLimited Ev.copyAbandoned n (fun k => le 2 n ++ le 4 k) (bump48 17 n 0 1 s)

/-- Take a packet off the queue of a class; the deficit of a class whose queue empties is set to 0 (R361). -/
def unqueue (n c k : Nat) (s : State) : State :=
  let x := egrAt s n
  let q := (x.q c).filter (· != k)
  setEgr n { x with queue := if q = [] then terase x.queue c else tput x.queue c q
                    deficit := if q = [] then terase x.deficit c else x.deficit
                    due := if q = [] then x.due.filter (· != c) else x.due
                    late := if (x.q c).head? = some k then x.late.filter (· != c) else x.late
                    stalled := if q = [] then terase x.stalled c else x.stalled } s

/-- Abandon every queued copy of a port, and end a frame in transmission with an inverted check sequence (R356). -/
def abandonPort (n : Nat) (s : State) : State :=
  let x := egrAt s n
  let queued := (List.range 8).flatMap (fun c => (x.q c).map (fun k => (c, k)))
  let s1 := queued.foldl (fun s e => dropCopy e.2 (.port n) (countAbandoned n (unqueue n e.1 e.2 s))) s
  stompSending n s1

/-- Enter a copy into the queue of its port and class, or abandon it at once (R355, R356). -/
def queueCopy (k : Nat) (c : Copy) (s : State) : State :=
  match c.dest with
  | .host q => s.setBuf { s.buf with hostq := tput s.buf.hostq q (tgetD (fun _ => []) s.buf.hostq q ++ [k]) }
  | .port n =>
    if egressOff s n || islandStops s n ((pktAt s k).elim false (·.protection)) then dropCopy k (.port n) (countAbandoned n s)
    else
      let x := egrAt s n
      setEgr n { x with queue := tput x.queue c.cls (x.q c.cls ++ [k])
                        since := if x.q c.cls = [] then tput x.since c.cls s.tick.count else x.since } s

/-! ### The scheduler -/

/-- Mode and weight of an egress class: a suspended calendar class counts as strict (R361, R365). -/
def schedMode (s : State) (n c : Nat) : Nat :=
  let m := regField s 17 n c 1 0
  if m = 2 && (egrAt s n).calSuspended then 1 else m

/-- The window of a calendar class in ns: opening and end (R363). -/
def calWindow (s : State) (n c : Nat) : Nat × Nat :=
  let v := (reg s 17 n (2 + c)).toNat
  let off := bitsOf v 25 16
  let r := portRate s n
  (off, off + (if r = 0 then 0 else (v % 65536) * 8 / r))

/-- Wire time of a frame in ns, 20 bytes of gap and preamble and the check sequence included. -/
def wireNs (s : State) (n len : Nat) : Nat := let r := portRate s n; if r = 0 then 0 else ((len + 24) * 8 + r - 1) / r

/-- Is a class a calendar class with a reservation in force? -/
def isCal (s : State) (n c : Nat) : Bool := schedMode s n c == 2 && regField s 17 n (2 + c) 15 0 != 0

/-- May a frame of `len` bytes of class `c` start at `ns` into the tick: in its own window it must fit, and it must not
reach into an open window of another class (R363, R364)? -/
def guardOk (s : State) (n c ns len : Nat) : Bool :=
  let fin := ns + wireNs s n len
  [6, 7].all (fun k =>
    if !isCal s n k || k == c then true
    else
      let w := calWindow s n k
      !(ns < w.2 && fin > w.1) && !(fin > 1000 + w.1))

/-- The head frame of a class that may be sent: not paused, and whole or cut through. -/
def headFrame (s : State) (n c : Nat) : Option (Nat × Nat) :=
  match (egrAt s n).q c with
  | k :: _ => if classPaused s n c then none else (storedAt s k).map (fun x => (k, x.bytes.length))
  | [] => none

/-- Is the instant inside the window of a calendar class, with room for its head frame (R363)? -/
def inWindow (s : State) (n c ns len : Nat) : Bool :=
  let w := calWindow s n c
  isCal s n c && w.1 ≤ ns && ns < w.2 && ns + wireNs s n len ≤ w.2

/-- DWRR: the class whose deficit serves its head frame, and the deficits.  A class that the turn comes to takes its
quantum of weight × 256 bytes (`fresh`); a class that has its turn keeps it while its deficit lasts (R361 step 5). -/
def dwrr (s : State) (n ns : Nat) : Nat → Nat → Bool → Table Nat → Option (Nat × Table Nat)
  | 0, _, _, _ => none
  | fuel + 1, c, fresh, def' =>
    let next := (c + 1) % 8
    let w := regField s 17 n c 15 8
    if schedMode s n c ≠ 0 then dwrr s n ns fuel next true def'
    else match headFrame s n c with
      | none => dwrr s n ns fuel next true def'
      | some (_, len) =>
        if !guardOk s n c ns len then dwrr s n ns fuel next true def'
        else
          let d := tgetD (fun _ => 0) def' c + (if fresh then w * 256 else 0)
          if len + 4 ≤ d then some (c, tput def' c (d - (len + 4)))
          else dwrr s n ns fuel next true (tput def' c d)

/-- The class that the scheduler starts next, and the deficits after it (R361, R362). -/
def chooseClass (s : State) (n ns : Nat) : Option (Nat × Table Nat × Bool) :=
  let x := egrAt s n
  let ok := fun c => match headFrame s n c with
    | some (_, len) => guardOk s n c ns len
    | none => false
  let fits := fun c => match headFrame s n c with
    | some (_, len) => inWindow s n c ns len && guardOk s n c ns len
    | none => false
  let spill := fun c => bitOf (reg s 17 n 0xA).toNat (c - 6)
  match [7, 6].find? fits with
  | some c => some (c, x.deficit, false)
  | none =>
    match (List.range 8).find? (fun c => x.due.contains c && ok c) with
    | some c => some (c, x.deficit, true)
    | none =>
      match [7, 6].find? (fun c => schedMode s n c == 2 && spill c && ok c) with
      | some c => some (c, x.deficit, false)
      | none =>
        match [7, 6, 5, 4, 3, 2, 1, 0].find? (fun c => schedMode s n c == 1 && ok c) with
        | some c => some (c, x.deficit, false)
        | none => (dwrr s n ns 400 x.turn false x.deficit).map (fun r => (r.1, r.2, false))

/-- EGR_STALL_CLEAR: a stalled class starts a frame again (R367). -/
def clearStall (n c : Nat) (s : State) : State :=
  let x := egrAt s n
  match tfind x.stalled c with
  | some t => raise Ev.egrStallClear (le 2 n ++ le 1 c ++ le 4 (ticksSince s.tick.count t))
      (setEgr n { x with stalled := terase x.stalled c } s)
  | none => s

/-- FRAME_TX_START: at `ns` into the tick the scheduler of an idle port starts a frame (R361 to R364). -/
def frameTxStart (n ns : Nat) (s : State) : State :=
  let x := egrAt s n
  if x.sending.isSome ∨ (portAt s n).st ≠ .up ∨ egressOff s n then s
  else
    let late := [6, 7].filter (fun c => match headFrame s n c with
      | some (_, len) =>
        let w := calWindow s n c
        isCal s n c && w.1 ≤ ns && ns < w.2 && ns + wireNs s n len > w.2 && !x.late.contains c
      | none => false)
    let s0 := late.foldl (fun s c => bump48 17 n 4 1 (setEgr n { egrAt s n with late := (egrAt s n).late ++ [c] } s)) s
    match chooseClass s n ns with
    | none => s0
    | some (c, def', due) =>
      match x.q c with
      | [] => s0
      | k :: _ =>
        let s1 := clearStall n c s0
        let x1 := egrAt s1 n
        let s2 := setEgr n { x1 with sending := some (k, c), deficit := def', turn := c
                                     since := tput x1.since c s.tick.count
                                     due := x1.due.filter (· != c) } s1
        let s3 := if due then bump48 17 n 5 1 s2 else s2
        match storedAt s3 k with
        | none => s3
        | some y =>
          let cut := y.copies.any (fun e => e.dest == .port n && e.cut)
          let s4 := s3.setBuf { s3.buf with stored := tput s3.buf.stored k { y with
            copies := y.copies.map (fun e => if e.dest == .port n then { e with st := .sending } else e) } }
          bump48 17 n (if cut then 1 else 2) 1 (unqueue n c k s4)

/-- TX_UNDERRUN: a cut-through copy needs a byte that is not yet in the buffer and is ended with an inverted check
sequence (R360). -/
def txUnderrun (n : Nat) (s : State) : State :=
  let x := egrAt s n
  match x.sending with
  | none => s
  | some (k, _) =>
    match storedAt s k with
    | none => s
    | some y =>
      if !y.copies.any (fun e => e.dest == .port n && e.cut) then s
      else stompSending n (bump48 17 n 3 1 s)

/-- Is a class ready to be judged for R362 and R367: a frame queued and unpaused? -/
def classWaits (s : State) (n c : Nat) : Bool := (egrAt s n).q c != []

/-- EGR_CLASS_DUE: a class with a frame queued and unpaused that has started none for 16 ticks is due (R362). -/
def egrClassDue (n c : Nat) (s : State) : State :=
  let x := egrAt s n
  if classWaits s n c && !classPaused s n c && !x.due.contains c &&
      ticksSince s.tick.count (tgetD (fun _ => 0) x.since c) ≥ 16 then
    setEgr n { x with due := x.due ++ [c] } s
  else s

/-- EGR_STALL: a class with a frame queued that has started none for STALL_TICKS ticks is stalled (R367). -/
def egrStall (n c : Nat) (s : State) : State :=
  let x := egrAt s n
  let since := tgetD (fun _ => 0) x.since c
  let t := ticksSince s.tick.count since
  if classWaits s n c && (tfind x.stalled c).isNone && t ≥ (reg s 17 n 0xC).toNat then
    let cells := (x.q c).foldl (fun a k => a + (match storedAt s k with
      | some y => cellsOf y.bytes.length
      | none => 0)) 0
    raise Ev.egrStall (le 2 n ++ le 1 c ++ le 4 t ++ le 4 cells)
      (bump48 17 n 6 1 (setEgr n { x with stalled := tput x.stalled c since } s))
  else s

/-! ### Calendar reservations -/

/-- EGR_CAL_SUSPENDED: a port comes UP at a rate that breaks its reservations, or again at one that allows them
(R365). -/
def calAtLinkUp (n : Nat) (s : State) : State :=
  let x := egrAt s n
  let r := portRate s n
  let b := regField s 17 n 8 15 0 + regField s 17 n 9 15 0
  let breaks := decide (4 * b > r * 125)
  if breaks = x.calSuspended then s
  else raise Ev.egrCalSuspended (le 2 n ++ le 2 r ++ le 1 (b2n (!breaks)))
    (setEgr n { x with calSuspended := breaks } s)

/-! ### The meanings -/

/-- FRAME_TX_START. -/
def execFrameTxStart (n : Fin 130) (ns : Fin 1000) (s : State) : Host.Outcome State Fault Refusal :=
  .next (frameTxStart n ns s)
/-- TX_UNDERRUN. -/
def execTxUnderrun (n : Fin 130) (s : State) : Host.Outcome State Fault Refusal := .next (txUnderrun n s)
/-- EGR_CLASS_DUE. -/
def execEgrClassDue (n : Fin 130) (c : Fin 8) (s : State) : Host.Outcome State Fault Refusal := .next (egrClassDue n c s)
/-- EGR_STALL. -/
def execEgrStall (n : Fin 130) (c : Fin 8) (s : State) : Host.Outcome State Fault Refusal := .next (egrStall n c s)

end Sys2Proof.Machine
end

