-- ==== Sys2Proof/Machine/Ports.lean ====
section
/-! DEFINITION. Lanes and ports: modes, link start-up, link loss, received pauses, flushing and the MAC (chapter 04). -/

namespace Sys2Proof.Machine

/-! ### Modes and lanes -/

/-- Is a PG.MODE word refused (R80)? -/
def pgModeBad (v : Nat) : Bool :=
  let code := fun l => bitsOf v (4 * l + 3) (4 * l)
  (List.range 8).any (fun l =>
    let c := code l
    let w := codeLanes c
    c > 10 || (c != 0 && (l % w != 0 || l + w > 8 || (List.range (w - 1)).any (fun i => code (l + 1 + i) != 0))))

/-- Is a lane map refused: two fields equal (R84)? -/
def laneMapBad (v : Nat) : Bool :=
  (List.range 8).any (fun i => (List.range i).any (fun j => bitsOf v (3 * i + 2) (3 * i) == bitsOf v (3 * j + 2) (3 * j)))

/-- Are transmit taps refused: the sum of the absolute values above 64, or the main tap below 32 (R89)? -/
def tapsBad (v : Nat) : Bool :=
  let t := fun i => signed 8 (bitsOf v (8 * i + 7) (8 * i))
  (t 0).natAbs + (t 1).natAbs + (t 2).natAbs + (t 3).natAbs > 64 || t 2 < 32

/-- The logical lanes of a port: front lanes by the map of R79, host lanes by R93. -/
def lanesOf (n code : Nat) : List Nat :=
  (List.range (codeLanes code)).map (fun l => if n < 128 then n + l else 128 + 8 * (n - 128) + l)

/-- The physical lane that carries logical front lane `k`: by RX_LANE_MAP (word 1) or TX_LANE_MAP (word 2) of its group; host
and twin lanes have no map (R84). -/
def physLane (s : State) (w k : Nat) : Nat :=
  if k < 128 then 8 * (k / 8) + regField s 6 (k / 8) w (3 * (k % 8) + 2) (3 * (k % 8)) else k

/-- The physical lane that receives, and the one that transmits, what logical lane `k` carries. -/
def rxLane (s : State) (k : Nat) : Nat := physLane s 1 k
def txLane (s : State) (k : Nat) : Nat := physLane s 2 k

/-- One physical lane. -/
def laneAt (s : State) (k : Nat) : Lane := tgetD (fun _ => {}) s.ports.lane k
/-- Put one physical lane. -/
def setLane (k : Nat) (l : Lane) (s : State) : State := s.setPorts { s.ports with lane := tput s.ports.lane k l }

/-- Put the lanes of a port into electrical idle, or take them out of it; the receiver of a lane in idle keeps only its signal
detection (R91). -/
def lanesIdle (n code : Nat) (idle : Bool) (s : State) : State :=
  (lanesOf n code).foldl (fun s k =>
    let s1 := setLane (txLane s k) { laneAt s (txLane s k) with idle := idle } s
    if idle then setLane (rxLane s1 k) { laneAt s1 (rxLane s1 k) with cdrLock := false } s1 else s1) s

/-- Does a lane's RX_CTRL.freeze stop its adaptation (R90)? -/
def frozen (s : State) (k : Nat) : Bool := bitOf (reg s 4 k 3).toNat 6

/-- What a lane's receiver has adapted to: gain, FFE and DFE, unless they are frozen; the signal-to-noise ratio is measured in any
case (R90, R102). -/
def adapt (k : Nat) (e : Lane) (s : State) : State :=
  let l := laneAt s k
  setLane k (if frozen s k then { l with snr := e.snr }
    else { l with snr := e.snr, vga := e.vga, ffe := e.ffe, dfe := e.dfe, cdr := e.cdr }) s

/-- What a link's receivers have found: signal, lock, the CTLE setting that training chose and the adapted settings (R90,
R102). -/
def lanesUp (n code : Nat) (rx : List Lane) (s : State) : State :=
  ((lanesOf n code).zip rx).foldl (fun s e =>
    let k := rxLane s e.1
    let s1 := adapt k e.2 s
    let l := { laneAt s1 k with signal := e.2.signal, cdrLock := e.2.cdrLock, ctle := e.2.ctle }
    setLane (txLane s e.1) { laneAt (setLane k l s1) (txLane s e.1) with idle := false } (setLane k l s1)) s

/-- The receivers of a port's lanes lose their signal, or their lock (R85, R102). -/
def lanesLost (n code : Nat) (signal : Bool) (s : State) : State :=
  (lanesOf n code).foldl (fun s k =>
    let l := laneAt s (rxLane s k)
    setLane (rxLane s k) { l with cdrLock := false, signal := l.signal && !signal } s) s

/-! ### Where a lane starts from (R74, R88) -/

/-- The transmit taps of a preset number: 0 the taps given, otherwise the standard preset of that number in the training clause of
the code, or preset 1 where the clause does not define it (R88). -/
def presetTaps (code preset : Nat) (taps : Word) : Word :=
  if preset = 0 then taps
  else if Config.presetDefined code preset then Config.presetTaps code preset else Config.presetTaps code 1

/-- The transmit taps from which logical lane `k` starts: those of its calibration entry, or of the words of its physical lane
where their override is set (R87, R88). -/
def startTaps (s : State) (code k : Nat) : Word :=
  let o := 0x40 + 16 * k
  let w := (reg s 4 (txLane s k) 1).toNat
  if bitOf w 8 then presetTaps code (w % 256) (reg s 4 (txLane s k) 2)
  else presetTaps code (calByte s o).toNat (BitVec.ofNat 32 (leNat (calBytes s (o + 1) 4)))

/-- Six taps of a calibration entry as a lane holds them, signed 5-bit each. -/
def packDfe (b : List Byte) : BitVec 30 :=
  BitVec.ofNat 30 (b.foldr (fun x a => x.toNat % 32 + 32 * a) 0)

/-- The lanes of a port start from their calibration entries, which follow the logical lane (R74, R84, R88). -/
def lanesStart (n code : Nat) (s : State) : State :=
  (lanesOf n code).foldl (fun s k =>
    let o := 0x40 + 16 * k
    let t := txLane s k
    let s1 := setLane t { laneAt s t with taps := startTaps s code k, answered := [] } s
    let r := rxLane s1 k
    setLane r { laneAt s1 r with
      ctle := (calByte s (o + 5)).setWidth 5, vga := calByte s (o + 6), ffe := [], dfe := packDfe (calBytes s (o + 7) 6) } s1) s

/-- One tap of a word of taps. -/
def tapOf (v : Word) (i : Nat) : Int := signed 8 (bitsOf v.toNat (8 * i + 7) (8 * i))

/-- A word of taps with one of them replaced. -/
def putTap (v : Word) (i : Nat) (t : Int) : Word :=
  (v &&& ~~~(0xFF#32 <<< (8 * i))) ||| ((BitVec.ofInt 8 t).setWidth 32 <<< (8 * i))

/-- A partner's coefficient request moves a tap by one unit, within the limits of R89; one beyond them is answered with maximum or
minimum (R89). -/
def askTap (n code : Nat) (q : TapRequest) (s : State) : State :=
  match (lanesOf n code)[q.lane]? with
  | none => s
  | some k =>
    let l := laneAt s (txLane s k)
    let i := q.tap % 4
    let v := putTap l.taps i (tapOf l.taps i + (if q.up then 1 else -1))
    setLane (txLane s k) (if tapsBad v.toNat then { l with answered := tput l.answered i (if q.up then 2 else 3) }
      else { l with taps := v, answered := tput l.answered i 1 }) s

/-! ### Auto-negotiation -/

/-- Has a code a CR or KR PHY with a Clause 73 ability in IEEE 802.3: every one but 400G_R8 (R86; PRESUMED, log 61)? -/
def anCode (c : Nat) : Bool := decide (1 ≤ c ∧ c ≤ 10) && c != 9

/-- What a port advertises: the abilities of every mode that fits its lanes, the pause abilities of PAUSE, and the FEC bits of
ctrl.fec (R86). -/
def pageOf (s : State) (n code : Nat) : AnPage :=
  let f := regField s 5 n 0 4 3
  { abilities := (List.range 11).filter (fun c => anCode c && decide (codeLanes c ≤ codeLanes code))
    pause := if n < 128 ∧ regField s 5 n 3 1 0 = 1 then 1 else 0
    fec := 1 + (if f = 1 then 10 else if f ≥ 2 then 6 else 0) }

/-- The entry state of a port's start-up by its CTRL word (R85). -/
def entryState (s : State) (n : Nat) : PortState :=
  let c := (reg s 5 n 0).toNat
  if bitOf c 1 then .an else if bitOf c 2 then .train else .align

/-- The FEC in use by the mode and by what auto-negotiation resolved, or ctrl.fec without it (R79, R86, R104): 0 none, 1 Clause 74,
2 Clause 108, and 3 for a mode with its own fixed FEC.  The codes of STATUS.fec are not the manual's (DESIGN CHOICE, log 61). -/
def fecOf (s : State) (n code : Nat) : Nat :=
  let f := (portAt s n).anFec.getD (regField s 5 n 0 4 3)
  match code with
  | 1 => if f = 0 then 0 else 1
  | 2 => min f 2
  | _ => 3

/-! ### Start-up -/

/-- Does a port exist: a front port whose lane starts one, or a host port (R79, R93)? -/
def portExists (s : State) (n : Nat) : Bool := n < 130 && portCode s n != 0

/-- What a port shows on entering a state of its start-up with a code: pages are sent in AN alone, and no FEC is in use (R85,
R86). -/
def Port.enter (x : Port) (s : State) (n : Nat) (st : PortState) (code : Nat) : Port :=
  { x with st := st, mode := code, fec := 0, since := s.tick.count, anFec := none
           page := if st = .an then some (pageOf s n code) else none }

/-- Start a DISABLED port whose ctrl.enable is set, its lanes from their calibration entries (R85, R88). -/
def startPort (n : Nat) (s : State) : State :=
  let x := portAt s n
  if x.st ≠ .disabled ∨ !portEnabled s n ∨ !portExists s n then s
  else
    let m := portCode s n
    lanesStart n m (lanesIdle n m false (setPort n { x.enter s n (entryState s n) m with
      fails := 0, anEpisode := false, downSince := some s.tick.count, localFault := false, remoteFault := false } s))

/-- LINK_DOWN: the port leaves UP, or passes from FAULT toward its entry state (R85, R106).  The causes are numbered 0 disable,
1 signal loss, 2 lock loss, 3 hi_ber and 4 remote fault, and the fields of the details of R106 are 2 bytes for a port, 1 for a
mode, a FEC or a cause, 4 for a count and 8 for ability bits or a tick count (DESIGN CHOICE, log 61). -/
def linkLost (n cause : Nat) (cut : Bool) (s : State) : State :=
  let x := portAt s n
  let s1 := if cut then bump48 5 n 6 1 s else s
  if x.st = .up then
    raise Ev.linkDown (le 2 n ++ le 1 cause) (bump48 5 n 16 1 s1)
  else s1

/-- Take a port to DISABLED (R85).  `cut`: a frame was in reception, which is discarded and counted. -/
def disablePort (n : Nat) (cut : Bool) (s : State) : State :=
  let x := portAt s n
  if x.st = .disabled then s
  else
    let s1 := linkLost n 0 cut s
    let s2 := lanesIdle n x.mode true s1
    setPort n { (portAt s2 n).enter s2 n .disabled 0 with
      downSince := none, flushed := false, localFault := false, remoteFault := false, paused := [], xoff := [] } s2

/-- Disable a port for egress too: its copies are abandoned (R356). -/
def takePortDown (n : Nat) (cut : Bool) (s : State) : State := abandonPort n (disablePort n cut s)

/-- A port begins its start-up again in its entry state, its lanes from their calibration entries (R85, R88). -/
def restartPort (n : Nat) (s : State) : State :=
  let m := portCode s n
  lanesStart n m (setPort n ((portAt s n).enter s n (entryState s n) m) s)

/-- Take an enabled port back to its entry state (R85); it sends no pause until it is UP again. -/
def toEntry (n : Nat) (s : State) : State :=
  let x := portAt s n
  restartPort n (setPort n { x with
    localFault := true, anEpisode := false, xoff := []
    downSince := if x.st = .up ∨ x.downSince.isNone then some s.tick.count else x.downSince } s)

/-- PORT_ENABLE: ctrl.enable is set, which starts a DISABLED port (R85). -/
def portEnable (n : Nat) (s : State) : State := startPort n (setReg 5 n 0 (reg s 5 n 0 ||| 1) s)

/-- PORT_DISABLE: ctrl.enable is cleared (R85). -/
def portDisable (n : Nat) (cut : Bool) (s : State) : State :=
  takePortDown n cut (setReg 5 n 0 (reg s 5 n 0 &&& ~~~1#32) s)

/-- The receive FIFO of a port group is emptied: its shares are laid out anew (R72, R83). -/
def clearFifos (g : Nat) (s : State) : State :=
  s.setPorts { s.ports with fifo := s.ports.fifo.filter (fun e => e.1 / 8 != g) }

/-- PG_MODE_WRITE: every port of the group is disabled, the FIFO is divided anew, and the new ports start from DISABLED with the
settings they hold (R81, R83).  `rx` names the ports with a frame in reception, which is discarded and counted (R85).  Frames that
wait in the shares of the old ports are lost with them (DESIGN CHOICE, log 61). -/
def pgMode (g : Nat) (v : Word) (rx : List Nat) (s : State) : State :=
  let ns := (List.range 8).map (fun l => 8 * g + l)
  let s1 := clearFifos g (ns.foldl (fun s n => takePortDown n (rx.contains n) s) s)
  let s2 := setReg 6 g 0 v s1
  ns.foldl (fun s n => startPort n s) s2

/-- HOST_WIDTH: a change of the width changes the mode of a host port, which is disabled and starts again (R85, R93). -/
def hostWidth (n : Nat) (cut : Bool) (v : Word) (s : State) : State :=
  if reg s 5 n 0xA = v then s else startPort n (setReg 5 n 0xA v (takePortDown n cut s))

/-- AN_RESOLVED: the port takes the resolved mode, its own or one of fewer lanes whose ability it advertised, and the FEC that the
two ends' request bits resolve; it trains or aligns on the lanes of that mode (R85, R86, R88). -/
def anResolved (n code : Nat) (training : Bool) (fec : Nat) (s : State) : State :=
  let x := portAt s n
  let own := portCode s n
  if x.st ≠ .an ∨ !anCode code ∨ !(code = own ∨ codeLanes code < codeLanes own) then s
  else
    let s1 := lanesStart n code (lanesIdle n code false (lanesIdle n own true s))
    setPort n { (portAt s1 n).enter s1 n (if training then .train else .align) code with
      anFec := some fec, anEpisode := false } s1

/-- AN_NO_COMMON: pages arrive with no common technology; raised once per episode (R85). -/
def anNoCommon (n abilities : Nat) (s : State) : State :=
  let x := portAt s n
  if x.st ≠ .an ∨ x.anEpisode then s
  else raise Ev.anNoCommon (le 2 n ++ le 8 abilities) (setPort n { x with anEpisode := true } s)

/-- TRAIN_DONE: both ends report receiver ready, after the coefficient requests by which the partner has moved the transmit taps
(R85, R89). -/
def trainDone (n : Nat) (asked : List TapRequest) (s : State) : State :=
  let x := portAt s n
  if x.st ≠ .train then s
  else
    setPort n { x with st := .align, since := s.tick.count, fails := 0 } (asked.foldl (fun s q => askTap n x.mode q s) s)

/-- TRAIN_RETRY of a port; 0 is read as 1 (R104). -/
def trainRetry (s : State) (n : Nat) : Nat := max 1 (regField s 5 n 6 7 0)

/-- TRAIN_TIMEOUT: the wait timer expires (R85). -/
def trainTimeout (n : Nat) (s : State) : State :=
  let x := portAt s n
  if x.st ≠ .train then s
  else
    let k := x.fails + 1
    let back : PortState := if bitOf (reg s 5 n 0).toNat 1 then .an else .train
    let m := if back = .an then portCode s n else x.mode
    let s1 := bump48 5 n 15 1 (lanesStart n m (setPort n { x.enter s n back m with fails := k } s))
    if k % trainRetry s n = 0 then raise Ev.linkTrainFail (le 2 n ++ le 4 k) s1 else s1

/-- LINK_UP: lock and alignment on all lanes (R85, R365). -/
def linkUp (n : Nat) (rx : List Lane) (s : State) : State :=
  let x := portAt s n
  if x.st ≠ .align then s
  else
    let fec := fecOf s n x.mode
    let at' := s.tick.count + 1
    let s1 := lanesUp n x.mode rx (setPort n { x with
      st := .up, fec := fec, since := s.tick.count, fails := 0
      localFault := false, remoteFault := false, downSince := none, flushed := false, admitAt := at' } s)
    raise Ev.linkUp (le 2 n ++ le 1 x.mode ++ le 1 fec ++ le 8 at'.toNat) (settlePauses n (calAtLinkUp n s1))

/-- ALIGN_TIMEOUT: alignment is not achieved within 100 ms, 100,000 ticks (R85). -/
def alignTimeout (n : Nat) (s : State) : State :=
  let x := portAt s n
  if x.st ≠ .align ∨ ticksSince s.tick.count x.since < 100000 then s else restartPort n s

/-- The receivers of a port as a loss finds them: without signal and lock (cause 1), without lock (2), or as they are. -/
def causeLanes (n cause : Nat) (s : State) : State :=
  if cause = 1 ∨ cause = 2 then lanesLost n (portAt s n).mode (cause == 1) s else s

/-- LINK_DOWN: loss of signal (1), of lock or alignment (2), or hi_ber (3) (R85, R102, R106). -/
def linkDown (n cause : Nat) (cut : Bool) (s : State) : State :=
  let x := portAt s n
  if x.st = .up then toEntry n (causeLanes n cause (linkLost n cause cut s))
  else if x.st = .fault then toEntry n (causeLanes n cause s)
  else s

/-- REMOTE_FAULT: transmission of frames stops (R85). -/
def remoteFault (n : Nat) (s : State) : State :=
  let x := portAt s n
  if x.st ≠ .up then s
  else
    let s1 := linkLost n 4 false s
    setPort n { portAt s1 n with st := .fault, remoteFault := true, since := s.tick.count, xoff := []
                                 downSince := some s.tick.count } s1

/-- REMOTE_FAULT_CLEAR: the port returns to UP (R85). -/
def remoteFaultClear (n : Nat) (s : State) : State :=
  let x := portAt s n
  if x.st ≠ .fault then s
  else
    raise Ev.linkUp (le 2 n ++ le 1 x.mode ++ le 1 x.fec ++ le 8 (s.tick.count + 1).toNat)
      (settlePauses n (setPort n { x with
        st := .up, remoteFault := false, since := s.tick.count, downSince := none, flushed := false
        admitAt := s.tick.count + 1 } s))

/-- FEC_DEGRADED: the FEC counts of a period of 1,024 ticks; the event when the symbol errors reach FEC_DEGRADE, unless
it is 0 (R104, R105). -/
def fecDegraded (n corrected uncorrected symbols : Nat) (s : State) : State :=
  let s1 := bump48 5 n 12 corrected (bump48 5 n 13 uncorrected (bump48 5 n 14 symbols s))
  let t := (reg s 5 n 7).toNat
  if t = 0 ∨ symbols < t then s1 else raise Ev.fecDegraded (le 2 n ++ le 4 symbols) s1

/-- PORT_DOWN_FLUSH: the link has been down for flush_ms (R99). -/
def portDownFlush (n : Nat) (s : State) : State :=
  let x := portAt s n
  let ms := regField s 5 n 5 15 0
  match x.downSince with
  | none => s
  | some t =>
    if ms = 0 ∨ !portEnabled s n ∨ x.flushed ∨ ticksSince s.tick.count t < 1000 * ms then s
    else raise Ev.portDownFlush (le 2 n ++ le 8 s.tick.count.toNat) (abandonPort n (setPort n { x with flushed := true } s))

/-! ### Pauses -/

/-- PAUSE_FRAME_RX: a frame of Annex 31B (`pfc` false) or of priority-based flow control is received in core cycle `c`
(R97).  `quanta` holds one value, or one for each priority with its enable bit in `vector`. -/
def pauseRx (n c : Nat) (pfc : Bool) (vector : Nat) (quanta : List Half) (s : State) : State :=
  let x := portAt s n
  if x.st ≠ .up then s
  else
    let s1 := bump48 5 n 7 1 s
    let m := pauseMode s n
    let rate := portRate s n
    let until' := fun (q : Half) => frcAt s c + BitVec.ofNat 64 (if rate = 0 then 0 else q.toNat * 512 * 65536 / rate)
    let set := fun (ps : Table Dword) (prio : Nat) (q : Half) =>
      if q = 0 then terase ps prio else tput ps prio (until' q)
    let ps := if m = 1 ∧ !pfc then (List.range 8).foldl (fun ps k => set ps k (quanta.getD 0 0)) x.paused
      else if m = 2 ∧ pfc then
        ((List.range 8).filter (fun k => bitOf vector k && bitOf (regField s 5 n 3 12 5) k)).foldl
          (fun ps k => set ps k (quanta.getD k 0)) x.paused
      else x.paused
    setPort n { portAt s1 n with paused := ps } s1

/-- RX_PAUSE_EXPIRY: at core cycle `c` the pause time of a priority has run out (R97). -/
def rxPauseExpiry (n c prio : Nat) (s : State) : State :=
  let x := portAt s n
  match tfind x.paused prio with
  | some t => if (0 : Int) ≤ (frcAt s c - t).toInt then setPort n { x with paused := terase x.paused prio } s else s
  | none => s

/-- XOFF_REPEAT: half of the quanta have elapsed while the condition holds (R98). -/
def xoffRepeat (n c prio : Nat) (s : State) : State :=
  let x := portAt s n
  let rate := portRate s n
  let q := regField s 5 n 4 15 0
  match tfind x.xoff prio with
  | some t =>
    if x.st ≠ .up ∨ rate = 0 ∨ (frcAt s c - t).toInt < (q * 256 * 65536 / rate : Nat) then s
    else sendPause n prio q (setPort n { x with xoff := tput x.xoff prio (frcAt s c) } s)
  | none => s

/-! ### Reception -/

/-- The frames of a port's FIFO share. -/
def fifoAt (s : State) (n : Nat) : List FifoFrame := tgetD (fun _ => []) s.ports.fifo n

/-- The fill of a port's FIFO share in bytes (R83). -/
def fifoFill (s : State) (n : Nat) : Nat := (fifoAt s n).foldl (fun a f => a + f.bytes.length + 4) 0

/-- The share of a front port in its group's FIFO of 256 KiB (R83). -/
def fifoShare (s : State) (n : Nat) : Nat :=
  let g := n / 8
  let total := (List.range 8).foldl (fun a l => a + codeLanes (portCode s (8 * g + l))) 0
  if total = 0 then 0 else 262144 * codeLanes (portCode s n) / total

/-- MAX_FRAME of a port (R95). -/
def maxFrame (s : State) (n : Nat) : Nat := regField s 5 n 2 13 0

/-- Put a frame behind those of a port's FIFO share. -/
def fifoPush (n : Nat) (f : FifoFrame) (s : State) : State :=
  s.setPorts { s.ports with fifo := tput s.ports.fifo n (fifoAt s n ++ [f]) }

/-- MAC_REFUSED: the share has no room for MAX_FRAME (R354). -/
def macRefused (n : Nat) (s : State) : State :=
  raiseLimited Ev.macRefused n (fun k => le 2 n ++ le 4 k) (bump32 16 (dieOfPort n) (0x200 + n) 1 s)

/-- The case of R95 in which a frame is discarded, as the number of its counter: of several cases, the first of runt, oversize, FCS
and code error (DESIGN CHOICE, log 61). -/
def rxFault (s : State) (n : Nat) (f : RxFrame) : Option Nat :=
  let len := f.bytes.length + 4
  if len < 64 then some 3
  else if len > maxFrame s n then some 4
  else if f.fcs ≠ crc32 f.bytes then some 2
  else if f.codeErr then some 5
  else none

/-- Is a frame received on a host port terminated in its host-transport engine (R426)?  Its addresses are judged by
`mine`: the port's MAC, broadcast, and the port's network address. -/
def terminated (s : State) (n : Nat) (b : List Byte) : Bool :=
  n ≥ 128 &&
  (let h := n - 128
   let mac := rdBe b 0 6
   let own := (reg s 5 n 8).toNat + 2 ^ 32 * regField s 5 n 9 15 0
   let o := if rdBe b 12 2 = 0x8100 then 16 else 12
   let t := rdBe b o 2
   let l3 := o + 2
   let ctl := (reg s 19 256 (6 + 8 * h)).toNat
   let ip4 := (reg s 19 256 (8 * h)).toNat
   let ip6 := (List.range 4).foldl (fun x i => x * 2 ^ 32 + (reg s 19 256 (8 * h + 1 + i)).toNat) 0
   let forIp := (t == 0x0800 && rdBe b (l3 + 16) 4 == ip4) || (t == 0x86DD && rdBe b (l3 + 24) 16 == ip6)
   let udp := (t == 0x0800 && rd b (l3 + 9) 1 == 17 && rdBe b (l3 + 4 * (rd b l3 1 % 16) + 2) 2 == 4791) ||
     (t == 0x86DD && rd b (l3 + 6) 1 == 17 && rdBe b (l3 + 42) 2 == 4791)
   let arp := (t == 0x0806 && rdBe b (l3 + 6) 2 == 1 && rdBe b (l3 + 24) 4 == ip4) ||
     (t == 0x86DD && rd b (l3 + 6) 1 == 58 && rd b (l3 + 40) 1 == 135 && rdBe b (l3 + 48) 16 == ip6)
   (mac == own || mac == 0xFFFFFFFFFFFF) &&
     ((t == 0x88B5 && bitOf ctl 0) || (udp && forIp && bitOf ctl 1) || arp))

/-- Does an operating mode let a port receive traffic: in TEST only through a loopback of one of its lanes (R57)? -/
def carries (s : State) (n : Nat) : Bool :=
  s.sys.mode != .test || (lanesOf n (portAt s n).mode).any (fun k => (reg s 4 (rxLane s k) 6).toNat % 4 != 0)

/-- FRAME_RX: a frame at the MAC of an UP port is checked, counted, and admitted to the port's FIFO share, terminated
in the host-transport engine, or refused (R95, R354, R426).  A frame that is still in reception when its header window
is parsed is admitted before its end is known; its fault, if it has one, is then found at its end (R96). -/
def frameRx (n : Nat) (f : RxFrame) (s : State) : State :=
  let x := portAt s n
  if x.st ≠ .up ∨ !tickGe s.tick.count x.admitAt ∨ !carries s n then s
  else
    let fault := rxFault s n f
    let room := n ≥ 128 || fifoFill s n + maxFrame s n ≤ fifoShare s n
    let counted := match fault with
      | some i => bump48 5 n i 1 s
      | none => bump48 5 n 1 (f.bytes.length + 4) (bump48 5 n 0 1 s)
    let late := f.early && (fault == some 2 || fault == some 5)
    if fault.isSome ∧ !late then counted
    else if terminated s n f.bytes then counted
    else if !room then macRefused n counted
    else fifoPush n { bytes := f.bytes, stamp := f.stamp, early := f.early, bad := late } counted

/-! ### The meanings -/

/-- PORT_ENABLE. -/
def execPortEnable (n : Fin 130) (s : State) : Host.Outcome State Fault Refusal := .next (portEnable n s)
/-- PORT_DISABLE. -/
def execPortDisable (n : Fin 130) (cut : Bool) (s : State) : Host.Outcome State Fault Refusal :=
  .next (portDisable n cut s)
/-- PG_MODE_WRITE. -/
def execPgModeWrite (g : Fin 16) (v : Word) (rx : List Nat) (s : State) : Host.Outcome State Fault Refusal :=
  .next (if pgModeBad v.toNat then s else pgMode g v rx s)
/-- AN_RESOLVED. -/
def execAnResolved (n : Fin 130) (code : Fin 11) (r : AnResult) (s : State) : Host.Outcome State Fault Refusal :=
  .next (anResolved n code r.training r.fec s)
/-- AN_NO_COMMON. -/
def execAnNoCommon (n : Fin 130) (abilities : Dword) (s : State) : Host.Outcome State Fault Refusal :=
  .next (anNoCommon n abilities.toNat s)
/-- TRAIN_DONE. -/
def execTrainDone (d : PortTrained) (s : State) : Host.Outcome State Fault Refusal :=
  .next (trainDone d.port d.asked s)
/-- TRAIN_TIMEOUT. -/
def execTrainTimeout (n : Fin 130) (s : State) : Host.Outcome State Fault Refusal := .next (trainTimeout n s)
/-- LINK_UP. -/
def execLinkUp (n : Fin 130) (rx : List Lane) (s : State) : Host.Outcome State Fault Refusal := .next (linkUp n rx s)
/-- ALIGN_TIMEOUT. -/
def execAlignTimeout (n : Fin 130) (s : State) : Host.Outcome State Fault Refusal := .next (alignTimeout n s)
/-- LINK_DOWN. -/
def execLinkDown (n : Fin 130) (cause : Fin 4) (cut : Bool) (s : State) : Host.Outcome State Fault Refusal :=
  .next (linkDown n cause cut s)
/-- REMOTE_FAULT. -/
def execRemoteFault (n : Fin 130) (s : State) : Host.Outcome State Fault Refusal := .next (remoteFault n s)
/-- REMOTE_FAULT_CLEAR. -/
def execRemoteFaultClear (n : Fin 130) (s : State) : Host.Outcome State Fault Refusal := .next (remoteFaultClear n s)
/-- FEC_DEGRADED. -/
def execFecDegraded (n : Fin 130) (corrected uncorrected symbols : Nat) (s : State) :
    Host.Outcome State Fault Refusal := .next (fecDegraded n corrected uncorrected symbols s)
/-- PAUSE_FRAME_RX. -/
def execPauseFrameRx (n : Fin 130) (c : Fin 1350) (pfc : Bool) (vector : Byte) (quanta : List Half) (s : State) :
    Host.Outcome State Fault Refusal := .next (pauseRx n c pfc vector.toNat quanta s)
/-- RX_PAUSE_EXPIRY. -/
def execRxPauseExpiry (n : Fin 130) (c : Fin 1350) (prio : Fin 8) (s : State) : Host.Outcome State Fault Refusal :=
  .next (rxPauseExpiry n c prio s)
/-- XOFF_REPEAT. -/
def execXoffRepeat (n : Fin 130) (c : Fin 1350) (prio : Fin 8) (s : State) : Host.Outcome State Fault Refusal :=
  .next (xoffRepeat n c prio s)
/-- PORT_DOWN_FLUSH. -/
def execPortDownFlush (n : Fin 130) (s : State) : Host.Outcome State Fault Refusal := .next (portDownFlush n s)
/-- FRAME_RX. -/
def execFrameRx (n : Fin 130) (f : RxFrame) (s : State) : Host.Outcome State Fault Refusal := .next (frameRx n f s)

end Sys2Proof.Machine
end

