-- ==== Sys2Proof/Machine/Rewrite.lean ====
section
/-! DEFINITION. What the rewrite stage does to the bytes of a frame: checksums, next hops, marks, translations, and the
correction of PTP frames at egress (R198, R226, R309 to R311, R394 to R396). -/

namespace Sys2Proof.Machine

/-! ### Checksums -/

/-- The sum of the 16-bit words of a string in network order. -/
def wordSum : List Byte → Nat
  | a :: b :: r => a.toNat * 256 + b.toNat + wordSum r
  | [a] => a.toNat * 256
  | [] => 0

/-- End-around carries until 16 bits are left. -/
def foldSum (x : Nat) : Nat :=
  let y := x % 65536 + x / 65536
  let z := y % 65536 + y / 65536
  z % 65536 + z / 65536

/-- The incremental update of RFC 1624: HC' = ~(~HC + ~m + m'), word by word (R309). -/
def cksumUpdate (hc : Nat) (old new : List Byte) : Nat :=
  let inv := old.map (fun b => ~~~b)
  65535 - foldSum (65535 - hc + wordSum inv + wordSum new)

/-- Change the checksum at offset `o` for bytes that change. -/
def fixSum (f : List Byte) (o : Nat) (old new : List Byte) : List Byte :=
  if o + 2 ≤ f.length then splice f o (be 2 (cksumUpdate (rdBe f o 2) old new)) else f

/-- The L4 checksum offset of a protocol from the start of its header: TCP 16, UDP 6. -/
def l4Sum (proto : Nat) : Nat := if proto = 6 then 16 else 6

/-- Change the checksum of a TCP or UDP header at `l4`; a UDP checksum of 0 stays 0 (R309). -/
def fixL4 (f : List Byte) (proto l4 : Nat) (old new : List Byte) : List Byte :=
  let o := l4 + l4Sum proto
  if proto = 17 && rdBe f o 2 == 0 then f else fixSum f o old new

/-! ### Next hops and marks -/

/-- Put new bytes at an offset of the IPv4 header at `h` and bring its checksum into line. -/
def put4 (f : List Byte) (h o : Nat) (new : List Byte) : List Byte :=
  let a := h + o - o % 2
  let f1 := splice f (h + o) new
  let n := 2 * ((o % 2 + new.length + 1) / 2)
  fixSum f1 (h + 10) ((f.drop a).take n) ((f1.drop a).take n)

/-- Is there an IPv4 header at `h`? -/
def ip4At (f : List Byte) (h : Nat) : Bool := h + 20 ≤ f.length && rd f h 1 / 16 == 4
/-- Is there an IPv6 header at `h`? -/
def ip6At (f : List Byte) (h : Nat) : Bool := h + 40 ≤ f.length && rd f h 1 / 16 == 6

/-- Would the TTL or hop limit of a frame reach 0 (R198)?  A frame that is neither IPv4 nor IPv6 has none. -/
def ttlEnds (f : List Byte) : Bool :=
  let e := extractFixed f
  (e.etherType == some 0x0800 && ip4At f e.l3 && rd f (e.l3 + 8) 1 ≤ 1) ||
  (e.etherType == some 0x86DD && ip6At f e.l3 && rd f (e.l3 + 7) 1 ≤ 1)

/-- Decrement the TTL or hop limit (R198). -/
def decTtl (f : List Byte) : List Byte :=
  let e := extractFixed f
  if e.etherType == some 0x0800 && ip4At f e.l3 then put4 f e.l3 8 (le 1 (rd f (e.l3 + 8) 1 - 1))
  else if e.etherType == some 0x86DD && ip6At f e.l3 then splice f (e.l3 + 7) (le 1 (rd f (e.l3 + 7) 1 - 1))
  else f

/-- Is the frame tagged: its outer tag is at offset 12? -/
def tagged (f : List Byte) : Bool := isTag (rdBe f 12 2)

/-- Apply a next hop's rewrite (R198); a VLAN is replaced in a tag that is there. -/
def nhApply (w : NhRewrite) (f : List Byte) : List Byte :=
  let f1 := match w.dmac with | some m => splice f 0 (be 6 m.toNat) | none => f
  let f2 := match w.smac with | some m => splice f1 6 (be 6 m.toNat) | none => f1
  let f3 := match w.vlan with
    | some v => if tagged f2 then splice f2 14 (be 2 (rdBe f2 14 2 / 4096 * 4096 + v % 4096)) else f2
    | none => f2
  if w.decTtl then decTtl f3 else f3

/-- Apply a mark: DSCP in the IP header, PCP in the outer tag (R136, R226). -/
def markApply (m : Option (Nat × Nat)) (f : List Byte) : List Byte :=
  match m with
  | none => f
  | some (k, v) =>
    if k = 2 then
      if tagged f then splice f 14 (be 2 (rdBe f 14 2 % 8192 + v % 8 * 8192)) else f
    else
      let e := extractFixed f
      if e.etherType == some 0x0800 && ip4At f e.l3 then
        put4 f e.l3 1 (le 1 (v % 64 * 4 + rd f (e.l3 + 1) 1 % 4))
      else if e.etherType == some 0x86DD && ip6At f e.l3 then
        let w := rdBe f e.l3 2
        splice f e.l3 (be 2 (w / 4096 * 4096 + v % 64 * 64 + w % 64))
      else f

/-! ### Translation -/

/-- Where the flow selectors found a packet's addresses and ports: offsets of source and destination address, source and
destination port (R309). -/
structure FlowSpots where
  v6 : Bool
  src : Nat
  /-- The second words of an IPv4 source and destination address. -/
  src2 : Nat
  dst : Nat
  dst2 : Nat
  sport : Nat
  dport : Nat

/-- The offsets that the flow selectors of a key type name; none when one of the words was never extracted. -/
def flowSpots (keyType : Nat) (sel : List Nat) (offs : Table Nat) : Option FlowSpots :=
  let at' := fun i => (sel[i]?).bind (fun w => tfind offs w)
  if keyType = 0x01 then
    match at' 0, at' 1, at' 2, at' 3, at' 4, at' 5 with
    | some a, some a2, some b, some b2, some c, some d => some ⟨false, a, a2, b, b2, c, d⟩
    | _, _, _, _, _, _ => none
  else if keyType = 0x11 then
    match at' 0, at' 8, at' 16, at' 17 with
    | some a, some b, some c, some d => some ⟨true, a, a + 2, b, b + 2, c, d⟩
    | _, _, _, _ => none
  else none

/-- Can a frame not be translated (R311): protocol, options, fragment, extension header? -/
def transBad (f : List Byte) (p : FlowSpots) : Bool :=
  if p.v6 then
    let h := p.src - 8
    !ip6At f h || (rd f (h + 6) 1 != 6 && rd f (h + 6) 1 != 17)
  else
    let h := p.src - 12
    !ip4At f h || rd f h 1 % 16 != 5 || rdBe f (h + 6) 2 % 16384 != 0 || (rd f (h + 9) 1 != 6 && rd f (h + 9) 1 != 17)

/-- Replace an IPv4 address, each half at the offset of its own selector word, and a port, and bring the checksums into line
(R309). -/
def natPut (f : List Byte) (h hi lo portOff l4 addr port : Nat) : List Byte :=
  let proto := rd f (h + 9) 1
  let was := (f.drop hi).take 2 ++ (f.drop lo).take 2
  let f1 := fixSum f (h + 10) was (be 4 addr)
  let f2 := fixL4 f1 proto l4 (was ++ (f.drop portOff).take 2) (be 4 addr ++ be 2 port)
  splice (splice (splice f2 hi (be 2 (addr / 65536))) lo (be 2 addr)) portOff (be 2 port)

/-- The EtherType before a header at `h` becomes `t`, where it held the other of the two IP types. -/
def putEtherType (f : List Byte) (h old t : Nat) : List Byte :=
  if 2 ≤ h && rdBe f (h - 2) 2 == old then splice f (h - 2) (be 2 t) else f

/-- IPv6 to IPv4 (R310). -/
def toIpv4 (f : List Byte) (h l4 sport : Nat) (src port dst : Nat) (tos : Bool) : List Byte :=
  let proto := rd f (h + 6) 1
  let tc := rdBe f h 2 / 16 % 256
  let head := be 1 0x45 ++ be 1 (if tos then tc else 0) ++ be 2 (rdBe f (h + 4) 2 + 20) ++ be 2 0 ++ be 2 0x4000 ++
    be 1 (rd f (h + 7) 1) ++ be 1 proto ++ be 2 0 ++ be 4 src ++ be 4 dst
  let head' := splice head 10 (be 2 (65535 - foldSum (wordSum head)))
  let old := (f.drop (h + 8)).take 32 ++ (f.drop sport).take 2
  let f1 := splice (fixL4 f proto l4 old (be 4 src ++ be 4 dst ++ be 2 port)) sport (be 2 port)
  let f2 := putEtherType f1 h 0x86DD 0x0800
  f2.take h ++ head' ++ f2.drop (h + 40)

/-- IPv4 to IPv6, with the addresses and ports of a record's key reversed (R226, R310). -/
def toIpv6 (f : List Byte) (h l4 sport dport : Nat) (key : List Byte) (tos : Bool) : List Byte :=
  let proto := rd f (h + 9) 1
  let src := (key.drop 0x13).take 16
  let dst := (key.drop 0x03).take 16
  let tc := if tos then rd f (h + 1) 1 else 0
  let head := be 4 (6 * 2 ^ 28 + tc * 2 ^ 20) ++ be 2 (rdBe f (h + 2) 2 - 20) ++ be 1 proto ++ be 1 (rd f (h + 8) 1) ++
    src ++ dst
  let ports := (key.drop 0x25).take 2 ++ (key.drop 0x23).take 2
  let old := (f.drop (h + 12)).take 8 ++ (f.drop sport).take 2 ++ (f.drop dport).take 2
  let f1 := fixL4 f proto l4 old (src ++ dst ++ ports)
  let f2 := splice (splice f1 sport (ports.take 2)) dport (ports.drop 2)
  let f3 := putEtherType f2 h 0x0800 0x86DD
  f3.take h ++ head ++ f3.drop (h + 20)

/-- Carry out the rewrite of a flow result; none when the translation cannot serve the packet (R309 to R311). -/
def flowRewrite (w : FlowRewrite) (keyType : Nat) (sel : List Nat) (offs : Table Nat) (f : List Byte) : Option (List Byte) :=
  match w, flowSpots keyType sel offs with
  | .none, _ => some f
  | _, none => none
  | .src addr port, some p =>
    if p.v6 || transBad f p then none else some (natPut f (p.src - 12) p.src p.src2 p.sport p.sport addr port)
  | .dst addr port, some p =>
    if p.v6 || transBad f p then none else some (natPut f (p.src - 12) p.dst p.dst2 p.dport p.sport addr port)
  | .to4 src port dst tos, some p =>
    if !p.v6 || transBad f p then none else some (toIpv4 f (p.src - 8) p.sport p.sport src port dst tos)
  | .to6 key tos, some p =>
    if p.v6 || transBad f p then none
    else
      let h := p.src - 12
      if rd f (h + 9) 1 = 17 && rdBe f (p.sport + 6) 2 == 0 then none
      else some (toIpv6 f h p.sport p.sport p.dport key tos)

/-! ### PTP frames -/

/-- Where a PTP message starts in a frame, and its UDP header where it has one: the port's setting says which transports
are recognised (R394). -/
def ptpAt (ctl : Nat) (f : List Byte) : Option (Nat × Option Nat) :=
  let o := skipTags f 2 12
  let t := field16 f o
  let l3 := o + 2
  let go := fun (m : Nat) (u : Option Nat) => if m + 34 ≤ f.length && rd f (m + 1) 1 % 16 == 2 then some (m, u) else none
  let udp := fun (u : Nat) => rdBe f (u + 2) 2 == 319 || rdBe f (u + 2) 2 == 320
  if t = some 0x88F7 ∧ bitOf ctl 3 then go l3 none
  else if t = some 0x0800 ∧ bitOf ctl 4 ∧ ip4At f l3 ∧ rd f l3 1 % 16 = 5 ∧ rd f (l3 + 9) 1 = 17 ∧ udp (l3 + 20) then
    go (l3 + 28) (some (l3 + 20))
  else if t = some 0x86DD ∧ bitOf ctl 5 ∧ ip6At f l3 ∧ rd f (l3 + 6) 1 = 17 ∧ udp (l3 + 40) then
    go (l3 + 48) (some (l3 + 40))
  else none

/-- The message type of the PTP message at `m`. -/
def ptpType (f : List Byte) (m : Nat) : Nat := rd f m 1 % 16

/-- Write bytes of a PTP message and bring the UDP checksum into line (R396). -/
def ptpPut (f : List Byte) (o : Nat) (u : Option Nat) (new : List Byte) : List Byte :=
  let old := (f.drop o).take new.length
  let f1 := splice f o new
  match u with
  | some u => fixL4 f1 17 u old new
  | none => f1

/-- Add to the correctionField of the message at `m` (R396). -/
def ptpCorrect (f : List Byte) (m : Nat) (u : Option Nat) (d : Int) : List Byte :=
  ptpPut f (m + 8) u (be 8 ((BitVec.ofInt 64 (signed 64 (rdBe f (m + 8) 8) + d)).toNat))

end Sys2Proof.Machine
end

