-- ==== Sys2Proof/Machine/Rules.lean ====
section
/-! DEFINITION. Rule banks: entries, searches, the rule commands, the maintenance port, scrub and repair, pairs, and
the thermal governor (chapter 07). -/

namespace Sys2Proof.Machine

/-- One bank's record. -/
def bankAt (s : State) (b : Nat) : Bank := tgetD (fun _ => {}) s.path.bank b

/-- Put one bank's record. -/
def setBank (b : Nat) (x : Bank) (s : State) : State := s.setPath { s.path with bank := tput s.path.bank b x }

/-- A row of a bank or of its shadow; an unlisted row is invalid and zero (R68). -/
def rowAt (m : Table RuleRow) (r : Nat) : RuleRow := tgetD (fun _ => {}) m r

/-! ### Entries and searches -/

/-- Do the key units match the entry of width `w` at row `r` (R160)? -/
def entryMatches (m : Table RuleRow) (r : Nat) : List (BitVec 80) → Bool
  | [] => true
  | k :: ks =>
    let x := rowAt m r
    x.valid && ((k ^^^ x.value) &&& x.care) == 0 && entryMatches m (r + 1) ks

/-- The first row of the lowest matching entry of a bank (R162). -/
def searchBank (x : Bank) (w : Nat) (key : List (BitVec 80)) : Option Nat :=
  ((x.rows.filter (fun e => e.1 % w == 0)).find? (fun e => entryMatches x.rows e.1 key)).map (fun e => e.1)

/-- The first match over banks in rising order: bank and row (R135, R162). -/
def searchBanks (s : State) (w : Nat) (key : List (BitVec 80)) : List Nat → Option (Nat × Nat)
  | [] => none
  | b :: bs => match searchBank (bankAt s b) w key with
    | some r => some (b, r)
    | none => searchBanks s w key bs

/-- The valid entries of a shadow of width `w`. -/
def validEntries (m : Table RuleRow) (w : Nat) : List Nat :=
  (m.filter (fun e => e.1 % w == 0 && e.2.valid)).map (fun e => e.1)

/-! ### The commands -/

/-- Bytes of an entry of width `w` (R180). -/
def entrySize (w : Nat) : Nat := 16 + 20 * w

/-- The rows of an entry as the host writes it (R180). -/
def entryRows (b : List Byte) (o w : Nat) : List RuleRow :=
  (List.range w).map (fun u =>
    { valid := true
      value := BitVec.ofNat 80 (rd b (o + 0x10 + 20 * u) 10)
      care := BitVec.ofNat 80 (rd b (o + 0x1A + 20 * u) 10)
      action := if u = 0 then BitVec.ofNat 128 (rd b o 16) else 0 })

/-- Is an entry refused (R160, R181)? -/
def entryBad (rows : List RuleRow) : Bool :=
  rows.any (fun x => (x.value &&& ~~~x.care) != 0) || (rows.head?.map (fun x => actionBad x.action)).getD true

/-- An entry as the host reads it (R180). -/
def entryBytes (m : Table RuleRow) (r w : Nat) : List Byte :=
  le 16 (rowAt m r).action.toNat ++
  ((List.range w).map (fun u => le 10 (rowAt m (r + u)).value.toNat ++ le 10 (rowAt m (r + u)).care.toNat)).flatten

/-- Is `r` the first row of an entry of width `w` (R159)? -/
def rowOk (r w : Nat) : Bool := r < 2048 && r % w == 0

/-- Enter an operation into a bank's queue (R164). -/
def queueRule (b op : Nat) (kind : RuleOpKind) (r : Req) (s : State) : State × Reply :=
  if (bankAt s b).queue.length ≥ 64 then (s, .no St.eBusy)
  else accepted op r false (fun h s =>
    let x := bankAt s b
    setBank b { x with queue := x.queue ++ [{ handle := h, session := r.session, opcode := op, kind := kind }] } s) s

/-- RULE_WRITE (R163, R618). -/
def bodyRuleWrite (r : Req) (s : State) : State × Reply :=
  let p := r.payload
  let b := rd p 0 1
  let w := bankWidth s b
  let n := rd p 2 2
  let sz := 4 + entrySize w
  let items := (List.range n).map (fun i => (rd p (8 + sz * i) 2, entryRows p (12 + sz * i) w))
  if p.length < 8 ∨ b > 63 ∨ !zeros p 1 1 ∨ !zeros p 4 4 ∨ n = 0 ∨ n > 64 ∨ p.length ≠ 8 + sz * n then (s, .no St.eArg)
  else if (List.range n).any (fun i => !zeros p (10 + sz * i) 2) ||
      items.any (fun i => !rowOk i.1 w || entryBad i.2) then (s, .no St.eArg)
  else queueRule b Op.ruleWrite (.write items) r s

/-- RULE_INSERT (R163, R618). -/
def bodyRuleInsert (r : Req) (s : State) : State × Reply :=
  let p := r.payload
  let b := rd p 0 1
  let w := bankWidth s b
  let rows := entryRows p 8 w
  if b > 63 ∨ !zeros p 1 1 ∨ !zeros p 4 4 ∨ p.length ≠ 8 + entrySize w ∨ !rowOk (rd p 2 2) w ∨ entryBad rows then
    (s, .no St.eArg)
  else queueRule b Op.ruleInsert (.insert (rd p 2 2) rows) r s

/-- RULE_DELETE (R163, R618). -/
def bodyRuleDelete (r : Req) (s : State) : State × Reply :=
  let p := r.payload
  let b := rd p 0 1
  let w := bankWidth s b
  let n := rd p 2 2
  let rows := (List.range n).map (fun i => rd p (8 + 2 * i) 2)
  if p.length < 8 ∨ b > 63 ∨ !zeros p 1 1 ∨ !zeros p 4 4 ∨ n = 0 ∨ n > 64 ∨ p.length ≠ 8 + 2 * n ∨
      rows.any (fun x => !rowOk x w) then (s, .no St.eArg)
  else queueRule b Op.ruleDelete (.delete rows) r s

/-- BANK_CLEAR (R163, R618). -/
def bodyBankClear (r : Req) (s : State) : State × Reply :=
  let p := r.payload
  if p.length ≠ 8 ∨ rd p 0 1 > 63 ∨ !zeros p 1 7 then (s, .no St.eArg)
  else queueRule (rd p 0 1) Op.bankClear .clear r s

/-- A read of the shadow entries of width `w` in `rs` finds those that hold an uncorrectable error: they are marked
lost and RB_SHADOW_ERR is raised (R172). -/
def findLost (b : Nat) (rs : List Nat) (s : State) : State :=
  rs.foldl (fun s r =>
    let x := bankAt s b
    if x.bad.contains r && !x.lost.contains r then
      raise Ev.rbShadowErr (le 1 b ++ le 2 r)
        (setBank b { x with bad := x.bad.filter (· != r), lost := r :: x.lost } s)
    else s) s

/-- RULE_READ (R618): the shadow entries from the start row.  The bytes of a lost entry are open. -/
def bodyRuleRead (r : Req) (s : State) : State × Reply :=
  let p := r.payload
  let b := rd p 0 1
  let w := bankWidth s b
  let start := rd p 2 2
  let n := rd p 4 2
  if p.length ≠ 8 ∨ b > 63 ∨ !zeros p 1 1 ∨ !zeros p 6 2 ∨ n = 0 ∨ n > 64 ∨ !rowOk start w then (s, .no St.eArg)
  else
    let fit := (4064 - 8) / (4 + entrySize w)
    let k := min (min n fit) ((2048 - start) / w)
    let rs := (List.range k).map (fun i => start + w * i)
    let s1 := findLost b rs s
    let x := bankAt s1 b
    let item := fun row =>
      let lost := x.lost.contains row
      le 2 row ++ le 1 (b2n (rowAt x.shadow row).valid + 2 * b2n lost) ++ le 1 0 ++
        (if lost then le (entrySize w) (Config.freeValue (8 * entrySize w) (s1.free + row)).toNat
         else entryBytes x.shadow row w)
    let s2 := if rs.any (x.lost.contains ·) then s1.setFree (s1.free + 2048) else s1
    (s2, .yes (le 2 k ++ le 2 (start + w * k) ++ le 4 0 ++ (rs.map item).flatten))

/-! ### Commits -/

/-- Does a bank hold its rows, so that commits reach them and not the shadow alone (R166)? -/
def bankLive (s : State) (b : Nat) : Bool := inService s 10 b || unitState s ⟨10, b⟩ == .ready

/-- Put the rows of an entry from row `r`. -/
def putRows : Table RuleRow → Nat → List RuleRow → Table RuleRow
  | m, _, [] => m
  | m, r, x :: xs => putRows (tput m r x) (r + 1) xs

/-- Clear the valid flags of the `w` rows from `r`. -/
def clearRows (m : Table RuleRow) (r w : Nat) : Table RuleRow :=
  (List.range w).foldl (fun m u => tmodify m (r + u) (fun x => { x with valid := false })) m

/-- The rows of the entry at `r`. -/
def rowsOf (m : Table RuleRow) (r w : Nat) : List RuleRow := (List.range w).map (fun u => rowAt m (r + u))

/-- One commit into one bank and its shadow (R165 to R167, R169, R172). -/
def commitInto (b w : Nat) (c : RuleCommit) (s : State) : State :=
  let live := bankLive s b
  match c with
  | .put r rows =>
    let x := bankAt s b
    setBank b { x with
      rows := if live then putRows x.rows r rows else x.rows
      shadow := putRows x.shadow r rows
      lost := x.lost.filter (· != r), bad := x.bad.filter (· != r) } s
  | .copy src dst =>
    let s1 := findLost b [src] s
    let x := bankAt s1 b
    if x.lost.contains src then
      setBank b { x with
        rows := if live then putRows x.rows dst (rowsOf x.rows src w) else x.rows
        shadow := putRows x.shadow dst (rowsOf x.shadow src w)
        lost := if x.lost.contains dst then x.lost else dst :: x.lost
        bad := x.bad.filter (· != dst) } s1
    else
      setBank b { x with
        rows := if live then putRows x.rows dst (rowsOf x.shadow src w) else x.rows
        shadow := putRows x.shadow dst (rowsOf x.shadow src w)
        lost := x.lost.filter (· != dst), bad := x.bad.filter (· != dst) } s1
  | .clear r =>
    let x := bankAt s b
    setBank b { x with
      rows := if live then clearRows x.rows r w else x.rows
      shadow := clearRows x.shadow r w
      lost := x.lost.filter (· != r), bad := x.bad.filter (· != r) } s

/-- One commit, applied to both banks of a pair (R173). -/
def commit (b : Nat) (c : RuleCommit) (s : State) : State :=
  let w := bankWidth s b
  let s1 := commitInto b w c s
  match partnerOf s b with
  | some q => commitInto q w c s1
  | none => s1

/-- Row slots that a commit takes (R165). -/
def RuleCommit.cost (w : Nat) : RuleCommit → Nat
  | .put _ _ => w
  | .copy _ _ => w
  | .clear _ => 1

/-- The invalid entry nearest to `r`; of two equally near, the one above (R167). -/
def nearestInvalid (m : Table RuleRow) (r w : Nat) : Option Nat :=
  (List.range (2048 / w + 1)).findSome? (fun d =>
    let up := r + d * w
    if up < 2048 ∧ !(rowAt m up).valid then some up
    else if d * w ≤ r ∧ !(rowAt m (r - d * w)).valid then some (r - d * w)
    else none)

/-- The block shift that inserts at row `r`: its commits, the final row and the rows that moved, 0xFFFF where none did (R167;
DESIGN CHOICE, log 27). -/
def insertPlan (m : Table RuleRow) (r w : Nat) (rows : List RuleRow) :
    Option (List RuleCommit × Nat × Nat × Nat) :=
  match nearestInvalid m r w with
  | none => none
  | some f =>
    if f = r then some ([.put r rows], r, 0xFFFF, 0xFFFF)
    else if f > r then
      some ((List.range ((f - r) / w)).map (fun i => .copy (f - w * (i + 1)) (f - w * i)) ++ [.put r rows], r, r, f)
    else if f + w = r then some ([.put f rows], f, 0xFFFF, 0xFFFF)
    else
      some ((List.range ((r - f) / w - 1)).map (fun i => .copy (f + w * (i + 1)) (f + w * i)) ++ [.put (r - w) rows],
        r - w, f, r - w)

/-- Start an operation on its bank as it then stands (R164). -/
def startRule (b : Nat) (o : RuleOp) (s : State) : RuleRun :=
  let m := (bankAt s b).shadow
  let w := bankWidth s b
  if cancelled s o.handle then { op := o, todo := [], status := St.eCancelled, lastTick := s.tick.count }
  else match o.kind with
    | .write items => { op := o, todo := items.map (fun i => .put i.1 i.2), lastTick := s.tick.count }
    | .insert r rows =>
      match insertPlan m r w rows with
      | some (cs, fin, lo, hi) =>
        { op := o, todo := cs, finalRow := fin, movedLo := lo, movedHi := hi, lastTick := s.tick.count }
      | none => { op := o, todo := [], status := St.eNospace, lastTick := s.tick.count }
    | .delete rows => { op := o, todo := rows.map .clear, lastTick := s.tick.count }
    | .clear => { op := o, todo := (validEntries m w).map .clear, lastTick := s.tick.count }

/-- The row slots that the maintenance port of a bank has left in the present tick (R165). -/
def slotsLeft (s : State) (b : Nat) : Nat :=
  let x := bankAt s b
  if x.slotsAt = s.tick.count then 16 - x.slots else 16

/-- Take `n` row slots of a bank's maintenance port in the present tick (R165). -/
def takeSlots (b n : Nat) (s : State) : State :=
  let x := bankAt s b
  setBank b { x with slots := if x.slotsAt = s.tick.count then x.slots + n else n, slotsAt := s.tick.count } s

/-- A bank and its partner, if it has one: the banks whose ports a commit of it passes (R173). -/
def portsOf (s : State) (b : Nat) : List Nat := b :: (partnerOf s b).toList

/-- Spend row slots on the commits that are left, at the ports of both banks of a pair; an entry that does not fit waits
(R165, R173). -/
def runCommits (b w : Nat) : List RuleCommit → State → State × List RuleCommit
  | [], s => (s, [])
  | c :: cs, s =>
    if (portsOf s b).all (fun k => decide (c.cost w ≤ slotsLeft s k)) then
      runCommits b w cs (commit b c ((portsOf s b).foldl (fun s k => takeSlots k (c.cost w) s) s))
    else (s, c :: cs)

/-- The operation of a bank that is running, or the next of its queue, which starts (R164). -/
def nextRule (b : Nat) (s : State) : State :=
  let x := bankAt s b
  match x.run, x.queue with
  | none, o :: q => setBank b { x with run := some (startRule b o s), queue := q } (startHandle o.handle s)
  | _, _ => s

/-- The rule-operation writes of one tick of a bank: as many operations as the slots allow, one after another; one whose
writes are done gives way to the next (R164, R165).  `n` bounds the operations. -/
def ruleSlots (b : Nat) : Nat → State → State
  | 0, s => s
  | n + 1, s =>
    let s1 := nextRule b s
    match (bankAt s1 b).run with
    | none => s1
    | some run =>
      let (s2, left) := runCommits b (bankWidth s b) run.todo s1
      let x := bankAt s2 b
      let now := { run with todo := left, lastTick := if left.length < run.todo.length then s.tick.count else run.lastTick }
      if left = [] then ruleSlots b n (setBank b { x with run := none, ended := x.ended ++ [now] } s2)
      else setBank b { x with run := some now } s2

/-- RULE_OP_DONE: the oldest operation whose writes are done completes with its event (R164). -/
def ruleOpDone (b : Nat) (s : State) : State :=
  let x := bankAt s b
  match x.ended with
  | run :: rest =>
    complete Ev.ruleOpDone run.op.handle run.status
      (le 2 run.finalRow ++ le 2 run.movedLo ++ le 2 run.movedHi ++ le 8 run.lastTick.toNat)
      (setBank b { x with ended := rest } s)
  | [] => s

/-! ### Scrub, repair and pairs -/

/-- Does a row differ from its shadow: value, care and valid flag, and the action at an entry's first row (R170)? -/
def rowDiffers (x : Bank) (w r : Nat) : Bool :=
  let a := rowAt x.rows r
  let b := rowAt x.shadow r
  a.valid != b.valid || a.value != b.value || a.care != b.care || (r % w == 0 && a.action != b.action)

/-- The bank of a pair in which its mismatches wait, the lower-numbered one (R175). -/
def lowOf (s : State) (b : Nat) : Nat := min b ((partnerOf s b).getD b)

/-- A repair of row `r` explains the mismatches of its pair whose entry has that row (R175). -/
def explainRow (b r : Nat) (s : State) : State :=
  let k := lowOf s b
  let w := bankWidth s b
  let x := bankAt s k
  setBank k { x with checks := x.checks.map (fun c =>
    if c.row ≤ r ∧ r < c.row + w then { c with explained := true } else c) } s

/-- Rewrite a row from the shadow and read it back, in two row slots (R171); the bank leaves service when it still
differs. -/
def repairRow (b r : Nat) (s : State) : State :=
  let s0 := explainRow b r (takeSlots b 2 s)
  let x := bankAt s0 b
  let stuck := x.stuck.contains r
  let s1 := setBank b { x with
    rows := if stuck then x.rows else tput x.rows r (rowAt x.shadow r)
    lastRepairRow := r, lastRepairTick := BitVec.ofNat 16 s.tick.count.toNat } s0
  let s2 := raiseLimited Ev.rbScrubRepair b (fun n => le 1 b ++ le 2 r ++ le 4 n) (bump32 10 b 5 1 s1)
  if stuck then
    leaveService ⟨10, b⟩ 2 (recordFault 0x14 10 b r (raise Ev.rbRepairFail (le 1 b ++ le 2 r) s2))
  else s2

/-- The scrub of cycle 0, once a tick, with the repair that it finds due (R165, R170, R171). -/
def scrubRow (b : Nat) (s : State) : State :=
  let x0 := bankAt s b
  if !bankLive s b || x0.scrubAt = some s.tick.count then s
  else
    let w := bankWidth s b
    let r := x0.scrubPos
    let f := r - r % w
    let s1 := findLost b [f] (setBank b { x0 with scrubPos := (r + 1) % 2048, scrubAt := some s.tick.count } s)
    let x := bankAt s1 b
    if x.lost.contains f then s1
    else if rowDiffers x w r then repairRow b r s1
    else s1

/-- The rows of an entry that differ from their shadow in a bank; a lost entry has none, for it is not compared (R172). -/
def diffRows (s : State) (b w f : Nat) : List Nat :=
  let x := bankAt s b
  if x.lost.contains f then [] else ((List.range w).map (f + ·)).filter (rowDiffers x w)

/-- The row slots that the comparison of an entry and its repairs take at a bank's port (R165, R171, R175).  The slots of the
comparison are one a row (DESIGN CHOICE, log 27). -/
def checkCost (s : State) (b w f : Nat) : Nat := w + 2 * (diffRows s b w f).length

/-- RB_PAIR_MISMATCH: compare the rows of one paired mismatch in both banks of the pair, repair, and judge (R175).  A mismatch
is explained by a repair made now, or by an earlier one of the same entry since; where a lost shadow entry leaves a row
uncompared and nothing else explains it, it is unexplained (DESIGN CHOICE, log 27). -/
def pairCheck (b : Nat) (c : PairCheck) (s : State) : State :=
  let w := bankWidth s b
  let q := (partnerOf s b).getD b
  let s0 := (portsOf s b).foldl (fun s k => takeSlots k w (findLost k [c.row] s)) s
  let diff := (portsOf s b).flatMap (fun k => (diffRows s0 k w c.row).map (fun r => (k, r)))
  let s1 := diff.foldl (fun s e => repairRow e.1 e.2 s) s0
  let ev := fun o => raise Ev.rbPairMismatch (le 1 (b / 16) ++ le 1 c.profile ++ le 1 c.lookup ++ le 1 c.bankA ++
    le 2 c.rowA ++ le 1 c.bankB ++ le 2 c.rowB ++ le 1 b ++ le 1 q ++ le 1 o) s1
  if c.explained || !diff.isEmpty then recordFault 0x15 10 b c.row (ev 0)
  else nameUnits ((List.range 16).map (fun k => ⟨10, b / 16 * 16 + k⟩)) (recordFault 0x0B 10 b c.row (ev 1))
where
  nameUnits (us : List UnitId) (s : State) : State := us.foldl (fun s u => nameUnit u s) s

/-- The mismatches of earlier ticks whose comparison and repairs find row slots at both ports (R175).  `n` bounds them. -/
def pairChecks (b : Nat) : Nat → State → State
  | 0, s => s
  | n + 1, s =>
    let x := bankAt s b
    match x.checks with
    | c :: cs =>
      if c.at' ≠ s.tick.count ∧
          (portsOf s b).all (fun k => decide (checkCost s k (bankWidth s b) c.row ≤ slotsLeft s k)) then
        pairChecks b n (pairCheck b c (setBank b { x with checks := cs } s))
      else s
    | [] => s

/-- RB_MAINT_TICK: one tick of a bank's maintenance port (R43, R165), after the upsets that have befallen it: the scrub of the
bank and of its partner, the comparisons of their mismatches, and the writes of the bank's rule operations. -/
def rbMaintTick (b : Nat) (u : BankUpset) (s : State) : State :=
  let x := bankAt s b
  let w := bankWidth s b
  let s0 := setBank b { x with
    rows := u.rows.foldl (fun m e => tput m e.1 e.2) x.rows
    bad := x.bad ++ u.shadow.map (fun r => r - r % w), stuck := x.stuck ++ u.stuck } s
  let s1 := (portsOf s0 b).foldl (fun s k => scrubRow k s) s0
  let low := lowOf s1 b
  let s2 := pairChecks low (bankAt s1 low).checks.length s1
  ruleSlots b ((bankAt s2 b).queue.length + 1) s2

/-! ### Width and pairing -/

/-- Why a width change is refused (R161). -/
def widthBlocked (s : State) (b : Nat) : Bool :=
  let x := bankAt s b
  searched s b || x.run.isSome || x.queue ≠ [] || !inService s 10 b

/-- RB_WIDTH_WRITE: the change of a bank's width at its boundary (R161). -/
def rbWidth (b code : Nat) (s : State) : State :=
  let x := bankAt s b
  let inv := fun (m : Table RuleRow) => m.map (fun e => (e.1, { e.2 with valid := false }))
  setReg 10 b 0 (BitVec.ofNat 32 code)
    (setBank b { x with rows := inv x.rows, shadow := inv x.shadow, lost := [], bad := [] } s)

/-- Is a pairing refused (R173)? -/
def pairRefused (s : State) (b q : Nat) : Bool :=
  q / 16 != b / 16 || q == b || bankWidth s b != bankWidth s q ||
  (match partnerOf s b with | some k => k != q | none => false) ||
  (match partnerOf s q with | some k => k != b | none => false)

/-- The PAIR fields of both banks after a write of `v` to bank `b`; a write that clears enable clears both (R173). -/
def pairWords (b : Nat) (v : Word) (s : State) : State :=
  let q := v.toNat % 64
  if bitOf v.toNat 7 then setReg 10 b 1 (BitVec.ofNat 32 (128 + q)) (setReg 10 q 1 (BitVec.ofNat 32 (128 + b)) s)
  else
    let s1 := setReg 10 b 1 (BitVec.ofNat 32 q) s
    match partnerOf s b with
    | some k => setReg 10 k 1 (reg s 10 k 1 &&& 0x3F) s1
    | none => s1

/-- RB_PAIR_WRITE: set the PAIR fields of both banks; the partner takes a copy of the bank's shadow, with the marks of its lost
entries, through REJOIN (R172, R173). -/
def rbPair (b : Nat) (v : Word) (s : State) : State :=
  let q := v.toNat % 64
  if bitOf v.toNat 7 then
    let s0 := findLost b (validEntries (bankAt s b).shadow (bankWidth s b)) s
    let x := bankAt s0 b
    let y := bankAt s0 q
    setUnit ⟨10, q⟩ { st := .rejoin, since := s.tick.count, cause := 3 }
      (setBank q { y with shadow := x.shadow, lost := x.lost, bad := [] } (pairWords b v s0))
  else pairWords b v s

/-! ### The thermal governor -/

/-- The average of one sensor over the readings kept. -/
def sensorMean (h : List (List Int)) (i : Nat) : Int :=
  (h.foldl (fun a r => a + r.getD i 0) 0) / 16

/-- The cap that Tg gives (R178).  A floor above 86,400, for which R183 names no refusal, is taken as it is (DESIGN CHOICE,
log 8). -/
def govCap (s : State) (tg : Nat) : Nat :=
  let lo := 16 * regField s 10 64 0 15 8
  let hi := 16 * regField s 10 64 0 23 16
  let floor := (reg s 10 64 1).toNat % 131072
  if !bitOf (reg s 10 64 0).toNat 0 then 86400
  else if tg < lo then 86400
  else if tg ≥ hi then floor
  else (86400 * (hi - lo) - (86400 - floor) * (tg - lo)) / (hi - lo)

/-- GOV_CAP_CHANGED: the governor takes the last readings of the 24 sensors and sets the caps of the tick (R178). -/
def governTick (s : State) : State :=
  let g := s.path.gov
  let h := if s.zal.readings = [] then g.history else (s.zal.readings :: g.history).take 16
  let primed := h.length ≥ 16
  let top := (List.range 24).foldl (fun m i => max m (sensorMean h i)) 0
  let tg := if primed then top.toNat else 0x690
  let cap := govCap s tg
  let old := (pipeAt s 0).cap
  let s1 := s.setPath { s.path with gov := { history := h, tg := tg, primed := primed } }
  let s2 := (List.range 4).foldl (fun s p => setPipe p { pipeAt s p with cap := cap, searches := 0 } s) s1
  if (old = 86400) ≠ (cap = 86400) then raise Ev.govCapChanged (le 2 tg ++ le 4 cap) s2 else s2

/-! ### The meanings -/

/-- RULE_WRITE. -/
def execRuleWrite (r : Req) (s : State) : Host.Outcome State Fault Refusal :=
  .next (runToune Op.ruleWrite bodyRuleWrite r s)
/-- RULE_INSERT. -/
def execRuleInsert (r : Req) (s : State) : Host.Outcome State Fault Refusal :=
  .next (runToune Op.ruleInsert bodyRuleInsert r s)
/-- RULE_DELETE. -/
def execRuleDelete (r : Req) (s : State) : Host.Outcome State Fault Refusal :=
  .next (runToune Op.ruleDelete bodyRuleDelete r s)
/-- RULE_READ. -/
def execRuleRead (r : Req) (s : State) : Host.Outcome State Fault Refusal :=
  .next (runToune Op.ruleRead bodyRuleRead r s)
/-- BANK_CLEAR. -/
def execBankClear (r : Req) (s : State) : Host.Outcome State Fault Refusal :=
  .next (runToune Op.bankClear bodyBankClear r s)
/-- RULE_OP_DONE. -/
def execRuleOpDone (b : Fin 64) (s : State) : Host.Outcome State Fault Refusal := .next (ruleOpDone b s)
/-- RB_MAINT_TICK. -/
def execRbMaintTick (b : Fin 64) (u : BankUpset) (s : State) : Host.Outcome State Fault Refusal :=
  .next (rbMaintTick b u s)
/-- RB_WIDTH_WRITE. -/
def execRbWidthWrite (b : Fin 64) (code : Fin 3) (s : State) : Host.Outcome State Fault Refusal :=
  .next (if widthBlocked s b || regField s 10 b 0 1 0 == code.val then s else rbWidth b code s)
/-- RB_PAIR_WRITE. -/
def execRbPairWrite (b : Fin 64) (v : Word) (s : State) : Host.Outcome State Fault Refusal :=
  .next (if bitOf v.toNat 7 && pairRefused s b (v.toNat % 64) then s else rbPair b (v &&& 0xBF) s)

end Sys2Proof.Machine
end

