-- ==== Sys2Proof/Machine/Lookup.lean ====
section
/-! DEFINITION. What a pipeline does with a packet that has a slot: slots and staging, the bootstrap filter, lookups and their
substitution, recirculation, the forwarding decision and the issue of the flow operation (R13 to R15, R24, R25, R82, R118,
R131 to R145, R152 to R154, R174 to R179, R191, R196 to R200, R237, R542, R565). -/

namespace Sys2Proof.Machine

/-! ### Staging -/

/-- Cells of a port group's staging share (R24). -/
def stagingShare : Nat := 8192

/-- Staging cells in use in group `g` of pipeline `p`. -/
def stagingUse (s : State) (p g : Nat) : Nat := tgetD (fun _ => 0) (pipeAt s p).staging g

/-- Ports of the group whose next frame fits again end their pause (R25). -/
def unblock (p g : Nat) (s : State) : State :=
  ((List.range 8).map (fun l => 32 * p + 8 * g + l)).foldl (fun s n =>
    let x := portAt s n
    let fits := match fifoAt s n with
      | f :: _ => stagingUse s p g + cellsOf f.bytes.length ≤ stagingShare
      | [] => true
    if x.blocked = [] || !fits then s
    else x.blocked.foldl (fun s prio => settlePause n prio s) (setPort n { x with blocked := [] } s)) s

/-- A packet leaves staging (R24, R348): only frames of front ports take a share. -/
def unstage (x : Packet) (s : State) : State :=
  if x.source ≠ 0 then s
  else
    let g := x.port % 32 / 8
    let y := pipeAt s x.pipe
    let left := stagingUse s x.pipe g - cellsOf x.frame.length
    unblock x.pipe g (setPipe x.pipe
      { y with staging := if left = 0 then terase y.staging g else tput y.staging g left } s)

/-- Discard a packet in staging after `stages` latency stages (R340, R528). -/
def discardPkt (k : Nat) (x : Packet) (outcome stages : Nat) (s : State) : State :=
  record x none outcome stages (delPkt k (unstage x s))

/-- A packet leaves the device for its twin (R542). -/
def handOver (k : Nat) (x : Packet) (s : State) : State := delPkt k (unstage x s)

/-- A packet is delivered to the management complex (R153, R427). -/
def giveMc (k : Nat) (x : Packet) (s : State) : State :=
  let s1 := takePkt k x (unstage x s)
  s1.setPath { s1.path with toMc := s1.path.toMc ++ [(x.port, x.frame)] }

/-- Post a packet for time handling, on the West die (R153, R394, R506). -/
def toTime (port : Nat) (stamp : Dword) (f : List Byte) (s : State) : State := postItem 0 (.ptp port stamp f) s

/-! ### Lookups -/

/-- Why comparators answer a lookup (R154): 0 a bank out of service, 1 one in REJOIN, 2 the governor. -/
def awayCause (s : State) (banks : List Nat) : Option Nat :=
  if banks.any (fun b => unitState s ⟨10, b⟩ == .out) then some 0
  else if banks.any (fun b => unitState s ⟨10, b⟩ != .inService) then some 1
  else none

/-- What one lookup answers. -/
structure LookupOut where
  act : ActionSet := {}
  /-- The entry as rule_ids report it (R136). -/
  ruleId : Nat := 0
  /-- The comparators were asked. -/
  asked : Bool := false
  /-- A paired lookup's results differ (R175). -/
  differs : Bool := false

/-- The action of the entry at a bank and row. -/
def entryAction (s : State) (h : Nat × Nat) : BitVec 128 := (rowAt (bankAt s h.1).rows h.2).action

/-- The comparators answer a lookup (R154). -/
def substitute (p j k cause : Nat) (v : RcmpVerdict) (s : State) : State × LookupOut :=
  (raiseLimited Ev.substituteActive (4 * (64 * p + j) + k) (fun _ => le 1 p ++ le 1 j ++ le 1 k ++ le 1 cause)
     (bump48 9 p 4 1 s),
   { act := rcmpAction v, asked := true })

/-- The position of a hit among the banks of a mask, a partner ranked as its mask bank (R175). -/
def hitRank (order : List Nat) (h : Nat × Nat) : Nat × Nat := (order.findIdx (· == h.1), h.2)

/-- A paired lookup's results differ: count it and enter the comparison for the next tick (R175). -/
def pairDiffers (j k : Nat) (banks partners : List Nat) (a b : Option (Nat × Nat)) (s : State) : State :=
  let firstA := match a, b with
    | some x, some y => let u := hitRank banks x; let v := hitRank partners y
                        decide (u.1 < v.1 ∨ (u.1 = v.1 ∧ u.2 ≤ v.2))
    | some _, none => true
    | none, _ => false
  let hit := if firstA then a else b
  let pos := match hit with
    | some h => if firstA then (hitRank banks h).1 else (hitRank partners h).1
    | none => 0
  let low := min (banks.getD pos 0) (partners.getD pos 0)
  let c : PairCheck :=
    { row := (hit.map (·.2)).getD 0, profile := j, lookup := k
      bankA := (a.map (·.1)).getD 0xFF, rowA := (a.map (·.2)).getD 0
      bankB := (b.map (·.1)).getD 0xFF, rowB := (b.map (·.2)).getD 0
      at' := s.tick.count }
  let y := bankAt s low
  bump32 10 low 7 1 (setBank low { y with checks := y.checks ++ [c] } s)

/-- Lookup `k` of profile `j` (R133 to R135, R174 to R179).  The comparators answer for a bank that is out of service in every mode
that looks up, STANDBY, SAFE and TEST included (DESIGN CHOICE, log 62).  `dead` are banks whose search logic misses; `v` is what the
comparators decide. -/
def lookup (p : Nat) (img : List Byte) (c : List Half) (j k : Nat) (dead : List Nat) (v : RcmpVerdict) (s : State) :
    State × LookupOut :=
  let o := lookOff j k
  if !bitOf (rd img (o + 3) 1) 0 then (s, {})
  else
    let paired := bitOf (rd img (o + 3) 1) 1
    let w := rd img (o + 2) 1
    let banks := maskBanks p (rd img o 2)
    let partners := if paired then banks.filterMap (partnerOf s) else []
    match awayCause s (banks ++ partners) with
    | some cause => substitute p j k cause v s
    | none =>
      let x := pipeAt s p
      if !bitOf (rd img (profOff j) 1) 5 && decide (x.searches + banks.length > x.cap) then
        substitute p j k 2 v (pipeEvent p 0x2121 1 (bump48 9 p 3 1 s))
      else
        let n := banks.length + partners.length
        let s1 := pipeEvent p 0x2120 n (setPipe p { x with searches := x.searches + n } s)
        let key := lookupKey img c j k w
        let live := fun (bs : List Nat) => bs.filter (fun b => !dead.contains b)
        let a := searchBanks s1 w key (live banks)
        let s2 := if paired then pipeEvent p 0x2122 1 s1 else s1
        let b := searchBanks s1 w key (live partners)
        let same := match a, b with
          | none, none => true
          | some h, some g => hitRank banks h == hitRank partners g && entryAction s h == entryAction s g
          | _, _ => false
        if paired && !same then (pairDiffers j k banks partners a b s2, { differs := true })
        else match a with
          | none => (s2, {})
          | some h => (s2, { act := actionOf (entryAction s h), ruleId := 2 ^ 23 + h.1 * 2 ^ 16 + h.2 })

/-- The four lookups of a profile and the merge of their actions over those of earlier passes (R136): the state, the
merged set, whether a comparator was asked and whether a paired lookup differed. -/
def lookups (p : Nat) (img : List Byte) (c : List Half) (j : Nat) (dead : List Nat) (v : RcmpVerdict)
    (old : ActionSet) (s : State) : State × ActionSet × Bool × Bool :=
  let (s0, l0) := lookup p img c j 0 dead v s
  let (s1, l1) := lookup p img c j 1 dead v s0
  let (s2, l2) := lookup p img c j 2 dead v s1
  let (s3, l3) := lookup p img c j 3 dead v s2
  let m := l0.act.over (l1.act.over (l2.act.over (l3.act.over old)))
  (s3, { m with ruleIds := [l0.ruleId, l1.ruleId, l2.ruleId, l3.ruleId] },
   l0.asked || l1.asked || l2.asked || l3.asked, l0.differs || l1.differs || l2.differs || l3.differs)

/-! ### The forwarding decision -/

/-- The rewrite of a next-hop entry (R198). -/
def nhRewrite (s : State) (p v : Nat) : NhRewrite :=
  { dmac := some (BitVec.ofNat 48 (bitsOf v 57 10)), smac := some (BitVec.ofNat 48 (routerMac s p (bitsOf v 75 72)))
    vlan := if bitOf v 70 then some (bitsOf v 69 58) else none, decTtl := bitOf v 71 }

/-- The next-hop entry at an index. -/
def nhAt (s : State) (p nh : Nat) : Nat := (tgetD (fun _ => 0) (fwdAt s p).nh nh).toNat

/-- The route through a member (R199). -/
def memberRoute (s : State) (p : Nat) (m : Option Word) : Route :=
  match m with
  | none => { spread := true, count := some 7 }
  | some m =>
    let v := nhAt s p (m.toNat % 131072)
    if !bitOf m.toNat 31 then { spread := true, count := some 7 }
    else match v % 4 with
      | 1 => { dest := .port (bitsOf v 9 2), rewrite := nhRewrite s p v, spread := true }
      | 3 => { spread := true }
      | _ => { spread := true, count := some 7 }

/-- The route through a next hop (R198, R199). -/
def nhRoute (s : State) (p nh : Nat) (member : Option Word) : Route :=
  let v := nhAt s p nh
  match v % 4 with
  | 0 => { count := some 6 }
  | 1 => { dest := .port (bitsOf v 9 2), rewrite := nhRewrite s p v }
  | 2 => memberRoute s p member
  | _ => {}

/-- The ports of a group, with the ingress port as include_ingress says (R200, R355). -/
def groupPorts (s : State) (p g : Nat) (ingress : Option Nat) : Nat :=
  let m := (tgetD (fun _ => 0) (fwdAt s p).groups g).toNat
  let bits := m % 2 ^ 130
  match ingress with
  | none => bits
  | some n => if bitOf m 130 then bits ||| 2 ^ n else bits &&& (2 ^ 130 - 1 - 2 ^ n)

/-- The ingress port of a packet as groups see it: none for a generated frame. -/
def Packet.ingress (x : Packet) : Option Nat := if x.source = 2 then none else some (x.port % 130)

/-- What the redirect of an action set decides (R136). -/
def redirectRoute (s : State) (x : Packet) (kind idx : Nat) (member : Option Word) : Route :=
  match kind with
  | 1 => { dest := .port idx }
  | 2 => nhRoute s x.pipe idx member
  | _ => { dest := .ports (groupPorts s x.pipe (idx % 65536) x.ingress) }

/-- The destination decided by R138, with the counters and events of the lookups made.  With both l2 and l3 set, a miss of the L3
lookup is decided by l3_miss alone and never by the L2 result (DESIGN CHOICE, log 62). -/
def decide138 (x : Packet) (img : List Byte) (j : Nat) (c : List Half) (act : ActionSet) (member : Option Word)
    (s : State) : State × Route :=
  let o := profOff j
  let p := x.pipe
  let fl := rd img o 1
  let y := fwdAt s p
  let l2 := bitOf fl 1
  let l3 := bitOf fl 2
  let vlan := selWord c (rd img (o + 0x0D) 1) % 4096
  let e2 := if l2 then l2Find y (BitVec.ofNat 48 (selWords img c (o + 0xA0) 3)) vlan else none
  let v6 := rd img (o + 1) 1 = 1
  let addr : BitVec 128 := BitVec.ofNat 128 (selWords img c (o + 0xA6) (if v6 then 8 else 2))
  let e3 := if l3 then routeFind y (selWord c (rd img (o + 0x0E) 1) % 4096) v6 addr else none
  let s1 := if l2 then pipeEvent p (if e2.isSome then 0x2130 else 0x2131) 1 s else s
  let s2 := if e3.isSome then pipeEvent p 0x2132 1 s1 else s1
  match act.redirect with
  | some (kind, idx) => (s2, redirectRoute s x kind idx member)
  | none =>
    match e3 with
    | some nh => (s2, nhRoute s p nh member)
    | none =>
      if l3 then
        if rd img (o + 0x0C) 1 = 1 then (s2, { dest := .host (rd img (o + 0x18) 2) }) else (bump48 9 p 1 1 s2, {})
      else if l2 then
        match e2 with
        | some e => (s2, { dest := if e.group then .ports (groupPorts s p e.dest x.ingress) else .port e.dest })
        | none => (bump48 12 p 8 1 s2, { dest := .ports (groupPorts s p vlan x.ingress) })
      else (s2, {})

/-- The learn that a packet requests, but for the condition that it is delivered (R191). -/
def learnOf (s : State) (x : Packet) (img : List Byte) (j : Nat) (c : List Half) : Option Learn :=
  let o := profOff j
  let mac := selWords img c (o + 0xA3) 3
  let portOk := if x.source = 0 then bitOf (reg s 12 x.pipe 2).toNat (x.port % 32)
    else x.source == 1 && bitOf (reg s 12 x.pipe 1).toNat 2
  if bitOf (rd img o 1) 1 && !bitOf mac 40 && portOk && bitOf (reg s 12 x.pipe 1).toNat 0 && cword c 57 % 8 == 0 then
    some { mac := BitVec.ofNat 48 mac, vlan := selWord c (rd img (o + 0x0D) 1) % 4096, port := x.port }
  else none

/-- The load-spread member that a packet's profile hashes, and its hash (R139). -/
def spreadMember (s : State) (p : Nat) (img : List Byte) (j : Nat) (c : List Half) (act : ActionSet) :
    Option Word × Nat :=
  let t := rd img (profOff j + 9) 1
  let h := spreadHash s p img j c
  if !bitOf t 7 then (none, h)
  else
    let tab := act.spread.getD (t % 64)
    (some (tgetD (fun _ => 0) (fwdAt s p).spread (4096 * tab + h % 2 ^ regField s 12 p (0x40 + tab) 3 0)), h)

/-! ### The end of lookup -/

/-- Does SAFE stop a packet (R565)? -/
def safeStops (s : State) (protection : Bool) (cls : Nat) : Bool :=
  s.sys.mode == .safe && (s.zal.scopeAll || protection || !bitOf (reg s 1 0 4).toNat cls)

/-- Queue the learn that a packet requests (R191, R192). -/
def queueLearn (x : Packet) (s : State) : State :=
  match x.learn with
  | some l => let y := fwdAt s x.pipe; setFwd x.pipe { y with learns := y.learns ++ [l] } s
  | none => s

/-- The packet's egress is final: its learn is queued, a discard by its route is counted, and otherwise, or for the copy that to_host
asks for beside such a route, the frame is rewritten and wants cells (R24, R136, R191, R198, R242; log 62).  `out` is its frame as
translated. -/
def egressFinal (k : Nat) (x : Packet) (out : List Byte) (stages : Nat) (s : State) : State :=
  let ttl := x.route.rewrite.decTtl && ttlEnds out
  let none' := !ttl && x.route.dest == .discard
  let dest := if ttl then .host x.hostQueue else if none' then .ports 0 else x.route.dest
  let counted := match none', x.route.count with | true, some i => bump48 12 x.pipe i 1 s | _, _ => s
  let s1 := queueLearn x counted
  if dest = .ports 0 ∧ x.actions.toHost.isNone then discardPkt k x 5 stages s1
  else
    let f := markApply x.mark (if ttl then out else nhApply x.route.rewrite out)
    let s2 := s1.setPath { s1.path with nextOrder := s1.path.nextOrder + 1 }
    putPkt k { x with route := { x.route with dest := dest }, out := f, stage := .cells, order := s1.path.nextOrder } s2

/-- The components of a flow key (R143, R206). -/
def flowComponents (img : List Byte) (c : List Half) (j : Nat) : List Byte :=
  let o := profOff j + 0xB0
  let w := fun i => selWord c (rd img (o + i) 1)
  let ws := fun a n => ((List.range n).map (fun i => be 2 (w (a + i)))).flatten
  match rd img (profOff j + 3) 1 with
  | 1 => ws 0 6 ++ le 1 (w 6)
  | 2 => ws 0 3 ++ be 2 (w 3 % 4096) ++ ws 4 2 ++ le 1 0
  | _ => ws 0 18 ++ le 1 (w 18) ++ be 3 ((w 19 * 65536 + w 20) % 2 ^ 20) ++ le 5 0

/-- The flow key of a packet (R143, R206). -/
def flowKeyOf (img : List Byte) (c : List Half) (j : Nat) : List Byte :=
  let o := profOff j
  let z := rd img (o + 6) 1
  le 1 (rd img (o + 3) 1) ++ le 2 (if bitOf z 7 then rd img (o + 0x0A) 2 else selWord c z) ++ flowComponents img c j

/-- The container words that the flow selectors name; 64, which no extraction writes, under a zero flag. -/
def flowSelWords (img : List Byte) (j : Nat) : List Nat :=
  (List.range 24).map (fun i => let b := rd img (profOff j + 0xB0 + i) 1; if bitOf b 7 then 64 else b % 64)

/-- The operation that a packet issues (R141, R221). -/
def flowReqOf (k : Nat) (x : Packet) (img : List Byte) (c : List Half) (j : Nat) (act : ActionSet) (hash : Nat) : FlowReq :=
  let o := profOff j
  let drop := act.drop.getD false
  { pkt := k, pipe := x.pipe, key := flowKeyOf img c j, size := x.frame.length + 4
    flags := selWord c (rd img (o + 0xC7) 1) % 256
    ruleDrop := drop
    disp := if drop then 2 else if act.template.isSome then 0 else rd img (o + 2) 1 % 4
    template := act.template.getD (rd img (o + 4) 2 % 1024)
    member := x.member.getD 0, hash := hash }

/-- FLOW_OP_ISSUE: the operation enters the issue queue of its home slice, in the order of its pipeline, and goes on as far as there
is room; `held` cycles count in CROSS_HOLD where it cannot cross (R20, R21, R237). -/
def issueOp (k : Nat) (x : Packet) (q : FlowReq) (held : Nat) (s : State) : State :=
  let d := digestOf s q.key
  let n := homeOf d
  let s1 := feed n (setIssue x.pipe n (issueAt s x.pipe n ++ [{ kind := .packet q, key := some q.key, digest := d }]) s)
  let s2 := pipeEvent x.pipe 0x2140 1 s1
  let s3 := if crossHeld s1 x.pipe n && held ≠ 0 then pipeEvent x.pipe 0x4010 held s2 else s2
  putPkt k { x with
    stage := .flow, slice := n, issued := s.tick.count, keyType := keyType q.key
    sample := { x.sample with hasOp := true, digest := d } } s3

/-- The item of a packet that is sent across (R542). -/
def crossItem (x : Packet) : List Byte := le 1 x.port ++ le 1 0 ++ le 2 x.frame.length ++ le 4 0 ++ x.frame

/-- Send the packets of die `d` that wait, oldest first, while credit and the tick's share of the twin link last (R44, R542). -/
def crossPump (d : Nat) : Nat → State → State
  | 0, s => s
  | fuel + 1, s =>
    match linkOf s d, (s.path.pkts.filter (fun e => e.2.stage == .cross && e.2.pipe / 2 == d)).head? with
    | some h, some (k, x) =>
      let need := cellsOf x.frame.length
      let y := halfAt s h
      if y.credits < need ∨ !crossRoom s (crossItem x).length then s
      else
        let s1 := useLink (crossItem x).length (linkSend h 6 (crossItem x) (setHalf h { y with credits := y.credits - need } s))
        crossPump d fuel (handOver k x (bump32 23 0 0x15 1 s1))
    | _, _ => s

/-- A packet that would issue a flow operation on a device that runs none: it is sent across, or discarded (R542). -/
def crossOver (k : Nat) (x : Packet) (s : State) : State :=
  if bitOf (reg s 23 0 0).toNat 2 then
    let s1 := putPkt k { x with stage := .cross } s
    crossPump (x.pipe / 2) s1.path.pkts.length s1
  else discardPkt k x 5 3 (bump32 23 0 0x17 1 s)

/-- Does this device send packets with flow operations across (R542)? -/
def sendsAcross (s : State) : Bool := s.sys.mode == .standby || (s.sys.mode == .safe && s.twin.role == 2)

/-- The final pass is classified: the packet is delivered, stopped, sent across, or issues its operation (R137 to R142). -/
def finalPass (k : Nat) (x : Packet) (img : List Byte) (j : Nat) (found : PassFound) (s : State) : State :=
  let c := x.container
  let act := x.actions
  let cls := act.cls.getD 0
  let prot := act.protection.getD false
  let (member, hash) := spreadMember s x.pipe img j c act
  let x1 := { x with
    profile := j, member := member, hostQueue := rd img (profOff j + 0x18) 2, protection := prot, cls := cls
    mark := act.mark, flowSel := flowSelWords img j }
  let flow := bitOf (rd img (profOff j) 1) 3 && !act.noFlow.getD false
  if found.metaErr then
    recordFault 0x0A 7 x.pipe 0 (discardPkt k x1 5 3 (bump48 9 x.pipe 5 1 s))
  else if safeStops s prot cls then discardPkt k x1 5 3 (bump32 1 0 9 1 s)
  else if flow && sendsAcross s then crossOver k x1 s
  else
    let (s1, route) := decide138 x1 img j c act member s
    let x2 := { x1 with route := route, learn := learnOf s x1 img j c }
    if flow then issueOp k x2 (flowReqOf k x2 img c j act hash) found.held s1
    else if act.drop.getD false then discardPkt k x2 1 3 s1
    else egressFinal k x2 x2.frame 3 s1

/-! ### One pass -/

/-- The next pass that a profile asks for: its node and offset (R118, R144). -/
def nextPass (img : List Byte) (j : Nat) (r : Parsed) : Option (Nat × Nat) :=
  let o := profOff j
  let rc := rd img (o + 7) 1
  if bitOf rc 2 && r.reason == 0 then none
  else
    let off := match r.resume with | some (_, at') => at' | none => r.layer1
    match rc % 4, r.resume with
    | 1, some (n, _) => some (n, off)
    | 2, _ => some (rd img (o + 8) 1, off)
    | _, _ => none

/-- Does anything count or tell of a flagged pass (R128)? -/
def flagPass (p : Nat) (x : Packet) (r : Parsed) (s : State) : State × Packet :=
  let flag := r.trunc || r.lenConflict || r.badHeader
  let x1 := { x with sample := { x.sample with
    path := r.path, parseFlag := x.sample.parseFlag || flag
    trig := if flag && !bitOf x.sample.trig 0 then x.sample.trig + 1 else x.sample.trig } }
  let s1 := pipeEvent p 0x2110 r.visits s
  let s2 := if flag then pipeEvent p 0x2111 1 s1 else s1
  (if flag && !x.sample.parseFlag then
     setPipe p { pipeAt s2 p with flagged := addRecent s2 1 (pipeAt s2 p).flagged } s2
   else s2, x1)

/-- RECIRC_REFUSED: a fourth pass is refused (R118). -/
def recircRefused (p : Nat) (s : State) : State :=
  let x := pipeAt s p
  let l := addRecent s 1 x.recircRefused
  raiseOnce Ev.recircRefused p (fun _ => le 1 p ++ le 4 (recentSum s l))
    (bump48 8 p 8 1 (setPipe p { x with recircRefused := l } s))

/-- A pass of a packet by the parse graph, the profiles and the rule banks (R111 to R145). -/
def fullPass (k : Nat) (x : Packet) (found : PassFound) (s : State) : State :=
  let p := x.pipe
  let y := pipeAt s p
  let graph := (if x.graphBank then y.graph1 else y.graph0).image
  let img := (if x.profBank then y.prof1 else y.prof0).image
  let r := parsePass graph x.frame x.pass x.startNode x.startOffset x.port x.source x.graphBank x.container x.offs
  let (s1, x1) := flagPass p x r (countPass p x.pass r s)
  let (j, dflt) := chooseProfile img r.container x.portClass
  let s2 := if dflt then bump48 9 p 0 1 s1 else s1
  let (hitc, v) := rcmpDecide s2 p x.source x.frame
  let (s3, act, asked, differs) := lookups p img r.container j found.dead v x.actions s2
  let s4 := match asked, hitc with | true, some c => countRcmp p (some c) s3 | _, _ => s3
  let x2 := { x1 with container := r.container, offs := r.offs, actions := act, profile := j }
  if differs then discardPkt k x2 5 2 s4
  else if asked && v == .toMc then giveMc k x2 s4
  else match nextPass img j r with
    | none => finalPass k x2 img j found s4
    | some (node, off) =>
      if x.pass < 3 then
        putPkt k { x2 with stage := .recirc, pass := x.pass + 1, startNode := node, startOffset := off } s4
      else if bitOf (rd img (profOff j + 7) 1) 3 then finalPass k x2 img j found (recircRefused p s4)
      else discardPkt k x2 5 3 (bump48 9 p 2 1 (recircRefused p s4))

/-- Does the pipeline classify a packet by its comparators alone (R57, R152)? -/
def bootstrapOnly (s : State) (x : Packet) : Bool :=
  match s.sys.mode with
  | .kindling | .configure => true
  | .test => !(x.test && pipeReady (pipeAt s x.pipe))
  | _ => false

/-- The bootstrap filter (R152, R153). -/
def bootstrapPass (k : Nat) (x : Packet) (s : State) : State :=
  let (c, v) := rcmpDecide s x.pipe x.source x.frame
  let s1 := countRcmp x.pipe c s
  match v with
  | .noMatch | .drop => discardPkt k x 5 3 s1
  | .toMc => giveMc k x s1
  | .toTu => toTime x.port x.stamp x.frame (takePkt k x (unstage x s1))
  | .forward port cls prot =>
    egressFinal k { x with route := { dest := .port port }, cls := cls, protection := prot } x.frame 3 s1

/-- The first pass of a packet that has a slot: it is numbered and takes the banks that are active now (R126, R131, R145,
R525). -/
def firstPass (x : Packet) (found : PassFound) (s : State) : State :=
  let k := s.path.nextPkt
  let y := pipeAt s x.pipe
  let (s1, sel) := sampleMode x.pipe s
  let x1 := { x with
    container := emptyContainer
    startNode := rd (activeGraph y).image (0x10 + (if x.source = 0 then 0 else x.source)) 1
    graphBank := y.graphActive, profBank := y.profActive
    portClass := portClassOf s x.pipe x.source x.port
    sample := { x.sample with mode := sel } }
  let s2 := newPkt x1 s1
  if bootstrapOnly s x then bootstrapPass k x1 s2 else fullPass k x1 found s2

/-! ### Slots -/

/-- Is a PTP frame of a port terminated (R394)? -/
def ptpTerminated (s : State) (n : Nat) (f : List Byte) : Bool :=
  let ctl := (reg s 2 (1 + n) 0).toNat
  match ctl % 4, ptpAt ctl f with
  | 3, some _ => true
  | 2, some (m, _) => [2, 3, 0xA].contains (ptpType f m)
  | _, _ => false

/-- Take the frame at the head of a port's FIFO. -/
def popFifo (n : Nat) (s : State) : State :=
  s.setPorts { s.ports with fifo := match fifoAt s n with
    | [] => s.ports.fifo
    | [_] => terase s.ports.fifo n
    | _ :: rest => tput s.ports.fifo n rest }

/-- A front port's next frame takes a slot and its share of staging (R15, R24, R25, R82).  A port that has left UP gets none
(R85); one that auto-negotiation resolved to fewer lanes gets the slots of those lanes, while its FIFO share follows the mode it
is set to; and where the staging share is full, the classes concerned are the pause priority of the frame that asks for a slot
(DESIGN CHOICE, log 61). -/
def frontPass (p n : Nat) (found : PassFound) (s : State) : State :=
  match fifoAt s n with
  | [] => s
  | f :: _ =>
    let x := portAt s n
    let y := pipeAt s p
    let g := n % 32 / 8
    let prio := pausePrio s n f.bytes
    if ptpTerminated s n f.bytes then toTime n f.stamp f.bytes (popFifo n s)
    else if (x.st ≠ .up ∧ x.st ≠ .fault) ∨ y.frontSlots ≥ 4800 ∨ x.slots ≥ 150 * codeLanes x.mode then s
    else if stagingUse s p g + cellsOf f.bytes.length > stagingShare then
      let s1 := pipeEvent p 0x4011 1 s
      if x.blocked.contains prio then s1 else settlePause n prio (setPort n { x with blocked := x.blocked ++ [prio] } s1)
    else
      let s1 := setPort n { x with slots := x.slots + 1 } (popFifo n s)
      let s2 := setPipe p { y with
        frontSlots := y.frontSlots + 1
        staging := tput y.staging g (stagingUse s p g + cellsOf f.bytes.length) } s1
      firstPass { pipe := p, source := 0, port := n, owner := n, prio := prio, frame := f.bytes, out := f.bytes,
                  stamp := f.stamp, bad := f.bad, early := f.early } found (pipeEvent p 0x2100 1 s2)

/-- The service slots of a source in this tick (R38). -/
def svcUsed (y : Pipe) (i : Nat) : Nat := tgetD (fun _ => 0) y.svcBy i

/-- The minimum of a source: 0 the port source, 1 recirculation, 2 generated frames (R38). -/
def svcMin (s : State) (p i : Nat) : Nat := regField s 3 0 (8 + p) (10 * i + 9) (10 * i)

/-- Does a service source of a pipeline have work that waits for a slot (R14, R38)? -/
def svcWaits (s : State) (p i : Nat) : Bool :=
  match i with
  | 0 => if p % 2 = 0 then fifoAt s (128 + p / 2) != [] else tgetD (fun _ => []) s.path.xsrc p != []
  | 1 => s.path.pkts.any (fun e => e.2.pipe == p && e.2.stage == .recirc)
  | _ => tgetD (fun _ => []) s.path.gens p != []

/-- May a source take a service slot (R15, R38): one of its minimum always; another only while the slots that remain exceed what
the minima of the sources with waiting work still ask for, and in rotating order behind the source served last. -/
def svcAllows (s : State) (p i : Nat) : Bool :=
  let y := pipeAt s p
  let others := [0, 1, 2].filter (fun j => j != i && svcWaits s p j)
  let owed := (others.map (fun j => svcMin s p j - svcUsed y j)).sum
  let ahead := others.any (fun j => decide ((j + 2 - y.svcTurn) % 3 < (i + 2 - y.svcTurn) % 3))
  decide (y.svcSlots < 600) && (decide (svcUsed y i < svcMin s p i) || (decide (owed < 600 - y.svcSlots) && !ahead))

/-- A service slot is used by a source. -/
def serviceSlot (p i : Nat) (s : State) : State :=
  let y := pipeAt s p
  pipeEvent p 0x2101 1 (setPipe p { y with
    svcSlots := y.svcSlots + 1, svcBy := tput y.svcBy i (svcUsed y i + 1)
    svcTurn := if svcUsed y i < svcMin s p i then y.svcTurn else i } s)

/-- The share is spent: the host port asserts priority flow control for the class of its next frame, as R25 lays down for a front
port (R15, R94). -/
def holdHost (p : Nat) (s : State) : State :=
  let n := 128 + p / 2
  match (if p % 2 = 0 then fifoAt s n else []) with
  | [] => s
  | f :: _ =>
    let x := portAt s n
    let prio := pausePrio s n f.bytes
    if x.blocked.contains prio then s else settlePause n prio (setPort n { x with blocked := x.blocked ++ [prio] } s)

/-- The port source of a pipeline: the host port of PIPE0 and PIPE2, the cross frames of PIPE1 and PIPE3 (R14, R542). -/
def servicePass (p : Nat) (found : PassFound) (s : State) : State :=
  if p % 2 = 0 then
    let n := 128 + p / 2
    match fifoAt s n with
    | [] => s
    | f :: _ =>
      if ptpTerminated s n f.bytes then toTime n f.stamp f.bytes (popFifo n s)
      else if !svcAllows s p 0 then holdHost p s
      else firstPass { pipe := p, source := 1, port := n, owner := n, prio := pausePrio s n f.bytes, frame := f.bytes,
                       out := f.bytes, stamp := f.stamp, bad := f.bad, early := f.early } found
             (serviceSlot p 0 (popFifo n s))
  else
    match tgetD (fun _ => []) s.path.xsrc p with
    | [] => s
    | (n, f) :: rest =>
      if !svcAllows s p 0 then s else
      let s1 := s.setPath { s.path with xsrc := if rest = [] then terase s.path.xsrc p else tput s.path.xsrc p rest }
      firstPass { pipe := p, source := 1, port := n, owner := 130, prio := pausePrio s 130 f, frame := f, out := f,
                  stamp := s.tick.startFrc } found (serviceSlot p 0 s1)

/-- A reply takes its slot and wants cells for its port, past the classification (R14, R427).  It leaves in the class that the
host port of its die has for bootstrap frames (DESIGN CHOICE, log 34). -/
def replyPass (p n : Nat) (g : GenFrame) (s : State) : State :=
  let k := s.path.nextPkt
  let x : Packet :=
    { pipe := p, source := 2, owner := 131, prio := pausePrio s 131 g.frame, frame := g.frame, out := g.frame
      stamp := s.tick.startFrc, route := { dest := .port n }, cls := regField s 19 256 (5 + 8 * (p / 2)) 15 13 }
  egressFinal k x g.frame 1 (newPkt x (serviceSlot p 2 s))

/-- A generated frame takes a slot (R14, R152).  It has no ingress port: word 56 [7:0] carries 0 (DESIGN CHOICE, log 62). -/
def generatedPass (p : Nat) (g : GenFrame) (found : PassFound) (s : State) : State :=
  match g.reply with
  | some n => replyPass p n g s
  | none =>
  firstPass { pipe := p, source := 2, port := 0, owner := 131, prio := pausePrio s 131 g.frame, frame := g.frame,
              out := g.frame, stamp := s.tick.startFrc, test := g.test, gen := g.info } found (serviceSlot p 2 s)

/-- PIPELINE_PASS: a packet is given a slot and makes its next pass.  Without a free slot, or in a pipeline that is not in
service, none is given. -/
def pipelinePass (p : Nat) (src : PassSource) (found : PassFound) (s : State) : State :=
  if !inService s 7 p ∨ s.sys.mode = .reset then s
  else match src with
    | .front n => if pipeOfPort n = p then frontPass p n found s else s
    | .service => servicePass p found s
    | .recirc =>
      (match (s.path.pkts.filter (fun e => e.2.pipe == p && e.2.stage == .recirc)).head? with
       | some (k, x) => if svcAllows s p 1 then fullPass k x found (serviceSlot p 1 s) else s
       | none => s)
    | .generated (some g) => if svcAllows s p 2 then generatedPass p g found s else s
    | .generated none =>
      (match tgetD (fun _ => []) s.path.gens p with
       | [] => s
       | g :: rest =>
         if !svcAllows s p 2 then s
         else generatedPass p g found (s.setPath { s.path with
           gens := if rest = [] then terase s.path.gens p else tput s.path.gens p rest }))

/-- PIPELINE_PASS. -/
def execPipelinePass (p : Fin 4) (src : PassSource) (found : PassFound) (s : State) : Host.Outcome State Fault Refusal :=
  .next (pipelinePass p src found s)

end Sys2Proof.Machine
end

