-- ==== Sys2Proof/Machine/Pipeline.lean ====
section
/-! DEFINITION. Flow results at their pipeline, requests for cells, and the departure of frames (R24, R226, R239, R242, R247,
R309 to R315, R340, R347 to R358, R369, R394 to R396). -/

namespace Sys2Proof.Machine

/-! ### Flow results -/

/-- What a result does to the fields of a packet (R142, R226, R526). -/
def withResult (s : State) (x : Packet) (r : FlowResult) (cycles : Nat) : Packet :=
  let t := x.sample.trig % 4 + (if cycles ≥ regField s 22 (1 + x.pipe) 2 15 0 then 4 else 0) +
    (if r.tier = 2 then 8 else 0) + (if r.verdict ≠ 0 then 16 else 0)
  { x with
    cls := r.cls.getD x.cls, mark := first r.mark x.mark
    sample := { x.sample with
      trig := t, tag := r.sample, tier := r.tier, slot := r.slot, viaPtr := r.viaPtr, created := r.created } }

/-- The pinned member of a result takes the place of the hashed one (R139, R199, R313): the packet with its route, and the
counter of the home slice moves when a withdrawn next hop is replaced; the packet then goes by the route that it has carried since
the end of lookup (R137). -/
def withMember (n : Nat) (x : Packet) (m : Option Word) (s : State) : State × Packet :=
  match m with
  | none => (s, x)
  | some m =>
    if !x.route.spread then (s, x)
    else if nhAt s x.pipe (m.toNat % 131072) % 4 ≠ 0 then (s, { x with route := memberRoute s x.pipe (some m) })
    else match x.member with
      | some _ => (slCount n 0x5F 1 s, x)
      | none => (s, { x with route := { spread := true, count := some 6 } })

/-- Is a translated frame too long for an egress port (R311)? -/
def tooLong (s : State) (dest : Dest) (len : Nat) : Bool :=
  match dest with
  | .port n => decide (len + 4 > maxFrame s n)
  | .ports m => (List.range 130).any (fun n => bitOf m n && decide (len + 4 > maxFrame s n))
  | _ => false

/-- A packet meets its flow result (R142, R226, R315). -/
def applyResult (n : Nat) (x : Packet) (r : FlowResult) (cycles : Nat) (s : State) : State :=
  let k := r.pkt
  let x1 := withResult s x r cycles
  if x.actions.drop.getD false then discardPkt k x1 1 4 s
  else if r.verdict ≠ 0 then discardPkt k x1 (if r.verdict = 1 then 2 else 3) 4 s
  else if safeStops s x1.protection x1.cls then discardPkt k x1 5 4 (bump32 1 0 9 1 s)
  else
    let (s1, x2) := withMember n x1 r.member s
    match flowRewrite r.rewrite x.keyType x.flowSel x.offs x.frame with
    | none => discardPkt k x2 5 5 (slCount n 0x5E 1 s1)
    | some f =>
      if r.rewrite ≠ .none ∧ tooLong s1 x2.route.dest f.length then discardPkt k x2 5 5 (slCount n 0x5E 1 s1)
      else egressFinal k x2 f 5 s1

/-- FLOW_RESULT_ARRIVE: the oldest result of a slice for a pipeline arrives, `cycles` cycles after its issue (R239); one
whose packet has been discarded is discarded (R247). -/
def flowResultArrive (p n cycles : Nat) (s : State) : State :=
  let i := 16 * p + n
  match tgetD (fun _ => []) s.flow.results i with
  | [] => s
  | r :: rest =>
    let s1 := s.setFlow { s.flow with
      results := if rest = [] then terase s.flow.results i else tput s.flow.results i rest }
    match pktAt s1 r.pkt with
    | some x => if x.stage = .flow ∧ x.slice = n then applyResult n x r cycles s1 else s1
    | none => s1

/-- Is the operation of packet `k` parked by a punt in slice `n`, that of its key or of its primary (R247, R251)? -/
def pktParked (s : State) (n k : Nat) : Bool :=
  (slAt s n).flights.any (fun f => f.phase == .punted && f.ops.any (fun op => match op.req with
    | some q => q.pkt == k
    | none => false))

/-- FLOW_RESULT_TIMEOUT: a packet has waited RESULT_WATCHDOG ticks for its result, and its operation is not punted
(R247). -/
def flowResultTimeout (k : Nat) (s : State) : State :=
  match pktAt s k with
  | none => s
  | some x =>
    let t := ticksSince s.tick.count x.issued
    if x.stage ≠ .flow ∨ t < regField s 13 16 0x12 11 0 ∨ pktParked s x.slice k then s
    else
      let s1 := slCount x.slice 0x4F 1 (discardPkt k x 5 3 s)
      recordFault 0x0D 13 x.slice 0 (raise Ev.flowResultTimeout
        (le 1 x.pipe ++ le 1 x.slice ++ le 8 x.sample.digest.toNat ++ le 8 s.tick.count.toNat) s1)

/-! ### Cells -/

/-- Is a host receive queue the packet's only destination (R351)? -/
def hostOnly (x : Packet) : Bool := destPorts x == []

/-- The dies that hold copies of a packet (R346). -/
def destDies (s : State) (x : Packet) : List Nat :=
  [0, 1].filter (fun d => (destPorts x).any (fun n => dieOfPort n == d) || (destHost x).any (fun q => hqDie s q == d))

/-- Does an earlier packet of the same order still want cells on the die (R242)? -/
def overtakes (s : State) (x : Packet) (d : Nat) : Bool :=
  s.path.pkts.any (fun e =>
    e.2.stage == .cells && e.2.pipe == x.pipe && decide (e.2.order < x.order) && !e.2.granted.contains d &&
    (destDies s e.2).contains d &&
    (if x.sample.hasOp then e.2.sample.hasOp && e.2.slice == x.slice
     else !e.2.sample.hasOp && e.2.owner == x.owner && e.2.prio == x.prio))

/-- Is a copy sent cut-through (R358, R359)?  `rx` says that the frame is still being received, `clear` that the packet channel
granted every cell without wait in the previous tick. -/
def cutThrough (s : State) (x : Packet) (n : Nat) (rx clear : Bool) : Bool :=
  x.early && rx && decide (x.owner < 130) && bitOf (reg s 17 x.owner 0xB).toNat x.cls &&
  decide (portRate s n ≤ portRate s x.owner) && (egrAt s n).q x.cls == [] && !classPaused s n x.cls &&
  (dieOfPort n == x.pipe / 2 || clear)

/-- The packet leaves staging once every die that holds copies has granted (R348). -/
def grantEnd (k : Nat) (x : Packet) (s : State) : State :=
  if (destDies s x).all (fun d => x.granted.contains d) then
    let s1 := putPkt k { x with stage := .buffered } (unstage x s)
    match storedAt s1 k with
    | some y => if y.copies = [] then bufferGone k y s1 else s1
    | none => record x none 4 6 (delPkt k s1)
  else putPkt k x s

/-- A request fails (R351, R352): the packet stays in staging; `pool` says that a pool for port copies refused it, which
starts a pause. -/
def requestFails (d : Nat) (x : Packet) (pool : Bool) (s : State) : State :=
  let s1 := pipeEvent x.pipe 0x4012 1 s
  if !pool then hostExhausted d s1
  else
    let o := 8 * x.owner + x.prio
    let b := bmAt s1 d
    let s2 := if b.pressed.contains o then s1 else setBm d { b with pressed := b.pressed ++ [o] } s1
    settlePause x.owner x.prio (poolEpisodes d true x.owner s2)

/-- Charge cells to the host staging pool. -/
def chargeHost (d src prio n : Nat) (s : State) : State × Charge :=
  let b := bmAt s d
  (setBm d { b with hostUsed := b.hostUsed + n } s, { die := d, source := src, prio := prio, host := n })

/-- A grant on a die: the cells are charged, the copy list is built and its copies are queued (R349, R355). -/
def granted (k d : Nat) (x : Packet) (copies : List Copy) (charges : List Charge) (s : State) : State :=
  let y := (storedAt s k).getD { bytes := x.out, bad := x.bad }
  let y1 := { y with total := y.total + copies.length, copies := y.copies ++ copies, charges := y.charges ++ charges }
  let x1 := { x with granted := x.granted ++ [d] }
  let s1 := putPkt k x1 s
  let s2 := if copies = [] then s1 else s1.setBuf { s1.buf with stored := tput s1.buf.stored k y1 }
  grantEnd k x1 (copies.foldl (fun s c => queueCopy k c s) s2)

/-- A packet asks a die for cells (R347 to R353, R369). -/
def askCells (k d : Nat) (x : Packet) (rx clear : Bool) (s : State) : State :=
  let ports := ((destPorts x).filter (fun n => dieOfPort n == d)).map (fun n =>
    ({ die := d, dest := .port n, cls := x.cls, cut := cutThrough s x n rx clear } : Copy))
  let ports := if x.bad then ports.filter (fun c => c.cut) else ports
  let mine := (destHost x).filter (fun q => hqDie s q == d)
  let hosts := mine.filter (receives s)
  let lost := mine.length - hosts.length
  let len := if ports.any (fun c => c.cut) then max x.out.length (maxFrame s x.owner) else x.out.length
  let ask := cellsOf len
  let n := cellsOf x.out.length
  let s0 := if lost = 0 then s else bump32 18 0 (0x201 + d) lost s
  let copyOf := fun q => ({ die := d, dest := .host q, cls := x.cls } : Copy)
  let hostFits := decide (n ≤ hostFree s d)
  let skip := !hostFits && !hostOnly x && regField s 16 d 6 0 0 == 1
  let hosts' := if hosts != [] && skip then [] else hosts
  if hosts' ≠ [] ∧ !hostFits then requestFails d x false s
  else
    let s1 := if hosts != [] && skip then bump32 16 d 0xA hosts.length s0 else s0
    let chargeH := fun (s : State) => if hosts' = [] then (s, []) else
      let (s', c) := chargeHost d x.owner x.prio n s
      (s', [c])
    if ports = [] then
      let (s2, cs) := chargeH s1
      granted k d x (hosts'.map copyOf) cs s2
    else match poolFor s d x.owner x.prio ask with
      | none => requestFails d x true s
      | some pool =>
        let (s2, c) := charge d x.owner x.prio n pool s1
        let (s3, cs) := chargeH s2
        granted k d x (ports ++ hosts'.map copyOf) (c :: cs) s3

/-- A packet whose frame is found bad is lost while it wants cells: what it holds of the buffer already stays, and ends as R96
lays down. -/
def loseStaged (k : Nat) (x : Packet) (outcome : Nat) (s : State) : State :=
  if x.granted = [] then discardPkt k x outcome 6 s
  else grantEnd k { x with granted := [0, 1] } s

/-- A packet whose metadata fail is discarded with the copies that a die has granted already: queued ones go, and one in transmission
ends with an inverted check sequence (R96, R137).  One of which a copy has departed is captured as delivered, and not again (R340). -/
def dropPacket (k : Nat) (x : Packet) (outcome : Nat) (s : State) : State :=
  let copies := match storedAt s k with | some y => y.copies | none => []
  let s1 := copies.foldl (fun s c =>
    match c.dest with
    | .host q => dropCopy k c.dest (s.setBuf { s.buf with
        hostq := tput s.buf.hostq q ((tgetD (fun _ => []) s.buf.hostq q).filter (· != k)) })
    | .port n => if c.st = .sending then stompSending n s else dropCopy k c.dest (unqueue n c.cls k s)) s
  let gone := s1.setBuf { s1.buf with stored := terase s1.buf.stored k }
  match storedAt s1 k with
  | some y => if y.departed then delPkt k (unstage x gone) else discardPkt k x outcome 6 gone
  | none => discardPkt k x outcome 6 gone

/-- CELL_REQUEST: packet `k` requests cells on die `d` (R24, R137, R351). -/
def cellRequest (k d : Nat) (rx clear metaErr : Bool) (s : State) : State :=
  match pktAt s k with
  | none => s
  | some x =>
    if x.stage ≠ .cells ∨ x.granted.contains d ∨ !(destDies s x).contains d ∨ overtakes s x d then s
    else if metaErr then
      recordFault 0x0A 7 x.pipe 0 (dropPacket k x 5 (bump48 9 x.pipe 5 1 s))
    else if x.bad && !(x.early && rx) then loseStaged k x 5 s
    else askCells k d x rx clear s

/-! ### Departure -/

/-- The residence time of a frame in units of 2^-16 ns, at the rate of the selected domain (R396). -/
def residence (s : State) (arrived left : Dword) : Int :=
  let dlt := (left - arrived).toInt
  match (domAt s s.tu.selected).now with
  | some x => dlt + (dlt * x.rate).fdiv (2 ^ 48)
  | none => dlt

/-- The originTimestamp of a Sync at a transmit stamp: seconds and nanoseconds of the selected domain (R395). -/
def originStamp (s : State) (stamp : Dword) : List Byte :=
  match (domAt s s.tu.selected).now with
  | some x => let t := splitTime (x.convert stamp); be 6 t.1 ++ be 4 t.2.1
  | none => be 10 0

/-- The bytes of a frame as they leave port `n`: a transparent clock corrects what it forwards, and a generated event
message is stamped one-step (R395, R396). -/
def departing (s : State) (x : Packet) (n : Nat) (stamp : Dword) (f : List Byte) : List Byte :=
  if x.source = 2 then
    let ctl := (reg s 2 (1 + n) 0).toNat
    match ptpAt ctl f with
    | some (m, u) =>
      if x.gen.oneStep && bitOf ctl 2 == s.tu.selected then
        if ptpType f m = 0 then ptpPut f (m + 34) u (originStamp s stamp)
        else if ptpType f m = 3 then ptpCorrect f m u (residence s x.gen.reqStamp stamp)
        else f
      else f
    | none => f
  else if x.owner ≥ 130 then f
  else
    let ctl := (reg s 2 (1 + x.owner) 0).toNat
    let role := ctl % 4
    match (if role = 1 || role = 2 then ptpAt ctl f else none) with
    | some (m, u) =>
      if ptpType f m > 3 then f
      else
        let extra : Int := if role = 2 && ptpType f m == 0 then (reg s 2 (1 + x.owner) 3).toNat else 0
        ptpCorrect f m u (residence s x.stamp stamp + extra)
    | none => f

/-- An INJECT job asked for the transmit stamp of its frame (R453). -/
def jobStamp (x : Packet) (stamp : Dword) (s : State) : State :=
  match x.gen.job with
  | some (q, pos) => s.setBuf { s.buf with stamped := s.buf.stamped ++ [(q, pos, stamp)] }
  | none => s

/-- FRAME_TX_DONE: the last byte of the frame in transmission leaves port `n`; `stamp` is its transmit stamp (R96, R356,
R393). -/
def frameTxDone (n : Nat) (stamp : Dword) (s : State) : State :=
  let e := egrAt s n
  match e.sending with
  | none => s
  | some (k, _) =>
    let s0 := setEgr n { e with sending := none } s
    match storedAt s0 k, pktAt s0 k with
    | some y, some x =>
      let cut := y.copies.any (fun c => c.dest == .port n && c.cut)
      let f := departing s0 x n stamp y.bytes
      let s1 := if y.bad then transmit { port := n, bytes := f, stomped := true } (bump48 5 n 11 1 s0)
        else transmit { port := n, bytes := f } (bump48 5 n 9 (f.length + 4) (bump48 5 n 8 1 s0))
      dropCopy k (.port n) (jobStamp x stamp (firstCopy k n x y stamp cut s1))
    | _, _ => s0

/-! ### The meanings -/

/-- FLOW_RESULT_ARRIVE. -/
def execFlowResultArrive (p : Fin 4) (n : Fin 16) (cycles : Nat) (s : State) : Host.Outcome State Fault Refusal :=
  .next (flowResultArrive p n cycles s)
/-- FLOW_RESULT_TIMEOUT. -/
def execFlowResultTimeout (k : Nat) (s : State) : Host.Outcome State Fault Refusal := .next (flowResultTimeout k s)
/-- CELL_REQUEST. -/
def execCellRequest (k : Nat) (d : Fin 2) (rx clear metaErr : Bool) (s : State) : Host.Outcome State Fault Refusal :=
  .next (cellRequest k d rx clear metaErr s)
/-- FRAME_TX_DONE. -/
def execFrameTxDone (n : Fin 130) (stamp : Dword) (s : State) : Host.Outcome State Fault Refusal :=
  .next (frameTxDone n stamp s)

end Sys2Proof.Machine
end

