-- ==== Sys2Proof/Machine/TimeUnit.lean ====
section
/-! DEFINITION. The time unit: parameter sets of the two domains, the selected domain, PPS outputs, time-stamp inputs, the
monitors, and the time commands (chapter 15). -/

namespace Sys2Proof.Machine

/-! ### Sets -/

/-- A signed number in `n` bytes, least significant first. -/
def leInt (n : Nat) (x : Int) : List Byte := le n (BitVec.ofInt (8 * n) x).toNat

/-- The record of a set (R384). -/
def setBytes (b : Bool) (x : TimeSet) : List Byte :=
  le 4 x.seq.toNat ++ le 2 x.epoch.toNat ++ le 1 (b2n b) ++ le 1 x.cause ++ le 8 x.anchor.toNat ++
  le 8 x.validFrom.toNat ++ le 8 x.baseS ++ le 4 x.baseNs ++ le 2 x.baseFrac ++ le 2 0 ++ leInt 8 x.rate

/-- The first 4 ns boundary at or after an FRC value (R374). -/
def boundary4 (f : Dword) : Dword := BitVec.ofNat 64 ((f.toNat + 0x3FFFF) / 0x40000 * 0x40000)

/-- The valid_from of a change accepted at an FRC value: the first 4 ns boundary at least 1,024 time clocks after it (R383). -/
def validFromOf (acc : Dword) : Dword := boundary4 (acc + BitVec.ofNat 64 ((1024 * 262144 + 4) / 5))

/-- A set that goes on from the set in force at an FRC value: only the rate changes (R382). -/
def continued (x : TimeSet) (vf : Dword) (rate : Int) (cause : Nat) : TimeSet :=
  let t := splitTime (x.convert vf)
  { x with
    seq := x.seq + 1, cause := cause, anchor := vf, validFrom := vf
    baseS := t.1, baseNs := t.2.1, baseFrac := t.2.2, rate := rate }

/-- Bring a set into force: the last 16 are kept, its mark is journalled and DOMAIN_SET tells it (R339, R382, R384). -/
def enterSet (b : Bool) (x : TimeSet) (s : State) : State :=
  let d := domAt s b
  let sets := d.sets ++ [x]
  let s1 := setDom b { d with sets := sets.drop (sets.length - 16), pending := none } s
  let s2 := journal 16 false (jentry s1 0x3071 0 0 3 x.validFrom 0 0 (b2n b + 2 * b2n (x.cause == 3))) s1
  raise Ev.domainSet (setBytes b x) s2

/-- DOMAIN_SET: a pending set reaches its valid_from, and its command completes (R383). -/
def domainSet (b : Bool) (s : State) : State :=
  let d := domAt s b
  match d.pending with
  | none => s
  | some p =>
    let x := match d.now with
      | none => { p.set with seq := 1, epoch := 0 }
      | some y =>
        if p.set.cause = 1 then continued y p.set.validFrom p.set.rate 1
        else { p.set with seq := y.seq + 1, epoch := y.epoch + (if p.set.cause = 3 then 1 else 0) }
    let s1 := enterSet b x s
    match p.resp with
    | some r => send { r with payload := le 8 x.validFrom.toNat ++ le 2 x.ident } s1
    | none => s1

/-- DOMAIN_RENEWAL: 2^62 units have passed since the anchor of the set in force (R382). -/
def domainRenewal (b : Bool) (s : State) : State :=
  match (domAt s b).now with
  | none => s
  | some x =>
    if (nowFrc s - x.anchor).toNat < 2 ^ 62 then s
    else
      let p := (domAt s b).pending
      let s1 := enterSet b (continued x (boundary4 (x.anchor + BitVec.ofNat 64 (2 ^ 62))) x.rate 2) s
      setDom b { domAt s1 b with pending := p } s1

/-! ### The commands -/

/-- The largest rate, 500 ppm (R380). -/
def maxRate : Int := 140737488355

/-- Why a set command on a domain is refused with E_BUSY (R383). -/
def setBusy (s : State) (b : Bool) : Bool :=
  (domAt s b).pending.isSome || regField s 2 0 (0x30 + b2n b) 1 0 != 0

/-- Is an anchor outside the range around acceptance (R382)? -/
def anchorBad (acc anchor : Dword) : Bool :=
  let d := (anchor - acc).toInt
  decide (d < -65536000000000) || decide (d > 6553600000000)

/-- Enter a set that waits for its valid_from. -/
def pendSet (b : Bool) (x : TimeSet) (resp : Option Response) (s : State) : State :=
  setDom b { domAt s b with pending := some { set := x, resp := resp } } s

/-- DOMAIN_SEED and DOMAIN_RESEED (R382, R383).  The argument is domain (1), anchor (8), seconds (8), nanoseconds (4),
fraction (2) and rate (8). -/
def seedCommand (op cause : Nat) (r : Req) (s : State) : State × Reply :=
  let p := r.payload
  let b := rd p 0 1 = 1
  let acc := frcAt s r.cycle
  let anchor := BitVec.ofNat 64 (rd p 1 8)
  let rate := signed 64 (rd p 23 8)
  if p.length ≠ 31 ∨ rd p 0 1 > 1 ∨ rd p 9 8 ≥ 2 ^ 48 ∨ rd p 17 4 > 999999999 then (s, .no St.eArg)
  else if ((domAt s b).sets == []) != (cause == 0) then (s, .no St.eArg)
  else if rate > maxRate ∨ rate < -maxRate ∨ anchorBad acc anchor then (s, .no St.eRange)
  else if setBusy s b then (s, .no St.eBusy)
  else
    let x : TimeSet :=
      { seq := 0, epoch := 0, cause := cause, anchor := anchor, validFrom := validFromOf acc, baseS := rd p 9 8
        baseNs := rd p 17 4, baseFrac := rd p 21 2, rate := rate }
    (pendSet b x (some (respOf op r 0 [])) s, { waits := true })

/-- DOMAIN_SEED. -/
def bodyDomainSeed : Req → State → State × Reply := seedCommand Op.domainSeed 0
/-- DOMAIN_RESEED. -/
def bodyDomainReseed : Req → State → State × Reply := seedCommand Op.domainReseed 3

/-- DOMAIN_RATE (R382, R383).  The argument is domain (1) and rate (8). -/
def bodyDomainRate (r : Req) (s : State) : State × Reply :=
  let p := r.payload
  let b := rd p 0 1 = 1
  let rate := signed 64 (rd p 1 8)
  if p.length ≠ 9 ∨ rd p 0 1 > 1 then (s, .no St.eArg)
  else match (domAt s b).now with
    | none => (s, .no St.eArg)
    | some y =>
      if rate > maxRate ∨ rate < -maxRate then (s, .no St.eRange)
      else if setBusy s b then (s, .no St.eBusy)
      else (pendSet b { y with cause := 1, validFrom := validFromOf (frcAt s r.cycle), rate := rate }
              (some (respOf Op.domainRate r 0 [])) s, { waits := true })

/-- Seconds (6), nanoseconds (4) and fraction (2) of a time. -/
def timeBytes (t : Int) : List Byte :=
  let x := splitTime t
  le 6 x.1 ++ le 4 x.2.1 ++ le 2 x.2.2

/-- The time of a domain at an FRC value; zero without a set. -/
def domTime (s : State) (b : Bool) (f : Dword) : List Byte :=
  match (domAt s b).at f with | some x => timeBytes (x.convert f) | none => le 12 0

/-- TIME_QUERY (R399): the FRC, both times, both identities, the quality byte and the selected domain. -/
def bodyTimeQuery (r : Req) (s : State) : State × Reply :=
  let f := frcAt s r.cycle
  if r.payload ≠ [] then (s, .no St.eArg)
  else (s, .yes (le 8 f.toNat ++ domTime s false f ++ domTime s true f ++ le 2 (identAt s false f) ++
    le 2 (identAt s true f) ++ le 1 (quality s false) ++ le 1 (b2n s.tu.selected)))

/-- DOMAIN_SETS_READ (R384). -/
def bodyDomainSetsRead (r : Req) (s : State) : State × Reply :=
  let b := rd r.payload 0 1 = 1
  if r.payload.length ≠ 1 ∨ rd r.payload 0 1 > 1 then (s, .no St.eArg)
  else (s, .yes ((domAt s b).sets.flatMap (setBytes b)))

/-- The kept set that matches an FRC value and an identity (R384). -/
def matchSet (d : Domain) (f : Dword) (ident : Nat) : Option TimeSet :=
  match d.at f with
  | some x => if x.ident = ident then some x else (d.sets.filter (fun y => y.ident == ident && decide (0 ≤ (f - y.validFrom).toInt) &&
      d.sets.all (fun z => z.seq != y.seq + 1 || decide ((f - z.validFrom).toInt < 0)))).getLast?
  | none => none

/-- STAMP_CONVERT (R384): domain (1), count (1), then the pairs of FRC (8) and identity (2).  The answer has, for each, a
status (2) and the time (12). -/
def bodyStampConvert (r : Req) (s : State) : State × Reply :=
  let p := r.payload
  let n := rd p 1 1
  if rd p 0 1 > 1 ∨ n = 0 ∨ n > 64 ∨ p.length ≠ 2 + 10 * n then (s, .no St.eArg)
  else
    let d := domAt s (rd p 0 1 = 1)
    (s, .yes ((List.range n).flatMap (fun i =>
      let f : Dword := BitVec.ofNat 64 (rd p (2 + 10 * i) 8)
      match matchSet d f (rd p (10 + 10 * i) 2) with
      | some x => le 2 0 ++ timeBytes (x.convert f)
      | none => le 2 St.eRange.toNat ++ le 12 0)))

/-! ### The selected domain -/

/-- Why a switch to a domain is refused (R388). -/
def switchFault (s : State) (b force : Bool) : Option Half :=
  if (domAt s b).sets = [] then some St.eArg
  else if force then none
  else match domainGap s (nowFrc s) with
    | some g => if g > 65536 * regField s 2 0 5 19 0 then some St.eRange else none
    | none => none

/-- The disagreement of the domains in units of 2^-16 ns; 0 while one is unseeded. -/
def gapNow (s : State) : Nat := (domainGap s (nowFrc s)).getD 0

/-- DOMAIN_SWITCH_REFUSED (R388). -/
def switchRefused (b : Bool) (st : Half) (s : State) : State :=
  raise Ev.domainSwitchRefused (le 1 (b2n b) ++ le 8 (gapNow s) ++ le 2 st.toNat) s

/-- DOMAIN_SELECT (R388).  The argument is domain (1) and force (1). -/
def bodyDomainSelect (r : Req) (s : State) : State × Reply :=
  let p := r.payload
  let b := rd p 0 1 = 1
  if p.length ≠ 2 ∨ rd p 0 1 > 1 ∨ rd p 1 1 > 1 then (s, .no St.eArg)
  else match switchFault s b (rd p 1 1 = 1) with
    | some st => (switchRefused b st s, .no st)
    | none =>
      let s1 := s.setTu { s.tu with switchPending := true }
      (defer { due := dueTick s r.cycle, change := .domainSelect b (rd p 1 1 = 1)
               resp := some (respOf Op.domainSelect r 0 []) } s1, { waits := true })

/-- DOMAIN_SWITCHED or DOMAIN_SWITCH_REFUSED: a pending switch at its boundary (R388). -/
def applySelect (b force : Bool) (resp : Option Response) (s : State) : State :=
  let more := s.sys.deferred.any (fun d => match d.change with
    | .domainSelect _ _ => true
    | _ => false)
  match switchFault s b force with
  | some st =>
    sendAt (resp.map (fun r => { r with status := st })) s.tick.count
      (switchRefused b st (s.setTu { s.tu with switchPending := more }))
  | none =>
    let s1 := raise Ev.domainSwitched (le 1 (b2n s.tu.selected) ++ le 1 (b2n b) ++ le 1 (b2n force) ++ le 8 (gapNow s) ++
      le 8 s.tick.count.toNat) (s.setTu { s.tu with selected := b, switchPending := more })
    sendAt resp s.tick.count s1

/-! ### PPS -/

/-- One PPS output. -/
def ppsAt (s : State) (k : Nat) : Pps := tgetD (fun _ => {}) s.tu.pps k
/-- Put one PPS output. -/
def setPps (k : Nat) (x : Pps) (s : State) : State := s.setTu { s.tu with pps := tput s.tu.pps k x }

/-- PPS_DISCONTINUITY: cause 0 backwards, 1 forwards, with the seconds (R390). -/
def ppsStep (k cause n : Nat) (s : State) : State := raise Ev.ppsDiscontinuity (le 1 k ++ le 1 cause ++ le 8 n) s

/-- PPS_PULSE_START: at an FRC value selected domain time, less the offset, reaches a whole second (R389, R390). -/
def ppsPulseStart (k : Nat) (f : Dword) (s : State) : State :=
  match (domAt s s.tu.selected).now with
  | none => s
  | some x =>
    if !bitOf (reg s 2 0 (8 + 2 * k)).toNat 0 then s
    else
      let t := x.convert f - (reg s 2 0 (9 + 2 * k)).toInt
      let sec := (t.fdiv second).toNat
      let rem := t - (t.fdiv second) * second
      let y := ppsAt s k
      let seen := (s.tu.selected, x.epoch.toNat)
      let moved := y.seen.isSome && y.seen != some seen
      let pulse := fun (s : State) => setPps k { ppsAt s k with active := true, lastSecond := some sec, seen := some seen } s
      match y.lastSecond with
      | none => if rem < 65536 then pulse s else s
      | some l =>
        if sec ≤ l then
          if moved then ppsStep k 0 (l - sec + 1) (setPps k { y with seen := some seen } s) else s
        else if rem < 65536 && (sec == l + 1 || !moved) then pulse s
        else if moved then pulse (ppsStep k 1 (sec - l - 1) s)
        else s

/-- PPS_PULSE_END: the pulse has lasted its width (R389). -/
def ppsPulseEnd (k : Nat) (s : State) : State := setPps k { ppsAt s k with active := false } s

/-! ### Time-stamp inputs -/

/-- One input. -/
def tsiAt (s : State) (i : Nat) : Tsi := tgetD (fun _ => {}) s.tu.tsi i
/-- Put one input. -/
def setTsi (i : Nat) (x : Tsi) (s : State) : State := s.setTu { s.tu with tsi := tput s.tu.tsi i x }

/-- The input delay of an edge from the calibration record (R73). -/
def tsiDelay (s : State) (i : Nat) (rising : Bool) : Int :=
  signed 32 (rd (s.cal.tsi.getD (tsiSection s)) (8 * i + (if rising then 0 else 4)) 4)

/-- TSI_EDGE: an edge has been accepted whose first sample at the new level carries an FRC value (R391, R392).  An edge of a servo's
source posts a servo step (R385, R506). -/
def tsiEdge (i : Nat) (rising : Bool) (f : Dword) (s : State) : State :=
  let c := (reg s 2 0 (0x10 + 4 * i)).toNat
  let x := tsiAt s i
  if !bitOf c (if rising then 0 else 1) then s
  else if x.fifo.length ≥ 64 then
    let s1 := bump32 2 0 (0x12 + 4 * i) 1 (setTsi i { x with lost := x.lost + 1 } s)
    raiseLimited Ev.tsiOverflow i (fun n => le 1 i ++ le 4 n) s1
  else
    let stamp : Dword := f - BitVec.ofInt 64 (tsiDelay s i rising)
    let e := le 8 stamp.toNat ++ le 1 (i + 8 * b2n rising) ++ le 1 (quality s (!s.cal.valid)) ++
      le 2 (identAt s false stamp) ++ le 2 (identAt s true stamp) ++ le 2 (min x.lost 0xFFFF)
    let s1 := setTsi i { x with fifo := x.fifo ++ [e], lost := 0 } s
    let s2 := [0, 1].foldl (fun s d =>
      let v := (reg s 2 0 (0x30 + d)).toNat
      if v % 4 = 2 ∧ bitsOf v 4 2 = i then postItem 0 .servo s else s) s1
    if bitOf c 2 then raise Ev.tsiEdge e s2 else s2

/-- TSI_READ (R392).  The argument is input (1) and the number of entries wanted (1). -/
def bodyTsiRead (r : Req) (s : State) : State × Reply :=
  let i := rd r.payload 0 1
  let n := rd r.payload 1 1
  if r.payload.length ≠ 2 ∨ i > 7 ∨ n = 0 ∨ n > 64 then (s, .no St.eArg)
  else
    let x := tsiAt s i
    (setTsi i { x with fifo := x.fifo.drop n } s, .yes (x.fifo.take n).flatten)

/-! ### Monitors -/

/-- TREF_ALARM: the TREF monitor or the PLL lock monitor changes (R378).  Causes: 0 TREF loss, 1 PLL unlock, 2 return. -/
def trefAlarm (tref pll : Bool) (s : State) : State :=
  let was := s.tu.trefAlarm || s.tu.pllAlarm
  let now := tref || pll
  let s1 := s.setTu { s.tu with trefAlarm := tref, pllAlarm := pll }
  if now == was then s1
  else
    let s2 := raise Ev.trefAlarm (le 1 (if tref then 0 else if pll then 1 else 2) ++ le 8 s.tick.count.toNat) s1
    if now then condOn 0x10 (recordFault 0x10 2 0 0 s2) else condOff 0x10 s2

/-- Does a count of the island oscillator lie outside its window (R379)? -/
def frcCountBad (long : Bool) (n : Nat) : Bool :=
  if long then decide (n < 102369 ∨ n > 102431) else decide (n < 98 ∨ n > 102)

/-- FRC_CHECK_FAIL: a count over one tick, or over a period of 1,024 ticks, lies outside its window (R379). -/
def frcCheckFail (long : Bool) (n : Nat) (s : State) : State :=
  let s1 := if long then s.setTu { s.tu with frcCount := n } else s
  if !frcCountBad long n then s1
  else
    let s2 := raise Ev.frcCheckFail (le 1 (b2n long) ++ le 4 n ++ le 8 s.tick.count.toNat)
      (s1.setTu { s1.tu with frcFail := true, frcGood := 0 })
    condOn 0x11 (recordFault 0x11 2 0 n s2)

/-- The counts of a tick lie in their windows: after 1,024 such ticks the failure ends (R379). -/
def frcCheckGood (s : State) : State :=
  if !s.tu.frcFail then s
  else if s.tu.frcGood + 1 ≥ 1024 then condOff 0x11 (s.setTu { s.tu with frcFail := false, frcGood := 0 })
  else s.setTu { s.tu with frcGood := s.tu.frcGood + 1 }

/-! ### The servo -/

/-- SERVO_STATE (R385). -/
def servoState (b : Bool) (st : Nat) (s : State) : State :=
  let d := domAt s b
  if d.servo = st then s
  else raise Ev.servoState (le 1 (b2n b) ++ le 1 d.servo ++ le 1 st) (setDom b { d with servo := st } s)

/-- The oscillator rate offset of the calibration record (R73). -/
def oscRate (s : State) : Int := signed 40 (leNat (calBytes s 0xAB0 5))

/-- What the firmware servo does at one step: a new state, and a seed, a rate or a reseed (R385).  The servo seeds at its
first lock with the negated oscillator rate (R382), and sends a rate at most once a tick. -/
def servoStep (x : ServoStep) (s : State) : State :=
  let b := x.domB
  let s1 := servoState b (x.servo % 4) s
  let d := domAt s1 b
  let src := regField s1 2 0 (0x30 + b2n b) 1 0
  let vf := validFromOf (nowFrc s1)
  let okRate := decide (-maxRate ≤ x.rate ∧ x.rate ≤ maxRate)
  if (src ≠ 1 ∧ src ≠ 2) ∨ d.pending.isSome ∨ x.baseS ≥ 2 ^ 48 ∨ x.baseNs > 999999999 then s1
  else match x.act, d.now with
    | 1, some y =>
      if !okRate || d.lastRate == some s1.tick.count then s1
      else pendSet b { y with cause := 1, validFrom := vf, rate := x.rate } none
        (setDom b { d with lastRate := some s1.tick.count } s1)
    | 2, none =>
      if src = 2 || anchorBad (nowFrc s1) x.anchor then s1
      else pendSet b { seq := 0, epoch := 0, cause := 0, anchor := x.anchor, validFrom := vf, baseS := x.baseS
                       baseNs := x.baseNs, baseFrac := x.baseFrac % 65536, rate := -(oscRate s1) } none s1
    | 3, some _ =>
      if !okRate || anchorBad (nowFrc s1) x.anchor then s1
      else pendSet b { seq := 0, epoch := 0, cause := 3, anchor := x.anchor, validFrom := vf, baseS := x.baseS
                       baseNs := x.baseNs, baseFrac := x.baseFrac % 65536, rate := x.rate } none s1
    | _, _ => s1

/-! ### The meanings -/

/-- TIME_QUERY. -/
def execTimeQuery (r : Req) (s : State) : Host.Outcome State Fault Refusal := .next (runToune Op.timeQuery bodyTimeQuery r s)
/-- DOMAIN_SEED. -/
def execDomainSeed (r : Req) (s : State) : Host.Outcome State Fault Refusal := .next (runToune Op.domainSeed bodyDomainSeed r s)
/-- DOMAIN_RATE. -/
def execDomainRate (r : Req) (s : State) : Host.Outcome State Fault Refusal := .next (runToune Op.domainRate bodyDomainRate r s)
/-- DOMAIN_RESEED. -/
def execDomainReseed (r : Req) (s : State) : Host.Outcome State Fault Refusal :=
  .next (runToune Op.domainReseed bodyDomainReseed r s)
/-- DOMAIN_SELECT. -/
def execDomainSelect (r : Req) (s : State) : Host.Outcome State Fault Refusal :=
  .next (runToune Op.domainSelect bodyDomainSelect r s)
/-- DOMAIN_SETS_READ. -/
def execDomainSetsRead (r : Req) (s : State) : Host.Outcome State Fault Refusal :=
  .next (runToune Op.domainSetsRead bodyDomainSetsRead r s)
/-- STAMP_CONVERT. -/
def execStampConvert (r : Req) (s : State) : Host.Outcome State Fault Refusal :=
  .next (runToune Op.stampConvert bodyStampConvert r s)
/-- TSI_READ. -/
def execTsiRead (r : Req) (s : State) : Host.Outcome State Fault Refusal := .next (runToune Op.tsiRead bodyTsiRead r s)
/-- DOMAIN_SET. -/
def execDomainSet (b : Bool) (s : State) : Host.Outcome State Fault Refusal := .next (domainSet b s)
/-- DOMAIN_RENEWAL. -/
def execDomainRenewal (b : Bool) (s : State) : Host.Outcome State Fault Refusal := .next (domainRenewal b s)
/-- PPS_PULSE_START. -/
def execPpsPulseStart (k : Fin 2) (f : Dword) (s : State) : Host.Outcome State Fault Refusal := .next (ppsPulseStart k f s)
/-- PPS_PULSE_END. -/
def execPpsPulseEnd (k : Fin 2) (s : State) : Host.Outcome State Fault Refusal := .next (ppsPulseEnd k s)
/-- TSI_EDGE. -/
def execTsiEdge (i : Fin 8) (rising : Bool) (f : Dword) (s : State) : Host.Outcome State Fault Refusal :=
  .next (tsiEdge i rising f s)
/-- TREF_ALARM. -/
def execTrefAlarm (tref pll : Bool) (s : State) : Host.Outcome State Fault Refusal := .next (trefAlarm tref pll s)
/-- FRC_CHECK_FAIL. -/
def execFrcCheckFail (long : Bool) (n : Nat) (s : State) : Host.Outcome State Fault Refusal := .next (frcCheckFail long n s)

end Sys2Proof.Machine
end

