-- ==== Sys2Proof/Machine/QueueOps.lean ====
section
/-! DEFINITION. What queues do on their own account: fetching, published heads, completions, and leaving ENABLED (R447 to
R460). -/

namespace Sys2Proof.Machine

/-! ### Leaving ENABLED -/

/-- Is a started job of a queue still to end (R460)? -/
def jobsLeft (x : Queue) : Bool := x.jobs.any (fun j => j.begun && !j.written)

/-- The ring that an export queue is bound to (R343, R444). -/
def Queue.exports (x : Queue) : Option Nat :=
  if x.kind = 5 then some 0 else if x.kind = 6 then some (1 + x.bound) else none

/-- An export queue releases the ring that it holds (R343). -/
def unbindRing (q : Nat) (x : Queue) (s : State) : State :=
  match x.exports with
  | some i => if (ringAt s i).queue = some q then setRing i { ringAt s i with queue := none } s else s
  | none => s

/-- A queue is DISABLED: jobs whose completion is not acknowledged are forgotten, to be replayed; QUEUE_DISABLED tells the
head, and a QUEUE_DISABLE completes (R455, R460). -/
def queueDisabled (q : Nat) (s : State) : State :=
  let x := hqAt s q
  let s1 := unbindRing q x (setHq q { x with st := 3, jobs := [], entries := [], handle := none, rxOff := 0 } s)
  let s2 := raise Ev.queueDisabled (le 2 q ++ le 1 x.cause ++ le 4 x.head.toNat) s1
  match x.handle with
  | some h => endOp h St.ok (le 4 x.head.toNat) s2
  | none => s2

/-- A DISABLING queue whose last started job has ended is DISABLED (R460). -/
def settleQueue (q : Nat) (s : State) : State :=
  if (hqAt s q).st = 2 ∧ !jobsLeft (hqAt s q) then queueDisabled q s else s

/-- A read of entries under way serves the queue no longer. -/
def forgetFetch (q : Nat) (s : State) : State :=
  s.setHost { s.host with
    qp := s.host.qp.map (fun e => (e.1, { e.2 with
      out := e.2.out.map (fun r => if r.purpose = .fetch q then { r with purpose := .fetch 1024 } else r) })) }

/-- Host copies that wait for a queue that is no ENABLED RECEIVE queue are abandoned and counted (R456). -/
def dropHostCopies (q : Nat) (s : State) : State :=
  let ks := tgetD (fun _ => []) s.buf.hostq q
  let d := hqDie s q
  let s1 := s.setBuf { s.buf with hostq := terase s.buf.hostq q }
  ks.foldl (fun s k => dropCopy k (.host q) (bump32 18 0 (0x201 + d) 1 s)) s1

/-- Jobs whose completion a completion queue held and discards (R460). -/
def dropJob (q : Nat) (pos : Word) (s : State) : State :=
  modHq q (fun x => { x with jobs := x.jobs.filter (fun j => j.pos != pos) }) s

/-- One queue leaves ENABLED with a cause (R460): fetching stops, and jobs not yet started are discarded. -/
def disableOne (q cause : Nat) (s : State) : State :=
  let x := hqAt s q
  if x.st ≠ 1 then s
  else
    let s1 := forgetFetch q (setHq q { x with
      st := 2, cause := cause, entries := [], fetching := 0, arrived := none, held := [], fullEpisode := false
      jobs := x.jobs.filter (fun j => j.begun) } s)
    let s2 := x.held.foldl (fun s e => dropJob e.1 e.2.1 s) s1
    let s3 := if x.kind = 2 then dropHostCopies q s2 else s2
    settleQueue q s3

/-- A queue leaves ENABLED; a completion queue takes every submission queue that names it along (R460). -/
def disableQueue (q cause : Nat) (s : State) : State :=
  let cq := (hqAt s q).kind = 8 ∧ (hqAt s q).st = 1
  let s1 := disableOne q cause s
  if cq then
    (s1.host.queue.filter (fun e => e.2.submits && e.2.cq == q)).foldl (fun s e => disableOne e.1 5 s) s1
  else s1

/-! ### The published head -/

/-- Write a queue's head slot, at most once in a tick; a second write of a tick waits for the next (R455).  A write that
cannot be made disables the queue (R460, cause 3). -/
def publishHead (q : Nat) (s : State) : State :=
  let x := hqAt s q
  if x.headRegion = 0xFFFF then s
  else if x.headTick = some s.tick.count then setHq q { x with headOwed := true } s
  else
    let (s1, ok) := hostWrite x.headRegion x.headOffset (le 8 x.head.toNat) none (.head q) s
    let s2 := modHq q (fun x => { x with headTick := some s.tick.count, headOwed := false }) s1
    if ok then s2 else disableQueue q 3 s2

/-- The head writes that waited for this tick (R455). -/
def flushHeads (s : State) : State :=
  (s.host.queue.filter (fun e => e.2.headOwed)).foldl (fun s e => publishHead e.1 s) s

/-! ### Fetching -/

/-- Is a completion queue full (R458)? -/
def cqFull (x : Queue) : Bool := decide ((x.head - x.doorbell).toNat ≥ x.size)

/-- Does a queue want to fetch (R449, R458)?  Its completion queue is ENABLED and not full. -/
def wantsFetch (s : State) (q : Nat) : Bool :=
  let x := hqAt s q
  x.st == 1 && x.submits && x.fetching == 0 && x.arrived.isNone && x.fetched != x.doorbell &&
  (hqAt s x.cq).st == 1 && !cqFull (hqAt s x.cq)

/-- Read up to 16 entries of a queue, over the queue pair of its ring; a read that cannot start disables the queue (R438,
R449, R460). -/
def fetchOne (q : Nat) (s : State) : State :=
  let x := hqAt s q
  if !wantsFetch s q then s
  else
    let slot := x.fetched.toNat % x.size
    let n := min 16 (min (x.doorbell - x.fetched).toNat (x.size - slot))
    match regionUsable s x.ring_ (x.at_ x.fetched) (64 * n) false with
    | none => disableQueue q 2 s
    | some p =>
      if ((qpAt s p).out.filter (fun r => r.kind == 2)).length ≥ rd (qpAt s p).arg 0x2D 1 then s
      else
        let s1 := (hostRead x.ring_ (x.at_ x.fetched) (64 * n) (.fetch q) s).1
        (modHq q (fun x => { x with fetching := n }) s1).setHost
          { (modHq q (fun x => { x with fetching := n }) s1).host with turn := q }

/-- Fetch for every queue that wants it, in rotating order (R449).  Queues do nothing while their unit is out. -/
def pumpFetch (s : State) : State :=
  if !inService s 18 0 then s
  else
    let ks := s.host.queue.map (·.1)
    (ks.filter (fun k => k > s.host.turn) ++ ks.filter (fun k => k ≤ s.host.turn)).foldl (fun s q => fetchOne q s) s

/-! ### Completions -/

/-- Write an entry into a device-written ring at its producer count; its first four bytes are its position (R457, R459). -/
def ringWrite (c : Nat) (tail : List Byte) (p : Purpose) (s : State) : State × Bool :=
  let x := hqAt s c
  let (s1, ok) := hostWrite x.ring_ (x.at_ x.head) (le 4 x.head.toNat ++ tail) none p s
  if ok then (publishHead c (modHq c (fun x => { x with head := x.head + 1 }) s1), true) else (s1, false)

/-- A completion entry behind its position (R457). -/
def completionTail (q : Nat) (j : Job) : List Byte :=
  le 2 q ++ le 2 j.status.toNat ++ le 4 j.tag.toNat ++ le 4 (j.pos + BitVec.ofNat 32 j.count).toNat ++ padTo 16 j.detail

/-- Write the completion entry of a job; a failed write disables its queue (R460, cause 4). -/
def writeCompletion (c q : Nat) (pos : Word) (tail : List Byte) (s : State) : State :=
  let (s1, ok) := ringWrite c tail (.completion q pos) s
  if ok then s1 else disableQueue q 4 (dropJob q pos s1)

/-- CQ_FULL: a full completion queue holds completions; told once per episode (R458). -/
def fullEpisode (c : Nat) (s : State) : State :=
  let x := hqAt s c
  if x.held ≠ [] ∧ !x.fullEpisode then
    raise Ev.cqFull (le 2 c ++ le 1 x.held.length ++ le 8 s.tick.count.toNat) (setHq c { x with fullEpisode := true } s)
  else s

/-- The completion of a job is written or held, in ring order (R455, R457, R458). -/
def postCompletion (q : Nat) (j : Job) (s : State) : State :=
  let c := (hqAt s q).cq
  let y := hqAt s c
  let tail := completionTail q j
  if y.st ≠ 1 then dropJob q j.pos s
  else if cqFull y ∨ y.held ≠ [] then
    fullEpisode c (modHq c (fun y => { y with held := y.held ++ [(q, j.pos, tail)] }) s)
  else writeCompletion c q j.pos tail s

/-- A doorbell of a completion queue freed room: held completions are written in order (R458). -/
def releaseHeld (c : Nat) : Nat → State → State
  | 0, s => s
  | fuel + 1, s =>
    let x := hqAt s c
    match x.held with
    | [] => setHq c { x with fullEpisode := cqFull x && x.fullEpisode } s
    | e :: rest =>
      if cqFull x ∨ x.st ≠ 1 then fullEpisode c s
      else
        releaseHeld c fuel (writeCompletion c e.1 e.2.1 e.2.2 (setHq c { x with held := rest, fullEpisode := false } s))

/-- Jobs in execution over all queues that feed a completion queue, with the completions it holds (R458). -/
def cqLoad (s : State) (c : Nat) : Nat :=
  ((s.host.queue.filter (fun e => e.2.submits && e.2.cq == c)).map
    (fun e => (e.2.jobs.filter (fun j => j.begun && !j.written)).length)).sum + (hqAt s c).held.length

/-- The oldest job of a queue whose completion is not yet written. -/
def oldestJob (s : State) (q : Nat) : Option Job := (hqAt s q).jobs.find? (fun j => !j.written)

/-- The transmit stamp of an INJECT job: known, or, where its frame is gone without a stamp, 0 (R457). -/
def injectStamp (s : State) (q : Nat) (pos : Word) : Option Dword :=
  match s.buf.stamped.find? (fun e => e.1 == q && e.2.1 == pos) with
  | some e => some e.2.2
  | none => if s.path.pkts.any (fun e => decide (e.2.gen.job = some (q, pos.toNat))) then none else some 0

/-- End an INJECT job that waited for its stamp (R453, R457). -/
def endInject (q : Nat) (s : State) : State :=
  match oldestJob s q with
  | some j =>
    if (hqAt s q).kind = 1 ∧ !j.done then
      match injectStamp s q j.pos with
      | some f =>
        let s1 := s.setBuf { s.buf with stamped := s.buf.stamped.filter (fun e => !(e.1 == q && e.2.1 == j.pos.toNat)) }
        modJob q j.pos (fun j => { j with done := true, detail := le 8 f.toNat ++ le 8 0 }) s1
      | none => s
    else s
  | none => s

/-- JOB_COMPLETE: the oldest job of a queue without completion has ended and every host write of it is acknowledged: its
completion entry is written in ring order or held, and a DISABLING queue whose last job this was is DISABLED (R454,
R455, R458, R460). -/
def jobComplete (q : Nat) (s : State) : State :=
  if !inService s 18 0 then s
  else
    let s0 := endInject q s
    match oldestJob s0 q with
    | none => s0
    | some j =>
      if !j.done ∨ outstanding s0 (.data q j.pos) then s0
      else
        let s1 := modJob q j.pos (fun j => { j with written := true }) s0
        pumpFetch (settleQueue q (postCompletion q j s1))

/-- COMPLETION_ACK: the host's adapter has acknowledged the completion of a queue's oldest job: an export's read count
moves on, the head passes the job and is published (R343, R455). -/
def completionAck (q : Nat) (s : State) : State :=
  let x := hqAt s q
  match x.jobs with
  | [] => s
  | j :: rest =>
    if !j.written ∨ outstanding s (.completion q j.pos) ∨
        (hqAt s x.cq).held.any (fun e => e.1 == q && e.2.1 == j.pos) ∨ !inService s 18 0 then s
    else
      let s1 := setHq q { x with jobs := rest, head := j.pos + BitVec.ofNat 32 j.count } s
      let s2 := match x.exports with
        | some i => if j.items = 0 ∨ (j.next - (ringAt s1 i).read).toInt ≤ 0 then s1 else readTo i j.next s1
        | none => s1
      pumpFetch (publishHead q s2)

end Sys2Proof.Machine
end

