-- ==== Sys2Proof/Machine/Windows.lean ====
section
/-! DEFINITION. The memory that hosts reach: the Stack window, the Peatbank window and the statistics window (R405, R433,
R463, R529, R530).  The two first are lists of cells in one canonical form; a byte that nothing has written reads 0. -/

namespace Sys2Proof.Machine

/-! ### Cells -/

namespace Memory

/-- What an unlisted address reads as: no rule states a content, and 0 is the model's choice (DESIGN CHOICE). -/
def blank : Byte := 0

/-- Addresses above `lo` rise strictly, and no listed byte equals what an unlisted one reads as. -/
def wfFrom : Option Nat → List Host.Cell → Bool
  | _, [] => true
  | lo, (a, b) :: m =>
    (match lo with | none => true | some l => decide (l < a)) && b != blank && wfFrom (some a) m

/-- The canonical form. -/
def wf (m : List Host.Cell) : Bool := wfFrom none m

/-- Read one byte. -/
def read : List Host.Cell → Nat → Byte
  | [], _ => blank
  | (a', b) :: m, a => if a = a' then b else if a < a' then blank else read m a

/-- Write one byte. -/
def write : List Host.Cell → Nat → Byte → List Host.Cell
  | [], a, v => if v = blank then [] else [(a, v)]
  | (a', b) :: m, a, v =>
    if a = a' then (if v = blank then m else (a, v) :: m)
    else if a < a' then (if v = blank then (a', b) :: m else (a, v) :: (a', b) :: m)
    else (a', b) :: write m a v

/-- Write bytes to the locations that `f` gives for the addresses from `a`. -/
def writeAll (f : Nat → Nat) : List Host.Cell → Nat → List Byte → List Host.Cell
  | m, _, [] => m
  | m, a, v :: vs => writeAll f (write m (f a) v) (a + 1) vs

/-- Read `n` bytes from the locations that `f` gives for the addresses from `a`. -/
def readAll (f : Nat → Nat) (m : List Host.Cell) (a n : Nat) : List Byte :=
  (List.range n).map (fun i => read m (f (a + i)))

end Memory

/-! ### The Stack window -/

/-- The host window of a pseudo-channel in bytes (R404): 767 MiB − 2T MiB − S × 34 MiB. -/
def hostWindow (s : State) : Nat :=
  2 ^ 20 * (767 - 2 * regField s 13 16 0x18 3 0 - 34 * regField s 13 16 0x14 4 0)

/-- The pseudo-channel of a host-window address (R405). -/
def winChan (s : State) (w : Nat) : Nat :=
  (List.range 7).foldl (fun p i =>
    p + 2 ^ i * ((b2n (bitOf w (8 + i)) + parity 32 (bitsOf w 46 15 &&& (reg s 14 128 (8 + i)).toNat)) % 2)) 0

/-- The location of a host-window address: its pseudo-channel and its offset in the channel's host window (R405). -/
def winLoc (s : State) (w : Nat) : Nat := 2 ^ 40 * winChan s w + (256 * bitsOf w 46 15 + w % 256)

/-! ### The Peatbank window -/

/-- Channels present at the end of Kindling. -/
def peatChans (s : State) : List Nat := s.jnl.channels
/-- The size of the Peatbank window in bytes; 0 where it is absent (R433). -/
def peatSize (s : State) : Nat := 2 ^ 30 * ((peatChans s).length * regField s 19 256 0x11 31 16)
/-- The channel of a Peatbank window address (R433). -/
def peatChan (s : State) (w : Nat) : Nat := (peatChans s).getD (w / 256 % max 1 (peatChans s).length) 0
/-- The location of a Peatbank window address: its channel and its offset in the channel (R433). -/
def peatLoc (s : State) (w : Nat) : Nat :=
  2 ^ 48 * peatChan s w + (2 ^ 30 * regField s 19 256 0x11 15 0 + 256 * (w / (256 * max 1 (peatChans s).length)) + w % 256)

/-! ### Access -/

/-- One of the two windows: true for the Peatbank. -/
abbrev Win := Bool

/-- The size of a window. -/
def winSize (s : State) (p : Win) : Nat := if p then peatSize s else 128 * hostWindow s
/-- The location of an address of a window. -/
def winAt (s : State) (p : Win) (w : Nat) : Nat := if p then peatLoc s w else winLoc s w
/-- The contents of a window. -/
def winMem (s : State) (p : Win) : List Host.Cell := if p then s.host.peatWin else s.host.stackWin
/-- Put the contents of a window. -/
def setWinMem (p : Win) (m : List Host.Cell) (s : State) : State :=
  s.setHost (if p then { s.host with peatWin := m } else { s.host with stackWin := m })
/-- Read bytes of a window. -/
def winRead (s : State) (p : Win) (w n : Nat) : List Byte := Memory.readAll (winAt s p) (winMem s p) w n
/-- Write bytes of a window. -/
def winWrite (p : Win) (w : Nat) (b : List Byte) (s : State) : State :=
  setWinMem p (Memory.writeAll (winAt s p) (winMem s p) w b) s
/-- One 64-byte access of a window draws on the share of its pseudo-channel or channel, while that lasts (R40, R41). -/
def winTouch (p : Win) (w : Nat) (s : State) : State :=
  if p then if expRoom s (peatChan s w) then useExp (peatChan s w) s else s
  else
    let k := winChan s w
    if svcRoom s (k / 8) (k % 8) then useSvc (k / 8) (k % 8) 1 s else s

/-- A transfer of a window takes what the shares of the tick leave it; the rest of its accesses fall in other ticks (R40, R41; DESIGN
CHOICE, log 58). -/
def winUse (p : Win) (w n : Nat) (s : State) : State :=
  if n = 0 then s
  else (List.range (min 65536 ((w + n + 63) / 64 - w / 64))).foldl (fun s i => winTouch p (64 * (w / 64 + i)) s) s

/-- Does an access reach a unit that is OUT or in REJOIN, or not yet switched in (R436, R465)? -/
def winAway (s : State) (p : Win) (w n : Nat) : Bool :=
  (List.range ((w + n + 255) / 256 - w / 256)).any (fun i =>
    let a := 256 * (w / 256 + i)
    if p then !inService s 15 (peatChan s a) else !inService s 14 (winChan s a))

/-! ### The statistics window -/

/-- Is the statistics window exported (R530)? -/
def observer (s : State) : Bool := bitOf (reg s 22 0 0).toNat 0

/-- Size of the statistics window (R433). -/
def statsSize : Nat := 16 * 2 ^ 20

/-- The class whose counters block `m` of the window shows (R529). -/
def statsClass : Nat → Nat
  | 0 => 5 | 1 => 8 | 2 => 9 | 3 => 12 | 4 => 17 | _ => 19

/-- The aligned 8-byte unit at an offset below the sample rings (R529). -/
def statsUnit (s : State) (o : Nat) : Nat :=
  if o < 0x40 then
    match o / 8 with
    | 0 => 0x53585357 + 2 ^ 32 * 1
    | 1 => s.tick.count.toNat
    | 2 | 3 | 4 | 5 => (tgetD (fun _ => {}) s.pmon.smp (o / 8 - 2)).write.toNat
    | _ => 0
  else if 0x1000 ≤ o ∧ o < 0x1200 then
    let r := o - 0x1000
    counter s (paddr 22 (1 + r / 128) (0x100 + 2 * (r % 128 / 8)))
  else if 0x2000 ≤ o ∧ o < 0x2400 then
    let r := o - 0x2000
    counter s (paddr 22 (16 + r / 64) (0x100 + 2 * (r % 64 / 8)))
  else if 0x10000 ≤ o ∧ o < 0x14000 then
    let r := o - 0x10000
    counter s (paddr 22 32 (8 * (r / 16) + 2 + 2 * (r % 16 / 8)))
  else if 0x14000 ≤ o ∧ o < 0x15200 then
    let r := o - 0x14000
    counter s (paddr 22 33 (8 * (r / 16) + 2 + 2 * (r % 16 / 8)))
  else if 0x100000 ≤ o ∧ o < 0x1C0000 then
    let r := o - 0x100000
    counter s (paddr (statsClass (r / 0x20000)) (r % 0x20000 / 256) (0x100 + 2 * (r % 256 / 8)))
  else 0

/-- A byte of a pipeline's sample ring: the record that write `k` put at 128 × (k mod 4,096) (R529). -/
def sampleByte (s : State) (p o : Nat) : Byte :=
  let x := tgetD (fun _ => {}) s.pmon.smp p
  let w := x.write.toNat
  let first := w - x.ring.length
  let slot := o / 128
  let i := (slot + 4096 - first % 4096) % 4096
  ((x.ring.getD i [])).getD (o % 128) 0

/-- A byte of the statistics window. -/
def statsByte (s : State) (a : Nat) : Byte :=
  if 0x800000 ≤ a ∧ a < 0xA00000 then sampleByte s ((a - 0x800000) / 0x80000) ((a - 0x800000) % 0x80000)
  else BitVec.ofNat 8 (statsUnit s (a / 8 * 8) / 256 ^ (a % 8))

/-- Bytes of the statistics window. -/
def statsRead (s : State) (a n : Nat) : List Byte := (List.range n).map (fun i => statsByte s (a + i))

end Sys2Proof.Machine
end

