-- ==== Sys2Proof/Machine/Transport.lean ====
section
/-! DEFINITION. The host transport: RoCEv2 queue pairs, the regions that hosts reach, host regions, and what the engine
answers by itself (R426 to R442). -/

namespace Sys2Proof.Machine

/-! ### Queue pairs that fail -/

/-- What an issued request leaves undone when its queue pair fails (R437, R439, R455, R460). -/
def flushReq (r : OutReq) (s : State) : State :=
  match r.purpose with
  | .fetch q => if q < 1024 then disableQueue q 2 s else s
  | .completion q pos => disableQueue q 4 (dropJob q pos s)
  | .head q => disableQueue q 3 s
  | .data q pos => modJob q pos (fun j => { j with status := St.eFault }) s
  | .event q => disableQueue q 4 s
  | .response _ => s

/-- QP_ERROR: a queue pair enters ERROR; its outstanding requests end flushed (R439). -/
def qpError (q cause : Nat) (psn : BitVec 24) (s : State) : State :=
  let x := qpAt s q
  let s1 := setQp q { x with st := 2, cause := cause, out := [], nakOut := false, resends := 0 } s
  let s2 := raise Ev.qpError (le 2 q ++ le 1 cause ++ le 4 psn.toNat ++ le 8 s.tick.count.toNat) s1
  x.out.foldl (fun s r => flushReq r s) s2

/-- The host-transport engines have been reset (R72): every queue pair that is not FREE enters ERROR with cause 5, and a
queue whose ring is read through one is disabled. -/
def restartTransport (s : State) : State :=
  let live := (s.host.qp.filter (fun e => e.2.st != 0)).map (·.1)
  let s1 := live.foldl (fun s q => if (qpAt s q).st = 1 then qpError q 5 (qpAt s q).sqPsn s else
    setQp q { qpAt s q with cause := 5 } s) s
  (s1.host.queue.map (·.1)).foldl (fun s q =>
    match regionAt s (hqAt s q).ring_ with
    | some b => if (qpAt s (regionQp b)).st = 2 then disableQueue q (if (hqAt s q).submits then 2 else 4) s else s
    | none => s) s1

/-! ### The device's own regions -/

/-- Bytes of the mailbox (R433). -/
def mailboxRead (s : State) (a n : Nat) : List Byte :=
  (List.range n).map (fun i =>
    let b := a + i
    let x := slotAt s (b / 8192)
    if b % 8192 < 4096 then x.request.getD (b % 8192) 0 else x.response.getD (b % 8192 - 4096) 0)

/-- Bytes of the doorbell page: the doorbell in force of each queue (R433, R448). -/
def doorbellRead (s : State) (a n : Nat) : List Byte :=
  (List.range n).map (fun i =>
    let b := a + i
    if b % 8 < 4 then BitVec.ofNat 8 ((hqAt s (b / 8)).doorbell.toNat / 256 ^ (b % 8)) else 0)

/-- An RDMA WRITE applied, or none where R436 answers a remote-access error. -/
def rdmaWrite (key : Word) (va : Nat) (b : List Byte) (s : State) : Option State :=
  let n := b.length
  if key = 0x11 then
    if va + n ≤ 0x80000 ∧ va % 8192 + n ≤ 4096 then
      let k := va / 8192
      let x := slotAt s k
      some (setSlot k { x with request := splice (padTo 4096 x.request) (va % 8192) b } s)
    else none
  else if key = 0x12 then
    if va + n ≤ 8192 ∧ va % 8 = 0 ∧ n % 8 = 0 then
      some (s.setHost { s.host with
        doorbells := s.host.doorbells ++
          (List.range (n / 8)).map (fun i => (va / 8 + i, BitVec.ofNat 64 (rd b (8 * i) 8))) })
    else none
  else if key = 0x14 ∨ key = 0x15 then
    let p : Win := key == 0x15
    if va + n ≤ winSize s p ∧ winSize s p ≠ 0 ∧ !winAway s p va n then some (winUse p va n (winWrite p va b s)) else none
  else none

/-- An RDMA READ's bytes, or none where R436 answers a remote-access error. -/
def rdmaRead (s : State) (key : Word) (va n : Nat) : Option (List Byte) :=
  if key = 0x11 then if va + n ≤ 0x80000 then some (mailboxRead s va n) else none
  else if key = 0x12 then if va + n ≤ 8192 then some (doorbellRead s va n) else none
  else if key = 0x13 then if va + n ≤ statsSize ∧ observer s then some (statsRead s va n) else none
  else if key = 0x14 ∨ key = 0x15 then
    let p : Win := key == 0x15
    if va + n ≤ winSize s p ∧ winSize s p ≠ 0 ∧ !winAway s p va n then some (winRead s p va n) else none
  else none

/-- A read of a host-visible window draws on the shares of its memory (R40, R41). -/
def rdmaUse (key : Word) (va n : Nat) (s : State) : State :=
  if key = 0x14 then winUse false va n s else if key = 0x15 then winUse true va n s else s

/-! ### The responder -/

/-- The lowest mailbox slot in which no request executes or waits (R434). -/
def freeMailSlot (s : State) : Option Nat :=
  (List.range 64).find? (fun k => !(slotAt s k).busy && !s.host.imms.any (fun e => e.2.1 == k))

/-- Answer with a remote-access-error NAK; the queue pair enters ERROR (R436). -/
def accessError (q : Nat) (psn : BitVec 24) (s : State) : State :=
  qpError q 3 psn (bump48 19 256 1 1 (bump48 19 q 0 1 (hostSend (.accessNak q psn) s)))

/-- Packets of a request, by which the PSN advances (R431). -/
def RoceReq.packets : RoceReq → Nat
  | .write _ _ b _ => packetsOf b.length
  | .read _ _ n => packetsOf n
  | .send b => packetsOf b.length

/-- The expected PSN moves past a request, which is acknowledged (R432). -/
def acked (q : Nat) (n : Nat) (s : State) : State :=
  let x := qpAt s q
  let next := x.rqPsn + BitVec.ofNat 24 n
  bump48 19 q 0 1 (hostSend (.ack q (next - 1)) (setQp q { x with rqPsn := next, nakOut := false } s))

/-- The data of a read travel back (R431). -/
def readBack (q : Nat) (psn : BitVec 24) (b : List Byte) (s : State) : State :=
  bump48 19 q 0 (packetsOf b.length) (hostSend (.readData q psn b) s)

/-- A request at the expected PSN (R432 to R436). -/
def acceptRoce (q : Nat) (psn : BitVec 24) (f : RoceReq) (s : State) : State :=
  match f with
  | .write key va b imm =>
    match rdmaWrite key va b s with
    | none => accessError q psn s
    | some s1 =>
      let s2 := match imm with
        | some v => if v.toNat < 64 then s1.setHost { s1.host with imms := s1.host.imms ++ [(q, v.toNat, false)] } else s1
        | none => s1
      acked q f.packets s2
  | .read key va n =>
    match rdmaRead s key va n with
    | none => accessError q psn s
    | some b =>
      let x := qpAt s q
      readBack q psn b (setQp q { x with rqPsn := x.rqPsn + BitVec.ofNat 24 f.packets, nakOut := false } (rdmaUse key va n s))
  | .send b =>
    if b.length > 4096 then accessError q psn s
    else match freeMailSlot s with
      | none => bump48 19 q 0 1 (hostSend (.rnrNak q psn) s)
      | some k =>
        let s1 := setSlot k { slotAt s k with request := padTo 4096 b } s
        acked q f.packets (s1.setHost { s1.host with imms := s1.host.imms ++ [(q, k, true)] })

/-- A duplicate request: acknowledged again, a read executed again (R432). -/
def againRoce (q : Nat) (psn : BitVec 24) (f : RoceReq) (s : State) : State :=
  match f with
  | .read key va n =>
    match rdmaRead s key va n with
    | none => accessError q psn s
    | some b => readBack q psn b (rdmaUse key va n s)
  | _ => bump48 19 q 0 1 (hostSend (.ack q ((qpAt s q).rqPsn - 1)) s)

/-- Is RoCEv2 enabled on the host port of a queue pair (R426)? -/
def roceOn (s : State) (x : QueuePair) : Bool := bitOf (reg s 19 256 (6 + 8 * x.port)).toNat 1

/-- Does the host transport carry traffic (R72)? -/
def transportUp (s : State) : Bool := s.sys.mode != .reset && inService s 19 0

/-- ROCE_REQUEST_RX: a request is received on a queue pair; `icrc` says that its ICRC holds (R426, R431, R432, R439). -/
def roceRequest (q : Nat) (psn : BitVec 24) (icrc : Bool) (f : RoceReq) (s : State) : State :=
  let x := qpAt s q
  if !transportUp s then s
  else if !icrc then bump48 19 256 0 1 s
  else if x.st = 2 then bump48 19 q 3 1 s
  else if x.st ≠ 1 ∨ !tickGe s.tick.count x.start ∨ !roceOn s x then s
  else
    let s1 := bump48 19 q 1 f.packets s
    let d := (psn - x.rqPsn).toNat
    if d = 0 then acceptRoce q psn f s1
    else if d ≥ 2 ^ 23 then againRoce q psn f s1
    else if x.nakOut then bump48 19 q 3 1 s1
    else
      bump48 19 q 3 1 (bump48 19 256 2 1 (bump48 19 q 0 1
        (hostSend (.seqNak q x.rqPsn) (setQp q { x with nakOut := true } s1))))

/-! ### The requester -/

/-- The requests that an acknowledgement of a PSN ends, and those that stay: a read ends only with its own response
(R432). -/
def popAcks (psn : BitVec 24) : List OutReq → List OutReq × List OutReq
  | [] => ([], [])
  | r :: rs =>
    let last := r.psn + BitVec.ofNat 24 (r.packets - 1)
    if (psn - last).toNat < 2 ^ 23 ∧ (r.kind = 2 → psn = last) then
      let (a, b) := popAcks psn rs
      (r :: a, b)
    else ([], r :: rs)

/-- A fetch has brought its entries (R449). -/
def arrived (data : List Byte) (r : OutReq) (s : State) : State :=
  match r.purpose with
  | .fetch q => if (hqAt s q).fetching = 0 then s else modHq q (fun x => { x with arrived := some (padTo r.length data) }) s
  | _ => s

/-- ROCE_ACK_RX: an acknowledgement of a PSN, or the response to a read, with its data (R432). -/
def roceAck (q : Nat) (psn : BitVec 24) (data : List Byte) (s : State) : State :=
  let x := qpAt s q
  if !transportUp s ∨ x.st ≠ 1 ∨ (x.sqPsn - 1 - psn).toNat ≥ 2 ^ 23 then s
  else
    let (gone, rest) := popAcks psn x.out
    let s1 := bump48 19 q 1 1 s
    if gone = [] then s1
    else
      let s2 := setQp q { x with out := rest, since := s.tick.count, resends := 0 } s1
      gone.foldl (fun s r => arrived data r s) s2

/-- Resend every outstanding request (R432). -/
def resendAll (q : Nat) (s : State) : State :=
  let x := qpAt s q
  let n := (x.out.map (·.packets)).sum
  let s1 := setQp q { x with since := s.tick.count, resends := x.resends + 1 } s
  let s2 := bump48 19 256 3 n (bump48 19 q 2 n (bump48 19 q 0 n s1))
  x.out.foldl (fun s r => hostSend (.request q r) s) s2

/-- Resend, or enter ERROR after retry_count resends without progress (R432, R439). -/
def retry (q : Nat) (s : State) : State :=
  let x := qpAt s q
  match x.out with
  | [] => s
  | r :: _ => if x.resends ≥ qpRetry s x then qpError q 1 r.psn s else resendAll q s

/-- ROCE_NAK_RX: a sequence-error NAK (0) that names a PSN, a remote-access-error NAK (1) or an invalid-request NAK (2)
(R432, R439). -/
def roceNak (q : Nat) (psn : BitVec 24) (kind : Nat) (s : State) : State :=
  let x := qpAt s q
  if !transportUp s ∨ x.st ≠ 1 then s
  else if kind = 0 then
    let (gone, rest) := popAcks (psn - 1) x.out
    let s1 := bump48 19 q 1 1 s
    retry q (if gone = [] then s1 else setQp q { x with out := rest, since := s.tick.count, resends := 0 } s1)
  else qpError q 2 psn (bump48 19 q 1 1 s)

/-- Ticks of a timeout of 4.096 µs × 2^t (R432). -/
def timeoutTicks (t : Nat) : Nat := 4096 * 2 ^ t / 1000

/-- ROCE_RETRY_TIMEOUT: no acknowledgement of the oldest request has come in time (R432). -/
def roceTimeout (q : Nat) (s : State) : State :=
  let x := qpAt s q
  if !transportUp s ∨ x.st ≠ 1 ∨ ticksSince s.tick.count x.since < timeoutTicks (qpTimeout s x) then s else retry q s

/-- The boundary from which a queue pair sends: what it issued before leaves now (R439). -/
def qpStart (q : Nat) (s : State) : State :=
  let x := qpAt s q
  if x.st = 1 then
    bump48 19 q 0 (x.out.map (·.packets)).sum (x.out.foldl (fun s r => hostSend (.request q r) s) s)
  else s

/-! ### Commands -/

/-- Is the argument of QP_CREATE and QP_RESTART in order (R438)? -/
def qpArgOk (s : State) (p : List Byte) : Bool :=
  let reg' := rd p 0x2E 2
  let regOk := reg' == 0xFFFF || (match regionAt s reg' with
    | some b => regionWrite b && decide (262144 ≤ regionLen b)
    | none => false)
  p.length == 64 && decide (rd p 0 2 < 256) && decide (rd p 2 1 < 2) && decide (rd p 3 1 < 4) &&
  !bitOf (rd p 0xA 2) 12 && (bitOf (rd p 3 1) 0 || zeros p 0x10 12) &&
  zeros p 0x1F 1 && zeros p 0x23 1 && zeros p 0x27 1 && decide (rd p 0x28 1 < 64) && decide (rd p 0x29 1 < 8) &&
  decide (rd p 0x2A 1 < 32) && bitsOf (rd p 0x2B 1) 6 3 == 0 &&
  decide (1 ≤ rd p 0x2C 1 ∧ rd p 0x2C 1 ≤ 16) && decide (1 ≤ rd p 0x2D 1 ∧ rd p 0x2D 1 ≤ 16) &&
  zeros p 0x30 16 && regOk && bitOf (reg s 19 256 (6 + 8 * (rd p 2 1 % 2))).toNat 1

/-- A queue pair in RTS with the PSNs of its argument, accepting and sending from the boundary of a change accepted in core cycle
`c` (R35, R439). -/
def startQp (c : Nat) (p : List Byte) (s : State) : State :=
  let q := rd p 0 2
  let x : QueuePair := { st := 1, arg := p, sqPsn := BitVec.ofNat 24 (rd p 0x20 3), rqPsn := BitVec.ofNat 24 (rd p 0x24 3)
                         start := dueTick s c }
  defer { due := dueTick s c, change := .qpStart q } (setQp q x s)

/-- QP_CREATE (R438). -/
def bodyQpCreate (r : Req) (s : State) : State × Reply :=
  let p := r.payload
  if !qpArgOk s p then (s, .no St.eArg)
  else if (qpAt s (rd p 0 2)).st ≠ 0 then (s, .no St.eBusy)
  else (startQp r.cycle p s, .yes (le 4 (256 + rd p 0 2)))

/-- QP_RESTART (R438, R439). -/
def bodyQpRestart (r : Req) (s : State) : State × Reply :=
  let p := r.payload
  if !qpArgOk s p then (s, .no St.eArg)
  else if (qpAt s (rd p 0 2)).st ≠ 2 then (s, .no St.eBusy)
  else (startQp r.cycle p s, .yes (le 4 (256 + rd p 0 2)))

/-- QP_DESTROY (R438, R439). -/
def bodyQpDestroy (r : Req) (s : State) : State × Reply :=
  let q := rd r.payload 0 2
  if r.payload.length ≠ 2 ∨ q ≥ 256 then (s, .no St.eArg)
  else
    let x := qpAt s q
    if x.st = 0 then (s, .no St.eArg)
    else
      let s1 := if x.st = 1 then qpError q 4 x.sqPsn s else s
      (setQp q {} s1, .yes [])

/-- QP_QUERY (R438): the argument in force (64), the state (1), the cause of the last error (1), 2 reserved bytes, the next
PSN to send (4) and the PSN expected (4). -/
def bodyQpQuery (r : Req) (s : State) : State × Reply :=
  let q := rd r.payload 0 2
  if r.payload.length ≠ 2 ∨ q ≥ 256 then (s, .no St.eArg)
  else
    let x := qpAt s q
    (s, .yes (padTo 64 x.arg ++ le 1 x.st ++ le 1 x.cause ++ le 2 0 ++ le 4 x.sqPsn.toNat ++ le 4 x.rqPsn.toNat))

/-- HREGION_ADD (R437). -/
def bodyHregionAdd (r : Req) (s : State) : State × Reply :=
  let p := r.payload
  if p.length ≠ 32 ∨ rd p 0 2 ≥ 4096 ∨ rd p 2 2 ≥ 256 ∨ rd p 0x10 8 = 0 ∨ rd p 0x10 8 > 2 ^ 40 ∨ rd p 0x18 1 ≥ 4 ∨
      !zeros p 0x19 7 then (s, .no St.eArg)
  else (s.setHost { s.host with region := tput s.host.region (rd p 0 2) p }, .yes [])

/-- HREGION_REMOVE (R437): at acceptance; queues whose ring lies in the region are disabled. -/
def bodyHregionRemove (r : Req) (s : State) : State × Reply :=
  let n := rd r.payload 0 2
  if r.payload.length ≠ 2 ∨ n ≥ 4096 ∨ (regionAt s n).isNone then (s, .no St.eArg)
  else
    let s1 := s.setHost { s.host with region := terase s.host.region n }
    ((s.host.queue.filter (fun e => e.2.st == 1 && e.2.ring_ == n)).foldl (fun s e =>
      disableQueue e.1 (if e.2.submits then 2 else 4) s) s1, .yes [])

/-- HREGION_READ (R438): first region (2) and count (2); the entries of 32 bytes, zero where there is no region. -/
def bodyHregionRead (r : Req) (s : State) : State × Reply :=
  let a := rd r.payload 0 2
  let n := rd r.payload 2 2
  if r.payload.length ≠ 4 ∨ n = 0 ∨ n > 127 ∨ a + n > 4096 then (s, .no St.eArg)
  else (s, .yes ((List.range n).flatMap (fun i => padTo 32 ((regionAt s (a + i)).getD []))))

/-! ### What the engine answers by itself -/

/-- The offset behind the EtherType of a frame, and its EtherType, an 802.1Q tag skipped. -/
def afterTag (f : List Byte) : Nat × Nat := if rdBe f 12 2 = 0x8100 then (18, rdBe f 16 2) else (14, rdBe f 12 2)

/-- The ones-complement sum of 16-bit words (RFC 1071). -/
def sum16 : List Byte → Nat
  | a :: b :: rest => a.toNat * 256 + b.toNat + sum16 rest
  | [a] => a.toNat * 256
  | [] => 0

/-- Fold a sum to 16 bits and complement it. -/
def checksum16 (n : Nat) : Nat :=
  let a := n % 65536 + n / 65536
  let b := a % 65536 + a / 65536
  65535 - b % 65536

/-- The answer to an ARP request (R426). -/
def arpReply (s : State) (h : Nat) (f : List Byte) (o : Nat) : List Byte :=
  engineFrame s h (rdBe f (o + 8) 6) 0x0806
    (be 2 1 ++ be 2 0x0800 ++ be 1 6 ++ be 1 4 ++ be 2 2 ++ be 6 (hostMac s h) ++ be 4 (reg s 19 256 (8 * h)).toNat ++
     (f.drop (o + 8)).take 10)

/-- The answer to an IPv6 neighbour solicitation (R426): an advertisement with the target's link-layer address. -/
def neighbourReply (s : State) (h : Nat) (f : List Byte) (o : Nat) : List Byte :=
  let own := (f.drop (o + 48)).take 16
  let src := (f.drop (o + 8)).take 16
  let solicited := beNat src != 0
  let dst := if solicited then src else be 16 (0xff02 * 2 ^ 112 + 1)
  let dscp := regField s 19 256 (6 + 8 * h) 7 2
  let icmp := fun (c : Nat) => be 1 136 ++ be 1 0 ++ be 2 c ++ be 4 (if solicited then 0x60000000 else 0x20000000) ++ own ++
    be 1 2 ++ be 1 1 ++ be 6 (hostMac s h)
  let sum := sum16 (own ++ dst ++ be 4 32 ++ be 4 58 ++ icmp 0)
  engineFrame s h (if solicited then rdBe f 6 6 else 0x333300000001) 0x86DD
    (be 4 (6 * 2 ^ 28 + dscp * 2 ^ 22) ++ be 2 32 ++ be 1 58 ++ be 1 255 ++ own ++ dst ++ icmp (checksum16 sum))

/-- ARP_REQUEST_RX: an ARP request or a neighbour solicitation for a host port's address is answered (R426, R427). -/
def arpRequest (h : Nat) (f : List Byte) (s : State) : State :=
  let (o, t) := afterTag f
  if !transportUp s ∨ !terminated s (128 + h) f then s
  else if t = 0x0806 then hostSend (.raw (128 + h) (arpReply s h f o)) s
  else if t = 0x86DD ∧ rd f (o + 6) 1 = 58 then hostSend (.raw (128 + h) (neighbourReply s h f o)) s
  else s

/-- BOOT_DISCOVER: a DISCOVER frame is answered by an ANNOUNCE from each host port whose boot_enable is set (R428). -/
def bootDiscover (h : Nat) (f : List Byte) (s : State) : State :=
  let (o, t) := afterTag f
  if !transportUp s ∨ !terminated s (128 + h) f ∨ t ≠ 0x88B5 ∨ rdBe f 0 6 ≠ 0xFFFFFFFFFFFF ∨ rd f o 1 ≠ 1 ∨
      rd f (o + 1) 1 ≠ 4 then s
  else
    [0, 1].foldl (fun s k =>
      if bitOf (reg s 19 256 (6 + 8 * k)).toNat 0 then sendBoot (128 + k) ((f.drop 6).take 6) 5 [] s else s)
      (bump48 19 256 5 1 s)

/-! ### The meanings -/

/-- ROCE_REQUEST_RX. -/
def execRoceRequestRx (q : Fin 256) (psn : BitVec 24) (icrc : Bool) (f : RoceReq) (s : State) :
    Host.Outcome State Fault Refusal := .next (roceRequest q psn icrc f s)
/-- ROCE_ACK_RX. -/
def execRoceAckRx (q : Fin 256) (psn : BitVec 24) (data : List Byte) (s : State) : Host.Outcome State Fault Refusal :=
  .next (roceAck q psn data s)
/-- ROCE_NAK_RX. -/
def execRoceNakRx (q : Fin 256) (psn : BitVec 24) (kind : Fin 3) (s : State) : Host.Outcome State Fault Refusal :=
  .next (roceNak q psn kind s)
/-- ROCE_RETRY_TIMEOUT. -/
def execRoceRetryTimeout (q : Fin 256) (s : State) : Host.Outcome State Fault Refusal := .next (roceTimeout q s)
/-- ARP_REQUEST_RX. -/
def execArpRequestRx (h : Fin 2) (f : List Byte) (s : State) : Host.Outcome State Fault Refusal := .next (arpRequest h f s)
/-- BOOT_DISCOVER. -/
def execBootDiscover (h : Fin 2) (f : List Byte) (s : State) : Host.Outcome State Fault Refusal := .next (bootDiscover h f s)
/-- QP_CREATE. -/
def execQpCreate (r : Req) (s : State) : Host.Outcome State Fault Refusal := .next (runToune Op.qpCreate bodyQpCreate r s)
/-- QP_RESTART. -/
def execQpRestart (r : Req) (s : State) : Host.Outcome State Fault Refusal := .next (runToune Op.qpRestart bodyQpRestart r s)
/-- QP_DESTROY. -/
def execQpDestroy (r : Req) (s : State) : Host.Outcome State Fault Refusal := .next (runToune Op.qpDestroy bodyQpDestroy r s)
/-- QP_QUERY. -/
def execQpQuery (r : Req) (s : State) : Host.Outcome State Fault Refusal := .next (runToune Op.qpQuery bodyQpQuery r s)
/-- HREGION_ADD. -/
def execHregionAdd (r : Req) (s : State) : Host.Outcome State Fault Refusal := .next (runToune Op.hregionAdd bodyHregionAdd r s)
/-- HREGION_REMOVE. -/
def execHregionRemove (r : Req) (s : State) : Host.Outcome State Fault Refusal :=
  .next (runToune Op.hregionRemove bodyHregionRemove r s)
/-- HREGION_READ. -/
def execHregionRead (r : Req) (s : State) : Host.Outcome State Fault Refusal :=
  .next (runToune Op.hregionRead bodyHregionRead r s)

end Sys2Proof.Machine
end

