-- ==== Sys2Proof/Machine/Queues.lean ====
section
/-! DEFINITION. Queues: their commands, doorbells, fetched entries, receive and export buffers, and the delivery of events
(R443 to R461, R490 to R494). -/

namespace Sys2Proof.Machine

/-! ### Commands -/

/-- Is a region present, allowing the access, and long enough for `n` bytes from an offset (R446)? -/
def regionHolds (s : State) (reg off n : Nat) (wr : Bool) : Bool :=
  match regionAt s reg with
  | some b => (if wr then regionWrite b else regionRead b) && decide (off + n ≤ regionLen b)
  | none => false

/-- Is the argument of QUEUE_CREATE in order (R446)? -/
def queueArgOk (s : State) (p : List Byte) : Bool :=
  let x : Queue := { arg := p }
  let k := x.kind
  let bindOk := match k with
    | 7 => decide (x.bound < 32)
    | 6 => decide (x.bound < 8)
    | 9 => true
    | _ => x.bound == 0
  p.length == 64 && decide (rd p 0 2 < 1024) && decide (k < 10) && (decide (k = 0) == decide (rd p 0 2 = 0)) &&
  decide (4 ≤ rd p 3 1 ∧ rd p 3 1 ≤ 16) && x.ringOffset % x.entrySize == 0 && x.headOffset % 8 == 0 &&
  regionHolds s x.ring_ x.ringOffset (x.entrySize * x.size) (!x.submits) &&
  (if x.headRegion = 0xFFFF then !x.submits else regionHolds s x.headRegion x.headOffset 8 true) &&
  (if x.submits then decide (x.cq < 1024) else x.cq == 0xFFFF) && bindOk && decide (rd p 0x1C 1 < 2) && zeros p 0x1D 35

/-- Is what a queue would be bound to bound already (R343, R444)? -/
def boundAlready (s : State) (x : Queue) : Bool :=
  if x.kind = 7 then s.host.queue.any (fun e => e.2.st != 0 && e.2.kind == 7 && e.2.bound == x.bound)
  else match x.exports with
    | some i => (ringAt s i).queue.isSome
    | none => false

/-- An export queue takes its ring (R343). -/
def bindRing (q : Nat) (x : Queue) (s : State) : State :=
  match x.exports with
  | some i => setRing i { ringAt s i with queue := some q } s
  | none => s

/-- QUEUE_CREATE (R446, R460). -/
def bodyQueueCreate (r : Req) (s : State) : State × Reply :=
  let p := r.payload
  let q := rd p 0 2
  let x : Queue := { arg := p, st := if rd p 0x1C 1 = 1 then 1 else 3 }
  if !queueArgOk s p then (s, .no St.eArg)
  else if (hqAt s q).st ≠ 0 ∨ boundAlready s x ∨
      (x.submits ∧ ((hqAt s x.cq).st = 0 ∨ (hqAt s x.cq).kind ≠ 8)) then (s, .no St.eBusy)
  else (bindRing q x (setHq q x s), .yes [])

/-- The queue that an argument of 2 bytes names. -/
def argQueue (p : List Byte) : Option Nat := if p.length = 2 ∧ rd p 0 2 < 1024 then some (rd p 0 2) else none

/-- QUEUE_DESTROY (R446, R460). -/
def bodyQueueDestroy (r : Req) (s : State) : State × Reply :=
  match argQueue r.payload with
  | none => (s, .no St.eArg)
  | some q =>
    let x := hqAt s q
    if x.st ≠ 3 ∨ (x.kind = 8 ∧ s.host.queue.any (fun e => e.2.st != 0 && e.2.submits && e.2.cq == q)) then
      (s, .no St.eBusy)
    else (unbindRing q x (setHq q {} s), .yes [])

/-- QUEUE_DISABLE (R445, R460): a long operation. -/
def bodyQueueDisable (r : Req) (s : State) : State × Reply :=
  match argQueue r.payload with
  | none => (s, .no St.eArg)
  | some q =>
    if (hqAt s q).st ≠ 1 then (s, .no St.eBusy)
    else accepted Op.queueDisable r true (fun h s => disableQueue q 1 (modHq q (fun x => { x with handle := some h }) s)) s

/-- QUEUE_ENABLE (R461): fetching goes on from the head. -/
def bodyQueueEnable (r : Req) (s : State) : State × Reply :=
  match argQueue r.payload with
  | none => (s, .no St.eArg)
  | some q =>
    let x := hqAt s q
    let taken : Bool := match x.exports with
      | some i => (match (ringAt s i).queue with | some k => k != q | none => false)
      | none => false
    if x.st ≠ 3 ∨ taken then (s, .no St.eBusy)
    else
      let y := { x with st := 1, cause := 0, fetched := if x.submits then x.head else x.fetched }
      (pumpFetch (bindRing q y (setHq q y s)), .yes [])

/-- QUEUE_QUERY (R445): the argument in force (64), the state (1), the cause (1), 2 reserved bytes, and the doorbell, the
fetched count, the head and the host's consumer count (4 each). -/
def bodyQueueQuery (r : Req) (s : State) : State × Reply :=
  match argQueue r.payload with
  | none => (s, .no St.eArg)
  | some q =>
    let x := hqAt s q
    (s, .yes (padTo 64 x.arg ++ le 1 x.st ++ le 1 x.cause ++ le 2 0 ++ le 4 x.doorbell.toNat ++ le 4 x.fetched.toNat ++
      le 4 x.head.toNat ++ le 4 (if x.submits then 0 else x.doorbell.toNat)))

/-! ### Doorbells and fetched entries -/

/-- Is a doorbell value valid (R448)? -/
def doorbellOk (x : Queue) (v : Dword) : Bool :=
  let c : Word := BitVec.ofNat 32 v.toNat
  decide (v.toNat < 2 ^ 32) && decide (0 ≤ (c - x.doorbell).toInt) &&
  (if x.submits then decide ((c - x.head).toNat ≤ x.size) else decide (0 ≤ (x.head - c).toInt))

/-- A doorbell write (R448): an invalid one is ignored, counted and reported. -/
def doorbell (q : Nat) (v : Dword) (s : State) : State :=
  let x := hqAt s q
  if x.st = 0 then s
  else if !doorbellOk x v then
    raiseLimited Ev.dbInvalid q (fun n => le 2 q ++ le 4 n) (bump32 18 q 7 1 s)
  else
    let s1 := setHq q { x with doorbell := BitVec.ofNat 32 v.toNat } s
    pumpFetch (if x.kind = 8 then releaseHeld q (x.held.length + 1) s1 else s1)

/-- DOORBELL_WRITE: the oldest doorbell unit that has arrived in the doorbell page is acted on (R435, R448). -/
def doorbellWrite (s : State) : State :=
  match s.host.doorbells with
  | [] => s
  | (q, v) :: rest => if !inService s 18 0 then s else doorbell q v (s.setHost { s.host with doorbells := rest })

/-- The entries that a read of `n` entries brought, with their positions. -/
def splitEntries (pos : Word) (n : Nat) (b : List Byte) : List (Word × List Byte) :=
  (List.range n).map (fun i => (pos + BitVec.ofNat 32 i, (b.drop (64 * i)).take 64))

/-- QUEUE_FETCH_DONE: the entries that a queue's read brought are taken in (R449). -/
def queueFetchDone (q : Nat) (s : State) : State :=
  let x := hqAt s q
  match x.arrived with
  | none => s
  | some b =>
    if !inService s 18 0 then s
    else
      pumpFetch (setHq q { x with
        entries := x.entries ++ splitEntries x.fetched x.fetching b, fetched := x.fetched + BitVec.ofNat 32 x.fetching
        fetching := 0, arrived := none } s)

/-! ### Receive buffers -/

/-- The job of a queue that fills a posted buffer. -/
def postedJob (x : Queue) : Option Job := x.jobs.find? (fun j => !j.done)

/-- The detail of a RECEIVE completion (R457). -/
def rxDetail (k : Packet) (bytes : Nat) (fin bad : Bool) (len : Nat) : List Byte :=
  le 2 bytes ++ le 1 (b2n fin + 2 * b2n bad) ++ le 1 k.port ++ le 2 len ++ le 1 k.cls ++ le 1 0 ++ le 8 k.stamp.toNat

/-- RX_BUFFER_WRITE: the next buffer of a RECEIVE queue takes the next bytes of the oldest to_host copy that waits for it
(R456, R457). -/
def rxBufferWrite (q : Nat) (s : State) : State :=
  let x := hqAt s q
  match tgetD (fun _ => []) s.buf.hostq q, postedJob x with
  | k :: rest, some j =>
    if !receives s q ∨ !inService s 18 0 ∨ cqLoad s x.cq ≥ 64 then s
    else match storedAt s k, pktAt s k with
      | some y, some p =>
        let e := j.entries.headD []
        let chunk := (y.bytes.drop x.rxOff).take (rd e 0xC 4)
        let fin := x.rxOff + chunk.length == y.bytes.length
        let (s1, ok) := hostWrite (rd e 8 2) (rd e 0x10 8) chunk none (.data q j.pos) s
        if !ok then modJob q j.pos (fun j => { j with begun := true, done := true, status := St.eFault }) s1
        else
          let s2 := modJob q j.pos (fun j => { j with
            begun := true, done := true, detail := rxDetail p chunk.length fin y.bad y.bytes.length }) s1
          let s3 := modHq q (fun x => { x with rxOff := if fin then 0 else x.rxOff + chunk.length }) s2
          if fin then
            let s4 := s3.setBuf { s3.buf with
              hostq := if rest = [] then terase s3.buf.hostq q else tput s3.buf.hostq q rest }
            dropCopy k (.host q) (firstCopy k (128 + hqDie s q) p y s.tick.startFrc false s4)
          else s3
      | _, _ => s.setBuf { s.buf with hostq := if rest = [] then terase s.buf.hostq q else tput s.buf.hostq q rest }
  | _, _ => s

/-! ### Export buffers -/

/-- The position from which an export goes on: behind what its buffers hold. -/
def exportPos (s : State) (x : Queue) (i : Nat) : Dword :=
  match (x.jobs.filter (fun j => j.items != 0)).getLast? with
  | some j => j.next
  | none => (ringAt s i).read

/-- A gap that an export delivers in place of items (R330, R343). -/
def exportGap (s : State) (n : Nat) : List Byte := jentry s Ev.jnlGap 0 0 3 s.tick.startFrc 0 0 n

/-- The run of lost journal items from position `p` on that stand in one unwritten block: the position behind them, and their number
(R330). -/
def gapRun (p : Dword) : List (Dword × Nat × List Byte) → Dword × Nat
  | [] => (p, 0)
  | (q, n, b) :: rest =>
    if b = [] ∧ q.toNat / 2 = p.toNat / 2 then
      let r := gapRun p rest
      (if r.2 = 0 then q + BitVec.ofNat 64 n else r.1, r.2 + 1)
    else (p, 0)

/-- The next item of an export: its bytes, its position and the position behind it; one gap entry stands for the items of an unwritten
block, and for items overwritten, and tells how many are lost (R330, R339, R343, R416). -/
def exportItem (s : State) (x : Queue) (i : Nat) (ue : Bool) : Option (List Byte × Dword × Dword) :=
  let y := ringAt s i
  let p := exportPos s x i
  let behind := decide (0 < (y.read - p).toInt)
  if behind ∧ i = 0 then some (exportGap s (y.gone.filter (fun g => decide (0 ≤ (g - p).toInt))).length, p, y.read)
  else
    let p := if behind then y.read else p
    match y.items.find? (fun e => e.1 == p) with
    | none => none
    | some (_, n, b) =>
      let next := p + BitVec.ofNat 64 n
      let run := gapRun p (y.items.dropWhile (fun e => e.1 != p))
      if b = [] ∧ i = 0 then some (exportGap s run.2, p, run.1)
      else if b = [] ∨ ue then some (exportGap s 1, p, next)
      else some (if behind then splice b 0x1D (le 1 (rd b 0x1D 1 ||| 64)) else b, p, next)

/-- A buffer of an export queue completes (R456, R457). -/
def exportDone (q : Nat) (j : Job) (s : State) : State :=
  modJob q j.pos (fun j => { j with done := true, detail := le 4 j.items ++ le 4 j.fill ++ le 8 j.first.toNat }) s

/-- Have the channels of the blocks between two positions of a ring room in their export shares (R41)? -/
def exportRoom (s : State) (i : Nat) (a b : Dword) : Bool :=
  ((blocksBetween i a b).take s.jnl.channels.length).all (fun p => match blockChan s i p with
    | some c => expRoom s c || !inService s 15 c
    | none => true)

/-- EXPORT_FILL: the next item of the bound ring is placed in the queue's buffer, or, where it does not fit, the buffer
completes; `ue` says that the read of the item fails.  The reads draw on the export shares of the item's channels (R41, R343, R416,
R456). -/
def exportFill (q : Nat) (ue : Bool) (s : State) : State :=
  let x := hqAt s q
  match x.exports, postedJob x with
  | some i, some j =>
    if x.st ≠ 1 ∧ !(x.st = 2 ∧ j.begun) ∨ !inService s 18 0 ∨ !inService s 24 0 ∨ (!j.begun ∧ cqLoad s x.cq ≥ 64) then s
    else match exportItem s x i ue with
      | none => s
      | some (b, p, next) =>
        let e := j.entries.headD []
        if !exportRoom s i p next then s
        else if j.fill + b.length > rd e 0xC 4 ∧ j.begun then exportDone q j s
        else
          let (s1, ok) := hostWrite (rd e 8 2) (rd e 0x10 8 + j.fill) b none (.data q j.pos) s
          if !ok then modJob q j.pos (fun j => { j with begun := true, done := true, status := St.eFault }) s1
          else
            let lost := ue && (ringAt s i).items.any (fun e => e.1 == p && e.2.2 != [])
            modJob q j.pos (fun j => { j with
              begun := true, items := j.items + 1, fill := j.fill + b.length
              first := if j.items = 0 then p else j.first, next := next
              since := if j.items = 0 then s.tick.count else j.since })
              (chargeBlocks useExp i p next (setRing i { ringAt s1 i with
                gone := (ringAt s1 i).gone.filter (fun g => decide (0 ≤ (g - next).toInt)) }
                (if lost then bump32 24 i 0x10 1 s1 else s1)))
  | _, _ => s

/-- EXPORT_LINGER_EXPIRY: the ring is empty and the buffer's first item has waited EXPORT_LINGER ticks (R456). -/
def exportLinger (q : Nat) (s : State) : State :=
  let x := hqAt s q
  match x.exports, postedJob x with
  | some i, some j =>
    if j.items = 0 ∨ !inService s 18 0 ∨ exportPos s x i ≠ (ringAt s i).write ∨
        ticksSince s.tick.count j.since < regField s 18 0 0x200 15 0 then s
    else exportDone q j s
  | _, _ => s

/-! ### Events -/

/-- Does the session at an index receive an event (R484, R490, R493)? -/
def admits (s : State) (i : Nat) (e : Event) : Bool :=
  let x := sessionAt s i
  let own := e.completion && sessionId s i == e.session
  if x.version.toNat < 2 then own && x.boot
  else own || bitOf x.subscribe.toNat (e.code / 0x1000)

/-- The sink of a session: a version 1 session opened by bootstrap has the bootstrap sink (R483, R484). -/
def sinkOf (x : Session) : Nat := if x.version.toNat < 2 then (if x.boot then 0xFFFE else 0xFFFF) else x.sink

/-- The sessions that receive an event through a sink. -/
def receivers (s : State) (e : Event) : List Nat :=
  (openSessions s).filter (fun i => admits s i e && sinkOf (sessionAt s i) != 0xFFFF)

/-- One more event has been sent to a session. -/
def countSent (i : Nat) (s : State) : State :=
  setSession i { sessionAt s i with evCount := (sessionAt s i).evCount + 1 } s

/-- An event as a bootstrap EVENT frame (R430, R493). -/
def eventFrame (e : Event) (i : Nat) (s : State) : State :=
  let x := sessionAt s i
  let m := message x.version.toNat (4 + 8 * b2n e.completion) e.code 0 (sessionId s i) x.evCount e.handle e.status
    (e.detail.take 376)
  sendBoot x.hp (be 6 x.mac.toNat) 3 m (countSent i s)

/-- The entries of an event behind their positions (R459). -/
def eventEntries (e : Event) (lost : Bool) : List (List Byte) :=
  let d := e.detail.take 376
  let n := 1 + (d.length - 16 + 23) / 24
  (le 2 e.code ++ le 1 n ++ le 1 (b2n lost) ++ le 8 e.frc.toNat ++ padTo 16 d) ::
  (List.range (n - 1)).map (fun i => le 2 e.code ++ le 1 (i + 1) ++ le 1 2 ++ padTo 24 (d.drop (16 + 24 * i)))

/-- An event is written whole into an event queue, or lost to it (R459, R494). -/
def eventToQueue (e : Event) (q : Nat) (s : State) : State :=
  let x := hqAt s q
  let es := eventEntries e x.lostOwed
  if x.st ≠ 1 ∨ x.kind ≠ 9 then s
  else if (x.head - x.doorbell).toNat + es.length > x.size then
    bump32 18 q 6 1 (setHq q { x with lost := true, lostOwed := true } s)
  else
    let (s1, ok) := es.foldl (fun (a : State × Bool) t => if a.2 then ringWrite q t (.event q) a.1 else a)
      (setHq q { x with lostOwed := false } s, true)
    if ok then s1 else disableQueue q 4 s1

/-- EVENT_DELIVER: the oldest event goes once to each sink whose sessions admit it; an event queue also filters by its own
mask, but for a completion of a session of its own (R459, R490, R493, R494). -/
def eventDeliver (s : State) : State :=
  match s.toune.events with
  | [] => s
  | e :: rest =>
    if !inService s 26 0 then s
    else
      let s0 := s.setToune { s.toune with events := rest }
      let rs := receivers s0 e
      let boots := rs.filter (fun i => sinkOf (sessionAt s0 i) == 0xFFFE)
      let byQueue := rs.filter (fun i => sinkOf (sessionAt s0 i) != 0xFFFE)
      let queues := ((byQueue.map (fun i => sinkOf (sessionAt s0 i))).eraseDups).filter (fun q =>
        bitOf (hqAt s0 q).bound (e.code / 0x1000) ||
        (e.completion && byQueue.any (fun i => sinkOf (sessionAt s0 i) == q && sessionId s0 i == e.session)))
      let s1 := boots.foldl (fun s i => eventFrame e i s) s0
      let sent := byQueue.filter (fun i => queues.contains (sinkOf (sessionAt s0 i)))
      let s2 := sent.foldl (fun s i => countSent i s) s1
      let s3 := queues.foldl (fun s q => eventToQueue e q s) s2
      s3.setToune { s3.toune with
        delivered := s3.toune.delivered ++ (boots ++ sent).map (fun i => (sessionId s0 i, sinkOf (sessionAt s0 i), e)) }

/-! ### The meanings -/

/-- QUEUE_CREATE. -/
def execQueueCreate (r : Req) (s : State) : Host.Outcome State Fault Refusal :=
  .next (runToune Op.queueCreate bodyQueueCreate r s)
/-- QUEUE_DESTROY. -/
def execQueueDestroy (r : Req) (s : State) : Host.Outcome State Fault Refusal :=
  .next (runToune Op.queueDestroy bodyQueueDestroy r s)
/-- QUEUE_DISABLE. -/
def execQueueDisable (r : Req) (s : State) : Host.Outcome State Fault Refusal :=
  .next (runToune Op.queueDisable bodyQueueDisable r s)
/-- QUEUE_ENABLE. -/
def execQueueEnable (r : Req) (s : State) : Host.Outcome State Fault Refusal :=
  .next (runToune Op.queueEnable bodyQueueEnable r s)
/-- QUEUE_QUERY. -/
def execQueueQuery (r : Req) (s : State) : Host.Outcome State Fault Refusal :=
  .next (runToune Op.queueQuery bodyQueueQuery r s)
/-- DOORBELL_WRITE. -/
def execDoorbellWrite (s : State) : Host.Outcome State Fault Refusal := .next (doorbellWrite s)
/-- QUEUE_FETCH_DONE. -/
def execQueueFetchDone (q : Fin 1024) (s : State) : Host.Outcome State Fault Refusal := .next (queueFetchDone q s)
/-- JOB_COMPLETE. -/
def execJobComplete (q : Fin 1024) (s : State) : Host.Outcome State Fault Refusal := .next (jobComplete q s)
/-- COMPLETION_ACK. -/
def execCompletionAck (q : Fin 1024) (s : State) : Host.Outcome State Fault Refusal := .next (completionAck q s)
/-- RX_BUFFER_WRITE. -/
def execRxBufferWrite (q : Fin 1024) (s : State) : Host.Outcome State Fault Refusal := .next (rxBufferWrite q s)
/-- EXPORT_FILL. -/
def execExportFill (q : Fin 1024) (ue : Bool) (s : State) : Host.Outcome State Fault Refusal := .next (exportFill q ue s)
/-- EXPORT_LINGER_EXPIRY. -/
def execExportLingerExpiry (q : Fin 1024) (s : State) : Host.Outcome State Fault Refusal := .next (exportLinger q s)
/-- EVENT_DELIVER. -/
def execEventDeliver (s : State) : Host.Outcome State Fault Refusal := .next (eventDeliver s)

end Sys2Proof.Machine
end

