-- ==== Sys2Proof/Machine/Dma.lean ====
section
/-! DEFINITION. The DMA engine DX: descriptors, their transfers and their ends (R462 to R472). -/

namespace Sys2Proof.Machine

/-! ### Swaps -/

/-- The unit and the group of a swap mode, in bytes (R464). -/
def swapShape : Nat → Nat × Nat
  | 1 => (1, 2) | 2 => (1, 4) | 3 => (1, 8) | 4 => (2, 4) | 5 => (2, 8) | _ => (1, 1)

/-- Cut bytes into pieces of `n`. -/
def pieces (n : Nat) (b : List Byte) : List (List Byte) :=
  (List.range ((b.length + n - 1) / max 1 n)).map (fun i => (b.drop (n * i)).take n)

/-- Bytes with the units of each group in reverse order (R464). -/
def swapBytes (mode : Nat) (b : List Byte) : List Byte :=
  let (u, g) := swapShape mode
  if g = 1 then b else (pieces g b).flatMap (fun p => ((pieces u p).reverse).flatten)

/-! ### Descriptors -/

/-- The queue bound to a channel (R444). -/
def dxQueue (s : State) (c : Nat) : Option Nat :=
  (s.host.queue.find? (fun e => e.2.st != 0 && e.2.kind == 7 && e.2.bound == c)).map (·.1)

/-- The job that a DMA queue executes (R454). -/
def dxJob (s : State) (q : Nat) : Option Job := (hqAt s q).jobs.find? (fun j => !j.done)

/-- Source and destination space, region and address of a descriptor, and its length (R462). -/
def dxSrc (e : List Byte) : Nat := rd e 8 1
/-- Destination space. -/
def dxDst (e : List Byte) : Nat := rd e 9 1
/-- Length. -/
def dxLen (e : List Byte) : Nat := rd e 0x20 4
/-- The host side of a descriptor: region, offset, and whether the device writes it. -/
def dxHost (e : List Byte) : Nat × Nat × Bool :=
  if dxSrc e = 0 then (rd e 0xC 2, rd e 0x10 8, false) else (rd e 0xE 2, rd e 0x18 8, true)
/-- The device side: space, address. -/
def dxDev (e : List Byte) : Nat × Nat := if dxSrc e = 0 then (dxDst e, rd e 0x18 8) else (dxSrc e, rd e 0x10 8)

/-- Are a descriptor's fields in order (R462 to R465)? -/
def dxFieldsOk (s : State) (e : List Byte) : Bool :=
  let len := dxLen e
  let (sp, a) := dxDev e
  decide (rd e 0 1 < 8) && zeros e 1 1 && decide (dxSrc e < 4) && decide (dxDst e < 4) &&
  decide ((dxSrc e = 0) ≠ (dxDst e = 0)) && decide (rd e 0xA 1 ≤ 5) && zeros e 0xB 1 && zeros e 0x26 2 && zeros e 0x30 16 &&
  decide (1 ≤ len ∧ len ≤ 2 ^ 30) && len % (swapShape (rd e 0xA 1)).2 == 0 && rd e 0x28 8 % 4 == 0 &&
  (match sp with
   | 1 => decide (a + len ≤ peatSize s)
   | 2 => decide (a + len ≤ 128 * hostWindow s)
   | _ => dxSrc e == 3 && observer s && decide (a + len ≤ statsSize))

/-- Why a descriptor does not start, by R469; none where it does. -/
def dxRefused (s : State) (e : List Byte) : Option Nat :=
  if !dxFieldsOk s e then some 1
  else
    let (reg', off, wr) := dxHost e
    let (sp, a) := dxDev e
    match regionAt s reg' with
    | none => some 2
    | some b =>
      if !(if wr then regionWrite b else regionRead b) then some 2
      else if off + dxLen e > regionLen b then some 1
      else if sp ≠ 3 ∧ winAway s (sp == 1) a (dxLen e) then some 5
      else if (qpAt s (regionQp b)).st ≠ 1 then some 3
      else none

/-! ### Transfers -/

/-- The frames of a transfer that ends in the same step: the PSNs advance and nothing stays outstanding. -/
def bulk (r : OutReq) (s : State) : State :=
  match regionAt s r.region with
  | none => s
  | some b =>
    let q := regionQp b
    let x := qpAt s q
    let n := packetsOf (if r.kind = 2 then r.length else r.bytes.length)
    bump48 19 q 0 n (hostSend (.request q { r with psn := x.sqPsn, packets := n })
      (setQp q { x with sqPsn := x.sqPsn + BitVec.ofNat 24 n } s))

/-- Move the first `n` bytes of a descriptor's transfer (R463, R464): `data` is what the host side gives. -/
def dxMove (q : Nat) (pos : Word) (e data : List Byte) (n : Nat) (s : State) : State :=
  let (reg', off, wr) := dxHost e
  let (sp, a) := dxDev e
  let mode := rd e 0xA 1
  if wr then
    let b := if sp = 3 then statsRead s a (dxLen e) else winRead s (sp == 1) a (dxLen e)
    bulk { region := reg', offset := off, bytes := (swapBytes mode b).take n, purpose := .data q pos } (if sp = 3 then s else winUse (sp == 1) a (dxLen e) s)
  else
    let s1 := bulk { kind := 2, region := reg', offset := off, length := dxLen e, purpose := .data q pos } s
    winUse (sp == 1) a n (winWrite (sp == 1) a ((swapBytes mode (padTo (dxLen e) data)).take n) s1)

/-- A free number of bytes up to `n`, for what the manual leaves undefined (R465, R470). -/
def freeUpTo (n : Nat) (s : State) : Nat := (freeBits 32 s).toNat % (n + 1)

/-- The status word of a descriptor (R467). -/
def dxStatusWord (q : Nat) (pos : Word) (e : List Byte) (st : Nat) (s : State) : State :=
  if bitOf (rd e 0 1) 2 then (hostWrite (rd e 0x24 2) (rd e 0x28 8) (le 4 st) none (.data q pos) s).1 else s

/-- The job after one more of its descriptors has ended (R457, R468). -/
def Job.descriptorEnd (j : Job) (len st : Nat) : Job :=
  let j1 := { j with
    ended := j.ended + 1, bad := if st = 0 then j.bad else j.bad + 1
    firstBad := if st = 0 then j.firstBad else some (j.firstBad.getD (j.ended, st))
    moved := if st = 0 then j.moved + len else j.moved }
  if j1.ended < j1.count then j1
  else
    let f := j1.firstBad.getD (0, 0)
    { j1 with
      done := true, status := if j1.bad = 0 then St.ok else St.eFault
      detail := le 1 j1.bad ++ le 1 f.1 ++ le 1 f.2 ++ le 5 0 ++ le 8 j1.moved }

/-- A descriptor ends with a status (R465, R469, R472). -/
def dxEnd (c q : Nat) (j : Job) (e : List Byte) (st : Nat) (s : State) : State :=
  let s1 := modJob q j.pos (fun j => j.descriptorEnd (dxLen e) st) (dxStatusWord q j.pos e st s)
  if st = 0 then bump32 20 c 3 1 s1
  else
    let s2 := bump32 20 c 4 1 (s1.setHost { s1.host with
      lastBad := tput s1.host.lastBad c (j.pos + BitVec.ofNat 32 j.ended) })
    raiseLimited Ev.dxBad c (fun n => le 1 c ++ le 4 n ++ le 1 st) s2

/-- Bytes of the current descriptor moved (R472). -/
def setDxBytes (c : Nat) (v : Word) (s : State) : State :=
  s.setHost { s.host with dxBytes := tput s.host.dxBytes c v }

/-- DX_DESCRIPTOR_END: the current descriptor of a channel ends.  `data` is what its host side gives; `met` is 1 where the
transfer meets a remote access error, 2 where a memory error response arrives (R462 to R469). -/
def dxDescriptorEnd (c : Nat) (data : List Byte) (met : Nat) (s : State) : State :=
  match dxQueue s c with
  | none => s
  | some q =>
    match dxJob s q with
    | none => s
    | some j =>
      if !inService s 20 0 ∨ !bitOf (reg s 20 c 0).toNat 0 then s
      else
        let e := j.entries.getD j.ended []
        match dxRefused s e with
        | some st => dxEnd c q j e st (setDxBytes c 0 s)
        | none =>
          if met = 0 then
            dxEnd c q j e 0 (setDxBytes c (BitVec.ofNat 32 (dxLen e)) (dxMove q j.pos e data (dxLen e) s))
          else
            let n := freeUpTo (dxLen e) s
            dxEnd c q j e (2 + met) (setDxBytes c (BitVec.ofNat 32 n) (drawn (dxMove q j.pos e data n s)))

/-! ### Stopping a channel -/

/-- DX_ABORTED: the current descriptor is aborted; its destination holds an open part of open data, and BYTES is open
(R470). -/
def dxAbort (c q : Nat) (j : Job) (s : State) : State :=
  let e := j.entries.getD j.ended []
  let n := freeUpTo (dxLen e) s
  let s1 := drawn s
  let data := le (dxLen e) (freeBits (8 * dxLen e) s1).toNat
  let s2 := drawn s1
  let s3 := if (dxRefused s2 e).isSome then s2 else dxMove q j.pos e data n s2
  let s4 := drawn (setDxBytes c (freeBits 32 s3) s3)
  raise Ev.dxAborted (le 1 c ++ le 2 q ++ le 4 (j.pos + BitVec.ofNat 32 j.ended).toNat) s4

/-- A channel stops: the current job gets no completion and its queue is DISABLED at once, cause 6 (R460, R470). -/
def dxStop (c : Nat) (s : State) : State :=
  match dxQueue s c with
  | none => s
  | some q =>
    let s1 := match dxJob s q with
      | some j => dxAbort c q j s
      | none => s
    let x := hqAt s1 q
    if x.st = 1 ∨ x.st = 2 then
      queueDisabled q (forgetFetch q (setHq q { x with st := 2, cause := 6, fetching := 0, arrived := none } s1))
    else s1

/-- DX_CTRL_DISABLE: the enable of a channel is cleared (R470). -/
def dxCtrlDisable (c : Nat) (s : State) : State :=
  let s1 := setReg 20 c 0 (reg s 20 c 0 &&& ~~~1) s
  if bitOf (reg s 20 c 0).toNat 0 then dxStop c s1 else s1

/-- DX_DESCRIPTOR_END. -/
def execDxDescriptorEnd (c : Fin 32) (data : List Byte) (met : Fin 3) (s : State) : Host.Outcome State Fault Refusal :=
  .next (dxDescriptorEnd c data met s)
/-- DX_CTRL_DISABLE. -/
def execDxCtrlDisable (c : Fin 32) (s : State) : Host.Outcome State Fault Refusal := .next (dxCtrlDisable c s)

end Sys2Proof.Machine
end

