-- ==== Sys2Proof/Machine/Memory.lean ====
section
/-! DEFINITION. The memory controllers: training, refresh and retraining, temperatures, patrol scrub, read errors, alerts, the
error log, and power-down (chapter 16, R42). -/

namespace Sys2Proof.Machine

/-! ### Units -/

/-- Class of a controller: HBMC, or DDRC. -/
def memCls (c : Bool) : Nat := if c then 15 else 14
/-- Key of a controller. -/
def memKey (c : Bool) (k : Nat) : Nat := if c then 128 + k else k
/-- A controller. -/
def memAt (s : State) (c : Bool) (k : Nat) : MemUnit := tgetD (fun _ => {}) s.mem.unit (memKey c k)
/-- Put a controller. -/
def setMem (c : Bool) (k : Nat) (x : MemUnit) (s : State) : State :=
  s.setMem { s.mem with unit := tput s.mem.unit (memKey c k) x }
/-- Does the controller exist, and is it in service? -/
def memIn (s : State) (c : Bool) (k : Nat) : Bool := (!c || decide (k < 16)) && inService s (memCls c) k && s.tick.running
/-- Is the unit safety-class (R419)? -/
def memSafety (s : State) (c : Bool) (k : Nat) : Bool := (reg s (memCls c) k 0).getLsbD 0
/-- Instance of the shared words. -/
def memShared (c : Bool) : Nat := if c then 16 else 128

/-! ### Training -/

/-- A pseudo-channel has trained: its seed in the working copy holds the results, marked valid, whose values the spec does
not state (R413, R414). -/
def trainedHbm (k : Nat) (s : State) : State :=
  drawn (s.setCal { s.cal with
    work := putBytes s.cal.work (0xAC0 + 8 * k) (le 1 1 ++ le 6 (freeBits 48 s).toNat ++ le 1 0) })

/-- The two seed groups of one DIMM after training: none where no DIMM is fitted (R414). -/
def dimmSeeds (id : BitVec 64) (v : Nat) : List Byte :=
  if id = 0 then le 24 0
  else le 1 1 ++ le 7 (v % 2 ^ 56) ++ le 4 0 ++ le 1 1 ++ le 7 (v / 2 ^ 56 % 2 ^ 56) ++ le 4 0

/-- A DDR5 channel has trained: the working copy holds the identities of its DIMMs and the results (R413, R414). -/
def trainedChannel (k : Nat) (s : State) : State :=
  let x := memAt s true k
  let v := (freeBits 224 s).toNat
  drawn (s.setCal { s.cal with
    work := putBytes s.cal.work (0xEC0 + 64 * k)
      (le 8 x.id0.toNat ++ le 8 x.id1.toNat ++ dimmSeeds x.id0 v ++ dimmSeeds x.id1 (v / 2 ^ 112)) })

/-! ### Leaving service -/

/-- A unit that must leave service, or lead to SAFE where it is safety-class (R411, R412). -/
def memOut (c : Bool) (k : Nat) (s : State) : State :=
  if !c && memSafety s c k then nameUnit ⟨14, k⟩ (recordFault 0x17 14 k 0 s) else leaveService ⟨memCls c, k⟩ 2 s

/-! ### Refresh, retraining, temperature -/

/-- Is a tick a refresh tick at `m` refreshes in 125 ticks (R42)? -/
def refreshTick (m t : Nat) : Bool := m * (t + 1) / 125 - m * t / 125 == 1

/-- Does the doubled rate apply in the present tick (R411)? -/
def doubled (s : State) (x : MemUnit) : Bool := if x.tempTick = some s.tick.count then x.hotRateWas else x.hotRate

/-- Is a tick a retraining tick of the unit (R42)? -/
def retrainTick (c : Bool) (k t : Nat) : Bool := if c then t % 1024 == 64 * (k % 16) else t % 1024 == 8 * (k % 128)

/-- MEM_REFRESH: the unit's refresh position of the tick; a retraining tick puts its refresh off (R42).  One put off that meets the
next tick's own is performed with it as one (DESIGN CHOICE, log 44). -/
def memRefresh (c : Bool) (k : Nat) (s : State) : State :=
  if !memIn s c k then s
  else
    let x := memAt s c k
    let t := s.tick.count.toNat
    let due := refreshTick (if doubled s x then 64 else 32) t || x.owed
    if !due then s
    else if retrainTick c k t then setMem c k { x with owed := true } s
    else setMem c k { x with refreshes := x.refreshes + 1, owed := false } s

/-- MEM_RETRAIN: the unit's retraining window; `drift` names a delay or calibration that failed (R412). -/
def memRetrain (c : Bool) (k : Nat) (drift : Option Byte) (s : State) : State :=
  if !memIn s c k || !retrainTick c k s.tick.count.toNat then s
  else
    let s1 := setMem c k { memAt s c k with retrained := some s.tick.count } s
    match drift with
    | none => s1
    | some d => memOut c k (raise Ev.memRetrainDrift (le 1 (memCls c) ++ le 2 k ++ [d]) s1)

/-- MEM_TEMP_READ: the unit reads its device temperature, once in 1,024 ticks (R411). -/
def memTempRead (c : Bool) (k : Nat) (temp : Byte) (s : State) : State :=
  let x := memAt s c k
  let early := match x.tempTick with | some t => decide (ticksSince s.tick.count t < 1024) | none => false
  if !memIn s c k || early then s
  else
    let hot := if temp.toNat ≥ regField s (memCls c) (memShared c) 0x11 7 0 then x.hot + 1 else 0
    let s1 := setMem c k { x with
      temp := temp, hot := hot, tempTick := some s.tick.count
      hotRateWas := x.hotRate, hotRate := decide (temp.toNat ≥ 85) } s
    if hot = 16 then memOut c k (raise Ev.memHot (le 1 (memCls c) ++ le 2 k ++ [temp]) s1) else s1

/-! ### Errors -/

/-- Mask j of the select bits of a DDR5 unit: the value written, or the reset value of its organisation (R406, R424). -/
def ddrMask (s : State) (x : MemUnit) (j : Nat) : Nat :=
  let m := match tfind s.prm.regs (paddr 15 16 j) with
    | some v => v.toNat * 64
    | none => 2 ^ (6 + x.colBits + j) + 2 ^ (6 + x.colBits + x.selBits + j)
  m ||| 2 ^ (6 + x.colBits + j)

/-- The select bits of a local address (R406). -/
def selectBits (s : State) (c : Bool) (k addr : Nat) : Nat :=
  let x := memAt s c k
  let mask := fun j => if c then ddrMask s x j else (reg s 14 128 j).toNat ||| 2 ^ (10 + j)
  (List.range (if c then x.selBits else 6)).foldl (fun a j => a + 2 ^ j * parity 38 (addr &&& mask j)) 0

/-- Enter an error into the log: kind, flags without the safety flag, address and requester (R420). -/
def memLog (c : Bool) (k kind flags addr req : Nat) (s : State) : State :=
  let x := memAt s c k
  let e := le 6 s.tick.count.toNat ++ le 1 kind ++ le 1 (flags + b2n (memSafety s c k)) ++ le 5 (addr % 2 ^ 38) ++
    le 1 (selectBits s c k addr) ++ le 1 req ++ le 1 0
  let log := x.log ++ [e]
  setMem c k { x with log := log.drop (log.length - 16) } s

/-- Key of a unit for events raised once a period. -/
def memMark (c : Bool) (k : Nat) : Nat := memKey c k

/-- One more in the present period. -/
def inPeriod (s : State) (x : Nat × Nat) : Nat × Nat := if x.1 = period s then (x.1, x.2 + 1) else (period s, 1)

/-- Count a corrected error (R415). -/
def memCe (c : Bool) (k : Nat) (s : State) : State :=
  let x := memAt s c k
  let l := addRecent s 1 x.ces
  let n := recentSum s l
  let lim := regField s (memCls c) k 8 15 0
  let s1 := bump32 (memCls c) k 3 1 (setMem c k { x with ces := l } s)
  if lim ≠ 0 ∧ n > lim then raiseOnce Ev.memCeRate (memMark c k) (fun _ => le 1 (memCls c) ++ le 2 k ++ le 4 n) s1 else s1

/-- A read of a unit completes (R415, R416): on a safety-class unit no second read is made. -/
def memRead (c : Bool) (k addr req : Nat) (e : ReadErr) (s : State) : State :=
  match e, memSafety s c k with
  | .clean, _ => s
  | .corrected, _ => memLog c k 1 0 addr req (memCe c k s)
  | .second, false => memLog c k 2 4 addr req (memCe c k s)
  | _, _ =>
    raiseLimited Ev.memUe (memMark c k) (fun n => le 1 (memCls c) ++ le 2 k ++ le 4 n)
      (memLog c k 2 0 addr req (bump32 (memCls c) k 4 1 s))

/-- MEM_READ_COMPLETE. -/
def memReadComplete (c : Bool) (k addr req : Nat) (e : ReadErr) (s : State) : State :=
  if memIn s c k then memRead c k addr req e s else s

/-- Units of 64 bytes of a unit. -/
def memUnits (s : State) (c : Bool) (k : Nat) : Nat := if c then 2 ^ 24 * (memAt s c k).gib else 12582912

/-- MEM_PATROL_SCRUB: the scrub reads as many locations of a tick as spare accesses allow, SCRUB_RATE at most (R410). -/
def memPatrolScrub (c : Bool) (k : Nat) (found : List ReadErr) (s : State) : State :=
  if !memIn s c k then s
  else
    let rate := min (spareAccesses s c k) (min 8 (regField s (memCls c) (memShared c) 0x10 3 0))
    (found.take rate).foldl (fun s e =>
      let x := memAt s c k
      let s1 := memRead c k (64 * x.scrubPos) 4 e s
      setMem c k { memAt s1 c k with scrubPos := (x.scrubPos + 1) % max 1 (memUnits s c k) } s1) s

/-- MEM_ALERT: an alert about a command, `addr` being the oldest access not known good (R417 to R419).  A DDR5 unit with
write_crc also tells of a write CRC error. -/
def memAlert (c : Bool) (k addr : Nat) (crc : Bool) (req : Nat) (s : State) : State :=
  if !memIn s c k then s
  else
    let kind := if crc && c && (reg s 15 k 0).getLsbD 1 then 4 else 3
    let x := memAt s c k
    let n := inPeriod s x.alerts
    let s1 := bump32 (memCls c) k 6 1 (setMem c k { x with alerts := n } s)
    if memSafety s c k then
      raise Ev.memSafetyErr (le 1 (memCls c) ++ le 2 k ++ le 1 kind ++ le 5 addr)
        (recordFault 0x13 (memCls c) k 0 (memLog c k kind 0 addr req s1))
    else
      let s2 := raiseLimited Ev.memParityReplay (memMark c k) (fun m => le 1 (memCls c) ++ le 2 k ++ le 4 m)
        (bump32 (memCls c) k 5 1 (memLog c k kind 2 addr req s1))
      if n.2 = 4 then leaveService ⟨memCls c, k⟩ 2 (raise Ev.memReplayExhausted (le 1 (memCls c) ++ le 2 k) s2) else s2

/-- The unit that an argument names: 0 HBMC, 1 DDRC; none for another. -/
def memArg (p : List Byte) : Option (Bool × Nat) :=
  let u := argUnit p
  if u.cls = 14 ∧ u.inst < 128 then some (false, u.inst) else if u.cls = 15 ∧ u.inst < 16 then some (true, u.inst) else none

/-- MEM_ERRLOG_READ (R420).  The argument is class (1), reserved (1), instance (2) and the clear flag (1). -/
def bodyMemErrlogRead (r : Req) (s : State) : State × Reply :=
  let p := r.payload
  match memArg p with
  | none => (s, .no St.eArg)
  | some (c, k) =>
    if p.length ≠ 5 ∨ !zeros p 1 1 ∨ rd p 4 1 > 1 then (s, .no St.eArg)
    else
      let x := memAt s c k
      (if rd p 4 1 = 1 then setMem c k { x with log := [] } s else s, .yes x.log.flatten)

/-! ### Power-down -/

/-- Entries in the turfs of a slice. -/
def turfEntries (s : State) (n : Nat) : Nat := (slAt s n).turf.length

/-- CHANNEL_DOWN (R421).  The argument is class (1), reserved (1), instance (2) and the force flag (1). -/
def bodyChannelDown (r : Req) (s : State) : State × Reply :=
  let p := r.payload
  match memArg p with
  | none => (s, .no St.eArg)
  | some (c, k) =>
    if p.length ≠ 5 ∨ !zeros p 1 1 ∨ rd p 4 1 > 1 ∨ (!c && memSafety s c k) then (s, .no St.eArg)
    else if isAbsent s (memCls c) k then (s, .no St.eFault)
    else if unitState s ⟨memCls c, k⟩ ≠ .inService then (s, .no St.eBusy)
    else if c && rd p 4 1 == 0 && turfEntries s k != 0 then
      (s, { status := St.eBusy, payload := le 4 (turfEntries s k) })
    else accepted Op.channelDown r true (fun h s =>
      defer { due := dueTick s r.cycle, change := .channelDown ⟨memCls c, k⟩ h } s) s

/-- MEM_TURF_LOST: the turfs of a slice are lost with their pairs, and its summaries are cleared (R303, R422). -/
def turfLost (n : Nat) (s : State) : State :=
  let x := slAt s n
  let s1 := x.turf.foldl (fun s e => leakPair n e.2 s) s
  let s2 := setSl n { slAt s1 n with turf := [], sums := [], badSums := [], clears := [] } s1
  if x.turf = [] then s2 else raise Ev.memTurfLost (le 1 n ++ le 4 x.turf.length) s2

/-- The blocks of every ring on a channel whose contents are lost: they are counted in LOST (R422). -/
def ringsLose (n : Nat) (s : State) : State :=
  (List.range 9).foldl (fun s i =>
    let x := ringAt s i
    let hit := fun (e : Dword × Nat × List Byte) =>
      (List.range e.2.1).any (fun k => blockChan s i (e.1 + BitVec.ofNat 64 k) == some n) && e.2.2 != []
    let lost := (x.items.filter hit).foldl (fun a e => a + (if i = 0 then e.2.1 else 1)) 0
    if lost = 0 then s
    else bump32 24 i 0x10 lost (setRing i { x with items := x.items.map (fun e => if hit e then (e.1, e.2.1, []) else e) } s)) s

/-- MEM_CHANNEL_DOWN: DRAIN_TICKS have passed, the transfers that are left, each with its address and requester, are aborted,
and the unit powers down (R421). -/
def channelDrainExpiry (c : Bool) (k : Nat) (aborted : List (Nat × Nat)) (s : State) : State :=
  match (memAt s c k).draining with
  | none => s
  | some (h, since) =>
    if ticksSince s.tick.count since < regField s (memCls c) (memShared c) 0x12 13 0 then s
    else
      let s1 := aborted.foldl (fun s a => memLog c k 5 0 a.1 a.2 (bump32 (memCls c) k 7 1 s)) s
      let s2 := setMem c k { memAt s1 c k with draining := none, poweredDown := true } s1
      let s3 := if c then ringsLose k (if s2.jnl.turfs then turfLost k s2 else s2) else s2
      complete Ev.memChannelDown h St.ok (le 1 (memCls c) ++ le 2 k ++ le 4 aborted.length) s3

/-! ### The meanings -/

/-- MEM_REFRESH. -/
def execMemRefresh (c : Bool) (k : Fin 128) (s : State) : Host.Outcome State Fault Refusal := .next (memRefresh c k s)
/-- MEM_RETRAIN. -/
def execMemRetrain (c : Bool) (k : Fin 128) (drift : Option Byte) (s : State) : Host.Outcome State Fault Refusal :=
  .next (memRetrain c k drift s)
/-- MEM_TEMP_READ. -/
def execMemTempRead (c : Bool) (k : Fin 128) (temp : Byte) (s : State) : Host.Outcome State Fault Refusal :=
  .next (memTempRead c k temp s)
/-- MEM_PATROL_SCRUB. -/
def execMemPatrolScrub (c : Bool) (k : Fin 128) (found : List ReadErr) (s : State) : Host.Outcome State Fault Refusal :=
  .next (memPatrolScrub c k found s)
/-- MEM_READ_COMPLETE. -/
def execMemReadComplete (c : Bool) (k : Fin 128) (addr : Nat) (req : Fin 6) (e : ReadErr) (s : State) :
    Host.Outcome State Fault Refusal := .next (memReadComplete c k addr req e s)
/-- MEM_ALERT. -/
def execMemAlert (c : Bool) (k : Fin 128) (addr : Nat) (crc : Bool) (req : Fin 6) (s : State) :
    Host.Outcome State Fault Refusal := .next (memAlert c k addr crc req s)
/-- CHANNEL_DOWN. -/
def execChannelDown (r : Req) (s : State) : Host.Outcome State Fault Refusal :=
  .next (runToune Op.channelDown bodyChannelDown r s)
/-- CHANNEL_DRAIN_EXPIRY. -/
def execChannelDrainExpiry (c : Bool) (k : Fin 128) (aborted : List (Nat × Nat)) (s : State) :
    Host.Outcome State Fault Refusal := .next (channelDrainExpiry c k aborted s)
/-- MEM_ERRLOG_READ. -/
def execMemErrlogRead (r : Req) (s : State) : Host.Outcome State Fault Refusal :=
  .next (runToune Op.memErrlogRead bodyMemErrlogRead r s)

end Sys2Proof.Machine
end

