-- ==== Sys2Proof/Machine/Place.lean ====
section
/-! DEFINITION. Placing entries in the tiers: insertion with relocation, installation in the Hearth with its victims, background
lookups, and the installation of pointers (R216, R272 to R276, R280, R285, R293 to R296). -/

namespace Sys2Proof.Machine

/-! ### The Stack tier -/

/-- Put an entry into the Stack tier: the slot, or none without room (R280, R281).  An occupant whose copy cannot be used when it is
read for its move is invalidated and the search begins again (R220, R296); a move whose write fails is abandoned and the insertion
ends without room (R293).  Its accesses are background accesses (R294). -/
def insertFrom (n : Nat) (d : Dword) (e : List Byte) : Nat → State → State × Option Nat
  | 0, s => (s, none)
  | fuel + 1, s =>
    let x := slAt s n
    if fillOf x.stack + entrySlots e > fillLimit s then (s, none)
    else match placeFor s x d (entrySlots e) with
      | none => (s, none)
      | some (y, k, moves) =>
        let moved := relocated x.stack y.stack
        match moved.find? (fun m => (readCopy x 1 m.1 {} m.2.2).isNone && (wayOf x (digestOf s (keyOf m.2.2))).isNone) with
        | some m => insertFrom n d e fuel (tagError n (digestOf s (keyOf m.2.2)) ⟨1, m.1⟩ m.2.2 s)
        | none => match moved.find? (fun m => writeFails x 1 m.2.1) with
          | some m => (migrateAbort n 3 (digestOf s (keyOf m.2.2)) (stackAddr m.2.1) (metFail n 1 m.2.1 s), none)
          | none =>
            let z := { y with stack := tput y.stack k e }
            (fillEvents n (walkMoves n moved (setSl n z (useBack n (k / 4 % 8) (entrySlots e + moves) s))), some k)

/-- Put an entry into the Stack tier (R280, R281): at most 9 occupants are met. -/
def stackInsert (n : Nat) (d : Dword) (e : List Byte) (s : State) : State × Option Nat := insertFrom n d e 10 s

/-! ### The Hearth -/

/-- The ways that an entry of `size` ways drives out at index `k` (R273). -/
def victims (x : Slice) (k size : Nat) : List (Nat × Way) :=
  match wayAt x k, (if size = 2 then wayAt x (k + 1) else none) with
  | some v, some w => if v.1 = w.1 then [v] else [v, w]
  | some v, none => [v]
  | none, some w => [w]
  | none, none => []

/-- Evict a way: a dirty one is written to its Stack slot; one that cannot be read is lost; one whose write fails stays (R273, R293,
R296).  Answers whether the way is free. -/
def evictWay (n : Nat) (packet : Bool) (v : Nat × Way) (s : State) : State × Bool :=
  let x := slAt s n
  let w := v.2
  match readCopy x 0 v.1 {} w.entry with
  | none => (tagError n w.digest ⟨0, v.1⟩ w.entry s, true)
  | some e =>
    if !w.dirty then (setSl n { x with hearth := terase x.hearth v.1 } s, true)
    else if writeFails x 1 w.slot then
      (migrateAbort n 2 w.digest (stackAddr w.slot) (metFail n 1 w.slot s), false)
    else
      (useBucket n (w.slot / 4) (entrySlots e) packet
        (setSl n { x with hearth := terase x.hearth v.1, stack := tput x.stack w.slot e } s), true)

/-- Install an entry of Stack slot `slot` in the Hearth; without an evictable way it stays where it is and is counted in
HEARTH_BYPASS (R273, R274).  `packet` tells whether a victim's write is charged to packets. -/
def hearthInstall (n : Nat) (d : Dword) (e : List Byte) (slot : Nat) (dirty packet : Bool) (s : State) : State × Bool :=
  let x := slAt s n
  match wayFor s n x d (entrySlots e) with
  | none => (slCount n 0x55 1 s, false)
  | some k =>
    let (s1, ok) := (victims x k (entrySlots e)).foldl (fun r v =>
      if r.2 then evictWay n packet v r.1 else r) (s, true)
    if !ok then (slCount n 0x55 1 s1, false)
    else
      let y := slAt s1 n
      (setSl n { y with
        hearth := tput y.hearth k { digest := d, entry := e, dirty := dirty, slot := slot, used := y.clock + 1 }
        clock := y.clock + 1 } s1, true)

/-- Count a refused pin and tell it once per episode (R275). -/
def pinRefuse (n why : Nat) (s : State) : State :=
  let x := slAt s n
  let fresh := match x.pinRefused with
    | none => true
    | some t => ticksSince s.tick.count t ≥ 1024
  let s1 := slCount n 0x56 1 (setSl n { x with pinRefused := some s.tick.count } s)
  if fresh then raise Ev.hearthPinFull (le 1 n ++ le 1 why) s1 else s1

/-! ### Background lookups (R285, R294 to R296) -/

/-- A background lookup in all tiers: an entry whose copy cannot be used is lost and the lookup misses (R220; log 56).  With `again`
the operation has been held since it looked up, and makes no further accesses. -/
def seek (n : Nat) (d : Dword) (key : Option (List Byte)) (again : Bool) (s : State) : State × Found :=
  let r := locate s n d key
  let s1 := if again then s else lookupWork n d key r s
  match r with
  | .bad p e => (tagError n d p e s1, .miss)
  | r => (s1, r)

/-- A background lookup of an operation that changes its record, or reads it: a Stack hit is installed in the Hearth (R273, R285).
Answers also the tier of the lookup. -/
def seekIn (n : Nat) (d : Dword) (key : Option (List Byte)) (again : Bool) (s : State) : State × Found × Nat :=
  match seek n d key again s with
  | (s1, .hit ⟨1, k⟩ e) =>
    (match hearthInstall n d e k false false s1 with
     | (s2, true) => (s2, (match wayOf (slAt s2 n) d with | some w => .hit ⟨0, w⟩ e | none => .hit ⟨1, k⟩ e), 1)
     | (s2, false) => (s2, .hit ⟨1, k⟩ e, 1))
  | (s1, .hit p e) => (s1, .hit p e, p.tier)
  | (s1, r) => (s1, r, 3)

/-! ### Pointers (R216) -/

/-- Install a pointer in its home slice: the state and the acknowledgement (R207, R209, R216). -/
def runInstall (m : Nat) (pd : Dword) (key ptr : List Byte) (s : State) : State × Nat :=
  match seek m pd (some key) false s with
  | (s1, .miss) =>
    (match anyDigest s1 m pd with
     | some _ => (raise Ev.flowDigestClash (le 1 m ++ le 8 pd.toNat) (slCount m 0x43 1 s1), 3)
     | none => match stackInsert m pd ptr s1 with
       | (s2, some _) => (s2, 0)
       | (s2, none) => (s2, 1))
  | (s1, .away _ _) => (s1, 1)
  | (s1, _) => (s1, 2)

/-- The acknowledgement of an installation reaches the primary's slice (R216). -/
def runBindAck (n : Nat) (d : Dword) (code : Nat) (pd : Dword) (again : Bool) (s : State) : State :=
  if code ≠ 0 then
    raiseLimited Ev.flowBindFail n (fun _ => le 1 n ++ le 1 (homeOf pd) ++ le 1 (code - 1)) (slCount n 0x41 1 s)
  else match seekIn n d none again s with
    | (s1, .hit p e, _) =>
      if !isPtr e && pointerDigest s1 e == some pd then commitRecord n d p false (some e) (putCtlField 3 3 1 e) s1
      else unbind pd d s1
    | (s1, _, _) => unbind pd d s1

end Sys2Proof.Machine
end

