-- ==== Sys2Proof/Machine/Programs.lean ====
section
/-! DEFINITION. Flow programs: the program image, templates, and the run of a program on a record (R221 to R231). -/

namespace Sys2Proof.Machine

/-! ### The image -/

/-- Length of a program image (R227). -/
def progSize : Nat := 19012
/-- Offset of meter profile `i`. -/
def meterOff (i : Nat) : Nat := 0x40 + 8 * i
/-- Offset of program `p`. -/
def programOff (p : Nat) : Nat := 0x240 + 72 * p
/-- Micro-op `i` of program `p`. -/
def opWord (b : List Byte) (p i : Nat) : Nat := rd b (programOff p + 8 + 4 * i) 4
/-- Length of program `p`. -/
def progLen (b : List Byte) (p : Nat) : Nat := rd b (programOff p) 1
/-- Is program `p` valid in an image? -/
def progValid (b : List Byte) (p : Nat) : Bool := bitOf (rd b (programOff p + 1) 1) 0
/-- Is program `p` marked wide_only? -/
def progWide (b : List Byte) (p : Nat) : Bool := bitOf (rd b (programOff p + 1) 1) 1

/-- Operand bits that each opcode names (R223). -/
def opMask : Nat → Nat
  | 1 => 0xFFFF7F00 | 2 => 0x7300 | 3 => 0x1FF00 | 4 => 0x1FF00 | 5 => 0x100 | 6 => 0x1FFFFF00
  | 7 => 0x7F00 | 8 => 0x1FF00 | 9 => 0xFF00 | 10 => 0x100 | _ => 0

/-- The scratch word that a micro-op uses, if it uses one (R223). -/
def opScratch (w : Nat) : Option Nat :=
  match w % 16 with
  | 1 => if bitOf w 11 then some (bitsOf w 14 12) else none
  | 2 => if bitOf w 9 then some (bitsOf w 14 12) else none
  | 4 => some (bitsOf w 16 14)
  | _ => none

/-- Is a micro-op refused in a program (R223, R224, R228)? -/
def opBad (wide : Bool) (w : Nat) : Bool :=
  let op := w % 16
  op == 0 || op > 10 || bitsOf w 7 4 > 12 || (w / 256 * 256) &&& (0xFFFFFFFF - opMask op) != 0 ||
  (op == 6 && (bitsOf w 9 8 == 3 || bitsOf w 11 10 == 3)) ||
  (op == 7 && bitOf w 8 && bitsOf w 14 12 != 0) ||
  (!wide && (match opScratch w with | some k => k > 0 | none => false))

/-- The checks of program `p` (R227, R228); `mustBeValid` where a valid template names it. -/
def programChecks (b : List Byte) (mustBeValid : Bool) (p : Nat) : List Check :=
  let o := programOff p
  let len := progLen b p
  ([(o, len > 16), (o + 1, outside (rd b (o + 1) 1) 3 || (mustBeValid && !progValid b p))] : List Check) ++
  zeroChecks b (o + 2) 6 ++
  (List.range 16).map (fun i =>
    (o + 8 + 4 * i, if i < len then opBad (progWide b p) (opWord b p i) else opWord b p i != 0))

/-- Is meter profile `i` used by a METER micro-op of an image? -/
def meterUsed (b : List Byte) (i : Nat) : Bool :=
  (List.range 256).any (fun p => (List.range (min 16 (progLen b p))).any (fun j =>
    let w := opWord b p j
    w % 16 == 4 && bitsOf w 13 8 == i))

/-- The checks of meter profile `i`. -/
def meterChecks (b : List Byte) (i : Nat) : List Check :=
  let o := meterOff i
  [(o, rd b o 1 > 24), (o + 1, outside (rd b (o + 1) 1) 1), (o + 4, rd b (o + 4) 2 == 0 && meterUsed b i),
   (o + 6, rd b (o + 6) 2 != 0)]

/-- The programs that valid templates name. -/
def programsNamed (ts : Table (List Byte)) : List Nat :=
  (ts.filter (fun t => bitOf (rd t.2 1 1) 0)).map (fun t => rd t.2 0 1)

/-- Judge a program image: the refusing status with the offset of the first fault (R228). -/
def progFault (named : List Nat) (b : List Byte) : Option (Half × List Byte) :=
  let n := b.length
  if n ≥ 4 ∧ rd b (n - 4) 4 ≠ (crc32c (b.take (n - 4))).toNat then some (St.eIntegrity, [])
  else
    let header : List Check :=
      [(0, rd b 0 4 != 0x53584650), (4, rd b 4 2 != 1), (6, rd b 6 2 != 0), (8, rd b 8 4 != progSize || n != progSize)]
    match firstFault (header ++ zeroChecks b 16 48) with
    | some o => some (St.eArg, le 4 o)
    | none =>
      match firstFault (((List.range 64).map (meterChecks b)).flatten ++
          ((List.range 256).map (fun p => programChecks b (named.contains p) p)).flatten) with
      | some o => some (St.eArg, le 4 o)
      | none => none

/-- The image that will be in force once every accepted change has been applied. -/
def futureProg (s : State) : Option (List Byte) :=
  s.sys.deferred.foldl (fun p d => match d.change with | .progLoad b => some b | _ => p) s.flow.prog

/-- The templates that will be in force once every accepted change has been applied. -/
def futureTemplates (s : State) : Table (List Byte) :=
  s.sys.deferred.foldl (fun m d => match d.change with
    | .templates items => items.foldl (fun m x => tput m x.1 x.2) m
    | _ => m) s.flow.templates

/-- FLOW_PROG_LOAD (R228, R621). -/
def bodyFlowProgLoad (r : Req) (s : State) : State × Reply :=
  if r.payload.length ≠ 16 then (s, .no St.eArg)
  else match descBytes r 0 s with
    | .error st => (s, .no st)
    | .ok b => match progFault (programsNamed (futureTemplates s)) b with
      | some (st, pl) => (s, { status := st, payload := pl })
      | none => (defer { due := dueTick s r.cycle, change := .progLoad b, resp := some (respOf Op.flowProgLoad r 0 []) }
            (twinControl 4 b s),
          { waits := true })

/-- FLOW_PROG_LOADED: the image takes effect in all slices (R228). -/
def applyProg (b : List Byte) (s : State) : State :=
  raise Ev.flowProgLoaded (le 4 (rd b 12 4) ++ le 8 s.tick.count.toNat) (s.setFlow { s.flow with prog := some b })

/-- FLOW_PROG_READ (R621). -/
def bodyFlowProgRead (r : Req) (s : State) : State × Reply :=
  let b := s.flow.prog.getD []
  let o := rd r.payload 0 4
  if r.payload.length ≠ 8 ∨ !zeros r.payload 4 4 then (s, .no St.eArg)
  else if o > b.length then (s, .no St.eRange)
  else
    let part := (b.drop o).take 4000
    (s, .yes (le 4 b.length ++ le 4 o ++ le 4 part.length ++ le 4 0 ++ part))

/-! ### Templates -/

/-- Is a template refused, given the image it will meet (R218, R228, R229)? -/
def templateBad (img : Option (List Byte)) (t : List Byte) : Bool :=
  let fl := rd t 1 1
  let cv := rd t 2 1
  let sk := rd t 3 1
  let bad := match img with
    | some b => !progValid b (rd t 0 1)
    | none => true
  fl > 15 || cv > 31 || cv / 8 == 3 || sk > 127 || bitsOf sk 6 4 > 4 || rd t 4 2 > 4095 || rd t 7 1 > 2 ||
  !zeros t 0x0A 2 || !zeros t 0x1C 4 || intervalBad (rd t 8 2) (bitOf fl 1) || (bitOf fl 0 && bad)

/-- FLOW_TEMPLATE_WRITE (R231, R621). -/
def bodyFlowTemplateWrite (r : Req) (s : State) : State × Reply :=
  let p := r.payload
  let n := rd p 0 2
  if p.length < 4 ∨ !zeros p 2 2 then (s, .no St.eArg)
  else if n = 0 ∨ n > 64 then (s, .no St.eRange)
  else if p.length ≠ 4 + 36 * n then (s, .no St.eArg)
  else
    let items := (List.range n).map (fun i => (p.drop (4 + 36 * i)).take 36)
    if items.any (fun b => rd b 0 2 > 1023) then (s, .no St.eRange)
    else if items.any (fun b => !zeros b 2 2 || templateBad (futureProg s) (b.drop 4)) then (s, .no St.eArg)
    else (defer { due := dueTick s r.cycle, change := .templates (items.map (fun b => (rd b 0 2, b.drop 4)))
                  resp := some (respOf Op.flowTemplateWrite r 0 []) } (twinControl 5 (p.drop 4) s), { waits := true })

/-- FLOW_TEMPLATES_WRITTEN: the templates take effect (R231). -/
def applyTemplates (items : List (Nat × List Byte)) (s : State) : State :=
  raise Ev.flowTemplatesWritten (le 2 items.length ++ le 8 s.tick.count.toNat)
    (s.setFlow { s.flow with templates := items.foldl (fun m x => tput m x.1 x.2) s.flow.templates })

/-- A template in force; an unwritten one is all zeros and invalid. -/
def templateAt (s : State) (t : Nat) : List Byte := tgetD (fun _ => List.replicate 32 0) s.flow.templates t

/-- FLOW_TEMPLATE_READ (R621). -/
def bodyFlowTemplateRead (r : Req) (s : State) : State × Reply :=
  let p := r.payload
  let t := rd p 0 2
  let n := rd p 2 2
  if p.length ≠ 8 ∨ !zeros p 4 4 then (s, .no St.eArg)
  else if n = 0 ∨ n > 64 ∨ t + n > 1024 then (s, .no St.eRange)
  else (s, .yes (le 2 n ++ le 2 0 ++
    ((List.range n).map (fun i => le 2 (t + i) ++ le 2 0 ++ templateAt s (t + i))).flatten))

/-! ### The run of a program -/

/-- The inputs of a program (R221). -/
structure RunIn where
  now : Tick
  rev : Bool
  new : Bool
  size : Nat
  flags : Nat
  ruleDrop : Bool
  /-- last_tick as stored before the operation. -/
  last : Tick

/-- What a run has done so far. -/
structure Run where
  rec' : List Byte
  c : Bool := false
  /-- Outcome of METER: 0 none, 1 GREEN, 2 RED. -/
  m : Nat := 0
  /-- Packet-only verdict of the last VERDICT that applied one. -/
  verdict : Option Nat := none
  mark : Option (Nat × Nat) := none
  /-- JOURNAL events with whether they carry the counters. -/
  journal : List (Nat × Bool) := []
  sample : Option Nat := none
  /-- SUPERVISE: true for a rearm. -/
  supervise : List Bool := []
  /-- RETIRE, with whether it is journalled. -/
  retire : Option Bool := none

/-- Is a condition true (R224)? -/
def condHolds (i : RunIn) (r : Run) : Nat → Bool
  | 0 => true
  | 1 => !i.rev
  | 2 => i.rev
  | 3 => bitOf i.flags 1
  | 4 => bitOf i.flags 0
  | 5 => bitOf i.flags 2
  | 6 => r.c
  | 7 => !r.c
  | 8 => r.m == 2
  | 9 => r.m == 1
  | 10 => i.ruleDrop
  | 11 => i.new
  | 12 => !i.new
  | _ => false

/-- Add to a field of a record, wrapping modulo its width (R217). -/
def addWrap (off n k : Nat) (e : List Byte) : List Byte := splice e off (le n ((rd e off n + k) % 256 ^ n))

/-- METER: tokens after the refill (R225). -/
def meterTokens (b : List Byte) (prof tokens : Nat) (now last : Tick) : Nat :=
  let o := meterOff prof
  let k := rd b o 1
  let n := (now.toNat / 2 ^ k + 2 ^ (48 - k) - last.toNat / 2 ^ k) % 2 ^ (48 - k)
  min (rd b (o + 4) 2) (tokens + n * rd b (o + 2) 2)

/-- METER: the cost of a packet (R225). -/
def meterCost (b : List Byte) (prof size : Nat) : Nat :=
  if bitOf (rd b (meterOff prof + 1) 1) 0 then (size + 63) / 64 else 1

/-- One micro-op whose condition holds (R223). -/
def microOp (b : List Byte) (i : RunIn) (r : Run) (w : Nat) : Run :=
  let e := r.rec'
  match w % 16 with
  | 1 =>
    let e1 := if bitOf w 8 then addWrap (pktsOff e) 5 1 e else e
    let e2 := if bitOf w 9 then addWrap (bytesOff e1) 6 i.size e1 else e1
    let e3 := if bitOf w 10 then splice e2 (deniesOff e2) (le 3 (min (deniesOf e2 + 1) 0xFFFFFF)) else e2
    let k := bitsOf w 14 12
    { r with rec' := if bitOf w 11 then putScr k ((scrOf e3 k + bitsOf w 31 16) % 65536) e3 else e3 }
  | 2 =>
    let e1 := if bitOf w 8 then splice e (firstOff e) (le 6 i.now.toNat) else e
    { r with rec' := if bitOf w 9 then putScr (bitsOf w 14 12) (i.now.toNat % 65536) e1 else e1 }
  | 3 =>
    if bitOf w 16 || stateOf e == bitsOf w 11 8 then { r with rec' := putCtlField 19 16 (bitsOf w 15 12) e, c := true }
    else { r with c := false }
  | 4 =>
    let k := bitsOf w 16 14
    let prof := bitsOf w 13 8
    let t := meterTokens b prof (scrOf e k) i.now i.last
    let cost := meterCost b prof i.size
    if t ≥ cost then { r with rec' := putScr k (t - cost) e, m := 1 } else { r with rec' := putScr k t e, m := 2 }
  | 5 => if intervalTicks (intervalOf e) = 0 then r else { r with supervise := r.supervise ++ [!bitOf w 8] }
  | 6 =>
    let v := if bitOf (bitsOf w 27 12) (stateOf e) then bitsOf w 9 8 else bitsOf w 11 10
    if bitOf w 28 then (if verdictOf e = 2 then r else { r with rec' := putCtlField 21 20 v e })
    else { r with verdict := some v }
  | 7 => { r with mark := some (if bitOf w 8 then (2, bitsOf w 11 9) else (1, bitsOf w 14 9)) }
  | 8 => { r with journal := r.journal ++ [(0x3100 + bitsOf w 15 8, bitOf w 16)] }
  | 9 => { r with sample := some (bitsOf w 15 8) }
  | 10 => { r with retire := some (bitOf w 8) }
  | _ => r

/-- Run micro-ops in order; none runs after a RETIRE whose condition holds (R222). -/
def runOps (b : List Byte) (i : RunIn) : List Nat → Run → Run
  | [], r => r
  | w :: ws, r =>
    if r.retire.isSome then r
    else runOps b i ws (if condHolds i r (bitsOf w 7 4) then microOp b i r w else r)

/-- The micro-ops that a record runs: none for an invalid program, or for a compact record whose program is wide_only
(R222). -/
def opsFor (img : Option (List Byte)) (e : List Byte) : List Nat :=
  match img with
  | none => []
  | some b =>
    let p := progOf e
    if !progValid b p || (progWide b p && !isWide e) then [] else (List.range (progLen b p)).map (opWord b p)

/-- Run a record's program; at its end last_tick is written (R222). -/
def runProgram (img : Option (List Byte)) (i : RunIn) (e : List Byte) : Run :=
  let r := runOps (img.getD []) i (opsFor img e) { rec' := e }
  { r with rec' := putLastTick i.now r.rec' }

/-! ### The meanings -/

/-- FLOW_PROG_LOAD. -/
def execFlowProgLoad (r : Req) (s : State) : Host.Outcome State Fault Refusal :=
  .next (runToune Op.flowProgLoad bodyFlowProgLoad r s)
/-- FLOW_PROG_READ. -/
def execFlowProgRead (r : Req) (s : State) : Host.Outcome State Fault Refusal :=
  .next (runToune Op.flowProgRead bodyFlowProgRead r s)
/-- FLOW_TEMPLATE_WRITE. -/
def execFlowTemplateWrite (r : Req) (s : State) : Host.Outcome State Fault Refusal :=
  .next (runToune Op.flowTemplateWrite bodyFlowTemplateWrite r s)
/-- FLOW_TEMPLATE_READ. -/
def execFlowTemplateRead (r : Req) (s : State) : Host.Outcome State Fault Refusal :=
  .next (runToune Op.flowTemplateRead bodyFlowTemplateRead r s)

end Sys2Proof.Machine
end

