-- ==== Sys2Proof/Machine/Items.lean ====
section
/-! DEFINITION. The items of the flow-access commands, each an operation on its key: reading, writing, modifying and deleting
records, and releasing punts (R256 to R261, R307, R620). -/

namespace Sys2Proof.Machine

/-! ### Outcomes (R257) -/

/-- Outcome codes of R257. -/
def oDone : Nat := 0
def oAbsent : Nat := 1
def oPresent : Nat := 2
def oNoroom : Nat := 3
def oRefused : Nat := 4
def oTagBad : Nat := 5
def oNoPunt : Nat := 6

/-- A result of 4 bytes: outcome and tier (R620). -/
def out4 (o tier : Nat) : List Byte := le 1 o ++ le 1 tier ++ le 2 0

/-- A result of FLOW_READ (R258). -/
def outRead (o tier : Nat) (e : List Byte) : List Byte := le 1 o ++ le 1 tier ++ le 2 e.length ++ le 4 0 ++ e

/-! ### Keys and records as supplied -/

/-- Is a 48-byte key field outside the layout of R206 and R620? -/
def keyBad (k : List Byte) : Bool :=
  match keyType k with
  | 0x01 => !zeros k 16 32
  | 0x02 => !zeros k 16 32 || rd k 9 1 > 15 || rd k 15 1 != 0
  | 0x11 => rd k 0x28 1 > 15 || !zeros k 0x2B 5
  | _ => true

/-- The key that a 48-byte field holds. -/
def keyIn (k : List Byte) : List Byte := if keyType k = 0x11 then k else k.take 16

/-- Is a program of the image in force marked wide_only (R222)? -/
def wideOnly (s : State) (p : Nat) : Bool :=
  match s.flow.prog with | some b => progWide b p | none => false

/-- Are the bytes of an action area that its kind does not use, or its reserved bits, not zero (R213)? -/
def actBad (kind : Nat) (a : List Byte) : Bool :=
  let member := rd a 8 4 % 0x80000000 > 131071
  match kind with
  | 0 => !zeros a 0 28
  | 1 => !zeros a 0 8 || member || !zeros a 12 16
  | 4 => rd a 6 2 > 4095 || member || rd a 0x10 1 > 1 || !zeros a 0x11 11
  | _ => rd a 6 2 > 4095 || member || !zeros a 12 16

/-- Does a record of FLOW_WRITE fail a check that concerns it alone (R211 to R213, R218, R259)? -/
def writeBad (s : State) (e : List Byte) (len : Nat) : Bool :=
  let c := ctl e
  isPtr e || keyBad (padTo 48 (if keyType e = 0x11 then e.take 48 else e.take 16)) || len != entryLen e || e.length != len ||
  c % 2 == 0 || c / 2 ^ 27 != 0 || verdictOf e == 3 || !kindFits (actKind e) (keyType e) ||
  intervalBad (intervalOf e) (isPinned e) || (!isWide e && wideOnly s (progOf e)) || actBad (actKind e) (actOfRec e) ||
  (isWide e && rd e 0x5E 2 != 0)

/-! ### Placing -/

/-- Take an entry out of its turf slot. -/
def clearTurf (n k : Nat) (e : List Byte) (s : State) : State :=
  modSl n (fun x => sumClear (k / 16) (k % 16) (entrySlots e) { x with turf := terase x.turf k }) s

/-- Bring an entry into the Hearth, as pinning asks: its place there, or none without room (R275). -/
def toHearth (n : Nat) (d : Dword) (p : Place) (e : List Byte) (s : State) : State × Option Place :=
  let slot : State × Option Nat :=
    if p.tier = 1 then (s, some p.idx)
    else match stackInsert n d e s with
      | (s1, some k) => (clearTurf n p.idx e s1, some k)
      | (s1, none) => (s1, none)
  if p.tier = 0 then (s, some p)
  else match slot with
    | (s1, some k) =>
      let (s2, ok) := hearthInstall n d e k false false s1
      (s2, if ok then (wayOf (slAt s2 n) d).map (fun w => ⟨0, w⟩) else none)
    | (s1, none) => (s1, none)

/-- Judge and carry out a pin of an entry that is not yet pinned: the state, and the place in the Hearth (R275). -/
def pinEntry (n : Nat) (d : Dword) (p : Place) (e : List Byte) (s : State) : State × Option Place :=
  match pinRefusal s n d (entrySlots e) (p.tier == 0) with
  | some why => (pinRefuse n why s, none)
  | none => toHearth n d p e s

/-- The pair of a record that FLOW_WRITE stores: kept from the record replaced, newly allocated, or none to be had; for other
kinds the record as supplied (R307). -/
def writePair (n : Nat) (old : Option (List Byte)) (e : List Byte) (s : State) : State × Option (List Byte) :=
  let put := fun (a q : Nat) => splice (splice e (actOff e) (be 4 a)) (actOff e + 4) (be 2 q)
  if !(actKind e == 2 || actKind e == 4) then (s, some e)
  else
    let keeps := match old with
      | some o => actKind o == actKind e && poolOf o == poolOf e
      | none => false
    match keeps, old with
    | true, some o => (s, some (put (transAddr o) (transPort o)))
    | _, _ => match poolDef s (poolOf e) with
      | none => (s, none)
      | some d =>
        if poolKind d ≠ 0 then (s, none)
        else match allocPairNow n (poolOf e) d s with
          | (s1, some j) => (s1, some (put (pairAt d n j).1 (pairAt d n j).2))
          | (s1, none) => (s1, none)

/-! ### The items -/

/-- A search of a host item has needed memory that is away: nothing is written, and the outcome that the manual does not state is
a free value. -/
def itemAway (s : State) : State × Nat := (drawn s, (freeBits 8 s).toNat)

/-- An item of FLOW_READ: a cold record is read in place (R256, R258). -/
def itemRead (n : Nat) (d : Dword) (b : List Byte) (s : State) : State × List Byte :=
  match seekIn n d (some (keyIn b)) false s with
  | (s1, .hit _ e, t) => (s1, if isPtr b && !isPtr e then outRead oAbsent 3 [] else outRead oDone t e)
  | (s1, .away _ _, _) => let (s2, o) := itemAway s1; (s2, outRead o 3 [])
  | (s1, _, _) => (s1, outRead oAbsent 3 [])

/-- Bytes of the result that an item of FLOW_READ would have (R258). -/
def readLen (s : State) (n : Nat) (d : Dword) (b : List Byte) : Nat :=
  match locate s n d (some (keyIn b)) with
  | .hit _ e => if isPtr b && !isPtr e then 8 else 8 + e.length
  | _ => 8

/-- A FLOW_WRITE item that creates its record (R209, R259, R275, R281, R307). -/
def writeNew (n : Nat) (d : Dword) (e : List Byte) (bind : Bool) (s : State) : State × List Byte :=
  let stop := fun (s : State) (o : Nat) => (s, out4 o 3)
  if (anyDigest s n d).isSome then
    stop (raise Ev.flowDigestClash (le 1 n ++ le 8 d.toNat) (slCount n 0x43 1 s)) oRefused
  else match (if isPinned e then pinRefusal s n d (entrySlots e) false else none) with
    | some why => stop (pinRefuse n why s) oNoroom
    | none =>
      if !stackRoom s n d (entrySlots e) then stop s oNoroom
      else match writePair n none e s with
        | (s1, none) => stop s1 oNoroom
        | (s1, some e1) =>
          let e2 := withTag e1
          match stackInsert n d e2 s1 with
          | (s2, none) => stop s2 oNoroom
          | (s2, some k) =>
            let s3 := if isPinned e2 then (hearthInstall n d e2 k false false s2).1 else s2
            let s4 := emitDelta n d none (some e2) s3
            (if bind then sendInstall n d e2 s4 else s4, out4 oDone (if isPinned e2 then 0 else 1))

/-- A FLOW_WRITE item that replaces a record (R259, R307). -/
def writeOver (n : Nat) (d : Dword) (p : Place) (old e : List Byte) (bind : Bool) (s : State) : State × List Byte :=
  let pin := if isPinned e && !isPinned old then pinEntry n d p old s else (s, some p)
  match pin with
  | (s1, none) => (s1, out4 oNoroom p.tier)
  | (s1, some q) =>
    match writePair n (some old) e s1 with
    | (s2, none) => (s2, out4 oNoroom p.tier)
    | (s2, some e1) =>
      let keeps := pairOf s2 old == pairOf s2 e1
      let s3 := unbindRecord s d old (wheelDrop n d (if keeps then s2 else releasePair n old s2))
      let s4 := commitRecord n d q false (some old) e1 s3
      (if bind then sendInstall n d e1 s4 else s4, out4 oDone q.tier)

/-- An item of FLOW_WRITE (R257, R259). -/
def itemWrite (n : Nat) (d : Dword) (b : List Byte) (s : State) : State × List Byte :=
  let mode := rd b 0 1
  let bind := bitOf (rd b 1 1) 0
  let e := b.drop 8
  if !tagOk e then (s, out4 oTagBad 3)
  else if writeBad s e (rd b 2 2) then (s, out4 oRefused 3)
  else
    let e1 := putCtl (setBits (setBits (setBits (ctl e) 3 3 0) 7 7 0) 26 25 1) e
    match seek n d (some (keyOf e)) false s with
    | (s1, .away _ _) => let (s2, o) := itemAway s1; (s2, out4 o 3)
    | (s1, .hit p old) =>
      if mode = 0 then (s1, out4 oPresent p.tier)
      else if isPtr old then (s1, out4 oRefused p.tier)
      else writeOver n d p old e1 bind s1
    | (s1, _) => if mode = 1 then (s1, out4 oAbsent 3) else writeNew n d e1 bind s1

/-- Offsets in an item of FLOW_MODIFY: mask, control, interval, scratch (R620). -/
def modMask (b : List Byte) : Nat := rd b 48 4
def modCtl (b : List Byte) : Nat := rd b 52 4
def modIv (b : List Byte) : Nat := rd b 56 2
def modScr (b : List Byte) (w : Nat) : Nat := rd b (60 + 2 * w) 2

/-- Does an item of FLOW_MODIFY fail a check that concerns it alone (R212, R218, R256, R260)? -/
def modifyBad (s : State) (b : List Byte) : Bool :=
  let m := modMask b
  let c := modCtl b
  let compact := keyType b != 0x11
  isPtr b || (bitOf m 5 && bitsOf c 21 20 == 3) || (bitOf m 2 && bitsOf c 6 4 > 4) ||
  (bitOf m 7 && modIv b % 16384 == 0 && modIv b / 16384 != 0) ||
  (compact && (bitsOf m 15 9 != 0 || (bitOf m 3 && wideOnly s (bitsOf c 15 8))))

/-- The control word after a FLOW_MODIFY (R260). -/
def modifiedCtl (b : List Byte) (c : Nat) : Nat :=
  [(0, 1, 1), (1, 2, 2), (2, 6, 4), (3, 15, 8), (4, 19, 16), (5, 21, 20), (6, 24, 22)].foldl
    (fun c f => if bitOf (modMask b) f.1 then setBits c f.2.1 f.2.2 (bitsOf (modCtl b) f.2.1 f.2.2) else c) c

/-- The record after a FLOW_MODIFY (R213, R260, R323). -/
def modified (b e : List Byte) : List Byte :=
  let m := modMask b
  let e1 := putCtl (modifiedCtl b (ctl e)) e
  let e2 := if actKind e1 = 0 ∧ actKind e ≠ 0 then putAct [] e1 else e1
  let e3 := if bitOf m 7 then splice e2 (ivOff e2) (le 2 (modIv b)) else e2
  let e4 := if bitOf m 7 && modIv b % 16384 == 0 then putCtlField 7 7 0 e3 else e3
  (List.range 8).foldl (fun e w => if bitOf m (8 + w) then putScr w (modScr b w) e else e) e4

/-- An item of FLOW_MODIFY (R257, R260, R261, R275). -/
def itemModify (n : Nat) (d : Dword) (b : List Byte) (again : Bool) (s0 : State) : State × List Byte :=
  if modifyBad s0 b then (s0, out4 oRefused 3)
  else match seekIn n d (some (keyIn b)) again s0 with
    | (s, .away _ _, _) => let (s1, o) := itemAway s; (s1, out4 o 3)
    | (s, .hit p e, t) =>
      let e1 := modified b e
      let kinds := actKind e1 != actKind e && (actKind e1 > 1 || actKind e > 1)
      if isPtr e || kinds || (intervalOf e1 % 16384 != 0 && !isPinned e1) then (s, out4 oRefused t)
      else
        let pin := if isPinned e1 && !isPinned e then pinEntry n d p e s else (s, some p)
        match pin with
        | (s1, none) => (s1, out4 oNoroom t)
        | (s1, some q) =>
          let s2 := if bitOf (modMask b) 7 && modIv b % 16384 == 0 then wheelDrop n d s1 else s1
          (commitRecord n d q false (some e) e1 s2, out4 oDone t)
    | (s, _, _) => (s, out4 oAbsent 3)

/-- An item of FLOW_DELETE (R254, R256, R257). -/
def itemDelete (n : Nat) (d : Dword) (b : List Byte) (s : State) : State × List Byte :=
  if isPtr b then (s, out4 oRefused 3)
  else match seek n d (some (keyIn b)) false s with
    | (s1, .away _ _) => let (s2, o) := itemAway s1; (s2, out4 o 3)
    | (s1, .hit p e) => if isPtr e then (s1, out4 oRefused p.tier) else (deleteRecord n d p 1 e s1, out4 oDone p.tier)
    | (s1, _) => (s1, out4 oAbsent 3)

/-- Does a pending punt hold the key: its first parked operation has it (R251)? -/
def puntOf (s : State) (n : Nat) (d : Dword) (key : List Byte) : Bool :=
  (slAt s n).punts.any (fun p => p.digest == d) &&
  (match flightAt s n d with
   | some f => (match f.ops with | op :: _ => op.key == some (plainKey key) | [] => false)
   | none => false)

/-- An item of FLOW_PUNT_RELEASE (R252, R257): verdict 0 is DENY, 1 PASS-STATELESS. -/
def itemRelease (n : Nat) (d : Dword) (b : List Byte) (s : State) : State × List Byte :=
  if isPtr b then (s, out4 oRefused 3)
  else if puntOf s n d (keyIn b) then (resolvePunt n d (if rd b 48 1 = 1 then 0 else 1) s, out4 oDone 3)
  else (s, out4 oNoPunt 3)

/-- Run one item of a host command by its opcode. -/
def runItem (opcode n : Nat) (d : Dword) (b : List Byte) (again : Bool) (s : State) : State × List Byte :=
  if opcode = Op.flowRead then itemRead n d b s
  else if opcode = Op.flowWrite then itemWrite n d b s
  else if opcode = Op.flowModify then itemModify n d b again s
  else if opcode = Op.flowDelete then itemDelete n d b s
  else itemRelease n d b s

/-- The key of an item, by its command (R620). -/
def itemKey (opcode : Nat) (b : List Byte) : List Byte :=
  if opcode = Op.flowWrite then keyOf (b.drop 8) else plainKey (keyIn b)

/-- Bytes of a FLOW_READ response so far: its prefix and the results (R258). -/
def readUsed (c : HostCmd) : Nat := c.results.foldl (fun a r => a + r.2.length) 8

/-- Run an item of a host command in progress and keep its result; an item of FLOW_READ whose result does not fit is not executed,
nor any behind it (R258). -/
def runHost (cmd item n : Nat) (d : Dword) (again : Bool) (s : State) : State :=
  match tfind s.flow.cmds cmd with
  | none => s
  | some c =>
    let b := c.items.getD item []
    if c.opcode = Op.flowRead ∧ readUsed c + readLen s n d b > 4064 then
      s.setFlow { s.flow with cmds := tput s.flow.cmds cmd { c with stopped := true } }
    else
      let (s1, r) := runItem c.opcode n d b again s
      s1.setFlow { s1.flow with cmds := tput s1.flow.cmds cmd { c with results := tput c.results item r } }

/-! ### Completion -/

/-- The response payload of a command: the results of the items executed (R258, R620). -/
def cmdPayload (c : HostCmd) : List Byte :=
  le 2 c.items.length ++ le 2 c.results.length ++ le 4 0 ++ (c.results.map (·.2)).flatten

/-- Has every item of a command run that is to run (R256, R258)? -/
def cmdDone (c : HostCmd) : Bool := c.stopped || c.results.length == c.items.length

end Sys2Proof.Machine
end

