-- ==== Sys2Proof/Machine/Apply.lean ====
section
/-! DEFINITION. The background operations other than host items: sweeps, repins, expiries, and what a standby applies (R255,
R314, R321, R544, R546). -/

namespace Sys2Proof.Machine

/-! ### Sweep and repin -/

/-- Does a record match the criteria of a sweep (R255)? -/
def sweepMatch (s : State) (a e : List Byte) : Bool :=
  let care := rd a 2 2
  !isPtr e && (Nat.land (Nat.xor (keyZone e) (rd a 0 2)) care == 0) && (rd a 4 1 == 0 || rd a 4 1 == keyType e) &&
  (bitOf (rd a 5 1) 0 || !isPinned e) && tickDiff s.tick.count (lastTickOf e) ≥ (rd a 8 6 : Int)

/-- Account an issued operation of the running pass: `k` records changed. -/
def passDone (k : Nat) (s : State) : State :=
  match s.flow.sweep with
  | some p => s.setFlow { s.flow with sweep := some { p with out := p.out - 1, changed := p.changed + k } }
  | none => s

/-- A conditional deletion of the sweep: the idle condition is checked again (R255). -/
def runSweep (n : Nat) (d : Dword) (s : State) : State :=
  match s.flow.sweep, seek n d none false s with
  | some pass, (s1, .hit p e) =>
    if sweepMatch s1 pass.arg e then passDone 1 (deleteRecord n d p 2 e s1) else passDone 0 s1
  | _, (s1, _) => passDone 0 s1

/-- Does a record hold the member that a repin replaces (R314)? -/
def repinMatch (a e : List Byte) : Bool := !isPtr e && actKind e != 0 && (memberOf e).toNat == rd a 0 4

/-- The slices' member of a load-spread table (R199, R230). -/
def sliceMember (s : State) (table idx : Nat) : Word :=
  tgetD (fun _ => 0) s.path.sliceSpread (4096 * table + idx % 2 ^ (regField s 12 0 (0x40 + table) 3 0))

/-- The member that a repin writes (R314). -/
def repinMember (s : State) (a : List Byte) (d : Dword) : Word :=
  match rd a 8 1 with
  | 0 => BitVec.ofNat 32 (rd a 4 4)
  | 1 => sliceMember s (rd a 9 1) (bitsOf d.toNat 43 32)
  | _ => 0

/-- A conditional change of member, in the tier that holds the record; a member of a table is read in the service region of the table's
pseudo-channel (R40, R314, R404). -/
def runRepin (n : Nat) (d : Dword) (s : State) : State :=
  match s.flow.sweep, seek n d none false s with
  | some pass, (s1, .hit p e) =>
    if repinMatch pass.arg e then
      let s2 := if rd pass.arg 8 1 = 1 then useSvc n (rd pass.arg 9 1 % 8) 1 s1 else s1
      passDone 1 (commitRecord n d p false (some e) (splice e (actOff e + 8) (le 4 (repinMember s1 pass.arg d).toNat)) s2)
    else passDone 0 s1
  | _, (s1, _) => passDone 0 s1

/-! ### Expiry -/

/-- Does the program of a record store the silence verdict (R321, R324)? -/
def silences (s : State) (e : List Byte) : Bool :=
  bitOf (reg s 13 16 (0x20 + progOf e / 32)).toNat (progOf e % 32)

/-- An expiry operation: a stored SILENT stays, which no expiry clears (R317, R321). -/
def runExpiry (n : Nat) (d : Dword) (deadline : Tick) (again : Bool) (s : State) : State :=
  match wheelOf (slAt s n) d with
  | none => s
  | some w =>
    if !(w.fired && w.deadline == deadline) then s
    else match seekIn n d none again s with
      | (s1, .hit p e, _) =>
        let e1 := putCtlField 7 7 0 e
        commitRecord n d p false (some e)
          (if silences s1 e && verdictOf e != 2 then putCtlField 21 20 (regField s1 13 16 0x28 1 0) e1 else e1) s1
      | (s1, _, _) => s1

/-! ### Application on a standby -/

/-- The record that a RECORD or WIDE delta carries, with its counters at zero and its ticks converted (R543, R544). -/
def deltaRecord (s : State) (b : List Byte) : List Byte :=
  let at' := fun o k => (b.drop o).take k
  let tick := fun o => le 6 (BitVec.ofNat 48 (rd b o 6) + s.twin.offset).toNat
  if rd b 0 1 = 3 then
    at' 8 40 ++ at' 50 2 ++ at' 52 4 ++ at' 56 2 ++ at' 58 4 ++ at' 62 28 ++ le 16 0 ++ le 16 0 ++ tick 90 ++ tick 90 ++
    at' 2 2 ++ le 2 0
  else
    at' 8 16 ++ at' 0x18 4 ++ at' 0x1C 12 ++ le 14 0 ++ at' 0x2E 2 ++ tick 0x28 ++ tick 0x28 ++ at' 2 2 ++ le 2 0

/-- An existing record with the fields that a delta carries (R544). -/
def deltaOnto (new old : List Byte) : List Byte :=
  let e1 := putCtl (ctl new) old
  let e2 := putAct (actOfRec new) e1
  let e3 := splice (splice e2 (firstOff e2) (le 6 (firstTickOf new).toNat)) (ivOff e2) (le 2 (intervalOf new))
  if isWide old then e3 else putScr 0 (scrOf new 0) e3

/-- A delta that finds no room, or cannot be applied (R541, R544). -/
def applyNoroom (n : Nat) (s : State) : State :=
  let s1 := raiseLimited Ev.twinApplyNoroom n (fun k => le 1 n ++ le 4 k) (bump32 23 0 0x13 1 s)
  s1.setTwin { s1.twin with pair := .outOfSync }

/-- Act on the bound bit of an applied record: its pointer is installed on this device (R216, R544). -/
def applyBound (n : Nat) (d : Dword) (wanted : Bool) (e : List Byte) (s : State) : State :=
  if wanted then sendInstall n d e s else s

/-- A delta creates its record (R275, R281, R544). -/
def applyNew (n : Nat) (d : Dword) (new : List Byte) (s : State) : State :=
  let e := withTag (putCtlField 26 25 3 (putCtlField 3 3 0 new))
  if (anyDigest s n d).isSome then applyNoroom n s
  else match (if isPinned e then pinRefusal s n d (entrySlots e) false else none) with
    | some why => applyNoroom n (pinRefuse n why s)
    | none =>
      match stackInsert n d e s with
      | (s1, none) => applyNoroom n s1
      | (s1, some k) =>
        let s2 := if isPinned e then (hearthInstall n d e k false false s1).1 else s1
        applyBound n d (isBound new) e (markPair n e s2)

/-- Apply a RECORD or WIDE delta (R544). -/
def applyRecord (n : Nat) (b : List Byte) (again : Bool) (s0 : State) : State :=
  let new := deltaRecord s0 b
  let d := digestOf s0 (keyOf new)
  match seekIn n d (some (keyOf new)) again s0 with
  | (s, .away _ _, _) => applyNoroom n s
  | (s, .hit p old, _) =>
    if isPtr old then applyNoroom n s
    else
      let e := deltaOnto new old
      let same := pointerDigest s e == pointerDigest s old
      let e1 := putCtlField 3 3 (b2n (isBound new && isBound old && same)) e
      let pin := if isPinned e && !isPinned old then pinEntry n d p old s else (s, some p)
      match pin with
      | (s1, none) => applyNoroom n s1
      | (s1, some q) =>
        let s2 := if pairOf s1 old == pairOf s1 e then s1 else markPair n e (releasePair n old s1)
        let s3 := if same && isBound new then s2 else unbindRecord s d old s2
        applyBound n d (isBound new && !(isBound old && same)) e1 (commitRecord n d q false (some old) e1 s3)
  | (s, _, _) => applyNew n d new s

/-- Apply a DELETE delta: no journal entry, no delta; the record's pair is released (R253, R544). -/
def applyDeleteDelta (n : Nat) (b : List Byte) (s : State) : State :=
  let d := BitVec.ofNat 64 (rd b 8 8)
  match seek n d none false s with
  | (s1, .hit _ e) => if isPtr e then s1 else removeRecord n d e s1
  | (s1, .away _ _) => applyNoroom n s1
  | (s1, _) => s1

/-- Note the last sequence applied of a die (R544), or a bulk record. -/
def noteApplied (die : Nat) (last : Option Word) (s : State) : State :=
  match last with
  | some q => s.setTwin (if die = 0 then { s.twin with applied0 := q } else { s.twin with applied1 := q })
  | none => s

/-- Apply a delta or a bulk record (R544, R547). -/
def runDelta (n die : Nat) (b : List Byte) (last : Option Word) (again : Bool) (s : State) : State :=
  noteApplied die last (if rd b 0 1 = 2 then applyDeleteDelta n b s else applyRecord n b again s)

/-- The FOLLOW item of a record (R546). -/
def followItem (n : Nat) (d : Dword) (e : List Byte) : List Byte :=
  le 8 d.toNat ++ le 5 (pktsOf e) ++ le 6 (bytesOf e) ++ le 3 (deniesOf e) ++ le 6 (lastTickOf e).toNat ++ le 2 (scrOf e 0) ++
  le 2 n

/-- Apply a FOLLOW item: its fields are written into the record named by the digest (R546). -/
def runFollow (n : Nat) (b : List Byte) (again : Bool) (s0 : State) : State :=
  let d := BitVec.ofNat 64 (rd b 0 8)
  match seekIn n d none again s0 with
  | (s, .hit p e, _) =>
    if isPtr e then s
    else
      let e1 := splice e (pktsOff e) ((b.drop 8).take 14)
      let e2 := putLastTick (BitVec.ofNat 48 (rd b 0x16 6) + s.twin.offset) e1
      commitRecord n d p false (some e) (putScr 0 (rd b 0x1C 2) e2) s
  | (s, _, _) => s

/-- Read a listed record and send its FOLLOW item, one of the 1,024 of a tick (R44, R546). -/
def runFollowRead (n : Nat) (d : Dword) (s : State) : State :=
  match seek n d none false s with
  | (s1, .hit _ e) =>
    if isPtr e then s1
    else dieSend (n / 8) 4 (followItem n d e) (useLink 32 (s1.setTwin { s1.twin with followUse := s1.twin.followUse + 1 }))
  | (s1, _) => s1

/-! ### Any background operation -/

/-- Run one background operation on its digest in slice `n`; with `again` it has been held since its lookup (R241, R285). -/
def runBg (n : Nat) (op : FlowOp) (again : Bool) (s : State) : State :=
  let d := op.digest
  let s := if again then s else slEvent n 0x3201 1 s
  match op.kind with
  | .packet _ => s
  | .forward _ => s
  | .host c i => runHost c i n d again s
  | .sweep => runSweep n d s
  | .repin => runRepin n d s
  | .expiry t => runExpiry n d t again s
  | .install m primary ptr =>
    let (s1, code) := runInstall n d (op.key.getD []) ptr s
    modSl m (fun x => { x with acks := x.acks ++ [{ kind := .bindAck code d, key := none, digest := primary }] }) s1
  | .unbind primary => removePtr d primary s
  | .bindAck code pd => runBindAck n d code pd again s
  | .delta b die last => runDelta n die b last again s
  | .follow b => runFollow n b again s
  | .followRead => runFollowRead n d s

/-- Does a background operation that finds its record in a turf wait for the record's promotion: one that changes it, but for the
writes, deletions and member changes that keep a cold record where it is (R245, R256, R259, R285, R314; log 56)? -/
def parks (s : State) (op : FlowOp) : Bool :=
  match op.kind with
  | .host c _ => (match tfind s.flow.cmds c with | some x => x.opcode == Op.flowModify | none => false)
  | .expiry _ => true
  | .bindAck code _ => code == 0
  | .delta b _ _ => rd b 0 1 != 2
  | .follow _ => true
  | .packet _ | .forward _ | .sweep | .repin | .install _ _ _ | .unbind _ | .followRead => false

/-- The turf slot and entry that a background operation would wait for. -/
def coldHit (s : State) (n : Nat) (op : FlowOp) : Option (Nat × List Byte) :=
  if parks s op then
    match locate s n op.digest op.key with
    | .hit ⟨2, k⟩ e => if isPtr e then none else some (k, e)
    | _ => none
  else none

end Sys2Proof.Machine
end

