-- ==== Sys2Proof/Machine/Slices.lean ====
section
/-! DEFINITION. The in-flight table at work: acceptance, lookups tier by tier, misses, creations, punts and the execution of
programs (chapter 10, R285, R295). -/

namespace Sys2Proof.Machine

/-! ### Misses and punts -/

/-- The disposition of an operation where CREATE and PUNT are taken as DENY (R216, R295). -/
def mildDisp (disp : Nat) : Nat := if disp = 3 then 3 else 2

/-- The disposition that an operation meets on a miss: a forwarded one creates and punts nothing (R216, R249). -/
def missDisp (op : FlowOp) : Nat :=
  match op.kind with
  | .packet q => q.disp
  | .forward q => mildDisp q.disp
  | _ => 2

/-- Take a punt entry for the operation in hand, or give it full_disp when the table is full (R251).  Answers whether the
operation has left. -/
def puntOp (n : Nat) (op : FlowOp) (s : State) : State × Bool :=
  let x := slAt s n
  let d := op.digest
  if x.punts.length < 512 then
    let s1 := slCount n 0x49 1 (setSl n { x with punts := x.punts ++ [{ digest := d, since := s.tick.count }] } s)
    (postItem (n / 8) (.flowMiss n d.toNat) (setPhase n d .punted s1), false)
  else
    let s1 := setSl n { x with puntEpisode := true } s
    let s2 := if x.puntEpisode then s1 else raise Ev.puntFull (le 1 n ++ le 8 s.tick.count.toNat) s1
    if regField s 13 n 4 19 18 = 1 then (answer n op 0 (slCount n 0x48 1 s2), true)
    else (answer n op 1 (slCount n 0x47 1 s2), true)

/-- The overflow action of a template applies to the operation in hand (R48, R249). -/
def overflowOp (n : Nat) (op : FlowOp) (action : Nat) (s : State) : State × Bool :=
  let s1 := slCount n 0x46 1 s
  match action with
  | 0 => (answer n op 1 s1, true)
  | 1 => (answer n op 0 s1, true)
  | _ => puntOp n op s1

/-- The overflow action of template `t`: DENY for an invalid one (R250). -/
def overflowOf (s : State) (t : Nat) : Nat :=
  let b := templateAt s t
  if bitOf (rd b 1 1) 0 then rd b 7 1 % 4 else 0

/-- The template that an operation names. -/
def FlowOp.template (op : FlowOp) : Nat := match op.req with | some q => q.template | none => 0

/-- An operation found in no tier meets its disposition (R249). -/
def missOp (n : Nat) (op : FlowOp) (s0 : State) : State × Bool :=
  let s := slEvent n 0x3205 1 s0
  match missDisp op with
  | 0 =>
    let x := slAt s n
    if x.createQ.length < 1024 then
      (setPhase n op.digest (.createQ s.tick.count) (setSl n { x with createQ := x.createQ ++ [op.digest] } s), false)
    else overflowOp n op (overflowOf s op.template) (raise Ev.createOverflow (le 1 n ++ le 2 op.template) s)
  | 1 => puntOp n op s
  | 3 => (answer n op 0 (slCount n 0x48 1 s), true)
  | _ => (answer n op 1 (slCount n 0x47 1 s), true)

/-- An operation whose lookup needs memory that is away (R295). -/
def awayOp (n cls inst : Nat) (op : FlowOp) (s : State) : State × Bool :=
  let disp := match op.req with | some q => mildDisp q.disp | none => 2
  (answer n op (if disp = 3 then 0 else 1) (tierAway n cls inst s), true)

/-- A read finds a bad tag: the result is SILENT (R220). -/
def badOp (n : Nat) (op : FlowOp) (p : Place) (e : List Byte) (s : State) : State × Bool :=
  (answer n op 2 (tagError n op.digest p e s), true)

/-- A forward enters the forward FIFO of slice `m`, from which its packet now awaits its result (R238, R242, R247). -/
def enterForward (m : Nat) (primary : Dword) (q : FlowReq) (s : State) : State :=
  let s1 := modSl m (fun x => { x with forwards := x.forwards ++ [{ kind := .forward q, key := none, digest := primary }] }) s
  match pktAt s1 q.pkt with
  | some x => putPkt q.pkt { x with slice := m } s1
  | none => s1

/-- A packet finds a reverse pointer: its forward goes to the primary's home; while the FIFO there is full, the pointer's entry holds it
(R238, R245). -/
def forwardOp (n : Nat) (op : FlowOp) (e : List Byte) (s : State) : State × Bool :=
  match op.kind with
  | .packet q =>
    let m := ptrHome e
    let s1 := slEvent n 0x3206 1 (slCount n 0x4C 1 s)
    if (slAt s m).forwards.length < 64 then (enterForward m (ptrDigest e) q s1, true)
    else
      let s2 := setPhase n op.digest (.forwarding m (ptrDigest e)) s1
      (s2.setFlow { s2.flow with fwdWait := s2.flow.fwdWait ++ [(n, op.digest)] }, false)
  | _ => missOp n op s

/-- An operation has found its entry (R245): a record is executed, a pointer forwards. -/
def foundOp (n : Nat) (op : FlowOp) (p : Place) (e : List Byte) (s : State) : State × Bool :=
  let s1 := slEvent n (0x3202 + p.tier) 1 s
  if isPtr e then forwardOp n op e s1 else (setPhase n op.digest (.execute p.tier p.idx false) s1, false)

/-! ### Lookup -/

/-- Accesses to the summary for an operation: doubled for a wide key (R262). -/
def opWidth (op : FlowOp) : Nat := match op.key with | some k => (if keyType k = 0x11 then 2 else 1) | none => 1

/-- Step 1 of a lookup: the Hearth set, then the Stack probe is sent (R273, R285).  Answers whether the operation has left. -/
def startLookup (n : Nat) (op : FlowOp) (u : ReadUpset) (s : State) : State × Bool :=
  let x := slAt s n
  match hearthFind x op.digest op.key with
  | some (k, w) =>
    (match readCopy x 0 k u w.entry with
     | some e => foundOp n op ⟨0, k⟩ e (touchWay n k s)
     | none => badOp n op ⟨0, k⟩ w.entry s)
  | none =>
    let b := bucket0 (stackBuckets s) op.digest
    if chanIn s n b then (setPhase n op.digest .probe s, false)
    else awayOp n 14 (8 * n + b % 8) op s

/-- Steps 3 and 4 begin: the summary is to be read where the slice has a cold tier, otherwise the operation misses (R282, R285). -/
def stackMissed (n : Nat) (op : FlowOp) (s : State) : State × Bool :=
  if coldTier s n then (setPhase n op.digest .summary s, false) else missOp n op s

/-- The reply of the Stack probe, which takes one access, two for a wide match (R262, R273, R274, R279, R296). -/
def probeReply (n : Nat) (op : FlowOp) (u : ReadUpset) (s : State) : State × Bool :=
  let b := bucket0 (stackBuckets s) op.digest
  if !chanIn s n b then awayOp n 14 (8 * n + b % 8) op s
  else match stackFind s (slAt s n) op.digest op.key with
    | none => stackMissed n op (useBucket n b 1 true s)
    | some k =>
      let e := (tfind (slAt s n).stack k).getD []
      let s1 := useBucket n b (entrySlots e) true s
      match readCopy (slAt s n) 1 k u e with
      | none => badOp n op ⟨1, k⟩ e s1
      | some e' => foundOp n op ⟨1, k⟩ e' (hearthInstall n op.digest e' k false true s1).1

/-- A summary that cannot be read awaits its rebuilding (R296). -/
def spoilSummary (n b : Nat) (s : State) : State :=
  modSl n (fun x => { x with
    badSums := if x.badSums.contains b then x.badSums else x.badSums ++ [b]
    upsets := x.upsets.filter (fun u => !(u.tier == 3 && u.idx == b)) }) s

/-- The cold summary is read (R285, R295, R296). -/
def summaryRead (n : Nat) (op : FlowOp) (ue : Bool) (s : State) : State × Bool :=
  let b := bucket0 (stackBuckets s) op.digest
  if !chanIn s n b then awayOp n 14 (8 * n + b % 8) op s
  else
    let s1 := useBucket n b (opWidth op) true s
    if ue || sumBad (slAt s n) b then awayOp n 14 (8 * n + b % 8) op (spoilSummary n b s1)
    else match turfCands s1 (slAt s1 n) op.digest with
      | [] => missOp n op s1
      | ks => if inService s1 15 n then (setPhase n op.digest (.turf ks) s1, false) else awayOp n 15 n op s1

/-- The operation in hand is parked in the hold queue of 4,096 with its entry as read (R48, R285). -/
def holdOp (n : Nat) (op : FlowOp) (k : Nat) (e : List Byte) (s : State) : State × Bool :=
  let x := slAt s n
  let q := x.holdQ ++ [op.digest]
  let full := q.length ≥ 4096
  let s1 := setSl n { x with holdQ := q, holdEpisode := x.holdEpisode || full } (slEvent n 0x3204 1 s)
  let s2 := if full && !x.holdEpisode then raise Ev.holdFull (le 1 n ++ le 8 s.tick.count.toNat) s1 else s1
  (setPhase n op.digest (.hold k e s.tick.count) s2, false)

/-- Does an entry answer an operation: by key, or by digest where the operation names one? -/
def answers (s : State) (op : FlowOp) (e : List Byte) : Bool :=
  match op.key with
  | some q => keyOf e == plainKey q
  | none => digestOf s (keyOf e) == op.digest

/-- A turf candidate is read; one of another key costs one read, and one that is held waits for room in the hold queue (R48, R285,
R294, R296). -/
def candidateRead (n : Nat) (op : FlowOp) (ks : List Nat) (u : ReadUpset) (s : State) : State × Bool :=
  match ks with
  | [] => missOp n op s
  | k :: rest =>
    if !inService s 15 n then awayOp n 15 n op s
    else
      let next := fun (s : State) =>
        let s1 := slCount n 0x54 1 (useTurf n 1 s)
        if rest = [] then missOp n op s1 else (setPhase n op.digest (.turf rest) s1, false)
      match tfind (slAt s n).turf k with
      | none => next s
      | some e => match readCopy (slAt s n) 2 k u e with
        | none => badOp n op ⟨2, k⟩ e (useTurf n (entrySlots e) s)
        | some e' =>
          if !answers s op e' then next s
          else if (slAt s n).holdQ.length ≥ 4096 then (s, false)
          else holdOp n op k e' (useTurf n (entrySlots e) s)

/-! ### The wait lists -/

/-- A background operation runs, or waits in the hold queue where its record is cold and the queue has room (R245, R285).  Answers
whether it has left. -/
def bgStep (n : Nat) (op : FlowOp) (s : State) : State × Bool :=
  match coldHit s n op with
  | some (k, e) =>
    if (slAt s n).holdQ.length < 4096 then
      holdOp n op k e (lookupWork n op.digest op.key (.hit ⟨2, k⟩ e) (slEvent n 0x3201 1 s))
    else (runBg n op false s, true)
  | none => (runBg n op false s, true)

/-- The operations of an entry go on, from the one in hand: a packet operation starts its lookup and stays or leaves, and so does a
background operation (R240, R245). -/
def pump (n : Nat) (d : Dword) : Nat → State → State
  | 0, s => s
  | fuel + 1, s =>
    match flightAt s n d with
    | none => s
    | some f => match f.ops with
      | [] => delFlight n d s
      | op :: _ =>
        if op.isPacket then
          let (s1, left) := startLookup n op {} (setPhase n d .probe s)
          if left then pump n d fuel (dropHead n d s1) else s1
        else
          let (s1, left) := bgStep n op s
          if left then pump n d fuel (dropHead n d s1) else s1

/-- Let the operations of an entry go on. -/
def goOn (n : Nat) (d : Dword) (s : State) : State :=
  match flightAt s n d with
  | some f => episodes n (pump n d (f.ops.length + 1) s)
  | none => s

/-- A write has created the record of a punted key: its parked operations run on it in order (R252). -/
def unpark (n : Nat) (d : Dword) (s : State) : State :=
  if parked s n d && (slAt s n).punts.any (fun p => p.digest == d) then
    match locate s n d none with
    | .hit _ e => if isPtr e then s else goOn n d (setPhase n d .probe (dropPunt n d s))
    | _ => s
  else s

/-- An entry has just been punted: background work behind it runs at once, and packets beyond the eighth behind the first get
DENY (R251, R252). -/
def settlePunt (n : Nat) (d : Dword) (s : State) : State :=
  match flightAt s n d with
  | none => s
  | some f =>
    let pk := f.ops.filter (·.isPacket)
    let s1 := putFlight n { f with ops := pk.take 9 } s
    let s2 := (pk.drop 9).foldl (fun s op => answer n op 1 (slCount n 0x4A 1 s)) s1
    unpark n d ((f.ops.filter (fun op => !op.isPacket)).foldl (fun s op => runBg n op false s) s2)

/-- The end of a step of the operation in hand: it has left and the next goes on, or it stays. -/
def stepped (n : Nat) (d : Dword) (r : State × Bool) : State :=
  if r.2 then goOn n d (dropHead n d r.1)
  else if parked r.1 n d then settlePunt n d r.1
  else r.1

/-- The operation in hand of a digest, when its entry stands in a phase that `ok` accepts. -/
def headOp (s : State) (n : Nat) (d : Dword) : Option (Flight × FlowOp) :=
  match flightAt s n d with
  | some f => (match f.ops with | op :: _ => some (f, op) | [] => none)
  | none => none

/-! ### Acceptance -/

/-- INFLIGHT_FULL: the in-flight table or the wait pool fills (R244). -/
def fullEvents (n : Nat) (s : State) : State :=
  let x := slAt s n
  let tab := x.flights.length ≥ 8192
  if (tab || waiters x ≥ 2048) && !x.fullEpisode then
    raise Ev.inflightFull (le 1 n ++ le 1 (b2n (!tab))) (setSl n { x with fullEpisode := true } s)
  else s

/-- Accept a background operation: it joins its digest's wait list, or takes an entry and runs or waits (R240, R252). -/
def acceptBg (n : Nat) (op : FlowOp) (s : State) : State :=
  match flightAt s n op.digest with
  | none =>
    if (coldHit s n op).isSome then
      stepped n op.digest (bgStep n op (putFlight n { digest := op.digest, ops := [op], phase := .probe } s))
    else runBg n op false s
  | some f =>
    if f.phase = .punted then unpark n op.digest (runBg n op false s)
    else fullEvents n (putFlight n { f with ops := f.ops ++ [op] } (slEvent n 0x3207 1 s))

/-- Does the slice accept operations of packets (R48, R244)? -/
def accepting (x : Slice) : Bool := x.flights.length < 8192 && waiters x < 2048 && x.holdQ.length < 4096

/-- Accept an operation of a packet (R240, R245, R251). -/
def acceptPacket (n : Nat) (op : FlowOp) (u : ReadUpset) (s : State) : State :=
  let s1 := slEvent n 0x3200 1 (modSl n (fun x => { x with ops := x.ops + 1 }) s)
  match flightAt s1 n op.digest with
  | none =>
    let s2 := putFlight n { digest := op.digest, ops := [op], phase := .probe } s1
    fullEvents n (stepped n op.digest (startLookup n op u s2))
  | some f =>
    if f.phase = .punted ∧ f.ops.length ≥ 9 then answer n op 1 (slCount n 0x4A 1 s1)
    else fullEvents n (putFlight n { f with ops := f.ops ++ [op] } (slEvent n 0x3207 1 s1))

/-- Does a packet source have an operation: 0 to 3 the pipelines, 4 the forwards (R238)? -/
def sourceReady (s : State) (n src : Nat) : Bool := if src < 4 then inputAt s n src != [] else (slAt s n).forwards != []

/-- The first packet source with work, in rotating order from `turn` (R238). -/
def nextSource (s : State) (n turn : Nat) : Option Nat := ((List.range 5).map (fun i => (turn + i) % 5)).find? (sourceReady s n)

/-- Take the next operation of a packet source. -/
def takeSource (s : State) (n src : Nat) : Option (FlowOp × State) :=
  if src < 4 then
    match inputAt s n src with
    | [] => none
    | op :: rest => some (op, setInput n src rest s)
  else match (slAt s n).forwards with
    | [] => none
    | op :: rest => some (op, modSl n (fun x => { x with forwards := rest }) s)

/-- The oldest forward that a pointer's entry holds for slice `m` enters the FIFO there, and the entry goes on (R238). -/
def admitForward (m : Nat) (s : State) : State :=
  let to' := fun (w : Nat × Dword) => match flightAt s w.1 w.2 with
    | some f => (match f.phase, f.ops.head?.bind FlowOp.req with
      | .forwarding k p, some q => if k = m then some (p, q) else none
      | _, _ => none)
    | none => none
  match s.flow.fwdWait.find? (fun w => (to' w).isSome) with
  | none => s
  | some w => match to' w with
    | none => s
    | some (p, q) =>
      let s1 := s.setFlow { s.flow with fwdWait := s.flow.fwdWait.erase w }
      goOn w.1 w.2 (dropHead w.1 w.2 (enterForward m p q s1))

/-- Accept operations of packets in a cycle, from source `turn` on, as many as there are Hearth reads left: each meets the upset
listed for it (R238, R240). -/
def acceptPackets (n : Nat) : List ReadUpset → Nat → State → State
  | [], _, s => s
  | u :: us, turn, s =>
    if !accepting (slAt s n) || !packetRoom s n then s
    else match nextSource s n turn with
      | none => s
      | some src => match takeSource s n src with
        | none => s
        | some (op, s1) =>
          let s2 := modSl n (fun x => { x with cycles := x.cycles + 1 }) (if src < 4 then feed n s1 else admitForward n s1)
          acceptPackets n us (src + 1) (acceptPacket n op u s2)

/-- The next host item that waits takes a cycle of the host reservation (R238, R256): the state, and the acceptances left to packets
in the cycle. -/
def acceptHosted (n : Nat) (s : State) : State × Nat :=
  match (slAt s n).hostQ with
  | op :: rest =>
    if 0 < ownRoom s n 0 then (acceptBg n op (useCycle n 0 (modSl n (fun x => { x with hostQ := rest }) s)), 1) else (s, 2)
  | [] => (s, 2)

/-- An item of a host command reaches its home slice: it is accepted while the host reservation lasts, and waits behind those that wait
otherwise (R39, R256). -/
def acceptHost (n : Nat) (op : FlowOp) (s : State) : State :=
  if (slAt s n).hostQ = [] ∧ 0 < ownRoom s n 0 then acceptBg n op (useCycle n 0 s)
  else modSl n (fun x => { x with hostQ := x.hostQ ++ [op] }) s

/-! ### The responses of host commands -/

/-- Issue item `i` of a command to its home slice (R256). -/
def issueItem (c i : Nat) (cmd : HostCmd) (s : State) : State :=
  let key := itemKey cmd.opcode (cmd.items.getD i [])
  let d := digestOf s key
  acceptHost (homeOf d) { kind := .host c i, key := some key, digest := d } s

/-- Issue the items of a FLOW_READ one after another: the next once the one before has run and nothing has stopped the command
(R258). -/
def issueReads (c : Nat) : Nat → State → State
  | 0, s => s
  | fuel + 1, s =>
    match tfind s.flow.cmds c with
    | none => s
    | some x =>
      if x.opcode = Op.flowRead ∧ !x.stopped ∧ x.results.length = x.issued ∧ x.issued < x.items.length then
        issueReads c fuel (issueItem c x.issued x
          (s.setFlow { s.flow with cmds := tput s.flow.cmds c { x with issued := x.issued + 1 } }))
      else s

/-- Send the responses of the commands whose items have all run, and issue the next items of those that read (R256, R258). -/
def completeCmds (s : State) : State :=
  s.flow.cmds.foldl (fun s c =>
    let s1 := issueReads c.1 (c.2.items.length + 1) s
    match tfind s1.flow.cmds c.1 with
    | some x =>
      if cmdDone x then
        send { x.req with payload := cmdPayload x } (s1.setFlow { s1.flow with cmds := terase s1.flow.cmds c.1 })
      else s1
    | none => s1) s

/-- One acceptance cycle: at most one operation of background work, and others of packets from sources in rotating order, of which the
first advances by one (R238). -/
def acceptCycle (n : Nat) (u u2 : ReadUpset) (s : State) : State :=
  let turn := (slAt s n).srcTurn
  let (s1, k) := acceptHosted n s
  modSl n (fun x => { x with srcTurn := (turn + 1) % 5 }) (acceptPackets n ([u, u2].take k) turn s1)

/-- FLOW_OP_ACCEPT: the slice accepts the operations of a cycle; `u` and `u2` are what the Hearth reads of the first
and of the second packet of the cycle meet. -/
def execFlowOpAccept (n : Fin 16) (u u2 : ReadUpset) (s : State) : Host.Outcome State Fault Refusal :=
  .next (completeCmds (acceptCycle n u u2 s))

/-- May the pseudo-channel of a digest serve the access of a packet's lookup (R40)? -/
def digestRoom (s : State) (n : Nat) (d : Dword) : Bool := recRoom s n (bucket0 (stackBuckets s) d % 8)

/-- STACK_PROBE_REPLY: the reply comes within the pseudo-channel's share of the tick (R40). -/
def execStackProbeReply (n : Fin 16) (d : Dword) (u : ReadUpset) (s : State) : Host.Outcome State Fault Refusal :=
  .next (match headOp s n d with
    | some (f, op) => if f.phase = .probe ∧ digestRoom s n d then completeCmds (stepped n d (probeReply n op u s)) else s
    | none => s)

/-- COLD_SUMMARY_READ: the read is made within the pseudo-channel's share of the tick (R40). -/
def execColdSummaryRead (n : Fin 16) (d : Dword) (ue : Bool) (s : State) : Host.Outcome State Fault Refusal :=
  .next (match headOp s n d with
    | some (f, op) => if f.phase = .summary ∧ digestRoom s n d then completeCmds (stepped n d (summaryRead n op ue s)) else s
    | none => s)

/-- TURF_CANDIDATE_READ: the read is made within the channel's turf share of the tick (R41). -/
def execTurfCandidateRead (n : Fin 16) (d : Dword) (u : ReadUpset) (s : State) : Host.Outcome State Fault Refusal :=
  .next (match headOp s n d with
    | some (f, op) => (match f.phase with
      | .turf ks => if turfRoom s n then completeCmds (stepped n d (candidateRead n op ks u s)) else s
      | _ => s)
    | none => s)

/-! ### Creation -/

/-- The control word of a record made from a template (R211, R229). -/
def templateCtl (t : List Byte) : Nat :=
  let fl := rd t 1 1
  let cv := rd t 2 1
  let sk := rd t 3 1
  1 + 2 * b2n (bitOf fl 1) + 4 * b2n (bitOf fl 2) + 16 * bitsOf sk 6 4 + 256 * rd t 0 1 + 2 ^ 16 * bitsOf sk 3 0 +
  2 ^ 20 * bitsOf cv 4 3 + 2 ^ 22 * bitsOf cv 2 0

/-- The member of a record made from a template (R213, R230). -/
def templateMember (s : State) (t : List Byte) (q : FlowReq) : Word :=
  let sp := rd t 6 1
  if bitsOf (rd t 3 1) 6 4 = 0 || !bitOf sp 6 then 0
  else if bitOf sp 7 then sliceMember s (sp % 64) q.hash
  else q.member

/-- A pinned member of a table is read in the service region of the table's pseudo-channel (R40, R230, R404). -/
def readMember (n : Nat) (t : List Byte) (s : State) : State :=
  let sp := rd t 6 1
  if bitsOf (rd t 3 1) 6 4 ≠ 0 ∧ bitOf sp 6 ∧ bitOf sp 7 then useSvc n (sp % 8) 1 s else s

/-- The bytes of a record made from a template (R210, R214, R229). -/
def templateRecord (now : Tick) (t key act : List Byte) : List Byte :=
  let times := le 6 now.toNat ++ le 6 now.toNat ++ (t.drop 8).take 2 ++ le 2 0
  if keyType key = 0x11 then
    withTag (key ++ le 4 (templateCtl t) ++ padTo 28 act ++ le 16 0 ++ (t.drop 0x0C).take 16 ++ times)
  else withTag (key ++ le 4 (templateCtl t) ++ padTo 12 act ++ le 14 0 ++ (t.drop 0x0C).take 2 ++ times)

/-- What a creation comes to. -/
inductive Made where
  /-- Made: the record. -/
  | made (e : List Byte)
  /-- A bitmap fetch runs: the creation stays at the head of the queue (R302). -/
  | waits
  /-- The template's overflow action applies. -/
  | over (action : Nat)
  deriving DecidableEq, Repr

/-- Make the record of a creation, or say why not, with the counters and events of the reason (R209, R229, R249, R250, R275,
R304). -/
def makeRecord (n : Nat) (op : FlowOp) (q : FlowReq) (s : State) : State × Made :=
  let t := templateAt s q.template
  let key := plainKey q.key
  let d := op.digest
  let act := rd t 7 1 % 4
  let kind := bitsOf (rd t 3 1) 6 4
  let size := if keyType key = 0x11 then 2 else 1
  if !bitOf (rd t 1 1) 0 then (s, .over 0)
  else if !kindFits kind (keyType key) || (keyType key != 0x11 && wideOnly s (rd t 0 1)) then
    (raiseLimited Ev.flowTemplateMismatch n (fun _ => le 1 n ++ le 2 q.template ++ le 1 (keyType key))
      (slCount n 0x42 1 s), .over act)
  else if (anyDigest s n d).isSome then
    (raise Ev.flowDigestClash (le 1 n ++ le 8 d.toNat) (slCount n 0x43 1 s), .over act)
  else match (if bitOf (rd t 1 1) 1 then pinRefusal s n d size false else none) with
    | some why => (pinRefuse n why s, .over act)
    | none =>
      if !stackRoom s n d size then
        (raiseLimited Ev.flowCreateNoroom n (fun k => le 1 n ++ le 2 q.template ++ le 4 k) (slCount n 0x45 1 s), .over act)
      else
        let m := templateMember s t q
        let pool := rd t 4 2 % 4096
        match (if kind < 2 then (s, Trans.ok 0 0) else translate n kind pool key m s) with
        | (s1, .wait) => (s1, .waits)
        | (s1, .none) => (if kind = 3 then slCount n 0x5C 1 s1 else noPair n pool s1, .over act)
        | (s1, .ok a p) => (s1, .made (templateRecord s.tick.count t key (actBytes kind a p pool m key 0)))

/-- The creation at the head of the queue leaves it and uses a unit of the budget (R249). -/
def leaveCreateQ (n : Nat) (s : State) : State :=
  slEvent n 0x320C 1 (modSl n (fun x => { x with createQ := x.createQ.drop 1, createLeft := x.createLeft - 1 }) s)

/-- Install a record just made: in the Stack tier and the Hearth, and its pointer's installation sent (R216, R262).  The template it
follows is kept until it runs (R250). -/
def installMade (n : Nat) (d : Dword) (t e : List Byte) (s : State) : State :=
  match stackInsert n d e s with
  | (s1, none) => s1
  | (s1, some k) =>
    let s2 := (hearthInstall n d e k false false s1).1
    let s3 := modSl n (fun x => { x with made := x.made.filter (fun m => m.1 != d) ++ [(d, t)] }) s2
    setPhase n d (.execute 3 0 true) (if bitOf (rd t 1 1) 3 then sendInstall n d e s3 else s3)

/-- The request of the operation in hand of a digest. -/
def headReq (s : State) (n : Nat) (d : Dword) : Option (FlowOp × FlowReq) :=
  (headOp s n d).bind (fun h => h.2.req.map (fun q => (h.2, q)))

/-- CREATE_GRANT: the creation at the head of the queue is granted a unit of this tick's budget, before any newer one, in its turn among
the background accesses (R48, R49, R249, R262). -/
def createGrant (n : Nat) (s : State) : State :=
  match (slAt s n).createQ with
  | [] => s
  | d :: _ =>
    if (slAt s n).createLeft = 0 ∨ !backAllows s n 0 then s
    else match headReq s n d with
      | none => leaveCreateQ n s
      | some (op, q) =>
        match makeRecord n op q s with
        | (s1, .waits) => s1
        | (s1, .made e) =>
          let t := templateAt s q.template
          installMade n d t e (readMember n t (backServed n 0 (leaveCreateQ n s1)))
        | (s1, .over a) => stepped n d (overflowOp n op a (leaveCreateQ n s1))

/-- CREATE_GRANT. -/
def execCreateGrant (n : Fin 16) (s : State) : Host.Outcome State Fault Refusal := .next (completeCmds (createGrant n s))

/-! ### The wait limit -/

/-- The wait limit in ticks (R50). -/
def waitLimit (s : State) : Nat := regField s 13 16 0x12 11 0 / 2

/-- The operations of packets that wait behind an expired one receive the same resolution at once; other work goes on (R50). -/
def resolveBehind (n : Nat) (d : Dword) (verdict : Nat) (s : State) : State :=
  match flightAt s n d with
  | none => s
  | some f =>
    let s1 := f.ops.foldl (fun s op => if op.isPacket then answer n op verdict s else s) s
    goOn n d (putFlight n { f with ops := f.ops.filter (fun op => !op.isPacket) } s1)

/-- CREATE_EXPIRED: the oldest creation has reached the wait limit at the end of a tick (R50). -/
def createExpired (n : Nat) (s : State) : State :=
  match (slAt s n).createQ with
  | [] => s
  | d :: rest => match headOp s n d with
    | none => s
    | some (f, op) => match f.phase with
      | .createQ since =>
        if ticksSince s.tick.count since < waitLimit s then s
        else
          let s1 := slCount n 0x62 1 (modSl n (fun x => { x with createQ := rest }) s)
          let s2 := raiseLimited Ev.createOverflow n (fun _ => le 1 n ++ le 2 op.template) s1
          match overflowOf s op.template with
          | 0 => resolveBehind n d 1 (slCount n 0x46 1 s2)
          | 1 => resolveBehind n d 0 (slCount n 0x46 1 s2)
          | a =>
            let r := overflowOp n op a s2
            if r.2 then
              resolveBehind n d (if regField s 13 n 4 19 18 = 1 then 0 else 1) (dropHead n d r.1)
            else settlePunt n d r.1
      | _ => s

/-- HOLD_EXPIRED: the oldest held operation has reached the wait limit at the end of a tick (R50).  A background operation, which has
no disposition, runs on the entry in its turf slot (DESIGN CHOICE, log 56). -/
def holdExpired (n : Nat) (s : State) : State :=
  match (slAt s n).holdQ with
  | [] => s
  | d :: rest => match headOp s n d with
    | none => s
    | some (f, op) => match f.phase with
      | .hold _ _ since =>
        if ticksSince s.tick.count since < waitLimit s then s
        else
          let s1 := slCount n 0x63 1 (modSl n (fun x => { x with holdQ := rest }) s)
          let s2 := raiseLimited Ev.holdExpired n (fun k => le 1 n ++ le 4 k) s1
          match op.req with
          | some q => resolveBehind n d (if mildDisp q.disp = 3 then 0 else 1) s2
          | none => stepped n d (runBg n op true s2, true)
      | _ => s

/-- CREATE_EXPIRED. -/
def execCreateExpired (n : Fin 16) (s : State) : Host.Outcome State Fault Refusal := .next (completeCmds (createExpired n s))
/-- HOLD_EXPIRED. -/
def execHoldExpired (n : Fin 16) (s : State) : Host.Outcome State Fault Refusal := .next (completeCmds (holdExpired n s))

/-- PUNT_TIMEOUT: the oldest punt of the slice has waited PUNT_CTRL.timeout ticks (R252). -/
def puntTimeout (n : Nat) (s : State) : State :=
  match (slAt s n).punts with
  | [] => s
  | p :: _ =>
    if ticksSince s.tick.count p.since < regField s 13 n 4 15 0 then s
    else
      let s1 := raiseLimited Ev.puntTimeout n (fun k => le 1 n ++ le 4 k) (slCount n 0x4B 1 s)
      resolvePunt n p.digest (if regField s 13 n 4 17 16 = 1 then 0 else 1) s1

/-- PUNT_TIMEOUT. -/
def execPuntTimeout (n : Fin 16) (s : State) : Host.Outcome State Fault Refusal := .next (puntTimeout n s)

/-! ### Execution -/

/-- The rewrite of a result (R226). -/
def rewriteOf (rev : Bool) (e : List Byte) : FlowRewrite :=
  match actKind e, rev with
  | 2, false => .src (transAddr e) (transPort e)
  | 2, true => .dst (rdBe e 3 4) (rdBe e 0x0B 2)
  | 3, false => .dst (transAddr e) (transPort e)
  | 3, true => .src (rdBe e 7 4) (rdBe e 0x0D 2)
  | 4, false => .to4 (transAddr e) (transPort e) (rdBe e (actOff e + 12) 4) (bitOf (rd e (actOff e + 16) 1) 0)
  | 4, true => .to6 (keyOf e) (bitOf (rd e (actOff e + 16) 1) 0)
  | _, _ => .none

/-- The verdict of a result (R226, R317). -/
def resultVerdict (r : Run) : Nat :=
  if verdictOf r.rec' = 2 then 2 else r.verdict.getD (verdictOf r.rec')

/-- The result of an operation that has run on a record (R226). -/
def runResult (rev : Bool) (tier slot : Nat) (created : Bool) (r : Run) : FlowResult :=
  let e := r.rec'
  { pkt := 0, verdict := resultVerdict r, cls := some (classOf e), mark := r.mark
    member := if !rev && (memberOf e).toNat ≥ 0x80000000 then some (memberOf e) else none
    rewrite := rewriteOf rev e, sample := r.sample, tier := tier, slot := slot, created := created }

/-- Journal the program events of a run (R223, R339). -/
def journalRun (n : Nat) (d : Dword) (p : Place) (q : FlowReq) (rev new : Bool) (r : Run) (s : State) : State :=
  r.journal.foldl (fun s j =>
    let e := r.rec'
    let detail := b2n rev + 2 * verdictOf e + 8 * stateOf e + 128 * b2n new + 256 * (q.size % 16384)
    journal n false (jentry s j.1 (b2n j.2) n p.tier (nowFrc s) d p.idx detail ++
      (if j.2 then countersCont j.1 e else [])) s) s

/-- Run the program of a record for a packet operation and commit it, or remove it on RETIRE (R222, R226, R254).  A record just
created has the tick in which its operation runs for its first and last (R225, R229, R250). -/
def execute (n : Nat) (op : FlowOp) (q : FlowReq) (tier slot : Nat) (created : Bool) (p : Place) (e0 : List Byte)
    (s : State) : State :=
  let d := op.digest
  let e := if created then putLastTick s.tick.count (splice e0 (firstOff e0) (le 6 s.tick.count.toNat)) else e0
  let i : RunIn := { now := s.tick.count, rev := op.rev, new := created, size := q.size, flags := q.flags,
                     ruleDrop := q.ruleDrop, last := lastTickOf e }
  let r := runProgram s.flow.prog i e
  let s1 := journalRun n d p q op.rev created r (if created then slCount n 0x44 1 s else s)
  let old := if created then none else some e
  let s2 :=
    match r.retire with
    | some j =>
      let s' := slCount n 0x4D 1 (removeRecord n d r.rec' s1)
      if j then journalRetired n d p 0 r.rec' s' else s'
    | none =>
      let (s', e') := supervise n d p r.supervise r.rec' s1
      commitRecord n d p true old e' s'
  opResult n op (runResult op.rev tier slot created r) s2

/-- Where the operation in hand finds its entry when it runs: an entry left in its turf is the one that was read (R286). -/
def execPlace (s : State) (n : Nat) (op : FlowOp) (tier slot : Nat) : Found :=
  let x := slAt s n
  match tier, hearthFind x op.digest op.key, tfind x.turf slot with
  | 2, none, some e =>
    if answers s op e && !clearing x slot && turfUsed x (slot / 16) (slot % 16) &&
        (stackFind s x op.digest op.key).isNone then .hit ⟨2, slot⟩ e
    else locate s n op.digest op.key
  | _, _, _ => locate s n op.digest op.key

/-- The operation in hand runs on the entry it finds. -/
def runFound (n : Nat) (op : FlowOp) (q : FlowReq) (tier slot : Nat) (created : Bool) (s : State) : State :=
  let d := op.digest
  match execPlace s n op tier slot with
  | .hit p e =>
    if isPtr e then stepped n d (forwardOp n op e s) else stepped n d (execute n op q tier slot created p e s, true)
  | .bad p e => stepped n d (badOp n op p e s)
  | .miss => stepped n d (missOp n op s)
  | .away c i => stepped n d (awayOp n c i op s)

/-- A record made under a template that has changed since its grant is taken back (R250). -/
def unmake (n : Nat) (d : Dword) (s : State) : State :=
  match locate s n d none with
  | .hit _ e | .bad _ e =>
    let s1 := releasePair n e (dropEntry n d e s)
    (match pointerDigest s e with
     | some pd => unbind pd d s1
     | none => s1)
  | _ => s

/-- A created record follows the template in force when its operation enters its lane: it is made again where the template has changed,
and where the template is now invalid, or makes none, the operation overflows (R231, R250). -/
def remake (n : Nat) (op : FlowOp) (q : FlowReq) (s : State) : State :=
  let d := op.digest
  match makeRecord n op q (unmake n d s) with
  | (s1, .made e) => installMade n d (templateAt s q.template) e s1
  | (s1, .waits) => stepped n d (overflowOp n op 0 s1)
  | (s1, .over a) => stepped n d (overflowOp n op a s1)

/-- FLOW_OP_EXECUTE: the operation in hand of a digest enters a lane, runs and commits (R222, R243, R245, R250). -/
def flowExecute (n : Nat) (d : Dword) (s : State) : State :=
  match headOp s n d with
  | none => s
  | some (f, op) => match f.phase, op.req with
    | .execute _ _ created, some q =>
      let stale := created && (slAt s n).made.any (fun m => m.1 == d && m.2 != templateAt s q.template)
      let s1 := if stale then remake n op q s else s
      let s2 := modSl n (fun x => { x with made := x.made.filter (fun m => m.1 != d) }) s1
      (match headOp s2 n d with
       | some (g, o) => (match g.phase with
         | .execute t k c => if o = op then runFound n op q t k c s2 else s2
         | _ => s2)
       | none => s2)
    | _, _ => s

/-- FLOW_OP_EXECUTE. -/
def execFlowOpExecute (n : Fin 16) (d : Dword) (s : State) : Host.Outcome State Fault Refusal :=
  .next (completeCmds (flowExecute n d s))

/-! ### Binding and background rows -/

/-- POINTER_INSTALL: the next pointer installation of slice `n`, within the migration reservation (R39, R216). -/
def execPointerInstall (n : Fin 16) (s : State) : Host.Outcome State Fault Refusal :=
  .next (match (slAt s n).installs with
    | [] => s
    | op :: rest =>
      if ownRoom s n 3 = 0 then s
      else completeCmds (acceptBg n op (useCycle n 3 (modSl n (fun x => { x with installs := rest }) s))))

/-- BIND_ACK: the next acknowledgement that slice `n` takes for a primary, within the migration reservation (R39, R216). -/
def execBindAck (n : Fin 16) (s : State) : Host.Outcome State Fault Refusal :=
  .next (match (slAt s n).acks with
    | [] => s
    | op :: rest =>
      if ownRoom s n 3 = 0 then s
      else completeCmds (acceptBg n op (useCycle n 3 (modSl n (fun x => { x with acks := rest }) s))))

/-- Does a wheel entry fall due: ARMED, its deadline before the present tick (R320)? -/
def due (s : State) (w : WheelEntry) : Bool := !w.fired && tickGe s.tick.count (w.deadline + 1)

/-- The due entry with the earliest deadline (R320). -/
def nextDue (s : State) (x : Slice) : Option WheelEntry :=
  (x.wheel.filter (due s)).foldl (fun b w => match b with
    | none => some w
    | some v => if tickDiff v.deadline w.deadline > 0 then some w else some v) none

/-- One due entry fires: STREAM_SILENT is raised and journalled, and an expiry operation is queued (R320). -/
def fire (n : Nat) (w : WheelEntry) (s : State) : State :=
  let d := w.digest
  let s1 := modSl n (fun x => { x with
    wheel := x.wheel.map (fun v => if v.digest == d then { v with fired := true } else v)
    expiry := x.expiry ++ [(d, w.deadline)] }) (slCount n 0x60 1 s)
  match locate s n d none with
  | .hit p e =>
    let sil := ticksSince s.tick.count (lastTickOf e)
    let s2 := journal n true (jentry s1 Ev.streamSilent 1 n p.tier (nowFrc s1) d p.idx sil ++
      keyCont Ev.streamSilent (keyOf e) w.deadline (lastTickOf e)) s1
    postStream n Ev.streamSilent (le 1 n ++ le 8 d.toNat ++ padTo 48 (keyOf e) ++ le 8 w.deadline.toNat ++
      le 8 (lastTickOf e).toNat ++ le 8 (nowFrc s2).toNat) s2
  | _ => s1

/-- Does the device supervise its streams: in the modes that run flow operations, so that CONFIGURE keeps its records unchanged
(R57)? -/
def supervises (s : State) : Bool :=
  s.sys.mode == .service || s.sys.mode == .degraded || s.sys.mode == .safe || s.sys.mode == .test

/-- Up to `k` due entries in deadline order. -/
def fireDue (n : Nat) : Nat → State → State
  | 0, s => s
  | k + 1, s => match nextDue s (slAt s n) with
    | none => s
    | some w => fireDue n k (fire n w s)

/-- WHEEL_EXAMINE: the wheel examines up to 256 due entries (R320). -/
def execWheelExamine (n : Fin 16) (s : State) : Host.Outcome State Fault Refusal :=
  .next (if supervises s then fireDue n 256 s else s)

/-- EXPIRY_OP: the next queued expiry operation of a slice, within the sweep reservation (R39, R320, R321). -/
def execExpiryOp (n : Fin 16) (s : State) : Host.Outcome State Fault Refusal :=
  .next (match (slAt s n).expiry with
    | [] => s
    | (d, t) :: rest =>
      if !supervises s || ownRoom s n 1 = 0 then s else
      completeCmds (acceptBg n { kind := .expiry t, key := none, digest := d }
        (useCycle n 1 (modSl n (fun x => { x with expiry := rest }) s))))

end Sys2Proof.Machine
end

