-- ==== Sys2Proof/Machine/Moves.lean ====
section
/-! DEFINITION. Moves between the tiers: promotion, the pending clears, the demoter, pointer demotion, and the rebuilding of
summaries (R276, R286 to R293, R296). -/

namespace Sys2Proof.Machine

/-! ### Promotion -/

/-- Is a Stack slot a victim for a swap with an entry whose B0 is `b` (R287)? -/
def swapVictim (s : State) (x : Slice) (b size k : Nat) : Bool :=
  match tfind x.stack k with
  | some v =>
    let d := digestOf s (keyOf v)
    entrySlots v == size && !isPtr v && !isPinned v && (wayOf x d).isNone && !busy x d &&
    bucket0 (stackBuckets s) d == b
  | none => false

/-- The slots of a bucket are read in order for a swap; an entry that cannot be read is lost (R287, R296). -/
def swapReads (n b size : Nat) : List Nat → State → State × Option Nat
  | [], s => (s, none)
  | k :: rest, s =>
    let x := slAt s n
    let s1 := useBack n (b % 8) 1 s
    match tfind x.stack k with
    | none => swapReads n b size rest s1
    | some v =>
      let d := digestOf s (keyOf v)
      if (readCopy x 1 k {} v).isNone && !busy x d && (wayOf x d).isNone then
        swapReads n b size rest (tagError n d ⟨1, k⟩ v s1)
      else if swapVictim s x b size k then (s1, some k)
      else swapReads n b size rest s1

/-- Swap a promoted entry of turf slot `t` with a Stack record of its bucket: the Stack slot it takes; none where there is no victim or
a write fails (R287, R293, R294). -/
def swapIn (n : Nat) (d : Dword) (t : Nat) (e : List Byte) (s : State) : State × Option Nat :=
  let b := bucket0 (stackBuckets s) d
  match swapReads n b (entrySlots e) ((List.range 4).map (4 * b + ·)) s with
  | (s1, none) => (s1, none)
  | (s1, some k) =>
    let x := slAt s1 n
    if writeFails x 2 t then (migrateAbort n 0 d (turfAddr t) (metFail n 2 t s1), none)
    else if writeFails x 1 k then (migrateAbort n 0 d (stackAddr k) (metFail n 1 k s1), none)
    else
      let v := (tfind x.stack k).getD []
      let y := sumSet (t / 16) (t % 16) (fingerprint (digestOf s1 (keyOf v))) (entrySlots v)
        { x with turf := tput x.turf t v, stack := tput x.stack k e }
      (slCount n 0x52 1 (setSl n y (useTurf n (entrySlots v) (useBack n (b % 8) (1 + entrySlots e) s1))), some k)

/-- Place a promoted entry in the Stack tier: by a free slot or relocation with its clear pending, else by a swap; none for a
promotion in place (R286).  The list of pending clears holds 64 slots; an install whose write fails is undone (R293). -/
def promotePlace (n : Nat) (d : Dword) (t : Nat) (e : List Byte) (s : State) : State × Option Nat :=
  let b := bucket0 (stackBuckets s) d
  if !chanIn s n b then (s, none)
  else
    let first : State × Option Nat :=
      if clearSlots (slAt s n) + entrySlots e ≤ 64 then stackInsert n d e s else (s, none)
    match first with
    | (s1, some k) =>
      if writeFails (slAt s1 n) 1 k then
        swapIn n d t e (migrateAbort n 0 d (stackAddr k) (metFail n 1 k
          (fillEvents n (modSl n (fun x => { x with stack := terase x.stack k }) s1))))
      else (walkMove n e b (k / 4) (modSl n (fun x => { x with clears := x.clears ++ [(t, d)] }) s1), some k)
    | (s1, none) => swapIn n d t e s1

/-- The operation in hand goes on with its promoted entry, or with the entry in place: a background operation runs and leaves, a pointer
forwards, a record is executed (R245, R286). -/
def heldGo (n : Nat) (d : Dword) (op : FlowOp) (t : Nat) (e : List Byte) (s : State) : State :=
  if !op.isPacket then stepped n d (runBg n op true s, true)
  else if isPtr e then stepped n d (forwardOp n op e s)
  else setPhase n d (.execute 2 t false) s

/-- PROMOTION_GRANT: the operation at the head of the hold queue is granted a promotion of this tick's share, in its turn among the
background accesses (R48, R262, R286).  An entry that stays in place is counted and written back to its slot (R294). -/
def promotionGrant (n : Nat) (s : State) : State :=
  match (slAt s n).holdQ with
  | [] => s
  | d :: rest =>
    if (slAt s n).promoteLeft = 0 ∨ !backAllows s n 1 then s
    else
      let s1 := slEvent n 0x320D 1 (backServed n 1 (modSl n (fun x => { x with
        holdQ := rest, promoteLeft := x.promoteLeft - 1 }) s))
      match headOp s1 n d with
      | none => episodes n s1
      | some (f, op) => match f.phase with
        | .hold t e _ =>
          if !inService s1 15 n then
            episodes n (if op.isPacket then stepped n d (awayOp n 15 n op s1) else stepped n d (tierAway n 15 n s1, true))
          else match promotePlace n d t e s1 with
            | (s2, some k) =>
              episodes n (heldGo n d op t e (hearthInstall n d e k false false (slCount n 0x51 1 s2)).1)
            | (s2, none) => episodes n (heldGo n d op t e (slCount n 0x53 1 s2))
        | _ => episodes n s1

/-- PROMOTION_GRANT. -/
def execPromotionGrant (n : Fin 16) (s : State) : Host.Outcome State Fault Refusal :=
  .next (completeCmds (promotionGrant n s))

/-! ### Pending clears -/

/-- Free the turf slot of the oldest pending clear. -/
def freeClear (n t : Nat) (s : State) : State :=
  modSl n (fun x =>
    let slots := match tfind x.turf t with | some e => entrySlots e | none => 1
    sumClear (t / 16) (t % 16) slots { x with turf := terase x.turf t, clears := x.clears.drop 1 }) s

/-- The oldest pending clear goes behind the others, and is tried again. -/
def retryClear (n : Nat) (s : State) : State := modSl n (fun x => { x with clears := x.clears.drop 1 ++ x.clears.take 1 }) s

/-- TURF_CLEAR_ACK: the summary write that clears the oldest pending turf slot is acknowledged, or fails: the entry then returns to its
turf slot with its present contents (R292, R293).  A pinned entry, and one no longer in the Stack, cannot return: the slot stays on the
list and its clear is tried again (DESIGN CHOICE, log 39). -/
def turfClearAck (n : Nat) (ok : Bool) (s : State) : State :=
  match (slAt s n).clears with
  | [] => s
  | (t, d) :: _ =>
    if ok then freeClear n t (useBack n (t / 16 % 8) 1 s)
    else
      let s1 := migrateAbort n 0 d (summaryAddr s (t / 16)) s
      match locate s1 n d none with
      | .hit p e =>
        if isPinned e || p.tier == 2 then retryClear n s1
        else
          modSl n (fun x =>
            sumSet (t / 16) (t % 16) (fingerprint d) (entrySlots e)
              { x with turf := tput x.turf t e, clears := x.clears.drop 1 })
            (dropEntry n d e s1)
      | _ => retryClear n s1

/-- TURF_CLEAR_ACK. -/
def execTurfClearAck (n : Fin 16) (ok : Bool) (s : State) : Host.Outcome State Fault Refusal := .next (turfClearAck n ok s)

/-! ### The demoter -/

/-- Turf slots that a demotion under way has chosen. -/
def chosen (x : Slice) (t : Nat) : Bool :=
  x.flights.any (fun f => match f.phase with | .demoting _ u => u == t | _ => false)

/-- A free turf slot for a demotion: neither occupied, nor pending clear, nor chosen by another (R288, R291). -/
def demoteSlot (x : Slice) (b slots : Nat) : Option Nat :=
  let free := fun i => !turfUsed x b i && !clearing x (16 * b + i) && !chosen x (16 * b + i)
  if slots = 2 then ((List.range 8).find? (fun i => free (2 * i) && free (2 * i + 1))).map (fun i => 16 * b + 2 * i)
  else ((List.range 16).find? (fun i => free i && !(i % 2 == 1 && (x.flights.any (fun f => match f.phase with
    | .demoting k u => u == 16 * b + i - 1 && (match tfind x.stack k with | some e => isWide e | none => false)
    | _ => false))))).map (16 * b + ·)

/-- Start the demotion of the entry in Stack slot `k`; one whose turf has no free slot is counted in TURF_FULL_SKIP and stays
(R288, R291). -/
def startDemotion (n k : Nat) (d : Dword) (e : List Byte) (s : State) : State × Bool :=
  match demoteSlot (slAt s n) (bucket0 (stackBuckets s) d) (entrySlots e) with
  | none => (slCount n 0x57 1 s, false)
  | some t => (putFlight n { digest := d, ops := [], phase := .demoting k t } s, true)

/-- Is the record of a Stack slot eligible for demotion, apart from its turf (R288)? -/
def demotable (s : State) (x : Slice) (age : Nat) (d : Dword) (e : List Byte) : Bool :=
  !isPtr e && !isPinned e && (wayOf x d).isNone && !busy x d && tickDiff s.tick.count (lastTickOf e) ≥ (2 ^ age : Int)

/-- Examine up to `k` slots and start up to `r` demotions: each slot examined costs one access, and an entry that cannot be read is lost
(R288, R291, R294, R296). -/
def demoteScan (n age : Nat) : Nat → Nat → State → State
  | 0, _, s => s
  | k + 1, r, s =>
    if r = 0 then s
    else
      let x := slAt s n
      let pos := x.demotePos
      let s1 := useBack n (pos / 4 % 8) 1
        (setSl n { x with demotePos := (pos + 1) % (4 * stackBuckets s), walked := x.walked + 1 } s)
      match tfind x.stack pos with
      | none => demoteScan n age k r s1
      | some e =>
        let d := digestOf s (keyOf e)
        if !chanIn s n (pos / 4) || busy x d || (wayOf x d).isSome then demoteScan n age k r s1
        else match readCopy x 1 pos {} e with
          | none => demoteScan n age k r (tagError n d ⟨1, pos⟩ e s1)
          | some _ =>
            if demotable s x age d e then
              let (s2, ok) := startDemotion n pos d e s1
              demoteScan n age k (if ok then r - 1 else r) s2
            else demoteScan n age k r s1

/-- The end of a complete walk above the low watermark: the age falls, or COLD_FULL (R289). -/
def walkEnd (n : Nat) (s : State) : State :=
  let x := slAt s n
  if x.walked < 4 * stackBuckets s then s
  else
    let least := regField s 13 n 0xC 21 16
    let age := x.age.getD (regField s 13 n 0xC 13 8)
    let s1 := setSl n { x with walked := 0, age := some (if age ≤ least then age else age - 1) } s
    if age ≤ least then raise Ev.coldFull (le 1 n ++ le 4 (fillOf x.stack) ++ le 4 (coldFill x)) s1 else s1

/-- DEMOTER_TICK: the demoter's work of one tick, in its turn among the background accesses and within what they have room for (R262,
R288, R289). -/
def demoterTick (n : Nat) (s : State) : State :=
  if !demoting s n ∨ (slAt s n).demoteAt = some s.tick.count ∨ !backAllows s n 2 then s
  else
    let scan := min (min 128 (regField s 13 n 0xC 7 0)) (backRoom s n)
    let rate := min 64 (regField s 13 n 0xB 22 16)
    let age := (slAt s n).age.getD (regField s 13 n 0xC 13 8)
    walkEnd n (demoteScan n age scan rate
      (backServed n 2 (modSl n (fun x => { x with demoteAt := some s.tick.count }) s)))

/-- DEMOTER_TICK. -/
def execDemoterTick (n : Fin 16) (s : State) : Host.Outcome State Fault Refusal := .next (demoterTick n s)

/-- The pointer of a bound primary that has been demoted is to follow it (R290). -/
def pointerItem (e : List Byte) (s : State) : State :=
  match !isPtr e && isBound e, pointerDigest s e with
  | true, some pd => modSl (homeOf pd) (fun x => { x with ptrDemotes := x.ptrDemotes ++ [pd] }) s
  | _, _ => s

/-- A demotion of the entry in Stack slot `k` into turf slot `t` completes (R290, R291, R294). -/
def demoted (n : Nat) (d : Dword) (k t : Nat) (s : State) : State :=
  let x := slAt s n
  match tfind x.stack k with
  | none => s
  | some e =>
    let y := sumSet (t / 16) (t % 16) (fingerprint d) (entrySlots e)
      { x with turf := tput x.turf t e, stack := terase x.stack k }
    pointerItem e (walkMove n e (k / 4) (t / 16) (fillEvents n (slCount n 0x50 1 (setSl n y
      (useTurf n (entrySlots e) (useBack n (k / 4 % 8) 3 s))))))

/-- A failed step of a demotion: 0 the turf write, 1 the summary write, 2 the invalidation.  The last is undone by clearing the turf slot
again, and where that write fails too, the pseudo-channel has failed (R293). -/
def demotionFails (n : Nat) (d : Dword) (k t i : Nat) (s : State) : State :=
  let b := t / 16
  let s1 := migrateAbort n 1 d (if i = 0 then turfAddr t else if i = 1 then summaryAddr s b else stackAddr k) s
  if i = 2 ∧ writeFails (slAt s n) 3 b then memOut false (8 * n + b % 8) (metFail n 3 b s1) else s1

/-- DEMOTION_DONE: the writes of a demotion complete, or one of them fails and the move is undone (R291, R293). -/
def demotionDone (n : Nat) (d : Dword) (fail : Option (Fin 3)) (s : State) : State :=
  match flightAt s n d with
  | some f => (match f.phase with
    | .demoting k t =>
      goOn n d (match fail with
        | none => demoted n d k t s
        | some i => demotionFails n d k t i.val s)
    | _ => s)
  | none => s

/-- DEMOTION_DONE. -/
def execDemotionDone (n : Fin 16) (d : Dword) (fail : Option (Fin 3)) (s : State) : Host.Outcome State Fault Refusal :=
  .next (completeCmds (demotionDone n d fail s))

/-- POINTER_DEMOTE: the next pointer-demotion item, within the migration reservation; a pointer in the Hearth or in flight stays where it
is (R39, R290). -/
def pointerDemote (n : Nat) (s : State) : State :=
  match (slAt s n).ptrDemotes with
  | [] => s
  | pd :: rest =>
    if ownRoom s n 3 = 0 then s
    else
      let s1 := useCycle n 3 (modSl n (fun x => { x with ptrDemotes := rest }) s)
      let x := slAt s1 n
      if busy x pd || (wayOf x pd).isSome || !coldTier s1 n then s1
      else match seek n pd none false s1 with
        | (s2, .hit p e) => if p.tier = 1 ∧ isPtr e then (startDemotion n p.idx pd e s2).1 else s2
        | (s2, _) => s2

/-- POINTER_DEMOTE. -/
def execPointerDemote (n : Fin 16) (s : State) : Host.Outcome State Fault Refusal := .next (pointerDemote n s)

/-! ### Scrubbing and rebuilding -/

/-- The scrubber reads a way that an upset has struck: what SECDED corrects is written back, and an entry that it cannot correct is
lost, unless an operation holds it and meets the error itself (R276, R296; log 56). -/
def scrubWay (n : Nat) (u : CopyUpset) (s : State) : State :=
  match tfind (slAt s n).hearth u.idx with
  | none => s
  | some w =>
    if secdedOk u.u u.was then modSl n (fun x => { x with upsets := x.upsets.filter (· != u) }) s
    else if w.entry = u.was ∧ !busy (slAt s n) w.digest then tagError n w.digest ⟨0, u.idx⟩ w.entry s
    else s

/-- HEARTH_SCRUB: the scrubber reads the next 8 sets (R276). -/
def hearthScrub (n : Nat) (s : State) : State :=
  let pos := (slAt s n).scrubPos
  ((slAt s n).upsets.filter (fun u => u.tier == 0 && decide (pos ≤ u.idx / 16 ∧ u.idx / 16 < pos + 8))).foldl
    (fun s u => scrubWay n u s) (modSl n (fun x => { x with scrubPos := (x.scrubPos + 8) % 16384 }) s)

/-- HEARTH_SCRUB. -/
def execHearthScrub (n : Fin 16) (s : State) : Host.Outcome State Fault Refusal := .next (hearthScrub n s)

/-- An upset strikes a copy, or the summary of a bucket (R296). -/
def strike (v : TierUpset) (s : State) : State :=
  let x := slAt s v.slice
  let was : Option (List Byte) := match v.tier with
    | 0 => (tfind x.hearth v.idx).map (·.entry)
    | 1 => tfind x.stack v.idx
    | 2 => tfind x.turf v.idx
    | _ => some []
  match was with
  | some e => setSl v.slice { x with
      upsets := x.upsets.filter (fun u => !(u.tier == v.tier && u.idx == v.idx)) ++
        [{ tier := v.tier, idx := v.idx, was := e, u := (copyUpset x v.tier v.idx e).with' v.u }] } s
  | none => s

/-- The next write of a place is going to fail (R293). -/
def ailing (p : Nat × Nat × Nat) (s : State) : State :=
  modSl p.1 (fun x => { x with failing := if x.failing.contains p.2 then x.failing else x.failing ++ [p.2] }) s

/-- The summary of bucket `b` as its turf slots spell it (R283, R296). -/
def rebuiltSum (s : State) (b : Nat) (x : Slice) : Slice :=
  (x.turf.filter (fun e => e.1 / 16 == b)).foldl (fun x e =>
    sumSet b (e.1 % 16) (fingerprint (digestOf s (keyOf e.2))) (entrySlots e.2) x) { x with sums := terase x.sums b }

/-- SUMMARY_REBUILD: the first summary that awaits it is rewritten from the 16 slots of its turf, in a cycle of the migration
reservation (R39, R296). -/
def execSummaryRebuild (n : Fin 16) (s : State) : Host.Outcome State Fault Refusal :=
  .next (match (slAt s n).badSums with
    | [] => s
    | b :: rest =>
      if inService s 15 n && ownRoom s n 3 != 0 then
        useCycle n 3 (useBack n (b % 8) 1 (useTurf n 16 (modSl n (fun x => rebuiltSum s b { x with badSums := rest }) s)))
      else s)

end Sys2Proof.Machine
end

