-- ==== Sys2Proof/Machine/Sessions.lean ====
section
/-! DEFINITION. The Toune protocol's own commands: sessions, events, handles, the audit journal and the staging buffer
(R482 to R494, R498 to R504). -/

namespace Sys2Proof.Machine

/-! ### Sessions -/

/-- Is a sink allowed for a session (R483, R493)? -/
def sinkOk (s : State) (sink : Nat) (boot : Bool) : Bool :=
  sink == 0xFFFF || (sink == 0xFFFE && boot) ||
  (decide (1 ≤ sink ∧ sink ≤ 1023) && (hqAt s sink).st != 0 && (hqAt s sink).kind == 9)

/-- The highest version within an offered range and 1 to `top` (R483). -/
def chooseVersion (lo hi top : Nat) : Option Nat :=
  let v := min hi top
  if max lo 1 ≤ v then some v else none

/-- The highest protocol version offered: the boot ROM offers 1 only (R486). -/
def topVersion (s : State) : Nat := if s.sys.recovery then 1 else 3

/-- The free indices of sessions. -/
def freeSessions (s : State) : List Nat := (List.range 32).filter (fun i => !(sessionAt s i).isOpen)

/-- The generation after one of a session index, 0 skipped (R482). -/
def nextSessionGen (g : BitVec 24) : BitVec 24 := if g + 1 = 0 then 1 else g + 1

/-- The record of a session as SESSION_OPEN makes it (R482, R483). -/
def openedSession (s : State) (r : Req) (i v rec' : Nat) : Session :=
  let p := r.payload
  { gen := nextSessionGen (sessionAt s i).gen, isOpen := true, version := BitVec.ofNat 8 v, recVersion := BitVec.ofNat 8 rec'
    keepalive := rd p 4 2, sink := if v = 1 then 0xFFFF else rd p 6 2
    subscribe := if v = 1 then 0 else BitVec.ofNat 16 (rd p 8 2), client := (p.drop 0x10).take 16
    boot := r.route == .bootstrap, lastReq := s.tick.count, mac := BitVec.ofNat 48 (beNat (r.source.take 6)), hp := r.port }

/-- The result of SESSION_OPEN (R483). -/
def openResult (s : State) (r : Req) (id : Word) (v rec' : Nat) : List Byte :=
  le 4 id.toNat ++ le 1 v ++ le 1 rec' ++ le 1 (openSessions s).length ++ le 1 0 ++ le 8 Config.serial.toNat ++
  le 4 s.sys.fw.toNat ++ le 4 0 ++ le 8 (frcAt s r.cycle).toNat

/-- SESSION_OPEN (R429, R482, R483).  Which free index it takes is open. -/
def bodySessionOpen (r : Req) (s : State) : State × Reply :=
  let p := r.payload
  let top := topVersion s
  if p.length ≠ 48 ∨ !zeros p 0xA 6 ∨ !zeros p 0x20 16 ∨ r.session ≠ 0 then (s, .no St.eArg)
  else match chooseVersion (rd p 0 1) (rd p 1 1) top, chooseVersion (rd p 2 1) (rd p 3 1) 1 with
    | some v, some rec' =>
      if rd p 4 2 > 3600 then (s, .no St.eRange)
      else if v ≠ 1 ∧ !sinkOk s (rd p 6 2) (r.route == .bootstrap) then (s, .no St.eArg)
      else
        let free := freeSessions s
        if free = [] then (s, .no St.eNospace)
        else
          let i := free.getD ((freeBits 32 s).toNat % free.length) 0
          let s1 := setSession i (openedSession s r i v rec') (drawn s)
          let id := sessionId s1 i
          let mac := BitVec.ofNat 48 (beNat (r.source.take 6))
          let s2 := if r.route = .bootstrap then
              s1.setToune { s1.toune with
                bootOpens := s1.toune.bootOpens.filter (fun e => e.1 != mac) ++ [(mac, r.sequence, id)] }
            else s1
          (s2, { payload := openResult s2 r id v rec', newSession := some id })
    | _, _ => (s, { status := St.eVersion, payload := le 1 1 ++ le 1 top ++ le 1 1 ++ le 1 1 })

/-- What a session has latched or holds, without session index `i` (R579, R580). -/
def unlatch (i : Nat) (m : Table Word) : Table Word := m.filter (fun e => e.1 / 2 ^ 32 != i)

/-- SESSION_CLOSED: a session closes with a cause: 0 command, 1 keepalive, 2 closed by another session (R485, R505). -/
def closeSession (i cause : Nat) (s : State) : State :=
  let id := sessionId s i
  let handles := s.toune.handles.map (fun e =>
    if e.2.session = id ∧ e.2.st = .done then (e.1, ({ gen := e.2.gen } : Handle)) else e)
  let s0 := s.setPrm { s.prm with latches := unlatch i s.prm.latches, held := unlatch i s.prm.held }
  let s1 := s0.setToune { s0.toune with handles := handles }
  raise Ev.sessionClosed (le 4 id.toNat ++ le 1 cause) (setSession i { gen := (sessionAt s i).gen } s1)

/-- SESSION_CLOSE (R485): 0 names the session's own. -/
def bodySessionClose (r : Req) (s : State) : State × Reply :=
  let id : Word := BitVec.ofNat 32 (rd r.payload 0 4)
  if r.payload.length ≠ 4 then (s, .no St.eArg)
  else if id = 0 ∨ id = r.session then (closeSession (sessionIdx r.session) 0 s, .yes [])
  else if !sessionOpen? s id then (s, .no St.eSession)
  else (closeSession (sessionIdx id) 2 s, .yes [])

/-- SESSION_PING (R504). -/
def bodySessionPing (r : Req) (s : State) : State × Reply :=
  if r.payload ≠ [] then (s, .no St.eArg) else (s, .yes [])

/-- SESSION_QUERY (R504): of the session named (4), 0 naming the own: identity (4), version (1), record version (1),
keepalive (2), sink (2), subscribe mask (2), event count (4) and client (16). -/
def bodySessionQuery (r : Req) (s : State) : State × Reply :=
  let a : Word := BitVec.ofNat 32 (rd r.payload 0 4)
  let id := if a = 0 then r.session else a
  if r.payload.length ≠ 4 then (s, .no St.eArg)
  else if !sessionOpen? s id then (s, .no St.eSession)
  else
    let x := sessionAt s (sessionIdx id)
    (s, .yes (le 4 id.toNat ++ le 1 x.version.toNat ++ le 1 x.recVersion.toNat ++ le 2 x.keepalive ++ le 2 x.sink ++
      le 2 x.subscribe.toNat ++ le 4 x.evCount.toNat ++ padTo 16 x.client))

/-- Insertion into a rising list. -/
def insertNat (x : Nat) : List Nat → List Nat
  | [] => [x]
  | y :: ys => if x ≤ y then x :: y :: ys else y :: insertNat x ys

/-- Every opcode, rising (R504). -/
def allOps : List Nat := (queryOps ++ stateOps).foldl (fun l x => insertNat x l) []

/-- COMMAND_VERSIONS (R502): from a start opcode (2) onward, every opcode with command version 1. -/
def bodyCommandVersions (r : Req) (s : State) : State × Reply :=
  if r.payload.length ≠ 2 then (s, .no St.eArg)
  else (s, .yes (((allOps.filter (fun o => decide (rd r.payload 0 2 ≤ o))).take 1000).flatMap
    (fun o => le 2 o ++ le 1 1 ++ le 1 1)))

/-- EVENT_SUBSCRIBE (R493): sink (2) and mask (2). -/
def bodyEventSubscribe (r : Req) (s : State) : State × Reply :=
  let i := sessionIdx r.session
  let x := sessionAt s i
  if r.payload.length ≠ 4 ∨ !sinkOk s (rd r.payload 0 2) x.boot then (s, .no St.eArg)
  else (setSession i { x with sink := rd r.payload 0 2, subscribe := BitVec.ofNat 16 (rd r.payload 2 2) } s, .yes [])

/-- SESSION_KEEPALIVE_EXPIRY: no request has named a session for three times its keepalive (R485). -/
def keepaliveExpiry (i : Nat) (s : State) : State :=
  let x := sessionAt s i
  if x.isOpen ∧ x.keepalive ≠ 0 ∧ ticksSince s.tick.count x.lastReq ≥ 3000000 * x.keepalive then closeSession i 1 s else s

/-! ### Handles -/

/-- The operations that a cancel stops although they have started (R492). -/
def cancelOps : List Nat := [Op.rehash, Op.flowSweep, Op.flowRepin, Op.turfEvacuate, Op.calRun]

/-- Would a cancel of an operation take effect (R492)? -/
def cancellable (x : Handle) : Bool :=
  x.st == .running && x.ended.isNone && (!x.started || cancelOps.contains x.opcode)

/-- The handle that an argument of 4 bytes names. -/
def argHandle (p : List Byte) : Word := BitVec.ofNat 32 (rd p 0 4)

/-- HANDLE_QUERY (R491). -/
def bodyHandleQuery (r : Req) (s : State) : State × Reply :=
  let h := argHandle r.payload
  if r.payload.length ≠ 4 then (s, .no St.eArg)
  else if !handleValid s h then (s, .no St.eHandle)
  else
    let x := handleAt s (handleIdx h)
    let done := x.st == .done
    (s, .yes (le 4 h.toNat ++ le 1 (if done then 2 else 1) ++ le 1 (b2n (cancellable x)) ++ le 2 x.opcode ++
      le 4 x.session.toNat ++ le 2 (if done then x.status.toNat else 0) ++ le 2 x.result.length ++ le 8 x.startTick.toNat ++
      le 8 (if done then x.endTick.toNat else 0) ++ padTo 368 x.result))

/-- HANDLE_CANCEL (R492): the outcome, 0 CANCELLING or 1 DONE. -/
def bodyHandleCancel (r : Req) (s : State) : State × Reply :=
  let h := argHandle r.payload
  if r.payload.length ≠ 4 then (s, .no St.eArg)
  else if !handleValid s h then (s, { status := St.eHandle, argHandle := h })
  else
    let x := handleAt s (handleIdx h)
    if x.st = .done ∨ x.ended.isSome then (s, { payload := le 1 1, argHandle := h })
    else if x.cancelling ∨ cancellable x then
      (setHandle (handleIdx h) { x with cancelling := true } s, { payload := le 1 0, argHandle := h })
    else (s, { status := St.eBusy, argHandle := h })

/-- HANDLE_RELEASE (R489): a DONE handle is free. -/
def bodyHandleRelease (r : Req) (s : State) : State × Reply :=
  let h := argHandle r.payload
  if r.payload.length ≠ 4 then (s, .no St.eArg)
  else if !handleValid s h then (s, { status := St.eHandle, argHandle := h })
  else
    let x := handleAt s (handleIdx h)
    if x.st ≠ .done then (s, { status := St.eBusy, argHandle := h })
    else (setHandle (handleIdx h) { gen := x.gen } s, { argHandle := h })

/-- HANDLE_RETENTION_EXPIRY: a DONE handle is free 67,108,864 ticks after its completion (R489). -/
def retentionExpiry (i : Nat) (s : State) : State :=
  let x := handleAt s i
  if x.st = .done ∧ ticksSince s.tick.count x.endTick ≥ 67108864 then setHandle i { gen := x.gen } s else s

/-- OP_DONE: a long operation that has ended, and has no event of its own, completes (R489, R490). -/
def opDone (i : Nat) (s : State) : State :=
  let x := handleAt s i
  match x.ended with
  | some (st, fields) =>
    if x.st = .running then
      complete Ev.opDone (BitVec.ofNat 32 (0x1000000 * x.gen.toNat + i)) st fields (setHandle i { x with ended := none } s)
    else s
  | none => s

/-! ### The audit journal -/

/-- An audit record as bytes (R499). -/
def AuditRec.bytes (a : AuditRec) : List Byte :=
  le 8 a.index.toNat ++ le 8 a.frc.toNat ++ le 2 a.opcode ++ le 2 a.status.toNat ++ le 4 a.session.toNat ++
  le 4 a.sequence.toNat ++ le 4 a.handle.toNat ++
  le 1 (match a.route with | .bootstrap => 0 | .mailbox => 1 | .queue => 2) ++ le 1 (b2n a.untrusted + 2 * b2n a.hp1) ++
  le 2 a.qp.toNat ++ le 2 a.queue.toNat ++ le 2 a.cmdVersion.toNat ++ padTo 16 a.source ++ le 8 a.digest.toNat

/-- One record goes to the audit mirror, which overwrites its oldest (R500). -/
def mirrorRecord (a : AuditRec) (s : State) : State :=
  if !ringOn s 9 then s
  else
    let x := ringAt s 9
    let (y, _) := overwrite (ringSize s 9) 1 (x.items.length + 1) x
    ringPut 9 1 a.bytes (setRing 9 y s)

/-- The audit mirror takes the records written since it last did (R500). -/
def mirrorAudits (s : State) : State :=
  let todo := s.toune.audit.filter (fun a => decide (s.toune.mirrorNext.toNat ≤ a.index.toNat))
  let s1 := s.setToune { s.toune with mirrorNext := s.toune.auditNext }
  if !inService s 24 0 then s1 else todo.foldl (fun s a => mirrorRecord a s) s1

/-- Every record held, in index order: those that only the mirror holds first (R501). -/
def heldRecords (s : State) : List (Nat × List Byte) :=
  let chip := s.toune.audit.map (fun a => (a.index.toNat, a.bytes))
  let first := match chip with | [] => s.toune.auditNext.toNat | e :: _ => e.1
  let mirror := (((ringAt s 9).items.filter (fun e => e.2.2 != [])).map (fun e => (rd e.2.2 0 8, e.2.2))).filter
    (fun e => decide (e.1 < first))
  mirror ++ chip

/-- AUDIT_READ (R501): start index (8) and count (1). -/
def bodyAuditRead (r : Req) (s : State) : State × Reply :=
  let start := rd r.payload 0 8
  let n := rd r.payload 8 1
  if r.payload.length ≠ 9 ∨ n = 0 ∨ n > 63 then (s, .no St.eArg)
  else
    let held := heldRecords s
    let oldest := match held with | [] => s.toune.auditNext.toNat | e :: _ => e.1
    (s, .yes (le 8 s.toune.auditNext.toNat ++ le 8 oldest ++
      ((held.filter (fun e => decide (start ≤ e.1))).take n).flatMap (·.2)))

/-! ### The staging buffer -/

/-- STAGE_WRITE (R487): offset (4), length (4) and the data. -/
def bodyStageWrite (r : Req) (s : State) : State × Reply :=
  let p := r.payload
  let n := rd p 4 4
  if p.length < 8 ∨ p.length ≠ 8 + n ∨ n = 0 ∨ n > 4000 then (s, .no St.eArg)
  else if rd p 0 4 + n > 65536 then (s, .no St.eRange)
  else
    let i := sessionIdx r.session
    let x := sessionAt s i
    (setSession i { x with staging := putBytes x.staging (rd p 0 4) (p.drop 8) } s, .yes [])

/-! ### The meanings -/

/-- SESSION_OPEN. -/
def execSessionOpen (r : Req) (s : State) : Host.Outcome State Fault Refusal :=
  .next (runToune Op.sessionOpen bodySessionOpen r s)
/-- SESSION_CLOSE. -/
def execSessionClose (r : Req) (s : State) : Host.Outcome State Fault Refusal :=
  .next (runToune Op.sessionClose bodySessionClose r s)
/-- SESSION_PING. -/
def execSessionPing (r : Req) (s : State) : Host.Outcome State Fault Refusal :=
  .next (runToune Op.sessionPing bodySessionPing r s)
/-- SESSION_QUERY. -/
def execSessionQuery (r : Req) (s : State) : Host.Outcome State Fault Refusal :=
  .next (runToune Op.sessionQuery bodySessionQuery r s)
/-- COMMAND_VERSIONS. -/
def execCommandVersions (r : Req) (s : State) : Host.Outcome State Fault Refusal :=
  .next (runToune Op.commandVersions bodyCommandVersions r s)
/-- EVENT_SUBSCRIBE. -/
def execEventSubscribe (r : Req) (s : State) : Host.Outcome State Fault Refusal :=
  .next (runToune Op.eventSubscribe bodyEventSubscribe r s)
/-- HANDLE_QUERY. -/
def execHandleQuery (r : Req) (s : State) : Host.Outcome State Fault Refusal :=
  .next (runToune Op.handleQuery bodyHandleQuery r s)
/-- HANDLE_CANCEL. -/
def execHandleCancel (r : Req) (s : State) : Host.Outcome State Fault Refusal :=
  .next (runToune Op.handleCancel bodyHandleCancel r s)
/-- HANDLE_RELEASE. -/
def execHandleRelease (r : Req) (s : State) : Host.Outcome State Fault Refusal :=
  .next (runToune Op.handleRelease bodyHandleRelease r s)
/-- AUDIT_READ. -/
def execAuditRead (r : Req) (s : State) : Host.Outcome State Fault Refusal :=
  .next (runToune Op.auditRead bodyAuditRead r s)
/-- STAGE_WRITE. -/
def execStageWrite (r : Req) (s : State) : Host.Outcome State Fault Refusal :=
  .next (runToune Op.stageWrite bodyStageWrite r s)
/-- SESSION_KEEPALIVE_EXPIRY. -/
def execSessionKeepaliveExpiry (i : Fin 32) (s : State) : Host.Outcome State Fault Refusal := .next (keepaliveExpiry i s)
/-- HANDLE_RETENTION_EXPIRY. -/
def execHandleRetentionExpiry (i : Fin 4096) (s : State) : Host.Outcome State Fault Refusal := .next (retentionExpiry i s)
/-- OP_DONE. -/
def execOpDone (i : Fin 4096) (s : State) : Host.Outcome State Fault Refusal := .next (opDone i s)

end Sys2Proof.Machine
end

