-- ==== Sys2Proof/Machine/Values.lean ====
section
/-! DEFINITION. What the read-only words of the parameter space show of the state (R54, R102 to R104, R128, R155, R182,
R183, R203, R232, R265, R297, R324, R344, R370, R371, R400, R424, R440, R471, R472, R500, R517, R531, R553, R572, R582
to R587). -/

namespace Sys2Proof.Machine

/-- The 32-bit word `i` of a value. -/
def wordAt (v i : Nat) : Nat := v / 2 ^ (32 * i) % 2 ^ 32

/-- The numbers of bits set as a mask. -/
def maskOf (n : Nat) (f : Nat → Bool) : Nat := ((List.range n).map (fun i => 2 ^ i * b2n (f i))).sum

/-- The state field of a unit's STATUS word. -/
def stateCode (s : State) (cls inst : Nat) : Nat := (unitState s ⟨cls, inst⟩).code

/-! ### The safety digest -/

/-- CRC-32C over the 1,024 templates in force (R538). -/
def templateCrc (s : State) : Word := crc32c ((List.range 1024).map (templateAt s)).flatten

/-- The bytes over which the safety digest runs (R572). -/
def digestBytes (s : State) : List Byte :=
  ((List.range 3).map (fun w => le 4 (reg s 1 0 (4 + w)).toNat)).flatten ++
  ((List.range 4).map (fun p =>
    let b := activeProf (pipeAt s p)
    padTo 17472 (if b.valid then b.image else []))).flatten ++
  ((List.range 64).map (fun b => le 4 (reg s 10 b 1).toNat)).flatten ++
  ((List.range 128).map (fun k => le 4 (reg s 14 k 0).toNat)).flatten ++
  le 4 (rd (s.flow.prog.getD []) 12 4) ++ le 4 (templateCrc s).toNat

/-- ZAL[0].SAFETY_DIGEST (R572). -/
def safetyDigest (s : State) : Word := crc32c (digestBytes s)

/-- Would RESUME be accepted (R567)? -/
def resumeOk (s : State) : Bool := s.sys.mode == .safe && s.sys.pendingMode.isNone && (resumeBlock s).isNone

/-! ### Words of each class -/

/-- DEV (R582), but for the entropy. -/
def roDev (s : State) : Nat → Nat
  | 0 => 0xA1005339 + 2 ^ 16 * b2n Config.orderX
  | 1 => wordAt Config.serial.toNat 0
  | 2 => wordAt Config.serial.toNat 1
  | 3 => s.sys.mode.code + (match s.sys.pendingMode with | some q => 8 + 16 * q.target.code | none => 0) +
      128 * b2n (unitsOut s != [])
  | 4 => s.sys.bootMode.toNat + 4 * b2n s.sys.twinRole + 8 * b2n s.sys.slotB + 16 * b2n s.sys.recovery +
      32 * s.jnl.channels.length + 1024 * b2n s.sys.grade
  | 5 => s.sys.kindlingMs.toNat
  | _ => 0

/-- ZAL (R572). -/
def roZal (s : State) : Nat → Nat
  | 0 => b2n (s.sys.mode == .safe) + 2 * b2n s.zal.lockstepOk + 4 * b2n s.zal.reqLevel + 8 * b2n (resumeOk s) +
      16 * b2n s.zal.scopeAll + 256 * s.zal.cause
  | 1 => (s.zal.status ||| s.zal.selftest).toNat
  | 2 => s.zal.lastCause + 256 * s.zal.lastCls + 65536 * s.zal.lastInst
  | 3 => s.zal.faultTick.toNat
  | 7 => (safetyDigest s).toNat
  | 0xA => s.zal.logNext.toNat
  | _ => 0

/-- Words 0 to 9 of a domain (R400). -/
def domWord (s : State) (b : Bool) (j : Nat) : Nat :=
  let d := domAt s b
  match d.now, j with
  | none, 0 => 2 * d.servo + 8 * b2n (stampsInvalid s)
  | none, _ => 0
  | some x, 0 => 1 + 2 * d.servo + 8 * b2n (stampsInvalid s) + 65536 * x.epoch.toNat
  | some x, 1 => x.seq.toNat
  | some x, 2 => wordAt x.anchor.toNat 0
  | some x, 3 => wordAt x.anchor.toNat 1
  | some x, 4 => wordAt x.baseS 0
  | some x, 5 => wordAt x.baseS 1 % 65536
  | some x, 6 => x.baseNs
  | some x, 7 => x.baseFrac
  | some x, 8 => wordAt (BitVec.ofInt 40 x.rate).toNat 0
  | some x, 9 => wordAt (BitVec.ofInt 40 x.rate).toNat 1
  | some _, _ => 0

/-- TU (R400), read in core cycle `c`. -/
def roTu (s : State) (c w : Nat) : Nat :=
  if w ≥ 0x40 then domWord s (w ≥ 0x50) (w % 16)
  else if 0x10 ≤ w ∧ w < 0x30 then (tsiAt s ((w - 0x10) / 4)).fifo.length
  else match w with
    | 0 => b2n s.tick.running + 2 * b2n s.tu.disagree + 4 * b2n s.tu.frcFail + 8 * b2n (s.tu.trefAlarm || s.tu.pllAlarm)
    | 1 => if s.tick.running then wordAt (frcAt s c).toNat 0 else 0
    | 2 => if s.tick.running then wordAt (frcAt s c).toNat 1 else 0
    | 3 => s.tu.tref % 4 + 4 * b2n (s.tick.running && !s.tu.trefAlarm) + 8 * b2n (s.tu.locked && !s.tu.pllAlarm)
    | 4 => b2n s.tu.selected + 2 * b2n s.tu.switchPending
    | 7 => s.tu.frcCount
    | _ => 0

/-- TICK (R54). -/
def roTick (s : State) : Nat → Nat
  | 0 => wordAt s.tick.count.toNat 0
  | 1 => wordAt s.tick.count.toNat 1
  | 2 => wordAt s.tick.startFrc.toNat 0
  | 3 => wordAt s.tick.startFrc.toNat 1
  | 0xD => s.tick.overrunCls + 256 * s.tick.overrunInst
  | 0xE => s.tick.overrunTick.toNat
  | _ => 0

/-- LANE (R102): the CTLE setting in use is that of RX_CTRL where its override is set. -/
def roLane (s : State) (k w : Nat) : Nat :=
  let l := tgetD (fun _ => {}) s.ports.lane k
  match w with
  | 4 => l.dfe.toNat
  | 5 => b2n l.signal + 2 * b2n l.cdrLock + 4 * b2n (l.idle || bitOf (reg s 4 k 0).toNat 2) +
      8 * (if bitOf (reg s 4 k 3).toNat 5 then regField s 4 k 3 4 0 else l.ctle.toNat) +
      256 * l.snr.toNat
  | _ => 0

/-- The code of a port state (R104). -/
def PortState.code : PortState → Nat
  | .disabled => 0 | .an => 1 | .train => 2 | .align => 3 | .up => 4 | .fault => 5

/-- PORT (R104). -/
def roPort (s : State) (n w : Nat) : Nat :=
  let x := portAt s n
  if w = 1 then
    x.st.code + 8 * x.mode + 128 * x.fec + 512 * b2n x.localFault + 1024 * b2n x.remoteFault
  else 0

/-- PG (R103): the fill of a share is 0 where no port starts. -/
def roPg (s : State) (g w : Nat) : Nat :=
  let fill := fun l => if portExists s (8 * g + l) then fifoFill s (8 * g + l) else 0
  if w = 3 then ((List.range 8).map fill).sum
  else if 4 ≤ w ∧ w < 12 then fill (w - 4)
  else 0

/-- PIPE (R587). -/
def roPipe (s : State) (p : Nat) : Nat → Nat
  | 0 => stateCode s 7 p
  | 1 => (pipeAt s p).frontPrev + 65536 * (pipeAt s p).svcPrev
  | _ => 0

/-- PARSE (R128). -/
def roParse (s : State) (p : Nat) : Nat → Nat
  | 0 =>
    let x := pipeAt s p
    b2n x.graphActive + 2 * b2n x.graph0.valid + 4 * b2n x.graph1.valid + 8 * b2n x.graphPending +
      16 * b2n (bankDraining s p true)
  | 1 => imageId (pipeAt s p).graph0
  | 2 => imageId (pipeAt s p).graph1
  | _ => 0

/-- CLS (R155): the masks in force stand in the active profile image. -/
def roCls (s : State) (p w : Nat) : Nat :=
  let x := pipeAt s p
  if 0x200 ≤ w then
    let i := (w - 0x200) / 2
    let half := (w - 0x200) % 2
    let b := activeProf x
    if b.valid then imageMask b.image i (2 * half) + 65536 * imageMask b.image i (2 * half + 1) else 0
  else match w with
    | 0 => b2n x.profActive + 2 * b2n x.prof0.valid + 4 * b2n x.prof1.valid + 8 * b2n x.profPending +
        16 * b2n x.commitPending + 32 * b2n (bankDraining s p false)
    | 1 => imageId x.prof0
    | 2 => imageId x.prof1
    | _ => 0

/-- RB (R182, R183). -/
def roRb (s : State) (b w : Nat) : Nat :=
  if b = 64 then
    match w with
    | 2 => s.path.gov.tg + 4096 * b2n s.path.gov.primed
    | 3 => (pipeAt s 0).cap
    | _ => 0
  else
    let x := bankAt s b
    match w with
    | 2 => stateCode s 10 b + 4 * b2n x.run.isSome + 8 * x.queue.length + 1024 * b2n (x.lost != []) +
        2048 * b2n (searched s b)
    | 3 => (validEntries x.rows (bankWidth s b)).length
    | 4 => x.scrubPos
    | 6 => x.lastRepairRow + 65536 * x.lastRepairTick.toNat
    | 8 => (x.lost.foldl min 2048) % 2048
    | _ => 0

/-- FWD (R203). -/
def roFwd (s : State) (p w : Nat) : Nat :=
  let x := fwdAt s p
  match w with
  | 0 =>
    let dual := fun t => b2n (tgetD (fun _ => []) x.dual t != [] || tgetD (fun _ => []) x.closing t != [])
    dual 0 + 2 * dual 1 + 4 * b2n (x.rehash != [])
  | 3 | 4 | 5 | 6 => (x.seeds.getD (w - 3) 0).toNat
  | 8 => x.l2.length
  | 9 => (x.l3.map (fun e => l3Kind.slots e.2)).sum
  | 0xA => x.lpm4.length
  | 0xB => x.lpm6.length
  | 0xC => match x.rehash with | o :: _ => o.walked | [] => 0
  | _ => 0

/-- The running pass of one kind as its status word shows it: running, and the index of its handle. -/
def passWord (s : State) (op : Nat) : Nat :=
  match s.flow.sweep with
  | some p => if p.opcode = op then 1 + 256 * handleIdx p.handle else 0
  | none => 0

/-- FS (R232, R265, R297, R324). -/
def roFs (s : State) (n w : Nat) : Nat :=
  if n = 16 then
    match w with
    | 0 => b2n s.flow.prog.isSome + 2 * b2n (s.sys.deferred.any (fun d => match d.change with
        | .progLoad _ | .templates _ => true
        | _ => false))
    | 1 => rd (s.flow.prog.getD []) 12 4
    | 2 => (s.flow.templates.filter (fun e => bitOf (rd e.2 1 1) 0)).length
    | 0x13 => passWord s Op.flowSweep
    | 0x29 => passWord s Op.flowRepin
    | _ => 0
  else
    let x := slAt s n
    match w with
    | 0 => b2n (accepting x) + 2 * b2n (x.flights.length ≥ 8192) + 4 * b2n (waiters x ≥ 2048) +
        8 * b2n (x.punts.length ≥ 512) + 16 * b2n (x.createQ.length ≥ 1024)
    | 1 => x.flights.length + 65536 * waiters x
    | 2 => x.createQ.length
    | 3 => x.punts.length
    | 5 => min 4095 x.opsPrev + 65536 * min 4095 x.accessesPrev
    | 7 => waysUsed x
    | 8 => waysPinned x
    | 9 => fillOf x.stack
    | 0xA => coldFill x
    | 0xD => b2n (coldTier s n) + 2 * b2n (demoting s n) + 4 * (x.age.getD (regField s 13 n 0xC 13 8)) +
        256 * b2n x.atLimit + 512 * maskOf 8 (fun k => !inService s 14 (8 * n + k)) + 2 ^ 17 * b2n (!inService s 15 n)
    | 0xE => x.holdQ.length
    | 0xF => x.wheel.length + 2 ^ 17 * min 32767 ((x.wheel.filter (due s)).length)
    | _ => 0

/-- HBMC and DDRC (R424). -/
def roMem (s : State) (c : Bool) (k w : Nat) : Nat :=
  let x := memAt s c k
  if k ≥ (if c then 16 else 128) then 0
  else match w with
    | 1 => stateCode s (memCls c) k + 4 * b2n x.poweredDown + 8 * b2n x.draining.isSome + 16 * x.temp.toNat +
        4096 * b2n x.hotRate + (if c then 8192 * x.dimms + 32768 * b2n s.sys.grade else 0)
    | 2 => x.scrubPos
    | 9 => wordAt x.id0.toNat 0
    | 0xA => wordAt x.id0.toNat 1
    | 0xB => wordAt x.id1.toNat 0
    | 0xC => wordAt x.id1.toNat 1
    | _ => 0

/-- BM (R370). -/
def roBm (s : State) (d w : Nat) : Nat :=
  if 0x400 ≤ w then
    let o := w - 0x400
    let x := bmAt s d
    let head := tgetD (fun _ => 0) x.headroom o
    tgetD (fun _ => 0) x.reserved o + tgetD (fun _ => 0) x.shared o + head + 2 ^ 30 * b2n (head != 0) +
      2 ^ 31 * b2n (decide (o / 8 < 130) && (tfind (portAt s (o / 8)).xoff (o % 8)).isSome)
  else match w with
    | 3 => sharedSize s d
    | 7 => sharedFree s d
    | 8 => headroomFree s d
    | 9 => hostFree s d
    | _ => 0

/-- EGR (R371). -/
def roEgr (s : State) (n w : Nat) : Nat :=
  let x := egrAt s n
  if w = 0xD then
    maskOf 8 (classPaused s n) + 256 * maskOf 8 (fun c => (tfind x.stalled c).isSome) + 65536 * b2n (egressOff s n) +
      131072 * b2n x.calSuspended
  else if 0x10 ≤ w then
    ((x.q (w - 0x10)).map (fun k => match storedAt s k with | some y => cellsOf y.bytes.length | none => 0)).sum
  else 0

/-- HQ (R471). -/
def roHq (s : State) (q w : Nat) : Nat :=
  let x := hqAt s q
  if x.st = 0 ∧ w < 6 then 0
  else match w with
    | 0 => x.st + 4 * x.kind + 64 * rd x.arg 3 1 + 2048 * x.cause + 32768 * b2n x.fullEpisode + 65536 * (x.cq % 1024) +
        2 ^ 26 * b2n x.lost
    | 1 => x.doorbell.toNat
    | 2 => x.fetched.toNat
    | 3 => x.head.toNat
    | 4 => x.held.length
    | 5 => (x.jobs.filter (fun j => j.begun && !j.written)).length
    | _ => 0

/-- QP (R440). -/
def roQp (s : State) (q w : Nat) : Nat :=
  if q = 256 then
    if w = 0x12 then (s.host.qp.filter (fun e => e.2.st != 0)).length + 512 * b2n (peatSize s != 0) else 0
  else
    let x := qpAt s q
    match w with
    | 0 => x.st + 4 * (if x.st = 0 then 0 else x.port) + 256 * x.cause
    | 1 => x.sqPsn.toNat
    | 2 => x.rqPsn.toNat
    | 3 => match x.out with | r :: _ => r.psn.toNat | [] => x.sqPsn.toNat
    | _ => 0

/-- DX (R472). -/
def roDx (s : State) (c w : Nat) : Nat :=
  match w with
  | 1 => match dxQueue s c with
    | some q => 1 + 2 * b2n (dxJob s q).isSome + 4 * q
    | none => 0
  | 2 => (tgetD (fun _ => 0) s.host.dxBytes c).toNat
  | 5 => (tgetD (fun _ => 0) s.host.lastBad c).toNat
  | _ => 0

/-- SC (R517). -/
def roSc (s : State) (d w : Nat) : Nat :=
  let x := scDie s d
  if 0x20 ≤ w ∧ w < 0x30 then
    let k := coreAt x (w - 0x20)
    match k.running with
    | some i => k.load + 65536 + 2 ^ 17 * itemPrio s d i + 2 ^ 20 * i.work.cls
    | none => k.load
  else if 0x18 ≤ w ∧ w < 0x20 then (x.ready.filter (fun i => itemPrio s d i == w - 0x18)).length
  else if 0x10 ≤ w ∧ w < 0x18 then classUse x (w - 0x10)
  else match w with
    | 0 => maskOf 16 (fun j => (coreAt x j).running.isNone) + 65536 * maskOf 16 (fun j => !coreIn s d j)
    | 2 => x.delay.length
    | 4 => ctxUse x
    | _ => 0

/-- The occupancy of a unit of R521; the accesses inside a memory controller are a free value. -/
def occupancy (s : State) (i u : Nat) : Nat :=
  if i = 32 then
    let x := hqAt s u
    if x.st = 0 then 0 else if x.submits then (x.doorbell - x.head).toNat else (x.head - x.doorbell).toNat
  else if u < 6 then
    match u % 3 with
    | 0 => sumCells (bmAt s (u / 3)).shared
    | 1 => sumCells (bmAt s (u / 3)).headroom
    | _ => (bmAt s (u / 3)).hostUsed
  else if 16 ≤ u ∧ u < 80 then (bankAt s (u - 16)).queue.length
  else if 128 ≤ u ∧ u < 272 then (freeBits 32 s).toNat % 129
  else if 272 ≤ u then (slAt s (u - 272)).holdQ.length
  else 0

/-- PMON (R531). -/
def roPmon (s : State) (i w : Nat) : Nat :=
  if i = 32 ∨ i = 33 then
    match w % 8 with
    | 2 => wordAt (counter s (paddr 22 i w)) 0
    | 3 => wordAt (counter s (paddr 22 i (w - 1))) 1
    | 4 => wordAt (counter s (paddr 22 i w)) 0
    | 5 => wordAt (counter s (paddr 22 i (w - 1))) 1
    | 6 => occupancy s i (w / 8)
    | _ => 0
  else if 0x100 ≤ w then
    if w % 2 = 0 then wordAt (counter s (paddr 22 i w)) 0 else wordAt (counter s (paddr 22 i (w - 1))) 1
  else match w with
    | 4 => wordAt (smpAt s (i - 1)).write.toNat 0
    | 5 => wordAt (smpAt s (i - 1)).write.toNat 1
    | _ => 0

/-- The code of a pair state (R553). -/
def PairState.code : PairState → Nat
  | .alone => 0 | .forming => 1 | .incompatible => 2 | .split => 3 | .rejoining => 4 | .inSync => 5 | .outOfSync => 6

/-- The code of a half-link state (R553). -/
def LinkState.code : LinkState → Nat
  | .down => 0 | .hunt => 1 | .align => 2 | .up => 3

/-- TWIN (R553). -/
def roTwin (s : State) (i w : Nat) : Nat :=
  if i ≠ 0 then
    let x := halfAt s (i - 1)
    match w with
    | 0 => x.st.code + 256 * x.locked.toNat
    | 1 => x.order.toNat
    | _ => 0
  else match w with
    | 1 => s.twin.role + 4 * s.twin.pair.code + 32 * b2n s.sys.twinRole + 64 * b2n s.twin.peerPin + 256 * s.twin.version
    | 2 => s.twin.missed
    | 3 => wordAt s.twin.offset.toNat 0
    | 4 => wordAt s.twin.offset.toNat 1
    | 5 => (lagAt s 0).length + 65536 * (lagAt s 1).length
    | 6 => s.twin.sent0.toNat
    | 7 => s.twin.sent1.toNat
    | 8 => s.twin.applied0.toNat
    | 9 => s.twin.applied1.toNat
    | 0xA => s.twin.buckets
    | 0xB => s.twin.mismatch
    | 0xC => wordAt s.twin.peerSerial.toNat 0
    | 0xD => wordAt s.twin.peerSerial.toNat 1
    | _ => 0

/-- JNL (R344, R500). -/
def roJnl (s : State) (i w : Nat) : Nat :=
  let x := ringAt s i
  match w with
  | 8 => wordAt x.write.toNat 0
  | 9 => wordAt x.write.toNat 1
  | 0xA => wordAt x.read.toNat 0
  | 0xB => wordAt x.read.toNat 1
  | 0xE =>
    if i = 9 then b2n (inPeat s && ringSize s i != 0)
    else b2n (inPeat s && ringSize s i != 0) + 2 * b2n (ringSize s i != 0 && ringUse x == ringSize s i) +
      (match x.queue with | some q => 4 + 8 * q | none => 0)
  | _ => 0

/-- CAL (R586). -/
def roCal (s : State) : Nat → Nat
  | 0 => b2n s.cal.valid + 2 * b2n s.cal.copy + 4 * b2n s.cal.storing + 8 * b2n s.cal.defaults
  | 1 => s.cal.sequence.toNat
  | 2 => s.cal.origin.toNat
  | _ => 0

/-- MC (R585); the load of its cores is a free value. -/
def roMc (s : State) (w : Nat) : Nat :=
  if 8 ≤ w then (freeBits 32 s).toNat % 1025
  else match w with
    | 0 => s.sys.fw.toNat
    | 1 => (openSessions s).length
    | 2 => (s.toune.handles.filter (fun e => e.2.st != .free)).length
    | 3 => (s.host.slot.filter (fun e => e.2.busy)).length
    | 4 => wordAt s.toune.auditNext.toNat 0
    | 5 => wordAt s.toune.auditNext.toNat 1
    | _ => 0

/-- The read-only bits of a word, and the bits that a write of ones clears, as the state has them, read in core cycle
`c`. -/
def roBits (s : State) (c a : Nat) : Nat :=
  let i := addrInst a
  let w := addrWord a
  match addrClass a with
  | 0 => roDev s w
  | 1 => roZal s w
  | 2 => if i = 0 then roTu s c w else 0
  | 3 => roTick s w
  | 4 => roLane s i w
  | 5 => roPort s i w
  | 6 => roPg s i w
  | 7 => roPipe s i w
  | 8 => roParse s i w
  | 9 => roCls s i w
  | 10 => roRb s i w
  | 12 => roFwd s i w
  | 13 => roFs s i w
  | 14 => roMem s false i w
  | 15 => roMem s true i w
  | 16 => roBm s i w
  | 17 => roEgr s i w
  | 18 => roHq s i w
  | 19 => roQp s i w
  | 20 => roDx s i w
  | 21 => roSc s i w
  | 22 => roPmon s i w
  | 23 => roTwin s i w
  | 24 => roJnl s i w
  | 25 => roCal s w
  | 26 => roMc s w
  | _ => 0

end Sys2Proof.Machine
end

