-- ==== Sys2Proof/Machine/Island.lean ====
section
/-! DEFINITION. The safety island: its per-tick checks, the faults it records, tick overruns, the stop of traffic in SAFE,
the fault log and the proof test (chapter 23, R22, R23, R47, R51 to R53, R386, R589, R593). -/

namespace Sys2Proof.Machine

/-! ### Stopping traffic -/

/-- Count packets or copies that SAFE discards (R565). -/
def safeDiscard (s : State) : State := bump32 1 0 9 1 s

/-- Is the packet of a copy of protection class? -/
def isProtected (s : State) (k : Nat) : Bool := (pktAt s k).elim false (·.protection)

/-- Stop a port for the copies that `sel` names by class and protection: the queued ones are abandoned, one in transmission
is ended with an inverted check sequence (R356, R565). -/
def stopPort (sel : Nat → Bool → Bool) (n : Nat) (s : State) : State :=
  let queued := (List.range 8).flatMap (fun c => (((egrAt s n).q c).filter (fun k => sel c (isProtected s k))).map (fun k => (c, k)))
  let s1 := queued.foldl (fun s e =>
    safeDiscard (dropCopy e.2 (.port n) (countAbandoned n (unqueue n e.1 e.2 s)))) s
  match (egrAt s1 n).sending with
  | none => s1
  | some (k, c) =>
    if !sel c (isProtected s1 k) then s1
    else
      let bytes := match storedAt s1 k with | some y => y.bytes | none => []
      let s2 := transmit { port := n, bytes := bytes, stomped := true } (bump48 5 n 11 1 s1)
      dropCopy k (.port n) (setEgr n { egrAt s2 n with sending := none } s2)

/-- Stop every port that a test names. -/
def stopPorts (sel : Nat → Nat → Bool → Bool) (s : State) : State :=
  (List.range 130).foldl (fun s n => stopPort (sel n) n s) s

/-- Abandon the queued host copies of protection class (R565). -/
def stopHostCopies (s : State) : State :=
  s.buf.hostq.foldl (fun s e =>
    (e.2.filter (isProtected s)).foldl (fun s k =>
      let q := (tgetD (fun _ => []) s.buf.hostq e.1).filter (· != k)
      safeDiscard (dropCopy k (.host e.1)
        (s.setBuf { s.buf with hostq := if q = [] then terase s.buf.hostq e.1 else tput s.buf.hostq e.1 q }))) s) s

/-- Discard every packet in staging or in lookup that SAFE stops (R565). -/
def stopStaged (s : State) : State :=
  s.path.pkts.foldl (fun s e =>
    match pktAt s e.1 with
    | none => s
    | some x =>
      if x.stage = .buffered ∨ !safeStops s x.protection x.cls then s
      else safeDiscard (loseStaged e.1 x 5 s)) s

/-- The effects of SAFE on the traffic of the device, in the mode SAFE and with its scope set (R565). -/
def stopTraffic (s : State) : State :=
  stopStaged (stopHostCopies (stopPorts (fun _ c p => safeStops s p c) s))

/-! ### Faults of the island and the dies -/

/-- LOCKSTEP_MISMATCH: the two cores of the island differ (R559, R561); both pins fall (R563). -/
def lockstepMismatch (s : State) : State :=
  if s.sys.mode = .reset then s
  else
    let s1 := recordFault 0x01 0xFF 0 0 s
    s1.setZal { s1.zal with lockstepOk := false, safeN := false, faultN := false }

/-- ISLAND_SILENT: a die has missed two strobes of the island, or has seen one out of order (R562). -/
def islandSilent (die : Nat) (s : State) : State :=
  if s.sys.mode = .reset ∨ !s.tick.running ∨ s.zal.silentDies.contains die then s
  else
    let s1 := raise Ev.islandSilent (le 1 die ++ le 8 s.tick.count.toNat) (recordFault 0x02 0xFF 0 die s)
    let s2 := s1.setZal { s1.zal with silentDies := s1.zal.silentDies ++ [die], safeN := false, faultN := false }
    stopPorts (fun n _ p => islandStops s2 n p) s2

/-- The targets in mV whose windows count for a VDD_CORE plane: the one in force, and the one before it until 200 µs after
the write that changed it (R591). -/
def coreTargets (s : State) (east : Bool) : List Nat :=
  let t := if east then s.power.targetE else s.power.targetW
  let u := if east then s.power.unionE else s.power.unionW
  match t with
  | none => []
  | some t => t :: (match u with
    | some (o, f) => if 0 < (f - s.tick.startFrc).toInt then [o] else []
    | none => [])

/-- Nominal voltage in mV and window in percent of a rail of one fixed voltage (R589). -/
def railNominal : Nat → Option (Nat × Nat)
  | 1 => some (800, 6) | 2 => some (750, 6) | 3 => some (1200, 6) | 4 => some (1100, 6) | 5 => some (1100, 6)
  | 6 => some (400, 6) | 7 => some (1800, 8) | 8 => some (900, 5) | 9 => some (800, 6) | _ => none

/-- Does a voltage in µV lie within a window of so many percent about a nominal voltage in mV? -/
def inWindowOf (uv mv pct : Nat) : Bool := decide (mv * 10 * (100 - pct) ≤ uv ∧ uv ≤ mv * 10 * (100 + pct))

/-- Does a voltage of a rail, in µV, lie in its monitor window (R589, R591)?  None where the window follows a level that
the board chooses, or a start voltage. -/
def windowHolds (s : State) (rail uv : Nat) : Option Bool :=
  if rail = 0 ∨ rail = 12 then
    match coreTargets s (rail == 12) with
    | [] => none
    | ts => some (ts.any (fun t => inWindowOf uv t 5))
  else (railNominal rail).map (fun e => inWindowOf uv e.1 e.2)

/-- SUPPLY_FAULT: a rail leaves its monitor window (R589, R593).  Rails count the rows of R589 from 0 with VDD_CORE of West
as 0; 12 is VDD_CORE of East.  A voltage in the window is no fault.  Before the monitors are armed at Kindling step 1
nothing is recorded (R592); the loss of VDD_ZAL lets both pins fall. -/
def supplyFault (rail uv : Nat) (s : State) : State :=
  if s.sys.mode = .reset ∨ s.sys.kindling.running.contains .s1 ∨ s.zal.railsOut.contains rail ∨
      windowHolds s rail uv = some true then s
  else
    let s1 := s.setZal { s.zal with railsOut := s.zal.railsOut ++ [rail], goodSince := terase s.zal.goodSince 4 }
    if rail = 9 then s1.setZal { s1.zal with safeN := false, faultN := false }
    else condOn 0x04 (recordFault 0x04 0xFF 0 rail s1)

/-- SUPPLY_RESTORED: a rail is in its window again; the condition ends 1,024 ticks after the last one is (R559).  An island
that has lost its supply stays silent until reset. -/
def supplyRestored (rail uv : Nat) (s : State) : State :=
  if !s.zal.railsOut.contains rail ∨ rail = 9 ∨ windowHolds s rail uv = some false then s
  else
    let left := s.zal.railsOut.filter (· != rail)
    s.setZal { s.zal with
      railsOut := left, goodSince := if left = [] then tput s.zal.goodSince 4 s.tick.count else s.zal.goodSince }

/-- CORE_PLL_UNLOCK: the core PLL of a die loses lock (R559). -/
def pllUnlock (die : Nat) (s : State) : State :=
  if s.sys.mode = .reset ∨ s.zal.pllOut.contains die then s
  else
    let s1 := s.setZal { s.zal with pllOut := s.zal.pllOut ++ [die], goodSince := terase s.zal.goodSince 5 }
    condOn 0x05 (recordFault 0x05 0xFF 0 die s1)

/-- CORE_PLL_RELOCK: a core PLL has locked again (R559). -/
def pllRelock (die : Nat) (s : State) : State :=
  if !s.zal.pllOut.contains die then s
  else
    let left := s.zal.pllOut.filter (· != die)
    s.setZal { s.zal with
      pllOut := left, goodSince := if left = [] then tput s.zal.goodSince 5 s.tick.count else s.zal.goodSince }

/-- The conditions of SUPPLY and CORE_PLL end once they have been good for 1,024 ticks (R559). -/
def settleGood (s : State) : State :=
  s.zal.goodSince.foldl (fun s e =>
    if ticksSince s.tick.count e.2 ≥ 1024 then
      condOff e.1 (s.setZal { s.zal with goodSince := terase s.zal.goodSince e.1 })
    else s) s

/-- DIE_LINK_FAIL: a transfer of a die-to-die channel has not succeeded within one tick (R23). -/
def dieLinkFail (channel : Nat) (s : State) : State := recordFault 0x08 0xFF 0 channel s

/-- SAFE_REQ_N_LOW: a low level is accepted (R564). -/
def safeReqLow (s : State) : State :=
  if s.sys.mode = .reset ∨ !s.zal.reqLevel then s
  else condOn 0x0E (recordFault 0x0E 0xFF 0 0 (s.setZal { s.zal with reqLevel := false }))

/-- SAFE_REQ_N_HIGH: a high level is accepted (R564). -/
def safeReqHigh (s : State) : State :=
  if s.sys.mode = .reset ∨ s.zal.reqLevel then s
  else condOff 0x0E (s.setZal { s.zal with reqLevel := true })

/-! ### The checks of a tick -/

/-- A sensor reading with the offset of the calibration record, in 1/16 °C (R73, R77). -/
def sensorReading (s : State) (raw : List Int) (i : Nat) : Int :=
  raw.getD i 0 + signed 16 (leNat (calBytes s (0xA40 + 2 * i) 2))

/-- The thermal check: cause THERMAL at the limit, until every sensor lies 5 °C below it (R559). -/
def thermalCheck (raw : List Int) (s : State) : State :=
  let rs := (List.range 24).map (sensorReading s raw)
  let limit : Int := 16 * (regField s 1 0 6 7 0 : Nat)
  let s1 := s.setZal { s.zal with readings := rs }
  match rs.findIdx? (fun r => decide (r ≥ limit)) with
  | some i =>
    if s1.zal.hot then s1
    else condOn 0x06 (recordFault 0x06 0xFF 0 i (s1.setZal { s1.zal with hot := true }))
  | none =>
    if s1.zal.hot && rs.all (fun r => decide (r ≤ limit - 80)) then
      condOff 0x06 (s1.setZal { s1.zal with hot := false })
    else s1

/-- DOMAIN_DISAGREE with the disagreement, the tick count, and raised or cleared (R399). -/
def disagreeEvent (gap raised : Nat) (s : State) : State :=
  raise Ev.domainDisagree (le 8 gap ++ le 8 s.tick.count.toNat ++ le 1 raised) s

/-- The cross-check of the domains, in every tick in which both are seeded and the check is enabled (R386). -/
def crossCheck (s : State) : State :=
  if !bitOf (reg s 2 0 6).toNat 31 then s
  else match domainGap s s.tick.startFrc with
    | none => s
    | some gap =>
      if gap > 65536 * regField s 2 0 6 23 0 then
        let s1 := s.setTu { s.tu with disagree := true, agreed := 0 }
        if s.tu.disagree then s1 else condOn 0x12 (recordFault 0x12 2 0 0 (disagreeEvent gap 1 s1))
      else if !s.tu.disagree then s
      else if s.tu.agreed + 1 ≥ 16 then
        condOff 0x12 (disagreeEvent gap 0 (s.setTu { s.tu with disagree := false, agreed := 0 }))
      else s.setTu { s.tu with agreed := s.tu.agreed + 1 }

/-- FRC_MIRROR_MISMATCH: the East mirror differs from the FRC (R22). -/
def mirrorCheck (diff : Dword) (s : State) : State :=
  let s1 := s.setTick { s.tick with mirrorDiff := diff }
  if diff = 0 then s1 else recordFault 0x09 0xFF 0 0 s1

/-- ZALUA_TICK_CHECKS: the checks of R47 apart from completion and the heartbeat, which have rows of their own. -/
def tickChecks (f : TickChecks) (s : State) : State :=
  if s.sys.mode = .reset ∨ !s.tick.running then s
  else
    let s1 := crossCheck (mirrorCheck f.mirror s)
    thermalCheck f.readings (if f.frcGood then frcCheckGood s1 else s1)

/-! ### Tick overrun -/

/-- The unit whose overrun an overrun of a unit counts as (R52, R71); none for an instance that is no unit.  Instances 32
and 33 of SC stand for the dispatchers. -/
def overrunUnit (u : UnitId) : Option UnitId :=
  let i := u.inst
  match u.cls with
  | 0 | 25 | 26 => if i = 0 then some ⟨26, 0⟩ else none
  | 1 | 2 | 3 => if i = 0 then some ⟨u.cls, 0⟩ else none
  | 4 => if i < 128 then some ⟨6, i / 8⟩ else if i < 144 then some ⟨19, 0⟩ else if i < 160 then some ⟨23, 0⟩ else none
  | 5 => if i < 128 then some ⟨6, i / 8⟩ else if i < 130 then some ⟨19, 0⟩ else none
  | 6 => if i < 16 then some u else none
  | 7 | 8 | 9 | 11 | 12 => if i < 4 then some ⟨7, i⟩ else none
  | 10 => if i < 64 then some u else none
  | 13 | 15 => if i < 16 then some u else none
  | 14 => if i < 128 then some u else none
  | 16 => if i < 2 then some u else none
  | 17 => if i < 130 then some u else none
  | 21 => if i < 34 then some u else none
  | 18 | 19 | 20 | 22 | 23 | 24 => if i = 0 then some u else none
  | _ => none

/-- Does the overrun of a unit lead to SAFE (R52)? -/
def overrunSafe (s : State) (u : UnitId) : Bool :=
  u.cls == 7 || neverLeaves u.cls (u.cls == 14 && (reg s 14 u.inst 0).getLsbD 0)

/-- TICK_OVERRUN: a unit has not signalled the completion of its tick work (R52, R53).  The event, OVERRUN_STATUS and OVERRUN_LAST name
the unit that reports, the reaction falls on the unit that it counts as (DESIGN CHOICE, log 15). -/
def tickOverrun (u : UnitId) (s : State) : State :=
  match overrunUnit u with
  | none => s
  | some v =>
    if s.sys.mode = .reset ∨ !s.tick.running ∨ unitState s v ≠ .inService ∨ isAbsent s v.cls v.inst then s
    else
      let s1 := raise Ev.tickOverrun (le 1 u.cls ++ le 2 u.inst ++ le 8 s.tick.count.toNat) s
      let s2 := setReg 3 0 0xC (reg s1 3 0 0xC ||| (1#32 <<< u.cls)) (bump 16 3 0 0xF 1 s1)
      let s3 := s2.setTick { s2.tick with
        overrunCls := u.cls, overrunInst := u.inst, overrunTick := BitVec.ofNat 32 s2.tick.count.toNat }
      if overrunSafe s3 v then
        let s4 := recordFault 0x07 v.cls v.inst 0 s3
        if v.cls = 1 then s4 else nameUnit v s4
      else leaveService v 0 s3

/-! ### The fault log and the proof test -/

/-- SAFETY_QUERY (R571). -/
def bodySafetyQuery (r : Req) (s : State) : State × Reply :=
  if r.payload ≠ [] then (s, .no St.eArg)
  else (s, .yes (le 4 (roZal s 0) ++ le 4 (roZal s 1) ++ le 4 (roZal s 2) ++ le 4 (roZal s 3) ++ le 4 (roZal s 7)))

/-- SAFETY_LOG_READ (R571): start index (4) and 4 reserved bytes.  Indices count modulo 2^32. -/
def bodySafetyLogRead (r : Req) (s : State) : State × Reply :=
  if r.payload.length ≠ 8 ∨ !zeros r.payload 4 4 then (s, .no St.eArg)
  else
    let start := BitVec.ofNat 32 (rd r.payload 0 4)
    let n := s.zal.log.length
    let oldest := s.zal.logNext - BitVec.ofNat 32 n
    let skip := if (start - oldest).toNat ≤ n then (start - oldest).toNat
      else if (0 : Int) ≤ (start - oldest).toInt then n else 0
    let es := (s.zal.log.drop skip).take 64
    (s, .yes (le 4 s.zal.logNext.toNat ++ le 4 oldest.toNat ++ le 2 es.length ++ le 2 0 ++ (es.map (·.bytes)).flatten))

/-- SAFETY_SELFTEST (R568): legal in CONFIGURE and TEST, one run at a time. -/
def bodySafetySelftest (r : Req) (s : State) : State × Reply :=
  if s.sys.mode ≠ .configure ∧ s.sys.mode ≠ .test then (s, .no St.eMode)
  else if r.payload ≠ [] then (s, .no St.eArg)
  else if s.zal.selftestOp.isSome then (s, .no St.eBusy)
  else accepted Op.safetySelftest r true (fun h s => s.setZal { s.zal with selftestOp := some h }) s

/-- The cause that each tested mechanism guards, in the order of R568. -/
def mechanisms : List Nat := [0x01, 0x04, 0x05, 0x06, 0x07, 0x08, 0x09, 0x0A, 0x0B, 0x0C, 0x0D, 0x13]

/-- A mechanism did not detect its injected fault: its cause is logged, and neither requests SAFE nor latches (R568). -/
def recordUndetected (c : Nat) (s : State) : State :=
  let e : FaultEntry :=
    { tick := s.tick.count, cause := c, enteredSafe := false, latched := false, selftest := true, cls := 0xFF, inst := 0,
      detail := 0 }
  let now := s.zal.thisTick ++ [(c, 0xFF, 0)]
  let least := now.foldl (fun m e => if e.1 < m.1 then e else m) (c, 0xFF, 0)
  let log := s.zal.log ++ [e]
  raise Ev.safetyFault e.bytes (s.setZal { s.zal with
    selftest := s.zal.selftest ||| (1#24 <<< c), thisTick := now
    lastCause := least.1, lastCls := least.2.1, lastInst := least.2.2
    faultTick := BitVec.ofNat 32 s.tick.count.toNat, faultN := false
    log := log.drop (log.length - 256), logNext := s.zal.logNext + 1 })

/-- SAFETY_SELFTEST_DONE: the run ends; `missed` has bit i set where mechanism i did not detect its fault (R568). -/
def selftestDone (missed : Nat) (s : State) : State :=
  match s.zal.selftestOp with
  | none => s
  | some h =>
    let s1 := s.setZal { s.zal with selftestOp := none, selftest := 0 }
    let s2 := (List.range 12).foldl (fun s i => if bitOf missed i then recordUndetected (mechanisms.getD i 0) s else s) s1
    complete Ev.safetySelftestDone h St.ok ((List.range 12).map (fun i => BitVec.ofNat 8 (b2n (bitOf missed i))))
      (settleFaultN s2)

/-! ### The meanings -/

/-- LOCKSTEP_MISMATCH. -/
def execLockstepMismatch (s : State) : Host.Outcome State Fault Refusal := .next (lockstepMismatch s)
/-- ISLAND_SILENT. -/
def execIslandSilent (die : Fin 2) (s : State) : Host.Outcome State Fault Refusal := .next (islandSilent die s)
/-- SUPPLY_FAULT. -/
def execSupplyFault (rail : Fin 13) (uv : Nat) (s : State) : Host.Outcome State Fault Refusal :=
  .next (supplyFault rail uv s)
/-- SUPPLY_RESTORED. -/
def execSupplyRestored (rail : Fin 13) (uv : Nat) (s : State) : Host.Outcome State Fault Refusal :=
  .next (supplyRestored rail uv s)
/-- CORE_PLL_UNLOCK. -/
def execCorePllUnlock (die : Fin 2) (s : State) : Host.Outcome State Fault Refusal := .next (pllUnlock die s)
/-- CORE_PLL_RELOCK. -/
def execCorePllRelock (die : Fin 2) (s : State) : Host.Outcome State Fault Refusal := .next (pllRelock die s)
/-- DIE_LINK_FAIL. -/
def execDieLinkFail (channel : Fin 3) (s : State) : Host.Outcome State Fault Refusal := .next (dieLinkFail channel s)
/-- SAFE_REQ_N_LOW. -/
def execSafeReqNLow (s : State) : Host.Outcome State Fault Refusal := .next (safeReqLow s)
/-- SAFE_REQ_N_HIGH. -/
def execSafeReqNHigh (s : State) : Host.Outcome State Fault Refusal := .next (safeReqHigh s)
/-- ZALUA_TICK_CHECKS. -/
def execZaluaTickChecks (f : TickChecks) (s : State) : Host.Outcome State Fault Refusal := .next (tickChecks f s)
/-- TICK_OVERRUN. -/
def execTickOverrun (u : UnitId) (s : State) : Host.Outcome State Fault Refusal := .next (tickOverrun u s)
/-- SAFETY_QUERY. -/
def execSafetyQuery (r : Req) (s : State) : Host.Outcome State Fault Refusal :=
  .next (runToune Op.safetyQuery bodySafetyQuery r s)
/-- SAFETY_LOG_READ. -/
def execSafetyLogRead (r : Req) (s : State) : Host.Outcome State Fault Refusal :=
  .next (runToune Op.safetyLogRead bodySafetyLogRead r s)
/-- SAFETY_SELFTEST. -/
def execSafetySelftest (r : Req) (s : State) : Host.Outcome State Fault Refusal :=
  .next (runToune Op.safetySelftest bodySafetySelftest r s)
/-- SAFETY_SELFTEST_DONE. -/
def execSafetySelftestDone (missed : Fin 4096) (s : State) : Host.Outcome State Fault Refusal :=
  .next (selftestDone missed s)

end Sys2Proof.Machine
end

