-- ==== Sys2Proof/Machine/FlowCmds.lean ====
section
/-! DEFINITION. The flow-access commands, sweeps, repins, evacuations and the flow seed (R235, R255 to R258, R314, R423,
R620). -/

namespace Sys2Proof.Machine

/-! ### Items -/

/-- Bytes of an item of a command of fixed items (R620). -/
def itemLen (op : Nat) : Nat :=
  if op = Op.flowModify then 76 else if op = Op.flowPuntRelease then 56 else 48

/-- Is an item malformed, so that the command is refused whole (R7, R256, R620)? -/
def itemBad (op : Nat) (b : List Byte) : Bool :=
  if op = Op.flowWrite then rd b 0 1 > 2 || rd b 1 1 > 1 || !zeros b 4 4
  else keyBad (b.take 48) ||
    (op == Op.flowModify && (modMask b ≥ 65536 || rd b 58 2 != 0)) ||
    (op == Op.flowPuntRelease && (rd b 48 1 > 1 || !zeros b 49 7))

/-- The items of a FLOW_WRITE payload: none when a length or the total does not fit. -/
def writeItems : Nat → List Byte → Option (List (List Byte))
  | 0, b => if b = [] then some [] else none
  | n + 1, b =>
    let len := rd b 2 2
    if (len ≠ 64 ∧ len ≠ 128) ∨ b.length < 8 + len then none
    else (writeItems n (b.drop (8 + len))).map (b.take (8 + len) :: ·)

/-- The items of a flow-access command (R620). -/
def flowItems (op : Nat) (p : List Byte) : Option (List (List Byte)) :=
  let n := rd p 0 2
  if p.length < 8 ∨ n = 0 ∨ n > 64 ∨ !zeros p 2 6 then none
  else
    let items := if op = Op.flowWrite then writeItems n (p.drop 8)
      else if p.length ≠ 8 + n * itemLen op then none
      else some ((List.range n).map (fun i => (p.drop (8 + i * itemLen op)).take (itemLen op)))
    items.bind (fun l => if l.any (itemBad op) then none else some l)

/-- Issue the items of a command to their home slices, in item order; those of a FLOW_READ follow one another (R256, R258). -/
def issueItems (c : Nat) (cmd : HostCmd) (s : State) : State :=
  if cmd.opcode = Op.flowRead then issueReads c (cmd.items.length + 1) s
  else (List.range cmd.items.length).foldl (fun s i => issueItem c i cmd s) s

/-- A flow-access command: its items run, and its response follows when the last has completed (R256). -/
def flowAccess (op : Nat) (r : Req) (s : State) : State × Reply :=
  match flowItems op r.payload with
  | none => (s, .no St.eArg)
  | some items =>
    let c := s.flow.nextCmd
    let cmd : HostCmd := { opcode := op, req := respOf op r 0 [], items := items }
    let s1 := issueItems c cmd
      (s.setFlow { s.flow with cmds := tput s.flow.cmds c cmd, nextCmd := c + 1 })
    match tfind s1.flow.cmds c with
    | some x =>
      if cmdDone x then (s1.setFlow { s1.flow with cmds := terase s1.flow.cmds c }, .yes (cmdPayload x))
      else (s1, { waits := true })
    | none => (s1, { waits := true })

/-- FLOW_READ. -/
def bodyFlowRead : Req → State → State × Reply := flowAccess Op.flowRead
/-- FLOW_WRITE. -/
def bodyFlowWrite : Req → State → State × Reply := flowAccess Op.flowWrite
/-- FLOW_MODIFY. -/
def bodyFlowModify : Req → State → State × Reply := flowAccess Op.flowModify
/-- FLOW_DELETE. -/
def bodyFlowDelete : Req → State → State × Reply := flowAccess Op.flowDelete
/-- FLOW_PUNT_RELEASE. -/
def bodyFlowPuntRelease : Req → State → State × Reply := flowAccess Op.flowPuntRelease

/-! ### Sweep, repin and evacuation -/

/-- The slices of a mask, each at its first position. -/
def maskSlices (m : Nat) : Table Nat := ((List.range 16).filter (bitOf m)).map (fun n => (n, 0))

/-- Start a pass over the records, with a work item for each slice (R255, R314, R506). -/
def startPass (op mask : Nat) (arg : List Byte) (h : Word) (s : State) : State :=
  let left := maskSlices mask
  left.foldl (fun s n => postItem (n.1 / 8) (.sweep h n.1) s)
    (s.setFlow { s.flow with sweep := some { handle := h, opcode := op, arg := arg, left := left } })

/-- FLOW_SWEEP (R255). -/
def bodyFlowSweep (r : Req) (s : State) : State × Reply :=
  let a := r.payload
  let t := rd a 4 1
  if a.length ≠ 16 ∨ !(t == 0 || t == 1 || t == 2 || t == 0x11) ∨ rd a 5 1 > 7 ∨ !zeros a 0x0E 2 then (s, .no St.eArg)
  else if s.flow.sweep.isSome then (s, .no St.eBusy)
  else accepted Op.flowSweep r true (startPass Op.flowSweep (rd a 6 2) a) s

/-- Does a member name a next hop of kind 2 (R199)? -/
def memberKind2 (s : State) (m : Nat) : Bool :=
  bitOf m 31 && (tgetD (fun _ => 0) (fwdAt s 0).nh (m % 131072)).toNat % 4 == 2

/-- FLOW_REPIN (R314). -/
def bodyFlowRepin (r : Req) (s : State) : State × Reply :=
  let a := r.payload
  let old := rd a 0 4
  let new := rd a 4 4
  let mode := rd a 8 1
  if a.length ≠ 16 ∨ !bitOf old 31 ∨ bitsOf old 30 17 ≠ 0 ∨ mode > 2 ∨ rd a 9 1 > 63 ∨ !zeros a 0x0C 4 ∨
      (mode = 0 ∧ (bitsOf new 30 17 ≠ 0 ∨ memberKind2 s new)) then (s, .no St.eArg)
  else if s.flow.sweep.isSome then (s, .no St.eBusy)
  else accepted Op.flowRepin r true (startPass Op.flowRepin (rd a 0x0A 2) a) s

/-- TURF_EVACUATE (R423): the demoter of each named slice is stopped. -/
def bodyTurfEvacuate (r : Req) (s : State) : State × Reply :=
  let m := rd r.payload 0 2
  if r.payload.length ≠ 2 then (s, .no St.eArg)
  else if s.flow.evacs.any (fun e => Nat.land (rd e.arg 0 2) m != 0) then (s, .no St.eBusy)
  else accepted Op.turfEvacuate r true (fun h s =>
    let s1 := s.setFlow { s.flow with
      evacs := s.flow.evacs ++ [{ handle := h, opcode := Op.turfEvacuate, arg := r.payload, left := maskSlices m }] }
    (maskSlices m).foldl (fun s n => modSl n.1 (fun x => { x with demoteStop := true }) s) s1) s

/-- Insert a record position in rising order. -/
def insertPos (a : Nat × List Byte) : List (Nat × List Byte) → List (Nat × List Byte)
  | [] => [a]
  | b :: l => if a.1 ≤ b.1 then a :: b :: l else b :: insertPos a l

/-- The records of a slice by position, 20 to a bucket: its Stack slots, then its turf slots (R255). -/
def positions (s : State) (n : Nat) (turfs : Bool) : List (Nat × List Byte) :=
  let x := slAt s n
  let st := x.stack.map (fun e => (20 * (e.1 / 4) + e.1 % 4, e.2))
  let tf := if turfs && coldTier s n then
      (x.turf.filter (fun e => !clearing x e.1)).map (fun e => (20 * (e.1 / 16) + 4 + e.1 % 16, e.2)) else []
  (st ++ tf).foldr insertPos []

/-- Does the running pass have to act on a record? -/
def passMatch (s : State) (p : Pass) (e : List Byte) : Bool :=
  if p.opcode = Op.flowSweep then sweepMatch s p.arg e else repinMatch p.arg e

/-- Does the running pass issue operations? -/
def passActs (p : Pass) : Bool := !(p.opcode == Op.flowSweep && bitOf (rd p.arg 5 1) 1)

/-- Examine one record in the running pass in one cycle of the sweep reservation, and issue its conditional operation (R39, R255,
R314). -/
def examine (n : Nat) (e0 : List Byte) (s : State) : State :=
  match s.flow.sweep with
  | none => s
  | some p =>
    let d := digestOf s (keyOf e0)
    let e := (anyDigest s n d).getD e0
    let m := passMatch s p e
    let go := m && passActs p
    let s1 := useCycle n 1 (s.setFlow { s.flow with
      sweep := some { p with examined := p.examined + 1, matched := p.matched + b2n m, out := p.out + b2n go } })
    if go then
      acceptBg n { kind := if p.opcode = Op.flowSweep then .sweep else .repin, key := none, digest := d } s1
    else s1

/-- The pass over slice `n`: up to 64 records of this tick, within the sweep reservation and behind the expiry operations that wait
(R39, R255, R320). -/
def passTick (n : Nat) (s : State) : State :=
  match s.flow.sweep with
  | none => s
  | some p => match tfind p.left n with
    | none => s
    | some pos =>
      let room := min 64 (ownRoom s n 1 - (slAt s n).expiry.length)
      if cancelled s p.handle || room = 0 then s
      else
        let skip := p.opcode == Op.flowSweep && bitOf (rd p.arg 5 1) 2
        let todo := ((positions s n (!skip)).filter (fun e => e.1 ≥ pos && !isPtr e.2))
        let now := todo.take room
        let left := match now.getLast? with
          | some e => if todo.length > room then tput p.left n (e.1 + 1) else terase p.left n
          | none => terase p.left n
        now.foldl (fun s e => examine n e.2 s) (s.setFlow { s.flow with sweep := some { p with left := left } })

/-- Move one turf entry into the Stack tier, by a free slot or by relocation (R269, R281, R423): the state and 1 for a move. -/
def evacuateOne (n t : Nat) (e : List Byte) (s : State) : State × Nat :=
  let d := digestOf s (keyOf e)
  if busy (slAt s n) d then (s, 0)
  else match readCopy (slAt s n) 2 t {} e with
    | none => (tagError n d ⟨2, t⟩ e s, 0)
    | some _ =>
      match stackInsert n d e (useTurf n (entrySlots e) s) with
      | (s1, some k) => (walkMove n e (t / 16) (k / 4) (clearTurf n t e (useBack n (k / 4 % 8) 1 s1)), 1)
      | (s1, none) => (s1, 0)

/-- The evacuation of slice `n`: up to 64 entries of this tick, within the migration reservation and the channel's turf share (R39, R41,
R423). -/
def evacTick (n : Nat) (s : State) : State :=
  match s.flow.evacs.find? (fun e => (tfind e.left n).isSome) with
  | none => s
  | some p =>
    let room := min 64 (ownRoom s n 3)
    if cancelled s p.handle || room = 0 || !turfRoom s n && coldTier s n then s
    else
      let x := slAt s n
      let pos := (tfind p.left n).getD 0
      let todo := if coldTier s n then x.turf.filter (fun e => e.1 ≥ pos && !clearing x e.1) else []
      let now := todo.take room
      let left := match now.getLast? with
        | some e => if todo.length > room then tput p.left n (e.1 + 1) else terase p.left n
        | none => terase p.left n
      let (s1, moved) := now.foldl (fun r e => let (s', k) := evacuateOne n e.1 e.2 (useCycle n 3 r.1); (s', r.2 + k)) (s, 0)
      let p' := { p with left := left, examined := p.examined + now.length, changed := p.changed + moved
                         moved := tput p.moved n (tgetD (fun _ => 0) p.moved n + moved) }
      s1.setFlow { s1.flow with evacs := s1.flow.evacs.map (fun q => if q.handle = p.handle then p' else q) }

/-- SWEEP_TICK: the long flow operations' work of one tick in slice `n` (R255, R314, R423). -/
def execSweepTick (n : Fin 16) (s : State) : Host.Outcome State Fault Refusal :=
  .next (completeCmds (evacTick n (passTick n s)))

/-- The end of the running sweep or repin: every slice walked and every operation executed, or a cancel (R255, R492). -/
def passEnd (op ev : Nat) (fields : Pass → List Byte) (s : State) : State :=
  match s.flow.sweep with
  | some p =>
    let stop := cancelled s p.handle
    if p.opcode = op ∧ p.out = 0 ∧ (p.left = [] ∨ stop) then
      complete ev p.handle (if stop then St.eCancelled else St.ok) (fields p ++ le 8 s.tick.count.toNat)
        (s.setFlow { s.flow with sweep := none })
    else s
  | none => s

/-- FLOW_SWEEP_DONE. -/
def execFlowSweepDone (s : State) : Host.Outcome State Fault Refusal :=
  .next (passEnd Op.flowSweep Ev.flowSweepDone (fun p => le 8 p.examined ++ le 8 p.matched ++ le 8 p.changed) s)

/-- FLOW_REPIN_DONE. -/
def execFlowRepinDone (s : State) : Host.Outcome State Fault Refusal :=
  .next (passEnd Op.flowRepin Ev.flowRepinDone (fun p => le 8 p.examined ++ le 8 p.changed) s)

/-- The entries left in the turfs of a slice. -/
def turfsLeft (s : State) (n : Nat) : Nat := ((slAt s n).turf.filter (fun e => !clearing (slAt s n) e.1)).length

/-- What an evacuation reports: each named slice with the entries moved and left (R423, R425). -/
def evacReport (s : State) (p : Pass) : List Byte :=
  (maskSlices (rd p.arg 0 2)).flatMap (fun n =>
    le 1 n.1 ++ le 8 (tgetD (fun _ => 0) p.moved n.1) ++ le 8 (turfsLeft s n.1))

/-- TURF_EVACUATE_DONE: the first evacuation that has walked its slices, or is cancelled, completes (R423). -/
def turfEvacuateDone (s : State) : State :=
  match s.flow.evacs.find? (fun e => e.left == [] || cancelled s e.handle) with
  | none => s
  | some p =>
    let stop := cancelled s p.handle
    let s1 := s.setFlow { s.flow with evacs := s.flow.evacs.filter (fun q => q.handle != p.handle) }
    let s2 := if stop then (maskSlices (rd p.arg 0 2)).foldl (fun s n => modSl n.1 (fun x => { x with demoteStop := false }) s) s1
      else s1
    complete Ev.turfEvacuateDone p.handle (if stop then St.eCancelled else St.ok) (evacReport s2 p) s2

/-- TURF_EVACUATE_DONE. -/
def execTurfEvacuateDone (s : State) : Host.Outcome State Fault Refusal := .next (turfEvacuateDone s)

/-! ### The seed -/

/-- Does no slice hold an entry, and is no operation in flight (R235)? -/
def flowEmpty (s : State) : Bool :=
  s.flow.slice.all (fun x => x.2.hearth == [] && x.2.stack == [] && x.2.turf == [] && x.2.flights == [] &&
    x.2.installs == [] && x.2.hostQ == []) && !onTheWay s

/-- FLOW_SEED_WRITE: a write of a seed word takes effect; one that R235 refuses changes nothing. -/
def execFlowSeedWrite (w : Fin 2) (v : Word) (s : State) : Host.Outcome State Fault Refusal :=
  .next (if flowEmpty s then raise Ev.flowSeedSet (le 8 s.tick.count.toNat) (setReg 13 16 (0x10 + w) v s) else s)

/-! ### The meanings of the commands -/

/-- FLOW_READ. -/
def execFlowRead (r : Req) (s : State) : Host.Outcome State Fault Refusal := .next (runToune Op.flowRead bodyFlowRead r s)
/-- FLOW_WRITE. -/
def execFlowWrite (r : Req) (s : State) : Host.Outcome State Fault Refusal := .next (runToune Op.flowWrite bodyFlowWrite r s)
/-- FLOW_MODIFY. -/
def execFlowModify (r : Req) (s : State) : Host.Outcome State Fault Refusal := .next (runToune Op.flowModify bodyFlowModify r s)
/-- FLOW_DELETE. -/
def execFlowDelete (r : Req) (s : State) : Host.Outcome State Fault Refusal := .next (runToune Op.flowDelete bodyFlowDelete r s)
/-- FLOW_PUNT_RELEASE. -/
def execFlowPuntRelease (r : Req) (s : State) : Host.Outcome State Fault Refusal :=
  .next (runToune Op.flowPuntRelease bodyFlowPuntRelease r s)
/-- FLOW_SWEEP. -/
def execFlowSweep (r : Req) (s : State) : Host.Outcome State Fault Refusal := .next (runToune Op.flowSweep bodyFlowSweep r s)
/-- FLOW_REPIN. -/
def execFlowRepin (r : Req) (s : State) : Host.Outcome State Fault Refusal := .next (runToune Op.flowRepin bodyFlowRepin r s)
/-- TURF_EVACUATE. -/
def execTurfEvacuate (r : Req) (s : State) : Host.Outcome State Fault Refusal :=
  .next (runToune Op.turfEvacuate bodyTurfEvacuate r s)

end Sys2Proof.Machine
end

