-- ==== Sys2Proof/Machine/ParamAccess.lean ====
section
/-! DEFINITION. Reads and writes of parameters by a session: the order of checks, the values that chapters refuse, latches,
and the commands PARAM_READ, PARAM_WRITE and PARAM_READ_BLOCK (R10, R495, R496, R576 to R583). -/

namespace Sys2Proof.Machine

/-! ### Reading -/

/-- The bits of a word that a write of ones clears, or that a host can set. -/
def ParamDef.writable (d : ParamDef) : Nat := Nat.lor (Nat.lor d.rw d.rwl) d.w1c

/-- Is the word the STATUS word of its unit, which reports an absence (R577)? -/
def isStatusWord (a : Nat) : Bool := addrClass a == 15 && addrWord a == 1

/-- Does a word show a value that the manual leaves open: the load of MC cores, or accesses inside a memory controller? -/
def openWord (a : Nat) : Bool :=
  (addrClass a == 26 && decide (8 ≤ addrWord a)) ||
  (addrClass a == 22 && addrInst a == 33 && decide (0x400 ≤ addrWord a) && decide (addrWord a < 0x880) &&
    decide (6 ≤ addrWord a % 8))

/-- The present value of a word, read in core cycle `c`, without any effect of the read. -/
def presentValue (s : State) (c a : Nat) (d : ParamDef) : Nat :=
  if isAbsent s (addrClass a) (addrInst a) && !isStatusWord a then d.reset
  else if d.hi then wordAt (counter s (a - 1)) 1
  else if d.rc = 18 then max (counter s a) (occupancy s (addrInst a) (addrWord a / 8))
  else if d.rc ≠ 0 then wordAt (counter s a) 0
  else Nat.lor (Nat.land (tgetD paramReset s.prm.regs a).toNat d.writable) (Nat.land (roBits s c a) (Nat.lor d.ro d.w1c))

/-- The words that a read of a word latches for the session (R33, R105, R331, R375, R400, R519, R579). -/
def latchedBy (a : Nat) : List Nat :=
  let w := addrWord a
  let next := [a + 1]
  match addrClass a with
  | 0 => if w = 6 then next else []
  | 2 => if addrInst a ≠ 0 then []
         else if w = 1 then next
         else if w = 0x40 ∨ w = 0x50 then (List.range 9).map (fun j => a + 1 + j) else []
  | 3 => if w = 0 then [a + 1, a + 2, a + 3] else []
  | 22 =>
    if addrInst a ≥ 32 then (if w % 8 = 2 ∨ w % 8 = 4 then next else [])
    else if w = 4 ∨ (0x100 ≤ w ∧ w % 2 = 0) then next else []
  | 24 => if w = 8 then [a + 1, a + 2, a + 3] else if w = 0xA then [a + 1, a - 2, a - 1] else []
  | 26 => if w = 4 then next else []
  | _ => match paramDef a with | some d => if d.rc = 48 then next else [] | none => []

/-- The key of a latch of a session. -/
def latchKey (i a : Nat) : Nat := 2 ^ 32 * i + a

/-- Latch a value of a word for a session. -/
def latch (i a v : Nat) (s : State) : State :=
  s.setPrm { s.prm with latches := tput s.prm.latches (latchKey i a) (BitVec.ofNat 32 v) }

/-- Latch the present values of the words that a read of `a` latches. -/
def latchAll (i c a : Nat) (s : State) : State :=
  (latchedBy a).foldl (fun s b => match paramDef b with
    | some d => latch i b (presentValue s c b d) s
    | none => s) s

/-- A read that returns a latched value uses it up (R579). -/
def takeLatch (i a : Nat) (s : State) : State :=
  s.setPrm { s.prm with latches := terase s.prm.latches (latchKey i a) }

/-- Clear a counter after its read (R10). -/
def clearCounter (a : Nat) (s : State) : State := s.setPrm { s.prm with counts := terase s.prm.counts a }

/-- ENTROPY_LO: a fresh value, its upper word latched; 0 until 16 ticks have passed (R583). -/
def entropyRead (i a : Nat) (s : State) : State × Nat :=
  if s.tick.count.toNat < 16 then (latch i (a + 1) 0 s, 0)
  else
    let v := (freeBits 64 s).toNat
    (drawn (latch i (a + 1) (wordAt v 1) s), wordAt v 0)

/-- Read one word for session index `i` in core cycle `c`: its item status and value, and the state with what the read
latches and clears (R10, R576, R579). -/
def readWord (i c a : Nat) (s : State) : State × Half × Nat :=
  match paramDef a with
  | none => (s, St.eRange, 0)
  | some d =>
    if a = 6 then let (s1, v) := entropyRead i a s; (s1, St.ok, v)
    else match tfind s.prm.latches (latchKey i a) with
      | some v => (takeLatch i a s, St.ok, v.toNat)
      | none =>
        let v := presentValue s c a d
        let s1 := latchAll i c a s
        let s2 := if d.rc ≠ 0 && !isAbsent s (addrClass a) (addrInst a) then clearCounter a s1 else s1
        (if openWord a then drawn s2 else s2, St.ok, v)

/-! ### The values that chapters refuse -/

/-- The settings after a word's write has taken effect: the word, and for a bank's PAIR word its partner's too (R173). -/
def futureSet (a : Nat) (v : Word) (t : State) : State :=
  if addrClass a = 10 ∧ addrInst a < 64 ∧ addrWord a = 1 then pairWords (addrInst a) v t else setRegAt a v t

/-- The state whose settings are those that every deferred write will have left. -/
def futureState (s : State) : State :=
  s.sys.deferred.foldl (fun t d => match d.change with
    | .word b m x => futureSet b ((tgetD paramReset t.prm.regs b &&& ~~~m) ||| (x &&& m)) t
    | _ => t) s

/-- A word's writable bits once every deferred write has taken effect. -/
def futureWord (s : State) (a : Nat) : Word := tgetD paramReset (futureState s).prm.regs a

/-- The events of the catalogue that a pipeline's counter may select (R523). -/
def pipeCatalogue : List Nat :=
  [0x2100, 0x2101, 0x2102, 0x2110, 0x2111, 0x2120, 0x2121, 0x2122, 0x2130, 0x2131, 0x2132, 0x2140, 0x2141, 0x2150, 0x4010,
   0x4011, 0x4012]

/-- The events that a slice's counter may select (R524). -/
def sliceCatalogue : List Nat := (List.range 15).map (0x3200 + ·)

/-- A refusal when a condition holds. -/
def refuseIf (c : Bool) (st : Half) : Option Half := if c then some st else none

/-- The refusals of calendar reservations: more than a quarter of the port's bytes, a window beyond the tick, or windows
that overlap (R45, R363). -/
def calendarFault (t : State) (n : Nat) : Option Half :=
  let b := fun c => regField t 17 n (2 + c) 15 0
  let w6 := calWindow t n 6
  let w7 := calWindow t n 7
  refuseIf (decide (4 * (b 6 + b 7) > portRate t n * 125) || (b 6 != 0 && decide (w6.2 > 1000)) ||
    (b 7 != 0 && decide (w7.2 > 1000)) || (b 6 != 0 && b 7 != 0 && decide (w6.1 < w7.2) && decide (w7.1 < w6.2))) St.eRange

/-- The refusals of a mapping mask: its own base bit is always included, a bit below the columns or another select bit is
refused, and so is one at or above the capacity (R407). -/
def maskFault (base cols sels j top v shift : Nat) : Option Half :=
  refuseIf ((List.range 32).any (fun m => bitOf v m &&
    (decide (m + shift < cols) || (decide (base ≤ m + shift) && decide (m + shift < base + sels) && m + shift != base + j) ||
     decide (2 ^ (m + shift) ≥ top)))) St.eArg

/-- The value checks of a class on the word `w` of instance `i`, judged in the state `t` in which the write and all writes
before it have taken effect; `s` is the present state (R576 check 5). -/
def classFault (s t : State) (cls i w : Nat) : Option Half :=
  let v := (reg t cls i w).toNat
  let f := fun hi lo => bitsOf v hi lo
  match cls with
  | 1 => if w = 6 then refuseIf (decide (f 7 0 < 106) || decide (f 7 0 > 115)) St.eRange else none
  | 2 =>
    if i ≠ 0 then none
    else if w = 5 then refuseIf (f 19 0 == 0) St.eRange
    else if w = 6 then refuseIf (f 23 0 == 0) St.eRange
    else if w = 8 ∨ w = 0xA then refuseIf (f 23 4 == 0 || decide (f 23 4 ≥ 1000000)) St.eRange
    else if w = 0x30 ∨ w = 0x31 then refuseIf (f 1 0 == 3) St.eArg
    else none
  | 3 =>
    if w = 4 then refuseIf (decide (f 5 0 > 32)) St.eRange
    else if w = 5 then refuseIf (decide (f 11 0 > 2400)) St.eRange
    else if w = 6 then refuseIf (decide (f 7 0 + f 15 8 + f 23 16 + f 31 24 > 256)) St.eRange
    else if 8 ≤ w ∧ w < 12 then refuseIf (decide (f 9 0 + f 19 10 + f 29 20 > 600)) St.eRange
    else none
  | 4 => if w = 2 then refuseIf (tapsBad v) St.eRange else none
  | 5 =>
    if w = 2 then refuseIf (decide (f 13 0 < 1518) || decide (f 13 0 > 10240)) St.eRange
    else if w = 3 then refuseIf (f 1 0 == 3) St.eArg
    else none
  | 6 => if w = 0 then refuseIf (pgModeBad v) St.eArg else if w = 1 ∨ w = 2 then refuseIf (laneMapBad v) St.eArg else none
  | 10 =>
    if i = 64 then
      if w = 0 then refuseIf (decide (f 15 8 ≥ f 23 16) || decide (f 23 16 > 105)) St.eRange else none
    else if w = 0 then
      if f 1 0 = 3 then some St.eArg
      else refuseIf (f 1 0 != regField s 10 i 0 1 0 && widthBlocked s i) St.eBusy
    else if w = 1 then refuseIf (bitOf v 7 && pairRefused (futureState s) i (f 5 0)) St.eArg
    else none
  | 11 =>
    if w ≥ 0x100 then none
    else if w % 4 = 0 then refuseIf (decide (f 3 0 > 8) || decide (f 6 4 > 3) || f 12 11 == 3 || decide (f 23 16 > 127)) St.eArg
    else if w % 4 = 1 then refuseIf (decide (f 31 16 < f 15 0)) St.eArg
    else none
  | 12 => if 0x40 ≤ w ∧ w < 0x80 then refuseIf (decide (f 3 0 > 12)) St.eRange else none
  | 13 =>
    if i = 16 then
      match w with
      | 0x10 | 0x11 => refuseIf (!flowEmpty s) St.eBusy
      | 0x12 => refuseIf (decide (f 11 0 < 256) || decide (f 11 0 > 2000)) St.eRange
      | 0x14 => if !flowEmpty s then some St.eBusy else refuseIf (decide (f 4 0 < 4) || decide (f 4 0 > 20)) St.eRange
      | 0x18 => if s.flow.pools.any (fun e => bitOf (rd e.2 3 1) 0) then some St.eBusy else refuseIf (f 3 0 == 0) St.eRange
      | 0x28 => refuseIf (f 1 0 == 0 || f 1 0 == 3) St.eArg
      | _ => none
    else match w with
      | 4 =>
        if decide (f 17 16 > 1) || decide (f 19 18 > 1) then some St.eArg else refuseIf (decide (f 15 0 < 16)) St.eRange
      | 6 => refuseIf (decide (f 17 0 > 131072) || decide (f 17 0 < waysPinned (slAt s i))) St.eRange
      | 0xB => refuseIf (decide (f 14 8 ≥ f 6 0) || decide (f 6 0 > 90) || decide (f 22 16 > 64)) St.eRange
      | 0xC => refuseIf (decide (f 7 0 > 128) || decide (f 13 8 > 47) || decide (f 21 16 > f 13 8)) St.eRange
      | _ => none
  | 14 =>
    if i ≠ 128 then none
    else if w < 6 then maskFault 10 6 6 w 805306368 v 0
    else if w = 0x11 then refuseIf (decide (f 7 0 > 105)) St.eRange
    else if w = 0x12 then refuseIf (f 13 0 == 0 || decide (f 13 0 > 10000)) St.eRange
    else none
  | 15 =>
    if i ≠ 16 then none
    else if w < 8 then
      ((s.jnl.channels.map (fun k =>
        let x := memAt s true k
        maskFault (6 + x.colBits) 6 x.selBits w (2 ^ 30 * s.jnl.gib) v 6)).find? Option.isSome).join
    else if w = 0x11 then refuseIf (decide (f 7 0 > 105)) St.eRange
    else if w = 0x12 then refuseIf (f 13 0 == 0 || decide (f 13 0 > 10000)) St.eRange
    else none
  | 16 =>
    if w < 3 then refuseIf (decide (1056 * ownerMin t i + headroomSize t i + hostSize t i + 32768 > 196608)) St.eRange
    else if w = 4 then refuseIf (decide (f 6 0 < 1) || decide (f 6 0 > 64)) St.eRange
    else none
  | 17 =>
    if w < 8 then
      if f 1 0 = 3 ∨ (f 1 0 = 2 ∧ w < 6) then some St.eArg else refuseIf (f 15 8 == 0) St.eRange
    else if w = 8 ∨ w = 9 then calendarFault t i
    else if w = 0xC then refuseIf (decide (v < 1000)) St.eRange
    else none
  | 18 => if i = 0 ∧ w = 0x200 then refuseIf (f 15 0 == 0) St.eRange else none
  | 19 => if i = 256 ∧ w = 0x11 then refuseIf (!regionsFit t 10 (f 15 0) (f 31 16)) St.eArg else none
  | 21 => if 8 ≤ w ∧ w < 16 then refuseIf ((List.range 16).all (fun j => !(bitOf (f 23 8) j && coreIn s i j))) St.eArg else none
  | 22 =>
    if 1 ≤ i ∧ i ≤ 4 then
      if w = 0 ∨ w = 1 then
        let n := regField t 22 i 1 23 0
        if n = 0 then some St.eRange
        else refuseIf (regField t 22 i 0 1 0 == 2 && 2 ^ Nat.log2 n != n) St.eArg
      else if 0x10 ≤ w ∧ w < 0x20 then refuseIf (!pipeCatalogue.contains (f 15 0)) St.eArg
      else none
    else if 16 ≤ i ∧ i < 32 ∧ 0x10 ≤ w ∧ w < 0x18 then refuseIf (!sliceCatalogue.contains (f 15 0)) St.eArg
    else none
  | 23 => if i = 0 ∧ w = 0 then refuseIf (decide (f 11 8 < 2) || decide (f 11 8 > 8)) St.eRange else none
  | 24 =>
    if w = 1 ∨ w = 2 then refuseIf (!regionsFit t i (regField t 24 i 2 15 0) (regField t 24 i 1 15 0)) St.eArg
    else if w = 0xF then refuseIf (decide (f 6 0 > 100)) St.eRange
    else none
  | _ => none

/-! ### Writing -/

/-- Is the word one half of JNL[i].CONSUMED (R332, R344)? -/
def isConsumed (a w : Nat) : Bool := addrClass a == 24 && decide (addrInst a < 9) && addrWord a == w

/-- The position that a write of CONSUMED_HI names, with the lower word held for the session, or as it stands (R580). -/
def consumedPos (i a v : Nat) (s : State) : Dword :=
  let lo := match tfind s.prm.held (latchKey i (a - 1)) with | some x => x | none => tgetD paramReset s.prm.regs (a - 1)
  BitVec.ofNat 64 (2 ^ 32 * v + lo.toNat)

/-- Would a write clear priority flow control at a host port: it names the mode and leaves another than 2, or clears a priority
of either direction (R94)? -/
def clearsHostPfc (a : Nat) (v mask : Word) : Bool :=
  decide (addrClass a = 5 ∧ addrInst a ≥ 128 ∧ addrWord a = 3) &&
  ((mask &&& 3 != 0 && v &&& 3 != 2) || (~~~v &&& mask &&& 0x001F_FFE0) != 0)

/-- Judge a write item of session index `i` (R576): the status that refuses it, or the value of the whole word after it. -/
def judgeWrite (i a : Nat) (value mask : Word) (s : State) : Except Half Word :=
  match paramDef a with
  | none => .error St.eRange
  | some d =>
    let hit := Nat.land mask.toNat d.rwl
    if d.writable = 0 then .error St.eArg
    else if (hit ≠ 0 ∨ (d.rw = 0 ∧ d.w1c = 0)) ∧ s.sys.mode ≠ .kindling ∧ s.sys.mode ≠ .configure then .error St.eMode
    else if addrClass a = 4 ∧ (addrWord a = 6 ∨ addrWord a = 7) ∧ s.sys.mode ≠ .test then .error St.eMode
    else if isAbsent s (addrClass a) (addrInst a) then .error St.eFault
    else
      let m := mask &&& BitVec.ofNat 32 (Nat.lor d.rw d.rwl)
      let v := (futureWord s a &&& ~~~m) ||| (value &&& m)
      if clearsHostPfc a v m then .error St.eArg else
      match classFault s (setRegAt a v (futureState s)) (addrClass a) (addrInst a) (addrWord a) with
      | some e => .error e
      | none =>
        if isConsumed a 0xD then
          match consume (addrInst a) (consumedPos i a v.toNat s) s with
          | .error e => .error e
          | .ok _ => .ok v
        else .ok v

/-- Does a write of the word act in the cycle of its acceptance rather than at a boundary: what a write of ones clears, the
consumed position, the observer bit, and the enable of a DMA channel (R10, R332, R470, R530)? -/
def actsAtOnce (a : Nat) : Bool :=
  match addrClass a with
  | 1 => addrWord a == 1
  | 3 => addrWord a == 0xC
  | 18 => addrWord a == 0
  | 20 => addrWord a == 0
  | 22 => addrInst a == 0
  | 24 => isConsumed a 0xC || isConsumed a 0xD
  | _ => false

/-- The effect of a write that acts at once; `v` is the word after it and `clear` the ones written to bits that they
clear. -/
def writeNow (i a : Nat) (v : Word) (clear : Nat) (s : State) : State :=
  match addrClass a with
  | 1 => clearFaults clear s
  | 3 => setReg 3 0 0xC (reg s 3 0 0xC &&& ~~~(BitVec.ofNat 32 clear)) s
  | 18 => if bitOf clear 26 then modHq (addrInst a) (fun x => { x with lost := false }) s else s
  | 20 => if bitOf v.toNat 0 then setRegAt a v s else dxCtrlDisable (addrInst a) s
  | 24 =>
    if addrWord a = 0xC then s.setPrm { s.prm with held := tput s.prm.held (latchKey i a) v }
    else match consume (addrInst a) (consumedPos i a v.toNat s) s with
      | .error _ => s
      | .ok s1 =>
        let p := consumedPos i a v.toNat s
        let s2 := setRegAt (a - 1) (p.setWidth 32) (setRegAt a v s1)
        s2.setPrm { s2.prm with held := terase s2.prm.held (latchKey i (a - 1)) }
  | _ => setRegAt a v s

/-- Apply an accepted write item: at once, or deferred to the boundary of R35 in acceptance order (R34, R35). -/
def acceptWrite (i c a : Nat) (value mask v : Word) (s : State) : State :=
  match paramDef a with
  | none => s
  | some d =>
    if actsAtOnce a then writeNow i a v (Nat.land (Nat.land mask.toNat value.toNat) d.w1c) s
    else defer { due := dueTick s c, change := .word a (mask &&& BitVec.ofNat 32 (Nat.lor d.rw d.rwl)) value } s

/-- The value of the whole word after a write (R495). -/
def writtenBack (s : State) (c a : Nat) (v : Word) (mask value : Word) : Nat :=
  match paramDef a with
  | none => 0
  | some d =>
    let ones := Nat.land (Nat.land mask.toNat value.toNat) d.w1c
    let now := presentValue s c a d
    Nat.lor (Nat.land v.toNat (Nat.lor d.rw d.rwl))
      (Nat.lor (Nat.land now d.ro) (Nat.land now (d.w1c - Nat.land ones d.w1c)))

/-! ### The commands -/

/-- The items of a PARAM command, if its prefix and length are right (R495). -/
def paramItems (size : Nat) (p : List Byte) : Option (Bool × List (List Byte)) :=
  let n := rd p 0 2
  if p.length < 8 ∨ n > 256 ∨ rd p 2 1 > 1 ∨ !zeros p 3 5 ∨ p.length ≠ 8 + size * n then none
  else some (rd p 2 1 = 1, (List.range n).map (fun k => (p.drop (8 + size * k)).take size))

/-- The first status that is not OK. -/
def firstStatus (sts : List Half) : Half := (sts.find? (· != St.ok)).getD St.ok

/-- One item of a result: value and status (R495). -/
def itemResult (v : Nat) (st : Half) : List Byte := le 4 v ++ le 2 st.toNat ++ le 2 0

/-- Does an address name a word whose read clears it? -/
def isRc (a : Nat) : Bool := match paramDef a with | some d => d.rc != 0 | none => false

/-- PARAM_READ (R495). -/
def bodyParamRead (r : Req) (s : State) : State × Reply :=
  match paramItems 4 r.payload with
  | none => (s, .no St.eArg)
  | some (all, items) =>
    let addrs := items.map (fun b => rd b 0 4)
    let rc := addrs.any isRc
    let bad := addrs.map (fun a => if (paramDef a).isSome then St.ok else St.eRange)
    if all ∧ firstStatus bad ≠ St.ok then
      (s, { status := firstStatus bad, payload := (bad.map (itemResult 0)).flatten, audited := rc })
    else
      let run := addrs.foldl (fun (acc : State × List Half × List Byte) a =>
        let (s1, st, v) := readWord (sessionIdx r.session) r.cycle a acc.1
        (s1, acc.2.1 ++ [st], acc.2.2 ++ itemResult v st)) (s, [], [])
      (run.1, { status := firstStatus run.2.1, payload := run.2.2, audited := rc })

/-- One write item, applied in order: the state, its status and its result. -/
def writeOne (r : Req) (apply : Bool) (b : List Byte) (s : State) : State × Half × List Byte :=
  let a := rd b 0 4
  let i := sessionIdx r.session
  let value := BitVec.ofNat 32 (rd b 4 4)
  let mask := BitVec.ofNat 32 (rd b 8 4)
  match judgeWrite i a value mask s with
  | .error e => (s, e, itemResult 0 e)
  | .ok v =>
    (if apply then acceptWrite i r.cycle a value mask v s else s, St.ok,
      itemResult (writtenBack s r.cycle a v mask value) St.ok)

/-- Run the items of a PARAM_WRITE. -/
def writeWords (r : Req) (apply : Bool) (items : List (List Byte)) (s : State) : State × List Half × List Byte :=
  items.foldl (fun (acc : State × List Half × List Byte) b =>
    let (s1, st, out) := writeOne r apply b acc.1
    (s1, acc.2.1 ++ [st], acc.2.2 ++ out)) (s, [], [])

/-- PARAM_WRITE (R495): with items that R35 defers, the response waits for their boundary, whose tick count follows the
items (R480). -/
def bodyParamWrite (r : Req) (s : State) : State × Reply :=
  match paramItems 12 r.payload with
  | none => (s, .no St.eArg)
  | some (all, items) =>
    let check := writeWords r true items s
    if all ∧ firstStatus check.2.1 ≠ St.ok then (s, { status := firstStatus check.2.1, payload := check.2.2 })
    else
      let run := writeWords r true items s
      let st := firstStatus run.2.1
      if run.1.sys.deferred.length = s.sys.deferred.length then (run.1, { status := st, payload := run.2.2 })
      else
        (defer { due := dueTick s r.cycle, change := .notify, resp := some (respOf Op.paramWrite r st run.2.2) } run.1,
          { status := st, waits := true })

/-- Does a class have an instance (R574)? -/
def instanceExists (cls i : Nat) : Bool :=
  paramRows cls != [] && (if cls = 22 then decide (i ≤ 4 ∨ (16 ≤ i ∧ i ≤ 33)) else decide (i ≤ classLast cls))

/-- PARAM_READ_BLOCK (R496): address (4), count (2), 2 reserved bytes. -/
def bodyParamReadBlock (r : Req) (s : State) : State × Reply :=
  let p := r.payload
  let a := rd p 0 4
  let n := rd p 4 2
  if p.length ≠ 8 ∨ !zeros p 6 2 then (s, .no St.eArg)
  else if n = 0 ∨ n > 1000 ∨ addrWord a + n > 0x4000 ∨ !instanceExists (addrClass a) (addrInst a) then
    (s, .no St.eRange)
  else
    let run := (List.range n).foldl (fun (acc : State × List Byte) k =>
      let (s1, _, v) := readWord (sessionIdx r.session) r.cycle (a + k) acc.1
      (s1, acc.2 ++ le 4 v)) (s, [])
    (run.1, { payload := le 4 0 ++ run.2, audited := (List.range n).any (fun k => isRc (a + k)) })

/-- A host's access to one word stands in the audit log as the PARAM_READ or PARAM_WRITE of one item that it is, in the session of an
index; its route and source are not given (R10, R495, R498; DESIGN CHOICE, log 63). -/
def auditAccess (op i c : Nat) (item : List Byte) (st : Half) (s : State) : State :=
  audit op { session := sessionId s i, cycle := c, payload := le 8 1 ++ item } { status := st } false s

/-- A read of one word by session index `i` in core cycle `c`: one that clears a counter is audited (R10, R495). -/
def wordRead (i c a : Nat) (s : State) : State :=
  if s.sys.mode = .reset then s
  else
    let (s1, st, _) := readWord i c a s
    if isRc a then auditAccess Op.paramRead i c (le 4 a) st s1 else s1

/-! ### The meanings -/

/-- PARAM_READ. -/
def execParamRead (r : Req) (s : State) : Host.Outcome State Fault Refusal := .next (runToune Op.paramRead bodyParamRead r s)
/-- PARAM_WRITE. -/
def execParamWrite (r : Req) (s : State) : Host.Outcome State Fault Refusal := .next (runToune Op.paramWrite bodyParamWrite r s)
/-- PARAM_READ_BLOCK. -/
def execParamReadBlock (r : Req) (s : State) : Host.Outcome State Fault Refusal :=
  .next (runToune Op.paramReadBlock bodyParamReadBlock r s)
/-- LATCHED_LO_READ: a read by session index `i` of a word that latches others (R579). -/
def execLatchedLoRead (i : Fin 32) (c : Fin 1350) (a : Word) (s : State) : Host.Outcome State Fault Refusal :=
  .next (if latchedBy a.toNat = [] then s else wordRead i c a.toNat s)
/-- RC_WORD_READ: a read of a counter of one word returns and clears it (R10). -/
def execRcWordRead (i : Fin 32) (c : Fin 1350) (a : Word) (s : State) : Host.Outcome State Fault Refusal :=
  .next (if isRc a.toNat then wordRead i c a.toNat s else s)
/-- ENTROPY_READ (R583). -/
def execEntropyRead (i : Fin 32) (c : Fin 1350) (s : State) : Host.Outcome State Fault Refusal :=
  .next (readWord i c 6 s).1
/-- PMON_OBSERVER_WRITE: the observer bit acts at acceptance (R530). -/
def execPmonObserverWrite (on : Bool) (s : State) : Host.Outcome State Fault Refusal :=
  .next (setReg 22 0 0 (BitVec.ofNat 32 (b2n on)) s)

end Sys2Proof.Machine
end

