-- ==== Sys2Proof/Machine/TwinLink.lean ====
section
/-! DEFINITION. The half-links of the twin pair: their states, link frames, retry and credits, and the clearing of flow
state (R92, R253, R532 to R537, R542). -/

namespace Sys2Proof.Machine

/-! ### Clearing flow state -/

/-- An in-flight entry is emptied: its packets get DENY, and its other operations end as they would on what the slice then
holds. -/
def dropFlight (n : Nat) (f : Flight) (s : State) : State :=
  let s1 := delFlight n f.digest (answerAll n f.digest 1 s)
  (f.ops.filter (fun op => !op.isPacket)).foldl (fun s op => runBg n op false s) s1

/-- Nothing of a slice waits any more in its host queue, nor holds a forward or a record made and not yet run. -/
def emptyWaits (n : Nat) (s : State) : State :=
  let s1 := (slAt s n).hostQ.foldl (fun s op => runBg n op false s) (modSl n (fun x => { x with hostQ := [], made := [] }) s)
  s1.setFlow { s1.flow with fwdWait := s1.flow.fwdWait.filter (fun w => w.1 != n) }

/-- Every record of every slice is discarded, with the translation bitmaps; operations in flight answer DENY and the
templates and pools stand (R60, R253, R547). -/
def clearSlice (n : Nat) (s : State) : State :=
  let s1 := emptyWaits n ((slAt s n).flights.foldl (fun s f => dropFlight n f s) s)
  modSl n (fun x => { x with
    upsets := [], flights := [], createQ := [], holdQ := [], punts := [], hearth := [], stack := [], turf := [], sums := []
    badSums := [], clears := [], wheel := [], expiry := [], installs := [], acks := [], ptrDemotes := []
    fullEpisode := false, holdEpisode := false, puntEpisode := false, wheelEpisode := false, atLimit := false
    high := false, demotePos := 0, walked := 0, age := none
    parts := x.parts.map (fun e => (e.1, freshPart (match tfind s.flow.pools e.1 with
      | some d => partSize d n
      | none => 0))) }) s1

/-- Clear the flow state of the device. -/
def clearFlow (s : State) : State := completeCmds ((List.range 16).foldl (fun s n => clearSlice n s) s)

/-! ### The pair when a half-link changes -/

/-- Is the device paired: HELLOs have been replaced by heartbeats (R541, R549)? -/
def paired (s : State) : Bool := s.twin.pair == .rejoining || s.twin.pair == .inSync || s.twin.pair == .outOfSync

/-- Does the device own flows (R538)? -/
def ownsFlows (s : State) : Bool := (s.sys.mode == .service || s.sys.mode == .degraded) && s.twin.role != 2

/-- The credits held are void. -/
def dropCredits (s : State) : State :=
  (List.range 2).foldl (fun s h => setHalf h { halfAt s h with credits := 0 } s) s

/-- The pair becomes ALONE; an active tells it with a cause: 0 heartbeat, 1 peer SAFE, 2 link down (R541, R554).  A
standby keeps its role until it has taken over. -/
def goAlone (cause : Nat) (s : State) : State :=
  if s.twin.pair = .alone then s
  else
    let s1 := if s.twin.role = 1 && paired s then
        raise Ev.twinPeerLost (le 1 cause ++ le 8 s.tick.count.toNat) s else s
    dropCredits <| s1.setTwin { s1.twin with
      pair := .alone
      role := if s1.sys.mode = .standby || ownsFlows s1 || s1.sys.mode = .safe then s1.twin.role else 0
      lag := [], follow := [], walk := [], walking := false, endSeq := none, ready := false, clearing := false
      yields := false, beatSeen := false }

/-- Grant the whole credit of a half-link that has none granted (R542). -/
def grantCredits (s : State) : State :=
  (List.range 2).foldl (fun s h =>
    if halfUp s h && (halfAt s h).granted == 0 then
      let s1 := linkControl h (le 4 3 ++ le 4 4096) s
      setHalf h { halfAt s1 h with granted := 4096 } s1
    else s) s

/-! ### States of a half-link (R534) -/

/-- Is TWIN[0].CTRL.enable set? -/
def twinEnabled (s : State) : Bool := bitOf (reg s 23 0 0).toNat 0

/-- Is a lane of half-link `h` held in idle (R533)? -/
def twinIdle (s : State) (h : Nat) : Bool :=
  (List.range 8).any (fun l => bitOf (reg s 4 (144 + 8 * h + l) 0).toNat 2)

/-- Put the lanes of a half-link into idle, or take them out of it (R91, R92): out of idle they send from the settings of their
calibration entries (R533) and lock from the CDR, CTLE, FFE and DFE state they have kept. -/
def twinLanes (h : Nat) (idle : Bool) (s : State) : State :=
  (List.range 8).foldl (fun s l =>
    let k := 144 + 8 * h + l
    let x := laneAt s k
    setLane k (if idle then { x with idle := true, cdrLock := false, leaving := none }
      else { x with idle := false, leaving := some s.tick.count, taps := startTaps s 0 k }) s) s

/-- The receivers of a half-link's lanes are locked, or lose their lock. -/
def twinLocks (h : Nat) (on : Bool) (s : State) : State :=
  (List.range 8).foldl (fun s l =>
    let k := 144 + 8 * h + l
    setLane k { laneAt s k with signal := on || (laneAt s k).signal, cdrLock := on, leaving := none } s) s

/-- The half-links that are DOWN start to hunt while the TU runs and TWIN is enabled (R533, R534). -/
def twinStart (s : State) : State :=
  (List.range 2).foldl (fun s h =>
    if (halfAt s h).st = .down ∧ s.tick.running ∧ twinEnabled s ∧ !twinIdle s h then
      setHalf h { halfAt s h with st := .hunt } (twinLanes h false s)
    else s) s

/-- A half-link leaves ALIGN or UP for HUNT, or any state for DOWN, with a cause: 0 lock, 1 alignment, 2 retry, 3 disable.
Unacknowledged frames are kept for resending, but for a link that goes DOWN. -/
def halfLost (h cause : Nat) (down : Bool) (s : State) : State :=
  let x := halfAt s h
  let y : HalfLink := if down then { sent := x.sent, rx := x.rx, rxCross := x.rxCross }
    else { x with st := .hunt, locked := 0, order := 0, nakOut := false, resends := 0 }
  let s1 := setHalf h y (if down then twinLanes h true s else if cause = 0 then twinLocks h false s else s)
  let s2 := if x.st = .up then
      raise Ev.twinLinkDown (le 1 h ++ le 1 cause) (bump32 23 (1 + h) 0x12 1 s1) else s1
  if !halfUp s2 0 && !halfUp s2 1 then goAlone 2 s2 else s2

/-- TWIN_LANE_LOCK: the eight lanes of a half-link are in block lock. -/
def twinLaneLock (h : Nat) (s : State) : State :=
  let x := halfAt s h
  if x.st ≠ .hunt then s else setHalf h { x with st := .align, locked := 0xFF } (twinLocks h true s)

/-- Are the eight lane numbers each present once? -/
def orderOk (o : BitVec 24) : Bool :=
  (List.range 8).all (fun k => (List.range 8).any (fun l => bitsOf o.toNat (3 * l + 2) (3 * l) == k))

/-- Put the unacknowledged frames of a half-link on it again, with the present acknowledgement. -/
def resendLink (h : Nat) (s : State) : State :=
  let x := halfAt s h
  setHalf h { x with
    sent := x.sent ++ x.unacked.map (fun f => linkBytes f.kind f.seq x.expect f.payload)
    unacked := x.unacked.map (fun f => { f with since := s.tick.count }) } s

/-- TWIN_LINK_UP: alignment blocks have given the lane numbers, and the half-link is UP. -/
def twinLinkUp (h : Nat) (order : BitVec 24) (s : State) : State :=
  let x := halfAt s h
  if x.st ≠ .align ∨ !orderOk order then s
  else
    let s1 := setHalf h { x with st := .up, order := order, resends := 0 } s
    let s2 := raise Ev.twinLinkUp (le 1 h ++ le 8 s.tick.count.toNat) (resendLink h s1)
    let y := halfAt s2 h
    let s3 := setHalf h (linkPump s.tick.count y.waiting.length y) s2
    if s3.twin.pair = .alone then s3.setTwin { s3.twin with pair := .forming }
    else if pairedActive s3 then grantCredits s3 else s3

/-- TWIN_LINK_DOWN: a lane loses lock, an alignment block is missing or misplaced, or the retry gives up; cause 3 once TWIN
is disabled. -/
def twinLinkDown (h cause : Nat) (s : State) : State :=
  let x := halfAt s h
  if cause = 3 then (if x.st = .down ∨ twinEnabled s then s else halfLost h 3 true s)
  else if x.st = .align ∨ x.st = .up then halfLost h cause false s
  else s

/-- LANE_IDLE_EXIT_FAIL: a twin lane that leaves idle is not locked within one tick, and its half-link goes DOWN (R92, R534). -/
def laneIdleExitFail (l : Nat) (s : State) : State :=
  if (laneAt s (144 + l)).leaving.isNone then s
  else halfLost (l / 8) 3 true (raise Ev.laneIdleExitFail (le 2 (144 + l)) s)

/-! ### Link frames (R535, R536) -/

/-- Does sequence `a` lie before `b`, modulo 2^16? -/
def seqBefore (a b : Half) : Bool := decide (0 < (b - a).toInt)

/-- The peer expects sequence `ack` next: the frames before it leave the replay buffer. -/
def ackFrames (h : Nat) (ack : Half) (s : State) : State :=
  let x := halfAt s h
  let left := x.unacked.filter (fun f => !seqBefore f.seq ack)
  let y := { x with unacked := left, resends := if left.length < x.unacked.length then 0 else x.resends }
  setHalf h (linkPump s.tick.count y.waiting.length y) s

/-- Resend from the oldest unacknowledged frame; the half-link gives up after 16 resends without progress. -/
def resendFrames (h : Nat) (s : State) : State :=
  let x := halfAt s h
  if x.unacked = [] then s
  else if x.resends ≥ 16 then halfLost h 2 false s
  else resendLink h (setHalf h { x with resends := x.resends + 1 } (bump32 23 (1 + h) 0x11 1 s))

/-- One negative acknowledgement names the expected sequence. -/
def sendNak (h : Nat) (s : State) : State :=
  let x := halfAt s h
  if x.nakOut then s
  else linkControl h (le 4 2 ++ le 4 x.expect.toNat) (setHalf h { x with nakOut := true } s)

/-- Split whole items out of the payload of a frame of a kind. -/
def splitItems (kind : Nat) : Nat → List Byte → List (List Byte)
  | 0, _ => []
  | fuel + 1, b =>
    if b = [] then []
    else
      let n := match kind with
        | 3 => if rd b 0 1 = 3 then 96 else 48
        | 4 => 32
        | 5 => (List.range (rd b 5 1)).foldl (fun o _ => o + entryLen (b.drop o)) 8
        | _ => b.length
      b.take n :: splitItems kind fuel (b.drop n)

/-- A sequence received of the deltas of a die, on a standby (R553). -/
def noteReceived (b : List Byte) (s : State) : State :=
  let q := BitVec.ofNat 32 (rd b 4 4)
  s.setTwin (if rd b 1 1 / 8 = 0 then { s.twin with sent0 := q } else { s.twin with sent1 := q })

/-- An accepted item waits for its application. -/
def acceptItem (h kind : Nat) (b : List Byte) (s : State) : State :=
  let x := halfAt s h
  let s1 := setHalf h (if kind = 6 then { x with rxCross := x.rxCross ++ [b] } else { x with rx := x.rx ++ [(kind, b)] }) s
  if kind = 3 && s.twin.role == 2 then noteReceived b s1 else s1

/-- The acknowledgements and credits of a CONTROL frame: type (4) and value (4), 1 acknowledgement, 2 negative
acknowledgement, 3 credits in cells; other types wait as items (R535, R542, R545). -/
def controlRx (h : Nat) (b : List Byte) (s : State) : State :=
  let v := rd b 4 4
  match rd b 0 4 with
  | 1 => ackFrames h (BitVec.ofNat 16 v) s
  | 2 => resendFrames h (ackFrames h (BitVec.ofNat 16 v) s)
  | 3 =>
    let x := halfAt s h
    let s1 := setHalf h { x with credits := min 4096 (x.credits + v) } s
    (List.range 2).foldl (fun s d => crossPump d s.path.pkts.length s) s1
  | _ => acceptItem h 7 b s

/-- Is a link frame whole: its length, and its CRC over header and payload? -/
def frameWhole (b : List Byte) : Bool :=
  decide (12 ≤ b.length) && rd b 2 2 + 12 == b.length && (crc32 (b.take (b.length - 4))).toNat == rd b (b.length - 4) 4

/-- TWIN_FRAME_RX: a link frame arrives on half-link `h`. -/
def twinFrameRx (h : Nat) (b : List Byte) (s : State) : State :=
  let x := halfAt s h
  let kind := rd b 0 1
  if x.st ≠ .up then s
  else if !frameWhole b then sendNak h (bump32 23 (1 + h) 0x10 1 s)
  else if kind = 0 ∨ kind > 7 then s
  else
    let p := (b.drop 8).take (b.length - 12)
    let s1 := ackFrames h (BitVec.ofNat 16 (rd b 6 2)) s
    if kind = 7 then controlRx h p s1
    else if BitVec.ofNat 16 (rd b 4 2) ≠ x.expect then
      if seqBefore (BitVec.ofNat 16 (rd b 4 2)) x.expect then s1 else sendNak h s1
    else
      let y := halfAt s1 h
      let s2 := setHalf h { y with expect := y.expect + 1, nakOut := false } s1
      (splitItems kind p.length p).foldl (fun s i => acceptItem h kind i s) s2

/-- TWIN_RESEND_TIMEOUT: the oldest unacknowledged frame has waited 4 ticks. -/
def twinResendTimeout (h : Nat) (s : State) : State :=
  let x := halfAt s h
  match x.unacked with
  | f :: _ => if x.st = .up ∧ ticksSince s.tick.count f.since ≥ 4 then resendFrames h s else s
  | [] => s

/-! ### Items that wait -/

/-- The first waiting item among some kinds, where it is of kind `k`: the item, and the state without it. -/
def takeItem (h k : Nat) (among : List Nat) (s : State) : Option (List Byte × State) :=
  let x := halfAt s h
  match x.rx.findIdx? (fun e => among.contains e.1) with
  | none => none
  | some i => match x.rx[i]? with
    | some (kind, b) => if kind = k then some (b, setHalf h { x with rx := x.rx.eraseIdx i } s) else none
    | none => none

/-- TWIN_CROSS_RX: the active takes a CROSS item into the port source of PIPE1 or PIPE3, and its credits go back (R542). -/
def twinCrossRx (h : Nat) (s : State) : State :=
  let x := halfAt s h
  match x.rxCross with
  | [] => s
  | b :: rest =>
    if s.twin.role ≠ 1 then s
    else
      let p := 1 + 2 * h
      let f := (b.drop 8).take (rd b 2 2)
      let s1 := bump32 23 0 0x16 1 (setHalf h { x with rxCross := rest } s)
      let s2 := s1.setPath { s1.path with
        xsrc := tput s1.path.xsrc p (tgetD (fun _ => []) s1.path.xsrc p ++ [(rd b 0 1, f)]) }
      if halfUp s2 h then linkControl h (le 4 3 ++ le 4 (cellsOf f.length)) s2 else s2

/-! ### The meanings -/

/-- TWIN_LANE_LOCK. -/
def execTwinLaneLock (h : Fin 2) (s : State) : Host.Outcome State Fault Refusal := .next (twinLaneLock h s)
/-- TWIN_LINK_UP. -/
def execTwinLinkUp (h : Fin 2) (order : BitVec 24) (s : State) : Host.Outcome State Fault Refusal :=
  .next (twinLinkUp h order s)
/-- TWIN_LINK_DOWN. -/
def execTwinLinkDown (h : Fin 2) (cause : Fin 4) (s : State) : Host.Outcome State Fault Refusal :=
  .next (twinLinkDown h cause s)
/-- LANE_IDLE_EXIT_FAIL. -/
def execLaneIdleExitFail (l : Fin 16) (s : State) : Host.Outcome State Fault Refusal := .next (laneIdleExitFail l s)
/-- TWIN_FRAME_RX. -/
def execTwinFrameRx (h : Fin 2) (b : List Byte) (s : State) : Host.Outcome State Fault Refusal := .next (twinFrameRx h b s)
/-- TWIN_RESEND_TIMEOUT. -/
def execTwinResendTimeout (h : Fin 2) (s : State) : Host.Outcome State Fault Refusal := .next (twinResendTimeout h s)
/-- TWIN_CROSS_RX. -/
def execTwinCrossRx (h : Fin 2) (s : State) : Host.Outcome State Fault Refusal := .next (twinCrossRx h s)

end Sys2Proof.Machine
end

