-- ==== Sys2Proof/Machine/Twin.lean ====
section
/-! DEFINITION. The twin pair: forming, replication, rejoin, heartbeat, takeover and hand-over (R538 to R552). -/

namespace Sys2Proof.Machine

/-! ### HELLO (R538) -/

/-- The digest of the configuration that both devices must share, the flow seed among it (R236). -/
def configDigest (s : State) : Dword :=
  crc64 0 (le 4 (reg s 13 16 0x10).toNat ++ le 4 (reg s 13 16 0x11).toNat ++ le 1 (regField s 13 16 0x14 4 0) ++
    le 1 (regField s 13 16 0x18 3 0))

/-- CRC-32C over the definitions of the 4,096 pools. -/
def poolsCrc (s : State) : Word :=
  crc32c ((List.range 4096).map (fun k => padTo 32 ((tfind s.flow.pools k).getD []))).flatten

/-- The HELLO that this device sends. -/
def helloBytes (s : State) : List Byte :=
  le 8 s.tick.count.toNat ++ le 8 Config.serial.toNat ++ le 1 1 ++ le 1 1 ++ le 1 s.sys.mode.code ++
  le 1 (b2n s.sys.twinRole + 2 * b2n (ownsFlows s) + 4 * b2n s.twin.yields) ++ le 1 1 ++ le 3 0 ++
  le 8 (configDigest s).toNat ++ le 4 (rd (s.flow.prog.getD []) 12 4) ++ le 4 (templateCrc s).toNat ++
  le 4 (poolsCrc s).toNat ++ le 20 0

/-- The heartbeat that this device sends (R549). -/
def beatBytes (s : State) : List Byte :=
  let t := s.twin
  let fin := match t.handover with | some h => h.drained | none => false
  let (f0, f1) := match t.handover with
    | some h => if h.drained then (h.final0, h.final1) else (0, 0)
    | none => (0, 0)
  le 8 s.tick.count.toNat ++ le 1 s.sys.mode.code ++ le 1 t.role ++ le 1 t.pair.code ++
  le 1 (b2n t.safeFlag + 2 * b2n t.handover.isSome + 4 * b2n fin + 8 * b2n (t.ready && t.role == 2)) ++ le 4 0 ++
  le 4 t.sent0.toNat ++ le 4 t.sent1.toNat ++ le 4 t.applied0.toNat ++ le 4 t.applied1.toNat ++
  le 4 f0.toNat ++ le 4 f1.toNat ++ le 4 (t.buckets % 2 ^ 29) ++ le 2 (lagAt s 0).length ++ le 2 (lagAt s 1).length ++
  le 16 0

/-- TWIN_HEARTBEAT_SEND: a paired device sends its heartbeat on every UP half-link; one that is forming, incompatible or
split sends its HELLO (R34 step 12, R538, R549). -/
def twinBeat (s : State) : State :=
  let send := fun (kind : Nat) (b : List Byte) (s : State) =>
    (List.range 2).foldl (fun s h => if halfUp s h then linkSend h kind b s else s) s
  if s.twin.pair = .alone then s
  else if paired s then send 2 (beatBytes s) (useLink 64 s)
  else send 1 (helloBytes s) (useLink 64 s)

/-! ### Roles (R539 to R541) -/

/-- What differs between this device and its peer's HELLO, as TWIN[0].MISMATCH holds it. -/
def helloMismatch (s : State) (b : List Byte) : Nat :=
  b2n (rd b 0x10 1 > 1 || rd b 0x11 1 < 1) + 2 * b2n (rd b 0x14 1 != 1) + 4 * b2n (rd b 0x18 8 != (configDigest s).toNat) +
  8 * b2n (rd b 0x20 4 != rd (s.flow.prog.getD []) 12 4) + 16 * b2n (rd b 0x24 4 != (templateCrc s).toNat) +
  32 * b2n (rd b 0x28 4 != (poolsCrc s).toNat)

/-- Is this device the active one by rules 3 and 4 of R540? -/
def activeByPin (s : State) (b : List Byte) : Bool :=
  let peer := bitOf (rd b 0x13 1) 0
  if s.sys.twinRole != peer then s.sys.twinRole else decide (Config.serial.toNat < rd b 8 8)

/-- Sequences, grants and lists start anew when a pair forms or changes its roles. -/
def pairReset (s : State) : State :=
  let s1 := s.setTwin { s.twin with
    sent0 := 0, sent1 := 0, applied0 := 0, applied1 := 0, lag := [], follow := [], peerHanding := none, missed := 0 }
  (List.range 2).foldl (fun s h => setHalf h { halfAt s h with granted := 0 } s) s1

/-- A standby begins a rejoin: its flow state is to be cleared (R547). -/
def startClear (s : State) : State :=
  s.setTwin { s.twin with pair := .rejoining, clearing := true, ready := false, buckets := 0 }

/-- TWIN_PAIR_FORMED: roles are decided and the standby is in STANDBY (R541). -/
def formPair (s : State) : State :=
  let s1 := pairReset (raise Ev.twinPairFormed
    (le 1 s.twin.role ++ le 1 1 ++ le 8 s.twin.peerSerial.toNat)
    (s.setTwin { s.twin with version := 1, yields := false, beatSeen := true }))
  if s1.twin.role = 1 then grantCredits (startRejoin s1) else startClear s1

/-- The role of this device by a HELLO: 1 active, 2 standby, or none in a split (R540). -/
def decideRole (s : State) (b : List Byte) : Option Nat :=
  let peerOwns := bitOf (rd b 0x13 1) 1
  let peerYields := bitOf (rd b 0x13 1) 2
  let pin := activeByPin s b
  if ownsFlows s && peerOwns then
    if s.twin.yields && peerYields then some (if pin then 1 else 2)
    else if s.twin.yields then some 2
    else if peerYields then some 1
    else none
  else if ownsFlows s then some 1
  else if peerOwns then some 2
  else some (if pin then 1 else 2)

/-- TWIN_SPLIT: both devices own flows; the one that rules 3 and 4 would make the standby yields unless it holds (R540). -/
def splitPair (b : List Byte) (s : State) : State :=
  let s1 := if s.twin.pair = .split then s
    else raise Ev.twinSplit (le 8 s.twin.peerSerial.toNat ++ le 8 s.tick.count.toNat) s
  let yields := !activeByPin s b && !bitOf (reg s 23 0 0).toNat 3
  if yields then s1.setTwin { s1.twin with pair := .forming, role := 2, yields := true }
  else s1.setTwin { s1.twin with pair := .split, role := 1 }

/-- Resolve the pair by a HELLO (R539 to R541). -/
def resolvePair (b : List Byte) (s : State) : State :=
  let m := helloMismatch s b
  if m ≠ 0 then
    let s1 := if s.twin.pair = .incompatible ∧ s.twin.mismatch = m then s else raise Ev.twinMismatch (le 4 m) s
    s1.setTwin { s1.twin with pair := .incompatible, mismatch := m, version := 0 }
  else
    let s1 := s.setTwin { s.twin with mismatch := 0, version := 1 }
    match decideRole s1 b with
    | none => splitPair b s1
    | some r =>
      let s2 := s1.setTwin { s1.twin with pair := .forming, role := r }
      if (r = 1 ∧ rd b 0x12 1 = 5) ∨ (r = 2 ∧ s2.sys.mode = .standby) then formPair s2 else s2

/-- TWIN_HELLO_RX: the next HELLO received on half-link `h`. -/
def twinHelloRx (h : Nat) (s : State) : State :=
  match takeItem h 1 [1] s with
  | none => s
  | some (b, s1) =>
    if b.length ≠ 64 then s1
    else
      let s2 := s1.setTwin { s1.twin with
        hello := b, peerSerial := BitVec.ofNat 64 (rd b 8 8), peerPin := bitOf (rd b 0x13 1) 0 }
      match s2.twin.pair with
      | .forming | .incompatible | .split => resolvePair b s2
      | .alone | .rejoining | .inSync | .outOfSync => s2

/-- A checked item changes in CONFIGURE: an incompatible pair goes back to forming (R539). -/
def toForming (s : State) : State :=
  if s.twin.pair = .incompatible ∧ s.sys.mode = .configure then s.setTwin { s.twin with pair := .forming } else s

/-! ### Deltas and follows (R543 to R546) -/

/-- Pack items into payloads of a link frame (R535). -/
def packItems : List (List Byte) → List Byte → List (List Byte)
  | [], cur => if cur = [] then [] else [cur]
  | b :: bs, cur => if cur.length + b.length ≤ 10256 then packItems bs (cur ++ b) else cur :: packItems bs b

/-- Die `d` sends up to 256 deltas of a tick, each with the next sequence (R543). -/
def sendDeltas (d : Nat) (s : State) : State :=
  match replicating s, linkOf s d with
  | true, some h =>
    let take := (lagAt s d).take 256
    let base := if d = 0 then s.twin.sent0 else s.twin.sent1
    let items := (List.range take.length).map (fun i => match take[i]? with
      | some x => splice x.item 4 (le 4 (base + BitVec.ofNat 32 (i + 1)).toNat)
      | none => [])
    let last := base + BitVec.ofNat 32 take.length
    let s1 := setLag d ((lagAt s d).drop take.length) s
    let s2 := s1.setTwin (if d = 0 then { s1.twin with sent0 := last } else { s1.twin with sent1 := last })
    useLink items.flatten.length ((packItems items []).foldl (fun s p => linkSend h 3 p s) s2)
  | _, _ => s

/-- Apply one delta item as an operation of its home slice, in a cycle of its replication (R39, R544). -/
def applyDelta (b : List Byte) (s : State) : State :=
  let n := rd b 1 1 % 16
  let d := if rd b 0 1 = 2 then BitVec.ofNat 64 (rd b 8 8) else digestOf s (keyOf (deltaRecord s b))
  completeCmds (acceptBg n
    { kind := .delta b (n / 8) (some (BitVec.ofNat 32 (rd b 4 4))), key := none, digest := d } (useCycle n 2 s))

/-- Apply one FOLLOW item (R546). -/
def applyFollow (b : List Byte) (s : State) : State :=
  let n := rd b 0x1E 2 % 16
  completeCmds (acceptBg n { kind := .follow b, key := none, digest := BitVec.ofNat 64 (rd b 0 8) } (useCycle n 2 s))

/-- The records of a BULK item. -/
def bulkRecords (b : List Byte) : List (List Byte) :=
  ((List.range (rd b 5 1)).foldl (fun (acc : List (List Byte) × Nat) _ =>
    let n := entryLen (b.drop acc.2)
    (acc.1 ++ [(b.drop acc.2).take n], acc.2 + n)) ([], 8)).1

/-- Apply one BULK item: each record whose tag holds is applied as a RECORD delta, and its counters as a follow (R547). -/
def applyBulk (b : List Byte) (s : State) : State :=
  let n := rd b 4 1 % 16
  let s1 := (bulkRecords b).foldl (fun s e =>
    if !tagOk e then s
    else
      let d := digestOf s (keyOf e)
      let s1 := acceptBg n { kind := .delta (recordItem n e) (n / 8) none, key := none, digest := d } (useCycle n 2 s)
      acceptBg n { kind := .follow (followItem n d e), key := none, digest := d } (useCycle n 2 s1)) s
  completeCmds (s1.setTwin { s1.twin with buckets := s1.twin.buckets + 1 })

/-- May this device apply replicated state: a standby in STANDBY (R57, R544)? -/
def applies (s : State) : Bool := s.twin.role == 2 && s.sys.mode == .standby

/-- The cycles that an item of a kind takes in its slice, and the slice: a bulk item writes each record and its counters (R544,
R546, R547). -/
def applyCost (k : Nat) (b : List Byte) : Nat × Nat :=
  match k with
  | 3 => (rd b 1 1 % 16, 1)
  | 4 => (rd b 0x1E 2 % 16, 1)
  | _ => (rd b 4 1 % 16, 2 * rd b 5 1)

/-- Apply the next item of kind `k` of half-link `h` once its slice has the cycles for it; deltas, follows and bulk items keep their
order (R39, R544). -/
def applyNext (h k : Nat) (f : List Byte → State → State) (s : State) : State :=
  if !applies s then s
  else match takeItem h k [3, 4, 5] s with
    | some (b, s1) => let c := applyCost k b; if ownRoom s c.1 2 < c.2 then s else f b s1
    | none => s

/-- TWIN_DELTA_APPLY. -/
def twinDeltaApply (h : Nat) (s : State) : State := applyNext h 3 applyDelta s

/-- TWIN_FOLLOW_APPLY. -/
def twinFollowApply (h : Nat) (s : State) : State := applyNext h 4 applyFollow s

/-- TWIN_BULK_APPLY. -/
def twinBulkApply (h : Nat) (s : State) : State := applyNext h 5 applyBulk s

/-- TWIN_FOLLOW_READ: slice `n` reads up to 64 listed records of a tick, in its replication reservation and within the share of the
link, and sends a FOLLOW item for each (R39, R44, R546). -/
def twinFollowRead (n : Nat) (s : State) : State :=
  if s.twin.role ≠ 1 ∨ !(s.twin.pair == .inSync || s.twin.pair == .outOfSync) then s
  else
    let l := tgetD (fun _ => []) s.twin.follow n
    let room := min (64 - ownUsed s n 2) (min (ownRoom s n 2) (followRoom s))
    let rest := l.drop room
    let s1 := s.setTwin { s.twin with
      follow := if rest = [] then terase s.twin.follow n else tput s.twin.follow n rest }
    completeCmds ((l.take room).foldl (fun s d =>
      acceptBg n { kind := .followRead, key := none, digest := d } (useCycle n 2 s)) s1)

/-- TWIN_CONTROL_RX: the next CONTROL item with an image, templates or a pool; its last piece defers the change to the next
boundary (R545). -/
def twinControlRx (h : Nat) (s : State) : State :=
  match takeItem h 7 [7] s with
  | none => s
  | some (b, s1) =>
    if s.twin.role ≠ 2 ∨ !paired s then s1
    else
      let type := rd b 0 4
      let buf := if rd b 4 4 = 0 then b.drop 12
        else if type = s1.twin.ctlType ∧ rd b 4 4 = s1.twin.ctlBuf.length then s1.twin.ctlBuf ++ b.drop 12 else []
      if buf.length < rd b 8 4 then s1.setTwin { s1.twin with ctlType := type, ctlBuf := buf }
      else
        let s2 := s1.setTwin { s1.twin with ctlType := 0, ctlBuf := [] }
        let due := s.tick.count + 1
        match type with
        | 4 => defer { due := due, change := .progLoad buf } s2
        | 5 => defer { due := due, change := .templates ((List.range (buf.length / 36)).map (fun i =>
            (rd buf (36 * i) 2, (buf.drop (36 * i + 4)).take 32))) } s2
        | 6 => defer { due := due, change := .pool (rd buf 0 2) (if buf.length > 2 then some (buf.drop 2) else none) } s2
        | _ => s2

/-! ### Rejoin (R547, R548) -/

/-- TWIN_STANDBY_CLEARED: the standby has cleared its tiers, and sets ready. -/
def twinStandbyCleared (s : State) : State :=
  if s.twin.role ≠ 2 ∨ !s.twin.clearing then s
  else
    let s1 := clearFlow s
    s1.setTwin { s1.twin with clearing := false, ready := true, buckets := 0 }

/-- The active starts the walk of each slice from bucket 0. -/
def startWalk (s : State) : State :=
  let w := fun (d : Nat) => ({ next := (List.range 8).foldl (fun m i => tput m (8 * d + i) 0) [] } : Walk2)
  s.setTwin { s.twin with
    walk := tput (tput [] 0 (w 0)) 1 (w 1), walking := true, ready := true, buckets := 0, bulkSent := 0, endSeq := none }

/-- The replicated primary records found in a bucket of slice `n`, each as its authoritative copy (R268, R547). -/
def bucketRecords (s : State) (n b : Nat) : List (List Byte) :=
  let x := slAt s n
  let copy := fun (e : List Byte) => match hearthFind x (digestOf s (keyOf e)) (some (keyOf e)) with
    | some (_, w) => w.entry
    | none => e
  let want := fun (e : List Byte) => !isPtr e && isReplicated e
  let st := if chanIn s n b then (List.range 4).filterMap (fun i => tfind x.stack (4 * b + i)) else []
  let tu := if coldTier s n then (List.range 16).filterMap (fun i =>
      if turfUsed x b i && !clearing x (16 * b + i) then tfind x.turf (16 * b + i) else none) else []
  ((st ++ tu).map copy).filter want

/-- The slice of a die whose turn it is among those with buckets still to walk. -/
def walkSlice (w : Walk2) (d : Nat) : Option Nat :=
  ((List.range 8).map (fun i => 8 * d + (w.turn + i) % 8)).find? (fun n => (tfind w.next n).isSome)

/-- The walk's reads of a bucket draw on the shares of its memories: one access for its 4 ways, and one for each slot of its turf that
its summary shows (R40, R41, R269, R285). -/
def walkReads (n b : Nat) (s : State) : State :=
  let s1 := if chanIn s n b then useBack n (b % 8) 1 s else s
  if coldTier s n then useTurf n ((List.range 16).countP (turfUsed (slAt s n) b)) s1 else s1

/-- Walk up to `reads` buckets of die `d` within its share of the link and of the memories (R44, R547). -/
def walkBuckets (d h : Nat) : Nat → State → State
  | 0, s => s
  | reads + 1, s =>
    let w := tgetD (fun _ => ({} : Walk2)) s.twin.walk d
    match walkSlice w d with
    | none => s
    | some n =>
      let b := (tfind w.next n).getD 0
      let es := bucketRecords s n b
      let item := le 4 b ++ le 1 n ++ le 1 es.length ++ le 2 0 ++ es.flatten
      if (es ≠ [] ∧ item.length > bulkRoom s d) ∨ backRoom s n = 0 ∨ !recRoom s n (b % 8) ∨ (coldTier s n ∧ !turfRoom s n) then s
      else
        let next := if b + 1 ≥ stackBuckets s then terase w.next n else tput w.next n (b + 1)
        let s0 := walkReads n b s
        let s1 := s0.setTwin { s0.twin with
          walk := tput s.twin.walk d { next := next, turn := (n + 1) % 8 }, buckets := s.twin.buckets + 1
          bulkSent := if es = [] then s.twin.bulkSent else s.twin.bulkSent + 1
          bulkUse := if es = [] then s.twin.bulkUse
            else tput s.twin.bulkUse d (tgetD (fun _ => 0) s.twin.bulkUse d + item.length) }
        if es = [] then walkBuckets d h reads s1
        else walkBuckets d h reads (linkSend h 5 item (useLink item.length s1))

/-- The walk ends once every slice of both dies has been walked (R548). -/
def endWalk (s : State) : State :=
  if s.twin.walk.all (fun e => e.2.next == []) then
    s.setTwin { s.twin with walking := false, endSeq := some (s.twin.sent0, s.twin.sent1) }
  else s

/-- TWIN_BULK_WALK: die `d` walks buckets within its bulk share of a tick, as far as `reads` reads of buckets go.  Deltas of
the die that wait were made earlier and leave first (R44, R537, R548). -/
def twinBulkWalk (d reads : Nat) (s : State) : State :=
  match linkOf s d with
  | none => s
  | some h =>
    if s.twin.role ≠ 1 ∨ s.twin.pair ≠ .rejoining ∨ !s.twin.walking ∨ lagAt s d ≠ [] then s
    else endWalk (walkBuckets d h reads s)

/-- TWIN_RESYNC (R548, R552). -/
def bodyTwinResync (r : Req) (s : State) : State × Reply :=
  if r.payload ≠ [] ∨ s.twin.role ≠ 1 then (s, .no St.eArg)
  else if !(s.twin.pair == .outOfSync || s.twin.pair == .inSync) then (s, .no St.eBusy)
  else (startRejoin s, .yes [])

/-! ### Heartbeat (R549) -/

/-- TWIN_HB_MISS: hb_miss consecutive ticks have passed without a heartbeat, the ending one included: a standby schedules its
takeover, and an active has lost its peer. -/
def hbMiss (s : State) : State :=
  let missed := if s.twin.beatSeen then 0 else s.twin.missed + 1
  let watching := paired s || (s.twin.role == 2 && s.sys.mode == .standby && s.twin.pair == .alone)
  if !watching ∨ missed < regField s 23 0 0 11 8 ∨ s.twin.takeover.isSome then s
  else
    let s1 := recordFault 0x16 23 0 0 s
    if s.twin.role = 2 ∧ s.sys.mode = .standby then s1.setTwin { s1.twin with takeover := some 0 }
    else goAlone 0 s1

/-- A tick ends: one without a heartbeat counts as missed (R549). -/
def countBeat (s : State) : State :=
  let s1 := hbMiss s
  if !(paired s1 || (s1.twin.role == 2 && s1.sys.mode == .standby && s1.twin.pair == .alone)) then
    s1.setTwin { s1.twin with missed := 0, beatSeen := false }
  else if s1.twin.beatSeen then s1.setTwin { s1.twin with missed := 0, beatSeen := false }
  else
    let s2 := s1.setTwin { s1.twin with missed := min 15 (s1.twin.missed + 1) }
    bump32 23 0 0x11 1 s2

/-- A former active whose peer has taken over becomes the standby and completes its hand-over (R551). -/
def handedOver (s : State) : State :=
  let s1 := match s.twin.handover with
    | some h => if h.handle = 0 then s else complete Ev.twinHandoverDone h.handle St.ok (le 8 s.tick.count.toNat) s
    | none => s
  startClear (pairReset (s1.setTwin { s1.twin with handover := none, role := 2 }))

/-- Are both sequences of a pair reached? -/
def reached (a0 a1 b0 b1 : Word) : Bool := decide (0 ≤ (a0 - b0).toInt) && decide (0 ≤ (a1 - b1).toInt)

/-- What a standby takes from a heartbeat of the active. -/
def beatAtStandby (b : List Byte) (prevWalk : Nat) (s : State) : State :=
  let fl := rd b 0xB 1
  let pair := rd b 0xA 1
  let due := if bitOf fl 0 then some 1
    else if bitOf fl 2 && reached s.twin.applied0 s.twin.applied1 (BitVec.ofNat 32 (rd b 0x20 4)) (BitVec.ofNat 32 (rd b 0x24 4))
    then some 2 else none
  let s1 := s.setTwin { s.twin with
    takeover := if s.sys.mode = .standby ∧ s.twin.takeover.isNone then due else s.twin.takeover
    peerHanding := if bitOf fl 1 then some (s.twin.peerHanding.getD s.tick.count) else none }
  if pair = 4 ∧ (s1.twin.pair ≠ .rejoining ∨ rd b 0x28 4 < prevWalk) then startClear s1
  else if pair = 5 ∧ s1.twin.pair = .rejoining then
    raise Ev.twinInSync (le 8 s.tick.count.toNat) (s1.setTwin { s1.twin with pair := .inSync })
  else if pair = 6 ∧ s1.twin.pair ≠ .outOfSync then s1.setTwin { s1.twin with pair := .outOfSync }
  else s1

/-- What an active takes from a heartbeat of the standby. -/
def beatAtActive (b : List Byte) (s : State) : State :=
  let fl := rd b 0xB 1
  let pair := rd b 0xA 1
  let s1 := s.setTwin { s.twin with
    applied0 := BitVec.ofNat 32 (rd b 0x18 4), applied1 := BitVec.ofNat 32 (rd b 0x1C 4) }
  if rd b 9 1 = 1 then (if ownsFlows s1 then s1 else handedOver s1)
  else if bitOf fl 0 then goAlone 1 s1
  else if pair = 6 ∧ (s1.twin.pair = .inSync ∨ (s1.twin.pair = .rejoining ∧ s1.twin.ready)) then
    s1.setTwin { s1.twin with pair := .outOfSync, walking := false, walk := [], endSeq := none }
  else if s1.twin.pair = .rejoining ∧ !s1.twin.ready ∧ pair = 4 ∧ bitOf fl 3 ∧ rd b 0x28 4 = 0 then startWalk s1
  else match s1.twin.pair, s1.twin.endSeq with
    | .rejoining, some (e0, e1) =>
      if rd b 0x28 4 = s1.twin.bulkSent % 2 ^ 29 ∧ reached s1.twin.applied0 s1.twin.applied1 e0 e1 then
        raise Ev.twinInSync (le 8 s.tick.count.toNat) (s1.setTwin { s1.twin with pair := .inSync, endSeq := none, walk := [] })
      else s1
    | _, _ => s1

/-- TWIN_HEARTBEAT_RX: the next heartbeat received on half-link `h`. -/
def twinHeartbeatRx (h : Nat) (s : State) : State :=
  match takeItem h 2 [2] s with
  | none => s
  | some (b, s1) =>
    if b.length ≠ 64 then s1
    else
      let prev := rd s1.twin.beat 0x28 4
      let s2 := s1.setTwin { s1.twin with
        beat := b, beatSeen := true, missed := 0, offset := s1.tick.count - BitVec.ofNat 48 (rd b 0 8) }
      if s2.twin.pair = .forming then
        (if s2.twin.role = 1 ∧ rd b 8 1 = 5 ∧ rd b 9 1 = 2 then formPair s2 else s2)
      else if !paired s2 then s2
      else if s2.twin.role = 2 then beatAtStandby b prev s2
      else beatAtActive b s2

/-! ### Takeover and hand-over (R550, R551) -/

/-- Apply every waiting item of a half-link, in order. -/
def applyAll (h : Nat) (s : State) : State :=
  let x := halfAt s h
  let items := x.rx.filter (fun e => [3, 4, 5].contains e.1)
  let s1 := setHalf h { x with rx := x.rx.filter (fun e => !([3, 4, 5].contains e.1)) } s
  items.foldl (fun s e => if e.1 = 3 then applyDelta e.2 s else if e.1 = 4 then applyFollow e.2 s else applyBulk e.2 s) s1

/-- Discard the CROSS items of a half-link that the peer has not acknowledged, and answer how many (R550). -/
def dropCross (h : Nat) (s : State) : State × Nat :=
  let x := halfAt s h
  let n := (x.unacked.filter (fun f => f.kind == 6)).length + (x.waiting.filter (fun f => f.1 == 6)).length
  (setHalf h { x with unacked := x.unacked.filter (fun f => f.kind != 6)
                      waiting := x.waiting.filter (fun f => f.1 != 6) } s, n)

/-- Discard the packets that wait for credit, and answer how many. -/
def dropCrossing (s : State) : State × Nat :=
  s.path.pkts.foldl (fun acc e =>
    if e.2.stage = .cross then (discardPkt e.1 e.2 5 3 acc.1, acc.2 + 1) else acc) (s, 0)

/-- Arm every record of a slice whose armed bit is 1, with deadline takeover tick + interval (R323). -/
def armRecords (n : Nat) (s : State) : State :=
  let x := slAt s n
  let hs := x.hearth.map (fun w => (w.2.digest, (⟨0, w.1⟩ : Place), w.2.entry))
  let ss := x.stack.filterMap (fun e =>
    let d := digestOf s (keyOf e.2)
    if hs.any (fun w => w.1 == d) then none else some (d, (⟨1, e.1⟩ : Place), e.2))
  (hs ++ ss).foldl (fun s e =>
    if isPtr e.2.2 || !isArmed e.2.2 then s else (rearm n e.1 e.2.1 (intervalTicks (intervalOf e.2.2)) s).1) s

/-- TWIN_TAKEOVER: the standby becomes active at step 4 of a boundary; the mode follows with the rest of the boundary
(R549, R550, R551). -/
def takeOver (cause : Nat) (s : State) : State :=
  let s1 := applyAll 1 (applyAll 0 s)
  let (s2, a) := dropCross 0 s1
  let (s3, b) := dropCross 1 s2
  let (s4, c) := dropCrossing s3
  let lost := a + b + c
  let a0 := s4.twin.applied0
  let a1 := s4.twin.applied1
  let s5 := bump32 23 0 0x17 lost (bump32 23 0 0x10 1 s4)
  let s6 := s5.setTwin { s5.twin with role := 1, takeover := none, peerHanding := none, ready := false, clearing := false }
  let s7 := (List.range 16).foldl (fun s n => armRecords n s) s6
  let s8 := raise Ev.twinTakeover
    (le 1 cause ++ le 8 s.tick.count.toNat ++ le 4 a0.toNat ++ le 4 a1.toNat ++ le 4 lost) s7
  if cause = 2 then grantCredits (startRejoin (pairReset (dropCredits s8))) else goAlone 0 (s8.setTwin { s8.twin with pair := if s8.twin.pair = .alone then .alone else .forming })

/-- Is an operation of a packet in flight: queued for a slice, waiting there, or answering (R551)? -/
def opsInFlight (s : State) : Bool :=
  onTheWay s || s.flow.slice.any (fun e => e.2.flights != [])

/-- TWIN_HANDOVER_DRAINED: the last operation has committed and the lag buffers are empty (R551). -/
def twinHandoverDrained (s : State) : State :=
  match s.twin.handover with
  | some h =>
    if h.drained ∨ opsInFlight s ∨ lagAt s 0 ≠ [] ∨ lagAt s 1 ≠ [] then s
    else s.setTwin { s.twin with
      handover := some { h with drained := true, final0 := s.twin.sent0, final1 := s.twin.sent1 } }
  | none => s

/-- TWIN_HANDOVER_TIMEOUT: 1,000 ticks have passed since the hand-over began; on the active its command ends with E_TIMEOUT,
and the peer takes over with what it holds (R551). -/
def twinHandoverTimeout (s : State) : State :=
  match s.twin.handover, s.twin.peerHanding with
  | some h, _ =>
    if ticksSince s.tick.count h.start < 1000 ∨ h.handle = 0 then s
    else complete Ev.twinHandoverDone h.handle St.eTimeout (le 8 s.tick.count.toNat)
      (s.setTwin { s.twin with handover := some { h with handle := 0 } })
  | none, some t =>
    if s.twin.role ≠ 2 ∨ s.sys.mode ≠ .standby ∨ ticksSince s.tick.count t < 1000 ∨ s.twin.takeover.isSome then s
    else s.setTwin { s.twin with takeover := some 2 }
  | none, none => s

/-- TWIN_HANDOVER (R551). -/
def bodyTwinHandover (r : Req) (s : State) : State × Reply :=
  if r.payload ≠ [] ∨ s.twin.role ≠ 1 ∨ !ownsFlows s then (s, .no St.eArg)
  else if s.twin.pair ≠ .inSync ∨ s.twin.handover.isSome ∨ s.sys.pendingMode.isSome ∨
      s.sys.deferred.any (fun d => match d.change with | .handover _ _ => true | _ => false) then (s, .no St.eBusy)
  else accepted Op.twinHandover r true (fun h s => defer { due := dueTick s r.cycle, change := .handover h false } s) s

/-- The hand-over starts at its boundary (R551). -/
def beginHandover (h : Word) (toConfigure : Bool) (s : State) : State :=
  s.setTwin { s.twin with handover := some { handle := h, toConfigure := toConfigure, start := s.tick.count } }

/-! ### Commands -/

/-- TWIN_QUERY (R552): TWIN[0].STATUS, the last HELLO and the last heartbeat; zeros where none has arrived. -/
def bodyTwinQuery (r : Req) (s : State) : State × Reply :=
  if r.payload ≠ [] then (s, .no St.eArg)
  else (s, .yes (le 4 (roTwin s 0 1) ++ padTo 64 s.twin.hello ++ padTo 64 s.twin.beat))

/-- TWIN_SPLIT_RESOLVE (R540): this device yields and becomes the standby. -/
def bodyTwinSplitResolve (r : Req) (s : State) : State × Reply :=
  if r.payload ≠ [] then (s, .no St.eArg)
  else if s.twin.pair ≠ .split then (s, .no St.eBusy)
  else (s.setTwin { s.twin with yields := true, role := 2, pair := .forming }, .yes [])

/-- MODE_SET (R60, R61, R539, R551): with a twin, a device whose role is standby goes to STANDBY, and one that is incompatible
with a peer that owns flows is refused. -/
def bodyModeSet (r : Req) (s : State) : State × Reply :=
  let service := s.sys.mode = .configure ∧ rd r.payload 0 1 = 3 ∧ r.payload.length = 4 ∧ zeros r.payload 1 3
  if service ∧ s.twin.pair = .incompatible ∧ bitOf (rd s.twin.hello 0x13 1) 1 then
    (s, { status := St.eArg, payload := le 1 5 })
  else if s.twin.handover.isSome then (s, .no St.eBusy)
  else modeSetLocal r s

/-! ### The meanings -/

/-- TWIN_HELLO_RX. -/
def execTwinHelloRx (h : Fin 2) (s : State) : Host.Outcome State Fault Refusal := .next (twinHelloRx h s)
/-- TWIN_HEARTBEAT_RX. -/
def execTwinHeartbeatRx (h : Fin 2) (s : State) : Host.Outcome State Fault Refusal := .next (twinHeartbeatRx h s)
/-- TWIN_HB_MISS. -/
def execTwinHbMiss (s : State) : Host.Outcome State Fault Refusal := .next (hbMiss s)
/-- TWIN_DELTA_APPLY. -/
def execTwinDeltaApply (h : Fin 2) (s : State) : Host.Outcome State Fault Refusal := .next (twinDeltaApply h s)
/-- TWIN_FOLLOW_READ. -/
def execTwinFollowRead (n : Fin 16) (s : State) : Host.Outcome State Fault Refusal := .next (twinFollowRead n s)
/-- TWIN_FOLLOW_APPLY. -/
def execTwinFollowApply (h : Fin 2) (s : State) : Host.Outcome State Fault Refusal := .next (twinFollowApply h s)
/-- TWIN_STANDBY_CLEARED. -/
def execTwinStandbyCleared (s : State) : Host.Outcome State Fault Refusal := .next (twinStandbyCleared s)
/-- TWIN_BULK_WALK. -/
def execTwinBulkWalk (d : Fin 2) (reads : Nat) (s : State) : Host.Outcome State Fault Refusal :=
  .next (twinBulkWalk d reads s)
/-- TWIN_BULK_APPLY. -/
def execTwinBulkApply (h : Fin 2) (s : State) : Host.Outcome State Fault Refusal := .next (twinBulkApply h s)
/-- TWIN_CONTROL_RX. -/
def execTwinControlRx (h : Fin 2) (s : State) : Host.Outcome State Fault Refusal := .next (twinControlRx h s)
/-- TWIN_HANDOVER_DRAINED. -/
def execTwinHandoverDrained (s : State) : Host.Outcome State Fault Refusal := .next (twinHandoverDrained s)
/-- TWIN_HANDOVER_TIMEOUT. -/
def execTwinHandoverTimeout (s : State) : Host.Outcome State Fault Refusal := .next (twinHandoverTimeout s)
/-- TWIN_QUERY. -/
def execTwinQuery (r : Req) (s : State) : Host.Outcome State Fault Refusal := .next (runToune Op.twinQuery bodyTwinQuery r s)
/-- TWIN_HANDOVER. -/
def execTwinHandover (r : Req) (s : State) : Host.Outcome State Fault Refusal :=
  .next (runToune Op.twinHandover bodyTwinHandover r s)
/-- TWIN_RESYNC. -/
def execTwinResync (r : Req) (s : State) : Host.Outcome State Fault Refusal :=
  .next (runToune Op.twinResync bodyTwinResync r s)
/-- TWIN_SPLIT_RESOLVE. -/
def execTwinSplitResolve (r : Req) (s : State) : Host.Outcome State Fault Refusal :=
  .next (runToune Op.twinSplitResolve bodyTwinSplitResolve r s)
/-- MODE_SET. -/
def execModeSet (r : Req) (s : State) : Host.Outcome State Fault Refusal := .next (runToune Op.modeSet bodyModeSet r s)

end Sys2Proof.Machine
end

