-- ==== Sys2Proof/Machine/ParamApply.lean ====
section
/-! DEFINITION. What a write of a parameter word does when it takes effect: the words that are settings alone, and those
whose change does something (R10, R34, R81, R85, R161, R173, R199, R235, R327, R520, R525, R533). -/

namespace Sys2Proof.Machine

/-- The value of a word once the masked bits are written. -/
def merged (old mask value : Word) : Word := (old &&& ~~~mask) ||| (value &&& mask)

/-- PORT.CTRL: a change of enable starts or disables the port; `cut` says that a frame was in reception (R85). -/
def portCtrl (n : Nat) (cut : Bool) (v : Word) (s : State) : State :=
  let was := (reg s 5 n 0).getLsbD 0
  let s1 := setReg 5 n 0 ((v &&& ~~~1#32) ||| (reg s 5 n 0 &&& 1)) s
  match was, bitOf v.toNat 0 with
  | false, true => portEnable n s1
  | true, false => portDisable n cut s1
  | _, _ => s1

/-- LANE.CTRL: force_idle holds the lane in electrical idle; a half-link whose lane is held is DOWN, and leaves DOWN
once none is (R91, R102, R533). -/
def laneCtrl (k : Nat) (v : Word) (s : State) : State :=
  let s1 := setReg 4 k 0 v s
  if k ≥ 144 then
    let h := (k - 144) / 8
    if bitOf v.toNat 2 then (if (halfAt s1 h).st = .down then s1 else halfLost h 3 true s1) else twinStart s1
  else if bitOf v.toNat 2 then
    setLane k { laneAt s1 k with idle := true, cdrLock := false } s1
  else s1

/-- TWIN[0].CTRL: enable starts the half-links or takes them down (R533, R534). -/
def twinCtrl (v : Word) (s : State) : State :=
  let s1 := setReg 23 0 0 v s
  if bitOf v.toNat 0 then twinStart s1
  else [0, 1].foldl (fun s h => if (halfAt s h).st = .down then s else halfLost h 3 true s) s1

/-- PMON_SELECT_WRITE: a change of a threshold, of an event selection, or of a sampler's mode or N zeroes what it counts
(R520, R525). -/
def pmonWord (i w : Nat) (v : Word) (s : State) : State :=
  if reg s 22 i w = v then s
  else
    let s1 := setReg 22 i w v s
    if i ≥ 32 then
      (if w % 8 = 0 then clearCounter (paddr 22 i (w + 2)) s1
       else if w % 8 = 1 then clearCounter (paddr 22 i (w + 3)) s1 else s1)
    else if 0x10 ≤ w ∧ w < 0x20 then clearCounter (paddr 22 i (0x100 + 2 * (w - 0x10))) s1
    else if 1 ≤ i ∧ i ≤ 4 ∧ ((w = 0 ∧ regField s 22 i 0 1 0 ≠ v.toNat % 4) ∨ w = 1) then setSmp (i - 1) { smpAt s1 (i - 1) with count := 0, seq := 0 } s1
    else s1

/-- A word of the flow engine takes effect: a new seed is told (R235), and the items that a twin pair checks send an
incompatible pair back to forming (R539). -/
def flowWord (w : Nat) (v : Word) (s : State) : State :=
  let s1 := setReg 13 16 w v s
  if w = 0x10 ∨ w = 0x11 then toForming (raise Ev.flowSeedSet (le 8 s.tick.count.toNat) s1)
  else if w = 0x14 ∨ w = 0x18 then toForming s1
  else s1

/-- A word of a port: its enable, its pause settings, which bring the pauses it sends into line, and the width of a host
port (R85, R93, R98). -/
def portWord (n w : Nat) (cut : Bool) (v : Word) (s : State) : State :=
  if w = 0 then portCtrl n cut v s
  else if w = 3 then settlePauses n (setReg 5 n 3 v s)
  else if w = 0xA then hostWidth n cut v s
  else setReg 5 n w v s

/-- A lane map of a group changes: the transmitters of its UP and starting ports leave idle where the new map puts them, and the
others enter it (R84, R91). -/
def laneMap (g w : Nat) (v : Word) (s : State) : State :=
  let used := fun (s : State) => (List.range 8).flatMap (fun l =>
    let n := 8 * g + l
    if (portAt s n).st = .disabled then [] else (lanesOf n (portAt s n).mode).map (txLane s))
  let s1 := setReg 6 g w v s
  if w ≠ 2 then s1
  else (List.range 8).foldl (fun s l =>
    let k := 8 * g + l
    setLane k { laneAt s k with idle := !(used s).contains k } s) s1

/-- A write of a parameter word takes effect; `rx` names the ports with a frame in reception. -/
def applyWord (rx : List Nat) (a : Nat) (mask value : Word) (s : State) : State :=
  let v := merged (tgetD paramReset s.prm.regs a) mask value
  let i := addrInst a
  let w := addrWord a
  match addrClass a with
  | 4 => if w = 0 then laneCtrl i v s else setRegAt a v s
  | 5 => portWord i w (rx.contains i) v s
  | 6 => if w = 0 then pgMode i v rx s else laneMap i w v s
  | 10 =>
    if i < 64 ∧ w = 0 then (if regField s 10 i 0 1 0 = v.toNat % 4 then s else rbWidth i (v.toNat % 4) s)
    else if i < 64 ∧ w = 1 then rbPair i v s
    else setRegAt a v s
  | 12 =>
    if 0x40 ≤ w ∧ w < 0x80 then (List.range 4).foldl (fun s p => setReg 12 p w v s) s else setRegAt a v s
  | 13 => if i = 16 then flowWord w v s else setRegAt a v s
  | 16 => releaseOwners (i % 2) (setRegAt a v s)
  | 22 => pmonWord i w v s
  | 23 => if i = 0 ∧ w = 0 then twinCtrl v s else setRegAt a v s
  | 24 => if w = 1 ∨ w = 2 then emptyRing i (setRegAt a v s) else setRegAt a v s
  | _ => setRegAt a v s

/-- PARAM_WORD_WRITE: a write by session index 0's rights to a word, judged and applied by its access type: locked, read
only and absent words keep their value, ones clear bits of write-one-to-clear fields, and the rest is set.  It is audited, with
the status that refuses it where one does (R10). -/
def paramWordWrite (a : Nat) (mask value : Word) (s : State) : State :=
  let told := auditAccess Op.paramWrite 0 0 (le 4 a ++ le 4 value.toNat ++ le 4 mask.toNat)
  if s.sys.mode = .reset then s
  else match paramDef a, judgeWrite 0 a value mask s with
    | some d, .ok v => told St.ok
        (if actsAtOnce a then writeNow 0 a v (Nat.land (Nat.land mask.toNat value.toNat) d.w1c) s
         else applyWord [] a (mask &&& BitVec.ofNat 32 (Nat.lor d.rw d.rwl)) value s)
    | _, .error e => told e s
    | none, .ok _ => s

/-! ### The meanings -/

/-- PARAM_WORD_WRITE. -/
def execParamWordWrite (a mask value : Word) (s : State) : Host.Outcome State Fault Refusal :=
  .next (paramWordWrite a.toNat mask value s)
/-- PMON_SELECT_WRITE: the word `w` of instance `i` changes to a value that is not refused. -/
def execPmonSelectWrite (i : Fin 34) (w : Fin 0x1000) (v : Word) (s : State) : Host.Outcome State Fault Refusal :=
  .next (match judgeWrite 0 (paddr 22 i w) v 0xFFFFFFFF s with
    | .ok x => if i = 0 then s else pmonWord i w x s
    | .error _ => s)

end Sys2Proof.Machine
end

