-- ==== Sys2Proof/Machine/Rejoin.lean ====
section
/-! DEFINITION. Units leaving service, their rebuild and their return, and the clearing from TEST to CONFIGURE (R60, R71, R72,
R422, R423, R514). -/

namespace Sys2Proof.Machine

/-! ### Leaving service -/

/-- Ports whose lanes and MACs a unit carries: a port group's, or the host transport's (R71). -/
def unitPorts (u : UnitId) : List Nat :=
  if u.cls = 6 then (List.range 8).map (fun l => 8 * u.inst + l) else if u.cls = 19 then [128, 129] else []

/-- The cores that a unit of class SC stands for: one core, or for a dispatcher every core of its die (R514). -/
def unitCores (u : UnitId) : List Nat :=
  if u.cls ≠ 21 then [] else if u.inst < 32 then [u.inst] else (List.range 16).map (fun j => 16 * (u.inst - 32) + j)

/-- What a unit takes along when it is switched out: its ports go to DISABLED and what waits in their FIFOs is lost, its
items restart, and the turfs of a channel that has not been powered down are lost (R71, R72, R514).  `rx` names the ports
with a frame in reception. -/
def outEffect (rx : List Nat) (u : UnitId) (s : State) : State :=
  let s1 := (unitPorts u).foldl (fun s n =>
    let s1 := takePortDown n (rx.contains n) s
    s1.setPorts { s1.ports with fifo := terase s1.ports.fifo n }) s
  let s2 := (unitCores u).foldl (fun s k => restartCore k (if u.inst < 32 then 0 else 1) s) s1
  if u.cls = 15 ∧ s2.jnl.turfs ∧ (memAt s2 true u.inst).draining.isNone then turfLost u.inst s2 else s2

/-- A unit that is IN_SERVICE is switched out, and UNIT_OUT raised (R71). -/
def switchOut (rx : List Nat) (u : UnitId) (cause : Nat) (s : State) : State :=
  if unitState s u ≠ .inService then s
  else
    let s1 := setUnit u { st := .out, since := s.tick.count, cause := cause } s
    outEffect rx u (raise Ev.unitOut (le 1 u.cls ++ le 2 u.inst ++ le 1 cause) s1)

/-- The switch-out that starts a channel's power-down: the unit drains (R421). -/
def channelOut (rx : List Nat) (u : UnitId) (h : Word) (s : State) : State :=
  let c := u.cls == 15
  let s1 := setMem c u.inst { memAt s c u.inst with draining := some (h, s.tick.count) } s
  switchOut rx u 3 s1

/-! ### The start of a rebuild -/

/-- The journal FIFOs and the staged captures are lost, and counted in LOST of their rings; the rings go on at their write
positions (R72). -/
def journalRestart (s : State) : State :=
  let n := s.jnl.fifo.foldl (fun a e => a + e.2.length) 0
  let lose := fun (s : State) (i k : Nat) =>
    if k = 0 then s else bump32 24 i 0x10 k (setRing i { ringAt s i with owed := (ringAt s i).owed + k } s)
  let caps := s.jnl.staging.flatMap (fun e => e.2)
  let s1 := (List.range 8).foldl (fun s r => lose s (1 + r) (caps.filter (fun c => c.1 == r)).length) (lose s 0 n)
  s1.setJnl { s1.jnl with fifo := [], staging := [], turn := 0 }

/-- The queues of the device are disabled, to be replayed from their published heads; the manual names no cause for it
(R72). -/
def queuesRestart (s : State) : State :=
  let cause := (freeBits 3 s).toNat
  ((drawn s).host.queue.map (·.1)).foldl (fun s q => disableQueue q cause s) (drawn s)

/-- The measurement units lose their counts; their settings stand (R72). -/
def pmonRestart (s : State) : State :=
  let s1 := s.setPmon {}
  s1.setPrm { s1.prm with counts := s1.prm.counts.filter (fun e => addrClass e.1 != 22) }

/-- One way of a Hearth goes to its Stack slot, where its tag holds (R72). -/
def writeBack (n k : Nat) (w : Way) (s : State) : State :=
  if !tagOk w.entry then tagError n w.digest ⟨0, k⟩ w.entry s
  else if w.dirty then modSl n (fun x => { x with stack := tput x.stack w.slot w.entry }) s
  else s

/-- A slice is rebuilt: dirty ways are written back, only pinned records stay in the Hearth, and whatever was in hand is
emptied, packets getting DENY (R72). -/
def sliceRestart (n : Nat) (s : State) : State :=
  let s1 := emptyWaits n ((slAt s n).flights.foldl (fun s f => dropFlight n f s) s)
  let s2 := (slAt s1 n).hearth.foldl (fun s e => writeBack n e.1 e.2 s) s1
  let s3 := modSl n (fun x => { x with
    hearth := (x.hearth.filter (fun e => isPinned e.2.entry)).map (fun e => (e.1, { e.2 with dirty := false }))
    flights := [], createQ := [], holdQ := [], punts := [], wheel := [], expiry := []
    fullEpisode := false, holdEpisode := false, puntEpisode := false, wheelEpisode := false }) s2
  completeCmds (s3.setJnl { s3.jnl with fifo := terase s3.jnl.fifo n })

/-- Every copy in a die's buffer is abandoned and counted, its pools are at their reserved minima, and its ports' queues are
empty and their calendars afresh (R72, R356). -/
def bufferRestart (d : Nat) (s : State) : State :=
  let s1 := ((List.range 130).filter (fun n => dieOfPort n == d)).foldl (fun s n => abandonPort n s) s
  let s2 := s1.buf.hostq.foldl (fun s e =>
    (e.2.filter (fun k => match storedAt s k with
      | some y => y.copies.any (fun c => c.die == d && c.dest == .host e.1)
      | none => false)).foldl (fun s k =>
        let q := (tgetD (fun _ => []) s.buf.hostq e.1).filter (· != k)
        dropCopy k (.host e.1) (bump32 18 0 (0x201 + d) 1
          (s.setBuf { s.buf with hostq := if q = [] then terase s.buf.hostq e.1 else tput s.buf.hostq e.1 q }))) s) s1
  setBm d {} (s2.setBuf { s2.buf with egr := s2.buf.egr.filter (fun e => dieOfPort e.1 != d) })

/-- Put the record of the newest entry that a test picks. -/
def editLast (q : AuditRec → Bool) (f : AuditRec → AuditRec) : List AuditRec → List AuditRec
  | [] => []
  | x :: xs => if xs.any q then x :: editLast q f xs else if q x then f x :: xs else x :: xs

/-- The audit record of a request that ends with E_FAULT: the one written at its acceptance takes that status; a query, which
has none, gets one, whose digest is open (R72, R498; DESIGN CHOICE, log 64). -/
def auditFault (p : Response) (s : State) : State :=
  let same := fun (x : AuditRec) => x.opcode == p.opcode && x.session == p.session && x.sequence == p.sequence &&
    x.route == p.route
  if s.toune.audit.any same then
    s.setToune { s.toune with audit := editLast same (fun x => { x with status := St.eFault }) s.toune.audit }
  else
    let x : AuditRec :=
      { index := s.toune.auditNext, frc := frcAt s 0, opcode := p.opcode, status := St.eFault, session := p.session
        sequence := p.sequence, handle := p.handle, route := p.route, untrusted := false, hp1 := p.hp1, qp := p.qp
        queue := p.queue, cmdVersion := p.cmdVersion, source := p.source, digest := freeBits 64 s }
    let ring := s.toune.audit ++ [x]
    drawn (s.setToune { s.toune with auditNext := s.toune.auditNext + 1, audit := ring.drop (ring.length - 65536) })

/-- A request that was executing ends with E_FAULT and is audited (R72). -/
def endFault (s : State) (p : Option Response) : State :=
  match p with
  | some p => send { p with status := St.eFault, payload := [] } (auditFault p s)
  | none => s

/-- The management complex restarts: what was executing, items of flow commands and responses that wait for a boundary, ends
with E_FAULT (R72).  What a boundary still has to apply stands in its unit and is applied (DESIGN CHOICE, log 64). -/
def firmwareRestart (s : State) : State :=
  let waiting := s.flow.cmds.map (fun c => some c.2.req) ++ s.sys.deferred.map (·.resp) ++
    [s.sys.holdResp, s.sys.pendingMode.bind (·.resp)] ++
    [false, true].map (fun b => (domAt s b).pending.bind (·.resp))
  let s1 := s.setFlow { s.flow with cmds := [] }
  let s2 := s1.setSys { s1.sys with
    deferred := s1.sys.deferred.map (fun d => { d with resp := none }), holdResp := none
    pendingMode := s1.sys.pendingMode.map (fun q => { q with resp := none }) }
  let s3 := [false, true].foldl (fun s b =>
    setDom b { domAt s b with pending := (domAt s b).pending.map (fun q => { q with resp := none }) } s) s2
  waiting.foldl endFault s3

/-- The start of a rebuild, for what R72 does to state that the unit holds. -/
def rejoinStart (u : UnitId) (s : State) : State :=
  match u.cls with
  | 13 => sliceRestart u.inst s
  | 16 => bufferRestart u.inst s
  | 17 => bufferRestart (dieOfPort u.inst) s
  | 18 => queuesRestart s
  | 19 => restartTransport s
  | 20 => (List.range 32).foldl (fun s c => dxStop c s) s
  | 22 => pmonRestart s
  | 23 => twinStart ([0, 1].foldl (fun s h => if (halfAt s h).st = .down then s else halfLost h 3 true s) s)
  | 24 => journalRestart s
  | 26 => firmwareRestart s
  | 14 | 15 => setMem (u.cls == 15) u.inst { memAt s (u.cls == 15) u.inst with poweredDown := false, draining := none } s
  | _ => s

/-- A unit that is OUT enters REJOIN (R71). -/
def toRejoin (u : UnitId) (s : State) : State :=
  if unitState s u ≠ .out then s
  else rejoinStart u (setUnit u { st := .rejoin, since := s.tick.count, cause := (unitRec s u).cause } s)

/-- A unit that RESUME names enters REJOIN, whether or not it was in service (R60, R71). -/
def nameRejoin (u : UnitId) (s : State) : State :=
  if unitState s u = .rejoin ∨ unitState s u = .ready then s
  else rejoinStart u (setUnit u { st := .rejoin, since := s.tick.count, cause := 2 } s)

/-! ### The end of a rebuild -/

/-- The reload reads every shadow entry of a bank, and finds the uncorrectable ones (R172). -/
def readShadow (b : Nat) (s : State) : State := findLost b ((bankAt s b).bad) s

/-- A bank's rows as its shadow has them; the rows of a lost entry, and rows whose cells take no rewrite, stay as they are
(R72, R171, R172). -/
def reloadBank (b : Nat) (s : State) : State :=
  let s1 := readShadow b s
  let x := bankAt s1 b
  let w := bankWidth s b
  let kept := x.lost.foldl (fun m r => putRows m r (rowsOf x.rows r w)) x.shadow
  setBank b { x with rows := x.stuck.foldl (fun m r => tput m r (rowAt x.rows r)) kept } s1

/-- A pipeline's forwarding tables: the host-written entries of the lowest-numbered pipeline in service (R72). -/
def reloadTables (p : Nat) (s : State) : State :=
  let own := fwdAt s p
  let src := match ((List.range 4).filter (fun q => q != p && inService s 7 q)).head? with
    | some q => fwdAt s q
    | none => own
  setFwd p { src with
    l2 := src.l2.filter (fun e => e.2.static), learns := [], syncIn := [], scrubPos := 0
    rehash := own.rehash.map (fun h => { h with walked := 0 }) } s

/-- A record of slice `n` whose tag failed in the rebuild of its pseudo-channel is dropped and journalled: as a tag error, and retired
with cause 3 (R72, R220, R339; log 39). -/
def dropBad (n k : Nat) (d : Dword) (s : State) : State :=
  let x := slAt s n
  match stackFind s x d none with
  | some j =>
    match tfind x.stack j with
    | some e =>
      if j / 4 % 8 ≠ k % 8 ∨ (hearthFind x d none).isSome then s
      else journalRetired n d ⟨1, j⟩ 3 e (tagError n d ⟨1, j⟩ e s)
    | none => s
  | none => s

/-- What a verified rebuild leaves (R72); a memory channel has trained (R413). -/
def rebuilt (u : UnitId) (bad : List Nat) (s : State) : State :=
  match u.cls with
  | 7 => reloadTables u.inst ((List.range 16).foldl (fun s b => reloadBank (16 * u.inst + b) s) s)
  | 10 => reloadBank u.inst s
  | 14 => bad.foldl (fun s d => dropBad (u.inst / 8) u.inst (BitVec.ofNat 64 d) s) (trainedHbm u.inst s)
  | 15 => trainedChannel u.inst (modSl u.inst (fun x => { x with turf := [], sums := [], badSums := [], clears := [] }) s)
  | 21 => if u.inst < 32 then
        setScDie (u.inst / 16) ((scDie s (u.inst / 16)).putCore (u.inst % 16)
          { coreAt (scDie s (u.inst / 16)) (u.inst % 16) with running := none, cycles := 0 }) s
      else s
  | 26 => [false, true].foldl (fun s b => if (domAt s b).servo = 0 then s else servoState b 3 s) s
  | _ => s

/-- The row of a bank that fails its REJOIN: a lost shadow entry, or a row whose cells take no rewrite and that differs (R72,
R171, R172). -/
def failedRow (s : State) (u : UnitId) : Option Nat :=
  if u.cls ≠ 10 then none
  else
    let x := bankAt s u.inst
    match x.lost with
    | r :: rs => some (rs.foldl min r)
    | [] => x.stuck.find? (rowDiffers x (bankWidth s u.inst))

/-- REJOIN_COMPLETE: the rebuild is verified and the unit is READY from the next boundary, or verification fails and it is
OUT (R71, R72). -/
def rejoinComplete (u : UnitId) (b : RebuildResult) (s : State) : State :=
  if unitState s u ≠ .rejoin then s
  else
    let fail := fun (at' : Nat) (s : State) =>
      raise Ev.rejoinFailed (le 1 u.cls ++ le 2 u.inst ++ le 4 at')
        (setUnit u { st := .out, since := s.tick.count, cause := (unitRec s u).cause } s)
    let sr := if u.cls = 10 then readShadow u.inst s else s
    if !b.ok then fail b.failed s
    else match failedRow sr u with
      | some r => fail r sr
      | none =>
        let s0 := setUnit u { st := .ready, since := s.tick.count + 1, cause := (unitRec s u).cause } sr
        let s1 := s0.setZal { s0.zal with rebuilding := s0.zal.rebuilding.filter (· != u) }
        rebuilt u b.badRecords s1

/-- A READY unit is switched in, and UNIT_IN raised; ports start again, and the demoter of a channel's slice runs on (R71,
R72, R423). -/
def switchIn (u : UnitId) (s : State) : State :=
  let s1 := setUnit u {} s
  let s2 := raise Ev.unitIn (le 1 u.cls ++ le 2 u.inst ++ le 8 s.tick.count.toNat) s1
  let s3 := (unitPorts u).foldl (fun s n => startPort n s) s2
  if u.cls = 15 then modSl u.inst (fun x => { x with demoteStop := false }) s3 else s3

/-! ### TEST to CONFIGURE -/

/-- Loopbacks and pattern generators of every lane go back to their reset values (R101). -/
def clearLoopbacks (s : State) : State :=
  s.setPrm { s.prm with
    regs := s.prm.regs.filter (fun e => !(addrClass e.1 == 4 && (addrWord e.1 == 6 || addrWord e.1 == 7))) }

/-- Learned forwarding entries are cleared; host-written ones remain (R60). -/
def clearLearned (s : State) : State :=
  (List.range 4).foldl (fun s p =>
    let x := fwdAt s p
    setFwd p { x with l2 := x.l2.filter (fun e => e.2.static), learns := [], syncIn := [] } s) s

/-- TEST_CLEAR_DONE: the clearing has ended, and the transition falls at the next boundary (R60). -/
def testClearDone (s : State) : State :=
  match s.sys.testClear with
  | none => s
  | some h =>
    if s.sys.mode ≠ .test then s
    else
      let s1 := clearLearned (clearFlow (clearLoopbacks s))
      defer { due := s.tick.count + 1, change := .modeChange } (s1.setSys { s1.sys with
        testClear := none, pendingMode := some { target := .configure, due := s.tick.count + 1, handle := h } })

/-! ### The meanings -/

/-- REJOIN_COMPLETE. -/
def execRejoinComplete (u : UnitId) (b : RebuildResult) (s : State) : Host.Outcome State Fault Refusal :=
  .next (rejoinComplete u b s)
/-- TEST_CLEAR_DONE. -/
def execTestClearDone (s : State) : Host.Outcome State Fault Refusal := .next (testClearDone s)

end Sys2Proof.Machine
end

