-- ==== Sys2Proof/Machine/Boundary.lean ====
section
/-! DEFINITION. The tick boundary: the twelve steps of R34 in their order, mode transitions, entry into SAFE and the way out of
it (R30 to R36, R46, R48, R56 to R62, R71, R126, R146, R147, R383, R388, R516, R521, R541, R551, R558, R563, R565 to R567). -/

namespace Sys2Proof.Machine

/-! ### Steps 1 and 2 -/

/-- The tick count rises by one and the FRC value of the strobe is latched (R30, R32, R33). -/
def countTick (s : State) : State :=
  s.setTick { s.tick with count := s.tick.count + 1, startFrc := s.tick.startFrc + 65536000 }

/-- The largest occupancy of a unit of R521. -/
def occLargest (o : OccCount) : Nat :=
  if o.host then 65536
  else if o.unit < 6 then 196608
  else if o.unit < 80 then 64
  else if o.unit < 272 then 128 else 4096

/-- Does PMON have the unit (R521, R531)? -/
def occExists (o : OccCount) : Bool :=
  if o.host then decide (o.unit < 1024)
  else decide (o.unit < 6 ∨ (16 ≤ o.unit ∧ o.unit < 80) ∨ (128 ≤ o.unit ∧ o.unit < 288))

/-- The counters of one unit at the end of a tick of 1,350 cycles (R521). -/
def countOcc (o : OccCount) (s : State) : State :=
  if !occExists o ∨ !inService s 22 0 then s
  else
    let i := if o.host then 32 else 33
    let at' := fun (k : Nat) => paddr 22 i (8 * o.unit + k)
    let add := fun (k n : Nat) (s : State) =>
      if (reg s 22 i (8 * o.unit + k)).toNat ≥ occLargest o then s
      else s.setPrm { s.prm with
        counts := tput s.prm.counts (at' (2 + 2 * k)) ((counter s (at' (2 + 2 * k)) + min 1350 n) % 2 ^ 48) }
    let s1 := add 1 o.above1 (add 0 o.above0 s)
    s1.setPrm { s1.prm with
      counts := tput s1.prm.counts (at' 7) (max (counter s1 (at' 7)) (min o.peak (occLargest o))) }

/-- Does the receiver of a physical lane adapt: it serves a port or a half-link that is UP (R90, R92)? -/
def adapting (s : State) (k : Nat) : Bool :=
  if k ≥ 144 then halfUp s ((k - 144) / 8)
  else (List.range 130).any (fun n => (portAt s n).st == .up && (lanesOf n (portAt s n).mode).any (fun l => rxLane s l == k))

/-- Count what happened inside the tick that ends, and take over what lanes have adapted to (R90, R101, R102, R237, R244, R523,
R524). -/
def countCycles (c : CycleCount) (s : State) : State :=
  match c with
  | .issueHold p n => pipeEvent p 0x2141 n s
  | .laneIdle n k => slEvent n 0x320A k s
  | .acceptStopped n k => slEvent n 0x320B k s
  | .prbsErrors k n => if bitOf (reg s 4 k 7).toNat 3 then bump32 4 k 8 n s else s
  | .adapted k snr vga ffe dfe cdr =>
    if adapting s k then adapt k { snr := snr, vga := vga, ffe := ffe.take 12, dfe := dfe, cdr := cdr } s else s

/-- The front slots of the tick that ends which no packet took (R15, R523). -/
def countIdle (s : State) : State :=
  (List.range 4).foldl (fun s p =>
    if inService s 7 p then pipeEvent p 0x2102 (4800 - (pipeAt s p).frontSlots) s else s) s

/-- Steps 1 and 2: the new tick, and the island's checks of the one that has ended, with what has befallen the memories meanwhile
(R34, R47, R293, R296, R549, R559; log 56). -/
def openTick (f : TickFound) (s : State) : State :=
  let s1 := f.failing.foldl (fun s p => ailing p s) (f.upsets.foldl (fun s v => strike v s) s)
  settleGood (countBeat (countTick (countIdle (f.cycles.foldl (fun s c => countCycles c s)
    (f.occ.foldl (fun s o => countOcc o s) s1)))))

/-! ### Modes -/

/-- The device changes its mode, and MODE_CHANGED tells (R60, R78). -/
def changeMode (m : Mode) (s : State) : State :=
  raise Ev.modeChanged (le 1 s.sys.mode.code ++ le 1 m.code ++ le 8 s.tick.count.toNat) (s.setSys { s.sys with mode := m })

/-- Every wheel entry is freed (R323). -/
def freeWheels (s : State) : State :=
  (List.range 16).foldl (fun s n => modSl n (fun x => { x with wheel := [], expiry := [], wheelEpisode := false }) s) s

/-- Every supervision deadline is disarmed: no record stays armed (R58, R319, R323). -/
def disarmAll (s : State) : State :=
  (List.range 16).foldl (fun s n =>
    (slAt s n).hearth.foldl (fun s e =>
      if isPtr e.2.entry || !isArmed e.2.entry then s
      else commitRecord n e.2.digest ⟨0, e.1⟩ false (some e.2.entry) (putCtlField 7 7 0 e.2.entry) s) s) (freeWheels s)

/-- The device becomes the standby (R541, R551). -/
def toStandby (s : State) : State :=
  let s1 := freeWheels (changeMode .standby s)
  if s1.twin.pair = .forming ∧ s1.twin.role = 2 then formPair s1 else s1

/-- SERVICE, or DEGRADED with a unit out of service (R60). -/
def serviceMode (s : State) : Mode := if unitsOut s = [] then .service else .degraded

/-- A transition into SERVICE is resolved at its boundary (R58, R60). -/
def enterService (s : State) : State :=
  if s.twin.role = 2 then toStandby s else disarmAll (changeMode (serviceMode s) s)

/-- SAFE is left: the units that its causes name enter REJOIN, and SAFE_N goes high (R60, R566, R567). -/
def leaveSafe (s : State) : State :=
  let s1 := s.zal.units.foldl (fun s u => nameRejoin u s) s
  let s2 := s1.setZal { s1.zal with
    units := [], rebuilding := s.zal.rebuilding ++ s.zal.units.filter (fun u => !s.zal.rebuilding.contains u)
    scopeAll := false, safeN := islandUp s1 && s1.zal.lockstepOk }
  let sent := s.zal.units.filter (fun u => unitState s u != .rejoin && unitState s u != .ready)
  raise Ev.safeLeft (le 8 s.tick.count.toNat ++ sent.flatMap (fun u => le 1 u.cls ++ le 2 u.inst))
    (s2.setTwin { s2.twin with safeFlag := false })

/-- A transition into CONFIGURE (R60, R252, R551). -/
def enterConfigure (s : State) : State :=
  let s1 := if s.sys.mode = .safe then leaveSafe s
    else if (s.sys.mode = .service ∨ s.sys.mode = .degraded) ∧ pairedActive s then beginHandover 0 true s
    else s
  denyPunts (changeMode .configure s1)

/-- A requested transition is answered (R480). -/
def answerMode (q : ModeReq) (st : Half) (s : State) : State :=
  let s1 := sendAt (q.resp.map (fun r => { r with status := st })) s.tick.count s
  if q.handle = 0 then s1 else endOp q.handle st [] s1

/-- The pending transition, once it is due (R62). -/
def applyMode (s : State) : State :=
  match s.sys.pendingMode with
  | none => s
  | some q =>
    if !tickGe s.tick.count q.due then s
    else
      let s1 := s.setSys { s.sys with pendingMode := none }
      answerMode q St.ok (match q.target with
        | .configure => enterConfigure s1
        | .service => enterService s1
        | .test => changeMode .test s1
        | .reset | .kindling | .degraded | .standby | .safe => s1)

/-- A pending requested transition is cancelled (R62). -/
def cancelMode (s : State) : State :=
  let s1 := match s.sys.pendingMode with
    | some q => answerMode q St.eCancelled (s.setSys { s.sys with pendingMode := none })
    | none => s
  match s1.sys.testClear with
  | some h => endOp h St.eCancelled [] (s1.setSys { s1.sys with testClear := none })
  | none => s1

/-! ### Step 3 -/

/-- Does the device enter SAFE at this boundary: a fault of the tick that has ended, or a Kindling that ends in SAFE (R60,
R558)? -/
def safeDue (s : State) : Bool :=
  match s.sys.mode with
  | .reset | .safe => false
  | .kindling => s.sys.kindling.finished && s.sys.kindling.toSafe
  | .configure | .service | .degraded | .standby | .test => s.zal.toSafe != []

/-- The cause that names an entry into SAFE: the lowest of those that led to it, or 0 for a unit that Kindling found failed. -/
def safeCause (s : State) : Nat := s.zal.toSafe.foldl min (s.zal.toSafe.headD 0)

/-- The unit that the naming cause was recorded for. -/
def safeUnit (s : State) : UnitId :=
  match s.zal.log.reverse.find? (fun e => e.cause == safeCause s), s.zal.units with
  | some e, _ => ⟨e.cls, e.inst⟩
  | none, u :: _ => u
  | none, [] => ⟨0xFF, 0⟩

/-- Entry into SAFE (R60, R62, R252, R558, R563, R565, R566). -/
def enterSafe (s : State) : State :=
  let all := s.zal.toSafe == [] || s.zal.toSafe.any (fun c => causeSafe c == some true)
  let c := safeCause s
  let u := safeUnit s
  let yields := pairedActive s && (halfUp s 0 || halfUp s 1)
  let s1 := changeMode .safe (cancelMode s)
  let s2 := s1.setZal { s1.zal with scopeAll := all, cause := c, toSafe := [], safeN := false }
  let s3 := s2.setTwin { s2.twin with safeFlag := true, role := if yields then 2 else s2.twin.role }
  let s4 := raise Ev.safeEntered
    (le 1 c ++ le 1 (b2n all) ++ le 1 u.cls ++ le 2 u.inst ++ le 8 s.tick.count.toNat) (bump32 1 0 8 1 s3)
  stopTraffic (denyPunts s4)

/-- Step 3, after which the causes of the ended tick are behind (R34, R558). -/
def stepSafe (s : State) : State :=
  let s1 := if safeDue s then enterSafe s else s
  s1.setZal { s1.zal with thisTick := [] }

/-! ### Steps 4 and 5 -/

/-- Step 4: a takeover by the standby; the device becomes the owner of the flows (R34, R60, R549, R550). -/
def stepTakeover (s : State) : State :=
  match s.twin.takeover with
  | none => s
  | some c =>
    if s.sys.mode ≠ .standby then s.setTwin { s.twin with takeover := none }
    else changeMode (serviceMode s) (takeOver c s)

/-- A hand-over on command starts, unless the pair has changed since (R551). -/
def startHandover (h : Word) (toConfigure : Bool) (s : State) : State :=
  if ownsFlows s && s.twin.role == 1 && s.twin.pair == .inSync then toStandby (beginHandover h toConfigure s)
  else complete Ev.twinHandoverDone h St.eCancelled (le 8 s.tick.count.toNat) s

/-! ### Step 6 -/

/-- The deferred switch-outs and rebuilds; a power-down that meets a retraining window falls one boundary later (R421). -/
def unitChange (rx : List Nat) (d : Deferred) (s : State) : State :=
  match d.change with
  | .unitOut u c => sendAt d.resp s.tick.count (switchOut rx u c s)
  | .unitRejoin u => sendAt d.resp s.tick.count (toRejoin u s)
  | .channelDown u h =>
    if retrainTick (u.cls == 15) u.inst s.tick.count.toNat then defer { d with due := s.tick.count + 1 } s
    else sendAt d.resp s.tick.count (channelOut rx u h s)
  | _ => s

/-- The step's own work on a unit that is not IN_SERVICE: UNIT_READY, the switch-in one tick later, and the rebuild of MC and
QP without a command (R71). -/
def unitWork (u : UnitId) (s : State) : State :=
  let r := unitRec s u
  match r.st with
  | .ready =>
    if r.since = s.tick.count then raise Ev.unitReady (le 1 u.cls ++ le 2 u.inst) s
    else if tickGe s.tick.count (r.since + 1) then switchIn u s else s
  | .out => if (u.cls = 19 ∨ u.cls = 26) ∧ tickGe s.tick.count (r.since + 1) then toRejoin u s else s
  | .inService | .rejoin => s

/-- Step 6: switch-out and switch-in of units (R34, R71). -/
def stepUnits (rx : List Nat) (ds : List Deferred) (s : State) : State :=
  let s1 := ds.foldl (fun s d => unitChange rx d s) s
  s1.sys.units.foldl (fun s e => unitWork ⟨e.1 / 1024, e.1 % 1024⟩ s) s1

/-! ### Step 5, which looks ahead to step 6 -/

/-- SERVICE and DEGRADED follow, at step 5, the units that step 6 of the same boundary is about to switch (R60, R62; DEDUCED,
log 60). -/
def followUnits (rx : List Nat) (ds : List Deferred) (s : State) : State :=
  let m := serviceMode (stepUnits rx ds s)
  if (s.sys.mode = .service ∨ s.sys.mode = .degraded) ∧ s.sys.mode ≠ m then changeMode m s else s

/-- Step 5: the transitions other than entry into SAFE and takeover, those on command in acceptance order (R34, R60, R62). -/
def stepModes (rx : List Nat) (ds : List Deferred) (s : State) : State :=
  let s1 := applyMode (ds.foldl (fun s d => match d.change with
    | .modeChange => applyMode s
    | .handover h c => sendAt d.resp s.tick.count (startHandover h c s)
    | _ => s) s)
  followUnits rx ds (if (s1.sys.mode = .service ∨ s1.sys.mode = .degraded) ∧ s1.twin.role = 2 then toStandby s1 else s1)

/-! ### Steps 7 to 9 -/

/-- Step 7: the selected domain (R34, R388). -/
def stepSelect (ds : List Deferred) (s : State) : State :=
  ds.foldl (fun s d => match d.change with
    | .domainSelect b force => applySelect b force d.resp s
    | _ => s) s

/-- Step 8: bank masks, and the switches of profile and graph banks (R34, R126, R146, R147). -/
def stepMasks (ds : List Deferred) (s : State) : State :=
  ds.foldl (fun s d => match d.change with
    | .bankMask m items => sendAt d.resp s.tick.count (applyBankMask m items s)
    | .graphSwitch m => sendAt d.resp s.tick.count (applyGraphSwitch m s)
    | .profileSwitch m wg => sendAt d.resp s.tick.count (applyProfileSwitch m wg s)
    | _ => s) s

/-- One change of step 9. -/
def applyOther (rx : List Nat) (c : Change) (s : State) : State :=
  match c with
  | .word a m v => applyWord rx a m v s
  | .progLoad b => applyProg b s
  | .templates items => applyTemplates items s
  | .qpStart q => qpStart q s
  | .pool k d => applyPool k d s
  | .hostSafe => recordFault 0x0F 0xFF 0 0 s
  | .tsiDelays => s.setCal { s.cal with tsi := none }
  | .holdRelease =>
    let k := s.sys.kindling
    s.setSys { s.sys with kindling := { k with hold := false, running := k.running ++ [.s6a, .s6b] } }
  | .notify => s
  | .unitOut _ _ | .unitRejoin _ | .graphSwitch _ | .profileSwitch _ _ | .bankMask _ _ | .domainSelect _ _
  | .channelDown _ _ | .handover _ _ | .modeChange => s

/-- Does a change fall at step 9? -/
def atStep9 : Change → Bool
  | .word _ _ _ | .progLoad _ | .templates _ | .qpStart _ | .pool _ _ | .hostSafe | .tsiDelays | .holdRelease
  | .notify => true
  | .unitOut _ _ | .unitRejoin _ | .graphSwitch _ | .profileSwitch _ _ | .bankMask _ _ | .domainSelect _ _
  | .channelDown _ _ | .handover _ _ | .modeChange => false

/-- Step 9: every other deferred change, in acceptance order (R34, R35). -/
def stepOther (rx : List Nat) (ds : List Deferred) (s : State) : State :=
  ds.foldl (fun s d =>
    if atStep9 d.change then sendAt d.resp s.tick.count (applyOther rx d.change s) else s) s

/-! ### Steps 10 to 12 -/

/-- The promotions of a slice in a tick (R48). -/
def promoteShare (s : State) (n : Nat) : Nat :=
  let b := regField s 3 0 5 11 0
  b / 16 + (if (n + 16 - s.tick.count.toNat % 16) % 16 < b % 16 then 1 else 0)

/-- The budgets of a slice at their full values, and the counts of the tick that has ended (R34, R48, R265). -/
def reloadSlice (n : Nat) (s : State) : State :=
  modSl n (fun x => reloadShares { x with
    createLeft := regField s 3 0 4 5 0, promoteLeft := promoteShare s n
    opsPrev := x.ops, accessesPrev := x.accesses, ops := 0, accesses := 0 }) s

/-- The slots of a pipeline at their full number (R15, R587). -/
def reloadPipe (p : Nat) (s : State) : State :=
  let x := pipeAt s p
  setPipe p { x with frontPrev := x.frontSlots, svcPrev := x.svcSlots, frontSlots := 0, svcSlots := 0, svcBy := [] } s

/-- A host port whose traffic waited for the service share of the tick that has ended sends again (R15, R94). -/
def freeHost (n : Nat) (s : State) : State :=
  let x := portAt s n
  x.blocked.foldl (fun s k => settlePause n k s) (if x.blocked = [] then s else setPort n { x with blocked := [] } s)

/-- What a period of 1,024 ticks closes: the loads of the cores (R516). -/
def closePeriod (s : State) : State :=
  if s.tick.count.toNat % 1024 ≠ 0 then s else closeLoads 1 (closeLoads 0 s)

/-- Single-seed probing resumes in a pipeline whose REHASH has ended (R201). -/
def endDual (p : Nat) (s : State) : State :=
  if (fwdAt s p).closing = [] then s else setFwd p { fwdAt s p with closing := [] } s

/-- Step 10: budgets and shares are reloaded (R34, R36, R37, R40, R41, R44, R48, R177, R178, R455, R500). -/
def stepBudgets (s : State) : State :=
  let s1 := reloadLink (reloadChans ((List.range 16).foldl (fun s n => reloadSlice n s) s))
  let s2 := (List.range 4).foldl (fun s p => endDual p (reloadPipe p s)) s1
  let s3 := freeHost 129 (freeHost 128
    (s2.setPorts { s2.ports with port := s2.ports.port.map (fun e => (e.1, { e.2 with slots := 0 })) }))
  mirrorAudits (flushHeads (closePeriod (governTick s3)))

/-- Step 11: the delay lists of the dispatchers in service (R34, R46, R514). -/
def stepDelays (s : State) : State :=
  [0, 1].foldl (fun s d => if inService s 21 (32 + d) then advanceDelays d s else s) s

/-- Step 12: the heartbeat, the deltas of the tick behind it, and the cross frames that waited for the link (R34, R44). -/
def stepBeat (s : State) : State :=
  let s1 := sendDeltas 1 (sendDeltas 0 (twinBeat s))
  [0, 1].foldl (fun s d => crossPump d s.path.pkts.length s) s1

/-! ### The boundary -/

/-- TICK_BOUNDARY: the tick strobe (R34).  Before the TU has started there is none (R32). -/
def tickBoundary (f : TickFound) (s : State) : State :=
  if s.sys.mode = .reset ∨ !s.tick.running then s
  else
    let s1 := openTick f s
    let ds := s1.sys.deferred.filter (fun d => tickGe s1.tick.count d.due)
    let s2 := s1.setSys { s1.sys with deferred := s1.sys.deferred.filter (fun d => !tickGe s1.tick.count d.due) }
    let s3 := stepModes f.receiving ds (stepTakeover (stepSafe s2))
    let s4 := stepMasks ds (stepSelect ds (stepUnits f.receiving ds s3))
    stepBeat (stepDelays (stepBudgets (stepOther f.receiving ds s4)))

/-- TICK_BOUNDARY. -/
def execTickBoundary (f : TickFound) (s : State) : Host.Outcome State Fault Refusal := .next (tickBoundary f s)

end Sys2Proof.Machine
end

