-- ==== Sys2Proof/Machine/Messages.lean ====
section
/-! DEFINITION. The routes of Toune messages: the checks of the transports, the bootstrap frame, the mailbox slot and the
job, and the start of jobs of every kind (R427 to R430, R434, R450 to R454, R474 to R478). -/

namespace Sys2Proof.Machine

/-! ### Messages -/

/-- What a command does once its request has passed the checks of R478, by opcode; an opcode that names none is refused
at check 6 before. -/
def bodyOf : Nat → Req → State → State × Reply
  | 0x0000 => bodySessionOpen
  | 0x0001 => bodySessionClose
  | 0x0002 => bodySessionPing
  | 0x0003 => bodySessionQuery
  | 0x0004 => bodyCommandVersions
  | 0x0008 => bodyEventSubscribe
  | 0x0010 => bodyHandleQuery
  | 0x0011 => bodyHandleCancel
  | 0x0012 => bodyHandleRelease
  | 0x0018 => bodyAuditRead
  | 0x0020 => bodyStageWrite
  | 0x0100 => bodyParamRead
  | 0x0101 => bodyParamWrite
  | 0x0102 => bodyParamReadBlock
  | 0x0200 => bodyQueueCreate
  | 0x0201 => bodyQueueDestroy
  | 0x0202 => bodyQueueDisable
  | 0x0203 => bodyQueueEnable
  | 0x0204 => bodyQueueQuery
  | 0x0220 => bodyQpCreate
  | 0x0221 => bodyQpRestart
  | 0x0222 => bodyQpDestroy
  | 0x0223 => bodyQpQuery
  | 0x0228 => bodyHregionAdd
  | 0x0229 => bodyHregionRemove
  | 0x022A => bodyHregionRead
  | 0x0301 => bodyGraphLoad
  | 0x0302 => bodyGraphSwitch
  | 0x0303 => bodyProfileLoad
  | 0x0304 => bodyProfileSwitch
  | 0x0305 => bodyBankmaskCommit
  | 0x0310 => bodyRuleWrite
  | 0x0311 => bodyRuleInsert
  | 0x0312 => bodyRuleDelete
  | 0x0313 => bodyRuleRead
  | 0x0314 => bodyBankClear
  | 0x0320 => bodyTableWrite
  | 0x0321 => bodyTableDelete
  | 0x0322 => bodyTableRead
  | 0x0323 => bodyL2Flush
  | 0x0324 => bodyRehash
  | 0x0400 => bodyFlowRead
  | 0x0401 => bodyFlowWrite
  | 0x0402 => bodyFlowModify
  | 0x0403 => bodyFlowDelete
  | 0x0404 => bodyFlowSweep
  | 0x0405 => bodyFlowPuntRelease
  | 0x0406 => bodyFlowRepin
  | 0x0407 => bodyTurfEvacuate
  | 0x0410 => bodyPoolDefine
  | 0x0411 => bodyPoolDelete
  | 0x0412 => bodyPoolRead
  | 0x0440 => bodyFlowProgLoad
  | 0x0441 => bodyFlowTemplateWrite
  | 0x0442 => bodyFlowTemplateRead
  | 0x0443 => bodyFlowProgRead
  | 0x0500 => bodyTimeQuery
  | 0x0501 => bodyDomainSeed
  | 0x0502 => bodyDomainRate
  | 0x0503 => bodyDomainReseed
  | 0x0504 => bodyDomainSelect
  | 0x0505 => bodyDomainSetsRead
  | 0x0506 => bodyStampConvert
  | 0x0507 => bodyTsiRead
  | 0x0600 => bodyTwinQuery
  | 0x0601 => bodyTwinHandover
  | 0x0602 => bodyTwinResync
  | 0x0603 => bodyTwinSplitResolve
  | 0x0700 => bodySafetyQuery
  | 0x0701 => bodySafetyLogRead
  | 0x0702 => bodySafetySelftest
  | 0x0800 => bodyCalRead
  | 0x0801 => bodyCalWrite
  | 0x0802 => bodyCalRun
  | 0x0810 => bodyFwStage
  | 0x0811 => bodyFwQuery
  | 0x0910 => bodyMemErrlogRead
  | 0x0A00 => bodyModeQuery
  | 0x0A01 => bodyModeSet
  | 0x0A02 => bodyResume
  | 0x0A03 => bodySafeEnter
  | 0x0A04 => bodyUnitOut
  | 0x0A05 => bodyUnitRejoin
  | 0x0A06 => bodyChannelDown
  | _ => fun _ s => (s, .no St.eNotsup)

/-- The request that a message spells, over what its route says of it (R474). -/
def reqOf (base : Req) (b : List Byte) : Req :=
  { base with
    protocol := byteAt b 2, cmdVersion := BitVec.ofNat 16 (rd b 6 2), session := BitVec.ofNat 32 (rd b 8 4)
    sequence := BitVec.ofNat 32 (rd b 0xC 4), handle := BitVec.ofNat 32 (rd b 0x10 4)
    status := BitVec.ofNat 16 (rd b 0x14 2), reserved := BitVec.ofNat 16 (rd b 0x16 2)
    payload := (b.drop 32).take (rd b 0x18 4) }

/-- Checks 1 and 2 of R478 for a route whose largest request is `limit` bytes: the status of the one that fails. -/
def messageFault (limit : Nat) (b : List Byte) : Option Half :=
  let n := 32 + rd b 0x18 4
  if b.length < 32 ∨ rd b 0 2 ≠ 0x4E54 ∨ rd b 3 1 ≠ 1 ∨ n > limit ∨ n > b.length then some St.eArg
  else if rd b 0x1C 4 ≠ (crc32c (splice (b.take n) 0x1C (le 4 0))).toNat then some St.eIntegrity
  else none

/-- Does the management complex accept requests (R69, R72)? -/
def mcAccepts (s : State) : Bool := s.sys.mode != .reset && inService s 26 0

/-- Accept a message over a route (R478): one that fails check 1 or 2 is answered by the header as received. -/
def runMessage (limit : Nat) (base : Req) (b : List Byte) (s : State) : State :=
  let op := rd b 4 2
  let r := reqOf base b
  match messageFault limit b with
  | some st => if mcAccepts s then finish op r (.no st) true s else s
  | none => runToune op (bodyOf op) r s

/-! ### The mailbox -/

/-- The address of a queue pair's peer, as an audit record holds it (R438, R499). -/
def peerOf (s : State) (q : Nat) : List Byte := ((qpAt s q).arg.drop 0xC).take 16

/-- MAILBOX_REQUEST: the oldest immediate or SEND that has arrived is acted on in core cycle `c`; `data` is what the device
reads from a host region that the argument names (R434, R435). -/
def mailboxRequest (c : Nat) (data : Option (List Byte)) (s : State) : State :=
  match s.host.imms with
  | [] => s
  | (q, k, _) :: rest =>
    if !mcAccepts s then s
    else
      let s1 := s.setHost { s.host with imms := rest }
      let x := slotAt s1 k
      if x.busy then
        raiseLimited Ev.mboxBusy 0 (fun n => le 4 n) (bump48 19 256 4 1 s1)
      else
        let s2 := setSlot k { x with busy := true, qp := q, response := splice (padTo 4096 x.response) 0 (le 2 0) } s1
        runMessage 4096
          { route := .mailbox, hp1 := (qpAt s2 q).port == 1, qp := BitVec.ofNat 16 q, source := peerOf s2 q, cycle := c
            slot := some k, hostData := data } (padTo 4096 x.request) s2

/-! ### Bootstrap frames -/

/-- Is the bootstrap transport up: in KINDLING once step 6c has ended, which has found a host link up (R66, R67, R69)? -/
def bootUp (s : State) : Bool := s.sys.mode != .kindling || s.sys.kindling.branches.contains .s6c

/-- Does a bootstrap frame received on a port reach the management complex: terminated on an UP host port, or given to it by a
comparator of kind TO_MC on a front port (R69, R153, R426, R427)? -/
def bootReaches (s : State) (n : Nat) (f : List Byte) : Bool :=
  (afterTag f).2 == 0x88B5 && bootUp s &&
  (if n ≥ 128 then transportUp s && (portAt s n).st == .up && terminated s n f else s.path.toMc.contains (n, f))

/-- The management complex takes a packet that a comparator gave it. -/
def takeMc (n : Nat) (f : List Byte) (s : State) : State := s.setPath { s.path with toMc := s.path.toMc.erase (n, f) }

/-- BOOT_FRAME_RX: a MESSAGE frame is received on port `n` in core cycle `c`: executed in a free mailbox slot, answered
again, refused by its sequence, or answered BUSY; a message that fails check 1 or 2 is discarded (R428 to R430, R478). -/
def bootFrameRx (n c : Nat) (f : List Byte) (data : Option (List Byte)) (s : State) : State :=
  let o := (afterTag f).1
  if !mcAccepts s ∨ !bootReaches s n f then s
  else if rd f o 1 ≠ 1 ∨ rd f (o + 1) 1 ≠ 1 then takeMc n f s
  else
    let s1 := bump48 19 256 5 1 (takeMc n f s)
    let m := (f.drop (o + 8)).take (rd f (o + 2) 2)
    match messageFault 4096 m with
    | some _ => bump48 19 256 7 1 s1
    | none =>
      let base : Req := { route := .bootstrap, hp1 := n == 129, source := (f.drop 6).take 6, cycle := c, port := n
                          hostData := data }
      match bootSeq (rd m 4 2) (reqOf base m) s1 with
      | .run =>
        match freeMailSlot s1 with
        | none => sendBoot n base.source 2 [] s1
        | some k => runMessage 4096 { base with slot := some k } m (setSlot k { slotAt s1 k with busy := true } s1)
      | _ => runMessage 4096 base m s1

/-! ### Jobs -/

/-- The job at the fetched entries of a queue (R450): its number of entries, and whether the checks of its framing pass;
none while entries of it are still to be fetched. -/
def jobFrame (x : Queue) : Option (Nat × Bool) :=
  match x.entries with
  | [] => none
  | (_, e) :: _ =>
    let n := rd e 2 2
    let most := if x.kind = 1 ∨ x.kind = 2 ∨ x.kind = 5 ∨ x.kind = 6 then 1 else min 128 x.size
    if !bitOf (rd e 0 1) 0 ∨ n = 0 ∨ n > most then some (1, false)
    else if x.entries.length < n then none
    else
      let flag := fun i => rd ((x.entries.map (·.2)).getD i []) 0 1 % 4
      some (n, (List.range n).all (fun i => flag i == b2n (i == 0) + 2 * b2n (i + 1 == n)))

/-- Are the reserved fields of the entry headers zero, for a kind other than DMA, whose descriptors are judged one by one
(R7, R450, R465)? -/
def headersOk (es : List (List Byte)) : Bool :=
  es.all (fun e => decide (rd e 0 1 < 4) && zeros e 1 1) && (es.drop 1).all (fun e => zeros e 2 6)

/-- The message of an ADMIN, TABLE or FLOW job (R452). -/
def jobMessage (es : List (List Byte)) : List Byte :=
  match es with
  | [] => []
  | e :: rest => e.drop 0x18 ++ rest.flatMap (fun e => e.drop 8)

/-- Is a message job rejected: its response buffer, or an opcode outside its kind's group (R452)? -/
def jobRejected (s : State) (kind : Nat) (es : List (List Byte)) : Bool :=
  let e := es.headD []
  let g := rd (jobMessage es) 4 2 / 256
  let writable := match regionAt s (rd e 8 2) with | some b => regionWrite b | none => false
  !zeros e 0xA 2 || decide (rd e 0xC 4 < 4128) || !writable || (kind == 3 && g != 3) || (kind == 4 && g != 4)

/-- A job ends at once with a status. -/
def endJob (q : Nat) (pos : Word) (st : Half) (s : State) : State :=
  modJob q pos (fun j => { j with begun := true, done := true, status := st }) s

/-- Are the fields of an INJECT entry in order (R453)?  The egress port of a LOOKUP frame is not known yet: the largest
MAX_FRAME bounds its length. -/
def injectOk (s : State) (e : List Byte) : Bool :=
  let direct := rd e 0x18 1 == 1
  let n := rd e 0x19 1
  decide (rd e 0x18 1 < 2) && zeros e 0xC 4 && zeros e 0x1B 37 && decide (rd e 0x1A 1 < 16) &&
  (if direct then decide (n < 130) else decide (n < 4)) && decide (60 ≤ rd e 0xA 2) &&
  decide (rd e 0xA 2 + 4 ≤ (if direct then maxFrame s n else 10240))

/-- A frame of an INJECT job in mode DIRECT: it wants cells for its port, charged to the generated source (R453).  In SAFE
it is discarded where R565 stops its class. -/
def injectDirect (e f : List Byte) (job : Option (Nat × Nat)) (s : State) : State :=
  let n := rd e 0x19 1
  let cls := rd e 0x1A 1 % 8
  if safeStops s false cls then safeDiscard s
  else
    let k := s.path.nextPkt
    let x : Packet :=
      { pipe := if n < 128 then pipeOfPort n else 2 * (n - 128), source := 2, owner := 131, prio := pausePrio s 131 f, frame := f, out := f
        stamp := s.tick.startFrc, gen := { job := job }, route := { dest := .port n }, cls := cls }
    egressFinal k x f 1 (newPkt x s)

/-- An INJECT job starts: its frame is read and enters the pipeline named, or the port's queue; the job ends, unless its
completion returns a transmit stamp (R453, R457). -/
def startInject (q : Nat) (pos : Word) (e : List Byte) (data : Option (List Byte)) (s : State) : State :=
  let len := rd e 0xA 2
  if !injectOk s e then endJob q pos St.eArg s
  else match regionUsable s (rd e 8 2) (rd e 0x10 8) len false, data with
    | some _, some b =>
      let f := padTo len b
      let s1 := bulk { kind := 2, region := rd e 8 2, offset := rd e 0x10 8, length := len, purpose := .data q pos } s
      if rd e 0x18 1 = 0 then
        let p := rd e 0x19 1
        let gs := tgetD (fun _ => []) s1.path.gens p
        endJob q pos St.ok (s1.setPath { s1.path with gens := tput s1.path.gens p (gs ++ [{ frame := f, test := true }]) })
      else if bitOf (rd e 0x1A 1) 3 then injectDirect e f (some (q, pos.toNat)) s1
      else endJob q pos St.ok (injectDirect e f none s1)
    | _, _ => endJob q pos St.eFault s

/-- Is a posted buffer long enough, and its entry in order (R453)? -/
def bufferOk (kind : Nat) (e : List Byte) : Bool :=
  let n := rd e 0xC 4
  zeros e 0xA 2 && zeros e 0x18 40 &&
  (if kind = 2 then decide (256 ≤ n) && n % 64 == 0 else if kind = 5 then decide (64 ≤ n) else decide (16384 ≤ n))

/-- A job whose framing is in order starts. -/
def runJob (q c : Nat) (pos : Word) (es : List (List Byte)) (data : Option (List Byte)) (s : State) : State :=
  let x := hqAt s q
  let e := es.headD []
  match x.kind with
  | 0 | 3 | 4 =>
    if !headersOk es || jobRejected s x.kind es then endJob q pos St.eArg s
    else
      let qp := match regionAt s x.ring_ with | some b => regionQp b | none => 0
      runMessage 4128
        { route := .queue, hp1 := (qpAt s qp).port == 1, qp := BitVec.ofNat 16 qp, queue := BitVec.ofNat 16 q
          source := peerOf s qp, cycle := c, pos := pos, hostData := data } (jobMessage es) s
  | 1 => if headersOk es then startInject q pos e data s else endJob q pos St.eArg s
  | 7 => s
  | k => if headersOk es && bufferOk k e then s else endJob q pos St.eArg s

/-- Jobs of a queue that execute and have not ended. -/
def executing (x : Queue) : Nat := (x.jobs.filter (fun j => j.begun && !j.done)).length

/-- May a queue start its next job: the limits of R454 and R458, and a unit and channel that run? -/
def mayStart (s : State) (x : Queue) : Bool :=
  match x.kind with
  | 0 => executing x == 0 && decide (cqLoad s x.cq < 64) && mcAccepts s
  | 1 => decide (cqLoad s x.cq < 64)
  | 3 | 4 => decide (executing x < 16) && decide (cqLoad s x.cq < 64) && mcAccepts s
  | 7 => executing x == 0 && decide (cqLoad s x.cq < 64) && inService s 20 0 && bitOf (reg s 20 x.bound 0).toNat 0
  | _ => true

/-- Is a kind one whose jobs are posted buffers? -/
def postedKind (k : Nat) : Bool := k == 2 || k == 5 || k == 6

/-- JOB_START: the next job of a queue, all its entries before the doorbell, starts in core cycle `c`; `data` is what the
device reads from a host region for it (R450 to R454). -/
def jobStart (q c : Nat) (data : Option (List Byte)) (s : State) : State :=
  let x := hqAt s q
  match x.entries, jobFrame x with
  | (pos, e) :: _, some (n, ok) =>
    if x.st ≠ 1 ∨ !x.submits ∨ !inService s 18 0 ∨ (hqAt s x.cq).st ≠ 1 ∨ !mayStart s x then s
    else
      let es := (x.entries.take n).map (·.2)
      let j : Job := { pos := pos, count := n, tag := BitVec.ofNat 32 (rd e 4 4), entries := es
                       begun := !postedKind x.kind || !ok }
      let s1 := setHq q { x with entries := x.entries.drop n, jobs := x.jobs ++ [j] } s
      if ok then runJob q c pos es data s1 else endJob q pos St.eArg s1
  | _, _ => s

/-! ### The meanings -/

/-- MAILBOX_REQUEST. -/
def execMailboxRequest (c : Fin 1350) (data : Option (List Byte)) (s : State) : Host.Outcome State Fault Refusal :=
  .next (mailboxRequest c data s)
/-- BOOT_FRAME_RX. -/
def execBootFrameRx (n : Fin 130) (c : Fin 1350) (f : List Byte) (data : Option (List Byte)) (s : State) :
    Host.Outcome State Fault Refusal := .next (bootFrameRx n c f data s)
/-- JOB_START. -/
def execJobStart (q : Fin 1024) (c : Fin 1350) (data : Option (List Byte)) (s : State) :
    Host.Outcome State Fault Refusal := .next (jobStart q c data s)

end Sys2Proof.Machine
end

