-- ==== Sys2Proof/Machine/Service.lean ====
section
/-! DEFINITION. What the work items of the service cores do once a core runs them (R251, R385, R506, R511, R515). -/

namespace Sys2Proof.Machine

/-- FLOW_PUNTED: a FLOW_MISS item delivers the punted key and frame; a punt that has been resolved is told no more (R251,
R515). -/
def flowPunted (n : Nat) (d : Dword) (s : State) : State :=
  let x := slAt s n
  if !x.punts.any (fun p => p.digest == d) then s
  else match x.flights.find? (fun f => f.digest == d) with
    | some { ops := { kind := .packet q, .. } :: _, .. } =>
      (match pktAt s q.pkt with
       | some p => raise Ev.flowPunted (le 1 n ++ q.key ++ le 1 p.port ++ le 8 p.stamp.toNat ++ p.frame.take 256) s
       | none => s)
    | _ => s

/-- Is a handle's operation still running? -/
def handleRuns (s : State) (h : Word) : Bool :=
  handleValid s h && (handleAt s (handleIdx h)).st == .running && (handleAt s (handleIdx h)).ended.isNone

/-- The effect of a work item that a core of die `d` runs; `fw` is what the firmware's servo decides (R506). -/
def runWork (d : Nat) (fw : Option ServoStep) (w : Work) (s : State) : State :=
  match w with
  | .flowMiss n p => flowPunted n (BitVec.ofNat 64 p) s
  | .sweep h n => if handleRuns s h then (postAt d (s.tick.count + 1024) (.sweep h n) s).1 else s
  | .learnSync p l => learnSync p l s
  | .mgmt _ => s
  | .stream code detail tick frc =>
    s.setToune { s.toune with
      events := s.toune.events ++ [{ code := code, detail := detail, tick := tick, frc := frc }] }
  | .rehash p t => rehashStart p t s
  | .exportQ _ => s
  | .ptp _ _ _ => match fw with | some x => servoStep x s | none => s
  | .servo => match fw with | some x => servoStep x s | none => s

/-- SC_DISPATCH: the dispatcher of die `d` gives a ready item to a core, which runs it; a dispatcher out of service
dispatches nothing (R511, R512, R514). -/
def scDispatch (d : Nat) (fw : Option ServoStep) (s : State) : State :=
  if s.sys.mode = .reset ∨ !inService s 21 (32 + d) then s
  else match dispatch d s with
    | (s1, some i) => runWork d fw i.work s1
    | (s1, none) => s1

/-- SC_DISPATCH. -/
def execScDispatch (d : Fin 2) (fw : Option ServoStep) (s : State) : Host.Outcome State Fault Refusal :=
  .next (scDispatch d fw s)

end Sys2Proof.Machine
end

