-- ==== Sys2Proof/Machine/Start.lean ====
section
/-! DEFINITION. Reset and Kindling: the steps that take the device from reset release to the first mode in which the host
configures it (R60, R63 to R68, R75, R91, R328, R377, R403, R413, R592, R595, R599, R603). -/

namespace Sys2Proof.Machine

/-! ### Reset -/

/-- Everything but the boot flash is lost; what waits outside the device, the count of free values and the test access port
stand (R60, R602).  A store of the calibration record that was in progress is cut short at a stage that is open (R76). -/
def afterReset (s : State) : State :=
  let torn := s.cal.op.any (fun o => o.storing)
  { State.reset with
    pending := s.pending
    free := if torn then s.free + 1 else s.free
    flash := if torn then tornStore (freeBits 2 s).toNat s else s.flash
    sys := { State.reset.sys with tapInstr := s.sys.tapInstr } }

/-- RESET_ASSERT: RST_N or PWR_GOOD is low for so many nanoseconds: 1 µs or more resets, less than 200 ns never does, and
between them it is open which (R60, R599). -/
def resetAssert (ns : Nat) (s : State) : State :=
  if ns < 200 then s
  else if 1000 ≤ ns then afterReset s
  else if freeBits 1 s = 1 then afterReset (drawn s) else drawn s

/-- RESET_RELEASE: RST_N and PWR_GOOD are both high; the pins are sampled and Kindling step 1 starts (R60, R65, R563). -/
def resetRelease (bootMode : BitVec 2) (twinRole : Bool) (s : State) : State :=
  if s.sys.mode ≠ .reset then s
  else
    let s1 := s.setSys { s.sys with
      mode := .kindling, bootMode := bootMode, twinRole := twinRole, kindling := { running := [.s1] } }
    let s2 := s1.setZal { s1.zal with reqLevel := true, safeN := true, faultN := true }
    raise Ev.modeChanged (le 1 0 ++ le 1 1 ++ le 8 s.tick.count.toNat) s2

/-! ### Steps 1 to 5 -/

/-- Change where Kindling stands. -/
def modKindling (f : Kindling → Kindling) (s : State) : State :=
  s.setSys { s.sys with kindling := f s.sys.kindling }

/-- KINDLING_STEP_FAIL: the step, and the class and instance of the failing unit (R78). -/
def stepFail (step cls inst : Nat) (s : State) : State :=
  raise Ev.kindlingStepFail (le 1 step ++ le 1 cls ++ le 2 inst) s

/-- Step 1: the island starts; where its self-test fails, cause SELFTEST_FAIL is recorded, both pins are asserted and Kindling
ends in SAFE (R66, R67, R559). -/
def kStep1 (f : KindlingFound) (s : State) : State :=
  let s1 := if f.ok then s
    else
      let s1 := recordFault 0x03 0xFF 0 0 (stepFail 1 1 0 s)
      s1.setZal { s1.zal with lockstepOk := false, safeN := false, faultN := false }
  modKindling (fun k => { k with running := [.s2] }) s1

/-- The slots in the order in which they are tried: true for B (R65). -/
def bootOrder (s : State) : List Bool :=
  match flashDir s.flash with
  | none => []
  | some d => if s.sys.bootMode = 2 then [] else if s.sys.bootMode = 1 then [!d.activeB, d.activeB] else [d.activeB, !d.activeB]

/-- A slot of the flash. -/
def flashSlot (s : State) (b : Bool) : Option FwSlot := if b then s.flash.slotB else s.flash.slotA

/-- The CRC of a slot that the directory in use names and whose contents match it (R63). -/
def bootSlot (s : State) (b : Bool) : Option Word :=
  match flashEntry s.flash (if b then 2 else 1), flashSlot s b with
  | some e, some x => if slotValid (some { x with length := e.length, crc := e.crc }) then some e.crc else none
  | _, _ => none

/-- Step 2: the firmware is loaded from the first slot whose contents match the CRC of its directory entry; with none, Kindling
proceeds as RECOVERY (R63, R65, R67, R603). -/
def kStep2 (f : KindlingFound) (s : State) : State :=
  let s1 := modKindling (fun k => { k with running := [.s3] }) (s.setSys { s.sys with flashMode := f.flashMode })
  match (bootOrder s).find? (fun b => (bootSlot s b).isSome) with
  | some b => s1.setSys { s1.sys with
      slotB := b
      fw := match bootSlot s b with | some c => Config.fwVersion c | none => 0 }
  | none =>
    let s2 := s1.setSys { s1.sys with recovery := true }
    if s.sys.bootMode = 2 then s2 else stepFail 2 26 0 s2

/-- One plane's regulator at step 3 (R595). -/
def startPlane (f : KindlingFound) (die : Nat) (cold : Bool) (s : State) : State :=
  if f.avsFail.contains die then stepFail 3 0 die (lockPlane die s) else setTarget die (avsWanted die cold) s

/-- Step 3: the PLLs lock, the TU starts with the tick count and the FRC at 0, and the twin lanes start; without lock the step
is made again after 100 ms (R32, R66, R67, R374, R377, R533, R595). -/
def kStep3 (f : KindlingFound) (s : State) : State :=
  if !f.ok then
    let s1 := stepFail 3 2 0 (s.setZal { s.zal with faultN := false })
    modKindling (fun k => { k with retrying := true }) s1
  else
    let s1 := s.setTick { s.tick with running := true, count := 0, startFrc := 0 }
    let s2 := s1.setTu { s1.tu with locked := true, tref := f.tref }
    let s3 := startPlane f 1 f.cold.2 (startPlane f 0 f.cold.1 s2)
    modKindling (fun k => { k with running := [.s4], retrying := false }) (settleFaultN (twinStart s3))

/-- Units that a self-test or a training finds failed are out of service, and a class that never leaves service makes
Kindling end in SAFE (R67). -/
def unitsFail (step : Nat) (us : List UnitId) (s : State) : State :=
  us.foldl (fun s u => match overrunUnit u with
    | none => s
    | some v =>
      let s1 := stepFail step u.cls u.inst (setUnit v { st := .out, since := s.tick.count, cause := 2 } s)
      if overrunSafe s v then
        let s2 := modKindling (fun k => { k with toSafe := true }) s1
        if v.cls = 1 then s2 else nameUnit v s2
      else s1) s

/-- Step 4: logic and memory self-test of both dies (R66, R67). -/
def kStep4 (f : KindlingFound) (s : State) : State :=
  modKindling (fun k => { k with running := [.s5] }) (unitsFail 4 f.failed s)

/-- CAL_INVALID: the cause, 0 the record, 1 a lane entry or 2 a DDR5 channel, and its number (R75, R78). -/
def calBad (cause n : Nat) (s : State) : State :=
  raise Ev.calInvalid (le 1 cause ++ le 2 n) (s.setCal { s.cal with defaults := true })

/-- Take bytes out of the working copy, which shows the built-in defaults there. -/
def calErase (off n : Nat) (s : State) : State :=
  s.setCal { s.cal with work := (List.range n).foldl (fun m i => terase m (off + i)) s.cal.work }

/-- Lane entries that are not marked valid fall back to the built-in defaults (R74, R75). -/
def laneDefaults (s : State) : State :=
  (List.range 160).foldl (fun s k =>
    if bitOf (calByte s (0x40 + 16 * k + 0xD)).toNat 0 then s else calBad 1 k (calErase (0x40 + 16 * k) 16 s)) s

/-- The bytes of a calibration copy that the directory in use names (R63, R73); its own CRC judges them (R75). -/
def flashCopy (f : Flash) (one : Bool) : List Byte :=
  match flashEntry f (if one then 5 else 4) with
  | some _ => copyBytes (if one then f.cal1 else f.cal0)
  | none => []

/-- The copy that step 5 loads: the valid one with the higher sequence, true for copy 1 (R75). -/
def calCopy (f : Flash) : Option (Bool × List Byte) :=
  let a := flashCopy f false
  let b := flashCopy f true
  if calValid a ∧ (!calValid b ∨ rd b 0xC 4 ≤ rd a 0xC 4) then some (false, a)
  else if calValid b then some (true, b) else none

/-- The branches that start when step 5 ends: in RECOVERY and under HOLD only 6c (R65, R66). -/
def startBranches (s : State) : State :=
  let alone := s.sys.recovery || s.sys.bootMode == 3
  modKindling (fun k => { k with
    running := if alone then [.s6c] else [.s6a, .s6b, .s6c]
    hold := s.sys.bootMode == 3 && !s.sys.recovery }) s

/-- Step 5: the calibration record is loaded and checked (R66, R67, R75, R586). -/
def kStep5 (s : State) : State :=
  startBranches (match calCopy s.flash with
    | none => calBad 0 0 (s.setCal { s.cal with work := [], valid := false, copy := false, sequence := 0, origin := 0 })
    | some (c, b) => laneDefaults (s.setCal { s.cal with
        work := putBytes [] 0 b, valid := true, copy := c, defaults := false
        sequence := BitVec.ofNat 32 (rd b 0xC 4), origin := BitVec.ofNat 32 (rd b 0x18 4) }))

/-! ### The branches of step 6 -/

/-- Branch 6a: HBM training; every pseudo-channel in service holds its results (R66, R67, R413). -/
def kStep6a (f : KindlingFound) (s : State) : State :=
  (List.range 128).foldl (fun s k => if inService s 14 k then trainedHbm k s else s) (unitsFail 6 f.failed s)

/-- Is a channel present: trained, and with one or two DIMMs that R402 names? -/
def chanPresent (x : ChannelFound) : Bool := x.trained && x.supported && (x.dimms == 1 || x.dimms == 2)

/-- The receivers that a channel has no use for: DQS5 to DQS9 of each subchannel with ×8 devices, whose column units have 6 bits (R406,
R611). -/
def unusedDqs (colBits : Nat) : BitVec 20 := if colBits = 6 then 0xF83E0 else 0

/-- A present channel: its geometry and identities, and its unused receivers disabled; seeds of other modules give way to the built-in
ones, and the results of its training are held (R75, R403, R413, R611). -/
def chanFound (x : ChannelFound) (s : State) : State :=
  let k := x.chan
  let s1 := setMem true k { memAt s true k with
    dimms := x.dimms, id0 := x.id0, id1 := x.id1, gib := x.gib, colBits := x.colBits, selBits := x.selBits
    dqsOff := unusedDqs x.colBits } s
  let off := 0xEC0 + 64 * k
  let seeded := (List.range 64).any (fun i => (tfind s1.cal.work (off + i)).isSome)
  if seeded && (rd (calBytes s1 off 8) 0 8 != x.id0.toNat || rd (calBytes s1 (off + 8) 8) 0 8 != x.id1.toNat) then
    trainedChannel k (calBad 2 k (calErase off 64 s1))
  else trainedChannel k s1

/-- An absent channel: MEM_TRAIN_FAIL with cause 0 training, 1 an unsupported DIMM or 2 no DIMM (R67, R403, R577). -/
def chanAbsent (k cause : Nat) (s : State) : State :=
  let s1 := s.setSys { s.sys with absent := s.sys.absent ++ [1024 * 15 + k] }
  raise Ev.memTrainFail (le 1 15 ++ le 2 k ++ le 1 cause) (stepFail 6 15 k s1)

/-- One channel as branch 6b finds it. -/
def findChannel (fs : List ChannelFound) (k : Nat) (s : State) : State :=
  match fs.find? (fun x => x.chan == k) with
  | none => chanAbsent k 2 s
  | some x =>
    if chanPresent x then chanFound x s
    else chanAbsent k (if x.dimms = 0 then 2 else if !x.supported then 1 else 0) s

/-- The least of some numbers. -/
def leastOf : List Nat → Nat
  | [] => 0
  | [a] => a
  | a :: b :: l => min a (leastOf (b :: l))

/-- Branch 6b: DDR5 discovery and training (R66, R67, R402, R403). -/
def kStep6b (f : KindlingFound) (s : State) : State :=
  let here := (List.range 16).filterMap (fun k => match f.channels.find? (fun x => x.chan == k) with
    | some x => if chanPresent x then some x else none
    | none => none)
  let s1 := (List.range 16).foldl (fun s k => findChannel f.channels k s) s
  let s2 := s1.setSys { s1.sys with grade := here.any (fun x => x.dimms == 2) }
  s2.setJnl { s2.jnl with channels := here.map (·.chan), gib := leastOf (here.map (·.gib)) }

/-- The classes that the bootstrap configuration may address (R64). -/
def bootClasses : List Nat := [4, 5, 6, 11, 2, 19]

/-- One pair of the bootstrap configuration: applied as a parameter write, or skipped and counted (R64). -/
def bootPair (e : Word × Word) (s : State) : State :=
  let a := e.1.toNat
  match paramDef a, judgeWrite 0 a e.2 0xFFFFFFFF s with
  | some d, .ok v =>
    if bootClasses.contains (addrClass a) then applyWord [] a (BitVec.ofNat 32 (Nat.lor d.rw d.rwl)) v s
    else modKindling (fun k => { k with skipped := k.skipped + 1 }) s
  | _, _ => modKindling (fun k => { k with skipped := k.skipped + 1 }) s

/-- The pairs of the bootstrap configuration: 4,096 at most, where the directory in use names them and their bytes match the CRC
of its entry (R63, R64). -/
def bootPairs (f : Flash) : List (Word × Word) :=
  let b := f.bootCfg.flatMap (fun e => le 4 e.1.toNat ++ le 4 e.2.toNat)
  match flashEntry f 3 with
  | some e => if e.length.toNat = b.length ∧ e.crc = crc32c b then f.bootCfg.take 4096 else []
  | none => []

/-- Branch 6c: the bootstrap configuration is applied and the host ports are brought up; in RECOVERY only HP0, at 400 Gbit/s
(R64 to R67, R91). -/
def kStep6c (f : KindlingFound) (s : State) : State :=
  let s1 := if s.sys.recovery then portEnable 128 (setReg 5 128 0xA 0 s)
    else portEnable 129 (portEnable 128 ((bootPairs s.flash).foldl (fun s e => bootPair e s) s))
  if f.ok then s1 else stepFail 6 19 0 s1

/-! ### Step 7 -/

/-- Give a word a reset value, unless it has been written since. -/
def setDefault (cls inst w : Nat) (v : Word) (s : State) : State :=
  match tfind s.prm.regs (paddr cls inst w) with
  | some _ => s
  | none => setReg cls inst w v s

/-- The regions of a small Peatbank, and whether the turf region exists (R328). -/
def placeRegions (s : State) : State :=
  let c := s.jnl.gib
  let st := regField s 13 16 0x14 4 0
  let turfs := decide (s.jnl.channels ≠ [] ∧ st + 8 ≤ c)
  let s1 := s.setJnl { s.jnl with turfs := turfs }
  if s.jnl.channels = [] ∨ 128 ≤ c then s1
  else
    let b := if turfs then st else 0
    let r := c - b
    let j := 32 * r / 108
    let k := 8 * r / 108
    let s2 := setDefault 24 0 2 (BitVec.ofNat 32 b) (setDefault 24 0 1 (BitVec.ofNat 32 j) s1)
    let s3 := (List.range 8).foldl (fun s i =>
      setDefault 24 (1 + i) 2 (BitVec.ofNat 32 (b + j + i * k)) (setDefault 24 (1 + i) 1 (BitVec.ofNat 32 k) s)) s2
    setDefault 19 256 0x11 (BitVec.ofNat 32 (b + j + 8 * k + 65536 * (c - b - j - 8 * k))) s3

/-- Step 7: KINDLING_DONE, and the transition at the next boundary; one into SAFE falls at its step 3 (R60, R66, R67). -/
def kStep7 (f : KindlingFound) (s : State) : State :=
  let k := s.sys.kindling
  let next : Mode := if k.toSafe then .safe else .configure
  let s1 := placeRegions s
  let s2 := raise Ev.kindlingDone (le 2 f.ms ++ le 1 next.code ++ le 2 k.skipped) s1
  let s3 := sendAt s2.sys.holdResp s2.tick.count s2
  s3.setSys { s3.sys with
    kindling := { k with running := [], finished := true }
    kindlingMs := BitVec.ofNat 16 f.ms
    holdResp := none
    pendingMode := if k.toSafe then none else some { target := .configure, due := s.tick.count + 1 }
    deferred := if k.toSafe then s3.sys.deferred
      else s3.sys.deferred ++ [{ due := s.tick.count + 1, change := .modeChange }] }

/-! ### The commands -/

/-- A branch of step 6 ends; step 7 follows the last of the three (R66). -/
def branchEnds (b : KStep) (s : State) : State :=
  modKindling (fun k =>
    let done := k.branches ++ [b]
    let all := [KStep.s6a, .s6b, .s6c].all (fun x => done.contains x)
    { k with branches := done, running := if all then [.s7] else k.running.filter (· != b) }) s

/-- KINDLING_STEP_DONE: a step or branch ends, with what it found (R66, R67). -/
def kindlingStepDone (step : KStep) (f : KindlingFound) (s : State) : State :=
  if s.sys.mode ≠ .kindling ∨ !s.sys.kindling.running.contains step then s
  else match step with
    | .s1 => kStep1 f s
    | .s2 => kStep2 f s
    | .s3 => if s.sys.kindling.retrying then s else kStep3 f s
    | .s4 => kStep4 f s
    | .s5 => kStep5 s
    | .s6a => branchEnds .s6a (kStep6a f s)
    | .s6b => branchEnds .s6b (kStep6b f s)
    | .s6c => branchEnds .s6c (kStep6c f s)
    | .s7 => kStep7 f s

/-- TREF_LOCK_RETRY: the lock is tried again 100 ms after it failed (R67). -/
def trefLockRetry (f : KindlingFound) (s : State) : State :=
  if s.sys.mode = .kindling ∧ s.sys.kindling.retrying then kStep3 f s else s

/-! ### The meanings -/

/-- RESET_ASSERT. -/
def execResetAssert (ns : Nat) (s : State) : Host.Outcome State Fault Refusal := .next (resetAssert ns s)
/-- RESET_RELEASE. -/
def execResetRelease (bootMode : BitVec 2) (twinRole : Bool) (s : State) : Host.Outcome State Fault Refusal :=
  .next (resetRelease bootMode twinRole s)
/-- KINDLING_STEP_DONE. -/
def execKindlingStepDone (step : KStep) (f : KindlingFound) (s : State) : Host.Outcome State Fault Refusal :=
  .next (kindlingStepDone step f s)
/-- TREF_LOCK_RETRY. -/
def execTrefLockRetry (f : KindlingFound) (s : State) : Host.Outcome State Fault Refusal := .next (trefLockRetry f s)

end Sys2Proof.Machine
end

