-- ==== Sys2Proof/Machine/Dispatch.lean ====
section
/-! DEFINITION. One arm per constructor: each calls the meaning of its command. -/

namespace Sys2Proof.Machine

def exec (i : Instr) (s : State) : Host.Outcome State Fault Refusal :=
  match i with
  | .resetAssert ns => Sys2Proof.Machine.execResetAssert ns s
  | .resetRelease bootMode twinRole => Sys2Proof.Machine.execResetRelease bootMode twinRole s
  | .kindlingStepDone step f => Sys2Proof.Machine.execKindlingStepDone step f s
  | .trefLockRetry f => Sys2Proof.Machine.execTrefLockRetry f s
  | .tickBoundary f => Sys2Proof.Machine.execTickBoundary f s
  | .tickOverrun u => Sys2Proof.Machine.execTickOverrun u s
  | .createExpired n => Sys2Proof.Machine.execCreateExpired n s
  | .holdExpired n => Sys2Proof.Machine.execHoldExpired n s
  | .zaluaTickChecks f => Sys2Proof.Machine.execZaluaTickChecks f s
  | .frcCheckFail long n => Sys2Proof.Machine.execFrcCheckFail long n s
  | .trefAlarm tref pll => Sys2Proof.Machine.execTrefAlarm tref pll s
  | .corePllUnlock die => Sys2Proof.Machine.execCorePllUnlock die s
  | .supplyFault rail uv => Sys2Proof.Machine.execSupplyFault rail uv s
  | .lockstepMismatch => Sys2Proof.Machine.execLockstepMismatch s
  | .islandSilent die => Sys2Proof.Machine.execIslandSilent die s
  | .dieLinkFail channel => Sys2Proof.Machine.execDieLinkFail channel s
  | .safeReqNLow => Sys2Proof.Machine.execSafeReqNLow s
  | .safeReqNHigh => Sys2Proof.Machine.execSafeReqNHigh s
  | .modeQuery r => Sys2Proof.Machine.execModeQuery r s
  | .modeSet r => Sys2Proof.Machine.execModeSet r s
  | .resume r => Sys2Proof.Machine.execResume r s
  | .safeEnter r => Sys2Proof.Machine.execSafeEnter r s
  | .unitOut r => Sys2Proof.Machine.execUnitOut r s
  | .unitRejoin r => Sys2Proof.Machine.execUnitRejoin r s
  | .testClearDone => Sys2Proof.Machine.execTestClearDone s
  | .rejoinComplete u b => Sys2Proof.Machine.execRejoinComplete u b s
  | .calRead r => Sys2Proof.Machine.execCalRead r s
  | .calWrite r => Sys2Proof.Machine.execCalWrite r s
  | .calRun r => Sys2Proof.Machine.execCalRun r s
  | .calRunDone values => Sys2Proof.Machine.execCalRunDone values s
  | .calStored intact => Sys2Proof.Machine.execCalStored intact s
  | .fwStage r => Sys2Proof.Machine.execFwStage r s
  | .fwQuery r => Sys2Proof.Machine.execFwQuery r s
  | .fwStaged => Sys2Proof.Machine.execFwStaged s
  | .portEnable n => Sys2Proof.Machine.execPortEnable n s
  | .portDisable n cut => Sys2Proof.Machine.execPortDisable n cut s
  | .pgModeWrite g v rx => Sys2Proof.Machine.execPgModeWrite g v rx s
  | .anResolved n code r => Sys2Proof.Machine.execAnResolved n code r s
  | .anNoCommon n abilities => Sys2Proof.Machine.execAnNoCommon n abilities s
  | .trainDone d => Sys2Proof.Machine.execTrainDone d s
  | .trainTimeout n => Sys2Proof.Machine.execTrainTimeout n s
  | .linkUp n rx => Sys2Proof.Machine.execLinkUp n rx s
  | .alignTimeout n => Sys2Proof.Machine.execAlignTimeout n s
  | .linkDown n cause cut => Sys2Proof.Machine.execLinkDown n cause cut s
  | .remoteFault n => Sys2Proof.Machine.execRemoteFault n s
  | .remoteFaultClear n => Sys2Proof.Machine.execRemoteFaultClear n s
  | .fecDegraded n corrected uncorrected symbols => Sys2Proof.Machine.execFecDegraded n corrected uncorrected symbols s
  | .laneIdleExitFail l => Sys2Proof.Machine.execLaneIdleExitFail l s
  | .pauseFrameRx n c pfc vector quanta => Sys2Proof.Machine.execPauseFrameRx n c pfc vector quanta s
  | .xoffRepeat n c prio => Sys2Proof.Machine.execXoffRepeat n c prio s
  | .portDownFlush n => Sys2Proof.Machine.execPortDownFlush n s
  | .frameRx n f => Sys2Proof.Machine.execFrameRx n f s
  | .pipelinePass p src found => Sys2Proof.Machine.execPipelinePass p src found s
  | .flowOpAccept n u u2 => Sys2Proof.Machine.execFlowOpAccept n u u2 s
  | .stackProbeReply n d u => Sys2Proof.Machine.execStackProbeReply n d u s
  | .coldSummaryRead n d ue => Sys2Proof.Machine.execColdSummaryRead n d ue s
  | .turfCandidateRead n d u => Sys2Proof.Machine.execTurfCandidateRead n d u s
  | .promotionGrant n => Sys2Proof.Machine.execPromotionGrant n s
  | .createGrant n => Sys2Proof.Machine.execCreateGrant n s
  | .flowOpExecute n d => Sys2Proof.Machine.execFlowOpExecute n d s
  | .puntTimeout n => Sys2Proof.Machine.execPuntTimeout n s
  | .flowResultArrive p n cycles => Sys2Proof.Machine.execFlowResultArrive p n cycles s
  | .flowResultTimeout k => Sys2Proof.Machine.execFlowResultTimeout k s
  | .cellRequest k d rx clear metaErr => Sys2Proof.Machine.execCellRequest k d rx clear metaErr s
  | .frameTxStart n ns => Sys2Proof.Machine.execFrameTxStart n ns s
  | .frameTxDone n stamp => Sys2Proof.Machine.execFrameTxDone n stamp s
  | .txUnderrun n => Sys2Proof.Machine.execTxUnderrun n s
  | .egrClassDue n c => Sys2Proof.Machine.execEgrClassDue n c s
  | .egrStall n c => Sys2Proof.Machine.execEgrStall n c s
  | .fwdMaintTick p => Sys2Proof.Machine.execFwdMaintTick p s
  | .rehashDone p => Sys2Proof.Machine.execRehashDone p s
  | .rbMaintTick b u => Sys2Proof.Machine.execRbMaintTick b u s
  | .ruleOpDone b => Sys2Proof.Machine.execRuleOpDone b s
  | .ruleWrite r => Sys2Proof.Machine.execRuleWrite r s
  | .ruleInsert r => Sys2Proof.Machine.execRuleInsert r s
  | .ruleDelete r => Sys2Proof.Machine.execRuleDelete r s
  | .ruleRead r => Sys2Proof.Machine.execRuleRead r s
  | .bankClear r => Sys2Proof.Machine.execBankClear r s
  | .rbWidthWrite b code => Sys2Proof.Machine.execRbWidthWrite b code s
  | .rbPairWrite b v => Sys2Proof.Machine.execRbPairWrite b v s
  | .graphLoad r => Sys2Proof.Machine.execGraphLoad r s
  | .graphSwitch r => Sys2Proof.Machine.execGraphSwitch r s
  | .profileLoad r => Sys2Proof.Machine.execProfileLoad r s
  | .profileSwitch r => Sys2Proof.Machine.execProfileSwitch r s
  | .bankmaskCommit r => Sys2Proof.Machine.execBankmaskCommit r s
  | .parseErrRate p => Sys2Proof.Machine.execParseErrRate p s
  | .tableWrite r => Sys2Proof.Machine.execTableWrite r s
  | .tableDelete r => Sys2Proof.Machine.execTableDelete r s
  | .tableRead r => Sys2Proof.Machine.execTableRead r s
  | .l2Flush r => Sys2Proof.Machine.execL2Flush r s
  | .rehash r => Sys2Proof.Machine.execRehash r s
  | .tableOpDone => Sys2Proof.Machine.execTableOpDone s
  | .flowRead r => Sys2Proof.Machine.execFlowRead r s
  | .flowWrite r => Sys2Proof.Machine.execFlowWrite r s
  | .flowModify r => Sys2Proof.Machine.execFlowModify r s
  | .flowDelete r => Sys2Proof.Machine.execFlowDelete r s
  | .flowSweep r => Sys2Proof.Machine.execFlowSweep r s
  | .flowPuntRelease r => Sys2Proof.Machine.execFlowPuntRelease r s
  | .flowRepin r => Sys2Proof.Machine.execFlowRepin r s
  | .turfEvacuate r => Sys2Proof.Machine.execTurfEvacuate r s
  | .sweepTick n => Sys2Proof.Machine.execSweepTick n s
  | .flowSweepDone => Sys2Proof.Machine.execFlowSweepDone s
  | .flowRepinDone => Sys2Proof.Machine.execFlowRepinDone s
  | .turfEvacuateDone => Sys2Proof.Machine.execTurfEvacuateDone s
  | .flowProgLoad r => Sys2Proof.Machine.execFlowProgLoad r s
  | .flowTemplateWrite r => Sys2Proof.Machine.execFlowTemplateWrite r s
  | .flowTemplateRead r => Sys2Proof.Machine.execFlowTemplateRead r s
  | .flowProgRead r => Sys2Proof.Machine.execFlowProgRead r s
  | .poolDefine r => Sys2Proof.Machine.execPoolDefine r s
  | .poolDelete r => Sys2Proof.Machine.execPoolDelete r s
  | .poolRead r => Sys2Proof.Machine.execPoolRead r s
  | .pointerInstall n => Sys2Proof.Machine.execPointerInstall n s
  | .bindAck n => Sys2Proof.Machine.execBindAck n s
  | .pointerDemote n => Sys2Proof.Machine.execPointerDemote n s
  | .demoterTick n => Sys2Proof.Machine.execDemoterTick n s
  | .demotionDone n d fail => Sys2Proof.Machine.execDemotionDone n d fail s
  | .turfClearAck n ok => Sys2Proof.Machine.execTurfClearAck n ok s
  | .hearthScrub n => Sys2Proof.Machine.execHearthScrub n s
  | .summaryRebuild n => Sys2Proof.Machine.execSummaryRebuild n s
  | .transFetchDone n k => Sys2Proof.Machine.execTransFetchDone n k s
  | .wheelExamine n => Sys2Proof.Machine.execWheelExamine n s
  | .expiryOp n => Sys2Proof.Machine.execExpiryOp n s
  | .jnlBlockWrite => Sys2Proof.Machine.execJnlBlockWrite s
  | .captureWrite d => Sys2Proof.Machine.execCaptureWrite d s
  | .jnlConsumedWrite ix p => Sys2Proof.Machine.execJnlConsumedWrite ix p s
  | .jnlRegionWrite ix base size => Sys2Proof.Machine.execJnlRegionWrite ix base size s
  | .exportFill q ue => Sys2Proof.Machine.execExportFill q ue s
  | .exportLingerExpiry q => Sys2Proof.Machine.execExportLingerExpiry q s
  | .timeQuery r => Sys2Proof.Machine.execTimeQuery r s
  | .domainSeed r => Sys2Proof.Machine.execDomainSeed r s
  | .domainRate r => Sys2Proof.Machine.execDomainRate r s
  | .domainReseed r => Sys2Proof.Machine.execDomainReseed r s
  | .domainSelect r => Sys2Proof.Machine.execDomainSelect r s
  | .domainSetsRead r => Sys2Proof.Machine.execDomainSetsRead r s
  | .stampConvert r => Sys2Proof.Machine.execStampConvert r s
  | .tsiRead r => Sys2Proof.Machine.execTsiRead r s
  | .domainSet b => Sys2Proof.Machine.execDomainSet b s
  | .domainRenewal b => Sys2Proof.Machine.execDomainRenewal b s
  | .ppsPulseStart k f => Sys2Proof.Machine.execPpsPulseStart k f s
  | .tsiEdge ix rising f => Sys2Proof.Machine.execTsiEdge ix rising f s
  | .memRefresh c k => Sys2Proof.Machine.execMemRefresh c k s
  | .memRetrain c k drift => Sys2Proof.Machine.execMemRetrain c k drift s
  | .memTempRead c k temp => Sys2Proof.Machine.execMemTempRead c k temp s
  | .memPatrolScrub c k found => Sys2Proof.Machine.execMemPatrolScrub c k found s
  | .memReadComplete c k addr req e => Sys2Proof.Machine.execMemReadComplete c k addr req e s
  | .memAlert c k addr crc req => Sys2Proof.Machine.execMemAlert c k addr crc req s
  | .channelDown r => Sys2Proof.Machine.execChannelDown r s
  | .channelDrainExpiry c k aborted => Sys2Proof.Machine.execChannelDrainExpiry c k aborted s
  | .memErrlogRead r => Sys2Proof.Machine.execMemErrlogRead r s
  | .bootFrameRx n c f data => Sys2Proof.Machine.execBootFrameRx n c f data s
  | .bootDiscover h f => Sys2Proof.Machine.execBootDiscover h f s
  | .arpRequestRx h f => Sys2Proof.Machine.execArpRequestRx h f s
  | .roceRequestRx q psn icrc f => Sys2Proof.Machine.execRoceRequestRx q psn icrc f s
  | .roceAckRx q psn data => Sys2Proof.Machine.execRoceAckRx q psn data s
  | .roceNakRx q psn kind => Sys2Proof.Machine.execRoceNakRx q psn kind s
  | .roceRetryTimeout q => Sys2Proof.Machine.execRoceRetryTimeout q s
  | .mailboxRequest c data => Sys2Proof.Machine.execMailboxRequest c data s
  | .doorbellWrite => Sys2Proof.Machine.execDoorbellWrite s
  | .qpCreate r => Sys2Proof.Machine.execQpCreate r s
  | .qpRestart r => Sys2Proof.Machine.execQpRestart r s
  | .qpDestroy r => Sys2Proof.Machine.execQpDestroy r s
  | .qpQuery r => Sys2Proof.Machine.execQpQuery r s
  | .hregionAdd r => Sys2Proof.Machine.execHregionAdd r s
  | .hregionRemove r => Sys2Proof.Machine.execHregionRemove r s
  | .hregionRead r => Sys2Proof.Machine.execHregionRead r s
  | .queueCreate r => Sys2Proof.Machine.execQueueCreate r s
  | .queueDestroy r => Sys2Proof.Machine.execQueueDestroy r s
  | .queueDisable r => Sys2Proof.Machine.execQueueDisable r s
  | .queueEnable r => Sys2Proof.Machine.execQueueEnable r s
  | .queueQuery r => Sys2Proof.Machine.execQueueQuery r s
  | .queueFetchDone q => Sys2Proof.Machine.execQueueFetchDone q s
  | .jobStart q c data => Sys2Proof.Machine.execJobStart q c data s
  | .jobComplete q => Sys2Proof.Machine.execJobComplete q s
  | .completionAck q => Sys2Proof.Machine.execCompletionAck q s
  | .rxBufferWrite q => Sys2Proof.Machine.execRxBufferWrite q s
  | .eventDeliver => Sys2Proof.Machine.execEventDeliver s
  | .dxDescriptorEnd c data met => Sys2Proof.Machine.execDxDescriptorEnd c data met s
  | .dxCtrlDisable c => Sys2Proof.Machine.execDxCtrlDisable c s
  | .sessionOpen r => Sys2Proof.Machine.execSessionOpen r s
  | .sessionClose r => Sys2Proof.Machine.execSessionClose r s
  | .sessionPing r => Sys2Proof.Machine.execSessionPing r s
  | .sessionQuery r => Sys2Proof.Machine.execSessionQuery r s
  | .commandVersions r => Sys2Proof.Machine.execCommandVersions r s
  | .eventSubscribe r => Sys2Proof.Machine.execEventSubscribe r s
  | .handleQuery r => Sys2Proof.Machine.execHandleQuery r s
  | .handleCancel r => Sys2Proof.Machine.execHandleCancel r s
  | .handleRelease r => Sys2Proof.Machine.execHandleRelease r s
  | .auditRead r => Sys2Proof.Machine.execAuditRead r s
  | .stageWrite r => Sys2Proof.Machine.execStageWrite r s
  | .paramRead r => Sys2Proof.Machine.execParamRead r s
  | .paramWrite r => Sys2Proof.Machine.execParamWrite r s
  | .paramReadBlock r => Sys2Proof.Machine.execParamReadBlock r s
  | .paramWordWrite a mask value => Sys2Proof.Machine.execParamWordWrite a mask value s
  | .latchedLoRead ix c a => Sys2Proof.Machine.execLatchedLoRead ix c a s
  | .rcWordRead ix c a => Sys2Proof.Machine.execRcWordRead ix c a s
  | .entropyRead ix c => Sys2Proof.Machine.execEntropyRead ix c s
  | .flowSeedWrite w v => Sys2Proof.Machine.execFlowSeedWrite w v s
  | .pmonSelectWrite ix w v => Sys2Proof.Machine.execPmonSelectWrite ix w v s
  | .pmonObserverWrite on => Sys2Proof.Machine.execPmonObserverWrite on s
  | .sessionKeepaliveExpiry ix => Sys2Proof.Machine.execSessionKeepaliveExpiry ix s
  | .handleRetentionExpiry ix => Sys2Proof.Machine.execHandleRetentionExpiry ix s
  | .opDone ix => Sys2Proof.Machine.execOpDone ix s
  | .scDispatch d fw => Sys2Proof.Machine.execScDispatch d fw s
  | .scItemEnd core cycles => Sys2Proof.Machine.execScItemEnd core cycles s
  | .scItemAged d => Sys2Proof.Machine.execScItemAged d s
  | .twinLaneLock h => Sys2Proof.Machine.execTwinLaneLock h s
  | .twinLinkUp h order => Sys2Proof.Machine.execTwinLinkUp h order s
  | .twinLinkDown h cause => Sys2Proof.Machine.execTwinLinkDown h cause s
  | .twinFrameRx h b => Sys2Proof.Machine.execTwinFrameRx h b s
  | .twinResendTimeout h => Sys2Proof.Machine.execTwinResendTimeout h s
  | .twinHelloRx h => Sys2Proof.Machine.execTwinHelloRx h s
  | .twinHeartbeatRx h => Sys2Proof.Machine.execTwinHeartbeatRx h s
  | .twinHbMiss => Sys2Proof.Machine.execTwinHbMiss s
  | .twinDeltaApply h => Sys2Proof.Machine.execTwinDeltaApply h s
  | .twinFollowRead n => Sys2Proof.Machine.execTwinFollowRead n s
  | .twinFollowApply h => Sys2Proof.Machine.execTwinFollowApply h s
  | .twinStandbyCleared => Sys2Proof.Machine.execTwinStandbyCleared s
  | .twinBulkWalk d reads => Sys2Proof.Machine.execTwinBulkWalk d reads s
  | .twinBulkApply h => Sys2Proof.Machine.execTwinBulkApply h s
  | .twinCrossRx h => Sys2Proof.Machine.execTwinCrossRx h s
  | .twinControlRx h => Sys2Proof.Machine.execTwinControlRx h s
  | .twinHandoverDrained => Sys2Proof.Machine.execTwinHandoverDrained s
  | .twinHandoverTimeout => Sys2Proof.Machine.execTwinHandoverTimeout s
  | .twinQuery r => Sys2Proof.Machine.execTwinQuery r s
  | .twinHandover r => Sys2Proof.Machine.execTwinHandover r s
  | .twinResync r => Sys2Proof.Machine.execTwinResync r s
  | .twinSplitResolve r => Sys2Proof.Machine.execTwinSplitResolve r s
  | .safetyQuery r => Sys2Proof.Machine.execSafetyQuery r s
  | .safetyLogRead r => Sys2Proof.Machine.execSafetyLogRead r s
  | .safetySelftest r => Sys2Proof.Machine.execSafetySelftest r s
  | .safetySelftestDone missed => Sys2Proof.Machine.execSafetySelftestDone missed s
  | .avsEvaluate coldW coldE okW okE => Sys2Proof.Machine.execAvsEvaluate coldW coldE okW okE s
  | .pmbAlert ok => Sys2Proof.Machine.execPmbAlert ok s
  | .pmbusRetry ok => Sys2Proof.Machine.execPmbusRetry ok s
  | .jtagInstruction ix => Sys2Proof.Machine.execJtagInstruction ix s
  | .rxPauseExpiry n c prio => Sys2Proof.Machine.execRxPauseExpiry n c prio s
  | .ppsPulseEnd k => Sys2Proof.Machine.execPpsPulseEnd k s
  | .supplyRestored rail uv => Sys2Proof.Machine.execSupplyRestored rail uv s
  | .corePllRelock die => Sys2Proof.Machine.execCorePllRelock die s

end Sys2Proof.Machine
end

