-- ==== Sys2Proof/WellFormed.lean ====
section
/-! DEFINITION. Which commands are well formed: the operands that the rules of a row allow.  The meaning of a command is
total and asks for none of this; what a check refuses, no agent of the device can send. -/

namespace Sys2Proof

open Sys2Proof.Machine

/-- The number of instances of each class of units (R574); for SC the 32 cores and the two dispatchers. -/
def classSize : Nat → Nat
  | 2 => 131 | 4 => 160 | 5 => 130 | 6 => 16 | 7 => 4 | 8 => 4 | 9 => 4 | 10 => 65 | 11 => 4 | 12 => 4 | 13 => 17
  | 14 => 129 | 15 => 17 | 16 => 2 | 17 => 130 | 18 => 1024 | 19 => 257 | 20 => 32 | 21 => 34 | 22 => 34 | 23 => 3 | 24 => 10
  | c => if c < 27 then 1 else 0

/-- The unit exists. -/
def UnitId.wf (u : UnitId) : Bool := decide (u.inst < classSize u.cls)

/-- Largest payload of a request over a route: 4,096 bytes with its header, and 4,128 for a job (R476). -/
def Route.limit : Route → Nat
  | .bootstrap | .mailbox => 4064
  | .queue => 4096

/-- A request that a transport can have carried: within a tick of 1,350 cycles, no longer than its route allows, with the
source that an audit record has room for, and on the port of a bootstrap frame (R31, R476, R499). -/
def Req.wf (r : Req) : Bool :=
  decide (r.cycle < 1350) && decide (r.payload.length ≤ r.route.limit) && decide (r.source.length ≤ 16) &&
  decide (r.port < 130) && decide ((r.slot.getD 0) < 64)

/-- Counts that one tick of 1,350 cycles can hold, of two lanes where they are of lanes (R522 to R524). -/
def CycleCount.wf : CycleCount → Bool
  | .issueHold _ n | .acceptStopped _ n => decide (n ≤ 1350)
  | .laneIdle _ n => decide (n ≤ 2700)
  | .prbsErrors _ _ => true
  | .adapted _ _ _ ffe _ _ => decide (ffe.length ≤ 12)

/-- Bytes of a record that a read finds wrong lie in the record. -/
def Machine.ReadUpset.wf (u : ReadUpset) : Bool := u.bytes.all (fun e => decide (e.1 < 128))

/-- An upset strikes a slice and a tier that exist. -/
def TierUpset.wf (v : TierUpset) : Bool := decide (v.slice < 16 ∧ v.tier < 4) && v.u.wf

/-- What a tick strobe can find: counts within a tick, ports that exist, and upsets and failing writes of tiers that exist. -/
def TickFound.wf (f : TickFound) : Bool :=
  f.occ.all (fun o => decide (o.above0 ≤ 1350 ∧ o.above1 ≤ 1350)) && f.cycles.all CycleCount.wf &&
  f.receiving.all (· < 130) && f.upsets.all TierUpset.wf &&
  f.failing.all (fun p => decide (p.1 < 16 ∧ p.2.1 < 3))

/-- What a step of Kindling can find: units that exist, no channel twice, and a frequency code of R377. -/
def KindlingFound.wf (f : KindlingFound) : Bool :=
  f.failed.all UnitId.wf && f.channels.all (fun c => decide (c.chan < 16)) &&
  decide ((f.channels.map (·.chan)).Nodup) && f.avsFail.all (· < 2) && decide (f.tref < 8)

/-- A front port of a pipeline's pass lies at that pipeline (R13, R14). -/
def Machine.PassSource.wf (p : Fin 4) : PassSource → Bool
  | .front n => decide (n.val / 32 = p.val)
  | .service | .recirc | .generated _ => true

/-- Rows of a bank. -/
def Machine.BankUpset.wf (u : BankUpset) : Bool :=
  u.rows.all (fun e => decide (e.1 < 2048)) && u.shadow.all (· < 2048) && u.stuck.all (· < 2048)

/-- A RoCE request carries at most 2^31 bytes. -/
def Machine.RoceReq.wf : RoceReq → Bool
  | .write _ _ b _ => decide (b.length ≤ 2 ^ 31)
  | .read _ _ n => decide (n ≤ 2 ^ 31)
  | .send b => decide (b.length ≤ 2 ^ 31)

/-- The channel exists: 16 channels of DDR5, 128 pseudo-channels of HBM (R401, R404). -/
def chanOk (ddr : Bool) (k : Fin 128) : Bool := !ddr || decide (k.val < 16)

/-- Is the command well formed? -/
def Instr.wf : Instr → Bool
  | .resetAssert _ => true
  | .resetRelease _ _ => true
  | .kindlingStepDone _ f => f.wf
  | .trefLockRetry f => f.wf
  | .tickBoundary f => f.wf
  | .tickOverrun u => u.wf
  | .createExpired _ => true
  | .holdExpired _ => true
  | .zaluaTickChecks f => decide (f.readings.length ≤ 24)
  | .frcCheckFail _ _ => true
  | .trefAlarm _ _ => true
  | .corePllUnlock _ => true
  | .supplyFault _ _ => true
  | .lockstepMismatch => true
  | .islandSilent _ => true
  | .dieLinkFail _ => true
  | .safeReqNLow => true
  | .safeReqNHigh => true
  | .modeQuery r => r.wf
  | .modeSet r => r.wf
  | .resume r => r.wf
  | .safeEnter r => r.wf
  | .unitOut r => r.wf
  | .unitRejoin r => r.wf
  | .testClearDone => true
  | .rejoinComplete u _ => u.wf
  | .calRead r => r.wf
  | .calWrite r => r.wf
  | .calRun r => r.wf
  | .calRunDone values => decide (values.length ≤ 4864)
  | .calStored _ => true
  | .fwStage r => r.wf
  | .fwQuery r => r.wf
  | .fwStaged => true
  | .portEnable _ => true
  | .portDisable _ _ => true
  | .pgModeWrite g _ rx => rx.all (fun n => n / 8 == g.val)
  | .anResolved _ _ _ => true
  | .anNoCommon _ _ => true
  | .trainDone d => d.asked.all (fun q => decide (q.lane < 8) && decide (q.tap < 4))
  | .trainTimeout _ => true
  | .linkUp _ rx => decide (rx.length ≤ 8)
  | .alignTimeout _ => true
  | .linkDown _ _ _ => true
  | .remoteFault _ => true
  | .remoteFaultClear _ => true
  | .fecDegraded _ _ _ _ => true
  | .laneIdleExitFail _ => true
  | .pauseFrameRx _ _ pfc _ quanta => decide (quanta.length = if pfc then 8 else 1)
  | .xoffRepeat _ _ _ => true
  | .portDownFlush _ => true
  | .frameRx _ _ => true
  | .pipelinePass p src found => src.wf p && decide (found.dead.all (· < 64))
  | .flowOpAccept _ u u2 => u.wf && u2.wf
  | .stackProbeReply _ _ u => u.wf
  | .coldSummaryRead _ _ _ => true
  | .turfCandidateRead _ _ u => u.wf
  | .promotionGrant _ => true
  | .createGrant _ => true
  | .flowOpExecute _ _ => true
  | .puntTimeout _ => true
  | .flowResultArrive _ _ _ => true
  | .flowResultTimeout _ => true
  | .cellRequest _ _ _ _ _ => true
  | .frameTxStart _ _ => true
  | .frameTxDone _ _ => true
  | .txUnderrun _ => true
  | .egrClassDue _ _ => true
  | .egrStall _ _ => true
  | .fwdMaintTick _ => true
  | .rehashDone _ => true
  | .rbMaintTick _ u => u.wf
  | .ruleOpDone _ => true
  | .ruleWrite r => r.wf
  | .ruleInsert r => r.wf
  | .ruleDelete r => r.wf
  | .ruleRead r => r.wf
  | .bankClear r => r.wf
  | .rbWidthWrite _ _ => true
  | .rbPairWrite _ _ => true
  | .graphLoad r => r.wf
  | .graphSwitch r => r.wf
  | .profileLoad r => r.wf
  | .profileSwitch r => r.wf
  | .bankmaskCommit r => r.wf
  | .parseErrRate _ => true
  | .tableWrite r => r.wf
  | .tableDelete r => r.wf
  | .tableRead r => r.wf
  | .l2Flush r => r.wf
  | .rehash r => r.wf
  | .tableOpDone => true
  | .flowRead r => r.wf
  | .flowWrite r => r.wf
  | .flowModify r => r.wf
  | .flowDelete r => r.wf
  | .flowSweep r => r.wf
  | .flowPuntRelease r => r.wf
  | .flowRepin r => r.wf
  | .turfEvacuate r => r.wf
  | .sweepTick _ => true
  | .flowSweepDone => true
  | .flowRepinDone => true
  | .turfEvacuateDone => true
  | .flowProgLoad r => r.wf
  | .flowTemplateWrite r => r.wf
  | .flowTemplateRead r => r.wf
  | .flowProgRead r => r.wf
  | .poolDefine r => r.wf
  | .poolDelete r => r.wf
  | .poolRead r => r.wf
  | .pointerInstall _ => true
  | .bindAck _ => true
  | .pointerDemote _ => true
  | .demoterTick _ => true
  | .demotionDone _ _ _ => true
  | .turfClearAck _ _ => true
  | .hearthScrub _ => true
  | .summaryRebuild _ => true
  | .transFetchDone _ _ => true
  | .wheelExamine _ => true
  | .expiryOp _ => true
  | .jnlBlockWrite => true
  | .captureWrite _ => true
  | .jnlConsumedWrite _ _ => true
  | .jnlRegionWrite _ _ _ => true
  | .exportFill _ _ => true
  | .exportLingerExpiry _ => true
  | .timeQuery r => r.wf
  | .domainSeed r => r.wf
  | .domainRate r => r.wf
  | .domainReseed r => r.wf
  | .domainSelect r => r.wf
  | .domainSetsRead r => r.wf
  | .stampConvert r => r.wf
  | .tsiRead r => r.wf
  | .domainSet _ => true
  | .domainRenewal _ => true
  | .ppsPulseStart _ _ => true
  | .tsiEdge _ _ _ => true
  | .memRefresh c k => chanOk c k
  | .memRetrain c k _ => chanOk c k
  | .memTempRead c k _ => chanOk c k
  | .memPatrolScrub c k _ => chanOk c k
  | .memReadComplete c k _ _ _ => chanOk c k
  | .memAlert c k _ _ _ => chanOk c k
  | .channelDown r => r.wf
  | .channelDrainExpiry c k _ => chanOk c k
  | .memErrlogRead r => r.wf
  | .bootFrameRx _ _ f _ => decide (60 ≤ f.length)
  | .bootDiscover _ f => decide (60 ≤ f.length)
  | .arpRequestRx _ f => decide (60 ≤ f.length)
  | .roceRequestRx _ _ _ f => f.wf
  | .roceAckRx _ _ _ => true
  | .roceNakRx _ _ _ => true
  | .roceRetryTimeout _ => true
  | .mailboxRequest _ _ => true
  | .doorbellWrite => true
  | .qpCreate r => r.wf
  | .qpRestart r => r.wf
  | .qpDestroy r => r.wf
  | .qpQuery r => r.wf
  | .hregionAdd r => r.wf
  | .hregionRemove r => r.wf
  | .hregionRead r => r.wf
  | .queueCreate r => r.wf
  | .queueDestroy r => r.wf
  | .queueDisable r => r.wf
  | .queueEnable r => r.wf
  | .queueQuery r => r.wf
  | .queueFetchDone _ => true
  | .jobStart _ _ _ => true
  | .jobComplete _ => true
  | .completionAck _ => true
  | .rxBufferWrite _ => true
  | .eventDeliver => true
  | .dxDescriptorEnd _ _ _ => true
  | .dxCtrlDisable _ => true
  | .sessionOpen r => r.wf
  | .sessionClose r => r.wf
  | .sessionPing r => r.wf
  | .sessionQuery r => r.wf
  | .commandVersions r => r.wf
  | .eventSubscribe r => r.wf
  | .handleQuery r => r.wf
  | .handleCancel r => r.wf
  | .handleRelease r => r.wf
  | .auditRead r => r.wf
  | .stageWrite r => r.wf
  | .paramRead r => r.wf
  | .paramWrite r => r.wf
  | .paramReadBlock r => r.wf
  | .paramWordWrite a _ _ => decide (a.toNat / 0x1000000 < 27)
  | .latchedLoRead _ _ a => decide (a.toNat / 0x1000000 < 27)
  | .rcWordRead _ _ a => decide (a.toNat / 0x1000000 < 27)
  | .entropyRead _ _ => true
  | .flowSeedWrite _ _ => true
  | .pmonSelectWrite _ _ _ => true
  | .pmonObserverWrite _ => true
  | .sessionKeepaliveExpiry _ => true
  | .handleRetentionExpiry _ => true
  | .opDone _ => true
  | .scDispatch _ fw => (match fw with | some x => decide (x.act < 4 ∧ x.baseNs < 1000000000 ∧ x.baseFrac < 65536) | none => true)
  | .scItemEnd _ _ => true
  | .scItemAged _ => true
  | .twinLaneLock _ => true
  | .twinLinkUp _ _ => true
  | .twinLinkDown _ _ => true
  | .twinFrameRx _ _ => true
  | .twinResendTimeout _ => true
  | .twinHelloRx _ => true
  | .twinHeartbeatRx _ => true
  | .twinHbMiss => true
  | .twinDeltaApply _ => true
  | .twinFollowRead _ => true
  | .twinFollowApply _ => true
  | .twinStandbyCleared => true
  | .twinBulkWalk _ _ => true
  | .twinBulkApply _ => true
  | .twinCrossRx _ => true
  | .twinControlRx _ => true
  | .twinHandoverDrained => true
  | .twinHandoverTimeout => true
  | .twinQuery r => r.wf
  | .twinHandover r => r.wf
  | .twinResync r => r.wf
  | .twinSplitResolve r => r.wf
  | .safetyQuery r => r.wf
  | .safetyLogRead r => r.wf
  | .safetySelftest r => r.wf
  | .safetySelftestDone _ => true
  | .avsEvaluate _ _ _ _ => true
  | .pmbAlert _ => true
  | .pmbusRetry _ => true
  | .jtagInstruction _ => true
  | .rxPauseExpiry _ _ _ => true
  | .ppsPulseEnd _ => true
  | .supplyRestored _ _ => true
  | .corePllRelock _ => true

end Sys2Proof
end

