-- ==== Sys2Proof/Safety.lean ====
section
/-! DEFINITION. The terms in which claims about the device are stated: when a request is executed, what answering it may
change, and the invariants of the whole machine. -/

namespace Sys2Proof.Machine

/-! ### Requests -/

/-- A request that will be executed: the device is out of RESET with its management complex in service, a bootstrap request
comes in its sequence, and the checks 3 to 8 of R478 pass (R69, R72, R429, R478). -/
structure Runs (op : Nat) (r : Req) (s : State) : Prop where
  awake : s.sys.mode ≠ .reset
  complex : inService s 26 0 = true
  inOrder : bootSeq op r s = .run
  checked : refusal op r s = none

/-- What carrying an answer may change, and nothing else: the protocol's own state, the host interface, the counters, free values
drawn, and the frames that wait at a pipeline to be generated, where an answer joins at the end (R14, R427).  The settings stand. -/
structure OnlyAnswers (s t : State) : Prop where
  pending : t.pending = s.pending
  sys : t.sys = s.sys
  tick : t.tick = s.tick
  regs : t.prm.regs = s.prm.regs
  cal : t.cal = s.cal
  flash : t.flash = s.flash
  zal : t.zal = s.zal
  power : t.power = s.power
  ports : t.ports = s.ports
  path : t.path = { s.path with gens := t.path.gens }
  gens : ∀ p, tgetD (fun _ => []) s.path.gens p <+: tgetD (fun _ => []) t.path.gens p
  svc : t.svc = s.svc
  buf : t.buf = s.buf
  tu : t.tu = s.tu
  jnl : t.jnl = s.jnl
  pmon : t.pmon = s.pmon
  twin : t.twin = s.twin
  flow : t.flow = s.flow
  mem : t.mem = s.mem

/-- Exactly one response has been sent between two states: to this request, with this status and payload. -/
def Answered (op : Nat) (r : Req) (st : Half) (payload : List Byte) (s t : State) : Prop :=
  ∃ p : Response, t.toune.responses = s.toune.responses ++ [p] ∧ p.opcode = op ∧ p.session = r.session ∧
    p.sequence = r.sequence ∧ p.status = st ∧ p.payload = payload

/-- Exactly one response has been sent, which reports a long operation started under a handle (R488). -/
def AnsweredAccepted (op : Nat) (r : Req) (h : Word) (s t : State) : Prop :=
  ∃ p : Response, t.toune.responses = s.toune.responses ++ [p] ∧ p.opcode = op ∧ p.session = r.session ∧
    p.sequence = r.sequence ∧ p.status = St.accepted ∧ p.handle = h

/-- The handle that the next long operation takes: the lowest free index in its next generation (R488). -/
def newHandle (s : State) : Option Word :=
  (freeHandle s).map (fun i => BitVec.ofNat 32 (0x1000000 * (nextGen (handleAt s i).gen).toNat + i))

/-- A long operation has been started under a handle: the request is answered with it, and the handle is running (R488,
R489). -/
structure Started (op : Nat) (r : Req) (h : Word) (s t : State) : Prop where
  answer : AnsweredAccepted op r h s t
  running : (handleAt t (handleIdx h)).st = .running
  opcode : (handleAt t (handleIdx h)).opcode = op
  session : (handleAt t (handleIdx h)).session = r.session

/-- A long operation has ended, and its completion event is still to be raised (R490). -/
def Ended (h : Word) (st : Half) (result : List Byte) (t : State) : Prop :=
  (handleAt t (handleIdx h)).ended = some (st, result)

/-- A request waits for the boundary of a change, behind the changes accepted before it: nothing is sent yet, and in `sys`
nothing else changes (R34, R35, R480). -/
def Waits (op : Nat) (r : Req) (c : Change) (s t : State) : Prop :=
  t.toune.responses = s.toune.responses ∧ t.toune.events = s.toune.events ∧
  ∃ p : Response, p.opcode = op ∧ p.session = r.session ∧ p.sequence = r.sequence ∧ p.status = St.ok ∧
    t.sys = { s.sys with
      deferred := s.sys.deferred ++ [{ due := dueTick s r.cycle, change := c, resp := some p }] }

/-- A mode transition waits for its boundary, with its request, behind the changes accepted before it (R34, R60, R62). -/
def WaitsMode (op : Nat) (r : Req) (m : Mode) (s t : State) : Prop :=
  t.toune.responses = s.toune.responses ∧
  ∃ p : Response, p.opcode = op ∧ p.session = r.session ∧ p.sequence = r.sequence ∧ p.status = St.ok ∧
    t.sys = { s.sys with
      pendingMode := some { target := m, due := dueTick s r.cycle, resp := some p }
      deferred := s.sys.deferred ++ [{ due := dueTick s r.cycle, change := .modeChange }] }

/-- The events raised between two states are these, in this order, each with its code and its detail (R493). -/
def Raised (evs : List (Nat × List Byte)) (s t : State) : Prop :=
  ∃ l : List Event, t.toune.events = s.toune.events ++ l ∧ l.map (fun e => (e.code, e.detail)) = evs

/-- The latest event raised has this code and this detail (R493). -/
def LastRaised (code : Nat) (detail : List Byte) (t : State) : Prop :=
  t.toune.events.getLast?.map (fun e => (e.code, e.detail)) = some (code, detail)

/-- Counter `i` of the 48-bit counters of an instance has counted `n` more, up to its largest value (R105). -/
def Counted (cls inst i n : Nat) (s t : State) : Prop :=
  counter t (paddr cls inst (0x100 + 2 * i)) = min (counter s (paddr cls inst (0x100 + 2 * i)) + n) (2 ^ 48 - 1)

/-- Every port but one is as it was. -/
def OtherPorts (n : Nat) (s t : State) : Prop := ∀ m, m ≠ n → portAt t m = portAt s m

/-- A fault has been recorded between two states (R558, R563, R571): its cause is set, FAULT_N is low, the log has one entry
more, of the present tick, with this cause, unit and detail, and the cause asks for SAFE where R559 says so and the device is
not in SAFE already. -/
def Recorded (c cls inst detail : Nat) (s t : State) : Prop :=
  causeSet t c = true ∧ t.zal.faultN = false ∧ t.zal.logNext = s.zal.logNext + 1 ∧
  t.zal.toSafe = (if (causeSafe c).isSome ∧ s.sys.mode ≠ .safe then s.zal.toSafe ++ [c] else s.zal.toSafe) ∧
  ∃ e : FaultEntry, t.zal.log = (s.zal.log ++ [e]).drop (s.zal.log.length + 1 - 256) ∧ e.cause = c ∧ e.cls = cls ∧
    e.inst = inst ∧ e.detail = detail ∧ e.tick = s.tick.count

/-- One rule operation more stands last in the queue of bank `b`, and nothing else of any bank has changed (R164). -/
def RuleQueued (b : Nat) (o : RuleOp) (s t : State) : Prop :=
  bankAt t b = { bankAt s b with queue := (bankAt s b).queue ++ [o] } ∧ ∀ k, k ≠ b → bankAt t k = bankAt s k

/-- One table command more waits for the copies of a mask, behind those accepted before it, and no copy has changed (R194,
R202). -/
def TableQueued (op : Nat) (h : Word) (table m : Nat) (items : List (List Byte)) (s t : State) : Prop :=
  ∃ o : TableOp, t.path = { s.path with tableOps := s.path.tableOps ++ [o], gens := t.path.gens } ∧ o.handle = h ∧ o.opcode = op ∧
    o.table = table ∧ o.items = items ∧ o.waiting = (pipesOf m).map (fun p => (p, 0)) ∧ o.status = []

/-- Every copy of the slice's Hearth and Stack can be read, and no write is going to fail (R293, R296). -/
def Readable (x : Slice) : Prop :=
  x.failing = [] ∧ (∀ v ∈ x.hearth, readCopy x 0 v.1 {} v.2.entry ≠ none) ∧
  ∀ e ∈ x.stack, readCopy x 1 e.1 {} e.2 ≠ none

/-! ### Frames -/

/-- The parts of the state, and three things inside them: the mode (in `sys`), the sets of both domains (in `tu`) and the
settings (in `prm`, which holds the counters too). -/
inductive StatePart where
  | pending | free | sys | tick | toune | prm | cal | flash | zal | power | ports | path
  | svc | buf | tu | jnl | pmon | twin | flow | host | mem | mode | sets | settings
  deriving DecidableEq, Repr

/-- A part is the same in two states. -/
def StatePart.Same (s t : State) : StatePart → Prop
  | .pending => t.pending = s.pending
  | .free => t.free = s.free
  | .sys => t.sys = s.sys
  | .tick => t.tick = s.tick
  | .toune => t.toune = s.toune
  | .prm => t.prm = s.prm
  | .cal => t.cal = s.cal
  | .flash => t.flash = s.flash
  | .zal => t.zal = s.zal
  | .power => t.power = s.power
  | .ports => t.ports = s.ports
  | .path => t.path = s.path
  | .svc => t.svc = s.svc
  | .buf => t.buf = s.buf
  | .tu => t.tu = s.tu
  | .jnl => t.jnl = s.jnl
  | .pmon => t.pmon = s.pmon
  | .twin => t.twin = s.twin
  | .flow => t.flow = s.flow
  | .host => t.host = s.host
  | .mem => t.mem = s.mem
  | .mode => t.sys.mode = s.sys.mode
  | .sets => t.tu.domA.sets = s.tu.domA.sets ∧ t.tu.domB.sets = s.tu.domB.sets
  | .settings => t.prm.regs = s.prm.regs

/-- The parts that a command may change; it leaves every other part as it is. -/
def touches : Instr → List StatePart
  | .resetAssert _ =>
    [.free, .sys, .tick, .toune, .prm, .cal, .flash, .zal, .power, .ports, .path, .svc, .buf, .tu, .jnl, .pmon, .twin,
     .flow, .host, .mem, .mode, .sets, .settings]
  | .resetRelease _ _ => [.sys, .toune, .zal, .mode]
  | .kindlingStepDone _ _ =>
    [.free, .sys, .tick, .toune, .prm, .cal, .zal, .power, .ports, .path, .buf, .tu, .jnl, .pmon, .twin, .host, .mem,
     .settings]
  | .trefLockRetry _ => [.sys, .tick, .toune, .zal, .power, .ports, .tu, .twin]
  | .tickBoundary _ =>
    [.free, .sys, .tick, .toune, .prm, .cal, .zal, .ports, .path, .svc, .buf, .tu, .jnl, .pmon, .twin, .flow, .host,
     .mem, .mode, .settings]
  | .tickOverrun _ => [.sys, .tick, .toune, .prm, .zal, .settings]
  | .createExpired _ | .holdExpired _ | .flowOpAccept _ _ _ | .stackProbeReply _ _ _ | .coldSummaryRead _ _ _
  | .turfCandidateRead _ _ _ | .promotionGrant _ | .createGrant _ | .flowOpExecute _ _ | .flowRead _
  | .flowWrite _ | .flowModify _ | .flowDelete _ | .flowPuntRelease _ | .sweepTick _ | .pointerInstall _
  | .bindAck _ | .demotionDone _ _ _ | .expiryOp _ | .twinDeltaApply _ | .twinFollowRead _ | .twinFollowApply _
  | .twinStandbyCleared | .twinBulkApply _ => [.free, .sys, .toune, .prm, .zal, .path, .svc, .jnl, .twin, .flow, .host]
  | .zaluaTickChecks _ => [.sys, .tick, .toune, .zal, .tu]
  | .frcCheckFail _ _ | .trefAlarm _ _ => [.sys, .toune, .zal, .tu]
  | .corePllUnlock _ | .supplyFault _ _ | .lockstepMismatch | .dieLinkFail _ | .safeReqNLow => [.sys, .toune, .zal]
  | .islandSilent _ | .cellRequest _ _ _ _ _ => [.free, .sys, .toune, .prm, .zal, .ports, .path, .buf, .jnl, .pmon]
  | .safeReqNHigh | .supplyRestored _ _ | .corePllRelock _ => [.zal]
  | .modeQuery _ | .calRead _ | .fwQuery _ | .ruleWrite _ | .ruleInsert _ | .ruleDelete _ | .ruleRead _
  | .bankClear _ | .graphLoad _ | .profileLoad _ | .tableWrite _ | .tableDelete _ | .tableRead _ | .l2Flush _
  | .flowTemplateRead _ | .flowProgRead _ | .poolRead _ | .timeQuery _ | .domainSetsRead _ | .stampConvert _
  | .qpQuery _ | .hregionAdd _ | .hregionRead _ | .queueQuery _ | .sessionOpen _ | .sessionClose _
  | .sessionPing _ | .sessionQuery _ | .commandVersions _ | .eventSubscribe _ | .handleQuery _
  | .handleCancel _ | .handleRelease _ | .auditRead _ | .stageWrite _ | .paramRead _ | .paramReadBlock _
  | .twinQuery _ | .safetyQuery _ | .safetyLogRead _ => [.free, .toune, .prm, .path, .host]
  | .modeSet _ | .resume _ | .unitOut _ | .unitRejoin _ | .graphSwitch _ | .profileSwitch _ | .bankmaskCommit _
  | .channelDown _ | .qpCreate _ | .qpRestart _ | .twinHandover _ => [.free, .sys, .toune, .prm, .path, .host]
  | .safeEnter _ => [.free, .sys, .toune, .prm, .zal, .path, .host]
  | .testClearDone => [.free, .sys, .toune, .prm, .zal, .path, .svc, .jnl, .twin, .flow, .host, .settings]
  | .rejoinComplete _ _ => [.free, .sys, .toune, .prm, .cal, .zal, .path, .svc, .tu, .jnl, .twin, .flow]
  | .calWrite _ => [.free, .sys, .toune, .prm, .cal, .path, .host]
  | .calRun _ => [.free, .toune, .prm, .cal, .path, .host]
  | .calRunDone _ => [.sys, .toune, .cal]
  | .calStored _ => [.toune, .cal, .flash]
  | .fwStage _ => [.free, .sys, .toune, .prm, .flash, .path, .host]
  | .fwStaged => [.sys, .toune, .flash]
  | .portEnable _ => [.prm, .ports, .settings]
  | .portDisable _ _ | .pgModeWrite _ _ _ => [.free, .sys, .toune, .prm, .ports, .path, .buf, .jnl, .pmon, .settings]
  | .anResolved _ _ _ | .trainDone _ | .alignTimeout _ | .rxPauseExpiry _ _ _ => [.ports]
  | .anNoCommon _ _ => [.toune, .ports]
  | .trainTimeout _ | .linkDown _ _ _ | .remoteFault _ => [.toune, .prm, .ports]
  | .linkUp _ _ => [.free, .toune, .prm, .ports, .buf]
  | .remoteFaultClear _ => [.free, .toune, .prm, .ports]
  | .fecDegraded _ _ _ _ | .sessionKeepaliveExpiry _ => [.toune, .prm]
  | .laneIdleExitFail _ | .twinLinkDown _ _ | .twinResendTimeout _ => [.toune, .prm, .ports, .twin]
  | .pauseFrameRx _ _ _ _ _ => [.prm, .ports]
  | .xoffRepeat _ _ _ => [.free, .prm, .ports]
  | .portDownFlush _ | .frameTxDone _ _ | .txUnderrun _ => [.free, .sys, .toune, .prm, .ports, .path, .buf, .jnl, .pmon]
  | .frameRx _ _ => [.sys, .toune, .prm, .ports]
  | .pipelinePass _ _ _ => [.free, .sys, .toune, .prm, .zal, .ports, .path, .svc, .jnl, .pmon, .twin, .flow]
  | .puntTimeout _ | .turfClearAck _ _ => [.sys, .toune, .prm, .flow]
  | .flowResultArrive _ _ _ => [.free, .sys, .toune, .prm, .ports, .path, .jnl, .pmon, .flow]
  | .flowResultTimeout _ => [.free, .sys, .toune, .prm, .zal, .ports, .path, .jnl, .pmon]
  | .frameTxStart _ _ | .egrStall _ _ => [.toune, .prm, .buf]
  | .egrClassDue _ _ => [.buf]
  | .fwdMaintTick _ => [.sys, .toune, .prm, .path, .svc]
  | .rehashDone _ | .ruleOpDone _ | .tableOpDone => [.toune, .path]
  | .rbMaintTick _ _ => [.sys, .toune, .prm, .zal, .path]
  | .rbWidthWrite _ _ => [.prm, .path, .settings]
  | .rbPairWrite _ _ => [.sys, .toune, .prm, .path, .settings]
  | .parseErrRate _ => [.sys, .toune]
  | .rehash _ => [.free, .sys, .toune, .prm, .path, .svc, .host]
  | .flowSweep _ | .flowRepin _ => [.free, .sys, .toune, .prm, .path, .svc, .flow, .host]
  | .turfEvacuate _ => [.free, .toune, .prm, .path, .flow, .host]
  | .flowSweepDone | .flowRepinDone | .turfEvacuateDone => [.toune, .flow]
  | .flowProgLoad _ | .flowTemplateWrite _ => [.free, .sys, .toune, .prm, .path, .twin, .host]
  | .poolDefine _ | .poolDelete _ => [.free, .toune, .prm, .path, .twin, .flow, .host]
  | .pointerDemote _ | .demoterTick _ | .hearthScrub _ => [.sys, .toune, .prm, .zal, .jnl, .twin, .flow]
  | .summaryRebuild _ => [.prm, .jnl, .flow]
  | .transFetchDone _ _ => [.flow]
  | .wheelExamine _ => [.sys, .toune, .prm, .svc, .jnl, .flow]
  | .jnlBlockWrite | .captureWrite _ => [.toune, .prm, .jnl]
  | .jnlConsumedWrite _ _ => [.toune, .jnl]
  | .jnlRegionWrite _ _ _ => [.prm, .jnl, .settings]
  | .exportFill _ _ => [.prm, .jnl, .host]
  | .exportLingerExpiry _ => [.host]
  | .domainSeed _ | .domainRate _ | .domainReseed _ | .tsiRead _ => [.free, .toune, .prm, .path, .tu, .host]
  | .domainSelect _ => [.free, .sys, .toune, .prm, .path, .tu, .host]
  | .domainSet _ => [.free, .toune, .prm, .path, .tu, .jnl, .host, .sets]
  | .domainRenewal _ => [.toune, .prm, .tu, .jnl, .sets]
  | .ppsPulseStart _ _ => [.toune, .tu]
  | .tsiEdge _ _ _ => [.sys, .toune, .prm, .svc, .tu]
  | .memRefresh _ _ => [.mem]
  | .memRetrain _ _ _ | .memTempRead _ _ _ => [.sys, .toune, .zal, .mem]
  | .memPatrolScrub _ _ _ | .memReadComplete _ _ _ _ _ => [.sys, .toune, .prm, .mem]
  | .memAlert _ _ _ _ _ => [.sys, .toune, .prm, .zal, .mem]
  | .channelDrainExpiry _ _ _ => [.toune, .prm, .jnl, .flow, .mem]
  | .memErrlogRead _ => [.free, .toune, .prm, .path, .host, .mem]
  | .bootFrameRx _ _ _ _ | .mailboxRequest _ _ | .jobStart _ _ _ =>
    [.free, .sys, .toune, .prm, .cal, .flash, .zal, .ports, .path, .svc, .buf, .tu, .jnl, .pmon, .twin, .flow, .host,
     .mem, .settings]
  | .bootDiscover _ _ => [.free, .prm, .path, .host]
  | .arpRequestRx _ _ | .roceAckRx _ _ _ => [.prm, .host]
  | .roceRequestRx _ _ _ _ => [.free, .sys, .toune, .prm, .ports, .path, .buf, .jnl, .pmon, .flow, .host]
  | .roceNakRx _ _ _ | .roceRetryTimeout _ | .doorbellWrite | .qpDestroy _ | .hregionRemove _ | .queueDisable _
  | .queueEnable _ | .queueFetchDone _ | .jobComplete _ | .completionAck _ | .rxBufferWrite _ | .eventDeliver =>
    [.free, .sys, .toune, .prm, .ports, .path, .buf, .jnl, .pmon, .host]
  | .queueCreate _ | .queueDestroy _ => [.free, .toune, .prm, .path, .jnl, .host]
  | .dxDescriptorEnd _ _ _ => [.free, .sys, .toune, .prm, .jnl, .flow, .host]
  | .dxCtrlDisable _ => [.free, .toune, .prm, .jnl, .flow, .host, .settings]
  | .paramWrite _ => [.free, .sys, .toune, .prm, .zal, .path, .jnl, .flow, .host, .settings]
  | .paramWordWrite _ _ _ =>
    [.free, .sys, .toune, .prm, .zal, .ports, .path, .buf, .jnl, .pmon, .twin, .flow, .host, .settings]
  | .latchedLoRead _ _ _ | .rcWordRead _ _ _ => [.free, .toune, .prm]
  | .entropyRead _ _ => [.free, .prm]
  | .flowSeedWrite _ _ => [.toune, .prm, .settings]
  | .pmonSelectWrite _ _ _ => [.prm, .pmon, .settings]
  | .pmonObserverWrite _ => [.prm, .settings]
  | .handleRetentionExpiry _ | .opDone _ => [.toune]
  | .scDispatch _ _ => [.sys, .toune, .prm, .path, .svc, .tu]
  | .scItemEnd _ _ => [.svc]
  | .scItemAged _ => [.sys, .toune, .prm, .svc]
  | .twinLaneLock _ => [.ports, .twin]
  | .twinLinkUp _ _ | .twinHelloRx _ | .twinHeartbeatRx _ | .twinHandoverTimeout => [.toune, .twin]
  | .twinFrameRx _ _ => [.free, .toune, .prm, .ports, .path, .twin]
  | .twinHbMiss => [.sys, .toune, .zal, .twin]
  | .twinBulkWalk _ _ => [.prm, .jnl, .twin, .flow]
  | .twinCrossRx _ => [.prm, .path, .twin]
  | .twinControlRx _ => [.sys, .twin]
  | .twinHandoverDrained => [.twin]
  | .twinResync _ | .twinSplitResolve _ => [.free, .toune, .prm, .path, .twin, .host]
  | .safetySelftest _ => [.free, .toune, .prm, .zal, .path, .host]
  | .safetySelftestDone _ => [.toune, .zal]
  | .avsEvaluate _ _ _ _ | .pmbAlert _ | .pmbusRetry _ => [.power]
  | .jtagInstruction _ => [.sys]
  | .ppsPulseEnd _ => [.tu]

/-! ### Invariants -/

/-- The tick count and the FRC latched at its strobe agree: tick `n` begins at FRC `n` × 65,536,000 (R30, R32, R33). -/
def TickOk (s : State) : Prop := s.tick.startFrc = BitVec.ofNat 64 (65536000 * s.tick.count.toNat)

/-- No domain keeps more than 16 sets (R384). -/
def SetsOk (s : State) : Prop := s.tu.domA.sets.length ≤ 16 ∧ s.tu.domB.sets.length ≤ 16

/-- The cells of both windows have their canonical form. -/
def WinOk (s : State) : Prop := Memory.wf s.host.stackWin = true ∧ Memory.wf s.host.peatWin = true

end Sys2Proof.Machine
end

