-- ==== Sys2Proof/Certificates/Slice0/Obligations.lean ====
section
/-! DEFINITION. The statements for the provers, family by family. -/

open Sys2Proof Sys2Proof.Machine

/-- Model's choice of a block's interface (log entry 2): one queue of commands stands for all agents. -/
def Obligations.StepRunsTheFrontCommand : Prop :=
  ∀ (s : State) (c : Instr) (rest : List Instr), s.pending = c :: rest → step s = exec c (s.setPending rest)

/-- Model's choice (log entry 2): an empty queue idles, since the tick strobe is a command of its own. -/
def Obligations.EmptyQueueIdles : Prop := ∀ s : State, s.pending = [] → step s = .next s

/-- No command of this device stops: each has an effect in every state (a command turned away answers its status). -/
def Obligations.EveryCommandCompletes : Prop := ∀ (c : Instr) (s : State), ∃ t, exec c s = .next t

/-- The queue stands for the agents outside, so no command of the device changes it (log entry 2). -/
def Obligations.CommandsLeaveTheQueue : Prop := ∀ (c : Instr) (s t : State), exec c s = .next t → t.pending = s.pending

/-- An invariant of the whole machine: tick `n` begins at FRC `n` × 65,536,000 (R30, R32, R33). -/
def Obligations.TickAndFrcStayTogether : Prop := ∀ s t : State, TickOk s → step s = .next t → TickOk t

/-- An invariant of the whole machine: the TU keeps the last 16 sets of each domain (R384). -/
def Obligations.KeptSetsStayBounded : Prop := ∀ s t : State, SetsOk s → step s = .next t → SetsOk t

/-- An invariant of the whole machine, on the model's form of memory (log entry 4): equal windows are equal data. -/
def Obligations.WindowCellsStayCanonical : Prop := ∀ s t : State, WinOk s → step s = .next t → WinOk t

/-- The invariants hold where every run begins. -/
def Obligations.InvariantsHoldAtReset : Prop := TickOk State.reset ∧ SetsOk State.reset ∧ WinOk State.reset

/-- The mode changes only on the events of R60, and outside RESET only at a boundary (R62). -/
def Obligations.OnlyResetAndTheBoundaryChangeTheMode : Prop :=
  ∀ (c : Instr) (s t : State), exec c s = .next t →
    ((∀ ns, c ≠ .resetAssert ns) → (∀ m r, c ≠ .resetRelease m r) → (∀ f, c ≠ .tickBoundary f) →
      t.sys.mode = s.sys.mode) ∧
    (s.sys.mode = .reset → (∀ m r, c ≠ .resetRelease m r) → t.sys.mode = .reset)

/-- The tick count is 0 when the TU starts and rises by one at each boundary; nothing else moves it (R32). -/
def Obligations.OnlyTheseMoveTheTick : Prop :=
  ∀ (c : Instr) (s t : State), exec c s = .next t → (∀ f, c ≠ .tickBoundary f) → (∀ ns, c ≠ .resetAssert ns) →
    (∀ k f, c ≠ .kindlingStepDone k f) → (∀ f, c ≠ .trefLockRetry f) →
    t.tick.count = s.tick.count ∧ t.tick.startFrc = s.tick.startFrc ∧ t.tick.running = s.tick.running

/-- The frame of every command, part by part. -/
def Obligations.CommandsChangeOnlyTheirParts : Prop :=
  ∀ (c : Instr) (s t : State), exec c s = .next t → ∀ p : StatePart, p ∉ touches c → p.Same s t

/-- Reset is immediate and keeps the boot flash only (R60); a pulse is filtered by R599. -/
def Obligations.ResetPinsActAtOnce : Prop :=
  ∀ (ns : Nat) (s : State),
    (1000 ≤ ns → (∀ o, s.cal.op = some o → o.storing = false) → exec (.resetAssert ns) s = .next
      { State.reset with
        pending := s.pending, free := s.free, flash := s.flash
        sys := { State.reset.sys with tapInstr := s.sys.tapInstr } }) ∧
    (∀ o, 1000 ≤ ns → s.cal.op = some o → o.storing = true → ∃ how, how < 3 ∧ exec (.resetAssert ns) s = .next
      { State.reset with
        pending := s.pending, free := s.free + 1, flash := tornStore how s
        sys := { State.reset.sys with tapInstr := s.sys.tapInstr } }) ∧
    (ns < 200 → exec (.resetAssert ns) s = .next s)

/-- The transition from RESET to KINDLING of R60. -/
def Obligations.ReleaseSamplesThePinsAndStartsKindling : Prop :=
  ∀ (m : BitVec 2) (r : Bool) (s : State),
    (s.sys.mode = .reset → ∃ t, exec (.resetRelease m r) s = .next t ∧
      t.sys.mode = .kindling ∧ t.sys.bootMode = m ∧ t.sys.twinRole = r ∧ t.sys.kindling.running = [.s1] ∧
      t.zal.safeN = true ∧ t.zal.faultN = true ∧
      Raised [(Ev.modeChanged, le 1 0 ++ le 1 1 ++ le 8 s.tick.count.toNat)] s t ∧
      t.tick = s.tick ∧ t.ports = s.ports ∧ t.path = s.path ∧ t.flow = s.flow ∧ t.host = s.host ∧ t.prm = s.prm ∧
      t.flash = s.flash) ∧
    (s.sys.mode ≠ .reset → exec (.resetRelease m r) s = .next s)

/-- The order of the steps of Kindling (R66), the start of the TU (R32) and the transition that ends it (R60). -/
def Obligations.KindlingStepsFollowEachOther : Prop :=
  ∀ (f : KindlingFound) (s : State), s.sys.mode = .kindling →
    (s.sys.kindling.running.contains .s1 = true → ∃ t, exec (.kindlingStepDone .s1 f) s = .next t ∧
      t.sys.mode = .kindling ∧ t.sys.kindling.running = [.s2]) ∧
    (s.sys.kindling.running.contains .s2 = true → ∃ t, exec (.kindlingStepDone .s2 f) s = .next t ∧
      t.sys.mode = .kindling ∧ t.sys.kindling.running = [.s3] ∧ t.sys.flashMode = f.flashMode) ∧
    (s.sys.kindling.running.contains .s3 = true → s.sys.kindling.retrying = false → f.ok = true →
      ∃ t, exec (.kindlingStepDone .s3 f) s = .next t ∧ t.sys.mode = .kindling ∧ t.sys.kindling.running = [.s4] ∧
        t.tick.running = true ∧ t.tick.count = 0 ∧ t.tick.startFrc = 0) ∧
    (s.sys.kindling.running.contains .s4 = true → ∃ t, exec (.kindlingStepDone .s4 f) s = .next t ∧
      t.sys.mode = .kindling ∧ t.sys.kindling.running = [.s5]) ∧
    (s.sys.kindling.running.contains .s5 = true → ∃ t, exec (.kindlingStepDone .s5 f) s = .next t ∧
      t.sys.mode = .kindling ∧
      t.sys.kindling.running =
        if s.sys.recovery = true ∨ s.sys.bootMode = 3 then [.s6c] else [.s6a, .s6b, .s6c]) ∧
    (s.sys.kindling.running.contains .s6a = true → f.failed = [] →
      ∃ t, exec (.kindlingStepDone .s6a f) s = .next t ∧ t.sys.mode = .kindling ∧
        t.sys.kindling.branches = s.sys.kindling.branches ++ [.s6a] ∧
        (s.sys.kindling.branches.contains .s6b = true → s.sys.kindling.branches.contains .s6c = true →
          t.sys.kindling.running = [.s7])) ∧
    (∀ b, (b = .s6b ∨ b = .s6c) → s.sys.kindling.running.contains b = true →
      ∃ t, exec (.kindlingStepDone b f) s = .next t ∧ t.sys.mode = .kindling ∧
        t.sys.kindling.branches.contains b = true) ∧
    (s.sys.kindling.running.contains .s7 = true → ∃ t, exec (.kindlingStepDone .s7 f) s = .next t ∧
      t.sys.mode = .kindling ∧ t.sys.kindling.running = [] ∧ t.sys.kindling.finished = true ∧
      t.sys.kindlingMs = BitVec.ofNat 16 f.ms ∧
      (s.sys.kindling.toSafe = false →
        t.sys.pendingMode = some { target := .configure, due := s.tick.count + 1 })) ∧
    (s.sys.kindling.retrying = true → f.ok = true → ∃ t, exec (.trefLockRetry f) s = .next t ∧
      t.sys.mode = .kindling ∧ t.sys.kindling.running = [.s4] ∧ t.sys.kindling.retrying = false ∧
      t.tick.running = true ∧ t.tick.count = 0 ∧ t.tick.startFrc = 0)

/-- Steps 1 and 2 of R34, through all the steps that follow. -/
def Obligations.TheStrobeCountsTheTick : Prop :=
  ∀ (f : TickFound) (s : State),
    (s.sys.mode ≠ .reset → s.tick.running = true → ∃ t, exec (.tickBoundary f) s = .next t ∧
      t.tick.count = s.tick.count + 1 ∧ t.tick.startFrc = s.tick.startFrc + 65536000 ∧ t.tick.running = true ∧
      t.flash = s.flash ∧ t.power = s.power) ∧
    (s.sys.mode = .reset ∨ s.tick.running = false → exec (.tickBoundary f) s = .next s)

/-- The transitions of R60 that a host requests, at step 5 of the boundary of R62. -/
def Obligations.DueTransitionsHappenAtTheBoundary : Prop :=
  ∀ (f : TickFound) (s : State) (q : ModeReq), s.tick.running = true → s.zal.toSafe = [] → s.sys.pendingMode = some q →
    (s.sys.mode = .configure → ∃ t, exec (.tickBoundary f) s = .next t ∧
      (tickGe (s.tick.count + 1) q.due = true → q.target = .test → t.sys.mode = .test) ∧
      (tickGe (s.tick.count + 1) q.due = true → q.target = .service →
        t.sys.mode = .service ∨ t.sys.mode = .degraded ∨ t.sys.mode = .standby) ∧
      (tickGe (s.tick.count + 1) q.due = false → t.sys.mode = .configure)) ∧
    (s.sys.mode = .safe → tickGe (s.tick.count + 1) q.due = true → q.target = .configure →
      ∃ t, exec (.tickBoundary f) s = .next t ∧ t.sys.mode = .configure)

/-- Step 3 of R34: entry into SAFE goes before every other transition (R60, R62, R558). -/
def Obligations.ACauseOfSafeEntersSafeAtTheNextBoundary : Prop :=
  ∀ (f : TickFound) (s : State), s.tick.running = true →
    ((s.sys.mode = .configure ∨ s.sys.mode = .service ∨ s.sys.mode = .degraded ∨ s.sys.mode = .standby ∨
        s.sys.mode = .test) ∧ s.zal.toSafe ≠ [] ∨
      s.sys.mode = .kindling ∧ s.sys.kindling.finished = true ∧ s.sys.kindling.toSafe = true) →
    ∃ t, exec (.tickBoundary f) s = .next t ∧ t.sys.mode = .safe

/-- The reactions of the table of R52. -/
def Obligations.OverrunsAreRecordedAndTakeTheUnitOut : Prop :=
  ∀ (u v : UnitId) (s : State), overrunUnit u = some v → s.sys.mode ≠ .reset → s.tick.running = true →
    unitState s v = .inService → isAbsent s v.cls v.inst = false →
    ∃ t, exec (.tickOverrun u) s = .next t ∧ t.tick.overrunCls = u.cls ∧ t.tick.overrunInst = u.inst ∧
      t.tick.overrunTick = BitVec.ofNat 32 s.tick.count.toNat ∧ t.tick.count = s.tick.count ∧
      (∃ l, t.toune.events = s.toune.events ++ l ∧
        (l.head?.map (fun e => (e.code, e.detail))) =
          some (Ev.tickOverrun, le 1 u.cls ++ le 2 u.inst ++ le 8 s.tick.count.toNat)) ∧
      (overrunSafe s v = true → Recorded 7 v.cls v.inst 0 s t ∧ (v.cls ≠ 1 → v ∈ t.zal.units) ∧
        t.sys.deferred = s.sys.deferred) ∧
      (overrunSafe s v = false →
        t.sys.deferred = s.sys.deferred ++ [{ due := s.tick.count + 1, change := .unitOut v 0 }] ∧ t.zal = s.zal)

/-- The rows of R559 that the island detects by itself. -/
def Obligations.IslandFaultsAreRecorded : Prop :=
  ∀ s : State, s.sys.mode ≠ .reset →
    (∃ t, exec .lockstepMismatch s = .next t ∧ Recorded 1 0xFF 0 0 s t ∧ t.zal.safeN = false) ∧
    (∀ c : Fin 3, ∃ t, exec (.dieLinkFail c) s = .next t ∧ Recorded 8 0xFF 0 c s t) ∧
    (∀ d : Fin 2, s.tick.running = true → s.zal.silentDies.contains d.val = false →
      ∃ t, exec (.islandSilent d) s = .next t ∧ Recorded 2 0xFF 0 d s t ∧ t.zal.safeN = false ∧
        t.zal.silentDies = s.zal.silentDies ++ [d.val]) ∧
    (∀ (r : Fin 13) (uv : Nat), s.sys.kindling.running.contains .s1 = false → s.zal.railsOut.contains r.val = false →
      windowHolds s r uv ≠ some true → ∃ t, exec (.supplyFault r uv) s = .next t ∧
        t.zal.railsOut = s.zal.railsOut ++ [r.val] ∧ t.zal.faultN = false ∧
        (r.val ≠ 9 → Recorded 4 0xFF 0 r s t ∧ t.zal.cond.getLsbD 4 = true) ∧ (r.val = 9 → t.zal.safeN = false)) ∧
    (∀ d : Fin 2, s.zal.pllOut.contains d.val = false → ∃ t, exec (.corePllUnlock d) s = .next t ∧
      Recorded 5 0xFF 0 d s t ∧ t.zal.pllOut = s.zal.pllOut ++ [d.val] ∧ t.zal.cond.getLsbD 5 = true) ∧
    (s.zal.reqLevel = true → ∃ t, exec .safeReqNLow s = .next t ∧ Recorded 14 0xFF 0 0 s t ∧
      t.zal.reqLevel = false ∧ t.zal.cond.getLsbD 14 = true)

/-- The ends of conditions of R559, and the proof test that finds every mechanism detecting (R568). -/
def Obligations.ConditionsOfTheIslandEnd : Prop :=
  ∀ s : State,
    (s.sys.mode ≠ .reset → s.zal.reqLevel = false → ∃ t, exec .safeReqNHigh s = .next t ∧ t.zal.reqLevel = true ∧
      t.zal.cond = s.zal.cond &&& ~~~(1#24 <<< 14) ∧ t.zal.status = s.zal.status) ∧
    (∀ (r : Fin 13) (uv : Nat), s.zal.railsOut.contains r.val = true → r.val ≠ 9 → windowHolds s r uv ≠ some false →
      ∃ t, exec (.supplyRestored r uv) s = .next t ∧ t.zal.railsOut = s.zal.railsOut.filter (· != r.val) ∧
        (t.zal.railsOut = [] → tfind t.zal.goodSince 4 = some s.tick.count) ∧ t.zal.status = s.zal.status) ∧
    (∀ d : Fin 2, s.zal.pllOut.contains d.val = true → ∃ t, exec (.corePllRelock d) s = .next t ∧
      t.zal.pllOut = s.zal.pllOut.filter (· != d.val) ∧
      (t.zal.pllOut = [] → tfind t.zal.goodSince 5 = some s.tick.count) ∧ t.zal.status = s.zal.status) ∧
    (∀ h, s.zal.selftestOp = some h → ∃ t, exec (.safetySelftestDone 0) s = .next t ∧ t.zal.selftestOp = none ∧
      t.zal.selftest = 0 ∧ t.zal.status = s.zal.status ∧ (handleAt t (handleIdx h)).st = .done ∧
      (handleAt t (handleIdx h)).status = St.ok ∧ (handleAt t (handleIdx h)).result = List.replicate 12 0)

/-- The checks of a tick (R47), the oscillator's (R379) and the reference's (R378). -/
def Obligations.ChecksOfTheTickAndTheClocks : Prop :=
  ∀ s : State, s.sys.mode ≠ .reset →
    (∀ f : TickChecks, s.tick.running = true → bitOf (reg s 2 0 6).toNat 31 = false → s.zal.hot = false →
      s.tu.frcFail = false → (∀ i, i < 24 → sensorReading s f.readings i < 16 * (regField s 1 0 6 7 0 : Int)) →
      ∃ t, exec (.zaluaTickChecks f) s = .next t ∧ t.tick.mirrorDiff = f.mirror ∧
        t.zal.readings = (List.range 24).map (sensorReading s f.readings) ∧
        (f.mirror ≠ 0 → Recorded 9 0xFF 0 0 s t) ∧ (f.mirror = 0 → t.zal.log = s.zal.log ∧ t.zal.status = s.zal.status)) ∧
    (∀ (long : Bool) (n : Nat), frcCountBad long n = true → ∃ t, exec (.frcCheckFail long n) s = .next t ∧
      Recorded 0x11 2 0 n s t ∧ t.tu.frcFail = true ∧ t.zal.cond.getLsbD 0x11 = true) ∧
    (∀ tref pll : Bool, ∃ t, exec (.trefAlarm tref pll) s = .next t ∧ t.tu.trefAlarm = tref ∧ t.tu.pllAlarm = pll ∧
      ((tref || pll) = true → (s.tu.trefAlarm || s.tu.pllAlarm) = false →
        Recorded 0x10 2 0 0 s t ∧ t.zal.cond.getLsbD 0x10 = true) ∧
      ((tref || pll) = false → (s.tu.trefAlarm || s.tu.pllAlarm) = true →
        t.zal.cond = s.zal.cond &&& ~~~(1#24 <<< 0x10) ∧ t.zal.status = s.zal.status))

/-- The supplies' side (R594, R595) and the test access port (R602). -/
def Obligations.TheBoardsSide : Prop :=
  ∀ s : State,
    (∀ (cw ce : Bool) (die : Nat) (old : Nat), die < 2 → s.sys.mode ≠ .reset → avsTarget s die = some old →
      avsLocked s die = false → (∀ x ∈ s.power.retry, x.what ≠ die) →
      ∃ t new, exec (.avsEvaluate cw ce true true) s = .next t ∧ avsTarget t die = some new ∧
        new ≤ old + 5 ∧ old ≤ new + 5 ∧
        (old ≤ avsWanted die (if die = 0 then cw else ce) → old ≤ new ∧ new ≤ avsWanted die (if die = 0 then cw else ce)) ∧
        (avsWanted die (if die = 0 then cw else ce) ≤ old → new ≤ old ∧ avsWanted die (if die = 0 then cw else ce) ≤ new)) ∧
    (∀ (cw ce : Bool) (die : Nat), die < 2 → s.sys.mode ≠ .reset → avsTarget s die = none →
      ∃ t, exec (.avsEvaluate cw ce true true) s = .next t ∧ avsTarget t die = none) ∧
    (s.sys.mode ≠ .reset → ∃ t, exec (.pmbAlert true) s = .next t ∧ t.power.alertsServed = s.power.alertsServed + 1 ∧
      t.power.retry = s.power.retry) ∧
    (s.sys.mode ≠ .reset → ∃ t x, exec (.pmbAlert false) s = .next t ∧ t.power.alertsServed = s.power.alertsServed ∧
      t.power.retry = s.power.retry ++ [x] ∧ x.since = s.tick.count) ∧
    (∀ (ok : Bool) x rest, s.power.retry = x :: rest →
      (ticksSince s.tick.count x.since < 1000 → exec (.pmbusRetry ok) s = .next s) ∧
      (1000 ≤ ticksSince s.tick.count x.since → (ok = true ∨ 3 ≤ x.tries + 1) →
        ∃ t, exec (.pmbusRetry ok) s = .next t ∧ t.power.retry = rest)) ∧
    (∀ i : TapInstr, ∃ t, exec (.jtagInstruction i) s = .next t ∧ t = s.setSys { s.sys with tapInstr := i })

/-- R488, over the one operation by which every long operation is accepted. -/
def Obligations.LongOperationsTakeTheLowestFreeHandle : Prop :=
  ∀ (op : Nat) (r : Req) (st : Bool) (k : Word → State → State) (s : State),
    ((∀ i, i < 4096 → (handleAt s i).st ≠ .free) → accepted op r st k s = (s, .no St.eNospace)) ∧
    (∀ i, i < 4096 → (handleAt s i).st = .free → (∀ j, j < i → (handleAt s j).st ≠ .free) →
      ∃ (g : Nat) (h : Word) (s' : State), (g = if (handleAt s i).gen = 255 then 1 else (handleAt s i).gen.toNat + 1) ∧
        1 ≤ g ∧ g ≤ 255 ∧ h.toNat = 0x1000000 * g + i ∧ h ≠ 0 ∧
        accepted op r st k s = (k h s', { status := St.accepted, handle := h }) ∧
        s' = setHandle i { gen := BitVec.ofNat 8 g, st := .running, opcode := op, session := r.session,
                           startTick := s.tick.count, started := st } s)

/-- The rows of R59 that query or request a mode. -/
def Obligations.ModeCommandsDoAsTheirRowsSay : Prop :=
  ∀ (r : Req) (s : State),
    (Runs Op.modeQuery r s → r.payload = [] → ∃ t rest, exec (.modeQuery r) s = .next t ∧ OnlyAnswers s t ∧
      Answered Op.modeQuery r St.ok
        (le 1 s.sys.mode.code ++ (match s.sys.pendingMode with
          | some q => le 1 1 ++ le 1 q.target.code ++ le 8 q.due.toNat
          | none => List.replicate 10 0) ++ le 2 (unitsOut s).length ++ rest) s t) ∧
    (Runs Op.modeSet r s → s.twin.handover = none → s.sys.pendingMode = none → s.sys.testClear = none →
      s.sys.holdResp = none →
      (r.payload = [3, 0, 0, 0] → s.sys.mode = .configure → s.twin.pair ≠ .incompatible →
        (serviceBlock s = none → ∃ t, exec (.modeSet r) s = .next t ∧ WaitsMode Op.modeSet r .service s t) ∧
        (∀ why, serviceBlock s = some why → ∃ t, exec (.modeSet r) s = .next t ∧ OnlyAnswers s t ∧
          Answered Op.modeSet r St.eArg (le 1 why) s t)) ∧
      (r.payload = [7, 0, 0, 0] → s.sys.mode = .configure →
        ∃ t, exec (.modeSet r) s = .next t ∧ WaitsMode Op.modeSet r .test s t) ∧
      (r.payload = [2, 0, 0, 0] → s.sys.mode = .service ∨ s.sys.mode = .degraded ∨ s.sys.mode = .standby →
        ∃ t, exec (.modeSet r) s = .next t ∧ WaitsMode Op.modeSet r .configure s t) ∧
      (∀ h, r.payload = [2, 0, 0, 0] → s.sys.mode = .test → newHandle s = some h →
        ∃ t, exec (.modeSet r) s = .next t ∧ Started Op.modeSet r h s t ∧ t.sys = { s.sys with testClear := some h })) ∧
    (Runs Op.resume r s → r.payload = [] → s.sys.mode = .safe → s.sys.pendingMode = none →
      (resumeBlock s = none → ∃ t, exec (.resume r) s = .next t ∧ WaitsMode Op.resume r .configure s t) ∧
      (∀ c, resumeBlock s = some c → ∃ t, exec (.resume r) s = .next t ∧ OnlyAnswers s t ∧
        Answered Op.resume r St.eFault (le 1 c) s t)) ∧
    (Runs Op.safeEnter r s → r.payload = [] → r.cycle + 64 ≤ 1350 →
      s.sys.mode = .configure ∨ s.sys.mode = .service ∨ s.sys.mode = .degraded ∨ s.sys.mode = .standby ∨
        s.sys.mode = .test →
      ∃ t, exec (.safeEnter r) s = .next t ∧ Recorded 0x0F 0xFF 0 0 s t ∧ t.sys.mode = s.sys.mode)

/-- R69 and check 7 of R478, for one command of each of eight groups. -/
def Obligations.ModesForbidCommandsOfOtherGroups : Prop :=
  ∀ (op : Nat) (c : Req → Instr) (r : Req) (s : State),
    (op, c) ∈ [(Op.modeSet, Instr.modeSet), (Op.calRun, Instr.calRun), (Op.domainSeed, Instr.domainSeed),
      (Op.qpCreate, Instr.qpCreate), (Op.flowWrite, Instr.flowWrite), (Op.flowRead, Instr.flowRead),
      (Op.ruleWrite, Instr.ruleWrite), (Op.paramWrite, Instr.paramWrite)] →
    (s.sys.mode = .reset ∨ inService s 26 0 = false → exec (c r) s = .next s) ∧
    (s.sys.mode ≠ .reset → inService s 26 0 = true → bootSeq op r s = .run →
      refusal op r s = some (St.eMode, [], false) → ∃ t, exec (c r) s = .next t ∧ OnlyAnswers s t ∧
        Answered op r St.eMode [] s t)

/-- The states of a unit (R71), their rebuilds (R72), and the clearing from TEST to CONFIGURE (R60). -/
def Obligations.UnitsLeaveAndComeBack : Prop :=
  ∀ (r : Req) (u : UnitId) (b : RebuildResult) (s : State),
    (Runs Op.unitOut r s → r.payload.length = 4 → rd r.payload 1 1 = 0 →
      (mayLeave s (argUnit r.payload) = true → isAbsent s (argUnit r.payload).cls (argUnit r.payload).inst = false →
        unitState s (argUnit r.payload) = .inService →
        ∃ t, exec (.unitOut r) s = .next t ∧ Waits Op.unitOut r (.unitOut (argUnit r.payload) 1) s t) ∧
      (mayLeave s (argUnit r.payload) = false → ∃ t, exec (.unitOut r) s = .next t ∧ OnlyAnswers s t ∧
        Answered Op.unitOut r St.eArg [] s t)) ∧
    (Runs Op.unitRejoin r s → r.payload.length = 4 → rd r.payload 1 1 = 0 →
      (mayLeave s (argUnit r.payload) = true ∨ isDispatcher (argUnit r.payload) = true) →
      isAbsent s (argUnit r.payload).cls (argUnit r.payload).inst = false → unitState s (argUnit r.payload) = .out →
      ∃ t, exec (.unitRejoin r) s = .next t ∧ Waits Op.unitRejoin r (.unitRejoin (argUnit r.payload)) s t) ∧
    (unitState s u = .rejoin →
      (b.ok = false → ∃ t, exec (.rejoinComplete u b) s = .next t ∧ unitState t u = .out ∧
        Raised [(Ev.rejoinFailed, le 1 u.cls ++ le 2 u.inst ++ le 4 b.failed)] s t ∧ t.path = s.path ∧ t.flow = s.flow) ∧
      (b.ok = true → (u.cls = 10 → (bankAt s u.inst).bad = [] ∧ (bankAt s u.inst).lost = [] ∧
          (bankAt s u.inst).stuck.find? (rowDiffers (bankAt s u.inst) (bankWidth s u.inst)) = none) →
        ∃ t, exec (.rejoinComplete u b) s = .next t ∧ unitState t u = .ready ∧
          (unitRec t u).since = s.tick.count + 1 ∧ t.sys.mode = s.sys.mode ∧
          (u.cls = 10 → ∀ k, k ∉ (bankAt s u.inst).stuck →
            rowAt (bankAt t u.inst).rows k = rowAt (bankAt s u.inst).shadow k)) ∧
      (∀ r, b.ok = true → u.cls = 10 → (bankAt s u.inst).bad = [] →
        (r ∈ (bankAt s u.inst).lost ∧ (∀ k ∈ (bankAt s u.inst).lost, r ≤ k)) ∨ ((bankAt s u.inst).lost = [] ∧
          (bankAt s u.inst).stuck.find? (rowDiffers (bankAt s u.inst) (bankWidth s u.inst)) = some r) →
        ∃ t, exec (.rejoinComplete u b) s = .next t ∧ unitState t u = .out ∧
          Raised [(Ev.rejoinFailed, le 1 u.cls ++ le 2 u.inst ++ le 4 r)] s t ∧ t.path = s.path)) ∧
    (unitState s u ≠ .rejoin → exec (.rejoinComplete u b) s = .next s) ∧
    (∀ h, s.sys.mode = .test → s.sys.testClear = some h → ∃ t, exec .testClearDone s = .next t ∧
      t.sys.mode = .test ∧ t.sys.testClear = none ∧
      t.sys.pendingMode = some { target := .configure, due := s.tick.count + 1, handle := h } ∧
      (∀ p, p < 4 → ∀ e ∈ (fwdAt t p).l2, e.2.static = true) ∧
      ((∀ n, n < 16 → (slAt s n).flights = [] ∧ (slAt s n).hostQ = []) → s.flow.cmds = [] →
        ∀ n, n < 16 → (slAt t n).hearth = [] ∧ (slAt t n).stack = [] ∧ (slAt t n).turf = [] ∧ (slAt t n).sums = []))

/-- The operations on the calibration record (R76, R77, R497). -/
def Obligations.TheCalibrationRecord : Prop :=
  ∀ (r : Req) (s : State),
    (Runs Op.calRead r s → r.payload.length = 4 → rd r.payload 0 4 + 4000 ≤ 4864 →
      ∃ t, exec (.calRead r) s = .next t ∧ OnlyAnswers s t ∧
        Answered Op.calRead r St.ok
          (((calRecord s s.cal.sequence s.cal.origin).drop (rd r.payload 0 4)).take 4000) s t) ∧
    (∀ (b : List Byte) (h : Word), Runs Op.calWrite r s →
      s.sys.mode = .kindling ∨ s.sys.mode = .configure ∨ s.sys.mode = .test → r.payload.length = 20 →
      rd r.payload 0 4 < 64 → rd r.payload 0 4 ≠ 0 → descBytes r 4 s = .ok b → b.length = 4864 →
      rd b 0 4 = 0x5358434C → rd b 4 2 = 1 → rd b 8 4 = 4864 → rd b 0x12FC 4 = (crc32c (b.take 0x12FC)).toNat →
      s.cal.op = none → newHandle s = some h → ∃ t, exec (.calWrite r) s = .next t ∧ Started Op.calWrite r h s t ∧
        t.cal.storing = true ∧ t.flash = s.flash ∧
        (bitOf (rd r.payload 0 4) 2 = true → t.cal.tsi = some (s.cal.tsi.getD (tsiSection s)) ∧
          t.sys.deferred = s.sys.deferred ++ [{ due := s.tick.count + 1, change := .tsiDelays }]) ∧
        ∀ i, calByte t i = if calReserved i then 0 else
          if (List.range 6).any (fun k => bitOf (rd r.payload 0 4) k && decide ((calSections.getD k (0, 0)).1 ≤ i) &&
            decide (i < (calSections.getD k (0, 0)).1 + (calSections.getD k (0, 0)).2)) then b.getD i 0 else calByte s i) ∧
    (∀ h : Word, Runs Op.calRun r s → 20 ≤ r.payload.length → rd r.payload 1 1 ≤ 1 → zeros r.payload 2 2 = true →
      1 ≤ rd r.payload 0 1 → rd r.payload 0 1 ≤ 5 → s.sys.mode = .test → s.cal.op = none → newHandle s = some h →
      ∃ t o, exec (.calRun r) s = .next t ∧ Started Op.calRun r h s t ∧ t.cal.op = some o ∧ o.handle = h ∧
        o.procedure = rd r.payload 0 1 ∧ (o.dryRun = true ↔ rd r.payload 1 1 = 1) ∧ o.storing = false ∧
        o.named = leNat ((r.payload.drop 4).take 16) ∧
        t.cal.work = s.cal.work ∧ t.flash = s.flash) ∧
    (∀ (o : CalOp) (v : List Byte), s.cal.op = some o → o.opcode = Op.calRun → o.storing = false →
      cancelled s o.handle = false →
      (o.dryRun = true → ∃ t, exec (.calRunDone v) s = .next t ∧ Ended o.handle St.ok v t ∧ t.cal.op = none ∧
        t.cal.work = s.cal.work ∧ t.flash = s.flash) ∧
      (o.dryRun = false → ∃ t, exec (.calRunDone v) s = .next t ∧ t.cal.op = some { o with storing := true } ∧
        t.cal.storing = true ∧ t.flash = s.flash ∧
        (o.procedure = 1 → o.sections = 1 → v.length = 2560 → ∀ i, calByte t i =
          if 0x40 ≤ i ∧ i < 0xA40 ∧ i % 16 < 14 ∧ bitOf o.named ((i - 0x40) / 16) then v.getD (i - 0x40) 0 else calByte s i) ∧
        (o.procedure = 2 → o.sections = 2 → v.length = 48 → ∀ i, calByte t i =
          if 0xA40 ≤ i ∧ i < 0xA70 then v.getD (i - 0xA40) 0 else calByte s i) ∧
        (o.procedure = 3 → o.sections = 4 → v.length = 64 → (∀ i, calByte t i =
          if 0xA70 ≤ i ∧ i < 0xAB0 ∧ bitOf o.named ((i - 0xA70) / 8) then v.getD (i - 0xA70) 0 else calByte s i) ∧
          t.cal.tsi = some (s.cal.tsi.getD (tsiSection s)) ∧
          t.sys.deferred = s.sys.deferred ++ [{ due := s.tick.count + 1, change := .tsiDelays }]) ∧
        (o.procedure = 4 → o.sections = 8 → v.length = 8 → ∀ i, calByte t i =
          if 0xAB0 ≤ i ∧ i < 0xAB8 then v.getD (i - 0xAB0) 0 else calByte s i) ∧
        (o.procedure = 5 → o.sections = 48 → v.length = 2048 → ∀ i, calByte t i =
          if 0xAC0 ≤ i ∧ i < 0x12C0 then v.getD (i - 0xAC0) 0 else calByte s i))) ∧
    (∀ o : CalOp, s.cal.op = some o → o.storing = true →
      (∃ t seq, exec (.calStored true) s = .next t ∧ seq = (if s.cal.valid then s.cal.sequence + 1 else 1) ∧
        t.cal.sequence = seq ∧ t.cal.valid = true ∧ t.cal.op = none ∧ Ended o.handle St.ok (le 4 seq.toNat) t ∧
        Raised [(Ev.calStored, le 4 o.sections ++ le 4 seq.toNat)] s t ∧ t.cal.work = s.cal.work ∧
        t.flash = (if s.cal.valid && !s.cal.copy
          then { s.flash with cal0 := [], cal1 := putBytes [] 0 (calRecord s seq s.cal.origin) }
          else { s.flash with cal0 := putBytes [] 0 (calRecord s seq s.cal.origin), cal1 := [] })) ∧
      (∃ t, exec (.calStored false) s = .next t ∧ Ended o.handle St.eIntegrity [] t ∧ t.flash = s.flash ∧
        t.cal.op = none ∧ t.cal.sequence = s.cal.sequence))

/-- Staging of firmware (R497) in the slots of R63. -/
def Obligations.FirmwareIsStagedInTheInactiveSlot : Prop :=
  ∀ (r : Req) (s : State),
    (Runs Op.fwStage r s → s.sys.fwCommit = none → zeros r.payload 1 3 = true →
      (rd r.payload 0 1 = 0 → r.payload.length = 12 → rd r.payload 4 4 ≤ 48 * 1024 * 1024 →
        ∃ t, exec (.fwStage r) s = .next t ∧ Answered Op.fwStage r St.ok [] s t ∧ t.sys = { s.sys with staging := true } ∧
          stagingSlot t = some { length := BitVec.ofNat 32 (rd r.payload 4 4), crc := BitVec.ofNat 32 (rd r.payload 8 4),
                                 data := [] } ∧
          (if activeSlot s then t.flash.slotB = s.flash.slotB else t.flash.slotA = s.flash.slotA) ∧
          t.flash.dir0 = s.flash.dir0 ∧ t.flash.dir1 = s.flash.dir1) ∧
      (∀ (b : List Byte) (x : FwSlot), rd r.payload 0 1 = 1 → r.payload.length = 24 → s.sys.staging = true →
        descBytes r 8 s = .ok b → stagingSlot s = some x → rd r.payload 4 4 + b.length ≤ x.length.toNat →
        ∃ t, exec (.fwStage r) s = .next t ∧ Answered Op.fwStage r St.ok [] s t ∧
          stagingSlot t = some { x with data := putBytes x.data (rd r.payload 4 4) b } ∧
          (if activeSlot s then t.flash.slotB = s.flash.slotB else t.flash.slotA = s.flash.slotA) ∧
          t.flash.dir0 = s.flash.dir0 ∧ t.flash.dir1 = s.flash.dir1) ∧
      (∀ h, rd r.payload 0 1 = 2 → r.payload.length = 4 → s.sys.staging = true → newHandle s = some h →
        ∃ t, exec (.fwStage r) s = .next t ∧ Started Op.fwStage r h s t ∧ t.sys = { s.sys with fwCommit := some h } ∧
          t.flash = s.flash)) ∧
    (∀ h x, s.sys.fwCommit = some h → stagingSlot s = some x →
      (slotValid (some x) = true → ∃ t seq, exec .fwStaged s = .next t ∧
        (seq = match flashDir s.flash with | some d => d.sequence + 1 | none => 1) ∧
        (∃ d, t.flash.dir0 = some d ∧ t.flash.dir1 = some d ∧ d.usable = true ∧ d.sequence = seq ∧
          ∃ e, d.entry (if activeSlot s then 1 else 2) = some e ∧ e.flags = 1 ∧ e.length = x.length ∧ e.crc = x.crc) ∧
        activeSlot t = !activeSlot s ∧ Ended h St.ok (le 4 seq.toNat) t ∧ t.sys.fwCommit = none ∧
        Raised [(Ev.fwStaged, le 1 (b2n (!activeSlot s)) ++ le 4 x.length.toNat ++ le 4 x.crc.toNat ++ le 4 seq.toNat)]
          s t) ∧
      (slotValid (some x) = false → ∃ t, exec .fwStaged s = .next t ∧ t.flash = s.flash ∧
        Ended h St.eIntegrity [] t ∧ t.sys.fwCommit = none)) ∧
    (Runs Op.fwQuery r s → r.payload = [] → ∃ t a b, exec (.fwQuery r) s = .next t ∧ OnlyAnswers s t ∧
      Answered Op.fwQuery r St.ok (a ++ b ++ le 1 (b2n (activeSlot s))) s t ∧
      (∀ x, s.flash.slotA = some x → a = le 4 (Config.fwVersion x.crc).toNat ++ le 4 x.length.toNat ++ le 4 x.crc.toNat) ∧
      (∀ x, s.flash.slotB = some x → b = le 4 (Config.fwVersion x.crc).toNat ++ le 4 x.length.toNat ++ le 4 x.crc.toNat))

/-- The first rows of the table of R85, and R81. -/
def Obligations.PortsStartAsTheirControlSays : Prop :=
  ∀ s : State,
    (∀ n : Fin 130, (portAt s n).st = .disabled → portExists s n = true →
      (if n.val < 128 then inService s 6 (n.val / 8) else inService s 19 0) = true →
      ∃ t, exec (.portEnable n) s = .next t ∧ reg t 5 n 0 = reg s 5 n 0 ||| 1 ∧
        (portAt t n).st = (if (reg s 5 n 0).getLsbD 1 then .an else if (reg s 5 n 0).getLsbD 2 then .train else .align) ∧
        (portAt t n).since = s.tick.count ∧ (portAt t n).mode = portCode s n ∧ OtherPorts n s t ∧
        t.toune = s.toune ∧ t.buf = s.buf) ∧
    (∀ (n : Fin 130) (cut : Bool), (portAt s n).st ≠ .disabled → ∃ t, exec (.portDisable n cut) s = .next t ∧
      reg t 5 n 0 = reg s 5 n 0 &&& ~~~1#32 ∧ (portAt t n).st = .disabled ∧ (portAt t n).paused = [] ∧
      (cut = true → Counted 5 n 6 1 s t) ∧ t.flow = s.flow ∧ t.tick = s.tick) ∧
    (∀ (g : Fin 16) (v : Word) (rx : List Nat),
      (pgModeBad v.toNat = true → exec (.pgModeWrite g v rx) s = .next s) ∧
      (pgModeBad v.toNat = false → ∃ t, exec (.pgModeWrite g v rx) s = .next t ∧ reg t 6 g 0 = v ∧
        ∀ l : Fin 8, fifoAt t (8 * g + l) = [] ∧ (portAt t (8 * g + l)).st =
          (if portEnabled t (8 * g + l) && portExists t (8 * g + l) then entryState t (8 * g + l) else .disabled)))

/-- The rows of R85 for AN, TRAIN and ALIGN; which codes have a Clause 73 ability is presumed from IEEE 802.3 (log entry 61). -/
def Obligations.LinkStartUpFollowsTheTableOfStates : Prop :=
  ∀ (n : Fin 130) (s : State),
    (∀ (code : Fin 11) (tr : Bool) (fec : Fin 3),
      ((portAt s n).st = .an → anCode code = true →
          code.val = portCode s n ∨ codeLanes code < codeLanes (portCode s n) →
        ∃ t, exec (.anResolved n code ⟨tr, fec⟩) s = .next t ∧ (portAt t n).st = (if tr then .train else .align) ∧
          (portAt t n).mode = code ∧ (portAt t n).anFec = some fec.val ∧ OtherPorts n s t ∧ t.toune = s.toune ∧
          t.path = s.path) ∧
      ((portAt s n).st ≠ .an → exec (.anResolved n code ⟨tr, fec⟩) s = .next s)) ∧
    (∀ ab : Dword, (portAt s n).st = .an →
      ((portAt s n).anEpisode = false → ∃ t, exec (.anNoCommon n ab) s = .next t ∧ (portAt t n).st = .an ∧
        (portAt t n).anEpisode = true ∧ Raised [(Ev.anNoCommon, le 2 n ++ le 8 ab.toNat)] s t ∧ OtherPorts n s t) ∧
      ((portAt s n).anEpisode = true → exec (.anNoCommon n ab) s = .next s)) ∧
    ((portAt s n).st = .train →
      (∀ q, ∃ t, exec (.trainDone ⟨n, q⟩) s = .next t ∧ (portAt t n).st = .align ∧ (portAt t n).fails = 0 ∧ OtherPorts n s t ∧
        t.toune = s.toune) ∧
      (∃ t, exec (.trainTimeout n) s = .next t ∧ (portAt t n).fails = (portAt s n).fails + 1 ∧
        (portAt t n).st = (if (reg s 5 n 0).getLsbD 1 then .an else .train) ∧ Counted 5 n 15 1 s t ∧ OtherPorts n s t ∧
        (((portAt s n).fails + 1) % trainRetry s n = 0 →
          Raised [(Ev.linkTrainFail, le 2 n ++ le 4 ((portAt s n).fails + 1))] s t) ∧
        (((portAt s n).fails + 1) % trainRetry s n ≠ 0 → t.toune = s.toune))) ∧
    ((portAt s n).st ≠ .train → (∀ q, exec (.trainDone ⟨n, q⟩) s = .next s) ∧ exec (.trainTimeout n) s = .next s) ∧
    ((portAt s n).st = .align →
      (∀ rx, ∃ t, exec (.linkUp n rx) s = .next t ∧ (portAt t n).st = .up ∧ (portAt t n).downSince = none ∧
        (portAt t n).flushed = false ∧ (portAt t n).admitAt = s.tick.count + 1 ∧ OtherPorts n s t ∧
        LastRaised Ev.linkUp (le 2 n ++ le 1 (portAt s n).mode ++ le 1 (fecOf s n (portAt s n).mode) ++
          le 8 (s.tick.count + 1).toNat) t ∧ t.path = s.path ∧ t.flow = s.flow) ∧
      (100000 ≤ ticksSince s.tick.count (portAt s n).since → ∃ t, exec (.alignTimeout n) s = .next t ∧
        (portAt t n).st = entryState s n ∧ OtherPorts n s t ∧ t.toune = s.toune) ∧
      (ticksSince s.tick.count (portAt s n).since < 100000 → exec (.alignTimeout n) s = .next s)) ∧
    ((portAt s n).st ≠ .align → (∀ rx, exec (.linkUp n rx) s = .next s) ∧ exec (.alignTimeout n) s = .next s)

/-- The rows of R85 for UP and FAULT, R99 and the FEC threshold of R104. -/
def Obligations.LinksGoDownAndComeBack : Prop :=
  ∀ (n : Fin 130) (s : State),
    (∀ (c : Fin 4) (cut : Bool),
      ((portAt s n).st = .up → ∃ t, exec (.linkDown n c cut) s = .next t ∧ (portAt t n).st = entryState s n ∧
        (portAt t n).localFault = true ∧ Raised [(Ev.linkDown, le 2 n ++ le 1 c)] s t ∧ Counted 5 n 16 1 s t ∧
        (cut = true → Counted 5 n 6 1 s t) ∧ OtherPorts n s t ∧ t.buf = s.buf) ∧
      ((portAt s n).st = .fault → ∃ t, exec (.linkDown n c cut) s = .next t ∧ (portAt t n).st = entryState s n ∧
        t.toune = s.toune ∧ OtherPorts n s t)) ∧
    ((portAt s n).st = .up → ∃ t, exec (.remoteFault n) s = .next t ∧ (portAt t n).st = .fault ∧
      (portAt t n).remoteFault = true ∧ Raised [(Ev.linkDown, le 2 n ++ le 1 4)] s t ∧ Counted 5 n 16 1 s t ∧
      OtherPorts n s t) ∧
    ((portAt s n).st = .fault → ∃ t, exec (.remoteFaultClear n) s = .next t ∧ (portAt t n).st = .up ∧
      (portAt t n).remoteFault = false ∧ (portAt t n).admitAt = s.tick.count + 1 ∧ OtherPorts n s t ∧
      Raised [(Ev.linkUp, le 2 n ++ le 1 (portAt s n).mode ++ le 1 (portAt s n).fec ++
        le 8 (s.tick.count + 1).toNat)] s t) ∧
    (∀ d, (portAt s n).downSince = some d → regField s 5 n 5 15 0 ≠ 0 → portEnabled s n = true →
      (portAt s n).flushed = false →
      (1000 * regField s 5 n 5 15 0 ≤ ticksSince s.tick.count d → ∃ t, exec (.portDownFlush n) s = .next t ∧
        (portAt t n).flushed = true ∧ egressOff t n = true ∧
        LastRaised Ev.portDownFlush (le 2 n ++ le 8 s.tick.count.toNat) t) ∧
      (ticksSince s.tick.count d < 1000 * regField s 5 n 5 15 0 → exec (.portDownFlush n) s = .next s)) ∧
    (∀ co un sy : Nat, ∃ t, exec (.fecDegraded n co un sy) s = .next t ∧ Counted 5 n 12 co s t ∧
      Counted 5 n 13 un s t ∧ Counted 5 n 14 sy s t ∧ t.ports = s.ports ∧
      ((reg s 5 n 7).toNat ≠ 0 ∧ (reg s 5 n 7).toNat ≤ sy → Raised [(Ev.fecDegraded, le 2 n ++ le 4 sy)] s t) ∧
      ((reg s 5 n 7).toNat = 0 ∨ sy < (reg s 5 n 7).toNat → t.toune = s.toune))

/-- Received pauses (R97) and those the device sends (R98). -/
def Obligations.PausesStopAndReleasePriorities : Prop :=
  ∀ (n : Fin 130) (c : Fin 1350) (s : State),
    (∀ (pfc : Bool) (v : Byte) (q : List Half), (portAt s n).st ≠ .up → exec (.pauseFrameRx n c pfc v q) s = .next s) ∧
    ((portAt s n).st = .up →
      (∀ q : Half, n.val < 128 → pauseMode s n = 1 → ∃ t, exec (.pauseFrameRx n c false 0 [q]) s = .next t ∧
        Counted 5 n 7 1 s t ∧ OtherPorts n s t ∧
        ∀ k, k < 8 → classPaused t n k = (q != 0)) ∧
      (∀ (v : Byte) (q : List Half), pauseMode s n = 2 → ∃ t, exec (.pauseFrameRx n c true v q) s = .next t ∧
        Counted 5 n 7 1 s t ∧ OtherPorts n s t ∧
        ∀ k, k < 8 → classPaused t n k =
          (if v.getLsbD k && bitOf (regField s 5 n 3 12 5) k then q.getD k 0 != 0 else classPaused s n k)) ∧
      (∀ (pfc : Bool) (v : Byte) (q : List Half), pauseMode s n = 0 →
        ∃ t, exec (.pauseFrameRx n c pfc v q) s = .next t ∧ Counted 5 n 7 1 s t ∧
          (portAt t n).paused = (portAt s n).paused ∧ OtherPorts n s t)) ∧
    (∀ (p : Fin 8) (u : Dword), tfind (portAt s n).paused p = some u →
      ((0 : Int) ≤ (frcAt s c - u).toInt → ∃ t, exec (.rxPauseExpiry n c p) s = .next t ∧ classPaused t n p = false ∧
          (∀ k, k ≠ p.val → classPaused t n k = classPaused s n k) ∧ OtherPorts n s t) ∧
      ((frcAt s c - u).toInt < 0 → exec (.rxPauseExpiry n c p) s = .next s)) ∧
    (∀ (p : Fin 8) (u : Dword), tfind (portAt s n).xoff p = some u → portRate s n ≠ 0 →
      ((portAt s n).st = .up → ((regField s 5 n 4 15 0 * 256 * 65536 / portRate s n : Nat) : Int) ≤ (frcAt s c - u).toInt →
        ∃ t f, exec (.xoffRepeat n c p) s = .next t ∧ tfind (portAt t n).xoff p = some (frcAt s c) ∧
          Counted 5 n 10 1 s t ∧ t.ports.sent = s.ports.sent ++ [f] ∧ f.port = n.val ∧ f.stomped = false ∧
          OtherPorts n s t) ∧
      ((portAt s n).st ≠ .up ∨ (frcAt s c - u).toInt < (regField s 5 n 4 15 0 * 256 * 65536 / portRate s n : Nat) →
        exec (.xoffRepeat n c p) s = .next s))

/-- The MAC (R95) and its FIFO share (R83, R354). -/
def Obligations.FramesEnterThroughTheMac : Prop :=
  ∀ (n : Fin 130) (f : RxFrame) (s : State),
    ((portAt s n).st ≠ .up ∨ tickGe s.tick.count (portAt s n).admitAt = false ∨ carries s n = false →
      exec (.frameRx n f) s = .next s) ∧
    ((portAt s n).st = .up → tickGe s.tick.count (portAt s n).admitAt = true → carries s n = true →
      (f.bytes.length + 4 < 64 → ∃ t, exec (.frameRx n f) s = .next t ∧ Counted 5 n 3 1 s t ∧ t.ports = s.ports) ∧
      (64 ≤ f.bytes.length + 4 → maxFrame s n < f.bytes.length + 4 → ∃ t, exec (.frameRx n f) s = .next t ∧
        Counted 5 n 4 1 s t ∧ t.ports = s.ports) ∧
      (64 ≤ f.bytes.length + 4 → f.bytes.length + 4 ≤ maxFrame s n →
        (f.fcs ≠ crc32 f.bytes → ∃ t, exec (.frameRx n f) s = .next t ∧ Counted 5 n 2 1 s t ∧
          (f.early = false → t.ports = s.ports)) ∧
        (f.fcs = crc32 f.bytes → f.codeErr = true → ∃ t, exec (.frameRx n f) s = .next t ∧ Counted 5 n 5 1 s t ∧
          (f.early = false → t.ports = s.ports)) ∧
        (f.early = true → f.fcs ≠ crc32 f.bytes ∨ f.codeErr = true → terminated s n f.bytes = false →
          128 ≤ n.val ∨ fifoFill s n + maxFrame s n ≤ fifoShare s n → ∃ t, exec (.frameRx n f) s = .next t ∧
            fifoAt t n = fifoAt s n ++ [{ bytes := f.bytes, stamp := f.stamp, early := true, bad := true }] ∧
            t.ports.port = s.ports.port) ∧
        (f.fcs = crc32 f.bytes → f.codeErr = false → ∃ t, exec (.frameRx n f) s = .next t ∧ Counted 5 n 0 1 s t ∧
          Counted 5 n 1 (f.bytes.length + 4) s t ∧
          (terminated s n f.bytes = false → 128 ≤ n.val ∨ fifoFill s n + maxFrame s n ≤ fifoShare s n →
            fifoAt t n = fifoAt s n ++ [{ bytes := f.bytes, stamp := f.stamp, early := f.early, bad := false }] ∧
            t.ports.port = s.ports.port) ∧
          (terminated s n f.bytes = false → n.val < 128 → fifoShare s n < fifoFill s n + maxFrame s n →
            t.ports = s.ports ∧ counter t (paddr 16 (dieOfPort n) (0x200 + n)) =
              min (counter s (paddr 16 (dieOfPort n) (0x200 + n)) + 1) (2 ^ 32 - 1)))))

/-- The bootstrap filter (R152, R153) behind slots (R15, R82) and staging (R24, R25). -/
def Obligations.TheBootstrapFilterPassesPackets : Prop :=
  ∀ (p : Fin 4) (n : Fin 128) (found : PassFound) (s : State) (f : FifoFrame) (rest : List FifoFrame),
    inService s 7 p = true → s.sys.mode = .kindling ∨ s.sys.mode = .configure ∨ s.sys.mode = .test → pipeOfPort n = p →
    fifoAt s n = f :: rest → ptpTerminated s n f.bytes = false →
    (4800 ≤ (pipeAt s p).frontSlots ∨ 150 * codeLanes (portAt s n).mode ≤ (portAt s n).slots ∨
        ((portAt s n).st ≠ .up ∧ (portAt s n).st ≠ .fault) →
      exec (.pipelinePass p (.front n) found) s = .next s) ∧
    ((pipeAt s p).frontSlots < 4800 → (portAt s n).slots < 150 * codeLanes (portAt s n).mode → (portAt s n).st = .up →
      (stagingShare < stagingUse s p (n.val % 32 / 8) + cellsOf f.bytes.length →
        ∃ t, exec (.pipelinePass p (.front n) found) s = .next t ∧ fifoAt t n = f :: rest ∧ t.path = s.path ∧
          (portAt t n).blocked.contains (pausePrio s n f.bytes) = true) ∧
      (stagingUse s p (n.val % 32 / 8) + cellsOf f.bytes.length ≤ stagingShare →
        (∀ (c : Option Nat) (port cls : Nat) (prot : Bool),
          rcmpDecide s p 0 f.bytes = (c, .forward port cls prot) →
          ∃ t x, exec (.pipelinePass p (.front n) found) s = .next t ∧ pktAt t s.path.nextPkt = some x ∧
            x.stage = .cells ∧ x.route.dest = .port port ∧ x.cls = cls ∧ x.protection = prot ∧ x.out = f.bytes ∧
            x.owner = n ∧ x.pipe = p ∧ fifoAt t n = rest ∧ t.path.nextPkt = s.path.nextPkt + 1 ∧
            (pipeAt t p).frontSlots = (pipeAt s p).frontSlots + 1 ∧ (portAt t n).slots = (portAt s n).slots + 1 ∧
            stagingUse t p (n.val % 32 / 8) = stagingUse s p (n.val % 32 / 8) + cellsOf f.bytes.length ∧
            t.flow = s.flow) ∧
        (∀ (c : Option Nat) (v : RcmpVerdict), rcmpDecide s p 0 f.bytes = (c, v) → v = .drop ∨ v = .noMatch →
          ∃ t, exec (.pipelinePass p (.front n) found) s = .next t ∧ pktAt t s.path.nextPkt = none ∧
            fifoAt t n = rest ∧ t.flow = s.flow)))

/-- Results in order (R239, R242), verdicts (R226) and the watchdog (R247). -/
def Obligations.FlowResultsMovePacketsOn : Prop :=
  ∀ s : State,
    (∀ (p : Fin 4) (n : Fin 16) (cy : Nat), tgetD (fun _ => []) s.flow.results (16 * p.val + n.val) = [] →
      exec (.flowResultArrive p n cy) s = .next s) ∧
    (∀ (p : Fin 4) (n : Fin 16) (cy : Nat) (r : FlowResult) (rest : List FlowResult),
      tgetD (fun _ => []) s.flow.results (16 * p.val + n.val) = r :: rest →
      (pktAt s r.pkt = none → ∃ t, exec (.flowResultArrive p n cy) s = .next t ∧ t.path = s.path ∧
        tgetD (fun _ => []) t.flow.results (16 * p.val + n.val) = rest) ∧
      (∀ x, pktAt s r.pkt = some x → x.stage = .flow → x.slice = n →
        (r.verdict ≠ 0 → ∃ t, exec (.flowResultArrive p n cy) s = .next t ∧ pktAt t r.pkt = none ∧
          tgetD (fun _ => []) t.flow.results (16 * p.val + n.val) = rest) ∧
        (∀ m, r.verdict = 0 → x.actions.drop.getD false = false → s.sys.mode ≠ .safe → r.member = none →
          r.rewrite = .none → x.route.dest = .port m → x.route.rewrite.decTtl = false →
          ∃ t x', exec (.flowResultArrive p n cy) s = .next t ∧ pktAt t r.pkt = some x' ∧ x'.stage = .cells ∧
            x'.route.dest = .port m ∧ x'.cls = r.cls.getD x.cls ∧ x'.order = s.path.nextOrder ∧
            t.path.nextOrder = s.path.nextOrder + 1 ∧
            tgetD (fun _ => []) t.flow.results (16 * p.val + n.val) = rest))) ∧
    (∀ (k : Nat) (x : Packet), pktAt s k = some x → x.stage = .flow → pktParked s x.slice k = false →
      (regField s 13 16 0x12 11 0 ≤ ticksSince s.tick.count x.issued → s.sys.mode ≠ .reset →
        ∃ t, exec (.flowResultTimeout k) s = .next t ∧ pktAt t k = none ∧ Recorded 0x0D 13 x.slice 0 s t) ∧
      (ticksSince s.tick.count x.issued < regField s 13 16 0x12 11 0 → exec (.flowResultTimeout k) s = .next s))

/-- Grants of cells (R348 to R355) and the check of a packet's metadata (R137). -/
def Obligations.PacketsTakeCellsAndQueue : Prop :=
  ∀ (k : Nat) (d : Fin 2) (x : Packet) (s : State), pktAt s k = some x →
    (x.stage ≠ .cells ∨ x.granted.contains d.val = true ∨ (destDies s x).contains d.val = false →
      ∀ rx cl me, exec (.cellRequest k d rx cl me) s = .next s) ∧
    (x.stage = .cells → x.granted = [] → (destDies s x).contains d.val = true → overtakes s x d = false →
      (∀ rx cl, s.sys.mode ≠ .reset → ∃ t, exec (.cellRequest k d rx cl true) s = .next t ∧
        Recorded 0x0A 7 x.pipe 0 s t ∧ pktAt t k = none) ∧
      (∀ m cl, x.bad = false → x.route.dest = .port m → dieOfPort m = d → x.actions.toHost = none →
        (∀ pool, poolFor s d x.owner x.prio (cellsOf x.out.length) = some pool → storedAt s k = none →
          egressOff s m = false → islandStops s m x.protection = false →
          ∃ t x' y, exec (.cellRequest k d false cl false) s = .next t ∧ pktAt t k = some x' ∧ x'.stage = .buffered ∧
            storedAt t k = some y ∧ y.bytes = x.out ∧
            y.copies = [{ die := d, dest := .port m, cls := x.cls, st := .queued, cut := false }] ∧
            (egrAt t m).q x.cls = (egrAt s m).q x.cls ++ [k]) ∧
        (poolFor s d x.owner x.prio (cellsOf x.out.length) = none →
          ∃ t, exec (.cellRequest k d false cl false) s = .next t ∧ pktAt t k = some x ∧
            (bmAt t d).pressed.contains (8 * x.owner + x.prio) = true ∧ storedAt t k = storedAt s k)))

/-- Transmission (R96, R356, R360), the scheduler (R361, R362) and stalls (R367). -/
def Obligations.TheSchedulerStartsAndEndsFrames : Prop :=
  ∀ (n : Fin 130) (s : State),
    (∀ ns : Fin 1000, (egrAt s n).sending = none → (portAt s n).st = .up → egressOff s n = false →
      (∀ c d due k q y, chooseClass s n ns = some (c, d, due) → (egrAt s n).q c = k :: q → storedAt s k = some y →
        ∃ t, exec (.frameTxStart n ns) s = .next t ∧ (egrAt t n).sending = some (k, c) ∧
          (egrAt t n).q c = (k :: q).filter (· != k) ∧ (egrAt t n).due = (egrAt s n).due.filter (· != c) ∧
          (∀ m, m ≠ n.val → egrAt t m = egrAt s m) ∧ t.ports = s.ports) ∧
      (chooseClass s n ns = none → ∃ t, exec (.frameTxStart n ns) s = .next t ∧ (egrAt t n).sending = none ∧
        (egrAt t n).queue = (egrAt s n).queue ∧ t.buf.stored = s.buf.stored ∧ t.ports = s.ports)) ∧
    (∀ (ns c : Nat), (∀ e, e < 8 → schedMode s n e ≠ 2) → (egrAt s n).due = [] → c < 8 → schedMode s n c = 1 →
      (headFrame s n c).isSome = true → (∀ e, c < e → e < 8 → schedMode s n e = 1 → headFrame s n e = none) →
      chooseClass s n ns = some (c, (egrAt s n).deficit, false)) ∧
    (∀ (stamp : Dword) (k c : Nat) (y : Stored) (x : Packet), (egrAt s n).sending = some (k, c) →
      storedAt s k = some y → pktAt s k = some x →
      (y.bad = false → ∃ t l, exec (.frameTxDone n stamp) s = .next t ∧ (egrAt t n).sending = none ∧
        t.ports.sent = s.ports.sent ++ { port := n, bytes := departing s x n stamp y.bytes, stomped := false } :: l ∧
        Counted 5 n 8 1 s t ∧ Counted 5 n 9 ((departing s x n stamp y.bytes).length + 4) s t) ∧
      (y.bad = true → ∃ t l, exec (.frameTxDone n stamp) s = .next t ∧ (egrAt t n).sending = none ∧
        t.ports.sent = s.ports.sent ++ { port := n, bytes := departing s x n stamp y.bytes, stomped := true } :: l ∧
        Counted 5 n 11 1 s t) ∧
      (y.copies.any (fun e => e.dest == .port n && e.cut) = true → ∃ t l, exec (.txUnderrun n) s = .next t ∧
        (egrAt t n).sending = none ∧ Counted 5 n 11 1 s t ∧ Counted 17 n 3 1 s t ∧
        t.ports.sent = s.ports.sent ++ { port := n, bytes := y.bytes, stomped := true } :: l)) ∧
    ((egrAt s n).sending = none → (∀ stamp, exec (.frameTxDone n stamp) s = .next s) ∧ exec (.txUnderrun n) s = .next s) ∧
    (∀ c : Fin 8, (egrAt s n).q c ≠ [] →
      (classPaused s n c = false → (egrAt s n).due.contains c.val = false →
        (16 ≤ ticksSince s.tick.count (tgetD (fun _ => 0) (egrAt s n).since c) →
          ∃ t, exec (.egrClassDue n c) s = .next t ∧ (egrAt t n).due = (egrAt s n).due ++ [c.val] ∧
            t.ports = s.ports ∧ t.toune = s.toune) ∧
        (ticksSince s.tick.count (tgetD (fun _ => 0) (egrAt s n).since c) < 16 →
          exec (.egrClassDue n c) s = .next s)) ∧
      (tfind (egrAt s n).stalled c = none →
        (reg s 17 n 0xC).toNat ≤ ticksSince s.tick.count (tgetD (fun _ => 0) (egrAt s n).since c) →
        ∃ t cells, exec (.egrStall n c) s = .next t ∧
          tfind (egrAt t n).stalled c = some (tgetD (fun _ => 0) (egrAt s n).since c) ∧ Counted 17 n 6 1 s t ∧
          Raised [(Ev.egrStall, le 2 n ++ le 1 c ++
            le 4 (ticksSince s.tick.count (tgetD (fun _ => 0) (egrAt s n).since c)) ++ le 4 cells)] s t))

/-- The commands of R163 with their arguments (R618) enter the queue of their bank (R164). -/
def Obligations.RuleCommandsEnterTheirBank : Prop :=
  ∀ (r : Req) (s : State) (b w n z : Nat) (h : Word),
    b = rd r.payload 0 1 → w = bankWidth s b → n = rd r.payload 2 2 → z = 16 + 20 * w → b < 64 →
    zeros r.payload 1 1 = true → newHandle s = some h →
    (Runs Op.ruleWrite r s → zeros r.payload 4 4 = true → 1 ≤ n → n ≤ 64 → r.payload.length = 8 + (4 + z) * n →
      (∀ i, i < n → zeros r.payload (10 + (4 + z) * i) 2 = true ∧ rd r.payload (8 + (4 + z) * i) 2 < 2048 ∧
        rd r.payload (8 + (4 + z) * i) 2 % w = 0 ∧ entryBad (entryRows r.payload (12 + (4 + z) * i) w) = false) →
      (64 ≤ (bankAt s b).queue.length → ∃ t, exec (.ruleWrite r) s = .next t ∧ OnlyAnswers s t ∧
        Answered Op.ruleWrite r St.eBusy [] s t) ∧
      ((bankAt s b).queue.length < 64 → ∃ t, exec (.ruleWrite r) s = .next t ∧ Started Op.ruleWrite r h s t ∧
        RuleQueued b ⟨h, r.session, Op.ruleWrite, .write ((List.range n).map (fun i =>
            (rd r.payload (8 + (4 + z) * i) 2, entryRows r.payload (12 + (4 + z) * i) w)))⟩ s t)) ∧
    (Runs Op.ruleInsert r s → zeros r.payload 4 4 = true → r.payload.length = 8 + z → n < 2048 → n % w = 0 →
      entryBad (entryRows r.payload 8 w) = false → (bankAt s b).queue.length < 64 →
      ∃ t, exec (.ruleInsert r) s = .next t ∧ Started Op.ruleInsert r h s t ∧
        RuleQueued b ⟨h, r.session, Op.ruleInsert, .insert n (entryRows r.payload 8 w)⟩ s t) ∧
    (Runs Op.ruleDelete r s → zeros r.payload 4 4 = true → 1 ≤ n → n ≤ 64 → r.payload.length = 8 + 2 * n →
      (∀ i, i < n → rd r.payload (8 + 2 * i) 2 < 2048 ∧ rd r.payload (8 + 2 * i) 2 % w = 0) →
      (bankAt s b).queue.length < 64 →
      ∃ t, exec (.ruleDelete r) s = .next t ∧ Started Op.ruleDelete r h s t ∧
        RuleQueued b ⟨h, r.session, Op.ruleDelete, .delete ((List.range n).map (fun i => rd r.payload (8 + 2 * i) 2))⟩ s t) ∧
    (Runs Op.bankClear r s → r.payload.length = 8 → zeros r.payload 1 7 = true → (bankAt s b).queue.length < 64 →
      ∃ t, exec (.bankClear r) s = .next t ∧ Started Op.bankClear r h s t ∧
        RuleQueued b ⟨h, r.session, Op.bankClear, .clear⟩ s t) ∧
    (∀ m k, Runs Op.ruleRead r s → r.payload.length = 8 → zeros r.payload 6 2 = true → m = rd r.payload 4 2 → 1 ≤ m →
      m ≤ 64 → n < 2048 → n % w = 0 → (bankAt s b).bad = [] → (bankAt s b).lost = [] →
      k = min (min m (4056 / (4 + z))) ((2048 - n) / w) →
      ∃ t, exec (.ruleRead r) s = .next t ∧ OnlyAnswers s t ∧ Answered Op.ruleRead r St.ok
        (le 2 k ++ le 2 (n + w * k) ++ le 4 0 ++ ((List.range k).map (fun i => le 2 (n + w * i) ++
          le 1 (b2n (rowAt (bankAt s b).shadow (n + w * i)).valid) ++ le 1 0 ++
          entryBytes (bankAt s b).shadow (n + w * i) w)).flatten) s t)

/-- The maintenance port (R165), scrub and repair (R170, R171), the end of an operation (R164), width and pairs. -/
def Obligations.RuleMemoryIsWrittenScrubbedAndPaired : Prop :=
  ∀ (b : Fin 64) (s : State),
    (bankLive s b = true → partnerOf s b = none → (bankAt s b).bad = [] → (bankAt s b).lost = [] →
      (bankAt s b).checks = [] → (bankAt s b).run = none →
      (∀ o r rows, rowDiffers (bankAt s b) (bankWidth s b) (bankAt s b).scrubPos = false → (bankAt s b).queue = [o] →
        o.kind = .write [(r, rows)] → cancelled s o.handle = false → bankWidth s b ≤ slotsLeft s b →
        ∃ t run, exec (.rbMaintTick b {}) s = .next t ∧ (bankAt t b).rows = putRows (bankAt s b).rows r rows ∧
          (bankAt t b).shadow = putRows (bankAt s b).shadow r rows ∧ (bankAt t b).queue = [] ∧
          (bankAt t b).run = none ∧ (bankAt t b).ended = (bankAt s b).ended ++ [run] ∧ run.op = o ∧ run.todo = [] ∧ run.status = St.ok ∧
          run.lastTick = s.tick.count ∧ (handleAt t (handleIdx o.handle)).started = true) ∧
      (rowDiffers (bankAt s b) (bankWidth s b) (bankAt s b).scrubPos = true → (bankAt s b).queue = [] →
        (bankAt s b).scrubAt ≠ some s.tick.count →
        ∃ t, exec (.rbMaintTick b {}) s = .next t ∧ (bankAt t b).shadow = (bankAt s b).shadow ∧
          (bankAt t b).lastRepairRow = (bankAt s b).scrubPos ∧
          (bankAt t b).scrubPos = ((bankAt s b).scrubPos + 1) % 2048 ∧
          counter t (paddr 10 b 5) = min (counter s (paddr 10 b 5) + 1) (2 ^ 32 - 1) ∧
          ((bankAt s b).stuck.contains (bankAt s b).scrubPos = false →
            rowAt (bankAt t b).rows (bankAt s b).scrubPos = rowAt (bankAt s b).shadow (bankAt s b).scrubPos ∧
            t.sys.deferred = s.sys.deferred ∧ t.zal = s.zal ∧
            ∀ k, k ≠ (bankAt s b).scrubPos → rowAt (bankAt t b).rows k = rowAt (bankAt s b).rows k) ∧
          ((bankAt s b).stuck.contains (bankAt s b).scrubPos = true → s.sys.mode ≠ .reset →
            (bankAt t b).rows = (bankAt s b).rows ∧ Recorded 0x14 10 b (bankAt s b).scrubPos s t ∧
            t.sys.deferred = s.sys.deferred ++ [{ due := s.tick.count + 1, change := .unitOut ⟨10, b⟩ 2 }]))) ∧
    ((bankAt s b).ended = [] → exec (.ruleOpDone b) s = .next s) ∧
    (∀ run rest, (bankAt s b).ended = run :: rest →
      ∃ t, exec (.ruleOpDone b) s = .next t ∧ (bankAt t b).ended = rest ∧ (bankAt t b).run = (bankAt s b).run ∧
        (handleAt t (handleIdx run.op.handle)).st = .done ∧ (handleAt t (handleIdx run.op.handle)).status = run.status ∧
        LastRaised Ev.ruleOpDone (le 4 run.op.handle.toNat ++
          le 2 (handleAt s (handleIdx run.op.handle)).opcode ++ le 2 run.status.toNat ++ le 2 run.finalRow ++
          le 2 run.movedLo ++ le 2 run.movedHi ++ le 8 run.lastTick.toNat) t ∧ (bankAt t b).rows = (bankAt s b).rows) ∧
    (∀ c : Fin 3, (widthBlocked s b = true ∨ regField s 10 b 0 1 0 = c.val → exec (.rbWidthWrite b c) s = .next s) ∧
      (widthBlocked s b = false → regField s 10 b 0 1 0 ≠ c.val → ∃ t, exec (.rbWidthWrite b c) s = .next t ∧ bankWidth t b = 2 ^ c.val ∧
        ∀ k, (rowAt (bankAt t b).rows k).valid = false ∧ (rowAt (bankAt t b).shadow k).valid = false)) ∧
    (∀ q : Fin 64, pairRefused s b q = true →
      exec (.rbPairWrite b (BitVec.ofNat 32 (128 + q.val))) s = .next s) ∧
    (∀ q : Fin 64, pairRefused s b q = false → (bankAt s b).bad = [] →
      ∃ t, exec (.rbPairWrite b (BitVec.ofNat 32 (128 + q.val))) s = .next t ∧ partnerOf t b = some q.val ∧
        partnerOf t q = some b.val ∧ unitState t ⟨10, q⟩ = .rejoin ∧ (bankAt t q).shadow = (bankAt s b).shadow ∧
        (bankAt t q).lost = (bankAt s b).lost ∧
        (bankAt t b).rows = (bankAt s b).rows) ∧
    (∀ q : Fin 64, partnerOf s b = some q.val → q ≠ b →
      ∃ t, exec (.rbPairWrite b (BitVec.ofNat 32 q.val)) s = .next t ∧ partnerOf t b = none ∧ partnerOf t q = none ∧
        t.path = s.path)

/-- Loads and switches (R126, R147) and the change of masks (R146). -/
def Obligations.GraphsAndProfilesAreLoadedAndSwitched : Prop :=
  ∀ (r : Req) (s : State) (m : Nat), m = rd r.payload 0 1 → 1 ≤ m → m ≤ 15 →
    (∀ b, Runs Op.graphLoad r s → r.payload.length = 24 → zeros r.payload 1 7 = true → descBytes r 8 s = .ok b →
      (∀ st pl, graphFault b = some (st, pl) → ∃ t, exec (.graphLoad r) s = .next t ∧ OnlyAnswers s t ∧
        Answered Op.graphLoad r st pl s t) ∧
      (graphFault b = none → (∀ p ∈ pipesOf m, bankDraining s p true = false ∧ (pipeAt s p).graphPending = false) →
        ∃ t, exec (.graphLoad r) s = .next t ∧ Answered Op.graphLoad r St.ok [] s t ∧
          Raised ((pipesOf m).map (fun p => (Ev.graphLoaded,
            le 1 p ++ le 1 (b2n !(pipeAt s p).graphActive) ++ le 4 (rd b 0x0C 4)))) s t ∧
          (∀ p ∈ pipesOf m, idleGraph (pipeAt t p) = { valid := true, image := b } ∧
            activeGraph (pipeAt t p) = activeGraph (pipeAt s p)) ∧
          ∀ p, p ∉ pipesOf m → pipeAt t p = pipeAt s p)) ∧
    (Runs Op.graphSwitch r s → r.payload.length = 8 → zeros r.payload 1 7 = true →
      ((∃ p ∈ pipesOf m, (idleGraph (pipeAt s p)).valid = false) →
        ∃ t, exec (.graphSwitch r) s = .next t ∧ OnlyAnswers s t ∧ Answered Op.graphSwitch r St.eArg [] s t) ∧
      ((∀ p ∈ pipesOf m, (idleGraph (pipeAt s p)).valid = true ∧ (pipeAt s p).graphPending = false) →
        ∃ t, exec (.graphSwitch r) s = .next t ∧ Waits Op.graphSwitch r (.graphSwitch m) s t ∧
          ∀ p, pipeAt t p = if p ∈ pipesOf m then { pipeAt s p with graphPending := true } else pipeAt s p)) ∧
    (∀ b, Runs Op.profileLoad r s → r.payload.length = 24 → zeros r.payload 1 7 = true → descBytes r 8 s = .ok b →
      (∀ st pl, profileFaultOn (fun j k => (pipesOf m).any (fun p => lookupBreach s p b j k)) b = some (st, pl) →
        ∃ t, exec (.profileLoad r) s = .next t ∧ OnlyAnswers s t ∧ Answered Op.profileLoad r st pl s t) ∧
      (profileFaultOn (fun j k => (pipesOf m).any (fun p => lookupBreach s p b j k)) b = none →
        (∀ p ∈ pipesOf m, bankDraining s p false = false ∧ (pipeAt s p).profPending = false) →
        ∃ t, exec (.profileLoad r) s = .next t ∧ Answered Op.profileLoad r St.ok [] s t ∧
          Raised ((pipesOf m).map (fun p => (Ev.profileLoaded,
            le 1 p ++ le 1 (b2n !(pipeAt s p).profActive) ++ le 4 (rd b 0x0C 4)))) s t ∧
          (∀ p ∈ pipesOf m, idleProf (pipeAt t p) = { valid := true, image := b } ∧
            activeProf (pipeAt t p) = activeProf (pipeAt s p)) ∧
          ∀ p, p ∉ pipesOf m → pipeAt t p = pipeAt s p)) ∧
    (∀ wg : Bool, Runs Op.profileSwitch r s → r.payload.length = 8 → rd r.payload 1 1 = b2n wg →
      zeros r.payload 2 6 = true →
      ((∃ p ∈ pipesOf m, profileSwitchBad s wg p = true) →
        ∃ t, exec (.profileSwitch r) s = .next t ∧ OnlyAnswers s t ∧ Answered Op.profileSwitch r St.eArg [] s t) ∧
      ((∀ p ∈ pipesOf m, profileSwitchBad s wg p = false ∧ (pipeAt s p).profPending = false ∧
          (pipeAt s p).commitPending = false ∧ (wg = true → (pipeAt s p).graphPending = false)) →
        ∃ t, exec (.profileSwitch r) s = .next t ∧ Waits Op.profileSwitch r (.profileSwitch m wg) s t ∧
          ∀ p, pipeAt t p = if p ∈ pipesOf m then { pipeAt s p with profPending := true, graphPending := (pipeAt s p).graphPending || wg }
            else pipeAt s p)) ∧
    (∀ n, Runs Op.bankmaskCommit r s → n = rd r.payload 2 2 → r.payload.length = 8 + 4 * n → 1 ≤ n → n ≤ 256 →
      zeros r.payload 1 1 = true → zeros r.payload 4 4 = true →
      ((∃ p ∈ pipesOf m, (activeProf (pipeAt s p)).valid = false) →
        ∃ t, exec (.bankmaskCommit r) s = .next t ∧ OnlyAnswers s t ∧ Answered Op.bankmaskCommit r St.eArg [] s t) ∧
      ((∀ p ∈ pipesOf m, (activeProf (pipeAt s p)).valid = true ∧ (pipeAt s p).profPending = false ∧
          badProfile s p (withMasks (imageAhead s p) (commitItems r.payload n)) = none ∧
          ∀ i ∈ commitItems r.payload n, i.1 < 64 ∧ i.2.1 < 4 ∧
            bitOf (rd (imageAhead s p) (profOff i.1) 1) 0 = true ∧
            bitOf (rd (imageAhead s p) (lookOff i.1 i.2.1 + 3) 1) 0 = true) →
        ∃ t, exec (.bankmaskCommit r) s = .next t ∧
          Waits Op.bankmaskCommit r (.bankMask m (commitItems r.payload n)) s t ∧
          ∀ p, pipeAt t p = if p ∈ pipesOf m then { pipeAt s p with commitPending := true } else pipeAt s p)) ∧
    (∀ p : Fin 4,
      ((reg s 8 p 3).toNat = 0 ∨ recentSum s (pipeAt s p).flagged ≤ (reg s 8 p 3).toNat ∨
          raisedInPeriod s (65536 * Ev.parseErrRate + p) = true → exec (.parseErrRate p) s = .next s) ∧
      (0 < (reg s 8 p 3).toNat → (reg s 8 p 3).toNat < recentSum s (pipeAt s p).flagged →
        raisedInPeriod s (65536 * Ev.parseErrRate + p) = false →
        ∃ t, exec (.parseErrRate p) s = .next t ∧ raisedInPeriod t (65536 * Ev.parseErrRate + p) = true ∧
          Raised [(Ev.parseErrRate, le 1 p ++ le 4 (recentSum s (pipeAt s p).flagged))] s t ∧ t.path = s.path))

/-- The table commands (R194, R202), the maintenance port (R190), learning (R192) and REHASH (R201). -/
def Obligations.ForwardingTablesAreWrittenReadAndRehashed : Prop :=
  ∀ (r : Req) (s : State) (n : Nat) (h : Word), n = rd r.payload 2 2 → newHandle s = some h →
    (∀ t m, Runs Op.tableWrite r s → t = rd r.payload 0 1 → t ≤ 6 → m = rd r.payload 1 1 → 1 ≤ m → m ≤ 15 → 1 ≤ n →
      n ≤ 64 → zeros r.payload 4 4 = true → r.payload.length = 8 + writeItemSize t * n →
      (∀ b ∈ itemsOf (writeItemSize t) n (r.payload.drop 8), ∀ p ∈ pipesOf m, writeItemBad s p t b = false) →
      ∃ u, exec (.tableWrite r) s = .next u ∧ Started Op.tableWrite r h s u ∧
        TableQueued Op.tableWrite h t m (itemsOf (writeItemSize t) n (r.payload.drop 8)) s u) ∧
    (∀ t m, Runs Op.tableDelete r s → t = rd r.payload 0 1 → t ≤ 6 → m = rd r.payload 1 1 → 1 ≤ m → m ≤ 15 → 1 ≤ n →
      n ≤ 64 → zeros r.payload 4 4 = true → r.payload.length = 8 + deleteItemSize t * n →
      (∀ b ∈ itemsOf (deleteItemSize t) n (r.payload.drop 8), deleteItemBad t b = false) →
      ∃ u, exec (.tableDelete r) s = .next u ∧ Started Op.tableDelete r h s u ∧
        TableQueued Op.tableDelete h t m (itemsOf (deleteItemSize t) n (r.payload.drop 8)) s u) ∧
    (∀ m, Runs Op.l2Flush r s → m = rd r.payload 0 1 → 1 ≤ m → m ≤ 15 → r.payload.length = 8 → rd r.payload 1 1 ≤ 7 →
      rd r.payload 1 1 % 4 ≠ 0 → rd r.payload 4 2 ≤ 4095 → zeros r.payload 6 2 = true →
      ∃ u, exec (.l2Flush r) s = .next u ∧ Started Op.l2Flush r h s u ∧
        TableQueued Op.l2Flush h 0 m [r.payload] s u) ∧
    (∀ p start k, Runs Op.tableRead r s → rd r.payload 0 1 = 4 → p = rd r.payload 1 1 → p ≤ 3 → 1 ≤ n → n ≤ 64 →
      r.payload.length = 16 → zeros r.payload 8 8 = true → start = rd r.payload 4 4 →
      (131072 ≤ start → ∃ u, exec (.tableRead r) s = .next u ∧ OnlyAnswers s u ∧
        Answered Op.tableRead r St.eRange [] s u) ∧
      (start < 131072 → k = min n (131072 - start) → ∃ u, exec (.tableRead r) s = .next u ∧ OnlyAnswers s u ∧
        Answered Op.tableRead r St.ok (le 2 k ++ le 2 0 ++
          le 4 (if start + k < 131072 then start + k else 0xFFFFFFFF) ++ ((List.range k).map (fun i =>
            le 4 (start + i) ++ le 16 (tgetD (fun _ => 0) (fwdAt s p).nh (start + i)).toNat)).flatten) s u)) ∧
    (∀ t m, Runs Op.rehash r s → m = rd r.payload 0 1 → 1 ≤ m → m ≤ 15 → t = rd r.payload 1 1 → t ≤ 1 →
      r.payload.length = 16 → zeros r.payload 2 2 = true → zeros r.payload 12 4 = true → rd r.payload 4 8 ≠ 0 →
      (∀ p ∈ pipesOf m, ∀ g ∈ (fwdAt s p).rehash, g.table ≠ t) →
      ∃ u, exec (.rehash r) s = .next u ∧ Started Op.rehash r h s u ∧
        ∀ p, fwdAt u p = if p ∈ pipesOf m then { fwdAt s p with
            rehash := (fwdAt s p).rehash ++ [{ handle := h, session := r.session, table := t
                                               new0 := BitVec.ofNat 32 (rd r.payload 4 4)
                                               new1 := BitVec.ofNat 32 (rd r.payload 8 4) }] }
          else fwdAt s p) ∧
    (∀ p : Fin 4, (unitState s ⟨7, p⟩ = .rejoin ∨ (fwdAt s p).portAt = some s.tick.count → exec (.fwdMaintTick p) s = .next s) ∧
      (unitState s ⟨7, p⟩ ≠ .rejoin → (fwdAt s p).portAt ≠ some s.tick.count → (fwdAt s p).syncIn = [] → (fwdAt s p).rehash = [] →
        (∀ o b, s.path.tableOps = [o] → o.opcode = Op.tableWrite → o.table = 4 → o.items = [b] →
          tfind o.waiting p = some 0 → (fwdAt s p).learns = [] →
          ∃ u o', exec (.fwdMaintTick p) s = .next u ∧ u.path.tableOps = [o'] ∧ tfind o'.waiting p = none ∧
            o'.handle = o.handle ∧ o'.lastTick = s.tick.count ∧
            (∀ k, tgetD (fun _ => 0) (fwdAt u p).nh k =
              if k = rd b 0 4 then BitVec.ofNat 128 (rd b 4 16) else tgetD (fun _ => 0) (fwdAt s p).nh k) ∧
            ∀ q, q ≠ p.val → fwdAt u q = fwdAt s q) ∧
        (∀ l, s.path.tableOps = [] → (fwdAt s p).learns = [l] → (fwdAt s p).l2 = [] →
          bitOf (reg s 12 p 1).toNat 1 = false →
          ∃ u, exec (.fwdMaintTick p) s = .next u ∧ Counted 12 p 0 1 s u ∧ (fwdAt u p).learns = [] ∧
            l2Find (fwdAt u p) l.mac l.vlan = some { mac := l.mac, vlan := l.vlan, dest := l.port } ∧
            ∀ q, q ≠ p.val → fwdAt u q = fwdAt s q))) ∧
    ((∀ o ∈ s.path.tableOps, o.waiting ≠ []) → exec .tableOpDone s = .next s) ∧
    (∀ o, s.path.tableOps = [o] → o.waiting = [] → o.status.all (fun e => e.2 == St.ok) = true →
      ∃ u, exec .tableOpDone s = .next u ∧ u.path.tableOps = [] ∧ (handleAt u (handleIdx o.handle)).st = .done ∧
        (handleAt u (handleIdx o.handle)).status = St.ok ∧
        LastRaised Ev.tableOpDone (le 4 o.handle.toNat ++ le 2 (handleAt s (handleIdx o.handle)).opcode ++ le 2 0 ++
          le 8 0 ++ le 8 o.lastTick.toNat) u) ∧
    (∀ (p : Fin 4) g, (fwdAt s p).rehash = [g] → cancelled s g.handle = false → g.table = 0 →
      (g.running = false ∨ g.walked < 131072 → exec (.rehashDone p) s = .next s) ∧
      (g.running = true → 131072 ≤ g.walked →
        (∀ e ∈ (fwdAt s p).l2, placedNew l2Kind (g.new0, g.new1) e.1 e.2 = true) →
        (∀ q, q < 4 → q ≠ p.val → ∀ x ∈ (fwdAt s q).rehash, x.handle ≠ g.handle) →
        ∃ u, exec (.rehashDone p) s = .next u ∧ (fwdAt u p).rehash = [] ∧ (fwdAt u p).l2 = (fwdAt s p).l2 ∧
          (fwdAt u p).seeds = ((fwdAt s p).seeds.set 0 g.new0).set 1 g.new1 ∧
          (handleAt u (handleIdx g.handle)).st = .done ∧ (handleAt u (handleIdx g.handle)).status = g.worst))

/-- The life of a packet's operation in its slice (R245, R249, R285, R286). -/
def Obligations.PacketOperationsPassThroughTheSlice : Prop :=
  ∀ (n : Fin 16) (s : State), s.flow.cmds = [] →
    (∀ u u2 : ReadUpset, (slAt s n).hostQ = [] →
      (accepting (slAt s n) = false ∨ packetRoom s n = false ∨ (∀ src, src < 5 → sourceReady s n src = false) →
        exec (.flowOpAccept n u u2) s =
          .next (modSl n (fun x => { x with srcTurn := (x.srcTurn + 1) % 5 }) s)) ∧
      (∀ (p : Fin 4) op q, accepting (slAt s n) = true → packetRoom s n = true → inputAt s n p = [op] →
        (∀ m, m ≠ p.val → inputAt s n m = []) → (slAt s n).forwards = [] → s.flow.issue = [] → s.flow.cross = [] →
        op.kind = .packet q → flightAt s n op.digest = none →
        (∀ k w e, hearthFind (slAt s n) op.digest op.key = some (k, w) → readCopy (slAt s n) 0 k u w.entry = some e →
          isPtr e = false → ∃ t, exec (.flowOpAccept n u u2) s = .next t ∧
            flightAt t n op.digest = some { digest := op.digest, ops := [op], phase := .execute 0 k false } ∧
            inputAt t n p = [] ∧ (slAt t n).cycles = (slAt s n).cycles + 1) ∧
        (hearthFind (slAt s n) op.digest op.key = none → chanIn s n (bucket0 (stackBuckets s) op.digest) = true →
          ∃ t, exec (.flowOpAccept n u u2) s = .next t ∧
            flightAt t n op.digest = some { digest := op.digest, ops := [op], phase := .probe } ∧
            inputAt t n p = [] ∧ (slAt t n).cycles = (slAt s n).cycles + 1))) ∧
    (∀ (d : Dword) (f : Flight) (op : FlowOp) (q : FlowReq), headOp s n d = some (f, op) → op.digest = d →
      op.kind = .packet q →
      (∀ u, (f.phase ≠ .probe ∨ digestRoom s n d = false → exec (.stackProbeReply n d u) s = .next s) ∧
        (f.phase = .probe → digestRoom s n d = true → chanIn s n (bucket0 (stackBuckets s) d) = true →
          (∀ k e e', stackFind s (slAt s n) d op.key = some k → tfind (slAt s n).stack k = some e →
            readCopy (slAt s n) 1 k u e = some e' → isPtr e' = false → Readable (slAt s n) → ∃ t, exec (.stackProbeReply n d u) s = .next t ∧
              flightAt t n d = some { f with phase := .execute 1 k false }) ∧
          (stackFind s (slAt s n) d op.key = none → coldTier s n = true →
            ∃ t, exec (.stackProbeReply n d u) s = .next t ∧ flightAt t n d = some { f with phase := .summary }) ∧
          (stackFind s (slAt s n) d op.key = none → coldTier s n = false → f.ops = [op] → q.disp = 2 ∨ q.disp = 3 →
            ∃ t r, exec (.stackProbeReply n d u) s = .next t ∧ flightAt t n d = none ∧ r.pkt = q.pkt ∧
              r.verdict = (if q.disp = 3 then 0 else 1) ∧
              tgetD (fun _ => []) t.flow.results (16 * q.pipe + n) =
                tgetD (fun _ => []) s.flow.results (16 * q.pipe + n) ++ [r]))) ∧
      (f.phase ≠ .summary ∨ digestRoom s n d = false → ∀ ue, exec (.coldSummaryRead n d ue) s = .next s) ∧
      (∀ k ks, f.phase = .summary → digestRoom s n d = true → chanIn s n (bucket0 (stackBuckets s) d) = true →
        sumBad (slAt s n) (bucket0 (stackBuckets s) d) = false → turfCands s (slAt s n) d = k :: ks →
        inService s 15 n = true → ∃ t, exec (.coldSummaryRead n d false) s = .next t ∧
          flightAt t n d = some { f with phase := .turf (k :: ks) }) ∧
      (∀ k ks u e e', f.phase = .turf (k :: ks) → inService s 15 n = true → tfind (slAt s n).turf k = some e →
        turfRoom s n = true → readCopy (slAt s n) 2 k u e = some e' → answers s op e' = true →
        (slAt s n).holdQ.length < 4096 → ∃ t, exec (.turfCandidateRead n d u) s = .next t ∧
          flightAt t n d = some { f with phase := .hold k e' s.tick.count } ∧
          (slAt t n).holdQ = (slAt s n).holdQ ++ [d]) ∧
      (∀ k e t0 rest, f.phase = .hold k e t0 → (slAt s n).holdQ = d :: rest → (slAt s n).hearth = [] →
        ((slAt s n).promoteLeft = 0 ∨ backAllows s n 1 = false → exec (.promotionGrant n) s = .next s) ∧
        ((slAt s n).promoteLeft ≠ 0 → backAllows s n 1 = true → Readable (slAt s n) → isPtr e = false → inService s 15 n = true →
          chanIn s n (bucket0 (stackBuckets s) d) = true → clearSlots (slAt s n) + entrySlots e ≤ 64 →
          stackRoom s n d (entrySlots e) = true →
          ∃ t i w, exec (.promotionGrant n) s = .next t ∧ (slAt t n).holdQ = rest ∧
            flightAt t n d = some { f with phase := .execute 2 k false } ∧
            (slAt t n).clears = (slAt s n).clears ++ [(k, d)] ∧
            (slAt t n).promoteLeft = (slAt s n).promoteLeft - 1 ∧
            hearthFind (slAt t n) d none = some (i, w) ∧ w.entry = e ∧ tfind (slAt t n).stack w.slot = some e)) ∧
      (∀ rest, (slAt s n).createQ = d :: rest → (slAt s n).hearth = [] →
        ((slAt s n).createLeft = 0 ∨ backAllows s n 0 = false → exec (.createGrant n) s = .next s) ∧
        (∀ b, (slAt s n).createLeft ≠ 0 → backAllows s n 0 = true → Readable (slAt s n) → b = templateAt s q.template → bitOf (rd b 1 1) 0 = true →
          bitOf (rd b 1 1) 1 = false → bitOf (rd b 1 1) 3 = false → bitsOf (rd b 3 1) 6 4 = 0 →
          (keyType (plainKey q.key) = 0x11 ∨ wideOnly s (rd b 0 1) = false) → anyDigest s n d = none →
          stackRoom s n d (if keyType (plainKey q.key) = 0x11 then 2 else 1) = true →
          ∃ t i w, exec (.createGrant n) s = .next t ∧ (slAt t n).createQ = rest ∧
            (slAt t n).createLeft = (slAt s n).createLeft - 1 ∧
            flightAt t n d = some { f with phase := .execute 3 0 true } ∧
            hearthFind (slAt t n) d none = some (i, w) ∧
            w.entry = templateRecord s.tick.count b (plainKey q.key) [] ∧
            tfind (slAt t n).stack w.slot = some w.entry)) ∧
      (∀ tier slot created k e e1 r, f.phase = .execute tier slot created → f.ops = [op] →
        locate s n d op.key = .hit ⟨1, k⟩ e → isPtr e = false →
        (created = true → ∀ m ∈ (slAt s n).made, m.1 = d → m.2 = templateAt s q.template) →
        e1 = (if created then putLastTick s.tick.count (splice e (firstOff e) (le 6 s.tick.count.toNat)) else e) →
        r = runProgram s.flow.prog ⟨s.tick.count, false, created, q.size, q.flags, q.ruleDrop, lastTickOf e1⟩ e1 →
        r.retire = none → r.supervise = [] →
        ∃ t, exec (.flowOpExecute n d) s = .next t ∧ flightAt t n d = none ∧
          tfind (slAt t n).stack k = some (withTag r.rec') ∧
          tgetD (fun _ => []) t.flow.results (16 * q.pipe + n) = tgetD (fun _ => []) s.flow.results (16 * q.pipe + n) ++
            [{ runResult false tier slot created r with pkt := q.pkt, digest := d, viaPtr := false }]))

/-- Wait limits (R50, R252) and the timer wheel (R320, R321). -/
def Obligations.WaitingOperationsAreResolvedInTime : Prop :=
  ∀ (n : Fin 16) (s : State), s.flow.cmds = [] →
    (∀ d rest f op q since, headOp s n d = some (f, op) → f.ops = [op] → op.kind = .packet q →
      ((slAt s n).createQ = d :: rest → f.phase = .createQ since →
        (ticksSince s.tick.count since < waitLimit s → exec (.createExpired n) s = .next s) ∧
        (waitLimit s ≤ ticksSince s.tick.count since → overflowOf s q.template = 0 →
          ∃ t r, exec (.createExpired n) s = .next t ∧ (slAt t n).createQ = rest ∧ flightAt t n d = none ∧
            counter t (paddr 13 n 0x62) = min (counter s (paddr 13 n 0x62) + 1) (2 ^ 32 - 1) ∧ r.pkt = q.pkt ∧
            r.verdict = 1 ∧ tgetD (fun _ => []) t.flow.results (16 * q.pipe + n) =
              tgetD (fun _ => []) s.flow.results (16 * q.pipe + n) ++ [r])) ∧
      (∀ k e, (slAt s n).holdQ = d :: rest → f.phase = .hold k e since →
        (ticksSince s.tick.count since < waitLimit s → exec (.holdExpired n) s = .next s) ∧
        (waitLimit s ≤ ticksSince s.tick.count since →
          ∃ t r, exec (.holdExpired n) s = .next t ∧ (slAt t n).holdQ = rest ∧ flightAt t n d = none ∧
            counter t (paddr 13 n 0x63) = min (counter s (paddr 13 n 0x63) + 1) (2 ^ 32 - 1) ∧ r.pkt = q.pkt ∧
            r.verdict = (if q.disp = 3 then 0 else 1) ∧
            tgetD (fun _ => []) t.flow.results (16 * q.pipe + n) =
              tgetD (fun _ => []) s.flow.results (16 * q.pipe + n) ++ [r])) ∧
      (∀ p ps, (slAt s n).punts = p :: ps → p.digest = d →
        (ticksSince s.tick.count p.since < regField s 13 n 4 15 0 → exec (.puntTimeout n) s = .next s) ∧
        (regField s 13 n 4 15 0 ≤ ticksSince s.tick.count p.since →
          ∃ t r, exec (.puntTimeout n) s = .next t ∧ (∀ x ∈ (slAt t n).punts, x.digest ≠ d) ∧ flightAt t n d = none ∧
            counter t (paddr 13 n 0x4B) = min (counter s (paddr 13 n 0x4B) + 1) (2 ^ 32 - 1) ∧ r.pkt = q.pkt ∧
            r.verdict = (if regField s 13 n 4 17 16 = 1 then 0 else 1) ∧
            tgetD (fun _ => []) t.flow.results (16 * q.pipe + n) =
              tgetD (fun _ => []) s.flow.results (16 * q.pipe + n) ++ [r]))) ∧
    ((∀ w ∈ (slAt s n).wheel, due s w = false) ∨ supervises s = false → exec (.wheelExamine n) s = .next s) ∧
    (∀ w, supervises s = true → (slAt s n).wheel = [w] → due s w = true → ∃ t, exec (.wheelExamine n) s = .next t ∧
      (slAt t n).wheel = [{ w with fired := true }] ∧
      (slAt t n).expiry = (slAt s n).expiry ++ [(w.digest, w.deadline)] ∧
      counter t (paddr 13 n 0x60) = min (counter s (paddr 13 n 0x60) + 1) (2 ^ 32 - 1)) ∧
    ((slAt s n).expiry = [] ∨ supervises s = false ∨ ownRoom s n 1 = 0 → exec (.expiryOp n) s = .next s) ∧
    (∀ d t0 rest w k e, supervises s = true → ownRoom s n 1 ≠ 0 → (slAt s n).expiry = (d, t0) :: rest →
      flightAt s n d = none → wheelOf (slAt s n) d = some w → w.fired = true → w.deadline = t0 → silences s e = false →
      (locate s n d none = .hit ⟨0, k⟩ e → ∃ t v, exec (.expiryOp n) s = .next t ∧ (slAt t n).expiry = rest ∧
        tfind (slAt t n).hearth k = some v ∧ v.entry = withTag (putCtlField 7 7 0 e)) ∧
      (locate s n d none = .hit ⟨1, k⟩ e → (slAt s n).hearth = [] →
        ∃ t i v, exec (.expiryOp n) s = .next t ∧ (slAt t n).expiry = rest ∧
          hearthFind (slAt t n) d none = some (i, v) ∧ v.entry = withTag (putCtlField 7 7 0 e)))

/-- The flow-access commands (R256 to R260, R252, R620), one item each. -/
def Obligations.HostItemsReadAndChangeRecords : Prop :=
  ∀ (r : Req) (s : State),
    (∀ op c, (op, c) ∈ [(Op.flowRead, Instr.flowRead), (Op.flowWrite, Instr.flowWrite),
        (Op.flowModify, Instr.flowModify), (Op.flowDelete, Instr.flowDelete),
        (Op.flowPuntRelease, Instr.flowPuntRelease)] → Runs op r s → flowItems op r.payload = none →
      ∃ t, exec (c r) s = .next t ∧ OnlyAnswers s t ∧ Answered op r St.eArg [] s t) ∧
    (∀ b d n, Runs Op.flowRead r s → flowItems Op.flowRead r.payload = some [b] →
      d = digestOf s (plainKey (keyIn b)) → n = homeOf d → isPtr b = false → flightAt s n d = none →
      (slAt s n).hostQ = [] → 0 < ownRoom s n 0 →
      (∀ p e, locate s n d (some (keyIn b)) = .hit p e → e.length ≤ 128 → ∃ t, exec (.flowRead r) s = .next t ∧
        Answered Op.flowRead r St.ok (le 2 1 ++ le 2 1 ++ le 4 0 ++ outRead oDone p.tier e) s t ∧
        (p.tier ≠ 1 ∨ (slAt s n).hearth = [] → (slAt t n).stack = (slAt s n).stack ∧ (slAt t n).turf = (slAt s n).turf ∧
          ∀ m, m ≠ n → slAt t m = slAt s m)) ∧
      (locate s n d (some (keyIn b)) = .miss → ∃ t, exec (.flowRead r) s = .next t ∧
        Answered Op.flowRead r St.ok (le 2 1 ++ le 2 1 ++ le 4 0 ++ outRead oAbsent 3 []) s t ∧
        (slAt t n).hearth = (slAt s n).hearth ∧ (slAt t n).stack = (slAt s n).stack ∧
        (slAt t n).turf = (slAt s n).turf ∧ ∀ m, m ≠ n → slAt t m = slAt s m)) ∧
    (∀ b d n e e1, Runs Op.flowWrite r s → flowItems Op.flowWrite r.payload = some [b] → e = b.drop 8 →
      d = digestOf s (keyOf e) → n = homeOf d → flightAt s n d = none → (slAt s n).hostQ = [] →
      0 < ownRoom s n 0 → Readable (slAt s n) → tagOk e = true →
      writeBad s e (rd b 2 2) = false → rd b 0 1 ≠ 1 → bitOf (rd b 1 1) 0 = false →
      e1 = putCtl (setBits (setBits (setBits (ctl e) 3 3 0) 7 7 0) 26 25 1) e → isPinned e1 = false → actKind e1 ≤ 1 →
      locate s n d (some (keyOf e)) = .miss → anyDigest s n d = none → stackRoom s n d (entrySlots e1) = true →
      ∃ t k, exec (.flowWrite r) s = .next t ∧
        Answered Op.flowWrite r St.ok (le 2 1 ++ le 2 1 ++ le 4 0 ++ out4 oDone 1) s t ∧
        tfind (slAt t n).stack k = some (withTag e1)) ∧
    (∀ b d n k e, Runs Op.flowModify r s → flowItems Op.flowModify r.payload = some [b] →
      d = digestOf s (plainKey (keyIn b)) → n = homeOf d → flightAt s n d = none → modifyBad s b = false →
      (slAt s n).hostQ = [] → 0 < ownRoom s n 0 → isPtr e = false → actKind (modified b e) = actKind e →
      isPinned (modified b e) = false → intervalOf (modified b e) % 16384 = 0 →
      (locate s n d (some (keyIn b)) = .hit ⟨0, k⟩ e → ∃ t v, exec (.flowModify r) s = .next t ∧
        Answered Op.flowModify r St.ok (le 2 1 ++ le 2 1 ++ le 4 0 ++ out4 oDone 0) s t ∧
        tfind (slAt t n).hearth k = some v ∧ v.entry = withTag (modified b e)) ∧
      (locate s n d (some (keyIn b)) = .hit ⟨1, k⟩ e → (slAt s n).hearth = [] →
        ∃ t i v, exec (.flowModify r) s = .next t ∧
          Answered Op.flowModify r St.ok (le 2 1 ++ le 2 1 ++ le 4 0 ++ out4 oDone 1) s t ∧
          hearthFind (slAt t n) d none = some (i, v) ∧ v.entry = withTag (modified b e))) ∧
    (∀ b d n k e, Runs Op.flowDelete r s → flowItems Op.flowDelete r.payload = some [b] →
      d = digestOf s (plainKey (keyIn b)) → n = homeOf d → flightAt s n d = none → isPtr b = false →
      (slAt s n).hostQ = [] → 0 < ownRoom s n 0 →
      locate s n d (some (keyIn b)) = .hit ⟨1, k⟩ e → tfind (slAt s n).stack k = some e → isPtr e = false →
      ∃ t, exec (.flowDelete r) s = .next t ∧
        Answered Op.flowDelete r St.ok (le 2 1 ++ le 2 1 ++ le 4 0 ++ out4 oDone 1) s t ∧
        tfind (slAt t n).stack k = none ∧
        counter t (paddr 13 n 0x4E) = min (counter s (paddr 13 n 0x4E) + 1) (2 ^ 32 - 1)) ∧
    (∀ b d n f op q, Runs Op.flowPuntRelease r s → flowItems Op.flowPuntRelease r.payload = some [b] →
      d = digestOf s (plainKey (keyIn b)) → n = homeOf d → isPtr b = false →
      (slAt s n).hostQ = [] → 0 < ownRoom s n 0 →
      (slAt s n).punts.any (fun p => p.digest == d) = true → flightAt s n d = some f → f.phase = .punted → f.ops = [op] →
      op.kind = .packet q → op.key = some (plainKey (keyIn b)) →
      ∃ t x, exec (.flowPuntRelease r) s = .next t ∧
        Answered Op.flowPuntRelease r St.ok (le 2 1 ++ le 2 1 ++ le 4 0 ++ out4 oDone 3) s t ∧
        flightAt t n d = none ∧ (∀ p ∈ (slAt t n).punts, p.digest ≠ d) ∧ x.pkt = q.pkt ∧
        x.verdict = (if rd b 48 1 = 1 then 0 else 1) ∧
        tgetD (fun _ => []) t.flow.results (16 * q.pipe + n) =
          tgetD (fun _ => []) s.flow.results (16 * q.pipe + n) ++ [x])

/-- Sweeps (R255), repins (R314) and evacuations (R423). -/
def Obligations.PassesOverTheRecordsRunAndEnd : Prop :=
  ∀ (r : Req) (s : State) (h : Word), newHandle s = some h →
    (Runs Op.flowSweep r s → r.payload.length = 16 → rd r.payload 4 1 ∈ [0, 1, 2, 0x11] → rd r.payload 5 1 ≤ 7 →
      zeros r.payload 14 2 = true →
      (s.flow.sweep ≠ none → ∃ t, exec (.flowSweep r) s = .next t ∧ OnlyAnswers s t ∧
        Answered Op.flowSweep r St.eBusy [] s t) ∧
      (s.flow.sweep = none → ∃ t, exec (.flowSweep r) s = .next t ∧ Started Op.flowSweep r h s t ∧
        t.flow = { s.flow with
          sweep := some { handle := h, opcode := Op.flowSweep, arg := r.payload, left := maskSlices (rd r.payload 6 2) } })) ∧
    (Runs Op.flowRepin r s → r.payload.length = 16 → bitOf (rd r.payload 0 4) 31 = true →
      bitsOf (rd r.payload 0 4) 30 17 = 0 → rd r.payload 8 1 ≤ 2 → rd r.payload 9 1 ≤ 63 → zeros r.payload 12 4 = true →
      (rd r.payload 8 1 = 0 → bitsOf (rd r.payload 4 4) 30 17 = 0 ∧ memberKind2 s (rd r.payload 4 4) = false) →
      (s.flow.sweep ≠ none → ∃ t, exec (.flowRepin r) s = .next t ∧ OnlyAnswers s t ∧
        Answered Op.flowRepin r St.eBusy [] s t) ∧
      (s.flow.sweep = none → ∃ t, exec (.flowRepin r) s = .next t ∧ Started Op.flowRepin r h s t ∧
        t.flow = { s.flow with
          sweep := some { handle := h, opcode := Op.flowRepin, arg := r.payload, left := maskSlices (rd r.payload 10 2) } })) ∧
    (Runs Op.turfEvacuate r s → r.payload.length = 2 →
      (∀ e ∈ s.flow.evacs, Nat.land (rd e.arg 0 2) (rd r.payload 0 2) = 0) →
      ∃ t, exec (.turfEvacuate r) s = .next t ∧ Started Op.turfEvacuate r h s t ∧
        t.flow.evacs = s.flow.evacs ++
          [{ handle := h, opcode := Op.turfEvacuate, arg := r.payload, left := maskSlices (rd r.payload 0 2) }] ∧
        ∀ n, slAt t n = if n < 16 ∧ bitOf (rd r.payload 0 2) n = true then { slAt s n with demoteStop := true }
          else slAt s n) ∧
    (∀ n : Fin 16, s.flow.cmds = [] →
      (s.flow.sweep = none → s.flow.evacs = [] → exec (.sweepTick n) s = .next s) ∧
      (∀ p k e d, s.flow.sweep = some p → s.flow.evacs = [] → p.opcode = Op.flowSweep → tfind p.left n = some 0 →
        cancelled s p.handle = false → bitOf (rd p.arg 5 1) 1 = false → bitOf (rd p.arg 5 1) 2 = true →
        (slAt s n).stack = [(k, e)] → d = digestOf s (keyOf e) → locate s n d none = .hit ⟨1, k⟩ e →
        flightAt s n d = none → sweepMatch s p.arg e = true → (slAt s n).expiry.length < ownRoom s n 1 →
        ∃ t, exec (.sweepTick n) s = .next t ∧ tfind (slAt t n).stack k = none ∧
          t.flow.sweep = some { p with left := terase p.left n, examined := p.examined + 1, matched := p.matched + 1,
                                       changed := p.changed + 1 } ∧
          counter t (paddr 13 n 0x4E) = min (counter s (paddr 13 n 0x4E) + 1) (2 ^ 32 - 1)) ∧
      (∀ p k e d, s.flow.sweep = none → s.flow.evacs = [p] → tfind p.left n = some 0 → cancelled s p.handle = false →
        coldTier s n = true → (slAt s n).turf = [(k, e)] → clearing (slAt s n) k = false → d = digestOf s (keyOf e) →
        flightAt s n d = none → stackRoom s n d (entrySlots e) = true → 0 < ownRoom s n 3 → turfRoom s n = true →
        Readable (slAt s n) → readCopy (slAt s n) 2 k {} e ≠ none →
        ∃ t j, exec (.sweepTick n) s = .next t ∧ (slAt t n).turf = [] ∧ tfind (slAt t n).stack j = some e ∧
          t.flow.evacs = [{ p with left := terase p.left n, examined := p.examined + 1, changed := p.changed + 1,
                                   moved := tput p.moved n (tgetD (fun _ => 0) p.moved n + 1) }])) ∧
    (∀ p, s.flow.sweep = some p → cancelled s p.handle = false →
      (p.opcode = Op.flowSweep → (p.out ≠ 0 ∨ p.left ≠ [] → exec .flowSweepDone s = .next s) ∧
        (p.out = 0 → p.left = [] → ∃ t, exec .flowSweepDone s = .next t ∧ t.flow = { s.flow with sweep := none } ∧
          (handleAt t (handleIdx p.handle)).st = .done ∧ (handleAt t (handleIdx p.handle)).status = St.ok ∧
          LastRaised Ev.flowSweepDone (le 4 p.handle.toNat ++ le 2 (handleAt s (handleIdx p.handle)).opcode ++ le 2 0 ++
            le 8 p.examined ++ le 8 p.matched ++ le 8 p.changed ++ le 8 s.tick.count.toNat) t)) ∧
      (p.opcode = Op.flowRepin → (p.out ≠ 0 ∨ p.left ≠ [] → exec .flowRepinDone s = .next s) ∧
        (p.out = 0 → p.left = [] → ∃ t, exec .flowRepinDone s = .next t ∧ t.flow = { s.flow with sweep := none } ∧
          (handleAt t (handleIdx p.handle)).st = .done ∧ (handleAt t (handleIdx p.handle)).status = St.ok ∧
          LastRaised Ev.flowRepinDone (le 4 p.handle.toNat ++ le 2 (handleAt s (handleIdx p.handle)).opcode ++ le 2 0 ++
            le 8 p.examined ++ le 8 p.changed ++ le 8 s.tick.count.toNat) t))) ∧
    (∀ p, s.flow.evacs = [p] → cancelled s p.handle = false →
      (p.left ≠ [] → exec .turfEvacuateDone s = .next s) ∧
      (p.left = [] → ∃ t, exec .turfEvacuateDone s = .next t ∧ t.flow = { s.flow with evacs := [] } ∧
        (handleAt t (handleIdx p.handle)).st = .done ∧ (handleAt t (handleIdx p.handle)).status = St.ok ∧
        LastRaised Ev.turfEvacuateDone (le 4 p.handle.toNat ++ le 2 (handleAt s (handleIdx p.handle)).opcode ++
          le 2 0 ++ evacReport s p) t))

/-- Programs (R228), templates (R231) and pools (R300, R308). -/
def Obligations.ProgramsTemplatesAndPoolsAreSetAndRead : Prop :=
  ∀ (r : Req) (s : State), pairedActive s = false →
    (∀ b, Runs Op.flowProgLoad r s → r.payload.length = 16 → descBytes r 0 s = .ok b →
      (∀ st pl, progFault (programsNamed (futureTemplates s)) b = some (st, pl) →
        ∃ t, exec (.flowProgLoad r) s = .next t ∧ OnlyAnswers s t ∧ Answered Op.flowProgLoad r st pl s t) ∧
      (progFault (programsNamed (futureTemplates s)) b = none →
        ∃ t, exec (.flowProgLoad r) s = .next t ∧ Waits Op.flowProgLoad r (.progLoad b) s t ∧ t.flow = s.flow)) ∧
    (∀ b o, Runs Op.flowProgRead r s → r.payload.length = 8 → zeros r.payload 4 4 = true → b = s.flow.prog.getD [] →
      o = rd r.payload 0 4 →
      (b.length < o → ∃ t, exec (.flowProgRead r) s = .next t ∧ OnlyAnswers s t ∧
        Answered Op.flowProgRead r St.eRange [] s t) ∧
      (o ≤ b.length → ∃ t, exec (.flowProgRead r) s = .next t ∧ OnlyAnswers s t ∧ Answered Op.flowProgRead r St.ok
        (le 4 b.length ++ le 4 o ++ le 4 ((b.drop o).take 4000).length ++ le 4 0 ++ (b.drop o).take 4000) s t)) ∧
    (∀ n, Runs Op.flowTemplateWrite r s → n = rd r.payload 0 2 → 1 ≤ n → n ≤ 64 → zeros r.payload 2 2 = true →
      r.payload.length = 4 + 36 * n →
      (∀ i, i < n → rd ((r.payload.drop (4 + 36 * i)).take 36) 0 2 ≤ 1023 ∧
        zeros ((r.payload.drop (4 + 36 * i)).take 36) 2 2 = true ∧
        templateBad (futureProg s) (((r.payload.drop (4 + 36 * i)).take 36).drop 4) = false) →
      ∃ t items, exec (.flowTemplateWrite r) s = .next t ∧ Waits Op.flowTemplateWrite r (.templates items) s t ∧
        t.flow = s.flow ∧ items = (List.range n).map (fun i =>
          (rd ((r.payload.drop (4 + 36 * i)).take 36) 0 2, ((r.payload.drop (4 + 36 * i)).take 36).drop 4))) ∧
    (∀ k n, Runs Op.flowTemplateRead r s → r.payload.length = 8 → zeros r.payload 4 4 = true → k = rd r.payload 0 2 →
      n = rd r.payload 2 2 → 1 ≤ n → n ≤ 64 → k + n ≤ 1024 →
      ∃ t, exec (.flowTemplateRead r) s = .next t ∧ OnlyAnswers s t ∧ Answered Op.flowTemplateRead r St.ok
        (le 2 n ++ le 2 0 ++
          ((List.range n).map (fun i => le 2 (k + i) ++ le 2 0 ++ templateAt s (k + i))).flatten) s t) ∧
    (∀ k, Runs Op.poolDefine r s → k = rd r.payload 0 2 → poolBad r.payload = false →
      (poolKind r.payload = 0 → poolPairs r.payload ≤ 2 ^ 32) →
      bitmapsBut s k + poolBitmap r.payload ≤ 16777216 * regField s 13 16 0x18 3 0 →
      (poolNamed s k = true → ∃ t, exec (.poolDefine r) s = .next t ∧ OnlyAnswers s t ∧
        Answered Op.poolDefine r St.eBusy [] s t) ∧
      (poolNamed s k = false → ∃ t, exec (.poolDefine r) s = .next t ∧ Answered Op.poolDefine r St.ok [] s t ∧
        tfind t.flow.pools k = some r.payload ∧ (∀ j, j ≠ k → tfind t.flow.pools j = tfind s.flow.pools j) ∧
        (poolKind r.payload = 0 → ∀ n, n < 16 → partAt t n k = freshPart (partSize r.payload n)) ∧
        Raised [(Ev.poolChanged, le 2 k ++ le 1 1 ++ le 8 s.tick.count.toNat)] s t)) ∧
    (∀ k d, Runs Op.poolDelete r s → k = rd r.payload 0 2 → r.payload.length = 2 → k ≤ 4095 →
      poolNamed s k = false → tfind s.flow.pools k = some d →
      ∃ t, exec (.poolDelete r) s = .next t ∧ Answered Op.poolDelete r St.ok [] s t ∧ tfind t.flow.pools k = none ∧
        (∀ j, j ≠ k → tfind t.flow.pools j = tfind s.flow.pools j) ∧
        Raised [(Ev.poolChanged, le 2 k ++ le 1 0 ++ le 8 s.tick.count.toNat)] s t) ∧
    (∀ k d, Runs Op.poolRead r s → k = rd r.payload 0 2 → r.payload.length = 2 → k ≤ 4095 →
      tfind s.flow.pools k = some d → poolKind d = 0 →
      ∃ t, exec (.poolRead r) s = .next t ∧ OnlyAnswers s t ∧ Answered Op.poolRead r St.ok
        (d ++ ((List.range 16).map (fun n => le 4 (partAt s n k).taken.length ++
          le 4 (partSize d n - (partAt s n k).taken.length))).flatten) s t)

/-- Pointers (R216, R290), demotion (R288, R291), clears (R292, R293), summaries (R296) and bitmap words (R302). -/
def Obligations.EntriesMoveBetweenTheTiers : Prop :=
  ∀ (n : Fin 16) (s : State), s.flow.cmds = [] →
    ((slAt s n).installs = [] → exec (.pointerInstall n) s = .next s) ∧
    (ownRoom s n 3 = 0 → exec (.pointerInstall n) s = .next s ∧ exec (.bindAck n) s = .next s ∧
      exec (.pointerDemote n) s = .next s ∧ exec (.summaryRebuild n) s = .next s) ∧
    (∀ op rest (m : Nat) pr ptr key, ownRoom s n 3 ≠ 0 → (slAt s n).installs = op :: rest → op.kind = .install m pr ptr → op.key = some key →
      flightAt s n op.digest = none → locate s n op.digest (some key) = .miss → anyDigest s n op.digest = none →
      stackRoom s n op.digest (entrySlots ptr) = true → Readable (slAt s n) →
      ∃ t k, exec (.pointerInstall n) s = .next t ∧ (slAt t n).installs = rest ∧ tfind (slAt t n).stack k = some ptr ∧
        (slAt t m).acks = (slAt s m).acks ++ [⟨.bindAck 0 op.digest, none, pr⟩]) ∧
    ((slAt s n).acks = [] → exec (.bindAck n) s = .next s) ∧
    (∀ op rest code pd, ownRoom s n 3 ≠ 0 → (slAt s n).acks = op :: rest → op.kind = .bindAck code pd →
      op.key = none → flightAt s n op.digest = none →
      (∀ k e, code = 0 → isPtr e = false → pointerDigest s e = some pd →
        (locate s n op.digest none = .hit ⟨0, k⟩ e → ∃ t v, exec (.bindAck n) s = .next t ∧ (slAt t n).acks = rest ∧
          tfind (slAt t n).hearth k = some v ∧ v.entry = withTag (putCtlField 3 3 1 e)) ∧
        (locate s n op.digest none = .hit ⟨1, k⟩ e → (slAt s n).hearth = [] →
          ∃ t i v, exec (.bindAck n) s = .next t ∧ (slAt t n).acks = rest ∧
            hearthFind (slAt t n) op.digest none = some (i, v) ∧ v.entry = withTag (putCtlField 3 3 1 e))) ∧
      (code ≠ 0 → ∃ t, exec (.bindAck n) s = .next t ∧ (slAt t n).acks = rest ∧ (slAt t n).stack = (slAt s n).stack ∧
        counter t (paddr 13 n 0x41) = min (counter s (paddr 13 n 0x41) + 1) (2 ^ 32 - 1))) ∧
    (demoting s n = false ∨ (slAt s n).demoteAt = some s.tick.count ∨ backAllows s n 2 = false →
      exec (.demoterTick n) s = .next s) ∧
    (∀ k e d t0, demoting s n = true → (slAt s n).demoteAt ≠ some s.tick.count → backAllows s n 2 = true →
      readCopy (slAt s n) 1 k {} e ≠ none → (slAt s n).stack = [(k, e)] → (slAt s n).demotePos = k → chanIn s n (k / 4) = true →
      d = digestOf s (keyOf e) → 1 ≤ regField s 13 n 0xC 7 0 → 1 ≤ regField s 13 n 0xB 22 16 →
      demotable s (slAt s n) ((slAt s n).age.getD (regField s 13 n 0xC 13 8)) d e = true →
      demoteSlot (slAt s n) (bucket0 (stackBuckets s) d) (entrySlots e) = some t0 →
      ∃ t, exec (.demoterTick n) s = .next t ∧ flightAt t n d = some ⟨d, [], .demoting k t0⟩ ∧
        (slAt t n).stack = (slAt s n).stack ∧ (slAt t n).turf = (slAt s n).turf) ∧
    ((slAt s n).ptrDemotes = [] → exec (.pointerDemote n) s = .next s) ∧
    (∀ pd rest, ownRoom s n 3 ≠ 0 → (slAt s n).ptrDemotes = pd :: rest →
      ((wayOf (slAt s n) pd).isSome = true → exec (.pointerDemote n) s =
        .next (useCycle n 3 (modSl n (fun x => { x with ptrDemotes := rest }) s))) ∧
      (∀ k e t0, flightAt s n pd = none → wayOf (slAt s n) pd = none → coldTier s n = true →
        locate s n pd none = .hit ⟨1, k⟩ e → isPtr e = true →
        demoteSlot (slAt s n) (bucket0 (stackBuckets s) pd) (entrySlots e) = some t0 →
        ∃ t, exec (.pointerDemote n) s = .next t ∧ (slAt t n).ptrDemotes = rest ∧
          flightAt t n pd = some ⟨pd, [], .demoting k t0⟩)) ∧
    (∀ d k t0 e, flightAt s n d = some ⟨d, [], .demoting k t0⟩ → tfind (slAt s n).stack k = some e →
      (∃ t, exec (.demotionDone n d none) s = .next t ∧ flightAt t n d = none ∧ tfind (slAt t n).stack k = none ∧
        tfind (slAt t n).turf t0 = some e ∧
        counter t (paddr 13 n 0x50) = min (counter s (paddr 13 n 0x50) + 1) (2 ^ 32 - 1)) ∧
      (∀ i : Fin 3, (i = 2 → writeFails (slAt s n) 3 (t0 / 16) = false) → ∃ t, exec (.demotionDone n d (some i)) s = .next t ∧ flightAt t n d = none ∧
        (slAt t n).stack = (slAt s n).stack ∧ (slAt t n).turf = (slAt s n).turf ∧
        counter t (paddr 13 n 0x59) = min (counter s (paddr 13 n 0x59) + 1) (2 ^ 32 - 1))) ∧
    ((slAt s n).clears = [] → ∀ ok, exec (.turfClearAck n ok) s = .next s) ∧
    (∀ t0 d rest, (slAt s n).clears = (t0, d) :: rest →
      (∃ t, exec (.turfClearAck n true) s = .next t ∧ (slAt t n).clears = rest ∧ tfind (slAt t n).turf t0 = none) ∧
      (∀ k e, locate s n d none = .hit ⟨1, k⟩ e → tfind (slAt s n).stack k = some e → isPinned e = false →
        ∃ t, exec (.turfClearAck n false) s = .next t ∧ (slAt t n).clears = rest ∧ tfind (slAt t n).turf t0 = some e ∧
          tfind (slAt t n).stack k = none)) ∧
    ((∀ u ∈ (slAt s n).upsets, u.tier = 0 → u.idx / 16 < (slAt s n).scrubPos ∨ (slAt s n).scrubPos + 8 ≤ u.idx / 16) →
      exec (.hearthScrub n) s = .next (modSl n (fun x => { x with scrubPos := (x.scrubPos + 8) % 16384 }) s)) ∧
    (∀ u w, (slAt s n).upsets = [u] → u.tier = 0 → (slAt s n).scrubPos ≤ u.idx / 16 →
      u.idx / 16 < (slAt s n).scrubPos + 8 → tfind (slAt s n).hearth u.idx = some w → secdedOk u.u u.was = true →
      ∃ t, exec (.hearthScrub n) s = .next t ∧
        slAt t n = { slAt s n with scrubPos := ((slAt s n).scrubPos + 8) % 16384, upsets := [] }) ∧
    (∀ b rest, (slAt s n).badSums = b :: rest →
      (inService s 15 n = false → exec (.summaryRebuild n) s = .next s) ∧
      (inService s 15 n = true → ownRoom s n 3 ≠ 0 → ∃ t, exec (.summaryRebuild n) s = .next t ∧
        (slAt t n).sums = (rebuiltSum s b { slAt s n with badSums := rest }).sums ∧ (slAt t n).badSums = rest ∧
        (slAt t n).turf = (slAt s n).turf ∧ (slAt t n).stack = (slAt s n).stack)) ∧
    ((slAt s n).badSums = [] → exec (.summaryRebuild n) s = .next s) ∧
    (∀ k : Fin 4096, (poolDef s k = none ∨ svcRoom s n (poolChan k) = false → exec (.transFetchDone n k) s = .next s) ∧
      (∀ d, poolDef s k = some d → (partAt s n k).fetching = true → svcRoom s n (poolChan k) = true → ∃ t, exec (.transFetchDone n k) s = .next t ∧
        partAt t n k = fetchDone (partSize d n) (partAt s n k) ∧ (partAt t n k).fetching = false))

/-- The rings (R327 to R343) and their export (R343, R456). -/
def Obligations.RingsTakeKeepAndExportItems : Prop :=
  ∀ s : State,
    (nextFifo s = none → exec .jnlBlockWrite s = .next s) ∧
    (∀ c, blockChan s 0 (ringAt s 0).write = some c → jnlRoom s c = false → exec .jnlBlockWrite s = .next s) ∧
    (∀ n b rest, (∀ c, blockChan s 0 (ringAt s 0).write = some c → jnlRoom s c = true) → nextFifo s = some n → tgetD (fun _ => []) s.jnl.fifo n = b :: rest → b.length = 64 →
      (ringAt s 0).owed = 0 →
      (ringUse (ringAt s 0) + 2 ≤ ringSize s 0 → placeAway s 0 2 (ringAt s 0).write = false →
        ∃ t, exec .jnlBlockWrite s = .next t ∧ tgetD (fun _ => []) t.jnl.fifo n = rest ∧ t.jnl.turn = n ∧
          (ringAt t 0).items = (ringAt s 0).items ++ [((ringAt s 0).write, 2, b)] ∧
          (ringAt t 0).write = (ringAt s 0).write + 2 ∧ (ringAt t 0).read = (ringAt s 0).read) ∧
      (ringSize s 0 < ringUse (ringAt s 0) + 2 → overwriting s 0 = false →
        ∃ t, exec .jnlBlockWrite s = .next t ∧ tgetD (fun _ => []) t.jnl.fifo n = rest ∧
          (ringAt t 0).items = (ringAt s 0).items ∧ (ringAt t 0).write = (ringAt s 0).write ∧ (ringAt t 0).owed = 1 ∧
          counter t (paddr 24 0 0x10) = min (counter s (paddr 24 0 0x10) + 1) (2 ^ 32 - 1))) ∧
    (∀ d : Fin 2, (tgetD (fun _ => []) s.jnl.staging d = [] → exec (.captureWrite d) s = .next s) ∧
      (∀ r b rest, tgetD (fun _ => []) s.jnl.staging d = (r, b) :: rest → ringOn s (1 + r) = true →
        (ringAt s (1 + r)).owed = 0 → ringUse (ringAt s (1 + r)) + b.length / 64 ≤ ringSize s (1 + r) →
        placeAway s (1 + r) (b.length / 64) (ringAt s (1 + r)).write = false →
        (∀ j c, j < b.length / 64 → blockChan s (1 + r) ((ringAt s (1 + r)).write + BitVec.ofNat 64 j) = some c →
          capRoom s c = true) →
        ∃ t, exec (.captureWrite d) s = .next t ∧ tgetD (fun _ => []) t.jnl.staging d = rest ∧
          (ringAt t (1 + r)).items = (ringAt s (1 + r)).items ++ [((ringAt s (1 + r)).write, b.length / 64, b)] ∧
          (ringAt t (1 + r)).write = (ringAt s (1 + r)).write + BitVec.ofNat 64 (b.length / 64))) ∧
    (∀ (i : Fin 9) (p : Dword),
      ((ringAt s i).queue ≠ none ∨ ringUse (ringAt s i) < (p - (ringAt s i).read).toNat ∨
        (i.val ≠ 0 ∧ onBoundary (ringAt s i) p = false) → exec (.jnlConsumedWrite i p) s = .next s) ∧
      ((ringAt s i).queue = none → (p - (ringAt s i).read).toNat ≤ ringUse (ringAt s i) →
        (i.val = 0 ∨ onBoundary (ringAt s i) p = true) → ∃ t, exec (.jnlConsumedWrite i p) s = .next t ∧
          (ringAt t i).read = p ∧ (ringAt t i).write = (ringAt s i).write ∧
          (ringAt t i).items = (ringAt s i).items.filter (fun e => decide (0 ≤ (e.1 - p).toInt)))) ∧
    (∀ (i : Fin 10) (base size : Half),
      (regionsFit s i base.toNat size.toNat = false → exec (.jnlRegionWrite i base size) s = .next s) ∧
      (regionsFit s i base.toNat size.toNat = true → ∃ t, exec (.jnlRegionWrite i base size) s = .next t ∧
        reg t 24 i 2 = BitVec.ofNat 32 base.toNat ∧ reg t 24 i 1 = BitVec.ofNat 32 size.toNat ∧
        ringAt t i = { queue := (ringAt s i).queue })) ∧
    (∀ q : Fin 1024, ((hqAt s q).exports = none → ∀ ue, exec (.exportFill q ue) s = .next s) ∧
      ((hqAt s q).exports = none → exec (.exportLingerExpiry q) s = .next s) ∧
      (∀ i j, (hqAt s q).exports = some i → postedJob (hqAt s q) = some j → inService s 18 0 = true →
        inService s 24 0 = true →
        (∀ ue, (hqAt s q).st = 1 → exportItem s (hqAt s q) i ue = none → exec (.exportFill q ue) s = .next s) ∧
        (∀ ue b p next, (hqAt s q).st = 1 → exportItem s (hqAt s q) i ue = some (b, p, next) →
          exportRoom s i p next = false → exec (.exportFill q ue) s = .next s) ∧
        (∀ b p next e, (hqAt s q).st = 1 → j.begun = true → exportItem s (hqAt s q) i false = some (b, p, next) →
          exportRoom s i p next = true → e = j.entries.headD [] → j.fill + b.length ≤ rd e 0xC 4 →
          (hostWrite (rd e 8 2) (rd e 0x10 8 + j.fill) b none (.data q j.pos) s).2 = true →
          ∃ t k, exec (.exportFill q false) s = .next t ∧ postedJob (hqAt t q) = some k ∧ k.pos = j.pos ∧
            k.items = j.items + 1 ∧ k.fill = j.fill + b.length ∧ k.next = next) ∧
        (ticksSince s.tick.count j.since < regField s 18 0 0x200 15 0 → exec (.exportLingerExpiry q) s = .next s) ∧
        (regField s 18 0 0x200 15 0 ≤ ticksSince s.tick.count j.since → j.items ≠ 0 →
          exportPos s (hqAt s q) i = (ringAt s i).write → ∃ t, exec (.exportLingerExpiry q) s = .next t ∧
            (∃ k ∈ (hqAt t q).jobs, k.pos = j.pos ∧ k.done = true ∧
              k.detail = le 4 j.items ++ le 4 j.fill ++ le 8 j.first.toNat) ∧ t.jnl = s.jnl)))

/-- The time commands (R382 to R384, R388, R392, R399). -/
def Obligations.TimeCommandsAnswerAndSetDomains : Prop :=
  ∀ (r : Req) (s : State) (b : Bool) (acc : Dword), acc = frcAt s r.cycle →
    (Runs Op.timeQuery r s → r.payload = [] → ∃ t, exec (.timeQuery r) s = .next t ∧ OnlyAnswers s t ∧
      Answered Op.timeQuery r St.ok (le 8 acc.toNat ++ domTime s false acc ++ domTime s true acc ++
        le 2 (identAt s false acc) ++ le 2 (identAt s true acc) ++ le 1 (quality s false) ++
        le 1 (b2n s.tu.selected)) s t) ∧
    (∀ (op : Nat) (c : Req → Instr) (cause : Nat), (op, c, cause) ∈ [(Op.domainSeed, Instr.domainSeed, 0),
        (Op.domainReseed, Instr.domainReseed, 3)] → Runs op r s → r.payload.length = 31 → rd r.payload 0 1 = b2n b →
      rd r.payload 9 8 < 2 ^ 48 → rd r.payload 17 4 ≤ 999999999 → ((domAt s b).sets = [] ↔ cause = 0) →
      signed 64 (rd r.payload 23 8) ≤ maxRate → -maxRate ≤ signed 64 (rd r.payload 23 8) →
      anchorBad acc (BitVec.ofNat 64 (rd r.payload 1 8)) = false → setBusy s b = false →
      ∃ t x p, exec (c r) s = .next t ∧ (domAt t b).pending = some ⟨x, some p⟩ ∧ (domAt t b).sets = (domAt s b).sets ∧
        x.cause = cause ∧ x.anchor = BitVec.ofNat 64 (rd r.payload 1 8) ∧ x.validFrom = validFromOf acc ∧
        x.baseS = rd r.payload 9 8 ∧ x.baseNs = rd r.payload 17 4 ∧ x.baseFrac = rd r.payload 21 2 ∧
        x.rate = signed 64 (rd r.payload 23 8) ∧ p.opcode = op ∧ p.session = r.session ∧ p.sequence = r.sequence ∧
        t.toune.responses = s.toune.responses) ∧
    (∀ y, Runs Op.domainRate r s → r.payload.length = 9 → rd r.payload 0 1 = b2n b → (domAt s b).now = some y →
      signed 64 (rd r.payload 1 8) ≤ maxRate → -maxRate ≤ signed 64 (rd r.payload 1 8) →
      (setBusy s b = true → ∃ t, exec (.domainRate r) s = .next t ∧ OnlyAnswers s t ∧
        Answered Op.domainRate r St.eBusy [] s t) ∧
      (setBusy s b = false → ∃ t x p, exec (.domainRate r) s = .next t ∧ (domAt t b).pending = some ⟨x, some p⟩ ∧
        (domAt t b).sets = (domAt s b).sets ∧ x.cause = 1 ∧ x.validFrom = validFromOf acc ∧
        x.rate = signed 64 (rd r.payload 1 8) ∧ p.opcode = Op.domainRate ∧ p.session = r.session ∧
        p.sequence = r.sequence ∧ t.toune.responses = s.toune.responses)) ∧
    (∀ force : Bool, Runs Op.domainSelect r s → r.payload.length = 2 → rd r.payload 0 1 = b2n b →
      rd r.payload 1 1 = b2n force →
      (switchFault s b force = none → ∃ t, exec (.domainSelect r) s = .next t ∧
        Waits Op.domainSelect r (.domainSelect b force) s t ∧ t.tu.selected = s.tu.selected) ∧
      (∀ st, switchFault s b force = some st → ∃ t, exec (.domainSelect r) s = .next t ∧
        Answered Op.domainSelect r st [] s t ∧ t.tu = s.tu ∧
        Raised [(Ev.domainSwitchRefused, le 1 (b2n b) ++ le 8 (gapNow s) ++ le 2 st.toNat)] s t)) ∧
    (Runs Op.domainSetsRead r s → r.payload.length = 1 → rd r.payload 0 1 = b2n b →
      ∃ t, exec (.domainSetsRead r) s = .next t ∧ OnlyAnswers s t ∧
        Answered Op.domainSetsRead r St.ok ((domAt s b).sets.flatMap (setBytes b)) s t) ∧
    (∀ f i x, Runs Op.stampConvert r s → r.payload.length = 12 → rd r.payload 0 1 = b2n b → rd r.payload 1 1 = 1 →
      f = BitVec.ofNat 64 (rd r.payload 2 8) → i = rd r.payload 10 2 →
      (matchSet (domAt s b) f i = some x → ∃ t, exec (.stampConvert r) s = .next t ∧ OnlyAnswers s t ∧
        Answered Op.stampConvert r St.ok (le 2 0 ++ timeBytes (x.convert f)) s t) ∧
      (matchSet (domAt s b) f i = none → ∃ t, exec (.stampConvert r) s = .next t ∧ OnlyAnswers s t ∧
        Answered Op.stampConvert r St.ok (le 2 St.eRange.toNat ++ le 12 0) s t)) ∧
    (∀ i n, Runs Op.tsiRead r s → r.payload.length = 2 → i = rd r.payload 0 1 → i ≤ 7 → n = rd r.payload 1 1 → 1 ≤ n →
      n ≤ 64 → ∃ t, exec (.tsiRead r) s = .next t ∧
        Answered Op.tsiRead r St.ok ((tsiAt s i).fifo.take n).flatten s t ∧
        (tsiAt t i).fifo = (tsiAt s i).fifo.drop n ∧ ∀ j, j ≠ i → tsiAt t j = tsiAt s j)

/-- Sets coming into force (R382, R383), PPS outputs (R389, R390) and time-stamp inputs (R391, R392). -/
def Obligations.TimeEventsMoveDomainsAndPins : Prop :=
  ∀ (b : Bool) (s : State),
    ((domAt s b).pending = none → exec (.domainSet b) s = .next s) ∧
    (∀ p, (domAt s b).pending = some p →
      ((domAt s b).sets = [] → ∃ t, exec (.domainSet b) s = .next t ∧
        (domAt t b).sets = [{ p.set with seq := 1, epoch := 0 }] ∧ (domAt t b).pending = none) ∧
      (∀ y, (domAt s b).now = some y → ∃ t x, exec (.domainSet b) s = .next t ∧ (domAt t b).now = some x ∧
        (domAt t b).pending = none ∧ x.seq = y.seq + 1 ∧ x.validFrom = p.set.validFrom ∧ x.rate = p.set.rate ∧
        (p.set.cause = 3 → x.epoch = y.epoch + 1 ∧ x.anchor = p.set.anchor) ∧
        (p.set.cause = 1 → x.epoch = y.epoch ∧
          (0 ≤ y.convert p.set.validFrom → x.convert p.set.validFrom = y.convert p.set.validFrom)) ∧
        Raised [(Ev.domainSet, setBytes b x)] s t ∧
        (∀ q, p.resp = some q → t.toune.responses =
          s.toune.responses ++ [{ q with payload := le 8 x.validFrom.toNat ++ le 2 x.ident }]) ∧
        (p.resp = none → t.toune.responses = s.toune.responses))) ∧
    ((domAt s b).now = none → exec (.domainRenewal b) s = .next s) ∧
    (∀ y, (domAt s b).now = some y →
      ((nowFrc s - y.anchor).toNat < 2 ^ 62 → exec (.domainRenewal b) s = .next s) ∧
      (2 ^ 62 ≤ (nowFrc s - y.anchor).toNat → ∃ t x, exec (.domainRenewal b) s = .next t ∧
        (domAt t b).now = some x ∧ x.rate = y.rate ∧ x.seq = y.seq + 1 ∧ x.epoch = y.epoch ∧ x.cause = 2 ∧
        x.anchor = boundary4 (y.anchor + BitVec.ofNat 64 (2 ^ 62)) ∧ (domAt t b).pending = (domAt s b).pending)) ∧
    (∀ (k : Fin 2) (f : Dword), (bitOf (reg s 2 0 (8 + 2 * k)).toNat 0 = false → exec (.ppsPulseStart k f) s = .next s) ∧
      (∀ x u v, bitOf (reg s 2 0 (8 + 2 * k)).toNat 0 = true → (domAt s s.tu.selected).now = some x →
        u = x.convert f - (reg s 2 0 (9 + 2 * k)).toInt → v = u.fdiv second → u - v * second < 65536 →
        ((ppsAt s k).lastSecond = none ∨ (∃ l, (ppsAt s k).lastSecond = some l ∧ v.toNat = l + 1)) →
        ∃ t, exec (.ppsPulseStart k f) s = .next t ∧ (ppsAt t k).active = true ∧
          (ppsAt t k).lastSecond = some v.toNat ∧ Raised [] s t) ∧
      (∃ t, exec (.ppsPulseEnd k) s = .next t ∧ ppsAt t k = { ppsAt s k with active := false })) ∧
    (∀ (i : Fin 8) (rising : Bool) (f : Dword),
      (bitOf (reg s 2 0 (0x10 + 4 * i)).toNat (if rising then 0 else 1) = false →
        exec (.tsiEdge i rising f) s = .next s) ∧
      (bitOf (reg s 2 0 (0x10 + 4 * i)).toNat (if rising then 0 else 1) = true →
        (64 ≤ (tsiAt s i).fifo.length → ∃ t, exec (.tsiEdge i rising f) s = .next t ∧
          tsiAt t i = { tsiAt s i with lost := (tsiAt s i).lost + 1 } ∧
          counter t (paddr 2 0 (0x12 + 4 * i)) = min (counter s (paddr 2 0 (0x12 + 4 * i)) + 1) (2 ^ 32 - 1)) ∧
        ((tsiAt s i).fifo.length < 64 → ∃ t e, exec (.tsiEdge i rising f) s = .next t ∧
          tsiAt t i = { tsiAt s i with fifo := (tsiAt s i).fifo ++ [e], lost := 0 } ∧
          e.take 8 = le 8 (f - BitVec.ofInt 64 (tsiDelay s i rising)).toNat ∧
          (bitOf (reg s 2 0 (0x10 + 4 * i)).toNat 2 = true → Raised [(Ev.tsiEdge, e)] s t))))

/-- The memory controllers (R42, R410 to R421): what each of their commands does to the unit it names. -/
def Obligations.ControllersRefreshRetrainScrubAndLog : Prop :=
  ∀ (s : State) (c : Bool) (k : Fin 128) (x : MemUnit), x = memAt s c k → s.sys.mode ≠ .reset →
    let others := fun t : State => ∀ d j, memKey d j ≠ memKey c k → memAt t d j = memAt s d j
    let leaves := fun t : State => t.sys.deferred =
      s.sys.deferred ++ [{ due := s.tick.count + 1, change := .unitOut ⟨memCls c, k⟩ 2 }]
    let more := fun (w : Nat) (t : State) =>
      counter t (paddr (memCls c) k w) = min (counter s (paddr (memCls c) k w) + 1) (2 ^ 32 - 1)
    let entry := fun kind flags addr req => le 6 s.tick.count.toNat ++ le 1 kind ++
      le 1 (flags + b2n (memSafety s c k)) ++ le 5 (addr % 2 ^ 38) ++ le 1 (selectBits s c k addr) ++ le 1 req ++ le 1 0
    let logged := fun (e : List Byte) (t : State) =>
      (memAt t c k).log = (x.log ++ [e]).drop (x.log.length + 1 - 16) ∧ others t
    (memIn s c k = false → exec (.memRefresh c k) s = .next s ∧ (∀ d, exec (.memRetrain c k d) s = .next s) ∧
      (∀ b, exec (.memTempRead c k b) s = .next s) ∧ (∀ l, exec (.memPatrolScrub c k l) s = .next s) ∧
      (∀ a r e, exec (.memReadComplete c k a r e) s = .next s) ∧ (∀ a b r, exec (.memAlert c k a b r) s = .next s)) ∧
    (memIn s c k = true → ∀ n, n = s.tick.count.toNat →
      ((refreshTick (if doubled s x then 64 else 32) n || x.owed) = false → exec (.memRefresh c k) s = .next s) ∧
      ((refreshTick (if doubled s x then 64 else 32) n || x.owed) = true → ∃ t, exec (.memRefresh c k) s = .next t ∧
        others t ∧ (retrainTick c k n = true → memAt t c k = { x with owed := true }) ∧
        (retrainTick c k n = false → memAt t c k = { x with refreshes := x.refreshes + 1, owed := false })) ∧
      (retrainTick c k n = false → ∀ d, exec (.memRetrain c k d) s = .next s) ∧
      (retrainTick c k n = true →
        (∃ t, exec (.memRetrain c k none) s = .next t ∧ memAt t c k = { x with retrained := some s.tick.count } ∧
          others t ∧ t.sys = s.sys ∧ t.toune = s.toune) ∧
        (∀ d, ∃ t, exec (.memRetrain c k (some d)) s = .next t ∧
          memAt t c k = { x with retrained := some s.tick.count } ∧ others t ∧
          ((c || !memSafety s c k) = true → leaves t ∧
            Raised [(Ev.memRetrainDrift, le 1 (memCls c) ++ le 2 k ++ [d])] s t) ∧
          ((c || !memSafety s c k) = false → Recorded 0x17 14 k 0 s t))) ∧
      ((∃ m, x.tempTick = some m ∧ ticksSince s.tick.count m < 1024) → ∀ b, exec (.memTempRead c k b) s = .next s) ∧
      ((∀ m, x.tempTick = some m → 1024 ≤ ticksSince s.tick.count m) → ∀ (b : Byte) (lim : Nat),
        lim = regField s (memCls c) (memShared c) 0x11 7 0 → ∃ t, exec (.memTempRead c k b) s = .next t ∧ others t ∧
          (memAt t c k).temp = b ∧ (memAt t c k).hot = (if lim ≤ b.toNat then x.hot + 1 else 0) ∧
          (memAt t c k).hotRate = decide (85 ≤ b.toNat) ∧ (memAt t c k).hotRateWas = x.hotRate ∧
          (memAt t c k).tempTick = some s.tick.count ∧
          ((memAt t c k).hot = 16 → (c || !memSafety s c k) = true → leaves t ∧
            Raised [(Ev.memHot, le 1 (memCls c) ++ le 2 k ++ [b])] s t) ∧
          ((memAt t c k).hot = 16 → (c || !memSafety s c k) = false → Recorded 0x17 14 k 0 s t) ∧
          ((memAt t c k).hot ≠ 16 → t.sys = s.sys ∧ t.toune = s.toune)) ∧
      (∀ (a : Nat) (r : Fin 6), exec (.memReadComplete c k a r .clean) s = .next s ∧
        (∃ t, exec (.memReadComplete c k a r .corrected) s = .next t ∧ logged (entry 1 0 a r) t ∧ more 3 t) ∧
        (memSafety s c k = false → ∃ t, exec (.memReadComplete c k a r .second) s = .next t ∧
          logged (entry 2 4 a r) t ∧ more 3 t) ∧
        (∀ e, e = .uncorrectable ∨ (e = .second ∧ memSafety s c k = true) →
          ∃ t, exec (.memReadComplete c k a r e) s = .next t ∧ logged (entry 2 0 a r) t ∧ more 4 t)) ∧
      (∀ (rate : Nat), rate = min (spareAccesses s c k) (min 8 (regField s (memCls c) (memShared c) 0x10 3 0)) →
        (rate = 0 → ∀ l, exec (.memPatrolScrub c k l) s = .next s) ∧
        (∀ l, rate ≠ 0 → l ≠ [] → ∃ t, exec (.memPatrolScrub c k l) s = .next t ∧ others t ∧
          (memAt t c k).scrubPos = (x.scrubPos + min rate l.length) % max 1 (memUnits s c k)) ∧
        (∀ e u, rate ≠ 0 → exec (.memReadComplete c k (64 * x.scrubPos) 4 e) s = .next u →
          ∃ t, exec (.memPatrolScrub c k [e]) s = .next t ∧ (memAt t c k).log = (memAt u c k).log ∧ t.prm = u.prm ∧
            t.toune = u.toune)) ∧
      (∀ (a : Nat) (crc : Bool) (r : Fin 6) (kind : Nat),
        kind = (if crc && c && (reg s 15 k 0).getLsbD 1 then 4 else 3) →
        ∃ t, exec (.memAlert c k a crc r) s = .next t ∧ more 6 t ∧ (memAt t c k).alerts = inPeriod s x.alerts ∧
          (memSafety s c k = true → logged (entry kind 0 a r) t ∧ Recorded 0x13 (memCls c) k 0 s t ∧
            LastRaised Ev.memSafetyErr (le 1 (memCls c) ++ le 2 k ++ le 1 kind ++ le 5 a) t) ∧
          (memSafety s c k = false → logged (entry kind 2 a r) t ∧ more 5 t ∧
            ((inPeriod s x.alerts).2 = 4 → leaves t ∧
              LastRaised Ev.memReplayExhausted (le 1 (memCls c) ++ le 2 k) t) ∧
            ((inPeriod s x.alerts).2 ≠ 4 → t.sys.deferred = s.sys.deferred)))) ∧
    (x.draining = none → ∀ l, exec (.channelDrainExpiry c k l) s = .next s) ∧
    (∀ h m, x.draining = some (h, m) →
      (ticksSince s.tick.count m < regField s (memCls c) (memShared c) 0x12 13 0 →
        ∀ l, exec (.channelDrainExpiry c k l) s = .next s) ∧
      (regField s (memCls c) (memShared c) 0x12 13 0 ≤ ticksSince s.tick.count m → ∀ l,
        ∃ t, exec (.channelDrainExpiry c k l) s = .next t ∧ others t ∧ (memAt t c k).poweredDown = true ∧
          (memAt t c k).draining = none ∧ (handleAt t (handleIdx h)).st = .done ∧
          (handleAt t (handleIdx h)).status = St.ok ∧
          LastRaised Ev.memChannelDown (le 4 h.toNat ++ le 2 (handleAt s (handleIdx h)).opcode ++ le 2 St.ok.toNat ++
            (le 1 (memCls c) ++ le 2 k ++ le 4 l.length)) t ∧
          (l = [] → (memAt t c k).log = x.log) ∧ (∀ a r, l = [(a, r)] → logged (entry 5 0 a r) t ∧ more 7 t))) ∧
    (∀ (r : Req) (f : Bool), r.payload.length = 5 → memArg r.payload = some (c, k.val) → rd r.payload 1 1 = 0 →
      rd r.payload 4 1 = b2n f →
      (Runs Op.memErrlogRead r s → ∃ t, exec (.memErrlogRead r) s = .next t ∧ others t ∧
        Answered Op.memErrlogRead r St.ok x.log.flatten s t ∧
        memAt t c k = if f then { x with log := [] } else x) ∧
      (Runs Op.channelDown r s → (c || !memSafety s c k) = true → isAbsent s (memCls c) k = false →
        unitState s ⟨memCls c, k⟩ = .inService →
        (c = true → f = false → turfEntries s k ≠ 0 → ∃ t, exec (.channelDown r) s = .next t ∧ OnlyAnswers s t ∧
          Answered Op.channelDown r St.eBusy (le 4 (turfEntries s k)) s t) ∧
        (∀ h, (c = true → f = false → turfEntries s k = 0) → newHandle s = some h →
          ∃ t, exec (.channelDown r) s = .next t ∧ Started Op.channelDown r h s t ∧ t.mem = s.mem ∧
            t.sys.deferred = s.sys.deferred ++
              [{ due := dueTick s r.cycle, change := .channelDown ⟨memCls c, k⟩ h }])))

/-- The host transport (R426 to R439), the routes of messages (R429, R434, R478) and doorbells (R448). -/
def Obligations.TransportAnswersRequestsMessagesAndDoorbells : Prop :=
  ∀ s : State,
    (transportUp s = false → (∀ q p i f, exec (.roceRequestRx q p i f) s = .next s) ∧
      (∀ q p b, exec (.roceAckRx q p b) s = .next s) ∧ (∀ q p k, exec (.roceNakRx q p k) s = .next s) ∧
      (∀ q, exec (.roceRetryTimeout q) s = .next s) ∧ (∀ h f, exec (.arpRequestRx h f) s = .next s) ∧
      (∀ h f, exec (.bootDiscover h f) s = .next s)) ∧
    (∀ (q : Fin 256) (x : QueuePair), transportUp s = true → x = qpAt s q → x.st = 1 →
      (∀ p f, ∃ t, exec (.roceRequestRx q p false f) s = .next t ∧ t.host = s.host) ∧
      (tickGe s.tick.count x.start = true → roceOn s x = true →
        (∀ key va b imm u, rdmaWrite key va b s = some u → ∃ t,
          exec (.roceRequestRx q x.rqPsn true (.write key va b imm)) s = .next t ∧
          qpAt t q = { x with rqPsn := x.rqPsn + BitVec.ofNat 24 (packetsOf b.length), nakOut := false } ∧
          t.host.sent = s.host.sent ++ [.ack q (x.rqPsn + BitVec.ofNat 24 (packetsOf b.length) - 1)] ∧
          t.host.slot = u.host.slot ∧ t.host.doorbells = u.host.doorbells ∧ t.host.stackWin = u.host.stackWin ∧
          t.host.peatWin = u.host.peatWin ∧ t.host.imms = s.host.imms ++
            (match imm with | some v => if v.toNat < 64 then [(q.val, v.toNat, false)] else [] | none => [])) ∧
        (∀ k off b, k < 64 → off + b.length ≤ 4096 → ∃ u, rdmaWrite 0x11 (8192 * k + off) b s = some u ∧
          (slotAt u k).request = splice (padTo 4096 (slotAt s k).request) off b ∧ u.host.doorbells = s.host.doorbells) ∧
        (∀ (k : Fin 1024) b, b.length = 8 → ∃ u, rdmaWrite 0x12 (8 * k) b s = some u ∧
          u.host.doorbells = s.host.doorbells ++ [(k.val, BitVec.ofNat 64 (rd b 0 8))]) ∧
        (∀ key va n b, key ≠ 0x13 → rdmaRead s key va n = some b → ∃ t,
          exec (.roceRequestRx q x.rqPsn true (.read key va n)) s = .next t ∧
          (qpAt t q).rqPsn = x.rqPsn + BitVec.ofNat 24 (packetsOf n) ∧
          t.host.sent = s.host.sent ++ [.readData q x.rqPsn b] ∧ t.host.slot = s.host.slot) ∧
        (∀ f, ((∃ key va b imm, f = .write key va b imm ∧ rdmaWrite key va b s = none) ∨
            (∃ key va n, f = .read key va n ∧ rdmaRead s key va n = none)) →
          ∃ t, exec (.roceRequestRx q x.rqPsn true f) s = .next t ∧ (qpAt t q).st = 2 ∧ (qpAt t q).cause = 3 ∧
            (x.out = [] → t.host.sent = s.host.sent ++ [.accessNak q x.rqPsn] ∧ t.host.queue = s.host.queue ∧
              Raised [(Ev.qpError, le 2 q ++ le 1 3 ++ le 4 x.rqPsn.toNat ++ le 8 s.tick.count.toNat)] s t)) ∧
        (∀ b, b.length ≤ 4096 → (freeMailSlot s = none → ∃ t,
            exec (.roceRequestRx q x.rqPsn true (.send b)) s = .next t ∧ t.host.qp = s.host.qp ∧
            t.host.slot = s.host.slot ∧ t.host.sent = s.host.sent ++ [.rnrNak q x.rqPsn]) ∧
          (∀ k, freeMailSlot s = some k → ∃ t, exec (.roceRequestRx q x.rqPsn true (.send b)) s = .next t ∧
            (slotAt t k).request = padTo 4096 b ∧ t.host.imms = s.host.imms ++ [(q.val, k, true)] ∧
            (qpAt t q).rqPsn = x.rqPsn + BitVec.ofNat 24 (packetsOf b.length))) ∧
        (∀ p f, 0 < (p - x.rqPsn).toNat → (p - x.rqPsn).toNat < 2 ^ 23 →
          ∃ t, exec (.roceRequestRx q p true f) s = .next t ∧ t.host.slot = s.host.slot ∧ t.host.imms = s.host.imms ∧
            (x.nakOut = false → qpAt t q = { x with nakOut := true } ∧
              t.host.sent = s.host.sent ++ [.seqNak q x.rqPsn]) ∧ (x.nakOut = true → t.host = s.host)) ∧
        (∀ p f, 2 ^ 23 ≤ (p - x.rqPsn).toNat → (∀ key va n, f ≠ .read key va n) →
          ∃ t, exec (.roceRequestRx q p true f) s = .next t ∧ t.host.slot = s.host.slot ∧ t.host.imms = s.host.imms ∧
            t.host.qp = s.host.qp ∧ t.host.sent = s.host.sent ++ [.ack q (x.rqPsn - 1)])) ∧
      (∀ p d gone rest, popAcks p x.out = (gone, rest) → (x.sqPsn - 1 - p).toNat < 2 ^ 23 → gone ≠ [] →
        ∃ t, exec (.roceAckRx q p d) s = .next t ∧
          qpAt t q = { x with out := rest, since := s.tick.count, resends := 0 } ∧
          (∀ r k, gone = [r] → r.purpose = .fetch k → (hqAt s k).fetching ≠ 0 →
            (hqAt t k).arrived = some (padTo r.length d))) ∧
      (∀ p d, 2 ^ 23 ≤ (x.sqPsn - 1 - p).toNat → exec (.roceAckRx q p d) s = .next s) ∧
      (∀ p (k : Fin 3), k.val ≠ 0 → ∃ t, exec (.roceNakRx q p k) s = .next t ∧ (qpAt t q).st = 2 ∧ (qpAt t q).cause = 2) ∧
      (∀ p gone rest n, popAcks (p - 1) x.out = (gone, rest) → n = (if gone = [] then x.resends else 0) → rest ≠ [] →
        ∃ t, exec (.roceNakRx q p 0) s = .next t ∧
          (n < qpRetry s x → (qpAt t q).out = rest ∧ (qpAt t q).resends = n + 1 ∧ (qpAt t q).since = s.tick.count ∧
            t.host.sent = s.host.sent ++ rest.map (HostFrame.request q)) ∧
          (qpRetry s x ≤ n → (qpAt t q).st = 2 ∧ (qpAt t q).cause = 1)) ∧
      ((ticksSince s.tick.count x.since < timeoutTicks (qpTimeout s x) ∨ x.out = []) →
        exec (.roceRetryTimeout q) s = .next s) ∧
      (timeoutTicks (qpTimeout s x) ≤ ticksSince s.tick.count x.since → x.out ≠ [] →
        ∃ t, exec (.roceRetryTimeout q) s = .next t ∧
          (x.resends < qpRetry s x → (qpAt t q).out = x.out ∧ (qpAt t q).resends = x.resends + 1 ∧
            t.host.sent = s.host.sent ++ x.out.map (HostFrame.request q)) ∧
          (qpRetry s x ≤ x.resends → (qpAt t q).st = 2 ∧ (qpAt t q).cause = 1))) ∧
    (∀ (h : Fin 2) f o ty, transportUp s = true → terminated s (128 + h) f = true → afterTag f = (o, ty) →
      (ty = 0x0806 → ∃ t, exec (.arpRequestRx h f) s = .next t ∧ Counted 5 (128 + h) 8 1 s t ∧
        t.host = { s.host with sent := s.host.sent ++ [.raw (128 + h) (arpReply s h f o)] }) ∧
      (ty = 0x86DD → rd f (o + 6) 1 = 58 → ∃ t, exec (.arpRequestRx h f) s = .next t ∧
        t.host = { s.host with sent := s.host.sent ++ [.raw (128 + h) (neighbourReply s h f o)] }) ∧
      (ty = 0x88B5 → rdBe f 0 6 = 0xFFFFFFFFFFFF → rd f o 1 = 1 → rd f (o + 1) 1 = 4 →
        ∃ t, exec (.bootDiscover h f) s = .next t ∧ Counted 19 256 5 1 s t ∧
          t.host.sent = s.host.sent ++ ([0, 1].filter (fun k => bitOf (reg s 19 256 (6 + 8 * k)).toNat 0)).map (fun k =>
            .raw (128 + k) (engineFrame s k (beNat ((f.drop 6).take 6)) 0x88B5 (bootBody 5 []))))) ∧
    (∀ (n : Fin 130) (c : Fin 1350) f d o m base, o = (afterTag f).1 → m = (f.drop (o + 8)).take (rd f (o + 2) 2) →
      base = ({ route := .bootstrap, hp1 := n.val == 129, source := (f.drop 6).take 6, cycle := c, port := n,
                hostData := d } : Req) →
      (mcAccepts s = false ∨ bootReaches s n f = false → exec (.bootFrameRx n c f d) s = .next s) ∧
      (mcAccepts s = true → bootReaches s n f = true → rd f o 1 = 1 → rd f (o + 1) 1 = 1 →
        (messageFault 4096 m ≠ none → ∃ t, exec (.bootFrameRx n c f d) s = .next t ∧ t.toune = s.toune ∧
          Counted 19 256 5 1 s t ∧ Counted 19 256 7 1 s t ∧ t.host = s.host) ∧
        (messageFault 4096 m = none → bootSeq (rd m 4 2) (reqOf base m) s = .run →
          (freeMailSlot s = none → ∃ t, exec (.bootFrameRx n c f d) s = .next t ∧ t.toune = s.toune ∧
            t.host.slot = s.host.slot ∧ (128 ≤ n.val → t.host.sent.length = s.host.sent.length + 1) ∧
            (n.val < 128 → t.host = s.host ∧ ∃ g, tgetD (fun _ => []) t.path.gens (n / 32) =
              tgetD (fun _ => []) s.path.gens (n / 32) ++ [g] ∧ g.reply = some n.val)) ∧
          (∀ k u op cmd, freeMailSlot s = some k → rd m 4 2 = op →
            (op, cmd) ∈ [(Op.sessionOpen, Instr.sessionOpen), (Op.sessionPing, Instr.sessionPing),
              (Op.paramWrite, Instr.paramWrite), (Op.fwStage, Instr.fwStage), (Op.modeSet, Instr.modeSet)] →
            u = setSlot k { slotAt s k with busy := true } (bump48 19 256 5 1 (takeMc n f s)) →
            ∃ t, exec (.bootFrameRx n c f d) s = .next t ∧ exec (cmd (reqOf { base with slot := some k } m)) u = .next t)) ∧
        (∀ p, messageFault 4096 m = none → bootSeq (rd m 4 2) (reqOf base m) s = .again p → rd m 4 2 ≠ Op.sessionOpen →
          sessionOpen? s (reqOf base m).session = true →
          (reqOf base m).protocol = expectVersion s (rd m 4 2) (reqOf base m) →
          ∃ t z, exec (.bootFrameRx n c f d) s = .next t ∧ t.toune.responses = s.toune.responses ++ [z] ∧
            z.status = p.status ∧ z.payload = p.payload ∧ z.sequence = p.sequence ∧ z.session = p.session ∧
            t.toune.audit = s.toune.audit))) ∧
    (∀ (c : Fin 1350) d, (s.host.imms = [] ∨ mcAccepts s = false → exec (.mailboxRequest c d) s = .next s) ∧
      (∀ q k b rest, s.host.imms = (q, k, b) :: rest → mcAccepts s = true →
        ((slotAt s k).busy = true → ∃ t, exec (.mailboxRequest c d) s = .next t ∧ t.host.imms = rest ∧
          t.host.slot = s.host.slot ∧ t.toune.responses = s.toune.responses ∧ Counted 19 256 4 1 s t) ∧
        (∀ m u base, (slotAt s k).busy = false → m = padTo 4096 (slotAt s k).request →
          u = setSlot k { slotAt s k with busy := true, qp := q,
                                          response := splice (padTo 4096 (slotAt s k).response) 0 (le 2 0) }
            (s.setHost { s.host with imms := rest }) →
          base = ({ route := .mailbox, hp1 := (qpAt s q).port == 1, qp := BitVec.ofNat 16 q, source := peerOf s q,
                    cycle := c, slot := some k, hostData := d } : Req) →
          (∀ st, messageFault 4096 m = some st → ∃ t, exec (.mailboxRequest c d) s = .next t ∧
            Answered (rd m 4 2) (reqOf base m) st [] s t) ∧
          (∀ op cmd, messageFault 4096 m = none → rd m 4 2 = op →
            (op, cmd) ∈ [(Op.sessionPing, Instr.sessionPing), (Op.queueCreate, Instr.queueCreate),
              (Op.ruleWrite, Instr.ruleWrite), (Op.flowRead, Instr.flowRead), (Op.timeQuery, Instr.timeQuery),
              (Op.modeSet, Instr.modeSet)] →
            ∃ t, exec (.mailboxRequest c d) s = .next t ∧ exec (cmd (reqOf base m)) u = .next t)))) ∧
    ((s.host.doorbells = [] ∨ inService s 18 0 = false) → exec .doorbellWrite s = .next s) ∧
    (∀ q v rest, s.host.doorbells = (q, v) :: rest → inService s 18 0 = true →
      ((hqAt s q).st = 0 → exec .doorbellWrite s = .next (s.setHost { s.host with doorbells := rest })) ∧
      ((hqAt s q).st ≠ 0 → doorbellOk (hqAt s q) v = false → ∃ t, exec .doorbellWrite s = .next t ∧
        t.host = { s.host with doorbells := rest } ∧
        counter t (paddr 18 q 7) = min (counter s (paddr 18 q 7) + 1) (2 ^ 32 - 1)) ∧
      ((hqAt s q).st ≠ 0 → doorbellOk (hqAt s q) v = true → ∃ t, exec .doorbellWrite s = .next t ∧
        t.host.doorbells = rest ∧ (hqAt t q).doorbell = BitVec.ofNat 32 v.toNat))

/-- The commands on queue pairs and host regions (R437 to R439). -/
def Obligations.QueuePairsAndHostRegionsAreSetUp : Prop :=
  ∀ (r : Req) (s : State), ∀ p, p = r.payload →
    (∀ (op : Nat) (c : Req → Instr) (need : Nat), (op, c, need) ∈ [(Op.qpCreate, Instr.qpCreate, 0),
        (Op.qpRestart, Instr.qpRestart, 2)] → Runs op r s → ∀ q, q = rd p 0 2 →
      (qpArgOk s p = false → ∃ t, exec (c r) s = .next t ∧ OnlyAnswers s t ∧ Answered op r St.eArg [] s t) ∧
      (qpArgOk s p = true → (qpAt s q).st ≠ need → ∃ t, exec (c r) s = .next t ∧ OnlyAnswers s t ∧
        Answered op r St.eBusy [] s t) ∧
      (qpArgOk s p = true → (qpAt s q).st = need → ∃ t, exec (c r) s = .next t ∧
        Answered op r St.ok (le 4 (256 + q)) s t ∧ (qpAt t q).st = 1 ∧ (qpAt t q).arg = p ∧ (qpAt t q).cause = 0 ∧
        (qpAt t q).rqPsn = BitVec.ofNat 24 (rd p 0x24 3) ∧ (qpAt t q).start = dueTick s r.cycle ∧
        t.sys.deferred = s.sys.deferred ++ [{ due := dueTick s r.cycle, change := .qpStart q }] ∧
        (r.route = .bootstrap → ∀ k, k ≠ q → qpAt t k = qpAt s k) ∧ t.host.region = s.host.region)) ∧
    (∀ q, p.length = 2 → q = rd p 0 2 → q < 256 →
      (Runs Op.qpDestroy r s → (qpAt s q).st = 0 → ∃ t, exec (.qpDestroy r) s = .next t ∧ OnlyAnswers s t ∧
        Answered Op.qpDestroy r St.eArg [] s t) ∧
      (Runs Op.qpDestroy r s → (qpAt s q).st ≠ 0 → ∃ t, exec (.qpDestroy r) s = .next t ∧ qpAt t q = {} ∧
        Answered Op.qpDestroy r St.ok [] s t ∧ t.host.region = s.host.region ∧
        ((qpAt s q).st = 1 → (qpAt s q).out = [] → Raised [(Ev.qpError, le 2 q ++ le 1 4 ++
          le 4 (qpAt s q).sqPsn.toNat ++ le 8 s.tick.count.toNat)] s t) ∧
        ((qpAt s q).st ≠ 1 → Raised [] s t)) ∧
      (Runs Op.qpQuery r s → ∃ t, exec (.qpQuery r) s = .next t ∧ OnlyAnswers s t ∧
        Answered Op.qpQuery r St.ok (padTo 64 (qpAt s q).arg ++ le 1 (qpAt s q).st ++ le 1 (qpAt s q).cause ++ le 2 0 ++
          le 4 (qpAt s q).sqPsn.toNat ++ le 4 (qpAt s q).rqPsn.toNat) s t)) ∧
    (Runs Op.hregionAdd r s →
      (p.length = 32 → rd p 0 2 < 4096 → rd p 2 2 < 256 → rd p 0x10 8 ≠ 0 → rd p 0x10 8 ≤ 2 ^ 40 → rd p 0x18 1 < 4 →
        rd p 0x19 7 = 0 → ∃ t, exec (.hregionAdd r) s = .next t ∧ Answered Op.hregionAdd r St.ok [] s t ∧
          regionAt t (rd p 0 2) = some p ∧ ∀ k, k ≠ rd p 0 2 → regionAt t k = regionAt s k) ∧
      (p.length ≠ 32 ∨ 4096 ≤ rd p 0 2 ∨ 256 ≤ rd p 2 2 ∨ rd p 0x10 8 = 0 ∨ 2 ^ 40 < rd p 0x10 8 ∨ 4 ≤ rd p 0x18 1 ∨
        rd p 0x19 7 ≠ 0 → ∃ t, exec (.hregionAdd r) s = .next t ∧ t.host.region = s.host.region ∧
          Answered Op.hregionAdd r St.eArg [] s t)) ∧
    (Runs Op.hregionRemove r s → p.length = 2 → ∀ n, n = rd p 0 2 → n < 4096 →
      (regionAt s n = none → ∃ t, exec (.hregionRemove r) s = .next t ∧ OnlyAnswers s t ∧
        Answered Op.hregionRemove r St.eArg [] s t) ∧
      (regionAt s n ≠ none → ∃ t, exec (.hregionRemove r) s = .next t ∧ Answered Op.hregionRemove r St.ok [] s t ∧
        regionAt t n = none ∧ (∀ k, k ≠ n → regionAt t k = regionAt s k) ∧
        (∀ q x, (q, x) ∈ s.host.queue → hqAt s q = x → x.st = 1 → x.ring_ = n → (hqAt t q).st ≠ 1))) ∧
    (Runs Op.hregionRead r s → p.length = 4 → ∀ a n, a = rd p 0 2 → n = rd p 2 2 → 1 ≤ n → n ≤ 127 → a + n ≤ 4096 →
      ∃ t, exec (.hregionRead r) s = .next t ∧ OnlyAnswers s t ∧ Answered Op.hregionRead r St.ok
        ((List.range n).flatMap (fun i => padTo 32 ((regionAt s (a + i)).getD []))) s t)

/-- Queues (R443 to R461) and the DMA engine (R462 to R472).  A state in which no queue has entries to fetch is named in
the clauses whose end would otherwise go on to fetch. -/
def Obligations.QueuesRunJobsAndTheEngineMovesBytes : Prop :=
  ∀ s : State,
    (∀ (r : Req) (p : List Byte) (q : Nat), p = r.payload → q = rd p 0 2 →
      (∀ x, Runs Op.queueCreate r s → x = ({ arg := p, st := if rd p 0x1C 1 = 1 then 1 else 3 } : Queue) →
        (queueArgOk s p = false → ∃ t, exec (.queueCreate r) s = .next t ∧ OnlyAnswers s t ∧
          Answered Op.queueCreate r St.eArg [] s t) ∧
        (queueArgOk s p = true → ((hqAt s q).st ≠ 0 ∨ boundAlready s x = true ∨
            (x.submits = true ∧ ((hqAt s x.cq).st = 0 ∨ (hqAt s x.cq).kind ≠ 8))) →
          ∃ t, exec (.queueCreate r) s = .next t ∧ OnlyAnswers s t ∧ Answered Op.queueCreate r St.eBusy [] s t) ∧
        (queueArgOk s p = true → (hqAt s q).st = 0 → boundAlready s x = false →
          (x.submits = true → (hqAt s x.cq).st ≠ 0 ∧ (hqAt s x.cq).kind = 8) →
          ∃ t, exec (.queueCreate r) s = .next t ∧ Answered Op.queueCreate r St.ok [] s t ∧ hqAt t q = x ∧
            (∀ i, x.exports = some i → (ringAt t i).queue = some q) ∧
            (∀ k, k ≠ q → k ≠ r.queue.toNat → hqAt t k = hqAt s k))) ∧
      (p.length = 2 → q < 1024 → ∀ x, x = hqAt s q →
        (Runs Op.queueDestroy r s → (x.st ≠ 3 → ∃ t, exec (.queueDestroy r) s = .next t ∧ OnlyAnswers s t ∧
            Answered Op.queueDestroy r St.eBusy [] s t) ∧
          (x.st = 3 → x.kind ≠ 8 → ∃ t, exec (.queueDestroy r) s = .next t ∧ hqAt t q = {} ∧
            Answered Op.queueDestroy r St.ok [] s t ∧ ∀ i, x.exports = some i → (ringAt t i).queue ≠ some q)) ∧
        (Runs Op.queueDisable r s → (x.st ≠ 1 → ∃ t, exec (.queueDisable r) s = .next t ∧ OnlyAnswers s t ∧
            Answered Op.queueDisable r St.eBusy [] s t) ∧
          (∀ h, x.st = 1 → x.kind ≠ 8 → x.held = [] → tgetD (fun _ => []) s.buf.hostq q = [] → newHandle s = some h →
            ∃ t, exec (.queueDisable r) s = .next t ∧ Started Op.queueDisable r h s t ∧ (hqAt t q).cause = 1 ∧
              (jobsLeft x = true → (hqAt t q).st = 2 ∧ (hqAt t q).handle = some h ∧ Raised [] s t) ∧
              (jobsLeft x = false → (hqAt t q).st = 3 ∧ Ended h St.ok (le 4 x.head.toNat) t ∧
                Raised [(Ev.queueDisabled, le 2 q ++ le 1 1 ++ le 4 x.head.toNat)] s t)) ∧
          (∀ h, x.st = 1 → x.kind = 8 → newHandle s = some h → ∃ t, exec (.queueDisable r) s = .next t ∧
            AnsweredAccepted Op.queueDisable r h s t ∧ ∀ k y, (k, y) ∈ s.host.queue → hqAt s k = y →
              y.submits = true → y.cq = q → y.st = 1 → (hqAt t k).st ≠ 1)) ∧
        (Runs Op.queueEnable r s → (x.st ≠ 3 → ∃ t, exec (.queueEnable r) s = .next t ∧ OnlyAnswers s t ∧
            Answered Op.queueEnable r St.eBusy [] s t) ∧
          (x.st = 3 → x.exports = none → (x.submits = true → x.doorbell = x.head) →
            ∃ t, exec (.queueEnable r) s = .next t ∧ Answered Op.queueEnable r St.ok [] s t ∧ (hqAt t q).st = 1 ∧
              (hqAt t q).cause = 0 ∧ (x.submits = true → (hqAt t q).fetched = x.head))) ∧
        (Runs Op.queueQuery r s → ∃ t, exec (.queueQuery r) s = .next t ∧ OnlyAnswers s t ∧
          Answered Op.queueQuery r St.ok (padTo 64 x.arg ++ le 1 x.st ++ le 1 x.cause ++ le 2 0 ++
            le 4 x.doorbell.toNat ++ le 4 x.fetched.toNat ++ le 4 x.head.toNat ++
            le 4 (if x.submits then 0 else x.doorbell.toNat)) s t))) ∧
    (∀ (q : Fin 1024) (x : Queue), x = hqAt s q →
      (x.arrived = none ∨ inService s 18 0 = false → exec (.queueFetchDone q) s = .next s) ∧
      (∀ b, x.arrived = some b → inService s 18 0 = true → x.fetched + BitVec.ofNat 32 x.fetching = x.doorbell →
        ∃ t, exec (.queueFetchDone q) s = .next t ∧ (hqAt t q).arrived = none ∧ (hqAt t q).fetching = 0 ∧
          (hqAt t q).entries = x.entries ++ splitEntries x.fetched x.fetching b ∧ (hqAt t q).fetched = x.doorbell) ∧
      (∀ (c : Fin 1350) d, (x.entries = [] ∨ jobFrame x = none ∨ x.st ≠ 1 ∨ mayStart s x = false →
          exec (.jobStart q c d) s = .next s) ∧
        (∀ pos e rest n ok es j u, x.entries = (pos, e) :: rest → jobFrame x = some (n, ok) → x.st = 1 →
          x.submits = true → inService s 18 0 = true → (hqAt s x.cq).st = 1 → mayStart s x = true →
          es = (x.entries.take n).map (·.2) →
          j = ({ pos := pos, count := n, tag := BitVec.ofNat 32 (rd e 4 4), entries := es,
                 begun := !postedKind x.kind || !ok } : Job) →
          u = setHq q { x with entries := x.entries.drop n, jobs := x.jobs ++ [j] } s →
          (ok = false → ∃ t, exec (.jobStart q c d) s = .next t ∧ (hqAt t q).entries = x.entries.drop n ∧
            (hqAt t q).jobs.getLast? = some { j with begun := true, done := true, status := St.eArg }) ∧
          (ok = true → x.kind = 7 → exec (.jobStart q c d) s = .next u) ∧
          (ok = true → postedKind x.kind = true → headersOk es = true → bufferOk x.kind e = true →
            exec (.jobStart q c d) s = .next u) ∧
          (∀ b z, ok = true → x.kind = 1 → headersOk es = true → injectOk s e = true → rd e 0x18 1 = 0 → d = some b →
            regionUsable s (rd e 8 2) (rd e 0x10 8) (rd e 0xA 2) false = some z → ∃ t,
              exec (.jobStart q c d) s = .next t ∧
              tgetD (fun _ => []) t.path.gens (rd e 0x19 1) = tgetD (fun _ => []) s.path.gens (rd e 0x19 1) ++
                [{ frame := padTo (rd e 0xA 2) b, test := true }] ∧
              (hqAt t q).jobs.getLast? = some { j with begun := true, done := true, status := St.ok }) ∧
          (∀ op cmd qp m, ok = true → x.kind = 0 → headersOk es = true → jobRejected s 0 es = false →
            m = jobMessage es → messageFault 4128 m = none → rd m 4 2 = op →
            qp = (match regionAt s x.ring_ with | some b => regionQp b | none => 0) →
            (op, cmd) ∈ [(Op.sessionPing, Instr.sessionPing), (Op.paramRead, Instr.paramRead),
              (Op.queueQuery, Instr.queueQuery), (Op.modeSet, Instr.modeSet)] →
            ∃ t, exec (.jobStart q c d) s = .next t ∧
              exec (cmd (reqOf { route := .queue, hp1 := (qpAt s qp).port == 1, qp := BitVec.ofNat 16 qp,
                                 queue := BitVec.ofNat 16 q, source := peerOf s qp, cycle := c, pos := pos,
                                 hostData := d } m)) u = .next t))) ∧
      (∀ j, x.kind ≠ 1 → oldestJob s q = some j → (j.done = false ∨ outstanding s (.data q j.pos) = true) →
        exec (.jobComplete q) s = .next s) ∧
      (∀ j c y, x.kind ≠ 1 → oldestJob s q = some j → j.done = true → outstanding s (.data q j.pos) = false →
        inService s 18 0 = true → c = x.cq → c ≠ q.val → y = hqAt s c → x.st = 1 → y.st = 1 →
        (∀ k, (hqAt s k).fetched = (hqAt s k).doorbell) →
        (∀ z, cqFull y = false → y.held = [] → y.headRegion = 0xFFFF →
          regionUsable s y.ring_ (y.at_ y.head) 32 true = some z → ∃ t, exec (.jobComplete q) s = .next t ∧
            (hqAt t c).head = y.head + 1 ∧ (∃ k ∈ (hqAt t q).jobs, k.pos = j.pos ∧ k.written = true) ∧
            ∃ o ∈ (qpAt t z).out, o.purpose = .completion q j.pos ∧ o.region = y.ring_ ∧ o.offset = y.at_ y.head ∧
              o.bytes = le 4 y.head.toNat ++ completionTail q { j with written := true }) ∧
        ((cqFull y = true ∨ y.held ≠ []) → ∃ t, exec (.jobComplete q) s = .next t ∧ (hqAt t c).head = y.head ∧
          (hqAt t c).held = y.held ++ [(q.val, j.pos, completionTail q { j with written := true })])) ∧
      (x.jobs = [] → exec (.completionAck q) s = .next s) ∧
      (∀ j rest, x.jobs = j :: rest → (j.written = false ∨ outstanding s (.completion q j.pos) = true) →
        exec (.completionAck q) s = .next s) ∧
      (∀ j rest z, x.jobs = j :: rest → j.written = true → outstanding s (.completion q j.pos) = false →
        (hqAt s x.cq).held = [] → inService s 18 0 = true → x.exports = none → x.headRegion ≠ 0xFFFF →
        x.headTick ≠ some s.tick.count → (∀ k, (hqAt s k).fetched = (hqAt s k).doorbell) →
        regionUsable s x.headRegion x.headOffset 8 true = some z → ∃ t, exec (.completionAck q) s = .next t ∧
          (hqAt t q).jobs = rest ∧ (hqAt t q).head = j.pos + BitVec.ofNat 32 j.count ∧
          ∃ o ∈ (qpAt t z).out, o.purpose = .head q ∧ o.region = x.headRegion ∧ o.offset = x.headOffset ∧
            o.bytes = le 8 (j.pos + BitVec.ofNat 32 j.count).toNat) ∧
      ((tgetD (fun _ => []) s.buf.hostq q = [] ∨ postedJob x = none ∨ receives s q = false) →
        exec (.rxBufferWrite q) s = .next s) ∧
      (∀ k rest j y p z e, tgetD (fun _ => []) s.buf.hostq q = k :: rest → postedJob x = some j → receives s q = true →
        inService s 18 0 = true → cqLoad s x.cq < 64 → storedAt s k = some y → pktAt s k = some p →
        e = j.entries.headD [] → x.rxOff = 0 → y.bytes.length ≤ rd e 0xC 4 →
        regionUsable s (rd e 8 2) (rd e 0x10 8) y.bytes.length true = some z → ∃ t, exec (.rxBufferWrite q) s = .next t ∧
          tgetD (fun _ => []) t.buf.hostq q = rest ∧ (hqAt t q).rxOff = 0 ∧
          (∃ i ∈ (hqAt t q).jobs, i.pos = j.pos ∧ i.done = true ∧
            i.detail = rxDetail p y.bytes.length true y.bad y.bytes.length) ∧
          ∃ o ∈ (qpAt t z).out, o.purpose = .data q j.pos ∧ o.offset = rd e 0x10 8 ∧ o.bytes = y.bytes)) ∧
    ((s.toune.events = [] ∨ inService s 26 0 = false) → exec .eventDeliver s = .next s) ∧
    (∀ e rest, s.toune.events = e :: rest → inService s 26 0 = true →
      (receivers s e = [] → ∃ t, exec .eventDeliver s = .next t ∧ t.toune.events = rest ∧ t.host = s.host ∧
        t.toune.delivered = s.toune.delivered) ∧
      (∀ i, receivers s e = [i] → sinkOf (sessionAt s i) = 0xFFFE → ∃ t, exec .eventDeliver s = .next t ∧
        t.toune.events = rest ∧
        (128 ≤ (sessionAt s i).hp → t.host.sent.length = s.host.sent.length + 1) ∧
        ((sessionAt s i).hp < 128 → t.host = s.host ∧ ∃ g,
          tgetD (fun _ => []) t.path.gens ((sessionAt s i).hp / 32) =
            tgetD (fun _ => []) s.path.gens ((sessionAt s i).hp / 32) ++ [g] ∧ g.reply = some (sessionAt s i).hp) ∧
        (sessionAt t i).evCount = (sessionAt s i).evCount + 1 ∧
        t.toune.delivered = s.toune.delivered ++ [(sessionId s i, 0xFFFE, e)]) ∧
      (∀ i q x, receivers s e = [i] → sinkOf (sessionAt s i) = q → q ≠ 0xFFFE → x = hqAt s q →
        bitOf x.bound (e.code / 0x1000) = true → x.st = 1 → x.kind = 9 →
        (x.size < (x.head - x.doorbell).toNat + (eventEntries e x.lostOwed).length →
          ∃ t, exec .eventDeliver s = .next t ∧ t.toune.events = rest ∧ (hqAt t q).head = x.head ∧
            (hqAt t q).lost = true ∧ counter t (paddr 18 q 6) = min (counter s (paddr 18 q 6) + 1) (2 ^ 32 - 1)) ∧
        ((x.head - x.doorbell).toNat + (eventEntries e x.lostOwed).length ≤ x.size → x.headRegion = 0xFFFF →
          (∀ m, regionUsable s x.ring_ (x.at_ m) 32 true ≠ none) → ∃ t, exec .eventDeliver s = .next t ∧
            t.toune.events = rest ∧ (hqAt t q).lostOwed = false ∧
            (hqAt t q).head = x.head + BitVec.ofNat 32 (eventEntries e x.lostOwed).length ∧
            t.toune.delivered = s.toune.delivered ++ [(sessionId s i, q, e)]))) ∧
    (∀ c : Fin 32, (dxQueue s c = none → ∀ d m, exec (.dxDescriptorEnd c d m) s = .next s) ∧
      (bitOf (reg s 20 c 0).toNat 0 = false → ∀ d m, exec (.dxDescriptorEnd c d m) s = .next s) ∧
      (∀ q j e d (m : Fin 3), dxQueue s c = some q → dxJob s q = some j → inService s 20 0 = true →
        bitOf (reg s 20 c 0).toNat 0 = true → e = j.entries.getD j.ended [] →
        (dxRefused s e = none → m.val = 0 → ∃ t, exec (.dxDescriptorEnd c d m) s = .next t ∧
          (∃ k ∈ (hqAt t q).jobs, k.pos = j.pos ∧ k.ended = j.ended + 1 ∧ k.bad = j.bad ∧ k.moved = j.moved + dxLen e ∧
            (j.ended + 1 < j.count → k.done = j.done) ∧ (j.count ≤ j.ended + 1 → k.done = true)) ∧
          counter t (paddr 20 c 3) = min (counter s (paddr 20 c 3) + 1) (2 ^ 32 - 1) ∧
          (dxSrc e = 0 → ∀ p : Bool, p = (dxDst e == 1) → winMem t p = Memory.writeAll (winAt s p) (winMem s p)
            (rd e 0x18 8) ((swapBytes (rd e 0xA 1) (padTo (dxLen e) d)).take (dxLen e)))) ∧
        ((dxRefused s e ≠ none ∨ m.val ≠ 0) → ∃ t, exec (.dxDescriptorEnd c d m) s = .next t ∧
          (∃ k ∈ (hqAt t q).jobs, k.pos = j.pos ∧ k.ended = j.ended + 1 ∧ k.bad = j.bad + 1 ∧ k.moved = j.moved) ∧
          counter t (paddr 20 c 4) = min (counter s (paddr 20 c 4) + 1) (2 ^ 32 - 1) ∧
          tfind t.host.lastBad c = some (j.pos + BitVec.ofNat 32 j.ended))) ∧
      (∃ t, exec (.dxCtrlDisable c) s = .next t ∧ bitOf (reg t 20 c 0).toNat 0 = false ∧
        (bitOf (reg s 20 c 0).toNat 0 = false → t.host = s.host ∧ t.toune = s.toune) ∧
        (∀ q, bitOf (reg s 20 c 0).toNat 0 = true → dxQueue s c = some q → ((hqAt s q).st = 1 ∨ (hqAt s q).st = 2) →
          (hqAt t q).st = 3 ∧ (hqAt t q).cause = 6 ∧ (hqAt t q).jobs = [] ∧
          LastRaised Ev.queueDisabled (le 2 q ++ le 1 6 ++ le 4 (hqAt s q).head.toNat) t)))

/-- Sessions (R482 to R485), handles (R488 to R492), the audit journal (R501) and the staging buffer (R487). -/
def Obligations.SessionsHandlesAuditAndStaging : Prop :=
  ∀ s : State,
    let closed := fun (i cause : Nat) (t : State) =>
      sessionAt t i = { gen := (sessionAt s i).gen } ∧
      Raised [(Ev.sessionClosed, le 4 (sessionId s i).toNat ++ le 1 cause)] s t ∧
      ∀ k, handleAt t k = if (handleAt s k).session = sessionId s i ∧ (handleAt s k).st = .done then
        { gen := (handleAt s k).gen } else handleAt s k
    (∀ (r : Req) (p : List Byte) (j : Nat) (x : Session), p = r.payload → j = sessionIdx r.session → x = sessionAt s j →
      (Runs Op.sessionOpen r s → p.length = 48 → rd p 0xA 6 = 0 → rd p 0x20 16 = 0 → r.session = 0 →
        ((chooseVersion (rd p 0 1) (rd p 1 1) (topVersion s) = none ∨ chooseVersion (rd p 2 1) (rd p 3 1) 1 = none) →
          ∃ t, exec (.sessionOpen r) s = .next t ∧ OnlyAnswers s t ∧
            Answered Op.sessionOpen r St.eVersion (le 1 1 ++ le 1 (topVersion s) ++ le 1 1 ++ le 1 1) s t) ∧
        (∀ v w, chooseVersion (rd p 0 1) (rd p 1 1) (topVersion s) = some v →
          chooseVersion (rd p 2 1) (rd p 3 1) 1 = some w → rd p 4 2 ≤ 3600 →
          (v = 1 ∨ sinkOk s (rd p 6 2) (r.route == .bootstrap) = true) →
          (freeSessions s = [] → ∃ t, exec (.sessionOpen r) s = .next t ∧ OnlyAnswers s t ∧
            Answered Op.sessionOpen r St.eNospace [] s t) ∧
          (freeSessions s ≠ [] → ∃ t, ∃ i ∈ freeSessions s, exec (.sessionOpen r) s = .next t ∧
            (sessionAt t i).isOpen = true ∧ (sessionAt t i).gen = nextSessionGen (sessionAt s i).gen ∧
            (sessionAt t i).version = BitVec.ofNat 8 v ∧ (sessionAt t i).keepalive = rd p 4 2 ∧
            (sessionAt t i).sink = (if v = 1 then 0xFFFF else rd p 6 2) ∧
            (sessionAt t i).client = (p.drop 0x10).take 16 ∧
            Answered Op.sessionOpen r St.ok (openResult t r (sessionId t i) v w) s t))) ∧
      (Runs Op.sessionClose r s → p.length = 4 → ∀ id, id = (BitVec.ofNat 32 (rd p 0 4) : Word) →
        ((id = 0 ∨ id = r.session) → ∃ t, exec (.sessionClose r) s = .next t ∧ closed j 0 t ∧
          Answered Op.sessionClose r St.ok [] s t) ∧
        (id ≠ 0 → id ≠ r.session → sessionOpen? s id = true → ∃ t, exec (.sessionClose r) s = .next t ∧
          closed (sessionIdx id) 2 t ∧ Answered Op.sessionClose r St.ok [] s t) ∧
        (id ≠ 0 → sessionOpen? s id = false → ∃ t, exec (.sessionClose r) s = .next t ∧ OnlyAnswers s t ∧
          Answered Op.sessionClose r St.eSession [] s t)) ∧
      (Runs Op.sessionPing r s → p = [] → ∃ t, exec (.sessionPing r) s = .next t ∧ OnlyAnswers s t ∧
        Answered Op.sessionPing r St.ok [] s t) ∧
      (Runs Op.sessionQuery r s → p.length = 4 → rd p 0 4 = 0 → ∃ t, exec (.sessionQuery r) s = .next t ∧
        OnlyAnswers s t ∧ Answered Op.sessionQuery r St.ok (le 4 r.session.toNat ++ le 1 x.version.toNat ++
          le 1 x.recVersion.toNat ++ le 2 x.keepalive ++ le 2 x.sink ++ le 2 x.subscribe.toNat ++ le 4 x.evCount.toNat ++
          padTo 16 x.client) s t) ∧
      (Runs Op.commandVersions r s → p.length = 2 → ∃ t, exec (.commandVersions r) s = .next t ∧ OnlyAnswers s t ∧
        Answered Op.commandVersions r St.ok (((allOps.filter (fun o => decide (rd p 0 2 ≤ o))).take 1000).flatMap
          (fun o => le 2 o ++ le 1 1 ++ le 1 1)) s t) ∧
      (Runs Op.eventSubscribe r s → p.length = 4 →
        (sinkOk s (rd p 0 2) x.boot = true → ∃ t, exec (.eventSubscribe r) s = .next t ∧
          Answered Op.eventSubscribe r St.ok [] s t ∧ (sessionAt t j).sink = rd p 0 2 ∧
          (sessionAt t j).subscribe = BitVec.ofNat 16 (rd p 2 2) ∧ (sessionAt t j).lastReq = s.tick.count) ∧
        (sinkOk s (rd p 0 2) x.boot = false → ∃ t, exec (.eventSubscribe r) s = .next t ∧ OnlyAnswers s t ∧
          Answered Op.eventSubscribe r St.eArg [] s t ∧ (sessionAt t j).sink = x.sink)) ∧
      (p.length = 4 → ∀ h y, h = argHandle p → y = handleAt s (handleIdx h) →
        (handleValid s h = false → (Runs Op.handleQuery r s → ∃ t, exec (.handleQuery r) s = .next t ∧ OnlyAnswers s t ∧
            Answered Op.handleQuery r St.eHandle [] s t) ∧
          (Runs Op.handleCancel r s → ∃ t, exec (.handleCancel r) s = .next t ∧ t.toune.handles = s.toune.handles ∧
            Answered Op.handleCancel r St.eHandle [] s t) ∧
          (Runs Op.handleRelease r s → ∃ t, exec (.handleRelease r) s = .next t ∧ t.toune.handles = s.toune.handles ∧
            Answered Op.handleRelease r St.eHandle [] s t)) ∧
        (handleValid s h = true →
          (Runs Op.handleQuery r s → ∀ d : Bool, d = (y.st == .done) → ∃ t, exec (.handleQuery r) s = .next t ∧
            OnlyAnswers s t ∧ Answered Op.handleQuery r St.ok (le 4 h.toNat ++ le 1 (if d then 2 else 1) ++
              le 1 (b2n (cancellable y)) ++ le 2 y.opcode ++ le 4 y.session.toNat ++
              le 2 (if d then y.status.toNat else 0) ++ le 2 y.result.length ++ le 8 y.startTick.toNat ++
              le 8 (if d then y.endTick.toNat else 0) ++ padTo 368 y.result) s t) ∧
          (Runs Op.handleCancel r s →
            ((y.st = .done ∨ y.ended ≠ none) → ∃ t, exec (.handleCancel r) s = .next t ∧
              Answered Op.handleCancel r St.ok (le 1 1) s t ∧ t.toune.handles = s.toune.handles) ∧
            (y.st ≠ .done → y.ended = none → (y.cancelling = true ∨ cancellable y = true) →
              ∃ t, exec (.handleCancel r) s = .next t ∧ Answered Op.handleCancel r St.ok (le 1 0) s t ∧
                handleAt t (handleIdx h) = { y with cancelling := true }) ∧
            (y.st ≠ .done → y.ended = none → y.cancelling = false → cancellable y = false →
              ∃ t, exec (.handleCancel r) s = .next t ∧ Answered Op.handleCancel r St.eBusy [] s t ∧
                t.toune.handles = s.toune.handles)) ∧
          (Runs Op.handleRelease r s → (y.st = .done → ∃ t, exec (.handleRelease r) s = .next t ∧
              Answered Op.handleRelease r St.ok [] s t ∧ handleAt t (handleIdx h) = { gen := y.gen } ∧
              ∀ k, k ≠ handleIdx h → handleAt t k = handleAt s k) ∧
            (y.st ≠ .done → ∃ t, exec (.handleRelease r) s = .next t ∧
              Answered Op.handleRelease r St.eBusy [] s t ∧ t.toune.handles = s.toune.handles)))) ∧
      (Runs Op.auditRead r s → p.length = 9 → 1 ≤ rd p 8 1 → rd p 8 1 ≤ 63 → ∃ t, exec (.auditRead r) s = .next t ∧
        OnlyAnswers s t ∧ Answered Op.auditRead r St.ok (le 8 s.toune.auditNext.toNat ++
          le 8 (match heldRecords s with | [] => s.toune.auditNext.toNat | e :: _ => e.1) ++
          (((heldRecords s).filter (fun e => decide (rd p 0 8 ≤ e.1))).take (rd p 8 1)).flatMap (·.2)) s t ∧
        t.toune.audit = s.toune.audit) ∧
      (Runs Op.stageWrite r s → ∀ n, n = rd p 4 4 → p.length = 8 + n → 1 ≤ n → n ≤ 4000 →
        (rd p 0 4 + n ≤ 65536 → ∃ t, exec (.stageWrite r) s = .next t ∧ Answered Op.stageWrite r St.ok [] s t ∧
          (sessionAt t j).staging = putBytes x.staging (rd p 0 4) (p.drop 8)) ∧
        (65536 < rd p 0 4 + n → ∃ t, exec (.stageWrite r) s = .next t ∧ Answered Op.stageWrite r St.eRange [] s t ∧
          (sessionAt t j).staging = x.staging))) ∧
    (∀ i : Fin 32, (((sessionAt s i).isOpen = false ∨ (sessionAt s i).keepalive = 0 ∨
        ticksSince s.tick.count (sessionAt s i).lastReq < 3000000 * (sessionAt s i).keepalive) →
        exec (.sessionKeepaliveExpiry i) s = .next s) ∧
      ((sessionAt s i).isOpen = true → (sessionAt s i).keepalive ≠ 0 →
        3000000 * (sessionAt s i).keepalive ≤ ticksSince s.tick.count (sessionAt s i).lastReq →
        ∃ t, exec (.sessionKeepaliveExpiry i) s = .next t ∧ closed i 1 t)) ∧
    (∀ (i : Fin 4096) (y : Handle), y = handleAt s i →
      ((y.st ≠ .done ∨ ticksSince s.tick.count y.endTick < 67108864) → exec (.handleRetentionExpiry i) s = .next s) ∧
      (y.st = .done → 67108864 ≤ ticksSince s.tick.count y.endTick → ∃ t, exec (.handleRetentionExpiry i) s = .next t ∧
        handleAt t i = { gen := y.gen } ∧ ∀ k, k ≠ i.val → handleAt t k = handleAt s k) ∧
      ((y.ended = none ∨ y.st ≠ .running) → exec (.opDone i) s = .next s) ∧
      (∀ st f, y.ended = some (st, f) → y.st = .running → ∃ t, exec (.opDone i) s = .next t ∧
        (handleAt t i).st = .done ∧ (handleAt t i).status = st ∧ (handleAt t i).result = f.take 368 ∧
        (handleAt t i).ended = none ∧ (handleAt t i).endTick = s.tick.count ∧
        Raised [(Ev.opDone, le 4 (0x1000000 * y.gen.toNat + i.val) ++ le 2 y.opcode ++ le 2 st.toNat ++ f)] s t))

/-- The parameter space (R10, R34, R235, R495, R496, R520, R530, R576 to R583). -/
def Obligations.ParameterWordsAreReadWrittenAndLatched : Prop :=
  ∀ s : State,
    let audited := fun (op : Nat) (st : Half) (t : State) => t.toune.events = s.toune.events ∧
      t.toune.auditNext = s.toune.auditNext + 1 ∧ ∃ e, t.toune.audit.getLast? = some e ∧ e.index = s.toune.auditNext ∧
        e.opcode = op ∧ e.status = st
    (∀ (r : Req) (p : List Byte) (i : Nat), p = r.payload → i = sessionIdx r.session →
      (Runs Op.paramRead r s → p.length = 12 → rd p 0 2 = 1 → rd p 2 1 ≤ 1 → rd p 3 5 = 0 → ∀ a, a = rd p 8 4 →
        (paramDef a = none → ∃ t, exec (.paramRead r) s = .next t ∧ OnlyAnswers s t ∧
          Answered Op.paramRead r St.eRange (itemResult 0 St.eRange) s t) ∧
        (∀ d, paramDef a = some d → a ≠ 6 → latchedBy a = [] → d.rc = 0 → d.hi = false → d.ro = 0 → d.w1c = 0 →
          openWord a = false → tfind s.prm.latches (latchKey i a) = none → ∃ t, exec (.paramRead r) s = .next t ∧
            OnlyAnswers s t ∧ Answered Op.paramRead r St.ok (itemResult
              (if isAbsent s (addrClass a) (addrInst a) && !isStatusWord a then d.reset
               else Nat.land (tgetD paramReset s.prm.regs a).toNat (Nat.lor d.rw d.rwl)) St.ok) s t)) ∧
      (Runs Op.paramReadBlock r s → p.length = 8 → rd p 6 2 = 0 → ∀ a n, a = rd p 0 4 → n = rd p 4 2 →
        ((n = 0 ∨ 1000 < n ∨ 0x4000 < addrWord a + n ∨ instanceExists (addrClass a) (addrInst a) = false) →
          ∃ t, exec (.paramReadBlock r) s = .next t ∧ OnlyAnswers s t ∧
            Answered Op.paramReadBlock r St.eRange [] s t) ∧
        (1 ≤ n → n ≤ 1000 → addrWord a + n ≤ 0x4000 → instanceExists (addrClass a) (addrInst a) = true →
          ∃ t b, exec (.paramReadBlock r) s = .next t ∧ Answered Op.paramReadBlock r St.ok b s t ∧
            b.length = 4 + 4 * n ∧ t.prm.regs = s.prm.regs ∧ t.sys = s.sys ∧
            ∀ k, k < n → paramDef (a + k) = none → rd b (4 + 4 * k) 4 = 0)) ∧
      (Runs Op.paramWrite r s → p.length = 20 → rd p 0 2 = 1 → rd p 2 1 ≤ 1 → rd p 3 5 = 0 →
        ∀ (a : Nat) (value mask : Word), a = rd p 8 4 → value = BitVec.ofNat 32 (rd p 12 4) →
          mask = BitVec.ofNat 32 (rd p 16 4) →
        (∀ e, judgeWrite i a value mask (touch r s) = .error e → e ≠ St.ok → ∃ t, exec (.paramWrite r) s = .next t ∧
          Answered Op.paramWrite r e (itemResult 0 e) s t ∧ t.prm.regs = s.prm.regs ∧ t.sys = s.sys) ∧
        (∀ v d, judgeWrite i a value mask (touch r s) = .ok v → paramDef a = some d → actsAtOnce a = false →
          ∃ t z, exec (.paramWrite r) s = .next t ∧ t.toune.responses = s.toune.responses ∧ t.prm.regs = s.prm.regs ∧
            z.opcode = Op.paramWrite ∧ z.session = r.session ∧ z.sequence = r.sequence ∧ z.status = St.ok ∧
            t.sys = { s.sys with deferred := s.sys.deferred ++
              [{ due := dueTick s r.cycle,
                 change := .word a (mask &&& BitVec.ofNat 32 (Nat.lor d.rw d.rwl)) value },
               { due := dueTick s r.cycle, change := .notify, resp := some z }] }))) ∧
    (∀ a mask value : Word,
      (s.sys.mode = .reset → exec (.paramWordWrite a mask value) s = .next s) ∧
      (∀ e, s.sys.mode ≠ .reset → judgeWrite 0 a.toNat value mask s = .error e → ∃ t,
        exec (.paramWordWrite a mask value) s = .next t ∧ t.prm = s.prm ∧ t.sys = s.sys ∧ t.flow = s.flow ∧ t.jnl = s.jnl ∧
          audited Op.paramWrite e t) ∧
      (∀ v d, s.sys.mode ≠ .reset → judgeWrite 0 a.toNat value mask s = .ok v → paramDef a.toNat = some d →
        addrClass a.toNat ∈ [2, 8, 9, 11, 14, 15, 17, 19, 21, 26] →
        ∃ t, exec (.paramWordWrite a mask value) s = .next t ∧
          tgetD paramReset t.prm.regs a.toNat = merged (tgetD paramReset s.prm.regs a.toNat)
            (mask &&& BitVec.ofNat 32 (Nat.lor d.rw d.rwl)) value ∧
          (∀ b, b ≠ a.toNat → tgetD paramReset t.prm.regs b = tgetD paramReset s.prm.regs b) ∧
          t.sys = s.sys ∧ audited Op.paramWrite St.ok t ∧ t.prm.counts = s.prm.counts)) ∧
    (∀ (i : Fin 32) (c : Fin 1350) (a : Word),
      (s.sys.mode = .reset → exec (.latchedLoRead i c a) s = .next s ∧ exec (.rcWordRead i c a) s = .next s) ∧
      (latchedBy a.toNat = [] → exec (.latchedLoRead i c a) s = .next s) ∧
      (isRc a.toNat = false → exec (.rcWordRead i c a) s = .next s) ∧
      (∀ v, s.sys.mode ≠ .reset → latchedBy a.toNat ≠ [] → a.toNat ≠ 6 → paramDef a.toNat ≠ none →
        tfind s.prm.latches (latchKey i a.toNat) = some v → ∃ t, exec (.latchedLoRead i c a) s = .next t ∧
          tfind t.prm.latches (latchKey i a.toNat) = none ∧ t.prm.counts = s.prm.counts ∧
          (isRc a.toNat = true → audited Op.paramRead St.ok t) ∧ (isRc a.toNat = false → t.toune = s.toune) ∧
          ∀ k, k ≠ latchKey i a.toNat → tfind t.prm.latches k = tfind s.prm.latches k) ∧
      (∀ b d, s.sys.mode ≠ .reset → b ∈ latchedBy a.toNat → a.toNat ≠ 6 → paramDef a.toNat ≠ none → paramDef b = some d →
        tfind s.prm.latches (latchKey i a.toNat) = none → ∃ t, exec (.latchedLoRead i c a) s = .next t ∧
          tfind t.prm.latches (latchKey i b) = some (BitVec.ofNat 32 (presentValue s c b d)) ∧
          t.prm.regs = s.prm.regs) ∧
      (∀ d, s.sys.mode ≠ .reset → paramDef a.toNat = some d → d.rc ≠ 0 → a.toNat ≠ 6 →
        isAbsent s (addrClass a.toNat) (addrInst a.toNat) = false →
        tfind s.prm.latches (latchKey i a.toNat) = none → ∃ t, exec (.rcWordRead i c a) s = .next t ∧
          counter t a.toNat = 0 ∧ (∀ b, b ≠ a.toNat → counter t b = counter s b) ∧ t.prm.regs = s.prm.regs ∧
          audited Op.paramRead St.ok t) ∧
      (tfind s.prm.latches (latchKey i 6) = none → ∃ t, exec (.entropyRead i c) s = .next t ∧ t.prm.regs = s.prm.regs ∧
        (s.tick.count.toNat < 16 → tfind t.prm.latches (latchKey i 7) = some 0 ∧ t.free = s.free) ∧
        (16 ≤ s.tick.count.toNat → t.free = s.free + 1 ∧
          tfind t.prm.latches (latchKey i 7) = some (BitVec.ofNat 32 ((freeBits 64 s).toNat / 2 ^ 32))))) ∧
    (∀ (w : Fin 2) (v : Word), (flowEmpty s = false → exec (.flowSeedWrite w v) s = .next s) ∧
      (flowEmpty s = true → ∃ t, exec (.flowSeedWrite w v) s = .next t ∧ reg t 13 16 (0x10 + w) = v ∧
        Raised [(Ev.flowSeedSet, le 8 s.tick.count.toNat)] s t ∧ t.flow = s.flow)) ∧
    (∀ (i : Fin 34) (w : Fin 0x1000) (v : Word),
      (∀ e, judgeWrite 0 (paddr 22 i w) v 0xFFFFFFFF s = .error e → exec (.pmonSelectWrite i w v) s = .next s) ∧
      (∀ x, judgeWrite 0 (paddr 22 i w) v 0xFFFFFFFF s = .ok x → i ≠ 0 →
        (reg s 22 i w = x → exec (.pmonSelectWrite i w v) s = .next s) ∧
        (reg s 22 i w ≠ x → ∃ t, exec (.pmonSelectWrite i w v) s = .next t ∧ reg t 22 i w = x ∧
          (i.val < 32 → 0x10 ≤ w.val → w.val < 0x20 → counter t (paddr 22 i (0x100 + 2 * (w - 0x10))) = 0) ∧
          (32 ≤ i.val → w.val % 8 = 0 → counter t (paddr 22 i (w + 2)) = 0) ∧
          (32 ≤ i.val → w.val % 8 = 1 → counter t (paddr 22 i (w + 3)) = 0)))) ∧
    (∀ on : Bool, ∃ t, exec (.pmonObserverWrite on) s = .next t ∧ observer t = on ∧ t.prm.counts = s.prm.counts ∧
      ∀ c i w, paddr c i w ≠ paddr 22 0 0 → reg t c i w = reg s c i w)

/-- The dispatchers (R506 to R513), the commands of the safety island (R568, R571), and a lane that does not lock (R92). -/
def Obligations.CoresRunWorkAndTheIslandReports : Prop :=
  ∀ s : State,
    (∀ (d : Fin 2) (fw : Option ServoStep) (x : ScDie), x = scDie s d →
      ((s.sys.mode = .reset ∨ inService s 21 (32 + d) = false ∨
          (nextDispatch s d = none ∧ nextPreempt s d = none)) → exec (.scDispatch d fw) s = .next s) ∧
      (∀ k j, s.sys.mode ≠ .reset → inService s 21 (32 + d) = true → nextDispatch s d = some (k, j) →
        ∃ t i, exec (.scDispatch d fw) s = .next t ∧ x.ready[k]? = some i ∧ j ∈ itemCores s d i ∧
          (coreAt x j).running = none ∧ (coreAt (scDie t d) j).running = some { i with ctx := false, started := true } ∧
          (∀ (k' : Nat) (i' : Item), x.ready[k']? = some i' → longestIdle x (itemCores s d i') ≠ none → itemPrio s d i' ≤ itemPrio s d i) ∧
          (i.started = true → (scDie t d).ready = x.ready.eraseIdx k ∧ t.toune = s.toune) ∧
          (∀ code b tick frc, i.started = false → i.work = .stream code b tick frc →
            t.toune.events = s.toune.events ++ [{ code := code, detail := b, tick := tick, frc := frc }])) ∧
      (∀ k j, s.sys.mode ≠ .reset → inService s 21 (32 + d) = true → nextDispatch s d = none →
        nextPreempt s d = some (k, j) → ∃ t i o, exec (.scDispatch d fw) s = .next t ∧ x.ready[k]? = some i ∧
          (coreAt x j).running = some o ∧ itemPrio s d o < itemPrio s d i ∧
          (coreAt (scDie t d) j).running = some { i with ctx := false, started := true } ∧
          { o with ctx := true } ∈ (scDie t d).ready ∧
          counter t (paddr 21 d 0xC0) = min (counter s (paddr 21 d 0xC0) + 1) (2 ^ 32 - 1)) ∧
      (∀ lim, lim = regField s 21 d 1 15 0 →
        (lim = 0 ∨ (∀ i ∈ x.ready, i.aged = true ∨ ticksSince s.tick.count i.ready < lim) →
          exec (.scItemAged d) s = .next s) ∧
        (∀ k i, lim ≠ 0 → x.ready[k]? = some i → i.aged = false → lim ≤ ticksSince s.tick.count i.ready →
          (∀ (k' : Nat) (i' : Item), k' < k → x.ready[k']? = some i' → i'.aged = true ∨ ticksSince s.tick.count i'.ready < lim) →
          ∃ t, exec (.scItemAged d) s = .next t ∧ (scDie t d).ready = x.ready.set k { i with aged := true } ∧
            (scDie t d).core = x.core ∧
            counter t (paddr 21 d 0xC1) = min (counter s (paddr 21 d 0xC1) + 1) (2 ^ 32 - 1)))) ∧
    (∀ (c : Fin 32) (n : Nat) (d j : Nat) (x : ScDie), d = c.val / 16 → j = c.val % 16 → x = scDie s d →
      ((coreAt x j).running = none → exec (.scItemEnd c n) s = .next s) ∧
      ((coreAt x j).running ≠ none → ∃ t, exec (.scItemEnd c n) s = .next t ∧ (scDie t d).ready = x.ready ∧
        (coreAt (scDie t d) j).running = none ∧ (coreAt (scDie t d) j).cycles = (coreAt x j).cycles + n ∧
        ∀ k, k ≠ j → coreAt (scDie t d) k = coreAt x k)) ∧
    (∀ (r : Req) (p : List Byte), p = r.payload →
      (Runs Op.safetyQuery r s → p = [] → ∃ t, exec (.safetyQuery r) s = .next t ∧ OnlyAnswers s t ∧
        Answered Op.safetyQuery r St.ok (le 4 (roZal s 0) ++ le 4 (roZal s 1) ++ le 4 (roZal s 2) ++ le 4 (roZal s 3) ++
          le 4 (roZal s 7)) s t) ∧
      (∀ i, Runs Op.safetyLogRead r s → p.length = 8 → rd p 4 4 = 0 → i ≤ s.zal.log.length → s.zal.log.length ≤ 256 →
        (BitVec.ofNat 32 (rd p 0 4) : Word) = s.zal.logNext - BitVec.ofNat 32 s.zal.log.length + BitVec.ofNat 32 i →
        ∃ t, exec (.safetyLogRead r) s = .next t ∧ OnlyAnswers s t ∧ Answered Op.safetyLogRead r St.ok
          (le 4 s.zal.logNext.toNat ++ le 4 (s.zal.logNext - BitVec.ofNat 32 s.zal.log.length).toNat ++
            le 2 ((s.zal.log.drop i).take 64).length ++ le 2 0 ++
            (((s.zal.log.drop i).take 64).map (·.bytes)).flatten) s t) ∧
      (Runs Op.safetySelftest r s →
        (s.sys.mode ≠ .configure → s.sys.mode ≠ .test → ∃ t, exec (.safetySelftest r) s = .next t ∧ OnlyAnswers s t ∧
          Answered Op.safetySelftest r St.eMode [] s t) ∧
        ((s.sys.mode = .configure ∨ s.sys.mode = .test) → p = [] →
          (s.zal.selftestOp ≠ none → ∃ t, exec (.safetySelftest r) s = .next t ∧ OnlyAnswers s t ∧
            Answered Op.safetySelftest r St.eBusy [] s t) ∧
          (∀ h, s.zal.selftestOp = none → newHandle s = some h → ∃ t, exec (.safetySelftest r) s = .next t ∧
            Started Op.safetySelftest r h s t ∧ t.zal = { s.zal with selftestOp := some h })))) ∧
    (∀ l : Fin 16, ((laneAt s (144 + l)).leaving = none → exec (.laneIdleExitFail l) s = .next s) ∧
      ((laneAt s (144 + l)).leaving ≠ none → ∃ t e, exec (.laneIdleExitFail l) s = .next t ∧ (halfAt t (l / 8)).st = .down ∧
      (∀ k, k < 8 → (tgetD (fun _ => ({} : Lane)) t.ports.lane (144 + 8 * (l / 8) + k)).idle = true) ∧
      t.toune.events[s.toune.events.length]? = some e ∧ e.code = Ev.laneIdleExitFail ∧ e.detail = le 2 (144 + l) ∧
      ∀ h, h ≠ l.val / 8 → (halfAt t h).st = (halfAt s h).st))

/-- The half-links (R534 to R536), the forming of a pair (R538 to R541), and the heartbeat (R547 to R549). -/
def Obligations.HalfLinksCarryFramesAndPairsForm : Prop :=
  ∀ s : State,
    (∀ (h : Fin 2) (x : HalfLink), x = halfAt s h →
      let others := fun t : State => ∀ k, k ≠ h.val → halfAt t k = halfAt s k
      let next := fun (code : Nat) (d : List Byte) (t : State) =>
        ∃ e, t.toune.events[s.toune.events.length]? = some e ∧ e.code = code ∧ e.detail = d
      let nak : List Byte := linkBytes 7 0 x.expect (le 4 2 ++ le 4 x.expect.toNat)
      (x.st ≠ .hunt → exec (.twinLaneLock h) s = .next s) ∧
      (x.st = .hunt → ∃ t, exec (.twinLaneLock h) s = .next t ∧ halfAt t h = { x with st := .align, locked := 0xFF } ∧
        others t ∧ ∀ l, l < 8 → (laneAt t (144 + 8 * h + l)).cdrLock = true) ∧
      (∀ o, (x.st ≠ .align ∨ orderOk o = false → exec (.twinLinkUp h o) s = .next s) ∧
        (x.st = .align → orderOk o = true → ∃ t, exec (.twinLinkUp h o) s = .next t ∧ (halfAt t h).st = .up ∧
          (halfAt t h).order = o ∧ Raised [(Ev.twinLinkUp, le 1 h ++ le 8 s.tick.count.toNat)] s t ∧
          t.twin.pair = (if s.twin.pair = .alone then .forming else s.twin.pair) ∧ t.twin.role = s.twin.role)) ∧
      ((x.st = .down ∨ twinEnabled s = true) → exec (.twinLinkDown h 3) s = .next s) ∧
      (x.st ≠ .down → twinEnabled s = false → ∃ t, exec (.twinLinkDown h 3) s = .next t ∧ (halfAt t h).st = .down ∧
        (x.st = .up → next Ev.twinLinkDown (le 1 h ++ le 1 3) t)) ∧
      (∀ c : Fin 4, c.val ≠ 3 → (x.st ≠ .align → x.st ≠ .up → exec (.twinLinkDown h c) s = .next s) ∧
        ((x.st = .align ∨ x.st = .up) → ∃ t, exec (.twinLinkDown h c) s = .next t ∧ (halfAt t h).st = .hunt ∧
          (halfAt t h).unacked = x.unacked ∧ (x.st = .up → next Ev.twinLinkDown (le 1 h ++ le 1 c) t ∧
            counter t (paddr 23 (1 + h) 0x12) = min (counter s (paddr 23 (1 + h) 0x12) + 1) (2 ^ 32 - 1)) ∧
          (halfUp s (1 - h) = false → t.twin.pair = .alone))) ∧
      (x.st ≠ .up → ∀ b, exec (.twinFrameRx h b) s = .next s) ∧
      (x.st = .up → ∀ b, frameWhole b = false → ∃ t, exec (.twinFrameRx h b) s = .next t ∧ others t ∧
        counter t (paddr 23 (1 + h) 0x10) = min (counter s (paddr 23 (1 + h) 0x10) + 1) (2 ^ 32 - 1) ∧
        halfAt t h = if x.nakOut then x else { x with nakOut := true, sent := x.sent ++ [nak] }) ∧
      (∀ (b p : List Byte) (kind : Nat) (seq : Half), x.st = .up → frameWhole b = true → kind = rd b 0 1 →
        seq = BitVec.ofNat 16 (rd b 4 2) → p = (b.drop 8).take (b.length - 12) →
        ((kind = 0 ∨ 7 < kind) → exec (.twinFrameRx h b) s = .next s) ∧
        (1 ≤ kind → kind ≤ 6 → seq = x.expect → ∃ t, exec (.twinFrameRx h b) s = .next t ∧
          (halfAt t h).expect = x.expect + 1 ∧ (halfAt t h).nakOut = false ∧ others t ∧
          (kind ≠ 6 → (halfAt t h).rx = x.rx ++ (splitItems kind p.length p).map (fun i => (kind, i)) ∧
            (halfAt t h).rxCross = x.rxCross) ∧
          (kind = 6 → (halfAt t h).rxCross = x.rxCross ++ splitItems 6 p.length p ∧ (halfAt t h).rx = x.rx)) ∧
        (1 ≤ kind → kind ≤ 6 → seq ≠ x.expect → ∃ t, exec (.twinFrameRx h b) s = .next t ∧
          (halfAt t h).expect = x.expect ∧ (halfAt t h).rx = x.rx ∧ (halfAt t h).rxCross = x.rxCross ∧
          (seqBefore seq x.expect = true → (halfAt t h).nakOut = x.nakOut) ∧
          (seqBefore seq x.expect = false → (halfAt t h).nakOut = true)) ∧
        (kind = 7 → rd p 0 4 = 1 → x.waiting = [] → ∃ t, exec (.twinFrameRx h b) s = .next t ∧
          (halfAt t h).unacked = (x.unacked.filter (fun f => !seqBefore f.seq (BitVec.ofNat 16 (rd b 6 2)))).filter
            (fun f => !seqBefore f.seq (BitVec.ofNat 16 (rd p 4 4))) ∧ (halfAt t h).rx = x.rx)) ∧
      ((x.unacked = [] ∨ x.st ≠ .up) → exec (.twinResendTimeout h) s = .next s) ∧
      (∀ f rest, x.unacked = f :: rest → x.st = .up →
        (ticksSince s.tick.count f.since < 4 → exec (.twinResendTimeout h) s = .next s) ∧
        (4 ≤ ticksSince s.tick.count f.since → x.resends < 16 → ∃ t, exec (.twinResendTimeout h) s = .next t ∧
          (halfAt t h).resends = x.resends + 1 ∧ others t ∧
          (halfAt t h).sent = x.sent ++ x.unacked.map (fun f => linkBytes f.kind f.seq x.expect f.payload) ∧
          (halfAt t h).unacked = x.unacked.map (fun f => { f with since := s.tick.count })) ∧
        (4 ≤ ticksSince s.tick.count f.since → 16 ≤ x.resends → ∃ t, exec (.twinResendTimeout h) s = .next t ∧
          (halfAt t h).st = .hunt ∧ (halfAt t h).unacked = x.unacked)) ∧
      (takeItem h 1 [1] s = none → exec (.twinHelloRx h) s = .next s) ∧
      (∀ b u, takeItem h 1 [1] s = some (b, u) → b.length = 64 → ∃ t, exec (.twinHelloRx h) s = .next t ∧
        t.twin.hello = b ∧ t.twin.peerSerial = BitVec.ofNat 64 (rd b 8 8) ∧
        ((s.twin.pair = .alone ∨ paired s = true) → t.twin.pair = s.twin.pair ∧ t.twin.role = s.twin.role) ∧
        (s.twin.pair ≠ .alone → paired s = false → helloMismatch s b ≠ 0 → t.twin.pair = .incompatible ∧
          t.twin.mismatch = helloMismatch s b) ∧
        (∀ r, s.twin.pair ≠ .alone → paired s = false → helloMismatch s b = 0 → decideRole s b = some r →
          t.twin.mismatch = 0 ∧ t.twin.role = r ∧
          ((r = 1 ∧ rd b 0x12 1 = 5) ∨ (r = 2 ∧ s.sys.mode = .standby) → t.twin.pair = .rejoining ∧
            Raised [(Ev.twinPairFormed, le 1 r ++ le 1 1 ++ le 8 (rd b 8 8))] s t) ∧
          (¬ ((r = 1 ∧ rd b 0x12 1 = 5) ∨ (r = 2 ∧ s.sys.mode = .standby)) → t.twin.pair = .forming)) ∧
        (s.twin.pair ≠ .alone → paired s = false → helloMismatch s b = 0 → decideRole s b = none →
          ((activeByPin s b || bitOf (reg s 23 0 0).toNat 3) = true → t.twin.pair = .split ∧ t.twin.role = 1) ∧
          ((activeByPin s b || bitOf (reg s 23 0 0).toNat 3) = false → t.twin.pair = .forming ∧ t.twin.role = 2 ∧
            t.twin.yields = true))) ∧
      (takeItem h 2 [2] s = none → exec (.twinHeartbeatRx h) s = .next s) ∧
      (∀ b u, takeItem h 2 [2] s = some (b, u) → b.length = 64 → ∃ t, exec (.twinHeartbeatRx h) s = .next t ∧
        t.twin.beat = b ∧
        (s.twin.pair ≠ .forming → paired s = false → t.twin.pair = s.twin.pair ∧ t.twin.role = s.twin.role ∧
          t.twin.missed = 0 ∧ t.twin.beatSeen = true) ∧
        (s.twin.pair = .forming → s.twin.role = 1 → rd b 8 1 = 5 → rd b 9 1 = 2 → t.twin.pair = .rejoining) ∧
        (paired s = true → s.twin.role = 1 → rd b 9 1 ≠ 1 → bitOf (rd b 0xB 1) 0 = true → t.twin.pair = .alone ∧
          Raised [(Ev.twinPeerLost, le 1 1 ++ le 8 s.tick.count.toNat)] s t) ∧
        (paired s = true → s.twin.role = 1 → rd b 9 1 ≠ 1 → bitOf (rd b 0xB 1) 0 = false →
          t.twin.applied0 = BitVec.ofNat 32 (rd b 0x18 4) ∧ t.twin.applied1 = BitVec.ofNat 32 (rd b 0x1C 4) ∧
          (s.twin.pair = .inSync → rd b 0xA 1 = 6 → t.twin.pair = .outOfSync) ∧
          (s.twin.pair = .rejoining → s.twin.ready = false → rd b 0xA 1 = 4 → bitOf (rd b 0xB 1) 3 = true →
            rd b 0x28 4 = 0 → t.twin.walking = true ∧ t.twin.ready = true ∧ t.twin.pair = .rejoining) ∧
          (∀ e f, s.twin.pair = .rejoining → s.twin.ready = true → rd b 0xA 1 ≠ 6 → s.twin.endSeq = some (e, f) →
            rd b 0x28 4 = s.twin.bulkSent % 2 ^ 29 →
            reached (BitVec.ofNat 32 (rd b 0x18 4)) (BitVec.ofNat 32 (rd b 0x1C 4)) e f = true →
            t.twin.pair = .inSync ∧ Raised [(Ev.twinInSync, le 8 s.tick.count.toNat)] s t)) ∧
        (paired s = true → s.twin.role = 2 → s.sys.mode = .standby → s.twin.takeover = none →
          bitOf (rd b 0xB 1) 0 = true → t.twin.takeover = some 1) ∧
        (s.twin.pair = .rejoining → s.twin.role = 2 → rd b 0xA 1 = 5 → t.twin.pair = .inSync ∧
          Raised [(Ev.twinInSync, le 8 s.tick.count.toNat)] s t))) ∧
    (∀ missed watch, missed = (if s.twin.beatSeen then 0 else s.twin.missed + 1) →
      watch = (paired s || (s.twin.role == 2 && s.sys.mode == .standby && s.twin.pair == .alone)) →
      (watch = false ∨ missed < regField s 23 0 0 11 8 ∨ s.twin.takeover ≠ none → exec .twinHbMiss s = .next s) ∧
      (watch = true → regField s 23 0 0 11 8 ≤ missed → s.twin.takeover = none → s.sys.mode ≠ .reset →
        ∃ t, exec .twinHbMiss s = .next t ∧ Recorded 0x16 23 0 0 s t ∧
          (s.twin.role = 2 → s.sys.mode = .standby → t.twin.takeover = some 0 ∧ t.twin.pair = s.twin.pair) ∧
          (s.twin.role ≠ 2 → t.twin.pair = .alone)))

/-- Replication (R542 to R546), rejoin (R547, R548), hand-over (R551) and the twin commands (R552). -/
def Obligations.TwinsReplicateRejoinAndHandOver : Prop :=
  ∀ s : State, s.flow.cmds = [] →
    let tiers := fun (x : Slice) => (x.hearth, x.stack, x.turf, x.sums, x.wheel, x.flights)
    (∀ h : Fin 2,
      (applies s = false → exec (.twinDeltaApply h) s = .next s ∧ exec (.twinFollowApply h) s = .next s ∧
        exec (.twinBulkApply h) s = .next s) ∧
      (takeItem h 3 [3, 4, 5] s = none → exec (.twinDeltaApply h) s = .next s) ∧
      (takeItem h 4 [3, 4, 5] s = none → exec (.twinFollowApply h) s = .next s) ∧
      (takeItem h 5 [3, 4, 5] s = none → exec (.twinBulkApply h) s = .next s) ∧
      (∀ k b u, takeItem h k [3, 4, 5] s = some (b, u) →
        ownRoom s (applyCost k b).1 2 < (applyCost k b).2 →
        (k = 3 → exec (.twinDeltaApply h) s = .next s) ∧ (k = 4 → exec (.twinFollowApply h) s = .next s) ∧
        (k = 5 → exec (.twinBulkApply h) s = .next s)) ∧
      (∀ b u n, applies s = true → takeItem h 3 [3, 4, 5] s = some (b, u) → n = rd b 1 1 % 16 → 1 ≤ ownRoom s n 2 →
        let noted := fun t : State =>
          if n < 8 then t.twin.applied0 = BitVec.ofNat 32 (rd b 4 4) ∧ t.twin.applied1 = s.twin.applied1
          else t.twin.applied1 = BitVec.ofNat 32 (rd b 4 4) ∧ t.twin.applied0 = s.twin.applied0
        (∀ d, rd b 0 1 = 2 → d = BitVec.ofNat 64 (rd b 8 8) → flightAt s n d = none →
          (locate s n d none = .miss → ∃ t, exec (.twinDeltaApply h) s = .next t ∧ noted t ∧
            ∀ m, tiers (slAt t m) = tiers (slAt s m)) ∧
          (∀ k e, locate s n d none = .hit ⟨1, k⟩ e → tfind (slAt s n).stack k = some e → isPtr e = false → ∃ t, exec (.twinDeltaApply h) s = .next t ∧
            noted t ∧ tfind (slAt t n).stack k = none)) ∧
        (∀ e d, rd b 0 1 = 1 → e = deltaRecord s b → d = digestOf s (keyOf e) → flightAt s n d = none →
          locate s n d (some (keyOf e)) = .miss → anyDigest s n d = none → isPinned e = false → isBound e = false →
          actKind e ≤ 1 → Readable (slAt s n) →
          stackRoom s n d (entrySlots (withTag (putCtlField 26 25 3 (putCtlField 3 3 0 e)))) = true →
          ∃ t k, exec (.twinDeltaApply h) s = .next t ∧ noted t ∧
            tfind (slAt t n).stack k = some (withTag (putCtlField 26 25 3 (putCtlField 3 3 0 e))))) ∧
      (∀ b u n d k e, applies s = true → takeItem h 4 [3, 4, 5] s = some (b, u) → n = rd b 0x1E 2 % 16 →
        1 ≤ ownRoom s n 2 → d = BitVec.ofNat 64 (rd b 0 8) → flightAt s n d = none → locate s n d none = .hit ⟨1, k⟩ e →
        isPtr e = false → ∀ e', e' = withTag (putScr 0 (rd b 0x1C 2)
          (putLastTick (BitVec.ofNat 48 (rd b 0x16 6) + s.twin.offset) (splice e (pktsOff e) ((b.drop 8).take 14)))) →
        ∃ t, exec (.twinFollowApply h) s = .next t ∧ (tfind (slAt t n).stack k = some e' ∨
          ∃ w v, tfind (slAt t n).hearth w = some v ∧ v.digest = d ∧ v.entry = e')) ∧
      (∀ b u, applies s = true → takeItem h 5 [3, 4, 5] s = some (b, u) →
        2 * rd b 5 1 ≤ ownRoom s (rd b 4 1 % 16) 2 → ∃ t, exec (.twinBulkApply h) s = .next t ∧
        t.twin.buckets = s.twin.buckets + 1 ∧
        ((∀ e ∈ bulkRecords b, tagOk e = false) → ∀ m, slAt t m = slAt s m)) ∧
      (takeItem h 7 [7] s = none → exec (.twinControlRx h) s = .next s) ∧
      (∀ b u, takeItem h 7 [7] s = some (b, u) → s.twin.role = 2 → paired s = true → rd b 4 4 = 0 →
        (rd b 0 4 = 4 → rd b 8 4 ≤ (b.drop 12).length → ∃ t, exec (.twinControlRx h) s = .next t ∧
          t.sys.deferred = s.sys.deferred ++ [{ due := s.tick.count + 1, change := .progLoad (b.drop 12) }]) ∧
        ((b.drop 12).length < rd b 8 4 → ∃ t, exec (.twinControlRx h) s = .next t ∧ t.sys = s.sys ∧
          t.twin.ctlType = rd b 0 4 ∧ t.twin.ctlBuf = b.drop 12)) ∧
      (((halfAt s h).rxCross = [] ∨ s.twin.role ≠ 1) → exec (.twinCrossRx h) s = .next s) ∧
      (∀ b rest f p, (halfAt s h).rxCross = b :: rest → s.twin.role = 1 → f = (b.drop 8).take (rd b 2 2) →
        p = 1 + 2 * h.val → ∃ t, exec (.twinCrossRx h) s = .next t ∧ (halfAt t h).rxCross = rest ∧
          tgetD (fun _ => []) t.path.xsrc p = tgetD (fun _ => []) s.path.xsrc p ++ [(rd b 0 1, f)] ∧
          counter t (paddr 23 0 0x16) = min (counter s (paddr 23 0 0x16) + 1) (2 ^ 32 - 1) ∧
          (halfUp s h = true → (halfAt t h).sent = (halfAt s h).sent ++
            [linkBytes 7 0 (halfAt s h).expect (le 4 3 ++ le 4 (cellsOf f.length))]))) ∧
    ((s.twin.role ≠ 2 ∨ s.twin.clearing = false) → exec .twinStandbyCleared s = .next s) ∧
    (s.twin.role = 2 → s.twin.clearing = true → (∀ n, n < 16 → (slAt s n).flights = [] ∧ (slAt s n).hostQ = []) →
      ∃ t, exec .twinStandbyCleared s = .next t ∧ t.twin.ready = true ∧ t.twin.clearing = false ∧ t.twin.buckets = 0 ∧
        ∀ n, n < 16 → (slAt t n).hearth = [] ∧ (slAt t n).stack = [] ∧ (slAt t n).turf = [] ∧ (slAt t n).wheel = []) ∧
    (∀ n : Fin 16, ((s.twin.role ≠ 1 ∨ (s.twin.pair ≠ .inSync ∧ s.twin.pair ≠ .outOfSync)) →
        exec (.twinFollowRead n) s = .next s) ∧
      (∀ d p e h x, s.twin.role = 1 → (s.twin.pair = .inSync ∨ s.twin.pair = .outOfSync) →
        tgetD (fun _ => []) s.twin.follow n = [d] → flightAt s n d = none → locate s n d none = .hit p e →
        isPtr e = false → linkOf s (n / 8) = some h → x = halfAt s h → x.waiting = [] → replayUse x + 44 ≤ 262144 →
        ownUsed s n 2 < 64 → 1 ≤ ownRoom s n 2 → 1 ≤ followRoom s → ∃ t, exec (.twinFollowRead n) s = .next t ∧ tgetD (fun _ => []) t.twin.follow n = [] ∧
          (halfAt t h).sent = x.sent ++ [linkBytes 4 x.nextSeq x.expect (followItem n d e)])) ∧
    (∀ d : Fin 2, (∀ k, linkOf s d = none ∨ s.twin.role ≠ 1 ∨ s.twin.pair ≠ .rejoining ∨ s.twin.walking = false ∨
        lagAt s d ≠ [] → exec (.twinBulkWalk d k) s = .next s) ∧
      (∀ h w n b es item x, linkOf s d = some h → s.twin.role = 1 → s.twin.pair = .rejoining → s.twin.walking = true →
        lagAt s d = [] → w = tgetD (fun _ => ({} : Walk2)) s.twin.walk d → walkSlice w d = some n →
        tfind w.next n = some b → b + 1 < stackBuckets s → es = bucketRecords s n b →
        item = le 4 b ++ le 1 n ++ le 1 es.length ++ le 2 0 ++ es.flatten → x = halfAt s h →
        ((es ≠ [] ∧ bulkRoom s d < item.length) ∨ backRoom s n = 0 ∨ recRoom s n (b % 8) = false ∨
          (coldTier s n = true ∧ turfRoom s n = false) → ∀ k, exec (.twinBulkWalk d k) s = .next s) ∧
        (es = [] → 0 < backRoom s n → recRoom s n (b % 8) = true → (coldTier s n = true → turfRoom s n = true) →
          ∃ t, exec (.twinBulkWalk d 1) s = .next t ∧ t.twin.buckets = s.twin.buckets + 1 ∧
          tfind (tgetD (fun _ => ({} : Walk2)) t.twin.walk d).next n = some (b + 1) ∧ halfAt t h = x ∧
          t.twin.bulkSent = s.twin.bulkSent ∧ t.twin.walking = true) ∧
        (es ≠ [] → item.length ≤ bulkRoom s d → 0 < backRoom s n → recRoom s n (b % 8) = true →
          (coldTier s n = true → turfRoom s n = true) → x.waiting = [] → replayUse x + item.length + 12 ≤ 262144 →
          ∃ t, exec (.twinBulkWalk d 1) s = .next t ∧ t.twin.buckets = s.twin.buckets + 1 ∧
            t.twin.bulkSent = s.twin.bulkSent + 1 ∧
            (halfAt t h).sent = x.sent ++ [linkBytes 5 x.nextSeq x.expect item])) ∧
      (∀ h k, linkOf s d = some h → s.twin.role = 1 → s.twin.pair = .rejoining → s.twin.walking = true →
        lagAt s d = [] → (∀ w ∈ s.twin.walk, w.2.next = []) → (tgetD (fun _ => ({} : Walk2)) s.twin.walk d).next = [] →
        ∃ t, exec (.twinBulkWalk d k) s = .next t ∧ t.twin.walking = false ∧
          t.twin.endSeq = some (s.twin.sent0, s.twin.sent1))) ∧
    (s.twin.handover = none → exec .twinHandoverDrained s = .next s) ∧
    (∀ y, s.twin.handover = some y →
      ((y.drained = true ∨ opsInFlight s = true ∨ lagAt s 0 ≠ [] ∨ lagAt s 1 ≠ []) →
        exec .twinHandoverDrained s = .next s) ∧
      (y.drained = false → opsInFlight s = false → lagAt s 0 = [] → lagAt s 1 = [] →
        ∃ t, exec .twinHandoverDrained s = .next t ∧ t.twin = { s.twin with
          handover := some { y with drained := true, final0 := s.twin.sent0, final1 := s.twin.sent1 } }) ∧
      ((ticksSince s.tick.count y.start < 1000 ∨ y.handle = 0) → exec .twinHandoverTimeout s = .next s) ∧
      (1000 ≤ ticksSince s.tick.count y.start → y.handle ≠ 0 → ∃ t, exec .twinHandoverTimeout s = .next t ∧
        (handleAt t (handleIdx y.handle)).st = .done ∧ (handleAt t (handleIdx y.handle)).status = St.eTimeout ∧
        t.twin.handover = some { y with handle := 0 })) ∧
    (s.twin.handover = none → (s.twin.peerHanding = none → exec .twinHandoverTimeout s = .next s) ∧
      (∀ m, s.twin.peerHanding = some m → s.twin.role = 2 → s.sys.mode = .standby → s.twin.takeover = none →
        1000 ≤ ticksSince s.tick.count m → ∃ t, exec .twinHandoverTimeout s = .next t ∧
          t.twin = { s.twin with takeover := some 2 })) ∧
    (∀ r : Req, r.payload = [] →
      (Runs Op.twinQuery r s → ∃ t, exec (.twinQuery r) s = .next t ∧ OnlyAnswers s t ∧ Answered Op.twinQuery r St.ok
        (le 4 (roTwin s 0 1) ++ padTo 64 s.twin.hello ++ padTo 64 s.twin.beat) s t) ∧
      (Runs Op.twinHandover r s →
        ((s.twin.role ≠ 1 ∨ ownsFlows s = false) → ∃ t, exec (.twinHandover r) s = .next t ∧ OnlyAnswers s t ∧
          Answered Op.twinHandover r St.eArg [] s t) ∧
        (s.twin.role = 1 → ownsFlows s = true →
          ((s.twin.pair ≠ .inSync ∨ s.twin.handover ≠ none ∨ s.sys.pendingMode ≠ none) →
            ∃ t, exec (.twinHandover r) s = .next t ∧ OnlyAnswers s t ∧ Answered Op.twinHandover r St.eBusy [] s t) ∧
          (∀ h, s.twin.pair = .inSync → s.twin.handover = none → s.sys.pendingMode = none → s.sys.deferred = [] →
            newHandle s = some h → ∃ t, exec (.twinHandover r) s = .next t ∧ Started Op.twinHandover r h s t ∧
              t.twin = s.twin ∧
              t.sys.deferred = [{ due := dueTick s r.cycle, change := .handover h false }]))) ∧
      (Runs Op.twinResync r s →
        (s.twin.role ≠ 1 → ∃ t, exec (.twinResync r) s = .next t ∧ OnlyAnswers s t ∧
          Answered Op.twinResync r St.eArg [] s t) ∧
        (s.twin.role = 1 → s.twin.pair ≠ .inSync → s.twin.pair ≠ .outOfSync → ∃ t, exec (.twinResync r) s = .next t ∧
          OnlyAnswers s t ∧ Answered Op.twinResync r St.eBusy [] s t) ∧
        (s.twin.role = 1 → (s.twin.pair = .inSync ∨ s.twin.pair = .outOfSync) →
          ∃ t, exec (.twinResync r) s = .next t ∧ Answered Op.twinResync r St.ok [] s t ∧
            t.twin = { s.twin with pair := .rejoining, walking := false, walk := [], buckets := 0, bulkSent := 0,
                                   endSeq := none, ready := false })) ∧
      (Runs Op.twinSplitResolve r s →
        (s.twin.pair ≠ .split → ∃ t, exec (.twinSplitResolve r) s = .next t ∧ OnlyAnswers s t ∧
          Answered Op.twinSplitResolve r St.eBusy [] s t) ∧
        (s.twin.pair = .split → ∃ t, exec (.twinSplitResolve r) s = .next t ∧
          Answered Op.twinSplitResolve r St.ok [] s t ∧
          t.twin = { s.twin with yields := true, role := 2, pair := .forming })))

/-- The candidate buckets of a digest (R278). -/
def Obligations.ADigestHasTwoStackBucketsOnOneChannel : Prop :=
  ∀ (s : State) (d : Dword) (nb b0 b1 : Nat), nb = stackBuckets s → 0 < nb → b0 = bucket0 nb d → b1 = bucket1 nb d →
    b0 = d.toNat / 2 ^ 32 * nb / 2 ^ 32 ∧
    (∀ c, c = 8 * (d.toNat / 2 ^ 16 % 2 ^ 32 * (nb / 8) / 2 ^ 32) + b0 % 8 →
      (c ≠ b0 → b1 = c) ∧ (c = b0 → b1 = Nat.xor b0 8)) ∧
    b0 < nb ∧ b1 < nb ∧ b1 ≠ b0 ∧ b1 % 8 = b0 % 8 ∧ (∀ n, chanIn s n b1 = chanIn s n b0) ∧
    (∀ n key k e, locate s n d key = .hit ⟨1, k⟩ e → k / 4 = b0 ∨ k / 4 = b1)
end

