-- ==== Sys2Proof/Laws/Memory.lean ====
section
/-! SUPPORT. The cells of the two windows: every write keeps the canonical form, a byte written reads back, and every
other byte reads as before. -/

namespace Sys2Proof.Machine

theorem Memory.wfFrom_mono {l1 l2 : Option Nat} {m : List Host.Cell}
    (h : ∀ a, (∀ l, l2 = some l → l < a) → ∀ l, l1 = some l → l < a) (hm : Memory.wfFrom l2 m = true) :
    Memory.wfFrom l1 m = true := by
  cases m with
  | nil => rfl
  | cons c m =>
    obtain ⟨a, b⟩ := c
    simp only [Memory.wfFrom, Bool.and_eq_true] at hm ⊢
    refine ⟨⟨?_, hm.1.2⟩, hm.2⟩
    have h2 : ∀ l, l2 = some l → l < a := by
      intro l hl; subst hl; simpa using hm.1.1
    cases l1 with
    | none => rfl
    | some l => simpa using h a h2 l rfl

theorem Memory.write_wfFrom (lo : Option Nat) (m : List Host.Cell) (a : Nat) (v : Byte)
    (ha : ∀ l, lo = some l → l < a) (hm : Memory.wfFrom lo m = true) : Memory.wfFrom lo (Memory.write m a v) = true := by
  induction m generalizing lo with
  | nil =>
    simp only [Memory.write]
    split
    · rfl
    · rename_i hv
      cases lo with
      | none => simp [Memory.wfFrom, hv]
      | some l => simp [Memory.wfFrom, hv, ha l rfl]
  | cons c m ih =>
    obtain ⟨a', b⟩ := c
    have hm' := hm
    simp only [Memory.wfFrom, Bool.and_eq_true] at hm
    have hlo : ∀ l, lo = some l → l < a' := by
      intro l hl; subst hl; simpa using hm.1.1
    simp only [Memory.write]
    by_cases h1 : a = a'
    · subst h1
      simp only [if_true]
      split
      · refine Memory.wfFrom_mono (l2 := some a) ?_ hm.2
        intro x hx l hl
        exact Nat.lt_trans (hlo l hl) (hx a rfl)
      · rename_i hv
        simp only [Memory.wfFrom, Bool.and_eq_true]
        exact ⟨⟨hm.1.1, by simpa using hv⟩, hm.2⟩
    · simp only [if_neg h1]
      by_cases h2 : a < a'
      · simp only [if_pos h2]
        split
        · exact hm'
        · rename_i hv
          simp only [Memory.wfFrom, Bool.and_eq_true]
          refine ⟨⟨?_, by simpa using hv⟩, ⟨by simpa using h2, hm.1.2⟩, hm.2⟩
          cases lo with
          | none => rfl
          | some l => simpa using ha l rfl
      · simp only [if_neg h2, Memory.wfFrom, Bool.and_eq_true]
        refine ⟨hm.1, ih (some a') ?_ hm.2⟩
        intro l hl
        cases hl
        omega

/-- A write keeps the canonical form. -/
theorem Memory.write_wf (m : List Host.Cell) (a : Nat) (v : Byte) (h : Memory.wf m = true) :
    Memory.wf (Memory.write m a v) = true :=
  Memory.write_wfFrom none m a v (fun _ hl => by cases hl) h

/-- A write of several bytes keeps the canonical form. -/
theorem Memory.writeAll_wf (f : Nat → Nat) (m : List Host.Cell) (a : Nat) (b : List Byte) (h : Memory.wf m = true) :
    Memory.wf (Memory.writeAll f m a b) = true := by
  induction b generalizing m a with
  | nil => exact h
  | cons v vs ih => exact ih _ _ (Memory.write_wf m (f a) v h)

theorem Memory.read_below (l : Nat) (m : List Host.Cell) (a : Nat) (h : a ≤ l) (hm : Memory.wfFrom (some l) m = true) :
    Memory.read m a = Memory.blank := by
  cases m with
  | nil => rfl
  | cons c m =>
    obtain ⟨a', b⟩ := c
    simp only [Memory.wfFrom, Bool.and_eq_true, decide_eq_true_eq] at hm
    have := hm.1.1
    rw [Memory.read, if_neg (by omega), if_pos (by omega)]

theorem Memory.read_write_from (lo : Option Nat) (m : List Host.Cell) (a x : Nat) (v : Byte)
    (hm : Memory.wfFrom lo m = true) :
    Memory.read (Memory.write m a v) x = if x = a then v else Memory.read m x := by
  induction m generalizing lo with
  | nil =>
    simp only [Memory.write]
    split
    · rename_i hv
      simp [Memory.read, hv]
    · by_cases h1 : x = a
      · simp [Memory.read, h1]
      · simp [Memory.read, h1]
  | cons c m ih =>
    obtain ⟨a', b⟩ := c
    simp only [Memory.wfFrom, Bool.and_eq_true] at hm
    have ih' := ih (some a') hm.2
    simp only [Memory.write]
    by_cases h1 : a = a'
    · subst h1
      simp only [if_true]
      split
      · rename_i hv
        by_cases h2 : x = a
        · subst h2; rw [if_pos rfl, hv]; exact Memory.read_below _ _ _ (Nat.le_refl _) hm.2
        · rw [if_neg h2, Memory.read, if_neg h2]
          by_cases h3 : x < a
          · rw [if_pos h3]; exact Memory.read_below _ _ _ (Nat.le_of_lt h3) hm.2
          · rw [if_neg h3]
      · by_cases h2 : x = a
        · simp [Memory.read, h2]
        · simp [Memory.read, h2]
    · simp only [if_neg h1]
      by_cases h2 : a < a'
      · simp only [if_pos h2]
        split
        · rename_i hv
          by_cases h3 : x = a
          · subst h3; rw [if_pos rfl, hv, Memory.read, if_neg h1, if_pos h2]
          · rw [if_neg h3]
        · by_cases h3 : x = a
          · simp [Memory.read, h3]
          · rw [if_neg h3, Memory.read, if_neg h3]
            by_cases h4 : x < a
            · rw [if_pos h4, Memory.read, if_neg (by omega), if_pos (by omega)]
            · rw [if_neg h4]
      · simp only [if_neg h2]
        rw [Memory.read, Memory.read, ih']
        by_cases h3 : x = a'
        · rw [if_pos h3, if_pos h3, if_neg (by omega)]
        · rw [if_neg h3, if_neg h3]
          by_cases h4 : x < a'
          · rw [if_pos h4, if_pos h4, if_neg (by omega)]
          · rw [if_neg h4, if_neg h4]

/-- What a byte reads as after one byte has been written. -/
theorem Memory.read_write (m : List Host.Cell) (a x : Nat) (v : Byte) (h : Memory.wf m = true) :
    Memory.read (Memory.write m a v) x = if x = a then v else Memory.read m x :=
  Memory.read_write_from none m a x v h

/-- A byte outside the locations written reads as before. -/
theorem Memory.read_writeAll_other (f : Nat → Nat) (m : List Host.Cell) (a x : Nat) (b : List Byte)
    (h : Memory.wf m = true) (hx : ∀ i, i < b.length → x ≠ f (a + i)) :
    Memory.read (Memory.writeAll f m a b) x = Memory.read m x := by
  induction b generalizing m a with
  | nil => rfl
  | cons v vs ih =>
    rw [Memory.writeAll, ih _ _ (Memory.write_wf m (f a) v h), Memory.read_write m (f a) x v h, if_neg]
    · exact hx 0 (by simp)
    · intro i hi
      have := hx (i + 1) (by simpa using hi)
      rwa [show a + 1 + i = a + (i + 1) by omega]

end Sys2Proof.Machine
end

