-- ==== Sys2Proof/Laws/Table.lean ====
section
/-! SUPPORT. Sparse tables: what a key reads after a write, and that writes keep the order of keys. -/

namespace Sys2Proof.Machine

/-- What a key holds after another or the same key has been listed. -/
theorem tfind_tput {α : Type} (m : Table α) (k j : Nat) (v : α) :
    tfind (tput m k v) j = if j = k then some v else tfind m j := by
  induction m with
  | nil => rfl
  | cons e m ih =>
    obtain ⟨a, w⟩ := e
    simp only [tput]
    by_cases h1 : k = a
    · subst h1
      rw [if_pos rfl]
      simp only [tfind]
      by_cases h2 : j = k
      · rw [if_pos h2, if_pos h2]
      · simp only [if_neg h2]
    · rw [if_neg h1]
      by_cases h2 : k < a
      · rw [if_pos h2]
        simp only [tfind]
      · rw [if_neg h2]
        simp only [tfind, ih]
        by_cases h3 : j = a
        · rw [if_pos h3, if_pos h3, if_neg (fun h => h1 (h.symm.trans h3))]
        · rw [if_neg h3, if_neg h3]

/-- What a key holds after another or the same key has been taken out. -/
theorem tfind_terase {α : Type} (m : Table α) (k j : Nat) :
    tfind (terase m k) j = if j = k then none else tfind m j := by
  induction m with
  | nil => simp only [terase, tfind, ite_self]
  | cons e m ih =>
    obtain ⟨a, w⟩ := e
    simp only [terase]
    by_cases h1 : k = a
    · rw [if_pos h1, ih]
      by_cases h2 : j = k
      · rw [if_pos h2, if_pos h2]
      · rw [if_neg h2, if_neg h2]
        simp only [tfind]
        rw [if_neg (fun h => h2 (h.trans h1.symm))]
    · rw [if_neg h1]
      simp only [tfind, ih]
      by_cases h2 : j = a
      · rw [if_pos h2, if_pos h2, if_neg (fun h => h1 (h.symm.trans h2))]
      · rw [if_neg h2, if_neg h2]

/-- What a key reads after another or the same key has been listed. -/
theorem tgetD_tput {α : Type} (d : Nat → α) (m : Table α) (k j : Nat) (v : α) :
    tgetD d (tput m k v) j = if j = k then v else tgetD d m j := by
  unfold tgetD
  rw [tfind_tput]
  split <;> rfl

@[simp] theorem tgetD_tput_self {α : Type} (d : Nat → α) (m : Table α) (k : Nat) (v : α) : tgetD d (tput m k v) k = v := by
  rw [tgetD_tput, if_pos rfl]

theorem tgetD_tput_ne {α : Type} (d : Nat → α) (m : Table α) {k j : Nat} (v : α) (h : j ≠ k) :
    tgetD d (tput m k v) j = tgetD d m j := by
  rw [tgetD_tput, if_neg h]

theorem tsortedFrom_mono {α : Type} {l1 l2 : Option Nat} {m : Table α}
    (h : ∀ a, (∀ l, l2 = some l → l < a) → ∀ l, l1 = some l → l < a) (hm : tsortedFrom l2 m = true) :
    tsortedFrom l1 m = true := by
  cases m with
  | nil => cases l1 <;> rfl
  | cons e m =>
    obtain ⟨a, v⟩ := e
    have h2 : (∀ l, l2 = some l → l < a) ∧ tsortedFrom (some a) m = true := by
      cases l2 with
      | none => exact ⟨fun _ hl => (nomatch hl), hm⟩
      | some l =>
        simp only [tsortedFrom, Bool.and_eq_true, decide_eq_true_eq] at hm
        exact ⟨fun _ hl => by cases hl; exact hm.1, hm.2⟩
    cases l1 with
    | none => exact h2.2
    | some l =>
      simp only [tsortedFrom, Bool.and_eq_true, decide_eq_true_eq]
      exact ⟨h a h2.1 l rfl, h2.2⟩

theorem tput_sortedFrom {α : Type} (lo : Option Nat) (m : Table α) (k : Nat) (v : α) (hk : ∀ l, lo = some l → l < k)
    (hm : tsortedFrom lo m = true) : tsortedFrom lo (tput m k v) = true := by
  induction m generalizing lo with
  | nil =>
    cases lo with
    | none => rfl
    | some l => simp [tput, tsortedFrom, hk l rfl]
  | cons e m ih =>
    obtain ⟨a, w⟩ := e
    have h2 : (∀ l, lo = some l → l < a) ∧ tsortedFrom (some a) m = true := by
      cases lo with
      | none => exact ⟨fun _ hl => (nomatch hl), hm⟩
      | some l =>
        simp only [tsortedFrom, Bool.and_eq_true, decide_eq_true_eq] at hm
        exact ⟨fun _ hl => by cases hl; exact hm.1, hm.2⟩
    have mk : ∀ (x : Nat) (y : α) (t : Table α), (∀ l, lo = some l → l < x) → tsortedFrom (some x) t = true →
        tsortedFrom lo ((x, y) :: t) = true := by
      intro x y t hx ht
      cases lo with
      | none => exact ht
      | some l => simp [tsortedFrom, hx l rfl, ht]
    simp only [tput]
    by_cases h1 : k = a
    · subst h1
      rw [if_pos rfl]
      exact mk _ _ _ hk h2.2
    · rw [if_neg h1]
      by_cases h3 : k < a
      · rw [if_pos h3]
        exact mk _ _ _ hk (by simp [tsortedFrom, h3, h2.2])
      · rw [if_neg h3]
        exact mk _ _ _ h2.1 (ih (some a) (fun l hl => by cases hl; omega) h2.2)

/-- Listing a value keeps the order of keys. -/
theorem tput_sorted {α : Type} (m : Table α) (k : Nat) (v : α) (h : tsorted m = true) : tsorted (tput m k v) = true :=
  tput_sortedFrom none m k v (fun _ hl => (nomatch hl)) h

theorem terase_sortedFrom {α : Type} (lo : Option Nat) (m : Table α) (k : Nat) (hm : tsortedFrom lo m = true) :
    tsortedFrom lo (terase m k) = true := by
  induction m generalizing lo with
  | nil => exact hm
  | cons e m ih =>
    obtain ⟨a, w⟩ := e
    have h2 : (∀ l, lo = some l → l < a) ∧ tsortedFrom (some a) m = true := by
      cases lo with
      | none => exact ⟨fun _ hl => (nomatch hl), hm⟩
      | some l =>
        simp only [tsortedFrom, Bool.and_eq_true, decide_eq_true_eq] at hm
        exact ⟨fun _ hl => by cases hl; exact hm.1, hm.2⟩
    simp only [terase]
    by_cases h1 : k = a
    · rw [if_pos h1]
      exact ih lo (tsortedFrom_mono (l2 := some a) (fun x hx l hl => Nat.lt_trans (h2.1 l hl) (hx a rfl)) h2.2)
    · rw [if_neg h1]
      cases lo with
      | none => exact ih (some a) h2.2
      | some l =>
        simp only [tsortedFrom, Bool.and_eq_true, decide_eq_true_eq]
        exact ⟨h2.1 l rfl, ih (some a) h2.2⟩

/-- Taking a key out keeps the order of keys. -/
theorem terase_sorted {α : Type} (m : Table α) (k : Nat) (h : tsorted m = true) : tsorted (terase m k) = true :=
  terase_sortedFrom none m k h

end Sys2Proof.Machine
end

