-- ==== Sys2Proof/Laws/Same.lean ====
section
/-! SUPPORT. What an operation leaves as it is.  `Same w s t` says that `t` agrees with `s` on every part whose bit of the
footprint `w` is clear: bits 0 to 20 are the parts of the state in their order, bit 21 the mode, bit 22 the sets of both
domains and bit 23 the settings; and that the cells of the windows keep their form.  `Sound` says that the invariants of the
whole machine survive.  For each operation one lemma gives its footprint. -/

namespace Sys2Proof.Machine

/-- `t` agrees with `s` outside the footprint `w`. -/
structure Same (w : Nat) (s t : State) : Prop where
  pending : w.testBit 0 = false → t.pending = s.pending
  free : w.testBit 1 = false → t.free = s.free
  sys : w.testBit 2 = false → t.sys = s.sys
  tick : w.testBit 3 = false → t.tick = s.tick
  toune : w.testBit 4 = false → t.toune = s.toune
  prm : w.testBit 5 = false → t.prm = s.prm
  cal : w.testBit 6 = false → t.cal = s.cal
  flash : w.testBit 7 = false → t.flash = s.flash
  zal : w.testBit 8 = false → t.zal = s.zal
  power : w.testBit 9 = false → t.power = s.power
  ports : w.testBit 10 = false → t.ports = s.ports
  path : w.testBit 11 = false → t.path = s.path
  svc : w.testBit 12 = false → t.svc = s.svc
  buf : w.testBit 13 = false → t.buf = s.buf
  tu : w.testBit 14 = false → t.tu = s.tu
  jnl : w.testBit 15 = false → t.jnl = s.jnl
  pmon : w.testBit 16 = false → t.pmon = s.pmon
  twin : w.testBit 17 = false → t.twin = s.twin
  flow : w.testBit 18 = false → t.flow = s.flow
  host : w.testBit 19 = false → t.host = s.host
  mem : w.testBit 20 = false → t.mem = s.mem
  mode : w.testBit 21 = false → t.sys.mode = s.sys.mode
  sets : w.testBit 22 = false → t.tu.domA.sets = s.tu.domA.sets ∧ t.tu.domB.sets = s.tu.domB.sets
  regs : w.testBit 23 = false → t.prm.regs = s.prm.regs
  win : WinOk s → WinOk t

/-- The queue of commands is unchanged, and the three invariants survive. -/
structure Sound (s t : State) : Prop where
  pending : t.pending = s.pending
  tick : TickOk s → TickOk t
  sets : SetsOk s → SetsOk t
  win : WinOk s → WinOk t

theorem Same.rfl' {w : Nat} (s : State) : Same w s s :=
  ⟨fun _ => rfl, fun _ => rfl, fun _ => rfl, fun _ => rfl, fun _ => rfl, fun _ => rfl, fun _ => rfl, fun _ => rfl,
    fun _ => rfl, fun _ => rfl, fun _ => rfl, fun _ => rfl, fun _ => rfl, fun _ => rfl, fun _ => rfl, fun _ => rfl,
    fun _ => rfl, fun _ => rfl, fun _ => rfl, fun _ => rfl, fun _ => rfl, fun _ => rfl, fun _ => ⟨rfl, rfl⟩,
    fun _ => rfl, id⟩
theorem Same.trans {w : Nat} {a b c : State} (h : Same w a b) (k : Same w b c) : Same w a c :=
  ⟨fun q => (k.pending q).trans (h.pending q), fun q => (k.free q).trans (h.free q), fun q => (k.sys q).trans (h.sys q),
    fun q => (k.tick q).trans (h.tick q), fun q => (k.toune q).trans (h.toune q), fun q => (k.prm q).trans (h.prm q),
    fun q => (k.cal q).trans (h.cal q), fun q => (k.flash q).trans (h.flash q), fun q => (k.zal q).trans (h.zal q),
    fun q => (k.power q).trans (h.power q), fun q => (k.ports q).trans (h.ports q), fun q => (k.path q).trans (h.path q),
    fun q => (k.svc q).trans (h.svc q), fun q => (k.buf q).trans (h.buf q), fun q => (k.tu q).trans (h.tu q),
    fun q => (k.jnl q).trans (h.jnl q), fun q => (k.pmon q).trans (h.pmon q), fun q => (k.twin q).trans (h.twin q),
    fun q => (k.flow q).trans (h.flow q), fun q => (k.host q).trans (h.host q), fun q => (k.mem q).trans (h.mem q),
    fun q => (k.mode q).trans (h.mode q),
    fun q => ⟨(k.sets q).1.trans (h.sets q).1, (k.sets q).2.trans (h.sets q).2⟩,
    fun q => (k.regs q).trans (h.regs q), fun q => k.win (h.win q)⟩
theorem Same.after {w : Nat} {a b c : State} (k : Same w b c) (h : Same w a b) : Same w a c := h.trans k
theorem Same.bit {w v i : Nat} (h : Nat.lor w v = v) (q : v.testBit i = false) : w.testBit i = false := by
  have e : (w ||| v).testBit i = v.testBit i := congrArg (Nat.testBit · i) h
  rw [Nat.testBit_or, q] at e
  simpa using e
/-- A larger footprint says less. -/
theorem Same.mono {w v : Nat} {s t : State} (k : Same w s t) (h : Nat.lor w v = v) : Same v s t :=
  ⟨fun q => k.pending (Same.bit h q), fun q => k.free (Same.bit h q), fun q => k.sys (Same.bit h q),
    fun q => k.tick (Same.bit h q), fun q => k.toune (Same.bit h q), fun q => k.prm (Same.bit h q),
    fun q => k.cal (Same.bit h q), fun q => k.flash (Same.bit h q), fun q => k.zal (Same.bit h q),
    fun q => k.power (Same.bit h q), fun q => k.ports (Same.bit h q), fun q => k.path (Same.bit h q),
    fun q => k.svc (Same.bit h q), fun q => k.buf (Same.bit h q), fun q => k.tu (Same.bit h q),
    fun q => k.jnl (Same.bit h q), fun q => k.pmon (Same.bit h q), fun q => k.twin (Same.bit h q),
    fun q => k.flow (Same.bit h q), fun q => k.host (Same.bit h q), fun q => k.mem (Same.bit h q),
    fun q => k.mode (Same.bit h q), fun q => k.sets (Same.bit h q), fun q => k.regs (Same.bit h q), k.win⟩
theorem Same.ite {w : Nat} {c : Prop} [Decidable c] {s a b : State} (h1 : Same w s a) (h2 : Same w s b) :
    Same w s (if c then a else b) := by split <;> assumption
theorem Same.iteFst {w : Nat} {α : Type} {c : Prop} [Decidable c] {s : State} {a b : State × α} (h1 : Same w s a.1)
    (h2 : Same w s b.1) : Same w s (if c then a else b).1 := by split <;> assumption
theorem Same.foldl {w : Nat} {α : Type} {g : State → α → State} (h : ∀ s a, Same w s (g s a)) (l : List α) (s : State) :
    Same w s (l.foldl g s) := by
  induction l generalizing s with
  | nil => exact Same.rfl' s
  | cons a l ih => exact (h s a).trans (ih (g s a))
theorem Same.foldlFst {w : Nat} {α β : Type} {g : State × β → α → State × β} (h : ∀ s a, Same w s.1 (g s a).1)
    (l : List α) (s : State × β) : Same w s.1 (l.foldl g s).1 := by
  induction l generalizing s with
  | nil => exact Same.rfl' s.1
  | cons a l ih => exact (h s a).trans (ih (g s a))
theorem Same.fst {w : Nat} {α : Type} {p : State × α} {s t : State} {a : α} (h : p = (t, a)) (hp : Same w s p.1) :
    Same w s t := by subst h; exact hp

theorem Sound.rfl' (s : State) : Sound s s := ⟨rfl, id, id, id⟩
theorem Sound.trans {a b c : State} (h : Sound a b) (k : Sound b c) : Sound a c :=
  ⟨k.pending.trans h.pending, fun w => k.tick (h.tick w), fun w => k.sets (h.sets w), fun w => k.win (h.win w)⟩
theorem Sound.after {a b c : State} (k : Sound b c) (h : Sound a b) : Sound a c := h.trans k
/-- An operation that writes neither the queue, the tick nor the sets of a domain keeps the invariants. -/
theorem Same.sound {w : Nat} {a b : State} (h : Same w a b)
    (q : (w.testBit 0 || w.testBit 3 || w.testBit 22) = false) : Sound a b := by
  simp only [Bool.or_eq_false_iff] at q
  obtain ⟨⟨q0, q3⟩, q22⟩ := q
  refine ⟨h.pending q0, fun x => ?_, fun x => ?_, h.win⟩
  · unfold TickOk at *; rw [h.tick q3]; exact x
  · unfold SetsOk at *; rw [(h.sets q22).1, (h.sets q22).2]; exact x
theorem Sound.ite {c : Prop} [Decidable c] {s a b : State} (h1 : Sound s a) (h2 : Sound s b) :
    Sound s (if c then a else b) := by split <;> assumption
theorem Sound.iteFst {α : Type} {c : Prop} [Decidable c] {s : State} {a b : State × α} (h1 : Sound s a.1)
    (h2 : Sound s b.1) : Sound s (if c then a else b).1 := by split <;> assumption
theorem Sound.foldl {α : Type} {g : State → α → State} (h : ∀ s a, Sound s (g s a)) (l : List α) (s : State) :
    Sound s (l.foldl g s) := by
  induction l generalizing s with
  | nil => exact Sound.rfl' s
  | cons a l ih => exact (h s a).trans (ih (g s a))
theorem Sound.foldlFst {α β : Type} {g : State × β → α → State × β} (h : ∀ s a, Sound s.1 (g s a).1) (l : List α)
    (s : State × β) : Sound s.1 (l.foldl g s).1 := by
  induction l generalizing s with
  | nil => exact Sound.rfl' s.1
  | cons a l ih => exact (h s a).trans (ih (g s a))
theorem Sound.fst {α : Type} {p : State × α} {s t : State} {a : α} (h : p = (t, a)) (hp : Sound s p.1) : Sound s t := by
  subst h; exact hp

/-! ### The update of one part -/

theorem Same.setFree (s : State) (x : _) : Same 2 s (s.setFree x) :=
  ⟨fun _ => rfl, fun q => absurd q (by decide), fun _ => rfl, fun _ => rfl, fun _ => rfl, fun _ => rfl, fun _ => rfl,
    fun _ => rfl, fun _ => rfl, fun _ => rfl, fun _ => rfl, fun _ => rfl, fun _ => rfl, fun _ => rfl, fun _ => rfl,
    fun _ => rfl, fun _ => rfl, fun _ => rfl, fun _ => rfl, fun _ => rfl, fun _ => rfl, fun _ => rfl, fun _ => ⟨rfl, rfl⟩,
    fun _ => rfl, id⟩
theorem Same.setSys (s : State) (x : Sys) (h : x.mode = s.sys.mode) : Same 4 s (s.setSys x) :=
  ⟨fun _ => rfl, fun _ => rfl, fun q => absurd q (by decide), fun _ => rfl, fun _ => rfl, fun _ => rfl, fun _ => rfl,
    fun _ => rfl, fun _ => rfl, fun _ => rfl, fun _ => rfl, fun _ => rfl, fun _ => rfl, fun _ => rfl, fun _ => rfl,
    fun _ => rfl, fun _ => rfl, fun _ => rfl, fun _ => rfl, fun _ => rfl, fun _ => rfl, fun _ => h, fun _ => ⟨rfl, rfl⟩,
    fun _ => rfl, id⟩
theorem Same.setSysMode (s : State) (x : Sys) : Same 2097156 s (s.setSys x) :=
  ⟨fun _ => rfl, fun _ => rfl, fun q => absurd q (by decide), fun _ => rfl, fun _ => rfl, fun _ => rfl, fun _ => rfl,
    fun _ => rfl, fun _ => rfl, fun _ => rfl, fun _ => rfl, fun _ => rfl, fun _ => rfl, fun _ => rfl, fun _ => rfl,
    fun _ => rfl, fun _ => rfl, fun _ => rfl, fun _ => rfl, fun _ => rfl, fun _ => rfl, fun q => absurd q (by decide),
    fun _ => ⟨rfl, rfl⟩, fun _ => rfl, id⟩
theorem Same.setTick (s : State) (x : _) : Same 8 s (s.setTick x) :=
  ⟨fun _ => rfl, fun _ => rfl, fun _ => rfl, fun q => absurd q (by decide), fun _ => rfl, fun _ => rfl, fun _ => rfl,
    fun _ => rfl, fun _ => rfl, fun _ => rfl, fun _ => rfl, fun _ => rfl, fun _ => rfl, fun _ => rfl, fun _ => rfl,
    fun _ => rfl, fun _ => rfl, fun _ => rfl, fun _ => rfl, fun _ => rfl, fun _ => rfl, fun _ => rfl, fun _ => ⟨rfl, rfl⟩,
    fun _ => rfl, id⟩
theorem Same.setToune (s : State) (x : _) : Same 16 s (s.setToune x) :=
  ⟨fun _ => rfl, fun _ => rfl, fun _ => rfl, fun _ => rfl, fun q => absurd q (by decide), fun _ => rfl, fun _ => rfl,
    fun _ => rfl, fun _ => rfl, fun _ => rfl, fun _ => rfl, fun _ => rfl, fun _ => rfl, fun _ => rfl, fun _ => rfl,
    fun _ => rfl, fun _ => rfl, fun _ => rfl, fun _ => rfl, fun _ => rfl, fun _ => rfl, fun _ => rfl, fun _ => ⟨rfl, rfl⟩,
    fun _ => rfl, id⟩
theorem Same.setPrm (s : State) (x : Params) (h : x.regs = s.prm.regs) : Same 32 s (s.setPrm x) :=
  ⟨fun _ => rfl, fun _ => rfl, fun _ => rfl, fun _ => rfl, fun _ => rfl, fun q => absurd q (by decide), fun _ => rfl,
    fun _ => rfl, fun _ => rfl, fun _ => rfl, fun _ => rfl, fun _ => rfl, fun _ => rfl, fun _ => rfl, fun _ => rfl,
    fun _ => rfl, fun _ => rfl, fun _ => rfl, fun _ => rfl, fun _ => rfl, fun _ => rfl, fun _ => rfl, fun _ => ⟨rfl, rfl⟩,
    fun _ => h, id⟩
theorem Same.setPrmRegs (s : State) (x : Params) : Same 8388640 s (s.setPrm x) :=
  ⟨fun _ => rfl, fun _ => rfl, fun _ => rfl, fun _ => rfl, fun _ => rfl, fun q => absurd q (by decide), fun _ => rfl,
    fun _ => rfl, fun _ => rfl, fun _ => rfl, fun _ => rfl, fun _ => rfl, fun _ => rfl, fun _ => rfl, fun _ => rfl,
    fun _ => rfl, fun _ => rfl, fun _ => rfl, fun _ => rfl, fun _ => rfl, fun _ => rfl, fun _ => rfl, fun _ => ⟨rfl, rfl⟩,
    fun q => absurd q (by decide), id⟩
theorem Same.setCal (s : State) (x : _) : Same 64 s (s.setCal x) :=
  ⟨fun _ => rfl, fun _ => rfl, fun _ => rfl, fun _ => rfl, fun _ => rfl, fun _ => rfl, fun q => absurd q (by decide),
    fun _ => rfl, fun _ => rfl, fun _ => rfl, fun _ => rfl, fun _ => rfl, fun _ => rfl, fun _ => rfl, fun _ => rfl,
    fun _ => rfl, fun _ => rfl, fun _ => rfl, fun _ => rfl, fun _ => rfl, fun _ => rfl, fun _ => rfl, fun _ => ⟨rfl, rfl⟩,
    fun _ => rfl, id⟩
theorem Same.setFlash (s : State) (x : _) : Same 128 s (s.setFlash x) :=
  ⟨fun _ => rfl, fun _ => rfl, fun _ => rfl, fun _ => rfl, fun _ => rfl, fun _ => rfl, fun _ => rfl,
    fun q => absurd q (by decide), fun _ => rfl, fun _ => rfl, fun _ => rfl, fun _ => rfl, fun _ => rfl, fun _ => rfl,
    fun _ => rfl, fun _ => rfl, fun _ => rfl, fun _ => rfl, fun _ => rfl, fun _ => rfl, fun _ => rfl, fun _ => rfl,
    fun _ => ⟨rfl, rfl⟩, fun _ => rfl, id⟩
theorem Same.setZal (s : State) (x : _) : Same 256 s (s.setZal x) :=
  ⟨fun _ => rfl, fun _ => rfl, fun _ => rfl, fun _ => rfl, fun _ => rfl, fun _ => rfl, fun _ => rfl, fun _ => rfl,
    fun q => absurd q (by decide), fun _ => rfl, fun _ => rfl, fun _ => rfl, fun _ => rfl, fun _ => rfl, fun _ => rfl,
    fun _ => rfl, fun _ => rfl, fun _ => rfl, fun _ => rfl, fun _ => rfl, fun _ => rfl, fun _ => rfl, fun _ => ⟨rfl, rfl⟩,
    fun _ => rfl, id⟩
theorem Same.setPower (s : State) (x : _) : Same 512 s (s.setPower x) :=
  ⟨fun _ => rfl, fun _ => rfl, fun _ => rfl, fun _ => rfl, fun _ => rfl, fun _ => rfl, fun _ => rfl, fun _ => rfl,
    fun _ => rfl, fun q => absurd q (by decide), fun _ => rfl, fun _ => rfl, fun _ => rfl, fun _ => rfl, fun _ => rfl,
    fun _ => rfl, fun _ => rfl, fun _ => rfl, fun _ => rfl, fun _ => rfl, fun _ => rfl, fun _ => rfl, fun _ => ⟨rfl, rfl⟩,
    fun _ => rfl, id⟩
theorem Same.setPorts (s : State) (x : _) : Same 1024 s (s.setPorts x) :=
  ⟨fun _ => rfl, fun _ => rfl, fun _ => rfl, fun _ => rfl, fun _ => rfl, fun _ => rfl, fun _ => rfl, fun _ => rfl,
    fun _ => rfl, fun _ => rfl, fun q => absurd q (by decide), fun _ => rfl, fun _ => rfl, fun _ => rfl, fun _ => rfl,
    fun _ => rfl, fun _ => rfl, fun _ => rfl, fun _ => rfl, fun _ => rfl, fun _ => rfl, fun _ => rfl, fun _ => ⟨rfl, rfl⟩,
    fun _ => rfl, id⟩
theorem Same.setPath (s : State) (x : _) : Same 2048 s (s.setPath x) :=
  ⟨fun _ => rfl, fun _ => rfl, fun _ => rfl, fun _ => rfl, fun _ => rfl, fun _ => rfl, fun _ => rfl, fun _ => rfl,
    fun _ => rfl, fun _ => rfl, fun _ => rfl, fun q => absurd q (by decide), fun _ => rfl, fun _ => rfl, fun _ => rfl,
    fun _ => rfl, fun _ => rfl, fun _ => rfl, fun _ => rfl, fun _ => rfl, fun _ => rfl, fun _ => rfl, fun _ => ⟨rfl, rfl⟩,
    fun _ => rfl, id⟩
theorem Same.setSvc (s : State) (x : _) : Same 4096 s (s.setSvc x) :=
  ⟨fun _ => rfl, fun _ => rfl, fun _ => rfl, fun _ => rfl, fun _ => rfl, fun _ => rfl, fun _ => rfl, fun _ => rfl,
    fun _ => rfl, fun _ => rfl, fun _ => rfl, fun _ => rfl, fun q => absurd q (by decide), fun _ => rfl, fun _ => rfl,
    fun _ => rfl, fun _ => rfl, fun _ => rfl, fun _ => rfl, fun _ => rfl, fun _ => rfl, fun _ => rfl, fun _ => ⟨rfl, rfl⟩,
    fun _ => rfl, id⟩
theorem Same.setBuf (s : State) (x : _) : Same 8192 s (s.setBuf x) :=
  ⟨fun _ => rfl, fun _ => rfl, fun _ => rfl, fun _ => rfl, fun _ => rfl, fun _ => rfl, fun _ => rfl, fun _ => rfl,
    fun _ => rfl, fun _ => rfl, fun _ => rfl, fun _ => rfl, fun _ => rfl, fun q => absurd q (by decide), fun _ => rfl,
    fun _ => rfl, fun _ => rfl, fun _ => rfl, fun _ => rfl, fun _ => rfl, fun _ => rfl, fun _ => rfl, fun _ => ⟨rfl, rfl⟩,
    fun _ => rfl, id⟩
theorem Same.setTu (s : State) (x : Tu) (h1 : x.domA.sets = s.tu.domA.sets) (h2 : x.domB.sets = s.tu.domB.sets) :
    Same 16384 s (s.setTu x) :=
  ⟨fun _ => rfl, fun _ => rfl, fun _ => rfl, fun _ => rfl, fun _ => rfl, fun _ => rfl, fun _ => rfl, fun _ => rfl,
    fun _ => rfl, fun _ => rfl, fun _ => rfl, fun _ => rfl, fun _ => rfl, fun _ => rfl, fun q => absurd q (by decide),
    fun _ => rfl, fun _ => rfl, fun _ => rfl, fun _ => rfl, fun _ => rfl, fun _ => rfl, fun _ => rfl, fun _ => ⟨h1, h2⟩,
    fun _ => rfl, id⟩
theorem Same.setTuSets (s : State) (x : Tu) : Same 4210688 s (s.setTu x) :=
  ⟨fun _ => rfl, fun _ => rfl, fun _ => rfl, fun _ => rfl, fun _ => rfl, fun _ => rfl, fun _ => rfl, fun _ => rfl,
    fun _ => rfl, fun _ => rfl, fun _ => rfl, fun _ => rfl, fun _ => rfl, fun _ => rfl, fun q => absurd q (by decide),
    fun _ => rfl, fun _ => rfl, fun _ => rfl, fun _ => rfl, fun _ => rfl, fun _ => rfl, fun _ => rfl,
    fun q => absurd q (by decide), fun _ => rfl, id⟩
theorem Same.setJnl (s : State) (x : _) : Same 32768 s (s.setJnl x) :=
  ⟨fun _ => rfl, fun _ => rfl, fun _ => rfl, fun _ => rfl, fun _ => rfl, fun _ => rfl, fun _ => rfl, fun _ => rfl,
    fun _ => rfl, fun _ => rfl, fun _ => rfl, fun _ => rfl, fun _ => rfl, fun _ => rfl, fun _ => rfl,
    fun q => absurd q (by decide), fun _ => rfl, fun _ => rfl, fun _ => rfl, fun _ => rfl, fun _ => rfl, fun _ => rfl,
    fun _ => ⟨rfl, rfl⟩, fun _ => rfl, id⟩
theorem Same.setPmon (s : State) (x : _) : Same 65536 s (s.setPmon x) :=
  ⟨fun _ => rfl, fun _ => rfl, fun _ => rfl, fun _ => rfl, fun _ => rfl, fun _ => rfl, fun _ => rfl, fun _ => rfl,
    fun _ => rfl, fun _ => rfl, fun _ => rfl, fun _ => rfl, fun _ => rfl, fun _ => rfl, fun _ => rfl, fun _ => rfl,
    fun q => absurd q (by decide), fun _ => rfl, fun _ => rfl, fun _ => rfl, fun _ => rfl, fun _ => rfl, fun _ => ⟨rfl,
    rfl⟩, fun _ => rfl, id⟩
theorem Same.setTwin (s : State) (x : _) : Same 131072 s (s.setTwin x) :=
  ⟨fun _ => rfl, fun _ => rfl, fun _ => rfl, fun _ => rfl, fun _ => rfl, fun _ => rfl, fun _ => rfl, fun _ => rfl,
    fun _ => rfl, fun _ => rfl, fun _ => rfl, fun _ => rfl, fun _ => rfl, fun _ => rfl, fun _ => rfl, fun _ => rfl,
    fun _ => rfl, fun q => absurd q (by decide), fun _ => rfl, fun _ => rfl, fun _ => rfl, fun _ => rfl, fun _ => ⟨rfl,
    rfl⟩, fun _ => rfl, id⟩
theorem Same.setFlow (s : State) (x : _) : Same 262144 s (s.setFlow x) :=
  ⟨fun _ => rfl, fun _ => rfl, fun _ => rfl, fun _ => rfl, fun _ => rfl, fun _ => rfl, fun _ => rfl, fun _ => rfl,
    fun _ => rfl, fun _ => rfl, fun _ => rfl, fun _ => rfl, fun _ => rfl, fun _ => rfl, fun _ => rfl, fun _ => rfl,
    fun _ => rfl, fun _ => rfl, fun q => absurd q (by decide), fun _ => rfl, fun _ => rfl, fun _ => rfl, fun _ => ⟨rfl,
    rfl⟩, fun _ => rfl, id⟩
theorem Same.setHost (s : State) (x : HostIf) (h1 : x.stackWin = s.host.stackWin) (h2 : x.peatWin = s.host.peatWin) :
    Same 524288 s (s.setHost x) :=
  ⟨fun _ => rfl, fun _ => rfl, fun _ => rfl, fun _ => rfl, fun _ => rfl, fun _ => rfl, fun _ => rfl, fun _ => rfl,
    fun _ => rfl, fun _ => rfl, fun _ => rfl, fun _ => rfl, fun _ => rfl, fun _ => rfl, fun _ => rfl, fun _ => rfl,
    fun _ => rfl, fun _ => rfl, fun _ => rfl, fun q => absurd q (by decide), fun _ => rfl, fun _ => rfl, fun _ => ⟨rfl,
    rfl⟩, fun _ => rfl, fun x => by unfold WinOk at *; exact (h1 ▸ h2 ▸ x)⟩
theorem Same.setMem (s : State) (x : _) : Same 1048576 s (s.setMem x) :=
  ⟨fun _ => rfl, fun _ => rfl, fun _ => rfl, fun _ => rfl, fun _ => rfl, fun _ => rfl, fun _ => rfl, fun _ => rfl,
    fun _ => rfl, fun _ => rfl, fun _ => rfl, fun _ => rfl, fun _ => rfl, fun _ => rfl, fun _ => rfl, fun _ => rfl,
    fun _ => rfl, fun _ => rfl, fun _ => rfl, fun _ => rfl, fun q => absurd q (by decide), fun _ => rfl, fun _ => ⟨rfl,
    rfl⟩, fun _ => rfl, id⟩
/-- A domain is put with the sets it had. -/
theorem Same.setDom (b : Bool) (x : Domain) (s : State) (h : x.sets = (domAt s b).sets) : Same 16384 s (setDom b x s) := by
  cases b with
  | true => exact Same.setTu _ _ rfl h
  | false => exact Same.setTu _ _ h rfl

end Sys2Proof.Machine
end

