-- ==== Sys2Proof/Laws/SameOps.lean ====
section
/-! SUPPORT. What the shared operations leave unchanged: the footprint of each operation. -/

namespace Sys2Proof.Machine

/-! ### Counters -/

theorem drawn_same : ∀ s, Same 2 s (drawn s) := by
  intro s
  unfold drawn
  try dsimp only
  repeat' (first
    | with_reducible exact Same.rfl' _ | (with_reducible refine ((Same.setFree _ _).mono (by decide)).after ?_))
theorem setReg_same : ∀ cls inst w v s, Same 8388640 s (setReg cls inst w v s) := by
  intro cls inst w v s
  unfold setReg
  try dsimp only
  repeat' (first
    | with_reducible exact Same.rfl' _ | ((with_reducible refine ((Same.setPrm _ _ ?_).mono (by decide)).after ?_); rfl)
    | (with_reducible refine ((Same.setPrmRegs _ _).mono (by decide)).after ?_))
theorem setRegAt_same : ∀ a v s, Same 8388640 s (setRegAt a v s) := by
  intro a v s
  unfold setRegAt
  try dsimp only
  repeat' (first
    | with_reducible exact Same.rfl' _ | ((with_reducible refine ((Same.setPrm _ _ ?_).mono (by decide)).after ?_); rfl)
    | (with_reducible refine ((Same.setPrmRegs _ _).mono (by decide)).after ?_))
theorem bump_same : ∀ bits cls inst w n s, Same 32 s (bump bits cls inst w n s) := by
  intro bits cls inst w n s
  unfold bump
  try dsimp only
  repeat' (first
    | with_reducible exact Same.rfl' _ | ((with_reducible refine ((Same.setPrm _ _ ?_).mono (by decide)).after ?_); rfl))
theorem bump48_same : ∀ cls inst i n s, Same 32 s (bump48 cls inst i n s) := by
  intro cls inst i n s
  unfold bump48
  try dsimp only
  repeat' (first
    | with_reducible exact Same.rfl' _ | (with_reducible refine ((bump_same ..).mono (by decide)).after ?_))
theorem bump32_same : ∀ cls inst w n s, Same 32 s (bump32 cls inst w n s) := by
  intro cls inst w n s
  unfold bump32
  try dsimp only
  repeat' (first
    | with_reducible exact Same.rfl' _ | (with_reducible refine ((bump_same ..).mono (by decide)).after ?_))

/-! ### HostTables -/

theorem setQp_same : ∀ q x s, Same 524288 s (setQp q x s) := by
  intro q x s
  unfold setQp
  try dsimp only
  repeat' (first
    | with_reducible exact Same.rfl' _
    | ((with_reducible refine ((Same.setHost _ _ ?_ ?_).mono (by decide)).after ?_); rfl; rfl))
theorem setHq_same : ∀ q x s, Same 524288 s (setHq q x s) := by
  intro q x s
  unfold setHq
  try dsimp only
  repeat' (first
    | with_reducible exact Same.rfl' _
    | ((with_reducible refine ((Same.setHost _ _ ?_ ?_).mono (by decide)).after ?_); rfl; rfl))
theorem modHq_same : ∀ q f s, Same 524288 s (modHq q f s) := by
  intro q f s
  unfold modHq
  try dsimp only
  repeat' (first
    | with_reducible exact Same.rfl' _ | (with_reducible refine ((setHq_same ..).mono (by decide)).after ?_))
theorem setSlot_same : ∀ k x s, Same 524288 s (setSlot k x s) := by
  intro k x s
  unfold setSlot
  try dsimp only
  repeat' (first
    | with_reducible exact Same.rfl' _
    | ((with_reducible refine ((Same.setHost _ _ ?_ ?_).mono (by decide)).after ?_); rfl; rfl))
theorem hostSend_same : ∀ f s, Same 524320 s (hostSend f s) := by
  intro f s
  unfold hostSend
  try dsimp only
  repeat' (first
    | with_reducible exact Same.rfl' _ | (with_reducible refine ((bump48_same ..).mono (by decide)).after ?_)
    | ((with_reducible refine ((Same.setHost _ _ ?_ ?_).mono (by decide)).after ?_); rfl; rfl) | split
    | (with_reducible refine Same.fst (by assumption) ?_))
theorem issueReq_same : ∀ q r s, Same 524320 s (issueReq q r s) := by
  intro q r s
  unfold issueReq
  try dsimp only
  repeat' (first
    | with_reducible exact Same.rfl' _ | (with_reducible refine Same.ite ?_ ?_) | (with_reducible refine Same.iteFst ?_ ?_)
    | (with_reducible refine ((setQp_same ..).mono (by decide)).after ?_)
    | (with_reducible refine ((bump48_same ..).mono (by decide)).after ?_)
    | (with_reducible refine ((hostSend_same ..).mono (by decide)).after ?_) | split)
theorem hostWrite_same : ∀ reg off bytes imm p s, Same 524320 s (hostWrite reg off bytes imm p s).1 := by
  intro reg off bytes imm p s
  unfold hostWrite
  try dsimp only
  repeat' (first
    | with_reducible exact Same.rfl' _ | (with_reducible refine Same.ite ?_ ?_) | (with_reducible refine Same.iteFst ?_ ?_)
    | (with_reducible refine ((issueReq_same ..).mono (by decide)).after ?_) | split
    | (with_reducible refine Same.fst (by assumption) ?_))
theorem hostRead_same : ∀ reg off len p s, Same 524320 s (hostRead reg off len p s).1 := by
  intro reg off len p s
  unfold hostRead
  try dsimp only
  repeat' (first
    | with_reducible exact Same.rfl' _ | (with_reducible refine ((issueReq_same ..).mono (by decide)).after ?_) | split
    | (with_reducible refine Same.fst (by assumption) ?_))
theorem modJob_same : ∀ q pos f s, Same 524288 s (modJob q pos f s) := by
  intro q pos f s
  unfold modJob
  try dsimp only
  repeat' (first
    | with_reducible exact Same.rfl' _ | (with_reducible refine Same.ite ?_ ?_) | (with_reducible refine Same.iteFst ?_ ?_)
    | (with_reducible refine ((modHq_same ..).mono (by decide)).after ?_) | split)

/-! ### Wire -/

theorem sendBoot_same : ∀ n dst kind m s, Same 526370 s (sendBoot n dst kind m s) := by
  intro n dst kind m s
  unfold sendBoot
  try dsimp only
  repeat' (first
    | with_reducible exact Same.rfl' _ | (with_reducible refine Same.ite ?_ ?_) | (with_reducible refine Same.iteFst ?_ ?_)
    | (with_reducible refine ((hostSend_same ..).mono (by decide)).after ?_)
    | (with_reducible refine ((drawn_same ..).mono (by decide)).after ?_)
    | (with_reducible refine ((Same.setPath _ _).mono (by decide)).after ?_) | split)
theorem endSlot_same : ∀ k p s, Same 524320 s (endSlot k p s) := by
  intro k p s
  unfold endSlot
  try dsimp only
  repeat' (first
    | with_reducible exact Same.rfl' _ | (with_reducible refine Same.ite ?_ ?_) | (with_reducible refine Same.iteFst ?_ ?_)
    | (with_reducible refine ((setSlot_same ..).mono (by decide)).after ?_)
    | (with_reducible refine ((hostWrite_same ..).mono (by decide)).after ?_) | split)
theorem endMessageJob_same : ∀ p s, Same 524320 s (endMessageJob p s) := by
  intro p s
  unfold endMessageJob
  try dsimp only
  repeat' (first
    | with_reducible exact Same.rfl' _ | (with_reducible refine Same.ite ?_ ?_) | (with_reducible refine Same.iteFst ?_ ?_)
    | (with_reducible refine ((hostWrite_same ..).mono (by decide)).after ?_)
    | (with_reducible refine ((modJob_same ..).mono (by decide)).after ?_) | split
    | (with_reducible refine Same.fst (by assumption) ?_))
theorem deliver_same : ∀ p s, Same 526370 s (deliver p s) := by
  intro p s
  unfold deliver
  try dsimp only
  repeat' (first
    | with_reducible exact Same.rfl' _ | (with_reducible refine ((endMessageJob_same ..).mono (by decide)).after ?_)
    | (with_reducible refine ((endSlot_same ..).mono (by decide)).after ?_)
    | (with_reducible refine ((sendBoot_same ..).mono (by decide)).after ?_) | split
    | (with_reducible refine Same.fst (by assumption) ?_))

/-! ### Ops -/

theorem setUnit_same : ∀ u r s, Same 4 s (setUnit u r s) := by
  intro u r s
  unfold setUnit
  try dsimp only
  repeat' (first
    | with_reducible exact Same.rfl' _ | (with_reducible refine Same.ite ?_ ?_) | (with_reducible refine Same.iteFst ?_ ?_)
    | ((with_reducible refine ((Same.setSys _ _ ?_).mono (by decide)).after ?_); rfl) | split)
theorem raise_same : ∀ code detail s, Same 16 s (raise code detail s) := by
  intro code detail s
  unfold raise
  try dsimp only
  repeat' (first
    | with_reducible exact Same.rfl' _ | (with_reducible refine ((Same.setToune _ _).mono (by decide)).after ?_))
theorem countMark_same : ∀ key s, Same 4 s (countMark key s) := by
  intro key s
  unfold countMark
  try dsimp only
  repeat' (first
    | with_reducible exact Same.rfl' _ | ((with_reducible refine ((Same.setSys _ _ ?_).mono (by decide)).after ?_); rfl))
theorem raiseOnce_same : ∀ code key detail s, Same 20 s (raiseOnce code key detail s) := by
  intro code key detail s
  unfold raiseOnce
  try dsimp only
  repeat' (first
    | with_reducible exact Same.rfl' _ | (with_reducible refine Same.ite ?_ ?_) | (with_reducible refine Same.iteFst ?_ ?_)
    | (with_reducible refine ((raise_same ..).mono (by decide)).after ?_)
    | ((with_reducible refine ((Same.setSys _ _ ?_).mono (by decide)).after ?_); rfl) | split)
theorem raiseLimited_same : ∀ code key detail s, Same 20 s (raiseLimited code key detail s) := by
  intro code key detail s
  unfold raiseLimited
  try dsimp only
  repeat' (first
    | with_reducible exact Same.rfl' _ | (with_reducible refine ((raiseOnce_same ..).mono (by decide)).after ?_)
    | (with_reducible refine ((countMark_same ..).mono (by decide)).after ?_))
theorem defer_same : ∀ d s, Same 4 s (defer d s) := by
  intro d s
  unfold defer
  try dsimp only
  repeat' (first
    | with_reducible exact Same.rfl' _ | ((with_reducible refine ((Same.setSys _ _ ?_).mono (by decide)).after ?_); rfl))
theorem setSession_same : ∀ i x s, Same 16 s (setSession i x s) := by
  intro i x s
  unfold setSession
  try dsimp only
  repeat' (first
    | with_reducible exact Same.rfl' _ | (with_reducible refine ((Same.setToune _ _).mono (by decide)).after ?_))
theorem send_same : ∀ p s, Same 526386 s (send p s) := by
  intro p s
  unfold send
  try dsimp only
  repeat' (first
    | with_reducible exact Same.rfl' _ | (with_reducible refine Same.ite ?_ ?_) | (with_reducible refine Same.iteFst ?_ ?_)
    | (with_reducible refine ((deliver_same ..).mono (by decide)).after ?_)
    | (with_reducible refine ((Same.setToune _ _).mono (by decide)).after ?_)
    | (with_reducible refine ((setSession_same ..).mono (by decide)).after ?_) | split)
theorem sendAt_same : ∀ p t' s, Same 526386 s (sendAt p t' s) := by
  intro p t' s
  unfold sendAt
  try dsimp only
  repeat' (first
    | with_reducible exact Same.rfl' _ | (with_reducible refine ((send_same ..).mono (by decide)).after ?_) | split
    | (with_reducible refine Same.fst (by assumption) ?_))
theorem setHandle_same : ∀ i h s, Same 16 s (setHandle i h s) := by
  intro i h s
  unfold setHandle
  try dsimp only
  repeat' (first
    | with_reducible exact Same.rfl' _ | (with_reducible refine ((Same.setToune _ _).mono (by decide)).after ?_))
theorem accepted_same {w : Nat} (op : Nat) (r : Req) (b : Bool) (k : Word → State → State) (hw : Nat.lor 16 w = w)
    (hk : ∀ h s, Same w s (k h s)) (s : State) : Same w s (accepted op r b k s).1 := by
  unfold accepted allocHandle
  cases freeHandle s with
  | none => exact Same.rfl' _
  | some i => exact ((setHandle_same ..).mono hw).trans (hk _ _)
theorem startHandle_same : ∀ h s, Same 16 s (startHandle h s) := by
  intro h s
  unfold startHandle
  try dsimp only
  repeat' (first
    | with_reducible exact Same.rfl' _ | (with_reducible refine ((setHandle_same ..).mono (by decide)).after ?_))
theorem complete_same : ∀ ev h st fields s, Same 16 s (complete ev h st fields s) := by
  intro ev h st fields s
  unfold complete
  try dsimp only
  repeat' (first
    | with_reducible exact Same.rfl' _ | (with_reducible refine ((setHandle_same ..).mono (by decide)).after ?_)
    | (with_reducible refine ((Same.setToune _ _).mono (by decide)).after ?_))
theorem endOp_same : ∀ h st fields s, Same 16 s (endOp h st fields s) := by
  intro h st fields s
  unfold endOp
  try dsimp only
  repeat' (first
    | with_reducible exact Same.rfl' _ | (with_reducible refine ((setHandle_same ..).mono (by decide)).after ?_))
theorem audit_same : ∀ op r rep untrusted s, Same 16 s (audit op r rep untrusted s) := by
  intro op r rep untrusted s
  unfold audit
  try dsimp only
  repeat' (first
    | with_reducible exact Same.rfl' _ | (with_reducible refine Same.ite ?_ ?_) | (with_reducible refine Same.iteFst ?_ ?_)
    | (with_reducible refine ((Same.setToune _ _).mono (by decide)).after ?_) | split)
theorem finish_same : ∀ op r rep untrusted s, Same 526386 s (finish op r rep untrusted s) := by
  intro op r rep untrusted s
  unfold finish
  try dsimp only
  repeat' (first
    | with_reducible exact Same.rfl' _ | (with_reducible refine Same.ite ?_ ?_) | (with_reducible refine Same.iteFst ?_ ?_)
    | (with_reducible refine ((audit_same ..).mono (by decide)).after ?_)
    | (with_reducible refine ((send_same ..).mono (by decide)).after ?_)
    | (with_reducible refine ((setSession_same ..).mono (by decide)).after ?_) | split
    | (with_reducible refine Same.fst (by assumption) ?_))
theorem touch_same : ∀ r s, Same 16 s (touch r s) := by
  intro r s
  unfold touch
  try dsimp only
  repeat' (first
    | with_reducible exact Same.rfl' _ | (with_reducible refine Same.ite ?_ ?_) | (with_reducible refine Same.iteFst ?_ ?_)
    | (with_reducible refine ((setSession_same ..).mono (by decide)).after ?_) | split)
theorem runToune_same {w : Nat} (op : Nat) (body : Req → State → State × Reply) (hw : Nat.lor 526386 w = w)
    (hb : ∀ r s, Same w s (body r s).1) (r : Req) (s : State) : Same w s (runToune op body r s) := by
  unfold runToune
  refine Same.ite (Same.rfl' _) ?_
  extract_lets s1 early
  have h1 : Same w s s1 := ((touch_same ..).mono (v := 526386 ) (by decide)).mono hw
  clear_value s1 early
  split
  · exact (h1.trans (((send_same ..).mono (v := 526386 ) (by decide)).mono hw)).trans
      (((bump48_same ..).mono (v := 526386 ) (by decide)).mono hw)
  · split
    · exact h1.trans (((setSlot_same ..).mono (v := 526386 ) (by decide)).mono hw)
    · exact h1
  · exact h1.trans ((finish_same ..).mono hw)
  · split
    · exact h1.trans ((finish_same ..).mono hw)
    · exact (h1.trans (hb ..)).trans ((finish_same ..).mono hw)
theorem recordFault_same : ∀ c cls inst detail s, Same 276 s (recordFault c cls inst detail s) := by
  intro c cls inst detail s
  unfold recordFault
  try dsimp only
  repeat' (first
    | with_reducible exact Same.rfl' _ | (with_reducible refine Same.ite ?_ ?_) | (with_reducible refine Same.iteFst ?_ ?_)
    | (with_reducible refine ((Same.setZal _ _).mono (by decide)).after ?_)
    | ((with_reducible refine ((Same.setSys _ _ ?_).mono (by decide)).after ?_); rfl)
    | (with_reducible refine ((raise_same ..).mono (by decide)).after ?_)
    | (with_reducible refine (Same.foldl (fun _ _ => ?_) _ _).after ?_)
    | (with_reducible refine (Same.foldlFst (fun _ _ => ?_) _ _).after ?_) | split)
theorem nameUnit_same : ∀ u s, Same 256 s (nameUnit u s) := by
  intro u s
  unfold nameUnit
  try dsimp only
  repeat' (first
    | with_reducible exact Same.rfl' _ | (with_reducible refine Same.ite ?_ ?_) | (with_reducible refine Same.iteFst ?_ ?_)
    | (with_reducible refine ((Same.setZal _ _).mono (by decide)).after ?_) | split)
theorem condOn_same : ∀ c s, Same 256 s (condOn c s) := by
  intro c s
  unfold condOn
  try dsimp only
  repeat' (first
    | with_reducible exact Same.rfl' _ | (with_reducible refine ((Same.setZal _ _).mono (by decide)).after ?_))
theorem settleFaultN_same : ∀ s, Same 256 s (settleFaultN s) := by
  intro s
  unfold settleFaultN
  try dsimp only
  repeat' (first
    | with_reducible exact Same.rfl' _ | (with_reducible refine Same.ite ?_ ?_) | (with_reducible refine Same.iteFst ?_ ?_)
    | (with_reducible refine ((Same.setZal _ _).mono (by decide)).after ?_) | split)
theorem condOff_same : ∀ c s, Same 256 s (condOff c s) := by
  intro c s
  unfold condOff
  try dsimp only
  repeat' (first
    | with_reducible exact Same.rfl' _ | (with_reducible refine ((settleFaultN_same ..).mono (by decide)).after ?_)
    | (with_reducible refine ((Same.setZal _ _).mono (by decide)).after ?_))
theorem clearFaults_same : ∀ m s, Same 256 s (clearFaults m s) := by
  intro m s
  unfold clearFaults
  try dsimp only
  repeat' (first
    | with_reducible exact Same.rfl' _ | (with_reducible refine ((settleFaultN_same ..).mono (by decide)).after ?_)
    | (with_reducible refine ((Same.setZal _ _).mono (by decide)).after ?_))
theorem leaveService_same : ∀ u cause s, Same 4 s (leaveService u cause s) := by
  intro u cause s
  unfold leaveService
  try dsimp only
  repeat' (first
    | with_reducible exact Same.rfl' _ | (with_reducible refine ((defer_same ..).mono (by decide)).after ?_))

/-! ### Board -/

theorem setTarget_same : ∀ die mv s, Same 512 s (setTarget die mv s) := by
  intro die mv s
  unfold setTarget
  try dsimp only
  repeat' (first
    | with_reducible exact Same.rfl' _ | (with_reducible refine Same.ite ?_ ?_) | (with_reducible refine Same.iteFst ?_ ?_)
    | (with_reducible refine ((Same.setPower _ _).mono (by decide)).after ?_) | split)
theorem lockPlane_same : ∀ die s, Same 512 s (lockPlane die s) := by
  intro die s
  unfold lockPlane
  try dsimp only
  repeat' (first
    | with_reducible exact Same.rfl' _ | (with_reducible refine Same.ite ?_ ?_) | (with_reducible refine Same.iteFst ?_ ?_)
    | (with_reducible refine ((Same.setPower _ _).mono (by decide)).after ?_) | split)
theorem pmbus_same : ∀ what mv ok s, Same 512 s (pmbus what mv ok s) := by
  intro what mv ok s
  unfold pmbus
  try dsimp only
  repeat' (first
    | with_reducible exact Same.rfl' _ | (with_reducible refine Same.ite ?_ ?_) | (with_reducible refine Same.iteFst ?_ ?_)
    | (with_reducible refine ((Same.setPower _ _).mono (by decide)).after ?_)
    | (with_reducible refine ((setTarget_same ..).mono (by decide)).after ?_) | split)
theorem avsPlane_same : ∀ die cold ok s, Same 512 s (avsPlane die cold ok s) := by
  intro die cold ok s
  unfold avsPlane
  try dsimp only
  repeat' (first
    | with_reducible exact Same.rfl' _ | (with_reducible refine Same.ite ?_ ?_) | (with_reducible refine Same.iteFst ?_ ?_)
    | (with_reducible refine ((pmbus_same ..).mono (by decide)).after ?_) | split
    | (with_reducible refine Same.fst (by assumption) ?_))
theorem avsEvaluate_same : ∀ coldW coldE okW okE s, Same 512 s (avsEvaluate coldW coldE okW okE s) := by
  intro coldW coldE okW okE s
  unfold avsEvaluate
  try dsimp only
  repeat' (first
    | with_reducible exact Same.rfl' _ | (with_reducible refine Same.ite ?_ ?_) | (with_reducible refine Same.iteFst ?_ ?_)
    | (with_reducible refine ((avsPlane_same ..).mono (by decide)).after ?_) | split)
theorem pmbAlert_same : ∀ ok s, Same 512 s (pmbAlert ok s) := by
  intro ok s
  unfold pmbAlert
  try dsimp only
  repeat' (first
    | with_reducible exact Same.rfl' _ | (with_reducible refine Same.ite ?_ ?_) | (with_reducible refine Same.iteFst ?_ ?_)
    | (with_reducible refine ((pmbus_same ..).mono (by decide)).after ?_) | split)
theorem pmbusRetry_same : ∀ ok s, Same 512 s (pmbusRetry ok s) := by
  intro ok s
  unfold pmbusRetry
  try dsimp only
  repeat' (first
    | with_reducible exact Same.rfl' _ | (with_reducible refine Same.ite ?_ ?_) | (with_reducible refine Same.iteFst ?_ ?_)
    | (with_reducible refine ((pmbus_same ..).mono (by decide)).after ?_)
    | (with_reducible refine ((Same.setPower _ _).mono (by decide)).after ?_) | split
    | (with_reducible refine Same.fst (by assumption) ?_))
theorem jtagInstruction_same : ∀ i s, Same 4 s (jtagInstruction i s) := by
  intro i s
  unfold jtagInstruction
  try dsimp only
  repeat' (first
    | with_reducible exact Same.rfl' _ | ((with_reducible refine ((Same.setSys _ _ ?_).mono (by decide)).after ?_); rfl))
theorem execAvsEvaluate_same : ∀ coldW coldE okW okE s t, execAvsEvaluate coldW coldE okW okE s = .next t → Same 512 s t := by
  intro coldW coldE okW okE s t h
  injection h with h
  subst h
  try dsimp only
  repeat' (first
    | with_reducible exact Same.rfl' _ | (with_reducible refine ((avsEvaluate_same ..).mono (by decide)).after ?_))
theorem execPmbAlert_same : ∀ ok s t, execPmbAlert ok s = .next t → Same 512 s t := by
  intro ok s t h
  injection h with h
  subst h
  try dsimp only
  repeat' (first
    | with_reducible exact Same.rfl' _ | (with_reducible refine ((pmbAlert_same ..).mono (by decide)).after ?_))
theorem execPmbusRetry_same : ∀ ok s t, execPmbusRetry ok s = .next t → Same 512 s t := by
  intro ok s t h
  injection h with h
  subst h
  try dsimp only
  repeat' (first
    | with_reducible exact Same.rfl' _ | (with_reducible refine ((pmbusRetry_same ..).mono (by decide)).after ?_))
theorem execJtagInstruction_same : ∀ i s t, execJtagInstruction i s = .next t → Same 4 s t := by
  intro i s t h
  injection h with h
  subst h
  try dsimp only
  repeat' (first
    | with_reducible exact Same.rfl' _ | (with_reducible refine ((jtagInstruction_same ..).mono (by decide)).after ?_))

end Sys2Proof.Machine
end

