-- ==== Sys2Proof/Laws/SamePath.lean ====
section
/-! SUPPORT. What the packet path leave unchanged: the footprint of each operation. -/

namespace Sys2Proof.Machine

/-! ### Parse -/

theorem countPass_same : ∀ p pass r s, Same 32 s (countPass p pass r s) := by
  intro p pass r s
  unfold countPass
  try dsimp only
  repeat' (first
    | with_reducible exact Same.rfl' _ | (with_reducible refine Same.ite ?_ ?_) | (with_reducible refine Same.iteFst ?_ ?_)
    | (with_reducible refine ((bump48_same ..).mono (by decide)).after ?_) | split)

/-! ### Modes -/

theorem setPipe_same : ∀ p x s, Same 2048 s (setPipe p x s) := by
  intro p x s
  unfold setPipe
  try dsimp only
  repeat' (first
    | with_reducible exact Same.rfl' _ | (with_reducible refine ((Same.setPath _ _).mono (by decide)).after ?_))
theorem requestMode_same : ∀ m op r s, Same 4 s (requestMode m op r s).1 := by
  intro m op r s
  unfold requestMode
  try dsimp only
  repeat' (first
    | with_reducible exact Same.rfl' _ | (with_reducible refine ((defer_same ..).mono (by decide)).after ?_)
    | ((with_reducible refine ((Same.setSys _ _ ?_).mono (by decide)).after ?_); rfl))
theorem bodyModeQuery_same : ∀ r s, Same 0 s (bodyModeQuery r s).1 := by
  intro r s
  unfold bodyModeQuery
  try dsimp only
  repeat' (first
    | with_reducible exact Same.rfl' _ | (with_reducible refine Same.ite ?_ ?_) | (with_reducible refine Same.iteFst ?_ ?_)
    | split | (with_reducible refine Same.fst (by assumption) ?_))
theorem modeSetLocal_same : ∀ r s, Same 20 s (modeSetLocal r s).1 := by
  intro r s
  unfold modeSetLocal
  try dsimp only
  repeat' (first
    | with_reducible exact Same.rfl' _ | (with_reducible refine Same.ite ?_ ?_) | (with_reducible refine Same.iteFst ?_ ?_)
    | (with_reducible refine ((defer_same ..).mono (by decide)).after ?_)
    | ((with_reducible refine ((Same.setSys _ _ ?_).mono (by decide)).after ?_); rfl)
    | (with_reducible refine ((requestMode_same ..).mono (by decide)).after ?_)
    | (with_reducible refine ((accepted_same (w := 20) _ _ _ _ (by decide) (fun _ _ => ?_) _).mono (by decide)).after ?_)
    | split | (with_reducible refine Same.fst (by assumption) ?_))
theorem bodyResume_same : ∀ r s, Same 4 s (bodyResume r s).1 := by
  intro r s
  unfold bodyResume
  try dsimp only
  repeat' (first
    | with_reducible exact Same.rfl' _ | (with_reducible refine Same.ite ?_ ?_) | (with_reducible refine Same.iteFst ?_ ?_)
    | (with_reducible refine ((requestMode_same ..).mono (by decide)).after ?_) | split
    | (with_reducible refine Same.fst (by assumption) ?_))
theorem bodySafeEnter_same : ∀ r s, Same 276 s (bodySafeEnter r s).1 := by
  intro r s
  unfold bodySafeEnter
  try dsimp only
  repeat' (first
    | with_reducible exact Same.rfl' _ | (with_reducible refine Same.ite ?_ ?_) | (with_reducible refine Same.iteFst ?_ ?_)
    | (with_reducible refine ((recordFault_same ..).mono (by decide)).after ?_)
    | (with_reducible refine ((defer_same ..).mono (by decide)).after ?_) | split
    | (with_reducible refine Same.fst (by assumption) ?_))
theorem bodyUnitOut_same : ∀ r s, Same 4 s (bodyUnitOut r s).1 := by
  intro r s
  unfold bodyUnitOut
  try dsimp only
  repeat' (first
    | with_reducible exact Same.rfl' _ | (with_reducible refine Same.ite ?_ ?_) | (with_reducible refine Same.iteFst ?_ ?_)
    | (with_reducible refine ((defer_same ..).mono (by decide)).after ?_) | split)
theorem bodyUnitRejoin_same : ∀ r s, Same 4 s (bodyUnitRejoin r s).1 := by
  intro r s
  unfold bodyUnitRejoin
  try dsimp only
  repeat' (first
    | with_reducible exact Same.rfl' _ | (with_reducible refine Same.ite ?_ ?_) | (with_reducible refine Same.iteFst ?_ ?_)
    | (with_reducible refine ((defer_same ..).mono (by decide)).after ?_) | split)
theorem bodyCalRead_same : ∀ r s, Same 0 s (bodyCalRead r s).1 := by
  intro r s
  unfold bodyCalRead
  try dsimp only
  repeat' (first
    | with_reducible exact Same.rfl' _ | (with_reducible refine Same.ite ?_ ?_) | (with_reducible refine Same.iteFst ?_ ?_)
    | split)
theorem tsiLater_same : ∀ was s, Same 68 s (tsiLater was s) := by
  intro was s
  unfold tsiLater
  try dsimp only
  repeat' (first
    | with_reducible exact Same.rfl' _ | (with_reducible refine ((defer_same ..).mono (by decide)).after ?_)
    | (with_reducible refine ((Same.setCal _ _).mono (by decide)).after ?_))
theorem bodyCalWrite_same : ∀ r s, Same 84 s (bodyCalWrite r s).1 := by
  intro r s
  unfold bodyCalWrite
  try dsimp only
  repeat' (first
    | with_reducible exact Same.rfl' _ | (with_reducible refine Same.ite ?_ ?_) | (with_reducible refine Same.iteFst ?_ ?_)
    | (with_reducible refine ((accepted_same (w := 84) _ _ _ _ (by decide) (fun _ _ => ?_) _).mono (by decide)).after ?_)
    | (with_reducible refine ((Same.setCal _ _).mono (by decide)).after ?_)
    | (with_reducible refine ((tsiLater_same ..).mono (by decide)).after ?_) | split
    | (with_reducible refine Same.fst (by assumption) ?_))
theorem bodyCalRun_same : ∀ r s, Same 80 s (bodyCalRun r s).1 := by
  intro r s
  unfold bodyCalRun
  try dsimp only
  repeat' (first
    | with_reducible exact Same.rfl' _ | (with_reducible refine Same.ite ?_ ?_) | (with_reducible refine Same.iteFst ?_ ?_)
    | (with_reducible refine ((accepted_same (w := 80) _ _ _ _ (by decide) (fun _ _ => ?_) _).mono (by decide)).after ?_)
    | (with_reducible refine ((Same.setCal _ _).mono (by decide)).after ?_) | split)
theorem calRunDone_same : ∀ values s, Same 84 s (calRunDone values s) := by
  intro values s
  unfold calRunDone
  try dsimp only
  repeat' (first
    | with_reducible exact Same.rfl' _ | (with_reducible refine Same.ite ?_ ?_) | (with_reducible refine Same.iteFst ?_ ?_)
    | (with_reducible refine ((endOp_same ..).mono (by decide)).after ?_)
    | (with_reducible refine ((Same.setCal _ _).mono (by decide)).after ?_)
    | (with_reducible refine ((tsiLater_same ..).mono (by decide)).after ?_) | split
    | (with_reducible refine Same.fst (by assumption) ?_))
theorem calStored_same : ∀ intact s, Same 208 s (calStored intact s) := by
  intro intact s
  unfold calStored
  try dsimp only
  repeat' (first
    | with_reducible exact Same.rfl' _ | (with_reducible refine Same.ite ?_ ?_) | (with_reducible refine Same.iteFst ?_ ?_)
    | (with_reducible refine ((endOp_same ..).mono (by decide)).after ?_)
    | (with_reducible refine ((Same.setCal _ _).mono (by decide)).after ?_)
    | (with_reducible refine ((Same.setFlash _ _).mono (by decide)).after ?_)
    | (with_reducible refine ((raise_same ..).mono (by decide)).after ?_) | split
    | (with_reducible refine Same.fst (by assumption) ?_))
theorem setStagingSlot_same : ∀ x s, Same 128 s (setStagingSlot x s) := by
  intro x s
  unfold setStagingSlot
  try dsimp only
  repeat' (first
    | with_reducible exact Same.rfl' _ | (with_reducible refine Same.ite ?_ ?_) | (with_reducible refine Same.iteFst ?_ ?_)
    | (with_reducible refine ((Same.setFlash _ _).mono (by decide)).after ?_) | split)
theorem bodyFwStage_same : ∀ r s, Same 148 s (bodyFwStage r s).1 := by
  intro r s
  unfold bodyFwStage
  try dsimp only
  repeat' (first
    | with_reducible exact Same.rfl' _ | (with_reducible refine Same.ite ?_ ?_) | (with_reducible refine Same.iteFst ?_ ?_)
    | (with_reducible refine ((setStagingSlot_same ..).mono (by decide)).after ?_)
    | ((with_reducible refine ((Same.setSys _ _ ?_).mono (by decide)).after ?_); rfl)
    | (with_reducible refine ((accepted_same (w := 148) _ _ _ _ (by decide) (fun _ _ => ?_) _).mono (by decide)).after ?_)
    | split | (with_reducible refine Same.fst (by assumption) ?_))
theorem fwStaged_same : ∀ s, Same 148 s (fwStaged s) := by
  intro s
  unfold fwStaged
  try dsimp only
  repeat' (first
    | with_reducible exact Same.rfl' _ | (with_reducible refine Same.ite ?_ ?_) | (with_reducible refine Same.iteFst ?_ ?_)
    | ((with_reducible refine ((Same.setSys _ _ ?_).mono (by decide)).after ?_); rfl)
    | (with_reducible refine ((Same.setFlash _ _).mono (by decide)).after ?_)
    | (with_reducible refine ((endOp_same ..).mono (by decide)).after ?_)
    | (with_reducible refine ((raise_same ..).mono (by decide)).after ?_) | split
    | (with_reducible refine Same.fst (by assumption) ?_))
theorem bodyFwQuery_same : ∀ r s, Same 0 s (bodyFwQuery r s).1 := by
  intro r s
  unfold bodyFwQuery
  try dsimp only
  repeat' (first
    | with_reducible exact Same.rfl' _ | (with_reducible refine Same.ite ?_ ?_) | (with_reducible refine Same.iteFst ?_ ?_)
    | split | (with_reducible refine Same.fst (by assumption) ?_))
theorem execModeQuery_same : ∀ r s t, execModeQuery r s = .next t → Same 526386 s t := by
  intro r s t h
  injection h with h
  subst h
  try dsimp only
  repeat' (first
    | with_reducible exact Same.rfl' _
    | (with_reducible refine (runToune_same _ _ (by decide) (fun r s => (bodyModeQuery_same r s).mono (by decide)) _ _).after ?_)
    | (with_reducible refine ((bodyModeQuery_same ..).mono (by decide)).after ?_))
theorem execResume_same : ∀ r s t, execResume r s = .next t → Same 526390 s t := by
  intro r s t h
  injection h with h
  subst h
  try dsimp only
  repeat' (first
    | with_reducible exact Same.rfl' _
    | (with_reducible refine (runToune_same _ _ (by decide) (fun r s => (bodyResume_same r s).mono (by decide)) _ _).after ?_)
    | (with_reducible refine ((bodyResume_same ..).mono (by decide)).after ?_))
theorem execSafeEnter_same : ∀ r s t, execSafeEnter r s = .next t → Same 526646 s t := by
  intro r s t h
  injection h with h
  subst h
  try dsimp only
  repeat' (first
    | with_reducible exact Same.rfl' _
    | (with_reducible refine (runToune_same _ _ (by decide) (fun r s => (bodySafeEnter_same r s).mono (by decide)) _ _).after ?_)
    | (with_reducible refine ((bodySafeEnter_same ..).mono (by decide)).after ?_))
theorem execUnitOut_same : ∀ r s t, execUnitOut r s = .next t → Same 526390 s t := by
  intro r s t h
  injection h with h
  subst h
  try dsimp only
  repeat' (first
    | with_reducible exact Same.rfl' _
    | (with_reducible refine (runToune_same _ _ (by decide) (fun r s => (bodyUnitOut_same r s).mono (by decide)) _ _).after ?_)
    | (with_reducible refine ((bodyUnitOut_same ..).mono (by decide)).after ?_))
theorem execUnitRejoin_same : ∀ r s t, execUnitRejoin r s = .next t → Same 526390 s t := by
  intro r s t h
  injection h with h
  subst h
  try dsimp only
  repeat' (first
    | with_reducible exact Same.rfl' _
    | (with_reducible refine (runToune_same _ _ (by decide) (fun r s => (bodyUnitRejoin_same r s).mono (by decide)) _ _).after ?_)
    | (with_reducible refine ((bodyUnitRejoin_same ..).mono (by decide)).after ?_))
theorem execCalRead_same : ∀ r s t, execCalRead r s = .next t → Same 526386 s t := by
  intro r s t h
  injection h with h
  subst h
  try dsimp only
  repeat' (first
    | with_reducible exact Same.rfl' _
    | (with_reducible refine (runToune_same _ _ (by decide) (fun r s => (bodyCalRead_same r s).mono (by decide)) _ _).after ?_)
    | (with_reducible refine ((bodyCalRead_same ..).mono (by decide)).after ?_))
theorem execCalWrite_same : ∀ r s t, execCalWrite r s = .next t → Same 526454 s t := by
  intro r s t h
  injection h with h
  subst h
  try dsimp only
  repeat' (first
    | with_reducible exact Same.rfl' _
    | (with_reducible refine (runToune_same _ _ (by decide) (fun r s => (bodyCalWrite_same r s).mono (by decide)) _ _).after ?_)
    | (with_reducible refine ((bodyCalWrite_same ..).mono (by decide)).after ?_))
theorem execCalRun_same : ∀ r s t, execCalRun r s = .next t → Same 526450 s t := by
  intro r s t h
  injection h with h
  subst h
  try dsimp only
  repeat' (first
    | with_reducible exact Same.rfl' _
    | (with_reducible refine (runToune_same _ _ (by decide) (fun r s => (bodyCalRun_same r s).mono (by decide)) _ _).after ?_)
    | (with_reducible refine ((bodyCalRun_same ..).mono (by decide)).after ?_))
theorem execCalRunDone_same : ∀ values s t, execCalRunDone values s = .next t → Same 84 s t := by
  intro values s t h
  injection h with h
  subst h
  try dsimp only
  repeat' (first
    | with_reducible exact Same.rfl' _ | (with_reducible refine ((calRunDone_same ..).mono (by decide)).after ?_))
theorem execCalStored_same : ∀ intact s t, execCalStored intact s = .next t → Same 208 s t := by
  intro intact s t h
  injection h with h
  subst h
  try dsimp only
  repeat' (first
    | with_reducible exact Same.rfl' _ | (with_reducible refine ((calStored_same ..).mono (by decide)).after ?_))
theorem execFwStage_same : ∀ r s t, execFwStage r s = .next t → Same 526518 s t := by
  intro r s t h
  injection h with h
  subst h
  try dsimp only
  repeat' (first
    | with_reducible exact Same.rfl' _
    | (with_reducible refine (runToune_same _ _ (by decide) (fun r s => (bodyFwStage_same r s).mono (by decide)) _ _).after ?_)
    | (with_reducible refine ((bodyFwStage_same ..).mono (by decide)).after ?_))
theorem execFwStaged_same : ∀ s t, execFwStaged s = .next t → Same 148 s t := by
  intro s t h
  injection h with h
  subst h
  try dsimp only
  repeat' (first
    | with_reducible exact Same.rfl' _ | (with_reducible refine ((fwStaged_same ..).mono (by decide)).after ?_))
theorem execFwQuery_same : ∀ r s t, execFwQuery r s = .next t → Same 526386 s t := by
  intro r s t h
  injection h with h
  subst h
  try dsimp only
  repeat' (first
    | with_reducible exact Same.rfl' _
    | (with_reducible refine (runToune_same _ _ (by decide) (fun r s => (bodyFwQuery_same r s).mono (by decide)) _ _).after ?_)
    | (with_reducible refine ((bodyFwQuery_same ..).mono (by decide)).after ?_))

/-! ### Classify -/

theorem countRcmp_same : ∀ p c s, Same 32 s (countRcmp p c s) := by
  intro p c s
  unfold countRcmp
  try dsimp only
  repeat' (first
    | with_reducible exact Same.rfl' _ | (with_reducible refine ((bump32_same ..).mono (by decide)).after ?_) | split
    | (with_reducible refine Same.fst (by assumption) ?_))

/-! ### Rules -/

theorem setBank_same : ∀ b x s, Same 2048 s (setBank b x s) := by
  intro b x s
  unfold setBank
  try dsimp only
  repeat' (first
    | with_reducible exact Same.rfl' _ | (with_reducible refine ((Same.setPath _ _).mono (by decide)).after ?_))
theorem queueRule_same : ∀ b op kind r s, Same 2064 s (queueRule b op kind r s).1 := by
  intro b op kind r s
  unfold queueRule
  try dsimp only
  repeat' (first
    | with_reducible exact Same.rfl' _ | (with_reducible refine Same.ite ?_ ?_) | (with_reducible refine Same.iteFst ?_ ?_)
    | (with_reducible refine ((accepted_same (w := 2064) _ _ _ _ (by decide) (fun _ _ => ?_) _).mono (by decide)).after ?_)
    | (with_reducible refine ((setBank_same ..).mono (by decide)).after ?_) | split)
theorem bodyRuleWrite_same : ∀ r s, Same 2064 s (bodyRuleWrite r s).1 := by
  intro r s
  unfold bodyRuleWrite
  try dsimp only
  repeat' (first
    | with_reducible exact Same.rfl' _ | (with_reducible refine Same.ite ?_ ?_) | (with_reducible refine Same.iteFst ?_ ?_)
    | (with_reducible refine ((queueRule_same ..).mono (by decide)).after ?_) | split)
theorem bodyRuleInsert_same : ∀ r s, Same 2064 s (bodyRuleInsert r s).1 := by
  intro r s
  unfold bodyRuleInsert
  try dsimp only
  repeat' (first
    | with_reducible exact Same.rfl' _ | (with_reducible refine Same.ite ?_ ?_) | (with_reducible refine Same.iteFst ?_ ?_)
    | (with_reducible refine ((queueRule_same ..).mono (by decide)).after ?_) | split)
theorem bodyRuleDelete_same : ∀ r s, Same 2064 s (bodyRuleDelete r s).1 := by
  intro r s
  unfold bodyRuleDelete
  try dsimp only
  repeat' (first
    | with_reducible exact Same.rfl' _ | (with_reducible refine Same.ite ?_ ?_) | (with_reducible refine Same.iteFst ?_ ?_)
    | (with_reducible refine ((queueRule_same ..).mono (by decide)).after ?_) | split)
theorem bodyBankClear_same : ∀ r s, Same 2064 s (bodyBankClear r s).1 := by
  intro r s
  unfold bodyBankClear
  try dsimp only
  repeat' (first
    | with_reducible exact Same.rfl' _ | (with_reducible refine Same.ite ?_ ?_) | (with_reducible refine Same.iteFst ?_ ?_)
    | (with_reducible refine ((queueRule_same ..).mono (by decide)).after ?_) | split)
theorem findLost_same : ∀ b rs s, Same 2064 s (findLost b rs s) := by
  intro b rs s
  unfold findLost
  try dsimp only
  repeat' (first
    | with_reducible exact Same.rfl' _ | (with_reducible refine Same.ite ?_ ?_) | (with_reducible refine Same.iteFst ?_ ?_)
    | (with_reducible refine ((raise_same ..).mono (by decide)).after ?_)
    | (with_reducible refine ((setBank_same ..).mono (by decide)).after ?_)
    | (with_reducible refine (Same.foldl (fun _ _ => ?_) _ _).after ?_)
    | (with_reducible refine (Same.foldlFst (fun _ _ => ?_) _ _).after ?_) | split)
theorem bodyRuleRead_same : ∀ r s, Same 2066 s (bodyRuleRead r s).1 := by
  intro r s
  unfold bodyRuleRead
  try dsimp only
  repeat' (first
    | with_reducible exact Same.rfl' _ | (with_reducible refine Same.ite ?_ ?_) | (with_reducible refine Same.iteFst ?_ ?_)
    | (with_reducible refine ((findLost_same ..).mono (by decide)).after ?_)
    | (with_reducible refine ((Same.setFree _ _).mono (by decide)).after ?_) | split)
theorem commitInto_same : ∀ b w c s, Same 2064 s (commitInto b w c s) := by
  intro b w c s
  unfold commitInto
  try dsimp only
  repeat' (first
    | with_reducible exact Same.rfl' _ | (with_reducible refine Same.ite ?_ ?_) | (with_reducible refine Same.iteFst ?_ ?_)
    | (with_reducible refine ((setBank_same ..).mono (by decide)).after ?_)
    | (with_reducible refine ((findLost_same ..).mono (by decide)).after ?_) | split
    | (with_reducible refine Same.fst (by assumption) ?_))
theorem commit_same : ∀ b c s, Same 2064 s (commit b c s) := by
  intro b c s
  unfold commit
  try dsimp only
  repeat' (first
    | with_reducible exact Same.rfl' _ | (with_reducible refine ((commitInto_same ..).mono (by decide)).after ?_) | split
    | (with_reducible refine Same.fst (by assumption) ?_))
theorem takeSlots_same : ∀ b n s, Same 2048 s (takeSlots b n s) := by
  intro b n s
  unfold takeSlots
  try dsimp only
  repeat' (first
    | with_reducible exact Same.rfl' _ | (with_reducible refine Same.ite ?_ ?_) | (with_reducible refine Same.iteFst ?_ ?_)
    | (with_reducible refine ((setBank_same ..).mono (by decide)).after ?_) | split)
theorem runCommits_same : ∀ b w x x2, Same 2064 x2 (runCommits b w x x2).1 := by
  intro b w x x2
  induction x generalizing b w x2 with
  | nil => exact Same.rfl' _
  | cons a0 l0 ih =>
    unfold runCommits
    try dsimp only
    repeat' (first
      | with_reducible exact Same.rfl' _ | (with_reducible refine Same.ite ?_ ?_) | (with_reducible refine Same.iteFst ?_ ?_)
      | (with_reducible refine ((takeSlots_same ..).mono (by decide)).after ?_)
      | (with_reducible refine ((commit_same ..).mono (by decide)).after ?_) | (with_reducible refine (ih ..).after ?_)
      | (with_reducible refine (Same.foldl (fun _ _ => ?_) _ _).after ?_)
      | (with_reducible refine (Same.foldlFst (fun _ _ => ?_) _ _).after ?_) | split)
theorem nextRule_same : ∀ b s, Same 2064 s (nextRule b s) := by
  intro b s
  unfold nextRule
  try dsimp only
  repeat' (first
    | with_reducible exact Same.rfl' _ | (with_reducible refine ((setBank_same ..).mono (by decide)).after ?_)
    | (with_reducible refine ((startHandle_same ..).mono (by decide)).after ?_) | split
    | (with_reducible refine Same.fst (by assumption) ?_))
theorem ruleSlots_same : ∀ b x x2, Same 2064 x2 (ruleSlots b x x2) := by
  intro b x x2
  induction x generalizing b x2 with
  | zero => exact Same.rfl' _
  | succ k0 ih =>
    unfold ruleSlots
    try dsimp only
    repeat' (first
      | with_reducible exact Same.rfl' _ | (with_reducible refine Same.ite ?_ ?_) | (with_reducible refine Same.iteFst ?_ ?_)
      | (with_reducible refine ((setBank_same ..).mono (by decide)).after ?_)
      | (with_reducible refine ((nextRule_same ..).mono (by decide)).after ?_)
      | (with_reducible refine ((runCommits_same ..).mono (by decide)).after ?_) | (with_reducible refine (ih ..).after ?_)
      | split | (with_reducible refine Same.fst (by assumption) ?_))
theorem ruleOpDone_same : ∀ b s, Same 2064 s (ruleOpDone b s) := by
  intro b s
  unfold ruleOpDone
  try dsimp only
  repeat' (first
    | with_reducible exact Same.rfl' _ | (with_reducible refine ((complete_same ..).mono (by decide)).after ?_)
    | (with_reducible refine ((setBank_same ..).mono (by decide)).after ?_) | split
    | (with_reducible refine Same.fst (by assumption) ?_))
theorem explainRow_same : ∀ b r s, Same 2048 s (explainRow b r s) := by
  intro b r s
  unfold explainRow
  try dsimp only
  repeat' (first
    | with_reducible exact Same.rfl' _ | (with_reducible refine Same.ite ?_ ?_) | (with_reducible refine Same.iteFst ?_ ?_)
    | (with_reducible refine ((setBank_same ..).mono (by decide)).after ?_) | split)
theorem repairRow_same : ∀ b r s, Same 2356 s (repairRow b r s) := by
  intro b r s
  unfold repairRow
  try dsimp only
  repeat' (first
    | with_reducible exact Same.rfl' _ | (with_reducible refine Same.ite ?_ ?_) | (with_reducible refine Same.iteFst ?_ ?_)
    | (with_reducible refine ((explainRow_same ..).mono (by decide)).after ?_)
    | (with_reducible refine ((takeSlots_same ..).mono (by decide)).after ?_)
    | (with_reducible refine ((setBank_same ..).mono (by decide)).after ?_)
    | (with_reducible refine ((raiseLimited_same ..).mono (by decide)).after ?_)
    | (with_reducible refine ((bump32_same ..).mono (by decide)).after ?_)
    | (with_reducible refine ((leaveService_same ..).mono (by decide)).after ?_)
    | (with_reducible refine ((recordFault_same ..).mono (by decide)).after ?_)
    | (with_reducible refine ((raise_same ..).mono (by decide)).after ?_) | split)
theorem scrubRow_same : ∀ b s, Same 2356 s (scrubRow b s) := by
  intro b s
  unfold scrubRow
  try dsimp only
  repeat' (first
    | with_reducible exact Same.rfl' _ | (with_reducible refine Same.ite ?_ ?_) | (with_reducible refine Same.iteFst ?_ ?_)
    | (with_reducible refine ((findLost_same ..).mono (by decide)).after ?_)
    | (with_reducible refine ((setBank_same ..).mono (by decide)).after ?_)
    | (with_reducible refine ((repairRow_same ..).mono (by decide)).after ?_) | split)
theorem pairCheck.nameUnits_same : ∀ us s, Same 256 s (pairCheck.nameUnits us s) := by
  intro us s
  unfold pairCheck.nameUnits
  try dsimp only
  repeat' (first
    | with_reducible exact Same.rfl' _ | (with_reducible refine ((nameUnit_same ..).mono (by decide)).after ?_)
    | (with_reducible refine (Same.foldl (fun _ _ => ?_) _ _).after ?_)
    | (with_reducible refine (Same.foldlFst (fun _ _ => ?_) _ _).after ?_))
theorem pairCheck_same : ∀ b c s, Same 2356 s (pairCheck b c s) := by
  intro b c s
  unfold pairCheck
  try dsimp only
  repeat' (first
    | with_reducible exact Same.rfl' _ | (with_reducible refine Same.ite ?_ ?_) | (with_reducible refine Same.iteFst ?_ ?_)
    | (with_reducible refine ((takeSlots_same ..).mono (by decide)).after ?_)
    | (with_reducible refine ((findLost_same ..).mono (by decide)).after ?_)
    | (with_reducible refine ((repairRow_same ..).mono (by decide)).after ?_)
    | (with_reducible refine ((raise_same ..).mono (by decide)).after ?_)
    | (with_reducible refine ((recordFault_same ..).mono (by decide)).after ?_)
    | (with_reducible refine ((pairCheck.nameUnits_same ..).mono (by decide)).after ?_)
    | (with_reducible refine (Same.foldl (fun _ _ => ?_) _ _).after ?_)
    | (with_reducible refine (Same.foldlFst (fun _ _ => ?_) _ _).after ?_) | split
    | (with_reducible refine Same.fst (by assumption) ?_))
theorem pairChecks_same : ∀ b x x2, Same 2356 x2 (pairChecks b x x2) := by
  intro b x x2
  induction x generalizing b x2 with
  | zero => exact Same.rfl' _
  | succ k0 ih =>
    unfold pairChecks
    try dsimp only
    repeat' (first
      | with_reducible exact Same.rfl' _ | (with_reducible refine Same.ite ?_ ?_) | (with_reducible refine Same.iteFst ?_ ?_)
      | (with_reducible refine ((setBank_same ..).mono (by decide)).after ?_)
      | (with_reducible refine ((pairCheck_same ..).mono (by decide)).after ?_) | (with_reducible refine (ih ..).after ?_)
      | split | (with_reducible refine Same.fst (by assumption) ?_))
theorem rbMaintTick_same : ∀ b u s, Same 2356 s (rbMaintTick b u s) := by
  intro b u s
  unfold rbMaintTick
  try dsimp only
  repeat' (first
    | with_reducible exact Same.rfl' _ | (with_reducible refine ((setBank_same ..).mono (by decide)).after ?_)
    | (with_reducible refine ((scrubRow_same ..).mono (by decide)).after ?_)
    | (with_reducible refine ((pairChecks_same ..).mono (by decide)).after ?_)
    | (with_reducible refine ((ruleSlots_same ..).mono (by decide)).after ?_)
    | (with_reducible refine (Same.foldl (fun _ _ => ?_) _ _).after ?_)
    | (with_reducible refine (Same.foldlFst (fun _ _ => ?_) _ _).after ?_))
theorem rbWidth_same : ∀ b code s, Same 8390688 s (rbWidth b code s) := by
  intro b code s
  unfold rbWidth
  try dsimp only
  repeat' (first
    | with_reducible exact Same.rfl' _ | (with_reducible refine ((setReg_same ..).mono (by decide)).after ?_)
    | (with_reducible refine ((setBank_same ..).mono (by decide)).after ?_))
theorem pairWords_same : ∀ b v s, Same 8388640 s (pairWords b v s) := by
  intro b v s
  unfold pairWords
  try dsimp only
  repeat' (first
    | with_reducible exact Same.rfl' _ | (with_reducible refine Same.ite ?_ ?_) | (with_reducible refine Same.iteFst ?_ ?_)
    | (with_reducible refine ((setReg_same ..).mono (by decide)).after ?_) | split
    | (with_reducible refine Same.fst (by assumption) ?_))
theorem rbPair_same : ∀ b v s, Same 8390708 s (rbPair b v s) := by
  intro b v s
  unfold rbPair
  try dsimp only
  repeat' (first
    | with_reducible exact Same.rfl' _ | (with_reducible refine Same.ite ?_ ?_) | (with_reducible refine Same.iteFst ?_ ?_)
    | (with_reducible refine ((findLost_same ..).mono (by decide)).after ?_)
    | (with_reducible refine ((setUnit_same ..).mono (by decide)).after ?_)
    | (with_reducible refine ((setBank_same ..).mono (by decide)).after ?_)
    | (with_reducible refine ((pairWords_same ..).mono (by decide)).after ?_) | split)
theorem governTick_same : ∀ s, Same 2064 s (governTick s) := by
  intro s
  unfold governTick
  try dsimp only
  repeat' (first
    | with_reducible exact Same.rfl' _ | (with_reducible refine Same.ite ?_ ?_) | (with_reducible refine Same.iteFst ?_ ?_)
    | (with_reducible refine ((Same.setPath _ _).mono (by decide)).after ?_)
    | (with_reducible refine ((setPipe_same ..).mono (by decide)).after ?_)
    | (with_reducible refine ((raise_same ..).mono (by decide)).after ?_)
    | (with_reducible refine (Same.foldl (fun _ _ => ?_) _ _).after ?_)
    | (with_reducible refine (Same.foldlFst (fun _ _ => ?_) _ _).after ?_) | split)
theorem execRuleWrite_same : ∀ r s t, execRuleWrite r s = .next t → Same 526386 s t := by
  intro r s t h
  injection h with h
  subst h
  try dsimp only
  repeat' (first
    | with_reducible exact Same.rfl' _
    | (with_reducible refine (runToune_same _ _ (by decide) (fun r s => (bodyRuleWrite_same r s).mono (by decide)) _ _).after ?_)
    | (with_reducible refine ((bodyRuleWrite_same ..).mono (by decide)).after ?_))
theorem execRuleInsert_same : ∀ r s t, execRuleInsert r s = .next t → Same 526386 s t := by
  intro r s t h
  injection h with h
  subst h
  try dsimp only
  repeat' (first
    | with_reducible exact Same.rfl' _
    | (with_reducible refine (runToune_same _ _ (by decide) (fun r s => (bodyRuleInsert_same r s).mono (by decide)) _ _).after ?_)
    | (with_reducible refine ((bodyRuleInsert_same ..).mono (by decide)).after ?_))
theorem execRuleDelete_same : ∀ r s t, execRuleDelete r s = .next t → Same 526386 s t := by
  intro r s t h
  injection h with h
  subst h
  try dsimp only
  repeat' (first
    | with_reducible exact Same.rfl' _
    | (with_reducible refine (runToune_same _ _ (by decide) (fun r s => (bodyRuleDelete_same r s).mono (by decide)) _ _).after ?_)
    | (with_reducible refine ((bodyRuleDelete_same ..).mono (by decide)).after ?_))
theorem execRuleRead_same : ∀ r s t, execRuleRead r s = .next t → Same 526386 s t := by
  intro r s t h
  injection h with h
  subst h
  try dsimp only
  repeat' (first
    | with_reducible exact Same.rfl' _
    | (with_reducible refine (runToune_same _ _ (by decide) (fun r s => (bodyRuleRead_same r s).mono (by decide)) _ _).after ?_)
    | (with_reducible refine ((bodyRuleRead_same ..).mono (by decide)).after ?_))
theorem execBankClear_same : ∀ r s t, execBankClear r s = .next t → Same 526386 s t := by
  intro r s t h
  injection h with h
  subst h
  try dsimp only
  repeat' (first
    | with_reducible exact Same.rfl' _
    | (with_reducible refine (runToune_same _ _ (by decide) (fun r s => (bodyBankClear_same r s).mono (by decide)) _ _).after ?_)
    | (with_reducible refine ((bodyBankClear_same ..).mono (by decide)).after ?_))
theorem execRuleOpDone_same : ∀ b s t, execRuleOpDone b s = .next t → Same 2064 s t := by
  intro b s t h
  injection h with h
  subst h
  try dsimp only
  repeat' (first
    | with_reducible exact Same.rfl' _ | (with_reducible refine ((ruleOpDone_same ..).mono (by decide)).after ?_))
theorem execRbMaintTick_same : ∀ b u s t, execRbMaintTick b u s = .next t → Same 2356 s t := by
  intro b u s t h
  injection h with h
  subst h
  try dsimp only
  repeat' (first
    | with_reducible exact Same.rfl' _ | (with_reducible refine ((rbMaintTick_same ..).mono (by decide)).after ?_))
theorem execRbWidthWrite_same : ∀ b code s t, execRbWidthWrite b code s = .next t → Same 8390688 s t := by
  intro b code s t h
  injection h with h
  subst h
  try dsimp only
  repeat' (first
    | with_reducible exact Same.rfl' _ | (with_reducible refine Same.ite ?_ ?_) | (with_reducible refine Same.iteFst ?_ ?_)
    | (with_reducible refine ((rbWidth_same ..).mono (by decide)).after ?_) | split)
theorem execRbPairWrite_same : ∀ b v s t, execRbPairWrite b v s = .next t → Same 8390708 s t := by
  intro b v s t h
  injection h with h
  subst h
  try dsimp only
  repeat' (first
    | with_reducible exact Same.rfl' _ | (with_reducible refine Same.ite ?_ ?_) | (with_reducible refine Same.iteFst ?_ ?_)
    | (with_reducible refine ((rbPair_same ..).mono (by decide)).after ?_) | split)

/-! ### Images -/

theorem bodyGraphLoad_same : ∀ r s, Same 2064 s (bodyGraphLoad r s).1 := by
  intro r s
  unfold bodyGraphLoad
  try dsimp only
  repeat' (first
    | with_reducible exact Same.rfl' _ | (with_reducible refine Same.ite ?_ ?_) | (with_reducible refine Same.iteFst ?_ ?_)
    | (with_reducible refine ((raise_same ..).mono (by decide)).after ?_)
    | (with_reducible refine ((setPipe_same ..).mono (by decide)).after ?_)
    | (with_reducible refine (Same.foldl (fun _ _ => ?_) _ _).after ?_)
    | (with_reducible refine (Same.foldlFst (fun _ _ => ?_) _ _).after ?_) | split
    | (with_reducible refine Same.fst (by assumption) ?_))
theorem bodyGraphSwitch_same : ∀ r s, Same 2052 s (bodyGraphSwitch r s).1 := by
  intro r s
  unfold bodyGraphSwitch
  try dsimp only
  repeat' (first
    | with_reducible exact Same.rfl' _ | (with_reducible refine Same.ite ?_ ?_) | (with_reducible refine Same.iteFst ?_ ?_)
    | (with_reducible refine ((setPipe_same ..).mono (by decide)).after ?_)
    | (with_reducible refine ((defer_same ..).mono (by decide)).after ?_)
    | (with_reducible refine (Same.foldl (fun _ _ => ?_) _ _).after ?_)
    | (with_reducible refine (Same.foldlFst (fun _ _ => ?_) _ _).after ?_) | split
    | (with_reducible refine Same.fst (by assumption) ?_))
theorem bodyProfileLoad_same : ∀ r s, Same 2064 s (bodyProfileLoad r s).1 := by
  intro r s
  unfold bodyProfileLoad
  try dsimp only
  repeat' (first
    | with_reducible exact Same.rfl' _ | (with_reducible refine Same.ite ?_ ?_) | (with_reducible refine Same.iteFst ?_ ?_)
    | (with_reducible refine ((raise_same ..).mono (by decide)).after ?_)
    | (with_reducible refine ((setPipe_same ..).mono (by decide)).after ?_)
    | (with_reducible refine (Same.foldl (fun _ _ => ?_) _ _).after ?_)
    | (with_reducible refine (Same.foldlFst (fun _ _ => ?_) _ _).after ?_) | split
    | (with_reducible refine Same.fst (by assumption) ?_))
theorem bodyProfileSwitch_same : ∀ r s, Same 2052 s (bodyProfileSwitch r s).1 := by
  intro r s
  unfold bodyProfileSwitch
  try dsimp only
  repeat' (first
    | with_reducible exact Same.rfl' _ | (with_reducible refine Same.ite ?_ ?_) | (with_reducible refine Same.iteFst ?_ ?_)
    | (with_reducible refine ((setPipe_same ..).mono (by decide)).after ?_)
    | (with_reducible refine ((defer_same ..).mono (by decide)).after ?_)
    | (with_reducible refine (Same.foldl (fun _ _ => ?_) _ _).after ?_)
    | (with_reducible refine (Same.foldlFst (fun _ _ => ?_) _ _).after ?_) | split
    | (with_reducible refine Same.fst (by assumption) ?_))
theorem bodyBankmaskCommit_same : ∀ r s, Same 2052 s (bodyBankmaskCommit r s).1 := by
  intro r s
  unfold bodyBankmaskCommit
  try dsimp only
  repeat' (first
    | with_reducible exact Same.rfl' _ | (with_reducible refine Same.ite ?_ ?_) | (with_reducible refine Same.iteFst ?_ ?_)
    | (with_reducible refine ((setPipe_same ..).mono (by decide)).after ?_)
    | (with_reducible refine ((defer_same ..).mono (by decide)).after ?_)
    | (with_reducible refine (Same.foldl (fun _ _ => ?_) _ _).after ?_)
    | (with_reducible refine (Same.foldlFst (fun _ _ => ?_) _ _).after ?_) | split
    | (with_reducible refine Same.fst (by assumption) ?_))
theorem switchGraph_same : ∀ s p, Same 2048 s (switchGraph s p) := by
  intro s p
  unfold switchGraph
  try dsimp only
  repeat' (first
    | with_reducible exact Same.rfl' _ | (with_reducible refine ((setPipe_same ..).mono (by decide)).after ?_))
theorem applyGraphSwitch_same : ∀ m s, Same 2064 s (applyGraphSwitch m s) := by
  intro m s
  unfold applyGraphSwitch
  try dsimp only
  repeat' (first
    | with_reducible exact Same.rfl' _ | (with_reducible refine ((switchGraph_same ..).mono (by decide)).after ?_)
    | (with_reducible refine ((raise_same ..).mono (by decide)).after ?_)
    | (with_reducible refine (Same.foldl (fun _ _ => ?_) _ _).after ?_)
    | (with_reducible refine (Same.foldlFst (fun _ _ => ?_) _ _).after ?_))
theorem applyProfileSwitch_same : ∀ m wg s, Same 2064 s (applyProfileSwitch m wg s) := by
  intro m wg s
  unfold applyProfileSwitch
  try dsimp only
  repeat' (first
    | with_reducible exact Same.rfl' _ | (with_reducible refine Same.ite ?_ ?_) | (with_reducible refine Same.iteFst ?_ ?_)
    | (with_reducible refine ((setPipe_same ..).mono (by decide)).after ?_)
    | (with_reducible refine ((switchGraph_same ..).mono (by decide)).after ?_)
    | (with_reducible refine ((raise_same ..).mono (by decide)).after ?_)
    | (with_reducible refine (Same.foldl (fun _ _ => ?_) _ _).after ?_)
    | (with_reducible refine (Same.foldlFst (fun _ _ => ?_) _ _).after ?_) | split)
theorem applyBankMask_same : ∀ m items s, Same 2064 s (applyBankMask m items s) := by
  intro m items s
  unfold applyBankMask
  try dsimp only
  repeat' (first
    | with_reducible exact Same.rfl' _ | (with_reducible refine ((setPipe_same ..).mono (by decide)).after ?_)
    | (with_reducible refine ((raise_same ..).mono (by decide)).after ?_)
    | (with_reducible refine (Same.foldl (fun _ _ => ?_) _ _).after ?_)
    | (with_reducible refine (Same.foldlFst (fun _ _ => ?_) _ _).after ?_) | split
    | (with_reducible refine Same.fst (by assumption) ?_))
theorem parseErrRate_same : ∀ p s, Same 20 s (parseErrRate p s) := by
  intro p s
  unfold parseErrRate
  try dsimp only
  repeat' (first
    | with_reducible exact Same.rfl' _ | (with_reducible refine Same.ite ?_ ?_) | (with_reducible refine Same.iteFst ?_ ?_)
    | (with_reducible refine ((raiseOnce_same ..).mono (by decide)).after ?_) | split)
theorem execGraphLoad_same : ∀ r s t, execGraphLoad r s = .next t → Same 526386 s t := by
  intro r s t h
  injection h with h
  subst h
  try dsimp only
  repeat' (first
    | with_reducible exact Same.rfl' _
    | (with_reducible refine (runToune_same _ _ (by decide) (fun r s => (bodyGraphLoad_same r s).mono (by decide)) _ _).after ?_)
    | (with_reducible refine ((bodyGraphLoad_same ..).mono (by decide)).after ?_))
theorem execGraphSwitch_same : ∀ r s t, execGraphSwitch r s = .next t → Same 526390 s t := by
  intro r s t h
  injection h with h
  subst h
  try dsimp only
  repeat' (first
    | with_reducible exact Same.rfl' _
    | (with_reducible refine (runToune_same _ _ (by decide) (fun r s => (bodyGraphSwitch_same r s).mono (by decide)) _ _).after ?_)
    | (with_reducible refine ((bodyGraphSwitch_same ..).mono (by decide)).after ?_))
theorem execProfileLoad_same : ∀ r s t, execProfileLoad r s = .next t → Same 526386 s t := by
  intro r s t h
  injection h with h
  subst h
  try dsimp only
  repeat' (first
    | with_reducible exact Same.rfl' _
    | (with_reducible refine (runToune_same _ _ (by decide) (fun r s => (bodyProfileLoad_same r s).mono (by decide)) _ _).after ?_)
    | (with_reducible refine ((bodyProfileLoad_same ..).mono (by decide)).after ?_))
theorem execProfileSwitch_same : ∀ r s t, execProfileSwitch r s = .next t → Same 526390 s t := by
  intro r s t h
  injection h with h
  subst h
  try dsimp only
  repeat' (first
    | with_reducible exact Same.rfl' _
    | (with_reducible refine (runToune_same _ _ (by decide) (fun r s => (bodyProfileSwitch_same r s).mono (by decide)) _ _).after ?_)
    | (with_reducible refine ((bodyProfileSwitch_same ..).mono (by decide)).after ?_))
theorem execBankmaskCommit_same : ∀ r s t, execBankmaskCommit r s = .next t → Same 526390 s t := by
  intro r s t h
  injection h with h
  subst h
  try dsimp only
  repeat' (first
    | with_reducible exact Same.rfl' _
    | (with_reducible refine (runToune_same _ _ (by decide) (fun r s => (bodyBankmaskCommit_same r s).mono (by decide)) _ _).after ?_)
    | (with_reducible refine ((bodyBankmaskCommit_same ..).mono (by decide)).after ?_))
theorem execParseErrRate_same : ∀ p s t, execParseErrRate p s = .next t → Same 20 s t := by
  intro p s t h
  injection h with h
  subst h
  try dsimp only
  repeat' (first
    | with_reducible exact Same.rfl' _ | (with_reducible refine ((parseErrRate_same ..).mono (by decide)).after ?_))

/-! ### Cores -/

theorem setScDie_same : ∀ d x s, Same 4096 s (setScDie d x s) := by
  intro d x s
  unfold setScDie
  try dsimp only
  repeat' (first
    | with_reducible exact Same.rfl' _ | (with_reducible refine ((Same.setSvc _ _).mono (by decide)).after ?_))
theorem classFull_same : ∀ d c s, Same 20 s (classFull d c s) := by
  intro d c s
  unfold classFull
  try dsimp only
  repeat' (first
    | with_reducible exact Same.rfl' _ | (with_reducible refine ((raiseLimited_same ..).mono (by decide)).after ?_))
theorem postItem_same : ∀ d w s, Same 4148 s (postItem d w s) := by
  intro d w s
  unfold postItem
  try dsimp only
  repeat' (first
    | with_reducible exact Same.rfl' _ | (with_reducible refine Same.ite ?_ ?_) | (with_reducible refine Same.iteFst ?_ ?_)
    | (with_reducible refine ((setScDie_same ..).mono (by decide)).after ?_)
    | (with_reducible refine ((classFull_same ..).mono (by decide)).after ?_)
    | (with_reducible refine ((bump48_same ..).mono (by decide)).after ?_)
    | (with_reducible refine ((bump32_same ..).mono (by decide)).after ?_) | split
    | (with_reducible refine Same.fst (by assumption) ?_))
theorem postStream_same : ∀ n code detail s, Same 4148 s (postStream n code detail s) := by
  intro n code detail s
  unfold postStream
  try dsimp only
  repeat' (first
    | with_reducible exact Same.rfl' _ | (with_reducible refine ((postItem_same ..).mono (by decide)).after ?_))
theorem postAt_same : ∀ d due w s, Same 4148 s (postAt d due w s).1 := by
  intro d due w s
  unfold postAt
  try dsimp only
  repeat' (first
    | with_reducible exact Same.rfl' _ | (with_reducible refine Same.ite ?_ ?_) | (with_reducible refine Same.iteFst ?_ ?_)
    | (with_reducible refine ((postItem_same ..).mono (by decide)).after ?_)
    | (with_reducible refine ((setScDie_same ..).mono (by decide)).after ?_)
    | (with_reducible refine ((bump32_same ..).mono (by decide)).after ?_)
    | (with_reducible refine ((raise_same ..).mono (by decide)).after ?_) | split)
theorem advanceDelays_same : ∀ d s, Same 4128 s (advanceDelays d s) := by
  intro d s
  unfold advanceDelays
  try dsimp only
  repeat' (first
    | with_reducible exact Same.rfl' _ | (with_reducible refine Same.ite ?_ ?_) | (with_reducible refine Same.iteFst ?_ ?_)
    | (with_reducible refine ((setScDie_same ..).mono (by decide)).after ?_)
    | (with_reducible refine ((bump32_same ..).mono (by decide)).after ?_) | split)
theorem startItem_same : ∀ d k j s, Same 4128 s (startItem d k j s).1 := by
  intro d k j s
  unfold startItem
  try dsimp only
  repeat' (first
    | with_reducible exact Same.rfl' _ | (with_reducible refine Same.ite ?_ ?_) | (with_reducible refine Same.iteFst ?_ ?_)
    | (with_reducible refine ((setScDie_same ..).mono (by decide)).after ?_)
    | (with_reducible refine ((bump32_same ..).mono (by decide)).after ?_) | split
    | (with_reducible refine Same.fst (by assumption) ?_))
theorem preempt_same : ∀ d j s, Same 4128 s (preempt d j s) := by
  intro d j s
  unfold preempt
  try dsimp only
  repeat' (first
    | with_reducible exact Same.rfl' _ | (with_reducible refine ((bump32_same ..).mono (by decide)).after ?_)
    | (with_reducible refine ((setScDie_same ..).mono (by decide)).after ?_) | split
    | (with_reducible refine Same.fst (by assumption) ?_))
theorem dispatch_same : ∀ d s, Same 4128 s (dispatch d s).1 := by
  intro d s
  unfold dispatch
  try dsimp only
  repeat' (first
    | with_reducible exact Same.rfl' _ | (with_reducible refine ((startItem_same ..).mono (by decide)).after ?_)
    | (with_reducible refine ((preempt_same ..).mono (by decide)).after ?_) | split
    | (with_reducible refine Same.fst (by assumption) ?_))
theorem itemEnd_same : ∀ core cycles s, Same 4096 s (itemEnd core cycles s) := by
  intro core cycles s
  unfold itemEnd
  try dsimp only
  repeat' (first
    | with_reducible exact Same.rfl' _ | (with_reducible refine ((setScDie_same ..).mono (by decide)).after ?_) | split
    | (with_reducible refine Same.fst (by assumption) ?_))
theorem itemAged_same : ∀ d s, Same 4148 s (itemAged d s) := by
  intro d s
  unfold itemAged
  try dsimp only
  repeat' (first
    | with_reducible exact Same.rfl' _ | (with_reducible refine Same.ite ?_ ?_) | (with_reducible refine Same.iteFst ?_ ?_)
    | (with_reducible refine ((setScDie_same ..).mono (by decide)).after ?_)
    | (with_reducible refine ((raiseLimited_same ..).mono (by decide)).after ?_)
    | (with_reducible refine ((bump32_same ..).mono (by decide)).after ?_) | split
    | (with_reducible refine Same.fst (by assumption) ?_))
theorem restartCore_same : ∀ core cause s, Same 4144 s (restartCore core cause s) := by
  intro core cause s
  unfold restartCore
  try dsimp only
  repeat' (first
    | with_reducible exact Same.rfl' _ | (with_reducible refine ((raise_same ..).mono (by decide)).after ?_)
    | (with_reducible refine ((bump32_same ..).mono (by decide)).after ?_)
    | (with_reducible refine ((setScDie_same ..).mono (by decide)).after ?_) | split
    | (with_reducible refine Same.fst (by assumption) ?_))
theorem closeLoads_same : ∀ d s, Same 4096 s (closeLoads d s) := by
  intro d s
  unfold closeLoads
  try dsimp only
  repeat' (first
    | with_reducible exact Same.rfl' _ | (with_reducible refine ((setScDie_same ..).mono (by decide)).after ?_))
theorem execScItemEnd_same : ∀ core cycles s t, execScItemEnd core cycles s = .next t → Same 4096 s t := by
  intro core cycles s t h
  injection h with h
  subst h
  try dsimp only
  repeat' (first
    | with_reducible exact Same.rfl' _ | (with_reducible refine ((itemEnd_same ..).mono (by decide)).after ?_))
theorem execScItemAged_same : ∀ d s t, execScItemAged d s = .next t → Same 4148 s t := by
  intro d s t h
  injection h with h
  subst h
  try dsimp only
  repeat' (first
    | with_reducible exact Same.rfl' _ | (with_reducible refine ((itemAged_same ..).mono (by decide)).after ?_))

/-! ### Fwd -/

theorem setFwd_same : ∀ p x s, Same 2048 s (setFwd p x s) := by
  intro p x s
  unfold setFwd
  try dsimp only
  repeat' (first
    | with_reducible exact Same.rfl' _ | (with_reducible refine ((Same.setPath _ _).mono (by decide)).after ?_))
theorem rehashNeeded_same : ∀ p table s, Same 20 s (rehashNeeded p table s) := by
  intro p table s
  unfold rehashNeeded
  try dsimp only
  repeat' (first
    | with_reducible exact Same.rfl' _ | (with_reducible refine ((raiseLimited_same ..).mono (by decide)).after ?_))
theorem l2Put_same : ∀ p e s, Same 2068 s (l2Put p e s).1 := by
  intro p e s
  unfold l2Put
  try dsimp only
  repeat' (first
    | with_reducible exact Same.rfl' _ | (with_reducible refine ((setFwd_same ..).mono (by decide)).after ?_)
    | (with_reducible refine ((rehashNeeded_same ..).mono (by decide)).after ?_) | split
    | (with_reducible refine Same.fst (by assumption) ?_))
theorem l3Put_same : ∀ p e s, Same 2068 s (l3Put p e s).1 := by
  intro p e s
  unfold l3Put
  try dsimp only
  repeat' (first
    | with_reducible exact Same.rfl' _ | (with_reducible refine ((setFwd_same ..).mono (by decide)).after ?_)
    | (with_reducible refine ((rehashNeeded_same ..).mono (by decide)).after ?_) | split
    | (with_reducible refine Same.fst (by assumption) ?_))
theorem acceptTable_same : ∀ op table m items r s, Same 2064 s (acceptTable op table m items r s).1 := by
  intro op table m items r s
  unfold acceptTable
  try dsimp only
  repeat' (first
    | with_reducible exact Same.rfl' _
    | (with_reducible refine ((accepted_same (w := 2064) _ _ _ _ (by decide) (fun _ _ => ?_) _).mono (by decide)).after ?_)
    | (with_reducible refine ((Same.setPath _ _).mono (by decide)).after ?_))
theorem tableCommand_same : ∀ op r s, Same 2064 s (tableCommand op r s).1 := by
  intro op r s
  unfold tableCommand
  try dsimp only
  repeat' (first
    | with_reducible exact Same.rfl' _ | (with_reducible refine Same.ite ?_ ?_) | (with_reducible refine Same.iteFst ?_ ?_)
    | (with_reducible refine ((acceptTable_same ..).mono (by decide)).after ?_) | split
    | (with_reducible refine Same.fst (by assumption) ?_))
theorem bodyTableWrite_same : ∀ x x2, Same 2064 x2 (bodyTableWrite x x2).1 := by
  intro x x2
  unfold bodyTableWrite
  try dsimp only
  repeat' (first
    | with_reducible exact Same.rfl' _ | (with_reducible refine ((tableCommand_same ..).mono (by decide)).after ?_))
theorem bodyTableDelete_same : ∀ x x2, Same 2064 x2 (bodyTableDelete x x2).1 := by
  intro x x2
  unfold bodyTableDelete
  try dsimp only
  repeat' (first
    | with_reducible exact Same.rfl' _ | (with_reducible refine ((tableCommand_same ..).mono (by decide)).after ?_))
theorem bodyL2Flush_same : ∀ r s, Same 2064 s (bodyL2Flush r s).1 := by
  intro r s
  unfold bodyL2Flush
  try dsimp only
  repeat' (first
    | with_reducible exact Same.rfl' _ | (with_reducible refine Same.ite ?_ ?_) | (with_reducible refine Same.iteFst ?_ ?_)
    | (with_reducible refine ((acceptTable_same ..).mono (by decide)).after ?_) | split
    | (with_reducible refine Same.fst (by assumption) ?_))
theorem bodyRehash_same : ∀ r s, Same 6198 s (bodyRehash r s).1 := by
  intro r s
  unfold bodyRehash
  try dsimp only
  repeat' (first
    | with_reducible exact Same.rfl' _ | (with_reducible refine Same.ite ?_ ?_) | (with_reducible refine Same.iteFst ?_ ?_)
    | (with_reducible refine ((accepted_same (w := 6198) _ _ _ _ (by decide) (fun _ _ => ?_) _).mono (by decide)).after ?_)
    | (with_reducible refine ((drawn_same ..).mono (by decide)).after ?_)
    | (with_reducible refine ((postItem_same ..).mono (by decide)).after ?_)
    | (with_reducible refine ((setFwd_same ..).mono (by decide)).after ?_)
    | (with_reducible refine (Same.foldl (fun _ _ => ?_) _ _).after ?_)
    | (with_reducible refine (Same.foldlFst (fun _ _ => ?_) _ _).after ?_) | split
    | (with_reducible refine Same.fst (by assumption) ?_))
theorem bodyTableRead_same : ∀ r s, Same 0 s (bodyTableRead r s).1 := by
  intro r s
  unfold bodyTableRead
  try dsimp only
  repeat' (first
    | with_reducible exact Same.rfl' _ | (with_reducible refine Same.ite ?_ ?_) | (with_reducible refine Same.iteFst ?_ ?_)
    | split | (with_reducible refine Same.fst (by assumption) ?_))
theorem applyWrite_same : ∀ p table b s, Same 2068 s (applyWrite p table b s).1 := by
  intro p table b s
  unfold applyWrite
  try dsimp only
  repeat' (first
    | with_reducible exact Same.rfl' _ | (with_reducible refine Same.ite ?_ ?_) | (with_reducible refine Same.iteFst ?_ ?_)
    | (with_reducible refine ((l2Put_same ..).mono (by decide)).after ?_)
    | (with_reducible refine ((l3Put_same ..).mono (by decide)).after ?_)
    | (with_reducible refine ((setFwd_same ..).mono (by decide)).after ?_)
    | (with_reducible refine ((Same.setPath _ _).mono (by decide)).after ?_) | split
    | (with_reducible refine Same.fst (by assumption) ?_))
theorem applyDelete_same : ∀ p table b s, Same 2048 s (applyDelete p table b s) := by
  intro p table b s
  unfold applyDelete
  try dsimp only
  repeat' (first
    | with_reducible exact Same.rfl' _ | (with_reducible refine Same.ite ?_ ?_) | (with_reducible refine Same.iteFst ?_ ?_)
    | (with_reducible refine ((setFwd_same ..).mono (by decide)).after ?_)
    | (with_reducible refine ((Same.setPath _ _).mono (by decide)).after ?_) | split
    | (with_reducible refine Same.fst (by assumption) ?_))
theorem applyOp_same : ∀ p o budget s, Same 2068 s (applyOp p o budget s).1 := by
  intro p o budget s
  unfold applyOp
  try dsimp only
  repeat' (first
    | with_reducible exact Same.rfl' _ | (with_reducible refine Same.ite ?_ ?_) | (with_reducible refine Same.iteFst ?_ ?_)
    | (with_reducible refine ((setFwd_same ..).mono (by decide)).after ?_)
    | (with_reducible refine ((applyDelete_same ..).mono (by decide)).after ?_)
    | (with_reducible refine ((applyWrite_same ..).mono (by decide)).after ?_)
    | (with_reducible refine (Same.foldl (fun _ _ => ?_) _ _).after ?_)
    | (with_reducible refine (Same.foldlFst (fun _ _ => ?_) _ _).after ?_) | split
    | (with_reducible refine Same.fst (by assumption) ?_))
theorem hostWrites_same : ∀ p s, Same 2068 s (hostWrites p s).1 := by
  intro p s
  unfold hostWrites
  try dsimp only
  repeat' (first
    | with_reducible exact Same.rfl' _ | (with_reducible refine Same.ite ?_ ?_) | (with_reducible refine Same.iteFst ?_ ?_)
    | (with_reducible refine ((applyOp_same ..).mono (by decide)).after ?_)
    | (with_reducible refine ((Same.setPath _ _).mono (by decide)).after ?_)
    | (with_reducible refine (Same.foldl (fun _ _ => ?_) _ _).after ?_)
    | (with_reducible refine (Same.foldlFst (fun _ _ => ?_) _ _).after ?_) | split
    | (with_reducible refine Same.fst (by assumption) ?_))
theorem tableOpDone_same : ∀ s, Same 2064 s (tableOpDone s) := by
  intro s
  unfold tableOpDone
  try dsimp only
  repeat' (first
    | with_reducible exact Same.rfl' _ | (with_reducible refine Same.ite ?_ ?_) | (with_reducible refine Same.iteFst ?_ ?_)
    | (with_reducible refine ((complete_same ..).mono (by decide)).after ?_)
    | (with_reducible refine ((Same.setPath _ _).mono (by decide)).after ?_) | split
    | (with_reducible refine Same.fst (by assumption) ?_))
theorem learnOne_same : ∀ p l own s, Same 2100 s (learnOne p l own s).1 := by
  intro p l own s
  unfold learnOne
  try dsimp only
  repeat' (first
    | with_reducible exact Same.rfl' _ | (with_reducible refine Same.ite ?_ ?_) | (with_reducible refine Same.iteFst ?_ ?_)
    | (with_reducible refine ((l2Put_same ..).mono (by decide)).after ?_)
    | (with_reducible refine ((bump48_same ..).mono (by decide)).after ?_)
    | (with_reducible refine ((raiseLimited_same ..).mono (by decide)).after ?_) | split
    | (with_reducible refine Same.fst (by assumption) ?_))
theorem ownLearns_same : ∀ p share s, Same 6196 s (ownLearns p share s).1 := by
  intro p share s
  unfold ownLearns
  try dsimp only
  repeat' (first
    | with_reducible exact Same.rfl' _ | (with_reducible refine Same.ite ?_ ?_) | (with_reducible refine Same.iteFst ?_ ?_)
    | (with_reducible refine ((setFwd_same ..).mono (by decide)).after ?_)
    | (with_reducible refine ((learnOne_same ..).mono (by decide)).after ?_)
    | (with_reducible refine ((bump48_same ..).mono (by decide)).after ?_)
    | (with_reducible refine ((postItem_same ..).mono (by decide)).after ?_)
    | (with_reducible refine (Same.foldl (fun _ _ => ?_) _ _).after ?_)
    | (with_reducible refine (Same.foldlFst (fun _ _ => ?_) _ _).after ?_) | split
    | (with_reducible refine Same.fst (by assumption) ?_))
theorem syncLearns_same : ∀ p share s, Same 2100 s (syncLearns p share s).1 := by
  intro p share s
  unfold syncLearns
  try dsimp only
  repeat' (first
    | with_reducible exact Same.rfl' _ | (with_reducible refine Same.ite ?_ ?_) | (with_reducible refine Same.iteFst ?_ ?_)
    | (with_reducible refine ((learnOne_same ..).mono (by decide)).after ?_)
    | (with_reducible refine ((setFwd_same ..).mono (by decide)).after ?_)
    | (with_reducible refine (Same.foldl (fun _ _ => ?_) _ _).after ?_)
    | (with_reducible refine (Same.foldlFst (fun _ _ => ?_) _ _).after ?_) | split
    | (with_reducible refine Same.fst (by assumption) ?_))
theorem learnSync_same : ∀ p l s, Same 2048 s (learnSync p l s) := by
  intro p l s
  unfold learnSync
  try dsimp only
  repeat' (first
    | with_reducible exact Same.rfl' _ | (with_reducible refine Same.ite ?_ ?_) | (with_reducible refine Same.iteFst ?_ ?_)
    | (with_reducible refine ((setFwd_same ..).mono (by decide)).after ?_)
    | (with_reducible refine (Same.foldl (fun _ _ => ?_) _ _).after ?_)
    | (with_reducible refine (Same.foldlFst (fun _ _ => ?_) _ _).after ?_) | split)
theorem rehashTick_same : ∀ p share s, Same 2048 s (rehashTick p share s) := by
  intro p share s
  unfold rehashTick
  try dsimp only
  repeat' (first
    | with_reducible exact Same.rfl' _ | (with_reducible refine Same.ite ?_ ?_) | (with_reducible refine Same.iteFst ?_ ?_)
    | (with_reducible refine ((setFwd_same ..).mono (by decide)).after ?_) | split
    | (with_reducible refine Same.fst (by assumption) ?_))
theorem rehashStart_same : ∀ p table s, Same 2048 s (rehashStart p table s) := by
  intro p table s
  unfold rehashStart
  try dsimp only
  repeat' (first
    | with_reducible exact Same.rfl' _ | (with_reducible refine Same.ite ?_ ?_) | (with_reducible refine Same.iteFst ?_ ?_)
    | (with_reducible refine ((setFwd_same ..).mono (by decide)).after ?_)
    | (with_reducible refine (Same.foldl (fun _ _ => ?_) _ _).after ?_)
    | (with_reducible refine (Same.foldlFst (fun _ _ => ?_) _ _).after ?_) | split)
theorem rehashDone_same : ∀ p s, Same 2064 s (rehashDone p s) := by
  intro p s
  unfold rehashDone
  try dsimp only
  repeat' (first
    | with_reducible exact Same.rfl' _ | (with_reducible refine Same.ite ?_ ?_) | (with_reducible refine Same.iteFst ?_ ?_)
    | (with_reducible refine ((setFwd_same ..).mono (by decide)).after ?_)
    | (with_reducible refine ((raise_same ..).mono (by decide)).after ?_)
    | (with_reducible refine ((complete_same ..).mono (by decide)).after ?_)
    | (with_reducible refine (Same.foldl (fun _ _ => ?_) _ _).after ?_)
    | (with_reducible refine (Same.foldlFst (fun _ _ => ?_) _ _).after ?_) | split
    | (with_reducible refine Same.fst (by assumption) ?_))
theorem fwdMaintTick_same : ∀ p s, Same 6196 s (fwdMaintTick p s) := by
  intro p s
  unfold fwdMaintTick
  try dsimp only
  repeat' (first
    | with_reducible exact Same.rfl' _ | (with_reducible refine Same.ite ?_ ?_) | (with_reducible refine Same.iteFst ?_ ?_)
    | (with_reducible refine ((hostWrites_same ..).mono (by decide)).after ?_)
    | (with_reducible refine ((setFwd_same ..).mono (by decide)).after ?_)
    | (with_reducible refine ((ownLearns_same ..).mono (by decide)).after ?_)
    | (with_reducible refine ((syncLearns_same ..).mono (by decide)).after ?_)
    | (with_reducible refine ((rehashTick_same ..).mono (by decide)).after ?_) | split
    | (with_reducible refine Same.fst (by assumption) ?_))
theorem execTableWrite_same : ∀ r s t, execTableWrite r s = .next t → Same 526386 s t := by
  intro r s t h
  injection h with h
  subst h
  try dsimp only
  repeat' (first
    | with_reducible exact Same.rfl' _
    | (with_reducible refine (runToune_same _ _ (by decide) (fun r s => (bodyTableWrite_same r s).mono (by decide)) _ _).after ?_)
    | (with_reducible refine ((bodyTableWrite_same ..).mono (by decide)).after ?_))
theorem execTableDelete_same : ∀ r s t, execTableDelete r s = .next t → Same 526386 s t := by
  intro r s t h
  injection h with h
  subst h
  try dsimp only
  repeat' (first
    | with_reducible exact Same.rfl' _
    | (with_reducible refine (runToune_same _ _ (by decide) (fun r s => (bodyTableDelete_same r s).mono (by decide)) _ _).after ?_)
    | (with_reducible refine ((bodyTableDelete_same ..).mono (by decide)).after ?_))
theorem execTableRead_same : ∀ r s t, execTableRead r s = .next t → Same 526386 s t := by
  intro r s t h
  injection h with h
  subst h
  try dsimp only
  repeat' (first
    | with_reducible exact Same.rfl' _
    | (with_reducible refine (runToune_same _ _ (by decide) (fun r s => (bodyTableRead_same r s).mono (by decide)) _ _).after ?_)
    | (with_reducible refine ((bodyTableRead_same ..).mono (by decide)).after ?_))
theorem execL2Flush_same : ∀ r s t, execL2Flush r s = .next t → Same 526386 s t := by
  intro r s t h
  injection h with h
  subst h
  try dsimp only
  repeat' (first
    | with_reducible exact Same.rfl' _
    | (with_reducible refine (runToune_same _ _ (by decide) (fun r s => (bodyL2Flush_same r s).mono (by decide)) _ _).after ?_)
    | (with_reducible refine ((bodyL2Flush_same ..).mono (by decide)).after ?_))
theorem execRehash_same : ∀ r s t, execRehash r s = .next t → Same 530486 s t := by
  intro r s t h
  injection h with h
  subst h
  try dsimp only
  repeat' (first
    | with_reducible exact Same.rfl' _
    | (with_reducible refine (runToune_same _ _ (by decide) (fun r s => (bodyRehash_same r s).mono (by decide)) _ _).after ?_)
    | (with_reducible refine ((bodyRehash_same ..).mono (by decide)).after ?_))
theorem execTableOpDone_same : ∀ s t, execTableOpDone s = .next t → Same 2064 s t := by
  intro s t h
  injection h with h
  subst h
  try dsimp only
  repeat' (first
    | with_reducible exact Same.rfl' _ | (with_reducible refine ((tableOpDone_same ..).mono (by decide)).after ?_))
theorem execFwdMaintTick_same : ∀ p s t, execFwdMaintTick p s = .next t → Same 6196 s t := by
  intro p s t h
  injection h with h
  subst h
  try dsimp only
  repeat' (first
    | with_reducible exact Same.rfl' _ | (with_reducible refine ((fwdMaintTick_same ..).mono (by decide)).after ?_))
theorem execRehashDone_same : ∀ p s t, execRehashDone p s = .next t → Same 2064 s t := by
  intro p s t h
  injection h with h
  subst h
  try dsimp only
  repeat' (first
    | with_reducible exact Same.rfl' _ | (with_reducible refine ((rehashDone_same ..).mono (by decide)).after ?_))

end Sys2Proof.Machine
end

