-- ==== Sys2Proof/Laws/SamePorts.lean ====
section
/-! SUPPORT. What the ports, the journal and the switch core leave unchanged: the footprint of each operation. -/

namespace Sys2Proof.Machine

/-! ### Records -/

theorem setSl_same : ∀ n x s, Same 262144 s (setSl n x s) := by
  intro n x s
  unfold setSl
  try dsimp only
  repeat' (first
    | with_reducible exact Same.rfl' _ | (with_reducible refine ((Same.setFlow _ _).mono (by decide)).after ?_))
theorem modSl_same : ∀ n f s, Same 262144 s (modSl n f s) := by
  intro n f s
  unfold modSl
  try dsimp only
  repeat' (first
    | with_reducible exact Same.rfl' _ | (with_reducible refine ((setSl_same ..).mono (by decide)).after ?_))
theorem countEvent_same : ∀ inst counters code k s, Same 32 s (countEvent inst counters code k s) := by
  intro inst counters code k s
  unfold countEvent
  try dsimp only
  repeat' (first
    | with_reducible exact Same.rfl' _ | (with_reducible refine Same.ite ?_ ?_) | (with_reducible refine Same.iteFst ?_ ?_)
    | ((with_reducible refine ((Same.setPrm _ _ ?_).mono (by decide)).after ?_); rfl)
    | (with_reducible refine (Same.foldl (fun _ _ => ?_) _ _).after ?_)
    | (with_reducible refine (Same.foldlFst (fun _ _ => ?_) _ _).after ?_) | split)
theorem slEvent_same : ∀ n code k s, Same 32 s (slEvent n code k s) := by
  intro n code k s
  unfold slEvent
  try dsimp only
  repeat' (first
    | with_reducible exact Same.rfl' _ | (with_reducible refine ((countEvent_same ..).mono (by decide)).after ?_))
theorem pipeEvent_same : ∀ p code k s, Same 32 s (pipeEvent p code k s) := by
  intro p code k s
  unfold pipeEvent
  try dsimp only
  repeat' (first
    | with_reducible exact Same.rfl' _ | (with_reducible refine ((countEvent_same ..).mono (by decide)).after ?_))
theorem slCount_same : ∀ n w k s, Same 32 s (slCount n w k s) := by
  intro n w k s
  unfold slCount
  try dsimp only
  repeat' (first
    | with_reducible exact Same.rfl' _ | (with_reducible refine ((bump32_same ..).mono (by decide)).after ?_))

/-! ### Pair -/

theorem setHalf_same : ∀ h x s, Same 131072 s (setHalf h x s) := by
  intro h x s
  unfold setHalf
  try dsimp only
  repeat' (first
    | with_reducible exact Same.rfl' _ | (with_reducible refine ((Same.setTwin _ _).mono (by decide)).after ?_))
theorem linkSend_same : ∀ h kind payload s, Same 131072 s (linkSend h kind payload s) := by
  intro h kind payload s
  unfold linkSend
  try dsimp only
  repeat' (first
    | with_reducible exact Same.rfl' _ | (with_reducible refine ((setHalf_same ..).mono (by decide)).after ?_))
theorem linkControl_same : ∀ h payload s, Same 131072 s (linkControl h payload s) := by
  intro h payload s
  unfold linkControl
  try dsimp only
  repeat' (first
    | with_reducible exact Same.rfl' _ | (with_reducible refine ((setHalf_same ..).mono (by decide)).after ?_))
theorem dieSend_same : ∀ d kind payload s, Same 131072 s (dieSend d kind payload s) := by
  intro d kind payload s
  unfold dieSend
  try dsimp only
  repeat' (first
    | with_reducible exact Same.rfl' _ | (with_reducible refine ((linkSend_same ..).mono (by decide)).after ?_) | split
    | (with_reducible refine Same.fst (by assumption) ?_))
theorem twinControl_same : ∀ type b s, Same 131072 s (twinControl type b s) := by
  intro type b s
  unfold twinControl
  try dsimp only
  repeat' (first
    | with_reducible exact Same.rfl' _ | (with_reducible refine ((linkControl_same ..).mono (by decide)).after ?_)
    | (with_reducible refine (Same.foldl (fun _ _ => ?_) _ _).after ?_)
    | (with_reducible refine (Same.foldlFst (fun _ _ => ?_) _ _).after ?_) | split
    | (with_reducible refine Same.fst (by assumption) ?_))
theorem setLag_same : ∀ d x s, Same 131072 s (setLag d x s) := by
  intro d x s
  unfold setLag
  try dsimp only
  repeat' (first
    | with_reducible exact Same.rfl' _ | (with_reducible refine ((Same.setTwin _ _).mono (by decide)).after ?_))
theorem startRejoin_same : ∀ s, Same 131072 s (startRejoin s) := by
  intro s
  unfold startRejoin
  try dsimp only
  repeat' (first
    | with_reducible exact Same.rfl' _ | (with_reducible refine ((Same.setTwin _ _).mono (by decide)).after ?_))
theorem lagOverflow_same : ∀ d s, Same 131120 s (lagOverflow d s) := by
  intro d s
  unfold lagOverflow
  try dsimp only
  repeat' (first
    | with_reducible exact Same.rfl' _ | (with_reducible refine Same.ite ?_ ?_) | (with_reducible refine Same.iteFst ?_ ?_)
    | (with_reducible refine ((bump32_same ..).mono (by decide)).after ?_)
    | (with_reducible refine ((raise_same ..).mono (by decide)).after ?_)
    | (with_reducible refine ((Same.setTwin _ _).mono (by decide)).after ?_)
    | (with_reducible refine ((startRejoin_same ..).mono (by decide)).after ?_) | split)
theorem enterDelta_same : ∀ x s, Same 131120 s (enterDelta x s) := by
  intro x s
  unfold enterDelta
  try dsimp only
  repeat' (first
    | with_reducible exact Same.rfl' _ | (with_reducible refine Same.ite ?_ ?_) | (with_reducible refine Same.iteFst ?_ ?_)
    | (with_reducible refine ((setLag_same ..).mono (by decide)).after ?_)
    | (with_reducible refine ((lagOverflow_same ..).mono (by decide)).after ?_) | split)
theorem emitDelta_same : ∀ n d old new s, Same 131120 s (emitDelta n d old new s) := by
  intro n d old new s
  unfold emitDelta
  try dsimp only
  repeat' (first
    | with_reducible exact Same.rfl' _ | (with_reducible refine Same.ite ?_ ?_) | (with_reducible refine Same.iteFst ?_ ?_)
    | (with_reducible refine ((slEvent_same ..).mono (by decide)).after ?_)
    | (with_reducible refine ((enterDelta_same ..).mono (by decide)).after ?_) | split
    | (with_reducible refine Same.fst (by assumption) ?_))
theorem markFollow_same : ∀ n d old new s, Same 131104 s (markFollow n d old new s) := by
  intro n d old new s
  unfold markFollow
  try dsimp only
  repeat' (first
    | with_reducible exact Same.rfl' _ | (with_reducible refine Same.ite ?_ ?_) | (with_reducible refine Same.iteFst ?_ ?_)
    | (with_reducible refine ((Same.setTwin _ _).mono (by decide)).after ?_)
    | (with_reducible refine ((bump32_same ..).mono (by decide)).after ?_) | split)

/-! ### Clock -/


/-! ### Shares -/

theorem useRec_same : ∀ n k c s, Same 262144 s (useRec n k c s) := by
  intro n k c s
  unfold useRec
  try dsimp only
  repeat' (first
    | with_reducible exact Same.rfl' _ | (with_reducible refine ((modSl_same ..).mono (by decide)).after ?_))
theorem useSvc_same : ∀ n k c s, Same 262144 s (useSvc n k c s) := by
  intro n k c s
  unfold useSvc
  try dsimp only
  repeat' (first
    | with_reducible exact Same.rfl' _ | (with_reducible refine ((modSl_same ..).mono (by decide)).after ?_))
theorem useBack_same : ∀ n k c s, Same 262176 s (useBack n k c s) := by
  intro n k c s
  unfold useBack
  try dsimp only
  repeat' (first
    | with_reducible exact Same.rfl' _ | (with_reducible refine ((slEvent_same ..).mono (by decide)).after ?_)
    | (with_reducible refine ((useRec_same ..).mono (by decide)).after ?_))
theorem useCycle_same : ∀ n i s, Same 262144 s (useCycle n i s) := by
  intro n i s
  unfold useCycle
  try dsimp only
  repeat' (first
    | with_reducible exact Same.rfl' _ | (with_reducible refine ((modSl_same ..).mono (by decide)).after ?_))
theorem setChan_same : ∀ n u s, Same 32768 s (setChan n u s) := by
  intro n u s
  unfold setChan
  try dsimp only
  repeat' (first
    | with_reducible exact Same.rfl' _ | (with_reducible refine ((Same.setJnl _ _).mono (by decide)).after ?_))
theorem useTurf_same : ∀ n c s, Same 32768 s (useTurf n c s) := by
  intro n c s
  unfold useTurf
  try dsimp only
  repeat' (first
    | with_reducible exact Same.rfl' _ | (with_reducible refine ((setChan_same ..).mono (by decide)).after ?_))
theorem useJnl_same : ∀ n s, Same 32768 s (useJnl n s) := by
  intro n s
  unfold useJnl
  try dsimp only
  repeat' (first
    | with_reducible exact Same.rfl' _ | (with_reducible refine ((setChan_same ..).mono (by decide)).after ?_))
theorem useCap_same : ∀ n s, Same 32768 s (useCap n s) := by
  intro n s
  unfold useCap
  try dsimp only
  repeat' (first
    | with_reducible exact Same.rfl' _ | (with_reducible refine ((setChan_same ..).mono (by decide)).after ?_))
theorem useExp_same : ∀ n s, Same 32768 s (useExp n s) := by
  intro n s
  unfold useExp
  try dsimp only
  repeat' (first
    | with_reducible exact Same.rfl' _ | (with_reducible refine ((setChan_same ..).mono (by decide)).after ?_))
theorem reloadChans_same : ∀ s, Same 32768 s (reloadChans s) := by
  intro s
  unfold reloadChans
  try dsimp only
  repeat' (first
    | with_reducible exact Same.rfl' _ | (with_reducible refine ((Same.setJnl _ _).mono (by decide)).after ?_))
theorem useLink_same : ∀ c s, Same 131072 s (useLink c s) := by
  intro c s
  unfold useLink
  try dsimp only
  repeat' (first
    | with_reducible exact Same.rfl' _ | (with_reducible refine ((Same.setTwin _ _).mono (by decide)).after ?_))
theorem reloadLink_same : ∀ s, Same 131072 s (reloadLink s) := by
  intro s
  unfold reloadLink
  try dsimp only
  repeat' (first
    | with_reducible exact Same.rfl' _ | (with_reducible refine ((Same.setTwin _ _).mono (by decide)).after ?_))

/-! ### Journal -/

theorem setRing_same : ∀ i x s, Same 32768 s (setRing i x s) := by
  intro i x s
  unfold setRing
  try dsimp only
  repeat' (first
    | with_reducible exact Same.rfl' _ | (with_reducible refine ((Same.setJnl _ _).mono (by decide)).after ?_))
theorem fillCheck_same : ∀ i s, Same 32784 s (fillCheck i s) := by
  intro i s
  unfold fillCheck
  try dsimp only
  repeat' (first
    | with_reducible exact Same.rfl' _ | (with_reducible refine Same.ite ?_ ?_) | (with_reducible refine Same.iteFst ?_ ?_)
    | (with_reducible refine ((setRing_same ..).mono (by decide)).after ?_)
    | (with_reducible refine ((raise_same ..).mono (by decide)).after ?_) | split)
theorem ringFull_same : ∀ i s, Same 32784 s (ringFull i s) := by
  intro i s
  unfold ringFull
  try dsimp only
  repeat' (first
    | with_reducible exact Same.rfl' _ | (with_reducible refine Same.ite ?_ ?_) | (with_reducible refine Same.iteFst ?_ ?_)
    | (with_reducible refine ((setRing_same ..).mono (by decide)).after ?_)
    | (with_reducible refine ((raise_same ..).mono (by decide)).after ?_) | split)
theorem ringPut_same : ∀ i n b s, Same 32800 s (ringPut i n b s) := by
  intro i n b s
  unfold ringPut
  try dsimp only
  repeat' (first
    | with_reducible exact Same.rfl' _ | (with_reducible refine Same.ite ?_ ?_) | (with_reducible refine Same.iteFst ?_ ?_)
    | (with_reducible refine ((setRing_same ..).mono (by decide)).after ?_)
    | (with_reducible refine ((bump32_same ..).mono (by decide)).after ?_) | split)
theorem oweGap_same : ∀ i n s, Same 32800 s (oweGap i n s) := by
  intro i n s
  unfold oweGap
  try dsimp only
  repeat' (first
    | with_reducible exact Same.rfl' _ | (with_reducible refine ((bump32_same ..).mono (by decide)).after ?_)
    | (with_reducible refine ((setRing_same ..).mono (by decide)).after ?_))
theorem ringLose_same : ∀ i n s, Same 32816 s (ringLose i n s) := by
  intro i n s
  unfold ringLose
  try dsimp only
  repeat' (first
    | with_reducible exact Same.rfl' _ | (with_reducible refine ((ringFull_same ..).mono (by decide)).after ?_)
    | (with_reducible refine ((oweGap_same ..).mono (by decide)).after ?_))
theorem ringRoom_same : ∀ i n s, Same 32800 s (ringRoom i n s).1 := by
  intro i n s
  unfold ringRoom
  try dsimp only
  repeat' (first
    | with_reducible exact Same.rfl' _ | (with_reducible refine Same.ite ?_ ?_) | (with_reducible refine Same.iteFst ?_ ?_)
    | (with_reducible refine ((setRing_same ..).mono (by decide)).after ?_)
    | (with_reducible refine ((bump32_same ..).mono (by decide)).after ?_) | split
    | (with_reducible refine Same.fst (by assumption) ?_))
theorem journal_same : ∀ n kept item s, Same 32800 s (journal n kept item s) := by
  intro n kept item s
  unfold journal
  try dsimp only
  repeat' (first
    | with_reducible exact Same.rfl' _ | (with_reducible refine Same.ite ?_ ?_) | (with_reducible refine Same.iteFst ?_ ?_)
    | (with_reducible refine ((Same.setJnl _ _).mono (by decide)).after ?_)
    | (with_reducible refine ((oweGap_same ..).mono (by decide)).after ?_) | split)
theorem journalItem_same : ∀ n s, Same 32816 s (journalItem n s) := by
  intro n s
  unfold journalItem
  try dsimp only
  repeat' (first
    | with_reducible exact Same.rfl' _ | (with_reducible refine Same.ite ?_ ?_) | (with_reducible refine Same.iteFst ?_ ?_)
    | (with_reducible refine ((Same.setJnl _ _).mono (by decide)).after ?_)
    | (with_reducible refine ((ringRoom_same ..).mono (by decide)).after ?_)
    | (with_reducible refine ((ringLose_same ..).mono (by decide)).after ?_)
    | (with_reducible refine ((ringPut_same ..).mono (by decide)).after ?_)
    | (with_reducible refine ((setRing_same ..).mono (by decide)).after ?_)
    | (with_reducible refine ((fillCheck_same ..).mono (by decide)).after ?_) | split
    | (with_reducible refine Same.fst (by assumption) ?_))
theorem journalBlock_same : ∀ s, Same 32816 s (journalBlock s) := by
  intro s
  unfold journalBlock
  try dsimp only
  repeat' (first
    | with_reducible exact Same.rfl' _ | (with_reducible refine Same.ite ?_ ?_) | (with_reducible refine Same.iteFst ?_ ?_)
    | (with_reducible refine ((journalItem_same ..).mono (by decide)).after ?_) | split
    | (with_reducible refine Same.fst (by assumption) ?_))
theorem chargeBlocks_same {w : Nat} (use : Nat → State → State) (i : Nat) (a b : Dword) (hu : ∀ c s, Same w s (use c s))
    (s : State) :
    Same w s (chargeBlocks use i a b s) := by
  unfold chargeBlocks
  refine Same.foldl (fun _ _ => ?_) _ _
  split
  · exact Same.ite (hu ..) (Same.rfl' _)
  · exact Same.rfl' _
theorem jnlBlockWrite_same : ∀ s, Same 32816 s (jnlBlockWrite s) := by
  intro s
  unfold jnlBlockWrite
  try dsimp only
  repeat' (first
    | with_reducible exact Same.rfl' _ | (with_reducible refine Same.ite ?_ ?_) | (with_reducible refine Same.iteFst ?_ ?_)
    | (with_reducible refine ((journalBlock_same ..).mono (by decide)).after ?_)
    | (with_reducible refine (chargeBlocks_same (w := 32816) _ _ _ _ (fun _ _ => ?_) _).after ?_)
    | (with_reducible refine ((useJnl_same ..).mono (by decide)).after ?_) | split
    | (with_reducible refine Same.fst (by assumption) ?_))
theorem capture_same : ∀ die x s, Same 32820 s (capture die x s) := by
  intro die x s
  unfold capture
  try dsimp only
  repeat' (first
    | with_reducible exact Same.rfl' _ | (with_reducible refine Same.ite ?_ ?_) | (with_reducible refine Same.iteFst ?_ ?_)
    | (with_reducible refine ((setRing_same ..).mono (by decide)).after ?_)
    | (with_reducible refine ((Same.setJnl _ _).mono (by decide)).after ?_)
    | (with_reducible refine ((raiseLimited_same ..).mono (by decide)).after ?_)
    | (with_reducible refine ((bump32_same ..).mono (by decide)).after ?_)
    | (with_reducible refine (Same.foldl (fun _ _ => ?_) _ _).after ?_)
    | (with_reducible refine (Same.foldlFst (fun _ _ => ?_) _ _).after ?_) | split)
theorem captureNext_same : ∀ die s, Same 32816 s (captureNext die s) := by
  intro die s
  unfold captureNext
  try dsimp only
  repeat' (first
    | with_reducible exact Same.rfl' _ | (with_reducible refine Same.ite ?_ ?_) | (with_reducible refine Same.iteFst ?_ ?_)
    | (with_reducible refine ((Same.setJnl _ _).mono (by decide)).after ?_)
    | (with_reducible refine ((ringRoom_same ..).mono (by decide)).after ?_)
    | (with_reducible refine ((ringLose_same ..).mono (by decide)).after ?_)
    | (with_reducible refine ((ringPut_same ..).mono (by decide)).after ?_)
    | (with_reducible refine ((fillCheck_same ..).mono (by decide)).after ?_)
    | (with_reducible refine ((setRing_same ..).mono (by decide)).after ?_) | split
    | (with_reducible refine Same.fst (by assumption) ?_))
theorem captureWrite_same : ∀ die s, Same 32816 s (captureWrite die s) := by
  intro die s
  unfold captureWrite
  try dsimp only
  repeat' (first
    | with_reducible exact Same.rfl' _ | (with_reducible refine Same.ite ?_ ?_) | (with_reducible refine Same.iteFst ?_ ?_)
    | (with_reducible refine ((captureNext_same ..).mono (by decide)).after ?_)
    | (with_reducible refine (chargeBlocks_same (w := 32816) _ _ _ _ (fun _ _ => ?_) _).after ?_)
    | (with_reducible refine ((useCap_same ..).mono (by decide)).after ?_) | split
    | (with_reducible refine Same.fst (by assumption) ?_))
theorem readTo_same : ∀ i p s, Same 32768 s (readTo i p s) := by
  intro i p s
  unfold readTo
  try dsimp only
  repeat' (first
    | with_reducible exact Same.rfl' _ | (with_reducible refine ((setRing_same ..).mono (by decide)).after ?_))
theorem consume_same {i : Nat} {p : Dword} {s t : State} (e : consume i p s = .ok t) : Same 32784 s t := by
  unfold consume at e
  dsimp only at e
  repeat' split at e
  all_goals cases e
  exact ((readTo_same ..).mono (by decide)).trans ((fillCheck_same ..).mono (by decide))
theorem emptyRing_same : ∀ i s, Same 32768 s (emptyRing i s) := by
  intro i s
  unfold emptyRing
  try dsimp only
  repeat' (first
    | with_reducible exact Same.rfl' _ | (with_reducible refine ((setRing_same ..).mono (by decide)).after ?_))
theorem setSmp_same : ∀ p x s, Same 65536 s (setSmp p x s) := by
  intro p x s
  unfold setSmp
  try dsimp only
  repeat' (first
    | with_reducible exact Same.rfl' _ | (with_reducible refine ((Same.setPmon _ _).mono (by decide)).after ?_))
theorem writeSample_same : ∀ p body s, Same 65568 s (writeSample p body s) := by
  intro p body s
  unfold writeSample
  try dsimp only
  repeat' (first
    | with_reducible exact Same.rfl' _ | (with_reducible refine ((pipeEvent_same ..).mono (by decide)).after ?_)
    | (with_reducible refine ((setSmp_same ..).mono (by decide)).after ?_))
theorem execJnlBlockWrite_same : ∀ s t, execJnlBlockWrite s = .next t → Same 32816 s t := by
  intro s t h
  injection h with h
  subst h
  try dsimp only
  repeat' (first
    | with_reducible exact Same.rfl' _ | (with_reducible refine ((jnlBlockWrite_same ..).mono (by decide)).after ?_))
theorem execCaptureWrite_same : ∀ d s t, execCaptureWrite d s = .next t → Same 32816 s t := by
  intro d s t h
  injection h with h
  subst h
  try dsimp only
  repeat' (first
    | with_reducible exact Same.rfl' _ | (with_reducible refine ((captureWrite_same ..).mono (by decide)).after ?_))
theorem execJnlConsumedWrite_same : ∀ i p s t, execJnlConsumedWrite i p s = .next t → Same 32784 s t := by
  intro i p s t h
  injection h with h
  subst h
  try dsimp only
  repeat' (first
    | with_reducible exact Same.rfl' _ | (with_reducible refine ((consume_same (by assumption)).mono (by decide)).after ?_)
    | split | (with_reducible refine Same.fst (by assumption) ?_))
theorem execJnlRegionWrite_same : ∀ i base size s t, execJnlRegionWrite i base size s = .next t → Same 8421408 s t := by
  intro i base size s t h
  injection h with h
  subst h
  try dsimp only
  repeat' (first
    | with_reducible exact Same.rfl' _ | (with_reducible refine Same.ite ?_ ?_) | (with_reducible refine Same.iteFst ?_ ?_)
    | (with_reducible refine ((emptyRing_same ..).mono (by decide)).after ?_)
    | (with_reducible refine ((setReg_same ..).mono (by decide)).after ?_) | split)

/-! ### Packets -/

theorem putPkt_same : ∀ k x s, Same 2048 s (putPkt k x s) := by
  intro k x s
  unfold putPkt
  try dsimp only
  repeat' (first
    | with_reducible exact Same.rfl' _ | (with_reducible refine ((Same.setPath _ _).mono (by decide)).after ?_))
theorem delPkt_same : ∀ k s, Same 2048 s (delPkt k s) := by
  intro k s
  unfold delPkt
  try dsimp only
  repeat' (first
    | with_reducible exact Same.rfl' _ | (with_reducible refine ((Same.setPath _ _).mono (by decide)).after ?_))
theorem newPkt_same : ∀ x s, Same 2048 s (newPkt x s) := by
  intro x s
  unfold newPkt
  try dsimp only
  repeat' (first
    | with_reducible exact Same.rfl' _ | (with_reducible refine ((Same.setPath _ _).mono (by decide)).after ?_))
theorem takePkt_same : ∀ k x s, Same 34868 s (takePkt k x s) := by
  intro k x s
  unfold takePkt
  try dsimp only
  repeat' (first
    | with_reducible exact Same.rfl' _ | (with_reducible refine ((capture_same ..).mono (by decide)).after ?_)
    | (with_reducible refine ((delPkt_same ..).mono (by decide)).after ?_))
theorem record_same : ∀ x out outcome stages s, Same 98358 s (record x out outcome stages s) := by
  intro x out outcome stages s
  unfold record
  try dsimp only
  repeat' (first
    | with_reducible exact Same.rfl' _ | (with_reducible refine Same.ite ?_ ?_) | (with_reducible refine Same.iteFst ?_ ?_)
    | (with_reducible refine ((capture_same ..).mono (by decide)).after ?_)
    | (with_reducible refine ((drawn_same ..).mono (by decide)).after ?_)
    | (with_reducible refine ((writeSample_same ..).mono (by decide)).after ?_) | split
    | (with_reducible refine Same.fst (by assumption) ?_))
theorem sampleMode_same : ∀ p s, Same 65538 s (sampleMode p s).1 := by
  intro p s
  unfold sampleMode
  try dsimp only
  repeat' (first
    | with_reducible exact Same.rfl' _ | (with_reducible refine Same.ite ?_ ?_) | (with_reducible refine Same.iteFst ?_ ?_)
    | (with_reducible refine ((setSmp_same ..).mono (by decide)).after ?_)
    | (with_reducible refine ((drawn_same ..).mono (by decide)).after ?_) | split)

/-! ### Egress -/

theorem setPort_same : ∀ n x s, Same 1024 s (setPort n x s) := by
  intro n x s
  unfold setPort
  try dsimp only
  repeat' (first
    | with_reducible exact Same.rfl' _ | (with_reducible refine ((Same.setPorts _ _).mono (by decide)).after ?_))
theorem setBm_same : ∀ d x s, Same 8192 s (setBm d x s) := by
  intro d x s
  unfold setBm
  try dsimp only
  repeat' (first
    | with_reducible exact Same.rfl' _ | (with_reducible refine ((Same.setBuf _ _).mono (by decide)).after ?_))
theorem setEgr_same : ∀ n x s, Same 8192 s (setEgr n x s) := by
  intro n x s
  unfold setEgr
  try dsimp only
  repeat' (first
    | with_reducible exact Same.rfl' _ | (with_reducible refine ((Same.setBuf _ _).mono (by decide)).after ?_))
theorem transmit_same : ∀ f s, Same 1024 s (transmit f s) := by
  intro f s
  unfold transmit
  try dsimp only
  repeat' (first
    | with_reducible exact Same.rfl' _ | (with_reducible refine ((Same.setPorts _ _).mono (by decide)).after ?_))
theorem sendPause_same : ∀ n prio quanta s, Same 1058 s (sendPause n prio quanta s) := by
  intro n prio quanta s
  unfold sendPause
  try dsimp only
  repeat' (first
    | with_reducible exact Same.rfl' _ | (with_reducible refine ((drawn_same ..).mono (by decide)).after ?_)
    | (with_reducible refine ((bump48_same ..).mono (by decide)).after ?_)
    | (with_reducible refine ((transmit_same ..).mono (by decide)).after ?_))
theorem settlePause_same : ∀ n prio s, Same 1058 s (settlePause n prio s) := by
  intro n prio s
  unfold settlePause
  try dsimp only
  repeat' (first
    | with_reducible exact Same.rfl' _ | (with_reducible refine Same.ite ?_ ?_) | (with_reducible refine Same.iteFst ?_ ?_)
    | (with_reducible refine ((setPort_same ..).mono (by decide)).after ?_)
    | (with_reducible refine ((sendPause_same ..).mono (by decide)).after ?_)
    | (with_reducible refine ((drawn_same ..).mono (by decide)).after ?_) | split)
theorem settlePauses_same : ∀ n s, Same 1058 s (settlePauses n s) := by
  intro n s
  unfold settlePauses
  try dsimp only
  repeat' (first
    | with_reducible exact Same.rfl' _ | (with_reducible refine ((settlePause_same ..).mono (by decide)).after ?_)
    | (with_reducible refine (Same.foldl (fun _ _ => ?_) _ _).after ?_)
    | (with_reducible refine (Same.foldlFst (fun _ _ => ?_) _ _).after ?_))
theorem poolEpisodes_same : ∀ d failed src s, Same 8208 s (poolEpisodes d failed src s) := by
  intro d failed src s
  unfold poolEpisodes
  try dsimp only
  repeat' (first
    | with_reducible exact Same.rfl' _ | (with_reducible refine Same.ite ?_ ?_) | (with_reducible refine Same.iteFst ?_ ?_)
    | (with_reducible refine ((setBm_same ..).mono (by decide)).after ?_)
    | (with_reducible refine ((raise_same ..).mono (by decide)).after ?_) | split)
theorem hostExhausted_same : ∀ d s, Same 8208 s (hostExhausted d s) := by
  intro d s
  unfold hostExhausted
  try dsimp only
  repeat' (first
    | with_reducible exact Same.rfl' _ | (with_reducible refine Same.ite ?_ ?_) | (with_reducible refine Same.iteFst ?_ ?_)
    | (with_reducible refine ((raise_same ..).mono (by decide)).after ?_)
    | (with_reducible refine ((setBm_same ..).mono (by decide)).after ?_) | split)
theorem charge_same : ∀ d src prio n p s, Same 8192 s (charge d src prio n p s).1 := by
  intro d src prio n p s
  unfold charge
  try dsimp only
  repeat' (first
    | with_reducible exact Same.rfl' _ | (with_reducible refine ((setBm_same ..).mono (by decide)).after ?_) | split
    | (with_reducible refine Same.fst (by assumption) ?_))
theorem releaseOwners_same : ∀ d s, Same 9250 s (releaseOwners d s) := by
  intro d s
  unfold releaseOwners
  try dsimp only
  repeat' (first
    | with_reducible exact Same.rfl' _ | (with_reducible refine Same.ite ?_ ?_) | (with_reducible refine Same.iteFst ?_ ?_)
    | (with_reducible refine ((settlePause_same ..).mono (by decide)).after ?_)
    | (with_reducible refine ((setBm_same ..).mono (by decide)).after ?_)
    | (with_reducible refine (Same.foldl (fun _ _ => ?_) _ _).after ?_)
    | (with_reducible refine (Same.foldlFst (fun _ _ => ?_) _ _).after ?_) | split)
theorem discharge_same : ∀ c s, Same 9266 s (discharge c s) := by
  intro c s
  unfold discharge
  try dsimp only
  repeat' (first
    | with_reducible exact Same.rfl' _ | (with_reducible refine Same.ite ?_ ?_) | (with_reducible refine Same.iteFst ?_ ?_)
    | (with_reducible refine ((setBm_same ..).mono (by decide)).after ?_)
    | (with_reducible refine ((releaseOwners_same ..).mono (by decide)).after ?_)
    | (with_reducible refine ((poolEpisodes_same ..).mono (by decide)).after ?_) | split)
theorem bufferGone_same : ∀ k x s, Same 108598 s (bufferGone k x s) := by
  intro k x s
  unfold bufferGone
  try dsimp only
  repeat' (first
    | with_reducible exact Same.rfl' _ | (with_reducible refine Same.ite ?_ ?_) | (with_reducible refine Same.iteFst ?_ ?_)
    | (with_reducible refine ((Same.setBuf _ _).mono (by decide)).after ?_)
    | (with_reducible refine ((delPkt_same ..).mono (by decide)).after ?_)
    | (with_reducible refine ((record_same ..).mono (by decide)).after ?_) | split
    | (with_reducible refine Same.fst (by assumption) ?_))
theorem putStored_same : ∀ k x s, Same 109622 s (putStored k x s) := by
  intro k x s
  unfold putStored
  try dsimp only
  repeat' (first
    | with_reducible exact Same.rfl' _ | (with_reducible refine Same.ite ?_ ?_) | (with_reducible refine Same.iteFst ?_ ?_)
    | (with_reducible refine ((bufferGone_same ..).mono (by decide)).after ?_)
    | (with_reducible refine ((Same.setBuf _ _).mono (by decide)).after ?_)
    | (with_reducible refine ((discharge_same ..).mono (by decide)).after ?_)
    | (with_reducible refine (Same.foldl (fun _ _ => ?_) _ _).after ?_)
    | (with_reducible refine (Same.foldlFst (fun _ _ => ?_) _ _).after ?_) | split)
theorem dropCopy_same : ∀ k dest s, Same 109622 s (dropCopy k dest s) := by
  intro k dest s
  unfold dropCopy
  try dsimp only
  repeat' (first
    | with_reducible exact Same.rfl' _ | (with_reducible refine ((putStored_same ..).mono (by decide)).after ?_) | split
    | (with_reducible refine Same.fst (by assumption) ?_))
theorem firstCopy_same : ∀ k n x y stamp cut s, Same 106550 s (firstCopy k n x y stamp cut s) := by
  intro k n x y stamp cut s
  unfold firstCopy
  try dsimp only
  repeat' (first
    | with_reducible exact Same.rfl' _ | (with_reducible refine Same.ite ?_ ?_) | (with_reducible refine Same.iteFst ?_ ?_)
    | (with_reducible refine ((record_same ..).mono (by decide)).after ?_)
    | (with_reducible refine ((Same.setBuf _ _).mono (by decide)).after ?_) | split)
theorem stompSending_same : ∀ n s, Same 109622 s (stompSending n s) := by
  intro n s
  unfold stompSending
  try dsimp only
  repeat' (first
    | with_reducible exact Same.rfl' _ | (with_reducible refine ((setEgr_same ..).mono (by decide)).after ?_)
    | (with_reducible refine ((transmit_same ..).mono (by decide)).after ?_)
    | (with_reducible refine ((bump48_same ..).mono (by decide)).after ?_)
    | (with_reducible refine ((drawn_same ..).mono (by decide)).after ?_)
    | (with_reducible refine ((firstCopy_same ..).mono (by decide)).after ?_)
    | (with_reducible refine ((dropCopy_same ..).mono (by decide)).after ?_) | split
    | (with_reducible refine Same.fst (by assumption) ?_))
theorem countAbandoned_same : ∀ n s, Same 52 s (countAbandoned n s) := by
  intro n s
  unfold countAbandoned
  try dsimp only
  repeat' (first
    | with_reducible exact Same.rfl' _ | (with_reducible refine ((raiseLimited_same ..).mono (by decide)).after ?_)
    | (with_reducible refine ((bump48_same ..).mono (by decide)).after ?_))
theorem unqueue_same : ∀ n c k s, Same 8192 s (unqueue n c k s) := by
  intro n c k s
  unfold unqueue
  try dsimp only
  repeat' (first
    | with_reducible exact Same.rfl' _ | (with_reducible refine Same.ite ?_ ?_) | (with_reducible refine Same.iteFst ?_ ?_)
    | (with_reducible refine ((setEgr_same ..).mono (by decide)).after ?_) | split)
theorem abandonPort_same : ∀ n s, Same 109622 s (abandonPort n s) := by
  intro n s
  unfold abandonPort
  try dsimp only
  repeat' (first
    | with_reducible exact Same.rfl' _ | (with_reducible refine ((dropCopy_same ..).mono (by decide)).after ?_)
    | (with_reducible refine ((countAbandoned_same ..).mono (by decide)).after ?_)
    | (with_reducible refine ((unqueue_same ..).mono (by decide)).after ?_)
    | (with_reducible refine ((stompSending_same ..).mono (by decide)).after ?_)
    | (with_reducible refine (Same.foldl (fun _ _ => ?_) _ _).after ?_)
    | (with_reducible refine (Same.foldlFst (fun _ _ => ?_) _ _).after ?_))
theorem queueCopy_same : ∀ k c s, Same 109622 s (queueCopy k c s) := by
  intro k c s
  unfold queueCopy
  try dsimp only
  repeat' (first
    | with_reducible exact Same.rfl' _ | (with_reducible refine Same.ite ?_ ?_) | (with_reducible refine Same.iteFst ?_ ?_)
    | (with_reducible refine ((Same.setBuf _ _).mono (by decide)).after ?_)
    | (with_reducible refine ((dropCopy_same ..).mono (by decide)).after ?_)
    | (with_reducible refine ((countAbandoned_same ..).mono (by decide)).after ?_)
    | (with_reducible refine ((setEgr_same ..).mono (by decide)).after ?_) | split
    | (with_reducible refine Same.fst (by assumption) ?_))
theorem clearStall_same : ∀ n c s, Same 8208 s (clearStall n c s) := by
  intro n c s
  unfold clearStall
  try dsimp only
  repeat' (first
    | with_reducible exact Same.rfl' _ | (with_reducible refine ((raise_same ..).mono (by decide)).after ?_)
    | (with_reducible refine ((setEgr_same ..).mono (by decide)).after ?_) | split
    | (with_reducible refine Same.fst (by assumption) ?_))
theorem frameTxStart_same : ∀ n ns s, Same 8240 s (frameTxStart n ns s) := by
  intro n ns s
  unfold frameTxStart
  try dsimp only
  repeat' (first
    | with_reducible exact Same.rfl' _ | (with_reducible refine Same.ite ?_ ?_) | (with_reducible refine Same.iteFst ?_ ?_)
    | (with_reducible refine ((bump48_same ..).mono (by decide)).after ?_)
    | (with_reducible refine ((setEgr_same ..).mono (by decide)).after ?_)
    | (with_reducible refine ((clearStall_same ..).mono (by decide)).after ?_)
    | (with_reducible refine ((Same.setBuf _ _).mono (by decide)).after ?_)
    | (with_reducible refine ((unqueue_same ..).mono (by decide)).after ?_)
    | (with_reducible refine (Same.foldl (fun _ _ => ?_) _ _).after ?_)
    | (with_reducible refine (Same.foldlFst (fun _ _ => ?_) _ _).after ?_) | split
    | (with_reducible refine Same.fst (by assumption) ?_))
theorem txUnderrun_same : ∀ n s, Same 109622 s (txUnderrun n s) := by
  intro n s
  unfold txUnderrun
  try dsimp only
  repeat' (first
    | with_reducible exact Same.rfl' _ | (with_reducible refine Same.ite ?_ ?_) | (with_reducible refine Same.iteFst ?_ ?_)
    | (with_reducible refine ((stompSending_same ..).mono (by decide)).after ?_)
    | (with_reducible refine ((bump48_same ..).mono (by decide)).after ?_) | split
    | (with_reducible refine Same.fst (by assumption) ?_))
theorem egrClassDue_same : ∀ n c s, Same 8192 s (egrClassDue n c s) := by
  intro n c s
  unfold egrClassDue
  try dsimp only
  repeat' (first
    | with_reducible exact Same.rfl' _ | (with_reducible refine Same.ite ?_ ?_) | (with_reducible refine Same.iteFst ?_ ?_)
    | (with_reducible refine ((setEgr_same ..).mono (by decide)).after ?_) | split)
theorem egrStall_same : ∀ n c s, Same 8240 s (egrStall n c s) := by
  intro n c s
  unfold egrStall
  try dsimp only
  repeat' (first
    | with_reducible exact Same.rfl' _ | (with_reducible refine Same.ite ?_ ?_) | (with_reducible refine Same.iteFst ?_ ?_)
    | (with_reducible refine ((raise_same ..).mono (by decide)).after ?_)
    | (with_reducible refine ((bump48_same ..).mono (by decide)).after ?_)
    | (with_reducible refine ((setEgr_same ..).mono (by decide)).after ?_)
    | (with_reducible refine (Same.foldl (fun _ _ => ?_) _ _).after ?_)
    | (with_reducible refine (Same.foldlFst (fun _ _ => ?_) _ _).after ?_) | split
    | (with_reducible refine Same.fst (by assumption) ?_))
theorem calAtLinkUp_same : ∀ n s, Same 8208 s (calAtLinkUp n s) := by
  intro n s
  unfold calAtLinkUp
  try dsimp only
  repeat' (first
    | with_reducible exact Same.rfl' _ | (with_reducible refine Same.ite ?_ ?_) | (with_reducible refine Same.iteFst ?_ ?_)
    | (with_reducible refine ((raise_same ..).mono (by decide)).after ?_)
    | (with_reducible refine ((setEgr_same ..).mono (by decide)).after ?_) | split)
theorem execFrameTxStart_same : ∀ n ns s t, execFrameTxStart n ns s = .next t → Same 8240 s t := by
  intro n ns s t h
  injection h with h
  subst h
  try dsimp only
  repeat' (first
    | with_reducible exact Same.rfl' _ | (with_reducible refine ((frameTxStart_same ..).mono (by decide)).after ?_))
theorem execTxUnderrun_same : ∀ n s t, execTxUnderrun n s = .next t → Same 109622 s t := by
  intro n s t h
  injection h with h
  subst h
  try dsimp only
  repeat' (first
    | with_reducible exact Same.rfl' _ | (with_reducible refine ((txUnderrun_same ..).mono (by decide)).after ?_))
theorem execEgrClassDue_same : ∀ n c s t, execEgrClassDue n c s = .next t → Same 8192 s t := by
  intro n c s t h
  injection h with h
  subst h
  try dsimp only
  repeat' (first
    | with_reducible exact Same.rfl' _ | (with_reducible refine ((egrClassDue_same ..).mono (by decide)).after ?_))
theorem execEgrStall_same : ∀ n c s t, execEgrStall n c s = .next t → Same 8240 s t := by
  intro n c s t h
  injection h with h
  subst h
  try dsimp only
  repeat' (first
    | with_reducible exact Same.rfl' _ | (with_reducible refine ((egrStall_same ..).mono (by decide)).after ?_))

/-! ### Ports -/

theorem setLane_same : ∀ k l s, Same 1024 s (setLane k l s) := by
  intro k l s
  unfold setLane
  try dsimp only
  repeat' (first
    | with_reducible exact Same.rfl' _ | (with_reducible refine ((Same.setPorts _ _).mono (by decide)).after ?_))
theorem lanesIdle_same : ∀ n code idle s, Same 1024 s (lanesIdle n code idle s) := by
  intro n code idle s
  unfold lanesIdle
  try dsimp only
  repeat' (first
    | with_reducible exact Same.rfl' _ | (with_reducible refine Same.ite ?_ ?_) | (with_reducible refine Same.iteFst ?_ ?_)
    | (with_reducible refine ((setLane_same ..).mono (by decide)).after ?_)
    | (with_reducible refine (Same.foldl (fun _ _ => ?_) _ _).after ?_)
    | (with_reducible refine (Same.foldlFst (fun _ _ => ?_) _ _).after ?_) | split)
theorem adapt_same : ∀ k e s, Same 1024 s (adapt k e s) := by
  intro k e s
  unfold adapt
  try dsimp only
  repeat' (first
    | with_reducible exact Same.rfl' _ | (with_reducible refine Same.ite ?_ ?_) | (with_reducible refine Same.iteFst ?_ ?_)
    | (with_reducible refine ((setLane_same ..).mono (by decide)).after ?_) | split)
theorem lanesUp_same : ∀ n code rx s, Same 1024 s (lanesUp n code rx s) := by
  intro n code rx s
  unfold lanesUp
  try dsimp only
  repeat' (first
    | with_reducible exact Same.rfl' _ | (with_reducible refine ((adapt_same ..).mono (by decide)).after ?_)
    | (with_reducible refine ((setLane_same ..).mono (by decide)).after ?_)
    | (with_reducible refine (Same.foldl (fun _ _ => ?_) _ _).after ?_)
    | (with_reducible refine (Same.foldlFst (fun _ _ => ?_) _ _).after ?_))
theorem lanesLost_same : ∀ n code signal s, Same 1024 s (lanesLost n code signal s) := by
  intro n code signal s
  unfold lanesLost
  try dsimp only
  repeat' (first
    | with_reducible exact Same.rfl' _ | (with_reducible refine ((setLane_same ..).mono (by decide)).after ?_)
    | (with_reducible refine (Same.foldl (fun _ _ => ?_) _ _).after ?_)
    | (with_reducible refine (Same.foldlFst (fun _ _ => ?_) _ _).after ?_))
theorem lanesStart_same : ∀ n code s, Same 1024 s (lanesStart n code s) := by
  intro n code s
  unfold lanesStart
  try dsimp only
  repeat' (first
    | with_reducible exact Same.rfl' _ | (with_reducible refine ((setLane_same ..).mono (by decide)).after ?_)
    | (with_reducible refine (Same.foldl (fun _ _ => ?_) _ _).after ?_)
    | (with_reducible refine (Same.foldlFst (fun _ _ => ?_) _ _).after ?_))
theorem askTap_same : ∀ n code q s, Same 1024 s (askTap n code q s) := by
  intro n code q s
  unfold askTap
  try dsimp only
  repeat' (first
    | with_reducible exact Same.rfl' _ | (with_reducible refine Same.ite ?_ ?_) | (with_reducible refine Same.iteFst ?_ ?_)
    | (with_reducible refine ((setLane_same ..).mono (by decide)).after ?_) | split
    | (with_reducible refine Same.fst (by assumption) ?_))
theorem startPort_same : ∀ n s, Same 1024 s (startPort n s) := by
  intro n s
  unfold startPort
  try dsimp only
  repeat' (first
    | with_reducible exact Same.rfl' _ | (with_reducible refine Same.ite ?_ ?_) | (with_reducible refine Same.iteFst ?_ ?_)
    | (with_reducible refine ((lanesStart_same ..).mono (by decide)).after ?_)
    | (with_reducible refine ((lanesIdle_same ..).mono (by decide)).after ?_)
    | (with_reducible refine ((setPort_same ..).mono (by decide)).after ?_) | split)
theorem linkLost_same : ∀ n cause cut s, Same 48 s (linkLost n cause cut s) := by
  intro n cause cut s
  unfold linkLost
  try dsimp only
  repeat' (first
    | with_reducible exact Same.rfl' _ | (with_reducible refine Same.ite ?_ ?_) | (with_reducible refine Same.iteFst ?_ ?_)
    | (with_reducible refine ((bump48_same ..).mono (by decide)).after ?_)
    | (with_reducible refine ((raise_same ..).mono (by decide)).after ?_) | split)
theorem disablePort_same : ∀ n cut s, Same 1072 s (disablePort n cut s) := by
  intro n cut s
  unfold disablePort
  try dsimp only
  repeat' (first
    | with_reducible exact Same.rfl' _ | (with_reducible refine Same.ite ?_ ?_) | (with_reducible refine Same.iteFst ?_ ?_)
    | (with_reducible refine ((linkLost_same ..).mono (by decide)).after ?_)
    | (with_reducible refine ((lanesIdle_same ..).mono (by decide)).after ?_)
    | (with_reducible refine ((setPort_same ..).mono (by decide)).after ?_) | split)
theorem takePortDown_same : ∀ n cut s, Same 109622 s (takePortDown n cut s) := by
  intro n cut s
  unfold takePortDown
  try dsimp only
  repeat' (first
    | with_reducible exact Same.rfl' _ | (with_reducible refine ((abandonPort_same ..).mono (by decide)).after ?_)
    | (with_reducible refine ((disablePort_same ..).mono (by decide)).after ?_))
theorem restartPort_same : ∀ n s, Same 1024 s (restartPort n s) := by
  intro n s
  unfold restartPort
  try dsimp only
  repeat' (first
    | with_reducible exact Same.rfl' _ | (with_reducible refine ((lanesStart_same ..).mono (by decide)).after ?_)
    | (with_reducible refine ((setPort_same ..).mono (by decide)).after ?_))
theorem toEntry_same : ∀ n s, Same 1024 s (toEntry n s) := by
  intro n s
  unfold toEntry
  try dsimp only
  repeat' (first
    | with_reducible exact Same.rfl' _ | (with_reducible refine Same.ite ?_ ?_) | (with_reducible refine Same.iteFst ?_ ?_)
    | (with_reducible refine ((restartPort_same ..).mono (by decide)).after ?_)
    | (with_reducible refine ((setPort_same ..).mono (by decide)).after ?_) | split)
theorem portEnable_same : ∀ n s, Same 8389664 s (portEnable n s) := by
  intro n s
  unfold portEnable
  try dsimp only
  repeat' (first
    | with_reducible exact Same.rfl' _ | (with_reducible refine ((startPort_same ..).mono (by decide)).after ?_)
    | (with_reducible refine ((setReg_same ..).mono (by decide)).after ?_))
theorem portDisable_same : ∀ n cut s, Same 8498230 s (portDisable n cut s) := by
  intro n cut s
  unfold portDisable
  try dsimp only
  repeat' (first
    | with_reducible exact Same.rfl' _ | (with_reducible refine ((takePortDown_same ..).mono (by decide)).after ?_)
    | (with_reducible refine ((setReg_same ..).mono (by decide)).after ?_))
theorem clearFifos_same : ∀ g s, Same 1024 s (clearFifos g s) := by
  intro g s
  unfold clearFifos
  try dsimp only
  repeat' (first
    | with_reducible exact Same.rfl' _ | (with_reducible refine ((Same.setPorts _ _).mono (by decide)).after ?_))
theorem pgMode_same : ∀ g v rx s, Same 8498230 s (pgMode g v rx s) := by
  intro g v rx s
  unfold pgMode
  try dsimp only
  repeat' (first
    | with_reducible exact Same.rfl' _ | (with_reducible refine ((clearFifos_same ..).mono (by decide)).after ?_)
    | (with_reducible refine ((takePortDown_same ..).mono (by decide)).after ?_)
    | (with_reducible refine ((setReg_same ..).mono (by decide)).after ?_)
    | (with_reducible refine ((startPort_same ..).mono (by decide)).after ?_)
    | (with_reducible refine (Same.foldl (fun _ _ => ?_) _ _).after ?_)
    | (with_reducible refine (Same.foldlFst (fun _ _ => ?_) _ _).after ?_))
theorem hostWidth_same : ∀ n cut v s, Same 8498230 s (hostWidth n cut v s) := by
  intro n cut v s
  unfold hostWidth
  try dsimp only
  repeat' (first
    | with_reducible exact Same.rfl' _ | (with_reducible refine Same.ite ?_ ?_) | (with_reducible refine Same.iteFst ?_ ?_)
    | (with_reducible refine ((startPort_same ..).mono (by decide)).after ?_)
    | (with_reducible refine ((setReg_same ..).mono (by decide)).after ?_)
    | (with_reducible refine ((takePortDown_same ..).mono (by decide)).after ?_) | split)
theorem anResolved_same : ∀ n code training fec s, Same 1024 s (anResolved n code training fec s) := by
  intro n code training fec s
  unfold anResolved
  try dsimp only
  repeat' (first
    | with_reducible exact Same.rfl' _ | (with_reducible refine Same.ite ?_ ?_) | (with_reducible refine Same.iteFst ?_ ?_)
    | (with_reducible refine ((lanesStart_same ..).mono (by decide)).after ?_)
    | (with_reducible refine ((lanesIdle_same ..).mono (by decide)).after ?_)
    | (with_reducible refine ((setPort_same ..).mono (by decide)).after ?_) | split)
theorem anNoCommon_same : ∀ n abilities s, Same 1040 s (anNoCommon n abilities s) := by
  intro n abilities s
  unfold anNoCommon
  try dsimp only
  repeat' (first
    | with_reducible exact Same.rfl' _ | (with_reducible refine Same.ite ?_ ?_) | (with_reducible refine Same.iteFst ?_ ?_)
    | (with_reducible refine ((raise_same ..).mono (by decide)).after ?_)
    | (with_reducible refine ((setPort_same ..).mono (by decide)).after ?_) | split)
theorem trainDone_same : ∀ n asked s, Same 1024 s (trainDone n asked s) := by
  intro n asked s
  unfold trainDone
  try dsimp only
  repeat' (first
    | with_reducible exact Same.rfl' _ | (with_reducible refine Same.ite ?_ ?_) | (with_reducible refine Same.iteFst ?_ ?_)
    | (with_reducible refine ((setPort_same ..).mono (by decide)).after ?_)
    | (with_reducible refine ((askTap_same ..).mono (by decide)).after ?_)
    | (with_reducible refine (Same.foldl (fun _ _ => ?_) _ _).after ?_)
    | (with_reducible refine (Same.foldlFst (fun _ _ => ?_) _ _).after ?_) | split)
theorem trainTimeout_same : ∀ n s, Same 1072 s (trainTimeout n s) := by
  intro n s
  unfold trainTimeout
  try dsimp only
  repeat' (first
    | with_reducible exact Same.rfl' _ | (with_reducible refine Same.ite ?_ ?_) | (with_reducible refine Same.iteFst ?_ ?_)
    | (with_reducible refine ((bump48_same ..).mono (by decide)).after ?_)
    | (with_reducible refine ((lanesStart_same ..).mono (by decide)).after ?_)
    | (with_reducible refine ((setPort_same ..).mono (by decide)).after ?_)
    | (with_reducible refine ((raise_same ..).mono (by decide)).after ?_) | split)
theorem linkUp_same : ∀ n rx s, Same 9266 s (linkUp n rx s) := by
  intro n rx s
  unfold linkUp
  try dsimp only
  repeat' (first
    | with_reducible exact Same.rfl' _ | (with_reducible refine Same.ite ?_ ?_) | (with_reducible refine Same.iteFst ?_ ?_)
    | (with_reducible refine ((lanesUp_same ..).mono (by decide)).after ?_)
    | (with_reducible refine ((setPort_same ..).mono (by decide)).after ?_)
    | (with_reducible refine ((raise_same ..).mono (by decide)).after ?_)
    | (with_reducible refine ((settlePauses_same ..).mono (by decide)).after ?_)
    | (with_reducible refine ((calAtLinkUp_same ..).mono (by decide)).after ?_) | split)
theorem alignTimeout_same : ∀ n s, Same 1024 s (alignTimeout n s) := by
  intro n s
  unfold alignTimeout
  try dsimp only
  repeat' (first
    | with_reducible exact Same.rfl' _ | (with_reducible refine Same.ite ?_ ?_) | (with_reducible refine Same.iteFst ?_ ?_)
    | (with_reducible refine ((restartPort_same ..).mono (by decide)).after ?_) | split)
theorem causeLanes_same : ∀ n cause s, Same 1024 s (causeLanes n cause s) := by
  intro n cause s
  unfold causeLanes
  try dsimp only
  repeat' (first
    | with_reducible exact Same.rfl' _ | (with_reducible refine Same.ite ?_ ?_) | (with_reducible refine Same.iteFst ?_ ?_)
    | (with_reducible refine ((lanesLost_same ..).mono (by decide)).after ?_) | split)
theorem linkDown_same : ∀ n cause cut s, Same 1072 s (linkDown n cause cut s) := by
  intro n cause cut s
  unfold linkDown
  try dsimp only
  repeat' (first
    | with_reducible exact Same.rfl' _ | (with_reducible refine Same.ite ?_ ?_) | (with_reducible refine Same.iteFst ?_ ?_)
    | (with_reducible refine ((toEntry_same ..).mono (by decide)).after ?_)
    | (with_reducible refine ((causeLanes_same ..).mono (by decide)).after ?_)
    | (with_reducible refine ((linkLost_same ..).mono (by decide)).after ?_) | split)
theorem remoteFault_same : ∀ n s, Same 1072 s (remoteFault n s) := by
  intro n s
  unfold remoteFault
  try dsimp only
  repeat' (first
    | with_reducible exact Same.rfl' _ | (with_reducible refine Same.ite ?_ ?_) | (with_reducible refine Same.iteFst ?_ ?_)
    | (with_reducible refine ((linkLost_same ..).mono (by decide)).after ?_)
    | (with_reducible refine ((setPort_same ..).mono (by decide)).after ?_) | split)
theorem remoteFaultClear_same : ∀ n s, Same 1074 s (remoteFaultClear n s) := by
  intro n s
  unfold remoteFaultClear
  try dsimp only
  repeat' (first
    | with_reducible exact Same.rfl' _ | (with_reducible refine Same.ite ?_ ?_) | (with_reducible refine Same.iteFst ?_ ?_)
    | (with_reducible refine ((raise_same ..).mono (by decide)).after ?_)
    | (with_reducible refine ((settlePauses_same ..).mono (by decide)).after ?_)
    | (with_reducible refine ((setPort_same ..).mono (by decide)).after ?_) | split)
theorem fecDegraded_same : ∀ n corrected uncorrected symbols s, Same 48 s (fecDegraded n corrected uncorrected symbols s) := by
  intro n corrected uncorrected symbols s
  unfold fecDegraded
  try dsimp only
  repeat' (first
    | with_reducible exact Same.rfl' _ | (with_reducible refine Same.ite ?_ ?_) | (with_reducible refine Same.iteFst ?_ ?_)
    | (with_reducible refine ((bump48_same ..).mono (by decide)).after ?_)
    | (with_reducible refine ((raise_same ..).mono (by decide)).after ?_) | split)
theorem portDownFlush_same : ∀ n s, Same 109622 s (portDownFlush n s) := by
  intro n s
  unfold portDownFlush
  try dsimp only
  repeat' (first
    | with_reducible exact Same.rfl' _ | (with_reducible refine Same.ite ?_ ?_) | (with_reducible refine Same.iteFst ?_ ?_)
    | (with_reducible refine ((raise_same ..).mono (by decide)).after ?_)
    | (with_reducible refine ((abandonPort_same ..).mono (by decide)).after ?_)
    | (with_reducible refine ((setPort_same ..).mono (by decide)).after ?_) | split
    | (with_reducible refine Same.fst (by assumption) ?_))
theorem pauseRx_same : ∀ n c pfc vector quanta s, Same 1056 s (pauseRx n c pfc vector quanta s) := by
  intro n c pfc vector quanta s
  unfold pauseRx
  try dsimp only
  repeat' (first
    | with_reducible exact Same.rfl' _ | (with_reducible refine Same.ite ?_ ?_) | (with_reducible refine Same.iteFst ?_ ?_)
    | (with_reducible refine ((bump48_same ..).mono (by decide)).after ?_)
    | (with_reducible refine ((setPort_same ..).mono (by decide)).after ?_)
    | (with_reducible refine (Same.foldl (fun _ _ => ?_) _ _).after ?_)
    | (with_reducible refine (Same.foldlFst (fun _ _ => ?_) _ _).after ?_) | split)
theorem rxPauseExpiry_same : ∀ n c prio s, Same 1024 s (rxPauseExpiry n c prio s) := by
  intro n c prio s
  unfold rxPauseExpiry
  try dsimp only
  repeat' (first
    | with_reducible exact Same.rfl' _ | (with_reducible refine Same.ite ?_ ?_) | (with_reducible refine Same.iteFst ?_ ?_)
    | (with_reducible refine ((setPort_same ..).mono (by decide)).after ?_) | split
    | (with_reducible refine Same.fst (by assumption) ?_))
theorem xoffRepeat_same : ∀ n c prio s, Same 1058 s (xoffRepeat n c prio s) := by
  intro n c prio s
  unfold xoffRepeat
  try dsimp only
  repeat' (first
    | with_reducible exact Same.rfl' _ | (with_reducible refine Same.ite ?_ ?_) | (with_reducible refine Same.iteFst ?_ ?_)
    | (with_reducible refine ((sendPause_same ..).mono (by decide)).after ?_)
    | (with_reducible refine ((setPort_same ..).mono (by decide)).after ?_) | split
    | (with_reducible refine Same.fst (by assumption) ?_))
theorem fifoPush_same : ∀ n f s, Same 1024 s (fifoPush n f s) := by
  intro n f s
  unfold fifoPush
  try dsimp only
  repeat' (first
    | with_reducible exact Same.rfl' _ | (with_reducible refine ((Same.setPorts _ _).mono (by decide)).after ?_))
theorem macRefused_same : ∀ n s, Same 52 s (macRefused n s) := by
  intro n s
  unfold macRefused
  try dsimp only
  repeat' (first
    | with_reducible exact Same.rfl' _ | (with_reducible refine ((raiseLimited_same ..).mono (by decide)).after ?_)
    | (with_reducible refine ((bump32_same ..).mono (by decide)).after ?_))
theorem frameRx_same : ∀ n f s, Same 1076 s (frameRx n f s) := by
  intro n f s
  unfold frameRx
  try dsimp only
  repeat' (first
    | with_reducible exact Same.rfl' _ | (with_reducible refine Same.ite ?_ ?_) | (with_reducible refine Same.iteFst ?_ ?_)
    | (with_reducible refine ((bump48_same ..).mono (by decide)).after ?_)
    | (with_reducible refine ((macRefused_same ..).mono (by decide)).after ?_)
    | (with_reducible refine ((fifoPush_same ..).mono (by decide)).after ?_) | split
    | (with_reducible refine Same.fst (by assumption) ?_))
theorem execPortEnable_same : ∀ n s t, execPortEnable n s = .next t → Same 8389664 s t := by
  intro n s t h
  injection h with h
  subst h
  try dsimp only
  repeat' (first
    | with_reducible exact Same.rfl' _ | (with_reducible refine ((portEnable_same ..).mono (by decide)).after ?_))
theorem execPortDisable_same : ∀ n cut s t, execPortDisable n cut s = .next t → Same 8498230 s t := by
  intro n cut s t h
  injection h with h
  subst h
  try dsimp only
  repeat' (first
    | with_reducible exact Same.rfl' _ | (with_reducible refine ((portDisable_same ..).mono (by decide)).after ?_))
theorem execPgModeWrite_same : ∀ g v rx s t, execPgModeWrite g v rx s = .next t → Same 8498230 s t := by
  intro g v rx s t h
  injection h with h
  subst h
  try dsimp only
  repeat' (first
    | with_reducible exact Same.rfl' _ | (with_reducible refine Same.ite ?_ ?_) | (with_reducible refine Same.iteFst ?_ ?_)
    | (with_reducible refine ((pgMode_same ..).mono (by decide)).after ?_) | split)
theorem execAnResolved_same : ∀ n code r s t, execAnResolved n code r s = .next t → Same 1024 s t := by
  intro n code r s t h
  injection h with h
  subst h
  try dsimp only
  repeat' (first
    | with_reducible exact Same.rfl' _ | (with_reducible refine ((anResolved_same ..).mono (by decide)).after ?_))
theorem execAnNoCommon_same : ∀ n abilities s t, execAnNoCommon n abilities s = .next t → Same 1040 s t := by
  intro n abilities s t h
  injection h with h
  subst h
  try dsimp only
  repeat' (first
    | with_reducible exact Same.rfl' _ | (with_reducible refine ((anNoCommon_same ..).mono (by decide)).after ?_))
theorem execTrainDone_same : ∀ d s t, execTrainDone d s = .next t → Same 1024 s t := by
  intro d s t h
  injection h with h
  subst h
  try dsimp only
  repeat' (first
    | with_reducible exact Same.rfl' _ | (with_reducible refine ((trainDone_same ..).mono (by decide)).after ?_))
theorem execTrainTimeout_same : ∀ n s t, execTrainTimeout n s = .next t → Same 1072 s t := by
  intro n s t h
  injection h with h
  subst h
  try dsimp only
  repeat' (first
    | with_reducible exact Same.rfl' _ | (with_reducible refine ((trainTimeout_same ..).mono (by decide)).after ?_))
theorem execLinkUp_same : ∀ n rx s t, execLinkUp n rx s = .next t → Same 9266 s t := by
  intro n rx s t h
  injection h with h
  subst h
  try dsimp only
  repeat' (first
    | with_reducible exact Same.rfl' _ | (with_reducible refine ((linkUp_same ..).mono (by decide)).after ?_))
theorem execAlignTimeout_same : ∀ n s t, execAlignTimeout n s = .next t → Same 1024 s t := by
  intro n s t h
  injection h with h
  subst h
  try dsimp only
  repeat' (first
    | with_reducible exact Same.rfl' _ | (with_reducible refine ((alignTimeout_same ..).mono (by decide)).after ?_))
theorem execLinkDown_same : ∀ n cause cut s t, execLinkDown n cause cut s = .next t → Same 1072 s t := by
  intro n cause cut s t h
  injection h with h
  subst h
  try dsimp only
  repeat' (first
    | with_reducible exact Same.rfl' _ | (with_reducible refine ((linkDown_same ..).mono (by decide)).after ?_))
theorem execRemoteFault_same : ∀ n s t, execRemoteFault n s = .next t → Same 1072 s t := by
  intro n s t h
  injection h with h
  subst h
  try dsimp only
  repeat' (first
    | with_reducible exact Same.rfl' _ | (with_reducible refine ((remoteFault_same ..).mono (by decide)).after ?_))
theorem execRemoteFaultClear_same : ∀ n s t, execRemoteFaultClear n s = .next t → Same 1074 s t := by
  intro n s t h
  injection h with h
  subst h
  try dsimp only
  repeat' (first
    | with_reducible exact Same.rfl' _ | (with_reducible refine ((remoteFaultClear_same ..).mono (by decide)).after ?_))
theorem execFecDegraded_same : ∀ n corrected uncorrected symbols s t, execFecDegraded n corrected uncorrected symbols s = .next t → Same 48 s t := by
  intro n corrected uncorrected symbols s t h
  injection h with h
  subst h
  try dsimp only
  repeat' (first
    | with_reducible exact Same.rfl' _ | (with_reducible refine ((fecDegraded_same ..).mono (by decide)).after ?_))
theorem execPauseFrameRx_same : ∀ n c pfc vector quanta s t, execPauseFrameRx n c pfc vector quanta s = .next t → Same 1056 s t := by
  intro n c pfc vector quanta s t h
  injection h with h
  subst h
  try dsimp only
  repeat' (first
    | with_reducible exact Same.rfl' _ | (with_reducible refine ((pauseRx_same ..).mono (by decide)).after ?_))
theorem execRxPauseExpiry_same : ∀ n c prio s t, execRxPauseExpiry n c prio s = .next t → Same 1024 s t := by
  intro n c prio s t h
  injection h with h
  subst h
  try dsimp only
  repeat' (first
    | with_reducible exact Same.rfl' _ | (with_reducible refine ((rxPauseExpiry_same ..).mono (by decide)).after ?_))
theorem execXoffRepeat_same : ∀ n c prio s t, execXoffRepeat n c prio s = .next t → Same 1058 s t := by
  intro n c prio s t h
  injection h with h
  subst h
  try dsimp only
  repeat' (first
    | with_reducible exact Same.rfl' _ | (with_reducible refine ((xoffRepeat_same ..).mono (by decide)).after ?_))
theorem execPortDownFlush_same : ∀ n s t, execPortDownFlush n s = .next t → Same 109622 s t := by
  intro n s t h
  injection h with h
  subst h
  try dsimp only
  repeat' (first
    | with_reducible exact Same.rfl' _ | (with_reducible refine ((portDownFlush_same ..).mono (by decide)).after ?_))
theorem execFrameRx_same : ∀ n f s t, execFrameRx n f s = .next t → Same 1076 s t := by
  intro n f s t h
  injection h with h
  subst h
  try dsimp only
  repeat' (first
    | with_reducible exact Same.rfl' _ | (with_reducible refine ((frameRx_same ..).mono (by decide)).after ?_))

/-! ### Crossing -/

theorem setIssue_same : ∀ p n l s, Same 262144 s (setIssue p n l s) := by
  intro p n l s
  unfold setIssue
  try dsimp only
  repeat' (first
    | with_reducible exact Same.rfl' _ | (with_reducible refine Same.ite ?_ ?_) | (with_reducible refine Same.iteFst ?_ ?_)
    | (with_reducible refine ((Same.setFlow _ _).mono (by decide)).after ?_) | split)
theorem setInput_same : ∀ n p l s, Same 262144 s (setInput n p l s) := by
  intro n p l s
  unfold setInput
  try dsimp only
  repeat' (first
    | with_reducible exact Same.rfl' _ | (with_reducible refine Same.ite ?_ ?_) | (with_reducible refine Same.iteFst ?_ ?_)
    | (with_reducible refine ((modSl_same ..).mono (by decide)).after ?_) | split)
theorem setCross_same : ∀ d l s, Same 262144 s (setCross d l s) := by
  intro d l s
  unfold setCross
  try dsimp only
  repeat' (first
    | with_reducible exact Same.rfl' _ | (with_reducible refine Same.ite ?_ ?_) | (with_reducible refine Same.iteFst ?_ ?_)
    | (with_reducible refine ((Same.setFlow _ _).mono (by decide)).after ?_) | split)
theorem moveNear_same : ∀ p n s, Same 262144 s (moveNear p n s) := by
  intro p n s
  unfold moveNear
  try dsimp only
  repeat' (first
    | with_reducible exact Same.rfl' _ | (with_reducible refine Same.ite ?_ ?_) | (with_reducible refine Same.iteFst ?_ ?_)
    | (with_reducible refine ((setIssue_same ..).mono (by decide)).after ?_)
    | (with_reducible refine ((setInput_same ..).mono (by decide)).after ?_) | split)
theorem drainCross_same : ∀ d s, Same 262144 s (drainCross d s) := by
  intro d s
  unfold drainCross
  try dsimp only
  repeat' (first
    | with_reducible exact Same.rfl' _ | (with_reducible refine Same.ite ?_ ?_) | (with_reducible refine Same.iteFst ?_ ?_)
    | (with_reducible refine ((setInput_same ..).mono (by decide)).after ?_)
    | (with_reducible refine ((setCross_same ..).mono (by decide)).after ?_)
    | (with_reducible refine (Same.foldl (fun _ _ => ?_) _ _).after ?_)
    | (with_reducible refine (Same.foldlFst (fun _ _ => ?_) _ _).after ?_) | split)
theorem fillCross_same : ∀ d s, Same 262144 s (fillCross d s) := by
  intro d s
  unfold fillCross
  try dsimp only
  repeat' (first
    | with_reducible exact Same.rfl' _ | (with_reducible refine Same.ite ?_ ?_) | (with_reducible refine Same.iteFst ?_ ?_)
    | (with_reducible refine ((setIssue_same ..).mono (by decide)).after ?_)
    | (with_reducible refine ((setCross_same ..).mono (by decide)).after ?_)
    | (with_reducible refine (Same.foldl (fun _ _ => ?_) _ _).after ?_)
    | (with_reducible refine (Same.foldlFst (fun _ _ => ?_) _ _).after ?_) | split)
theorem feed_same : ∀ n s, Same 262144 s (feed n s) := by
  intro n s
  unfold feed
  try dsimp only
  repeat' (first
    | with_reducible exact Same.rfl' _ | (with_reducible refine ((moveNear_same ..).mono (by decide)).after ?_)
    | (with_reducible refine ((drainCross_same ..).mono (by decide)).after ?_)
    | (with_reducible refine ((fillCross_same ..).mono (by decide)).after ?_)
    | (with_reducible refine (Same.foldl (fun _ _ => ?_) _ _).after ?_)
    | (with_reducible refine (Same.foldlFst (fun _ _ => ?_) _ _).after ?_))

/-! ### Lookup -/

theorem unblock_same : ∀ p g s, Same 1058 s (unblock p g s) := by
  intro p g s
  unfold unblock
  try dsimp only
  repeat' (first
    | with_reducible exact Same.rfl' _ | (with_reducible refine Same.ite ?_ ?_) | (with_reducible refine Same.iteFst ?_ ?_)
    | (with_reducible refine ((settlePause_same ..).mono (by decide)).after ?_)
    | (with_reducible refine ((setPort_same ..).mono (by decide)).after ?_)
    | (with_reducible refine (Same.foldl (fun _ _ => ?_) _ _).after ?_)
    | (with_reducible refine (Same.foldlFst (fun _ _ => ?_) _ _).after ?_) | split
    | (with_reducible refine Same.fst (by assumption) ?_))
theorem unstage_same : ∀ x s, Same 3106 s (unstage x s) := by
  intro x s
  unfold unstage
  try dsimp only
  repeat' (first
    | with_reducible exact Same.rfl' _ | (with_reducible refine Same.ite ?_ ?_) | (with_reducible refine Same.iteFst ?_ ?_)
    | (with_reducible refine ((unblock_same ..).mono (by decide)).after ?_)
    | (with_reducible refine ((setPipe_same ..).mono (by decide)).after ?_) | split)
theorem discardPkt_same : ∀ k x outcome stages s, Same 101430 s (discardPkt k x outcome stages s) := by
  intro k x outcome stages s
  unfold discardPkt
  try dsimp only
  repeat' (first
    | with_reducible exact Same.rfl' _ | (with_reducible refine ((record_same ..).mono (by decide)).after ?_)
    | (with_reducible refine ((delPkt_same ..).mono (by decide)).after ?_)
    | (with_reducible refine ((unstage_same ..).mono (by decide)).after ?_))
theorem handOver_same : ∀ k x s, Same 3106 s (handOver k x s) := by
  intro k x s
  unfold handOver
  try dsimp only
  repeat' (first
    | with_reducible exact Same.rfl' _ | (with_reducible refine ((delPkt_same ..).mono (by decide)).after ?_)
    | (with_reducible refine ((unstage_same ..).mono (by decide)).after ?_))
theorem giveMc_same : ∀ k x s, Same 35894 s (giveMc k x s) := by
  intro k x s
  unfold giveMc
  try dsimp only
  repeat' (first
    | with_reducible exact Same.rfl' _ | (with_reducible refine ((takePkt_same ..).mono (by decide)).after ?_)
    | (with_reducible refine ((unstage_same ..).mono (by decide)).after ?_)
    | (with_reducible refine ((Same.setPath _ _).mono (by decide)).after ?_))
theorem toTime_same : ∀ port stamp f s, Same 4148 s (toTime port stamp f s) := by
  intro port stamp f s
  unfold toTime
  try dsimp only
  repeat' (first
    | with_reducible exact Same.rfl' _ | (with_reducible refine ((postItem_same ..).mono (by decide)).after ?_))
theorem substitute_same : ∀ p j k cause v s, Same 52 s (substitute p j k cause v s).1 := by
  intro p j k cause v s
  unfold substitute
  try dsimp only
  repeat' (first
    | with_reducible exact Same.rfl' _ | (with_reducible refine ((raiseLimited_same ..).mono (by decide)).after ?_)
    | (with_reducible refine ((bump48_same ..).mono (by decide)).after ?_))
theorem pairDiffers_same : ∀ j k banks partners a b s, Same 2080 s (pairDiffers j k banks partners a b s) := by
  intro j k banks partners a b s
  unfold pairDiffers
  try dsimp only
  repeat' (first
    | with_reducible exact Same.rfl' _ | (with_reducible refine Same.ite ?_ ?_) | (with_reducible refine Same.iteFst ?_ ?_)
    | (with_reducible refine ((bump32_same ..).mono (by decide)).after ?_)
    | (with_reducible refine ((setBank_same ..).mono (by decide)).after ?_) | split
    | (with_reducible refine Same.fst (by assumption) ?_))
theorem lookup_same : ∀ p img c j k dead v s, Same 2100 s (lookup p img c j k dead v s).1 := by
  intro p img c j k dead v s
  unfold lookup
  try dsimp only
  repeat' (first
    | with_reducible exact Same.rfl' _ | (with_reducible refine Same.ite ?_ ?_) | (with_reducible refine Same.iteFst ?_ ?_)
    | (with_reducible refine ((substitute_same ..).mono (by decide)).after ?_)
    | (with_reducible refine ((pipeEvent_same ..).mono (by decide)).after ?_)
    | (with_reducible refine ((bump48_same ..).mono (by decide)).after ?_)
    | (with_reducible refine ((setPipe_same ..).mono (by decide)).after ?_)
    | (with_reducible refine ((pairDiffers_same ..).mono (by decide)).after ?_) | split
    | (with_reducible refine Same.fst (by assumption) ?_))
theorem lookups_same : ∀ p img c j dead v old s, Same 2100 s (lookups p img c j dead v old s).1 := by
  intro p img c j dead v old s
  unfold lookups
  try dsimp only
  repeat' (first
    | with_reducible exact Same.rfl' _ | (with_reducible refine ((lookup_same ..).mono (by decide)).after ?_) | split
    | (with_reducible refine Same.fst (by assumption) ?_))
theorem decide138_same : ∀ x img j c act member s, Same 32 s (decide138 x img j c act member s).1 := by
  intro x img j c act member s
  unfold decide138
  try dsimp only
  repeat' (first
    | with_reducible exact Same.rfl' _ | (with_reducible refine Same.ite ?_ ?_) | (with_reducible refine Same.iteFst ?_ ?_)
    | (with_reducible refine ((pipeEvent_same ..).mono (by decide)).after ?_)
    | (with_reducible refine ((bump48_same ..).mono (by decide)).after ?_) | split
    | (with_reducible refine Same.fst (by assumption) ?_))
theorem queueLearn_same : ∀ x s, Same 2048 s (queueLearn x s) := by
  intro x s
  unfold queueLearn
  try dsimp only
  repeat' (first
    | with_reducible exact Same.rfl' _ | (with_reducible refine ((setFwd_same ..).mono (by decide)).after ?_) | split
    | (with_reducible refine Same.fst (by assumption) ?_))
theorem egressFinal_same : ∀ k x out stages s, Same 101430 s (egressFinal k x out stages s) := by
  intro k x out stages s
  unfold egressFinal
  try dsimp only
  repeat' (first
    | with_reducible exact Same.rfl' _ | (with_reducible refine Same.ite ?_ ?_) | (with_reducible refine Same.iteFst ?_ ?_)
    | (with_reducible refine ((bump48_same ..).mono (by decide)).after ?_)
    | (with_reducible refine ((queueLearn_same ..).mono (by decide)).after ?_)
    | (with_reducible refine ((discardPkt_same ..).mono (by decide)).after ?_)
    | (with_reducible refine ((Same.setPath _ _).mono (by decide)).after ?_)
    | (with_reducible refine ((putPkt_same ..).mono (by decide)).after ?_) | split
    | (with_reducible refine Same.fst (by assumption) ?_))
theorem issueOp_same : ∀ k x q held s, Same 264224 s (issueOp k x q held s) := by
  intro k x q held s
  unfold issueOp
  try dsimp only
  repeat' (first
    | with_reducible exact Same.rfl' _ | (with_reducible refine Same.ite ?_ ?_) | (with_reducible refine Same.iteFst ?_ ?_)
    | (with_reducible refine ((feed_same ..).mono (by decide)).after ?_)
    | (with_reducible refine ((setIssue_same ..).mono (by decide)).after ?_)
    | (with_reducible refine ((pipeEvent_same ..).mono (by decide)).after ?_)
    | (with_reducible refine ((putPkt_same ..).mono (by decide)).after ?_) | split)
theorem crossPump_same : ∀ d x x2, Same 134178 x2 (crossPump d x x2) := by
  intro d x x2
  induction x generalizing d x2 with
  | zero => exact Same.rfl' _
  | succ k0 ih =>
    unfold crossPump
    try dsimp only
    repeat' (first
      | with_reducible exact Same.rfl' _ | (with_reducible refine Same.ite ?_ ?_) | (with_reducible refine Same.iteFst ?_ ?_)
      | (with_reducible refine ((bump32_same ..).mono (by decide)).after ?_)
      | (with_reducible refine ((setHalf_same ..).mono (by decide)).after ?_)
      | (with_reducible refine ((handOver_same ..).mono (by decide)).after ?_)
      | (with_reducible refine ((linkSend_same ..).mono (by decide)).after ?_)
      | (with_reducible refine ((useLink_same ..).mono (by decide)).after ?_) | (with_reducible refine (ih ..).after ?_)
      | split | (with_reducible refine Same.fst (by assumption) ?_))
theorem crossOver_same : ∀ k x s, Same 232502 s (crossOver k x s) := by
  intro k x s
  unfold crossOver
  try dsimp only
  repeat' (first
    | with_reducible exact Same.rfl' _ | (with_reducible refine Same.ite ?_ ?_) | (with_reducible refine Same.iteFst ?_ ?_)
    | (with_reducible refine ((putPkt_same ..).mono (by decide)).after ?_)
    | (with_reducible refine ((crossPump_same ..).mono (by decide)).after ?_)
    | (with_reducible refine ((discardPkt_same ..).mono (by decide)).after ?_)
    | (with_reducible refine ((bump32_same ..).mono (by decide)).after ?_) | split)
theorem finalPass_same : ∀ k x img j found s, Same 494902 s (finalPass k x img j found s) := by
  intro k x img j found s
  unfold finalPass
  try dsimp only
  repeat' (first
    | with_reducible exact Same.rfl' _ | (with_reducible refine Same.ite ?_ ?_) | (with_reducible refine Same.iteFst ?_ ?_)
    | (with_reducible refine ((recordFault_same ..).mono (by decide)).after ?_)
    | (with_reducible refine ((discardPkt_same ..).mono (by decide)).after ?_)
    | (with_reducible refine ((bump48_same ..).mono (by decide)).after ?_)
    | (with_reducible refine ((bump32_same ..).mono (by decide)).after ?_)
    | (with_reducible refine ((crossOver_same ..).mono (by decide)).after ?_)
    | (with_reducible refine ((decide138_same ..).mono (by decide)).after ?_)
    | (with_reducible refine ((issueOp_same ..).mono (by decide)).after ?_)
    | (with_reducible refine ((egressFinal_same ..).mono (by decide)).after ?_) | split
    | (with_reducible refine Same.fst (by assumption) ?_))
theorem flagPass_same : ∀ p x r s, Same 2080 s (flagPass p x r s).1 := by
  intro p x r s
  unfold flagPass
  try dsimp only
  repeat' (first
    | with_reducible exact Same.rfl' _ | (with_reducible refine Same.ite ?_ ?_) | (with_reducible refine Same.iteFst ?_ ?_)
    | (with_reducible refine ((pipeEvent_same ..).mono (by decide)).after ?_)
    | (with_reducible refine ((setPipe_same ..).mono (by decide)).after ?_) | split)
theorem recircRefused_same : ∀ p s, Same 2100 s (recircRefused p s) := by
  intro p s
  unfold recircRefused
  try dsimp only
  repeat' (first
    | with_reducible exact Same.rfl' _ | (with_reducible refine ((raiseOnce_same ..).mono (by decide)).after ?_)
    | (with_reducible refine ((bump48_same ..).mono (by decide)).after ?_)
    | (with_reducible refine ((setPipe_same ..).mono (by decide)).after ?_))
theorem fullPass_same : ∀ k x found s, Same 494902 s (fullPass k x found s) := by
  intro k x found s
  unfold fullPass
  try dsimp only
  repeat' (first
    | with_reducible exact Same.rfl' _ | (with_reducible refine Same.ite ?_ ?_) | (with_reducible refine Same.iteFst ?_ ?_)
    | (with_reducible refine ((flagPass_same ..).mono (by decide)).after ?_)
    | (with_reducible refine ((countPass_same ..).mono (by decide)).after ?_)
    | (with_reducible refine ((bump48_same ..).mono (by decide)).after ?_)
    | (with_reducible refine ((lookups_same ..).mono (by decide)).after ?_)
    | (with_reducible refine ((countRcmp_same ..).mono (by decide)).after ?_)
    | (with_reducible refine ((discardPkt_same ..).mono (by decide)).after ?_)
    | (with_reducible refine ((giveMc_same ..).mono (by decide)).after ?_)
    | (with_reducible refine ((finalPass_same ..).mono (by decide)).after ?_)
    | (with_reducible refine ((putPkt_same ..).mono (by decide)).after ?_)
    | (with_reducible refine ((recircRefused_same ..).mono (by decide)).after ?_) | split
    | (with_reducible refine Same.fst (by assumption) ?_))
theorem bootstrapPass_same : ∀ k x s, Same 105526 s (bootstrapPass k x s) := by
  intro k x s
  unfold bootstrapPass
  try dsimp only
  repeat' (first
    | with_reducible exact Same.rfl' _ | (with_reducible refine ((countRcmp_same ..).mono (by decide)).after ?_)
    | (with_reducible refine ((discardPkt_same ..).mono (by decide)).after ?_)
    | (with_reducible refine ((giveMc_same ..).mono (by decide)).after ?_)
    | (with_reducible refine ((toTime_same ..).mono (by decide)).after ?_)
    | (with_reducible refine ((takePkt_same ..).mono (by decide)).after ?_)
    | (with_reducible refine ((unstage_same ..).mono (by decide)).after ?_)
    | (with_reducible refine ((egressFinal_same ..).mono (by decide)).after ?_) | split
    | (with_reducible refine Same.fst (by assumption) ?_))
theorem firstPass_same : ∀ x found s, Same 498998 s (firstPass x found s) := by
  intro x found s
  unfold firstPass
  try dsimp only
  repeat' (first
    | with_reducible exact Same.rfl' _ | (with_reducible refine Same.ite ?_ ?_) | (with_reducible refine Same.iteFst ?_ ?_)
    | (with_reducible refine ((sampleMode_same ..).mono (by decide)).after ?_)
    | (with_reducible refine ((newPkt_same ..).mono (by decide)).after ?_)
    | (with_reducible refine ((bootstrapPass_same ..).mono (by decide)).after ?_)
    | (with_reducible refine ((fullPass_same ..).mono (by decide)).after ?_) | split
    | (with_reducible refine Same.fst (by assumption) ?_))
theorem popFifo_same : ∀ n s, Same 1024 s (popFifo n s) := by
  intro n s
  unfold popFifo
  try dsimp only
  repeat' (first
    | with_reducible exact Same.rfl' _ | (with_reducible refine ((Same.setPorts _ _).mono (by decide)).after ?_) | split
    | (with_reducible refine Same.fst (by assumption) ?_))
theorem frontPass_same : ∀ p n found s, Same 498998 s (frontPass p n found s) := by
  intro p n found s
  unfold frontPass
  try dsimp only
  repeat' (first
    | with_reducible exact Same.rfl' _ | (with_reducible refine Same.ite ?_ ?_) | (with_reducible refine Same.iteFst ?_ ?_)
    | (with_reducible refine ((toTime_same ..).mono (by decide)).after ?_)
    | (with_reducible refine ((popFifo_same ..).mono (by decide)).after ?_)
    | (with_reducible refine ((pipeEvent_same ..).mono (by decide)).after ?_)
    | (with_reducible refine ((settlePause_same ..).mono (by decide)).after ?_)
    | (with_reducible refine ((setPort_same ..).mono (by decide)).after ?_)
    | (with_reducible refine ((setPipe_same ..).mono (by decide)).after ?_)
    | (with_reducible refine ((firstPass_same ..).mono (by decide)).after ?_) | split
    | (with_reducible refine Same.fst (by assumption) ?_))
theorem serviceSlot_same : ∀ p i s, Same 2080 s (serviceSlot p i s) := by
  intro p i s
  unfold serviceSlot
  try dsimp only
  repeat' (first
    | with_reducible exact Same.rfl' _ | (with_reducible refine Same.ite ?_ ?_) | (with_reducible refine Same.iteFst ?_ ?_)
    | (with_reducible refine ((pipeEvent_same ..).mono (by decide)).after ?_)
    | (with_reducible refine ((setPipe_same ..).mono (by decide)).after ?_) | split)
theorem holdHost_same : ∀ p s, Same 1058 s (holdHost p s) := by
  intro p s
  unfold holdHost
  try dsimp only
  repeat' (first
    | with_reducible exact Same.rfl' _ | (with_reducible refine Same.ite ?_ ?_) | (with_reducible refine Same.iteFst ?_ ?_)
    | (with_reducible refine ((settlePause_same ..).mono (by decide)).after ?_)
    | (with_reducible refine ((setPort_same ..).mono (by decide)).after ?_) | split
    | (with_reducible refine Same.fst (by assumption) ?_))
theorem servicePass_same : ∀ p found s, Same 498998 s (servicePass p found s) := by
  intro p found s
  unfold servicePass
  try dsimp only
  repeat' (first
    | with_reducible exact Same.rfl' _ | (with_reducible refine Same.ite ?_ ?_) | (with_reducible refine Same.iteFst ?_ ?_)
    | (with_reducible refine ((toTime_same ..).mono (by decide)).after ?_)
    | (with_reducible refine ((popFifo_same ..).mono (by decide)).after ?_)
    | (with_reducible refine ((holdHost_same ..).mono (by decide)).after ?_)
    | (with_reducible refine ((firstPass_same ..).mono (by decide)).after ?_)
    | (with_reducible refine ((serviceSlot_same ..).mono (by decide)).after ?_)
    | (with_reducible refine ((Same.setPath _ _).mono (by decide)).after ?_) | split
    | (with_reducible refine Same.fst (by assumption) ?_))
theorem replyPass_same : ∀ p n g s, Same 101430 s (replyPass p n g s) := by
  intro p n g s
  unfold replyPass
  try dsimp only
  repeat' (first
    | with_reducible exact Same.rfl' _ | (with_reducible refine ((egressFinal_same ..).mono (by decide)).after ?_)
    | (with_reducible refine ((newPkt_same ..).mono (by decide)).after ?_)
    | (with_reducible refine ((serviceSlot_same ..).mono (by decide)).after ?_))
theorem generatedPass_same : ∀ p g found s, Same 498998 s (generatedPass p g found s) := by
  intro p g found s
  unfold generatedPass
  try dsimp only
  repeat' (first
    | with_reducible exact Same.rfl' _ | (with_reducible refine ((replyPass_same ..).mono (by decide)).after ?_)
    | (with_reducible refine ((firstPass_same ..).mono (by decide)).after ?_)
    | (with_reducible refine ((serviceSlot_same ..).mono (by decide)).after ?_) | split
    | (with_reducible refine Same.fst (by assumption) ?_))
theorem pipelinePass_same : ∀ p src found s, Same 498998 s (pipelinePass p src found s) := by
  intro p src found s
  unfold pipelinePass
  try dsimp only
  repeat' (first
    | with_reducible exact Same.rfl' _ | (with_reducible refine Same.ite ?_ ?_) | (with_reducible refine Same.iteFst ?_ ?_)
    | (with_reducible refine ((frontPass_same ..).mono (by decide)).after ?_)
    | (with_reducible refine ((servicePass_same ..).mono (by decide)).after ?_)
    | (with_reducible refine ((fullPass_same ..).mono (by decide)).after ?_)
    | (with_reducible refine ((serviceSlot_same ..).mono (by decide)).after ?_)
    | (with_reducible refine ((generatedPass_same ..).mono (by decide)).after ?_)
    | (with_reducible refine ((Same.setPath _ _).mono (by decide)).after ?_) | split
    | (with_reducible refine Same.fst (by assumption) ?_))
theorem execPipelinePass_same : ∀ p src found s t, execPipelinePass p src found s = .next t → Same 498998 s t := by
  intro p src found s t h
  injection h with h
  subst h
  try dsimp only
  repeat' (first
    | with_reducible exact Same.rfl' _ | (with_reducible refine ((pipelinePass_same ..).mono (by decide)).after ?_))

end Sys2Proof.Machine
end

