-- ==== Sys2Proof/Laws/SameFlow.lean ====
section
/-! SUPPORT. What records, tiers, the pipelines and the time unit leave unchanged: the footprint of each operation. -/

namespace Sys2Proof.Machine

/-! ### Tiers -/

theorem fillEvents_same : ∀ n s, Same 262160 s (fillEvents n s) := by
  intro n s
  unfold fillEvents
  try dsimp only
  repeat' (first
    | with_reducible exact Same.rfl' _ | (with_reducible refine Same.ite ?_ ?_) | (with_reducible refine Same.iteFst ?_ ?_)
    | (with_reducible refine ((setSl_same ..).mono (by decide)).after ?_)
    | (with_reducible refine ((raise_same ..).mono (by decide)).after ?_) | split
    | (with_reducible refine Same.fst (by assumption) ?_))
theorem walkMove_same : ∀ n e src dst s, Same 131120 s (walkMove n e src dst s) := by
  intro n e src dst s
  unfold walkMove
  try dsimp only
  repeat' (first
    | with_reducible exact Same.rfl' _ | (with_reducible refine Same.ite ?_ ?_) | (with_reducible refine Same.iteFst ?_ ?_)
    | (with_reducible refine ((enterDelta_same ..).mono (by decide)).after ?_) | split)
theorem walkMoves_same : ∀ n moves s, Same 131120 s (walkMoves n moves s) := by
  intro n moves s
  unfold walkMoves
  try dsimp only
  repeat' (first
    | with_reducible exact Same.rfl' _ | (with_reducible refine Same.ite ?_ ?_) | (with_reducible refine Same.iteFst ?_ ?_)
    | (with_reducible refine ((walkMove_same ..).mono (by decide)).after ?_)
    | (with_reducible refine (Same.foldl (fun _ _ => ?_) _ _).after ?_)
    | (with_reducible refine (Same.foldlFst (fun _ _ => ?_) _ _).after ?_) | split)
theorem metFail_same : ∀ n tier idx s, Same 262144 s (metFail n tier idx s) := by
  intro n tier idx s
  unfold metFail
  try dsimp only
  repeat' (first
    | with_reducible exact Same.rfl' _ | (with_reducible refine ((modSl_same ..).mono (by decide)).after ?_))
theorem migrateAbort_same : ∀ n kind d addr s, Same 52 s (migrateAbort n kind d addr s) := by
  intro n kind d addr s
  unfold migrateAbort
  try dsimp only
  repeat' (first
    | with_reducible exact Same.rfl' _ | (with_reducible refine ((raiseLimited_same ..).mono (by decide)).after ?_)
    | (with_reducible refine ((slCount_same ..).mono (by decide)).after ?_))
theorem touchWay_same : ∀ n k s, Same 262144 s (touchWay n k s) := by
  intro n k s
  unfold touchWay
  try dsimp only
  repeat' (first
    | with_reducible exact Same.rfl' _ | (with_reducible refine ((setSl_same ..).mono (by decide)).after ?_) | split
    | (with_reducible refine Same.fst (by assumption) ?_))
theorem useBucket_same : ∀ n b c packet s, Same 262176 s (useBucket n b c packet s) := by
  intro n b c packet s
  unfold useBucket
  try dsimp only
  repeat' (first
    | with_reducible exact Same.rfl' _ | (with_reducible refine Same.ite ?_ ?_) | (with_reducible refine Same.iteFst ?_ ?_)
    | (with_reducible refine ((slEvent_same ..).mono (by decide)).after ?_)
    | (with_reducible refine ((modSl_same ..).mono (by decide)).after ?_)
    | (with_reducible refine ((useRec_same ..).mono (by decide)).after ?_)
    | (with_reducible refine ((useBack_same ..).mono (by decide)).after ?_) | split)
theorem putAt_same : ∀ n p packet e s, Same 294944 s (putAt n p packet e s) := by
  intro n p packet e s
  unfold putAt
  try dsimp only
  repeat' (first
    | with_reducible exact Same.rfl' _ | (with_reducible refine ((setSl_same ..).mono (by decide)).after ?_)
    | (with_reducible refine ((useBucket_same ..).mono (by decide)).after ?_)
    | (with_reducible refine ((useTurf_same ..).mono (by decide)).after ?_) | split
    | (with_reducible refine Same.fst (by assumption) ?_))
theorem wheelDrop_same : ∀ n d s, Same 262144 s (wheelDrop n d s) := by
  intro n d s
  unfold wheelDrop
  try dsimp only
  repeat' (first
    | with_reducible exact Same.rfl' _ | (with_reducible refine ((setSl_same ..).mono (by decide)).after ?_))
theorem dropEntry_same : ∀ n d e s, Same 262192 s (dropEntry n d e s) := by
  intro n d e s
  unfold dropEntry
  try dsimp only
  repeat' (first
    | with_reducible exact Same.rfl' _ | (with_reducible refine ((fillEvents_same ..).mono (by decide)).after ?_)
    | (with_reducible refine ((useBack_same ..).mono (by decide)).after ?_)
    | (with_reducible refine ((setSl_same ..).mono (by decide)).after ?_) | split
    | (with_reducible refine Same.fst (by assumption) ?_))
theorem tierAway_same : ∀ n cls inst s, Same 52 s (tierAway n cls inst s) := by
  intro n cls inst s
  unfold tierAway
  try dsimp only
  repeat' (first
    | with_reducible exact Same.rfl' _ | (with_reducible refine ((raiseLimited_same ..).mono (by decide)).after ?_)
    | (with_reducible refine ((slCount_same ..).mono (by decide)).after ?_))
theorem lookupWork_same : ∀ n d key r s, Same 294964 s (lookupWork n d key r s) := by
  intro n d key r s
  unfold lookupWork
  try dsimp only
  repeat' (first
    | with_reducible exact Same.rfl' _ | (with_reducible refine Same.ite ?_ ?_) | (with_reducible refine Same.iteFst ?_ ?_)
    | (with_reducible refine ((useBack_same ..).mono (by decide)).after ?_)
    | (with_reducible refine ((useTurf_same ..).mono (by decide)).after ?_)
    | (with_reducible refine ((slCount_same ..).mono (by decide)).after ?_)
    | (with_reducible refine ((touchWay_same ..).mono (by decide)).after ?_)
    | (with_reducible refine ((tierAway_same ..).mono (by decide)).after ?_)
    | (with_reducible refine ((modSl_same ..).mono (by decide)).after ?_) | split
    | (with_reducible refine Same.fst (by assumption) ?_))
theorem backServed_same : ∀ n i s, Same 262144 s (backServed n i s) := by
  intro n i s
  unfold backServed
  try dsimp only
  repeat' (first
    | with_reducible exact Same.rfl' _ | (with_reducible refine ((modSl_same ..).mono (by decide)).after ?_))

/-! ### Translate -/

theorem setPart_same : ∀ n k p s, Same 262144 s (setPart n k p s) := by
  intro n k p s
  unfold setPart
  try dsimp only
  repeat' (first
    | with_reducible exact Same.rfl' _ | (with_reducible refine ((modSl_same ..).mono (by decide)).after ?_))
theorem allocPair_same : ∀ n k d s, Same 262176 s (allocPair n k d s).1 := by
  intro n k d s
  unfold allocPair
  try dsimp only
  repeat' (first
    | with_reducible exact Same.rfl' _ | (with_reducible refine ((setPart_same ..).mono (by decide)).after ?_)
    | (with_reducible refine ((slCount_same ..).mono (by decide)).after ?_) | split
    | (with_reducible refine Same.fst (by assumption) ?_))
theorem allocPairNow_same : ∀ n k d s, Same 262176 s (allocPairNow n k d s).1 := by
  intro n k d s
  unfold allocPairNow
  try dsimp only
  repeat' (first
    | with_reducible exact Same.rfl' _ | (with_reducible refine ((allocPair_same ..).mono (by decide)).after ?_)
    | (with_reducible refine ((setPart_same ..).mono (by decide)).after ?_) | split
    | (with_reducible refine Same.fst (by assumption) ?_))
theorem releasePair_same : ∀ n e s, Same 262176 s (releasePair n e s) := by
  intro n e s
  unfold releasePair
  try dsimp only
  repeat' (first
    | with_reducible exact Same.rfl' _ | (with_reducible refine Same.ite ?_ ?_) | (with_reducible refine Same.iteFst ?_ ?_)
    | (with_reducible refine ((slCount_same ..).mono (by decide)).after ?_)
    | (with_reducible refine ((setPart_same ..).mono (by decide)).after ?_)
    | (with_reducible refine ((useSvc_same ..).mono (by decide)).after ?_) | split
    | (with_reducible refine Same.fst (by assumption) ?_))
theorem markPair_same : ∀ n e s, Same 262176 s (markPair n e s) := by
  intro n e s
  unfold markPair
  try dsimp only
  repeat' (first
    | with_reducible exact Same.rfl' _ | (with_reducible refine Same.ite ?_ ?_) | (with_reducible refine Same.iteFst ?_ ?_)
    | (with_reducible refine ((slCount_same ..).mono (by decide)).after ?_)
    | (with_reducible refine ((setPart_same ..).mono (by decide)).after ?_) | split
    | (with_reducible refine Same.fst (by assumption) ?_))
theorem leakPair_same : ∀ n e s, Same 32 s (leakPair n e s) := by
  intro n e s
  unfold leakPair
  try dsimp only
  repeat' (first
    | with_reducible exact Same.rfl' _ | (with_reducible refine Same.ite ?_ ?_) | (with_reducible refine Same.iteFst ?_ ?_)
    | (with_reducible refine ((slCount_same ..).mono (by decide)).after ?_) | split)
theorem translate_same : ∀ n kind pool key member s, Same 262176 s (translate n kind pool key member s).1 := by
  intro n kind pool key member s
  unfold translate
  try dsimp only
  repeat' (first
    | with_reducible exact Same.rfl' _ | (with_reducible refine Same.ite ?_ ?_) | (with_reducible refine Same.iteFst ?_ ?_)
    | (with_reducible refine ((allocPair_same ..).mono (by decide)).after ?_) | split
    | (with_reducible refine Same.fst (by assumption) ?_))
theorem noPair_same : ∀ n pool s, Same 52 s (noPair n pool s) := by
  intro n pool s
  unfold noPair
  try dsimp only
  repeat' (first
    | with_reducible exact Same.rfl' _ | (with_reducible refine ((raiseLimited_same ..).mono (by decide)).after ?_)
    | (with_reducible refine ((slCount_same ..).mono (by decide)).after ?_))
theorem applyPool_same : ∀ k defn s, Same 262160 s (applyPool k defn s) := by
  intro k defn s
  unfold applyPool
  try dsimp only
  repeat' (first
    | with_reducible exact Same.rfl' _ | (with_reducible refine Same.ite ?_ ?_) | (with_reducible refine Same.iteFst ?_ ?_)
    | (with_reducible refine ((Same.setFlow _ _).mono (by decide)).after ?_)
    | (with_reducible refine ((modSl_same ..).mono (by decide)).after ?_)
    | (with_reducible refine ((raise_same ..).mono (by decide)).after ?_)
    | (with_reducible refine (Same.foldl (fun _ _ => ?_) _ _).after ?_)
    | (with_reducible refine (Same.foldlFst (fun _ _ => ?_) _ _).after ?_) | split
    | (with_reducible refine Same.fst (by assumption) ?_))
theorem bodyPoolDefine_same : ∀ r s, Same 393232 s (bodyPoolDefine r s).1 := by
  intro r s
  unfold bodyPoolDefine
  try dsimp only
  repeat' (first
    | with_reducible exact Same.rfl' _ | (with_reducible refine Same.ite ?_ ?_) | (with_reducible refine Same.iteFst ?_ ?_)
    | (with_reducible refine ((twinControl_same ..).mono (by decide)).after ?_)
    | (with_reducible refine ((applyPool_same ..).mono (by decide)).after ?_) | split)
theorem bodyPoolDelete_same : ∀ r s, Same 393232 s (bodyPoolDelete r s).1 := by
  intro r s
  unfold bodyPoolDelete
  try dsimp only
  repeat' (first
    | with_reducible exact Same.rfl' _ | (with_reducible refine Same.ite ?_ ?_) | (with_reducible refine Same.iteFst ?_ ?_)
    | (with_reducible refine ((twinControl_same ..).mono (by decide)).after ?_)
    | (with_reducible refine ((applyPool_same ..).mono (by decide)).after ?_) | split)
theorem bodyPoolRead_same : ∀ r s, Same 0 s (bodyPoolRead r s).1 := by
  intro r s
  unfold bodyPoolRead
  try dsimp only
  repeat' (first
    | with_reducible exact Same.rfl' _ | (with_reducible refine Same.ite ?_ ?_) | (with_reducible refine Same.iteFst ?_ ?_)
    | split)
theorem execPoolDefine_same : ∀ r s t, execPoolDefine r s = .next t → Same 919602 s t := by
  intro r s t h
  injection h with h
  subst h
  try dsimp only
  repeat' (first
    | with_reducible exact Same.rfl' _
    | (with_reducible refine (runToune_same _ _ (by decide) (fun r s => (bodyPoolDefine_same r s).mono (by decide)) _ _).after ?_)
    | (with_reducible refine ((bodyPoolDefine_same ..).mono (by decide)).after ?_))
theorem execPoolDelete_same : ∀ r s t, execPoolDelete r s = .next t → Same 919602 s t := by
  intro r s t h
  injection h with h
  subst h
  try dsimp only
  repeat' (first
    | with_reducible exact Same.rfl' _
    | (with_reducible refine (runToune_same _ _ (by decide) (fun r s => (bodyPoolDelete_same r s).mono (by decide)) _ _).after ?_)
    | (with_reducible refine ((bodyPoolDelete_same ..).mono (by decide)).after ?_))
theorem execPoolRead_same : ∀ r s t, execPoolRead r s = .next t → Same 526386 s t := by
  intro r s t h
  injection h with h
  subst h
  try dsimp only
  repeat' (first
    | with_reducible exact Same.rfl' _
    | (with_reducible refine (runToune_same _ _ (by decide) (fun r s => (bodyPoolRead_same r s).mono (by decide)) _ _).after ?_)
    | (with_reducible refine ((bodyPoolRead_same ..).mono (by decide)).after ?_))
theorem execTransFetchDone_same : ∀ n k s t, execTransFetchDone n k s = .next t → Same 262144 s t := by
  intro n k s t h
  injection h with h
  subst h
  try dsimp only
  repeat' (first
    | with_reducible exact Same.rfl' _ | (with_reducible refine Same.ite ?_ ?_) | (with_reducible refine Same.iteFst ?_ ?_)
    | (with_reducible refine ((useSvc_same ..).mono (by decide)).after ?_)
    | (with_reducible refine ((setPart_same ..).mono (by decide)).after ?_) | split
    | (with_reducible refine Same.fst (by assumption) ?_))

/-! ### Commit -/

theorem putFlight_same : ∀ n f s, Same 262144 s (putFlight n f s) := by
  intro n f s
  unfold putFlight
  try dsimp only
  repeat' (first
    | with_reducible exact Same.rfl' _ | (with_reducible refine Same.ite ?_ ?_) | (with_reducible refine Same.iteFst ?_ ?_)
    | (with_reducible refine ((modSl_same ..).mono (by decide)).after ?_) | split)
theorem delFlight_same : ∀ n d s, Same 262144 s (delFlight n d s) := by
  intro n d s
  unfold delFlight
  try dsimp only
  repeat' (first
    | with_reducible exact Same.rfl' _ | (with_reducible refine ((modSl_same ..).mono (by decide)).after ?_))
theorem setPhase_same : ∀ n d ph s, Same 262144 s (setPhase n d ph s) := by
  intro n d ph s
  unfold setPhase
  try dsimp only
  repeat' (first
    | with_reducible exact Same.rfl' _ | (with_reducible refine ((putFlight_same ..).mono (by decide)).after ?_) | split
    | (with_reducible refine Same.fst (by assumption) ?_))
theorem dropHead_same : ∀ n d s, Same 262144 s (dropHead n d s) := by
  intro n d s
  unfold dropHead
  try dsimp only
  repeat' (first
    | with_reducible exact Same.rfl' _ | (with_reducible refine ((putFlight_same ..).mono (by decide)).after ?_) | split
    | (with_reducible refine Same.fst (by assumption) ?_))
theorem episodes_same : ∀ n s, Same 262144 s (episodes n s) := by
  intro n s
  unfold episodes
  try dsimp only
  repeat' (first
    | with_reducible exact Same.rfl' _ | (with_reducible refine ((modSl_same ..).mono (by decide)).after ?_))
theorem opResult_same : ∀ n op r s, Same 262144 s (opResult n op r s) := by
  intro n op r s
  unfold opResult
  try dsimp only
  repeat' (first
    | with_reducible exact Same.rfl' _ | (with_reducible refine ((Same.setFlow _ _).mono (by decide)).after ?_) | split
    | (with_reducible refine Same.fst (by assumption) ?_))
theorem answer_same : ∀ n op verdict s, Same 262144 s (answer n op verdict s) := by
  intro n op verdict s
  unfold answer
  try dsimp only
  repeat' (first
    | with_reducible exact Same.rfl' _ | (with_reducible refine ((opResult_same ..).mono (by decide)).after ?_))
theorem answerAll_same : ∀ n d verdict s, Same 262144 s (answerAll n d verdict s) := by
  intro n d verdict s
  unfold answerAll
  try dsimp only
  repeat' (first
    | with_reducible exact Same.rfl' _ | (with_reducible refine ((episodes_same ..).mono (by decide)).after ?_)
    | (with_reducible refine ((delFlight_same ..).mono (by decide)).after ?_)
    | (with_reducible refine ((answer_same ..).mono (by decide)).after ?_)
    | (with_reducible refine (Same.foldl (fun _ _ => ?_) _ _).after ?_)
    | (with_reducible refine (Same.foldlFst (fun _ _ => ?_) _ _).after ?_) | split
    | (with_reducible refine Same.fst (by assumption) ?_))
theorem dropPunt_same : ∀ n d s, Same 262144 s (dropPunt n d s) := by
  intro n d s
  unfold dropPunt
  try dsimp only
  repeat' (first
    | with_reducible exact Same.rfl' _ | (with_reducible refine ((episodes_same ..).mono (by decide)).after ?_)
    | (with_reducible refine ((modSl_same ..).mono (by decide)).after ?_))
theorem resolvePunt_same : ∀ n d verdict s, Same 262144 s (resolvePunt n d verdict s) := by
  intro n d verdict s
  unfold resolvePunt
  try dsimp only
  repeat' (first
    | with_reducible exact Same.rfl' _ | (with_reducible refine ((answerAll_same ..).mono (by decide)).after ?_)
    | (with_reducible refine ((dropPunt_same ..).mono (by decide)).after ?_))
theorem denyPunts_same : ∀ s, Same 262144 s (denyPunts s) := by
  intro s
  unfold denyPunts
  try dsimp only
  repeat' (first
    | with_reducible exact Same.rfl' _ | (with_reducible refine ((resolvePunt_same ..).mono (by decide)).after ?_)
    | (with_reducible refine (Same.foldl (fun _ _ => ?_) _ _).after ?_)
    | (with_reducible refine (Same.foldlFst (fun _ _ => ?_) _ _).after ?_))
theorem resumed_same : ∀ n d p deadline s, Same 36916 s (resumed n d p deadline s) := by
  intro n d p deadline s
  unfold resumed
  try dsimp only
  repeat' (first
    | with_reducible exact Same.rfl' _ | (with_reducible refine ((postStream_same ..).mono (by decide)).after ?_)
    | (with_reducible refine ((journal_same ..).mono (by decide)).after ?_))
theorem rearm_same : ∀ n d p interval s, Same 299060 s (rearm n d p interval s).1 := by
  intro n d p interval s
  unfold rearm
  try dsimp only
  repeat' (first
    | with_reducible exact Same.rfl' _ | (with_reducible refine Same.ite ?_ ?_) | (with_reducible refine Same.iteFst ?_ ?_)
    | (with_reducible refine ((resumed_same ..).mono (by decide)).after ?_)
    | (with_reducible refine ((modSl_same ..).mono (by decide)).after ?_)
    | (with_reducible refine ((setSl_same ..).mono (by decide)).after ?_)
    | (with_reducible refine ((slCount_same ..).mono (by decide)).after ?_)
    | (with_reducible refine ((raise_same ..).mono (by decide)).after ?_) | split
    | (with_reducible refine Same.fst (by assumption) ?_))
theorem supervise_same (n : Nat) (d : Dword) (p : Place) (l : List Bool) (e : List Byte) (s : State) :
    Same 299060 s (supervise n d p l e s).1 := by
  induction l generalizing e s with
  | nil => exact Same.rfl' _
  | cons b l ih =>
    cases b with
    | true => exact ((rearm_same ..).mono (by decide)).trans (ih _ _)
    | false => exact ((wheelDrop_same ..).mono (by decide)).trans (ih _ _)
theorem sendInstall_same : ∀ n d e s, Same 262144 s (sendInstall n d e s) := by
  intro n d e s
  unfold sendInstall
  try dsimp only
  repeat' (first
    | with_reducible exact Same.rfl' _ | (with_reducible refine ((modSl_same ..).mono (by decide)).after ?_) | split
    | (with_reducible refine Same.fst (by assumption) ?_))
theorem tagLost_same : ∀ n d p e s, Same 426292 s (tagLost n d p e s) := by
  intro n d p e s
  unfold tagLost
  try dsimp only
  repeat' (first
    | with_reducible exact Same.rfl' _ | (with_reducible refine Same.ite ?_ ?_) | (with_reducible refine Same.iteFst ?_ ?_)
    | (with_reducible refine ((emitDelta_same ..).mono (by decide)).after ?_)
    | (with_reducible refine ((leakPair_same ..).mono (by decide)).after ?_)
    | (with_reducible refine ((wheelDrop_same ..).mono (by decide)).after ?_)
    | (with_reducible refine ((dropEntry_same ..).mono (by decide)).after ?_)
    | (with_reducible refine ((raise_same ..).mono (by decide)).after ?_)
    | (with_reducible refine ((slCount_same ..).mono (by decide)).after ?_)
    | (with_reducible refine ((journal_same ..).mono (by decide)).after ?_)
    | (with_reducible refine ((recordFault_same ..).mono (by decide)).after ?_) | split)
theorem removePtr_same : ∀ pd primary s, Same 426292 s (removePtr pd primary s) := by
  intro pd primary s
  unfold removePtr
  try dsimp only
  repeat' (first
    | with_reducible exact Same.rfl' _ | (with_reducible refine Same.ite ?_ ?_) | (with_reducible refine Same.iteFst ?_ ?_)
    | (with_reducible refine ((lookupWork_same ..).mono (by decide)).after ?_)
    | (with_reducible refine ((dropEntry_same ..).mono (by decide)).after ?_)
    | (with_reducible refine ((tagLost_same ..).mono (by decide)).after ?_) | split
    | (with_reducible refine Same.fst (by assumption) ?_))
theorem unbind_same : ∀ pd primary s, Same 426292 s (unbind pd primary s) := by
  intro pd primary s
  unfold unbind
  try dsimp only
  repeat' (first
    | with_reducible exact Same.rfl' _ | (with_reducible refine Same.ite ?_ ?_) | (with_reducible refine Same.iteFst ?_ ?_)
    | (with_reducible refine ((modSl_same ..).mono (by decide)).after ?_)
    | (with_reducible refine ((removePtr_same ..).mono (by decide)).after ?_)
    | (with_reducible refine ((putFlight_same ..).mono (by decide)).after ?_) | split
    | (with_reducible refine Same.fst (by assumption) ?_))
theorem unbindRecord_same : ∀ s0 d e s, Same 426292 s (unbindRecord s0 d e s) := by
  intro s0 d e s
  unfold unbindRecord
  try dsimp only
  repeat' (first
    | with_reducible exact Same.rfl' _ | (with_reducible refine ((unbind_same ..).mono (by decide)).after ?_) | split
    | (with_reducible refine Same.fst (by assumption) ?_))
theorem commitRecord_same : ∀ n d p packet old e s, Same 426036 s (commitRecord n d p packet old e s) := by
  intro n d p packet old e s
  unfold commitRecord
  try dsimp only
  repeat' (first
    | with_reducible exact Same.rfl' _ | (with_reducible refine Same.ite ?_ ?_) | (with_reducible refine Same.iteFst ?_ ?_)
    | (with_reducible refine ((migrateAbort_same ..).mono (by decide)).after ?_)
    | (with_reducible refine ((metFail_same ..).mono (by decide)).after ?_)
    | (with_reducible refine ((emitDelta_same ..).mono (by decide)).after ?_)
    | (with_reducible refine ((putAt_same ..).mono (by decide)).after ?_)
    | (with_reducible refine ((markFollow_same ..).mono (by decide)).after ?_) | split
    | (with_reducible refine Same.fst (by assumption) ?_))
theorem removeRecord_same : ∀ n d e s, Same 426292 s (removeRecord n d e s) := by
  intro n d e s
  unfold removeRecord
  try dsimp only
  repeat' (first
    | with_reducible exact Same.rfl' _ | (with_reducible refine ((emitDelta_same ..).mono (by decide)).after ?_)
    | (with_reducible refine ((unbindRecord_same ..).mono (by decide)).after ?_)
    | (with_reducible refine ((releasePair_same ..).mono (by decide)).after ?_)
    | (with_reducible refine ((wheelDrop_same ..).mono (by decide)).after ?_)
    | (with_reducible refine ((dropEntry_same ..).mono (by decide)).after ?_))
theorem journalRetired_same : ∀ n d p cause e s, Same 32800 s (journalRetired n d p cause e s) := by
  intro n d p cause e s
  unfold journalRetired
  try dsimp only
  repeat' (first
    | with_reducible exact Same.rfl' _ | (with_reducible refine ((journal_same ..).mono (by decide)).after ?_))
theorem deleteRecord_same : ∀ n d p cause e s, Same 426292 s (deleteRecord n d p cause e s) := by
  intro n d p cause e s
  unfold deleteRecord
  try dsimp only
  repeat' (first
    | with_reducible exact Same.rfl' _ | (with_reducible refine ((slCount_same ..).mono (by decide)).after ?_)
    | (with_reducible refine ((journalRetired_same ..).mono (by decide)).after ?_)
    | (with_reducible refine ((removeRecord_same ..).mono (by decide)).after ?_))
theorem tagError_same : ∀ n d p e s, Same 426292 s (tagError n d p e s) := by
  intro n d p e s
  unfold tagError
  try dsimp only
  repeat' (first
    | with_reducible exact Same.rfl' _ | (with_reducible refine ((unbindRecord_same ..).mono (by decide)).after ?_)
    | (with_reducible refine ((tagLost_same ..).mono (by decide)).after ?_))

/-! ### Pipeline -/

theorem withMember_same : ∀ n x m s, Same 32 s (withMember n x m s).1 := by
  intro n x m s
  unfold withMember
  try dsimp only
  repeat' (first
    | with_reducible exact Same.rfl' _ | (with_reducible refine Same.ite ?_ ?_) | (with_reducible refine Same.iteFst ?_ ?_)
    | (with_reducible refine ((slCount_same ..).mono (by decide)).after ?_) | split
    | (with_reducible refine Same.fst (by assumption) ?_))
theorem applyResult_same : ∀ n x r cycles s, Same 101430 s (applyResult n x r cycles s) := by
  intro n x r cycles s
  unfold applyResult
  try dsimp only
  repeat' (first
    | with_reducible exact Same.rfl' _ | (with_reducible refine Same.ite ?_ ?_) | (with_reducible refine Same.iteFst ?_ ?_)
    | (with_reducible refine ((discardPkt_same ..).mono (by decide)).after ?_)
    | (with_reducible refine ((bump32_same ..).mono (by decide)).after ?_)
    | (with_reducible refine ((withMember_same ..).mono (by decide)).after ?_)
    | (with_reducible refine ((slCount_same ..).mono (by decide)).after ?_)
    | (with_reducible refine ((egressFinal_same ..).mono (by decide)).after ?_) | split
    | (with_reducible refine Same.fst (by assumption) ?_))
theorem flowResultArrive_same : ∀ p n cycles s, Same 363574 s (flowResultArrive p n cycles s) := by
  intro p n cycles s
  unfold flowResultArrive
  try dsimp only
  repeat' (first
    | with_reducible exact Same.rfl' _ | (with_reducible refine Same.ite ?_ ?_) | (with_reducible refine Same.iteFst ?_ ?_)
    | (with_reducible refine ((Same.setFlow _ _).mono (by decide)).after ?_)
    | (with_reducible refine ((applyResult_same ..).mono (by decide)).after ?_) | split
    | (with_reducible refine Same.fst (by assumption) ?_))
theorem flowResultTimeout_same : ∀ k s, Same 101686 s (flowResultTimeout k s) := by
  intro k s
  unfold flowResultTimeout
  try dsimp only
  repeat' (first
    | with_reducible exact Same.rfl' _ | (with_reducible refine Same.ite ?_ ?_) | (with_reducible refine Same.iteFst ?_ ?_)
    | (with_reducible refine ((slCount_same ..).mono (by decide)).after ?_)
    | (with_reducible refine ((discardPkt_same ..).mono (by decide)).after ?_)
    | (with_reducible refine ((recordFault_same ..).mono (by decide)).after ?_)
    | (with_reducible refine ((raise_same ..).mono (by decide)).after ?_) | split
    | (with_reducible refine Same.fst (by assumption) ?_))
theorem grantEnd_same : ∀ k x s, Same 109622 s (grantEnd k x s) := by
  intro k x s
  unfold grantEnd
  try dsimp only
  repeat' (first
    | with_reducible exact Same.rfl' _ | (with_reducible refine Same.ite ?_ ?_) | (with_reducible refine Same.iteFst ?_ ?_)
    | (with_reducible refine ((putPkt_same ..).mono (by decide)).after ?_)
    | (with_reducible refine ((unstage_same ..).mono (by decide)).after ?_)
    | (with_reducible refine ((bufferGone_same ..).mono (by decide)).after ?_)
    | (with_reducible refine ((record_same ..).mono (by decide)).after ?_)
    | (with_reducible refine ((delPkt_same ..).mono (by decide)).after ?_) | split
    | (with_reducible refine Same.fst (by assumption) ?_))
theorem requestFails_same : ∀ d x pool s, Same 9266 s (requestFails d x pool s) := by
  intro d x pool s
  unfold requestFails
  try dsimp only
  repeat' (first
    | with_reducible exact Same.rfl' _ | (with_reducible refine Same.ite ?_ ?_) | (with_reducible refine Same.iteFst ?_ ?_)
    | (with_reducible refine ((pipeEvent_same ..).mono (by decide)).after ?_)
    | (with_reducible refine ((hostExhausted_same ..).mono (by decide)).after ?_)
    | (with_reducible refine ((setBm_same ..).mono (by decide)).after ?_)
    | (with_reducible refine ((settlePause_same ..).mono (by decide)).after ?_)
    | (with_reducible refine ((poolEpisodes_same ..).mono (by decide)).after ?_) | split)
theorem chargeHost_same : ∀ d src prio n s, Same 8192 s (chargeHost d src prio n s).1 := by
  intro d src prio n s
  unfold chargeHost
  try dsimp only
  repeat' (first
    | with_reducible exact Same.rfl' _ | (with_reducible refine ((setBm_same ..).mono (by decide)).after ?_))
theorem granted_same : ∀ k d x copies charges s, Same 109622 s (granted k d x copies charges s) := by
  intro k d x copies charges s
  unfold granted
  try dsimp only
  repeat' (first
    | with_reducible exact Same.rfl' _ | (with_reducible refine Same.ite ?_ ?_) | (with_reducible refine Same.iteFst ?_ ?_)
    | (with_reducible refine ((putPkt_same ..).mono (by decide)).after ?_)
    | (with_reducible refine ((Same.setBuf _ _).mono (by decide)).after ?_)
    | (with_reducible refine ((grantEnd_same ..).mono (by decide)).after ?_)
    | (with_reducible refine ((queueCopy_same ..).mono (by decide)).after ?_)
    | (with_reducible refine (Same.foldl (fun _ _ => ?_) _ _).after ?_)
    | (with_reducible refine (Same.foldlFst (fun _ _ => ?_) _ _).after ?_) | split)
theorem askCells_same : ∀ k d x rx clear s, Same 109622 s (askCells k d x rx clear s) := by
  intro k d x rx clear s
  unfold askCells
  try dsimp only
  repeat' (first
    | with_reducible exact Same.rfl' _ | (with_reducible refine Same.ite ?_ ?_) | (with_reducible refine Same.iteFst ?_ ?_)
    | (with_reducible refine ((bump32_same ..).mono (by decide)).after ?_)
    | (with_reducible refine ((requestFails_same ..).mono (by decide)).after ?_)
    | (with_reducible refine ((chargeHost_same ..).mono (by decide)).after ?_)
    | (with_reducible refine ((granted_same ..).mono (by decide)).after ?_)
    | (with_reducible refine ((charge_same ..).mono (by decide)).after ?_) | split
    | (with_reducible refine Same.fst (by assumption) ?_))
theorem loseStaged_same : ∀ k x outcome s, Same 109622 s (loseStaged k x outcome s) := by
  intro k x outcome s
  unfold loseStaged
  try dsimp only
  repeat' (first
    | with_reducible exact Same.rfl' _ | (with_reducible refine Same.ite ?_ ?_) | (with_reducible refine Same.iteFst ?_ ?_)
    | (with_reducible refine ((discardPkt_same ..).mono (by decide)).after ?_)
    | (with_reducible refine ((grantEnd_same ..).mono (by decide)).after ?_) | split)
theorem dropPacket_same : ∀ k x outcome s, Same 109622 s (dropPacket k x outcome s) := by
  intro k x outcome s
  unfold dropPacket
  try dsimp only
  repeat' (first
    | with_reducible exact Same.rfl' _ | (with_reducible refine Same.ite ?_ ?_) | (with_reducible refine Same.iteFst ?_ ?_)
    | (with_reducible refine ((dropCopy_same ..).mono (by decide)).after ?_)
    | (with_reducible refine ((Same.setBuf _ _).mono (by decide)).after ?_)
    | (with_reducible refine ((stompSending_same ..).mono (by decide)).after ?_)
    | (with_reducible refine ((unqueue_same ..).mono (by decide)).after ?_)
    | (with_reducible refine ((delPkt_same ..).mono (by decide)).after ?_)
    | (with_reducible refine ((unstage_same ..).mono (by decide)).after ?_)
    | (with_reducible refine ((discardPkt_same ..).mono (by decide)).after ?_)
    | (with_reducible refine (Same.foldl (fun _ _ => ?_) _ _).after ?_)
    | (with_reducible refine (Same.foldlFst (fun _ _ => ?_) _ _).after ?_) | split
    | (with_reducible refine Same.fst (by assumption) ?_))
theorem cellRequest_same : ∀ k d rx clear metaErr s, Same 109878 s (cellRequest k d rx clear metaErr s) := by
  intro k d rx clear metaErr s
  unfold cellRequest
  try dsimp only
  repeat' (first
    | with_reducible exact Same.rfl' _ | (with_reducible refine Same.ite ?_ ?_) | (with_reducible refine Same.iteFst ?_ ?_)
    | (with_reducible refine ((recordFault_same ..).mono (by decide)).after ?_)
    | (with_reducible refine ((dropPacket_same ..).mono (by decide)).after ?_)
    | (with_reducible refine ((bump48_same ..).mono (by decide)).after ?_)
    | (with_reducible refine ((loseStaged_same ..).mono (by decide)).after ?_)
    | (with_reducible refine ((askCells_same ..).mono (by decide)).after ?_) | split
    | (with_reducible refine Same.fst (by assumption) ?_))
theorem jobStamp_same : ∀ x stamp s, Same 8192 s (jobStamp x stamp s) := by
  intro x stamp s
  unfold jobStamp
  try dsimp only
  repeat' (first
    | with_reducible exact Same.rfl' _ | (with_reducible refine ((Same.setBuf _ _).mono (by decide)).after ?_) | split
    | (with_reducible refine Same.fst (by assumption) ?_))
theorem frameTxDone_same : ∀ n stamp s, Same 109622 s (frameTxDone n stamp s) := by
  intro n stamp s
  unfold frameTxDone
  try dsimp only
  repeat' (first
    | with_reducible exact Same.rfl' _ | (with_reducible refine Same.ite ?_ ?_) | (with_reducible refine Same.iteFst ?_ ?_)
    | (with_reducible refine ((setEgr_same ..).mono (by decide)).after ?_)
    | (with_reducible refine ((transmit_same ..).mono (by decide)).after ?_)
    | (with_reducible refine ((bump48_same ..).mono (by decide)).after ?_)
    | (with_reducible refine ((dropCopy_same ..).mono (by decide)).after ?_)
    | (with_reducible refine ((jobStamp_same ..).mono (by decide)).after ?_)
    | (with_reducible refine ((firstCopy_same ..).mono (by decide)).after ?_) | split
    | (with_reducible refine Same.fst (by assumption) ?_))
theorem execFlowResultArrive_same : ∀ p n cycles s t, execFlowResultArrive p n cycles s = .next t → Same 363574 s t := by
  intro p n cycles s t h
  injection h with h
  subst h
  try dsimp only
  repeat' (first
    | with_reducible exact Same.rfl' _ | (with_reducible refine ((flowResultArrive_same ..).mono (by decide)).after ?_))
theorem execFlowResultTimeout_same : ∀ k s t, execFlowResultTimeout k s = .next t → Same 101686 s t := by
  intro k s t h
  injection h with h
  subst h
  try dsimp only
  repeat' (first
    | with_reducible exact Same.rfl' _ | (with_reducible refine ((flowResultTimeout_same ..).mono (by decide)).after ?_))
theorem execCellRequest_same : ∀ k d rx clear metaErr s t, execCellRequest k d rx clear metaErr s = .next t → Same 109878 s t := by
  intro k d rx clear metaErr s t h
  injection h with h
  subst h
  try dsimp only
  repeat' (first
    | with_reducible exact Same.rfl' _ | (with_reducible refine ((cellRequest_same ..).mono (by decide)).after ?_))
theorem execFrameTxDone_same : ∀ n stamp s t, execFrameTxDone n stamp s = .next t → Same 109622 s t := by
  intro n stamp s t h
  injection h with h
  subst h
  try dsimp only
  repeat' (first
    | with_reducible exact Same.rfl' _ | (with_reducible refine ((frameTxDone_same ..).mono (by decide)).after ?_))

/-! ### TimeUnit -/

theorem setDom_sound (b : Bool) (x : Domain) (s : State) (h : x.sets.length ≤ 16) : Sound s (setDom b x s) := by
  cases b with
  | true => exact ⟨rfl, id, fun w => ⟨w.1, h⟩, id⟩
  | false => exact ⟨rfl, id, fun w => ⟨h, w.2⟩, id⟩
theorem setDom_sets (b : Bool) (x : Domain) (s : State) : Same 4210688 s (setDom b x s) := by
  cases b with
  | true => exact Same.setTuSets _ _
  | false => exact Same.setTuSets _ _
theorem enterSet_same (b : Bool) (x : TimeSet) (s : State) : Same 4243504 s (enterSet b x s) := by
  unfold enterSet
  extract_lets d sets s1 s2
  have h1 : Same 4243504 s s1 := (setDom_sets ..).mono (by decide)
  exact (h1.trans ((journal_same ..).mono (by decide))).trans ((raise_same ..).mono (by decide))
theorem enterSet_sound (b : Bool) (x : TimeSet) (s : State) : Sound s (enterSet b x s) := by
  unfold enterSet
  extract_lets d sets s1 s2
  have h1 : Sound s s1 := setDom_sound _ _ _ (by simp only [List.length_drop]; omega)
  exact (h1.trans ((journal_same ..).sound (by decide))).trans ((raise_same ..).sound (by decide))
theorem domainSet_same : ∀ b s, Same 4769842 s (domainSet b s) := by
  intro b s
  unfold domainSet
  try dsimp only
  repeat' (first
    | with_reducible exact Same.rfl' _ | (with_reducible refine Same.ite ?_ ?_) | (with_reducible refine Same.iteFst ?_ ?_)
    | (with_reducible refine ((enterSet_same ..).mono (by decide)).after ?_)
    | (with_reducible refine ((send_same ..).mono (by decide)).after ?_) | split
    | (with_reducible refine Same.fst (by assumption) ?_))
theorem domainSet_sound : ∀ b s, Sound s (domainSet b s) := by
  intro b s
  unfold domainSet
  try dsimp only
  repeat' (first
    | with_reducible exact Sound.rfl' _ | (with_reducible refine Sound.ite ?_ ?_)
    | (with_reducible refine Sound.iteFst ?_ ?_) | (with_reducible refine (enterSet_sound ..).after ?_)
    | (with_reducible refine ((send_same ..).sound (by decide)).after ?_) | split
    | (with_reducible refine Sound.fst (by assumption) ?_))
theorem domainRenewal_same : ∀ b s, Same 4243504 s (domainRenewal b s) := by
  intro b s
  unfold domainRenewal
  try dsimp only
  repeat' (first
    | with_reducible exact Same.rfl' _ | (with_reducible refine Same.ite ?_ ?_) | (with_reducible refine Same.iteFst ?_ ?_)
    | (with_reducible refine ((enterSet_same ..).mono (by decide)).after ?_)
    | ((with_reducible refine ((Same.setDom _ _ _ ?_).mono (by decide)).after ?_); rfl) | split
    | (with_reducible refine Same.fst (by assumption) ?_))
theorem domainRenewal_sound : ∀ b s, Sound s (domainRenewal b s) := by
  intro b s
  unfold domainRenewal
  try dsimp only
  repeat' (first
    | with_reducible exact Sound.rfl' _ | (with_reducible refine Sound.ite ?_ ?_)
    | (with_reducible refine Sound.iteFst ?_ ?_) | (with_reducible refine (enterSet_sound ..).after ?_)
    | ((with_reducible refine ((Same.setDom _ _ _ ?_).sound (by decide)).after ?_); rfl) | split
    | (with_reducible refine Sound.fst (by assumption) ?_))
theorem pendSet_same : ∀ b x resp s, Same 16384 s (pendSet b x resp s) := by
  intro b x resp s
  unfold pendSet
  try dsimp only
  repeat' (first
    | with_reducible exact Same.rfl' _ | ((with_reducible refine ((Same.setDom _ _ _ ?_).mono (by decide)).after ?_); rfl))
theorem seedCommand_same : ∀ op cause r s, Same 16384 s (seedCommand op cause r s).1 := by
  intro op cause r s
  unfold seedCommand
  try dsimp only
  repeat' (first
    | with_reducible exact Same.rfl' _ | (with_reducible refine Same.ite ?_ ?_) | (with_reducible refine Same.iteFst ?_ ?_)
    | (with_reducible refine ((pendSet_same ..).mono (by decide)).after ?_) | split)
theorem bodyDomainSeed_same : ∀ x x2, Same 16384 x2 (bodyDomainSeed x x2).1 := by
  intro x x2
  unfold bodyDomainSeed
  try dsimp only
  repeat' (first
    | with_reducible exact Same.rfl' _ | (with_reducible refine ((seedCommand_same ..).mono (by decide)).after ?_))
theorem bodyDomainReseed_same : ∀ x x2, Same 16384 x2 (bodyDomainReseed x x2).1 := by
  intro x x2
  unfold bodyDomainReseed
  try dsimp only
  repeat' (first
    | with_reducible exact Same.rfl' _ | (with_reducible refine ((seedCommand_same ..).mono (by decide)).after ?_))
theorem bodyDomainRate_same : ∀ r s, Same 16384 s (bodyDomainRate r s).1 := by
  intro r s
  unfold bodyDomainRate
  try dsimp only
  repeat' (first
    | with_reducible exact Same.rfl' _ | (with_reducible refine Same.ite ?_ ?_) | (with_reducible refine Same.iteFst ?_ ?_)
    | (with_reducible refine ((pendSet_same ..).mono (by decide)).after ?_) | split
    | (with_reducible refine Same.fst (by assumption) ?_))
theorem bodyTimeQuery_same : ∀ r s, Same 0 s (bodyTimeQuery r s).1 := by
  intro r s
  unfold bodyTimeQuery
  try dsimp only
  repeat' (first
    | with_reducible exact Same.rfl' _ | (with_reducible refine Same.ite ?_ ?_) | (with_reducible refine Same.iteFst ?_ ?_)
    | split)
theorem bodyDomainSetsRead_same : ∀ r s, Same 0 s (bodyDomainSetsRead r s).1 := by
  intro r s
  unfold bodyDomainSetsRead
  try dsimp only
  repeat' (first
    | with_reducible exact Same.rfl' _ | (with_reducible refine Same.ite ?_ ?_) | (with_reducible refine Same.iteFst ?_ ?_)
    | split)
theorem bodyStampConvert_same : ∀ r s, Same 0 s (bodyStampConvert r s).1 := by
  intro r s
  unfold bodyStampConvert
  try dsimp only
  repeat' (first
    | with_reducible exact Same.rfl' _ | (with_reducible refine Same.ite ?_ ?_) | (with_reducible refine Same.iteFst ?_ ?_)
    | split | (with_reducible refine Same.fst (by assumption) ?_))
theorem switchRefused_same : ∀ b st s, Same 16 s (switchRefused b st s) := by
  intro b st s
  unfold switchRefused
  try dsimp only
  repeat' (first
    | with_reducible exact Same.rfl' _ | (with_reducible refine ((raise_same ..).mono (by decide)).after ?_))
theorem bodyDomainSelect_same : ∀ r s, Same 16404 s (bodyDomainSelect r s).1 := by
  intro r s
  unfold bodyDomainSelect
  try dsimp only
  repeat' (first
    | with_reducible exact Same.rfl' _ | (with_reducible refine Same.ite ?_ ?_) | (with_reducible refine Same.iteFst ?_ ?_)
    | (with_reducible refine ((switchRefused_same ..).mono (by decide)).after ?_)
    | ((with_reducible refine ((Same.setTu _ _ ?_ ?_).mono (by decide)).after ?_); rfl; rfl)
    | (with_reducible refine ((defer_same ..).mono (by decide)).after ?_) | split
    | (with_reducible refine Same.fst (by assumption) ?_))
theorem applySelect_same : ∀ b force resp s, Same 542770 s (applySelect b force resp s) := by
  intro b force resp s
  unfold applySelect
  try dsimp only
  repeat' (first
    | with_reducible exact Same.rfl' _ | (with_reducible refine ((sendAt_same ..).mono (by decide)).after ?_)
    | (with_reducible refine ((switchRefused_same ..).mono (by decide)).after ?_)
    | ((with_reducible refine ((Same.setTu _ _ ?_ ?_).mono (by decide)).after ?_); rfl; rfl)
    | (with_reducible refine ((raise_same ..).mono (by decide)).after ?_) | split
    | (with_reducible refine Same.fst (by assumption) ?_))
theorem setPps_same : ∀ k x s, Same 16384 s (setPps k x s) := by
  intro k x s
  unfold setPps
  try dsimp only
  repeat' (first
    | with_reducible exact Same.rfl' _
    | ((with_reducible refine ((Same.setTu _ _ ?_ ?_).mono (by decide)).after ?_); rfl; rfl))
theorem ppsStep_same : ∀ k cause n s, Same 16 s (ppsStep k cause n s) := by
  intro k cause n s
  unfold ppsStep
  try dsimp only
  repeat' (first
    | with_reducible exact Same.rfl' _ | (with_reducible refine ((raise_same ..).mono (by decide)).after ?_))
theorem ppsPulseStart_same : ∀ k f s, Same 16400 s (ppsPulseStart k f s) := by
  intro k f s
  unfold ppsPulseStart
  try dsimp only
  repeat' (first
    | with_reducible exact Same.rfl' _ | (with_reducible refine Same.ite ?_ ?_) | (with_reducible refine Same.iteFst ?_ ?_)
    | (with_reducible refine ((setPps_same ..).mono (by decide)).after ?_)
    | (with_reducible refine ((ppsStep_same ..).mono (by decide)).after ?_) | split
    | (with_reducible refine Same.fst (by assumption) ?_))
theorem ppsPulseEnd_same : ∀ k s, Same 16384 s (ppsPulseEnd k s) := by
  intro k s
  unfold ppsPulseEnd
  try dsimp only
  repeat' (first
    | with_reducible exact Same.rfl' _ | (with_reducible refine ((setPps_same ..).mono (by decide)).after ?_))
theorem setTsi_same : ∀ i x s, Same 16384 s (setTsi i x s) := by
  intro i x s
  unfold setTsi
  try dsimp only
  repeat' (first
    | with_reducible exact Same.rfl' _
    | ((with_reducible refine ((Same.setTu _ _ ?_ ?_).mono (by decide)).after ?_); rfl; rfl))
theorem tsiEdge_same : ∀ i rising f s, Same 20532 s (tsiEdge i rising f s) := by
  intro i rising f s
  unfold tsiEdge
  try dsimp only
  repeat' (first
    | with_reducible exact Same.rfl' _ | (with_reducible refine Same.ite ?_ ?_) | (with_reducible refine Same.iteFst ?_ ?_)
    | (with_reducible refine ((bump32_same ..).mono (by decide)).after ?_)
    | (with_reducible refine ((setTsi_same ..).mono (by decide)).after ?_)
    | (with_reducible refine ((raiseLimited_same ..).mono (by decide)).after ?_)
    | (with_reducible refine ((postItem_same ..).mono (by decide)).after ?_)
    | (with_reducible refine ((raise_same ..).mono (by decide)).after ?_)
    | (with_reducible refine (Same.foldl (fun _ _ => ?_) _ _).after ?_)
    | (with_reducible refine (Same.foldlFst (fun _ _ => ?_) _ _).after ?_) | split)
theorem bodyTsiRead_same : ∀ r s, Same 16384 s (bodyTsiRead r s).1 := by
  intro r s
  unfold bodyTsiRead
  try dsimp only
  repeat' (first
    | with_reducible exact Same.rfl' _ | (with_reducible refine Same.ite ?_ ?_) | (with_reducible refine Same.iteFst ?_ ?_)
    | (with_reducible refine ((setTsi_same ..).mono (by decide)).after ?_) | split)
theorem trefAlarm_same : ∀ tref pll s, Same 16660 s (trefAlarm tref pll s) := by
  intro tref pll s
  unfold trefAlarm
  try dsimp only
  repeat' (first
    | with_reducible exact Same.rfl' _ | (with_reducible refine Same.ite ?_ ?_) | (with_reducible refine Same.iteFst ?_ ?_)
    | ((with_reducible refine ((Same.setTu _ _ ?_ ?_).mono (by decide)).after ?_); rfl; rfl)
    | (with_reducible refine ((raise_same ..).mono (by decide)).after ?_)
    | (with_reducible refine ((condOn_same ..).mono (by decide)).after ?_)
    | (with_reducible refine ((recordFault_same ..).mono (by decide)).after ?_)
    | (with_reducible refine ((condOff_same ..).mono (by decide)).after ?_) | split)
theorem frcCheckFail_same : ∀ long n s, Same 16660 s (frcCheckFail long n s) := by
  intro long n s
  unfold frcCheckFail
  try dsimp only
  repeat' (first
    | with_reducible exact Same.rfl' _ | (with_reducible refine Same.ite ?_ ?_) | (with_reducible refine Same.iteFst ?_ ?_)
    | ((with_reducible refine ((Same.setTu _ _ ?_ ?_).mono (by decide)).after ?_); rfl; rfl)
    | (with_reducible refine ((raise_same ..).mono (by decide)).after ?_)
    | (with_reducible refine ((condOn_same ..).mono (by decide)).after ?_)
    | (with_reducible refine ((recordFault_same ..).mono (by decide)).after ?_) | split)
theorem frcCheckGood_same : ∀ s, Same 16640 s (frcCheckGood s) := by
  intro s
  unfold frcCheckGood
  try dsimp only
  repeat' (first
    | with_reducible exact Same.rfl' _ | (with_reducible refine Same.ite ?_ ?_) | (with_reducible refine Same.iteFst ?_ ?_)
    | (with_reducible refine ((condOff_same ..).mono (by decide)).after ?_)
    | ((with_reducible refine ((Same.setTu _ _ ?_ ?_).mono (by decide)).after ?_); rfl; rfl) | split)
theorem servoState_same : ∀ b st s, Same 16400 s (servoState b st s) := by
  intro b st s
  unfold servoState
  try dsimp only
  repeat' (first
    | with_reducible exact Same.rfl' _ | (with_reducible refine Same.ite ?_ ?_) | (with_reducible refine Same.iteFst ?_ ?_)
    | (with_reducible refine ((raise_same ..).mono (by decide)).after ?_)
    | ((with_reducible refine ((Same.setDom _ _ _ ?_).mono (by decide)).after ?_); rfl) | split)
theorem servoStep_same : ∀ x s, Same 16400 s (servoStep x s) := by
  intro x s
  unfold servoStep
  try dsimp only
  repeat' (first
    | with_reducible exact Same.rfl' _ | (with_reducible refine Same.ite ?_ ?_) | (with_reducible refine Same.iteFst ?_ ?_)
    | (with_reducible refine ((servoState_same ..).mono (by decide)).after ?_)
    | (with_reducible refine ((pendSet_same ..).mono (by decide)).after ?_)
    | ((with_reducible refine ((Same.setDom _ _ _ ?_).mono (by decide)).after ?_); rfl) | split
    | (with_reducible refine Same.fst (by assumption) ?_))
theorem execTimeQuery_same : ∀ r s t, execTimeQuery r s = .next t → Same 526386 s t := by
  intro r s t h
  injection h with h
  subst h
  try dsimp only
  repeat' (first
    | with_reducible exact Same.rfl' _
    | (with_reducible refine (runToune_same _ _ (by decide) (fun r s => (bodyTimeQuery_same r s).mono (by decide)) _ _).after ?_)
    | (with_reducible refine ((bodyTimeQuery_same ..).mono (by decide)).after ?_))
theorem execDomainSeed_same : ∀ r s t, execDomainSeed r s = .next t → Same 542770 s t := by
  intro r s t h
  injection h with h
  subst h
  try dsimp only
  repeat' (first
    | with_reducible exact Same.rfl' _
    | (with_reducible refine (runToune_same _ _ (by decide) (fun r s => (bodyDomainSeed_same r s).mono (by decide)) _ _).after ?_)
    | (with_reducible refine ((bodyDomainSeed_same ..).mono (by decide)).after ?_))
theorem execDomainRate_same : ∀ r s t, execDomainRate r s = .next t → Same 542770 s t := by
  intro r s t h
  injection h with h
  subst h
  try dsimp only
  repeat' (first
    | with_reducible exact Same.rfl' _
    | (with_reducible refine (runToune_same _ _ (by decide) (fun r s => (bodyDomainRate_same r s).mono (by decide)) _ _).after ?_)
    | (with_reducible refine ((bodyDomainRate_same ..).mono (by decide)).after ?_))
theorem execDomainReseed_same : ∀ r s t, execDomainReseed r s = .next t → Same 542770 s t := by
  intro r s t h
  injection h with h
  subst h
  try dsimp only
  repeat' (first
    | with_reducible exact Same.rfl' _
    | (with_reducible refine (runToune_same _ _ (by decide) (fun r s => (bodyDomainReseed_same r s).mono (by decide)) _ _).after ?_)
    | (with_reducible refine ((bodyDomainReseed_same ..).mono (by decide)).after ?_))
theorem execDomainSelect_same : ∀ r s t, execDomainSelect r s = .next t → Same 542774 s t := by
  intro r s t h
  injection h with h
  subst h
  try dsimp only
  repeat' (first
    | with_reducible exact Same.rfl' _
    | (with_reducible refine (runToune_same _ _ (by decide) (fun r s => (bodyDomainSelect_same r s).mono (by decide)) _ _).after ?_)
    | (with_reducible refine ((bodyDomainSelect_same ..).mono (by decide)).after ?_))
theorem execDomainSetsRead_same : ∀ r s t, execDomainSetsRead r s = .next t → Same 526386 s t := by
  intro r s t h
  injection h with h
  subst h
  try dsimp only
  repeat' (first
    | with_reducible exact Same.rfl' _
    | (with_reducible refine (runToune_same _ _ (by decide) (fun r s => (bodyDomainSetsRead_same r s).mono (by decide)) _ _).after ?_)
    | (with_reducible refine ((bodyDomainSetsRead_same ..).mono (by decide)).after ?_))
theorem execStampConvert_same : ∀ r s t, execStampConvert r s = .next t → Same 526386 s t := by
  intro r s t h
  injection h with h
  subst h
  try dsimp only
  repeat' (first
    | with_reducible exact Same.rfl' _
    | (with_reducible refine (runToune_same _ _ (by decide) (fun r s => (bodyStampConvert_same r s).mono (by decide)) _ _).after ?_)
    | (with_reducible refine ((bodyStampConvert_same ..).mono (by decide)).after ?_))
theorem execTsiRead_same : ∀ r s t, execTsiRead r s = .next t → Same 542770 s t := by
  intro r s t h
  injection h with h
  subst h
  try dsimp only
  repeat' (first
    | with_reducible exact Same.rfl' _
    | (with_reducible refine (runToune_same _ _ (by decide) (fun r s => (bodyTsiRead_same r s).mono (by decide)) _ _).after ?_)
    | (with_reducible refine ((bodyTsiRead_same ..).mono (by decide)).after ?_))
theorem execDomainSet_same : ∀ b s t, execDomainSet b s = .next t → Same 4769842 s t := by
  intro b s t h
  injection h with h
  subst h
  try dsimp only
  repeat' (first
    | with_reducible exact Same.rfl' _ | (with_reducible refine ((domainSet_same ..).mono (by decide)).after ?_))
theorem execDomainSet_sound : ∀ b s t, execDomainSet b s = .next t → Sound s t := by
  intro b s t h
  injection h with h
  subst h
  try dsimp only
  repeat' (first
    | with_reducible exact Sound.rfl' _ | (with_reducible refine (domainSet_sound ..).after ?_))
theorem execDomainRenewal_same : ∀ b s t, execDomainRenewal b s = .next t → Same 4243504 s t := by
  intro b s t h
  injection h with h
  subst h
  try dsimp only
  repeat' (first
    | with_reducible exact Same.rfl' _ | (with_reducible refine ((domainRenewal_same ..).mono (by decide)).after ?_))
theorem execDomainRenewal_sound : ∀ b s t, execDomainRenewal b s = .next t → Sound s t := by
  intro b s t h
  injection h with h
  subst h
  try dsimp only
  repeat' (first
    | with_reducible exact Sound.rfl' _ | (with_reducible refine (domainRenewal_sound ..).after ?_))
theorem execPpsPulseStart_same : ∀ k f s t, execPpsPulseStart k f s = .next t → Same 16400 s t := by
  intro k f s t h
  injection h with h
  subst h
  try dsimp only
  repeat' (first
    | with_reducible exact Same.rfl' _ | (with_reducible refine ((ppsPulseStart_same ..).mono (by decide)).after ?_))
theorem execPpsPulseEnd_same : ∀ k s t, execPpsPulseEnd k s = .next t → Same 16384 s t := by
  intro k s t h
  injection h with h
  subst h
  try dsimp only
  repeat' (first
    | with_reducible exact Same.rfl' _ | (with_reducible refine ((ppsPulseEnd_same ..).mono (by decide)).after ?_))
theorem execTsiEdge_same : ∀ i rising f s t, execTsiEdge i rising f s = .next t → Same 20532 s t := by
  intro i rising f s t h
  injection h with h
  subst h
  try dsimp only
  repeat' (first
    | with_reducible exact Same.rfl' _ | (with_reducible refine ((tsiEdge_same ..).mono (by decide)).after ?_))
theorem execTrefAlarm_same : ∀ tref pll s t, execTrefAlarm tref pll s = .next t → Same 16660 s t := by
  intro tref pll s t h
  injection h with h
  subst h
  try dsimp only
  repeat' (first
    | with_reducible exact Same.rfl' _ | (with_reducible refine ((trefAlarm_same ..).mono (by decide)).after ?_))
theorem execFrcCheckFail_same : ∀ long n s t, execFrcCheckFail long n s = .next t → Same 16660 s t := by
  intro long n s t h
  injection h with h
  subst h
  try dsimp only
  repeat' (first
    | with_reducible exact Same.rfl' _ | (with_reducible refine ((frcCheckFail_same ..).mono (by decide)).after ?_))

/-! ### QueueOps -/

theorem unbindRing_same : ∀ q x s, Same 32768 s (unbindRing q x s) := by
  intro q x s
  unfold unbindRing
  try dsimp only
  repeat' (first
    | with_reducible exact Same.rfl' _ | (with_reducible refine Same.ite ?_ ?_) | (with_reducible refine Same.iteFst ?_ ?_)
    | (with_reducible refine ((setRing_same ..).mono (by decide)).after ?_) | split
    | (with_reducible refine Same.fst (by assumption) ?_))
theorem queueDisabled_same : ∀ q s, Same 557072 s (queueDisabled q s) := by
  intro q s
  unfold queueDisabled
  try dsimp only
  repeat' (first
    | with_reducible exact Same.rfl' _ | (with_reducible refine ((unbindRing_same ..).mono (by decide)).after ?_)
    | (with_reducible refine ((setHq_same ..).mono (by decide)).after ?_)
    | (with_reducible refine ((raise_same ..).mono (by decide)).after ?_)
    | (with_reducible refine ((endOp_same ..).mono (by decide)).after ?_) | split
    | (with_reducible refine Same.fst (by assumption) ?_))
theorem settleQueue_same : ∀ q s, Same 557072 s (settleQueue q s) := by
  intro q s
  unfold settleQueue
  try dsimp only
  repeat' (first
    | with_reducible exact Same.rfl' _ | (with_reducible refine Same.ite ?_ ?_) | (with_reducible refine Same.iteFst ?_ ?_)
    | (with_reducible refine ((queueDisabled_same ..).mono (by decide)).after ?_) | split)
theorem forgetFetch_same : ∀ q s, Same 524288 s (forgetFetch q s) := by
  intro q s
  unfold forgetFetch
  try dsimp only
  repeat' (first
    | with_reducible exact Same.rfl' _ | (with_reducible refine Same.ite ?_ ?_) | (with_reducible refine Same.iteFst ?_ ?_)
    | ((with_reducible refine ((Same.setHost _ _ ?_ ?_).mono (by decide)).after ?_); rfl; rfl) | split)
theorem dropHostCopies_same : ∀ q s, Same 109622 s (dropHostCopies q s) := by
  intro q s
  unfold dropHostCopies
  try dsimp only
  repeat' (first
    | with_reducible exact Same.rfl' _ | (with_reducible refine ((Same.setBuf _ _).mono (by decide)).after ?_)
    | (with_reducible refine ((dropCopy_same ..).mono (by decide)).after ?_)
    | (with_reducible refine ((bump32_same ..).mono (by decide)).after ?_)
    | (with_reducible refine (Same.foldl (fun _ _ => ?_) _ _).after ?_)
    | (with_reducible refine (Same.foldlFst (fun _ _ => ?_) _ _).after ?_))
theorem dropJob_same : ∀ q pos s, Same 524288 s (dropJob q pos s) := by
  intro q pos s
  unfold dropJob
  try dsimp only
  repeat' (first
    | with_reducible exact Same.rfl' _ | (with_reducible refine ((modHq_same ..).mono (by decide)).after ?_))
theorem disableOne_same : ∀ q cause s, Same 633910 s (disableOne q cause s) := by
  intro q cause s
  unfold disableOne
  try dsimp only
  repeat' (first
    | with_reducible exact Same.rfl' _ | (with_reducible refine Same.ite ?_ ?_) | (with_reducible refine Same.iteFst ?_ ?_)
    | (with_reducible refine ((forgetFetch_same ..).mono (by decide)).after ?_)
    | (with_reducible refine ((setHq_same ..).mono (by decide)).after ?_)
    | (with_reducible refine ((dropJob_same ..).mono (by decide)).after ?_)
    | (with_reducible refine ((dropHostCopies_same ..).mono (by decide)).after ?_)
    | (with_reducible refine ((settleQueue_same ..).mono (by decide)).after ?_)
    | (with_reducible refine (Same.foldl (fun _ _ => ?_) _ _).after ?_)
    | (with_reducible refine (Same.foldlFst (fun _ _ => ?_) _ _).after ?_) | split)
theorem disableQueue_same : ∀ q cause s, Same 633910 s (disableQueue q cause s) := by
  intro q cause s
  unfold disableQueue
  try dsimp only
  repeat' (first
    | with_reducible exact Same.rfl' _ | (with_reducible refine Same.ite ?_ ?_) | (with_reducible refine Same.iteFst ?_ ?_)
    | (with_reducible refine ((disableOne_same ..).mono (by decide)).after ?_)
    | (with_reducible refine (Same.foldl (fun _ _ => ?_) _ _).after ?_)
    | (with_reducible refine (Same.foldlFst (fun _ _ => ?_) _ _).after ?_) | split)
theorem publishHead_same : ∀ q s, Same 633910 s (publishHead q s) := by
  intro q s
  unfold publishHead
  try dsimp only
  repeat' (first
    | with_reducible exact Same.rfl' _ | (with_reducible refine Same.ite ?_ ?_) | (with_reducible refine Same.iteFst ?_ ?_)
    | (with_reducible refine ((setHq_same ..).mono (by decide)).after ?_)
    | (with_reducible refine ((hostWrite_same ..).mono (by decide)).after ?_)
    | (with_reducible refine ((modHq_same ..).mono (by decide)).after ?_)
    | (with_reducible refine ((disableQueue_same ..).mono (by decide)).after ?_) | split
    | (with_reducible refine Same.fst (by assumption) ?_))
theorem flushHeads_same : ∀ s, Same 633910 s (flushHeads s) := by
  intro s
  unfold flushHeads
  try dsimp only
  repeat' (first
    | with_reducible exact Same.rfl' _ | (with_reducible refine ((publishHead_same ..).mono (by decide)).after ?_)
    | (with_reducible refine (Same.foldl (fun _ _ => ?_) _ _).after ?_)
    | (with_reducible refine (Same.foldlFst (fun _ _ => ?_) _ _).after ?_))
theorem fetchOne_same : ∀ q s, Same 633910 s (fetchOne q s) := by
  intro q s
  unfold fetchOne
  try dsimp only
  repeat' (first
    | with_reducible exact Same.rfl' _ | (with_reducible refine Same.ite ?_ ?_) | (with_reducible refine Same.iteFst ?_ ?_)
    | (with_reducible refine ((disableQueue_same ..).mono (by decide)).after ?_)
    | (with_reducible refine ((hostRead_same ..).mono (by decide)).after ?_)
    | ((with_reducible refine ((Same.setHost _ _ ?_ ?_).mono (by decide)).after ?_); rfl; rfl)
    | (with_reducible refine ((modHq_same ..).mono (by decide)).after ?_) | split
    | (with_reducible refine Same.fst (by assumption) ?_))
theorem pumpFetch_same : ∀ s, Same 633910 s (pumpFetch s) := by
  intro s
  unfold pumpFetch
  try dsimp only
  repeat' (first
    | with_reducible exact Same.rfl' _ | (with_reducible refine Same.ite ?_ ?_) | (with_reducible refine Same.iteFst ?_ ?_)
    | (with_reducible refine ((fetchOne_same ..).mono (by decide)).after ?_)
    | (with_reducible refine (Same.foldl (fun _ _ => ?_) _ _).after ?_)
    | (with_reducible refine (Same.foldlFst (fun _ _ => ?_) _ _).after ?_) | split)
theorem ringWrite_same : ∀ c tail p s, Same 633910 s (ringWrite c tail p s).1 := by
  intro c tail p s
  unfold ringWrite
  try dsimp only
  repeat' (first
    | with_reducible exact Same.rfl' _ | (with_reducible refine Same.ite ?_ ?_) | (with_reducible refine Same.iteFst ?_ ?_)
    | (with_reducible refine ((hostWrite_same ..).mono (by decide)).after ?_)
    | (with_reducible refine ((publishHead_same ..).mono (by decide)).after ?_)
    | (with_reducible refine ((modHq_same ..).mono (by decide)).after ?_) | split
    | (with_reducible refine Same.fst (by assumption) ?_))
theorem writeCompletion_same : ∀ c q pos tail s, Same 633910 s (writeCompletion c q pos tail s) := by
  intro c q pos tail s
  unfold writeCompletion
  try dsimp only
  repeat' (first
    | with_reducible exact Same.rfl' _ | (with_reducible refine Same.ite ?_ ?_) | (with_reducible refine Same.iteFst ?_ ?_)
    | (with_reducible refine ((ringWrite_same ..).mono (by decide)).after ?_)
    | (with_reducible refine ((disableQueue_same ..).mono (by decide)).after ?_)
    | (with_reducible refine ((dropJob_same ..).mono (by decide)).after ?_) | split
    | (with_reducible refine Same.fst (by assumption) ?_))
theorem fullEpisode_same : ∀ c s, Same 524304 s (fullEpisode c s) := by
  intro c s
  unfold fullEpisode
  try dsimp only
  repeat' (first
    | with_reducible exact Same.rfl' _ | (with_reducible refine Same.ite ?_ ?_) | (with_reducible refine Same.iteFst ?_ ?_)
    | (with_reducible refine ((raise_same ..).mono (by decide)).after ?_)
    | (with_reducible refine ((setHq_same ..).mono (by decide)).after ?_) | split)
theorem postCompletion_same : ∀ q j s, Same 633910 s (postCompletion q j s) := by
  intro q j s
  unfold postCompletion
  try dsimp only
  repeat' (first
    | with_reducible exact Same.rfl' _ | (with_reducible refine Same.ite ?_ ?_) | (with_reducible refine Same.iteFst ?_ ?_)
    | (with_reducible refine ((dropJob_same ..).mono (by decide)).after ?_)
    | (with_reducible refine ((fullEpisode_same ..).mono (by decide)).after ?_)
    | (with_reducible refine ((modHq_same ..).mono (by decide)).after ?_)
    | (with_reducible refine ((writeCompletion_same ..).mono (by decide)).after ?_) | split)
theorem releaseHeld_same (c k : Nat) (s : State) : Same 633910 s (releaseHeld c k s) := by
  induction k generalizing s with
  | zero => exact Same.rfl' _
  | succ k ih =>
    unfold releaseHeld
    extract_lets x
    split
    · exact (setHq_same ..).mono (by decide)
    · refine Same.ite ((fullEpisode_same ..).mono (by decide)) ?_
      exact (((setHq_same ..).mono (by decide)).trans ((writeCompletion_same ..).mono (by decide))).trans (ih _)
theorem endInject_same : ∀ q s, Same 532480 s (endInject q s) := by
  intro q s
  unfold endInject
  try dsimp only
  repeat' (first
    | with_reducible exact Same.rfl' _ | (with_reducible refine Same.ite ?_ ?_) | (with_reducible refine Same.iteFst ?_ ?_)
    | (with_reducible refine ((Same.setBuf _ _).mono (by decide)).after ?_)
    | (with_reducible refine ((modJob_same ..).mono (by decide)).after ?_) | split
    | (with_reducible refine Same.fst (by assumption) ?_))
theorem jobComplete_same : ∀ q s, Same 633910 s (jobComplete q s) := by
  intro q s
  unfold jobComplete
  try dsimp only
  repeat' (first
    | with_reducible exact Same.rfl' _ | (with_reducible refine Same.ite ?_ ?_) | (with_reducible refine Same.iteFst ?_ ?_)
    | (with_reducible refine ((endInject_same ..).mono (by decide)).after ?_)
    | (with_reducible refine ((modJob_same ..).mono (by decide)).after ?_)
    | (with_reducible refine ((pumpFetch_same ..).mono (by decide)).after ?_)
    | (with_reducible refine ((settleQueue_same ..).mono (by decide)).after ?_)
    | (with_reducible refine ((postCompletion_same ..).mono (by decide)).after ?_) | split
    | (with_reducible refine Same.fst (by assumption) ?_))
theorem completionAck_same : ∀ q s, Same 633910 s (completionAck q s) := by
  intro q s
  unfold completionAck
  try dsimp only
  repeat' (first
    | with_reducible exact Same.rfl' _ | (with_reducible refine Same.ite ?_ ?_) | (with_reducible refine Same.iteFst ?_ ?_)
    | (with_reducible refine ((setHq_same ..).mono (by decide)).after ?_)
    | (with_reducible refine ((readTo_same ..).mono (by decide)).after ?_)
    | (with_reducible refine ((pumpFetch_same ..).mono (by decide)).after ?_)
    | (with_reducible refine ((publishHead_same ..).mono (by decide)).after ?_) | split
    | (with_reducible refine Same.fst (by assumption) ?_))

/-! ### Windows -/

theorem winWrite_same (p : Win) (w : Nat) (b : List Byte) (s : State) : Same 524288 s (winWrite p w b s) := by
  cases p with
  | true => exact ⟨fun _ => rfl, fun _ => rfl, fun _ => rfl, fun _ => rfl, fun _ => rfl, fun _ => rfl, fun _ => rfl, fun _ => rfl, fun _ => rfl, fun _ => rfl, fun _ => rfl, fun _ => rfl, fun _ => rfl, fun _ => rfl, fun _ => rfl, fun _ => rfl, fun _ => rfl, fun _ => rfl, fun _ => rfl, fun q => absurd q (by decide), fun _ => rfl, fun _ => rfl, fun _ => ⟨rfl, rfl⟩, fun _ => rfl, fun x => ⟨x.1, Memory.writeAll_wf _ _ _ _ x.2⟩⟩
  | false => exact ⟨fun _ => rfl, fun _ => rfl, fun _ => rfl, fun _ => rfl, fun _ => rfl, fun _ => rfl, fun _ => rfl, fun _ => rfl, fun _ => rfl, fun _ => rfl, fun _ => rfl, fun _ => rfl, fun _ => rfl, fun _ => rfl, fun _ => rfl, fun _ => rfl, fun _ => rfl, fun _ => rfl, fun _ => rfl, fun q => absurd q (by decide), fun _ => rfl, fun _ => rfl, fun _ => ⟨rfl, rfl⟩, fun _ => rfl, fun x => ⟨Memory.writeAll_wf _ _ _ _ x.1, x.2⟩⟩
theorem winTouch_same : ∀ p w s, Same 294912 s (winTouch p w s) := by
  intro p w s
  unfold winTouch
  try dsimp only
  repeat' (first
    | with_reducible exact Same.rfl' _ | (with_reducible refine Same.ite ?_ ?_) | (with_reducible refine Same.iteFst ?_ ?_)
    | (with_reducible refine ((useExp_same ..).mono (by decide)).after ?_)
    | (with_reducible refine ((useSvc_same ..).mono (by decide)).after ?_) | split)
theorem winUse_same : ∀ p w n s, Same 294912 s (winUse p w n s) := by
  intro p w n s
  unfold winUse
  try dsimp only
  repeat' (first
    | with_reducible exact Same.rfl' _ | (with_reducible refine Same.ite ?_ ?_) | (with_reducible refine Same.iteFst ?_ ?_)
    | (with_reducible refine ((winTouch_same ..).mono (by decide)).after ?_)
    | (with_reducible refine (Same.foldl (fun _ _ => ?_) _ _).after ?_)
    | (with_reducible refine (Same.foldlFst (fun _ _ => ?_) _ _).after ?_) | split)

/-! ### Transport -/

theorem flushReq_same : ∀ r s, Same 633910 s (flushReq r s) := by
  intro r s
  unfold flushReq
  try dsimp only
  repeat' (first
    | with_reducible exact Same.rfl' _ | (with_reducible refine Same.ite ?_ ?_) | (with_reducible refine Same.iteFst ?_ ?_)
    | (with_reducible refine ((disableQueue_same ..).mono (by decide)).after ?_)
    | (with_reducible refine ((dropJob_same ..).mono (by decide)).after ?_)
    | (with_reducible refine ((modJob_same ..).mono (by decide)).after ?_) | split
    | (with_reducible refine Same.fst (by assumption) ?_))
theorem qpError_same : ∀ q cause psn s, Same 633910 s (qpError q cause psn s) := by
  intro q cause psn s
  unfold qpError
  try dsimp only
  repeat' (first
    | with_reducible exact Same.rfl' _ | (with_reducible refine ((setQp_same ..).mono (by decide)).after ?_)
    | (with_reducible refine ((raise_same ..).mono (by decide)).after ?_)
    | (with_reducible refine ((flushReq_same ..).mono (by decide)).after ?_)
    | (with_reducible refine (Same.foldl (fun _ _ => ?_) _ _).after ?_)
    | (with_reducible refine (Same.foldlFst (fun _ _ => ?_) _ _).after ?_))
theorem restartTransport_same : ∀ s, Same 633910 s (restartTransport s) := by
  intro s
  unfold restartTransport
  try dsimp only
  repeat' (first
    | with_reducible exact Same.rfl' _ | (with_reducible refine Same.ite ?_ ?_) | (with_reducible refine Same.iteFst ?_ ?_)
    | (with_reducible refine ((qpError_same ..).mono (by decide)).after ?_)
    | (with_reducible refine ((setQp_same ..).mono (by decide)).after ?_)
    | (with_reducible refine ((disableQueue_same ..).mono (by decide)).after ?_)
    | (with_reducible refine (Same.foldl (fun _ _ => ?_) _ _).after ?_)
    | (with_reducible refine (Same.foldlFst (fun _ _ => ?_) _ _).after ?_) | split
    | (with_reducible refine Same.fst (by assumption) ?_))
theorem rdmaWrite_same {key : Word} {va : Nat} {b : List Byte} {s t : State} (e : rdmaWrite key va b s = some t) :
    Same 819200 s t := by
  unfold rdmaWrite at e
  dsimp only at e
  split at e
  · split at e
    · injection e with e; subst e; exact (setSlot_same ..).mono (by decide)
    · contradiction
  · split at e
    · split at e
      · injection e with e; subst e; exact Same.mono (w := 524288) (v := 819200 ) (Same.setHost _ _ rfl rfl) (by decide)
      · contradiction
    · split at e
      · split at e
        · injection e with e; subst e
          exact ((winWrite_same ..).mono (by decide)).trans ((winUse_same ..).mono (by decide))
        · contradiction
      · contradiction
theorem rdmaUse_same : ∀ key va n s, Same 294912 s (rdmaUse key va n s) := by
  intro key va n s
  unfold rdmaUse
  try dsimp only
  repeat' (first
    | with_reducible exact Same.rfl' _ | (with_reducible refine Same.ite ?_ ?_) | (with_reducible refine Same.iteFst ?_ ?_)
    | (with_reducible refine ((winUse_same ..).mono (by decide)).after ?_) | split)
theorem accessError_same : ∀ q psn s, Same 633910 s (accessError q psn s) := by
  intro q psn s
  unfold accessError
  try dsimp only
  repeat' (first
    | with_reducible exact Same.rfl' _ | (with_reducible refine ((qpError_same ..).mono (by decide)).after ?_)
    | (with_reducible refine ((bump48_same ..).mono (by decide)).after ?_)
    | (with_reducible refine ((hostSend_same ..).mono (by decide)).after ?_))
theorem acked_same : ∀ q n s, Same 524320 s (acked q n s) := by
  intro q n s
  unfold acked
  try dsimp only
  repeat' (first
    | with_reducible exact Same.rfl' _ | (with_reducible refine ((bump48_same ..).mono (by decide)).after ?_)
    | (with_reducible refine ((hostSend_same ..).mono (by decide)).after ?_)
    | (with_reducible refine ((setQp_same ..).mono (by decide)).after ?_))
theorem readBack_same : ∀ q psn b s, Same 524320 s (readBack q psn b s) := by
  intro q psn b s
  unfold readBack
  try dsimp only
  repeat' (first
    | with_reducible exact Same.rfl' _ | (with_reducible refine ((bump48_same ..).mono (by decide)).after ?_)
    | (with_reducible refine ((hostSend_same ..).mono (by decide)).after ?_))
theorem acceptRoce_same : ∀ q psn f s, Same 896054 s (acceptRoce q psn f s) := by
  intro q psn f s
  unfold acceptRoce
  try dsimp only
  repeat' (first
    | with_reducible exact Same.rfl' _ | (with_reducible refine Same.ite ?_ ?_) | (with_reducible refine Same.iteFst ?_ ?_)
    | (with_reducible refine ((rdmaWrite_same (by assumption)).mono (by decide)).after ?_)
    | (with_reducible refine ((accessError_same ..).mono (by decide)).after ?_)
    | ((with_reducible refine ((Same.setHost _ _ ?_ ?_).mono (by decide)).after ?_); rfl; rfl)
    | (with_reducible refine ((acked_same ..).mono (by decide)).after ?_)
    | (with_reducible refine ((readBack_same ..).mono (by decide)).after ?_)
    | (with_reducible refine ((setQp_same ..).mono (by decide)).after ?_)
    | (with_reducible refine ((rdmaUse_same ..).mono (by decide)).after ?_)
    | (with_reducible refine ((bump48_same ..).mono (by decide)).after ?_)
    | (with_reducible refine ((hostSend_same ..).mono (by decide)).after ?_)
    | (with_reducible refine ((setSlot_same ..).mono (by decide)).after ?_) | split
    | (with_reducible refine Same.fst (by assumption) ?_))
theorem againRoce_same : ∀ q psn f s, Same 896054 s (againRoce q psn f s) := by
  intro q psn f s
  unfold againRoce
  try dsimp only
  repeat' (first
    | with_reducible exact Same.rfl' _ | (with_reducible refine ((accessError_same ..).mono (by decide)).after ?_)
    | (with_reducible refine ((readBack_same ..).mono (by decide)).after ?_)
    | (with_reducible refine ((rdmaUse_same ..).mono (by decide)).after ?_)
    | (with_reducible refine ((bump48_same ..).mono (by decide)).after ?_)
    | (with_reducible refine ((hostSend_same ..).mono (by decide)).after ?_) | split
    | (with_reducible refine Same.fst (by assumption) ?_))
theorem roceRequest_same : ∀ q psn icrc f s, Same 896054 s (roceRequest q psn icrc f s) := by
  intro q psn icrc f s
  unfold roceRequest
  try dsimp only
  repeat' (first
    | with_reducible exact Same.rfl' _ | (with_reducible refine Same.ite ?_ ?_) | (with_reducible refine Same.iteFst ?_ ?_)
    | (with_reducible refine ((bump48_same ..).mono (by decide)).after ?_)
    | (with_reducible refine ((acceptRoce_same ..).mono (by decide)).after ?_)
    | (with_reducible refine ((againRoce_same ..).mono (by decide)).after ?_)
    | (with_reducible refine ((hostSend_same ..).mono (by decide)).after ?_)
    | (with_reducible refine ((setQp_same ..).mono (by decide)).after ?_) | split)
theorem arrived_same : ∀ data r s, Same 524288 s (arrived data r s) := by
  intro data r s
  unfold arrived
  try dsimp only
  repeat' (first
    | with_reducible exact Same.rfl' _ | (with_reducible refine Same.ite ?_ ?_) | (with_reducible refine Same.iteFst ?_ ?_)
    | (with_reducible refine ((modHq_same ..).mono (by decide)).after ?_) | split
    | (with_reducible refine Same.fst (by assumption) ?_))
theorem roceAck_same : ∀ q psn data s, Same 524320 s (roceAck q psn data s) := by
  intro q psn data s
  unfold roceAck
  try dsimp only
  repeat' (first
    | with_reducible exact Same.rfl' _ | (with_reducible refine Same.ite ?_ ?_) | (with_reducible refine Same.iteFst ?_ ?_)
    | (with_reducible refine ((bump48_same ..).mono (by decide)).after ?_)
    | (with_reducible refine ((setQp_same ..).mono (by decide)).after ?_)
    | (with_reducible refine ((arrived_same ..).mono (by decide)).after ?_)
    | (with_reducible refine (Same.foldl (fun _ _ => ?_) _ _).after ?_)
    | (with_reducible refine (Same.foldlFst (fun _ _ => ?_) _ _).after ?_) | split
    | (with_reducible refine Same.fst (by assumption) ?_))
theorem resendAll_same : ∀ q s, Same 524320 s (resendAll q s) := by
  intro q s
  unfold resendAll
  try dsimp only
  repeat' (first
    | with_reducible exact Same.rfl' _ | (with_reducible refine ((setQp_same ..).mono (by decide)).after ?_)
    | (with_reducible refine ((bump48_same ..).mono (by decide)).after ?_)
    | (with_reducible refine ((hostSend_same ..).mono (by decide)).after ?_)
    | (with_reducible refine (Same.foldl (fun _ _ => ?_) _ _).after ?_)
    | (with_reducible refine (Same.foldlFst (fun _ _ => ?_) _ _).after ?_))
theorem retry_same : ∀ q s, Same 633910 s (retry q s) := by
  intro q s
  unfold retry
  try dsimp only
  repeat' (first
    | with_reducible exact Same.rfl' _ | (with_reducible refine Same.ite ?_ ?_) | (with_reducible refine Same.iteFst ?_ ?_)
    | (with_reducible refine ((qpError_same ..).mono (by decide)).after ?_)
    | (with_reducible refine ((resendAll_same ..).mono (by decide)).after ?_) | split
    | (with_reducible refine Same.fst (by assumption) ?_))
theorem roceNak_same : ∀ q psn kind s, Same 633910 s (roceNak q psn kind s) := by
  intro q psn kind s
  unfold roceNak
  try dsimp only
  repeat' (first
    | with_reducible exact Same.rfl' _ | (with_reducible refine Same.ite ?_ ?_) | (with_reducible refine Same.iteFst ?_ ?_)
    | (with_reducible refine ((bump48_same ..).mono (by decide)).after ?_)
    | (with_reducible refine ((retry_same ..).mono (by decide)).after ?_)
    | (with_reducible refine ((setQp_same ..).mono (by decide)).after ?_)
    | (with_reducible refine ((qpError_same ..).mono (by decide)).after ?_) | split
    | (with_reducible refine Same.fst (by assumption) ?_))
theorem roceTimeout_same : ∀ q s, Same 633910 s (roceTimeout q s) := by
  intro q s
  unfold roceTimeout
  try dsimp only
  repeat' (first
    | with_reducible exact Same.rfl' _ | (with_reducible refine Same.ite ?_ ?_) | (with_reducible refine Same.iteFst ?_ ?_)
    | (with_reducible refine ((retry_same ..).mono (by decide)).after ?_) | split)
theorem qpStart_same : ∀ q s, Same 524320 s (qpStart q s) := by
  intro q s
  unfold qpStart
  try dsimp only
  repeat' (first
    | with_reducible exact Same.rfl' _ | (with_reducible refine Same.ite ?_ ?_) | (with_reducible refine Same.iteFst ?_ ?_)
    | (with_reducible refine ((bump48_same ..).mono (by decide)).after ?_)
    | (with_reducible refine ((hostSend_same ..).mono (by decide)).after ?_)
    | (with_reducible refine (Same.foldl (fun _ _ => ?_) _ _).after ?_)
    | (with_reducible refine (Same.foldlFst (fun _ _ => ?_) _ _).after ?_) | split)
theorem startQp_same : ∀ c p s, Same 524292 s (startQp c p s) := by
  intro c p s
  unfold startQp
  try dsimp only
  repeat' (first
    | with_reducible exact Same.rfl' _ | (with_reducible refine ((defer_same ..).mono (by decide)).after ?_)
    | (with_reducible refine ((setQp_same ..).mono (by decide)).after ?_))
theorem bodyQpCreate_same : ∀ r s, Same 524292 s (bodyQpCreate r s).1 := by
  intro r s
  unfold bodyQpCreate
  try dsimp only
  repeat' (first
    | with_reducible exact Same.rfl' _ | (with_reducible refine Same.ite ?_ ?_) | (with_reducible refine Same.iteFst ?_ ?_)
    | (with_reducible refine ((startQp_same ..).mono (by decide)).after ?_) | split)
theorem bodyQpRestart_same : ∀ r s, Same 524292 s (bodyQpRestart r s).1 := by
  intro r s
  unfold bodyQpRestart
  try dsimp only
  repeat' (first
    | with_reducible exact Same.rfl' _ | (with_reducible refine Same.ite ?_ ?_) | (with_reducible refine Same.iteFst ?_ ?_)
    | (with_reducible refine ((startQp_same ..).mono (by decide)).after ?_) | split)
theorem bodyQpDestroy_same : ∀ r s, Same 633910 s (bodyQpDestroy r s).1 := by
  intro r s
  unfold bodyQpDestroy
  try dsimp only
  repeat' (first
    | with_reducible exact Same.rfl' _ | (with_reducible refine Same.ite ?_ ?_) | (with_reducible refine Same.iteFst ?_ ?_)
    | (with_reducible refine ((qpError_same ..).mono (by decide)).after ?_)
    | (with_reducible refine ((setQp_same ..).mono (by decide)).after ?_) | split)
theorem bodyQpQuery_same : ∀ r s, Same 0 s (bodyQpQuery r s).1 := by
  intro r s
  unfold bodyQpQuery
  try dsimp only
  repeat' (first
    | with_reducible exact Same.rfl' _ | (with_reducible refine Same.ite ?_ ?_) | (with_reducible refine Same.iteFst ?_ ?_)
    | split)
theorem bodyHregionAdd_same : ∀ r s, Same 524288 s (bodyHregionAdd r s).1 := by
  intro r s
  unfold bodyHregionAdd
  try dsimp only
  repeat' (first
    | with_reducible exact Same.rfl' _ | (with_reducible refine Same.ite ?_ ?_) | (with_reducible refine Same.iteFst ?_ ?_)
    | ((with_reducible refine ((Same.setHost _ _ ?_ ?_).mono (by decide)).after ?_); rfl; rfl) | split)
theorem bodyHregionRemove_same : ∀ r s, Same 633910 s (bodyHregionRemove r s).1 := by
  intro r s
  unfold bodyHregionRemove
  try dsimp only
  repeat' (first
    | with_reducible exact Same.rfl' _ | (with_reducible refine Same.ite ?_ ?_) | (with_reducible refine Same.iteFst ?_ ?_)
    | ((with_reducible refine ((Same.setHost _ _ ?_ ?_).mono (by decide)).after ?_); rfl; rfl)
    | (with_reducible refine ((disableQueue_same ..).mono (by decide)).after ?_)
    | (with_reducible refine (Same.foldl (fun _ _ => ?_) _ _).after ?_)
    | (with_reducible refine (Same.foldlFst (fun _ _ => ?_) _ _).after ?_) | split)
theorem bodyHregionRead_same : ∀ r s, Same 0 s (bodyHregionRead r s).1 := by
  intro r s
  unfold bodyHregionRead
  try dsimp only
  repeat' (first
    | with_reducible exact Same.rfl' _ | (with_reducible refine Same.ite ?_ ?_) | (with_reducible refine Same.iteFst ?_ ?_)
    | split)
theorem arpRequest_same : ∀ h f s, Same 524320 s (arpRequest h f s) := by
  intro h f s
  unfold arpRequest
  try dsimp only
  repeat' (first
    | with_reducible exact Same.rfl' _ | (with_reducible refine Same.ite ?_ ?_) | (with_reducible refine Same.iteFst ?_ ?_)
    | (with_reducible refine ((hostSend_same ..).mono (by decide)).after ?_) | split
    | (with_reducible refine Same.fst (by assumption) ?_))
theorem bootDiscover_same : ∀ h f s, Same 526370 s (bootDiscover h f s) := by
  intro h f s
  unfold bootDiscover
  try dsimp only
  repeat' (first
    | with_reducible exact Same.rfl' _ | (with_reducible refine Same.ite ?_ ?_) | (with_reducible refine Same.iteFst ?_ ?_)
    | (with_reducible refine ((sendBoot_same ..).mono (by decide)).after ?_)
    | (with_reducible refine ((bump48_same ..).mono (by decide)).after ?_)
    | (with_reducible refine (Same.foldl (fun _ _ => ?_) _ _).after ?_)
    | (with_reducible refine (Same.foldlFst (fun _ _ => ?_) _ _).after ?_) | split
    | (with_reducible refine Same.fst (by assumption) ?_))
theorem execRoceRequestRx_same : ∀ q psn icrc f s t, execRoceRequestRx q psn icrc f s = .next t → Same 896054 s t := by
  intro q psn icrc f s t h
  injection h with h
  subst h
  try dsimp only
  repeat' (first
    | with_reducible exact Same.rfl' _ | (with_reducible refine ((roceRequest_same ..).mono (by decide)).after ?_))
theorem execRoceAckRx_same : ∀ q psn data s t, execRoceAckRx q psn data s = .next t → Same 524320 s t := by
  intro q psn data s t h
  injection h with h
  subst h
  try dsimp only
  repeat' (first
    | with_reducible exact Same.rfl' _ | (with_reducible refine ((roceAck_same ..).mono (by decide)).after ?_))
theorem execRoceNakRx_same : ∀ q psn kind s t, execRoceNakRx q psn kind s = .next t → Same 633910 s t := by
  intro q psn kind s t h
  injection h with h
  subst h
  try dsimp only
  repeat' (first
    | with_reducible exact Same.rfl' _ | (with_reducible refine ((roceNak_same ..).mono (by decide)).after ?_))
theorem execRoceRetryTimeout_same : ∀ q s t, execRoceRetryTimeout q s = .next t → Same 633910 s t := by
  intro q s t h
  injection h with h
  subst h
  try dsimp only
  repeat' (first
    | with_reducible exact Same.rfl' _ | (with_reducible refine ((roceTimeout_same ..).mono (by decide)).after ?_))
theorem execArpRequestRx_same : ∀ h f s t, execArpRequestRx h f s = .next t → Same 524320 s t := by
  intro h f s t h
  injection h with h
  subst h
  try dsimp only
  repeat' (first
    | with_reducible exact Same.rfl' _ | (with_reducible refine ((arpRequest_same ..).mono (by decide)).after ?_))
theorem execBootDiscover_same : ∀ h f s t, execBootDiscover h f s = .next t → Same 526370 s t := by
  intro h f s t h
  injection h with h
  subst h
  try dsimp only
  repeat' (first
    | with_reducible exact Same.rfl' _ | (with_reducible refine ((bootDiscover_same ..).mono (by decide)).after ?_))
theorem execQpCreate_same : ∀ r s t, execQpCreate r s = .next t → Same 526390 s t := by
  intro r s t h
  injection h with h
  subst h
  try dsimp only
  repeat' (first
    | with_reducible exact Same.rfl' _
    | (with_reducible refine (runToune_same _ _ (by decide) (fun r s => (bodyQpCreate_same r s).mono (by decide)) _ _).after ?_)
    | (with_reducible refine ((bodyQpCreate_same ..).mono (by decide)).after ?_))
theorem execQpRestart_same : ∀ r s t, execQpRestart r s = .next t → Same 526390 s t := by
  intro r s t h
  injection h with h
  subst h
  try dsimp only
  repeat' (first
    | with_reducible exact Same.rfl' _
    | (with_reducible refine (runToune_same _ _ (by decide) (fun r s => (bodyQpRestart_same r s).mono (by decide)) _ _).after ?_)
    | (with_reducible refine ((bodyQpRestart_same ..).mono (by decide)).after ?_))
theorem execQpDestroy_same : ∀ r s t, execQpDestroy r s = .next t → Same 633910 s t := by
  intro r s t h
  injection h with h
  subst h
  try dsimp only
  repeat' (first
    | with_reducible exact Same.rfl' _
    | (with_reducible refine (runToune_same _ _ (by decide) (fun r s => (bodyQpDestroy_same r s).mono (by decide)) _ _).after ?_)
    | (with_reducible refine ((bodyQpDestroy_same ..).mono (by decide)).after ?_))
theorem execQpQuery_same : ∀ r s t, execQpQuery r s = .next t → Same 526386 s t := by
  intro r s t h
  injection h with h
  subst h
  try dsimp only
  repeat' (first
    | with_reducible exact Same.rfl' _
    | (with_reducible refine (runToune_same _ _ (by decide) (fun r s => (bodyQpQuery_same r s).mono (by decide)) _ _).after ?_)
    | (with_reducible refine ((bodyQpQuery_same ..).mono (by decide)).after ?_))
theorem execHregionAdd_same : ∀ r s t, execHregionAdd r s = .next t → Same 526386 s t := by
  intro r s t h
  injection h with h
  subst h
  try dsimp only
  repeat' (first
    | with_reducible exact Same.rfl' _
    | (with_reducible refine (runToune_same _ _ (by decide) (fun r s => (bodyHregionAdd_same r s).mono (by decide)) _ _).after ?_)
    | (with_reducible refine ((bodyHregionAdd_same ..).mono (by decide)).after ?_))
theorem execHregionRemove_same : ∀ r s t, execHregionRemove r s = .next t → Same 633910 s t := by
  intro r s t h
  injection h with h
  subst h
  try dsimp only
  repeat' (first
    | with_reducible exact Same.rfl' _
    | (with_reducible refine (runToune_same _ _ (by decide) (fun r s => (bodyHregionRemove_same r s).mono (by decide)) _ _).after ?_)
    | (with_reducible refine ((bodyHregionRemove_same ..).mono (by decide)).after ?_))
theorem execHregionRead_same : ∀ r s t, execHregionRead r s = .next t → Same 526386 s t := by
  intro r s t h
  injection h with h
  subst h
  try dsimp only
  repeat' (first
    | with_reducible exact Same.rfl' _
    | (with_reducible refine (runToune_same _ _ (by decide) (fun r s => (bodyHregionRead_same r s).mono (by decide)) _ _).after ?_)
    | (with_reducible refine ((bodyHregionRead_same ..).mono (by decide)).after ?_))

end Sys2Proof.Machine
end

