-- ==== Sys2Proof/Laws/SameHost.lean ====
section
/-! SUPPORT. What queues, the DMA engine, memory and the flow-access commands leave unchanged: the footprint of each operation. -/

namespace Sys2Proof.Machine

/-! ### Queues -/

theorem bindRing_same : ∀ q x s, Same 32768 s (bindRing q x s) := by
  intro q x s
  unfold bindRing
  try dsimp only
  repeat' (first
    | with_reducible exact Same.rfl' _ | (with_reducible refine ((setRing_same ..).mono (by decide)).after ?_) | split
    | (with_reducible refine Same.fst (by assumption) ?_))
theorem bodyQueueCreate_same : ∀ r s, Same 557056 s (bodyQueueCreate r s).1 := by
  intro r s
  unfold bodyQueueCreate
  try dsimp only
  repeat' (first
    | with_reducible exact Same.rfl' _ | (with_reducible refine Same.ite ?_ ?_) | (with_reducible refine Same.iteFst ?_ ?_)
    | (with_reducible refine ((bindRing_same ..).mono (by decide)).after ?_)
    | (with_reducible refine ((setHq_same ..).mono (by decide)).after ?_) | split)
theorem bodyQueueDestroy_same : ∀ r s, Same 557056 s (bodyQueueDestroy r s).1 := by
  intro r s
  unfold bodyQueueDestroy
  try dsimp only
  repeat' (first
    | with_reducible exact Same.rfl' _ | (with_reducible refine Same.ite ?_ ?_) | (with_reducible refine Same.iteFst ?_ ?_)
    | (with_reducible refine ((unbindRing_same ..).mono (by decide)).after ?_)
    | (with_reducible refine ((setHq_same ..).mono (by decide)).after ?_) | split
    | (with_reducible refine Same.fst (by assumption) ?_))
theorem bodyQueueDisable_same : ∀ r s, Same 633910 s (bodyQueueDisable r s).1 := by
  intro r s
  unfold bodyQueueDisable
  try dsimp only
  repeat' (first
    | with_reducible exact Same.rfl' _ | (with_reducible refine Same.ite ?_ ?_) | (with_reducible refine Same.iteFst ?_ ?_)
    | (with_reducible refine ((accepted_same (w := 633910) _ _ _ _ (by decide) (fun _ _ => ?_) _).mono (by decide)).after ?_)
    | (with_reducible refine ((disableQueue_same ..).mono (by decide)).after ?_)
    | (with_reducible refine ((modHq_same ..).mono (by decide)).after ?_) | split
    | (with_reducible refine Same.fst (by assumption) ?_))
theorem bodyQueueEnable_same : ∀ r s, Same 633910 s (bodyQueueEnable r s).1 := by
  intro r s
  unfold bodyQueueEnable
  try dsimp only
  repeat' (first
    | with_reducible exact Same.rfl' _ | (with_reducible refine Same.ite ?_ ?_) | (with_reducible refine Same.iteFst ?_ ?_)
    | (with_reducible refine ((pumpFetch_same ..).mono (by decide)).after ?_)
    | (with_reducible refine ((bindRing_same ..).mono (by decide)).after ?_)
    | (with_reducible refine ((setHq_same ..).mono (by decide)).after ?_) | split
    | (with_reducible refine Same.fst (by assumption) ?_))
theorem bodyQueueQuery_same : ∀ r s, Same 0 s (bodyQueueQuery r s).1 := by
  intro r s
  unfold bodyQueueQuery
  try dsimp only
  repeat' (first
    | with_reducible exact Same.rfl' _ | (with_reducible refine Same.ite ?_ ?_) | (with_reducible refine Same.iteFst ?_ ?_)
    | split | (with_reducible refine Same.fst (by assumption) ?_))
theorem doorbell_same : ∀ q v s, Same 633910 s (doorbell q v s) := by
  intro q v s
  unfold doorbell
  try dsimp only
  repeat' (first
    | with_reducible exact Same.rfl' _ | (with_reducible refine Same.ite ?_ ?_) | (with_reducible refine Same.iteFst ?_ ?_)
    | (with_reducible refine ((raiseLimited_same ..).mono (by decide)).after ?_)
    | (with_reducible refine ((bump32_same ..).mono (by decide)).after ?_)
    | (with_reducible refine ((setHq_same ..).mono (by decide)).after ?_)
    | (with_reducible refine ((pumpFetch_same ..).mono (by decide)).after ?_)
    | (with_reducible refine ((releaseHeld_same ..).mono (by decide)).after ?_) | split)
theorem doorbellWrite_same : ∀ s, Same 633910 s (doorbellWrite s) := by
  intro s
  unfold doorbellWrite
  try dsimp only
  repeat' (first
    | with_reducible exact Same.rfl' _ | (with_reducible refine Same.ite ?_ ?_) | (with_reducible refine Same.iteFst ?_ ?_)
    | (with_reducible refine ((doorbell_same ..).mono (by decide)).after ?_)
    | ((with_reducible refine ((Same.setHost _ _ ?_ ?_).mono (by decide)).after ?_); rfl; rfl) | split
    | (with_reducible refine Same.fst (by assumption) ?_))
theorem queueFetchDone_same : ∀ q s, Same 633910 s (queueFetchDone q s) := by
  intro q s
  unfold queueFetchDone
  try dsimp only
  repeat' (first
    | with_reducible exact Same.rfl' _ | (with_reducible refine Same.ite ?_ ?_) | (with_reducible refine Same.iteFst ?_ ?_)
    | (with_reducible refine ((pumpFetch_same ..).mono (by decide)).after ?_)
    | (with_reducible refine ((setHq_same ..).mono (by decide)).after ?_) | split
    | (with_reducible refine Same.fst (by assumption) ?_))
theorem rxBufferWrite_same : ∀ q s, Same 633910 s (rxBufferWrite q s) := by
  intro q s
  unfold rxBufferWrite
  try dsimp only
  repeat' (first
    | with_reducible exact Same.rfl' _ | (with_reducible refine Same.ite ?_ ?_) | (with_reducible refine Same.iteFst ?_ ?_)
    | (with_reducible refine ((hostWrite_same ..).mono (by decide)).after ?_)
    | (with_reducible refine ((modJob_same ..).mono (by decide)).after ?_)
    | (with_reducible refine ((modHq_same ..).mono (by decide)).after ?_)
    | (with_reducible refine ((Same.setBuf _ _).mono (by decide)).after ?_)
    | (with_reducible refine ((dropCopy_same ..).mono (by decide)).after ?_)
    | (with_reducible refine ((firstCopy_same ..).mono (by decide)).after ?_) | split
    | (with_reducible refine Same.fst (by assumption) ?_))
theorem exportDone_same : ∀ q j s, Same 524288 s (exportDone q j s) := by
  intro q j s
  unfold exportDone
  try dsimp only
  repeat' (first
    | with_reducible exact Same.rfl' _ | (with_reducible refine ((modJob_same ..).mono (by decide)).after ?_))
theorem exportFill_same : ∀ q ue s, Same 557088 s (exportFill q ue s) := by
  intro q ue s
  unfold exportFill
  try dsimp only
  repeat' (first
    | with_reducible exact Same.rfl' _ | (with_reducible refine Same.ite ?_ ?_) | (with_reducible refine Same.iteFst ?_ ?_)
    | (with_reducible refine ((exportDone_same ..).mono (by decide)).after ?_)
    | (with_reducible refine ((hostWrite_same ..).mono (by decide)).after ?_)
    | (with_reducible refine ((modJob_same ..).mono (by decide)).after ?_)
    | (with_reducible refine (chargeBlocks_same (w := 557088) _ _ _ _ (fun _ _ => ?_) _).after ?_)
    | (with_reducible refine ((useExp_same ..).mono (by decide)).after ?_)
    | (with_reducible refine ((setRing_same ..).mono (by decide)).after ?_)
    | (with_reducible refine ((bump32_same ..).mono (by decide)).after ?_) | split
    | (with_reducible refine Same.fst (by assumption) ?_))
theorem exportLinger_same : ∀ q s, Same 524288 s (exportLinger q s) := by
  intro q s
  unfold exportLinger
  try dsimp only
  repeat' (first
    | with_reducible exact Same.rfl' _ | (with_reducible refine Same.ite ?_ ?_) | (with_reducible refine Same.iteFst ?_ ?_)
    | (with_reducible refine ((exportDone_same ..).mono (by decide)).after ?_) | split
    | (with_reducible refine Same.fst (by assumption) ?_))
theorem countSent_same : ∀ i s, Same 16 s (countSent i s) := by
  intro i s
  unfold countSent
  try dsimp only
  repeat' (first
    | with_reducible exact Same.rfl' _ | (with_reducible refine ((setSession_same ..).mono (by decide)).after ?_))
theorem eventFrame_same : ∀ e i s, Same 526386 s (eventFrame e i s) := by
  intro e i s
  unfold eventFrame
  try dsimp only
  repeat' (first
    | with_reducible exact Same.rfl' _ | (with_reducible refine ((sendBoot_same ..).mono (by decide)).after ?_)
    | (with_reducible refine ((countSent_same ..).mono (by decide)).after ?_))
theorem eventToQueue_same : ∀ e q s, Same 633910 s (eventToQueue e q s) := by
  intro e q s
  unfold eventToQueue
  try dsimp only
  repeat' (first
    | with_reducible exact Same.rfl' _ | (with_reducible refine Same.ite ?_ ?_) | (with_reducible refine Same.iteFst ?_ ?_)
    | (with_reducible refine ((bump32_same ..).mono (by decide)).after ?_)
    | (with_reducible refine ((setHq_same ..).mono (by decide)).after ?_)
    | (with_reducible refine ((ringWrite_same ..).mono (by decide)).after ?_)
    | (with_reducible refine ((disableQueue_same ..).mono (by decide)).after ?_)
    | (with_reducible refine (Same.foldl (fun _ _ => ?_) _ _).after ?_)
    | (with_reducible refine (Same.foldlFst (fun _ _ => ?_) _ _).after ?_) | split
    | (with_reducible refine Same.fst (by assumption) ?_))
theorem eventDeliver_same : ∀ s, Same 633910 s (eventDeliver s) := by
  intro s
  unfold eventDeliver
  try dsimp only
  repeat' (first
    | with_reducible exact Same.rfl' _ | (with_reducible refine Same.ite ?_ ?_) | (with_reducible refine Same.iteFst ?_ ?_)
    | (with_reducible refine ((Same.setToune _ _).mono (by decide)).after ?_)
    | (with_reducible refine ((eventFrame_same ..).mono (by decide)).after ?_)
    | (with_reducible refine ((countSent_same ..).mono (by decide)).after ?_)
    | (with_reducible refine ((eventToQueue_same ..).mono (by decide)).after ?_)
    | (with_reducible refine (Same.foldl (fun _ _ => ?_) _ _).after ?_)
    | (with_reducible refine (Same.foldlFst (fun _ _ => ?_) _ _).after ?_) | split
    | (with_reducible refine Same.fst (by assumption) ?_))
theorem execQueueCreate_same : ∀ r s t, execQueueCreate r s = .next t → Same 559154 s t := by
  intro r s t h
  injection h with h
  subst h
  try dsimp only
  repeat' (first
    | with_reducible exact Same.rfl' _
    | (with_reducible refine (runToune_same _ _ (by decide) (fun r s => (bodyQueueCreate_same r s).mono (by decide)) _ _).after ?_)
    | (with_reducible refine ((bodyQueueCreate_same ..).mono (by decide)).after ?_))
theorem execQueueDestroy_same : ∀ r s t, execQueueDestroy r s = .next t → Same 559154 s t := by
  intro r s t h
  injection h with h
  subst h
  try dsimp only
  repeat' (first
    | with_reducible exact Same.rfl' _
    | (with_reducible refine (runToune_same _ _ (by decide) (fun r s => (bodyQueueDestroy_same r s).mono (by decide)) _ _).after ?_)
    | (with_reducible refine ((bodyQueueDestroy_same ..).mono (by decide)).after ?_))
theorem execQueueDisable_same : ∀ r s t, execQueueDisable r s = .next t → Same 633910 s t := by
  intro r s t h
  injection h with h
  subst h
  try dsimp only
  repeat' (first
    | with_reducible exact Same.rfl' _
    | (with_reducible refine (runToune_same _ _ (by decide) (fun r s => (bodyQueueDisable_same r s).mono (by decide)) _ _).after ?_)
    | (with_reducible refine ((bodyQueueDisable_same ..).mono (by decide)).after ?_))
theorem execQueueEnable_same : ∀ r s t, execQueueEnable r s = .next t → Same 633910 s t := by
  intro r s t h
  injection h with h
  subst h
  try dsimp only
  repeat' (first
    | with_reducible exact Same.rfl' _
    | (with_reducible refine (runToune_same _ _ (by decide) (fun r s => (bodyQueueEnable_same r s).mono (by decide)) _ _).after ?_)
    | (with_reducible refine ((bodyQueueEnable_same ..).mono (by decide)).after ?_))
theorem execQueueQuery_same : ∀ r s t, execQueueQuery r s = .next t → Same 526386 s t := by
  intro r s t h
  injection h with h
  subst h
  try dsimp only
  repeat' (first
    | with_reducible exact Same.rfl' _
    | (with_reducible refine (runToune_same _ _ (by decide) (fun r s => (bodyQueueQuery_same r s).mono (by decide)) _ _).after ?_)
    | (with_reducible refine ((bodyQueueQuery_same ..).mono (by decide)).after ?_))
theorem execDoorbellWrite_same : ∀ s t, execDoorbellWrite s = .next t → Same 633910 s t := by
  intro s t h
  injection h with h
  subst h
  try dsimp only
  repeat' (first
    | with_reducible exact Same.rfl' _ | (with_reducible refine ((doorbellWrite_same ..).mono (by decide)).after ?_))
theorem execQueueFetchDone_same : ∀ q s t, execQueueFetchDone q s = .next t → Same 633910 s t := by
  intro q s t h
  injection h with h
  subst h
  try dsimp only
  repeat' (first
    | with_reducible exact Same.rfl' _ | (with_reducible refine ((queueFetchDone_same ..).mono (by decide)).after ?_))
theorem execJobComplete_same : ∀ q s t, execJobComplete q s = .next t → Same 633910 s t := by
  intro q s t h
  injection h with h
  subst h
  try dsimp only
  repeat' (first
    | with_reducible exact Same.rfl' _ | (with_reducible refine ((jobComplete_same ..).mono (by decide)).after ?_))
theorem execCompletionAck_same : ∀ q s t, execCompletionAck q s = .next t → Same 633910 s t := by
  intro q s t h
  injection h with h
  subst h
  try dsimp only
  repeat' (first
    | with_reducible exact Same.rfl' _ | (with_reducible refine ((completionAck_same ..).mono (by decide)).after ?_))
theorem execRxBufferWrite_same : ∀ q s t, execRxBufferWrite q s = .next t → Same 633910 s t := by
  intro q s t h
  injection h with h
  subst h
  try dsimp only
  repeat' (first
    | with_reducible exact Same.rfl' _ | (with_reducible refine ((rxBufferWrite_same ..).mono (by decide)).after ?_))
theorem execExportFill_same : ∀ q ue s t, execExportFill q ue s = .next t → Same 557088 s t := by
  intro q ue s t h
  injection h with h
  subst h
  try dsimp only
  repeat' (first
    | with_reducible exact Same.rfl' _ | (with_reducible refine ((exportFill_same ..).mono (by decide)).after ?_))
theorem execExportLingerExpiry_same : ∀ q s t, execExportLingerExpiry q s = .next t → Same 524288 s t := by
  intro q s t h
  injection h with h
  subst h
  try dsimp only
  repeat' (first
    | with_reducible exact Same.rfl' _ | (with_reducible refine ((exportLinger_same ..).mono (by decide)).after ?_))
theorem execEventDeliver_same : ∀ s t, execEventDeliver s = .next t → Same 633910 s t := by
  intro s t h
  injection h with h
  subst h
  try dsimp only
  repeat' (first
    | with_reducible exact Same.rfl' _ | (with_reducible refine ((eventDeliver_same ..).mono (by decide)).after ?_))

/-! ### Dma -/

theorem bulk_same : ∀ r s, Same 524320 s (bulk r s) := by
  intro r s
  unfold bulk
  try dsimp only
  repeat' (first
    | with_reducible exact Same.rfl' _ | (with_reducible refine Same.ite ?_ ?_) | (with_reducible refine Same.iteFst ?_ ?_)
    | (with_reducible refine ((bump48_same ..).mono (by decide)).after ?_)
    | (with_reducible refine ((hostSend_same ..).mono (by decide)).after ?_)
    | (with_reducible refine ((setQp_same ..).mono (by decide)).after ?_) | split
    | (with_reducible refine Same.fst (by assumption) ?_))
theorem dxMove_same : ∀ q pos e data n s, Same 819232 s (dxMove q pos e data n s) := by
  intro q pos e data n s
  unfold dxMove
  try dsimp only
  repeat' (first
    | with_reducible exact Same.rfl' _ | (with_reducible refine Same.ite ?_ ?_) | (with_reducible refine Same.iteFst ?_ ?_)
    | (with_reducible refine ((bulk_same ..).mono (by decide)).after ?_)
    | (with_reducible refine ((winUse_same ..).mono (by decide)).after ?_)
    | (with_reducible refine ((winWrite_same ..).mono (by decide)).after ?_) | split
    | (with_reducible refine Same.fst (by assumption) ?_))
theorem dxStatusWord_same : ∀ q pos e st s, Same 524320 s (dxStatusWord q pos e st s) := by
  intro q pos e st s
  unfold dxStatusWord
  try dsimp only
  repeat' (first
    | with_reducible exact Same.rfl' _ | (with_reducible refine Same.ite ?_ ?_) | (with_reducible refine Same.iteFst ?_ ?_)
    | (with_reducible refine ((hostWrite_same ..).mono (by decide)).after ?_) | split)
theorem dxEnd_same : ∀ c q j e st s, Same 524340 s (dxEnd c q j e st s) := by
  intro c q j e st s
  unfold dxEnd
  try dsimp only
  repeat' (first
    | with_reducible exact Same.rfl' _ | (with_reducible refine Same.ite ?_ ?_) | (with_reducible refine Same.iteFst ?_ ?_)
    | (with_reducible refine ((modJob_same ..).mono (by decide)).after ?_)
    | (with_reducible refine ((dxStatusWord_same ..).mono (by decide)).after ?_)
    | (with_reducible refine ((bump32_same ..).mono (by decide)).after ?_)
    | ((with_reducible refine ((Same.setHost _ _ ?_ ?_).mono (by decide)).after ?_); rfl; rfl)
    | (with_reducible refine ((raiseLimited_same ..).mono (by decide)).after ?_) | split)
theorem setDxBytes_same : ∀ c v s, Same 524288 s (setDxBytes c v s) := by
  intro c v s
  unfold setDxBytes
  try dsimp only
  repeat' (first
    | with_reducible exact Same.rfl' _
    | ((with_reducible refine ((Same.setHost _ _ ?_ ?_).mono (by decide)).after ?_); rfl; rfl))
theorem dxDescriptorEnd_same : ∀ c data met s, Same 819254 s (dxDescriptorEnd c data met s) := by
  intro c data met s
  unfold dxDescriptorEnd
  try dsimp only
  repeat' (first
    | with_reducible exact Same.rfl' _ | (with_reducible refine Same.ite ?_ ?_) | (with_reducible refine Same.iteFst ?_ ?_)
    | (with_reducible refine ((dxEnd_same ..).mono (by decide)).after ?_)
    | (with_reducible refine ((setDxBytes_same ..).mono (by decide)).after ?_)
    | (with_reducible refine ((dxMove_same ..).mono (by decide)).after ?_)
    | (with_reducible refine ((drawn_same ..).mono (by decide)).after ?_) | split
    | (with_reducible refine Same.fst (by assumption) ?_))
theorem dxAbort_same : ∀ c q j s, Same 819250 s (dxAbort c q j s) := by
  intro c q j s
  unfold dxAbort
  try dsimp only
  repeat' (first
    | with_reducible exact Same.rfl' _ | (with_reducible refine Same.ite ?_ ?_) | (with_reducible refine Same.iteFst ?_ ?_)
    | (with_reducible refine ((drawn_same ..).mono (by decide)).after ?_)
    | (with_reducible refine ((dxMove_same ..).mono (by decide)).after ?_)
    | (with_reducible refine ((setDxBytes_same ..).mono (by decide)).after ?_)
    | (with_reducible refine ((raise_same ..).mono (by decide)).after ?_) | split)
theorem dxStop_same : ∀ c s, Same 819250 s (dxStop c s) := by
  intro c s
  unfold dxStop
  try dsimp only
  repeat' (first
    | with_reducible exact Same.rfl' _ | (with_reducible refine Same.ite ?_ ?_) | (with_reducible refine Same.iteFst ?_ ?_)
    | (with_reducible refine ((dxAbort_same ..).mono (by decide)).after ?_)
    | (with_reducible refine ((queueDisabled_same ..).mono (by decide)).after ?_)
    | (with_reducible refine ((forgetFetch_same ..).mono (by decide)).after ?_)
    | (with_reducible refine ((setHq_same ..).mono (by decide)).after ?_) | split
    | (with_reducible refine Same.fst (by assumption) ?_))
theorem dxCtrlDisable_same : ∀ c s, Same 9207858 s (dxCtrlDisable c s) := by
  intro c s
  unfold dxCtrlDisable
  try dsimp only
  repeat' (first
    | with_reducible exact Same.rfl' _ | (with_reducible refine Same.ite ?_ ?_) | (with_reducible refine Same.iteFst ?_ ?_)
    | (with_reducible refine ((setReg_same ..).mono (by decide)).after ?_)
    | (with_reducible refine ((dxStop_same ..).mono (by decide)).after ?_) | split)
theorem execDxDescriptorEnd_same : ∀ c data met s t, execDxDescriptorEnd c data met s = .next t → Same 819254 s t := by
  intro c data met s t h
  injection h with h
  subst h
  try dsimp only
  repeat' (first
    | with_reducible exact Same.rfl' _ | (with_reducible refine ((dxDescriptorEnd_same ..).mono (by decide)).after ?_))
theorem execDxCtrlDisable_same : ∀ c s t, execDxCtrlDisable c s = .next t → Same 9207858 s t := by
  intro c s t h
  injection h with h
  subst h
  try dsimp only
  repeat' (first
    | with_reducible exact Same.rfl' _ | (with_reducible refine ((dxCtrlDisable_same ..).mono (by decide)).after ?_))

/-! ### Memory -/

theorem setMem_same : ∀ c k x s, Same 1048576 s (setMem c k x s) := by
  intro c k x s
  unfold setMem
  try dsimp only
  repeat' (first
    | with_reducible exact Same.rfl' _ | (with_reducible refine ((Same.setMem _ _).mono (by decide)).after ?_))
theorem trainedHbm_same : ∀ k s, Same 66 s (trainedHbm k s) := by
  intro k s
  unfold trainedHbm
  try dsimp only
  repeat' (first
    | with_reducible exact Same.rfl' _ | (with_reducible refine ((drawn_same ..).mono (by decide)).after ?_)
    | (with_reducible refine ((Same.setCal _ _).mono (by decide)).after ?_))
theorem trainedChannel_same : ∀ k s, Same 66 s (trainedChannel k s) := by
  intro k s
  unfold trainedChannel
  try dsimp only
  repeat' (first
    | with_reducible exact Same.rfl' _ | (with_reducible refine ((drawn_same ..).mono (by decide)).after ?_)
    | (with_reducible refine ((Same.setCal _ _).mono (by decide)).after ?_))
theorem memOut_same : ∀ c k s, Same 276 s (memOut c k s) := by
  intro c k s
  unfold memOut
  try dsimp only
  repeat' (first
    | with_reducible exact Same.rfl' _ | (with_reducible refine Same.ite ?_ ?_) | (with_reducible refine Same.iteFst ?_ ?_)
    | (with_reducible refine ((nameUnit_same ..).mono (by decide)).after ?_)
    | (with_reducible refine ((recordFault_same ..).mono (by decide)).after ?_)
    | (with_reducible refine ((leaveService_same ..).mono (by decide)).after ?_) | split)
theorem memRefresh_same : ∀ c k s, Same 1048576 s (memRefresh c k s) := by
  intro c k s
  unfold memRefresh
  try dsimp only
  repeat' (first
    | with_reducible exact Same.rfl' _ | (with_reducible refine Same.ite ?_ ?_) | (with_reducible refine Same.iteFst ?_ ?_)
    | (with_reducible refine ((setMem_same ..).mono (by decide)).after ?_) | split)
theorem memRetrain_same : ∀ c k drift s, Same 1048852 s (memRetrain c k drift s) := by
  intro c k drift s
  unfold memRetrain
  try dsimp only
  repeat' (first
    | with_reducible exact Same.rfl' _ | (with_reducible refine Same.ite ?_ ?_) | (with_reducible refine Same.iteFst ?_ ?_)
    | (with_reducible refine ((setMem_same ..).mono (by decide)).after ?_)
    | (with_reducible refine ((memOut_same ..).mono (by decide)).after ?_)
    | (with_reducible refine ((raise_same ..).mono (by decide)).after ?_) | split
    | (with_reducible refine Same.fst (by assumption) ?_))
theorem memTempRead_same : ∀ c k temp s, Same 1048852 s (memTempRead c k temp s) := by
  intro c k temp s
  unfold memTempRead
  try dsimp only
  repeat' (first
    | with_reducible exact Same.rfl' _ | (with_reducible refine Same.ite ?_ ?_) | (with_reducible refine Same.iteFst ?_ ?_)
    | (with_reducible refine ((setMem_same ..).mono (by decide)).after ?_)
    | (with_reducible refine ((memOut_same ..).mono (by decide)).after ?_)
    | (with_reducible refine ((raise_same ..).mono (by decide)).after ?_) | split
    | (with_reducible refine Same.fst (by assumption) ?_))
theorem memLog_same : ∀ c k kind flags addr req s, Same 1048576 s (memLog c k kind flags addr req s) := by
  intro c k kind flags addr req s
  unfold memLog
  try dsimp only
  repeat' (first
    | with_reducible exact Same.rfl' _ | (with_reducible refine ((setMem_same ..).mono (by decide)).after ?_))
theorem memCe_same : ∀ c k s, Same 1048628 s (memCe c k s) := by
  intro c k s
  unfold memCe
  try dsimp only
  repeat' (first
    | with_reducible exact Same.rfl' _ | (with_reducible refine Same.ite ?_ ?_) | (with_reducible refine Same.iteFst ?_ ?_)
    | (with_reducible refine ((bump32_same ..).mono (by decide)).after ?_)
    | (with_reducible refine ((setMem_same ..).mono (by decide)).after ?_)
    | (with_reducible refine ((raiseOnce_same ..).mono (by decide)).after ?_) | split)
theorem memRead_same : ∀ c k addr req e s, Same 1048628 s (memRead c k addr req e s) := by
  intro c k addr req e s
  unfold memRead
  try dsimp only
  repeat' (first
    | with_reducible exact Same.rfl' _ | (with_reducible refine ((memLog_same ..).mono (by decide)).after ?_)
    | (with_reducible refine ((memCe_same ..).mono (by decide)).after ?_)
    | (with_reducible refine ((raiseLimited_same ..).mono (by decide)).after ?_)
    | (with_reducible refine ((bump32_same ..).mono (by decide)).after ?_) | split
    | (with_reducible refine Same.fst (by assumption) ?_))
theorem memReadComplete_same : ∀ c k addr req e s, Same 1048628 s (memReadComplete c k addr req e s) := by
  intro c k addr req e s
  unfold memReadComplete
  try dsimp only
  repeat' (first
    | with_reducible exact Same.rfl' _ | (with_reducible refine Same.ite ?_ ?_) | (with_reducible refine Same.iteFst ?_ ?_)
    | (with_reducible refine ((memRead_same ..).mono (by decide)).after ?_) | split)
theorem memPatrolScrub_same : ∀ c k found s, Same 1048628 s (memPatrolScrub c k found s) := by
  intro c k found s
  unfold memPatrolScrub
  try dsimp only
  repeat' (first
    | with_reducible exact Same.rfl' _ | (with_reducible refine Same.ite ?_ ?_) | (with_reducible refine Same.iteFst ?_ ?_)
    | (with_reducible refine ((memRead_same ..).mono (by decide)).after ?_)
    | (with_reducible refine ((setMem_same ..).mono (by decide)).after ?_)
    | (with_reducible refine (Same.foldl (fun _ _ => ?_) _ _).after ?_)
    | (with_reducible refine (Same.foldlFst (fun _ _ => ?_) _ _).after ?_) | split)
theorem memAlert_same : ∀ c k addr crc req s, Same 1048884 s (memAlert c k addr crc req s) := by
  intro c k addr crc req s
  unfold memAlert
  try dsimp only
  repeat' (first
    | with_reducible exact Same.rfl' _ | (with_reducible refine Same.ite ?_ ?_) | (with_reducible refine Same.iteFst ?_ ?_)
    | (with_reducible refine ((bump32_same ..).mono (by decide)).after ?_)
    | (with_reducible refine ((setMem_same ..).mono (by decide)).after ?_)
    | (with_reducible refine ((raise_same ..).mono (by decide)).after ?_)
    | (with_reducible refine ((recordFault_same ..).mono (by decide)).after ?_)
    | (with_reducible refine ((memLog_same ..).mono (by decide)).after ?_)
    | (with_reducible refine ((raiseLimited_same ..).mono (by decide)).after ?_)
    | (with_reducible refine ((leaveService_same ..).mono (by decide)).after ?_) | split)
theorem bodyMemErrlogRead_same : ∀ r s, Same 1048576 s (bodyMemErrlogRead r s).1 := by
  intro r s
  unfold bodyMemErrlogRead
  try dsimp only
  repeat' (first
    | with_reducible exact Same.rfl' _ | (with_reducible refine Same.ite ?_ ?_) | (with_reducible refine Same.iteFst ?_ ?_)
    | (with_reducible refine ((setMem_same ..).mono (by decide)).after ?_) | split
    | (with_reducible refine Same.fst (by assumption) ?_))
theorem bodyChannelDown_same : ∀ r s, Same 20 s (bodyChannelDown r s).1 := by
  intro r s
  unfold bodyChannelDown
  try dsimp only
  repeat' (first
    | with_reducible exact Same.rfl' _ | (with_reducible refine Same.ite ?_ ?_) | (with_reducible refine Same.iteFst ?_ ?_)
    | (with_reducible refine ((accepted_same (w := 20) _ _ _ _ (by decide) (fun _ _ => ?_) _).mono (by decide)).after ?_)
    | (with_reducible refine ((defer_same ..).mono (by decide)).after ?_) | split
    | (with_reducible refine Same.fst (by assumption) ?_))
theorem turfLost_same : ∀ n s, Same 262192 s (turfLost n s) := by
  intro n s
  unfold turfLost
  try dsimp only
  repeat' (first
    | with_reducible exact Same.rfl' _ | (with_reducible refine Same.ite ?_ ?_) | (with_reducible refine Same.iteFst ?_ ?_)
    | (with_reducible refine ((leakPair_same ..).mono (by decide)).after ?_)
    | (with_reducible refine ((setSl_same ..).mono (by decide)).after ?_)
    | (with_reducible refine ((raise_same ..).mono (by decide)).after ?_)
    | (with_reducible refine (Same.foldl (fun _ _ => ?_) _ _).after ?_)
    | (with_reducible refine (Same.foldlFst (fun _ _ => ?_) _ _).after ?_) | split)
theorem ringsLose_same : ∀ n s, Same 32800 s (ringsLose n s) := by
  intro n s
  unfold ringsLose
  try dsimp only
  repeat' (first
    | with_reducible exact Same.rfl' _ | (with_reducible refine Same.ite ?_ ?_) | (with_reducible refine Same.iteFst ?_ ?_)
    | (with_reducible refine ((bump32_same ..).mono (by decide)).after ?_)
    | (with_reducible refine ((setRing_same ..).mono (by decide)).after ?_)
    | (with_reducible refine (Same.foldl (fun _ _ => ?_) _ _).after ?_)
    | (with_reducible refine (Same.foldlFst (fun _ _ => ?_) _ _).after ?_) | split)
theorem channelDrainExpiry_same : ∀ c k aborted s, Same 1343536 s (channelDrainExpiry c k aborted s) := by
  intro c k aborted s
  unfold channelDrainExpiry
  try dsimp only
  repeat' (first
    | with_reducible exact Same.rfl' _ | (with_reducible refine Same.ite ?_ ?_) | (with_reducible refine Same.iteFst ?_ ?_)
    | (with_reducible refine ((memLog_same ..).mono (by decide)).after ?_)
    | (with_reducible refine ((bump32_same ..).mono (by decide)).after ?_)
    | (with_reducible refine ((setMem_same ..).mono (by decide)).after ?_)
    | (with_reducible refine ((ringsLose_same ..).mono (by decide)).after ?_)
    | (with_reducible refine ((turfLost_same ..).mono (by decide)).after ?_)
    | (with_reducible refine ((complete_same ..).mono (by decide)).after ?_)
    | (with_reducible refine (Same.foldl (fun _ _ => ?_) _ _).after ?_)
    | (with_reducible refine (Same.foldlFst (fun _ _ => ?_) _ _).after ?_) | split
    | (with_reducible refine Same.fst (by assumption) ?_))
theorem execMemRefresh_same : ∀ c k s t, execMemRefresh c k s = .next t → Same 1048576 s t := by
  intro c k s t h
  injection h with h
  subst h
  try dsimp only
  repeat' (first
    | with_reducible exact Same.rfl' _ | (with_reducible refine ((memRefresh_same ..).mono (by decide)).after ?_))
theorem execMemRetrain_same : ∀ c k drift s t, execMemRetrain c k drift s = .next t → Same 1048852 s t := by
  intro c k drift s t h
  injection h with h
  subst h
  try dsimp only
  repeat' (first
    | with_reducible exact Same.rfl' _ | (with_reducible refine ((memRetrain_same ..).mono (by decide)).after ?_))
theorem execMemTempRead_same : ∀ c k temp s t, execMemTempRead c k temp s = .next t → Same 1048852 s t := by
  intro c k temp s t h
  injection h with h
  subst h
  try dsimp only
  repeat' (first
    | with_reducible exact Same.rfl' _ | (with_reducible refine ((memTempRead_same ..).mono (by decide)).after ?_))
theorem execMemPatrolScrub_same : ∀ c k found s t, execMemPatrolScrub c k found s = .next t → Same 1048628 s t := by
  intro c k found s t h
  injection h with h
  subst h
  try dsimp only
  repeat' (first
    | with_reducible exact Same.rfl' _ | (with_reducible refine ((memPatrolScrub_same ..).mono (by decide)).after ?_))
theorem execMemReadComplete_same : ∀ c k addr req e s t, execMemReadComplete c k addr req e s = .next t → Same 1048628 s t := by
  intro c k addr req e s t h
  injection h with h
  subst h
  try dsimp only
  repeat' (first
    | with_reducible exact Same.rfl' _ | (with_reducible refine ((memReadComplete_same ..).mono (by decide)).after ?_))
theorem execMemAlert_same : ∀ c k addr crc req s t, execMemAlert c k addr crc req s = .next t → Same 1048884 s t := by
  intro c k addr crc req s t h
  injection h with h
  subst h
  try dsimp only
  repeat' (first
    | with_reducible exact Same.rfl' _ | (with_reducible refine ((memAlert_same ..).mono (by decide)).after ?_))
theorem execChannelDown_same : ∀ r s t, execChannelDown r s = .next t → Same 526390 s t := by
  intro r s t h
  injection h with h
  subst h
  try dsimp only
  repeat' (first
    | with_reducible exact Same.rfl' _
    | (with_reducible refine (runToune_same _ _ (by decide) (fun r s => (bodyChannelDown_same r s).mono (by decide)) _ _).after ?_)
    | (with_reducible refine ((bodyChannelDown_same ..).mono (by decide)).after ?_))
theorem execChannelDrainExpiry_same : ∀ c k aborted s t, execChannelDrainExpiry c k aborted s = .next t → Same 1343536 s t := by
  intro c k aborted s t h
  injection h with h
  subst h
  try dsimp only
  repeat' (first
    | with_reducible exact Same.rfl' _ | (with_reducible refine ((channelDrainExpiry_same ..).mono (by decide)).after ?_))
theorem execMemErrlogRead_same : ∀ r s t, execMemErrlogRead r s = .next t → Same 1574962 s t := by
  intro r s t h
  injection h with h
  subst h
  try dsimp only
  repeat' (first
    | with_reducible exact Same.rfl' _
    | (with_reducible refine (runToune_same _ _ (by decide) (fun r s => (bodyMemErrlogRead_same r s).mono (by decide)) _ _).after ?_)
    | (with_reducible refine ((bodyMemErrlogRead_same ..).mono (by decide)).after ?_))

/-! ### Place -/

theorem insertFrom_same : ∀ n d e x x2, Same 426292 x2 (insertFrom n d e x x2).1 := by
  intro n d e x x2
  induction x generalizing n d e x2 with
  | zero => exact Same.rfl' _
  | succ k0 ih =>
    unfold insertFrom
    try dsimp only
    repeat' (first
      | with_reducible exact Same.rfl' _ | (with_reducible refine Same.ite ?_ ?_) | (with_reducible refine Same.iteFst ?_ ?_)
      | (with_reducible refine ((fillEvents_same ..).mono (by decide)).after ?_)
      | (with_reducible refine ((walkMoves_same ..).mono (by decide)).after ?_)
      | (with_reducible refine ((setSl_same ..).mono (by decide)).after ?_)
      | (with_reducible refine ((useBack_same ..).mono (by decide)).after ?_)
      | (with_reducible refine ((tagError_same ..).mono (by decide)).after ?_)
      | (with_reducible refine ((metFail_same ..).mono (by decide)).after ?_)
      | (with_reducible refine ((migrateAbort_same ..).mono (by decide)).after ?_) | (with_reducible refine (ih ..).after ?_)
      | split | (with_reducible refine Same.fst (by assumption) ?_))
theorem stackInsert_same : ∀ n d e s, Same 426292 s (stackInsert n d e s).1 := by
  intro n d e s
  unfold stackInsert
  try dsimp only
  repeat' (first
    | with_reducible exact Same.rfl' _ | (with_reducible refine ((insertFrom_same ..).mono (by decide)).after ?_))
theorem evictWay_same : ∀ n packet v s, Same 426292 s (evictWay n packet v s).1 := by
  intro n packet v s
  unfold evictWay
  try dsimp only
  repeat' (first
    | with_reducible exact Same.rfl' _ | (with_reducible refine Same.ite ?_ ?_) | (with_reducible refine Same.iteFst ?_ ?_)
    | (with_reducible refine ((tagError_same ..).mono (by decide)).after ?_)
    | (with_reducible refine ((setSl_same ..).mono (by decide)).after ?_)
    | (with_reducible refine ((migrateAbort_same ..).mono (by decide)).after ?_)
    | (with_reducible refine ((metFail_same ..).mono (by decide)).after ?_)
    | (with_reducible refine ((useBucket_same ..).mono (by decide)).after ?_) | split
    | (with_reducible refine Same.fst (by assumption) ?_))
theorem hearthInstall_same : ∀ n d e slot dirty packet s, Same 426292 s (hearthInstall n d e slot dirty packet s).1 := by
  intro n d e slot dirty packet s
  unfold hearthInstall
  try dsimp only
  repeat' (first
    | with_reducible exact Same.rfl' _ | (with_reducible refine Same.ite ?_ ?_) | (with_reducible refine Same.iteFst ?_ ?_)
    | (with_reducible refine ((slCount_same ..).mono (by decide)).after ?_)
    | (with_reducible refine ((evictWay_same ..).mono (by decide)).after ?_)
    | (with_reducible refine ((setSl_same ..).mono (by decide)).after ?_)
    | (with_reducible refine (Same.foldl (fun _ _ => ?_) _ _).after ?_)
    | (with_reducible refine (Same.foldlFst (fun _ _ => ?_) _ _).after ?_) | split
    | (with_reducible refine Same.fst (by assumption) ?_))
theorem pinRefuse_same : ∀ n why s, Same 262192 s (pinRefuse n why s) := by
  intro n why s
  unfold pinRefuse
  try dsimp only
  repeat' (first
    | with_reducible exact Same.rfl' _ | (with_reducible refine Same.ite ?_ ?_) | (with_reducible refine Same.iteFst ?_ ?_)
    | (with_reducible refine ((slCount_same ..).mono (by decide)).after ?_)
    | (with_reducible refine ((setSl_same ..).mono (by decide)).after ?_)
    | (with_reducible refine ((raise_same ..).mono (by decide)).after ?_) | split
    | (with_reducible refine Same.fst (by assumption) ?_))
theorem seek_same : ∀ n d key again s, Same 426292 s (seek n d key again s).1 := by
  intro n d key again s
  unfold seek
  try dsimp only
  repeat' (first
    | with_reducible exact Same.rfl' _ | (with_reducible refine Same.ite ?_ ?_) | (with_reducible refine Same.iteFst ?_ ?_)
    | (with_reducible refine ((lookupWork_same ..).mono (by decide)).after ?_)
    | (with_reducible refine ((tagError_same ..).mono (by decide)).after ?_) | split
    | (with_reducible refine Same.fst (by assumption) ?_))
theorem seekIn_same : ∀ n d key again s, Same 426292 s (seekIn n d key again s).1 := by
  intro n d key again s
  unfold seekIn
  try dsimp only
  repeat' (first
    | with_reducible exact Same.rfl' _ | (with_reducible refine ((seek_same ..).mono (by decide)).after ?_)
    | (with_reducible refine ((hearthInstall_same ..).mono (by decide)).after ?_) | split
    | (with_reducible refine Same.fst (by assumption) ?_))
theorem runInstall_same : ∀ m pd key ptr s, Same 426292 s (runInstall m pd key ptr s).1 := by
  intro m pd key ptr s
  unfold runInstall
  try dsimp only
  repeat' (first
    | with_reducible exact Same.rfl' _ | (with_reducible refine ((seek_same ..).mono (by decide)).after ?_)
    | (with_reducible refine ((raise_same ..).mono (by decide)).after ?_)
    | (with_reducible refine ((slCount_same ..).mono (by decide)).after ?_)
    | (with_reducible refine ((stackInsert_same ..).mono (by decide)).after ?_) | split
    | (with_reducible refine Same.fst (by assumption) ?_))
theorem runBindAck_same : ∀ n d code pd again s, Same 426292 s (runBindAck n d code pd again s) := by
  intro n d code pd again s
  unfold runBindAck
  try dsimp only
  repeat' (first
    | with_reducible exact Same.rfl' _ | (with_reducible refine Same.ite ?_ ?_) | (with_reducible refine Same.iteFst ?_ ?_)
    | (with_reducible refine ((raiseLimited_same ..).mono (by decide)).after ?_)
    | (with_reducible refine ((slCount_same ..).mono (by decide)).after ?_)
    | (with_reducible refine ((seekIn_same ..).mono (by decide)).after ?_)
    | (with_reducible refine ((commitRecord_same ..).mono (by decide)).after ?_)
    | (with_reducible refine ((unbind_same ..).mono (by decide)).after ?_) | split
    | (with_reducible refine Same.fst (by assumption) ?_))

/-! ### Programs -/

theorem bodyFlowProgLoad_same : ∀ r s, Same 131076 s (bodyFlowProgLoad r s).1 := by
  intro r s
  unfold bodyFlowProgLoad
  try dsimp only
  repeat' (first
    | with_reducible exact Same.rfl' _ | (with_reducible refine Same.ite ?_ ?_) | (with_reducible refine Same.iteFst ?_ ?_)
    | (with_reducible refine ((defer_same ..).mono (by decide)).after ?_)
    | (with_reducible refine ((twinControl_same ..).mono (by decide)).after ?_) | split
    | (with_reducible refine Same.fst (by assumption) ?_))
theorem applyProg_same : ∀ b s, Same 262160 s (applyProg b s) := by
  intro b s
  unfold applyProg
  try dsimp only
  repeat' (first
    | with_reducible exact Same.rfl' _ | (with_reducible refine ((raise_same ..).mono (by decide)).after ?_)
    | (with_reducible refine ((Same.setFlow _ _).mono (by decide)).after ?_))
theorem bodyFlowProgRead_same : ∀ r s, Same 0 s (bodyFlowProgRead r s).1 := by
  intro r s
  unfold bodyFlowProgRead
  try dsimp only
  repeat' (first
    | with_reducible exact Same.rfl' _ | (with_reducible refine Same.ite ?_ ?_) | (with_reducible refine Same.iteFst ?_ ?_)
    | split)
theorem bodyFlowTemplateWrite_same : ∀ r s, Same 131076 s (bodyFlowTemplateWrite r s).1 := by
  intro r s
  unfold bodyFlowTemplateWrite
  try dsimp only
  repeat' (first
    | with_reducible exact Same.rfl' _ | (with_reducible refine Same.ite ?_ ?_) | (with_reducible refine Same.iteFst ?_ ?_)
    | (with_reducible refine ((defer_same ..).mono (by decide)).after ?_)
    | (with_reducible refine ((twinControl_same ..).mono (by decide)).after ?_) | split)
theorem applyTemplates_same : ∀ items s, Same 262160 s (applyTemplates items s) := by
  intro items s
  unfold applyTemplates
  try dsimp only
  repeat' (first
    | with_reducible exact Same.rfl' _ | (with_reducible refine ((raise_same ..).mono (by decide)).after ?_)
    | (with_reducible refine ((Same.setFlow _ _).mono (by decide)).after ?_)
    | (with_reducible refine (Same.foldl (fun _ _ => ?_) _ _).after ?_)
    | (with_reducible refine (Same.foldlFst (fun _ _ => ?_) _ _).after ?_))
theorem bodyFlowTemplateRead_same : ∀ r s, Same 0 s (bodyFlowTemplateRead r s).1 := by
  intro r s
  unfold bodyFlowTemplateRead
  try dsimp only
  repeat' (first
    | with_reducible exact Same.rfl' _ | (with_reducible refine Same.ite ?_ ?_) | (with_reducible refine Same.iteFst ?_ ?_)
    | split)
theorem execFlowProgLoad_same : ∀ r s t, execFlowProgLoad r s = .next t → Same 657462 s t := by
  intro r s t h
  injection h with h
  subst h
  try dsimp only
  repeat' (first
    | with_reducible exact Same.rfl' _
    | (with_reducible refine (runToune_same _ _ (by decide) (fun r s => (bodyFlowProgLoad_same r s).mono (by decide)) _ _).after ?_)
    | (with_reducible refine ((bodyFlowProgLoad_same ..).mono (by decide)).after ?_))
theorem execFlowProgRead_same : ∀ r s t, execFlowProgRead r s = .next t → Same 526386 s t := by
  intro r s t h
  injection h with h
  subst h
  try dsimp only
  repeat' (first
    | with_reducible exact Same.rfl' _
    | (with_reducible refine (runToune_same _ _ (by decide) (fun r s => (bodyFlowProgRead_same r s).mono (by decide)) _ _).after ?_)
    | (with_reducible refine ((bodyFlowProgRead_same ..).mono (by decide)).after ?_))
theorem execFlowTemplateWrite_same : ∀ r s t, execFlowTemplateWrite r s = .next t → Same 657462 s t := by
  intro r s t h
  injection h with h
  subst h
  try dsimp only
  repeat' (first
    | with_reducible exact Same.rfl' _
    | (with_reducible refine (runToune_same _ _ (by decide) (fun r s => (bodyFlowTemplateWrite_same r s).mono (by decide)) _ _).after ?_)
    | (with_reducible refine ((bodyFlowTemplateWrite_same ..).mono (by decide)).after ?_))
theorem execFlowTemplateRead_same : ∀ r s t, execFlowTemplateRead r s = .next t → Same 526386 s t := by
  intro r s t h
  injection h with h
  subst h
  try dsimp only
  repeat' (first
    | with_reducible exact Same.rfl' _
    | (with_reducible refine (runToune_same _ _ (by decide) (fun r s => (bodyFlowTemplateRead_same r s).mono (by decide)) _ _).after ?_)
    | (with_reducible refine ((bodyFlowTemplateRead_same ..).mono (by decide)).after ?_))

/-! ### Items -/

theorem clearTurf_same : ∀ n k e s, Same 262144 s (clearTurf n k e s) := by
  intro n k e s
  unfold clearTurf
  try dsimp only
  repeat' (first
    | with_reducible exact Same.rfl' _ | (with_reducible refine ((modSl_same ..).mono (by decide)).after ?_))
theorem toHearth_same : ∀ n d p e s, Same 426292 s (toHearth n d p e s).1 := by
  intro n d p e s
  unfold toHearth
  try dsimp only
  repeat' (first
    | with_reducible exact Same.rfl' _ | (with_reducible refine Same.ite ?_ ?_) | (with_reducible refine Same.iteFst ?_ ?_)
    | (with_reducible refine ((stackInsert_same ..).mono (by decide)).after ?_)
    | (with_reducible refine ((clearTurf_same ..).mono (by decide)).after ?_)
    | (with_reducible refine ((hearthInstall_same ..).mono (by decide)).after ?_) | split
    | (with_reducible refine Same.fst (by assumption) ?_))
theorem pinEntry_same : ∀ n d p e s, Same 426292 s (pinEntry n d p e s).1 := by
  intro n d p e s
  unfold pinEntry
  try dsimp only
  repeat' (first
    | with_reducible exact Same.rfl' _ | (with_reducible refine ((pinRefuse_same ..).mono (by decide)).after ?_)
    | (with_reducible refine ((toHearth_same ..).mono (by decide)).after ?_) | split
    | (with_reducible refine Same.fst (by assumption) ?_))
theorem writePair_same : ∀ n old e s, Same 262176 s (writePair n old e s).1 := by
  intro n old e s
  unfold writePair
  try dsimp only
  repeat' (first
    | with_reducible exact Same.rfl' _ | (with_reducible refine Same.ite ?_ ?_) | (with_reducible refine Same.iteFst ?_ ?_)
    | (with_reducible refine ((allocPairNow_same ..).mono (by decide)).after ?_) | split
    | (with_reducible refine Same.fst (by assumption) ?_))
theorem itemAway_same : ∀ s, Same 2 s (itemAway s).1 := by
  intro s
  unfold itemAway
  try dsimp only
  repeat' (first
    | with_reducible exact Same.rfl' _ | (with_reducible refine ((drawn_same ..).mono (by decide)).after ?_))
theorem itemRead_same : ∀ n d b s, Same 426294 s (itemRead n d b s).1 := by
  intro n d b s
  unfold itemRead
  try dsimp only
  repeat' (first
    | with_reducible exact Same.rfl' _ | (with_reducible refine Same.ite ?_ ?_) | (with_reducible refine Same.iteFst ?_ ?_)
    | (with_reducible refine ((seekIn_same ..).mono (by decide)).after ?_)
    | (with_reducible refine ((itemAway_same ..).mono (by decide)).after ?_) | split
    | (with_reducible refine Same.fst (by assumption) ?_))
theorem writeNew_same : ∀ n d e bind s, Same 426292 s (writeNew n d e bind s).1 := by
  intro n d e bind s
  unfold writeNew
  try dsimp only
  repeat' (first
    | with_reducible exact Same.rfl' _ | (with_reducible refine Same.ite ?_ ?_) | (with_reducible refine Same.iteFst ?_ ?_)
    | (with_reducible refine ((raise_same ..).mono (by decide)).after ?_)
    | (with_reducible refine ((slCount_same ..).mono (by decide)).after ?_)
    | (with_reducible refine ((pinRefuse_same ..).mono (by decide)).after ?_)
    | (with_reducible refine ((writePair_same ..).mono (by decide)).after ?_)
    | (with_reducible refine ((stackInsert_same ..).mono (by decide)).after ?_)
    | (with_reducible refine ((hearthInstall_same ..).mono (by decide)).after ?_)
    | (with_reducible refine ((emitDelta_same ..).mono (by decide)).after ?_)
    | (with_reducible refine ((sendInstall_same ..).mono (by decide)).after ?_) | split
    | (with_reducible refine Same.fst (by assumption) ?_))
theorem writeOver_same : ∀ n d p old e bind s, Same 426292 s (writeOver n d p old e bind s).1 := by
  intro n d p old e bind s
  unfold writeOver
  try dsimp only
  repeat' (first
    | with_reducible exact Same.rfl' _ | (with_reducible refine Same.ite ?_ ?_) | (with_reducible refine Same.iteFst ?_ ?_)
    | (with_reducible refine ((pinEntry_same ..).mono (by decide)).after ?_)
    | (with_reducible refine ((writePair_same ..).mono (by decide)).after ?_)
    | (with_reducible refine ((unbindRecord_same ..).mono (by decide)).after ?_)
    | (with_reducible refine ((wheelDrop_same ..).mono (by decide)).after ?_)
    | (with_reducible refine ((releasePair_same ..).mono (by decide)).after ?_)
    | (with_reducible refine ((commitRecord_same ..).mono (by decide)).after ?_)
    | (with_reducible refine ((sendInstall_same ..).mono (by decide)).after ?_) | split
    | (with_reducible refine Same.fst (by assumption) ?_))
theorem itemWrite_same : ∀ n d b s, Same 426294 s (itemWrite n d b s).1 := by
  intro n d b s
  unfold itemWrite
  try dsimp only
  repeat' (first
    | with_reducible exact Same.rfl' _ | (with_reducible refine Same.ite ?_ ?_) | (with_reducible refine Same.iteFst ?_ ?_)
    | (with_reducible refine ((seek_same ..).mono (by decide)).after ?_)
    | (with_reducible refine ((itemAway_same ..).mono (by decide)).after ?_)
    | (with_reducible refine ((writeOver_same ..).mono (by decide)).after ?_)
    | (with_reducible refine ((writeNew_same ..).mono (by decide)).after ?_) | split
    | (with_reducible refine Same.fst (by assumption) ?_))
theorem itemModify_same : ∀ n d b again s0, Same 426294 s0 (itemModify n d b again s0).1 := by
  intro n d b again s0
  unfold itemModify
  try dsimp only
  repeat' (first
    | with_reducible exact Same.rfl' _ | (with_reducible refine Same.ite ?_ ?_) | (with_reducible refine Same.iteFst ?_ ?_)
    | (with_reducible refine ((seekIn_same ..).mono (by decide)).after ?_)
    | (with_reducible refine ((itemAway_same ..).mono (by decide)).after ?_)
    | (with_reducible refine ((pinEntry_same ..).mono (by decide)).after ?_)
    | (with_reducible refine ((wheelDrop_same ..).mono (by decide)).after ?_)
    | (with_reducible refine ((commitRecord_same ..).mono (by decide)).after ?_) | split
    | (with_reducible refine Same.fst (by assumption) ?_))
theorem itemDelete_same : ∀ n d b s, Same 426294 s (itemDelete n d b s).1 := by
  intro n d b s
  unfold itemDelete
  try dsimp only
  repeat' (first
    | with_reducible exact Same.rfl' _ | (with_reducible refine Same.ite ?_ ?_) | (with_reducible refine Same.iteFst ?_ ?_)
    | (with_reducible refine ((seek_same ..).mono (by decide)).after ?_)
    | (with_reducible refine ((itemAway_same ..).mono (by decide)).after ?_)
    | (with_reducible refine ((deleteRecord_same ..).mono (by decide)).after ?_) | split
    | (with_reducible refine Same.fst (by assumption) ?_))
theorem itemRelease_same : ∀ n d b s, Same 262144 s (itemRelease n d b s).1 := by
  intro n d b s
  unfold itemRelease
  try dsimp only
  repeat' (first
    | with_reducible exact Same.rfl' _ | (with_reducible refine Same.ite ?_ ?_) | (with_reducible refine Same.iteFst ?_ ?_)
    | (with_reducible refine ((resolvePunt_same ..).mono (by decide)).after ?_) | split)
theorem runItem_same : ∀ opcode n d b again s, Same 426294 s (runItem opcode n d b again s).1 := by
  intro opcode n d b again s
  unfold runItem
  try dsimp only
  repeat' (first
    | with_reducible exact Same.rfl' _ | (with_reducible refine Same.ite ?_ ?_) | (with_reducible refine Same.iteFst ?_ ?_)
    | (with_reducible refine ((itemRead_same ..).mono (by decide)).after ?_)
    | (with_reducible refine ((itemWrite_same ..).mono (by decide)).after ?_)
    | (with_reducible refine ((itemModify_same ..).mono (by decide)).after ?_)
    | (with_reducible refine ((itemDelete_same ..).mono (by decide)).after ?_)
    | (with_reducible refine ((itemRelease_same ..).mono (by decide)).after ?_) | split)
theorem runHost_same : ∀ cmd item n d again s, Same 426294 s (runHost cmd item n d again s) := by
  intro cmd item n d again s
  unfold runHost
  try dsimp only
  repeat' (first
    | with_reducible exact Same.rfl' _ | (with_reducible refine Same.ite ?_ ?_) | (with_reducible refine Same.iteFst ?_ ?_)
    | (with_reducible refine ((Same.setFlow _ _).mono (by decide)).after ?_)
    | (with_reducible refine ((runItem_same ..).mono (by decide)).after ?_) | split
    | (with_reducible refine Same.fst (by assumption) ?_))

/-! ### Apply -/

theorem passDone_same : ∀ k s, Same 262144 s (passDone k s) := by
  intro k s
  unfold passDone
  try dsimp only
  repeat' (first
    | with_reducible exact Same.rfl' _ | (with_reducible refine ((Same.setFlow _ _).mono (by decide)).after ?_) | split
    | (with_reducible refine Same.fst (by assumption) ?_))
theorem runSweep_same : ∀ n d s, Same 426292 s (runSweep n d s) := by
  intro n d s
  unfold runSweep
  try dsimp only
  repeat' (first
    | with_reducible exact Same.rfl' _ | (with_reducible refine Same.ite ?_ ?_) | (with_reducible refine Same.iteFst ?_ ?_)
    | (with_reducible refine ((seek_same ..).mono (by decide)).after ?_)
    | (with_reducible refine ((passDone_same ..).mono (by decide)).after ?_)
    | (with_reducible refine ((deleteRecord_same ..).mono (by decide)).after ?_) | split
    | (with_reducible refine Same.fst (by assumption) ?_))
theorem runRepin_same : ∀ n d s, Same 426292 s (runRepin n d s) := by
  intro n d s
  unfold runRepin
  try dsimp only
  repeat' (first
    | with_reducible exact Same.rfl' _ | (with_reducible refine Same.ite ?_ ?_) | (with_reducible refine Same.iteFst ?_ ?_)
    | (with_reducible refine ((seek_same ..).mono (by decide)).after ?_)
    | (with_reducible refine ((useSvc_same ..).mono (by decide)).after ?_)
    | (with_reducible refine ((passDone_same ..).mono (by decide)).after ?_)
    | (with_reducible refine ((commitRecord_same ..).mono (by decide)).after ?_) | split
    | (with_reducible refine Same.fst (by assumption) ?_))
theorem runExpiry_same : ∀ n d deadline again s, Same 426292 s (runExpiry n d deadline again s) := by
  intro n d deadline again s
  unfold runExpiry
  try dsimp only
  repeat' (first
    | with_reducible exact Same.rfl' _ | (with_reducible refine Same.ite ?_ ?_) | (with_reducible refine Same.iteFst ?_ ?_)
    | (with_reducible refine ((seekIn_same ..).mono (by decide)).after ?_)
    | (with_reducible refine ((commitRecord_same ..).mono (by decide)).after ?_) | split
    | (with_reducible refine Same.fst (by assumption) ?_))
theorem applyNoroom_same : ∀ n s, Same 131124 s (applyNoroom n s) := by
  intro n s
  unfold applyNoroom
  try dsimp only
  repeat' (first
    | with_reducible exact Same.rfl' _ | (with_reducible refine ((raiseLimited_same ..).mono (by decide)).after ?_)
    | (with_reducible refine ((bump32_same ..).mono (by decide)).after ?_)
    | (with_reducible refine ((Same.setTwin _ _).mono (by decide)).after ?_))
theorem applyBound_same : ∀ n d wanted e s, Same 262144 s (applyBound n d wanted e s) := by
  intro n d wanted e s
  unfold applyBound
  try dsimp only
  repeat' (first
    | with_reducible exact Same.rfl' _ | (with_reducible refine Same.ite ?_ ?_) | (with_reducible refine Same.iteFst ?_ ?_)
    | (with_reducible refine ((sendInstall_same ..).mono (by decide)).after ?_) | split)
theorem applyNew_same : ∀ n d new s, Same 426292 s (applyNew n d new s) := by
  intro n d new s
  unfold applyNew
  try dsimp only
  repeat' (first
    | with_reducible exact Same.rfl' _ | (with_reducible refine Same.ite ?_ ?_) | (with_reducible refine Same.iteFst ?_ ?_)
    | (with_reducible refine ((applyNoroom_same ..).mono (by decide)).after ?_)
    | (with_reducible refine ((pinRefuse_same ..).mono (by decide)).after ?_)
    | (with_reducible refine ((stackInsert_same ..).mono (by decide)).after ?_)
    | (with_reducible refine ((hearthInstall_same ..).mono (by decide)).after ?_)
    | (with_reducible refine ((applyBound_same ..).mono (by decide)).after ?_)
    | (with_reducible refine ((markPair_same ..).mono (by decide)).after ?_) | split
    | (with_reducible refine Same.fst (by assumption) ?_))
theorem applyRecord_same : ∀ n b again s0, Same 426292 s0 (applyRecord n b again s0) := by
  intro n b again s0
  unfold applyRecord
  try dsimp only
  repeat' (first
    | with_reducible exact Same.rfl' _ | (with_reducible refine Same.ite ?_ ?_) | (with_reducible refine Same.iteFst ?_ ?_)
    | (with_reducible refine ((seekIn_same ..).mono (by decide)).after ?_)
    | (with_reducible refine ((applyNoroom_same ..).mono (by decide)).after ?_)
    | (with_reducible refine ((pinEntry_same ..).mono (by decide)).after ?_)
    | (with_reducible refine ((markPair_same ..).mono (by decide)).after ?_)
    | (with_reducible refine ((releasePair_same ..).mono (by decide)).after ?_)
    | (with_reducible refine ((unbindRecord_same ..).mono (by decide)).after ?_)
    | (with_reducible refine ((applyBound_same ..).mono (by decide)).after ?_)
    | (with_reducible refine ((commitRecord_same ..).mono (by decide)).after ?_)
    | (with_reducible refine ((applyNew_same ..).mono (by decide)).after ?_) | split
    | (with_reducible refine Same.fst (by assumption) ?_))
theorem applyDeleteDelta_same : ∀ n b s, Same 426292 s (applyDeleteDelta n b s) := by
  intro n b s
  unfold applyDeleteDelta
  try dsimp only
  repeat' (first
    | with_reducible exact Same.rfl' _ | (with_reducible refine Same.ite ?_ ?_) | (with_reducible refine Same.iteFst ?_ ?_)
    | (with_reducible refine ((seek_same ..).mono (by decide)).after ?_)
    | (with_reducible refine ((removeRecord_same ..).mono (by decide)).after ?_)
    | (with_reducible refine ((applyNoroom_same ..).mono (by decide)).after ?_) | split
    | (with_reducible refine Same.fst (by assumption) ?_))
theorem noteApplied_same : ∀ die last s, Same 131072 s (noteApplied die last s) := by
  intro die last s
  unfold noteApplied
  try dsimp only
  repeat' (first
    | with_reducible exact Same.rfl' _ | (with_reducible refine Same.ite ?_ ?_) | (with_reducible refine Same.iteFst ?_ ?_)
    | (with_reducible refine ((Same.setTwin _ _).mono (by decide)).after ?_) | split
    | (with_reducible refine Same.fst (by assumption) ?_))
theorem runDelta_same : ∀ n die b last again s, Same 426292 s (runDelta n die b last again s) := by
  intro n die b last again s
  unfold runDelta
  try dsimp only
  repeat' (first
    | with_reducible exact Same.rfl' _ | (with_reducible refine Same.ite ?_ ?_) | (with_reducible refine Same.iteFst ?_ ?_)
    | (with_reducible refine ((noteApplied_same ..).mono (by decide)).after ?_)
    | (with_reducible refine ((applyDeleteDelta_same ..).mono (by decide)).after ?_)
    | (with_reducible refine ((applyRecord_same ..).mono (by decide)).after ?_) | split)
theorem runFollow_same : ∀ n b again s0, Same 426292 s0 (runFollow n b again s0) := by
  intro n b again s0
  unfold runFollow
  try dsimp only
  repeat' (first
    | with_reducible exact Same.rfl' _ | (with_reducible refine Same.ite ?_ ?_) | (with_reducible refine Same.iteFst ?_ ?_)
    | (with_reducible refine ((seekIn_same ..).mono (by decide)).after ?_)
    | (with_reducible refine ((commitRecord_same ..).mono (by decide)).after ?_) | split
    | (with_reducible refine Same.fst (by assumption) ?_))
theorem runFollowRead_same : ∀ n d s, Same 426292 s (runFollowRead n d s) := by
  intro n d s
  unfold runFollowRead
  try dsimp only
  repeat' (first
    | with_reducible exact Same.rfl' _ | (with_reducible refine Same.ite ?_ ?_) | (with_reducible refine Same.iteFst ?_ ?_)
    | (with_reducible refine ((seek_same ..).mono (by decide)).after ?_)
    | (with_reducible refine ((dieSend_same ..).mono (by decide)).after ?_)
    | (with_reducible refine ((useLink_same ..).mono (by decide)).after ?_)
    | (with_reducible refine ((Same.setTwin _ _).mono (by decide)).after ?_) | split
    | (with_reducible refine Same.fst (by assumption) ?_))
theorem runBg_same : ∀ n op again s, Same 426294 s (runBg n op again s) := by
  intro n op again s
  unfold runBg
  try dsimp only
  repeat' (first
    | with_reducible exact Same.rfl' _ | (with_reducible refine Same.ite ?_ ?_) | (with_reducible refine Same.iteFst ?_ ?_)
    | (with_reducible refine ((slEvent_same ..).mono (by decide)).after ?_)
    | (with_reducible refine ((runHost_same ..).mono (by decide)).after ?_)
    | (with_reducible refine ((runSweep_same ..).mono (by decide)).after ?_)
    | (with_reducible refine ((runRepin_same ..).mono (by decide)).after ?_)
    | (with_reducible refine ((runExpiry_same ..).mono (by decide)).after ?_)
    | (with_reducible refine ((runInstall_same ..).mono (by decide)).after ?_)
    | (with_reducible refine ((modSl_same ..).mono (by decide)).after ?_)
    | (with_reducible refine ((removePtr_same ..).mono (by decide)).after ?_)
    | (with_reducible refine ((runBindAck_same ..).mono (by decide)).after ?_)
    | (with_reducible refine ((runDelta_same ..).mono (by decide)).after ?_)
    | (with_reducible refine ((runFollow_same ..).mono (by decide)).after ?_)
    | (with_reducible refine ((runFollowRead_same ..).mono (by decide)).after ?_) | split
    | (with_reducible refine Same.fst (by assumption) ?_))

end Sys2Proof.Machine
end

