-- ==== Sys2Proof/Laws/SameSlices.lean ====
section
/-! SUPPORT. What the flow slices, sessions and the island leave unchanged: the footprint of each operation. -/

namespace Sys2Proof.Machine

/-! ### Slices -/

theorem puntOp_same : ∀ n op s, Same 266292 s (puntOp n op s).1 := by
  intro n op s
  unfold puntOp
  try dsimp only
  repeat' (first
    | with_reducible exact Same.rfl' _ | (with_reducible refine Same.ite ?_ ?_) | (with_reducible refine Same.iteFst ?_ ?_)
    | (with_reducible refine ((slCount_same ..).mono (by decide)).after ?_)
    | (with_reducible refine ((setSl_same ..).mono (by decide)).after ?_)
    | (with_reducible refine ((postItem_same ..).mono (by decide)).after ?_)
    | (with_reducible refine ((setPhase_same ..).mono (by decide)).after ?_)
    | (with_reducible refine ((raise_same ..).mono (by decide)).after ?_)
    | (with_reducible refine ((answer_same ..).mono (by decide)).after ?_) | split)
theorem overflowOp_same : ∀ n op action s, Same 266292 s (overflowOp n op action s).1 := by
  intro n op action s
  unfold overflowOp
  try dsimp only
  repeat' (first
    | with_reducible exact Same.rfl' _ | (with_reducible refine ((slCount_same ..).mono (by decide)).after ?_)
    | (with_reducible refine ((answer_same ..).mono (by decide)).after ?_)
    | (with_reducible refine ((puntOp_same ..).mono (by decide)).after ?_) | split
    | (with_reducible refine Same.fst (by assumption) ?_))
theorem missOp_same : ∀ n op s0, Same 266292 s0 (missOp n op s0).1 := by
  intro n op s0
  unfold missOp
  try dsimp only
  repeat' (first
    | with_reducible exact Same.rfl' _ | (with_reducible refine Same.ite ?_ ?_) | (with_reducible refine Same.iteFst ?_ ?_)
    | (with_reducible refine ((slEvent_same ..).mono (by decide)).after ?_)
    | (with_reducible refine ((setPhase_same ..).mono (by decide)).after ?_)
    | (with_reducible refine ((setSl_same ..).mono (by decide)).after ?_)
    | (with_reducible refine ((overflowOp_same ..).mono (by decide)).after ?_)
    | (with_reducible refine ((raise_same ..).mono (by decide)).after ?_)
    | (with_reducible refine ((puntOp_same ..).mono (by decide)).after ?_)
    | (with_reducible refine ((answer_same ..).mono (by decide)).after ?_)
    | (with_reducible refine ((slCount_same ..).mono (by decide)).after ?_) | split
    | (with_reducible refine Same.fst (by assumption) ?_))
theorem awayOp_same : ∀ n cls inst op s, Same 262196 s (awayOp n cls inst op s).1 := by
  intro n cls inst op s
  unfold awayOp
  try dsimp only
  repeat' (first
    | with_reducible exact Same.rfl' _ | (with_reducible refine Same.ite ?_ ?_) | (with_reducible refine Same.iteFst ?_ ?_)
    | (with_reducible refine ((answer_same ..).mono (by decide)).after ?_)
    | (with_reducible refine ((tierAway_same ..).mono (by decide)).after ?_) | split
    | (with_reducible refine Same.fst (by assumption) ?_))
theorem badOp_same : ∀ n op p e s, Same 426292 s (badOp n op p e s).1 := by
  intro n op p e s
  unfold badOp
  try dsimp only
  repeat' (first
    | with_reducible exact Same.rfl' _ | (with_reducible refine ((answer_same ..).mono (by decide)).after ?_)
    | (with_reducible refine ((tagError_same ..).mono (by decide)).after ?_))
theorem enterForward_same : ∀ m primary q s, Same 264192 s (enterForward m primary q s) := by
  intro m primary q s
  unfold enterForward
  try dsimp only
  repeat' (first
    | with_reducible exact Same.rfl' _ | (with_reducible refine ((modSl_same ..).mono (by decide)).after ?_)
    | (with_reducible refine ((putPkt_same ..).mono (by decide)).after ?_) | split
    | (with_reducible refine Same.fst (by assumption) ?_))
theorem forwardOp_same : ∀ n op e s, Same 268340 s (forwardOp n op e s).1 := by
  intro n op e s
  unfold forwardOp
  try dsimp only
  repeat' (first
    | with_reducible exact Same.rfl' _ | (with_reducible refine Same.ite ?_ ?_) | (with_reducible refine Same.iteFst ?_ ?_)
    | (with_reducible refine ((slEvent_same ..).mono (by decide)).after ?_)
    | (with_reducible refine ((slCount_same ..).mono (by decide)).after ?_)
    | (with_reducible refine ((enterForward_same ..).mono (by decide)).after ?_)
    | (with_reducible refine ((setPhase_same ..).mono (by decide)).after ?_)
    | (with_reducible refine ((Same.setFlow _ _).mono (by decide)).after ?_)
    | (with_reducible refine ((missOp_same ..).mono (by decide)).after ?_) | split
    | (with_reducible refine Same.fst (by assumption) ?_))
theorem foundOp_same : ∀ n op p e s, Same 268340 s (foundOp n op p e s).1 := by
  intro n op p e s
  unfold foundOp
  try dsimp only
  repeat' (first
    | with_reducible exact Same.rfl' _ | (with_reducible refine Same.ite ?_ ?_) | (with_reducible refine Same.iteFst ?_ ?_)
    | (with_reducible refine ((slEvent_same ..).mono (by decide)).after ?_)
    | (with_reducible refine ((forwardOp_same ..).mono (by decide)).after ?_)
    | (with_reducible refine ((setPhase_same ..).mono (by decide)).after ?_) | split)
theorem startLookup_same : ∀ n op u s, Same 432436 s (startLookup n op u s).1 := by
  intro n op u s
  unfold startLookup
  try dsimp only
  repeat' (first
    | with_reducible exact Same.rfl' _ | (with_reducible refine Same.ite ?_ ?_) | (with_reducible refine Same.iteFst ?_ ?_)
    | (with_reducible refine ((foundOp_same ..).mono (by decide)).after ?_)
    | (with_reducible refine ((touchWay_same ..).mono (by decide)).after ?_)
    | (with_reducible refine ((badOp_same ..).mono (by decide)).after ?_)
    | (with_reducible refine ((setPhase_same ..).mono (by decide)).after ?_)
    | (with_reducible refine ((awayOp_same ..).mono (by decide)).after ?_) | split
    | (with_reducible refine Same.fst (by assumption) ?_))
theorem stackMissed_same : ∀ n op s, Same 266292 s (stackMissed n op s).1 := by
  intro n op s
  unfold stackMissed
  try dsimp only
  repeat' (first
    | with_reducible exact Same.rfl' _ | (with_reducible refine Same.ite ?_ ?_) | (with_reducible refine Same.iteFst ?_ ?_)
    | (with_reducible refine ((setPhase_same ..).mono (by decide)).after ?_)
    | (with_reducible refine ((missOp_same ..).mono (by decide)).after ?_) | split)
theorem probeReply_same : ∀ n op u s, Same 432436 s (probeReply n op u s).1 := by
  intro n op u s
  unfold probeReply
  try dsimp only
  repeat' (first
    | with_reducible exact Same.rfl' _ | (with_reducible refine Same.ite ?_ ?_) | (with_reducible refine Same.iteFst ?_ ?_)
    | (with_reducible refine ((awayOp_same ..).mono (by decide)).after ?_)
    | (with_reducible refine ((stackMissed_same ..).mono (by decide)).after ?_)
    | (with_reducible refine ((useBucket_same ..).mono (by decide)).after ?_)
    | (with_reducible refine ((badOp_same ..).mono (by decide)).after ?_)
    | (with_reducible refine ((foundOp_same ..).mono (by decide)).after ?_)
    | (with_reducible refine ((hearthInstall_same ..).mono (by decide)).after ?_) | split
    | (with_reducible refine Same.fst (by assumption) ?_))
theorem spoilSummary_same : ∀ n b s, Same 262144 s (spoilSummary n b s) := by
  intro n b s
  unfold spoilSummary
  try dsimp only
  repeat' (first
    | with_reducible exact Same.rfl' _ | (with_reducible refine Same.ite ?_ ?_) | (with_reducible refine Same.iteFst ?_ ?_)
    | (with_reducible refine ((modSl_same ..).mono (by decide)).after ?_) | split)
theorem summaryRead_same : ∀ n op ue s, Same 266292 s (summaryRead n op ue s).1 := by
  intro n op ue s
  unfold summaryRead
  try dsimp only
  repeat' (first
    | with_reducible exact Same.rfl' _ | (with_reducible refine Same.ite ?_ ?_) | (with_reducible refine Same.iteFst ?_ ?_)
    | (with_reducible refine ((awayOp_same ..).mono (by decide)).after ?_)
    | (with_reducible refine ((useBucket_same ..).mono (by decide)).after ?_)
    | (with_reducible refine ((spoilSummary_same ..).mono (by decide)).after ?_)
    | (with_reducible refine ((missOp_same ..).mono (by decide)).after ?_)
    | (with_reducible refine ((setPhase_same ..).mono (by decide)).after ?_) | split
    | (with_reducible refine Same.fst (by assumption) ?_))
theorem holdOp_same : ∀ n op k e s, Same 262192 s (holdOp n op k e s).1 := by
  intro n op k e s
  unfold holdOp
  try dsimp only
  repeat' (first
    | with_reducible exact Same.rfl' _ | (with_reducible refine Same.ite ?_ ?_) | (with_reducible refine Same.iteFst ?_ ?_)
    | (with_reducible refine ((setSl_same ..).mono (by decide)).after ?_)
    | (with_reducible refine ((slEvent_same ..).mono (by decide)).after ?_)
    | (with_reducible refine ((raise_same ..).mono (by decide)).after ?_)
    | (with_reducible refine ((setPhase_same ..).mono (by decide)).after ?_) | split)
theorem candidateRead_same : ∀ n op ks u s, Same 430388 s (candidateRead n op ks u s).1 := by
  intro n op ks u s
  unfold candidateRead
  try dsimp only
  repeat' (first
    | with_reducible exact Same.rfl' _ | (with_reducible refine Same.ite ?_ ?_) | (with_reducible refine Same.iteFst ?_ ?_)
    | (with_reducible refine ((missOp_same ..).mono (by decide)).after ?_)
    | (with_reducible refine ((awayOp_same ..).mono (by decide)).after ?_)
    | (with_reducible refine ((slCount_same ..).mono (by decide)).after ?_)
    | (with_reducible refine ((useTurf_same ..).mono (by decide)).after ?_)
    | (with_reducible refine ((setPhase_same ..).mono (by decide)).after ?_)
    | (with_reducible refine ((badOp_same ..).mono (by decide)).after ?_)
    | (with_reducible refine ((holdOp_same ..).mono (by decide)).after ?_) | split
    | (with_reducible refine Same.fst (by assumption) ?_))
theorem bgStep_same : ∀ n op s, Same 426294 s (bgStep n op s).1 := by
  intro n op s
  unfold bgStep
  try dsimp only
  repeat' (first
    | with_reducible exact Same.rfl' _ | (with_reducible refine Same.ite ?_ ?_) | (with_reducible refine Same.iteFst ?_ ?_)
    | (with_reducible refine ((holdOp_same ..).mono (by decide)).after ?_)
    | (with_reducible refine ((lookupWork_same ..).mono (by decide)).after ?_)
    | (with_reducible refine ((slEvent_same ..).mono (by decide)).after ?_)
    | (with_reducible refine ((runBg_same ..).mono (by decide)).after ?_) | split
    | (with_reducible refine Same.fst (by assumption) ?_))
theorem pump_same : ∀ n d x x2, Same 432438 x2 (pump n d x x2) := by
  intro n d x x2
  induction x generalizing n d x2 with
  | zero => exact Same.rfl' _
  | succ k0 ih =>
    unfold pump
    try dsimp only
    repeat' (first
      | with_reducible exact Same.rfl' _ | (with_reducible refine Same.ite ?_ ?_) | (with_reducible refine Same.iteFst ?_ ?_)
      | (with_reducible refine ((dropHead_same ..).mono (by decide)).after ?_)
      | (with_reducible refine ((setPhase_same ..).mono (by decide)).after ?_)
      | (with_reducible refine ((startLookup_same ..).mono (by decide)).after ?_)
      | (with_reducible refine ((delFlight_same ..).mono (by decide)).after ?_)
      | (with_reducible refine ((bgStep_same ..).mono (by decide)).after ?_) | (with_reducible refine (ih ..).after ?_) | split
      | (with_reducible refine Same.fst (by assumption) ?_))
theorem goOn_same : ∀ n d s, Same 432438 s (goOn n d s) := by
  intro n d s
  unfold goOn
  try dsimp only
  repeat' (first
    | with_reducible exact Same.rfl' _ | (with_reducible refine ((episodes_same ..).mono (by decide)).after ?_)
    | (with_reducible refine ((pump_same ..).mono (by decide)).after ?_) | split
    | (with_reducible refine Same.fst (by assumption) ?_))
theorem unpark_same : ∀ n d s, Same 432438 s (unpark n d s) := by
  intro n d s
  unfold unpark
  try dsimp only
  repeat' (first
    | with_reducible exact Same.rfl' _ | (with_reducible refine Same.ite ?_ ?_) | (with_reducible refine Same.iteFst ?_ ?_)
    | (with_reducible refine ((goOn_same ..).mono (by decide)).after ?_)
    | (with_reducible refine ((setPhase_same ..).mono (by decide)).after ?_)
    | (with_reducible refine ((dropPunt_same ..).mono (by decide)).after ?_) | split
    | (with_reducible refine Same.fst (by assumption) ?_))
theorem settlePunt_same : ∀ n d s, Same 432438 s (settlePunt n d s) := by
  intro n d s
  unfold settlePunt
  try dsimp only
  repeat' (first
    | with_reducible exact Same.rfl' _ | (with_reducible refine ((putFlight_same ..).mono (by decide)).after ?_)
    | (with_reducible refine ((answer_same ..).mono (by decide)).after ?_)
    | (with_reducible refine ((slCount_same ..).mono (by decide)).after ?_)
    | (with_reducible refine ((unpark_same ..).mono (by decide)).after ?_)
    | (with_reducible refine ((runBg_same ..).mono (by decide)).after ?_)
    | (with_reducible refine (Same.foldl (fun _ _ => ?_) _ _).after ?_)
    | (with_reducible refine (Same.foldlFst (fun _ _ => ?_) _ _).after ?_) | split
    | (with_reducible refine Same.fst (by assumption) ?_))
theorem stepped_same {w : Nat} (n : Nat) (d : Dword) (r : State × Bool) {s : State} (hw : Nat.lor 432438 w = w)
    (h : Same w s r.1) : Same w s (stepped n d r) := by
  unfold stepped
  exact Same.ite ((h.trans (((dropHead_same ..).mono (v := 432438 ) (by decide)).mono hw)).trans
      (((goOn_same ..).mono (v := 432438 ) (by decide)).mono hw))
    (Same.ite (h.trans (((settlePunt_same ..).mono (v := 432438 ) (by decide)).mono hw)) h)
theorem fullEvents_same : ∀ n s, Same 262160 s (fullEvents n s) := by
  intro n s
  unfold fullEvents
  try dsimp only
  repeat' (first
    | with_reducible exact Same.rfl' _ | (with_reducible refine Same.ite ?_ ?_) | (with_reducible refine Same.iteFst ?_ ?_)
    | (with_reducible refine ((raise_same ..).mono (by decide)).after ?_)
    | (with_reducible refine ((setSl_same ..).mono (by decide)).after ?_) | split)
theorem acceptBg_same : ∀ n op s, Same 432438 s (acceptBg n op s) := by
  intro n op s
  unfold acceptBg
  try dsimp only
  repeat' (first
    | with_reducible exact Same.rfl' _ | (with_reducible refine Same.ite ?_ ?_) | (with_reducible refine Same.iteFst ?_ ?_)
    | (with_reducible refine stepped_same (w := 432438) _ _ _ (by decide) ?_)
    | (with_reducible refine ((bgStep_same ..).mono (by decide)).after ?_)
    | (with_reducible refine ((putFlight_same ..).mono (by decide)).after ?_)
    | (with_reducible refine ((runBg_same ..).mono (by decide)).after ?_)
    | (with_reducible refine ((unpark_same ..).mono (by decide)).after ?_)
    | (with_reducible refine ((fullEvents_same ..).mono (by decide)).after ?_)
    | (with_reducible refine ((slEvent_same ..).mono (by decide)).after ?_) | split
    | (with_reducible refine Same.fst (by assumption) ?_))
theorem acceptPacket_same : ∀ n op u s, Same 432438 s (acceptPacket n op u s) := by
  intro n op u s
  unfold acceptPacket
  try dsimp only
  repeat' (first
    | with_reducible exact Same.rfl' _ | (with_reducible refine Same.ite ?_ ?_) | (with_reducible refine Same.iteFst ?_ ?_)
    | (with_reducible refine ((slEvent_same ..).mono (by decide)).after ?_)
    | (with_reducible refine ((modSl_same ..).mono (by decide)).after ?_)
    | (with_reducible refine ((putFlight_same ..).mono (by decide)).after ?_)
    | (with_reducible refine ((fullEvents_same ..).mono (by decide)).after ?_)
    | (with_reducible refine stepped_same (w := 432438) _ _ _ (by decide) ?_)
    | (with_reducible refine ((startLookup_same ..).mono (by decide)).after ?_)
    | (with_reducible refine ((answer_same ..).mono (by decide)).after ?_)
    | (with_reducible refine ((slCount_same ..).mono (by decide)).after ?_) | split
    | (with_reducible refine Same.fst (by assumption) ?_))
theorem takeSource_same {n src : Nat} {s t : State} {op : FlowOp} (e : takeSource s n src = some (op, t)) :
    Same 262144 s t := by
  unfold takeSource at e
  repeat' split at e
  all_goals first
    | contradiction
    | (injection e with e; injection e with e1 e2; subst e2; first
        | exact (setInput_same ..).mono (by decide)
        | exact (modSl_same ..).mono (by decide))
theorem admitForward_same : ∀ m s, Same 432438 s (admitForward m s) := by
  intro m s
  unfold admitForward
  try dsimp only
  repeat' (first
    | with_reducible exact Same.rfl' _ | (with_reducible refine Same.ite ?_ ?_) | (with_reducible refine Same.iteFst ?_ ?_)
    | (with_reducible refine ((Same.setFlow _ _).mono (by decide)).after ?_)
    | (with_reducible refine ((goOn_same ..).mono (by decide)).after ?_)
    | (with_reducible refine ((dropHead_same ..).mono (by decide)).after ?_)
    | (with_reducible refine ((enterForward_same ..).mono (by decide)).after ?_) | split
    | (with_reducible refine Same.fst (by assumption) ?_))
theorem acceptPackets_same : ∀ n x x2 x3, Same 432438 x3 (acceptPackets n x x2 x3) := by
  intro n x x2 x3
  induction x generalizing n x2 x3 with
  | nil => exact Same.rfl' _
  | cons a0 l0 ih =>
    unfold acceptPackets
    try dsimp only
    repeat' (first
      | with_reducible exact Same.rfl' _ | (with_reducible refine Same.ite ?_ ?_) | (with_reducible refine Same.iteFst ?_ ?_)
      | (with_reducible refine ((feed_same ..).mono (by decide)).after ?_)
      | (with_reducible refine ((admitForward_same ..).mono (by decide)).after ?_)
      | (with_reducible refine ((acceptPacket_same ..).mono (by decide)).after ?_)
      | (with_reducible refine ((modSl_same ..).mono (by decide)).after ?_)
      | (with_reducible refine ((takeSource_same (by assumption)).mono (by decide)).after ?_)
      | (with_reducible refine (ih ..).after ?_) | split | (with_reducible refine Same.fst (by assumption) ?_))
theorem acceptHosted_same : ∀ n s, Same 432438 s (acceptHosted n s).1 := by
  intro n s
  unfold acceptHosted
  try dsimp only
  repeat' (first
    | with_reducible exact Same.rfl' _ | (with_reducible refine Same.ite ?_ ?_) | (with_reducible refine Same.iteFst ?_ ?_)
    | (with_reducible refine ((acceptBg_same ..).mono (by decide)).after ?_)
    | (with_reducible refine ((useCycle_same ..).mono (by decide)).after ?_)
    | (with_reducible refine ((modSl_same ..).mono (by decide)).after ?_) | split
    | (with_reducible refine Same.fst (by assumption) ?_))
theorem acceptHost_same : ∀ n op s, Same 432438 s (acceptHost n op s) := by
  intro n op s
  unfold acceptHost
  try dsimp only
  repeat' (first
    | with_reducible exact Same.rfl' _ | (with_reducible refine Same.ite ?_ ?_) | (with_reducible refine Same.iteFst ?_ ?_)
    | (with_reducible refine ((acceptBg_same ..).mono (by decide)).after ?_)
    | (with_reducible refine ((useCycle_same ..).mono (by decide)).after ?_)
    | (with_reducible refine ((modSl_same ..).mono (by decide)).after ?_) | split)
theorem issueItem_same : ∀ c i cmd s, Same 432438 s (issueItem c i cmd s) := by
  intro c i cmd s
  unfold issueItem
  try dsimp only
  repeat' (first
    | with_reducible exact Same.rfl' _ | (with_reducible refine ((acceptHost_same ..).mono (by decide)).after ?_))
theorem issueReads_same : ∀ c x x2, Same 432438 x2 (issueReads c x x2) := by
  intro c x x2
  induction x generalizing c x2 with
  | zero => exact Same.rfl' _
  | succ k0 ih =>
    unfold issueReads
    try dsimp only
    repeat' (first
      | with_reducible exact Same.rfl' _ | (with_reducible refine Same.ite ?_ ?_) | (with_reducible refine Same.iteFst ?_ ?_)
      | (with_reducible refine ((Same.setFlow _ _).mono (by decide)).after ?_)
      | (with_reducible refine ((issueItem_same ..).mono (by decide)).after ?_) | (with_reducible refine (ih ..).after ?_)
      | split | (with_reducible refine Same.fst (by assumption) ?_))
theorem completeCmds_same : ∀ s, Same 956726 s (completeCmds s) := by
  intro s
  unfold completeCmds
  try dsimp only
  repeat' (first
    | with_reducible exact Same.rfl' _ | (with_reducible refine Same.ite ?_ ?_) | (with_reducible refine Same.iteFst ?_ ?_)
    | (with_reducible refine ((issueReads_same ..).mono (by decide)).after ?_)
    | (with_reducible refine ((send_same ..).mono (by decide)).after ?_)
    | (with_reducible refine ((Same.setFlow _ _).mono (by decide)).after ?_)
    | (with_reducible refine (Same.foldl (fun _ _ => ?_) _ _).after ?_)
    | (with_reducible refine (Same.foldlFst (fun _ _ => ?_) _ _).after ?_) | split
    | (with_reducible refine Same.fst (by assumption) ?_))
theorem acceptCycle_same : ∀ n u u2 s, Same 432438 s (acceptCycle n u u2 s) := by
  intro n u u2 s
  unfold acceptCycle
  try dsimp only
  repeat' (first
    | with_reducible exact Same.rfl' _ | (with_reducible refine ((acceptHosted_same ..).mono (by decide)).after ?_)
    | (with_reducible refine ((modSl_same ..).mono (by decide)).after ?_)
    | (with_reducible refine ((acceptPackets_same ..).mono (by decide)).after ?_) | split
    | (with_reducible refine Same.fst (by assumption) ?_))
theorem execFlowOpAccept_same : ∀ n u u2 s t, execFlowOpAccept n u u2 s = .next t → Same 956726 s t := by
  intro n u u2 s t h
  injection h with h
  subst h
  try dsimp only
  repeat' (first
    | with_reducible exact Same.rfl' _ | (with_reducible refine ((completeCmds_same ..).mono (by decide)).after ?_)
    | (with_reducible refine ((acceptCycle_same ..).mono (by decide)).after ?_))
theorem execStackProbeReply_same : ∀ n d u s t, execStackProbeReply n d u s = .next t → Same 956726 s t := by
  intro n d u s t h
  injection h with h
  subst h
  try dsimp only
  repeat' (first
    | with_reducible exact Same.rfl' _ | (with_reducible refine Same.ite ?_ ?_) | (with_reducible refine Same.iteFst ?_ ?_)
    | (with_reducible refine ((completeCmds_same ..).mono (by decide)).after ?_)
    | (with_reducible refine stepped_same (w := 956726) _ _ _ (by decide) ?_)
    | (with_reducible refine ((probeReply_same ..).mono (by decide)).after ?_) | split
    | (with_reducible refine Same.fst (by assumption) ?_))
theorem execColdSummaryRead_same : ∀ n d ue s t, execColdSummaryRead n d ue s = .next t → Same 956726 s t := by
  intro n d ue s t h
  injection h with h
  subst h
  try dsimp only
  repeat' (first
    | with_reducible exact Same.rfl' _ | (with_reducible refine Same.ite ?_ ?_) | (with_reducible refine Same.iteFst ?_ ?_)
    | (with_reducible refine ((completeCmds_same ..).mono (by decide)).after ?_)
    | (with_reducible refine stepped_same (w := 956726) _ _ _ (by decide) ?_)
    | (with_reducible refine ((summaryRead_same ..).mono (by decide)).after ?_) | split
    | (with_reducible refine Same.fst (by assumption) ?_))
theorem execTurfCandidateRead_same : ∀ n d u s t, execTurfCandidateRead n d u s = .next t → Same 956726 s t := by
  intro n d u s t h
  injection h with h
  subst h
  try dsimp only
  repeat' (first
    | with_reducible exact Same.rfl' _ | (with_reducible refine Same.ite ?_ ?_) | (with_reducible refine Same.iteFst ?_ ?_)
    | (with_reducible refine ((completeCmds_same ..).mono (by decide)).after ?_)
    | (with_reducible refine stepped_same (w := 956726) _ _ _ (by decide) ?_)
    | (with_reducible refine ((candidateRead_same ..).mono (by decide)).after ?_) | split
    | (with_reducible refine Same.fst (by assumption) ?_))
theorem readMember_same : ∀ n t' s, Same 262144 s (readMember n t' s) := by
  intro n t' s
  unfold readMember
  try dsimp only
  repeat' (first
    | with_reducible exact Same.rfl' _ | (with_reducible refine Same.ite ?_ ?_) | (with_reducible refine Same.iteFst ?_ ?_)
    | (with_reducible refine ((useSvc_same ..).mono (by decide)).after ?_) | split)
theorem makeRecord_same : ∀ n op q s, Same 262196 s (makeRecord n op q s).1 := by
  intro n op q s
  unfold makeRecord
  try dsimp only
  repeat' (first
    | with_reducible exact Same.rfl' _ | (with_reducible refine Same.ite ?_ ?_) | (with_reducible refine Same.iteFst ?_ ?_)
    | (with_reducible refine ((raiseLimited_same ..).mono (by decide)).after ?_)
    | (with_reducible refine ((slCount_same ..).mono (by decide)).after ?_)
    | (with_reducible refine ((raise_same ..).mono (by decide)).after ?_)
    | (with_reducible refine ((pinRefuse_same ..).mono (by decide)).after ?_)
    | (with_reducible refine ((translate_same ..).mono (by decide)).after ?_)
    | (with_reducible refine ((noPair_same ..).mono (by decide)).after ?_) | split
    | (with_reducible refine Same.fst (by assumption) ?_))
theorem leaveCreateQ_same : ∀ n s, Same 262176 s (leaveCreateQ n s) := by
  intro n s
  unfold leaveCreateQ
  try dsimp only
  repeat' (first
    | with_reducible exact Same.rfl' _ | (with_reducible refine ((slEvent_same ..).mono (by decide)).after ?_)
    | (with_reducible refine ((modSl_same ..).mono (by decide)).after ?_))
theorem installMade_same : ∀ n d t' e s, Same 426292 s (installMade n d t' e s) := by
  intro n d t' e s
  unfold installMade
  try dsimp only
  repeat' (first
    | with_reducible exact Same.rfl' _ | (with_reducible refine Same.ite ?_ ?_) | (with_reducible refine Same.iteFst ?_ ?_)
    | (with_reducible refine ((stackInsert_same ..).mono (by decide)).after ?_)
    | (with_reducible refine ((hearthInstall_same ..).mono (by decide)).after ?_)
    | (with_reducible refine ((modSl_same ..).mono (by decide)).after ?_)
    | (with_reducible refine ((setPhase_same ..).mono (by decide)).after ?_)
    | (with_reducible refine ((sendInstall_same ..).mono (by decide)).after ?_) | split
    | (with_reducible refine Same.fst (by assumption) ?_))
theorem createGrant_same : ∀ n s, Same 432438 s (createGrant n s) := by
  intro n s
  unfold createGrant
  try dsimp only
  repeat' (first
    | with_reducible exact Same.rfl' _ | (with_reducible refine Same.ite ?_ ?_) | (with_reducible refine Same.iteFst ?_ ?_)
    | (with_reducible refine ((leaveCreateQ_same ..).mono (by decide)).after ?_)
    | (with_reducible refine ((makeRecord_same ..).mono (by decide)).after ?_)
    | (with_reducible refine ((installMade_same ..).mono (by decide)).after ?_)
    | (with_reducible refine ((readMember_same ..).mono (by decide)).after ?_)
    | (with_reducible refine ((backServed_same ..).mono (by decide)).after ?_)
    | (with_reducible refine stepped_same (w := 432438) _ _ _ (by decide) ?_)
    | (with_reducible refine ((overflowOp_same ..).mono (by decide)).after ?_) | split
    | (with_reducible refine Same.fst (by assumption) ?_))
theorem execCreateGrant_same : ∀ n s t, execCreateGrant n s = .next t → Same 956726 s t := by
  intro n s t h
  injection h with h
  subst h
  try dsimp only
  repeat' (first
    | with_reducible exact Same.rfl' _ | (with_reducible refine ((completeCmds_same ..).mono (by decide)).after ?_)
    | (with_reducible refine ((createGrant_same ..).mono (by decide)).after ?_))
theorem resolveBehind_same : ∀ n d verdict s, Same 432438 s (resolveBehind n d verdict s) := by
  intro n d verdict s
  unfold resolveBehind
  try dsimp only
  repeat' (first
    | with_reducible exact Same.rfl' _ | (with_reducible refine Same.ite ?_ ?_) | (with_reducible refine Same.iteFst ?_ ?_)
    | (with_reducible refine ((answer_same ..).mono (by decide)).after ?_)
    | (with_reducible refine ((goOn_same ..).mono (by decide)).after ?_)
    | (with_reducible refine ((putFlight_same ..).mono (by decide)).after ?_)
    | (with_reducible refine (Same.foldl (fun _ _ => ?_) _ _).after ?_)
    | (with_reducible refine (Same.foldlFst (fun _ _ => ?_) _ _).after ?_) | split
    | (with_reducible refine Same.fst (by assumption) ?_))
theorem createExpired_same : ∀ n s, Same 432438 s (createExpired n s) := by
  intro n s
  unfold createExpired
  try dsimp only
  repeat' (first
    | with_reducible exact Same.rfl' _ | (with_reducible refine Same.ite ?_ ?_) | (with_reducible refine Same.iteFst ?_ ?_)
    | (with_reducible refine ((slCount_same ..).mono (by decide)).after ?_)
    | (with_reducible refine ((modSl_same ..).mono (by decide)).after ?_)
    | (with_reducible refine ((raiseLimited_same ..).mono (by decide)).after ?_)
    | (with_reducible refine ((resolveBehind_same ..).mono (by decide)).after ?_)
    | (with_reducible refine ((overflowOp_same ..).mono (by decide)).after ?_)
    | (with_reducible refine ((dropHead_same ..).mono (by decide)).after ?_)
    | (with_reducible refine ((settlePunt_same ..).mono (by decide)).after ?_) | split
    | (with_reducible refine Same.fst (by assumption) ?_))
theorem holdExpired_same : ∀ n s, Same 432438 s (holdExpired n s) := by
  intro n s
  unfold holdExpired
  try dsimp only
  repeat' (first
    | with_reducible exact Same.rfl' _ | (with_reducible refine Same.ite ?_ ?_) | (with_reducible refine Same.iteFst ?_ ?_)
    | (with_reducible refine ((slCount_same ..).mono (by decide)).after ?_)
    | (with_reducible refine ((modSl_same ..).mono (by decide)).after ?_)
    | (with_reducible refine ((raiseLimited_same ..).mono (by decide)).after ?_)
    | (with_reducible refine ((resolveBehind_same ..).mono (by decide)).after ?_)
    | (with_reducible refine stepped_same (w := 432438) _ _ _ (by decide) ?_)
    | (with_reducible refine ((runBg_same ..).mono (by decide)).after ?_) | split
    | (with_reducible refine Same.fst (by assumption) ?_))
theorem execCreateExpired_same : ∀ n s t, execCreateExpired n s = .next t → Same 956726 s t := by
  intro n s t h
  injection h with h
  subst h
  try dsimp only
  repeat' (first
    | with_reducible exact Same.rfl' _ | (with_reducible refine ((completeCmds_same ..).mono (by decide)).after ?_)
    | (with_reducible refine ((createExpired_same ..).mono (by decide)).after ?_))
theorem execHoldExpired_same : ∀ n s t, execHoldExpired n s = .next t → Same 956726 s t := by
  intro n s t h
  injection h with h
  subst h
  try dsimp only
  repeat' (first
    | with_reducible exact Same.rfl' _ | (with_reducible refine ((completeCmds_same ..).mono (by decide)).after ?_)
    | (with_reducible refine ((holdExpired_same ..).mono (by decide)).after ?_))
theorem puntTimeout_same : ∀ n s, Same 262196 s (puntTimeout n s) := by
  intro n s
  unfold puntTimeout
  try dsimp only
  repeat' (first
    | with_reducible exact Same.rfl' _ | (with_reducible refine Same.ite ?_ ?_) | (with_reducible refine Same.iteFst ?_ ?_)
    | (with_reducible refine ((raiseLimited_same ..).mono (by decide)).after ?_)
    | (with_reducible refine ((slCount_same ..).mono (by decide)).after ?_)
    | (with_reducible refine ((resolvePunt_same ..).mono (by decide)).after ?_) | split
    | (with_reducible refine Same.fst (by assumption) ?_))
theorem execPuntTimeout_same : ∀ n s t, execPuntTimeout n s = .next t → Same 262196 s t := by
  intro n s t h
  injection h with h
  subst h
  try dsimp only
  repeat' (first
    | with_reducible exact Same.rfl' _ | (with_reducible refine ((puntTimeout_same ..).mono (by decide)).after ?_))
theorem journalRun_same : ∀ n d p q rev new r s, Same 32800 s (journalRun n d p q rev new r s) := by
  intro n d p q rev new r s
  unfold journalRun
  try dsimp only
  repeat' (first
    | with_reducible exact Same.rfl' _ | (with_reducible refine Same.ite ?_ ?_) | (with_reducible refine Same.iteFst ?_ ?_)
    | (with_reducible refine ((journal_same ..).mono (by decide)).after ?_)
    | (with_reducible refine (Same.foldl (fun _ _ => ?_) _ _).after ?_)
    | (with_reducible refine (Same.foldlFst (fun _ _ => ?_) _ _).after ?_) | split)
theorem execute_same : ∀ n op q tier slot created p e0 s, Same 430388 s (execute n op q tier slot created p e0 s) := by
  intro n op q tier slot created p e0 s
  unfold execute
  try dsimp only
  repeat' (first
    | with_reducible exact Same.rfl' _ | (with_reducible refine Same.ite ?_ ?_) | (with_reducible refine Same.iteFst ?_ ?_)
    | (with_reducible refine ((journalRun_same ..).mono (by decide)).after ?_)
    | (with_reducible refine ((slCount_same ..).mono (by decide)).after ?_)
    | (with_reducible refine ((removeRecord_same ..).mono (by decide)).after ?_)
    | (with_reducible refine ((journalRetired_same ..).mono (by decide)).after ?_)
    | (with_reducible refine ((supervise_same ..).mono (by decide)).after ?_)
    | (with_reducible refine ((commitRecord_same ..).mono (by decide)).after ?_)
    | (with_reducible refine ((opResult_same ..).mono (by decide)).after ?_) | split
    | (with_reducible refine Same.fst (by assumption) ?_))
theorem runFound_same : ∀ n op q tier slot created s, Same 432438 s (runFound n op q tier slot created s) := by
  intro n op q tier slot created s
  unfold runFound
  try dsimp only
  repeat' (first
    | with_reducible exact Same.rfl' _ | (with_reducible refine Same.ite ?_ ?_) | (with_reducible refine Same.iteFst ?_ ?_)
    | (with_reducible refine stepped_same (w := 432438) _ _ _ (by decide) ?_)
    | (with_reducible refine ((forwardOp_same ..).mono (by decide)).after ?_)
    | (with_reducible refine ((execute_same ..).mono (by decide)).after ?_)
    | (with_reducible refine ((badOp_same ..).mono (by decide)).after ?_)
    | (with_reducible refine ((missOp_same ..).mono (by decide)).after ?_)
    | (with_reducible refine ((awayOp_same ..).mono (by decide)).after ?_) | split
    | (with_reducible refine Same.fst (by assumption) ?_))
theorem unmake_same : ∀ n d s, Same 426292 s (unmake n d s) := by
  intro n d s
  unfold unmake
  try dsimp only
  repeat' (first
    | with_reducible exact Same.rfl' _ | (with_reducible refine ((releasePair_same ..).mono (by decide)).after ?_)
    | (with_reducible refine ((dropEntry_same ..).mono (by decide)).after ?_)
    | (with_reducible refine ((unbind_same ..).mono (by decide)).after ?_) | split
    | (with_reducible refine Same.fst (by assumption) ?_))
theorem remake_same : ∀ n op q s, Same 432438 s (remake n op q s) := by
  intro n op q s
  unfold remake
  try dsimp only
  repeat' (first
    | with_reducible exact Same.rfl' _ | (with_reducible refine ((makeRecord_same ..).mono (by decide)).after ?_)
    | (with_reducible refine ((unmake_same ..).mono (by decide)).after ?_)
    | (with_reducible refine ((installMade_same ..).mono (by decide)).after ?_)
    | (with_reducible refine stepped_same (w := 432438) _ _ _ (by decide) ?_)
    | (with_reducible refine ((overflowOp_same ..).mono (by decide)).after ?_) | split
    | (with_reducible refine Same.fst (by assumption) ?_))
theorem flowExecute_same : ∀ n d s, Same 432438 s (flowExecute n d s) := by
  intro n d s
  unfold flowExecute
  try dsimp only
  repeat' (first
    | with_reducible exact Same.rfl' _ | (with_reducible refine Same.ite ?_ ?_) | (with_reducible refine Same.iteFst ?_ ?_)
    | (with_reducible refine ((remake_same ..).mono (by decide)).after ?_)
    | (with_reducible refine ((modSl_same ..).mono (by decide)).after ?_)
    | (with_reducible refine ((runFound_same ..).mono (by decide)).after ?_) | split
    | (with_reducible refine Same.fst (by assumption) ?_))
theorem execFlowOpExecute_same : ∀ n d s t, execFlowOpExecute n d s = .next t → Same 956726 s t := by
  intro n d s t h
  injection h with h
  subst h
  try dsimp only
  repeat' (first
    | with_reducible exact Same.rfl' _ | (with_reducible refine ((completeCmds_same ..).mono (by decide)).after ?_)
    | (with_reducible refine ((flowExecute_same ..).mono (by decide)).after ?_))
theorem execPointerInstall_same : ∀ n s t, execPointerInstall n s = .next t → Same 956726 s t := by
  intro n s t h
  injection h with h
  subst h
  try dsimp only
  repeat' (first
    | with_reducible exact Same.rfl' _ | (with_reducible refine Same.ite ?_ ?_) | (with_reducible refine Same.iteFst ?_ ?_)
    | (with_reducible refine ((completeCmds_same ..).mono (by decide)).after ?_)
    | (with_reducible refine ((acceptBg_same ..).mono (by decide)).after ?_)
    | (with_reducible refine ((useCycle_same ..).mono (by decide)).after ?_)
    | (with_reducible refine ((modSl_same ..).mono (by decide)).after ?_) | split
    | (with_reducible refine Same.fst (by assumption) ?_))
theorem execBindAck_same : ∀ n s t, execBindAck n s = .next t → Same 956726 s t := by
  intro n s t h
  injection h with h
  subst h
  try dsimp only
  repeat' (first
    | with_reducible exact Same.rfl' _ | (with_reducible refine Same.ite ?_ ?_) | (with_reducible refine Same.iteFst ?_ ?_)
    | (with_reducible refine ((completeCmds_same ..).mono (by decide)).after ?_)
    | (with_reducible refine ((acceptBg_same ..).mono (by decide)).after ?_)
    | (with_reducible refine ((useCycle_same ..).mono (by decide)).after ?_)
    | (with_reducible refine ((modSl_same ..).mono (by decide)).after ?_) | split
    | (with_reducible refine Same.fst (by assumption) ?_))
theorem fire_same : ∀ n w s, Same 299060 s (fire n w s) := by
  intro n w s
  unfold fire
  try dsimp only
  repeat' (first
    | with_reducible exact Same.rfl' _ | (with_reducible refine Same.ite ?_ ?_) | (with_reducible refine Same.iteFst ?_ ?_)
    | (with_reducible refine ((modSl_same ..).mono (by decide)).after ?_)
    | (with_reducible refine ((slCount_same ..).mono (by decide)).after ?_)
    | (with_reducible refine ((journal_same ..).mono (by decide)).after ?_)
    | (with_reducible refine ((postStream_same ..).mono (by decide)).after ?_) | split
    | (with_reducible refine Same.fst (by assumption) ?_))
theorem fireDue_same : ∀ n x x2, Same 299060 x2 (fireDue n x x2) := by
  intro n x x2
  induction x generalizing n x2 with
  | zero => exact Same.rfl' _
  | succ k0 ih =>
    unfold fireDue
    try dsimp only
    repeat' (first
      | with_reducible exact Same.rfl' _ | (with_reducible refine ((fire_same ..).mono (by decide)).after ?_)
      | (with_reducible refine (ih ..).after ?_) | split | (with_reducible refine Same.fst (by assumption) ?_))
theorem execWheelExamine_same : ∀ n s t, execWheelExamine n s = .next t → Same 299060 s t := by
  intro n s t h
  injection h with h
  subst h
  try dsimp only
  repeat' (first
    | with_reducible exact Same.rfl' _ | (with_reducible refine Same.ite ?_ ?_) | (with_reducible refine Same.iteFst ?_ ?_)
    | (with_reducible refine ((fireDue_same ..).mono (by decide)).after ?_) | split)
theorem execExpiryOp_same : ∀ n s t, execExpiryOp n s = .next t → Same 956726 s t := by
  intro n s t h
  injection h with h
  subst h
  try dsimp only
  repeat' (first
    | with_reducible exact Same.rfl' _ | (with_reducible refine Same.ite ?_ ?_) | (with_reducible refine Same.iteFst ?_ ?_)
    | (with_reducible refine ((completeCmds_same ..).mono (by decide)).after ?_)
    | (with_reducible refine ((acceptBg_same ..).mono (by decide)).after ?_)
    | (with_reducible refine ((useCycle_same ..).mono (by decide)).after ?_)
    | (with_reducible refine ((modSl_same ..).mono (by decide)).after ?_) | split
    | (with_reducible refine Same.fst (by assumption) ?_))

/-! ### Moves -/

theorem swapReads_same : ∀ n b size x x2, Same 426292 x2 (swapReads n b size x x2).1 := by
  intro n b size x x2
  induction x generalizing n b size x2 with
  | nil => exact Same.rfl' _
  | cons a0 l0 ih =>
    unfold swapReads
    try dsimp only
    repeat' (first
      | with_reducible exact Same.rfl' _ | (with_reducible refine Same.ite ?_ ?_) | (with_reducible refine Same.iteFst ?_ ?_)
      | (with_reducible refine ((tagError_same ..).mono (by decide)).after ?_)
      | (with_reducible refine ((useBack_same ..).mono (by decide)).after ?_) | (with_reducible refine (ih ..).after ?_)
      | split | (with_reducible refine Same.fst (by assumption) ?_))
theorem swapIn_same : ∀ n d t' e s, Same 426292 s (swapIn n d t' e s).1 := by
  intro n d t' e s
  unfold swapIn
  try dsimp only
  repeat' (first
    | with_reducible exact Same.rfl' _ | (with_reducible refine Same.ite ?_ ?_) | (with_reducible refine Same.iteFst ?_ ?_)
    | (with_reducible refine ((swapReads_same ..).mono (by decide)).after ?_)
    | (with_reducible refine ((migrateAbort_same ..).mono (by decide)).after ?_)
    | (with_reducible refine ((metFail_same ..).mono (by decide)).after ?_)
    | (with_reducible refine ((slCount_same ..).mono (by decide)).after ?_)
    | (with_reducible refine ((setSl_same ..).mono (by decide)).after ?_)
    | (with_reducible refine ((useTurf_same ..).mono (by decide)).after ?_)
    | (with_reducible refine ((useBack_same ..).mono (by decide)).after ?_) | split
    | (with_reducible refine Same.fst (by assumption) ?_))
theorem promotePlace_same : ∀ n d t' e s, Same 426292 s (promotePlace n d t' e s).1 := by
  intro n d t' e s
  unfold promotePlace
  try dsimp only
  repeat' (first
    | with_reducible exact Same.rfl' _ | (with_reducible refine Same.ite ?_ ?_) | (with_reducible refine Same.iteFst ?_ ?_)
    | (with_reducible refine ((stackInsert_same ..).mono (by decide)).after ?_)
    | (with_reducible refine ((swapIn_same ..).mono (by decide)).after ?_)
    | (with_reducible refine ((migrateAbort_same ..).mono (by decide)).after ?_)
    | (with_reducible refine ((metFail_same ..).mono (by decide)).after ?_)
    | (with_reducible refine ((fillEvents_same ..).mono (by decide)).after ?_)
    | (with_reducible refine ((modSl_same ..).mono (by decide)).after ?_)
    | (with_reducible refine ((walkMove_same ..).mono (by decide)).after ?_) | split
    | (with_reducible refine Same.fst (by assumption) ?_))
theorem heldGo_same : ∀ n d op t' e s, Same 432438 s (heldGo n d op t' e s) := by
  intro n d op t' e s
  unfold heldGo
  try dsimp only
  repeat' (first
    | with_reducible exact Same.rfl' _ | (with_reducible refine Same.ite ?_ ?_) | (with_reducible refine Same.iteFst ?_ ?_)
    | (with_reducible refine stepped_same (w := 432438) _ _ _ (by decide) ?_)
    | (with_reducible refine ((runBg_same ..).mono (by decide)).after ?_)
    | (with_reducible refine ((forwardOp_same ..).mono (by decide)).after ?_)
    | (with_reducible refine ((setPhase_same ..).mono (by decide)).after ?_) | split)
theorem promotionGrant_same : ∀ n s, Same 432438 s (promotionGrant n s) := by
  intro n s
  unfold promotionGrant
  try dsimp only
  repeat' (first
    | with_reducible exact Same.rfl' _ | (with_reducible refine Same.ite ?_ ?_) | (with_reducible refine Same.iteFst ?_ ?_)
    | (with_reducible refine ((slEvent_same ..).mono (by decide)).after ?_)
    | (with_reducible refine ((backServed_same ..).mono (by decide)).after ?_)
    | (with_reducible refine ((modSl_same ..).mono (by decide)).after ?_)
    | (with_reducible refine ((episodes_same ..).mono (by decide)).after ?_)
    | (with_reducible refine stepped_same (w := 432438) _ _ _ (by decide) ?_)
    | (with_reducible refine ((awayOp_same ..).mono (by decide)).after ?_)
    | (with_reducible refine ((tierAway_same ..).mono (by decide)).after ?_)
    | (with_reducible refine ((promotePlace_same ..).mono (by decide)).after ?_)
    | (with_reducible refine ((heldGo_same ..).mono (by decide)).after ?_)
    | (with_reducible refine ((hearthInstall_same ..).mono (by decide)).after ?_)
    | (with_reducible refine ((slCount_same ..).mono (by decide)).after ?_) | split
    | (with_reducible refine Same.fst (by assumption) ?_))
theorem execPromotionGrant_same : ∀ n s t, execPromotionGrant n s = .next t → Same 956726 s t := by
  intro n s t h
  injection h with h
  subst h
  try dsimp only
  repeat' (first
    | with_reducible exact Same.rfl' _ | (with_reducible refine ((completeCmds_same ..).mono (by decide)).after ?_)
    | (with_reducible refine ((promotionGrant_same ..).mono (by decide)).after ?_))
theorem freeClear_same : ∀ n t' s, Same 262144 s (freeClear n t' s) := by
  intro n t' s
  unfold freeClear
  try dsimp only
  repeat' (first
    | with_reducible exact Same.rfl' _ | (with_reducible refine ((modSl_same ..).mono (by decide)).after ?_) | split
    | (with_reducible refine Same.fst (by assumption) ?_))
theorem retryClear_same : ∀ n s, Same 262144 s (retryClear n s) := by
  intro n s
  unfold retryClear
  try dsimp only
  repeat' (first
    | with_reducible exact Same.rfl' _ | (with_reducible refine ((modSl_same ..).mono (by decide)).after ?_))
theorem turfClearAck_same : ∀ n ok s, Same 262196 s (turfClearAck n ok s) := by
  intro n ok s
  unfold turfClearAck
  try dsimp only
  repeat' (first
    | with_reducible exact Same.rfl' _ | (with_reducible refine Same.ite ?_ ?_) | (with_reducible refine Same.iteFst ?_ ?_)
    | (with_reducible refine ((freeClear_same ..).mono (by decide)).after ?_)
    | (with_reducible refine ((useBack_same ..).mono (by decide)).after ?_)
    | (with_reducible refine ((migrateAbort_same ..).mono (by decide)).after ?_)
    | (with_reducible refine ((retryClear_same ..).mono (by decide)).after ?_)
    | (with_reducible refine ((modSl_same ..).mono (by decide)).after ?_)
    | (with_reducible refine ((dropEntry_same ..).mono (by decide)).after ?_) | split
    | (with_reducible refine Same.fst (by assumption) ?_))
theorem execTurfClearAck_same : ∀ n ok s t, execTurfClearAck n ok s = .next t → Same 262196 s t := by
  intro n ok s t h
  injection h with h
  subst h
  try dsimp only
  repeat' (first
    | with_reducible exact Same.rfl' _ | (with_reducible refine ((turfClearAck_same ..).mono (by decide)).after ?_))
theorem startDemotion_same : ∀ n k d e s, Same 262176 s (startDemotion n k d e s).1 := by
  intro n k d e s
  unfold startDemotion
  try dsimp only
  repeat' (first
    | with_reducible exact Same.rfl' _ | (with_reducible refine ((slCount_same ..).mono (by decide)).after ?_)
    | (with_reducible refine ((putFlight_same ..).mono (by decide)).after ?_) | split
    | (with_reducible refine Same.fst (by assumption) ?_))
theorem demoteScan_same : ∀ n age x x2 x3, Same 426292 x3 (demoteScan n age x x2 x3) := by
  intro n age x x2 x3
  induction x generalizing n age x2 x3 with
  | zero => exact Same.rfl' _
  | succ k0 ih =>
    unfold demoteScan
    try dsimp only
    repeat' (first
      | with_reducible exact Same.rfl' _ | (with_reducible refine Same.ite ?_ ?_) | (with_reducible refine Same.iteFst ?_ ?_)
      | (with_reducible refine ((startDemotion_same ..).mono (by decide)).after ?_)
      | (with_reducible refine ((setSl_same ..).mono (by decide)).after ?_)
      | (with_reducible refine ((tagError_same ..).mono (by decide)).after ?_)
      | (with_reducible refine ((useBack_same ..).mono (by decide)).after ?_) | (with_reducible refine (ih ..).after ?_)
      | split | (with_reducible refine Same.fst (by assumption) ?_))
theorem walkEnd_same : ∀ n s, Same 262160 s (walkEnd n s) := by
  intro n s
  unfold walkEnd
  try dsimp only
  repeat' (first
    | with_reducible exact Same.rfl' _ | (with_reducible refine Same.ite ?_ ?_) | (with_reducible refine Same.iteFst ?_ ?_)
    | (with_reducible refine ((setSl_same ..).mono (by decide)).after ?_)
    | (with_reducible refine ((raise_same ..).mono (by decide)).after ?_) | split)
theorem demoterTick_same : ∀ n s, Same 426292 s (demoterTick n s) := by
  intro n s
  unfold demoterTick
  try dsimp only
  repeat' (first
    | with_reducible exact Same.rfl' _ | (with_reducible refine Same.ite ?_ ?_) | (with_reducible refine Same.iteFst ?_ ?_)
    | (with_reducible refine ((walkEnd_same ..).mono (by decide)).after ?_)
    | (with_reducible refine ((demoteScan_same ..).mono (by decide)).after ?_)
    | (with_reducible refine ((backServed_same ..).mono (by decide)).after ?_)
    | (with_reducible refine ((modSl_same ..).mono (by decide)).after ?_) | split)
theorem execDemoterTick_same : ∀ n s t, execDemoterTick n s = .next t → Same 426292 s t := by
  intro n s t h
  injection h with h
  subst h
  try dsimp only
  repeat' (first
    | with_reducible exact Same.rfl' _ | (with_reducible refine ((demoterTick_same ..).mono (by decide)).after ?_))
theorem pointerItem_same : ∀ e s, Same 262144 s (pointerItem e s) := by
  intro e s
  unfold pointerItem
  try dsimp only
  repeat' (first
    | with_reducible exact Same.rfl' _ | (with_reducible refine ((modSl_same ..).mono (by decide)).after ?_) | split
    | (with_reducible refine Same.fst (by assumption) ?_))
theorem demoted_same : ∀ n d k t' s, Same 426032 s (demoted n d k t' s) := by
  intro n d k t' s
  unfold demoted
  try dsimp only
  repeat' (first
    | with_reducible exact Same.rfl' _ | (with_reducible refine ((pointerItem_same ..).mono (by decide)).after ?_)
    | (with_reducible refine ((walkMove_same ..).mono (by decide)).after ?_)
    | (with_reducible refine ((fillEvents_same ..).mono (by decide)).after ?_)
    | (with_reducible refine ((slCount_same ..).mono (by decide)).after ?_)
    | (with_reducible refine ((setSl_same ..).mono (by decide)).after ?_)
    | (with_reducible refine ((useTurf_same ..).mono (by decide)).after ?_)
    | (with_reducible refine ((useBack_same ..).mono (by decide)).after ?_) | split
    | (with_reducible refine Same.fst (by assumption) ?_))
theorem demotionFails_same : ∀ n d k t' i s, Same 262452 s (demotionFails n d k t' i s) := by
  intro n d k t' i s
  unfold demotionFails
  try dsimp only
  repeat' (first
    | with_reducible exact Same.rfl' _ | (with_reducible refine Same.ite ?_ ?_) | (with_reducible refine Same.iteFst ?_ ?_)
    | (with_reducible refine ((migrateAbort_same ..).mono (by decide)).after ?_)
    | (with_reducible refine ((memOut_same ..).mono (by decide)).after ?_)
    | (with_reducible refine ((metFail_same ..).mono (by decide)).after ?_) | split)
theorem demotionDone_same : ∀ n d fail s, Same 432438 s (demotionDone n d fail s) := by
  intro n d fail s
  unfold demotionDone
  try dsimp only
  repeat' (first
    | with_reducible exact Same.rfl' _ | (with_reducible refine ((goOn_same ..).mono (by decide)).after ?_)
    | (with_reducible refine ((demoted_same ..).mono (by decide)).after ?_)
    | (with_reducible refine ((demotionFails_same ..).mono (by decide)).after ?_) | split
    | (with_reducible refine Same.fst (by assumption) ?_))
theorem execDemotionDone_same : ∀ n d fail s t, execDemotionDone n d fail s = .next t → Same 956726 s t := by
  intro n d fail s t h
  injection h with h
  subst h
  try dsimp only
  repeat' (first
    | with_reducible exact Same.rfl' _ | (with_reducible refine ((completeCmds_same ..).mono (by decide)).after ?_)
    | (with_reducible refine ((demotionDone_same ..).mono (by decide)).after ?_))
theorem pointerDemote_same : ∀ n s, Same 426292 s (pointerDemote n s) := by
  intro n s
  unfold pointerDemote
  try dsimp only
  repeat' (first
    | with_reducible exact Same.rfl' _ | (with_reducible refine Same.ite ?_ ?_) | (with_reducible refine Same.iteFst ?_ ?_)
    | (with_reducible refine ((useCycle_same ..).mono (by decide)).after ?_)
    | (with_reducible refine ((modSl_same ..).mono (by decide)).after ?_)
    | (with_reducible refine ((seek_same ..).mono (by decide)).after ?_)
    | (with_reducible refine ((startDemotion_same ..).mono (by decide)).after ?_) | split
    | (with_reducible refine Same.fst (by assumption) ?_))
theorem execPointerDemote_same : ∀ n s t, execPointerDemote n s = .next t → Same 426292 s t := by
  intro n s t h
  injection h with h
  subst h
  try dsimp only
  repeat' (first
    | with_reducible exact Same.rfl' _ | (with_reducible refine ((pointerDemote_same ..).mono (by decide)).after ?_))
theorem scrubWay_same : ∀ n u s, Same 426292 s (scrubWay n u s) := by
  intro n u s
  unfold scrubWay
  try dsimp only
  repeat' (first
    | with_reducible exact Same.rfl' _ | (with_reducible refine Same.ite ?_ ?_) | (with_reducible refine Same.iteFst ?_ ?_)
    | (with_reducible refine ((modSl_same ..).mono (by decide)).after ?_)
    | (with_reducible refine ((tagError_same ..).mono (by decide)).after ?_) | split
    | (with_reducible refine Same.fst (by assumption) ?_))
theorem hearthScrub_same : ∀ n s, Same 426292 s (hearthScrub n s) := by
  intro n s
  unfold hearthScrub
  try dsimp only
  repeat' (first
    | with_reducible exact Same.rfl' _ | (with_reducible refine ((scrubWay_same ..).mono (by decide)).after ?_)
    | (with_reducible refine ((modSl_same ..).mono (by decide)).after ?_)
    | (with_reducible refine (Same.foldl (fun _ _ => ?_) _ _).after ?_)
    | (with_reducible refine (Same.foldlFst (fun _ _ => ?_) _ _).after ?_))
theorem execHearthScrub_same : ∀ n s t, execHearthScrub n s = .next t → Same 426292 s t := by
  intro n s t h
  injection h with h
  subst h
  try dsimp only
  repeat' (first
    | with_reducible exact Same.rfl' _ | (with_reducible refine ((hearthScrub_same ..).mono (by decide)).after ?_))
theorem strike_same : ∀ v s, Same 262144 s (strike v s) := by
  intro v s
  unfold strike
  try dsimp only
  repeat' (first
    | with_reducible exact Same.rfl' _ | (with_reducible refine ((setSl_same ..).mono (by decide)).after ?_) | split
    | (with_reducible refine Same.fst (by assumption) ?_))
theorem ailing_same : ∀ p s, Same 262144 s (ailing p s) := by
  intro p s
  unfold ailing
  try dsimp only
  repeat' (first
    | with_reducible exact Same.rfl' _ | (with_reducible refine Same.ite ?_ ?_) | (with_reducible refine Same.iteFst ?_ ?_)
    | (with_reducible refine ((modSl_same ..).mono (by decide)).after ?_) | split)
theorem execSummaryRebuild_same : ∀ n s t, execSummaryRebuild n s = .next t → Same 294944 s t := by
  intro n s t h
  injection h with h
  subst h
  try dsimp only
  repeat' (first
    | with_reducible exact Same.rfl' _ | (with_reducible refine Same.ite ?_ ?_) | (with_reducible refine Same.iteFst ?_ ?_)
    | (with_reducible refine ((useCycle_same ..).mono (by decide)).after ?_)
    | (with_reducible refine ((useBack_same ..).mono (by decide)).after ?_)
    | (with_reducible refine ((useTurf_same ..).mono (by decide)).after ?_)
    | (with_reducible refine ((modSl_same ..).mono (by decide)).after ?_) | split
    | (with_reducible refine Same.fst (by assumption) ?_))

/-! ### Sessions -/

theorem bodySessionOpen_same : ∀ r s, Same 18 s (bodySessionOpen r s).1 := by
  intro r s
  unfold bodySessionOpen
  try dsimp only
  repeat' (first
    | with_reducible exact Same.rfl' _ | (with_reducible refine Same.ite ?_ ?_) | (with_reducible refine Same.iteFst ?_ ?_)
    | (with_reducible refine ((setSession_same ..).mono (by decide)).after ?_)
    | (with_reducible refine ((drawn_same ..).mono (by decide)).after ?_)
    | (with_reducible refine ((Same.setToune _ _).mono (by decide)).after ?_) | split
    | (with_reducible refine Same.fst (by assumption) ?_))
theorem closeSession_same : ∀ i cause s, Same 48 s (closeSession i cause s) := by
  intro i cause s
  unfold closeSession
  try dsimp only
  repeat' (first
    | with_reducible exact Same.rfl' _ | (with_reducible refine Same.ite ?_ ?_) | (with_reducible refine Same.iteFst ?_ ?_)
    | ((with_reducible refine ((Same.setPrm _ _ ?_).mono (by decide)).after ?_); rfl)
    | (with_reducible refine ((Same.setToune _ _).mono (by decide)).after ?_)
    | (with_reducible refine ((raise_same ..).mono (by decide)).after ?_)
    | (with_reducible refine ((setSession_same ..).mono (by decide)).after ?_) | split)
theorem bodySessionClose_same : ∀ r s, Same 48 s (bodySessionClose r s).1 := by
  intro r s
  unfold bodySessionClose
  try dsimp only
  repeat' (first
    | with_reducible exact Same.rfl' _ | (with_reducible refine Same.ite ?_ ?_) | (with_reducible refine Same.iteFst ?_ ?_)
    | (with_reducible refine ((closeSession_same ..).mono (by decide)).after ?_) | split)
theorem bodySessionPing_same : ∀ r s, Same 0 s (bodySessionPing r s).1 := by
  intro r s
  unfold bodySessionPing
  try dsimp only
  repeat' (first
    | with_reducible exact Same.rfl' _ | (with_reducible refine Same.ite ?_ ?_) | (with_reducible refine Same.iteFst ?_ ?_)
    | split)
theorem bodySessionQuery_same : ∀ r s, Same 0 s (bodySessionQuery r s).1 := by
  intro r s
  unfold bodySessionQuery
  try dsimp only
  repeat' (first
    | with_reducible exact Same.rfl' _ | (with_reducible refine Same.ite ?_ ?_) | (with_reducible refine Same.iteFst ?_ ?_)
    | split)
theorem bodyCommandVersions_same : ∀ r s, Same 0 s (bodyCommandVersions r s).1 := by
  intro r s
  unfold bodyCommandVersions
  try dsimp only
  repeat' (first
    | with_reducible exact Same.rfl' _ | (with_reducible refine Same.ite ?_ ?_) | (with_reducible refine Same.iteFst ?_ ?_)
    | split)
theorem bodyEventSubscribe_same : ∀ r s, Same 16 s (bodyEventSubscribe r s).1 := by
  intro r s
  unfold bodyEventSubscribe
  try dsimp only
  repeat' (first
    | with_reducible exact Same.rfl' _ | (with_reducible refine Same.ite ?_ ?_) | (with_reducible refine Same.iteFst ?_ ?_)
    | (with_reducible refine ((setSession_same ..).mono (by decide)).after ?_) | split)
theorem keepaliveExpiry_same : ∀ i s, Same 48 s (keepaliveExpiry i s) := by
  intro i s
  unfold keepaliveExpiry
  try dsimp only
  repeat' (first
    | with_reducible exact Same.rfl' _ | (with_reducible refine Same.ite ?_ ?_) | (with_reducible refine Same.iteFst ?_ ?_)
    | (with_reducible refine ((closeSession_same ..).mono (by decide)).after ?_) | split)
theorem bodyHandleQuery_same : ∀ r s, Same 0 s (bodyHandleQuery r s).1 := by
  intro r s
  unfold bodyHandleQuery
  try dsimp only
  repeat' (first
    | with_reducible exact Same.rfl' _ | (with_reducible refine Same.ite ?_ ?_) | (with_reducible refine Same.iteFst ?_ ?_)
    | split)
theorem bodyHandleCancel_same : ∀ r s, Same 16 s (bodyHandleCancel r s).1 := by
  intro r s
  unfold bodyHandleCancel
  try dsimp only
  repeat' (first
    | with_reducible exact Same.rfl' _ | (with_reducible refine Same.ite ?_ ?_) | (with_reducible refine Same.iteFst ?_ ?_)
    | (with_reducible refine ((setHandle_same ..).mono (by decide)).after ?_) | split)
theorem bodyHandleRelease_same : ∀ r s, Same 16 s (bodyHandleRelease r s).1 := by
  intro r s
  unfold bodyHandleRelease
  try dsimp only
  repeat' (first
    | with_reducible exact Same.rfl' _ | (with_reducible refine Same.ite ?_ ?_) | (with_reducible refine Same.iteFst ?_ ?_)
    | (with_reducible refine ((setHandle_same ..).mono (by decide)).after ?_) | split)
theorem retentionExpiry_same : ∀ i s, Same 16 s (retentionExpiry i s) := by
  intro i s
  unfold retentionExpiry
  try dsimp only
  repeat' (first
    | with_reducible exact Same.rfl' _ | (with_reducible refine Same.ite ?_ ?_) | (with_reducible refine Same.iteFst ?_ ?_)
    | (with_reducible refine ((setHandle_same ..).mono (by decide)).after ?_) | split)
theorem opDone_same : ∀ i s, Same 16 s (opDone i s) := by
  intro i s
  unfold opDone
  try dsimp only
  repeat' (first
    | with_reducible exact Same.rfl' _ | (with_reducible refine Same.ite ?_ ?_) | (with_reducible refine Same.iteFst ?_ ?_)
    | (with_reducible refine ((complete_same ..).mono (by decide)).after ?_)
    | (with_reducible refine ((setHandle_same ..).mono (by decide)).after ?_) | split
    | (with_reducible refine Same.fst (by assumption) ?_))
theorem mirrorRecord_same : ∀ a s, Same 32800 s (mirrorRecord a s) := by
  intro a s
  unfold mirrorRecord
  try dsimp only
  repeat' (first
    | with_reducible exact Same.rfl' _ | (with_reducible refine Same.ite ?_ ?_) | (with_reducible refine Same.iteFst ?_ ?_)
    | (with_reducible refine ((ringPut_same ..).mono (by decide)).after ?_)
    | (with_reducible refine ((setRing_same ..).mono (by decide)).after ?_) | split
    | (with_reducible refine Same.fst (by assumption) ?_))
theorem mirrorAudits_same : ∀ s, Same 32816 s (mirrorAudits s) := by
  intro s
  unfold mirrorAudits
  try dsimp only
  repeat' (first
    | with_reducible exact Same.rfl' _ | (with_reducible refine Same.ite ?_ ?_) | (with_reducible refine Same.iteFst ?_ ?_)
    | (with_reducible refine ((Same.setToune _ _).mono (by decide)).after ?_)
    | (with_reducible refine ((mirrorRecord_same ..).mono (by decide)).after ?_)
    | (with_reducible refine (Same.foldl (fun _ _ => ?_) _ _).after ?_)
    | (with_reducible refine (Same.foldlFst (fun _ _ => ?_) _ _).after ?_) | split)
theorem bodyAuditRead_same : ∀ r s, Same 0 s (bodyAuditRead r s).1 := by
  intro r s
  unfold bodyAuditRead
  try dsimp only
  repeat' (first
    | with_reducible exact Same.rfl' _ | (with_reducible refine Same.ite ?_ ?_) | (with_reducible refine Same.iteFst ?_ ?_)
    | split | (with_reducible refine Same.fst (by assumption) ?_))
theorem bodyStageWrite_same : ∀ r s, Same 16 s (bodyStageWrite r s).1 := by
  intro r s
  unfold bodyStageWrite
  try dsimp only
  repeat' (first
    | with_reducible exact Same.rfl' _ | (with_reducible refine Same.ite ?_ ?_) | (with_reducible refine Same.iteFst ?_ ?_)
    | (with_reducible refine ((setSession_same ..).mono (by decide)).after ?_) | split)
theorem execSessionOpen_same : ∀ r s t, execSessionOpen r s = .next t → Same 526386 s t := by
  intro r s t h
  injection h with h
  subst h
  try dsimp only
  repeat' (first
    | with_reducible exact Same.rfl' _
    | (with_reducible refine (runToune_same _ _ (by decide) (fun r s => (bodySessionOpen_same r s).mono (by decide)) _ _).after ?_)
    | (with_reducible refine ((bodySessionOpen_same ..).mono (by decide)).after ?_))
theorem execSessionClose_same : ∀ r s t, execSessionClose r s = .next t → Same 526386 s t := by
  intro r s t h
  injection h with h
  subst h
  try dsimp only
  repeat' (first
    | with_reducible exact Same.rfl' _
    | (with_reducible refine (runToune_same _ _ (by decide) (fun r s => (bodySessionClose_same r s).mono (by decide)) _ _).after ?_)
    | (with_reducible refine ((bodySessionClose_same ..).mono (by decide)).after ?_))
theorem execSessionPing_same : ∀ r s t, execSessionPing r s = .next t → Same 526386 s t := by
  intro r s t h
  injection h with h
  subst h
  try dsimp only
  repeat' (first
    | with_reducible exact Same.rfl' _
    | (with_reducible refine (runToune_same _ _ (by decide) (fun r s => (bodySessionPing_same r s).mono (by decide)) _ _).after ?_)
    | (with_reducible refine ((bodySessionPing_same ..).mono (by decide)).after ?_))
theorem execSessionQuery_same : ∀ r s t, execSessionQuery r s = .next t → Same 526386 s t := by
  intro r s t h
  injection h with h
  subst h
  try dsimp only
  repeat' (first
    | with_reducible exact Same.rfl' _
    | (with_reducible refine (runToune_same _ _ (by decide) (fun r s => (bodySessionQuery_same r s).mono (by decide)) _ _).after ?_)
    | (with_reducible refine ((bodySessionQuery_same ..).mono (by decide)).after ?_))
theorem execCommandVersions_same : ∀ r s t, execCommandVersions r s = .next t → Same 526386 s t := by
  intro r s t h
  injection h with h
  subst h
  try dsimp only
  repeat' (first
    | with_reducible exact Same.rfl' _
    | (with_reducible refine (runToune_same _ _ (by decide) (fun r s => (bodyCommandVersions_same r s).mono (by decide)) _ _).after ?_)
    | (with_reducible refine ((bodyCommandVersions_same ..).mono (by decide)).after ?_))
theorem execEventSubscribe_same : ∀ r s t, execEventSubscribe r s = .next t → Same 526386 s t := by
  intro r s t h
  injection h with h
  subst h
  try dsimp only
  repeat' (first
    | with_reducible exact Same.rfl' _
    | (with_reducible refine (runToune_same _ _ (by decide) (fun r s => (bodyEventSubscribe_same r s).mono (by decide)) _ _).after ?_)
    | (with_reducible refine ((bodyEventSubscribe_same ..).mono (by decide)).after ?_))
theorem execHandleQuery_same : ∀ r s t, execHandleQuery r s = .next t → Same 526386 s t := by
  intro r s t h
  injection h with h
  subst h
  try dsimp only
  repeat' (first
    | with_reducible exact Same.rfl' _
    | (with_reducible refine (runToune_same _ _ (by decide) (fun r s => (bodyHandleQuery_same r s).mono (by decide)) _ _).after ?_)
    | (with_reducible refine ((bodyHandleQuery_same ..).mono (by decide)).after ?_))
theorem execHandleCancel_same : ∀ r s t, execHandleCancel r s = .next t → Same 526386 s t := by
  intro r s t h
  injection h with h
  subst h
  try dsimp only
  repeat' (first
    | with_reducible exact Same.rfl' _
    | (with_reducible refine (runToune_same _ _ (by decide) (fun r s => (bodyHandleCancel_same r s).mono (by decide)) _ _).after ?_)
    | (with_reducible refine ((bodyHandleCancel_same ..).mono (by decide)).after ?_))
theorem execHandleRelease_same : ∀ r s t, execHandleRelease r s = .next t → Same 526386 s t := by
  intro r s t h
  injection h with h
  subst h
  try dsimp only
  repeat' (first
    | with_reducible exact Same.rfl' _
    | (with_reducible refine (runToune_same _ _ (by decide) (fun r s => (bodyHandleRelease_same r s).mono (by decide)) _ _).after ?_)
    | (with_reducible refine ((bodyHandleRelease_same ..).mono (by decide)).after ?_))
theorem execAuditRead_same : ∀ r s t, execAuditRead r s = .next t → Same 526386 s t := by
  intro r s t h
  injection h with h
  subst h
  try dsimp only
  repeat' (first
    | with_reducible exact Same.rfl' _
    | (with_reducible refine (runToune_same _ _ (by decide) (fun r s => (bodyAuditRead_same r s).mono (by decide)) _ _).after ?_)
    | (with_reducible refine ((bodyAuditRead_same ..).mono (by decide)).after ?_))
theorem execStageWrite_same : ∀ r s t, execStageWrite r s = .next t → Same 526386 s t := by
  intro r s t h
  injection h with h
  subst h
  try dsimp only
  repeat' (first
    | with_reducible exact Same.rfl' _
    | (with_reducible refine (runToune_same _ _ (by decide) (fun r s => (bodyStageWrite_same r s).mono (by decide)) _ _).after ?_)
    | (with_reducible refine ((bodyStageWrite_same ..).mono (by decide)).after ?_))
theorem execSessionKeepaliveExpiry_same : ∀ i s t, execSessionKeepaliveExpiry i s = .next t → Same 48 s t := by
  intro i s t h
  injection h with h
  subst h
  try dsimp only
  repeat' (first
    | with_reducible exact Same.rfl' _ | (with_reducible refine ((keepaliveExpiry_same ..).mono (by decide)).after ?_))
theorem execHandleRetentionExpiry_same : ∀ i s t, execHandleRetentionExpiry i s = .next t → Same 16 s t := by
  intro i s t h
  injection h with h
  subst h
  try dsimp only
  repeat' (first
    | with_reducible exact Same.rfl' _ | (with_reducible refine ((retentionExpiry_same ..).mono (by decide)).after ?_))
theorem execOpDone_same : ∀ i s t, execOpDone i s = .next t → Same 16 s t := by
  intro i s t h
  injection h with h
  subst h
  try dsimp only
  repeat' (first
    | with_reducible exact Same.rfl' _ | (with_reducible refine ((opDone_same ..).mono (by decide)).after ?_))

/-! ### Island -/

theorem safeDiscard_same : ∀ s, Same 32 s (safeDiscard s) := by
  intro s
  unfold safeDiscard
  try dsimp only
  repeat' (first
    | with_reducible exact Same.rfl' _ | (with_reducible refine ((bump32_same ..).mono (by decide)).after ?_))
theorem stopPort_same : ∀ sel n s, Same 109622 s (stopPort sel n s) := by
  intro sel n s
  unfold stopPort
  try dsimp only
  repeat' (first
    | with_reducible exact Same.rfl' _ | (with_reducible refine Same.ite ?_ ?_) | (with_reducible refine Same.iteFst ?_ ?_)
    | (with_reducible refine ((safeDiscard_same ..).mono (by decide)).after ?_)
    | (with_reducible refine ((dropCopy_same ..).mono (by decide)).after ?_)
    | (with_reducible refine ((countAbandoned_same ..).mono (by decide)).after ?_)
    | (with_reducible refine ((unqueue_same ..).mono (by decide)).after ?_)
    | (with_reducible refine ((transmit_same ..).mono (by decide)).after ?_)
    | (with_reducible refine ((bump48_same ..).mono (by decide)).after ?_)
    | (with_reducible refine ((setEgr_same ..).mono (by decide)).after ?_)
    | (with_reducible refine (Same.foldl (fun _ _ => ?_) _ _).after ?_)
    | (with_reducible refine (Same.foldlFst (fun _ _ => ?_) _ _).after ?_) | split
    | (with_reducible refine Same.fst (by assumption) ?_))
theorem stopPorts_same : ∀ sel s, Same 109622 s (stopPorts sel s) := by
  intro sel s
  unfold stopPorts
  try dsimp only
  repeat' (first
    | with_reducible exact Same.rfl' _ | (with_reducible refine ((stopPort_same ..).mono (by decide)).after ?_)
    | (with_reducible refine (Same.foldl (fun _ _ => ?_) _ _).after ?_)
    | (with_reducible refine (Same.foldlFst (fun _ _ => ?_) _ _).after ?_))
theorem stopHostCopies_same : ∀ s, Same 109622 s (stopHostCopies s) := by
  intro s
  unfold stopHostCopies
  try dsimp only
  repeat' (first
    | with_reducible exact Same.rfl' _ | (with_reducible refine Same.ite ?_ ?_) | (with_reducible refine Same.iteFst ?_ ?_)
    | (with_reducible refine ((safeDiscard_same ..).mono (by decide)).after ?_)
    | (with_reducible refine ((dropCopy_same ..).mono (by decide)).after ?_)
    | (with_reducible refine ((Same.setBuf _ _).mono (by decide)).after ?_)
    | (with_reducible refine (Same.foldl (fun _ _ => ?_) _ _).after ?_)
    | (with_reducible refine (Same.foldlFst (fun _ _ => ?_) _ _).after ?_) | split)
theorem stopStaged_same : ∀ s, Same 109622 s (stopStaged s) := by
  intro s
  unfold stopStaged
  try dsimp only
  repeat' (first
    | with_reducible exact Same.rfl' _ | (with_reducible refine Same.ite ?_ ?_) | (with_reducible refine Same.iteFst ?_ ?_)
    | (with_reducible refine ((safeDiscard_same ..).mono (by decide)).after ?_)
    | (with_reducible refine ((loseStaged_same ..).mono (by decide)).after ?_)
    | (with_reducible refine (Same.foldl (fun _ _ => ?_) _ _).after ?_)
    | (with_reducible refine (Same.foldlFst (fun _ _ => ?_) _ _).after ?_) | split
    | (with_reducible refine Same.fst (by assumption) ?_))
theorem stopTraffic_same : ∀ s, Same 109622 s (stopTraffic s) := by
  intro s
  unfold stopTraffic
  try dsimp only
  repeat' (first
    | with_reducible exact Same.rfl' _ | (with_reducible refine ((stopStaged_same ..).mono (by decide)).after ?_)
    | (with_reducible refine ((stopHostCopies_same ..).mono (by decide)).after ?_)
    | (with_reducible refine ((stopPorts_same ..).mono (by decide)).after ?_))
theorem lockstepMismatch_same : ∀ s, Same 276 s (lockstepMismatch s) := by
  intro s
  unfold lockstepMismatch
  try dsimp only
  repeat' (first
    | with_reducible exact Same.rfl' _ | (with_reducible refine Same.ite ?_ ?_) | (with_reducible refine Same.iteFst ?_ ?_)
    | (with_reducible refine ((recordFault_same ..).mono (by decide)).after ?_)
    | (with_reducible refine ((Same.setZal _ _).mono (by decide)).after ?_) | split)
theorem islandSilent_same : ∀ die s, Same 109878 s (islandSilent die s) := by
  intro die s
  unfold islandSilent
  try dsimp only
  repeat' (first
    | with_reducible exact Same.rfl' _ | (with_reducible refine Same.ite ?_ ?_) | (with_reducible refine Same.iteFst ?_ ?_)
    | (with_reducible refine ((raise_same ..).mono (by decide)).after ?_)
    | (with_reducible refine ((recordFault_same ..).mono (by decide)).after ?_)
    | (with_reducible refine ((Same.setZal _ _).mono (by decide)).after ?_)
    | (with_reducible refine ((stopPorts_same ..).mono (by decide)).after ?_) | split)
theorem supplyFault_same : ∀ rail uv s, Same 276 s (supplyFault rail uv s) := by
  intro rail uv s
  unfold supplyFault
  try dsimp only
  repeat' (first
    | with_reducible exact Same.rfl' _ | (with_reducible refine Same.ite ?_ ?_) | (with_reducible refine Same.iteFst ?_ ?_)
    | (with_reducible refine ((Same.setZal _ _).mono (by decide)).after ?_)
    | (with_reducible refine ((condOn_same ..).mono (by decide)).after ?_)
    | (with_reducible refine ((recordFault_same ..).mono (by decide)).after ?_) | split)
theorem supplyRestored_same : ∀ rail uv s, Same 256 s (supplyRestored rail uv s) := by
  intro rail uv s
  unfold supplyRestored
  try dsimp only
  repeat' (first
    | with_reducible exact Same.rfl' _ | (with_reducible refine Same.ite ?_ ?_) | (with_reducible refine Same.iteFst ?_ ?_)
    | (with_reducible refine ((Same.setZal _ _).mono (by decide)).after ?_) | split)
theorem pllUnlock_same : ∀ die s, Same 276 s (pllUnlock die s) := by
  intro die s
  unfold pllUnlock
  try dsimp only
  repeat' (first
    | with_reducible exact Same.rfl' _ | (with_reducible refine Same.ite ?_ ?_) | (with_reducible refine Same.iteFst ?_ ?_)
    | (with_reducible refine ((Same.setZal _ _).mono (by decide)).after ?_)
    | (with_reducible refine ((condOn_same ..).mono (by decide)).after ?_)
    | (with_reducible refine ((recordFault_same ..).mono (by decide)).after ?_) | split)
theorem pllRelock_same : ∀ die s, Same 256 s (pllRelock die s) := by
  intro die s
  unfold pllRelock
  try dsimp only
  repeat' (first
    | with_reducible exact Same.rfl' _ | (with_reducible refine Same.ite ?_ ?_) | (with_reducible refine Same.iteFst ?_ ?_)
    | (with_reducible refine ((Same.setZal _ _).mono (by decide)).after ?_) | split)
theorem settleGood_same : ∀ s, Same 256 s (settleGood s) := by
  intro s
  unfold settleGood
  try dsimp only
  repeat' (first
    | with_reducible exact Same.rfl' _ | (with_reducible refine Same.ite ?_ ?_) | (with_reducible refine Same.iteFst ?_ ?_)
    | (with_reducible refine ((condOff_same ..).mono (by decide)).after ?_)
    | (with_reducible refine ((Same.setZal _ _).mono (by decide)).after ?_)
    | (with_reducible refine (Same.foldl (fun _ _ => ?_) _ _).after ?_)
    | (with_reducible refine (Same.foldlFst (fun _ _ => ?_) _ _).after ?_) | split)
theorem dieLinkFail_same : ∀ channel s, Same 276 s (dieLinkFail channel s) := by
  intro channel s
  unfold dieLinkFail
  try dsimp only
  repeat' (first
    | with_reducible exact Same.rfl' _ | (with_reducible refine ((recordFault_same ..).mono (by decide)).after ?_))
theorem safeReqLow_same : ∀ s, Same 276 s (safeReqLow s) := by
  intro s
  unfold safeReqLow
  try dsimp only
  repeat' (first
    | with_reducible exact Same.rfl' _ | (with_reducible refine Same.ite ?_ ?_) | (with_reducible refine Same.iteFst ?_ ?_)
    | (with_reducible refine ((condOn_same ..).mono (by decide)).after ?_)
    | (with_reducible refine ((recordFault_same ..).mono (by decide)).after ?_)
    | (with_reducible refine ((Same.setZal _ _).mono (by decide)).after ?_) | split)
theorem safeReqHigh_same : ∀ s, Same 256 s (safeReqHigh s) := by
  intro s
  unfold safeReqHigh
  try dsimp only
  repeat' (first
    | with_reducible exact Same.rfl' _ | (with_reducible refine Same.ite ?_ ?_) | (with_reducible refine Same.iteFst ?_ ?_)
    | (with_reducible refine ((condOff_same ..).mono (by decide)).after ?_)
    | (with_reducible refine ((Same.setZal _ _).mono (by decide)).after ?_) | split)
theorem thermalCheck_same : ∀ raw s, Same 276 s (thermalCheck raw s) := by
  intro raw s
  unfold thermalCheck
  try dsimp only
  repeat' (first
    | with_reducible exact Same.rfl' _ | (with_reducible refine Same.ite ?_ ?_) | (with_reducible refine Same.iteFst ?_ ?_)
    | (with_reducible refine ((Same.setZal _ _).mono (by decide)).after ?_)
    | (with_reducible refine ((condOn_same ..).mono (by decide)).after ?_)
    | (with_reducible refine ((recordFault_same ..).mono (by decide)).after ?_)
    | (with_reducible refine ((condOff_same ..).mono (by decide)).after ?_) | split
    | (with_reducible refine Same.fst (by assumption) ?_))
theorem disagreeEvent_same : ∀ gap raised s, Same 16 s (disagreeEvent gap raised s) := by
  intro gap raised s
  unfold disagreeEvent
  try dsimp only
  repeat' (first
    | with_reducible exact Same.rfl' _ | (with_reducible refine ((raise_same ..).mono (by decide)).after ?_))
theorem crossCheck_same : ∀ s, Same 16660 s (crossCheck s) := by
  intro s
  unfold crossCheck
  try dsimp only
  repeat' (first
    | with_reducible exact Same.rfl' _ | (with_reducible refine Same.ite ?_ ?_) | (with_reducible refine Same.iteFst ?_ ?_)
    | ((with_reducible refine ((Same.setTu _ _ ?_ ?_).mono (by decide)).after ?_); rfl; rfl)
    | (with_reducible refine ((condOn_same ..).mono (by decide)).after ?_)
    | (with_reducible refine ((recordFault_same ..).mono (by decide)).after ?_)
    | (with_reducible refine ((disagreeEvent_same ..).mono (by decide)).after ?_)
    | (with_reducible refine ((condOff_same ..).mono (by decide)).after ?_) | split
    | (with_reducible refine Same.fst (by assumption) ?_))
theorem mirrorCheck_same (diff : Dword) (s : State) : Same 284 s (mirrorCheck diff s) := by
  unfold mirrorCheck
  extract_lets q s1
  have h1 : Same 284 s s1 := (Same.setTick _ _).mono (by decide)
  exact Same.ite h1 (h1.trans ((recordFault_same ..).mono (by decide)))
theorem mirrorCheck_sound (diff : Dword) (s : State) : Sound s (mirrorCheck diff s) := by
  unfold mirrorCheck
  extract_lets q s1
  have h1 : Sound s s1 := ⟨rfl, id, id, id⟩
  exact Sound.ite h1 (h1.trans ((recordFault_same ..).sound (by decide)))
theorem tickChecks_same : ∀ f s, Same 16668 s (tickChecks f s) := by
  intro f s
  unfold tickChecks
  try dsimp only
  repeat' (first
    | with_reducible exact Same.rfl' _ | (with_reducible refine Same.ite ?_ ?_) | (with_reducible refine Same.iteFst ?_ ?_)
    | (with_reducible refine ((crossCheck_same ..).mono (by decide)).after ?_)
    | (with_reducible refine ((mirrorCheck_same ..).mono (by decide)).after ?_)
    | (with_reducible refine ((thermalCheck_same ..).mono (by decide)).after ?_)
    | (with_reducible refine ((frcCheckGood_same ..).mono (by decide)).after ?_) | split)
theorem tickChecks_sound : ∀ f s, Sound s (tickChecks f s) := by
  intro f s
  unfold tickChecks
  try dsimp only
  repeat' (first
    | with_reducible exact Sound.rfl' _ | (with_reducible refine Sound.ite ?_ ?_)
    | (with_reducible refine Sound.iteFst ?_ ?_) | (with_reducible refine ((crossCheck_same ..).sound (by decide)).after ?_)
    | (with_reducible refine (mirrorCheck_sound ..).after ?_)
    | (with_reducible refine ((thermalCheck_same ..).sound (by decide)).after ?_)
    | (with_reducible refine ((frcCheckGood_same ..).sound (by decide)).after ?_) | split)
theorem tickOverrun_same (u : UnitId) (s : State) : Same 8388924 s (tickOverrun u s) := by
  unfold tickOverrun
  split
  · exact Same.rfl' _
  · refine Same.ite (Same.rfl' _) ?_
    extract_lets s1 s2 q s3 s4
    have h2 : Same 8388924 s s2 := (((raise_same ..).mono (by decide)).trans ((bump_same ..).mono (by decide))).trans
      ((setReg_same ..).mono (by decide))
    have h3 : Same 8388924 s s3 := h2.trans ((Same.setTick _ _).mono (by decide))
    have h4 : Same 8388924 s s4 := h3.trans ((recordFault_same ..).mono (by decide))
    exact Same.ite (Same.ite h4 (h4.trans ((nameUnit_same ..).mono (by decide))))
      (h3.trans ((leaveService_same ..).mono (by decide)))
theorem tickOverrun_sound (u : UnitId) (s : State) : Sound s (tickOverrun u s) := by
  unfold tickOverrun
  split
  · exact Sound.rfl' _
  · refine Sound.ite (Sound.rfl' _) ?_
    extract_lets s1 s2 q s3 s4
    have h2 : Sound s s2 := (((raise_same ..).sound (by decide)).trans ((bump_same ..).sound (by decide))).trans
      ((setReg_same ..).sound (by decide))
    have h3 : Sound s s3 := h2.trans ⟨rfl, id, id, id⟩
    have h4 : Sound s s4 := h3.trans ((recordFault_same ..).sound (by decide))
    exact Sound.ite (Sound.ite h4 (h4.trans ((nameUnit_same ..).sound (by decide))))
      (h3.trans ((leaveService_same ..).sound (by decide)))
theorem bodySafetyQuery_same : ∀ r s, Same 0 s (bodySafetyQuery r s).1 := by
  intro r s
  unfold bodySafetyQuery
  try dsimp only
  repeat' (first
    | with_reducible exact Same.rfl' _ | (with_reducible refine Same.ite ?_ ?_) | (with_reducible refine Same.iteFst ?_ ?_)
    | split)
theorem bodySafetyLogRead_same : ∀ r s, Same 0 s (bodySafetyLogRead r s).1 := by
  intro r s
  unfold bodySafetyLogRead
  try dsimp only
  repeat' (first
    | with_reducible exact Same.rfl' _ | (with_reducible refine Same.ite ?_ ?_) | (with_reducible refine Same.iteFst ?_ ?_)
    | split)
theorem bodySafetySelftest_same : ∀ r s, Same 272 s (bodySafetySelftest r s).1 := by
  intro r s
  unfold bodySafetySelftest
  try dsimp only
  repeat' (first
    | with_reducible exact Same.rfl' _ | (with_reducible refine Same.ite ?_ ?_) | (with_reducible refine Same.iteFst ?_ ?_)
    | (with_reducible refine ((accepted_same (w := 272) _ _ _ _ (by decide) (fun _ _ => ?_) _).mono (by decide)).after ?_)
    | (with_reducible refine ((Same.setZal _ _).mono (by decide)).after ?_) | split)
theorem recordUndetected_same : ∀ c s, Same 272 s (recordUndetected c s) := by
  intro c s
  unfold recordUndetected
  try dsimp only
  repeat' (first
    | with_reducible exact Same.rfl' _ | (with_reducible refine Same.ite ?_ ?_) | (with_reducible refine Same.iteFst ?_ ?_)
    | (with_reducible refine ((raise_same ..).mono (by decide)).after ?_)
    | (with_reducible refine ((Same.setZal _ _).mono (by decide)).after ?_)
    | (with_reducible refine (Same.foldl (fun _ _ => ?_) _ _).after ?_)
    | (with_reducible refine (Same.foldlFst (fun _ _ => ?_) _ _).after ?_) | split)
theorem selftestDone_same : ∀ missed s, Same 272 s (selftestDone missed s) := by
  intro missed s
  unfold selftestDone
  try dsimp only
  repeat' (first
    | with_reducible exact Same.rfl' _ | (with_reducible refine Same.ite ?_ ?_) | (with_reducible refine Same.iteFst ?_ ?_)
    | (with_reducible refine ((Same.setZal _ _).mono (by decide)).after ?_)
    | (with_reducible refine ((recordUndetected_same ..).mono (by decide)).after ?_)
    | (with_reducible refine ((complete_same ..).mono (by decide)).after ?_)
    | (with_reducible refine ((settleFaultN_same ..).mono (by decide)).after ?_)
    | (with_reducible refine (Same.foldl (fun _ _ => ?_) _ _).after ?_)
    | (with_reducible refine (Same.foldlFst (fun _ _ => ?_) _ _).after ?_) | split
    | (with_reducible refine Same.fst (by assumption) ?_))
theorem execLockstepMismatch_same : ∀ s t, execLockstepMismatch s = .next t → Same 276 s t := by
  intro s t h
  injection h with h
  subst h
  try dsimp only
  repeat' (first
    | with_reducible exact Same.rfl' _ | (with_reducible refine ((lockstepMismatch_same ..).mono (by decide)).after ?_)
    | split | (with_reducible refine Same.fst (by assumption) ?_))
theorem execIslandSilent_same : ∀ die s t, execIslandSilent die s = .next t → Same 109878 s t := by
  intro die s t h
  injection h with h
  subst h
  try dsimp only
  repeat' (first
    | with_reducible exact Same.rfl' _ | (with_reducible refine ((islandSilent_same ..).mono (by decide)).after ?_))
theorem execSupplyFault_same : ∀ rail uv s t, execSupplyFault rail uv s = .next t → Same 276 s t := by
  intro rail uv s t h
  injection h with h
  subst h
  try dsimp only
  repeat' (first
    | with_reducible exact Same.rfl' _ | (with_reducible refine ((supplyFault_same ..).mono (by decide)).after ?_))
theorem execSupplyRestored_same : ∀ rail uv s t, execSupplyRestored rail uv s = .next t → Same 256 s t := by
  intro rail uv s t h
  injection h with h
  subst h
  try dsimp only
  repeat' (first
    | with_reducible exact Same.rfl' _ | (with_reducible refine ((supplyRestored_same ..).mono (by decide)).after ?_))
theorem execCorePllUnlock_same : ∀ die s t, execCorePllUnlock die s = .next t → Same 276 s t := by
  intro die s t h
  injection h with h
  subst h
  try dsimp only
  repeat' (first
    | with_reducible exact Same.rfl' _ | (with_reducible refine ((pllUnlock_same ..).mono (by decide)).after ?_))
theorem execCorePllRelock_same : ∀ die s t, execCorePllRelock die s = .next t → Same 256 s t := by
  intro die s t h
  injection h with h
  subst h
  try dsimp only
  repeat' (first
    | with_reducible exact Same.rfl' _ | (with_reducible refine ((pllRelock_same ..).mono (by decide)).after ?_))
theorem execDieLinkFail_same : ∀ channel s t, execDieLinkFail channel s = .next t → Same 276 s t := by
  intro channel s t h
  injection h with h
  subst h
  try dsimp only
  repeat' (first
    | with_reducible exact Same.rfl' _ | (with_reducible refine ((dieLinkFail_same ..).mono (by decide)).after ?_))
theorem execSafeReqNLow_same : ∀ s t, execSafeReqNLow s = .next t → Same 276 s t := by
  intro s t h
  injection h with h
  subst h
  try dsimp only
  repeat' (first
    | with_reducible exact Same.rfl' _ | (with_reducible refine ((safeReqLow_same ..).mono (by decide)).after ?_))
theorem execSafeReqNHigh_same : ∀ s t, execSafeReqNHigh s = .next t → Same 256 s t := by
  intro s t h
  injection h with h
  subst h
  try dsimp only
  repeat' (first
    | with_reducible exact Same.rfl' _ | (with_reducible refine ((safeReqHigh_same ..).mono (by decide)).after ?_))
theorem execZaluaTickChecks_same : ∀ f s t, execZaluaTickChecks f s = .next t → Same 16668 s t := by
  intro f s t h
  injection h with h
  subst h
  try dsimp only
  repeat' (first
    | with_reducible exact Same.rfl' _ | (with_reducible refine ((tickChecks_same ..).mono (by decide)).after ?_))
theorem execZaluaTickChecks_sound : ∀ f s t, execZaluaTickChecks f s = .next t → Sound s t := by
  intro f s t h
  injection h with h
  subst h
  try dsimp only
  repeat' (first
    | with_reducible exact Sound.rfl' _ | (with_reducible refine (tickChecks_sound ..).after ?_))
theorem execTickOverrun_same : ∀ u s t, execTickOverrun u s = .next t → Same 8388924 s t := by
  intro u s t h
  injection h with h
  subst h
  try dsimp only
  repeat' (first
    | with_reducible exact Same.rfl' _ | (with_reducible refine ((tickOverrun_same ..).mono (by decide)).after ?_))
theorem execTickOverrun_sound : ∀ u s t, execTickOverrun u s = .next t → Sound s t := by
  intro u s t h
  injection h with h
  subst h
  try dsimp only
  repeat' (first
    | with_reducible exact Sound.rfl' _ | (with_reducible refine (tickOverrun_sound ..).after ?_))
theorem execSafetyQuery_same : ∀ r s t, execSafetyQuery r s = .next t → Same 526386 s t := by
  intro r s t h
  injection h with h
  subst h
  try dsimp only
  repeat' (first
    | with_reducible exact Same.rfl' _
    | (with_reducible refine (runToune_same _ _ (by decide) (fun r s => (bodySafetyQuery_same r s).mono (by decide)) _ _).after ?_)
    | (with_reducible refine ((bodySafetyQuery_same ..).mono (by decide)).after ?_))
theorem execSafetyLogRead_same : ∀ r s t, execSafetyLogRead r s = .next t → Same 526386 s t := by
  intro r s t h
  injection h with h
  subst h
  try dsimp only
  repeat' (first
    | with_reducible exact Same.rfl' _
    | (with_reducible refine (runToune_same _ _ (by decide) (fun r s => (bodySafetyLogRead_same r s).mono (by decide)) _ _).after ?_)
    | (with_reducible refine ((bodySafetyLogRead_same ..).mono (by decide)).after ?_))
theorem execSafetySelftest_same : ∀ r s t, execSafetySelftest r s = .next t → Same 526642 s t := by
  intro r s t h
  injection h with h
  subst h
  try dsimp only
  repeat' (first
    | with_reducible exact Same.rfl' _
    | (with_reducible refine (runToune_same _ _ (by decide) (fun r s => (bodySafetySelftest_same r s).mono (by decide)) _ _).after ?_)
    | (with_reducible refine ((bodySafetySelftest_same ..).mono (by decide)).after ?_))
theorem execSafetySelftestDone_same : ∀ missed s t, execSafetySelftestDone missed s = .next t → Same 272 s t := by
  intro missed s t h
  injection h with h
  subst h
  try dsimp only
  repeat' (first
    | with_reducible exact Same.rfl' _ | (with_reducible refine ((selftestDone_same ..).mono (by decide)).after ?_))

/-! ### FlowCmds -/

theorem issueItems_same : ∀ c cmd s, Same 432438 s (issueItems c cmd s) := by
  intro c cmd s
  unfold issueItems
  try dsimp only
  repeat' (first
    | with_reducible exact Same.rfl' _ | (with_reducible refine Same.ite ?_ ?_) | (with_reducible refine Same.iteFst ?_ ?_)
    | (with_reducible refine ((issueReads_same ..).mono (by decide)).after ?_)
    | (with_reducible refine ((issueItem_same ..).mono (by decide)).after ?_)
    | (with_reducible refine (Same.foldl (fun _ _ => ?_) _ _).after ?_)
    | (with_reducible refine (Same.foldlFst (fun _ _ => ?_) _ _).after ?_) | split)
theorem flowAccess_same : ∀ op r s, Same 432438 s (flowAccess op r s).1 := by
  intro op r s
  unfold flowAccess
  try dsimp only
  repeat' (first
    | with_reducible exact Same.rfl' _ | (with_reducible refine Same.ite ?_ ?_) | (with_reducible refine Same.iteFst ?_ ?_)
    | (with_reducible refine ((issueItems_same ..).mono (by decide)).after ?_)
    | (with_reducible refine ((Same.setFlow _ _).mono (by decide)).after ?_) | split
    | (with_reducible refine Same.fst (by assumption) ?_))
theorem bodyFlowRead_same : ∀ x x2, Same 432438 x2 (bodyFlowRead x x2).1 := by
  intro x x2
  unfold bodyFlowRead
  try dsimp only
  repeat' (first
    | with_reducible exact Same.rfl' _ | (with_reducible refine ((flowAccess_same ..).mono (by decide)).after ?_))
theorem bodyFlowWrite_same : ∀ x x2, Same 432438 x2 (bodyFlowWrite x x2).1 := by
  intro x x2
  unfold bodyFlowWrite
  try dsimp only
  repeat' (first
    | with_reducible exact Same.rfl' _ | (with_reducible refine ((flowAccess_same ..).mono (by decide)).after ?_))
theorem bodyFlowModify_same : ∀ x x2, Same 432438 x2 (bodyFlowModify x x2).1 := by
  intro x x2
  unfold bodyFlowModify
  try dsimp only
  repeat' (first
    | with_reducible exact Same.rfl' _ | (with_reducible refine ((flowAccess_same ..).mono (by decide)).after ?_))
theorem bodyFlowDelete_same : ∀ x x2, Same 432438 x2 (bodyFlowDelete x x2).1 := by
  intro x x2
  unfold bodyFlowDelete
  try dsimp only
  repeat' (first
    | with_reducible exact Same.rfl' _ | (with_reducible refine ((flowAccess_same ..).mono (by decide)).after ?_))
theorem bodyFlowPuntRelease_same : ∀ x x2, Same 432438 x2 (bodyFlowPuntRelease x x2).1 := by
  intro x x2
  unfold bodyFlowPuntRelease
  try dsimp only
  repeat' (first
    | with_reducible exact Same.rfl' _ | (with_reducible refine ((flowAccess_same ..).mono (by decide)).after ?_))
theorem startPass_same : ∀ op mask arg h s, Same 266292 s (startPass op mask arg h s) := by
  intro op mask arg h s
  unfold startPass
  try dsimp only
  repeat' (first
    | with_reducible exact Same.rfl' _ | (with_reducible refine ((postItem_same ..).mono (by decide)).after ?_)
    | (with_reducible refine ((Same.setFlow _ _).mono (by decide)).after ?_)
    | (with_reducible refine (Same.foldl (fun _ _ => ?_) _ _).after ?_)
    | (with_reducible refine (Same.foldlFst (fun _ _ => ?_) _ _).after ?_))
theorem bodyFlowSweep_same : ∀ r s, Same 266292 s (bodyFlowSweep r s).1 := by
  intro r s
  unfold bodyFlowSweep
  try dsimp only
  repeat' (first
    | with_reducible exact Same.rfl' _ | (with_reducible refine Same.ite ?_ ?_) | (with_reducible refine Same.iteFst ?_ ?_)
    | (with_reducible refine ((accepted_same (w := 266292) _ _ _ _ (by decide) (fun _ _ => ?_) _).mono (by decide)).after ?_)
    | (with_reducible refine ((startPass_same ..).mono (by decide)).after ?_) | split)
theorem bodyFlowRepin_same : ∀ r s, Same 266292 s (bodyFlowRepin r s).1 := by
  intro r s
  unfold bodyFlowRepin
  try dsimp only
  repeat' (first
    | with_reducible exact Same.rfl' _ | (with_reducible refine Same.ite ?_ ?_) | (with_reducible refine Same.iteFst ?_ ?_)
    | (with_reducible refine ((accepted_same (w := 266292) _ _ _ _ (by decide) (fun _ _ => ?_) _).mono (by decide)).after ?_)
    | (with_reducible refine ((startPass_same ..).mono (by decide)).after ?_) | split)
theorem bodyTurfEvacuate_same : ∀ r s, Same 262160 s (bodyTurfEvacuate r s).1 := by
  intro r s
  unfold bodyTurfEvacuate
  try dsimp only
  repeat' (first
    | with_reducible exact Same.rfl' _ | (with_reducible refine Same.ite ?_ ?_) | (with_reducible refine Same.iteFst ?_ ?_)
    | (with_reducible refine ((accepted_same (w := 262160) _ _ _ _ (by decide) (fun _ _ => ?_) _).mono (by decide)).after ?_)
    | (with_reducible refine ((Same.setFlow _ _).mono (by decide)).after ?_)
    | (with_reducible refine ((modSl_same ..).mono (by decide)).after ?_)
    | (with_reducible refine (Same.foldl (fun _ _ => ?_) _ _).after ?_)
    | (with_reducible refine (Same.foldlFst (fun _ _ => ?_) _ _).after ?_) | split)
theorem examine_same : ∀ n e0 s, Same 432438 s (examine n e0 s) := by
  intro n e0 s
  unfold examine
  try dsimp only
  repeat' (first
    | with_reducible exact Same.rfl' _ | (with_reducible refine Same.ite ?_ ?_) | (with_reducible refine Same.iteFst ?_ ?_)
    | (with_reducible refine ((useCycle_same ..).mono (by decide)).after ?_)
    | (with_reducible refine ((Same.setFlow _ _).mono (by decide)).after ?_)
    | (with_reducible refine ((acceptBg_same ..).mono (by decide)).after ?_) | split
    | (with_reducible refine Same.fst (by assumption) ?_))
theorem passTick_same : ∀ n s, Same 432438 s (passTick n s) := by
  intro n s
  unfold passTick
  try dsimp only
  repeat' (first
    | with_reducible exact Same.rfl' _ | (with_reducible refine Same.ite ?_ ?_) | (with_reducible refine Same.iteFst ?_ ?_)
    | (with_reducible refine ((examine_same ..).mono (by decide)).after ?_)
    | (with_reducible refine ((Same.setFlow _ _).mono (by decide)).after ?_)
    | (with_reducible refine (Same.foldl (fun _ _ => ?_) _ _).after ?_)
    | (with_reducible refine (Same.foldlFst (fun _ _ => ?_) _ _).after ?_) | split
    | (with_reducible refine Same.fst (by assumption) ?_))
theorem evacuateOne_same : ∀ n t' e s, Same 426292 s (evacuateOne n t' e s).1 := by
  intro n t' e s
  unfold evacuateOne
  try dsimp only
  repeat' (first
    | with_reducible exact Same.rfl' _ | (with_reducible refine Same.ite ?_ ?_) | (with_reducible refine Same.iteFst ?_ ?_)
    | (with_reducible refine ((tagError_same ..).mono (by decide)).after ?_)
    | (with_reducible refine ((stackInsert_same ..).mono (by decide)).after ?_)
    | (with_reducible refine ((useTurf_same ..).mono (by decide)).after ?_)
    | (with_reducible refine ((walkMove_same ..).mono (by decide)).after ?_)
    | (with_reducible refine ((clearTurf_same ..).mono (by decide)).after ?_)
    | (with_reducible refine ((useBack_same ..).mono (by decide)).after ?_) | split
    | (with_reducible refine Same.fst (by assumption) ?_))
theorem evacTick_same : ∀ n s, Same 426292 s (evacTick n s) := by
  intro n s
  unfold evacTick
  try dsimp only
  repeat' (first
    | with_reducible exact Same.rfl' _ | (with_reducible refine Same.ite ?_ ?_) | (with_reducible refine Same.iteFst ?_ ?_)
    | (with_reducible refine ((evacuateOne_same ..).mono (by decide)).after ?_)
    | (with_reducible refine ((useCycle_same ..).mono (by decide)).after ?_)
    | (with_reducible refine ((Same.setFlow _ _).mono (by decide)).after ?_)
    | (with_reducible refine (Same.foldl (fun _ _ => ?_) _ _).after ?_)
    | (with_reducible refine (Same.foldlFst (fun _ _ => ?_) _ _).after ?_) | split
    | (with_reducible refine Same.fst (by assumption) ?_))
theorem execSweepTick_same : ∀ n s t, execSweepTick n s = .next t → Same 956726 s t := by
  intro n s t h
  injection h with h
  subst h
  try dsimp only
  repeat' (first
    | with_reducible exact Same.rfl' _ | (with_reducible refine ((completeCmds_same ..).mono (by decide)).after ?_)
    | (with_reducible refine ((evacTick_same ..).mono (by decide)).after ?_)
    | (with_reducible refine ((passTick_same ..).mono (by decide)).after ?_))
theorem passEnd_same : ∀ op ev fields s, Same 262160 s (passEnd op ev fields s) := by
  intro op ev fields s
  unfold passEnd
  try dsimp only
  repeat' (first
    | with_reducible exact Same.rfl' _ | (with_reducible refine Same.ite ?_ ?_) | (with_reducible refine Same.iteFst ?_ ?_)
    | (with_reducible refine ((complete_same ..).mono (by decide)).after ?_)
    | (with_reducible refine ((Same.setFlow _ _).mono (by decide)).after ?_) | split
    | (with_reducible refine Same.fst (by assumption) ?_))
theorem execFlowSweepDone_same : ∀ s t, execFlowSweepDone s = .next t → Same 262160 s t := by
  intro s t h
  injection h with h
  subst h
  try dsimp only
  repeat' (first
    | with_reducible exact Same.rfl' _ | (with_reducible refine ((passEnd_same ..).mono (by decide)).after ?_) | split
    | (with_reducible refine Same.fst (by assumption) ?_))
theorem execFlowRepinDone_same : ∀ s t, execFlowRepinDone s = .next t → Same 262160 s t := by
  intro s t h
  injection h with h
  subst h
  try dsimp only
  repeat' (first
    | with_reducible exact Same.rfl' _ | (with_reducible refine ((passEnd_same ..).mono (by decide)).after ?_))
theorem turfEvacuateDone_same : ∀ s, Same 262160 s (turfEvacuateDone s) := by
  intro s
  unfold turfEvacuateDone
  try dsimp only
  repeat' (first
    | with_reducible exact Same.rfl' _ | (with_reducible refine Same.ite ?_ ?_) | (with_reducible refine Same.iteFst ?_ ?_)
    | (with_reducible refine ((Same.setFlow _ _).mono (by decide)).after ?_)
    | (with_reducible refine ((modSl_same ..).mono (by decide)).after ?_)
    | (with_reducible refine ((complete_same ..).mono (by decide)).after ?_)
    | (with_reducible refine (Same.foldl (fun _ _ => ?_) _ _).after ?_)
    | (with_reducible refine (Same.foldlFst (fun _ _ => ?_) _ _).after ?_) | split
    | (with_reducible refine Same.fst (by assumption) ?_))
theorem execTurfEvacuateDone_same : ∀ s t, execTurfEvacuateDone s = .next t → Same 262160 s t := by
  intro s t h
  injection h with h
  subst h
  try dsimp only
  repeat' (first
    | with_reducible exact Same.rfl' _ | (with_reducible refine ((turfEvacuateDone_same ..).mono (by decide)).after ?_))
theorem execFlowSeedWrite_same : ∀ w v s t, execFlowSeedWrite w v s = .next t → Same 8388656 s t := by
  intro w v s t h
  injection h with h
  subst h
  try dsimp only
  repeat' (first
    | with_reducible exact Same.rfl' _ | (with_reducible refine Same.ite ?_ ?_) | (with_reducible refine Same.iteFst ?_ ?_)
    | (with_reducible refine ((raise_same ..).mono (by decide)).after ?_)
    | (with_reducible refine ((setReg_same ..).mono (by decide)).after ?_) | split)
theorem execFlowRead_same : ∀ r s t, execFlowRead r s = .next t → Same 956726 s t := by
  intro r s t h
  injection h with h
  subst h
  try dsimp only
  repeat' (first
    | with_reducible exact Same.rfl' _
    | (with_reducible refine (runToune_same _ _ (by decide) (fun r s => (bodyFlowRead_same r s).mono (by decide)) _ _).after ?_)
    | (with_reducible refine ((bodyFlowRead_same ..).mono (by decide)).after ?_))
theorem execFlowWrite_same : ∀ r s t, execFlowWrite r s = .next t → Same 956726 s t := by
  intro r s t h
  injection h with h
  subst h
  try dsimp only
  repeat' (first
    | with_reducible exact Same.rfl' _
    | (with_reducible refine (runToune_same _ _ (by decide) (fun r s => (bodyFlowWrite_same r s).mono (by decide)) _ _).after ?_)
    | (with_reducible refine ((bodyFlowWrite_same ..).mono (by decide)).after ?_))
theorem execFlowModify_same : ∀ r s t, execFlowModify r s = .next t → Same 956726 s t := by
  intro r s t h
  injection h with h
  subst h
  try dsimp only
  repeat' (first
    | with_reducible exact Same.rfl' _
    | (with_reducible refine (runToune_same _ _ (by decide) (fun r s => (bodyFlowModify_same r s).mono (by decide)) _ _).after ?_)
    | (with_reducible refine ((bodyFlowModify_same ..).mono (by decide)).after ?_))
theorem execFlowDelete_same : ∀ r s t, execFlowDelete r s = .next t → Same 956726 s t := by
  intro r s t h
  injection h with h
  subst h
  try dsimp only
  repeat' (first
    | with_reducible exact Same.rfl' _
    | (with_reducible refine (runToune_same _ _ (by decide) (fun r s => (bodyFlowDelete_same r s).mono (by decide)) _ _).after ?_)
    | (with_reducible refine ((bodyFlowDelete_same ..).mono (by decide)).after ?_))
theorem execFlowPuntRelease_same : ∀ r s t, execFlowPuntRelease r s = .next t → Same 956726 s t := by
  intro r s t h
  injection h with h
  subst h
  try dsimp only
  repeat' (first
    | with_reducible exact Same.rfl' _
    | (with_reducible refine (runToune_same _ _ (by decide) (fun r s => (bodyFlowPuntRelease_same r s).mono (by decide)) _ _).after ?_)
    | (with_reducible refine ((bodyFlowPuntRelease_same ..).mono (by decide)).after ?_))
theorem execFlowSweep_same : ∀ r s t, execFlowSweep r s = .next t → Same 792630 s t := by
  intro r s t h
  injection h with h
  subst h
  try dsimp only
  repeat' (first
    | with_reducible exact Same.rfl' _
    | (with_reducible refine (runToune_same _ _ (by decide) (fun r s => (bodyFlowSweep_same r s).mono (by decide)) _ _).after ?_)
    | (with_reducible refine ((bodyFlowSweep_same ..).mono (by decide)).after ?_))
theorem execFlowRepin_same : ∀ r s t, execFlowRepin r s = .next t → Same 792630 s t := by
  intro r s t h
  injection h with h
  subst h
  try dsimp only
  repeat' (first
    | with_reducible exact Same.rfl' _
    | (with_reducible refine (runToune_same _ _ (by decide) (fun r s => (bodyFlowRepin_same r s).mono (by decide)) _ _).after ?_)
    | (with_reducible refine ((bodyFlowRepin_same ..).mono (by decide)).after ?_))
theorem execTurfEvacuate_same : ∀ r s t, execTurfEvacuate r s = .next t → Same 788530 s t := by
  intro r s t h
  injection h with h
  subst h
  try dsimp only
  repeat' (first
    | with_reducible exact Same.rfl' _
    | (with_reducible refine (runToune_same _ _ (by decide) (fun r s => (bodyTurfEvacuate_same r s).mono (by decide)) _ _).after ?_)
    | (with_reducible refine ((bodyTurfEvacuate_same ..).mono (by decide)).after ?_))

end Sys2Proof.Machine
end

