-- ==== Sys2Proof/Laws/SameTwin.lean ====
section
/-! SUPPORT. What parameters, the twin pair and rejoin leave unchanged: the footprint of each operation. -/

namespace Sys2Proof.Machine

/-! ### ParamAccess -/

theorem latch_same : ∀ i a v s, Same 32 s (latch i a v s) := by
  intro i a v s
  unfold latch
  try dsimp only
  repeat' (first
    | with_reducible exact Same.rfl' _ | ((with_reducible refine ((Same.setPrm _ _ ?_).mono (by decide)).after ?_); rfl))
theorem latchAll_same : ∀ i c a s, Same 32 s (latchAll i c a s) := by
  intro i c a s
  unfold latchAll
  try dsimp only
  repeat' (first
    | with_reducible exact Same.rfl' _ | (with_reducible refine ((latch_same ..).mono (by decide)).after ?_)
    | (with_reducible refine (Same.foldl (fun _ _ => ?_) _ _).after ?_)
    | (with_reducible refine (Same.foldlFst (fun _ _ => ?_) _ _).after ?_) | split
    | (with_reducible refine Same.fst (by assumption) ?_))
theorem takeLatch_same : ∀ i a s, Same 32 s (takeLatch i a s) := by
  intro i a s
  unfold takeLatch
  try dsimp only
  repeat' (first
    | with_reducible exact Same.rfl' _ | ((with_reducible refine ((Same.setPrm _ _ ?_).mono (by decide)).after ?_); rfl))
theorem clearCounter_same : ∀ a s, Same 32 s (clearCounter a s) := by
  intro a s
  unfold clearCounter
  try dsimp only
  repeat' (first
    | with_reducible exact Same.rfl' _ | ((with_reducible refine ((Same.setPrm _ _ ?_).mono (by decide)).after ?_); rfl))
theorem entropyRead_same : ∀ i a s, Same 34 s (entropyRead i a s).1 := by
  intro i a s
  unfold entropyRead
  try dsimp only
  repeat' (first
    | with_reducible exact Same.rfl' _ | (with_reducible refine Same.ite ?_ ?_) | (with_reducible refine Same.iteFst ?_ ?_)
    | (with_reducible refine ((latch_same ..).mono (by decide)).after ?_)
    | (with_reducible refine ((drawn_same ..).mono (by decide)).after ?_) | split)
theorem readWord_same : ∀ i c a s, Same 34 s (readWord i c a s).1 := by
  intro i c a s
  unfold readWord
  try dsimp only
  repeat' (first
    | with_reducible exact Same.rfl' _ | (with_reducible refine Same.ite ?_ ?_) | (with_reducible refine Same.iteFst ?_ ?_)
    | (with_reducible refine ((entropyRead_same ..).mono (by decide)).after ?_)
    | (with_reducible refine ((takeLatch_same ..).mono (by decide)).after ?_)
    | (with_reducible refine ((latchAll_same ..).mono (by decide)).after ?_)
    | (with_reducible refine ((clearCounter_same ..).mono (by decide)).after ?_)
    | (with_reducible refine ((drawn_same ..).mono (by decide)).after ?_) | split
    | (with_reducible refine Same.fst (by assumption) ?_))
theorem futureSet_same : ∀ a v t', Same 8388640 t' (futureSet a v t') := by
  intro a v t'
  unfold futureSet
  try dsimp only
  repeat' (first
    | with_reducible exact Same.rfl' _ | (with_reducible refine Same.ite ?_ ?_) | (with_reducible refine Same.iteFst ?_ ?_)
    | (with_reducible refine ((pairWords_same ..).mono (by decide)).after ?_)
    | (with_reducible refine ((setRegAt_same ..).mono (by decide)).after ?_) | split)
theorem futureState_same : ∀ s, Same 8388640 s (futureState s) := by
  intro s
  unfold futureState
  try dsimp only
  repeat' (first
    | with_reducible exact Same.rfl' _ | (with_reducible refine ((futureSet_same ..).mono (by decide)).after ?_)
    | (with_reducible refine (Same.foldl (fun _ _ => ?_) _ _).after ?_)
    | (with_reducible refine (Same.foldlFst (fun _ _ => ?_) _ _).after ?_) | split
    | (with_reducible refine Same.fst (by assumption) ?_))
theorem writeNow_same : ∀ i a v clear s, Same 9208114 s (writeNow i a v clear s) := by
  intro i a v clear s
  unfold writeNow
  try dsimp only
  repeat' (first
    | with_reducible exact Same.rfl' _ | (with_reducible refine Same.ite ?_ ?_) | (with_reducible refine Same.iteFst ?_ ?_)
    | (with_reducible refine ((clearFaults_same ..).mono (by decide)).after ?_)
    | (with_reducible refine ((setReg_same ..).mono (by decide)).after ?_)
    | (with_reducible refine ((modHq_same ..).mono (by decide)).after ?_)
    | (with_reducible refine ((setRegAt_same ..).mono (by decide)).after ?_)
    | (with_reducible refine ((dxCtrlDisable_same ..).mono (by decide)).after ?_)
    | ((with_reducible refine ((Same.setPrm _ _ ?_).mono (by decide)).after ?_); rfl)
    | (with_reducible refine ((Same.setPrmRegs _ _).mono (by decide)).after ?_)
    | (with_reducible refine ((consume_same (by assumption)).mono (by decide)).after ?_) | split
    | (with_reducible refine Same.fst (by assumption) ?_))
theorem acceptWrite_same : ∀ i c a value mask v s, Same 9208118 s (acceptWrite i c a value mask v s) := by
  intro i c a value mask v s
  unfold acceptWrite
  try dsimp only
  repeat' (first
    | with_reducible exact Same.rfl' _ | (with_reducible refine Same.ite ?_ ?_) | (with_reducible refine Same.iteFst ?_ ?_)
    | (with_reducible refine ((writeNow_same ..).mono (by decide)).after ?_)
    | (with_reducible refine ((defer_same ..).mono (by decide)).after ?_) | split
    | (with_reducible refine Same.fst (by assumption) ?_))
theorem bodyParamRead_same : ∀ r s, Same 34 s (bodyParamRead r s).1 := by
  intro r s
  unfold bodyParamRead
  try dsimp only
  repeat' (first
    | with_reducible exact Same.rfl' _ | (with_reducible refine Same.ite ?_ ?_) | (with_reducible refine Same.iteFst ?_ ?_)
    | (with_reducible refine ((readWord_same ..).mono (by decide)).after ?_)
    | (with_reducible refine (Same.foldl (fun _ _ => ?_) _ _).after ?_)
    | (with_reducible refine (Same.foldlFst (fun _ _ => ?_) _ _).after ?_) | split
    | (with_reducible refine Same.fst (by assumption) ?_))
theorem writeOne_same : ∀ r apply b s, Same 9208118 s (writeOne r apply b s).1 := by
  intro r apply b s
  unfold writeOne
  try dsimp only
  repeat' (first
    | with_reducible exact Same.rfl' _ | (with_reducible refine Same.ite ?_ ?_) | (with_reducible refine Same.iteFst ?_ ?_)
    | (with_reducible refine ((acceptWrite_same ..).mono (by decide)).after ?_) | split
    | (with_reducible refine Same.fst (by assumption) ?_))
theorem writeWords_same : ∀ r apply items s, Same 9208118 s (writeWords r apply items s).1 := by
  intro r apply items s
  unfold writeWords
  try dsimp only
  repeat' (first
    | with_reducible exact Same.rfl' _ | (with_reducible refine ((writeOne_same ..).mono (by decide)).after ?_)
    | (with_reducible refine (Same.foldl (fun _ _ => ?_) _ _).after ?_)
    | (with_reducible refine (Same.foldlFst (fun _ _ => ?_) _ _).after ?_) | split
    | (with_reducible refine Same.fst (by assumption) ?_))
theorem bodyParamWrite_same : ∀ r s, Same 9208118 s (bodyParamWrite r s).1 := by
  intro r s
  unfold bodyParamWrite
  try dsimp only
  repeat' (first
    | with_reducible exact Same.rfl' _ | (with_reducible refine Same.ite ?_ ?_) | (with_reducible refine Same.iteFst ?_ ?_)
    | (with_reducible refine ((writeWords_same ..).mono (by decide)).after ?_)
    | (with_reducible refine ((defer_same ..).mono (by decide)).after ?_) | split
    | (with_reducible refine Same.fst (by assumption) ?_))
theorem bodyParamReadBlock_same : ∀ r s, Same 34 s (bodyParamReadBlock r s).1 := by
  intro r s
  unfold bodyParamReadBlock
  try dsimp only
  repeat' (first
    | with_reducible exact Same.rfl' _ | (with_reducible refine Same.ite ?_ ?_) | (with_reducible refine Same.iteFst ?_ ?_)
    | (with_reducible refine ((readWord_same ..).mono (by decide)).after ?_)
    | (with_reducible refine (Same.foldl (fun _ _ => ?_) _ _).after ?_)
    | (with_reducible refine (Same.foldlFst (fun _ _ => ?_) _ _).after ?_) | split
    | (with_reducible refine Same.fst (by assumption) ?_))
theorem auditAccess_same : ∀ op i c item st s, Same 16 s (auditAccess op i c item st s) := by
  intro op i c item st s
  unfold auditAccess
  try dsimp only
  repeat' (first
    | with_reducible exact Same.rfl' _ | (with_reducible refine ((audit_same ..).mono (by decide)).after ?_))
theorem wordRead_same : ∀ i c a s, Same 50 s (wordRead i c a s) := by
  intro i c a s
  unfold wordRead
  try dsimp only
  repeat' (first
    | with_reducible exact Same.rfl' _ | (with_reducible refine Same.ite ?_ ?_) | (with_reducible refine Same.iteFst ?_ ?_)
    | (with_reducible refine ((readWord_same ..).mono (by decide)).after ?_)
    | (with_reducible refine ((auditAccess_same ..).mono (by decide)).after ?_) | split
    | (with_reducible refine Same.fst (by assumption) ?_))
theorem execParamRead_same : ∀ r s t, execParamRead r s = .next t → Same 526386 s t := by
  intro r s t h
  injection h with h
  subst h
  try dsimp only
  repeat' (first
    | with_reducible exact Same.rfl' _
    | (with_reducible refine (runToune_same _ _ (by decide) (fun r s => (bodyParamRead_same r s).mono (by decide)) _ _).after ?_)
    | (with_reducible refine ((bodyParamRead_same ..).mono (by decide)).after ?_))
theorem execParamWrite_same : ∀ r s t, execParamWrite r s = .next t → Same 9210166 s t := by
  intro r s t h
  injection h with h
  subst h
  try dsimp only
  repeat' (first
    | with_reducible exact Same.rfl' _
    | (with_reducible refine (runToune_same _ _ (by decide) (fun r s => (bodyParamWrite_same r s).mono (by decide)) _ _).after ?_)
    | (with_reducible refine ((bodyParamWrite_same ..).mono (by decide)).after ?_))
theorem execParamReadBlock_same : ∀ r s t, execParamReadBlock r s = .next t → Same 526386 s t := by
  intro r s t h
  injection h with h
  subst h
  try dsimp only
  repeat' (first
    | with_reducible exact Same.rfl' _
    | (with_reducible refine (runToune_same _ _ (by decide) (fun r s => (bodyParamReadBlock_same r s).mono (by decide)) _ _).after ?_)
    | (with_reducible refine ((bodyParamReadBlock_same ..).mono (by decide)).after ?_))
theorem execLatchedLoRead_same : ∀ i c a s t, execLatchedLoRead i c a s = .next t → Same 50 s t := by
  intro i c a s t h
  injection h with h
  subst h
  try dsimp only
  repeat' (first
    | with_reducible exact Same.rfl' _ | (with_reducible refine Same.ite ?_ ?_) | (with_reducible refine Same.iteFst ?_ ?_)
    | (with_reducible refine ((wordRead_same ..).mono (by decide)).after ?_) | split)
theorem execRcWordRead_same : ∀ i c a s t, execRcWordRead i c a s = .next t → Same 50 s t := by
  intro i c a s t h
  injection h with h
  subst h
  try dsimp only
  repeat' (first
    | with_reducible exact Same.rfl' _ | (with_reducible refine Same.ite ?_ ?_) | (with_reducible refine Same.iteFst ?_ ?_)
    | (with_reducible refine ((wordRead_same ..).mono (by decide)).after ?_) | split)
theorem execEntropyRead_same : ∀ i c s t, execEntropyRead i c s = .next t → Same 34 s t := by
  intro i c s t h
  injection h with h
  subst h
  try dsimp only
  repeat' (first
    | with_reducible exact Same.rfl' _ | (with_reducible refine ((readWord_same ..).mono (by decide)).after ?_))
theorem execPmonObserverWrite_same : ∀ on s t, execPmonObserverWrite on s = .next t → Same 8388640 s t := by
  intro on s t h
  injection h with h
  subst h
  try dsimp only
  repeat' (first
    | with_reducible exact Same.rfl' _ | (with_reducible refine ((setReg_same ..).mono (by decide)).after ?_))

/-! ### TwinLink -/

theorem dropFlight_same : ∀ n f s, Same 426294 s (dropFlight n f s) := by
  intro n f s
  unfold dropFlight
  try dsimp only
  repeat' (first
    | with_reducible exact Same.rfl' _ | (with_reducible refine ((delFlight_same ..).mono (by decide)).after ?_)
    | (with_reducible refine ((answerAll_same ..).mono (by decide)).after ?_)
    | (with_reducible refine ((runBg_same ..).mono (by decide)).after ?_)
    | (with_reducible refine (Same.foldl (fun _ _ => ?_) _ _).after ?_)
    | (with_reducible refine (Same.foldlFst (fun _ _ => ?_) _ _).after ?_))
theorem emptyWaits_same : ∀ n s, Same 426294 s (emptyWaits n s) := by
  intro n s
  unfold emptyWaits
  try dsimp only
  repeat' (first
    | with_reducible exact Same.rfl' _ | (with_reducible refine ((runBg_same ..).mono (by decide)).after ?_)
    | (with_reducible refine ((modSl_same ..).mono (by decide)).after ?_)
    | (with_reducible refine ((Same.setFlow _ _).mono (by decide)).after ?_)
    | (with_reducible refine (Same.foldl (fun _ _ => ?_) _ _).after ?_)
    | (with_reducible refine (Same.foldlFst (fun _ _ => ?_) _ _).after ?_))
theorem clearSlice_same : ∀ n s, Same 426294 s (clearSlice n s) := by
  intro n s
  unfold clearSlice
  try dsimp only
  repeat' (first
    | with_reducible exact Same.rfl' _ | (with_reducible refine ((emptyWaits_same ..).mono (by decide)).after ?_)
    | (with_reducible refine ((dropFlight_same ..).mono (by decide)).after ?_)
    | (with_reducible refine ((modSl_same ..).mono (by decide)).after ?_)
    | (with_reducible refine (Same.foldl (fun _ _ => ?_) _ _).after ?_)
    | (with_reducible refine (Same.foldlFst (fun _ _ => ?_) _ _).after ?_) | split
    | (with_reducible refine Same.fst (by assumption) ?_))
theorem clearFlow_same : ∀ s, Same 956726 s (clearFlow s) := by
  intro s
  unfold clearFlow
  try dsimp only
  repeat' (first
    | with_reducible exact Same.rfl' _ | (with_reducible refine ((completeCmds_same ..).mono (by decide)).after ?_)
    | (with_reducible refine ((clearSlice_same ..).mono (by decide)).after ?_)
    | (with_reducible refine (Same.foldl (fun _ _ => ?_) _ _).after ?_)
    | (with_reducible refine (Same.foldlFst (fun _ _ => ?_) _ _).after ?_))
theorem dropCredits_same : ∀ s, Same 131072 s (dropCredits s) := by
  intro s
  unfold dropCredits
  try dsimp only
  repeat' (first
    | with_reducible exact Same.rfl' _ | (with_reducible refine ((setHalf_same ..).mono (by decide)).after ?_)
    | (with_reducible refine (Same.foldl (fun _ _ => ?_) _ _).after ?_)
    | (with_reducible refine (Same.foldlFst (fun _ _ => ?_) _ _).after ?_))
theorem goAlone_same : ∀ cause s, Same 131088 s (goAlone cause s) := by
  intro cause s
  unfold goAlone
  try dsimp only
  repeat' (first
    | with_reducible exact Same.rfl' _ | (with_reducible refine Same.ite ?_ ?_) | (with_reducible refine Same.iteFst ?_ ?_)
    | (with_reducible refine ((raise_same ..).mono (by decide)).after ?_)
    | (with_reducible refine ((dropCredits_same ..).mono (by decide)).after ?_)
    | (with_reducible refine ((Same.setTwin _ _).mono (by decide)).after ?_) | split)
theorem grantCredits_same : ∀ s, Same 131072 s (grantCredits s) := by
  intro s
  unfold grantCredits
  try dsimp only
  repeat' (first
    | with_reducible exact Same.rfl' _ | (with_reducible refine Same.ite ?_ ?_) | (with_reducible refine Same.iteFst ?_ ?_)
    | (with_reducible refine ((linkControl_same ..).mono (by decide)).after ?_)
    | (with_reducible refine ((setHalf_same ..).mono (by decide)).after ?_)
    | (with_reducible refine (Same.foldl (fun _ _ => ?_) _ _).after ?_)
    | (with_reducible refine (Same.foldlFst (fun _ _ => ?_) _ _).after ?_) | split)
theorem twinLanes_same : ∀ h idle s, Same 1024 s (twinLanes h idle s) := by
  intro h idle s
  unfold twinLanes
  try dsimp only
  repeat' (first
    | with_reducible exact Same.rfl' _ | (with_reducible refine Same.ite ?_ ?_) | (with_reducible refine Same.iteFst ?_ ?_)
    | (with_reducible refine ((setLane_same ..).mono (by decide)).after ?_)
    | (with_reducible refine (Same.foldl (fun _ _ => ?_) _ _).after ?_)
    | (with_reducible refine (Same.foldlFst (fun _ _ => ?_) _ _).after ?_) | split)
theorem twinLocks_same : ∀ h on s, Same 1024 s (twinLocks h on s) := by
  intro h on s
  unfold twinLocks
  try dsimp only
  repeat' (first
    | with_reducible exact Same.rfl' _ | (with_reducible refine ((setLane_same ..).mono (by decide)).after ?_)
    | (with_reducible refine (Same.foldl (fun _ _ => ?_) _ _).after ?_)
    | (with_reducible refine (Same.foldlFst (fun _ _ => ?_) _ _).after ?_))
theorem twinStart_same : ∀ s, Same 132096 s (twinStart s) := by
  intro s
  unfold twinStart
  try dsimp only
  repeat' (first
    | with_reducible exact Same.rfl' _ | (with_reducible refine Same.ite ?_ ?_) | (with_reducible refine Same.iteFst ?_ ?_)
    | (with_reducible refine ((setHalf_same ..).mono (by decide)).after ?_)
    | (with_reducible refine ((twinLanes_same ..).mono (by decide)).after ?_)
    | (with_reducible refine (Same.foldl (fun _ _ => ?_) _ _).after ?_)
    | (with_reducible refine (Same.foldlFst (fun _ _ => ?_) _ _).after ?_) | split)
theorem halfLost_same : ∀ h cause down s, Same 132144 s (halfLost h cause down s) := by
  intro h cause down s
  unfold halfLost
  try dsimp only
  repeat' (first
    | with_reducible exact Same.rfl' _ | (with_reducible refine Same.ite ?_ ?_) | (with_reducible refine Same.iteFst ?_ ?_)
    | (with_reducible refine ((setHalf_same ..).mono (by decide)).after ?_)
    | (with_reducible refine ((twinLanes_same ..).mono (by decide)).after ?_)
    | (with_reducible refine ((twinLocks_same ..).mono (by decide)).after ?_)
    | (with_reducible refine ((raise_same ..).mono (by decide)).after ?_)
    | (with_reducible refine ((bump32_same ..).mono (by decide)).after ?_)
    | (with_reducible refine ((goAlone_same ..).mono (by decide)).after ?_) | split)
theorem twinLaneLock_same : ∀ h s, Same 132096 s (twinLaneLock h s) := by
  intro h s
  unfold twinLaneLock
  try dsimp only
  repeat' (first
    | with_reducible exact Same.rfl' _ | (with_reducible refine Same.ite ?_ ?_) | (with_reducible refine Same.iteFst ?_ ?_)
    | (with_reducible refine ((setHalf_same ..).mono (by decide)).after ?_)
    | (with_reducible refine ((twinLocks_same ..).mono (by decide)).after ?_) | split)
theorem resendLink_same : ∀ h s, Same 131072 s (resendLink h s) := by
  intro h s
  unfold resendLink
  try dsimp only
  repeat' (first
    | with_reducible exact Same.rfl' _ | (with_reducible refine ((setHalf_same ..).mono (by decide)).after ?_))
theorem twinLinkUp_same : ∀ h order s, Same 131088 s (twinLinkUp h order s) := by
  intro h order s
  unfold twinLinkUp
  try dsimp only
  repeat' (first
    | with_reducible exact Same.rfl' _ | (with_reducible refine Same.ite ?_ ?_) | (with_reducible refine Same.iteFst ?_ ?_)
    | (with_reducible refine ((setHalf_same ..).mono (by decide)).after ?_)
    | (with_reducible refine ((raise_same ..).mono (by decide)).after ?_)
    | (with_reducible refine ((resendLink_same ..).mono (by decide)).after ?_)
    | (with_reducible refine ((Same.setTwin _ _).mono (by decide)).after ?_)
    | (with_reducible refine ((grantCredits_same ..).mono (by decide)).after ?_) | split)
theorem twinLinkDown_same : ∀ h cause s, Same 132144 s (twinLinkDown h cause s) := by
  intro h cause s
  unfold twinLinkDown
  try dsimp only
  repeat' (first
    | with_reducible exact Same.rfl' _ | (with_reducible refine Same.ite ?_ ?_) | (with_reducible refine Same.iteFst ?_ ?_)
    | (with_reducible refine ((halfLost_same ..).mono (by decide)).after ?_) | split)
theorem laneIdleExitFail_same : ∀ l s, Same 132144 s (laneIdleExitFail l s) := by
  intro l s
  unfold laneIdleExitFail
  try dsimp only
  repeat' (first
    | with_reducible exact Same.rfl' _ | (with_reducible refine Same.ite ?_ ?_) | (with_reducible refine Same.iteFst ?_ ?_)
    | (with_reducible refine ((halfLost_same ..).mono (by decide)).after ?_)
    | (with_reducible refine ((raise_same ..).mono (by decide)).after ?_) | split)
theorem ackFrames_same : ∀ h ack s, Same 131072 s (ackFrames h ack s) := by
  intro h ack s
  unfold ackFrames
  try dsimp only
  repeat' (first
    | with_reducible exact Same.rfl' _ | (with_reducible refine Same.ite ?_ ?_) | (with_reducible refine Same.iteFst ?_ ?_)
    | (with_reducible refine ((setHalf_same ..).mono (by decide)).after ?_) | split)
theorem resendFrames_same : ∀ h s, Same 132144 s (resendFrames h s) := by
  intro h s
  unfold resendFrames
  try dsimp only
  repeat' (first
    | with_reducible exact Same.rfl' _ | (with_reducible refine Same.ite ?_ ?_) | (with_reducible refine Same.iteFst ?_ ?_)
    | (with_reducible refine ((halfLost_same ..).mono (by decide)).after ?_)
    | (with_reducible refine ((resendLink_same ..).mono (by decide)).after ?_)
    | (with_reducible refine ((setHalf_same ..).mono (by decide)).after ?_)
    | (with_reducible refine ((bump32_same ..).mono (by decide)).after ?_) | split)
theorem sendNak_same : ∀ h s, Same 131072 s (sendNak h s) := by
  intro h s
  unfold sendNak
  try dsimp only
  repeat' (first
    | with_reducible exact Same.rfl' _ | (with_reducible refine Same.ite ?_ ?_) | (with_reducible refine Same.iteFst ?_ ?_)
    | (with_reducible refine ((linkControl_same ..).mono (by decide)).after ?_)
    | (with_reducible refine ((setHalf_same ..).mono (by decide)).after ?_) | split)
theorem noteReceived_same : ∀ b s, Same 131072 s (noteReceived b s) := by
  intro b s
  unfold noteReceived
  try dsimp only
  repeat' (first
    | with_reducible exact Same.rfl' _ | (with_reducible refine Same.ite ?_ ?_) | (with_reducible refine Same.iteFst ?_ ?_)
    | (with_reducible refine ((Same.setTwin _ _).mono (by decide)).after ?_) | split)
theorem acceptItem_same : ∀ h kind b s, Same 131072 s (acceptItem h kind b s) := by
  intro h kind b s
  unfold acceptItem
  try dsimp only
  repeat' (first
    | with_reducible exact Same.rfl' _ | (with_reducible refine Same.ite ?_ ?_) | (with_reducible refine Same.iteFst ?_ ?_)
    | (with_reducible refine ((setHalf_same ..).mono (by decide)).after ?_)
    | (with_reducible refine ((noteReceived_same ..).mono (by decide)).after ?_) | split)
theorem controlRx_same : ∀ h b s, Same 134194 s (controlRx h b s) := by
  intro h b s
  unfold controlRx
  try dsimp only
  repeat' (first
    | with_reducible exact Same.rfl' _ | (with_reducible refine ((ackFrames_same ..).mono (by decide)).after ?_)
    | (with_reducible refine ((resendFrames_same ..).mono (by decide)).after ?_)
    | (with_reducible refine ((setHalf_same ..).mono (by decide)).after ?_)
    | (with_reducible refine ((crossPump_same ..).mono (by decide)).after ?_)
    | (with_reducible refine ((acceptItem_same ..).mono (by decide)).after ?_)
    | (with_reducible refine (Same.foldl (fun _ _ => ?_) _ _).after ?_)
    | (with_reducible refine (Same.foldlFst (fun _ _ => ?_) _ _).after ?_) | split
    | (with_reducible refine Same.fst (by assumption) ?_))
theorem twinFrameRx_same : ∀ h b s, Same 134194 s (twinFrameRx h b s) := by
  intro h b s
  unfold twinFrameRx
  try dsimp only
  repeat' (first
    | with_reducible exact Same.rfl' _ | (with_reducible refine Same.ite ?_ ?_) | (with_reducible refine Same.iteFst ?_ ?_)
    | (with_reducible refine ((sendNak_same ..).mono (by decide)).after ?_)
    | (with_reducible refine ((bump32_same ..).mono (by decide)).after ?_)
    | (with_reducible refine ((ackFrames_same ..).mono (by decide)).after ?_)
    | (with_reducible refine ((controlRx_same ..).mono (by decide)).after ?_)
    | (with_reducible refine ((setHalf_same ..).mono (by decide)).after ?_)
    | (with_reducible refine ((acceptItem_same ..).mono (by decide)).after ?_)
    | (with_reducible refine (Same.foldl (fun _ _ => ?_) _ _).after ?_)
    | (with_reducible refine (Same.foldlFst (fun _ _ => ?_) _ _).after ?_) | split)
theorem twinResendTimeout_same : ∀ h s, Same 132144 s (twinResendTimeout h s) := by
  intro h s
  unfold twinResendTimeout
  try dsimp only
  repeat' (first
    | with_reducible exact Same.rfl' _ | (with_reducible refine Same.ite ?_ ?_) | (with_reducible refine Same.iteFst ?_ ?_)
    | (with_reducible refine ((resendFrames_same ..).mono (by decide)).after ?_) | split
    | (with_reducible refine Same.fst (by assumption) ?_))
theorem takeItem_same {h k : Nat} {l : List Nat} {s t : State} {b : List Byte} (e : takeItem h k l s = some (b, t)) :
    Same 131072 s t := by
  unfold takeItem at e
  dsimp only at e
  split at e
  · cases e
  · split at e
    · split at e
      · cases e
        exact (setHalf_same ..).mono (by decide)
      · cases e
    · cases e
theorem twinCrossRx_same : ∀ h s, Same 133152 s (twinCrossRx h s) := by
  intro h s
  unfold twinCrossRx
  try dsimp only
  repeat' (first
    | with_reducible exact Same.rfl' _ | (with_reducible refine Same.ite ?_ ?_) | (with_reducible refine Same.iteFst ?_ ?_)
    | (with_reducible refine ((bump32_same ..).mono (by decide)).after ?_)
    | (with_reducible refine ((setHalf_same ..).mono (by decide)).after ?_)
    | (with_reducible refine ((Same.setPath _ _).mono (by decide)).after ?_)
    | (with_reducible refine ((linkControl_same ..).mono (by decide)).after ?_) | split
    | (with_reducible refine Same.fst (by assumption) ?_))
theorem execTwinLaneLock_same : ∀ h s t, execTwinLaneLock h s = .next t → Same 132096 s t := by
  intro h s t h
  injection h with h
  subst h
  try dsimp only
  repeat' (first
    | with_reducible exact Same.rfl' _ | (with_reducible refine ((twinLaneLock_same ..).mono (by decide)).after ?_))
theorem execTwinLinkUp_same : ∀ h order s t, execTwinLinkUp h order s = .next t → Same 131088 s t := by
  intro h order s t h
  injection h with h
  subst h
  try dsimp only
  repeat' (first
    | with_reducible exact Same.rfl' _ | (with_reducible refine ((twinLinkUp_same ..).mono (by decide)).after ?_))
theorem execTwinLinkDown_same : ∀ h cause s t, execTwinLinkDown h cause s = .next t → Same 132144 s t := by
  intro h cause s t h
  injection h with h
  subst h
  try dsimp only
  repeat' (first
    | with_reducible exact Same.rfl' _ | (with_reducible refine ((twinLinkDown_same ..).mono (by decide)).after ?_))
theorem execLaneIdleExitFail_same : ∀ l s t, execLaneIdleExitFail l s = .next t → Same 132144 s t := by
  intro l s t h
  injection h with h
  subst h
  try dsimp only
  repeat' (first
    | with_reducible exact Same.rfl' _ | (with_reducible refine ((laneIdleExitFail_same ..).mono (by decide)).after ?_))
theorem execTwinFrameRx_same : ∀ h b s t, execTwinFrameRx h b s = .next t → Same 134194 s t := by
  intro h b s t h
  injection h with h
  subst h
  try dsimp only
  repeat' (first
    | with_reducible exact Same.rfl' _ | (with_reducible refine ((twinFrameRx_same ..).mono (by decide)).after ?_))
theorem execTwinResendTimeout_same : ∀ h s t, execTwinResendTimeout h s = .next t → Same 132144 s t := by
  intro h s t h
  injection h with h
  subst h
  try dsimp only
  repeat' (first
    | with_reducible exact Same.rfl' _ | (with_reducible refine ((twinResendTimeout_same ..).mono (by decide)).after ?_))
theorem execTwinCrossRx_same : ∀ h s t, execTwinCrossRx h s = .next t → Same 133152 s t := by
  intro h s t h
  injection h with h
  subst h
  try dsimp only
  repeat' (first
    | with_reducible exact Same.rfl' _ | (with_reducible refine ((twinCrossRx_same ..).mono (by decide)).after ?_))

/-! ### Twin -/

theorem twinBeat_same : ∀ s, Same 131072 s (twinBeat s) := by
  intro s
  unfold twinBeat
  try dsimp only
  repeat' (first
    | with_reducible exact Same.rfl' _ | (with_reducible refine Same.ite ?_ ?_) | (with_reducible refine Same.iteFst ?_ ?_)
    | (with_reducible refine ((linkSend_same ..).mono (by decide)).after ?_)
    | (with_reducible refine ((useLink_same ..).mono (by decide)).after ?_)
    | (with_reducible refine (Same.foldl (fun _ _ => ?_) _ _).after ?_)
    | (with_reducible refine (Same.foldlFst (fun _ _ => ?_) _ _).after ?_) | split)
theorem pairReset_same : ∀ s, Same 131072 s (pairReset s) := by
  intro s
  unfold pairReset
  try dsimp only
  repeat' (first
    | with_reducible exact Same.rfl' _ | (with_reducible refine ((Same.setTwin _ _).mono (by decide)).after ?_)
    | (with_reducible refine ((setHalf_same ..).mono (by decide)).after ?_)
    | (with_reducible refine (Same.foldl (fun _ _ => ?_) _ _).after ?_)
    | (with_reducible refine (Same.foldlFst (fun _ _ => ?_) _ _).after ?_))
theorem startClear_same : ∀ s, Same 131072 s (startClear s) := by
  intro s
  unfold startClear
  try dsimp only
  repeat' (first
    | with_reducible exact Same.rfl' _ | (with_reducible refine ((Same.setTwin _ _).mono (by decide)).after ?_))
theorem formPair_same : ∀ s, Same 131088 s (formPair s) := by
  intro s
  unfold formPair
  try dsimp only
  repeat' (first
    | with_reducible exact Same.rfl' _ | (with_reducible refine Same.ite ?_ ?_) | (with_reducible refine Same.iteFst ?_ ?_)
    | (with_reducible refine ((pairReset_same ..).mono (by decide)).after ?_)
    | (with_reducible refine ((raise_same ..).mono (by decide)).after ?_)
    | (with_reducible refine ((Same.setTwin _ _).mono (by decide)).after ?_)
    | (with_reducible refine ((grantCredits_same ..).mono (by decide)).after ?_)
    | (with_reducible refine ((startRejoin_same ..).mono (by decide)).after ?_)
    | (with_reducible refine ((startClear_same ..).mono (by decide)).after ?_) | split)
theorem splitPair_same : ∀ b s, Same 131088 s (splitPair b s) := by
  intro b s
  unfold splitPair
  try dsimp only
  repeat' (first
    | with_reducible exact Same.rfl' _ | (with_reducible refine Same.ite ?_ ?_) | (with_reducible refine Same.iteFst ?_ ?_)
    | (with_reducible refine ((raise_same ..).mono (by decide)).after ?_)
    | (with_reducible refine ((Same.setTwin _ _).mono (by decide)).after ?_) | split)
theorem resolvePair_same : ∀ b s, Same 131088 s (resolvePair b s) := by
  intro b s
  unfold resolvePair
  try dsimp only
  repeat' (first
    | with_reducible exact Same.rfl' _ | (with_reducible refine Same.ite ?_ ?_) | (with_reducible refine Same.iteFst ?_ ?_)
    | (with_reducible refine ((raise_same ..).mono (by decide)).after ?_)
    | (with_reducible refine ((Same.setTwin _ _).mono (by decide)).after ?_)
    | (with_reducible refine ((splitPair_same ..).mono (by decide)).after ?_)
    | (with_reducible refine ((formPair_same ..).mono (by decide)).after ?_) | split
    | (with_reducible refine Same.fst (by assumption) ?_))
theorem twinHelloRx_same : ∀ h s, Same 131088 s (twinHelloRx h s) := by
  intro h s
  unfold twinHelloRx
  try dsimp only
  repeat' (first
    | with_reducible exact Same.rfl' _ | (with_reducible refine Same.ite ?_ ?_) | (with_reducible refine Same.iteFst ?_ ?_)
    | (with_reducible refine ((takeItem_same (by assumption)).mono (by decide)).after ?_)
    | (with_reducible refine ((Same.setTwin _ _).mono (by decide)).after ?_)
    | (with_reducible refine ((resolvePair_same ..).mono (by decide)).after ?_) | split
    | (with_reducible refine Same.fst (by assumption) ?_))
theorem toForming_same : ∀ s, Same 131072 s (toForming s) := by
  intro s
  unfold toForming
  try dsimp only
  repeat' (first
    | with_reducible exact Same.rfl' _ | (with_reducible refine Same.ite ?_ ?_) | (with_reducible refine Same.iteFst ?_ ?_)
    | (with_reducible refine ((Same.setTwin _ _).mono (by decide)).after ?_) | split)
theorem sendDeltas_same : ∀ d s, Same 131072 s (sendDeltas d s) := by
  intro d s
  unfold sendDeltas
  try dsimp only
  repeat' (first
    | with_reducible exact Same.rfl' _ | (with_reducible refine Same.ite ?_ ?_) | (with_reducible refine Same.iteFst ?_ ?_)
    | (with_reducible refine ((setLag_same ..).mono (by decide)).after ?_)
    | (with_reducible refine ((Same.setTwin _ _).mono (by decide)).after ?_)
    | (with_reducible refine ((useLink_same ..).mono (by decide)).after ?_)
    | (with_reducible refine ((linkSend_same ..).mono (by decide)).after ?_)
    | (with_reducible refine (Same.foldl (fun _ _ => ?_) _ _).after ?_)
    | (with_reducible refine (Same.foldlFst (fun _ _ => ?_) _ _).after ?_) | split
    | (with_reducible refine Same.fst (by assumption) ?_))
theorem applyDelta_same : ∀ b s, Same 956726 s (applyDelta b s) := by
  intro b s
  unfold applyDelta
  try dsimp only
  repeat' (first
    | with_reducible exact Same.rfl' _ | (with_reducible refine Same.ite ?_ ?_) | (with_reducible refine Same.iteFst ?_ ?_)
    | (with_reducible refine ((completeCmds_same ..).mono (by decide)).after ?_)
    | (with_reducible refine ((acceptBg_same ..).mono (by decide)).after ?_)
    | (with_reducible refine ((useCycle_same ..).mono (by decide)).after ?_) | split)
theorem applyFollow_same : ∀ b s, Same 956726 s (applyFollow b s) := by
  intro b s
  unfold applyFollow
  try dsimp only
  repeat' (first
    | with_reducible exact Same.rfl' _ | (with_reducible refine ((completeCmds_same ..).mono (by decide)).after ?_)
    | (with_reducible refine ((acceptBg_same ..).mono (by decide)).after ?_)
    | (with_reducible refine ((useCycle_same ..).mono (by decide)).after ?_))
theorem applyBulk_same : ∀ b s, Same 956726 s (applyBulk b s) := by
  intro b s
  unfold applyBulk
  try dsimp only
  repeat' (first
    | with_reducible exact Same.rfl' _ | (with_reducible refine Same.ite ?_ ?_) | (with_reducible refine Same.iteFst ?_ ?_)
    | (with_reducible refine ((acceptBg_same ..).mono (by decide)).after ?_)
    | (with_reducible refine ((useCycle_same ..).mono (by decide)).after ?_)
    | (with_reducible refine ((completeCmds_same ..).mono (by decide)).after ?_)
    | (with_reducible refine ((Same.setTwin _ _).mono (by decide)).after ?_)
    | (with_reducible refine (Same.foldl (fun _ _ => ?_) _ _).after ?_)
    | (with_reducible refine (Same.foldlFst (fun _ _ => ?_) _ _).after ?_) | split)
theorem applyNext_same {w : Nat} (h k : Nat) (f : List Byte → State → State) (hw : Nat.lor 131072 w = w)
    (hf : ∀ b s, Same w s (f b s)) (s : State) : Same w s (applyNext h k f s) := by
  unfold applyNext
  refine Same.ite (Same.rfl' _) ?_
  split
  · rename_i e
    exact Same.ite (Same.rfl' _) (((takeItem_same e).mono hw).trans (hf _ _))
  · exact Same.rfl' _
theorem twinDeltaApply_same : ∀ h s, Same 956726 s (twinDeltaApply h s) := by
  intro h s
  unfold twinDeltaApply
  try dsimp only
  repeat' (first
    | with_reducible exact Same.rfl' _
    | (with_reducible refine ((applyNext_same (w := 956726) _ _ _ (by decide) (fun _ _ => ?_) _).mono (by decide)).after ?_)
    | (with_reducible refine ((applyDelta_same ..).mono (by decide)).after ?_))
theorem twinFollowApply_same : ∀ h s, Same 956726 s (twinFollowApply h s) := by
  intro h s
  unfold twinFollowApply
  try dsimp only
  repeat' (first
    | with_reducible exact Same.rfl' _
    | (with_reducible refine ((applyNext_same (w := 956726) _ _ _ (by decide) (fun _ _ => ?_) _).mono (by decide)).after ?_)
    | (with_reducible refine ((applyFollow_same ..).mono (by decide)).after ?_))
theorem twinBulkApply_same : ∀ h s, Same 956726 s (twinBulkApply h s) := by
  intro h s
  unfold twinBulkApply
  try dsimp only
  repeat' (first
    | with_reducible exact Same.rfl' _
    | (with_reducible refine ((applyNext_same (w := 956726) _ _ _ (by decide) (fun _ _ => ?_) _).mono (by decide)).after ?_)
    | (with_reducible refine ((applyBulk_same ..).mono (by decide)).after ?_))
theorem twinFollowRead_same : ∀ n s, Same 956726 s (twinFollowRead n s) := by
  intro n s
  unfold twinFollowRead
  try dsimp only
  repeat' (first
    | with_reducible exact Same.rfl' _ | (with_reducible refine Same.ite ?_ ?_) | (with_reducible refine Same.iteFst ?_ ?_)
    | (with_reducible refine ((Same.setTwin _ _).mono (by decide)).after ?_)
    | (with_reducible refine ((completeCmds_same ..).mono (by decide)).after ?_)
    | (with_reducible refine ((acceptBg_same ..).mono (by decide)).after ?_)
    | (with_reducible refine ((useCycle_same ..).mono (by decide)).after ?_)
    | (with_reducible refine (Same.foldl (fun _ _ => ?_) _ _).after ?_)
    | (with_reducible refine (Same.foldlFst (fun _ _ => ?_) _ _).after ?_) | split)
theorem twinControlRx_same : ∀ h s, Same 131076 s (twinControlRx h s) := by
  intro h s
  unfold twinControlRx
  try dsimp only
  repeat' (first
    | with_reducible exact Same.rfl' _ | (with_reducible refine Same.ite ?_ ?_) | (with_reducible refine Same.iteFst ?_ ?_)
    | (with_reducible refine ((takeItem_same (by assumption)).mono (by decide)).after ?_)
    | (with_reducible refine ((Same.setTwin _ _).mono (by decide)).after ?_)
    | (with_reducible refine ((defer_same ..).mono (by decide)).after ?_) | split
    | (with_reducible refine Same.fst (by assumption) ?_))
theorem twinStandbyCleared_same : ∀ s, Same 956726 s (twinStandbyCleared s) := by
  intro s
  unfold twinStandbyCleared
  try dsimp only
  repeat' (first
    | with_reducible exact Same.rfl' _ | (with_reducible refine Same.ite ?_ ?_) | (with_reducible refine Same.iteFst ?_ ?_)
    | (with_reducible refine ((clearFlow_same ..).mono (by decide)).after ?_)
    | (with_reducible refine ((Same.setTwin _ _).mono (by decide)).after ?_) | split)
theorem startWalk_same : ∀ s, Same 131072 s (startWalk s) := by
  intro s
  unfold startWalk
  try dsimp only
  repeat' (first
    | with_reducible exact Same.rfl' _ | (with_reducible refine ((Same.setTwin _ _).mono (by decide)).after ?_)
    | (with_reducible refine (Same.foldl (fun _ _ => ?_) _ _).after ?_)
    | (with_reducible refine (Same.foldlFst (fun _ _ => ?_) _ _).after ?_))
theorem walkReads_same : ∀ n b s, Same 294944 s (walkReads n b s) := by
  intro n b s
  unfold walkReads
  try dsimp only
  repeat' (first
    | with_reducible exact Same.rfl' _ | (with_reducible refine Same.ite ?_ ?_) | (with_reducible refine Same.iteFst ?_ ?_)
    | (with_reducible refine ((useBack_same ..).mono (by decide)).after ?_)
    | (with_reducible refine ((useTurf_same ..).mono (by decide)).after ?_) | split)
theorem walkBuckets_same : ∀ d h x x2, Same 426016 x2 (walkBuckets d h x x2) := by
  intro d h x x2
  induction x generalizing d h x2 with
  | zero => exact Same.rfl' _
  | succ k0 ih =>
    unfold walkBuckets
    try dsimp only
    repeat' (first
      | with_reducible exact Same.rfl' _ | (with_reducible refine Same.ite ?_ ?_) | (with_reducible refine Same.iteFst ?_ ?_)
      | (with_reducible refine ((Same.setTwin _ _).mono (by decide)).after ?_)
      | (with_reducible refine ((walkReads_same ..).mono (by decide)).after ?_)
      | (with_reducible refine ((linkSend_same ..).mono (by decide)).after ?_)
      | (with_reducible refine ((useLink_same ..).mono (by decide)).after ?_) | (with_reducible refine (ih ..).after ?_)
      | split | (with_reducible refine Same.fst (by assumption) ?_))
theorem endWalk_same : ∀ s, Same 131072 s (endWalk s) := by
  intro s
  unfold endWalk
  try dsimp only
  repeat' (first
    | with_reducible exact Same.rfl' _ | (with_reducible refine Same.ite ?_ ?_) | (with_reducible refine Same.iteFst ?_ ?_)
    | (with_reducible refine ((Same.setTwin _ _).mono (by decide)).after ?_) | split)
theorem twinBulkWalk_same : ∀ d reads s, Same 426016 s (twinBulkWalk d reads s) := by
  intro d reads s
  unfold twinBulkWalk
  try dsimp only
  repeat' (first
    | with_reducible exact Same.rfl' _ | (with_reducible refine Same.ite ?_ ?_) | (with_reducible refine Same.iteFst ?_ ?_)
    | (with_reducible refine ((endWalk_same ..).mono (by decide)).after ?_)
    | (with_reducible refine ((walkBuckets_same ..).mono (by decide)).after ?_) | split
    | (with_reducible refine Same.fst (by assumption) ?_))
theorem bodyTwinResync_same : ∀ r s, Same 131072 s (bodyTwinResync r s).1 := by
  intro r s
  unfold bodyTwinResync
  try dsimp only
  repeat' (first
    | with_reducible exact Same.rfl' _ | (with_reducible refine Same.ite ?_ ?_) | (with_reducible refine Same.iteFst ?_ ?_)
    | (with_reducible refine ((startRejoin_same ..).mono (by decide)).after ?_) | split)
theorem hbMiss_same : ∀ s, Same 131348 s (hbMiss s) := by
  intro s
  unfold hbMiss
  try dsimp only
  repeat' (first
    | with_reducible exact Same.rfl' _ | (with_reducible refine Same.ite ?_ ?_) | (with_reducible refine Same.iteFst ?_ ?_)
    | (with_reducible refine ((recordFault_same ..).mono (by decide)).after ?_)
    | (with_reducible refine ((Same.setTwin _ _).mono (by decide)).after ?_)
    | (with_reducible refine ((goAlone_same ..).mono (by decide)).after ?_) | split)
theorem countBeat_same : ∀ s, Same 131380 s (countBeat s) := by
  intro s
  unfold countBeat
  try dsimp only
  repeat' (first
    | with_reducible exact Same.rfl' _ | (with_reducible refine Same.ite ?_ ?_) | (with_reducible refine Same.iteFst ?_ ?_)
    | (with_reducible refine ((hbMiss_same ..).mono (by decide)).after ?_)
    | (with_reducible refine ((Same.setTwin _ _).mono (by decide)).after ?_)
    | (with_reducible refine ((bump32_same ..).mono (by decide)).after ?_) | split)
theorem handedOver_same : ∀ s, Same 131088 s (handedOver s) := by
  intro s
  unfold handedOver
  try dsimp only
  repeat' (first
    | with_reducible exact Same.rfl' _ | (with_reducible refine Same.ite ?_ ?_) | (with_reducible refine Same.iteFst ?_ ?_)
    | (with_reducible refine ((complete_same ..).mono (by decide)).after ?_)
    | (with_reducible refine ((startClear_same ..).mono (by decide)).after ?_)
    | (with_reducible refine ((pairReset_same ..).mono (by decide)).after ?_)
    | (with_reducible refine ((Same.setTwin _ _).mono (by decide)).after ?_) | split
    | (with_reducible refine Same.fst (by assumption) ?_))
theorem beatAtStandby_same : ∀ b prevWalk s, Same 131088 s (beatAtStandby b prevWalk s) := by
  intro b prevWalk s
  unfold beatAtStandby
  try dsimp only
  repeat' (first
    | with_reducible exact Same.rfl' _ | (with_reducible refine Same.ite ?_ ?_) | (with_reducible refine Same.iteFst ?_ ?_)
    | (with_reducible refine ((Same.setTwin _ _).mono (by decide)).after ?_)
    | (with_reducible refine ((startClear_same ..).mono (by decide)).after ?_)
    | (with_reducible refine ((raise_same ..).mono (by decide)).after ?_) | split)
theorem beatAtActive_same : ∀ b s, Same 131088 s (beatAtActive b s) := by
  intro b s
  unfold beatAtActive
  try dsimp only
  repeat' (first
    | with_reducible exact Same.rfl' _ | (with_reducible refine Same.ite ?_ ?_) | (with_reducible refine Same.iteFst ?_ ?_)
    | (with_reducible refine ((Same.setTwin _ _).mono (by decide)).after ?_)
    | (with_reducible refine ((handedOver_same ..).mono (by decide)).after ?_)
    | (with_reducible refine ((goAlone_same ..).mono (by decide)).after ?_)
    | (with_reducible refine ((startWalk_same ..).mono (by decide)).after ?_)
    | (with_reducible refine ((raise_same ..).mono (by decide)).after ?_) | split
    | (with_reducible refine Same.fst (by assumption) ?_))
theorem twinHeartbeatRx_same : ∀ h s, Same 131088 s (twinHeartbeatRx h s) := by
  intro h s
  unfold twinHeartbeatRx
  try dsimp only
  repeat' (first
    | with_reducible exact Same.rfl' _ | (with_reducible refine Same.ite ?_ ?_) | (with_reducible refine Same.iteFst ?_ ?_)
    | (with_reducible refine ((takeItem_same (by assumption)).mono (by decide)).after ?_)
    | (with_reducible refine ((Same.setTwin _ _).mono (by decide)).after ?_)
    | (with_reducible refine ((formPair_same ..).mono (by decide)).after ?_)
    | (with_reducible refine ((beatAtStandby_same ..).mono (by decide)).after ?_)
    | (with_reducible refine ((beatAtActive_same ..).mono (by decide)).after ?_) | split
    | (with_reducible refine Same.fst (by assumption) ?_))
theorem applyAll_same : ∀ h s, Same 956726 s (applyAll h s) := by
  intro h s
  unfold applyAll
  try dsimp only
  repeat' (first
    | with_reducible exact Same.rfl' _ | (with_reducible refine Same.ite ?_ ?_) | (with_reducible refine Same.iteFst ?_ ?_)
    | (with_reducible refine ((setHalf_same ..).mono (by decide)).after ?_)
    | (with_reducible refine ((applyDelta_same ..).mono (by decide)).after ?_)
    | (with_reducible refine ((applyFollow_same ..).mono (by decide)).after ?_)
    | (with_reducible refine ((applyBulk_same ..).mono (by decide)).after ?_)
    | (with_reducible refine (Same.foldl (fun _ _ => ?_) _ _).after ?_)
    | (with_reducible refine (Same.foldlFst (fun _ _ => ?_) _ _).after ?_) | split)
theorem dropCross_same : ∀ h s, Same 131072 s (dropCross h s).1 := by
  intro h s
  unfold dropCross
  try dsimp only
  repeat' (first
    | with_reducible exact Same.rfl' _ | (with_reducible refine ((setHalf_same ..).mono (by decide)).after ?_))
theorem dropCrossing_same : ∀ s, Same 101430 s (dropCrossing s).1 := by
  intro s
  unfold dropCrossing
  try dsimp only
  repeat' (first
    | with_reducible exact Same.rfl' _ | (with_reducible refine Same.ite ?_ ?_) | (with_reducible refine Same.iteFst ?_ ?_)
    | (with_reducible refine ((discardPkt_same ..).mono (by decide)).after ?_)
    | (with_reducible refine (Same.foldl (fun _ _ => ?_) _ _).after ?_)
    | (with_reducible refine (Same.foldlFst (fun _ _ => ?_) _ _).after ?_) | split)
theorem armRecords_same : ∀ n s, Same 299060 s (armRecords n s) := by
  intro n s
  unfold armRecords
  try dsimp only
  repeat' (first
    | with_reducible exact Same.rfl' _ | (with_reducible refine Same.ite ?_ ?_) | (with_reducible refine Same.iteFst ?_ ?_)
    | (with_reducible refine ((rearm_same ..).mono (by decide)).after ?_)
    | (with_reducible refine (Same.foldl (fun _ _ => ?_) _ _).after ?_)
    | (with_reducible refine (Same.foldlFst (fun _ _ => ?_) _ _).after ?_) | split)
theorem takeOver_same : ∀ cause s, Same 1023286 s (takeOver cause s) := by
  intro cause s
  unfold takeOver
  try dsimp only
  repeat' (first
    | with_reducible exact Same.rfl' _ | (with_reducible refine Same.ite ?_ ?_) | (with_reducible refine Same.iteFst ?_ ?_)
    | (with_reducible refine ((applyAll_same ..).mono (by decide)).after ?_)
    | (with_reducible refine ((dropCross_same ..).mono (by decide)).after ?_)
    | (with_reducible refine ((dropCrossing_same ..).mono (by decide)).after ?_)
    | (with_reducible refine ((bump32_same ..).mono (by decide)).after ?_)
    | (with_reducible refine ((Same.setTwin _ _).mono (by decide)).after ?_)
    | (with_reducible refine ((armRecords_same ..).mono (by decide)).after ?_)
    | (with_reducible refine ((raise_same ..).mono (by decide)).after ?_)
    | (with_reducible refine ((grantCredits_same ..).mono (by decide)).after ?_)
    | (with_reducible refine ((startRejoin_same ..).mono (by decide)).after ?_)
    | (with_reducible refine ((pairReset_same ..).mono (by decide)).after ?_)
    | (with_reducible refine ((dropCredits_same ..).mono (by decide)).after ?_)
    | (with_reducible refine ((goAlone_same ..).mono (by decide)).after ?_)
    | (with_reducible refine (Same.foldl (fun _ _ => ?_) _ _).after ?_)
    | (with_reducible refine (Same.foldlFst (fun _ _ => ?_) _ _).after ?_) | split
    | (with_reducible refine Same.fst (by assumption) ?_))
theorem twinHandoverDrained_same : ∀ s, Same 131072 s (twinHandoverDrained s) := by
  intro s
  unfold twinHandoverDrained
  try dsimp only
  repeat' (first
    | with_reducible exact Same.rfl' _ | (with_reducible refine Same.ite ?_ ?_) | (with_reducible refine Same.iteFst ?_ ?_)
    | (with_reducible refine ((Same.setTwin _ _).mono (by decide)).after ?_) | split
    | (with_reducible refine Same.fst (by assumption) ?_))
theorem twinHandoverTimeout_same : ∀ s, Same 131088 s (twinHandoverTimeout s) := by
  intro s
  unfold twinHandoverTimeout
  try dsimp only
  repeat' (first
    | with_reducible exact Same.rfl' _ | (with_reducible refine Same.ite ?_ ?_) | (with_reducible refine Same.iteFst ?_ ?_)
    | (with_reducible refine ((complete_same ..).mono (by decide)).after ?_)
    | (with_reducible refine ((Same.setTwin _ _).mono (by decide)).after ?_) | split
    | (with_reducible refine Same.fst (by assumption) ?_))
theorem bodyTwinHandover_same : ∀ r s, Same 20 s (bodyTwinHandover r s).1 := by
  intro r s
  unfold bodyTwinHandover
  try dsimp only
  repeat' (first
    | with_reducible exact Same.rfl' _ | (with_reducible refine Same.ite ?_ ?_) | (with_reducible refine Same.iteFst ?_ ?_)
    | (with_reducible refine ((accepted_same (w := 20) _ _ _ _ (by decide) (fun _ _ => ?_) _).mono (by decide)).after ?_)
    | (with_reducible refine ((defer_same ..).mono (by decide)).after ?_) | split
    | (with_reducible refine Same.fst (by assumption) ?_))
theorem beginHandover_same : ∀ h toConfigure s, Same 131072 s (beginHandover h toConfigure s) := by
  intro h toConfigure s
  unfold beginHandover
  try dsimp only
  repeat' (first
    | with_reducible exact Same.rfl' _ | (with_reducible refine ((Same.setTwin _ _).mono (by decide)).after ?_))
theorem bodyTwinQuery_same : ∀ r s, Same 0 s (bodyTwinQuery r s).1 := by
  intro r s
  unfold bodyTwinQuery
  try dsimp only
  repeat' (first
    | with_reducible exact Same.rfl' _ | (with_reducible refine Same.ite ?_ ?_) | (with_reducible refine Same.iteFst ?_ ?_)
    | split)
theorem bodyTwinSplitResolve_same : ∀ r s, Same 131072 s (bodyTwinSplitResolve r s).1 := by
  intro r s
  unfold bodyTwinSplitResolve
  try dsimp only
  repeat' (first
    | with_reducible exact Same.rfl' _ | (with_reducible refine Same.ite ?_ ?_) | (with_reducible refine Same.iteFst ?_ ?_)
    | (with_reducible refine ((Same.setTwin _ _).mono (by decide)).after ?_) | split)
theorem bodyModeSet_same : ∀ r s, Same 20 s (bodyModeSet r s).1 := by
  intro r s
  unfold bodyModeSet
  try dsimp only
  repeat' (first
    | with_reducible exact Same.rfl' _ | (with_reducible refine Same.ite ?_ ?_) | (with_reducible refine Same.iteFst ?_ ?_)
    | (with_reducible refine ((modeSetLocal_same ..).mono (by decide)).after ?_) | split)
theorem execTwinHelloRx_same : ∀ h s t, execTwinHelloRx h s = .next t → Same 131088 s t := by
  intro h s t h
  injection h with h
  subst h
  try dsimp only
  repeat' (first
    | with_reducible exact Same.rfl' _ | (with_reducible refine ((twinHelloRx_same ..).mono (by decide)).after ?_))
theorem execTwinHeartbeatRx_same : ∀ h s t, execTwinHeartbeatRx h s = .next t → Same 131088 s t := by
  intro h s t h
  injection h with h
  subst h
  try dsimp only
  repeat' (first
    | with_reducible exact Same.rfl' _ | (with_reducible refine ((twinHeartbeatRx_same ..).mono (by decide)).after ?_))
theorem execTwinHbMiss_same : ∀ s t, execTwinHbMiss s = .next t → Same 131348 s t := by
  intro s t h
  injection h with h
  subst h
  try dsimp only
  repeat' (first
    | with_reducible exact Same.rfl' _ | (with_reducible refine ((hbMiss_same ..).mono (by decide)).after ?_))
theorem execTwinDeltaApply_same : ∀ h s t, execTwinDeltaApply h s = .next t → Same 956726 s t := by
  intro h s t h
  injection h with h
  subst h
  try dsimp only
  repeat' (first
    | with_reducible exact Same.rfl' _ | (with_reducible refine ((twinDeltaApply_same ..).mono (by decide)).after ?_))
theorem execTwinFollowRead_same : ∀ n s t, execTwinFollowRead n s = .next t → Same 956726 s t := by
  intro n s t h
  injection h with h
  subst h
  try dsimp only
  repeat' (first
    | with_reducible exact Same.rfl' _ | (with_reducible refine ((twinFollowRead_same ..).mono (by decide)).after ?_))
theorem execTwinFollowApply_same : ∀ h s t, execTwinFollowApply h s = .next t → Same 956726 s t := by
  intro h s t h
  injection h with h
  subst h
  try dsimp only
  repeat' (first
    | with_reducible exact Same.rfl' _ | (with_reducible refine ((twinFollowApply_same ..).mono (by decide)).after ?_))
theorem execTwinStandbyCleared_same : ∀ s t, execTwinStandbyCleared s = .next t → Same 956726 s t := by
  intro s t h
  injection h with h
  subst h
  try dsimp only
  repeat' (first
    | with_reducible exact Same.rfl' _ | (with_reducible refine ((twinStandbyCleared_same ..).mono (by decide)).after ?_))
theorem execTwinBulkWalk_same : ∀ d reads s t, execTwinBulkWalk d reads s = .next t → Same 426016 s t := by
  intro d reads s t h
  injection h with h
  subst h
  try dsimp only
  repeat' (first
    | with_reducible exact Same.rfl' _ | (with_reducible refine ((twinBulkWalk_same ..).mono (by decide)).after ?_))
theorem execTwinBulkApply_same : ∀ h s t, execTwinBulkApply h s = .next t → Same 956726 s t := by
  intro h s t h
  injection h with h
  subst h
  try dsimp only
  repeat' (first
    | with_reducible exact Same.rfl' _ | (with_reducible refine ((twinBulkApply_same ..).mono (by decide)).after ?_))
theorem execTwinControlRx_same : ∀ h s t, execTwinControlRx h s = .next t → Same 131076 s t := by
  intro h s t h
  injection h with h
  subst h
  try dsimp only
  repeat' (first
    | with_reducible exact Same.rfl' _ | (with_reducible refine ((twinControlRx_same ..).mono (by decide)).after ?_))
theorem execTwinHandoverDrained_same : ∀ s t, execTwinHandoverDrained s = .next t → Same 131072 s t := by
  intro s t h
  injection h with h
  subst h
  try dsimp only
  repeat' (first
    | with_reducible exact Same.rfl' _ | (with_reducible refine ((twinHandoverDrained_same ..).mono (by decide)).after ?_))
theorem execTwinHandoverTimeout_same : ∀ s t, execTwinHandoverTimeout s = .next t → Same 131088 s t := by
  intro s t h
  injection h with h
  subst h
  try dsimp only
  repeat' (first
    | with_reducible exact Same.rfl' _ | (with_reducible refine ((twinHandoverTimeout_same ..).mono (by decide)).after ?_))
theorem execTwinQuery_same : ∀ r s t, execTwinQuery r s = .next t → Same 526386 s t := by
  intro r s t h
  injection h with h
  subst h
  try dsimp only
  repeat' (first
    | with_reducible exact Same.rfl' _
    | (with_reducible refine (runToune_same _ _ (by decide) (fun r s => (bodyTwinQuery_same r s).mono (by decide)) _ _).after ?_)
    | (with_reducible refine ((bodyTwinQuery_same ..).mono (by decide)).after ?_))
theorem execTwinHandover_same : ∀ r s t, execTwinHandover r s = .next t → Same 526390 s t := by
  intro r s t h
  injection h with h
  subst h
  try dsimp only
  repeat' (first
    | with_reducible exact Same.rfl' _
    | (with_reducible refine (runToune_same _ _ (by decide) (fun r s => (bodyTwinHandover_same r s).mono (by decide)) _ _).after ?_)
    | (with_reducible refine ((bodyTwinHandover_same ..).mono (by decide)).after ?_))
theorem execTwinResync_same : ∀ r s t, execTwinResync r s = .next t → Same 657458 s t := by
  intro r s t h
  injection h with h
  subst h
  try dsimp only
  repeat' (first
    | with_reducible exact Same.rfl' _
    | (with_reducible refine (runToune_same _ _ (by decide) (fun r s => (bodyTwinResync_same r s).mono (by decide)) _ _).after ?_)
    | (with_reducible refine ((bodyTwinResync_same ..).mono (by decide)).after ?_))
theorem execTwinSplitResolve_same : ∀ r s t, execTwinSplitResolve r s = .next t → Same 657458 s t := by
  intro r s t h
  injection h with h
  subst h
  try dsimp only
  repeat' (first
    | with_reducible exact Same.rfl' _
    | (with_reducible refine (runToune_same _ _ (by decide) (fun r s => (bodyTwinSplitResolve_same r s).mono (by decide)) _ _).after ?_)
    | (with_reducible refine ((bodyTwinSplitResolve_same ..).mono (by decide)).after ?_))
theorem execModeSet_same : ∀ r s t, execModeSet r s = .next t → Same 526390 s t := by
  intro r s t h
  injection h with h
  subst h
  try dsimp only
  repeat' (first
    | with_reducible exact Same.rfl' _
    | (with_reducible refine (runToune_same _ _ (by decide) (fun r s => (bodyModeSet_same r s).mono (by decide)) _ _).after ?_)
    | (with_reducible refine ((bodyModeSet_same ..).mono (by decide)).after ?_))

/-! ### ParamApply -/

theorem portCtrl_same : ∀ n cut v s, Same 8498230 s (portCtrl n cut v s) := by
  intro n cut v s
  unfold portCtrl
  try dsimp only
  repeat' (first
    | with_reducible exact Same.rfl' _ | (with_reducible refine ((setReg_same ..).mono (by decide)).after ?_)
    | (with_reducible refine ((portEnable_same ..).mono (by decide)).after ?_)
    | (with_reducible refine ((portDisable_same ..).mono (by decide)).after ?_) | split
    | (with_reducible refine Same.fst (by assumption) ?_))
theorem laneCtrl_same : ∀ k v s, Same 8520752 s (laneCtrl k v s) := by
  intro k v s
  unfold laneCtrl
  try dsimp only
  repeat' (first
    | with_reducible exact Same.rfl' _ | (with_reducible refine Same.ite ?_ ?_) | (with_reducible refine Same.iteFst ?_ ?_)
    | (with_reducible refine ((setReg_same ..).mono (by decide)).after ?_)
    | (with_reducible refine ((halfLost_same ..).mono (by decide)).after ?_)
    | (with_reducible refine ((twinStart_same ..).mono (by decide)).after ?_)
    | (with_reducible refine ((setLane_same ..).mono (by decide)).after ?_) | split)
theorem twinCtrl_same : ∀ v s, Same 8520752 s (twinCtrl v s) := by
  intro v s
  unfold twinCtrl
  try dsimp only
  repeat' (first
    | with_reducible exact Same.rfl' _ | (with_reducible refine Same.ite ?_ ?_) | (with_reducible refine Same.iteFst ?_ ?_)
    | (with_reducible refine ((setReg_same ..).mono (by decide)).after ?_)
    | (with_reducible refine ((twinStart_same ..).mono (by decide)).after ?_)
    | (with_reducible refine ((halfLost_same ..).mono (by decide)).after ?_)
    | (with_reducible refine (Same.foldl (fun _ _ => ?_) _ _).after ?_)
    | (with_reducible refine (Same.foldlFst (fun _ _ => ?_) _ _).after ?_) | split)
theorem pmonWord_same : ∀ i w v s, Same 8454176 s (pmonWord i w v s) := by
  intro i w v s
  unfold pmonWord
  try dsimp only
  repeat' (first
    | with_reducible exact Same.rfl' _ | (with_reducible refine Same.ite ?_ ?_) | (with_reducible refine Same.iteFst ?_ ?_)
    | (with_reducible refine ((setReg_same ..).mono (by decide)).after ?_)
    | (with_reducible refine ((clearCounter_same ..).mono (by decide)).after ?_)
    | (with_reducible refine ((setSmp_same ..).mono (by decide)).after ?_) | split)
theorem flowWord_same : ∀ w v s, Same 8519728 s (flowWord w v s) := by
  intro w v s
  unfold flowWord
  try dsimp only
  repeat' (first
    | with_reducible exact Same.rfl' _ | (with_reducible refine Same.ite ?_ ?_) | (with_reducible refine Same.iteFst ?_ ?_)
    | (with_reducible refine ((setReg_same ..).mono (by decide)).after ?_)
    | (with_reducible refine ((toForming_same ..).mono (by decide)).after ?_)
    | (with_reducible refine ((raise_same ..).mono (by decide)).after ?_) | split)
theorem portWord_same : ∀ n w cut v s, Same 8498230 s (portWord n w cut v s) := by
  intro n w cut v s
  unfold portWord
  try dsimp only
  repeat' (first
    | with_reducible exact Same.rfl' _ | (with_reducible refine Same.ite ?_ ?_) | (with_reducible refine Same.iteFst ?_ ?_)
    | (with_reducible refine ((portCtrl_same ..).mono (by decide)).after ?_)
    | (with_reducible refine ((settlePauses_same ..).mono (by decide)).after ?_)
    | (with_reducible refine ((setReg_same ..).mono (by decide)).after ?_)
    | (with_reducible refine ((hostWidth_same ..).mono (by decide)).after ?_) | split)
theorem laneMap_same : ∀ g w v s, Same 8389664 s (laneMap g w v s) := by
  intro g w v s
  unfold laneMap
  try dsimp only
  repeat' (first
    | with_reducible exact Same.rfl' _ | (with_reducible refine Same.ite ?_ ?_) | (with_reducible refine Same.iteFst ?_ ?_)
    | (with_reducible refine ((setReg_same ..).mono (by decide)).after ?_)
    | (with_reducible refine ((setLane_same ..).mono (by decide)).after ?_)
    | (with_reducible refine (Same.foldl (fun _ _ => ?_) _ _).after ?_)
    | (with_reducible refine (Same.foldlFst (fun _ _ => ?_) _ _).after ?_) | split)
theorem applyWord_same : ∀ rx a mask value s, Same 8629302 s (applyWord rx a mask value s) := by
  intro rx a mask value s
  unfold applyWord
  try dsimp only
  repeat' (first
    | with_reducible exact Same.rfl' _ | (with_reducible refine Same.ite ?_ ?_) | (with_reducible refine Same.iteFst ?_ ?_)
    | (with_reducible refine ((laneCtrl_same ..).mono (by decide)).after ?_)
    | (with_reducible refine ((setRegAt_same ..).mono (by decide)).after ?_)
    | (with_reducible refine ((portWord_same ..).mono (by decide)).after ?_)
    | (with_reducible refine ((pgMode_same ..).mono (by decide)).after ?_)
    | (with_reducible refine ((laneMap_same ..).mono (by decide)).after ?_)
    | (with_reducible refine ((rbWidth_same ..).mono (by decide)).after ?_)
    | (with_reducible refine ((rbPair_same ..).mono (by decide)).after ?_)
    | (with_reducible refine ((setReg_same ..).mono (by decide)).after ?_)
    | (with_reducible refine ((flowWord_same ..).mono (by decide)).after ?_)
    | (with_reducible refine ((releaseOwners_same ..).mono (by decide)).after ?_)
    | (with_reducible refine ((pmonWord_same ..).mono (by decide)).after ?_)
    | (with_reducible refine ((twinCtrl_same ..).mono (by decide)).after ?_)
    | (with_reducible refine ((emptyRing_same ..).mono (by decide)).after ?_)
    | (with_reducible refine (Same.foldl (fun _ _ => ?_) _ _).after ?_)
    | (with_reducible refine (Same.foldlFst (fun _ _ => ?_) _ _).after ?_) | split
    | (with_reducible refine Same.fst (by assumption) ?_))
theorem paramWordWrite_same : ∀ a mask value s, Same 9415990 s (paramWordWrite a mask value s) := by
  intro a mask value s
  unfold paramWordWrite
  try dsimp only
  repeat' (first
    | with_reducible exact Same.rfl' _ | (with_reducible refine Same.ite ?_ ?_) | (with_reducible refine Same.iteFst ?_ ?_)
    | (with_reducible refine ((auditAccess_same ..).mono (by decide)).after ?_)
    | (with_reducible refine ((writeNow_same ..).mono (by decide)).after ?_)
    | (with_reducible refine ((applyWord_same ..).mono (by decide)).after ?_) | split
    | (with_reducible refine Same.fst (by assumption) ?_))
theorem execParamWordWrite_same : ∀ a mask value s t, execParamWordWrite a mask value s = .next t → Same 9415990 s t := by
  intro a mask value s t h
  injection h with h
  subst h
  try dsimp only
  repeat' (first
    | with_reducible exact Same.rfl' _ | (with_reducible refine ((paramWordWrite_same ..).mono (by decide)).after ?_))
theorem execPmonSelectWrite_same : ∀ i w v s t, execPmonSelectWrite i w v s = .next t → Same 8454176 s t := by
  intro i w v s t h
  injection h with h
  subst h
  try dsimp only
  repeat' (first
    | with_reducible exact Same.rfl' _ | (with_reducible refine Same.ite ?_ ?_) | (with_reducible refine Same.iteFst ?_ ?_)
    | (with_reducible refine ((pmonWord_same ..).mono (by decide)).after ?_) | split
    | (with_reducible refine Same.fst (by assumption) ?_))

/-! ### Rejoin -/

theorem outEffect_same : ∀ rx u s, Same 375862 s (outEffect rx u s) := by
  intro rx u s
  unfold outEffect
  try dsimp only
  repeat' (first
    | with_reducible exact Same.rfl' _ | (with_reducible refine Same.ite ?_ ?_) | (with_reducible refine Same.iteFst ?_ ?_)
    | (with_reducible refine ((takePortDown_same ..).mono (by decide)).after ?_)
    | (with_reducible refine ((Same.setPorts _ _).mono (by decide)).after ?_)
    | (with_reducible refine ((restartCore_same ..).mono (by decide)).after ?_)
    | (with_reducible refine ((turfLost_same ..).mono (by decide)).after ?_)
    | (with_reducible refine (Same.foldl (fun _ _ => ?_) _ _).after ?_)
    | (with_reducible refine (Same.foldlFst (fun _ _ => ?_) _ _).after ?_) | split)
theorem switchOut_same : ∀ rx u cause s, Same 375862 s (switchOut rx u cause s) := by
  intro rx u cause s
  unfold switchOut
  try dsimp only
  repeat' (first
    | with_reducible exact Same.rfl' _ | (with_reducible refine Same.ite ?_ ?_) | (with_reducible refine Same.iteFst ?_ ?_)
    | (with_reducible refine ((setUnit_same ..).mono (by decide)).after ?_)
    | (with_reducible refine ((outEffect_same ..).mono (by decide)).after ?_)
    | (with_reducible refine ((raise_same ..).mono (by decide)).after ?_) | split)
theorem channelOut_same : ∀ rx u h s, Same 1424438 s (channelOut rx u h s) := by
  intro rx u h s
  unfold channelOut
  try dsimp only
  repeat' (first
    | with_reducible exact Same.rfl' _ | (with_reducible refine ((setMem_same ..).mono (by decide)).after ?_)
    | (with_reducible refine ((switchOut_same ..).mono (by decide)).after ?_))
theorem journalRestart_same : ∀ s, Same 32800 s (journalRestart s) := by
  intro s
  unfold journalRestart
  try dsimp only
  repeat' (first
    | with_reducible exact Same.rfl' _ | (with_reducible refine Same.ite ?_ ?_) | (with_reducible refine Same.iteFst ?_ ?_)
    | (with_reducible refine ((bump32_same ..).mono (by decide)).after ?_)
    | (with_reducible refine ((setRing_same ..).mono (by decide)).after ?_)
    | (with_reducible refine ((Same.setJnl _ _).mono (by decide)).after ?_)
    | (with_reducible refine (Same.foldl (fun _ _ => ?_) _ _).after ?_)
    | (with_reducible refine (Same.foldlFst (fun _ _ => ?_) _ _).after ?_) | split)
theorem queuesRestart_same : ∀ s, Same 633910 s (queuesRestart s) := by
  intro s
  unfold queuesRestart
  try dsimp only
  repeat' (first
    | with_reducible exact Same.rfl' _ | (with_reducible refine ((disableQueue_same ..).mono (by decide)).after ?_)
    | (with_reducible refine ((drawn_same ..).mono (by decide)).after ?_)
    | (with_reducible refine (Same.foldl (fun _ _ => ?_) _ _).after ?_)
    | (with_reducible refine (Same.foldlFst (fun _ _ => ?_) _ _).after ?_))
theorem pmonRestart_same : ∀ s, Same 65568 s (pmonRestart s) := by
  intro s
  unfold pmonRestart
  try dsimp only
  repeat' (first
    | with_reducible exact Same.rfl' _ | (with_reducible refine ((Same.setPmon _ _).mono (by decide)).after ?_)
    | ((with_reducible refine ((Same.setPrm _ _ ?_).mono (by decide)).after ?_); rfl))
theorem writeBack_same : ∀ n k w s, Same 426292 s (writeBack n k w s) := by
  intro n k w s
  unfold writeBack
  try dsimp only
  repeat' (first
    | with_reducible exact Same.rfl' _ | (with_reducible refine Same.ite ?_ ?_) | (with_reducible refine Same.iteFst ?_ ?_)
    | (with_reducible refine ((tagError_same ..).mono (by decide)).after ?_)
    | (with_reducible refine ((modSl_same ..).mono (by decide)).after ?_) | split)
theorem sliceRestart_same : ∀ n s, Same 956726 s (sliceRestart n s) := by
  intro n s
  unfold sliceRestart
  try dsimp only
  repeat' (first
    | with_reducible exact Same.rfl' _ | (with_reducible refine ((emptyWaits_same ..).mono (by decide)).after ?_)
    | (with_reducible refine ((dropFlight_same ..).mono (by decide)).after ?_)
    | (with_reducible refine ((writeBack_same ..).mono (by decide)).after ?_)
    | (with_reducible refine ((modSl_same ..).mono (by decide)).after ?_)
    | (with_reducible refine ((completeCmds_same ..).mono (by decide)).after ?_)
    | (with_reducible refine ((Same.setJnl _ _).mono (by decide)).after ?_)
    | (with_reducible refine (Same.foldl (fun _ _ => ?_) _ _).after ?_)
    | (with_reducible refine (Same.foldlFst (fun _ _ => ?_) _ _).after ?_))
theorem bufferRestart_same : ∀ d s, Same 109622 s (bufferRestart d s) := by
  intro d s
  unfold bufferRestart
  try dsimp only
  repeat' (first
    | with_reducible exact Same.rfl' _ | (with_reducible refine Same.ite ?_ ?_) | (with_reducible refine Same.iteFst ?_ ?_)
    | (with_reducible refine ((abandonPort_same ..).mono (by decide)).after ?_)
    | (with_reducible refine ((dropCopy_same ..).mono (by decide)).after ?_)
    | (with_reducible refine ((bump32_same ..).mono (by decide)).after ?_)
    | (with_reducible refine ((Same.setBuf _ _).mono (by decide)).after ?_)
    | (with_reducible refine ((setBm_same ..).mono (by decide)).after ?_)
    | (with_reducible refine (Same.foldl (fun _ _ => ?_) _ _).after ?_)
    | (with_reducible refine (Same.foldlFst (fun _ _ => ?_) _ _).after ?_) | split
    | (with_reducible refine Same.fst (by assumption) ?_))
theorem auditFault_same : ∀ p s, Same 18 s (auditFault p s) := by
  intro p s
  unfold auditFault
  try dsimp only
  repeat' (first
    | with_reducible exact Same.rfl' _ | (with_reducible refine Same.ite ?_ ?_) | (with_reducible refine Same.iteFst ?_ ?_)
    | (with_reducible refine ((Same.setToune _ _).mono (by decide)).after ?_)
    | (with_reducible refine ((drawn_same ..).mono (by decide)).after ?_) | split)
theorem endFault_same : ∀ s p, Same 526386 s (endFault s p) := by
  intro s p
  unfold endFault
  try dsimp only
  repeat' (first
    | with_reducible exact Same.rfl' _ | (with_reducible refine ((send_same ..).mono (by decide)).after ?_)
    | (with_reducible refine ((auditFault_same ..).mono (by decide)).after ?_) | split
    | (with_reducible refine Same.fst (by assumption) ?_))
theorem firmwareRestart_same : ∀ s, Same 804918 s (firmwareRestart s) := by
  intro s
  unfold firmwareRestart
  try dsimp only
  repeat' (first
    | with_reducible exact Same.rfl' _ | (with_reducible refine ((Same.setFlow _ _).mono (by decide)).after ?_)
    | ((with_reducible refine ((Same.setSys _ _ ?_).mono (by decide)).after ?_); rfl)
    | ((with_reducible refine ((Same.setDom _ _ _ ?_).mono (by decide)).after ?_); rfl)
    | (with_reducible refine ((endFault_same ..).mono (by decide)).after ?_)
    | (with_reducible refine (Same.foldl (fun _ _ => ?_) _ _).after ?_)
    | (with_reducible refine (Same.foldlFst (fun _ _ => ?_) _ _).after ?_))
theorem rejoinStart_same : ∀ u s, Same 2096438 s (rejoinStart u s) := by
  intro u s
  unfold rejoinStart
  try dsimp only
  repeat' (first
    | with_reducible exact Same.rfl' _ | (with_reducible refine Same.ite ?_ ?_) | (with_reducible refine Same.iteFst ?_ ?_)
    | (with_reducible refine ((sliceRestart_same ..).mono (by decide)).after ?_)
    | (with_reducible refine ((bufferRestart_same ..).mono (by decide)).after ?_)
    | (with_reducible refine ((queuesRestart_same ..).mono (by decide)).after ?_)
    | (with_reducible refine ((restartTransport_same ..).mono (by decide)).after ?_)
    | (with_reducible refine ((dxStop_same ..).mono (by decide)).after ?_)
    | (with_reducible refine ((pmonRestart_same ..).mono (by decide)).after ?_)
    | (with_reducible refine ((twinStart_same ..).mono (by decide)).after ?_)
    | (with_reducible refine ((halfLost_same ..).mono (by decide)).after ?_)
    | (with_reducible refine ((journalRestart_same ..).mono (by decide)).after ?_)
    | (with_reducible refine ((firmwareRestart_same ..).mono (by decide)).after ?_)
    | (with_reducible refine ((setMem_same ..).mono (by decide)).after ?_)
    | (with_reducible refine (Same.foldl (fun _ _ => ?_) _ _).after ?_)
    | (with_reducible refine (Same.foldlFst (fun _ _ => ?_) _ _).after ?_) | split
    | (with_reducible refine Same.fst (by assumption) ?_))
theorem toRejoin_same : ∀ u s, Same 2096438 s (toRejoin u s) := by
  intro u s
  unfold toRejoin
  try dsimp only
  repeat' (first
    | with_reducible exact Same.rfl' _ | (with_reducible refine Same.ite ?_ ?_) | (with_reducible refine Same.iteFst ?_ ?_)
    | (with_reducible refine ((rejoinStart_same ..).mono (by decide)).after ?_)
    | (with_reducible refine ((setUnit_same ..).mono (by decide)).after ?_) | split)
theorem nameRejoin_same : ∀ u s, Same 2096438 s (nameRejoin u s) := by
  intro u s
  unfold nameRejoin
  try dsimp only
  repeat' (first
    | with_reducible exact Same.rfl' _ | (with_reducible refine Same.ite ?_ ?_) | (with_reducible refine Same.iteFst ?_ ?_)
    | (with_reducible refine ((rejoinStart_same ..).mono (by decide)).after ?_)
    | (with_reducible refine ((setUnit_same ..).mono (by decide)).after ?_) | split)
theorem readShadow_same : ∀ b s, Same 2064 s (readShadow b s) := by
  intro b s
  unfold readShadow
  try dsimp only
  repeat' (first
    | with_reducible exact Same.rfl' _ | (with_reducible refine ((findLost_same ..).mono (by decide)).after ?_))
theorem reloadBank_same : ∀ b s, Same 2064 s (reloadBank b s) := by
  intro b s
  unfold reloadBank
  try dsimp only
  repeat' (first
    | with_reducible exact Same.rfl' _ | (with_reducible refine ((readShadow_same ..).mono (by decide)).after ?_)
    | (with_reducible refine ((setBank_same ..).mono (by decide)).after ?_)
    | (with_reducible refine (Same.foldl (fun _ _ => ?_) _ _).after ?_)
    | (with_reducible refine (Same.foldlFst (fun _ _ => ?_) _ _).after ?_))
theorem reloadTables_same : ∀ p s, Same 2048 s (reloadTables p s) := by
  intro p s
  unfold reloadTables
  try dsimp only
  repeat' (first
    | with_reducible exact Same.rfl' _ | (with_reducible refine ((setFwd_same ..).mono (by decide)).after ?_) | split
    | (with_reducible refine Same.fst (by assumption) ?_))
theorem dropBad_same : ∀ n k d s, Same 426292 s (dropBad n k d s) := by
  intro n k d s
  unfold dropBad
  try dsimp only
  repeat' (first
    | with_reducible exact Same.rfl' _ | (with_reducible refine Same.ite ?_ ?_) | (with_reducible refine Same.iteFst ?_ ?_)
    | (with_reducible refine ((journalRetired_same ..).mono (by decide)).after ?_)
    | (with_reducible refine ((tagError_same ..).mono (by decide)).after ?_) | split
    | (with_reducible refine Same.fst (by assumption) ?_))
theorem rebuilt_same : ∀ u bad s, Same 448886 s (rebuilt u bad s) := by
  intro u bad s
  unfold rebuilt
  try dsimp only
  repeat' (first
    | with_reducible exact Same.rfl' _ | (with_reducible refine Same.ite ?_ ?_) | (with_reducible refine Same.iteFst ?_ ?_)
    | (with_reducible refine ((reloadTables_same ..).mono (by decide)).after ?_)
    | (with_reducible refine ((reloadBank_same ..).mono (by decide)).after ?_)
    | (with_reducible refine ((dropBad_same ..).mono (by decide)).after ?_)
    | (with_reducible refine ((trainedHbm_same ..).mono (by decide)).after ?_)
    | (with_reducible refine ((trainedChannel_same ..).mono (by decide)).after ?_)
    | (with_reducible refine ((modSl_same ..).mono (by decide)).after ?_)
    | (with_reducible refine ((setScDie_same ..).mono (by decide)).after ?_)
    | (with_reducible refine ((servoState_same ..).mono (by decide)).after ?_)
    | (with_reducible refine (Same.foldl (fun _ _ => ?_) _ _).after ?_)
    | (with_reducible refine (Same.foldlFst (fun _ _ => ?_) _ _).after ?_) | split
    | (with_reducible refine Same.fst (by assumption) ?_))
theorem rejoinComplete_same : ∀ u b s, Same 448886 s (rejoinComplete u b s) := by
  intro u b s
  unfold rejoinComplete
  try dsimp only
  repeat' (first
    | with_reducible exact Same.rfl' _ | (with_reducible refine Same.ite ?_ ?_) | (with_reducible refine Same.iteFst ?_ ?_)
    | (with_reducible refine ((raise_same ..).mono (by decide)).after ?_)
    | (with_reducible refine ((setUnit_same ..).mono (by decide)).after ?_)
    | (with_reducible refine ((readShadow_same ..).mono (by decide)).after ?_)
    | (with_reducible refine ((Same.setZal _ _).mono (by decide)).after ?_)
    | (with_reducible refine ((rebuilt_same ..).mono (by decide)).after ?_) | split
    | (with_reducible refine Same.fst (by assumption) ?_))
theorem switchIn_same : ∀ u s, Same 263188 s (switchIn u s) := by
  intro u s
  unfold switchIn
  try dsimp only
  repeat' (first
    | with_reducible exact Same.rfl' _ | (with_reducible refine Same.ite ?_ ?_) | (with_reducible refine Same.iteFst ?_ ?_)
    | (with_reducible refine ((setUnit_same ..).mono (by decide)).after ?_)
    | (with_reducible refine ((raise_same ..).mono (by decide)).after ?_)
    | (with_reducible refine ((startPort_same ..).mono (by decide)).after ?_)
    | (with_reducible refine ((modSl_same ..).mono (by decide)).after ?_)
    | (with_reducible refine (Same.foldl (fun _ _ => ?_) _ _).after ?_)
    | (with_reducible refine (Same.foldlFst (fun _ _ => ?_) _ _).after ?_) | split)
theorem clearLoopbacks_same : ∀ s, Same 8388640 s (clearLoopbacks s) := by
  intro s
  unfold clearLoopbacks
  try dsimp only
  repeat' (first
    | with_reducible exact Same.rfl' _ | ((with_reducible refine ((Same.setPrm _ _ ?_).mono (by decide)).after ?_); rfl)
    | (with_reducible refine ((Same.setPrmRegs _ _).mono (by decide)).after ?_))
theorem clearLearned_same : ∀ s, Same 2048 s (clearLearned s) := by
  intro s
  unfold clearLearned
  try dsimp only
  repeat' (first
    | with_reducible exact Same.rfl' _ | (with_reducible refine ((setFwd_same ..).mono (by decide)).after ?_)
    | (with_reducible refine (Same.foldl (fun _ _ => ?_) _ _).after ?_)
    | (with_reducible refine (Same.foldlFst (fun _ _ => ?_) _ _).after ?_))
theorem testClearDone_same (s : State) : Same 9345334 s (testClearDone s) := by
  unfold testClearDone
  split
  · exact Same.rfl' _
  · refine Same.ite (Same.rfl' _) ?_
    extract_lets s1
    have h1 : Same 9345334 s s1 := (((clearLoopbacks_same ..).mono (by decide)).trans
      ((clearFlow_same ..).mono (by decide))).trans ((clearLearned_same ..).mono (by decide))
    clear_value s1
    exact h1.trans (Same.mono (w := 4) (Same.setSys _ _ rfl) (by decide))
theorem execRejoinComplete_same : ∀ u b s t, execRejoinComplete u b s = .next t → Same 448886 s t := by
  intro u b s t h
  injection h with h
  subst h
  try dsimp only
  repeat' (first
    | with_reducible exact Same.rfl' _ | (with_reducible refine ((rejoinComplete_same ..).mono (by decide)).after ?_))
theorem execTestClearDone_same : ∀ s t, execTestClearDone s = .next t → Same 9345334 s t := by
  intro s t h
  injection h with h
  subst h
  try dsimp only
  repeat' (first
    | with_reducible exact Same.rfl' _ | (with_reducible refine ((testClearDone_same ..).mono (by decide)).after ?_))

end Sys2Proof.Machine
end

