-- ==== Sys2Proof/Laws/SameBoundary.lean ====
section
/-! SUPPORT. What the tick boundary, the routes of messages and Kindling leave unchanged: the footprint of each operation. -/

namespace Sys2Proof.Machine

/-! ### Boundary -/

theorem tick_mul (c : Tick) : BitVec.ofNat 64 (65536000 * c.toNat) + 65536000 = BitVec.ofNat 64 (65536000 * (c + 1).toNat) := by
  have hc := c.isLt
  generalize hn : c.toNat = n at hc
  have h1 : (c + 1).toNat = (n + 1) % 2 ^ 48 := by
    rw [BitVec.toNat_add, hn]; rfl
  rw [h1]
  have h2 : (65536000 : BitVec 64) = BitVec.ofNat 64 65536000 := rfl
  rw [h2, ← BitVec.ofNat_add]
  apply BitVec.eq_of_toNat_eq
  rw [BitVec.toNat_ofNat, BitVec.toNat_ofNat]
  by_cases h : n + 1 = 2 ^ 48
  · rw [h, Nat.mod_self]
    have : 65536000 * n + 65536000 = 65536000 * 2 ^ 48 := by rw [← h, Nat.mul_add]
    exact (congrArg (· % 2 ^ 64) this).trans (by decide)
  · rw [Nat.mod_eq_of_lt (by omega : n + 1 < 2 ^ 48), Nat.mul_add]
theorem countTick_same (s : State) : Same 8 s (countTick s) := Same.setTick _ _
theorem countTick_sound (s : State) : Sound s (countTick s) := by
  refine ⟨rfl, fun h => ?_, id, id⟩
  show s.tick.startFrc + 65536000 = _
  rw [h]
  exact tick_mul _
theorem countOcc_same : ∀ o s, Same 32 s (countOcc o s) := by
  intro o s
  unfold countOcc
  try dsimp only
  repeat' (first
    | with_reducible exact Same.rfl' _ | (with_reducible refine Same.ite ?_ ?_) | (with_reducible refine Same.iteFst ?_ ?_)
    | ((with_reducible refine ((Same.setPrm _ _ ?_).mono (by decide)).after ?_); rfl) | split)
theorem countCycles_same : ∀ c s, Same 1056 s (countCycles c s) := by
  intro c s
  unfold countCycles
  try dsimp only
  repeat' (first
    | with_reducible exact Same.rfl' _ | (with_reducible refine Same.ite ?_ ?_) | (with_reducible refine Same.iteFst ?_ ?_)
    | (with_reducible refine ((pipeEvent_same ..).mono (by decide)).after ?_)
    | (with_reducible refine ((slEvent_same ..).mono (by decide)).after ?_)
    | (with_reducible refine ((bump32_same ..).mono (by decide)).after ?_)
    | (with_reducible refine ((adapt_same ..).mono (by decide)).after ?_) | split
    | (with_reducible refine Same.fst (by assumption) ?_))
theorem countIdle_same : ∀ s, Same 32 s (countIdle s) := by
  intro s
  unfold countIdle
  try dsimp only
  repeat' (first
    | with_reducible exact Same.rfl' _ | (with_reducible refine Same.ite ?_ ?_) | (with_reducible refine Same.iteFst ?_ ?_)
    | (with_reducible refine ((pipeEvent_same ..).mono (by decide)).after ?_)
    | (with_reducible refine (Same.foldl (fun _ _ => ?_) _ _).after ?_)
    | (with_reducible refine (Same.foldlFst (fun _ _ => ?_) _ _).after ?_) | split)
theorem openTick_same : ∀ f s, Same 394556 s (openTick f s) := by
  intro f s
  unfold openTick
  try dsimp only
  repeat' (first
    | with_reducible exact Same.rfl' _ | (with_reducible refine ((ailing_same ..).mono (by decide)).after ?_)
    | (with_reducible refine ((strike_same ..).mono (by decide)).after ?_)
    | (with_reducible refine ((settleGood_same ..).mono (by decide)).after ?_)
    | (with_reducible refine ((countBeat_same ..).mono (by decide)).after ?_)
    | (with_reducible refine ((countTick_same ..).mono (by decide)).after ?_)
    | (with_reducible refine ((countIdle_same ..).mono (by decide)).after ?_)
    | (with_reducible refine ((countCycles_same ..).mono (by decide)).after ?_)
    | (with_reducible refine ((countOcc_same ..).mono (by decide)).after ?_)
    | (with_reducible refine (Same.foldl (fun _ _ => ?_) _ _).after ?_)
    | (with_reducible refine (Same.foldlFst (fun _ _ => ?_) _ _).after ?_))
theorem openTick_sound : ∀ f s, Sound s (openTick f s) := by
  intro f s
  unfold openTick
  try dsimp only
  repeat' (first
    | with_reducible exact Sound.rfl' _ | (with_reducible refine ((ailing_same ..).sound (by decide)).after ?_)
    | (with_reducible refine ((strike_same ..).sound (by decide)).after ?_)
    | (with_reducible refine ((settleGood_same ..).sound (by decide)).after ?_)
    | (with_reducible refine ((countBeat_same ..).sound (by decide)).after ?_)
    | (with_reducible refine (countTick_sound ..).after ?_)
    | (with_reducible refine ((countIdle_same ..).sound (by decide)).after ?_)
    | (with_reducible refine ((countCycles_same ..).sound (by decide)).after ?_)
    | (with_reducible refine ((countOcc_same ..).sound (by decide)).after ?_)
    | (with_reducible refine (Sound.foldl (fun _ _ => ?_) _ _).after ?_)
    | (with_reducible refine (Sound.foldlFst (fun _ _ => ?_) _ _).after ?_))
theorem changeMode_same (m : Mode) (s : State) : Same 2097172 s (changeMode m s) :=
  ((Same.setSysMode s { s.sys with mode := m }).mono (by decide)).trans ((raise_same ..).mono (by decide))
theorem freeWheels_same : ∀ s, Same 262144 s (freeWheels s) := by
  intro s
  unfold freeWheels
  try dsimp only
  repeat' (first
    | with_reducible exact Same.rfl' _ | (with_reducible refine ((modSl_same ..).mono (by decide)).after ?_)
    | (with_reducible refine (Same.foldl (fun _ _ => ?_) _ _).after ?_)
    | (with_reducible refine (Same.foldlFst (fun _ _ => ?_) _ _).after ?_))
theorem disarmAll_same : ∀ s, Same 426036 s (disarmAll s) := by
  intro s
  unfold disarmAll
  try dsimp only
  repeat' (first
    | with_reducible exact Same.rfl' _ | (with_reducible refine Same.ite ?_ ?_) | (with_reducible refine Same.iteFst ?_ ?_)
    | (with_reducible refine ((commitRecord_same ..).mono (by decide)).after ?_)
    | (with_reducible refine ((freeWheels_same ..).mono (by decide)).after ?_)
    | (with_reducible refine (Same.foldl (fun _ _ => ?_) _ _).after ?_)
    | (with_reducible refine (Same.foldlFst (fun _ _ => ?_) _ _).after ?_) | split)
theorem toStandby_same : ∀ s, Same 2490388 s (toStandby s) := by
  intro s
  unfold toStandby
  try dsimp only
  repeat' (first
    | with_reducible exact Same.rfl' _ | (with_reducible refine Same.ite ?_ ?_) | (with_reducible refine Same.iteFst ?_ ?_)
    | (with_reducible refine ((freeWheels_same ..).mono (by decide)).after ?_)
    | (with_reducible refine ((changeMode_same ..).mono (by decide)).after ?_)
    | (with_reducible refine ((formPair_same ..).mono (by decide)).after ?_) | split)
theorem enterService_same : ∀ s, Same 2523188 s (enterService s) := by
  intro s
  unfold enterService
  try dsimp only
  repeat' (first
    | with_reducible exact Same.rfl' _ | (with_reducible refine Same.ite ?_ ?_) | (with_reducible refine Same.iteFst ?_ ?_)
    | (with_reducible refine ((toStandby_same ..).mono (by decide)).after ?_)
    | (with_reducible refine ((disarmAll_same ..).mono (by decide)).after ?_)
    | (with_reducible refine ((changeMode_same ..).mono (by decide)).after ?_) | split)
theorem leaveSafe_same : ∀ s, Same 2096438 s (leaveSafe s) := by
  intro s
  unfold leaveSafe
  try dsimp only
  repeat' (first
    | with_reducible exact Same.rfl' _ | (with_reducible refine ((nameRejoin_same ..).mono (by decide)).after ?_)
    | (with_reducible refine ((Same.setZal _ _).mono (by decide)).after ?_)
    | (with_reducible refine ((raise_same ..).mono (by decide)).after ?_)
    | (with_reducible refine ((Same.setTwin _ _).mono (by decide)).after ?_)
    | (with_reducible refine (Same.foldl (fun _ _ => ?_) _ _).after ?_)
    | (with_reducible refine (Same.foldlFst (fun _ _ => ?_) _ _).after ?_))
theorem enterConfigure_same : ∀ s, Same 4193590 s (enterConfigure s) := by
  intro s
  unfold enterConfigure
  try dsimp only
  repeat' (first
    | with_reducible exact Same.rfl' _ | (with_reducible refine Same.ite ?_ ?_) | (with_reducible refine Same.iteFst ?_ ?_)
    | (with_reducible refine ((leaveSafe_same ..).mono (by decide)).after ?_)
    | (with_reducible refine ((beginHandover_same ..).mono (by decide)).after ?_)
    | (with_reducible refine ((denyPunts_same ..).mono (by decide)).after ?_)
    | (with_reducible refine ((changeMode_same ..).mono (by decide)).after ?_) | split)
theorem answerMode_same : ∀ q st s, Same 526386 s (answerMode q st s) := by
  intro q st s
  unfold answerMode
  try dsimp only
  repeat' (first
    | with_reducible exact Same.rfl' _ | (with_reducible refine Same.ite ?_ ?_) | (with_reducible refine Same.iteFst ?_ ?_)
    | (with_reducible refine ((sendAt_same ..).mono (by decide)).after ?_)
    | (with_reducible refine ((endOp_same ..).mono (by decide)).after ?_) | split)
theorem applyMode_same : ∀ s, Same 4193590 s (applyMode s) := by
  intro s
  unfold applyMode
  try dsimp only
  repeat' (first
    | with_reducible exact Same.rfl' _ | (with_reducible refine Same.ite ?_ ?_) | (with_reducible refine Same.iteFst ?_ ?_)
    | ((with_reducible refine ((Same.setSys _ _ ?_).mono (by decide)).after ?_); rfl)
    | (with_reducible refine ((answerMode_same ..).mono (by decide)).after ?_)
    | (with_reducible refine ((enterConfigure_same ..).mono (by decide)).after ?_)
    | (with_reducible refine ((enterService_same ..).mono (by decide)).after ?_)
    | (with_reducible refine ((changeMode_same ..).mono (by decide)).after ?_) | split
    | (with_reducible refine Same.fst (by assumption) ?_))
theorem cancelMode_same : ∀ s, Same 526390 s (cancelMode s) := by
  intro s
  unfold cancelMode
  try dsimp only
  repeat' (first
    | with_reducible exact Same.rfl' _ | (with_reducible refine ((answerMode_same ..).mono (by decide)).after ?_)
    | ((with_reducible refine ((Same.setSys _ _ ?_).mono (by decide)).after ?_); rfl)
    | (with_reducible refine ((endOp_same ..).mono (by decide)).after ?_) | split
    | (with_reducible refine Same.fst (by assumption) ?_))
theorem enterSafe_same : ∀ s, Same 3124534 s (enterSafe s) := by
  intro s
  unfold enterSafe
  try dsimp only
  repeat' (first
    | with_reducible exact Same.rfl' _ | (with_reducible refine Same.ite ?_ ?_) | (with_reducible refine Same.iteFst ?_ ?_)
    | (with_reducible refine ((changeMode_same ..).mono (by decide)).after ?_)
    | (with_reducible refine ((cancelMode_same ..).mono (by decide)).after ?_)
    | (with_reducible refine ((Same.setZal _ _).mono (by decide)).after ?_)
    | (with_reducible refine ((Same.setTwin _ _).mono (by decide)).after ?_)
    | (with_reducible refine ((raise_same ..).mono (by decide)).after ?_)
    | (with_reducible refine ((bump32_same ..).mono (by decide)).after ?_)
    | (with_reducible refine ((stopTraffic_same ..).mono (by decide)).after ?_)
    | (with_reducible refine ((denyPunts_same ..).mono (by decide)).after ?_) | split)
theorem stepSafe_same : ∀ s, Same 3124534 s (stepSafe s) := by
  intro s
  unfold stepSafe
  try dsimp only
  repeat' (first
    | with_reducible exact Same.rfl' _ | (with_reducible refine Same.ite ?_ ?_) | (with_reducible refine Same.iteFst ?_ ?_)
    | (with_reducible refine ((enterSafe_same ..).mono (by decide)).after ?_)
    | (with_reducible refine ((Same.setZal _ _).mono (by decide)).after ?_) | split)
theorem stepTakeover_same : ∀ s, Same 3120438 s (stepTakeover s) := by
  intro s
  unfold stepTakeover
  try dsimp only
  repeat' (first
    | with_reducible exact Same.rfl' _ | (with_reducible refine Same.ite ?_ ?_) | (with_reducible refine Same.iteFst ?_ ?_)
    | (with_reducible refine ((Same.setTwin _ _).mono (by decide)).after ?_)
    | (with_reducible refine ((changeMode_same ..).mono (by decide)).after ?_)
    | (with_reducible refine ((takeOver_same ..).mono (by decide)).after ?_) | split
    | (with_reducible refine Same.fst (by assumption) ?_))
theorem startHandover_same : ∀ h toConfigure s, Same 2490388 s (startHandover h toConfigure s) := by
  intro h toConfigure s
  unfold startHandover
  try dsimp only
  repeat' (first
    | with_reducible exact Same.rfl' _ | (with_reducible refine Same.ite ?_ ?_) | (with_reducible refine Same.iteFst ?_ ?_)
    | (with_reducible refine ((toStandby_same ..).mono (by decide)).after ?_)
    | (with_reducible refine ((beginHandover_same ..).mono (by decide)).after ?_)
    | (with_reducible refine ((complete_same ..).mono (by decide)).after ?_) | split)
theorem unitChange_same : ∀ rx d s, Same 2096438 s (unitChange rx d s) := by
  intro rx d s
  unfold unitChange
  try dsimp only
  repeat' (first
    | with_reducible exact Same.rfl' _ | (with_reducible refine Same.ite ?_ ?_) | (with_reducible refine Same.iteFst ?_ ?_)
    | (with_reducible refine ((sendAt_same ..).mono (by decide)).after ?_)
    | (with_reducible refine ((switchOut_same ..).mono (by decide)).after ?_)
    | (with_reducible refine ((toRejoin_same ..).mono (by decide)).after ?_)
    | (with_reducible refine ((defer_same ..).mono (by decide)).after ?_)
    | (with_reducible refine ((channelOut_same ..).mono (by decide)).after ?_) | split
    | (with_reducible refine Same.fst (by assumption) ?_))
theorem unitWork_same : ∀ u s, Same 2096438 s (unitWork u s) := by
  intro u s
  unfold unitWork
  try dsimp only
  repeat' (first
    | with_reducible exact Same.rfl' _ | (with_reducible refine Same.ite ?_ ?_) | (with_reducible refine Same.iteFst ?_ ?_)
    | (with_reducible refine ((raise_same ..).mono (by decide)).after ?_)
    | (with_reducible refine ((switchIn_same ..).mono (by decide)).after ?_)
    | (with_reducible refine ((toRejoin_same ..).mono (by decide)).after ?_) | split
    | (with_reducible refine Same.fst (by assumption) ?_))
theorem stepUnits_same : ∀ rx ds s, Same 2096438 s (stepUnits rx ds s) := by
  intro rx ds s
  unfold stepUnits
  try dsimp only
  repeat' (first
    | with_reducible exact Same.rfl' _ | (with_reducible refine ((unitChange_same ..).mono (by decide)).after ?_)
    | (with_reducible refine ((unitWork_same ..).mono (by decide)).after ?_)
    | (with_reducible refine (Same.foldl (fun _ _ => ?_) _ _).after ?_)
    | (with_reducible refine (Same.foldlFst (fun _ _ => ?_) _ _).after ?_))
theorem followUnits_same : ∀ rx ds s, Same 4193590 s (followUnits rx ds s) := by
  intro rx ds s
  unfold followUnits
  try dsimp only
  repeat' (first
    | with_reducible exact Same.rfl' _ | (with_reducible refine Same.ite ?_ ?_) | (with_reducible refine Same.iteFst ?_ ?_)
    | (with_reducible refine ((stepUnits_same ..).mono (by decide)).after ?_)
    | (with_reducible refine ((changeMode_same ..).mono (by decide)).after ?_) | split)
theorem stepModes_same : ∀ rx ds s, Same 4193590 s (stepModes rx ds s) := by
  intro rx ds s
  unfold stepModes
  try dsimp only
  repeat' (first
    | with_reducible exact Same.rfl' _ | (with_reducible refine Same.ite ?_ ?_) | (with_reducible refine Same.iteFst ?_ ?_)
    | (with_reducible refine ((applyMode_same ..).mono (by decide)).after ?_)
    | (with_reducible refine ((sendAt_same ..).mono (by decide)).after ?_)
    | (with_reducible refine ((startHandover_same ..).mono (by decide)).after ?_)
    | (with_reducible refine ((followUnits_same ..).mono (by decide)).after ?_)
    | (with_reducible refine ((toStandby_same ..).mono (by decide)).after ?_)
    | (with_reducible refine (Same.foldl (fun _ _ => ?_) _ _).after ?_)
    | (with_reducible refine (Same.foldlFst (fun _ _ => ?_) _ _).after ?_) | split
    | (with_reducible refine Same.fst (by assumption) ?_))
theorem stepSelect_same : ∀ ds s, Same 542770 s (stepSelect ds s) := by
  intro ds s
  unfold stepSelect
  try dsimp only
  repeat' (first
    | with_reducible exact Same.rfl' _ | (with_reducible refine ((applySelect_same ..).mono (by decide)).after ?_)
    | (with_reducible refine (Same.foldl (fun _ _ => ?_) _ _).after ?_)
    | (with_reducible refine (Same.foldlFst (fun _ _ => ?_) _ _).after ?_) | split
    | (with_reducible refine Same.fst (by assumption) ?_))
theorem stepMasks_same : ∀ ds s, Same 526386 s (stepMasks ds s) := by
  intro ds s
  unfold stepMasks
  try dsimp only
  repeat' (first
    | with_reducible exact Same.rfl' _ | (with_reducible refine ((sendAt_same ..).mono (by decide)).after ?_)
    | (with_reducible refine ((applyBankMask_same ..).mono (by decide)).after ?_)
    | (with_reducible refine ((applyGraphSwitch_same ..).mono (by decide)).after ?_)
    | (with_reducible refine ((applyProfileSwitch_same ..).mono (by decide)).after ?_)
    | (with_reducible refine (Same.foldl (fun _ _ => ?_) _ _).after ?_)
    | (with_reducible refine (Same.foldlFst (fun _ _ => ?_) _ _).after ?_) | split
    | (with_reducible refine Same.fst (by assumption) ?_))
theorem applyOther_same : ∀ rx c s, Same 9416054 s (applyOther rx c s) := by
  intro rx c s
  unfold applyOther
  try dsimp only
  repeat' (first
    | with_reducible exact Same.rfl' _ | (with_reducible refine ((applyWord_same ..).mono (by decide)).after ?_)
    | (with_reducible refine ((applyProg_same ..).mono (by decide)).after ?_)
    | (with_reducible refine ((applyTemplates_same ..).mono (by decide)).after ?_)
    | (with_reducible refine ((qpStart_same ..).mono (by decide)).after ?_)
    | (with_reducible refine ((applyPool_same ..).mono (by decide)).after ?_)
    | (with_reducible refine ((recordFault_same ..).mono (by decide)).after ?_)
    | (with_reducible refine ((Same.setCal _ _).mono (by decide)).after ?_)
    | ((with_reducible refine ((Same.setSys _ _ ?_).mono (by decide)).after ?_); rfl) | split
    | (with_reducible refine Same.fst (by assumption) ?_))
theorem stepOther_same : ∀ rx ds s, Same 9416054 s (stepOther rx ds s) := by
  intro rx ds s
  unfold stepOther
  try dsimp only
  repeat' (first
    | with_reducible exact Same.rfl' _ | (with_reducible refine Same.ite ?_ ?_) | (with_reducible refine Same.iteFst ?_ ?_)
    | (with_reducible refine ((sendAt_same ..).mono (by decide)).after ?_)
    | (with_reducible refine ((applyOther_same ..).mono (by decide)).after ?_)
    | (with_reducible refine (Same.foldl (fun _ _ => ?_) _ _).after ?_)
    | (with_reducible refine (Same.foldlFst (fun _ _ => ?_) _ _).after ?_) | split)
theorem reloadSlice_same : ∀ n s, Same 262144 s (reloadSlice n s) := by
  intro n s
  unfold reloadSlice
  try dsimp only
  repeat' (first
    | with_reducible exact Same.rfl' _ | (with_reducible refine ((modSl_same ..).mono (by decide)).after ?_))
theorem reloadPipe_same : ∀ p s, Same 2048 s (reloadPipe p s) := by
  intro p s
  unfold reloadPipe
  try dsimp only
  repeat' (first
    | with_reducible exact Same.rfl' _ | (with_reducible refine ((setPipe_same ..).mono (by decide)).after ?_))
theorem freeHost_same : ∀ n s, Same 1058 s (freeHost n s) := by
  intro n s
  unfold freeHost
  try dsimp only
  repeat' (first
    | with_reducible exact Same.rfl' _ | (with_reducible refine Same.ite ?_ ?_) | (with_reducible refine Same.iteFst ?_ ?_)
    | (with_reducible refine ((settlePause_same ..).mono (by decide)).after ?_)
    | (with_reducible refine ((setPort_same ..).mono (by decide)).after ?_)
    | (with_reducible refine (Same.foldl (fun _ _ => ?_) _ _).after ?_)
    | (with_reducible refine (Same.foldlFst (fun _ _ => ?_) _ _).after ?_) | split)
theorem closePeriod_same : ∀ s, Same 4096 s (closePeriod s) := by
  intro s
  unfold closePeriod
  try dsimp only
  repeat' (first
    | with_reducible exact Same.rfl' _ | (with_reducible refine Same.ite ?_ ?_) | (with_reducible refine Same.iteFst ?_ ?_)
    | (with_reducible refine ((closeLoads_same ..).mono (by decide)).after ?_) | split)
theorem endDual_same : ∀ p s, Same 2048 s (endDual p s) := by
  intro p s
  unfold endDual
  try dsimp only
  repeat' (first
    | with_reducible exact Same.rfl' _ | (with_reducible refine Same.ite ?_ ?_) | (with_reducible refine Same.iteFst ?_ ?_)
    | (with_reducible refine ((setFwd_same ..).mono (by decide)).after ?_) | split)
theorem stepBudgets_same : ∀ s, Same 1031222 s (stepBudgets s) := by
  intro s
  unfold stepBudgets
  try dsimp only
  repeat' (first
    | with_reducible exact Same.rfl' _ | (with_reducible refine ((reloadLink_same ..).mono (by decide)).after ?_)
    | (with_reducible refine ((reloadChans_same ..).mono (by decide)).after ?_)
    | (with_reducible refine ((reloadSlice_same ..).mono (by decide)).after ?_)
    | (with_reducible refine ((endDual_same ..).mono (by decide)).after ?_)
    | (with_reducible refine ((reloadPipe_same ..).mono (by decide)).after ?_)
    | (with_reducible refine ((freeHost_same ..).mono (by decide)).after ?_)
    | (with_reducible refine ((Same.setPorts _ _).mono (by decide)).after ?_)
    | (with_reducible refine ((mirrorAudits_same ..).mono (by decide)).after ?_)
    | (with_reducible refine ((flushHeads_same ..).mono (by decide)).after ?_)
    | (with_reducible refine ((closePeriod_same ..).mono (by decide)).after ?_)
    | (with_reducible refine ((governTick_same ..).mono (by decide)).after ?_)
    | (with_reducible refine (Same.foldl (fun _ _ => ?_) _ _).after ?_)
    | (with_reducible refine (Same.foldlFst (fun _ _ => ?_) _ _).after ?_))
theorem stepDelays_same : ∀ s, Same 4128 s (stepDelays s) := by
  intro s
  unfold stepDelays
  try dsimp only
  repeat' (first
    | with_reducible exact Same.rfl' _ | (with_reducible refine Same.ite ?_ ?_) | (with_reducible refine Same.iteFst ?_ ?_)
    | (with_reducible refine ((advanceDelays_same ..).mono (by decide)).after ?_)
    | (with_reducible refine (Same.foldl (fun _ _ => ?_) _ _).after ?_)
    | (with_reducible refine (Same.foldlFst (fun _ _ => ?_) _ _).after ?_) | split)
theorem stepBeat_same : ∀ s, Same 134178 s (stepBeat s) := by
  intro s
  unfold stepBeat
  try dsimp only
  repeat' (first
    | with_reducible exact Same.rfl' _ | (with_reducible refine ((sendDeltas_same ..).mono (by decide)).after ?_)
    | (with_reducible refine ((twinBeat_same ..).mono (by decide)).after ?_)
    | (with_reducible refine ((crossPump_same ..).mono (by decide)).after ?_)
    | (with_reducible refine (Same.foldl (fun _ _ => ?_) _ _).after ?_)
    | (with_reducible refine (Same.foldlFst (fun _ _ => ?_) _ _).after ?_))
theorem tickBoundary_same (f : TickFound) (s : State) : Same 12582270 s (tickBoundary f s) := by
  unfold tickBoundary
  refine Same.ite (Same.rfl' _) ?_
  extract_lets s1 ds q s2 s3 s4
  have h1 : Same 12582270 s s1 := (openTick_same ..).mono (by decide)
  clear_value s1
  have h2 : Same 12582270 s s2 := h1.trans ((show Same 4 s1 s2 from Same.setSys _ _ rfl).mono (by decide))
  clear_value s2
  have h3 : Same 12582270 s s3 := h2.trans (((stepSafe_same ..).mono (by decide)).trans
    (((stepTakeover_same ..).mono (by decide)).trans ((stepModes_same ..).mono (by decide))))
  have h4 : Same 12582270 s s4 := h3.trans (((stepUnits_same ..).mono (by decide)).trans
    (((stepSelect_same ..).mono (by decide)).trans ((stepMasks_same ..).mono (by decide))))
  exact h4.trans ((((stepOther_same ..).mono (by decide)).trans ((stepBudgets_same ..).mono (by decide))).trans
    (((stepDelays_same ..).mono (by decide)).trans ((stepBeat_same ..).mono (by decide))))
theorem tickBoundary_sound (f : TickFound) (s : State) : Sound s (tickBoundary f s) := by
  unfold tickBoundary
  refine Sound.ite (Sound.rfl' _) ?_
  extract_lets s1 ds q s2 s3 s4
  have h1 : Sound s s1 := openTick_sound ..
  clear_value s1
  have h2 : Sound s s2 := h1.trans ((show Same 4 s1 s2 from Same.setSys _ _ rfl).sound (by decide))
  clear_value s2
  have h3 : Sound s s3 := h2.trans (((stepSafe_same ..).sound (by decide)).trans
    (((stepTakeover_same ..).sound (by decide)).trans ((stepModes_same ..).sound (by decide))))
  have h4 : Sound s s4 := h3.trans (((stepUnits_same ..).sound (by decide)).trans
    (((stepSelect_same ..).sound (by decide)).trans ((stepMasks_same ..).sound (by decide))))
  exact h4.trans ((((stepOther_same ..).sound (by decide)).trans ((stepBudgets_same ..).sound (by decide))).trans
    (((stepDelays_same ..).sound (by decide)).trans ((stepBeat_same ..).sound (by decide))))
theorem execTickBoundary_same : ∀ f s t, execTickBoundary f s = .next t → Same 12582270 s t := by
  intro f s t h
  injection h with h
  subst h
  try dsimp only
  repeat' (first
    | with_reducible exact Same.rfl' _ | (with_reducible refine ((tickBoundary_same ..).mono (by decide)).after ?_))
theorem execTickBoundary_sound : ∀ f s t, execTickBoundary f s = .next t → Sound s t := by
  intro f s t h
  injection h with h
  subst h
  try dsimp only
  repeat' (first
    | with_reducible exact Sound.rfl' _ | (with_reducible refine (tickBoundary_sound ..).after ?_))

/-! ### Messages -/

theorem bodyOf_same (op : Nat) (r : Req) (s : State) : Same 10485238 s (bodyOf op r s).1 := by
  unfold bodyOf
  split
  · exact (bodySessionOpen_same ..).mono (by decide)
  · exact (bodySessionClose_same ..).mono (by decide)
  · exact (bodySessionPing_same ..).mono (by decide)
  · exact (bodySessionQuery_same ..).mono (by decide)
  · exact (bodyCommandVersions_same ..).mono (by decide)
  · exact (bodyEventSubscribe_same ..).mono (by decide)
  · exact (bodyHandleQuery_same ..).mono (by decide)
  · exact (bodyHandleCancel_same ..).mono (by decide)
  · exact (bodyHandleRelease_same ..).mono (by decide)
  · exact (bodyAuditRead_same ..).mono (by decide)
  · exact (bodyStageWrite_same ..).mono (by decide)
  · exact (bodyParamRead_same ..).mono (by decide)
  · exact (bodyParamWrite_same ..).mono (by decide)
  · exact (bodyParamReadBlock_same ..).mono (by decide)
  · exact (bodyQueueCreate_same ..).mono (by decide)
  · exact (bodyQueueDestroy_same ..).mono (by decide)
  · exact (bodyQueueDisable_same ..).mono (by decide)
  · exact (bodyQueueEnable_same ..).mono (by decide)
  · exact (bodyQueueQuery_same ..).mono (by decide)
  · exact (bodyQpCreate_same ..).mono (by decide)
  · exact (bodyQpRestart_same ..).mono (by decide)
  · exact (bodyQpDestroy_same ..).mono (by decide)
  · exact (bodyQpQuery_same ..).mono (by decide)
  · exact (bodyHregionAdd_same ..).mono (by decide)
  · exact (bodyHregionRemove_same ..).mono (by decide)
  · exact (bodyHregionRead_same ..).mono (by decide)
  · exact (bodyGraphLoad_same ..).mono (by decide)
  · exact (bodyGraphSwitch_same ..).mono (by decide)
  · exact (bodyProfileLoad_same ..).mono (by decide)
  · exact (bodyProfileSwitch_same ..).mono (by decide)
  · exact (bodyBankmaskCommit_same ..).mono (by decide)
  · exact (bodyRuleWrite_same ..).mono (by decide)
  · exact (bodyRuleInsert_same ..).mono (by decide)
  · exact (bodyRuleDelete_same ..).mono (by decide)
  · exact (bodyRuleRead_same ..).mono (by decide)
  · exact (bodyBankClear_same ..).mono (by decide)
  · exact (bodyTableWrite_same ..).mono (by decide)
  · exact (bodyTableDelete_same ..).mono (by decide)
  · exact (bodyTableRead_same ..).mono (by decide)
  · exact (bodyL2Flush_same ..).mono (by decide)
  · exact (bodyRehash_same ..).mono (by decide)
  · exact (bodyFlowRead_same ..).mono (by decide)
  · exact (bodyFlowWrite_same ..).mono (by decide)
  · exact (bodyFlowModify_same ..).mono (by decide)
  · exact (bodyFlowDelete_same ..).mono (by decide)
  · exact (bodyFlowSweep_same ..).mono (by decide)
  · exact (bodyFlowPuntRelease_same ..).mono (by decide)
  · exact (bodyFlowRepin_same ..).mono (by decide)
  · exact (bodyTurfEvacuate_same ..).mono (by decide)
  · exact (bodyPoolDefine_same ..).mono (by decide)
  · exact (bodyPoolDelete_same ..).mono (by decide)
  · exact (bodyPoolRead_same ..).mono (by decide)
  · exact (bodyFlowProgLoad_same ..).mono (by decide)
  · exact (bodyFlowTemplateWrite_same ..).mono (by decide)
  · exact (bodyFlowTemplateRead_same ..).mono (by decide)
  · exact (bodyFlowProgRead_same ..).mono (by decide)
  · exact (bodyTimeQuery_same ..).mono (by decide)
  · exact (bodyDomainSeed_same ..).mono (by decide)
  · exact (bodyDomainRate_same ..).mono (by decide)
  · exact (bodyDomainReseed_same ..).mono (by decide)
  · exact (bodyDomainSelect_same ..).mono (by decide)
  · exact (bodyDomainSetsRead_same ..).mono (by decide)
  · exact (bodyStampConvert_same ..).mono (by decide)
  · exact (bodyTsiRead_same ..).mono (by decide)
  · exact (bodyTwinQuery_same ..).mono (by decide)
  · exact (bodyTwinHandover_same ..).mono (by decide)
  · exact (bodyTwinResync_same ..).mono (by decide)
  · exact (bodyTwinSplitResolve_same ..).mono (by decide)
  · exact (bodySafetyQuery_same ..).mono (by decide)
  · exact (bodySafetyLogRead_same ..).mono (by decide)
  · exact (bodySafetySelftest_same ..).mono (by decide)
  · exact (bodyCalRead_same ..).mono (by decide)
  · exact (bodyCalWrite_same ..).mono (by decide)
  · exact (bodyCalRun_same ..).mono (by decide)
  · exact (bodyFwStage_same ..).mono (by decide)
  · exact (bodyFwQuery_same ..).mono (by decide)
  · exact (bodyMemErrlogRead_same ..).mono (by decide)
  · exact (bodyModeQuery_same ..).mono (by decide)
  · exact (bodyModeSet_same ..).mono (by decide)
  · exact (bodyResume_same ..).mono (by decide)
  · exact (bodySafeEnter_same ..).mono (by decide)
  · exact (bodyUnitOut_same ..).mono (by decide)
  · exact (bodyUnitRejoin_same ..).mono (by decide)
  · exact (bodyChannelDown_same ..).mono (by decide)
  · exact Same.rfl' _
theorem runMessage_same (k : Nat) (r : Req) (b : List Byte) (s : State) : Same 10485238 s (runMessage k r b s) := by
  unfold runMessage
  extract_lets op r'
  split
  · exact Same.ite ((finish_same ..).mono (by decide)) (Same.rfl' _)
  · exact runToune_same _ _ (by decide) (fun _ _ => (bodyOf_same ..).mono (by decide)) _ _
theorem mailboxRequest_same : ∀ c data s, Same 10485238 s (mailboxRequest c data s) := by
  intro c data s
  unfold mailboxRequest
  try dsimp only
  repeat' (first
    | with_reducible exact Same.rfl' _ | (with_reducible refine Same.ite ?_ ?_) | (with_reducible refine Same.iteFst ?_ ?_)
    | ((with_reducible refine ((Same.setHost _ _ ?_ ?_).mono (by decide)).after ?_); rfl; rfl)
    | (with_reducible refine ((raiseLimited_same ..).mono (by decide)).after ?_)
    | (with_reducible refine ((bump48_same ..).mono (by decide)).after ?_)
    | (with_reducible refine ((setSlot_same ..).mono (by decide)).after ?_)
    | (with_reducible refine ((runMessage_same ..).mono (by decide)).after ?_) | split
    | (with_reducible refine Same.fst (by assumption) ?_))
theorem takeMc_same : ∀ n f s, Same 2048 s (takeMc n f s) := by
  intro n f s
  unfold takeMc
  try dsimp only
  repeat' (first
    | with_reducible exact Same.rfl' _ | (with_reducible refine ((Same.setPath _ _).mono (by decide)).after ?_))
theorem bootFrameRx_same : ∀ n c f data s, Same 10485238 s (bootFrameRx n c f data s) := by
  intro n c f data s
  unfold bootFrameRx
  try dsimp only
  repeat' (first
    | with_reducible exact Same.rfl' _ | (with_reducible refine Same.ite ?_ ?_) | (with_reducible refine Same.iteFst ?_ ?_)
    | (with_reducible refine ((takeMc_same ..).mono (by decide)).after ?_)
    | (with_reducible refine ((bump48_same ..).mono (by decide)).after ?_)
    | (with_reducible refine ((sendBoot_same ..).mono (by decide)).after ?_)
    | (with_reducible refine ((runMessage_same ..).mono (by decide)).after ?_)
    | (with_reducible refine ((setSlot_same ..).mono (by decide)).after ?_) | split
    | (with_reducible refine Same.fst (by assumption) ?_))
theorem endJob_same : ∀ q pos st s, Same 524288 s (endJob q pos st s) := by
  intro q pos st s
  unfold endJob
  try dsimp only
  repeat' (first
    | with_reducible exact Same.rfl' _ | (with_reducible refine ((modJob_same ..).mono (by decide)).after ?_))
theorem injectDirect_same : ∀ e f job s, Same 101430 s (injectDirect e f job s) := by
  intro e f job s
  unfold injectDirect
  try dsimp only
  repeat' (first
    | with_reducible exact Same.rfl' _ | (with_reducible refine Same.ite ?_ ?_) | (with_reducible refine Same.iteFst ?_ ?_)
    | (with_reducible refine ((safeDiscard_same ..).mono (by decide)).after ?_)
    | (with_reducible refine ((egressFinal_same ..).mono (by decide)).after ?_)
    | (with_reducible refine ((newPkt_same ..).mono (by decide)).after ?_) | split)
theorem startInject_same : ∀ q pos e data s, Same 625718 s (startInject q pos e data s) := by
  intro q pos e data s
  unfold startInject
  try dsimp only
  repeat' (first
    | with_reducible exact Same.rfl' _ | (with_reducible refine Same.ite ?_ ?_) | (with_reducible refine Same.iteFst ?_ ?_)
    | (with_reducible refine ((endJob_same ..).mono (by decide)).after ?_)
    | (with_reducible refine ((bulk_same ..).mono (by decide)).after ?_)
    | (with_reducible refine ((Same.setPath _ _).mono (by decide)).after ?_)
    | (with_reducible refine ((injectDirect_same ..).mono (by decide)).after ?_) | split
    | (with_reducible refine Same.fst (by assumption) ?_))
theorem runJob_same : ∀ q c pos es data s, Same 10485238 s (runJob q c pos es data s) := by
  intro q c pos es data s
  unfold runJob
  try dsimp only
  repeat' (first
    | with_reducible exact Same.rfl' _ | (with_reducible refine Same.ite ?_ ?_) | (with_reducible refine Same.iteFst ?_ ?_)
    | (with_reducible refine ((endJob_same ..).mono (by decide)).after ?_)
    | (with_reducible refine ((runMessage_same ..).mono (by decide)).after ?_)
    | (with_reducible refine ((startInject_same ..).mono (by decide)).after ?_) | split
    | (with_reducible refine Same.fst (by assumption) ?_))
theorem jobStart_same : ∀ q c data s, Same 10485238 s (jobStart q c data s) := by
  intro q c data s
  unfold jobStart
  try dsimp only
  repeat' (first
    | with_reducible exact Same.rfl' _ | (with_reducible refine Same.ite ?_ ?_) | (with_reducible refine Same.iteFst ?_ ?_)
    | (with_reducible refine ((setHq_same ..).mono (by decide)).after ?_)
    | (with_reducible refine ((runJob_same ..).mono (by decide)).after ?_)
    | (with_reducible refine ((endJob_same ..).mono (by decide)).after ?_) | split
    | (with_reducible refine Same.fst (by assumption) ?_))
theorem execMailboxRequest_same : ∀ c data s t, execMailboxRequest c data s = .next t → Same 10485238 s t := by
  intro c data s t h
  injection h with h
  subst h
  try dsimp only
  repeat' (first
    | with_reducible exact Same.rfl' _ | (with_reducible refine ((mailboxRequest_same ..).mono (by decide)).after ?_))
theorem execBootFrameRx_same : ∀ n c f data s t, execBootFrameRx n c f data s = .next t → Same 10485238 s t := by
  intro n c f data s t h
  injection h with h
  subst h
  try dsimp only
  repeat' (first
    | with_reducible exact Same.rfl' _ | (with_reducible refine ((bootFrameRx_same ..).mono (by decide)).after ?_))
theorem execJobStart_same : ∀ q c data s t, execJobStart q c data s = .next t → Same 10485238 s t := by
  intro q c data s t h
  injection h with h
  subst h
  try dsimp only
  repeat' (first
    | with_reducible exact Same.rfl' _ | (with_reducible refine ((jobStart_same ..).mono (by decide)).after ?_))

/-! ### Service -/

theorem flowPunted_same : ∀ n d s, Same 16 s (flowPunted n d s) := by
  intro n d s
  unfold flowPunted
  try dsimp only
  repeat' (first
    | with_reducible exact Same.rfl' _ | (with_reducible refine Same.ite ?_ ?_) | (with_reducible refine Same.iteFst ?_ ?_)
    | (with_reducible refine ((raise_same ..).mono (by decide)).after ?_) | split
    | (with_reducible refine Same.fst (by assumption) ?_))
theorem runWork_same : ∀ d fw w s, Same 22580 s (runWork d fw w s) := by
  intro d fw w s
  unfold runWork
  try dsimp only
  repeat' (first
    | with_reducible exact Same.rfl' _ | (with_reducible refine Same.ite ?_ ?_) | (with_reducible refine Same.iteFst ?_ ?_)
    | (with_reducible refine ((flowPunted_same ..).mono (by decide)).after ?_)
    | (with_reducible refine ((postAt_same ..).mono (by decide)).after ?_)
    | (with_reducible refine ((learnSync_same ..).mono (by decide)).after ?_)
    | (with_reducible refine ((Same.setToune _ _).mono (by decide)).after ?_)
    | (with_reducible refine ((rehashStart_same ..).mono (by decide)).after ?_)
    | (with_reducible refine ((servoStep_same ..).mono (by decide)).after ?_) | split
    | (with_reducible refine Same.fst (by assumption) ?_))
theorem scDispatch_same : ∀ d fw s, Same 22580 s (scDispatch d fw s) := by
  intro d fw s
  unfold scDispatch
  try dsimp only
  repeat' (first
    | with_reducible exact Same.rfl' _ | (with_reducible refine Same.ite ?_ ?_) | (with_reducible refine Same.iteFst ?_ ?_)
    | (with_reducible refine ((dispatch_same ..).mono (by decide)).after ?_)
    | (with_reducible refine ((runWork_same ..).mono (by decide)).after ?_) | split
    | (with_reducible refine Same.fst (by assumption) ?_))
theorem execScDispatch_same : ∀ d fw s t, execScDispatch d fw s = .next t → Same 22580 s t := by
  intro d fw s t h
  injection h with h
  subst h
  try dsimp only
  repeat' (first
    | with_reducible exact Same.rfl' _ | (with_reducible refine ((scDispatch_same ..).mono (by decide)).after ?_))

/-! ### Start -/

theorem afterReset_same (s : State) : Same 16777214 s (afterReset s) :=
  ⟨fun _ => rfl, fun q => absurd q (by decide), fun q => absurd q (by decide), fun q => absurd q (by decide), fun q => absurd q (by decide), fun q => absurd q (by decide), fun q => absurd q (by decide), fun q => absurd q (by decide), fun q => absurd q (by decide), fun q => absurd q (by decide), fun q => absurd q (by decide), fun q => absurd q (by decide), fun q => absurd q (by decide), fun q => absurd q (by decide), fun q => absurd q (by decide), fun q => absurd q (by decide), fun q => absurd q (by decide), fun q => absurd q (by decide), fun q => absurd q (by decide), fun q => absurd q (by decide), fun q => absurd q (by decide), fun q => absurd q (by decide), fun q => absurd q (by decide), fun q => absurd q (by decide), 
    fun _ => ⟨rfl, rfl⟩⟩
theorem afterReset_sound (s : State) : Sound s (afterReset s) :=
  ⟨rfl, fun _ => rfl, fun _ => ⟨Nat.zero_le _, Nat.zero_le _⟩, fun _ => ⟨rfl, rfl⟩⟩
theorem resetAssert_same : ∀ ns s, Same 16777214 s (resetAssert ns s) := by
  intro ns s
  unfold resetAssert
  try dsimp only
  repeat' (first
    | with_reducible exact Same.rfl' _ | (with_reducible refine Same.ite ?_ ?_) | (with_reducible refine Same.iteFst ?_ ?_)
    | (with_reducible refine ((afterReset_same ..).mono (by decide)).after ?_)
    | (with_reducible refine ((drawn_same ..).mono (by decide)).after ?_) | split)
theorem resetAssert_sound : ∀ ns s, Sound s (resetAssert ns s) := by
  intro ns s
  unfold resetAssert
  try dsimp only
  repeat' (first
    | with_reducible exact Sound.rfl' _ | (with_reducible refine Sound.ite ?_ ?_)
    | (with_reducible refine Sound.iteFst ?_ ?_) | (with_reducible refine (afterReset_sound ..).after ?_)
    | (with_reducible refine ((drawn_same ..).sound (by decide)).after ?_) | split)
theorem resetRelease_same (m : BitVec 2) (r : Bool) (s : State) : Same 2097428 s (resetRelease m r s) := by
  unfold resetRelease
  refine Same.ite (Same.rfl' _) ?_
  extract_lets q s1 p s2
  have h1 : Same 2097428 s s1 := (Same.setSysMode _ _).mono (by decide)
  have h2 : Same 2097428 s s2 := h1.trans ((Same.setZal _ _).mono (by decide))
  exact h2.trans ((raise_same ..).mono (by decide))
theorem modKindling_same : ∀ f s, Same 4 s (modKindling f s) := by
  intro f s
  unfold modKindling
  try dsimp only
  repeat' (first
    | with_reducible exact Same.rfl' _ | ((with_reducible refine ((Same.setSys _ _ ?_).mono (by decide)).after ?_); rfl))
theorem stepFail_same : ∀ step cls inst s, Same 16 s (stepFail step cls inst s) := by
  intro step cls inst s
  unfold stepFail
  try dsimp only
  repeat' (first
    | with_reducible exact Same.rfl' _ | (with_reducible refine ((raise_same ..).mono (by decide)).after ?_))
theorem kStep1_same : ∀ f s, Same 276 s (kStep1 f s) := by
  intro f s
  unfold kStep1
  try dsimp only
  repeat' (first
    | with_reducible exact Same.rfl' _ | (with_reducible refine Same.ite ?_ ?_) | (with_reducible refine Same.iteFst ?_ ?_)
    | (with_reducible refine ((recordFault_same ..).mono (by decide)).after ?_)
    | (with_reducible refine ((stepFail_same ..).mono (by decide)).after ?_)
    | (with_reducible refine ((Same.setZal _ _).mono (by decide)).after ?_)
    | (with_reducible refine ((modKindling_same ..).mono (by decide)).after ?_) | split)
theorem kStep2_same : ∀ f s, Same 20 s (kStep2 f s) := by
  intro f s
  unfold kStep2
  try dsimp only
  repeat' (first
    | with_reducible exact Same.rfl' _ | (with_reducible refine Same.ite ?_ ?_) | (with_reducible refine Same.iteFst ?_ ?_)
    | (with_reducible refine ((modKindling_same ..).mono (by decide)).after ?_)
    | ((with_reducible refine ((Same.setSys _ _ ?_).mono (by decide)).after ?_); rfl)
    | (with_reducible refine ((stepFail_same ..).mono (by decide)).after ?_) | split
    | (with_reducible refine Same.fst (by assumption) ?_))
theorem startPlane_same : ∀ f die cold s, Same 528 s (startPlane f die cold s) := by
  intro f die cold s
  unfold startPlane
  try dsimp only
  repeat' (first
    | with_reducible exact Same.rfl' _ | (with_reducible refine Same.ite ?_ ?_) | (with_reducible refine Same.iteFst ?_ ?_)
    | (with_reducible refine ((stepFail_same ..).mono (by decide)).after ?_)
    | (with_reducible refine ((lockPlane_same ..).mono (by decide)).after ?_)
    | (with_reducible refine ((setTarget_same ..).mono (by decide)).after ?_) | split)
theorem kStep3_same (f : KindlingFound) (s : State) : Same 149276 s (kStep3 f s) := by
  unfold kStep3
  extract_lets z s0 q s1 p s2 s3
  have h0 : Same 149276 s s0 := ((Same.setZal _ _).mono (by decide)).trans ((stepFail_same ..).mono (by decide))
  have h2 : Same 149276 s s2 := ((Same.setTick _ _).mono (by decide)).trans ((show Same 16384 _ s2 from Same.setTu _ _ rfl rfl).mono (by decide))
  have h3 : Same 149276 s s3 := h2.trans (((startPlane_same ..).mono (by decide)).trans
    ((startPlane_same ..).mono (by decide)))
  clear_value s0 s2 s3
  exact Same.ite (h0.trans ((modKindling_same ..).mono (by decide)))
    (h3.trans ((((twinStart_same ..).mono (by decide)).trans ((settleFaultN_same ..).mono (by decide))).trans
      ((modKindling_same ..).mono (by decide))))
theorem kStep3_sound (f : KindlingFound) (s : State) : Sound s (kStep3 f s) := by
  unfold kStep3
  extract_lets z s0 q s1 p s2 s3
  have h0 : Sound s s0 := ((Same.setZal _ _).sound (by decide)).trans ((stepFail_same ..).sound (by decide))
  have h2 : Sound s s2 := ⟨rfl, fun _ => rfl, id, id⟩
  have h3 : Sound s s3 := h2.trans (((startPlane_same ..).sound (by decide)).trans
    ((startPlane_same ..).sound (by decide)))
  clear_value s0 s2 s3
  exact Sound.ite (h0.trans ((modKindling_same ..).sound (by decide)))
    (h3.trans ((((twinStart_same ..).sound (by decide)).trans ((settleFaultN_same ..).sound (by decide))).trans
      ((modKindling_same ..).sound (by decide))))
theorem unitsFail_same : ∀ step us s, Same 276 s (unitsFail step us s) := by
  intro step us s
  unfold unitsFail
  try dsimp only
  repeat' (first
    | with_reducible exact Same.rfl' _ | (with_reducible refine Same.ite ?_ ?_) | (with_reducible refine Same.iteFst ?_ ?_)
    | (with_reducible refine ((stepFail_same ..).mono (by decide)).after ?_)
    | (with_reducible refine ((setUnit_same ..).mono (by decide)).after ?_)
    | (with_reducible refine ((modKindling_same ..).mono (by decide)).after ?_)
    | (with_reducible refine ((nameUnit_same ..).mono (by decide)).after ?_)
    | (with_reducible refine (Same.foldl (fun _ _ => ?_) _ _).after ?_)
    | (with_reducible refine (Same.foldlFst (fun _ _ => ?_) _ _).after ?_) | split
    | (with_reducible refine Same.fst (by assumption) ?_))
theorem kStep4_same : ∀ f s, Same 276 s (kStep4 f s) := by
  intro f s
  unfold kStep4
  try dsimp only
  repeat' (first
    | with_reducible exact Same.rfl' _ | (with_reducible refine ((modKindling_same ..).mono (by decide)).after ?_)
    | (with_reducible refine ((unitsFail_same ..).mono (by decide)).after ?_))
theorem calBad_same : ∀ cause n s, Same 80 s (calBad cause n s) := by
  intro cause n s
  unfold calBad
  try dsimp only
  repeat' (first
    | with_reducible exact Same.rfl' _ | (with_reducible refine ((raise_same ..).mono (by decide)).after ?_)
    | (with_reducible refine ((Same.setCal _ _).mono (by decide)).after ?_))
theorem calErase_same : ∀ off n s, Same 64 s (calErase off n s) := by
  intro off n s
  unfold calErase
  try dsimp only
  repeat' (first
    | with_reducible exact Same.rfl' _ | (with_reducible refine ((Same.setCal _ _).mono (by decide)).after ?_)
    | (with_reducible refine (Same.foldl (fun _ _ => ?_) _ _).after ?_)
    | (with_reducible refine (Same.foldlFst (fun _ _ => ?_) _ _).after ?_))
theorem laneDefaults_same : ∀ s, Same 80 s (laneDefaults s) := by
  intro s
  unfold laneDefaults
  try dsimp only
  repeat' (first
    | with_reducible exact Same.rfl' _ | (with_reducible refine Same.ite ?_ ?_) | (with_reducible refine Same.iteFst ?_ ?_)
    | (with_reducible refine ((calBad_same ..).mono (by decide)).after ?_)
    | (with_reducible refine ((calErase_same ..).mono (by decide)).after ?_)
    | (with_reducible refine (Same.foldl (fun _ _ => ?_) _ _).after ?_)
    | (with_reducible refine (Same.foldlFst (fun _ _ => ?_) _ _).after ?_) | split)
theorem startBranches_same : ∀ s, Same 4 s (startBranches s) := by
  intro s
  unfold startBranches
  try dsimp only
  repeat' (first
    | with_reducible exact Same.rfl' _ | (with_reducible refine Same.ite ?_ ?_) | (with_reducible refine Same.iteFst ?_ ?_)
    | (with_reducible refine ((modKindling_same ..).mono (by decide)).after ?_) | split)
theorem kStep5_same : ∀ s, Same 84 s (kStep5 s) := by
  intro s
  unfold kStep5
  try dsimp only
  repeat' (first
    | with_reducible exact Same.rfl' _ | (with_reducible refine ((startBranches_same ..).mono (by decide)).after ?_)
    | (with_reducible refine ((calBad_same ..).mono (by decide)).after ?_)
    | (with_reducible refine ((Same.setCal _ _).mono (by decide)).after ?_)
    | (with_reducible refine ((laneDefaults_same ..).mono (by decide)).after ?_) | split
    | (with_reducible refine Same.fst (by assumption) ?_))
theorem kStep6a_same : ∀ f s, Same 342 s (kStep6a f s) := by
  intro f s
  unfold kStep6a
  try dsimp only
  repeat' (first
    | with_reducible exact Same.rfl' _ | (with_reducible refine Same.ite ?_ ?_) | (with_reducible refine Same.iteFst ?_ ?_)
    | (with_reducible refine ((trainedHbm_same ..).mono (by decide)).after ?_)
    | (with_reducible refine ((unitsFail_same ..).mono (by decide)).after ?_)
    | (with_reducible refine (Same.foldl (fun _ _ => ?_) _ _).after ?_)
    | (with_reducible refine (Same.foldlFst (fun _ _ => ?_) _ _).after ?_) | split)
theorem chanFound_same : ∀ x s, Same 1048658 s (chanFound x s) := by
  intro x s
  unfold chanFound
  try dsimp only
  repeat' (first
    | with_reducible exact Same.rfl' _ | (with_reducible refine Same.ite ?_ ?_) | (with_reducible refine Same.iteFst ?_ ?_)
    | (with_reducible refine ((setMem_same ..).mono (by decide)).after ?_)
    | (with_reducible refine ((trainedChannel_same ..).mono (by decide)).after ?_)
    | (with_reducible refine ((calBad_same ..).mono (by decide)).after ?_)
    | (with_reducible refine ((calErase_same ..).mono (by decide)).after ?_) | split)
theorem chanAbsent_same : ∀ k cause s, Same 20 s (chanAbsent k cause s) := by
  intro k cause s
  unfold chanAbsent
  try dsimp only
  repeat' (first
    | with_reducible exact Same.rfl' _ | ((with_reducible refine ((Same.setSys _ _ ?_).mono (by decide)).after ?_); rfl)
    | (with_reducible refine ((raise_same ..).mono (by decide)).after ?_)
    | (with_reducible refine ((stepFail_same ..).mono (by decide)).after ?_))
theorem findChannel_same : ∀ fs k s, Same 1048662 s (findChannel fs k s) := by
  intro fs k s
  unfold findChannel
  try dsimp only
  repeat' (first
    | with_reducible exact Same.rfl' _ | (with_reducible refine Same.ite ?_ ?_) | (with_reducible refine Same.iteFst ?_ ?_)
    | (with_reducible refine ((chanAbsent_same ..).mono (by decide)).after ?_)
    | (with_reducible refine ((chanFound_same ..).mono (by decide)).after ?_) | split
    | (with_reducible refine Same.fst (by assumption) ?_))
theorem kStep6b_same : ∀ f s, Same 1081430 s (kStep6b f s) := by
  intro f s
  unfold kStep6b
  try dsimp only
  repeat' (first
    | with_reducible exact Same.rfl' _ | (with_reducible refine Same.ite ?_ ?_) | (with_reducible refine Same.iteFst ?_ ?_)
    | (with_reducible refine ((findChannel_same ..).mono (by decide)).after ?_)
    | ((with_reducible refine ((Same.setSys _ _ ?_).mono (by decide)).after ?_); rfl)
    | (with_reducible refine ((Same.setJnl _ _).mono (by decide)).after ?_)
    | (with_reducible refine (Same.foldl (fun _ _ => ?_) _ _).after ?_)
    | (with_reducible refine (Same.foldlFst (fun _ _ => ?_) _ _).after ?_) | split
    | (with_reducible refine Same.fst (by assumption) ?_))
theorem bootPair_same : ∀ e s, Same 8629302 s (bootPair e s) := by
  intro e s
  unfold bootPair
  try dsimp only
  repeat' (first
    | with_reducible exact Same.rfl' _ | (with_reducible refine Same.ite ?_ ?_) | (with_reducible refine Same.iteFst ?_ ?_)
    | (with_reducible refine ((applyWord_same ..).mono (by decide)).after ?_)
    | (with_reducible refine ((modKindling_same ..).mono (by decide)).after ?_) | split
    | (with_reducible refine Same.fst (by assumption) ?_))
theorem kStep6c_same : ∀ f s, Same 8629302 s (kStep6c f s) := by
  intro f s
  unfold kStep6c
  try dsimp only
  repeat' (first
    | with_reducible exact Same.rfl' _ | (with_reducible refine Same.ite ?_ ?_) | (with_reducible refine Same.iteFst ?_ ?_)
    | (with_reducible refine ((portEnable_same ..).mono (by decide)).after ?_)
    | (with_reducible refine ((setReg_same ..).mono (by decide)).after ?_)
    | (with_reducible refine ((bootPair_same ..).mono (by decide)).after ?_)
    | (with_reducible refine ((stepFail_same ..).mono (by decide)).after ?_)
    | (with_reducible refine (Same.foldl (fun _ _ => ?_) _ _).after ?_)
    | (with_reducible refine (Same.foldlFst (fun _ _ => ?_) _ _).after ?_) | split)
theorem setDefault_same : ∀ cls inst w v s, Same 8388640 s (setDefault cls inst w v s) := by
  intro cls inst w v s
  unfold setDefault
  try dsimp only
  repeat' (first
    | with_reducible exact Same.rfl' _ | (with_reducible refine ((setReg_same ..).mono (by decide)).after ?_) | split
    | (with_reducible refine Same.fst (by assumption) ?_))
theorem placeRegions_same : ∀ s, Same 8421408 s (placeRegions s) := by
  intro s
  unfold placeRegions
  try dsimp only
  repeat' (first
    | with_reducible exact Same.rfl' _ | (with_reducible refine Same.ite ?_ ?_) | (with_reducible refine Same.iteFst ?_ ?_)
    | (with_reducible refine ((Same.setJnl _ _).mono (by decide)).after ?_)
    | (with_reducible refine ((setDefault_same ..).mono (by decide)).after ?_)
    | (with_reducible refine (Same.foldl (fun _ _ => ?_) _ _).after ?_)
    | (with_reducible refine (Same.foldlFst (fun _ _ => ?_) _ _).after ?_) | split)
theorem kStep7_same : ∀ f s, Same 8947766 s (kStep7 f s) := by
  intro f s
  unfold kStep7
  try dsimp only
  repeat' (first
    | with_reducible exact Same.rfl' _ | (with_reducible refine Same.ite ?_ ?_) | (with_reducible refine Same.iteFst ?_ ?_)
    | (with_reducible refine ((placeRegions_same ..).mono (by decide)).after ?_)
    | (with_reducible refine ((raise_same ..).mono (by decide)).after ?_)
    | (with_reducible refine ((sendAt_same ..).mono (by decide)).after ?_)
    | ((with_reducible refine ((Same.setSys _ _ ?_).mono (by decide)).after ?_); rfl) | split)
theorem branchEnds_same : ∀ b s, Same 4 s (branchEnds b s) := by
  intro b s
  unfold branchEnds
  try dsimp only
  repeat' (first
    | with_reducible exact Same.rfl' _ | (with_reducible refine Same.ite ?_ ?_) | (with_reducible refine Same.iteFst ?_ ?_)
    | (with_reducible refine ((modKindling_same ..).mono (by decide)).after ?_) | split)
theorem kindlingStepDone_same : ∀ step f s, Same 10219390 s (kindlingStepDone step f s) := by
  intro step f s
  unfold kindlingStepDone
  try dsimp only
  repeat' (first
    | with_reducible exact Same.rfl' _ | (with_reducible refine Same.ite ?_ ?_) | (with_reducible refine Same.iteFst ?_ ?_)
    | (with_reducible refine ((kStep1_same ..).mono (by decide)).after ?_)
    | (with_reducible refine ((kStep2_same ..).mono (by decide)).after ?_)
    | (with_reducible refine ((kStep3_same ..).mono (by decide)).after ?_)
    | (with_reducible refine ((kStep4_same ..).mono (by decide)).after ?_)
    | (with_reducible refine ((kStep5_same ..).mono (by decide)).after ?_)
    | (with_reducible refine ((branchEnds_same ..).mono (by decide)).after ?_)
    | (with_reducible refine ((kStep6a_same ..).mono (by decide)).after ?_)
    | (with_reducible refine ((kStep6b_same ..).mono (by decide)).after ?_)
    | (with_reducible refine ((kStep6c_same ..).mono (by decide)).after ?_)
    | (with_reducible refine ((kStep7_same ..).mono (by decide)).after ?_) | split
    | (with_reducible refine Same.fst (by assumption) ?_))
theorem kindlingStepDone_sound : ∀ step f s, Sound s (kindlingStepDone step f s) := by
  intro step f s
  unfold kindlingStepDone
  try dsimp only
  repeat' (first
    | with_reducible exact Sound.rfl' _ | (with_reducible refine Sound.ite ?_ ?_)
    | (with_reducible refine Sound.iteFst ?_ ?_) | (with_reducible refine ((kStep1_same ..).sound (by decide)).after ?_)
    | (with_reducible refine ((kStep2_same ..).sound (by decide)).after ?_)
    | (with_reducible refine (kStep3_sound ..).after ?_)
    | (with_reducible refine ((kStep4_same ..).sound (by decide)).after ?_)
    | (with_reducible refine ((kStep5_same ..).sound (by decide)).after ?_)
    | (with_reducible refine ((branchEnds_same ..).sound (by decide)).after ?_)
    | (with_reducible refine ((kStep6a_same ..).sound (by decide)).after ?_)
    | (with_reducible refine ((kStep6b_same ..).sound (by decide)).after ?_)
    | (with_reducible refine ((kStep6c_same ..).sound (by decide)).after ?_)
    | (with_reducible refine ((kStep7_same ..).sound (by decide)).after ?_) | split
    | (with_reducible refine Sound.fst (by assumption) ?_))
theorem trefLockRetry_same : ∀ f s, Same 149276 s (trefLockRetry f s) := by
  intro f s
  unfold trefLockRetry
  try dsimp only
  repeat' (first
    | with_reducible exact Same.rfl' _ | (with_reducible refine Same.ite ?_ ?_) | (with_reducible refine Same.iteFst ?_ ?_)
    | (with_reducible refine ((kStep3_same ..).mono (by decide)).after ?_) | split)
theorem trefLockRetry_sound : ∀ f s, Sound s (trefLockRetry f s) := by
  intro f s
  unfold trefLockRetry
  try dsimp only
  repeat' (first
    | with_reducible exact Sound.rfl' _ | (with_reducible refine Sound.ite ?_ ?_)
    | (with_reducible refine Sound.iteFst ?_ ?_) | (with_reducible refine (kStep3_sound ..).after ?_) | split)
theorem execResetAssert_same : ∀ ns s t, execResetAssert ns s = .next t → Same 16777214 s t := by
  intro ns s t h
  injection h with h
  subst h
  try dsimp only
  repeat' (first
    | with_reducible exact Same.rfl' _ | (with_reducible refine ((resetAssert_same ..).mono (by decide)).after ?_))
theorem execResetAssert_sound : ∀ ns s t, execResetAssert ns s = .next t → Sound s t := by
  intro ns s t h
  injection h with h
  subst h
  try dsimp only
  repeat' (first
    | with_reducible exact Sound.rfl' _ | (with_reducible refine (resetAssert_sound ..).after ?_))
theorem execResetRelease_same : ∀ bootMode twinRole s t, execResetRelease bootMode twinRole s = .next t → Same 2097428 s t := by
  intro bootMode twinRole s t h
  injection h with h
  subst h
  try dsimp only
  repeat' (first
    | with_reducible exact Same.rfl' _ | (with_reducible refine ((resetRelease_same ..).mono (by decide)).after ?_))
theorem execKindlingStepDone_same : ∀ step f s t, execKindlingStepDone step f s = .next t → Same 10219390 s t := by
  intro step f s t h
  injection h with h
  subst h
  try dsimp only
  repeat' (first
    | with_reducible exact Same.rfl' _ | (with_reducible refine ((kindlingStepDone_same ..).mono (by decide)).after ?_))
theorem execKindlingStepDone_sound : ∀ step f s t, execKindlingStepDone step f s = .next t → Sound s t := by
  intro step f s t h
  injection h with h
  subst h
  try dsimp only
  repeat' (first
    | with_reducible exact Sound.rfl' _ | (with_reducible refine (kindlingStepDone_sound ..).after ?_))
theorem execTrefLockRetry_same : ∀ f s t, execTrefLockRetry f s = .next t → Same 149276 s t := by
  intro f s t h
  injection h with h
  subst h
  try dsimp only
  repeat' (first
    | with_reducible exact Same.rfl' _ | (with_reducible refine ((trefLockRetry_same ..).mono (by decide)).after ?_))
theorem execTrefLockRetry_sound : ∀ f s t, execTrefLockRetry f s = .next t → Sound s t := by
  intro f s t h
  injection h with h
  subst h
  try dsimp only
  repeat' (first
    | with_reducible exact Sound.rfl' _ | (with_reducible refine (trefLockRetry_sound ..).after ?_))

end Sys2Proof.Machine
end

