-- ==== Sys2Proof/Laws/State.lean ====
section
/-! SUPPORT. What each part of the state is after an update of a part: one lemma per part per update. -/

namespace Sys2Proof.Machine

@[simp] theorem State.setPending_pending (s : State) (x : List Instr) : (s.setPending x).pending = x := rfl
@[simp] theorem State.setPending_free (s : State) (x : List Instr) : (s.setPending x).free = s.free := rfl
@[simp] theorem State.setPending_sys (s : State) (x : List Instr) : (s.setPending x).sys = s.sys := rfl
@[simp] theorem State.setPending_tick (s : State) (x : List Instr) : (s.setPending x).tick = s.tick := rfl
@[simp] theorem State.setPending_toune (s : State) (x : List Instr) : (s.setPending x).toune = s.toune := rfl
@[simp] theorem State.setPending_prm (s : State) (x : List Instr) : (s.setPending x).prm = s.prm := rfl
@[simp] theorem State.setPending_cal (s : State) (x : List Instr) : (s.setPending x).cal = s.cal := rfl
@[simp] theorem State.setPending_flash (s : State) (x : List Instr) : (s.setPending x).flash = s.flash := rfl
@[simp] theorem State.setPending_zal (s : State) (x : List Instr) : (s.setPending x).zal = s.zal := rfl
@[simp] theorem State.setPending_power (s : State) (x : List Instr) : (s.setPending x).power = s.power := rfl
@[simp] theorem State.setPending_ports (s : State) (x : List Instr) : (s.setPending x).ports = s.ports := rfl
@[simp] theorem State.setPending_path (s : State) (x : List Instr) : (s.setPending x).path = s.path := rfl
@[simp] theorem State.setPending_svc (s : State) (x : List Instr) : (s.setPending x).svc = s.svc := rfl
@[simp] theorem State.setPending_buf (s : State) (x : List Instr) : (s.setPending x).buf = s.buf := rfl
@[simp] theorem State.setPending_tu (s : State) (x : List Instr) : (s.setPending x).tu = s.tu := rfl
@[simp] theorem State.setPending_jnl (s : State) (x : List Instr) : (s.setPending x).jnl = s.jnl := rfl
@[simp] theorem State.setPending_pmon (s : State) (x : List Instr) : (s.setPending x).pmon = s.pmon := rfl
@[simp] theorem State.setPending_twin (s : State) (x : List Instr) : (s.setPending x).twin = s.twin := rfl
@[simp] theorem State.setPending_flow (s : State) (x : List Instr) : (s.setPending x).flow = s.flow := rfl
@[simp] theorem State.setPending_host (s : State) (x : List Instr) : (s.setPending x).host = s.host := rfl
@[simp] theorem State.setPending_mem (s : State) (x : List Instr) : (s.setPending x).mem = s.mem := rfl
@[simp] theorem State.setFree_pending (s : State) (x : Nat) : (s.setFree x).pending = s.pending := rfl
@[simp] theorem State.setFree_free (s : State) (x : Nat) : (s.setFree x).free = x := rfl
@[simp] theorem State.setFree_sys (s : State) (x : Nat) : (s.setFree x).sys = s.sys := rfl
@[simp] theorem State.setFree_tick (s : State) (x : Nat) : (s.setFree x).tick = s.tick := rfl
@[simp] theorem State.setFree_toune (s : State) (x : Nat) : (s.setFree x).toune = s.toune := rfl
@[simp] theorem State.setFree_prm (s : State) (x : Nat) : (s.setFree x).prm = s.prm := rfl
@[simp] theorem State.setFree_cal (s : State) (x : Nat) : (s.setFree x).cal = s.cal := rfl
@[simp] theorem State.setFree_flash (s : State) (x : Nat) : (s.setFree x).flash = s.flash := rfl
@[simp] theorem State.setFree_zal (s : State) (x : Nat) : (s.setFree x).zal = s.zal := rfl
@[simp] theorem State.setFree_power (s : State) (x : Nat) : (s.setFree x).power = s.power := rfl
@[simp] theorem State.setFree_ports (s : State) (x : Nat) : (s.setFree x).ports = s.ports := rfl
@[simp] theorem State.setFree_path (s : State) (x : Nat) : (s.setFree x).path = s.path := rfl
@[simp] theorem State.setFree_svc (s : State) (x : Nat) : (s.setFree x).svc = s.svc := rfl
@[simp] theorem State.setFree_buf (s : State) (x : Nat) : (s.setFree x).buf = s.buf := rfl
@[simp] theorem State.setFree_tu (s : State) (x : Nat) : (s.setFree x).tu = s.tu := rfl
@[simp] theorem State.setFree_jnl (s : State) (x : Nat) : (s.setFree x).jnl = s.jnl := rfl
@[simp] theorem State.setFree_pmon (s : State) (x : Nat) : (s.setFree x).pmon = s.pmon := rfl
@[simp] theorem State.setFree_twin (s : State) (x : Nat) : (s.setFree x).twin = s.twin := rfl
@[simp] theorem State.setFree_flow (s : State) (x : Nat) : (s.setFree x).flow = s.flow := rfl
@[simp] theorem State.setFree_host (s : State) (x : Nat) : (s.setFree x).host = s.host := rfl
@[simp] theorem State.setFree_mem (s : State) (x : Nat) : (s.setFree x).mem = s.mem := rfl
@[simp] theorem State.setSys_pending (s : State) (x : Sys) : (s.setSys x).pending = s.pending := rfl
@[simp] theorem State.setSys_free (s : State) (x : Sys) : (s.setSys x).free = s.free := rfl
@[simp] theorem State.setSys_sys (s : State) (x : Sys) : (s.setSys x).sys = x := rfl
@[simp] theorem State.setSys_tick (s : State) (x : Sys) : (s.setSys x).tick = s.tick := rfl
@[simp] theorem State.setSys_toune (s : State) (x : Sys) : (s.setSys x).toune = s.toune := rfl
@[simp] theorem State.setSys_prm (s : State) (x : Sys) : (s.setSys x).prm = s.prm := rfl
@[simp] theorem State.setSys_cal (s : State) (x : Sys) : (s.setSys x).cal = s.cal := rfl
@[simp] theorem State.setSys_flash (s : State) (x : Sys) : (s.setSys x).flash = s.flash := rfl
@[simp] theorem State.setSys_zal (s : State) (x : Sys) : (s.setSys x).zal = s.zal := rfl
@[simp] theorem State.setSys_power (s : State) (x : Sys) : (s.setSys x).power = s.power := rfl
@[simp] theorem State.setSys_ports (s : State) (x : Sys) : (s.setSys x).ports = s.ports := rfl
@[simp] theorem State.setSys_path (s : State) (x : Sys) : (s.setSys x).path = s.path := rfl
@[simp] theorem State.setSys_svc (s : State) (x : Sys) : (s.setSys x).svc = s.svc := rfl
@[simp] theorem State.setSys_buf (s : State) (x : Sys) : (s.setSys x).buf = s.buf := rfl
@[simp] theorem State.setSys_tu (s : State) (x : Sys) : (s.setSys x).tu = s.tu := rfl
@[simp] theorem State.setSys_jnl (s : State) (x : Sys) : (s.setSys x).jnl = s.jnl := rfl
@[simp] theorem State.setSys_pmon (s : State) (x : Sys) : (s.setSys x).pmon = s.pmon := rfl
@[simp] theorem State.setSys_twin (s : State) (x : Sys) : (s.setSys x).twin = s.twin := rfl
@[simp] theorem State.setSys_flow (s : State) (x : Sys) : (s.setSys x).flow = s.flow := rfl
@[simp] theorem State.setSys_host (s : State) (x : Sys) : (s.setSys x).host = s.host := rfl
@[simp] theorem State.setSys_mem (s : State) (x : Sys) : (s.setSys x).mem = s.mem := rfl
@[simp] theorem State.setTick_pending (s : State) (x : TickState) : (s.setTick x).pending = s.pending := rfl
@[simp] theorem State.setTick_free (s : State) (x : TickState) : (s.setTick x).free = s.free := rfl
@[simp] theorem State.setTick_sys (s : State) (x : TickState) : (s.setTick x).sys = s.sys := rfl
@[simp] theorem State.setTick_tick (s : State) (x : TickState) : (s.setTick x).tick = x := rfl
@[simp] theorem State.setTick_toune (s : State) (x : TickState) : (s.setTick x).toune = s.toune := rfl
@[simp] theorem State.setTick_prm (s : State) (x : TickState) : (s.setTick x).prm = s.prm := rfl
@[simp] theorem State.setTick_cal (s : State) (x : TickState) : (s.setTick x).cal = s.cal := rfl
@[simp] theorem State.setTick_flash (s : State) (x : TickState) : (s.setTick x).flash = s.flash := rfl
@[simp] theorem State.setTick_zal (s : State) (x : TickState) : (s.setTick x).zal = s.zal := rfl
@[simp] theorem State.setTick_power (s : State) (x : TickState) : (s.setTick x).power = s.power := rfl
@[simp] theorem State.setTick_ports (s : State) (x : TickState) : (s.setTick x).ports = s.ports := rfl
@[simp] theorem State.setTick_path (s : State) (x : TickState) : (s.setTick x).path = s.path := rfl
@[simp] theorem State.setTick_svc (s : State) (x : TickState) : (s.setTick x).svc = s.svc := rfl
@[simp] theorem State.setTick_buf (s : State) (x : TickState) : (s.setTick x).buf = s.buf := rfl
@[simp] theorem State.setTick_tu (s : State) (x : TickState) : (s.setTick x).tu = s.tu := rfl
@[simp] theorem State.setTick_jnl (s : State) (x : TickState) : (s.setTick x).jnl = s.jnl := rfl
@[simp] theorem State.setTick_pmon (s : State) (x : TickState) : (s.setTick x).pmon = s.pmon := rfl
@[simp] theorem State.setTick_twin (s : State) (x : TickState) : (s.setTick x).twin = s.twin := rfl
@[simp] theorem State.setTick_flow (s : State) (x : TickState) : (s.setTick x).flow = s.flow := rfl
@[simp] theorem State.setTick_host (s : State) (x : TickState) : (s.setTick x).host = s.host := rfl
@[simp] theorem State.setTick_mem (s : State) (x : TickState) : (s.setTick x).mem = s.mem := rfl
@[simp] theorem State.setToune_pending (s : State) (x : Toune) : (s.setToune x).pending = s.pending := rfl
@[simp] theorem State.setToune_free (s : State) (x : Toune) : (s.setToune x).free = s.free := rfl
@[simp] theorem State.setToune_sys (s : State) (x : Toune) : (s.setToune x).sys = s.sys := rfl
@[simp] theorem State.setToune_tick (s : State) (x : Toune) : (s.setToune x).tick = s.tick := rfl
@[simp] theorem State.setToune_toune (s : State) (x : Toune) : (s.setToune x).toune = x := rfl
@[simp] theorem State.setToune_prm (s : State) (x : Toune) : (s.setToune x).prm = s.prm := rfl
@[simp] theorem State.setToune_cal (s : State) (x : Toune) : (s.setToune x).cal = s.cal := rfl
@[simp] theorem State.setToune_flash (s : State) (x : Toune) : (s.setToune x).flash = s.flash := rfl
@[simp] theorem State.setToune_zal (s : State) (x : Toune) : (s.setToune x).zal = s.zal := rfl
@[simp] theorem State.setToune_power (s : State) (x : Toune) : (s.setToune x).power = s.power := rfl
@[simp] theorem State.setToune_ports (s : State) (x : Toune) : (s.setToune x).ports = s.ports := rfl
@[simp] theorem State.setToune_path (s : State) (x : Toune) : (s.setToune x).path = s.path := rfl
@[simp] theorem State.setToune_svc (s : State) (x : Toune) : (s.setToune x).svc = s.svc := rfl
@[simp] theorem State.setToune_buf (s : State) (x : Toune) : (s.setToune x).buf = s.buf := rfl
@[simp] theorem State.setToune_tu (s : State) (x : Toune) : (s.setToune x).tu = s.tu := rfl
@[simp] theorem State.setToune_jnl (s : State) (x : Toune) : (s.setToune x).jnl = s.jnl := rfl
@[simp] theorem State.setToune_pmon (s : State) (x : Toune) : (s.setToune x).pmon = s.pmon := rfl
@[simp] theorem State.setToune_twin (s : State) (x : Toune) : (s.setToune x).twin = s.twin := rfl
@[simp] theorem State.setToune_flow (s : State) (x : Toune) : (s.setToune x).flow = s.flow := rfl
@[simp] theorem State.setToune_host (s : State) (x : Toune) : (s.setToune x).host = s.host := rfl
@[simp] theorem State.setToune_mem (s : State) (x : Toune) : (s.setToune x).mem = s.mem := rfl
@[simp] theorem State.setPrm_pending (s : State) (x : Params) : (s.setPrm x).pending = s.pending := rfl
@[simp] theorem State.setPrm_free (s : State) (x : Params) : (s.setPrm x).free = s.free := rfl
@[simp] theorem State.setPrm_sys (s : State) (x : Params) : (s.setPrm x).sys = s.sys := rfl
@[simp] theorem State.setPrm_tick (s : State) (x : Params) : (s.setPrm x).tick = s.tick := rfl
@[simp] theorem State.setPrm_toune (s : State) (x : Params) : (s.setPrm x).toune = s.toune := rfl
@[simp] theorem State.setPrm_prm (s : State) (x : Params) : (s.setPrm x).prm = x := rfl
@[simp] theorem State.setPrm_cal (s : State) (x : Params) : (s.setPrm x).cal = s.cal := rfl
@[simp] theorem State.setPrm_flash (s : State) (x : Params) : (s.setPrm x).flash = s.flash := rfl
@[simp] theorem State.setPrm_zal (s : State) (x : Params) : (s.setPrm x).zal = s.zal := rfl
@[simp] theorem State.setPrm_power (s : State) (x : Params) : (s.setPrm x).power = s.power := rfl
@[simp] theorem State.setPrm_ports (s : State) (x : Params) : (s.setPrm x).ports = s.ports := rfl
@[simp] theorem State.setPrm_path (s : State) (x : Params) : (s.setPrm x).path = s.path := rfl
@[simp] theorem State.setPrm_svc (s : State) (x : Params) : (s.setPrm x).svc = s.svc := rfl
@[simp] theorem State.setPrm_buf (s : State) (x : Params) : (s.setPrm x).buf = s.buf := rfl
@[simp] theorem State.setPrm_tu (s : State) (x : Params) : (s.setPrm x).tu = s.tu := rfl
@[simp] theorem State.setPrm_jnl (s : State) (x : Params) : (s.setPrm x).jnl = s.jnl := rfl
@[simp] theorem State.setPrm_pmon (s : State) (x : Params) : (s.setPrm x).pmon = s.pmon := rfl
@[simp] theorem State.setPrm_twin (s : State) (x : Params) : (s.setPrm x).twin = s.twin := rfl
@[simp] theorem State.setPrm_flow (s : State) (x : Params) : (s.setPrm x).flow = s.flow := rfl
@[simp] theorem State.setPrm_host (s : State) (x : Params) : (s.setPrm x).host = s.host := rfl
@[simp] theorem State.setPrm_mem (s : State) (x : Params) : (s.setPrm x).mem = s.mem := rfl
@[simp] theorem State.setCal_pending (s : State) (x : Cal) : (s.setCal x).pending = s.pending := rfl
@[simp] theorem State.setCal_free (s : State) (x : Cal) : (s.setCal x).free = s.free := rfl
@[simp] theorem State.setCal_sys (s : State) (x : Cal) : (s.setCal x).sys = s.sys := rfl
@[simp] theorem State.setCal_tick (s : State) (x : Cal) : (s.setCal x).tick = s.tick := rfl
@[simp] theorem State.setCal_toune (s : State) (x : Cal) : (s.setCal x).toune = s.toune := rfl
@[simp] theorem State.setCal_prm (s : State) (x : Cal) : (s.setCal x).prm = s.prm := rfl
@[simp] theorem State.setCal_cal (s : State) (x : Cal) : (s.setCal x).cal = x := rfl
@[simp] theorem State.setCal_flash (s : State) (x : Cal) : (s.setCal x).flash = s.flash := rfl
@[simp] theorem State.setCal_zal (s : State) (x : Cal) : (s.setCal x).zal = s.zal := rfl
@[simp] theorem State.setCal_power (s : State) (x : Cal) : (s.setCal x).power = s.power := rfl
@[simp] theorem State.setCal_ports (s : State) (x : Cal) : (s.setCal x).ports = s.ports := rfl
@[simp] theorem State.setCal_path (s : State) (x : Cal) : (s.setCal x).path = s.path := rfl
@[simp] theorem State.setCal_svc (s : State) (x : Cal) : (s.setCal x).svc = s.svc := rfl
@[simp] theorem State.setCal_buf (s : State) (x : Cal) : (s.setCal x).buf = s.buf := rfl
@[simp] theorem State.setCal_tu (s : State) (x : Cal) : (s.setCal x).tu = s.tu := rfl
@[simp] theorem State.setCal_jnl (s : State) (x : Cal) : (s.setCal x).jnl = s.jnl := rfl
@[simp] theorem State.setCal_pmon (s : State) (x : Cal) : (s.setCal x).pmon = s.pmon := rfl
@[simp] theorem State.setCal_twin (s : State) (x : Cal) : (s.setCal x).twin = s.twin := rfl
@[simp] theorem State.setCal_flow (s : State) (x : Cal) : (s.setCal x).flow = s.flow := rfl
@[simp] theorem State.setCal_host (s : State) (x : Cal) : (s.setCal x).host = s.host := rfl
@[simp] theorem State.setCal_mem (s : State) (x : Cal) : (s.setCal x).mem = s.mem := rfl
@[simp] theorem State.setFlash_pending (s : State) (x : Flash) : (s.setFlash x).pending = s.pending := rfl
@[simp] theorem State.setFlash_free (s : State) (x : Flash) : (s.setFlash x).free = s.free := rfl
@[simp] theorem State.setFlash_sys (s : State) (x : Flash) : (s.setFlash x).sys = s.sys := rfl
@[simp] theorem State.setFlash_tick (s : State) (x : Flash) : (s.setFlash x).tick = s.tick := rfl
@[simp] theorem State.setFlash_toune (s : State) (x : Flash) : (s.setFlash x).toune = s.toune := rfl
@[simp] theorem State.setFlash_prm (s : State) (x : Flash) : (s.setFlash x).prm = s.prm := rfl
@[simp] theorem State.setFlash_cal (s : State) (x : Flash) : (s.setFlash x).cal = s.cal := rfl
@[simp] theorem State.setFlash_flash (s : State) (x : Flash) : (s.setFlash x).flash = x := rfl
@[simp] theorem State.setFlash_zal (s : State) (x : Flash) : (s.setFlash x).zal = s.zal := rfl
@[simp] theorem State.setFlash_power (s : State) (x : Flash) : (s.setFlash x).power = s.power := rfl
@[simp] theorem State.setFlash_ports (s : State) (x : Flash) : (s.setFlash x).ports = s.ports := rfl
@[simp] theorem State.setFlash_path (s : State) (x : Flash) : (s.setFlash x).path = s.path := rfl
@[simp] theorem State.setFlash_svc (s : State) (x : Flash) : (s.setFlash x).svc = s.svc := rfl
@[simp] theorem State.setFlash_buf (s : State) (x : Flash) : (s.setFlash x).buf = s.buf := rfl
@[simp] theorem State.setFlash_tu (s : State) (x : Flash) : (s.setFlash x).tu = s.tu := rfl
@[simp] theorem State.setFlash_jnl (s : State) (x : Flash) : (s.setFlash x).jnl = s.jnl := rfl
@[simp] theorem State.setFlash_pmon (s : State) (x : Flash) : (s.setFlash x).pmon = s.pmon := rfl
@[simp] theorem State.setFlash_twin (s : State) (x : Flash) : (s.setFlash x).twin = s.twin := rfl
@[simp] theorem State.setFlash_flow (s : State) (x : Flash) : (s.setFlash x).flow = s.flow := rfl
@[simp] theorem State.setFlash_host (s : State) (x : Flash) : (s.setFlash x).host = s.host := rfl
@[simp] theorem State.setFlash_mem (s : State) (x : Flash) : (s.setFlash x).mem = s.mem := rfl
@[simp] theorem State.setZal_pending (s : State) (x : Zal) : (s.setZal x).pending = s.pending := rfl
@[simp] theorem State.setZal_free (s : State) (x : Zal) : (s.setZal x).free = s.free := rfl
@[simp] theorem State.setZal_sys (s : State) (x : Zal) : (s.setZal x).sys = s.sys := rfl
@[simp] theorem State.setZal_tick (s : State) (x : Zal) : (s.setZal x).tick = s.tick := rfl
@[simp] theorem State.setZal_toune (s : State) (x : Zal) : (s.setZal x).toune = s.toune := rfl
@[simp] theorem State.setZal_prm (s : State) (x : Zal) : (s.setZal x).prm = s.prm := rfl
@[simp] theorem State.setZal_cal (s : State) (x : Zal) : (s.setZal x).cal = s.cal := rfl
@[simp] theorem State.setZal_flash (s : State) (x : Zal) : (s.setZal x).flash = s.flash := rfl
@[simp] theorem State.setZal_zal (s : State) (x : Zal) : (s.setZal x).zal = x := rfl
@[simp] theorem State.setZal_power (s : State) (x : Zal) : (s.setZal x).power = s.power := rfl
@[simp] theorem State.setZal_ports (s : State) (x : Zal) : (s.setZal x).ports = s.ports := rfl
@[simp] theorem State.setZal_path (s : State) (x : Zal) : (s.setZal x).path = s.path := rfl
@[simp] theorem State.setZal_svc (s : State) (x : Zal) : (s.setZal x).svc = s.svc := rfl
@[simp] theorem State.setZal_buf (s : State) (x : Zal) : (s.setZal x).buf = s.buf := rfl
@[simp] theorem State.setZal_tu (s : State) (x : Zal) : (s.setZal x).tu = s.tu := rfl
@[simp] theorem State.setZal_jnl (s : State) (x : Zal) : (s.setZal x).jnl = s.jnl := rfl
@[simp] theorem State.setZal_pmon (s : State) (x : Zal) : (s.setZal x).pmon = s.pmon := rfl
@[simp] theorem State.setZal_twin (s : State) (x : Zal) : (s.setZal x).twin = s.twin := rfl
@[simp] theorem State.setZal_flow (s : State) (x : Zal) : (s.setZal x).flow = s.flow := rfl
@[simp] theorem State.setZal_host (s : State) (x : Zal) : (s.setZal x).host = s.host := rfl
@[simp] theorem State.setZal_mem (s : State) (x : Zal) : (s.setZal x).mem = s.mem := rfl
@[simp] theorem State.setPower_pending (s : State) (x : Power) : (s.setPower x).pending = s.pending := rfl
@[simp] theorem State.setPower_free (s : State) (x : Power) : (s.setPower x).free = s.free := rfl
@[simp] theorem State.setPower_sys (s : State) (x : Power) : (s.setPower x).sys = s.sys := rfl
@[simp] theorem State.setPower_tick (s : State) (x : Power) : (s.setPower x).tick = s.tick := rfl
@[simp] theorem State.setPower_toune (s : State) (x : Power) : (s.setPower x).toune = s.toune := rfl
@[simp] theorem State.setPower_prm (s : State) (x : Power) : (s.setPower x).prm = s.prm := rfl
@[simp] theorem State.setPower_cal (s : State) (x : Power) : (s.setPower x).cal = s.cal := rfl
@[simp] theorem State.setPower_flash (s : State) (x : Power) : (s.setPower x).flash = s.flash := rfl
@[simp] theorem State.setPower_zal (s : State) (x : Power) : (s.setPower x).zal = s.zal := rfl
@[simp] theorem State.setPower_power (s : State) (x : Power) : (s.setPower x).power = x := rfl
@[simp] theorem State.setPower_ports (s : State) (x : Power) : (s.setPower x).ports = s.ports := rfl
@[simp] theorem State.setPower_path (s : State) (x : Power) : (s.setPower x).path = s.path := rfl
@[simp] theorem State.setPower_svc (s : State) (x : Power) : (s.setPower x).svc = s.svc := rfl
@[simp] theorem State.setPower_buf (s : State) (x : Power) : (s.setPower x).buf = s.buf := rfl
@[simp] theorem State.setPower_tu (s : State) (x : Power) : (s.setPower x).tu = s.tu := rfl
@[simp] theorem State.setPower_jnl (s : State) (x : Power) : (s.setPower x).jnl = s.jnl := rfl
@[simp] theorem State.setPower_pmon (s : State) (x : Power) : (s.setPower x).pmon = s.pmon := rfl
@[simp] theorem State.setPower_twin (s : State) (x : Power) : (s.setPower x).twin = s.twin := rfl
@[simp] theorem State.setPower_flow (s : State) (x : Power) : (s.setPower x).flow = s.flow := rfl
@[simp] theorem State.setPower_host (s : State) (x : Power) : (s.setPower x).host = s.host := rfl
@[simp] theorem State.setPower_mem (s : State) (x : Power) : (s.setPower x).mem = s.mem := rfl
@[simp] theorem State.setPorts_pending (s : State) (x : Ports) : (s.setPorts x).pending = s.pending := rfl
@[simp] theorem State.setPorts_free (s : State) (x : Ports) : (s.setPorts x).free = s.free := rfl
@[simp] theorem State.setPorts_sys (s : State) (x : Ports) : (s.setPorts x).sys = s.sys := rfl
@[simp] theorem State.setPorts_tick (s : State) (x : Ports) : (s.setPorts x).tick = s.tick := rfl
@[simp] theorem State.setPorts_toune (s : State) (x : Ports) : (s.setPorts x).toune = s.toune := rfl
@[simp] theorem State.setPorts_prm (s : State) (x : Ports) : (s.setPorts x).prm = s.prm := rfl
@[simp] theorem State.setPorts_cal (s : State) (x : Ports) : (s.setPorts x).cal = s.cal := rfl
@[simp] theorem State.setPorts_flash (s : State) (x : Ports) : (s.setPorts x).flash = s.flash := rfl
@[simp] theorem State.setPorts_zal (s : State) (x : Ports) : (s.setPorts x).zal = s.zal := rfl
@[simp] theorem State.setPorts_power (s : State) (x : Ports) : (s.setPorts x).power = s.power := rfl
@[simp] theorem State.setPorts_ports (s : State) (x : Ports) : (s.setPorts x).ports = x := rfl
@[simp] theorem State.setPorts_path (s : State) (x : Ports) : (s.setPorts x).path = s.path := rfl
@[simp] theorem State.setPorts_svc (s : State) (x : Ports) : (s.setPorts x).svc = s.svc := rfl
@[simp] theorem State.setPorts_buf (s : State) (x : Ports) : (s.setPorts x).buf = s.buf := rfl
@[simp] theorem State.setPorts_tu (s : State) (x : Ports) : (s.setPorts x).tu = s.tu := rfl
@[simp] theorem State.setPorts_jnl (s : State) (x : Ports) : (s.setPorts x).jnl = s.jnl := rfl
@[simp] theorem State.setPorts_pmon (s : State) (x : Ports) : (s.setPorts x).pmon = s.pmon := rfl
@[simp] theorem State.setPorts_twin (s : State) (x : Ports) : (s.setPorts x).twin = s.twin := rfl
@[simp] theorem State.setPorts_flow (s : State) (x : Ports) : (s.setPorts x).flow = s.flow := rfl
@[simp] theorem State.setPorts_host (s : State) (x : Ports) : (s.setPorts x).host = s.host := rfl
@[simp] theorem State.setPorts_mem (s : State) (x : Ports) : (s.setPorts x).mem = s.mem := rfl
@[simp] theorem State.setPath_pending (s : State) (x : Path) : (s.setPath x).pending = s.pending := rfl
@[simp] theorem State.setPath_free (s : State) (x : Path) : (s.setPath x).free = s.free := rfl
@[simp] theorem State.setPath_sys (s : State) (x : Path) : (s.setPath x).sys = s.sys := rfl
@[simp] theorem State.setPath_tick (s : State) (x : Path) : (s.setPath x).tick = s.tick := rfl
@[simp] theorem State.setPath_toune (s : State) (x : Path) : (s.setPath x).toune = s.toune := rfl
@[simp] theorem State.setPath_prm (s : State) (x : Path) : (s.setPath x).prm = s.prm := rfl
@[simp] theorem State.setPath_cal (s : State) (x : Path) : (s.setPath x).cal = s.cal := rfl
@[simp] theorem State.setPath_flash (s : State) (x : Path) : (s.setPath x).flash = s.flash := rfl
@[simp] theorem State.setPath_zal (s : State) (x : Path) : (s.setPath x).zal = s.zal := rfl
@[simp] theorem State.setPath_power (s : State) (x : Path) : (s.setPath x).power = s.power := rfl
@[simp] theorem State.setPath_ports (s : State) (x : Path) : (s.setPath x).ports = s.ports := rfl
@[simp] theorem State.setPath_path (s : State) (x : Path) : (s.setPath x).path = x := rfl
@[simp] theorem State.setPath_svc (s : State) (x : Path) : (s.setPath x).svc = s.svc := rfl
@[simp] theorem State.setPath_buf (s : State) (x : Path) : (s.setPath x).buf = s.buf := rfl
@[simp] theorem State.setPath_tu (s : State) (x : Path) : (s.setPath x).tu = s.tu := rfl
@[simp] theorem State.setPath_jnl (s : State) (x : Path) : (s.setPath x).jnl = s.jnl := rfl
@[simp] theorem State.setPath_pmon (s : State) (x : Path) : (s.setPath x).pmon = s.pmon := rfl
@[simp] theorem State.setPath_twin (s : State) (x : Path) : (s.setPath x).twin = s.twin := rfl
@[simp] theorem State.setPath_flow (s : State) (x : Path) : (s.setPath x).flow = s.flow := rfl
@[simp] theorem State.setPath_host (s : State) (x : Path) : (s.setPath x).host = s.host := rfl
@[simp] theorem State.setPath_mem (s : State) (x : Path) : (s.setPath x).mem = s.mem := rfl
@[simp] theorem State.setSvc_pending (s : State) (x : Svc) : (s.setSvc x).pending = s.pending := rfl
@[simp] theorem State.setSvc_free (s : State) (x : Svc) : (s.setSvc x).free = s.free := rfl
@[simp] theorem State.setSvc_sys (s : State) (x : Svc) : (s.setSvc x).sys = s.sys := rfl
@[simp] theorem State.setSvc_tick (s : State) (x : Svc) : (s.setSvc x).tick = s.tick := rfl
@[simp] theorem State.setSvc_toune (s : State) (x : Svc) : (s.setSvc x).toune = s.toune := rfl
@[simp] theorem State.setSvc_prm (s : State) (x : Svc) : (s.setSvc x).prm = s.prm := rfl
@[simp] theorem State.setSvc_cal (s : State) (x : Svc) : (s.setSvc x).cal = s.cal := rfl
@[simp] theorem State.setSvc_flash (s : State) (x : Svc) : (s.setSvc x).flash = s.flash := rfl
@[simp] theorem State.setSvc_zal (s : State) (x : Svc) : (s.setSvc x).zal = s.zal := rfl
@[simp] theorem State.setSvc_power (s : State) (x : Svc) : (s.setSvc x).power = s.power := rfl
@[simp] theorem State.setSvc_ports (s : State) (x : Svc) : (s.setSvc x).ports = s.ports := rfl
@[simp] theorem State.setSvc_path (s : State) (x : Svc) : (s.setSvc x).path = s.path := rfl
@[simp] theorem State.setSvc_svc (s : State) (x : Svc) : (s.setSvc x).svc = x := rfl
@[simp] theorem State.setSvc_buf (s : State) (x : Svc) : (s.setSvc x).buf = s.buf := rfl
@[simp] theorem State.setSvc_tu (s : State) (x : Svc) : (s.setSvc x).tu = s.tu := rfl
@[simp] theorem State.setSvc_jnl (s : State) (x : Svc) : (s.setSvc x).jnl = s.jnl := rfl
@[simp] theorem State.setSvc_pmon (s : State) (x : Svc) : (s.setSvc x).pmon = s.pmon := rfl
@[simp] theorem State.setSvc_twin (s : State) (x : Svc) : (s.setSvc x).twin = s.twin := rfl
@[simp] theorem State.setSvc_flow (s : State) (x : Svc) : (s.setSvc x).flow = s.flow := rfl
@[simp] theorem State.setSvc_host (s : State) (x : Svc) : (s.setSvc x).host = s.host := rfl
@[simp] theorem State.setSvc_mem (s : State) (x : Svc) : (s.setSvc x).mem = s.mem := rfl
@[simp] theorem State.setBuf_pending (s : State) (x : Buf) : (s.setBuf x).pending = s.pending := rfl
@[simp] theorem State.setBuf_free (s : State) (x : Buf) : (s.setBuf x).free = s.free := rfl
@[simp] theorem State.setBuf_sys (s : State) (x : Buf) : (s.setBuf x).sys = s.sys := rfl
@[simp] theorem State.setBuf_tick (s : State) (x : Buf) : (s.setBuf x).tick = s.tick := rfl
@[simp] theorem State.setBuf_toune (s : State) (x : Buf) : (s.setBuf x).toune = s.toune := rfl
@[simp] theorem State.setBuf_prm (s : State) (x : Buf) : (s.setBuf x).prm = s.prm := rfl
@[simp] theorem State.setBuf_cal (s : State) (x : Buf) : (s.setBuf x).cal = s.cal := rfl
@[simp] theorem State.setBuf_flash (s : State) (x : Buf) : (s.setBuf x).flash = s.flash := rfl
@[simp] theorem State.setBuf_zal (s : State) (x : Buf) : (s.setBuf x).zal = s.zal := rfl
@[simp] theorem State.setBuf_power (s : State) (x : Buf) : (s.setBuf x).power = s.power := rfl
@[simp] theorem State.setBuf_ports (s : State) (x : Buf) : (s.setBuf x).ports = s.ports := rfl
@[simp] theorem State.setBuf_path (s : State) (x : Buf) : (s.setBuf x).path = s.path := rfl
@[simp] theorem State.setBuf_svc (s : State) (x : Buf) : (s.setBuf x).svc = s.svc := rfl
@[simp] theorem State.setBuf_buf (s : State) (x : Buf) : (s.setBuf x).buf = x := rfl
@[simp] theorem State.setBuf_tu (s : State) (x : Buf) : (s.setBuf x).tu = s.tu := rfl
@[simp] theorem State.setBuf_jnl (s : State) (x : Buf) : (s.setBuf x).jnl = s.jnl := rfl
@[simp] theorem State.setBuf_pmon (s : State) (x : Buf) : (s.setBuf x).pmon = s.pmon := rfl
@[simp] theorem State.setBuf_twin (s : State) (x : Buf) : (s.setBuf x).twin = s.twin := rfl
@[simp] theorem State.setBuf_flow (s : State) (x : Buf) : (s.setBuf x).flow = s.flow := rfl
@[simp] theorem State.setBuf_host (s : State) (x : Buf) : (s.setBuf x).host = s.host := rfl
@[simp] theorem State.setBuf_mem (s : State) (x : Buf) : (s.setBuf x).mem = s.mem := rfl
@[simp] theorem State.setTu_pending (s : State) (x : Tu) : (s.setTu x).pending = s.pending := rfl
@[simp] theorem State.setTu_free (s : State) (x : Tu) : (s.setTu x).free = s.free := rfl
@[simp] theorem State.setTu_sys (s : State) (x : Tu) : (s.setTu x).sys = s.sys := rfl
@[simp] theorem State.setTu_tick (s : State) (x : Tu) : (s.setTu x).tick = s.tick := rfl
@[simp] theorem State.setTu_toune (s : State) (x : Tu) : (s.setTu x).toune = s.toune := rfl
@[simp] theorem State.setTu_prm (s : State) (x : Tu) : (s.setTu x).prm = s.prm := rfl
@[simp] theorem State.setTu_cal (s : State) (x : Tu) : (s.setTu x).cal = s.cal := rfl
@[simp] theorem State.setTu_flash (s : State) (x : Tu) : (s.setTu x).flash = s.flash := rfl
@[simp] theorem State.setTu_zal (s : State) (x : Tu) : (s.setTu x).zal = s.zal := rfl
@[simp] theorem State.setTu_power (s : State) (x : Tu) : (s.setTu x).power = s.power := rfl
@[simp] theorem State.setTu_ports (s : State) (x : Tu) : (s.setTu x).ports = s.ports := rfl
@[simp] theorem State.setTu_path (s : State) (x : Tu) : (s.setTu x).path = s.path := rfl
@[simp] theorem State.setTu_svc (s : State) (x : Tu) : (s.setTu x).svc = s.svc := rfl
@[simp] theorem State.setTu_buf (s : State) (x : Tu) : (s.setTu x).buf = s.buf := rfl
@[simp] theorem State.setTu_tu (s : State) (x : Tu) : (s.setTu x).tu = x := rfl
@[simp] theorem State.setTu_jnl (s : State) (x : Tu) : (s.setTu x).jnl = s.jnl := rfl
@[simp] theorem State.setTu_pmon (s : State) (x : Tu) : (s.setTu x).pmon = s.pmon := rfl
@[simp] theorem State.setTu_twin (s : State) (x : Tu) : (s.setTu x).twin = s.twin := rfl
@[simp] theorem State.setTu_flow (s : State) (x : Tu) : (s.setTu x).flow = s.flow := rfl
@[simp] theorem State.setTu_host (s : State) (x : Tu) : (s.setTu x).host = s.host := rfl
@[simp] theorem State.setTu_mem (s : State) (x : Tu) : (s.setTu x).mem = s.mem := rfl
@[simp] theorem State.setJnl_pending (s : State) (x : Jnl) : (s.setJnl x).pending = s.pending := rfl
@[simp] theorem State.setJnl_free (s : State) (x : Jnl) : (s.setJnl x).free = s.free := rfl
@[simp] theorem State.setJnl_sys (s : State) (x : Jnl) : (s.setJnl x).sys = s.sys := rfl
@[simp] theorem State.setJnl_tick (s : State) (x : Jnl) : (s.setJnl x).tick = s.tick := rfl
@[simp] theorem State.setJnl_toune (s : State) (x : Jnl) : (s.setJnl x).toune = s.toune := rfl
@[simp] theorem State.setJnl_prm (s : State) (x : Jnl) : (s.setJnl x).prm = s.prm := rfl
@[simp] theorem State.setJnl_cal (s : State) (x : Jnl) : (s.setJnl x).cal = s.cal := rfl
@[simp] theorem State.setJnl_flash (s : State) (x : Jnl) : (s.setJnl x).flash = s.flash := rfl
@[simp] theorem State.setJnl_zal (s : State) (x : Jnl) : (s.setJnl x).zal = s.zal := rfl
@[simp] theorem State.setJnl_power (s : State) (x : Jnl) : (s.setJnl x).power = s.power := rfl
@[simp] theorem State.setJnl_ports (s : State) (x : Jnl) : (s.setJnl x).ports = s.ports := rfl
@[simp] theorem State.setJnl_path (s : State) (x : Jnl) : (s.setJnl x).path = s.path := rfl
@[simp] theorem State.setJnl_svc (s : State) (x : Jnl) : (s.setJnl x).svc = s.svc := rfl
@[simp] theorem State.setJnl_buf (s : State) (x : Jnl) : (s.setJnl x).buf = s.buf := rfl
@[simp] theorem State.setJnl_tu (s : State) (x : Jnl) : (s.setJnl x).tu = s.tu := rfl
@[simp] theorem State.setJnl_jnl (s : State) (x : Jnl) : (s.setJnl x).jnl = x := rfl
@[simp] theorem State.setJnl_pmon (s : State) (x : Jnl) : (s.setJnl x).pmon = s.pmon := rfl
@[simp] theorem State.setJnl_twin (s : State) (x : Jnl) : (s.setJnl x).twin = s.twin := rfl
@[simp] theorem State.setJnl_flow (s : State) (x : Jnl) : (s.setJnl x).flow = s.flow := rfl
@[simp] theorem State.setJnl_host (s : State) (x : Jnl) : (s.setJnl x).host = s.host := rfl
@[simp] theorem State.setJnl_mem (s : State) (x : Jnl) : (s.setJnl x).mem = s.mem := rfl
@[simp] theorem State.setPmon_pending (s : State) (x : Pmon) : (s.setPmon x).pending = s.pending := rfl
@[simp] theorem State.setPmon_free (s : State) (x : Pmon) : (s.setPmon x).free = s.free := rfl
@[simp] theorem State.setPmon_sys (s : State) (x : Pmon) : (s.setPmon x).sys = s.sys := rfl
@[simp] theorem State.setPmon_tick (s : State) (x : Pmon) : (s.setPmon x).tick = s.tick := rfl
@[simp] theorem State.setPmon_toune (s : State) (x : Pmon) : (s.setPmon x).toune = s.toune := rfl
@[simp] theorem State.setPmon_prm (s : State) (x : Pmon) : (s.setPmon x).prm = s.prm := rfl
@[simp] theorem State.setPmon_cal (s : State) (x : Pmon) : (s.setPmon x).cal = s.cal := rfl
@[simp] theorem State.setPmon_flash (s : State) (x : Pmon) : (s.setPmon x).flash = s.flash := rfl
@[simp] theorem State.setPmon_zal (s : State) (x : Pmon) : (s.setPmon x).zal = s.zal := rfl
@[simp] theorem State.setPmon_power (s : State) (x : Pmon) : (s.setPmon x).power = s.power := rfl
@[simp] theorem State.setPmon_ports (s : State) (x : Pmon) : (s.setPmon x).ports = s.ports := rfl
@[simp] theorem State.setPmon_path (s : State) (x : Pmon) : (s.setPmon x).path = s.path := rfl
@[simp] theorem State.setPmon_svc (s : State) (x : Pmon) : (s.setPmon x).svc = s.svc := rfl
@[simp] theorem State.setPmon_buf (s : State) (x : Pmon) : (s.setPmon x).buf = s.buf := rfl
@[simp] theorem State.setPmon_tu (s : State) (x : Pmon) : (s.setPmon x).tu = s.tu := rfl
@[simp] theorem State.setPmon_jnl (s : State) (x : Pmon) : (s.setPmon x).jnl = s.jnl := rfl
@[simp] theorem State.setPmon_pmon (s : State) (x : Pmon) : (s.setPmon x).pmon = x := rfl
@[simp] theorem State.setPmon_twin (s : State) (x : Pmon) : (s.setPmon x).twin = s.twin := rfl
@[simp] theorem State.setPmon_flow (s : State) (x : Pmon) : (s.setPmon x).flow = s.flow := rfl
@[simp] theorem State.setPmon_host (s : State) (x : Pmon) : (s.setPmon x).host = s.host := rfl
@[simp] theorem State.setPmon_mem (s : State) (x : Pmon) : (s.setPmon x).mem = s.mem := rfl
@[simp] theorem State.setTwin_pending (s : State) (x : Twin) : (s.setTwin x).pending = s.pending := rfl
@[simp] theorem State.setTwin_free (s : State) (x : Twin) : (s.setTwin x).free = s.free := rfl
@[simp] theorem State.setTwin_sys (s : State) (x : Twin) : (s.setTwin x).sys = s.sys := rfl
@[simp] theorem State.setTwin_tick (s : State) (x : Twin) : (s.setTwin x).tick = s.tick := rfl
@[simp] theorem State.setTwin_toune (s : State) (x : Twin) : (s.setTwin x).toune = s.toune := rfl
@[simp] theorem State.setTwin_prm (s : State) (x : Twin) : (s.setTwin x).prm = s.prm := rfl
@[simp] theorem State.setTwin_cal (s : State) (x : Twin) : (s.setTwin x).cal = s.cal := rfl
@[simp] theorem State.setTwin_flash (s : State) (x : Twin) : (s.setTwin x).flash = s.flash := rfl
@[simp] theorem State.setTwin_zal (s : State) (x : Twin) : (s.setTwin x).zal = s.zal := rfl
@[simp] theorem State.setTwin_power (s : State) (x : Twin) : (s.setTwin x).power = s.power := rfl
@[simp] theorem State.setTwin_ports (s : State) (x : Twin) : (s.setTwin x).ports = s.ports := rfl
@[simp] theorem State.setTwin_path (s : State) (x : Twin) : (s.setTwin x).path = s.path := rfl
@[simp] theorem State.setTwin_svc (s : State) (x : Twin) : (s.setTwin x).svc = s.svc := rfl
@[simp] theorem State.setTwin_buf (s : State) (x : Twin) : (s.setTwin x).buf = s.buf := rfl
@[simp] theorem State.setTwin_tu (s : State) (x : Twin) : (s.setTwin x).tu = s.tu := rfl
@[simp] theorem State.setTwin_jnl (s : State) (x : Twin) : (s.setTwin x).jnl = s.jnl := rfl
@[simp] theorem State.setTwin_pmon (s : State) (x : Twin) : (s.setTwin x).pmon = s.pmon := rfl
@[simp] theorem State.setTwin_twin (s : State) (x : Twin) : (s.setTwin x).twin = x := rfl
@[simp] theorem State.setTwin_flow (s : State) (x : Twin) : (s.setTwin x).flow = s.flow := rfl
@[simp] theorem State.setTwin_host (s : State) (x : Twin) : (s.setTwin x).host = s.host := rfl
@[simp] theorem State.setTwin_mem (s : State) (x : Twin) : (s.setTwin x).mem = s.mem := rfl
@[simp] theorem State.setFlow_pending (s : State) (x : Flow) : (s.setFlow x).pending = s.pending := rfl
@[simp] theorem State.setFlow_free (s : State) (x : Flow) : (s.setFlow x).free = s.free := rfl
@[simp] theorem State.setFlow_sys (s : State) (x : Flow) : (s.setFlow x).sys = s.sys := rfl
@[simp] theorem State.setFlow_tick (s : State) (x : Flow) : (s.setFlow x).tick = s.tick := rfl
@[simp] theorem State.setFlow_toune (s : State) (x : Flow) : (s.setFlow x).toune = s.toune := rfl
@[simp] theorem State.setFlow_prm (s : State) (x : Flow) : (s.setFlow x).prm = s.prm := rfl
@[simp] theorem State.setFlow_cal (s : State) (x : Flow) : (s.setFlow x).cal = s.cal := rfl
@[simp] theorem State.setFlow_flash (s : State) (x : Flow) : (s.setFlow x).flash = s.flash := rfl
@[simp] theorem State.setFlow_zal (s : State) (x : Flow) : (s.setFlow x).zal = s.zal := rfl
@[simp] theorem State.setFlow_power (s : State) (x : Flow) : (s.setFlow x).power = s.power := rfl
@[simp] theorem State.setFlow_ports (s : State) (x : Flow) : (s.setFlow x).ports = s.ports := rfl
@[simp] theorem State.setFlow_path (s : State) (x : Flow) : (s.setFlow x).path = s.path := rfl
@[simp] theorem State.setFlow_svc (s : State) (x : Flow) : (s.setFlow x).svc = s.svc := rfl
@[simp] theorem State.setFlow_buf (s : State) (x : Flow) : (s.setFlow x).buf = s.buf := rfl
@[simp] theorem State.setFlow_tu (s : State) (x : Flow) : (s.setFlow x).tu = s.tu := rfl
@[simp] theorem State.setFlow_jnl (s : State) (x : Flow) : (s.setFlow x).jnl = s.jnl := rfl
@[simp] theorem State.setFlow_pmon (s : State) (x : Flow) : (s.setFlow x).pmon = s.pmon := rfl
@[simp] theorem State.setFlow_twin (s : State) (x : Flow) : (s.setFlow x).twin = s.twin := rfl
@[simp] theorem State.setFlow_flow (s : State) (x : Flow) : (s.setFlow x).flow = x := rfl
@[simp] theorem State.setFlow_host (s : State) (x : Flow) : (s.setFlow x).host = s.host := rfl
@[simp] theorem State.setFlow_mem (s : State) (x : Flow) : (s.setFlow x).mem = s.mem := rfl
@[simp] theorem State.setHost_pending (s : State) (x : HostIf) : (s.setHost x).pending = s.pending := rfl
@[simp] theorem State.setHost_free (s : State) (x : HostIf) : (s.setHost x).free = s.free := rfl
@[simp] theorem State.setHost_sys (s : State) (x : HostIf) : (s.setHost x).sys = s.sys := rfl
@[simp] theorem State.setHost_tick (s : State) (x : HostIf) : (s.setHost x).tick = s.tick := rfl
@[simp] theorem State.setHost_toune (s : State) (x : HostIf) : (s.setHost x).toune = s.toune := rfl
@[simp] theorem State.setHost_prm (s : State) (x : HostIf) : (s.setHost x).prm = s.prm := rfl
@[simp] theorem State.setHost_cal (s : State) (x : HostIf) : (s.setHost x).cal = s.cal := rfl
@[simp] theorem State.setHost_flash (s : State) (x : HostIf) : (s.setHost x).flash = s.flash := rfl
@[simp] theorem State.setHost_zal (s : State) (x : HostIf) : (s.setHost x).zal = s.zal := rfl
@[simp] theorem State.setHost_power (s : State) (x : HostIf) : (s.setHost x).power = s.power := rfl
@[simp] theorem State.setHost_ports (s : State) (x : HostIf) : (s.setHost x).ports = s.ports := rfl
@[simp] theorem State.setHost_path (s : State) (x : HostIf) : (s.setHost x).path = s.path := rfl
@[simp] theorem State.setHost_svc (s : State) (x : HostIf) : (s.setHost x).svc = s.svc := rfl
@[simp] theorem State.setHost_buf (s : State) (x : HostIf) : (s.setHost x).buf = s.buf := rfl
@[simp] theorem State.setHost_tu (s : State) (x : HostIf) : (s.setHost x).tu = s.tu := rfl
@[simp] theorem State.setHost_jnl (s : State) (x : HostIf) : (s.setHost x).jnl = s.jnl := rfl
@[simp] theorem State.setHost_pmon (s : State) (x : HostIf) : (s.setHost x).pmon = s.pmon := rfl
@[simp] theorem State.setHost_twin (s : State) (x : HostIf) : (s.setHost x).twin = s.twin := rfl
@[simp] theorem State.setHost_flow (s : State) (x : HostIf) : (s.setHost x).flow = s.flow := rfl
@[simp] theorem State.setHost_host (s : State) (x : HostIf) : (s.setHost x).host = x := rfl
@[simp] theorem State.setHost_mem (s : State) (x : HostIf) : (s.setHost x).mem = s.mem := rfl
@[simp] theorem State.setMem_pending (s : State) (x : Mem) : (s.setMem x).pending = s.pending := rfl
@[simp] theorem State.setMem_free (s : State) (x : Mem) : (s.setMem x).free = s.free := rfl
@[simp] theorem State.setMem_sys (s : State) (x : Mem) : (s.setMem x).sys = s.sys := rfl
@[simp] theorem State.setMem_tick (s : State) (x : Mem) : (s.setMem x).tick = s.tick := rfl
@[simp] theorem State.setMem_toune (s : State) (x : Mem) : (s.setMem x).toune = s.toune := rfl
@[simp] theorem State.setMem_prm (s : State) (x : Mem) : (s.setMem x).prm = s.prm := rfl
@[simp] theorem State.setMem_cal (s : State) (x : Mem) : (s.setMem x).cal = s.cal := rfl
@[simp] theorem State.setMem_flash (s : State) (x : Mem) : (s.setMem x).flash = s.flash := rfl
@[simp] theorem State.setMem_zal (s : State) (x : Mem) : (s.setMem x).zal = s.zal := rfl
@[simp] theorem State.setMem_power (s : State) (x : Mem) : (s.setMem x).power = s.power := rfl
@[simp] theorem State.setMem_ports (s : State) (x : Mem) : (s.setMem x).ports = s.ports := rfl
@[simp] theorem State.setMem_path (s : State) (x : Mem) : (s.setMem x).path = s.path := rfl
@[simp] theorem State.setMem_svc (s : State) (x : Mem) : (s.setMem x).svc = s.svc := rfl
@[simp] theorem State.setMem_buf (s : State) (x : Mem) : (s.setMem x).buf = s.buf := rfl
@[simp] theorem State.setMem_tu (s : State) (x : Mem) : (s.setMem x).tu = s.tu := rfl
@[simp] theorem State.setMem_jnl (s : State) (x : Mem) : (s.setMem x).jnl = s.jnl := rfl
@[simp] theorem State.setMem_pmon (s : State) (x : Mem) : (s.setMem x).pmon = s.pmon := rfl
@[simp] theorem State.setMem_twin (s : State) (x : Mem) : (s.setMem x).twin = s.twin := rfl
@[simp] theorem State.setMem_flow (s : State) (x : Mem) : (s.setMem x).flow = s.flow := rfl
@[simp] theorem State.setMem_host (s : State) (x : Mem) : (s.setMem x).host = s.host := rfl
@[simp] theorem State.setMem_mem (s : State) (x : Mem) : (s.setMem x).mem = x := rfl

end Sys2Proof.Machine
end

