-- ==== Sys2Proof/Laws/Toune.lean ====
section
/-! SUPPORT. What answering a Toune request does: a request that runs is its body followed by one answer, and an answer
changes the protocol's own state, the host interface and the counters only. -/

namespace Sys2Proof.Machine

/-! ### Settings stand while counters count -/

theorem OnlyAnswers.rfl' (s : State) : OnlyAnswers s s :=
  ⟨rfl, rfl, rfl, rfl, rfl, rfl, rfl, rfl, rfl, rfl, fun _ => List.prefix_refl _, rfl, rfl, rfl, rfl, rfl, rfl, rfl, rfl⟩

theorem OnlyAnswers.trans {a b c : State} (h : OnlyAnswers a b) (k : OnlyAnswers b c) : OnlyAnswers a c :=
  ⟨k.pending.trans h.pending, k.sys.trans h.sys, k.tick.trans h.tick, k.regs.trans h.regs, k.cal.trans h.cal,
    k.flash.trans h.flash, k.zal.trans h.zal, k.power.trans h.power, k.ports.trans h.ports,
    k.path.trans (congrArg (fun x : Path => { x with gens := c.path.gens }) h.path),
    fun p => (h.gens p).trans (k.gens p), k.svc.trans h.svc, k.buf.trans h.buf, k.tu.trans h.tu, k.jnl.trans h.jnl,
    k.pmon.trans h.pmon, k.twin.trans h.twin, k.flow.trans h.flow, k.mem.trans h.mem⟩

theorem OnlyAnswers.ite {c : Prop} [Decidable c] {s a b : State} (h1 : OnlyAnswers s a) (h2 : OnlyAnswers s b) :
    OnlyAnswers s (if c then a else b) := by split <;> assumption

/-- An update of the host interface alone. -/
theorem setHost_answers (x : HostIf) (s : State) : OnlyAnswers s (s.setHost x) :=
  ⟨rfl, rfl, rfl, rfl, rfl, rfl, rfl, rfl, rfl, rfl, fun _ => List.prefix_refl _, rfl, rfl, rfl, rfl, rfl, rfl, rfl, rfl⟩
/-- An update of the protocol's own state alone. -/
theorem setToune_answers (x : Toune) (s : State) : OnlyAnswers s (s.setToune x) :=
  ⟨rfl, rfl, rfl, rfl, rfl, rfl, rfl, rfl, rfl, rfl, fun _ => List.prefix_refl _, rfl, rfl, rfl, rfl, rfl, rfl, rfl, rfl⟩
/-- A free value drawn. -/
theorem drawn_answers (s : State) : OnlyAnswers s (drawn s) :=
  ⟨rfl, rfl, rfl, rfl, rfl, rfl, rfl, rfl, rfl, rfl, fun _ => List.prefix_refl _, rfl, rfl, rfl, rfl, rfl, rfl, rfl, rfl⟩
/-- A counter counts. -/
theorem bump_answers (bits cls inst w n : Nat) (s : State) : OnlyAnswers s (bump bits cls inst w n s) :=
  ⟨rfl, rfl, rfl, rfl, rfl, rfl, rfl, rfl, rfl, rfl, fun _ => List.prefix_refl _, rfl, rfl, rfl, rfl, rfl, rfl, rfl, rfl⟩

/-! ### Delivery -/

theorem hostSend_answers (f : HostFrame) (s : State) : OnlyAnswers s (hostSend f s) :=
  ((setHost_answers _ _).trans (bump_answers ..)).trans (bump_answers ..)

theorem issueReq_answers (q : Nat) (r : OutReq) (s : State) : OnlyAnswers s (issueReq q r s) := by
  unfold issueReq
  exact OnlyAnswers.ite (((setHost_answers _ _).trans (hostSend_answers _ _)).trans (bump_answers ..)) (setHost_answers _ _)

theorem issueReq_toune (q : Nat) (r : OutReq) (s : State) : (issueReq q r s).toune = s.toune := by
  unfold issueReq
  dsimp only
  split <;> rfl

theorem hostWrite_answers (k off : Nat) (b : List Byte) (i : Option Word) (p : Purpose) (s : State) :
    OnlyAnswers s (hostWrite k off b i p s).1 := by
  unfold hostWrite
  split
  · exact OnlyAnswers.rfl' _
  · exact issueReq_answers ..

theorem hostWrite_toune (k off : Nat) (b : List Byte) (i : Option Word) (p : Purpose) (s : State) :
    (hostWrite k off b i p s).1.toune = s.toune := by
  unfold hostWrite
  split
  · rfl
  · exact issueReq_toune ..

/-- A frame joins those that wait at a pipeline to be generated. -/
theorem genFrame_answers (p : Nat) (g : GenFrame) (s : State) :
    OnlyAnswers s (s.setPath { s.path with gens := tput s.path.gens p (tgetD (fun _ => []) s.path.gens p ++ [g]) }) := by
  refine ⟨rfl, rfl, rfl, rfl, rfl, rfl, rfl, rfl, rfl, rfl, fun q => ?_, rfl, rfl, rfl, rfl, rfl, rfl, rfl, rfl⟩
  show _ <+: tgetD _ (tput s.path.gens p _) q
  rw [tgetD_tput]
  by_cases h : q = p
  · subst h
    rw [if_pos (Eq.refl q)]
    exact List.prefix_append _ _
  · exact if_neg (c := q = p) h ▸ List.prefix_refl _

theorem sendBoot_answers (n : Nat) (dst : List Byte) (kind : Nat) (m : List Byte) (s : State) :
    OnlyAnswers s (sendBoot n dst kind m s) := by
  unfold sendBoot
  exact OnlyAnswers.ite (hostSend_answers _ _) ((genFrame_answers ..).trans (drawn_answers _))

theorem sendBoot_toune (n : Nat) (dst : List Byte) (kind : Nat) (m : List Byte) (s : State) :
    (sendBoot n dst kind m s).toune = s.toune := by
  unfold sendBoot
  dsimp only
  split <;> rfl

theorem endSlot_answers (k : Nat) (p : Response) (s : State) : OnlyAnswers s (endSlot k p s) := by
  unfold endSlot
  refine OnlyAnswers.ite (setHost_answers _ _) ?_
  exact OnlyAnswers.ite (setHost_answers _ _) ((setHost_answers _ _).trans (hostWrite_answers ..))

theorem endSlot_toune (k : Nat) (p : Response) (s : State) : (endSlot k p s).toune = s.toune := by
  unfold endSlot
  dsimp only
  split
  · rfl
  · split
    · rfl
    · exact (hostWrite_toune ..).trans rfl

theorem endMessageJob_answers (p : Response) (s : State) : OnlyAnswers s (endMessageJob p s) := by
  unfold endMessageJob
  dsimp only
  split
  · exact OnlyAnswers.rfl' _
  · exact (hostWrite_answers ..).trans (setHost_answers _ _)

theorem endMessageJob_toune (p : Response) (s : State) : (endMessageJob p s).toune = s.toune := by
  unfold endMessageJob
  dsimp only
  split
  · rfl
  · exact (show (modJob _ _ _ _).toune = _ from rfl).trans (hostWrite_toune ..)

/-- Delivery changes what an answer may change. -/
theorem deliver_answers (p : Response) (s : State) : OnlyAnswers s (deliver p s) := by
  unfold deliver
  split
  · exact endMessageJob_answers ..
  · split
    · exact endSlot_answers ..
    · exact OnlyAnswers.rfl' _
  · split
    · exact (endSlot_answers ..).trans (sendBoot_answers ..)
    · exact sendBoot_answers ..

/-- Delivery leaves the protocol's own state as it is. -/
theorem deliver_toune (p : Response) (s : State) : (deliver p s).toune = s.toune := by
  unfold deliver
  split
  · exact endMessageJob_toune ..
  · split
    · exact endSlot_toune ..
    · rfl
  · split
    · exact (sendBoot_toune ..).trans (endSlot_toune ..)
    · exact sendBoot_toune ..

/-! ### Answers -/

theorem send_answers (p : Response) (s : State) : OnlyAnswers s (send p s) := by
  unfold send
  have h : OnlyAnswers s (deliver p (s.setToune { s.toune with responses := s.toune.responses ++ [p] })) :=
    (setToune_answers _ _).trans (deliver_answers ..)
  exact OnlyAnswers.ite (h.trans (setToune_answers _ _)) h

theorem send_responses (p : Response) (s : State) : (send p s).toune.responses = s.toune.responses ++ [p] := by
  unfold send
  dsimp only
  split <;> simp [setSession, deliver_toune]

theorem send_events (p : Response) (s : State) : (send p s).toune.events = s.toune.events := by
  unfold send
  dsimp only
  split <;> simp [setSession, deliver_toune]

theorem send_handles (p : Response) (s : State) : (send p s).toune.handles = s.toune.handles := by
  unfold send
  dsimp only
  split <;> simp [setSession, deliver_toune]

theorem audit_answers (op : Nat) (r : Req) (rep : Reply) (u : Bool) (s : State) : OnlyAnswers s (audit op r rep u s) :=
  setToune_answers _ _

theorem finish_answers (op : Nat) (r : Req) (rep : Reply) (u : Bool) (s : State) : OnlyAnswers s (finish op r rep u s) := by
  unfold finish
  extract_lets x p s1 s2 id
  have h1 : OnlyAnswers s s1 := OnlyAnswers.ite (audit_answers ..) (OnlyAnswers.rfl' _)
  have h2 : OnlyAnswers s s2 := OnlyAnswers.ite h1 (h1.trans (send_answers ..))
  exact OnlyAnswers.ite (h2.trans (setToune_answers _ _)) h2

/-- A request whose answer does not wait is answered once. -/
theorem finish_answered (op : Nat) (r : Req) (rep : Reply) (u : Bool) (s : State) (h : rep.waits = false) :
    ∃ p : Response, (finish op r rep u s).toune.responses = s.toune.responses ++ [p] ∧ p.opcode = op ∧
      p.session = r.session ∧ p.sequence = r.sequence ∧ p.status = rep.status ∧ p.payload = rep.payload ∧
      p.handle = rep.handle := by
  unfold finish
  extract_lets x p s1 s2 id
  refine ⟨p, ?_, rfl, rfl, rfl, rfl, rfl, rfl⟩
  have h1 : s1.toune.responses = s.toune.responses := by
    show (if _ then _ else _ : State).toune.responses = _
    split <;> rfl
  have h2 : s2.toune.responses = s.toune.responses ++ [p] := by
    show (if rep.waits = true then s1 else send p s1).toune.responses = _
    rw [h, if_neg (by decide), send_responses, h1]
  split
  · exact h2
  · exact h2

theorem finish_events (op : Nat) (r : Req) (rep : Reply) (u : Bool) (s : State) :
    (finish op r rep u s).toune.events = s.toune.events := by
  unfold finish
  extract_lets x p s1 s2 id
  have h1 : s1.toune.events = s.toune.events := by
    show (if _ then _ else _ : State).toune.events = _
    split <;> rfl
  have h2 : s2.toune.events = s.toune.events := by
    show (if rep.waits = true then s1 else send p s1).toune.events = _
    split
    · exact h1
    · rw [send_events, h1]
  split
  · exact h2
  · exact h2

theorem finish_handles (op : Nat) (r : Req) (rep : Reply) (u : Bool) (s : State) :
    (finish op r rep u s).toune.handles = s.toune.handles := by
  unfold finish
  extract_lets x p s1 s2 id
  have h1 : s1.toune.handles = s.toune.handles := by
    show (if _ then _ else _ : State).toune.handles = _
    split <;> rfl
  have h2 : s2.toune.handles = s.toune.handles := by
    show (if rep.waits = true then s1 else send p s1).toune.handles = _
    split
    · exact h1
    · rw [send_handles, h1]
  split
  · exact h2
  · exact h2

/-- Noting a request changes nothing but the session's latest request. -/
theorem touch_answers (r : Req) (s : State) : OnlyAnswers s (touch r s) := by
  unfold touch
  exact OnlyAnswers.ite (setToune_answers _ _) (OnlyAnswers.rfl' _)

/-! ### Sessions -/

theorem sessionAt_setSession (i j : Nat) (x : Session) (s : State) :
    sessionAt (setSession i x s) j = if j = i then x else sessionAt s j := tgetD_tput ..

theorem handleAt_setHandle (i j : Nat) (x : Handle) (s : State) :
    handleAt (setHandle i x s) j = if j = i then x else handleAt s j := tgetD_tput ..

/-- A session after a request has been noted: as before but for the tick of its latest request. -/
theorem sessionAt_touch (r : Req) (s : State) (i : Nat) :
    sessionAt (touch r s) i =
      if sessionOpen? s r.session = true ∧ i = sessionIdx r.session then
        { sessionAt s i with lastReq := s.tick.count } else sessionAt s i := by
  unfold touch
  dsimp only
  by_cases h : sessionOpen? s r.session = true
  · rw [if_pos h, sessionAt_setSession]
    by_cases h2 : i = sessionIdx r.session
    · rw [if_pos h2, if_pos ⟨h, h2⟩, h2]
    · rw [if_neg h2, if_neg (fun q => h2 q.2)]
  · rw [if_neg h, if_neg (fun q => h q.1)]

theorem sessionOpen_touch (r : Req) (s : State) (id : Word) : sessionOpen? (touch r s) id = sessionOpen? s id := by
  unfold sessionOpen?
  rw [sessionAt_touch]
  dsimp only
  split <;> rfl

theorem touch_responses (r : Req) (s : State) : (touch r s).toune.responses = s.toune.responses := by
  unfold touch
  dsimp only
  split <;> rfl

theorem touch_events (r : Req) (s : State) : (touch r s).toune.events = s.toune.events := by
  unfold touch
  dsimp only
  split <;> rfl

theorem touch_handles (r : Req) (s : State) : (touch r s).toune.handles = s.toune.handles := by
  unfold touch
  dsimp only
  split <;> rfl

theorem touch_host (r : Req) (s : State) : (touch r s).host = s.host := by
  unfold touch
  dsimp only
  split <;> rfl

theorem touch_prm (r : Req) (s : State) : (touch r s).prm = s.prm := by
  unfold touch
  dsimp only
  split <;> rfl

theorem touch_audit (r : Req) (s : State) : (touch r s).toune.audit = s.toune.audit ∧
    (touch r s).toune.auditNext = s.toune.auditNext := by
  unfold touch
  dsimp only
  split <;> exact ⟨rfl, rfl⟩

theorem touch_opens (r : Req) (s : State) : (touch r s).toune.bootOpens = s.toune.bootOpens := by
  unfold touch
  dsimp only
  split <;> rfl

theorem expectVersion_touch (op : Nat) (r : Req) (s : State) : expectVersion (touch r s) op r = expectVersion s op r := by
  unfold expectVersion
  rw [sessionAt_touch]
  split
  · rfl
  · split <;> rfl

theorem refusal_touch (op : Nat) (r : Req) (s : State) : refusal op r (touch r s) = refusal op r s := by
  have h := touch_answers r s
  unfold refusal opExists
  rw [sessionOpen_touch, expectVersion_touch, h.sys]

theorem bootSeq_touch (op : Nat) (r : Req) (s : State) : bootSeq op r (touch r s) = bootSeq op r s := by
  have e : ∀ i, (sessionAt (touch r s) i).lastSeq = (sessionAt s i).lastSeq ∧
      (sessionAt (touch r s) i).lastResp = (sessionAt s i).lastResp := by
    intro i
    rw [sessionAt_touch]
    split <;> exact ⟨rfl, rfl⟩
  unfold bootSeq
  simp only [touch_opens, sessionOpen_touch, (e _).1, (e _).2]

/-- The checks 3 and 4 pass where all do. -/
theorem refusal_none {op : Nat} {r : Req} {s : State} (h : refusal op r s = none) :
    (!(sessionOpen? s r.session || (r.session == 0 && op == Op.sessionOpen)) ||
      r.protocol != expectVersion s op r) = false := by
  unfold refusal at h
  split at h
  · cases h
  · rename_i h1
    split at h
    · cases h
    · rename_i h2
      simp only [Bool.or_eq_false_iff]
      refine ⟨by simpa using h1, by simpa using h2⟩

/-- A request that runs is its command's body, then one answer (R478). -/
theorem runToune_runs (op : Nat) (body : Req → State → State × Reply) (r : Req) (s : State) (h : Runs op r s) :
    runToune op body r s = finish op r (body r (touch r s)).2 false (body r (touch r s)).1 := by
  have e := refusal_none ((refusal_touch op r s).trans h.checked)
  unfold runToune
  rw [if_neg (by simp [h.awake, h.complex])]
  dsimp only
  rw [e, bootSeq_touch, h.inOrder, refusal_touch, h.checked]
  rfl

/-- A request whose body answers at once: the body's state, and one answer with the body's status and payload. -/
theorem runs_effect {op : Nat} {body : Req → State → State × Reply} {r : Req} {s s' : State} {rep : Reply}
    (h : Runs op r s) (e : body r (touch r s) = (s', rep)) (w : rep.waits = false) :
    OnlyAnswers s' (runToune op body r s) ∧ Answered op r rep.status rep.payload s' (runToune op body r s) := by
  rw [runToune_runs op body r s h, e]
  obtain ⟨p, h1, h2, h3, h4, h5, h6, _⟩ := finish_answered op r rep false s' w
  exact ⟨finish_answers .., p, h1, h2, h3, h4, h5, h6⟩

/-- A request whose body changes nothing and answers at once. -/
theorem runs_answers {op : Nat} {body : Req → State → State × Reply} {r : Req} {s : State} {rep : Reply}
    (h : Runs op r s) (e : body r (touch r s) = (touch r s, rep)) (w : rep.waits = false) :
    OnlyAnswers s (runToune op body r s) ∧ Answered op r rep.status rep.payload s (runToune op body r s) := by
  obtain ⟨a, p, h1, h2⟩ := runs_effect h e w
  exact ⟨(touch_answers r s).trans a, p, by rw [h1, touch_responses], h2⟩

end Sys2Proof.Machine
end

