-- ==== Sys2Proof/Tests/Slice0.lean ====
section
/-! SUPPORT. Small tests, each one command on one small state.  Every test shows a state and operands that meet the
hypotheses of a clause of one of the statements (its name says which) and checks fields of the result against values written
out from the rule named beside it.  No expected value comes from the model. -/

namespace Sys2Proof.Tests

open Sys2Proof Sys2Proof.Machine

set_option maxRecDepth 20000
set_option Elab.async false

/-! ### Helpers -/

/-- A state meets some hypotheses, and the command answers a next state of which something holds. -/
def holds (s : State) (c : Instr) (hyp : State → Bool) (out : State → State → Bool) : Bool :=
  hyp s && (match exec c s with | .next t => out s t | _ => false)

/-- The command changes nothing. -/
def idle (s : State) (c : Instr) (hyp : State → Bool) : Bool :=
  hyp s && (match exec c s with | .next t => decide (t = s) | _ => false)

/-- CONFIGURE, the TU running in tick 100, with the pins of the island high, session index 1 open under identifier 0x101 with version 3. -/
def base : State := { State.reset with
  sys := { State.reset.sys with mode := .configure }
  tick := { State.reset.tick with running := true, count := 100, startFrc := 6553600000 }
  zal := { State.reset.zal with reqLevel := true, safeN := true, faultN := true }
  toune := { State.reset.toune with sessions := [(1, { gen := 1, isOpen := true, version := 3 })] } }

/-- The same in another mode. -/
def inMode (m : Mode) : State := { base with sys := { base.sys with mode := m } }

/-- A request of the open session with this payload. -/
def req (p : List Byte) : Req := { protocol := 3, session := 0x101, sequence := 7, payload := p }

/-- A request with data of a host region. -/
def reqData (p d : List Byte) : Req := { req p with hostData := some d }

/-- The request is executed: the hypothesis `Runs` of the statements, as a test. -/
def canRun (op : Nat) (r : Req) (s : State) : Bool :=
  decide (s.sys.mode ≠ .reset) && inService s 26 0 && decide (bootSeq op r s = .run) && (refusal op r s).isNone

/-- The test says what `Runs` says. -/
theorem runs_of_canRun {op : Nat} {r : Req} {s : State} (h : canRun op r s = true) : Runs op r s := by
  simp only [canRun, Bool.and_eq_true, decide_eq_true_eq, Option.isNone_iff_eq_none] at h
  exact ⟨h.1.1.1, h.1.1.2, h.1.2, h.2⟩

/-- The only response: its opcode, status and payload. -/
def answer (t : State) : List (Nat × Half × List Byte) := t.toune.responses.map (fun p => (p.opcode, p.status, p.payload))

/-- The codes and details of the events raised. -/
def raised (t : State) : List (Nat × List Byte) := t.toune.events.map (fun e => (e.code, e.detail))

/-- A request that runs, is answered with this status and payload, and leaves a state of which something holds. -/
def answers (op : Nat) (s : State) (c : Instr) (r : Req) (st : Half) (p : List Byte) (out : State → State → Bool) : Bool :=
  holds s c (fun s => canRun op r s) (fun s t => decide (answer t = [(op, st, p)]) && out s t)

/-- The step answers a next state of which something holds. -/
def steps (s : State) (out : State → Bool) : Bool := match step s with | .next t => out t | _ => false

/-- Bytes that are all 0. -/
def zeros (n : Nat) : List Byte := List.replicate n 0

/-- Registers set over a state: class, instance, word, value. -/
def withRegs (l : List (Nat × Nat × Nat × Word)) (s : State) : State :=
  { s with prm := { s.prm with regs := l.foldl (fun m e => tput m (paddr e.1 e.2.1 e.2.2.1) e.2.2.2) s.prm.regs } }

/-- Host region 4 of 2^40 bytes, readable and writable, on queue pair 2, which is in RTS (R437). -/
def withRegion (s : State) : State :=
  { s with host := { s.host with
      qp := [(2, { st := 1, arg := zeros 64 })]
      region := [(4, [4, 0, 2, 0, 9, 0, 0, 0] ++ zeros 8 ++ le 8 (2 ^ 40) ++ [3] ++ zeros 7)] } }

/-- What has been deferred. -/
def leaving (t : State) : List (Tick × Change) := t.sys.deferred.map (fun d => (d.due, d.change))

/-! ### The step, the invariants, reset and Kindling -/

/-- O1: the front command runs on the rest of the queue (98_reader). -/
theorem test_step_takes_front :
    steps { base with pending := [.safeReqNLow, .safeReqNHigh] }
      (fun t => t.pending = [.safeReqNHigh] ∧ t.zal.reqLevel = false) = true := by decide

/-- O2: an empty queue idles. -/
theorem test_step_idles : (decide (base.pending = []) && steps base (fun t => t = base)) = true := by decide

/-- O4: a command leaves the queue (R60: so does reset). -/
theorem test_queue_kept : holds { base with pending := [.safeReqNLow] } (.resetAssert 1000) (fun _ => true)
    (fun s t => t.pending = s.pending) = true := by decide

/-- O5, O15: tick 100 ends and tick 101 begins at FRC 101 × 65,536,000 (R30, R33). -/
theorem test_boundary_counts :
    (base.tick.startFrc = BitVec.ofNat 64 (65536000 * base.tick.count.toNat) ∧
    holds base (.tickBoundary {}) (fun s => s.sys.mode ≠ .reset ∧ s.tick.running = true)
      (fun _ t => t.tick.count = 101 ∧ t.tick.startFrc = 6619136000) = true) := by decide

/-- O5, O7: the invariants hold of the base state. -/
theorem test_base_invariants : TickOk base ∧ SetsOk base ∧ WinOk base := by
  refine ⟨?_, ?_, ?_⟩
  · unfold TickOk; decide
  · unfold SetsOk; decide
  · unfold WinOk; decide

/-- O5, O6, O7: a step of a state that meets the three invariants answers a next state. -/
theorem test_invariants_step :
    steps { base with pending := [.tickBoundary {}] } (fun t => t.tick.count = 101) = true := by decide

/-- O6: a seventeenth set drops the oldest of a domain (R384). -/
theorem test_sets_kept :
    holds { base with tu := { base.tu with domA := { base.tu.domA with
        sets := (List.range 16).map (fun i =>
          { seq := BitVec.ofNat 32 (i + 1), epoch := 1, cause := 1, anchor := 0, validFrom := 0, baseS := 0, baseNs := 0,
            baseFrac := 0, rate := 0 })
        pending := some { set :=
          { seq := 17, epoch := 1, cause := 1, anchor := 0, validFrom := 0, baseS := 0, baseNs := 0, baseFrac := 0,
            rate := 0 } } } } } (.domainSet false) (fun s => s.tu.domA.sets.length = 16)
      (fun _ t => t.tu.domA.sets.length = 16 ∧ (t.tu.domA.sets.head?.map (·.seq)) = some 2) = true := by decide

/-- O8: the invariants hold right after reset. -/
theorem test_reset_invariants : State.reset.tick.startFrc = 0 ∧ State.reset.tick.count = 0 ∧
    State.reset.tu.domA.sets = [] ∧ State.reset.host.stackWin = [] := by decide

/-- O9, O10, O11: a command other than reset and the boundary leaves the mode and the tick (R60, R62, R32). -/
theorem test_mode_kept : holds base .safeReqNLow (fun s => s.sys.mode ≠ .reset)
    (fun s t => t.sys.mode = s.sys.mode ∧ t.tick = s.tick ∧ t.ports = s.ports ∧ t.flow = s.flow ∧ t.zal ≠ s.zal) = true := by
  decide

/-- The idle front slots of a tick, and cycles that its strobe reports, count where they are selected (R15, R523, R524). -/
theorem test_tick_counts :
    (let s : State := { base with
      prm := { base.prm with regs := [(paddr 22 1 0x10, 0x12102), (paddr 22 1 0x11, 0x12141), (paddr 22 16 0x10, 0x1320A)] }
      path := { base.path with pipe := [(0, { frontSlots := 800 })] } }
     let t := openTick { cycles := [.issueHold 0 7, .laneIdle 0 9] } s
     counter t (paddr 22 1 0x100) = 4000 ∧ counter t (paddr 22 1 0x102) = 7 ∧ counter t (paddr 22 16 0x100) = 9) := by decide

/-- O9: in RESET a tick strobe leaves the device in RESET. -/
theorem test_reset_stays : idle State.reset (.tickBoundary {}) (fun s => s.sys.mode = .reset) = true := by decide

/-- O12: 1 µs of reset keeps the flash only; 999 ns may not, and 199 ns does nothing (R60, R599). -/
theorem test_reset_assert :
    holds { base with flash := { base.flash with bootCfg := [(1, 2)] } } (.resetAssert 1000) (fun _ => true)
      (fun s t => t = { State.reset with flash := s.flash }) = true ∧
    idle base (.resetAssert 199) (fun _ => true) = true := by decide

/-- O13: RESET_RELEASE samples the pins and starts step 1 (R60, R66); the event's old mode is 0 and new mode 1. -/
theorem test_reset_release :
    holds State.reset (.resetRelease 3 true) (fun s => s.sys.mode = .reset)
      (fun _ t => t.sys.mode = .kindling ∧ t.sys.bootMode = 3 ∧ t.sys.twinRole = true ∧ t.sys.kindling.running = [.s1] ∧
        t.zal.safeN = true ∧ t.zal.faultN = true ∧ raised t = [(Ev.modeChanged, [0, 1] ++ zeros 8)]) = true ∧
    idle base (.resetRelease 0 false) (fun s => s.sys.mode ≠ .reset) = true := by decide

/-- In Kindling with these steps running. -/
def kindling (l : List KStep) : State :=
  { State.reset with sys := { State.reset.sys with mode := .kindling, kindling := { running := l } } }

/-- O14: steps 1, 2 and 4 are followed by 2, 3 and 5 (R66). -/
theorem test_kindling_order :
    holds (kindling [.s1]) (.kindlingStepDone .s1 {}) (fun s => s.sys.mode = .kindling ∧ s.sys.kindling.running.contains .s1)
      (fun _ t => t.sys.mode = .kindling ∧ t.sys.kindling.running = [.s2]) = true ∧
    holds (kindling [.s2]) (.kindlingStepDone .s2 { flashMode := 1 }) (fun s => s.sys.kindling.running.contains .s2)
      (fun _ t => t.sys.kindling.running = [.s3] ∧ t.sys.flashMode = 1) = true ∧
    holds (kindling [.s4]) (.kindlingStepDone .s4 {}) (fun s => s.sys.kindling.running.contains .s4)
      (fun _ t => t.sys.kindling.running = [.s5]) = true := by decide

/-- O14: step 3 with the PLL locked starts the TU with tick and FRC 0 (R32, R67). -/
theorem test_kindling_starts_the_tu :
    holds (kindling [.s3]) (.kindlingStepDone .s3 { ok := true })
      (fun s => s.sys.kindling.running.contains .s3 ∧ s.sys.kindling.retrying = false)
      (fun _ t => t.sys.kindling.running = [.s4] ∧ t.tick.running = true ∧ t.tick.count = 0 ∧ t.tick.startFrc = 0) = true := by
  decide

/-- O14: after step 5 all three branches run, but only 6c in a hold (R60, R66). -/
theorem test_kindling_branches :
    holds (kindling [.s5]) (.kindlingStepDone .s5 {}) (fun s => s.sys.kindling.running.contains .s5)
      (fun _ t => t.sys.kindling.running = [.s6a, .s6b, .s6c]) = true ∧
    holds { kindling [.s5] with sys := { (kindling [.s5]).sys with bootMode := 3 } } (.kindlingStepDone .s5 {})
      (fun s => s.sys.kindling.running.contains .s5) (fun _ t => t.sys.kindling.running = [.s6c]) = true := by decide

/-- O14: branch 6a ending last starts step 7; a branch that ends is listed (R66). -/
theorem test_kindling_branch_ends :
    holds { kindling [.s6a] with sys := { (kindling [.s6a]).sys with
        kindling := { running := [.s6a], branches := [.s6b, .s6c] } } } (.kindlingStepDone .s6a {})
      (fun s => s.sys.kindling.running.contains .s6a)
      (fun _ t => t.sys.kindling.branches = [.s6b, .s6c, .s6a] ∧ t.sys.kindling.running = [.s7]) = true ∧
    holds (kindling [.s6a, .s6b, .s6c]) (.kindlingStepDone .s6b {}) (fun s => s.sys.kindling.running.contains .s6b)
      (fun _ t => t.sys.kindling.branches.contains .s6b ∧ t.sys.mode = .kindling) = true ∧
    holds (kindling [.s6a, .s6b, .s6c]) (.kindlingStepDone .s6c {}) (fun s => s.sys.kindling.running.contains .s6c)
      (fun _ t => t.sys.kindling.branches.contains .s6c ∧ t.sys.mode = .kindling) = true := by decide

/-- O14: step 7 ends Kindling and sets the transition to CONFIGURE for the next boundary (R60, R66). -/
theorem test_kindling_ends :
    holds (kindling [.s7]) (.kindlingStepDone .s7 { ms := 350 })
      (fun s => s.sys.kindling.running.contains .s7 ∧ s.sys.kindling.toSafe = false)
      (fun _ t => t.sys.kindling.running = [] ∧ t.sys.kindling.finished = true ∧ t.sys.kindlingMs = 350 ∧
        t.sys.pendingMode = some { target := .configure, due := 1 }) = true := by decide

/-- O14: the retry with the PLL locked starts the TU (R67). -/
theorem test_tref_retry :
    holds { kindling [.s3] with sys := { (kindling [.s3]).sys with kindling := { running := [.s3], retrying := true } } }
      (.trefLockRetry {}) (fun s => s.sys.mode = .kindling ∧ s.sys.kindling.retrying = true)
      (fun _ t => t.sys.kindling.running = [.s4] ∧ t.sys.kindling.retrying = false ∧ t.tick.running = true ∧
        t.tick.count = 0) = true := by decide

/-- O15: before the TU runs a strobe does nothing (R32). -/
theorem test_no_tick_before_the_tu : idle (kindling [.s1]) (.tickBoundary {}) (fun s => s.tick.running = false) = true := by
  decide

/-- A state of a mode with a transition pending. -/
def wanting (m target : Mode) (due : Tick) : State :=
  { inMode m with sys := { (inMode m).sys with pendingMode := some { target := target, due := due } } }

/-- O16: a transition due at tick 101 happens at its boundary, one due at 102 does not (R60, R62). -/
theorem test_mode_transitions :
    holds (wanting .configure .test 101) (.tickBoundary {}) (fun s => s.tick.running ∧ s.zal.toSafe = [])
      (fun _ t => t.sys.mode = .test) = true ∧
    holds (wanting .configure .service 101) (.tickBoundary {}) (fun s => s.tick.running ∧ s.zal.toSafe = [])
      (fun _ t => t.sys.mode = .service) = true ∧
    holds (wanting .configure .test 102) (.tickBoundary {}) (fun s => s.tick.running ∧ s.zal.toSafe = [])
      (fun _ t => t.sys.mode = .configure) = true ∧
    holds (wanting .safe .configure 101) (.tickBoundary {}) (fun s => s.tick.running ∧ s.zal.toSafe = [])
      (fun _ t => t.sys.mode = .configure) = true := by decide

/-- O17: a cause that asks for SAFE takes every mode of R60 into SAFE at the next boundary. -/
theorem test_cause_enters_safe :
    ([Mode.configure, .service, .degraded, .standby, .test].all (fun m =>
      holds { inMode m with zal := { (inMode m).zal with toSafe := [1] } } (.tickBoundary {})
        (fun s => s.tick.running ∧ s.zal.toSafe ≠ []) (fun _ t => t.sys.mode = .safe))) = true ∧
    holds { base with sys := { base.sys with mode := .kindling, kindling := { finished := true, toSafe := true } } }
      (.tickBoundary {}) (fun s => s.tick.running ∧ s.sys.kindling.finished ∧ s.sys.kindling.toSafe)
      (fun _ t => t.sys.mode = .safe) = true := by decide

/-- O18: Core 2.s overrun takes it out at the next boundary; the TU's takes the device to SAFE (R52). -/
theorem test_overrun :
    holds base (.tickOverrun ⟨21, 2⟩) (fun s => overrunUnit ⟨21, 2⟩ = some ⟨21, 2⟩ ∧ unitState s ⟨21, 2⟩ = .inService ∧
        isAbsent s 21 2 = false ∧ overrunSafe s ⟨21, 2⟩ = false)
      (fun s t => t.tick.overrunCls = 21 ∧ t.tick.overrunInst = 2 ∧ t.tick.overrunTick = 100 ∧
        t.sys.deferred = [{ due := 101, change := .unitOut ⟨21, 2⟩ 0 }] ∧ t.zal = s.zal) = true ∧
    holds base (.tickOverrun ⟨2, 0⟩) (fun s => overrunUnit ⟨2, 0⟩ = some ⟨2, 0⟩ ∧ unitState s ⟨2, 0⟩ = .inService ∧
        isAbsent s 2 0 = false ∧ overrunSafe s ⟨2, 0⟩ = true)
      (fun _ t => t.zal.toSafe = [7] ∧ t.zal.faultN = false ∧ (⟨2, 0⟩ : UnitId) ∈ t.zal.units ∧ t.sys.deferred = []) = true := by
  decide

/-! ### The island, the board, modes, units, calibration and firmware -/

/-- O19: LOCKSTEP_MISMATCH records cause 1 and both pins fall; DIE_LINK_FAIL cause 8 with its channel (R559, R23). -/
theorem test_lockstep_and_die_link :
    holds base .lockstepMismatch (fun s => s.sys.mode ≠ .reset)
      (fun _ t => t.zal.status = 2 ∧ t.zal.safeN = false ∧ t.zal.faultN = false ∧ t.zal.toSafe = [1]) = true ∧
    holds base (.dieLinkFail 2) (fun s => s.sys.mode ≠ .reset)
      (fun _ t => t.zal.status = 0x100 ∧ t.zal.logNext = 1 ∧ t.zal.log.map (fun e => (e.cause, e.cls, e.detail)) = [(8, 0xFF, 2)])
      = true := by decide

/-- O19: ISLAND_SILENT of the East die (R562). -/
theorem test_island_silent :
    holds base (.islandSilent 1) (fun s => s.tick.running ∧ s.zal.silentDies.contains 1 = false)
      (fun _ t => t.zal.status = 4 ∧ t.zal.silentDies = [1] ∧ t.zal.safeN = false ∧ t.zal.faultN = false) = true := by decide

/-- O19: a rail of 1.2 V nominal is out at 0 V; VDD_ZAL, rail 9, drops both pins (R559, R593). -/
theorem test_supply_fault :
    holds base (.supplyFault 3 0) (fun s => s.sys.kindling.running.contains .s1 = false ∧ s.zal.railsOut.contains 3 = false ∧
        windowHolds s 3 0 ≠ some true)
      (fun _ t => t.zal.railsOut = [3] ∧ t.zal.status = 0x10 ∧ t.zal.cond = 0x10 ∧ t.zal.faultN = false ∧
        t.zal.log.map (·.detail) = [3]) = true ∧
    holds base (.supplyFault 9 0) (fun s => windowHolds s 9 0 ≠ some true)
      (fun _ t => t.zal.safeN = false ∧ t.zal.faultN = false) = true := by decide

/-- O19: CORE_PLL of a die, and SAFE_REQ_N low (R559, R564). -/
theorem test_pll_and_safe_req :
    holds base (.corePllUnlock 1) (fun s => s.zal.pllOut.contains 1 = false)
      (fun _ t => t.zal.pllOut = [1] ∧ t.zal.status = 0x20 ∧ t.zal.cond = 0x20 ∧ t.zal.log.map (·.detail) = [1]) = true ∧
    holds base .safeReqNLow (fun s => s.zal.reqLevel = true)
      (fun _ t => t.zal.reqLevel = false ∧ t.zal.status = 0x4000 ∧ t.zal.cond = 0x4000) = true := by decide

/-- O20: SAFE_REQ_N high ends the condition and leaves the status bit (R564). -/
theorem test_safe_req_high :
    holds { base with zal := { base.zal with reqLevel := false, cond := 0x4010, status := 0x4010 } } .safeReqNHigh
      (fun s => s.sys.mode ≠ .reset ∧ s.zal.reqLevel = false)
      (fun _ t => t.zal.reqLevel = true ∧ t.zal.cond = 0x10 ∧ t.zal.status = 0x4010) = true := by decide

/-- O20: the last rail inside its window, and the last die in lock, start the wait of 1,024 ticks (R559). -/
theorem test_restored :
    holds { base with zal := { base.zal with railsOut := [3], status := 0x10, cond := 0x10 } } (.supplyRestored 3 1200000)
      (fun s => s.zal.railsOut.contains 3 ∧ windowHolds s 3 1200000 ≠ some false)
      (fun _ t => t.zal.railsOut = [] ∧ tfind t.zal.goodSince 4 = some 100 ∧ t.zal.status = 0x10) = true ∧
    holds { base with zal := { base.zal with pllOut := [0, 1], status := 0x20 } } (.corePllRelock 1)
      (fun s => s.zal.pllOut.contains 1) (fun _ t => t.zal.pllOut = [0] ∧ t.zal.status = 0x20) = true ∧
    holds { base with zal := { base.zal with pllOut := [1], status := 0x20 } } (.corePllRelock 1)
      (fun s => s.zal.pllOut.contains 1)
      (fun _ t => t.zal.pllOut = [] ∧ tfind t.zal.goodSince 5 = some 100 ∧ t.zal.status = 0x20) = true := by decide

/-- O20: a self-test that misses nothing (R568). -/
theorem test_selftest_done :
    holds { base with
        zal := { base.zal with selftestOp := some 0x1000000 }
        toune := { base.toune with handles := [(0, { gen := 1, st := .running, opcode := 0xA22 })] } }
      (.safetySelftestDone 0) (fun s => s.zal.selftestOp = some 0x1000000)
      (fun _ t => t.zal.selftestOp = none ∧ t.zal.selftest = 0 ∧ (handleAt t 0).st = .done ∧ (handleAt t 0).status = 0 ∧
        (handleAt t 0).result = zeros 12) = true := by decide

/-- A calibration record whose sensor offsets are 0 (R73), and no cross-check of the domains. -/
def cool : State :=
  { base with
    cal := { base.cal with work := (List.range 48).map (fun i => (0xA40 + i, 0)) }
    prm := { base.prm with regs := [(paddr 2 0 6, 0)] } }

/-- O21: the mirror's difference is cause 9; equal counts record nothing (R22, R47). -/
theorem test_tick_checks :
    holds cool (.zaluaTickChecks { mirror := 5, readings := List.replicate 24 800 })
      (fun s => s.tick.running ∧ bitOf (reg s 2 0 6).toNat 31 = false ∧ s.zal.hot = false ∧ s.tu.frcFail = false ∧
        (List.range 24).all (fun i =>
          decide (sensorReading s (List.replicate 24 800) i < 16 * (regField s 1 0 6 7 0 : Int))))
      (fun _ t => t.tick.mirrorDiff = 5 ∧ t.zal.readings = List.replicate 24 800 ∧ t.zal.status = 0x200) = true ∧
    holds cool (.zaluaTickChecks { mirror := 0, readings := List.replicate 24 800 })
      (fun s => s.tick.running ∧ bitOf (reg s 2 0 6).toNat 31 = false)
      (fun _ t => t.tick.mirrorDiff = 0 ∧ t.zal.status = 0 ∧ t.zal.log = []) = true := by decide

/-- O21: 97 and 103 counts in a tick are bad, 98 and 102 good; 102,368 and 102,432 in 1,024 ticks are bad (R379). -/
theorem test_frc_check :
    (frcCountBad false 97 ∧ ¬ frcCountBad false 98 ∧ ¬ frcCountBad false 102 ∧ frcCountBad false 103 ∧
      frcCountBad true 102368 ∧ ¬ frcCountBad true 102369 ∧ ¬ frcCountBad true 102431 ∧ frcCountBad true 102432) ∧
    holds base (.frcCheckFail false 97) (fun s => s.sys.mode ≠ .reset)
      (fun _ t => t.tu.frcFail = true ∧ t.zal.status = 0x20000 ∧ t.zal.cond = 0x20000 ∧
        t.zal.log.map (fun e => (e.cause, e.cls, e.inst, e.detail)) = [(0x11, 2, 0, 97)]) = true := by decide

/-- O21: a TREF alarm is cause 0x10; its end clears the condition (R378). -/
theorem test_tref_alarm :
    holds base (.trefAlarm true false) (fun s => (s.tu.trefAlarm || s.tu.pllAlarm) = false)
      (fun _ t => t.tu.trefAlarm = true ∧ t.tu.pllAlarm = false ∧ t.zal.status = 0x10000 ∧ t.zal.cond = 0x10000) = true ∧
    holds { base with tu := { base.tu with pllAlarm := true }, zal := { base.zal with cond := 0x10000, status := 0x10000 } }
      (.trefAlarm false false) (fun s => (s.tu.trefAlarm || s.tu.pllAlarm) = true)
      (fun _ t => t.tu.pllAlarm = false ∧ t.zal.cond = 0 ∧ t.zal.status = 0x10000) = true := by decide

/-- O22: a plane without a target keeps none (R595). -/
theorem test_avs_without_target :
    holds base (.avsEvaluate false false true true) (fun s => avsTarget s 1 = none) (fun _ t => avsTarget t 1 = none) = true := by
  decide

/-- O22: a state that meets the hypotheses of the clause on a plane with a target (the fused code is open). -/
theorem test_avs_with_target :
    (fun s : State => s.sys.mode ≠ .reset ∧ avsTarget s 0 = some 800 ∧ avsLocked s 0 = false ∧ s.power.retry = [])
      { base with power := { base.power with targetW := some 800 } } := by decide

/-- O22: PMB_ALERT answered counts one read; not answered it waits 1 ms for its retry (R594, R595). -/
theorem test_pmb_alert :
    holds base (.pmbAlert true) (fun s => s.sys.mode ≠ .reset)
      (fun _ t => t.power.alertsServed = 1 ∧ t.power.retry = []) = true ∧
    holds base (.pmbAlert false) (fun s => s.sys.mode ≠ .reset)
      (fun _ t => t.power.alertsServed = 0 ∧ t.power.retry.map (·.since) = [100]) = true := by decide

/-- A state in which one read of STATUS_WORD has failed. -/
def retrying (since : Tick) (tries : Nat) : State :=
  { base with
    tick := { base.tick with count := 5000 }
    power := { base.power with retry := [{ what := 2, since := since, tries := tries }] } }

/-- O22: nothing after 999 ticks; after 1,000 the answer, or the third failure, ends the retries (R594). -/
theorem test_pmbus_retry :
    idle (retrying 4001 0) (.pmbusRetry true) (fun s => ticksSince s.tick.count 4001 < 1000) = true ∧
    holds (retrying 4000 0) (.pmbusRetry true) (fun s => 1000 ≤ ticksSince s.tick.count 4000)
      (fun _ t => t.power.retry = []) = true ∧
    holds (retrying 4000 2) (.pmbusRetry false) (fun s => 1000 ≤ ticksSince s.tick.count 4000)
      (fun _ t => t.power.retry = []) = true := by decide

/-- O22: an instruction is loaded and changes nothing else (R602). -/
theorem test_jtag : holds base (.jtagInstruction .extest) (fun _ => true)
    (fun s t => t = s.setSys { s.sys with tapInstr := .extest }) = true := by decide

/-- O23: the lowest free index in its next generation; 255 is followed by 1 (R488). -/
theorem test_handles :
    newHandle base = some 0x1000000 ∧
    newHandle { base with toune := { base.toune with
      handles := [(0, { gen := 4, st := .running }), (1, { gen := 255 })] } } = some 0x1000001 := by decide

/-- O24: MODE_QUERY of CONFIGURE, code 2, nothing pending, no unit out (R59). -/
theorem test_mode_query :
    holds base (.modeQuery (req [])) (fun s => canRun Op.modeQuery (req []) s)
      (fun _ t => (answer t).map (fun a => (a.1, a.2.1, a.2.2.take 13)) = [(Op.modeQuery, 0, [2] ++ zeros 12)]) = true := by decide

/-- A parse graph and profiles stand in all four pipelines: what R61 asks for first. -/
def ready : State :=
  { base with path := { base.path with pipe := (List.range 4).map (fun p =>
      (p, { graph0 := { valid := true, image := [] }, prof0 := { valid := true, image := [] } })) } }

/-- O24: MODE_SET to SERVICE waits for the boundary of tick 101, or names the prerequisite that fails (R60, R61). -/
theorem test_mode_set_service :
    holds ready (.modeSet (req [3, 0, 0, 0])) (fun s => canRun Op.modeSet (req [3, 0, 0, 0]) s ∧ serviceBlock s = none ∧
        s.twin.handover = none ∧ s.twin.pair ≠ .incompatible)
      (fun _ t => (t.sys.pendingMode.map (fun q => (q.target, q.due))) = some (.service, 101) ∧ answer t = []) = true ∧
    answers Op.modeSet base (.modeSet (req [3, 0, 0, 0])) (req [3, 0, 0, 0]) 0x102 [1]
      (fun s t => t.sys = s.sys ∧ serviceBlock s = some 1) = true := by decide

/-- O24: MODE_SET to TEST and back, and from SERVICE to CONFIGURE (R60). -/
theorem test_mode_set :
    holds base (.modeSet (req [7, 0, 0, 0])) (fun s => canRun Op.modeSet (req [7, 0, 0, 0]) s)
      (fun _ t => (t.sys.pendingMode.map (fun q => (q.target, q.due))) = some (.test, 101)) = true ∧
    holds (inMode .service) (.modeSet (req [2, 0, 0, 0])) (fun s => canRun Op.modeSet (req [2, 0, 0, 0]) s)
      (fun _ t => (t.sys.pendingMode.map (fun q => (q.target, q.due))) = some (.configure, 101)) = true ∧
    holds (inMode .test) (.modeSet (req [2, 0, 0, 0])) (fun s => canRun Op.modeSet (req [2, 0, 0, 0]) s)
      (fun _ t => t.sys.testClear = some 0x1000000 ∧ answer t = [(Op.modeSet, 1, [])] ∧ (handleAt t 0).st = .running) = true := by
  decide

/-- O24: RESUME with every cause cleared and acknowledged, and with SAFE_REQ_N still low (R567). -/
theorem test_resume :
    holds (inMode .safe) (.resume (req [])) (fun s => canRun Op.resume (req []) s ∧ resumeBlock s = none)
      (fun _ t => (t.sys.pendingMode.map (fun q => (q.target, q.due))) = some (.configure, 101)) = true ∧
    answers Op.resume { inMode .safe with zal := { base.zal with reqLevel := false } } (.resume (req [])) (req []) 0x10B [0x0E]
      (fun s t => t.sys = s.sys) = true := by decide

/-- O24: SAFE_ENTER in time for the next boundary records cause HOST, 0x0F (R60). -/
theorem test_safe_enter :
    holds (inMode .service) (.safeEnter { req [] with cycle := 1286 }) (fun s => canRun Op.safeEnter { req [] with cycle := 1286 } s)
      (fun _ t => t.zal.status = 0x8000 ∧ t.zal.toSafe = [0x0F] ∧ t.sys.mode = .service) = true := by decide

/-- O25: in SERVICE CAL_RUN is E_MODE and changes nothing; in RESET nothing answers (R69, R478). -/
theorem test_mode_forbids :
    holds (inMode .service) (.calRun (req [])) (fun s => refusal Op.calRun (req []) s = some (St.eMode, [], false))
      (fun s t => answer t = [(Op.calRun, 0x101, [])] ∧ t.cal = s.cal) = true ∧
    idle (inMode .reset) (.calRun (req [])) (fun s => s.sys.mode = .reset) = true := by decide

/-- O26: UNIT_OUT of pipeline 3 waits; of the TU it is E_ARG; UNIT_REJOIN of a unit that is OUT waits (R71). -/
theorem test_unit_commands :
    holds base (.unitOut (req [7, 0, 3, 0])) (fun s => canRun Op.unitOut (req [7, 0, 3, 0]) s ∧ mayLeave s ⟨7, 3⟩)
      (fun _ t => answer t = [] ∧ t.sys.deferred.map (fun d => (d.due, d.change)) = [(101, .unitOut ⟨7, 3⟩ 1)]) = true ∧
    answers Op.unitOut base (.unitOut (req [2, 0, 0, 0])) (req [2, 0, 0, 0]) 0x102 [] (fun s t => t.sys = s.sys) = true ∧
    holds { base with sys := { base.sys with units := [(7 * 1024 + 3, { st := .out })] } } (.unitRejoin (req [7, 0, 3, 0]))
      (fun s => canRun Op.unitRejoin (req [7, 0, 3, 0]) s ∧ unitState s ⟨7, 3⟩ = .out)
      (fun _ t => answer t = [] ∧ t.sys.deferred.map (fun d => (d.due, d.change)) = [(101, .unitRejoin ⟨7, 3⟩)]) = true := by
  decide

/-- Bank 5 in REJOIN. -/
def rejoining : State :=
  { base with
    sys := { base.sys with units := [(10 * 1024 + 5, { st := .rejoin })] }
    path := { base.path with bank := [(5, { shadow := [(3, { valid := true })] })] } }

/-- O26: a rebuild that fails, one that succeeds, and one that nobody asked for (R71, R72). -/
theorem test_rejoin_complete :
    holds rejoining (.rejoinComplete ⟨10, 5⟩ { ok := false, failed := 0x203 }) (fun s => unitState s ⟨10, 5⟩ = .rejoin)
      (fun s t => unitState t ⟨10, 5⟩ = .out ∧ raised t = [(Ev.rejoinFailed, [10, 5, 0, 3, 2, 0, 0])] ∧ t.path = s.path) = true ∧
    holds rejoining (.rejoinComplete ⟨10, 5⟩ {}) (fun s => (bankAt s 5).bad = [] ∧ (bankAt s 5).lost = [] ∧ (bankAt s 5).stuck.find? (rowDiffers (bankAt s 5) (bankWidth s 5)) = none)
      (fun _ t => unitState t ⟨10, 5⟩ = .ready ∧ (bankAt t 5).rows = [(3, { valid := true })]) = true ∧
    idle base (.rejoinComplete ⟨10, 5⟩ {}) (fun s => unitState s ⟨10, 5⟩ ≠ .rejoin) = true := by decide

/-- O26: a bank with a lost shadow entry goes back OUT, naming its lowest row (R172). -/
theorem test_rejoin_lost :
    holds { rejoining with path := { base.path with bank := [(5, { lost := [9, 4] })] } } (.rejoinComplete ⟨10, 5⟩ {})
      (fun s => unitState s ⟨10, 5⟩ = .rejoin ∧ (bankAt s 5).bad = [])
      (fun s t => unitState t ⟨10, 5⟩ = .out ∧ raised t = [(Ev.rejoinFailed, [10, 5, 0, 4, 0, 0, 0])] ∧ t.path = s.path) = true := by
  decide

/-- O26: a rebuilt pseudo-channel holds a trained seed, valid and with its reserved byte zero, in the working copy; a channel
without DIMM 1 has no seeds there (R413, R414). -/
theorem test_rejoin_trains :
    holds { base with sys := { base.sys with units := [(14 * 1024 + 2, { st := .rejoin })] } } (.rejoinComplete ⟨14, 2⟩ {})
      (fun s => unitState s ⟨14, 2⟩ = .rejoin)
      (fun _ t => unitState t ⟨14, 2⟩ = .ready ∧ calByte t 0xAD0 = 1 ∧ calByte t 0xAD7 = 0) = true ∧
    dimmSeeds 0 5 = le 24 0 ∧ (dimmSeeds 7 0x0102).take 12 = [1, 2, 1, 0, 0, 0, 0, 0, 0, 0, 0, 0] := by decide

/-- O26: the long clearing keeps static entries only (R60). -/
theorem test_test_clear_done :
    holds { inMode .test with
        sys := { (inMode .test).sys with testClear := some 0x1000000 }
        path := { base.path with fwd := [(0, { l2 := [(1, { mac := 1, vlan := 1, static := true }), (2, { mac := 2, vlan := 1 })] })] }
        flow := { base.flow with slice := [(3, { stack := [(8, [1])] })] } } .testClearDone
      (fun s => s.sys.mode = .test ∧ s.sys.testClear = some 0x1000000)
      (fun _ t => t.sys.testClear = none ∧ t.sys.mode = .test ∧
        (t.sys.pendingMode.map (fun q => (q.target, q.due, q.handle))) = some (.configure, 101, 0x1000000) ∧
        (fwdAt t 0).l2.map (·.1) = [1] ∧ (slAt t 3).stack = []) = true := by decide

/-- O27: CAL_READ from offset 1 answers 4,000 bytes, from the second of the magic LCXS on; offset 865 would pass the end of the 4,864
(R73, R497). -/
theorem test_cal_read :
    holds { base with cal := { base.cal with work := [(0x40, 8)] } } (.calRead (req [1, 0, 0, 0]))
      (fun s => canRun Op.calRead (req [1, 0, 0, 0]) s ∧ rd [1, 0, 0, 0] 0 4 + 4000 ≤ 4864)
      (fun _ t => (answer t).map (fun a => (a.2.1, a.2.2.length, a.2.2.take 2, a.2.2[0x3F]?)) = [(0, 4000, [0x43, 0x58], some 8)]) = true ∧
    answers Op.calRead base (.calRead (req [0x61, 3, 0, 0])) (req [0x61, 3, 0, 0]) 0x103 [] (fun _ _ => true) = true := by
  decide +kernel

/-- A record of zeros but for its magic, version and length, without its CRC (R73). -/
def calPre : List Byte := le 4 0x5358434C ++ (le 4 1 ++ (le 4 4864 ++ zeros (0x12FC - 12)))

/-- The record with its CRC. -/
def calRec : List Byte := calPre ++ le 4 (crc32c calPre).toNat

/-- The argument of CAL_WRITE for section 1 from host region 4 (R76, R487). -/
def calArg : List Byte := le 4 2 ++ [1, 0, 4, 0] ++ le 4 4864 ++ le 8 0

/-- Four bytes spell what they were made of. -/
theorem leNat_le4 (x : Nat) (h : x < 2 ^ 32) : leNat (le 4 x) = x := by
  simp [le, leNat]; omega

/-- O27: the record ends with the CRC of what precedes it. -/
theorem test_cal_record : calRec.length = 4864 ∧ rd calRec 0x12FC 4 = (crc32c (calRec.take 0x12FC)).toNat := by
  have hl : calPre.length = 0x12FC := by simp [calPre, zeros, le]
  have h1 : calRec.take 0x12FC = calPre := by rw [← hl]; exact List.take_left
  have h2 : calRec.drop 0x12FC = le 4 (crc32c calPre).toNat := by rw [← hl]; exact List.drop_left
  refine ⟨by simp [calRec, hl, le], ?_⟩
  rw [h1, rd, h2, show (le 4 (crc32c calPre).toNat).take 4 = le 4 (crc32c calPre).toNat from rfl]
  exact leNat_le4 _ (crc32c calPre).isLt

/-- O27: the host region yields the record. -/
theorem test_cal_descriptor : (descBytes (reqData calArg calRec) 4 (withRegion base)).toOption = some calRec := by
  have h : calRec.length = rd (((reqData calArg calRec).payload.drop 4).take 16) 4 4 :=
    test_cal_record.1.trans (by decide)
  simp only [descBytes]
  rw [if_neg (by decide), if_pos (by decide), if_neg (by decide),
    show regionUsable (withRegion base) _ _ _ false = some 2 from by decide]
  simp [reqData, h]
  rfl

/-- O27: the other hypotheses on CAL_WRITE with that record (R73, R76). -/
theorem test_cal_write :
    (canRun Op.calWrite (reqData calArg calRec) (withRegion base) ∧ (withRegion base).cal.op = none ∧
      newHandle (withRegion base) = some 0x1000000 ∧ calArg.length = 20 ∧ rd calArg 0 4 = 2 ∧
      rd calRec 0 4 = 0x5358434C ∧ rd calRec 4 2 = 1 ∧ rd calRec 8 4 = 4864) := by decide +kernel

/-- O27: CAL_RUN in TEST starts; its dry run ends with the values (R77). -/
theorem test_cal_run :
    holds (inMode .test) (.calRun (req ([2, 1] ++ zeros 18))) (fun s => canRun Op.calRun (req ([2, 1] ++ zeros 18)) s)
      (fun s t => (t.cal.op.map (fun o => (o.handle, o.procedure, o.dryRun, o.storing))) = some (0x1000000, 2, true, false) ∧
        answer t = [(Op.calRun, 1, [])] ∧ t.cal.work = s.cal.work) = true := by decide

/-- A measurement of procedure `p` under handle index 0. -/
def measuring (p sections named : Nat) (dry storing : Bool) : State :=
  { inMode .test with
    cal := { base.cal with op := some { handle := 0x1000000, opcode := Op.calRun, procedure := p, dryRun := dry,
                                        sections := sections, named := named, storing := storing } }
    toune := { base.toune with handles := [(0, { gen := 1, st := .running, opcode := Op.calRun, started := true })] } }

/-- O27: CAL_RUN_DONE of a dry run, of the sensors (0xA40), and of the delays of input 0 alone (R73, R77). -/
theorem test_cal_run_done :
    holds (measuring 2 2 0 true false) (.calRunDone [9]) (fun s => cancelled s 0x1000000 = false)
      (fun s t => t.cal.op = none ∧ t.cal.work = s.cal.work ∧ (handleAt t 0).ended = some (0, [9])) = true ∧
    holds (measuring 2 2 0 false false) (.calRunDone ((List.range 48).map (BitVec.ofNat 8))) (fun s => cancelled s 0x1000000 = false)
      (fun _ t => t.cal.storing = true ∧ (t.cal.op.map (·.storing)) = some true ∧ calByte t 0xA40 = 0 ∧ calByte t 0xA6F = 47) = true ∧
    holds (measuring 3 4 1 false false) (.calRunDone (List.replicate 64 1)) (fun s => cancelled s 0x1000000 = false)
      (fun s t => calByte t 0xA70 = 1 ∧ calByte t 0xA77 = 1 ∧ tfind t.cal.work 0xA78 = tfind s.cal.work 0xA78 ∧ t.cal.tsi.isSome ∧
        t.sys.deferred.map (fun d => (d.due, d.change)) = [(101, .tsiDelays)]) = true := by decide

/-- O27: the hypotheses of the lanes and of the memories, whose values fill 2,560 and 2,048 bytes (R73, R77). -/
theorem test_cal_run_done_long :
    ((measuring 1 1 2 false false).cal.op.map (fun o => (o.procedure, o.sections, o.opcode, o.storing, o.dryRun))) =
      some (1, 1, Op.calRun, false, false) ∧ cancelled (measuring 1 1 2 false false) 0x1000000 = false ∧
    ((measuring 5 48 0 false false).cal.op.map (fun o => (o.procedure, o.sections, o.opcode, o.storing, o.dryRun))) =
      some (5, 48, Op.calRun, false, false) ∧ cancelled (measuring 5 48 0 false false) 0x1000000 = false := by decide

/-- O27: the thermal sensors (R77). -/
theorem test_cal_run_done_thermal :
    holds (measuring 4 8 0 false false) (.calRunDone (List.replicate 8 3)) (fun s => cancelled s 0x1000000 = false)
      (fun _ t => calByte t 0xAB0 = 3 ∧ calByte t 0xAB7 = 3 ∧ t.cal.storing = true) = true := by decide

/-- O27: a store whose read-back is not intact ends E_INTEGRITY (R76). -/
theorem test_cal_stored_bad :
    holds (measuring 2 2 0 false true) (.calStored false) (fun s => (s.cal.op.map (·.storing)) = some true)
      (fun s t => t.flash = s.flash ∧ t.cal.op = none ∧ (handleAt t 0).ended = some (0x109, [])) = true := by decide

/-- A BEGIN is in force for an image of 3 bytes, whose CRC-32C is that of no byte at all where `crc` is 0. -/
def staging (len crc : Word) (d : List Byte) : State :=
  { base with
    sys := { base.sys with staging := true }
    flash := { base.flash with slotB := some { length := len, crc := crc, data := putBytes [] 0 d } }
    toune := { base.toune with sessions := [(1, { gen := 1, isOpen := true, version := 3, staging := [(0, 5), (1, 6)] })] } }

/-- O28: BEGIN, DATA and COMMIT (R497); with no directory slot A is active and B is staged (R63). -/
theorem test_fw_stage :
    (let _ := 0
     answers Op.fwStage base (.fwStage (req [0, 0, 0, 0, 0, 0, 0, 3, 9, 0, 0, 0])) (req [0, 0, 0, 0, 0, 0, 0, 3, 9, 0, 0, 0]) 0 []
      (fun _ t => t.sys.staging = true ∧ stagingSlot t = some { length := 0x3000000, crc := 9 } ∧ activeSlot t = false ∧
        t.flash.slotA = none)) = true ∧
    answers Op.fwStage (staging 3 0 [])
      (.fwStage (req ([1, 0, 0, 0, 1, 0, 0, 0] ++ [0, 0, 0, 0, 2, 0, 0, 0] ++ zeros 8)))
      (req ([1, 0, 0, 0, 1, 0, 0, 0] ++ [0, 0, 0, 0, 2, 0, 0, 0] ++ zeros 8)) 0 []
      (fun _ t => (stagingSlot t).map (·.data) = some [(1, 5), (2, 6)]) = true ∧
    answers Op.fwStage (staging 0 0 []) (.fwStage (req [2, 0, 0, 0])) (req [2, 0, 0, 0]) 1 []
      (fun s t => t.sys.fwCommit = some 0x1000000 ∧ t.flash = s.flash ∧ (handleAt t 0).st = .running) = true := by decide

/-- A COMMIT in progress. -/
def committing (len crc : Word) (d : List Byte) : State :=
  { staging len crc d with sys := { base.sys with fwCommit := some 0x1000000 } }

/-- O28: CRC-32C of the nine digits is 0xE3069283, its well-known check value (R6); with it the slot is switched. -/
theorem test_fw_staged :
    holds (committing 9 0xE3069283 [0x31, 0x32, 0x33, 0x34, 0x35, 0x36, 0x37, 0x38, 0x39]) .fwStaged
      (fun s => s.sys.fwCommit = some 0x1000000 ∧ slotValid (stagingSlot s))
      (fun _ t => t.flash.dir0.map (fun d => (d.magic, d.version, d.sequence)) = some (0x53584644, 1, 1) ∧
        t.flash.dir0.map (fun d => d.entries.map (fun e => (e.kind, e.flags.toNat, e.length.toNat))) =
          some [(1, 0, 0), (2, 1, 9), (3, 0, 0), (4, 0, 4864), (5, 0, 4864)] ∧
        t.flash.dir1 = t.flash.dir0 ∧ activeSlot t = true ∧
        t.sys.fwCommit = none ∧ (handleAt t 0).ended = some (0, [1, 0, 0, 0]) ∧
        raised t = [(Ev.fwStaged, [1, 9, 0, 0, 0, 0x83, 0x92, 6, 0xE3, 1, 0, 0, 0])]) = true := by
  decide +kernel

/-- O28: with another CRC the flash is left. -/
theorem test_fw_staged_bad :
    holds (committing 9 0xE3069282 [0x31, 0x32, 0x33, 0x34, 0x35, 0x36, 0x37, 0x38, 0x39]) .fwStaged
      (fun s => s.sys.fwCommit = some 0x1000000 ∧ ¬ slotValid (stagingSlot s))
      (fun s t => t.flash = s.flash ∧ (handleAt t 0).ended = some (0x109, [])) = true := by decide

/-- O28: FW_QUERY of a device with no image ends with the active slot (R497). -/
theorem test_fw_query :
    holds base (.fwQuery (req [])) (fun s => canRun Op.fwQuery (req []) s)
      (fun _ t => (answer t).map (fun a => (a.2.1, a.2.2.getLast?)) = [(0, some 0)]) = true := by decide

/-! ### Ports, the packet path up to the buffers, and egress -/

/-- Port 8 set as 100G_R1 (code 4) on lane 0 of group 1, in state `st` since tick 50 (R79, R85). -/
def port8 (st : PortState) : State :=
  withRegs [(6, 1, 0, 4), (5, 8, 0, 1)]
    { base with ports := { base.ports with port := [(8, { st := st, mode := 4, since := 50 })] } }

/-- O29: PORT_ENABLE of a DISABLED port goes to ALIGN, or with an_enable to AN (R85). -/
theorem test_port_enable :
    holds (withRegs [(6, 1, 0, 4), (5, 8, 0, 0)] base) (.portEnable 8)
      (fun s => (portAt s 8).st = .disabled ∧ portExists s 8 ∧ inService s 6 1)
      (fun _ t => reg t 5 8 0 = 1 ∧ (portAt t 8).st = .align ∧ (portAt t 8).since = 100 ∧ (portAt t 8).mode = 4) = true ∧
    holds (withRegs [(6, 1, 0, 4), (5, 8, 0, 2)] base) (.portEnable 8) (fun s => (portAt s 8).st = .disabled)
      (fun _ t => reg t 5 8 0 = 3 ∧ (portAt t 8).st = .an) = true := by decide

/-- O29: PORT_DISABLE of an UP port with a frame in reception counts RX_DISCARD_DOWN, counter 6 (R85, R105). -/
theorem test_port_disable :
    holds (port8 .up) (.portDisable 8 true) (fun s => (portAt s 8).st ≠ .disabled)
      (fun _ t => reg t 5 8 0 = 0 ∧ (portAt t 8).st = .disabled ∧ counter t (paddr 5 8 0x10C) = 1) = true := by decide

/-- O29: an enabled port of a group starts again under its new mode; code 0xB and a 2-lane port on lane 1 are refused (R80,
R81). -/
theorem test_pg_mode :
    holds (port8 .up) (.pgModeWrite 1 5 [8]) (fun _ => pgModeBad 5 = false)
      (fun _ t => reg t 6 1 0 = 5 ∧ (portAt t 8).st = .align ∧ (portAt t 8).mode = 5 ∧ (portAt t 9).st = .disabled ∧
        counter t (paddr 5 8 0x10C) = 1) = true ∧
    idle (port8 .up) (.pgModeWrite 1 0xB []) (fun _ => pgModeBad 0xB) = true ∧
    idle (port8 .up) (.pgModeWrite 1 0x50 []) (fun _ => pgModeBad 0x50) = true := by decide

/-- O30: AN resolves the port's own mode, or one of fewer lanes, and not one of as many (R85). -/
theorem test_an_resolved :
    holds (port8 .an) (.anResolved 8 4 ⟨true, 2⟩) (fun s => (portAt s 8).st = .an ∧ anCode 4 = true ∧ portCode s 8 = 4)
      (fun _ t => (portAt t 8).st = .train ∧ (portAt t 8).mode = 4 ∧ (portAt t 8).anFec = some 2) = true ∧
    holds (withRegs [(6, 1, 0, 0xA)] (port8 .an)) (.anResolved 8 8 ⟨false, 0⟩)
      (fun s => anCode 8 = true ∧ codeLanes 8 < codeLanes (portCode s 8)) (fun _ t => (portAt t 8).st = .align ∧ (portAt t 8).mode = 8) = true ∧
    idle (port8 .up) (.anResolved 8 4 ⟨true, 0⟩) (fun s => (portAt s 8).st ≠ .an) = true := by decide

/-- O30: AN_NO_COMMON once per episode (R85). -/
theorem test_an_no_common :
    holds (port8 .an) (.anNoCommon 8 0x21) (fun s => (portAt s 8).anEpisode = false)
      (fun _ t => (portAt t 8).st = .an ∧ raised t = [(Ev.anNoCommon, [8, 0, 0x21] ++ zeros 7)]) = true ∧
    idle { port8 .an with ports := { base.ports with port := [(8, { st := .an, anEpisode := true })] } } (.anNoCommon 8 0)
      (fun s => (portAt s 8).anEpisode = true) = true := by decide

/-- O30: TRAIN_DONE; the fourth failure with TRAIN_RETRY 4 raises LINK_TRAIN_FAIL, the third does not (R85, R104). -/
theorem test_train :
    holds (port8 .train) (.trainDone ⟨8, []⟩) (fun s => (portAt s 8).st = .train) (fun _ t => (portAt t 8).st = .align) = true ∧
    holds { withRegs [(5, 8, 6, 4)] (port8 .train) with ports := { base.ports with port := [(8, { st := .train, fails := 3 })] } }
      (.trainTimeout 8) (fun s => ((portAt s 8).fails + 1) % trainRetry s 8 = 0)
      (fun _ t => (portAt t 8).st = .train ∧ (portAt t 8).fails = 4 ∧ counter t (paddr 5 8 0x11E) = 1 ∧
        raised t = [(Ev.linkTrainFail, [8, 0, 4, 0, 0, 0])]) = true ∧
    holds { withRegs [(5, 8, 6, 4)] (port8 .train) with ports := { base.ports with port := [(8, { st := .train, fails := 2 })] } }
      (.trainTimeout 8) (fun s => ((portAt s 8).fails + 1) % trainRetry s 8 ≠ 0)
      (fun _ t => (portAt t 8).fails = 3 ∧ raised t = []) = true ∧
    idle (port8 .up) (.trainDone ⟨8, []⟩) (fun s => (portAt s 8).st ≠ .train) = true ∧
    idle (port8 .up) (.trainTimeout 8) (fun s => (portAt s 8).st ≠ .train) = true := by decide

/-- O30: LINK_UP admits the port from the next boundary, tick 101; FEC 3 is that of the mode (R85, R104). -/
theorem test_link_up :
    holds (port8 .align) (.linkUp 8 []) (fun s => (portAt s 8).st = .align)
      (fun _ t => (portAt t 8).st = .up ∧ (portAt t 8).admitAt = 101 ∧ (portAt t 8).downSince = none ∧
        raised t = [(Ev.linkUp, [8, 0, 4, 3, 101] ++ zeros 7)]) = true ∧
    holds { port8 .align with tick := { base.tick with count := 100050 } } (.alignTimeout 8)
      (fun s => (portAt s 8).st = .align ∧ 100000 ≤ ticksSince s.tick.count (portAt s 8).since)
      (fun _ t => (portAt t 8).st = .align ∧ (portAt t 8).since = 100050) = true ∧
    idle { port8 .align with tick := { base.tick with count := 100049 } } (.alignTimeout 8)
      (fun s => ticksSince s.tick.count (portAt s 8).since < 100000) = true ∧
    idle (port8 .up) (.alignTimeout 8) (fun s => (portAt s 8).st ≠ .align) = true ∧
    idle (port8 .up) (.linkUp 8 []) (fun s => (portAt s 8).st ≠ .align) = true := by decide

/-- O31: LINK_DOWN of an UP port counts LINK_DOWNS, counter 16; of one in FAULT it raises nothing (R85, R105). -/
theorem test_link_down :
    holds (port8 .up) (.linkDown 8 2 true) (fun s => (portAt s 8).st = .up)
      (fun _ t => (portAt t 8).st = .align ∧ (portAt t 8).localFault = true ∧ raised t = [(Ev.linkDown, [8, 0, 2])] ∧
        counter t (paddr 5 8 0x120) = 1 ∧ counter t (paddr 5 8 0x10C) = 1) = true ∧
    holds (port8 .fault) (.linkDown 8 2 false) (fun s => (portAt s 8).st = .fault)
      (fun _ t => (portAt t 8).st = .align ∧ raised t = []) = true := by decide

/-- O31: REMOTE_FAULT and its end (R85). -/
theorem test_remote_fault :
    holds (port8 .up) (.remoteFault 8) (fun s => (portAt s 8).st = .up)
      (fun _ t => (portAt t 8).st = .fault ∧ (portAt t 8).remoteFault = true ∧ raised t = [(Ev.linkDown, [8, 0, 4])]) = true ∧
    holds (port8 .fault) (.remoteFaultClear 8) (fun s => (portAt s 8).st = .fault)
      (fun _ t => (portAt t 8).st = .up ∧ (portAt t 8).remoteFault = false ∧
        raised t = [(Ev.linkUp, [8, 0, 4, 0, 101] ++ zeros 7)]) = true := by decide

/-- An enabled port down since tick 50, with flush_ms 1, in a later tick. -/
def downFor (now : Tick) : State :=
  { withRegs [(5, 8, 5, 1)] (port8 .align) with
    tick := { base.tick with count := now }
    ports := { base.ports with port := [(8, { st := .align, mode := 4, downSince := some 50 })] } }

/-- O31: PORT_DOWN_FLUSH after 1 ms, 1,000 ticks, and not after 999 (R99). -/
theorem test_port_down_flush :
    holds (downFor 1050) (.portDownFlush 8) (fun s => regField s 5 8 5 15 0 ≠ 0 ∧ portEnabled s 8 ∧
        1000 * regField s 5 8 5 15 0 ≤ ticksSince s.tick.count 50)
      (fun _ t => (portAt t 8).flushed = true ∧ egressOff t 8 = true ∧ raised t = [(Ev.portDownFlush, [8, 0, 0x1A, 4] ++ zeros 6)])
      = true ∧
    idle (downFor 1049) (.portDownFlush 8) (fun s => ticksSince s.tick.count 50 < 1000 * regField s 5 8 5 15 0) = true := by
  decide

/-- O31: FEC_DEGRADED at the threshold, and not below it (R104, R105). -/
theorem test_fec_degraded :
    holds (withRegs [(5, 8, 7, 10)] base) (.fecDegraded 8 5 6 10) (fun s => (reg s 5 8 7).toNat = 10)
      (fun _ t => counter t (paddr 5 8 0x118) = 5 ∧ counter t (paddr 5 8 0x11A) = 6 ∧ counter t (paddr 5 8 0x11C) = 10 ∧
        raised t = [(Ev.fecDegraded, [8, 0, 10, 0, 0, 0])]) = true ∧
    holds (withRegs [(5, 8, 7, 10)] base) (.fecDegraded 8 5 6 9) (fun s => (reg s 5 8 7).toNat = 10)
      (fun _ t => raised t = []) = true := by decide

/-- O32: a pause of mode 1 stops all eight classes, one of 0 quanta none (R97). -/
theorem test_pause_frame :
    holds (withRegs [(5, 8, 3, 1)] (port8 .up)) (.pauseFrameRx 8 0 false 0 [5]) (fun s => (portAt s 8).st = .up ∧ pauseMode s 8 = 1)
      (fun _ t => counter t (paddr 5 8 0x10E) = 1 ∧ (List.range 8).all (classPaused t 8)) = true ∧
    holds (withRegs [(5, 8, 3, 1)] (port8 .up)) (.pauseFrameRx 8 0 false 0 [0]) (fun s => pauseMode s 8 = 1)
      (fun _ t => (List.range 8).all (fun k => !classPaused t 8 k)) = true := by decide

/-- O32: PFC stops the priorities of its vector that rx_prio, bits 12:5, allows; mode 0 stops none (R97, R104). -/
theorem test_pfc_frame :
    holds (withRegs [(5, 8, 3, 0xA2)] (port8 .up)) (.pauseFrameRx 8 0 true 3 [5, 5, 0, 0, 0, 0, 0, 0])
      (fun s => pauseMode s 8 = 2 ∧ regField s 5 8 3 12 5 = 5)
      (fun _ t => classPaused t 8 0 = true ∧ classPaused t 8 1 = false ∧ classPaused t 8 2 = false) = true ∧
    holds (withRegs [(5, 8, 3, 0)] (port8 .up)) (.pauseFrameRx 8 0 true 3 [5, 5]) (fun s => pauseMode s 8 = 0)
      (fun _ t => (portAt t 8).paused = [] ∧ counter t (paddr 5 8 0x10E) = 1) = true ∧
    idle (port8 .align) (.pauseFrameRx 8 0 true 3 [5, 5]) (fun s => (portAt s 8).st ≠ .up) = true := by decide

/-- Port 8 UP, with priority 2 paused until an FRC instant and XOFF sent for it at another. -/
def pausing (until' sent : Dword) : State :=
  { withRegs [(5, 8, 3, 2), (5, 8, 4, 0xFFFF)] (port8 .up) with
    ports := { base.ports with port := [(8, { st := .up, mode := 4, paused := [(2, until')], xoff := [(2, sent)] })] } }

/-- O32: a pause ends at its instant, the start of this tick, and not one unit before (R97). -/
theorem test_pause_expiry :
    holds (pausing 6553600000 0) (.rxPauseExpiry 8 0 2) (fun s => (0 : Int) ≤ (frcAt s 0 - 6553600000#64).toInt)
      (fun _ t => classPaused t 8 2 = false) = true ∧
    idle (pausing 6553600001 0) (.rxPauseExpiry 8 0 2) (fun s => (frcAt s 0 - 6553600001#64).toInt < 0) = true := by decide

/-- O32: XOFF is repeated after half its quanta: 65,535 × 256 bit times at 100 Gbit/s are 167,769.6 ns (R98). -/
theorem test_xoff_repeat :
    holds { pausing 0 0 with tick := { base.tick with startFrc := 10994989834 } } (.xoffRepeat 8 0 2)
      (fun s => tfind (portAt s 8).xoff 2 = some 0 ∧ portRate s 8 = 100)
      (fun _ t => tfind (portAt t 8).xoff 2 = some 10994989834 ∧ t.ports.sent.map (·.port) = [8] ∧
        counter t (paddr 5 8 0x114) = 1) = true ∧
    idle { pausing 0 0 with tick := { base.tick with startFrc := 10994000000 } } (.xoffRepeat 8 0 2)
      (fun s => tfind (portAt s 8).xoff 2 = some 0) = true := by decide

/-- A frame of 60 zero bytes; its CRC-32 is the well-known 0x04128908 (R6). -/
def rx60 : RxFrame := { bytes := zeros 60, fcs := 0x04128908, stamp := 9 }

/-- Host port 129 and front port 8 UP. -/
def macUp : State :=
  withRegs [(6, 1, 0, 4), (5, 8, 0, 1), (5, 129, 0, 1)]
    { base with ports := { base.ports with port := [(8, { st := .up, mode := 4 }), (129, { st := .up, mode := 8 })] } }

/-- O33: a good frame of 64 bytes, one too short by one, and one whose check sequence is wrong (R95). -/
theorem test_frame_rx :
    holds macUp (.frameRx 8 rx60) (fun s => (portAt s 8).st = .up ∧ tickGe s.tick.count (portAt s 8).admitAt ∧
        rx60.fcs = crc32 rx60.bytes ∧ terminated s 8 rx60.bytes = false ∧ fifoFill s 8 + maxFrame s 8 ≤ fifoShare s 8)
      (fun _ t => counter t (paddr 5 8 0x100) = 1 ∧ counter t (paddr 5 8 0x102) = 64 ∧
        fifoAt t 8 = [{ bytes := zeros 60, stamp := 9 }]) = true ∧
    holds macUp (.frameRx 8 { rx60 with bytes := zeros 59 }) (fun s => (portAt s 8).st = .up)
      (fun s t => counter t (paddr 5 8 0x106) = 1 ∧ t.ports = s.ports) = true ∧
    holds macUp (.frameRx 8 { rx60 with fcs := 0 }) (fun s => (portAt s 8).st = .up)
      (fun s t => counter t (paddr 5 8 0x104) = 1 ∧ t.ports = s.ports) = true := by decide +kernel

/-- O33: a code error alone, a frame over MAX_FRAME, a port without room, and a frame found bad at its end (R95, R96). -/
theorem test_frame_rx_refused :
    holds macUp (.frameRx 8 { rx60 with codeErr := true }) (fun s => (portAt s 8).st = .up)
      (fun s t => counter t (paddr 5 8 0x10A) = 1 ∧ t.ports = s.ports) = true ∧
    holds (withRegs [(5, 8, 2, 63)] macUp) (.frameRx 8 rx60) (fun s => maxFrame s 8 < rx60.bytes.length + 4)
      (fun s t => counter t (paddr 5 8 0x108) = 1 ∧ t.ports = s.ports) = true ∧
    holds (withRegs [(6, 1, 0, 0)] macUp) (.frameRx 8 rx60) (fun s => fifoShare s 8 < fifoFill s 8 + maxFrame s 8)
      (fun s t => t.ports = s.ports ∧ counter t (paddr 16 (dieOfPort 8) 0x208) = 1) = true ∧
    holds macUp (.frameRx 8 { rx60 with fcs := 0, early := true }) (fun s => (portAt s 8).st = .up)
      (fun _ t => (fifoAt t 8).map (fun f => (f.early, f.bad)) = [(true, true)]) = true ∧
    idle macUp (.frameRx 9 rx60) (fun s => (portAt s 9).st ≠ .up) = true := by decide +kernel

/-- O33: in TEST a port receives through a loopback of one of its lanes only (R57). -/
theorem test_frame_rx_in_test :
    (let s : State := { macUp with sys := { base.sys with mode := .test } }
     idle s (.frameRx 8 rx60) (fun s => carries s 8 = false) = true ∧
     holds (withRegs [(6, 1, 0, 4), (5, 8, 0, 1), (4, 8, 6, 1)] s) (.frameRx 8 { rx60 with bytes := zeros 59 })
       (fun s => carries s 8 = true) (fun _ t => counter t (paddr 5 8 0x106) = 1) = true) := by decide

/-- Pipeline 0 in CONFIGURE with a frame at port 8, whose comparator row 0 forwards every frame to port 17 in class 5 (R152,
R153). -/
def boot (rows : List (Nat × Nat × Nat × Word)) : State :=
  withRegs rows { macUp with ports := { macUp.ports with fifo := [(8, [{ bytes := zeros 60, stamp := 9 }])] } }

/-- O34: forwarded by row 0; discarded where no row matches (R152, R153). -/
theorem test_boot_filter :
    holds (boot [(11, 0, 0, 0x110531)]) (.pipelinePass 0 (.front 8) {})
      (fun s => inService s 7 0 ∧ s.sys.mode = .configure ∧ pipeOfPort 8 = 0 ∧ ptpTerminated s 8 (zeros 60) = false ∧
        rcmpDecide s 0 0 (zeros 60) = (some 0, .forward 17 5 false))
      (fun _ t => (pktAt t 0).map (fun x => (x.stage, x.route.dest, x.cls, x.owner)) = some (.cells, .port 17, 5, 8) ∧
        fifoAt t 8 = [] ∧ (pipeAt t 0).frontSlots = 1 ∧ (portAt t 8).slots = 1 ∧ stagingUse t 0 1 = 1) = true ∧
    holds (boot []) (.pipelinePass 0 (.front 8) {}) (fun s => (rcmpDecide s 0 0 (zeros 60)).2 = .noMatch)
      (fun _ t => pktAt t 0 = none ∧ fifoAt t 8 = []) = true := by decide +kernel

/-- O34: with 150 slots used by its one lane the port waits (R82); with a full staging share it is blocked (R25). -/
theorem test_boot_filter_waits :
    idle { boot [] with ports := { (boot []).ports with port := [(8, { st := .up, mode := 4, slots := 150 })] } }
      (.pipelinePass 0 (.front 8) {}) (fun s => 150 * codeLanes (portAt s 8).mode ≤ (portAt s 8).slots) = true ∧
    holds { boot [] with path := { base.path with pipe := [(0, { staging := [(1, 8192)] })] } } (.pipelinePass 0 (.front 8) {})
      (fun s => stagingShare < stagingUse s 0 1 + cellsOf 60)
      (fun s t => t.path = s.path ∧ (fifoAt t 8).length = 1 ∧ (portAt t 8).blocked = [0]) = true := by decide +kernel

/-- Packet 3 waits for its flow result from slice 2, bound for port 17 in class 1. -/
def waiting (x : FlowResult) : State :=
  { inMode .service with
    path := { base.path with pkts := [(3, { pipe := 0, stage := .flow, slice := 2, issued := 90, cls := 1,
                                            route := { dest := .port 17 }, out := zeros 60 })] }
    flow := { base.flow with results := [(2, [x])] } }

/-- O35: a PASS moves the packet on to the cells with the record's class; a DENY discards it (R226, R242). -/
theorem test_flow_result :
    holds (waiting { pkt := 3, verdict := 0, cls := some 6 }) (.flowResultArrive 0 2 40)
      (fun s => tgetD (fun _ => []) s.flow.results 2 ≠ [])
      (fun _ t => (pktAt t 3).map (fun x => (x.stage, x.route.dest, x.cls, x.order)) = some (.cells, .port 17, 6, 0) ∧
        t.path.nextOrder = 1 ∧ tgetD (fun _ => []) t.flow.results 2 = []) = true ∧
    holds (waiting { pkt := 3, verdict := 1 }) (.flowResultArrive 0 2 40) (fun _ => true)
      (fun _ t => pktAt t 3 = none ∧ tgetD (fun _ => []) t.flow.results 2 = []) = true ∧
    holds (waiting { pkt := 9, verdict := 0 }) (.flowResultArrive 0 2 40) (fun s => pktAt s 9 = none)
      (fun s t => t.path = s.path ∧ tgetD (fun _ => []) t.flow.results 2 = []) = true ∧
    idle base (.flowResultArrive 0 2 40) (fun s => tgetD (fun _ => []) s.flow.results 2 = []) = true := by decide

/-- O35: the watchdog of 10 ticks has run out, and has not run out with 11 (R247). -/
theorem test_flow_watchdog :
    holds (withRegs [(13, 16, 0x12, 10)] (waiting { pkt := 3, verdict := 0 })) (.flowResultTimeout 3)
      (fun s => regField s 13 16 0x12 11 0 ≤ ticksSince s.tick.count 90 ∧ pktParked s 2 3 = false)
      (fun _ t => pktAt t 3 = none ∧ t.zal.status = 0x2000 ∧ t.zal.log.map (fun e => (e.cause, e.cls, e.inst)) = [(0x0D, 13, 2)])
      = true ∧
    idle (withRegs [(13, 16, 0x12, 11)] (waiting { pkt := 3, verdict := 0 })) (.flowResultTimeout 3)
      (fun s => ticksSince s.tick.count 90 < regField s 13 16 0x12 11 0) = true := by decide

/-- Packet 3, of 60 bytes, wants cells for port 8, which is enabled. -/
def wanting' (x : Packet) : State :=
  { macUp with path := { base.path with pkts := [(3, x)] } }

/-- The packet. -/
def pkt3 : Packet := { pipe := 0, stage := .cells, owner := 20, prio := 1, cls := 5, out := zeros 60, route := { dest := .port 8 } }

/-- O36: a grant queues the one copy; without a cell in any pool the owner is pressed (R351, R352, R355). -/
theorem test_cell_request :
    holds (wanting' pkt3) (.cellRequest 3 0 false true false)
      (fun s => destDies s pkt3 = [0] ∧ overtakes s pkt3 0 = false ∧ (poolFor s 0 20 1 1).isSome ∧ egressOff s 8 = false)
      (fun _ t => (pktAt t 3).map (·.stage) = some .buffered ∧ (storedAt t 3).map (fun y => (y.bytes, y.copies)) =
          some (zeros 60, [{ die := 0, dest := .port 8, cls := 5 }]) ∧ (egrAt t 8).q 5 = [3]) = true ∧
    holds (withRegs [(16, 0, 0, 0), (16, 0, 4, 0)] (wanting' pkt3)) (.cellRequest 3 0 false true false)
      (fun s => poolFor s 0 20 1 1 = none)
      (fun _ t => (bmAt t 0).pressed = [161] ∧ storedAt t 3 = none ∧ (pktAt t 3).isSome) = true := by decide

/-- O36: a metadata error is cause 0x0A of the pipeline; a request of the other die changes nothing (R137). -/
theorem test_metadata_error :
    holds (wanting' pkt3) (.cellRequest 3 0 false true true) (fun s => s.sys.mode ≠ .reset)
      (fun _ t => pktAt t 3 = none ∧ t.zal.log.map (fun e => (e.cause, e.cls, e.inst)) = [(0x0A, 7, 0)]) = true ∧
    idle (wanting' pkt3) (.cellRequest 3 1 false true false) (fun s => (destDies s pkt3).contains 1 = false) = true := by decide

/-- Packet 3 stored for port 8 in class 5, queued since tick 84, cut through where `cut`. -/
def queued (sending cut bad : Bool) : State :=
  { wanting' { pkt3 with stage := .buffered } with
    buf := { base.buf with
      stored := [(3, { bytes := zeros 60, bad := bad, total := 1, copies := [{ die := 0, dest := .port 8, cls := 5, cut := cut }] })]
      egr := [(8, if sending then { sending := some (3, 5) } else { queue := [(5, [3])], since := [(5, 84)] })] } }

/-- O37: with class 5 strict and nothing else queued its frame starts; with it paused none does (R361, R97). -/
theorem test_frame_tx_start :
    holds (withRegs [(17, 8, 5, 1)] (queued false false false)) (.frameTxStart 8 0)
      (fun s => (portAt s 8).st = .up ∧ egressOff s 8 = false ∧ chooseClass s 8 0 = some (5, [], false))
      (fun _ t => (egrAt t 8).sending = some (3, 5) ∧ (egrAt t 8).q 5 = []) = true ∧
    holds { queued false false false with ports := { base.ports with port := [(8, { st := .up, mode := 4, paused := [(5, 0)] })] } }
      (.frameTxStart 8 0) (fun s => chooseClass s 8 0 = none) (fun s t => t.buf = s.buf) = true := by decide

/-- O37: the strict class 5 goes before the strict class 4 below it (R361 step 4). -/
theorem test_strict_priority :
    (fun s : State => (∀ e, e < 8 → schedMode s 8 e ≠ 2) ∧ (egrAt s 8).due = [] ∧ schedMode s 8 5 = 1 ∧ schedMode s 8 4 = 1 ∧
      (headFrame s 8 5).isSome ∧ (headFrame s 8 4).isSome ∧ chooseClass s 8 0 = some (5, [], false))
      (withRegs [(17, 8, 4, 1), (17, 8, 5, 1)] { queued false false false with buf := { (queued false false false).buf with
        egr := [(8, { queue := [(4, [3]), (5, [3])] })] } }) := by decide

/-- O37: the last copy's end frees the packet and counts TX_FRAMES and 64 TX_BYTES; a bad one is stomped (R96, R105, R356). -/
theorem test_frame_tx_done :
    holds (queued true false false) (.frameTxDone 8 0) (fun s => (egrAt s 8).sending = some (3, 5))
      (fun _ t => (egrAt t 8).sending = none ∧ t.ports.sent = [{ port := 8, bytes := zeros 60 }] ∧ storedAt t 3 = none ∧
        counter t (paddr 5 8 0x110) = 1 ∧ counter t (paddr 5 8 0x112) = 64) = true ∧
    holds (queued true false true) (.frameTxDone 8 0) (fun s => (egrAt s 8).sending = some (3, 5))
      (fun _ t => t.ports.sent.map (·.stomped) = [true] ∧ counter t (paddr 5 8 0x116) = 1) = true ∧
    idle (queued false false false) (.frameTxDone 8 0) (fun s => (egrAt s 8).sending = none) = true := by decide

/-- O37: TX_UNDERRUN of a cut-through copy (R360). -/
theorem test_tx_underrun :
    holds (queued true true false) (.txUnderrun 8) (fun s => (egrAt s 8).sending = some (3, 5))
      (fun _ t => (egrAt t 8).sending = none ∧ t.ports.sent = [{ port := 8, bytes := zeros 60, stomped := true }] ∧
        counter t (paddr 5 8 0x116) = 1 ∧ counter t (paddr 17 8 0x106) = 1) = true ∧
    idle (queued false true false) (.txUnderrun 8) (fun s => (egrAt s 8).sending = none) = true := by decide

/-- O37: a class is due after 16 ticks and not after 15 (R362). -/
theorem test_class_due :
    holds (queued false false false) (.egrClassDue 8 5) (fun s => (egrAt s 8).q 5 ≠ [] ∧ classPaused s 8 5 = false)
      (fun _ t => (egrAt t 8).due = [5]) = true ∧
    idle { queued false false false with tick := { base.tick with count := 99 } } (.egrClassDue 8 5)
      (fun s => ticksSince s.tick.count 84 < 16) = true := by decide

/-- O37: a class is stalled after STALL_TICKS; the event gives its port, class, 16 ticks and one cell (R367). -/
theorem test_egr_stall :
    holds (withRegs [(17, 8, 0xC, 16)] (queued false false false)) (.egrStall 8 5)
      (fun s => tfind (egrAt s 8).stalled 5 = none ∧ (reg s 17 8 0xC).toNat ≤ ticksSince s.tick.count 84)
      (fun _ t => tfind (egrAt t 8).stalled 5 = some 84 ∧ counter t (paddr 17 8 0x10C) = 1 ∧
        raised t = [(Ev.egrStall, [8, 0, 5, 16, 0, 0, 0, 1, 0, 0, 0])]) = true := by decide

/-! ### Rule banks, graphs and profiles, forwarding tables -/

/-- An entry of one unit as the host writes it: action 0, value 5, care 7 (R180). -/
def entry : List Byte := zeros 16 ++ (5 :: zeros 9) ++ (7 :: zeros 9)

/-- Its row. -/
def entryRow : RuleRow := { valid := true, value := 5, care := 7 }

/-- Bank 5 with something in its record. -/
def withBank (x : Bank) (s : State) : State := { s with path := { s.path with bank := [(5, x)] } }

/-- RULE_WRITE of that entry at row 2047 of bank 5, which is one unit wide (R618). -/
def ruleWriteArg : List Byte := [5, 0, 1, 0, 0, 0, 0, 0] ++ [0xFF, 7, 0, 0] ++ entry

/-- O38: a write enters the queue of its bank; with 64 waiting it is E_BUSY (R164). -/
theorem test_rule_write :
    answers Op.ruleWrite base (.ruleWrite (req ruleWriteArg)) (req ruleWriteArg) 1 []
      (fun s t => bankWidth s 5 = 1 ∧ (bankAt t 5).queue.map (fun o => (o.handle, o.kind)) =
        [(0x1000000, .write [(2047, [entryRow])])] ∧ (handleAt t 0).st = .running) = true ∧
    answers Op.ruleWrite (withBank { queue := List.replicate 64 ⟨0, 0, 0, .clear⟩ } base) (.ruleWrite (req ruleWriteArg))
      (req ruleWriteArg) 0x105 [] (fun s t => t.path = s.path) = true := by decide

/-- O38: insert at row 0, delete of rows 0 and 2047, clear (R163, R618). -/
theorem test_rule_commands :
    answers Op.ruleInsert base (.ruleInsert (req ([5] ++ zeros 7 ++ entry))) (req ([5] ++ zeros 7 ++ entry)) 1 []
      (fun _ t => (bankAt t 5).queue.map (·.kind) = [.insert 0 [entryRow]]) = true ∧
    answers Op.ruleDelete base (.ruleDelete (req ([5, 0, 2, 0, 0, 0, 0, 0, 0, 0, 0xFF, 7])))
      (req ([5, 0, 2, 0, 0, 0, 0, 0, 0, 0, 0xFF, 7])) 1 []
      (fun _ t => (bankAt t 5).queue.map (·.kind) = [.delete [0, 2047]]) = true ∧
    answers Op.bankClear base (.bankClear (req (63 :: zeros 7))) (req (63 :: zeros 7)) 1 []
      (fun _ t => (bankAt t 63).queue.map (·.kind) = [.clear]) = true := by decide

/-- O38: RULE_READ answers the shadow from the start row; at row 2047 one entry is left (R618). -/
theorem test_rule_read :
    answers Op.ruleRead (withBank { shadow := [(2047, entryRow)] } base)
      (.ruleRead (req [5, 0, 0xFF, 7, 2, 0, 0, 0])) (req [5, 0, 0xFF, 7, 2, 0, 0, 0]) 0
      ([1, 0, 0, 8, 0, 0, 0, 0] ++ [0xFF, 7, 1, 0] ++ entry) (fun s t => t.path = s.path) = true := by decide

/-- O39: the maintenance port writes the entry of the queue into bank and shadow (R165). -/
theorem test_rb_maint_write :
    holds (withBank { queue := [⟨0x1000000, 0x101, Op.ruleWrite, .write [(7, [entryRow])]⟩] }
        { base with toune := { base.toune with handles := [(0, { gen := 1, st := .running })] } }) (.rbMaintTick 5 {})
      (fun s => bankLive s 5 ∧ partnerOf s 5 = none ∧ rowDiffers (bankAt s 5) (bankWidth s 5) 0 = false ∧
        bankWidth s 5 ≤ slotsLeft s 5)
      (fun _ t => (bankAt t 5).rows = [(7, entryRow)] ∧ (bankAt t 5).shadow = [(7, entryRow)] ∧ (bankAt t 5).queue = [] ∧
        (bankAt t 5).run = none ∧ (bankAt t 5).ended.map (fun r => (r.todo, r.status, r.lastTick)) = [([], 0, 100)] ∧ (handleAt t 0).started) = true := by
  decide

/-- O39: the scrub repairs a row that differs; a row that takes no rewrite is cause 0x14 and takes the bank out (R170, R171). -/
theorem test_rb_scrub :
    holds (withBank { scrubPos := 2047, shadow := [(2047, entryRow)] } base) (.rbMaintTick 5 {})
      (fun s => rowDiffers (bankAt s 5) (bankWidth s 5) 2047 ∧ (bankAt s 5).scrubAt ≠ some 100)
      (fun _ t => (bankAt t 5).rows = [(2047, entryRow)] ∧ (bankAt t 5).scrubPos = 0 ∧ (bankAt t 5).lastRepairRow = 2047 ∧
        counter t (paddr 10 5 5) = 1 ∧ t.zal.status = 0) = true ∧
    holds (withBank { scrubPos := 3, shadow := [(3, entryRow)], stuck := [3] } base) (.rbMaintTick 5 {})
      (fun s => (bankAt s 5).stuck.contains 3)
      (fun _ t => (bankAt t 5).rows = [] ∧ t.zal.status = 0x100000 ∧
        t.sys.deferred.map (fun d => (d.due, d.change)) = [(101, .unitOut ⟨10, 5⟩ 2)]) = true := by decide

/-- O39: the end of an operation, with its final row and rows moved; while none has done its writes none ends (R164). -/
theorem test_rule_op_done :
    holds (withBank { ended := [⟨⟨0x1000000, 0x101, Op.ruleInsert, .clear⟩, [], 0, 3, 4, 5, 99⟩] }
        { base with toune := { base.toune with handles := [(0, { gen := 1, st := .running, opcode := Op.ruleInsert })] } })
      (.ruleOpDone 5) (fun s => (bankAt s 5).ended ≠ [])
      (fun _ t => (bankAt t 5).ended = [] ∧ (handleAt t 0).st = .done ∧ (handleAt t 0).status = 0 ∧
        raised t = [(Ev.ruleOpDone, [0, 0, 0, 1, 0x11, 3, 0, 0, 3, 0, 4, 0, 5, 0, 99] ++ zeros 7)]) = true ∧
    idle (withBank { run := some ⟨⟨0x1000000, 0x101, Op.ruleInsert, .clear⟩, [.clear 0], 0, 3, 4, 5, 99⟩ } base)
      (.ruleOpDone 5) (fun s => (bankAt s 5).ended = []) = true := by decide

/-- O39: a width change makes every row invalid; a bank that an operation runs on keeps its width (R161). -/
theorem test_rb_width :
    holds (withBank { rows := [(7, entryRow)], shadow := [(7, entryRow)] } base) (.rbWidthWrite 5 2)
      (fun s => widthBlocked s 5 = false ∧ regField s 10 5 0 1 0 ≠ 2)
      (fun _ t => bankWidth t 5 = 4 ∧ (rowAt (bankAt t 5).rows 7).valid = false ∧ (rowAt (bankAt t 5).shadow 7).valid = false)
      = true ∧
    idle (withBank { queue := [⟨0, 0, 0, .clear⟩] } base) (.rbWidthWrite 5 2) (fun s => widthBlocked s 5) = true ∧
    idle (withBank { rows := [(7, entryRow)] } base) (.rbWidthWrite 5 0) (fun s => regField s 10 5 0 1 0 = 0) = true := by decide

/-- O39: bank 5 pairs with bank 6 of its pipeline, not with bank 16 of the next; a write without enable ends it (R173). -/
theorem test_rb_pair :
    holds (withBank { rows := [(7, entryRow)], shadow := [(7, entryRow)] } base) (.rbPairWrite 5 134)
      (fun s => pairRefused s 5 6 = false ∧ (bankAt s 5).bad = [])
      (fun _ t => partnerOf t 5 = some 6 ∧ partnerOf t 6 = some 5 ∧ unitState t ⟨10, 6⟩ = .rejoin ∧
        (bankAt t 6).shadow = [(7, entryRow)]) = true ∧
    idle base (.rbPairWrite 5 144) (fun s => pairRefused s 5 16) = true ∧
    holds (withRegs [(10, 5, 1, 134), (10, 6, 1, 133)] base) (.rbPairWrite 5 6) (fun s => partnerOf s 5 = some 6)
      (fun s t => partnerOf t 5 = none ∧ partnerOf t 6 = none ∧ t.path = s.path) = true := by decide

/-- A graph image of one node without any field set; its CRC was computed apart (R6, R122). -/
def graphImage : List Byte :=
  le 4 0x53585047 ++ [1, 0, 1, 0] ++ le 4 260 ++ [77, 0, 0, 0] ++ zeros 240 ++ le 4 0xF0EB7012

/-- The argument of GRAPH_LOAD or PROFILE_LOAD for pipelines 0 and 3, from host region 4 (R487, R616). -/
def loadArg (len : Nat) : List Byte := (9 :: zeros 7) ++ [1, 0, 4, 0] ++ le 4 len ++ zeros 8

/-- O40: GRAPH_LOAD into the inactive banks of pipelines 0 and 3; an image with a wrong CRC is E_INTEGRITY (R125, R126). -/
theorem test_graph_load :
    holds (withRegion base) (.graphLoad (reqData (loadArg 260) graphImage))
      (fun s => canRun Op.graphLoad (reqData (loadArg 260) graphImage) s ∧ graphFault graphImage = none)
      (fun _ t => answer t = [(Op.graphLoad, 0, [])] ∧ (pipeAt t 0).graph1 = ⟨true, graphImage⟩ ∧
        (pipeAt t 3).graph1 = ⟨true, graphImage⟩ ∧ (pipeAt t 1).graph1 = {} ∧ (pipeAt t 0).graph0 = {} ∧
        raised t = [(Ev.graphLoaded, [0, 1, 77, 0, 0, 0]), (Ev.graphLoaded, [3, 1, 77, 0, 0, 0])]) = true ∧
    holds (withRegion base) (.graphLoad (reqData (loadArg 260) (graphImage.set 12 78)))
      (fun s => canRun Op.graphLoad (reqData (loadArg 260) graphImage) s)
      (fun s t => answer t = [(Op.graphLoad, 0x109, [])] ∧ t.path = s.path) = true := by decide +kernel

/-- Pipelines 0 and 3 with images in their inactive banks, and in their active profile bank profile 2 with lookup 1. -/
def loaded : State :=
  let prof : List Byte := zeros 0x640 ++ [1, 0, 0, 1] ++ zeros 60 ++ [2, 0, 1, 1] ++ zeros 28
  let x : Pipe := { graph1 := ⟨true, graphImage⟩, prof1 := ⟨true, []⟩, prof0 := ⟨true, prof⟩ }
  { base with path := { base.path with pipe := [(0, x), (3, x)] } }

/-- O40: GRAPH_SWITCH waits for its boundary where an image stands in every named bank, and is E_ARG otherwise (R126). -/
theorem test_graph_switch :
    holds loaded (.graphSwitch (req (9 :: zeros 7))) (fun s => canRun Op.graphSwitch (req (9 :: zeros 7)) s)
      (fun _ t => answer t = [] ∧ (pipeAt t 0).graphPending ∧ (pipeAt t 3).graphPending ∧
        t.sys.deferred.map (fun d => (d.due, d.change)) = [(101, .graphSwitch 9)]) = true ∧
    answers Op.graphSwitch loaded (.graphSwitch (req (3 :: zeros 7))) (req (3 :: zeros 7)) 0x102 []
      (fun s t => t.path = s.path ∧ t.sys = s.sys) = true := by decide +kernel

/-- O40: PROFILE_SWITCH with the graph waits; without an image it is E_ARG (R147). -/
theorem test_profile_switch :
    holds loaded (.profileSwitch (req (9 :: 1 :: zeros 6)))
      (fun s => canRun Op.profileSwitch (req (9 :: 1 :: zeros 6)) s ∧ profileSwitchBad s true 0 = false ∧ profileSwitchBad s true 3 = false)
      (fun _ t => answer t = [] ∧ (pipeAt t 0).graphPending ∧ (pipeAt t 3).profPending ∧
        t.sys.deferred.map (fun d => (d.due, d.change)) = [(101, .profileSwitch 9 true)]) = true ∧
    answers Op.profileSwitch loaded (.profileSwitch (req (2 :: zeros 7))) (req (2 :: zeros 7)) 0x102 []
      (fun s t => t.path = s.path ∧ t.sys = s.sys) = true := by decide +kernel

/-- O40: BANKMASK_COMMIT of mask 0x0002 for lookup 1 of profile 2; a profile that is not valid is E_ARG (R146). -/
theorem test_bankmask_commit :
    holds loaded (.bankmaskCommit (req ([9, 0, 1, 0, 0, 0, 0, 0] ++ [2, 1, 2, 0])))
      (fun s => canRun Op.bankmaskCommit (req ([9, 0, 1, 0, 0, 0, 0, 0] ++ [2, 1, 2, 0])) s)
      (fun _ t => answer t = [] ∧ (pipeAt t 0).commitPending ∧ (pipeAt t 3).commitPending ∧
        t.sys.deferred.map (fun d => (d.due, d.change)) = [(101, .bankMask 9 [(2, 1, 2)])]) = true ∧
    answers Op.bankmaskCommit base (.bankmaskCommit (req ([9, 0, 1, 0, 0, 0, 0, 0] ++ [2, 1, 2, 0])))
      (req ([9, 0, 1, 0, 0, 0, 0, 0] ++ [2, 1, 2, 0])) 0x102 [] (fun s t => t.path = s.path) = true := by decide +kernel

/-- Pipeline 2 with flagged passes in tick 99. -/
def flagged (n : Nat) : State :=
  withRegs [(8, 2, 3, 10)] { base with path := { base.path with pipe := [(2, { flagged := [(99, n)] })] } }

/-- O40: PARSE_ERR_RATE at 11 flagged passes with a threshold of 10, not at 10 (R128). -/
theorem test_parse_err_rate :
    holds (flagged 11) (.parseErrRate 2) (fun s => raisedInPeriod s (65536 * Ev.parseErrRate + 2) = false ∧ recentSum s (pipeAt s 2).flagged = 11)
      (fun _ t => raised t = [(Ev.parseErrRate, [2, 11, 0, 0, 0])]) = true ∧
    idle (flagged 10) (.parseErrRate 2) (fun s => recentSum s (pipeAt s 2).flagged ≤ (reg s 8 2 3).toNat) = true ∧
    idle { flagged 11 with sys := { base.sys with marks := [(65536 * Ev.parseErrRate + 2, { raised := some 0 })] } } (.parseErrRate 2)
      (fun s => raisedInPeriod s (65536 * Ev.parseErrRate + 2)) = true := by decide

/-- A next hop of kind 0 on port 9 at index 131,071, the last (R198, R619). -/
def nhItem : List Byte := [0xFF, 0xFF, 1, 0] ++ [0x24] ++ zeros 15

/-- O41: TABLE_WRITE and TABLE_DELETE of next hops in copies 0 and 1 (R194, R202, R619). -/
theorem test_table_commands :
    answers Op.tableWrite (withRegs [(12, 0, 0x10, 2), (12, 1, 0x10, 2)] base) (.tableWrite (req ([4, 3, 1, 0, 0, 0, 0, 0] ++ nhItem))) (req ([4, 3, 1, 0, 0, 0, 0, 0] ++ nhItem))
      1 [] (fun _ t => t.path.tableOps.map (fun o => (o.handle, o.table, o.items, o.waiting)) =
        [(0x1000000, 4, [nhItem], [(0, 0), (1, 0)])]) = true ∧
    answers Op.tableDelete base (.tableDelete (req ([4, 3, 1, 0, 0, 0, 0, 0] ++ [0xFF, 0xFF, 1, 0])))
      (req ([4, 3, 1, 0, 0, 0, 0, 0] ++ [0xFF, 0xFF, 1, 0]))
      1 [] (fun _ t => t.path.tableOps.map (fun o => (o.opcode, o.items)) = [(Op.tableDelete, [[0xFF, 0xFF, 1, 0]])]) = true ∧
    answers Op.l2Flush base (.l2Flush (req [3, 2, 0, 0, 0xFF, 0xF, 0, 0])) (req [3, 2, 0, 0, 0xFF, 0xF, 0, 0])
      1 [] (fun _ t => t.path.tableOps.map (fun o => (o.opcode, o.items)) = [(Op.l2Flush, [[3, 2, 0, 0, 0xFF, 0xF, 0, 0]])])
      = true := by decide

/-- A next hop stands at 131,071 of copy 1. -/
def oneHop : State := { base with path := { base.path with fwd := [(1, { nh := [(131071, 0x24)] })] } }

/-- O41: TABLE_READ of the last index answers one entry and 0xFFFF_FFFF; 131,072 is E_RANGE (R619). -/
theorem test_table_read :
    answers Op.tableRead oneHop (.tableRead (req ([4, 1, 2, 0, 0xFF, 0xFF, 1, 0] ++ zeros 8)))
      (req ([4, 1, 2, 0, 0xFF, 0xFF, 1, 0] ++ zeros 8)) 0 ([1, 0, 0, 0, 0xFF, 0xFF, 0xFF, 0xFF] ++ nhItem) (fun _ _ => true) = true ∧
    answers Op.tableRead oneHop (.tableRead (req ([4, 1, 2, 0, 0, 0, 2, 0] ++ zeros 8)))
      (req ([4, 1, 2, 0, 0, 0, 2, 0] ++ zeros 8)) 0x103 [] (fun _ _ => true) = true := by decide

/-- O41: REHASH of the L2 table of copies 0 and 1 to seeds 8 and 9 (R201, R619). -/
theorem test_rehash :
    answers Op.rehash base (.rehash (req ([3, 0, 0, 0, 8, 0, 0, 0, 9, 0, 0, 0] ++ zeros 4)))
      (req ([3, 0, 0, 0, 8, 0, 0, 0, 9, 0, 0, 0] ++ zeros 4)) 1 []
      (fun _ t => (fwdAt t 1).rehash = [⟨0x1000000, 0x101, 0, 8, 9, 0, false, false, 0⟩] ∧ (fwdAt t 2).rehash = []) = true := by decide

/-- A table command waits for copies. -/
def tableOp (w : Table Nat) : State :=
  { base with
    path := { base.path with tableOps := [⟨0x1000000, 0x101, Op.tableWrite, 4, [nhItem], w, [], 90⟩] }
    toune := { base.toune with handles := [(0, { gen := 1, st := .running, opcode := Op.tableWrite })] } }

/-- O41: the maintenance port applies the item; the last copy ends the command (R190, R194). -/
theorem test_fwd_maint_write :
    holds (tableOp [(1, 0)]) (.fwdMaintTick 1) (fun s => unitState s ⟨7, 1⟩ ≠ .rejoin ∧ (fwdAt s 1).portAt ≠ some 100)
      (fun _ t => (fwdAt t 1).nh = [(131071, 0x24)] ∧ t.path.tableOps.map (fun o => (o.waiting, o.lastTick)) = [([], 100)]) = true ∧
    holds { tableOp [] with path := { (tableOp []).path with
        tableOps := [⟨0x1000000, 0x101, Op.tableWrite, 4, [nhItem], [], [(1, 0)], 90⟩] } } .tableOpDone
      (fun s => s.path.tableOps.all (fun o => o.status.all (fun e => e.2 == St.ok)))
      (fun _ t => t.path.tableOps = [] ∧ (handleAt t 0).st = .done ∧
        raised t = [(Ev.tableOpDone, [0, 0, 0, 1, 0x20, 3, 0, 0] ++ zeros 8 ++ [90] ++ zeros 7)]) = true ∧
    idle (tableOp [(1, 0)]) .tableOpDone (fun s => s.path.tableOps.all (fun o => o.waiting ≠ [])) = true := by decide

/-- O41: a learn enters the L2 table and counts LEARNED; a pipeline in REJOIN does nothing (R190, R192). -/
theorem test_fwd_maint_learn :
    holds (withRegs [(12, 1, 1, 0)] { base with path := { base.path with fwd := [(1, { learns := [⟨0x1234, 7, 40⟩] })] } })
      (.fwdMaintTick 1) (fun s => bitOf (reg s 12 1 1).toNat 1 = false)
      (fun _ t => (l2Find (fwdAt t 1) 0x1234 7).map (fun e => (e.dest, e.static, e.group)) = some (40, false, false) ∧
        (fwdAt t 1).learns = [] ∧ counter t (paddr 12 1 0x100) = 1) = true ∧
    idle { tableOp [(1, 0)] with sys := { base.sys with units := [(7 * 1024 + 1, { st := .rejoin })] } } (.fwdMaintTick 1)
      (fun s => unitState s ⟨7, 1⟩ = .rejoin) = true := by decide

/-- A REHASH of the empty L2 table of copy 1, walked so far. -/
def rehashing (run : Bool) (n : Nat) : State :=
  { base with
    path := { base.path with fwd := [(1, { rehash := [⟨0x1000000, 0x101, 0, 8, 9, n, run, false, 0⟩] })] }
    toune := { base.toune with handles := [(0, { gen := 1, st := .running, opcode := Op.rehash, started := true })] } }

/-- O41: the walk of 131,072 buckets ends with the new seeds in force; one bucket before its end it does not (R201). -/
theorem test_rehash_done :
    holds (rehashing true 131072) (.rehashDone 1) (fun s => cancelled s 0x1000000 = false)
      (fun _ t => (fwdAt t 1).rehash = [] ∧ (fwdAt t 1).seeds = [8, 9, 0x5A5A0003, 0x5A5A0004] ∧ (handleAt t 0).st = .done)
      = true ∧
    idle (rehashing true 131071) (.rehashDone 1) (fun s => cancelled s 0x1000000 = false) = true ∧
    idle (rehashing false 131072) (.rehashDone 1) (fun s => cancelled s 0x1000000 = false) = true := by decide

/-! ### Flow slices, host items, passes, programs, templates, pools and tiers -/

/-- The check values that the manual gives for its CRCs over the digits 1 to 9 (R219, R615). -/
theorem test_check_values :
    (let b : List Byte := [0x31, 0x32, 0x33, 0x34, 0x35, 0x36, 0x37, 0x38, 0x39]
     (crc16 b, crc32c b, crc32cRaw 0xFFFFFFFF b)) = (0xD0DB, 0xE3069283, 0x1CF96D7C) := by decide +kernel

/-- An IPv4 key: 10.0.0.1 port 80 to 10.0.0.2 port 81 by TCP (R206). -/
def key1 : List Byte := [1, 0, 0, 10, 0, 0, 1, 10, 0, 0, 2, 0, 80, 0, 81, 6]
/-- Its digest under the reset seed, computed apart (R208); its home is slice 15. -/
def d1 : Dword := 0x232BBF130EF3229F
/-- A Stack of 2^20 buckets for each slice, and turfs on channel 2 and 15. -/
def flowBase : State :=
  withRegs [(13, 16, 0x14, 1)] { base with jnl := { base.jnl with turfs := true, channels := [2, 15] } }

/-- The digest and home of the key (R208, R234), and its bucket 0: its high 32 bits scaled to 2^20 (R278). -/
theorem test_digest : digestOf flowBase key1 = d1 ∧ homeOf d1 = 15 ∧ bucket0 (stackBuckets flowBase) d1 = 0x232BB ∧
    flowSeed flowBase = 0x5A5A5A5AA5A5A5A5 := by decide +kernel

/-- A record of that key without action, last used in tick 0, under its tag (R210). -/
def rec1 : List Byte := withTag (key1 ++ le 4 1 ++ zeros 44)
/-- Slot 0 of its bucket (R277), and turf slot 0 of the same bucket (R282). -/
def slot1 : Nat := 4 * 0x232BB
/-- The turf slot. -/
def turf1 : Nat := 16 * 0x232BB

/-- A packet operation on the key with a miss disposition. -/
def pkt (disp : Nat) : FlowReq := ⟨3, 1, key1, 64, 0, false, disp, 7, 0, 0⟩
/-- The operation. -/
def op1 (disp : Nat) : FlowOp := ⟨.packet (pkt disp), some key1, d1⟩
/-- Slice 2 in SERVICE. -/
def sl (x : Slice) : State :=
  { flowBase with sys := { base.sys with mode := .service }, flow := { base.flow with slice := [(2, x)] } }
/-- Slice 2 with the operation in a phase, and what else it holds. -/
def inFlight (disp : Nat) (ph : Phase) (x : Slice) : State := sl { x with flights := [⟨d1, [op1 disp], ph⟩] }
/-- The record in the Stack. -/
def inStack (x : Slice) : Slice := { x with stack := [(slot1, rec1)] }
/-- The record in a turf slot, with its mark in the summary. -/
def inTurf (x : Slice) : Slice := sumSet 0x232BB 0 (fingerprint d1) 1 { x with turf := [(turf1, rec1)] }
/-- The results that wait for pipeline 1 from slice 2: packet and verdict. -/
def results (t : State) : List (Nat × Nat) := (tgetD (fun _ => []) t.flow.results (16 + 2)).map (fun r => (r.pkt, r.verdict))
/-- The phase of the operation. -/
def phaseOf (t : State) : Option Phase := (flightAt t 2 d1).map (·.phase)

/-- The operation waits in the slice's FIFO of pipeline 1 (R238). -/
def issued (x : Slice) : State := sl { x with inputs := [(1, [op1 2])] }
/-- The hypotheses of an acceptance with one operation on its way. -/
def oneOnTheWay (s : State) : Bool :=
  accepting (slAt s 2) && packetRoom s 2 && decide (inputAt s 2 1 = [op1 2]) &&
    [0, 2, 3].all (fun m => decide (inputAt s 2 m = [])) && decide ((slAt s 2).forwards = []) &&
    decide (s.flow.issue = [] ∧ s.flow.cross = []) && decide (flightAt s 2 d1 = none)

/-- O42: acceptance sends the Stack probe, or executes a Hearth hit; an empty queue gives nothing (R240, R245, R285). -/
theorem test_flow_op_accept :
    holds (issued {}) (.flowOpAccept 2 {} {})
      (fun s => oneOnTheWay s && decide (hearthFind (slAt s 2) d1 (some key1) = none) && chanIn s 2 (bucket0 (stackBuckets s) d1))
      (fun _ t => phaseOf t = some .probe ∧ inputAt t 2 1 = [] ∧ (slAt t 2).cycles = 1) = true ∧
    holds (issued { hearth := [(16 * hearthSet d1, { digest := d1, entry := rec1, slot := slot1 })] }) (.flowOpAccept 2 {} {})
      (fun s => oneOnTheWay s && decide ((hearthFind (slAt s 2) d1 (some key1)).isSome ∧ isPtr rec1 = false ∧
        readCopy (slAt s 2) 0 (16 * hearthSet d1) {} rec1 = some rec1))
      (fun _ t => phaseOf t = some (.execute 0 (16 * hearthSet d1) false) ∧ inputAt t 2 1 = [] ∧ (slAt t 2).cycles = 1) = true ∧
    holds (sl { srcTurn := 4 }) (.flowOpAccept 2 {} {}) (fun s => (List.range 5).all (fun src => sourceReady s 2 src = false))
      (fun _ t => slAt t 2 = {}) = true ∧
    holds (issued { cycles := 2700 }) (.flowOpAccept 2 {} {}) (fun s => packetRoom s 2 = false)
      (fun _ t => (slAt t 2).srcTurn = 1 ∧ inputAt t 2 1 = [op1 2]) = true := by decide +kernel

/-- O42: the probe's reply: a record executes, a miss goes on to the summary, or without turfs meets its disposition (R245,
R249, R279). -/
theorem test_stack_probe :
    holds (inFlight 2 .probe (inStack {})) (.stackProbeReply 2 d1 {})
      (fun s => digestRoom s 2 d1 && chanIn s 2 (bucket0 (stackBuckets s) d1) &&
        decide (stackFind s (slAt s 2) d1 (some key1) = some slot1 ∧ readCopy (slAt s 2) 1 slot1 {} rec1 = some rec1))
      (fun _ t => phaseOf t = some (.execute 1 slot1 false)) = true ∧
    holds (inFlight 2 .probe {}) (.stackProbeReply 2 d1 {}) (fun s => stackFind s (slAt s 2) d1 (some key1) = none ∧ coldTier s 2)
      (fun _ t => phaseOf t = some .summary) = true ∧
    holds { inFlight 3 .probe {} with jnl := base.jnl } (.stackProbeReply 2 d1 {}) (fun s => coldTier s 2 = false)
      (fun _ t => phaseOf t = none ∧ results t = [(3, 0)]) = true ∧
    holds { inFlight 2 .probe {} with jnl := base.jnl } (.stackProbeReply 2 d1 {}) (fun s => coldTier s 2 = false)
      (fun _ t => phaseOf t = none ∧ results t = [(3, 1)]) = true ∧
    idle (inFlight 2 .summary {}) (.stackProbeReply 2 d1 {}) (fun s => phaseOf s ≠ some .probe) = true ∧
    idle (inFlight 2 .probe { recUse := [(3, 464)] }) (.stackProbeReply 2 d1 {}) (fun s => digestRoom s 2 d1 = false) = true := by
  decide +kernel

/-- O42: the summary's candidate is read, and the record waits in HOLD (R285). -/
theorem test_cold_lookup :
    holds (inFlight 2 .summary (inTurf {})) (.coldSummaryRead 2 d1 false)
      (fun s => digestRoom s 2 d1 && decide (turfCands s (slAt s 2) d1 = [turf1] ∧ inService s 15 2 ∧
        chanIn s 2 (bucket0 (stackBuckets s) d1) ∧ sumBad (slAt s 2) (bucket0 (stackBuckets s) d1) = false)) (fun _ t => phaseOf t = some (.turf [turf1])) = true ∧
    holds (inFlight 2 (.turf [turf1]) (inTurf {})) (.turfCandidateRead 2 d1 {})
      (fun s => Machine.answers s (op1 2) rec1 && turfRoom s 2 && decide (readCopy (slAt s 2) 2 turf1 {} rec1 = some rec1))
      (fun _ t => phaseOf t = some (.hold turf1 rec1 100) ∧ (slAt t 2).holdQ = [d1]) = true ∧
    idle (inFlight 2 .probe {}) (.coldSummaryRead 2 d1 false) (fun s => phaseOf s ≠ some .summary) = true := by decide +kernel

/-- O42: a promotion places the record in the Stack and the Hearth and starts the clear of its turf slot; without budget it
waits (R286, R292). -/
theorem test_promotion :
    holds (inFlight 2 (.hold turf1 rec1 99) { inTurf {} with holdQ := [d1], promoteLeft := 1 }) (.promotionGrant 2)
      (fun s => backAllows s 2 1 && decide (stackRoom s 2 d1 1 ∧ chanIn s 2 0x232BB ∧ clearSlots (slAt s 2) + entrySlots rec1 ≤ 64 ∧
        (slAt s 2).upsets = []))
      (fun _ t => phaseOf t = some (.execute 2 turf1 false) ∧ (slAt t 2).clears = [(turf1, d1)] ∧ (slAt t 2).holdQ = [] ∧
        (slAt t 2).promoteLeft = 0 ∧ (slAt t 2).stack = [(slot1, rec1)]) = true ∧
    idle (inFlight 2 (.hold turf1 rec1 99) { inTurf {} with holdQ := [d1] }) (.promotionGrant 2)
      (fun s => (slAt s 2).promoteLeft = 0) = true := by decide +kernel

/-- Template 7: valid, unpinned, state 0, no action, overflow DENY, scratch 0x0605 (R229). -/
def templ : List Byte := [0, 1] ++ zeros 10 ++ [5, 6] ++ zeros 18
/-- A creation at the head of its queue. -/
def creating (left : Nat) : State :=
  let s := inFlight 0 (.createQ 99) { createQ := [d1], createLeft := left }
  { s with flow := { s.flow with templates := [(7, templ)] } }
/-- The record that R229 asks for in tick 100: control 1, counters 0, scratch, both ticks, interval 0. -/
def made : List Byte := withTag (key1 ++ le 4 1 ++ zeros 26 ++ [5, 6] ++ le 6 100 ++ le 6 100 ++ zeros 4)

/-- O42: a creation makes the record of its template; without budget it waits (R229, R249). -/
theorem test_creation :
    holds (creating 1) (.createGrant 2) (fun s => backAllows s 2 0 && decide (anyDigest s 2 d1 = none ∧ stackRoom s 2 d1 1 ∧ (slAt s 2).upsets = []))
      (fun _ t => phaseOf t = some (.execute 3 0 true) ∧ (slAt t 2).stack = [(slot1, made)] ∧ (slAt t 2).createQ = [] ∧
        (slAt t 2).createLeft = 0) = true ∧
    idle (creating 0) (.createGrant 2) (fun s => (slAt s 2).createLeft = 0) = true := by decide +kernel

/-- O42: without a program image the operation passes with the record's verdict, 0, and last_tick becomes now (R222). -/
theorem test_flow_op_execute :
    holds (inFlight 2 (.execute 1 slot1 false) (inStack {})) (.flowOpExecute 2 d1)
      (fun s => decide (locate s 2 d1 (some key1) = .hit ⟨1, slot1⟩ rec1) &&
        (let r := runProgram s.flow.prog ⟨s.tick.count, false, false, 64, 0, false, lastTickOf rec1⟩ rec1
         decide (r.retire = none ∧ r.supervise = [])))
      (fun _ t => phaseOf t = none ∧ (results t).map (·.1) = [3] ∧
        ((tfind (slAt t 2).stack slot1).map lastTickOf) = some 100) = true := by decide +kernel

/-- A waiting limit of 10 ticks: RESULT_WATCHDOG is 20 (R50, R247). -/
def limited (now : Tick) (s : State) : State :=
  { withRegs [(13, 16, 0x12, 20)] s with tick := { s.tick with count := now } }

/-- O43: a creation waits 10 ticks and then meets DENY; in the tick before it stays (R50). -/
theorem test_create_expired :
    holds (limited 109 (creating 0)) (.createExpired 2) (fun s => waitLimit s ≤ ticksSince s.tick.count 99 ∧ overflowOf s 7 = 0)
      (fun _ t => phaseOf t = none ∧ (slAt t 2).createQ = [] ∧ results t = [(3, 1)] ∧ counter t (paddr 13 2 0x62) = 1) = true ∧
    idle (limited 108 (creating 0)) (.createExpired 2) (fun s => ticksSince s.tick.count 99 < waitLimit s) = true := by decide +kernel

/-- O43: a held operation likewise, by its effective disposition, 3 here (R50). -/
theorem test_hold_expired :
    holds (limited 109 (inFlight 3 (.hold turf1 rec1 99) { holdQ := [d1] })) (.holdExpired 2)
      (fun s => waitLimit s ≤ ticksSince s.tick.count 99)
      (fun _ t => phaseOf t = none ∧ (slAt t 2).holdQ = [] ∧ results t = [(3, 0)] ∧ counter t (paddr 13 2 0x63) = 1) = true ∧
    idle (limited 108 (inFlight 3 (.hold turf1 rec1 99) { holdQ := [d1] })) (.holdExpired 2)
      (fun s => ticksSince s.tick.count 99 < waitLimit s) = true := by decide +kernel

/-- O43: a punt reaches its timeout of 10 ticks with timeout_verdict PASS-STATELESS, bits [17:16] = 1 (R252, R264). -/
theorem test_punt_timeout :
    holds (withRegs [(13, 2, 4, 0x1000A)] (limited 109 (inFlight 1 .punted { punts := [⟨d1, 99⟩] }))) (.puntTimeout 2)
      (fun s => regField s 13 2 4 15 0 ≤ ticksSince s.tick.count 99)
      (fun _ t => phaseOf t = none ∧ (slAt t 2).punts = [] ∧ results t = [(3, 0)] ∧ counter t (paddr 13 2 0x4B) = 1) = true ∧
    idle (withRegs [(13, 2, 4, 0x1000A)] (limited 108 (inFlight 1 .punted { punts := [⟨d1, 99⟩] }))) (.puntTimeout 2)
      (fun s => ticksSince s.tick.count 99 < regField s 13 2 4 15 0) = true := by decide +kernel

/-- O43: a wheel entry fires in the tick after its deadline, not at the deadline (R320). -/
theorem test_wheel :
    holds (sl { wheel := [⟨d1, 99, false⟩] }) (.wheelExamine 2) (fun s => due s ⟨d1, 99, false⟩)
      (fun _ t => (slAt t 2).wheel = [⟨d1, 99, true⟩] ∧ (slAt t 2).expiry = [(d1, 99)] ∧ counter t (paddr 13 2 0x60) = 1) = true ∧
    idle (sl { wheel := [⟨d1, 100, false⟩] }) (.wheelExamine 2) (fun s => due s ⟨d1, 100, false⟩ = false) = true := by decide +kernel

/-- The copy of the record in the Hearth of slice n, and the Stack below it (R268, R273). -/
def copies (t : State) (n : Nat) : Option (List Byte) × Table (List Byte) :=
  ((hearthFind (slAt t n) d1 none).map (fun p => p.2.entry), (slAt t n).stack)

/-- O43: the expiry operation disarms the record of a program that is not silenced (R321). -/
theorem test_expiry_op :
    holds (sl { inStack {} with wheel := [⟨d1, 99, true⟩], expiry := [(d1, 99)],
                                stack := [(slot1, withTag (key1 ++ le 4 0x81 ++ zeros 44))] }) (.expiryOp 2)
      (fun s => decide (ownRoom s 2 3 ≠ 0) && decide (flightAt s 2 d1 = none ∧ wheelOf (slAt s 2) d1 = some ⟨d1, 99, true⟩))
      (fun _ t => (copies t 2).1 = some rec1 ∧ (slAt t 2).expiry = []) = true ∧
    idle { sl { expiry := [(d1, 99)], wheel := [⟨d1, 98, false⟩] } with sys := base.sys } (.expiryOp 2) (fun s => supervises s = false) = true ∧
    idle { sl { expiry := [(d1, 99)], wheel := [⟨d1, 98, false⟩] } with sys := base.sys } (.wheelExamine 2) (fun s => supervises s = false) = true ∧
    idle (sl {}) (.expiryOp 2) (fun s => (slAt s 2).expiry = []) = true := by decide +kernel

/-- Slice 15, the home of the key, with what it holds. -/
def home (x : Slice) : State := { flowBase with flow := { base.flow with slice := [(15, x)] } }
/-- A key field of 48 bytes. -/
def keyField : List Byte := key1 ++ zeros 32
/-- One item behind its header (R620). -/
def items (b : List Byte) : List Byte := [1, 0] ++ zeros 6 ++ b

/-- O44: FLOW_READ of a record in the Stack, tier 1, and of an absent one (R257, R258). -/
theorem test_flow_read :
    answers Op.flowRead (home (inStack {})) (.flowRead (req (items keyField))) (req (items keyField)) 0
      ([1, 0, 1, 0, 0, 0, 0, 0] ++ [0, 1, 64, 0, 0, 0, 0, 0] ++ rec1)
      (fun s t => decide (locate s 15 d1 (some key1) = .hit ⟨1, slot1⟩ rec1) && decide ((slAt t 15).stack = [(slot1, rec1)])) = true ∧
    answers Op.flowRead (home {}) (.flowRead (req (items keyField))) (req (items keyField)) 0
      ([1, 0, 1, 0, 0, 0, 0, 0] ++ [1, 3, 0, 0, 0, 0, 0, 0]) (fun s _ => locate s 15 d1 (some key1) = .miss) = true ∧
    answers Op.flowRead (home {}) (.flowRead (req [0])) (req [0]) 0x102 [] (fun _ _ => flowItems Op.flowRead [0] = none) = true := by
  decide +kernel

/-- O44: FLOW_WRITE in mode either stores the record with created_by 1, bits [26:25] (R211, R259). -/
theorem test_flow_write :
    answers Op.flowWrite (home {}) (.flowWrite (req (items ([2, 0, 64, 0, 0, 0, 0, 0] ++ rec1))))
      (req (items ([2, 0, 64, 0, 0, 0, 0, 0] ++ rec1))) 0 ([1, 0, 1, 0, 0, 0, 0, 0] ++ [0, 1, 0, 0])
      (fun s t => decide (tagOk rec1 ∧ writeBad s rec1 64 = false) && decide
        ((slAt t 15).stack = [(slot1, withTag (key1 ++ le 4 0x2000001 ++ zeros 44))])) = true := by decide +kernel

/-- O44: FLOW_MODIFY of scratch word 0, mask bit 8 (R260, R620). -/
theorem test_flow_modify :
    answers Op.flowModify (home (inStack {})) (.flowModify (req (items (keyField ++ le 4 0x100 ++ zeros 8 ++ [7, 8] ++ zeros 14))))
      (req (items (keyField ++ le 4 0x100 ++ zeros 8 ++ [7, 8] ++ zeros 14))) 0 ([1, 0, 1, 0, 0, 0, 0, 0] ++ [0, 1, 0, 0])
      (fun _ t => copies t 15 = (some (withTag (key1 ++ le 4 1 ++ zeros 26 ++ [7, 8] ++ zeros 16)), [(slot1, rec1)])) = true := by decide +kernel

/-- O44: FLOW_DELETE removes the record and counts DELETED (R254, R264). -/
theorem test_flow_delete :
    answers Op.flowDelete (home (inStack {})) (.flowDelete (req (items keyField))) (req (items keyField)) 0
      ([1, 0, 1, 0, 0, 0, 0, 0] ++ [0, 1, 0, 0])
      (fun _ t => (slAt t 15).stack = [] ∧ counter t (paddr 13 15 0x4E) = 1) = true := by decide +kernel

/-- O44: FLOW_PUNT_RELEASE with verdict 1 passes the parked packet (R252). -/
theorem test_punt_release :
    answers Op.flowPuntRelease (home { flights := [⟨d1, [op1 1], .punted⟩], punts := [⟨d1, 99⟩] })
      (.flowPuntRelease (req (items (keyField ++ 1 :: zeros 7)))) (req (items (keyField ++ 1 :: zeros 7))) 0
      ([1, 0, 1, 0, 0, 0, 0, 0] ++ [0, 3, 0, 0])
      (fun _ t => (slAt t 15).punts = [] ∧ (slAt t 15).flights = [] ∧
        (tgetD (fun _ => []) t.flow.results (16 + 15)).map (fun r => (r.pkt, r.verdict)) = [(3, 0)]) = true := by decide +kernel

/-- FLOW_SWEEP and FLOW_REPIN arguments: over slice 15, every type (R255, R314). -/
def sweepArg : List Byte := zeros 5 ++ [4, 0, 0x80] ++ zeros 8
/-- From member 1, valid, to member 2. -/
def repinArg : List Byte := [1, 0, 0, 0x80, 2, 0, 0, 0, 0, 0, 0, 0x80, 0, 0, 0, 0]
/-- A pass over slice 15, or its end. -/
def pass (op : Nat) (arg : List Byte) (left : Table Nat) : Pass := ⟨0x1000000, op, arg, left, 4, 3, 2, [], 0⟩
/-- A pass runs. -/
def passing (p : Pass) (x : Slice) : State :=
  { home x with
    flow := { (home x).flow with sweep := some p }
    toune := { base.toune with handles := [(0, { gen := 1, st := .running, opcode := p.opcode, started := true })] } }

/-- O45: the start of a sweep, a repin and an evacuation; a second sweep is E_BUSY (R255, R314, R423). -/
theorem test_passes_start :
    answers Op.flowSweep (home {}) (.flowSweep (req sweepArg)) (req sweepArg) 1 []
      (fun _ t => t.flow.sweep = some ⟨0x1000000, Op.flowSweep, sweepArg, [(15, 0)], 0, 0, 0, [], 0⟩) = true ∧
    answers Op.flowRepin (home {}) (.flowRepin (req repinArg)) (req repinArg) 1 []
      (fun _ t => t.flow.sweep = some ⟨0x1000000, Op.flowRepin, repinArg, [(15, 0)], 0, 0, 0, [], 0⟩) = true ∧
    answers Op.turfEvacuate (home {}) (.turfEvacuate (req [0, 0x80])) (req [0, 0x80]) 1 []
      (fun _ t => t.flow.evacs = [⟨0x1000000, Op.turfEvacuate, [0, 0x80], [(15, 0)], 0, 0, 0, [], 0⟩] ∧ (slAt t 15).demoteStop) = true ∧
    answers Op.flowSweep (passing (pass Op.flowSweep sweepArg []) {}) (.flowSweep (req sweepArg)) (req sweepArg) 0x105 []
      (fun s t => t.flow = s.flow) = true ∧
    answers Op.flowRepin (passing (pass Op.flowSweep sweepArg []) {}) (.flowRepin (req repinArg)) (req repinArg) 0x105 []
      (fun s t => t.flow = s.flow) = true := by decide +kernel

/-- O45: the sweep deletes the one record of its slice and ends there (R255). -/
theorem test_sweep_tick :
    holds (passing (pass Op.flowSweep sweepArg [(15, 0)]) (inStack {})) (.sweepTick 15)
      (fun s => sweepMatch s sweepArg rec1 ∧ flightAt s 15 d1 = none)
      (fun _ t => (slAt t 15).stack = [] ∧ t.flow.sweep = some { pass Op.flowSweep sweepArg [] with
        examined := 5, matched := 4, changed := 3 } ∧ counter t (paddr 13 15 0x4E) = 1) = true ∧
    idle (home (inStack {})) (.sweepTick 15) (fun s => s.flow.sweep = none ∧ s.flow.evacs = []) = true := by decide +kernel

/-- O45: the evacuation moves the one turf entry of its slice into the Stack (R423). -/
theorem test_evacuation_tick :
    holds { home (inTurf {}) with flow := { (home (inTurf {})).flow with
        evacs := [pass Op.turfEvacuate [0, 0x80] [(15, 0)]] } } (.sweepTick 15)
      (fun s => decide (ownRoom s 15 3 ≠ 0) && decide (coldTier s 15 ∧ stackRoom s 15 d1 1 ∧ cancelled s 0x1000000 = false))
      (fun _ t => (slAt t 15).turf = [] ∧ (slAt t 15).stack = [(slot1, rec1)] ∧
        t.flow.evacs = [{ pass Op.turfEvacuate [0, 0x80] [] with examined := 5, changed := 3, moved := [(15, 1)] }]) = true := by decide +kernel

/-- O45: a sweep and a repin report their counts when every slice has been walked, and not before (R255, R314). -/
theorem test_passes_end :
    holds (passing (pass Op.flowSweep sweepArg []) {}) .flowSweepDone (fun s => cancelled s 0x1000000 = false)
      (fun _ t => t.flow.sweep = none ∧ (handleAt t 0).st = .done ∧
        raised t = [(Ev.flowSweepDone, [0, 0, 0, 1, 4, 4, 0, 0] ++ le 8 4 ++ le 8 3 ++ le 8 2 ++ le 8 100)]) = true ∧
    holds (passing (pass Op.flowRepin repinArg []) {}) .flowRepinDone (fun s => cancelled s 0x1000000 = false)
      (fun _ t => t.flow.sweep = none ∧ (handleAt t 0).st = .done ∧
        raised t = [(Ev.flowRepinDone, [0, 0, 0, 1, 6, 4, 0, 0] ++ le 8 4 ++ le 8 2 ++ le 8 100)]) = true ∧
    idle (passing (pass Op.flowSweep sweepArg [(15, 0)]) {}) .flowSweepDone (fun s => cancelled s 0x1000000 = false) = true ∧
    idle (passing (pass Op.flowRepin repinArg [(15, 0)]) {}) .flowRepinDone (fun s => cancelled s 0x1000000 = false) = true := by
  decide +kernel

/-- O45: an evacuation that leaves nothing behind (R423). -/
theorem test_evacuation_ends :
    holds { passing (pass Op.turfEvacuate [0, 0x80] []) {} with flow := { (home {}).flow with
        evacs := [{ pass Op.turfEvacuate [0, 0x80] [] with moved := [(15, 2)] }] } } .turfEvacuateDone (fun s => cancelled s 0x1000000 = false)
      (fun _ t => t.flow.evacs = [] ∧ (handleAt t 0).st = .done ∧
        raised t = [(Ev.turfEvacuateDone, [0, 0, 0, 1, 7, 4, 0, 0] ++ le 1 15 ++ le 8 2 ++ le 8 0)]) = true ∧
    idle { home {} with flow := { (home {}).flow with evacs := [pass Op.turfEvacuate [0, 0x80] [(15, 0)]] } }
      .turfEvacuateDone (fun s => s.flow.evacs ≠ []) = true := by decide +kernel

/-- O46: an image that is none is refused with the offset of its first fault, 0 (R227, R228). -/
theorem test_prog_load :
    holds base (.flowProgLoad (req (zeros 16))) (fun s => canRun Op.flowProgLoad (req (zeros 16)) s ∧ pairedActive s = false)
      (fun s t => answer t = [(Op.flowProgLoad, 0x102, zeros 4)] ∧ t.flow = s.flow) = true := by decide +kernel

/-- An image of three bytes in force. -/
def withProg : State := { base with flow := { base.flow with prog := some [7, 8, 9], templates := [(7, templ)] } }

/-- O46: FLOW_PROG_READ from offset 1, from the end, and beyond it (R621). -/
theorem test_prog_read :
    answers Op.flowProgRead withProg (.flowProgRead (req (1 :: zeros 7))) (req (1 :: zeros 7)) 0
      (le 4 3 ++ le 4 1 ++ le 4 2 ++ zeros 4 ++ [8, 9]) (fun _ _ => true) = true ∧
    answers Op.flowProgRead withProg (.flowProgRead (req (3 :: zeros 7))) (req (3 :: zeros 7)) 0
      (le 4 3 ++ le 4 3 ++ zeros 8) (fun _ _ => true) = true ∧
    answers Op.flowProgRead withProg (.flowProgRead (req (4 :: zeros 7))) (req (4 :: zeros 7)) 0x103 [] (fun _ _ => true) = true := by
  decide +kernel

/-- O46: a template that is not valid may be written without a program; template 7 is read back (R231, R621). -/
theorem test_templates :
    holds base (.flowTemplateWrite (req ([1, 0, 0, 0] ++ [0xFF, 3, 0, 0] ++ zeros 32)))
      (fun s => canRun Op.flowTemplateWrite (req ([1, 0, 0, 0] ++ [0xFF, 3, 0, 0] ++ zeros 32)) s)
      (fun _ t => answer t = [] ∧ t.sys.deferred.map (fun d => (d.due, d.change)) = [(101, .templates [(1023, zeros 32)])]) = true ∧
    answers Op.flowTemplateRead withProg (.flowTemplateRead (req ([7, 0, 1, 0] ++ zeros 4))) (req ([7, 0, 1, 0] ++ zeros 4)) 0
      ([1, 0, 0, 0] ++ [7, 0, 0, 0] ++ templ) (fun _ _ => true) = true := by decide +kernel

/-- Pool 9: ALLOCATE, valid, addresses 10.0.0.8 to 10.0.0.9, ports 1 to 8: 16 pairs, one for each slice (R300, R301). -/
def pool9 : List Byte := [9, 0, 0, 1, 10, 0, 0, 8, 10, 0, 0, 9, 1, 0, 8, 0] ++ zeros 16
/-- The pool is defined, and a record names it where `named`. -/
def pooled (named : Bool) : State :=
  let r := withTag (key1 ++ le 4 0x21 ++ zeros 6 ++ [9, 0] ++ zeros 36)
  { (if named then home { stack := [(slot1, r)] } else home {}) with
    flow := { (if named then (home { stack := [(slot1, r)] }).flow else (home {}).flow) with pools := [(9, pool9)] } }

/-- O46: POOL_DEFINE, refused with E_BUSY while a record names the pool (R300, R308). -/
theorem test_pool_define :
    answers Op.poolDefine (home {}) (.poolDefine (req pool9)) (req pool9) 0 []
      (fun s t => decide (poolBad pool9 = false ∧ poolPairs pool9 = 16 ∧ poolNamed s 9 = false) && decide
        (tfind t.flow.pools 9 = some pool9 ∧ raised t = [(Ev.poolChanged, [9, 0, 1] ++ le 8 100)] ∧ partSize pool9 3 = 1)) = true ∧
    answers Op.poolDefine (pooled true) (.poolDefine (req pool9)) (req pool9) 0x105 []
      (fun s t => decide (poolNamed s 9) && decide (t.flow.pools = s.flow.pools)) = true := by decide +kernel

/-- O46: POOL_DELETE and POOL_READ: each slice has no pair allocated and one free (R300). -/
theorem test_pool_delete_read :
    answers Op.poolDelete (pooled false) (.poolDelete (req [9, 0])) (req [9, 0]) 0 []
      (fun _ t => t.flow.pools = [] ∧ raised t = [(Ev.poolChanged, [9, 0, 0] ++ le 8 100)]) = true ∧
    answers Op.poolRead (pooled false) (.poolRead (req [9, 0])) (req [9, 0]) 0
      (pool9 ++ ((List.range 16).map (fun _ => le 4 0 ++ le 4 1)).flatten) (fun _ _ => true) = true := by decide +kernel

/-- The reverse pointer of the record, and its digest computed apart: home slice 5 (R208, R215, R216). -/
def ptr1 : List Byte := pointerOf [1, 0, 0, 10, 0, 0, 2, 10, 0, 0, 1, 0, 81, 0, 80, 6] 2 d1 false
/-- The digest. -/
def pd1 : Dword := 0x77AAD1E7580966B5
/-- Its bucket 0. -/
def pslot : Nat := 4 * bucket0 0x100000 pd1

/-- O47: an installation stores the pointer and acknowledges it to the primary's slice (R216). -/
theorem test_pointer_install :
    holds { flowBase with flow := { base.flow with slice := [(5, { installs :=
        [⟨.install 2 d1 ptr1, some [1, 0, 0, 10, 0, 0, 2, 10, 0, 0, 1, 0, 81, 0, 80, 6], pd1⟩] })] } } (.pointerInstall 5)
      (fun s => decide (ownRoom s 5 3 ≠ 0) && decide (flightAt s 5 pd1 = none ∧ anyDigest s 5 pd1 = none ∧ stackRoom s 5 pd1 1))
      (fun _ t => (slAt t 5).installs = [] ∧ (slAt t 5).stack = [(pslot, ptr1)] ∧
        (slAt t 2).acks = [⟨.bindAck 0 pd1, none, d1⟩]) = true ∧
    idle (sl {}) (.pointerInstall 2) (fun s => (slAt s 2).installs = []) = true := by decide +kernel

/-- O47: the acknowledgement sets bound, bit 3, of the record; a refusal counts BIND_FAILED (R216, R264). -/
theorem test_bind_ack :
    holds (sl { inStack {} with acks := [⟨.bindAck 0 pd1, none, d1⟩] }) (.bindAck 2)
      (fun s => decide (ownRoom s 2 3 ≠ 0) && decide (locate s 2 d1 none = .hit ⟨1, slot1⟩ rec1) &&
        decide (pointerDigest s rec1 = some pd1 ∧ flightAt s 2 d1 = none))
      (fun _ t => (slAt t 2).acks = [] ∧ (copies t 2).1 = some (withTag (key1 ++ le 4 9 ++ zeros 44))) = true ∧
    holds (sl { inStack {} with acks := [⟨.bindAck 1 pd1, none, d1⟩] }) (.bindAck 2)
      (fun s => decide (ownRoom s 2 3 ≠ 0) && decide (flightAt s 2 d1 = none))
      (fun _ t => (slAt t 2).acks = [] ∧ (slAt t 2).stack = [(slot1, rec1)] ∧ counter t (paddr 13 2 0x41) = 1) = true ∧
    idle (sl {}) (.bindAck 2) (fun s => (slAt s 2).acks = []) = true := by decide +kernel

/-- A slice above its high watermark with the record at the demoter's position; it was last used 2^8 ticks before. -/
def demoter : State :=
  { withRegs [(13, 2, 0xC, 0x801)] (sl { inStack {} with high := true, demotePos := slot1 }) with
    tick := { base.tick with count := 256 } }

/-- O47: the demoter takes an entry that is old enough; one tick younger it does not (R288, R289). -/
theorem test_demoter :
    holds demoter (.demoterTick 2)
      (fun s => backAllows s 2 2 && decide ((slAt s 2).demoteAt ≠ some s.tick.count ∧ readCopy (slAt s 2) 1 slot1 {} rec1 ≠ none) &&
        decide (1 ≤ regField s 13 2 0xC 7 0) && decide (demoting s 2 ∧ chanIn s 2 (slot1 / 4) ∧ 1 ≤ regField s 13 2 0xB 22 16 ∧ demotable s (slAt s 2) 8 d1 rec1 ∧
        demoteSlot (slAt s 2) 0x232BB 1 = some turf1))
      (fun _ t => phaseOf t = some (.demoting slot1 turf1) ∧ (slAt t 2).stack = [(slot1, rec1)]) = true ∧
    demotable { demoter with tick := { base.tick with count := 255 } } (inStack {}) 8 d1 rec1 = false ∧
    idle (sl (inStack {})) (.demoterTick 2) (fun s => demoting s 2 = false) = true := by decide +kernel

/-- O47: the demotion ends in the turf slot, or is given up (R288, R291). -/
theorem test_demotion_done :
    holds (sl { inStack {} with flights := [⟨d1, [], .demoting slot1 turf1⟩] }) (.demotionDone 2 d1 none)
      (fun s => (flightAt s 2 d1).isSome)
      (fun _ t => phaseOf t = none ∧ (slAt t 2).stack = [] ∧ (slAt t 2).turf = [(turf1, rec1)] ∧ counter t (paddr 13 2 0x50) = 1)
      = true ∧
    holds (sl { inStack {} with flights := [⟨d1, [], .demoting slot1 turf1⟩] }) (.demotionDone 2 d1 (some 1))
      (fun s => (flightAt s 2 d1).isSome)
      (fun _ t => phaseOf t = none ∧ (slAt t 2).stack = [(slot1, rec1)] ∧ counter t (paddr 13 2 0x59) = 1) = true := by decide +kernel

/-- O47: the pointer of a demoted primary is demoted after it, unless the Hearth holds it (R290). -/
theorem test_pointer_demote :
    holds (sl { stack := [(pslot, ptr1)], ptrDemotes := [pd1] }) (.pointerDemote 2)
      (fun s => decide (ownRoom s 2 3 ≠ 0) && decide (wayOf (slAt s 2) pd1 = none ∧ coldTier s 2 ∧ decide (locate s 2 pd1 none = .hit ⟨1, pslot⟩ ptr1) ∧ isPtr ptr1))
      (fun _ t => (slAt t 2).ptrDemotes = [] ∧ (flightAt t 2 pd1).map (·.phase) = some (.demoting pslot (4 * pslot))) = true ∧
    holds (sl { hearth := [(16 * hearthSet pd1, { digest := pd1, entry := ptr1, slot := pslot })], ptrDemotes := [pd1] })
      (.pointerDemote 2) (fun s => (wayOf (slAt s 2) pd1).isSome) (fun _ t => (slAt t 2).ptrDemotes = [] ∧ (slAt t 2).flights = [])
      = true ∧
    idle (sl {}) (.pointerDemote 2) (fun s => (slAt s 2).ptrDemotes = []) = true := by decide +kernel

/-- O47: an acknowledged clear frees the turf slot; a failed one gives the entry back (R292, R293). -/
theorem test_turf_clear :
    holds (sl { inTurf (inStack {}) with clears := [(turf1, d1)] }) (.turfClearAck 2 true) (fun s => (slAt s 2).clears ≠ [])
      (fun _ t => (slAt t 2).clears = [] ∧ (slAt t 2).turf = [] ∧ (slAt t 2).stack = [(slot1, rec1)]) = true ∧
    holds (sl { inTurf (inStack {}) with clears := [(turf1, d1)] }) (.turfClearAck 2 false)
      (fun s => decide (locate s 2 d1 none = .hit ⟨1, slot1⟩ rec1) && decide (isPinned rec1 = false))
      (fun _ t => (slAt t 2).clears = [] ∧ (slAt t 2).turf = [(turf1, rec1)] ∧ (slAt t 2).stack = []) = true ∧
    idle (sl {}) (.turfClearAck 2 true) (fun s => (slAt s 2).clears = []) = true := by decide +kernel

/-- O47: the Hearth scrub advances eight sets and wraps at 16,384; a summary is rebuilt from its turf (R296). -/
theorem test_scrub_and_rebuild :
    holds (sl { scrubPos := 16376 }) (.hearthScrub 2) (fun s => (slAt s 2).upsets = []) (fun _ t => (slAt t 2).scrubPos = 0) = true ∧
    (let w : Way := { digest := d1, entry := rec1, slot := slot1 }
     let x : Slice := { hearth := [(20, w)], upsets := [⟨0, 20, rec1, { bytes := [(3, 8)] }⟩] }
     holds (sl x) (.hearthScrub 2) (fun s => (slAt s 2).upsets.all (fun u => decide (u.idx / 16 < 8) && secdedOk u.u u.was))
       (fun _ t => slAt t 2 = { x with scrubPos := 8, upsets := [] })) = true ∧
    holds (sl { turf := [(turf1, rec1)], badSums := [0x232BB] }) (.summaryRebuild 2) (fun s => inService s 15 2 && decide (ownRoom s 2 3 ≠ 0))
      (fun _ t => (slAt t 2).badSums = [] ∧ turfUsed (slAt t 2) 0x232BB 0 ∧ turfCands t (slAt t 2) d1 = [turf1]) = true ∧
    idle { sl { badSums := [0x232BB] } with sys := { base.sys with units := [(15 * 1024 + 2, { st := .out })] } }
      (.summaryRebuild 2) (fun s => inService s 15 2 = false) = true ∧
    idle (sl {}) (.summaryRebuild 2) (fun s => (slAt s 2).badSums = []) = true := by decide +kernel

/-- O47: a bitmap fetch ends; a pool that is not defined has none (R302). -/
theorem test_trans_fetch :
    holds { pooled false with flow := { (pooled false).flow with slice := [(2, { parts := [(9, { fetching := true })] })] } }
      (.transFetchDone 2 9) (fun s => svcRoom s 2 (poolChan 9) && decide ((poolDef s 9).isSome ∧ (partAt s 2 9).fetching))
      (fun _ t => (partAt t 2 9).fetching = false) = true ∧
    idle (home {}) (.transFetchDone 2 9) (fun s => (poolDef s 9).isNone) = true := by decide +kernel

/-- O60: the two buckets of a digest share their pseudo-channel, the low three bits (R278). -/
theorem test_buckets :
    (bucket0 0x100000 d1 % 8 = bucket1 0x100000 d1 % 8 ∧ bucket0 0x100000 d1 ≠ bucket1 0x100000 d1) := by decide +kernel

/-! ### Journal and capture rings, and their export -/

/-- The JNL unit in some state. -/
def withJnl (x : Jnl) : State := { base with jnl := x }

/-- A journal item of two entries. -/
def twoEntries : List Byte := List.replicate 64 7

/-- O48: the FIFO whose turn it is gives its item to the ring of 16,384 entries; at 16,382 held it fits (R329, R338). -/
theorem test_jnl_block_write :
    holds (withRegs [(24, 0, 0, 1)] (withJnl { fifo := [(2, [twoEntries]), (5, [twoEntries])], turn := 3, ring := [(0, { write := 16382 })] }))
      .jnlBlockWrite (fun s => nextFifo s = some 5 ∧ ringSize s 0 = 16384)
      (fun _ t => t.jnl.turn = 5 ∧ t.jnl.fifo = [(2, [twoEntries])] ∧ (ringAt t 0).write = 16384 ∧ (ringAt t 0).read = 0 ∧
        (ringAt t 0).items = [(16382, 2, twoEntries)]) = true ∧
    holds (withRegs [(24, 0, 0, 1)] (withJnl { fifo := [(5, [twoEntries])], ring := [(0, { write := 16383 })] }))
      .jnlBlockWrite (fun s => nextFifo s = some 5 ∧ overwriting s 0 = false)
      (fun _ t => t.jnl.fifo = [] ∧ (ringAt t 0).write = 16383 ∧ (ringAt t 0).owed = 1 ∧ counter t (paddr 24 0 0x10) = 1) = true ∧
    idle (withRegs [(24, 0, 0, 1)] (withJnl { fifo := [(5, [twoEntries])], channels := [3], chan := [(3, { jnl := 40 })] })) .jnlBlockWrite
      (fun s => blockChan s 0 (ringAt s 0).write = some 3 ∧ jnlRoom s 3 = false) = true ∧
    idle (withJnl {}) .jnlBlockWrite (fun s => nextFifo s = none) = true := by decide

/-- O48: the oldest staged record of the East die goes to ring 2, instance 3 (R342). -/
theorem test_capture_write :
    holds (withRegs [(24, 3, 0, 1)] (withJnl { staging := [(1, [(2, zeros 128), (4, zeros 64)])] })) (.captureWrite 1)
      (fun s => ringOn s 3)
      (fun _ t => t.jnl.staging = [(1, [(4, zeros 64)])] ∧ (ringAt t 3).items = [(0, 2, zeros 128)] ∧ (ringAt t 3).write = 2) = true ∧
    holds (withRegs [(24, 3, 0, 1)] (withJnl { staging := [(1, [(2, zeros 128)])], channels := [3], chan := [(3, { cap := 119 })] }))
      (.captureWrite 1) (fun s => capRoom s 3) (fun _ t => t.jnl.staging.all (fun e => e.2 = [])) = true ∧
    idle (withJnl {}) (.captureWrite 1) (fun s => tgetD (fun _ => []) s.jnl.staging 1 = []) = true := by decide

/-- Journal and capture ring 0 with items at 10 and 12 of two each. -/
def heldItems (q : Option Nat) : State :=
  let r : Ring := { write := 14, read := 10, items := [(10, 2, twoEntries), (12, 2, twoEntries)], queue := q }
  withJnl { ring := [(0, r), (1, r)] }

/-- O48: CONSUMED up to the write count is accepted; beyond it, inside an item of a capture ring or with a bound queue it is
not (R332). -/
theorem test_consumed :
    holds (heldItems none) (.jnlConsumedWrite 0 11) (fun _ => true)
      (fun _ t => (ringAt t 0).read = 11 ∧ (ringAt t 0).items = [(12, 2, twoEntries)] ∧ (ringAt t 1).read = 10) = true ∧
    holds (heldItems none) (.jnlConsumedWrite 1 14) (fun s => onBoundary (ringAt s 1) 14)
      (fun _ t => (ringAt t 1).read = 14 ∧ (ringAt t 1).items = []) = true ∧
    idle (heldItems none) (.jnlConsumedWrite 0 15) (fun _ => true) = true ∧
    idle (heldItems none) (.jnlConsumedWrite 1 11) (fun s => onBoundary (ringAt s 1) 11 = false) = true ∧
    idle (heldItems (some 7)) (.jnlConsumedWrite 0 12) (fun _ => true) = true := by decide

/-- O48: a region beside another one is set and empties its ring; one that overlaps is not (R327). -/
theorem test_jnl_region :
    holds (withRegs [(24, 0, 1, 4), (24, 0, 2, 8)] (heldItems none)) (.jnlRegionWrite 1 12 2)
      (fun s => regionsFit s 1 12 2)
      (fun _ t => reg t 24 1 2 = 12 ∧ reg t 24 1 1 = 2 ∧ ringAt t 1 = {} ∧ (ringAt t 0).write = 14) = true ∧
    idle (withRegs [(24, 0, 1, 4), (24, 0, 2, 8)] (heldItems none)) (.jnlRegionWrite 1 11 2)
      (fun s => regionsFit s 1 11 2 = false) = true := by decide

/-- A posted buffer of an export: 128 bytes at 4,096 of region 4 (R456). -/
def buffer : List Byte := zeros 8 ++ [4, 0, 0, 0] ++ le 4 128 ++ le 8 4096 ++ zeros 40

/-- Queue 9 exports the journal into a posted buffer. -/
def exporting (j : Job) (r : Ring) : State :=
  let x := withRegion (withRegs [(18, 0, 0x200, 50)] (withJnl { ring := [(0, { r with queue := some 9 })] }))
  { x with host := { x.host with queue :=
      [(8, { st := 1, arg := [8, 0, 8, 4, 4, 0, 0xFF, 0xFF] ++ zeros 16 ++ [0xFF, 0xFF] ++ zeros 38 }),
       (9, { st := 1, arg := [9, 0, 5, 4, 4, 0, 4, 0] ++ zeros 16 ++ [8, 0] ++ zeros 38, jobs := [j] })] } }

/-- The job of the buffer. -/
def bufferJob (items : Nat) : Job :=
  { pos := 0, count := 1, entries := [buffer], begun := items ≠ 0, items := items, fill := 64 * items, first := 10
    next := BitVec.ofNat 64 (10 + 2 * items), since := 50 }

/-- O48: an item that just fits is placed behind the first; without a bound ring nothing is (R343, R456). -/
theorem test_export_fill :
    holds (exporting (bufferJob 1) (ringAt (heldItems none) 0)) (.exportFill 9 false)
      (fun s => decide ((hqAt s 9).exports = some 0) && (postedJob (hqAt s 9)).isSome &&
        decide (exportItem s (hqAt s 9) 0 false = some (twoEntries, 12, 14)))
      (fun _ t => (postedJob (hqAt t 9)).map (fun j => (j.items, j.fill, j.first, j.next)) = some (2, 128, 10, 14) ∧
        (qpAt t 2).out.map (fun o => (o.kind, o.region, o.offset, o.bytes)) = [(0, 4, 4160, twoEntries)]) = true ∧
    idle (exporting (bufferJob 2) (ringAt (heldItems none) 0)) (.exportFill 9 false)
      (fun s => exportItem s (hqAt s 9) 0 false = none) = true ∧
    idle base (.exportFill 1023 true) (fun s => (hqAt s 1023).exports = none) = true := by decide

/-- O48: 50 ticks after its first item a buffer ends; 49 ticks after it does not (R456, R457). -/
theorem test_export_linger :
    holds (exporting (bufferJob 2) (ringAt (heldItems none) 0)) (.exportLingerExpiry 9)
      (fun s => exportPos s (hqAt s 9) 0 = (ringAt s 0).write)
      (fun s t => (hqAt t 9).jobs.map (fun k => (k.done, k.detail)) = [(true, le 4 2 ++ le 4 128 ++ le 8 10)] ∧ t.jnl = s.jnl) = true ∧
    idle (exporting { bufferJob 2 with since := 51 } (ringAt (heldItems none) 0)) (.exportLingerExpiry 9) (fun _ => true) = true ∧
    idle base (.exportLingerExpiry 1023) (fun s => (hqAt s 1023).exports = none) = true := by decide

/-! ### Time -/

/-- A set: 10 s at FRC 0. -/
def set10 : TimeSet := ⟨5, 1, 0, 0, 0, 10, 0, 0, 0⟩

/-- Domain A seeded, domain B as given. -/
def timed (b : Domain) : State := { base with tu := { base.tu with domA := { sets := [set10] }, domB := b } }

/-- O49: FRC of tick 100 is 100 µs; domain A stands at 10 s and 100 µs with identity epoch 1, sequence 5; B is unseeded (R380,
R381, R387, R399). -/
theorem test_time_query :
    answers Op.timeQuery (timed {}) (.timeQuery (req [])) (req []) 0
      (le 8 6553600000 ++ (le 6 10 ++ le 4 100000 ++ le 2 0) ++ zeros 12 ++ le 2 0x1005 ++ le 2 0x8000 ++ [2, 0])
      (fun s t => t.tu = s.tu) = true := by decide

/-- The argument of DOMAIN_SEED and DOMAIN_RESEED of domain B: the tick's FRC is 20 s; the rate is -500 ppm, the limit (R380). -/
def seedArg : List Byte := (1 :: le 8 6553600000) ++ le 8 20 ++ le 4 999999999 ++ le 2 0 ++ le 8 (2 ^ 64 - 140737488355)

/-- O49: a seed waits for the 4 ns boundary 820 ns after its acceptance, 1,024 time clocks being 819.2 ns (R382, R383). -/
theorem test_domain_seed :
    holds (timed {}) (.domainSeed (req seedArg)) (fun s => canRun Op.domainSeed (req seedArg) s ∧ setBusy s true = false)
      (fun _ t => (domAt t true).pending.map (·.set) =
        some ⟨0, 0, 0, 6553600000, 6607339520, 20, 999999999, 0, -140737488355⟩ ∧ answer t = [] ∧ (domAt t true).sets = []) = true ∧
    answers Op.domainSeed (timed { sets := [set10] }) (.domainSeed (req seedArg)) (req seedArg) 0x102 [] (fun s t => t.tu = s.tu)
      = true := by decide

/-- O49: a reseed of a seeded domain, a rate, and a rate while a set waits (R382, R383). -/
theorem test_domain_rate :
    holds (timed { sets := [set10] }) (.domainReseed (req seedArg)) (fun s => canRun Op.domainReseed (req seedArg) s)
      (fun _ t => (domAt t true).pending.map (fun p => (p.set.cause, p.set.baseS)) = some (3, 20) ∧ answer t = []) = true ∧
    holds (timed { sets := [set10] }) (.domainRate (req (1 :: le 8 77))) (fun s => canRun Op.domainRate (req (1 :: le 8 77)) s)
      (fun _ t => (domAt t true).pending.map (fun p => (p.set.cause, p.set.rate, p.set.validFrom)) = some (1, 77, 6607339520) ∧
        (domAt t true).sets = [set10]) = true ∧
    answers Op.domainRate (timed { sets := [set10], pending := some ⟨set10, none⟩ }) (.domainRate (req (1 :: le 8 77)))
      (req (1 :: le 8 77)) 0x105 [] (fun s t => t.tu = s.tu) = true := by decide

/-- Domain B one microsecond ahead of A, with the limit DOM_TOL at so many nanoseconds. -/
def apart (tol : Word) : State := withRegs [(2, 0, 5, tol)] (timed { sets := [{ set10 with baseNs := 1000 }] })

/-- O49: a switch between domains 1,000 ns apart waits at a limit of 1,000; at 999 it is refused, and forced it is not (R388). -/
theorem test_domain_select :
    holds (apart 1000) (.domainSelect (req [1, 0])) (fun s => canRun Op.domainSelect (req [1, 0]) s ∧ switchFault s true false = none)
      (fun _ t => answer t = [] ∧ t.tu.selected = false ∧ t.sys.deferred.map (fun d => (d.due, d.change)) = [(101, .domainSelect true false)])
      = true ∧
    answers Op.domainSelect (apart 999) (.domainSelect (req [1, 0])) (req [1, 0]) 0x103 []
      (fun s t => t.tu = s.tu ∧ raised t = [(Ev.domainSwitchRefused, [1] ++ le 8 65536000 ++ [3, 1])]) = true ∧
    holds (apart 999) (.domainSelect (req [1, 1])) (fun s => canRun Op.domainSelect (req [1, 1]) s)
      (fun _ t => answer t = [] ∧ t.sys.deferred.map (·.change) = [.domainSelect true true]) = true := by decide

/-- O49: the record of the set; a stamp with its identity, and one with another (R384). -/
theorem test_sets_and_stamps :
    answers Op.domainSetsRead (timed {}) (.domainSetsRead (req [0])) (req [0]) 0
      (le 4 5 ++ [1, 0, 0, 0] ++ zeros 16 ++ le 8 10 ++ zeros 16) (fun _ _ => true) = true ∧
    answers Op.stampConvert (timed {}) (.stampConvert (req ([0, 1] ++ le 8 65536 ++ [5, 0x10]))) (req ([0, 1] ++ le 8 65536 ++ [5, 0x10]))
      0 ([0, 0] ++ le 6 10 ++ le 4 1 ++ [0, 0]) (fun _ _ => true) = true ∧
    answers Op.stampConvert (timed {}) (.stampConvert (req ([0, 1] ++ le 8 65536 ++ [4, 0x10]))) (req ([0, 1] ++ le 8 65536 ++ [4, 0x10]))
      0 ([3, 1] ++ zeros 12) (fun _ _ => true) = true := by decide

/-- Input 7 with some entries. -/
def withTsi (x : Tsi) (s : State) : State := { s with tu := { s.tu with tsi := [(7, x)] } }

/-- O49: TSI_READ takes the oldest entry out (R392). -/
theorem test_tsi_read :
    answers Op.tsiRead (withTsi { fifo := [le 16 1, le 16 2] } base) (.tsiRead (req [7, 1])) (req [7, 1]) 0 (le 16 1)
      (fun _ t => (tsiAt t 7).fifo = [le 16 2]) = true ∧
    answers Op.tsiRead (withTsi { fifo := [le 16 1, le 16 2] } base) (.tsiRead (req [0, 64])) (req [0, 64]) 0 []
      (fun _ t => (tsiAt t 7).fifo = [le 16 1, le 16 2]) = true := by decide

/-- O50: a first set, a reseed and a change of rate come into force (R382 to R384). -/
theorem test_domain_set :
    holds (timed { pending := some ⟨set10, some { opcode := Op.domainSeed }⟩ }) (.domainSet true) (fun s => (domAt s true).sets = [])
      (fun _ t => (domAt t true).sets = [{ set10 with seq := 1, epoch := 0 }] ∧ (domAt t true).pending = none ∧
        t.toune.responses.map (·.payload) = [zeros 8 ++ [1, 0]]) = true ∧
    holds (timed { sets := [set10], pending := some ⟨{ set10 with cause := 3, baseS := 30 }, none⟩ }) (.domainSet true) (fun _ => true)
      (fun _ t => (domAt t true).now.map (fun x => (x.seq, x.epoch, x.baseS)) = some (6, 2, 30) ∧ raised t ≠ [] ∧ answer t = []) = true ∧
    holds (timed { sets := [set10], pending := some ⟨{ set10 with cause := 1, validFrom := 65536, rate := 99 }, none⟩ }) (.domainSet true)
      (fun _ => true) (fun _ t => (domAt t true).now.map (fun x => (x.seq, x.epoch, x.rate, x.baseS, x.baseNs, x.convert 65536)) =
        some (6, 1, 99, 10, 1, 655360000065536)) = true ∧
    idle (timed {}) (.domainSet true) (fun s => (domAt s true).pending = none) = true := by decide

/-- O50: the renewal comes 2^62 units after the anchor, and not one unit sooner (R382). -/
theorem test_domain_renewal :
    holds { timed { sets := [{ set10 with anchor := 0 - BitVec.ofNat 64 (2 ^ 62), validFrom := 0 }] } with
        tick := { base.tick with startFrc := 0 } } (.domainRenewal true) (fun _ => true)
      (fun _ t => (domAt t true).now.map (fun x => (x.seq, x.epoch, x.cause, x.anchor, x.rate)) = some (6, 1, 2, 0, 0)) = true ∧
    idle { timed { sets := [{ set10 with anchor := 1 - BitVec.ofNat 64 (2 ^ 62), validFrom := 0 }] } with
        tick := { base.tick with startFrc := 0 } } (.domainRenewal true) (fun _ => true) = true ∧
    idle (timed {}) (.domainRenewal true) (fun s => (domAt s true).now = none) = true := by decide

/-- Output 1 enabled, with this second pulsed last. -/
def ppsOn (l : Option Nat) : State :=
  let x := withRegs [(2, 0, 10, 1)] (timed {})
  { x with tu := { x.tu with pps := [(1, { lastSecond := l })] } }

/-- O50: a pulse at the whole second and up to its first nanosecond's end; a disabled output makes none (R389, R390). -/
theorem test_pps :
    holds (ppsOn none) (.ppsPulseStart 1 65535) (fun _ => true)
      (fun _ t => ppsAt t 1 = ⟨true, some 10, some (false, 1)⟩ ∧ raised t = []) = true ∧
    holds (ppsOn (some 9)) (.ppsPulseStart 1 0) (fun _ => true)
      (fun _ t => (ppsAt t 1).active ∧ (ppsAt t 1).lastSecond = some 10 ∧ raised t = []) = true ∧
    idle (ppsOn none) (.ppsPulseStart 0 0) (fun s => bitOf (reg s 2 0 8).toNat 0 = false) = true ∧
    holds { base with tu := { base.tu with pps := [(1, { active := true, lastSecond := some 3 })] } } (.ppsPulseEnd 1) (fun _ => true)
      (fun _ t => ppsAt t 1 = { lastSecond := some 3 }) = true := by decide

/-- O50: the rising edge of input 7 with event, less the built-in delay of 4 ns; with 64 entries it is lost; the falling edge is off (R391, R392). -/
theorem test_tsi_edge :
    holds (withTsi { lost := 2 } (withRegs [(2, 0, 0x2C, 5)] base)) (.tsiEdge 7 true 327680) (fun s => tsiDelay s 7 true = 262144)
      (fun _ t => (tsiAt t 7).fifo.map (fun e => (e.take 9, e.drop 14)) = [(le 8 65536 ++ [15], [2, 0])] ∧ (tsiAt t 7).lost = 0 ∧
        (raised t).map (·.1) = [Ev.tsiEdge]) = true ∧
    holds (withTsi { fifo := List.replicate 64 [] } (withRegs [(2, 0, 0x2C, 5)] base)) (.tsiEdge 7 true 65536) (fun _ => true)
      (fun _ t => (tsiAt t 7).lost = 1 ∧ (tsiAt t 7).fifo.length = 64 ∧ counter t (paddr 2 0 0x2E) = 1) = true ∧
    idle (withTsi {} (withRegs [(2, 0, 0x2C, 5)] base)) (.tsiEdge 7 false 65536) (fun _ => true) = true := by decide

/-! ### Memory controllers -/

/-- A tick and one controller. -/
def memOf (n : Nat) (c : Bool) (k : Nat) (x : MemUnit) : State :=
  { base with tick := { base.tick with count := BitVec.ofNat 48 n }, mem := ⟨[(memKey c k, x)]⟩ }

/-- O51: tick 97 is the 25th of 32 refreshes in 125 ticks, tick 98 none; tick 128 is unit 16's retraining tick and puts it off (R42). -/
theorem test_mem_refresh :
    holds (memOf 97 false 16 {}) (.memRefresh false 16) (fun s => memIn s false 16 ∧ refreshTick 32 97)
      (fun _ t => (memAt t false 16).refreshes = 1) = true ∧
    idle (memOf 98 false 16 {}) (.memRefresh false 16) (fun s => memIn s false 16) = true ∧
    holds (memOf 128 false 16 {}) (.memRefresh false 16) (fun _ => refreshTick 32 128 ∧ retrainTick false 16 128)
      (fun _ t => (memAt t false 16).refreshes = 0 ∧ (memAt t false 16).owed) = true ∧
    idle (memOf 97 true 16 {}) (.memRefresh true 16) (fun s => memIn s true 16 = false) = true := by decide

/-- O51: a retraining; a drift takes the unit out or is fault 0x17 on a safety-class unit; no window in tick 129 (R42, R412). -/
theorem test_mem_retrain :
    holds (memOf 128 false 16 {}) (.memRetrain false 16 none) (fun s => memIn s false 16)
      (fun s t => (memAt t false 16).retrained = some 128 ∧ t.sys = s.sys) = true ∧
    holds (memOf 960 true 15 {}) (.memRetrain true 15 (some 9)) (fun s => memIn s true 15)
      (fun _ t => leaving t = [(961, .unitOut ⟨15, 15⟩ 2)] ∧ raised t = [(Ev.memRetrainDrift, [15, 15, 0, 9])]) = true ∧
    holds (withRegs [(14, 16, 0, 1)] (memOf 128 false 16 {})) (.memRetrain false 16 (some 9)) (fun s => memSafety s false 16)
      (fun _ t => leaving t = [] ∧ t.zal.status = 0x800000) = true ∧
    idle (memOf 129 false 16 {}) (.memRetrain false 16 none) (fun s => memIn s false 16) = true := by decide

/-- HOT_LIMIT at 95. -/
def hotAt (x : MemUnit) : State := withRegs [(15, 16, 0x11, 95)] (memOf 2000 true 3 x)

/-- O51: the 16th reading at the limit takes the unit out; one degree less ends the run; 1,023 ticks are too soon (R411). -/
theorem test_mem_temp :
    holds (hotAt { hot := 15, tempTick := some 976 }) (.memTempRead true 3 95) (fun s => memIn s true 3)
      (fun _ t => (memAt t true 3).hot = 16 ∧ (memAt t true 3).hotRate ∧ leaving t = [(2001, .unitOut ⟨15, 3⟩ 2)] ∧
        raised t = [(Ev.memHot, [15, 3, 0, 95])]) = true ∧
    holds (hotAt { hot := 15 }) (.memTempRead true 3 94) (fun s => memIn s true 3)
      (fun _ t => (memAt t true 3).hot = 0 ∧ (memAt t true 3).temp = 94 ∧ leaving t = []) = true ∧
    idle (hotAt { hot := 15, tempTick := some 977 }) (.memTempRead true 3 95) (fun s => memIn s true 3) = true := by decide

/-- O51: reads of unit PC127: corrected, clean at the second read, and the same on a safety-class unit (R415, R416, R420). -/
theorem test_mem_read :
    holds (memOf 100 false 127 {}) (.memReadComplete false 127 64 3 .corrected) (fun s => memIn s false 127)
      (fun _ t => (memAt t false 127).log = [le 6 100 ++ [1, 0, 64, 0, 0, 0, 0, 0, 3, 0]] ∧ counter t (paddr 14 127 3) = 1) = true ∧
    holds (memOf 100 false 127 {}) (.memReadComplete false 127 64 3 .second) (fun s => memSafety s false 127 = false)
      (fun _ t => (memAt t false 127).log = [le 6 100 ++ [2, 4, 64, 0, 0, 0, 0, 0, 3, 0]] ∧ counter t (paddr 14 127 3) = 1) = true ∧
    holds (withRegs [(14, 127, 0, 1)] (memOf 100 false 127 {})) (.memReadComplete false 127 64 3 .second)
      (fun s => memSafety s false 127)
      (fun _ t => (memAt t false 127).log = [le 6 100 ++ [2, 1, 64, 0, 0, 0, 0, 0, 3, 0]] ∧ counter t (paddr 14 127 4) = 1) = true ∧
    idle (memOf 100 false 127 {}) (.memReadComplete false 127 64 3 .clean) (fun s => memIn s false 127) = true := by decide

/-- O51: the scrub of the last 64 bytes of a pseudo-channel of 12,582,912 units wraps; at rate 0 there is none (R410). -/
theorem test_mem_scrub :
    holds (withRegs [(14, 128, 0x10, 1)] (memOf 100 false 5 { scrubPos := 12582911 })) (.memPatrolScrub false 5 [.uncorrectable, .clean])
      (fun s => memIn s false 5)
      (fun _ t => (memAt t false 5).scrubPos = 0 ∧ (memAt t false 5).log = [le 6 100 ++ [2, 0] ++ le 5 805306304 ++ [0x3F, 4, 0]]) = true ∧
    idle (withRegs [(14, 128, 0x10, 0)] (memOf 100 false 5 {})) (.memPatrolScrub false 5 [.uncorrectable]) (fun s => memIn s false 5)
      = true := by decide

/-- O51: the fourth alert of a period takes the unit out, the third does not; on a safety-class unit it is fault 0x13 (R417 to R419). -/
theorem test_mem_alert :
    holds (memOf 100 true 5 { alerts := (0, 3) }) (.memAlert true 5 64 false 2) (fun s => memIn s true 5 ∧ memSafety s true 5 = false)
      (fun _ t => leaving t = [(101, .unitOut ⟨15, 5⟩ 2)] ∧ (memAt t true 5).log = [le 6 100 ++ [3, 2, 64, 0, 0, 0, 0, 0, 2, 0]] ∧
        (raised t).getLast? = some (Ev.memReplayExhausted, [15, 5, 0]) ∧ counter t (paddr 15 5 6) = 1) = true ∧
    holds (withRegs [(15, 5, 0, 2)] (memOf 100 true 5 { alerts := (0, 2) })) (.memAlert true 5 64 true 2) (fun s => memIn s true 5)
      (fun _ t => leaving t = [] ∧ (memAt t true 5).log = [le 6 100 ++ [4, 2, 64, 0, 0, 0, 0, 0, 2, 0]]) = true ∧
    holds (withRegs [(14, 5, 0, 1)] (memOf 100 false 5 {})) (.memAlert false 5 64 true 2) (fun s => memSafety s false 5)
      (fun _ t => t.zal.status = 0x80000 ∧ (raised t).getLast? = some (Ev.memSafetyErr, [14, 5, 0, 3, 64, 0, 0, 0, 0])) = true := by decide

/-- DC2 with entries in the turf of its slice. -/
def turfed (l : Table (List Byte)) : State := { base with flow := { base.flow with slice := [(2, { turf := l })] } }

/-- O51: a channel without turf entries is taken down at the next boundary; with one, the answer is E_BUSY and their number (R421). -/
theorem test_channel_down :
    answers Op.channelDown (turfed []) (.channelDown (req [15, 0, 2, 0, 0])) (req [15, 0, 2, 0, 0]) 1 []
      (fun _ t => leaving t = [(101, .channelDown ⟨15, 2⟩ 0x1000000)]) = true ∧
    answers Op.channelDown (turfed [(3, [])]) (.channelDown (req [15, 0, 2, 0, 0])) (req [15, 0, 2, 0, 0]) 0x105 [1, 0, 0, 0]
      (fun s t => t.sys = s.sys) = true := by decide

/-- DC2 draining since tick 50, with a limit of 50 ticks. -/
def draining (n : Nat) : State :=
  let x := withRegs [(15, 16, 0x12, 50)] (memOf n true 2 { draining := some (0x1000000, 50) })
  { x with toune := { x.toune with handles := [(0, { gen := 1, st := .running, opcode := Op.channelDown })] } }

/-- O51: after 50 ticks what is left is aborted; after 49 nothing happens (R421). -/
theorem test_drain_expiry :
    holds (draining 100) (.channelDrainExpiry true 2 [(64, 1)]) (fun _ => true)
      (fun _ t => (memAt t true 2).poweredDown ∧ (memAt t true 2).draining = none ∧ (handleAt t 0).st = .done ∧
        (memAt t true 2).log = [le 6 100 ++ [5, 0, 64, 0, 0, 0, 0, 0, 1, 0]] ∧ counter t (paddr 15 2 7) = 1) = true ∧
    idle (draining 99) (.channelDrainExpiry true 2 [(64, 1)]) (fun _ => true) = true ∧
    idle base (.channelDrainExpiry true 2 []) (fun s => (memAt s true 2).draining = none) = true := by decide

/-- O51: the log is answered, and cleared when the flag says so (R420). -/
theorem test_errlog_read :
    answers Op.memErrlogRead (memOf 100 true 2 { log := [le 16 9] }) (.memErrlogRead (req [15, 0, 2, 0, 1])) (req [15, 0, 2, 0, 1]) 0
      (le 16 9) (fun _ t => (memAt t true 2).log = []) = true ∧
    answers Op.memErrlogRead (memOf 100 true 2 { log := [le 16 9] }) (.memErrlogRead (req [15, 0, 2, 0, 0])) (req [15, 0, 2, 0, 0]) 0
      (le 16 9) (fun _ t => (memAt t true 2).log = [le 16 9]) = true := by decide

/-! ### The host transport -/

/-- Bootstrap and RoCEv2 enabled on both host ports (R426), HP0 with MAC 02:00:00:00:00:01 and address 10.0.0.1, and queue pair 2 as given. -/
def wired (x : QueuePair) : State :=
  let s := withRegs [(5, 128, 8, 1), (5, 128, 9, 0x200), (19, 256, 0, 0x0A000001), (19, 256, 6, 3), (19, 256, 14, 3)] (withRegion base)
  { s with host := { s.host with qp := [(2, { x with st := 1, arg := zeros 0x2A ++ [1, 1] ++ zeros 20 })] } }

/-- A queue pair that expects PSN 20 and sends 12 next. -/
def pair : QueuePair := { rqPsn := 20, sqPsn := 12 }

/-- What the engines have sent, in short: kind, PSN, bytes. -/
def frames (t : State) : List (Nat × Nat × List Byte) := t.host.sent.map fun f => match f with
  | .ack _ p => (0, p.toNat, []) | .seqNak _ p => (1, p.toNat, []) | .accessNak _ p => (2, p.toNat, [])
  | .rnrNak _ p => (3, p.toNat, []) | .readData _ p b => (4, p.toNat, b) | .request _ r => (5, r.psn.toNat, r.bytes)
  | .raw n b => (6, n, b)

/-- A queue pair has its RoCE traffic accepted. -/
def accepts (s : State) : Bool := transportUp s && tickGe s.tick.count (qpAt s 2).start && roceOn s (qpAt s 2)

/-- O52: a write into the request half of slot 63, to its last byte, with immediate 63; one byte further is an access error (R433, R436). -/
theorem test_roce_write :
    holds (wired pair) (.roceRequestRx 2 20 true (.write 0x11 (8192 * 63 + 4095) [9] (some 63)))
      (fun s => accepts s ∧ (rdmaWrite 0x11 (8192 * 63 + 4095) [9] s).isSome)
      (fun _ t => (qpAt t 2).rqPsn = 21 ∧ frames t = [(0, 20, [])] ∧ t.host.imms = [(2, 63, false)] ∧
        (slotAt t 63).request.getD 4095 0 = 9) = true ∧
    holds (wired pair) (.roceRequestRx 2 20 true (.write 0x11 (8192 * 63 + 4095) [9, 9] none))
      (fun s => accepts s ∧ rdmaWrite 0x11 (8192 * 63 + 4095) [9, 9] s = none)
      (fun _ t => (qpAt t 2).st = 2 ∧ (qpAt t 2).cause = 3 ∧ frames t = [(2, 20, [])] ∧
        raised t = [(Ev.qpError, [2, 0, 3, 20, 0, 0, 0] ++ le 8 100)]) = true ∧
    holds (wired pair) (.roceRequestRx 2 20 false (.write 0x11 0 [9] none)) transportUp (fun s t => t.host = s.host) = true := by
  decide +kernel

/-- O52: a doorbell, a read of it, SENDs with and without a free slot (R432 to R434). -/
theorem test_roce_doorbell_and_send :
    holds (wired pair) (.roceRequestRx 2 20 true (.write 0x12 8184 (le 8 5) none)) accepts
      (fun _ t => t.host.doorbells = [(1023, 5)] ∧ frames t = [(0, 20, [])]) = true ∧
    holds (wired pair) (.roceRequestRx 2 20 true (.read 0x12 0 4)) (fun s => accepts s ∧ (rdmaRead s 0x12 0 4).isSome)
      (fun _ t => (qpAt t 2).rqPsn = 21 ∧ frames t = [(4, 20, zeros 4)]) = true ∧
    holds (wired pair) (.roceRequestRx 2 20 true (.send [8])) (fun s => accepts s ∧ freeMailSlot s = some 0)
      (fun _ t => t.host.imms = [(2, 0, true)] ∧ (slotAt t 0).request.take 2 = [8, 0]) = true ∧
    holds { wired pair with host := { (wired pair).host with slot := (List.range 64).map (fun k => (k, { busy := true })) } }
      (.roceRequestRx 2 20 true (.send [8])) (fun s => accepts s ∧ freeMailSlot s = none)
      (fun s t => frames t = [(3, 20, [])] ∧ t.host.qp = s.host.qp) = true := by decide +kernel

/-- O52: PSN 21 and the farthest ahead are gaps, told once; 2^23 ahead is a duplicate (R432). -/
theorem test_roce_psn :
    holds (wired pair) (.roceRequestRx 2 21 true (.send [8])) accepts
      (fun _ t => (qpAt t 2).nakOut ∧ (qpAt t 2).rqPsn = 20 ∧ frames t = [(1, 20, [])] ∧ t.host.imms = []) = true ∧
    holds (wired { pair with nakOut := true }) (.roceRequestRx 2 (20 + 0x7FFFFF) true (.send [8])) accepts
      (fun s t => t.host = s.host) = true ∧
    holds (wired pair) (.roceRequestRx 2 (20 + 0x800000) true (.send [8])) accepts
      (fun s t => frames t = [(0, 19, [])] ∧ t.host.qp = s.host.qp ∧ t.host.imms = []) = true := by decide +kernel

/-- Requests 10 and 11 stand out. -/
def outTwo (n : Nat) : QueuePair :=
  { pair with out := [⟨10, 1, 2, 4, 0, [], 64, 0, .fetch 9⟩, ⟨11, 1, 0, 4, 0, [1], 0, 0, .head 9⟩], resends := n, since := 92 }

/-- The queue whose fetch stands out. -/
def fetching (x : QueuePair) : State :=
  { wired x with host := { (wired x).host with queue := [(9, { st := 1, fetching := 1 })] } }

/-- O52: an acknowledgement of PSN 10 brings the entries; one of PSN 12, not sent yet, changes nothing (R432). -/
theorem test_roce_ack :
    holds (fetching (outTwo 0)) (.roceAckRx 2 10 [7]) (fun s => transportUp s ∧ (popAcks 10 (qpAt s 2).out).1 ≠ [])
      (fun _ t => (qpAt t 2).out.map (·.psn) = [11] ∧ (hqAt t 9).arrived = some (7 :: zeros 63) ∧ (qpAt t 2).since = 100) = true ∧
    idle (fetching (outTwo 0)) (.roceAckRx 2 12 [7]) transportUp = true := by decide +kernel

/-- O52: an access error fails the pair; a sequence error resends from its PSN, and past the retry count of 1 it fails (R432, R439). -/
theorem test_roce_nak :
    holds (fetching (outTwo 0)) (.roceNakRx 2 10 1) transportUp (fun _ t => (qpAt t 2).st = 2 ∧ (qpAt t 2).cause = 2) = true ∧
    holds (fetching (outTwo 0)) (.roceNakRx 2 10 0) (fun s => qpRetry s (qpAt s 2) = 1)
      (fun _ t => (qpAt t 2).resends = 1 ∧ (qpAt t 2).out.map (·.psn) = [10, 11] ∧ frames t = [(5, 10, []), (5, 11, [1])]) = true ∧
    holds (fetching (outTwo 1)) (.roceNakRx 2 10 0) (fun s => qpRetry s (qpAt s 2) = 1)
      (fun _ t => (qpAt t 2).st = 2 ∧ (qpAt t 2).cause = 1) = true := by decide +kernel

/-- O52: the timeout of 2^1 × 4.096 µs has passed after 8 ticks, not after 7 (R432). -/
theorem test_roce_timeout :
    holds (fetching (outTwo 0)) (.roceRetryTimeout 2) transportUp (fun _ t => (qpAt t 2).resends = 1 ∧ (frames t).length = 2) = true ∧
    holds (fetching (outTwo 1)) (.roceRetryTimeout 2) transportUp (fun _ t => (qpAt t 2).st = 2 ∧ (qpAt t 2).cause = 1) = true ∧
    idle (fetching { outTwo 0 with since := 93 }) (.roceRetryTimeout 2) transportUp = true ∧
    idle (wired pair) (.roceRetryTimeout 2) transportUp = true := by decide +kernel

/-- The start of a broadcast frame of a given type from 02:00:00:00:00:09. -/
def bcast (a b : Byte) : List Byte := List.replicate 6 0xFF ++ [2, 0, 0, 0, 0, 9, a, b]

/-- An ARP request for 10.0.0.1. -/
def arpAsk : List Byte := bcast 8 6 ++ [0, 1, 8, 0, 6, 4, 0, 1, 2, 0, 0, 0, 0, 9, 10, 0, 0, 9, 0, 0, 0, 0, 0, 0, 10, 0, 0, 1] ++ zeros 18

/-- O52: the answer to it (R426). -/
theorem test_arp :
    holds (wired pair) (.arpRequestRx 0 arpAsk) (fun s => transportUp s ∧ terminated s 128 arpAsk ∧ afterTag arpAsk = (14, 0x0806))
      (fun _ t => frames t = [(6, 128, [2, 0, 0, 0, 0, 9, 2, 0, 0, 0, 0, 1, 8, 6, 0, 1, 8, 0, 6, 4, 0, 2, 2, 0, 0, 0, 0, 1, 10, 0, 0, 1,
        2, 0, 0, 0, 0, 9, 10, 0, 0, 9] ++ zeros 18)]) = true ∧
    idle { wired pair with sys := { base.sys with units := [(19 * 1024, { st := .out })] } } (.arpRequestRx 0 arpAsk)
      (fun s => transportUp s = false) = true := by decide +kernel

/-- A solicitation for the unspecified address, which HP0 has as its IPv6 address, from fe80::9. -/
def solicit : List Byte :=
  bcast 0x86 0xDD ++ [0x60, 0, 0, 0, 0, 32, 58, 255] ++ ([0xFE, 0x80] ++ zeros 13 ++ [9]) ++ zeros 16 ++ [135, 0, 0, 0] ++ zeros 4 ++ zeros 16 ++ zeros 8

/-- O52: a neighbour solicitation is answered, and a DISCOVER by an ANNOUNCE from each port (R426, R428). -/
theorem test_discover :
    holds (wired pair) (.arpRequestRx 0 solicit) (fun s => terminated s 128 solicit ∧ afterTag solicit = (14, 0x86DD))
      (fun _ t => (frames t).map (fun e => (e.2.1, e.2.2.length, e.2.2.drop 54 |>.take 2)) = [(128, 86, [136, 0])]) = true ∧
    holds (wired pair) (.bootDiscover 0 (bcast 0x88 0xB5 ++ [1, 4] ++ zeros 44)) (fun s => terminated s 128 (bcast 0x88 0xB5 ++ [1, 4] ++ zeros 44))
      (fun _ t => (frames t).map (fun e => (e.2.1, e.2.2.take 6, (e.2.2.drop 12).take 4)) =
        [(128, [2, 0, 0, 0, 0, 9], [0x88, 0xB5, 1, 5]), (129, [2, 0, 0, 0, 0, 9], [0x88, 0xB5, 1, 5])]) = true := by decide +kernel

/-- SESSION_PING of session 0x101 with sequence 7; its CRC was computed apart (R6, R474). -/
def ping : List Byte := [0x54, 0x4E, 3, 1, 2, 0, 1, 0] ++ le 4 0x101 ++ le 4 7 ++ zeros 12 ++ le 4 0x800C58CD

/-- It in a bootstrap frame. -/
def pingFrame : List Byte := bcast 0x88 0xB5 ++ [1, 1, 32, 0] ++ zeros 4 ++ ping

/-- Session 1 with a latest bootstrap request of sequence `n`, answered. -/
def booted (n : Word) : State :=
  { wired pair with ports := { base.ports with port := [(128, { st := .up })] }, toune := { base.toune with sessions :=
      [(1, { gen := 1, isOpen := true, version := 3, lastSeq := some n,
             lastResp := some { opcode := Op.sessionPing, session := 0x101, sequence := n, protocol := 3 } })] } }

/-- O52: the frame runs as SESSION_PING and is answered; damaged it is counted and discarded; its repetition gets the kept answer;
without a free slot it is told BUSY, kind 2 (R428, R429, R478). -/
theorem test_boot_frame :
    holds (booted 6) (.bootFrameRx 128 0 pingFrame none) (fun s => mcAccepts s ∧ bootReaches s 128 pingFrame ∧ messageFault 4096 ping = none)
      (fun _ t => answer t = [(Op.sessionPing, 0, [])] ∧ (sessionAt t 1).lastSeq = some 7) = true ∧
    holds (booted 6) (.bootFrameRx 128 0 (pingFrame ++ [0]) none) (fun _ => true) (fun _ t => answer t = [(Op.sessionPing, 0, [])]) = true ∧
    holds (booted 6) (.bootFrameRx 128 0 (pingFrame.set 34 8) none) (fun s => mcAccepts s ∧ bootReaches s 128 (pingFrame.set 34 8))
      (fun s t => t.toune = s.toune ∧ t.host = s.host ∧ counter t (paddr 19 256 0x10E) = 1) = true ∧
    holds (booted 7) (.bootFrameRx 128 0 pingFrame none) (fun s => decide (sessionOpen? s 0x101))
      (fun s t => answer t = [(Op.sessionPing, 0, [])] ∧ t.toune.audit = s.toune.audit) = true ∧
    holds { booted 6 with host := { (wired pair).host with slot := (List.range 64).map (fun k => (k, { busy := true })) } }
      (.bootFrameRx 128 0 pingFrame none) (fun s => freeMailSlot s = none)
      (fun s t => t.toune = s.toune ∧ (frames t).map (fun e => (e.2.2.drop 14).take 2) = [[1, 2]]) = true ∧
    holds { booted 6 with path := { base.path with toMc := [(33, pingFrame)] }, host := { (wired pair).host with slot := (List.range 64).map (fun k => (k, { busy := true })) } }
      (.bootFrameRx 33 0 pingFrame none) (fun s => bootReaches s 33 pingFrame && decide (freeMailSlot s = none))
      (fun s t => t.toune = s.toune ∧ t.host = s.host ∧ t.path.toMc = [] ∧
        (tgetD (fun _ => []) t.path.gens 1).map (fun g => g.reply) = [some 33]) = true ∧
    idle base (.bootFrameRx 128 0 arpAsk none) (fun s => bootReaches s 128 arpAsk = false) = true := by decide +kernel

/-- A slot with a request whose immediate has arrived. -/
def mailed (m : List Byte) (busy : Bool) : State :=
  { wired pair with host := { (wired pair).host with slot := [(5, { request := m, busy := busy })], imms := [(2, 5, false), (2, 6, false)] } }

/-- O52: the slot's request runs; a busy slot is counted; a damaged message is answered E_INTEGRITY (R434, R478). -/
theorem test_mailbox :
    holds (mailed ping false) (.mailboxRequest 0 none) mcAccepts
      (fun _ t => answer t = [(Op.sessionPing, 0, [])] ∧ t.host.imms = [(2, 6, false)] ∧ (slotAt t 5).busy = false) = true ∧
    holds (mailed ping true) (.mailboxRequest 0 none) mcAccepts
      (fun _ t => answer t = [] ∧ t.host.imms = [(2, 6, false)] ∧ counter t (paddr 19 256 0x108) = 1) = true ∧
    holds (mailed (ping.set 12 8) false) (.mailboxRequest 0 none) mcAccepts
      (fun _ t => answer t = [(Op.sessionPing, St.eIntegrity, [])]) = true ∧
    idle (wired pair) (.mailboxRequest 0 none) (fun s => s.host.imms = []) = true := by decide +kernel

/-- Argument of a queue: number, kind, ring of 16 entries in region 4, head region, head offset 8, completion queue 8. -/
def qarg (q : Nat) (kind : Byte) (headRegion cq bound : Nat) (on : Byte) : List Byte :=
  le 2 q ++ [kind, 4, 4, 0] ++ le 2 headRegion ++ zeros 8 ++ le 8 8 ++ le 2 cq ++ le 2 bound ++ [on] ++ zeros 35

/-- Completion queue 8, and queue 9 as given. -/
def queues (cq x : Queue) : State :=
  let s := wired { sqPsn := 12 }
  { s with host := { s.host with queue := [(8, { cq with st := 1, arg := qarg 8 8 0xFFFF 0xFFFF 0 1 }), (9, x)] } }

/-- Queue 9 is an ENABLED submission queue of a kind. -/
def sub (kind : Byte) (bound : Nat) : Queue := { st := 1, arg := qarg 9 kind 4 8 bound 1 }

/-- O52: a doorbell of 16, the size of the ring, is valid and one of 17 is not; of a FREE queue nothing is left (R448). -/
theorem test_doorbell :
    (let bell (v : Dword) : State := let s := queues {} (sub 1 0); { s with host := { s.host with doorbells := [(9, v)] } }
     holds (bell 16) .doorbellWrite (fun s => doorbellOk (hqAt s 9) 16)
        (fun _ t => (hqAt t 9).doorbell = 16 ∧ t.host.doorbells = []) = true ∧
     holds (bell 17) .doorbellWrite (fun s => doorbellOk (hqAt s 9) 17 = false)
        (fun _ t => (hqAt t 9).doorbell = 0 ∧ t.host.doorbells = [] ∧ counter t (paddr 18 9 7) = 1) = true ∧
     holds { base with host := { base.host with doorbells := [(9, 1)] } } .doorbellWrite (fun s => (hqAt s 9).st = 0)
        (fun _ t => t = base) = true ∧
     idle base .doorbellWrite (fun s => s.host.doorbells = []) = true) := by decide +kernel

/-! ### Queue pairs and host regions -/

/-- The argument of QP_CREATE of queue pair 255: window depth 1, read depth 16, no response region, PSN 0xFFFFFF expected (R438). -/
def qpArg : List Byte := le 2 255 ++ zeros 34 ++ [0xFF, 0xFF, 0xFF] ++ zeros 5 ++ [1, 16, 0xFF, 0xFF] ++ zeros 16

/-- HP0 speaks RoCEv2, queue pair 255 in a state. -/
def qpIn (n : Nat) : State :=
  let s := withRegs [(19, 256, 6, 2)] (withRegion base)
  { s with host := { s.host with qp := s.host.qp ++ [(255, { st := n, arg := zeros 64, sqPsn := 3 })] } }

/-- O53: create, restart, and their refusals (R438, R439). -/
theorem test_qp_create :
    answers Op.qpCreate (qpIn 0) (.qpCreate (req qpArg)) (req qpArg) 0 [0xFF, 1, 0, 0]
      (fun _ t => (qpAt t 255).st = 1 ∧ (qpAt t 255).rqPsn = 0xFFFFFF ∧ (qpAt t 255).start = 101 ∧ (qpAt t 2).st = 1 ∧
        leaving t = [(101, .qpStart 255)]) = true ∧
    answers Op.qpCreate (qpIn 2) (.qpCreate (req qpArg)) (req qpArg) 0x105 [] (fun s t => t.host = s.host) = true ∧
    answers Op.qpCreate (qpIn 0) (.qpCreate (req (qpArg.set 0x2C 17))) (req (qpArg.set 0x2C 17)) 0x102 [] (fun s t => t.host = s.host) = true ∧
    answers Op.qpRestart (qpIn 2) (.qpRestart (req qpArg)) (req qpArg) 0 [0xFF, 1, 0, 0] (fun _ t => (qpAt t 255).st = 1) = true := by decide +kernel

/-- O53: destroy of one in RTS and of a FREE one, and query (R438, R439). -/
theorem test_qp_destroy :
    answers Op.qpDestroy (qpIn 1) (.qpDestroy (req [255, 0])) (req [255, 0]) 0 []
      (fun _ t => qpAt t 255 = {} ∧ raised t = [(Ev.qpError, [255, 0, 4, 3, 0, 0, 0] ++ le 8 100)]) = true ∧
    answers Op.qpDestroy (qpIn 0) (.qpDestroy (req [255, 0])) (req [255, 0]) 0x102 [] (fun s t => t.host = s.host) = true ∧
    answers Op.qpQuery (qpIn 1) (.qpQuery (req [255, 0])) (req [255, 0]) 0 (zeros 64 ++ [1, 0, 0, 0, 3, 0, 0, 0, 0, 0, 0, 0])
      (fun s t => t.host = s.host) = true := by decide +kernel

/-- A region of `n` bytes at number 4,095. -/
def regionArg (n : Nat) : List Byte := [0xFF, 0xF, 255, 0, 9, 0, 0, 0] ++ zeros 8 ++ le 8 n ++ [3] ++ zeros 7

/-- O53: a region of 2^40 bytes is entered, one byte more is not; read and remove (R437, R438). -/
theorem test_hregion :
    answers Op.hregionAdd base (.hregionAdd (req (regionArg (2 ^ 40)))) (req (regionArg (2 ^ 40))) 0 []
      (fun _ t => regionAt t 4095 = some (regionArg (2 ^ 40))) = true ∧
    answers Op.hregionAdd base (.hregionAdd (req (regionArg (2 ^ 40 + 1)))) (req (regionArg (2 ^ 40 + 1))) 0x102 []
      (fun s t => t.host = s.host) = true ∧
    answers Op.hregionRead (withRegion base) (.hregionRead (req [4, 0, 2, 0])) (req [4, 0, 2, 0]) 0
      ([4, 0, 2, 0, 9, 0, 0, 0] ++ zeros 8 ++ le 8 (2 ^ 40) ++ [3] ++ zeros 7 ++ zeros 32) (fun s t => t.host = s.host) = true ∧
    answers Op.hregionRemove (queues {} (sub 1 0)) (.hregionRemove (req [4, 0])) (req [4, 0]) 0 []
      (fun _ t => regionAt t 4 = none ∧ (hqAt t 9).st = 3 ∧ (hqAt t 8).st = 3) = true ∧
    answers Op.hregionRemove base (.hregionRemove (req [4, 0])) (req [4, 0]) 0x102 [] (fun s t => t.host = s.host) = true := by decide +kernel

/-! ### Queues -/

/-- O54: create of an INJECT queue, of one that exists, and with a completion queue that does not (R446). -/
theorem test_queue_create :
    answers Op.queueCreate (queues {} {}) (.queueCreate (req (qarg 9 1 4 8 0 1))) (req (qarg 9 1 4 8 0 1)) 0 []
      (fun s t => hqAt t 9 = { st := 1, arg := qarg 9 1 4 8 0 1 } ∧ hqAt t 8 = hqAt s 8) = true ∧
    answers Op.queueCreate (queues {} {}) (.queueCreate (req (qarg 9 5 4 8 0 0))) (req (qarg 9 5 4 8 0 0)) 0 []
      (fun _ t => (hqAt t 9).st = 3 ∧ (ringAt t 0).queue = some 9) = true ∧
    answers Op.queueCreate (queues {} (sub 1 0)) (.queueCreate (req (qarg 9 1 4 8 0 1))) (req (qarg 9 1 4 8 0 1)) 0x105 []
      (fun s t => t.host = s.host) = true ∧
    answers Op.queueCreate (queues {} {}) (.queueCreate (req (qarg 9 1 4 1024 0 1))) (req (qarg 9 1 4 1024 0 1)) 0x102 []
      (fun s t => t.host = s.host) = true := by decide +kernel

/-- O54: disable without and with a job, enable, destroy, query (R445, R460, R461). -/
theorem test_queue_states :
    answers Op.queueDisable (queues {} { sub 1 0 with head := 6 }) (.queueDisable (req [9, 0])) (req [9, 0]) 1 []
      (fun _ t => (hqAt t 9).st = 3 ∧ (hqAt t 9).cause = 1 ∧ (handleAt t 0).ended = some (0, le 4 6) ∧
        (raised t).head? = some (Ev.queueDisabled, [9, 0, 1, 6, 0, 0, 0])) = true ∧
    answers Op.queueDisable (queues {} { sub 1 0 with jobs := [{ pos := 6, count := 1 }] }) (.queueDisable (req [9, 0])) (req [9, 0]) 1 []
      (fun _ t => (hqAt t 9).st = 2 ∧ (hqAt t 9).handle = some 0x1000000 ∧ raised t = []) = true ∧
    answers Op.queueDisable (queues {} (sub 1 0)) (.queueDisable (req [8, 0])) (req [8, 0]) 1 [] (fun _ t => (hqAt t 9).st ≠ 1) = true ∧
    answers Op.queueEnable (queues {} { sub 1 0 with st := 3, head := 6, doorbell := 6, fetched := 9 }) (.queueEnable (req [9, 0])) (req [9, 0]) 0 []
      (fun _ t => (hqAt t 9).st = 1 ∧ (hqAt t 9).fetched = 6) = true ∧
    answers Op.queueDestroy (queues {} { sub 1 0 with st := 3 }) (.queueDestroy (req [9, 0])) (req [9, 0]) 0 []
      (fun _ t => hqAt t 9 = {}) = true := by decide +kernel

/-- O54: the refusals of a queue in the wrong state, and QUEUE_QUERY (R445). -/
theorem test_queue_refusals :
    answers Op.queueDisable (queues {} {}) (.queueDisable (req [9, 0])) (req [9, 0]) 0x105 [] (fun s t => t.host = s.host) = true ∧
    answers Op.queueEnable (queues {} {}) (.queueEnable (req [9, 0])) (req [9, 0]) 0x105 [] (fun s t => t.host = s.host) = true ∧
    answers Op.queueDestroy (queues {} (sub 1 0)) (.queueDestroy (req [9, 0])) (req [9, 0]) 0x105 [] (fun s t => t.host = s.host) = true ∧
    answers Op.queueQuery (queues {} { sub 1 0 with doorbell := 5, fetched := 4, head := 3 }) (.queueQuery (req [9, 0])) (req [9, 0]) 0
      (qarg 9 1 4 8 0 1 ++ [1, 0, 0, 0] ++ le 4 5 ++ le 4 4 ++ le 4 3 ++ le 4 0) (fun s t => t.host = s.host) = true := by decide +kernel

/-- O54: the entries that arrived are taken in behind the others (R449). -/
theorem test_fetch_done :
    holds (queues {} { sub 1 0 with fetched := 4, fetching := 2, doorbell := 6, arrived := some (zeros 64 ++ List.replicate 64 7) })
      (.queueFetchDone 9) (fun s => (hqAt s 9).arrived.isSome ∧ inService s 18 0)
      (fun _ t => (hqAt t 9).entries = [(4, zeros 64), (5, List.replicate 64 7)] ∧ (hqAt t 9).fetched = 6 ∧ (hqAt t 9).arrived = none) = true ∧
    idle base (.queueFetchDone 9) (fun s => (hqAt s 9).arrived = none) = true := by decide +kernel

/-- A queue with one entry, FIRST and LAST, behind the header of its kind. -/
def entryOf (kind : Byte) (bound : Nat) (tail : List Byte) : State :=
  queues {} { sub kind bound with entries := [(4, [3, 0, 1, 0, 9, 0, 0, 0] ++ tail)], fetched := 5, doorbell := 5 }

/-- The jobs, in short. -/
def jobsOf (t : State) : List (Word × Half × Bool × Bool) := (hqAt t 9).jobs.map (fun j => (j.pos, j.status, j.begun, j.done))

/-- O54: an entry without FIRST is E_ARG; a DMA job begins; a posted buffer of 256 bytes waits (R450, R453, R454). -/
theorem test_job_start :
    holds (queues {} { sub 1 0 with entries := [(4, 2 :: 0 :: 1 :: zeros 61)] }) (.jobStart 9 0 none)
      (fun s => jobFrame (hqAt s 9) = some (1, false) ∧ mayStart s (hqAt s 9)) (fun _ t => jobsOf t = [(4, St.eArg, true, true)]) = true ∧
    holds (withRegs [(20, 31, 0, 1)] (entryOf 7 31 (zeros 56))) (.jobStart 9 0 none)
      (fun s => jobFrame (hqAt s 9) = some (1, true) ∧ mayStart s (hqAt s 9)) (fun _ t => jobsOf t = [(4, 0, true, false)]) = true ∧
    holds (entryOf 2 0 ([4, 0, 0, 0, 0, 1, 0, 0] ++ zeros 48)) (.jobStart 9 0 none)
      (fun s => jobFrame (hqAt s 9) = some (1, true) ∧ bufferOk 2 ((hqAt s 9).entries.headD (0, [])).2)
      (fun _ t => jobsOf t = [(4, 0, false, false)] ∧ (hqAt t 9).entries = []) = true ∧
    idle (withRegs [(20, 31, 0, 0)] (entryOf 7 31 (zeros 56))) (.jobStart 9 0 none) (fun s => mayStart s (hqAt s 9) = false) = true := by decide +kernel

/-- An ADMIN job of two entries: a response buffer of 4,128 bytes in region 4, and the message of SESSION_PING (R452). -/
def adminJob : State :=
  queues {} { sub 0 0 with
    entries := [(4, [1, 0, 2, 0, 9, 0, 0, 0] ++ [4, 0, 0, 0] ++ le 4 4128 ++ zeros 8 ++ ping ++ zeros 8), (5, 2 :: zeros 63)]
    fetched := 6, doorbell := 6, arg := qarg 0 0 4 8 0 1 }

/-- O54: the job's message runs; a LOOKUP frame of 60 bytes enters pipeline 3 (R452, R453). -/
theorem test_job_message :
    holds adminJob (.jobStart 9 0 none) (fun s => jobFrame (hqAt s 9) = some (2, true) ∧ mayStart s (hqAt s 9))
      (fun _ t => answer t = [(Op.sessionPing, 0, [])]) = true ∧
    holds (entryOf 1 0 ([4, 0, 60, 0] ++ zeros 12 ++ [0, 3] ++ zeros 38)) (.jobStart 9 0 (some (List.replicate 60 7)))
      (fun s => jobFrame (hqAt s 9) = some (1, true) ∧ injectOk s ((hqAt s 9).entries.headD (0, [])).2)
      (fun _ t => (tgetD (fun _ => []) t.path.gens 3).map (fun g => (g.frame, g.test)) = [(List.replicate 60 7, true)] ∧
        jobsOf t = [(4, 0, true, true)]) = true := by decide +kernel

/-- Queue 9 with a job at position 4. -/
def oneJob (cq : Queue) (j : Job) : State := queues cq { sub 1 0 with jobs := [j], fetched := 5, doorbell := 5, head := 4 }

/-- O54: the completion entry of a job that ended; the 16 entries of the ring full it is held; a job that has not ended has none (R455, R457, R458). -/
theorem test_job_complete :
    (let j : Job := { pos := 4, count := 1, tag := 7, done := true, detail := [1, 2] }
     holds { oneJob { head := 15 } j with host := { (oneJob { head := 15 } j).host with
        queue := [(8, { st := 1, head := 15, arg := qarg 8 8 0xFFFF 0xFFFF 0 1 }), (9, { sub 3 0 with jobs := [j], fetched := 5, doorbell := 5 })] } }
       (.jobComplete 9) (fun s => (oldestJob s 9).isSome ∧ cqFull (hqAt s 8) = false)
       (fun _ t => (hqAt t 8).head = 16 ∧ (qpAt t 2).out.map (fun o => (o.offset, o.bytes)) =
         [(480, le 4 15 ++ [9, 0, 0, 0, 7, 0, 0, 0, 5, 0, 0, 0, 1, 2] ++ zeros 14)]) = true ∧
     holds { oneJob {} j with host := { (oneJob {} j).host with
        queue := [(8, { st := 1, head := 16, arg := qarg 8 8 0xFFFF 0xFFFF 0 1 }), (9, { sub 3 0 with jobs := [j], fetched := 5, doorbell := 5 })] } }
       (.jobComplete 9) (fun s => cqFull (hqAt s 8))
       (fun _ t => (hqAt t 8).head = 16 ∧ (hqAt t 8).held.map (fun e => (e.1, e.2.1)) = [(9, 4)]) = true ∧
     idle (queues {} { sub 3 0 with jobs := [{ j with done := false }] }) (.jobComplete 9) (fun s => (oldestJob s 9).isSome) = true) := by
  decide +kernel

/-- O54: the acknowledged completion moves the head on, and its slot at offset 8 is written (R455). -/
theorem test_completion_ack :
    holds (oneJob {} { pos := 4, count := 1, written := true }) (.completionAck 9)
      (fun s => outstanding s (.completion 9 4) = false ∧ (regionUsable s 4 8 8 true).isSome)
      (fun _ t => (hqAt t 9).jobs = [] ∧ (hqAt t 9).head = 5 ∧ (qpAt t 2).out.map (fun o => (o.offset, o.bytes)) = [(8, le 8 5)]) = true ∧
    idle (oneJob {} { pos := 4, count := 1 }) (.completionAck 9) (fun s => (hqAt s 9).jobs ≠ []) = true ∧
    idle base (.completionAck 9) (fun s => (hqAt s 9).jobs = []) = true := by decide +kernel

/-- A copy for RECEIVE queue 9, which has one buffer of 256 bytes at offset 4,096. -/
def copyFor : State :=
  let s := queues {} { sub 2 0 with jobs := [{ pos := 4, count := 1, begun := false, entries := [zeros 8 ++ [4, 0, 0, 0] ++ le 4 256 ++ le 8 4096 ++ zeros 40] }] }
  { s with
    path := { s.path with pkts := [(3, { pipe := 0, cls := 1, port := 8, stamp := 77 })] }
    buf := { s.buf with hostq := [(9, [3])], stored := [(3, { bytes := List.replicate 256 5, total := 1, copies := [{ die := 0, dest := .host 9, cls := 1 }] })] } }

/-- O54: a copy as long as the buffer is placed whole (R456, R457). -/
theorem test_rx_buffer :
    holds copyFor (.rxBufferWrite 9) (fun s => receives s 9 ∧ (postedJob (hqAt s 9)).isSome ∧ cqLoad s 8 < 64)
      (fun _ t => tgetD (fun _ => []) t.buf.hostq 9 = [] ∧
        (hqAt t 9).jobs.map (fun j => (j.done, j.detail)) = [(true, [0, 1, 1, 8, 0, 1, 1, 0] ++ le 8 77)] ∧
        (qpAt t 2).out.map (fun o => (o.offset, o.bytes)) = [(4096, List.replicate 256 5)]) = true ∧
    idle base (.rxBufferWrite 9) (fun s => receives s 9 = false) = true := by decide +kernel

/-- A completion event of session 0x101, whose session has a sink. -/
def eventFor (sink : Nat) (q : Queue) : State :=
  let s := queues {} q
  { s with toune := { s.toune with
      sessions := [(1, { gen := 1, isOpen := true, version := 3, sink := sink, subscribe := 0x8000 })]
      events := [{ code := 0x5001, detail := zeros 17, completion := true, session := 0x101 }] } }

/-- An event queue with a mask. -/
def evq (x : Queue) : Queue := { x with st := 1, arg := qarg 9 9 0xFFFF 0xFFFF 0x20 1 }

/-- O54: an event goes to no sink, to the bootstrap sink, into a queue with room for its two entries, and is lost without (R459, R490, R493). -/
theorem test_event_deliver :
    holds (eventFor 0xFFFF {}) .eventDeliver (fun s => receivers s (s.toune.events.headD { code := 0 }) = [])
      (fun s t => t.toune.events = [] ∧ t.host = s.host ∧ t.toune.delivered = []) = true ∧
    holds (eventFor 0xFFFE {}) .eventDeliver (fun s => receivers s (s.toune.events.headD { code := 0 }) = [1])
      (fun _ t => (sessionAt t 1).evCount = 1 ∧ t.host.sent.length = 1 ∧ t.toune.delivered.map (fun e => (e.1, e.2.1)) = [(0x101, 0xFFFE)]) = true ∧
    holds (eventFor 9 (evq { head := 14 })) .eventDeliver (fun s => receivers s (s.toune.events.headD { code := 0 }) = [1])
      (fun _ t => (hqAt t 9).head = 16 ∧ t.toune.delivered.map (fun e => (e.1, e.2.1)) = [(0x101, 9)] ∧
        (qpAt t 2).out.map (fun o => (o.offset, o.bytes.take 8)) = [(448, [14, 0, 0, 0, 1, 0x50, 2, 0]), (480, [15, 0, 0, 0, 1, 0x50, 1, 2])]) = true ∧
    holds (eventFor 9 (evq { head := 15 })) .eventDeliver (fun s => receivers s (s.toune.events.headD { code := 0 }) = [1])
      (fun _ t => (hqAt t 9).head = 15 ∧ (hqAt t 9).lost ∧ counter t (paddr 18 9 6) = 1) = true ∧
    idle base .eventDeliver (fun s => s.toune.events = []) = true := by decide +kernel

/-- A descriptor of `n` bytes from offset 64 of region 4 to address 128 of the Stack window (R462). -/
def descriptor (n : Nat) : List Byte := [3, 0, 1, 0, 0, 0, 0, 0] ++ [0, 2, 0, 0, 4, 0, 0, 0] ++ le 8 64 ++ le 8 128 ++ le 4 n ++ zeros 28

/-- The same the other way: how much of it has moved when it fails is open. -/
def outwards (n : Nat) : List Byte := [3, 0, 1, 0, 0, 0, 0, 0] ++ [2, 0, 0, 0, 0, 0, 4, 0] ++ le 8 128 ++ le 8 64 ++ le 4 n ++ zeros 28

/-- Channel 31 executes it. -/
def dma (e : List Byte) (on : Word) : State :=
  withRegs [(20, 31, 0, on)] (queues {} { sub 7 31 with jobs := [{ pos := 4, count := 1, entries := [e] }], head := 4 })

/-- O54: the bytes are moved and counted; a remote error, a bad length, and a stopped channel (R462 to R472). -/
theorem test_dx_descriptor :
    holds (dma (descriptor 4) 1) (.dxDescriptorEnd 31 [1, 2, 0, 4] 0) (fun s => dxQueue s 31 = some 9 ∧ dxRefused s (descriptor 4) = none)
      (fun _ t => winRead t false 128 4 = [1, 2, 0, 4] ∧ (hqAt t 9).jobs.map (fun j => (j.ended, j.bad, j.moved, j.done)) = [(1, 0, 4, true)] ∧
        counter t (paddr 20 31 3) = 1) = true ∧
    holds (dma (outwards 4) 1) (.dxDescriptorEnd 31 [] 1) (fun s => dxRefused s (outwards 4) = none)
      (fun _ t => (hqAt t 9).jobs.map (fun j => (j.ended, j.bad, j.moved, j.status)) = [(1, 1, 0, St.eFault)] ∧ counter t (paddr 20 31 4) = 1 ∧
        tfind t.host.lastBad 31 = some 4) = true ∧
    holds (dma (descriptor 0) 1) (.dxDescriptorEnd 31 [] 0) (fun s => (dxRefused s (descriptor 0)).isSome)
      (fun _ t => (hqAt t 9).jobs.map (fun j => (j.bad, j.firstBad)) = [(1, some (0, 1))]) = true ∧
    idle (dma (descriptor 4) 0) (.dxDescriptorEnd 31 [] 0) (fun s => bitOf (reg s 20 31 0).toNat 0 = false) = true ∧
    idle base (.dxDescriptorEnd 31 [] 0) (fun s => dxQueue s 31 = none) = true := by decide +kernel

/-- O54: a channel that is disabled stops its queue, cause 6; one that was, does not (R470). -/
theorem test_dx_disable :
    holds (dma (descriptor 0) 1) (.dxCtrlDisable 31) (fun s => dxQueue s 31 = some 9)
      (fun _ t => bitOf (reg t 20 31 0).toNat 0 = false ∧ (hqAt t 9).st = 3 ∧ (hqAt t 9).cause = 6 ∧ (hqAt t 9).jobs = [] ∧
        (raised t).getLast? = some (Ev.queueDisabled, [9, 0, 6, 4, 0, 0, 0])) = true ∧
    holds (dma (descriptor 4) 0) (.dxCtrlDisable 31) (fun s => bitOf (reg s 20 31 0).toNat 0 = false)
      (fun s t => t.host = s.host ∧ t.toune = s.toune) = true := by decide +kernel

/-! ### Sessions, handles, audit journal -/

/-- SESSION_OPEN with a range of protocol versions: record version 1, keepalive 3,600 s, no sink (R483). -/
def openArg (lo hi : Byte) : List Byte := [lo, hi, 1, 1] ++ le 2 3600 ++ [0xFF, 0xFF, 0, 0] ++ zeros 6 ++ (65 :: zeros 15) ++ zeros 16

/-- Outside any session. -/
def openReq (lo hi : Byte) : Req := { req (openArg lo hi) with session := 0, protocol := 1 }

/-- All 32 sessions open. -/
def allOpen : State := { base with toune := { base.toune with
  sessions := (List.range 32).map (fun k => (k, { gen := 1, isOpen := true, version := 3 })) } }

/-- O55: no version in common; no free session; and a session to be had (R483). -/
theorem test_session_open :
    answers Op.sessionOpen base (.sessionOpen (openReq 4 9)) (openReq 4 9) 0x100 [1, 3, 1, 1] (fun s t => t.toune.sessions = s.toune.sessions) = true ∧
    answers Op.sessionOpen allOpen (.sessionOpen (openReq 1 3)) (openReq 1 3) 0x104 [] (fun s t => t.toune.sessions = s.toune.sessions) = true ∧
    holds base (.sessionOpen (openReq 3 255)) (fun s => canRun Op.sessionOpen (openReq 3 255) s ∧ chooseVersion 3 255 (topVersion s) = some 3 ∧
      (freeSessions s).length = 31) (fun _ _ => true) = true := by decide +kernel

/-- Session 1, a second open session 31, and handles: 0 DONE of the first, 1 RUNNING of the second. -/
def twoSessions : State := { base with toune := { base.toune with
  sessions := [(1, { gen := 1, isOpen := true, version := 3, keepalive := 1 }), (31, { gen := 2, isOpen := true, version := 2, client := [66] })]
  handles := [(0, { gen := 1, st := .done, session := 0x101, opcode := Op.rehash, result := [8], endTick := 60 }),
              (1, { gen := 1, st := .running, session := 0x21F, opcode := Op.rehash, started := true })] } }

/-- O55: a session closes itself, another one, and one that is not open (R482, R485). -/
theorem test_session_close :
    answers Op.sessionClose twoSessions (.sessionClose (req (zeros 4))) (req (zeros 4)) 0 []
      (fun s t => sessionAt t 1 = { gen := 1 } ∧ handleAt t 0 = { gen := 1 } ∧ handleAt t 1 = handleAt s 1 ∧
        raised t = [(Ev.sessionClosed, [1, 1, 0, 0, 0])]) = true ∧
    answers Op.sessionClose twoSessions (.sessionClose (req (le 4 0x21F))) (req (le 4 0x21F)) 0 []
      (fun s t => sessionAt t 31 = { gen := 2 } ∧ handleAt t 0 = handleAt s 0 ∧ raised t = [(Ev.sessionClosed, [0x1F, 2, 0, 0, 2])]) = true ∧
    answers Op.sessionClose twoSessions (.sessionClose (req (le 4 0x11F))) (req (le 4 0x11F)) 0x108 []
      (fun s t => t.toune.handles = s.toune.handles) = true := by decide +kernel

/-- O55: three keepalives of one second are 3,000,000 ticks; one tick less is too soon (R485). -/
theorem test_keepalive :
    holds { twoSessions with tick := { base.tick with count := 3000000 } } (.sessionKeepaliveExpiry 1) (fun s => (sessionAt s 1).isOpen)
      (fun _ t => sessionAt t 1 = { gen := 1 } ∧ raised t = [(Ev.sessionClosed, [1, 1, 0, 0, 1])]) = true ∧
    idle { twoSessions with tick := { base.tick with count := 2999999 } } (.sessionKeepaliveExpiry 1) (fun s => (sessionAt s 1).isOpen) = true ∧
    idle twoSessions (.sessionKeepaliveExpiry 31) (fun s => (sessionAt s 31).keepalive = 0) = true := by decide +kernel

/-- O55: ping, query and the versions of the last opcode (R485). -/
theorem test_session_queries :
    answers Op.sessionPing base (.sessionPing (req [])) (req []) 0 [] (fun s t => t.host = s.host) = true ∧
    answers Op.sessionQuery twoSessions (.sessionQuery (req (zeros 4))) (req (zeros 4)) 0
      ([1, 1, 0, 0, 3, 1, 1, 0, 0xFF, 0xFF, 0, 0, 0, 0, 0, 0] ++ zeros 16) (fun _ _ => true) = true ∧
    answers Op.commandVersions base (.commandVersions (req [6, 0xA])) (req [6, 0xA]) 0 [6, 0xA, 1, 1] (fun _ _ => true) = true := by decide +kernel

/-- O55: an event queue as sink, and a queue that is none (R493). -/
theorem test_subscribe :
    answers Op.eventSubscribe (queues {} (evq {})) (.eventSubscribe (req [9, 0, 0x34, 0x12])) (req [9, 0, 0x34, 0x12]) 0 []
      (fun _ t => (sessionAt t 1).sink = 9 ∧ (sessionAt t 1).subscribe = 0x1234 ∧ (sessionAt t 1).lastReq = 100) = true ∧
    answers Op.eventSubscribe (queues {} (evq {})) (.eventSubscribe (req [8, 0, 0x34, 0x12])) (req [8, 0, 0x34, 0x12]) 0x102 []
      (fun _ t => (sessionAt t 1).sink = 0xFFFF) = true := by decide +kernel

/-- O55: the record of a DONE handle, and of a stale one (R488, R491). -/
theorem test_handle_query :
    answers Op.handleQuery twoSessions (.handleQuery (req (le 4 0x1000000))) (req (le 4 0x1000000)) 0
      (le 4 0x1000000 ++ [2, 0, 0x24, 3, 1, 1, 0, 0, 0, 0, 1, 0] ++ zeros 8 ++ le 8 60 ++ (8 :: zeros 367)) (fun _ _ => true) = true ∧
    answers Op.handleQuery twoSessions (.handleQuery (req (le 4 0x2000000))) (req (le 4 0x2000000)) 0x106 [] (fun _ _ => true) = true := by
  decide +kernel

/-- A request of session 31. -/
def req31 (p : List Byte) : Req := { req p with session := 0x21F, protocol := 2 }

/-- O55: cancel of a DONE handle, of a running REHASH, and of a running operation that cannot be stopped (R492). -/
theorem test_handle_cancel :
    answers Op.handleCancel twoSessions (.handleCancel (req (le 4 0x1000000))) (req (le 4 0x1000000)) 0 [1]
      (fun s t => t.toune.handles = s.toune.handles) = true ∧
    answers Op.handleCancel twoSessions (.handleCancel (req31 (le 4 0x1000001))) (req31 (le 4 0x1000001)) 0 [0]
      (fun _ t => (handleAt t 1).cancelling) = true ∧
    answers Op.handleCancel { twoSessions with toune := { twoSessions.toune with
        handles := [(0, { gen := 1, st := .running, session := 0x101, opcode := Op.queueDisable, started := true })] } }
      (.handleCancel (req (le 4 0x1000000))) (req (le 4 0x1000000)) 0x105 [] (fun s t => t.toune.handles = s.toune.handles) = true := by
  decide +kernel

/-- O55: release of a DONE and of a running handle; expiry after 67,108,864 ticks (R489, R491). -/
theorem test_handle_release :
    answers Op.handleRelease twoSessions (.handleRelease (req (le 4 0x1000000))) (req (le 4 0x1000000)) 0 []
      (fun s t => handleAt t 0 = { gen := 1 } ∧ handleAt t 1 = handleAt s 1) = true ∧
    answers Op.handleRelease twoSessions (.handleRelease (req31 (le 4 0x1000001))) (req31 (le 4 0x1000001)) 0x105 []
      (fun s t => t.toune.handles = s.toune.handles) = true ∧
    holds { twoSessions with tick := { base.tick with count := 67108924 } } (.handleRetentionExpiry 0) (fun _ => true)
      (fun s t => handleAt t 0 = { gen := 1 } ∧ handleAt t 1 = handleAt s 1) = true ∧
    idle { twoSessions with tick := { base.tick with count := 67108923 } } (.handleRetentionExpiry 0) (fun _ => true) = true := by decide +kernel

/-- O55: an operation that has ended is DONE with its event; one that has not, is not (R489, R490). -/
theorem test_op_done :
    holds { base with toune := { base.toune with handles := [(4095, { gen := 1, st := .running, opcode := Op.queueDisable, ended := some (0, [6]) })] } }
      (.opDone 4095) (fun _ => true)
      (fun _ t => (handleAt t 4095).st = .done ∧ (handleAt t 4095).result = [6] ∧ (handleAt t 4095).endTick = 100 ∧
        raised t = [(Ev.opDone, [0xFF, 0xF, 0, 1, 2, 2, 0, 0, 6])]) = true ∧
    idle twoSessions (.opDone 1) (fun s => (handleAt s 1).ended = none) = true := by decide +kernel

/-- An audit record of PING. -/
def auditRec (n : Dword) : AuditRec :=
  ⟨n, 0, 2, 0, 0x101, 7, 0, .mailbox, false, false, 2, 0xFFFF, 1, [5], 0⟩

/-- Its 64 bytes (R499). -/
def auditBytes (n : Byte) : List Byte :=
  (n :: zeros 15) ++ [2, 0, 0, 0, 1, 1, 0, 0, 7, 0, 0, 0, 0, 0, 0, 0, 1, 0, 2, 0, 0xFF, 0xFF, 1, 0, 5] ++ zeros 23

/-- Two records, 8 and 9. -/
def audited : State := { base with toune := { base.toune with
  auditNext := 10, audit := [auditRec 8, auditRec 9] } }

/-- O55: records from 9 on; the staging buffer ends at 65,536 (R487, R501). -/
theorem test_audit_and_stage :
    answers Op.auditRead audited (.auditRead (req (le 8 9 ++ [63]))) (req (le 8 9 ++ [63])) 0 (le 8 10 ++ le 8 8 ++ auditBytes 9)
      (fun s t => t.toune.audit = s.toune.audit) = true ∧
    answers Op.stageWrite base (.stageWrite (req (le 4 65535 ++ le 4 1 ++ [7]))) (req (le 4 65535 ++ le 4 1 ++ [7])) 0 []
      (fun _ t => (sessionAt t 1).staging = [(65535, 7)]) = true ∧
    answers Op.stageWrite base (.stageWrite (req (le 4 65536 ++ le 4 1 ++ [7]))) (req (le 4 65536 ++ le 4 1 ++ [7])) 0x103 []
      (fun _ t => (sessionAt t 1).staging = []) = true := by decide +kernel

/-! ### Parameters -/

/-- Bytes of the argument of PARAM_READ or PARAM_WRITE of one item. -/
def oneItem (a : Nat) (rest : List Byte) : List Byte := [1, 0, 0, 0, 0, 0, 0, 0] ++ le 4 a ++ rest

/-- O56: HQ EXPORT_LINGER reads as set; word 0x3FFF of HQ does not exist; a block of two words (R495, R496, R577). -/
theorem test_param_read :
    answers Op.paramRead (withRegs [(18, 0, 0x200, 50)] base) (.paramRead (req (oneItem (paddr 18 0 0x200) []))) (req (oneItem (paddr 18 0 0x200) []))
      0 (le 4 50 ++ zeros 4) (fun s t => t.prm = s.prm) = true ∧
    answers Op.paramRead base (.paramRead (req (oneItem (paddr 18 0 0x3FFF) []))) (req (oneItem (paddr 18 0 0x3FFF) []))
      0x103 (zeros 4 ++ [3, 1, 0, 0]) (fun s t => t.prm = s.prm) = true ∧
    answers Op.paramReadBlock (withRegs [(18, 0, 0x200, 50)] base) (.paramReadBlock (req (le 4 (paddr 18 0 0x1FF) ++ [2, 0, 0, 0])))
      (req (le 4 (paddr 18 0 0x1FF) ++ [2, 0, 0, 0])) 0 (zeros 8 ++ le 4 50) (fun s t => t.prm.regs = s.prm.regs) = true ∧
    answers Op.paramReadBlock base (.paramReadBlock (req (le 4 (paddr 18 0 0x200) ++ le 2 1001 ++ [0, 0])))
      (req (le 4 (paddr 18 0 0x200) ++ le 2 1001 ++ [0, 0])) 0x103 [] (fun s t => t.prm = s.prm) = true := by decide +kernel

/-- O56: a write waits for the boundary with its response; a write of an RO word is answered E_ARG (R34, R496). -/
theorem test_param_write :
    (let r := req (oneItem (paddr 18 0 0x200) (le 4 77 ++ le 4 0xFFFF))
     let q := req (oneItem 0 (le 4 77 ++ le 4 0xFFFF))
     holds base (.paramWrite r) (fun s => canRun Op.paramWrite r s ∧ actsAtOnce (paddr 18 0 0x200) = false)
       (fun s t => answer t = [] ∧ t.prm.regs = s.prm.regs ∧
         leaving t = [(101, .word (paddr 18 0 0x200) 0xFFFF 77), (101, .notify)]) = true ∧
     answers Op.paramWrite base (.paramWrite q) q 0x102 (zeros 4 ++ [2, 1, 0, 0]) (fun s t => t.prm.regs = s.prm.regs ∧ t.sys = s.sys) = true) := by
  decide +kernel

/-- O56: the masked bits of DOM_TOL alone take the value; in SAFE words that are locked do not (R496, R576, R579). -/
theorem test_word_write :
    holds (withRegs [(2, 0, 5, 0x12345)] base) (.paramWordWrite (BitVec.ofNat 32 (paddr 2 0 5)) 0xFF 0xABCD) (fun _ => true)
      (fun s t => reg t 2 0 5 = 0x123CD ∧ reg t 2 0 8 = reg s 2 0 8 ∧ t.sys = s.sys ∧
        t.toune.audit.map (fun a => (a.opcode, a.status)) = [(Op.paramWrite, St.ok)]) = true ∧
    holds base (.paramWordWrite 0 0xFF 0xABCD) (fun s => match judgeWrite 0 0 0xABCD 0xFF s with | .error e => e == St.eArg | .ok _ => false)
      (fun s t => t.prm = s.prm ∧ t.toune.audit.map (fun a => (a.opcode, a.status)) = [(Op.paramWrite, St.eArg)]) = true ∧
    idle State.reset (.paramWordWrite 0 0xFF 0xABCD) (fun s => s.sys.mode = .reset) = true := by decide +kernel

/-- O56: TICK.COUNT_LO latches its upper half, once read it is used up; a read-clear counter is cleared (R10, R583). -/
theorem test_latches :
    holds { base with tick := { base.tick with count := 0x123456789A } } (.latchedLoRead 1 0 (BitVec.ofNat 32 (paddr 3 0 0))) (fun _ => true)
      (fun _ t => tfind t.prm.latches (latchKey 1 (paddr 3 0 1)) = some 0x12) = true ∧
    holds { base with prm := { base.prm with latches := [(latchKey 1 (paddr 3 0 0), 5)] } } (.latchedLoRead 1 0 (BitVec.ofNat 32 (paddr 3 0 0)))
      (fun _ => true) (fun _ t => t.prm.latches = []) = true ∧
    idle base (.latchedLoRead 1 0 (BitVec.ofNat 32 (paddr 18 0 0x200))) (fun _ => latchedBy (paddr 18 0 0x200) = []) = true ∧
    holds { base with prm := { base.prm with counts := [(paddr 2 0 0x12, 9), (paddr 2 0 0x16, 8)] } }
      (.rcWordRead 1 0 (BitVec.ofNat 32 (paddr 2 0 0x12))) (fun _ => isRc (paddr 2 0 0x12))
      (fun _ t => counter t (paddr 2 0 0x12) = 0 ∧ counter t (paddr 2 0 0x16) = 8) = true ∧
    idle base (.rcWordRead 1 0 (BitVec.ofNat 32 (paddr 18 0 0x200))) (fun _ => isRc (paddr 18 0 0x200) = false) = true := by decide +kernel

/-- O56: before tick 16 the entropy is 0; from then on a fresh value is drawn (R583). -/
theorem test_entropy :
    holds { base with tick := { base.tick with count := 15 } } (.entropyRead 1 0) (fun _ => true)
      (fun s t => tfind t.prm.latches (latchKey 1 7) = some 0 ∧ t.free = s.free) = true ∧
    holds { base with tick := { base.tick with count := 16 } } (.entropyRead 1 0) (fun _ => true) (fun s t => t.free = s.free + 1) = true := by
  decide +kernel

/-- O56: with every tier empty a seed is set; with a record it is not (R235). -/
theorem test_flow_seed :
    holds base (.flowSeedWrite 1 9) flowEmpty
      (fun _ t => reg t 13 16 0x11 = 9 ∧ raised t = [(Ev.flowSeedSet, le 8 100)]) = true ∧
    idle (turfed [(3, [])]) (.flowSeedWrite 1 9) (fun s => flowEmpty s = false) = true := by decide +kernel

/-- O56: a new threshold zeroes its counter, the same one does not (R520, R521); the observer bit (R530). -/
theorem test_pmon :
    (let s := withRegs [(22, 33, 9, 5)] { base with prm := { base.prm with counts := [(paddr 22 33 0xA, 3), (paddr 22 33 0xC, 4)] } }
     holds s (.pmonSelectWrite 33 9 6) (fun s => reg s 22 33 9 ≠ 6)
       (fun _ t => reg t 22 33 9 = 6 ∧ counter t (paddr 22 33 0xC) = 0 ∧ counter t (paddr 22 33 0xA) = 3) = true ∧
     idle s (.pmonSelectWrite 33 9 5) (fun s => reg s 22 33 9 = 5) = true ∧
     holds { base with prm := { base.prm with counts := [(paddr 22 1 0x102, 3)] } } (.pmonSelectWrite 1 0x11 0x2110) (fun s => reg s 22 1 0x11 ≠ 0x2110)
       (fun _ t => reg t 22 1 0x11 = 0x2110 ∧ counter t (paddr 22 1 0x102) = 0) = true ∧
     idle base (.pmonSelectWrite 1 0x11 0xFFFF) (fun s => reg s 22 1 0x11 ≠ 0xFFFF) = true ∧
     holds base (.pmonObserverWrite true) (fun s => observer s = false) (fun _ t => observer t) = true) := by decide +kernel

/-! ### Service cores and the island's commands -/

/-- The West dispatcher with class 3 at priority 2 and class 4 at priority 5, both on core 0 only. -/
def cored (x : ScDie) : State := withRegs [(21, 0, 11, 0x102), (21, 0, 12, 0x105), (21, 0, 1, 50)] { base with svc := ⟨[(0, x)]⟩ }

/-- A stream item and a delegated step. -/
def streamItem : Item := { work := .stream 0x3001 [7] 90 5, ready := 51 }
/-- A delegated step. -/
def mgmtItem : Item := { work := .mgmt 0x1000000, ready := 50 }

/-- O57: the idle core takes the item of the higher priority, and its event is raised with its own tick (R506, R511). -/
theorem test_dispatch :
    holds (cored { ready := [mgmtItem, streamItem] }) (.scDispatch 0 none) (fun s => nextDispatch s 0 = some (1, 0))
      (fun _ t => (scDie t 0).ready = [mgmtItem] ∧ (coreAt (scDie t 0) 0).running = some { streamItem with started := true } ∧
        t.toune.events.map (fun e => (e.code, e.detail, e.tick, e.frc)) = [(0x3001, [7], 90, 5)]) = true ∧
    holds (cored { ready := [{ streamItem with started := true, ctx := true }] }) (.scDispatch 0 none) (fun s => nextDispatch s 0 = some (0, 0))
      (fun _ t => (scDie t 0).ready = [] ∧ raised t = []) = true ∧
    idle (cored {}) (.scDispatch 0 none) (fun s => nextDispatch s 0 = none ∧ nextPreempt s 0 = none) = true := by decide +kernel

/-- O57: the busy core's item of lower priority makes way and keeps its context; one of the same priority does not (R512). -/
theorem test_preempt :
    holds (cored { ready := [streamItem], core := [(0, { running := some mgmtItem })] }) (.scDispatch 0 none)
      (fun s => nextDispatch s 0 = none ∧ nextPreempt s 0 = some (0, 0))
      (fun _ t => (scDie t 0).ready = [{ mgmtItem with ctx := true }] ∧ (coreAt (scDie t 0) 0).running = some { streamItem with started := true } ∧
        counter t (paddr 21 0 0xC0) = 1) = true ∧
    idle (cored { ready := [streamItem], core := [(0, { running := some streamItem })] }) (.scDispatch 0 none)
      (fun s => nextDispatch s 0 = none ∧ nextPreempt s 0 = none) = true := by decide +kernel

/-- O57: the end of an item; ageing after AGE_TICKS = 50, not after 49 (R507, R513). -/
theorem test_item_end :
    holds (cored { ready := [streamItem], core := [(0, { running := some mgmtItem, cycles := 10 })] }) (.scItemEnd 0 90)
      (fun s => (coreAt (scDie s 0) 0).running.isSome)
      (fun _ t => (coreAt (scDie t 0) 0).running = none ∧ (coreAt (scDie t 0) 0).cycles = 100 ∧ (scDie t 0).ready = [streamItem]) = true ∧
    idle base (.scItemEnd 31 90) (fun s => (coreAt (scDie s 1) 15).running = none) = true ∧
    holds (cored { ready := [streamItem, mgmtItem] }) (.scItemAged 0) (fun _ => true)
      (fun _ t => (scDie t 0).ready = [streamItem, { mgmtItem with aged := true }] ∧ counter t (paddr 21 0 0xC1) = 1) = true ∧
    idle (cored { ready := [streamItem] }) (.scItemAged 0) (fun _ => true) = true := by decide +kernel

/-- O57: SAFETY_QUERY runs; a log of two entries from index 1 on; none from an index that is not held (R568). -/
theorem test_safety_log :
    (let s : State := { base with zal := { base.zal with log := [⟨1, 2, false, true, false, 3, 4, 5⟩, ⟨6, 2, true, true, false, 3, 4, 5⟩], logNext := 2 } }
     holds s (.safetyQuery (req [])) (canRun Op.safetyQuery (req [])) (fun s t => (answer t).map (fun a => (a.2.1, a.2.2.length)) = [(0, 20)] ∧
       t.zal = s.zal) = true ∧
     answers Op.safetyLogRead s (.safetyLogRead (req (le 8 1))) (req (le 8 1)) 0 (le 4 2 ++ le 4 0 ++ [1, 0, 0, 0] ++ [6, 0, 0, 0, 0, 0, 2, 3, 3, 0, 4, 0, 5, 0, 0, 0])
       (fun s t => t.zal = s.zal) = true) := by decide +kernel

/-- O57: the self-test starts in CONFIGURE, is refused in SERVICE, and is E_BUSY during a run (R571). -/
theorem test_selftest_command :
    answers Op.safetySelftest base (.safetySelftest (req [])) (req []) 1 [] (fun _ t => t.zal.selftestOp = some 0x1000000) = true ∧
    answers Op.safetySelftest (inMode .service) (.safetySelftest (req [])) (req []) 0x101 [] (fun s t => t.zal = s.zal) = true ∧
    answers Op.safetySelftest { base with zal := { base.zal with selftestOp := some 9 } } (.safetySelftest (req [])) (req []) 0x105 []
      (fun s t => t.zal = s.zal) = true := by decide +kernel

/-- O57: lane 159 does not lock: half-link 1 is DOWN and lanes 152 to 159 idle (R92). -/
theorem test_idle_exit_fail :
    idle base (.laneIdleExitFail 15) (fun s => (laneAt s 159).leaving = none) = true ∧
    holds { base with twin := { base.twin with half := [(0, { st := .up }), (1, { st := .hunt })] },
                      ports := { base.ports with lane := [(159, { leaving := some 99 })] } }
      (.laneIdleExitFail 15) (fun s => (laneAt s 159).leaving ≠ none)
      (fun _ t => (halfAt t 1).st = .down ∧ (halfAt t 0).st = .up ∧ (tgetD (fun _ => ({} : Lane)) t.ports.lane 152).idle ∧
        (raised t).head? = some (Ev.laneIdleExitFail, [159, 0])) = true := by decide +kernel

/-! ### The twin pair: half-links -/

/-- TWIN enabled with hb_miss 4, and the twin in some state. -/
def twinned (m : Mode) (x : Twin) : State := withRegs [(23, 0, 0, 0x401)] { inMode m with twin := x }

/-- Half-link 1 in some state. -/
def link (x : HalfLink) : State := twinned .configure { half := [(1, x)] }

/-- O58: block lock and the lane order of R534; an order that names a lane twice brings nothing up. -/
theorem test_half_up :
    holds (link { st := .hunt }) (.twinLaneLock 1) (fun _ => true) (fun _ t => (halfAt t 1).st = .align ∧ (halfAt t 1).locked = 0xFF) = true ∧
    holds (link { st := .align }) (.twinLinkUp 1 0x053977) (fun _ => orderOk 0x053977)
      (fun _ t => (halfAt t 1).st = .up ∧ (halfAt t 1).order = 0x053977 ∧ t.twin.pair = .forming ∧
        raised t = [(Ev.twinLinkUp, 1 :: le 8 100)]) = true ∧
    idle (link { st := .align }) (.twinLinkUp 1 0) (fun _ => orderOk 0 = false) = true ∧
    idle (link {}) (.twinLaneLock 1) (fun s => (halfAt s 1).st = .down) = true := by decide +kernel

/-- O58: an UP half-link loses alignment; it goes DOWN only once TWIN is disabled (R534). -/
theorem test_half_down :
    holds (link { st := .up, unacked := [⟨2, 9, [7], 95⟩] }) (.twinLinkDown 1 1) (fun s => halfUp s 0 = false)
      (fun _ t => (halfAt t 1).st = .hunt ∧ (halfAt t 1).unacked.length = 1 ∧ t.twin.pair = .alone ∧
        raised t = [(Ev.twinLinkDown, [1, 1])] ∧ counter t (paddr 23 2 0x12) = 1) = true ∧
    idle (link { st := .up }) (.twinLinkDown 1 3) twinEnabled = true ∧
    holds (withRegs [(23, 0, 0, 0x400)] (link { st := .up })) (.twinLinkDown 1 3) (fun s => twinEnabled s = false)
      (fun _ t => (halfAt t 1).st = .down ∧ (raised t).head? = some (Ev.twinLinkDown, [1, 3])) = true ∧
    idle (link { st := .hunt }) (.twinLinkDown 1 0) (fun _ => true) = true := by decide +kernel

/-- A heartbeat frame with sequence 8, 9 or 10, and a CROSS frame with sequence 9; their CRC-32 was computed apart (R6, R535). -/
def beatFrame (seq : Byte) (crc : Nat) : List Byte := [2, 0, 2, 0, seq, 0, 0, 0, 7, 7] ++ le 4 crc
/-- The CROSS frame. -/
def crossFrame : List Byte := [6, 0, 11, 0, 9, 0, 0, 0] ++ [5, 0, 3, 0, 0, 0, 0, 0, 1, 2, 3] ++ le 4 0x660B0881

/-- O58: frames in sequence, damaged, repeated and ahead (R535, R536). -/
theorem test_twin_frame :
    holds (link { st := .up, expect := 9 }) (.twinFrameRx 1 (beatFrame 9 0x5370ED9A)) (fun _ => frameWhole (beatFrame 9 0x5370ED9A))
      (fun _ t => (halfAt t 1).expect = 10 ∧ (halfAt t 1).rx = [(2, [7, 7])]) = true ∧
    holds (link { st := .up, expect := 9 }) (.twinFrameRx 1 crossFrame) (fun _ => frameWhole crossFrame)
      (fun _ t => (halfAt t 1).rxCross = [[5, 0, 3, 0, 0, 0, 0, 0, 1, 2, 3]] ∧ (halfAt t 1).rx = []) = true ∧
    holds (link { st := .up, expect := 9 }) (.twinFrameRx 1 (beatFrame 9 0)) (fun _ => frameWhole (beatFrame 9 0) = false)
      (fun _ t => (halfAt t 1).nakOut ∧ counter t (paddr 23 2 0x10) = 1 ∧ (halfAt t 1).sent.map (fun b => (b.drop 8).take 8) = [[2, 0, 0, 0, 9, 0, 0, 0]]) = true ∧
    holds (link { st := .up, expect := 9 }) (.twinFrameRx 1 (beatFrame 8 0x982C3E3F)) (fun _ => frameWhole (beatFrame 8 0x982C3E3F) ∧ seqBefore 8 9)
      (fun _ t => (halfAt t 1).expect = 9 ∧ (halfAt t 1).rx = [] ∧ (halfAt t 1).nakOut = false) = true ∧
    holds (link { st := .up, expect := 9 }) (.twinFrameRx 1 (beatFrame 10 0xD5E49F34)) (fun _ => frameWhole (beatFrame 10 0xD5E49F34))
      (fun _ t => (halfAt t 1).expect = 9 ∧ (halfAt t 1).nakOut) = true := by decide +kernel

/-- O58: an acknowledgement of sequence 5 frees 3 and 4; a frame of no kind, and one on a half-link that is not UP (R535, R536). -/
theorem test_twin_control :
    holds (link { st := .up, unacked := [⟨2, 3, [7], 95⟩, ⟨2, 4, [7], 95⟩, ⟨2, 5, [7], 95⟩] })
      (.twinFrameRx 1 ([7, 0, 8, 0, 0, 0, 0, 0] ++ [1, 0, 0, 0, 5, 0, 0, 0] ++ le 4 0xD96F5DBA)) (fun _ => true)
      (fun _ t => (halfAt t 1).unacked.map (·.seq) = [5]) = true ∧
    idle (link { st := .up }) (.twinFrameRx 1 (zeros 8 ++ le 4 0x6522DF69)) (fun _ => frameWhole (zeros 8 ++ le 4 0x6522DF69)) = true ∧
    idle (link { st := .align }) (.twinFrameRx 1 crossFrame) (fun _ => true) = true := by decide +kernel

/-- O58: after 4 ticks the frame is sent again, after 3 it is not; after 16 resends the half-link hunts (R536). -/
theorem test_twin_resend :
    holds (link { st := .up, unacked := [⟨2, 9, [7], 96⟩], resends := 15 }) (.twinResendTimeout 1) (fun _ => true)
      (fun _ t => (halfAt t 1).resends = 16 ∧ (halfAt t 1).sent.length = 1 ∧ (halfAt t 1).unacked = [⟨2, 9, [7], 100⟩]) = true ∧
    holds (link { st := .up, unacked := [⟨2, 9, [7], 96⟩], resends := 16 }) (.twinResendTimeout 1) (fun _ => true)
      (fun _ t => (halfAt t 1).st = .hunt ∧ (halfAt t 1).unacked.length = 1) = true ∧
    idle (link { st := .up, unacked := [⟨2, 9, [7], 97⟩] }) (.twinResendTimeout 1) (fun _ => true) = true ∧
    idle (link { st := .up }) (.twinResendTimeout 1) (fun s => (halfAt s 1).unacked = []) = true := by decide +kernel

/-! ### Forming -/

/-- A HELLO of a peer in STANDBY, with the digests of a state and a flags byte (R538). -/
def helloFor (flags ver : Byte) (digest : Dword) (prog tmpl pools : Word) : List Byte :=
  zeros 8 ++ le 8 77 ++ [ver, 1, 5, flags, 1, 0, 0, 0] ++ le 8 digest.toNat ++ le 4 prog.toNat ++ le 4 tmpl.toNat ++ le 4 pools.toNat ++ zeros 20

/-- The HELLO of a peer with the configuration of a state. -/
def goodHello (flags : Byte) (s : State) : List Byte :=
  helloFor flags 1 (configDigest s) (BitVec.ofNat 32 (rd (s.flow.prog.getD []) 12 4)) (templateCrc s) (poolsCrc s)

/-- A number of `n` bytes is read as it was put. -/
theorem leNat_le (n x : Nat) : leNat (le n x) = x % 256 ^ n := by
  induction n generalizing x with
  | zero => simp [le, leNat, Nat.mod_one]
  | succ n ih =>
    have h : 256 ^ (n + 1) = 256 * 256 ^ n := by rw [Nat.pow_succ, Nat.mul_comm]
    rw [le, leNat, ih, h, Nat.mod_mul, BitVec.toNat_ofNat]

/-- Its configuration agrees, whatever the digests are. -/
theorem helloFor_reads (f v : Byte) (d : Dword) (p t q : Word) : rd (helloFor f v d p t q) 0x18 8 = d.toNat ∧
    rd (helloFor f v d p t q) 0x20 4 = p.toNat ∧ rd (helloFor f v d p t q) 0x24 4 = t.toNat ∧
    rd (helloFor f v d p t q) 0x28 4 = q.toNat := by
  have hd := (leNat_le 8 d.toNat).trans (Nat.mod_eq_of_lt d.isLt)
  have hp := (leNat_le 4 p.toNat).trans (Nat.mod_eq_of_lt p.isLt)
  have ht := (leNat_le 4 t.toNat).trans (Nat.mod_eq_of_lt t.isLt)
  have hq := (leNat_le 4 q.toNat).trans (Nat.mod_eq_of_lt q.isLt)
  exact ⟨hd, hp, ht, hq⟩

/-- O58: such a HELLO meets the clauses on a match: with the role pin high and the peer's low this device is active, and with
both owning flows there is a split, or this device yields where its pin is low (R538 to R540). -/
theorem test_hello_matches (s : State) (h : rd (s.flow.prog.getD []) 12 4 < 2 ^ 32) (f : Byte) :
    helloMismatch s (goodHello f s) = 0 ∧ (goodHello f s).length = 64 := by
  obtain ⟨hd, hp, ht, hq⟩ := helloFor_reads f 1 (configDigest s) (BitVec.ofNat 32 (rd (s.flow.prog.getD []) 12 4)) (templateCrc s) (poolsCrc s)
  rw [BitVec.toNat_ofNat, Nat.mod_eq_of_lt h] at hp
  refine ⟨?_, rfl⟩
  unfold goodHello
  rw [helloMismatch, hd, hp, ht, hq]
  simp only [bne_self_eq_false, b2n]
  rfl

/-- Half-link 1 holds a HELLO of a peer of another HELLO version (R538), while the pair forms. -/
def helloed (pin : Bool) (m : Mode) (p : PairState) (b : List Byte) : State :=
  let s := twinned m { pair := p, role := 2, half := [(1, { st := .up, rx := [(1, b)] })] }
  { s with sys := { s.sys with twinRole := pin } }

/-- O58: the roles that such a HELLO decides (R540). -/
theorem test_hello_roles :
    (let s := helloed true .configure .forming []
     decideRole s (helloFor 0 1 0 0 0 0) = some 1 ∧ decideRole (helloed false .standby .forming []) (helloFor 1 1 0 0 0 0) = some 2 ∧
     (twinned .service { role := 1 }).sys.mode = .service ∧
     decideRole { twinned .service { role := 1 } with sys := { (inMode .service).sys with twinRole := true } } (helloFor 2 1 0 0 0 0) = none ∧
     activeByPin s (helloFor 0 1 0 0 0 0) = true ∧ activeByPin (helloed false .configure .forming []) (helloFor 1 1 0 0 0 0) = false) := by
  decide +kernel

/-- O58: a HELLO of another version does not match, whatever the digests are (R539). -/
theorem test_hello_mismatch (s : State) : helloMismatch s (helloFor 0 2 0 0 0 0) ≠ 0 := by
  rw [helloMismatch]
  have h : b2n (rd (helloFor 0 2 0 0 0 0) 0x10 1 > 1 || rd (helloFor 0 2 0 0 0 0) 0x11 1 < 1) = 1 := by decide
  omega

/-- O58: an ALONE pair keeps the HELLO and stays as it is; without one nothing changes (R538). -/
theorem test_hello_alone :
    holds (helloed true .configure .alone (helloFor 0 1 0 0 0 0)) (.twinHelloRx 1) (fun s => (takeItem 1 1 [1] s).isSome)
      (fun _ t => t.twin.hello = helloFor 0 1 0 0 0 0 ∧ t.twin.peerSerial = 77 ∧ t.twin.pair = .alone ∧ (halfAt t 1).rx = []) = true ∧
    idle (link { st := .up }) (.twinHelloRx 1) (fun s => takeItem 1 1 [1] s = none) = true := by decide +kernel

/-! ### Heartbeat -/

/-- A heartbeat: mode, role, pair and flags of the peer, what it has applied, and its walk (R549). -/
def beat (mode role pair flags : Byte) (a0 a1 walk : Nat) : List Byte :=
  le 8 90 ++ [mode, role, pair, flags] ++ zeros 12 ++ le 4 a0 ++ le 4 a1 ++ zeros 8 ++ le 4 walk ++ zeros 20

/-- Half-link 1 holds a heartbeat. -/
def beaten (m : Mode) (x : Twin) (b : List Byte) : State := twinned m { x with half := [(1, { st := .up, rx := [(2, b)] })] }

/-- O58: an active forms its pair, notes what is applied, starts its walk, and is IN_SYNC once both dies have all (R541, R548, R549). -/
theorem test_beat_active :
    holds (beaten .service { role := 1, pair := .forming } (beat 5 2 1 0 0 0 0)) (.twinHeartbeatRx 1) (fun s => (takeItem 1 2 [2] s).isSome)
      (fun _ t => t.twin.pair = .rejoining) = true ∧
    holds (beaten .service { role := 1, pair := .rejoining } (beat 5 2 4 8 3 4 0)) (.twinHeartbeatRx 1) (fun s => paired s)
      (fun _ t => t.twin.walking ∧ t.twin.applied0 = 3 ∧ t.twin.applied1 = 4 ∧ t.twin.pair = .rejoining) = true ∧
    holds (beaten .service { role := 1, pair := .rejoining, ready := true, endSeq := some (3, 4), bulkSent := 6 } (beat 5 2 4 8 3 4 6))
      (.twinHeartbeatRx 1) (fun s => paired s) (fun _ t => t.twin.pair = .inSync ∧ raised t = [(Ev.twinInSync, le 8 100)]) = true ∧
    holds (beaten .service { role := 1, pair := .rejoining, ready := true, endSeq := some (3, 5), bulkSent := 6 } (beat 5 2 4 8 3 4 6))
      (.twinHeartbeatRx 1) (fun s => paired s) (fun _ t => t.twin.pair = .rejoining) = true := by decide +kernel

/-- O58: an active goes OUT_OF_SYNC or loses a peer in SAFE; a standby takes over from one, and is IN_SYNC when told (R548, R549). -/
theorem test_beat_states :
    holds (beaten .service { role := 1, pair := .inSync } (beat 5 2 6 0 3 4 0)) (.twinHeartbeatRx 1) (fun s => paired s)
      (fun _ t => t.twin.pair = .outOfSync) = true ∧
    holds (beaten .service { role := 1, pair := .inSync } (beat 6 2 5 1 3 4 0)) (.twinHeartbeatRx 1) (fun s => paired s)
      (fun _ t => t.twin.pair = .alone ∧ raised t = [(Ev.twinPeerLost, 1 :: le 8 100)]) = true ∧
    holds (beaten .standby { role := 2, pair := .inSync } (beat 6 1 5 1 0 0 0)) (.twinHeartbeatRx 1) (fun s => paired s)
      (fun _ t => t.twin.takeover = some 1) = true ∧
    holds (beaten .standby { role := 2, pair := .rejoining } (beat 3 1 5 0 0 0 0)) (.twinHeartbeatRx 1) (fun s => paired s)
      (fun _ t => t.twin.pair = .inSync ∧ raised t = [(Ev.twinInSync, le 8 100)]) = true ∧
    holds (beaten .configure { missed := 3 } (beat 3 1 5 0 0 0 0)) (.twinHeartbeatRx 1) (fun s => paired s = false)
      (fun _ t => t.twin.pair = .alone ∧ t.twin.missed = 0 ∧ t.twin.beatSeen) = true ∧
    idle (link { st := .up }) (.twinHeartbeatRx 1) (fun s => takeItem 1 2 [2] s = none) = true := by decide +kernel

/-- O58: the fourth missed tick is a standby's takeover and an active's loss; the third is not (R549). -/
theorem test_hb_miss :
    holds (twinned .standby { role := 2, pair := .inSync, missed := 3 }) .twinHbMiss (fun s => paired s)
      (fun _ t => t.twin.takeover = some 0 ∧ t.twin.pair = .inSync ∧ t.zal.status = 0x400000) = true ∧
    holds (twinned .service { role := 1, pair := .inSync, missed := 3 }) .twinHbMiss (fun s => paired s)
      (fun _ t => t.twin.pair = .alone ∧ t.zal.status = 0x400000) = true ∧
    idle (twinned .service { role := 1, pair := .inSync, missed := 2 }) .twinHbMiss (fun s => paired s) = true ∧
    idle (twinned .service { role := 1, pair := .inSync, missed := 9, beatSeen := true }) .twinHbMiss (fun s => paired s) = true := by
  decide +kernel

/-! ### Replication -/

/-- A standby in STANDBY whose half-link 1 holds an item, with a slice. -/
def standby (k : Nat) (b : List Byte) (n : Nat) (x : Slice) : State :=
  let s := { flowBase with sys := { base.sys with mode := .standby }, flow := { base.flow with slice := [(n, x)] } }
  { s with twin := { role := 2, pair := .inSync, half := [(1, { st := .up, rx := [(k, b)] })] } }

/-- The deletion of the record of `d1` in slice 2, sequence 9, and the record of `key1` in its home, sequence 10 (R543). -/
def deletion : List Byte := [2, 2, 0, 0] ++ le 4 9 ++ le 8 d1.toNat ++ zeros 32
/-- The record. -/
def newRecord : List Byte := [1, 15, 0, 0] ++ le 4 10 ++ key1 ++ le 4 1 ++ zeros 20

/-- O59: a deletion with and without its record, and a new record, which keeps its key and carries tier 3 fields (R543, R544). -/
theorem test_delta_apply :
    holds (standby 3 deletion 2 (inStack {})) (.twinDeltaApply 1) (fun s => applies s ∧ (takeItem 1 3 [3, 4, 5] s).isSome ∧ s.flow.cmds = [])
      (fun _ t => (slAt t 2).stack = [] ∧ t.twin.applied0 = 9 ∧ t.twin.applied1 = 0) = true ∧
    holds (standby 3 deletion 2 {}) (.twinDeltaApply 1) (fun s => decide (locate s 2 d1 none = .miss) && decide (1 ≤ ownRoom s 2 2))
      (fun s t => slAt t 2 = { slAt s 2 with cycles := 1, ownUse := [(2, 1)], recUse := (slAt t 2).recUse } ∧ t.twin.applied0 = 9) = true ∧
    idle (standby 3 deletion 2 { cycles := 2700 }) (.twinDeltaApply 1) (fun s => ownRoom s (applyCost 3 deletion).1 2 < (applyCost 3 deletion).2) = true ∧
    holds (standby 3 newRecord 15 {}) (.twinDeltaApply 1) (fun s => deltaRecord s newRecord = key1 ++ le 4 1 ++ zeros 44 ∧ stackRoom s 15 d1 1)
      (fun _ t => (slAt t 15).stack.map (fun e => (e.2.take 16, tagOk e.2)) = [(key1, true)] ∧ t.twin.applied1 = 10) = true ∧
    idle (standby 4 deletion 2 {}) (.twinDeltaApply 1) (fun s => takeItem 1 3 [3, 4, 5] s = none) = true := by decide +kernel

/-- A FOLLOW item: 7 packets, 64 bytes, last tick 55 (R546). -/
def follow1 : List Byte := le 8 d1.toNat ++ le 5 7 ++ le 6 64 ++ le 3 0 ++ le 6 55 ++ [0, 0] ++ le 2 2

/-- O59: counters and last tick of the record; a bucket without records is counted (R546, R547). -/
theorem test_follow_and_bulk :
    holds (standby 4 follow1 2 (inStack {})) (.twinFollowApply 1) (fun s => applies s ∧ flightAt s 2 d1 = none)
      (fun _ t => (copies t 2).1.map (fun e => (pktsOf e, bytesOf e, lastTickOf e, tagOk e)) = some (7, 64, 55, true)) = true ∧
    holds (standby 5 (le 4 9 ++ [2, 0, 0, 0]) 2 (inStack {})) (.twinBulkApply 1) (fun s => applies s && decide (0 ≤ ownRoom s 2 2))
      (fun s t => t.twin.buckets = 1 ∧ slAt t 2 = slAt s 2) = true ∧
    idle (standby 3 deletion 2 {}) (.twinFollowApply 1) (fun s => takeItem 1 4 [3, 4, 5] s = none) = true ∧
    idle (link {}) (.twinBulkApply 1) (fun s => applies s = false) = true := by decide +kernel

/-- O59: a whole program image waits for the boundary, a first piece is kept (R545). -/
theorem test_control_rx :
    holds (standby 7 (le 4 4 ++ le 4 0 ++ le 4 3 ++ [1, 2, 3]) 2 {}) (.twinControlRx 1) (fun s => paired s)
      (fun _ t => leaving t = [(101, .progLoad [1, 2, 3])]) = true ∧
    holds (standby 7 (le 4 4 ++ le 4 0 ++ le 4 4 ++ [1, 2, 3]) 2 {}) (.twinControlRx 1) (fun s => paired s)
      (fun s t => t.sys = s.sys ∧ t.twin.ctlType = 4 ∧ t.twin.ctlBuf = [1, 2, 3]) = true ∧
    idle (link {}) (.twinControlRx 1) (fun s => takeItem 1 7 [7] s = none) = true := by decide +kernel

/-- O59: a CROSS frame of 3 bytes goes to the port source of PIPE3, and one cell of credit goes back (R542). -/
theorem test_cross_rx :
    holds (twinned .service { role := 1, pair := .inSync, half := [(1, { st := .up, rxCross := [[5, 0, 3, 0, 0, 0, 0, 0, 1, 2, 3]] })] })
      (.twinCrossRx 1) (fun s => (halfAt s 1).rxCross ≠ [])
      (fun _ t => (halfAt t 1).rxCross = [] ∧ tgetD (fun _ => []) t.path.xsrc 3 = [(5, [1, 2, 3])] ∧ counter t (paddr 23 0 0x16) = 1 ∧
        (halfAt t 1).sent.map (fun b => (b.take 1, (b.drop 8).take 8)) = [([7], [3, 0, 0, 0, 1, 0, 0, 0])]) = true ∧
    idle (link {}) (.twinCrossRx 1) (fun s => (halfAt s 1).rxCross = []) = true := by decide +kernel

/-- O59: the standby clears its flow state and is ready (R547). -/
theorem test_standby_cleared :
    holds { standby 1 [] 2 (inStack {}) with twin := { role := 2, pair := .rejoining, clearing := true, buckets := 5 } } .twinStandbyCleared
      (fun s => (slAt s 2).flights = [])
      (fun _ t => (slAt t 2).stack = [] ∧ t.twin.ready ∧ t.twin.clearing = false ∧ t.twin.buckets = 0) = true ∧
    idle (link {}) .twinStandbyCleared (fun s => s.twin.role ≠ 2) = true := by decide +kernel

/-- The active with a record that is replicated in slice 2 or 15, half-link 1 UP. -/
def activeWith (n : Nat) (x : Slice) (t : Twin) : State :=
  { flowBase with sys := { base.sys with mode := .service }, flow := { base.flow with slice := [(n, x)] }
                  twin := { t with role := 1, half := [(1, { st := .up })] } }

/-- O59: the one listed record is read and its item sent (R546). -/
theorem test_follow_read :
    holds (activeWith 2 (inStack {}) { pair := .inSync, follow := [(2, [d1])] }) (.twinFollowRead 2)
      (fun s => decide (linkOf s 0 = some 1 ∧ ownUsed s 2 2 < 64 ∧ 1 ≤ ownRoom s 2 2 ∧ 1 ≤ followRoom s))
      (fun _ t => t.twin.follow = [] ∧ (halfAt t 1).sent.map (fun b => b.take 16) = [[4, 0, 32, 0, 0, 0, 0, 0] ++ le 8 d1.toNat]) = true ∧
    idle (activeWith 2 (inStack {}) { pair := .rejoining, follow := [(2, [d1])] }) (.twinFollowRead 2) (fun _ => true) = true := by decide +kernel

/-- The record with its replicated bit, control bit 2. -/
def recRep : List Byte := withTag (key1 ++ le 4 5 ++ zeros 44)

/-- A walk of slice 15 that stands at a bucket. -/
def walkAt (b : Nat) (x : Slice) : State :=
  activeWith 15 x { pair := .rejoining, walking := true, walk := [(1, { next := [(15, b)], turn := 7 })] }

/-- O59: an empty bucket is passed, a record is sent as one item; the walk of no bucket ends (R547, R548). -/
theorem test_bulk_walk :
    holds (walkAt 0x232BA {}) (.twinBulkWalk 1 1) (fun s => decide (bucketRecords s 15 0x232BA = [] ∧ 0 < backRoom s 15 ∧ recRoom s 15 2 ∧ turfRoom s 15))
      (fun _ t => t.twin.buckets = 1 ∧ t.twin.walk = [(1, { next := [(15, 0x232BB)], turn := 0 })] ∧ t.twin.bulkSent = 0 ∧ (halfAt t 1).sent = []) = true ∧
    holds (walkAt 0x232BB { stack := [(slot1, recRep)] }) (.twinBulkWalk 1 1) (fun s => decide (bucketRecords s 15 0x232BB = [recRep] ∧ 80 ≤ bulkRoom s 1 ∧ recRoom s 15 3))
      (fun _ t => t.twin.buckets = 1 ∧ t.twin.bulkSent = 1 ∧
        (halfAt t 1).sent.map (fun b => b.take 80) = [[5, 0, 72, 0, 0, 0, 0, 0] ++ le 4 0x232BB ++ [15, 1, 0, 0] ++ recRep]) = true ∧
    holds (activeWith 15 {} { pair := .rejoining, walking := true, sent0 := 6, sent1 := 7 }) (.twinBulkWalk 1 9) (fun s => linkOf s 1 = some 1)
      (fun _ t => t.twin.walking = false ∧ t.twin.endSeq = some (6, 7)) = true ∧
    idle (walkAt 0x232BB { stack := [(slot1, recRep)], recUse := [(3, 464)] }) (.twinBulkWalk 1 1) (fun s => recRoom s 15 3 = false) = true ∧
    idle (activeWith 15 {} { pair := .inSync }) (.twinBulkWalk 1 9) (fun _ => true) = true := by decide +kernel

/-! ### Hand-over and the twin commands -/

/-- The active hands over since a tick. -/
def handing (n : Nat) (d : Bool) : State :=
  let s := twinned .service { role := 1, pair := .inSync, sent0 := 6, sent1 := 7, handover := some { handle := 0x1000000, toConfigure := false, start := 100, drained := d } }
  { s with tick := { s.tick with count := BitVec.ofNat 48 n }
           toune := { s.toune with handles := [(0, { gen := 1, st := .running, opcode := Op.twinHandover })] } }

/-- O59: the final sequences once nothing is in flight; E_TIMEOUT after 1,000 ticks, not after 999 (R551). -/
theorem test_handover :
    holds (handing 200 false) .twinHandoverDrained (fun s => opsInFlight s = false ∧ lagAt s 0 = [] ∧ lagAt s 1 = [])
      (fun _ t => t.twin.handover.map (fun h => (h.drained, h.final0, h.final1)) = some (true, 6, 7)) = true ∧
    idle (handing 200 true) .twinHandoverDrained (fun _ => true) = true ∧ idle base .twinHandoverDrained (fun s => s.twin.handover = none) = true ∧
    holds (handing 1100 true) .twinHandoverTimeout (fun _ => true)
      (fun _ t => (handleAt t 0).st = .done ∧ (handleAt t 0).status = St.eTimeout ∧ t.twin.handover.map (·.handle) = some 0) = true ∧
    idle (handing 1099 true) .twinHandoverTimeout (fun _ => true) = true := by decide +kernel

/-- O59: the peer of a hand-over takes over after 1,000 ticks (R551). -/
theorem test_handover_peer :
    holds { twinned .standby { role := 2, pair := .inSync, peerHanding := some 100 } with tick := { base.tick with count := 1100 } } .twinHandoverTimeout
      (fun s => s.twin.handover = none) (fun _ t => t.twin.takeover = some 2) = true ∧
    idle base .twinHandoverTimeout (fun s => s.twin.handover = none ∧ s.twin.peerHanding = none) = true := by decide +kernel

/-- O59: TWIN_QUERY without a peer, and TWIN_HANDOVER in, out of and without a pair (R551, R552). -/
theorem test_twin_commands :
    holds base (.twinQuery (req [])) (canRun Op.twinQuery (req [])) (fun s t => (answer t).map (fun a => (a.2.1, a.2.2.drop 4)) = [(0, zeros 128)] ∧ t.twin = s.twin) = true ∧
    answers Op.twinHandover (twinned .service { role := 1, pair := .inSync }) (.twinHandover (req [])) (req []) 1 []
      (fun s t => t.twin = s.twin ∧ leaving t = [(101, .handover 0x1000000 false)]) = true ∧
    answers Op.twinHandover (twinned .service { role := 1, pair := .outOfSync }) (.twinHandover (req [])) (req []) 0x105 [] (fun s t => t.twin = s.twin) = true ∧
    answers Op.twinHandover base (.twinHandover (req [])) (req []) 0x102 [] (fun s t => t.twin = s.twin) = true := by decide +kernel

/-- O59: TWIN_RESYNC and TWIN_SPLIT_RESOLVE with their refusals (R540, R548). -/
theorem test_resync :
    answers Op.twinResync (twinned .service { role := 1, pair := .outOfSync, bulkSent := 4, ready := true }) (.twinResync (req [])) (req []) 0 []
      (fun _ t => t.twin.pair = .rejoining ∧ t.twin.bulkSent = 0 ∧ t.twin.ready = false) = true ∧
    answers Op.twinResync (twinned .service { role := 1, pair := .rejoining }) (.twinResync (req [])) (req []) 0x105 [] (fun s t => t.twin = s.twin) = true ∧
    answers Op.twinResync base (.twinResync (req [])) (req []) 0x102 [] (fun s t => t.twin = s.twin) = true ∧
    answers Op.twinSplitResolve (twinned .service { role := 1, pair := .split }) (.twinSplitResolve (req [])) (req []) 0 []
      (fun _ t => t.twin.yields ∧ t.twin.role = 2 ∧ t.twin.pair = .forming) = true ∧
    answers Op.twinSplitResolve base (.twinSplitResolve (req [])) (req []) 0x105 [] (fun s t => t.twin = s.twin) = true := by decide +kernel

/-! ### Well-formedness: one ill-formed command for each check -/

/-- A request as a transport carries it, and one beyond each limit of it (R31, R476, R499). -/
theorem test_wf_request :
    (Instr.sessionPing (req [])).wf = true ∧
    (Instr.sessionPing { req [] with cycle := 1350 }).wf = false ∧
    (Instr.sessionPing { req (zeros 4065) with route := .mailbox }).wf = false ∧
    (Instr.sessionPing { req (zeros 4064) with route := .mailbox }).wf = true ∧
    (Instr.sessionPing { req (zeros 4097) with route := .queue }).wf = false ∧
    (Instr.sessionPing { req [] with source := zeros 17 }).wf = false ∧
    (Instr.sessionPing { req [] with port := 130 }).wf = false ∧
    (Instr.sessionPing { req [] with slot := some 64 }).wf = false := by decide +kernel

/-- What a tick, a step of Kindling and a look at the island cannot find. -/
theorem test_wf_found :
    (Instr.tickBoundary {}).wf = true ∧ (Instr.tickBoundary { occ := [{ above0 := 1351, above1 := 0 }] }).wf = false ∧
    (Instr.tickBoundary { occ := [{ above0 := 0, above1 := 1351 }] }).wf = false ∧ (Instr.tickBoundary { receiving := [130] }).wf = false ∧
    (Instr.tickBoundary { cycles := [.issueHold 0 1351] }).wf = false ∧ (Instr.tickBoundary { cycles := [.laneIdle 0 2701] }).wf = false ∧
    (Instr.kindlingStepDone .s4 { failed := [⟨20, 32⟩] }).wf = false ∧ (Instr.trefLockRetry { tref := 8 }).wf = false ∧
    (Instr.kindlingStepDone .s4 { channels := [{ chan := 16 }] }).wf = false ∧
    (Instr.kindlingStepDone .s4 { channels := [{ chan := 3 }, { chan := 3 }] }).wf = false ∧
    (Instr.kindlingStepDone .s4 { avsFail := [2] }).wf = false ∧ (Instr.pgModeWrite 1 0 [16]).wf = false := by decide

/-- Units, ports of a pipeline and slots that do not exist; bytes outside a record, rows outside a bank (R13, R574, R618). -/
theorem test_wf_places :
    (Instr.tickOverrun ⟨7, 4⟩).wf = false ∧ (Instr.tickOverrun ⟨7, 3⟩).wf = true ∧
    (Instr.pipelinePass 1 (.front 64) { dead := [] }).wf = false ∧ (Instr.pipelinePass 2 (.front 64) { dead := [] }).wf = true ∧
    (Instr.pipelinePass 2 .service { dead := [64] }).wf = false ∧
    (Instr.rbMaintTick 5 { rows := [(2048, {})] }).wf = false ∧ (Instr.rbMaintTick 5 { shadow := [2048] }).wf = false ∧
    (Instr.rbMaintTick 5 { stuck := [2048] }).wf = false ∧ (Instr.rbMaintTick 5 { stuck := [2047] }).wf = true ∧
    (Instr.stackProbeReply 2 d1 { bytes := [(128, 0)] }).wf = false ∧ (Instr.memRefresh true 16).wf = false ∧ (Instr.memRefresh false 127).wf = true := by
  decide

/-- Frames shorter than 60 bytes, pause quanta, and addresses of no class (R98, R574). -/
theorem test_wf_frames :
    (Instr.bootFrameRx 128 0 (zeros 59) none).wf = false ∧ (Instr.bootDiscover 0 (zeros 59)).wf = false ∧ (Instr.arpRequestRx 0 (zeros 59)).wf = false ∧
    (Instr.paramWordWrite 0x1B000000 0 0).wf = false ∧ (Instr.latchedLoRead 0 0 0x1B000000).wf = false ∧ (Instr.rcWordRead 0 0 0x1B000000).wf = false ∧
    (Instr.linkUp 0 (List.replicate 9 {})).wf = false ∧ (Instr.pauseFrameRx 0 0 true 0 [1]).wf = false ∧
    (Instr.zaluaTickChecks { readings := List.replicate 25 0 }).wf = false ∧ (Instr.calRunDone (zeros 4865)).wf = false ∧
    (Instr.rcWordRead 0 0 0x1AFFFFFF).wf = true ∧ (Instr.roceRequestRx 2 0 true (.read 0x11 0 2147483649)).wf = false := by decide +kernel

/-- The words of the command table are given no bits: none spells a command. -/
theorem test_decode_none : decodeTableWord 8 0 = none ∧ decodeTableWord 0 0 = none ∧ State.reset.withFetchWord 8 0 = State.reset := ⟨rfl, rfl, rfl⟩

/-! ### Images of a whole program table and of a whole set of profiles -/

/-- Zeros at the end of a number's bytes change nothing. -/
theorem leNat_zeros (l : List Byte) (n : Nat) : leNat (l ++ List.replicate n 0) = leNat l := by
  induction l with
  | nil => induction n with
    | zero => rfl
    | succ n ih => rw [List.nil_append] at ih ⊢; exact congrArg (fun x => 0 + 256 * x) ih
  | cons b l ih => rw [List.cons_append, leNat, ih, leNat]

/-- Bytes beyond a head that zeros follow read as bytes beyond the end of the head alone. -/
theorem padded_rd (h t : List Byte) (n off k : Nat) (hk : off + k ≤ h.length + n) :
    rd (h ++ (List.replicate n 0 ++ t)) off k = rd h off k := by
  have e : ((h ++ (List.replicate n 0 ++ t)).drop off).take k =
      (h.drop off).take k ++ List.replicate (min (k - (h.length - off)) (n - (off - h.length))) 0 := by
    rw [List.drop_append, List.take_append, List.drop_append, List.take_append]
    simp only [List.length_drop, List.length_replicate, List.drop_replicate, List.take_replicate]
    rw [show (k - (h.length - off) - (n - (off - h.length))) = 0 from by omega]
    simp
  rw [rd, e, leNat_zeros]; rfl

/-- An image agrees with a list of bytes wherever it is read from `lo` on and below `n`. -/
def Reads (b h : List Byte) (lo n : Nat) : Prop := ∀ off k, lo ≤ off → off + k ≤ n → rd b off k = rd h off k

/-- One byte as a number. -/
theorem rd_one (l : List Byte) (i : Nat) : rd l i 1 = (byteAt l i).toNat := by
  rw [rd, byteAt]
  cases hd : l.drop i with
  | nil => simp [leNat, List.getElem?_eq_none (List.drop_eq_nil_iff.mp hd)]
  | cons x y =>
    have : l[i]? = some x := by rw [← List.head?_drop, hd]; rfl
    simp [leNat, this]

/-- One byte of such an image. -/
theorem Reads.byte {b h : List Byte} {lo n : Nat} (a : Reads b h lo n) (i : Nat) (hl : lo ≤ i) (hi : i < n) :
    byteAt b i = byteAt h i := by
  exact BitVec.eq_of_toNat_eq ((rd_one b i).symm.trans ((a i 1 hl (by omega)).trans (rd_one h i)))

/-- The zero checks of such an image. -/
theorem Reads.zero {b h : List Byte} {lo n : Nat} (a : Reads b h lo n) (off k : Nat) (hl : lo ≤ off) (hk : off + k ≤ n) :
    zeroChecks b off k = zeroChecks h off k := by
  refine List.map_congr_left (fun i hi => ?_)
  rw [a.byte (off + i) (by omega) (by have := List.mem_range.mp hi; omega)]

/-- The zeros after a head read as nothing. -/
theorem padded_reads (h t : List Byte) (n : Nat) :
    Reads (h ++ (List.replicate n 0 ++ t)) h 0 (h.length + n) ∧
    Reads (h ++ (List.replicate n 0 ++ t)) [] h.length (h.length + n) := by
  refine ⟨fun off k _ hk => padded_rd h t n off k hk, fun off k hl hk => ?_⟩
  rw [padded_rd h t n off k hk, rd, rd, List.drop_eq_nil_of_le hl, List.drop_nil]

/-- The last four bytes of an image that ends with its CRC. -/
theorem crc_ends (p : List Byte) (l : Nat) (hl : p.length = l) :
    rd (p ++ le 4 (crc32c p).toNat) l 4 = (crc32c ((p ++ le 4 (crc32c p).toNat).take l)).toNat := by
  subst hl
  rw [List.take_left, rd, List.drop_left, show (le 4 (crc32c p).toNat).take 4 = le 4 (crc32c p).toNat from rfl]
  exact leNat_le4 _ (crc32c p).isLt

/-- The head of a program image without programs and without meters (R227). -/
def progHead : List Byte := le 4 0x53584650 ++ [1, 0, 0, 0] ++ le 4 19012 ++ [77, 0, 0, 0]

/-- The image without its CRC. -/
def progBody : List Byte := progHead ++ List.replicate 18992 0

/-- The image. -/
def progImage : List Byte := progBody ++ le 4 (crc32c progBody).toNat

/-- The image without its CRC has its length. -/
theorem progBody_length : progBody.length = 19008 := by
  rw [progBody, List.length_append, List.length_replicate]; rfl

/-- It reads as its head and then as nothing. -/
theorem progImage_reads : Reads progImage progHead 0 19008 ∧ Reads progImage [] 16 19008 := by
  rw [progImage, progBody, List.append_assoc]
  exact padded_reads progHead _ 18992

/-- Its length. -/
theorem progImage_length : progImage.length = 19012 := by
  rw [progImage, List.length_append, progBody_length]; rfl

/-- Nothing reads as nothing. -/
theorem rd_nil (off k : Nat) : rd [] off k = 0 := by
  rw [rd, List.drop_nil, List.take_nil]; rfl

/-- The checks of a program that an image does not hold (R227). -/
theorem program_none (p : Nat) (hp : p < 256) : firstFault (programChecks progImage false p) = none := by
  have h1 := progImage_reads.2
  have r : ∀ off k, 16 ≤ off → off + k ≤ 19008 → rd progImage off k = 0 := fun off k a b => (h1 off k a b).trans (rd_nil off k)
  have hb : ∀ i, 16 ≤ i → i < 19008 → byteAt progImage i = 0 := fun i a b => (h1.byte i a b).trans rfl
  have o1 : 16 ≤ programOff p := by rw [programOff]; omega
  have o2 : programOff p + 72 ≤ 19008 := by rw [programOff]; omega
  have a : progLen progImage p = 0 := r _ _ (by omega) (by omega)
  have b := r (programOff p + 1) 1 (by omega) (by omega)
  rw [firstFault, Option.map_eq_none_iff, List.find?_eq_none]
  intro c hc
  simp only [programChecks, a, b, List.mem_append, List.mem_cons, List.not_mem_nil, or_false, zeroChecks, List.mem_map,
    List.mem_range] at hc
  obtain ((rfl | rfl) | ⟨i, hi, rfl⟩) | ⟨i, hi, rfl⟩ := hc
  · exact Bool.false_ne_true
  · exact Bool.false_ne_true
  · rw [hb _ (by omega) (by omega)]; exact Bool.false_ne_true
  · rw [opWord, r _ _ (by omega) (by omega), if_neg (by omega)]; exact Bool.false_ne_true

/-- O42: an image without fault (R227, R228). -/
theorem test_prog_image : progFault [] progImage = none := by
  have hc := crc_ends progBody 19008 progBody_length
  have h0 := progImage_reads.1
  have h1 := progImage_reads.2
  have r : ∀ off k, 16 ≤ off → off + k ≤ 19008 → rd progImage off k = 0 := fun off k a b => (h1 off k a b).trans (rd_nil off k)
  have hl : ∀ p, p < 256 → progLen progImage p = 0 := fun p hp =>
    r (programOff p) 1 (by rw [programOff]; omega) (by rw [programOff]; omega)
  have hu : ∀ i, meterUsed progImage i = false := by
    intro i
    rw [meterUsed, List.any_eq_false]
    intro p hp
    rw [hl p (List.mem_range.mp hp)]
    exact Bool.false_ne_true
  have hm : ∀ i, i < 64 → ∀ c ∈ meterChecks progImage i, c.2 = false := by
    intro i hi c hc
    have o1 : meterOff i + 8 ≤ 19008 := by rw [meterOff]; omega
    have o2 : 16 ≤ meterOff i := by rw [meterOff]; omega
    simp only [meterChecks, hu, r (meterOff i) 1 (by omega) (by omega), r (meterOff i + 1) 1 (by omega) (by omega),
      r (meterOff i + 4) 2 (by omega) (by omega), r (meterOff i + 6) 2 (by omega) (by omega), List.mem_cons,
      List.not_mem_nil, or_false] at hc
    obtain rfl | rfl | rfl | rfl := hc <;> rfl
  have he : firstFault (((List.range 64).map (meterChecks progImage)).flatten ++
      ((List.range 256).map (fun p => programChecks progImage (([] : List Nat).contains p) p)).flatten) = none := by
    rw [firstFault, Option.map_eq_none_iff, List.find?_eq_none]
    intro c hc
    rw [List.mem_append, List.mem_flatten, List.mem_flatten] at hc
    obtain ⟨l, hl, hc⟩ | ⟨l, hl, hc⟩ := hc
    · obtain ⟨i, hi, rfl⟩ := List.mem_map.mp hl
      rw [hm i (List.mem_range.mp hi) c hc]; exact Bool.false_ne_true
    · obtain ⟨p, hp, rfl⟩ := List.mem_map.mp hl
      have := program_none p (List.mem_range.mp hp)
      rw [firstFault, Option.map_eq_none_iff, List.find?_eq_none] at this
      exact this c hc
  have hz : zeroChecks progImage 16 48 = zeroChecks progHead 16 48 := h0.zero 16 48 (by omega) (by omega)
  simp only [progFault, progImage_length]
  rw [if_neg (fun a => a.2 hc)]
  simp only [h0 0 4 (by omega) (by omega), h0 4 2 (by omega) (by omega), h0 6 2 (by omega) (by omega),
    h0 8 4 (by omega) (by omega), hz, he]
  rw [show firstFault _ = none from by decide]

/-- The argument of FLOW_PROG_LOAD: the image lies in host region 4 (R487, R621). -/
def progArg : List Byte := [1, 0, 4, 0] ++ le 4 19012 ++ le 8 0

/-- O46: the hypotheses on a program image that waits for its boundary (R228, R621). -/
theorem test_prog_load_waits :
    Runs Op.flowProgLoad (reqData progArg progImage) (withRegion base) ∧ pairedActive (withRegion base) = false ∧
    progArg.length = 16 ∧ (descBytes (reqData progArg progImage) 0 (withRegion base)).toOption = some progImage ∧
    progFault (programsNamed (futureTemplates (withRegion base))) progImage = none := by
  refine ⟨runs_of_canRun (by decide), by decide, by decide, ?_, test_prog_image⟩
  have h : progImage.length = rd (((reqData progArg progImage).payload.drop 0).take 16) 4 4 :=
    progImage_length.trans (by decide)
  simp only [descBytes]
  rw [if_neg (by decide), if_pos (by decide), if_neg (by decide),
    show regionUsable (withRegion base) _ _ _ false = some 2 from by decide]
  simp [reqData, h]
  rfl

/-- The header of a profile image (R148). -/
def profHeader : List Byte := le 4 0x53584350 ++ [1, 0, 0, 0] ++ le 4 17476 ++ [77, 0, 0, 0]

/-- The head of a valid profile record with key type 1 and quota 1 (R150). -/
def profRecord : List Byte := [1, 0, 0, 1] ++ (List.replicate 20 0 ++ [1])

/-- The head of a profile image whose one valid profile is profile 0. -/
def profHead : List Byte := profHeader ++ (List.replicate 1072 0 ++ profRecord)

/-- The image without its CRC. -/
def profBody : List Byte := profHead ++ List.replicate 16359 0

/-- The image. -/
def profImage : List Byte := profBody ++ le 4 (crc32c profBody).toNat

/-- The image without its CRC has its length. -/
theorem profBody_length : profBody.length = 17472 := by
  rw [profBody, List.length_append, List.length_replicate]; rfl

/-- Its length. -/
theorem profImage_length : profImage.length = 17476 := by
  rw [profImage, List.length_append, profBody_length]; rfl

/-- It reads as its head and then as nothing. -/
theorem profImage_reads : Reads profImage profHead 0 17472 ∧ Reads profImage [] 1113 17472 := by
  rw [profImage, profBody, List.append_assoc]
  exact padded_reads profHead _ 16359

/-- No check fails, so there is no first fault. -/
theorem firstFault_none {cs : List Check} (h : ∀ c ∈ cs, c.2 = false) : firstFault cs = none := by
  rw [firstFault, Option.map_eq_none_iff, List.find?_eq_none]
  exact fun c hc => by rw [h c hc]; exact Bool.false_ne_true

/-- Lists of checks without a fault. -/
theorem firstFault_flatten {n : Nat} {f : Nat → List Check} (h : ∀ i, i < n → firstFault (f i) = none) :
    firstFault ((List.range n).map f).flatten = none := by
  refine firstFault_none (fun c hc => ?_)
  obtain ⟨l, hl, hc⟩ := List.mem_flatten.mp hc
  obtain ⟨i, hi, rfl⟩ := List.mem_map.mp hl
  have := h i (List.mem_range.mp hi)
  rw [firstFault, Option.map_eq_none_iff, List.find?_eq_none] at this
  simpa using this c hc

/-- A profile record of zeros, or one that is valid with key type 1 and quota 1 and without lookups, has no fault (R150). -/
theorem profile_free {br : Nat → Bool} {b : List Byte} {j f : Nat} (hf : f < 2) (h0 : rd b (profOff j) 1 = f) (h3 : rd b (profOff j + 3) 1 = f)
    (h18 : rd b (profOff j + 0x18) 2 = f)
    (r : ∀ o k, 0 < o → o + k ≤ 256 → (3 < o ∨ o + k ≤ 3) → (0x18 < o ∨ o + k ≤ 0x18) → rd b (profOff j + o) k = 0)
    (z : ∀ o, 4 ≤ o → o < 256 → o ≠ 0x18 → byteAt b (profOff j + o) = 0) :
    ∀ c ∈ profileChecks br b j, c.2 = false := by
  have zs : ∀ o n, 0x18 < o → o + n ≤ 256 → ∀ c ∈ zeroChecks b (profOff j + o) n, c.2 = false := by
    intro o n ho hn c hc
    obtain ⟨i, hi, rfl⟩ := List.mem_map.mp hc
    rw [Nat.add_assoc, z _ (by omega) (by have := List.mem_range.mp hi; omega) (by omega)]; rfl
  have sl : ∀ o, 3 < o → o + 1 ≤ 256 → o ≠ 0x18 → (selCheck b (profOff j + o)).2 = false := by
    intro o h1 h2 h4
    rw [selCheck, r o 1 (by omega) h2 (by omega) (by omega)]; rfl
  have ss : ∀ o n, 0x18 < o → o + n ≤ 256 → ∀ c ∈ (List.range n).map (fun i => selCheck b (profOff j + o + i)), c.2 = false := by
    intro o n ho hn c hc
    obtain ⟨i, hi, rfl⟩ := List.mem_map.mp hc
    have := List.mem_range.mp hi
    rw [Nat.add_assoc]; exact sl _ (by omega) (by omega) (by omega)
  have lk : ∀ v x k, k < 4 → ∀ c ∈ lookupChecks b j k v x, c.2 = false := by
    intro v x k hk c hc
    have l : ∀ x n, x + n ≤ 32 → rd b (lookOff j k + x) n = 0 := fun x n hx => by
      rw [lookOff, Nat.add_assoc, Nat.add_assoc]; exact r _ n (by omega) (by omega) (by omega) (by omega)
    have l3 := l 3 1 (by omega)
    simp only [lookupChecks, l3, l 2 1 (by omega), List.mem_append, List.mem_cons, List.not_mem_nil, or_false,
      List.mem_map, List.mem_range] at hc
    have bf : bitOf 0 0 = false := by decide
    obtain ((rfl | rfl | rfl) | ⟨i, hi, rfl⟩) | hc := hc
    · simp only [bf, Bool.and_false, Bool.false_and]
    · simp only [bf, Bool.and_false, Bool.false_and]
    · rfl
    · rw [show lookOff j k + 4 + i = lookOff j k + (4 + i) from Nat.add_assoc .., l (4 + i) 1 (by omega)]
      simp only [bf, Bool.and_false, Bool.false_and, Bool.or_false]; rfl
    · refine zs (0x20 + 32 * k + 0x18) 8 (by omega) (by omega) c ?_
      rw [lookOff, Nat.add_assoc, Nat.add_assoc] at hc
      rwa [Nat.add_assoc 32]
  intro c hc
  simp only [profileChecks, h0, h3, h18, r 1 1 (by omega) (by omega) (by omega) (by omega),
    r 2 1 (by omega) (by omega) (by omega) (by omega), r 4 2 (by omega) (by omega) (by omega) (by omega),
    r 7 1 (by omega) (by omega) (by omega) (by omega), r 9 1 (by omega) (by omega) (by omega) (by omega),
    r 12 1 (by omega) (by omega) (by omega) (by omega), r 15 1 (by omega) (by omega) (by omega) (by omega),
    List.mem_append, List.mem_cons, List.not_mem_nil, or_false] at hc
  have hff : f = 0 ∨ f = 1 := by omega
  obtain ((((((rfl | rfl | rfl | rfl | rfl | rfl | rfl | rfl | rfl | rfl | rfl | rfl | rfl) | hc) | hc) | hc) | hc) | hc) | hc := hc
  · obtain rfl | rfl := hff <;> rfl
  · obtain rfl | rfl := hff <;> rfl
  · rfl
  · obtain rfl | rfl := hff <;> rfl
  · obtain rfl | rfl := hff <;> rfl
  · exact sl 6 (by omega) (by omega) (by omega)
  · obtain rfl | rfl := hff <;> rfl
  · rfl
  · obtain rfl | rfl := hff <;> rfl
  · exact sl 13 (by omega) (by omega) (by omega)
  · exact sl 14 (by omega) (by omega) (by omega)
  · rfl
  · obtain rfl | rfl := hff <;> rfl
  · exact zs 0x1A 6 (by omega) (by omega) c hc
  · obtain ⟨l, hl, hc⟩ := List.mem_flatten.mp hc
    obtain ⟨k, hk, rfl⟩ := List.mem_map.mp hl
    exact lk _ _ k (List.mem_range.mp hk) c hc
  · exact ss 0xA0 14 (by omega) (by omega) c hc
  · exact zs 0xAE 2 (by omega) (by omega) c hc
  · exact ss 0xB0 24 (by omega) (by omega) c hc
  · exact zs 0xC8 56 (by omega) (by omega) c hc

/-- Between its header and its first record the image is empty. -/
theorem profImage_zero (off k : Nat) (a : 16 ≤ off) (b : off + k ≤ 1088) : rd profImage off k = 0 := by
  rw [profImage_reads.1 off k (by omega) (by omega), profHead, padded_rd _ _ _ _ _ (by
    rw [show profHeader.length = 16 from rfl]; omega), rd, List.drop_eq_nil_of_le (by
    rw [show profHeader.length = 16 from rfl]; omega), List.take_nil]
  rfl

/-- Byte by byte. -/
theorem profImage_zeroByte (off : Nat) (a : 16 ≤ off) (b : off < 1088) : byteAt profImage off = 0 :=
  BitVec.eq_of_toNat_eq ((rd_one _ _).symm.trans (profImage_zero off 1 a (by omega)))

/-- The record of profile 0. -/
theorem profImage_record (o k : Nat) (hk : o + k ≤ 256) : rd profImage (profOff 0 + o) k = rd profRecord o k := by
  have hl : (profHeader ++ List.replicate 1072 0).length = 1088 := by
    rw [List.length_append, List.length_replicate]; rfl
  rw [profImage_reads.1 _ _ (by omega) (by rw [profOff]; omega), profHead, ← List.append_assoc, rd, rd, List.drop_append, hl,
    List.drop_eq_nil_of_le (by rw [hl, profOff]; omega), show profOff 0 + o - 1088 = o from by rw [profOff]; omega]
  rfl

/-- The checks of the profile records (R150, R151). -/
theorem profImage_profiles (br : Nat → Bool) (j : Nat) (hj : j < 64) : firstFault (profileChecks br profImage j) = none := by
  have h1 := profImage_reads.2
  refine firstFault_none ?_
  by_cases h : j = 0
  · subst h
    have e := profImage_record
    have r : ∀ o k, 0 < o → o + k ≤ 256 → (3 < o ∨ o + k ≤ 3) → (0x18 < o ∨ o + k ≤ 0x18) → rd profImage (profOff 0 + o) k = 0 := by
      intro o k x0 x1 x2 x3
      rw [e o k x1]
      obtain x3 | x3 := x3
      · rw [rd, List.drop_eq_nil_of_le (by have : profRecord.length = 25 := rfl; omega), List.take_nil]; rfl
      · rw [profRecord, padded_rd _ _ _ _ _ (by simp only [List.length_cons, List.length_nil]; omega)]
        by_cases x4 : 3 < o
        · rw [rd, List.drop_eq_nil_of_le (by simp only [List.length_cons, List.length_nil]; omega), List.take_nil]; rfl
        · have a : o < 4 := by omega
          obtain ⟨rfl, rfl⟩ | ⟨rfl, rfl⟩ | ⟨rfl, rfl⟩ | rfl :
              (o = 1 ∧ k = 1) ∨ (o = 1 ∧ k = 2) ∨ (o = 2 ∧ k = 1) ∨ k = 0 := by omega
          · rfl
          · rfl
          · rfl
          · rw [rd, List.take_zero]; rfl
    have rz : ∀ o, 4 ≤ o → o < 256 → o ≠ 0x18 → byteAt profImage (profOff 0 + o) = 0 := by
      intro o x0 x1 x2
      have y := r o 1 (by omega) (by omega) (by omega) (by omega)
      rw [rd_one] at y
      exact BitVec.eq_of_toNat_eq y
    exact profile_free (f := 1) (by omega) ((e 0 1 (by omega)).trans (by decide)) ((e 3 1 (by omega)).trans (by decide))
      ((e 0x18 2 (by omega)).trans (by decide)) r rz
  · have r : ∀ o k, o + k ≤ 256 → rd profImage (profOff j + o) k = 0 := fun o k x =>
      (h1 _ _ (by rw [profOff]; omega) (by rw [profOff]; omega)).trans (rd_nil _ _)
    exact profile_free (f := 0) (by omega) (r 0 1 (by omega)) (r 3 1 (by omega)) (r 0x18 2 (by omega))
      (fun o k _ x _ _ => r o k x)
      (fun o _ x _ => (h1.byte _ (by rw [profOff]; omega) (by rw [profOff]; omega)).trans rfl)

/-- The checks of the selection entries (R149, R151). -/
theorem profImage_selections (i : Nat) (hi : i < 128) : firstFault (selectionChecks profImage i) = none := by
  have r := profImage_zero
  have z := profImage_zeroByte
  refine firstFault_none (fun c hc => ?_)
  simp only [selectionChecks, r (0x40 + 8 * i) 1 (by omega) (by omega), r (0x40 + 8 * i + 2) 1 (by omega) (by omega),
    r (0x40 + 8 * i + 3) 1 (by omega) (by omega), r (0x40 + 8 * i + 4) 1 (by omega) (by omega),
    r (0x40 + 8 * i + 5) 1 (by omega) (by omega), List.mem_append, List.mem_cons, List.not_mem_nil, or_false] at hc
  obtain (rfl | rfl | rfl | rfl | rfl) | hc := hc
  · rfl
  · rfl
  · rfl
  · rfl
  · rfl
  · obtain ⟨k, hk, rfl⟩ := List.mem_map.mp hc
    have := List.mem_range.mp hk
    rw [z _ (by omega) (by omega)]; rfl

/-- O40: a profile image without fault, whatever the widths and pairs of the banks: no lookup of it is valid (R134, R148 to R151, R174). -/
theorem test_prof_image (br : Nat → Nat → Bool) : profileFaultOn br profImage = none := by
  have hc := crc_ends profBody 17472 profBody_length
  have h0 := profImage_reads.1
  have he : firstFault ((0x14, decide (rd profImage 0x14 1 > 63) || !bitOf (rd profImage (profOff (rd profImage 0x14 1 % 64)) 1) 0) ::
      zeroChecks profImage 0x15 43 ++ ((List.range 128).map (selectionChecks profImage)).flatten ++
      ((List.range 64).map (fun j => profileChecks (br j) profImage j)).flatten) = none := by
    have e1 : rd profImage 0x14 1 = 0 := profImage_zero _ _ (by omega) (by omega)
    have e2 : rd profImage (profOff 0) 1 = 1 := profImage_record 0 1 (by omega)
    have a := firstFault_flatten profImage_selections
    have b := firstFault_flatten (fun j hj => profImage_profiles (br j) j hj)
    have z : firstFault (zeroChecks profImage 0x15 43) = none := firstFault_none (fun c hc => by
      obtain ⟨k, hk, rfl⟩ := List.mem_map.mp hc
      have := List.mem_range.mp hk
      rw [profImage_zeroByte _ (by omega) (by omega)]; rfl)
    rw [e1, e2]
    simp only [firstFault, Option.map_eq_none_iff, List.find?_append] at a b z ⊢
    rw [List.find?_cons_of_neg (by decide), z, a, b]
    rfl
  simp only [profileFaultOn, profImage_length, Nat.reduceSub]
  have hn : ¬ rd profImage 17472 4 ≠ (crc32c (profImage.take 17472)).toNat := fun a => a hc
  rw [if_neg hn]
  simp only [h0 0 4 (by omega) (by omega), h0 4 2 (by omega) (by omega), h0 6 2 (by omega) (by omega),
    h0 8 4 (by omega) (by omega)]
  have hh : firstFault [(0, rd profHead 0 4 != 0x53584350), (4, rd profHead 4 2 != 1), (6, rd profHead 6 2 != 0),
      (8, decide (rd profHead 8 4 ≠ profileSize ∨ 17476 ≠ profileSize))] = none := by decide
  rw [hh]
  rw [he]

/-- The argument of PROFILE_LOAD for pipelines 0 and 3 (R617). -/
def profArg : List Byte := loadArg 17476

/-- O40: the hypotheses on PROFILE_LOAD with that image (R147, R617). -/
theorem test_profile_load :
    Runs Op.profileLoad (reqData profArg profImage) (withRegion base) ∧ profArg.length = 24 ∧
    Machine.zeros profArg 1 7 = true ∧ pipeMask profArg = some 9 ∧ pipesOf 9 = [0, 3] ∧
    (descBytes (reqData profArg profImage) 8 (withRegion base)).toOption = some profImage ∧
    profileFaultOn (fun j k => (pipesOf 9).any (fun p => lookupBreach (withRegion base) p profImage j k)) profImage = none ∧
    ∀ p ∈ pipesOf 9, bankDraining (withRegion base) p false = false ∧
      (pipeAt (withRegion base) p).profPending = false := by
  refine ⟨runs_of_canRun (by decide), by decide, by decide, by decide, by decide, ?_, test_prof_image _, ?_⟩
  · have h : profImage.length = rd (((reqData profArg profImage).payload.drop 8).take 16) 4 4 :=
      profImage_length.trans (by decide)
    simp only [descBytes]
    rw [if_neg (by decide), if_pos (by decide), if_neg (by decide),
      show regionUsable (withRegion base) _ _ _ false = some 2 from by decide]
    simp [reqData, h]
    rfl
  · decide

end Sys2Proof.Tests
end

section
/-! Proofs.  Every command's frame, and the invariant that ties the tick count to the FRC (R30, R32, R33). -/

namespace Sys2Proof.Machine

/-! ### What every command leaves as it is -/

/-- The bit of a footprint of `Same` that stands for a part. -/
def StatePart.bit : StatePart → Nat
  | .pending => 0 | .free => 1 | .sys => 2 | .tick => 3 | .toune => 4 | .prm => 5 | .cal => 6 | .flash => 7
  | .zal => 8 | .power => 9 | .ports => 10 | .path => 11 | .svc => 12 | .buf => 13 | .tu => 14 | .jnl => 15
  | .pmon => 16 | .twin => 17 | .flow => 18 | .host => 19 | .mem => 20 | .mode => 21 | .sets => 22 | .settings => 23

/-- Every part of the state. -/
def StatePart.list : List StatePart :=
  [.pending, .free, .sys, .tick, .toune, .prm, .cal, .flash, .zal, .power, .ports, .path, .svc, .buf, .tu, .jnl, .pmon,
   .twin, .flow, .host, .mem, .mode, .sets, .settings]

/-- Are all parts of a footprint among these? -/
def within (w : Nat) (l : List StatePart) : Bool := StatePart.list.all fun p => l.contains p || !w.testBit p.bit

theorem testBit_of_within {w : Nat} {l : List StatePart} (h : within w l = true) {p : StatePart} (hp : p ∉ l) :
    w.testBit p.bit = false := by
  have q := List.all_eq_true.mp h p (by cases p <;> decide)
  simpa [hp] using q

/-- An operation whose footprint lies within these parts leaves every other part as it is. -/
theorem Same.keeps {w : Nat} {l : List StatePart} {s t : State} (k : Same w s t) (h : within w l = true) (p : StatePart)
    (hp : p ∉ l) : p.Same s t := by
  have q := testBit_of_within h hp
  cases p with
  | pending => exact k.pending q
  | free => exact k.free q
  | sys => exact k.sys q
  | tick => exact k.tick q
  | toune => exact k.toune q
  | prm => exact k.prm q
  | cal => exact k.cal q
  | flash => exact k.flash q
  | zal => exact k.zal q
  | power => exact k.power q
  | ports => exact k.ports q
  | path => exact k.path q
  | svc => exact k.svc q
  | buf => exact k.buf q
  | tu => exact k.tu q
  | jnl => exact k.jnl q
  | pmon => exact k.pmon q
  | twin => exact k.twin q
  | flow => exact k.flow q
  | host => exact k.host q
  | mem => exact k.mem q
  | mode => exact k.mode q
  | sets => exact k.sets q
  | settings => exact k.regs q

/-- Every command leaves the parts that it may not touch as they are: its meaning's footprint lies within the others. -/
theorem exec_keeps (c : Instr) (s t : State) (e : exec c s = .next t) : ∀ p, p ∉ touches c → p.Same s t :=
  match c with
  | .resetAssert ns => (execResetAssert_same ns s t e).keeps rfl
  | .resetRelease bootMode twinRole => (execResetRelease_same bootMode twinRole s t e).keeps rfl
  | .kindlingStepDone step f => (execKindlingStepDone_same step f s t e).keeps rfl
  | .trefLockRetry f => (execTrefLockRetry_same f s t e).keeps rfl
  | .tickBoundary f => (execTickBoundary_same f s t e).keeps rfl
  | .tickOverrun u => (execTickOverrun_same u s t e).keeps rfl
  | .createExpired n => (execCreateExpired_same n s t e).keeps rfl
  | .holdExpired n => (execHoldExpired_same n s t e).keeps rfl
  | .zaluaTickChecks f => (execZaluaTickChecks_same f s t e).keeps rfl
  | .frcCheckFail long n => (execFrcCheckFail_same long n s t e).keeps rfl
  | .trefAlarm tref pll => (execTrefAlarm_same tref pll s t e).keeps rfl
  | .corePllUnlock die => (execCorePllUnlock_same die s t e).keeps rfl
  | .supplyFault rail uv => (execSupplyFault_same rail uv s t e).keeps rfl
  | .lockstepMismatch => (execLockstepMismatch_same s t e).keeps rfl
  | .islandSilent die => (execIslandSilent_same die s t e).keeps rfl
  | .dieLinkFail channel => (execDieLinkFail_same channel s t e).keeps rfl
  | .safeReqNLow => (execSafeReqNLow_same s t e).keeps rfl
  | .safeReqNHigh => (execSafeReqNHigh_same s t e).keeps rfl
  | .modeQuery r => (execModeQuery_same r s t e).keeps rfl
  | .modeSet r => (execModeSet_same r s t e).keeps rfl
  | .resume r => (execResume_same r s t e).keeps rfl
  | .safeEnter r => (execSafeEnter_same r s t e).keeps rfl
  | .unitOut r => (execUnitOut_same r s t e).keeps rfl
  | .unitRejoin r => (execUnitRejoin_same r s t e).keeps rfl
  | .testClearDone => (execTestClearDone_same s t e).keeps rfl
  | .rejoinComplete u b => (execRejoinComplete_same u b s t e).keeps rfl
  | .calRead r => (execCalRead_same r s t e).keeps rfl
  | .calWrite r => (execCalWrite_same r s t e).keeps rfl
  | .calRun r => (execCalRun_same r s t e).keeps rfl
  | .calRunDone values => (execCalRunDone_same values s t e).keeps rfl
  | .calStored intact => (execCalStored_same intact s t e).keeps rfl
  | .fwStage r => (execFwStage_same r s t e).keeps rfl
  | .fwQuery r => (execFwQuery_same r s t e).keeps rfl
  | .fwStaged => (execFwStaged_same s t e).keeps rfl
  | .portEnable n => (execPortEnable_same n s t e).keeps rfl
  | .portDisable n cut => (execPortDisable_same n cut s t e).keeps rfl
  | .pgModeWrite g v rx => (execPgModeWrite_same g v rx s t e).keeps rfl
  | .anResolved n code r => (execAnResolved_same n code r s t e).keeps rfl
  | .anNoCommon n abilities => (execAnNoCommon_same n abilities s t e).keeps rfl
  | .trainDone d => (execTrainDone_same d s t e).keeps rfl
  | .trainTimeout n => (execTrainTimeout_same n s t e).keeps rfl
  | .linkUp n rx => (execLinkUp_same n rx s t e).keeps rfl
  | .alignTimeout n => (execAlignTimeout_same n s t e).keeps rfl
  | .linkDown n cause cut => (execLinkDown_same n cause cut s t e).keeps rfl
  | .remoteFault n => (execRemoteFault_same n s t e).keeps rfl
  | .remoteFaultClear n => (execRemoteFaultClear_same n s t e).keeps rfl
  | .fecDegraded n corrected uncorrected symbols => (execFecDegraded_same n corrected uncorrected symbols s t e).keeps rfl
  | .laneIdleExitFail l => (execLaneIdleExitFail_same l s t e).keeps rfl
  | .pauseFrameRx n c pfc vector quanta => (execPauseFrameRx_same n c pfc vector quanta s t e).keeps rfl
  | .xoffRepeat n c prio => (execXoffRepeat_same n c prio s t e).keeps rfl
  | .portDownFlush n => (execPortDownFlush_same n s t e).keeps rfl
  | .frameRx n f => (execFrameRx_same n f s t e).keeps rfl
  | .pipelinePass p src found => (execPipelinePass_same p src found s t e).keeps rfl
  | .flowOpAccept n u u2 => (execFlowOpAccept_same n u u2 s t e).keeps rfl
  | .stackProbeReply n d u => (execStackProbeReply_same n d u s t e).keeps rfl
  | .coldSummaryRead n d ue => (execColdSummaryRead_same n d ue s t e).keeps rfl
  | .turfCandidateRead n d u => (execTurfCandidateRead_same n d u s t e).keeps rfl
  | .promotionGrant n => (execPromotionGrant_same n s t e).keeps rfl
  | .createGrant n => (execCreateGrant_same n s t e).keeps rfl
  | .flowOpExecute n d => (execFlowOpExecute_same n d s t e).keeps rfl
  | .puntTimeout n => (execPuntTimeout_same n s t e).keeps rfl
  | .flowResultArrive p n cycles => (execFlowResultArrive_same p n cycles s t e).keeps rfl
  | .flowResultTimeout k => (execFlowResultTimeout_same k s t e).keeps rfl
  | .cellRequest k d rx clear metaErr => (execCellRequest_same k d rx clear metaErr s t e).keeps rfl
  | .frameTxStart n ns => (execFrameTxStart_same n ns s t e).keeps rfl
  | .frameTxDone n stamp => (execFrameTxDone_same n stamp s t e).keeps rfl
  | .txUnderrun n => (execTxUnderrun_same n s t e).keeps rfl
  | .egrClassDue n c => (execEgrClassDue_same n c s t e).keeps rfl
  | .egrStall n c => (execEgrStall_same n c s t e).keeps rfl
  | .fwdMaintTick p => (execFwdMaintTick_same p s t e).keeps rfl
  | .rehashDone p => (execRehashDone_same p s t e).keeps rfl
  | .rbMaintTick b u => (execRbMaintTick_same b u s t e).keeps rfl
  | .ruleOpDone b => (execRuleOpDone_same b s t e).keeps rfl
  | .ruleWrite r => (execRuleWrite_same r s t e).keeps rfl
  | .ruleInsert r => (execRuleInsert_same r s t e).keeps rfl
  | .ruleDelete r => (execRuleDelete_same r s t e).keeps rfl
  | .ruleRead r => (execRuleRead_same r s t e).keeps rfl
  | .bankClear r => (execBankClear_same r s t e).keeps rfl
  | .rbWidthWrite b code => (execRbWidthWrite_same b code s t e).keeps rfl
  | .rbPairWrite b v => (execRbPairWrite_same b v s t e).keeps rfl
  | .graphLoad r => (execGraphLoad_same r s t e).keeps rfl
  | .graphSwitch r => (execGraphSwitch_same r s t e).keeps rfl
  | .profileLoad r => (execProfileLoad_same r s t e).keeps rfl
  | .profileSwitch r => (execProfileSwitch_same r s t e).keeps rfl
  | .bankmaskCommit r => (execBankmaskCommit_same r s t e).keeps rfl
  | .parseErrRate p => (execParseErrRate_same p s t e).keeps rfl
  | .tableWrite r => (execTableWrite_same r s t e).keeps rfl
  | .tableDelete r => (execTableDelete_same r s t e).keeps rfl
  | .tableRead r => (execTableRead_same r s t e).keeps rfl
  | .l2Flush r => (execL2Flush_same r s t e).keeps rfl
  | .rehash r => (execRehash_same r s t e).keeps rfl
  | .tableOpDone => (execTableOpDone_same s t e).keeps rfl
  | .flowRead r => (execFlowRead_same r s t e).keeps rfl
  | .flowWrite r => (execFlowWrite_same r s t e).keeps rfl
  | .flowModify r => (execFlowModify_same r s t e).keeps rfl
  | .flowDelete r => (execFlowDelete_same r s t e).keeps rfl
  | .flowSweep r => (execFlowSweep_same r s t e).keeps rfl
  | .flowPuntRelease r => (execFlowPuntRelease_same r s t e).keeps rfl
  | .flowRepin r => (execFlowRepin_same r s t e).keeps rfl
  | .turfEvacuate r => (execTurfEvacuate_same r s t e).keeps rfl
  | .sweepTick n => (execSweepTick_same n s t e).keeps rfl
  | .flowSweepDone => (execFlowSweepDone_same s t e).keeps rfl
  | .flowRepinDone => (execFlowRepinDone_same s t e).keeps rfl
  | .turfEvacuateDone => (execTurfEvacuateDone_same s t e).keeps rfl
  | .flowProgLoad r => (execFlowProgLoad_same r s t e).keeps rfl
  | .flowTemplateWrite r => (execFlowTemplateWrite_same r s t e).keeps rfl
  | .flowTemplateRead r => (execFlowTemplateRead_same r s t e).keeps rfl
  | .flowProgRead r => (execFlowProgRead_same r s t e).keeps rfl
  | .poolDefine r => (execPoolDefine_same r s t e).keeps rfl
  | .poolDelete r => (execPoolDelete_same r s t e).keeps rfl
  | .poolRead r => (execPoolRead_same r s t e).keeps rfl
  | .pointerInstall n => (execPointerInstall_same n s t e).keeps rfl
  | .bindAck n => (execBindAck_same n s t e).keeps rfl
  | .pointerDemote n => (execPointerDemote_same n s t e).keeps rfl
  | .demoterTick n => (execDemoterTick_same n s t e).keeps rfl
  | .demotionDone n d fail => (execDemotionDone_same n d fail s t e).keeps rfl
  | .turfClearAck n ok => (execTurfClearAck_same n ok s t e).keeps rfl
  | .hearthScrub n => (execHearthScrub_same n s t e).keeps rfl
  | .summaryRebuild n => (execSummaryRebuild_same n s t e).keeps rfl
  | .transFetchDone n k => (execTransFetchDone_same n k s t e).keeps rfl
  | .wheelExamine n => (execWheelExamine_same n s t e).keeps rfl
  | .expiryOp n => (execExpiryOp_same n s t e).keeps rfl
  | .jnlBlockWrite => (execJnlBlockWrite_same s t e).keeps rfl
  | .captureWrite d => (execCaptureWrite_same d s t e).keeps rfl
  | .jnlConsumedWrite ix p => (execJnlConsumedWrite_same ix p s t e).keeps rfl
  | .jnlRegionWrite ix base size => (execJnlRegionWrite_same ix base size s t e).keeps rfl
  | .exportFill q ue => (execExportFill_same q ue s t e).keeps rfl
  | .exportLingerExpiry q => (execExportLingerExpiry_same q s t e).keeps rfl
  | .timeQuery r => (execTimeQuery_same r s t e).keeps rfl
  | .domainSeed r => (execDomainSeed_same r s t e).keeps rfl
  | .domainRate r => (execDomainRate_same r s t e).keeps rfl
  | .domainReseed r => (execDomainReseed_same r s t e).keeps rfl
  | .domainSelect r => (execDomainSelect_same r s t e).keeps rfl
  | .domainSetsRead r => (execDomainSetsRead_same r s t e).keeps rfl
  | .stampConvert r => (execStampConvert_same r s t e).keeps rfl
  | .tsiRead r => (execTsiRead_same r s t e).keeps rfl
  | .domainSet b => (execDomainSet_same b s t e).keeps rfl
  | .domainRenewal b => (execDomainRenewal_same b s t e).keeps rfl
  | .ppsPulseStart k f => (execPpsPulseStart_same k f s t e).keeps rfl
  | .tsiEdge ix rising f => (execTsiEdge_same ix rising f s t e).keeps rfl
  | .memRefresh c k => (execMemRefresh_same c k s t e).keeps rfl
  | .memRetrain c k drift => (execMemRetrain_same c k drift s t e).keeps rfl
  | .memTempRead c k temp => (execMemTempRead_same c k temp s t e).keeps rfl
  | .memPatrolScrub c k found => (execMemPatrolScrub_same c k found s t e).keeps rfl
  | .memReadComplete c k addr req r => (execMemReadComplete_same c k addr req r s t e).keeps rfl
  | .memAlert c k addr crc req => (execMemAlert_same c k addr crc req s t e).keeps rfl
  | .channelDown r => (execChannelDown_same r s t e).keeps rfl
  | .channelDrainExpiry c k aborted => (execChannelDrainExpiry_same c k aborted s t e).keeps rfl
  | .memErrlogRead r => (execMemErrlogRead_same r s t e).keeps rfl
  | .bootFrameRx n c f data => (execBootFrameRx_same n c f data s t e).keeps rfl
  | .bootDiscover h f => (execBootDiscover_same h f s t e).keeps rfl
  | .arpRequestRx h f => (execArpRequestRx_same h f s t e).keeps rfl
  | .roceRequestRx q psn icrc f => (execRoceRequestRx_same q psn icrc f s t e).keeps rfl
  | .roceAckRx q psn data => (execRoceAckRx_same q psn data s t e).keeps rfl
  | .roceNakRx q psn kind => (execRoceNakRx_same q psn kind s t e).keeps rfl
  | .roceRetryTimeout q => (execRoceRetryTimeout_same q s t e).keeps rfl
  | .mailboxRequest c data => (execMailboxRequest_same c data s t e).keeps rfl
  | .doorbellWrite => (execDoorbellWrite_same s t e).keeps rfl
  | .qpCreate r => (execQpCreate_same r s t e).keeps rfl
  | .qpRestart r => (execQpRestart_same r s t e).keeps rfl
  | .qpDestroy r => (execQpDestroy_same r s t e).keeps rfl
  | .qpQuery r => (execQpQuery_same r s t e).keeps rfl
  | .hregionAdd r => (execHregionAdd_same r s t e).keeps rfl
  | .hregionRemove r => (execHregionRemove_same r s t e).keeps rfl
  | .hregionRead r => (execHregionRead_same r s t e).keeps rfl
  | .queueCreate r => (execQueueCreate_same r s t e).keeps rfl
  | .queueDestroy r => (execQueueDestroy_same r s t e).keeps rfl
  | .queueDisable r => (execQueueDisable_same r s t e).keeps rfl
  | .queueEnable r => (execQueueEnable_same r s t e).keeps rfl
  | .queueQuery r => (execQueueQuery_same r s t e).keeps rfl
  | .queueFetchDone q => (execQueueFetchDone_same q s t e).keeps rfl
  | .jobStart q c data => (execJobStart_same q c data s t e).keeps rfl
  | .jobComplete q => (execJobComplete_same q s t e).keeps rfl
  | .completionAck q => (execCompletionAck_same q s t e).keeps rfl
  | .rxBufferWrite q => (execRxBufferWrite_same q s t e).keeps rfl
  | .eventDeliver => (execEventDeliver_same s t e).keeps rfl
  | .dxDescriptorEnd c data met => (execDxDescriptorEnd_same c data met s t e).keeps rfl
  | .dxCtrlDisable c => (execDxCtrlDisable_same c s t e).keeps rfl
  | .sessionOpen r => (execSessionOpen_same r s t e).keeps rfl
  | .sessionClose r => (execSessionClose_same r s t e).keeps rfl
  | .sessionPing r => (execSessionPing_same r s t e).keeps rfl
  | .sessionQuery r => (execSessionQuery_same r s t e).keeps rfl
  | .commandVersions r => (execCommandVersions_same r s t e).keeps rfl
  | .eventSubscribe r => (execEventSubscribe_same r s t e).keeps rfl
  | .handleQuery r => (execHandleQuery_same r s t e).keeps rfl
  | .handleCancel r => (execHandleCancel_same r s t e).keeps rfl
  | .handleRelease r => (execHandleRelease_same r s t e).keeps rfl
  | .auditRead r => (execAuditRead_same r s t e).keeps rfl
  | .stageWrite r => (execStageWrite_same r s t e).keeps rfl
  | .paramRead r => (execParamRead_same r s t e).keeps rfl
  | .paramWrite r => (execParamWrite_same r s t e).keeps rfl
  | .paramReadBlock r => (execParamReadBlock_same r s t e).keeps rfl
  | .paramWordWrite a mask value => (execParamWordWrite_same a mask value s t e).keeps rfl
  | .latchedLoRead ix c a => (execLatchedLoRead_same ix c a s t e).keeps rfl
  | .rcWordRead ix c a => (execRcWordRead_same ix c a s t e).keeps rfl
  | .entropyRead ix c => (execEntropyRead_same ix c s t e).keeps rfl
  | .flowSeedWrite w v => (execFlowSeedWrite_same w v s t e).keeps rfl
  | .pmonSelectWrite ix w v => (execPmonSelectWrite_same ix w v s t e).keeps rfl
  | .pmonObserverWrite on => (execPmonObserverWrite_same on s t e).keeps rfl
  | .sessionKeepaliveExpiry ix => (execSessionKeepaliveExpiry_same ix s t e).keeps rfl
  | .handleRetentionExpiry ix => (execHandleRetentionExpiry_same ix s t e).keeps rfl
  | .opDone ix => (execOpDone_same ix s t e).keeps rfl
  | .scDispatch d fw => (execScDispatch_same d fw s t e).keeps rfl
  | .scItemEnd core cycles => (execScItemEnd_same core cycles s t e).keeps rfl
  | .scItemAged d => (execScItemAged_same d s t e).keeps rfl
  | .twinLaneLock h => (execTwinLaneLock_same h s t e).keeps rfl
  | .twinLinkUp h order => (execTwinLinkUp_same h order s t e).keeps rfl
  | .twinLinkDown h cause => (execTwinLinkDown_same h cause s t e).keeps rfl
  | .twinFrameRx h b => (execTwinFrameRx_same h b s t e).keeps rfl
  | .twinResendTimeout h => (execTwinResendTimeout_same h s t e).keeps rfl
  | .twinHelloRx h => (execTwinHelloRx_same h s t e).keeps rfl
  | .twinHeartbeatRx h => (execTwinHeartbeatRx_same h s t e).keeps rfl
  | .twinHbMiss => (execTwinHbMiss_same s t e).keeps rfl
  | .twinDeltaApply h => (execTwinDeltaApply_same h s t e).keeps rfl
  | .twinFollowRead n => (execTwinFollowRead_same n s t e).keeps rfl
  | .twinFollowApply h => (execTwinFollowApply_same h s t e).keeps rfl
  | .twinStandbyCleared => (execTwinStandbyCleared_same s t e).keeps rfl
  | .twinBulkWalk d reads => (execTwinBulkWalk_same d reads s t e).keeps rfl
  | .twinBulkApply h => (execTwinBulkApply_same h s t e).keeps rfl
  | .twinCrossRx h => (execTwinCrossRx_same h s t e).keeps rfl
  | .twinControlRx h => (execTwinControlRx_same h s t e).keeps rfl
  | .twinHandoverDrained => (execTwinHandoverDrained_same s t e).keeps rfl
  | .twinHandoverTimeout => (execTwinHandoverTimeout_same s t e).keeps rfl
  | .twinQuery r => (execTwinQuery_same r s t e).keeps rfl
  | .twinHandover r => (execTwinHandover_same r s t e).keeps rfl
  | .twinResync r => (execTwinResync_same r s t e).keeps rfl
  | .twinSplitResolve r => (execTwinSplitResolve_same r s t e).keeps rfl
  | .safetyQuery r => (execSafetyQuery_same r s t e).keeps rfl
  | .safetyLogRead r => (execSafetyLogRead_same r s t e).keeps rfl
  | .safetySelftest r => (execSafetySelftest_same r s t e).keeps rfl
  | .safetySelftestDone missed => (execSafetySelftestDone_same missed s t e).keeps rfl
  | .avsEvaluate coldW coldE okW okE => (execAvsEvaluate_same coldW coldE okW okE s t e).keeps rfl
  | .pmbAlert ok => (execPmbAlert_same ok s t e).keeps rfl
  | .pmbusRetry ok => (execPmbusRetry_same ok s t e).keeps rfl
  | .jtagInstruction ix => (execJtagInstruction_same ix s t e).keeps rfl
  | .rxPauseExpiry n c prio => (execRxPauseExpiry_same n c prio s t e).keeps rfl
  | .ppsPulseEnd k => (execPpsPulseEnd_same k s t e).keeps rfl
  | .supplyRestored rail uv => (execSupplyRestored_same rail uv s t e).keeps rfl
  | .corePllRelock die => (execCorePllRelock_same die s t e).keeps rfl

/-! ### The tick count and the FRC of its strobe -/

/-- The commands that may touch the tick. -/
theorem eq_of_tick_mem_touches {c : Instr} (h : StatePart.tick ∈ touches c) :
    (∃ ns, c = .resetAssert ns) ∨ (∃ k f, c = .kindlingStepDone k f) ∨ (∃ f, c = .trefLockRetry f) ∨
      (∃ f, c = .tickBoundary f) ∨ (∃ u, c = .tickOverrun u) ∨ ∃ f, c = .zaluaTickChecks f := by
  cases c <;> simp [touches] at h ⊢

/-- Every command keeps the tick count and the FRC of its strobe together. -/
theorem exec_tickOk {c : Instr} {s t : State} (e : exec c s = .next t) (h : TickOk s) : TickOk t := by
  by_cases hc : StatePart.tick ∈ touches c
  · obtain ⟨ns, rfl⟩ | ⟨k, f, rfl⟩ | ⟨f, rfl⟩ | ⟨f, rfl⟩ | ⟨u, rfl⟩ | ⟨f, rfl⟩ := eq_of_tick_mem_touches hc
    · exact (execResetAssert_sound _ _ _ e).tick h
    · exact (execKindlingStepDone_sound _ _ _ _ e).tick h
    · exact (execTrefLockRetry_sound _ _ _ e).tick h
    · exact (execTickBoundary_sound _ _ _ e).tick h
    · exact (execTickOverrun_sound _ _ _ e).tick h
    · exact (execZaluaTickChecks_sound _ _ _ e).tick h
  · have q : t.tick = s.tick := exec_keeps c s t e .tick hc
    unfold TickOk at *
    rw [q, h]

/-- Settles O2: the empty queue is the first arm of `step`. -/
theorem emptyQueueIdles : Obligations.EmptyQueueIdles := by
  intro s h
  unfold step
  rw [h]

/-- Settles O5: a step idles or runs one command, and every command keeps the two together. -/
theorem tickAndFrcStayTogether : Obligations.TickAndFrcStayTogether := by
  intro s t h e
  unfold step at e
  split at e
  · cases e; exact h
  · exact exec_tickOk e h

end Sys2Proof.Machine
end

section
/-! Proofs.  What moves the tick: the strobe counts it, and the island's checks and an overrun leave it (R30, R32 to R34). -/

namespace Sys2Proof.Machine

/-! ### The strobe -/

/-- Steps 1 and 2 count the tick and latch the FRC of its strobe; what they count and check beside leaves the tick alone. -/
theorem openTick_tick (f : TickFound) (s : State) :
    (openTick f s).tick = { s.tick with count := s.tick.count + 1, startFrc := s.tick.startFrc + 65536000 } := by
  unfold openTick
  extract_lets s1
  have h1 : s1.tick = s.tick := (Same.foldl (fun s p => ailing_same p s) _ _).tick rfl |>.trans
    ((Same.foldl (fun s v => strike_same v s) _ _).tick rfl)
  have h2 : (countIdle (f.cycles.foldl (fun s c => countCycles c s) (f.occ.foldl (fun s o => countOcc o s) s1))).tick =
      s.tick :=
    ((countIdle_same _).tick rfl).trans (((Same.foldl (fun s c => countCycles_same c s) _ _).tick rfl).trans
      (((Same.foldl (fun s o => countOcc_same o s) _ _).tick rfl).trans h1))
  rw [(settleGood_same _).tick rfl, (countBeat_same _).tick rfl, countTick, State.setTick_tick, h2]

/-- Steps 3 to 12 leave the tick as steps 1 and 2 have left it. -/
theorem tickBoundary_tick (f : TickFound) (s : State) (hm : s.sys.mode ≠ .reset) (hr : s.tick.running = true) :
    (tickBoundary f s).tick =
      { s.tick with count := s.tick.count + 1, startFrc := s.tick.startFrc + 65536000 } := by
  unfold tickBoundary
  rw [if_neg (by simp [hm, hr])]
  dsimp only
  rw [(stepBeat_same _).tick rfl, (stepDelays_same _).tick rfl, (stepBudgets_same _).tick rfl,
    (stepOther_same ..).tick rfl, (stepMasks_same ..).tick rfl, (stepSelect_same ..).tick rfl,
    (stepUnits_same ..).tick rfl, (stepModes_same ..).tick rfl, (stepTakeover_same _).tick rfl,
    (stepSafe_same _).tick rfl, State.setSys_tick, openTick_tick]

/-- Settles O15: steps 1 and 2 count, and the boundary's footprint holds neither flash nor supplies. -/
theorem theStrobeCountsTheTick : Obligations.TheStrobeCountsTheTick := by
  intro f s
  refine ⟨fun hm hr => ?_, fun h => ?_⟩
  · have k := tickBoundary_same f s
    have e := tickBoundary_tick f s hm hr
    exact ⟨_, rfl, by rw [e], by rw [e], by rw [e]; exact hr, k.flash rfl, k.power rfl⟩
  · show Host.Outcome.next (tickBoundary f s) = _
    unfold tickBoundary
    rw [if_pos (by simpa using h)]

/-! ### The checks of a tick and its overrun -/

/-- The checks of a tick write the difference of the East mirror, and nothing else of the tick. -/
theorem tickChecks_tick (f : TickChecks) (s : State) :
    (tickChecks f s).tick = s.tick ∨ (tickChecks f s).tick = { s.tick with mirrorDiff := f.mirror } := by
  unfold tickChecks
  split
  · exact .inl rfl
  · extract_lets s1
    have h1 : s1.tick = { s.tick with mirrorDiff := f.mirror } := by
      refine ((crossCheck_same _).tick rfl).trans ?_
      unfold mirrorCheck
      dsimp only
      split
      · rfl
      · exact (recordFault_same ..).tick rfl
    refine .inr (((thermalCheck_same ..).tick rfl).trans ?_)
    split
    · exact ((frcCheckGood_same _).tick rfl).trans h1
    · exact h1

/-- An overrun that counts writes OVERRUN_LAST, and nothing else of the tick. -/
theorem tickOverrun_tick (u : UnitId) (s : State) :
    (tickOverrun u s).tick = s.tick ∨ (tickOverrun u s).tick =
      { s.tick with overrunCls := u.cls, overrunInst := u.inst, overrunTick := BitVec.ofNat 32 s.tick.count.toNat } := by
  unfold tickOverrun
  split
  · exact .inl rfl
  · split
    · exact .inl rfl
    · dsimp only
      refine .inr ?_
      split
      · split
        · exact (recordFault_same ..).tick rfl
        · exact ((nameUnit_same ..).tick rfl).trans ((recordFault_same ..).tick rfl)
      · exact (leaveService_same ..).tick rfl

/-- Settles O10: of the commands that may touch the tick, the checks and the overrun leave its count, FRC and start. -/
theorem onlyTheseMoveTheTick : Obligations.OnlyTheseMoveTheTick := by
  intro c s t e hb hr hk hl
  by_cases hc : StatePart.tick ∈ touches c
  · obtain ⟨ns, rfl⟩ | ⟨k, f, rfl⟩ | ⟨f, rfl⟩ | ⟨f, rfl⟩ | ⟨u, rfl⟩ | ⟨f, rfl⟩ := eq_of_tick_mem_touches hc
    · exact absurd rfl (hr ns)
    · exact absurd rfl (hk k f)
    · exact absurd rfl (hl f)
    · exact absurd rfl (hb f)
    · cases e
      obtain q | q := tickOverrun_tick u s <;> rw [q] <;> exact ⟨rfl, rfl, rfl⟩
    · cases e
      obtain q | q := tickChecks_tick f s <;> rw [q] <;> exact ⟨rfl, rfl, rfl⟩
  · have q : t.tick = s.tick := exec_keeps c s t e .tick hc
    rw [q]
    exact ⟨rfl, rfl, rfl⟩

end Sys2Proof.Machine
end

section
/-! Proofs.  What recording a fault does, and the island's findings that rest on it (R47, R52, R53, R378, R379, R558). -/

namespace Sys2Proof.Machine

/-! ### Recording a fault -/

theorem getLsbD_or_shift (x : BitVec 24) {c : Nat} (h : c < 24) : (x ||| (1#24 <<< c)).getLsbD c = true := by
  simp [h]

/-- What recording a fault does to the island's state. -/
theorem recordFault_recorded {c : Nat} (cls inst detail : Nat) {s : State} (hm : s.sys.mode ≠ .reset) (hc : c < 24) :
    Recorded c cls inst detail s (recordFault c cls inst detail s) := by
  unfold recordFault
  rw [if_neg hm]
  extract_lets toSafe now least e log z0 z s1 y k s2
  have hz : s2.zal = z := by unfold s2; split <;> rfl
  have h : (if toSafe = true then s2 else raise Ev.safetyFault e.bytes s2).zal = z := by split <;> exact hz
  refine ⟨?_, by rw [h], by rw [h], ?_, e, ?_, rfl, rfl, rfl, rfl, rfl⟩
  · unfold causeSet; rw [h]; exact getLsbD_or_shift _ hc
  · rw [h]
    show (if (leadsToSafe c s) = true then _ else _) = _
    simp [leadsToSafe]
  · have hl : log.length = s.zal.log.length + 1 := List.length_append
    rw [h, ← hl]

/-- Recording a fault raises at most events, behind those raised before. -/
theorem recordFault_events (c cls inst detail : Nat) (s : State) :
    ∃ l, (recordFault c cls inst detail s).toune.events = s.toune.events ++ l := by
  unfold recordFault
  split
  · exact ⟨[], by simp⟩
  · extract_lets toSafe now least e log z0 z s1 y k s2
    have hz : s2.toune = s.toune := by unfold s2; split <;> rfl
    split
    · exact ⟨[], by rw [hz]; simp⟩
    · exact ⟨_, congrArg (·.events ++ _) hz⟩

theorem recordFault_deferred (c cls inst detail : Nat) (s : State) :
    (recordFault c cls inst detail s).sys.deferred = s.sys.deferred := by
  unfold recordFault
  split
  · rfl
  · extract_lets toSafe now least e log z0 z s1 y k s2
    have hz : s2.sys.deferred = s.sys.deferred := by unfold s2; split <;> rfl
    split <;> exact hz

/-- A record made after steps that leave the island, the mode and the tick count is a record from before them. -/
theorem Recorded.of_before {c cls inst detail : Nat} {r s t : State} (h : Recorded c cls inst detail s t)
    (hz : s.zal = r.zal) (hm : s.sys.mode = r.sys.mode) (ht : s.tick.count = r.tick.count) :
    Recorded c cls inst detail r t := by
  unfold Recorded at *
  rw [← hz, ← hm, ← ht]
  exact h

/-- A record stands while the recorded causes, the log and FAULT_N stand. -/
theorem Recorded.of_after {c cls inst detail : Nat} {s t u : State} (h : Recorded c cls inst detail s t)
    (hs : u.zal.status = t.zal.status) (hf : u.zal.faultN = t.zal.faultN) (hn : u.zal.logNext = t.zal.logNext)
    (ha : u.zal.toSafe = t.zal.toSafe) (hl : u.zal.log = t.zal.log) : Recorded c cls inst detail s u := by
  unfold Recorded causeSet at *
  rw [hs, hf, hn, ha, hl]
  exact h

theorem condOn_recorded {c d cls inst detail : Nat} {s t : State} (h : Recorded c cls inst detail s t) :
    Recorded c cls inst detail s (condOn d t) := h.of_after rfl rfl rfl rfl rfl

theorem condOn_cond {c : Nat} (s : State) (hc : c < 24) : (condOn c s).zal.cond.getLsbD c = true :=
  getLsbD_or_shift _ hc

/-- The end of a condition leaves every recorded cause. -/
theorem condOff_zal (c : Nat) (s : State) :
    (condOff c s).zal.cond = s.zal.cond &&& ~~~(1#24 <<< c) ∧ (condOff c s).zal.status = s.zal.status := by
  unfold condOff settleFaultN
  split <;> exact ⟨rfl, rfl⟩

theorem nameUnit_recorded {c cls inst detail : Nat} {u : UnitId} {s t : State} (h : Recorded c cls inst detail s t) :
    Recorded c cls inst detail s (nameUnit u t) := by
  unfold nameUnit
  split
  · exact h
  · exact h.of_after rfl rfl rfl rfl rfl

theorem mem_nameUnit (u : UnitId) (s : State) : u ∈ (nameUnit u s).zal.units := by
  unfold nameUnit
  split
  next h => simpa using h
  next => simp

/-! ### Tick overrun -/

/-- The unit as which an overrun counts has a number that R9 gives: there are 128 HBM controllers. -/
theorem overrunUnit_hbmc {u v : UnitId} (h : overrunUnit u = some v) (hv : v.cls = 14) : v.inst < 128 := by
  unfold overrunUnit at h
  grind

/-- OVERRUN_STATUS is no word of an HBM controller. -/
theorem paddr_hbmc_ne {i : Nat} (h : i < 128) : paddr 14 i 0 ≠ paddr 3 0 0xC := by
  unfold paddr
  omega

/-- What R52 asks for depends on a setting of HBM controllers alone. -/
theorem overrunSafe_congr {s t : State} {v : UnitId} (h : v.cls = 14 → reg t 14 v.inst 0 = reg s 14 v.inst 0) :
    overrunSafe t v = overrunSafe s v := by
  unfold overrunSafe
  by_cases hv : v.cls = 14
  · rw [h hv]
  · rw [beq_eq_false_iff_ne.mpr hv, Bool.false_and, Bool.false_and]

/-- What an overrun of unit `u` leaves behind before the reaction: the event, the counters and OVERRUN_LAST (R53). -/
def overrunNoted (u : UnitId) (s : State) : State :=
  let s1 := raise Ev.tickOverrun (le 1 u.cls ++ le 2 u.inst ++ le 8 s.tick.count.toNat) s
  let s2 := setReg 3 0 0xC (reg s1 3 0 0xC ||| (1#32 <<< u.cls)) (bump 16 3 0 0xF 1 s1)
  s2.setTick { s2.tick with
    overrunCls := u.cls, overrunInst := u.inst, overrunTick := BitVec.ofNat 32 s2.tick.count.toNat }

/-- An overrun that counts is noted, and then the unit as which it counts leads to SAFE or leaves service (R52). -/
theorem tickOverrun_eq {u v : UnitId} {s : State} (h : overrunUnit u = some v) (hm : s.sys.mode ≠ .reset)
    (hr : s.tick.running = true) (hv : unitState s v = .inService) (ha : isAbsent s v.cls v.inst = false) :
    tickOverrun u s = if overrunSafe s v then
        (if v.cls = 1 then recordFault 7 v.cls v.inst 0 (overrunNoted u s)
          else nameUnit v (recordFault 7 v.cls v.inst 0 (overrunNoted u s)))
      else leaveService v 0 (overrunNoted u s) := by
  have e : overrunSafe (overrunNoted u s) v = overrunSafe s v :=
    overrunSafe_congr fun q => (tgetD_tput_ne _ _ _ (paddr_hbmc_ne (overrunUnit_hbmc h q)) : _ = _)
  unfold tickOverrun
  rw [h]
  dsimp only
  rw [if_neg (by simp [hm, hr, hv, ha])]
  exact congrArg (fun b : Bool => if b then _ else _) e

/-- The reaction leaves the tick, and raises at most events behind the one of the overrun. -/
theorem tickOverrun_noted {u v : UnitId} {s : State} (h : overrunUnit u = some v) (hm : s.sys.mode ≠ .reset)
    (hr : s.tick.running = true) (hv : unitState s v = .inService) (ha : isAbsent s v.cls v.inst = false) :
    (tickOverrun u s).tick = (overrunNoted u s).tick ∧
      ∃ l, (tickOverrun u s).toune.events = (overrunNoted u s).toune.events ++ l := by
  rw [tickOverrun_eq h hm hr hv ha]
  split
  · split
    · exact ⟨(recordFault_same ..).tick rfl, recordFault_events ..⟩
    · rw [(nameUnit_same ..).tick rfl, (nameUnit_same ..).toune rfl]
      exact ⟨(recordFault_same ..).tick rfl, recordFault_events ..⟩
  · exact ⟨rfl, [], (List.append_nil _).symm⟩

/-- Settles O18: the overrun is noted, then either the fault is recorded or the switch-out waits for the boundary. -/
theorem overrunsAreRecordedAndTakeTheUnitOut : Obligations.OverrunsAreRecordedAndTakeTheUnitOut := by
  intro u v s h hm hr hv ha
  obtain ⟨ht, l, hl⟩ := tickOverrun_noted h hm hr hv ha
  have hrec : Recorded 7 v.cls v.inst 0 s (recordFault 7 v.cls v.inst 0 (overrunNoted u s)) :=
    (recordFault_recorded v.cls v.inst 0 (s := overrunNoted u s) hm (by decide)).of_before rfl rfl rfl
  have hdef : (recordFault 7 v.cls v.inst 0 (overrunNoted u s)).sys.deferred = s.sys.deferred :=
    recordFault_deferred ..
  refine ⟨tickOverrun u s, rfl, by rw [ht]; rfl, by rw [ht]; rfl, by rw [ht]; rfl, by rw [ht]; rfl,
    ⟨_ :: l, hl.trans (List.append_assoc ..), rfl⟩, fun hs => ?_, fun hs => ?_⟩
  · rw [tickOverrun_eq h hm hr hv ha, if_pos hs]
    split
    next h1 => exact ⟨hrec, fun q => absurd h1 q, hdef⟩
    next =>
      refine ⟨nameUnit_recorded hrec, fun _ => mem_nameUnit .., ?_⟩
      rw [(nameUnit_same ..).sys rfl, hdef]
  · rw [tickOverrun_eq h hm hr hv ha, if_neg (by simp [hs])]
    exact ⟨rfl, rfl⟩

/-! ### The checks of a tick and the clocks -/

/-- Without the cross-check the domains are not compared (R386). -/
theorem crossCheck_off {s : State} (h : bitOf (reg s 2 0 6).toNat 31 = false) : crossCheck s = s := by
  unfold crossCheck
  exact if_pos (by rw [h]; rfl)

/-- While the oscillator's counts are good, another good tick changes nothing (R379). -/
theorem frcCheckGood_good {s : State} (h : s.tu.frcFail = false) : frcCheckGood s = s := by
  unfold frcCheckGood
  exact if_pos (by rw [h]; rfl)

/-- Cool readings are kept and record nothing (R559). -/
theorem thermalCheck_cool {raw : List Int} {s : State} (hh : s.zal.hot = false)
    (h : ∀ i, i < 24 → sensorReading s raw i < 16 * (regField s 1 0 6 7 0 : Int)) :
    thermalCheck raw s = s.setZal { s.zal with readings := (List.range 24).map (sensorReading s raw) } := by
  have hn : ((List.range 24).map (sensorReading s raw)).findIdx?
      (fun r => decide (r ≥ 16 * (regField s 1 0 6 7 0 : Int))) = none := by
    rw [List.findIdx?_eq_none_iff]
    intro r hr
    obtain ⟨i, hi, rfl⟩ := List.mem_map.mp hr
    have := h i (List.mem_range.mp hi)
    simpa using this
  unfold thermalCheck
  dsimp only
  rw [hn]
  simp [hh]

/-- The check of the mirror writes the difference, and records it where there is one (R22). -/
theorem mirrorCheck_recorded {d : Dword} {s : State} (hm : s.sys.mode ≠ .reset) (hd : d ≠ 0) :
    Recorded 9 0xFF 0 0 s (mirrorCheck d s) := by
  unfold mirrorCheck
  extract_lets y s1
  have h : s1.sys.mode ≠ .reset := hm
  rw [if_neg hd]
  exact (recordFault_recorded _ _ _ h (by decide)).of_before rfl rfl rfl

theorem mirrorCheck_agrees (s : State) : mirrorCheck 0 s = s.setTick { s.tick with mirrorDiff := 0 } := by
  unfold mirrorCheck
  rw [if_pos rfl]

theorem mirrorCheck_tick (d : Dword) (s : State) : (mirrorCheck d s).tick = { s.tick with mirrorDiff := d } := by
  unfold mirrorCheck
  dsimp only
  split
  · rfl
  · exact (recordFault_same ..).tick rfl

theorem recordFault_hot (c cls inst detail : Nat) (s : State) :
    (recordFault c cls inst detail s).zal.hot = s.zal.hot := by
  unfold recordFault
  split
  · rfl
  · extract_lets toSafe now least e log z0 z s1 y k s2
    have hz : s2.zal.hot = s.zal.hot := by unfold s2; split <;> rfl
    split <;> exact hz

theorem mirrorCheck_hot (d : Dword) (s : State) : (mirrorCheck d s).zal.hot = s.zal.hot := by
  unfold mirrorCheck
  dsimp only
  split
  · rfl
  · exact recordFault_hot ..

/-- With the cross-check disabled, the oscillator good and cool readings, the checks of a tick are that of the mirror, and the
readings are kept. -/
theorem tickChecks_eq {f : TickChecks} {s : State} (hm : s.sys.mode ≠ .reset) (hr : s.tick.running = true)
    (hx : bitOf (reg s 2 0 6).toNat 31 = false) (hh : s.zal.hot = false) (hf : s.tu.frcFail = false)
    (hc : ∀ i, i < 24 → sensorReading s f.readings i < 16 * (regField s 1 0 6 7 0 : Int)) :
    tickChecks f s = (mirrorCheck f.mirror s).setZal { (mirrorCheck f.mirror s).zal with
      readings := (List.range 24).map (sensorReading s f.readings) } := by
  have k : Same 284 s (mirrorCheck f.mirror s) := mirrorCheck_same _ _
  have hreg : ∀ c i w, reg (mirrorCheck f.mirror s) c i w = reg s c i w := fun c i w => by unfold reg; rw [k.regs rfl]
  have hread : sensorReading (mirrorCheck f.mirror s) f.readings = sensorReading s f.readings := by
    funext i; unfold sensorReading calBytes calByte; rw [k.cal rfl]
  unfold tickChecks
  rw [if_neg (by simp [hm, hr]), crossCheck_off (by rw [hreg]; exact hx)]
  dsimp only
  rw [frcCheckGood_good (by rw [k.tu rfl]; exact hf), ite_self, thermalCheck_cool, hread]
  · rw [mirrorCheck_hot]; exact hh
  · rw [hread]; unfold regField; rw [hreg]; exact hc

/-- A count outside its window is recorded for the TU with that count, and its condition persists (R379). -/
theorem frcCheckFail_finds {long : Bool} {n : Nat} {s : State} (hm : s.sys.mode ≠ .reset) (hb : frcCountBad long n = true) :
    Recorded 0x11 2 0 n s (frcCheckFail long n s) ∧ (frcCheckFail long n s).tu.frcFail = true ∧
      (frcCheckFail long n s).zal.cond.getLsbD 0x11 = true := by
  unfold frcCheckFail
  extract_lets y s1 p s2
  have h1 : Same 16384 s s1 := Same.ite (Same.setTu _ _ rfl rfl) (Same.rfl' _)
  have h2 : s2.zal = s.zal := h1.zal rfl
  have h3 : s2.sys = s.sys := h1.sys rfl
  have h4 : s2.tick = s.tick := h1.tick rfl
  have h5 : s2.tu.frcFail = true := rfl
  clear_value s2
  rw [if_neg (by simp [hb])]
  refine ⟨condOn_recorded ?_, ?_, condOn_cond _ (by decide)⟩
  · exact (recordFault_recorded _ _ _ (by rw [h3]; exact hm) (by decide)).of_before h2 (by rw [h3]) (by rw [h4])
  · rw [(condOn_same ..).tu rfl, (recordFault_same ..).tu rfl, h5]

theorem trefAlarm_tu (tref pll : Bool) (s : State) :
    (trefAlarm tref pll s).tu.trefAlarm = tref ∧ (trefAlarm tref pll s).tu.pllAlarm = pll := by
  have h : (trefAlarm tref pll s).tu = { s.tu with trefAlarm := tref, pllAlarm := pll } := by
    unfold trefAlarm
    dsimp only
    split
    · rfl
    · split
      · exact ((condOn_same ..).tu rfl).trans ((recordFault_same ..).tu rfl)
      · exact (condOff_same ..).tu rfl
  rw [h]
  exact ⟨rfl, rfl⟩

/-- An alarm that begins is recorded for the TU, and its condition persists (R378). -/
theorem trefAlarm_begins {tref pll : Bool} {s : State} (hm : s.sys.mode ≠ .reset) (hn : (tref || pll) = true)
    (hw : (s.tu.trefAlarm || s.tu.pllAlarm) = false) :
    Recorded 0x10 2 0 0 s (trefAlarm tref pll s) ∧ (trefAlarm tref pll s).zal.cond.getLsbD 0x10 = true := by
  unfold trefAlarm
  extract_lets was now y s1 s2
  have h2 : s2.zal = s.zal := rfl
  have h3 : s2.sys = s.sys := rfl
  have h4 : s2.tick = s.tick := rfl
  clear_value s2
  rw [if_neg (by simp [was, now, hn, hw]), if_pos hn]
  exact ⟨condOn_recorded ((recordFault_recorded _ _ _ (by rw [h3]; exact hm) (by decide)).of_before h2 (by rw [h3])
    (by rw [h4])), condOn_cond _ (by decide)⟩

/-- An alarm that ends ends its condition, and no cause recorded (R378). -/
theorem trefAlarm_ends {tref pll : Bool} {s : State} (hn : (tref || pll) = false)
    (hw : (s.tu.trefAlarm || s.tu.pllAlarm) = true) :
    (trefAlarm tref pll s).zal.cond = s.zal.cond &&& ~~~(1#24 <<< 0x10) ∧
      (trefAlarm tref pll s).zal.status = s.zal.status := by
  unfold trefAlarm
  extract_lets was now y s1 s2
  have h2 : s2.zal = s.zal := rfl
  clear_value s2
  rw [if_neg (by simp [was, now, hn, hw]), if_neg (by simp [now, hn]), (condOff_zal _ _).1, (condOff_zal _ _).2, h2]
  exact ⟨rfl, rfl⟩

/-- Settles O21: each finding records its cause, and the end of the reference's alarm ends its condition. -/
theorem checksOfTheTickAndTheClocks : Obligations.ChecksOfTheTickAndTheClocks := by
  intro s hm
  refine ⟨fun f hr hx hh hf hc => ?_, fun long n hb => ?_, fun tref pll => ?_⟩
  · refine ⟨_, congrArg Host.Outcome.next (tickChecks_eq hm hr hx hh hf hc), ?_, rfl, fun h0 => ?_, fun h0 => ?_⟩
    · exact congrArg TickState.mirrorDiff (mirrorCheck_tick f.mirror s)
    · exact (mirrorCheck_recorded hm h0).of_after rfl rfl rfl rfl rfl
    · rw [h0, mirrorCheck_agrees]; exact ⟨rfl, rfl⟩
  · exact ⟨frcCheckFail long n s, rfl, frcCheckFail_finds hm hb⟩
  · exact ⟨trefAlarm tref pll s, rfl, (trefAlarm_tu ..).1, (trefAlarm_tu ..).2, trefAlarm_begins hm, trefAlarm_ends⟩

end Sys2Proof.Machine
end

section
/-! Proofs.  The rules of the slices' state: what a slice, a counter and a result table read after each operation that the flow
commands share (R105, R226, R240). -/

namespace Sys2Proof.Machine

/-! ### Slices -/

/-- The second of two writes of a key stands. -/
theorem tput_tput {α : Type} (m : Table α) (k : Nat) (v w : α) : tput (tput m k v) k w = tput m k w := by
  induction m with
  | nil => simp [tput]
  | cons e m ih =>
    obtain ⟨a, u⟩ := e
    by_cases h1 : k = a
    · simp [tput, h1]
    · by_cases h2 : k < a
      · simp [tput, h1, h2]
      · simp [tput, h1, h2, ih]

@[simp] theorem slAt_setSl_self (n : Nat) (x : Slice) (s : State) : slAt (setSl n x s) n = x := tgetD_tput_self ..

@[simp] theorem slAt_modSl_self (n : Nat) (f : Slice → Slice) (s : State) : slAt (modSl n f s) n = f (slAt s n) :=
  tgetD_tput_self ..

theorem setSl_setSl (n : Nat) (x y : Slice) (s : State) : setSl n y (setSl n x s) = setSl n y s := by
  unfold setSl
  simp only [State.setFlow_flow, tput_tput]
  rfl

/-- A slice reads the same where the flow part is the same. -/
theorem slAt_congr {s t : State} (h : t.flow = s.flow) (n : Nat) : slAt t n = slAt s n := by unfold slAt; rw [h]

theorem flightAt_congr {s t : State} (h : t.flow = s.flow) (n : Nat) (d : Dword) : flightAt t n d = flightAt s n d := by
  unfold flightAt; rw [slAt_congr h]

/-- Without host commands in progress there is nothing to answer (R256). -/
theorem completeCmds_idle {s : State} (h : s.flow.cmds = []) : completeCmds s = s := by
  unfold completeCmds
  rw [h]
  rfl

/-! ### Counters -/

/-- What a counter reads after another or the same one has counted (R105). -/
theorem counter_bump (bits c i w k : Nat) (s : State) (a : Nat) : counter (bump bits c i w k s) a =
    if a = paddr c i w then min (counter s a + k) (2 ^ bits - 1) else counter s a := by
  unfold bump counter
  simp only [State.setPrm_prm, tgetD_tput]
  split
  next h => rw [h]
  next => rfl

theorem counter_slCount_self (n w k : Nat) (s : State) :
    counter (slCount n w k s) (paddr 13 n w) = min (counter s (paddr 13 n w) + k) (2 ^ 32 - 1) :=
  (counter_bump ..).trans (if_pos rfl)

theorem counter_slCount_ne {n w v k : Nat} (s : State) (h : v ≠ w) :
    counter (slCount n w k s) (paddr 13 n v) = counter s (paddr 13 n v) :=
  (counter_bump ..).trans (if_neg fun q => h (Nat.add_left_cancel q))

/-- A counter reads the same where the parameter space is the same. -/
theorem counter_congr {s t : State} (h : t.prm = s.prm) (a : Nat) : counter t a = counter s a := by
  unfold counter; rw [h]

/-- A counter of a slice is none of another class. -/
theorem paddr_slice_ne {n w c i v : Nat} (hn : n < 1024) (hw : w < 0x4000) (hc : 14 ≤ c) :
    paddr 13 n w ≠ paddr c i v := by
  unfold paddr
  omega

/-! ### In-flight entries and results -/

theorem digest_of_flightAt {s : State} {n : Nat} {d : Dword} {f : Flight} (h : flightAt s n d = some f) :
    f.digest = d := by
  simpa using List.find?_some (show (slAt s n).flights.find? (fun f => f.digest == d) = some f from h)

/-- Releasing an entry undoes what was put for its digest. -/
theorem delFlight_putFlight {n : Nat} {d : Dword} {f : Flight} (s : State) (h : f.digest = d) :
    delFlight n d (putFlight n f s) = delFlight n d s := by
  unfold delFlight putFlight modSl
  rw [slAt_setSl_self, setSl_setSl]
  congr 1
  dsimp only
  congr 1
  subst h
  split
  · induction (slAt s n).flights with
    | nil => rfl
    | cons g l ih =>
      by_cases q : g.digest = f.digest <;> simp_all
  · simp

theorem flightAt_delFlight (n : Nat) (d : Dword) (s : State) : flightAt (delFlight n d s) n d = none := by
  unfold flightAt delFlight flightOf
  rw [slAt_modSl_self]
  simp [List.find?_eq_none]

theorem flightAt_putFlight {s : State} {n : Nat} {d : Dword} {f g : Flight} (h : flightAt s n d = some f)
    (hg : g.digest = d) : flightAt (putFlight n g s) n d = some g := by
  have hb : busy (slAt s n) g.digest = true := by
    unfold busy
    rw [List.any_eq_true, hg]
    exact ⟨f, List.mem_of_find?_eq_some h, by simpa using digest_of_flightAt h⟩
  unfold flightAt flightOf at *
  unfold putFlight
  rw [slAt_modSl_self]
  simp only [hb, if_true]
  subst hg
  generalize (slAt s n).flights = l at h
  induction l with
  | nil => cases h
  | cons a l ih =>
    by_cases q : a.digest = g.digest
    · simp [q]
    · simp only [List.map_cons, List.find?_cons, beq_eq_false_iff_ne.mpr q, Bool.false_eq_true, if_false] at h ⊢
      exact ih h

/-- The answer of a packet's operation joins the results that slice `n` owes its pipeline (R226, R239). -/
theorem answer_results {op : FlowOp} {q : FlowReq} (n v : Nat) (s : State) (h : op.kind = .packet q) :
    ∃ r : FlowResult, r.pkt = q.pkt ∧ r.verdict = v ∧
      tgetD (fun _ => []) (answer n op v s).flow.results (16 * q.pipe + n) =
        tgetD (fun _ => []) s.flow.results (16 * q.pipe + n) ++ [r] := by
  have hq : op.req = some q := by unfold FlowOp.req; rw [h]
  unfold answer opResult
  rw [hq]
  exact ⟨_, rfl, rfl, tgetD_tput_self ..⟩

theorem answer_slice (n : Nat) (op : FlowOp) (v : Nat) (s : State) :
    (answer n op v s).flow.slice = s.flow.slice ∧ (answer n op v s).flow.cmds = s.flow.cmds := by
  unfold answer opResult
  split <;> exact ⟨rfl, rfl⟩

theorem slAt_answer (n : Nat) (op : FlowOp) (v : Nat) (s : State) (m : Nat) : slAt (answer n op v s) m = slAt s m := by
  unfold slAt; rw [(answer_slice n op v s).1]

end Sys2Proof.Machine
end

section
/-! Proofs.  Waiting operations that have waited long enough: the creation, the held operation and the punt (R50, R252). -/

namespace Sys2Proof.Machine

/-! ### The sole operation of an entry is answered -/

/-- The state once the sole operation of an entry has its verdict and the entry is released (R240). -/
def answeredSole (n : Nat) (d : Dword) (op : FlowOp) (v : Nat) (s : State) : State :=
  episodes n (delFlight n d (answer n op v s))

/-- What the answer to the sole operation of an entry leaves of slice `n`, and what it adds to the results. -/
structure AnsweredSole (n : Nat) (d : Dword) (q : FlowReq) (v : Nat) (s t : State) : Prop where
  createQ : (slAt t n).createQ = (slAt s n).createQ
  holdQ : (slAt t n).holdQ = (slAt s n).holdQ
  punts : (slAt t n).punts = (slAt s n).punts
  flight : flightAt t n d = none
  prm : t.prm = s.prm
  cmds : t.flow.cmds = s.flow.cmds
  result : ∃ r : FlowResult, r.pkt = q.pkt ∧ r.verdict = v ∧ tgetD (fun _ => []) t.flow.results (16 * q.pipe + n) =
    tgetD (fun _ => []) s.flow.results (16 * q.pipe + n) ++ [r]

theorem answeredSole_spec {op : FlowOp} {q : FlowReq} (n : Nat) (d : Dword) (v : Nat) (s : State)
    (h : op.kind = .packet q) : AnsweredSole n d q v s (answeredSole n d op v s) := by
  have hx : slAt (answeredSole n d op v s) n = _ := slAt_modSl_self ..
  have hy : slAt (delFlight n d (answer n op v s)) n = _ := slAt_modSl_self ..
  have ha := slAt_answer n op v s n
  refine ⟨?_, ?_, ?_, ?_, ?_, ?_, ?_⟩
  · rw [hx, hy, ha]
  · rw [hx, hy, ha]
  · rw [hx, hy, ha]
  · have := flightAt_delFlight n d (answer n op v s)
    unfold flightAt flightOf at *
    rw [hx]
    exact this
  · exact ((episodes_same ..).prm rfl).trans (((delFlight_same ..).prm rfl).trans ((answer_same ..).prm rfl))
  · exact (answer_slice n op v s).2
  · exact answer_results n v s h

/-- A packet's operation that expires alone is answered, and nothing goes on behind it (R50). -/
theorem resolveBehind_sole {s : State} {n : Nat} {d : Dword} {f : Flight} {op : FlowOp} {q : FlowReq} (v : Nat)
    (hf : flightAt s n d = some f) (ho : f.ops = [op]) (hq : op.kind = .packet q) :
    resolveBehind n d v s = answeredSole n d op v s := by
  have hp : op.isPacket = true := by unfold FlowOp.isPacket FlowOp.req; rw [hq]; rfl
  have hd := digest_of_flightAt hf
  have hg : flightAt (answer n op v s) n d = some f := by
    unfold flightAt; rw [slAt_answer]; exact hf
  have hg' : flightAt (putFlight n { f with ops := [] } (answer n op v s)) n d = some { f with ops := [] } :=
    flightAt_putFlight hg hd
  unfold resolveBehind
  rw [hf]
  simp only [ho, List.foldl_cons, List.foldl_nil, hp, if_true, List.filter_cons, Bool.not_true, Bool.false_eq_true, if_false,
    List.filter_nil]
  unfold goOn
  rw [hg']
  dsimp only
  unfold pump
  rw [hg']
  dsimp only
  rw [delFlight_putFlight (f := { f with ops := [] }) _ hd]
  rfl

/-- A punt of a sole operation is answered (R252). -/
theorem resolvePunt_sole {s : State} {n : Nat} {d : Dword} {f : Flight} {op : FlowOp} (v : Nat)
    (hf : flightAt s n d = some f) (ho : f.ops = [op]) :
    resolvePunt n d v s = answeredSole n d op v (dropPunt n d s) := by
  have hx : slAt (dropPunt n d s) n = _ := slAt_modSl_self ..
  have hg : flightAt (dropPunt n d s) n d = some f := by
    unfold flightAt flightOf at *
    rw [hx, slAt_modSl_self]
    exact hf
  unfold resolvePunt answerAll
  rw [hg]
  dsimp only
  rw [ho]
  rfl

theorem dropPunt_punts (n : Nat) (d : Dword) (s : State) :
    ∀ x ∈ (slAt (dropPunt n d s) n).punts, x.digest ≠ d := by
  have hx : slAt (dropPunt n d s) n = _ := slAt_modSl_self ..
  rw [hx, slAt_modSl_self]
  intro x h
  simpa using (List.mem_filter.mp h).2

/-- Taking a punt out of the table leaves what a pipeline is owed and the commands of hosts. -/
theorem dropPunt_flow (n : Nat) (d : Dword) (s : State) :
    (dropPunt n d s).flow.results = s.flow.results ∧ (dropPunt n d s).prm = s.prm := ⟨rfl, rfl⟩

/-! ### The wait limit -/

/-- The operation in hand is the first of its in-flight entry. -/
theorem flightAt_of_headOp {s : State} {n : Nat} {d : Dword} {f : Flight} {op : FlowOp}
    (h : headOp s n d = some (f, op)) : flightAt s n d = some f := by
  unfold headOp at h
  split at h
  next g hg =>
    split at h
    · cases h; exact hg
    · cases h
  · cases h

section
variable {s : State} {n : Nat} {d : Dword} {rest : List Dword} {f : Flight} {op : FlowOp} {q : FlowReq} {since : Tick}

/-- A creation that has not reached the wait limit stays (R50). -/
theorem createExpired_waits (hh : headOp s n d = some (f, op)) (hc : (slAt s n).createQ = d :: rest)
    (hf : f.phase = .createQ since) (hw : ticksSince s.tick.count since < waitLimit s) : createExpired n s = s := by
  unfold createExpired
  rw [hc]
  dsimp only
  rw [hh]
  dsimp only
  rw [hf]
  exact if_pos hw

/-- The state in which an expired creation has left its queue and is counted and told (R50). -/
def creationGone (n : Nat) (rest : List Dword) (op : FlowOp) (s : State) : State :=
  slCount n 0x46 1 (raiseLimited Ev.createOverflow n (fun _ => le 1 n ++ le 2 op.template)
    (slCount n 0x62 1 (modSl n (fun x => { x with createQ := rest }) s)))

/-- An expired creation whose template's overflow action is 0 is answered with DENY (R50, R250). -/
theorem createExpired_denies (hh : headOp s n d = some (f, op)) (ho : f.ops = [op]) (hq : op.kind = .packet q)
    (hc : (slAt s n).createQ = d :: rest) (hf : f.phase = .createQ since)
    (hw : waitLimit s ≤ ticksSince s.tick.count since) (ha : overflowOf s q.template = 0) :
    createExpired n s = answeredSole n d op 1 (creationGone n rest op s) := by
  have ht : op.template = q.template := by unfold FlowOp.template FlowOp.req; rw [hq]
  have hl : (creationGone n rest op s).flow = (modSl n (fun x => { x with createQ := rest }) s).flow :=
    ((slCount_same ..).flow rfl).trans (((raiseLimited_same ..).flow rfl).trans ((slCount_same ..).flow rfl))
  have hg : flightAt (creationGone n rest op s) n d = some f := by
    rw [flightAt_congr hl]
    unfold flightAt
    rw [slAt_modSl_self]
    exact flightAt_of_headOp hh
  rw [← resolveBehind_sole 1 hg ho hq]
  unfold createExpired
  rw [hc]
  dsimp only
  rw [hh]
  dsimp only
  rw [hf]
  dsimp only
  rw [if_neg (by omega), ht, ha]
  unfold creationGone
  rw [ht]
  rfl

/-- What an expired creation leaves before it is answered: its queue without it, and one more in CREATE_EXPIRED. -/
theorem creationGone_spec (n : Nat) (rest : List Dword) (op : FlowOp) (s : State) :
    (creationGone n rest op s).flow = (modSl n (fun x => { x with createQ := rest }) s).flow ∧
      counter (creationGone n rest op s) (paddr 13 n 0x62) = min (counter s (paddr 13 n 0x62) + 1) (2 ^ 32 - 1) := by
  refine ⟨((slCount_same ..).flow rfl).trans (((raiseLimited_same ..).flow rfl).trans ((slCount_same ..).flow rfl)), ?_⟩
  unfold creationGone
  rw [counter_slCount_ne _ (by decide), counter_congr ((raiseLimited_same ..).prm rfl), counter_slCount_self]
  rfl

/-- A held operation that has not reached the wait limit stays (R50). -/
theorem holdExpired_waits {k : Nat} {e : List Byte} (hh : headOp s n d = some (f, op)) (hc : (slAt s n).holdQ = d :: rest)
    (hf : f.phase = .hold k e since) (hw : ticksSince s.tick.count since < waitLimit s) : holdExpired n s = s := by
  unfold holdExpired
  rw [hc]
  dsimp only
  rw [hh]
  dsimp only
  rw [hf]
  exact if_pos hw

/-- The state in which an expired held operation has left its queue and is counted and told (R50). -/
def holdGone (n : Nat) (rest : List Dword) (s : State) : State :=
  raiseLimited Ev.holdExpired n (fun k => le 1 n ++ le 4 k) (slCount n 0x63 1 (modSl n (fun x => { x with holdQ := rest }) s))

/-- What an expired held operation leaves before it is answered: its queue without it, and one more in HOLD_EXPIRED. -/
theorem holdGone_spec (n : Nat) (rest : List Dword) (s : State) :
    (holdGone n rest s).flow = (modSl n (fun x => { x with holdQ := rest }) s).flow ∧
      counter (holdGone n rest s) (paddr 13 n 0x63) = min (counter s (paddr 13 n 0x63) + 1) (2 ^ 32 - 1) := by
  refine ⟨((raiseLimited_same ..).flow rfl).trans ((slCount_same ..).flow rfl), ?_⟩
  unfold holdGone
  rw [counter_congr ((raiseLimited_same ..).prm rfl), counter_slCount_self]
  rfl

theorem mildDisp_eq_three (k : Nat) : mildDisp k = 3 ↔ k = 3 := by
  unfold mildDisp
  split <;> simp_all

/-- An expired held operation of a packet is answered by its disposition (R50, R249). -/
theorem holdExpired_answers {k : Nat} {e : List Byte} (hh : headOp s n d = some (f, op)) (ho : f.ops = [op])
    (hq : op.kind = .packet q) (hc : (slAt s n).holdQ = d :: rest) (hf : f.phase = .hold k e since)
    (hw : waitLimit s ≤ ticksSince s.tick.count since) :
    holdExpired n s = answeredSole n d op (if q.disp = 3 then 0 else 1) (holdGone n rest s) := by
  have hr : op.req = some q := by unfold FlowOp.req; rw [hq]
  have hg : flightAt (holdGone n rest s) n d = some f := by
    rw [flightAt_congr (holdGone_spec n rest s).1]
    unfold flightAt
    rw [slAt_modSl_self]
    exact flightAt_of_headOp hh
  rw [← resolveBehind_sole _ hg ho hq]
  unfold holdExpired
  rw [hc]
  dsimp only
  rw [hh]
  dsimp only
  rw [hf]
  dsimp only
  rw [if_neg (by omega), hr]
  dsimp only
  simp only [mildDisp_eq_three]
  rfl

end

/-! ### Punts -/

/-- A punt that has not waited PUNT_CTRL.timeout stays (R252). -/
theorem puntTimeout_waits {s : State} {n : Nat} {p : Punt} {ps : List Punt} (hp : (slAt s n).punts = p :: ps)
    (hw : ticksSince s.tick.count p.since < regField s 13 n 4 15 0) : puntTimeout n s = s := by
  unfold puntTimeout
  rw [hp]
  exact if_pos hw

/-- The state in which a punt that has timed out is counted and told (R252). -/
def puntTold (n : Nat) (s : State) : State :=
  raiseLimited Ev.puntTimeout n (fun k => le 1 n ++ le 4 k) (slCount n 0x4B 1 s)

theorem puntTold_spec (n : Nat) (s : State) : (puntTold n s).flow = s.flow ∧
    counter (puntTold n s) (paddr 13 n 0x4B) = min (counter s (paddr 13 n 0x4B) + 1) (2 ^ 32 - 1) := by
  refine ⟨((raiseLimited_same ..).flow rfl).trans ((slCount_same ..).flow rfl), ?_⟩
  unfold puntTold
  rw [counter_congr ((raiseLimited_same ..).prm rfl), counter_slCount_self]

/-- A punt that has timed out leaves the punt table, and its sole operation is answered by PUNT_CTRL (R252). -/
theorem puntTimeout_answers {s : State} {n : Nat} {p : Punt} {ps : List Punt} {f : Flight} {op : FlowOp}
    (hp : (slAt s n).punts = p :: ps) (hf : flightAt s n p.digest = some f) (ho : f.ops = [op])
    (hw : regField s 13 n 4 15 0 ≤ ticksSince s.tick.count p.since) :
    puntTimeout n s = answeredSole n p.digest op (if regField s 13 n 4 17 16 = 1 then 0 else 1)
      (dropPunt n p.digest (puntTold n s)) := by
  have hg : flightAt (puntTold n s) n p.digest = some f := by
    rw [flightAt_congr (puntTold_spec n s).1]; exact hf
  rw [← resolvePunt_sole _ hg ho]
  unfold puntTimeout
  rw [hp]
  exact if_neg (Nat.not_lt.mpr hw)

end Sys2Proof.Machine
end

section
/-! Proofs.  The timer wheel and its expiry operations (R39, R320, R321), with what a search of the tiers rests on (R268). -/

namespace Sys2Proof.Machine

/-! ### The wheel -/

/-- With nothing due the wheel stays (R320). -/
theorem fireDue_idle {s : State} {n : Nat} (h : ∀ w ∈ (slAt s n).wheel, due s w = false) (k : Nat) : fireDue n k s = s := by
  have hn : nextDue s (slAt s n) = none := by
    unfold nextDue
    rw [List.filter_eq_nil_iff.mpr fun w hw => by simp [h w hw]]
    rfl
  cases k with
  | zero => rfl
  | succ k => unfold fireDue; rw [hn]

/-- Posting an item counts in the cells of the cores and the forwarding tables only. -/
theorem counter_postStream {n m w : Nat} (code : Nat) (b : List Byte) (s : State) (hm : m < 1024) (hw : w < 0x4000) :
    counter (postStream n code b s) (paddr 13 m w) = counter s (paddr 13 m w) := by
  unfold postStream postItem
  dsimp only
  split
  · rfl
  · unfold classFull
    rw [counter_congr ((raiseLimited_same ..).prm rfl)]
    exact (counter_bump ..).trans (if_neg (paddr_slice_ne hm hw (by decide)))

/-- The journal counts its losses in its own cells. -/
theorem counter_journal {n m w : Nat} (kept : Bool) (b : List Byte) (s : State) (hm : m < 1024) (hw : w < 0x4000) :
    counter (journal n kept b s) (paddr 13 m w) = counter s (paddr 13 m w) := by
  unfold journal oweGap
  dsimp only
  generalize (if kept then 512 else 448) = room
  split
  · rfl
  · split
    · rfl
    · exact (counter_bump ..).trans (if_neg (paddr_slice_ne hm hw (by decide)))

/-- The state in which a due entry has fired: counted, with its expiry operation queued (R320). -/
def wheelFired (n : Nat) (w : WheelEntry) (s : State) : State :=
  modSl n (fun x => { x with
    wheel := x.wheel.map (fun v => if v.digest == w.digest then { v with fired := true } else v)
    expiry := x.expiry ++ [(w.digest, w.deadline)] }) (slCount n 0x60 1 s)

/-- What STREAM_SILENT and its journal entry leave of a fired entry. -/
theorem fire_spec {n : Nat} (w : WheelEntry) (s : State) (hn : n < 1024) : (fire n w s).flow = (wheelFired n w s).flow ∧
    counter (fire n w s) (paddr 13 n 0x60) = min (counter s (paddr 13 n 0x60) + 1) (2 ^ 32 - 1) := by
  have hc : counter (wheelFired n w s) (paddr 13 n 0x60) = min (counter s (paddr 13 n 0x60) + 1) (2 ^ 32 - 1) :=
    (counter_congr ((modSl_same ..).prm rfl) _).trans (counter_slCount_self ..)
  unfold fire
  dsimp only
  split
  · refine ⟨((postStream_same ..).flow rfl).trans ((journal_same ..).flow rfl), ?_⟩
    rw [counter_postStream _ _ _ hn (by decide), counter_journal _ _ _ hn (by decide)]
    exact hc
  · exact ⟨rfl, hc⟩

/-- The only entry of the wheel, due, fires; then nothing is due (R320). -/
theorem fireDue_sole {s : State} {n : Nat} {w : WheelEntry} (k : Nat) (hw : (slAt s n).wheel = [w]) (hd : due s w = true)
    (hn : n < 1024) : fireDue n (k + 1) s = fire n w s := by
  have hx : nextDue s (slAt s n) = some w := by unfold nextDue; rw [hw]; simp [hd]
  have hf : (slAt (fire n w s) n).wheel = [{ w with fired := true }] := by
    rw [slAt_congr (fire_spec w s hn).1, wheelFired, slAt_modSl_self, slAt_congr ((slCount_same ..).flow rfl), hw]
    simp
  rw [fireDue, hx]
  exact fireDue_idle (by rw [hf]; simp [due]) k

/-! ### What a search of the tiers reads -/

/-- Two slices hold the same entries in every tier, and the same upsets. -/
structure SameTiers (x y : Slice) : Prop where
  hearth : y.hearth = x.hearth
  stack : y.stack = x.stack
  turf : y.turf = x.turf
  sums : y.sums = x.sums
  badSums : y.badSums = x.badSums
  clears : y.clears = x.clears
  upsets : y.upsets = x.upsets

theorem wayOf_congr {x y : Slice} (h : y.hearth = x.hearth) (d : Dword) : wayOf y d = wayOf x d := by
  unfold wayOf; rw [h]

theorem hearthFind_congr {x y : Slice} (h : y.hearth = x.hearth) (d : Dword) (key : Option (List Byte)) :
    hearthFind y d key = hearthFind x d key := by
  unfold hearthFind; rw [wayOf_congr h, h]

theorem readCopy_congr {x y : Slice} (h : y.upsets = x.upsets) (tier idx : Nat) (u : ReadUpset) (e : List Byte) :
    readCopy y tier idx u e = readCopy x tier idx u e := by
  unfold readCopy copyUpset; rw [h]

theorem readFound_congr {x y : Slice} (h : y.upsets = x.upsets) (p : Place) (e : List Byte) :
    readFound y p e = readFound x p e := by
  unfold readFound; rw [readCopy_congr h]

section
variable {s t : State} {x y : Slice} {n : Nat} (d : Dword) (key : Option (List Byte))

theorem digestOf_congr (hr : t.prm.regs = s.prm.regs) (k : List Byte) : digestOf t k = digestOf s k := by
  unfold digestOf flowSeed reg; rw [hr]

theorem stackBuckets_congr (hr : t.prm.regs = s.prm.regs) : stackBuckets t = stackBuckets s := by
  unfold stackBuckets regField reg; rw [hr]

theorem stackFind_congr (hr : t.prm.regs = s.prm.regs) (h : y.stack = x.stack) : stackFind t y d key = stackFind s x d key := by
  unfold stackFind
  rw [stackBuckets_congr hr, h]
  simp only [digestOf_congr hr]

theorem turfCands_congr (hr : t.prm.regs = s.prm.regs) (h : SameTiers x y) : turfCands t y d = turfCands s x d := by
  unfold turfCands sumAt clearing
  rw [stackBuckets_congr hr, h.sums, h.clears, h.turf]

theorem turfEnd_congr (hr : t.prm.regs = s.prm.regs) (h : SameTiers x y) (l : List Nat) :
    turfEnd t y d key l = turfEnd s x d key l := by
  induction l with
  | nil => rfl
  | cons k l ih =>
    have hf : readFound y ⟨2, k⟩ = readFound x ⟨2, k⟩ := funext (readFound_congr h.upsets _)
    unfold turfEnd
    rw [h.turf, ih, hf]
    simp only [digestOf_congr hr]

/-- A search finds the same where the entries, the settings, the units and the rings are the same (R268). -/
theorem locate_congr (hr : t.prm.regs = s.prm.regs) (hs : t.sys = s.sys) (hj : t.jnl = s.jnl)
    (h : SameTiers (slAt s n) (slAt t n)) : locate t n d key = locate s n d key := by
  have hb := stackBuckets_congr hr
  have hi : ∀ c i, inService t c i = inService s c i := fun c i => by
    unfold inService unitState unitRec; rw [hs]
  have hc : ∀ b, chanIn t n b = chanIn s n b := fun b => hi _ _
  have hk : coldTier t n = coldTier s n := by unfold coldTier hasTurfs; rw [hj, hi]
  have hz : ∀ b, sumBad (slAt t n) b = sumBad (slAt s n) b := fun b => by
    unfold sumBad copyUpset; rw [h.badSums, h.upsets]
  unfold locate
  dsimp only
  rw [hearthFind_congr h.hearth, hb, hc, stackFind_congr d key hr h.stack, hk, hz, turfCands_congr d hr h,
    turfEnd_congr d key hr h, h.stack]
  simp only [readFound_congr h.upsets]

end

/-! ### Where a search ends -/

theorem readFound_hit {x : Slice} {p q : Place} {e e' : List Byte} (h : readFound x p e = .hit q e') : q = p := by
  unfold readFound at h
  split at h <;> cases h
  rfl

theorem turfEnd_hit {s : State} {x : Slice} {d : Dword} {key : Option (List Byte)} {l : List Nat} {k : Nat} {p : Place}
    {e : List Byte} (h : turfEnd s x d key l = some (k, .hit p e)) : p.tier = 2 := by
  have tier : ∀ {i : Nat} {f : Found}, (tfind x.turf i).map (readFound x ⟨2, i⟩) = some f → f = .hit p e → p.tier = 2 := by
    intro i f hf he
    obtain ⟨b, _, hb⟩ := Option.map_eq_some_iff.mp hf
    rw [readFound_hit (hb.trans he)]
  induction l with
  | nil => cases h
  | cons i l ih =>
    unfold turfEnd at h
    split at h
    next hf =>
      cases key <;> dsimp only at h <;> split at h
      · cases h
        exact tier hf rfl
      · exact ih h
      · cases h
        exact tier hf rfl
      · exact ih h
    next hf =>
      cases h
      exact tier hf rfl
    next => exact ih h

/-- A search that ends in the Hearth has found its way there; one that ends in the Stack has found none (R268). -/
theorem hearthFind_of_locate {s : State} {n : Nat} {d : Dword} {key : Option (List Byte)} {p : Place} {e : List Byte}
    (h : locate s n d key = .hit p e) :
    (p.tier = 0 ∧ ∃ w, hearthFind (slAt s n) d key = some (p.idx, w)) ∨
      p.tier ≠ 0 ∧ hearthFind (slAt s n) d key = none := by
  unfold locate at h
  dsimp only at h
  split at h
  next k w hw =>
    cases readFound_hit h
    exact .inl ⟨rfl, w, hw⟩
  next hn =>
    refine .inr ⟨?_, hn⟩
    split at h
    · cases h
    · split at h
      · cases readFound_hit h
        exact Nat.one_ne_zero
      · split at h
        · cases h
        · split at h
          · cases h
          · split at h
            next hf =>
              subst h
              rw [turfEnd_hit hf]
              decide
            · cases h

theorem tfind_of_hearthFind {x : Slice} {d : Dword} {key : Option (List Byte)} {k : Nat} {w : Way}
    (h : hearthFind x d key = some (k, w)) : tfind x.hearth k = some w := by
  unfold hearthFind at h
  split at h
  · cases h
  · split at h
    · cases h
    next v hv =>
      split at h
      · split at h
        · cases h
          exact hv
        · cases h
      · cases h
        exact hv

/-! ### Background work on a record of the Hearth -/

/-- The way of a Hearth once record `e` has been committed to it (R273, R274). -/
def committedWay (x : Slice) (w : Way) (e : List Byte) : Way :=
  { w with entry := withTag e, dirty := true, used := x.clock + 1 }

/-- A record of the Hearth is committed to its way, which becomes dirty and the most recent (R273). -/
theorem commitRecord_hearth {s : State} {n k : Nat} {w : Way} (d : Dword) (packet : Bool) (o e : List Byte)
    (hw : tfind (slAt s n).hearth k = some w) : (commitRecord n d ⟨0, k⟩ packet (some o) e s).flow =
      (setSl n { slAt s n with
        hearth := tput (slAt s n).hearth k (committedWay (slAt s n) w e), clock := (slAt s n).clock + 1 } s).flow := by
  unfold commitRecord
  rw [if_neg (by simp)]
  dsimp only
  rw [(markFollow_same ..).flow rfl, (emitDelta_same ..).flow rfl]
  unfold putAt
  dsimp only
  rw [hw]
  rfl

theorem seekIn_hearth {s : State} {n k : Nat} {d : Dword} {key : Option (List Byte)} {e : List Byte}
    (h : locate s n d key = .hit ⟨0, k⟩ e) :
    seekIn n d key false s = (touchWay n k s, .hit ⟨0, k⟩ e, 0) := by
  unfold seekIn seek
  rw [h]
  rfl

/-- Using a way of the Hearth changes its order alone (R272). -/
theorem slAt_touchWay {s : State} {n k : Nat} {w : Way} (h : tfind (slAt s n).hearth k = some w) :
    slAt (touchWay n k s) n = { slAt s n with
      hearth := tput (slAt s n).hearth k { w with used := (slAt s n).clock + 1 }, clock := (slAt s n).clock + 1 } := by
  unfold touchWay
  dsimp only
  rw [h]
  exact slAt_setSl_self ..

/-! ### Background work on a record that comes into an empty Hearth -/

theorem wayAt_empty {x : Slice} (h : x.hearth = []) (k : Nat) : wayAt x k = none := by
  unfold wayAt
  rw [h]
  simp [tfind]

theorem wayFor_empty {x : Slice} (s : State) (n : Nat) (d : Dword) (size : Nat) (hs : size = 1 ∨ size = 2)
    (h : x.hearth = []) : wayFor s n x d size = some (16 * hearthSet d) := by
  have ht : ∀ k, takable s n x k = true := fun k => by unfold takable; rw [wayAt_empty h]
  have hu : ∀ k, usedAt x k = 0 := fun k => by unfold usedAt; rw [wayAt_empty h]
  unfold wayFor
  obtain rfl | rfl := hs <;> simp [ht, hu, List.range_succ_eq_map]

/-- An entry that comes into an empty Hearth takes the first way of its set (R273). -/
theorem hearthInstall_empty {s : State} {n : Nat} (d : Dword) (e : List Byte) (slot : Nat) (dirty packet : Bool)
    (h : (slAt s n).hearth = []) : hearthInstall n d e slot dirty packet s =
      (setSl n { slAt s n with
        hearth := [(16 * hearthSet d,
          { digest := d, entry := e, dirty := dirty, slot := slot, used := (slAt s n).clock + 1 })]
        clock := (slAt s n).clock + 1 } s, true) := by
  have hv : victims (slAt s n) (16 * hearthSet d) (entrySlots e) = [] := by
    unfold victims
    simp [wayAt_empty h]
  unfold hearthInstall
  dsimp only
  rw [wayFor_empty s n d _ (by unfold entrySlots; split <;> simp) h]
  dsimp only
  rw [hv]
  simp [h, tput]

end Sys2Proof.Machine
end

section
/-! Proofs.  Expiry operations, and the statement on everything that waits (R39, R48, R50, R252, R320, R321). -/

namespace Sys2Proof.Machine

theorem entrySlots_ne_zero (e : List Byte) : entrySlots e ≠ 0 := by
  unfold entrySlots
  split <;> decide

/-- Background accesses to a pseudo-channel count against its share alone (R40, R262). -/
theorem slAt_useBack (n k c : Nat) (s : State) : slAt (useBack n k c s) n =
    { slAt s n with recUse := tput (slAt s n).recUse k (tgetD (fun _ => 0) (slAt s n).recUse k + c) } := by
  unfold useBack
  rw [slAt_congr ((slEvent_same ..).flow rfl)]
  exact slAt_modSl_self ..

theorem setSl_cmds (n : Nat) (x : Slice) (s : State) : (setSl n x s).flow.cmds = s.flow.cmds := rfl

theorem useBack_cmds (n k c : Nat) (s : State) : (useBack n k c s).flow.cmds = s.flow.cmds := by
  unfold useBack
  rw [(slEvent_same ..).flow rfl]
  rfl

theorem touchWay_cmds (n k : Nat) (s : State) : (touchWay n k s).flow.cmds = s.flow.cmds := by
  unfold touchWay
  dsimp only
  split <;> rfl

/-- A background lookup that ends in the Stack makes the accesses of its probe, and no other (R279, R294). -/
theorem lookupWork_stack (n k : Nat) (d : Dword) (key : Option (List Byte)) (e : List Byte) (s : State) :
    lookupWork n d key (.hit ⟨1, k⟩ e) s = useBack n (bucket0 (stackBuckets s) d % 8) (entrySlots e) s := by
  have hc : lookupCost s n d key (.hit ⟨1, k⟩ e) = (entrySlots e, 0, 0) := rfl
  unfold lookupWork
  rw [hc]
  exact if_neg (entrySlots_ne_zero e)

/-- The way of an entry that stands alone in its Hearth, in the first way of its set. -/
theorem wayOf_sole {x : Slice} {d : Dword} {w : Way} (h : x.hearth = [(16 * hearthSet d, w)]) (hw : w.digest = d) :
    wayOf x d = some (16 * hearthSet d) := by
  unfold wayOf
  rw [h]
  simp [List.range_succ_eq_map, tfind, hw]

theorem hearthFind_sole {x : Slice} {d : Dword} {w : Way} (h : x.hearth = [(16 * hearthSet d, w)]) (hw : w.digest = d) :
    hearthFind x d none = some (16 * hearthSet d, w) := by
  unfold hearthFind
  rw [wayOf_sole h hw, h]
  simp [tfind]

/-- The way that an entry of Stack slot `k` gets in an empty Hearth. -/
def firstWay (x : Slice) (d : Dword) (e : List Byte) (k : Nat) : Way :=
  { digest := d, entry := e, dirty := false, slot := k, used := x.clock + 1 }

/-- A record found in the Stack and installed in the Hearth is used there (R273). -/
theorem seekIn_installed {s s1 s2 : State} {n k j : Nat} {d : Dword} {key : Option (List Byte)} {e : List Byte} {again : Bool}
    (h : seek n d key again s = (s1, .hit ⟨1, k⟩ e)) (hi : hearthInstall n d e k false false s1 = (s2, true))
    (hw : wayOf (slAt s2 n) d = some j) : seekIn n d key again s = (s2, .hit ⟨0, j⟩ e, 1) := by
  unfold seekIn
  simp only [h, hi, hw]

/-- A background lookup that finds its record in the Stack brings it into an empty Hearth (R273, R285). -/
theorem seekIn_stack {s : State} {n k : Nat} {d : Dword} {key : Option (List Byte)} {e : List Byte}
    (h : locate s n d key = .hit ⟨1, k⟩ e) (hh : (slAt s n).hearth = []) :
    ∃ s', seekIn n d key false s = (s', .hit ⟨0, 16 * hearthSet d⟩ e, 1) ∧
      (slAt s' n).hearth = [(16 * hearthSet d, firstWay (slAt s n) d e k)] ∧ (slAt s' n).expiry = (slAt s n).expiry ∧
      s'.prm.regs = s.prm.regs ∧ s'.flow.cmds = s.flow.cmds := by
  have hu : slAt (useBack n (bucket0 (stackBuckets s) d % 8) (entrySlots e) s) n = _ := slAt_useBack ..
  have hi := hearthInstall_empty d e k false false (congrArg Slice.hearth hu |>.trans hh)
  have hseek : seek n d key false s = (useBack n (bucket0 (stackBuckets s) d % 8) (entrySlots e) s, .hit ⟨1, k⟩ e) := by
    unfold seek
    rw [h, ← lookupWork_stack n k d key e s]
    rfl
  refine ⟨_, seekIn_installed hseek hi (wayOf_sole (by rw [slAt_setSl_self]) rfl), ?_, ?_, ?_, ?_⟩
  · rw [slAt_setSl_self, hu]; rfl
  · rw [slAt_setSl_self, hu]
  · exact ((setSl_same ..).regs rfl).trans ((useBack_same ..).regs rfl)
  · exact (setSl_cmds ..).trans (useBack_cmds ..)

/-! ### The expiry operation -/

/-- Background work whose digest nothing holds, and whose record is not cold, runs at once (R240, R245). -/
theorem acceptBg_runs {s : State} {n k t : Nat} {op : FlowOp} {e : List Byte} (hf : flightAt s n op.digest = none)
    (h : locate s n op.digest op.key = .hit ⟨t, k⟩ e) (ht : t ≠ 2) : acceptBg n op s = runBg n op false s := by
  have hc : coldHit s n op = none := by
    unfold coldHit
    split
    · rw [h]
      split
      next hk => cases hk; exact absurd rfl ht
      next => rfl
    · rfl
  unfold acceptBg
  rw [hf]
  dsimp only
  rw [hc]
  rfl

/-- An expiry operation of a fired entry of its deadline disarms the record it finds, whose program stores no silence verdict
(R321, R324). -/
theorem runExpiry_disarms {s s1 : State} {n i : Nat} {d : Dword} {w : WheelEntry} {p : Place} {e : List Byte}
    (hw : wheelOf (slAt s n) d = some w) (hf : w.fired = true) (h : seekIn n d none false s = (s1, .hit p e, i))
    (hs : silences s1 e = false) :
    runExpiry n d w.deadline false s = commitRecord n d p false (some e) (putCtlField 7 7 0 e) s1 := by
  unfold runExpiry
  rw [hw]
  dsimp only
  rw [if_neg (by simp [hf]), h]
  dsimp only
  rw [if_neg (by simp [hs])]

theorem silences_congr {s t : State} (h : t.prm.regs = s.prm.regs) (e : List Byte) : silences t e = silences s e := by
  unfold silences reg; rw [h]

/-- The state in which the next expiry operation of a slice has been taken from its queue (R39). -/
def expiryTaken (n : Nat) (rest : List (Dword × Tick)) (s : State) : State :=
  slEvent n 0x3201 1 (useCycle n 1 (modSl n (fun x => { x with expiry := rest }) s))

theorem expiryTaken_same (n : Nat) (rest : List (Dword × Tick)) (s : State) : Same 262176 s (expiryTaken n rest s) :=
  (((modSl_same ..).trans (useCycle_same ..)).mono rfl).trans ((slEvent_same ..).mono rfl)

theorem expiryTaken_cmds (n : Nat) (rest : List (Dword × Tick)) (s : State) :
    (expiryTaken n rest s).flow.cmds = s.flow.cmds := by
  unfold expiryTaken
  rw [(slEvent_same ..).flow rfl]
  rfl

theorem slAt_expiryTaken (n : Nat) (rest : List (Dword × Tick)) (s : State) : slAt (expiryTaken n rest s) n =
    { slAt s n with
      expiry := rest, cycles := (slAt s n).cycles + 1
      ownUse := tput (slAt s n).ownUse 1 (tgetD (fun _ => 0) (slAt s n).ownUse 1 + 1) } := by
  unfold expiryTaken useCycle
  rw [slAt_congr ((slEvent_same ..).flow rfl), slAt_modSl_self, slAt_modSl_self]

section
variable {n : Fin 16} {s : State} {d : Dword} {t0 : Tick} {rest : List (Dword × Tick)} {w : WheelEntry} {k : Nat} {e : List Byte}

/-- Without work, without supervision or without a cycle of the sweep reservation no expiry operation runs (R39, R57). -/
theorem execExpiryOp_idle (h : (slAt s n).expiry = [] ∨ supervises s = false ∨ ownRoom s n 1 = 0) :
    execExpiryOp n s = .next s := by
  unfold execExpiryOp
  split
  next => rfl
  next d t rest he =>
    rw [if_pos]
    obtain h | h | h := h
    · rw [he] at h; cases h
    · simp [h]
    · simp [h]

/-- The next expiry operation is taken from the queue, uses a cycle and is accepted (R39, R320). -/
theorem execExpiryOp_takes (hv : supervises s = true) (hr : ownRoom s n 1 ≠ 0) (he : (slAt s n).expiry = (d, t0) :: rest) :
    execExpiryOp n s = .next (completeCmds (acceptBg n { kind := .expiry t0, key := none, digest := d }
      (useCycle n 1 (modSl n (fun x => { x with expiry := rest }) s)))) := by
  unfold execExpiryOp
  rw [he]
  dsimp only
  rw [if_neg (by simp [hv, hr])]

/-- Taking an expiry operation leaves the entries, what a search rests on, and the wheel. -/
theorem expiryTaken_locate (rest : List (Dword × Tick)) (s : State) (d : Dword) :
    locate (expiryTaken n rest s) n d none = locate s n d none ∧
      locate (useCycle n 1 (modSl n (fun x => { x with expiry := rest }) s)) n d none = locate s n d none := by
  have hy : slAt (useCycle n 1 (modSl n (fun x => { x with expiry := rest }) s)) n = _ := slAt_modSl_self ..
  rw [slAt_modSl_self] at hy
  have k := expiryTaken_same n rest s
  refine ⟨locate_congr d none (k.regs rfl) (k.sys rfl) (k.jnl rfl) ?_, locate_congr d none rfl rfl rfl ?_⟩
  · rw [slAt_expiryTaken]; exact ⟨rfl, rfl, rfl, rfl, rfl, rfl, rfl⟩
  · rw [hy]; exact ⟨rfl, rfl, rfl, rfl, rfl, rfl, rfl⟩

/-- An expiry operation of a fired entry of its deadline disarms the record that it brings to hand (R321). -/
theorem execExpiryOp_disarms {s1 : State} {t i : Nat} {p : Place} (hv : supervises s = true) (hr : ownRoom s n 1 ≠ 0)
    (he : (slAt s n).expiry = (d, t0) :: rest) (hf : flightAt s n d = none) (hw : wheelOf (slAt s n) d = some w)
    (hfd : w.fired = true) (hd : w.deadline = t0) (hl : locate s n d none = .hit ⟨t, k⟩ e) (ht : t ≠ 2)
    (hs : silences s1 e = false) (hx : seekIn n d none false (expiryTaken n rest s) = (s1, .hit p e, i)) :
    execExpiryOp n s = .next (completeCmds (commitRecord n d p false (some e) (putCtlField 7 7 0 e) s1)) := by
  have hy : slAt (useCycle n 1 (modSl n (fun x => { x with expiry := rest }) s)) n = _ := slAt_modSl_self ..
  rw [slAt_modSl_self] at hy
  rw [execExpiryOp_takes hv hr he, acceptBg_runs (k := k) (t := t) (e := e) ?_ ((expiryTaken_locate rest s d).2.trans hl) ht]
  · have hw' : wheelOf (slAt (expiryTaken n rest s) n) d = some w := by rw [slAt_expiryTaken]; exact hw
    rw [← runExpiry_disarms hw' hfd hx hs, hd]
    rfl
  · unfold flightAt
    rw [hy]
    exact hf

end

end Sys2Proof.Machine
end

section
/-! Proofs.  The statement on everything that waits (R39, R48, R50, R252, R320, R321). -/

namespace Sys2Proof.Machine

section
variable {n : Fin 16} {s : State} {d : Dword} {q : FlowReq} {op : FlowOp} {v : Nat}

/-- What the statement says of a result: one more for the packet's pipeline, with this verdict. -/
theorem AnsweredSole.result_of {s' t : State} (h : AnsweredSole n d q v s' t) (hr : s'.flow.results = s.flow.results) :
    ∃ r : FlowResult, r.pkt = q.pkt ∧ r.verdict = v ∧ tgetD (fun _ => []) t.flow.results (16 * q.pipe + n) =
      tgetD (fun _ => []) s.flow.results (16 * q.pipe + n) ++ [r] := by
  rw [← hr]
  exact h.result

variable (hi : s.flow.cmds = [])
include hi

/-- A creation that has waited long enough leaves its queue and is denied. -/
theorem execCreateExpired_denies {rest : List Dword} {f : Flight} {since : Tick} (hh : headOp s n d = some (f, op))
    (ho : f.ops = [op]) (hq : op.kind = .packet q) (hc : (slAt s n).createQ = d :: rest) (hf : f.phase = .createQ since)
    (hw : waitLimit s ≤ ticksSince s.tick.count since) (ha : overflowOf s q.template = 0) :
    ∃ t r, exec (.createExpired n) s = .next t ∧ (slAt t n).createQ = rest ∧ flightAt t n d = none ∧
      counter t (paddr 13 n 0x62) = min (counter s (paddr 13 n 0x62) + 1) (2 ^ 32 - 1) ∧ r.pkt = q.pkt ∧
      r.verdict = 1 ∧ tgetD (fun _ => []) t.flow.results (16 * q.pipe + n) =
        tgetD (fun _ => []) s.flow.results (16 * q.pipe + n) ++ [r] := by
  obtain ⟨hflow, hcount⟩ := creationGone_spec n rest op s
  have k := answeredSole_spec n d 1 (creationGone n rest op s) hq
  have e : execCreateExpired n s = .next (answeredSole n d op 1 (creationGone n rest op s)) := by
    unfold execCreateExpired
    rw [createExpired_denies hh ho hq hc hf hw ha, completeCmds_idle (k.cmds.trans ((congrArg Flow.cmds hflow).trans hi))]
  obtain ⟨r, hp, hv, hres⟩ := k.result_of (congrArg Flow.results hflow)
  refine ⟨_, r, e, ?_, k.flight, ?_, hp, hv, hres⟩
  · rw [k.createQ, slAt_congr hflow, slAt_modSl_self]
  · rw [counter_congr k.prm, hcount]

/-- A held operation that has waited long enough leaves its queue and meets its disposition. -/
theorem execHoldExpired_answers {rest : List Dword} {f : Flight} {since : Tick} {i : Nat} {e : List Byte}
    (hh : headOp s n d = some (f, op)) (ho : f.ops = [op]) (hq : op.kind = .packet q) (hc : (slAt s n).holdQ = d :: rest)
    (hf : f.phase = .hold i e since) (hw : waitLimit s ≤ ticksSince s.tick.count since) :
    ∃ t r, exec (.holdExpired n) s = .next t ∧ (slAt t n).holdQ = rest ∧ flightAt t n d = none ∧
      counter t (paddr 13 n 0x63) = min (counter s (paddr 13 n 0x63) + 1) (2 ^ 32 - 1) ∧ r.pkt = q.pkt ∧
      r.verdict = (if q.disp = 3 then 0 else 1) ∧ tgetD (fun _ => []) t.flow.results (16 * q.pipe + n) =
        tgetD (fun _ => []) s.flow.results (16 * q.pipe + n) ++ [r] := by
  obtain ⟨hflow, hcount⟩ := holdGone_spec n rest s
  have k := answeredSole_spec n d (if q.disp = 3 then 0 else 1) (holdGone n rest s) hq
  have e : execHoldExpired n s = .next (answeredSole n d op (if q.disp = 3 then 0 else 1) (holdGone n rest s)) := by
    unfold execHoldExpired
    rw [holdExpired_answers hh ho hq hc hf hw, completeCmds_idle (k.cmds.trans ((congrArg Flow.cmds hflow).trans hi))]
  obtain ⟨r, hp, hv, hres⟩ := k.result_of (congrArg Flow.results hflow)
  refine ⟨_, r, e, ?_, k.flight, ?_, hp, hv, hres⟩
  · rw [k.holdQ, slAt_congr hflow, slAt_modSl_self]
  · rw [counter_congr k.prm, hcount]

omit hi in
/-- A punt that has waited long enough leaves the punt table and is answered by PUNT_CTRL. -/
theorem execPuntTimeout_answers {p : Punt} {ps : List Punt} {f : Flight} (hh : headOp s n d = some (f, op))
    (ho : f.ops = [op]) (hq : op.kind = .packet q) (hp : (slAt s n).punts = p :: ps) (hd : p.digest = d)
    (hw : regField s 13 n 4 15 0 ≤ ticksSince s.tick.count p.since) :
    ∃ t r, exec (.puntTimeout n) s = .next t ∧ (∀ x ∈ (slAt t n).punts, x.digest ≠ d) ∧ flightAt t n d = none ∧
      counter t (paddr 13 n 0x4B) = min (counter s (paddr 13 n 0x4B) + 1) (2 ^ 32 - 1) ∧ r.pkt = q.pkt ∧
      r.verdict = (if regField s 13 n 4 17 16 = 1 then 0 else 1) ∧
      tgetD (fun _ => []) t.flow.results (16 * q.pipe + n) =
        tgetD (fun _ => []) s.flow.results (16 * q.pipe + n) ++ [r] := by
  subst hd
  obtain ⟨hflow, hcount⟩ := puntTold_spec n s
  obtain ⟨hdrop, hprm⟩ := dropPunt_flow n p.digest (puntTold n s)
  have k := answeredSole_spec n p.digest (if regField s 13 n 4 17 16 = 1 then 0 else 1)
    (dropPunt n p.digest (puntTold n s)) hq
  obtain ⟨r, hpk, hv, hres⟩ := k.result_of (hdrop.trans (congrArg Flow.results hflow))
  refine ⟨_, r, congrArg Host.Outcome.next (puntTimeout_answers hp (flightAt_of_headOp hh) ho hw), ?_, k.flight, ?_, hpk, hv,
    hres⟩
  · rw [k.punts]; exact dropPunt_punts _ _ _
  · rw [counter_congr k.prm, counter_congr hprm, hcount]

omit hi in
/-- The only entry of the wheel, due, fires and has its expiry operation queued. -/
theorem execWheelExamine_fires {w : WheelEntry} (hv : supervises s = true) (hw : (slAt s n).wheel = [w]) (hd : due s w = true) :
    ∃ t, exec (.wheelExamine n) s = .next t ∧ (slAt t n).wheel = [{ w with fired := true }] ∧
      (slAt t n).expiry = (slAt s n).expiry ++ [(w.digest, w.deadline)] ∧
      counter t (paddr 13 n 0x60) = min (counter s (paddr 13 n 0x60) + 1) (2 ^ 32 - 1) := by
  have hn : n.val < 1024 := by omega
  obtain ⟨hflow, hcount⟩ := fire_spec w s hn
  have hx : slAt (fire n w s) n = _ := (slAt_congr hflow n).trans (slAt_modSl_self ..)
  have e : execWheelExamine n s = .next (fire n w s) := by
    unfold execWheelExamine
    rw [if_pos hv, fireDue_sole 255 hw hd hn]
  refine ⟨_, e, ?_, ?_, hcount⟩
  · rw [hx, slAt_congr ((slCount_same ..).flow rfl), hw]
    simp
  · rw [hx, slAt_congr ((slCount_same ..).flow rfl)]

omit hi in
/-- With nothing due, or in a mode that supervises nothing, the wheel is not examined. -/
theorem execWheelExamine_idle (h : (∀ w ∈ (slAt s n).wheel, due s w = false) ∨ supervises s = false) :
    exec (.wheelExamine n) s = .next s := by
  show execWheelExamine n s = _
  unfold execWheelExamine
  split
  next hv =>
    obtain h | h := h
    · rw [fireDue_idle h]
    · rw [hv] at h; cases h
  next => rfl

section
variable {t0 : Tick} {rest : List (Dword × Tick)} {w : WheelEntry} {k : Nat} {e : List Byte}
variable (hv : supervises s = true) (hr : ownRoom s n 1 ≠ 0) (he : (slAt s n).expiry = (d, t0) :: rest)
  (hf : flightAt s n d = none) (hw : wheelOf (slAt s n) d = some w) (hfd : w.fired = true) (hd : w.deadline = t0)
  (hs : silences s e = false)
include hv hr he hf hw hfd hd hs

/-- The expiry operation of a record in the Hearth disarms it there. -/
theorem execExpiryOp_hearth (hl : locate s n d none = .hit ⟨0, k⟩ e) :
    ∃ t v, exec (.expiryOp n) s = .next t ∧ (slAt t n).expiry = rest ∧
      tfind (slAt t n).hearth k = some v ∧ v.entry = withTag (putCtlField 7 7 0 e) := by
  obtain ⟨v, hv0⟩ : ∃ v, tfind (slAt s n).hearth k = some v := by
    obtain ⟨-, v, h⟩ | ⟨h, -⟩ := hearthFind_of_locate hl
    · exact ⟨v, tfind_of_hearthFind h⟩
    · exact absurd rfl h
  have hx := slAt_expiryTaken n rest s
  have ht := slAt_touchWay (s := expiryTaken n rest s) (by rw [hx]; exact hv0)
  have hsk := seekIn_hearth ((expiryTaken_locate rest s d).1.trans hl)
  have hcm := (touchWay_cmds n k (expiryTaken n rest s)).trans ((expiryTaken_cmds n rest s).trans hi)
  have hre := ((touchWay_same n k (expiryTaken n rest s)).regs rfl).trans ((expiryTaken_same n rest s).regs rfl)
  generalize touchWay n k (expiryTaken n rest s) = s1 at ht hsk hcm hre
  obtain ⟨v1, hw1⟩ : ∃ v1, tfind (slAt s1 n).hearth k = some v1 := ⟨_, by rw [ht, tfind_tput, if_pos rfl]⟩
  have hflow := commitRecord_hearth d false e (putCtlField 7 7 0 e) hw1
  have hs1 : silences s1 e = false := (silences_congr hre e).trans hs
  have ex := execExpiryOp_disarms hv hr he hf hw hfd hd hl (by decide) hs1 hsk
  rw [completeCmds_idle ((congrArg Flow.cmds hflow).trans hcm)] at ex
  refine ⟨_, committedWay (slAt s1 n) v1 (putCtlField 7 7 0 e), ex, ?_, ?_, rfl⟩
  · rw [slAt_congr hflow, slAt_setSl_self, ht, hx]
  · rw [slAt_congr hflow, slAt_setSl_self, tfind_tput, if_pos rfl]

/-- The expiry operation of a record in the Stack disarms it in the empty Hearth into which it comes. -/
theorem execExpiryOp_stack (hl : locate s n d none = .hit ⟨1, k⟩ e) (hh : (slAt s n).hearth = []) :
    ∃ t i v, exec (.expiryOp n) s = .next t ∧ (slAt t n).expiry = rest ∧
      hearthFind (slAt t n) d none = some (i, v) ∧ v.entry = withTag (putCtlField 7 7 0 e) := by
  have hx := slAt_expiryTaken n rest s
  obtain ⟨s1, hsk, hhe, hex, hre, hcm⟩ := seekIn_stack ((expiryTaken_locate rest s d).1.trans hl) (by rw [hx]; exact hh)
  have hw1 : tfind (slAt s1 n).hearth (16 * hearthSet d) = some (firstWay (slAt (expiryTaken n rest s) n) d e k) := by
    rw [hhe]; simp [tfind]
  have hflow := commitRecord_hearth d false e (putCtlField 7 7 0 e) hw1
  have hs1 : silences s1 e = false := by
    rw [silences_congr (hre.trans ((expiryTaken_same ..).regs rfl))]
    exact hs
  have ex := execExpiryOp_disarms hv hr he hf hw hfd hd hl (by decide) hs1 hsk
  rw [completeCmds_idle ((congrArg Flow.cmds hflow).trans (hcm.trans ((expiryTaken_cmds ..).trans hi)))] at ex
  refine ⟨_, 16 * hearthSet d,
    committedWay (slAt s1 n) (firstWay (slAt (expiryTaken n rest s) n) d e k) (putCtlField 7 7 0 e), ex, ?_, ?_, rfl⟩
  · rw [slAt_congr hflow, slAt_setSl_self, hex, hx]
  · rw [slAt_congr hflow, slAt_setSl_self]
    exact hearthFind_sole (by rw [hhe]; simp [tput]) rfl

end

end

/-- Settles O43: each operation of its own, where it has waited long enough and where it has not. -/
theorem waitingOperationsAreResolvedInTime : Obligations.WaitingOperationsAreResolvedInTime := by
  intro n s hi
  refine ⟨fun d rest f op q since hh ho hq => ⟨fun hc hf => ⟨fun hw => ?_, fun hw ha => ?_⟩,
    fun k e hc hf => ⟨fun hw => ?_, fun hw => ?_⟩, fun p ps hp hd => ⟨fun hw => ?_, fun hw => ?_⟩⟩,
    execWheelExamine_idle, fun w hv hw hd => execWheelExamine_fires hv hw hd, execExpiryOp_idle,
    fun d t0 rest w k e hv hr he hf hw hfd hd hs => ⟨fun hl => ?_, fun hl hh => ?_⟩⟩
  · show execCreateExpired n s = _
    rw [execCreateExpired, createExpired_waits hh hc hf hw, completeCmds_idle hi]
  · exact execCreateExpired_denies hi hh ho hq hc hf hw ha
  · show execHoldExpired n s = _
    rw [execHoldExpired, holdExpired_waits hh hc hf hw, completeCmds_idle hi]
  · exact execHoldExpired_answers hi hh ho hq hc hf hw
  · show execPuntTimeout n s = _
    rw [execPuntTimeout, puntTimeout_waits hp hw]
  · exact execPuntTimeout_answers hh ho hq hp hd hw
  · exact execExpiryOp_hearth hi hv hr he hf hw hfd hd hs hl
  · exact execExpiryOp_stack hi hv hr he hf hw hfd hd hs hl hh

end Sys2Proof.Machine
end

section
/-! Proofs.  The rules of a port's state: what a port's record, a setting, a counter and the events read after each operation
that the port commands share, and which of them change lanes alone (R74, R88 to R91, R104 to R106). -/

namespace Sys2Proof.Machine

/-! ### Settings -/

/-- A setting reads the same where the settings are the same. -/
theorem reg_congr {s t : State} (h : t.prm.regs = s.prm.regs) (c i w : Nat) : reg t c i w = reg s c i w := by
  unfold reg; rw [h]

@[simp] theorem reg_setReg_self (c i w : Nat) (v : Word) (s : State) : reg (setReg c i w v s) c i w = v := tgetD_tput_self ..

theorem reg_setReg_ne {c i w c' i' w' : Nat} (v : Word) (s : State) (h : paddr c' i' w' ≠ paddr c i w) :
    reg (setReg c i w v s) c' i' w' = reg s c' i' w' := tgetD_tput_ne _ _ _ h

theorem bitOf_toNat {w : Nat} (v : BitVec w) (i : Nat) : bitOf v.toNat i = v.getLsbD i := by
  rw [bitOf, BitVec.getLsbD, Nat.testBit_eq_decide_div_mod_eq]
  exact Bool.beq_eq_decide_eq ..

/-- The entry state of a port, by the bits of its CTRL word (R85). -/
theorem entryState_eq (s : State) (n : Nat) : entryState s n =
    if (reg s 5 n 0).getLsbD 1 then .an else if (reg s 5 n 0).getLsbD 2 then .train else .align := by
  unfold entryState
  simp only [bitOf_toNat]

theorem entryState_congr {s t : State} (h : t.prm.regs = s.prm.regs) (n : Nat) : entryState t n = entryState s n := by
  unfold entryState; rw [reg_congr h]

theorem portCode_congr {s t : State} (h : t.prm.regs = s.prm.regs) (n : Nat) : portCode t n = portCode s n := by
  unfold portCode regField; rw [reg_congr h, reg_congr h]

theorem portExists_congr {s t : State} (h : t.prm.regs = s.prm.regs) (n : Nat) : portExists t n = portExists s n := by
  unfold portExists; rw [portCode_congr h]

theorem portEnabled_congr {s t : State} (h : t.prm.regs = s.prm.regs) (hs : t.sys = s.sys) (n : Nat) :
    portEnabled t n = portEnabled s n := by
  unfold portEnabled inService unitState unitRec; rw [reg_congr h, hs]

/-! ### Records of ports -/

@[simp] theorem portAt_setPort_self (n : Nat) (x : Port) (s : State) : portAt (setPort n x s) n = x := tgetD_tput_self ..

/-- Putting a port's record leaves every other port. -/
theorem otherPorts_setPort (n : Nat) (x : Port) (s : State) : OtherPorts n s (setPort n x s) := fun _ h =>
  tgetD_tput_ne _ _ _ h

/-- A port reads the same where the records of ports are the same. -/
theorem portAt_congr {s t : State} (h : t.ports.port = s.ports.port) (n : Nat) : portAt t n = portAt s n := by
  unfold portAt; rw [h]

theorem OtherPorts.of_eq {n : Nat} {s t : State} (h : t.ports.port = s.ports.port) : OtherPorts n s t := fun m _ =>
  portAt_congr h m

theorem OtherPorts.trans {n : Nat} {a b c : State} (h : OtherPorts n a b) (k : OtherPorts n b c) : OtherPorts n a c :=
  fun m hm => (k m hm).trans (h m hm)

/-! ### Events and counters -/

/-- One event raised after steps that raise none is the one event of them all. -/
theorem raise_raised {r s : State} (code : Nat) (d : List Byte) (h : s.toune.events = r.toune.events) :
    Raised [(code, d)] r (raise code d s) := ⟨_, congrArg (· ++ _) h, rfl⟩

theorem raise_lastRaised (code : Nat) (d : List Byte) (s : State) : LastRaised code d (raise code d s) := by
  simp [LastRaised, raise]

/-- What has been raised stands while nothing more is raised. -/
theorem Raised.of_after {evs : List (Nat × List Byte)} {s t u : State} (h : Raised evs s t) (e : u.toune = t.toune) :
    Raised evs s u := by
  unfold Raised at *; rw [e]; exact h

/-- A count stands while its counter stands. -/
theorem Counted.of_after {c n i k : Nat} {s t u : State} (h : Counted c n i k s t)
    (e : counter u (paddr c n (0x100 + 2 * i)) = counter t (paddr c n (0x100 + 2 * i))) : Counted c n i k s u := e.trans h

/-- A count made after steps that leave its counter is a count from before them. -/
theorem Counted.of_before {c n i k : Nat} {r s t : State} (h : Counted c n i k s t)
    (e : counter s (paddr c n (0x100 + 2 * i)) = counter r (paddr c n (0x100 + 2 * i))) : Counted c n i k r t := by
  unfold Counted at *; rw [h, e]

theorem bump48_counted (c n i k : Nat) (s : State) : Counted c n i k s (bump48 c n i k s) :=
  (counter_bump ..).trans (if_pos rfl)

/-- One of a unit's counters counts without the others. -/
theorem counter_bump48_ne {i j : Nat} (c n k : Nat) (s : State) (h : i ≠ j) :
    counter (bump48 c n j k s) (paddr c n (0x100 + 2 * i)) = counter s (paddr c n (0x100 + 2 * i)) :=
  (counter_bump ..).trans (if_neg (by unfold paddr; omega))

/-! ### Operations on lanes -/

/-- Between two states nothing but lanes has changed. -/
def OnlyLanes (s t : State) : Prop := ∃ l, t = s.setPorts { s.ports with lane := l }

theorem OnlyLanes.rfl' (s : State) : OnlyLanes s s := ⟨s.ports.lane, rfl⟩

theorem OnlyLanes.trans {a b c : State} (h : OnlyLanes a b) (k : OnlyLanes b c) : OnlyLanes a c := by
  obtain ⟨l, rfl⟩ := h
  obtain ⟨m, rfl⟩ := k
  exact ⟨m, rfl⟩

theorem OnlyLanes.foldl {α : Type} {g : State → α → State} (h : ∀ s a, OnlyLanes s (g s a)) (l : List α) (s : State) :
    OnlyLanes s (l.foldl g s) := by
  induction l generalizing s with
  | nil => exact OnlyLanes.rfl' s
  | cons a l ih => exact (h s a).trans (ih (g s a))

theorem OnlyLanes.same {s t : State} (h : OnlyLanes s t) : Same 1024 s t := by
  obtain ⟨l, rfl⟩ := h
  exact Same.setPorts ..

theorem OnlyLanes.port {s t : State} (h : OnlyLanes s t) : t.ports.port = s.ports.port := by
  obtain ⟨l, rfl⟩ := h
  rfl

theorem OnlyLanes.fifo {s t : State} (h : OnlyLanes s t) : t.ports.fifo = s.ports.fifo := by
  obtain ⟨l, rfl⟩ := h
  rfl

theorem OnlyLanes.portAt {s t : State} (h : OnlyLanes s t) (n : Nat) : portAt t n = portAt s n := portAt_congr h.port n

theorem OnlyLanes.others {s t : State} (h : OnlyLanes s t) (n : Nat) : OtherPorts n s t := .of_eq h.port

theorem setLane_onlyLanes (k : Nat) (l : Lane) (s : State) : OnlyLanes s (setLane k l s) := ⟨_, rfl⟩

theorem lanesIdle_onlyLanes (n code : Nat) (idle : Bool) (s : State) : OnlyLanes s (lanesIdle n code idle s) := by
  refine OnlyLanes.foldl (fun s k => ?_) _ s
  dsimp only
  split
  · exact (setLane_onlyLanes ..).trans (setLane_onlyLanes ..)
  · exact setLane_onlyLanes ..

theorem lanesStart_onlyLanes (n code : Nat) (s : State) : OnlyLanes s (lanesStart n code s) :=
  OnlyLanes.foldl (fun _ _ => (setLane_onlyLanes ..).trans (setLane_onlyLanes ..)) _ s

theorem lanesLost_onlyLanes (n code : Nat) (signal : Bool) (s : State) : OnlyLanes s (lanesLost n code signal s) :=
  OnlyLanes.foldl (fun _ _ => setLane_onlyLanes ..) _ s

theorem lanesUp_onlyLanes (n code : Nat) (rx : List Lane) (s : State) : OnlyLanes s (lanesUp n code rx s) :=
  OnlyLanes.foldl (fun _ _ => (setLane_onlyLanes ..).trans ((setLane_onlyLanes ..).trans (setLane_onlyLanes ..))) _ s

theorem causeLanes_onlyLanes (n cause : Nat) (s : State) : OnlyLanes s (causeLanes n cause s) := by
  unfold causeLanes
  split
  · exact lanesLost_onlyLanes ..
  · exact OnlyLanes.rfl' s

theorem askTap_onlyLanes (n code : Nat) (q : TapRequest) (s : State) : OnlyLanes s (askTap n code q s) := by
  unfold askTap
  split
  · exact OnlyLanes.rfl' s
  · exact setLane_onlyLanes ..

end Sys2Proof.Machine
end

section
/-! Proofs.  Pauses that ports send, and copies that a port abandons: what both leave of the ports' records and of the count of
discarded frames (R98, R105, R352, R356, R357). -/

namespace Sys2Proof.Machine

/-! ### What changes at most -/

/-- Between two states the ports of `ns` have at most begun or ended pauses that they send; every other port, and the count of
frames that each port has discarded in reception (RX_ABORTED, counter 6), is as it was. -/
structure SendsPauses (ns : Nat → Prop) (s t : State) : Prop where
  others : ∀ m, ¬ ns m → portAt t m = portAt s m
  port : ∀ m, ∃ xo, portAt t m = { portAt s m with xoff := xo }
  aborted : ∀ m, m < 130 → counter t (paddr 5 m 0x10C) = counter s (paddr 5 m 0x10C)

variable {ns : Nat → Prop} {s t : State}

/-- A step that leaves the records of ports and RX_ABORTED. -/
theorem SendsPauses.of_eq (hp : t.ports.port = s.ports.port)
    (hc : ∀ m, m < 130 → counter t (paddr 5 m 0x10C) = counter s (paddr 5 m 0x10C)) : SendsPauses ns s t :=
  ⟨fun m _ => portAt_congr hp m, fun m => ⟨(portAt s m).xoff, portAt_congr hp m⟩, hc⟩

/-- A step whose footprint holds neither the ports nor the counters. -/
theorem SendsPauses.of_same {w : Nat} (h : Same w s t) (hp : w.testBit 10 = false) (hc : w.testBit 5 = false) :
    SendsPauses ns s t :=
  .of_eq (congrArg Ports.port (h.ports hp)) fun _ _ => counter_congr (h.prm hc) _

theorem SendsPauses.rfl' (s : State) : SendsPauses ns s s := .of_eq rfl fun _ _ => rfl

theorem SendsPauses.trans {a b c : State} (h : SendsPauses ns a b) (k : SendsPauses ns b c) : SendsPauses ns a c := by
  refine ⟨fun m hm => (k.others m hm).trans (h.others m hm), fun m => ?_, fun m hm => (k.aborted m hm).trans (h.aborted m hm)⟩
  obtain ⟨x, hx⟩ := h.port m
  obtain ⟨y, hy⟩ := k.port m
  exact ⟨y, by rw [hy, hx]⟩

theorem SendsPauses.foldl {α : Type} {g : State → α → State} (h : ∀ s a, SendsPauses ns s (g s a)) (l : List α) (s : State) :
    SendsPauses ns s (l.foldl g s) := by
  induction l generalizing s with
  | nil => exact .rfl' s
  | cons a l ih => exact (h s a).trans (ih (g s a))

/-- A port of `ns` gets another list of pauses sent. -/
theorem setXoff_sendsPauses {n : Nat} (h : ns n) (xo : Table Dword) (s : State) :
    SendsPauses ns s (setPort n { portAt s n with xoff := xo } s) := by
  refine ⟨fun m hm => otherPorts_setPort n _ s m fun e => hm (e ▸ h), fun m => ?_, fun _ _ => rfl⟩
  by_cases e : m = n
  · subst e
    exact ⟨xo, portAt_setPort_self ..⟩
  · exact ⟨(portAt s m).xoff, otherPorts_setPort n _ s m e⟩

/-! ### Counters other than RX_ABORTED -/

/-- A write of any counter that is not some port's RX_ABORTED. -/
theorem putCount_sendsPauses {a : Nat} (h : ∀ m, m < 130 → paddr 5 m 0x10C ≠ a) (v : Nat) (s : State) :
    SendsPauses ns s (s.setPrm { s.prm with counts := tput s.prm.counts a v }) :=
  .of_eq rfl fun m hm => tgetD_tput_ne _ _ _ (h m hm)

/-- A class behind that of the ports counts. -/
theorem bump_sendsPauses {c : Nat} (h : 6 ≤ c) (bits i w k : Nat) (s : State) : SendsPauses ns s (bump bits c i w k s) :=
  putCount_sendsPauses (fun m hm => by unfold paddr; omega) _ s

/-- A port counts in another counter than RX_ABORTED. -/
theorem bump48_sendsPauses {i : Nat} (h : i < 64) (h6 : i ≠ 6) (n k : Nat) (s : State) :
    SendsPauses ns s (bump48 5 n i k s) :=
  putCount_sendsPauses (fun m hm => by unfold paddr; omega) _ s

theorem countEvent_sendsPauses (i c code k : Nat) (s : State) : SendsPauses ns s (countEvent i c code k s) := by
  refine SendsPauses.foldl (fun s j => ?_) _ s
  dsimp only
  split
  · exact putCount_sendsPauses (fun m hm => by unfold paddr; omega) _ s
  · exact .rfl' s

/-! ### Pauses -/

theorem transmit_sendsPauses (f : TxFrame) (s : State) : SendsPauses ns s (transmit f s) := .of_eq rfl fun _ _ => rfl

theorem drawn_sendsPauses (s : State) : SendsPauses ns s (drawn s) := .of_eq rfl fun _ _ => rfl

theorem sendPause_sendsPauses (n prio quanta : Nat) (s : State) : SendsPauses ns s (sendPause n prio quanta s) :=
  ((transmit_sendsPauses ..).trans (bump48_sendsPauses (by decide) (by decide) ..)).trans (drawn_sendsPauses _)

theorem settlePause_sendsPauses {n : Nat} (h : ns n) (prio : Nat) (s : State) :
    SendsPauses ns s (settlePause n prio s) := by
  unfold settlePause
  dsimp only
  split
  · split
    · exact setXoff_sendsPauses h ..
    · exact .rfl' s
  · split
    · exact ((setXoff_sendsPauses h ..).trans (drawn_sendsPauses _)).trans (sendPause_sendsPauses ..)
    · split
      · split
        · exact setXoff_sendsPauses h ..
        · exact (setXoff_sendsPauses h ..).trans (sendPause_sendsPauses ..)
      · exact .rfl' s

/-- A port that brings its pauses into line leaves every other port. -/
theorem settlePauses_sendsPauses (n : Nat) (s : State) : SendsPauses (· = n) s (settlePauses n s) :=
  SendsPauses.foldl (fun _ _ => settlePause_sendsPauses (ns := (· = n)) rfl ..) _ s

/-! ### Captures and samples -/

theorem capture_sendsPauses (die : Nat) (x : Seen) (s : State) : SendsPauses ns s (capture die x s) := by
  refine SendsPauses.foldl (fun s r => ?_) _ s
  dsimp only
  split
  · exact (SendsPauses.of_same (setRing_same ..) rfl rfl).trans (.of_same (Same.setJnl ..) rfl rfl)
  · exact ((SendsPauses.of_same (setRing_same ..) rfl rfl).trans (bump_sendsPauses (by decide) ..)).trans
      (.of_same (raiseLimited_same ..) rfl rfl)

theorem writeSample_sendsPauses (p : Nat) (body : List Byte) (s : State) : SendsPauses ns s (writeSample p body s) :=
  (SendsPauses.of_same (setSmp_same ..) rfl rfl).trans (countEvent_sendsPauses ..)

theorem record_sendsPauses (x : Packet) (out : Option Departed) (outcome stages : Nat) (s : State) :
    SendsPauses ns s (record x out outcome stages s) := by
  unfold record
  extract_lets die s1 cause
  have h : SendsPauses ns s s1 := capture_sendsPauses ..
  split
  · exact h
  · exact (h.trans (writeSample_sendsPauses ..)).trans (drawn_sendsPauses _)

/-! ### Cells and copies -/

theorem setBuf_sendsPauses (x : Buf) (s : State) : SendsPauses ns s (s.setBuf x) := .of_same (Same.setBuf ..) rfl rfl

theorem releaseOwners_sendsPauses (d : Nat) (s : State) : SendsPauses (fun _ => True) s (releaseOwners d s) := by
  refine SendsPauses.foldl (fun s o => ?_) _ s
  dsimp only
  split
  · exact (SendsPauses.of_same (setBm_same ..) rfl rfl).trans (settlePause_sendsPauses trivial ..)
  · exact .rfl' s

theorem discharge_sendsPauses (c : Charge) (s : State) : SendsPauses (fun _ => True) s (discharge c s) :=
  (((SendsPauses.of_same (setBm_same ..) rfl rfl).trans (.of_same (poolEpisodes_same ..) rfl rfl)).trans
    (releaseOwners_sendsPauses ..)).trans (releaseOwners_sendsPauses ..)

theorem bufferGone_sendsPauses (k : Nat) (x : Stored) (s : State) : SendsPauses ns s (bufferGone k x s) := by
  unfold bufferGone
  split
  · split
    · exact setBuf_sendsPauses ..
    · have h : SendsPauses ns s (delPkt k (s.setBuf { s.buf with stored := terase s.buf.stored k })) :=
        (setBuf_sendsPauses ..).trans (.of_same (delPkt_same ..) rfl rfl)
      dsimp only
      split
      · exact h
      · exact h.trans (record_sendsPauses ..)
  · exact setBuf_sendsPauses ..

theorem putStored_sendsPauses (k : Nat) (x : Stored) (s : State) : SendsPauses (fun _ => True) s (putStored k x s) := by
  refine SendsPauses.trans ?_ (SendsPauses.foldl (fun _ _ => discharge_sendsPauses ..) _ _)
  split
  · exact bufferGone_sendsPauses ..
  · exact setBuf_sendsPauses ..

theorem dropCopy_sendsPauses (k : Nat) (dest : CopyDest) (s : State) : SendsPauses (fun _ => True) s (dropCopy k dest s) := by
  unfold dropCopy
  split
  · exact putStored_sendsPauses ..
  · exact .rfl' s

theorem firstCopy_sendsPauses (k n : Nat) (x : Packet) (y : Stored) (stamp : Dword) (cut : Bool) (s : State) :
    SendsPauses ns s (firstCopy k n x y stamp cut s) := by
  unfold firstCopy
  split
  · exact .rfl' s
  · exact (setBuf_sendsPauses ..).trans (record_sendsPauses ..)

/-- A frame that is ended with an inverted check sequence takes its copy with it (R96, R356). -/
theorem stompSending_sendsPauses (n : Nat) (s : State) : SendsPauses (fun _ => True) s (stompSending n s) := by
  unfold stompSending
  dsimp only
  split
  · exact .rfl' s
  · have h : ∀ f x, SendsPauses (fun _ => True) s (setEgr n x (transmit f (bump48 5 n 11 1 s))) := fun f x =>
      ((bump48_sendsPauses (by decide) (by decide) ..).trans (transmit_sendsPauses ..)).trans
        (.of_same (setEgr_same ..) rfl rfl)
    refine SendsPauses.trans ?_ (dropCopy_sendsPauses ..)
    split
    · exact ((h ..).trans (firstCopy_sendsPauses ..)).trans (drawn_sendsPauses _)
    · exact h ..

theorem countAbandoned_sendsPauses (n : Nat) (s : State) : SendsPauses ns s (countAbandoned n s) :=
  (bump_sendsPauses (by decide) ..).trans (.of_same (raiseLimited_same ..) rfl rfl)

/-- A port that abandons its copies changes no port but for the pauses that end with the cells released (R352, R356, R357). -/
theorem abandonPort_sendsPauses (n : Nat) (s : State) : SendsPauses (fun _ => True) s (abandonPort n s) :=
  (SendsPauses.foldl (fun _ _ => ((SendsPauses.of_same (unqueue_same ..) rfl rfl).trans
    (countAbandoned_sendsPauses ..)).trans (dropCopy_sendsPauses ..)) _ s).trans (stompSending_sendsPauses ..)

end Sys2Proof.Machine
end

section
/-! Proofs.  Link start-up: AN, TRAIN and ALIGN (R85, R86, R104, R106). -/

namespace Sys2Proof.Machine

/-! ### Starting again -/

/-- A port that starts again takes what `Port.enter` gives it for its entry state (R85). -/
theorem portAt_restartPort (n : Nat) (s : State) :
    portAt (restartPort n s) n = (portAt s n).enter s n (entryState s n) (portCode s n) :=
  ((lanesStart_onlyLanes ..).portAt n).trans (portAt_setPort_self ..)

theorem restartPort_others (n : Nat) (s : State) : OtherPorts n s (restartPort n s) :=
  (otherPorts_setPort _ _ _).trans ((lanesStart_onlyLanes ..).others n)

/-! ### Auto-negotiation -/

section
variable {n code : Nat} {s : State}

theorem anResolved_idle (h : (portAt s n).st ≠ .an) (tr : Bool) (fec : Nat) : anResolved n code tr fec s = s :=
  if_pos (.inl h)

/-- A mode that auto-negotiation resolved is the port's, and training follows where it is on. -/
theorem anResolved_takes (h : (portAt s n).st = .an) (ha : anCode code = true)
    (hc : code = portCode s n ∨ codeLanes code < codeLanes (portCode s n)) (tr : Bool) (fec : Nat) :
    (portAt (anResolved n code tr fec s) n).st = (if tr then .train else .align) ∧
      (portAt (anResolved n code tr fec s) n).mode = code ∧
      (portAt (anResolved n code tr fec s) n).anFec = some fec ∧ OtherPorts n s (anResolved n code tr fec s) := by
  have hl := ((lanesIdle_onlyLanes n (portCode s n) true s).trans (lanesIdle_onlyLanes n code false _)).trans
    (lanesStart_onlyLanes n code _)
  unfold anResolved
  dsimp only
  rw [if_neg (by simp [h, ha, hc]), portAt_setPort_self]
  exact ⟨rfl, rfl, rfl, (hl.others n).trans (otherPorts_setPort _ _ _)⟩

theorem anNoCommon_idle (h : (portAt s n).st ≠ .an ∨ (portAt s n).anEpisode = true) (ab : Nat) :
    anNoCommon n ab s = s := if_pos h

/-- The first pages without a common technology begin the episode. -/
theorem anNoCommon_first (h : (portAt s n).st = .an) (he : (portAt s n).anEpisode = false) (ab : Nat) :
    anNoCommon n ab s =
      raise Ev.anNoCommon (le 2 n ++ le 8 ab) (setPort n { portAt s n with anEpisode := true } s) :=
  if_neg (by simp [h, he])

end

/-! ### Training -/

section
variable {n : Nat} {s : State}

theorem trainDone_idle (h : (portAt s n).st ≠ .train) (q : List TapRequest) : trainDone n q s = s := if_pos h

/-- The partner's requests move taps of lanes alone; then the port aligns. -/
theorem trainDone_aligns (h : (portAt s n).st = .train) (q : List TapRequest) :
    (portAt (trainDone n q s) n).st = .align ∧ (portAt (trainDone n q s) n).fails = 0 ∧ OtherPorts n s (trainDone n q s) := by
  have hl : OnlyLanes s (q.foldl (fun t q => askTap n (portAt s n).mode q t) s) :=
    OnlyLanes.foldl (fun _ _ => askTap_onlyLanes ..) _ _
  unfold trainDone
  dsimp only
  rw [if_neg (by simp [h]), portAt_setPort_self]
  exact ⟨rfl, rfl, (hl.others n).trans (otherPorts_setPort _ _ _)⟩

theorem trainTimeout_idle (h : (portAt s n).st ≠ .train) : trainTimeout n s = s := if_pos h

/-- The state to which a failed training returns (R85). -/
def trainBack (s : State) (n : Nat) : PortState := if bitOf (reg s 5 n 0).toNat 1 then .an else .train

/-- A failed training but for its event: the port starts again, and TRAIN_FAIL, counter 15, counts (R85). -/
def trainFailed (n : Nat) (s : State) : State :=
  let m := if trainBack s n = .an then portCode s n else (portAt s n).mode
  bump48 5 n 15 1 (lanesStart n m
    (setPort n { (portAt s n).enter s n (trainBack s n) m with fails := (portAt s n).fails + 1 } s))

/-- Every TRAIN_RETRY failures in a row there is an event (R104). -/
theorem trainTimeout_eq (h : (portAt s n).st = .train) : trainTimeout n s =
    if ((portAt s n).fails + 1) % trainRetry s n = 0 then
      raise Ev.linkTrainFail (le 2 n ++ le 4 ((portAt s n).fails + 1)) (trainFailed n s)
    else trainFailed n s := if_neg (by simp [h])

theorem trainFailed_toune (n : Nat) (s : State) : (trainFailed n s).toune = s.toune :=
  (lanesStart_onlyLanes ..).same.toune rfl

/-- Whether there is an event or not, the port and its counter are those of a failed training. -/
theorem trainTimeout_failed (h : (portAt s n).st = .train) :
    (trainTimeout n s).ports = (trainFailed n s).ports ∧ (trainTimeout n s).prm = (trainFailed n s).prm := by
  rw [trainTimeout_eq h]
  split <;> exact ⟨rfl, rfl⟩

theorem portAt_trainFailed (n : Nat) (s : State) :
    (portAt (trainFailed n s) n).st = trainBack s n ∧ (portAt (trainFailed n s) n).fails = (portAt s n).fails + 1 := by
  have e : portAt (trainFailed n s) n = _ := ((lanesStart_onlyLanes ..).portAt n).trans (portAt_setPort_self ..)
  rw [e]
  exact ⟨rfl, rfl⟩

theorem trainFailed_others (n : Nat) (s : State) : OtherPorts n s (trainFailed n s) :=
  (otherPorts_setPort _ _ _).trans ((lanesStart_onlyLanes ..).others n)

theorem trainFailed_counted (n : Nat) (s : State) : Counted 5 n 15 1 s (trainFailed n s) :=
  (bump48_counted ..).of_before (counter_congr ((lanesStart_onlyLanes ..).same.prm rfl) _)

end

/-! ### Alignment -/

section
variable {n : Nat} {s : State}

theorem linkUp_idle (h : (portAt s n).st ≠ .align) (rx : List Lane) : linkUp n rx s = s := if_pos h

theorem alignTimeout_idle (h : (portAt s n).st ≠ .align ∨ ticksSince s.tick.count (portAt s n).since < 100000) :
    alignTimeout n s = s := if_pos h

theorem alignTimeout_restarts (h : (portAt s n).st = .align) (hw : 100000 ≤ ticksSince s.tick.count (portAt s n).since) :
    alignTimeout n s = restartPort n s := if_neg (by simp [h, hw])

/-- The record of a port that comes UP from ALIGN (R85). -/
def upRecord (s : State) (n : Nat) : Port :=
  { portAt s n with
    st := .up, fec := fecOf s n (portAt s n).mode, since := s.tick.count, fails := 0
    localFault := false, remoteFault := false, downSince := none, flushed := false, admitAt := s.tick.count + 1 }

/-- A port that comes UP, before its pauses and its event. -/
def risen (n : Nat) (rx : List Lane) (s : State) : State :=
  calAtLinkUp n (lanesUp n (portAt s n).mode rx (setPort n (upRecord s n) s))

theorem linkUp_eq (h : (portAt s n).st = .align) (rx : List Lane) : linkUp n rx s =
    raise Ev.linkUp (le 2 n ++ le 1 (portAt s n).mode ++ le 1 (fecOf s n (portAt s n).mode) ++
      le 8 (s.tick.count + 1).toNat) (settlePauses n (risen n rx s)) := if_neg (by simp [h])

theorem risen_port (n : Nat) (rx : List Lane) (s : State) :
    (risen n rx s).ports.port = (setPort n (upRecord s n) s).ports.port :=
  (congrArg Ports.port ((calAtLinkUp_same ..).ports rfl)).trans (lanesUp_onlyLanes ..).port

/-- A port that comes UP has its record but for the pauses that it begins to send. -/
theorem portAt_linkUp (h : (portAt s n).st = .align) (rx : List Lane) :
    ∃ xo, portAt (linkUp n rx s) n = { upRecord s n with xoff := xo } := by
  obtain ⟨xo, hx⟩ := (settlePauses_sendsPauses n (risen n rx s)).port n
  rw [portAt_congr (risen_port n rx s), portAt_setPort_self] at hx
  exact ⟨xo, by rw [linkUp_eq h]; exact hx⟩

theorem linkUp_others (h : (portAt s n).st = .align) (rx : List Lane) : OtherPorts n s (linkUp n rx s) := by
  have ho : OtherPorts n s (risen n rx s) := (otherPorts_setPort n (upRecord s n) s).trans (.of_eq (risen_port n rx s))
  rw [linkUp_eq h]
  exact ho.trans (settlePauses_sendsPauses n (risen n rx s)).others

end

/-! ### The statement -/

/-- Settles O30: in each of the three states, the event that takes the port on and the one that does not. -/
theorem linkStartUpFollowsTheTableOfStates : Obligations.LinkStartUpFollowsTheTableOfStates := by
  intro n s
  refine ⟨fun code tr fec => ⟨fun h ha hc => ?_, fun h => ?_⟩, fun ab h => ⟨fun he => ?_, fun he => ?_⟩,
    fun h => ⟨fun q => ?_, ?_⟩, fun h => ⟨fun q => ?_, ?_⟩, fun h => ⟨fun rx => ?_, fun hw => ?_, fun hw => ?_⟩,
    fun h => ⟨fun rx => ?_, ?_⟩⟩
  · obtain ⟨hst, hm, hf, ho⟩ := anResolved_takes h ha hc tr fec.val
    exact ⟨_, rfl, hst, hm, hf, ho, (anResolved_same ..).toune rfl, (anResolved_same ..).path rfl⟩
  · exact congrArg Host.Outcome.next (anResolved_idle h tr fec.val)
  · refine ⟨_, congrArg Host.Outcome.next (anNoCommon_first h he ab.toNat), ?_, ?_, raise_raised _ _ rfl,
      otherPorts_setPort n.val _ s⟩
    · exact (congrArg Port.st (portAt_setPort_self ..)).trans h
    · exact congrArg Port.anEpisode (portAt_setPort_self ..)
  · exact congrArg Host.Outcome.next (anNoCommon_idle (.inr he) ab.toNat)
  · obtain ⟨hst, hf, ho⟩ := trainDone_aligns h q
    exact ⟨_, rfl, hst, hf, ho, (trainDone_same ..).toune rfl⟩
  · obtain ⟨hp, hc⟩ := trainTimeout_failed h
    obtain ⟨hst, hf⟩ := portAt_trainFailed n s
    have hpt := fun m => portAt_congr (congrArg Ports.port hp) m
    refine ⟨_, rfl, (congrArg Port.fails (hpt n)).trans hf, ?_, (trainFailed_counted n s).of_after (counter_congr hc _),
      fun m hm => (hpt m).trans (trainFailed_others n s m hm), fun hr => ?_, fun hr => ?_⟩
    · rw [hpt, hst, trainBack, bitOf_toNat]
    · rw [trainTimeout_eq h, if_pos hr]
      exact raise_raised _ _ (congrArg Toune.events (trainFailed_toune n s))
    · rw [trainTimeout_eq h, if_neg hr]
      exact trainFailed_toune n s
  · exact congrArg Host.Outcome.next (trainDone_idle h q)
  · exact congrArg Host.Outcome.next (trainTimeout_idle h)
  · obtain ⟨xo, hx⟩ := portAt_linkUp h rx
    refine ⟨_, rfl, by rw [hx]; rfl, by rw [hx]; rfl, by rw [hx]; rfl, by rw [hx]; rfl, linkUp_others h rx, ?_,
      (linkUp_same ..).path rfl, (linkUp_same ..).flow rfl⟩
    rw [linkUp_eq h]
    exact raise_lastRaised _ _ _
  · refine ⟨_, congrArg Host.Outcome.next (alignTimeout_restarts h hw), ?_, restartPort_others _ _,
      (restartPort_same ..).toune rfl⟩
    exact congrArg Port.st (portAt_restartPort ..)
  · exact congrArg Host.Outcome.next (alignTimeout_idle (.inr hw))
  · exact congrArg Host.Outcome.next (linkUp_idle h rx)
  · exact congrArg Host.Outcome.next (alignTimeout_idle (.inl h))

end Sys2Proof.Machine
end

section
/-! Proofs.  Links that go down and come back: UP and FAULT, the flush of R99 and the FEC threshold of R104 (R85, R105, R106). -/

namespace Sys2Proof.Machine

/-! ### What a loss counts and raises -/

theorem linkLost_others (n cause : Nat) (cut : Bool) (s : State) : OtherPorts n s (linkLost n cause cut s) :=
  .of_eq (congrArg Ports.port ((linkLost_same ..).ports rfl))

/-- A frame cut off in reception counts in RX_ABORTED, whatever state the port is in. -/
theorem linkLost_aborts (n cause : Nat) (s : State) : Counted 5 n 6 1 s (linkLost n cause true s) := by
  unfold linkLost
  dsimp only
  split
  · exact (bump48_counted ..).of_after (counter_bump48_ne 5 n 1 (bump48 5 n 6 1 s) (by decide))
  · exact bump48_counted ..

section
variable {n : Nat} {s : State}

/-- The loss of an UP link counts in LINK_DOWNS, counter 16, and raises LINK_DOWN (R85, R106). -/
theorem linkLost_up (h : (portAt s n).st = .up) (cause : Nat) (cut : Bool) :
    Counted 5 n 16 1 s (linkLost n cause cut s) ∧
      Raised [(Ev.linkDown, le 2 n ++ le 1 cause)] s (linkLost n cause cut s) := by
  unfold linkLost
  dsimp only
  rw [if_pos h]
  refine ⟨?_, raise_raised _ _ (by cases cut <;> rfl)⟩
  cases cut with
  | false => exact bump48_counted 5 n 16 1 s
  | true => exact (bump48_counted 5 n 16 1 (bump48 5 n 6 1 s)).of_before (counter_bump48_ne 5 n 1 s (by decide))

/-! ### Back to the entry state -/

/-- A port taken back to its entry state is in it, with a local fault (R85). -/
theorem portAt_toEntry (n : Nat) (s : State) :
    (portAt (toEntry n s) n).st = entryState s n ∧ (portAt (toEntry n s) n).localFault = true := by
  unfold toEntry
  dsimp only
  rw [portAt_restartPort, portAt_setPort_self]
  exact ⟨rfl, rfl⟩

theorem toEntry_others (n : Nat) (s : State) : OtherPorts n s (toEntry n s) :=
  (otherPorts_setPort _ _ _).trans (restartPort_others _ _)

/-- A port whose link has fallen for a cause: its receivers as the loss finds them, and its start-up begun again. -/
def fallen (n cause : Nat) (s : State) : State := toEntry n (causeLanes n cause s)

theorem fallen_same (n cause : Nat) (s : State) : Same 1024 s (fallen n cause s) :=
  (causeLanes_onlyLanes ..).same.trans (toEntry_same ..)

theorem portAt_fallen (n cause : Nat) (s : State) :
    (portAt (fallen n cause s) n).st = entryState s n ∧ (portAt (fallen n cause s) n).localFault = true := by
  obtain ⟨hst, hlf⟩ := portAt_toEntry n (causeLanes n cause s)
  exact ⟨hst.trans (entryState_congr ((causeLanes_onlyLanes n cause s).same.regs rfl) n), hlf⟩

theorem fallen_others (n cause : Nat) (s : State) : OtherPorts n s (fallen n cause s) :=
  ((causeLanes_onlyLanes n cause s).others n).trans (toEntry_others _ _)

theorem linkDown_up (h : (portAt s n).st = .up) (cause : Nat) (cut : Bool) :
    linkDown n cause cut s = fallen n cause (linkLost n cause cut s) := if_pos h

theorem linkDown_fault (h : (portAt s n).st = .fault) (cause : Nat) (cut : Bool) :
    linkDown n cause cut s = fallen n cause s := by
  unfold linkDown
  dsimp only
  rw [if_neg (by simp [h]), if_pos h]
  rfl

/-! ### Remote faults -/

/-- An UP port with a remote fault is in FAULT (R85). -/
theorem remoteFault_eq (h : (portAt s n).st = .up) : remoteFault n s =
    setPort n { portAt (linkLost n 4 false s) n with
      st := .fault, remoteFault := true, since := s.tick.count, xoff := [], downSince := some s.tick.count }
      (linkLost n 4 false s) := if_neg (by simp [h])

/-- The record of a port that returns to UP from FAULT (R85). -/
def clearedRecord (s : State) (n : Nat) : Port :=
  { portAt s n with
    st := .up, remoteFault := false, since := s.tick.count, downSince := none, flushed := false
    admitAt := s.tick.count + 1 }

theorem remoteFaultClear_eq (h : (portAt s n).st = .fault) : remoteFaultClear n s =
    raise Ev.linkUp (le 2 n ++ le 1 (portAt s n).mode ++ le 1 (portAt s n).fec ++ le 8 (s.tick.count + 1).toNat)
      (settlePauses n (setPort n (clearedRecord s n) s)) := if_neg (by simp [h])

/-- A port that returns to UP has its record but for the pauses that it begins to send. -/
theorem portAt_remoteFaultClear (h : (portAt s n).st = .fault) :
    ∃ xo, portAt (remoteFaultClear n s) n = { clearedRecord s n with xoff := xo } := by
  obtain ⟨xo, hx⟩ := (settlePauses_sendsPauses n (setPort n (clearedRecord s n) s)).port n
  rw [portAt_setPort_self] at hx
  exact ⟨xo, by rw [remoteFaultClear_eq h]; exact hx⟩

theorem remoteFaultClear_others (h : (portAt s n).st = .fault) : OtherPorts n s (remoteFaultClear n s) := by
  rw [remoteFaultClear_eq h]
  exact (otherPorts_setPort _ _ _).trans (settlePauses_sendsPauses n (setPort n (clearedRecord s n) s)).others

/-! ### The flush of a port that stays down -/

/-- A port whose link is down since tick `d` is flushed after its flush_ms, if it is enabled and not flushed yet (R99). -/
theorem portDownFlush_eq {d : Tick} (hd : (portAt s n).downSince = some d) : portDownFlush n s =
    if regField s 5 n 5 15 0 = 0 ∨ !portEnabled s n ∨ (portAt s n).flushed ∨
        ticksSince s.tick.count d < 1000 * regField s 5 n 5 15 0 then s
    else raise Ev.portDownFlush (le 2 n ++ le 8 s.tick.count.toNat)
      (abandonPort n (setPort n { portAt s n with flushed := true } s)) := by
  unfold portDownFlush
  dsimp only
  rw [hd]

/-- A flushed port stays flushed while its copies are abandoned. -/
theorem abandonPort_flushed (n : Nat) (s : State) (m : Nat) :
    (portAt (abandonPort n s) m).flushed = (portAt s m).flushed := by
  obtain ⟨xo, hx⟩ := (abandonPort_sendsPauses n s).port m
  rw [hx]

end

/-! ### The FEC counts of a period -/

/-- The three FEC counters of a port, 12 to 14, with a period's counts (R104, R105). -/
def fecCounted (n co un sy : Nat) (s : State) : State := bump48 5 n 12 co (bump48 5 n 13 un (bump48 5 n 14 sy s))

theorem fecDegraded_eq (n co un sy : Nat) (s : State) : fecDegraded n co un sy s =
    if (reg s 5 n 7).toNat = 0 ∨ sy < (reg s 5 n 7).toNat then fecCounted n co un sy s
    else raise Ev.fecDegraded (le 2 n ++ le 4 sy) (fecCounted n co un sy s) := rfl

/-- Each of the three counters counts its own number. -/
theorem fecCounted_counted (n co un sy : Nat) (s : State) :
    Counted 5 n 12 co s (fecCounted n co un sy s) ∧ Counted 5 n 13 un s (fecCounted n co un sy s) ∧
      Counted 5 n 14 sy s (fecCounted n co un sy s) := by
  have ne : ∀ {i j : Nat} (k : Nat) (s : State), i ≠ j →
      counter (bump48 5 n j k s) (paddr 5 n (0x100 + 2 * i)) = counter s (paddr 5 n (0x100 + 2 * i)) :=
    fun k s h => counter_bump48_ne 5 n k s h
  refine ⟨(bump48_counted ..).of_before ((ne un _ (by decide)).trans (ne sy s (by decide))), ?_, ?_⟩
  · exact ((bump48_counted ..).of_before (ne sy s (by decide))).of_after (ne co _ (by decide))
  · exact (bump48_counted ..).of_after ((ne co _ (by decide)).trans (ne un _ (by decide)))

theorem fecDegraded_prm (n co un sy : Nat) (s : State) :
    (fecDegraded n co un sy s).prm = (fecCounted n co un sy s).prm := by
  rw [fecDegraded_eq]
  split <;> rfl

/-! ### The statement -/

/-- Settles O31: a loss counts and tells before the port starts again, and what follows it changes that port alone. -/
theorem linksGoDownAndComeBack : Obligations.LinksGoDownAndComeBack := by
  intro n s
  refine ⟨fun c cut => ⟨fun h => ?_, fun h => ?_⟩, fun h => ?_, fun h => ?_, fun d hd hf he hn => ⟨fun hw => ?_, fun hw => ?_⟩,
    fun co un sy => ?_⟩
  · obtain ⟨hc, hr⟩ := linkLost_up h c.val cut
    obtain ⟨hst, hlf⟩ := portAt_fallen n c (linkLost n c cut s)
    have hs := fallen_same n c (linkLost n c cut s)
    have hp := counter_congr (hs.prm rfl)
    refine ⟨_, congrArg Host.Outcome.next (linkDown_up h c cut), hst.trans (entryState_congr ((linkLost_same ..).regs rfl) n),
      hlf, hr.of_after (hs.toune rfl), hc.of_after (hp _), fun hcut => ?_,
      (linkLost_others n c cut s).trans (fallen_others _ _ _), (hs.buf rfl).trans ((linkLost_same ..).buf rfl)⟩
    subst hcut
    exact (linkLost_aborts n c s).of_after (hp _)
  · exact ⟨_, congrArg Host.Outcome.next (linkDown_fault h c cut), (portAt_fallen ..).1, (fallen_same ..).toune rfl,
      fallen_others _ _ _⟩
  · obtain ⟨hc, hr⟩ := linkLost_up h 4 false
    refine ⟨_, congrArg Host.Outcome.next (remoteFault_eq h), ?_, ?_, hr, hc,
      (linkLost_others n 4 false s).trans (otherPorts_setPort _ _ _)⟩
    · rw [portAt_setPort_self]
    · rw [portAt_setPort_self]
  · obtain ⟨xo, hx⟩ := portAt_remoteFaultClear h
    refine ⟨_, rfl, by rw [hx]; rfl, by rw [hx]; rfl, by rw [hx]; rfl, remoteFaultClear_others h, ?_⟩
    rw [remoteFaultClear_eq h]
    exact raise_raised _ _ (congrArg Toune.events ((settlePauses_same ..).toune rfl))
  · have hfl : (portAt (abandonPort n (setPort n { portAt s n with flushed := true } s)) n).flushed = true := by
      rw [abandonPort_flushed, portAt_setPort_self]
    refine ⟨_, congrArg Host.Outcome.next ((portDownFlush_eq hd).trans (if_neg (by simp [hf, he, hn, hw]))), hfl, ?_,
      raise_lastRaised _ _ _⟩
    exact (congrArg (_ || ·) hfl).trans (Bool.or_true _)
  · exact congrArg Host.Outcome.next ((portDownFlush_eq hd).trans (if_pos (.inr (.inr (.inr hw)))))
  · obtain ⟨h12, h13, h14⟩ := fecCounted_counted n co un sy s
    have hp := fecDegraded_prm n co un sy s
    refine ⟨_, rfl, h12.of_after (counter_congr hp _), h13.of_after (counter_congr hp _), h14.of_after (counter_congr hp _),
      (fecDegraded_same ..).ports rfl, fun ht => ?_, fun ht => ?_⟩
    · rw [fecDegraded_eq, if_neg (by omega)]
      exact raise_raised _ _ rfl
    · rw [fecDegraded_eq, if_pos ht]
      rfl

end Sys2Proof.Machine
end

section
/-! Proofs.  Received pauses and the repetition of those sent (R94, R97, R98, R105). -/

namespace Sys2Proof.Machine

/-! ### A list of received pauses -/

/-- A received pause value for priority `k`: 0 releases it, any other pauses it until an instant (R97). -/
def putPause (ends : Half → Dword) (ps : Table Dword) (k : Nat) (q : Half) : Table Dword :=
  if q = 0 then terase ps k else tput ps k (ends q)

theorem isSome_putPause (ends : Half → Dword) (ps : Table Dword) (k : Nat) (q : Half) (j : Nat) :
    (tfind (putPause ends ps k q) j).isSome = if j = k then q != 0 else (tfind ps j).isSome := by
  unfold putPause
  by_cases hq : q = 0
  · rw [if_pos hq, tfind_terase]
    split <;> simp [hq]
  · rw [if_neg hq, tfind_tput]
    split
    · exact (bne_iff_ne.mpr hq).symm
    · rfl

/-- After a value for each of some priorities, exactly those of them with a value other than 0 are paused, and every other
priority is as it was. -/
theorem isSome_foldl_putPause (ends : Half → Dword) (f : Nat → Half) (l : List Nat) (ps : Table Dword) (j : Nat) :
    (tfind (l.foldl (fun ps k => putPause ends ps k (f k)) ps) j).isSome =
      if j ∈ l then f j != 0 else (tfind ps j).isSome := by
  induction l generalizing ps with
  | nil => rfl
  | cons k l ih =>
    rw [List.foldl_cons, ih, isSome_putPause]
    by_cases hj : j ∈ l
    · simp [hj]
    · by_cases hk : j = k <;> simp [hj, hk]

/-! ### Pause frames -/

section
variable {n : Nat} {s : State}

/-- The instant at which a pause of these quanta, received in core cycle `c`, is over (R97). -/
def pauseEnds (s : State) (n c : Nat) (q : Half) : Dword :=
  frcAt s c + BitVec.ofNat 64 (if portRate s n = 0 then 0 else q.toNat * 512 * 65536 / portRate s n)

/-- The pauses of a port after a frame: an Annex 31B frame counts in mode 1 for all priorities, a priority-based one in mode 2
for those that its vector names and rx_prio honours (R97). -/
def pausesAfter (s : State) (n c : Nat) (pfc : Bool) (vector : Nat) (quanta : List Half) : Table Dword :=
  if pauseMode s n = 1 ∧ !pfc then
    (List.range 8).foldl (fun ps k => putPause (pauseEnds s n c) ps k (quanta.getD 0 0)) (portAt s n).paused
  else if pauseMode s n = 2 ∧ pfc then
    ((List.range 8).filter (fun k => bitOf vector k && bitOf (regField s 5 n 3 12 5) k)).foldl
      (fun ps k => putPause (pauseEnds s n c) ps k (quanta.getD k 0)) (portAt s n).paused
  else (portAt s n).paused

theorem pauseRx_idle (h : (portAt s n).st ≠ .up) (c : Nat) (pfc : Bool) (v : Nat) (q : List Half) :
    pauseRx n c pfc v q s = s := if_pos h

/-- A pause frame at an UP port counts in RX_PAUSE, counter 7, and changes the port's pauses. -/
theorem pauseRx_eq (h : (portAt s n).st = .up) (c : Nat) (pfc : Bool) (v : Nat) (q : List Half) : pauseRx n c pfc v q s =
    setPort n { portAt s n with paused := pausesAfter s n c pfc v q } (bump48 5 n 7 1 s) := if_neg (by simp [h])

theorem pauseRx_counted (h : (portAt s n).st = .up) (c : Nat) (pfc : Bool) (v : Nat) (q : List Half) :
    Counted 5 n 7 1 s (pauseRx n c pfc v q s) := by
  rw [pauseRx_eq h]
  exact bump48_counted 5 n 7 1 s

theorem pauseRx_others (h : (portAt s n).st = .up) (c : Nat) (pfc : Bool) (v : Nat) (q : List Half) :
    OtherPorts n s (pauseRx n c pfc v q s) := by
  rw [pauseRx_eq h]
  exact otherPorts_setPort n _ (bump48 5 n 7 1 s)

theorem pauseRx_paused (h : (portAt s n).st = .up) (c : Nat) (pfc : Bool) (v : Nat) (q : List Half) :
    (portAt (pauseRx n c pfc v q s) n).paused = pausesAfter s n c pfc v q := by
  rw [pauseRx_eq h, portAt_setPort_self]

/-- In mode 1 an Annex 31B frame pauses or releases all eight priorities. -/
theorem classPaused_pauseRx_all (h : (portAt s n).st = .up) (hm : pauseMode s n = 1) (c v : Nat) (q : Half) {k : Nat}
    (hk : k < 8) : classPaused (pauseRx n c false v [q] s) n k = (q != 0) := by
  unfold classPaused
  rw [pauseRx_paused h, pausesAfter, if_pos ⟨hm, rfl⟩, isSome_foldl_putPause, if_pos (List.mem_range.mpr hk)]
  rfl

/-- In mode 2 a priority-based frame pauses or releases the priorities that it names and that the port honours. -/
theorem classPaused_pauseRx_named (h : (portAt s n).st = .up) (hm : pauseMode s n = 2) (c : Nat) (v : Byte) (q : List Half)
    {k : Nat} (hk : k < 8) : classPaused (pauseRx n c true v.toNat q s) n k =
      if v.getLsbD k && bitOf (regField s 5 n 3 12 5) k then q.getD k 0 != 0 else classPaused s n k := by
  unfold classPaused
  rw [pauseRx_paused h, pausesAfter, if_neg (by simp), if_pos ⟨hm, rfl⟩, isSome_foldl_putPause]
  simp only [List.mem_filter, List.mem_range, hk, true_and, bitOf_toNat]

/-- In mode 0 nothing is paused or released. -/
theorem pausesAfter_off (hm : pauseMode s n = 0) (c : Nat) (pfc : Bool) (v : Nat) (q : List Half) :
    pausesAfter s n c pfc v q = (portAt s n).paused := by
  unfold pausesAfter
  rw [if_neg (by simp [hm]), if_neg (by simp [hm])]

/-! ### The end of a pause, and its repetition -/

theorem rxPauseExpiry_eq {p : Nat} {u : Dword} (hu : tfind (portAt s n).paused p = some u) (c : Nat) :
    rxPauseExpiry n c p s = if (0 : Int) ≤ (frcAt s c - u).toInt then
      setPort n { portAt s n with paused := terase (portAt s n).paused p } s else s := by
  unfold rxPauseExpiry
  dsimp only
  rw [hu]

/-- A pause that is over ends for its priority and for no other. -/
theorem classPaused_erase (p k : Nat) :
    classPaused (setPort n { portAt s n with paused := terase (portAt s n).paused p } s) n k =
      if k = p then false else classPaused s n k := by
  unfold classPaused
  rw [portAt_setPort_self, tfind_terase]
  split <;> rfl

/-- XOFF is due again half its quanta after the latest sending, at an UP port that has a rate (R98). -/
theorem xoffRepeat_eq {p : Nat} {u : Dword} (hu : tfind (portAt s n).xoff p = some u) (c : Nat) : xoffRepeat n c p s =
    if (portAt s n).st ≠ .up ∨ portRate s n = 0 ∨
        (frcAt s c - u).toInt < (regField s 5 n 4 15 0 * 256 * 65536 / portRate s n : Nat) then s
    else sendPause n p (regField s 5 n 4 15 0)
      (setPort n { portAt s n with xoff := tput (portAt s n).xoff p (frcAt s c) } s) := by
  unfold xoffRepeat
  dsimp only
  rw [hu]

/-- Sending a pause sends one frame and counts in TX_PAUSE, counter 10; the ports stay as they are. -/
theorem sendPause_sends (n p quanta : Nat) (s : State) : Counted 5 n 10 1 s (sendPause n p quanta s) ∧
    (∃ f : TxFrame, (sendPause n p quanta s).ports.sent = s.ports.sent ++ [f] ∧ f.port = n ∧ f.stomped = false) ∧
    (sendPause n p quanta s).ports.port = s.ports.port :=
  ⟨bump48_counted 5 n 10 1 (transmit _ s), ⟨_, rfl, rfl, rfl⟩, rfl⟩

end

/-! ### The statement -/

/-- Settles O32: a frame's pauses by the port's mode, then the end of one pause, and the repetition of one sent. -/
theorem pausesStopAndReleasePriorities : Obligations.PausesStopAndReleasePriorities := by
  intro n c s
  refine ⟨fun pfc v q h => congrArg Host.Outcome.next (pauseRx_idle h c pfc v.toNat q),
    fun h => ⟨fun q _ hm => ?_, fun v q hm => ?_, fun pfc v q hm => ?_⟩, fun p u hu => ⟨fun hw => ?_, fun hw => ?_⟩,
    fun p u hu hr => ⟨fun h hw => ?_, fun h => ?_⟩⟩
  · exact ⟨_, rfl, pauseRx_counted h .., pauseRx_others h _ _ _ _, fun k hk => classPaused_pauseRx_all h hm c 0 q hk⟩
  · exact ⟨_, rfl, pauseRx_counted h .., pauseRx_others h _ _ _ _, fun k hk => classPaused_pauseRx_named h hm c v q hk⟩
  · exact ⟨_, rfl, pauseRx_counted h .., (pauseRx_paused h ..).trans (pausesAfter_off hm ..), pauseRx_others h _ _ _ _⟩
  · refine ⟨_, congrArg Host.Outcome.next ((rxPauseExpiry_eq hu c).trans (if_pos hw)), ?_, fun k hk => ?_,
      otherPorts_setPort _ _ _⟩
    · rw [classPaused_erase, if_pos rfl]
    · rw [classPaused_erase, if_neg hk]
  · exact congrArg Host.Outcome.next ((rxPauseExpiry_eq hu c).trans (if_neg (by omega)))
  · have e := (xoffRepeat_eq hu c).trans (if_neg fun e => e.elim (absurd h) (·.elim hr (Int.not_lt.mpr hw)))
    obtain ⟨hc, ⟨f, hf, hn, hs⟩, hp⟩ := sendPause_sends n p (regField s 5 n 4 15 0)
      (setPort n { portAt s n with xoff := tput (portAt s n).xoff p (frcAt s c) } s)
    refine ⟨_, f, congrArg Host.Outcome.next e, ?_, hc, hf, hn, hs, (otherPorts_setPort _ _ _).trans (.of_eq hp)⟩
    rw [portAt_congr hp, portAt_setPort_self]
    exact (tfind_tput ..).trans (if_pos rfl)
  · exact congrArg Host.Outcome.next ((xoffRepeat_eq hu c).trans (if_pos (h.imp_right .inr)))

end Sys2Proof.Machine
end

section
/-! Proofs.  Ports enabled, disabled, and laid out anew by the mode of their group (R80, R81, R83, R85). -/

namespace Sys2Proof.Machine

/-! ### Starting -/

section
variable {n : Nat} {s : State}

/-- The state of a port that is free to start from DISABLED (R81, R85). -/
def startState (s : State) (n : Nat) : PortState :=
  if portEnabled s n && portExists s n then entryState s n else .disabled

theorem startState_congr {t : State} (h : t.prm.regs = s.prm.regs) (hs : t.sys = s.sys) (m : Nat) :
    startState t m = startState s m := by
  unfold startState
  rw [portEnabled_congr h hs, portExists_congr h, entryState_congr h]

theorem startPort_idle (h : (portAt s n).st ≠ .disabled ∨ !portEnabled s n ∨ !portExists s n) : startPort n s = s := if_pos h

/-- The record of a port as it starts. -/
def startRecord (s : State) (n : Nat) : Port :=
  { (portAt s n).enter s n (entryState s n) (portCode s n) with
    fails := 0, anEpisode := false, downSince := some s.tick.count, localFault := false, remoteFault := false }

/-- A port that starts takes its record; beside it only lanes change. -/
theorem startPort_starts (hd : (portAt s n).st = .disabled) (he : portEnabled s n = true) (hx : portExists s n = true) :
    OnlyLanes (setPort n (startRecord s n) s) (startPort n s) := by
  have e : startPort n s = lanesStart n (portCode s n) (lanesIdle n (portCode s n) false (setPort n (startRecord s n) s)) :=
    if_neg (by simp [hd, he, hx])
  rw [e]
  exact (lanesIdle_onlyLanes ..).trans (lanesStart_onlyLanes ..)

/-- A start changes no other port and leaves the receive FIFOs. -/
theorem startPort_others (n : Nat) (s : State) :
    OtherPorts n s (startPort n s) ∧ (startPort n s).ports.fifo = s.ports.fifo := by
  by_cases h : (portAt s n).st ≠ .disabled ∨ !portEnabled s n ∨ !portExists s n
  · rw [startPort_idle h]
    exact ⟨fun _ _ => rfl, rfl⟩
  · simp only [not_or, Classical.not_not, Bool.not_eq_true, Bool.not_eq_false'] at h
    obtain ⟨hd, he, hx⟩ := h
    have hl := startPort_starts hd he hx
    exact ⟨(otherPorts_setPort _ _ _).trans (hl.others n), hl.fifo⟩

/-- A start takes a DISABLED port to the state in which it is free to start, and no other. -/
theorem startPort_st (n : Nat) (s : State) (m : Nat) : (portAt (startPort n s) m).st =
    if m = n ∧ (portAt s m).st = .disabled then startState s m else (portAt s m).st := by
  by_cases hm : m = n
  · subst hm
    by_cases hd : (portAt s m).st = .disabled
    · rw [if_pos ⟨rfl, hd⟩, startState]
      split
      next h =>
        rw [Bool.and_eq_true] at h
        rw [(startPort_starts hd h.1 h.2).portAt, portAt_setPort_self]
        rfl
      next h =>
        have h' := Bool.and_eq_false_iff.mp (Bool.eq_false_iff.mpr h)
        rw [startPort_idle (.inr (by simpa using h')), hd]
    · rw [if_neg (fun h => hd h.2), startPort_idle (.inl hd)]
  · rw [if_neg (fun h => hm h.1), (startPort_others n s).1 m hm]

/-- Starting some ports takes those of them that are DISABLED to the state in which they are free to start. -/
theorem foldl_startPort_st (l : List Nat) (s : State) (m : Nat) : (portAt (l.foldl (fun s n => startPort n s) s) m).st =
    if m ∈ l ∧ (portAt s m).st = .disabled then startState s m else (portAt s m).st := by
  induction l generalizing s with
  | nil => rw [if_neg (by simp)]; rfl
  | cons n l ih =>
    have k := startPort_same n s
    rw [List.foldl_cons, ih, startPort_st, startState_congr (k.regs rfl) (k.sys rfl)]
    by_cases hm : m = n
    · subst hm
      by_cases hd : (portAt s m).st = .disabled <;> simp [hd]
    · simp [hm]

theorem foldl_startPort_fifo (l : List Nat) (s : State) :
    (l.foldl (fun s n => startPort n s) s).ports.fifo = s.ports.fifo := by
  induction l generalizing s with
  | nil => rfl
  | cons n l ih => exact (ih _).trans (startPort_others n s).2

end

/-! ### CTRL and the mode of a group are words of their own -/

theorem reg_setCtrl_class {c i w : Nat} (v : Word) (s : State) {n : Nat} (hn : n < 130) (hc : 6 ≤ c) :
    reg (setReg 5 n 0 v s) c i w = reg s c i w := reg_setReg_ne v s (by unfold paddr; omega)

theorem reg_setCtrl_word {w : Nat} (v : Word) (s : State) (n : Nat) (hw : w ≠ 0) :
    reg (setReg 5 n 0 v s) 5 n w = reg s 5 n w := reg_setReg_ne v s (by unfold paddr; omega)

/-- A port's CTRL word is not where its mode is set. -/
theorem portCode_setCtrl (v : Word) (s : State) {n : Nat} (hn : n < 130) :
    portCode (setReg 5 n 0 v s) n = portCode s n := by
  unfold portCode regField
  rw [reg_setCtrl_class v s hn (by decide), reg_setCtrl_word v s n (by decide)]

theorem portExists_setCtrl (v : Word) (s : State) {n : Nat} (hn : n < 130) :
    portExists (setReg 5 n 0 v s) n = portExists s n := by
  unfold portExists
  rw [portCode_setCtrl v s hn]

/-- Setting ctrl.enable of a port whose group, or host transport, is in service enables it (R99). -/
theorem portEnabled_setCtrl {s : State} {n : Nat} (h : (if n < 128 then inService s 6 (n / 8) else inService s 19 0) = true) :
    portEnabled (setReg 5 n 0 (reg s 5 n 0 ||| 1) s) n = true := by
  unfold portEnabled
  rw [reg_setReg_self, Bool.and_eq_true]
  exact ⟨by simp, h⟩

/-- ctrl.enable is no part of what gives the entry state. -/
theorem entryState_setCtrl (s : State) (n : Nat) : entryState (setReg 5 n 0 (reg s 5 n 0 ||| 1) s) n = entryState s n := by
  rw [entryState_eq, entryState_eq, reg_setReg_self]
  simp

/-- A port that exists and may be enabled starts with PORT_ENABLE (R81, R85). -/
theorem portEnable_starts {s : State} {n : Nat} (hn : n < 130) (hd : (portAt s n).st = .disabled)
    (hx : portExists s n = true) (hs : (if n < 128 then inService s 6 (n / 8) else inService s 19 0) = true) :
    OnlyLanes (setPort n (startRecord (setReg 5 n 0 (reg s 5 n 0 ||| 1) s) n) (setReg 5 n 0 (reg s 5 n 0 ||| 1) s))
      (portEnable n s) :=
  startPort_starts hd (portEnabled_setCtrl hs) ((portExists_setCtrl _ s hn).trans hx)

/-! ### Stopping -/

section
variable {n : Nat} {s : State}

theorem disablePort_idle (h : (portAt s n).st = .disabled) (cut : Bool) : disablePort n cut s = s := if_pos h

/-- A port that is disabled is DISABLED, with no pause standing, and a frame cut off is counted. -/
theorem disablePort_stops (h : (portAt s n).st ≠ .disabled) (cut : Bool) :
    (portAt (disablePort n cut s) n).st = .disabled ∧ (portAt (disablePort n cut s) n).paused = [] ∧
      (cut = true → Counted 5 n 6 1 s (disablePort n cut s)) ∧ OtherPorts n s (disablePort n cut s) := by
  have hl := lanesIdle_onlyLanes n (portAt s n).mode true (linkLost n 0 cut s)
  unfold disablePort
  dsimp only
  rw [if_neg h, portAt_setPort_self]
  refine ⟨rfl, rfl, fun hc => ?_,
    ((linkLost_others n 0 cut s).trans (hl.others n)).trans (otherPorts_setPort _ _ _)⟩
  subst hc
  exact (linkLost_aborts n 0 s).of_after (counter_congr (hl.same.prm rfl) _)

/-- The copies abandoned with a port leave every port's state and received pauses, and RX_ABORTED. -/
theorem abandonPort_st (n : Nat) (s : State) (m : Nat) : (portAt (abandonPort n s) m).st = (portAt s m).st ∧
    (portAt (abandonPort n s) m).paused = (portAt s m).paused := by
  obtain ⟨xo, hx⟩ := (abandonPort_sendsPauses n s).port m
  rw [hx]
  exact ⟨rfl, rfl⟩

theorem takePortDown_st (n : Nat) (cut : Bool) (s : State) (m : Nat) :
    (portAt (takePortDown n cut s) m).st = if m = n then .disabled else (portAt s m).st := by
  rw [takePortDown, (abandonPort_st ..).1]
  by_cases hd : (portAt s n).st = .disabled
  · rw [disablePort_idle hd]
    split
    next h => rw [h, hd]
    next => rfl
  · obtain ⟨hst, -, -, ho⟩ := disablePort_stops hd cut
    split
    next h => rw [h, hst]
    next h => rw [ho m h]

theorem foldl_takePortDown_st (rx l : List Nat) (s : State) (m : Nat) :
    (portAt (l.foldl (fun s n => takePortDown n (rx.contains n) s) s) m).st =
      if m ∈ l then .disabled else (portAt s m).st := by
  induction l generalizing s with
  | nil => rfl
  | cons n l ih =>
    rw [List.foldl_cons, ih, takePortDown_st]
    by_cases hl : m ∈ l
    · simp [hl]
    · simp only [hl, List.mem_cons, or_false, if_false]

end

/-! ### The mode of a group -/

/-- A key that a filter of a table does not keep is not listed. -/
theorem tfind_filter_none {α : Type} (p : Nat × α → Bool) (m : Table α) (k : Nat) (h : ∀ v, p (k, v) = false) :
    tfind (m.filter p) k = none := by
  induction m with
  | nil => rfl
  | cons e m ih =>
    rw [List.filter_cons]
    split
    next hp =>
      have hk : k ≠ e.1 := fun q => by rw [← Prod.eta e, ← q, h] at hp; cases hp
      exact (if_neg hk).trans ih
    next => exact ih

/-- The FIFO of a group whose shares are laid out anew is empty (R83). -/
theorem fifoAt_clearFifos {g m : Nat} (h : m / 8 = g) (s : State) : fifoAt (clearFifos g s) m = [] := by
  unfold fifoAt tgetD clearFifos
  rw [State.setPorts_ports, tfind_filter_none _ _ _ (fun v => by simp [h])]
  rfl

/-- The ports of a group (R13). -/
def portsOfGroup (g : Nat) : List Nat := (List.range 8).map (fun l => 8 * g + l)

/-- A group whose ports are all disabled and whose FIFO is empty, with its new mode (R83). -/
def regrouped (g : Nat) (v : Word) (rx : List Nat) (s : State) : State :=
  setReg 6 g 0 v (clearFifos g ((portsOfGroup g).foldl (fun s n => takePortDown n (rx.contains n) s) s))

theorem pgMode_eq (g : Nat) (v : Word) (rx : List Nat) (s : State) :
    pgMode g v rx s = (portsOfGroup g).foldl (fun s n => startPort n s) (regrouped g v rx s) := rfl

theorem portAt_regroup (g : Nat) (v : Word) (s : State) (m : Nat) :
    portAt (setReg 6 g 0 v (clearFifos g s)) m = portAt s m := rfl

theorem fifoAt_regroup (g : Nat) (v : Word) (s : State) (m : Nat) :
    fifoAt (setReg 6 g 0 v (clearFifos g s)) m = fifoAt (clearFifos g s) m := rfl

theorem regrouped_st {g m : Nat} (h : m ∈ portsOfGroup g) (v : Word) (rx : List Nat) (s : State) :
    (portAt (regrouped g v rx s) m).st = .disabled := by
  rw [regrouped, portAt_regroup, foldl_takePortDown_st, if_pos h]

/-- The new ports start from the state in which the group was laid out anew. -/
theorem pgMode_same_regrouped (g : Nat) (v : Word) (rx : List Nat) (s : State) :
    Same 1024 (regrouped g v rx s) (pgMode g v rx s) := by
  rw [pgMode_eq]
  exact Same.foldl (fun s n => startPort_same n s) _ _

/-- After a change of the mode each port of the group is in the state in which it is free to start, with an empty share. -/
theorem pgMode_ports {g m : Nat} (h : m ∈ portsOfGroup g) (v : Word) (rx : List Nat) (s : State) :
    fifoAt (pgMode g v rx s) m = [] ∧ (portAt (pgMode g v rx s) m).st = startState (pgMode g v rx s) m := by
  have k := pgMode_same_regrouped g v rx s
  have hg : m / 8 = g := by
    obtain ⟨l, hl, rfl⟩ := List.mem_map.mp h
    have := List.mem_range.mp hl
    omega
  refine ⟨?_, ?_⟩
  · unfold fifoAt
    rw [pgMode_eq, foldl_startPort_fifo]
    exact (fifoAt_regroup ..).trans (fifoAt_clearFifos hg _)
  · rw [startState_congr (k.regs rfl) (k.sys rfl), pgMode_eq, foldl_startPort_st, if_pos ⟨h, regrouped_st h v rx s⟩]

theorem reg_pgMode (g : Nat) (v : Word) (rx : List Nat) (s : State) : reg (pgMode g v rx s) 6 g 0 = v := by
  rw [reg_congr ((pgMode_same_regrouped g v rx s).regs rfl), regrouped, reg_setReg_self]

/-! ### The statement -/

/-- Settles O29: the start of one port, the stop of one port, and both for the ports of a group with a new mode. -/
theorem portsStartAsTheirControlSays : Obligations.PortsStartAsTheirControlSays := by
  intro s
  refine ⟨fun n hd hx hs => ?_, fun n cut hd => ?_, fun g v rx => ⟨fun hb => ?_, fun hb => ?_⟩⟩
  · have hl := portEnable_starts n.isLt hd hx hs
    have hp := (hl.portAt n).trans (portAt_setPort_self ..)
    refine ⟨_, rfl, ?_, ?_, by rw [hp]; rfl, ?_, (otherPorts_setPort n.val _ (setReg 5 n 0 _ s)).trans (hl.others n),
      (portEnable_same ..).toune rfl, (portEnable_same ..).buf rfl⟩
    · rw [reg_congr (hl.same.regs rfl)]
      exact reg_setReg_self ..
    · rw [hp, ← entryState_eq]
      exact entryState_setCtrl s n
    · rw [hp]
      exact portCode_setCtrl _ s n.isLt
  · have k := (disablePort_same n cut (setReg 5 n 0 (reg s 5 n 0 &&& ~~~1#32) s)).regs rfl
    obtain ⟨hst, hp, hc, -⟩ := disablePort_stops (s := setReg 5 n 0 (reg s 5 n 0 &&& ~~~1#32) s) hd cut
    refine ⟨_, rfl, ?_, (abandonPort_st ..).1.trans hst, (abandonPort_st ..).2.trans hp, fun hcut => ?_,
      (portDisable_same ..).flow rfl, (portDisable_same ..).tick rfl⟩
    · exact (reg_congr (((abandonPort_same ..).regs rfl).trans k) 5 n 0).trans (reg_setReg_self ..)
    · exact ((hc hcut).of_before rfl).of_after ((abandonPort_sendsPauses ..).aborted n n.isLt)
  · exact congrArg Host.Outcome.next (if_pos hb)
  · refine ⟨_, congrArg Host.Outcome.next (if_neg (by simp [hb])), reg_pgMode .., fun l => ?_⟩
    exact pgMode_ports (List.mem_map.mpr ⟨l, List.mem_range.mpr l.isLt, rfl⟩) v rx s

end Sys2Proof.Machine
end

section
/-! Proofs.  The rules of the pipelines' records: what a pipeline reads after one record, or each of several, has been put, and
what a request to do so answers and raises (R126, R146, R147, R493). -/

namespace Sys2Proof.Machine

/-! ### Records of pipelines -/

/-- A pipeline reads the same where the records of pipelines are the same. -/
theorem pipeAt_congr {s t : State} (h : t.path.pipe = s.path.pipe) (p : Nat) : pipeAt t p = pipeAt s p := by
  unfold pipeAt; rw [h]

theorem pipeAt_setPipe (p : Nat) (x : Pipe) (s : State) (q : Nat) :
    pipeAt (setPipe p x s) q = if q = p then x else pipeAt s q := tgetD_tput ..

theorem OnlyAnswers.pipeAt {s t : State} (h : OnlyAnswers s t) (p : Nat) : pipeAt t p = pipeAt s p :=
  pipeAt_congr (congrArg Path.pipe h.path :) p

@[simp] theorem idleGraph_putIdleGraph (x : Pipe) (b : ImageBank) : idleGraph (x.putIdleGraph b) = b := by
  cases h : x.graphActive <;> simp [idleGraph, Pipe.putIdleGraph, h]

@[simp] theorem activeGraph_putIdleGraph (x : Pipe) (b : ImageBank) : activeGraph (x.putIdleGraph b) = activeGraph x := by
  cases h : x.graphActive <;> simp [activeGraph, Pipe.putIdleGraph, h]

@[simp] theorem idleProf_putIdleProf (x : Pipe) (b : ImageBank) : idleProf (x.putIdleProf b) = b := by
  cases h : x.profActive <;> simp [idleProf, Pipe.putIdleProf, h]

@[simp] theorem activeProf_putIdleProf (x : Pipe) (b : ImageBank) : activeProf (x.putIdleProf b) = activeProf x := by
  cases h : x.profActive <;> simp [activeProf, Pipe.putIdleProf, h]

/-! ### The pipelines of a mask -/

theorem pipesOf_nodup (m : Nat) : (pipesOf m).Nodup := List.nodup_range.filter _

/-- A mask that names pipelines 0 to 3 only, and one at least, is legal (R616). -/
theorem pipeMask_legal {p : List Byte} (h1 : 1 ≤ rd p 0 1) (h2 : rd p 0 1 ≤ 15) : pipeMask p = some (rd p 0 1) :=
  if_neg (by omega)

/-- The record of one pipeline changes. -/
def changePipe (f : Pipe → Pipe) (s : State) (p : Nat) : State := setPipe p (f (pipeAt s p)) s

/-- The record of one pipeline changes, and an event tells of the record as it was. -/
def changePipeTold (code : Nat) (d : Nat → Pipe → List Byte) (f : Pipe → Pipe) (s : State) (p : Nat) : State :=
  raise code (d p (pipeAt s p)) (changePipe f s p)

theorem pipeAt_changePipe (f : Pipe → Pipe) (s : State) (p q : Nat) :
    pipeAt (changePipe f s p) q = if q = p then f (pipeAt s p) else pipeAt s q := pipeAt_setPipe ..

theorem pipeAt_changePipeTold (code : Nat) (d : Nat → Pipe → List Byte) (f : Pipe → Pipe) (s : State) (p q : Nat) :
    pipeAt (changePipeTold code d f s p) q = if q = p then f (pipeAt s p) else pipeAt s q := pipeAt_setPipe ..

/-- A change made once for each pipeline of a list changes the records of these alone. -/
theorem pipeAt_foldl {f : Pipe → Pipe} {g : State → Nat → State}
    (hg : ∀ s p q, pipeAt (g s p) q = if q = p then f (pipeAt s p) else pipeAt s q) {l : List Nat} (hl : l.Nodup)
    (s : State) (q : Nat) : pipeAt (l.foldl g s) q = if q ∈ l then f (pipeAt s q) else pipeAt s q := by
  induction l generalizing s with
  | nil => rfl
  | cons p l ih =>
    obtain ⟨hp, hl⟩ := List.nodup_cons.mp hl
    rw [List.foldl_cons, ih hl, hg]
    by_cases hq : q = p
    · subst hq
      simp [hp]
    · simp [hq]

theorem foldl_changePipe_same (f : Pipe → Pipe) (l : List Nat) (s : State) : Same 2048 s (l.foldl (changePipe f) s) :=
  Same.foldl (fun _ _ => setPipe_same ..) l s

theorem Raised.trans {e1 e2 : List (Nat × List Byte)} {r s t : State} (h : Raised e1 r s) (k : Raised e2 s t) :
    Raised (e1 ++ e2) r t := by
  obtain ⟨l1, hl1, rfl⟩ := h
  obtain ⟨l2, hl2, rfl⟩ := k
  exact ⟨l1 ++ l2, by rw [hl2, hl1, List.append_assoc], List.map_append⟩

theorem foldl_changePipeTold_responses (code : Nat) (d : Nat → Pipe → List Byte) (f : Pipe → Pipe) (l : List Nat)
    (s : State) : (l.foldl (changePipeTold code d f) s).toune.responses = s.toune.responses := by
  induction l generalizing s with
  | nil => rfl
  | cons p l ih => exact (ih _).trans rfl

/-- Each pipeline's event tells of its record as it was before the first of the changes. -/
theorem foldl_changePipeTold_raised (code : Nat) (d : Nat → Pipe → List Byte) (f : Pipe → Pipe) {l : List Nat}
    (hl : l.Nodup) (s : State) :
    Raised (l.map (fun p => (code, d p (pipeAt s p)))) s (l.foldl (changePipeTold code d f) s) := by
  induction l generalizing s with
  | nil => exact ⟨[], (List.append_nil _).symm, rfl⟩
  | cons p l ih =>
    obtain ⟨hp, hl⟩ := List.nodup_cons.mp hl
    have hrest : l.map (fun q => (code, d q (pipeAt (changePipeTold code d f s p) q))) =
        l.map (fun q => (code, d q (pipeAt s q))) := by
      refine List.map_congr_left (fun q hq => ?_)
      rw [pipeAt_changePipeTold, if_neg (fun e : q = p => hp (e ▸ hq))]
    exact (raise_raised code _ rfl).trans (hrest ▸ ih hl _)

/-! ### What a request leaves for its body to read -/

/-- Noting a request changes the protocol's own state at most. -/
theorem touch_eq_setToune (r : Req) (s : State) : ∃ x, touch r s = s.setToune x := by
  unfold touch
  dsimp only
  split
  · exact ⟨_, rfl⟩
  · exact ⟨s.toune, rfl⟩

section
variable (r : Req) (s : State)

@[simp] theorem pipeAt_touch (p : Nat) : pipeAt (touch r s) p = pipeAt s p := (touch_answers r s).pipeAt p

@[simp] theorem bankDraining_touch (p : Nat) (g : Bool) : bankDraining (touch r s) p g = bankDraining s p g := by
  obtain ⟨x, hx⟩ := touch_eq_setToune r s
  rw [hx]; rfl

@[simp] theorem lookupBreach_touch (p : Nat) (b : List Byte) (j k : Nat) :
    lookupBreach (touch r s) p b j k = lookupBreach s p b j k := by
  obtain ⟨x, hx⟩ := touch_eq_setToune r s
  rw [hx]; rfl

@[simp] theorem badProfile_touch (p : Nat) (b : List Byte) : badProfile (touch r s) p b = badProfile s p b := by
  obtain ⟨x, hx⟩ := touch_eq_setToune r s
  rw [hx]; rfl

@[simp] theorem profileSwitchBad_touch (wg : Bool) (p : Nat) :
    profileSwitchBad (touch r s) wg p = profileSwitchBad s wg p := by
  simp only [profileSwitchBad, pipeAt_touch, badProfile_touch]

@[simp] theorem imageAhead_touch (p : Nat) : imageAhead (touch r s) p = imageAhead s p := by
  unfold imageAhead
  rw [pipeAt_touch, (touch_answers r s).sys]

/-- Noting a request leaves its session's version and staging area. -/
theorem descBytes_touch (off : Nat) : descBytes r off (touch r s) = descBytes r off s := by
  have e : ∀ i, (sessionAt (touch r s) i).version = (sessionAt s i).version ∧
      (sessionAt (touch r s) i).staging = (sessionAt s i).staging := by
    intro i
    rw [sessionAt_touch]
    split <;> exact ⟨rfl, rfl⟩
  have hr : ∀ a b c w, regionUsable (touch r s) a b c w = regionUsable s a b c w := by
    intro a b c w
    obtain ⟨x, hx⟩ := touch_eq_setToune r s
    rw [hx]; rfl
  simp only [descBytes, (e _).1, (e _).2, hr]

end

/-! ### Requests that change pipelines -/

/-- A request whose answer waits sends nothing yet. -/
theorem finish_waits (op : Nat) (r : Req) (rep : Reply) (u : Bool) (s : State) (h : rep.waits = true) :
    (finish op r rep u s).toune.responses = s.toune.responses := by
  unfold finish
  extract_lets x p s1 s2 id
  have h1 : s1.toune.responses = s.toune.responses := by
    show (if _ then _ else _ : State).toune.responses = _
    split <;> rfl
  have h2 : s2 = s1 := if_pos h
  rw [h2]
  split
  · exact h1
  · exact h1

section
variable {op : Nat} {body : Req → State → State × Reply} {r : Req} {s : State} {l : List Nat} {f : Pipe → Pipe}

/-- A request that changes the records of pipelines at once, with an event for each. -/
theorem runs_changes {code : Nat} {d : Nat → Pipe → List Byte} (h : Runs op r s) (hl : l.Nodup)
    (e : body r (touch r s) = (l.foldl (changePipeTold code d f) (touch r s), .yes [])) :
    Answered op r St.ok [] s (runToune op body r s) ∧
      Raised (l.map (fun p => (code, d p (pipeAt s p)))) s (runToune op body r s) ∧
      ∀ p, pipeAt (runToune op body r s) p = if p ∈ l then f (pipeAt s p) else pipeAt s p := by
  obtain ⟨ha, x, hx, hrep⟩ := runs_effect h e rfl
  refine ⟨?_, ?_, fun p => ?_⟩
  · exact ⟨x, by rw [hx, foldl_changePipeTold_responses, touch_responses], hrep⟩
  · obtain ⟨evs, h1, h2⟩ := foldl_changePipeTold_raised code d f hl (touch r s)
    refine ⟨evs, ?_, by simpa only [pipeAt_touch] using h2⟩
    rw [runToune_runs op body r s h, e, finish_events, h1, touch_events]
  · rw [ha.pipeAt, pipeAt_foldl (pipeAt_changePipeTold code d f) hl, pipeAt_touch]

/-- A request that marks pipelines and waits for the boundary of its change (R34, R35). -/
theorem runs_marks {c : Change} (h : Runs op r s) (hl : l.Nodup)
    (e : body r (touch r s) =
      (defer { due := dueTick (touch r s) r.cycle, change := c, resp := some (respOf op r 0 []) }
        (l.foldl (changePipe f) (touch r s)), { waits := true })) :
    Waits op r c s (runToune op body r s) ∧
      ∀ p, pipeAt (runToune op body r s) p = if p ∈ l then f (pipeAt s p) else pipeAt s p := by
  have k := foldl_changePipe_same f l (touch r s)
  have ht := touch_answers r s
  rw [runToune_runs op body r s h, e]
  refine ⟨⟨?_, ?_, respOf op r 0 [], rfl, rfl, rfl, rfl, ?_⟩, fun p => ?_⟩
  · rw [finish_waits _ _ _ _ _ rfl]
    exact (congrArg Toune.responses (k.toune rfl)).trans (touch_responses r s)
  · rw [finish_events]
    exact (congrArg Toune.events (k.toune rfl)).trans (touch_events r s)
  · rw [(finish_answers ..).sys, defer, State.setSys_sys, k.sys rfl, ht.sys, dueTick, ht.tick, ← dueTick]
  · rw [(finish_answers ..).pipeAt]
    exact (pipeAt_foldl (pipeAt_changePipe f) hl (touch r s) p).trans (by rw [pipeAt_touch])

end

end Sys2Proof.Machine
end

section
/-! Proofs.  Loading and switching parse graphs and profiles, and the change of bank masks (R126, R128, R146, R147). -/

namespace Sys2Proof.Machine

/-! ### Loads -/

section
variable {r : Req} {s : State} {b : List Byte} (h1 : 1 ≤ rd r.payload 0 1) (h15 : rd r.payload 0 1 ≤ 15)
include h1 h15

section
variable (hl : r.payload.length = 24) (hz : zeros r.payload 1 7 = true) (hb : descBytes r 8 s = .ok b)
include hl hz hb

theorem bodyGraphLoad_fault {st : Half} {pl : List Byte} (hf : graphFault b = some (st, pl)) :
    bodyGraphLoad r s = (s, { status := st, payload := pl }) := by
  simp [bodyGraphLoad, hl, hz, pipeMask_legal h1 h15, hb, hf]

theorem bodyGraphLoad_loads (hf : graphFault b = none)
    (hi : ∀ p ∈ pipesOf (rd r.payload 0 1), bankDraining s p true = false ∧ (pipeAt s p).graphPending = false) :
    bodyGraphLoad r s = ((pipesOf (rd r.payload 0 1)).foldl (changePipeTold Ev.graphLoaded
      (fun p x => le 1 p ++ le 1 (b2n !x.graphActive) ++ le 4 (rd b 0x0C 4))
      (fun x => x.putIdleGraph { valid := true, image := b })) s, .yes []) := by
  have hany : (pipesOf (rd r.payload 0 1)).any (fun p => bankDraining s p true || (pipeAt s p).graphPending) = false :=
    List.any_eq_false.mpr (fun p hp => by simp [hi p hp])
  simp only [bodyGraphLoad, hl, hz, pipeMask_legal h1 h15, hb, hf, hany]
  rfl

theorem bodyProfileLoad_fault {st : Half} {pl : List Byte}
    (hf : profileFaultOn (fun j k => (pipesOf (rd r.payload 0 1)).any (fun p => lookupBreach s p b j k)) b = some (st, pl)) :
    bodyProfileLoad r s = (s, { status := st, payload := pl }) := by
  simp [bodyProfileLoad, hl, hz, pipeMask_legal h1 h15, hb, hf]

theorem bodyProfileLoad_loads
    (hf : profileFaultOn (fun j k => (pipesOf (rd r.payload 0 1)).any (fun p => lookupBreach s p b j k)) b = none)
    (hi : ∀ p ∈ pipesOf (rd r.payload 0 1), bankDraining s p false = false ∧ (pipeAt s p).profPending = false) :
    bodyProfileLoad r s = ((pipesOf (rd r.payload 0 1)).foldl (changePipeTold Ev.profileLoaded
      (fun p x => le 1 p ++ le 1 (b2n !x.profActive) ++ le 4 (rd b 0x0C 4))
      (fun x => x.putIdleProf { valid := true, image := b })) s, .yes []) := by
  have hany : (pipesOf (rd r.payload 0 1)).any (fun p => bankDraining s p false || (pipeAt s p).profPending) = false :=
    List.any_eq_false.mpr (fun p hp => by simp [hi p hp])
  simp only [bodyProfileLoad, hl, hz, pipeMask_legal h1 h15, hb, hf, hany]
  rfl

end

/-! ### Switches -/

section
variable (hl : r.payload.length = 8)
include hl

theorem bodyGraphSwitch_invalid (hz : zeros r.payload 1 7 = true)
    (hi : ∃ p ∈ pipesOf (rd r.payload 0 1), (idleGraph (pipeAt s p)).valid = false) :
    bodyGraphSwitch r s = (s, .no St.eArg) := by
  have hany : (pipesOf (rd r.payload 0 1)).any (fun p => !(idleGraph (pipeAt s p)).valid) = true := by
    simpa using hi
  simp [bodyGraphSwitch, hl, hz, pipeMask_legal h1 h15, hany]

theorem bodyGraphSwitch_marks (hz : zeros r.payload 1 7 = true)
    (hi : ∀ p ∈ pipesOf (rd r.payload 0 1), (idleGraph (pipeAt s p)).valid = true ∧ (pipeAt s p).graphPending = false) :
    bodyGraphSwitch r s =
      (defer { due := dueTick s r.cycle, change := .graphSwitch (rd r.payload 0 1)
               resp := some (respOf Op.graphSwitch r 0 []) }
        ((pipesOf (rd r.payload 0 1)).foldl (changePipe (fun x => { x with graphPending := true })) s), { waits := true }) := by
  have hvalid : (pipesOf (rd r.payload 0 1)).any (fun p => !(idleGraph (pipeAt s p)).valid) = false :=
    List.any_eq_false.mpr (fun p hp => by simp [hi p hp])
  have hfree : (pipesOf (rd r.payload 0 1)).any (fun p => (pipeAt s p).graphPending) = false :=
    List.any_eq_false.mpr (fun p hp => by simp [hi p hp])
  simp only [bodyGraphSwitch, hl, hz, pipeMask_legal h1 h15, hvalid, hfree]
  rfl

section
variable {wg : Bool} (hw : rd r.payload 1 1 = b2n wg) (hz : zeros r.payload 2 6 = true)
include hw hz

/-- A PROFILE_SWITCH with a legal argument is judged by the banks of the pipelines named, then by what waits on them. -/
theorem bodyProfileSwitch_legal : bodyProfileSwitch r s =
    if (pipesOf (rd r.payload 0 1)).any (profileSwitchBad s wg) then (s, .no St.eArg)
    else if (pipesOf (rd r.payload 0 1)).any (fun p =>
        (pipeAt s p).profPending || (pipeAt s p).commitPending || (wg && (pipeAt s p).graphPending)) then (s, .no St.eBusy)
    else (defer { due := dueTick s r.cycle, change := .profileSwitch (rd r.payload 0 1) wg
                  resp := some (respOf Op.profileSwitch r 0 []) }
      ((pipesOf (rd r.payload 0 1)).foldl (changePipe (fun x =>
        { x with profPending := true, graphPending := x.graphPending || wg })) s), { waits := true }) := by
  cases wg <;> simp only [bodyProfileSwitch, hl, hw, hz, pipeMask_legal h1 h15] <;> rfl

theorem bodyProfileSwitch_bad (hi : ∃ p ∈ pipesOf (rd r.payload 0 1), profileSwitchBad s wg p = true) :
    bodyProfileSwitch r s = (s, .no St.eArg) :=
  (bodyProfileSwitch_legal h1 h15 hl hw hz).trans (if_pos (List.any_eq_true.mpr hi))

theorem bodyProfileSwitch_marks
    (hi : ∀ p ∈ pipesOf (rd r.payload 0 1), profileSwitchBad s wg p = false ∧ (pipeAt s p).profPending = false ∧
      (pipeAt s p).commitPending = false ∧ (wg = true → (pipeAt s p).graphPending = false)) :
    bodyProfileSwitch r s =
      (defer { due := dueTick s r.cycle, change := .profileSwitch (rd r.payload 0 1) wg
               resp := some (respOf Op.profileSwitch r 0 []) }
        ((pipesOf (rd r.payload 0 1)).foldl (changePipe (fun x =>
          { x with profPending := true, graphPending := x.graphPending || wg })) s), { waits := true }) := by
  rw [bodyProfileSwitch_legal h1 h15 hl hw hz, if_neg, if_neg]
  · simp only [List.any_eq_true, not_exists, not_and]
    intro p hp
    obtain ⟨-, hprof, hcommit, hgraph⟩ := hi p hp
    simpa [hprof, hcommit] using hgraph
  · simp only [List.any_eq_true, not_exists, not_and]
    intro p hp
    simp [(hi p hp).1]

end

end

/-! ### The change of masks -/

/-- Why BANKMASK_COMMIT is refused on pipeline `p` with E_ARG (R146, R617): no valid active image, a triple that names no valid
lookup, or masks that break R134 or R174. -/
def commitBad (s : State) (items : List (Nat × Nat × Nat)) (p : Nat) : Bool :=
  !(activeProf (pipeAt s p)).valid ||
  items.any (fun i => i.1 > 63 || i.2.1 > 3 || !bitOf (rd (imageAhead s p) (profOff i.1) 1) 0 ||
    !bitOf (rd (imageAhead s p) (lookOff i.1 i.2.1 + 3) 1) 0) ||
  (badProfile s p (withMasks (imageAhead s p) items)).isSome

section
variable {n : Nat} (hn : n = rd r.payload 2 2) (hl : r.payload.length = 8 + 4 * n) (hn1 : 1 ≤ n) (hn256 : n ≤ 256)
  (hz1 : zeros r.payload 1 1 = true) (hz4 : zeros r.payload 4 4 = true)
include hn hl hn1 hn256 hz1 hz4

/-- A BANKMASK_COMMIT with a legal argument is judged by the pipelines named, then by what waits on them. -/
theorem bodyBankmaskCommit_legal : bodyBankmaskCommit r s =
    if (pipesOf (rd r.payload 0 1)).any (commitBad s (commitItems r.payload n)) then (s, .no St.eArg)
    else if (pipesOf (rd r.payload 0 1)).any (fun p => (pipeAt s p).profPending) then (s, .no St.eBusy)
    else (defer { due := dueTick s r.cycle, change := .bankMask (rd r.payload 0 1) (commitItems r.payload n)
                  resp := some (respOf Op.bankmaskCommit r 0 []) }
      ((pipesOf (rd r.payload 0 1)).foldl (changePipe (fun x => { x with commitPending := true })) s), { waits := true }) := by
  subst hn
  unfold bodyBankmaskCommit
  dsimp only
  rw [if_neg (by simp only [hz1, hz4, Bool.not_true, Bool.false_eq_true, false_or]; omega), pipeMask_legal h1 h15]
  rfl

theorem bodyBankmaskCommit_invalid
    (hi : ∃ p ∈ pipesOf (rd r.payload 0 1), (activeProf (pipeAt s p)).valid = false) :
    bodyBankmaskCommit r s = (s, .no St.eArg) := by
  obtain ⟨p, hp, hv⟩ := hi
  rw [bodyBankmaskCommit_legal h1 h15 hn hl hn1 hn256 hz1 hz4,
    if_pos (List.any_eq_true.mpr ⟨p, hp, by simp [commitBad, hv]⟩)]

theorem bodyBankmaskCommit_marks
    (hi : ∀ p ∈ pipesOf (rd r.payload 0 1), (activeProf (pipeAt s p)).valid = true ∧ (pipeAt s p).profPending = false ∧
      badProfile s p (withMasks (imageAhead s p) (commitItems r.payload n)) = none ∧
      ∀ i ∈ commitItems r.payload n, i.1 < 64 ∧ i.2.1 < 4 ∧ bitOf (rd (imageAhead s p) (profOff i.1) 1) 0 = true ∧
        bitOf (rd (imageAhead s p) (lookOff i.1 i.2.1 + 3) 1) 0 = true) :
    bodyBankmaskCommit r s =
      (defer { due := dueTick s r.cycle, change := .bankMask (rd r.payload 0 1) (commitItems r.payload n)
               resp := some (respOf Op.bankmaskCommit r 0 []) }
        ((pipesOf (rd r.payload 0 1)).foldl (changePipe (fun x => { x with commitPending := true })) s), { waits := true }) := by
  rw [bodyBankmaskCommit_legal h1 h15 hn hl hn1 hn256 hz1 hz4, if_neg, if_neg]
  · simp only [List.any_eq_true, not_exists, not_and]
    intro p hp
    simp [(hi p hp).2.1]
  · simp only [List.any_eq_true, not_exists, not_and]
    intro p hp
    obtain ⟨hv, -, hmasks, hitems⟩ := hi p hp
    have hany : (commitItems r.payload n).any (fun i => i.1 > 63 || i.2.1 > 3 ||
        !bitOf (rd (imageAhead s p) (profOff i.1) 1) 0 ||
        !bitOf (rd (imageAhead s p) (lookOff i.1 i.2.1 + 3) 1) 0) = false := by
      refine List.any_eq_false.mpr (fun i hi => ?_)
      obtain ⟨hj, hk, hprofile, hlookup⟩ := hitems i hi
      simpa [hprofile, hlookup] using ⟨Nat.le_of_lt_succ hj, Nat.le_of_lt_succ hk⟩
    simp [commitBad, hv, hany, hmasks]

end

end

/-! ### PARSE_ERR_RATE -/

theorem parseErrRate_idle {p : Nat} {s : State} (h : (reg s 8 p 3).toNat = 0 ∨
    recentSum s (pipeAt s p).flagged ≤ (reg s 8 p 3).toNat ∨ raisedInPeriod s (65536 * Ev.parseErrRate + p) = true) :
    parseErrRate p s = s := by
  unfold parseErrRate raiseOnce
  dsimp only
  split
  next => rfl
  next hn => exact if_pos ((h.resolve_left (fun a => hn (.inl a))).resolve_left (fun a => hn (.inr a)))

/-- An event limited to one in a period is noted in the period in which it is raised. -/
theorem raiseOnce_raises {code key : Nat} (d : Nat → List Byte) {s : State}
    (h : raisedInPeriod s (65536 * code + key) = false) :
    raisedInPeriod (raiseOnce code key d s) (65536 * code + key) = true ∧
      Raised [(code, d (occurrences s (65536 * code + key)))] s (raiseOnce code key d s) := by
  unfold raiseOnce
  rw [if_neg (by simp [h])]
  refine ⟨?_, raise_raised code _ rfl⟩
  have hm : (tgetD (fun _ => {}) (tput s.sys.marks (65536 * code + key)
      { markAt s (65536 * code + key) with raised := some (period s) }) (65536 * code + key)).raised = some (period s) := by
    rw [tgetD_tput_self]
  exact beq_iff_eq.mpr hm

theorem parseErrRate_raises {p : Nat} {s : State} (h0 : 0 < (reg s 8 p 3).toNat)
    (hn : (reg s 8 p 3).toNat < recentSum s (pipeAt s p).flagged)
    (hr : raisedInPeriod s (65536 * Ev.parseErrRate + p) = false) :
    raisedInPeriod (parseErrRate p s) (65536 * Ev.parseErrRate + p) = true ∧
      Raised [(Ev.parseErrRate, le 1 p ++ le 4 (recentSum s (pipeAt s p).flagged))] s (parseErrRate p s) := by
  unfold parseErrRate
  dsimp only
  rw [if_neg (by omega)]
  exact raiseOnce_raises _ hr

/-! ### The statement -/

/-- Settles O40: each body by its case on the state in which the request has been noted, and what its answer leaves.  That a
commit over an active image that is not valid is E_ARG is the model's choice of log 25; the period and the count of
PARSE_ERR_RATE are those of log 17. -/
theorem graphsAndProfilesAreLoadedAndSwitched : Obligations.GraphsAndProfilesAreLoadedAndSwitched := by
  rintro r s m rfl h1 h15
  have hd := pipesOf_nodup (rd r.payload 0 1)
  refine ⟨fun b hr hl hz hb => ⟨fun st pl hf => ?_, fun hf hi => ?_⟩, fun hr hl hz => ⟨fun hi => ?_, fun hi => ?_⟩,
    fun b hr hl hz hb => ⟨fun st pl hf => ?_, fun hf hi => ?_⟩, fun wg hr hl hw hz => ⟨fun hi => ?_, fun hi => ?_⟩,
    fun n hr hn hl hn1 hn256 hz1 hz4 => ⟨fun hi => ?_, fun hi => ?_⟩,
    fun p => ⟨fun h => ?_, fun h0 hn hr => ?_⟩⟩
  · exact ⟨_, rfl, runs_answers hr
      (bodyGraphLoad_fault h1 h15 hl hz ((descBytes_touch ..).trans hb) hf) rfl⟩
  · obtain ⟨ha, he, hp⟩ := runs_changes hr hd
      (bodyGraphLoad_loads h1 h15 hl hz ((descBytes_touch ..).trans hb) hf (by simpa using hi))
    exact ⟨_, rfl, ha, he, fun p h => by simp [hp, h], fun p h => by simp [hp, h]⟩
  · exact ⟨_, rfl, runs_answers hr (bodyGraphSwitch_invalid h1 h15 hl hz (by simpa using hi)) rfl⟩
  · exact ⟨_, rfl, runs_marks hr hd (bodyGraphSwitch_marks h1 h15 hl hz (by simpa using hi))⟩
  · exact ⟨_, rfl, runs_answers hr
      (bodyProfileLoad_fault h1 h15 hl hz ((descBytes_touch ..).trans hb) (by simpa using hf)) rfl⟩
  · obtain ⟨ha, he, hp⟩ := runs_changes hr hd
      (bodyProfileLoad_loads h1 h15 hl hz ((descBytes_touch ..).trans hb) (by simpa using hf) (by simpa using hi))
    exact ⟨_, rfl, ha, he, fun p h => by simp [hp, h], fun p h => by simp [hp, h]⟩
  · exact ⟨_, rfl, runs_answers hr (bodyProfileSwitch_bad h1 h15 hl hw hz (by simpa using hi)) rfl⟩
  · exact ⟨_, rfl, runs_marks hr hd (bodyProfileSwitch_marks h1 h15 hl hw hz (by simpa using hi))⟩
  · exact ⟨_, rfl, runs_answers hr
      (bodyBankmaskCommit_invalid h1 h15 hn hl hn1 hn256 hz1 hz4 (by simpa using hi)) rfl⟩
  · exact ⟨_, rfl, runs_marks hr hd
      (bodyBankmaskCommit_marks h1 h15 hn hl hn1 hn256 hz1 hz4
        (by simpa only [pipeAt_touch, imageAhead_touch, badProfile_touch] using hi))⟩
  · exact congrArg Host.Outcome.next (parseErrRate_idle h)
  · obtain ⟨hm, he⟩ := parseErrRate_raises h0 hn hr
    exact ⟨_, rfl, hm, he, (parseErrRate_same p s).path rfl⟩

end Sys2Proof.Machine
end

section
/-! Proofs.  The rules of a port's FIFO and of the packets inside the device: what each reads after the operations by which a
packet enters, is discarded or comes to want cells (R24, R25, R242, R340). -/

namespace Sys2Proof.Machine

/-! ### FIFOs -/

theorem fifoAt_congr {s t : State} (h : t.ports.fifo = s.ports.fifo) (n : Nat) : fifoAt t n = fifoAt s n := by
  unfold fifoAt; rw [h]

/-- Behind the frame at the head stand the frames that were behind it. -/
theorem fifoAt_popFifo {s : State} {n : Nat} {f : FifoFrame} {rest : List FifoFrame} (h : fifoAt s n = f :: rest) :
    fifoAt (popFifo n s) n = rest := by
  unfold popFifo
  rw [h]
  cases rest with
  | nil =>
    unfold fifoAt tgetD
    rw [State.setPorts_ports, tfind_terase, if_pos rfl]
    rfl
  | cons g rest => exact tgetD_tput_self ..

/-- An operation repeated over a list leaves the FIFOs when each turn of it does. -/
theorem foldl_fifo {α : Type} {g : State → α → State} (h : ∀ s a, (g s a).ports.fifo = s.ports.fifo) (l : List α) (s : State) :
    (l.foldl g s).ports.fifo = s.ports.fifo :=
  List.foldlRecOn l g (motive := fun t => t.ports.fifo = s.ports.fifo) rfl fun t ht a _ => (h t a).trans ht

theorem setPort_fifo (n : Nat) (x : Port) (s : State) : (setPort n x s).ports.fifo = s.ports.fifo := rfl

theorem drawn_fifo (s : State) : (drawn s).ports.fifo = s.ports.fifo := rfl

theorem sendPause_fifo (n prio quanta : Nat) (s : State) : (sendPause n prio quanta s).ports.fifo = s.ports.fifo := by
  unfold sendPause
  rw [drawn_fifo, (bump48_same ..).ports rfl]
  rfl

theorem settlePause_fifo (n prio : Nat) (s : State) : (settlePause n prio s).ports.fifo = s.ports.fifo := by
  unfold settlePause
  dsimp only
  split
  · split
    · rfl
    · rfl
  · split
    · rw [sendPause_fifo, drawn_fifo, setPort_fifo]
    · split
      · split
        · rfl
        · rw [sendPause_fifo, setPort_fifo]
      · rfl

theorem unblock_fifo (p g : Nat) (s : State) : (unblock p g s).ports.fifo = s.ports.fifo := by
  unfold unblock
  refine foldl_fifo (fun s n => ?_) _ s
  extract_lets x fits
  split
  · rfl
  · exact (foldl_fifo (fun _ _ => settlePause_fifo ..) _ _).trans (setPort_fifo ..)

theorem unstage_fifo (x : Packet) (s : State) : (unstage x s).ports.fifo = s.ports.fifo := by
  unfold unstage
  split
  · rfl
  · extract_lets g y left
    rw [unblock_fifo]
    rfl

/-- A port that comes to be held for a priority is held for it, whatever pause that begins (R25, R98). -/
theorem settlePause_blocked (n prio : Nat) (s : State) (m : Nat) :
    (portAt (settlePause n prio s) m).blocked = (portAt s m).blocked := by
  obtain ⟨xo, h⟩ := (settlePause_sendsPauses (ns := fun _ => True) (n := n) trivial prio s).port m
  rw [h]

/-! ### Packets -/

theorem pktAt_congr {s t : State} (h : t.path = s.path) (k : Nat) : pktAt t k = pktAt s k := by
  unfold pktAt; rw [h]

@[simp] theorem pktAt_putPkt_self (k : Nat) (x : Packet) (s : State) : pktAt (putPkt k x s) k = some x :=
  (tfind_tput ..).trans (if_pos rfl)

@[simp] theorem pktAt_delPkt_self (k : Nat) (s : State) : pktAt (delPkt k s) k = none :=
  (tfind_terase ..).trans (if_pos rfl)

/-- A discarded packet is inside the device no more. -/
theorem pktAt_discardPkt (k : Nat) (x : Packet) (outcome stages : Nat) (s : State) :
    pktAt (discardPkt k x outcome stages s) k = none :=
  (pktAt_congr ((record_same ..).path rfl) k).trans (pktAt_delPkt_self ..)

theorem discardPkt_fifo (k : Nat) (x : Packet) (outcome stages : Nat) (s : State) :
    (discardPkt k x outcome stages s).ports.fifo = s.ports.fifo :=
  (congrArg Ports.fifo ((record_same ..).ports rfl)).trans (unstage_fifo x s)

/-- Packet `x` is put at `k` as the next one that wants cells (R242). -/
def wantCells (k : Nat) (x : Packet) (s : State) : State :=
  putPkt k { x with stage := .cells, order := s.path.nextOrder } (s.setPath { s.path with nextOrder := s.path.nextOrder + 1 })

theorem wantCells_same (k : Nat) (x : Packet) (s : State) : Same 2048 s (wantCells k x s) :=
  (Same.setPath ..).trans (putPkt_same ..)

@[simp] theorem pktAt_wantCells_self (k : Nat) (x : Packet) (s : State) :
    pktAt (wantCells k x s) k = some { x with stage := .cells, order := s.path.nextOrder } := pktAt_putPkt_self ..

/-- A packet for one port, with no rewrite, no mark and nothing to learn, comes to want cells with its frame as it is. -/
theorem egressFinal_toPort {x : Packet} {port : Nat} (hr : x.route = { dest := .port port }) (hm : x.mark = none)
    (hl : x.learn = none) (k : Nat) (out : List Byte) (stages : Nat) (s : State) :
    egressFinal k x out stages s = wantCells k { x with out := out } s := by
  simp only [egressFinal, wantCells, queueLearn, nhApply, markApply, hr, hm, hl, Bool.false_and, Bool.true_and, Bool.not_false,
    Bool.false_eq_true, ↓reduceIte, beq_iff_eq, reduceCtorEq, Option.isNone_iff_eq_none, false_and, imp_self, implies_true]

/-! ### The comparators -/

/-- The comparators decide the same where the settings are the same (R153). -/
theorem rcmpDecide_congr {s t : State} (h : t.prm.regs = s.prm.regs) (p source : Nat) (f : List Byte) :
    rcmpDecide t p source f = rcmpDecide s p source f := by
  have hm : rcmpMatches t p source = rcmpMatches s p source := by
    funext e c
    unfold rcmpMatches
    rw [reg_congr h, reg_congr h]
  unfold rcmpDecide
  simp only [hm, reg_congr h]

end Sys2Proof.Machine
end

section
/-! Proofs.  The bootstrap filter: the slot and the staging share of a front port's frame, and what the comparators alone decide
of it (R15, R24, R25, R82, R85, R152, R153). -/

namespace Sys2Proof.Machine

/-! ### A packet under its number -/

/-- A packet that has a slot, with the banks that are active now, its port class and the sampler's choice (R126, R131, R525). -/
def bankedPacket (x : Packet) (s : State) : Packet :=
  { x with
    container := emptyContainer
    startNode := rd (activeGraph (pipeAt s x.pipe)).image (0x10 + (if x.source = 0 then 0 else x.source)) 1
    graphBank := (pipeAt s x.pipe).graphActive, profBank := (pipeAt s x.pipe).profActive
    portClass := portClassOf s x.pipe x.source x.port
    sample := { x.sample with mode := (sampleMode x.pipe s).2 } }

/-- The packet has been entered under the next number, and the sampler has chosen. -/
def numbered (x : Packet) (s : State) : State := newPkt (bankedPacket x s) (sampleMode x.pipe s).1

theorem numbered_same (x : Packet) (s : State) : Same 67586 s (numbered x s) :=
  ((sampleMode_same ..).mono (by decide)).trans ((newPkt_same ..).mono (by decide))

/-- The first pass of a packet that the comparators alone classify (R152). -/
theorem firstPass_bootstrap {x : Packet} {s : State} (h : bootstrapOnly s x = true) (found : PassFound) :
    firstPass x found s = bootstrapPass s.path.nextPkt (bankedPacket x s) (numbered x s) := if_pos h

/-- In KINDLING, CONFIGURE and TEST the comparators alone classify what is not a test frame (R152). -/
theorem bootstrapOnly_received {x : Packet} {s : State} (hx : x.test = false)
    (h : s.sys.mode = .kindling ∨ s.sys.mode = .configure ∨ s.sys.mode = .test) : bootstrapOnly s x = true := by
  unfold bootstrapOnly
  rcases h with h | h | h
  · simp only [h]
  · simp only [h]
  · simp only [h, hx, Bool.false_and, Bool.not_false]

/-! ### What the comparators decide -/

/-- A packet that a comparator forwards, for the port, class and protection that it names (R153). -/
def forwardedPacket (x : Packet) (port cls : Nat) (prot : Bool) : Packet :=
  { x with route := { dest := .port port }, cls := cls, protection := prot, out := x.frame }

section
variable {x : Packet} {s : State} {c : Option Nat}

theorem bootstrapPass_forwards {port cls : Nat} {prot : Bool}
    (h : rcmpDecide s x.pipe x.source x.frame = (c, .forward port cls prot)) (hm : x.mark = none) (hl : x.learn = none)
    (k : Nat) : bootstrapPass k x s = wantCells k (forwardedPacket x port cls prot) (countRcmp x.pipe c s) := by
  unfold bootstrapPass
  rw [h]
  refine egressFinal_toPort (port := port) ?_ ?_ ?_ ..
  · rfl
  · exact hm
  · exact hl

theorem bootstrapPass_discards {v : RcmpVerdict} (h : rcmpDecide s x.pipe x.source x.frame = (c, v))
    (hv : v = .drop ∨ v = .noMatch) (k : Nat) :
    bootstrapPass k x s = discardPkt k x 5 3 (countRcmp x.pipe c s) := by
  unfold bootstrapPass
  rw [h]
  rcases hv with rfl | rfl <;> rfl

end

/-! ### The first pass of a received packet -/

/-- The packet has been entered, and the comparator that decides has counted it (R157). -/
def classified (x : Packet) (c : Option Nat) (s : State) : State := countRcmp x.pipe c (numbered x s)

theorem classified_same (x : Packet) (c : Option Nat) (s : State) : Same 67618 s (classified x c s) :=
  ((numbered_same ..).mono (by decide)).trans ((countRcmp_same ..).mono (by decide))

theorem classified_nextPkt (x : Packet) (c : Option Nat) (s : State) :
    (classified x c s).path.nextPkt = s.path.nextPkt + 1 := by
  rw [classified, (countRcmp_same ..).path rfl, ← (sampleMode_same x.pipe s).path rfl]
  rfl

theorem classified_pipe (x : Packet) (c : Option Nat) (s : State) : (classified x c s).path.pipe = s.path.pipe := by
  rw [classified, (countRcmp_same ..).path rfl, ← (sampleMode_same x.pipe s).path rfl]
  rfl

/-- The packet has been forwarded by the comparators' decision (R153). -/
def forwarded (x : Packet) (c : Option Nat) (port cls : Nat) (prot : Bool) (s : State) : State :=
  wantCells s.path.nextPkt (forwardedPacket (bankedPacket x s) port cls prot) (classified x c s)

section
variable (x : Packet) (c : Option Nat) (port cls : Nat) (prot : Bool) (s : State)

theorem forwarded_same : Same 67618 s (forwarded x c port cls prot s) :=
  (classified_same ..).trans ((wantCells_same ..).mono (by decide))

theorem pktAt_forwarded : pktAt (forwarded x c port cls prot s) s.path.nextPkt = some
    { forwardedPacket (bankedPacket x s) port cls prot with stage := .cells, order := (classified x c s).path.nextOrder } :=
  pktAt_wantCells_self ..

theorem forwarded_nextPkt : (forwarded x c port cls prot s).path.nextPkt = s.path.nextPkt + 1 := classified_nextPkt ..

theorem forwarded_pipe : (forwarded x c port cls prot s).path.pipe = s.path.pipe := classified_pipe ..

end

section
variable {x : Packet} {s : State} {c : Option Nat} (hx : x.test = false)
  (hm : s.sys.mode = .kindling ∨ s.sys.mode = .configure ∨ s.sys.mode = .test)
include hx hm

theorem firstPass_forwards {port cls : Nat} {prot : Bool}
    (h : rcmpDecide s x.pipe x.source x.frame = (c, .forward port cls prot)) (hk : x.mark = none) (hl : x.learn = none)
    (found : PassFound) : firstPass x found s = forwarded x c port cls prot s := by
  rw [firstPass_bootstrap (bootstrapOnly_received hx hm)]
  exact bootstrapPass_forwards (x := bankedPacket x s) ((rcmpDecide_congr ((numbered_same x s).regs rfl) ..).trans h) hk hl _

theorem firstPass_discards {v : RcmpVerdict} (h : rcmpDecide s x.pipe x.source x.frame = (c, v))
    (hv : v = .drop ∨ v = .noMatch) (found : PassFound) :
    firstPass x found s = discardPkt s.path.nextPkt (bankedPacket x s) 5 3 (classified x c s) := by
  rw [firstPass_bootstrap (bootstrapOnly_received hx hm)]
  exact bootstrapPass_discards (x := bankedPacket x s) ((rcmpDecide_congr ((numbered_same x s).regs rfl) ..).trans h) hv _

end

/-! ### Slots and staging -/

/-- The packet that frame `f` of front port `n` becomes in pipeline `p` (R349). -/
def frontPacket (p n : Nat) (f : FifoFrame) (s : State) : Packet :=
  { pipe := p, source := 0, port := n, owner := n, prio := pausePrio s n f.bytes, frame := f.bytes, out := f.bytes
    stamp := f.stamp, bad := f.bad, early := f.early }

/-- The record of pipeline `p` when frame `f` of front port `n` has taken a slot and its cells of staging (R15, R24). -/
def slottedPipe (p n : Nat) (f : FifoFrame) (s : State) : Pipe :=
  { pipeAt s p with
    frontSlots := (pipeAt s p).frontSlots + 1
    staging := tput (pipeAt s p).staging (n % 32 / 8) (stagingUse s p (n % 32 / 8) + cellsOf f.bytes.length) }

/-- The frame at the head of a front port's FIFO has left it for a slot (R15, R24, R82). -/
def frontSlotTaken (p n : Nat) (f : FifoFrame) (s : State) : State :=
  pipeEvent p 0x2100 1 (setPipe p (slottedPipe p n f s)
    (setPort n { portAt s n with slots := (portAt s n).slots + 1 } (popFifo n s)))

/-- No room in the share of a front port's group: its frame's priority `prio` is held against the partner (R25). -/
def stagingHeld (p n prio : Nat) (s : State) : State :=
  let s1 := pipeEvent p 0x4011 1 s
  if (portAt s n).blocked.contains prio then s1
  else settlePause n prio (setPort n { portAt s n with blocked := (portAt s n).blocked ++ [prio] } s1)

section
variable {s : State} {p n : Nat} {f : FifoFrame} {rest : List FifoFrame}

/-- PIPELINE_PASS of a front port's frame, in a pipeline in service that the port belongs to (R13). -/
theorem exec_pipelinePass_front {p : Fin 4} {n : Fin 128} (hs : inService s 7 p = true) (hm : s.sys.mode ≠ .reset)
    (hp : pipeOfPort n = p) (found : PassFound) :
    exec (.pipelinePass p (.front n) found) s = .next (frontPass p n found s) := by
  have hc : ¬ (!inService s 7 p ∨ s.sys.mode = .reset) := by
    rintro (h | h)
    · rw [hs] at h
      cases h
    · exact hm h
  exact congrArg Host.Outcome.next ((if_neg hc).trans (if_pos hp))

/-- An UP port finds a slot of its own and of the pipeline (R15, R82, R85). -/
theorem slot_left (hs : (pipeAt s p).frontSlots < 4800) (hl : (portAt s n).slots < 150 * codeLanes (portAt s n).mode)
    (hu : (portAt s n).st = .up) : ¬ (((portAt s n).st ≠ .up ∧ (portAt s n).st ≠ .fault) ∨
      (pipeAt s p).frontSlots ≥ 4800 ∨ (portAt s n).slots ≥ 150 * codeLanes (portAt s n).mode) := by
  rintro (⟨h, -⟩ | h | h)
  · exact h hu
  · exact Nat.not_lt.mpr h hs
  · exact Nat.not_lt.mpr h hl

section
variable (hf : fifoAt s n = f :: rest) (ht : ptpTerminated s n f.bytes = false)
include hf ht

/-- No slot is left, or the port is neither UP nor in FAULT (R15, R82, R85). -/
theorem frontPass_idle (h : 4800 ≤ (pipeAt s p).frontSlots ∨ 150 * codeLanes (portAt s n).mode ≤ (portAt s n).slots ∨
    ((portAt s n).st ≠ .up ∧ (portAt s n).st ≠ .fault)) (found : PassFound) : frontPass p n found s = s := by
  unfold frontPass
  rw [hf]
  have hc : ((portAt s n).st ≠ .up ∧ (portAt s n).st ≠ .fault) ∨ (pipeAt s p).frontSlots ≥ 4800 ∨
      (portAt s n).slots ≥ 150 * codeLanes (portAt s n).mode := by
    rcases h with hs | hl | hu
    · exact .inr (.inl hs)
    · exact .inr (.inr hl)
    · exact .inl hu
  dsimp only
  rw [ht, if_neg Bool.false_ne_true, if_pos hc]

variable (hs : (pipeAt s p).frontSlots < 4800) (hl : (portAt s n).slots < 150 * codeLanes (portAt s n).mode)
  (hu : (portAt s n).st = .up)
include hs hl hu

theorem frontPass_held (h : stagingShare < stagingUse s p (n % 32 / 8) + cellsOf f.bytes.length) (found : PassFound) :
    frontPass p n found s = stagingHeld p n (pausePrio s n f.bytes) s := by
  unfold frontPass
  rw [hf]
  dsimp only
  rw [ht, if_neg Bool.false_ne_true, if_neg (slot_left hs hl hu), if_pos h]
  rfl

theorem frontPass_enters (h : stagingUse s p (n % 32 / 8) + cellsOf f.bytes.length ≤ stagingShare) (found : PassFound) :
    frontPass p n found s = firstPass (frontPacket p n f s) found (frontSlotTaken p n f s) := by
  unfold frontPass
  rw [hf]
  dsimp only
  rw [ht, if_neg Bool.false_ne_true, if_neg (slot_left hs hl hu), if_neg (Nat.not_lt.mpr h)]
  rfl

end

/-! ### What stays where the share is full -/

theorem stagingHeld_path (prio : Nat) : (stagingHeld p n prio s).path = s.path := by
  have h1 := (pipeEvent_same p 0x4011 1 s).path rfl
  unfold stagingHeld
  extract_lets s1
  split
  · exact h1
  · rw [(settlePause_same ..).path rfl, (setPort_same ..).path rfl, h1]

theorem stagingHeld_fifo (prio : Nat) : (stagingHeld p n prio s).ports.fifo = s.ports.fifo := by
  have h1 := (pipeEvent_same p 0x4011 1 s).ports rfl
  unfold stagingHeld
  extract_lets s1
  split
  · rw [h1]
  · rw [settlePause_fifo, setPort_fifo, h1]

theorem stagingHeld_blocked (prio : Nat) : (portAt (stagingHeld p n prio s) n).blocked.contains prio = true := by
  unfold stagingHeld
  split
  next h => rwa [portAt_congr (congrArg Ports.port ((pipeEvent_same p 0x4011 1 s).ports rfl))]
  next =>
    rw [settlePause_blocked, portAt_setPort_self]
    simp only [List.contains_eq_mem, List.mem_append, List.mem_singleton, or_true, decide_true]

/-! ### What a slot takes -/

theorem frontSlotTaken_same : Same 3104 s (frontSlotTaken p n f s) :=
  ((((popFifo_same ..).mono (by decide)).trans ((setPort_same ..).mono (by decide))).trans
    ((setPipe_same ..).mono (by decide))).trans ((pipeEvent_same ..).mono (by decide))

theorem frontSlotTaken_path :
    (frontSlotTaken p n f s).path = { s.path with pipe := tput s.path.pipe p (slottedPipe p n f s) } := by
  rw [frontSlotTaken, (pipeEvent_same ..).path rfl]
  rfl

/-- What a state reads that has the ports and the pipelines of a slot just taken. -/
theorem reads_of_frontSlotTaken {t : State} (hf : fifoAt s n = f :: rest) (hports : t.ports = (frontSlotTaken p n f s).ports)
    (hpipe : t.path.pipe = (frontSlotTaken p n f s).path.pipe) :
    fifoAt t n = rest ∧ (pipeAt t p).frontSlots = (pipeAt s p).frontSlots + 1 ∧
    (portAt t n).slots = (portAt s n).slots + 1 ∧
    stagingUse t p (n % 32 / 8) = stagingUse s p (n % 32 / 8) + cellsOf f.bytes.length := by
  rw [frontSlotTaken, (pipeEvent_same ..).ports rfl] at hports
  have hy : pipeAt t p = slottedPipe p n f s := by
    rw [pipeAt, hpipe, frontSlotTaken_path]
    exact tgetD_tput_self ..
  refine ⟨?_, congrArg Pipe.frontSlots hy, ?_, ?_⟩
  · exact (fifoAt_congr (congrArg Ports.fifo hports) n).trans (fifoAt_popFifo hf)
  · rw [portAt_congr (congrArg Ports.port hports)]
    exact congrArg Port.slots (portAt_setPort_self ..)
  · rw [stagingUse, hy]
    exact tgetD_tput_self ..

end

/-! ### The statement -/

/-- Settles O34: the frame is not taken, is held against its partner, or takes its slot; the comparators' decision then makes
it a packet that wants cells or discards it.  That the frame's own priority is held as R25's class concerned is the model's
choice of log 61. -/
theorem theBootstrapFilterPassesPackets : Obligations.TheBootstrapFilterPassesPackets := by
  intro p n found s f rest hs hm hp hf ht
  have hr : s.sys.mode ≠ .reset := by rcases hm with h | h | h <;> rw [h] <;> decide
  have he : ∀ {t}, frontPass p n found s = t → exec (.pipelinePass p (.front n) found) s = .next t := fun h =>
    (exec_pipelinePass_front hs hr hp found).trans (congrArg Host.Outcome.next h)
  refine ⟨fun h => he (frontPass_idle hf ht h found), fun hsl hpl hu => ⟨fun hfull => ?_, fun hfits => ?_⟩⟩
  · exact ⟨_, he (frontPass_held hf ht hsl hpl hu hfull found), (fifoAt_congr (stagingHeld_fifo _) _).trans hf,
      stagingHeld_path _, stagingHeld_blocked _⟩
  have hen := frontPass_enters hf ht hsl hpl hu hfits found
  have hslot : Same 3104 s (frontSlotTaken p n f s) := frontSlotTaken_same
  have hmode := (hslot.mode rfl).symm ▸ hm
  have hnext : (frontSlotTaken p n f s).path.nextPkt = s.path.nextPkt := by rw [frontSlotTaken_path]
  have hdec := rcmpDecide_congr (hslot.regs rfl) p 0 f.bytes
  refine ⟨fun c port cls prot hd => ?_, fun c v hd hv => ?_⟩
  · have hpass := firstPass_forwards (x := frontPacket p n f s) rfl hmode (hdec.trans hd) rfl rfl found
    have hsame := forwarded_same (frontPacket p n f s) c port cls prot (frontSlotTaken p n f s)
    obtain ⟨hfifo, hslots, hport, hstaging⟩ := reads_of_frontSlotTaken hf (hsame.ports rfl) (forwarded_pipe ..)
    have hpkt := pktAt_forwarded (frontPacket p n f s) c port cls prot (frontSlotTaken p n f s)
    rw [hnext] at hpkt
    exact ⟨_, _, he (hen.trans hpass), hpkt, rfl, rfl, rfl, rfl, rfl, rfl, rfl, hfifo,
      (forwarded_nextPkt ..).trans (congrArg (· + 1) hnext), hslots, hport, hstaging,
      (hsame.flow rfl).trans (hslot.flow rfl)⟩
  · have hpass := firstPass_discards (x := frontPacket p n f s) rfl hmode (hdec.trans hd) hv found
    have hsame := classified_same (frontPacket p n f s) c (frontSlotTaken p n f s)
    obtain ⟨hfifo, -, -, -⟩ := reads_of_frontSlotTaken hf (hsame.ports rfl) (classified_pipe ..)
    rw [hnext] at hpass
    exact ⟨_, he (hen.trans hpass), pktAt_discardPkt .., (fifoAt_congr (discardPkt_fifo ..) _).trans hfifo,
      ((discardPkt_same ..).flow rfl).trans ((hsame.flow rfl).trans (hslot.flow rfl))⟩

end Sys2Proof.Machine
end

section
/-! Proofs.  The rules of the rule banks' records: what a bank, its width and its partner read after each operation that the
rule commands and the maintenance port share; and the acceptance of a long operation, which takes the handle that stands next
(R159, R164, R173, R488). -/

namespace Sys2Proof.Machine

/-! ### Records of banks -/

/-- A bank reads the same where the records of banks are the same. -/
theorem bankAt_congr {s t : State} (h : t.path.bank = s.path.bank) (b : Nat) : bankAt t b = bankAt s b := by
  unfold bankAt; rw [h]

theorem bankAt_setBank (b : Nat) (x : Bank) (s : State) (k : Nat) :
    bankAt (setBank b x s) k = if k = b then x else bankAt s k := tgetD_tput ..

@[simp] theorem bankAt_setBank_self (b : Nat) (x : Bank) (s : State) : bankAt (setBank b x s) b = x := tgetD_tput_self ..

theorem bankAt_setBank_ne {b k : Nat} (x : Bank) (s : State) (h : k ≠ b) : bankAt (setBank b x s) k = bankAt s k :=
  tgetD_tput_ne _ _ _ h

theorem OnlyAnswers.bankAt {s t : State} (h : OnlyAnswers s t) (b : Nat) : bankAt t b = bankAt s b :=
  bankAt_congr (congrArg Path.bank h.path :) b

@[simp] theorem bankAt_touch (r : Req) (s : State) (b : Nat) : bankAt (touch r s) b = bankAt s b :=
  (touch_answers r s).bankAt b

/-! ### Widths and partners -/

theorem bankWidth_congr {s t : State} (h : t.prm.regs = s.prm.regs) (b : Nat) : bankWidth t b = bankWidth s b := by
  unfold bankWidth regField; rw [reg_congr h]

theorem partnerOf_congr {s t : State} (h : t.prm.regs = s.prm.regs) (b : Nat) : partnerOf t b = partnerOf s b := by
  unfold partnerOf; rw [reg_congr h]

@[simp] theorem bankWidth_touch (r : Req) (s : State) (b : Nat) : bankWidth (touch r s) b = bankWidth s b :=
  bankWidth_congr (touch_answers r s).regs b

/-- A bank without a partner passes its commits through its own port alone (R173). -/
theorem portsOf_alone {s : State} {b : Nat} (h : partnerOf s b = none) : portsOf s b = [b] := by
  unfold portsOf; rw [h]; rfl

/-! ### Reads of the shadow -/

/-- A read of a shadow without undiscovered errors finds no lost entry (R172). -/
theorem findLost_sound {b : Nat} {s : State} (h : (bankAt s b).bad = []) (rs : List Nat) : findLost b rs s = s := by
  unfold findLost
  induction rs with
  | nil => rfl
  | cons r rs ih => simpa [h] using ih

/-! ### Long operations -/

/-- The handle that stands next is the lowest free index in its next generation (R488). -/
theorem newHandle_eq {s : State} {h : Word} (hn : newHandle s = some h) : freeHandle s = some (handleIdx h) ∧
    h = BitVec.ofNat 32 (0x1000000 * (nextGen (handleAt s (handleIdx h)).gen).toNat + handleIdx h) := by
  obtain ⟨i, hi, rfl⟩ := Option.map_eq_some_iff.mp hn
  have hlt : i < 4096 := by
    unfold freeHandle at hi
    exact List.mem_range.mp (List.mem_of_find?_eq_some hi)
  have hg := (nextGen (handleAt s i).gen).isLt
  have hidx : handleIdx (BitVec.ofNat 32 (0x1000000 * (nextGen (handleAt s i).gen).toNat + i)) = i := by
    unfold handleIdx
    rw [BitVec.toNat_ofNat]
    omega
  rw [hidx]
  exact ⟨hi, rfl⟩

theorem newHandle_touch (r : Req) (s : State) : newHandle (touch r s) = newHandle s := by
  unfold newHandle freeHandle handleAt
  rw [touch_handles]

/-- The handle of a long operation has been taken (R488, R489). -/
def takeHandle (op : Nat) (r : Req) (started : Bool) (h : Word) (s : State) : State :=
  setHandle (handleIdx h)
    { gen := nextGen (handleAt s (handleIdx h)).gen, st := .running, opcode := op, session := r.session
      startTick := s.tick.count, started := started } s

/-- A long operation is accepted under the handle that stands next (R488). -/
theorem accepted_newHandle {s : State} {h : Word} (hn : newHandle s = some h) (op : Nat) (r : Req) (started : Bool)
    (k : Word → State → State) :
    accepted op r started k s = (k h (takeHandle op r started h s), { status := St.accepted, handle := h }) := by
  obtain ⟨hf, hh⟩ := newHandle_eq hn
  unfold accepted allocHandle
  rw [hf]
  dsimp only
  rw [← hh]
  rfl

/-- A request that starts a long operation, whose start leaves the protocol's own state to the handle and the answer. -/
theorem runs_starts {op : Nat} {body : Req → State → State × Reply} {r : Req} {s : State} {h : Word} {started : Bool}
    {k : Word → State → State} (hr : Runs op r s) (hn : newHandle s = some h)
    (e : body r (touch r s) = accepted op r started k (touch r s)) (hk : ∀ u, (k h u).toune = u.toune) :
    Started op r h s (runToune op body r s) ∧
      OnlyAnswers (k h (takeHandle op r started h (touch r s))) (runToune op body r s) := by
  rw [accepted_newHandle ((newHandle_touch r s).trans hn)] at e
  rw [runToune_runs op body r s hr, e]
  dsimp only
  obtain ⟨p, hp, hop, hsess, hseq, hst, -, hh⟩ := finish_answered op r { status := St.accepted, handle := h } false
    (k h (takeHandle op r started h (touch r s))) rfl
  have hresp : (k h (takeHandle op r started h (touch r s))).toune.responses = s.toune.responses :=
    (congrArg Toune.responses (hk _)).trans (touch_responses r s)
  have htaken : ∀ rep, handleAt (finish op r rep false (k h (takeHandle op r started h (touch r s)))) (handleIdx h) =
      { gen := nextGen (handleAt (touch r s) (handleIdx h)).gen, st := .running, opcode := op, session := r.session
        startTick := (touch r s).tick.count, started := started } := by
    intro rep
    unfold handleAt
    rw [finish_handles, hk]
    exact tgetD_tput_self ..
  have hanswer : AnsweredAccepted op r h s _ := ⟨p, hp.trans (by rw [hresp]), hop, hsess, hseq, hst, hh⟩
  exact ⟨⟨hanswer, by rw [htaken], by rw [htaken], by rw [htaken]⟩, finish_answers ..⟩

end Sys2Proof.Machine
end

section
/-! Proofs.  The rule commands: RULE_WRITE, RULE_INSERT, RULE_DELETE, BANK_CLEAR and RULE_READ (R159, R160, R163, R164, R181,
R618). -/

namespace Sys2Proof.Machine

/-! ### The queue of a bank -/

/-- An operation enters the queue of its bank, behind those that stand there (R164). -/
def enterRule (b op : Nat) (kind : RuleOpKind) (r : Req) (h : Word) (s : State) : State :=
  setBank b { bankAt s b with
    queue := (bankAt s b).queue ++ [{ handle := h, session := r.session, opcode := op, kind := kind }] } s

section
variable {op b : Nat} {kind : RuleOpKind} {body : Req → State → State × Reply} {r : Req} {s : State}
  (hr : Runs op r s) (e : body r (touch r s) = queueRule b op kind r (touch r s))
include hr e

theorem ruleCommand_busy (hq : 64 ≤ (bankAt s b).queue.length) :
    OnlyAnswers s (runToune op body r s) ∧ Answered op r St.eBusy [] s (runToune op body r s) :=
  runs_answers hr (e.trans (if_pos (by rwa [bankAt_touch]))) rfl

theorem ruleCommand_queued {h : Word} (hn : newHandle s = some h) (hq : (bankAt s b).queue.length < 64) :
    Started op r h s (runToune op body r s) ∧ RuleQueued b ⟨h, r.session, op, kind⟩ s (runToune op body r s) := by
  have hroom : ¬(bankAt (touch r s) b).queue.length ≥ 64 := by rw [bankAt_touch]; omega
  obtain ⟨hstart, hans⟩ := runs_starts (k := enterRule b op kind r) hr hn (e.trans (if_neg hroom)) fun _ => rfl
  have hbank : ∀ k, bankAt (runToune op body r s) k =
      if k = b then { bankAt s b with queue := (bankAt s b).queue ++ [⟨h, r.session, op, kind⟩] } else bankAt s k := by
    intro k
    rw [hans.bankAt, ← bankAt_touch r s b, ← bankAt_touch r s k]
    exact bankAt_setBank ..
  exact ⟨hstart, (hbank b).trans (if_pos rfl), fun k hk => (hbank k).trans (if_neg hk)⟩

end

/-! ### The arguments of R618 -/

section
variable {r : Req} {s : State} {w : Nat} (hb : rd r.payload 0 1 < 64) (hw : bankWidth s (rd r.payload 0 1) = w)
include hb

theorem bodyBankClear_legal (hl : r.payload.length = 8) (hz : zeros r.payload 1 7 = true) :
    bodyBankClear r s = queueRule (rd r.payload 0 1) Op.bankClear .clear r s := by
  unfold bodyBankClear
  exact if_neg (by simp only [hl, hz, Bool.not_true, Bool.false_eq_true, or_false]; omega)

variable (hz1 : zeros r.payload 1 1 = true)
include hw hz1

/-- The entries that RULE_WRITE carries, each with its row. -/
def writtenEntries (p : List Byte) (w n : Nat) : List (Nat × List RuleRow) :=
  (List.range n).map (fun i =>
    (rd p (8 + (4 + entrySize w) * i) 2, entryRows p (12 + (4 + entrySize w) * i) w))

theorem bodyRuleWrite_legal {n : Nat} (hn : rd r.payload 2 2 = n) (hz4 : zeros r.payload 4 4 = true) (h1 : 1 ≤ n)
    (h64 : n ≤ 64) (hl : r.payload.length = 8 + (4 + entrySize w) * n)
    (hi : ∀ i, i < n → zeros r.payload (10 + (4 + entrySize w) * i) 2 = true ∧
      rd r.payload (8 + (4 + entrySize w) * i) 2 < 2048 ∧ rd r.payload (8 + (4 + entrySize w) * i) 2 % w = 0 ∧
      entryBad (entryRows r.payload (12 + (4 + entrySize w) * i) w) = false) :
    bodyRuleWrite r s = queueRule (rd r.payload 0 1) Op.ruleWrite (.write (writtenEntries r.payload w n)) r s := by
  have hitems : ((List.range n).any (fun i => !zeros r.payload (10 + (4 + entrySize w) * i) 2) ||
      (writtenEntries r.payload w n).any (fun i => !rowOk i.1 w || entryBad i.2)) = false := by
    simp only [writtenEntries, rowOk, Bool.or_eq_false_iff, List.any_eq_false, List.mem_range, List.forall_mem_map]
    refine ⟨fun i hlt => ?_, fun i hlt => ?_⟩ <;> obtain ⟨hz, hrow, hmul, hbad⟩ := hi i hlt
    · simp [hz]
    · simp [hrow, hmul, hbad]
  unfold bodyRuleWrite
  dsimp only
  rw [hw, hn, if_neg (by simp only [hz1, hz4, hl, Bool.not_true, Bool.false_eq_true, false_or]; omega)]
  exact if_neg (by rw [Bool.not_eq_true]; exact hitems)

theorem bodyRuleInsert_legal {n : Nat} (hn : rd r.payload 2 2 = n) (hz4 : zeros r.payload 4 4 = true)
    (hl : r.payload.length = 8 + entrySize w) (hrow : n < 2048) (hmul : n % w = 0)
    (hbad : entryBad (entryRows r.payload 8 w) = false) :
    bodyRuleInsert r s = queueRule (rd r.payload 0 1) Op.ruleInsert (.insert n (entryRows r.payload 8 w)) r s := by
  subst hw hn
  unfold bodyRuleInsert
  exact if_neg (by simp [hz1, hz4, hl, rowOk, hrow, hmul, hbad]; omega)

theorem bodyRuleDelete_legal {n : Nat} (hn : rd r.payload 2 2 = n) (hz4 : zeros r.payload 4 4 = true) (h1 : 1 ≤ n)
    (h64 : n ≤ 64) (hl : r.payload.length = 8 + 2 * n)
    (hi : ∀ i, i < n → rd r.payload (8 + 2 * i) 2 < 2048 ∧ rd r.payload (8 + 2 * i) 2 % w = 0) :
    bodyRuleDelete r s = queueRule (rd r.payload 0 1) Op.ruleDelete
      (.delete ((List.range n).map (fun i => rd r.payload (8 + 2 * i) 2))) r s := by
  have hrows : ((List.range n).map (fun i => rd r.payload (8 + 2 * i) 2)).any (fun x => !rowOk x w) = false := by
    simp only [rowOk, List.any_eq_false, List.forall_mem_map, List.mem_range]
    intro i hlt
    simp [hi i hlt]
  unfold bodyRuleDelete
  dsimp only
  rw [hw, hn]
  exact if_neg (by simp only [hz1, hz4, hrows, Bool.not_true, Bool.false_eq_true, false_or, or_false]; omega)

/-- What RULE_READ answers of `k` entries of width `w` from row `n` (R618). -/
def readAnswer (m : Table RuleRow) (w n k : Nat) : List Byte :=
  le 2 k ++ le 2 (n + w * k) ++ le 4 0 ++ ((List.range k).map (fun i => le 2 (n + w * i) ++
    le 1 (b2n (rowAt m (n + w * i)).valid) ++ le 1 0 ++ entryBytes m (n + w * i) w)).flatten

theorem bodyRuleRead_legal {n m : Nat} (hn : rd r.payload 2 2 = n) (hm : rd r.payload 4 2 = m) (hl : r.payload.length = 8)
    (hz6 : zeros r.payload 6 2 = true) (h1 : 1 ≤ m) (h64 : m ≤ 64) (hrow : n < 2048) (hmul : n % w = 0)
    (hbad : (bankAt s (rd r.payload 0 1)).bad = []) (hlost : (bankAt s (rd r.payload 0 1)).lost = []) :
    bodyRuleRead r s = (s, .yes (readAnswer (bankAt s (rd r.payload 0 1)).shadow w n
      (min (min m (4056 / (4 + entrySize w))) ((2048 - n) / w)))) := by
  subst hw hn hm
  unfold bodyRuleRead
  dsimp only
  rw [if_neg (by simp [hz1, hz6, hl, rowOk, hrow, hmul]; omega), findLost_sound hbad]
  simp only [hlost, readAnswer, List.contains_nil, List.any_eq_true, Bool.false_eq_true, and_false, exists_false, if_false,
    List.map_map, b2n, Nat.mul_zero, Nat.add_zero]
  rfl

end

/-! ### The statement -/

/-- Settles O38: each command's body by its legal argument on the state in which the request has been noted, then what the
bank's queue takes. -/
theorem ruleCommandsEnterTheirBank : Obligations.RuleCommandsEnterTheirBank := by
  rintro r s b w n z h rfl rfl rfl rfl hb hz1 hn
  have hw := bankWidth_touch r s (rd r.payload 0 1)
  refine ⟨fun hr hz4 h1 h64 hl hi => ?_, fun hr hz4 hl hrow hmul hbad hq => ?_, fun hr hz4 h1 h64 hl hi hq => ?_,
    fun hr hl hz hq => ?_, fun m k hr hl hz6 hm h1 h64 hrow hmul hbad hlost hk => ?_⟩
  · have e := bodyRuleWrite_legal hb hw hz1 rfl hz4 h1 h64 hl hi
    exact ⟨fun hq => ⟨_, rfl, ruleCommand_busy hr e hq⟩, fun hq => ⟨_, rfl, ruleCommand_queued hr e hn hq⟩⟩
  · exact ⟨_, rfl, ruleCommand_queued hr (bodyRuleInsert_legal hb hw hz1 rfl hz4 hl hrow hmul hbad) hn hq⟩
  · exact ⟨_, rfl, ruleCommand_queued hr (bodyRuleDelete_legal hb hw hz1 rfl hz4 h1 h64 hl hi) hn hq⟩
  · exact ⟨_, rfl, ruleCommand_queued hr (bodyBankClear_legal hb hl hz) hn hq⟩
  · subst hm hk
    have e := bodyRuleRead_legal hb hw hz1 rfl rfl hl hz6 h1 h64 hrow hmul (by rwa [bankAt_touch]) (by rwa [bankAt_touch])
    rw [bankAt_touch] at e
    exact ⟨_, rfl, runs_answers hr e rfl⟩

end Sys2Proof.Machine
end

section
/-! Proofs.  One tick of the maintenance port of an unpaired bank: the scrub of a row with its repair, and the writes of a rule
operation (R164, R165, R170, R171). -/

namespace Sys2Proof.Machine

/-! ### The row slots and the marks of a repair -/

/-- A bank without a partner is the one in which its mismatches wait (R175). -/
theorem lowOf_alone {s : State} {b : Nat} (h : partnerOf s b = none) : lowOf s b = b := by
  unfold lowOf; rw [h]; exact Nat.min_self b

theorem bankAt_takeSlots (b n : Nat) (s : State) : bankAt (takeSlots b n s) b = { bankAt s b with
    slots := if (bankAt s b).slotsAt = s.tick.count then (bankAt s b).slots + n else n
    slotsAt := s.tick.count } := bankAt_setBank_self ..

/-- Where no mismatch waits, a repair has none to explain. -/
theorem bankAt_explainRow {b : Nat} {s : State} (hp : partnerOf s b = none) (hc : (bankAt s b).checks = []) (r : Nat) :
    bankAt (explainRow b r s) b = bankAt s b := by
  unfold explainRow
  dsimp only
  rw [lowOf_alone hp, bankAt_setBank_self, hc]
  exact congrArg (fun l => { bankAt s b with checks := l }) hc.symm

/-- An event limited to one in a period leaves the changes that wait for a boundary. -/
theorem raiseLimited_deferred (code key : Nat) (d : Nat → List Byte) (s : State) :
    (raiseLimited code key d s).sys.deferred = s.sys.deferred := by
  unfold raiseLimited raiseOnce
  dsimp only
  split <;> rfl

/-! ### The repair of a row -/

/-- A row has been rewritten from its shadow, where its cells take the rewrite, and the repair counted and told (R171). -/
def rowRewritten (b r : Nat) (s : State) : State :=
  let x := bankAt s b
  raiseLimited Ev.rbScrubRepair b (fun n => le 1 b ++ le 2 r ++ le 4 n) (bump32 10 b 5 1 (setBank b { x with
    rows := if x.stuck.contains r then x.rows else tput x.rows r (rowAt x.shadow r)
    lastRepairRow := r, lastRepairTick := BitVec.ofNat 16 s.tick.count.toNat } s))

theorem rowRewritten_same (b r : Nat) (s : State) : Same 2100 s (rowRewritten b r s) :=
  (((setBank_same ..).mono (by decide)).trans ((bump32_same ..).mono (by decide))).trans
    ((raiseLimited_same ..).mono (by decide))

theorem rowRewritten_deferred (b r : Nat) (s : State) : (rowRewritten b r s).sys.deferred = s.sys.deferred :=
  raiseLimited_deferred ..

theorem bankAt_rowRewritten (b r : Nat) (s : State) : bankAt (rowRewritten b r s) b = { bankAt s b with
    rows := if (bankAt s b).stuck.contains r then (bankAt s b).rows
      else tput (bankAt s b).rows r (rowAt (bankAt s b).shadow r)
    lastRepairRow := r, lastRepairTick := BitVec.ofNat 16 s.tick.count.toNat } :=
  (bankAt_congr (congrArg Path.bank ((raiseLimited_same ..).path rfl)) b).trans (bankAt_setBank_self ..)

theorem counter_rowRewritten (b r : Nat) (s : State) : counter (rowRewritten b r s) (paddr 10 b 5) =
    min (counter s (paddr 10 b 5) + 1) (2 ^ 32 - 1) :=
  (counter_congr ((raiseLimited_same ..).prm rfl) _).trans ((counter_bump ..).trans (if_pos rfl))

/-- A bank leaves service at the next boundary, since a row does not take its rewrite (R171, R559). -/
def rowStuck (b r : Nat) (s : State) : State :=
  leaveService ⟨10, b⟩ 2 (recordFault 0x14 10 b r (raise Ev.rbRepairFail (le 1 b ++ le 2 r) s))

theorem rowStuck_same (b r : Nat) (s : State) : Same 276 s (rowStuck b r s) :=
  (((raise_same ..).mono (by decide)).trans (recordFault_same ..)).trans ((leaveService_same ..).mono (by decide))

theorem rowStuck_recorded (b r : Nat) {s : State} (hm : s.sys.mode ≠ .reset) : Recorded 0x14 10 b r s (rowStuck b r s) :=
  ((recordFault_recorded (c := 0x14) 10 b r (s := raise Ev.rbRepairFail (le 1 b ++ le 2 r) s) hm (by decide)).of_before
    rfl rfl rfl).of_after rfl rfl rfl rfl rfl

theorem rowStuck_deferred (b r : Nat) (s : State) : (rowStuck b r s).sys.deferred =
    s.sys.deferred ++ [{ due := s.tick.count + 1, change := .unitOut ⟨10, b⟩ 2 }] := by
  unfold rowStuck leaveService defer
  rw [State.setSys_sys, recordFault_deferred, (recordFault_same ..).tick rfl]
  rfl

section
variable {b : Nat} {s : State} (hp : partnerOf s b = none) (hc : (bankAt s b).checks = []) (r : Nat)
include hp hc

/-- The bank's record where a repair of an unpaired bank rewrites: two row slots are taken (R171). -/
theorem bankAt_repairStart : bankAt (explainRow b r (takeSlots b 2 s)) b = bankAt (takeSlots b 2 s) b := by
  refine bankAt_explainRow (s := takeSlots b 2 s) hp ?_ r
  rw [bankAt_takeSlots]
  exact hc

theorem repairRow_eq : repairRow b r s =
    if (bankAt s b).stuck.contains r then rowStuck b r (rowRewritten b r (explainRow b r (takeSlots b 2 s)))
    else rowRewritten b r (explainRow b r (takeSlots b 2 s)) := by
  have hstuck : (bankAt (explainRow b r (takeSlots b 2 s)) b).stuck = (bankAt s b).stuck := by
    rw [bankAt_repairStart hp hc, bankAt_takeSlots]
  rw [← hstuck]
  rfl

theorem bankAt_repairRow : bankAt (repairRow b r s) b = { bankAt (takeSlots b 2 s) b with
    rows := if (bankAt s b).stuck.contains r then (bankAt s b).rows
      else tput (bankAt s b).rows r (rowAt (bankAt s b).shadow r)
    lastRepairRow := r, lastRepairTick := BitVec.ofNat 16 s.tick.count.toNat } := by
  have h : bankAt (repairRow b r s) b = bankAt (rowRewritten b r (explainRow b r (takeSlots b 2 s))) b := by
    rw [repairRow_eq hp hc]
    split
    · exact bankAt_congr (congrArg Path.bank ((rowStuck_same ..).path rfl)) b
    · rfl
  rw [h, bankAt_rowRewritten, bankAt_repairStart hp hc, bankAt_takeSlots]
  rfl

theorem counter_repairRow : counter (repairRow b r s) (paddr 10 b 5) = min (counter s (paddr 10 b 5) + 1) (2 ^ 32 - 1) := by
  have h : counter (repairRow b r s) (paddr 10 b 5) =
      counter (rowRewritten b r (explainRow b r (takeSlots b 2 s))) (paddr 10 b 5) := by
    rw [repairRow_eq hp hc]
    split
    · exact counter_congr ((rowStuck_same ..).prm rfl) _
    · rfl
  exact h.trans (counter_rowRewritten ..)

theorem repairRow_taken (h : (bankAt s b).stuck.contains r = false) :
    (repairRow b r s).sys.deferred = s.sys.deferred ∧ (repairRow b r s).zal = s.zal := by
  rw [repairRow_eq hp hc, h]
  exact ⟨rowRewritten_deferred .., (rowRewritten_same ..).zal rfl⟩

theorem repairRow_stuck (h : (bankAt s b).stuck.contains r = true) (hm : s.sys.mode ≠ .reset) :
    Recorded 0x14 10 b r s (repairRow b r s) ∧ (repairRow b r s).sys.deferred =
      s.sys.deferred ++ [{ due := s.tick.count + 1, change := .unitOut ⟨10, b⟩ 2 }] := by
  have k := rowRewritten_same b r (explainRow b r (takeSlots b 2 s))
  have hmode : (rowRewritten b r (explainRow b r (takeSlots b 2 s))).sys.mode = s.sys.mode := k.mode rfl
  have htick : (rowRewritten b r (explainRow b r (takeSlots b 2 s))).tick = s.tick := k.tick rfl
  rw [repairRow_eq hp hc, if_pos h]
  refine ⟨(rowStuck_recorded b r (hmode ▸ hm)).of_before (k.zal rfl) hmode (congrArg TickState.count htick), ?_⟩
  rw [rowStuck_deferred, rowRewritten_deferred, htick]
  rfl

end

/-! ### The scrub of a tick -/

/-- The scrub of the tick has been made, and the next tick scrubs the next row. -/
def scrubMade (b : Nat) (s : State) : State :=
  setBank b { bankAt s b with scrubPos := ((bankAt s b).scrubPos + 1) % 2048, scrubAt := some s.tick.count } s

/-- The scrub of a bank that holds its rows, with a sound shadow. -/
theorem scrubRow_eq {b : Nat} {s : State} (hl : bankLive s b = true) (hbad : (bankAt s b).bad = [])
    (hlost : (bankAt s b).lost = []) : scrubRow b s =
    if (bankAt s b).scrubAt = some s.tick.count then s
    else if rowDiffers (bankAt s b) (bankWidth s b) (bankAt s b).scrubPos then
      repairRow b (bankAt s b).scrubPos (scrubMade b s)
    else scrubMade b s := by
  have hmade : bankAt (scrubMade b s) b = { bankAt s b with
      scrubPos := ((bankAt s b).scrubPos + 1) % 2048, scrubAt := some s.tick.count } := bankAt_setBank_self ..
  have hfound : ∀ rs, findLost b rs (scrubMade b s) = scrubMade b s :=
    findLost_sound ((congrArg Bank.bad hmade).trans hbad)
  have hkept : (bankAt (scrubMade b s) b).lost = [] := (congrArg Bank.lost hmade).trans hlost
  have hdiff : ∀ w r, rowDiffers (bankAt (scrubMade b s) b) w r = rowDiffers (bankAt s b) w r :=
    fun w r => (congrArg (rowDiffers · w r) hmade :)
  unfold scrubRow
  dsimp only
  rw [show findLost b _ (setBank b _ s) = scrubMade b s from hfound _, hkept, hdiff, hl]
  simp

/-- A scrub that finds its row equal to the shadow moves on at most. -/
theorem scrubRow_equal {b : Nat} {s : State} (hl : bankLive s b = true) (hbad : (bankAt s b).bad = [])
    (hlost : (bankAt s b).lost = []) (hd : rowDiffers (bankAt s b) (bankWidth s b) (bankAt s b).scrubPos = false) :
    Same 2048 s (scrubRow b s) ∧
      ∃ p a, bankAt (scrubRow b s) b = { bankAt s b with scrubPos := p, scrubAt := a } := by
  rw [scrubRow_eq hl hbad hlost, hd]
  split
  · exact ⟨.rfl' s, _, _, rfl⟩
  · exact ⟨setBank_same .., _, _, bankAt_setBank_self ..⟩

/-! ### The writes of an operation -/

theorem ruleSlots_empty {b : Nat} {s : State} (hr : (bankAt s b).run = none) (hq : (bankAt s b).queue = []) (n : Nat) :
    ruleSlots b n s = s := by
  have hnext : nextRule b s = s := by unfold nextRule; dsimp only; rw [hr, hq]
  cases n with
  | zero => rfl
  | succ n => unfold ruleSlots; dsimp only; rw [hnext, hr]

section
variable {b : Nat} {s : State}

/-- An idle bank starts the operation that stands first in its queue (R164). -/
theorem nextRule_starts {o : RuleOp} {q : List RuleOp} (hr : (bankAt s b).run = none) (hq : (bankAt s b).queue = o :: q) :
    nextRule b s =
      setBank b { bankAt s b with run := some (startRule b o s), queue := q } (startHandle o.handle s) := by
  unfold nextRule; dsimp only; rw [hr, hq]

theorem startRule_write {o : RuleOp} {items : List (Nat × List RuleRow)} (hc : cancelled s o.handle = false)
    (hk : o.kind = .write items) :
    startRule b o s = { op := o, todo := items.map (fun i => .put i.1 i.2), lastTick := s.tick.count } := by
  unfold startRule; rw [hc, hk]; rfl

/-- A commit of an unpaired bank for which the port has row slots (R165). -/
theorem runCommits_sole {w : Nat} {c : RuleCommit} (hp : partnerOf s b = none) (hs : c.cost w ≤ slotsLeft s b) :
    runCommits b w [c] s = (commit b c (takeSlots b (c.cost w) s), []) := by
  unfold runCommits
  rw [portsOf_alone hp]
  simp only [List.all_cons, List.all_nil, hs, decide_true, Bool.and_true, if_true]
  rfl

/-- An entry is written into the rows and the shadow of an unpaired bank that holds its rows (R166). -/
theorem commit_put (hp : partnerOf s b = none) (hl : bankLive s b = true) (r : Nat) (rows : List RuleRow) :
    commit b (.put r rows) s = setBank b { bankAt s b with
      rows := putRows (bankAt s b).rows r rows, shadow := putRows (bankAt s b).shadow r rows
      lost := (bankAt s b).lost.filter (· != r), bad := (bankAt s b).bad.filter (· != r) } s := by
  unfold commit
  dsimp only
  rw [hp]
  unfold commitInto
  rw [hl]
  rfl

/-- An operation whose writes the tick carries out gives way to the next (R164). -/
theorem ruleSlots_ends {run : RuleRun} {t : State} (hr : (bankAt (nextRule b s) b).run = some run)
    (hc : runCommits b (bankWidth s b) run.todo (nextRule b s) = (t, [])) (n : Nat) :
    ruleSlots b (n + 1) s = ruleSlots b n (setBank b { bankAt t b with
      run := none
      ended := (bankAt t b).ended ++ [{ run with
        todo := [], lastTick := if 0 < run.todo.length then s.tick.count else run.lastTick }] } t) := by
  have htick : t.tick = s.tick :=
    (congrArg (fun p => p.1.tick) hc).symm.trans
      (((runCommits_same ..).tick rfl).trans ((nextRule_same ..).tick rfl))
  rw [ruleSlots, hr]
  dsimp only
  rw [hc, ← htick]
  rfl

/-- A RULE_WRITE of one entry, the only operation of an unpaired bank that holds its rows, with row slots for the entry. -/
theorem ruleSlots_write {o : RuleOp} {r : Nat} {rows : List RuleRow} (hl : bankLive s b = true)
    (hp : partnerOf s b = none) (hr : (bankAt s b).run = none) (hq : (bankAt s b).queue = [o])
    (hk : o.kind = .write [(r, rows)]) (hc : cancelled s o.handle = false) (hs : bankWidth s b ≤ slotsLeft s b) (n : Nat) :
    ∃ t, ruleSlots b (n + 1) s = setBank b { bankAt t b with
        run := none
        ended := (bankAt t b).ended ++ [{ op := o, todo := [], lastTick := s.tick.count }] } t ∧
      (bankAt t b).rows = putRows (bankAt s b).rows r rows ∧
      (bankAt t b).shadow = putRows (bankAt s b).shadow r rows ∧ (bankAt t b).queue = [] ∧
      (bankAt t b).ended = (bankAt s b).ended ∧ t.toune = (startHandle o.handle s).toune := by
  have hnext := nextRule_starts hr hq
  rw [startRule_write hc hk] at hnext
  have hstart : bankAt (nextRule b s) b = { bankAt s b with
      run := some { op := o, todo := [.put r rows], lastTick := s.tick.count }, queue := [] } := by
    rw [hnext]
    exact bankAt_setBank_self ..
  have hslots : slotsLeft (nextRule b s) b = slotsLeft s b := by
    unfold slotsLeft
    rw [hstart, hnext]
    rfl
  have hp' : partnerOf (nextRule b s) b = none := by rw [hnext]; exact hp
  have hl' : bankLive (nextRule b s) b = true := by rw [hnext]; exact hl
  have hput := commit_put (s := takeSlots b (bankWidth s b) (nextRule b s)) hp' hl' r rows
  have hbank := congrArg (bankAt · b) hput
  simp only [bankAt_setBank_self, bankAt_takeSlots, hstart] at hbank
  have hrun := ruleSlots_ends (congrArg Bank.run hstart)
    (runCommits_sole (c := .put r rows) (w := bankWidth s b) hp' (hslots ▸ hs)) n
  refine ⟨_, hrun.trans (ruleSlots_empty ?_ ?_ n), congrArg Bank.rows hbank, congrArg Bank.shadow hbank,
    congrArg Bank.queue hbank, (congrArg Bank.ended hbank :), ?_⟩
  · rw [bankAt_setBank_self]
  · rw [bankAt_setBank_self]
    exact congrArg Bank.queue hbank
  · exact (congrArg State.toune hput :).trans (congrArg State.toune hnext :)

end

end Sys2Proof.Machine
end

section
/-! Proofs.  The statement on a rule bank's maintenance port, the end of its operations, its width and its pairing (R161, R164,
R165, R170, R171, R173). -/

namespace Sys2Proof.Machine

/-! ### One tick without upsets -/

/-- The record of a bank has been put as it stood. -/
def keptBank (b : Nat) (s : State) : State := setBank b (bankAt s b) s

@[simp] theorem bankAt_keptBank (b : Nat) (s : State) : bankAt (keptBank b s) b = bankAt s b := bankAt_setBank_self ..

theorem bankAt_scrubMade (b : Nat) (s : State) : bankAt (scrubMade b (keptBank b s)) b = { bankAt s b with
    scrubPos := ((bankAt s b).scrubPos + 1) % 2048, scrubAt := some s.tick.count } :=
  (bankAt_setBank_self ..).trans (by rw [bankAt_keptBank]; rfl)

/-- A tick of an unpaired bank without upsets, in which no mismatch is to be compared, is its scrub and its rule slots. -/
theorem rbMaintTick_alone {b : Nat} {s : State} (hp : partnerOf s b = none)
    (hc : (bankAt (scrubRow b (keptBank b s)) b).checks = []) : rbMaintTick b {} s =
      ruleSlots b ((bankAt (scrubRow b (keptBank b s)) b).queue.length + 1) (scrubRow b (keptBank b s)) := by
  have hp0 : partnerOf (keptBank b s) b = none := hp
  have hp1 : partnerOf (scrubRow b (keptBank b s)) b = none :=
    (partnerOf_congr ((scrubRow_same ..).regs rfl) b).trans hp
  unfold rbMaintTick
  extract_lets x w s0 s1 low s2
  have h0 : s0 = keptBank b s := by
    simp only [s0, x, List.foldl_nil, List.map_nil, List.append_nil]
    rfl
  have h1 : s1 = scrubRow b (keptBank b s) := by
    simp only [s1, h0, portsOf_alone hp0, List.foldl_cons, List.foldl_nil]
  have h2 : s2 = scrubRow b (keptBank b s) := by
    simp only [s2, low, h1, lowOf_alone hp1, hc]
    rfl
  rw [h2]

/-- The bank's record after a repair that a scrub has found due, in an unpaired bank without mismatches. -/
theorem bankAt_repairRow_scrubMade {b : Nat} {s : State} (hp : partnerOf s b = none) (hc : (bankAt s b).checks = [])
    (r : Nat) : bankAt (repairRow b r (scrubMade b (keptBank b s))) b = { bankAt s b with
      rows := if (bankAt s b).stuck.contains r then (bankAt s b).rows
        else tput (bankAt s b).rows r (rowAt (bankAt s b).shadow r)
      lastRepairRow := r, lastRepairTick := BitVec.ofNat 16 s.tick.count.toNat
      scrubPos := ((bankAt s b).scrubPos + 1) % 2048, scrubAt := some s.tick.count
      slots := if (bankAt s b).slotsAt = s.tick.count then (bankAt s b).slots + 2 else 2
      slotsAt := s.tick.count } := by
  have hmade := bankAt_scrubMade b s
  rw [bankAt_repairRow (s := scrubMade b (keptBank b s)) hp (by rw [hmade]; exact hc), bankAt_takeSlots, hmade]
  rfl

section
variable {b : Nat} {s : State} (hl : bankLive s b = true) (hp : partnerOf s b = none) (hbad : (bankAt s b).bad = [])
  (hlost : (bankAt s b).lost = []) (hc : (bankAt s b).checks = []) (hr : (bankAt s b).run = none)
include hl hp hbad hlost hc hr

/-- A tick that finds the scrubbed row equal to its shadow writes the one entry of the one operation that waits. -/
theorem rbMaintTick_writes {o : RuleOp} {r : Nat} {rows : List RuleRow}
    (hd : rowDiffers (bankAt s b) (bankWidth s b) (bankAt s b).scrubPos = false) (hq : (bankAt s b).queue = [o])
    (hk : o.kind = .write [(r, rows)]) (hcan : cancelled s o.handle = false) (hs : bankWidth s b ≤ slotsLeft s b) :
    (bankAt (rbMaintTick b {} s) b).rows = putRows (bankAt s b).rows r rows ∧
      (bankAt (rbMaintTick b {} s) b).shadow = putRows (bankAt s b).shadow r rows ∧
      (bankAt (rbMaintTick b {} s) b).queue = [] ∧ (bankAt (rbMaintTick b {} s) b).run = none ∧
      (bankAt (rbMaintTick b {} s) b).ended =
        (bankAt s b).ended ++ [{ op := o, todo := [], lastTick := s.tick.count }] ∧
      (handleAt (rbMaintTick b {} s) (handleIdx o.handle)).started = true := by
  obtain ⟨hsame, p, a, hbank⟩ := scrubRow_equal (s := keptBank b s) hl (by rwa [bankAt_keptBank])
    (by rwa [bankAt_keptBank]) (by rwa [bankAt_keptBank])
  have htick := rbMaintTick_alone hp ((congrArg Bank.checks hbank).trans (by rw [bankAt_keptBank, hc]))
  rw [bankAt_keptBank] at hbank
  generalize scrubRow b (keptBank b s) = u at hsame hbank htick
  have hregs : u.prm.regs = s.prm.regs := hsame.regs rfl
  have hslots : slotsLeft u b = slotsLeft s b := by
    unfold slotsLeft
    rw [hbank, hsame.tick rfl]
    rfl
  have hcan' : cancelled u o.handle = false := by
    unfold cancelled handleAt
    rw [hsame.toune rfl]
    exact hcan
  have hl' : bankLive u b = true := by
    unfold bankLive inService unitState unitRec
    rw [hsame.sys rfl]
    exact hl
  obtain ⟨t, ht, hrows, hshadow, hqueue, hended, htoune⟩ := ruleSlots_write hl' ((partnerOf_congr hregs b).trans hp)
    (by rw [hbank]; exact hr) (by rw [hbank]; exact hq) hk hcan'
    (by rw [bankWidth_congr hregs, hslots]; exact hs) (bankAt u b).queue.length
  rw [htick, ht, bankAt_setBank_self]
  refine ⟨?_, ?_, hqueue, rfl, ?_, ?_⟩
  · rw [hrows, hbank]
  · rw [hshadow, hbank]
  · rw [hended, hbank, hsame.tick rfl]
    rfl
  · show (tgetD _ t.toune.handles _).started = true
    rw [htoune]
    exact congrArg Handle.started (tgetD_tput_self ..)

/-- A tick that finds the scrubbed row different, in a bank on which no operation waits, is its repair. -/
theorem rbMaintTick_repairs (hd : rowDiffers (bankAt s b) (bankWidth s b) (bankAt s b).scrubPos = true)
    (hq : (bankAt s b).queue = []) (ha : (bankAt s b).scrubAt ≠ some s.tick.count) :
    rbMaintTick b {} s = repairRow b (bankAt s b).scrubPos (scrubMade b (keptBank b s)) := by
  have hscrub : scrubRow b (keptBank b s) = repairRow b (bankAt s b).scrubPos (scrubMade b (keptBank b s)) := by
    rw [scrubRow_eq (s := keptBank b s) hl (by rwa [bankAt_keptBank]) (by rwa [bankAt_keptBank]), bankAt_keptBank]
    exact (if_neg ha).trans (if_pos hd)
  have hbank := bankAt_repairRow_scrubMade hp hc (bankAt s b).scrubPos
  rw [← hscrub] at hbank
  rw [rbMaintTick_alone hp (by rw [hbank]; exact hc),
    ruleSlots_empty (by rw [hbank]; exact hr) (by rw [hbank]; exact hq), hscrub]

end

/-! ### The end of an operation -/

theorem complete_done (ev : Nat) (h : Word) (st : Half) (fields : List Byte) (s : State) :
    (handleAt (complete ev h st fields s) (handleIdx h)).st = .done ∧
      (handleAt (complete ev h st fields s) (handleIdx h)).status = st :=
  have e : handleAt (complete ev h st fields s) (handleIdx h) = _ := tgetD_tput_self ..
  ⟨congrArg Handle.st e, congrArg Handle.status e⟩

theorem complete_lastRaised (ev : Nat) (h : Word) (st : Half) (fields : List Byte) (s : State) :
    LastRaised ev (le 4 h.toNat ++ le 2 (handleAt s (handleIdx h)).opcode ++ le 2 st.toNat ++ fields)
      (complete ev h st fields s) := by
  simp [LastRaised, complete]

theorem ruleOpDone_idle {b : Nat} {s : State} (h : (bankAt s b).ended = []) : ruleOpDone b s = s := by
  unfold ruleOpDone; dsimp only; rw [h]

/-- What RULE_OP_DONE tells of an operation behind its handle, opcode and status (R164). -/
def runFields (run : RuleRun) : List Byte :=
  le 2 run.finalRow ++ le 2 run.movedLo ++ le 2 run.movedHi ++ le 8 run.lastTick.toNat

/-- The oldest operation whose writes are done completes, and leaves the bank's list (R164). -/
theorem ruleOpDone_ends {b : Nat} {s : State} {run : RuleRun} {rest : List RuleRun} (h : (bankAt s b).ended = run :: rest) :
    bankAt (ruleOpDone b s) b = { bankAt s b with ended := rest } ∧
      (handleAt (ruleOpDone b s) (handleIdx run.op.handle)).st = .done ∧
      (handleAt (ruleOpDone b s) (handleIdx run.op.handle)).status = run.status ∧
      LastRaised Ev.ruleOpDone (le 4 run.op.handle.toNat ++ le 2 (handleAt s (handleIdx run.op.handle)).opcode ++
        le 2 run.status.toNat ++ runFields run) (ruleOpDone b s) := by
  have e : ruleOpDone b s = complete Ev.ruleOpDone run.op.handle run.status (runFields run)
      (setBank b { bankAt s b with ended := rest } s) := by
    unfold ruleOpDone; dsimp only; rw [h]; rfl
  obtain ⟨hdone, hstatus⟩ := complete_done Ev.ruleOpDone run.op.handle run.status (runFields run)
    (setBank b { bankAt s b with ended := rest } s)
  rw [e]
  exact ⟨bankAt_setBank_self .., hdone, hstatus, complete_lastRaised ..⟩

/-! ### Width -/

theorem tfind_map {α β : Type} (f : α → β) (m : Table α) (k : Nat) :
    tfind (m.map (fun e => (e.1, f e.2))) k = (tfind m k).map f := by
  induction m with
  | nil => rfl
  | cons e m ih =>
    simp only [List.map_cons, tfind, ih]
    split <;> rfl

/-- A row made invalid (R161). -/
def invalidRow (x : RuleRow) : RuleRow := { x with valid := false }

/-- A table whose rows have all been made invalid holds no valid row. -/
theorem rowAt_invalid (m : Table RuleRow) (k : Nat) :
    (rowAt (m.map (fun e => (e.1, invalidRow e.2))) k).valid = false := by
  unfold rowAt tgetD
  rw [tfind_map invalidRow]
  cases tfind m k <;> rfl

theorem bankWidth_rbWidth (b : Nat) (c : Fin 3) (s : State) : bankWidth (rbWidth b c s) b = 2 ^ c.val := by
  have hcode : ∀ c : Fin 3, bitsOf (BitVec.ofNat 32 c.val).toNat 1 0 = c.val := by decide
  unfold bankWidth regField rbWidth
  rw [reg_setReg_self, hcode]

theorem bankAt_rbWidth (b code : Nat) (s : State) : bankAt (rbWidth b code s) b = { bankAt s b with
    rows := (bankAt s b).rows.map (fun e => (e.1, invalidRow e.2))
    shadow := (bankAt s b).shadow.map (fun e => (e.1, invalidRow e.2))
    lost := [], bad := [] } := bankAt_setBank_self ..

/-! ### Pairs -/

/-- A PAIR word with enable set, as bits. -/
theorem pairWord_enabled (q : Fin 64) : bitOf (BitVec.ofNat 32 (128 + q.val)).toNat 7 = true ∧
    (BitVec.ofNat 32 (128 + q.val)).toNat % 64 = q ∧
    BitVec.ofNat 32 (128 + q.val) &&& 0xBF = BitVec.ofNat 32 (128 + q.val) := by
  revert q
  decide

/-- A PAIR word with enable clear, as bits. -/
theorem pairWord_disabled (q : Fin 64) : bitOf (BitVec.ofNat 32 q.val).toNat 7 = false ∧
    BitVec.ofNat 32 ((BitVec.ofNat 32 q.val).toNat % 64) = BitVec.ofNat 32 q.val ∧
    BitVec.ofNat 32 q.val &&& 0xBF = BitVec.ofNat 32 q.val := by
  revert q
  decide

theorem partnerOf_setReg_self (b : Nat) (v : Word) (s : State) : partnerOf (setReg 10 b 1 v s) b =
    if bitOf v.toNat 7 then some (v.toNat % 64) else none := by
  unfold partnerOf; rw [reg_setReg_self]

theorem partnerOf_setReg_ne {b k : Nat} (v : Word) (s : State) (h : k ≠ b) :
    partnerOf (setReg 10 b 1 v s) k = partnerOf s k := by
  unfold partnerOf
  rw [reg_setReg_ne v s (by unfold paddr; omega)]

theorem unitState_setUnit_self {u : UnitId} {x : UnitRec} (s : State) (h : x.st ≠ .inService) :
    unitState (setUnit u x s) u = x.st := by
  unfold unitState unitRec setUnit
  rw [if_neg h]
  exact congrArg UnitRec.st (tgetD_tput_self ..)

theorem pairRefused_self (s : State) (b : Nat) : pairRefused s b b = true := by
  simp [pairRefused]

theorem pairWords_enabled (b : Nat) (q : Fin 64) (s : State) : pairWords b (BitVec.ofNat 32 (128 + q.val)) s =
    setReg 10 b 1 (BitVec.ofNat 32 (128 + q.val)) (setReg 10 q 1 (BitVec.ofNat 32 (128 + b)) s) := by
  obtain ⟨he, hq, -⟩ := pairWord_enabled q
  unfold pairWords
  dsimp only
  rw [hq, if_pos he]

theorem partnerOf_pairWords_enabled (b q : Fin 64) (s : State) (h : q ≠ b) :
    partnerOf (pairWords b (BitVec.ofNat 32 (128 + q.val)) s) b = some q.val ∧
      partnerOf (pairWords b (BitVec.ofNat 32 (128 + q.val)) s) q = some b.val := by
  obtain ⟨hqe, hq, -⟩ := pairWord_enabled q
  obtain ⟨hbe, hb, -⟩ := pairWord_enabled b
  rw [pairWords_enabled, partnerOf_setReg_self, hqe, hq, partnerOf_setReg_ne _ _ (Fin.val_ne_of_ne h),
    partnerOf_setReg_self, hbe, hb]
  exact ⟨rfl, rfl⟩

/-- Enabling a pair: the partner takes a copy of a shadow without undiscovered errors, with its marks, and goes to REJOIN
(R172, R173). -/
theorem rbPair_enabled {b q : Fin 64} {s : State} (hne : q ≠ b) (hbad : (bankAt s b).bad = []) :
    (rbPair b (BitVec.ofNat 32 (128 + q.val)) s).prm = (pairWords b (BitVec.ofNat 32 (128 + q.val)) s).prm ∧
      unitState (rbPair b (BitVec.ofNat 32 (128 + q.val)) s) ⟨10, q⟩ = .rejoin ∧
      bankAt (rbPair b (BitVec.ofNat 32 (128 + q.val)) s) q =
        { bankAt s q with shadow := (bankAt s b).shadow, lost := (bankAt s b).lost, bad := [] } ∧
      bankAt (rbPair b (BitVec.ofNat 32 (128 + q.val)) s) b = bankAt s b := by
  obtain ⟨he, hq, -⟩ := pairWord_enabled q
  have e : rbPair b (BitVec.ofNat 32 (128 + q.val)) s = setUnit ⟨10, q⟩ { st := .rejoin, since := s.tick.count, cause := 3 }
      (setBank q { bankAt s q with shadow := (bankAt s b).shadow, lost := (bankAt s b).lost, bad := [] }
        (pairWords b (BitVec.ofNat 32 (128 + q.val)) s)) := by
    unfold rbPair
    dsimp only
    rw [if_pos he, findLost_sound hbad, hq]
  rw [e]
  refine ⟨rfl, unitState_setUnit_self _ nofun, bankAt_setBank_self .., ?_⟩
  exact (bankAt_setBank_ne _ _ (Fin.val_ne_of_ne hne.symm)).trans
    (bankAt_congr (congrArg Path.bank ((pairWords_same ..).path rfl)) b)

/-- Disabling a pair clears enable in both PAIR words (R173). -/
theorem rbPair_disabled {b k : Nat} {s : State} (q : Fin 64) (hp : partnerOf s b = some k) :
    rbPair b (BitVec.ofNat 32 q.val) s =
      setReg 10 k 1 (reg s 10 k 1 &&& 0x3F) (setReg 10 b 1 (BitVec.ofNat 32 q.val) s) := by
  obtain ⟨he, hq, -⟩ := pairWord_disabled q
  unfold rbPair pairWords
  dsimp only
  rw [he, hq, hp]
  rfl

theorem partnerOf_pair_disabled {b k : Nat} (q : Fin 64) (s : State) (h : b ≠ k) :
    partnerOf (setReg 10 k 1 (reg s 10 k 1 &&& 0x3F) (setReg 10 b 1 (BitVec.ofNat 32 q.val) s)) b = none ∧
      partnerOf (setReg 10 k 1 (reg s 10 k 1 &&& 0x3F) (setReg 10 b 1 (BitVec.ofNat 32 q.val) s)) k = none := by
  obtain ⟨he, -, -⟩ := pairWord_disabled q
  have hk : bitOf (reg s 10 k 1 &&& 0x3F).toNat 7 = false := by
    rw [bitOf_toNat, BitVec.getLsbD_and, show (0x3F : Word).getLsbD 7 = false by decide, Bool.and_false]
  rw [partnerOf_setReg_ne _ _ h, partnerOf_setReg_self, partnerOf_setReg_self, he, hk]
  exact ⟨rfl, rfl⟩

theorem execRbPairWrite_enables (b q : Fin 64) (s : State) : execRbPairWrite b (BitVec.ofNat 32 (128 + q.val)) s =
    .next (if pairRefused s b q then s else rbPair b (BitVec.ofNat 32 (128 + q.val)) s) := by
  obtain ⟨he, hq, hm⟩ := pairWord_enabled q
  unfold execRbPairWrite
  rw [he, hq, hm, Bool.true_and]

theorem execRbPairWrite_disables (b q : Fin 64) (s : State) : execRbPairWrite b (BitVec.ofNat 32 q.val) s =
    .next (rbPair b (BitVec.ofNat 32 q.val) s) := by
  obtain ⟨he, -, hm⟩ := pairWord_disabled q
  unfold execRbPairWrite
  rw [he, hm]
  rfl

/-! ### The statement -/

/-- Settles O39: each command by what it leaves of the bank's record and of the words of its class.  That an operation
accepted in a tick may start in it, and the fields of an event where no row moved, are the model's choice of log 27. -/
theorem ruleMemoryIsWrittenScrubbedAndPaired : Obligations.RuleMemoryIsWrittenScrubbedAndPaired := by
  intro b s
  refine ⟨fun hl hp hbad hlost hc hr => ⟨fun o r rows hd hq hk hcan hs => ?_, fun hd hq ha => ?_⟩, fun h => ?_,
    fun run rest h => ?_, fun c => ⟨fun h => ?_, fun hw hn => ?_⟩, fun q h => ?_, fun q h hbad => ?_, fun q hp hne => ?_⟩
  · obtain ⟨hrows, hshadow, hqueue, hrun, hended, hstarted⟩ := rbMaintTick_writes hl hp hbad hlost hc hr hd hq hk hcan hs
    exact ⟨_, _, rfl, hrows, hshadow, hqueue, hrun, hended, rfl, rfl, rfl, rfl, hstarted⟩
  · have hbank := bankAt_repairRow_scrubMade hp hc (bankAt s b).scrubPos
    have hmade := bankAt_scrubMade b s
    have hc' : (bankAt (scrubMade b (keptBank b s)) b).checks = [] := by rw [hmade]; exact hc
    have hstuck : (bankAt (scrubMade b (keptBank b s)) b).stuck = (bankAt s b).stuck := by rw [hmade]
    refine ⟨_, congrArg Host.Outcome.next (rbMaintTick_repairs hl hp hbad hlost hc hr hd hq ha), ?_⟩
    rw [hbank]
    refine ⟨rfl, rfl, rfl, counter_repairRow (s := scrubMade b (keptBank b s)) hp hc' _, fun h => ?_, fun h hm => ?_⟩
    · obtain ⟨hdef, hzal⟩ := repairRow_taken (s := scrubMade b (keptBank b s)) hp hc' _ (hstuck ▸ h)
      simp only [h]
      exact ⟨tgetD_tput_self .., hdef, hzal, fun k hk => tgetD_tput_ne _ _ _ hk⟩
    · obtain ⟨hrec, hdef⟩ := repairRow_stuck (s := scrubMade b (keptBank b s)) hp hc' _ (hstuck ▸ h) hm
      exact ⟨if_pos h, hrec.of_before rfl rfl rfl, hdef⟩
  · exact congrArg Host.Outcome.next (ruleOpDone_idle h)
  · obtain ⟨hbank, hdone, hstatus, htold⟩ := ruleOpDone_ends h
    refine ⟨_, rfl, ?_⟩
    rw [hbank]
    exact ⟨rfl, rfl, hdone, hstatus, by simpa only [runFields, List.append_assoc] using htold, rfl⟩
  · refine congrArg Host.Outcome.next (if_pos ?_)
    simpa using h
  · refine ⟨_, congrArg Host.Outcome.next (if_neg (by simp [hw, hn])), bankWidth_rbWidth .., fun k => ?_⟩
    rw [bankAt_rbWidth]
    exact ⟨rowAt_invalid .., rowAt_invalid ..⟩
  · exact (execRbPairWrite_enables b q s).trans (congrArg _ (if_pos h))
  · have hne : q ≠ b := by
      rintro rfl
      rw [pairRefused_self] at h
      cases h
    obtain ⟨hb, hq⟩ := partnerOf_pairWords_enabled b q s hne
    obtain ⟨hprm, hunit, hpartner, hbank⟩ := rbPair_enabled hne hbad
    have hregs := congrArg Params.regs hprm
    refine ⟨_, (execRbPairWrite_enables b q s).trans (congrArg _ (if_neg (by simp [h]))), ?_⟩
    rw [partnerOf_congr hregs, partnerOf_congr hregs, hpartner, hbank]
    exact ⟨hb, hq, hunit, rfl, rfl, rfl⟩
  · obtain ⟨hb, hq⟩ := partnerOf_pair_disabled (k := q) q s (Fin.val_ne_of_ne hne.symm)
    refine ⟨_, execRbPairWrite_disables b q s, ?_⟩
    rw [rbPair_disabled q hp]
    exact ⟨hb, hq, rfl⟩

end Sys2Proof.Machine
end

section
/-! Proofs.  The rules of the copies of the forwarding tables: what a copy reads after one has been put or each of several has
changed, and what an exact table finds in its slots (R185, R186, R187, R188). -/

namespace Sys2Proof.Machine

/-! ### Records of copies -/

/-- A copy reads the same where the records of copies are the same. -/
theorem fwdAt_congr {s t : State} (h : t.path.fwd = s.path.fwd) (p : Nat) : fwdAt t p = fwdAt s p := by
  unfold fwdAt; rw [h]

theorem fwdAt_setFwd (p : Nat) (x : FwdCopy) (s : State) (q : Nat) :
    fwdAt (setFwd p x s) q = if q = p then x else fwdAt s q := tgetD_tput ..

@[simp] theorem fwdAt_setFwd_self (p : Nat) (x : FwdCopy) (s : State) : fwdAt (setFwd p x s) p = x := tgetD_tput_self ..

theorem fwdAt_setFwd_ne {p q : Nat} (x : FwdCopy) (s : State) (h : q ≠ p) : fwdAt (setFwd p x s) q = fwdAt s q :=
  tgetD_tput_ne _ _ _ h

theorem setFwd_setFwd (p : Nat) (x y : FwdCopy) (s : State) : setFwd p y (setFwd p x s) = setFwd p y s := by
  unfold setFwd
  simp only [State.setPath_path, tput_tput]
  rfl

theorem OnlyAnswers.fwdAt {s t : State} (h : OnlyAnswers s t) (p : Nat) : fwdAt t p = fwdAt s p :=
  fwdAt_congr (congrArg Path.fwd h.path :) p

@[simp] theorem fwdAt_touch (r : Req) (s : State) (p : Nat) : fwdAt (touch r s) p = fwdAt s p :=
  (touch_answers r s).fwdAt p

/-- A change made once for each copy of a list changes these copies alone. -/
theorem fwdAt_foldl {f : FwdCopy → FwdCopy} {g : State → Nat → State}
    (hg : ∀ s p q, fwdAt (g s p) q = if q = p then f (fwdAt s p) else fwdAt s q) {l : List Nat} (hl : l.Nodup)
    (s : State) (q : Nat) : fwdAt (l.foldl g s) q = if q ∈ l then f (fwdAt s q) else fwdAt s q := by
  induction l generalizing s with
  | nil => rfl
  | cons p l ih =>
    obtain ⟨hp, hl⟩ := List.nodup_cons.mp hl
    rw [List.foldl_cons, ih hl, hg]
    by_cases hq : q = p
    · subst hq
      simp [hp]
    · simp [hq]

/-! ### Slots of an exact table -/

section
variable {α : Type} {kd : ExactKind α} {m : Table α} {pairs : List (Word × Word)} {key : List Byte}

/-- A slot that a search answers holds the key (R187). -/
theorem slotOf_holds {k : Nat} (h : slotOf kd m pairs key = some k) : ∃ e, tfind m k = some e ∧ kd.key e = key := by
  obtain ⟨sd, -, hsd⟩ := List.exists_of_findSome?_eq_some h
  have hk := List.find?_some hsd
  split at hk
  · exact ⟨_, ‹_›, by simpa using hk⟩
  · cases hk

/-- A search finds a key that stands in the first slot of its first bucket under one of the pairs probed (R187). -/
theorem slotOf_isSome {sd : Word × Word} {e : α} (hsd : sd ∈ pairs)
    (he : tfind m (4 * (candidates key sd).1) = some e) (hk : kd.key e = key) : (slotOf kd m pairs key).isSome = true := by
  refine List.findSome?_isSome_iff.mpr ⟨sd, hsd, List.find?_isSome.mpr ⟨4 * (candidates key sd).1, ?_, ?_⟩⟩
  · exact List.mem_flatMap.mpr ⟨_, List.mem_cons_self, List.mem_map.mpr ⟨0, by decide, rfl⟩⟩
  · simp [he, hk]

theorem slotOf_empty : slotOf kd [] pairs key = none := by
  refine Option.eq_none_iff_forall_ne_some.mpr fun k h => ?_
  obtain ⟨e, he, -⟩ := slotOf_holds h
  cases he

theorem freePlace_empty (b : Nat) : freePlace kd [] b 1 = some (4 * b) := rfl

/-- The first entry of a table of single slots goes to the first slot of its first bucket under the newest seeds (R188). -/
theorem insertExact_empty {e : α} (h : kd.slots e = 1) : insertExact kd pairs e [] =
    some ([(4 * (candidates (kd.key e) (pairs.getLast?.getD (0, 0))).1, e)], 1) := by
  unfold insertExact
  dsimp only
  rw [h, freePlace_empty]
  rfl

/-- The one entry of a table is found from the slot where its insertion has put it. -/
theorem slotOf_single {e : α} (hne : pairs ≠ []) :
    slotOf kd [(4 * (candidates (kd.key e) (pairs.getLast?.getD (0, 0))).1, e)] pairs (kd.key e) =
      some (4 * (candidates (kd.key e) (pairs.getLast?.getD (0, 0))).1) := by
  have hlast : pairs.getLast?.getD (0, 0) ∈ pairs := by
    rw [List.getLast?_eq_some_getLast hne]
    exact List.getLast_mem hne
  have hfind : tfind [(4 * (candidates (kd.key e) (pairs.getLast?.getD (0, 0))).1, e)]
      (4 * (candidates (kd.key e) (pairs.getLast?.getD (0, 0))).1) = some e := if_pos rfl
  obtain ⟨k, hk⟩ := Option.isSome_iff_exists.mp (slotOf_isSome (kd := kd) hlast hfind rfl)
  obtain ⟨x, hx, -⟩ := slotOf_holds hk
  rw [hk]
  simp only [tfind] at hx
  split at hx
  · exact congrArg some ‹_›
  · cases hx

end

theorem seedPairs_ne_nil (x : FwdCopy) (t : Nat) : seedPairs x t ≠ [] := by simp [seedPairs]

/-! ### The L2 table -/

theorem l2Find_empty {x : FwdCopy} (h : x.l2 = []) (mac : Mac) (vlan : Nat) : l2Find x mac vlan = none := by
  unfold l2Find
  rw [h, slotOf_empty]
  rfl

/-- The copy after an entry has entered its empty L2 table (R188). -/
def withFirstL2 (e : L2Entry) (x : FwdCopy) : FwdCopy :=
  { x with l2 := [(4 * (candidates (l2Key e.mac e.vlan) ((seedPairs x 0).getLast?.getD (0, 0))).1, e)] }

theorem l2Find_withFirstL2 (e : L2Entry) (x : FwdCopy) : l2Find (withFirstL2 e x) e.mac e.vlan = some e := by
  have h := slotOf_single (kd := l2Kind) (e := e) (seedPairs_ne_nil x 0)
  exact (congrArg (Option.bind · (tfind (withFirstL2 e x).l2)) h).trans (if_pos rfl)

theorem l2Put_empty {p : Nat} {s : State} (h : (fwdAt s p).l2 = []) (e : L2Entry) :
    l2Put p e s = (setFwd p (withFirstL2 e (fwdAt s p)) s, 1, true) := by
  unfold l2Put
  dsimp only
  rw [h, slotOf_empty, insertExact_empty rfl]
  rfl

end Sys2Proof.Machine
end

section
/-! Proofs.  The table commands: TABLE_WRITE, TABLE_DELETE, L2_FLUSH, TABLE_READ and REHASH (R194, R201, R202, R619). -/

namespace Sys2Proof.Machine

/-! ### Commands that wait for the copies -/

@[simp] theorem writeItemBad_touch (r : Req) (s : State) (p t : Nat) (b : List Byte) :
    writeItemBad (touch r s) p t b = writeItemBad s p t b := by
  obtain ⟨x, hx⟩ := touch_eq_setToune r s
  rw [hx]; rfl

/-- A table command accepted in a tick, which every copy of its mask has still to apply from its first item (R194, R202). -/
def newTableOp (op table m : Nat) (items : List (List Byte)) (r : Req) (h : Word) (t : Tick) : TableOp :=
  { handle := h, session := r.session, opcode := op, table := table, items := items
    waiting := (pipesOf m).map (fun p => (p, 0)), lastTick := t }

/-- A table command enters the queue of the copies, behind those that stand there (R202). -/
def enterTable (op table m : Nat) (items : List (List Byte)) (r : Req) (h : Word) (s : State) : State :=
  s.setPath { s.path with tableOps := s.path.tableOps ++ [newTableOp op table m items r h s.tick.count] }

theorem tableCommand_queued {op table m : Nat} {items : List (List Byte)} {body : Req → State → State × Reply} {r : Req}
    {s : State} {h : Word} (hr : Runs op r s) (hn : newHandle s = some h)
    (e : body r (touch r s) = acceptTable op table m items r (touch r s)) :
    Started op r h s (runToune op body r s) ∧ TableQueued op h table m items s (runToune op body r s) := by
  obtain ⟨hstart, hans⟩ := runs_starts (k := enterTable op table m items r) hr hn e fun _ => rfl
  obtain ⟨x, hx⟩ := touch_eq_setToune r s
  refine ⟨hstart, newTableOp op table m items r h s.tick.count, hans.path.trans ?_, rfl, rfl, rfl, rfl, rfl, rfl⟩
  rw [hx]
  rfl

section
variable {r : Req} {s : State} {n : Nat} (hn : n = rd r.payload 2 2)
include hn

section
variable {t m : Nat} (ht : t = rd r.payload 0 1) (ht6 : t ≤ 6) (hm : m = rd r.payload 1 1) (hm1 : 1 ≤ m) (hm15 : m ≤ 15)
  (hn1 : 1 ≤ n) (hn64 : n ≤ 64) (hz : zeros r.payload 4 4 = true)
include ht ht6 hm hm1 hm15 hn1 hn64 hz

theorem tableCommand_legal (op : Nat) {sz : Nat}
    (hsz : (if op = Op.tableDelete then deleteItemSize t else writeItemSize t) = sz)
    (hl : r.payload.length = 8 + sz * n)
    (hi : (itemsOf sz n (r.payload.drop 8)).any (fun b =>
      if op = Op.tableDelete then deleteItemBad t b else (pipesOf m).any (fun q => writeItemBad s q t b)) = false) :
    tableCommand op r s = acceptTable op t m (itemsOf sz n (r.payload.drop 8)) r s := by
  have hmask : pipeMask (r.payload.drop 1) = some m := hm ▸ pipeMask_legal (p := r.payload.drop 1) (hm ▸ hm1) (hm ▸ hm15)
  unfold tableCommand
  simp only [← ht, ← hn, hmask, hsz, hi]
  exact (if_neg (by simp only [hz, hl, Bool.not_true, Bool.false_eq_true, false_or]; omega)).trans
    (if_neg Bool.false_ne_true)

theorem bodyTableWrite_legal (hl : r.payload.length = 8 + writeItemSize t * n)
    (hi : ∀ b ∈ itemsOf (writeItemSize t) n (r.payload.drop 8), ∀ p ∈ pipesOf m, writeItemBad s p t b = false) :
    bodyTableWrite r s =
      acceptTable Op.tableWrite t m (itemsOf (writeItemSize t) n (r.payload.drop 8)) r s := by
  have hop : ¬(Op.tableWrite = Op.tableDelete) := by decide
  refine tableCommand_legal hn ht ht6 hm hm1 hm15 hn1 hn64 hz Op.tableWrite (if_neg hop) hl ?_
  simpa only [if_neg hop, List.any_eq_false, Bool.not_eq_true] using hi

theorem bodyTableDelete_legal (hl : r.payload.length = 8 + deleteItemSize t * n)
    (hi : ∀ b ∈ itemsOf (deleteItemSize t) n (r.payload.drop 8), deleteItemBad t b = false) :
    bodyTableDelete r s =
      acceptTable Op.tableDelete t m (itemsOf (deleteItemSize t) n (r.payload.drop 8)) r s := by
  refine tableCommand_legal hn ht ht6 hm hm1 hm15 hn1 hn64 hz Op.tableDelete (if_pos rfl) hl ?_
  simpa only [if_true, List.any_eq_false, Bool.not_eq_true] using hi

end

/-! ### Reads -/

section
variable (ht : rd r.payload 0 1 = 4) (hp : rd r.payload 1 1 ≤ 3) (hn1 : 1 ≤ n) (hn64 : n ≤ 64) (hl : r.payload.length = 16)
  (hz : zeros r.payload 8 8 = true)
include ht hp hn1 hn64 hl hz

theorem bodyTableRead_beyond (hs : 131072 ≤ rd r.payload 4 4) : bodyTableRead r s = (s, .no St.eRange) := by
  subst hn
  unfold bodyTableRead
  dsimp only
  rw [if_neg (by simp only [hz, hl, ht, Bool.not_true, Bool.false_eq_true, or_false]; omega), if_neg (by omega), if_pos ht,
    if_pos hs]

/-- What TABLE_READ answers of `k` next hops from index `start` (R619). -/
def nextHopsAnswer (m : Table (BitVec 128)) (start k : Nat) : List Byte :=
  le 2 k ++ le 2 0 ++ le 4 (if start + k < 131072 then start + k else 0xFFFFFFFF) ++
    ((List.range k).map (fun i => le 4 (start + i) ++ le 16 (tgetD (fun _ => 0) m (start + i)).toNat)).flatten

theorem bodyTableRead_nextHops (hs : rd r.payload 4 4 < 131072) :
    bodyTableRead r s = (s, .yes (nextHopsAnswer (fwdAt s (rd r.payload 1 1)).nh (rd r.payload 4 4)
      (min n (131072 - rd r.payload 4 4)))) := by
  subst hn
  unfold bodyTableRead
  dsimp only
  rw [if_neg (by simp only [hz, hl, ht, Bool.not_true, Bool.false_eq_true, or_false]; omega), if_neg (by omega), if_pos ht,
    if_neg (by omega)]
  simp only [ht, if_true]
  rfl

end
end

theorem bodyL2Flush_legal {r : Req} {s : State} {m : Nat} (hm : m = rd r.payload 0 1) (hm1 : 1 ≤ m) (hm15 : m ≤ 15)
    (hl : r.payload.length = 8) (hf : rd r.payload 1 1 ≤ 7) (hf4 : rd r.payload 1 1 % 4 ≠ 0) (hv : rd r.payload 4 2 ≤ 4095)
    (hz : zeros r.payload 6 2 = true) : bodyL2Flush r s = acceptTable Op.l2Flush 0 m [r.payload] r s := by
  subst hm
  unfold bodyL2Flush
  simp only [pipeMask_legal hm1 hm15]
  exact if_neg (by simp only [hz, hl, Bool.not_true, Bool.false_eq_true, or_false]; omega)

/-! ### REHASH -/

/-- A copy with one run more (R201). -/
def withRun (g : Rehash) (x : FwdCopy) : FwdCopy := { x with rehash := x.rehash ++ [g] }

/-- A run joins those of a copy, and its work item is posted (R201). -/
def enterRun (g : Rehash) (s : State) (q : Nat) : State :=
  postItem (q / 2) (.rehash q g.table) (setFwd q (withRun g (fwdAt s q)) s)

/-- Posting a REHASH item changes the dispatchers alone: at the capacity of its class it is dropped without a word (R506). -/
theorem postItem_rehash (d p t : Nat) (s : State) : (postItem d (.rehash p t) s).path = s.path ∧
    (postItem d (.rehash p t) s).toune = s.toune := by
  unfold postItem
  dsimp only
  split <;> exact ⟨rfl, rfl⟩

theorem fwdAt_enterRun (g : Rehash) (s : State) (p q : Nat) :
    fwdAt (enterRun g s p) q = if q = p then withRun g (fwdAt s p) else fwdAt s q :=
  (fwdAt_congr (congrArg Path.fwd (postItem_rehash ..).1) q).trans (fwdAt_setFwd ..)

theorem foldl_enterRun_toune (g : Rehash) (l : List Nat) (s : State) : (l.foldl (enterRun g) s).toune = s.toune := by
  induction l generalizing s with
  | nil => rfl
  | cons p l ih => exact (ih _).trans (postItem_rehash ..).2

/-- The run that a REHASH with given seeds starts under a handle. -/
def newRun (r : Req) (t : Nat) (h : Word) : Rehash :=
  { handle := h, session := r.session, table := t
    new0 := BitVec.ofNat 32 (rd r.payload 4 4), new1 := BitVec.ofNat 32 (rd r.payload 8 4) }

section
variable {r : Req} {s : State} {t m : Nat} (hm : m = rd r.payload 0 1) (hm1 : 1 ≤ m) (hm15 : m ≤ 15)
  (ht : t = rd r.payload 1 1) (ht1 : t ≤ 1) (hl : r.payload.length = 16) (hz : zeros r.payload 2 2 = true)
  (hz12 : zeros r.payload 12 4 = true) (hseed : rd r.payload 4 8 ≠ 0)
  (hfree : ∀ p ∈ pipesOf m, ∀ g ∈ (fwdAt s p).rehash, g.table ≠ t)
include hm hm1 hm15 ht ht1 hl hz hz12 hseed hfree

theorem bodyRehash_legal :
    bodyRehash r s = accepted Op.rehash r true (fun h s => (pipesOf m).foldl (enterRun (newRun r t h)) s) s := by
  subst hm ht
  have hnone : (pipesOf (rd r.payload 0 1)).any (fun q => (fwdAt s q).rehash.any (fun g => g.table == rd r.payload 1 1)) =
      false := by
    simpa only [List.any_eq_false, Bool.not_eq_true, beq_eq_false_iff_ne, List.any_eq_true, beq_iff_eq, not_exists, not_and]
      using hfree
  unfold bodyRehash
  simp only [pipeMask_legal hm1 hm15, hnone, if_neg hseed]
  exact (if_neg (by simp only [hz, hz12, hl, Bool.not_true, Bool.false_eq_true, or_false]; omega)).trans
    (if_neg Bool.false_ne_true)

theorem rehash_started {h : Word} (hr : Runs Op.rehash r s) (hn : newHandle s = some h) :
    Started Op.rehash r h s (runToune Op.rehash bodyRehash r s) ∧ ∀ p, fwdAt (runToune Op.rehash bodyRehash r s) p =
      if p ∈ pipesOf m then withRun (newRun r t h) (fwdAt s p) else fwdAt s p := by
  have e := bodyRehash_legal (s := touch r s) hm hm1 hm15 ht ht1 hl hz hz12 hseed (by simpa only [fwdAt_touch] using hfree)
  obtain ⟨hstart, hans⟩ := runs_starts hr hn e fun _ => foldl_enterRun_toune ..
  refine ⟨hstart, fun p => ?_⟩
  rw [hans.fwdAt, fwdAt_foldl (fwdAt_enterRun _) (pipesOf_nodup m), ← fwdAt_touch r s p]
  rfl

end

end Sys2Proof.Machine
end

section
/-! Proofs.  One tick of a copy's maintenance port: the write of a next hop and the learn of a station (R190, R192, R194). -/

namespace Sys2Proof.Machine

/-! ### The parts of a tick -/

/-- A copy whose maintenance port has run in a tick (R190). -/
def withPortAt (t : Tick) (x : FwdCopy) : FwdCopy := { x with portAt := some t }

/-- The maintenance port of a copy has run in this tick (R190). -/
def portTaken (p : Nat) (s : State) : State := setFwd p (withPortAt s.tick.count (fwdAt s p)) s

/-- The scrubber of a copy has read its four entries of a tick. -/
def scrubMoved (p : Nat) (s : State) : State :=
  setFwd p { fwdAt s p with scrubPos := ((fwdAt s p).scrubPos + 4) % 2162688 } s

theorem fwdMaintTick_idle {p : Nat} {s : State} (h : unitState s ⟨7, p⟩ = .rejoin ∨ (fwdAt s p).portAt = some s.tick.count) :
    fwdMaintTick p s = s := if_pos h

theorem syncLearns_none {p : Nat} {s : State} (h : (fwdAt s p).syncIn = []) (k : Nat) :
    syncLearns p k s = (setFwd p (fwdAt s p) s, k) := by
  unfold syncLearns
  dsimp only
  rw [h, List.foldl_nil, ← h]

theorem rehashTick_none {p : Nat} {s : State} (h : (fwdAt s p).rehash = []) (k : Nat) : rehashTick p k s = s := by
  unfold rehashTick; dsimp only; rw [h]

/-- A tick of a copy without synchronised learns and runs is its host writes, its own learns and the scrubber's read (R190). -/
theorem fwdMaintTick_runs {p : Nat} {s : State} (hu : unitState s ⟨7, p⟩ ≠ .rejoin)
    (hp : (fwdAt s p).portAt ≠ some s.tick.count) {s1 s2 : State} {l1 l2 : Nat}
    (e1 : hostWrites p (portTaken p s) = (s1, l1)) (e2 : ownLearns p (512 + l1) s1 = (s2, l2))
    (hs : (fwdAt s2 p).syncIn = []) (hr : (fwdAt s2 p).rehash = []) : fwdMaintTick p s = scrubMoved p s2 := by
  unfold portTaken withPortAt at e1
  unfold fwdMaintTick
  rw [if_neg (not_or.mpr ⟨hu, hp⟩)]
  simp only [e1, e2, syncLearns_none hs]
  rw [rehashTick_none (by rwa [fwdAt_setFwd_self]), fwdAt_setFwd_self, setFwd_setFwd]
  rfl

/-! ### Host writes -/

theorem hostWrites_none {p : Nat} {s : State} (h : s.path.tableOps = []) : hostWrites p s = (s, 2048) := by
  unfold hostWrites
  rw [h, List.foldl_nil, ← h]
  rfl

/-- A command as it stands once a copy has applied its last item with room (R194). -/
def appliedBy (p : Nat) (t : Tick) (o : TableOp) : TableOp :=
  { o with waiting := terase o.waiting p, status := tput o.status p (tgetD (fun _ => St.ok) o.status p), lastTick := t }

/-- A copy with the next hop of an item of TABLE_WRITE (R198, R619). -/
def withNextHop (b : List Byte) (x : FwdCopy) : FwdCopy :=
  { x with nh := tput x.nh (rd b 0 4) (BitVec.ofNat 128 (rd b 4 16)) }

/-- The state once a copy has applied the one item, a next hop, of the one command waiting. -/
def nextHopWritten (p : Nat) (b : List Byte) (o : TableOp) (s : State) : State :=
  (setFwd p (withNextHop b (fwdAt s p)) s).setPath
    { (setFwd p (withNextHop b (fwdAt s p)) s).path with tableOps := [appliedBy p s.tick.count o] }

theorem fwdAt_nextHopWritten (p : Nat) (b : List Byte) (o : TableOp) (s : State) (q : Nat) :
    fwdAt (nextHopWritten p b o s) q = if q = p then withNextHop b (fwdAt s p) else fwdAt s q := fwdAt_setFwd ..

section
variable {p : Nat} {o : TableOp} {b : List Byte} (hop : o.opcode = Op.tableWrite) (ht : o.table = 4) (hi : o.items = [b])
  (hw : tfind o.waiting p = some 0)
include hop ht hi hw

theorem applyOp_nextHop (s : State) :
    applyOp p o 2048 s = (setFwd p (withNextHop b (fwdAt s p)) s, appliedBy p s.tick.count o, 2047) := by
  obtain ⟨handle, session, opcode, table, items, waiting, status, lastTick⟩ := o
  subst hop ht hi
  unfold applyOp
  dsimp only at hw ⊢
  rw [hw]
  rfl

theorem hostWrites_nextHop {s : State} (h : s.path.tableOps = [o]) :
    hostWrites p s = (nextHopWritten p b o s, 2047) := by
  unfold hostWrites nextHopWritten
  rw [h]
  simp only [List.foldl_cons, List.foldl_nil, if_true, applyOp_nextHop hop ht hi hw, List.nil_append]

end

/-! ### Learning -/

theorem ownLearns_none {p : Nat} {s : State} (h : (fwdAt s p).learns = []) (k : Nat) :
    ownLearns p k s = (setFwd p (fwdAt s p) s, k) := by
  unfold ownLearns
  rw [h, List.foldl_nil, ← h]

/-- The entry that a learn installs (R192). -/
def learnedEntry (l : Learn) : L2Entry := { mac := l.mac, vlan := l.vlan, dest := l.port }

/-- A learn of the pipeline's own into an empty L2 table enters it and counts in LEARNED (R192). -/
theorem learnOne_first {p : Nat} {s : State} (h : (fwdAt s p).l2 = []) (l : Learn) :
    learnOne p l true s = (bump48 12 p 0 1 (setFwd p (withFirstL2 (learnedEntry l) (fwdAt s p)) s), 1, true) := by
  unfold learnOne
  dsimp only
  rw [l2Find_empty h]
  dsimp only
  rw [l2Put_empty h]
  rfl

/-- The learns of a copy have been taken up. -/
def learnsTaken (p : Nat) (s : State) : State := setFwd p { fwdAt s p with learns := [] } s

/-- The state after one learn into an empty L2 table, which is not synchronised. -/
def learnedFirst (p : Nat) (l : Learn) (s : State) : State :=
  bump48 12 p 0 1 (setFwd p (withFirstL2 (learnedEntry l) (fwdAt (learnsTaken p s) p)) (learnsTaken p s))

theorem ownLearns_first {p : Nat} {s : State} {l : Learn} (h : (fwdAt s p).learns = [l]) (h2 : (fwdAt s p).l2 = [])
    (hsync : bitOf (reg s 12 p 1).toNat 1 = false) (k : Nat) : ownLearns p (k + 1) s = (learnedFirst p l s, k) := by
  have hreg : reg (learnsTaken p s) 12 p 1 = reg s 12 p 1 := rfl
  have hl2 : (fwdAt (learnsTaken p s) p).l2 = [] := by unfold learnsTaken; rw [fwdAt_setFwd_self]; exact h2
  unfold ownLearns
  rw [h, List.foldl_cons, List.foldl_nil, ← learnsTaken]
  dsimp only
  rw [learnOne_first hl2, hreg, hsync]
  exact if_neg (Nat.not_lt.mpr (Nat.le_add_left 1 k))

/-! ### What a tick leaves -/

section
variable {p : Nat} {s : State} (hu : unitState s ⟨7, p⟩ ≠ .rejoin) (hp : (fwdAt s p).portAt ≠ some s.tick.count)
  (hs : (fwdAt s p).syncIn = []) (hr : (fwdAt s p).rehash = [])
include hu hp hs hr

theorem fwdMaintTick_nextHop {o : TableOp} {b : List Byte} (h : s.path.tableOps = [o]) (hop : o.opcode = Op.tableWrite)
    (ht : o.table = 4) (hi : o.items = [b]) (hw : tfind o.waiting p = some 0) (hl : (fwdAt s p).learns = []) :
    (fwdMaintTick p s).path.tableOps = [appliedBy p s.tick.count o] ∧
      (fwdAt (fwdMaintTick p s) p).nh = (withNextHop b (fwdAt s p)).nh ∧
      ∀ q, q ≠ p → fwdAt (fwdMaintTick p s) q = fwdAt s q := by
  have e1 := hostWrites_nextHop hop ht hi hw (s := portTaken p s) h
  have hself : fwdAt (nextHopWritten p b o (portTaken p s)) p = withNextHop b (withPortAt s.tick.count (fwdAt s p)) := by
    rw [fwdAt_nextHopWritten, if_pos rfl, portTaken, fwdAt_setFwd_self]
  have e2 := ownLearns_none (p := p) (s := nextHopWritten p b o (portTaken p s)) (by rw [hself]; exact hl) (512 + 2047)
  rw [fwdMaintTick_runs hu hp e1 e2 (by rw [fwdAt_setFwd_self, hself]; exact hs)
    (by rw [fwdAt_setFwd_self, hself]; exact hr)]
  unfold scrubMoved
  refine ⟨rfl, ?_, fun q hq => ?_⟩
  · rw [fwdAt_setFwd_self, fwdAt_setFwd_self, hself]
    rfl
  · rw [fwdAt_setFwd_ne _ _ hq, fwdAt_setFwd_ne _ _ hq, fwdAt_nextHopWritten, if_neg hq]
    exact fwdAt_setFwd_ne _ _ hq

theorem fwdMaintTick_learn {l : Learn} (h : s.path.tableOps = []) (hl : (fwdAt s p).learns = [l]) (h2 : (fwdAt s p).l2 = [])
    (hsync : bitOf (reg s 12 p 1).toNat 1 = false) :
    Counted 12 p 0 1 s (fwdMaintTick p s) ∧ (fwdAt (fwdMaintTick p s) p).learns = [] ∧
      l2Find (fwdAt (fwdMaintTick p s) p) l.mac l.vlan = some (learnedEntry l) ∧
      ∀ q, q ≠ p → fwdAt (fwdMaintTick p s) q = fwdAt s q := by
  have hx : fwdAt (portTaken p s) p = withPortAt s.tick.count (fwdAt s p) := fwdAt_setFwd_self ..
  have e1 := hostWrites_none (p := p) (s := portTaken p s) h
  have e2 := ownLearns_first (s := portTaken p s) (by rw [hx]; exact hl) (by rw [hx]; exact h2) hsync (512 + 2047)
  have hself : fwdAt (learnedFirst p l (portTaken p s)) p =
      withFirstL2 (learnedEntry l) { withPortAt s.tick.count (fwdAt s p) with learns := [] } := by
    refine (fwdAt_setFwd_self ..).trans ?_
    unfold learnsTaken
    rw [fwdAt_setFwd_self, hx]
  rw [fwdMaintTick_runs hu hp e1 e2 (by rw [hself]; exact hs) (by rw [hself]; exact hr)]
  refine ⟨?_, ?_, ?_, fun q hq => ?_⟩
  · exact ((bump48_counted ..).of_before rfl).of_after rfl
  · unfold scrubMoved
    rw [fwdAt_setFwd_self, hself]
    rfl
  · unfold scrubMoved
    rw [fwdAt_setFwd_self, hself]
    exact l2Find_withFirstL2 (learnedEntry l) _
  · exact (fwdAt_setFwd_ne _ _ hq).trans ((fwdAt_setFwd_ne _ _ hq).trans
      ((fwdAt_setFwd_ne _ _ hq).trans (fwdAt_setFwd_ne _ _ hq)))

end

end Sys2Proof.Machine
end

section
/-! Proofs.  The completions of the table commands and of REHASH (R194, R201, R490), and the statement. -/

namespace Sys2Proof.Machine

/-! ### TABLE_OP_DONE -/

theorem tableOpDone_idle {s : State} (h : ∀ o ∈ s.path.tableOps, o.waiting ≠ []) : tableOpDone s = s := by
  have hf : s.path.tableOps.find? (fun o => o.waiting == []) = none :=
    List.find?_eq_none.mpr fun o ho => by simpa using h o ho
  unfold tableOpDone
  rw [hf]

/-- Where every status listed is OK, every copy reads OK. -/
theorem tgetD_status_ok {m : Table Half} (h : m.all (fun e => e.2 == St.ok) = true) (p : Nat) :
    tgetD (fun _ => St.ok) m p = St.ok := by
  unfold tgetD
  induction m with
  | nil => rfl
  | cons e m ih =>
    obtain ⟨k, v⟩ := e
    obtain ⟨hv, hm⟩ := (Bool.and_eq_true ..).mp (List.all_cons (a := (k, v)) ▸ h)
    simp only [tfind]
    split
    · exact beq_iff_eq.mp hv
    · exact ih hm

/-- The one command, which every copy has applied with room, completes with OK and leaves the queue (R194). -/
theorem tableOpDone_ends {s : State} {o : TableOp} (h : s.path.tableOps = [o]) (hw : o.waiting = [])
    (hst : o.status.all (fun e => e.2 == St.ok) = true) :
    tableOpDone s = complete Ev.tableOpDone o.handle St.ok (le 8 0 ++ le 8 o.lastTick.toNat)
      (s.setPath { s.path with tableOps := [] }) := by
  have hany : o.status.any (fun e => e.2 != St.ok) = false := by
    rw [List.any_eq_not_all_not]
    simpa using hst
  have hfields : ((List.range 4).map (fun p => le 2 (tgetD (fun _ => St.ok) o.status p).toNat)).flatten = le 8 0 := by
    simp only [tgetD_status_ok hst]
    rfl
  unfold tableOpDone
  simp only [h, List.find?_cons, hw, BEq.rfl, hany, hfields, List.filter_cons, bne_self_eq_false, List.filter_nil]
  rfl

/-! ### REHASH_DONE -/

/-- The worse of a status and OK is the status (R194). -/
theorem worse_ok (a : Half) : worse a St.ok = a := by
  unfold worse
  by_cases h : a = St.eNospace
  · rw [if_pos (Or.inl h), h]
  · rw [if_neg (not_or.mpr ⟨h, by decide⟩)]
    split
    · exact Eq.symm ‹_›
    · rfl

/-- A copy once its one run has replaced the seeds of the L2 table; the old pair is probed until the next boundary (R201). -/
def withNewSeeds (g : Rehash) (x : FwdCopy) : FwdCopy :=
  { x with seeds := (x.seeds.set 0 g.new0).set 1 g.new1
           closing := tput x.closing 0 ((seedPairs x 0).filter (· != (g.new0, g.new1)))
           dual := terase x.dual 0, rehash := [] }

section
variable {p : Nat} {s : State} {g : Rehash} (h : (fwdAt s p).rehash = [g]) (hc : cancelled s g.handle = false)
include h hc

theorem rehashDone_idle (hg : g.running = false ∨ g.walked < buckets) : rehashDone p s = s := by
  unfold rehashDone
  simp only [h, hc]
  exact if_pos (by simpa using hg)

/-- The last of a command's runs, whose walk has placed every entry, ends the command with the worst status of its copies. -/
theorem rehashDone_ends (ht : g.table = 0) (hrun : g.running = true) (hwalk : buckets ≤ g.walked)
    (hplaced : ∀ e ∈ (fwdAt s p).l2, placedNew l2Kind (g.new0, g.new1) e.1 e.2 = true)
    (hlast : ∀ q, q < 4 → q ≠ p → ∀ x ∈ (fwdAt s q).rehash, x.handle ≠ g.handle) :
    rehashDone p s = complete Ev.rehashDone g.handle g.worst (le 1 p ++ le 1 0 ++ le 2 0 ++ le 4 0)
      (setFwd p (withNewSeeds g (fwdAt s p)) s) := by
  have hleft : (fwdAt s p).l2.filter (fun e => !placedNew l2Kind (g.new0, g.new1) e.1 e.2) = [] :=
    List.filter_eq_nil_iff.mpr fun e he => by simp [hplaced e he]
  have hothers : (List.range 4).filter (fun q => (fwdAt (setFwd p (withNewSeeds g (fwdAt s p)) s) q).rehash.any
      (fun x => x.handle == g.handle)) = [] := by
    refine List.filter_eq_nil_iff.mpr fun q hq => ?_
    rw [fwdAt_setFwd]
    split
    · exact Bool.false_ne_true
    · simpa using hlast q (List.mem_range.mp hq) ‹_›
  unfold withNewSeeds at hothers
  unfold rehashDone
  simp only [h, hc, ht, hrun, hleft, Nat.mul_zero, Nat.zero_add, List.length_nil, Bool.false_eq_true, if_true, if_false,
    hothers, worse_ok]
  exact if_neg (by simpa using hwalk)

end

/-! ### The statement -/

/-- Settles O41: each command by its legal argument on the state in which the request has been noted, the tick by what its
host writes and its learns leave, and each completion by the record that it ends.  That the port runs once a tick is the
model's choice of log 58, and that the last copy of a REHASH ends its operation that of log 29. -/
theorem forwardingTablesAreWrittenReadAndRehashed : Obligations.ForwardingTablesAreWrittenReadAndRehashed := by
  intro r s n h hn hh
  refine ⟨fun t m hr ht ht6 hm hm1 hm15 hn1 hn64 hz hl hi => ?_, fun t m hr ht ht6 hm hm1 hm15 hn1 hn64 hz hl hi => ?_,
    fun m hr hm hm1 hm15 hl hf hf4 hv hz => ?_, fun p start k hr ht hp hp3 hn1 hn64 hl hz hstart => ?_,
    fun t m hr hm hm1 hm15 ht ht1 hl hz hz12 hseed hfree => ?_, fun p => ⟨fun hidle => ?_, fun hu hp hs hg => ?_⟩,
    fun hwait => ?_, fun o ho hw hst => ?_, fun p g hg hc ht => ⟨fun hidle => ?_, fun hrun hwalk hplaced hlast => ?_⟩⟩
  · exact ⟨_, rfl, tableCommand_queued hr hh
      (bodyTableWrite_legal hn ht ht6 hm hm1 hm15 hn1 hn64 hz hl (by simpa only [writeItemBad_touch] using hi))⟩
  · exact ⟨_, rfl, tableCommand_queued hr hh (bodyTableDelete_legal hn ht ht6 hm hm1 hm15 hn1 hn64 hz hl hi)⟩
  · exact ⟨_, rfl, tableCommand_queued hr hh (bodyL2Flush_legal hm hm1 hm15 hl hf hf4 hv hz)⟩
  · subst hp hstart
    refine ⟨fun hbeyond => ⟨_, rfl, runs_answers hr (bodyTableRead_beyond hn ht hp3 hn1 hn64 hl hz hbeyond) rfl⟩,
      fun hin hk => ?_⟩
    have e := bodyTableRead_nextHops (s := touch r s) hn ht hp3 hn1 hn64 hl hz hin
    rw [fwdAt_touch, ← hk] at e
    exact ⟨_, rfl, runs_answers hr e rfl⟩
  · exact ⟨_, rfl, rehash_started hm hm1 hm15 ht ht1 hl hz hz12 hseed hfree hr hh⟩
  · exact congrArg Host.Outcome.next (fwdMaintTick_idle hidle)
  · refine ⟨fun o b ho hop ht hi hw hl => ?_, fun l ho hl h2 hsync => ?_⟩
    · obtain ⟨hops, hnh, hothers⟩ := fwdMaintTick_nextHop hu hp hs hg ho hop ht hi hw hl
      refine ⟨_, _, rfl, hops, (tfind_terase ..).trans (if_pos rfl), rfl, rfl, fun k => ?_, hothers⟩
      rw [hnh]
      exact tgetD_tput ..
    · exact ⟨_, rfl, fwdMaintTick_learn hu hp hs hg ho hl h2 hsync⟩
  · exact congrArg Host.Outcome.next (tableOpDone_idle hwait)
  · obtain ⟨hdone, hstatus⟩ := complete_done Ev.tableOpDone o.handle St.ok (le 8 0 ++ le 8 o.lastTick.toNat)
      (s.setPath { s.path with tableOps := [] })
    refine ⟨_, congrArg Host.Outcome.next (tableOpDone_ends ho hw hst), rfl, hdone, hstatus, ?_⟩
    rw [List.append_assoc]
    exact complete_lastRaised ..
  · exact congrArg Host.Outcome.next (rehashDone_idle hg hc hidle)
  · have hcopy : fwdAt (rehashDone p s) p = withNewSeeds g (fwdAt s p) := by
      rw [rehashDone_ends hg hc ht hrun hwalk hplaced hlast]
      exact fwdAt_setFwd_self ..
    refine ⟨rehashDone p s, rfl, ?_⟩
    rw [hcopy, rehashDone_ends hg hc ht hrun hwalk hplaced hlast]
    exact ⟨rfl, rfl, rfl, complete_done ..⟩

end Sys2Proof.Machine
end

section
/-! Proofs.  Flow programs, templates and pools (R228, R231, R300, R308): what each command answers on a legal argument, and what
the change of a pool leaves. -/

namespace Sys2Proof.Machine

/-! ### Requests that wait, and requests that tell -/

/-- A request whose change alone waits for its boundary leaves the flow part (R34, R35). -/
theorem runs_waits {op : Nat} {body : Req → State → State × Reply} {r : Req} {s : State} {c : Change} (h : Runs op r s)
    (e : body r (touch r s) =
      (defer { due := dueTick (touch r s) r.cycle, change := c, resp := some (respOf op r 0 []) } (touch r s),
        { waits := true })) :
    Waits op r c s (runToune op body r s) ∧ (runToune op body r s).flow = s.flow := by
  refine ⟨(runs_marks (l := []) (f := id) h List.nodup_nil e).1, ?_⟩
  rw [runToune_runs op body r s h, e]
  exact (finish_answers ..).flow.trans (touch_answers r s).flow

/-- A request whose change ends with one event is answered, and raises that event alone (R493). -/
theorem runs_tells {op : Nat} {body : Req → State → State × Reply} {r : Req} {s s1 : State} {code : Nat} {d pl : List Byte}
    (h : Runs op r s) (e : body r (touch r s) = (raise code d s1, .yes pl)) (ht : s1.toune = (touch r s).toune) :
    Answered op r St.ok pl s (runToune op body r s) ∧ Raised [(code, d)] s (runToune op body r s) ∧
      (runToune op body r s).flow = s1.flow := by
  obtain ⟨ha, x, hx, hrep⟩ := runs_effect h e rfl
  refine ⟨⟨x, ?_, hrep⟩, ?_, ha.flow⟩
  · rw [hx]
    exact congrArg (· ++ [x]) ((congrArg Toune.responses ht).trans (touch_responses r s))
  · obtain ⟨l, hl, hd⟩ := raise_raised code d ((congrArg Toune.events ht).trans (touch_events r s))
    refine ⟨l, ?_, hd⟩
    rw [runToune_runs op body r s h, e, finish_events]
    exact hl

/-- Without a standby nothing is sent to it (R545). -/
theorem twinControl_unpaired {s : State} (h : pairedActive s = false) (type : Nat) (b : List Byte) :
    twinControl type b s = s := by
  unfold twinControl
  rw [h]

theorem pairedActive_congr {s t : State} (h : t.twin = s.twin) : pairedActive t = pairedActive s := by
  unfold pairedActive; rw [h]

section
variable (r : Req) (s : State)

@[simp] theorem futureTemplates_touch : futureTemplates (touch r s) = futureTemplates s := by
  unfold futureTemplates
  rw [(touch_answers r s).sys, (touch_answers r s).flow]

@[simp] theorem futureProg_touch : futureProg (touch r s) = futureProg s := by
  unfold futureProg
  rw [(touch_answers r s).sys, (touch_answers r s).flow]

@[simp] theorem pairedActive_touch : pairedActive (touch r s) = pairedActive s := pairedActive_congr (touch_answers r s).twin

end

/-! ### Programs -/

section
variable {r : Req} {s : State} {b : List Byte}

section
variable (hl : r.payload.length = 16) (hb : descBytes r 0 s = .ok b)
include hl hb

theorem bodyFlowProgLoad_fault {st : Half} {pl : List Byte}
    (hf : progFault (programsNamed (futureTemplates s)) b = some (st, pl)) :
    bodyFlowProgLoad r s = (s, { status := st, payload := pl }) := by
  simp [bodyFlowProgLoad, hl, hb, hf]

theorem bodyFlowProgLoad_waits (hp : pairedActive s = false)
    (hf : progFault (programsNamed (futureTemplates s)) b = none) :
    bodyFlowProgLoad r s =
      (defer { due := dueTick s r.cycle, change := .progLoad b, resp := some (respOf Op.flowProgLoad r 0 []) } s,
        { waits := true }) := by
  simp [bodyFlowProgLoad, hl, hb, hf, twinControl_unpaired hp]

end

section
variable (hl : r.payload.length = 8) (hz : zeros r.payload 4 4 = true)
include hl hz

theorem bodyFlowProgRead_beyond (h : (s.flow.prog.getD []).length < rd r.payload 0 4) :
    bodyFlowProgRead r s = (s, .no St.eRange) := by
  simp [bodyFlowProgRead, hl, hz, h]

theorem bodyFlowProgRead_reads (hb : b = s.flow.prog.getD []) (h : rd r.payload 0 4 ≤ b.length) :
    bodyFlowProgRead r s = (s, .yes (le 4 b.length ++ le 4 (rd r.payload 0 4) ++
      le 4 ((b.drop (rd r.payload 0 4)).take 4000).length ++ le 4 0 ++ (b.drop (rd r.payload 0 4)).take 4000)) := by
  subst hb
  unfold bodyFlowProgRead
  dsimp only
  rw [if_neg (by simp [hl, hz]), if_neg (by omega)]

/-! ### Templates -/

theorem bodyFlowTemplateRead_reads (h1 : 1 ≤ rd r.payload 2 2) (h64 : rd r.payload 2 2 ≤ 64)
    (h : rd r.payload 0 2 + rd r.payload 2 2 ≤ 1024) :
    bodyFlowTemplateRead r s = (s, .yes (le 2 (rd r.payload 2 2) ++ le 2 0 ++ ((List.range (rd r.payload 2 2)).map (fun i =>
      le 2 (rd r.payload 0 2 + i) ++ le 2 0 ++ templateAt s (rd r.payload 0 2 + i))).flatten)) := by
  unfold bodyFlowTemplateRead
  dsimp only
  rw [if_neg (by simp [hl, hz]), if_neg (by omega)]

end

/-- The item of 36 bytes with number `i` of a FLOW_TEMPLATE_WRITE (R621). -/
def templateItem (p : List Byte) (i : Nat) : List Byte := (p.drop (4 + 36 * i)).take 36

theorem bodyFlowTemplateWrite_waits {n : Nat} (hn : n = rd r.payload 0 2) (h1 : 1 ≤ n) (h64 : n ≤ 64)
    (hz : zeros r.payload 2 2 = true) (hl : r.payload.length = 4 + 36 * n) (hp : pairedActive s = false)
    (hi : ∀ i, i < n → rd (templateItem r.payload i) 0 2 ≤ 1023 ∧ zeros (templateItem r.payload i) 2 2 = true ∧
      templateBad (futureProg s) ((templateItem r.payload i).drop 4) = false) :
    bodyFlowTemplateWrite r s =
      (defer { due := dueTick s r.cycle
               change := .templates ((List.range n).map (fun i =>
                 (rd (templateItem r.payload i) 0 2, (templateItem r.payload i).drop 4)))
               resp := some (respOf Op.flowTemplateWrite r 0 []) } s, { waits := true }) := by
  subst hn
  have hrange : ((List.range (rd r.payload 0 2)).map (templateItem r.payload)).any (fun b => rd b 0 2 > 1023) = false := by
    simpa using fun i h => (hi i h).1
  have hlegal : ((List.range (rd r.payload 0 2)).map (templateItem r.payload)).any
      (fun b => !zeros b 2 2 || templateBad (futureProg s) (b.drop 4)) = false := by
    simpa using fun i h => (hi i h).2
  unfold bodyFlowTemplateWrite
  dsimp only
  change (if _ then _ else if _ then _ else if _ then _ else
    if ((List.range (rd r.payload 0 2)).map (templateItem r.payload)).any _ = true then _ else
    if ((List.range (rd r.payload 0 2)).map (templateItem r.payload)).any _ = true then _ else _) = _
  rw [if_neg (by simp [hl, hz]), if_neg (by omega), if_neg (by omega), hrange, hlegal, twinControl_unpaired hp]
  simp only [Bool.false_eq_true, if_false, List.map_map]
  rfl

end

/-! ### Pools -/

theorem slAt_modSl (n : Nat) (f : Slice → Slice) (s : State) (m : Nat) :
    slAt (modSl n f s) m = if m = n then f (slAt s n) else slAt s m := tgetD_tput ..

/-- A change made once for each slice of a list changes these slices alone. -/
theorem slAt_foldl_modSl (f : Nat → Slice → Slice) {l : List Nat} (hl : l.Nodup) (s : State) (m : Nat) :
    slAt (l.foldl (fun s n => modSl n (f n) s) s) m = if m ∈ l then f m (slAt s m) else slAt s m := by
  induction l generalizing s with
  | nil => rfl
  | cons n l ih =>
    obtain ⟨hn, hl⟩ := List.nodup_cons.mp hl
    rw [List.foldl_cons, ih hl, slAt_modSl]
    by_cases hm : m = n
    · subst hm
      simp [hn]
    · simp [hm]

/-- Changes of slices leave the rest of the flow part. -/
theorem foldl_modSl_flow (f : Nat → Slice → Slice) (l : List Nat) (s : State) :
    (l.foldl (fun s n => modSl n (f n) s) s).flow.pools = s.flow.pools := by
  induction l generalizing s with
  | nil => rfl
  | cons n l ih => exact (ih _).trans rfl

/-- The partition of a pool in slice `n` of a new definition, or none where the definition goes (R300, R303). -/
def renewParts (k : Nat) (defn : Option (List Byte)) (n : Nat) (x : Slice) : Slice :=
  { x with parts := match defn with
      | some d => if poolKind d = 0 then tput x.parts k (freshPart (partSize d n)) else terase x.parts k
      | none => terase x.parts k }

/-- The state in which a pool's definition and partitions are new, before POOL_CHANGED tells of it (R300). -/
def poolRenewed (k : Nat) (defn : Option (List Byte)) (s : State) : State :=
  (List.range 16).foldl (fun s n => modSl n (renewParts k defn n) s)
    (s.setFlow { s.flow with pools := match defn with | some d => tput s.flow.pools k d | none => terase s.flow.pools k })

theorem poolRenewed_same (k : Nat) (defn : Option (List Byte)) (s : State) : Same 262144 s (poolRenewed k defn s) :=
  (Same.setFlow s _).trans (Same.foldl (fun _ _ => modSl_same ..) ..)

theorem applyPool_tells (k : Nat) (defn : Option (List Byte)) (s : State) : applyPool k defn s =
    raise Ev.poolChanged (le 2 k ++ le 1 (b2n defn.isSome) ++ le 8 s.tick.count.toNat) (poolRenewed k defn s) := rfl

theorem applyPool_unpaired {s : State} (h : pairedActive s = false) (k : Nat) (defn : Option (List Byte)) :
    pairedActive (applyPool k defn s) = false := by
  rw [applyPool_tells, pairedActive_congr (((raise_same ..).twin rfl).trans ((poolRenewed_same ..).twin rfl)), h]

theorem poolRenewed_pools (k : Nat) (defn : Option (List Byte)) (s : State) (j : Nat) :
    tfind (poolRenewed k defn s).flow.pools j = if j = k then defn else tfind s.flow.pools j := by
  unfold poolRenewed
  rw [foldl_modSl_flow]
  cases defn with
  | some d => exact tfind_tput ..
  | none => exact tfind_terase ..

/-- Every partition of an ALLOCATE pool is as its definition leaves it (R302). -/
theorem poolRenewed_part (k : Nat) {d : List Byte} (hd : poolKind d = 0) (s : State) {n : Nat} (hn : n < 16) :
    partAt (poolRenewed k (some d) s) n k = freshPart (partSize d n) := by
  unfold partAt poolRenewed
  rw [slAt_foldl_modSl _ List.nodup_range, if_pos (List.mem_range.mpr hn)]
  simp only [renewParts, hd, if_true, tgetD_tput_self]

section
variable {r : Req} {s : State}

section
variable (hb : poolBad r.payload = false) (hpairs : poolKind r.payload = 0 → poolPairs r.payload ≤ 2 ^ 32)
  (hroom : bitmapsBut s (rd r.payload 0 2) + poolBitmap r.payload ≤ 16777216 * regField s 13 16 0x18 3 0)
include hb hpairs hroom

theorem bodyPoolDefine_busy (h : poolNamed s (rd r.payload 0 2) = true) : bodyPoolDefine r s = (s, .no St.eBusy) := by
  unfold bodyPoolDefine
  dsimp only
  rw [if_neg (by simp [hb]), if_neg (fun q => absurd (hpairs q.1) (Nat.not_le.mpr q.2)), if_neg (Nat.not_lt.mpr hroom),
    if_pos h]

theorem bodyPoolDefine_defines (hp : pairedActive s = false) (h : poolNamed s (rd r.payload 0 2) = false) :
    bodyPoolDefine r s = (raise Ev.poolChanged (le 2 (rd r.payload 0 2) ++ le 1 1 ++ le 8 s.tick.count.toNat)
      (poolRenewed (rd r.payload 0 2) (some r.payload) s), .yes []) := by
  unfold bodyPoolDefine
  dsimp only
  rw [if_neg (by simp [hb]), if_neg (fun q => absurd (hpairs q.1) (Nat.not_le.mpr q.2)), if_neg (Nat.not_lt.mpr hroom),
    if_neg (by simp [h]), twinControl_unpaired (applyPool_unpaired hp ..)]
  rfl

end

section
variable (hl : r.payload.length = 2) (hk : rd r.payload 0 2 ≤ 4095)
include hl hk

theorem bodyPoolDelete_deletes {d : List Byte} (hp : pairedActive s = false) (h : poolNamed s (rd r.payload 0 2) = false)
    (hd : tfind s.flow.pools (rd r.payload 0 2) = some d) :
    bodyPoolDelete r s = (raise Ev.poolChanged (le 2 (rd r.payload 0 2) ++ le 1 0 ++ le 8 s.tick.count.toNat)
      (poolRenewed (rd r.payload 0 2) none s), .yes []) := by
  unfold bodyPoolDelete
  dsimp only
  rw [if_neg (by omega), if_neg (by simp [h]), hd, twinControl_unpaired (applyPool_unpaired hp ..)]
  rfl

theorem bodyPoolRead_reads {d : List Byte} (hd : tfind s.flow.pools (rd r.payload 0 2) = some d) (h0 : poolKind d = 0) :
    bodyPoolRead r s = (s, .yes (d ++ ((List.range 16).map (fun n => le 4 (partAt s n (rd r.payload 0 2)).taken.length ++
      le 4 (partSize d n - (partAt s n (rd r.payload 0 2)).taken.length))).flatten)) := by
  unfold bodyPoolRead
  dsimp only
  rw [if_neg (by omega), hd]
  simp [h0]

end

end

section
variable (r : Req) (s : State)

@[simp] theorem bitmapsBut_touch (k : Nat) : bitmapsBut (touch r s) k = bitmapsBut s k := by
  unfold bitmapsBut; rw [(touch_answers r s).flow]

@[simp] theorem poolNamed_touch (k : Nat) : poolNamed (touch r s) k = poolNamed s k := by
  unfold poolNamed; rw [(touch_answers r s).flow]

@[simp] theorem partAt_touch (n k : Nat) : partAt (touch r s) n k = partAt s n k := by
  unfold partAt; rw [slAt_congr (touch_answers r s).flow]

@[simp] theorem templateAt_touch (t : Nat) : templateAt (touch r s) t = templateAt s t := by
  unfold templateAt; rw [(touch_answers r s).flow]

@[simp] theorem regField_touch (c i w hi lo : Nat) : regField (touch r s) c i w hi lo = regField s c i w hi lo := by
  unfold regField reg; rw [(touch_answers r s).regs]

end

/-! ### The statement -/

/-- Settles O46: each command by its body on the state in which the request has been noted.  The layouts of POOL_DELETE and
POOL_READ are the model's choice of log 31; that a pool is named where a record names it is that of log 40. -/
theorem programsTemplatesAndPoolsAreSetAndRead : Obligations.ProgramsTemplatesAndPoolsAreSetAndRead := by
  intro r s hs
  have hp : pairedActive (touch r s) = false := (pairedActive_touch r s).trans hs
  refine ⟨fun b hr hl hb => ⟨fun st pl hf => ?_, fun hf => ?_⟩, fun b o hr hl hz hb ho => ⟨fun h => ?_, fun h => ?_⟩,
    fun n hr hn h1 h64 hz hl hi => ?_, fun k n hr hl hz hk hn h1 h64 h => ?_,
    fun k hr hk hb hpairs hroom => ⟨fun h => ?_, fun h => ?_⟩, fun k d hr hk hl hk4 h hd => ?_,
    fun k d hr hk hl hk4 hd h0 => ?_⟩
  · exact ⟨_, rfl, runs_answers hr
      (bodyFlowProgLoad_fault hl ((descBytes_touch ..).trans hb) (by simpa only [futureTemplates_touch] using hf)) rfl⟩
  · exact ⟨_, rfl, runs_waits hr
      (bodyFlowProgLoad_waits hl ((descBytes_touch ..).trans hb) hp (by simpa only [futureTemplates_touch] using hf))⟩
  · subst ho
    exact ⟨_, rfl, runs_answers hr (bodyFlowProgRead_beyond hl hz (by rw [(touch_answers r s).flow, ← hb]; exact h)) rfl⟩
  · subst ho
    exact ⟨_, rfl, runs_answers hr (bodyFlowProgRead_reads hl hz (by rw [(touch_answers r s).flow]; exact hb) h) rfl⟩
  · obtain ⟨hw, hflow⟩ := runs_waits hr
      (bodyFlowTemplateWrite_waits hn h1 h64 hz hl hp (by simp only [futureProg_touch]; exact hi))
    exact ⟨_, _, rfl, hw, hflow, rfl⟩
  · subst hk hn
    have e := bodyFlowTemplateRead_reads (s := touch r s) hl hz h1 h64 h
    simp only [templateAt_touch] at e
    exact ⟨_, rfl, runs_answers hr e rfl⟩
  · subst hk
    exact ⟨_, rfl, runs_answers hr (bodyPoolDefine_busy hb hpairs
      (by simpa only [bitmapsBut_touch, regField_touch] using hroom) ((poolNamed_touch ..).trans h)) rfl⟩
  · subst hk
    obtain ⟨ha, he, hflow⟩ := runs_tells hr (bodyPoolDefine_defines hb hpairs
      (by simpa only [bitmapsBut_touch, regField_touch] using hroom) hp ((poolNamed_touch ..).trans h))
      ((poolRenewed_same ..).toune rfl)
    refine ⟨_, rfl, ha, ?_, fun j hj => ?_, fun h0 n hn => ?_, (touch_answers r s).tick ▸ he⟩
    · rw [hflow, poolRenewed_pools, if_pos rfl]
    · rw [hflow, poolRenewed_pools, if_neg hj, (touch_answers r s).flow]
    · unfold partAt
      rw [slAt_congr hflow]
      exact poolRenewed_part _ h0 _ hn
  · subst hk
    obtain ⟨ha, he, hflow⟩ := runs_tells hr (bodyPoolDelete_deletes hl hk4 hp ((poolNamed_touch ..).trans h)
      ((congrArg (fun x : Flow => tfind x.pools _) (touch_answers r s).flow).trans hd)) ((poolRenewed_same ..).toune rfl)
    refine ⟨_, rfl, ha, ?_, fun j hj => ?_, (touch_answers r s).tick ▸ he⟩
    · rw [hflow, poolRenewed_pools, if_pos rfl]
    · rw [hflow, poolRenewed_pools, if_neg hj, (touch_answers r s).flow]
  · subst hk
    have e := bodyPoolRead_reads (s := touch r s) hl hk4
      ((congrArg (fun x : Flow => tfind x.pools _) (touch_answers r s).flow).trans hd) h0
    simp only [partAt_touch] at e
    exact ⟨_, rfl, runs_answers hr e rfl⟩

end Sys2Proof.Machine
end

section
/-! Proofs.  What background work leaves of a slice: its entries, its queues and its in-flight table stand while shares are used,
counters count and the demoter walks (R39, R262, R288, R293). -/

namespace Sys2Proof.Machine

/-! ### A slice whose entries stand -/

/-- Slice `y` is slice `x` but for the shares used in the tick, the turn among the requesters of accesses, the marks of its fill and
the demoter's walk. -/
structure KeepsEntries (x y : Slice) : Prop where
  eq : y = { x with
    cycles := y.cycles, ownUse := y.ownUse, recUse := y.recUse, memTurn := y.memTurn, atLimit := y.atLimit, high := y.high
    age := y.age, walked := y.walked, demotePos := y.demotePos, demoteAt := y.demoteAt }

theorem KeepsEntries.rfl' (x : Slice) : KeepsEntries x x := ⟨rfl⟩

theorem KeepsEntries.trans {x y z : Slice} (h : KeepsEntries x y) (k : KeepsEntries y z) : KeepsEntries x z := by
  refine ⟨k.eq.trans ?_⟩
  rw [h.eq]

theorem KeepsEntries.tiers {x y : Slice} (h : KeepsEntries x y) : SameTiers x y :=
  ⟨(congrArg Slice.hearth h.eq :), (congrArg Slice.stack h.eq :), (congrArg Slice.turf h.eq :), (congrArg Slice.sums h.eq :),
    (congrArg Slice.badSums h.eq :), (congrArg Slice.clears h.eq :), (congrArg Slice.upsets h.eq :)⟩

theorem KeepsEntries.flights {x y : Slice} (h : KeepsEntries x y) : y.flights = x.flights := (congrArg Slice.flights h.eq :)

theorem KeepsEntries.failing {x y : Slice} (h : KeepsEntries x y) : y.failing = x.failing := (congrArg Slice.failing h.eq :)

theorem KeepsEntries.installs {x y : Slice} (h : KeepsEntries x y) : y.installs = x.installs :=
  (congrArg Slice.installs h.eq :)

theorem KeepsEntries.acks {x y : Slice} (h : KeepsEntries x y) : y.acks = x.acks := (congrArg Slice.acks h.eq :)

theorem KeepsEntries.ptrDemotes {x y : Slice} (h : KeepsEntries x y) : y.ptrDemotes = x.ptrDemotes :=
  (congrArg Slice.ptrDemotes h.eq :)

/-- From `s` to `t` the entries of slice `n` stand, with all that a search and a demotion rest on, and no other slice changes. -/
structure SliceStands (n : Nat) (s t : State) : Prop where
  slice : KeepsEntries (slAt s n) (slAt t n)
  others : ∀ m, m ≠ n → slAt t m = slAt s m
  cmds : t.flow.cmds = s.flow.cmds
  pools : t.flow.pools = s.flow.pools
  tick : t.tick = s.tick
  regs : t.prm.regs = s.prm.regs
  units : t.sys.units = s.sys.units
  turfs : t.jnl.turfs = s.jnl.turfs
  channels : t.jnl.channels = s.jnl.channels

theorem SliceStands.rfl' (n : Nat) (s : State) : SliceStands n s s :=
  ⟨.rfl' _, fun _ _ => rfl, rfl, rfl, rfl, rfl, rfl, rfl, rfl⟩

theorem SliceStands.trans {n : Nat} {r s t : State} (h : SliceStands n r s) (k : SliceStands n s t) : SliceStands n r t :=
  ⟨h.slice.trans k.slice, fun m hm => (k.others m hm).trans (h.others m hm), k.cmds.trans h.cmds, k.pools.trans h.pools,
    k.tick.trans h.tick, k.regs.trans h.regs, k.units.trans h.units, k.turfs.trans h.turfs, k.channels.trans h.channels⟩

/-- An operation that leaves the flow part, the tick, the settings, the units and the rings. -/
theorem SliceStands.of_same {w n : Nat} {s t : State} (h : Same w s t)
    (q : (w.testBit 18 || w.testBit 3 || w.testBit 23 || w.testBit 2 || w.testBit 15) = false) : SliceStands n s t := by
  simp only [Bool.or_eq_false_iff] at q
  obtain ⟨⟨⟨⟨qflow, qtick⟩, qregs⟩, qsys⟩, qjnl⟩ := q
  have hf := h.flow qflow
  refine ⟨?_, fun m _ => slAt_congr hf m, congrArg _ hf, congrArg _ hf, h.tick qtick, h.regs qregs, congrArg _ (h.sys qsys),
    congrArg _ (h.jnl qjnl), congrArg _ (h.jnl qjnl)⟩
  rw [slAt_congr hf]
  exact .rfl' _

theorem slAt_setSl (n : Nat) (x : Slice) (s : State) (m : Nat) : slAt (setSl n x s) m = if m = n then x else slAt s m :=
  tgetD_tput ..

theorem setSl_stands {n : Nat} {x : Slice} {s : State} (h : KeepsEntries (slAt s n) x) : SliceStands n s (setSl n x s) :=
  ⟨by rw [slAt_setSl_self]; exact h, fun m hm => by rw [slAt_setSl, if_neg hm], rfl, rfl, rfl, rfl, rfl, rfl, rfl⟩

/-! ### Work that leaves the entries -/

section
variable (n : Nat) (s : State)

theorem slEvent_stands (m code k : Nat) : SliceStands n s (slEvent m code k s) := .of_same (slEvent_same ..) rfl

theorem slCount_stands (m w k : Nat) : SliceStands n s (slCount m w k s) := .of_same (slCount_same ..) rfl

theorem useCycle_stands (i : Nat) : SliceStands n s (useCycle n i s) := setSl_stands ⟨rfl⟩

theorem useRec_stands (k c : Nat) : SliceStands n s (useRec n k c s) := setSl_stands ⟨rfl⟩

theorem useBack_stands (k c : Nat) : SliceStands n s (useBack n k c s) :=
  (useRec_stands n s k c).trans (slEvent_stands ..)

theorem useTurf_stands (m c : Nat) : SliceStands n s (useTurf m c s) :=
  ⟨.rfl' _, fun _ _ => rfl, rfl, rfl, rfl, rfl, rfl, rfl, rfl⟩

theorem raise_stands (code : Nat) (d : List Byte) : SliceStands n s (raise code d s) := .of_same (raise_same ..) rfl

theorem raiseLimited_stands (code key : Nat) (d : Nat → List Byte) : SliceStands n s (raiseLimited code key d s) := by
  have hf := (raiseLimited_same code key d s).flow rfl
  refine ⟨?_, fun m _ => slAt_congr hf m, congrArg _ hf, congrArg _ hf, (raiseLimited_same ..).tick rfl,
    (raiseLimited_same ..).regs rfl, ?_, congrArg _ ((raiseLimited_same ..).jnl rfl),
    congrArg _ ((raiseLimited_same ..).jnl rfl)⟩
  · rw [slAt_congr hf]
    exact .rfl' _
  · unfold raiseLimited raiseOnce
    dsimp only
    split <;> rfl

theorem migrateAbort_stands (m kind : Nat) (d : Dword) (a : Nat) : SliceStands n s (migrateAbort m kind d a s) :=
  (slCount_stands n s ..).trans (raiseLimited_stands ..)

theorem walkMove_stands (m : Nat) (e : List Byte) (src dst : Nat) : SliceStands n s (walkMove m e src dst s) :=
  .of_same (walkMove_same ..) rfl

theorem walkMoves_stands (m : Nat) (l : List (Nat × Nat × List Byte)) : SliceStands n s (walkMoves m l s) :=
  .of_same (walkMoves_same ..) rfl

/-- What the fill tells changes its marks and the demoter's age alone (R281, R288, R289). -/
theorem fillEvents_stands : SliceStands n s (fillEvents n s) := by
  unfold fillEvents
  dsimp only
  have h1 : ∀ x, KeepsEntries (slAt s n) x → ∀ c code d,
      SliceStands n s (if c = true then raise code d (setSl n x s) else setSl n x s) := fun x hx c code d => by
    split
    · exact (setSl_stands hx).trans (raise_stands ..)
    · exact setSl_stands hx
  split
  · exact (h1 _ ⟨rfl⟩ _ _ _).trans (raise_stands ..)
  · exact h1 _ ⟨rfl⟩ _ _ _

theorem walkEnd_stands : SliceStands n s (walkEnd n s) := by
  unfold walkEnd
  dsimp only
  split
  · exact .rfl' ..
  · split
    · exact (setSl_stands ⟨rfl⟩).trans (raise_stands ..)
    · exact setSl_stands ⟨rfl⟩

theorem backServed_stands (i : Nat) : SliceStands n s (backServed n i s) := setSl_stands ⟨rfl⟩

/-- A search that ends without an entry costs accesses alone (R294). -/
theorem lookupWork_miss_stands (d : Dword) (key : Option (List Byte)) : SliceStands n s (lookupWork n d key .miss s) := by
  unfold lookupWork
  generalize lookupCost s n d key .miss = cost
  obtain ⟨hbm, turf, wrong⟩ := cost
  dsimp only
  have h1 : SliceStands n s (if hbm = 0 then s else useBack n (bucket0 (stackBuckets s) d % 8) hbm s) := by
    split
    · exact .rfl' ..
    · exact useBack_stands ..
  have h2 : ∀ u, SliceStands n u (if turf = 0 then u else useTurf n turf u) := fun u => by
    split
    · exact .rfl' ..
    · exact useTurf_stands ..
  have h3 : ∀ u, SliceStands n u (if wrong = 0 then u else slCount n 0x54 wrong u) := fun u => by
    split
    · exact .rfl' ..
    · exact slCount_stands ..
  exact h1.trans ((h2 _).trans (h3 _))

end

/-! ### What a search and a demotion find -/

/-- A search finds the same where the entries, the settings, the units and the turf regions are the same (R268). -/
theorem locate_congr_units {s t : State} {n : Nat} (hr : t.prm.regs = s.prm.regs) (hu : t.sys.units = s.sys.units)
    (hj : t.jnl.turfs = s.jnl.turfs ∧ t.jnl.channels = s.jnl.channels) (h : SameTiers (slAt s n) (slAt t n)) (d : Dword)
    (key : Option (List Byte)) : locate t n d key = locate s n d key := by
  have hin : ∀ c i, inService t c i = inService s c i := fun c i => by
    unfold inService unitState unitRec; rw [hu]
  have hchan : chanIn t n (bucket0 (stackBuckets s) d) = chanIn s n (bucket0 (stackBuckets s) d) := hin _ _
  have hcold : coldTier t n = coldTier s n := by
    unfold coldTier hasTurfs; rw [hj.1, hj.2, hin]
  have hbad : sumBad (slAt t n) (bucket0 (stackBuckets s) d) = sumBad (slAt s n) (bucket0 (stackBuckets s) d) := by
    unfold sumBad copyUpset; rw [h.badSums, h.upsets]
  unfold locate
  dsimp only
  rw [hearthFind_congr h.hearth, stackBuckets_congr hr, hchan, stackFind_congr d key hr h.stack, hcold, hbad,
    turfCands_congr d hr h, turfEnd_congr d key hr h, h.stack]
  simp only [readFound_congr h.upsets]

theorem pointerDigest_congr {s t : State} (hr : t.prm.regs = s.prm.regs) (hp : t.flow.pools = s.flow.pools) (e : List Byte) :
    pointerDigest t e = pointerDigest s e := by
  unfold pointerDigest reverseKey
  rw [hp, funext (digestOf_congr hr)]

/-- From `s` to `t` all stands on which a search of slice `n`, a placing and a demotion rest. -/
structure GroundStands (n : Nat) (s t : State) : Prop where
  tiers : SameTiers (slAt s n) (slAt t n)
  flights : (slAt t n).flights = (slAt s n).flights
  failing : (slAt t n).failing = (slAt s n).failing
  cmds : t.flow.cmds = s.flow.cmds
  pools : t.flow.pools = s.flow.pools
  tick : t.tick = s.tick
  regs : t.prm.regs = s.prm.regs
  units : t.sys.units = s.sys.units
  turfs : t.jnl.turfs = s.jnl.turfs
  channels : t.jnl.channels = s.jnl.channels

theorem SameTiers.trans {x y z : Slice} (h : SameTiers x y) (k : SameTiers y z) : SameTiers x z :=
  ⟨k.hearth.trans h.hearth, k.stack.trans h.stack, k.turf.trans h.turf, k.sums.trans h.sums, k.badSums.trans h.badSums,
    k.clears.trans h.clears, k.upsets.trans h.upsets⟩

theorem GroundStands.trans {n : Nat} {r s t : State} (h : GroundStands n r s) (k : GroundStands n s t) : GroundStands n r t :=
  ⟨h.tiers.trans k.tiers, k.flights.trans h.flights, k.failing.trans h.failing, k.cmds.trans h.cmds, k.pools.trans h.pools,
    k.tick.trans h.tick, k.regs.trans h.regs, k.units.trans h.units, k.turfs.trans h.turfs, k.channels.trans h.channels⟩

theorem SliceStands.ground {n : Nat} {s t : State} (h : SliceStands n s t) : GroundStands n s t :=
  ⟨h.slice.tiers, h.slice.flights, h.slice.failing, h.cmds, h.pools, h.tick, h.regs, h.units, h.turfs, h.channels⟩

/-- A change of a slice that leaves its tiers, its in-flight table and its failing places. -/
theorem modSl_ground {n m : Nat} {f : Slice → Slice} {s : State} (ht : ∀ x, SameTiers x (f x))
    (hf : ∀ x, (f x).flights = x.flights) (hw : ∀ x, (f x).failing = x.failing) : GroundStands n s (modSl m f s) := by
  refine ⟨?_, ?_, ?_, rfl, rfl, rfl, rfl, rfl, rfl, rfl⟩ <;> rw [slAt_modSl] <;> split
  next h => exact h ▸ ht _
  next => exact ⟨rfl, rfl, rfl, rfl, rfl, rfl, rfl⟩
  next h => exact h ▸ hf _
  next => rfl
  next h => exact h ▸ hw _
  next => rfl

section
variable {n : Nat} {s t : State} (h : GroundStands n s t)
include h

theorem GroundStands.locate (d : Dword) (key : Option (List Byte)) : locate t n d key = Machine.locate s n d key :=
  locate_congr_units h.regs h.units ⟨h.turfs, h.channels⟩ h.tiers d key

theorem GroundStands.anyDigest (d : Dword) : anyDigest t n d = Machine.anyDigest s n d := by
  unfold Machine.anyDigest; rw [h.locate]

theorem GroundStands.flightAt (d : Dword) : flightAt t n d = Machine.flightAt s n d := by
  unfold Machine.flightAt flightOf; rw [h.flights]

theorem GroundStands.chanIn (b : Nat) : chanIn t n b = Machine.chanIn s n b := by
  unfold Machine.chanIn inService unitState unitRec; rw [h.units]

theorem GroundStands.coldTier : coldTier t n = Machine.coldTier s n := by
  unfold Machine.coldTier hasTurfs inService unitState unitRec; rw [h.units, h.turfs, h.channels]

theorem GroundStands.pointerDigest (e : List Byte) : pointerDigest t e = Machine.pointerDigest s e :=
  pointerDigest_congr h.regs h.pools e

theorem GroundStands.demoteSlot (b k : Nat) : demoteSlot (slAt t n) b k = Machine.demoteSlot (slAt s n) b k := by
  unfold Machine.demoteSlot chosen turfUsed sumAt clearing
  rw [h.tiers.sums, h.tiers.clears, h.tiers.turf, h.tiers.stack, h.flights]

theorem GroundStands.readable (hs : Readable (slAt s n)) : Readable (slAt t n) := by
  unfold Readable at *
  simp only [readCopy_congr h.tiers.upsets, h.tiers.hearth, h.tiers.stack, h.failing]
  exact hs

end

/-! ### Counters -/

/-- The event counters are none of a slice (R522, R524). -/
theorem counter_slEvent {n m w : Nat} (code k : Nat) (s : State) (hm : m < 1024) (hw : w < 0x4000) :
    counter (slEvent n code k s) (paddr 13 m w) = counter s (paddr 13 m w) := by
  unfold slEvent countEvent
  generalize List.range 8 = l
  induction l generalizing s with
  | nil => rfl
  | cons i l ih =>
    rw [List.foldl_cons, ih]
    dsimp only
    split
    · exact tgetD_tput_ne _ _ _ (paddr_slice_ne hm hw (by decide))
    · rfl

theorem counter_useBack {n m w : Nat} (k c : Nat) (s : State) (hm : m < 1024) (hw : w < 0x4000) :
    counter (useBack n k c s) (paddr 13 m w) = counter s (paddr 13 m w) := counter_slEvent _ _ _ hm hw

/-- A lag buffer that overflows counts in the cell of the twin link (R541). -/
theorem counter_enterDelta {m w : Nat} (x : Delta) (s : State) (hm : m < 1024) (hw : w < 0x4000) :
    counter (enterDelta x s) (paddr 13 m w) = counter s (paddr 13 m w) := by
  have hlag : ∀ d, (lagOverflow d s).prm = (bump32 23 0 0x12 1 s).prm := fun d => by
    unfold lagOverflow
    dsimp only
    split <;> split <;> rfl
  unfold enterDelta
  dsimp only
  split
  · rfl
  · split
    · rfl
    · rw [counter_congr (hlag _)]
      exact (counter_bump ..).trans (if_neg (paddr_slice_ne hm hw (by decide)))

theorem counter_walkMove {n m w : Nat} (e : List Byte) (src dst : Nat) (s : State) (hm : m < 1024) (hw : w < 0x4000) :
    counter (walkMove n e src dst s) (paddr 13 m w) = counter s (paddr 13 m w) := by
  unfold walkMove
  split
  · exact counter_enterDelta _ _ hm hw
  · rfl

/-- A failed step of a move counts in MIGRATE_ABORT (R293). -/
theorem counter_migrateAbort (n kind : Nat) (d : Dword) (a : Nat) (s : State) :
    counter (migrateAbort n kind d a s) (paddr 13 n 0x59) = min (counter s (paddr 13 n 0x59) + 1) (2 ^ 32 - 1) := by
  unfold migrateAbort
  rw [counter_congr ((raiseLimited_same ..).prm rfl), counter_slCount_self]

end Sys2Proof.Machine
end

section
/-! Proofs.  Placing an entry in the Stack tier: what a relocation rests on and changes, and an insertion that finds room (R280,
R281). -/

namespace Sys2Proof.Machine

/-! ### What a placing rests on -/

/-- A slice with the ways and the Stack slots of another. -/
def withEntries (y z : Slice) : Slice := { y with stack := z.stack, hearth := z.hearth }

theorem moveSlot_withEntries (k j : Nat) (y z : Slice) : moveSlot k j (withEntries y z) = withEntries y (moveSlot k j z) := by
  unfold moveSlot withEntries
  cases tfind z.stack k <;> simp

/-- One move of a chain (R188, R280). -/
def commitMove (x : Option Slice) (m : Nat × Nat) : Option Slice :=
  x.bind fun x => (tfind x.stack m.1).bind fun e => (freeSlot x.stack m.2 (entrySlots e)).map fun j => moveSlot m.1 j x

theorem commitChain_eq (x : Slice) (path : List (Nat × Nat)) :
    commitChain x path = path.reverse.foldl commitMove (some x) := by
  unfold commitChain
  congr 1
  funext x m
  unfold commitMove
  cases x with
  | none => rfl
  | some x => cases h : tfind x.stack m.1 <;> simp [h]

theorem commitChain_withEntries (y z : Slice) (path : List (Nat × Nat)) :
    commitChain (withEntries y z) path = (commitChain z path).map (withEntries y) := by
  have hstep : ∀ (x : Option Slice) (m : Nat × Nat),
      commitMove (x.map (withEntries y)) m = (commitMove x m).map (withEntries y) := by
    intro x m
    cases x with
    | none => rfl
    | some x =>
      have hs : (withEntries y x).stack = x.stack := rfl
      unfold commitMove
      simp only [Option.map_some, Option.bind_some, hs]
      cases tfind x.stack m.1 with
      | none => rfl
      | some e => simp [Function.comp_def, moveSlot_withEntries]
  have hfold : ∀ (l : List (Nat × Nat)) (x : Option Slice),
      l.foldl commitMove (x.map (withEntries y)) = (l.foldl commitMove x).map (withEntries y) := by
    intro l
    induction l with
    | nil => exact fun _ => rfl
    | cons m l ih => exact fun x => by rw [List.foldl_cons, List.foldl_cons, hstep, ih]
  rw [commitChain_eq, commitChain_eq]
  exact hfold _ (some z)

/-- The occupant of slot `k` of bucket `b` moves to its other bucket, so that `n` slots come free (R280). -/
def oneMove (s : State) (x : Slice) (n b k : Nat) : Option (Slice × Nat × Nat) :=
  if movable s x [] b n k then
    (tfind x.stack k).bind fun e => (freeSlot x.stack (otherOf s e b) (entrySlots e)).bind fun j =>
      (freeSlot (moveSlot k j x).stack b n).map fun f => (moveSlot k j x, f, 1)
  else none

/-- A chain of moves frees `n` slots of bucket `b` (R188, R280). -/
def chainMove (s : State) (x : Slice) (n b : Nat) : Option (Slice × Nat × Nat) :=
  (stackChain s x 8 0 b n []).bind fun path => (commitChain x path).bind fun y =>
    (freeSlot y.stack b n).map fun f => (y, f, path.length)

/-- A place is a free slot of either bucket, or one that a move or a chain of moves frees (R280). -/
theorem placeFor_eq (s : State) (x : Slice) (d : Dword) (n : Nat) : placeFor s x d n =
    (((freeSlot x.stack (bucket0 (stackBuckets s) d) n).or (freeSlot x.stack (bucket1 (stackBuckets s) d) n)).map
      (fun k => (x, k, 0))).or
      (([bucket0 (stackBuckets s) d, bucket1 (stackBuckets s) d].findSome?
        fun b => ((List.range 4).map (4 * b + ·)).findSome? (oneMove s x n b)).or
        (chainMove s x n (bucket0 (stackBuckets s) d))) := by
  have hone : ∀ b, (fun k => if !movable s x [] b n k then none
      else match tfind x.stack k with
        | none => none
        | some e => (freeSlot x.stack (otherOf s e b) (entrySlots e)).bind (fun j =>
            let y := moveSlot k j x
            (freeSlot y.stack b n).map (fun f => (y, f, 1)))) = oneMove s x n b := fun b => by
    funext k
    unfold oneMove
    cases movable s x [] b n k
    · rfl
    · cases tfind x.stack k <;> rfl
  unfold placeFor
  dsimp only
  simp only [← hone]
  cases freeSlot x.stack (bucket0 (stackBuckets s) d) n with
  | some k => rfl
  | none =>
    cases freeSlot x.stack (bucket1 (stackBuckets s) d) n with
    | some k => rfl
    | none =>
      generalize List.findSome? _ _ = one
      cases one <;> rfl

section
variable {s t : State} {x y : Slice} (hr : t.prm.regs = s.prm.regs)
include hr

theorem otherOf_congr (e : List Byte) (b : Nat) : otherOf t e b = otherOf s e b := by
  unfold otherOf
  rw [stackBuckets_congr hr, digestOf_congr hr]

variable (hs : y.stack = x.stack) (hf : y.flights = x.flights)
include hs hf

theorem movable_congr (met : List Nat) (b n : Nat) : movable t y met b n = movable s x met b n := by
  funext k
  unfold movable busy
  simp only [hs, hf, digestOf_congr hr]

theorem stackChain_congr (fuel k b n : Nat) (path : List (Nat × Nat)) :
    stackChain t y fuel k b n path = stackChain s x fuel k b n path := by
  induction fuel generalizing k b n path with
  | zero => rfl
  | succ fuel ih =>
    unfold stackChain
    simp only [movable_congr hr hs hf, hs, otherOf_congr hr, ih]

/-- A placing finds the same slot with the same moves where the settings, the Stack, the Hearth and the in-flight table are the same,
and changes the Stack and the Hearth alone (R280). -/
theorem placeFor_congr (hh : y.hearth = x.hearth) (d : Dword) (n : Nat) :
    placeFor t y d n = (placeFor s x d n).map (fun r => (withEntries y r.1, r.2)) := by
  have hy : y = withEntries y x := by unfold withEntries; rw [← hs, ← hh]
  have hmove : ∀ k j, moveSlot k j y = withEntries y (moveSlot k j x) := fun k j => by
    rw [← moveSlot_withEntries, ← hy]
  have hchain : ∀ path, commitChain y path = (commitChain x path).map (withEntries y) := fun path => by
    rw [← commitChain_withEntries, ← hy]
  have hone : ∀ b, oneMove t y n b = fun k => (oneMove s x n b k).map (fun r => (withEntries y r.1, r.2)) := fun b => by
    funext k
    unfold oneMove
    simp only [movable_congr hr hs hf, hs, otherOf_congr hr, hmove]
    split
    · simp [Option.map_bind, Function.comp_def, withEntries]
    · rfl
  have hcm : ∀ b, chainMove t y n b = (chainMove s x n b).map (fun r => (withEntries y r.1, r.2)) := fun b => by
    unfold chainMove
    simp [stackChain_congr hr hs hf, hchain, Option.map_bind, Option.bind_map, Function.comp_def, withEntries]
  rw [placeFor_eq, placeFor_eq, stackBuckets_congr hr, hs, hcm]
  simp only [hone, Option.map_or, Option.map_map, List.map_findSome?, Function.comp_def, ← hy]

end

/-- Room for an insertion is the same where all stands that a placing rests on. -/
theorem GroundStands.stackRoom {n : Nat} {s t : State} (h : GroundStands n s t) (d : Dword) (k : Nat) :
    stackRoom t n d k = Machine.stackRoom s n d k := by
  unfold Machine.stackRoom fillLimit
  rw [placeFor_congr h.regs h.tiers.stack h.flights h.tiers.hearth, h.tiers.stack, stackBuckets_congr h.regs,
    Option.isSome_map]

/-! ### An insertion that finds room -/

/-- What an insertion leaves: the entry in its Stack slot, and every queue as it was. -/
structure EntryPlaced (n k : Nat) (e : List Byte) (s t : State) : Prop where
  stack : tfind (slAt t n).stack k = some e
  installs : (slAt t n).installs = (slAt s n).installs
  acks : ∀ m, (slAt t m).acks = (slAt s m).acks
  cmds : t.flow.cmds = s.flow.cmds

/-- A relocated entry was in the slot that it leaves (R280). -/
theorem mem_of_mem_relocated {old new : Table (List Byte)} {m : Nat × Nat × List Byte} (h : m ∈ relocated old new) :
    (m.1, m.2.2) ∈ old := by
  unfold relocated at h
  obtain ⟨e, -, he⟩ := List.mem_filterMap.mp h
  split at he
  · cases he
  · obtain ⟨o, ho, rfl⟩ := Option.map_eq_some_iff.mp he
    have hoe : o.2 = e.2 := by simpa using List.find?_some ho
    rw [← hoe]
    exact List.mem_of_find?_eq_some ho

/-- An insertion with room, whose occupants can be read and moved, places its entry (R280, R281, R293). -/
theorem stackInsert_places {n : Nat} {d : Dword} {e : List Byte} {s : State}
    (hroom : stackRoom s n d (entrySlots e) = true) (hread : Readable (slAt s n)) :
    ∃ t k, stackInsert n d e s = (t, some k) ∧ EntryPlaced n k e s t := by
  unfold stackRoom at hroom
  obtain ⟨hfill, hplace⟩ := Bool.and_eq_true_iff.mp hroom
  obtain ⟨⟨y, k, moves⟩, hp⟩ := Option.isSome_iff_exists.mp hplace
  obtain ⟨hfail, -, hstack⟩ := hread
  have hy : y = withEntries (slAt s n) y := by
    have h := placeFor_congr (s := s) (t := s) (x := slAt s n) rfl rfl rfl rfl d (entrySlots e)
    rw [hp] at h
    exact congrArg Prod.fst (Option.some.inj h)
  have hreads : (relocated (slAt s n).stack y.stack).find? (fun m =>
      (readCopy (slAt s n) 1 m.1 {} m.2.2).isNone && (wayOf (slAt s n) (digestOf s (keyOf m.2.2))).isNone) = none :=
    List.find?_eq_none.mpr fun m hm => by simp [hstack _ (mem_of_mem_relocated hm)]
  have hwrites : (relocated (slAt s n).stack y.stack).find? (fun m => writeFails (slAt s n) 1 m.2.1) = none :=
    List.find?_eq_none.mpr fun m _ => by simp [writeFails, hfail]
  have hz : ∀ z u, slAt (setSl n z u) n = z := fun z u => slAt_setSl_self ..
  have ht : ∀ u, SliceStands n u (fillEvents n (walkMoves n (relocated (slAt s n).stack y.stack) u)) := fun u =>
    (walkMoves_stands ..).trans (fillEvents_stands ..)
  have hi : stackInsert n d e s = (fillEvents n (walkMoves n (relocated (slAt s n).stack y.stack)
      (setSl n { y with stack := tput y.stack k e } (useBack n (k / 4 % 8) (entrySlots e + moves) s))), some k) := by
    unfold stackInsert insertFrom
    dsimp only
    rw [if_neg (by simpa using hfill), hp]
    dsimp only
    rw [hreads, hwrites]
  refine ⟨_, k, hi, ?_, ?_, fun m => ?_, (ht _).cmds.trans ((setSl_cmds ..).trans (useBack_cmds ..))⟩
  · rw [(ht _).slice.tiers.stack, hz]
    exact (tfind_tput ..).trans (if_pos rfl)
  · rw [(ht _).slice.installs, hz]
    exact (congrArg Slice.installs hy :)
  · by_cases hm : m = n
    · subst hm
      rw [(ht _).slice.acks, hz]
      exact (congrArg Slice.acks hy :)
    · rw [(ht _).others m hm, slAt_setSl, if_neg hm, (useBack_stands n s ..).others m hm]

end Sys2Proof.Machine
end

section
/-! Proofs.  Reverse pointers: their installation, the acknowledgement that binds the primary, and their demotion (R216, R273,
R288, R290). -/

namespace Sys2Proof.Machine

/-! ### In-flight entries -/

theorem busy_of_flightAt_none {s : State} {n : Nat} {d : Dword} (h : flightAt s n d = none) : busy (slAt s n) d = false :=
  List.any_eq_false.mpr fun f hf => List.find?_eq_none.mp h f hf

theorem flightAt_none_of_busy {s : State} {n : Nat} {d : Dword} (h : busy (slAt s n) d = false) : flightAt s n d = none :=
  List.find?_eq_none.mpr fun f hf => List.any_eq_false.mp h f hf

/-- A digest that held nothing holds what is put for it. -/
theorem flightAt_putFlight_new {s : State} {n : Nat} {d : Dword} {f : Flight} (h : flightAt s n d = none)
    (hd : f.digest = d) : flightAt (putFlight n f s) n d = some f := by
  subst hd
  have hn : (slAt s n).flights.find? (fun g => g.digest == f.digest) = none := h
  unfold flightAt putFlight flightOf
  rw [slAt_modSl_self]
  simp [busy_of_flightAt_none h, hn]

/-- Putting an in-flight entry changes the in-flight table of its slice alone. -/
theorem slAt_putFlight (n : Nat) (f : Flight) (s : State) :
    slAt (putFlight n f s) n = { slAt s n with flights := (slAt (putFlight n f s) n).flights } := by
  unfold putFlight
  rw [slAt_modSl_self]

theorem putFlight_tiers (n : Nat) (f : Flight) (s : State) : SameTiers (slAt s n) (slAt (putFlight n f s) n) := by
  rw [slAt_putFlight]
  exact ⟨rfl, rfl, rfl, rfl, rfl, rfl, rfl⟩

/-- A demotion that finds a free turf slot holds the entry (R288, R291). -/
theorem startDemotion_starts {n k t0 : Nat} {d : Dword} {e : List Byte} {s : State}
    (h : demoteSlot (slAt s n) (bucket0 (stackBuckets s) d) (entrySlots e) = some t0) :
    startDemotion n k d e s = (putFlight n { digest := d, ops := [], phase := .demoting k t0 } s, true) := by
  unfold startDemotion
  rw [h]

/-! ### Work in a cycle of the migration reservation -/

theorem modSl_cmds (n : Nat) (f : Slice → Slice) (s : State) : (modSl n f s).flow.cmds = s.flow.cmds := rfl

/-- The installations that wait once the first has been taken. -/
def installTaken (rest : List FlowOp) (x : Slice) : Slice := { x with installs := rest }

/-- The acknowledgements that wait once the first has been taken. -/
def ackTaken (rest : List FlowOp) (x : Slice) : Slice := { x with acks := rest }

theorem installTaken_ground (n : Nat) (rest : List FlowOp) (s : State) : GroundStands n s (modSl n (installTaken rest) s) :=
  modSl_ground (fun _ => ⟨rfl, rfl, rfl, rfl, rfl, rfl, rfl⟩) (fun _ => rfl) (fun _ => rfl)

theorem ackTaken_ground (n : Nat) (rest : List FlowOp) (s : State) : GroundStands n s (modSl n (ackTaken rest) s) :=
  modSl_ground (fun _ => ⟨rfl, rfl, rfl, rfl, rfl, rfl, rfl⟩) (fun _ => rfl) (fun _ => rfl)

/-- A background operation has been taken from its queue, in a cycle of the migration reservation, and begins (R39, R241). -/
def migrationBegun (n : Nat) (f : Slice → Slice) (s : State) : State := slEvent n 0x3201 1 (useCycle n 3 (modSl n f s))

theorem migrationBegun_stands (n : Nat) (f : Slice → Slice) (s : State) : SliceStands n (modSl n f s) (migrationBegun n f s) :=
  (useCycle_stands ..).trans (slEvent_stands ..)

/-- Background work whose digest nothing holds, and that waits for no promotion, runs at once (R240, R245). -/
theorem acceptBg_runs_unparked {s : State} {n : Nat} {op : FlowOp} (hf : flightAt s n op.digest = none)
    (hp : parks s op = false) : acceptBg n op s = runBg n op false s := by
  have hc : coldHit s n op = none := by
    unfold coldHit
    rw [hp]
    rfl
  unfold acceptBg
  rw [hf]
  dsimp only
  rw [hc]
  rfl

/-! ### Installation -/

section
variable {n : Nat} {s : State} {op : FlowOp} {rest : List FlowOp}

/-- A pointer whose key and digest are absent, with room, is placed in the Stack (R207, R209, R216). -/
theorem runInstall_installs {d : Dword} {key ptr : List Byte} (hl : locate s n d (some key) = .miss)
    (ha : anyDigest s n d = none) (hroom : stackRoom s n d (entrySlots ptr) = true) (hread : Readable (slAt s n)) :
    ∃ t k, runInstall n d key ptr s = (t, 0) ∧ EntryPlaced n k ptr s t := by
  have hw := lookupWork_miss_stands n s d (some key)
  have hseek : seek n d (some key) false s = (lookupWork n d (some key) .miss s, .miss) := by
    unfold seek
    rw [hl]
    rfl
  generalize lookupWork n d (some key) .miss s = u at hw hseek
  obtain ⟨t, k, hi, hp⟩ := stackInsert_places ((hw.ground.stackRoom ..).trans hroom) (hw.ground.readable hread)
  refine ⟨t, k, ?_, hp.stack, hp.installs.trans hw.slice.installs, fun m => (hp.acks m).trans ?_, hp.cmds.trans hw.cmds⟩
  · unfold runInstall
    rw [hseek]
    dsimp only
    rw [(hw.ground.anyDigest _).trans ha]
    dsimp only
    rw [hi]
  · by_cases hm : m = n
    · rw [hm]; exact hw.slice.acks
    · rw [hw.others m hm]

/-- The next installation is taken from the queue, uses a cycle and is accepted (R39, R216). -/
theorem execPointerInstall_takes {n : Fin 16} (hr : ownRoom s n 3 ≠ 0) (hq : (slAt s n).installs = op :: rest) :
    execPointerInstall n s = .next (completeCmds (acceptBg n op (useCycle n 3 (modSl n (installTaken rest) s)))) := by
  unfold execPointerInstall
  rw [hq]
  exact congrArg Host.Outcome.next (if_neg hr)

/-- The next installation of a pointer that is absent and has room places the pointer and acknowledges to the primary's slice. -/
theorem execPointerInstall_installs {n : Fin 16} {m : Nat} {pr : Dword} {ptr key : List Byte} (hi : s.flow.cmds = []) (hr : ownRoom s n 3 ≠ 0)
    (hq : (slAt s n).installs = op :: rest) (hk : op.kind = .install m pr ptr) (hkey : op.key = some key)
    (hf : flightAt s n op.digest = none) (hl : locate s n op.digest (some key) = .miss)
    (ha : anyDigest s n op.digest = none) (hroom : stackRoom s n op.digest (entrySlots ptr) = true)
    (hread : Readable (slAt s n)) :
    ∃ t k, exec (.pointerInstall n) s = .next t ∧ (slAt t n).installs = rest ∧ tfind (slAt t n).stack k = some ptr ∧
      (slAt t m).acks = (slAt s m).acks ++ [⟨.bindAck 0 op.digest, none, pr⟩] := by
  have hg := installTaken_ground n rest s
  have hb := migrationBegun_stands n (installTaken rest) s
  have hs := hg.trans hb.ground
  obtain ⟨t, k, ht, hp⟩ := runInstall_installs ((hs.locate ..).trans hl) ((hs.anyDigest _).trans ha)
    ((hs.stackRoom ..).trans hroom) (hs.readable hread)
  have hc := hg.trans (useCycle_stands n _ 3).ground
  have e : execPointerInstall n s = .next
      (modSl m (fun x => { x with acks := x.acks ++ [⟨.bindAck 0 op.digest, none, pr⟩] }) t) := by
    rw [execPointerInstall_takes hr hq, acceptBg_runs_unparked ((hc.flightAt _).trans hf) (by unfold parks; rw [hk])]
    unfold runBg
    rw [hk, hkey]
    unfold migrationBegun at ht
    simp only [Bool.false_eq_true, if_false, Option.getD_some, ht]
    exact congrArg Host.Outcome.next (completeCmds_idle ((modSl_cmds ..).trans (hp.cmds.trans (hs.cmds.trans hi))))
  have hacks : (slAt t m).acks = (slAt s m).acks := by
    refine (hp.acks m).trans ?_
    by_cases hm : m = n
    · rw [hm, hb.slice.acks, slAt_modSl_self]; rfl
    · rw [hb.others m hm, slAt_modSl, if_neg hm]
  refine ⟨_, k, e, ?_, ?_, ?_⟩
  · have : (slAt t n).installs = rest := by rw [hp.installs, hb.slice.installs, slAt_modSl_self]; rfl
    rw [slAt_modSl]
    split
    next hm => rw [← hm]; exact this
    next => exact this
  · rw [slAt_modSl]
    split
    next hm => rw [← hm]; exact hp.stack
    next => exact hp.stack
  · rw [slAt_modSl_self, hacks]

end

/-! ### Acknowledgement -/

theorem touchWay_pools (n k : Nat) (s : State) : (touchWay n k s).flow.pools = s.flow.pools := by
  unfold touchWay
  dsimp only
  split <;> rfl

theorem setSl_pools (n : Nat) (x : Slice) (s : State) : (setSl n x s).flow.pools = s.flow.pools := rfl

/-- The state in which the record of Stack slot `k` has come into an empty Hearth, for the accesses of its probe (R273, R294). -/
def stackInstalled (n : Nat) (d : Dword) (k : Nat) (e : List Byte) (s : State) : State :=
  let u := useBack n (bucket0 (stackBuckets s) d % 8) (entrySlots e) s
  setSl n { slAt u n with hearth := [(16 * hearthSet d, firstWay (slAt s n) d e k)], clock := (slAt s n).clock + 1 } u

theorem stackInstalled_spec (n : Nat) (d : Dword) (k : Nat) (e : List Byte) (s : State) :
    (slAt (stackInstalled n d k e s) n).hearth = [(16 * hearthSet d, firstWay (slAt s n) d e k)] ∧
      (slAt (stackInstalled n d k e s) n).acks = (slAt s n).acks ∧
      (stackInstalled n d k e s).flow.cmds = s.flow.cmds ∧ (stackInstalled n d k e s).flow.pools = s.flow.pools ∧
      (stackInstalled n d k e s).prm.regs = s.prm.regs := by
  have hback := useBack_stands n s (bucket0 (stackBuckets s) d % 8) (entrySlots e)
  unfold stackInstalled
  dsimp only
  generalize useBack n (bucket0 (stackBuckets s) d % 8) (entrySlots e) s = u at hback
  rw [slAt_setSl_self]
  exact ⟨rfl, hback.slice.acks, (setSl_cmds ..).trans hback.cmds, (setSl_pools ..).trans hback.pools,
    ((setSl_same ..).regs rfl).trans hback.regs⟩

theorem seekIn_stackInstalled {n k : Nat} {s : State} {d : Dword} {e : List Byte} (h : locate s n d none = .hit ⟨1, k⟩ e)
    (hh : (slAt s n).hearth = []) :
    seekIn n d none false s = (stackInstalled n d k e s, .hit ⟨0, 16 * hearthSet d⟩ e, 1) := by
  have hu : slAt (useBack n (bucket0 (stackBuckets s) d % 8) (entrySlots e) s) n = _ := slAt_useBack ..
  have hin := hearthInstall_empty d e k false false ((congrArg Slice.hearth hu).trans hh)
  have hclock := congrArg Slice.clock hu
  have hseek : seek n d none false s = (useBack n (bucket0 (stackBuckets s) d % 8) (entrySlots e) s, .hit ⟨1, k⟩ e) := by
    unfold seek
    rw [h, ← lookupWork_stack n k d none e s]
    rfl
  dsimp only at hclock
  rw [hclock] at hin
  exact seekIn_installed hseek hin (wayOf_sole (congrArg Slice.hearth (slAt_setSl_self ..)) rfl)

/-- The next acknowledgement is taken from the queue, uses a cycle and is accepted (R39, R216). -/
theorem execBindAck_takes {n : Fin 16} {s : State} {op : FlowOp} {rest : List FlowOp} (hr : ownRoom s n 3 ≠ 0) (hq : (slAt s n).acks = op :: rest) :
    execBindAck n s = .next (completeCmds (acceptBg n op (useCycle n 3 (modSl n (ackTaken rest) s)))) := by
  unfold execBindAck
  rw [hq]
  exact congrArg Host.Outcome.next (if_neg hr)

/-- A primary whose pointer has been installed is bound where it is found (R216). -/
theorem runBindAck_binds {n : Nat} {s s1 : State} {d pd : Dword} {p : Place} {e : List Byte} {i : Nat} {again : Bool}
    (h : seekIn n d none again s = (s1, .hit p e, i)) (hp : isPtr e = false) (hd : pointerDigest s1 e = some pd) :
    runBindAck n d 0 pd again s = commitRecord n d p false (some e) (putCtlField 3 3 1 e) s1 := by
  unfold runBindAck
  rw [if_neg (by simp), h]
  simp [hp, hd]

section
variable {n : Fin 16} {s : State} {op : FlowOp} {rest : List FlowOp} {pd : Dword} {code k : Nat} {e : List Byte}
variable (hi : s.flow.cmds = []) (hr : ownRoom s n 3 ≠ 0) (hq : (slAt s n).acks = op :: rest) (hk : op.kind = .bindAck code pd)
  (hf : flightAt s n op.digest = none)
include hi hr hq hk hf

/-- The acknowledgement of a refused installation is counted and told, and the Stack stands (R216). -/
theorem execBindAck_refused (hc : code ≠ 0) : ∃ t, exec (.bindAck n) s = .next t ∧ (slAt t n).acks = rest ∧
    (slAt t n).stack = (slAt s n).stack ∧
    counter t (paddr 13 n 0x41) = min (counter s (paddr 13 n 0x41) + 1) (2 ^ 32 - 1) := by
  have hn : n.val < 1024 := by omega
  have hu := migrationBegun_stands n (ackTaken rest) s
  have hflight := ((ackTaken_ground n rest s).trans (useCycle_stands n _ 3).ground).flightAt op.digest
  have ht : SliceStands n (migrationBegun n (ackTaken rest) s)
      (runBindAck n op.digest code pd false (migrationBegun n (ackTaken rest) s)) := by
    unfold runBindAck
    rw [if_pos hc]
    exact (slCount_stands ..).trans (raiseLimited_stands ..)
  have e : execBindAck n s = .next (runBindAck n op.digest code pd false (migrationBegun n (ackTaken rest) s)) := by
    rw [execBindAck_takes hr hq, acceptBg_runs_unparked (hflight.trans hf) (by unfold parks; rw [hk]; simpa using hc)]
    unfold runBg
    rw [hk]
    exact congrArg Host.Outcome.next (completeCmds_idle (ht.cmds.trans (hu.cmds.trans ((modSl_cmds ..).trans hi))))
  refine ⟨_, e, ?_, ?_, ?_⟩
  · rw [ht.slice.acks, hu.slice.acks, slAt_modSl_self]
    rfl
  · rw [ht.slice.tiers.stack, hu.slice.tiers.stack, slAt_modSl_self]
    rfl
  · unfold runBindAck
    rw [if_pos hc, counter_congr ((raiseLimited_same ..).prm rfl), counter_slCount_self]
    exact congrArg (fun c => min (c + 1) (2 ^ 32 - 1)) (counter_slEvent _ _ _ hn (by decide))

/-- The acknowledgement of an installed pointer whose primary a search brings into way `j` of the Hearth sets its bound bit
there (R216). -/
theorem execBindAck_binds {s1 : State} {w : Way} {t0 i j : Nat} (hc : code = 0)
    (hl : locate s n op.digest op.key = .hit ⟨t0, k⟩ e) (ht : t0 ≠ 2) (hp : isPtr e = false)
    (hd : pointerDigest s e = some pd)
    (h : seekIn n op.digest none false (migrationBegun n (ackTaken rest) s) = (s1, .hit ⟨0, j⟩ e, i))
    (hg : s1.flow.cmds = s.flow.cmds ∧ s1.flow.pools = s.flow.pools ∧ s1.prm.regs = s.prm.regs)
    (ha : (slAt s1 n).acks = rest) (hw : tfind (slAt s1 n).hearth j = some w) :
    ∃ t, exec (.bindAck n) s = .next t ∧ (slAt t n).acks = rest ∧ (slAt t n).hearth =
      tput (slAt s1 n).hearth j (committedWay (slAt s1 n) w (putCtlField 3 3 1 e)) := by
  subst hc
  obtain ⟨hcmds, hpools, hregs⟩ := hg
  have hu := (ackTaken_ground n rest s).trans (useCycle_stands n _ 3).ground
  have hflow := commitRecord_hearth op.digest false e (putCtlField 3 3 1 e) hw
  have e : execBindAck n s = .next (commitRecord n op.digest ⟨0, j⟩ false (some e) (putCtlField 3 3 1 e) s1) := by
    rw [execBindAck_takes hr hq, acceptBg_runs ((hu.flightAt _).trans hf) ((hu.locate ..).trans hl) ht]
    unfold runBg
    rw [hk]
    show Host.Outcome.next (completeCmds (runBindAck n op.digest 0 pd false (migrationBegun n (ackTaken rest) s))) = _
    rw [runBindAck_binds h hp ((pointerDigest_congr hregs hpools e).trans hd)]
    exact congrArg Host.Outcome.next (completeCmds_idle ((congrArg Flow.cmds hflow).trans (hcmds.trans hi)))
  refine ⟨_, e, ?_, ?_⟩
  · rw [slAt_congr hflow, slAt_setSl_self]
    exact ha
  · rw [slAt_congr hflow, slAt_setSl_self]

/-- The acknowledgement of an installed pointer binds its primary in the Hearth. -/
theorem execBindAck_hearth (hc : code = 0) (hkey : op.key = none) (hp : isPtr e = false) (hd : pointerDigest s e = some pd)
    (hl : locate s n op.digest none = .hit ⟨0, k⟩ e) : ∃ t v, exec (.bindAck n) s = .next t ∧ (slAt t n).acks = rest ∧
      tfind (slAt t n).hearth k = some v ∧ v.entry = withTag (putCtlField 3 3 1 e) := by
  have hb := migrationBegun_stands n (ackTaken rest) s
  have hu := (ackTaken_ground n rest s).trans hb.ground
  have hacks : (slAt (migrationBegun n (ackTaken rest) s) n).acks = rest := by
    rw [hb.slice.acks, slAt_modSl_self]
    rfl
  generalize hu0 : migrationBegun n (ackTaken rest) s = u at hu hacks
  obtain ⟨v, hv⟩ : ∃ v, tfind (slAt u n).hearth k = some v := by
    obtain ⟨-, v, h⟩ | ⟨h, -⟩ := hearthFind_of_locate hl
    · exact ⟨v, by rw [hu.tiers.hearth]; exact tfind_of_hearthFind h⟩
    · exact absurd rfl h
  have htouch := slAt_touchWay hv
  have hsame := touchWay_same n k u
  obtain ⟨t, ht, ha, hh⟩ := execBindAck_binds hi hr hq hk hf (w := { v with used := (slAt u n).clock + 1 }) hc
    (hkey ▸ hl) (by decide) hp hd (by rw [hu0]; exact seekIn_hearth ((hu.locate ..).trans hl))
    ⟨(touchWay_cmds ..).trans hu.cmds, (touchWay_pools ..).trans hu.pools, (hsame.regs rfl).trans hu.regs⟩
    (by rw [htouch]; exact hacks) (by rw [htouch, tfind_tput, if_pos rfl])
  exact ⟨t, _, ht, ha, by rw [hh, tfind_tput, if_pos rfl], rfl⟩

/-- The acknowledgement of an installed pointer binds a primary of the Stack in the empty Hearth into which it comes. -/
theorem execBindAck_stack (hc : code = 0) (hkey : op.key = none) (hp : isPtr e = false) (hd : pointerDigest s e = some pd)
    (hl : locate s n op.digest none = .hit ⟨1, k⟩ e) (hh : (slAt s n).hearth = []) :
    ∃ t i v, exec (.bindAck n) s = .next t ∧ (slAt t n).acks = rest ∧ hearthFind (slAt t n) op.digest none = some (i, v) ∧
      v.entry = withTag (putCtlField 3 3 1 e) := by
  have hb := migrationBegun_stands n (ackTaken rest) s
  have hu := (ackTaken_ground n rest s).trans hb.ground
  have hacks : (slAt (migrationBegun n (ackTaken rest) s) n).acks = rest := by
    rw [hb.slice.acks, slAt_modSl_self]
    rfl
  generalize hu0 : migrationBegun n (ackTaken rest) s = u at hu hacks
  have hseek := seekIn_stackInstalled ((hu.locate ..).trans hl) (by rw [hu.tiers.hearth]; exact hh)
  obtain ⟨hhearth, hqueue, hcmds, hpools, hregs⟩ := stackInstalled_spec n op.digest k e u
  generalize stackInstalled n op.digest k e u = s1 at hseek hhearth hqueue hcmds hpools hregs
  obtain ⟨t, ht, ha, hhe⟩ := execBindAck_binds hi hr hq hk hf hc (hkey ▸ hl) (by decide) hp hd (by rw [hu0]; exact hseek)
    ⟨hcmds.trans hu.cmds, hpools.trans hu.pools, hregs.trans hu.regs⟩ (hqueue.trans hacks)
    (w := firstWay (slAt u n) op.digest e k) (by rw [hhearth]; simp [tfind])
  refine ⟨t, 16 * hearthSet op.digest, committedWay (slAt s1 n) (firstWay (slAt u n) op.digest e k) (putCtlField 3 3 1 e),
    ht, ha, hearthFind_sole ?_ rfl, rfl⟩
  rw [hhe, hhearth]
  exact if_pos rfl

end

end Sys2Proof.Machine
end

section
/-! Proofs.  Demotion: of pointers, by the demoter's tick, and its completion (R288 to R291, R293, R294). -/

namespace Sys2Proof.Machine

/-! ### Pointers -/

/-- The pointer-demotion items that wait once the first has been taken. -/
def ptrDemoteTaken (rest : List Dword) (x : Slice) : Slice := { x with ptrDemotes := rest }

/-- The next pointer-demotion item has been taken, in a cycle of the migration reservation (R39). -/
def ptrDemoteBegun (n : Nat) (rest : List Dword) (s : State) : State := useCycle n 3 (modSl n (ptrDemoteTaken rest) s)

theorem ptrDemoteBegun_ground (n : Nat) (rest : List Dword) (s : State) : GroundStands n s (ptrDemoteBegun n rest s) :=
  (modSl_ground (f := ptrDemoteTaken rest) (fun _ => ⟨rfl, rfl, rfl, rfl, rfl, rfl, rfl⟩) (fun _ => rfl)
    (fun _ => rfl)).trans (useCycle_stands ..).ground

theorem ptrDemoteBegun_queue (n : Nat) (rest : List Dword) (s : State) : (slAt (ptrDemoteBegun n rest s) n).ptrDemotes = rest := by
  rw [ptrDemoteBegun, (useCycle_stands ..).slice.ptrDemotes, slAt_modSl_self]
  rfl

/-- What a search for a pointer to be demoted comes to: one of the Stack begins its demotion (R290). -/
def pointerSought (n : Nat) (pd : Dword) : State × Found → State
  | (s, .hit p e) => if p.tier = 1 ∧ isPtr e then (startDemotion n p.idx pd e s).1 else s
  | (s, _) => s

section
variable {n : Nat} {s : State} {pd : Dword} {rest : List Dword} (hr : ownRoom s n 3 ≠ 0)
  (hq : (slAt s n).ptrDemotes = pd :: rest)
include hr hq

/-- The next pointer-demotion item looks for its pointer, unless the Hearth or an operation holds it (R39, R290). -/
theorem pointerDemote_takes : pointerDemote n s =
    if busy (slAt (ptrDemoteBegun n rest s) n) pd || (wayOf (slAt (ptrDemoteBegun n rest s) n) pd).isSome ||
        !coldTier (ptrDemoteBegun n rest s) n then ptrDemoteBegun n rest s
    else pointerSought n pd (seek n pd none false (ptrDemoteBegun n rest s)) := by
  unfold pointerDemote
  rw [hq]
  dsimp only
  rw [if_neg hr]
  rfl

/-- A pointer that the Hearth holds stays where it is (R290). -/
theorem pointerDemote_stays (h : (wayOf (slAt s n) pd).isSome = true) : pointerDemote n s = ptrDemoteBegun n rest s := by
  have hw := wayOf_congr (ptrDemoteBegun_ground n rest s).tiers.hearth pd
  rw [pointerDemote_takes hr hq, hw, h]
  simp

/-- The demotion of a pointer of the Stack that nothing holds begins where its turf has room (R288, R290). -/
theorem pointerDemote_starts {k t0 : Nat} {e : List Byte} (hf : flightAt s n pd = none) (hw : wayOf (slAt s n) pd = none)
    (hc : coldTier s n = true) (hl : locate s n pd none = .hit ⟨1, k⟩ e) (hp : isPtr e = true)
    (ht : demoteSlot (slAt s n) (bucket0 (stackBuckets s) pd) (entrySlots e) = some t0) :
    (slAt (pointerDemote n s) n).ptrDemotes = rest ∧
      flightAt (pointerDemote n s) n pd = some ⟨pd, [], .demoting k t0⟩ := by
  have hu := ptrDemoteBegun_ground n rest s
  have hqueue := ptrDemoteBegun_queue n rest s
  have hrun := pointerDemote_takes hr hq
  generalize ptrDemoteBegun n rest s = u at hu hqueue hrun
  have hb := useBack_stands n u (bucket0 (stackBuckets u) pd % 8) (entrySlots e)
  have hflight := (hu.flightAt pd).trans hf
  have hseek : seek n pd none false u =
      (useBack n (bucket0 (stackBuckets u) pd % 8) (entrySlots e) u, .hit ⟨1, k⟩ e) := by
    unfold seek
    rw [(hu.locate pd none).trans hl, ← lookupWork_stack n k pd none e u]
    rfl
  rw [hseek, if_neg (by simp [busy_of_flightAt_none hflight, wayOf_congr hu.tiers.hearth, hw, hu.coldTier, hc])] at hrun
  generalize useBack n (bucket0 (stackBuckets u) pd % 8) (entrySlots e) u = v at hb hrun
  have hstart : (startDemotion n k pd e v).1 = putFlight n ⟨pd, [], .demoting k t0⟩ v := by
    rw [startDemotion_starts (by rw [hb.ground.demoteSlot, hu.demoteSlot, stackBuckets_congr (hb.regs.trans hu.regs)]; exact ht)]
  have hput : pointerDemote n s = putFlight n ⟨pd, [], .demoting k t0⟩ v := by
    rw [hrun, ← hstart]
    exact if_pos ⟨rfl, hp⟩
  rw [hput]
  refine ⟨?_, flightAt_putFlight_new ((hb.ground.flightAt pd).trans hflight) rfl⟩
  rw [slAt_putFlight]
  exact hb.slice.ptrDemotes.trans hqueue

end

/-! ### The demoter -/

/-- The slot at the demoter's position has been read, and the walk goes on behind it (R288, R294). -/
def slotExamined (n : Nat) (s : State) : State :=
  useBack n ((slAt s n).demotePos / 4 % 8) 1 (setSl n { slAt s n with
    demotePos := ((slAt s n).demotePos + 1) % (4 * stackBuckets s), walked := (slAt s n).walked + 1 } s)

theorem slotExamined_stands (n : Nat) (s : State) : SliceStands n s (slotExamined n s) :=
  (setSl_stands ⟨rfl⟩).trans (useBack_stands ..)

/-- An empty slot, one of memory that is away, and an entry that an operation or the Hearth holds are passed by (R288). -/
theorem demoteScan_passes {n age i r : Nat} {s : State} (hr : r ≠ 0)
    (h : ∀ e, tfind (slAt s n).stack (slAt s n).demotePos = some e → busy (slAt s n) (digestOf s (keyOf e)) = true) :
    demoteScan n age (i + 1) r s = demoteScan n age i r (slotExamined n s) := by
  rw [demoteScan, if_neg hr]
  dsimp only
  split
  next => rfl
  next e he =>
    rw [h e he]
    simp only [Bool.or_true, Bool.true_or, if_true]
    rfl

/-- An eligible, readable record whose turf has room begins its demotion (R288, R291). -/
theorem demoteScan_takes {n age i r k t0 : Nat} {d : Dword} {e : List Byte} {s : State}
    (hs : tfind (slAt s n).stack k = some e) (hpos : (slAt s n).demotePos = k) (hc : chanIn s n (k / 4) = true)
    (hread : readCopy (slAt s n) 1 k {} e ≠ none) (hd : d = digestOf s (keyOf e))
    (hold : demotable s (slAt s n) age d e = true) (hway : wayOf (slAt s n) d = none) (hbusy : busy (slAt s n) d = false)
    (ht : demoteSlot (slAt s n) (bucket0 (stackBuckets s) d) (entrySlots e) = some t0) :
    demoteScan n age (i + 1) (r + 1) s = demoteScan n age i r (putFlight n ⟨d, [], .demoting k t0⟩ (slotExamined n s)) := by
  have hu := slotExamined_stands n s
  have hstart : startDemotion n k d e (slotExamined n s) = _ :=
    startDemotion_starts (t0 := t0) (by rw [hu.ground.demoteSlot, stackBuckets_congr hu.regs]; exact ht)
  obtain ⟨e', hread'⟩ := Option.ne_none_iff_exists'.mp hread
  subst hpos
  unfold slotExamined at hstart ⊢
  rw [demoteScan, if_neg (Nat.succ_ne_zero r)]
  dsimp only
  rw [hs]
  dsimp only
  rw [← hd, if_neg (by simp [hc, hway, hbusy]), hread']
  dsimp only
  rw [if_pos hold, hstart]
  dsimp only
  rw [if_pos rfl, Nat.add_sub_cancel]

section
variable {n k : Nat} {d : Dword} {e : List Byte} {s : State} (hs : (slAt s n).stack = [(k, e)])
  (hd : d = digestOf s (keyOf e))
include hs hd

/-- Once the only record of a Stack is on its way to its turf, the demoter's walk finds nothing more (R288). -/
theorem demoteScan_idle {f : Flight} (age : Nat) (hf : flightAt s n d = some f) (i r : Nat) :
    SliceStands n s (demoteScan n age i r s) := by
  induction i generalizing s r with
  | zero => exact .rfl' ..
  | succ i ih =>
    by_cases hr : r = 0
    · rw [demoteScan, if_pos hr]
      exact .rfl' ..
    · have hu := slotExamined_stands n s
      rw [demoteScan_passes hr]
      · exact hu.trans (ih (hu.slice.tiers.stack.trans hs) (hd.trans (digestOf_congr hu.regs _).symm)
          ((hu.ground.flightAt d).trans hf) r)
      · intro e' he
        have hee : e' = e := by
          rw [hs] at he
          unfold tfind at he
          split at he
          · exact (Option.some.inj he).symm
          · cases he
        rw [hee, ← hd]
        exact List.any_eq_true.mpr ⟨f, List.mem_of_find?_eq_some hf, by simpa using digest_of_flightAt hf⟩

/-- The demoter starts the demotion of the only record of a Stack, and nothing else (R288, R291). -/
theorem demoteScan_starts {t0 age : Nat} (hread : readCopy (slAt s n) 1 k {} e ≠ none) (hpos : (slAt s n).demotePos = k)
    (hc : chanIn s n (k / 4) = true) (hold : demotable s (slAt s n) age d e = true)
    (ht : demoteSlot (slAt s n) (bucket0 (stackBuckets s) d) (entrySlots e) = some t0) (i r : Nat) :
    ∃ u, SliceStands n s u ∧ flightAt u n d = none ∧
      SliceStands n (putFlight n ⟨d, [], .demoting k t0⟩ u) (demoteScan n age (i + 1) (r + 1) s) := by
  have hu := slotExamined_stands n s
  obtain ⟨hway, hbusy⟩ : wayOf (slAt s n) d = none ∧ busy (slAt s n) d = false := by
    unfold demotable at hold
    simp only [Bool.and_eq_true, Option.isNone_iff_eq_none, Bool.not_eq_true'] at hold
    obtain ⟨⟨⟨-, hway⟩, hbusy⟩, -⟩ := hold
    exact ⟨hway, hbusy⟩
  have hflight := (hu.ground.flightAt d).trans (flightAt_none_of_busy hbusy)
  rw [demoteScan_takes (by rw [hs]; exact if_pos rfl) hpos hc hread hd hold hway hbusy ht]
  generalize slotExamined n s = u at hu hflight
  refine ⟨u, hu, hflight, demoteScan_idle (k := k) (e := e) ?_ ?_ age (flightAt_putFlight_new hflight rfl) i r⟩
  · exact (putFlight_tiers ..).stack.trans (hu.slice.tiers.stack.trans hs)
  · exact hd.trans (digestOf_congr hu.regs _).symm

end

theorem GroundStands.demotable {n : Nat} {s t : State} (h : GroundStands n s t) (age : Nat) (d : Dword) (e : List Byte) :
    demotable t (slAt t n) age d e = Machine.demotable s (slAt s n) age d e := by
  unfold Machine.demotable busy
  rw [wayOf_congr h.tiers.hearth, h.flights, h.tick]

/-- A requester that may begin an action finds room for an access (R262). -/
theorem backRoom_pos {s : State} {n i : Nat} (h : backAllows s n i = true) : 1 ≤ backRoom s n := by
  unfold backAllows backAction at h
  simp only [Bool.or_eq_true, Bool.and_eq_true, decide_eq_true_eq] at h
  omega

/-- While the demoter does not run, has run in the tick, or has no accesses, nothing changes (R262, R288). -/
theorem demoterTick_idle {n : Nat} {s : State} (h : demoting s n = false ∨ (slAt s n).demoteAt = some s.tick.count ∨
    backAllows s n 2 = false) : demoterTick n s = s := by
  unfold demoterTick
  exact if_pos (by simpa using h)

/-- The demoter's work of a tick starts the demotion of the only record of a Stack, where it is eligible (R288, R291). -/
theorem demoterTick_starts {n k t0 : Nat} {d : Dword} {e : List Byte} {s : State} (hrun : demoting s n = true)
    (hat : (slAt s n).demoteAt ≠ some s.tick.count) (hback : backAllows s n 2 = true)
    (hread : readCopy (slAt s n) 1 k {} e ≠ none) (hs : (slAt s n).stack = [(k, e)]) (hpos : (slAt s n).demotePos = k)
    (hc : chanIn s n (k / 4) = true) (hd : d = digestOf s (keyOf e)) (hscan : 1 ≤ regField s 13 n 0xC 7 0)
    (hrate : 1 ≤ regField s 13 n 0xB 22 16)
    (hold : demotable s (slAt s n) ((slAt s n).age.getD (regField s 13 n 0xC 13 8)) d e = true)
    (ht : demoteSlot (slAt s n) (bucket0 (stackBuckets s) d) (entrySlots e) = some t0) :
    flightAt (demoterTick n s) n d = some ⟨d, [], .demoting k t0⟩ ∧ (slAt (demoterTick n s) n).stack = (slAt s n).stack ∧
      (slAt (demoterTick n s) n).turf = (slAt s n).turf := by
  have hroom := backRoom_pos hback
  obtain ⟨i, hi⟩ : ∃ i, min (min 128 (regField s 13 n 0xC 7 0)) (backRoom s n) = i + 1 :=
    Nat.exists_eq_succ_of_ne_zero (by omega)
  obtain ⟨r, hr⟩ : ∃ r, min 64 (regField s 13 n 0xB 22 16) = r + 1 := Nat.exists_eq_succ_of_ne_zero (by omega)
  have hbegin : SliceStands n s (backServed n 2 (modSl n (fun x => { x with demoteAt := some s.tick.count }) s)) :=
    (setSl_stands ⟨rfl⟩).trans (backServed_stands ..)
  have hpos' : (slAt (backServed n 2 (modSl n (fun x => { x with demoteAt := some s.tick.count }) s)) n).demotePos = k := by
    unfold backServed
    rw [slAt_modSl_self, slAt_modSl_self]
    exact hpos
  have htick : demoterTick n s = walkEnd n (demoteScan n ((slAt s n).age.getD (regField s 13 n 0xC 13 8)) (i + 1) (r + 1)
      (backServed n 2 (modSl n (fun x => { x with demoteAt := some s.tick.count }) s))) := by
    unfold demoterTick
    rw [if_neg (by simp [hrun, hat, hback])]
    dsimp only
    rw [hi, hr]
  generalize backServed n 2 _ = s0 at hbegin hpos' htick
  obtain ⟨u, hu, hflight, hend⟩ := demoteScan_starts (hbegin.slice.tiers.stack.trans hs)
    (hd.trans (digestOf_congr hbegin.regs _).symm) (t0 := t0) (by rw [readCopy_congr hbegin.slice.tiers.upsets]; exact hread)
    hpos' ((hbegin.ground.chanIn _).trans hc) ((hbegin.ground.demotable ..).trans hold)
    (by rw [hbegin.ground.demoteSlot, stackBuckets_congr hbegin.regs]; exact ht) i r
  have hall := hend.trans (walkEnd_stands n _)
  have htiers := (hbegin.slice.tiers.trans hu.slice.tiers).trans ((putFlight_tiers n _ u).trans hall.slice.tiers)
  rw [htick]
  exact ⟨(hall.ground.flightAt d).trans (flightAt_putFlight_new hflight rfl), htiers.stack, htiers.turf⟩

/-! ### The end of a demotion -/

/-- An entry without operations behind it is released (R240). -/
theorem goOn_releases {n : Nat} {d : Dword} {s : State} {f : Flight} (hf : flightAt s n d = some f) (ho : f.ops = []) :
    goOn n d s = episodes n (delFlight n d s) := by
  unfold goOn
  rw [hf]
  dsimp only
  rw [ho, List.length_nil]
  unfold pump
  rw [hf]
  dsimp only
  rw [ho]

/-- What the release of an in-flight entry leaves (R240). -/
theorem released_spec (n : Nat) (d : Dword) (s : State) : flightAt (episodes n (delFlight n d s)) n d = none ∧
    SameTiers (slAt s n) (slAt (episodes n (delFlight n d s)) n) ∧
    (episodes n (delFlight n d s)).prm = s.prm ∧ (episodes n (delFlight n d s)).flow.cmds = s.flow.cmds := by
  have hx : slAt (delFlight n d s) n = _ := slAt_modSl_self ..
  have hy : slAt (episodes n (delFlight n d s)) n = _ := slAt_modSl_self ..
  refine ⟨?_, ?_, rfl, rfl⟩
  · have := flightAt_delFlight n d s
    unfold flightAt flightOf at *
    rw [hy]
    exact this
  · rw [hy, hx]
    exact ⟨rfl, rfl, rfl, rfl, rfl, rfl, rfl⟩

/-- A pointer that is to follow its primary waits in its slice: the entries of every slice stand (R290). -/
theorem pointerItem_ground (n : Nat) (e : List Byte) (s : State) : GroundStands n s (pointerItem e s) := by
  unfold pointerItem
  split
  · exact modSl_ground (fun _ => ⟨rfl, rfl, rfl, rfl, rfl, rfl, rfl⟩) (fun _ => rfl) (fun _ => rfl)
  · exact (SliceStands.rfl' n s).ground

section
variable {n : Nat} {d : Dword} {k t0 : Nat} {e : List Byte} {s : State}

/-- A demotion that completes moves the entry from its Stack slot to its turf slot and counts it (R290, R291). -/
theorem demoted_moves (hn : n < 1024) (hs : tfind (slAt s n).stack k = some e) :
    tfind (slAt (demoted n d k t0 s) n).stack k = none ∧ tfind (slAt (demoted n d k t0 s) n).turf t0 = some e ∧
      flightAt (demoted n d k t0 s) n d = flightAt s n d ∧ (demoted n d k t0 s).flow.cmds = s.flow.cmds ∧
      counter (demoted n d k t0 s) (paddr 13 n 0x50) = min (counter s (paddr 13 n 0x50) + 1) (2 ^ 32 - 1) := by
  have hu : (useTurf n (entrySlots e) (useBack n (k / 4 % 8) 3 s)).flow.cmds = s.flow.cmds :=
    (useTurf_stands n _ n _).cmds.trans (useBack_stands n s ..).cmds
  have hcount : counter (useTurf n (entrySlots e) (useBack n (k / 4 % 8) 3 s)) (paddr 13 n 0x50) =
      counter s (paddr 13 n 0x50) :=
    (counter_congr ((useTurf_same ..).prm rfl) _).trans (counter_useBack _ _ _ hn (by decide))
  unfold demoted
  dsimp only
  rw [hs]
  dsimp only
  generalize useTurf n (entrySlots e) (useBack n (k / 4 % 8) 3 s) = u at hu hcount
  generalize hy : sumSet (t0 / 16) (t0 % 16) (fingerprint d) (entrySlots e)
    { slAt s n with turf := tput (slAt s n).turf t0 e, stack := terase (slAt s n).stack k } = y
  have hstack : y.stack = terase (slAt s n).stack k := by rw [← hy]; rfl
  have hturf : y.turf = tput (slAt s n).turf t0 e := by rw [← hy]; rfl
  have hflights : y.flights = (slAt s n).flights := by rw [← hy]; rfl
  have hg := (((slCount_stands n (setSl n y u) n 0x50 1).trans (fillEvents_stands ..)).trans
    (walkMove_stands n _ n e (k / 4) (t0 / 16))).ground.trans (pointerItem_ground n e _)
  refine ⟨?_, ?_, ?_, hg.cmds.trans ((setSl_cmds ..).trans hu), ?_⟩
  · rw [hg.tiers.stack, slAt_setSl_self, hstack, tfind_terase, if_pos rfl]
  · rw [hg.tiers.turf, slAt_setSl_self, hturf, tfind_tput, if_pos rfl]
  · rw [hg.flightAt]
    unfold flightAt flightOf
    rw [slAt_setSl_self, hflights]
  · rw [counter_congr ((pointerItem_same ..).prm rfl), counter_walkMove _ _ _ _ hn (by decide),
      counter_congr ((fillEvents_same ..).prm rfl), counter_slCount_self]
    exact congrArg (fun c => min (c + 1) (2 ^ 32 - 1)) hcount

/-- A failed step of a demotion leaves the entry where it was and counts the abort (R293). -/
theorem demotionFails_stands {i : Nat} (h : i = 2 → writeFails (slAt s n) 3 (t0 / 16) = false) :
    SliceStands n s (demotionFails n d k t0 i s) ∧
      counter (demotionFails n d k t0 i s) (paddr 13 n 0x59) = min (counter s (paddr 13 n 0x59) + 1) (2 ^ 32 - 1) := by
  unfold demotionFails
  dsimp only
  rw [if_neg (fun q => by rw [h q.1] at q; exact Bool.false_ne_true q.2)]
  exact ⟨migrateAbort_stands .., counter_migrateAbort ..⟩

end

section
variable {n k t0 : Nat} {d : Dword} {s : State} (hf : flightAt s n d = some ⟨d, [], .demoting k t0⟩)
include hf

/-- A demotion whose writes are done makes its move (R291). -/
theorem demotionDone_completes : demotionDone n d none s = goOn n d (demoted n d k t0 s) := by
  unfold demotionDone
  rw [hf]

/-- A demotion of which a write fails is undone (R293). -/
theorem demotionDone_fails (i : Fin 3) : demotionDone n d (some i) s = goOn n d (demotionFails n d k t0 i.val s) := by
  unfold demotionDone
  rw [hf]

end

section
variable {n : Fin 16} {d : Dword} {k t0 : Nat} {e : List Byte} {s : State} (hi : s.flow.cmds = [])
  (hf : flightAt s n d = some ⟨d, [], .demoting k t0⟩)
include hi hf

/-- An end of a demotion that leaves the in-flight table releases the entry (R240, R291, R293). -/
theorem execDemotionDone_releases {fail : Option (Fin 3)} {u : State} (hu : demotionDone n d fail s = goOn n d u)
    (hfu : flightAt u n d = flightAt s n d) (hc : u.flow.cmds = s.flow.cmds) :
    exec (.demotionDone n d fail) s = .next (episodes n (delFlight n d u)) := by
  show Host.Outcome.next (completeCmds (demotionDone n d fail s)) = _
  obtain ⟨-, -, -, hcmds⟩ := released_spec n d u
  rw [hu, goOn_releases (hfu.trans hf) rfl, completeCmds_idle (hcmds.trans (hc.trans hi))]

/-- The writes of a demotion are done: the entry stands in its turf slot alone. -/
theorem execDemotionDone_moves (hs : tfind (slAt s n).stack k = some e) : ∃ t, exec (.demotionDone n d none) s = .next t ∧
    flightAt t n d = none ∧ tfind (slAt t n).stack k = none ∧ tfind (slAt t n).turf t0 = some e ∧
    counter t (paddr 13 n 0x50) = min (counter s (paddr 13 n 0x50) + 1) (2 ^ 32 - 1) := by
  obtain ⟨hstack, hturf, hflight, hcmds, hcount⟩ := demoted_moves (t0 := t0) (d := d) (by omega : n.val < 1024) hs
  obtain ⟨hgone, htiers, hprm, -⟩ := released_spec n d (demoted n d k t0 s)
  exact ⟨_, execDemotionDone_releases hi hf (demotionDone_completes hf) hflight hcmds, hgone, by rw [htiers.stack, hstack],
    by rw [htiers.turf, hturf], by rw [counter_congr hprm, hcount]⟩

/-- A write of a demotion has failed: the entry stands in its Stack slot alone. -/
theorem execDemotionDone_aborts (i : Fin 3) (h : i = 2 → writeFails (slAt s n) 3 (t0 / 16) = false) :
    ∃ t, exec (.demotionDone n d (some i)) s = .next t ∧ flightAt t n d = none ∧
      (slAt t n).stack = (slAt s n).stack ∧ (slAt t n).turf = (slAt s n).turf ∧
      counter t (paddr 13 n 0x59) = min (counter s (paddr 13 n 0x59) + 1) (2 ^ 32 - 1) := by
  obtain ⟨hst, hcount⟩ := demotionFails_stands (d := d) (k := k) (i := i.val) (fun q => h (Fin.ext q))
  obtain ⟨hgone, htiers, hprm, -⟩ := released_spec n d (demotionFails n d k t0 i.val s)
  exact ⟨_, execDemotionDone_releases hi hf (demotionDone_fails hf i) (hst.ground.flightAt d) hst.cmds, hgone,
    htiers.stack.trans hst.slice.tiers.stack, htiers.turf.trans hst.slice.tiers.turf, by rw [counter_congr hprm, hcount]⟩

end

end Sys2Proof.Machine
end

section
/-! Proofs.  The end of a pending clear, scrubbing, the rebuilding of summaries and the fetches of partitions (R276, R292, R293, R296,
R302). -/

namespace Sys2Proof.Machine

/-! ### The key and the digest that find an entry of the Stack -/

theorem keyType_plainKey (k : List Byte) : keyType (plainKey k) = keyType k := by
  have h : keyType k < 128 := Nat.mod_lt _ (by decide)
  show (BitVec.ofNat 8 (keyType k)).toNat % 128 = keyType k
  rw [BitVec.toNat_ofNat]
  omega

theorem plainKey_plainKey (k : List Byte) : plainKey (plainKey k) = plainKey k := by
  unfold plainKey
  rw [show keyType (BitVec.ofNat 8 (keyType k) :: k.drop 1) = keyType k from keyType_plainKey k]
  rfl

/-- The key of an entry has bit 7 of its type cleared (R206, R215). -/
theorem plainKey_keyOf (e : List Byte) : plainKey (keyOf e) = keyOf e := by
  unfold keyOf
  split <;> exact plainKey_plainKey _

/-- A search that ends in the Stack has found its slot there by a probe (R268, R279). -/
theorem stackFind_of_locate {s : State} {n k : Nat} {d : Dword} {key : Option (List Byte)} {e : List Byte}
    (h : locate s n d key = .hit ⟨1, k⟩ e) : stackFind s (slAt s n) d key = some k := by
  unfold locate at h
  dsimp only at h
  split at h
  next => cases readFound_hit h
  next =>
    split at h
    · cases h
    · split at h
      next j hj =>
        cases readFound_hit h
        exact hj
      next =>
        split at h
        · cases h
        · split at h
          · cases h
          · split at h
            next hf =>
              subst h
              cases turfEnd_hit hf
            · cases h

/-- A search by digest that finds no way of the Hearth tells that none holds the digest. -/
theorem wayOf_none_of_hearthFind {x : Slice} {d : Dword} (h : hearthFind x d none = none) : wayOf x d = none := by
  cases hw : wayOf x d with
  | none => rfl
  | some k =>
    unfold hearthFind at h
    rw [hw] at h
    dsimp only at h
    have hk := List.find?_some hw
    split at h
    next hn =>
      rw [hn] at hk
      cases hk
    next => cases h

/-- The probe that finds an entry by its digest finds it by its key too (R279). -/
theorem stackFind_key_of_digest {s : State} {x : Slice} {d : Dword} {k : Nat} {e : List Byte}
    (h : stackFind s x d none = some k) (he : tfind x.stack k = some e) : stackFind s x d (some (keyOf e)) = some k := by
  unfold stackFind at *
  obtain ⟨hk, l, m, hl, hbefore⟩ := List.find?_eq_some_iff_append.mp h
  rw [he] at hk
  refine List.find?_eq_some_iff_append.mpr ⟨?_, l, m, hl, fun j hj => ?_⟩
  · rw [he]
    simp [plainKey_keyOf]
  · have hother := hbefore j hj
    dsimp only at hk hother ⊢
    split at hother
    next e' _ =>
      rw [plainKey_keyOf]
      by_cases hkey : keyOf e' = keyOf e
      · rw [hkey, hk] at hother
        cases hother
      · simpa using hkey
    next => rfl

/-! ### The end of a pending clear -/

/-- Dropping an entry that stands in a Stack slot, and in no way, frees the slot; the pending clears stand (R270). -/
theorem dropEntry_stack {s : State} {n k : Nat} {d : Dword} {e : List Byte} (hw : wayOf (slAt s n) d = none)
    (hk : stackFind s (slAt s n) d (some (keyOf e)) = some k) :
    (slAt (dropEntry n d e s) n).stack = terase (slAt s n).stack k ∧
      (slAt (dropEntry n d e s) n).clears = (slAt s n).clears := by
  unfold dropEntry hearthFind
  dsimp only
  rw [hw]
  dsimp only
  rw [hk]
  dsimp only
  split
  next j _ =>
    have h := (useBack_stands n (setSl n (sumClear (j / 16) (j % 16) (entrySlots e)
      { slAt s n with stack := terase (slAt s n).stack k, turf := terase (slAt s n).turf j }) s) (j / 16 % 8) 1).trans
      (fillEvents_stands n _)
    rw [h.slice.tiers.stack, h.slice.tiers.clears, slAt_setSl_self]
    exact ⟨rfl, rfl⟩
  next =>
    have h := fillEvents_stands n (setSl n { slAt s n with stack := terase (slAt s n).stack k } s)
    rw [h.slice.tiers.stack, h.slice.tiers.clears, slAt_setSl_self]
    exact ⟨rfl, rfl⟩

section
variable {n t0 : Nat} {d : Dword} {rest : List (Nat × Dword)} {s : State} (hc : (slAt s n).clears = (t0, d) :: rest)
include hc

/-- An acknowledged clear frees the turf slot (R292). -/
theorem turfClearAck_frees : (slAt (turfClearAck n true s) n).clears = rest ∧
    tfind (slAt (turfClearAck n true s) n).turf t0 = none := by
  have hu := useBack_stands n s (t0 / 16 % 8) 1
  unfold turfClearAck
  rw [hc]
  dsimp only
  rw [if_pos rfl]
  generalize useBack n (t0 / 16 % 8) 1 s = u at hu
  unfold freeClear sumClear
  rw [slAt_modSl_self]
  exact ⟨(congrArg (List.drop 1) (hu.slice.tiers.clears.trans hc) :), (tfind_terase ..).trans (if_pos rfl)⟩

/-- A failed clear gives the entry back to its turf slot, and the Stack slot is free (R293). -/
theorem turfClearAck_returns {k : Nat} {e : List Byte} (hl : locate s n d none = .hit ⟨1, k⟩ e)
    (he : tfind (slAt s n).stack k = some e) (hp : isPinned e = false) : (slAt (turfClearAck n false s) n).clears = rest ∧
    tfind (slAt (turfClearAck n false s) n).turf t0 = some e ∧ tfind (slAt (turfClearAck n false s) n).stack k = none := by
  have hu := (migrateAbort_stands n s n 0 d (summaryAddr s (t0 / 16))).ground
  unfold turfClearAck
  rw [hc]
  dsimp only
  rw [if_neg (by decide)]
  generalize migrateAbort n 0 d (summaryAddr s (t0 / 16)) s = u at hu
  have hlu := (hu.locate d none).trans hl
  have hway : wayOf (slAt u n) d = none := by
    obtain ⟨h, -⟩ | ⟨-, h⟩ := hearthFind_of_locate hlu
    · cases h
    · exact wayOf_none_of_hearthFind h
  obtain ⟨hstack, hclears⟩ := dropEntry_stack hway
    (stackFind_key_of_digest (stackFind_of_locate hlu) ((congrArg (tfind · k) hu.tiers.stack).trans he))
  rw [hlu]
  dsimp only
  rw [if_neg (by simp [hp]), slAt_modSl_self]
  refine ⟨?_, (tfind_tput ..).trans (if_pos rfl), ?_⟩
  · exact (congrArg (List.drop 1) (hclears.trans (hu.tiers.clears.trans hc)) :)
  · exact (congrArg (tfind · k) hstack).trans ((tfind_terase ..).trans (if_pos rfl))

end

/-! ### Scrubbing -/

/-- The scrubber moves on where no upset has struck a way of its 8 sets (R276). -/
theorem hearthScrub_advances {n : Nat} {s : State} (h : ∀ u ∈ (slAt s n).upsets, u.tier = 0 →
    u.idx / 16 < (slAt s n).scrubPos ∨ (slAt s n).scrubPos + 8 ≤ u.idx / 16) :
    hearthScrub n s = modSl n (fun x => { x with scrubPos := (x.scrubPos + 8) % 16384 }) s := by
  have hnone : (slAt s n).upsets.filter (fun u => u.tier == 0 &&
      decide ((slAt s n).scrubPos ≤ u.idx / 16 ∧ u.idx / 16 < (slAt s n).scrubPos + 8)) = [] := by
    refine List.filter_eq_nil_iff.mpr fun u hu q => ?_
    simp only [Bool.and_eq_true, beq_iff_eq, decide_eq_true_eq] at q
    have := h u hu q.1
    omega
  unfold hearthScrub
  dsimp only
  rw [hnone]
  rfl

/-- The scrubber writes a way of its 8 sets back whose upset SECDED corrects (R276). -/
theorem hearthScrub_corrects {n : Nat} {s : State} {u : CopyUpset} {w : Way} (hu : (slAt s n).upsets = [u]) (ht : u.tier = 0)
    (hlo : (slAt s n).scrubPos ≤ u.idx / 16) (hhi : u.idx / 16 < (slAt s n).scrubPos + 8)
    (hw : tfind (slAt s n).hearth u.idx = some w) (hok : secdedOk u.u u.was = true) :
    slAt (hearthScrub n s) n = { slAt s n with scrubPos := ((slAt s n).scrubPos + 8) % 16384, upsets := [] } := by
  have hone : hearthScrub n s = scrubWay n u (modSl n (fun x => { x with scrubPos := (x.scrubPos + 8) % 16384 }) s) := by
    unfold hearthScrub
    rw [hu]
    simp [ht, hlo, hhi]
  have hgone : [u].filter (· != u) = [] := by simp
  rw [hone]
  unfold scrubWay
  rw [slAt_modSl_self]
  dsimp only
  rw [hw]
  dsimp only
  rw [if_pos hok, slAt_modSl_self, slAt_modSl_self]
  dsimp only
  rw [hu, hgone]

/-! ### Summaries and partitions -/

/-- The rebuilding of a summary changes the summaries alone (R296). -/
theorem rebuiltSum_eq (s : State) (b : Nat) (x : Slice) : rebuiltSum s b x = { x with sums := (rebuiltSum s b x).sums } := by
  unfold rebuiltSum
  generalize x.turf.filter (fun e => e.1 / 16 == b) = l
  suffices h : ∀ y : Slice, l.foldl (fun x e => sumSet b (e.1 % 16) (fingerprint (digestOf s (keyOf e.2))) (entrySlots e.2) x) y =
      { y with sums := (l.foldl (fun x e =>
        sumSet b (e.1 % 16) (fingerprint (digestOf s (keyOf e.2))) (entrySlots e.2) x) y).sums } from h _
  induction l with
  | nil => exact fun y => rfl
  | cons e l ih => exact fun y => ih (sumSet ..)

/-- The summary of bucket `b` has been rebuilt from its turf, the 16 slots read and the summary written (R294, R296). -/
def summaryRebuilt (n b : Nat) (rest : List Nat) (s : State) : State :=
  useCycle n 3 (useBack n (b % 8) 1 (useTurf n 16 (modSl n (fun x => rebuiltSum s b { x with badSums := rest }) s)))

theorem summaryRebuilt_spec (n b : Nat) (rest : List Nat) (s : State) :
    (slAt (summaryRebuilt n b rest s) n).sums = (rebuiltSum s b { slAt s n with badSums := rest }).sums ∧
      (slAt (summaryRebuilt n b rest s) n).badSums = rest ∧ (slAt (summaryRebuilt n b rest s) n).turf = (slAt s n).turf ∧
      (slAt (summaryRebuilt n b rest s) n).stack = (slAt s n).stack := by
  have hx := rebuiltSum_eq s b { slAt s n with badSums := rest }
  have h : SliceStands n (modSl n (fun x => rebuiltSum s b { x with badSums := rest }) s) (summaryRebuilt n b rest s) :=
    ((useTurf_stands n _ n 16).trans (useBack_stands n _ (b % 8) 1)).trans (useCycle_stands n _ 3)
  have hs := h.slice.tiers
  rw [slAt_modSl_self] at hs
  refine ⟨hs.sums, hs.badSums.trans ?_, hs.turf.trans ?_, hs.stack.trans ?_⟩ <;> rw [hx]

section
variable {n : Fin 16} {s : State}

/-- The next summary that awaits it is rebuilt while its channel serves, in a cycle of the migration reservation (R39, R296). -/
theorem execSummaryRebuild_rebuilds {b : Nat} {rest : List Nat} (hb : (slAt s n).badSums = b :: rest)
    (hin : inService s 15 n = true) (hr : ownRoom s n 3 ≠ 0) :
    exec (.summaryRebuild n) s = .next (summaryRebuilt n b rest s) := by
  show execSummaryRebuild n s = _
  unfold execSummaryRebuild
  rw [hb]
  exact congrArg Host.Outcome.next (if_pos (by simp [hin, hr]))

/-- Without the channel of its turfs, or a cycle, no summary is rebuilt (R39, R296). -/
theorem execSummaryRebuild_waits (h : inService s 15 n = false ∨ ownRoom s n 3 = 0) :
    exec (.summaryRebuild n) s = .next s := by
  show execSummaryRebuild n s = _
  unfold execSummaryRebuild
  split
  · rfl
  · rw [if_neg]
    rcases h with h | h <;> simp [h]

theorem execSummaryRebuild_none (h : (slAt s n).badSums = []) : exec (.summaryRebuild n) s = .next s := by
  show execSummaryRebuild n s = _
  unfold execSummaryRebuild
  rw [h]

/-- No fetch ends for a pool that is not defined, or outside the service share (R40, R302). -/
theorem execTransFetchDone_waits {k : Fin 4096} (h : poolDef s k = none ∨ svcRoom s n (poolChan k) = false) :
    exec (.transFetchDone n k) s = .next s := by
  show execTransFetchDone n k s = _
  unfold execTransFetchDone
  split
  next d hd =>
    rw [if_neg]
    rcases h with h | h
    · rw [hd] at h
      cases h
    · simp [h]
  next => rfl

/-- The fetch of a partition ends within the service share (R40, R302). -/
theorem execTransFetchDone_ends {k : Fin 4096} {d : List Byte} (hd : poolDef s k = some d)
    (hf : (partAt s n k).fetching = true) (hr : svcRoom s n (poolChan k) = true) : ∃ t, exec (.transFetchDone n k) s = .next t ∧
      partAt t n k = fetchDone (partSize d n) (partAt s n k) ∧ (partAt t n k).fetching = false := by
  have hpart : partAt (useSvc n (poolChan k) 4 (setPart n k (fetchDone (partSize d n) (partAt s n k)) s)) n k =
      fetchDone (partSize d n) (partAt s n k) := by
    rw [partAt, useSvc, setPart, slAt_modSl_self, slAt_modSl_self]
    exact tgetD_tput_self ..
  refine ⟨_, ?_, hpart, by rw [hpart]; rfl⟩
  show execTransFetchDone n k s = _
  unfold execTransFetchDone
  rw [hd]
  dsimp only
  rw [if_pos (by simp [hf, hr])]

/-! ### Without a cycle of the migration reservation, and without an item -/

theorem execPointerInstall_waits (h : (slAt s n).installs = [] ∨ ownRoom s n 3 = 0) : exec (.pointerInstall n) s = .next s := by
  show execPointerInstall n s = _
  unfold execPointerInstall
  split
  · rfl
  next hq =>
    rcases h with h | h
    · rw [hq] at h
      cases h
    · rw [if_pos h]

theorem execBindAck_waits (h : (slAt s n).acks = [] ∨ ownRoom s n 3 = 0) : exec (.bindAck n) s = .next s := by
  show execBindAck n s = _
  unfold execBindAck
  split
  · rfl
  next hq =>
    rcases h with h | h
    · rw [hq] at h
      cases h
    · rw [if_pos h]

theorem execPointerDemote_waits (h : (slAt s n).ptrDemotes = [] ∨ ownRoom s n 3 = 0) : exec (.pointerDemote n) s = .next s := by
  show Host.Outcome.next (pointerDemote n s) = _
  unfold pointerDemote
  split
  · rfl
  next hq =>
    rcases h with h | h
    · rw [hq] at h
      cases h
    · rw [if_pos h]

theorem execTurfClearAck_none (h : (slAt s n).clears = []) (ok : Bool) : exec (.turfClearAck n ok) s = .next s := by
  show Host.Outcome.next (turfClearAck n ok s) = _
  unfold turfClearAck
  rw [h]

end

/-- Settles O47: background work moves entries between the tiers.  That DEMOTER_TICK runs once a tick and pointer work uses the
migration reservation is log 58; that a failed clear gives the entry back to its turf slot is log 39. -/
theorem entriesMoveBetweenTheTiers : Obligations.EntriesMoveBetweenTheTiers := by
  unfold Obligations.EntriesMoveBetweenTheTiers
  intro n s hi
  refine ⟨fun h => execPointerInstall_waits (.inl h), fun h => ⟨execPointerInstall_waits (.inr h), execBindAck_waits (.inr h),
    execPointerDemote_waits (.inr h), execSummaryRebuild_waits (.inr h)⟩, ?_, fun h => execBindAck_waits (.inl h), ?_, ?_, ?_,
    fun h => execPointerDemote_waits (.inl h), ?_, ?_, fun h => execTurfClearAck_none h, ?_, ?_, ?_, ?_,
    fun h => execSummaryRebuild_none h, ?_⟩
  case refine_1 =>
    intro op rest m pr ptr key hr hq hk hkey hf hl ha hroom hread
    exact execPointerInstall_installs hi hr hq hk hkey hf hl ha hroom hread
  case refine_2 =>
    intro op rest code pd hr hq hk hkey hf
    exact ⟨fun k e hc hp hd => ⟨fun hl => execBindAck_hearth hi hr hq hk hf hc hkey hp hd hl,
      fun hl hh => execBindAck_stack hi hr hq hk hf hc hkey hp hd hl hh⟩, execBindAck_refused hi hr hq hk hf⟩
  case refine_3 => exact fun h => congrArg Host.Outcome.next (demoterTick_idle h)
  case refine_4 =>
    intro k e d t0 hrun hat hback hread hs hpos hc hd hscan hrate hold ht
    exact ⟨_, rfl, demoterTick_starts hrun hat hback hread hs hpos hc hd hscan hrate hold ht⟩
  case refine_5 =>
    intro pd rest hr hq
    exact ⟨fun h => congrArg Host.Outcome.next (pointerDemote_stays hr hq h),
      fun k e t0 hf hw hc hl hp ht => ⟨_, rfl, pointerDemote_starts hr hq hf hw hc hl hp ht⟩⟩
  case refine_6 =>
    intro d k t0 e hf hs
    exact ⟨execDemotionDone_moves hi hf hs, execDemotionDone_aborts hi hf⟩
  case refine_7 =>
    intro t0 d rest hc
    exact ⟨⟨_, rfl, turfClearAck_frees hc⟩, fun k e hl he hp => ⟨_, rfl, turfClearAck_returns hc hl he hp⟩⟩
  case refine_8 => exact fun h => congrArg Host.Outcome.next (hearthScrub_advances h)
  case refine_9 =>
    intro u w hu ht hlo hhi hw hok
    exact ⟨_, rfl, hearthScrub_corrects hu ht hlo hhi hw hok⟩
  case refine_10 =>
    intro b rest hb
    exact ⟨fun h => execSummaryRebuild_waits (.inl h),
      fun hin hr => ⟨_, execSummaryRebuild_rebuilds hb hin hr, summaryRebuilt_spec ..⟩⟩
  case refine_11 =>
    intro k
    exact ⟨execTransFetchDone_waits, fun d hd hf hr => execTransFetchDone_ends hd hf hr⟩

end Sys2Proof.Machine
end

section
/-! Proofs.  The two candidate buckets of a digest in the Stack tier (R277 to R279). -/

namespace Sys2Proof.Machine

/-! ### The bucket across bit 3 -/

/-- Flipping bit 3 of a bucket keeps its pseudo-channel. -/
theorem xor_eight_mod_eight (b : Nat) : (b ^^^ 8) % 8 = b % 8 :=
  (Nat.xor_mod_two_pow (n := 3)).trans (Nat.xor_zero _)

theorem xor_eight_ne (b : Nat) : b ^^^ 8 ≠ b := by
  intro h
  have h8 : 8 = 0 := calc
    8 = b ^^^ b ^^^ 8 := by rw [Nat.xor_self, Nat.zero_xor]
    _ = b ^^^ (b ^^^ 8) := Nat.xor_assoc ..
    _ = 0 := by rw [h, Nat.xor_self]
  cases h8

/-- Flipping bit 3 stays below a bound that is a multiple of 16. -/
theorem xor_eight_lt {nb b : Nat} (h16 : 16 ∣ nb) (hb : b < nb) : b ^^^ 8 < nb := by
  have h : (b ^^^ 8) / 2 ^ 4 = b / 2 ^ 4 := Nat.xor_div_two_pow.trans (Nat.xor_zero _)
  omega

/-! ### The candidate buckets -/

/-- 32 bits of a digest, scaled to `m` places, name one of them. -/
theorem scaled_lt {x m : Nat} (hx : x < 2 ^ 32) (hm : 0 < m) : x * m / 2 ^ 32 < m :=
  Nat.div_lt_of_lt_mul (Nat.mul_lt_mul_of_pos_right hx hm)

theorem bitsOf_63_32 (d : Dword) : bitsOf d.toNat 63 32 = d.toNat / 2 ^ 32 :=
  Nat.mod_eq_of_lt (Nat.div_lt_of_lt_mul d.isLt)

theorem bucket0_eq (nb : Nat) (d : Dword) : bucket0 nb d = d.toNat / 2 ^ 32 * nb / 2 ^ 32 := by
  unfold bucket0
  rw [bitsOf_63_32]

theorem bucket0_lt {nb : Nat} (h : 0 < nb) (d : Dword) : bucket0 nb d < nb :=
  scaled_lt (Nat.mod_lt _ (by decide)) h

/-- The bucket that d[47:16] names on the pseudo-channel of the first candidate (R278). -/
def scaledBucket1 (nb : Nat) (d : Dword) : Nat :=
  8 * (d.toNat / 2 ^ 16 % 2 ^ 32 * (nb / 8) / 2 ^ 32) + bucket0 nb d % 8

theorem bucket1_of_ne {nb : Nat} {d : Dword} (h : scaledBucket1 nb d ≠ bucket0 nb d) :
    bucket1 nb d = scaledBucket1 nb d := if_neg h

theorem bucket1_of_eq {nb : Nat} {d : Dword} (h : scaledBucket1 nb d = bucket0 nb d) :
    bucket1 nb d = bucket0 nb d ^^^ 8 := if_pos h

theorem scaledBucket1_mod_eight (nb : Nat) (d : Dword) : scaledBucket1 nb d % 8 = bucket0 nb d % 8 := by
  unfold scaledBucket1
  omega

theorem scaledBucket1_lt {nb : Nat} (h8 : 8 ∣ nb) (h : 0 < nb) (d : Dword) : scaledBucket1 nb d < nb := by
  have hq : d.toNat / 2 ^ 16 % 2 ^ 32 * (nb / 8) / 2 ^ 32 < nb / 8 := scaled_lt (Nat.mod_lt _ (by decide)) (by omega)
  unfold scaledBucket1
  omega

theorem bucket1_ne_bucket0 (nb : Nat) (d : Dword) : bucket1 nb d ≠ bucket0 nb d := by
  by_cases h : scaledBucket1 nb d = bucket0 nb d
  · rw [bucket1_of_eq h]
    exact xor_eight_ne _
  · rwa [bucket1_of_ne h]

theorem bucket1_mod_eight (nb : Nat) (d : Dword) : bucket1 nb d % 8 = bucket0 nb d % 8 := by
  by_cases h : scaledBucket1 nb d = bucket0 nb d
  · rw [bucket1_of_eq h, xor_eight_mod_eight]
  · rw [bucket1_of_ne h, scaledBucket1_mod_eight]

theorem bucket1_lt {nb : Nat} (h16 : 16 ∣ nb) (h : 0 < nb) (d : Dword) : bucket1 nb d < nb := by
  by_cases he : scaledBucket1 nb d = bucket0 nb d
  · rw [bucket1_of_eq he]
    exact xor_eight_lt h16 (bucket0_lt h d)
  · rw [bucket1_of_ne he]
    exact scaledBucket1_lt (Nat.dvd_trans (by decide) h16) h d

/-- The number of buckets is whole 1,048,576s (R277), so flipping bit 3 of one names another of them. -/
theorem sixteen_dvd_stackBuckets (s : State) : 16 ∣ stackBuckets s :=
  Nat.dvd_mul_right_of_dvd (by decide) _

/-! ### Where they lie, and what a probe reads -/

theorem chanIn_congr_bucket {b c : Nat} (h : b % 8 = c % 8) (s : State) (n : Nat) : chanIn s n b = chanIn s n c := by
  unfold chanIn
  rw [h]

theorem bucket_of_mem_candSlots {nb k : Nat} {d : Dword} (h : k ∈ candSlots nb d) :
    k / 4 = bucket0 nb d ∨ k / 4 = bucket1 nb d := by
  have four : ∀ {b}, k ∈ (List.range 4).map (4 * b + ·) → k / 4 = b := by
    intro b hb
    obtain ⟨i, hi, rfl⟩ := List.mem_map.mp hb
    have hi4 := List.mem_range.mp hi
    omega
  exact (List.mem_append.mp h).imp four four

/-- A record that a search finds in the Stack lies in a candidate bucket of the digest (R279). -/
theorem bucket_of_locate_stack {s : State} {n k : Nat} {d : Dword} {key : Option (List Byte)} {e : List Byte}
    (h : locate s n d key = .hit ⟨1, k⟩ e) :
    k / 4 = bucket0 (stackBuckets s) d ∨ k / 4 = bucket1 (stackBuckets s) d :=
  bucket_of_mem_candSlots (List.mem_of_find?_eq_some (stackFind_of_locate h))

/-- Settles O60: the second candidate is the scaled one, or the first across bit 3; either keeps the bits that name the
pseudo-channel, and the number of buckets is a multiple of 16. -/
theorem aDigestHasTwoStackBucketsOnOneChannel : Obligations.ADigestHasTwoStackBucketsOnOneChannel := by
  unfold Obligations.ADigestHasTwoStackBucketsOnOneChannel
  rintro s d _ _ _ rfl hpos rfl rfl
  have hchan := bucket1_mod_eight (stackBuckets s) d
  refine ⟨bucket0_eq .., ?formula, bucket0_lt hpos d, bucket1_lt (sixteen_dvd_stackBuckets s) hpos d,
    bucket1_ne_bucket0 _ _, hchan, chanIn_congr_bucket hchan s, fun n key k e => bucket_of_locate_stack⟩
  case formula =>
    rintro _ rfl
    exact ⟨bucket1_of_ne, bucket1_of_eq⟩

end Sys2Proof.Machine
end

section
/-! Proofs.  The rings of the journal and the captures: what takes an item in, keeps it, frees it and exports it (R27, R36, R41,
R327 to R343, R456). -/

namespace Sys2Proof.Machine

/-! ### The rings of the JNL unit -/

@[simp] theorem ringAt_setRing_self (i : Nat) (x : Ring) (s : State) : ringAt (setRing i x s) i = x := tgetD_tput_self ..

/-- A ring reads the same where the rings are the same. -/
theorem ringAt_congr {s t : State} (h : t.jnl.ring = s.jnl.ring) (i : Nat) : ringAt t i = ringAt s i := by
  unfold ringAt; rw [h]

/-- A list read by key is empty once its key has been taken out, and is what has been listed otherwise. -/
theorem tgetD_shorten {α : Type} (m : Table (List α)) (k : Nat) (rest : List α) :
    tgetD (fun _ => []) (if rest = [] then terase m k else tput m k rest) k = rest := by
  split
  next h => rw [tgetD, tfind_terase, if_pos rfl, h]; rfl
  next => exact tgetD_tput_self ..

/-- Between two states the JNL unit has changed in its rings alone. -/
def OnlyRings (s t : State) : Prop := ∃ r, t.jnl = { s.jnl with ring := r }

section
variable {s t u : State}

theorem OnlyRings.of_eq (h : t.jnl = s.jnl) : OnlyRings s t := ⟨s.jnl.ring, h⟩

theorem OnlyRings.trans (h : OnlyRings s t) (k : OnlyRings t u) : OnlyRings s u := by
  obtain ⟨r, hr⟩ := h
  obtain ⟨q, hq⟩ := k
  exact ⟨q, by rw [hq, hr]⟩

theorem OnlyRings.fifo (h : OnlyRings s t) : t.jnl.fifo = s.jnl.fifo := by
  obtain ⟨r, hr⟩ := h
  rw [hr]

theorem OnlyRings.turn (h : OnlyRings s t) : t.jnl.turn = s.jnl.turn := by
  obtain ⟨r, hr⟩ := h
  rw [hr]

theorem OnlyRings.staging (h : OnlyRings s t) : t.jnl.staging = s.jnl.staging := by
  obtain ⟨r, hr⟩ := h
  rw [hr]

end

section
variable (i n : Nat) (s : State)

theorem setRing_onlyRings (x : Ring) : OnlyRings s (setRing i x s) := ⟨_, rfl⟩

theorem fillCheck_onlyRings : OnlyRings s (fillCheck i s) := by
  unfold fillCheck
  dsimp only
  split
  · exact (setRing_onlyRings ..).trans (.of_eq ((raise_same ..).jnl rfl))
  · exact setRing_onlyRings ..

theorem ringPut_onlyRings (b : List Byte) : OnlyRings s (ringPut i n b s) := by
  unfold ringPut
  dsimp only
  split
  · exact (setRing_onlyRings ..).trans (.of_eq ((bump32_same ..).jnl rfl))
  · exact setRing_onlyRings ..

theorem ringFull_onlyRings : OnlyRings s (ringFull i s) := by
  unfold ringFull
  dsimp only
  split
  · exact .of_eq rfl
  · split <;> exact (setRing_onlyRings ..).trans (.of_eq ((raise_same ..).jnl rfl))

theorem ringLose_onlyRings : OnlyRings s (ringLose i n s) :=
  ((setRing_onlyRings ..).trans (.of_eq ((bump32_same ..).jnl rfl))).trans (ringFull_onlyRings ..)

/-- JNL_FILL leaves of a ring all but the mark of its episode (R345). -/
theorem ringAt_fillCheck : ∃ a, ringAt (fillCheck i s) i = { ringAt s i with above := a } := by
  unfold fillCheck
  dsimp only
  split
  · exact ⟨_, (ringAt_congr (congrArg Jnl.ring ((raise_same ..).jnl rfl)) i).trans (ringAt_setRing_self ..)⟩
  · exact ⟨_, ringAt_setRing_self ..⟩

/-- An item goes behind the others of its ring; its bytes do not stand where a block of it is away (R330). -/
theorem ringAt_ringPut (b : List Byte) : ringAt (ringPut i n b s) i = { ringAt s i with
    write := (ringAt s i).write + BitVec.ofNat 64 n
    items := (ringAt s i).items ++ [((ringAt s i).write, n, if placeAway s i n (ringAt s i).write then [] else b)] } := by
  unfold ringPut
  dsimp only
  split
  · exact (ringAt_congr (congrArg Jnl.ring ((bump32_same ..).jnl rfl)) i).trans (ringAt_setRing_self ..)
  · exact ringAt_setRing_self ..

/-- A full ring is told once in its episode, which then stands (R333). -/
theorem ringAt_ringFull : ringAt (ringFull i s) i = { ringAt s i with fullEpisode := true } := by
  unfold ringFull
  dsimp only
  split
  next h => exact h ▸ rfl
  next =>
    split <;> exact (ringAt_congr (congrArg Jnl.ring ((raise_same ..).jnl rfl)) i).trans (ringAt_setRing_self ..)

/-- A loss leaves of a ring all but the gap that it owes and its episode (R333). -/
theorem ringAt_ringLose : ringAt (ringLose i n s) i = { ringAt s i with
    owed := (ringAt s i).owed + 1, owedSize := max (ringAt s i).owedSize n, fullEpisode := true } := by
  have hg : ringAt (oweGap i n s) i =
      { ringAt s i with owed := (ringAt s i).owed + 1, owedSize := max (ringAt s i).owedSize n } :=
    (ringAt_congr (congrArg Jnl.ring ((bump32_same ..).jnl rfl)) i).trans (ringAt_setRing_self ..)
  unfold ringLose
  rw [ringAt_ringFull, hg]

/-- A loss is counted in LOST (R333). -/
theorem counter_ringLose : counter (ringLose i n s) (paddr 24 i 0x10) =
    min (counter s (paddr 24 i 0x10) + 1) (2 ^ 32 - 1) :=
  (counter_congr ((ringFull_same ..).prm rfl) _).trans ((counter_bump ..).trans (if_pos rfl))

end

/-! ### Room in a ring -/

/-- A ring that has room is in no episode of a full one (R333). -/
def episodeOver (i : Nat) (s : State) : State := setRing i { ringAt s i with fullEpisode := false } s

theorem ringAt_episodeOver (i : Nat) (s : State) :
    ringAt (episodeOver i s) i = { ringAt s i with fullEpisode := false } := ringAt_setRing_self ..

theorem episodeOver_onlyRings (i : Nat) (s : State) : OnlyRings s (episodeOver i s) := setRing_onlyRings ..

/-- Into a ring with room, an item goes with its bytes where no block of it is away. -/
theorem ringAt_ringPut_episodeOver {i n : Nat} {s : State} (h : placeAway s i n (ringAt s i).write = false) (b : List Byte) :
    ringAt (ringPut i n b (episodeOver i s)) i = { ringAt s i with
      write := (ringAt s i).write + BitVec.ofNat 64 n
      items := (ringAt s i).items ++ [((ringAt s i).write, n, b)]
      fullEpisode := false } := by
  have h' : placeAway (episodeOver i s) i n (ringAt s i).write = false := h
  rw [ringAt_ringPut, ringAt_episodeOver, h']
  rfl

section
variable {i n : Nat} {s : State}

theorem ringRoom_fits (h : ringUse (ringAt s i) + n ≤ ringSize s i) :
    ringRoom i n s = (episodeOver i s, true) := by
  unfold ringRoom
  dsimp only
  rw [if_neg (by omega), if_pos h]
  rfl

/-- Under the policy STOP a ring without room takes nothing (R333). -/
theorem ringRoom_stops (h : ringSize s i < ringUse (ringAt s i) + n) (ho : overwriting s i = false) :
    ringRoom i n s = (s, false) := by
  unfold ringRoom
  dsimp only
  split
  · rfl
  · rw [if_neg (by omega), ho]
    rfl

end

/-! ### The shares of the channels -/

/-- Between two states nothing but what the channels have served has changed. -/
def OnlyShares (s t : State) : Prop := ∃ c, t = s.setJnl { s.jnl with chan := c }

theorem OnlyShares.rfl' (s : State) : OnlyShares s s := ⟨s.jnl.chan, rfl⟩

theorem OnlyShares.trans {s t u : State} (h : OnlyShares s t) (k : OnlyShares t u) : OnlyShares s u := by
  obtain ⟨c, rfl⟩ := h
  obtain ⟨d, rfl⟩ := k
  exact ⟨d, rfl⟩

section
variable {s t : State} (h : OnlyShares s t)
include h

theorem OnlyShares.ringAt (i : Nat) : ringAt t i = Machine.ringAt s i := by
  obtain ⟨c, rfl⟩ := h
  rfl

theorem OnlyShares.fifo : t.jnl.fifo = s.jnl.fifo := by
  obtain ⟨c, rfl⟩ := h
  rfl

theorem OnlyShares.turn : t.jnl.turn = s.jnl.turn := by
  obtain ⟨c, rfl⟩ := h
  rfl

theorem OnlyShares.staging : t.jnl.staging = s.jnl.staging := by
  obtain ⟨c, rfl⟩ := h
  rfl

theorem OnlyShares.counter (a : Nat) : counter t a = Machine.counter s a := by
  obtain ⟨c, rfl⟩ := h
  rfl

end

theorem chargeBlocks_onlyShares {use : Nat → State → State} (hu : ∀ c s, OnlyShares s (use c s)) (i : Nat) (a b : Dword)
    (s : State) : OnlyShares s (chargeBlocks use i a b s) := by
  unfold chargeBlocks
  induction blocksBetween i a b generalizing s with
  | nil => exact .rfl' s
  | cons p l ih =>
    refine .trans ?_ (ih _)
    dsimp only
    split
    · split
      · exact hu ..
      · exact .rfl' s
    · exact .rfl' s

theorem chargeBlocks_self (use : Nat → State → State) (i : Nat) (a : Dword) (s : State) :
    chargeBlocks use i a a s = s := by
  unfold chargeBlocks blocksBetween
  rw [if_pos rfl]
  rfl

/-! ### JNL_BLOCK_WRITE -/

/-- The item at the head of FIFO `n` has been taken, `rest` stands behind it, and the turn is the FIFO's (R338). -/
def fifoTaken (n : Nat) (rest : List (List Byte)) (s : State) : State := s.setJnl { s.jnl with
  fifo := if rest = [] then terase s.jnl.fifo n else tput s.jnl.fifo n rest, turn := n }

theorem fifo_fifoTaken (n : Nat) (rest : List (List Byte)) (s : State) :
    tgetD (fun _ => []) (fifoTaken n rest s).jnl.fifo n = rest := tgetD_shorten ..

section
variable {s : State}

/-- Without an item there is no block, and no share is drawn on. -/
theorem jnlBlockWrite_none (h : nextFifo s = none) : jnlBlockWrite s = s := by
  have hb : journalBlock s = s := by
    unfold journalBlock
    rw [h]
  unfold jnlBlockWrite
  rw [hb]
  dsimp only
  split
  · rw [chargeBlocks_self, ite_self]
  · rfl

theorem jnlBlockWrite_waits {c : Nat} (hc : blockChan s 0 (ringAt s 0).write = some c) (hr : jnlRoom s c = false) :
    jnlBlockWrite s = s := by
  unfold jnlBlockWrite
  dsimp only
  rw [hc]
  dsimp only
  rw [if_pos (by simp [hr])]

/-- Within the journal share a block is written, and the shares pay for it (R41). -/
theorem jnlBlockWrite_charges (h : ∀ c, blockChan s 0 (ringAt s 0).write = some c → jnlRoom s c = true) :
    OnlyShares (journalBlock s) (jnlBlockWrite s) := by
  unfold jnlBlockWrite
  dsimp only
  split
  next c hc =>
    rw [if_neg (by simp [h c hc])]
    exact chargeBlocks_onlyShares (fun _ _ => ⟨_, rfl⟩) ..
  next => exact .rfl' _

section
variable {n : Nat} {b : List Byte} {rest : List (List Byte)} (hf : tgetD (fun _ => []) s.jnl.fifo n = b :: rest)
  (ho : (ringAt s 0).owed = 0)
include hf

/-- An item of two entries fills a block by itself (R338). -/
theorem journalBlock_whole (hn : nextFifo s = some n) (hb : b.length = 64) : journalBlock s = journalItem n s := by
  unfold journalBlock
  rw [hn]
  dsimp only
  rw [if_pos (by rw [hf]; exact Nat.le_of_eq hb.symm)]

include ho

/-- With room, an item goes behind the others, where no loss is owed (R338). -/
theorem journalItem_fits (hr : ringUse (ringAt s 0) + b.length / 32 ≤ ringSize s 0) :
    journalItem n s = fillCheck 0 (ringPut 0 (b.length / 32) b (episodeOver 0 (fifoTaken n rest s))) := by
  have ho' : (ringAt (fifoTaken n rest s) 0).owed = 0 := ho
  have hg : gapRoom (fifoTaken n rest s) (b.length / 32) = b.length / 32 := if_pos ho
  have hroom := ringRoom_fits (s := fifoTaken n rest s) hr
  rw [← hg] at hroom
  unfold journalItem
  rw [hf]
  unfold fifoTaken at *
  dsimp only
  rw [hroom, ho']
  exact if_neg Bool.false_ne_true

/-- Without room under STOP, an item is lost (R333). -/
theorem journalItem_stops (hr : ringSize s 0 < ringUse (ringAt s 0) + b.length / 32) (hp : overwriting s 0 = false) :
    journalItem n s = ringLose 0 (b.length / 32) (fifoTaken n rest s) := by
  have hg : gapRoom (fifoTaken n rest s) (b.length / 32) = b.length / 32 := if_pos ho
  have hroom := ringRoom_stops (s := fifoTaken n rest s) hr hp
  rw [← hg] at hroom
  unfold journalItem
  rw [hf]
  unfold fifoTaken at *
  dsimp only
  rw [hroom]
  exact if_pos rfl

end

section
variable {n : Nat} {b : List Byte} {rest : List (List Byte)}
  (hroom : ∀ c, blockChan s 0 (ringAt s 0).write = some c → jnlRoom s c = true) (hn : nextFifo s = some n)
  (hf : tgetD (fun _ => []) s.jnl.fifo n = b :: rest) (hb : b.length = 64) (ho : (ringAt s 0).owed = 0)
include hroom hn hf hb ho

/-- A block of one item goes into the journal where it has room and a channel (R327, R338). -/
theorem jnlBlockWrite_takes (hr : ringUse (ringAt s 0) + 2 ≤ ringSize s 0) (ha : placeAway s 0 2 (ringAt s 0).write = false) :
    tgetD (fun _ => []) (jnlBlockWrite s).jnl.fifo n = rest ∧ (jnlBlockWrite s).jnl.turn = n ∧
      (ringAt (jnlBlockWrite s) 0).items = (ringAt s 0).items ++ [((ringAt s 0).write, 2, b)] ∧
      (ringAt (jnlBlockWrite s) 0).write = (ringAt s 0).write + 2 ∧
      (ringAt (jnlBlockWrite s) 0).read = (ringAt s 0).read := by
  have hc := jnlBlockWrite_charges hroom
  have hk : b.length / 32 = 2 := by omega
  have ha' : placeAway (fifoTaken n rest s) 0 2 (ringAt (fifoTaken n rest s) 0).write = false := ha
  rw [journalBlock_whole hf hn hb, journalItem_fits hf ho (hk ▸ hr), hk] at hc
  have hkeep := ((episodeOver_onlyRings 0 (fifoTaken n rest s)).trans (ringPut_onlyRings 0 2 _ b)).trans
    (fillCheck_onlyRings 0 _)
  obtain ⟨a, hring⟩ := ringAt_fillCheck 0 (ringPut 0 2 b (episodeOver 0 (fifoTaken n rest s)))
  rw [← hc.ringAt, ringAt_ringPut_episodeOver ha'] at hring
  rw [hring, hc.fifo, hc.turn, hkeep.fifo, hkeep.turn]
  exact ⟨fifo_fifoTaken .., rfl, rfl, rfl, rfl⟩

/-- Under STOP without room the item is lost, counted and owed (R333). -/
theorem jnlBlockWrite_loses (hr : ringSize s 0 < ringUse (ringAt s 0) + 2) (hp : overwriting s 0 = false) :
    tgetD (fun _ => []) (jnlBlockWrite s).jnl.fifo n = rest ∧
      (ringAt (jnlBlockWrite s) 0).items = (ringAt s 0).items ∧
      (ringAt (jnlBlockWrite s) 0).write = (ringAt s 0).write ∧ (ringAt (jnlBlockWrite s) 0).owed = 1 ∧
      counter (jnlBlockWrite s) (paddr 24 0 0x10) = min (counter s (paddr 24 0 0x10) + 1) (2 ^ 32 - 1) := by
  have hc := jnlBlockWrite_charges hroom
  have hk : b.length / 32 = 2 := by omega
  rw [journalBlock_whole hf hn hb, journalItem_stops hf ho (hk ▸ hr) hp, hk] at hc
  rw [hc.fifo, hc.ringAt, hc.counter, (ringLose_onlyRings ..).fifo, ringAt_ringLose, counter_ringLose]
  exact ⟨fifo_fifoTaken .., rfl, rfl, congrArg (· + 1) ho, rfl⟩

end
end

/-! ### CAPTURE_WRITE -/

/-- The oldest staged record of a die has been taken, and `rest` stands behind it (R342). -/
def stagingTaken (die : Nat) (rest : List (Nat × List Byte)) (s : State) : State := s.setJnl { s.jnl with
  staging := if rest = [] then terase s.jnl.staging die else tput s.jnl.staging die rest }

theorem staging_stagingTaken (die : Nat) (rest : List (Nat × List Byte)) (s : State) :
    tgetD (fun _ => []) (stagingTaken die rest s).jnl.staging die = rest := tgetD_shorten ..

/-- The gap that a ring owes has been told (R333). -/
def gapTold (i : Nat) (s : State) : State := setRing i { ringAt s i with owed := 0, owedSize := 0 } s

theorem ringAt_gapTold (i : Nat) (s : State) : ringAt (gapTold i s) i = { ringAt s i with owed := 0, owedSize := 0 } :=
  ringAt_setRing_self ..

theorem gapTold_onlyRings (i : Nat) (s : State) : OnlyRings s (gapTold i s) := setRing_onlyRings ..

section
variable {d : Nat} {s : State}

theorem captureWrite_none (h : tgetD (fun _ => []) s.jnl.staging d = []) : captureWrite d s = s := by
  unfold captureWrite
  rw [h]

section
variable {r : Nat} {b : List Byte} {rest : List (Nat × List Byte)}
  (hd : tgetD (fun _ => []) s.jnl.staging d = (r, b) :: rest)
include hd

/-- Within the capture shares a record is written, and the shares pay for its blocks (R41). -/
theorem captureWrite_charges (h : ∀ j c, j < b.length / 64 →
      blockChan s (1 + r) ((ringAt s (1 + r)).write + BitVec.ofNat 64 j) = some c → capRoom s c = true) :
    OnlyShares (captureNext d s) (captureWrite d s) := by
  unfold captureWrite
  rw [hd]
  dsimp only
  rw [if_neg]
  · exact chargeBlocks_onlyShares (fun _ _ => ⟨_, rfl⟩) ..
  · rw [Bool.not_eq_true, List.any_eq_false]
    intro j hj
    have hlt := List.mem_range.mp hj
    split
    next c hc => simp [h j c (by omega) hc]
    next => exact Bool.false_ne_true

/-- With room, a record goes behind the others as it was staged, where no loss is owed (R342). -/
theorem captureNext_fits (hon : ringOn s (1 + r) = true) (ho : (ringAt s (1 + r)).owed = 0)
    (hr : ringUse (ringAt s (1 + r)) + b.length / 64 ≤ ringSize s (1 + r)) : captureNext d s = fillCheck (1 + r)
      (gapTold (1 + r) (ringPut (1 + r) (b.length / 64) b (episodeOver (1 + r) (stagingTaken d rest s)))) := by
  have hroom := ringRoom_fits (s := stagingTaken d rest s) hr
  have hon' : ringOn (stagingTaken d rest s) (1 + r) = true := hon
  have ho' : (ringAt (episodeOver (1 + r) (stagingTaken d rest s)) (1 + r)).owed = 0 := by
    rw [ringAt_episodeOver]
    exact ho
  unfold captureNext
  rw [hd]
  unfold stagingTaken at *
  dsimp only
  rw [hroom, hon', ho']
  exact (if_neg Bool.false_ne_true).trans (if_neg Bool.false_ne_true)

/-- A record goes into its ring where that is on, has room, its blocks' channels and nothing owed (R342). -/
theorem captureWrite_takes (hon : ringOn s (1 + r) = true) (ho : (ringAt s (1 + r)).owed = 0)
    (hr : ringUse (ringAt s (1 + r)) + b.length / 64 ≤ ringSize s (1 + r))
    (ha : placeAway s (1 + r) (b.length / 64) (ringAt s (1 + r)).write = false)
    (h : ∀ j c, j < b.length / 64 → blockChan s (1 + r) ((ringAt s (1 + r)).write + BitVec.ofNat 64 j) = some c →
      capRoom s c = true) :
    tgetD (fun _ => []) (captureWrite d s).jnl.staging d = rest ∧
      (ringAt (captureWrite d s) (1 + r)).items =
        (ringAt s (1 + r)).items ++ [((ringAt s (1 + r)).write, b.length / 64, b)] ∧
      (ringAt (captureWrite d s) (1 + r)).write = (ringAt s (1 + r)).write + BitVec.ofNat 64 (b.length / 64) := by
  have hc := captureWrite_charges hd h
  have ha' : placeAway (stagingTaken d rest s) (1 + r) (b.length / 64) (ringAt (stagingTaken d rest s) (1 + r)).write = false :=
    ha
  rw [captureNext_fits hd hon ho hr] at hc
  have hkeep := (((episodeOver_onlyRings (1 + r) (stagingTaken d rest s)).trans
    (ringPut_onlyRings (1 + r) (b.length / 64) _ b)).trans (gapTold_onlyRings (1 + r) _)).trans
    (fillCheck_onlyRings (1 + r) _)
  obtain ⟨a, hring⟩ := ringAt_fillCheck (1 + r)
    (gapTold (1 + r) (ringPut (1 + r) (b.length / 64) b (episodeOver (1 + r) (stagingTaken d rest s))))
  rw [← hc.ringAt, ringAt_gapTold, ringAt_ringPut_episodeOver ha'] at hring
  rw [hring, hc.staging, hkeep.staging]
  exact ⟨staging_stagingTaken .., rfl, rfl⟩

end
end

/-! ### JNL_CONSUMED_WRITE and JNL_REGION_WRITE -/

section
variable {i : Fin 9} {p : Dword} {s : State}

/-- A position that R332 refuses changes nothing: a bound queue, one that is not held, or inside a capture record. -/
theorem execJnlConsumedWrite_refused (h : (ringAt s i).queue ≠ none ∨ ringUse (ringAt s i) < (p - (ringAt s i).read).toNat ∨
    (i.val ≠ 0 ∧ onBoundary (ringAt s i) p = false)) : exec (.jnlConsumedWrite i p) s = .next s := by
  have hc : ∃ e, consume i p s = .error e := by
    unfold consume
    dsimp only
    split
    · exact ⟨_, rfl⟩
    next hq =>
      split
      · exact ⟨_, rfl⟩
      next hu =>
        obtain h | h | ⟨h0, hb⟩ := h
        · exact absurd (Option.isSome_iff_ne_none.mpr h) hq
        · exact absurd h hu
        · exact ⟨_, if_pos ⟨h0, by simp [hb]⟩⟩
  obtain ⟨e, he⟩ := hc
  show execJnlConsumedWrite i p s = _
  unfold execJnlConsumedWrite
  rw [he]

/-- A position that R332 takes becomes the read count, and the items below it are free. -/
theorem execJnlConsumedWrite_takes (hq : (ringAt s i).queue = none) (hu : (p - (ringAt s i).read).toNat ≤ ringUse (ringAt s i))
    (hb : i.val = 0 ∨ onBoundary (ringAt s i) p = true) : ∃ t, exec (.jnlConsumedWrite i p) s = .next t ∧
      (ringAt t i).read = p ∧ (ringAt t i).write = (ringAt s i).write ∧
      (ringAt t i).items = (ringAt s i).items.filter (fun e => decide (0 ≤ (e.1 - p).toInt)) := by
  have hc : consume i p s = .ok (fillCheck i (readTo i p s)) := by
    unfold consume
    dsimp only
    rw [if_neg (by simp [hq]), if_neg (by omega), if_neg]
    rintro ⟨h0, hn⟩
    obtain h | h := hb
    · exact h0 h
    · simp [h] at hn
  obtain ⟨a, hring⟩ := ringAt_fillCheck i (readTo i p s)
  rw [readTo, ringAt_setRing_self] at hring
  refine ⟨fillCheck i (readTo i p s), ?_, ?_⟩
  · show execJnlConsumedWrite i p s = _
    unfold execJnlConsumedWrite
    rw [hc]
  · rw [readTo, hring]
    exact ⟨rfl, rfl, rfl⟩

end

section
variable {i : Fin 10} {base size : Half} {s : State}

theorem execJnlRegionWrite_refused (h : regionsFit s i base.toNat size.toNat = false) :
    exec (.jnlRegionWrite i base size) s = .next s := by
  show execJnlRegionWrite i base size s = _
  unfold execJnlRegionWrite
  rw [h]
  rfl

/-- A region that fits is set, and its ring starts anew with the queue that it had (R327). -/
theorem execJnlRegionWrite_sets (h : regionsFit s i base.toNat size.toNat = true) :
    ∃ t, exec (.jnlRegionWrite i base size) s = .next t ∧ reg t 24 i 2 = BitVec.ofNat 32 base.toNat ∧
      reg t 24 i 1 = BitVec.ofNat 32 size.toNat ∧ ringAt t i = { queue := (ringAt s i).queue } := by
  have hw : paddr 24 i 1 ≠ paddr 24 i 2 := by
    unfold paddr
    omega
  refine ⟨emptyRing i (setReg 24 i 2 (BitVec.ofNat 32 base.toNat) (setReg 24 i 1 (BitVec.ofNat 32 size.toNat) s)), ?_,
    reg_setReg_self .., (reg_setReg_ne _ _ hw).trans (reg_setReg_self ..), ringAt_setRing_self ..⟩
  show execJnlRegionWrite i base size s = _
  unfold execJnlRegionWrite
  rw [h]
  rfl

end

/-! ### The buffers of EXPORT_FILL and EXPORT_LINGER_EXPIRY -/

/-- A queue reads the same where the queues are the same. -/
theorem hqAt_congr {s t : State} (h : t.host.queue = s.host.queue) (q : Nat) : hqAt t q = hqAt s q := by
  unfold hqAt; rw [h]

/-- A request over a queue pair leaves the queues. -/
theorem issueReq_queue (q : Nat) (r : OutReq) (s : State) : (issueReq q r s).host.queue = s.host.queue := by
  unfold issueReq
  dsimp only
  split <;> rfl

theorem hostWrite_queue (k off : Nat) (b : List Byte) (m : Option Word) (p : Purpose) (s : State) :
    (hostWrite k off b m p s).1.host.queue = s.host.queue := by
  unfold hostWrite
  split
  · rfl
  · exact issueReq_queue ..

/-- The jobs of a queue after one of them has changed. -/
theorem hqAt_modJob (q : Nat) (pos : Word) (f : Job → Job) (s : State) : hqAt (modJob q pos f s) q =
    { hqAt s q with jobs := (hqAt s q).jobs.map (fun j => if j.pos = pos then f j else j) } := tgetD_tput_self ..

/-- The buffer that a queue fills is the same one after a change that does not end a job. -/
theorem postedJob_modJob {q : Nat} {s : State} {j : Job} {f : Job → Job} (hf : ∀ k, (f k).done = k.done)
    (hj : postedJob (hqAt s q) = some j) : postedJob (hqAt (modJob q j.pos f s) q) = some (f j) := by
  have hp : (fun k : Job => !k.done) ∘ (fun k => if k.pos = j.pos then f k else k) = fun k => !k.done := by
    funext k
    by_cases h : k.pos = j.pos <;> simp [h, hf]
  unfold postedJob at *
  rw [hqAt_modJob, List.find?_map, hp, hj]
  exact congrArg some (if_pos rfl)

section
variable {q : Fin 1024} {s : State}

theorem execExportFill_unbound (h : (hqAt s q).exports = none) (ue : Bool) : exec (.exportFill q ue) s = .next s := by
  show Host.Outcome.next (exportFill q ue s) = _
  unfold exportFill
  dsimp only
  rw [h]

theorem execExportLingerExpiry_unbound (h : (hqAt s q).exports = none) : exec (.exportLingerExpiry q) s = .next s := by
  show Host.Outcome.next (exportLinger q s) = _
  unfold exportLinger
  dsimp only
  rw [h]

end

/-- A buffer has taken an item of the bytes `b` that stands between two positions of its ring (R456). -/
def itemPlaced (b : List Byte) (p next : Dword) (t : Tick) (j : Job) : Job := { j with
  begun := true, items := j.items + 1, fill := j.fill + b.length, first := if j.items = 0 then p else j.first
  next := next, since := if j.items = 0 then t else j.since }

/-- The buffers hold a ring's items up to the position `next`: what was overwritten before it is forgotten, and the shares of the
channels pay for the reads from `p` (R41, R343). -/
def exportPassed (i : Nat) (p next : Dword) (s : State) : State := chargeBlocks useExp i p next
  (setRing i { ringAt s i with gone := (ringAt s i).gone.filter (fun g => decide (0 ≤ (g - next).toInt)) } s)

theorem exportPassed_queue (i : Nat) (p next : Dword) (s : State) :
    (exportPassed i p next s).host.queue = s.host.queue :=
  congrArg HostIf.queue ((chargeBlocks_same useExp i p next useExp_same _).host rfl)

section
variable {q i : Nat} {s : State} {j : Job} (hx : (hqAt s q).exports = some i) (hj : postedJob (hqAt s q) = some j)

section
include hx hj

/-- Without an item, or with the shares of its channels spent, nothing is placed (R41, R343). -/
theorem exportFill_waits {ue : Bool} (h : ∀ b p next, exportItem s (hqAt s q) i ue = some (b, p, next) →
    exportRoom s i p next = false) : exportFill q ue s = s := by
  unfold exportFill
  dsimp only
  rw [hx, hj]
  dsimp only
  split
  · rfl
  · split
    · rfl
    next b p next hi => exact if_pos (by simp [h b p next hi])

theorem exportLinger_waits (h : ticksSince s.tick.count j.since < regField s 18 0 0x200 15 0) : exportLinger q s = s := by
  unfold exportLinger
  dsimp only
  rw [hx, hj]
  exact if_pos (.inr (.inr (.inr h)))

variable (hdma : inService s 18 0 = true)
include hdma

/-- With the ring drained and its time over, a buffer with items ends (R456, R457). -/
theorem exportLinger_ends (h : regField s 18 0 0x200 15 0 ≤ ticksSince s.tick.count j.since) (h0 : j.items ≠ 0)
    (hp : exportPos s (hqAt s q) i = (ringAt s i).write) : exportLinger q s = exportDone q j s := by
  unfold exportLinger
  dsimp only
  rw [hx, hj]
  refine if_neg ?_
  simp only [hdma, hp, h0, Bool.not_true, Bool.false_eq_true, ne_eq, not_true_eq_false, false_or]
  omega

/-- The next item goes into the buffer where it fits and the host write starts (R343, R456). -/
theorem exportFill_places (hjnl : inService s 24 0 = true) (hst : (hqAt s q).st = 1) (hbegun : j.begun = true)
    {b : List Byte} {p next : Dword} {e : List Byte} (hi : exportItem s (hqAt s q) i false = some (b, p, next))
    (hroom : exportRoom s i p next = true) (he : e = j.entries.headD []) (hfit : j.fill + b.length ≤ rd e 0xC 4)
    (hw : (hostWrite (rd e 8 2) (rd e 0x10 8 + j.fill) b none (.data q j.pos) s).2 = true) :
    exportFill q false s = modJob q j.pos (itemPlaced b p next s.tick.count)
      (exportPassed i p next (hostWrite (rd e 8 2) (rd e 0x10 8 + j.fill) b none (.data q j.pos) s).1) := by
  subst he
  unfold exportFill
  dsimp only
  rw [hx, hj]
  dsimp only
  rw [if_neg (by simp [hst, hdma, hjnl, hbegun]), hi]
  dsimp only
  rw [hroom, hw]
  exact (if_neg Bool.false_ne_true).trans ((if_neg (by omega)).trans (if_neg Bool.false_ne_true))

end

include hj in
/-- The buffer that ends tells its items, its bytes and the position of its first (R457). -/
theorem exportDone_spec : (∃ k ∈ (hqAt (exportDone q j s) q).jobs, k.pos = j.pos ∧ k.done = true ∧
    k.detail = le 4 j.items ++ le 4 j.fill ++ le 8 j.first.toNat) ∧ (exportDone q j s).jnl = s.jnl := by
  refine ⟨⟨{ j with done := true, detail := le 4 j.items ++ le 4 j.fill ++ le 8 j.first.toNat }, ?_, rfl, rfl, rfl⟩, rfl⟩
  rw [exportDone, hqAt_modJob]
  exact List.mem_map.mpr ⟨j, List.mem_of_find?_eq_some hj, if_pos rfl⟩

end

/-- Settles O48: each ring write, position, region and buffer step by the case that the state puts it in. -/
theorem ringsTakeKeepAndExportItems : Obligations.RingsTakeKeepAndExportItems := by
  unfold Obligations.RingsTakeKeepAndExportItems
  intro s
  refine ⟨fun h => congrArg Host.Outcome.next (jnlBlockWrite_none h),
    fun c hc hr => congrArg Host.Outcome.next (jnlBlockWrite_waits hc hr), ?block, ?capture,
    fun i p => ⟨execJnlConsumedWrite_refused, execJnlConsumedWrite_takes⟩,
    fun i base size => ⟨execJnlRegionWrite_refused, execJnlRegionWrite_sets⟩,
    fun q => ⟨execExportFill_unbound, execExportLingerExpiry_unbound, ?exports⟩⟩
  case block =>
    intro n b rest hroom hn hf hb ho
    exact ⟨fun hr ha => ⟨_, rfl, jnlBlockWrite_takes hroom hn hf hb ho hr ha⟩,
      fun hr hp => ⟨_, rfl, jnlBlockWrite_loses hroom hn hf hb ho hr hp⟩⟩
  case capture =>
    intro d
    exact ⟨fun h => congrArg Host.Outcome.next (captureWrite_none h),
      fun r b rest hd hon ho hr ha hroom => ⟨_, rfl, captureWrite_takes hd hon ho hr ha hroom⟩⟩
  case exports =>
    intro i j hx hj hdma hjnl
    refine ⟨fun ue _ hi => ?none, fun ue b p next _ hi hr => ?noRoom, ?placed,
      fun h => congrArg Host.Outcome.next (exportLinger_waits hx hj h), ?ended⟩
    case none =>
      exact congrArg Host.Outcome.next (exportFill_waits hx hj fun b p next h => absurd (hi.symm.trans h) (by simp))
    case noRoom =>
      refine congrArg Host.Outcome.next (exportFill_waits hx hj fun b' p' next' h => ?_)
      obtain ⟨-, rfl, rfl⟩ : b = b' ∧ p = p' ∧ next = next' := by simpa using hi.symm.trans h
      exact hr
    case placed =>
      intro b p next e hst hbegun hi hroom he hfit hw
      have hq := hqAt_congr ((exportPassed_queue i p next _).trans
        (hostWrite_queue (rd e 8 2) (rd e 0x10 8 + j.fill) b none (.data q j.pos) s)) q
      exact ⟨_, _, congrArg Host.Outcome.next (exportFill_places hx hj hdma hjnl hst hbegun hi hroom he hfit hw),
        postedJob_modJob (fun _ => rfl) ((congrArg postedJob hq).trans hj), rfl, rfl, rfl, rfl⟩
    case ended =>
      intro h h0 hp
      exact ⟨_, congrArg Host.Outcome.next (exportLinger_ends hx hj hdma h h0 hp), exportDone_spec hj⟩

end Sys2Proof.Machine
end

section
/-! Proofs.  What every step does and keeps: the front command runs, each part outside its list stands, and the invariants of
the time domains and of the memory windows survive (R384, R433, R463). -/

namespace Sys2Proof.Machine

/-- Every command keeps the canonical form of the two windows: each meaning's footprint lemma says so, through every RDMA write
and DMA transfer in it. -/
theorem exec_winOk {c : Instr} {s t : State} (e : exec c s = .next t) : WinOk s → WinOk t :=
  match c with
  | .resetAssert _ => (execResetAssert_same _ _ _ e).win
  | .resetRelease _ _ => (execResetRelease_same _ _ _ _ e).win
  | .kindlingStepDone _ _ => (execKindlingStepDone_same _ _ _ _ e).win
  | .trefLockRetry _ => (execTrefLockRetry_same _ _ _ e).win
  | .tickBoundary _ => (execTickBoundary_same _ _ _ e).win
  | .tickOverrun _ => (execTickOverrun_same _ _ _ e).win
  | .createExpired _ => (execCreateExpired_same _ _ _ e).win
  | .holdExpired _ => (execHoldExpired_same _ _ _ e).win
  | .zaluaTickChecks _ => (execZaluaTickChecks_same _ _ _ e).win
  | .frcCheckFail _ _ => (execFrcCheckFail_same _ _ _ _ e).win
  | .trefAlarm _ _ => (execTrefAlarm_same _ _ _ _ e).win
  | .corePllUnlock _ => (execCorePllUnlock_same _ _ _ e).win
  | .supplyFault _ _ => (execSupplyFault_same _ _ _ _ e).win
  | .lockstepMismatch => (execLockstepMismatch_same _ _ e).win
  | .islandSilent _ => (execIslandSilent_same _ _ _ e).win
  | .dieLinkFail _ => (execDieLinkFail_same _ _ _ e).win
  | .safeReqNLow => (execSafeReqNLow_same _ _ e).win
  | .safeReqNHigh => (execSafeReqNHigh_same _ _ e).win
  | .modeQuery _ => (execModeQuery_same _ _ _ e).win
  | .modeSet _ => (execModeSet_same _ _ _ e).win
  | .resume _ => (execResume_same _ _ _ e).win
  | .safeEnter _ => (execSafeEnter_same _ _ _ e).win
  | .unitOut _ => (execUnitOut_same _ _ _ e).win
  | .unitRejoin _ => (execUnitRejoin_same _ _ _ e).win
  | .testClearDone => (execTestClearDone_same _ _ e).win
  | .rejoinComplete _ _ => (execRejoinComplete_same _ _ _ _ e).win
  | .calRead _ => (execCalRead_same _ _ _ e).win
  | .calWrite _ => (execCalWrite_same _ _ _ e).win
  | .calRun _ => (execCalRun_same _ _ _ e).win
  | .calRunDone _ => (execCalRunDone_same _ _ _ e).win
  | .calStored _ => (execCalStored_same _ _ _ e).win
  | .fwStage _ => (execFwStage_same _ _ _ e).win
  | .fwQuery _ => (execFwQuery_same _ _ _ e).win
  | .fwStaged => (execFwStaged_same _ _ e).win
  | .portEnable _ => (execPortEnable_same _ _ _ e).win
  | .portDisable _ _ => (execPortDisable_same _ _ _ _ e).win
  | .pgModeWrite _ _ _ => (execPgModeWrite_same _ _ _ _ _ e).win
  | .anResolved _ _ _ => (execAnResolved_same _ _ _ _ _ e).win
  | .anNoCommon _ _ => (execAnNoCommon_same _ _ _ _ e).win
  | .trainDone _ => (execTrainDone_same _ _ _ e).win
  | .trainTimeout _ => (execTrainTimeout_same _ _ _ e).win
  | .linkUp _ _ => (execLinkUp_same _ _ _ _ e).win
  | .alignTimeout _ => (execAlignTimeout_same _ _ _ e).win
  | .linkDown _ _ _ => (execLinkDown_same _ _ _ _ _ e).win
  | .remoteFault _ => (execRemoteFault_same _ _ _ e).win
  | .remoteFaultClear _ => (execRemoteFaultClear_same _ _ _ e).win
  | .fecDegraded _ _ _ _ => (execFecDegraded_same _ _ _ _ _ _ e).win
  | .laneIdleExitFail _ => (execLaneIdleExitFail_same _ _ _ e).win
  | .pauseFrameRx _ _ _ _ _ => (execPauseFrameRx_same _ _ _ _ _ _ _ e).win
  | .xoffRepeat _ _ _ => (execXoffRepeat_same _ _ _ _ _ e).win
  | .portDownFlush _ => (execPortDownFlush_same _ _ _ e).win
  | .frameRx _ _ => (execFrameRx_same _ _ _ _ e).win
  | .pipelinePass _ _ _ => (execPipelinePass_same _ _ _ _ _ e).win
  | .flowOpAccept _ _ _ => (execFlowOpAccept_same _ _ _ _ _ e).win
  | .stackProbeReply _ _ _ => (execStackProbeReply_same _ _ _ _ _ e).win
  | .coldSummaryRead _ _ _ => (execColdSummaryRead_same _ _ _ _ _ e).win
  | .turfCandidateRead _ _ _ => (execTurfCandidateRead_same _ _ _ _ _ e).win
  | .promotionGrant _ => (execPromotionGrant_same _ _ _ e).win
  | .createGrant _ => (execCreateGrant_same _ _ _ e).win
  | .flowOpExecute _ _ => (execFlowOpExecute_same _ _ _ _ e).win
  | .puntTimeout _ => (execPuntTimeout_same _ _ _ e).win
  | .flowResultArrive _ _ _ => (execFlowResultArrive_same _ _ _ _ _ e).win
  | .flowResultTimeout _ => (execFlowResultTimeout_same _ _ _ e).win
  | .cellRequest _ _ _ _ _ => (execCellRequest_same _ _ _ _ _ _ _ e).win
  | .frameTxStart _ _ => (execFrameTxStart_same _ _ _ _ e).win
  | .frameTxDone _ _ => (execFrameTxDone_same _ _ _ _ e).win
  | .txUnderrun _ => (execTxUnderrun_same _ _ _ e).win
  | .egrClassDue _ _ => (execEgrClassDue_same _ _ _ _ e).win
  | .egrStall _ _ => (execEgrStall_same _ _ _ _ e).win
  | .fwdMaintTick _ => (execFwdMaintTick_same _ _ _ e).win
  | .rehashDone _ => (execRehashDone_same _ _ _ e).win
  | .rbMaintTick _ _ => (execRbMaintTick_same _ _ _ _ e).win
  | .ruleOpDone _ => (execRuleOpDone_same _ _ _ e).win
  | .ruleWrite _ => (execRuleWrite_same _ _ _ e).win
  | .ruleInsert _ => (execRuleInsert_same _ _ _ e).win
  | .ruleDelete _ => (execRuleDelete_same _ _ _ e).win
  | .ruleRead _ => (execRuleRead_same _ _ _ e).win
  | .bankClear _ => (execBankClear_same _ _ _ e).win
  | .rbWidthWrite _ _ => (execRbWidthWrite_same _ _ _ _ e).win
  | .rbPairWrite _ _ => (execRbPairWrite_same _ _ _ _ e).win
  | .graphLoad _ => (execGraphLoad_same _ _ _ e).win
  | .graphSwitch _ => (execGraphSwitch_same _ _ _ e).win
  | .profileLoad _ => (execProfileLoad_same _ _ _ e).win
  | .profileSwitch _ => (execProfileSwitch_same _ _ _ e).win
  | .bankmaskCommit _ => (execBankmaskCommit_same _ _ _ e).win
  | .parseErrRate _ => (execParseErrRate_same _ _ _ e).win
  | .tableWrite _ => (execTableWrite_same _ _ _ e).win
  | .tableDelete _ => (execTableDelete_same _ _ _ e).win
  | .tableRead _ => (execTableRead_same _ _ _ e).win
  | .l2Flush _ => (execL2Flush_same _ _ _ e).win
  | .rehash _ => (execRehash_same _ _ _ e).win
  | .tableOpDone => (execTableOpDone_same _ _ e).win
  | .flowRead _ => (execFlowRead_same _ _ _ e).win
  | .flowWrite _ => (execFlowWrite_same _ _ _ e).win
  | .flowModify _ => (execFlowModify_same _ _ _ e).win
  | .flowDelete _ => (execFlowDelete_same _ _ _ e).win
  | .flowSweep _ => (execFlowSweep_same _ _ _ e).win
  | .flowPuntRelease _ => (execFlowPuntRelease_same _ _ _ e).win
  | .flowRepin _ => (execFlowRepin_same _ _ _ e).win
  | .turfEvacuate _ => (execTurfEvacuate_same _ _ _ e).win
  | .sweepTick _ => (execSweepTick_same _ _ _ e).win
  | .flowSweepDone => (execFlowSweepDone_same _ _ e).win
  | .flowRepinDone => (execFlowRepinDone_same _ _ e).win
  | .turfEvacuateDone => (execTurfEvacuateDone_same _ _ e).win
  | .flowProgLoad _ => (execFlowProgLoad_same _ _ _ e).win
  | .flowTemplateWrite _ => (execFlowTemplateWrite_same _ _ _ e).win
  | .flowTemplateRead _ => (execFlowTemplateRead_same _ _ _ e).win
  | .flowProgRead _ => (execFlowProgRead_same _ _ _ e).win
  | .poolDefine _ => (execPoolDefine_same _ _ _ e).win
  | .poolDelete _ => (execPoolDelete_same _ _ _ e).win
  | .poolRead _ => (execPoolRead_same _ _ _ e).win
  | .pointerInstall _ => (execPointerInstall_same _ _ _ e).win
  | .bindAck _ => (execBindAck_same _ _ _ e).win
  | .pointerDemote _ => (execPointerDemote_same _ _ _ e).win
  | .demoterTick _ => (execDemoterTick_same _ _ _ e).win
  | .demotionDone _ _ _ => (execDemotionDone_same _ _ _ _ _ e).win
  | .turfClearAck _ _ => (execTurfClearAck_same _ _ _ _ e).win
  | .hearthScrub _ => (execHearthScrub_same _ _ _ e).win
  | .summaryRebuild _ => (execSummaryRebuild_same _ _ _ e).win
  | .transFetchDone _ _ => (execTransFetchDone_same _ _ _ _ e).win
  | .wheelExamine _ => (execWheelExamine_same _ _ _ e).win
  | .expiryOp _ => (execExpiryOp_same _ _ _ e).win
  | .jnlBlockWrite => (execJnlBlockWrite_same _ _ e).win
  | .captureWrite _ => (execCaptureWrite_same _ _ _ e).win
  | .jnlConsumedWrite _ _ => (execJnlConsumedWrite_same _ _ _ _ e).win
  | .jnlRegionWrite _ _ _ => (execJnlRegionWrite_same _ _ _ _ _ e).win
  | .exportFill _ _ => (execExportFill_same _ _ _ _ e).win
  | .exportLingerExpiry _ => (execExportLingerExpiry_same _ _ _ e).win
  | .timeQuery _ => (execTimeQuery_same _ _ _ e).win
  | .domainSeed _ => (execDomainSeed_same _ _ _ e).win
  | .domainRate _ => (execDomainRate_same _ _ _ e).win
  | .domainReseed _ => (execDomainReseed_same _ _ _ e).win
  | .domainSelect _ => (execDomainSelect_same _ _ _ e).win
  | .domainSetsRead _ => (execDomainSetsRead_same _ _ _ e).win
  | .stampConvert _ => (execStampConvert_same _ _ _ e).win
  | .tsiRead _ => (execTsiRead_same _ _ _ e).win
  | .domainSet _ => (execDomainSet_same _ _ _ e).win
  | .domainRenewal _ => (execDomainRenewal_same _ _ _ e).win
  | .ppsPulseStart _ _ => (execPpsPulseStart_same _ _ _ _ e).win
  | .tsiEdge _ _ _ => (execTsiEdge_same _ _ _ _ _ e).win
  | .memRefresh _ _ => (execMemRefresh_same _ _ _ _ e).win
  | .memRetrain _ _ _ => (execMemRetrain_same _ _ _ _ _ e).win
  | .memTempRead _ _ _ => (execMemTempRead_same _ _ _ _ _ e).win
  | .memPatrolScrub _ _ _ => (execMemPatrolScrub_same _ _ _ _ _ e).win
  | .memReadComplete _ _ _ _ _ => (execMemReadComplete_same _ _ _ _ _ _ _ e).win
  | .memAlert _ _ _ _ _ => (execMemAlert_same _ _ _ _ _ _ _ e).win
  | .channelDown _ => (execChannelDown_same _ _ _ e).win
  | .channelDrainExpiry _ _ _ => (execChannelDrainExpiry_same _ _ _ _ _ e).win
  | .memErrlogRead _ => (execMemErrlogRead_same _ _ _ e).win
  | .bootFrameRx _ _ _ _ => (execBootFrameRx_same _ _ _ _ _ _ e).win
  | .bootDiscover _ _ => (execBootDiscover_same _ _ _ _ e).win
  | .arpRequestRx _ _ => (execArpRequestRx_same _ _ _ _ e).win
  | .roceRequestRx _ _ _ _ => (execRoceRequestRx_same _ _ _ _ _ _ e).win
  | .roceAckRx _ _ _ => (execRoceAckRx_same _ _ _ _ _ e).win
  | .roceNakRx _ _ _ => (execRoceNakRx_same _ _ _ _ _ e).win
  | .roceRetryTimeout _ => (execRoceRetryTimeout_same _ _ _ e).win
  | .mailboxRequest _ _ => (execMailboxRequest_same _ _ _ _ e).win
  | .doorbellWrite => (execDoorbellWrite_same _ _ e).win
  | .qpCreate _ => (execQpCreate_same _ _ _ e).win
  | .qpRestart _ => (execQpRestart_same _ _ _ e).win
  | .qpDestroy _ => (execQpDestroy_same _ _ _ e).win
  | .qpQuery _ => (execQpQuery_same _ _ _ e).win
  | .hregionAdd _ => (execHregionAdd_same _ _ _ e).win
  | .hregionRemove _ => (execHregionRemove_same _ _ _ e).win
  | .hregionRead _ => (execHregionRead_same _ _ _ e).win
  | .queueCreate _ => (execQueueCreate_same _ _ _ e).win
  | .queueDestroy _ => (execQueueDestroy_same _ _ _ e).win
  | .queueDisable _ => (execQueueDisable_same _ _ _ e).win
  | .queueEnable _ => (execQueueEnable_same _ _ _ e).win
  | .queueQuery _ => (execQueueQuery_same _ _ _ e).win
  | .queueFetchDone _ => (execQueueFetchDone_same _ _ _ e).win
  | .jobStart _ _ _ => (execJobStart_same _ _ _ _ _ e).win
  | .jobComplete _ => (execJobComplete_same _ _ _ e).win
  | .completionAck _ => (execCompletionAck_same _ _ _ e).win
  | .rxBufferWrite _ => (execRxBufferWrite_same _ _ _ e).win
  | .eventDeliver => (execEventDeliver_same _ _ e).win
  | .dxDescriptorEnd _ _ _ => (execDxDescriptorEnd_same _ _ _ _ _ e).win
  | .dxCtrlDisable _ => (execDxCtrlDisable_same _ _ _ e).win
  | .sessionOpen _ => (execSessionOpen_same _ _ _ e).win
  | .sessionClose _ => (execSessionClose_same _ _ _ e).win
  | .sessionPing _ => (execSessionPing_same _ _ _ e).win
  | .sessionQuery _ => (execSessionQuery_same _ _ _ e).win
  | .commandVersions _ => (execCommandVersions_same _ _ _ e).win
  | .eventSubscribe _ => (execEventSubscribe_same _ _ _ e).win
  | .handleQuery _ => (execHandleQuery_same _ _ _ e).win
  | .handleCancel _ => (execHandleCancel_same _ _ _ e).win
  | .handleRelease _ => (execHandleRelease_same _ _ _ e).win
  | .auditRead _ => (execAuditRead_same _ _ _ e).win
  | .stageWrite _ => (execStageWrite_same _ _ _ e).win
  | .paramRead _ => (execParamRead_same _ _ _ e).win
  | .paramWrite _ => (execParamWrite_same _ _ _ e).win
  | .paramReadBlock _ => (execParamReadBlock_same _ _ _ e).win
  | .paramWordWrite _ _ _ => (execParamWordWrite_same _ _ _ _ _ e).win
  | .latchedLoRead _ _ _ => (execLatchedLoRead_same _ _ _ _ _ e).win
  | .rcWordRead _ _ _ => (execRcWordRead_same _ _ _ _ _ e).win
  | .entropyRead _ _ => (execEntropyRead_same _ _ _ _ e).win
  | .flowSeedWrite _ _ => (execFlowSeedWrite_same _ _ _ _ e).win
  | .pmonSelectWrite _ _ _ => (execPmonSelectWrite_same _ _ _ _ _ e).win
  | .pmonObserverWrite _ => (execPmonObserverWrite_same _ _ _ e).win
  | .sessionKeepaliveExpiry _ => (execSessionKeepaliveExpiry_same _ _ _ e).win
  | .handleRetentionExpiry _ => (execHandleRetentionExpiry_same _ _ _ e).win
  | .opDone _ => (execOpDone_same _ _ _ e).win
  | .scDispatch _ _ => (execScDispatch_same _ _ _ _ e).win
  | .scItemEnd _ _ => (execScItemEnd_same _ _ _ _ e).win
  | .scItemAged _ => (execScItemAged_same _ _ _ e).win
  | .twinLaneLock _ => (execTwinLaneLock_same _ _ _ e).win
  | .twinLinkUp _ _ => (execTwinLinkUp_same _ _ _ _ e).win
  | .twinLinkDown _ _ => (execTwinLinkDown_same _ _ _ _ e).win
  | .twinFrameRx _ _ => (execTwinFrameRx_same _ _ _ _ e).win
  | .twinResendTimeout _ => (execTwinResendTimeout_same _ _ _ e).win
  | .twinHelloRx _ => (execTwinHelloRx_same _ _ _ e).win
  | .twinHeartbeatRx _ => (execTwinHeartbeatRx_same _ _ _ e).win
  | .twinHbMiss => (execTwinHbMiss_same _ _ e).win
  | .twinDeltaApply _ => (execTwinDeltaApply_same _ _ _ e).win
  | .twinFollowRead _ => (execTwinFollowRead_same _ _ _ e).win
  | .twinFollowApply _ => (execTwinFollowApply_same _ _ _ e).win
  | .twinStandbyCleared => (execTwinStandbyCleared_same _ _ e).win
  | .twinBulkWalk _ _ => (execTwinBulkWalk_same _ _ _ _ e).win
  | .twinBulkApply _ => (execTwinBulkApply_same _ _ _ e).win
  | .twinCrossRx _ => (execTwinCrossRx_same _ _ _ e).win
  | .twinControlRx _ => (execTwinControlRx_same _ _ _ e).win
  | .twinHandoverDrained => (execTwinHandoverDrained_same _ _ e).win
  | .twinHandoverTimeout => (execTwinHandoverTimeout_same _ _ e).win
  | .twinQuery _ => (execTwinQuery_same _ _ _ e).win
  | .twinHandover _ => (execTwinHandover_same _ _ _ e).win
  | .twinResync _ => (execTwinResync_same _ _ _ e).win
  | .twinSplitResolve _ => (execTwinSplitResolve_same _ _ _ e).win
  | .safetyQuery _ => (execSafetyQuery_same _ _ _ e).win
  | .safetyLogRead _ => (execSafetyLogRead_same _ _ _ e).win
  | .safetySelftest _ => (execSafetySelftest_same _ _ _ e).win
  | .safetySelftestDone _ => (execSafetySelftestDone_same _ _ _ e).win
  | .avsEvaluate _ _ _ _ => (execAvsEvaluate_same _ _ _ _ _ _ e).win
  | .pmbAlert _ => (execPmbAlert_same _ _ _ e).win
  | .pmbusRetry _ => (execPmbusRetry_same _ _ _ e).win
  | .jtagInstruction _ => (execJtagInstruction_same _ _ _ e).win
  | .rxPauseExpiry _ _ _ => (execRxPauseExpiry_same _ _ _ _ _ e).win
  | .ppsPulseEnd _ => (execPpsPulseEnd_same _ _ _ e).win
  | .supplyRestored _ _ => (execSupplyRestored_same _ _ _ _ e).win
  | .corePllRelock _ => (execCorePllRelock_same _ _ _ e).win

/-- The commands that may touch the sets of a domain. -/
theorem eq_of_sets_mem_touches {c : Instr} (h : StatePart.sets ∈ touches c) :
    (∃ ns, c = .resetAssert ns) ∨ (∃ b, c = .domainSet b) ∨ ∃ b, c = .domainRenewal b := by
  cases c <;> simp [touches] at h ⊢

/-- Every command keeps at most 16 sets in each domain. -/
theorem exec_setsOk {c : Instr} {s t : State} (e : exec c s = .next t) (h : SetsOk s) : SetsOk t := by
  by_cases hc : StatePart.sets ∈ touches c
  · obtain ⟨ns, rfl⟩ | ⟨b, rfl⟩ | ⟨b, rfl⟩ := eq_of_sets_mem_touches hc
    · exact (execResetAssert_sound _ _ _ e).sets h
    · exact (execDomainSet_sound _ _ _ e).sets h
    · exact (execDomainRenewal_sound _ _ _ e).sets h
  · obtain ⟨hA, hB⟩ : t.tu.domA.sets = s.tu.domA.sets ∧ t.tu.domB.sets = s.tu.domB.sets := exec_keeps c s t e .sets hc
    unfold SetsOk at *
    rwa [hA, hB]

/-- What every command keeps whatever the queue holds, every step keeps. -/
theorem step_keeps {P : State → Prop} (hq : ∀ s q, P s → P (s.setPending q))
    (he : ∀ c s t, exec c s = .next t → P s → P t) {s t : State} (h : P s) (e : step s = .next t) : P t := by
  unfold step at e
  split at e
  · cases e
    exact h
  · exact he _ _ _ e (hq _ _ h)

/-- Settles O1: the queue that is not empty is the second arm of `step`. -/
theorem stepRunsTheFrontCommand : Obligations.StepRunsTheFrontCommand := by
  intro s c rest h
  unfold step
  rw [h]

/-- Settles O3, the model's choice of log entry 57: the meaning of every command is a next state. -/
theorem everyCommandCompletes : Obligations.EveryCommandCompletes := by
  intro c s
  cases c <;> exact ⟨_, rfl⟩

/-- Settles O6: the last 16 sets are kept where one is entered, and nothing else but reset writes the sets. -/
theorem keptSetsStayBounded : Obligations.KeptSetsStayBounded :=
  fun _ _ h e => step_keeps (fun _ _ h => h) (fun _ _ _ e => exec_setsOk e) h e

/-- Settles O7: every command keeps the form, and so does every step. -/
theorem windowCellsStayCanonical : Obligations.WindowCellsStayCanonical :=
  fun _ _ h e => step_keeps (fun _ _ h => h) (fun _ _ _ e => exec_winOk e) h e

/-- Settles O11: each command's footprint lies within the parts it may touch. -/
theorem commandsChangeOnlyTheirParts : Obligations.CommandsChangeOnlyTheirParts := exec_keeps

end Sys2Proof.Machine
end

section
/-! Proofs.  The island's findings and the ends of their conditions, the board's side, and the handle of a long operation (R23,
R488, R558 to R568, R589 to R602). -/

namespace Sys2Proof.Machine

/-! ### The island's findings -/

/-- Recording a fault leaves what the island keeps beside its causes and its log. -/
theorem recordFault_keeps (c cls inst detail : Nat) (s : State) :
    (recordFault c cls inst detail s).zal.railsOut = s.zal.railsOut ∧
    (recordFault c cls inst detail s).zal.pllOut = s.zal.pllOut ∧
    (recordFault c cls inst detail s).zal.silentDies = s.zal.silentDies ∧
    (recordFault c cls inst detail s).zal.reqLevel = s.zal.reqLevel := by
  unfold recordFault
  split
  · exact ⟨rfl, rfl, rfl, rfl⟩
  · extract_lets toSafe now least e log z0 z s1 y k s2
    have hz : s2.zal = z := by unfold s2; split <;> rfl
    have h : (if toSafe = true then s2 else raise Ev.safetyFault e.bytes s2).zal = z := by split <;> exact hz
    rw [h]
    exact ⟨rfl, rfl, rfl, rfl⟩

/-- A recorded fault whose condition persists: what SUPPLY, CORE_PLL and SAFE_REQ_N do (R559). -/
theorem recordFault_condOn {c : Nat} (cls inst detail : Nat) {r s : State} (hm : r.sys.mode ≠ .reset) (hc : c < 24)
    (hs : s.sys = r.sys) (ht : s.tick = r.tick) (hn : s.zal.logNext = r.zal.logNext) (ha : s.zal.toSafe = r.zal.toSafe)
    (hl : s.zal.log = r.zal.log) :
    Recorded c cls inst detail r (condOn c (recordFault c cls inst detail s)) ∧
      (condOn c (recordFault c cls inst detail s)).zal.cond.getLsbD c = true := by
  refine ⟨condOn_recorded ?_, condOn_cond _ hc⟩
  have h := recordFault_recorded cls inst detail (s := s) (hs ▸ hm) hc
  unfold Recorded at *
  rw [← hn, ← ha, ← hl, ← hs, ← ht]
  exact h

section
variable {s : State} (hm : s.sys.mode ≠ .reset)
include hm

theorem lockstepMismatch_records : Recorded 1 0xFF 0 0 s (lockstepMismatch s) ∧ (lockstepMismatch s).zal.safeN = false := by
  have h : Recorded 1 0xFF 0 0 s (recordFault 1 0xFF 0 0 s) := recordFault_recorded _ _ _ hm (by decide)
  obtain ⟨-, hf, -⟩ := id h
  unfold lockstepMismatch
  rw [if_neg hm]
  exact ⟨h.of_after rfl hf.symm rfl rfl rfl, rfl⟩

/-- A die that has not been silent before is listed; stopping its ports touches the island in no way (R562). -/
theorem islandSilent_records {d : Nat} (hr : s.tick.running = true) (hd : s.zal.silentDies.contains d = false) :
    Recorded 2 0xFF 0 d s (islandSilent d s) ∧ (islandSilent d s).zal.safeN = false ∧
      (islandSilent d s).zal.silentDies = s.zal.silentDies ++ [d] := by
  have h : Recorded 2 0xFF 0 d s (recordFault 2 0xFF 0 d s) := recordFault_recorded _ _ _ hm (by decide)
  obtain ⟨-, -, hsil, -⟩ := recordFault_keeps 2 0xFF 0 d s
  obtain ⟨-, hf, -⟩ := id h
  unfold islandSilent
  rw [if_neg (by simpa [hm, hr] using hd)]
  extract_lets s1 y s2
  have hz := (stopPorts_same (fun n _ p => islandStops s2 n p) s2).zal rfl
  refine ⟨h.of_after (by rw [hz]; rfl) (by rw [hz]; exact hf.symm) (by rw [hz]; rfl) (by rw [hz]; rfl) (by rw [hz]; rfl),
    by rw [hz]; rfl, ?_⟩
  rw [hz]
  exact congrArg (· ++ [d]) hsil

/-- A rail out of its window is listed; but for VDD_ZAL, whose loss silences the island, it is recorded (R593). -/
theorem supplyFault_records {r uv : Nat} (hk : s.sys.kindling.running.contains .s1 = false)
    (ho : s.zal.railsOut.contains r = false) (hw : windowHolds s r uv ≠ some true) :
    (supplyFault r uv s).zal.railsOut = s.zal.railsOut ++ [r] ∧ (supplyFault r uv s).zal.faultN = false ∧
      (r ≠ 9 → Recorded 4 0xFF 0 r s (supplyFault r uv s) ∧ (supplyFault r uv s).zal.cond.getLsbD 4 = true) ∧
      (r = 9 → (supplyFault r uv s).zal.safeN = false) := by
  unfold supplyFault
  rw [if_neg (by simpa [hm, hw] using And.intro hk ho)]
  extract_lets y s1
  by_cases h9 : r = 9
  · rw [if_pos h9]
    exact ⟨rfl, rfl, fun h => absurd h9 h, fun _ => rfl⟩
  · rw [if_neg h9]
    have h := recordFault_condOn (c := 4) 0xFF 0 r (r := s) (s := s1) hm (by decide) rfl rfl rfl rfl rfl
    obtain ⟨-, hf, -⟩ := id h.1
    exact ⟨(recordFault_keeps 4 0xFF 0 r s1).1, hf, fun _ => h, fun h => absurd h h9⟩

theorem pllUnlock_records {d : Nat} (ho : s.zal.pllOut.contains d = false) : Recorded 5 0xFF 0 d s (pllUnlock d s) ∧
    (pllUnlock d s).zal.pllOut = s.zal.pllOut ++ [d] ∧ (pllUnlock d s).zal.cond.getLsbD 5 = true := by
  unfold pllUnlock
  rw [if_neg (by simpa [hm] using ho)]
  extract_lets y s1
  have h := recordFault_condOn (c := 5) 0xFF 0 d (r := s) (s := s1) hm (by decide) rfl rfl rfl rfl rfl
  exact ⟨h.1, (recordFault_keeps 5 0xFF 0 d s1).2.1, h.2⟩

theorem safeReqLow_records (hl : s.zal.reqLevel = true) : Recorded 14 0xFF 0 0 s (safeReqLow s) ∧
    (safeReqLow s).zal.reqLevel = false ∧ (safeReqLow s).zal.cond.getLsbD 14 = true := by
  unfold safeReqLow
  rw [if_neg (by simp [hm, hl])]
  have h := recordFault_condOn (c := 14) 0xFF 0 0 (r := s) (s := s.setZal { s.zal with reqLevel := false }) hm (by decide)
    rfl rfl rfl rfl rfl
  exact ⟨h.1, (recordFault_keeps 14 0xFF 0 0 _).2.2.2, h.2⟩

end

/-- Settles O19: each mechanism records its cause with its detail, and lists what it has found.  The numbers of the rails, the
detail of DIE_LINK and the loss of VDD_ZAL are the model's choice (log entry 54). -/
theorem islandFaultsAreRecorded : Obligations.IslandFaultsAreRecorded := by
  intro s hm
  exact ⟨⟨_, rfl, lockstepMismatch_records hm⟩,
    fun c => ⟨_, rfl, recordFault_recorded _ _ _ hm (by decide)⟩,
    fun d hr hd => ⟨_, rfl, islandSilent_records hm hr hd⟩,
    fun r uv hk ho hw => ⟨_, rfl, supplyFault_records hm hk ho hw⟩,
    fun d ho => ⟨_, rfl, pllUnlock_records hm ho⟩,
    fun hl => ⟨_, rfl, safeReqLow_records hm hl⟩⟩

/-! ### The ends of conditions -/

theorem safeReqHigh_ends {s : State} (hm : s.sys.mode ≠ .reset) (hl : s.zal.reqLevel = false) :
    (safeReqHigh s).zal.reqLevel = true ∧ (safeReqHigh s).zal.cond = s.zal.cond &&& ~~~(1#24 <<< 14) ∧
      (safeReqHigh s).zal.status = s.zal.status := by
  unfold safeReqHigh
  rw [if_neg (by simp [hm, hl])]
  refine ⟨?_, condOff_zal ..⟩
  unfold condOff settleFaultN
  split <;> rfl

/-- With the last one gone from a list of what is out, the wait for the end of the condition starts (R559). -/
theorem goodSince_started {left : List Nat} {m : Table Tick} {c : Nat} {t : Tick} (h : left = []) :
    tfind (if left = [] then tput m c t else m) c = some t := by
  rw [if_pos h, tfind_tput, if_pos rfl]

theorem supplyRestored_ends {r uv : Nat} {s : State} (ho : s.zal.railsOut.contains r = true) (h9 : r ≠ 9)
    (hw : windowHolds s r uv ≠ some false) :
    (supplyRestored r uv s).zal.railsOut = s.zal.railsOut.filter (· != r) ∧
      ((supplyRestored r uv s).zal.railsOut = [] → tfind (supplyRestored r uv s).zal.goodSince 4 = some s.tick.count) ∧
      (supplyRestored r uv s).zal.status = s.zal.status := by
  unfold supplyRestored
  rw [if_neg (by simpa [h9, hw] using ho)]
  exact ⟨rfl, goodSince_started, rfl⟩

theorem pllRelock_ends {d : Nat} {s : State} (ho : s.zal.pllOut.contains d = true) :
    (pllRelock d s).zal.pllOut = s.zal.pllOut.filter (· != d) ∧
      ((pllRelock d s).zal.pllOut = [] → tfind (pllRelock d s).zal.goodSince 5 = some s.tick.count) ∧
      (pllRelock d s).zal.status = s.zal.status := by
  unfold pllRelock
  rw [if_neg (by simpa using ho)]
  exact ⟨rfl, goodSince_started, rfl⟩

/-- The level of FAULT_N aside, settling it changes nothing. -/
theorem settleFaultN_eq (s : State) : ∃ f, settleFaultN s = s.setZal { s.zal with faultN := f } := by
  unfold settleFaultN
  split
  · exact ⟨true, rfl⟩
  · exact ⟨s.zal.faultN, rfl⟩

/-- A run in which every mechanism detects leaves no cause of its own and twelve zeros in its result (R568). -/
theorem selftestDone_detects {h : Word} {s : State} (ho : s.zal.selftestOp = some h) :
    (selftestDone 0 s).zal.selftestOp = none ∧ (selftestDone 0 s).zal.selftest = 0 ∧
      (selftestDone 0 s).zal.status = s.zal.status ∧
      (handleAt (selftestDone 0 s) (handleIdx h)).st = .done ∧
      (handleAt (selftestDone 0 s) (handleIdx h)).status = St.ok ∧
      (handleAt (selftestDone 0 s) (handleIdx h)).result = List.replicate 12 0 := by
  have hnone : ∀ (l : List Nat) (u : State),
      l.foldl (fun s i => if bitOf 0 i then recordUndetected (mechanisms.getD i 0) s else s) u = u := by
    intro l u
    induction l with
    | nil => rfl
    | cons i l ih => rw [List.foldl_cons, if_neg (by simp [bitOf]), ih]
  unfold selftestDone
  rw [ho]
  dsimp only
  rw [hnone]
  obtain ⟨f, hf⟩ := settleFaultN_eq (s.setZal { s.zal with selftestOp := none, selftest := 0 })
  rw [hf]
  refine ⟨rfl, rfl, rfl, ?_⟩
  unfold complete handleAt
  dsimp only
  rw [State.setToune_toune]
  dsimp only [setHandle]
  rw [State.setToune_toune]
  dsimp only
  rw [tgetD_tput_self]
  exact ⟨rfl, rfl, by simp [bitOf, b2n]⟩

/-- Settles O20: each event takes what it ends off its list and leaves every recorded cause.  The numbers of the rails and the
single run of the self-test are the model's choice (log entry 54). -/
theorem conditionsOfTheIslandEnd : Obligations.ConditionsOfTheIslandEnd := by
  intro s
  exact ⟨fun hm hl => ⟨_, rfl, safeReqHigh_ends hm hl⟩,
    fun r uv ho h9 hw => ⟨_, rfl, supplyRestored_ends ho h9 hw⟩,
    fun d ho => ⟨_, rfl, pllRelock_ends ho⟩,
    fun h ho => ⟨_, rfl, selftestDone_detects ho⟩⟩

/-! ### The board's side -/

/-- The evaluation takes a target at most 5 mV towards the one wanted, and not past it (R595). -/
theorem avsNext_spec (old wanted : Nat) : avsNext old wanted ≤ old + 5 ∧ old ≤ avsNext old wanted + 5 ∧
    (old ≤ wanted → old ≤ avsNext old wanted ∧ avsNext old wanted ≤ wanted) ∧
    (wanted ≤ old → avsNext old wanted ≤ old ∧ wanted ≤ avsNext old wanted) := by
  unfold avsNext
  split <;> omega

theorem avsTarget_setTarget (d mv e : Nat) (s : State) (hd : d < 2) (he : e < 2) :
    avsTarget (setTarget d mv s) e = if e = d then some mv else avsTarget s e := by
  unfold avsTarget setTarget
  dsimp only
  obtain rfl | rfl : d = 0 ∨ d = 1 := by omega
  all_goals obtain rfl | rfl : e = 0 ∨ e = 1 := by omega
  all_goals rfl

/-- What an answered evaluation of one plane does: nothing, or a new target (R595). -/
theorem avsPlane_answered (d : Nat) (cold : Bool) (s : State) (hd : d < 2) :
    avsPlane d cold true s = s ∨ ∃ mv, avsPlane d cold true s = setTarget d mv s := by
  unfold avsPlane
  split
  · exact .inl rfl
  · dsimp only
    split
    · exact .inl rfl
    · exact .inr ⟨_, by unfold pmbus; rw [if_neg (by simp), if_pos hd]⟩

/-- The evaluation of one plane leaves what the evaluation of the other looks at. -/
theorem avsPlane_other {d e : Nat} (cold : Bool) (s : State) (hd : d < 2) (he : e < 2) (h : e ≠ d) :
    avsTarget (avsPlane d cold true s) e = avsTarget s e ∧ avsLocked (avsPlane d cold true s) e = avsLocked s e ∧
      (avsPlane d cold true s).power.retry = s.power.retry := by
  obtain q | ⟨mv, q⟩ := avsPlane_answered d cold s hd
  · rw [q]
    exact ⟨rfl, rfl, rfl⟩
  · rw [q]
    refine ⟨(avsTarget_setTarget d mv e s hd he).trans (if_neg h), ?_, ?_⟩
    · unfold avsLocked setTarget
      dsimp only
      split <;> split <;> rfl
    · unfold setTarget
      dsimp only
      split <;> rfl

theorem avsPlane_moves {d : Nat} {cold : Bool} {old : Nat} {s : State} (hd : d < 2) (ht : avsTarget s d = some old)
    (hl : avsLocked s d = false) (hr : ∀ x ∈ s.power.retry, x.what ≠ d) :
    avsTarget (avsPlane d cold true s) d = some (avsNext old (avsWanted d cold)) := by
  have hnone : s.power.retry.any (fun r => r.what == d) = false := by simpa using hr
  unfold avsPlane
  rw [ht]
  dsimp only
  rw [hl, hnone]
  split
  next h =>
    have heq : avsNext old (avsWanted d cold) = old := by simpa using h
    rw [ht, heq]
  next =>
    unfold pmbus
    rw [if_neg (by simp), if_pos hd, avsTarget_setTarget _ _ _ _ hd hd, if_pos rfl]

theorem avsPlane_without {d : Nat} (cold ok : Bool) {s : State} (h : avsTarget s d = none) : avsPlane d cold ok s = s := by
  unfold avsPlane
  rw [h]

section
variable {cw ce : Bool} {s : State}

theorem avsEvaluate_awake (hm : s.sys.mode ≠ .reset) (okW okE : Bool) :
    avsEvaluate cw ce okW okE s = avsPlane 1 ce okE (avsPlane 0 cw okW s) := if_neg hm

/-- With both writes answered a plane's target moves by its own evaluation alone. -/
theorem avsTarget_avsEvaluate {d : Nat} (hm : s.sys.mode ≠ .reset) (hd : d < 2) {old : Nat} (ht : avsTarget s d = some old)
    (hl : avsLocked s d = false) (hr : ∀ x ∈ s.power.retry, x.what ≠ d) :
    avsTarget (avsEvaluate cw ce true true s) d = some (avsNext old (avsWanted d (if d = 0 then cw else ce))) := by
  rw [avsEvaluate_awake hm]
  obtain rfl | rfl : d = 0 ∨ d = 1 := by omega
  · rw [(avsPlane_other ce _ (by decide) (by decide) (by decide)).1]
    exact avsPlane_moves (by decide) ht hl hr
  · obtain ⟨ht', hl', hr'⟩ := avsPlane_other (e := 1) cw s (show 0 < 2 by decide) (by decide) (by decide)
    exact avsPlane_moves (by decide) (ht'.trans ht) (hl'.trans hl) (hr' ▸ hr)

theorem avsTarget_avsEvaluate_without {d : Nat} (hm : s.sys.mode ≠ .reset) (hd : d < 2) (ht : avsTarget s d = none) :
    avsTarget (avsEvaluate cw ce true true s) d = none := by
  rw [avsEvaluate_awake hm]
  obtain rfl | rfl : d = 0 ∨ d = 1 := by omega
  · rw [(avsPlane_other ce _ (by decide) (by decide) (by decide)).1, avsPlane_without _ _ ht]
    exact ht
  · have ht' := (avsPlane_other (e := 1) cw s (show 0 < 2 by decide) (by decide) (by decide)).1.trans ht
    rw [avsPlane_without _ _ ht', ht']

end

theorem pmbAlert_answered {s : State} (hm : s.sys.mode ≠ .reset) :
    (pmbAlert true s).power.alertsServed = s.power.alertsServed + 1 ∧ (pmbAlert true s).power.retry = s.power.retry := by
  unfold pmbAlert
  rw [if_neg hm]
  exact ⟨rfl, rfl⟩

theorem pmbAlert_failed {s : State} (hm : s.sys.mode ≠ .reset) :
    (pmbAlert false s).power.alertsServed = s.power.alertsServed ∧
      (pmbAlert false s).power.retry = s.power.retry ++ [{ what := 2, target := 0, since := s.tick.count }] := by
  unfold pmbAlert
  rw [if_neg hm]
  exact ⟨rfl, rfl⟩

/-- An answered transaction leaves the list of failed ones. -/
theorem pmbus_retry (what mv : Nat) (s : State) : (pmbus what mv true s).power.retry = s.power.retry := by
  unfold pmbus setTarget
  rw [if_neg (by simp)]
  split
  · dsimp only
    split <;> rfl
  · rfl

section
variable {ok : Bool} {x : PmbusTry} {rest : List PmbusTry} {s : State} (hx : s.power.retry = x :: rest)
include hx

theorem pmbusRetry_early (h : ticksSince s.tick.count x.since < 1000) : pmbusRetry ok s = s := by
  unfold pmbusRetry
  rw [hx]
  exact if_pos h

/-- The oldest failed transaction leaves the list when it is answered, and after its third retry (R594). -/
theorem pmbusRetry_leaves (h : 1000 ≤ ticksSince s.tick.count x.since) (ho : ok = true ∨ 3 ≤ x.tries + 1) :
    (pmbusRetry ok s).power.retry = rest := by
  unfold pmbusRetry
  rw [hx]
  dsimp only
  rw [if_neg (by omega)]
  cases ok with
  | true => exact pmbus_retry ..
  | false => rw [if_neg Bool.false_ne_true, if_pos (by simpa using ho)]; rfl

end

/-- Settles O22: the planes move by themselves, and failed transactions wait in their order.  That a transaction is dropped after
its third retry is the model's choice (log entry 55). -/
theorem theBoardsSide : Obligations.TheBoardsSide := by
  intro s
  refine ⟨fun cw ce d old hd hm ht hl hr => ?_, fun cw ce d hd hm ht => ⟨_, rfl, avsTarget_avsEvaluate_without hm hd ht⟩,
    fun hm => ⟨_, rfl, pmbAlert_answered hm⟩, fun hm => ⟨_, _, rfl, (pmbAlert_failed hm).1, (pmbAlert_failed hm).2, rfl⟩,
    fun ok x rest hx => ⟨fun h => congrArg Host.Outcome.next (pmbusRetry_early hx h),
      fun h ho => ⟨_, rfl, pmbusRetry_leaves hx h ho⟩⟩,
    fun i => ⟨_, rfl, rfl⟩⟩
  exact ⟨_, _, rfl, avsTarget_avsEvaluate hm hd ht hl hr, avsNext_spec ..⟩

/-! ### Handles -/

/-- The generation after a generation counts from 1 to 255 (R488). -/
theorem toNat_nextGen (g : Byte) : (nextGen g).toNat = (if g = 255 then 1 else g.toNat + 1) ∧
    1 ≤ (nextGen g).toNat ∧ (nextGen g).toNat ≤ 255 := by
  revert g
  decide

/-- A free index below which none is free is the one that the next long operation takes. -/
theorem freeHandle_of_lowest {s : State} {i : Nat} (hi : i < 4096) (hf : (handleAt s i).st = .free)
    (hlow : ∀ j, j < i → (handleAt s j).st ≠ .free) : freeHandle s = some i := by
  unfold freeHandle
  rw [List.find?_range_eq_some]
  exact ⟨by simp [hf], List.mem_range.mpr hi, fun j hj => by simpa using hlow j hj⟩

theorem freeHandle_of_full {s : State} (h : ∀ i, i < 4096 → (handleAt s i).st ≠ .free) : freeHandle s = none := by
  unfold freeHandle
  rw [List.find?_eq_none]
  intro i hi
  simpa using h i (List.mem_range.mp hi)

/-- Settles O23: the search for the lowest free index either ends at it or finds none. -/
theorem longOperationsTakeTheLowestFreeHandle : Obligations.LongOperationsTakeTheLowestFreeHandle := by
  intro op r st k s
  refine ⟨fun h => ?_, fun i hi hf hlow => ?_⟩
  · unfold accepted allocHandle
    rw [freeHandle_of_full h]
  · obtain ⟨hg, h1, h255⟩ := toNat_nextGen (handleAt s i).gen
    have hnat : (BitVec.ofNat 32 (0x1000000 * (nextGen (handleAt s i).gen).toNat + i)).toNat =
        0x1000000 * (nextGen (handleAt s i).gen).toNat + i := by
      rw [BitVec.toNat_ofNat]
      omega
    refine ⟨(nextGen (handleAt s i).gen).toNat, BitVec.ofNat 32 (0x1000000 * (nextGen (handleAt s i).gen).toNat + i), _,
      hg, h1, h255, hnat, fun h0 => ?_, ?_, rfl⟩
    · rw [h0] at hnat
      change 0 = _ at hnat
      omega
    · unfold accepted allocHandle
      rw [freeHandle_of_lowest hi hf hlow]
      dsimp only
      rw [BitVec.ofNat_toNat, BitVec.setWidth_eq]

end Sys2Proof.Machine
end

section
/-! Proofs.  What a request that runs leaves, stated once for the bodies that read nothing of the sessions (R478, R479, R485). -/

namespace Sys2Proof.Machine

/-- A state whose sessions are these: what noting a request may leave for its body (R485). -/
def withSessions (m : Table Session) (s : State) : State := s.setToune { s.toune with sessions := m }

theorem touch_eq_withSessions (r : Req) (s : State) : ∃ m, touch r s = withSessions m s := by
  unfold touch
  dsimp only
  split
  · exact ⟨_, rfl⟩
  · exact ⟨s.toune.sessions, rfl⟩

/-- A flag in a byte reads back. -/
@[simp] theorem decide_b2n (b : Bool) : decide (b2n b = 1) = b := by cases b <;> rfl

theorem b2n_le (b : Bool) : b2n b ≤ 1 := by cases b <;> decide

section
variable {op : Nat} {body : Req → State → State × Reply} {r : Req} {s : State} {f : Table Session → State}

/-- A request that runs is its body on the state in which it has been noted, then one answer. -/
theorem runs_noted (h : Runs op r s) : ∃ m, runToune op body r s =
    finish op r (body r (withSessions m s)).2 false (body r (withSessions m s)).1 := by
  obtain ⟨m, hm⟩ := touch_eq_withSessions r s
  exact ⟨m, hm ▸ runToune_runs op body r s h⟩

/-- A request whose body does something and answers at once: the body's state and events, and one answer. -/
theorem runs_does {rep : Table Session → Reply} (h : Runs op r s) (e : ∀ m, body r (withSessions m s) = (f m, rep m))
    (hr : ∀ m, (f m).toune.responses = s.toune.responses) (w : ∀ m, (rep m).waits = false := by intro; rfl) :
    ∃ m, OnlyAnswers (f m) (runToune op body r s) ∧
      Answered op r (rep m).status (rep m).payload s (runToune op body r s) ∧
      (runToune op body r s).toune.events = (f m).toune.events ∧
      (runToune op body r s).toune.handles = (f m).toune.handles := by
  obtain ⟨m, hm⟩ := runs_noted (body := body) h
  rw [e m] at hm
  obtain ⟨p, hp, hop, hsess, hseq, hst, hpl, -⟩ := finish_answered op r (rep m) false (f m) (w m)
  rw [hm]
  exact ⟨m, finish_answers .., ⟨p, by rw [hp, hr], hop, hsess, hseq, hst, hpl⟩, finish_events .., finish_handles ..⟩

/-- A request whose body changes nothing and answers. -/
theorem runs_reads {rep : Table Session → Reply} (h : Runs op r s)
    (e : ∀ m, body r (withSessions m s) = (withSessions m s, rep m)) (w : ∀ m, (rep m).waits = false := by intro; rfl) :
    ∃ m, OnlyAnswers s (runToune op body r s) ∧
      Answered op r (rep m).status (rep m).payload s (runToune op body r s) := by
  obtain ⟨m, ha, hans, -⟩ := runs_does h e (fun _ => rfl) w
  exact ⟨m, (setToune_answers _ s).trans ha, hans⟩

/-- A request that only reads is answered what its body has read. -/
theorem runs_yes {pl : Table Session → List Byte} (h : Runs op r s)
    (e : ∀ m, body r (withSessions m s) = (withSessions m s, .yes (pl m))) :
    ∃ m, OnlyAnswers s (runToune op body r s) ∧ Answered op r St.ok (pl m) s (runToune op body r s) := runs_reads h e

/-- A request that its body refuses changes nothing and is answered the status. -/
theorem runs_no {st : Half} (h : Runs op r s) (e : ∀ m, body r (withSessions m s) = (withSessions m s, .no st)) :
    OnlyAnswers s (runToune op body r s) ∧ Answered op r st [] s (runToune op body r s) :=
  (runs_reads h e).elim fun _ q => q

/-- A request whose answer waits: the body's state and its events, and nothing sent. -/
theorem runs_holds {rep : Table Session → Reply} (h : Runs op r s) (e : ∀ m, body r (withSessions m s) = (f m, rep m))
    (hr : ∀ m, (f m).toune.responses = s.toune.responses) (w : ∀ m, (rep m).waits = true := by intro; rfl) :
    ∃ m, OnlyAnswers (f m) (runToune op body r s) ∧ (runToune op body r s).toune.responses = s.toune.responses ∧
      (runToune op body r s).toune.events = (f m).toune.events := by
  obtain ⟨m, hm⟩ := runs_noted (body := body) h
  rw [e m] at hm
  rw [hm]
  exact ⟨m, finish_answers .., (finish_waits _ _ _ _ _ (w m)).trans (hr m), finish_events ..⟩

/-- A request whose change waits for its boundary, after a body that leaves `sys` and what has been sent (R34, R35). -/
theorem runs_defers {c : Change} (h : Runs op r s)
    (e : ∀ m, body r (withSessions m s) =
      (defer { due := dueTick s r.cycle, change := c, resp := some (respOf op r 0 []) } (f m), { waits := true }))
    (hs : ∀ m, (f m).sys = s.sys) (hr : ∀ m, (f m).toune.responses = s.toune.responses)
    (he : ∀ m, (f m).toune.events = s.toune.events) :
    Waits op r c s (runToune op body r s) ∧ ∃ m, OnlyAnswers
      (defer { due := dueTick s r.cycle, change := c, resp := some (respOf op r 0 []) } (f m)) (runToune op body r s) := by
  obtain ⟨m, ha, hresp, hev⟩ := runs_holds h e hr
  refine ⟨⟨hresp, hev.trans (he m), respOf op r 0 [], rfl, rfl, rfl, rfl, ?_⟩, m, ha⟩
  rw [ha.sys, defer, State.setSys_sys, hs]

end

/-- A request that starts a long operation on what the note of its session leaves. -/
theorem runs_launches {op : Nat} {body : Req → State → State × Reply} {r : Req} {s : State} {h : Word} {started : Bool}
    {k : Word → State → State} (hr : Runs op r s) (hn : newHandle s = some h)
    (e : ∀ m, body r (withSessions m s) = accepted op r started k (withSessions m s))
    (hk : ∀ u, (k h u).toune = u.toune := by intro; rfl) :
    Started op r h s (runToune op body r s) ∧
      ∃ m, OnlyAnswers (k h (takeHandle op r started h (withSessions m s))) (runToune op body r s) := by
  obtain ⟨m, hm⟩ := touch_eq_withSessions r s
  obtain ⟨hs, ha⟩ := runs_starts hr hn (by rw [hm]; exact e m) hk
  exact ⟨hs, m, hm ▸ ha⟩

end Sys2Proof.Machine
end

section
/-! Proofs.  The time commands: each body on a legal argument (R380 to R392, R399). -/

namespace Sys2Proof.Machine

/-! ### Bodies -/

section
variable {r : Req} {s : State} {b : Bool}

theorem bodyTimeQuery_legal (hp : r.payload = []) : bodyTimeQuery r s = (s, .yes (le 8 (frcAt s r.cycle).toNat ++
    domTime s false (frcAt s r.cycle) ++ domTime s true (frcAt s r.cycle) ++ le 2 (identAt s false (frcAt s r.cycle)) ++
    le 2 (identAt s true (frcAt s r.cycle)) ++ le 1 (quality s false) ++ le 1 (b2n s.tu.selected))) := by
  unfold bodyTimeQuery
  dsimp only
  rw [if_neg (by simp [hp])]

/-- The set that DOMAIN_SEED and DOMAIN_RESEED ask for (R382). -/
def seededSet (cause : Nat) (p : List Byte) (acc : Dword) : TimeSet :=
  { seq := 0, epoch := 0, cause := cause, anchor := BitVec.ofNat 64 (rd p 1 8), validFrom := validFromOf acc, baseS := rd p 9 8
    baseNs := rd p 17 4, baseFrac := rd p 21 2, rate := signed 64 (rd p 23 8) }

theorem seedCommand_legal (op : Nat) {cause : Nat} (hl : r.payload.length = 31) (hb : rd r.payload 0 1 = b2n b)
    (hs : rd r.payload 9 8 < 2 ^ 48) (hn : rd r.payload 17 4 ≤ 999999999) (hd : (domAt s b).sets = [] ↔ cause = 0)
    (hmax : signed 64 (rd r.payload 23 8) ≤ maxRate) (hmin : -maxRate ≤ signed 64 (rd r.payload 23 8))
    (ha : anchorBad (frcAt s r.cycle) (BitVec.ofNat 64 (rd r.payload 1 8)) = false) (hbusy : setBusy s b = false) :
    seedCommand op cause r s = (pendSet b (seededSet cause r.payload (frcAt s r.cycle)) (some (respOf op r 0 [])) s,
      { waits := true }) := by
  have hseed : (((domAt s b).sets == []) != (cause == 0)) = false := by
    rw [bne_eq_false_iff_eq, Bool.eq_iff_iff]
    simpa using hd
  have h1 := b2n_le b
  unfold seedCommand
  dsimp only
  simp only [hb, decide_b2n]
  rw [if_neg (by omega), hseed, ha, hbusy, if_neg Bool.false_ne_true, if_neg (by simp; omega)]
  rfl

section
variable {y : TimeSet} (hl : r.payload.length = 9) (hb : rd r.payload 0 1 = b2n b) (hy : (domAt s b).now = some y)
  (hmax : signed 64 (rd r.payload 1 8) ≤ maxRate) (hmin : -maxRate ≤ signed 64 (rd r.payload 1 8))
include hl hb hy hmax hmin

theorem bodyDomainRate_busy (hbusy : setBusy s b = true) : bodyDomainRate r s = (s, .no St.eBusy) := by
  have h1 := b2n_le b
  unfold bodyDomainRate
  dsimp only
  simp only [hb, decide_b2n, hy]
  rw [if_neg (by omega), if_neg (by omega), if_pos hbusy]

theorem bodyDomainRate_pends (hbusy : setBusy s b = false) : bodyDomainRate r s =
    (pendSet b { y with cause := 1, validFrom := validFromOf (frcAt s r.cycle), rate := signed 64 (rd r.payload 1 8) }
      (some (respOf Op.domainRate r 0 [])) s, { waits := true }) := by
  have h1 := b2n_le b
  unfold bodyDomainRate
  dsimp only
  simp only [hb, decide_b2n, hy]
  rw [if_neg (by omega), if_neg (by omega), if_neg (by simp [hbusy])]

end

section
variable {force : Bool} (hl : r.payload.length = 2) (hb : rd r.payload 0 1 = b2n b) (hf : rd r.payload 1 1 = b2n force)
include hl hb hf

theorem bodyDomainSelect_waits (h : switchFault s b force = none) : bodyDomainSelect r s =
    (defer { due := dueTick s r.cycle, change := .domainSelect b force, resp := some (respOf Op.domainSelect r 0 []) }
      (s.setTu { s.tu with switchPending := true }), { waits := true }) := by
  have h1 := b2n_le b
  have h2 := b2n_le force
  unfold bodyDomainSelect
  dsimp only
  simp only [hb, hf, decide_b2n, h]
  exact if_neg (by omega)

theorem bodyDomainSelect_refused {st : Half} (h : switchFault s b force = some st) :
    bodyDomainSelect r s = (switchRefused b st s, .no st) := by
  have h1 := b2n_le b
  have h2 := b2n_le force
  unfold bodyDomainSelect
  dsimp only
  simp only [hb, hf, decide_b2n, h]
  exact if_neg (by omega)

end

theorem bodyDomainSetsRead_legal (hl : r.payload.length = 1) (hb : rd r.payload 0 1 = b2n b) :
    bodyDomainSetsRead r s = (s, .yes ((domAt s b).sets.flatMap (setBytes b))) := by
  have h1 := b2n_le b
  unfold bodyDomainSetsRead
  dsimp only
  simp only [hb, decide_b2n]
  exact if_neg (by omega)

/-- What STAMP_CONVERT answers for one stamp (R384). -/
def converted (f : Dword) (x : Option TimeSet) : List Byte :=
  match x with
  | some x => le 2 0 ++ timeBytes (x.convert f)
  | none => le 2 St.eRange.toNat ++ le 12 0

theorem bodyStampConvert_one (hl : r.payload.length = 12) (hb : rd r.payload 0 1 = b2n b) (hn : rd r.payload 1 1 = 1) :
    bodyStampConvert r s = (s, .yes (converted (BitVec.ofNat 64 (rd r.payload 2 8))
      (matchSet (domAt s b) (BitVec.ofNat 64 (rd r.payload 2 8)) (rd r.payload 10 2)))) := by
  have h1 := b2n_le b
  unfold bodyStampConvert
  dsimp only
  simp only [hb, hn, decide_b2n]
  rw [if_neg (by omega)]
  refine congrArg (fun p => (s, Reply.yes p)) ?_
  unfold converted
  simp only [List.range_one, List.flatMap_singleton, Nat.mul_zero, Nat.add_zero] <;> rfl

theorem bodyTsiRead_legal (hl : r.payload.length = 2) (hi : rd r.payload 0 1 ≤ 7) (h1 : 1 ≤ rd r.payload 1 1)
    (h64 : rd r.payload 1 1 ≤ 64) : bodyTsiRead r s =
    (setTsi (rd r.payload 0 1) { tsiAt s (rd r.payload 0 1) with
      fifo := (tsiAt s (rd r.payload 0 1)).fifo.drop (rd r.payload 1 1) } s,
      .yes ((tsiAt s (rd r.payload 0 1)).fifo.take (rd r.payload 1 1)).flatten) := by
  unfold bodyTsiRead
  exact if_neg (by omega)

end

/-! ### What waits and what is read -/

theorem domAt_setDom_self (b : Bool) (x : Domain) (s : State) : domAt (setDom b x s) b = x := by cases b <;> rfl

theorem setDom_toune (b : Bool) (x : Domain) (s : State) : (setDom b x s).toune = s.toune := by cases b <;> rfl

theorem domAt_congr {s t : State} (h : t.tu = s.tu) (b : Bool) : domAt t b = domAt s b := by unfold domAt; rw [h]

theorem tsiAt_congr {s t : State} (h : t.tu = s.tu) (i : Nat) : tsiAt t i = tsiAt s i := by unfold tsiAt; rw [h]

/-- A request whose set waits for its valid_from (R383): the set is pending with the response, and the sets in force stand. -/
theorem runs_pends {op : Nat} {body : Req → State → State × Reply} {r : Req} {s : State} {b : Bool}
    {x : Table Session → TimeSet} (h : Runs op r s) (e : ∀ m, body r (withSessions m s) =
      (pendSet b (x m) (some (respOf op r 0 [])) (withSessions m s), { waits := true })) :
    ∃ m, (domAt (runToune op body r s) b).pending = some ⟨x m, some (respOf op r 0 [])⟩ ∧
      (domAt (runToune op body r s) b).sets = (domAt s b).sets ∧
      (runToune op body r s).toune.responses = s.toune.responses := by
  obtain ⟨m, ha, hresp, -⟩ := runs_holds h e fun m => (congrArg Toune.responses (setDom_toune ..)).trans rfl
  have hd : domAt (runToune op body r s) b = _ := (domAt_congr ha.tu b).trans (domAt_setDom_self ..)
  rw [hd]
  exact ⟨m, rfl, rfl, hresp⟩

/-! ### The statement -/

/-- Settles O49: each command by its body on the state in which the request has been noted.  Where the spec names only the fields, the
layouts are the model's choice (log entry 31). -/
theorem timeCommandsAnswerAndSetDomains : Obligations.TimeCommandsAnswerAndSetDomains := by
  intro r s b acc hacc
  subst hacc
  refine ⟨fun hr hp => ?query, ?seed,
    fun y hr hl hb hy hmax hmin => ⟨fun hbusy => ?_, fun hbusy => ?_⟩,
    fun force hr hl hb hf => ⟨fun h => ?select, fun st h => ?refuse⟩,
    fun hr hl hb => ?sets,
    fun f i x hr hl hb hn hf hi => ?convert, fun i n hr hl hi hi7 hn h1 h64 => ?tsi⟩
  case query =>
    obtain ⟨m, q⟩ := runs_yes hr fun _ => bodyTimeQuery_legal hp
    exact ⟨_, rfl, q⟩
  case sets =>
    obtain ⟨m, q⟩ := runs_yes hr fun _ => bodyDomainSetsRead_legal hl hb
    exact ⟨_, rfl, q⟩
  case seed =>
    intro op c cause hc hr hl hb hs hn hd hmax hmin ha hbusy
    have he : ∃ body, (∀ r s, exec (c r) s = .next (runToune op body r s)) ∧ body = seedCommand op cause := by
      simp only [List.mem_cons, Prod.mk.injEq, List.not_mem_nil, or_false] at hc
      obtain ⟨rfl, rfl, rfl⟩ | ⟨rfl, rfl, rfl⟩ := hc
      · exact ⟨_, fun _ _ => rfl, rfl⟩
      · exact ⟨_, fun _ _ => rfl, rfl⟩
    obtain ⟨body, hexec, rfl⟩ := he
    obtain ⟨m, hp, hsets, hresp⟩ := runs_pends hr fun _ => seedCommand_legal op hl hb hs hn hd hmax hmin ha hbusy
    exact ⟨_, _, _, hexec r s, hp, hsets, rfl, rfl, rfl, rfl, rfl, rfl, rfl, rfl, rfl, rfl, hresp⟩
  · exact ⟨_, rfl, runs_no hr fun _ => bodyDomainRate_busy hl hb hy hmax hmin hbusy⟩
  · obtain ⟨m, hp, hsets, hresp⟩ := runs_pends hr fun _ => bodyDomainRate_pends hl hb hy hmax hmin hbusy
    exact ⟨_, _, _, rfl, hp, hsets, rfl, rfl, rfl, rfl, rfl, rfl, hresp⟩
  case select =>
    obtain ⟨hw, m, ha⟩ := runs_defers hr (fun _ => bodyDomainSelect_waits hl hb hf h) (fun _ => rfl) (fun _ => rfl) fun _ => rfl
    exact ⟨_, rfl, hw, (congrArg Tu.selected ha.tu).trans rfl⟩
  case refuse =>
    obtain ⟨m, ha, hans, hev, -⟩ := runs_does hr (fun _ => bodyDomainSelect_refused hl hb hf h) fun _ => rfl
    exact ⟨_, rfl, hans, ha.tu, _, hev, rfl⟩
  case convert =>
    subst hf hi
    obtain ⟨m, q⟩ := runs_yes hr fun _ => bodyStampConvert_one hl hb hn
    change _ ∧ Answered _ r _ (converted _ (matchSet (domAt s b) _ _)) s _ at q
    refine ⟨fun h => ⟨_, rfl, ?_⟩, fun h => ⟨_, rfl, ?_⟩⟩
    · rwa [h] at q
    · rwa [h] at q
  case tsi =>
    subst hi hn
    obtain ⟨m, ha, hans, -⟩ := runs_does hr (fun _ => bodyTsiRead_legal hl hi7 h1 h64) fun _ => rfl
    have ht : ∀ j, tsiAt _ j = _ := fun j => (tsiAt_congr ha.tu j).trans (tgetD_tput ..)
    refine ⟨_, rfl, hans, ?_, fun j hj => (ht j).trans (if_neg hj)⟩
    rw [ht, if_pos rfl]
    rfl

end Sys2Proof.Machine
end

section
/-! Proofs.  The events of the time unit: sets that come into force, the renewal, pulses and edges (R380 to R392). -/

namespace Sys2Proof.Machine

/-! ### Sets -/

/-- Seconds, nanoseconds and fraction of a time that is not negative make it up again (R380). -/
theorem joinTime_splitTime {t : Int} (h : 0 ≤ t) :
    (((splitTime t).1 : Int) * 1000000000 + (splitTime t).2.1) * 65536 + (splitTime t).2.2 = t := by
  have hs : (0 : Int) < second := by decide
  have hq : 0 ≤ t.fdiv second := Int.fdiv_nonneg h hs.le
  have hm : t - t.fdiv second * second = t.fmod second := by rw [Int.fmod_def, Int.mul_comm]
  have h0 : 0 ≤ t.fmod second := Int.fmod_nonneg_of_pos _ hs
  obtain ⟨r, hr⟩ := Int.eq_ofNat_of_zero_le h0
  unfold splitTime
  dsimp only
  rw [hm, hr, Int.toNat_natCast, Int.toNat_of_nonneg hq]
  have hsplit : t - t.fdiv 65536000000000 * 65536000000000 = (r : Int) := hm.trans hr
  change (t.fdiv 65536000000000 * 1000000000 + ((r / 65536 : Nat) : Int)) * 65536 + ((r % 65536 : Nat) : Int) = t
  omega

/-- A set that only changes the rate goes on from the time that the set before it gives (R382). -/
theorem convert_continued (y : TimeSet) (vf : Dword) (rate : Int) (cause : Nat) (h : 0 ≤ y.convert vf) :
    (continued y vf rate cause).convert vf = y.convert vf := by
  have hz : (vf - vf).toInt = 0 := by rw [BitVec.sub_self]; rfl
  unfold TimeSet.convert continued
  dsimp only
  rw [hz, Int.zero_mul, Int.zero_fdiv, Int.add_zero, Int.add_zero]
  exact joinTime_splitTime h

section
variable (b : Bool) (x : TimeSet) (s : State)

/-- A set that comes into force stands last among the last 16, and nothing stays pending (R383, R384). -/
theorem domAt_enterSet : domAt (enterSet b x s) b = { domAt s b with
    sets := ((domAt s b).sets ++ [x]).drop (((domAt s b).sets ++ [x]).length - 16), pending := none } := by
  unfold enterSet
  extract_lets d sets s1 s2
  have h : s2.tu = s1.tu := (journal_same ..).tu rfl
  exact (domAt_congr (show (raise _ _ s2).tu = s1.tu from h) b).trans (domAt_setDom_self ..)

theorem now_enterSet : (domAt (enterSet b x s) b).now = some x := by
  rw [domAt_enterSet]
  unfold Domain.now
  dsimp only
  rw [List.getLast?_drop, if_neg (by simp), List.getLast?_concat]

theorem enterSet_responses : (enterSet b x s).toune.responses = s.toune.responses := by
  unfold enterSet
  extract_lets d sets s1 s2
  have h : s2.toune = s.toune := ((journal_same ..).toune rfl).trans (setDom_toune ..)
  exact (congrArg Toune.responses h :)

theorem enterSet_raised : Raised [(Ev.domainSet, setBytes b x)] s (enterSet b x s) := by
  unfold enterSet
  extract_lets d sets s1 s2
  have h : s2.toune = s.toune := ((journal_same ..).toune rfl).trans (setDom_toune ..)
  exact raise_raised _ _ (congrArg Toune.events h)

end

/-- The set that a pending one becomes: the first of its domain, the next one of a changed rate, or the next one (R382). -/
def setInForce (d : Domain) (x : TimeSet) : TimeSet :=
  match d.now with
  | none => { x with seq := 1, epoch := 0 }
  | some y => if x.cause = 1 then continued y x.validFrom x.rate 1
    else { x with seq := y.seq + 1, epoch := y.epoch + (if x.cause = 3 then 1 else 0) }

section
variable {b : Bool} {s : State}

theorem domainSet_idle (h : (domAt s b).pending = none) : domainSet b s = s := by
  unfold domainSet
  dsimp only
  rw [h]

theorem domainSet_answers {x : TimeSet} {q : Response} (h : (domAt s b).pending = some ⟨x, some q⟩) :
    domainSet b s = send { q with
      payload := le 8 (setInForce (domAt s b) x).validFrom.toNat ++ le 2 (setInForce (domAt s b) x).ident }
      (enterSet b (setInForce (domAt s b) x) s) := by
  unfold domainSet
  dsimp only
  rw [h]
  rfl

theorem domainSet_enters {x : TimeSet} (h : (domAt s b).pending = some ⟨x, none⟩) :
    domainSet b s = enterSet b (setInForce (domAt s b) x) s := by
  unfold domainSet
  dsimp only
  rw [h]
  rfl

/-- Whether a command waits for it or not, a pending set comes into force as `enterSet` says, and the command is answered. -/
theorem domainSet_spec {p : PendingSet} (h : (domAt s b).pending = some p) :
    domAt (domainSet b s) b = domAt (enterSet b (setInForce (domAt s b) p.set) s) b ∧
      Raised [(Ev.domainSet, setBytes b (setInForce (domAt s b) p.set))] s (domainSet b s) ∧
      (∀ q, p.resp = some q → (domainSet b s).toune.responses = s.toune.responses ++ [{ q with
        payload := le 8 (setInForce (domAt s b) p.set).validFrom.toNat ++ le 2 (setInForce (domAt s b) p.set).ident }]) ∧
      (p.resp = none → (domainSet b s).toune.responses = s.toune.responses) := by
  obtain ⟨x, resp⟩ := p
  obtain ⟨l, hl, hd⟩ := enterSet_raised b (setInForce (domAt s b) x) s
  cases resp with
  | none =>
    rw [domainSet_enters h]
    exact ⟨rfl, ⟨l, hl, hd⟩, fun _ h => (nomatch h), fun _ => enterSet_responses ..⟩
  | some q =>
    rw [domainSet_answers h]
    refine ⟨domAt_congr (send_answers ..).tu b, ⟨l, by rw [send_events, hl], hd⟩, fun q' hq => ?_, fun h => (nomatch h)⟩
    obtain rfl : q = q' := by simpa using hq
    rw [send_responses, enterSet_responses]

theorem now_of_sets_nil (h : (domAt s b).sets = []) : (domAt s b).now = none := by
  unfold Domain.now
  rw [h]
  rfl

section
variable {y : TimeSet} (hy : (domAt s b).now = some y)
include hy

theorem setInForce_next (x : TimeSet) : (setInForce (domAt s b) x).seq = y.seq + 1 ∧
    (setInForce (domAt s b) x).validFrom = x.validFrom ∧ (setInForce (domAt s b) x).rate = x.rate := by
  unfold setInForce
  rw [hy]
  dsimp only
  split <;> exact ⟨rfl, rfl, rfl⟩

theorem setInForce_reseed {x : TimeSet} (h : x.cause = 3) :
    (setInForce (domAt s b) x).epoch = y.epoch + 1 ∧ (setInForce (domAt s b) x).anchor = x.anchor := by
  unfold setInForce
  rw [hy]
  dsimp only
  rw [if_neg (by omega), if_pos h]
  exact ⟨rfl, rfl⟩

theorem setInForce_rate {x : TimeSet} (h : x.cause = 1) :
    setInForce (domAt s b) x = continued y x.validFrom x.rate 1 := by
  unfold setInForce
  rw [hy]
  exact if_pos h

theorem domainRenewal_early (h : (nowFrc s - y.anchor).toNat < 2 ^ 62) : domainRenewal b s = s := by
  unfold domainRenewal
  rw [hy]
  exact if_pos h

/-- The renewal enters a set of the same rate and puts back what is pending (R382). -/
theorem domAt_domainRenewal (h : 2 ^ 62 ≤ (nowFrc s - y.anchor).toNat) : domAt (domainRenewal b s) b = { domAt (enterSet b
    (continued y (boundary4 (y.anchor + BitVec.ofNat 64 (2 ^ 62))) y.rate 2) s) b with pending := (domAt s b).pending } := by
  unfold domainRenewal
  rw [hy]
  dsimp only
  rw [if_neg (by omega)]
  exact domAt_setDom_self ..

end

theorem domainRenewal_unseeded (h : (domAt s b).now = none) : domainRenewal b s = s := by
  unfold domainRenewal
  rw [h]

end

/-! ### Pulses and edges -/

section
variable {k : Nat} {f : Dword} {s : State}

theorem ppsPulseStart_disabled (h : bitOf (reg s 2 0 (8 + 2 * k)).toNat 0 = false) : ppsPulseStart k f s = s := by
  unfold ppsPulseStart
  split
  · rfl
  · exact if_pos (by simp [h])

/-- The first pulse, and the one of the second after the latest, starts (R389). -/
theorem ppsPulseStart_starts {x : TimeSet} {u v : Int} (he : bitOf (reg s 2 0 (8 + 2 * k)).toNat 0 = true)
    (hx : (domAt s s.tu.selected).now = some x) (hu : u = x.convert f - (reg s 2 0 (9 + 2 * k)).toInt)
    (hv : v = u.fdiv second) (hr : u - v * second < 65536)
    (hl : (ppsAt s k).lastSecond = none ∨ ∃ l, (ppsAt s k).lastSecond = some l ∧ v.toNat = l + 1) :
    ppsPulseStart k f s = setPps k { ppsAt s k with
      active := true, lastSecond := some v.toNat, seen := some (s.tu.selected, x.epoch.toNat) } s := by
  subst hv hu
  unfold ppsPulseStart
  rw [hx]
  dsimp only
  rw [if_neg (by simp [he])]
  obtain h | ⟨l, h, hsec⟩ := hl
  · rw [h]
    exact if_pos hr
  · rw [h]
    dsimp only
    rw [if_neg (by omega), if_pos (by simp [hr, hsec])]

theorem ppsAt_setPps_self (x : Pps) : ppsAt (setPps k x s) k = x := tgetD_tput_self ..

end

/-- A servo step that finds no room among the items of its class is dropped without an event (R506). -/
theorem postItem_servo_same (d : Nat) (s : State) : Same 4096 s (postItem d .servo s) := by
  unfold postItem
  exact Same.ite (Same.setSvc ..) (Same.rfl' _)

/-- The entry of an edge: its stamp, its input and edge, the quality, both identities and what was lost before it (R392). -/
def edgeEntry (i : Nat) (rising : Bool) (stamp : Dword) (s : State) : List Byte :=
  le 8 stamp.toNat ++ le 1 (i + 8 * b2n rising) ++ le 1 (quality s (!s.cal.valid)) ++ le 2 (identAt s false stamp) ++
    le 2 (identAt s true stamp) ++ le 2 (min (tsiAt s i).lost 0xFFFF)

theorem le_length (n x : Nat) : (le n x).length = n := by
  induction n generalizing x with
  | zero => rfl
  | succ n ih => exact congrArg Nat.succ (ih _)

/-- An entry starts with its stamp. -/
theorem edgeEntry_stamp (i : Nat) (rising : Bool) (stamp : Dword) (s : State) :
    (edgeEntry i rising stamp s).take 8 = le 8 stamp.toNat := by
  unfold edgeEntry
  simp only [List.append_assoc]
  exact List.take_left' (le_length ..)

section
variable {i : Nat} {rising : Bool} {f : Dword} {s : State}

theorem tsiEdge_disabled (h : bitOf (reg s 2 0 (0x10 + 4 * i)).toNat (if rising then 0 else 1) = false) :
    tsiEdge i rising f s = s := by
  unfold tsiEdge
  exact if_pos (by simp [h])

variable (he : bitOf (reg s 2 0 (0x10 + 4 * i)).toNat (if rising then 0 else 1) = true)
include he

/-- With 64 entries held an edge is counted lost (R392). -/
theorem tsiEdge_loses (h : 64 ≤ (tsiAt s i).fifo.length) :
    tsiAt (tsiEdge i rising f s) i = { tsiAt s i with lost := (tsiAt s i).lost + 1 } ∧
      counter (tsiEdge i rising f s) (paddr 2 0 (0x12 + 4 * i)) =
        min (counter s (paddr 2 0 (0x12 + 4 * i)) + 1) (2 ^ 32 - 1) := by
  unfold tsiEdge
  dsimp only
  rw [if_neg (by simp [he]), if_pos h]
  have k := raiseLimited_same Ev.tsiOverflow i (fun n => le 1 i ++ le 4 n)
    (bump32 2 0 (0x12 + 4 * i) 1 (setTsi i { tsiAt s i with lost := (tsiAt s i).lost + 1 } s))
  refine ⟨(tsiAt_congr (k.tu rfl) i).trans (tgetD_tput_self ..), ?_⟩
  unfold counter
  rw [k.prm rfl]
  exact tgetD_tput_self ..

/-- An edge with room appends its entry and, where its word asks for it, raises an event with it (R391, R392). -/
theorem tsiEdge_appends (h : (tsiAt s i).fifo.length < 64) :
    tsiAt (tsiEdge i rising f s) i = { tsiAt s i with
      fifo := (tsiAt s i).fifo ++ [edgeEntry i rising (f - BitVec.ofInt 64 (tsiDelay s i rising)) s], lost := 0 } ∧
    (bitOf (reg s 2 0 (0x10 + 4 * i)).toNat 2 = true →
      Raised [(Ev.tsiEdge, edgeEntry i rising (f - BitVec.ofInt 64 (tsiDelay s i rising)) s)] s (tsiEdge i rising f s)) := by
  unfold tsiEdge
  extract_lets c x _ stamp e s1 s2
  rw [if_neg (by simpa [c] using he), if_neg (by simpa [x] using h)]
  have k : Same 4096 s1 s2 := Same.foldl (fun _ _ => Same.ite (postItem_servo_same ..) (Same.rfl' _)) _ _
  have ht : tsiAt s2 i = { x with fifo := x.fifo ++ [e], lost := 0 } :=
    (tsiAt_congr (k.tu rfl) i).trans (tgetD_tput_self ..)
  have hv : s2.toune.events = s.toune.events := congrArg Toune.events (k.toune rfl)
  refine ⟨?_, fun h2 => ?_⟩
  · split <;> exact ht
  · rw [if_pos h2]
    exact raise_raised _ _ hv

end

/-! ### The statement -/

/-- Settles O50: each event by the case that the state puts it in.  That a pulse starts within the first nanosecond of its second is the
model's choice (log entry 43). -/
theorem timeEventsMoveDomainsAndPins : Obligations.TimeEventsMoveDomainsAndPins := by
  intro b s
  refine ⟨fun h => congrArg Host.Outcome.next (domainSet_idle h), fun p hp => ⟨fun h => ?first, fun y hy => ?next⟩,
    fun h => congrArg Host.Outcome.next (domainRenewal_unseeded h),
    fun y hy => ⟨fun h => congrArg Host.Outcome.next (domainRenewal_early hy h), fun h => ?renewal⟩,
    fun k f => ⟨fun h => congrArg Host.Outcome.next (ppsPulseStart_disabled h), ?pulse, _, rfl, ppsAt_setPps_self _⟩,
    fun i rising f => ⟨fun h => congrArg Host.Outcome.next (tsiEdge_disabled h), fun he =>
      ⟨fun h => ⟨_, rfl, tsiEdge_loses he h⟩, fun h => ?edge⟩⟩⟩
  case first =>
    have hx : setInForce (domAt s b) p.set = { p.set with seq := 1, epoch := 0 } := by
      unfold setInForce
      rw [now_of_sets_nil h]
    have hd := (domainSet_spec hp).1
    rw [domAt_enterSet, h, hx] at hd
    exact ⟨_, rfl, congrArg Domain.sets hd, congrArg Domain.pending hd⟩
  case next =>
    obtain ⟨hd, hev, hsome, hnone⟩ := domainSet_spec hp
    obtain ⟨hseq, hvf, hrate⟩ := setInForce_next hy p.set
    refine ⟨_, setInForce (domAt s b) p.set, rfl, (congrArg Domain.now hd).trans (now_enterSet ..), ?_, hseq, hvf, hrate,
      setInForce_reseed hy, fun h => ?_, hev, hsome, hnone⟩
    · rw [hd, domAt_enterSet]
    · rw [setInForce_rate hy h]
      exact ⟨rfl, convert_continued y p.set.validFrom p.set.rate 1⟩
  case renewal =>
    have hd := domAt_domainRenewal hy h
    have hnow := (congrArg Domain.now hd).trans (now_enterSet b _ s)
    exact ⟨_, _, rfl, hnow, rfl, rfl, rfl, rfl, rfl, (congrArg Domain.pending hd :)⟩
  case pulse =>
    intro x u v he hx hu hv hr hl
    refine ⟨_, congrArg Host.Outcome.next (ppsPulseStart_starts he hx hu hv hr hl), ?_, ?_, [], (List.append_nil _).symm, rfl⟩
    · rw [ppsAt_setPps_self]
    · rw [ppsAt_setPps_self]
  case edge =>
    obtain ⟨ht, hev⟩ := tsiEdge_appends he h
    exact ⟨_, _, rfl, ht, edgeEntry_stamp .., hev⟩

end Sys2Proof.Machine
end

section
/-! Proofs.  The rules of a memory controller's state: its record, its log and its counters after each operation (R410 to R421). -/

namespace Sys2Proof.Machine

/-! ### Records and counters -/

section
variable {c : Bool} {k : Nat} {s t u : State}

theorem memAt_setMem (x : MemUnit) (d : Bool) (j : Nat) :
    memAt (setMem c k x s) d j = if memKey d j = memKey c k then x else memAt s d j := tgetD_tput ..

@[simp] theorem memAt_setMem_self (x : MemUnit) : memAt (setMem c k x s) c k = x := (memAt_setMem ..).trans (if_pos rfl)

theorem memAt_congr (h : t.mem = s.mem) (d : Bool) (j : Nat) : memAt t d j = memAt s d j := by unfold memAt; rw [h]

/-- Every controller but one is as it was. -/
def OtherMems (c : Bool) (k : Nat) (s t : State) : Prop := ∀ d j, memKey d j ≠ memKey c k → memAt t d j = memAt s d j

theorem OtherMems.trans (h : OtherMems c k s t) (g : OtherMems c k t u) : OtherMems c k s u :=
  fun d j hj => (g d j hj).trans (h d j hj)

theorem OtherMems.of_eq (h : t.mem = s.mem) : OtherMems c k s t := fun d j _ => memAt_congr h d j

theorem otherMems_setMem (x : MemUnit) : OtherMems c k s (setMem c k x s) :=
  fun d j hj => (memAt_setMem x d j).trans (if_neg hj)

/-- Counters of controllers are no words of another class, and differ by their word. -/
theorem counter_bump32_self (cls i w n : Nat) (s : State) :
    counter (bump32 cls i w n s) (paddr cls i w) = min (counter s (paddr cls i w) + n) (2 ^ 32 - 1) :=
  (counter_bump ..).trans (if_pos rfl)

theorem counter_bump32_word {cls i w v : Nat} (n : Nat) (s : State) (h : v ≠ w) :
    counter (bump32 cls i w n s) (paddr cls i v) = counter s (paddr cls i v) :=
  (counter_bump ..).trans (if_neg fun q => h (Nat.add_left_cancel q))

end

/-! ### Leaving service -/

section
variable {c : Bool} {k : Nat} {s : State}

/-- A unit that is not of safety class leaves at the next boundary (R411, R412). -/
theorem memOut_leaves (h : (c || !memSafety s c k) = true) : memOut c k s = leaveService ⟨memCls c, k⟩ 2 s := by
  unfold memOut
  refine if_neg ?_
  cases c <;> simp_all

/-- A unit of safety class is recorded and leads to SAFE (R411, R412). -/
theorem memOut_records (h : (c || !memSafety s c k) = false) (hm : s.sys.mode ≠ .reset) :
    Recorded 0x17 14 k 0 s (memOut c k s) := by
  obtain ⟨rfl, hs⟩ : c = false ∧ memSafety s c k = true := by simpa using h
  unfold memOut
  rw [hs]
  exact nameUnit_recorded (recordFault_recorded 14 k 0 hm (by decide))

end

/-! ### The log -/

section
variable {c : Bool} {k : Nat}

/-- An entry of the log: kind, flags without the safety flag, address and requester (R420). -/
def memEntry (s : State) (c : Bool) (k kind flags addr req : Nat) : List Byte :=
  le 6 s.tick.count.toNat ++ le 1 kind ++ le 1 (flags + b2n (memSafety s c k)) ++ le 5 (addr % 2 ^ 38) ++
    le 1 (selectBits s c k addr) ++ le 1 req ++ le 1 0

theorem memLog_eq (kind flags addr req : Nat) (s : State) : memLog c k kind flags addr req s = setMem c k { memAt s c k with
    log := ((memAt s c k).log ++ [memEntry s c k kind flags addr req]).drop ((memAt s c k).log.length + 1 - 16) } s := by
  unfold memLog
  dsimp only
  rw [List.length_append]
  rfl

/-- The log of the unit has one entry more, of the last 16, and no other controller has changed. -/
def MemLogged (c : Bool) (k : Nat) (e : List Byte) (s t : State) : Prop :=
  (memAt t c k).log = ((memAt s c k).log ++ [e]).drop ((memAt s c k).log.length + 1 - 16) ∧ OtherMems c k s t

/-- A state in which an entry of the unit's log spells the same, and its log is the same: what counting an error leaves. -/
structure LogStands (c : Bool) (k : Nat) (s t : State) : Prop where
  tick : t.tick = s.tick
  regs : t.prm.regs = s.prm.regs
  log : (memAt t c k).log = (memAt s c k).log
  cols : (memAt t c k).colBits = (memAt s c k).colBits
  sels : (memAt t c k).selBits = (memAt s c k).selBits
  gib : (memAt t c k).gib = (memAt s c k).gib
  pos : (memAt t c k).scrubPos = (memAt s c k).scrubPos
  others : OtherMems c k s t

variable {s t u : State}

theorem memSafety_congr (h : t.prm.regs = s.prm.regs) : memSafety t c k = memSafety s c k := by
  unfold memSafety
  rw [reg_congr h]

theorem LogStands.rfl' (s : State) : LogStands c k s s := ⟨rfl, rfl, rfl, rfl, rfl, rfl, rfl, .of_eq rfl⟩

theorem LogStands.trans (h : LogStands c k s t) (g : LogStands c k t u) : LogStands c k s u :=
  ⟨g.tick.trans h.tick, g.regs.trans h.regs, g.log.trans h.log, g.cols.trans h.cols, g.sels.trans h.sels,
    g.gib.trans h.gib, g.pos.trans h.pos, h.others.trans g.others⟩

/-- Counters, marks and events are no part of it. -/
theorem LogStands.of_same {w : Nat} (h : Same w s t) (ht : w.testBit 3 = false) (hr : w.testBit 23 = false)
    (hm : w.testBit 20 = false) : LogStands c k s t :=
  have q := fun d j => memAt_congr (h.mem hm) d j
  ⟨h.tick ht, h.regs hr, by rw [q], by rw [q], by rw [q], by rw [q], by rw [q], .of_eq (h.mem hm)⟩

theorem LogStands.selectBits (h : LogStands c k s t) (addr : Nat) : selectBits t c k addr = Machine.selectBits s c k addr := by
  unfold Machine.selectBits ddrMask
  dsimp only
  simp only [h.cols, h.sels, h.regs, reg_congr h.regs]

theorem LogStands.entry (h : LogStands c k s t) (kind flags addr req : Nat) :
    memEntry t c k kind flags addr req = memEntry s c k kind flags addr req := by
  unfold memEntry
  rw [h.selectBits, memSafety_congr h.regs, h.tick]

/-- An entry made after what leaves the log stands is the entry of the state before it. -/
theorem LogStands.logs (h : LogStands c k s t) (kind flags addr req : Nat) :
    MemLogged c k (memEntry s c k kind flags addr req) s (memLog c k kind flags addr req t) := by
  rw [memLog_eq, h.entry, h.log]
  refine ⟨?_, h.others.trans (otherMems_setMem _)⟩
  rw [memAt_setMem_self]

theorem MemLogged.of_after {e : List Byte} (h : MemLogged c k e s t) (hm : u.mem = t.mem) : MemLogged c k e s u :=
  ⟨(congrArg MemUnit.log (memAt_congr hm c k)).trans h.1, h.2.trans (.of_eq hm)⟩

/-- An entry in the log leaves the unit's geometry and the position of its scrub. -/
theorem memLog_unit (kind flags addr req : Nat) (s : State) :
    (memAt (memLog c k kind flags addr req s) c k).scrubPos = (memAt s c k).scrubPos ∧
      (memAt (memLog c k kind flags addr req s) c k).gib = (memAt s c k).gib ∧
      (memAt (memLog c k kind flags addr req s) c k).alerts = (memAt s c k).alerts := by
  rw [memLog_eq, memAt_setMem_self]
  exact ⟨rfl, rfl, rfl⟩

theorem memLog_prm (kind flags addr req : Nat) (s : State) : (memLog c k kind flags addr req s).prm = s.prm :=
  (memLog_same ..).prm rfl

/-! ### Corrected and uncorrectable errors -/

/-- Counting a corrected error leaves the log, and counts it in CE_COUNT (R415). -/
theorem memCe_spec (s : State) : LogStands c k s (memCe c k s) ∧
    counter (memCe c k s) (paddr (memCls c) k 3) = min (counter s (paddr (memCls c) k 3) + 1) (2 ^ 32 - 1) := by
  unfold memCe
  extract_lets x l n lim s1
  have h1 : LogStands c k s s1 := by
    refine .trans (t := setMem c k { x with ces := l } s) ⟨rfl, rfl, ?_, ?_, ?_, ?_, ?_, otherMems_setMem _⟩ (.of_same (bump32_same ..) rfl rfl rfl)
    all_goals rw [memAt_setMem_self]
  have h2 : counter s1 (paddr (memCls c) k 3) = min (counter s (paddr (memCls c) k 3) + 1) (2 ^ 32 - 1) :=
    counter_bump32_self ..
  split
  · exact ⟨h1.trans (.of_same (raiseOnce_same ..) rfl rfl rfl), (counter_congr ((raiseOnce_same ..).prm rfl) _).trans h2⟩
  · exact ⟨h1, h2⟩

theorem memRead_corrected (addr req : Nat) (s : State) :
    MemLogged c k (memEntry s c k 1 0 addr req) s (memRead c k addr req .corrected s) ∧
      counter (memRead c k addr req .corrected s) (paddr (memCls c) k 3) =
        min (counter s (paddr (memCls c) k 3) + 1) (2 ^ 32 - 1) := by
  obtain ⟨hl, hc⟩ := memCe_spec (c := c) (k := k) s
  exact ⟨hl.logs .., (counter_congr (memLog_prm ..) _).trans hc⟩

/-- A clean second read is a corrected error, but on a safety-class unit none is made (R415, R416). -/
theorem memRead_second (h : memSafety s c k = false) (addr req : Nat) :
    MemLogged c k (memEntry s c k 2 4 addr req) s (memRead c k addr req .second s) ∧
      counter (memRead c k addr req .second s) (paddr (memCls c) k 3) =
        min (counter s (paddr (memCls c) k 3) + 1) (2 ^ 32 - 1) := by
  obtain ⟨hl, hc⟩ := memCe_spec (c := c) (k := k) s
  unfold memRead
  rw [h]
  exact ⟨hl.logs .., (counter_congr (memLog_prm ..) _).trans hc⟩

/-- An uncorrectable read: counted in UE_COUNT, logged, and told once a period (R416). -/
def memUncorrectable (c : Bool) (k addr req : Nat) (s : State) : State :=
  raiseLimited Ev.memUe (memMark c k) (fun n => le 1 (memCls c) ++ le 2 k ++ le 4 n)
    (memLog c k 2 0 addr req (bump32 (memCls c) k 4 1 s))

theorem memRead_uncorrectable {e : ReadErr} (h : e = .uncorrectable ∨ (e = .second ∧ memSafety s c k = true))
    (addr req : Nat) : memRead c k addr req e s = memUncorrectable c k addr req s := by
  unfold memRead
  obtain rfl | ⟨rfl, hs⟩ := h
  · cases memSafety s c k <;> rfl
  · rw [hs]
    rfl

theorem memUncorrectable_spec (addr req : Nat) (s : State) :
    MemLogged c k (memEntry s c k 2 0 addr req) s (memUncorrectable c k addr req s) ∧
      counter (memUncorrectable c k addr req s) (paddr (memCls c) k 4) =
        min (counter s (paddr (memCls c) k 4) + 1) (2 ^ 32 - 1) := by
  have hl : LogStands c k s (bump32 (memCls c) k 4 1 s) := .of_same (bump32_same ..) rfl rfl rfl
  refine ⟨(hl.logs ..).of_after ((raiseLimited_same ..).mem rfl), ?_⟩
  refine (counter_congr (((raiseLimited_same ..).prm rfl).trans (memLog_prm ..)) _).trans ?_
  exact counter_bump32_self ..

/-- A read leaves the position of the scrub, the unit's size and every other controller. -/
theorem memRead_unit (addr req : Nat) (e : ReadErr) (s : State) :
    (memAt (memRead c k addr req e s) c k).scrubPos = (memAt s c k).scrubPos ∧
      (memAt (memRead c k addr req e s) c k).gib = (memAt s c k).gib ∧ OtherMems c k s (memRead c k addr req e s) := by
  have hce : ∀ kind flags, (memAt (memLog c k kind flags addr req (memCe c k s)) c k).scrubPos = (memAt s c k).scrubPos ∧
      (memAt (memLog c k kind flags addr req (memCe c k s)) c k).gib = (memAt s c k).gib ∧
      OtherMems c k s (memLog c k kind flags addr req (memCe c k s)) := by
    intro kind flags
    obtain ⟨hl, -⟩ := memCe_spec (c := c) (k := k) s
    obtain ⟨hp, hg, -⟩ := memLog_unit (c := c) (k := k) kind flags addr req (memCe c k s)
    exact ⟨hp.trans hl.pos, hg.trans hl.gib, (hl.logs kind flags addr req).2⟩
  have hue : (memAt (memUncorrectable c k addr req s) c k).scrubPos = (memAt s c k).scrubPos ∧
      (memAt (memUncorrectable c k addr req s) c k).gib = (memAt s c k).gib ∧
      OtherMems c k s (memUncorrectable c k addr req s) := by
    obtain ⟨hp, hg, -⟩ := memLog_unit (c := c) (k := k) 2 0 addr req (bump32 (memCls c) k 4 1 s)
    have hm := memAt_congr ((raiseLimited_same Ev.memUe (memMark c k) (fun n => le 1 (memCls c) ++ le 2 k ++ le 4 n)
      (memLog c k 2 0 addr req (bump32 (memCls c) k 4 1 s))).mem rfl) c k
    unfold memUncorrectable at *
    rw [hm]
    exact ⟨hp, hg, (memUncorrectable_spec addr req s).1.2⟩
  cases e with
  | clean => exact ⟨rfl, rfl, .of_eq rfl⟩
  | corrected => exact hce 1 0
  | uncorrectable => rw [memRead_uncorrectable (.inl rfl)]; exact hue
  | second =>
    cases hs : memSafety s c k with
    | true => rw [memRead_uncorrectable (.inr ⟨rfl, hs⟩)]; exact hue
    | false =>
      unfold memRead
      rw [hs]
      exact hce 2 4

end

end Sys2Proof.Machine
end

section
/-! Proofs.  The memory controllers: refresh, retraining, temperatures, the patrol scrub, alerts, the power-down and the log (R42, R410 to
R421). -/

namespace Sys2Proof.Machine

/-! ### Refresh, retraining and temperature -/

section
variable {c : Bool} {k : Nat} {s : State}

/-- A unit out of service does none of these (R410 to R418). -/
theorem outOfService_idle (h : memIn s c k = false) : memRefresh c k s = s ∧ (∀ d, memRetrain c k d s = s) ∧
    (∀ b, memTempRead c k b s = s) ∧ (∀ l, memPatrolScrub c k l s = s) ∧ (∀ a r e, memReadComplete c k a r e s = s) ∧
    ∀ a b r, memAlert c k a b r s = s := by
  refine ⟨?_, fun d => ?_, fun b => ?_, fun l => ?_, fun a r e => ?_, fun a b r => ?_⟩
  · exact if_pos (by simp [h])
  · exact if_pos (by simp [h])
  · exact if_pos (by simp [h])
  · exact if_pos (by simp [h])
  · exact if_neg (by simp [h])
  · exact if_pos (by simp [h])

variable (hin : memIn s c k = true)
include hin

theorem memRefresh_idle (h : (refreshTick (if doubled s (memAt s c k) then 64 else 32) s.tick.count.toNat ||
    (memAt s c k).owed) = false) : memRefresh c k s = s := by
  unfold memRefresh
  rw [if_neg (by simp [hin])]
  exact if_pos (by simp [h])

/-- A refresh that is due is made, or put off by a retraining tick (R42). -/
theorem memRefresh_due (h : (refreshTick (if doubled s (memAt s c k) then 64 else 32) s.tick.count.toNat ||
    (memAt s c k).owed) = true) : memRefresh c k s = setMem c k (if retrainTick c k s.tick.count.toNat then
      { memAt s c k with owed := true }
      else { memAt s c k with refreshes := (memAt s c k).refreshes + 1, owed := false }) s := by
  unfold memRefresh
  rw [if_neg (by simp [hin])]
  dsimp only
  rw [if_neg (by simp [h])]
  split <;> rfl

omit hin in
theorem memRetrain_idle (h : retrainTick c k s.tick.count.toNat = false) (d : Option Byte) : memRetrain c k d s = s :=
  if_pos (by simp [h])

/-- The unit has been retrained in its window (R412). -/
def retrainNoted (c : Bool) (k : Nat) (s : State) : State :=
  setMem c k { memAt s c k with retrained := some s.tick.count } s

section
variable (h : retrainTick c k s.tick.count.toNat = true)
include h

theorem memRetrain_good : memRetrain c k none s = retrainNoted c k s := by
  unfold memRetrain
  exact if_neg (by simp [hin, h])

theorem memRetrain_drift (d : Byte) : memRetrain c k (some d) s =
    memOut c k (raise Ev.memRetrainDrift (le 1 (memCls c) ++ le 2 k ++ [d]) (retrainNoted c k s)) := by
  unfold memRetrain
  exact if_neg (by simp [hin, h])

end

omit hin in
/-- What follows a finding that takes a unit out: the event and the switch-out at the next boundary, or, on a safety-class unit, the
record of MEM_SAFETY_UNIT (R411, R412). -/
theorem memOut_told (code : Nat) (d : List Byte) {u : State} (hsys : u.sys = s.sys) (htick : u.tick = s.tick)
    (htoune : u.toune = s.toune) (hzal : u.zal = s.zal) (hregs : u.prm = s.prm) (hm : s.sys.mode ≠ .reset) :
    ((c || !memSafety s c k) = true →
      (memOut c k (raise code d u)).sys.deferred =
        s.sys.deferred ++ [{ due := s.tick.count + 1, change := .unitOut ⟨memCls c, k⟩ 2 }] ∧
      Raised [(code, d)] s (memOut c k (raise code d u))) ∧
    ((c || !memSafety s c k) = false → Recorded 0x17 14 k 0 s (memOut c k (raise code d u))) := by
  have hs : memSafety (raise code d u) c k = memSafety s c k := memSafety_congr (congrArg Params.regs hregs)
  refine ⟨fun h => ?_, fun h => ?_⟩
  · rw [memOut_leaves (hs.symm ▸ h)]
    refine ⟨?_, raise_raised code d (congrArg Toune.events htoune)⟩
    show u.sys.deferred ++ [_] = _
    rw [hsys, show (raise code d u).tick = s.tick from htick]
  · exact (memOut_records (hs.symm ▸ h) (by rw [show (raise code d u).sys = s.sys from hsys]; exact hm)).of_before hzal
      (congrArg Sys.mode hsys) (congrArg TickState.count htick)

omit hin in
theorem memTempRead_early (h : ∃ m, (memAt s c k).tempTick = some m ∧ ticksSince s.tick.count m < 1024) (b : Byte) :
    memTempRead c k b s = s := by
  obtain ⟨m, hm, hw⟩ := h
  unfold memTempRead
  extract_lets x early
  have he : early = true := by
    show (match (memAt s c k).tempTick with | some t => _ | none => _) = _
    rw [hm]
    exact decide_eq_true hw
  exact if_pos (by simp [he])

/-- A reading taken by the unit: temperature, run of hot readings and refresh rate (R411). -/
def tempNoted (c : Bool) (k : Nat) (b : Byte) (s : State) : State :=
  setMem c k { memAt s c k with
    temp := b
    hot := if regField s (memCls c) (memShared c) 0x11 7 0 ≤ b.toNat then (memAt s c k).hot + 1 else 0
    tempTick := some s.tick.count, hotRateWas := (memAt s c k).hotRate, hotRate := decide (85 ≤ b.toNat) } s

/-- The sixteenth hot reading in a row takes the unit out (R411). -/
theorem memTempRead_reads (h : ∀ m, (memAt s c k).tempTick = some m → 1024 ≤ ticksSince s.tick.count m) (b : Byte) :
    memTempRead c k b s = if (memAt (tempNoted c k b s) c k).hot = 16 then
      memOut c k (raise Ev.memHot (le 1 (memCls c) ++ le 2 k ++ [b]) (tempNoted c k b s)) else tempNoted c k b s := by
  unfold tempNoted
  rw [memAt_setMem_self]
  unfold memTempRead
  extract_lets x early hot s1
  have he : early = false := by
    show (match (memAt s c k).tempTick with | some t => _ | none => _) = _
    split
    next t ht => simpa using h t ht
    next => rfl
  exact if_neg (by simp [hin, he])

/-! ### The patrol scrub -/

omit hin in
/-- One read of the patrol scrub, and the next position (R410). -/
def scrubRead (c : Bool) (k : Nat) (s : State) (e : ReadErr) : State :=
  setMem c k { memAt (memRead c k (64 * (memAt s c k).scrubPos) 4 e s) c k with
    scrubPos := ((memAt s c k).scrubPos + 1) % max 1 (memUnits s c k) } (memRead c k (64 * (memAt s c k).scrubPos) 4 e s)

/-- The reads that a tick leaves to the scrub (R410). -/
def scrubRate (s : State) (c : Bool) (k : Nat) : Nat :=
  min (spareAccesses s c k) (min 8 (regField s (memCls c) (memShared c) 0x10 3 0))

theorem memPatrolScrub_eq (l : List ReadErr) :
    memPatrolScrub c k l s = (l.take (scrubRate s c k)).foldl (scrubRead c k) s := by
  unfold memPatrolScrub
  exact if_neg (by simp [hin])

omit hin in
theorem scrubRead_unit (e : ReadErr) (s : State) :
    (memAt (scrubRead c k s e) c k).scrubPos = ((memAt s c k).scrubPos + 1) % max 1 (memUnits s c k) ∧
      memUnits (scrubRead c k s e) c k = memUnits s c k ∧ OtherMems c k s (scrubRead c k s e) := by
  obtain ⟨-, hg, ho⟩ := memRead_unit (c := c) (k := k) (64 * (memAt s c k).scrubPos) 4 e s
  unfold scrubRead memUnits at *
  rw [memAt_setMem_self]
  exact ⟨rfl, by dsimp only; rw [hg], ho.trans (otherMems_setMem _)⟩

omit hin in
/-- So many reads take the scrub so many positions on, around the unit (R410). -/
theorem foldl_scrubRead (l : List ReadErr) (s : State) : OtherMems c k s (l.foldl (scrubRead c k) s) ∧
    (l ≠ [] → (memAt (l.foldl (scrubRead c k) s) c k).scrubPos =
      ((memAt s c k).scrubPos + l.length) % max 1 (memUnits s c k)) := by
  induction l generalizing s with
  | nil => exact ⟨.of_eq rfl, fun h => absurd rfl h⟩
  | cons e l ih =>
    obtain ⟨hp, hu, ho⟩ := scrubRead_unit (c := c) (k := k) e s
    obtain ⟨io, ip⟩ := ih (scrubRead c k s e)
    refine ⟨ho.trans io, fun _ => ?_⟩
    rw [List.foldl_cons]
    cases l with
    | nil => exact hp
    | cons e' l =>
      rw [ip (by simp), hp, hu, Nat.mod_add_mod]
      simp only [List.length_cons]
      congr 1
      omega

theorem memPatrolScrub_one (h : scrubRate s c k ≠ 0) (e : ReadErr) : memPatrolScrub c k [e] s = scrubRead c k s e := by
  obtain ⟨n, hn⟩ := Nat.exists_eq_succ_of_ne_zero h
  rw [memPatrolScrub_eq hin, hn, List.take_succ_cons, List.take_nil]
  rfl

/-! ### Alerts -/

/-- The kind of an alert: a write CRC error on a DDR5 unit that checks them, or a command or parity error (R417). -/
def alertKind (s : State) (c : Bool) (k : Nat) (crc : Bool) : Nat := if crc && c && (reg s 15 k 0).getLsbD 1 then 4 else 3

/-- An alert has been counted, in its period and in ALERT_COUNT (R418). -/
def alertNoted (c : Bool) (k : Nat) (s : State) : State :=
  bump32 (memCls c) k 6 1 (setMem c k { memAt s c k with alerts := inPeriod s (memAt s c k).alerts } s)

/-- The alert of a safety-class unit (R419). -/
def alertSafety (c : Bool) (k addr kind req : Nat) (s : State) : State :=
  raise Ev.memSafetyErr (le 1 (memCls c) ++ le 2 k ++ le 1 kind ++ le 5 addr)
    (recordFault 0x13 (memCls c) k 0 (memLog c k kind 0 addr req (alertNoted c k s)))

/-- The alert of another unit: its accesses are replayed (R418). -/
def alertReplayed (c : Bool) (k addr kind req : Nat) (s : State) : State :=
  raiseLimited Ev.memParityReplay (memMark c k) (fun m => le 1 (memCls c) ++ le 2 k ++ le 4 m)
    (bump32 (memCls c) k 5 1 (memLog c k kind 2 addr req (alertNoted c k s)))

omit hin in
theorem alertNoted_spec (s : State) : LogStands c k s (alertNoted c k s) ∧
    (memAt (alertNoted c k s) c k).alerts = inPeriod s (memAt s c k).alerts ∧
    counter (alertNoted c k s) (paddr (memCls c) k 6) = min (counter s (paddr (memCls c) k 6) + 1) (2 ^ 32 - 1) ∧
    counter (alertNoted c k s) (paddr (memCls c) k 5) = counter s (paddr (memCls c) k 5) := by
  refine ⟨.trans (t := setMem c k { memAt s c k with alerts := inPeriod s (memAt s c k).alerts } s)
    ⟨rfl, rfl, ?_, ?_, ?_, ?_, ?_, otherMems_setMem _⟩ (.of_same (bump32_same ..) rfl rfl rfl), ?_,
    counter_bump32_self .., counter_bump32_word _ _ (by decide)⟩
  all_goals first | rw [memAt_setMem_self] | exact congrArg MemUnit.alerts (memAt_setMem_self _)

theorem memAlert_safety (hs : memSafety s c k = true) (addr : Nat) (crc : Bool) (req : Nat) :
    memAlert c k addr crc req s = alertSafety c k addr (alertKind s c k crc) req s := by
  have h : memSafety (alertNoted c k s) c k = true := (memSafety_congr rfl).trans hs
  unfold memAlert
  rw [if_neg (by simp [hin])]
  exact if_pos h

theorem memAlert_replays (hs : memSafety s c k = false) (addr : Nat) (crc : Bool) (req : Nat) :
    memAlert c k addr crc req s = if (inPeriod s (memAt s c k).alerts).2 = 4 then
        leaveService ⟨memCls c, k⟩ 2 (raise Ev.memReplayExhausted (le 1 (memCls c) ++ le 2 k)
          (alertReplayed c k addr (alertKind s c k crc) req s))
      else alertReplayed c k addr (alertKind s c k crc) req s := by
  have h : memSafety (alertNoted c k s) c k = false := (memSafety_congr rfl).trans hs
  unfold memAlert
  rw [if_neg (by simp [hin])]
  exact if_neg (ne_true_of_eq_false h)

omit hin in
theorem alertSafety_spec (hm : s.sys.mode ≠ .reset) (addr kind req : Nat) :
    MemLogged c k (memEntry s c k kind 0 addr req) s (alertSafety c k addr kind req s) ∧
      (memAt (alertSafety c k addr kind req s) c k).alerts = inPeriod s (memAt s c k).alerts ∧
      counter (alertSafety c k addr kind req s) (paddr (memCls c) k 6) =
        min (counter s (paddr (memCls c) k 6) + 1) (2 ^ 32 - 1) ∧
      Recorded 0x13 (memCls c) k 0 s (alertSafety c k addr kind req s) ∧
      LastRaised Ev.memSafetyErr (le 1 (memCls c) ++ le 2 k ++ le 1 kind ++ le 5 addr)
        (alertSafety c k addr kind req s) := by
  obtain ⟨hl, ha, h6, -⟩ := alertNoted_spec (c := c) (k := k) s
  have hmem : (alertSafety c k addr kind req s).mem = (memLog c k kind 0 addr req (alertNoted c k s)).mem :=
    (recordFault_same ..).mem rfl
  have hlog := memLog_same c k kind 0 addr req (alertNoted c k s)
  refine ⟨(hl.logs ..).of_after hmem, ?_, ?_, ?_, raise_lastRaised ..⟩
  · rw [memAt_congr hmem, (memLog_unit ..).2.2, ha]
  · exact (counter_congr (((recordFault_same ..).prm rfl).trans (memLog_prm ..)) _).trans h6
  · have hrec : Recorded 0x13 (memCls c) k 0 s (recordFault 0x13 (memCls c) k 0 (memLog c k kind 0 addr req (alertNoted c k s))) :=
      (recordFault_recorded _ _ _ (by rw [hlog.sys rfl]; exact hm) (by decide)).of_before (hlog.zal rfl)
        (congrArg Sys.mode (hlog.sys rfl)) (congrArg TickState.count (hlog.tick rfl))
    exact hrec.of_after rfl rfl rfl rfl rfl

omit hin in
theorem alertReplayed_spec (addr kind req : Nat) (s : State) :
    MemLogged c k (memEntry s c k kind 2 addr req) s (alertReplayed c k addr kind req s) ∧
      (memAt (alertReplayed c k addr kind req s) c k).alerts = inPeriod s (memAt s c k).alerts ∧
      counter (alertReplayed c k addr kind req s) (paddr (memCls c) k 6) =
        min (counter s (paddr (memCls c) k 6) + 1) (2 ^ 32 - 1) ∧
      counter (alertReplayed c k addr kind req s) (paddr (memCls c) k 5) =
        min (counter s (paddr (memCls c) k 5) + 1) (2 ^ 32 - 1) ∧
      (alertReplayed c k addr kind req s).sys.deferred = s.sys.deferred ∧
      (alertReplayed c k addr kind req s).tick = s.tick := by
  obtain ⟨hl, ha, h6, h5⟩ := alertNoted_spec (c := c) (k := k) s
  have hlim := raiseLimited_same Ev.memParityReplay (memMark c k) (fun m => le 1 (memCls c) ++ le 2 k ++ le 4 m)
    (bump32 (memCls c) k 5 1 (memLog c k kind 2 addr req (alertNoted c k s)))
  have hlog := memLog_same c k kind 2 addr req (alertNoted c k s)
  refine ⟨(hl.logs ..).of_after (hlim.mem rfl), ?_, ?_, ?_, ?_, ?_⟩
  · exact (congrArg MemUnit.alerts (memAt_congr (hlim.mem rfl) c k)).trans ((memLog_unit ..).2.2.trans ha)
  · refine (counter_congr (hlim.prm rfl) _).trans ((counter_bump32_word _ _ (by decide)).trans ?_)
    exact (counter_congr (memLog_prm ..) _).trans h6
  · refine (counter_congr (hlim.prm rfl) _).trans ((counter_bump32_self ..).trans ?_)
    rw [counter_congr (memLog_prm ..), h5]
  · exact (raiseLimited_deferred ..).trans (congrArg Sys.deferred (hlog.sys rfl))
  · exact (hlim.tick rfl).trans (hlog.tick rfl)

end

/-! ### Power-down -/

/-- A fold keeps what each of its steps keeps. -/
theorem foldl_keeps {α β : Type} {f : State → β} {g : State → α → State} (h : ∀ s a, f (g s a) = f s) (l : List α) (s : State) :
    f (l.foldl g s) = f s := by
  induction l generalizing s with
  | nil => rfl
  | cons a l ih => exact (ih (g s a)).trans (h s a)

/-- What is lost with the contents of a channel: the blocks of the rings and the turfs on it (R422). -/
def contentsLost (c : Bool) (k : Nat) (s : State) : State :=
  if c then ringsLose k (if s.jnl.turfs then turfLost k s else s) else s

theorem ringsLose_counter {a : Nat} (h : ∀ i, paddr 24 i 0x10 ≠ a) (k : Nat) (s : State) : counter (ringsLose k s) a = counter s a := by
  refine foldl_keeps (f := fun s => counter s a) (fun s i => ?_) _ _
  extract_lets x hit lost
  by_cases h0 : lost = 0
  · rw [if_pos h0]
  · rw [if_neg h0]
    exact (counter_bump ..).trans (if_neg (h i).symm)

theorem turfLost_counter {a : Nat} {k : Nat} (h : paddr 13 k 0x5D ≠ a) (s : State) : counter (turfLost k s) a = counter s a := by
  have hleak : ∀ (l : Table (List Byte)) (u : State), counter (l.foldl (fun s e => leakPair k e.2 s) u) a = counter u a := by
    intro l u
    refine foldl_keeps (f := fun s => counter s a) (fun s e => ?_) l u
    unfold leakPair
    split
    · exact (counter_bump ..).trans (if_neg h.symm)
    · rfl
  unfold turfLost
  extract_lets x s1 y s2
  have h2 : counter s2 a = counter s a := hleak x.turf s
  split <;> exact h2

theorem turfLost_handles (k : Nat) (s : State) : (turfLost k s).toune.handles = s.toune.handles := by
  unfold turfLost
  extract_lets x s1 y s2
  have h1 : s1.toune = s.toune := (Same.foldl (w := 32) (fun _ _ => leakPair_same ..) _ _).toune rfl
  have h2 : s2.toune.handles = s.toune.handles := (congrArg Toune.handles h1 :)
  split <;> exact h2

theorem contentsLost_spec {c : Bool} {k : Nat} (hk : k < 128) (s : State) :
    (contentsLost c k s).mem = s.mem ∧ (contentsLost c k s).toune.handles = s.toune.handles ∧
      ∀ w, w < 0x4000 → counter (contentsLost c k s) (paddr (memCls c) k w) = counter s (paddr (memCls c) k w) := by
  cases c with
  | false => exact ⟨rfl, rfl, fun _ _ => rfl⟩
  | true =>
    have e : contentsLost true k s = ringsLose k (if s.jnl.turfs then turfLost k s else s) := rfl
    have hr := ringsLose_same k (if s.jnl.turfs then turfLost k s else s)
    have h24 : ∀ w, w < 0x4000 → ∀ i, paddr 24 i 0x10 ≠ paddr 15 k w := fun w hw i => by
      unfold paddr
      omega
    have h13 : ∀ w, w < 0x4000 → counter (turfLost k s) (paddr 15 k w) = counter s (paddr 15 k w) := fun w hw =>
      turfLost_counter (paddr_slice_ne (by omega) (by decide) (by decide)) s
    rw [e]
    refine ⟨(hr.mem rfl).trans ?_, (congrArg Toune.handles (hr.toune rfl)).trans ?_,
      fun w hw => (ringsLose_counter (h24 w hw) ..).trans ?_⟩
    all_goals split
    · exact (turfLost_same ..).mem rfl
    · rfl
    · exact turfLost_handles ..
    · rfl
    · exact h13 w hw
    · rfl

/-- The transfers that a power-down leaves are aborted: counted and logged (R421). -/
def transfersAborted (c : Bool) (k : Nat) (l : List (Nat × Nat)) (s : State) : State :=
  l.foldl (fun s a => memLog c k 5 0 a.1 a.2 (bump32 (memCls c) k 7 1 s)) s

/-- The unit has been powered down with the contents of its channel (R421, R422). -/
def poweredOff (c : Bool) (k : Nat) (l : List (Nat × Nat)) (s : State) : State :=
  contentsLost c k (setMem c k { memAt (transfersAborted c k l s) c k with draining := none, poweredDown := true }
    (transfersAborted c k l s))

section
variable {c : Bool} {k : Nat} {s : State} {l : List (Nat × Nat)}

theorem transfersAborted_same (l : List (Nat × Nat)) (s : State) : Same 1048608 s (transfersAborted c k l s) :=
  Same.foldl (fun _ _ => ((bump32_same ..).mono (by decide)).trans ((memLog_same ..).mono (by decide))) l s

theorem transfersAborted_others (l : List (Nat × Nat)) (s : State) : OtherMems c k s (transfersAborted c k l s) := by
  unfold transfersAborted
  induction l generalizing s with
  | nil => exact .of_eq rfl
  | cons a l ih =>
    refine OtherMems.trans ?_ (ih _)
    show OtherMems c k s (memLog c k 5 0 a.1 a.2 (bump32 (memCls c) k 7 1 s))
    rw [memLog_eq]
    exact otherMems_setMem (s := bump32 (memCls c) k 7 1 s) _

theorem transfersAborted_one (a r : Nat) (s : State) :
    MemLogged c k (memEntry s c k 5 0 a r) s (transfersAborted c k [(a, r)] s) ∧
      counter (transfersAborted c k [(a, r)] s) (paddr (memCls c) k 7) =
        min (counter s (paddr (memCls c) k 7) + 1) (2 ^ 32 - 1) := by
  have hl : LogStands c k s (bump32 (memCls c) k 7 1 s) := .of_same (bump32_same ..) rfl rfl rfl
  exact ⟨hl.logs .., (counter_congr (memLog_prm ..) _).trans (counter_bump32_self ..)⟩

theorem memAt_poweredOff (hk : k < 128) : memAt (poweredOff c k l s) c k =
    { memAt (transfersAborted c k l s) c k with draining := none, poweredDown := true } :=
  (memAt_congr (contentsLost_spec hk _).1 c k).trans (memAt_setMem_self _)

theorem poweredOff_others (hk : k < 128) : OtherMems c k s (poweredOff c k l s) :=
  ((transfersAborted_others l s).trans (otherMems_setMem _)).trans (.of_eq (contentsLost_spec hk _).1)

theorem channelDrainExpiry_none (h : (memAt s c k).draining = none) : channelDrainExpiry c k l s = s := by
  unfold channelDrainExpiry
  rw [h]

section
variable {h : Word} {m : Tick} (hd : (memAt s c k).draining = some (h, m))
include hd

theorem channelDrainExpiry_early (hw : ticksSince s.tick.count m < regField s (memCls c) (memShared c) 0x12 13 0) :
    channelDrainExpiry c k l s = s := by
  unfold channelDrainExpiry
  rw [hd]
  exact if_pos hw

theorem channelDrainExpiry_ends (hw : regField s (memCls c) (memShared c) 0x12 13 0 ≤ ticksSince s.tick.count m) :
    channelDrainExpiry c k l s = complete Ev.memChannelDown h St.ok (le 1 (memCls c) ++ le 2 k ++ le 4 l.length)
      (poweredOff c k l s) := by
  unfold channelDrainExpiry
  rw [hd]
  exact if_neg (by omega)

end

theorem poweredOff_handle (hk : k < 128) (i : Nat) : handleAt (poweredOff c k l s) i = handleAt s i := by
  unfold handleAt
  rw [poweredOff, (contentsLost_spec hk _).2.1]
  exact congrArg (fun t : Toune => tgetD _ t.handles i) ((transfersAborted_same l s).toune rfl)

end

/-! ### The commands -/

section
variable {r : Req} {s : State} {c f : Bool} {k : Nat} (hl : r.payload.length = 5) (ha : memArg r.payload = some (c, k))
  (hz : rd r.payload 1 1 = 0) (hf : rd r.payload 4 1 = b2n f)
include hl ha hz hf

theorem bodyMemErrlogRead_legal : bodyMemErrlogRead r s =
    (if f then setMem c k { memAt s c k with log := [] } s else s, .yes (memAt s c k).log.flatten) := by
  have h1 := b2n_le f
  unfold bodyMemErrlogRead
  dsimp only
  rw [ha]
  dsimp only
  rw [if_neg (by simp only [hl, zeros, hz, hf]; simp; omega), hf]
  cases f <;> rfl

variable (hs : (c || !memSafety s c k) = true) (habs : isAbsent s (memCls c) k = false)
  (hin : unitState s ⟨memCls c, k⟩ = .inService)
include hs habs hin

theorem bodyChannelDown_legal : bodyChannelDown r s =
    if c && !f && turfEntries s k != 0 then (s, { status := St.eBusy, payload := le 4 (turfEntries s k) })
    else accepted Op.channelDown r true (fun h s =>
      defer { due := dueTick s r.cycle, change := .channelDown ⟨memCls c, k⟩ h } s) s := by
  have h1 := b2n_le f
  have hsafe : (!c && memSafety s c k) = false := by cases c <;> simp_all
  unfold bodyChannelDown
  dsimp only
  rw [ha]
  dsimp only
  rw [if_neg (by simp only [hl, zeros, hz, hf, hsafe]; simp; omega), habs, if_neg Bool.false_ne_true, if_neg (by simp [hin]), hf]
  cases f <;> rfl

end

/-! ### The statement -/

/-- Settles O51: each command by the case that the state puts it in.  The fourth alert replayed, the owed and the due refresh made as
one, and the counting of the patrol scrub are the model's choice of log entry 44; the layouts are those of log entry 31. -/
theorem controllersRefreshRetrainScrubAndLog : Obligations.ControllersRefreshRetrainScrubAndLog := by
  intro s c k x hx hm others leaves more entry logged
  subst hx
  refine ⟨fun h => ?out, fun hin n hn => ?service, fun h l => congrArg Host.Outcome.next (channelDrainExpiry_none h),
    fun h m hd => ⟨fun hw l => congrArg Host.Outcome.next (channelDrainExpiry_early hd hw), fun hw l => ?drained⟩,
    fun r f hl ha hz hf => ⟨fun hr => ?errlog, fun hr hs habs hu => ⟨fun hc hff ht => ?busy, fun h ht hn => ?down⟩⟩⟩
  case out =>
    obtain ⟨h1, h2, h3, h4, h5, h6⟩ := outOfService_idle h
    exact ⟨congrArg Host.Outcome.next h1, fun d => congrArg Host.Outcome.next (h2 d),
      fun b => congrArg Host.Outcome.next (h3 b), fun l => congrArg Host.Outcome.next (h4 l),
      fun a r e => congrArg Host.Outcome.next (h5 a r e), fun a b r => congrArg Host.Outcome.next (h6 a b r)⟩
  case service =>
    subst hn
    refine ⟨fun h => congrArg Host.Outcome.next (memRefresh_idle hin h), fun h => ?refresh,
      fun h d => congrArg Host.Outcome.next (memRetrain_idle h d), fun h => ⟨?good, fun d => ?drift⟩,
      fun h b => congrArg Host.Outcome.next (memTempRead_early h b), fun h b lim hlim => ?temp, fun a r => ?read,
      fun rate hrate => ⟨fun h0 l => ?noScrub, fun l h0 hne => ?scrubs, fun e u h0 hu => ?scrubOne⟩,
      fun a crc r kind hkind => ?alert⟩
    case refresh =>
      refine ⟨_, congrArg Host.Outcome.next (memRefresh_due hin h), otherMems_setMem _, fun hr => ?_, fun hr => ?_⟩
      all_goals rw [memAt_setMem_self, hr]; rfl
    case good =>
      exact ⟨_, congrArg Host.Outcome.next (memRetrain_good hin h), memAt_setMem_self _, otherMems_setMem _, rfl, rfl⟩
    case drift =>
      have hmem : (memOut c k (raise Ev.memRetrainDrift (le 1 (memCls c) ++ le 2 k ++ [d]) (retrainNoted c k s))).mem =
        (retrainNoted c k s).mem := (memOut_same ..).mem rfl
      exact ⟨_, congrArg Host.Outcome.next (memRetrain_drift hin h d), (memAt_congr hmem c k).trans (memAt_setMem_self _),
        (otherMems_setMem _).trans (.of_eq hmem), memOut_told _ _ rfl rfl rfl rfl rfl hm⟩
    case temp =>
      subst hlim
      refine ⟨_, congrArg Host.Outcome.next (memTempRead_reads hin h b), ?_⟩
      obtain ⟨hout, hrec⟩ := memOut_told (c := c) (k := k) Ev.memHot (le 1 (memCls c) ++ le 2 k ++ [b])
        (u := tempNoted c k b s) rfl rfl rfl rfl rfl hm
      have hx : memAt (tempNoted c k b s) c k = _ := memAt_setMem_self _
      have ho : OtherMems c k s (tempNoted c k b s) := otherMems_setMem _
      split
      next h16 =>
        have hmem : (memOut c k (raise Ev.memHot (le 1 (memCls c) ++ le 2 k ++ [b]) (tempNoted c k b s))).mem =
          (tempNoted c k b s).mem := (memOut_same ..).mem rfl
        have hq := memAt_congr hmem c k
        exact ⟨ho.trans (.of_eq hmem), by rw [hq, hx], by rw [hq, hx], by rw [hq, hx], by rw [hq, hx], by rw [hq, hx],
          fun _ => hout, fun _ => hrec, fun hn => absurd (hq ▸ h16) hn⟩
      next h16 =>
        exact ⟨ho, by rw [hx], by rw [hx], by rw [hx], by rw [hx], by rw [hx], fun h => absurd h h16, fun h => absurd h h16,
          fun _ => ⟨rfl, rfl⟩⟩
    case read =>
      have he : ∀ e, exec (.memReadComplete c k a r e) s = .next (memRead c k a r e s) := fun e =>
        congrArg Host.Outcome.next (if_pos hin)
      exact ⟨he _, ⟨_, he _, memRead_corrected ..⟩, fun hs => ⟨_, he _, memRead_second hs ..⟩,
        fun e h => ⟨_, (he e).trans (congrArg Host.Outcome.next (memRead_uncorrectable h ..)), memUncorrectable_spec ..⟩⟩
    case noScrub =>
      refine congrArg Host.Outcome.next ((memPatrolScrub_eq hin l).trans ?_)
      rw [show scrubRate s c k = 0 from hrate.symm.trans h0]
      rfl
    case scrubs =>
      obtain ⟨ho, hp⟩ := foldl_scrubRead (c := c) (k := k) (l.take rate) s
      refine ⟨_, congrArg Host.Outcome.next (memPatrolScrub_eq hin l), ?_, ?_⟩
      · exact (show scrubRate s c k = rate from hrate.symm) ▸ ho
      · rw [show scrubRate s c k = rate from hrate.symm, hp (by simp [List.take_eq_nil_iff, h0, hne]), List.length_take]
    case scrubOne =>
      obtain rfl : memRead c k (64 * (memAt s c k).scrubPos) 4 e s = u := by
        have he : exec (.memReadComplete c k (64 * (memAt s c k).scrubPos) 4 e) s = .next (memRead c k _ 4 e s) :=
          congrArg Host.Outcome.next (if_pos hin)
        simpa using he.symm.trans hu
      have hne : scrubRate s c k ≠ 0 := fun h => h0 (hrate.trans h)
      refine ⟨_, congrArg Host.Outcome.next (memPatrolScrub_one hin hne e), ?_, rfl, rfl⟩
      exact (congrArg MemUnit.log (memAt_setMem_self _) :)
    case alert =>
      obtain rfl : kind = alertKind s c k crc := hkind
      cases hs : memSafety s c k with
      | true =>
        obtain ⟨hl, hal, h6, hrec, hlast⟩ := alertSafety_spec (c := c) (k := k) hm a (alertKind s c k crc) r
        exact ⟨_, congrArg Host.Outcome.next (memAlert_safety hin hs a crc r), h6, hal, fun _ => ⟨hl, hrec, hlast⟩,
          fun h => Bool.noConfusion h⟩
      | false =>
        obtain ⟨hl, hal, h6, h5, hdef, htick⟩ := alertReplayed_spec (c := c) (k := k) a (alertKind s c k crc) r s
        refine ⟨_, congrArg Host.Outcome.next (memAlert_replays hin hs a crc r), ?_⟩
        split
        next h4 =>
          refine ⟨h6, hal, fun h => Bool.noConfusion h, fun _ => ⟨hl, h5, fun _ => ⟨?_, raise_lastRaised ..⟩,
            fun hn => absurd h4 hn⟩⟩
          show (alertReplayed ..).sys.deferred ++ [_] = _
          rw [hdef]
          show _ ++ [({ due := (alertReplayed ..).tick.count + 1, change := _ } : Deferred)] = _
          rw [htick]
        next h4 =>
          exact ⟨h6, hal, fun h => Bool.noConfusion h, fun _ => ⟨hl, h5, fun h => absurd h h4, fun _ => hdef⟩⟩
  case drained =>
    have hx := memAt_poweredOff (c := c) (s := s) (l := l) k.isLt
    have hh := poweredOff_handle (c := c) (s := s) (l := l) k.isLt (handleIdx h)
    refine ⟨_, congrArg Host.Outcome.next (channelDrainExpiry_ends hd hw), poweredOff_others k.isLt,
      (congrArg MemUnit.poweredDown hx :), (congrArg MemUnit.draining hx :), (complete_done ..).1, (complete_done ..).2,
      ?_, ?_, ?_⟩
    · rw [← hh]
      exact complete_lastRaised ..
    · rintro rfl
      exact (congrArg MemUnit.log hx :)
    · rintro a r rfl
      obtain ⟨hl, h7⟩ := transfersAborted_one (c := c) (k := k) a r s
      exact ⟨⟨(congrArg MemUnit.log hx).trans hl.1, poweredOff_others k.isLt⟩,
        ((contentsLost_spec k.isLt _).2.2 7 (by decide)).trans h7⟩
  case errlog =>
    obtain ⟨m, ht, hans, -⟩ := runs_does hr (fun _ => bodyMemErrlogRead_legal hl ha hz hf) fun m => by cases f <;> rfl
    have hq := memAt_congr ht.mem
    refine ⟨_, rfl, fun d j hj => (hq d j).trans ?_, hans, (hq c k).trans ?_⟩
    · cases f with
      | false => rfl
      | true => exact otherMems_setMem _ d j hj
    · cases f with
      | false => rfl
      | true => exact memAt_setMem_self _
  case busy =>
    have hbusy : (c && !f && turfEntries s k != 0) = true := by simpa [hc, hff] using ht
    obtain ⟨-, hans⟩ := runs_reads (rep := fun _ => { status := St.eBusy, payload := le 4 (turfEntries s k) }) hr fun m =>
      (bodyChannelDown_legal (s := withSessions m s) hl ha hz hf hs habs hu).trans (if_pos hbusy)
    exact ⟨_, rfl, hans⟩
  case down =>
    have hfree : ¬(c && !f && turfEntries s k != 0) = true := fun hb => by
      simp only [Bool.and_eq_true, Bool.not_eq_true', bne_iff_ne] at hb
      exact hb.2 (ht hb.1.1 hb.1.2)
    obtain ⟨hst, m, hto⟩ := runs_launches hr hn fun m =>
      (bodyChannelDown_legal (s := withSessions m s) hl ha hz hf hs habs hu).trans (if_neg hfree)
    exact ⟨_, rfl, hst, hto.mem, congrArg Sys.deferred hto.sys⟩

end Sys2Proof.Machine
end

section
/-! Proofs.  Firmware staging: the slots and the directory of the boot flash (R63, R497). -/

namespace Sys2Proof.Machine

/-- A request whose body does something to the state in which it has been noted: the answer is the one more than before. -/
theorem runs_noting {op : Nat} {body : Req → State → State × Reply} {r : Req} {s s' : State} {rep : Reply}
    (h : Runs op r s) (e : body r (touch r s) = (s', rep)) (w : rep.waits = false)
    (hr : s'.toune.responses = (touch r s).toune.responses) :
    OnlyAnswers s' (runToune op body r s) ∧ Answered op r rep.status rep.payload s (runToune op body r s) := by
  obtain ⟨ha, p, hp, hrep⟩ := runs_effect h e w
  exact ⟨ha, p, by rw [hp, hr, touch_responses], hrep⟩

/-! ### The slots -/

/-- What staging has written: the inactive slot, and neither the other slot nor the directory (R69, R497). -/
theorem setStagingSlot_spec (x : FwSlot) (s : State) : stagingSlot (setStagingSlot x s) = some x ∧
    (if activeSlot s then (setStagingSlot x s).flash.slotB = s.flash.slotB else (setStagingSlot x s).flash.slotA = s.flash.slotA) ∧
    (setStagingSlot x s).flash.dir0 = s.flash.dir0 ∧ (setStagingSlot x s).flash.dir1 = s.flash.dir1 := by
  have hdir : flashDir (setStagingSlot x s).flash = flashDir s.flash := by
    unfold setStagingSlot
    cases activeSlot s <;> rfl
  have hact : activeSlot (setStagingSlot x s) = activeSlot s := by
    unfold activeSlot
    rw [hdir]
  unfold stagingSlot
  rw [hact]
  unfold setStagingSlot
  cases activeSlot s <;> exact ⟨rfl, rfl, rfl, rfl⟩

theorem stagingSlot_congr {s t : State} (h : t.flash = s.flash) : stagingSlot t = stagingSlot s := by
  unfold stagingSlot activeSlot
  rw [h]

/-! ### The steps of FW_STAGE -/

section
variable {r : Req} {s : State} (hc : s.sys.fwCommit = none) (hz : zeros r.payload 1 3 = true)
include hc hz

/-- Staging has begun: the inactive slot is erased and takes the length and the CRC (R497). -/
def stageBegun (r : Req) (s : State) : State :=
  (setStagingSlot { length := BitVec.ofNat 32 (rd r.payload 4 4), crc := BitVec.ofNat 32 (rd r.payload 8 4), data := [] } s).setSys
    { (setStagingSlot { length := BitVec.ofNat 32 (rd r.payload 4 4), crc := BitVec.ofNat 32 (rd r.payload 8 4), data := [] } s).sys
      with staging := true }

theorem bodyFwStage_begin (h0 : rd r.payload 0 1 = 0) (hl : r.payload.length = 12) (hs : rd r.payload 4 4 ≤ 48 * 1024 * 1024) :
    bodyFwStage r s = (stageBegun r s, .yes []) := by
  unfold bodyFwStage
  dsimp only
  rw [if_neg (by simp [hz, hl]), h0]
  exact (if_neg (by simp [hl])).trans ((if_neg (by omega)).trans (if_neg (by simp [hc])))

theorem bodyFwStage_data {b : List Byte} {x : FwSlot} (h1 : rd r.payload 0 1 = 1) (hl : r.payload.length = 24)
    (hs : s.sys.staging = true) (hb : descBytes r 8 s = .ok b) (hx : stagingSlot s = some x)
    (hfit : rd r.payload 4 4 + b.length ≤ x.length.toNat) :
    bodyFwStage r s = (setStagingSlot { x with data := putBytes x.data (rd r.payload 4 4) b } s, .yes []) := by
  unfold bodyFwStage
  dsimp only
  rw [if_neg (by simp [hz, hl]), h1]
  refine (if_neg (by simp [hl])).trans ((if_neg (by simp [hc])).trans ((if_neg (by simp [hs])).trans ?_))
  rw [hb, hx]
  exact if_neg (by omega)

theorem bodyFwStage_commit (h2 : rd r.payload 0 1 = 2) (hl : r.payload.length = 4) (hs : s.sys.staging = true) :
    bodyFwStage r s = accepted Op.fwStage r true (fun h s => s.setSys { s.sys with fwCommit := some h }) s := by
  unfold bodyFwStage
  dsimp only
  rw [if_neg (by simp [hz, hl]), h2]
  exact (if_neg (by simp [hl])).trans ((if_neg (by simp [hc])).trans (if_neg (by simp [hs])))

end

/-! ### The directory that a COMMIT writes -/

@[simp] theorem stagedEntry_kind (b : Bool) (x : FwSlot) (e : FlashEntry) : (stagedEntry b x e).kind = e.kind := by
  unfold stagedEntry
  rw [apply_ite FlashEntry.kind, apply_ite FlashEntry.kind, ite_self, ite_self]

/-- The entry of the staged slot is active, with its length and CRC (R497). -/
theorem stagedEntry_staged {b : Bool} {e : FlashEntry} (h : e.kind = if b then 2 else 1) (x : FwSlot) :
    stagedEntry b x e = { e with flags := 1, length := x.length, crc := x.crc } := if_pos h

/-- The entry of the other slot is not active (R497). -/
theorem stagedEntry_other {b : Bool} {e : FlashEntry} (h : e.kind = if b then 1 else 2) (x : FwSlot) :
    (stagedEntry b x e).flags = 0 := by
  unfold stagedEntry
  cases b <;> simp_all

/-- The entries that a COMMIT rewrites: those of the directory in use, with one of the staged slot (R497; log entry 59). -/
def stagingEntries (f : Flash) (b : Bool) : List FlashEntry :=
  let old := match flashDir f with | some d => d.entries | none => freshEntries
  if old.any (fun e => e.kind == if b then 2 else 1) then old
  else (freshEntries.filter (fun e => e.kind == if b then 2 else 1) ++ old).take 30

theorem flashDir_usable {f : Flash} {d : FlashDir} (h : flashDir f = some d) : d.usable = true := by
  unfold flashDir at h
  split at h
  next a b ha hb =>
    have ha' := (Option.filter_eq_some_iff.mp ha).2
    have hb' := (Option.filter_eq_some_iff.mp hb).2
    split at h <;> simp_all
  next a ha hb => exact Option.some.inj h ▸ (Option.filter_eq_some_iff.mp ha).2
  next b ha hb => exact Option.some.inj h ▸ (Option.filter_eq_some_iff.mp hb).2
  next => cases h

/-- There are never more than 30 entries, and one is of the staged slot. -/
theorem stagingEntries_spec (f : Flash) (b : Bool) : (stagingEntries f b).length ≤ 30 ∧
    ∃ e ∈ stagingEntries f b, e.kind = if b then 2 else 1 := by
  unfold stagingEntries
  extract_lets old
  have hold : old.length ≤ 30 := by
    show (match flashDir f with | some d => d.entries | none => freshEntries).length ≤ 30
    split
    next d hd =>
      have := flashDir_usable hd
      simp only [FlashDir.usable, Bool.and_eq_true, decide_eq_true_eq] at this
      exact this.1.2.2
    next => decide
  by_cases h : (old.any (fun e => e.kind == if b then 2 else 1)) = true
  · obtain ⟨e, he, hk⟩ := List.any_eq_true.mp h
    rw [if_pos h]
    exact ⟨hold, e, he, beq_iff_eq.mp hk⟩
  · rw [if_neg h]
    refine ⟨List.length_take_le .., ?_⟩
    cases b <;> exact ⟨_, List.mem_cons_self .., rfl⟩

theorem stagedDir_entries (f : Flash) (b : Bool) (x : FwSlot) (seq : Word) :
    (stagedDir f b x seq).entries = (stagingEntries f b).map (stagedEntry b x) := rfl

theorem stagedDir_usable (f : Flash) (b : Bool) (x : FwSlot) (seq : Word) : (stagedDir f b x seq).usable = true := by
  obtain ⟨hl, e, he, -⟩ := stagingEntries_spec f b
  have hpos := List.length_pos_of_mem he
  have hcrc : (stagedDir f b x seq).crc = crc32c (stagedDir f b x seq).body := rfl
  unfold FlashDir.usable
  rw [hcrc, stagedDir_entries, List.length_map]
  simp only [beq_self_eq_true, Bool.and_true, decide_eq_true_eq, Bool.and_eq_true]
  exact ⟨⟨rfl, rfl⟩, hpos, hl⟩

/-- An entry that a COMMIT has written comes of an entry of the same type. -/
theorem stagedDir_entry (f : Flash) (b : Bool) (x : FwSlot) (seq : Word) (k : Nat) : (stagedDir f b x seq).entry k =
    ((stagingEntries f b).find? (fun e => e.kind == k)).map (stagedEntry b x) := by
  unfold FlashDir.entry
  rw [stagedDir_entries, List.find?_map]
  congr 2
  funext e
  simp

theorem stagedDir_staged (f : Flash) (b : Bool) (x : FwSlot) (seq : Word) :
    ∃ e, (stagedDir f b x seq).entry (if b then 2 else 1) = some e ∧ e.flags = 1 ∧ e.length = x.length ∧ e.crc = x.crc := by
  obtain ⟨-, e, he, hk⟩ := stagingEntries_spec f b
  rw [stagedDir_entry]
  cases hf : (stagingEntries f b).find? (fun e => e.kind == if b then 2 else 1) with
  | none => exact absurd (beq_iff_eq.mpr hk) (by simpa using List.find?_eq_none.mp hf e he)
  | some d =>
    rw [Option.map_some, stagedEntry_staged (by simpa using List.find?_some hf)]
    exact ⟨_, rfl, rfl, rfl, rfl⟩

/-- The staged slot is the active one of the new directory. -/
theorem stagedDir_activeB (f : Flash) (b : Bool) (x : FwSlot) (seq : Word) : (stagedDir f b x seq).activeB = b := by
  unfold FlashDir.activeB
  cases b with
  | true =>
    obtain ⟨e, he, hf, -⟩ := stagedDir_staged f true x seq
    rw [show (stagedDir f true x seq).entry 2 = some e from he]
    dsimp only
    rw [hf]
    rfl
  | false =>
    rw [stagedDir_entry]
    cases hf : (stagingEntries f false).find? (fun e => e.kind == 2) with
    | none => rfl
    | some d =>
      dsimp only [Option.map_some]
      rw [stagedEntry_other (by simpa using List.find?_some hf)]
      rfl

/-! ### FW_STAGED -/

theorem endOp_ended (h : Word) (st : Half) (fields : List Byte) (s : State) : Ended h st fields (endOp h st fields s) :=
  congrArg Handle.ended (tgetD_tput_self ..)

theorem flashDir_both {f : Flash} {d : FlashDir} (h0 : f.dir0 = some d) (h1 : f.dir1 = some d) (hu : d.usable = true) :
    flashDir f = some d := by
  unfold flashDir
  rw [h0, h1]
  simp [Option.filter, hu]

section
variable {s : State} {h : Word} {x : FwSlot} (hc : s.sys.fwCommit = some h) (hx : stagingSlot s = some x)
include hc hx

/-- The sequence of the next directory (R497; log entry 59). -/
def nextDirSequence (s : State) : Word := match flashDir s.flash with | some d => d.sequence + 1 | none => 1

omit hc hx in
/-- The state in which a COMMIT has written the directory. -/
def stagedFlash (x : FwSlot) (s : State) : State :=
  (s.setSys { s.sys with fwCommit := none, staging := false }).setFlash { s.flash with
    dir0 := some (stagedDir s.flash (!activeSlot s) x (nextDirSequence s))
    dir1 := some (stagedDir s.flash (!activeSlot s) x (nextDirSequence s)) }

theorem fwStaged_good (hv : slotValid (some x) = true) : fwStaged s = endOp h St.ok (le 4 (nextDirSequence s).toNat)
    (raise Ev.fwStaged (le 1 (b2n (!activeSlot s)) ++ le 4 x.length.toNat ++ le 4 x.crc.toNat ++
      le 4 (nextDirSequence s).toNat) (stagedFlash x s)) := by
  unfold fwStaged
  rw [hc, hx]
  exact if_pos hv

theorem fwStaged_bad (hv : slotValid (some x) = false) :
    fwStaged s = endOp h St.eIntegrity [] (s.setSys { s.sys with fwCommit := none, staging := false }) := by
  unfold fwStaged
  rw [hc, hx]
  exact if_neg (ne_true_of_eq_false hv)

end

theorem activeSlot_stagedFlash {s t : State} {x : FwSlot} (h : t.flash = (stagedFlash x s).flash) :
    activeSlot t = !activeSlot s := by
  unfold activeSlot
  rw [h, flashDir_both (f := (stagedFlash x s).flash) rfl rfl (stagedDir_usable ..)]
  exact stagedDir_activeB ..

/-- What FW_QUERY tells of a slot: the version, the length and the CRC (R497). -/
def slotTold : Option FwSlot → List Byte
  | some x => le 4 (Config.fwVersion x.crc).toNat ++ le 4 x.length.toNat ++ le 4 x.crc.toNat
  | none => le 12 0

theorem bodyFwQuery_legal {r : Req} {s : State} (hp : r.payload = []) : bodyFwQuery r s =
    (s, .yes (slotTold s.flash.slotA ++ slotTold s.flash.slotB ++ le 1 (b2n (activeSlot s)))) := by
  unfold bodyFwQuery slotTold
  rw [if_neg (not_not_intro hp)] <;> rfl

/-! ### The statement -/

/-- Settles O28, by the entries that a COMMIT writes.  The layouts of FW_STAGE and FW_QUERY are those of log entry 31; what a COMMIT
writes where no directory is usable, sequence 1 included, is the model's choice of log entry 59. -/
theorem firmwareIsStagedInTheInactiveSlot : Obligations.FirmwareIsStagedInTheInactiveSlot := by
  intro r s
  refine ⟨fun hr hc hz => ⟨fun h0 hl hs => ?begin, fun b x h1 hl hs hb hx hfit => ?data, fun h h2 hl hs hn => ?commit⟩,
    fun h x hc hx => ⟨fun hv => ?good, fun hv => ?bad⟩, fun hr hp => ?query⟩
  case begin =>
    obtain ⟨m, ht, hans, -⟩ := runs_does hr (fun m => bodyFwStage_begin (s := withSessions m s) hc hz h0 hl hs) fun _ => rfl
    obtain ⟨hslot, hother, hdir⟩ := setStagingSlot_spec { length := BitVec.ofNat 32 (rd r.payload 4 4)
                                                          crc := BitVec.ofNat 32 (rd r.payload 8 4), data := [] } s
    refine ⟨_, rfl, hans, ht.sys, (stagingSlot_congr ht.flash).trans hslot, ?_⟩
    rw [ht.flash]
    exact ⟨hother, hdir⟩
  case data =>
    have hn := touch_answers r s
    have e := bodyFwStage_data (s := touch r s) (by rw [hn.sys, hc]) hz (b := b) (x := x) h1 hl (by rw [hn.sys, hs]) ((descBytes_touch r s 8).trans hb)
      ((stagingSlot_congr hn.flash).trans hx) hfit
    obtain ⟨ht, hans⟩ := runs_noting hr e rfl rfl
    obtain ⟨hslot, hother, hdir⟩ := setStagingSlot_spec { x with data := putBytes x.data (rd r.payload 4 4) b } (touch r s)
    have hact : activeSlot (touch r s) = activeSlot s := by unfold activeSlot; rw [hn.flash]
    refine ⟨_, rfl, hans, (stagingSlot_congr ht.flash).trans hslot, ?_⟩
    rw [ht.flash, ← hact, ← hn.flash]
    exact ⟨hother, hdir⟩
  case commit =>
    obtain ⟨hst, m, ht⟩ := runs_launches hr hn fun m => bodyFwStage_commit (s := withSessions m s) hc hz h2 hl hs
    exact ⟨_, rfl, hst, ht.sys, ht.flash⟩
  case good =>
    have e := fwStaged_good hc hx hv
    refine ⟨_, nextDirSequence s, congrArg Host.Outcome.next e, rfl, ⟨_, rfl, rfl, stagedDir_usable .., rfl, ?_⟩,
      activeSlot_stagedFlash rfl, endOp_ended .., rfl, raise_raised _ _ rfl⟩
    have hk : (if activeSlot s then 1 else 2) = if !activeSlot s then 2 else 1 := by cases activeSlot s <;> rfl
    rw [hk]
    exact stagedDir_staged ..
  case bad =>
    exact ⟨_, congrArg Host.Outcome.next (fwStaged_bad hc hx hv), rfl, endOp_ended .., rfl⟩
  case query =>
    obtain ⟨_, ht, hans⟩ := runs_yes hr fun m => bodyFwQuery_legal (s := withSessions m s) hp
    exact ⟨_, _, _, rfl, ht, hans, fun x hx => (congrArg slotTold hx :), fun x hx => (congrArg slotTold hx :)⟩

end Sys2Proof.Machine
end

section
/-! Proofs.  CELL_REQUEST: the grant of cells for one egress port, the failing request and the bad metadata (R137, R348 to R355). -/

namespace Sys2Proof.Machine

theorem storedAt_congr {s t : State} (h : t.buf.stored = s.buf.stored) (k : Nat) : storedAt t k = storedAt s k := by
  unfold storedAt
  rw [h]

theorem egrAt_congr {s t : State} (h : t.buf = s.buf) (n : Nat) : egrAt t n = egrAt s n := by
  unfold egrAt
  rw [h]

theorem bmAt_congr {s t : State} (h : t.buf = s.buf) (d : Nat) : bmAt t d = bmAt s d := by
  unfold bmAt
  rw [h]

@[simp] theorem egrAt_setEgr_self (n : Nat) (x : EgrPort) (s : State) : egrAt (setEgr n x s) n = x := tgetD_tput_self ..

@[simp] theorem bmAt_setBm_self (d : Nat) (x : Bm) (s : State) : bmAt (setBm d x s) d = x := tgetD_tput_self ..

/-- The lost of a packet whose metadata fail are gone from the device (R137). -/
theorem pktAt_dropPacket (k : Nat) (x : Packet) (outcome : Nat) (s : State) : pktAt (dropPacket k x outcome s) k = none := by
  unfold dropPacket
  extract_lets copies s1 gone
  split
  · split
    · exact pktAt_delPkt_self ..
    · exact pktAt_discardPkt ..
  · exact pktAt_discardPkt ..

/-! ### A packet for one port of the die -/

section
variable {x : Packet} {d m : Nat} (hdest : x.route.dest = .port m)
include hdest

theorem destPorts_port : destPorts x = [m] := by
  unfold destPorts
  rw [hdest]

theorem destHost_none (hh : x.actions.toHost = none) : destHost x = [] := by
  unfold destHost
  rw [hdest, hh]
  rfl

/-- The copies of such a packet are all on the die of its port (R346). -/
theorem destDies_port (hh : x.actions.toHost = none) (hd : dieOfPort m = d) (s : State) : ∀ e ∈ destDies s x, e = d := by
  intro e he
  unfold destDies at he
  rw [destPorts_port hdest, destHost_none hdest hh] at he
  have h := (List.mem_filter.mp he).2
  simp only [List.any_cons, List.any_nil, Bool.or_false, beq_iff_eq] at h
  exact h.symm.trans hd

end

/-- The only copy of such a packet. -/
def portCopy (d m : Nat) (x : Packet) : Copy := { die := d, dest := .port m, cls := x.cls, st := .queued, cut := false }

/-- The packet with the grant of the die (R348). -/
def grantedOn (d : Nat) (x : Packet) : Packet := { x with granted := [d] }

/-- The stored packet with that copy (R349). -/
def portStored (d m : Nat) (x : Packet) (cs : List Charge) : Stored :=
  { bytes := x.out, bad := x.bad, total := 1, copies := [portCopy d m x], charges := cs }

/-- The packet is stored (R349). -/
def portEntered (k d m : Nat) (x : Packet) (cs : List Charge) (s : State) : State :=
  (putPkt k (grantedOn d x) s).setBuf { s.buf with stored := tput s.buf.stored k (portStored d m x cs) }

/-- The copy stands last in the queue of its port and class (R355). -/
def portQueued (k d m : Nat) (x : Packet) (cs : List Charge) (s : State) : State :=
  setEgr m { egrAt s m with queue := tput (egrAt s m).queue x.cls ((egrAt s m).q x.cls ++ [k])
                            since := if (egrAt s m).q x.cls = [] then tput (egrAt s m).since x.cls s.tick.count
                              else (egrAt s m).since } (portEntered k d m x cs s)

section
variable {x : Packet} {d m : Nat} {s : State} (hdest : x.route.dest = .port m) (hh : x.actions.toHost = none)
  (hd : dieOfPort m = d)
include hdest hh hd

/-- It asks the pools of port copies alone (R351). -/
theorem askCells_port (hb : x.bad = false) (k : Nat) (cl : Bool) : askCells k d x false cl s =
    match poolFor s d x.owner x.prio (cellsOf x.out.length) with
    | none => requestFails d x true s
    | some pool => granted k d x [portCopy d m x]
        [(charge d x.owner x.prio (cellsOf x.out.length) pool s).2] (charge d x.owner x.prio (cellsOf x.out.length) pool s).1 := by
  unfold askCells
  extract_lets ports ports' mine hosts lost len ask n s0 copyOf hostFits skip hosts' s1 chargeH
  have hp : ports = [portCopy d m x] := by
    show List.map _ _ = _
    rw [destPorts_port hdest, List.filter_cons_of_pos (by simp [hd])]
    exact congrArg (fun b => [({ die := d, dest := .port m, cls := x.cls, cut := b } : Copy)]) (by simp [cutThrough])
  have hp' : ports' = [portCopy d m x] := by
    show (if x.bad = true then _ else ports) = _
    rw [hb, hp]
    rfl
  have hm : hosts = [] := by
    show List.filter _ (List.filter _ _) = _
    rw [destHost_none hdest hh]
    rfl
  have hh' : hosts' = [] := by
    show (if _ then [] else hosts) = _
    rw [hm, ite_self]
  have hs1 : s1 = s := by
    have h0 : s0 = s := if_pos (by
      show (List.filter _ (destHost x)).length - _ = 0
      rw [destHost_none hdest hh]
      exact Nat.zero_sub _)
    show (if (hosts != [] && skip) = true then _ else s0) = s
    rw [hm, h0]
    rfl
  have hask : ask = cellsOf x.out.length := by
    show cellsOf (if ports'.any _ then _ else _) = _
    rw [hp']
    rfl
  have hc : ∀ u, chargeH u = (u, []) := fun u => if_pos hh'
  rw [if_neg (by simp [hh']), if_neg (by simp [hp']), hask, hs1, hp', hh']
  cases poolFor s d x.owner x.prio (cellsOf x.out.length) with
  | none => rfl
  | some pool =>
    dsimp only
    rw [hc]
    rfl

/-- The copy is entered and queued, and the packet leaves staging (R348, R355). -/
theorem granted_port {k : Nat} (hg : x.granted = []) (hs : storedAt s k = none) (hoff : egressOff s m = false)
    (hstop : islandStops s m x.protection = false) (cs : List Charge) : ∃ t x' y, granted k d x [portCopy d m x] cs s = t ∧
      pktAt t k = some x' ∧ x'.stage = .buffered ∧ storedAt t k = some y ∧ y.bytes = x.out ∧ y.copies = [portCopy d m x] ∧
      (egrAt t m).q x.cls = (egrAt s m).q x.cls ++ [k] := by
  have hq : queueCopy k (portCopy d m x) (portEntered k d m x cs s) = portQueued k d m x cs s := by
    unfold queueCopy portCopy
    dsimp only
    rw [show pktAt (portEntered k d m x cs s) k = some (grantedOn d x) from pktAt_putPkt_self ..]
    refine if_neg ?_
    rw [show egressOff (portEntered k d m x cs s) m = false from hoff,
      show islandStops (portEntered k d m x cs s) m ((some (grantedOn d x)).elim false (·.protection)) = false from hstop]
    decide
  have hg1 : granted k d x [portCopy d m x] cs s = grantEnd k (grantedOn d x) (portQueued k d m x cs s) := by
    unfold granted
    rw [hs, hg, ← hq]
    rfl
  have hall : (destDies (portQueued k d m x cs s) (grantedOn d x)).all (fun e => (grantedOn d x).granted.contains e) = true := by
    refine List.all_eq_true.mpr fun e he => ?_
    rw [destDies_port (x := grantedOn d x) hdest hh hd _ e he]
    simp [grantedOn]
  have hbuf : (unstage (grantedOn d x) (portQueued k d m x cs s)).buf = (portQueued k d m x cs s).buf := (unstage_same ..).buf rfl
  have hst : storedAt (unstage (grantedOn d x) (portQueued k d m x cs s)) k = some (portStored d m x cs) :=
    (storedAt_congr (congrArg Buf.stored hbuf) k).trans ((tfind_tput ..).trans (if_pos rfl))
  have hend : grantEnd k (grantedOn d x) (portQueued k d m x cs s) =
      putPkt k { grantedOn d x with stage := .buffered } (unstage (grantedOn d x) (portQueued k d m x cs s)) := by
    unfold grantEnd
    rw [if_pos hall]
    dsimp only
    rw [show storedAt (putPkt _ _ (unstage (grantedOn d x) (portQueued k d m x cs s))) k = some (portStored d m x cs) from hst]
    rfl
  refine ⟨_, _, _, hg1.trans hend, pktAt_putPkt_self .., rfl, hst, rfl, rfl, ?_⟩
  have he : egrAt (portQueued k d m x cs s) m = _ := egrAt_setEgr_self ..
  exact (congrArg (EgrPort.q · x.cls) ((egrAt_congr hbuf m).trans he)).trans (tgetD_tput_self ..)

end

/-! ### The failing request -/

/-- The episodes of a die's pools are of its record alone, and leave the owners that press it (R373). -/
theorem poolEpisodes_buf (d : Nat) (failed : Bool) (src : Nat) (s : State) : ∃ b : Bm,
    (poolEpisodes d failed src s).buf = (setBm d b s).buf ∧ b.pressed = (bmAt s d).pressed := by
  unfold poolEpisodes
  extract_lets b sh hd b' s1 s2
  have h2 : s2.buf = s1.buf := by
    show (if sh = true then raise _ _ s1 else s1).buf = _
    split <;> rfl
  refine ⟨b', ?_, rfl⟩
  split
  · exact h2
  · exact h2

/-- An owner is listed as pressing a die (R352). -/
def pressing (d o : Nat) (s : State) : State :=
  if (bmAt s d).pressed.contains o then s else setBm d { bmAt s d with pressed := (bmAt s d).pressed ++ [o] } s

theorem pressing_spec (d o : Nat) (s : State) : (bmAt (pressing d o s) d).pressed.contains o = true ∧
    (pressing d o s).buf.stored = s.buf.stored ∧ (pressing d o s).path = s.path := by
  unfold pressing
  split
  next h => exact ⟨h, rfl, rfl⟩
  next h =>
    rw [bmAt_setBm_self]
    exact ⟨by simp, rfl, rfl⟩

/-- The packet stays as it is, and its owner and priority are listed as pressing the die (R352). -/
theorem requestFails_spec (k d : Nat) (x : Packet) (s : State) : pktAt (requestFails d x true s) k = pktAt s k ∧
    storedAt (requestFails d x true s) k = storedAt s k ∧
    (bmAt (requestFails d x true s) d).pressed.contains (8 * x.owner + x.prio) = true := by
  have e : requestFails d x true s = settlePause x.owner x.prio
      (poolEpisodes d true x.owner (pressing d (8 * x.owner + x.prio) (pipeEvent x.pipe 0x4012 1 s))) := rfl
  have h1 := pipeEvent_same x.pipe 0x4012 1 s
  obtain ⟨hp, hs, hpath⟩ := pressing_spec d (8 * x.owner + x.prio) (pipeEvent x.pipe 0x4012 1 s)
  rw [e]
  generalize pressing d (8 * x.owner + x.prio) (pipeEvent x.pipe 0x4012 1 s) = u at *
  have h2 := poolEpisodes_same d true x.owner u
  obtain ⟨b, hb, hbp⟩ := poolEpisodes_buf d true x.owner u
  have h3 := settlePause_same x.owner x.prio (poolEpisodes d true x.owner u)
  have hbuf := (h3.buf rfl).trans hb
  refine ⟨pktAt_congr (((h3.path rfl).trans (h2.path rfl)).trans (hpath.trans (h1.path rfl))) k, ?_, ?_⟩
  · exact storedAt_congr ((congrArg Buf.stored hbuf).trans (hs.trans (congrArg Buf.stored (h1.buf rfl)))) k
  · rw [bmAt_congr hbuf, bmAt_setBm_self, hbp]
    exact hp

/-! ### The statement -/

section
variable {k d : Nat} {x : Packet} {s : State} (hx : pktAt s k = some x)
include hx

theorem cellRequest_idle (h : x.stage ≠ .cells ∨ x.granted.contains d = true ∨ (destDies s x).contains d = false)
    (rx cl me : Bool) : cellRequest k d rx cl me s = s := by
  unfold cellRequest
  rw [hx]
  refine if_pos ?_
  rcases h with h | h | h
  · exact .inl h
  · exact .inr (.inl h)
  · exact .inr (.inr (.inl (by rw [h]; rfl)))

variable (hs : x.stage = .cells) (hg : x.granted = []) (hd : (destDies s x).contains d = true) (ho : overtakes s x d = false)
include hs hg hd ho

theorem cellRequest_wants (rx cl me : Bool) : cellRequest k d rx cl me s =
    if me then recordFault 0x0A 7 x.pipe 0 (dropPacket k x 5 (bump48 9 x.pipe 5 1 s))
    else if x.bad && !(x.early && rx) then loseStaged k x 5 s else askCells k d x rx cl s := by
  unfold cellRequest
  rw [hx]
  refine if_neg ?_
  rw [hs, hg, hd, ho]
  simp

end

/-- A die's pools charge a record of that die alone. -/
theorem charge_eq_setBm (d src prio n : Nat) (p : Pool) (s : State) : ∃ b, (charge d src prio n p s).1 = setBm d b s := by
  cases p <;> exact ⟨_, rfl⟩

/-- Settles O36: the clauses are the branches of the request. -/
theorem packetsTakeCellsAndQueue : Obligations.PacketsTakeCellsAndQueue := by
  intro k d x s hx
  refine ⟨fun h rx cl me => congrArg Host.Outcome.next (cellRequest_idle hx h rx cl me), fun hs hg hd ho =>
    ⟨fun rx cl hm => ?metaFails, fun m cl hb hdest hdie hh => ⟨fun pool hpool hst hoff hstop => ?grant, fun hpool => ?fails⟩⟩⟩
  all_goals have hwant := cellRequest_wants hx hs hg hd ho
  case metaFails =>
    have hdrop := ((bump48_same 9 x.pipe 5 1 s).mono (v := 109622) (by decide)).trans (dropPacket_same k x 5 (bump48 9 x.pipe 5 1 s))
    refine ⟨_, congrArg Host.Outcome.next (hwant rx cl true), ?_, ?_⟩
    · exact (recordFault_recorded _ _ _ (by rw [hdrop.mode rfl]; exact hm) (by decide)).of_before (hdrop.zal rfl)
        (hdrop.mode rfl) (congrArg TickState.count (hdrop.tick rfl))
    · exact (pktAt_congr ((recordFault_same ..).path rfl) k).trans (pktAt_dropPacket ..)
  all_goals
    have hask : cellRequest k d false cl false s = askCells k d x false cl s := (hwant false cl false).trans ((if_neg Bool.false_ne_true).trans (if_neg (by simp [hb])))
    rw [askCells_port hdest hh hdie hb, hpool] at hask
  case grant =>
    obtain ⟨b, hc⟩ := charge_eq_setBm d x.owner x.prio (cellsOf x.out.length) pool s
    dsimp only at hask
    rw [hc] at hask
    obtain ⟨t, x', y, ht, hpkt⟩ := granted_port (s := setBm d b s) hdest hh hdie hg hst hoff hstop
      [(charge d x.owner x.prio (cellsOf x.out.length) pool s).2]
    exact ⟨t, x', y, congrArg Host.Outcome.next (hask.trans ht), hpkt⟩
  case fails =>
    obtain ⟨hpkt, hsto, hpress⟩ := requestFails_spec k d x s
    exact ⟨_, congrArg Host.Outcome.next hask, hpkt.trans hx, hpress, hsto⟩

end Sys2Proof.Machine
end

section
/-! Proofs.  The egress ports: the start and the end of frames, due and stalled classes (R96, R356 to R367). -/

namespace Sys2Proof.Machine

/-! ### What the end of a copy leaves -/

/-- Between two states no egress port has changed, frames have at most been sent behind those sent before, of the counters below
those of the monitors only that of pause frames has counted, and no response has been sent. -/
structure Departs (s t : State) : Prop where
  egr : t.buf.egr = s.buf.egr
  sent : s.ports.sent <+: t.ports.sent
  counts : ∀ a, a < paddr 22 0 0 → (∀ m, a ≠ paddr 5 m 0x114) → counter t a = counter s a
  responses : t.toune.responses = s.toune.responses

variable {s t u : State}

theorem Departs.rfl' (s : State) : Departs s s := ⟨rfl, List.prefix_refl _, fun _ _ _ => rfl, rfl⟩

theorem Departs.trans (h : Departs s t) (k : Departs t u) : Departs s u :=
  ⟨k.egr.trans h.egr, h.sent.trans k.sent, fun a h1 h2 => (k.counts a h1 h2).trans (h.counts a h1 h2),
    k.responses.trans h.responses⟩

/-- A step that leaves the counters and the ports, and of the buffer the egress ports. -/
theorem Departs.of_eq (hb : t.buf.egr = s.buf.egr) (hs : t.ports.sent = s.ports.sent) (hp : t.prm = s.prm)
    (ht : t.toune.responses = s.toune.responses) : Departs s t :=
  ⟨hb, hs ▸ List.prefix_refl _, fun a _ _ => counter_congr hp a, ht⟩

/-- A step whose footprint holds neither the ports nor the buffer nor the counters. -/
theorem Departs.of_same {w : Nat} (h : Same w s t) (hp : w.testBit 10 = false) (hc : w.testBit 5 = false)
    (hb : w.testBit 13 = false) (ht : w.testBit 4 = false) : Departs s t :=
  .of_eq (congrArg Buf.egr (h.buf hb)) (congrArg Ports.sent (h.ports hp)) (h.prm hc) (congrArg Toune.responses (h.toune ht))

theorem raiseLimited_departs (code key : Nat) (d : Nat → List Byte) (s : State) : Departs s (raiseLimited code key d s) := by
  have h := raiseLimited_same code key d s
  refine .of_eq (congrArg Buf.egr (h.buf rfl)) (congrArg Ports.sent (h.ports rfl)) (h.prm rfl) ?_
  unfold raiseLimited raiseOnce
  dsimp only
  split <;> rfl

theorem Departs.foldl {α : Type} {g : State → α → State} (h : ∀ s a, Departs s (g s a)) (l : List α) (s : State) :
    Departs s (l.foldl g s) := by
  induction l generalizing s with
  | nil => exact .rfl' s
  | cons a l ih => exact (h s a).trans (ih (g s a))

theorem putCount_departs {b : Nat} (h : paddr 22 0 0 ≤ b) (v : Nat) (s : State) :
    Departs s (s.setPrm { s.prm with counts := tput s.prm.counts b v }) :=
  ⟨rfl, List.prefix_refl _, fun a ha _ => tgetD_tput_ne _ _ _ (by omega), rfl⟩

theorem countEvent_departs (i c code k : Nat) (s : State) : Departs s (countEvent i c code k s) := by
  refine Departs.foldl (fun s j => ?_) _ s
  dsimp only
  split
  · exact putCount_departs (by unfold paddr; omega) _ s
  · exact .rfl' s

theorem setPort_departs (n : Nat) (x : Port) (s : State) : Departs s (setPort n x s) := .of_eq rfl rfl rfl rfl

theorem drawn_departs (s : State) : Departs s (drawn s) := .of_eq rfl rfl rfl rfl

theorem setBuf_departs {x : Buf} (h : x.egr = s.buf.egr) : Departs s (s.setBuf x) := .of_eq h rfl rfl rfl

theorem setBm_departs (d : Nat) (x : Bm) (s : State) : Departs s (setBm d x s) := setBuf_departs rfl

theorem sendPause_departs (n prio quanta : Nat) (s : State) : Departs s (sendPause n prio quanta s) :=
  ⟨rfl, List.prefix_append .., fun _ _ h => tgetD_tput_ne _ _ _ (h n), rfl⟩

theorem settlePause_departs (n prio : Nat) (s : State) : Departs s (settlePause n prio s) := by
  unfold settlePause
  dsimp only
  split
  · split
    · exact setPort_departs ..
    · exact .rfl' s
  · split
    · exact ((setPort_departs ..).trans (drawn_departs _)).trans (sendPause_departs ..)
    · split
      · split
        · exact setPort_departs ..
        · exact (setPort_departs ..).trans (sendPause_departs ..)
      · exact .rfl' s

theorem capture_departs (die : Nat) (x : Seen) (s : State) : Departs s (capture die x s) := by
  refine Departs.foldl (fun s r => ?_) _ s
  dsimp only
  split
  · exact (Departs.of_same (setRing_same ..) rfl rfl rfl rfl).trans (.of_same (Same.setJnl ..) rfl rfl rfl rfl)
  · exact ((Departs.of_same (setRing_same ..) rfl rfl rfl rfl).trans
      (putCount_departs (b := paddr 24 (1 + r) 0x12) (by unfold paddr; omega) _ _)).trans
      (raiseLimited_departs ..)

theorem record_departs (x : Packet) (out : Option Departed) (outcome stages : Nat) (s : State) :
    Departs s (record x out outcome stages s) := by
  unfold record
  extract_lets die s1 cause
  have h : Departs s s1 := capture_departs ..
  split
  · exact h
  · exact ((h.trans (.of_same (setSmp_same ..) rfl rfl rfl rfl)).trans (countEvent_departs ..)).trans (drawn_departs _)

theorem poolEpisodes_departs (d : Nat) (failed : Bool) (src : Nat) (s : State) : Departs s (poolEpisodes d failed src s) := by
  have h := poolEpisodes_same d failed src s
  obtain ⟨b, hb, -⟩ := poolEpisodes_buf d failed src s
  refine .of_eq ((congrArg Buf.egr hb :).trans rfl) (congrArg Ports.sent (h.ports rfl)) (h.prm rfl) ?_
  unfold poolEpisodes
  extract_lets b sh hd b' s1 s2
  have h2 : s2.toune.responses = s.toune.responses := by
    show (if sh = true then raise _ _ s1 else s1).toune.responses = _
    split <;> rfl
  split <;> exact h2

theorem releaseOwners_departs (d : Nat) (s : State) : Departs s (releaseOwners d s) := by
  refine Departs.foldl (fun s o => ?_) _ s
  dsimp only
  split
  · exact (setBm_departs ..).trans (settlePause_departs ..)
  · exact .rfl' s

theorem discharge_departs (c : Charge) (s : State) : Departs s (discharge c s) := by
  refine Departs.trans ?_ (releaseOwners_departs ..)
  refine Departs.trans ?_ (releaseOwners_departs ..)
  exact (setBm_departs ..).trans (poolEpisodes_departs ..)

theorem bufferGone_departs (k : Nat) (x : Stored) (s : State) : Departs s (bufferGone k x s) := by
  unfold bufferGone
  split
  · split
    · exact setBuf_departs rfl
    · have h : Departs s (delPkt k (s.setBuf { s.buf with stored := terase s.buf.stored k })) :=
        (setBuf_departs (x := { s.buf with stored := terase s.buf.stored k }) rfl).trans (.of_same (delPkt_same ..) rfl rfl rfl rfl)
      dsimp only
      split
      · exact h
      · exact h.trans (record_departs ..)
  · exact setBuf_departs rfl

theorem dropCopy_departs (k : Nat) (dest : CopyDest) (s : State) : Departs s (dropCopy k dest s) := by
  unfold dropCopy
  split
  · refine Departs.trans ?_ (Departs.foldl (fun _ _ => discharge_departs ..) _ _)
    split
    · exact bufferGone_departs ..
    · exact setBuf_departs rfl
  · exact .rfl' s

theorem firstCopy_departs (k n : Nat) (x : Packet) (y : Stored) (stamp : Dword) (cut : Bool) (s : State) :
    Departs s (firstCopy k n x y stamp cut s) := by
  unfold firstCopy
  split
  · exact .rfl' s
  · exact (setBuf_departs (x := { s.buf with stored := tput s.buf.stored k { y with departed := true } }) rfl).trans
      (record_departs ..)

theorem jobStamp_departs (x : Packet) (stamp : Dword) (s : State) : Departs s (jobStamp x stamp s) := by
  unfold jobStamp
  split
  · exact setBuf_departs rfl
  · exact .rfl' s

/-- A count stands while copies end. -/
theorem Departs.counted {c n i k : Nat} {r : State} (h : Departs s t) (hc : Counted c n i k r s) (hn : n < 1024) (hi : i < 64)
    (hcls : c < 22) (h5 : i ≠ 10) : Counted c n i k r t :=
  hc.of_after (h.counts _ (by unfold paddr; omega) fun m => by unfold paddr; omega)

theorem Departs.sending (h : Departs s t) (n : Nat) : (egrAt t n).sending = (egrAt s n).sending := by
  unfold egrAt
  rw [h.egr]

/-- What has been sent stands first of what is sent while copies end. -/
theorem Departs.sent_cons {r : State} {f : TxFrame} (h : Departs s t) (hs : s.ports.sent = r.ports.sent ++ [f]) :
    ∃ l, t.ports.sent = r.ports.sent ++ f :: l := by
  obtain ⟨l, hl⟩ := h.sent
  exact ⟨l, by rw [← hl, hs, List.append_assoc]; rfl⟩

/-! ### The choice of a class -/

/-- In a falling list, the largest member of which a predicate holds is found first. -/
theorem find?_falling {p : Nat → Bool} {c : Nat} {l : List Nat} (hl : l.Pairwise (· > ·)) (hc : c ∈ l) (hp : p c = true)
    (h : ∀ e ∈ l, c < e → p e = false) : l.find? p = some c := by
  induction l with
  | nil => cases hc
  | cons e l ih =>
    obtain ⟨hgt, hl⟩ := List.pairwise_cons.mp hl
    rcases List.mem_cons.mp hc with rfl | hm
    · exact List.find?_cons_of_pos hp
    · rw [List.find?_cons_of_neg (by rw [h e List.mem_cons_self (hgt c hm)]; decide)]
      exact ih hl hm fun e he => h e (List.mem_cons_of_mem _ he)

section
variable {n : Nat} (hcal : ∀ e, e < 8 → schedMode s n e ≠ 2)
include hcal

theorem isCal_none {c : Nat} (hc : c < 8) : isCal s n c = false := by
  unfold isCal
  rw [beq_eq_false_iff_ne.mpr (hcal c hc), Bool.false_and]

/-- Without calendar classes no window is in the way of a frame (R364). -/
theorem guardOk_free (c ns len : Nat) : guardOk s n c ns len = true := by
  unfold guardOk
  simp [isCal_none hcal (show 6 < 8 by decide), isCal_none hcal (show 7 < 8 by decide)]

/-- Without calendar and due classes the highest strict class with a frame that is not paused is chosen (R361). -/
theorem chooseClass_strict {ns c : Nat} (hdue : (egrAt s n).due = []) (hc : c < 8) (hs : schedMode s n c = 1)
    (hh : (headFrame s n c).isSome = true)
    (habove : ∀ e, c < e → e < 8 → schedMode s n e = 1 → headFrame s n e = none) :
    chooseClass s n ns = some (c, (egrAt s n).deficit, false) := by
  unfold chooseClass
  extract_lets x ok fits spill
  have hok : ∀ e, ok e = (headFrame s n e).isSome := by
    intro e
    show (match headFrame s n e with | some (_, len) => guardOk s n e ns len | none => false) = _
    cases headFrame s n e with
    | none => rfl
    | some f => exact guardOk_free hcal ..
  have hfits : ∀ e, e < 8 → fits e = false := by
    intro e he
    show (match headFrame s n e with | some (_, len) => inWindow s n e ns len && guardOk s n e ns len | none => false) = _
    cases headFrame s n e with
    | none => rfl
    | some f =>
      dsimp only
      rw [inWindow, isCal_none hcal he]
      rfl
  have h2 : ∀ e, e < 8 → (schedMode s n e == 2) = false := fun e he => beq_eq_false_iff_ne.mpr (hcal e he)
  have hstrict : [7, 6, 5, 4, 3, 2, 1, 0].find? (fun e => schedMode s n e == 1 && ok e) = some c := by
    refine find?_falling (by decide) (by simp; omega) (by rw [hok, hs, hh]; rfl) fun e he hlt => ?_
    have he8 : e < 8 := by simp at he; omega
    by_cases h1 : schedMode s n e = 1
    · rw [hok, habove e hlt he8 h1]
      exact Bool.and_false _
    · rw [beq_eq_false_iff_ne.mpr h1]
      rfl
  have h0 : [7, 6].find? fits = none := by simp [hfits 6 (by decide), hfits 7 (by decide)]
  have h1 : (List.range 8).find? (fun c => x.due.contains c && ok c) = none := by
    refine List.find?_eq_none.mpr fun e _ => ?_
    rw [show x.due = [] from hdue]
    simp
  have h3 : [7, 6].find? (fun c => schedMode s n c == 2 && spill c && ok c) = none := by
    simp [hcal 6 (by decide), hcal 7 (by decide)]
  rw [h0, h1, h3, hstrict]

end

/-! ### FRAME_TX_START -/

/-- An egress port in which the calendar has at most noted late frames: what FRAME_TX_START does before it chooses (R363). -/
structure LateNoted (n : Nat) (s t : State) : Prop where
  port : ∃ l, egrAt t n = { egrAt s n with late := l }
  others : ∀ m, m ≠ n → egrAt t m = egrAt s m
  stored : t.buf.stored = s.buf.stored
  ports : t.ports = s.ports

theorem egrAt_setEgr_ne {n m : Nat} (h : m ≠ n) (x : EgrPort) (s : State) : egrAt (setEgr n x s) m = egrAt s m :=
  tgetD_tput_ne _ _ _ h

theorem lateNoted_foldl (n : Nat) (l : List Nat) (s : State) : LateNoted n s
    (l.foldl (fun s c => bump48 17 n 4 1 (setEgr n { egrAt s n with late := (egrAt s n).late ++ [c] } s)) s) := by
  induction l generalizing s with
  | nil => exact ⟨⟨_, rfl⟩, fun _ _ => rfl, rfl, rfl⟩
  | cons c l ih =>
    obtain ⟨⟨k, hk⟩, ho, hs, hp⟩ := ih (bump48 17 n 4 1 (setEgr n { egrAt s n with late := (egrAt s n).late ++ [c] } s))
    refine ⟨⟨k, hk.trans ?_⟩, fun m hm => (ho m hm).trans (egrAt_setEgr_ne hm _ s), hs, hp⟩
    have e : egrAt (bump48 17 n 4 1 (setEgr n { egrAt s n with late := (egrAt s n).late ++ [c] } s)) n =
      { egrAt s n with late := (egrAt s n).late ++ [c] } := egrAt_setEgr_self ..
    rw [e]

/-- A class that starts a frame is stalled no more, and nothing else of the buffer changes (R367). -/
theorem clearStall_egr (n c : Nat) (s : State) : (∃ l, egrAt (clearStall n c s) n = { egrAt s n with stalled := l }) ∧
    (∀ m, m ≠ n → egrAt (clearStall n c s) m = egrAt s m) ∧ (clearStall n c s).buf.stored = s.buf.stored := by
  unfold clearStall
  dsimp only
  split
  · exact ⟨⟨_, egrAt_setEgr_self ..⟩, fun m hm => egrAt_setEgr_ne hm _ s, rfl⟩
  · exact ⟨⟨_, rfl⟩, fun _ _ => rfl, rfl⟩

/-- The port sends the frame, and its class has had its turn (R361, R362). -/
def sendingFrame (n c k : Nat) (d : Table Nat) (since : Tick) (s : State) : State :=
  setEgr n { egrAt s n with sending := some (k, c), deficit := d, turn := c, since := tput (egrAt s n).since c since
                            due := (egrAt s n).due.filter (· != c) } s

/-- The copy of a port is in transmission (R356). -/
def copySending (n k : Nat) (y : Stored) (s : State) : State :=
  s.setBuf { s.buf with stored := tput s.buf.stored k { y with
    copies := y.copies.map (fun e => if e.dest == .port n then { e with st := .sending } else e) } }

/-- A frame that starts leaves the queue of its class. -/
theorem unqueue_egr (n c k : Nat) (s : State) : (egrAt (unqueue n c k s) n).sending = (egrAt s n).sending ∧
    (egrAt (unqueue n c k s) n).q c = ((egrAt s n).q c).filter (· != k) ∧
    (egrAt (unqueue n c k s) n).due = (if ((egrAt s n).q c).filter (· != k) = [] then (egrAt s n).due.filter (· != c)
      else (egrAt s n).due) ∧ ∀ m, m ≠ n → egrAt (unqueue n c k s) m = egrAt s m := by
  unfold unqueue
  extract_lets x q
  rw [egrAt_setEgr_self]
  refine ⟨rfl, ?_, rfl, fun m hm => egrAt_setEgr_ne hm _ s⟩
  show tgetD (fun _ => []) (if q = [] then _ else _) c = q
  split
  next h =>
    unfold tgetD
    rw [tfind_terase, if_pos rfl, h]
    rfl
  next => exact tgetD_tput_self ..

section
variable {n ns : Nat}

/-- The calendar's classes that open with a head frame too long for what is left of their window (R363). -/
def lateClasses (s : State) (n ns : Nat) : List Nat :=
  [6, 7].filter (fun c => match headFrame s n c with
    | some (_, len) => isCal s n c && (calWindow s n c).1 ≤ ns && ns < (calWindow s n c).2 &&
        ns + wireNs s n len > (calWindow s n c).2 && !(egrAt s n).late.contains c
    | none => false)

/-- The late classes have been noted and counted (R363). -/
def lateNoted (n ns : Nat) (s : State) : State :=
  (lateClasses s n ns).foldl (fun s c => bump48 17 n 4 1 (setEgr n { egrAt s n with late := (egrAt s n).late ++ [c] } s)) s

/-- The frame at the head of the chosen class is in transmission, and not yet off its queue (R361, R362). -/
def frameChosen (n ns c k : Nat) (d : Table Nat) (due : Bool) (s : State) : State :=
  if due then bump48 17 n 5 1 (sendingFrame n c k d s.tick.count (clearStall n c (lateNoted n ns s)))
  else sendingFrame n c k d s.tick.count (clearStall n c (lateNoted n ns s))

theorem frameChosen_spec (c k : Nat) (d : Table Nat) (due : Bool) (s : State) :
    (egrAt (frameChosen n ns c k d due s) n).sending = some (k, c) ∧
      (egrAt (frameChosen n ns c k d due s) n).q c = (egrAt s n).q c ∧
      (egrAt (frameChosen n ns c k d due s) n).due = (egrAt s n).due.filter (· != c) ∧
      (∀ m, m ≠ n → egrAt (frameChosen n ns c k d due s) m = egrAt s m) ∧
      (frameChosen n ns c k d due s).buf.stored = s.buf.stored ∧ (frameChosen n ns c k d due s).ports = s.ports := by
  obtain ⟨⟨l, hl⟩, ho, hs, hp⟩ : LateNoted n s (lateNoted n ns s) := lateNoted_foldl ..
  have hc := clearStall_same n c (lateNoted n ns s)
  obtain ⟨⟨z, hz⟩, hco, hcs⟩ := clearStall_egr n c (lateNoted n ns s)
  have hbuf : (frameChosen n ns c k d due s).buf = (sendingFrame n c k d s.tick.count (clearStall n c (lateNoted n ns s))).buf := by
    unfold frameChosen
    split <;> rfl
  have hports : (frameChosen n ns c k d due s).ports = (clearStall n c (lateNoted n ns s)).ports := by
    unfold frameChosen
    split <;> rfl
  have he : egrAt (sendingFrame n c k d s.tick.count (clearStall n c (lateNoted n ns s))) n = _ := egrAt_setEgr_self ..
  rw [egrAt_congr hbuf, he, hz, hl]
  refine ⟨rfl, rfl, rfl, fun m hm => ?_, (congrArg Buf.stored hbuf).trans (hcs.trans hs), hports.trans ((hc.ports rfl).trans hp)⟩
  rw [egrAt_congr hbuf]
  exact (egrAt_setEgr_ne hm _ _).trans ((hco m hm).trans (ho m hm))

variable (hidle : (egrAt s n).sending = none) (hup : (portAt s n).st = .up) (hon : egressOff s n = false)
include hidle hup hon

theorem frameTxStart_none (h : chooseClass s n ns = none) : frameTxStart n ns s = lateNoted n ns s := by
  unfold frameTxStart
  dsimp only
  rw [if_neg (by simp [hidle, hup, hon]), h]
  rfl

theorem frameTxStart_some {c k : Nat} {d : Table Nat} {due : Bool} {q : List Nat} {y : Stored}
    (h : chooseClass s n ns = some (c, d, due)) (hq : (egrAt s n).q c = k :: q) (hy : storedAt s k = some y) :
    frameTxStart n ns s = bump48 17 n (if y.copies.any (fun e => e.dest == .port n && e.cut) then 1 else 2) 1
      (unqueue n c k (copySending n k y (frameChosen n ns c k d due s))) := by
  have hst : storedAt (frameChosen n ns c k d due s) k = some y := by
    obtain ⟨-, -, -, -, hs, -⟩ := frameChosen_spec (n := n) (ns := ns) c k d due s
    exact (storedAt_congr hs k).trans hy
  unfold frameTxStart
  extract_lets x late s0
  rw [if_neg (by simp [x, hidle, hup, hon]), h]
  dsimp -zeta only
  rw [show x.q c = k :: q from hq]
  dsimp -zeta only
  extract_lets s1 x1 s2 s3
  rw [show storedAt s3 k = some y from hst]
  rfl

end

/-! ### The end of a frame -/

/-- The frame leaves with its bytes, counted, or, found bad, with an inverted check sequence (R96, R356). -/
def frameLeaves (n : Nat) (bad : Bool) (f : List Byte) (s : State) : State :=
  if bad then transmit { port := n, bytes := f, stomped := true } (bump48 5 n 11 1 s)
  else transmit { port := n, bytes := f } (bump48 5 n 9 (f.length + 4) (bump48 5 n 8 1 s))

section
variable {n k c : Nat} {y : Stored} {x : Packet} (hs : (egrAt s n).sending = some (k, c)) (hy : storedAt s k = some y)
include hs hy

/-- The frame leaves the idle port, and what its copy leaves follows. -/
theorem frameTxDone_sends (hx : pktAt s k = some x) (stamp : Dword) : Departs
    (frameLeaves n y.bad (departing s x n stamp y.bytes) (setEgr n { egrAt s n with sending := none } s)) (frameTxDone n stamp s) := by
  unfold frameTxDone
  extract_lets e s0
  rw [show e.sending = some (k, c) from hs]
  dsimp -zeta only
  rw [show storedAt s0 k = some y from hy, show pktAt s0 k = some x from hx]
  dsimp -zeta only
  extract_lets cut f s1
  exact ((firstCopy_departs k n x y stamp cut s1).trans (jobStamp_departs ..)).trans (dropCopy_departs ..)

/-- The frame in transmission ends with an inverted check sequence, and what its copy leaves follows (R96). -/
theorem stompSending_ends : Departs (setEgr n { egrAt s n with sending := none }
    (transmit { port := n, bytes := y.bytes, stomped := true } (bump48 5 n 11 1 s))) (stompSending n s) := by
  unfold stompSending
  extract_lets e
  rw [show e.sending = some (k, c) from hs]
  dsimp -zeta only
  extract_lets bytes s1 s2
  have hb : bytes = y.bytes := by
    show (match storedAt s k with | some y => y.bytes | none => []) = _
    rw [hy]
  rw [← hb]
  refine Departs.trans ?_ (dropCopy_departs k _ s2)
  show Departs s1 (match storedAt s1 k, pktAt s1 k with | some y, some p => _ | _, _ => s1)
  split
  · exact (firstCopy_departs ..).trans (drawn_departs _)
  · exact .rfl' s1

theorem txUnderrun_stomps (hcut : y.copies.any (fun e => e.dest == .port n && e.cut) = true) :
    txUnderrun n s = stompSending n (bump48 17 n 3 1 s) := by
  unfold txUnderrun
  dsimp only
  rw [hs]
  dsimp only
  rw [hy]
  exact if_neg (by rw [hcut]; decide)

end

theorem frameTxDone_idle {n : Nat} (h : (egrAt s n).sending = none) (stamp : Dword) : frameTxDone n stamp s = s := by
  unfold frameTxDone
  dsimp only
  rw [h]

theorem txUnderrun_idle {n : Nat} (h : (egrAt s n).sending = none) : txUnderrun n s = s := by
  unfold txUnderrun
  dsimp only
  rw [h]

/-! ### Due and stalled classes -/

section
variable {n c : Nat} (hq : (egrAt s n).q c ≠ [])
include hq

theorem egrClassDue_due (hp : classPaused s n c = false) (hd : (egrAt s n).due.contains c = false)
    (ht : 16 ≤ ticksSince s.tick.count (tgetD (fun _ => 0) (egrAt s n).since c)) :
    egrClassDue n c s = setEgr n { egrAt s n with due := (egrAt s n).due ++ [c] } s := by
  have hw : classWaits s n c = true := bne_iff_ne.mpr hq
  unfold egrClassDue
  dsimp only
  rw [hw, hp, hd]
  exact if_pos (by simpa using ht)

omit hq in
theorem egrClassDue_early (ht : ticksSince s.tick.count (tgetD (fun _ => 0) (egrAt s n).since c) < 16) :
    egrClassDue n c s = s := if_neg fun h => by
  simp only [Bool.and_eq_true, decide_eq_true_eq] at h
  omega

theorem egrStall_stalls (hs : tfind (egrAt s n).stalled c = none)
    (ht : (reg s 17 n 0xC).toNat ≤ ticksSince s.tick.count (tgetD (fun _ => 0) (egrAt s n).since c)) : ∃ cells,
    egrStall n c s = raise Ev.egrStall (le 2 n ++ le 1 c ++
        le 4 (ticksSince s.tick.count (tgetD (fun _ => 0) (egrAt s n).since c)) ++ le 4 cells)
      (bump48 17 n 6 1 (setEgr n { egrAt s n with
        stalled := tput (egrAt s n).stalled c (tgetD (fun _ => 0) (egrAt s n).since c) } s)) := by
  have hw : classWaits s n c = true := bne_iff_ne.mpr hq
  unfold egrStall
  dsimp only
  rw [hw, hs]
  exact ⟨_, if_pos (by simpa using ht)⟩

end

/-! ### The statement -/

/-- Settles O37: the frame that starts by `chooseClass`, the frame that ends by what its copy leaves. -/
theorem theSchedulerStartsAndEndsFrames : Obligations.TheSchedulerStartsAndEndsFrames := by
  intro n s
  refine ⟨fun ns hidle hup hon => ⟨fun c d due k q y h hq hy => ?starts, fun h => ?none⟩,
    fun ns c hcal hdue hc hs hh ha => chooseClass_strict hcal hdue hc hs hh ha,
    fun stamp k c y x hs hy hx => ⟨fun hb => ?good, fun hb => ?bad, fun hcut => ?underrun⟩,
    fun h => ⟨fun stamp => congrArg Host.Outcome.next (frameTxDone_idle h stamp), congrArg Host.Outcome.next (txUnderrun_idle h)⟩,
    fun c hq => ⟨fun hp hd => ⟨fun ht => ?due, fun ht => congrArg Host.Outcome.next (egrClassDue_early ht)⟩,
      fun hst ht => ?stall⟩⟩
  case starts =>
    obtain ⟨hsend, hcq, hdue, hoth, -, hports⟩ := frameChosen_spec (n := n) (ns := ns) c k d due s
    obtain ⟨us, uq, ud, uo⟩ := unqueue_egr n c k (copySending n k y (frameChosen n ns c k d due s))
    have hun := unqueue_same n c k (copySending n k y (frameChosen n ns c k d due s))
    refine ⟨_, congrArg Host.Outcome.next (frameTxStart_some hidle hup hon h hq hy), us.trans hsend, uq.trans ?_, ud.trans ?_,
      fun m hm => (uo m hm).trans (hoth m hm), (hun.ports rfl).trans hports⟩
    · exact congrArg (List.filter (· != k)) (hcq.trans hq)
    · have e : (egrAt (copySending n k y (frameChosen n ns c k d due s)) n).due = (egrAt s n).due.filter (· != c) := hdue
      rw [e, List.filter_filter]
      simp
  case none =>
    obtain ⟨⟨l, hl⟩, -, hst, hp⟩ : LateNoted n s (lateNoted n ns s) := lateNoted_foldl ..
    refine ⟨_, congrArg Host.Outcome.next (frameTxStart_none hidle hup hon h), ?_, ?_, hst, hp⟩
    · rw [hl]
      exact hidle
    · rw [hl]
  case good =>
    have hd := frameTxDone_sends hs hy hx stamp
    rw [hb] at hd
    obtain ⟨l, hl⟩ := hd.sent_cons (r := s) rfl
    refine ⟨_, l, rfl, ?_, hl, hd.counted ?_ (by omega) (by decide) (by decide) (by decide),
      hd.counted ?_ (by omega) (by decide) (by decide) (by decide)⟩
    · exact (hd.sending n).trans (congrArg EgrPort.sending (egrAt_setEgr_self ..))
    · exact (bump48_counted 5 n 8 1 s).of_after (counter_bump48_ne _ _ _ _ (by decide))
    · exact (bump48_counted 5 n 9 _ (bump48 5 n 8 1 _)).of_before (counter_bump48_ne _ _ _ _ (by decide))
  case bad =>
    have hd := frameTxDone_sends hs hy hx stamp
    rw [hb] at hd
    obtain ⟨l, hl⟩ := hd.sent_cons (r := s) rfl
    refine ⟨_, l, rfl, ?_, hl, hd.counted (bump48_counted 5 n 11 1 s) (by omega) (by decide) (by decide) (by decide)⟩
    exact (hd.sending n).trans (congrArg EgrPort.sending (egrAt_setEgr_self ..))
  case underrun =>
    have hd := stompSending_ends (s := bump48 17 n 3 1 s) hs hy
    obtain ⟨l, hl⟩ := hd.sent_cons (r := s) rfl
    refine ⟨_, l, congrArg Host.Outcome.next (txUnderrun_stomps hs hy hcut), ?_, ?_, ?_, hl⟩
    · exact (hd.sending n).trans (congrArg EgrPort.sending (egrAt_setEgr_self ..))
    · refine hd.counted ((bump48_counted 5 n 11 1 (bump48 17 n 3 1 s)).of_before ?_) (by omega) (by decide) (by decide)
        (by decide)
      exact (counter_bump ..).trans (if_neg (by unfold paddr; omega))
    · refine hd.counted ((bump48_counted 17 n 3 1 s).of_after ?_) (by omega) (by decide) (by decide) (by decide)
      exact (counter_bump 48 5 n (0x100 + 2 * 11) 1 _ _).trans (if_neg (by unfold paddr; omega))
  case due =>
    exact ⟨_, congrArg Host.Outcome.next (egrClassDue_due hq hp hd ht), congrArg EgrPort.due (egrAt_setEgr_self ..), rfl, rfl⟩
  case stall =>
    obtain ⟨cells, h⟩ := egrStall_stalls hq hst ht
    refine ⟨_, cells, congrArg Host.Outcome.next h, ?_, bump48_counted 17 n 6 1 s, raise_raised _ _ rfl⟩
    rw [show egrAt (raise _ _ (bump48 17 n 6 1 (setEgr n _ s))) n = _ from egrAt_setEgr_self ..]
    exact (tfind_tput ..).trans (if_pos rfl)

end Sys2Proof.Machine
end

section
/-! Proofs.  What an answer leaves of the host interface, and what disabling queues leaves of it (R432, R434, R452, R460). -/

namespace Sys2Proof.Machine

/-! ### Queue pairs -/

theorem qpAt_congr {s t : State} (h : t.host.qp = s.host.qp) (q : Nat) : qpAt t q = qpAt s q := by
  unfold qpAt
  rw [h]

theorem qpAt_setQp (q k : Nat) (x : QueuePair) (s : State) : qpAt (setQp q x s) k = if k = q then x else qpAt s k := tgetD_tput ..

theorem qpAt_setQp_ne {q k : Nat} (h : k ≠ q) (x : QueuePair) (s : State) : qpAt (setQp q x s) k = qpAt s k :=
  tgetD_tput_ne _ _ _ h

@[simp] theorem qpAt_setQp_self (q : Nat) (x : QueuePair) (s : State) : qpAt (setQp q x s) q = x := tgetD_tput_self ..

theorem hqAt_setHq (q k : Nat) (x : Queue) (s : State) : hqAt (setHq q x s) k = if k = q then x else hqAt s k := tgetD_tput ..

theorem hqAt_setHq_ne {q k : Nat} (h : k ≠ q) (x : Queue) (s : State) : hqAt (setHq q x s) k = hqAt s k :=
  tgetD_tput_ne _ _ _ h

@[simp] theorem hqAt_setHq_self (q : Nat) (x : Queue) (s : State) : hqAt (setHq q x s) q = x := tgetD_tput_self ..

/-! ### What an answer leaves -/

/-- Between two states the host regions stand, the queues but for the jobs of queue `q`, and the queue pairs but for what the
requests that they send move on. -/
structure AnswersHost (q : Nat) (s t : State) : Prop where
  region : t.host.region = s.host.region
  others : ∀ k, k ≠ q → hqAt t k = hqAt s k
  jobs : ∃ f, hqAt t q = { hqAt s q with jobs := (hqAt s q).jobs.map f }
  idle : ∀ k, (qpAt s k).st ≠ 1 → qpAt t k = qpAt s k
  live : ∀ k, ∃ p o n, qpAt t k = { qpAt s k with sqPsn := p, out := o, since := n }

section
variable {q : Nat} {s t u : State}

/-- A step that leaves regions, queues and queue pairs. -/
theorem AnswersHost.of_eq (hr : t.host.region = s.host.region) (hq : t.host.queue = s.host.queue) (hp : t.host.qp = s.host.qp) :
    AnswersHost q s t :=
  ⟨hr, fun k _ => hqAt_congr hq k, ⟨id, by rw [hqAt_congr hq, List.map_id]⟩, fun k _ => qpAt_congr hp k,
    fun k => ⟨_, _, _, qpAt_congr hp k⟩⟩

theorem AnswersHost.rfl' (s : State) : AnswersHost q s s := .of_eq rfl rfl rfl

theorem AnswersHost.trans (h : AnswersHost q s t) (k : AnswersHost q t u) : AnswersHost q s u := by
  refine ⟨k.region.trans h.region, fun j hj => (k.others j hj).trans (h.others j hj), ?_, fun j hj => ?_, fun j => ?_⟩
  · obtain ⟨f, hf⟩ := h.jobs
    obtain ⟨g, hg⟩ := k.jobs
    exact ⟨g ∘ f, by rw [hg, hf, List.map_map]⟩
  · have hs := h.idle j hj
    rw [k.idle j (by rw [hs]; exact hj), hs]
  · obtain ⟨p, o, n, hp⟩ := h.live j
    obtain ⟨p', o', n', hp'⟩ := k.live j
    exact ⟨p', o', n', by rw [hp', hp]⟩

/-- A queue is as it was but for what its jobs have got. -/
theorem AnswersHost.queue (h : AnswersHost q s t) (k : Nat) : ∃ f, hqAt t k = { hqAt s k with jobs := (hqAt s k).jobs.map f } := by
  by_cases e : k = q
  · rw [e]
    exact h.jobs
  · exact ⟨id, by rw [h.others k e, List.map_id]⟩

/-- A queue without jobs is as it was. -/
theorem AnswersHost.queue_idle (h : AnswersHost q s t) {k : Nat} (hj : (hqAt s k).jobs = []) : hqAt t k = hqAt s k := by
  obtain ⟨f, hf⟩ := h.queue k
  rw [hf, hj, List.map_nil, ← hj]

theorem AnswersHost.regionAt (h : AnswersHost q s t) (k : Nat) : regionAt t k = regionAt s k := by
  unfold Machine.regionAt
  rw [h.region]

end

/-- A request moves on the queue pair that it is issued on. -/
theorem issueReq_host {q z : Nat} {s : State} (h : (qpAt s z).st = 1) (r : OutReq) : AnswersHost q s (issueReq z r s) := by
  have hqp : ∃ p o n, (issueReq z r s).host.qp = tput s.host.qp z { qpAt s z with sqPsn := p, out := o, since := n } := by
    unfold issueReq
    dsimp only
    split <;> exact ⟨_, _, _, rfl⟩
  have hreg : (issueReq z r s).host.region = s.host.region := by
    unfold issueReq
    dsimp only
    split <;> rfl
  have hqu := issueReq_queue z r s
  obtain ⟨p, o, n, hp⟩ := hqp
  have hat : ∀ k, qpAt (issueReq z r s) k = if k = z then { qpAt s z with sqPsn := p, out := o, since := n } else qpAt s k :=
    fun k => by
      unfold qpAt
      rw [hp, tgetD_tput]
      rfl
  refine ⟨hreg, fun k _ => hqAt_congr hqu k, ⟨id, by rw [hqAt_congr hqu, List.map_id]⟩, fun k hk => ?_, fun k => ?_⟩
  · rw [hat, if_neg]
    rintro rfl
    exact hk h
  · rw [hat]
    split
    next e => exact ⟨p, o, n, by rw [e]⟩
    next => exact ⟨_, _, _, rfl⟩

/-- A region that may be used belongs to a queue pair in RTS (R437). -/
theorem regionUsable_live {s : State} {n off len z : Nat} {wr : Bool} (h : regionUsable s n off len wr = some z) :
    (qpAt s z).st = 1 := by
  unfold regionUsable at h
  split at h
  · cases h
  next b hb =>
    by_cases hc : (if wr then regionWrite b else regionRead b) ∧ off + len ≤ regionLen b ∧ (qpAt s (regionQp b)).st = 1
    · rw [if_pos hc] at h
      exact Option.some.inj h ▸ hc.2.2
    · rw [if_neg hc] at h
      cases h

theorem hostWrite_host {q : Nat} (k off : Nat) (b : List Byte) (i : Option Word) (p : Purpose) (s : State) :
    AnswersHost q s (hostWrite k off b i p s).1 := by
  unfold hostWrite
  split
  · exact .rfl' s
  next z hz => exact issueReq_host (regionUsable_live hz) _

theorem sendBoot_host {q : Nat} (n : Nat) (dst : List Byte) (kind : Nat) (m : List Byte) (s : State) :
    AnswersHost q s (sendBoot n dst kind m s) := by
  unfold sendBoot
  dsimp only
  split
  · exact .of_eq rfl rfl rfl
  · exact .of_eq rfl rfl rfl

theorem endSlot_host {q : Nat} (k : Nat) (p : Response) (s : State) : AnswersHost q s (endSlot k p s) := by
  have hset : ∀ x, AnswersHost q s (setSlot k x s) := fun x => .of_eq rfl rfl rfl
  unfold endSlot
  dsimp only
  split
  · exact hset _
  · split
    · exact hset _
    · exact (hset _).trans (hostWrite_host ..)

theorem modJob_host (q : Nat) (pos : Word) (f : Job → Job) (s : State) : AnswersHost q s (modJob q pos f s) :=
  ⟨rfl, fun _ hk => hqAt_setHq_ne hk _ s, ⟨_, hqAt_modJob ..⟩, fun _ _ => rfl, fun _ => ⟨_, _, _, rfl⟩⟩

theorem endMessageJob_host (p : Response) (s : State) : AnswersHost p.queue.toNat s (endMessageJob p s) := by
  unfold endMessageJob
  dsimp only
  split
  · exact .rfl' s
  · exact (hostWrite_host ..).trans (modJob_host ..)

theorem deliver_host (p : Response) (s : State) : AnswersHost p.queue.toNat s (deliver p s) := by
  unfold deliver
  split
  · exact endMessageJob_host ..
  · split
    · exact endSlot_host ..
    · exact .rfl' s
  · split
    · exact (endSlot_host ..).trans (sendBoot_host ..)
    · exact sendBoot_host ..

theorem setToune_host {q : Nat} (x : Toune) (s : State) : AnswersHost q s (s.setToune x) := .of_eq rfl rfl rfl

theorem send_host (p : Response) (s : State) : AnswersHost p.queue.toNat s (send p s) := by
  have h := (setToune_host (q := p.queue.toNat) { s.toune with responses := s.toune.responses ++ [p] } s).trans (deliver_host p _)
  unfold send
  dsimp only
  split
  · exact h.trans (setToune_host ..)
  · exact h

theorem finish_host (op : Nat) (r : Req) (rep : Reply) (u : Bool) (s : State) :
    AnswersHost r.queue.toNat s (finish op r rep u s) := by
  unfold finish
  extract_lets x p s1 s2 id
  have h1 : AnswersHost r.queue.toNat s s1 := by
    show AnswersHost _ s (if _ then _ else _)
    split
    · exact .of_eq rfl rfl rfl
    · exact .rfl' s
  have h2 : AnswersHost r.queue.toNat s s2 := by
    show AnswersHost _ s (if _ then s1 else send p s1)
    split
    · exact h1
    · exact h1.trans (send_host p s1)
  split
  · exact h2.trans (setToune_host ..)
  · exact h2

theorem deliver_bootstrap {p : Response} (h : p.route = .bootstrap) (s : State) : (deliver p s).host.qp = s.host.qp := by
  have hboot : ∀ n d m (s : State), (sendBoot n d 1 m s).host.qp = s.host.qp := fun n d m s => by
    unfold sendBoot
    dsimp only
    split <;> rfl
  unfold deliver
  rw [h]
  dsimp only
  split
  · rw [hboot, endSlot, if_pos (by rw [h]; decide)]
    rfl
  · exact hboot ..

/-- An answer over the bootstrap route moves no queue pair on (R428). -/
theorem finish_bootstrap {r : Req} (h : r.route = .bootstrap) (op : Nat) (rep : Reply) (u : Bool) (s : State) :
    (finish op r rep u s).host.qp = s.host.qp := by
  unfold finish
  extract_lets x p s1 s2 id
  have h1 : s1.host = s.host := by
    show (if _ then _ else _ : State).host = _
    split <;> rfl
  have h2 : s2.host.qp = s.host.qp := by
    show (if _ then s1 else send p s1 : State).host.qp = _
    split
    · rw [h1]
    · have hd := (deliver_bootstrap (p := p) h (s1.setToune { s1.toune with responses := s1.toune.responses ++ [p] })).trans
        (congrArg HostIf.qp h1)
      unfold send
      dsimp only
      split <;> exact hd
  split <;> exact h2

section
variable {op : Nat} {body : Req → State → State × Reply} {r : Req} {s : State} {f : Table Session → State}

/-- A request whose body does something and answers at once, with what the answer leaves of the host interface. -/
theorem runs_serves {rep : Table Session → Reply} (h : Runs op r s) (e : ∀ m, body r (withSessions m s) = (f m, rep m))
    (hr : ∀ m, (f m).toune.responses = s.toune.responses) (w : ∀ m, (rep m).waits = false := by intro; rfl) :
    ∃ m, OnlyAnswers (f m) (runToune op body r s) ∧
      Answered op r (rep m).status (rep m).payload s (runToune op body r s) ∧
      (runToune op body r s).toune.events = (f m).toune.events ∧ AnswersHost r.queue.toNat (f m) (runToune op body r s) ∧
      (r.route = .bootstrap → (runToune op body r s).host.qp = (f m).host.qp) := by
  obtain ⟨m, hm⟩ := runs_noted (body := body) h
  rw [e m] at hm
  obtain ⟨p, hp, hop, hsess, hseq, hst, hpl, -⟩ := finish_answered op r (rep m) false (f m) (w m)
  rw [hm]
  exact ⟨m, finish_answers .., ⟨p, by rw [hp, hr], hop, hsess, hseq, hst, hpl⟩, finish_events .., finish_host ..,
    fun hb => finish_bootstrap hb ..⟩

end

/-! ### Queues that leave ENABLED -/

/-- Between two states the host regions stand, no queue has become ENABLED, and no response has been sent. -/
structure QueuesStop (s t : State) : Prop where
  region : t.host.region = s.host.region
  stopped : ∀ k, (hqAt s k).st ≠ 1 → (hqAt t k).st ≠ 1
  responses : t.toune.responses = s.toune.responses

section
variable {s t u : State}

theorem QueuesStop.of_eq (hr : t.host.region = s.host.region) (hq : t.host.queue = s.host.queue)
    (ht : t.toune.responses = s.toune.responses) : QueuesStop s t := ⟨hr, fun k h => by rw [hqAt_congr hq]; exact h, ht⟩

theorem QueuesStop.rfl' (s : State) : QueuesStop s s := .of_eq rfl rfl rfl

theorem QueuesStop.trans (h : QueuesStop s t) (k : QueuesStop t u) : QueuesStop s u :=
  ⟨k.region.trans h.region, fun j hj => k.stopped j (h.stopped j hj), k.responses.trans h.responses⟩

theorem QueuesStop.foldl {α : Type} {g : State → α → State} (h : ∀ s a, QueuesStop s (g s a)) (l : List α) (s : State) :
    QueuesStop s (l.foldl g s) := by
  induction l generalizing s with
  | nil => exact .rfl' s
  | cons a l ih => exact (h s a).trans (ih (g s a))

theorem setHq_stops {q : Nat} {x : Queue} (h : (hqAt s q).st ≠ 1 → x.st ≠ 1) : QueuesStop s (setHq q x s) := by
  refine ⟨rfl, fun k hk => ?_, rfl⟩
  rw [hqAt_setHq]
  split
  next e => exact h (e ▸ hk)
  next => exact hk

theorem dropJob_stops (q : Nat) (pos : Word) (s : State) : QueuesStop s (dropJob q pos s) := setHq_stops id

theorem modJob_stops (q : Nat) (pos : Word) (f : Job → Job) (s : State) : QueuesStop s (modJob q pos f s) := setHq_stops id

/-- A queue that is DISABLED stands at 3, and the other queues stand (R460). -/
theorem queueDisabled_queue (q : Nat) (s : State) : (queueDisabled q s).host.region = s.host.region ∧
    (∀ k, hqAt (queueDisabled q s) k = if k = q then
      { hqAt s q with st := 3, jobs := [], entries := [], handle := none, rxOff := 0 } else hqAt s k) ∧
    (queueDisabled q s).toune.responses = s.toune.responses := by
  have h : (queueDisabled q s).host =
      (setHq q { hqAt s q with st := 3, jobs := [], entries := [], handle := none, rxOff := 0 } s).host := by
    unfold queueDisabled
    dsimp only
    split
    · exact (unbindRing_same ..).host rfl
    · exact (unbindRing_same ..).host rfl
  refine ⟨(congrArg HostIf.region h :), fun k => ?_, ?_⟩
  · rw [hqAt_congr (congrArg HostIf.queue h)]
    exact hqAt_setHq ..
  · have hu : ∀ (x : Queue) (u : State), (unbindRing q x u).toune.responses = u.toune.responses := fun x u =>
      congrArg Toune.responses ((unbindRing_same ..).toune rfl)
    unfold queueDisabled
    dsimp only
    split
    · exact hu ..
    · exact hu ..

theorem settleQueue_stops (q : Nat) (s : State) : QueuesStop s (settleQueue q s) := by
  obtain ⟨hr, hq, ht⟩ := queueDisabled_queue q s
  unfold settleQueue
  split
  · refine ⟨hr, fun k hk => ?_, ht⟩
    rw [hq]
    split
    · exact (by decide : (3 : Nat) ≠ 1)
    · exact hk
  · exact .rfl' s

theorem dropHostCopies_stops (q : Nat) (s : State) : QueuesStop s (dropHostCopies q s) := by
  have h := (dropHostCopies_same q s).host rfl
  refine .of_eq (congrArg HostIf.region h) (congrArg HostIf.queue h) ?_
  refine foldl_keeps (f := fun s : State => s.toune.responses) (fun u k => ?_) _ _
  exact (dropCopy_departs ..).responses

/-- A queue is leaving ENABLED: fetching stops, and jobs not yet started are discarded (R460). -/
def stopping (q cause : Nat) (s : State) : State :=
  forgetFetch q (setHq q { hqAt s q with
    st := 2, cause := cause, entries := [], fetching := 0, arrived := none, held := [], fullEpisode := false
    jobs := (hqAt s q).jobs.filter (fun j => j.begun) } s)

theorem stopping_stops (q cause : Nat) (s : State) : QueuesStop s (stopping q cause s) := by
  have h : QueuesStop s (setHq q { hqAt s q with
      st := 2, cause := cause, entries := [], fetching := 0, arrived := none, held := [], fullEpisode := false
      jobs := (hqAt s q).jobs.filter (fun j => j.begun) } s) := setHq_stops fun _ => (by decide : (2 : Nat) ≠ 1)
  exact ⟨h.region, h.stopped, rfl⟩

/-- The jobs whose completions the queue held, and the host copies that waited for it, are given up (R456, R460). -/
def givenUp (q : Nat) (x : Queue) (s : State) : State :=
  if x.kind = 2 then dropHostCopies q (x.held.foldl (fun s e => dropJob e.1 e.2.1 s) s)
  else x.held.foldl (fun s e => dropJob e.1 e.2.1 s) s

theorem givenUp_stops (q : Nat) (x : Queue) (s : State) : QueuesStop s (givenUp q x s) := by
  have h : QueuesStop s (x.held.foldl (fun s e => dropJob e.1 e.2.1 s) s) := .foldl (fun _ _ => dropJob_stops ..) _ s
  unfold givenUp
  split
  · exact h.trans (dropHostCopies_stops ..)
  · exact h

theorem disableOne_enabled {q : Nat} (h : (hqAt s q).st = 1) (cause : Nat) :
    disableOne q cause s = settleQueue q (givenUp q (hqAt s q) (stopping q cause s)) := by
  unfold disableOne
  exact if_neg (not_not_intro h)

theorem disableOne_idle {q : Nat} (h : (hqAt s q).st ≠ 1) (cause : Nat) : disableOne q cause s = s := if_pos h

theorem disableOne_stops (q cause : Nat) (s : State) : QueuesStop s (disableOne q cause s) := by
  by_cases h : (hqAt s q).st = 1
  · rw [disableOne_enabled h]
    exact ((stopping_stops ..).trans (givenUp_stops ..)).trans (settleQueue_stops ..)
  · rw [disableOne_idle h]
    exact .rfl' s

/-- A queue that has left ENABLED is not ENABLED. -/
theorem disableOne_self (q cause : Nat) (s : State) : (hqAt (disableOne q cause s) q).st ≠ 1 := by
  by_cases h : (hqAt s q).st = 1
  · rw [disableOne_enabled h]
    have h2 : (hqAt (stopping q cause s) q).st ≠ 1 := by
      rw [show hqAt (stopping q cause s) q = _ from hqAt_setHq_self ..]
      exact (by decide : (2 : Nat) ≠ 1)
    exact (settleQueue_stops ..).stopped q ((givenUp_stops ..).stopped q h2)
  · rw [disableOne_idle h]
    exact h

/-- Disabling a list of queues one after the other leaves none of them ENABLED. -/
theorem foldl_stopped {α : Type} {g : State → α → State} {key : α → Nat} (h : ∀ s a, QueuesStop s (g s a))
    (hk : ∀ s a, (hqAt (g s a) (key a)).st ≠ 1) {l : List α} {a : α} (ha : a ∈ l) (s : State) :
    (hqAt (l.foldl g s) (key a)).st ≠ 1 := by
  induction l generalizing s with
  | nil => cases ha
  | cons b l ih =>
    rcases List.mem_cons.mp ha with rfl | hm
    · exact (QueuesStop.foldl h l _).stopped _ (hk s _)
    · exact ih hm _

theorem disableQueue_stops (q cause : Nat) (s : State) : QueuesStop s (disableQueue q cause s) := by
  unfold disableQueue
  dsimp only
  split
  · exact (disableOne_stops ..).trans (.foldl (fun _ _ => disableOne_stops ..) _ _)
  · exact disableOne_stops ..

theorem disableQueue_self (q cause : Nat) (s : State) : (hqAt (disableQueue q cause s) q).st ≠ 1 := by
  have h := disableOne_self q cause s
  unfold disableQueue
  dsimp only
  split
  · exact (QueuesStop.foldl (fun _ _ => disableOne_stops ..) _ _).stopped q h
  · exact h

theorem flushReq_stops (r : OutReq) (s : State) : QueuesStop s (flushReq r s) := by
  unfold flushReq
  split
  · split
    · exact disableQueue_stops ..
    · exact .rfl' s
  · exact (dropJob_stops ..).trans (disableQueue_stops ..)
  · exact disableQueue_stops ..
  · exact modJob_stops ..
  · exact disableQueue_stops ..
  · exact .rfl' s

/-- A queue pair without requests under way fails with its event alone (R439). -/
theorem qpError_idle {q : Nat} (h : (qpAt s q).out = []) (cause : Nat) (psn : BitVec 24) : qpError q cause psn s =
    raise Ev.qpError (le 2 q ++ le 1 cause ++ le 4 psn.toNat ++ le 8 s.tick.count.toNat)
      (setQp q { qpAt s q with st := 2, cause := cause, out := [], nakOut := false, resends := 0 } s) := by
  unfold qpError
  dsimp only
  rw [h]
  rfl

theorem qpError_stops (q cause : Nat) (psn : BitVec 24) (s : State) : QueuesStop s (qpError q cause psn s) := by
  unfold qpError
  refine QueuesStop.trans ?_ (.foldl (fun _ _ => flushReq_stops ..) _ _)
  exact .of_eq rfl rfl rfl

end

end Sys2Proof.Machine
end

section
/-! Proofs.  The commands on queue pairs and host regions (R437 to R439). -/

namespace Sys2Proof.Machine

/-! ### QP_CREATE and QP_RESTART -/

/-- The two commands that put a queue pair in RTS: they differ in the state that they ask for (R438, R439). -/
def bodyQpStart (need : Nat) (r : Req) (s : State) : State × Reply :=
  if !qpArgOk s r.payload then (s, .no St.eArg)
  else if (qpAt s (rd r.payload 0 2)).st ≠ need then (s, .no St.eBusy)
  else (startQp r.cycle r.payload s, .yes (le 4 (256 + rd r.payload 0 2)))

theorem bodyQpCreate_eq : bodyQpCreate = bodyQpStart 0 := rfl

theorem bodyQpRestart_eq : bodyQpRestart = bodyQpStart 2 := rfl

section
variable {op need : Nat} {r : Req} {s : State}

theorem bodyQpStart_bad (h : qpArgOk s r.payload = false) : bodyQpStart need r s = (s, .no St.eArg) := if_pos (by simp [h])

theorem bodyQpStart_busy (h : qpArgOk s r.payload = true) (hst : (qpAt s (rd r.payload 0 2)).st ≠ need) :
    bodyQpStart need r s = (s, .no St.eBusy) := (if_neg (by simp [h])).trans (if_pos hst)

theorem bodyQpStart_starts (h : qpArgOk s r.payload = true) (hst : (qpAt s (rd r.payload 0 2)).st = need) :
    bodyQpStart need r s = (startQp r.cycle r.payload s, .yes (le 4 (256 + rd r.payload 0 2))) :=
  (if_neg (by simp [h])).trans (if_neg (not_not_intro hst))

/-- A queue pair that is put in RTS, past the answer (R438). -/
theorem runs_startQp (hr : Runs op r s) (h : qpArgOk s r.payload = true) (hst : (qpAt s (rd r.payload 0 2)).st = need) :
    ∃ t, runToune op (bodyQpStart need) r s = t ∧ Answered op r St.ok (le 4 (256 + rd r.payload 0 2)) s t ∧
      (qpAt t (rd r.payload 0 2)).st = 1 ∧ (qpAt t (rd r.payload 0 2)).arg = r.payload ∧
      (qpAt t (rd r.payload 0 2)).cause = 0 ∧ (qpAt t (rd r.payload 0 2)).rqPsn = BitVec.ofNat 24 (rd r.payload 0x24 3) ∧
      (qpAt t (rd r.payload 0 2)).start = dueTick s r.cycle ∧
      t.sys.deferred = s.sys.deferred ++ [{ due := dueTick s r.cycle, change := .qpStart (rd r.payload 0 2) }] ∧
      (r.route = .bootstrap → ∀ k, k ≠ rd r.payload 0 2 → qpAt t k = qpAt s k) ∧ t.host.region = s.host.region := by
  obtain ⟨m, ht, hans, -, hh, hb⟩ := runs_serves hr (fun m => bodyQpStart_starts (s := withSessions m s) h hst) fun _ => rfl
  obtain ⟨p, o, n, hq⟩ := hh.live (rd r.payload 0 2)
  have hnew : qpAt (startQp r.cycle r.payload (withSessions m s)) (rd r.payload 0 2) = _ := qpAt_setQp_self ..
  rw [hnew] at hq
  refine ⟨_, rfl, hans, by rw [hq], by rw [hq], by rw [hq], by rw [hq], by rw [hq]; rfl, congrArg Sys.deferred ht.sys,
    fun hbo k hk => ?_, hh.region⟩
  rw [qpAt_congr (hb hbo)]
  exact qpAt_setQp_ne hk _ s

end

/-! ### The other commands -/

section
variable {r : Req} {s : State}

/-- A queue pair is freed; one in RTS ends its requests first (R438, R439). -/
def qpFreed (q : Nat) (s : State) : State :=
  setQp q {} (if (qpAt s q).st = 1 then qpError q 4 (qpAt s q).sqPsn s else s)

theorem qpFreed_stops (q : Nat) (s : State) : QueuesStop s (qpFreed q s) := by
  have h : QueuesStop s (if (qpAt s q).st = 1 then qpError q 4 (qpAt s q).sqPsn s else s) := by
    split
    · exact qpError_stops ..
    · exact .rfl' s
  exact ⟨h.region, h.stopped, h.responses⟩

section
variable (hl : r.payload.length = 2) (hq : rd r.payload 0 2 < 256)
include hl hq

theorem bodyQpDestroy_free (h : (qpAt s (rd r.payload 0 2)).st = 0) : bodyQpDestroy r s = (s, .no St.eArg) :=
  (if_neg (by omega)).trans (if_pos h)

theorem bodyQpDestroy_live (h : (qpAt s (rd r.payload 0 2)).st ≠ 0) : bodyQpDestroy r s =
    (qpFreed (rd r.payload 0 2) s, .yes []) :=
  (if_neg (by omega)).trans (if_neg h)

theorem bodyQpQuery_legal : bodyQpQuery r s = (s, .yes (padTo 64 (qpAt s (rd r.payload 0 2)).arg ++
    le 1 (qpAt s (rd r.payload 0 2)).st ++ le 1 (qpAt s (rd r.payload 0 2)).cause ++ le 2 0 ++
    le 4 (qpAt s (rd r.payload 0 2)).sqPsn.toNat ++ le 4 (qpAt s (rd r.payload 0 2)).rqPsn.toNat)) := if_neg (by omega)

end

theorem bodyHregionAdd_good (h : ¬(r.payload.length ≠ 32 ∨ 4096 ≤ rd r.payload 0 2 ∨ 256 ≤ rd r.payload 2 2 ∨
    rd r.payload 0x10 8 = 0 ∨ 2 ^ 40 < rd r.payload 0x10 8 ∨ 4 ≤ rd r.payload 0x18 1 ∨ rd r.payload 0x19 7 ≠ 0)) :
    bodyHregionAdd r s =
      (s.setHost { s.host with region := tput s.host.region (rd r.payload 0 2) r.payload }, .yes []) :=
  if_neg (by simpa [zeros] using h)

theorem bodyHregionAdd_bad (h : r.payload.length ≠ 32 ∨ 4096 ≤ rd r.payload 0 2 ∨ 256 ≤ rd r.payload 2 2 ∨
    rd r.payload 0x10 8 = 0 ∨ 2 ^ 40 < rd r.payload 0x10 8 ∨ 4 ≤ rd r.payload 0x18 1 ∨ rd r.payload 0x19 7 ≠ 0) :
    bodyHregionAdd r s = (s, .no St.eArg) := if_pos (by simpa [zeros] using h)

theorem bodyHregionRemove_none (h : regionAt s (rd r.payload 0 2) = none) : bodyHregionRemove r s = (s, .no St.eArg) :=
  if_pos (.inr (.inr (by simp [h])))

/-- A queue whose ring lay in a region that is gone is disabled (R460). -/
def ringGone (s : State) (e : Nat × Queue) : State := disableQueue e.1 (if e.2.submits then 2 else 4) s

/-- The region is gone, and the queues whose ring lay in it are disabled (R437). -/
def regionRemoved (n : Nat) (s : State) : State :=
  (s.host.queue.filter (fun e => e.2.st == 1 && e.2.ring_ == n)).foldl ringGone
    (s.setHost { s.host with region := terase s.host.region n })

theorem bodyHregionRemove_some (hl : r.payload.length = 2) (hn : rd r.payload 0 2 < 4096) (h : regionAt s (rd r.payload 0 2) ≠ none) :
    bodyHregionRemove r s = (regionRemoved (rd r.payload 0 2) s, .yes []) :=
  if_neg fun hc => hc.elim (fun e => e hl) fun e => e.elim (fun e => by omega) fun e => h (Option.isNone_iff_eq_none.mp e)

theorem regionRemoved_stops (n : Nat) (s : State) :
    QueuesStop (s.setHost { s.host with region := terase s.host.region n }) (regionRemoved n s) := by
  unfold regionRemoved
  exact .foldl (fun _ _ => disableQueue_stops ..) _ _

theorem regionRemoved_queue {q n : Nat} {s : State} {x : Queue} (hx : (q, x) ∈ s.host.queue) (hst : x.st = 1) (hr : x.ring_ = n) :
    (hqAt (regionRemoved n s) q).st ≠ 1 := by
  have hmem : (q, x) ∈ s.host.queue.filter (fun e => e.2.st == 1 && e.2.ring_ == n) :=
    List.mem_filter.mpr ⟨hx, by simp [hst, hr]⟩
  exact foldl_stopped (g := ringGone) (key := Prod.fst) (a := (q, x)) (fun s e => disableQueue_stops e.1 _ s)
    (fun s e => disableQueue_self e.1 _ s) hmem _

theorem bodyHregionRead_legal (hl : r.payload.length = 4) (h1 : 1 ≤ rd r.payload 2 2) (hn : rd r.payload 2 2 ≤ 127)
    (ha : rd r.payload 0 2 + rd r.payload 2 2 ≤ 4096) : bodyHregionRead r s =
    (s, .yes ((List.range (rd r.payload 2 2)).flatMap (fun i => padTo 32 ((regionAt s (rd r.payload 0 2 + i)).getD [])))) :=
  if_neg (by omega)

end

/-! ### The statement -/

/-- Settles O53: the queue pair in RTS past the answer by `runs_startQp`, the queues of a removed region by `regionRemoved_queue`.
E_ARG of QP_DESTROY on a FREE pair and of HREGION_REMOVE on no region, and that HREGION_ADD overwrites, are the model's choices of log
entry 46; the layouts are those of log entry 31. -/
theorem queuePairsAndHostRegionsAreSetUp : Obligations.QueuePairsAndHostRegionsAreSetUp := by
  rintro r s p rfl
  refine ⟨fun op c need hmem hr q hq => ?start, fun q hl hq hlt => ⟨fun hr h => ?free, fun hr h => ?destroy, fun hr => ?query⟩,
    fun hr => ⟨fun h1 h2 h3 h4 h5 h6 h7 => ?add, fun h => ?addBad⟩,
    fun hr hl n hn hlt => ⟨fun h => ?removeNone, fun h => ?remove⟩, fun hr hl a n ha hn h1 h127 hlt => ?read⟩
  case start =>
    subst hq
    have hexec : exec (c r) s = .next (runToune op (bodyQpStart need) r s) := by
      rcases List.mem_cons.mp hmem with h | h
      · cases h
        rfl
      · cases List.mem_singleton.mp h
        rfl
    refine ⟨fun h => ⟨_, hexec, runs_no hr fun m => bodyQpStart_bad (s := withSessions m s) h⟩,
      fun h hst => ⟨_, hexec, runs_no hr fun m => bodyQpStart_busy (s := withSessions m s) h hst⟩, fun h hst => ?_⟩
    obtain ⟨t, ht, hpost⟩ := runs_startQp hr h hst
    exact ⟨t, hexec.trans (congrArg Host.Outcome.next ht), hpost⟩
  case free =>
    subst hq
    exact ⟨_, rfl, runs_no hr fun m => bodyQpDestroy_free (s := withSessions m s) hl hlt h⟩
  case destroy =>
    subst hq
    obtain ⟨m, -, hans, hev, hh, -⟩ := runs_serves hr (fun m => bodyQpDestroy_live (s := withSessions m s) hl hlt h)
      fun m => (qpFreed_stops ..).responses
    refine ⟨_, rfl, ?_, hans, hh.region.trans (qpFreed_stops ..).region, fun h1 ho => ?_, fun h1 => ?_⟩
    · have hfree : qpAt (qpFreed (rd r.payload 0 2) (withSessions m s)) (rd r.payload 0 2) = {} := qpAt_setQp_self ..
      exact (hh.idle _ (by rw [show qpAt (qpFreed (rd r.payload 0 2) (withSessions m s)) _ = {} from hfree]; decide)).trans hfree
    · have hfail : qpFreed (rd r.payload 0 2) (withSessions m s) = setQp (rd r.payload 0 2) {} _ :=
        congrArg (setQp _ {}) ((if_pos h1).trans (qpError_idle (s := withSessions m s) ho _ _))
      obtain ⟨l, hl, hd⟩ := raise_raised (r := s) Ev.qpError (le 2 (rd r.payload 0 2) ++ le 1 4 ++
        le 4 (qpAt s (rd r.payload 0 2)).sqPsn.toNat ++ le 8 s.tick.count.toNat) (s := withSessions m s) rfl
      refine ⟨l, hev.trans ?_, hd⟩
      rw [hfail]
      exact hl
    · exact ⟨[], hev.trans ((congrArg (fun u : State => u.toune.events) (congrArg (setQp _ {}) (if_neg h1))).trans
        (List.append_nil _).symm), rfl⟩
  case query =>
    subst hq
    obtain ⟨_, hans⟩ := runs_yes hr fun m => bodyQpQuery_legal (s := withSessions m s) hl hlt
    exact ⟨_, rfl, hans⟩
  case add =>
    obtain ⟨m, -, hans, -, hh, -⟩ := runs_serves hr (fun m => bodyHregionAdd_good (s := withSessions m s) (by omega)) fun _ => rfl
    refine ⟨_, rfl, hans, (hh.regionAt _).trans ((tfind_tput ..).trans (if_pos rfl)), fun k hk => (hh.regionAt _).trans ?_⟩
    exact (tfind_tput ..).trans (if_neg hk)
  case addBad =>
    obtain ⟨m, -, hans, -, hh, -⟩ := runs_serves hr (fun m => bodyHregionAdd_bad (s := withSessions m s) h) fun _ => rfl
    exact ⟨_, rfl, hh.region, hans⟩
  case removeNone =>
    subst hn
    exact ⟨_, rfl, runs_no hr fun m => bodyHregionRemove_none (s := withSessions m s) h⟩
  case remove =>
    subst hn
    obtain ⟨m, -, hans, -, hh, -⟩ := runs_serves hr (fun m => bodyHregionRemove_some (s := withSessions m s) hl hlt h)
      fun m => (regionRemoved_stops _ (withSessions m s)).responses
    have hreg : ∀ k, regionAt (runToune Op.hregionRemove bodyHregionRemove r s) k =
        if k = rd r.payload 0 2 then none else regionAt s k := fun k => by
      rw [hh.regionAt, regionAt, (regionRemoved_stops _ (withSessions m s)).region]
      exact tfind_terase ..
    refine ⟨_, rfl, hans, (hreg _).trans (if_pos rfl), fun k hk => (hreg k).trans (if_neg hk), fun q x hx hat hst hring => ?_⟩
    obtain ⟨f, hf⟩ := hh.queue q
    rw [hf]
    exact regionRemoved_queue (s := withSessions m s) hx hst hring
  case read =>
    subst ha hn
    obtain ⟨_, hans⟩ := runs_yes hr fun m => bodyHregionRead_legal (s := withSessions m s) hl h1 h127 hlt
    exact ⟨_, rfl, hans⟩

end Sys2Proof.Machine
end

section
/-! Proofs.  What an answer leaves of the sessions, and the commands on sessions, handles, the audit journal and the staging buffer
(R482 to R504). -/

namespace Sys2Proof.Machine

/-! ### What an answer leaves -/

/-- Between two states the closed sessions stand, and the open ones but for what is kept of the latest bootstrap request. -/
structure SessionsStand (s t : State) : Prop where
  closed : ∀ i, (sessionAt s i).isOpen = false → sessionAt t i = sessionAt s i
  live : ∀ i, ∃ q p m h, sessionAt t i = { sessionAt s i with lastSeq := q, lastResp := p, mac := m, hp := h }

section
variable {s t u : State}

theorem sessionAt_congr (h : t.toune.sessions = s.toune.sessions) (i : Nat) : sessionAt t i = sessionAt s i := by
  unfold sessionAt
  rw [h]

theorem SessionsStand.of_eq (h : t.toune.sessions = s.toune.sessions) : SessionsStand s t :=
  ⟨fun i _ => sessionAt_congr h i, fun i => ⟨_, _, _, _, sessionAt_congr h i⟩⟩

theorem SessionsStand.rfl' (s : State) : SessionsStand s s := .of_eq rfl

theorem SessionsStand.trans (h : SessionsStand s t) (k : SessionsStand t u) : SessionsStand s u := by
  refine ⟨fun i hi => ?_, fun i => ?_⟩
  · have hs := h.closed i hi
    rw [k.closed i (by rw [hs]; exact hi), hs]
  · obtain ⟨q, p, m, n, hs⟩ := h.live i
    obtain ⟨q', p', m', n', ht⟩ := k.live i
    exact ⟨q', p', m', n', by rw [ht, hs]⟩

theorem SessionsStand.isOpen (h : SessionsStand s t) (i : Nat) : (sessionAt t i).isOpen = (sessionAt s i).isOpen := by
  obtain ⟨q, p, m, n, e⟩ := h.live i
  rw [e]

theorem SessionsStand.gen (h : SessionsStand s t) (i : Nat) : (sessionAt t i).gen = (sessionAt s i).gen := by
  obtain ⟨q, p, m, n, e⟩ := h.live i
  rw [e]

/-- What is kept of a bootstrap request is kept in its open session (R429). -/
theorem setSession_stands {id : Word} (h : sessionOpen? s id = true) (q : Option Word) (p : Option Response) (m : BitVec 48) (n : Nat) :
    SessionsStand s (setSession (sessionIdx id)
      { sessionAt s (sessionIdx id) with lastSeq := q, lastResp := p, mac := m, hp := n } s) := by
  have ho : (sessionAt s (sessionIdx id)).isOpen = true := by
    unfold sessionOpen? at h
    simp only [Bool.and_eq_true] at h
    exact h.1.2
  refine ⟨fun i hi => ?_, fun i => ?_⟩
  · rw [sessionAt_setSession, if_neg]
    rintro rfl
    rw [ho] at hi
    cases hi
  · rw [sessionAt_setSession]
    split
    next e => exact ⟨q, p, m, n, by rw [e]⟩
    next => exact ⟨_, _, _, _, rfl⟩

end

theorem send_stands (p : Response) (s : State) : SessionsStand s (send p s) := by
  have h : SessionsStand s (deliver p (s.setToune { s.toune with responses := s.toune.responses ++ [p] })) :=
    .of_eq (congrArg Toune.sessions (deliver_toune p _) :)
  unfold send
  dsimp only
  split
  next hc => exact h.trans (setSession_stands hc.2.1 ..)
  next => exact h

theorem finish_stands (op : Nat) (r : Req) (rep : Reply) (u : Bool) (s : State) : SessionsStand s (finish op r rep u s) := by
  unfold finish
  extract_lets x p s1 s2 id
  have h1 : SessionsStand s s1 := by
    show SessionsStand s (if _ then _ else _)
    split
    · exact .of_eq rfl
    · exact .rfl' s
  have h2 : SessionsStand s s2 := by
    show SessionsStand s (if _ then s1 else send p s1)
    split
    · exact h1
    · exact h1.trans (send_stands p s1)
  split
  next hc => exact h2.trans (setSession_stands hc.2.2 ..)
  next => exact h2

/-- A query is not audited (R498). -/
theorem finish_audit {op : Nat} (hq : isQuery op = true) (r : Req) {rep : Reply} (ha : rep.audited = false) (s : State) :
    (finish op r rep false s).toune.audit = s.toune.audit := by
  have hsend : ∀ p (s : State), (send p s).toune.audit = s.toune.audit := fun p s => by
    unfold send
    dsimp only
    have h := congrArg Toune.audit (deliver_toune p (s.setToune { s.toune with responses := s.toune.responses ++ [p] }))
    split
    · exact h
    · exact h
  unfold finish
  extract_lets x p s1 s2 id
  have h1 : s1 = s := if_neg (by simp [hq, ha])
  have h2 : s2.toune.audit = s.toune.audit := by
    show (if _ then s1 else send p s1 : State).toune.audit = _
    rw [h1]
    split
    · rfl
    · exact hsend ..
  split <;> exact h2

/-- A request that runs under a session names an open one (R478 check 3). -/
theorem Runs.sessionOpen {op : Nat} {r : Req} {s : State} (h : Runs op r s) (hop : op ≠ Op.sessionOpen) :
    sessionOpen? s r.session = true := by
  have := refusal_none h.checked
  simp only [Bool.or_eq_false_iff, Bool.not_eq_false', Bool.or_eq_true, Bool.and_eq_true, beq_iff_eq] at this
  exact this.1.resolve_right fun e => hop e.2

/-- The session of a request, once noted (R485). -/
theorem sessionAt_touch_self {op : Nat} {r : Req} {s : State} (h : Runs op r s) (hop : op ≠ Op.sessionOpen) :
    sessionAt (touch r s) (sessionIdx r.session) = { sessionAt s (sessionIdx r.session) with lastReq := s.tick.count } := by
  rw [sessionAt_touch, if_pos ⟨h.sessionOpen hop, rfl⟩]

section
variable {op : Nat} {body : Req → State → State × Reply} {r : Req} {s s' : State} {rep : Reply}

/-- A request whose body does something to the state in which it has been noted, with what its answer leaves of the protocol's state. -/
theorem runs_keeps (h : Runs op r s) (e : body r (touch r s) = (s', rep)) (w : rep.waits = false)
    (hr : s'.toune.responses = (touch r s).toune.responses) :
    OnlyAnswers s' (runToune op body r s) ∧ Answered op r rep.status rep.payload s (runToune op body r s) ∧
      (runToune op body r s).toune.events = s'.toune.events ∧ (runToune op body r s).toune.handles = s'.toune.handles ∧
      SessionsStand s' (runToune op body r s) := by
  obtain ⟨ha, hans⟩ := runs_noting h e w hr
  refine ⟨ha, hans, ?_, ?_, ?_⟩
  all_goals rw [runToune_runs op body r s h, e]
  · exact finish_events ..
  · exact finish_handles ..
  · exact finish_stands ..

/-- A request whose body changes nothing leaves the handles too. -/
theorem runs_rests (h : Runs op r s) (e : body r (touch r s) = (touch r s, rep)) (w : rep.waits = false) :
    Answered op r rep.status rep.payload s (runToune op body r s) ∧ (runToune op body r s).toune.handles = s.toune.handles := by
  obtain ⟨-, hans, -, hh, -⟩ := runs_keeps h e w rfl
  exact ⟨hans, hh.trans (touch_handles r s)⟩

end

theorem handleAt_congr {s t : State} (h : t.toune.handles = s.toune.handles) (i : Nat) : handleAt t i = handleAt s i := by
  unfold handleAt
  rw [h]

end Sys2Proof.Machine
end

section
/-! Proofs.  Sessions, handles, the audit journal and the staging buffer (R482 to R504). -/

namespace Sys2Proof.Machine

/-! ### Opening a session -/

/-- The free index that SESSION_OPEN takes: which one is open (R482). -/
def openIndex (s : State) : Nat := (freeSessions s).getD ((freeBits 32 s).toNat % (freeSessions s).length) 0

/-- The session stands open at the index, and its bootstrap request is known again (R429, R482). -/
def sessionMade (r : Req) (v w : Nat) (s : State) : State :=
  if r.route = .bootstrap then
    (setSession (openIndex s) (openedSession s r (openIndex s) v w) (drawn s)).setToune
      { (setSession (openIndex s) (openedSession s r (openIndex s) v w) (drawn s)).toune with
        bootOpens := s.toune.bootOpens.filter (fun e => e.1 != BitVec.ofNat 48 (beNat (r.source.take 6))) ++
          [(BitVec.ofNat 48 (beNat (r.source.take 6)), r.sequence,
            sessionId (setSession (openIndex s) (openedSession s r (openIndex s) v w) (drawn s)) (openIndex s))] }
  else setSession (openIndex s) (openedSession s r (openIndex s) v w) (drawn s)

theorem sessionMade_spec (r : Req) (v w : Nat) (s : State) :
    (∀ i, sessionAt (sessionMade r v w s) i = if i = openIndex s then openedSession s r (openIndex s) v w else sessionAt s i) ∧
      (sessionMade r v w s).toune.responses = s.toune.responses ∧ (sessionMade r v w s).sys = s.sys ∧
      (sessionMade r v w s).tick = s.tick := by
  have h := sessionAt_setSession (openIndex s) (x := openedSession s r (openIndex s) v w) (s := drawn s)
  unfold sessionMade
  split
  · exact ⟨h, rfl, rfl, rfl⟩
  · exact ⟨h, rfl, rfl, rfl⟩

theorem openIndex_mem {s : State} (h : freeSessions s ≠ []) : openIndex s ∈ freeSessions s := by
  have hlt := Nat.mod_lt (freeBits 32 s).toNat (List.length_pos_of_ne_nil h)
  unfold openIndex
  rw [List.getD_eq_getElem _ _ hlt]
  exact List.getElem_mem hlt

section
variable {r : Req} {s : State} (hl : r.payload.length = 48) (ha : rd r.payload 0xA 6 = 0) (hb : rd r.payload 0x20 16 = 0)
  (h0 : r.session = 0)
include hl ha hb h0

theorem bodySessionOpen_version (h : chooseVersion (rd r.payload 0 1) (rd r.payload 1 1) (topVersion s) = none ∨
    chooseVersion (rd r.payload 2 1) (rd r.payload 3 1) 1 = none) : bodySessionOpen r s =
    (s, { status := St.eVersion, payload := le 1 1 ++ le 1 (topVersion s) ++ le 1 1 ++ le 1 1 }) := by
  unfold bodySessionOpen
  dsimp only
  rw [if_neg (by simp [hl, h0, zeros, ha, hb])]
  split
  next v w hv hw => rcases h with h | h <;> simp_all
  next => rfl

section
variable {v w : Nat} (hv : chooseVersion (rd r.payload 0 1) (rd r.payload 1 1) (topVersion s) = some v)
  (hw : chooseVersion (rd r.payload 2 1) (rd r.payload 3 1) 1 = some w) (hk : rd r.payload 4 2 ≤ 3600)
  (hsink : v = 1 ∨ sinkOk s (rd r.payload 6 2) (r.route == .bootstrap) = true)
include hv hw hk hsink

theorem bodySessionOpen_nospace (h : freeSessions s = []) : bodySessionOpen r s = (s, .no St.eNospace) := by
  unfold bodySessionOpen
  dsimp only
  rw [if_neg (by simp [hl, h0, zeros, ha, hb]), hv, hw]
  dsimp only
  rw [if_neg (by omega), if_neg (by rcases hsink with h | h <;> simp [h]), if_pos h]

theorem bodySessionOpen_opens (h : freeSessions s ≠ []) : bodySessionOpen r s = (sessionMade r v w s,
    { payload := openResult (sessionMade r v w s) r (sessionId (sessionMade r v w s) (openIndex s)) v w
      newSession := some (sessionId (sessionMade r v w s) (openIndex s)) }) := by
  have hid : sessionId (setSession (openIndex s) (openedSession s r (openIndex s) v w) (drawn s)) (openIndex s) =
      sessionId (sessionMade r v w s) (openIndex s) := by
    unfold sessionId
    rw [(sessionMade_spec r v w s).1, sessionAt_setSession, if_pos rfl, if_pos rfl]
  unfold bodySessionOpen
  dsimp only
  rw [if_neg (by simp [hl, h0, zeros, ha, hb]), hv, hw]
  dsimp only
  rw [if_neg (by omega), if_neg (by rcases hsink with h | h <;> simp [h]), if_neg h, ← hid]
  rfl

end

end

/-- The result of SESSION_OPEN is of what answering leaves (R483). -/
theorem openResult_congr {s t : State} (h : OnlyAnswers s t) (hs : SessionsStand s t) (r : Req) (id : Word) (v w : Nat) :
    openResult t r id v w = openResult s r id v w := by
  have ho : openSessions t = openSessions s := List.filter_congr fun i _ => hs.isOpen i
  unfold openResult frcAt
  rw [ho, h.sys, h.tick]

/-! ### Closing a session -/

/-- A DONE handle of the session is free (R485, R489). -/
def handleLeft (id : Word) (h : Handle) : Handle := if h.session = id ∧ h.st = .done then { gen := h.gen } else h

theorem closeSession_spec (i cause : Nat) (s : State) :
    (∀ k, sessionAt (closeSession i cause s) k = if k = i then { gen := (sessionAt s i).gen } else sessionAt s k) ∧
      (∀ k, handleAt (closeSession i cause s) k = handleLeft (sessionId s i) (handleAt s k)) ∧
      Raised [(Ev.sessionClosed, le 4 (sessionId s i).toNat ++ le 1 cause)] s (closeSession i cause s) ∧
      (closeSession i cause s).toune.responses = s.toune.responses := by
  refine ⟨fun k => tgetD_tput .., fun k => ?_, raise_raised _ _ rfl, rfl⟩
  have hmap : s.toune.handles.map (fun e => if e.2.session = sessionId s i ∧ e.2.st = .done then
      (e.1, ({ gen := e.2.gen } : Handle)) else e) = s.toune.handles.map (fun e => (e.1, handleLeft (sessionId s i) e.2)) := by
    refine List.map_congr_left fun e _ => ?_
    unfold handleLeft
    split <;> rfl
  show tgetD (fun _ => ({} : Handle)) (s.toune.handles.map _) k = _
  rw [hmap, handleAt, tgetD, tgetD, tfind_map (handleLeft (sessionId s i))]
  cases tfind s.toune.handles k with
  | none => exact (if_neg fun h => by cases h.2).symm
  | some h => rfl

theorem bodySessionClose_own {r : Req} {s : State} (hl : r.payload.length = 4) (h : (BitVec.ofNat 32 (rd r.payload 0 4) : Word) = 0 ∨
    (BitVec.ofNat 32 (rd r.payload 0 4) : Word) = r.session) :
    bodySessionClose r s = (closeSession (sessionIdx r.session) 0 s, .yes []) :=
  (if_neg (not_not_intro hl)).trans (if_pos h)

section
variable {r : Req} {s : State} (hl : r.payload.length = 4)
  (h : ¬((BitVec.ofNat 32 (rd r.payload 0 4) : Word) = 0 ∨ (BitVec.ofNat 32 (rd r.payload 0 4) : Word) = r.session))
include hl h

theorem bodySessionClose_other (ho : sessionOpen? s (BitVec.ofNat 32 (rd r.payload 0 4)) = true) : bodySessionClose r s =
    (closeSession (sessionIdx (BitVec.ofNat 32 (rd r.payload 0 4))) 2 s, .yes []) :=
  (if_neg (not_not_intro hl)).trans ((if_neg h).trans (if_neg (by rw [ho]; decide)))

theorem bodySessionClose_none (ho : sessionOpen? s (BitVec.ofNat 32 (rd r.payload 0 4)) = false) :
    bodySessionClose r s = (s, .no St.eSession) :=
  (if_neg (not_not_intro hl)).trans ((if_neg h).trans (if_pos (by rw [ho]; rfl)))

end

/-- A session closed by a request, past its answer (R485). -/
theorem runs_closes {op : Nat} {body : Req → State → State × Reply} {r : Req} {s : State} {i cause : Nat} (hr : Runs op r s)
    (e : body r (touch r s) = (closeSession i cause (touch r s), .yes [])) : ∃ t, runToune op body r s = t ∧
      sessionAt t i = { gen := (sessionAt s i).gen } ∧
      Raised [(Ev.sessionClosed, le 4 (sessionId s i).toNat ++ le 1 cause)] s t ∧
      (∀ k, handleAt t k = handleLeft (sessionId s i) (handleAt s k)) ∧ Answered op r St.ok [] s t := by
  obtain ⟨hs, hh, ⟨l, hl, hd⟩, hr'⟩ := closeSession_spec i cause (touch r s)
  obtain ⟨-, hans, hev, hhan, hst⟩ := runs_keeps hr e rfl hr'
  have hgen : (sessionAt (touch r s) i).gen = (sessionAt s i).gen := by
    rw [sessionAt_touch]
    split <;> rfl
  have hid : sessionId (touch r s) i = sessionId s i := by
    unfold sessionId
    rw [hgen]
  have hself := (hs i).trans (if_pos rfl)
  rw [hgen] at hself
  rw [hid] at hh hd
  refine ⟨_, rfl, (hst.closed i (by rw [hself])).trans hself, ⟨l, hev.trans (hl.trans (by rw [touch_events])), hd⟩, fun k => ?_, hans⟩
  rw [handleAt_congr hhan, hh, handleAt_congr (touch_handles r s)]

/-! ### Queries and the subscription -/

section
variable {r : Req} {s : State}

theorem bodySessionPing_legal (hp : r.payload = []) : bodySessionPing r s = (s, .yes []) := if_neg (not_not_intro hp)

theorem bodySessionQuery_own (hl : r.payload.length = 4) (h0 : rd r.payload 0 4 = 0) (ho : sessionOpen? s r.session = true) :
    bodySessionQuery r s = (s, .yes (le 4 r.session.toNat ++ le 1 (sessionAt s (sessionIdx r.session)).version.toNat ++
      le 1 (sessionAt s (sessionIdx r.session)).recVersion.toNat ++ le 2 (sessionAt s (sessionIdx r.session)).keepalive ++
      le 2 (sessionAt s (sessionIdx r.session)).sink ++ le 2 (sessionAt s (sessionIdx r.session)).subscribe.toNat ++
      le 4 (sessionAt s (sessionIdx r.session)).evCount.toNat ++ padTo 16 (sessionAt s (sessionIdx r.session)).client)) := by
  unfold bodySessionQuery
  dsimp only
  have e : (if (BitVec.ofNat 32 (rd r.payload 0 4) : Word) = 0 then r.session else BitVec.ofNat 32 (rd r.payload 0 4)) =
      r.session := by rw [h0]; rfl
  rw [if_neg (not_not_intro hl), e, if_neg (by rw [ho]; decide)]

theorem bodyCommandVersions_legal (hl : r.payload.length = 2) : bodyCommandVersions r s =
    (s, .yes (((allOps.filter (fun o => decide (rd r.payload 0 2 ≤ o))).take 1000).flatMap
      (fun o => le 2 o ++ le 1 1 ++ le 1 1))) := if_neg (not_not_intro hl)

theorem bodyEventSubscribe_good (hl : r.payload.length = 4)
    (h : sinkOk s (rd r.payload 0 2) (sessionAt s (sessionIdx r.session)).boot = true) : bodyEventSubscribe r s =
    (setSession (sessionIdx r.session) { sessionAt s (sessionIdx r.session) with
      sink := rd r.payload 0 2, subscribe := BitVec.ofNat 16 (rd r.payload 2 2) } s, .yes []) := if_neg (by simp [hl, h])

theorem bodyEventSubscribe_bad (h : sinkOk s (rd r.payload 0 2) (sessionAt s (sessionIdx r.session)).boot = false) :
    bodyEventSubscribe r s = (s, .no St.eArg) := if_pos (.inr (by simp [h]))

/-! ### Handles -/

section
variable (hl : r.payload.length = 4)
include hl

section
variable (hv : handleValid s (argHandle r.payload) = false)
include hv

theorem bodyHandleQuery_none : bodyHandleQuery r s = (s, .no St.eHandle) :=
  (if_neg (not_not_intro hl)).trans (if_pos (by rw [hv]; rfl))

theorem bodyHandleCancel_none : bodyHandleCancel r s = (s, { status := St.eHandle, argHandle := argHandle r.payload }) :=
  (if_neg (not_not_intro hl)).trans (if_pos (by rw [hv]; rfl))

theorem bodyHandleRelease_none : bodyHandleRelease r s = (s, { status := St.eHandle, argHandle := argHandle r.payload }) :=
  (if_neg (not_not_intro hl)).trans (if_pos (by rw [hv]; rfl))

end

section
variable {y : Handle} (hv : handleValid s (argHandle r.payload) = true) (hy : handleAt s (handleIdx (argHandle r.payload)) = y)
include hv hy

theorem bodyHandleQuery_legal : bodyHandleQuery r s = (s, .yes (le 4 (argHandle r.payload).toNat ++
    le 1 (if y.st == .done then 2 else 1) ++ le 1 (b2n (cancellable y)) ++ le 2 y.opcode ++ le 4 y.session.toNat ++
    le 2 (if y.st == .done then y.status.toNat else 0) ++ le 2 y.result.length ++ le 8 y.startTick.toNat ++
    le 8 (if y.st == .done then y.endTick.toNat else 0) ++ padTo 368 y.result)) := by
  subst hy
  exact (if_neg (not_not_intro hl)).trans (if_neg (by rw [hv]; decide))

theorem bodyHandleCancel_ended (h : y.st = .done ∨ y.ended ≠ none) :
    bodyHandleCancel r s = (s, { payload := le 1 1, argHandle := argHandle r.payload }) := by
  subst hy
  refine (if_neg (not_not_intro hl)).trans ((if_neg (by rw [hv]; decide)).trans (if_pos (h.imp_right fun h => ?_)))
  exact Option.isSome_iff_ne_none.mpr h

section
variable (hst : y.st ≠ .done) (he : y.ended = none)
include hst he

theorem bodyHandleCancel_stops (h : y.cancelling = true ∨ cancellable y = true) : bodyHandleCancel r s =
    (setHandle (handleIdx (argHandle r.payload)) { y with cancelling := true } s,
      { payload := le 1 0, argHandle := argHandle r.payload }) := by
  subst hy
  exact (if_neg (not_not_intro hl)).trans ((if_neg (by rw [hv]; decide)).trans ((if_neg (by simp [hst, he])).trans (if_pos h)))

theorem bodyHandleCancel_busy (hc : y.cancelling = false) (h : cancellable y = false) :
    bodyHandleCancel r s = (s, { status := St.eBusy, argHandle := argHandle r.payload }) := by
  subst hy
  exact (if_neg (not_not_intro hl)).trans ((if_neg (by rw [hv]; decide)).trans ((if_neg (by simp [hst, he])).trans
    (if_neg (by simp [hc, h]))))

end

theorem bodyHandleRelease_done (h : y.st = .done) : bodyHandleRelease r s =
    (setHandle (handleIdx (argHandle r.payload)) { gen := y.gen } s, { argHandle := argHandle r.payload }) := by
  subst hy
  exact (if_neg (not_not_intro hl)).trans ((if_neg (by rw [hv]; decide)).trans (if_neg (not_not_intro h)))

theorem bodyHandleRelease_busy (h : y.st ≠ .done) :
    bodyHandleRelease r s = (s, { status := St.eBusy, argHandle := argHandle r.payload }) := by
  subst hy
  exact (if_neg (not_not_intro hl)).trans ((if_neg (by rw [hv]; decide)).trans (if_pos h))

end

end

/-! ### The audit journal and the staging buffer -/

theorem bodyAuditRead_legal (hl : r.payload.length = 9) (h1 : 1 ≤ rd r.payload 8 1) (hn : rd r.payload 8 1 ≤ 63) :
    bodyAuditRead r s = (s, .yes (le 8 s.toune.auditNext.toNat ++
      le 8 (match heldRecords s with | [] => s.toune.auditNext.toNat | e :: _ => e.1) ++
      (((heldRecords s).filter (fun e => decide (rd r.payload 0 8 ≤ e.1))).take (rd r.payload 8 1)).flatMap (·.2))) := by
  unfold bodyAuditRead
  exact if_neg (by omega)

section
variable (hl : r.payload.length = 8 + rd r.payload 4 4) (h1 : 1 ≤ rd r.payload 4 4) (hn : rd r.payload 4 4 ≤ 4000)
include hl h1 hn

theorem bodyStageWrite_writes (h : rd r.payload 0 4 + rd r.payload 4 4 ≤ 65536) : bodyStageWrite r s =
    (setSession (sessionIdx r.session) { sessionAt s (sessionIdx r.session) with
      staging := putBytes (sessionAt s (sessionIdx r.session)).staging (rd r.payload 0 4) (r.payload.drop 8) } s, .yes []) :=
  (if_neg (by omega)).trans (if_neg (by omega))

theorem bodyStageWrite_range (h : 65536 < rd r.payload 0 4 + rd r.payload 4 4) : bodyStageWrite r s = (s, .no St.eRange) :=
  (if_neg (by omega)).trans (if_pos h)

end

end

/-! ### Expiries and completions -/

theorem keepaliveExpiry_early {i : Nat} {s : State} (h : (sessionAt s i).isOpen = false ∨ (sessionAt s i).keepalive = 0 ∨
    ticksSince s.tick.count (sessionAt s i).lastReq < 3000000 * (sessionAt s i).keepalive) : keepaliveExpiry i s = s :=
  if_neg fun ⟨h1, h2, h3⟩ => by
    rcases h with h | h | h
    · rw [h] at h1
      cases h1
    · exact h2 h
    · omega

theorem keepaliveExpiry_closes {i : Nat} {s : State} (h1 : (sessionAt s i).isOpen = true) (h2 : (sessionAt s i).keepalive ≠ 0)
    (h3 : 3000000 * (sessionAt s i).keepalive ≤ ticksSince s.tick.count (sessionAt s i).lastReq) :
    keepaliveExpiry i s = closeSession i 1 s := if_pos ⟨h1, h2, h3⟩

theorem retentionExpiry_early {i : Nat} {s : State} (h : (handleAt s i).st ≠ .done ∨
    ticksSince s.tick.count (handleAt s i).endTick < 67108864) : retentionExpiry i s = s :=
  if_neg fun ⟨h1, h2⟩ => by
    rcases h with h | h
    · exact h h1
    · omega

theorem retentionExpiry_frees {i : Nat} {s : State} (h1 : (handleAt s i).st = .done)
    (h2 : 67108864 ≤ ticksSince s.tick.count (handleAt s i).endTick) :
    retentionExpiry i s = setHandle i { gen := (handleAt s i).gen } s := if_pos ⟨h1, h2⟩

theorem opDone_idle {i : Nat} {s : State} (h : (handleAt s i).ended = none ∨ (handleAt s i).st ≠ .running) : opDone i s = s := by
  unfold opDone
  dsimp only
  split
  next st f he => exact if_neg (h.resolve_left (by rw [he]; exact Option.some_ne_none _))
  next => rfl

/-- The handle of an index of its present generation (R488). -/
theorem handleIdx_ofNat {i : Nat} (hi : i < 4096) (g : Byte) : handleIdx (BitVec.ofNat 32 (0x1000000 * g.toNat + i)) = i ∧
    (BitVec.ofNat 32 (0x1000000 * g.toNat + i) : Word).toNat = 0x1000000 * g.toNat + i := by
  have hg := g.isLt
  unfold handleIdx
  rw [BitVec.toNat_ofNat]
  omega

theorem opDone_completes {i : Nat} {s : State} {st : Half} {f : List Byte} (he : (handleAt s i).ended = some (st, f))
    (hr : (handleAt s i).st = .running) : opDone i s =
    complete Ev.opDone (BitVec.ofNat 32 (0x1000000 * (handleAt s i).gen.toNat + i)) st f
      (setHandle i { handleAt s i with ended := none } s) := by
  unfold opDone
  dsimp only
  rw [he]
  exact if_pos hr

/-! ### The state in which a request has been noted -/

section
variable {r : Req} {s : State}

theorem isOpen_touch (r : Req) (s : State) (i : Nat) : (sessionAt (touch r s) i).isOpen = (sessionAt s i).isOpen := by
  rw [sessionAt_touch]
  split <;> rfl

theorem gen_touch (r : Req) (s : State) (i : Nat) : (sessionAt (touch r s) i).gen = (sessionAt s i).gen := by
  rw [sessionAt_touch]
  split <;> rfl

theorem freeSessions_touch (r : Req) (s : State) : freeSessions (touch r s) = freeSessions s :=
  List.filter_congr fun i _ => by rw [isOpen_touch]

theorem sinkOk_touch (r : Req) (s : State) (sink : Nat) (boot : Bool) : sinkOk (touch r s) sink boot = sinkOk s sink boot := by
  unfold sinkOk hqAt
  rw [touch_host]

theorem topVersion_touch (r : Req) (s : State) : topVersion (touch r s) = topVersion s := by
  unfold topVersion
  rw [(touch_answers r s).sys]

theorem handleAt_touch (r : Req) (s : State) (i : Nat) : handleAt (touch r s) i = handleAt s i :=
  handleAt_congr (touch_handles r s) i

theorem handleValid_touch (r : Req) (s : State) (h : Word) : handleValid (touch r s) h = handleValid s h := by
  unfold handleValid
  rw [handleAt_touch]

theorem heldRecords_touch (r : Req) (s : State) : heldRecords (touch r s) = heldRecords s := by
  obtain ⟨ha, hn⟩ := touch_audit r s
  unfold heldRecords ringAt
  rw [ha, hn, (touch_answers r s).jnl]

/-- A session opened by a request, past its answer (R482, R483). -/
theorem runs_opens (hr : Runs Op.sessionOpen r s) {v w : Nat} (hfree : freeSessions s ≠ [])
    (e : bodySessionOpen r (touch r s) = (sessionMade r v w (touch r s),
      { payload := openResult (sessionMade r v w (touch r s)) r
          (sessionId (sessionMade r v w (touch r s)) (openIndex (touch r s))) v w
        newSession := some (sessionId (sessionMade r v w (touch r s)) (openIndex (touch r s))) })) :
    ∃ t, ∃ i ∈ freeSessions s, exec (.sessionOpen r) s = .next t ∧
      (sessionAt t i).isOpen = true ∧ (sessionAt t i).gen = nextSessionGen (sessionAt s i).gen ∧
      (sessionAt t i).version = BitVec.ofNat 8 v ∧ (sessionAt t i).keepalive = rd r.payload 4 2 ∧
      (sessionAt t i).sink = (if v = 1 then 0xFFFF else rd r.payload 6 2) ∧
      (sessionAt t i).client = (r.payload.drop 0x10).take 16 ∧
      Answered Op.sessionOpen r St.ok (openResult t r (sessionId t i) v w) s t := by
  have hmem : openIndex (touch r s) ∈ freeSessions s :=
    freeSessions_touch r s ▸ openIndex_mem (by rwa [freeSessions_touch])
  obtain ⟨hat, hresp, -, -⟩ := sessionMade_spec r v w (touch r s)
  obtain ⟨ha, hans, -, -, hst⟩ := runs_keeps hr e rfl hresp
  have hself := (hat (openIndex (touch r s))).trans (if_pos rfl)
  have hid : sessionId (runToune Op.sessionOpen bodySessionOpen r s) (openIndex (touch r s)) =
      sessionId (sessionMade r v w (touch r s)) (openIndex (touch r s)) := by
    unfold sessionId
    rw [hst.gen]
  obtain ⟨q, p, m, n, hlive⟩ := hst.live (openIndex (touch r s))
  rw [hself] at hlive
  refine ⟨_, _, hmem, rfl, ?_⟩
  rw [hlive]
  refine ⟨rfl, congrArg nextSessionGen (gen_touch ..), rfl, rfl, rfl, rfl, ?_⟩
  rw [openResult_congr ha hst, hid]
  exact hans

theorem opDone_tells {i : Fin 4096} {st : Half} {f : List Byte} (he : (handleAt s i).ended = some (st, f))
    (hr : (handleAt s i).st = .running) : (handleAt (opDone i s) i).st = .done ∧ (handleAt (opDone i s) i).status = st ∧
      (handleAt (opDone i s) i).result = f.take 368 ∧ (handleAt (opDone i s) i).ended = none ∧
      (handleAt (opDone i s) i).endTick = s.tick.count ∧
      Raised [(Ev.opDone, le 4 (0x1000000 * (handleAt s i).gen.toNat + i.val) ++ le 2 (handleAt s i).opcode ++
        le 2 st.toNat ++ f)] s (opDone i s) := by
  obtain ⟨hix, hnat⟩ := handleIdx_ofNat i.isLt (handleAt s i).gen
  rw [opDone_completes he hr]
  generalize hh : (BitVec.ofNat 32 (0x1000000 * (handleAt s i).gen.toNat + i.val) : Word) = h at *
  have hself : handleAt (setHandle i { handleAt s i with ended := none } s) i = { handleAt s i with ended := none } := by
    rw [handleAt_setHandle, if_pos rfl]
  have hdone : handleAt (complete Ev.opDone h st f (setHandle i { handleAt s i with ended := none } s)) i =
      { handleAt s i with ended := none, st := .done, status := st, result := f.take 368, endTick := s.tick.count, cancelling := false } := by
    have e : handleAt (complete Ev.opDone h st f (setHandle i { handleAt s i with ended := none } s)) (handleIdx h) = _ :=
      tgetD_tput_self ..
    rw [hix, hself] at e
    exact e
  rw [hdone]
  refine ⟨rfl, rfl, rfl, rfl, rfl, ?_⟩
  unfold complete
  dsimp only
  rw [hix, hself, hnat]
  exact ⟨_, rfl, rfl⟩

end

/-- Settles O55: each body, on the state in which the request has been noted, is its clause, and the answer leaves what the body
made.  E_BUSY of HANDLE_RELEASE on a running handle and the set of operations that can be stopped are log 22's, the layouts that the
spec does not give log 31's. -/
theorem sessionsHandlesAuditAndStaging : Obligations.SessionsHandlesAuditAndStaging := by
  unfold Obligations.SessionsHandlesAuditAndStaging
  intro s closed
  refine ⟨?_, fun i => ⟨fun h => congrArg Host.Outcome.next (keepaliveExpiry_early h), fun h1 h2 h3 => ?_⟩, fun i y hy => ?_⟩
  · rintro r _ _ _ rfl rfl rfl
    have hself {op : Nat} (h : Runs op r s) (hop : op ≠ Op.sessionOpen) := sessionAt_touch_self h hop
    refine ⟨fun hr hl ha hb h0 => ⟨fun hver => ?_, fun v w hv hw hk hsink => ?_⟩, fun hr hl id hid => ⟨fun h => ?_, fun hn hne ho => ?_,
      fun hn ho => ?_⟩, fun hr hp => ?_, fun hr hl h0 => ?_, fun hr hl => ?_, fun hr hl => ⟨fun hs => ?_, fun hs => ?_⟩,
      fun hl h y hh hy => ?_, fun hr hl h1 hn => ?_, fun hr n hn hl h1 h2 => ?_⟩
    · rw [← topVersion_touch r s] at hver ⊢
      exact ⟨_, rfl, runs_answers hr (bodySessionOpen_version hl ha hb h0 hver) rfl⟩
    · rw [← topVersion_touch r s] at hv
      rw [← sinkOk_touch r s] at hsink
      refine ⟨fun hfree => ⟨_, rfl, ?_⟩, fun hfree => runs_opens hr hfree ?_⟩
      · exact runs_answers hr (bodySessionOpen_nospace hl ha hb h0 hv hw hk hsink (by rwa [freeSessions_touch])) rfl
      · exact bodySessionOpen_opens hl ha hb h0 hv hw hk hsink (by rwa [freeSessions_touch])
    · obtain ⟨t, ht, hc, he, hh, hans⟩ := runs_closes hr (bodySessionClose_own hl (hid ▸ h))
      exact ⟨t, congrArg Host.Outcome.next ht, ⟨hc, he, hh⟩, hans⟩
    · subst hid
      obtain ⟨t, ht, hc, he, hh, hans⟩ := runs_closes hr
        (bodySessionClose_other hl (not_or_intro hn hne) (by rw [sessionOpen_touch, ho]))
      exact ⟨t, congrArg Host.Outcome.next ht, ⟨hc, he, hh⟩, hans⟩
    · subst hid
      have hne : (BitVec.ofNat 32 (rd r.payload 0 4) : Word) ≠ r.session := by
        rintro e
        rw [e, hr.sessionOpen (by decide)] at ho
        cases ho
      exact ⟨_, rfl, runs_answers hr (bodySessionClose_none hl (not_or_intro hn hne) (by rw [sessionOpen_touch, ho])) rfl⟩
    · exact ⟨_, rfl, runs_answers hr (bodySessionPing_legal hp) rfl⟩
    · obtain ⟨ha, hans⟩ := runs_answers hr (bodySessionQuery_own hl h0
        ((sessionOpen_touch ..).trans (hr.sessionOpen (by decide)))) rfl
      rw [hself hr (by decide)] at hans
      exact ⟨_, rfl, ha, hans⟩
    · exact ⟨_, rfl, runs_answers hr (bodyCommandVersions_legal hl) rfl⟩
    · have hbody := bodyEventSubscribe_good (s := touch r s) hl (by rw [hself hr (by decide), sinkOk_touch]; exact hs)
      obtain ⟨-, hans, -, -, hst⟩ := runs_keeps hr hbody rfl rfl
      obtain ⟨q, p, m, n, hlive⟩ := hst.live (sessionIdx r.session)
      rw [sessionAt_setSession, if_pos rfl, hself hr (by decide)] at hlive
      refine ⟨_, rfl, hans, ?_⟩
      rw [hlive]
      exact ⟨rfl, rfl, rfl⟩
    · have hbody := bodyEventSubscribe_bad (s := touch r s) (r := r) (by rw [hself hr (by decide), sinkOk_touch]; exact hs)
      obtain ⟨ha, hans, -, -, hst⟩ := runs_keeps hr hbody rfl rfl
      obtain ⟨q, p, m, n, hlive⟩ := hst.live (sessionIdx r.session)
      rw [hself hr (by decide)] at hlive
      refine ⟨_, rfl, (touch_answers r s).trans ha, hans, ?_⟩
      rw [hlive]
    · subst hh
      have hyt : handleAt (touch r s) (handleIdx (argHandle r.payload)) = y := (handleAt_touch ..).trans hy.symm
      rw [← handleValid_touch r s]
      refine ⟨fun hv => ⟨fun hr => ⟨_, rfl, runs_answers hr (bodyHandleQuery_none hl hv) rfl⟩, fun hr => ?_, fun hr => ?_⟩,
        fun hv => ⟨?_, fun hr => ⟨fun h => ?_, fun h1 h2 h3 => ?_, fun h1 h2 h3 h4 => ?_⟩, fun hr => ⟨fun h => ?_, fun h => ?_⟩⟩⟩
      · exact ⟨_, rfl, (runs_rests hr (bodyHandleCancel_none hl hv) rfl).symm⟩
      · exact ⟨_, rfl, (runs_rests hr (bodyHandleRelease_none hl hv) rfl).symm⟩
      · rintro hr _ rfl
        exact ⟨_, rfl, runs_answers hr (bodyHandleQuery_legal hl hv hyt) rfl⟩
      · exact ⟨_, rfl, runs_rests hr (bodyHandleCancel_ended hl hv hyt h) rfl⟩
      · obtain ⟨-, hans, -, hh, -⟩ := runs_keeps hr (bodyHandleCancel_stops hl hv hyt h1 h2 h3) rfl rfl
        exact ⟨_, rfl, hans, (handleAt_congr hh _).trans ((handleAt_setHandle ..).trans (if_pos rfl))⟩
      · exact ⟨_, rfl, runs_rests hr (bodyHandleCancel_busy hl hv hyt h1 h2 h3 h4) rfl⟩
      · obtain ⟨-, hans, -, hh, -⟩ := runs_keeps hr (bodyHandleRelease_done hl hv hyt h) rfl rfl
        have hat (k : Nat) := (handleAt_congr hh k).trans (handleAt_setHandle ..)
        exact ⟨_, rfl, hans, (hat _).trans (if_pos rfl), fun k hk => (hat k).trans ((if_neg hk).trans (handleAt_touch ..))⟩
      · exact ⟨_, rfl, runs_rests hr (bodyHandleRelease_busy hl hv hyt h) rfl⟩
    · have hbody := bodyAuditRead_legal (s := touch r s) hl h1 hn
      rw [heldRecords_touch, (touch_audit r s).2] at hbody
      obtain ⟨ha, hans⟩ := runs_answers hr hbody rfl
      refine ⟨_, rfl, ha, hans, ?_⟩
      rw [runToune_runs _ _ _ _ hr, hbody]
      exact (finish_audit rfl r rfl _).trans (touch_audit r s).1
    · subst hn
      refine ⟨fun h => ?_, fun h => ?_⟩
      · obtain ⟨-, hans, -, -, hst⟩ := runs_keeps hr (bodyStageWrite_writes hl h1 h2 h) rfl rfl
        obtain ⟨q, p, m, n, hlive⟩ := hst.live (sessionIdx r.session)
        rw [sessionAt_setSession, if_pos rfl, hself hr (by decide)] at hlive
        refine ⟨_, rfl, hans, ?_⟩
        rw [hlive]
      · obtain ⟨-, hans, -, -, hst⟩ := runs_keeps hr (bodyStageWrite_range hl h1 h2 h) rfl rfl
        obtain ⟨q, p, m, n, hlive⟩ := hst.live (sessionIdx r.session)
        rw [hself hr (by decide)] at hlive
        refine ⟨_, rfl, hans, ?_⟩
        rw [hlive]
  · obtain ⟨hs, hh, he, -⟩ := closeSession_spec i 1 s
    exact ⟨_, congrArg Host.Outcome.next (keepaliveExpiry_closes h1 h2 h3), (hs i).trans (if_pos rfl), he, hh⟩
  · subst hy
    refine ⟨fun h => congrArg Host.Outcome.next (retentionExpiry_early h), fun h1 h2 => ?_,
      fun h => congrArg Host.Outcome.next (opDone_idle h), fun st f he hr => ⟨_, rfl, opDone_tells he hr⟩⟩
    have hat (k : Nat) := handleAt_setHandle i k { gen := (handleAt s i).gen } s
    exact ⟨_, congrArg Host.Outcome.next (retentionExpiry_frees h1 h2), (hat i).trans (if_pos rfl),
      fun k hk => (hat k).trans (if_neg hk)⟩

end Sys2Proof.Machine
end

section
/-! Proofs.  The half-links of the twin pair: what is sent on them, their states, their lanes and their loss (R92, R534 to R537, R541,
R542). -/

namespace Sys2Proof.Machine

/-! ### Records of half-links and lanes -/

theorem halfAt_setHalf (h k : Nat) (x : HalfLink) (s : State) : halfAt (setHalf h x s) k = if k = h then x else halfAt s k :=
  tgetD_tput ..

@[simp] theorem halfAt_setHalf_self (h : Nat) (x : HalfLink) (s : State) : halfAt (setHalf h x s) h = x := tgetD_tput_self ..

theorem halfAt_setHalf_ne {h k : Nat} (hk : k ≠ h) (x : HalfLink) (s : State) : halfAt (setHalf h x s) k = halfAt s k :=
  tgetD_tput_ne _ _ _ hk

theorem halfAt_congr {s t : State} (h : t.twin.half = s.twin.half) (k : Nat) : halfAt t k = halfAt s k := by
  unfold halfAt
  rw [h]

theorem laneAt_setLane (k j : Nat) (x : Lane) (s : State) : laneAt (setLane k x s) j = if j = k then x else laneAt s j :=
  tgetD_tput ..

theorem laneAt_congr {s t : State} (h : t.ports = s.ports) (k : Nat) : laneAt t k = laneAt s k := by
  unfold laneAt
  rw [h]

/-- The state with these half-links. -/
def withHalves (m : Table HalfLink) (s : State) : State := s.setTwin { s.twin with half := m }

/-- Between two states nothing has changed but the half-links. -/
def HalvesOnly (s t : State) : Prop := ∃ m, t = withHalves m s

section
variable {s t u : State}

theorem HalvesOnly.rfl' (s : State) : HalvesOnly s s := ⟨s.twin.half, rfl⟩

theorem HalvesOnly.trans (h : HalvesOnly s t) (k : HalvesOnly t u) : HalvesOnly s u := by
  obtain ⟨m, rfl⟩ := h
  obtain ⟨n, rfl⟩ := k
  exact ⟨n, rfl⟩

theorem setHalf_only (h : Nat) (x : HalfLink) (s : State) : HalvesOnly s (setHalf h x s) := ⟨_, rfl⟩

theorem HalvesOnly.foldl {α : Type} {g : State → α → State} (h : ∀ s a, HalvesOnly s (g s a)) (l : List α) (s : State) :
    HalvesOnly s (l.foldl g s) := by
  induction l generalizing s with
  | nil => exact .rfl' s
  | cons a l ih => exact (h s a).trans (ih _)

theorem HalvesOnly.toune (h : HalvesOnly s t) : t.toune = s.toune := by
  obtain ⟨m, rfl⟩ := h
  rfl

theorem HalvesOnly.pair (h : HalvesOnly s t) : t.twin.pair = s.twin.pair ∧ t.twin.role = s.twin.role := by
  obtain ⟨m, rfl⟩ := h
  exact ⟨rfl, rfl⟩

end

/-- A half-link with so many credits held. -/
def HalfLink.crediting (x : HalfLink) (c : Nat) : HalfLink := { x with credits := c }

/-! ### Sending -/

theorem linkControl_self (h : Nat) (p : List Byte) (s : State) : halfAt (linkControl h p s) h =
    { halfAt s h with sent := (halfAt s h).sent ++ [linkBytes 7 0 (halfAt s h).expect p] } := halfAt_setHalf_self ..

theorem linkControl_only (h : Nat) (p : List Byte) (s : State) : HalvesOnly s (linkControl h p s) := setHalf_only ..

theorem linkControl_ne {h k : Nat} (hk : k ≠ h) (p : List Byte) (s : State) : halfAt (linkControl h p s) k = halfAt s k :=
  halfAt_setHalf_ne hk ..

/-- Frames that wait and leave change the half-link's frames and its next sequence alone (R536). -/
theorem linkPump_keeps (now : Tick) (fuel : Nat) (x : HalfLink) : ∃ u w q b, linkPump now fuel x =
    { x with unacked := u, waiting := w, nextSeq := q, sent := b } := by
  induction fuel generalizing x with
  | zero => exact ⟨_, _, _, _, rfl⟩
  | succ fuel ih =>
    unfold linkPump
    split
    · exact ⟨_, _, _, _, rfl⟩
    · split
      next k p rest hw hroom =>
        obtain ⟨u, w, q, b, e⟩ := ih (linkFrame k p now { x with waiting := rest })
        exact ⟨u, w, q, b, e⟩
      next => exact ⟨_, _, _, _, rfl⟩

/-- Nothing leaves where nothing waits. -/
theorem linkPump_none {x : HalfLink} (now : Tick) (hw : x.waiting = []) (fuel : Nat) : linkPump now fuel x = x := by
  cases fuel with
  | zero => rfl
  | succ fuel => unfold linkPump; rw [hw]

/-! ### Lanes -/

/-- A command on the lanes of a half-link, one after another, leaves of each what it makes of it. -/
theorem foldl_lanes {f : State → Nat → State} {base : Nat} {P : Lane → Prop} (hself : ∀ s l, P (laneAt (f s l) (base + l)))
    (hne : ∀ s l k, k ≠ base + l → laneAt (f s l) k = laneAt s k) (n : Nat) (s : State) :
    ∀ l, l < n → P (laneAt ((List.range n).foldl f s) (base + l)) := by
  induction n with
  | zero => exact fun l hl => absurd hl (Nat.not_lt_zero l)
  | succ n ih =>
    intro l hl
    rw [List.range_succ, List.foldl_append]
    rcases Nat.lt_succ_iff_lt_or_eq.mp hl with h | rfl
    · rw [List.foldl_cons, List.foldl_nil, hne _ _ _ (by omega)]
      exact ih l h
    · exact hself ..

theorem twinLocks_locked (h : Nat) (s : State) : ∀ l, l < 8 → (laneAt (twinLocks h true s) (144 + 8 * h + l)).cdrLock = true := by
  refine foldl_lanes (P := fun x => x.cdrLock = true) (fun s l => ?_) (fun s l k hk => ?_) 8 s
  · rw [laneAt_setLane, if_pos rfl]
  · rw [laneAt_setLane, if_neg hk]

theorem twinLanes_idle (h : Nat) (s : State) : ∀ l, l < 8 → (laneAt (twinLanes h true s) (144 + 8 * h + l)).idle = true := by
  refine foldl_lanes (P := fun x => x.idle = true) (fun s l => ?_) (fun s l k hk => ?_) 8 s
  · rw [laneAt_setLane, if_pos rfl, if_pos rfl]
  · rw [laneAt_setLane, if_neg hk]

/-! ### The pair becomes ALONE -/

theorem dropCredits_only (s : State) : HalvesOnly s (dropCredits s) := .foldl (fun _ _ => setHalf_only ..) _ s

theorem dropCredits_half (k : Nat) (s : State) : ∃ c, halfAt (dropCredits s) k = (halfAt s k).crediting c := by
  have hstep (h : Nat) (s : State) (x : HalfLink) (hx : ∃ c, halfAt s k = x.crediting c) :
      ∃ c, halfAt (setHalf h { halfAt s h with credits := 0 } s) k = x.crediting c := by
    obtain ⟨c, hc⟩ := hx
    rw [halfAt_setHalf]
    split
    next e => exact ⟨0, by rw [← e, hc]; rfl⟩
    next => exact ⟨c, hc⟩
  exact hstep 1 _ _ (hstep 0 _ _ ⟨_, rfl⟩)

/-- The pair is ALONE, its half-links hold no credits, and only an event may have been raised (R541). -/
theorem goAlone_spec (cause : Nat) (s : State) : (goAlone cause s).twin.pair = .alone ∧
    (∀ k, ∃ c, halfAt (goAlone cause s) k = (halfAt s k).crediting c) ∧
    (∃ l, (goAlone cause s).toune.events = s.toune.events ++ l) ∧ (goAlone cause s).ports = s.ports ∧
    (goAlone cause s).prm = s.prm ∧ (goAlone cause s).zal = s.zal := by
  have hsame := goAlone_same cause s
  refine ⟨?_, ?_, ?_, hsame.ports (by decide), hsame.prm (by decide), hsame.zal (by decide)⟩
  all_goals unfold goAlone
  all_goals split
  case refine_1.isTrue h => exact h
  case refine_1.isFalse => exact (dropCredits_only _).pair.1
  case refine_2.isTrue => exact fun k => ⟨_, rfl⟩
  case refine_2.isFalse =>
    intro k
    obtain ⟨c, hc⟩ := dropCredits_half k _
    refine ⟨c, hc.trans (congrArg (HalfLink.crediting · c) (halfAt_congr ?_ k))⟩
    split <;> rfl
  case refine_3.isTrue => exact ⟨[], (List.append_nil _).symm⟩
  case refine_3.isFalse =>
    dsimp only
    rw [(dropCredits_only _).toune]
    split
    · exact ⟨_, rfl⟩
    · exact ⟨[], (List.append_nil _).symm⟩

/-- A paired active tells that it has lost its peer. -/
theorem goAlone_raised (cause : Nat) {s : State} (hr : s.twin.role = 1) (hp : paired s = true) :
    Raised [(Ev.twinPeerLost, le 1 cause ++ le 8 s.tick.count.toNat)] s (goAlone cause s) := by
  have ha : s.twin.pair ≠ .alone := fun e => by rw [paired, e] at hp; cases hp
  unfold goAlone
  rw [if_neg ha]
  dsimp only
  rw [if_pos (by rw [hr, hp]; rfl)]
  exact (raise_raised _ _ rfl).of_after ((dropCredits_only _).toune.trans rfl)

/-! ### A half-link is lost -/

/-- What a half-link that leaves ALIGN or UP keeps: for HUNT its frames, for DOWN what has been sent and received (R534). -/
def lostHalf (down : Bool) (x : HalfLink) : HalfLink :=
  if down then { sent := x.sent, rx := x.rx, rxCross := x.rxCross }
  else { x with st := .hunt, locked := 0, order := 0, nakOut := false, resends := 0 }

/-- The lanes of a half-link that is lost: in idle, without lock, or as they are. -/
def lostLanes (h cause : Nat) (down : Bool) (s : State) : State :=
  if down then twinLanes h true s else if cause = 0 then twinLocks h false s else s

/-- TWIN_LINK_DOWN of a half-link that was UP. -/
def lostTold (h cause : Nat) (up : Prop) [Decidable up] (s : State) : State :=
  if up then raise Ev.twinLinkDown (le 1 h ++ le 1 cause) (bump32 23 (1 + h) 0x12 1 s) else s

theorem lostLanes_same (h cause : Nat) (down : Bool) (s : State) : Same 1024 s (lostLanes h cause down s) := by
  unfold lostLanes
  split
  · exact twinLanes_same ..
  · split
    · exact twinLocks_same ..
    · exact .rfl' s

/-- The state in which a half-link has been lost, before the pair is judged. -/
def lost (h cause : Nat) (down : Bool) (s : State) : State :=
  lostTold h cause ((halfAt s h).st = .up) (setHalf h (lostHalf down (halfAt s h)) (lostLanes h cause down s))

theorem halfLost_eq (h cause : Nat) (down : Bool) (s : State) : halfLost h cause down s =
    if !halfUp (lost h cause down s) 0 && !halfUp (lost h cause down s) 1 then goAlone 2 (lost h cause down s)
    else lost h cause down s := rfl

theorem lost_half (h cause : Nat) (down : Bool) (s : State) (k : Nat) : halfAt (lost h cause down s) k =
    if k = h then lostHalf down (halfAt s h) else halfAt s k := by
  have e : halfAt (lost h cause down s) k = halfAt (setHalf h (lostHalf down (halfAt s h)) (lostLanes h cause down s)) k := by
    unfold lost lostTold
    split <;> rfl
  rw [e, halfAt_setHalf, halfAt_congr (congrArg Twin.half ((lostLanes_same h cause down s).twin (by decide)))]

theorem lost_ports (h cause : Nat) (down : Bool) (s : State) : (lost h cause down s).ports = (lostLanes h cause down s).ports := by
  unfold lost lostTold
  split <;> rfl

theorem lost_events (h cause : Nat) (down : Bool) (s : State) :
    ∃ l, (lost h cause down s).toune.events = s.toune.events ++ l := by
  have hev : (setHalf h (lostHalf down (halfAt s h)) (lostLanes h cause down s)).toune.events = s.toune.events :=
    congrArg Toune.events ((lostLanes_same h cause down s).toune (by decide))
  unfold lost lostTold
  split
  · exact ⟨_, congrArg (· ++ _) hev⟩
  · exact ⟨[], hev.trans (List.append_nil _).symm⟩

theorem lostHalf_down (down : Bool) (x : HalfLink) : (lostHalf down x).st = if down then .down else .hunt := by
  unfold lostHalf
  split <;> rfl

/-- An event after those of a state. -/
def NextRaised (code : Nat) (d : List Byte) (s t : State) : Prop :=
  ∃ e, t.toune.events[s.toune.events.length]? = some e ∧ e.code = code ∧ e.detail = d

theorem NextRaised.of_raise {code : Nat} {d : List Byte} {s t u : State} {l : List Event} (hu : u.toune.events = s.toune.events)
    (h : t.toune.events = (raise code d u).toune.events ++ l) : NextRaised code d s t := by
  refine ⟨{ code := code, detail := d, tick := u.tick.count, frc := u.tick.startFrc }, ?_, rfl, rfl⟩
  have e : (raise code d u).toune.events =
      s.toune.events ++ [{ code := code, detail := d, tick := u.tick.count, frc := u.tick.startFrc }] := congrArg (· ++ _) hu
  rw [h, e, List.append_assoc, List.getElem?_append_right (Nat.le_refl _), Nat.sub_self]
  rfl

section
variable {h cause : Nat} {down : Bool} {s : State}

/-- What is behind the loss of a half-link: the pair may become ALONE. -/
theorem halfLost_after (h cause : Nat) (down : Bool) (s : State) :
    (∀ k, ∃ c, halfAt (halfLost h cause down s) k = (halfAt (lost h cause down s) k).crediting c) ∧
    (∃ l, (halfLost h cause down s).toune.events = (lost h cause down s).toune.events ++ l) ∧
    (halfLost h cause down s).ports = (lost h cause down s).ports ∧ (halfLost h cause down s).prm = (lost h cause down s).prm := by
  rw [halfLost_eq]
  split
  · obtain ⟨-, hk, he, hp, hm, -⟩ := goAlone_spec 2 (lost h cause down s)
    exact ⟨hk, he, hp, hm⟩
  · exact ⟨fun k => ⟨_, rfl⟩, ⟨[], (List.append_nil _).symm⟩, rfl, rfl⟩

theorem halfLost_self (h cause : Nat) (down : Bool) (s : State) :
    ∃ c, halfAt (halfLost h cause down s) h = (lostHalf down (halfAt s h)).crediting c := by
  obtain ⟨c, hc⟩ := (halfLost_after h cause down s).1 h
  exact ⟨c, by rw [hc, lost_half, if_pos rfl]⟩

theorem halfLost_st_ne {k : Nat} (hk : k ≠ h) (cause : Nat) (down : Bool) (s : State) :
    (halfAt (halfLost h cause down s) k).st = (halfAt s k).st := by
  obtain ⟨c, hc⟩ := (halfLost_after h cause down s).1 k
  rw [hc, lost_half, if_neg hk]
  rfl

/-- A half-link that was UP is told and counted (R534). -/
theorem halfLost_told (hu : (halfAt s h).st = .up) (cause : Nat) (down : Bool) :
    NextRaised Ev.twinLinkDown (le 1 h ++ le 1 cause) s (halfLost h cause down s) ∧
      counter (halfLost h cause down s) (paddr 23 (1 + h) 0x12) =
        min (counter s (paddr 23 (1 + h) 0x12) + 1) (2 ^ 32 - 1) := by
  obtain ⟨-, ⟨l, hl⟩, -, hprm⟩ := halfLost_after h cause down s
  have hsame := lostLanes_same h cause down s
  have e : lost h cause down s = raise Ev.twinLinkDown (le 1 h ++ le 1 cause)
      (bump32 23 (1 + h) 0x12 1 (setHalf h (lostHalf down (halfAt s h)) (lostLanes h cause down s))) := if_pos hu
  have hev : (setHalf h (lostHalf down (halfAt s h)) (lostLanes h cause down s)).toune.events = s.toune.events :=
    congrArg Toune.events (hsame.toune (by decide))
  refine ⟨?_, ?_⟩
  · rw [e] at hl
    exact .of_raise hev hl
  · rw [counter_congr hprm, e]
    refine (counter_bump ..).trans ((if_pos rfl).trans ?_)
    have hp : (setHalf h (lostHalf down (halfAt s h)) (lostLanes h cause down s)).prm = s.prm := hsame.prm (by decide)
    rw [counter_congr hp]

/-- With no half-link left UP the pair is ALONE (R541). -/
theorem halfLost_alone (h0 : halfUp (lost h cause down s) 0 = false) (h1 : halfUp (lost h cause down s) 1 = false) :
    (halfLost h cause down s).twin.pair = .alone := by
  rw [halfLost_eq, if_pos (by rw [h0, h1]; rfl)]
  exact (goAlone_spec 2 _).1

end

/-- LANE_IDLE_EXIT_FAIL of a lane that leaves idle (R92, R534). -/
theorem laneIdleExitFail_leaving {l : Nat} {s : State} (hl : (laneAt s (144 + l)).leaving ≠ none) :
    laneIdleExitFail l s = halfLost (l / 8) 3 true (raise Ev.laneIdleExitFail (le 2 (144 + l)) s) :=
  if_neg (by cases h : (laneAt s (144 + l)).leaving <;> simp_all)

theorem laneIdleExitFail_other {l : Nat} {s : State} (hl : (laneAt s (144 + l)).leaving = none) : laneIdleExitFail l s = s :=
  if_pos (by rw [hl]; rfl)

theorem laneIdleExitFail_fails {l : Nat} {s : State} (hl : (laneAt s (144 + l)).leaving ≠ none) :
    (halfAt (laneIdleExitFail l s) (l / 8)).st = .down ∧
    (∀ k, k < 8 → (laneAt (laneIdleExitFail l s) (144 + 8 * (l / 8) + k)).idle = true) ∧
    NextRaised Ev.laneIdleExitFail (le 2 (144 + l)) s (laneIdleExitFail l s) ∧
    ∀ h, h ≠ l / 8 → (halfAt (laneIdleExitFail l s) h).st = (halfAt s h).st := by
  rw [laneIdleExitFail_leaving hl]
  generalize hu : raise Ev.laneIdleExitFail (le 2 (144 + l)) s = u
  have hhalf (k : Nat) : halfAt u k = halfAt s k := by rw [← hu]; rfl
  obtain ⟨-, ⟨l', hl'⟩, hports, -⟩ := halfLost_after (l / 8) 3 true u
  obtain ⟨c, hc⟩ := halfLost_self (l / 8) 3 true u
  refine ⟨by rw [hc]; exact lostHalf_down .., fun k hk => ?_, ?_, fun h hh => ?_⟩
  · rw [laneAt_congr (hports.trans (lost_ports ..)), lostLanes, if_pos rfl]
    exact twinLanes_idle _ u k hk
  · obtain ⟨l'', hl''⟩ := lost_events (l / 8) 3 true u
    exact .of_raise (u := s) (l := l'' ++ l') rfl (by rw [hl', hl'', ← hu, List.append_assoc])
  · exact (halfLost_st_ne hh ..).trans (congrArg HalfLink.st (hhalf h))

end Sys2Proof.Machine
end

section
/-! Proofs.  The service cores: dispatch, pre-emption, ageing and the end of items (R506 to R513). -/

namespace Sys2Proof.Machine

/-! ### The best of a list -/

section
variable {α : Type} {m : α → Nat} {xs : List α} {x y : α}

theorem best_concat_none (h : best m xs = none) : best m (xs ++ [x]) = some x := by
  unfold best at h ⊢
  rw [List.foldl_append, h]
  rfl

theorem best_concat_some (h : best m xs = some y) : best m (xs ++ [x]) = if m x > m y then some x else some y := by
  unfold best at h ⊢
  rw [List.foldl_append, h]
  rfl

/-- A list that is not empty has a best element: one of it, and none measures more. -/
theorem best_spec (m : α → Nat) (xs : List α) : (best m xs = none → xs = []) ∧
    ∀ y, best m xs = some y → y ∈ xs ∧ ∀ x ∈ xs, m x ≤ m y := by
  induction xs using List.reverseRecOn with
  | nil => exact ⟨fun _ => rfl, fun y h => by cases h⟩
  | append_singleton xs x ih =>
    cases hb : best m xs with
    | none =>
      rw [best_concat_none hb, ih.1 hb]
      refine ⟨fun h => ?_, fun y h => ?_⟩ <;> cases h
      simp
    | some y =>
      obtain ⟨hmem, hmax⟩ := ih.2 y hb
      rw [best_concat_some hb]
      refine ⟨fun h => ?_, fun z hz => ?_⟩
      · split at h <;> cases h
      have hcase : z ∈ xs ++ [x] ∧ m y ≤ m z ∧ m x ≤ m z := by
        split at hz <;> cases hz
        · exact ⟨by simp, by omega, Nat.le_refl _⟩
        · exact ⟨by simp [hmem], Nat.le_refl _, by omega⟩
      refine ⟨hcase.1, fun w hw => ?_⟩
      rcases List.mem_append.mp hw with h | h
      · exact (hmax w h).trans hcase.2.1
      · rw [List.mem_singleton.mp h]
        exact hcase.2.2

end

/-! ### Which item and which core -/

theorem coreAt_putCore (x : ScDie) (j k : Nat) (c : Core) : coreAt (x.putCore j c) k = if k = j then c else coreAt x k :=
  tgetD_tput ..

@[simp] theorem scDie_setScDie (d : Nat) (x : ScDie) (s : State) : scDie (setScDie d x s) d = x := tgetD_tput_self ..

theorem scDie_congr {s t : State} (h : t.svc = s.svc) (d : Nat) : scDie t d = scDie s d := by
  unfold scDie
  rw [h]

theorem longestIdle_idle {x : ScDie} {js : List Nat} {j : Nat} (h : longestIdle x js = some j) :
    j ∈ js ∧ (coreAt x j).running = none := by
  obtain ⟨hj, -⟩ := (best_spec _ _).2 j h
  obtain ⟨hj, hr⟩ := List.mem_filter.mp hj
  exact ⟨hj, Option.isNone_iff_eq_none.mp hr⟩

section
variable {s : State} {d k j : Nat}

/-- The item that R511 gives an idle core next: none that may start has a higher priority. -/
theorem nextDispatch_some (h : nextDispatch s d = some (k, j)) : ∃ i, (scDie s d).ready[k]? = some i ∧
    longestIdle (scDie s d) (itemCores s d i) = some j ∧ ∀ (k' : Nat) (i' : Item), (scDie s d).ready[k']? = some i' →
      longestIdle (scDie s d) (itemCores s d i') ≠ none → itemPrio s d i' ≤ itemPrio s d i := by
  unfold nextDispatch at h
  dsimp only at h
  obtain ⟨⟨k0, j0, p⟩, hb, he⟩ := Option.map_eq_some_iff.mp h
  cases he
  obtain ⟨hmem, hmax⟩ := (best_spec _ _).2 _ hb
  obtain ⟨n, -, hn⟩ := List.mem_filterMap.mp hmem
  split at hn
  next i hi =>
    obtain ⟨j1, hj, he⟩ := Option.map_eq_some_iff.mp hn
    cases he
    refine ⟨i, hi, hj, fun k' i' hi' hidle => ?_⟩
    obtain ⟨j', hj'⟩ := Option.ne_none_iff_exists'.mp hidle
    refine hmax (k', j', itemPrio s d i') (List.mem_filterMap.mpr ⟨k', ?_, ?_⟩)
    · exact List.mem_range.mpr (List.getElem?_eq_some_iff.mp hi').1
    · rw [hi']
      exact congrArg (Option.map _) hj'
  next => cases hn

/-- The item that may pre-empt, and the item of lower priority that it displaces (R512). -/
theorem nextPreempt_some (h : nextPreempt s d = some (k, j)) : ∃ i o, (scDie s d).ready[k]? = some i ∧
    (coreAt (scDie s d) j).running = some o ∧ itemPrio s d o < itemPrio s d i := by
  unfold nextPreempt at h
  dsimp only at h
  split at h
  · cases h
  · obtain ⟨⟨k0, j0, p⟩, hb, he⟩ := Option.map_eq_some_iff.mp h
    cases he
    obtain ⟨hmem, -⟩ := (best_spec _ _).2 _ hb
    obtain ⟨n, -, hn⟩ := List.mem_filterMap.mp hmem
    split at hn
    next i hi =>
      obtain ⟨j1, hj, he⟩ := Option.map_eq_some_iff.mp hn
      cases he
      obtain ⟨hj, -⟩ := (best_spec _ _).2 _ hj
      obtain ⟨-, hlow⟩ := List.mem_filter.mp hj
      split at hlow
      next o ho => exact ⟨i, o, hi, ho, of_decide_eq_true hlow⟩
      next => cases hlow
    next => cases hn

/-! ### Starting and pre-empting -/

/-- The dispatcher once core `j` runs the ready item at position `k` (R511, R512). -/
def startedDie (x : ScDie) (k j : Nat) (i : Item) : ScDie :=
  { x with ready := x.ready.eraseIdx k, serial := x.serial + 1 }.putCore j
    { coreAt x j with running := some { i with ctx := false, started := true }, since := x.serial + 1
                      cycles := (coreAt x j).cycles + if i.ctx then 150 else 0 }

theorem startedDie_running (x : ScDie) (k j : Nat) (i : Item) :
    (coreAt (startedDie x k j i) j).running = some { i with ctx := false, started := true } :=
  congrArg Core.running ((coreAt_putCore ..).trans (if_pos rfl))

/-- Between two states the cores of a die, its ready list and its count of pre-emptions stand. -/
structure CoresStand (d : Nat) (s t : State) : Prop where
  core : (scDie t d).core = (scDie s d).core
  ready : (scDie t d).ready = (scDie s d).ready
  preempts : counter t (paddr 21 d 0xC0) = counter s (paddr 21 d 0xC0)

theorem CoresStand.of_eq {s t : State} (h : t.svc = s.svc) (hp : t.prm = s.prm) : CoresStand d s t :=
  ⟨by rw [scDie_congr h], by rw [scDie_congr h], counter_congr hp _⟩

theorem CoresStand.trans {s t u : State} (h : CoresStand d s t) (k : CoresStand d t u) : CoresStand d s u :=
  ⟨k.core.trans h.core, k.ready.trans h.ready, k.preempts.trans h.preempts⟩

/-- Another counter of the dispatcher counts. -/
theorem bump32_stands (s : State) {w : Nat} (hw : w ≠ 0xC0) (n : Nat) : CoresStand d s (bump32 21 d w n s) :=
  ⟨rfl, rfl, (counter_bump ..).trans (if_neg (by unfold paddr; omega))⟩

theorem Work.cls_le (w : Work) : w.cls ≤ 7 := by cases w <;> simp [Work.cls]

section
variable {i : Item}

/-- A core takes an item: its work is to be done where it starts for the first time (R507, R511). -/
theorem startItem_spec (hi : (scDie s d).ready[k]? = some i) :
    ∃ t, startItem d k j s = (t, if i.started then none else some i) ∧ t.toune = s.toune ∧
      CoresStand d (setScDie d (startedDie (scDie s d) k j i) s) t := by
  have hw : 0x40 + 16 * i.work.cls + waitBucket (ticksSince s.tick.count i.ready) ≠ 0xC0 := by
    have h1 := i.work.cls_le
    have h2 : waitBucket (ticksSince s.tick.count i.ready) ≤ 15 := by unfold waitBucket; split <;> omega
    omega
  unfold startItem
  extract_lets x c x1
  rw [(hi : x.ready[k]? = some i)]
  dsimp -zeta only
  extract_lets cyc x2 s1 s2 s3
  have h2 : CoresStand d s1 s2 ∧ s2.toune = s.toune := by
    unfold s2
    split
    · exact ⟨bump32_stands s1 (by decide) 1, rfl⟩
    · exact ⟨.of_eq rfl rfl, rfl⟩
  have h3 : CoresStand d s2 s3 ∧ s3.toune = s.toune := by
    unfold s3
    split
    · exact ⟨.of_eq rfl rfl, h2.2⟩
    · exact ⟨bump32_stands s2 hw 1, h2.2⟩
  exact ⟨s3, rfl, h3.2, h2.1.trans h3.1⟩

end

/-! ### The work itself -/

theorem tickGe_after (t : Tick) : tickGe t (t + 1024) = false := by
  have e : t - (t + 1024) = (-1024 : Tick) := by rw [sub_add_cancel_left]
  unfold tickGe tickDiff
  rw [e]
  decide

/-- Work put off for 1,024 ticks leaves what is ready (R510). -/
theorem postAt_later_stands (p : Nat) (w : Work) (s : State) :
    CoresStand d s (postAt p (s.tick.count + 1024) w s).1 := by
  have hput (x : ScDie) (hc : x.core = (scDie s p).core) (hr : x.ready = (scDie s p).ready) (u : State) (hu : u.svc = s.svc)
      (hp : counter u (paddr 21 d 0xC0) = counter s (paddr 21 d 0xC0)) : CoresStand d s (setScDie p x u) := by
    have hd : scDie (setScDie p x u) d = if d = p then x else scDie s d :=
      (tgetD_tput ..).trans (congrArg (fun y : ScDie => if d = p then x else y) (scDie_congr hu d))
    refine ⟨?_, ?_, hp⟩
    all_goals rw [hd]; split
    case refine_1.isTrue h => rw [hc, h]
    case refine_2.isTrue h => rw [hr, h]
    all_goals rfl
  have hb : counter (bump32 21 p 0xC3 1 s) (paddr 21 d 0xC0) = counter s (paddr 21 d 0xC0) :=
    (counter_bump ..).trans (if_neg (by unfold paddr; omega))
  unfold postAt
  dsimp only
  rw [if_neg (by rw [tickGe_after]; decide)]
  split
  · exact hput { scDie s p with delay := insertDue _ _ _ } rfl rfl s rfl rfl
  · split
    · exact ⟨rfl, rfl, hb⟩
    · exact (hput { scDie s p with delayFull := true } rfl rfl (bump32 21 p 0xC3 1 s) rfl hb).trans (.of_eq rfl rfl)

/-- What a work item does leaves the cores and what is ready (R506). -/
theorem runWork_stands (p : Nat) (fw : Option ServoStep) (w : Work) (s : State) : CoresStand d s (runWork p fw w s) := by
  have hservo : CoresStand d s (match fw with | some x => servoStep x s | none => s) := by
    cases fw with
    | none => exact .of_eq rfl rfl
    | some x => exact .of_eq ((servoStep_same x s).svc rfl) ((servoStep_same x s).prm rfl)
  cases w with
  | flowMiss n q => exact .of_eq ((flowPunted_same ..).svc rfl) ((flowPunted_same ..).prm rfl)
  | sweep h n =>
    show CoresStand d s (if handleRuns s h then _ else s)
    split
    · exact postAt_later_stands ..
    · exact .of_eq rfl rfl
  | learnSync q l => exact .of_eq ((learnSync_same ..).svc rfl) ((learnSync_same ..).prm rfl)
  | mgmt h => exact .of_eq rfl rfl
  | stream code b tick frc => exact .of_eq rfl rfl
  | rehash q t => exact .of_eq ((rehashStart_same ..).svc rfl) ((rehashStart_same ..).prm rfl)
  | exportQ q => exact .of_eq rfl rfl
  | ptp q st f => exact hservo
  | servo => exact hservo

/-! ### Dispatch -/

section
variable {fw : Option ServoStep}

theorem scDispatch_idle (h : s.sys.mode = .reset ∨ inService s 21 (32 + d) = false ∨
    (nextDispatch s d = none ∧ nextPreempt s d = none)) : scDispatch d fw s = s := by
  unfold scDispatch
  split
  · rfl
  next hn =>
    obtain ⟨hd, hp⟩ : nextDispatch s d = none ∧ nextPreempt s d = none := by simp_all
    unfold dispatch
    rw [hd, hp]

/-- The work of what has started, done behind its start. -/
theorem scDispatch_started {s1 : State} {w : Option Item} (hm : s.sys.mode ≠ .reset) (hs : inService s 21 (32 + d) = true)
    (h : dispatch d s = (s1, w)) : scDispatch d fw s = w.elim s1 (fun i => runWork d fw i.work s1) := by
  unfold scDispatch
  rw [if_neg (by simp [hm, hs]), h]
  cases w <;> rfl

theorem dispatched_stands (s1 : State) (w : Option Item) : CoresStand d s1 (w.elim s1 (fun i => runWork d fw i.work s1)) := by
  cases w with
  | none => exact .of_eq rfl rfl
  | some i => exact runWork_stands ..

section
variable (hm : s.sys.mode ≠ .reset) (hs : inService s 21 (32 + d) = true)
include hm hs

/-- An idle core takes an item (R511). -/
theorem scDispatch_takes {i : Item} (hn : nextDispatch s d = some (k, j)) (hi : (scDie s d).ready[k]? = some i) :
    (coreAt (scDie (scDispatch d fw s) d) j).running = some { i with ctx := false, started := true } ∧
    (i.started = true → (scDie (scDispatch d fw s) d).ready = (scDie s d).ready.eraseIdx k ∧
      (scDispatch d fw s).toune = s.toune) ∧
    ∀ code b tick frc, i.started = false → i.work = .stream code b tick frc → (scDispatch d fw s).toune.events =
      s.toune.events ++ [{ code := code, detail := b, tick := tick, frc := frc }] := by
  obtain ⟨t, ht, htoune, hst⟩ := startItem_spec (j := j) hi
  have hd : dispatch d s = (t, if i.started then none else some i) := by
    unfold dispatch
    rw [hn]
    exact ht
  rw [scDispatch_started hm hs hd]
  have hall := hst.trans (dispatched_stands (fw := fw) t (if i.started then none else some i))
  refine ⟨?_, fun hstart => ?_, fun code b tick frc hstart hwork => ?_⟩
  · unfold coreAt
    rw [hall.core, scDie_setScDie]
    exact startedDie_running ..
  · rw [hstart, if_pos rfl] at hall ⊢
    exact ⟨hall.ready.trans (congrArg ScDie.ready (scDie_setScDie ..)), htoune⟩
  · rw [hstart, if_neg (by decide), Option.elim_some, hwork]
    exact congrArg (fun t : Toune => t.events ++ [_]) htoune

/-- An item takes the core of one of lower priority, which goes to the ready list with a context slot (R512). -/
theorem scDispatch_preempts {i o : Item} (hn : nextDispatch s d = none) (hp : nextPreempt s d = some (k, j))
    (hi : (scDie s d).ready[k]? = some i) (ho : (coreAt (scDie s d) j).running = some o) :
    (coreAt (scDie (scDispatch d fw s) d) j).running = some { i with ctx := false, started := true } ∧
    { o with ctx := true } ∈ (scDie (scDispatch d fw s) d).ready ∧
    counter (scDispatch d fw s) (paddr 21 d 0xC0) = min (counter s (paddr 21 d 0xC0) + 1) (2 ^ 32 - 1) := by
  have hpre : (scDie (preempt d j s) d).ready = { o with ctx := true } :: (scDie s d).ready ∧
      counter (preempt d j s) (paddr 21 d 0xC0) = min (counter s (paddr 21 d 0xC0) + 1) (2 ^ 32 - 1) := by
    unfold preempt
    dsimp only
    rw [ho]
    exact ⟨congrArg ScDie.ready (scDie_setScDie ..), (counter_bump ..).trans (if_pos rfl)⟩
  obtain ⟨hready, hcount⟩ := hpre
  have hi' : (scDie (preempt d j s) d).ready[k + 1]? = some i := by rw [hready]; exact hi
  obtain ⟨t, ht, -, hst⟩ := startItem_spec (j := j) hi'
  have hd : dispatch d s = (t, if i.started then none else some i) := by
    unfold dispatch
    rw [hn, hp]
    exact ht
  rw [scDispatch_started hm hs hd]
  have hall := hst.trans (dispatched_stands (fw := fw) t (if i.started then none else some i))
  refine ⟨?_, ?_, hall.preempts.trans hcount⟩
  · unfold coreAt
    rw [hall.core, scDie_setScDie]
    exact startedDie_running ..
  · rw [hall.ready, scDie_setScDie]
    show _ ∈ (scDie (preempt d j s) d).ready.eraseIdx (k + 1)
    rw [hready]
    exact List.mem_cons_self

end

end

/-! ### The end and the ageing of items -/

theorem itemEnd_idle {c n : Nat} (h : (coreAt (scDie s (c / 16)) (c % 16)).running = none) : itemEnd c n s = s := by
  unfold itemEnd
  dsimp only
  rw [h]

theorem itemEnd_frees {c : Nat} (n : Nat) (h : (coreAt (scDie s (c / 16)) (c % 16)).running ≠ none) :
    scDie (itemEnd c n s) (c / 16) = { scDie s (c / 16) with serial := (scDie s (c / 16)).serial + 1 }.putCore (c % 16)
      { coreAt (scDie s (c / 16)) (c % 16) with
        running := none, since := (scDie s (c / 16)).serial + 1, cycles := (coreAt (scDie s (c / 16)) (c % 16)).cycles + n } := by
  obtain ⟨o, ho⟩ := Option.ne_none_iff_exists'.mp h
  unfold itemEnd
  dsimp only
  rw [ho]
  exact scDie_setScDie ..

/-- Has a ready item waited so long that it is to be treated as priority 7 (R513)? -/
def agesNow (s : State) (lim : Nat) (i : Item) : Bool := !i.aged && ticksSince s.tick.count i.ready ≥ lim

theorem agesNow_false {lim : Nat} {i : Item} (h : i.aged = true ∨ ticksSince s.tick.count i.ready < lim) :
    agesNow s lim i = false := by
  unfold agesNow
  rcases h with h | h
  · rw [h]
    rfl
  · rw [decide_eq_false (by omega), Bool.and_false]

theorem itemAged_idle {lim : Nat} (hlim : lim = regField s 21 d 1 15 0)
    (h : lim = 0 ∨ ∀ i ∈ (scDie s d).ready, i.aged = true ∨ ticksSince s.tick.count i.ready < lim) : itemAged d s = s := by
  subst hlim
  unfold itemAged
  dsimp only
  split
  next k hk =>
    refine if_pos (h.resolve_right fun h => ?_)
    obtain ⟨hlt, hp, -⟩ := List.findIdx?_eq_some_iff_getElem.mp hk
    have hf := agesNow_false (h _ (List.getElem_mem hlt))
    unfold agesNow at hf
    rw [hf] at hp
    cases hp
  next => rfl

theorem itemAged_ages {lim : Nat} {i : Item} (hlim : lim = regField s 21 d 1 15 0) (h0 : lim ≠ 0)
    (hi : (scDie s d).ready[k]? = some i) (ha : i.aged = false) (hw : lim ≤ ticksSince s.tick.count i.ready)
    (hbefore : ∀ (k' : Nat) (i' : Item), k' < k → (scDie s d).ready[k']? = some i' →
      i'.aged = true ∨ ticksSince s.tick.count i'.ready < lim) :
    scDie (itemAged d s) d = { scDie s d with ready := (scDie s d).ready.set k { i with aged := true } } ∧
      counter (itemAged d s) (paddr 21 d 0xC1) = min (counter s (paddr 21 d 0xC1) + 1) (2 ^ 32 - 1) := by
  subst hlim
  obtain ⟨hlt, hik⟩ := List.getElem?_eq_some_iff.mp hi
  have hfind : (scDie s d).ready.findIdx? (agesNow s (regField s 21 d 1 15 0)) = some k := by
    refine List.findIdx?_eq_some_iff_getElem.mpr ⟨hlt, ?_, fun k' hk' => ?_⟩
    · rw [hik, agesNow, ha, decide_eq_true hw]
      rfl
    · rw [agesNow_false (hbefore k' _ hk' (List.getElem?_eq_getElem (by omega)))]
      decide
  unfold agesNow at hfind
  unfold itemAged
  dsimp only
  rw [hfind]
  dsimp only
  rw [if_neg h0, hi]
  dsimp only
  have hsame := raiseLimited_same Ev.scAged (8 * d + i.work.cls) (fun n => le 1 d ++ le 1 i.work.cls ++ le 4 n)
    (bump32 21 d 0xC1 1 (setScDie d { scDie s d with ready := (scDie s d).ready.set k { i with aged := true } } s))
  exact ⟨(scDie_congr (hsame.svc rfl) d).trans (scDie_setScDie ..),
    (counter_congr (hsame.prm rfl) _).trans ((counter_bump ..).trans (if_pos rfl))⟩

end

/-! ### The island's requests -/

section
variable {r : Req} {s : State}

theorem bodySafetyQuery_legal (hp : r.payload = []) : bodySafetyQuery r s =
    (s, .yes (le 4 (roZal s 0) ++ le 4 (roZal s 1) ++ le 4 (roZal s 2) ++ le 4 (roZal s 3) ++ le 4 (roZal s 7))) :=
  if_neg (not_not_intro hp)

/-- SAFETY_LOG_READ from an index that the log holds (R571). -/
theorem bodySafetyLogRead_held {i : Nat} (hl : r.payload.length = 8) (hz : rd r.payload 4 4 = 0) (hi : i ≤ s.zal.log.length)
    (hn : s.zal.log.length ≤ 256)
    (h : (BitVec.ofNat 32 (rd r.payload 0 4) : Word) = s.zal.logNext - BitVec.ofNat 32 s.zal.log.length + BitVec.ofNat 32 i) :
    bodySafetyLogRead r s = (s, .yes (le 4 s.zal.logNext.toNat ++
      le 4 (s.zal.logNext - BitVec.ofNat 32 s.zal.log.length).toNat ++ le 2 ((s.zal.log.drop i).take 64).length ++ le 2 0 ++
      (((s.zal.log.drop i).take 64).map (·.bytes)).flatten)) := by
  have hskip : (s.zal.logNext - BitVec.ofNat 32 s.zal.log.length + BitVec.ofNat 32 i -
      (s.zal.logNext - BitVec.ofNat 32 s.zal.log.length) : Word).toNat = i := by
    rw [add_sub_cancel_left, BitVec.toNat_ofNat]
    omega
  unfold bodySafetyLogRead
  rw [if_neg (by simp [hl, zeros, hz]), h]
  dsimp only
  rw [hskip, if_pos hi]

section
variable (hm : s.sys.mode = .configure ∨ s.sys.mode = .test) (hp : r.payload = [])
include hm hp

theorem bodySafetySelftest_busy (h : s.zal.selftestOp ≠ none) : bodySafetySelftest r s = (s, .no St.eBusy) :=
  (if_neg (by rcases hm with h | h <;> simp [h])).trans ((if_neg (not_not_intro hp)).trans
    (if_pos (Option.isSome_iff_ne_none.mpr h)))

theorem bodySafetySelftest_starts (h : s.zal.selftestOp = none) : bodySafetySelftest r s =
    accepted Op.safetySelftest r true (fun h s => s.setZal { s.zal with selftestOp := some h }) s :=
  (if_neg (by rcases hm with h | h <;> simp [h])).trans ((if_neg (not_not_intro hp)).trans (if_neg (by rw [h]; decide)))

end

end

/-- Settles O57: the dispatcher's choice is the best of its candidates, and what an item does leaves the cores.  The dispatcher units
32 and 33 and the choice among idle cores are log 49's, the layout of SAFETY_QUERY log 31's. -/
theorem coresRunWorkAndTheIslandReports : Obligations.CoresRunWorkAndTheIslandReports := by
  unfold Obligations.CoresRunWorkAndTheIslandReports
  intro s
  refine ⟨?_, ?_, ?_, fun l => ⟨fun h => congrArg Host.Outcome.next (laneIdleExitFail_other h), fun h => ?_⟩⟩
  · rintro d fw _ rfl
    refine ⟨fun h => congrArg Host.Outcome.next (scDispatch_idle h), fun k j hm hs hn => ?_, fun k j hm hs hn hp => ?_,
      fun lim hlim => ⟨fun h => congrArg Host.Outcome.next (itemAged_idle hlim h), fun k i h0 hi ha hw hb => ?_⟩⟩
    · obtain ⟨i, hi, hj, hbest⟩ := nextDispatch_some hn
      obtain ⟨hmem, hidle⟩ := longestIdle_idle hj
      obtain ⟨hrun, hagain, hstream⟩ := scDispatch_takes (fw := fw) hm hs hn hi
      exact ⟨_, i, rfl, hi, hmem, hidle, hrun, hbest, hagain, hstream⟩
    · obtain ⟨i, o, hi, ho, hlow⟩ := nextPreempt_some hp
      obtain ⟨hrun, hready, hcount⟩ := scDispatch_preempts (fw := fw) hm hs hn hp hi ho
      exact ⟨_, i, o, rfl, hi, ho, hlow, hrun, hready, hcount⟩
    · obtain ⟨hdie, hcount⟩ := itemAged_ages hlim h0 hi ha hw hb
      exact ⟨_, rfl, by rw [hdie], by rw [hdie], hcount⟩
  · rintro c n _ _ _ rfl rfl rfl
    refine ⟨fun h => congrArg Host.Outcome.next (itemEnd_idle h), fun h => ?_⟩
    have hdie := itemEnd_frees n h
    have hcore (k : Nat) := coreAt_putCore { scDie s (c / 16) with serial := (scDie s (c / 16)).serial + 1 } (c % 16) k
    refine ⟨_, rfl, ?_⟩
    rw [hdie, hcore, if_pos rfl]
    exact ⟨rfl, rfl, rfl, fun k hk => (hcore k _).trans (if_neg hk)⟩
  · rintro r _ rfl
    refine ⟨fun hr hp => ?_, fun i hr hl hz hi hn he => ?_, fun hr => ⟨fun h1 h2 => ?_, fun hm hp => ⟨fun hb => ?_, fun h hnone hh => ?_⟩⟩⟩
    · obtain ⟨m, ha, hans⟩ := runs_yes hr fun m => bodySafetyQuery_legal (s := withSessions m s) hp
      exact ⟨_, rfl, ha, hans⟩
    · obtain ⟨m, ha, hans⟩ := runs_yes hr fun m => bodySafetyLogRead_held (s := withSessions m s) hl hz hi hn he
      exact ⟨_, rfl, ha, hans⟩
    · exact ⟨_, rfl, runs_no hr fun m => if_pos ⟨h1, h2⟩⟩
    · exact ⟨_, rfl, runs_no hr fun m => bodySafetySelftest_busy (s := withSessions m s) hm hp hb⟩
    · obtain ⟨hst, m, ha⟩ := runs_launches hr hh fun m => bodySafetySelftest_starts (s := withSessions m s) hm hp hnone
      exact ⟨_, rfl, hst, ha.zal⟩
  · obtain ⟨hdown, hlanes, ⟨e, he, hc, hd⟩, hothers⟩ := laneIdleExitFail_fails h
    exact ⟨_, e, rfl, hdown, hlanes, he, hc, hd, hothers⟩

end Sys2Proof.Machine
end

section
/-! Proofs.  What a half-link takes from the lanes and from frames: block lock, alignment, loss, sequences, acknowledgements and
resending (R534 to R536). -/

namespace Sys2Proof.Machine

section
variable {h : Nat} {s : State}

/-! ### States -/

theorem twinLaneLock_other (hx : (halfAt s h).st ≠ .hunt) : twinLaneLock h s = s := if_pos hx

theorem twinLaneLock_hunting (hx : (halfAt s h).st = .hunt) : twinLaneLock h s =
    setHalf h { halfAt s h with st := .align, locked := 0xFF } (twinLocks h true s) := if_neg (not_not_intro hx)

theorem twinLocks_halfAt (h : Nat) (on : Bool) (s : State) (k : Nat) : halfAt (twinLocks h on s) k = halfAt s k :=
  halfAt_congr (congrArg Twin.half ((twinLocks_same h on s).twin (by decide))) k

/-- A half-link in HUNT is in ALIGN, with its receivers locked (R534). -/
theorem twinLaneLock_locks (hx : (halfAt s h).st = .hunt) :
    halfAt (twinLaneLock h s) h = { halfAt s h with st := .align, locked := 0xFF } ∧
      (∀ k, k ≠ h → halfAt (twinLaneLock h s) k = halfAt s k) ∧
      ∀ l, l < 8 → (laneAt (twinLaneLock h s) (144 + 8 * h + l)).cdrLock = true := by
  have hlanes := twinLocks_locked h s
  have hhalf := twinLocks_halfAt h true s
  rw [twinLaneLock_hunting hx]
  generalize twinLocks h true s = v at hlanes hhalf
  exact ⟨halfAt_setHalf_self .., fun k hk => (halfAt_setHalf_ne hk ..).trans (hhalf k), hlanes⟩

/-- The credit granted on the half-links touches what is sent and granted, and nothing else (R542). -/
theorem grantCredits_half (k : Nat) (s : State) : ∃ b g, halfAt (grantCredits s) k = { halfAt s k with sent := b, granted := g } := by
  have hstep (j : Nat) (s : State) (x : HalfLink) (hx : ∃ b g, halfAt s k = { x with sent := b, granted := g }) :
      ∃ b g, halfAt (if halfUp s j && (halfAt s j).granted == 0 then
        setHalf j { halfAt (linkControl j (le 4 3 ++ le 4 4096) s) j with granted := 4096 } (linkControl j (le 4 3 ++ le 4 4096) s)
        else s) k = { x with sent := b, granted := g } := by
    obtain ⟨b, g, e⟩ := hx
    split
    · rw [halfAt_setHalf]
      split
      next hk =>
        subst hk
        rw [linkControl_self, e]
        exact ⟨_, _, rfl⟩
      next hk => exact ⟨b, g, (linkControl_ne hk ..).trans e⟩
    · exact ⟨b, g, e⟩
  exact hstep 1 _ _ (hstep 0 _ _ ⟨_, _, rfl⟩)

theorem grantCredits_only (s : State) : HalvesOnly s (grantCredits s) := by
  refine .foldl (fun s j => ?_) _ s
  split
  · exact (linkControl_only ..).trans (setHalf_only ..)
  · exact .rfl' s

theorem twinLinkUp_other {o : BitVec 24} (hx : (halfAt s h).st ≠ .align ∨ orderOk o = false) : twinLinkUp h o s = s :=
  if_pos (hx.imp_right fun h => by rw [h]; rfl)

/-- An aligned half-link whose lane numbers are right is UP, and the pair forms or is granted its credits (R534, R541, R542). -/
theorem twinLinkUp_aligned {o : BitVec 24} (hx : (halfAt s h).st = .align) (ho : orderOk o = true) :
    (halfAt (twinLinkUp h o s) h).st = .up ∧ (halfAt (twinLinkUp h o s) h).order = o ∧
      Raised [(Ev.twinLinkUp, le 1 h ++ le 8 s.tick.count.toNat)] s (twinLinkUp h o s) ∧
      (twinLinkUp h o s).twin.pair = (if s.twin.pair = .alone then .forming else s.twin.pair) ∧
      (twinLinkUp h o s).twin.role = s.twin.role := by
  unfold twinLinkUp
  extract_lets x s1 s2 y s3
  rw [if_neg (show ¬(x.st ≠ .align ∨ (!orderOk o) = true) by simp [x, hx, ho])]
  have h2 : halfAt s2 h = { halfAt s1 h with
      sent := (halfAt s1 h).sent ++ (halfAt s1 h).unacked.map (fun f => linkBytes f.kind f.seq (halfAt s1 h).expect f.payload)
      unacked := (halfAt s1 h).unacked.map (fun f => { f with since := s1.tick.count }) } := halfAt_setHalf_self ..
  have h1 : halfAt s1 h = { halfAt s h with st := .up, order := o, resends := 0 } := halfAt_setHalf_self ..
  have h3 : (halfAt s3 h).st = .up ∧ (halfAt s3 h).order = o := by
    obtain ⟨u, w, q, b, e⟩ := linkPump_keeps s.tick.count y.waiting.length y
    have hy : halfAt s3 h = linkPump s.tick.count y.waiting.length y := halfAt_setHalf_self ..
    have hxy : y = halfAt s2 h := rfl
    rw [hy, e, hxy, h2, h1]
    exact ⟨rfl, rfl⟩
  have hr : Raised [(Ev.twinLinkUp, le 1 h ++ le 8 s.tick.count.toNat)] s s3 :=
    (raise_raised (s := resendLink h s1) _ _ rfl).of_after rfl
  have hp : s3.twin.pair = s.twin.pair ∧ s3.twin.role = s.twin.role := ⟨rfl, rfl⟩
  split
  next ha =>
    rw [hp.1] at ha
    exact ⟨h3.1, h3.2, hr.of_after rfl, (if_pos ha).symm, hp.2⟩
  next ha =>
    rw [hp.1] at ha
    rw [if_neg ha]
    split
    · obtain ⟨b, g, e⟩ := grantCredits_half h s3
      have ho := grantCredits_only s3
      exact ⟨by rw [e]; exact h3.1, by rw [e]; exact h3.2, hr.of_after ho.toune, ho.pair.1.trans hp.1, ho.pair.2.trans hp.2⟩
    · exact ⟨h3.1, h3.2, hr, hp⟩

/-! ### Loss -/

theorem twinLinkDown_disabled_other (hx : (halfAt s h).st = .down ∨ twinEnabled s = true) : twinLinkDown h 3 s = s := by
  unfold twinLinkDown
  rw [if_pos rfl]
  exact if_pos hx

theorem twinLinkDown_disabled (hx : (halfAt s h).st ≠ .down) (he : twinEnabled s = false) :
    twinLinkDown h 3 s = halfLost h 3 true s := by
  unfold twinLinkDown
  rw [if_pos rfl]
  exact if_neg (by simp [hx, he])

section
variable {c : Nat} (hc : c ≠ 3)
include hc

theorem twinLinkDown_other (h1 : (halfAt s h).st ≠ .align) (h2 : (halfAt s h).st ≠ .up) : twinLinkDown h c s = s :=
  (if_neg hc).trans (if_neg (not_or_intro h1 h2))

theorem twinLinkDown_lost (hx : (halfAt s h).st = .align ∨ (halfAt s h).st = .up) : twinLinkDown h c s = halfLost h c false s :=
  (if_neg hc).trans (if_pos hx)

end

theorem halfUp_lost (h c : Nat) (down : Bool) (s : State) (k : Nat) : halfUp (lost h c down s) k =
    if k = h then false else halfUp s k := by
  unfold halfUp
  rw [lost_half]
  split
  · rw [lostHalf_down]
    cases down <;> rfl
  · rfl

/-- With the other half-link not UP the pair is ALONE. -/
theorem halfLost_last {c : Nat} {down : Bool} (h : Fin 2) (ho : halfUp s (1 - h) = false) : (halfLost h c down s).twin.pair = .alone := by
  have hall (k : Nat) (hk : k = h.val ∨ k = 1 - h.val) : halfUp (lost h c down s) k = false := by
    rw [halfUp_lost]
    split
    · rfl
    next hne => rw [hk.resolve_left hne, ho]
  exact halfLost_alone (hall 0 (by omega)) (hall 1 (by omega))

/-! ### Frames -/

/-- The half-link once the frames before a sequence have been acknowledged (R536). -/
def ackedHalf (a : Half) (x : HalfLink) : HalfLink :=
  { x with
    unacked := x.unacked.filter (fun f => !seqBefore f.seq a)
    resends := if (x.unacked.filter (fun f => !seqBefore f.seq a)).length < x.unacked.length then 0 else x.resends }

theorem ackFrames_eq (h : Nat) (a : Half) (s : State) : ackFrames h a s =
    setHalf h (linkPump s.tick.count (halfAt s h).waiting.length (ackedHalf a (halfAt s h))) s := rfl

theorem ackFrames_ne {k : Nat} (hk : k ≠ h) (a : Half) (s : State) : halfAt (ackFrames h a s) k = halfAt s k :=
  halfAt_setHalf_ne hk ..

/-- An acknowledgement leaves what has been received and expected. -/
theorem ackFrames_keeps (h : Nat) (a : Half) (s : State) : (halfAt (ackFrames h a s) h).expect = (halfAt s h).expect ∧
    (halfAt (ackFrames h a s) h).rx = (halfAt s h).rx ∧ (halfAt (ackFrames h a s) h).rxCross = (halfAt s h).rxCross ∧
    (halfAt (ackFrames h a s) h).nakOut = (halfAt s h).nakOut := by
  obtain ⟨u, w, q, b, e⟩ := linkPump_keeps s.tick.count (halfAt s h).waiting.length (ackedHalf a (halfAt s h))
  rw [ackFrames_eq, halfAt_setHalf_self, e]
  exact ⟨rfl, rfl, rfl, rfl⟩

/-- An acknowledgement where no frame waits takes the frames before it out of the replay buffer. -/
theorem ackFrames_idle (hw : (halfAt s h).waiting = []) (a : Half) : halfAt (ackFrames h a s) h = ackedHalf a (halfAt s h) := by
  rw [ackFrames_eq, halfAt_setHalf_self, linkPump_none _ (by exact hw)]

/-- One negative acknowledgement stands at a time (R535). -/
theorem sendNak_spec (h : Nat) (s : State) : HalvesOnly s (sendNak h s) ∧ (∀ k, k ≠ h → halfAt (sendNak h s) k = halfAt s k) ∧
    halfAt (sendNak h s) h = if (halfAt s h).nakOut then halfAt s h else { halfAt s h with
      nakOut := true
      sent := (halfAt s h).sent ++ [linkBytes 7 0 (halfAt s h).expect (le 4 2 ++ le 4 (halfAt s h).expect.toNat)] } := by
  unfold sendNak
  dsimp only
  split
  · exact ⟨.rfl' s, fun k _ => rfl, rfl⟩
  · exact ⟨(setHalf_only ..).trans (linkControl_only ..), fun k hk => (linkControl_ne hk ..).trans (halfAt_setHalf_ne hk ..),
      by rw [linkControl_self, halfAt_setHalf_self]⟩

/-- An accepted item: its half-link holds it, and a standby notes the sequence of a delta (R553). -/
theorem acceptItem_spec (h kind : Nat) (b : List Byte) (s : State) : (∀ k, k ≠ h → halfAt (acceptItem h kind b s) k = halfAt s k) ∧
    halfAt (acceptItem h kind b s) h = (if kind = 6 then { halfAt s h with rxCross := (halfAt s h).rxCross ++ [b] }
      else { halfAt s h with rx := (halfAt s h).rx ++ [(kind, b)] }) := by
  have hnote (b : List Byte) (s : State) (k : Nat) : halfAt (noteReceived b s) k = halfAt s k := by
    refine halfAt_congr ?_ k
    unfold noteReceived
    dsimp only [State.setTwin_twin]
    split <;> rfl
  unfold acceptItem
  dsimp only
  split
  · exact ⟨fun k hk => (hnote ..).trans (halfAt_setHalf_ne hk ..), (hnote ..).trans (halfAt_setHalf_self ..)⟩
  · exact ⟨fun k hk => halfAt_setHalf_ne hk .., halfAt_setHalf_self ..⟩

/-- The items of one frame, in their order. -/
theorem acceptItems (h kind : Nat) (l : List (List Byte)) (s : State) :
    (∀ k, k ≠ h → halfAt (l.foldl (fun s i => acceptItem h kind i s) s) k = halfAt s k) ∧
    halfAt (l.foldl (fun s i => acceptItem h kind i s) s) h =
      (if kind = 6 then { halfAt s h with rxCross := (halfAt s h).rxCross ++ l }
      else { halfAt s h with rx := (halfAt s h).rx ++ l.map (fun i => (kind, i)) }) := by
  induction l generalizing s with
  | nil =>
    refine ⟨fun k _ => rfl, ?_⟩
    split <;> simp
  | cons b l ih =>
    obtain ⟨hne, hself⟩ := acceptItem_spec h kind b s
    obtain ⟨ihne, ihself⟩ := ih (acceptItem h kind b s)
    refine ⟨fun k hk => (ihne k hk).trans (hne k hk), ihself.trans ?_⟩
    rw [hself]
    split <;> simp

theorem twinFrameRx_other (hx : (halfAt s h).st ≠ .up) (b : List Byte) : twinFrameRx h b s = s := if_pos hx

section
variable (hx : (halfAt s h).st = .up) {b : List Byte}
include hx

theorem twinFrameRx_broken (hb : frameWhole b = false) : twinFrameRx h b s = sendNak h (bump32 23 (1 + h) 0x10 1 s) :=
  (if_neg (not_not_intro hx)).trans (if_pos (by rw [hb]; rfl))

section
variable (hb : frameWhole b = true)
include hb

theorem twinFrameRx_unknown (hk : rd b 0 1 = 0 ∨ 7 < rd b 0 1) : twinFrameRx h b s = s :=
  (if_neg (not_not_intro hx)).trans ((if_neg (by rw [hb]; decide)).trans (if_pos hk))

theorem twinFrameRx_control (hk : rd b 0 1 = 7) : twinFrameRx h b s =
    controlRx h ((b.drop 8).take (b.length - 12)) (ackFrames h (BitVec.ofNat 16 (rd b 6 2)) s) :=
  (if_neg (not_not_intro hx)).trans ((if_neg (by rw [hb]; decide)).trans ((if_neg (by omega)).trans (if_pos hk)))

section
variable (h1 : 1 ≤ rd b 0 1) (h6 : rd b 0 1 ≤ 6)
include h1 h6

theorem twinFrameRx_inOrder (hseq : BitVec.ofNat 16 (rd b 4 2) = (halfAt s h).expect) : twinFrameRx h b s =
    (splitItems (rd b 0 1) ((b.drop 8).take (b.length - 12)).length ((b.drop 8).take (b.length - 12))).foldl
      (fun s i => acceptItem h (rd b 0 1) i s)
      (setHalf h { halfAt (ackFrames h (BitVec.ofNat 16 (rd b 6 2)) s) h with
        expect := (halfAt (ackFrames h (BitVec.ofNat 16 (rd b 6 2)) s) h).expect + 1, nakOut := false }
        (ackFrames h (BitVec.ofNat 16 (rd b 6 2)) s)) :=
  (if_neg (not_not_intro hx)).trans ((if_neg (by rw [hb]; decide)).trans ((if_neg (by omega)).trans ((if_neg (by omega)).trans
    (if_neg (not_not_intro hseq)))))

theorem twinFrameRx_outOfOrder (hseq : BitVec.ofNat 16 (rd b 4 2) ≠ (halfAt s h).expect) : twinFrameRx h b s =
    if seqBefore (BitVec.ofNat 16 (rd b 4 2)) (halfAt s h).expect then ackFrames h (BitVec.ofNat 16 (rd b 6 2)) s
    else sendNak h (ackFrames h (BitVec.ofNat 16 (rd b 6 2)) s) :=
  (if_neg (not_not_intro hx)).trans ((if_neg (by rw [hb]; decide)).trans ((if_neg (by omega)).trans ((if_neg (by omega)).trans
    (if_pos hseq))))

end

end

end

/-- A CONTROL frame that acknowledges (R535). -/
theorem controlRx_ack {p : List Byte} (hp : rd p 0 4 = 1) (s : State) :
    controlRx h p s = ackFrames h (BitVec.ofNat 16 (rd p 4 4)) s := by
  unfold controlRx
  dsimp only
  rw [hp]
  rfl

/-! ### Resending -/

theorem twinResendTimeout_other (hx : (halfAt s h).unacked = [] ∨ (halfAt s h).st ≠ .up) : twinResendTimeout h s = s := by
  unfold twinResendTimeout
  dsimp only
  split
  next f rest hf => exact if_neg fun h => (hx.resolve_left (by rw [hf]; exact List.cons_ne_nil _ _)) h.1
  next => rfl

section
variable {f : LinkFrame} {rest : List LinkFrame} (hf : (halfAt s h).unacked = f :: rest)
include hf

theorem twinResendTimeout_early (ht : ticksSince s.tick.count f.since < 4) : twinResendTimeout h s = s := by
  unfold twinResendTimeout
  dsimp only
  rw [hf]
  exact if_neg fun h => by omega

section
variable (hx : (halfAt s h).st = .up) (ht : 4 ≤ ticksSince s.tick.count f.since)
include hx ht

theorem twinResendTimeout_due : twinResendTimeout h s = resendFrames h s := by
  unfold twinResendTimeout
  dsimp only
  rw [hf]
  exact if_pos ⟨hx, ht⟩

theorem twinResendTimeout_resends (hr : (halfAt s h).resends < 16) : twinResendTimeout h s =
    resendLink h (setHalf h { halfAt s h with resends := (halfAt s h).resends + 1 } (bump32 23 (1 + h) 0x11 1 s)) :=
  (twinResendTimeout_due hf hx ht).trans ((if_neg (by rw [hf]; exact List.cons_ne_nil _ _)).trans (if_neg (by omega)))

theorem twinResendTimeout_gives_up (hr : 16 ≤ (halfAt s h).resends) : twinResendTimeout h s = halfLost h 2 false s :=
  (twinResendTimeout_due hf hx ht).trans ((if_neg (by rw [hf]; exact List.cons_ne_nil _ _)).trans (if_pos hr))

end

end

end

end Sys2Proof.Machine
end

section
/-! Proofs.  How a pair forms from HELLOs, and what a heartbeat or its absence tells (R538 to R541, R547 to R549). -/

namespace Sys2Proof.Machine

/-- An item taken from a half-link changes the half-links alone. -/
theorem takeItem_only {h k : Nat} {l : List Nat} {s u : State} {b : List Byte} (e : takeItem h k l s = some (b, u)) :
    HalvesOnly s u := by
  unfold takeItem at e
  dsimp only at e
  split at e
  · cases e
  · split at e
    · split at e
      · cases e
        exact setHalf_only ..
      · cases e
    · cases e

/-! ### Forming -/

/-- What pairReset starts anew, but for the credit granted. -/
def pairAnew (s : State) : State :=
  s.setTwin { s.twin with
    sent0 := 0, sent1 := 0, applied0 := 0, applied1 := 0, lag := [], follow := [], peerHanding := none, missed := 0 }

theorem pairReset_only (s : State) : HalvesOnly (pairAnew s) (pairReset s) := .foldl (fun _ _ => setHalf_only ..) _ _

/-- A pair that forms is REJOINING in the roles decided, and tells it (R541). -/
theorem formPair_spec (s : State) : (formPair s).twin.pair = .rejoining ∧ (formPair s).twin.role = s.twin.role ∧
    (formPair s).twin.mismatch = s.twin.mismatch ∧ (formPair s).twin.hello = s.twin.hello ∧
    (formPair s).twin.peerSerial = s.twin.peerSerial ∧ (formPair s).twin.beat = s.twin.beat ∧
    Raised [(Ev.twinPairFormed, le 1 s.twin.role ++ le 1 1 ++ le 8 s.twin.peerSerial.toNat)] s (formPair s) := by
  unfold formPair
  dsimp only
  generalize hu : raise Ev.twinPairFormed _ _ = u
  have hr : Raised [(Ev.twinPairFormed, le 1 s.twin.role ++ le 1 1 ++ le 8 s.twin.peerSerial.toNat)] s u := by
    rw [← hu]
    exact raise_raised _ _ rfl
  have hrole : u.twin.role = s.twin.role := by rw [← hu]; rfl
  have hmis : u.twin.mismatch = s.twin.mismatch := by rw [← hu]; rfl
  have hhello : u.twin.hello = s.twin.hello := by rw [← hu]; rfl
  have hserial : u.twin.peerSerial = s.twin.peerSerial := by rw [← hu]; rfl
  have hbeat : u.twin.beat = s.twin.beat := by rw [← hu]; rfl
  obtain ⟨m, hm⟩ := pairReset_only u
  rw [hm]
  split
  · obtain ⟨n, hn⟩ := grantCredits_only (startRejoin (withHalves m (pairAnew u)))
    rw [hn]
    exact ⟨rfl, hrole, hmis, hhello, hserial, hbeat, hr.of_after rfl⟩
  · exact ⟨rfl, hrole, hmis, hhello, hserial, hbeat, hr.of_after rfl⟩

/-- The pair forms in a role decided by a HELLO that agrees (R539, R540). -/
def roled (r : Nat) (s : State) : State :=
  s.setTwin { s.twin with mismatch := 0, version := 1, pair := .forming, role := r }

section
variable {b : List Byte} {s : State}

theorem resolvePair_mismatch (hm : helloMismatch s b ≠ 0) : (resolvePair b s).twin.pair = .incompatible ∧
    (resolvePair b s).twin.mismatch = helloMismatch s b ∧ (resolvePair b s).twin.hello = s.twin.hello ∧
    (resolvePair b s).twin.peerSerial = s.twin.peerSerial := by
  unfold resolvePair
  dsimp only
  rw [if_pos hm]
  refine ⟨rfl, rfl, ?_⟩
  split <;> exact ⟨rfl, rfl⟩

section
variable (hm : helloMismatch s b = 0)
include hm

theorem resolvePair_role {r : Nat} (hd : decideRole s b = some r) : resolvePair b s =
    if (r = 1 ∧ rd b 0x12 1 = 5) ∨ (r = 2 ∧ s.sys.mode = .standby) then formPair (roled r s) else roled r s := by
  refine (if_neg (not_not_intro hm)).trans ?_
  split
  next hn => cases (hd.symm.trans hn : some r = none)
  next q hq =>
    cases (hd.symm.trans hq : some r = some q)
    rfl

theorem resolvePair_split (hd : decideRole s b = none) : resolvePair b s =
    splitPair b (s.setTwin { s.twin with mismatch := 0, version := 1 }) := by
  refine (if_neg (not_not_intro hm)).trans ?_
  split
  next => rfl
  next q hq => cases (hd.symm.trans hq : none = some q)

end

/-- In a split the device that holds, or that rules 3 and 4 make the active, stays; the other yields (R540). -/
theorem splitPair_spec (b : List Byte) (s : State) : (splitPair b s).twin.hello = s.twin.hello ∧
    (splitPair b s).twin.peerSerial = s.twin.peerSerial ∧
    ((activeByPin s b || bitOf (reg s 23 0 0).toNat 3) = true →
      (splitPair b s).twin.pair = .split ∧ (splitPair b s).twin.role = 1) ∧
    ((activeByPin s b || bitOf (reg s 23 0 0).toNat 3) = false →
      (splitPair b s).twin.pair = .forming ∧ (splitPair b s).twin.role = 2 ∧ (splitPair b s).twin.yields = true) := by
  have e : (!activeByPin s b && !bitOf (reg s 23 0 0).toNat 3) = !(activeByPin s b || bitOf (reg s 23 0 0).toNat 3) := by
    cases activeByPin s b <;> rfl
  unfold splitPair
  extract_lets s1 yields
  have hh : s1.twin.hello = s.twin.hello := by unfold s1; split <;> rfl
  have hs : s1.twin.peerSerial = s.twin.peerSerial := by unfold s1; split <;> rfl
  have hy : yields = !(activeByPin s b || bitOf (reg s 23 0 0).toNat 3) := e
  rw [hy]
  cases hc : (activeByPin s b || bitOf (reg s 23 0 0).toNat 3)
  · rw [if_pos (by decide)]
    exact ⟨hh, hs, fun h => (by cases h), fun _ => ⟨rfl, rfl, rfl⟩⟩
  · rw [if_neg (by decide)]
    exact ⟨hh, hs, fun _ => ⟨rfl, rfl⟩, fun h => (by cases h)⟩

/-- The HELLO last received is kept whatever comes of it. -/
theorem resolvePair_hello (b : List Byte) (s : State) : (resolvePair b s).twin.hello = s.twin.hello ∧
    (resolvePair b s).twin.peerSerial = s.twin.peerSerial := by
  by_cases hm : helloMismatch s b = 0
  · cases hd : decideRole s b with
    | none =>
      rw [resolvePair_split hm hd]
      obtain ⟨hh, hp, -⟩ := splitPair_spec b (s.setTwin { s.twin with mismatch := 0, version := 1 })
      exact ⟨hh, hp⟩
    | some r =>
      rw [resolvePair_role hm hd]
      split
      · obtain ⟨-, -, -, hh, hp, -⟩ := formPair_spec (roled r s)
        exact ⟨hh, hp⟩
      · exact ⟨rfl, rfl⟩
  · obtain ⟨-, -, hh, hp⟩ := resolvePair_mismatch hm
    exact ⟨hh, hp⟩

end

/-- The HELLO received is kept (R538). -/
def helloed (b : List Byte) (s : State) : State :=
  s.setTwin { s.twin with hello := b, peerSerial := BitVec.ofNat 64 (rd b 8 8), peerPin := bitOf (rd b 0x13 1) 0 }

section
variable {h : Nat} {s u : State} {b : List Byte}

theorem twinHelloRx_none (e : takeItem h 1 [1] s = none) : twinHelloRx h s = s := by
  unfold twinHelloRx
  rw [e]

section
variable (e : takeItem h 1 [1] s = some (b, u)) (hl : b.length = 64)
include e hl

/-- A device that is alone or paired only keeps the HELLO. -/
theorem twinHelloRx_keeps (hp : u.twin.pair = .alone ∨ paired u = true) : twinHelloRx h s = helloed b u := by
  unfold twinHelloRx
  rw [e]
  dsimp only
  rw [if_neg (not_not_intro hl)]
  split
  case h_1 hc | h_2 hc | h_3 hc =>
    have hu : u.twin.pair = _ := hc
    rw [paired, hu] at hp
    rcases hp with h | h <;> cases h
  all_goals rfl

/-- A pair that is forming, incompatible or split is resolved by the HELLO. -/
theorem twinHelloRx_resolves (ha : u.twin.pair ≠ .alone) (hp : paired u = false) :
    twinHelloRx h s = resolvePair b (helloed b u) := by
  unfold twinHelloRx
  rw [e]
  dsimp only
  rw [if_neg (not_not_intro hl)]
  split
  case h_4 hc => exact absurd hc ha
  case h_5 hc | h_6 hc | h_7 hc =>
    have hu : u.twin.pair = _ := hc
    rw [paired, hu] at hp
    cases hp
  all_goals rfl

end

end

theorem leNat_lt (l : List Byte) : leNat l < 256 ^ l.length := by
  induction l with
  | nil => decide
  | cons b l ih =>
    have := b.isLt
    show b.toNat + 256 * leNat l < 256 ^ (l.length + 1)
    rw [Nat.pow_succ]
    omega

/-- Eight bytes read are a number of 64 bits. -/
theorem rd8_toNat (b : List Byte) (off : Nat) : (BitVec.ofNat 64 (rd b off 8)).toNat = rd b off 8 := by
  rw [BitVec.toNat_ofNat]
  refine Nat.mod_eq_of_lt (lt_of_lt_of_le (leNat_lt _) ?_)
  exact Nat.pow_le_pow_right (n := 256) (j := 8) (by decide) (List.length_take_le ..)

/-! ### Heartbeats -/

/-- A heartbeat is kept, and no tick has been missed (R549). -/
def beaten (b : List Byte) (s : State) : State :=
  s.setTwin { s.twin with beat := b, beatSeen := true, missed := 0, offset := s.tick.count - BitVec.ofNat 48 (rd b 0 8) }

/-- What a device takes from a heartbeat that it has kept. -/
def beatTaken (b : List Byte) (prev : Nat) (s : State) : State :=
  if s.twin.pair = .forming then (if s.twin.role = 1 ∧ rd b 8 1 = 5 ∧ rd b 9 1 = 2 then formPair s else s)
  else if !paired s then s
  else if s.twin.role = 2 then beatAtStandby b prev s
  else beatAtActive b s

theorem twinHeartbeatRx_none {h : Nat} {s : State} (e : takeItem h 2 [2] s = none) : twinHeartbeatRx h s = s := by
  unfold twinHeartbeatRx
  rw [e]

theorem twinHeartbeatRx_takes {h : Nat} {s u : State} {b : List Byte} (e : takeItem h 2 [2] s = some (b, u)) (hl : b.length = 64) :
    twinHeartbeatRx h s = beatTaken b (rd u.twin.beat 0x28 4) (beaten b u) := by
  unfold twinHeartbeatRx
  rw [e]
  dsimp only
  rw [if_neg (not_not_intro hl)]
  rfl

theorem goAlone_beat (cause : Nat) (s : State) : (goAlone cause s).twin.beat = s.twin.beat := by
  have hd (s : State) : (dropCredits s).twin.beat = s.twin.beat := by
    obtain ⟨m, hm⟩ := dropCredits_only s
    rw [hm]
    rfl
  unfold goAlone
  split
  · rfl
  · dsimp only
    rw [hd]
    split <;> rfl

theorem handedOver_beat (s : State) : (handedOver s).twin.beat = s.twin.beat := by
  unfold handedOver
  extract_lets s1
  have h1 : s1.twin.beat = s.twin.beat := by
    unfold s1
    split
    · split <;> rfl
    · rfl
  obtain ⟨m, hm⟩ := pairReset_only (s1.setTwin { s1.twin with handover := none, role := 2 })
  rw [hm]
  exact h1

section
variable {b : List Byte} {s : State} {prev : Nat}

theorem beatAtStandby_beat (b : List Byte) (prev : Nat) (s : State) : (beatAtStandby b prev s).twin.beat = s.twin.beat := by
  unfold beatAtStandby
  extract_lets fl pair due s1
  split
  · rfl
  · split
    · rfl
    · split <;> rfl

/-- The sequences that the standby has applied, as the active notes them. -/
def appliedNoted (b : List Byte) (s : State) : State :=
  s.setTwin { s.twin with applied0 := BitVec.ofNat 32 (rd b 0x18 4), applied1 := BitVec.ofNat 32 (rd b 0x1C 4) }

theorem beatAtActive_safe (h9 : rd b 9 1 ≠ 1) (h0 : bitOf (rd b 0xB 1) 0 = true) :
    beatAtActive b s = goAlone 1 (appliedNoted b s) := (if_neg h9).trans (if_pos h0)

section
variable (h9 : rd b 9 1 ≠ 1) (h0 : bitOf (rd b 0xB 1) 0 = false)
include h9 h0

/-- A heartbeat without the SAFE flag leaves the sequences applied, and the heartbeat itself. -/
theorem beatAtActive_notes : (beatAtActive b s).twin.applied0 = BitVec.ofNat 32 (rd b 0x18 4) ∧
    (beatAtActive b s).twin.applied1 = BitVec.ofNat 32 (rd b 0x1C 4) ∧ (beatAtActive b s).twin.beat = s.twin.beat := by
  unfold beatAtActive
  dsimp only
  rw [if_neg h9, if_neg (by rw [h0]; decide)]
  split
  · exact ⟨rfl, rfl, rfl⟩
  · split
    · exact ⟨rfl, rfl, rfl⟩
    · split
      · split <;> exact ⟨rfl, rfl, rfl⟩
      · exact ⟨rfl, rfl, rfl⟩

theorem beatAtActive_loses (hp : s.twin.pair = .inSync) (h6 : rd b 0xA 1 = 6) :
    (beatAtActive b s).twin.pair = .outOfSync := by
  have e : beatAtActive b s = (appliedNoted b s).setTwin { (appliedNoted b s).twin with
      pair := .outOfSync, walking := false, walk := [], endSeq := none } :=
    (if_neg h9).trans ((if_neg (by rw [h0]; decide)).trans (if_pos ⟨h6, .inl hp⟩))
  rw [e]
  rfl

theorem beatAtActive_walks (hp : s.twin.pair = .rejoining) (hr : s.twin.ready = false) (h4 : rd b 0xA 1 = 4)
    (h3 : bitOf (rd b 0xB 1) 3 = true) (hz : rd b 0x28 4 = 0) : (beatAtActive b s).twin.walking = true ∧
      (beatAtActive b s).twin.ready = true ∧ (beatAtActive b s).twin.pair = .rejoining := by
  have e : beatAtActive b s = startWalk (appliedNoted b s) :=
    (if_neg h9).trans ((if_neg (by rw [h0]; decide)).trans ((if_neg (by omega)).trans
      (if_pos ⟨hp, by show (!s.twin.ready) = true; rw [hr]; rfl, h4, h3, hz⟩)))
  rw [e]
  exact ⟨rfl, rfl, hp⟩

theorem beatAtActive_joins (hp : s.twin.pair = .rejoining) (hr : s.twin.ready = true) (h6 : rd b 0xA 1 ≠ 6) {e f : Word}
    (hend : s.twin.endSeq = some (e, f)) (hz : rd b 0x28 4 = s.twin.bulkSent % 2 ^ 29)
    (hreach : reached (BitVec.ofNat 32 (rd b 0x18 4)) (BitVec.ofNat 32 (rd b 0x1C 4)) e f = true) :
    (beatAtActive b s).twin.pair = .inSync ∧ Raised [(Ev.twinInSync, le 8 s.tick.count.toNat)] s (beatAtActive b s) := by
  have heq : beatAtActive b s = raise Ev.twinInSync (le 8 s.tick.count.toNat) ((appliedNoted b s).setTwin
      { (appliedNoted b s).twin with pair := .inSync, endSeq := none, walk := [] }) := by
    have hready : ¬(!s.twin.ready) = true := by rw [hr]; decide
    refine (if_neg h9).trans ((if_neg (by rw [h0]; decide)).trans ((if_neg fun q => h6 q.1).trans
      ((if_neg fun q => hready q.2.1).trans ?_)))
    split
    next e0 f0 _ hef =>
      cases (hend.symm.trans hef : some (e, f) = some (e0, f0))
      exact if_pos ⟨hz, hreach⟩
    next hno => exact absurd hend (hno e f hp)
  rw [heq]
  exact ⟨rfl, raise_raised _ _ rfl⟩

end

theorem beatAtActive_beat (b : List Byte) (s : State) : (beatAtActive b s).twin.beat = s.twin.beat := by
  by_cases h9 : rd b 9 1 = 1
  · have e : beatAtActive b s = if ownsFlows (appliedNoted b s) then appliedNoted b s else handedOver (appliedNoted b s) :=
      if_pos h9
    rw [e]
    split
    · rfl
    · exact handedOver_beat _
  · cases h0 : bitOf (rd b 0xB 1) 0 with
    | true =>
      rw [beatAtActive_safe h9 h0]
      exact goAlone_beat ..
    | false => exact (beatAtActive_notes h9 h0).2.2

/-- A standby schedules its takeover when the active tells that it is in SAFE (R549, R550). -/
theorem beatAtStandby_takeover (hm : s.sys.mode = .standby) (ht : s.twin.takeover = none) (h0 : bitOf (rd b 0xB 1) 0 = true) :
    (beatAtStandby b prev s).twin.takeover = some 1 := by
  unfold beatAtStandby
  extract_lets fl pair due src s1
  have h1 : s1.twin.takeover = some 1 := by
    show (if s.sys.mode = .standby ∧ s.twin.takeover.isNone = true then due else s.twin.takeover) = _
    rw [if_pos ⟨hm, by rw [ht]; rfl⟩]
    exact if_pos h0
  split
  · exact h1
  · split
    · exact h1
    · split <;> exact h1

theorem beatAtStandby_joins (hp : s.twin.pair = .rejoining) (h5 : rd b 0xA 1 = 5) :
    (beatAtStandby b prev s).twin.pair = .inSync ∧
      Raised [(Ev.twinInSync, le 8 s.tick.count.toNat)] s (beatAtStandby b prev s) := by
  unfold beatAtStandby
  extract_lets fl pair due s1
  rw [if_neg (fun q => by have h4 : rd b 0xA 1 = 4 := q.1; omega), if_pos ⟨h5, hp⟩]
  exact ⟨rfl, raise_raised _ _ rfl⟩

theorem beatTaken_beat (b : List Byte) (prev : Nat) (s : State) : (beatTaken b prev s).twin.beat = s.twin.beat := by
  unfold beatTaken
  split
  · split
    · obtain ⟨-, -, -, -, -, hb, -⟩ := formPair_spec s
      exact hb
    · rfl
  · split
    · rfl
    · split
      · exact beatAtStandby_beat ..
      · exact beatAtActive_beat ..

theorem beatTaken_unpaired (hf : s.twin.pair ≠ .forming) (hp : paired s = false) : beatTaken b prev s = s :=
  (if_neg hf).trans (if_pos (by rw [hp]; rfl))

theorem beatTaken_forms (hf : s.twin.pair = .forming) (hr : s.twin.role = 1) (h8 : rd b 8 1 = 5) (h9 : rd b 9 1 = 2) :
    beatTaken b prev s = formPair s := (if_pos hf).trans (if_pos ⟨hr, h8, h9⟩)

theorem paired_not_forming (hp : paired s = true) : s.twin.pair ≠ .forming := fun e => by rw [paired, e] at hp; cases hp

theorem beatTaken_standby (hp : paired s = true) (hr : s.twin.role = 2) : beatTaken b prev s = beatAtStandby b prev s :=
  (if_neg (paired_not_forming hp)).trans ((if_neg (by rw [hp]; decide)).trans (if_pos hr))

theorem beatTaken_active (hp : paired s = true) (hr : s.twin.role = 1) : beatTaken b prev s = beatAtActive b s :=
  (if_neg (paired_not_forming hp)).trans ((if_neg (by rw [hp]; decide)).trans (if_neg (by omega)))

end

/-! ### The heartbeat missing -/

section
variable {s : State} {missed : Nat} {watch : Bool} (hmissed : missed = if s.twin.beatSeen then 0 else s.twin.missed + 1)
  (hwatch : watch = (paired s || (s.twin.role == 2 && s.sys.mode == .standby && s.twin.pair == .alone)))
include hmissed hwatch

theorem hbMiss_idle (h : watch = false ∨ missed < regField s 23 0 0 11 8 ∨ s.twin.takeover ≠ none) : hbMiss s = s := by
  subst hmissed hwatch
  refine if_pos ?_
  exact h.imp (fun h => by rw [h]; rfl) (fun h => h.imp_right Option.isSome_iff_ne_none.mpr)

/-- The heartbeat has been missed for long enough: the fault is recorded, a standby takes over, another is alone (R549). -/
theorem hbMiss_missed (hw : watch = true) (hm : regField s 23 0 0 11 8 ≤ missed) (ht : s.twin.takeover = none) : hbMiss s =
    if s.twin.role = 2 ∧ s.sys.mode = .standby then (recordFault 0x16 23 0 0 s).setTwin { s.twin with takeover := some 0 }
    else goAlone 0 (recordFault 0x16 23 0 0 s) := by
  subst hmissed hwatch
  have e := (recordFault_same 0x16 23 0 0 s).twin (by decide)
  refine (if_neg ?_).trans (by dsimp only; rw [e])
  rw [hw, ht]
  simp [hm]

end

/-- Settles O58: each half-link command is the equation of its case, a HELLO is resolved by its mismatch and its roles, and a
heartbeat by the role and the pair's state.  The CONTROL types are log 51's, the resolution and the missed heartbeat log 52's, the walk
field log 53's. -/
theorem halfLinksCarryFramesAndPairsForm : Obligations.HalfLinksCarryFramesAndPairsForm := by
  unfold Obligations.HalfLinksCarryFramesAndPairsForm
  intro s
  refine ⟨?_, fun missed watch hmissed hwatch => ⟨fun h => congrArg Host.Outcome.next (hbMiss_idle hmissed hwatch h),
    fun hw hm ht hmode => ?_⟩⟩
  · rintro h _ rfl others next nak
    refine ⟨fun hx => congrArg Host.Outcome.next (twinLaneLock_other hx), fun hx => ?_,
      fun o => ⟨fun hx => congrArg Host.Outcome.next (twinLinkUp_other hx), fun hx ho => ⟨_, rfl, twinLinkUp_aligned hx ho⟩⟩,
      fun hx => congrArg Host.Outcome.next (twinLinkDown_disabled_other hx), fun hx he => ?_,
      fun c hc => ⟨fun h1 h2 => congrArg Host.Outcome.next (twinLinkDown_other hc h1 h2), fun hx => ?_⟩,
      fun hx b => congrArg Host.Outcome.next (twinFrameRx_other hx b), fun hx b hb => ?_, ?_,
      fun hx => congrArg Host.Outcome.next (twinResendTimeout_other hx), fun f rest hf hx =>
        ⟨fun ht => congrArg Host.Outcome.next (twinResendTimeout_early hf ht), fun ht hr => ?_, fun ht hr => ?_⟩,
      fun e => congrArg Host.Outcome.next (twinHelloRx_none e), fun b u e hl => ?_,
      fun e => congrArg Host.Outcome.next (twinHeartbeatRx_none e), fun b u e hl => ?_⟩
    · exact ⟨_, rfl, twinLaneLock_locks hx⟩
    · obtain ⟨c, hc⟩ := halfLost_self h 3 true s
      refine ⟨_, congrArg Host.Outcome.next (twinLinkDown_disabled hx he), by rw [hc]; rfl, fun hu => ?_⟩
      exact (halfLost_told hu 3 true).1
    · obtain ⟨k, hk⟩ := halfLost_self h c false s
      refine ⟨_, congrArg Host.Outcome.next (twinLinkDown_lost hc hx), by rw [hk]; rfl, by rw [hk]; rfl, fun hu => ?_,
        halfLost_last h⟩
      exact halfLost_told hu c false
    · obtain ⟨honly, hne, hself⟩ := sendNak_spec h (bump32 23 (1 + h) 0x10 1 s)
      refine ⟨_, congrArg Host.Outcome.next (twinFrameRx_broken hx hb), hne, ?_, hself⟩
      obtain ⟨m, hm⟩ := honly
      rw [hm]
      exact (counter_bump ..).trans (if_pos rfl)
    · rintro b _ _ _ hx hb rfl rfl rfl
      refine ⟨fun hk => congrArg Host.Outcome.next (twinFrameRx_unknown hx hb hk), fun h1 h6 hseq => ?_, fun h1 h6 hseq => ?_,
        fun hk hp hw => ?_⟩
      · obtain ⟨hexp, hrx, hcross, -⟩ := ackFrames_keeps h (BitVec.ofNat 16 (rd b 6 2)) s
        refine ⟨_, congrArg Host.Outcome.next (twinFrameRx_inOrder hx hb h1 h6 hseq), ?_⟩
        generalize hv : setHalf _ _ (ackFrames h _ s) = v
        have hvself : halfAt v h = { halfAt (ackFrames h (BitVec.ofNat 16 (rd b 6 2)) s) h with
            expect := (halfAt (ackFrames h (BitVec.ofNat 16 (rd b 6 2)) s) h).expect + 1, nakOut := false } := by
          rw [← hv, halfAt_setHalf_self]
        have hvne (k : Nat) (hk : k ≠ h.val) : halfAt v k = halfAt s k := by
          rw [← hv]
          exact (halfAt_setHalf_ne hk ..).trans (ackFrames_ne hk ..)
        obtain ⟨hne, hself⟩ := acceptItems h (rd b 0 1)
          (splitItems (rd b 0 1) ((b.drop 8).take (b.length - 12)).length ((b.drop 8).take (b.length - 12))) v
        rw [hvself] at hself
        rw [hself]
        refine ⟨?_, ?_, fun k hk => (hne k hk).trans (hvne k hk), fun hk => ?_, fun hk => ?_⟩
        · rw [← hexp]
          split <;> rfl
        · split <;> rfl
        · rw [if_neg hk, ← hrx, ← hcross]
          exact ⟨rfl, rfl⟩
        · rw [if_pos hk, ← hrx, ← hcross, hk]
          exact ⟨rfl, rfl⟩
      · obtain ⟨hexp, hrx, hcross, hnak⟩ := ackFrames_keeps h (BitVec.ofNat 16 (rd b 6 2)) s
        refine ⟨_, congrArg Host.Outcome.next (twinFrameRx_outOfOrder hx hb h1 h6 hseq), ?_⟩
        cases hbefore : seqBefore (BitVec.ofNat 16 (rd b 4 2)) (halfAt s h).expect with
        | true =>
          rw [if_pos rfl]
          exact ⟨hexp, hrx, hcross, fun _ => hnak, fun q => (by cases q)⟩
        | false =>
          rw [if_neg (by decide)]
          obtain ⟨-, -, hself⟩ := sendNak_spec h (ackFrames h (BitVec.ofNat 16 (rd b 6 2)) s)
          rw [hself, ← hexp, ← hrx, ← hcross]
          split
          next hn => exact ⟨rfl, rfl, rfl, fun q => (by cases q), fun _ => hn⟩
          next => exact ⟨rfl, rfl, rfl, fun q => (by cases q), fun _ => rfl⟩
      · refine ⟨_, congrArg Host.Outcome.next ((twinFrameRx_control hx hb hk).trans (controlRx_ack hp _)), ?_⟩
        have h1 := ackFrames_idle hw (BitVec.ofNat 16 (rd b 6 2))
        have hw1 : (halfAt (ackFrames h (BitVec.ofNat 16 (rd b 6 2)) s) h).waiting = [] := by rw [h1]; exact hw
        rw [ackFrames_idle hw1, h1]
        exact ⟨rfl, rfl⟩
    · refine ⟨_, congrArg Host.Outcome.next (twinResendTimeout_resends hf hx ht hr), ?_⟩
      unfold resendLink
      dsimp only
      rw [halfAt_setHalf_self, halfAt_setHalf_self]
      exact ⟨rfl, fun k hk => (halfAt_setHalf_ne hk ..).trans (halfAt_setHalf_ne hk ..), rfl, rfl⟩
    · obtain ⟨k, hk⟩ := halfLost_self h 2 false s
      exact ⟨_, congrArg Host.Outcome.next (twinResendTimeout_gives_up hf hx ht hr), by rw [hk]; rfl, by rw [hk]; rfl⟩
    · have honly := takeItem_only e
      have hkept : (twinHelloRx h s).twin.hello = b ∧ (twinHelloRx h s).twin.peerSerial = BitVec.ofNat 64 (rd b 8 8) := by
        by_cases hp : u.twin.pair = .alone ∨ paired u = true
        · rw [twinHelloRx_keeps e hl hp]
          exact ⟨rfl, rfl⟩
        · obtain ⟨ha, hp⟩ := not_or.mp hp
          rw [twinHelloRx_resolves e hl ha (Bool.not_eq_true _ ▸ hp)]
          exact resolvePair_hello b (helloed b u)
      obtain ⟨m, rfl⟩ := honly
      refine ⟨_, rfl, hkept.1, hkept.2, fun hp => ?_, fun ha hp hm => ?_, fun r ha hp hm hd => ?_, fun ha hp hm hd => ?_⟩
      · rw [twinHelloRx_keeps e hl hp]
        exact ⟨rfl, rfl⟩
      · rw [twinHelloRx_resolves e hl ha hp]
        obtain ⟨hpair, hmis, -⟩ := resolvePair_mismatch (b := b)
          (s := helloed b (withHalves m s)) hm
        exact ⟨hpair, hmis⟩
      · rw [twinHelloRx_resolves e hl ha hp, resolvePair_role (s := helloed b (withHalves m s)) hm hd]
        split
        next hc =>
          obtain ⟨hpair, hrole, hmis, -, -, -, hraised⟩ := formPair_spec (roled r (helloed b (withHalves m s)))
          rw [show (roled r (helloed b (withHalves m s))).twin.peerSerial.toNat = rd b 8 8 from
            rd8_toNat b 8] at hraised
          exact ⟨hmis, hrole, fun _ => ⟨hpair, hraised⟩, fun q => absurd hc q⟩
        next hc => exact ⟨rfl, rfl, fun q => absurd q hc, fun _ => rfl⟩
      · rw [twinHelloRx_resolves e hl ha hp, resolvePair_split (s := helloed b (withHalves m s)) hm hd]
        obtain ⟨-, -, hstays, hyields⟩ := splitPair_spec b ((helloed b (withHalves m s)).setTwin
          { (helloed b (withHalves m s)).twin with mismatch := 0, version := 1 })
        exact ⟨hstays, hyields⟩
    · obtain ⟨m, rfl⟩ := takeItem_only e
      refine ⟨_, congrArg Host.Outcome.next (twinHeartbeatRx_takes e hl), beatTaken_beat .., fun hf hp => ?_, fun hf hr h8 h9 => ?_,
        fun hp hr h9 h0 => ?_, fun hp hr h9 h0 => ?_, fun hp hr hm ht h0 => ?_, fun hp hr h5 => ?_⟩
      · rw [beatTaken_unpaired (by exact hf) (by exact hp)]
        exact ⟨rfl, rfl, rfl, rfl⟩
      · rw [beatTaken_forms (by exact hf) (by exact hr) h8 h9]
        exact (formPair_spec _).1
      · rw [beatTaken_active (by exact hp) (by exact hr), beatAtActive_safe h9 h0]
        exact ⟨(goAlone_spec ..).1, goAlone_raised (s := appliedNoted b (beaten b (withHalves m s))) 1 hr hp⟩
      · rw [beatTaken_active (by exact hp) (by exact hr)]
        obtain ⟨happ0, happ1, -⟩ := beatAtActive_notes (s := beaten b (withHalves m s)) h9 h0
        exact ⟨happ0, happ1, fun hs h6 => beatAtActive_loses h9 h0 hs h6,
          fun hs hready h4 h3 hz => beatAtActive_walks h9 h0 hs hready h4 h3 hz,
          fun e f hs hready h6 hend hz hreach => beatAtActive_joins (s := beaten b (withHalves m s))
            h9 h0 hs hready h6 hend hz hreach⟩
      · rw [beatTaken_standby (by exact hp) (by exact hr)]
        exact beatAtStandby_takeover hm ht h0
      · have hpaired : paired s = true := by rw [paired, hp]; rfl
        rw [beatTaken_standby (by exact hpaired) (by exact hr)]
        exact beatAtStandby_joins (s := beaten b (withHalves m s)) hp h5
  · have hrec := recordFault_recorded (c := 0x16) 23 0 0 hmode (by decide)
    refine ⟨_, congrArg Host.Outcome.next (hbMiss_missed hmissed hwatch hw hm ht), ?_, fun hr hs => ?_, fun hr => ?_⟩
    · split
      · exact hrec.of_after rfl rfl rfl rfl rfl
      · have hz := (goAlone_same 0 (recordFault 0x16 23 0 0 s)).zal (by decide)
        exact hrec.of_after (by rw [hz]) (by rw [hz]) (by rw [hz]) (by rw [hz]) (by rw [hz])
    · rw [if_pos ⟨hr, hs⟩]
      exact ⟨rfl, rfl⟩
    · rw [if_neg fun q => hr q.1]
      exact (goAlone_spec ..).1

end Sys2Proof.Machine
end

section
/-! Proofs.  The statement on replication, rejoin and hand-over (R543, R544): a RECORD item that is cut short. -/

namespace Sys2Proof.Machine

/-- A RECORD item of slice 0 that ends after 19 bytes, with the type of a wide key at its byte 8 (R543). -/
def cutRecord : List Byte := [1, 0, 0, 0] ++ le 4 0 ++ [0x11] ++ List.replicate 10 0

/-- A standby in STANDBY whose half-link 0 holds the item; its slices have 2^20 buckets, and slice 0 pins nothing. -/
def cutStandby : State := { State.reset with
  sys := { State.reset.sys with mode := .standby }
  prm := { State.reset.prm with regs := [(paddr 13 16 0x14, 1), (paddr 13 0 6, 0)] }
  twin := { State.reset.twin with role := 2, half := [(0, { rx := [(3, cutRecord)] })] } }

/-- The record that the item carries: 41 bytes, which end before the control word of a wide record at byte 48 (R210). -/
def cutNew : List Byte := deltaRecord cutStandby cutRecord

/-- The record as the standby would store it: the control fields are appended at byte 41, where byte 48 reads their 6. -/
def cutStored : List Byte := withTag (putCtlField 26 25 3 (putCtlField 3 3 0 cutNew))

/-- The item's record is not pinned, and the one to be stored reads as pinned. -/
theorem cutStored_pinned : cutNew.length = 41 ∧ isPinned cutNew = false ∧ isPinned cutStored = true := by decide +kernel

/-- Everything that the statement asks of the state and of the item holds. -/
theorem cutStandby_meets : applies cutStandby = true ∧ 1 ≤ ownRoom cutStandby 0 2 ∧
    locate cutStandby 0 (digestOf cutStandby (keyOf cutNew)) (some (keyOf cutNew)) = .miss ∧
    anyDigest cutStandby 0 (digestOf cutStandby (keyOf cutNew)) = none ∧ isBound cutNew = false ∧ actKind cutNew ≤ 1 ∧
    stackRoom cutStandby 0 (digestOf cutStandby (keyOf cutNew)) (entrySlots cutStored) = true := by decide +kernel

/-- The pin is refused, so the standby stores nothing. -/
theorem cutStandby_stores_nothing : (slAt (twinDeltaApply (0 : Fin 2) cutStandby) 0).stack = [] ∧
    (twinDeltaApply (0 : Fin 2) cutStandby).twin.pair = .outOfSync := by decide +kernel

theorem cutStandby_readable : Readable (slAt cutStandby 0) :=
  ⟨rfl, fun v h => absurd h (List.not_mem_nil (a := v)), fun e h => absurd h (List.not_mem_nil (a := e))⟩

theorem exec_twinDeltaApply (h : Fin 2) (s : State) : exec (.twinDeltaApply h) s = .next (twinDeltaApply h s) := rfl

/-- Refutes O59, none of whose logged choices (logs 31, 51, 53, 58) is in question: an unpinned RECORD item that is cut short makes a record that reads as
pinned, and where the slice pins nothing TWIN_DELTA_APPLY finds no room for it, although the Stack has some. -/
theorem not_twinsReplicateRejoinAndHandOver : ¬ Obligations.TwinsReplicateRejoinAndHandOver := by
  unfold Obligations.TwinsReplicateRejoinAndHandOver
  intro h
  obtain ⟨happly, hown, hmiss, hany, hbound, hact, hroom⟩ := cutStandby_meets
  obtain ⟨hhalf, -⟩ := h cutStandby rfl
  obtain ⟨-, -, -, -, -, hdelta, -⟩ := hhalf 0
  have htake : takeItem 0 3 [3, 4, 5] cutStandby = some (cutRecord, setHalf 0 {} cutStandby) := rfl
  obtain ⟨-, hnew⟩ := hdelta cutRecord _ 0 happly htake rfl hown
  obtain ⟨t, k, ht, -, hk⟩ := hnew cutNew _ rfl rfl rfl rfl hmiss hany cutStored_pinned.2.1 hbound hact
    cutStandby_readable hroom
  rw [exec_twinDeltaApply] at ht
  rw [← Host.Outcome.next.inj ht, cutStandby_stores_nothing.1] at hk
  cases hk

end Sys2Proof.Machine
end

section
/-! Proofs.  Reading parameter words: what a read returns, latches, clears and leaves (R10, R495, R496, R579). -/

namespace Sys2Proof.Machine

/-! ### Bytes -/

theorem rd_take_drop (p : List Byte) {k m o n : Nat} (h : o + n ≤ m) : rd ((p.drop k).take m) o n = rd p (k + o) n := by
  unfold rd
  rw [List.drop_take, List.take_take, List.drop_drop, Nat.min_eq_left (by omega)]

theorem rd_append_left (a b : List Byte) {o n : Nat} (h : o + n ≤ a.length) : rd (a ++ b) o n = rd a o n := by
  unfold rd
  rw [List.drop_append_of_le_length (by omega), List.take_append_of_le_length (by simp; omega)]

theorem rd_append_right (a b : List Byte) (o n : Nat) : rd (a ++ b) (a.length + o) n = rd b o n := by
  unfold rd
  rw [List.drop_append, List.drop_eq_nil_of_le (by omega), List.nil_append, Nat.add_sub_cancel_left]

theorem rd_le_zero : rd (le 4 0) 0 4 = 0 := by decide

/-! ### The audit log -/

/-- One access of a host to a word stands last in the audit log, and nothing else of the protocol has changed (R495, R498). -/
def AuditsOne (op : Nat) (st : Half) (s t : State) : Prop :=
  t.toune.events = s.toune.events ∧ t.toune.auditNext = s.toune.auditNext + 1 ∧
    ∃ e, t.toune.audit.getLast? = some e ∧ e.index = s.toune.auditNext ∧ e.opcode = op ∧ e.status = st

theorem auditAccess_auditsOne {op i c : Nat} {item : List Byte} {st : Half} {s u : State} (h : u.toune = s.toune) :
    AuditsOne op st s (auditAccess op i c item st u) := by
  unfold auditAccess audit
  dsimp only
  refine ⟨by rw [← h]; rfl, by rw [← h]; rfl, ?_⟩
  simp only [State.setToune, List.getLast?_drop, List.getLast?_append]
  rw [if_neg (by simp)]
  exact ⟨_, rfl, congrArg Toune.auditNext h, rfl, rfl⟩

/-! ### Latches -/

/-- The state with other latches. -/
def withLatches (l : Table Word) (s : State) : State := s.setPrm { s.prm with latches := l }

/-- A latched value is no part of what a word shows. -/
theorem presentValue_withLatches (l : Table Word) (s : State) (c a : Nat) (d : ParamDef) :
    presentValue (withLatches l s) c a d = presentValue s c a d := rfl

theorem latchKey_inj {i a b : Nat} (h : latchKey i a = latchKey i b) : a = b := Nat.add_left_cancel h

/-- Latch the present value of one word, if the address names a word. -/
def latchOne (i c : Nat) (s : State) (b : Nat) : State :=
  match paramDef b with
  | some d => latch i b (presentValue s c b d) s
  | none => s

theorem latchAll_eq_foldl (i c a : Nat) (s : State) : latchAll i c a s = (latchedBy a).foldl (latchOne i c) s := rfl

/-- Latching a list of words changes latches alone, and each word of the list is latched with its present value (R579). -/
theorem foldl_latchOne (i c : Nat) (s : State) (l : List Nat) (m : Table Word) :
    ∃ m', l.foldl (latchOne i c) (withLatches m s) = withLatches m' s ∧ ∀ b d, paramDef b = some d →
      (b ∈ l ∨ tfind m (latchKey i b) = some (BitVec.ofNat 32 (presentValue s c b d))) →
      tfind m' (latchKey i b) = some (BitVec.ofNat 32 (presentValue s c b d)) := by
  induction l generalizing m with
  | nil => exact ⟨m, rfl, fun b d _ h => h.resolve_left List.not_mem_nil⟩
  | cons x l ih =>
    rw [List.foldl_cons]
    cases hx : paramDef x with
    | none =>
      have e : latchOne i c (withLatches m s) x = withLatches m s := by unfold latchOne; rw [hx]
      obtain ⟨m', hm, hl⟩ := ih m
      rw [e]
      refine ⟨m', hm, fun b d hd h => hl b d hd (h.imp_left fun hb => ?_)⟩
      exact (List.mem_cons.mp hb).resolve_left fun q => by rw [q, hx] at hd; cases hd
    | some dx =>
      have e : latchOne i c (withLatches m s) x =
          withLatches (tput m (latchKey i x) (BitVec.ofNat 32 (presentValue s c x dx))) s := by
        unfold latchOne
        rw [hx, ← presentValue_withLatches m]
        rfl
      obtain ⟨m', hm, hl⟩ := ih (tput m (latchKey i x) (BitVec.ofNat 32 (presentValue s c x dx)))
      rw [e]
      refine ⟨m', hm, fun b d hd h => hl b d hd ?_⟩
      by_cases hb : b = x
      · subst hb
        cases hx.symm.trans hd
        exact .inr ((tfind_tput ..).trans (if_pos rfl))
      · refine h.imp (fun q => (List.mem_cons.mp q).resolve_left hb) fun q => ?_
        rw [tfind_tput, if_neg fun k => hb (latchKey_inj k)]
        exact q

/-- A read latches the present values of the words that belong to the one read, and changes nothing else (R579). -/
theorem latchAll_spec (i c a : Nat) (s : State) : ∃ m, latchAll i c a s = withLatches m s ∧
    ∀ b d, b ∈ latchedBy a → paramDef b = some d →
      tfind m (latchKey i b) = some (BitVec.ofNat 32 (presentValue s c b d)) := by
  obtain ⟨m, hm, hl⟩ := foldl_latchOne i c s (latchedBy a) s.prm.latches
  exact ⟨m, hm, fun b d hb hd => hl b d hd (.inl hb)⟩

/-! ### One word -/

section
variable {s : State} {i c a : Nat}

theorem readWord_undefined (h : paramDef a = none) : readWord i c a s = (s, St.eRange, 0) := by
  unfold readWord
  rw [h]

/-- A read of a word of which a value is latched returns it and uses it up (R579). -/
theorem readWord_latched {d : ParamDef} {v : Word} (hd : paramDef a = some d) (h6 : a ≠ 6)
    (hv : tfind s.prm.latches (latchKey i a) = some v) : readWord i c a s = (takeLatch i a s, St.ok, v.toNat) := by
  unfold readWord
  rw [hd]
  dsimp only
  rw [if_neg h6, hv]

/-- The state after a read of a word that clears it where it is a counter of a present unit (R10, R577). -/
def counterRead (a : Nat) (d : ParamDef) (s : State) (t : State) : State :=
  if d.rc ≠ 0 && !isAbsent s (addrClass a) (addrInst a) then clearCounter a t else t

/-- A read of a word without a latched value returns the present one (R10, R576). -/
theorem readWord_fresh {d : ParamDef} (hd : paramDef a = some d) (h6 : a ≠ 6)
    (hv : tfind s.prm.latches (latchKey i a) = none) : readWord i c a s =
      (if openWord a then drawn (counterRead a d s (latchAll i c a s)) else counterRead a d s (latchAll i c a s), St.ok,
        presentValue s c a d) := by
  unfold readWord
  rw [hd]
  dsimp only
  rw [if_neg h6, hv]
  rfl

/-- A read of a word that latches nothing, counts nothing and is not left open changes nothing. -/
theorem readWord_plain {d : ParamDef} (hd : paramDef a = some d) (h6 : a ≠ 6) (hl : latchedBy a = []) (hrc : d.rc = 0)
    (ho : openWord a = false) (hv : tfind s.prm.latches (latchKey i a) = none) :
    readWord i c a s = (s, St.ok, presentValue s c a d) := by
  rw [readWord_fresh hd h6 hv, if_neg (by simp [ho])]
  unfold counterRead
  rw [if_neg (by simp [hrc]), latchAll_eq_foldl, hl]
  rfl

/-- What a word shows that the host writes and nothing else: its value in force, or the reset value of an absent unit (R577). -/
theorem presentValue_setting {d : ParamDef} (hh : d.hi = false) (hrc : d.rc = 0) (hro : d.ro = 0) (hw : d.w1c = 0) :
    presentValue s c a d = if isAbsent s (addrClass a) (addrInst a) && !isStatusWord a then d.reset
      else Nat.land (tgetD paramReset s.prm.regs a).toNat (Nat.lor d.rw d.rwl) := by
  have h0 : ∀ n : Nat, Nat.lor n 0 = n := Nat.or_zero
  have h1 : ∀ n : Nat, Nat.land n 0 = 0 := Nat.and_zero
  unfold presentValue ParamDef.writable
  rw [hh, hrc, hro, hw, h0, h0, h1, h0]
  rfl

theorem isRc_def {d : ParamDef} (hd : paramDef a = some d) : isRc a = (d.rc != 0) := by unfold isRc; rw [hd]

end

/-! ### PARAM_READ -/

section
variable {r : Req} {s : State}

theorem paramItems_one {size : Nat} {p : List Byte} (hl : p.length = 8 + size) (hn : rd p 0 2 = 1) (hall : rd p 2 1 ≤ 1)
    (hz : rd p 3 5 = 0) : paramItems size p = some (decide (rd p 2 1 = 1), [(p.drop 8).take size]) := by
  unfold paramItems
  dsimp only
  rw [if_neg (by simp [hl, hn, zeros, hz]; omega), hn]
  simp [List.range_succ]

/-- PARAM_READ of one address that names a word. -/
theorem bodyParamRead_one {v : Nat} {u : State} (hl : r.payload.length = 12) (hn : rd r.payload 0 2 = 1)
    (hall : rd r.payload 2 1 ≤ 1) (hz : rd r.payload 3 5 = 0) (hd : (paramDef (rd r.payload 8 4)).isSome = true)
    (h : readWord (sessionIdx r.session) r.cycle (rd r.payload 8 4) s = (u, St.ok, v)) :
    bodyParamRead r s = (u, { status := St.ok, payload := itemResult v St.ok, audited := isRc (rd r.payload 8 4) }) := by
  have ha : rd ((r.payload.drop 8).take 4) 0 4 = rd r.payload 8 4 := rd_take_drop _ (by decide)
  unfold bodyParamRead
  rw [paramItems_one hl hn hall hz]
  simp only [List.map_cons, List.map_nil, ha, hd, if_true, List.foldl_cons, List.foldl_nil, h, List.any_cons, List.any_nil,
    Bool.or_false, List.nil_append]
  exact if_neg fun q => q.2 rfl

/-- PARAM_READ of one address that names no word is refused with E_RANGE (R495). -/
theorem bodyParamRead_undefined (hl : r.payload.length = 12) (hn : rd r.payload 0 2 = 1) (hall : rd r.payload 2 1 ≤ 1)
    (hz : rd r.payload 3 5 = 0) (hd : paramDef (rd r.payload 8 4) = none) :
    bodyParamRead r s =
      (s, { status := St.eRange, payload := itemResult 0 St.eRange, audited := isRc (rd r.payload 8 4) }) := by
  have ha : rd ((r.payload.drop 8).take 4) 0 4 = rd r.payload 8 4 := rd_take_drop _ (by decide)
  unfold bodyParamRead
  rw [paramItems_one hl hn hall hz]
  simp only [List.map_cons, List.map_nil, ha, hd, Option.isSome_none, Bool.false_eq_true, if_false, List.foldl_cons,
    List.foldl_nil, readWord_undefined hd, List.any_cons, List.any_nil, Bool.or_false, List.nil_append, List.flatten_cons,
    List.flatten_nil, List.append_nil]
  exact ite_self _

end

/-! ### PARAM_READ_BLOCK -/

/-- The words of a block are read in turn. -/
def readNext (i c a : Nat) (acc : State × List Byte) (k : Nat) : State × List Byte :=
  ((readWord i c (a + k) acc.1).1, acc.2 ++ le 4 (readWord i c (a + k) acc.1).2.2)

/-- A block of words as it is read: the state, and four bytes for each word. -/
def blockRead (i c a n : Nat) (s : State) : State × List Byte := (List.range n).foldl (readNext i c a) (s, [])

theorem blockRead_succ (i c a n : Nat) (s : State) : blockRead i c a (n + 1) s = readNext i c a (blockRead i c a n s) n := by
  unfold blockRead
  rw [List.range_succ, List.foldl_append]
  rfl

/-- Reading a block leaves the settings and draws free values at most; its bytes are four for each word, zero for an address that
names none (R496). -/
theorem blockRead_spec (i c a n : Nat) (s : State) : Same 34 s (blockRead i c a n s).1 ∧
    (blockRead i c a n s).2.length = 4 * n ∧
    ∀ k, k < n → paramDef (a + k) = none → rd (blockRead i c a n s).2 (4 * k) 4 = 0 := by
  induction n with
  | zero => exact ⟨.rfl' _, rfl, fun k hk => absurd hk (Nat.not_lt_zero k)⟩
  | succ n ih =>
    obtain ⟨hs, hl, hz⟩ := ih
    rw [blockRead_succ]
    refine ⟨hs.trans (readWord_same ..), by simp [readNext, hl, le_length]; omega, fun k hk hd => ?_⟩
    unfold readNext
    dsimp only
    rcases Nat.lt_succ_iff_lt_or_eq.mp hk with h | h
    · rw [rd_append_left _ _ (by omega)]
      exact hz k h hd
    · subst h
      rw [readWord_undefined hd, ← hl]
      exact (rd_append_right _ _ 0 4).trans rd_le_zero

section
variable {r : Req} {s : State} (hl : r.payload.length = 8) (hz : rd r.payload 6 2 = 0)
include hl hz

/-- PARAM_READ_BLOCK of no words, of too many, or beyond an instance is refused with E_RANGE (R496). -/
theorem bodyParamReadBlock_range {a n : Nat} (ha : a = rd r.payload 0 4) (hn : n = rd r.payload 4 2)
    (h : n = 0 ∨ 1000 < n ∨ 0x4000 < addrWord a + n ∨ instanceExists (addrClass a) (addrInst a) = false) :
    bodyParamReadBlock r s = (s, .no St.eRange) := by
  subst ha hn
  unfold bodyParamReadBlock
  dsimp only
  rw [if_neg (by simp [hl, zeros, hz]), if_pos (by simpa using h)]

/-- PARAM_READ_BLOCK of words of one instance answers them behind four bytes of zero (R496). -/
theorem bodyParamReadBlock_reads {a n : Nat} (ha : a = rd r.payload 0 4) (hn : n = rd r.payload 4 2) (h1 : 1 ≤ n)
    (h2 : n ≤ 1000) (h3 : addrWord a + n ≤ 0x4000) (h4 : instanceExists (addrClass a) (addrInst a) = true) :
    bodyParamReadBlock r s = ((blockRead (sessionIdx r.session) r.cycle a n s).1,
      { payload := le 4 0 ++ (blockRead (sessionIdx r.session) r.cycle a n s).2,
        audited := (List.range n).any (fun k => isRc (a + k)) }) := by
  subst ha hn
  unfold bodyParamReadBlock
  dsimp only
  rw [if_neg (by simp [hl, zeros, hz]), if_neg (by simp only [h4]; simp; omega)]
  rfl

end

/-! ### Reads of single words -/

section
variable {s : State} {i c a : Nat}

theorem wordRead_reset (h : s.sys.mode = .reset) : wordRead i c a s = s := if_pos h

/-- A read of one word: what the read does, and an audit record where it clears a counter (R10, R495). -/
theorem wordRead_eq {u : State} {st : Half} {v : Nat} (hm : s.sys.mode ≠ .reset) (h : readWord i c a s = (u, st, v)) :
    wordRead i c a s = if isRc a then auditAccess Op.paramRead i c (le 4 a) st u else u := by
  unfold wordRead
  rw [if_neg hm, h]

/-- The settings and the latches and counters stand as the read left them, audited or not. -/
theorem wordRead_prm {u : State} {st : Half} {v : Nat} (hm : s.sys.mode ≠ .reset) (h : readWord i c a s = (u, st, v)) :
    (wordRead i c a s).prm = u.prm := by
  rw [wordRead_eq hm h]
  split <;> rfl

theorem wordRead_audits {u : State} {v : Nat} (hm : s.sys.mode ≠ .reset) (h : readWord i c a s = (u, St.ok, v))
    (hr : isRc a = true) : AuditsOne Op.paramRead St.ok s (wordRead i c a s) := by
  rw [wordRead_eq hm h, if_pos hr]
  have hu : u = (readWord i c a s).1 := by rw [h]
  exact auditAccess_auditsOne (hu ▸ (readWord_same i c a s).toune rfl)

/-- A read that uses up a latched value (R579). -/
theorem wordRead_latched {v : Word} (hm : s.sys.mode ≠ .reset) (h6 : a ≠ 6) (hd : paramDef a ≠ none)
    (hv : tfind s.prm.latches (latchKey i a) = some v) :
    tfind (wordRead i c a s).prm.latches (latchKey i a) = none ∧ (wordRead i c a s).prm.counts = s.prm.counts ∧
      (isRc a = true → AuditsOne Op.paramRead St.ok s (wordRead i c a s)) ∧
      (isRc a = false → (wordRead i c a s).toune = s.toune) ∧
      ∀ k, k ≠ latchKey i a → tfind (wordRead i c a s).prm.latches k = tfind s.prm.latches k := by
  obtain ⟨d, hd⟩ := Option.ne_none_iff_exists'.mp hd
  have h := readWord_latched (c := c) hd h6 hv
  have hp := wordRead_prm hm h
  rw [hp]
  refine ⟨(tfind_terase ..).trans (if_pos rfl), rfl, wordRead_audits hm h, fun hr => ?_,
    fun k hk => (tfind_terase ..).trans (if_neg hk)⟩
  rw [wordRead_eq hm h, if_neg (by simp [hr])]
  rfl

theorem counterRead_latches (d : ParamDef) (s t : State) : (counterRead a d s t).prm.latches = t.prm.latches := by
  unfold counterRead
  split <;> rfl

theorem counterRead_regs (d : ParamDef) (s t : State) : (counterRead a d s t).prm.regs = t.prm.regs := by
  unfold counterRead
  split <;> rfl

theorem ite_drawn_prm (b : Bool) (s : State) : (if b then drawn s else s).prm = s.prm := by
  cases b <;> rfl

/-- A read latches the present value of every word that belongs to the one read (R579). -/
theorem wordRead_latches {b : Nat} {d : ParamDef} (hm : s.sys.mode ≠ .reset) (hb : b ∈ latchedBy a) (h6 : a ≠ 6)
    (hd : paramDef a ≠ none) (hbd : paramDef b = some d) (hv : tfind s.prm.latches (latchKey i a) = none) :
    tfind (wordRead i c a s).prm.latches (latchKey i b) = some (BitVec.ofNat 32 (presentValue s c b d)) ∧
      (wordRead i c a s).prm.regs = s.prm.regs := by
  obtain ⟨da, hda⟩ := Option.ne_none_iff_exists'.mp hd
  obtain ⟨m, hall, hl⟩ := latchAll_spec i c a s
  rw [wordRead_prm hm (readWord_fresh hda h6 hv), ite_drawn_prm, counterRead_latches, counterRead_regs, hall]
  exact ⟨hl b d hb hbd, rfl⟩

/-- A read of a counter of a present unit clears it and no other (R10). -/
theorem wordRead_clears {d : ParamDef} (hm : s.sys.mode ≠ .reset) (hd : paramDef a = some d) (hrc : d.rc ≠ 0) (h6 : a ≠ 6)
    (hp : isAbsent s (addrClass a) (addrInst a) = false) (hv : tfind s.prm.latches (latchKey i a) = none) :
    counter (wordRead i c a s) a = 0 ∧ (∀ b, b ≠ a → counter (wordRead i c a s) b = counter s b) ∧
      (wordRead i c a s).prm.regs = s.prm.regs ∧ AuditsOne Op.paramRead St.ok s (wordRead i c a s) := by
  obtain ⟨m, hall, -⟩ := latchAll_spec i c a s
  have h := readWord_fresh (c := c) hd h6 hv
  have hprm : (wordRead i c a s).prm = (clearCounter a (withLatches m s)).prm := by
    rw [wordRead_prm hm h, ite_drawn_prm, hall]
    unfold counterRead
    rw [if_pos (by simp [hrc, hp])]
  have hcount : ∀ b, counter (wordRead i c a s) b = if b = a then 0 else counter s b := fun b => by
    unfold counter tgetD
    rw [hprm]
    show (tfind (terase s.prm.counts a) b).getD 0 = _
    rw [tfind_terase]
    split <;> rfl
  refine ⟨(hcount a).trans (if_pos rfl), fun b hb => (hcount b).trans (if_neg hb), by rw [hprm]; rfl, ?_⟩
  exact wordRead_audits hm h (by rw [isRc_def hd]; simpa using hrc)

/-- The low word of the entropy source: 0 in the first 16 ticks, and then of a fresh value (R583). -/
theorem readWord_entropy (i c : Nat) (s : State) : readWord i c 6 s = ((entropyRead i 6 s).1, St.ok, (entropyRead i 6 s).2) := by
  cases hd : paramDef 6 with
  | none => exact absurd hd (by decide)
  | some d =>
    unfold readWord
    rw [hd]
    rfl

theorem entropyRead_early (h : s.tick.count.toNat < 16) : entropyRead i 6 s = (latch i 7 0 s, 0) := if_pos h

theorem entropyRead_fresh (h : ¬ s.tick.count.toNat < 16) : entropyRead i 6 s =
    (drawn (latch i 7 (wordAt (freeBits 64 s).toNat 1) s), wordAt (freeBits 64 s).toNat 0) := if_neg h

end

end Sys2Proof.Machine
end

section
/-! Proofs.  Writing parameter words, and the statement on the parameter space (R10, R34, R235, R495, R520, R530, R576). -/

namespace Sys2Proof.Machine

/-! ### PARAM_WRITE -/

/-- One PARAM_WRITE item of address, value and mask. -/
structure WriteItem (r : Req) (a : Nat) (value mask : Word) : Prop where
  len : r.payload.length = 20
  count : rd r.payload 0 2 = 1
  all : rd r.payload 2 1 ≤ 1
  zero : rd r.payload 3 5 = 0
  addr : a = rd r.payload 8 4
  value : value = BitVec.ofNat 32 (rd r.payload 12 4)
  mask : mask = BitVec.ofNat 32 (rd r.payload 16 4)

section
variable {r : Req} {s : State} {a : Nat} {value mask : Word} (h : WriteItem r a value mask)
include h

theorem WriteItem.items : paramItems 12 r.payload = some (decide (rd r.payload 2 1 = 1), [(r.payload.drop 8).take 12]) :=
  paramItems_one h.len h.count h.all h.zero

/-- What the item does to a state (R495, R576). -/
theorem WriteItem.writeOne (s : State) : Machine.writeOne r true ((r.payload.drop 8).take 12) s =
    match judgeWrite (sessionIdx r.session) a value mask s with
    | .error e => (s, e, itemResult 0 e)
    | .ok v => (acceptWrite (sessionIdx r.session) r.cycle a value mask v s, St.ok,
        itemResult (writtenBack s r.cycle a v mask value) St.ok) := by
  obtain ⟨-, -, -, -, rfl, rfl, rfl⟩ := h
  unfold Machine.writeOne
  rw [rd_take_drop _ (by decide), rd_take_drop _ (by decide), rd_take_drop _ (by decide)]
  rfl

/-- An item that a check refuses is answered its status, and nothing is written. -/
theorem bodyParamWrite_refused {e : Half} (hj : judgeWrite (sessionIdx r.session) a value mask s = .error e) (he : e ≠ St.ok) :
    bodyParamWrite r s = (s, { status := e, payload := itemResult 0 e }) := by
  have hw : writeWords r true [(r.payload.drop 8).take 12] s = (s, [e], itemResult 0 e) := by
    unfold writeWords
    rw [List.foldl_cons, List.foldl_nil, h.writeOne, hj]
    rfl
  have hf : firstStatus [e] = e := by
    unfold firstStatus
    rw [List.find?_cons_of_pos (by simpa using he)]
    rfl
  unfold bodyParamWrite
  rw [h.items]
  dsimp only
  rw [hw]
  dsimp only
  rw [hf, if_pos rfl, ite_self]

/-- An item that passes the checks and does not act at once is deferred, and its response behind it (R34, R35). -/
theorem bodyParamWrite_waits {v : Word} {d : ParamDef} (hj : judgeWrite (sessionIdx r.session) a value mask s = .ok v)
    (hd : paramDef a = some d) (hact : actsAtOnce a = false) :
    ∃ out, bodyParamWrite r s = (defer
      { due := dueTick s r.cycle, change := .notify, resp := some (respOf Op.paramWrite r St.ok out) }
      (defer { due := dueTick s r.cycle, change := .word a (mask &&& BitVec.ofNat 32 (Nat.lor d.rw d.rwl)) value } s),
      { waits := true }) := by
  have ha : ∀ i, acceptWrite i r.cycle a value mask v s = defer
      { due := dueTick s r.cycle, change := .word a (mask &&& BitVec.ofNat 32 (Nat.lor d.rw d.rwl)) value } s := fun i => by
    unfold acceptWrite
    rw [hd]
    exact if_neg (by simp [hact])
  have hw : writeWords r true [(r.payload.drop 8).take 12] s = (defer
      { due := dueTick s r.cycle, change := .word a (mask &&& BitVec.ofNat 32 (Nat.lor d.rw d.rwl)) value } s,
      [St.ok], itemResult (writtenBack s r.cycle a v mask value) St.ok) := by
    unfold writeWords
    rw [List.foldl_cons, List.foldl_nil, h.writeOne, hj]
    dsimp only
    rw [ha]
    rfl
  refine ⟨itemResult (writtenBack s r.cycle a v mask value) St.ok, ?_⟩
  unfold bodyParamWrite
  rw [h.items]
  dsimp only
  rw [hw]
  dsimp only
  rw [if_neg fun q => q.2 rfl, if_neg (by simp [defer])]
  rfl

end

/-! ### PARAM_WORD_WRITE -/

section
variable {s : State} {a : Nat} {mask value : Word} (hm : s.sys.mode ≠ .reset)
include hm

/-- A write that a check refuses is audited with its status alone (R10, R576). -/
theorem paramWordWrite_refused {e : Half} (hj : judgeWrite 0 a value mask s = .error e) : paramWordWrite a mask value s =
    auditAccess Op.paramWrite 0 0 (le 4 a ++ le 4 value.toNat ++ le 4 mask.toNat) e s := by
  unfold paramWordWrite
  dsimp only
  rw [if_neg hm, hj]
  cases paramDef a <;> rfl

/-- A write of a word of a class whose words are settings alone (R34). -/
theorem paramWordWrite_sets {v : Word} {d : ParamDef} (hj : judgeWrite 0 a value mask s = .ok v) (hd : paramDef a = some d)
    (hc : addrClass a ∈ [2, 8, 9, 11, 14, 15, 17, 19, 21, 26]) : paramWordWrite a mask value s =
    auditAccess Op.paramWrite 0 0 (le 4 a ++ le 4 value.toNat ++ le 4 mask.toNat) St.ok
      (setRegAt a (merged (tgetD paramReset s.prm.regs a) (mask &&& BitVec.ofNat 32 (Nat.lor d.rw d.rwl)) value) s) := by
  have hset : ∀ c, c ∈ [2, 8, 9, 11, 14, 15, 17, 19, 21, 26] → addrClass a = c → actsAtOnce a = false ∧ ∀ m,
      applyWord [] a m value s = setRegAt a (merged (tgetD paramReset s.prm.regs a) m value) s := by
    intro c hc e
    unfold actsAtOnce applyWord
    rw [e]
    simp only [List.mem_cons, List.not_mem_nil, or_false] at hc
    rcases hc with rfl | rfl | rfl | rfl | rfl | rfl | rfl | rfl | rfl | rfl <;> exact ⟨rfl, fun _ => rfl⟩
  obtain ⟨hact, happ⟩ := hset _ hc rfl
  unfold paramWordWrite
  dsimp only
  rw [if_neg hm, hd, hj]
  dsimp only
  rw [if_neg (by simp [hact]), happ]

end

theorem tgetD_setRegAt (a b : Nat) (v : Word) (s : State) :
    tgetD paramReset (setRegAt a v s).prm.regs b = if b = a then v else tgetD paramReset s.prm.regs b := tgetD_tput ..

/-! ### PMON_SELECT_WRITE -/

theorem counter_clearCounter_self (a : Nat) (s : State) : counter (clearCounter a s) a = 0 := by
  unfold counter tgetD clearCounter
  rw [State.setPrm_prm, tfind_terase, if_pos rfl]
  rfl

section
variable {s : State} {i w : Nat} {v : Word}

theorem pmonWord_same_value (h : reg s 22 i w = v) : pmonWord i w v s = s := if_pos h

/-- A changed selection or threshold is set, and the counter that it governs starts from 0 (R520, R525). -/
theorem pmonWord_changes (h : reg s 22 i w ≠ v) : reg (pmonWord i w v s) 22 i w = v ∧
    (i < 32 → 0x10 ≤ w → w < 0x20 → counter (pmonWord i w v s) (paddr 22 i (0x100 + 2 * (w - 0x10))) = 0) ∧
    (32 ≤ i → w % 8 = 0 → counter (pmonWord i w v s) (paddr 22 i (w + 2)) = 0) ∧
    (32 ≤ i → w % 8 = 1 → counter (pmonWord i w v s) (paddr 22 i (w + 3)) = 0) := by
  have e : pmonWord i w v s = _ := if_neg h
  rw [e]
  refine ⟨?_, fun hi h1 h2 => ?_, fun hi hw => ?_, fun hi hw => ?_⟩
  · dsimp only
    split
    · split
      · exact reg_setReg_self ..
      · split <;> exact reg_setReg_self ..
    · split
      · exact reg_setReg_self ..
      · split <;> exact reg_setReg_self ..
  · dsimp only
    rw [if_neg (by omega), if_pos ⟨h1, h2⟩]
    exact counter_clearCounter_self ..
  · dsimp only
    rw [if_pos hi, if_pos hw]
    exact counter_clearCounter_self ..
  · dsimp only
    rw [if_pos hi, if_neg (by omega), if_pos hw]
    exact counter_clearCounter_self ..

end

/-! ### The statement -/

/-- Settles O56 by what each access does to the parameter space (log entries 8, 9 and 63): a read by the latches, the counter and the
value of its word, a write by its judgement, the deferral or the setting, and each by its audit record. -/
theorem parameterWordsAreReadWrittenAndLatched : Obligations.ParameterWordsAreReadWrittenAndLatched := by
  unfold Obligations.ParameterWordsAreReadWrittenAndLatched
  intro s audited
  refine ⟨fun r p i hp hi => ⟨fun hr hl hn hall hz a ha => ⟨fun hd => ?_, fun d hd h6 hlat hrc hh hro hw ho hv => ?_⟩,
    fun hr hl hz a n ha hn => ⟨fun h => ?_, fun h1 h2 h3 h4 => ?_⟩,
    fun hr hl hn hall hz a value mask ha hvalue hmask => ⟨fun e hj he => ?_, fun v d hj hd hact => ?_⟩⟩,
    fun a mask value => ⟨fun h => ?_, fun e hm hj => ?_, fun v d hm hj hd hc => ?_⟩,
    fun i c a => ⟨fun h => ?_, fun h => ?_, fun h => ?_, fun v hm hlat h6 hd hv => ?_, fun b d hm hb h6 hd hbd hv => ?_,
      fun d hm hd hrc h6 hp hv => ?_, fun hv => ?_⟩,
    fun w v => ⟨fun h => ?_, fun h => ?_⟩, fun i w v => ⟨fun e h => ?_, fun x h hi => ⟨fun hx => ?_, fun hx => ?_⟩⟩,
    fun on => ?_⟩
  -- PARAM_READ
  · subst hp ha
    obtain ⟨m, ha, hans⟩ := runs_reads hr fun m => bodyParamRead_undefined (s := withSessions m s) hl hn hall hz hd
    exact ⟨_, rfl, ha, hans⟩
  · subst hp ha hi
    obtain ⟨m, ha, hans⟩ := runs_reads hr fun m => bodyParamRead_one hl hn hall hz (by rw [hd]; rfl)
      (readWord_plain (s := withSessions m s) hd h6 hlat hrc ho hv)
    rw [presentValue_setting hh hrc hro hw] at hans
    exact ⟨_, rfl, ha, hans⟩
  -- PARAM_READ_BLOCK
  · subst hp
    obtain ⟨ha, hans⟩ := runs_no hr fun m => bodyParamReadBlock_range (s := withSessions m s) hl hz ha hn h
    exact ⟨_, rfl, ha, hans⟩
  · subst hp
    have e : ∀ u, _ := fun u => bodyParamReadBlock_reads (s := u) hl hz ha hn h1 h2 h3 h4
    obtain ⟨hs, hlen, hzero⟩ := blockRead_spec (sessionIdx r.session) r.cycle a n (touch r s)
    obtain ⟨hall, hans⟩ := runs_noting hr (e (touch r s)) rfl (congrArg Toune.responses (hs.toune rfl))
    have ht := touch_answers r s
    refine ⟨_, _, rfl, hans, ?_, hall.regs.trans ((hs.regs rfl).trans ht.regs), hall.sys.trans ((hs.sys rfl).trans ht.sys),
      fun k hk hd => ?_⟩
    · rw [List.length_append, hlen]
      rfl
    · exact (rd_append_right (le 4 0) _ (4 * k) 4).trans (hzero k hk hd)
  -- PARAM_WRITE
  · subst hp hi
    have hw : WriteItem r a value mask := ⟨hl, hn, hall, hz, ha, hvalue, hmask⟩
    obtain ⟨hall, hans⟩ := runs_answers hr (bodyParamWrite_refused hw hj he) rfl
    exact ⟨_, rfl, hans, hall.regs, hall.sys⟩
  · subst hp hi
    have hw : WriteItem r a value mask := ⟨hl, hn, hall, hz, ha, hvalue, hmask⟩
    obtain ⟨out, e⟩ := bodyParamWrite_waits hw hj hd hact
    have hrun := runToune_runs Op.paramWrite bodyParamWrite r s hr
    rw [e] at hrun
    dsimp only at hrun
    have ht := touch_answers r s
    have hf := finish_answers Op.paramWrite r { waits := true } false (defer
      { due := dueTick (touch r s) r.cycle, change := .notify, resp := some (respOf Op.paramWrite r St.ok out) } (defer
      { due := dueTick (touch r s) r.cycle, change := .word a (mask &&& BitVec.ofNat 32 (Nat.lor d.rw d.rwl)) value }
      (touch r s)))
    refine ⟨_, respOf Op.paramWrite r St.ok out, congrArg Host.Outcome.next hrun, ?_, hf.regs.trans ht.regs, rfl, rfl, rfl, rfl,
      hf.sys.trans ?_⟩
    · exact (finish_waits _ _ _ _ _ rfl).trans (touch_responses r s)
    · have hdue : dueTick (touch r s) r.cycle = dueTick s r.cycle := by unfold dueTick; rw [ht.tick]
      simp only [defer, State.setSys_sys, ht.sys, hdue, List.append_assoc]
      rfl
  -- PARAM_WORD_WRITE
  · exact congrArg Host.Outcome.next (if_pos h)
  · exact ⟨_, congrArg Host.Outcome.next (paramWordWrite_refused hm hj), rfl, rfl, rfl, rfl, auditAccess_auditsOne rfl⟩
  · refine ⟨_, congrArg Host.Outcome.next (paramWordWrite_sets hm hj hd hc), ?_, fun b hb => ?_, rfl,
      auditAccess_auditsOne rfl, rfl⟩
    · exact (tgetD_setRegAt ..).trans (if_pos rfl)
    · exact (tgetD_setRegAt ..).trans (if_neg hb)
  -- LATCHED_LO_READ, RC_WORD_READ and ENTROPY_READ
  · refine ⟨congrArg Host.Outcome.next ?_, congrArg Host.Outcome.next ?_⟩
    · rw [wordRead_reset h, ite_self]
    · rw [wordRead_reset h, ite_self]
  · exact congrArg Host.Outcome.next (if_pos h)
  · exact congrArg Host.Outcome.next (if_neg (by simp [h]))
  · exact ⟨_, congrArg Host.Outcome.next (if_neg hlat), wordRead_latched hm h6 hd hv⟩
  · exact ⟨_, congrArg Host.Outcome.next (if_neg (List.ne_nil_of_mem hb)), wordRead_latches hm hb h6 hd hbd hv⟩
  · exact ⟨_, congrArg Host.Outcome.next (if_pos (by rw [isRc_def hd]; simpa using hrc)),
      wordRead_clears hm hd hrc h6 hp hv⟩
  · have e : exec (.entropyRead i c) s = .next (entropyRead i 6 s).1 :=
      congrArg (fun x : State × Half × Nat => (Host.Outcome.next x.1 : Host.Outcome State Fault Refusal)) (readWord_entropy i c s)
    refine ⟨_, e, ?_, fun h => ?_, fun h => ?_⟩
    · by_cases h : s.tick.count.toNat < 16
      · rw [entropyRead_early h]
        rfl
      · rw [entropyRead_fresh h]
        rfl
    · rw [entropyRead_early h]
      exact ⟨(tfind_tput ..).trans (if_pos rfl), rfl⟩
    · rw [entropyRead_fresh (by omega)]
      refine ⟨rfl, ((tfind_tput ..).trans (if_pos rfl)).trans (congrArg some ?_)⟩
      exact BitVec.eq_of_toNat_eq (by simp [wordAt])
  -- FLOW_SEED_WRITE
  · exact congrArg Host.Outcome.next (if_neg (by simp [h]))
  · refine ⟨_, congrArg Host.Outcome.next (if_pos h), ?_, raise_raised _ _ rfl, (raise_same ..).flow rfl⟩
    exact reg_setReg_self ..
  -- PMON_SELECT_WRITE
  · exact congrArg Host.Outcome.next (by rw [h])
  · refine congrArg Host.Outcome.next ?_
    rw [h]
    exact (if_neg hi).trans (pmonWord_same_value hx)
  · refine ⟨_, congrArg Host.Outcome.next (?_ : _ = pmonWord i w x s), pmonWord_changes hx⟩
    rw [h]
    exact if_neg hi
  -- PMON_OBSERVER_WRITE
  · refine ⟨_, rfl, ?_, rfl, fun c i w h => reg_setReg_ne _ _ h⟩
    unfold observer
    rw [reg_setReg_self]
    cases on <;> rfl

end Sys2Proof.Machine
end

section
/-! Proofs.  The responder of the host transport: requests at, before and behind the expected PSN (R431 to R436, R439). -/

namespace Sys2Proof.Machine

/-! ### Counters are no part of a transfer -/

/-- The state with other counters. -/
def withCounts (c : Table Nat) (s : State) : State := s.setPrm { s.prm with counts := c }

theorem bump48_eq_withCounts (cls inst i n : Nat) (s : State) : ∃ c, bump48 cls inst i n s = withCounts c s := ⟨_, rfl⟩

section
variable {key : Word} {va : Nat} {s u : State}

/-- A write may be applied, whatever the counters, and its effect on the host interface is the same. -/
theorem rdmaWrite_withCounts {b : List Byte} (h : rdmaWrite key va b s = some u) (c : Table Nat) :
    ∃ v, rdmaWrite key va b (withCounts c s) = some v ∧ v.host = u.host := by
  unfold rdmaWrite at h ⊢
  dsimp only at h ⊢
  by_cases h1 : key = 0x11
  · rw [if_pos h1] at h ⊢
    by_cases hc : va + b.length ≤ 0x80000 ∧ va % 8192 + b.length ≤ 4096
    · rw [if_pos hc] at h ⊢
      cases h
      exact ⟨_, rfl, rfl⟩
    · rw [if_neg hc] at h
      cases h
  rw [if_neg h1] at h ⊢
  by_cases h2 : key = 0x12
  · rw [if_pos h2] at h ⊢
    by_cases hc : va + b.length ≤ 8192 ∧ va % 8 = 0 ∧ b.length % 8 = 0
    · rw [if_pos hc] at h ⊢
      cases h
      exact ⟨_, rfl, rfl⟩
    · rw [if_neg hc] at h
      cases h
  rw [if_neg h2] at h ⊢
  by_cases h3 : key = 0x14 ∨ key = 0x15
  · rw [if_pos h3] at h ⊢
    by_cases hc : va + b.length ≤ winSize s (key == 0x15) ∧ winSize s (key == 0x15) ≠ 0 ∧ !winAway s (key == 0x15) va b.length
    · rw [if_pos hc] at h
      have hc' : va + b.length ≤ winSize (withCounts c s) (key == 0x15) ∧ winSize (withCounts c s) (key == 0x15) ≠ 0 ∧
        !winAway (withCounts c s) (key == 0x15) va b.length := hc
      rw [if_pos hc']
      cases h
      refine ⟨_, rfl, ((winUse_same ..).host rfl).trans (Eq.trans ?_ ((winUse_same ..).host rfl).symm)⟩
      unfold winWrite setWinMem
      cases (key == 0x15) <;> rfl
    · rw [if_neg hc] at h
      cases h
  · rw [if_neg h3] at h
    cases h

theorem rdmaWrite_none_withCounts {b : List Byte} (h : rdmaWrite key va b s = none) (c : Table Nat) :
    rdmaWrite key va b (withCounts c s) = none := by
  cases hv : rdmaWrite key va b (withCounts c s) with
  | none => rfl
  | some v =>
    obtain ⟨w, hw, -⟩ := rdmaWrite_withCounts hv s.prm.counts
    exact absurd (h.symm.trans hw) (by simp)

/-- A write of a host leaves the queue pairs, what has been sent, and the immediates that wait. -/
theorem rdmaWrite_leaves {b : List Byte} (h : rdmaWrite key va b s = some u) :
    u.host.qp = s.host.qp ∧ u.host.sent = s.host.sent ∧ u.host.imms = s.host.imms ∧ u.host.queue = s.host.queue := by
  unfold rdmaWrite at h
  dsimp only at h
  split at h
  · split at h
    · cases h
      exact ⟨rfl, rfl, rfl, rfl⟩
    · cases h
  split at h
  · split at h
    · cases h
      exact ⟨rfl, rfl, rfl, rfl⟩
    · cases h
  split at h
  · split at h
    · cases h
      rw [(winUse_same ..).host rfl]
      unfold winWrite setWinMem
      cases (key == 0x15) <;> exact ⟨rfl, rfl, rfl, rfl⟩
    · cases h
  · cases h

/-- What a read gives, but for the statistics window, does not depend on the counters. -/
theorem rdmaRead_withCounts (hk : key ≠ 0x13) (n : Nat) (c : Table Nat) :
    rdmaRead (withCounts c s) key va n = rdmaRead s key va n := by
  unfold rdmaRead
  dsimp only
  rw [if_neg hk, if_neg hk]
  rfl

theorem rdmaRead_none_withCounts {n : Nat} (h : rdmaRead s key va n = none) (c : Table Nat) :
    rdmaRead (withCounts c s) key va n = none := by
  by_cases hk : key = 0x13
  · subst hk
    unfold rdmaRead at h ⊢
    rw [if_neg (by decide), if_neg (by decide), if_pos rfl] at h ⊢
    by_cases hc : va + n ≤ statsSize ∧ observer s
    · rw [if_pos hc] at h
      cases h
    · exact if_neg hc
  · rw [rdmaRead_withCounts hk, h]

end

/-! ### The two regions of the device that every write reaches -/

/-- A write into the request half of a mailbox slot (R433). -/
theorem rdmaWrite_mailbox {s : State} {k off : Nat} {b : List Byte} (hk : k < 64) (hb : off + b.length ≤ 4096) :
    rdmaWrite 0x11 (8192 * k + off) b s =
      some (setSlot k { slotAt s k with request := splice (padTo 4096 (slotAt s k).request) off b } s) := by
  by_cases ho : off = 4096
  · have hb0 : b = [] := List.length_eq_zero_iff.mp (by omega)
    have h1 : (8192 * k + off) / 8192 = k := by omega
    have h2 : (8192 * k + off) % 8192 = off := by omega
    unfold rdmaWrite
    dsimp only
    rw [if_pos rfl, h1, h2, if_pos (by omega)]
  · have h1 : (8192 * k + off) / 8192 = k := by omega
    have h2 : (8192 * k + off) % 8192 = off := by omega
    unfold rdmaWrite
    dsimp only
    rw [if_pos rfl, h1, h2, if_pos (by omega)]

theorem slotAt_setSlot_self (k : Nat) (x : Slot) (s : State) : slotAt (setSlot k x s) k = x := tgetD_tput_self ..

/-- A write of one unit of the doorbell page (R448). -/
theorem rdmaWrite_doorbell {s : State} (k : Fin 1024) {b : List Byte} (hb : b.length = 8) :
    rdmaWrite 0x12 (8 * k) b s =
      some (s.setHost { s.host with doorbells := s.host.doorbells ++ [(k.val, BitVec.ofNat 64 (rd b 0 8))] }) := by
  have hd : 8 * k.val / 8 = k.val := by omega
  unfold rdmaWrite
  dsimp only
  rw [if_neg (by decide), if_pos rfl, hb, if_pos (by omega), hd]
  rfl

/-! ### What the responder leaves of the host interface -/

theorem acked_host (q n : Nat) (s : State) : (acked q n s).host = { s.host with
    qp := tput s.host.qp q { qpAt s q with rqPsn := (qpAt s q).rqPsn + BitVec.ofNat 24 n, nakOut := false }
    sent := s.host.sent ++ [.ack q ((qpAt s q).rqPsn + BitVec.ofNat 24 n - 1)] } := rfl

theorem readBack_host (q : Nat) (psn : BitVec 24) (b : List Byte) (s : State) :
    (readBack q psn b s).host = { s.host with sent := s.host.sent ++ [.readData q psn b] } := rfl

/-- The immediate of a write enters the slot that it names, if there is one (R434; log entry 45). -/
def immOf (q : Nat) (imm : Option Word) : List (Nat × Nat × Bool) :=
  match imm with
  | some v => if v.toNat < 64 then [(q, v.toNat, false)] else []
  | none => []

/-- A state that has taken in the immediate of a write. -/
def takeImm (q : Nat) (imm : Option Word) (s : State) : State :=
  match imm with
  | some v => if v.toNat < 64 then s.setHost { s.host with imms := s.host.imms ++ [(q, v.toNat, false)] } else s
  | none => s

theorem takeImm_host (q : Nat) (imm : Option Word) (s : State) :
    (takeImm q imm s).host = { s.host with imms := s.host.imms ++ immOf q imm } := by
  unfold takeImm immOf
  cases imm with
  | none => simp
  | some v =>
    dsimp only
    split <;> simp

theorem acceptRoce_write {q : Nat} {psn : BitVec 24} {key : Word} {va : Nat} {b : List Byte} {imm : Option Word} {s u : State}
    (h : rdmaWrite key va b s = some u) :
    acceptRoce q psn (.write key va b imm) s = acked q (packetsOf b.length) (takeImm q imm u) := by
  unfold acceptRoce
  dsimp only
  rw [h]
  cases imm <;> rfl

/-! ### A queue pair that fails -/

/-- Between two states queue pairs stand but for what is outstanding on them. -/
structure PairsRest (s t : State) : Prop where
  pairs : ∀ k, ∃ o, qpAt t k = { qpAt s k with out := o }

theorem PairsRest.of_eq {s t : State} (h : t.host.qp = s.host.qp) : PairsRest s t := ⟨fun k => ⟨_, qpAt_congr h k⟩⟩

theorem PairsRest.trans {s t u : State} (h : PairsRest s t) (k : PairsRest t u) : PairsRest s u := ⟨fun j => by
  obtain ⟨o, ho⟩ := h.pairs j
  obtain ⟨o', ho'⟩ := k.pairs j
  exact ⟨o', by rw [ho', ho]⟩⟩

theorem PairsRest.foldl {α : Type} {g : State → α → State} (h : ∀ s a, PairsRest s (g s a)) (l : List α) (s : State) :
    PairsRest s (l.foldl g s) := by
  induction l generalizing s with
  | nil => exact .of_eq rfl
  | cons a l ih => exact (h s a).trans (ih _)

/-- Requests of a queue pair whose fetch of queue `q` is forgotten (R460). -/
def forgotten (q : Nat) (o : List OutReq) : List OutReq :=
  o.map (fun r => if r.purpose = .fetch q then { r with purpose := .fetch 1024 } else r)

theorem forgetFetch_rests (q : Nat) (s : State) : PairsRest s (forgetFetch q s) := ⟨fun k => by
  refine ⟨forgotten q (qpAt s k).out, ?_⟩
  have h := tfind_map (fun x : QueuePair => { x with out := forgotten q x.out }) s.host.qp k
  unfold forgetFetch qpAt tgetD
  dsimp only [State.setHost_host]
  unfold forgotten at h ⊢
  rw [h]
  cases tfind s.host.qp k <;> rfl⟩

theorem settleQueue_rests (q : Nat) (s : State) : PairsRest s (settleQueue q s) := by
  have h : PairsRest s (queueDisabled q s) := by
    have h : (queueDisabled q s).host = (setHq q { hqAt s q with
        st := 3, jobs := [], entries := [], handle := none, rxOff := 0 } s).host := by
      unfold queueDisabled
      dsimp only
      split
      · exact (unbindRing_same ..).host rfl
      · exact (unbindRing_same ..).host rfl
    exact .of_eq (Eq.trans (congrArg HostIf.qp h) rfl)
  unfold settleQueue
  split
  · exact h
  · exact .of_eq rfl

theorem dropJob_rests (q : Nat) (pos : Word) (s : State) : PairsRest s (dropJob q pos s) := .of_eq rfl

theorem givenUp_rests (q : Nat) (x : Queue) (s : State) : PairsRest s (givenUp q x s) := by
  have h : PairsRest s (x.held.foldl (fun s e => dropJob e.1 e.2.1 s) s) := .foldl (fun _ _ => dropJob_rests ..) _ s
  unfold givenUp
  split
  · exact h.trans (.of_eq (congrArg HostIf.qp ((dropHostCopies_same ..).host rfl)))
  · exact h

theorem disableOne_rests (q cause : Nat) (s : State) : PairsRest s (disableOne q cause s) := by
  by_cases h : (hqAt s q).st = 1
  · rw [disableOne_enabled h]
    refine (PairsRest.trans ?_ (givenUp_rests ..)).trans (settleQueue_rests ..)
    unfold stopping
    refine PairsRest.trans ?_ (forgetFetch_rests ..)
    exact .of_eq rfl
  · rw [disableOne_idle h]
    exact .of_eq rfl

theorem disableQueue_rests (q cause : Nat) (s : State) : PairsRest s (disableQueue q cause s) := by
  unfold disableQueue
  dsimp only
  split
  · exact (disableOne_rests ..).trans (.foldl (fun _ _ => disableOne_rests ..) _ _)
  · exact disableOne_rests ..

theorem flushReq_rests (r : OutReq) (s : State) : PairsRest s (flushReq r s) := by
  unfold flushReq
  split
  · split
    · exact disableQueue_rests ..
    · exact .of_eq rfl
  · exact (dropJob_rests ..).trans (disableQueue_rests ..)
  · exact disableQueue_rests ..
  · exact .of_eq rfl
  · exact disableQueue_rests ..
  · exact .of_eq rfl

/-- A queue pair that fails is in ERROR with its cause (R439). -/
theorem qpError_fails (q cause : Nat) (psn : BitVec 24) (s : State) :
    (qpAt (qpError q cause psn s) q).st = 2 ∧ (qpAt (qpError q cause psn s) q).cause = cause := by
  unfold qpError
  dsimp only
  obtain ⟨o, ho⟩ := PairsRest.foldl (fun s r => flushReq_rests r s) (qpAt s q).out
    (raise Ev.qpError (le 2 q ++ le 1 cause ++ le 4 psn.toNat ++ le 8 s.tick.count.toNat)
      (setQp q { qpAt s q with st := 2, cause := cause, out := [], nakOut := false, resends := 0 } s)) |>.pairs q
  rw [ho]
  have hq : qpAt (raise Ev.qpError (le 2 q ++ le 1 cause ++ le 4 psn.toNat ++ le 8 s.tick.count.toNat)
      (setQp q { qpAt s q with st := 2, cause := cause, out := [], nakOut := false, resends := 0 } s)) q =
      { qpAt s q with st := 2, cause := cause, out := [], nakOut := false, resends := 0 } :=
    (qpAt_congr (congrArg HostIf.qp ((raise_same ..).host rfl)) q).trans (qpAt_setQp_self ..)
  rw [hq]
  exact ⟨rfl, rfl⟩

/-! ### Requests -/

section
variable {s : State} {q : Nat}

/-- A request whose ICRC is bad is counted alone (R432). -/
theorem roceRequest_corrupt (hup : transportUp s = true) (psn : BitVec 24) (f : RoceReq) :
    roceRequest q psn false f s = bump48 19 256 0 1 s := by
  unfold roceRequest
  dsimp only
  rw [if_neg (by simp [hup]), if_pos (by simp)]

variable (hup : transportUp s = true) (hst : (qpAt s q).st = 1) (hgo : tickGe s.tick.count (qpAt s q).start = true)
  (hon : roceOn s (qpAt s q) = true)
include hup hst hgo hon

theorem roceRequest_live (psn : BitVec 24) (f : RoceReq) : roceRequest q psn true f s =
    if (psn - (qpAt s q).rqPsn).toNat = 0 then acceptRoce q psn f (bump48 19 q 1 f.packets s)
    else if (psn - (qpAt s q).rqPsn).toNat ≥ 2 ^ 23 then againRoce q psn f (bump48 19 q 1 f.packets s)
    else if (qpAt s q).nakOut then bump48 19 q 3 1 (bump48 19 q 1 f.packets s)
    else bump48 19 q 3 1 (bump48 19 256 2 1 (bump48 19 q 0 1 (hostSend (.seqNak q (qpAt s q).rqPsn)
      (setQp q { qpAt s q with nakOut := true } (bump48 19 q 1 f.packets s))))) := by
  unfold roceRequest
  dsimp only
  rw [if_neg (by simp [hup]), if_neg (by simp), if_neg (by simp [hst]), if_neg (by simp [hst, hgo, hon])]

/-- A request at the expected PSN is accepted (R432). -/
theorem roceRequest_expected (f : RoceReq) : roceRequest q (qpAt s q).rqPsn true f s =
    acceptRoce q (qpAt s q).rqPsn f (bump48 19 q 1 f.packets s) := by
  rw [roceRequest_live hup hst hgo hon, if_pos (by simp)]

/-- A write at the expected PSN has its effect, and is acknowledged (R433, R434). -/
theorem roceRequest_write {key : Word} {va : Nat} {b : List Byte} {imm : Option Word} {u : State}
    (h : rdmaWrite key va b s = some u) : (roceRequest q (qpAt s q).rqPsn true (.write key va b imm) s).host = { u.host with
      qp := tput s.host.qp q { qpAt s q with
        rqPsn := (qpAt s q).rqPsn + BitVec.ofNat 24 (packetsOf b.length), nakOut := false }
      sent := s.host.sent ++ [.ack q ((qpAt s q).rqPsn + BitVec.ofNat 24 (packetsOf b.length) - 1)]
      imms := s.host.imms ++ immOf q imm } := by
  obtain ⟨hqp, hsent, himm, -⟩ := rdmaWrite_leaves h
  obtain ⟨v, hv, hvu⟩ := rdmaWrite_withCounts h (bump48 19 q 1 (packetsOf b.length) s).prm.counts
  have hx : qpAt v q = qpAt s q := qpAt_congr (by rw [hvu, hqp]) q
  rw [roceRequest_expected hup hst hgo hon]
  have hv' : rdmaWrite key va b (bump48 19 q 1 (RoceReq.write key va b imm).packets s) = some v := hv
  rw [acceptRoce_write hv', acked_host, takeImm_host]
  have hwx : qpAt (takeImm q imm v) q = qpAt s q := (qpAt_congr (by rw [takeImm_host]) q).trans hx
  rw [hwx]
  dsimp only
  rw [hvu, hqp, hsent, himm]

/-- A read at the expected PSN is answered with its data (R433). -/
theorem roceRequest_read {key : Word} {va n : Nat} {b : List Byte} (hk : key ≠ 0x13) (h : rdmaRead s key va n = some b) :
    (roceRequest q (qpAt s q).rqPsn true (.read key va n) s).host = { s.host with
      qp := tput s.host.qp q { qpAt s q with rqPsn := (qpAt s q).rqPsn + BitVec.ofNat 24 (packetsOf n), nakOut := false }
      sent := s.host.sent ++ [.readData q (qpAt s q).rqPsn b] } := by
  have hr : rdmaRead (bump48 19 q 1 (RoceReq.read key va n).packets s) key va n = some b :=
    (rdmaRead_withCounts hk n _).trans h
  rw [roceRequest_expected hup hst hgo hon]
  unfold acceptRoce
  dsimp only
  rw [hr]
  dsimp only
  rw [readBack_host]
  unfold setQp
  dsimp only [State.setHost_host]
  rw [(rdmaUse_same key va n _).host rfl]
  rfl

/-- What R436 forbids is answered with a remote-access error, and the queue pair fails. -/
theorem roceRequest_forbidden {f : RoceReq} (h : (∃ key va b imm, f = .write key va b imm ∧ rdmaWrite key va b s = none) ∨
    ∃ key va n, f = .read key va n ∧ rdmaRead s key va n = none) :
    roceRequest q (qpAt s q).rqPsn true f s = accessError q (qpAt s q).rqPsn (bump48 19 q 1 f.packets s) := by
  rw [roceRequest_expected hup hst hgo hon]
  unfold acceptRoce
  rcases h with ⟨key, va, b, imm, rfl, h⟩ | ⟨key, va, n, rfl, h⟩
  · have h' : rdmaWrite key va b (bump48 19 q 1 (RoceReq.write key va b imm).packets s) = none :=
      rdmaWrite_none_withCounts h _
    dsimp only
    rw [h']
  · have h' : rdmaRead (bump48 19 q 1 (RoceReq.read key va n).packets s) key va n = none := rdmaRead_none_withCounts h _
    dsimp only
    rw [h']

/-- A SEND with no slot free is told to wait (R434; log entry 45). -/
theorem roceRequest_send_full {b : List Byte} (hb : b.length ≤ 4096) (h : freeMailSlot s = none) :
    (roceRequest q (qpAt s q).rqPsn true (.send b) s).host =
      { s.host with sent := s.host.sent ++ [.rnrNak q (qpAt s q).rqPsn] } := by
  have h' : freeMailSlot (bump48 19 q 1 (RoceReq.send b).packets s) = none := h
  rw [roceRequest_expected hup hst hgo hon]
  unfold acceptRoce
  dsimp only
  rw [if_neg (by omega), h']
  rfl

/-- A SEND takes the lowest free slot (R434). -/
theorem roceRequest_send {b : List Byte} {k : Nat} (hb : b.length ≤ 4096) (h : freeMailSlot s = some k) :
    (roceRequest q (qpAt s q).rqPsn true (.send b) s).host = { s.host with
      slot := tput s.host.slot k { slotAt s k with request := padTo 4096 b }, imms := s.host.imms ++ [(q, k, true)]
      qp := tput s.host.qp q { qpAt s q with
        rqPsn := (qpAt s q).rqPsn + BitVec.ofNat 24 (packetsOf b.length), nakOut := false }
      sent := s.host.sent ++ [.ack q ((qpAt s q).rqPsn + BitVec.ofNat 24 (packetsOf b.length) - 1)] } := by
  have h' : freeMailSlot (bump48 19 q 1 (RoceReq.send b).packets s) = some k := h
  rw [roceRequest_expected hup hst hgo hon]
  unfold acceptRoce
  dsimp only
  rw [if_neg (by omega), h']
  rfl

/-- A request behind a gap is answered once (R432). -/
theorem roceRequest_gap {psn : BitVec 24} (f : RoceReq) (h0 : 0 < (psn - (qpAt s q).rqPsn).toNat)
    (h1 : (psn - (qpAt s q).rqPsn).toNat < 2 ^ 23) : (roceRequest q psn true f s).host =
      if (qpAt s q).nakOut then s.host else { s.host with
        qp := tput s.host.qp q { qpAt s q with nakOut := true }, sent := s.host.sent ++ [.seqNak q (qpAt s q).rqPsn] } := by
  rw [roceRequest_live hup hst hgo hon, if_neg (by omega), if_neg (by omega)]
  split <;> rfl

/-- A duplicate but for a read is acknowledged again (R432). -/
theorem roceRequest_again {psn : BitVec 24} {f : RoceReq} (h : 2 ^ 23 ≤ (psn - (qpAt s q).rqPsn).toNat)
    (hf : ∀ key va n, f ≠ .read key va n) : (roceRequest q psn true f s).host =
      { s.host with sent := s.host.sent ++ [.ack q ((qpAt s q).rqPsn - 1)] } := by
  rw [roceRequest_live hup hst hgo hon, if_neg (by omega), if_pos h]
  cases f with
  | write key va b imm => rfl
  | read key va n => exact absurd rfl (hf key va n)
  | send b => rfl

end

end Sys2Proof.Machine
end

section
/-! Proofs.  The requester of the host transport, what its engine answers by itself, and doorbells (R426, R428, R432, R439, R448). -/

namespace Sys2Proof.Machine

/-! ### Acknowledgements -/

/-- Entries that arrive change the queue that fetches them alone. -/
theorem arrived_qp (d : List Byte) (r : OutReq) (s : State) : (arrived d r s).host.qp = s.host.qp := by
  unfold arrived
  split
  · split <;> rfl
  · rfl

section
variable {s : State} {q : Nat} {x : QueuePair} {p : BitVec 24} {gone rest : List OutReq}

/-- The requests that an acknowledgement ends are gone, and the timer starts anew (R432). -/
def ackedOut (q : Nat) (x : QueuePair) (rest : List OutReq) (s : State) : State :=
  setQp q { x with out := rest, since := s.tick.count, resends := 0 } (bump48 19 q 1 1 s)

/-- An acknowledgement of what has not been sent says nothing (R432). -/
theorem roceAck_stale (hx : x = qpAt s q) (hw : 2 ^ 23 ≤ (x.sqPsn - 1 - p).toNat) (d : List Byte) : roceAck q p d s = s := by
  unfold roceAck
  dsimp only
  rw [← hx, if_pos (.inr (.inr hw))]

variable (hup : transportUp s = true) (hx : x = qpAt s q) (hst : x.st = 1)
include hup hx hst

theorem roceAck_ends (hp : popAcks p x.out = (gone, rest)) (hw : (x.sqPsn - 1 - p).toNat < 2 ^ 23) (hg : gone ≠ []) (d : List Byte) :
    roceAck q p d s = gone.foldl (fun s r => arrived d r s) (ackedOut q x rest s) := by
  unfold roceAck
  dsimp only
  have hn : ¬(!transportUp s ∨ x.st ≠ 1 ∨ (x.sqPsn - 1 - p).toNat ≥ 2 ^ 23) := by
    rintro (h | h | h)
    · simp [hup] at h
    · exact h hst
    · exact absurd hw (Nat.not_lt.mpr h)
  rw [← hx, if_neg hn, hp]
  exact if_neg hg

theorem roceAck_ends_pair (hp : popAcks p x.out = (gone, rest)) (hw : (x.sqPsn - 1 - p).toNat < 2 ^ 23) (hg : gone ≠ [])
    (d : List Byte) : qpAt (roceAck q p d s) q = { x with out := rest, since := s.tick.count, resends := 0 } := by
  rw [roceAck_ends hup hx hst hp hw hg]
  have h : (gone.foldl (fun s r => arrived d r s) (ackedOut q x rest s)).host.qp = (ackedOut q x rest s).host.qp :=
    foldl_keeps (f := fun s : State => s.host.qp) (fun s r => arrived_qp d r s) _ _
  exact (qpAt_congr h q).trans (qpAt_setQp_self ..)

/-- A fetch that an acknowledgement ends has brought its entries (R449). -/
theorem roceAck_fetched {r : OutReq} {k : Nat} (hp : popAcks p x.out = ([r], rest)) (hw : (x.sqPsn - 1 - p).toNat < 2 ^ 23)
    (hr : r.purpose = .fetch k) (hk : (hqAt s k).fetching ≠ 0) (d : List Byte) :
    (hqAt (roceAck q p d s) k).arrived = some (padTo r.length d) := by
  have hk' : (hqAt (ackedOut q x rest s) k).fetching ≠ 0 := hk
  rw [roceAck_ends hup hx hst hp hw (by simp), List.foldl_cons, List.foldl_nil]
  unfold arrived
  rw [hr]
  dsimp only
  rw [if_neg hk']
  exact congrArg Queue.arrived (hqAt_setHq_self ..)

end

/-! ### Sending again -/

/-- Requests that leave are sent, and nothing else of the host interface changes. -/
theorem sendRequests_host (q : Nat) (l : List OutReq) (s : State) :
    (l.foldl (fun s r => hostSend (.request q r) s) s).host =
      { s.host with sent := s.host.sent ++ l.map (HostFrame.request q) } := by
  induction l generalizing s with
  | nil => simp
  | cons r l ih =>
    rw [List.foldl_cons, ih]
    have h : (hostSend (.request q r) s).host = { s.host with sent := s.host.sent ++ [.request q r] } := rfl
    rw [h]
    simp

theorem resendAll_host (q : Nat) (s : State) : (resendAll q s).host = { s.host with
    qp := tput s.host.qp q { qpAt s q with since := s.tick.count, resends := (qpAt s q).resends + 1 }
    sent := s.host.sent ++ (qpAt s q).out.map (HostFrame.request q) } := by
  unfold resendAll
  dsimp only
  rw [sendRequests_host]
  rfl

section
variable {s : State} {q : Nat} {x : QueuePair}

theorem retry_eq (hx : x = qpAt s q) (ho : x.out ≠ []) :
    ∃ p, retry q s = if x.resends ≥ qpRetry s x then qpError q 1 p s else resendAll q s := by
  unfold retry
  dsimp only
  rw [← hx]
  cases hl : x.out with
  | nil => exact absurd hl ho
  | cons r l => exact ⟨r.psn, rfl⟩

/-- Within the retry count every outstanding request is sent again (R432). -/
theorem retry_resends (hx : x = qpAt s q) (ho : x.out ≠ []) (hn : x.resends < qpRetry s x) : (retry q s).host = { s.host with
    qp := tput s.host.qp q { x with since := s.tick.count, resends := x.resends + 1 }
    sent := s.host.sent ++ x.out.map (HostFrame.request q) } := by
  obtain ⟨p, hp⟩ := retry_eq hx ho
  rw [hp, if_neg (by omega), resendAll_host, ← hx]

/-- Past the retry count the queue pair fails with cause 1 (R439). -/
theorem retry_fails (hx : x = qpAt s q) (ho : x.out ≠ []) (hn : qpRetry s x ≤ x.resends) :
    (qpAt (retry q s) q).st = 2 ∧ (qpAt (retry q s) q).cause = 1 := by
  obtain ⟨p, hp⟩ := retry_eq hx ho
  rw [hp, if_pos hn]
  exact qpError_fails ..

theorem retry_nothing (hx : x = qpAt s q) (ho : x.out = []) : retry q s = s := by
  unfold retry
  dsimp only
  rw [← hx, ho]

/-- A timer that has not run out does nothing (R432). -/
theorem roceTimeout_running (hx : x = qpAt s q) (h : ticksSince s.tick.count x.since < timeoutTicks (qpTimeout s x) ∨ x.out = []) :
    roceTimeout q s = s := by
  unfold roceTimeout
  dsimp only
  rw [← hx]
  split
  next => rfl
  next hn =>
    exact retry_nothing hx (h.resolve_left fun hl => hn (.inr (.inr hl)))

variable (hup : transportUp s = true) (hx : x = qpAt s q) (hst : x.st = 1)
include hup hx hst

/-- An error that the peer reports ends the queue pair with cause 2 (R439). -/
theorem roceNak_fails (p : BitVec 24) {kind : Nat} (hk : kind ≠ 0) :
    (qpAt (roceNak q p kind s) q).st = 2 ∧ (qpAt (roceNak q p kind s) q).cause = 2 := by
  unfold roceNak
  dsimp only
  rw [← hx, if_neg (by simp [hup, hst]), if_neg hk]
  exact qpError_fails ..

/-- The state in which a sequence error is answered: what it acknowledges is gone (R432). -/
def nakked (q : Nat) (x : QueuePair) (gone rest : List OutReq) (s : State) : State :=
  if gone = [] then bump48 19 q 1 1 s else ackedOut q x rest s

theorem roceNak_sequence {p : BitVec 24} {gone rest : List OutReq} (hp : popAcks (p - 1) x.out = (gone, rest)) :
    roceNak q p 0 s = retry q (nakked q x gone rest s) := by
  unfold roceNak
  dsimp only
  rw [← hx, if_neg (by simp [hup, hst]), if_pos rfl, hp]
  rfl

theorem roceTimeout_expired (h : timeoutTicks (qpTimeout s x) ≤ ticksSince s.tick.count x.since) : roceTimeout q s = retry q s := by
  unfold roceTimeout
  dsimp only
  rw [← hx, if_neg (by simp only [hup, hst]; simp; omega)]

end


/-- Where nothing is acknowledged everything stays outstanding. -/
theorem popAcks_nil {p : BitVec 24} {l rest : List OutReq} (h : popAcks p l = ([], rest)) : rest = l := by
  cases l with
  | nil => exact (congrArg Prod.snd h).symm
  | cons r l =>
    unfold popAcks at h
    dsimp only at h
    split at h
    · exact absurd (congrArg Prod.fst h) (by simp)
    · exact (congrArg Prod.snd h).symm

end Sys2Proof.Machine
end

section
/-! Proofs.  What the host transport answers by itself, and doorbells (R426, R428, R448). -/

namespace Sys2Proof.Machine

/-! ### A transport that is down -/

section
variable {s : State} (h : transportUp s = false)
include h

theorem roceRequest_down (q : Nat) (p : BitVec 24) (i : Bool) (f : RoceReq) : roceRequest q p i f s = s := by
  unfold roceRequest
  exact if_pos (by simp [h])

theorem roceAck_down (q : Nat) (p : BitVec 24) (d : List Byte) : roceAck q p d s = s := by
  unfold roceAck
  exact if_pos (.inl (by simp [h]))

theorem roceNak_down (q : Nat) (p : BitVec 24) (k : Nat) : roceNak q p k s = s := by
  unfold roceNak
  exact if_pos (.inl (by simp [h]))

theorem roceTimeout_down (q : Nat) : roceTimeout q s = s := by
  unfold roceTimeout
  exact if_pos (.inl (by simp [h]))

theorem arpRequest_down (n : Nat) (f : List Byte) : arpRequest n f s = s := by
  unfold arpRequest
  exact if_pos (.inl (by simp [h]))

theorem bootDiscover_down (n : Nat) (f : List Byte) : bootDiscover n f s = s := by
  unfold bootDiscover
  exact if_pos (.inl (by simp [h]))

end

/-! ### Frames of the engine -/

section
variable {s : State} {h o ty : Nat} {f : List Byte}

/-- A frame of a host port is counted there once (R105). -/
theorem hostSend_raw (n : Nat) (b : List Byte) (s : State) : hostSend (.raw n b) s =
    bump48 5 n 8 1 (bump48 5 n 9 (b.length + 4) (s.setHost { s.host with sent := s.host.sent ++ [.raw n b] })) := rfl

theorem hostSend_counted (n : Nat) (b : List Byte) (s : State) : Counted 5 n 8 1 s (hostSend (.raw n b) s) := by
  rw [hostSend_raw]
  have h := bump48_counted 5 n 8 1 (bump48 5 n 9 (b.length + 4) (s.setHost { s.host with sent := s.host.sent ++ [.raw n b] }))
  unfold Counted at h ⊢
  rw [h, counter_bump48_ne _ _ _ _ (by decide)]
  rfl

/-- The counters of the transport are none of a port. -/
theorem counter_hostSend_transport (n : Nat) (b : List Byte) (i : Nat) (hn : n < 130) (hi : i < 16) (s : State) :
    counter (hostSend (.raw n b) s) (paddr 19 256 (0x100 + 2 * i)) = counter s (paddr 19 256 (0x100 + 2 * i)) := by
  rw [hostSend_raw]
  unfold bump48
  rw [counter_bump, if_neg (by unfold paddr; omega), counter_bump, if_neg (by unfold paddr; omega)]
  rfl

variable (hup : transportUp s = true) (ht : terminated s (128 + h) f = true) (ha : afterTag f = (o, ty))
include hup ht ha

theorem arpRequest_arp (hty : ty = 0x0806) : arpRequest h f s = hostSend (.raw (128 + h) (arpReply s h f o)) s := by
  unfold arpRequest
  rw [ha]
  dsimp only
  rw [if_neg (by simp [hup, ht]), if_pos hty]

theorem arpRequest_neighbour (hty : ty = 0x86DD) (hn : rd f (o + 6) 1 = 58) :
    arpRequest h f s = hostSend (.raw (128 + h) (neighbourReply s h f o)) s := by
  unfold arpRequest
  rw [ha]
  dsimp only
  rw [if_neg (by simp [hup, ht]), if_neg (by omega), if_pos ⟨hty, hn⟩]

/-- The answer of a host port to a DISCOVER frame, where its boot_enable is set (R428). -/
def announce (f : List Byte) (s : State) (k : Nat) : State :=
  if bitOf (reg s 19 256 (6 + 8 * k)).toNat 0 then sendBoot (128 + k) ((f.drop 6).take 6) 5 [] s else s

theorem bootDiscover_answers (hty : ty = 0x88B5) (hd : rdBe f 0 6 = 0xFFFFFFFFFFFF) (h1 : rd f o 1 = 1)
    (h4 : rd f (o + 1) 1 = 4) : bootDiscover h f s = announce f (announce f (bump48 19 256 5 1 s) 0) 1 := by
  unfold bootDiscover
  rw [ha]
  dsimp only
  rw [if_neg (by simp [hup, ht, hty, hd, h1, h4])]
  rfl

end

/-- The ANNOUNCE frame of a host port (R428). -/
def announceFrame (f : List Byte) (s : State) (k : Nat) : HostFrame :=
  .raw (128 + k) (engineFrame s k (beNat ((f.drop 6).take 6)) 0x88B5 (bootBody 5 []))

theorem sendBoot_host_port (k : Nat) (dst : List Byte) (kind : Nat) (m : List Byte) (s : State) : sendBoot (128 + k) dst kind m s =
    hostSend (.raw (128 + k) (engineFrame s k (beNat (dst.take 6)) 0x88B5 (bootBody kind m))) s := by
  unfold sendBoot
  rw [if_pos (Nat.le_add_right ..), Nat.add_sub_cancel_left]

theorem announce_counter (f : List Byte) (s : State) {k : Nat} (hk : k < 2) :
    counter (announce f s k) (paddr 19 256 (0x100 + 2 * 5)) = counter s (paddr 19 256 (0x100 + 2 * 5)) := by
  unfold announce
  split
  · rw [sendBoot_host_port]
    exact counter_hostSend_transport _ _ 5 (by omega) (by decide) s
  · rfl

/-- Each host port whose boot_enable is set answers (R428). -/
theorem announce_sent (f : List Byte) (s : State) (k : Nat) : (announce f s k).host.sent = s.host.sent ++
    ([k].filter (fun k => bitOf (reg s 19 256 (6 + 8 * k)).toNat 0)).map (announceFrame f s) := by
  unfold announce
  cases hb : bitOf (reg s 19 256 (6 + 8 * k)).toNat 0 with
  | true =>
    rw [sendBoot_host_port]
    simp only [List.filter_cons, hb, List.filter_nil, if_true]
    have he : ((f.drop 6).take 6).take 6 = (f.drop 6).take 6 := by simp
    rw [he]
    rfl
  | false => simp [hb]

/-- The settings that the answers hold are those of the state before. -/
theorem announce_regs (f : List Byte) (s : State) (k : Nat) : (announce f s k).prm.regs = s.prm.regs := by
  unfold announce
  split
  · exact (sendBoot_same ..).regs rfl
  · rfl

theorem announceFrame_congr {s t : State} (h : t.prm.regs = s.prm.regs) (f : List Byte) : announceFrame f t = announceFrame f s := by
  funext k
  unfold announceFrame engineFrame hostMac regField reg
  rw [h]

/-! ### Doorbells -/

/-- Between two states the doorbells that wait stand, and each queue has its doorbell and its argument. -/
structure DoorbellsStand (s t : State) : Prop where
  waiting : t.host.doorbells = s.host.doorbells
  named : ∀ k, ((hqAt t k).doorbell, (hqAt t k).arg) = ((hqAt s k).doorbell, (hqAt s k).arg)

theorem DoorbellsStand.rung {s t : State} (h : DoorbellsStand s t) (k : Nat) : (hqAt t k).doorbell = (hqAt s k).doorbell :=
  congrArg Prod.fst (h.named k)

theorem DoorbellsStand.arg {s t : State} (h : DoorbellsStand s t) (k : Nat) : (hqAt t k).arg = (hqAt s k).arg :=
  congrArg Prod.snd (h.named k)

section
variable {s t u : State}

theorem DoorbellsStand.of_eq (hd : t.host.doorbells = s.host.doorbells) (hq : t.host.queue = s.host.queue) : DoorbellsStand s t :=
  ⟨hd, fun k => by rw [hqAt_congr hq k]⟩

theorem DoorbellsStand.rfl' (s : State) : DoorbellsStand s s := .of_eq rfl rfl

theorem DoorbellsStand.trans (h : DoorbellsStand s t) (k : DoorbellsStand t u) : DoorbellsStand s u :=
  ⟨k.waiting.trans h.waiting, fun j => (k.named j).trans (h.named j)⟩

theorem DoorbellsStand.foldl {α : Type} {g : State → α → State} (h : ∀ s a, DoorbellsStand s (g s a)) (l : List α) (s : State) :
    DoorbellsStand s (l.foldl g s) := by
  induction l generalizing s with
  | nil => exact .rfl' s
  | cons a l ih => exact (h s a).trans (ih _)

theorem setHq_doorbells {q : Nat} {x : Queue} (h : (x.doorbell, x.arg) = ((hqAt s q).doorbell, (hqAt s q).arg)) :
    DoorbellsStand s (setHq q x s) := by
  refine ⟨rfl, fun k => ?_⟩
  rw [hqAt_setHq]
  split
  next hk => rw [hk, h]
  next => rfl

theorem modHq_doorbells {f : Queue → Queue} (h : ∀ x, ((f x).doorbell, (f x).arg) = (x.doorbell, x.arg)) (q : Nat) (s : State) :
    DoorbellsStand s (modHq q f s) := setHq_doorbells (h _)

theorem setHost_doorbells {x : HostIf} (hd : x.doorbells = s.host.doorbells) (hq : x.queue = s.host.queue) :
    DoorbellsStand s (s.setHost x) := .of_eq hd hq

theorem queueDisabled_doorbells (q : Nat) (s : State) : DoorbellsStand s (queueDisabled q s) := by
  have h : (queueDisabled q s).host =
      (setHq q { hqAt s q with st := 3, jobs := [], entries := [], handle := none, rxOff := 0 } s).host := by
    unfold queueDisabled
    dsimp only
    split
    · exact (unbindRing_same ..).host rfl
    · exact (unbindRing_same ..).host rfl
  refine DoorbellsStand.trans (t := setHq q { hqAt s q with st := 3, jobs := [], entries := [], handle := none, rxOff := 0 } s)
    (setHq_doorbells rfl) ?_
  exact .of_eq (congrArg HostIf.doorbells h) (congrArg HostIf.queue h)

theorem settleQueue_doorbells (q : Nat) (s : State) : DoorbellsStand s (settleQueue q s) := by
  unfold settleQueue
  split
  · exact queueDisabled_doorbells ..
  · exact .rfl' s

theorem dropJob_doorbells (q : Nat) (pos : Word) (s : State) : DoorbellsStand s (dropJob q pos s) := setHq_doorbells rfl

theorem stopping_doorbells (q cause : Nat) (s : State) : DoorbellsStand s (stopping q cause s) := by
  unfold stopping
  refine DoorbellsStand.trans (t := setHq q { hqAt s q with
    st := 2, cause := cause, entries := [], fetching := 0, arrived := none, held := [], fullEpisode := false
    jobs := (hqAt s q).jobs.filter (fun j => j.begun) } s) (setHq_doorbells rfl) ?_
  exact .of_eq rfl rfl

theorem givenUp_doorbells (q : Nat) (x : Queue) (s : State) : DoorbellsStand s (givenUp q x s) := by
  have h : DoorbellsStand s (x.held.foldl (fun s e => dropJob e.1 e.2.1 s) s) := .foldl (fun _ _ => dropJob_doorbells ..) _ s
  unfold givenUp
  split
  · refine h.trans ?_
    have hh := (dropHostCopies_same q (x.held.foldl (fun s e => dropJob e.1 e.2.1 s) s)).host rfl
    exact .of_eq (congrArg HostIf.doorbells hh) (congrArg HostIf.queue hh)
  · exact h

theorem disableOne_doorbells (q cause : Nat) (s : State) : DoorbellsStand s (disableOne q cause s) := by
  by_cases h : (hqAt s q).st = 1
  · rw [disableOne_enabled h]
    exact ((stopping_doorbells ..).trans (givenUp_doorbells ..)).trans (settleQueue_doorbells ..)
  · rw [disableOne_idle h]
    exact .rfl' s

theorem disableQueue_doorbells (q cause : Nat) (s : State) : DoorbellsStand s (disableQueue q cause s) := by
  unfold disableQueue
  dsimp only
  split
  · exact (disableOne_doorbells ..).trans (.foldl (fun _ _ => disableOne_doorbells ..) _ _)
  · exact disableOne_doorbells ..

theorem issueReq_doorbells (q : Nat) (r : OutReq) (s : State) : DoorbellsStand s (issueReq q r s) := by
  unfold issueReq
  dsimp only
  split
  · exact .of_eq rfl rfl
  · exact .of_eq rfl rfl

theorem hostWrite_doorbells (k off : Nat) (b : List Byte) (i : Option Word) (p : Purpose) (s : State) :
    DoorbellsStand s (hostWrite k off b i p s).1 := by
  unfold hostWrite
  split
  · exact .rfl' s
  · exact issueReq_doorbells ..

theorem publishHead_doorbells (q : Nat) (s : State) : DoorbellsStand s (publishHead q s) := by
  unfold publishHead
  dsimp only
  split
  · exact .rfl' s
  split
  · exact setHq_doorbells rfl
  · have h := (hostWrite_doorbells (hqAt s q).headRegion (hqAt s q).headOffset (le 8 (hqAt s q).head.toNat) none (.head q) s).trans
      (modHq_doorbells (f := fun x => { x with headTick := some s.tick.count, headOwed := false }) (fun _ => rfl) q _)
    split
    · exact h
    · exact h.trans (disableQueue_doorbells ..)

theorem ringWrite_doorbells (c : Nat) (tail : List Byte) (p : Purpose) (s : State) : DoorbellsStand s (ringWrite c tail p s).1 := by
  unfold ringWrite
  dsimp only
  split
  · refine DoorbellsStand.trans ?_ (publishHead_doorbells ..)
    exact (hostWrite_doorbells ..).trans (modHq_doorbells (by intro x; rfl) ..)
  · exact hostWrite_doorbells ..

theorem writeCompletion_doorbells (c q : Nat) (pos : Word) (tail : List Byte) (s : State) :
    DoorbellsStand s (writeCompletion c q pos tail s) := by
  unfold writeCompletion
  dsimp only
  split
  · exact ringWrite_doorbells ..
  · exact ((ringWrite_doorbells ..).trans (dropJob_doorbells ..)).trans (disableQueue_doorbells ..)

theorem fullEpisode_doorbells (c : Nat) (s : State) : DoorbellsStand s (fullEpisode c s) := by
  unfold fullEpisode
  dsimp only
  split
  · exact (setHq_doorbells (x := { hqAt s c with fullEpisode := true }) rfl).trans (.of_eq rfl rfl)
  · exact .rfl' s

theorem releaseHeld_doorbells (c fuel : Nat) (s : State) : DoorbellsStand s (releaseHeld c fuel s) := by
  induction fuel generalizing s with
  | zero => exact .rfl' s
  | succ fuel ih =>
    unfold releaseHeld
    dsimp only
    split
    · exact setHq_doorbells rfl
    · split
      · exact fullEpisode_doorbells ..
      next rest _ _ =>
        exact ((setHq_doorbells (x := { hqAt s c with held := rest, fullEpisode := false }) rfl).trans
          (writeCompletion_doorbells ..)).trans (ih _)

theorem fetchOne_doorbells (q : Nat) (s : State) : DoorbellsStand s (fetchOne q s) := by
  unfold fetchOne
  dsimp only
  split
  · exact .rfl' s
  split
  · exact disableQueue_doorbells ..
  split
  · exact .rfl' s
  · have h : ∀ k o n p (s : State), DoorbellsStand s (hostRead k o n p s).1 := fun k o n p s => by
      unfold hostRead
      split
      · exact .rfl' s
      · exact issueReq_doorbells ..
    refine DoorbellsStand.trans ?_ (setHost_doorbells (by rfl) (by rfl))
    exact (h ..).trans (modHq_doorbells (by intro x; rfl) ..)

theorem pumpFetch_doorbells (s : State) : DoorbellsStand s (pumpFetch s) := by
  unfold pumpFetch
  split
  · exact .rfl' s
  · exact .foldl (fun _ _ => fetchOne_doorbells ..) _ _

end

section
variable {s : State} {q : Nat} {v : Dword} {rest : List (Nat × Dword)}

theorem doorbellWrite_idle (h : s.host.doorbells = [] ∨ inService s 18 0 = false) : doorbellWrite s = s := by
  unfold doorbellWrite
  split
  · rfl
  next q v rest hd => exact if_pos (by simp [h.resolve_left (by simp [hd])])

variable (hd : s.host.doorbells = (q, v) :: rest) (hs : inService s 18 0 = true)
include hd hs

theorem doorbellWrite_front : doorbellWrite s = doorbell q v (s.setHost { s.host with doorbells := rest }) := by
  unfold doorbellWrite
  rw [hd]
  exact if_neg (by simp [hs])

/-- A doorbell of a queue that is FREE is taken off (log entry 46). -/
theorem doorbellWrite_free (h : (hqAt s q).st = 0) : doorbellWrite s = s.setHost { s.host with doorbells := rest } := by
  rw [doorbellWrite_front hd hs]
  exact if_pos h

/-- An invalid doorbell is taken off and counted (R448). -/
theorem doorbellWrite_invalid (h : (hqAt s q).st ≠ 0) (hv : doorbellOk (hqAt s q) v = false) :
    (doorbellWrite s).host = { s.host with doorbells := rest } ∧
      counter (doorbellWrite s) (paddr 18 q 7) = min (counter s (paddr 18 q 7) + 1) (2 ^ 32 - 1) := by
  have e : doorbellWrite s = raiseLimited Ev.dbInvalid q (fun n => le 2 q ++ le 4 n)
      (bump32 18 q 7 1 (s.setHost { s.host with doorbells := rest })) := by
    rw [doorbellWrite_front hd hs]
    exact (if_neg h).trans (if_pos (by simp only [show hqAt (s.setHost { s.host with doorbells := rest }) q = hqAt s q from rfl, hv]; rfl))
  rw [e]
  refine ⟨(raiseLimited_same ..).host rfl, ?_⟩
  rw [counter_congr ((raiseLimited_same ..).prm rfl), counter_bump32_self]
  rfl

/-- A valid doorbell is in force (R448). -/
theorem doorbellWrite_valid (h : (hqAt s q).st ≠ 0) (hv : doorbellOk (hqAt s q) v = true) :
    (doorbellWrite s).host.doorbells = rest ∧ (hqAt (doorbellWrite s) q).doorbell = BitVec.ofNat 32 v.toNat := by
  rw [doorbellWrite_front hd hs]
  unfold doorbell
  dsimp only
  have hx : hqAt (s.setHost { s.host with doorbells := rest }) q = hqAt s q := rfl
  rw [hx, if_neg h, if_neg (by simp [hv])]
  set u := setHq q { hqAt s q with doorbell := BitVec.ofNat 32 v.toNat } (s.setHost { s.host with doorbells := rest }) with hu
  have hq : (hqAt u q).doorbell = BitVec.ofNat 32 v.toNat := congrArg Queue.doorbell (hqAt_setHq_self ..)
  have hg : DoorbellsStand u (if (hqAt s q).kind = 8 then releaseHeld q ((hqAt s q).held.length + 1) u else u) := by
    split
    · exact releaseHeld_doorbells ..
    · exact .rfl' u
  have hp := hg.trans (pumpFetch_doorbells _)
  exact ⟨hp.waiting, (hp.rung q).trans hq⟩

end

end Sys2Proof.Machine
end

section
/-! Proofs.  The routes of messages: mailbox and bootstrap frames; the host transport as a whole (R426 to R439, R474 to R478). -/

namespace Sys2Proof.Machine

/-! ### Messages -/

section
variable {m : List Byte} {base : Req} {limit : Nat} {s : State}

/-- A message in order runs as its command (R478). -/
theorem runMessage_runs (h : messageFault limit m = none) :
    runMessage limit base m s = runToune (rd m 4 2) (bodyOf (rd m 4 2)) (reqOf base m) s := by
  unfold runMessage
  rw [h]

/-- A message that fails check 1 or 2 is answered by its header (R478). -/
theorem runMessage_fault {st : Half} (hmc : mcAccepts s = true) (h : messageFault limit m = some st) :
    runMessage limit base m s = finish (rd m 4 2) (reqOf base m) (.no st) true s := by
  unfold runMessage
  rw [h]
  exact if_pos hmc

theorem mcAccepts_awake (h : mcAccepts s = true) : ¬(s.sys.mode = .reset ∨ (!inService s 26 0) = true) := by
  unfold mcAccepts at h
  rw [Bool.and_eq_true] at h
  obtain ⟨ha, hb⟩ := h
  simp only [hb]
  simpa using ha

theorem send_audit (p : Response) (s : State) : (send p s).toune.audit = s.toune.audit := by
  unfold send
  dsimp only
  split <;> simp [setSession, deliver_toune]

/-- A request repeated over the bootstrap is answered with the response kept (R429). -/
theorem runToune_again {op : Nat} {body : Req → State → State × Reply} {r : Req} {p : Response} (hmc : mcAccepts s = true)
    (ho : sessionOpen? s r.session = true) (hv : r.protocol = expectVersion s op r) (hs : bootSeq op r s = .again p) :
    runToune op body r s =
      bump48 19 256 6 1 (send { p with slot := r.slot, port := r.port, source := r.source } (touch r s)) := by
  unfold runToune
  dsimp only
  rw [if_neg (mcAccepts_awake hmc), sessionOpen_touch, expectVersion_touch, bootSeq_touch, ho, ← hv, hs]
  simp

end

/-! ### The mailbox -/

theorem raiseLimited_responses (code key : Nat) (d : Nat → List Byte) (s : State) :
    (raiseLimited code key d s).toune.responses = s.toune.responses := by
  unfold raiseLimited raiseOnce
  dsimp only
  split <;> rfl

section
variable {s : State} {q k : Nat} {b : Bool} {rest : List (Nat × Nat × Bool)}

theorem mailboxRequest_idle (h : s.host.imms = [] ∨ mcAccepts s = false) (c : Nat) (d : Option (List Byte)) :
    mailboxRequest c d s = s := by
  unfold mailboxRequest
  split
  · rfl
  next q k b rest hi => exact if_pos (by simp [h.resolve_left (by simp [hi])])

/-- The slot of a request is busy, and its response invalid, while it executes (R434). -/
def mailTaken (q k : Nat) (rest : List (Nat × Nat × Bool)) (s : State) : State :=
  setSlot k { slotAt s k with busy := true, qp := q, response := splice (padTo 4096 (slotAt s k).response) 0 (le 2 0) }
    (s.setHost { s.host with imms := rest })

/-- What the mailbox says of its request (R434). -/
def mailboxBase (q k c : Nat) (d : Option (List Byte)) (s : State) : Req :=
  { route := .mailbox, hp1 := (qpAt s q).port == 1, qp := BitVec.ofNat 16 q, source := peerOf s q,
    cycle := c, slot := some k, hostData := d }

variable (hi : s.host.imms = (q, k, b) :: rest) (hmc : mcAccepts s = true)
include hi hmc

/-- A request in a busy slot is counted, and told (R434). -/
theorem mailboxRequest_busy (h : (slotAt s k).busy = true) (c : Nat) (d : Option (List Byte)) : mailboxRequest c d s =
    raiseLimited Ev.mboxBusy 0 (fun n => le 4 n) (bump48 19 256 4 1 (s.setHost { s.host with imms := rest })) := by
  unfold mailboxRequest
  rw [hi]
  exact (if_neg (by simp [hmc])).trans (if_pos h)

theorem mailboxRequest_runs (h : (slotAt s k).busy = false) (c : Nat) (d : Option (List Byte)) : mailboxRequest c d s =
    runMessage 4096 (mailboxBase q k c d s) (padTo 4096 (slotAt s k).request) (mailTaken q k rest s) := by
  unfold mailboxRequest
  rw [hi]
  exact (if_neg (by simp [hmc])).trans (if_neg (fun hb : (slotAt s k).busy = true => by simp [h] at hb))

end

/-! ### Bootstrap frames -/

/-- What a bootstrap frame says of its request (R428). -/
def bootBase (n c : Nat) (f : List Byte) (d : Option (List Byte)) : Req :=
  { route := .bootstrap, hp1 := n == 129, source := (f.drop 6).take 6, cycle := c, port := n, hostData := d }

/-- A message frame of the bootstrap is counted (R428). -/
def bootTaken (n : Nat) (f : List Byte) (s : State) : State := bump48 19 256 5 1 (takeMc n f s)

section
variable {s : State} {n c o : Nat} {f m : List Byte} {d : Option (List Byte)}

theorem bootFrameRx_idle (h : mcAccepts s = false ∨ bootReaches s n f = false) (c : Nat) (d : Option (List Byte)) :
    bootFrameRx n c f d s = s := by
  unfold bootFrameRx
  exact if_pos (by rcases h with h | h <;> simp [h])

variable (hmc : mcAccepts s = true) (hr : bootReaches s n f = true) (ho : o = (afterTag f).1) (h1 : rd f o 1 = 1)
  (hk : rd f (o + 1) 1 = 1) (hm : m = (f.drop (o + 8)).take (rd f (o + 2) 2))
include hmc hr ho h1 hk hm

/-- A message that fails check 1 or 2 is counted and discarded (R478). -/
theorem bootFrameRx_fault (h : messageFault 4096 m ≠ none) (c : Nat) (d : Option (List Byte)) :
    bootFrameRx n c f d s = bump48 19 256 7 1 (bootTaken n f s) := by
  subst hm ho
  unfold bootFrameRx
  dsimp only
  rw [if_neg (by simp [hmc, hr]), if_neg (by simp [h1, hk])]
  obtain ⟨st, hst⟩ := Option.ne_none_iff_exists'.mp h
  rw [hst]
  rfl

/-- A message in sequence with no slot free is answered BUSY (R430). -/
theorem bootFrameRx_busy (h : messageFault 4096 m = none) (hs : bootSeq (rd m 4 2) (reqOf (bootBase n c f d) m) s = .run)
    (hf : freeMailSlot s = none) : bootFrameRx n c f d s = sendBoot n ((f.drop 6).take 6) 2 [] (bootTaken n f s) := by
  subst hm ho
  have hs' : bootSeq (rd ((f.drop ((afterTag f).1 + 8)).take (rd f ((afterTag f).1 + 2) 2)) 4 2)
    (reqOf (bootBase n c f d) ((f.drop ((afterTag f).1 + 8)).take (rd f ((afterTag f).1 + 2) 2))) (bootTaken n f s) = .run := hs
  have hf' : freeMailSlot (bootTaken n f s) = none := hf
  unfold bootFrameRx
  dsimp only
  rw [if_neg (by simp [hmc, hr]), if_neg (by simp [h1, hk]), h]
  dsimp only
  unfold bootTaken bootBase at hs'
  rw [hs']
  dsimp only
  unfold bootTaken at hf'
  rw [hf']
  rfl

/-- A message in sequence takes the lowest free slot and runs (R430). -/
theorem bootFrameRx_runs {k : Nat} (h : messageFault 4096 m = none)
    (hs : bootSeq (rd m 4 2) (reqOf (bootBase n c f d) m) s = .run) (hf : freeMailSlot s = some k) : bootFrameRx n c f d s =
      runMessage 4096 { bootBase n c f d with slot := some k } m
        (setSlot k { slotAt s k with busy := true } (bootTaken n f s)) := by
  subst hm ho
  have hs' : bootSeq (rd ((f.drop ((afterTag f).1 + 8)).take (rd f ((afterTag f).1 + 2) 2)) 4 2)
    (reqOf (bootBase n c f d) ((f.drop ((afterTag f).1 + 8)).take (rd f ((afterTag f).1 + 2) 2))) (bootTaken n f s) = .run := hs
  have hf' : freeMailSlot (bootTaken n f s) = some k := hf
  unfold bootFrameRx
  dsimp only
  rw [if_neg (by simp [hmc, hr]), if_neg (by simp [h1, hk]), h]
  dsimp only
  unfold bootTaken bootBase at hs'
  rw [hs']
  dsimp only
  unfold bootTaken at hf'
  rw [hf']
  rfl

/-- A message repeated goes to the sequence check of R429. -/
theorem bootFrameRx_again {p : Response} (h : messageFault 4096 m = none)
    (hs : bootSeq (rd m 4 2) (reqOf (bootBase n c f d) m) s = .again p) : bootFrameRx n c f d s =
      runMessage 4096 (bootBase n c f d) m (bootTaken n f s) := by
  subst hm ho
  have hs' : bootSeq (rd ((f.drop ((afterTag f).1 + 8)).take (rd f ((afterTag f).1 + 2) 2)) 4 2)
    (reqOf (bootBase n c f d) ((f.drop ((afterTag f).1 + 8)).take (rd f ((afterTag f).1 + 2) 2))) (bootTaken n f s) = .again p := hs
  unfold bootFrameRx
  dsimp only
  rw [if_neg (by simp [hmc, hr]), if_neg (by simp [h1, hk]), h]
  dsimp only
  unfold bootTaken bootBase at hs'
  rw [hs']
  rfl

end

end Sys2Proof.Machine
end

section
/-! Proofs.  Requests, acknowledgements, messages and doorbells over the host transport (R426 to R439, R448, R478). -/

namespace Sys2Proof.Machine

section
variable {s : State} {q : Fin 256} {x : QueuePair}

/-- A pair without requests under way that answers a forbidden access fails with its event alone (R436, R439). -/
theorem accessError_idle {q : Nat} (h : (qpAt s q).out = []) (psn : BitVec 24) :
    (accessError q psn s).host.sent = s.host.sent ++ [.accessNak q psn] ∧ (accessError q psn s).host.queue = s.host.queue ∧
      Raised [(Ev.qpError, le 2 q ++ le 1 3 ++ le 4 psn.toNat ++ le 8 s.tick.count.toNat)] s (accessError q psn s) := by
  unfold accessError
  have h' : (qpAt (bump48 19 256 1 1 (bump48 19 q 0 1 (hostSend (.accessNak q psn) s))) q).out = [] := h
  rw [qpError_idle h']
  exact ⟨rfl, rfl, raise_raised _ _ rfl⟩

/-- A forbidden access: answered, and the queue pair in ERROR with cause 3 (R436). -/
theorem roceRequest_refuses (hup : transportUp s = true) (hx : x = qpAt s q) (hst : x.st = 1)
    (hgo : tickGe s.tick.count x.start = true) (hon : roceOn s x = true) {f : RoceReq}
    (h : (∃ key va b imm, f = .write key va b imm ∧ rdmaWrite key va b s = none) ∨
      ∃ key va n, f = .read key va n ∧ rdmaRead s key va n = none) :
    ∃ t, exec (.roceRequestRx q x.rqPsn true f) s = .next t ∧ (qpAt t q).st = 2 ∧ (qpAt t q).cause = 3 ∧
      (x.out = [] → t.host.sent = s.host.sent ++ [.accessNak q x.rqPsn] ∧ t.host.queue = s.host.queue ∧
        Raised [(Ev.qpError, le 2 q ++ le 1 3 ++ le 4 x.rqPsn.toNat ++ le 8 s.tick.count.toNat)] s t) := by
  subst hx
  refine ⟨_, rfl, ?_⟩
  rw [roceRequest_forbidden hup hst hgo hon h]
  obtain ⟨h2, h3⟩ := qpError_fails q 3 (qpAt s q).rqPsn
    (bump48 19 256 1 1 (bump48 19 q 0 1 (hostSend (.accessNak q (qpAt s q).rqPsn) (bump48 19 q 1 f.packets s))))
  exact ⟨h2, h3, fun ho => accessError_idle (s := bump48 19 q 1 f.packets s) ho _⟩

/-- A sequence error, from where its acknowledgement leaves the queue pair (R432, R439). -/
theorem roceNak_retries (hup : transportUp s = true) (hx : x = qpAt s q) (hst : x.st = 1) {p : BitVec 24}
    {gone rest : List OutReq} {n : Nat} (hp : popAcks (p - 1) x.out = (gone, rest))
    (hn : n = if gone = [] then x.resends else 0) (hr : rest ≠ []) :
    (n < qpRetry s x → (qpAt (roceNak q p 0 s) q).out = rest ∧ (qpAt (roceNak q p 0 s) q).resends = n + 1 ∧
      (qpAt (roceNak q p 0 s) q).since = s.tick.count ∧
      (roceNak q p 0 s).host.sent = s.host.sent ++ rest.map (HostFrame.request q)) ∧
    (qpRetry s x ≤ n → (qpAt (roceNak q p 0 s) q).st = 2 ∧ (qpAt (roceNak q p 0 s) q).cause = 1) := by
  have hy : ∃ y, y = qpAt (nakked q x gone rest s) q ∧ y.out = rest ∧ y.resends = n ∧ y.arg = x.arg ∧
      (nakked q x gone rest s).host.sent = s.host.sent ∧ (nakked q x gone rest s).prm.regs = s.prm.regs ∧
      (nakked q x gone rest s).tick = s.tick := by
    unfold nakked
    by_cases hg : gone = []
    · rw [if_pos hg] at hn ⊢
      subst hg
      exact ⟨x, hx, (popAcks_nil hp).symm, hn.symm, rfl, rfl, rfl, rfl⟩
    · rw [if_neg hg] at hn ⊢
      exact ⟨_, (qpAt_setQp_self q { x with out := rest, since := s.tick.count, resends := 0 } _).symm, rfl, hn.symm, rfl,
        rfl, rfl, rfl⟩
  obtain ⟨y, hy, hout, hres, harg, hsent, hregs, htick⟩ := hy
  have hret : qpRetry (nakked q x gone rest s) y = qpRetry s x := by
    unfold qpRetry regField reg
    rw [harg, hregs]
  rw [roceNak_sequence hup hx hst hp]
  refine ⟨fun hlt => ?_, fun hle => retry_fails hy (by rwa [hout]) (by rw [hret, hres]; exact hle)⟩
  have h := retry_resends hy (by rwa [hout]) (by rw [hret, hres]; exact hlt)
  have hq : qpAt (retry q (nakked q x gone rest s)) q =
      { y with since := (nakked q x gone rest s).tick.count, resends := y.resends + 1 } := by
    rw [qpAt_congr (s := setQp q { y with since := (nakked q x gone rest s).tick.count, resends := y.resends + 1 }
      (nakked q x gone rest s)) (by rw [h]; rfl)]
    exact qpAt_setQp_self ..
  rw [hq, h]
  exact ⟨hout, by rw [hres], by rw [htick], by rw [hsent, hout]⟩

/-- A timer that runs out sends again, or ends the queue pair (R432, R439). -/
theorem roceTimeout_retries (hup : transportUp s = true) (hx : x = qpAt s q) (hst : x.st = 1)
    (h : timeoutTicks (qpTimeout s x) ≤ ticksSince s.tick.count x.since) (ho : x.out ≠ []) :
    (x.resends < qpRetry s x → (qpAt (roceTimeout q s) q).out = x.out ∧ (qpAt (roceTimeout q s) q).resends = x.resends + 1 ∧
      (roceTimeout q s).host.sent = s.host.sent ++ x.out.map (HostFrame.request q)) ∧
    (qpRetry s x ≤ x.resends → (qpAt (roceTimeout q s) q).st = 2 ∧ (qpAt (roceTimeout q s) q).cause = 1) := by
  rw [roceTimeout_expired hup hx hst h]
  refine ⟨fun hlt => ?_, retry_fails hx ho⟩
  have hr := retry_resends hx ho hlt
  have hq : qpAt (retry q s) q = { x with since := s.tick.count, resends := x.resends + 1 } := by
    rw [qpAt_congr (s := setQp q { x with since := s.tick.count, resends := x.resends + 1 } s) (by rw [hr]; rfl)]
    exact qpAt_setQp_self ..
  rw [hq, hr]
  exact ⟨rfl, rfl, rfl⟩

end

/-! ### What the engine answers by itself -/

/-- A DISCOVER frame is answered from each enabled host port (R428). -/
theorem bootDiscover_sent {s : State} {h o ty : Nat} {f : List Byte} (hup : transportUp s = true)
    (ht : terminated s (128 + h) f = true) (ha : afterTag f = (o, ty)) (hty : ty = 0x88B5) (hd : rdBe f 0 6 = 0xFFFFFFFFFFFF)
    (h1 : rd f o 1 = 1) (h4 : rd f (o + 1) 1 = 4) : Counted 19 256 5 1 s (bootDiscover h f s) ∧
      (bootDiscover h f s).host.sent = s.host.sent ++ ([0, 1].filter (fun k =>
        bitOf (reg s 19 256 (6 + 8 * k)).toNat 0)).map (announceFrame f s) := by
  rw [bootDiscover_answers hup ht ha hty hd h1 h4]
  have hc := bump48_counted 19 256 5 1 s
  unfold Counted at hc ⊢
  have hr : (announce f (bump48 19 256 5 1 s) 0).prm.regs = s.prm.regs := announce_regs ..
  have he : ∀ k, reg (announce f (bump48 19 256 5 1 s) 0) 19 256 k = reg s 19 256 k := fun k => by
    unfold reg
    rw [hr]
  refine ⟨?_, ?_⟩
  · rw [announce_counter _ _ (by decide), announce_counter _ _ (by decide), hc]
  · have hs : (bump48 19 256 5 1 s).host.sent = s.host.sent := rfl
    have hf : announceFrame f (bump48 19 256 5 1 s) = announceFrame f s := announceFrame_congr rfl f
    rw [announce_sent, announce_sent, announceFrame_congr hr, hf, hs]
    simp only [he]
    have hb : ∀ k, reg (bump48 19 256 5 1 s) 19 256 k = reg s 19 256 k := fun _ => rfl
    simp only [hb]
    rw [List.append_assoc, ← List.map_append, ← List.filter_append]
    rfl

/-! ### The clauses -/

section
variable {s : State} {q : Fin 256} {x : QueuePair} (hup : transportUp s = true) (hx : x = qpAt s q) (hst : x.st = 1)
  (hgo : tickGe s.tick.count x.start = true) (hon : roceOn s x = true)
include hup hx hst hgo hon

theorem roceWrite_applies (key : Word) (va : Nat) (b : List Byte) (imm : Option Word) (u : State)
    (h : rdmaWrite key va b s = some u) : ∃ t, exec (.roceRequestRx q x.rqPsn true (.write key va b imm)) s = .next t ∧
      qpAt t q = { x with rqPsn := x.rqPsn + BitVec.ofNat 24 (packetsOf b.length), nakOut := false } ∧
      t.host.sent = s.host.sent ++ [.ack q (x.rqPsn + BitVec.ofNat 24 (packetsOf b.length) - 1)] ∧
      t.host.slot = u.host.slot ∧ t.host.doorbells = u.host.doorbells ∧ t.host.stackWin = u.host.stackWin ∧
      t.host.peatWin = u.host.peatWin ∧ t.host.imms = s.host.imms ++
        (match imm with | some v => if v.toNat < 64 then [(q.val, v.toNat, false)] else [] | none => []) := by
  subst hx
  have e := roceRequest_write hup hst hgo hon (imm := imm) h
  refine ⟨_, rfl, ?_⟩
  have hq : qpAt (roceRequest q (qpAt s q).rqPsn true (.write key va b imm) s) q =
      { qpAt s q with rqPsn := (qpAt s q).rqPsn + BitVec.ofNat 24 (packetsOf b.length), nakOut := false } := by
    unfold qpAt at e ⊢
    rw [e]
    exact tgetD_tput_self ..
  refine ⟨hq, ?_⟩
  rw [e]
  refine ⟨rfl, rfl, rfl, rfl, rfl, ?_⟩
  cases imm <;> rfl

theorem roceRead_answers (key : Word) (va n : Nat) (b : List Byte) (hk : key ≠ 0x13) (h : rdmaRead s key va n = some b) :
    ∃ t, exec (.roceRequestRx q x.rqPsn true (.read key va n)) s = .next t ∧
      (qpAt t q).rqPsn = x.rqPsn + BitVec.ofNat 24 (packetsOf n) ∧
      t.host.sent = s.host.sent ++ [.readData q x.rqPsn b] ∧ t.host.slot = s.host.slot := by
  subst hx
  have e := roceRequest_read hup hst hgo hon hk h
  refine ⟨_, rfl, ?_⟩
  have hq : (qpAt (roceRequest q (qpAt s q).rqPsn true (.read key va n) s) q).rqPsn =
      (qpAt s q).rqPsn + BitVec.ofNat 24 (packetsOf n) := by
    unfold qpAt at e ⊢
    rw [e]
    exact congrArg QueuePair.rqPsn (tgetD_tput_self ..)
  refine ⟨hq, ?_⟩
  rw [e]
  exact ⟨rfl, rfl⟩

theorem roceSend_answers (b : List Byte) (hb : b.length ≤ 4096) :
    (freeMailSlot s = none → ∃ t, exec (.roceRequestRx q x.rqPsn true (.send b)) s = .next t ∧ t.host.qp = s.host.qp ∧
      t.host.slot = s.host.slot ∧ t.host.sent = s.host.sent ++ [.rnrNak q x.rqPsn]) ∧
    (∀ k, freeMailSlot s = some k → ∃ t, exec (.roceRequestRx q x.rqPsn true (.send b)) s = .next t ∧
      (slotAt t k).request = padTo 4096 b ∧ t.host.imms = s.host.imms ++ [(q.val, k, true)] ∧
      (qpAt t q).rqPsn = x.rqPsn + BitVec.ofNat 24 (packetsOf b.length)) := by
  subst hx
  refine ⟨fun hf => ⟨_, rfl, ?_⟩, fun k hf => ⟨_, rfl, ?_⟩⟩
  · rw [roceRequest_send_full hup hst hgo hon hb hf]
    exact ⟨rfl, rfl, rfl⟩
  · have e := roceRequest_send hup hst hgo hon hb hf
    have hs : (slotAt (roceRequest q (qpAt s q).rqPsn true (.send b) s) k).request = padTo 4096 b := by
      unfold slotAt
      rw [e]
      exact congrArg Slot.request (tgetD_tput_self ..)
    have hq : (qpAt (roceRequest q (qpAt s q).rqPsn true (.send b) s) q).rqPsn =
        (qpAt s q).rqPsn + BitVec.ofNat 24 (packetsOf b.length) := by
      unfold qpAt at e ⊢
      rw [e]
      exact congrArg QueuePair.rqPsn (tgetD_tput_self ..)
    refine ⟨hs, ?_, hq⟩
    rw [e]

theorem roceGap_answers (p : BitVec 24) (f : RoceReq) (h0 : 0 < (p - x.rqPsn).toNat) (h1 : (p - x.rqPsn).toNat < 2 ^ 23) :
    ∃ t, exec (.roceRequestRx q p true f) s = .next t ∧ t.host.slot = s.host.slot ∧ t.host.imms = s.host.imms ∧
      (x.nakOut = false → qpAt t q = { x with nakOut := true } ∧ t.host.sent = s.host.sent ++ [.seqNak q x.rqPsn]) ∧
      (x.nakOut = true → t.host = s.host) := by
  subst hx
  have e := roceRequest_gap hup hst hgo hon f h0 h1
  refine ⟨_, rfl, ?_⟩
  cases hn : (qpAt s q).nakOut with
  | true =>
    rw [hn, if_pos rfl] at e
    rw [e]
    exact ⟨rfl, rfl, fun h => absurd h (by decide), fun _ => rfl⟩
  | false =>
    rw [hn, if_neg (by decide)] at e
    have hq : qpAt (roceRequest q p true f s) q = { qpAt s q with nakOut := true } := by
      unfold qpAt at e ⊢
      rw [e]
      exact tgetD_tput_self ..
    rw [e]
    exact ⟨rfl, rfl, fun _ => ⟨hq, rfl⟩, fun h => absurd h (by decide)⟩

end

end Sys2Proof.Machine
end

section
/-! Proofs.  The host transport, the routes of messages, and doorbells (R426 to R439, R448, R478): the clauses of O52. -/

namespace Sys2Proof.Machine

/-! ### Mailbox and bootstrap -/

section
variable {s : State} {c : Fin 1350} {d : Option (List Byte)}

/-- A request in a mailbox slot: counted where the slot is busy, answered where it fails check 1 or 2, run otherwise (R434). -/
theorem mailboxRequest_spec {q k : Nat} {b : Bool} {rest : List (Nat × Nat × Bool)} (hi : s.host.imms = (q, k, b) :: rest)
    (hmc : mcAccepts s = true) :
    ((slotAt s k).busy = true → ∃ t, exec (.mailboxRequest c d) s = .next t ∧ t.host.imms = rest ∧
      t.host.slot = s.host.slot ∧ t.toune.responses = s.toune.responses ∧ Counted 19 256 4 1 s t) ∧
    (∀ m u base, (slotAt s k).busy = false → m = padTo 4096 (slotAt s k).request → u = mailTaken q k rest s →
      base = mailboxBase q k c d s →
      (∀ st, messageFault 4096 m = some st → ∃ t, exec (.mailboxRequest c d) s = .next t ∧
        Answered (rd m 4 2) (reqOf base m) st [] s t) ∧
      (∀ op cmd, messageFault 4096 m = none → rd m 4 2 = op →
        (op, cmd) ∈ [(Op.sessionPing, Instr.sessionPing), (Op.queueCreate, Instr.queueCreate),
          (Op.ruleWrite, Instr.ruleWrite), (Op.flowRead, Instr.flowRead), (Op.timeQuery, Instr.timeQuery),
          (Op.modeSet, Instr.modeSet)] →
        ∃ t, exec (.mailboxRequest c d) s = .next t ∧ exec (cmd (reqOf base m)) u = .next t)) := by
  refine ⟨fun hb => ⟨_, rfl, ?_⟩, fun m u base hb hm hu hbase => ?_⟩
  · rw [mailboxRequest_busy hi hmc hb]
    have hh := (raiseLimited_same Ev.mboxBusy 0 (fun n => le 4 n)
      (bump48 19 256 4 1 (s.setHost { s.host with imms := rest }))).host rfl
    refine ⟨congrArg HostIf.imms hh, Eq.trans (congrArg HostIf.slot hh) rfl, raiseLimited_responses .., ?_⟩
    unfold Counted
    rw [counter_congr ((raiseLimited_same ..).prm rfl)]
    exact bump48_counted 19 256 4 1 (s.setHost { s.host with imms := rest })
  · subst hm hu hbase
    have e := mailboxRequest_runs hi hmc hb c d
    refine ⟨fun st hf => ⟨_, rfl, ?_⟩, fun op cmd hf hop hmem => ⟨_, rfl, ?_⟩⟩
    · rw [e, runMessage_fault (s := mailTaken q k rest s) hmc hf]
      obtain ⟨p, hp, hop, hse, hsq, hst, hpl, -⟩ := finish_answered (rd (padTo 4096 (slotAt s k).request) 4 2)
        (reqOf (mailboxBase q k c d s) (padTo 4096 (slotAt s k).request)) (.no st) true (mailTaken q k rest s) rfl
      exact ⟨p, hp, hop, hse, hsq, hst, hpl⟩
    · have e' : mailboxRequest c d s = _ := e.trans (runMessage_runs hf)
      rw [hop] at e'
      rw [e']
      simp only [List.mem_cons, Prod.mk.injEq, List.not_mem_nil, or_false] at hmem
      rcases hmem with ⟨rfl, rfl⟩ | ⟨rfl, rfl⟩ | ⟨rfl, rfl⟩ | ⟨rfl, rfl⟩ | ⟨rfl, rfl⟩ | ⟨rfl, rfl⟩ <;> rfl

variable {n : Fin 130} {f m : List Byte} {o : Nat} (hmc : mcAccepts s = true) (hr : bootReaches s n f = true)
  (ho : o = (afterTag f).1) (h1 : rd f o 1 = 1) (hk : rd f (o + 1) 1 = 1) (hm : m = (f.drop (o + 8)).take (rd f (o + 2) 2))
include hmc hr ho h1 hk hm

/-- A bootstrap message that fails check 1 or 2 changes the counters alone (R478). -/
theorem bootFrameRx_counts (h : messageFault 4096 m ≠ none) : ∃ t, exec (.bootFrameRx n c f d) s = .next t ∧
    t.toune = s.toune ∧ Counted 19 256 5 1 s t ∧ Counted 19 256 7 1 s t ∧ t.host = s.host := by
  refine ⟨_, rfl, ?_⟩
  rw [bootFrameRx_fault hmc hr ho h1 hk hm h]
  have h5 : Counted 19 256 5 1 s (bootTaken n f s) := bump48_counted 19 256 5 1 (takeMc n f s)
  have h7 := bump48_counted 19 256 7 1 (bootTaken n f s)
  have hn : counter (bootTaken n f s) (paddr 19 256 (0x100 + 2 * 7)) = counter s (paddr 19 256 (0x100 + 2 * 7)) :=
    counter_bump48_ne 19 256 1 (takeMc n f s) (by decide)
  unfold Counted at h5 h7 ⊢
  refine ⟨rfl, ?_, ?_, rfl⟩
  · rw [counter_bump48_ne _ _ _ _ (by decide), h5]
  · rw [h7, hn]

/-- A bootstrap message with no slot free is answered BUSY from the port that received it (R430). -/
theorem bootFrameRx_answers_busy (h : messageFault 4096 m = none)
    (hs : bootSeq (rd m 4 2) (reqOf (bootBase n c f d) m) s = .run) (hf : freeMailSlot s = none) :
    ∃ t, exec (.bootFrameRx n c f d) s = .next t ∧ t.toune = s.toune ∧ t.host.slot = s.host.slot ∧
      (128 ≤ n.val → t.host.sent.length = s.host.sent.length + 1) ∧
      (n.val < 128 → t.host = s.host ∧ ∃ g, tgetD (fun _ => []) t.path.gens (n / 32) =
        tgetD (fun _ => []) s.path.gens (n / 32) ++ [g] ∧ g.reply = some n.val) := by
  refine ⟨_, rfl, ?_⟩
  rw [bootFrameRx_busy hmc hr ho h1 hk hm h hs hf]
  refine ⟨sendBoot_toune .., ?_⟩
  unfold sendBoot
  split
  next hn => exact ⟨rfl, fun _ => List.length_append, fun hl => absurd hn (by omega)⟩
  next hn => exact ⟨rfl, fun hl => absurd hl hn, fun _ => ⟨rfl, _, tgetD_tput_self .., rfl⟩⟩

/-- A bootstrap message with a slot free runs in it (R430). -/
theorem bootFrameRx_runs_command (h : messageFault 4096 m = none)
    (hs : bootSeq (rd m 4 2) (reqOf (bootBase n c f d) m) s = .run) (k : Nat) (u : State) (op : Nat) (cmd : Req → Instr)
    (hf : freeMailSlot s = some k) (hop : rd m 4 2 = op)
    (hmem : (op, cmd) ∈ [(Op.sessionOpen, Instr.sessionOpen), (Op.sessionPing, Instr.sessionPing),
      (Op.paramWrite, Instr.paramWrite), (Op.fwStage, Instr.fwStage), (Op.modeSet, Instr.modeSet)])
    (hu : u = setSlot k { slotAt s k with busy := true } (bump48 19 256 5 1 (takeMc n f s))) :
    ∃ t, exec (.bootFrameRx n c f d) s = .next t ∧
      exec (cmd (reqOf { bootBase n c f d with slot := some k } m)) u = .next t := by
  refine ⟨_, rfl, ?_⟩
  rw [bootFrameRx_runs hmc hr ho h1 hk hm h hs hf, runMessage_runs h, hop, hu]
  simp only [List.mem_cons, Prod.mk.injEq, List.not_mem_nil, or_false] at hmem
  rcases hmem with ⟨rfl, rfl⟩ | ⟨rfl, rfl⟩ | ⟨rfl, rfl⟩ | ⟨rfl, rfl⟩ | ⟨rfl, rfl⟩ <;> rfl

/-- A bootstrap message repeated gets its answer again, and is not audited again (R429). -/
theorem bootFrameRx_answers_again (p : Response) (h : messageFault 4096 m = none)
    (hs : bootSeq (rd m 4 2) (reqOf (bootBase n c f d) m) s = .again p)
    (hop : sessionOpen? s (reqOf (bootBase n c f d) m).session = true)
    (hv : (reqOf (bootBase n c f d) m).protocol = expectVersion s (rd m 4 2) (reqOf (bootBase n c f d) m)) :
    ∃ t z, exec (.bootFrameRx n c f d) s = .next t ∧ t.toune.responses = s.toune.responses ++ [z] ∧
      z.status = p.status ∧ z.payload = p.payload ∧ z.sequence = p.sequence ∧ z.session = p.session ∧
      t.toune.audit = s.toune.audit := by
  refine ⟨_, { p with slot := (reqOf (bootBase n c f d) m).slot, port := (reqOf (bootBase n c f d) m).port
                      source := (reqOf (bootBase n c f d) m).source }, rfl, ?_⟩
  rw [bootFrameRx_again hmc hr ho h1 hk hm h hs, runMessage_runs h,
    runToune_again (s := bootTaken n f s) hmc hop hv hs]
  refine ⟨(send_responses ..).trans (congrArg (· ++ _) (touch_responses ..)), rfl, rfl, rfl, rfl, ?_⟩
  exact (send_audit ..).trans (touch_audit ..).1

end

/-- Settles O52, clause by clause: the responder, the requester, the frames that the engine answers by itself, the routes of
messages and the doorbells.  Immediates of 64 or more, the RNR of a SEND and the rounding of the timeout are log entry 45,
BOOT_BAD for checks 1 and 2 is log entry 20, and the ignored doorbell of a FREE queue is log entry 46. -/
theorem transportAnswersRequestsMessagesAndDoorbells : Obligations.TransportAnswersRequestsMessagesAndDoorbells := by
  unfold Obligations.TransportAnswersRequestsMessagesAndDoorbells
  intro s
  refine ⟨fun hd => ?_, fun q x hup hx hst => ?_, fun h f o ty hup ht ha => ?_, fun n c f d o m base ho hm hbase => ?_,
    fun c d => ?_, fun h => ?_, fun q v rest hd hs => ?_⟩
  · exact ⟨fun q p i f => congrArg _ (roceRequest_down hd q p i f), fun q p b => congrArg _ (roceAck_down hd q p b),
      fun q p k => congrArg _ (roceNak_down hd q p k), fun q => congrArg _ (roceTimeout_down hd q),
      fun h f => congrArg _ (arpRequest_down hd h f), fun h f => congrArg _ (bootDiscover_down hd h f)⟩
  · refine ⟨fun p f => ⟨_, rfl, ?_⟩, fun hgo hon => ?_, fun p d gone rest hp hw hg => ⟨_, rfl, ?_, ?_⟩, fun p d hw => ?_,
      fun p k hk => ⟨_, rfl, roceNak_fails hup hx hst p hk⟩,
      fun p gone rest n hp hn hr => ⟨_, rfl, roceNak_retries hup hx hst hp hn hr⟩, fun h => ?_,
      fun h ho => ⟨_, rfl, roceTimeout_retries hup hx hst h ho⟩⟩
    · rw [roceRequest_corrupt hup]
      rfl
    · refine ⟨roceWrite_applies hup hx hst hgo hon, fun k off b hk hb => ⟨_, rdmaWrite_mailbox hk hb, ?_, rfl⟩,
        fun k b hb => ⟨_, rdmaWrite_doorbell k hb, rfl⟩, roceRead_answers hup hx hst hgo hon,
        fun f h => roceRequest_refuses hup hx hst hgo hon h, roceSend_answers hup hx hst hgo hon,
        roceGap_answers hup hx hst hgo hon, fun p f hp hf => ⟨_, rfl, ?_⟩⟩
      · rw [slotAt_setSlot_self]
      · subst hx
        rw [roceRequest_again hup hst hgo hon hp hf]
        exact ⟨rfl, rfl, rfl, rfl⟩
    · exact roceAck_ends_pair hup hx hst hp hw hg d
    · intro r k hgr hr hk
      subst hgr
      exact roceAck_fetched hup hx hst hp hw hr hk d
    · exact congrArg _ (roceAck_stale hx hw d)
    · exact congrArg _ (roceTimeout_running hx h)
  · refine ⟨fun hty => ⟨_, rfl, ?_⟩, fun hty hn => ⟨_, rfl, ?_⟩, fun hty hdst h1 h4 => ⟨_, rfl, ?_⟩⟩
    · rw [arpRequest_arp hup ht ha hty]
      exact ⟨hostSend_counted .., rfl⟩
    · rw [arpRequest_neighbour hup ht ha hty hn]
      rfl
    · exact bootDiscover_sent hup ht ha hty hdst h1 h4
  · have hbase' : base = bootBase n c f d := hbase
    subst hbase'
    refine ⟨fun h => congrArg _ (bootFrameRx_idle h c d), fun hmc hr h1 hk => ⟨?_, fun hf hs => ⟨?_, ?_⟩, ?_⟩⟩
    · exact bootFrameRx_counts hmc hr ho h1 hk hm
    · exact bootFrameRx_answers_busy hmc hr ho h1 hk hm hf hs
    · intro k u op cmd hfree hop hmem hu
      exact bootFrameRx_runs_command hmc hr ho h1 hk hm hf hs k u op cmd hfree hop hmem hu
    · intro p hf hs _ hop hv
      exact bootFrameRx_answers_again hmc hr ho h1 hk hm p hf hs hop hv
  · exact ⟨fun h => congrArg _ (mailboxRequest_idle h c d), fun q k b rest hi hmc => mailboxRequest_spec hi hmc⟩
  · exact congrArg _ (doorbellWrite_idle h)
  · exact ⟨fun h => congrArg _ (doorbellWrite_free hd hs h), fun h hv => ⟨_, rfl, doorbellWrite_invalid hd hs h hv⟩,
      fun h hv => ⟨_, rfl, doorbellWrite_valid hd hs h hv⟩⟩

end Sys2Proof.Machine
end

section
/-! Proofs.  What the fetching of queues leaves of a queue, and what a queue that is disabled quietly leaves (R449, R460). -/

namespace Sys2Proof.Machine

/-! ### One queue among others -/

/-- Between two states queue `q` stands but for its jobs, and no response has been sent. -/
structure QueueKept (q : Nat) (s t : State) : Prop where
  kept : ∃ l, hqAt t q = { hqAt s q with jobs := l }
  responses : t.toune.responses = s.toune.responses

section
variable {q k : Nat} {s t u : State}

theorem QueueKept.of_eq (h : hqAt t q = hqAt s q) (hr : t.toune.responses = s.toune.responses) : QueueKept q s t := ⟨⟨_, h⟩, hr⟩

theorem QueueKept.rfl' (q : Nat) (s : State) : QueueKept q s s := .of_eq rfl rfl

theorem QueueKept.trans (h : QueueKept q s t) (k : QueueKept q t u) : QueueKept q s u := by
  obtain ⟨⟨l, hl⟩, hr⟩ := h
  obtain ⟨⟨l', hl'⟩, hr'⟩ := k
  exact ⟨⟨l', by rw [hl', hl]⟩, hr'.trans hr⟩

theorem QueueKept.foldl {α : Type} {g : State → α → State} (h : ∀ s a, QueueKept q s (g s a)) (l : List α) (s : State) :
    QueueKept q s (l.foldl g s) := by
  induction l generalizing s with
  | nil => exact .rfl' q s
  | cons a l ih => exact (h s a).trans (ih _)

theorem setHq_kept (hk : k ≠ q) (x : Queue) (s : State) : QueueKept q s (setHq k x s) := .of_eq (hqAt_setHq_ne hk.symm ..) rfl

theorem setHost_kept {x : HostIf} (h : x.queue = s.host.queue) : QueueKept q s (s.setHost x) := .of_eq (hqAt_congr h q) rfl

theorem dropJob_kept (q k : Nat) (pos : Word) (s : State) : QueueKept q s (dropJob k pos s) := by
  by_cases h : k = q
  · subst h
    exact ⟨⟨_, hqAt_setHq_self ..⟩, rfl⟩
  · exact setHq_kept h ..

theorem settleQueue_kept (hk : k ≠ q) (s : State) : QueueKept q s (settleQueue k s) := by
  obtain ⟨-, hq, ht⟩ := queueDisabled_queue k s
  unfold settleQueue
  split
  · exact .of_eq ((hq q).trans (if_neg hk.symm)) ht
  · exact .rfl' q s

theorem givenUp_kept (k : Nat) (x : Queue) (s : State) : QueueKept q s (givenUp k x s) := by
  have h : QueueKept q s (x.held.foldl (fun s e => dropJob e.1 e.2.1 s) s) := .foldl (fun _ _ => dropJob_kept ..) _ s
  unfold givenUp
  split
  · exact h.trans (.of_eq (hqAt_congr (congrArg HostIf.queue ((dropHostCopies_same ..).host rfl)) q) (dropHostCopies_stops ..).responses)
  · exact h

theorem disableOne_kept (hk : k ≠ q) (cause : Nat) (s : State) : QueueKept q s (disableOne k cause s) := by
  by_cases h : (hqAt s k).st = 1
  · rw [disableOne_enabled h]
    have hs : QueueKept q s (stopping k cause s) := .of_eq (hqAt_setHq_ne hk.symm ..) rfl
    exact (hs.trans (givenUp_kept ..)).trans (settleQueue_kept hk _)
  · rw [disableOne_idle h]
    exact .rfl' q s

/-- A queue that is no completion queue is disabled alone (R460). -/
theorem disableQueue_alone (h : (hqAt s k).kind ≠ 8) (cause : Nat) : disableQueue k cause s = disableOne k cause s := by
  unfold disableQueue
  exact if_neg fun e => h e.1

theorem issueReq_kept (z : Nat) (r : OutReq) (s : State) : QueueKept q s (issueReq z r s) := by
  unfold issueReq
  dsimp only
  split
  · exact .of_eq rfl rfl
  · exact .of_eq rfl rfl

/-- A queue that has fetched up to its doorbell does not fetch (R449). -/
theorem wantsFetch_done (h : (hqAt s q).submits = true → (hqAt s q).fetched = (hqAt s q).doorbell) : wantsFetch s q = false := by
  unfold wantsFetch
  dsimp only
  cases hs : (hqAt s q).submits with
  | false => simp
  | true => simp [h hs]

theorem fetchOne_done (h : (hqAt s q).submits = true → (hqAt s q).fetched = (hqAt s q).doorbell) : fetchOne q s = s := by
  unfold fetchOne
  exact if_pos (by rw [wantsFetch_done h]; rfl)

theorem hostRead_kept (k o n : Nat) (p : Purpose) (s : State) : QueueKept q s (hostRead k o n p s).1 := by
  unfold hostRead
  split
  · exact .rfl' q s
  · exact issueReq_kept ..

theorem fetchOne_kept (hk : k ≠ q) (s : State) : QueueKept q s (fetchOne k s) := by
  unfold fetchOne
  dsimp only
  split
  · exact .rfl' q s
  next hw =>
    split
    · have h8 : (hqAt s k).kind ≠ 8 := by
        intro h8
        simp [wantsFetch, Queue.submits, h8] at hw
      rw [disableQueue_alone h8]
      exact disableOne_kept hk ..
    split
    · exact .rfl' q s
    · refine QueueKept.trans ?_ (setHost_kept (by rfl))
      exact (hostRead_kept ..).trans (setHq_kept hk ..)

theorem pumpFetch_kept (h : (hqAt s q).submits = true → (hqAt s q).fetched = (hqAt s q).doorbell) : QueueKept q s (pumpFetch s) := by
  have hl : ∀ (l : List Nat) (t : State), QueueKept q s t → QueueKept q s (l.foldl (fun s q => fetchOne q s) t) := by
    intro l
    induction l with
    | nil => exact fun _ ht => ht
    | cons k l ih =>
      refine fun t ht => ih _ (ht.trans ?_)
      by_cases hk : k = q
      · subst hk
        obtain ⟨j, hj⟩ := ht.kept
        dsimp only
        rw [fetchOne_done (by rw [hj]; exact h)]
        exact .rfl' k t
      · exact fetchOne_kept hk t
  unfold pumpFetch
  split
  · exact .rfl' q s
  · exact hl _ s (.rfl' q s)

/-- Queues that have fetched up to their doorbells fetch nothing (R449). -/
theorem pumpFetch_done (h : ∀ k, (hqAt s k).fetched = (hqAt s k).doorbell) : pumpFetch s = s := by
  have hl : ∀ l : List Nat, l.foldl (fun s q => fetchOne q s) s = s := by
    intro l
    induction l with
    | nil => rfl
    | cons k l ih => rw [List.foldl_cons, fetchOne_done fun _ => h k, ih]
  unfold pumpFetch
  split
  · rfl
  · exact hl _

end

/-! ### A queue without completions or copies to give up -/

section
variable {s : State} {q cause : Nat} {x : Queue}

/-- What a queue that leaves ENABLED keeps while jobs of it execute (R460). -/
def Queue.stopped (x : Queue) (cause : Nat) : Queue :=
  { x with st := 2, cause := cause, entries := [], fetching := 0, arrived := none, held := [], fullEpisode := false
           jobs := x.jobs.filter (fun j => j.begun) }

theorem jobsLeft_stopped (x : Queue) (cause : Nat) : jobsLeft (x.stopped cause) = jobsLeft x := by
  unfold jobsLeft Queue.stopped
  rw [List.any_filter]
  congr 1
  funext j
  cases j.begun <;> rfl

theorem dropHostCopies_none (h : tgetD (fun _ => []) s.buf.hostq q = []) :
    (dropHostCopies q s).host = s.host ∧ (dropHostCopies q s).toune = s.toune := by
  unfold dropHostCopies
  dsimp only
  rw [h]
  exact ⟨rfl, rfl⟩

variable (hx : x = hqAt s q) (h1 : x.st = 1) (h8 : x.kind ≠ 8) (hh : x.held = [])
  (hq : tgetD (fun _ => []) s.buf.hostq q = [])
include hx h1 h8 hh hq

theorem disableQueue_quiet (cause : Nat) : ∃ w, disableQueue q cause s = settleQueue q w ∧ hqAt w q = x.stopped cause ∧
    (∀ k, k ≠ q → hqAt w k = hqAt s k) ∧ w.toune = s.toune := by
  subst hx
  rw [disableQueue_alone h8, disableOne_enabled h1]
  refine ⟨_, rfl, ?_⟩
  have hw : (givenUp q (hqAt s q) (stopping q cause s)).host = (stopping q cause s).host ∧
      (givenUp q (hqAt s q) (stopping q cause s)).toune = (stopping q cause s).toune := by
    unfold givenUp
    rw [hh]
    split
    · exact dropHostCopies_none hq
    · exact ⟨rfl, rfl⟩
  have hk : ∀ k, hqAt (givenUp q (hqAt s q) (stopping q cause s)) k =
      hqAt (setHq q ((hqAt s q).stopped cause) s) k := fun k => hqAt_congr (congrArg HostIf.queue hw.1 :) k
  exact ⟨(hk q).trans (hqAt_setHq_self ..), fun k hne => (hk k).trans (hqAt_setHq_ne hne ..), hw.2⟩

/-- A queue of which jobs execute is DISABLING (R460). -/
theorem disableQueue_waits (hj : jobsLeft x = true) (cause : Nat) : hqAt (disableQueue q cause s) q = x.stopped cause ∧
    (disableQueue q cause s).toune = s.toune := by
  obtain ⟨w, hw, hwq, -, hwt⟩ := disableQueue_quiet hx h1 h8 hh hq cause
  have hs : settleQueue q w = w := by
    unfold settleQueue
    rw [hwq, jobsLeft_stopped, hj]
    exact if_neg fun h => absurd h.2 (by decide)
  rw [hw, hs]
  exact ⟨hwq, hwt⟩

/-- A queue of which no job executes is DISABLED at once, and a QUEUE_DISABLE completes (R460). -/
theorem disableQueue_ends (hj : jobsLeft x = false) (cause : Nat) :
    (hqAt (disableQueue q cause s) q).st = 3 ∧ (hqAt (disableQueue q cause s) q).cause = cause ∧
      (disableQueue q cause s).toune.responses = s.toune.responses ∧
      Raised [(Ev.queueDisabled, le 2 q ++ le 1 cause ++ le 4 x.head.toNat)] s (disableQueue q cause s) ∧
      ∀ h, x.handle = some h → handleAt (disableQueue q cause s) (handleIdx h) =
        { handleAt s (handleIdx h) with ended := some (St.ok, le 4 x.head.toNat) } := by
  obtain ⟨w, hw, hwq, -, hwt⟩ := disableQueue_quiet hx h1 h8 hh hq cause
  have hs : settleQueue q w = queueDisabled q w := by
    unfold settleQueue
    rw [hwq, jobsLeft_stopped, hj]
    exact if_pos ⟨rfl, rfl⟩
  obtain ⟨-, hd, hr⟩ := queueDisabled_queue q w
  rw [hw, hs]
  have hdq := (hd q).trans (if_pos rfl)
  rw [hwq] at hdq
  have hu : ∀ (x : Queue) (u : State), (unbindRing q x u).toune = u.toune := fun x u => (unbindRing_same ..).toune rfl
  refine ⟨by rw [hdq], by rw [hdq]; rfl, hr.trans (congrArg _ hwt), ?_, fun h hh => ?_⟩
  · unfold queueDisabled
    dsimp only
    rw [hwq]
    have hb := raise_raised (r := s) Ev.queueDisabled (le 2 q ++ le 1 cause ++ le 4 x.head.toNat)
      (s := unbindRing q (x.stopped cause) (setHq q { x.stopped cause with
        st := 3, jobs := [], entries := [], handle := none, rxOff := 0 } w)) (by rw [hu]; exact congrArg Toune.events hwt)
    split
    · exact hb
    · exact hb
  · unfold queueDisabled
    dsimp only
    rw [hwq]
    have hh' : (x.stopped cause).handle = some h := hh
    rw [hh']
    refine (tgetD_tput_self ..).trans (congrArg (fun y : Handle => { y with ended := some (St.ok, le 4 x.head.toNat) })
      (handleAt_congr ?_ _))
    show (unbindRing q (x.stopped cause) _).toune.handles = _
    rw [hu]
    exact congrArg Toune.handles hwt

end

end Sys2Proof.Machine
end

section
/-! Proofs.  The commands on queues: QUEUE_CREATE, DESTROY, DISABLE, ENABLE and QUERY (R444 to R446, R460, R461). -/

namespace Sys2Proof.Machine

/-! ### Requests that start a long operation on the host interface -/

/-- A request that runs and starts a long operation ends as the answer to what the operation has done (R488). -/
theorem runs_accepts {op : Nat} {body : Req → State → State × Reply} {r : Req} {s : State} {h : Word} {started : Bool}
    {k : Word → State → State} (hr : Runs op r s) (hn : newHandle s = some h)
    (e : ∀ m, body r (withSessions m s) = accepted op r started k (withSessions m s)) :
    ∃ m, runToune op body r s = finish op r { status := St.accepted, handle := h } false
      (k h (takeHandle op r started h (withSessions m s))) := by
  obtain ⟨m, hm⟩ := runs_noted (body := body) hr
  rw [e m, accepted_newHandle (s := withSessions m s) hn] at hm
  exact ⟨m, hm⟩

theorem finish_accepted (op : Nat) (r : Req) (h : Word) {s u : State} (hu : u.toune.responses = s.toune.responses) :
    AnsweredAccepted op r h s (finish op r { status := St.accepted, handle := h } false u) := by
  obtain ⟨p, hp, hop, hsess, hseq, hst, -, hh⟩ := finish_answered op r { status := St.accepted, handle := h } false u rfl
  exact ⟨p, by rw [hp, hu], hop, hsess, hseq, hst, hh⟩

theorem handleAt_takeHandle (op : Nat) (r : Req) (started : Bool) (h : Word) (s : State) :
    handleAt (takeHandle op r started h s) (handleIdx h) =
      { gen := nextGen (handleAt s (handleIdx h)).gen, st := .running, opcode := op, session := r.session
        startTick := s.tick.count, started := started } := tgetD_tput_self ..

/-! ### QUEUE_CREATE and QUEUE_DESTROY -/

section
variable {r : Req} {s : State} {p : List Byte} {q : Nat} {x : Queue}

/-- The queue that an argument of QUEUE_CREATE makes (R446). -/
def queueMade (p : List Byte) : Queue := { arg := p, st := if rd p 0x1C 1 = 1 then 1 else 3 }

theorem bodyQueueCreate_arg (h : queueArgOk s r.payload = false) : bodyQueueCreate r s = (s, .no St.eArg) :=
  if_pos (by simp [h])

theorem bodyQueueCreate_busy (h : queueArgOk s r.payload = true) (x : Queue) (hx : x = queueMade r.payload)
    (hb : (hqAt s (rd r.payload 0 2)).st ≠ 0 ∨ boundAlready s x = true ∨
      (x.submits = true ∧ ((hqAt s x.cq).st = 0 ∨ (hqAt s x.cq).kind ≠ 8))) : bodyQueueCreate r s = (s, .no St.eBusy) := by
  subst hx
  exact (if_neg (by simp [h])).trans (if_pos hb)

theorem bodyQueueCreate_makes (h : queueArgOk s r.payload = true) (x : Queue) (hx : x = queueMade r.payload)
    (hf : (hqAt s (rd r.payload 0 2)).st = 0) (hb : boundAlready s x = false)
    (hc : x.submits = true → (hqAt s x.cq).st ≠ 0 ∧ (hqAt s x.cq).kind = 8) :
    bodyQueueCreate r s = (bindRing (rd r.payload 0 2) x (setHq (rd r.payload 0 2) x s), .yes []) := by
  subst hx
  refine (if_neg (by simp [h])).trans (if_neg ?_)
  rintro (h | h | ⟨hs, h⟩)
  · exact h hf
  · exact absurd (hb.symm.trans h) (by decide)
  · obtain ⟨h0, h8⟩ := hc hs
    exact h.elim h0 fun h => h h8

theorem bindRing_bound {i : Nat} (h : x.exports = some i) (q : Nat) (s : State) : (ringAt (bindRing q x s) i).queue = some q := by
  unfold bindRing
  rw [h]
  exact congrArg Ring.queue (tgetD_tput_self ..)

theorem unbindRing_free {i : Nat} (h : x.exports = some i) (q : Nat) (s : State) : (ringAt (unbindRing q x s) i).queue ≠ some q := by
  unfold unbindRing
  rw [h]
  dsimp only
  split
  · rw [show (ringAt (setRing i { ringAt s i with queue := none } s) i).queue = none from congrArg Ring.queue (tgetD_tput_self ..)]
    exact nofun
  next hn => exact hn

/-- QUEUE_CREATE of an argument in order enters the queue and binds its ring (R444, R446). -/
theorem queueCreate_spec (hp : p = r.payload) (hq : q = rd p 0 2) (hx : x = queueMade p) (hr : Runs Op.queueCreate r s) :
    (queueArgOk s p = false → ∃ t, exec (.queueCreate r) s = .next t ∧ OnlyAnswers s t ∧
      Answered Op.queueCreate r St.eArg [] s t) ∧
    (queueArgOk s p = true → ((hqAt s q).st ≠ 0 ∨ boundAlready s x = true ∨
        (x.submits = true ∧ ((hqAt s x.cq).st = 0 ∨ (hqAt s x.cq).kind ≠ 8))) →
      ∃ t, exec (.queueCreate r) s = .next t ∧ OnlyAnswers s t ∧ Answered Op.queueCreate r St.eBusy [] s t) ∧
    (queueArgOk s p = true → (hqAt s q).st = 0 → boundAlready s x = false →
      (x.submits = true → (hqAt s x.cq).st ≠ 0 ∧ (hqAt s x.cq).kind = 8) →
      ∃ t, exec (.queueCreate r) s = .next t ∧ Answered Op.queueCreate r St.ok [] s t ∧ hqAt t q = x ∧
        (∀ i, x.exports = some i → (ringAt t i).queue = some q) ∧
        (∀ k, k ≠ q → k ≠ r.queue.toNat → hqAt t k = hqAt s k)) := by
  subst hp hq
  refine ⟨fun h => ⟨_, rfl, runs_no hr fun m => bodyQueueCreate_arg (s := withSessions m s) h⟩,
    fun h hb => ⟨_, rfl, runs_no hr fun m => bodyQueueCreate_busy (s := withSessions m s) h x hx hb⟩,
    fun h hf hb hc => ⟨_, rfl, ?_⟩⟩
  obtain ⟨m, ha, hans, -, hh, -⟩ := runs_serves hr
    (fun m => bodyQueueCreate_makes (s := withSessions m s) h x hx hf hb hc)
    (fun m => Eq.trans (congrArg Toune.responses ((bindRing_same ..).toune rfl)) rfl)
  have hk : ∀ k, hqAt (bindRing (rd r.payload 0 2) x (setHq (rd r.payload 0 2) x (withSessions m s))) k =
      if k = rd r.payload 0 2 then x else hqAt s k := fun k =>
    (hqAt_congr (congrArg HostIf.queue ((bindRing_same ..).host rfl)) k).trans (hqAt_setHq ..)
  refine ⟨hans, ?_, fun i hi => ?_, fun k hne hr => ?_⟩
  · rw [hh.queue_idle (by rw [hk, if_pos rfl, hx]; rfl), hk, if_pos rfl]
  · rw [ringAt_congr (congrArg Jnl.ring ha.jnl)]
    exact bindRing_bound hi ..
  · rw [hh.others k hr, hk, if_neg hne]

theorem argQueue_some (hl : p.length = 2) (hq : rd p 0 2 < 1024) : argQueue p = some (rd p 0 2) := if_pos ⟨hl, hq⟩

theorem bodyQueueDestroy_busy (h : argQueue r.payload = some q) (h3 : (hqAt s q).st ≠ 3) :
    bodyQueueDestroy r s = (s, .no St.eBusy) := by
  unfold bodyQueueDestroy
  rw [h]
  exact if_pos (.inl h3)

theorem bodyQueueDestroy_frees (h : argQueue r.payload = some q) (h3 : (hqAt s q).st = 3) (h8 : (hqAt s q).kind ≠ 8) :
    bodyQueueDestroy r s = (unbindRing q (hqAt s q) (setHq q {} s), .yes []) := by
  unfold bodyQueueDestroy
  rw [h]
  exact if_neg fun hc => hc.elim (fun hn => hn h3) fun hc => h8 hc.1

/-- QUEUE_DESTROY of a DISABLED queue that no other needs frees it (R446, R460). -/
theorem queueDestroy_spec (h : argQueue r.payload = some q) (hx : x = hqAt s q) (hr : Runs Op.queueDestroy r s) :
    (x.st ≠ 3 → ∃ t, exec (.queueDestroy r) s = .next t ∧ OnlyAnswers s t ∧ Answered Op.queueDestroy r St.eBusy [] s t) ∧
    (x.st = 3 → x.kind ≠ 8 → ∃ t, exec (.queueDestroy r) s = .next t ∧ hqAt t q = {} ∧
      Answered Op.queueDestroy r St.ok [] s t ∧ ∀ i, x.exports = some i → (ringAt t i).queue ≠ some q) := by
  subst hx
  refine ⟨fun h3 => ⟨_, rfl, runs_no hr fun m => bodyQueueDestroy_busy (s := withSessions m s) h h3⟩,
    fun h3 h8 => ⟨_, rfl, ?_⟩⟩
  obtain ⟨m, ha, hans, -, hh, -⟩ := runs_serves hr (fun m => bodyQueueDestroy_frees (s := withSessions m s) h h3 h8)
    (fun m => Eq.trans (congrArg Toune.responses ((unbindRing_same ..).toune rfl)) rfl)
  have hk : hqAt (unbindRing q (hqAt (withSessions m s) q) (setHq q {} (withSessions m s))) q = {} :=
    (hqAt_congr (congrArg HostIf.queue ((unbindRing_same ..).host rfl)) q).trans (hqAt_setHq_self ..)
  refine ⟨?_, hans, fun i hi => ?_⟩
  · rw [hh.queue_idle (by rw [hk]), hk]
  · rw [ringAt_congr (congrArg Jnl.ring ha.jnl)]
    exact unbindRing_free hi _ _

/-! ### QUEUE_DISABLE -/

/-- The queue keeps the handle of the operation that waits for it, and leaves ENABLED with cause 1 (R460). -/
def disabling (q : Nat) (h : Word) (s : State) : State := disableQueue q 1 (modHq q (fun x => { x with handle := some h }) s)

theorem bodyQueueDisable_busy (h : argQueue r.payload = some q) (h1 : (hqAt s q).st ≠ 1) :
    bodyQueueDisable r s = (s, .no St.eBusy) := by
  unfold bodyQueueDisable
  rw [h]
  exact if_pos h1

theorem bodyQueueDisable_starts (h : argQueue r.payload = some q) (h1 : (hqAt s q).st = 1) :
    bodyQueueDisable r s = accepted Op.queueDisable r true (disabling q) s := by
  unfold bodyQueueDisable
  rw [h]
  exact if_neg (not_not_intro h1)

/-- QUEUE_DISABLE of a queue with nothing to give up: a long operation, which ends at once where no job executes (R460). -/
theorem queueDisable_spec {h : Word} (ha : argQueue r.payload = some q) (hx : x = hqAt s q) (hr : Runs Op.queueDisable r s)
    (h1 : x.st = 1) (h8 : x.kind ≠ 8) (hheld : x.held = []) (hcopies : tgetD (fun _ => []) s.buf.hostq q = [])
    (hn : newHandle s = some h) :
    ∃ t, exec (.queueDisable r) s = .next t ∧ Started Op.queueDisable r h s t ∧ (hqAt t q).cause = 1 ∧
      (jobsLeft x = true → (hqAt t q).st = 2 ∧ (hqAt t q).handle = some h ∧ Raised [] s t) ∧
      (jobsLeft x = false → (hqAt t q).st = 3 ∧ Ended h St.ok (le 4 x.head.toNat) t ∧
        Raised [(Ev.queueDisabled, le 2 q ++ le 1 1 ++ le 4 x.head.toNat)] s t) := by
  subst hx
  obtain ⟨m, hm⟩ := runs_accepts hr hn (fun m => bodyQueueDisable_starts (s := withSessions m s) ha h1)
  refine ⟨_, rfl, ?_⟩
  rw [hm]
  set v := takeHandle Op.queueDisable r true h (withSessions m s) with hv
  set u := modHq q (fun x => { x with handle := some h }) v with hu
  have hux : { hqAt s q with handle := some h } = hqAt u q := (hqAt_setHq_self ..).symm
  have huh : u.toune = v.toune := rfl
  have hD : disabling q h v = disableQueue q 1 u := rfl
  rw [hD]
  set rep : Reply := { status := St.accepted, handle := h } with hrep
  obtain ⟨f, hf⟩ := (finish_host Op.queueDisable r rep false (disableQueue q 1 u)).queue q
  have hhand : ∀ i, handleAt (finish Op.queueDisable r rep false (disableQueue q 1 u)) i = handleAt (disableQueue q 1 u) i :=
    fun i => handleAt_congr (finish_handles ..) i
  have hev : ∀ evs, Raised evs u (disableQueue q 1 u) → Raised evs s (finish Op.queueDisable r rep false (disableQueue q 1 u)) := by
    rintro evs ⟨l, hl, hd⟩
    exact ⟨l, (finish_events ..).trans hl, hd⟩
  have hstart : (handleAt u (handleIdx h)).st = .running ∧ (handleAt u (handleIdx h)).opcode = Op.queueDisable ∧
      (handleAt u (handleIdx h)).session = r.session := by
    have e : handleAt u (handleIdx h) = handleAt v (handleIdx h) := handleAt_congr rfl _
    rw [e, hv, handleAt_takeHandle]
    exact ⟨rfl, rfl, rfl⟩
  have hresp : (disableQueue q 1 u).toune.responses = s.toune.responses := (disableQueue_stops ..).responses
  rw [hf]
  have hquiet := @disableQueue_waits u q _ hux h1 h8 hheld hcopies
  cases hj : jobsLeft (hqAt s q) with
  | true =>
    obtain ⟨hq, ht⟩ := hquiet hj 1
    have hhu : ∀ i, handleAt (disableQueue q 1 u) i = handleAt u i := fun i => handleAt_congr (by rw [ht]) i
    rw [hq]
    refine ⟨⟨finish_accepted _ _ _ hresp, ?_, ?_, ?_⟩, rfl, fun _ => ⟨rfl, rfl, hev [] ⟨[], ?_, rfl⟩⟩, nofun⟩
    · rw [hhand, hhu, hstart.1]
    · rw [hhand, hhu, hstart.2.1]
    · rw [hhand, hhu, hstart.2.2]
    · rw [ht, List.append_nil]
  | false =>
    obtain ⟨h3, hc, -, hra, hend⟩ := disableQueue_ends hux h1 h8 hheld hcopies hj 1
    have he := hend h rfl
    have hst : (handleAt (disableQueue q 1 u) (handleIdx h)).st = .running := by rw [he]; exact hstart.1
    have hop : (handleAt (disableQueue q 1 u) (handleIdx h)).opcode = Op.queueDisable := by rw [he]; exact hstart.2.1
    have hse : (handleAt (disableQueue q 1 u) (handleIdx h)).session = r.session := by rw [he]; exact hstart.2.2
    refine ⟨⟨finish_accepted _ _ _ hresp, ?_, ?_, ?_⟩, hc, nofun, fun _ => ⟨h3, ?_, hev _ hra⟩⟩
    · rw [hhand, hst]
    · rw [hhand, hop]
    · rw [hhand, hse]
    · unfold Ended
      rw [hhand]
      exact congrArg Handle.ended he

end

end Sys2Proof.Machine
end

section
/-! Proofs.  QUEUE_DISABLE of a completion queue, QUEUE_ENABLE, QUEUE_QUERY and QUEUE_FETCH_DONE (R445, R449, R460, R461). -/

namespace Sys2Proof.Machine

/-! ### A completion queue takes its submission queues along -/

theorem mem_of_tfind {α : Type} {m : Table α} {k : Nat} {a : α} (h : tfind m k = some a) : (k, a) ∈ m := by
  induction m with
  | nil => cases h
  | cons e m ih =>
    unfold tfind at h
    split at h
    next hk =>
      cases h
      exact hk ▸ List.mem_cons_self
    next => exact List.mem_cons_of_mem _ (ih h)

section
variable {s : State} {q k : Nat}

/-- A completion queue that leaves ENABLED takes along each submission queue that names it (R460). -/
theorem disableQueue_takes (h1 : (hqAt s q).st = 1) (h8 : (hqAt s q).kind = 8) (hs : (hqAt s k).submits = true)
    (hc : (hqAt s k).cq = q) (cause : Nat) : (hqAt (disableQueue q cause s) k).st ≠ 1 := by
  have ha : (hqAt (disableOne q cause s) k).arg = (hqAt s k).arg := (disableOne_doorbells q cause s).arg k
  have he : disableQueue q cause s = ((disableOne q cause s).host.queue.filter (fun e => e.2.submits && e.2.cq == q)).foldl
      (fun s e => disableOne e.1 5 s) (disableOne q cause s) := if_pos ⟨h8, h1⟩
  rw [he]
  cases hf : tfind (disableOne q cause s).host.queue k with
  | none =>
    refine (QueuesStop.foldl (fun _ _ => disableOne_stops ..) _ _).stopped k ?_
    have h0 : hqAt (disableOne q cause s) k = {} := by
      unfold hqAt tgetD
      rw [hf]
      rfl
    rw [h0]
    exact (by decide : (0 : Nat) ≠ 1)
  | some y =>
    have hy : hqAt (disableOne q cause s) k = y := by
      unfold hqAt tgetD
      rw [hf]
      rfl
    rw [hy] at ha
    have hmem : (k, y) ∈ (disableOne q cause s).host.queue.filter (fun e => e.2.submits && e.2.cq == q) := by
      refine List.mem_filter.mpr ⟨mem_of_tfind hf, ?_⟩
      unfold Queue.submits Queue.kind at hs ⊢
      unfold Queue.cq at hc ⊢
      dsimp only
      rw [ha, hs, hc]
      simp
    exact foldl_stopped (key := fun e : Nat × Queue => e.1) (fun _ _ => disableOne_stops ..) (fun s e => disableOne_self e.1 5 s) hmem _

/-- QUEUE_DISABLE of a completion queue disables each ENABLED submission queue of it (R460). -/
theorem queueDisable_takes {r : Req} {h : Word} {x : Queue} (ha : argQueue r.payload = some q) (hx : x = hqAt s q)
    (hr : Runs Op.queueDisable r s) (h1 : x.st = 1) (h8 : x.kind = 8) (hn : newHandle s = some h) :
    ∃ t, exec (.queueDisable r) s = .next t ∧ AnsweredAccepted Op.queueDisable r h s t ∧
      ∀ k y, (k, y) ∈ s.host.queue → hqAt s k = y → y.submits = true → y.cq = q → y.st = 1 → (hqAt t k).st ≠ 1 := by
  subst hx
  obtain ⟨m, hm⟩ := runs_accepts hr hn (fun m => bodyQueueDisable_starts (s := withSessions m s) ha h1)
  refine ⟨_, rfl, ?_⟩
  rw [hm]
  refine ⟨finish_accepted _ _ _ (disableQueue_stops ..).responses, fun k y _ hy hs hc _ => ?_⟩
  obtain ⟨f, hf⟩ := (finish_host Op.queueDisable r { status := St.accepted, handle := h } false
    (disabling q h (takeHandle Op.queueDisable r true h (withSessions m s)))).queue k
  rw [hf]
  subst hy
  have hne : k ≠ q := by
    rintro rfl
    unfold Queue.submits at hs
    rw [h8] at hs
    exact absurd hs (by decide)
  set v := takeHandle Op.queueDisable r true h (withSessions m s)
  have hq : hqAt (modHq q (fun x => { x with handle := some h }) v) q = { hqAt s q with handle := some h } := hqAt_setHq_self ..
  have hk : hqAt (modHq q (fun x => { x with handle := some h }) v) k = hqAt s k := hqAt_setHq_ne hne ..
  exact disableQueue_takes (by rw [hq]; exact h1) (by rw [hq]; exact h8) (by rw [hk]; exact hs) (by rw [hk]; exact hc) 1

/-! ### QUEUE_ENABLE -/

/-- A queue that is enabled again fetches from its head (R461). -/
def Queue.enabled (x : Queue) : Queue := { x with st := 1, cause := 0, fetched := if x.submits then x.head else x.fetched }

theorem bodyQueueEnable_busy {r : Req} (h : argQueue r.payload = some q) (h3 : (hqAt s q).st ≠ 3) :
    bodyQueueEnable r s = (s, .no St.eBusy) := by
  unfold bodyQueueEnable
  rw [h]
  exact if_pos (.inl h3)

theorem bodyQueueEnable_enables {r : Req} (h : argQueue r.payload = some q) (h3 : (hqAt s q).st = 3)
    (he : (hqAt s q).exports = none) : bodyQueueEnable r s = (pumpFetch (setHq q (hqAt s q).enabled s), .yes []) := by
  unfold bodyQueueEnable
  rw [h]
  dsimp only
  rw [he]
  dsimp only
  rw [if_neg (by simp [h3])]
  unfold bindRing
  have he' : ({ hqAt s q with st := 1, cause := 0, fetched := if (hqAt s q).submits then (hqAt s q).head else (hqAt s q).fetched } :
    Queue).exports = none := he
  rw [he']
  rfl

theorem queueEnable_spec {r : Req} {x : Queue} (h : argQueue r.payload = some q) (hx : x = hqAt s q) (hr : Runs Op.queueEnable r s) :
    (x.st ≠ 3 → ∃ t, exec (.queueEnable r) s = .next t ∧ OnlyAnswers s t ∧ Answered Op.queueEnable r St.eBusy [] s t) ∧
    (x.st = 3 → x.exports = none → (x.submits = true → x.doorbell = x.head) →
      ∃ t, exec (.queueEnable r) s = .next t ∧ Answered Op.queueEnable r St.ok [] s t ∧ (hqAt t q).st = 1 ∧
        (hqAt t q).cause = 0 ∧ (x.submits = true → (hqAt t q).fetched = x.head)) := by
  subst hx
  refine ⟨fun h3 => ⟨_, rfl, runs_no hr fun m => bodyQueueEnable_busy (s := withSessions m s) h h3⟩,
    fun h3 he hd => ⟨_, rfl, ?_⟩⟩
  have hq : ∀ m, hqAt (setHq q (hqAt s q).enabled (withSessions m s)) q = (hqAt s q).enabled := fun m => hqAt_setHq_self ..
  have hkept : ∀ m, QueueKept q (setHq q (hqAt s q).enabled (withSessions m s))
      (pumpFetch (setHq q (hqAt s q).enabled (withSessions m s))) := fun m => by
    refine pumpFetch_kept ?_
    rw [hq]
    intro hs
    have hs' : (hqAt s q).submits = true := hs
    unfold Queue.enabled
    dsimp only
    rw [hd hs', if_pos hs']
  obtain ⟨m, -, hans, -, hh, -⟩ := runs_serves hr (fun m => bodyQueueEnable_enables (s := withSessions m s) h h3 he)
    (fun m => Eq.trans (hkept m).responses rfl)
  obtain ⟨l, hl⟩ := (hkept m).kept
  obtain ⟨f, hf⟩ := hh.queue q
  rw [hq] at hl
  have hl' : hqAt (pumpFetch (setHq q (hqAt (withSessions m s) q).enabled (withSessions m s))) q =
      { (hqAt s q).enabled with jobs := l } := hl
  rw [hf, hl']
  exact ⟨hans, rfl, rfl, fun hs => if_pos hs⟩

/-! ### QUEUE_QUERY and QUEUE_FETCH_DONE -/

theorem bodyQueueQuery_reads {r : Req} (h : argQueue r.payload = some q) : bodyQueueQuery r s =
    (s, .yes (padTo 64 (hqAt s q).arg ++ le 1 (hqAt s q).st ++ le 1 (hqAt s q).cause ++ le 2 0 ++
      le 4 (hqAt s q).doorbell.toNat ++ le 4 (hqAt s q).fetched.toNat ++ le 4 (hqAt s q).head.toNat ++
      le 4 (if (hqAt s q).submits then 0 else (hqAt s q).doorbell.toNat))) := by
  unfold bodyQueueQuery
  rw [h]

theorem queueQuery_spec {r : Req} {x : Queue} (h : argQueue r.payload = some q) (hx : x = hqAt s q) (hr : Runs Op.queueQuery r s) :
    ∃ t, exec (.queueQuery r) s = .next t ∧ OnlyAnswers s t ∧
      Answered Op.queueQuery r St.ok (padTo 64 x.arg ++ le 1 x.st ++ le 1 x.cause ++ le 2 0 ++
        le 4 x.doorbell.toNat ++ le 4 x.fetched.toNat ++ le 4 x.head.toNat ++
        le 4 (if x.submits then 0 else x.doorbell.toNat)) s t := by
  subst hx
  obtain ⟨m, ha⟩ := runs_yes hr (fun m => bodyQueueQuery_reads (s := withSessions m s) h)
  exact ⟨_, rfl, ha⟩

theorem queueFetchDone_idle (h : (hqAt s q).arrived = none ∨ inService s 18 0 = false) : queueFetchDone q s = s := by
  unfold queueFetchDone
  dsimp only
  split
  · rfl
  next b hb => exact if_pos (by simp [h.resolve_left (by simp [hb])])

/-- The entries that a read has brought are taken in (R449). -/
theorem queueFetchDone_takes {b : List Byte} {x : Queue} (hx : x = hqAt s q) (hb : x.arrived = some b)
    (hs : inService s 18 0 = true) (hd : x.fetched + BitVec.ofNat 32 x.fetching = x.doorbell) :
    (hqAt (queueFetchDone q s) q).arrived = none ∧ (hqAt (queueFetchDone q s) q).fetching = 0 ∧
      (hqAt (queueFetchDone q s) q).entries = x.entries ++ splitEntries x.fetched x.fetching b ∧
      (hqAt (queueFetchDone q s) q).fetched = x.doorbell := by
  subst hx
  have he : queueFetchDone q s = pumpFetch (setHq q { hqAt s q with
      entries := (hqAt s q).entries ++ splitEntries (hqAt s q).fetched (hqAt s q).fetching b
      fetched := (hqAt s q).fetched + BitVec.ofNat 32 (hqAt s q).fetching, fetching := 0, arrived := none } s) := by
    unfold queueFetchDone
    dsimp only
    rw [hb]
    exact if_neg (by simp [hs])
  rw [he]
  set u := setHq q { hqAt s q with
      entries := (hqAt s q).entries ++ splitEntries (hqAt s q).fetched (hqAt s q).fetching b
      fetched := (hqAt s q).fetched + BitVec.ofNat 32 (hqAt s q).fetching, fetching := 0, arrived := none } s with hu
  have hq : hqAt u q = { hqAt s q with
      entries := (hqAt s q).entries ++ splitEntries (hqAt s q).fetched (hqAt s q).fetching b
      fetched := (hqAt s q).fetched + BitVec.ofNat 32 (hqAt s q).fetching, fetching := 0, arrived := none } := hqAt_setHq_self ..
  obtain ⟨l, hl⟩ := (pumpFetch_kept (q := q) (s := u) (by rw [hq]; exact fun _ => hd)).kept
  rw [hl, hq]
  exact ⟨rfl, rfl, rfl, hd⟩

end

end Sys2Proof.Machine
end

section
/-! Proofs.  Jobs: their start, their completion, and the acknowledgement of it (R450 to R455, R457, R458). -/

namespace Sys2Proof.Machine

/-! ### Requests issued -/

/-- A request issued stands last among the outstanding ones of its queue pair (R431). -/
theorem issueReq_out (z : Nat) (r : OutReq) (s : State) : ∃ o ∈ (qpAt (issueReq z r s) z).out, o.purpose = r.purpose ∧
    o.region = r.region ∧ o.offset = r.offset ∧ o.bytes = r.bytes := by
  have h : ∃ o, (qpAt (issueReq z r s) z).out = (qpAt s z).out ++ [o] ∧ o.purpose = r.purpose ∧
      o.region = r.region ∧ o.offset = r.offset ∧ o.bytes = r.bytes := by
    unfold issueReq
    dsimp only
    split
    · exact ⟨_, congrArg QueuePair.out (tgetD_tput_self ..), rfl, rfl, rfl, rfl⟩
    · exact ⟨_, congrArg QueuePair.out (tgetD_tput_self ..), rfl, rfl, rfl, rfl⟩
  obtain ⟨o, ho, hf⟩ := h
  exact ⟨o, by rw [ho]; exact List.mem_append_right _ List.mem_cons_self, hf⟩

/-- A write whose transfer can start is issued (R437). -/
theorem hostWrite_issues {k off z : Nat} {b : List Byte} {s : State} (h : regionUsable s k off b.length true = some z)
    (p : Purpose) : hostWrite k off b none p s =
      (issueReq z { kind := 0, region := k, offset := off, bytes := b, imm := 0, purpose := p } s, true) := by
  unfold hostWrite
  rw [h]
  rfl

/-! ### Every queue has fetched -/

/-- Every queue has fetched up to its doorbell. -/
def AllFetched (s : State) : Prop := ∀ k, (hqAt s k).fetched = (hqAt s k).doorbell

section
variable {s t : State} {q : Nat}

theorem AllFetched.of_eq (h : AllFetched s) (hq : t.host.queue = s.host.queue) : AllFetched t := fun k => by
  rw [hqAt_congr hq]
  exact h k

theorem AllFetched.setHq (h : AllFetched s) {x : Queue} (hx : x.fetched = x.doorbell) : AllFetched (setHq q x s) := fun k => by
  rw [hqAt_setHq]
  split
  · exact hx
  · exact h k

end

/-! ### The start of a job -/

section
variable {s : State} {q c n : Nat} {x : Queue} {pos : Word} {e : List Byte} {rest : List (Word × List Byte)} {ok : Bool}
  {d : Option (List Byte)}

theorem jobStart_idle (hx : x = hqAt s q) (h : x.entries = [] ∨ jobFrame x = none ∨ x.st ≠ 1 ∨ mayStart s x = false) (c : Nat)
    (d : Option (List Byte)) : jobStart q c d s = s := by
  subst hx
  unfold jobStart
  dsimp only
  split
  next pos e rest n ok he hf =>
    have hs : (hqAt s q).st ≠ 1 ∨ mayStart s (hqAt s q) = false :=
      (h.resolve_left (by rw [he]; exact nofun)).resolve_left (by rw [hf]; exact nofun)
    rcases hs with h1 | hm
    · exact if_pos (.inl h1)
    · exact if_pos (.inr (.inr (.inr (.inr (by simp [hm])))))
  · rfl

/-- The job that starts at the fetched entries of a queue (R450). -/
def Queue.newJob (x : Queue) (pos : Word) (e : List Byte) (n : Nat) (ok : Bool) : Job :=
  { pos := pos, count := n, tag := BitVec.ofNat 32 (rd e 4 4), entries := (x.entries.take n).map (·.2),
    begun := !postedKind x.kind || !ok }

/-- A queue whose next job has started. -/
def Queue.begun (x : Queue) (pos : Word) (e : List Byte) (n : Nat) (ok : Bool) : Queue :=
  { x with entries := x.entries.drop n, jobs := x.jobs ++ [x.newJob pos e n ok] }

/-- The oldest of the entries that a job takes is the first that has been fetched. -/
theorem headD_taken (he : x.entries = (pos, e) :: rest) (hf : jobFrame x = some (n, true)) :
    ((x.entries.take n).map (·.2)).headD [] = e := by
  have hn : n ≠ 0 := by
    unfold jobFrame at hf
    rw [he] at hf
    dsimp only at hf
    generalize (if x.kind = 1 ∨ x.kind = 2 ∨ x.kind = 5 ∨ x.kind = 6 then 1 else min 128 x.size) = most at hf
    split at hf
    · cases hf
    next hc =>
      split at hf
      · cases hf
      · have hn : rd e 2 2 = n := congrArg Prod.fst (Option.some.inj hf)
        rw [← hn]
        exact fun h => hc (.inr (.inl h))
  obtain ⟨m, rfl⟩ := Nat.exists_eq_succ_of_ne_zero hn
  rw [he]
  rfl

section
variable (hx : x = hqAt s q) (he : x.entries = (pos, e) :: rest) (hf : jobFrame x = some (n, ok)) (h1 : x.st = 1)
  (hsub : x.submits = true) (hs : inService s 18 0 = true) (hc : (hqAt s x.cq).st = 1) (hm : mayStart s x = true)
include hx he hf h1 hsub hs hc hm

theorem jobStart_starts (c : Nat) (d : Option (List Byte)) : jobStart q c d s =
    if ok then runJob q c pos ((x.entries.take n).map (·.2)) d (setHq q (x.begun pos e n ok) s)
    else endJob q pos St.eArg (setHq q (x.begun pos e n ok) s) := by
  unfold jobStart
  dsimp only
  rw [← hx, he, hf]
  dsimp only
  rw [if_neg (by simp [h1, hsub, hs, hc, hm])]
  unfold Queue.begun Queue.newJob
  rw [he]

end

/-! What a job's start does, by the kind of its queue. -/

theorem endJob_jobs {u : State} {y : Queue} {l : List Job} {j : Job} (hu : hqAt u q = y) (hl : y.jobs = l ++ [j]) (hp : j.pos = pos)
    (st : Half) : (hqAt (endJob q pos st u) q).entries = y.entries ∧
      (hqAt (endJob q pos st u) q).jobs.getLast? = some { j with begun := true, done := true, status := st } := by
  subst hu
  have h : hqAt (endJob q pos st u) q = _ := hqAt_setHq_self ..
  rw [h]
  refine ⟨rfl, ?_⟩
  dsimp only
  rw [hl, List.map_append, List.map_cons, List.map_nil, if_pos hp, List.getLast?_concat]

theorem runJob_dma {u : State} (hk : (hqAt u q).kind = 7) (es : List (List Byte)) : runJob q c pos es d u = u := by
  unfold runJob
  dsimp only
  rw [hk]
  rfl

theorem runJob_posted {u : State} {es : List (List Byte)} (hk : postedKind (hqAt u q).kind = true) (hh : headersOk es = true)
    (hb : bufferOk (hqAt u q).kind (es.headD []) = true) : runJob q c pos es d u = u := by
  have h : (hqAt u q).kind = 2 ∨ (hqAt u q).kind = 5 ∨ (hqAt u q).kind = 6 := by
    unfold postedKind at hk
    simpa [Bool.or_eq_true, or_assoc] using hk
  unfold runJob
  dsimp only
  rcases h with h | h | h
  · rw [h] at hb ⊢
    exact if_pos (by rw [hh, hb]; rfl)
  · rw [h] at hb ⊢
    exact if_pos (by rw [hh, hb]; rfl)
  · rw [h] at hb ⊢
    exact if_pos (by rw [hh, hb]; rfl)

theorem bulk_kept (r : OutReq) (s : State) : (bulk r s).path = s.path ∧ (bulk r s).host.queue = s.host.queue := by
  unfold bulk
  split
  · exact ⟨rfl, rfl⟩
  · exact ⟨rfl, rfl⟩

/-- A LOOKUP frame of an INJECT job enters its pipeline, and the job ends (R453). -/
theorem runJob_lookup {u : State} {es : List (List Byte)} {y : Queue} {l : List Job} {j : Job} {b : List Byte} {z : Nat}
    (hu : hqAt u q = y) (hl : y.jobs = l ++ [j]) (hp : j.pos = pos) (hk : y.kind = 1) (hh : headersOk es = true)
    (he : es.headD [] = e) (hi : injectOk u e = true) (h0 : rd e 0x18 1 = 0)
    (hz : regionUsable u (rd e 8 2) (rd e 0x10 8) (rd e 0xA 2) false = some z) :
    tgetD (fun _ => []) (runJob q c pos es (some b) u).path.gens (rd e 0x19 1) = tgetD (fun _ => []) u.path.gens (rd e 0x19 1) ++
        [{ frame := padTo (rd e 0xA 2) b, test := true }] ∧
      (hqAt (runJob q c pos es (some b) u) q).jobs.getLast? = some { j with begun := true, done := true, status := St.ok } := by
  have hk' : (hqAt u q).kind = 1 := by rw [hu, hk]
  obtain ⟨hpath, hqueue⟩ := bulk_kept
    { kind := 2, region := rd e 8 2, offset := rd e 0x10 8, length := rd e 0xA 2, purpose := .data q pos } u
  set v := bulk { kind := 2, region := rd e 8 2, offset := rd e 0x10 8, length := rd e 0xA 2, purpose := .data q pos } u with hv
  set w := v.setPath { v.path with gens := tput v.path.gens (rd e 0x19 1) (tgetD (fun _ => []) v.path.gens (rd e 0x19 1) ++
    [{ frame := padTo (rd e 0xA 2) b, test := true }]) } with hw
  have hr : runJob q c pos es (some b) u = endJob q pos St.ok w := by
    unfold runJob
    dsimp only
    rw [hk']
    refine (if_pos hh).trans ?_
    rw [he]
    unfold startInject
    dsimp only
    rw [if_neg (by simp [hi]), hz]
    exact if_pos h0
  rw [hr]
  refine ⟨?_, (endJob_jobs (u := w) ((hqAt_congr hqueue q).trans hu) hl hp St.ok).2⟩
  have hg : (endJob q pos St.ok w).path.gens = w.path.gens := rfl
  rw [hg, hw]
  refine (tgetD_tput_self ..).trans ?_
  rw [hpath]

/-- What the message of a job says of its request (R452). -/
def jobBase (q c : Nat) (pos : Word) (d : Option (List Byte)) (qp : Nat) (s : State) : Req :=
  { route := .queue, hp1 := (qpAt s qp).port == 1, qp := BitVec.ofNat 16 qp, queue := BitVec.ofNat 16 q
    source := peerOf s qp, cycle := c, pos := pos, hostData := d }

/-- The queue pair over which the ring of a queue is read (R437). -/
def ringQp (s : State) (x : Queue) : Nat := match regionAt s x.ring_ with | some b => regionQp b | none => 0

theorem runJob_message {u : State} {es : List (List Byte)} (hk : (hqAt u q).kind = 0) (hh : headersOk es = true)
    (hj : jobRejected u 0 es = false) : runJob q c pos es d u =
      runMessage 4128 (jobBase q c pos d (ringQp u (hqAt u q)) u) (jobMessage es) u := by
  unfold runJob
  dsimp only
  rw [hk]
  exact if_neg (by simp [hh, hj])

end

end Sys2Proof.Machine
end

section
/-! Proofs.  JOB_START, JOB_COMPLETE and COMPLETION_ACK (R450 to R458). -/

namespace Sys2Proof.Machine

/-! ### JOB_START -/

section
variable {s : State} {q : Fin 1024} {c : Fin 1350} {d : Option (List Byte)} {x : Queue} {pos : Word} {e : List Byte}
  {rest : List (Word × List Byte)} {n : Nat} {ok : Bool} {es : List (List Byte)} {j : Job} {u : State}

/-- What the start of a job does, by the kind of its queue (R450 to R454). -/
theorem jobStart_spec (hx : x = hqAt s q) (he : x.entries = (pos, e) :: rest) (hf : jobFrame x = some (n, ok)) (h1 : x.st = 1)
    (hsub : x.submits = true) (hs : inService s 18 0 = true) (hc : (hqAt s x.cq).st = 1) (hm : mayStart s x = true)
    (hes : es = (x.entries.take n).map (·.2)) (hj : j = x.newJob pos e n ok) (hu : u = setHq q (x.begun pos e n ok) s) :
    (ok = false → ∃ t, exec (.jobStart q c d) s = .next t ∧ (hqAt t q).entries = x.entries.drop n ∧
      (hqAt t q).jobs.getLast? = some { j with begun := true, done := true, status := St.eArg }) ∧
    (ok = true → x.kind = 7 → exec (.jobStart q c d) s = .next u) ∧
    (ok = true → postedKind x.kind = true → headersOk es = true → bufferOk x.kind e = true →
      exec (.jobStart q c d) s = .next u) ∧
    (∀ b z, ok = true → x.kind = 1 → headersOk es = true → injectOk s e = true → rd e 0x18 1 = 0 → d = some b →
      regionUsable s (rd e 8 2) (rd e 0x10 8) (rd e 0xA 2) false = some z → ∃ t,
        exec (.jobStart q c d) s = .next t ∧
        tgetD (fun _ => []) t.path.gens (rd e 0x19 1) = tgetD (fun _ => []) s.path.gens (rd e 0x19 1) ++
          [{ frame := padTo (rd e 0xA 2) b, test := true }] ∧
        (hqAt t q).jobs.getLast? = some { j with begun := true, done := true, status := St.ok }) ∧
    (∀ op cmd qp m, ok = true → x.kind = 0 → headersOk es = true → jobRejected s 0 es = false →
      m = jobMessage es → messageFault 4128 m = none → rd m 4 2 = op →
      qp = (match regionAt s x.ring_ with | some b => regionQp b | none => 0) →
      (op, cmd) ∈ [(Op.sessionPing, Instr.sessionPing), (Op.paramRead, Instr.paramRead),
        (Op.queueQuery, Instr.queueQuery), (Op.modeSet, Instr.modeSet)] →
      ∃ t, exec (.jobStart q c d) s = .next t ∧
        exec (cmd (reqOf { route := .queue, hp1 := (qpAt s qp).port == 1, qp := BitVec.ofNat 16 qp,
                           queue := BitVec.ofNat 16 q, source := peerOf s qp, cycle := c, pos := pos,
                           hostData := d } m)) u = .next t) := by
  have hstart := jobStart_starts hx he hf h1 hsub hs hc hm c d
  have huq : hqAt u q = x.begun pos e n ok := by rw [hu]; exact hqAt_setHq_self ..
  have hjobs : (x.begun pos e n ok).jobs = x.jobs ++ [j] := by rw [hj]; rfl
  have hjp : j.pos = pos := by rw [hj]; rfl
  rw [← hes, ← hu] at hstart
  refine ⟨fun hok => ⟨_, rfl, ?_⟩, fun hok hk => ?_, fun hok hk hh hb => ?_, fun b z hok hk hh hi h0 hd hz => ⟨_, rfl, ?_⟩,
    fun op cmd qp m hok hk hh hr hm hmf hop hqp hmem => ⟨_, rfl, ?_⟩⟩
  · rw [hstart, hok, if_neg (by decide)]
    exact endJob_jobs huq hjobs hjp St.eArg
  · refine congrArg _ (hstart.trans ?_)
    rw [hok, if_pos rfl]
    exact runJob_dma (by rw [huq]; exact hk) es
  · refine congrArg _ (hstart.trans ?_)
    subst hok
    have hhead : es.headD [] = e := hes ▸ headD_taken he hf
    rw [if_pos rfl]
    exact runJob_posted (by rw [huq]; exact hk) hh (by rw [hhead, huq]; exact hb)
  · subst hok
    have hhead : es.headD [] = e := hes ▸ headD_taken he hf
    subst hu
    rw [hstart, if_pos rfl, hd]
    exact runJob_lookup huq hjobs hjp hk hh hhead hi h0 hz
  · subst hok
    rw [hstart, if_pos rfl, runJob_message (by rw [huq]; exact hk) hh (by rw [hu]; exact hr), ← hm, runMessage_runs hmf, hop]
    have hbase : jobBase q c pos d (ringQp u (hqAt u q)) u = jobBase q c pos d qp s := by
      rw [huq, hqp, hu]
      rfl
    rw [hbase]
    simp only [List.mem_cons, Prod.mk.injEq, List.not_mem_nil, or_false] at hmem
    rcases hmem with ⟨rfl, rfl⟩ | ⟨rfl, rfl⟩ | ⟨rfl, rfl⟩ | ⟨rfl, rfl⟩ <;> rfl

end

/-! ### JOB_COMPLETE -/

section
variable {s : State} {q c z : Nat} {x y : Queue} {j : Job}

theorem endInject_other (hx : x = hqAt s q) (hk : x.kind ≠ 1) : endInject q s = s := by
  unfold endInject
  split
  · exact if_neg fun h => hk (by rw [hx]; exact h.1)
  · rfl

/-- A job that has not ended, or of which a write is not acknowledged, gets no completion (R454). -/
theorem jobComplete_waits (hx : x = hqAt s q) (hk : x.kind ≠ 1) (ho : oldestJob s q = some j)
    (h : j.done = false ∨ outstanding s (.data q j.pos) = true) : jobComplete q s = s := by
  unfold jobComplete
  dsimp only
  rw [endInject_other hx hk, ho]
  dsimp only
  rw [if_pos (c := (!j.done) = true ∨ outstanding s (.data q j.pos) = true) (by simpa using h)]
  split <;> rfl

theorem jobComplete_ends (hx : x = hqAt s q) (hk : x.kind ≠ 1) (ho : oldestJob s q = some j) (hd : j.done = true)
    (hw : outstanding s (.data q j.pos) = false) (hs : inService s 18 0 = true) : jobComplete q s =
      pumpFetch (settleQueue q (postCompletion q j (modJob q j.pos (fun j => { j with written := true }) s))) := by
  unfold jobComplete
  dsimp only
  rw [if_neg (by simp [hs]), endInject_other hx hk, ho]
  exact if_neg (by simp [hd, hw])

/-- The request that writes an entry at the head of a ring (R459). -/
def ringRequest (y : Queue) (tail : List Byte) (p : Purpose) : OutReq :=
  { kind := 0, region := y.ring_, offset := y.at_ y.head, bytes := le 4 y.head.toNat ++ tail, imm := 0, purpose := p }

/-- A device-written ring without a head slot takes an entry at its head (R459). -/
theorem ringWrite_writes {tail : List Byte} (hy : y = hqAt s c) (hh : y.headRegion = 0xFFFF)
    (hz : regionUsable s y.ring_ (y.at_ y.head) (4 + tail.length) true = some z) (p : Purpose) : ringWrite c tail p s =
      (modHq c (fun x => { x with head := x.head + 1 }) (issueReq z (ringRequest y tail p) s), true) := by
  have hl : (le 4 y.head.toNat ++ tail).length = 4 + tail.length := by rw [List.length_append, le_length]
  rw [← hl] at hz
  unfold ringWrite
  dsimp only
  rw [← hy, hostWrite_issues hz]
  dsimp only
  rw [if_pos rfl]
  have hq : (hqAt (modHq c (fun x => { x with head := x.head + 1 }) (issueReq z (ringRequest y tail p) s)) c).headRegion =
      0xFFFF := by
    rw [show hqAt (modHq c _ _) c = _ from hqAt_setHq_self ..]
    rw [hqAt_congr (issueReq_queue ..), ← hy]
    exact hh
  refine Prod.ext ?_ rfl
  unfold publishHead
  exact if_pos hq

theorem settleQueue_enabled {s : State} {q : Nat} (h : (hqAt s q).st = 1) : settleQueue q s = s := by
  unfold settleQueue
  exact if_neg fun e => absurd (h.symm.trans e.1) (by decide)

theorem completionTail_length (q : Nat) (j : Job) : (completionTail q j).length = 28 := by
  have hp : (padTo 16 j.detail).length = 16 := by
    unfold padTo
    simp only [List.length_append, List.length_take, List.length_replicate]
    omega
  unfold completionTail
  simp only [List.length_append, le_length, hp]

/-- A full ring is told, and nothing that it holds changes (R458). -/
theorem fullEpisode_queue {c : Nat} (s : State) (k : Nat) :
    (hqAt (fullEpisode c s) k).head = (hqAt s k).head ∧ (hqAt (fullEpisode c s) k).held = (hqAt s k).held ∧
      (hqAt (fullEpisode c s) k).st = (hqAt s k).st ∧ (hqAt (fullEpisode c s) k).fetched = (hqAt s k).fetched ∧
      (hqAt (fullEpisode c s) k).doorbell = (hqAt s k).doorbell := by
  unfold fullEpisode
  dsimp only
  split
  · have h : hqAt (setHq c { hqAt s c with fullEpisode := true } s) k = if k = c then { hqAt s c with fullEpisode := true } else hqAt s k :=
      hqAt_setHq ..
    have hr : hqAt (raise Ev.cqFull (le 2 c ++ le 1 (hqAt s c).held.length ++ le 8 s.tick.count.toNat)
        (setHq c { hqAt s c with fullEpisode := true } s)) k = hqAt (setHq c { hqAt s c with fullEpisode := true } s) k := rfl
    rw [hr, h]
    split
    next hk => exact hk ▸ ⟨rfl, rfl, rfl, rfl, rfl⟩
    next => exact ⟨rfl, rfl, rfl, rfl, rfl⟩
  · exact ⟨rfl, rfl, rfl, rfl, rfl⟩

/-- The job of a queue at a position is written. -/
def jobWritten (q : Nat) (pos : Word) (s : State) : State := modJob q pos (fun j => { j with written := true }) s

theorem hqAt_jobWritten (q : Nat) (pos : Word) (s : State) : hqAt (jobWritten q pos s) q =
    { hqAt s q with jobs := (hqAt s q).jobs.map (fun j => if j.pos = pos then { j with written := true } else j) } :=
  hqAt_setHq_self ..

theorem jobWritten_mem (ho : oldestJob s q = some j) :
    ∃ k ∈ (hqAt (jobWritten q j.pos s) q).jobs, k.pos = j.pos ∧ k.written = true := by
  have hm : j ∈ (hqAt s q).jobs := List.mem_of_find?_eq_some ho
  rw [hqAt_jobWritten]
  exact ⟨{ j with written := true }, List.mem_map.mpr ⟨j, hm, if_pos rfl⟩, rfl, rfl⟩

section
variable (hx : x = hqAt s q) (hk : x.kind ≠ 1) (ho : oldestJob s q = some j) (hd : j.done = true)
  (hw : outstanding s (.data q j.pos) = false) (hs : inService s 18 0 = true) (hc : c = x.cq) (hne : c ≠ q)
  (hy : y = hqAt s c) (h1 : x.st = 1) (hy1 : y.st = 1)
include hx hk ho hd hw hs hc hne hy h1 hy1

/-- The completion of a job is written at the head of its completion queue (R455, R457). -/
theorem jobComplete_writes (hfetched : AllFetched s) (hfull : cqFull y = false) (hheld : y.held = [])
    (hh : y.headRegion = 0xFFFF) (hz : regionUsable s y.ring_ (y.at_ y.head) 32 true = some z) :
    (hqAt (jobComplete q s) c).head = y.head + 1 ∧
      (∃ k ∈ (hqAt (jobComplete q s) q).jobs, k.pos = j.pos ∧ k.written = true) ∧
      ∃ o ∈ (qpAt (jobComplete q s) z).out, o.purpose = .completion q j.pos ∧ o.region = y.ring_ ∧ o.offset = y.at_ y.head ∧
        o.bytes = le 4 y.head.toNat ++ completionTail q { j with written := true } := by
  have hsq : hqAt (jobWritten q j.pos s) c = y := hy ▸ hqAt_setHq_ne hne ..
  have hcq : (hqAt (jobWritten q j.pos s) q).cq = c := by
    rw [hqAt_jobWritten, hc, hx]
    rfl
  set w := issueReq z (ringRequest y (completionTail q j) (.completion q j.pos)) (jobWritten q j.pos s) with hwdef
  set t := modHq c (fun x => { x with head := x.head + 1 }) w with ht
  have hpost : postCompletion q j (jobWritten q j.pos s) = t := by
    have hz' : regionUsable (jobWritten q j.pos s) y.ring_ (y.at_ y.head) (4 + (completionTail q j).length) true = some z := by
      rw [completionTail_length]
      exact hz
    unfold postCompletion
    dsimp only
    rw [hcq, hsq, if_neg (by simp [hy1]), if_neg (by simp [hfull, hheld])]
    unfold writeCompletion
    rw [ringWrite_writes hsq.symm hh hz']
    exact if_pos rfl
  have hwq : ∀ k, hqAt w k = hqAt (jobWritten q j.pos s) k := fun k => hqAt_congr (issueReq_queue ..) k
  have htc : hqAt t c = { y with head := y.head + 1 } := by
    rw [ht, show hqAt (modHq c _ w) c = _ from hqAt_setHq_self .., hwq, hsq]
  have htq : hqAt t q = hqAt (jobWritten q j.pos s) q := (hqAt_setHq_ne hne.symm ..).trans (hwq q)
  have hall : AllFetched t := by
    have h0 : AllFetched (jobWritten q j.pos s) := hfetched.setHq (hfetched q)
    have h2 : AllFetched w := h0.of_eq (issueReq_queue ..)
    exact h2.setHq (h2 c)
  have hjc : jobComplete q s = t := by
    rw [jobComplete_ends hx hk ho hd hw hs]
    show pumpFetch (settleQueue q (postCompletion q j (jobWritten q j.pos s))) = t
    rw [hpost, settleQueue_enabled (by rw [htq, hqAt_jobWritten]; exact hx ▸ h1), pumpFetch_done hall]
  rw [hjc]
  refine ⟨by rw [htc], by rw [htq]; exact jobWritten_mem ho, ?_⟩
  exact issueReq_out z (ringRequest y (completionTail q j) (.completion q j.pos)) (jobWritten q j.pos s)

/-- A full completion queue, or one that holds completions, holds one more (R458). -/
theorem jobComplete_holds (hfetched : AllFetched s) (hfull : cqFull y = true ∨ y.held ≠ []) :
    (hqAt (jobComplete q s) c).head = y.head ∧
      (hqAt (jobComplete q s) c).held = y.held ++ [(q, j.pos, completionTail q { j with written := true })] := by
  have hsq : hqAt (jobWritten q j.pos s) c = y := hy ▸ hqAt_setHq_ne hne ..
  have hcq : (hqAt (jobWritten q j.pos s) q).cq = c := by
    rw [hqAt_jobWritten, hc, hx]
    rfl
  set w := modHq c (fun y => { y with held := y.held ++ [(q, j.pos, completionTail q j)] }) (jobWritten q j.pos s) with hwdef
  have hpost : postCompletion q j (jobWritten q j.pos s) = fullEpisode c w := by
    unfold postCompletion
    dsimp only
    rw [hcq, hsq, if_neg (by simp [hy1]), if_pos hfull]
  have hwc : hqAt w c = { y with held := y.held ++ [(q, j.pos, completionTail q j)] } := by
    rw [hwdef, show hqAt (modHq c _ _) c = _ from hqAt_setHq_self .., hsq]
  have hwq : hqAt w q = hqAt (jobWritten q j.pos s) q := hqAt_setHq_ne hne.symm ..
  have hall : AllFetched w := by
    have h0 : AllFetched (jobWritten q j.pos s) := hfetched.setHq (hfetched q)
    exact h0.setHq (h0 c)
  have hall' : AllFetched (fullEpisode c w) := fun k => by
    obtain ⟨-, -, -, hf, hb⟩ := fullEpisode_queue (c := c) w k
    rw [hf, hb]
    exact hall k
  obtain ⟨-, -, hst, -, -⟩ := fullEpisode_queue (c := c) w q
  obtain ⟨hhead, hheld, -, -, -⟩ := fullEpisode_queue (c := c) w c
  have hjc : jobComplete q s = fullEpisode c w := by
    rw [jobComplete_ends hx hk ho hd hw hs]
    show pumpFetch (settleQueue q (postCompletion q j (jobWritten q j.pos s))) = _
    rw [hpost, settleQueue_enabled (by rw [hst, hwq, hqAt_jobWritten]; exact hx ▸ h1), pumpFetch_done hall']
  rw [hjc, hhead, hheld, hwc]
  exact ⟨rfl, rfl⟩

end

/-! ### COMPLETION_ACK -/

theorem completionAck_idle (hx : x = hqAt s q) (h : x.jobs = []) : completionAck q s = s := by
  unfold completionAck
  dsimp only
  rw [← hx, h]

theorem completionAck_waits {rest : List Job} (hx : x = hqAt s q) (hj : x.jobs = j :: rest)
    (h : j.written = false ∨ outstanding s (.completion q j.pos) = true) : completionAck q s = s := by
  unfold completionAck
  dsimp only
  rw [← hx, hj]
  exact if_pos (by rcases h with h | h <;> simp [h])

/-- The head passes the oldest job once its completion is acknowledged, and is published (R455). -/
theorem completionAck_publishes {rest : List Job} (hx : x = hqAt s q) (hj : x.jobs = j :: rest) (hw : j.written = true)
    (ho : outstanding s (.completion q j.pos) = false) (hheld : (hqAt s x.cq).held = []) (hs : inService s 18 0 = true)
    (hexp : x.exports = none) (hr : x.headRegion ≠ 0xFFFF) (ht : x.headTick ≠ some s.tick.count) (hall : AllFetched s)
    (hz : regionUsable s x.headRegion x.headOffset 8 true = some z) :
    (hqAt (completionAck q s) q).jobs = rest ∧ (hqAt (completionAck q s) q).head = j.pos + BitVec.ofNat 32 j.count ∧
      ∃ o ∈ (qpAt (completionAck q s) z).out, o.purpose = .head q ∧ o.region = x.headRegion ∧ o.offset = x.headOffset ∧
        o.bytes = le 8 (j.pos + BitVec.ofNat 32 j.count).toNat := by
  set y : Queue := { x with jobs := rest, head := j.pos + BitVec.ofNat 32 j.count } with hy
  set u := setHq q y s with hu
  have huq : hqAt u q = y := hqAt_setHq_self ..
  have ha : completionAck q s = pumpFetch (publishHead q u) := by
    unfold completionAck
    dsimp only
    rw [← hx, hj]
    refine (if_neg (by simp [hw, ho, hheld, hs])).trans ?_
    rw [hexp]
  set r : OutReq := { kind := 0, region := y.headRegion, offset := y.headOffset, bytes := le 8 y.head.toNat, imm := 0,
                      purpose := .head q } with hrdef
  have hzu : regionUsable u y.headRegion y.headOffset (le 8 y.head.toNat).length true = some z := by
    rw [le_length]
    exact hz
  have hry : y.headRegion ≠ 0xFFFF := hr
  have hty : y.headTick ≠ some u.tick.count := ht
  have hp : publishHead q u = modHq q (fun x => { x with headTick := some s.tick.count, headOwed := false }) (issueReq z r u) := by
    unfold publishHead
    dsimp only
    rw [huq, if_neg hry, if_neg hty, hostWrite_issues hzu]
    exact if_pos rfl
  have hiq : hqAt (issueReq z r u) q = y := (hqAt_congr (issueReq_queue ..) q).trans huq
  have hall' : AllFetched (publishHead q u) := by
    have h0 : AllFetched u := hall.setHq (by rw [hy, hx]; exact hall q)
    have h2 : AllFetched (issueReq z r u) := h0.of_eq (issueReq_queue ..)
    rw [hp]
    exact h2.setHq (h2 q)
  have hq : hqAt (publishHead q u) q = { y with headTick := some s.tick.count, headOwed := false } := by
    rw [hp, show hqAt (modHq q _ _) q = _ from hqAt_setHq_self .., hiq]
  rw [ha, pumpFetch_done hall', hq]
  refine ⟨rfl, rfl, ?_⟩
  rw [hp]
  exact issueReq_out z r u

end

end Sys2Proof.Machine
end

section
/-! Proofs.  RX_BUFFER_WRITE (R456, R457). -/

namespace Sys2Proof.Machine

/-! ### The end of a copy leaves the host copies that wait -/

section
variable {s : State}

theorem releaseOwners_hostq (d : Nat) (s : State) : (releaseOwners d s).buf.hostq = s.buf.hostq := by
  refine foldl_keeps (f := fun s : State => s.buf.hostq) (fun s o => ?_) _ _
  dsimp only
  split
  · exact Eq.trans (congrArg Buf.hostq ((settlePause_same ..).buf rfl)) rfl
  · rfl

theorem discharge_hostq (c : Charge) (s : State) : (discharge c s).buf.hostq = s.buf.hostq := by
  have hp : ∀ (d n : Nat) (b : Bool) (u : State), (poolEpisodes d b n u).buf.hostq = u.buf.hostq := fun d n b u => by
    obtain ⟨m, hm, -⟩ := poolEpisodes_buf d b n u
    exact (congrArg Buf.hostq hm).trans rfl
  refine (releaseOwners_hostq ..).trans ((releaseOwners_hostq ..).trans ((hp ..).trans rfl))

theorem record_hostq (x : Packet) (out : Option Departed) (outcome stages : Nat) (s : State) :
    (record x out outcome stages s).buf.hostq = s.buf.hostq := congrArg Buf.hostq ((record_same ..).buf rfl)

theorem bufferGone_hostq (k : Nat) (x : Stored) (s : State) : (bufferGone k x s).buf.hostq = s.buf.hostq := by
  unfold bufferGone
  split
  · split
    · rfl
    · dsimp only
      split
      · rfl
      · exact (record_hostq ..).trans rfl
  · rfl

theorem dropCopy_hostq (k : Nat) (dest : CopyDest) (s : State) : (dropCopy k dest s).buf.hostq = s.buf.hostq := by
  unfold dropCopy
  split
  · refine (foldl_keeps (f := fun s : State => s.buf.hostq) (fun s c => discharge_hostq c s) _ _).trans ?_
    split
    · exact bufferGone_hostq ..
    · rfl
  · rfl

theorem firstCopy_hostq (k n : Nat) (x : Packet) (y : Stored) (stamp : Dword) (cut : Bool) (s : State) :
    (firstCopy k n x y stamp cut s).buf.hostq = s.buf.hostq := by
  unfold firstCopy
  split
  · rfl
  · exact (record_hostq ..).trans rfl

end

/-! ### RX_BUFFER_WRITE -/

section
variable {s : State} {q k z : Nat} {x : Queue} {rest : List Nat} {j : Job} {y : Stored} {p : Packet} {e : List Byte}

theorem rxBufferWrite_idle (hx : x = hqAt s q)
    (h : tgetD (fun _ => []) s.buf.hostq q = [] ∨ postedJob x = none ∨ receives s q = false) : rxBufferWrite q s = s := by
  subst hx
  unfold rxBufferWrite
  dsimp only
  split
  next k rest j hk hj =>
    have hr := (h.resolve_left (by rw [hk]; exact nofun)).resolve_left (by rw [hj]; exact nofun)
    exact if_pos (.inl (by simp [hr]))
  · rfl

/-- The host copies that wait behind one that has been taken (R456). -/
def copiesAfter (q : Nat) (rest : List Nat) (s : State) : State :=
  s.setBuf { s.buf with hostq := if rest = [] then terase s.buf.hostq q else tput s.buf.hostq q rest }

theorem copiesAfter_hostq (q : Nat) (rest : List Nat) (s : State) : tgetD (fun _ => []) (copiesAfter q rest s).buf.hostq q = rest := by
  unfold copiesAfter
  dsimp only [State.setBuf_buf]
  split
  next h => rw [tgetD, tfind_terase, if_pos rfl, h]; rfl
  next => exact tgetD_tput_self ..

/-- The request that fills a posted buffer with a whole copy (R456). -/
def rxRequest (q : Nat) (j : Job) (e : List Byte) (y : Stored) : OutReq :=
  { kind := 0, region := rd e 8 2, offset := rd e 0x10 8, bytes := y.bytes, imm := 0, purpose := .data q j.pos }

/-- A buffer that a whole copy fills is done (R456, R457). -/
def rxFilled (q z : Nat) (j : Job) (e : List Byte) (y : Stored) (p : Packet) (s : State) : State :=
  modHq q (fun x => { x with rxOff := 0 }) (modJob q j.pos (fun j => { j with
    begun := true, done := true, detail := rxDetail p y.bytes.length true y.bad y.bytes.length })
    (issueReq z (rxRequest q j e y) s))

theorem rxBufferWrite_fills (hx : x = hqAt s q) (hk : tgetD (fun _ => []) s.buf.hostq q = k :: rest)
    (hj : postedJob x = some j) (hr : receives s q = true) (hs : inService s 18 0 = true) (hload : cqLoad s x.cq < 64)
    (hy : storedAt s k = some y) (hp : pktAt s k = some p) (he : e = j.entries.headD []) (h0 : x.rxOff = 0)
    (hl : y.bytes.length ≤ rd e 0xC 4)
    (hz : regionUsable s (rd e 8 2) (rd e 0x10 8) y.bytes.length true = some z) : rxBufferWrite q s =
      dropCopy k (.host q) (firstCopy k (128 + hqDie s q) p y s.tick.startFrc false
        (copiesAfter q rest (rxFilled q z j e y p s))) := by
  have hc : (y.bytes.drop 0).take (rd e 0xC 4) = y.bytes := List.take_of_length_le hl
  have hfin : (0 + y.bytes.length == y.bytes.length) = true := by simp
  unfold rxBufferWrite
  dsimp only
  rw [← hx, hk, hj]
  dsimp only
  rw [if_neg (by simp [hr, hs]; omega), hy, hp]
  dsimp only
  rw [← he, h0, hc, hostWrite_issues hz]
  dsimp only
  rw [if_neg (by decide), hfin, if_pos rfl]
  rfl

/-- A whole copy is in the buffer, which is done, and the next copy is first (R456, R457). -/
theorem rxBufferWrite_spec (hx : x = hqAt s q) (hk : tgetD (fun _ => []) s.buf.hostq q = k :: rest)
    (hj : postedJob x = some j) (hr : receives s q = true) (hs : inService s 18 0 = true) (hload : cqLoad s x.cq < 64)
    (hy : storedAt s k = some y) (hp : pktAt s k = some p) (he : e = j.entries.headD []) (h0 : x.rxOff = 0)
    (hl : y.bytes.length ≤ rd e 0xC 4)
    (hz : regionUsable s (rd e 8 2) (rd e 0x10 8) y.bytes.length true = some z) :
    tgetD (fun _ => []) (rxBufferWrite q s).buf.hostq q = rest ∧ (hqAt (rxBufferWrite q s) q).rxOff = 0 ∧
      (∃ i ∈ (hqAt (rxBufferWrite q s) q).jobs, i.pos = j.pos ∧ i.done = true ∧
        i.detail = rxDetail p y.bytes.length true y.bad y.bytes.length) ∧
      ∃ o ∈ (qpAt (rxBufferWrite q s) z).out, o.purpose = .data q j.pos ∧ o.offset = rd e 0x10 8 ∧ o.bytes = y.bytes := by
  have hw := rxBufferWrite_fills hx hk hj hr hs hload hy hp he h0 hl hz
  have hhost : (rxBufferWrite q s).host = (rxFilled q z j e y p s).host := by
    rw [hw]
    exact ((dropCopy_same ..).host rfl).trans (((firstCopy_same ..).host rfl).trans rfl)
  have hq : hqAt (rxFilled q z j e y p s) q = { x with rxOff := 0, jobs := x.jobs.map (fun i => if i.pos = j.pos then
      { i with begun := true, done := true, detail := rxDetail p y.bytes.length true y.bad y.bytes.length } else i) } := by
    unfold rxFilled
    rw [show hqAt (modHq q _ _) q = _ from hqAt_setHq_self .., show hqAt (modJob q _ _ _) q = _ from hqAt_setHq_self ..,
      hqAt_congr (issueReq_queue ..), ← hx]
  have hjm : j ∈ x.jobs := List.mem_of_find?_eq_some hj
  rw [hqAt_congr (congrArg HostIf.queue hhost), qpAt_congr (congrArg HostIf.qp hhost), hq]
  refine ⟨?_, rfl, ⟨_, List.mem_map.mpr ⟨j, hjm, if_pos rfl⟩, rfl, rfl, rfl⟩, ?_⟩
  · rw [hw, dropCopy_hostq, firstCopy_hostq]
    exact copiesAfter_hostq ..
  · obtain ⟨o, ho, h1, -, h3, h4⟩ := issueReq_out z (rxRequest q j e y) s
    exact ⟨o, ho, h1, h3, h4⟩

end

end Sys2Proof.Machine
end

section
/-! Proofs.  EVENT_DELIVER (R459, R490, R493, R494). -/

namespace Sys2Proof.Machine

/-! ### What is sent of an event -/

/-- The oldest event is off the list. -/
def eventTaken (rest : List Event) (s : State) : State := s.setToune { s.toune with events := rest }

/-- The sessions among `rs` with the bootstrap sink, and the others. -/
def bootSinks (rs : List Nat) (s : State) : List Nat := rs.filter (fun i => sinkOf (sessionAt s i) == 0xFFFE)

/-- The sessions among `rs` whose sink is a queue. -/
def queueSinks (rs : List Nat) (s : State) : List Nat := rs.filter (fun i => sinkOf (sessionAt s i) != 0xFFFE)

/-- The queues that an event goes to, each once (R459, R490). -/
def eventQueues (e : Event) (rs : List Nat) (s : State) : List Nat :=
  ((rs.map (fun i => sinkOf (sessionAt s i))).eraseDups).filter (fun q =>
    bitOf (hqAt s q).bound (e.code / 0x1000) ||
    (e.completion && rs.any (fun i => sinkOf (sessionAt s i) == q && sessionId s i == e.session)))

/-- An event sent to bootstrap sessions and to queues, for sessions that it counts at (R490). -/
def eventSent (e : Event) (boots sent queues : List Nat) (s : State) : State :=
  let t := queues.foldl (fun s q => eventToQueue e q s) (sent.foldl (fun s i => countSent i s)
    (boots.foldl (fun s i => eventFrame e i s) s))
  t.setToune { t.toune with
    delivered := t.toune.delivered ++ (boots ++ sent).map (fun i => (sessionId s i, sinkOf (sessionAt s i), e)) }

section
variable {s : State} {e : Event} {rest : List Event}

theorem eventDeliver_idle (h : s.toune.events = [] ∨ inService s 26 0 = false) : eventDeliver s = s := by
  unfold eventDeliver
  split
  · rfl
  next e rest he => exact if_pos (by simp [h.resolve_left (by simp [he])])

variable (he : s.toune.events = e :: rest) (hs : inService s 26 0 = true)
include he hs

theorem eventDeliver_sends {rs boots sent queues : List Nat} (hr : receivers s e = rs)
    (hb : bootSinks rs (eventTaken rest s) = boots)
    (hq : eventQueues e (queueSinks rs (eventTaken rest s)) (eventTaken rest s) = queues)
    (hn : (queueSinks rs (eventTaken rest s)).filter (fun i => queues.contains (sinkOf (sessionAt (eventTaken rest s) i))) = sent) :
    eventDeliver s = eventSent e boots sent queues (eventTaken rest s) := by
  subst hr hb hq hn
  unfold eventDeliver
  rw [he]
  exact if_neg (by simp [hs])

/-- An event that no session receives is taken off (R490). -/
theorem eventDeliver_unheard (hr : receivers s e = []) : (eventDeliver s).toune.events = rest ∧
    (eventDeliver s).host = s.host ∧ (eventDeliver s).toune.delivered = s.toune.delivered := by
  rw [eventDeliver_sends he hs (boots := []) (sent := []) (queues := []) hr rfl rfl rfl]
  exact ⟨rfl, rfl, List.append_nil _⟩

/-- An event for a bootstrap session leaves as a frame (R430, R493). -/
theorem eventDeliver_frame {i : Nat} (hr : receivers s e = [i]) (hi : sinkOf (sessionAt s i) = 0xFFFE) :
    eventDeliver s = eventSent e [i] [] [] (eventTaken rest s) := by
  have hi' : sinkOf (sessionAt (eventTaken rest s) i) = 0xFFFE := hi
  have hb : bootSinks [i] (eventTaken rest s) = [i] := by simp [bootSinks, hi']
  have hq : queueSinks [i] (eventTaken rest s) = [] := by simp [queueSinks, hi']
  exact eventDeliver_sends he hs hr hb (by rw [hq]; rfl) (by rw [hq]; rfl)

/-- An event for a queue that admits it is written there (R459). -/
theorem eventDeliver_queue {i q : Nat} (hr : receivers s e = [i]) (hi : sinkOf (sessionAt s i) = q) (hne : q ≠ 0xFFFE)
    (hbit : bitOf (hqAt s q).bound (e.code / 0x1000) = true) : eventDeliver s = eventSent e [] [i] [q] (eventTaken rest s) := by
  have hi' : sinkOf (sessionAt (eventTaken rest s) i) = q := hi
  have hbit' : bitOf (hqAt (eventTaken rest s) q).bound (e.code / 0x1000) = true := hbit
  have hb : bootSinks [i] (eventTaken rest s) = [] := by simp [bootSinks, hi', hne]
  have hq : queueSinks [i] (eventTaken rest s) = [i] := by simp [queueSinks, hi', hne]
  have hd : [q].eraseDups = [q] := by simp [List.eraseDups_cons]
  refine eventDeliver_sends he hs hr hb ?_ ?_
  · rw [hq]
    unfold eventQueues
    rw [List.map_cons, List.map_nil, hi', hd, List.filter_cons, hbit']
    rfl
  · rw [hq, List.filter_cons, hi']
    simp

end

/-! ### A bootstrap session -/

theorem eventSent_frame (e : Event) (i : Nat) (s : State) : (eventSent e [i] [] [] s).toune = { (countSent i s).toune with
      delivered := s.toune.delivered ++ [(sessionId s i, sinkOf (sessionAt s i), e)] } ∧
    (128 ≤ (sessionAt s i).hp → (eventSent e [i] [] [] s).host.sent.length = s.host.sent.length + 1) ∧
    ((sessionAt s i).hp < 128 → (eventSent e [i] [] [] s).host = s.host ∧ ∃ g,
      tgetD (fun _ => []) (eventSent e [i] [] [] s).path.gens ((sessionAt s i).hp / 32) =
        tgetD (fun _ => []) s.path.gens ((sessionAt s i).hp / 32) ++ [g] ∧ g.reply = some (sessionAt s i).hp) := by
  have ht : (eventFrame e i s).toune = (countSent i s).toune := sendBoot_toune ..
  have hb : ∀ m, (128 ≤ (sessionAt s i).hp →
        (sendBoot (sessionAt s i).hp (be 6 (sessionAt s i).mac.toNat) 3 m (countSent i s)).host.sent.length =
          s.host.sent.length + 1) ∧
      ((sessionAt s i).hp < 128 →
        (sendBoot (sessionAt s i).hp (be 6 (sessionAt s i).mac.toNat) 3 m (countSent i s)).host = s.host ∧ ∃ g,
        tgetD (fun _ => []) (sendBoot (sessionAt s i).hp (be 6 (sessionAt s i).mac.toNat) 3 m (countSent i s)).path.gens
          ((sessionAt s i).hp / 32) = tgetD (fun _ => []) s.path.gens ((sessionAt s i).hp / 32) ++ [g] ∧
          g.reply = some (sessionAt s i).hp) := fun m => by
    unfold sendBoot
    split
    next hn => exact ⟨fun _ => List.length_append, fun hl => absurd hn (by omega)⟩
    next hn => exact ⟨fun hl => absurd hl hn, fun _ => ⟨rfl, _, tgetD_tput_self .., rfl⟩⟩
  refine ⟨?_, hb _⟩
  have he : (eventSent e [i] [] [] s).toune = { (eventFrame e i s).toune with
      delivered := (eventFrame e i s).toune.delivered ++ [(sessionId s i, sinkOf (sessionAt s i), e)] } := rfl
  rw [he, ht]
  rfl

/-! ### An event queue -/

section
variable {s : State} {e : Event} {q : Nat} {x : Queue}

theorem eventToQueue_lost (hx : x = hqAt s q) (h1 : x.st = 1) (h9 : x.kind = 9)
    (hl : x.size < (x.head - x.doorbell).toNat + (eventEntries e x.lostOwed).length) : eventToQueue e q s =
      bump32 18 q 6 1 (setHq q { x with lost := true, lostOwed := true } s) := by
  unfold eventToQueue
  dsimp only
  rw [← hx, if_neg (by simp [h1, h9])]
  exact if_pos hl

/-- The entries of an event are 28 bytes behind their positions (R459). -/
theorem eventEntries_length (e : Event) (b : Bool) : ∀ t ∈ eventEntries e b, t.length = 28 := by
  have hp : ∀ n (l : List Byte), (padTo n l).length = n := fun n l => by
    unfold padTo
    simp only [List.length_append, List.length_take, List.length_replicate]
    omega
  unfold eventEntries
  dsimp only
  intro t ht
  rcases List.mem_cons.mp ht with rfl | hm
  · simp only [List.length_append, le_length, hp]
  · obtain ⟨i, -, rfl⟩ := List.mem_map.mp hm
    simp only [List.length_append, le_length, hp]

/-- Entries written one after the other, until one cannot be (R459). -/
def entriesWritten (q : Nat) (es : List (List Byte)) (a : State × Bool) : State × Bool :=
  es.foldl (fun (a : State × Bool) t => if a.2 then ringWrite q t (.event q) a.1 else a) a

/-- Entries that fit are written at the heads that follow one another, and the head passes them (R459). -/
theorem entriesWritten_all {es : List (List Byte)} (hes : ∀ t ∈ es, t.length = 28) (hx : x = hqAt s q) (hh : x.headRegion = 0xFFFF)
    (hz : ∀ m, regionUsable s x.ring_ (x.at_ m) 32 true ≠ none) : (entriesWritten q es (s, true)).2 = true ∧
      hqAt (entriesWritten q es (s, true)).1 q = { x with head := x.head + BitVec.ofNat 32 es.length } ∧
      (entriesWritten q es (s, true)).1.toune = s.toune := by
  induction es generalizing s x with
  | nil =>
    have h0 : hqAt s q = { x with head := x.head + BitVec.ofNat 32 0 } := by rw [← hx]; simp
    exact ⟨rfl, h0, rfl⟩
  | cons t es ih =>
    obtain ⟨z, hzh⟩ := Option.ne_none_iff_exists'.mp (hz x.head)
    have ht : t.length = 28 := hes t List.mem_cons_self
    have hw := ringWrite_writes (z := z) (tail := t) hx hh (by rw [ht]; exact hzh) (.event q)
    set w := modHq q (fun x => { x with head := x.head + 1 }) (issueReq z (ringRequest x t (.event q)) s) with hwdef
    have hwq : hqAt w q = { x with head := x.head + 1 } := by
      rw [hwdef, show hqAt (modHq q _ _) q = _ from hqAt_setHq_self .., hqAt_congr (issueReq_queue ..), ← hx]
    have ha : AnswersHost q s (issueReq z (ringRequest x t (.event q)) s) := issueReq_host (regionUsable_live hzh) _
    have hst : ∀ k, (qpAt w k).st = (qpAt s k).st := fun k => by
      obtain ⟨p, o, n, h⟩ := ha.live k
      have hq : (qpAt w k).st = (qpAt (issueReq z (ringRequest x t (.event q)) s) k).st := rfl
      rw [hq, h]
    have hreg : w.host.region = s.host.region := ha.region
    have hzw : ∀ m, regionUsable w x.ring_ (x.at_ m) 32 true ≠ none := fun m => by
      have h := hz m
      unfold regionUsable regionAt at h ⊢
      rw [hreg]
      simp only [hst]
      exact h
    obtain ⟨h1, h2, h3⟩ := ih (s := w) (x := { x with head := x.head + 1 }) (fun t ht => hes t (List.mem_cons_of_mem _ ht))
      hwq.symm hh hzw
    have hstep : entriesWritten q (t :: es) (s, true) = entriesWritten q es (w, true) := by
      unfold entriesWritten
      rw [List.foldl_cons, if_pos rfl, hw]
    rw [hstep]
    have hhead : x.head + 1 + BitVec.ofNat 32 es.length = x.head + BitVec.ofNat 32 (es.length + 1) := by
      rw [BitVec.add_assoc, Nat.add_comm es.length 1, BitVec.ofNat_add]
      rfl
    exact ⟨h1, h2.trans (congrArg (fun h => { x with head := h }) hhead), h3.trans ((issueReq_same ..).toune rfl)⟩

theorem eventToQueue_written (hx : x = hqAt s q) (h1 : x.st = 1) (h9 : x.kind = 9)
    (hl : (x.head - x.doorbell).toNat + (eventEntries e x.lostOwed).length ≤ x.size) (hh : x.headRegion = 0xFFFF)
    (hz : ∀ m, regionUsable s x.ring_ (x.at_ m) 32 true ≠ none) :
    hqAt (eventToQueue e q s) q = { x with
      lostOwed := false, head := x.head + BitVec.ofNat 32 (eventEntries e x.lostOwed).length } ∧
      (eventToQueue e q s).toune = s.toune := by
  have hu : hqAt (setHq q { x with lostOwed := false } s) q = { x with lostOwed := false } := hqAt_setHq_self ..
  obtain ⟨hok, hq, ht⟩ := entriesWritten_all (s := setHq q { x with lostOwed := false } s) (eventEntries_length e x.lostOwed)
    hu.symm hh hz
  have he : eventToQueue e q s = (entriesWritten q (eventEntries e x.lostOwed) (setHq q { x with lostOwed := false } s, true)).1 := by
    unfold eventToQueue
    dsimp only
    rw [← hx, if_neg (by simp [h1, h9]), if_neg (by omega)]
    exact if_pos hok
  rw [he]
  exact ⟨hq, ht⟩

end

/-! ### The clauses -/

section
variable {s : State} {e : Event} {rest : List Event} {i : Nat} (he : s.toune.events = e :: rest) (hs : inService s 26 0 = true)
  (hr : receivers s e = [i])
include he hs hr

/-- An event for a bootstrap session: its frame leaves the port of the session, which counts it (R430, R493). -/
theorem eventDeliver_frame_spec (hi : sinkOf (sessionAt s i) = 0xFFFE) : ∃ t, exec .eventDeliver s = .next t ∧
    t.toune.events = rest ∧
    (128 ≤ (sessionAt s i).hp → t.host.sent.length = s.host.sent.length + 1) ∧
    ((sessionAt s i).hp < 128 → t.host = s.host ∧ ∃ g,
      tgetD (fun _ => []) t.path.gens ((sessionAt s i).hp / 32) =
        tgetD (fun _ => []) s.path.gens ((sessionAt s i).hp / 32) ++ [g] ∧ g.reply = some (sessionAt s i).hp) ∧
    (sessionAt t i).evCount = (sessionAt s i).evCount + 1 ∧
    t.toune.delivered = s.toune.delivered ++ [(sessionId s i, 0xFFFE, e)] := by
  refine ⟨_, rfl, ?_⟩
  obtain ⟨ht, hhost, hfront⟩ := eventSent_frame e i (eventTaken rest s)
  have hsink : sinkOf (sessionAt (eventTaken rest s) i) = 0xFFFE := hi
  rw [hsink] at ht
  rw [eventDeliver_frame he hs hr hi]
  refine ⟨by rw [ht]; rfl, hhost, hfront, ?_, by rw [ht]; rfl⟩
  rw [sessionAt_congr (s := countSent i (eventTaken rest s)) (by rw [ht])]
  exact congrArg Session.evCount (tgetD_tput_self ..)

variable {q : Nat} {x : Queue} (hi : sinkOf (sessionAt s i) = q) (hne : q ≠ 0xFFFE) (hx : x = hqAt s q)
  (hbit : bitOf x.bound (e.code / 0x1000) = true) (h1 : x.st = 1) (h9 : x.kind = 9)
include hi hne hx hbit h1 h9

/-- An event queue without room for the event loses it (R459, R494). -/
theorem eventDeliver_lost (hl : x.size < (x.head - x.doorbell).toNat + (eventEntries e x.lostOwed).length) :
    ∃ t, exec .eventDeliver s = .next t ∧ t.toune.events = rest ∧ (hqAt t q).head = x.head ∧
      (hqAt t q).lost = true ∧ counter t (paddr 18 q 6) = min (counter s (paddr 18 q 6) + 1) (2 ^ 32 - 1) := by
  refine ⟨_, rfl, ?_⟩
  rw [eventDeliver_queue he hs hr hi hne (hx ▸ hbit)]
  have hu : eventToQueue e q (countSent i (eventTaken rest s)) = _ := eventToQueue_lost hx h1 h9 hl
  have ht : eventSent e [] [i] [q] (eventTaken rest s) =
      (eventToQueue e q (countSent i (eventTaken rest s))).setToune
        { (eventToQueue e q (countSent i (eventTaken rest s))).toune with
          delivered := (eventToQueue e q (countSent i (eventTaken rest s))).toune.delivered ++
            [(sessionId s i, sinkOf (sessionAt s i), e)] } := rfl
  rw [ht, hu]
  set v := setHq q { x with lost := true, lostOwed := true } (countSent i (eventTaken rest s)) with hv
  have hq : hqAt v q = { x with lost := true, lostOwed := true } := hqAt_setHq_self ..
  have hq' : ∀ y, hqAt ((bump32 18 q 6 1 v).setToune y) q = hqAt v q := fun _ => rfl
  refine ⟨rfl, by rw [hq', hq], by rw [hq', hq], ?_⟩
  exact counter_bump32_self 18 q 6 1 v

/-- An event queue with room takes the event (R459). -/
theorem eventDeliver_written (hl : (x.head - x.doorbell).toNat + (eventEntries e x.lostOwed).length ≤ x.size)
    (hh : x.headRegion = 0xFFFF) (hz : ∀ m, regionUsable s x.ring_ (x.at_ m) 32 true ≠ none) :
    ∃ t, exec .eventDeliver s = .next t ∧ t.toune.events = rest ∧ (hqAt t q).lostOwed = false ∧
      (hqAt t q).head = x.head + BitVec.ofNat 32 (eventEntries e x.lostOwed).length ∧
      t.toune.delivered = s.toune.delivered ++ [(sessionId s i, q, e)] := by
  refine ⟨_, rfl, ?_⟩
  rw [eventDeliver_queue he hs hr hi hne (hx ▸ hbit)]
  obtain ⟨hq, hto⟩ := eventToQueue_written (s := countSent i (eventTaken rest s)) (e := e) hx h1 h9 hl hh hz
  have ht : eventSent e [] [i] [q] (eventTaken rest s) =
      (eventToQueue e q (countSent i (eventTaken rest s))).setToune
        { (eventToQueue e q (countSent i (eventTaken rest s))).toune with
          delivered := (eventToQueue e q (countSent i (eventTaken rest s))).toune.delivered ++
            [(sessionId s i, sinkOf (sessionAt s i), e)] } := rfl
  rw [ht, hto, hi]
  have hq' : ∀ y, hqAt ((eventToQueue e q (countSent i (eventTaken rest s))).setToune y) q =
      hqAt (eventToQueue e q (countSent i (eventTaken rest s))) q := fun _ => rfl
  exact ⟨rfl, by rw [hq', hq], by rw [hq', hq], rfl⟩

end

end Sys2Proof.Machine
end

section
/-! Proofs.  The DMA engine: DX_DESCRIPTOR_END and DX_CTRL_DISABLE (R460, R463 to R470). -/

namespace Sys2Proof.Machine

/-! ### What a transfer leaves -/

/-- Between two states no queue has changed, and no counter below the 48-bit ones of its instance. -/
structure Transfers (s t : State) : Prop where
  queue : t.host.queue = s.host.queue
  counts : ∀ a, a % 0x4000 < 0x100 → counter t a = counter s a

section
variable {s t u : State}

theorem Transfers.of_eq (hq : t.host.queue = s.host.queue) (hp : t.prm = s.prm) : Transfers s t := ⟨hq, fun a _ => counter_congr hp a⟩

theorem Transfers.rfl' (s : State) : Transfers s s := .of_eq rfl rfl

theorem Transfers.trans (h : Transfers s t) (k : Transfers t u) : Transfers s u :=
  ⟨k.queue.trans h.queue, fun a ha => (k.counts a ha).trans (h.counts a ha)⟩

theorem bump48_transfers {i : Nat} (hi : i < 16) (c n k : Nat) (s : State) : Transfers s (bump48 c n i k s) :=
  ⟨rfl, fun a ha => (counter_bump ..).trans (if_neg (by unfold paddr; omega))⟩

theorem setHost_transfers {x : HostIf} (h : x.queue = s.host.queue) : Transfers s (s.setHost x) := .of_eq h rfl

theorem hostSend_transfers (f : HostFrame) (s : State) : Transfers s (hostSend f s) := by
  unfold hostSend
  exact ((setHost_transfers (by rfl)).trans (bump48_transfers (by decide) ..)).trans (bump48_transfers (by decide) ..)

theorem setQp_transfers (q : Nat) (x : QueuePair) (s : State) : Transfers s (setQp q x s) := .of_eq rfl rfl

theorem issueReq_transfers (z : Nat) (r : OutReq) (s : State) : Transfers s (issueReq z r s) := by
  unfold issueReq
  dsimp only
  split
  · exact ((setQp_transfers ..).trans (hostSend_transfers ..)).trans (bump48_transfers (by decide) ..)
  · exact setQp_transfers ..

theorem bulk_transfers (r : OutReq) (s : State) : Transfers s (bulk r s) := by
  unfold bulk
  split
  · exact .rfl' s
  · exact ((setQp_transfers ..).trans (hostSend_transfers ..)).trans (bump48_transfers (by decide) ..)

theorem winUse_transfers (p : Win) (w n : Nat) (s : State) : Transfers s (winUse p w n s) :=
  .of_eq (congrArg HostIf.queue ((winUse_same ..).host rfl)) ((winUse_same ..).prm rfl)

theorem winWrite_transfers (p : Win) (w : Nat) (b : List Byte) (s : State) : Transfers s (winWrite p w b s) := by
  unfold winWrite setWinMem
  cases p <;> exact .of_eq rfl rfl

theorem dxMove_transfers (q : Nat) (pos : Word) (e d : List Byte) (n : Nat) (s : State) : Transfers s (dxMove q pos e d n s) := by
  unfold dxMove
  dsimp only
  split
  · refine Transfers.trans ?_ (bulk_transfers ..)
    split
    · exact .rfl' s
    · exact winUse_transfers ..
  · exact ((bulk_transfers ..).trans (winWrite_transfers ..)).trans (winUse_transfers ..)

theorem drawn_transfers (s : State) : Transfers s (drawn s) := .of_eq rfl rfl

theorem setDxBytes_transfers (c : Nat) (v : Word) (s : State) : Transfers s (setDxBytes c v s) := .of_eq rfl rfl

theorem dxStatusWord_transfers (q : Nat) (pos : Word) (e : List Byte) (st : Nat) (s : State) :
    Transfers s (dxStatusWord q pos e st s) := by
  unfold dxStatusWord
  split
  · unfold hostWrite
    split
    · exact .rfl' s
    · exact issueReq_transfers ..
  · exact .rfl' s

end

/-! ### The end of a descriptor -/

theorem descriptorEnd_pos (j : Job) (len st : Nat) : (j.descriptorEnd len st).pos = j.pos ∧
    (j.descriptorEnd len st).ended = j.ended + 1 ∧ (j.descriptorEnd len st).bad = (if st = 0 then j.bad else j.bad + 1) ∧
    (j.descriptorEnd len st).moved = (if st = 0 then j.moved + len else j.moved) ∧
    (j.ended + 1 < j.count → (j.descriptorEnd len st).done = j.done) ∧
    (j.count ≤ j.ended + 1 → (j.descriptorEnd len st).done = true) := by
  unfold Job.descriptorEnd
  dsimp only
  split
  next h => exact ⟨rfl, rfl, rfl, rfl, fun _ => rfl, fun hc => absurd h (by omega)⟩
  next h => exact ⟨rfl, rfl, rfl, rfl, fun hc => absurd hc h, fun _ => rfl⟩

section
variable {s u : State} {c q : Nat} {j : Job} {e d : List Byte}

/-- A descriptor that ends counts in its job (R457, R468). -/
theorem dxEnd_job (hj : dxJob s q = some j) (hu : Transfers s u) (c st : Nat) :
    j.descriptorEnd (dxLen e) st ∈ (hqAt (dxEnd c q j e st u) q).jobs := by
  have hm : j ∈ (hqAt s q).jobs := List.mem_of_find?_eq_some hj
  have hw := hu.trans (dxStatusWord_transfers q j.pos e st u)
  have hq : hqAt (dxEnd c q j e st u) q =
      hqAt (modJob q j.pos (fun j => j.descriptorEnd (dxLen e) st) (dxStatusWord q j.pos e st u)) q := by
    unfold dxEnd
    dsimp only
    split
    · rfl
    · exact hqAt_congr (Eq.trans (congrArg HostIf.queue ((raiseLimited_same ..).host rfl)) rfl) q
  rw [hq, show hqAt (modJob q _ _ _) q = _ from hqAt_setHq_self .., hqAt_congr hw.queue]
  exact List.mem_map.mpr ⟨j, hm, if_pos rfl⟩

/-- A good descriptor is counted (R467). -/
theorem dxEnd_good (hu : Transfers s u) (c : Nat) :
    counter (dxEnd c q j e 0 u) (paddr 20 c 3) = min (counter s (paddr 20 c 3) + 1) (2 ^ 32 - 1) := by
  have hw := hu.trans (dxStatusWord_transfers q j.pos e 0 u)
  unfold dxEnd
  rw [if_pos rfl, counter_bump32_self, ← hw.counts (paddr 20 c 3) (by unfold paddr; omega)]
  rfl

/-- A BAD descriptor is counted, and its position kept (R467, R469). -/
theorem dxEnd_bad {st : Nat} (hst : st ≠ 0) (hu : Transfers s u) (c : Nat) :
    counter (dxEnd c q j e st u) (paddr 20 c 4) = min (counter s (paddr 20 c 4) + 1) (2 ^ 32 - 1) ∧
      tfind (dxEnd c q j e st u).host.lastBad c = some (j.pos + BitVec.ofNat 32 j.ended) := by
  have hw := hu.trans (dxStatusWord_transfers q j.pos e st u)
  unfold dxEnd
  dsimp only
  rw [if_neg hst]
  refine ⟨?_, ?_⟩
  · rw [counter_congr ((raiseLimited_same ..).prm rfl), counter_bump32_self, ← hw.counts (paddr 20 c 4) (by unfold paddr; omega)]
    rfl
  · rw [(raiseLimited_same ..).host rfl]
    exact (tfind_tput ..).trans (if_pos rfl)

/-! ### DX_DESCRIPTOR_END -/

/-- The reasons for which a descriptor does not start are numbered from 1 (R469). -/
theorem dxRefused_ne_zero (s : State) (e : List Byte) : dxRefused s e ≠ some 0 := by
  unfold dxRefused
  split
  · simp
  · dsimp only
    split
    · simp
    · split_ifs <;> simp

theorem dxDescriptorEnd_none (h : dxQueue s c = none) (d : List Byte) (m : Nat) : dxDescriptorEnd c d m s = s := by
  unfold dxDescriptorEnd
  rw [h]

theorem dxDescriptorEnd_disabled (h : bitOf (reg s 20 c 0).toNat 0 = false) (d : List Byte) (m : Nat) :
    dxDescriptorEnd c d m s = s := by
  unfold dxDescriptorEnd
  split
  · rfl
  split
  · rfl
  · exact if_pos (.inr (by simp [h]))

section
variable (hq : dxQueue s c = some q) (hj : dxJob s q = some j) (hs : inService s 20 0 = true)
  (hb : bitOf (reg s 20 c 0).toNat 0 = true) (he : e = j.entries.getD j.ended [])
include hq hj hs hb he

theorem dxDescriptorEnd_good (hr : dxRefused s e = none) (d : List Byte) : dxDescriptorEnd c d 0 s =
    dxEnd c q j e 0 (setDxBytes c (BitVec.ofNat 32 (dxLen e)) (dxMove q j.pos e d (dxLen e) s)) := by
  unfold dxDescriptorEnd
  rw [hq]
  dsimp only
  rw [hj]
  dsimp only
  rw [if_neg (by simp [hs, hb]), ← he, hr]
  exact if_pos rfl

theorem dxDescriptorEnd_refused {st : Nat} (hr : dxRefused s e = some st) (d : List Byte) (m : Nat) :
    dxDescriptorEnd c d m s = dxEnd c q j e st (setDxBytes c 0 s) := by
  unfold dxDescriptorEnd
  rw [hq]
  dsimp only
  rw [hj]
  dsimp only
  rw [if_neg (by simp [hs, hb]), ← he, hr]

theorem dxDescriptorEnd_met {m : Nat} (hr : dxRefused s e = none) (hm : m ≠ 0) (d : List Byte) :
    dxDescriptorEnd c d m s = dxEnd c q j e (2 + m) (setDxBytes c (BitVec.ofNat 32 (freeUpTo (dxLen e) s))
      (drawn (dxMove q j.pos e d (freeUpTo (dxLen e) s) s))) := by
  unfold dxDescriptorEnd
  rw [hq]
  dsimp only
  rw [hj]
  dsimp only
  rw [if_neg (by simp [hs, hb]), ← he, hr]
  exact if_neg hm

/-- A descriptor that may not start, or meets an error, ends BAD after a transfer that no queue and no low counter notices
(R469). -/
theorem dxDescriptorEnd_bad {m : Nat} (hr : dxRefused s e ≠ none ∨ m ≠ 0) (d : List Byte) : ∃ st u, st ≠ 0 ∧ Transfers s u ∧
    dxDescriptorEnd c d m s = dxEnd c q j e st u := by
  cases hf : dxRefused s e with
  | some st =>
    refine ⟨st, _, ?_, setDxBytes_transfers c 0 s, dxDescriptorEnd_refused hq hj hs hb he hf d m⟩
    rintro rfl
    exact dxRefused_ne_zero s e hf
  | none =>
    have hm : m ≠ 0 := hr.resolve_left (not_not_intro hf)
    exact ⟨2 + m, _, by omega, ((dxMove_transfers ..).trans (drawn_transfers _)).trans (setDxBytes_transfers ..),
      dxDescriptorEnd_met hq hj hs hb he hf hm d⟩

end

end

end Sys2Proof.Machine
end

section
/-! Proofs.  The memory that a DMA transfer writes, and a channel that is disabled (R460, R463, R464, R470). -/

namespace Sys2Proof.Machine

/-! ### The windows -/

theorem winMem_congr {s t : State} (hs : t.host.stackWin = s.host.stackWin) (hp : t.host.peatWin = s.host.peatWin) (p : Win) :
    winMem t p = winMem s p := by
  unfold winMem
  rw [hs, hp]

theorem winMem_issueReq (z : Nat) (r : OutReq) (s : State) (p : Win) : winMem (issueReq z r s) p = winMem s p := by
  unfold issueReq
  dsimp only
  split <;> rfl

theorem winMem_dxStatusWord (q : Nat) (pos : Word) (e : List Byte) (st : Nat) (s : State) (p : Win) :
    winMem (dxStatusWord q pos e st s) p = winMem s p := by
  unfold dxStatusWord
  split
  · unfold hostWrite
    split
    · rfl
    · exact winMem_issueReq ..
  · rfl

theorem winMem_winWrite (p : Win) (a : Nat) (b : List Byte) (s : State) :
    winMem (winWrite p a b s) p = Memory.writeAll (winAt s p) (winMem s p) a b := by
  unfold winWrite setWinMem
  cases p <;> rfl

/-- The locations of a window's addresses follow the settings and the channels of the Peatbank (R405, R433). -/
theorem winAt_congr {s t : State} (hr : t.prm.regs = s.prm.regs) (hj : t.jnl = s.jnl) (p : Win) : winAt t p = winAt s p := by
  funext w
  unfold winAt winLoc winChan peatLoc peatChan peatChans regField reg
  rw [hr, hj]

theorem winMem_bulk (r : OutReq) (s : State) (p : Win) : winMem (bulk r s) p = winMem s p := by
  unfold bulk
  split <;> rfl

theorem winAt_bulk (r : OutReq) (s : State) (p : Win) : winAt (bulk r s) p = winAt s p :=
  winAt_congr ((bulk_same ..).regs rfl) ((bulk_same ..).jnl rfl) p

/-- A transfer from a host writes its bytes, swapped, where the descriptor says (R463, R464). -/
theorem winMem_dxMove {e : List Byte} (h0 : dxSrc e = 0) {p : Win} (hp : p = (dxDst e == 1)) (q : Nat) (pos : Word) (d : List Byte)
    (n : Nat) (s : State) : winMem (dxMove q pos e d n s) p = Memory.writeAll (winAt s p) (winMem s p)
      (rd e 0x18 8) ((swapBytes (rd e 0xA 1) (padTo (dxLen e) d)).take n) := by
  have hh : dxHost e = (rd e 0xC 2, rd e 0x10 8, false) := if_pos h0
  have hd : dxDev e = (dxDst e, rd e 0x18 8) := if_pos h0
  have hm : dxMove q pos e d n s = winUse p (rd e 0x18 8) n (winWrite p (rd e 0x18 8)
      ((swapBytes (rd e 0xA 1) (padTo (dxLen e) d)).take n)
      (bulk { kind := 2, region := rd e 0xC 2, offset := rd e 0x10 8, length := dxLen e, purpose := .data q pos } s)) := by
    unfold dxMove
    rw [hh, hd, hp]
    rfl
  have hu : ∀ v, winMem (winUse p (rd e 0x18 8) n v) p = winMem v p := fun v =>
    winMem_congr (congrArg HostIf.stackWin ((winUse_same ..).host rfl)) (congrArg HostIf.peatWin ((winUse_same ..).host rfl)) p
  rw [hm, hu, winMem_winWrite, winMem_bulk, winAt_bulk]

theorem winMem_dxEnd (c q : Nat) (j : Job) (e : List Byte) (s : State) (p : Win) : winMem (dxEnd c q j e 0 s) p = winMem s p := by
  unfold dxEnd
  rw [if_pos rfl]
  exact winMem_dxStatusWord q j.pos e 0 s p

/-! ### DX_CTRL_DISABLE -/

theorem bitOf_cleared (w : Word) : bitOf (w &&& ~~~1).toNat 0 = false := by
  rw [bitOf_toNat, BitVec.getLsbD_and]
  simp

section
variable {s : State} {c q : Nat} {j : Job}

theorem dxAbort_transfers (c q : Nat) (j : Job) (s : State) : Transfers s (dxAbort c q j s) := by
  have hr : ∀ (d : List Byte) (u : State), Transfers u (raise Ev.dxAborted d u) := fun _ _ => .of_eq rfl rfl
  unfold dxAbort
  extract_lets e n s1 data s2 s3 s4
  have h2 : Transfers s s2 := (drawn_transfers s).trans (drawn_transfers s1)
  have h3 : Transfers s s3 := by
    show Transfers s (if _ then _ else _)
    split
    · exact h2
    · exact h2.trans (dxMove_transfers ..)
  exact ((h3.trans (setDxBytes_transfers ..)).trans (drawn_transfers _)).trans (hr ..)

/-- The current job of a channel that stops is aborted (R470). -/
def channelAborted (c q : Nat) (s : State) : State :=
  match dxJob s q with
  | some j => dxAbort c q j s
  | none => s

theorem channelAborted_transfers (c q : Nat) (s : State) : Transfers s (channelAborted c q s) := by
  unfold channelAborted
  split
  · exact dxAbort_transfers ..
  · exact .rfl' s

/-- The queue of a channel that has stopped is DISABLED at once (R460, R470). -/
def channelStopped (q : Nat) (s : State) : State :=
  if (hqAt s q).st = 1 ∨ (hqAt s q).st = 2 then
    queueDisabled q (forgetFetch q (setHq q { hqAt s q with st := 2, cause := 6, fetching := 0, arrived := none } s))
  else s

theorem dxStop_eq (hq : dxQueue s c = some q) : dxStop c s = channelStopped q (channelAborted c q s) := by
  unfold dxStop channelAborted
  rw [hq]
  dsimp only
  cases dxJob s q <;> rfl

theorem dxStop_queue (hq : dxQueue s c = some q) (hst : (hqAt s q).st = 1 ∨ (hqAt s q).st = 2) : dxStop c s =
    queueDisabled q (forgetFetch q (setHq q { hqAt s q with st := 2, cause := 6, fetching := 0, arrived := none }
      (channelAborted c q s))) := by
  have hx : hqAt (channelAborted c q s) q = hqAt s q := hqAt_congr (channelAborted_transfers c q s).queue q
  rw [dxStop_eq hq, channelStopped, hx]
  exact if_pos hst

/-- The queue of a channel that stops is DISABLED at once, with cause 6 (R460, R470). -/
theorem dxStop_disables (hq : dxQueue s c = some q) (hst : (hqAt s q).st = 1 ∨ (hqAt s q).st = 2) :
    (hqAt (dxStop c s) q).st = 3 ∧ (hqAt (dxStop c s) q).cause = 6 ∧ (hqAt (dxStop c s) q).jobs = [] ∧
      LastRaised Ev.queueDisabled (le 2 q ++ le 1 6 ++ le 4 (hqAt s q).head.toNat) (dxStop c s) := by
  rw [dxStop_queue hq hst]
  set u := forgetFetch q (setHq q { hqAt s q with st := 2, cause := 6, fetching := 0, arrived := none } (channelAborted c q s))
  have hu : hqAt u q = { hqAt s q with st := 2, cause := 6, fetching := 0, arrived := none } := hqAt_setHq_self ..
  obtain ⟨-, hd, -⟩ := queueDisabled_queue q u
  have hdq := (hd q).trans (if_pos rfl)
  rw [hu] at hdq
  rw [hdq]
  refine ⟨rfl, rfl, rfl, ?_⟩
  unfold queueDisabled
  dsimp only
  rw [hu]
  split
  · exact raise_lastRaised _ _ (unbindRing q _ (setHq q _ u))
  · exact raise_lastRaised _ _ (unbindRing q _ (setHq q _ u))

/-- DX_CTRL_DISABLE clears the enable, and stops a channel that was enabled (R470). -/
theorem dxCtrlDisable_spec (c : Nat) (s : State) : bitOf (reg (dxCtrlDisable c s) 20 c 0).toNat 0 = false ∧
    (bitOf (reg s 20 c 0).toNat 0 = false → (dxCtrlDisable c s).host = s.host ∧ (dxCtrlDisable c s).toune = s.toune) ∧
    (∀ q, bitOf (reg s 20 c 0).toNat 0 = true → dxQueue s c = some q → ((hqAt s q).st = 1 ∨ (hqAt s q).st = 2) →
      (hqAt (dxCtrlDisable c s) q).st = 3 ∧ (hqAt (dxCtrlDisable c s) q).cause = 6 ∧ (hqAt (dxCtrlDisable c s) q).jobs = [] ∧
        LastRaised Ev.queueDisabled (le 2 q ++ le 1 6 ++ le 4 (hqAt s q).head.toNat) (dxCtrlDisable c s)) := by
  have hclear : bitOf (reg (setReg 20 c 0 (reg s 20 c 0 &&& ~~~1) s) 20 c 0).toNat 0 = false := by
    rw [reg_setReg_self]
    exact bitOf_cleared _
  cases hb : bitOf (reg s 20 c 0).toNat 0 with
  | true =>
    have he : dxCtrlDisable c s = dxStop c (setReg 20 c 0 (reg s 20 c 0 &&& ~~~1) s) := if_pos hb
    have hreg : reg (dxStop c (setReg 20 c 0 (reg s 20 c 0 &&& ~~~1) s)) 20 c 0 =
        reg (setReg 20 c 0 (reg s 20 c 0 &&& ~~~1) s) 20 c 0 := by
      unfold reg
      rw [(dxStop_same ..).regs rfl]
    rw [he, hreg]
    exact ⟨hclear, nofun, fun q _ hq hst => dxStop_disables (s := setReg 20 c 0 (reg s 20 c 0 &&& ~~~1) s) hq hst⟩
  | false =>
    have he : dxCtrlDisable c s = setReg 20 c 0 (reg s 20 c 0 &&& ~~~1) s := if_neg (by simp [hb])
    rw [he]
    exact ⟨hclear, fun _ => ⟨rfl, rfl⟩, fun q h => absurd h (by decide)⟩

end

end Sys2Proof.Machine
end

section
/-! Proofs.  Queues and the DMA engine (R443 to R472): the clauses of O54. -/

namespace Sys2Proof.Machine

/-- The end of a good descriptor, and of a BAD one (R463 to R469). -/
theorem dxDescriptorEnd_spec {s : State} {c : Fin 32} {q : Nat} {j : Job} {e d : List Byte} {m : Fin 3}
    (hq : dxQueue s c = some q) (hj : dxJob s q = some j) (hs : inService s 20 0 = true)
    (hb : bitOf (reg s 20 c 0).toNat 0 = true) (he : e = j.entries.getD j.ended []) :
    (dxRefused s e = none → m.val = 0 → ∃ t, exec (.dxDescriptorEnd c d m) s = .next t ∧
      (∃ k ∈ (hqAt t q).jobs, k.pos = j.pos ∧ k.ended = j.ended + 1 ∧ k.bad = j.bad ∧ k.moved = j.moved + dxLen e ∧
        (j.ended + 1 < j.count → k.done = j.done) ∧ (j.count ≤ j.ended + 1 → k.done = true)) ∧
      counter t (paddr 20 c 3) = min (counter s (paddr 20 c 3) + 1) (2 ^ 32 - 1) ∧
      (dxSrc e = 0 → ∀ p : Bool, p = (dxDst e == 1) → winMem t p = Memory.writeAll (winAt s p) (winMem s p)
        (rd e 0x18 8) ((swapBytes (rd e 0xA 1) (padTo (dxLen e) d)).take (dxLen e)))) ∧
    ((dxRefused s e ≠ none ∨ m.val ≠ 0) → ∃ t, exec (.dxDescriptorEnd c d m) s = .next t ∧
      (∃ k ∈ (hqAt t q).jobs, k.pos = j.pos ∧ k.ended = j.ended + 1 ∧ k.bad = j.bad + 1 ∧ k.moved = j.moved) ∧
      counter t (paddr 20 c 4) = min (counter s (paddr 20 c 4) + 1) (2 ^ 32 - 1) ∧
      tfind t.host.lastBad c = some (j.pos + BitVec.ofNat 32 j.ended)) := by
  refine ⟨fun hr hm => ⟨_, rfl, ?_⟩, fun hr => ⟨_, rfl, ?_⟩⟩
  · rw [hm, dxDescriptorEnd_good hq hj hs hb he hr]
    have hu : Transfers s (setDxBytes c (BitVec.ofNat 32 (dxLen e)) (dxMove q j.pos e d (dxLen e) s)) :=
      (dxMove_transfers ..).trans (setDxBytes_transfers ..)
    obtain ⟨hpos, hend, hbad, hmoved, hgo, hdone⟩ := descriptorEnd_pos j (dxLen e) 0
    refine ⟨⟨_, dxEnd_job hj hu c 0, hpos, hend, hbad, hmoved, hgo, hdone⟩, dxEnd_good hu c, fun h0 p hp => ?_⟩
    rw [winMem_dxEnd]
    exact winMem_dxMove h0 hp q j.pos d (dxLen e) s
  · obtain ⟨st, u, hst, hu, ht⟩ := dxDescriptorEnd_bad hq hj hs hb he hr d
    obtain ⟨hpos, hend, hbad, hmoved, -, -⟩ := descriptorEnd_pos j (dxLen e) st
    rw [if_neg hst] at hbad hmoved
    rw [ht]
    exact ⟨⟨_, dxEnd_job hj hu c st, hpos, hend, hbad, hmoved⟩, dxEnd_bad hst hu c⟩

/-- Settles O54, clause by clause: the commands on queues, the fetch and the start, completion and acknowledgement of jobs,
received frames and events in buffers and queues, and the DMA engine.  The layouts of the QUEUE commands are log entry 31,
E_BUSY of disable and enable log entry 46, bad framing and the head slot log entry 47, and the order of the DMA checks log entry
48. -/
theorem queuesRunJobsAndTheEngineMovesBytes : Obligations.QueuesRunJobsAndTheEngineMovesBytes := by
  unfold Obligations.QueuesRunJobsAndTheEngineMovesBytes
  intro s
  refine ⟨fun r p q hp hq => ⟨fun x hr hx => queueCreate_spec hp hq hx hr, fun hl hlt x hx => ?_⟩, fun q x hx => ?_,
    fun h => congrArg _ (eventDeliver_idle h), fun e rest he hs => ?_, fun c => ?_⟩
  · have ha : argQueue r.payload = some q := hp ▸ hq ▸ argQueue_some hl (hq ▸ hlt)
    refine ⟨fun hr => queueDestroy_spec ha hx hr, fun hr => ⟨fun h1 => ?_, fun h h1 h8 hheld hc hn => ?_, fun h h1 h8 hn => ?_⟩,
      fun hr => queueEnable_spec ha hx hr, fun hr => queueQuery_spec ha hx hr⟩
    · exact ⟨_, rfl, runs_no hr fun m => bodyQueueDisable_busy (s := withSessions m s) ha (hx ▸ h1)⟩
    · exact queueDisable_spec ha hx hr h1 h8 hheld hc hn
    · exact queueDisable_takes ha hx hr h1 h8 hn
  · refine ⟨fun h => congrArg _ (queueFetchDone_idle (by rwa [hx] at h)), fun b hb hs hd => ⟨_, rfl, queueFetchDone_takes hx hb hs hd⟩,
      fun c d => ⟨fun h => congrArg _ (jobStart_idle hx h c d), ?_⟩, fun j hk ho h => congrArg _ (jobComplete_waits hx hk ho h),
      fun j c y hk ho hd hw hs hc hne hy h1 hy1 hall => ⟨fun z hfull hheld hh hz => ⟨_, rfl, ?_⟩, fun hfull => ⟨_, rfl, ?_⟩⟩,
      fun h => congrArg _ (completionAck_idle hx h), fun j rest hj h => congrArg _ (completionAck_waits hx hj h),
      fun j rest z hj hw ho hheld hs hexp hr ht hall hz => ⟨_, rfl, ?_⟩,
      fun h => congrArg _ (rxBufferWrite_idle hx h),
      fun k rest j y p z e hk hj hr hs hload hy hp he h0 hl hz => ⟨_, rfl, ?_⟩⟩
    · intro pos e rest n ok es j u he hf h1 hsub hs hc hm hes hj hu
      subst hes
      exact jobStart_spec hx he hf h1 hsub hs hc hm rfl hj (by rw [hu, hj]; rfl)
    · exact jobComplete_writes hx hk ho hd hw hs hc hne hy h1 hy1 hall hfull hheld hh hz
    · exact jobComplete_holds hx hk ho hd hw hs hc hne hy h1 hy1 hall hfull
    · exact completionAck_publishes hx hj hw ho hheld hs hexp hr ht hall hz
    · exact rxBufferWrite_spec hx hk hj hr hs hload hy hp he h0 hl hz
  · refine ⟨fun hr => ⟨_, rfl, eventDeliver_unheard he hs hr⟩, fun i hr hi => eventDeliver_frame_spec he hs hr hi,
      fun i q x hr hi hne hx hbit h1 h9 => ⟨fun hl => ?_, fun hl hh hz => ?_⟩⟩
    · exact eventDeliver_lost he hs hr hi hne hx hbit h1 h9 hl
    · exact eventDeliver_written he hs hr hi hne hx hbit h1 h9 hl hh hz
  · refine ⟨fun h d m => congrArg _ (dxDescriptorEnd_none h d m), fun h d m => congrArg _ (dxDescriptorEnd_disabled h d m),
      fun q j e d m hq hj hs hb he => dxDescriptorEnd_spec hq hj hs hb he, ⟨_, rfl, dxCtrlDisable_spec c s⟩⟩

end Sys2Proof.Machine
end
